-- ==== Sys2Proof/Word.lean ====
section
/-! DEFINITION. The word types of the EVZ7128: what its registers, memories and identifiers hold. -/

namespace Sys2Proof

/-- The content of a register. A register is 32 bits wide unless its map states 64 (R3); a 32-bit
register keeps bits 63:32 at zero. -/
abbrev Word := BitVec 64

/-- The value one 32-bit bus access carries (R3). -/
abbrev Word32 := BitVec 32

/-- One byte of a memory. -/
abbrev Byte := BitVec 8

/-- A Nimade general register, and a Nimade time (R6). -/
abbrev Word64 := BitVec 64

/-- One word of a Tweed memory or one Tweed vector register: eight 16-bit or four 32-bit lanes. -/
abbrev Word128 := BitVec 128

end Sys2Proof
end

