-- ==== Sys2Proof/Machine/Tables.lean ====
section
/-! DEFINITION. Sparse tables in one canonical form: what State holds for anything that is indexed
(registers, inputs, contexts, memories). A key the list does not name reads as its default. -/

namespace Sys2Proof.Machine

/-- A sparse table: pairs of a key and a value. In canonical form the keys strictly rise and no
entry equals the default of its key, so that equal tables are equal lists. -/
abbrev Tbl (α : Type) := List (Nat × α)

/-- The value at a key; `d` gives what an unlisted key reads as. -/
def Tbl.get {α : Type} (d : Nat → α) : Tbl α → Nat → α
  | [], k => d k
  | e :: t, k => if e.1 = k then e.2 else Tbl.get d t k

/-- Put an entry at its place in the rising order of keys. -/
def Tbl.insert {α : Type} (k : Nat) (v : α) : Tbl α → Tbl α
  | [] => [(k, v)]
  | e :: t => if k < e.1 then (k, v) :: e :: t else e :: Tbl.insert k v t

/-- Drop every entry of a key. -/
def Tbl.erase {α : Type} (k : Nat) (t : Tbl α) : Tbl α := t.filter fun e => e.1 ≠ k

/-- Set the value at a key, keeping the canonical form: writing the default removes the entry. -/
def Tbl.set {α : Type} [DecidableEq α] (d : Nat → α) (k : Nat) (v : α) (t : Tbl α) : Tbl α :=
  if v = d k then Tbl.erase k t else Tbl.insert k v (Tbl.erase k t)

/-- Change every listed value, keeping the canonical form. -/
def Tbl.mapVals {α : Type} [DecidableEq α] (d : Nat → α) (f : Nat → α → α) (t : Tbl α) : Tbl α :=
  t.foldl (fun a e => Tbl.set d e.1 (f e.1 e.2) a) []

/-- The canonical form: keys strictly rising, no entry at its default. -/
def Tbl.wf {α : Type} [DecidableEq α] (d : Nat → α) : Tbl α → Bool
  | [] => true
  | [e] => decide (e.2 ≠ d e.1)
  | e :: f :: t => decide (e.2 ≠ d e.1) && decide (e.1 < f.1) && Tbl.wf d (f :: t)

end Sys2Proof.Machine
end

