-- ==== Sys2Proof/Machine/Regs.lean ====
section
/-! DEFINITION. The register maps of the part: every register by the spec's own name, its block, offset,
array dimensions, width, access code, reset value and the bits a write may set (Tables 02.9 to 18.13),
the fields the rules name, and the interrupt causes. -/

namespace Sys2Proof.Machine

/-- The blocks with registers, in the order of GLB_INT_SUM (R622). -/
inductive Blk where
  | GLB | BOOT | TWL | ING | EGR | NIM | TWD | ASP | VMP | LST | NTM | WLT | NPT | RSL | AWL | SET | UPD | INS
  deriving DecidableEq, Repr, Inhabited

/-- The access codes (Table 00.2, R5). -/
inductive Acc where
  | RO | RW | W1C | WO | RC | RWB
  deriving DecidableEq, Repr, Inhabited

/-- Every register of the part by the spec's name; arrays are one constructor with an index. The
memory windows (TWL_CAL, TWD_IMEM, TWD_XMEM, TWD_YMEM, TWD_XPEEK, TWD_YPEEK, VMP_LAYER, VMP_LAYER_ACT,
VMP_ILUT, VMP_OLUT) are memories of their blocks, not registers. -/
inductive Reg where
  -- Table 18.11, R642
  | GLB_ID | GLB_CHIP | GLB_SERIAL | GLB_ROLE | GLB_CTRL | GLB_INT_SUM | GLB_INT_VEC | GLB_INT_STAT
  | GLB_INT_EN | GLB_ALERT_STAT | GLB_ALERT_EN | GLB_TEMP | GLB_TEMP_CFG | GLB_TEMP_MAX | GLB_PCIE_STAT
  | GLB_PCIE_ERR | GLB_BAR2_MISS | GLB_SCRATCH
  -- Table 18.12, R643
  | BOOT_PROT | BOOT_STAGE | BOOT_CAUSE | BOOT_FAIL | BOOT_WDOG | BOOT_WDOG_KICK | BOOT_WARMS | BOOT_IMG_VER
  | BOOT_TIME | BOOT_KEYTAB_DIG | BOOT_FUSE_REP
  -- Table 03.10, R138
  | TWL_CAPS | TWL_CTRL | TWL_STATUS | TWL_CAL_LIMIT | TWL_MARGIN | TWL_LK_LIMIT | TWL_LATENCY | TWL_INT_STAT
  | TWL_INT_EN | TWL_CW_CORR | TWL_CW_UNCORR | TWL_BAD_HDR | TWL_HOP_DROP | TWL_NO_ROUTE | TWL_ADMIT_REFUSED
  | TWL_KILLED | TWL_DIR_INDEX | TWL_DIR_DATA | TWL_DIR_CMD | TWL_DIR_RESULT | TWL_DIR_ACK_TO | TWL_DIR_COUNT
  | TWL_DIR_OWN | TWL_DIR_OVF | TWL_DIR_SEQ | TWL_DIR_LAG | TWL_DIR_CONFLICT | TWL_RSET_USED | TWL_V6PFX
  | TWL_V6SRC | TWL_SPARE_MAP | TWL_SWAP_CTRL | TWL_SWAP_STAT | TWL_SP_STAT | TWL_SP_RES | TWL_SP_EGR_RES
  | TWL_SP_FREE | TWL_SP_AQ_ACTIVE | TWL_SP_FAIR_VIOL | TWL_SP_CELLS_IN | TWL_SP_CELLS_OUT | TWL_SP_SEQ_GAP
  | TWL_LK_STAT | TWL_LK_RES | TWL_LK_SHED | TWL_LK_CW_CORR | TWL_LK_FWD | TWL_LK_TX_CELLS | TWL_LK_RX_CELLS
  | TWL_AQ_STAT | TWL_ST_CFG | TWL_ST_CELLS
  -- Table 02.9, R85
  | ING_CAPS | ING_CTRL | ING_STATUS | ING_POOL_PAGES | ING_POOL_USED | ING_POOL_LOW | ING_INT_STAT
  | ING_INT_EN | ING_UNMATCHED | ING_UNBOUND | ING_LOSS_SUM | ING_IN_CFG | ING_IN_SYNC | ING_IN_STAT
  | ING_IN_FMT | ING_IN_ALLOC | ING_IN_PHASE | ING_IN_SLIP | ING_IN_BADFRM | ING_IN_LOSSCNT | ING_SDI_CFG
  | ING_SDI_RATE | ING_SDI_352 | ING_SDI_CRC | ING_SDI_ANCDROP | ING_SDI_AUDGRP | ING_PKT_VID | ING_PKT_PD
  | ING_PKT_PDMEAS | ING_PKT_STAT | ING_PKT_RXA | ING_PKT_RXB | ING_PKT_DUP | ING_PKT_LATE | ING_AFL_CFG
  | ING_AFL_FMT | ING_AFL_OFF | ING_AFL_STAT | ING_ANF_CFG | ING_ANF_STAT
  -- Table 05.9, R228
  | EGR_CAPS | EGR_CTRL | EGR_STATUS | EGR_TAKE_CFG | EGR_INT_STAT | EGR_INT_EN | EGR_HEALTH_CFG
  | EGR_HEALTH_CTRL | EGR_HEALTH_STAT | EGR_HEALTH_MASK_A | EGR_HEALTH_MASK_B | EGR_JOIN_TIMING | EGR_OTD_CFG
  | EGR_OTD_PHASE | EGR_OTD_FCNT | EGR_OTD_STAT | EGR_PAT_CFG | EGR_PAT_COLOR | EGR_OUT_CFG | EGR_OUT_TAKE
  | EGR_OUT_SDI | EGR_OUT_AUD | EGR_OUT_STAT | EGR_OUT_GAP | EGR_OUT_ANCDROP | EGR_OUT_IDENT | EGR_VSND_CFG
  | EGR_VSND_SRC | EGR_VSND_PORT | EGR_VSND_STAT | EGR_VSND_TXA | EGR_VSND_TXB | EGR_VSND_LATE | EGR_VSND_MISS
  | EGR_ASND_CFG | EGR_ASND_FMT | EGR_ASND_PORT | EGR_ASND_TX | EGR_XSND_CFG | EGR_XSND_PORT | EGR_XSND_TX
  | EGR_JOIN_ENT | EGR_JOIN_STAT | EGR_JOIN_REP
  -- Table 06.14, R280
  | NIM_CAPS | NIM_CTRL | NIM_STATUS | NIM_INT_STAT | NIM_INT_EN | NIM_EXEC_CFG | NIM_JRN_CFG | NIM_PAIR_CFG
  | NIM_PAIR_STAT | NIM_JRN_FREE | NIM_JRN_OPEN | NIM_REPLAY | NIM_ACCEPTED | NIM_COMPLETED | NIM_REFUSED
  | NIM_DUP | NIM_CQ_LOST | NIM_TRAP_LAST | NIM_AFF_MAP | NIM_CORE_STAT | NIM_CORE_TRAPS | NIM_SQ_BASE
  | NIM_CQ_BASE | NIM_Q_CFG | NIM_SQ_TAIL | NIM_SQ_HEAD | NIM_CQ_HEAD | NIM_CQ_TAIL | NIM_Q_STAT | NIM_Q_HWM
  | NIM_Q_REFUSED | NIM_SVC_CFG | NIM_SVC_STAT | NIM_SVC_SEQ | NIM_SVC_TRAP
  -- Table 08.16, R355
  | TWD_CAPS | TWD_CTRL | TWD_STATUS | TWD_IN_RES | TWD_OUT_RES | TWD_INT_STAT | TWD_INT_EN | TWD_MEM_CORR
  | TWD_PLACE | TWD_FOLLOW | TWD_BTX_CFG | TWD_BTX_FLOW | TWD_BTX_CELLS | TWD_BRX_CFG | TWD_BRX_STAT
  | TWD_CORE_CFG | TWD_CORE_RUN | TWD_CORE_AT | TWD_CORE_STAT | TWD_CORE_FLAGS | TWD_CORE_CYC
  | TWD_CORE_CYCMAX | TWD_CORE_OVR | TWD_CORE_UNDER | TWD_CORE_TRAP | TWD_CORE_BLK | TWD_CORE_LATE
  -- Table 09.5, R376
  | ASP_CAPS | ASP_CTRL | ASP_STATUS | ASP_INT_STAT | ASP_INT_EN | ASP_INT_SRC | ASP_TX_CFG | ASP_TX_FMT
  | ASP_TX_MASK | ASP_TX_ACT | ASP_TX_STAT | ASP_TX_FAULTS | ASP_TX_SLIP | ASP_TX_PERIOD | ASP_TX_KILLED
  | ASP_RX_CFG | ASP_RX_FMT | ASP_RX_MASK | ASP_RX_ACT | ASP_RX_STAT | ASP_RX_FAULTS | ASP_RX_SLIP
  | ASP_RX_PERIOD | ASP_RX_KILLED
  -- Table 10.7, R404
  | VMP_CAPS | VMP_CTRL | VMP_STATUS | VMP_INT_STAT | VMP_INT_EN | VMP_BUDGET | VMP_PIPE_CFG | VMP_PIPE_BG
  | VMP_PIPE_STAT | VMP_PIPE_READ | VMP_PIPE_APPLIED | VMP_PIPE_PEND | VMP_PIPE_NRDY | VMP_PIPE_LATE
  | VMP_PIPE_REPL | VMP_PIPE_HELD | VMP_PIPE_LBFAIL | VMP_LAYER_STAT | VMP_SURF_CFG | VMP_SURF_SIZE
  | VMP_SURF_PITCH | VMP_SURF_GEN | VMP_SURF_USE
  -- Table 11.7, R438
  | LST_CAPS | LST_CTRL | LST_STATUS | LST_VALID | LST_QUAL | LST_INT_STAT | LST_INT_EN | LST_CFG | LST_SLEW
  | LST_HOLD_CFG | LST_HOLD_LIM | LST_FREQ | LST_HOLD_FREQ | LST_STEER | LST_STEER_RATE | LST_PHASE_ERR
  | LST_SLEW_LEFT | LST_HOLD_STAT | LST_AGE | LST_AGE_PRED | LST_SWITCHES | LST_TAG | LST_REF_CFG
  | LST_REF_WTR | LST_REF_STAT | LST_REF_FOFF | LST_REF_LOSS | LST_REF_PEER | LST_TB_STAT
  -- Table 12.6, R472
  | NTM_CAPS | NTM_CTRL | NTM_STATUS | NTM_INT_STAT | NTM_INT_EN | NTM_TRG_SRC | NTM_CLOCKID | NTM_TB_CFG
  | NTM_TB_STAT | NTM_TB_NS | NTM_TB_FRAC | NTM_TB_SEC | NTM_TB_NIM | NTM_TB_ADJ_SEC | NTM_TB_ADJ_NS
  | NTM_TB_ADJ | NTM_TB_ALIGN_OFF | NTM_TB_STEPS | NTM_SRV_CFG | NTM_SRV_STAT | NTM_SRV_OFFSET | NTM_SRV_FEED
  | NTM_SRV_SAMPLES | NTM_SRV_REJECT | NTM_INST_CFG | NTM_INST_INTV | NTM_INST_DS0 | NTM_INST_DS1
  | NTM_INST_GMID | NTM_INST_GMDS | NTM_INST_GMVAR | NTM_INST_TPROP | NTM_PHY_TXLAT | NTM_PHY_RXLAT
  | NTM_PHY_TXABORT | NTM_PORT_CFG | NTM_PORT_ASYM | NTM_PORT_PARENT | NTM_PORT_STAT | NTM_PORT_MPD
  | NTM_PORT_RXMSG | NTM_PORT_TXMSG | NTM_TRG_CFG | NTM_TRG_STAT | NTM_TRG_T | NTM_TRG_PNUM | NTM_TRG_PDEN
  | NTM_TRG_LATE | NTM_TRG_MISSED | NTM_CAP_CFG | NTM_CAP_STAT | NTM_CAP_NS | NTM_CAP_HI | NTM_CAP_OVF
  -- Table 13.5, R500
  | WLT_CAPS | WLT_INT_STAT | WLT_INT_EN | WLT_LK_SRC | WLT_QUAL | WLT_EYE_MIN | WLT_NL_CLKMOVE | WLT_LANE_CFG
  | WLT_LANE_TXEQ | WLT_LANE_CTRL | WLT_LANE_STAT | WLT_LANE_EYE | WLT_LANE_DFE | WLT_LANE_ERR
  | WLT_LANE_FEC_UNC | WLT_LANE_LOL | WLT_LANE_PRBS | WLT_LANE_PRBS_ERR | WLT_LK_CFG | WLT_LK_CTRL
  | WLT_LK_STAT | WLT_LK_PEER | WLT_LK_BRINGUP | WLT_LK_DOWNS | WLT_LK_DEGRADES | WLT_LK_REPLAY
  -- Table 14.6, R531
  | NPT_CAPS | NPT_CTRL | NPT_STATUS | NPT_INT_STAT | NPT_INT_EN | NPT_LINK | NPT_MAC_BASE | NPT_WAKE_PAT
  | NPT_STEER_MISS | NPT_STEER_DROP | NPT_GRP_CFG | NPT_PORT_CFG | NPT_PORT_PRIO | NPT_PORT_IP4 | NPT_PORT_IP6
  | NPT_PORT_EEE | NPT_PORT_STAT | NPT_RX_FRAMES | NPT_RX_BYTES | NPT_TX_FRAMES | NPT_TX_BYTES | NPT_RX_FCS
  | NPT_RX_LEN | NPT_RX_TAG | NPT_RX_ADDR | NPT_RX_CSUM | NPT_PAUSE_RX | NPT_PAUSE_IGN | NPT_LINK_DOWNS
  | NPT_LPI_ENTRIES | NPT_TX_DISCARD | NPT_STEER | NPT_RXR_BASE | NPT_RXR_CFG | NPT_RXR_TAIL | NPT_RXR_HEAD
  | NPT_RXR_DROP | NPT_RXR_FRAMES | NPT_TXR_BASE | NPT_TXR_CFG | NPT_TXR_TAIL | NPT_TXR_HEAD | NPT_EP_CFG
  | NPT_EP_MAC | NPT_EP_MACHI | NPT_EP_DPORT | NPT_EP_ADDR
  -- Table 15.8, R559
  | RSL_CAPS | RSL_CTRL | RSL_STATUS | RSL_INT_STAT | RSL_INT_EN | RSL_XCHK_CFG | RSL_XCHK_LAST | RSL_XCHK_DIV
  | RSL_XCHK_EXPL | RSL_XCHK_MISS | RSL_PAIR_CFG | RSL_PAIR_STAT | RSL_FENCE_CTRL | RSL_FENCE_STAT
  | RSL_SPARE_CFG | RSL_SPARE_LIST | RSL_SPARE_CTRL | RSL_SPARE_STAT | RSL_UNIT_CTRL | RSL_UNIT_STAT
  | RSL_UNIT_CORR | RSL_UNIT_SWAPS | RSL_PHYS_STAT | RSL_REPAIR_USED | RSL_SRAM_REP | RSL_HBM_PPR
  | RSL_HBM_RETIRED | RSL_AUTO | RSL_AVS_CFG | RSL_AVS_STAT | RSL_MRAM_SCRUB | RSL_FLASH_WEAR | RSL_DRAIN_OVR
  -- Table 16.14, R598
  | AWL_CAPS | AWL_CTRL | AWL_STATUS | AWL_CFG | AWL_INT_STAT | AWL_INT_EN | AWL_SEQ_NEXT | AWL_OLDEST
  | AWL_COUNT | AWL_HEAD | AWL_EPOCH | AWL_LOST | AWL_OVERWRITTEN | AWL_MERGED | AWL_RD_IDX | AWL_RD_STAT
  | AWL_RD_DATA | AWL_CLR_NONCE | AWL_CLR_MAC | AWL_CLR_CTRL | AWL_CLR_RESULT
  -- Table 16.16, R600
  | SET_CAPS | SET_CTRL | SET_STATUS | SET_CFG | SET_INT_STAT | SET_INT_EN | SET_SNAP_SEQ | SET_SNAP_OPSEC
  | SET_SNAP_LEN | SET_SNAP_RESULT | SET_PAIR_FMT | SET_DELTA_USED | SET_DELTA_DISCARD | SET_OPSEC
  | SET_PCYCLES | SET_DEMAND_LEFT | SET_FLOOR | SET_SECTORS | SET_SNAPS
  -- Table 17.6, R615
  | UPD_CAPS | UPD_CTRL | UPD_STATUS | UPD_CFG | UPD_INT_STAT | UPD_INT_EN | UPD_LOCK | UPD_LAST_STATUS
  | UPD_NEXT | UPD_RUN_VER | UPD_CONFIRM_LEFT | UPD_SESSION | UPD_SLOT_STAT | UPD_SLOT_VER | UPD_SLOT_FLOOR
  | UPD_SLOT_SEQ | UPD_SVC_IP4 | UPD_SVC_PORT | UPD_PKT_RX | UPD_PKT_BUSY | UPD_AUTH_FAILS | UPD_MC_STAT
  -- Table 18.13, R644
  | INS_CAPS | INS_STATE | INS_OPSEC | INS_PCYCLES | INS_WAKE_SRC | INS_INT_STAT | INS_INT_EN | INS_CLK_REQ
  | INS_CLK_RUN | INS_CLK_CFG | INS_CLK_FORCE | INS_PLL_STARTS | INS_PLL_FAIL | INS_RET_STAT | INS_XTAL
  | INS_PWR | INS_PMBUS_CFG | INS_RAIL
  deriving DecidableEq, Repr, Inhabited

/-- What the register maps say of a register. -/
structure RegInfo where
  /-- The block whose map holds it. -/
  blk : Blk
  /-- Its offset from the block's base (element 0 of an array). -/
  off : Nat
  /-- Whether its map states 64 bits (R3). -/
  wide : Bool
  /-- Its access code. -/
  acc : Acc
  /-- The array dimensions, outermost first: count and stride. -/
  dims : List (Nat × Nat)
  /-- The reset value, where it does not depend on the index. -/
  reset : Nat
  /-- The defined bits that a write sets (RW, RWB), clears by writing 1 (W1C) or takes (WO). -/
  mask : Nat
  deriving DecidableEq, Repr, Inhabited

/-- The register maps, row by row. -/
def Reg.info : Reg → RegInfo
  | .ING_CAPS => ⟨.ING, 0, false, .RO, [], 0x1000080, 0⟩
  | .ING_CTRL => ⟨.ING, 4, false, .RW, [], 0, 1⟩
  | .ING_STATUS => ⟨.ING, 8, false, .RO, [], 0, 0⟩
  | .ING_POOL_PAGES => ⟨.ING, 0x10, false, .RW, [], 0x6000, 0xffffffff⟩
  | .ING_POOL_USED => ⟨.ING, 0x14, false, .RO, [], 0, 0⟩
  | .ING_POOL_LOW => ⟨.ING, 0x18, false, .RW, [], 0x400, 0xffffffff⟩
  | .ING_INT_STAT => ⟨.ING, 0x20, false, .W1C, [], 0, 0x3f⟩
  | .ING_INT_EN => ⟨.ING, 0x24, false, .RW, [], 0, 0x3f⟩
  | .ING_UNMATCHED => ⟨.ING, 0x40, false, .RC, [(8, 4)], 0, 0⟩
  | .ING_UNBOUND => ⟨.ING, 0x60, false, .RC, [(8, 4)], 0, 0⟩
  | .ING_LOSS_SUM => ⟨.ING, 0x100, false, .RO, [(12, 4)], 0, 0⟩
  | .ING_IN_CFG => ⟨.ING, 0x10000, false, .RW, [(384, 0x40)], 0, 0xb7ff8000⟩
  | .ING_IN_SYNC => ⟨.ING, 0x10004, false, .RW, [(384, 0x40)], 0x28840, 0xfffffff0⟩
  | .ING_IN_STAT => ⟨.ING, 0x10008, false, .RO, [(384, 0x40)], 0, 0⟩
  | .ING_IN_FMT => ⟨.ING, 0x1000c, false, .RO, [(384, 0x40)], 0, 0⟩
  | .ING_IN_ALLOC => ⟨.ING, 0x10010, false, .RO, [(384, 0x40)], 0, 0⟩
  | .ING_IN_PHASE => ⟨.ING, 0x10014, false, .RO, [(384, 0x40)], 0, 0⟩
  | .ING_IN_SLIP => ⟨.ING, 0x10018, false, .RC, [(384, 0x40)], 0, 0⟩
  | .ING_IN_BADFRM => ⟨.ING, 0x1001c, false, .RC, [(384, 0x40)], 0, 0⟩
  | .ING_IN_LOSSCNT => ⟨.ING, 0x10020, false, .RC, [(384, 0x40)], 0, 0⟩
  | .ING_SDI_CFG => ⟨.ING, 0x20000, false, .RW, [(128, 0x20)], 0x6000000, 0xfe000000⟩
  | .ING_SDI_RATE => ⟨.ING, 0x20004, false, .RO, [(128, 0x20)], 0, 0⟩
  | .ING_SDI_352 => ⟨.ING, 0x20008, false, .RO, [(128, 0x20)], 0, 0⟩
  | .ING_SDI_CRC => ⟨.ING, 0x2000c, false, .RC, [(128, 0x20)], 0, 0⟩
  | .ING_SDI_ANCDROP => ⟨.ING, 0x20010, false, .RC, [(128, 0x20)], 0, 0⟩
  | .ING_SDI_AUDGRP => ⟨.ING, 0x20014, false, .RO, [(128, 0x20)], 0, 0⟩
  | .ING_PKT_VID => ⟨.ING, 0x30000, false, .RW, [(256, 0x40)], 0, 0xe007ffff⟩
  | .ING_PKT_PD => ⟨.ING, 0x30004, false, .RW, [(256, 0x40)], 0x2710, 0xffff⟩
  | .ING_PKT_PDMEAS => ⟨.ING, 0x30008, false, .RO, [(256, 0x40)], 0, 0⟩
  | .ING_PKT_STAT => ⟨.ING, 0x3000c, false, .RO, [(256, 0x40)], 0, 0⟩
  | .ING_PKT_RXA => ⟨.ING, 0x30010, false, .RC, [(256, 0x40)], 0, 0⟩
  | .ING_PKT_RXB => ⟨.ING, 0x30014, false, .RC, [(256, 0x40)], 0, 0⟩
  | .ING_PKT_DUP => ⟨.ING, 0x30018, false, .RC, [(256, 0x40)], 0, 0⟩
  | .ING_PKT_LATE => ⟨.ING, 0x3001c, false, .RC, [(256, 0x40)], 0, 0⟩
  | .ING_AFL_CFG => ⟨.ING, 0x40000, false, .RW, [(1024, 0x10)], 0x3fe00000, 0xffe7ffff⟩
  | .ING_AFL_FMT => ⟨.ING, 0x40004, false, .RW, [(1024, 0x10)], 2, 0x1fff⟩
  | .ING_AFL_OFF => ⟨.ING, 0x40008, false, .RW, [(1024, 0x10)], 0x7d0, 0xffff⟩
  | .ING_AFL_STAT => ⟨.ING, 0x4000c, false, .RC, [(1024, 0x10)], 0, 0⟩
  | .ING_ANF_CFG => ⟨.ING, 0x50000, false, .RW, [(512, 0x10)], 0, 0xbfe7ffff⟩
  | .ING_ANF_STAT => ⟨.ING, 0x50004, false, .RC, [(512, 0x10)], 0, 0⟩
  | .TWL_CAPS => ⟨.TWL, 0, false, .RO, [], 0xb8a81008, 0⟩
  | .TWL_CTRL => ⟨.TWL, 4, false, .RW, [], 0, 1⟩
  | .TWL_STATUS => ⟨.TWL, 8, false, .RO, [], 0, 0⟩
  | .TWL_CAL_LIMIT => ⟨.TWL, 0x10, false, .RW, [], 0xe000800, 0xfff0fff⟩
  | .TWL_MARGIN => ⟨.TWL, 0x14, false, .RW, [], 2, 0xf⟩
  | .TWL_LK_LIMIT => ⟨.TWL, 0x18, false, .RW, [], 0x3d38, 0x3f3f⟩
  | .TWL_LATENCY => ⟨.TWL, 0x1c, false, .RO, [], 0x18, 0⟩
  | .TWL_INT_STAT => ⟨.TWL, 0x20, false, .W1C, [], 0, 0x7ff⟩
  | .TWL_INT_EN => ⟨.TWL, 0x24, false, .RW, [], 0, 0x7ff⟩
  | .TWL_CW_CORR => ⟨.TWL, 0x30, false, .RC, [], 0, 0⟩
  | .TWL_CW_UNCORR => ⟨.TWL, 0x34, false, .RC, [], 0, 0⟩
  | .TWL_BAD_HDR => ⟨.TWL, 0x38, false, .RC, [], 0, 0⟩
  | .TWL_HOP_DROP => ⟨.TWL, 0x3c, false, .RC, [], 0, 0⟩
  | .TWL_NO_ROUTE => ⟨.TWL, 0x40, false, .RC, [], 0, 0⟩
  | .TWL_ADMIT_REFUSED => ⟨.TWL, 0x44, false, .RC, [], 0, 0⟩
  | .TWL_KILLED => ⟨.TWL, 0x48, false, .RC, [], 0, 0⟩
  | .TWL_DIR_INDEX => ⟨.TWL, 0x100, false, .RW, [], 0, 0x7ffff⟩
  | .TWL_DIR_DATA => ⟨.TWL, 0x104, false, .RW, [(4, 4)], 0, 0xffffffff⟩
  | .TWL_DIR_CMD => ⟨.TWL, 0x114, false, .WO, [], 0, 3⟩
  | .TWL_DIR_RESULT => ⟨.TWL, 0x118, false, .RO, [], 0, 0⟩
  | .TWL_DIR_ACK_TO => ⟨.TWL, 0x11c, false, .RW, [], 0x1f4, 0xffffffff⟩
  | .TWL_DIR_COUNT => ⟨.TWL, 0x120, false, .RO, [], 0, 0⟩
  | .TWL_DIR_OWN => ⟨.TWL, 0x124, false, .RO, [], 0, 0⟩
  | .TWL_DIR_OVF => ⟨.TWL, 0x128, false, .RO, [], 0, 0⟩
  | .TWL_DIR_SEQ => ⟨.TWL, 0x12c, false, .RO, [], 0, 0⟩
  | .TWL_DIR_LAG => ⟨.TWL, 0x130, false, .RO, [], 0, 0⟩
  | .TWL_DIR_CONFLICT => ⟨.TWL, 0x134, false, .RC, [], 0, 0⟩
  | .TWL_RSET_USED => ⟨.TWL, 0x138, false, .RO, [], 0, 0⟩
  | .TWL_V6PFX => ⟨.TWL, 0x140, false, .RW, [(3, 4)], 0, 0xffffffff⟩
  | .TWL_V6SRC => ⟨.TWL, 0x150, false, .RW, [(3, 4)], 0, 0xffffffff⟩
  | .TWL_SPARE_MAP => ⟨.TWL, 0x200, false, .RO, [(8, 4)], 0x1f1f, 0⟩
  | .TWL_SWAP_CTRL => ⟨.TWL, 0x220, false, .RW, [], 0, 0xc0ff0001⟩
  | .TWL_SWAP_STAT => ⟨.TWL, 0x224, false, .RO, [], 0, 0⟩
  | .TWL_SP_STAT => ⟨.TWL, 0x10000, false, .RO, [(168, 0x40)], 0, 0⟩
  | .TWL_SP_RES => ⟨.TWL, 0x10004, false, .RO, [(168, 0x40)], 0, 0⟩
  | .TWL_SP_EGR_RES => ⟨.TWL, 0x10008, false, .RO, [(168, 0x40)], 0, 0⟩
  | .TWL_SP_FREE => ⟨.TWL, 0x1000c, false, .RO, [(168, 0x40)], 0x1000, 0⟩
  | .TWL_SP_AQ_ACTIVE => ⟨.TWL, 0x10010, false, .RO, [(168, 0x40)], 0, 0⟩
  | .TWL_SP_FAIR_VIOL => ⟨.TWL, 0x10014, false, .RC, [(168, 0x40)], 0, 0⟩
  | .TWL_SP_CELLS_IN => ⟨.TWL, 0x10018, true, .RC, [(168, 0x40)], 0, 0⟩
  | .TWL_SP_CELLS_OUT => ⟨.TWL, 0x10020, true, .RC, [(168, 0x40)], 0, 0⟩
  | .TWL_SP_SEQ_GAP => ⟨.TWL, 0x10028, false, .RC, [(168, 0x40)], 0, 0⟩
  | .TWL_LK_STAT => ⟨.TWL, 0x20000, false, .RO, [(16, 0x40)], 0, 0⟩
  | .TWL_LK_RES => ⟨.TWL, 0x20004, false, .RO, [(16, 0x40)], 0, 0⟩
  | .TWL_LK_SHED => ⟨.TWL, 0x20008, false, .RC, [(16, 0x40)], 0, 0⟩
  | .TWL_LK_CW_CORR => ⟨.TWL, 0x2000c, false, .RC, [(16, 0x40)], 0, 0⟩
  | .TWL_LK_FWD => ⟨.TWL, 0x20010, true, .RC, [(16, 0x40)], 0, 0⟩
  | .TWL_LK_TX_CELLS => ⟨.TWL, 0x20018, true, .RC, [(16, 0x40)], 0, 0⟩
  | .TWL_LK_RX_CELLS => ⟨.TWL, 0x20020, true, .RC, [(16, 0x40)], 0, 0⟩
  | .TWL_AQ_STAT => ⟨.TWL, 0x400000, false, .RO, [(168, 0x400), (64, 0x10)], 0, 0⟩
  | .TWL_ST_CFG => ⟨.TWL, 0x800000, false, .RO, [(168, 0x2000), (256, 0x20)], 0, 0⟩
  | .TWL_ST_CELLS => ⟨.TWL, 0x800004, false, .RC, [(168, 0x2000), (256, 0x20)], 0, 0⟩
  | .EGR_CAPS => ⟨.EGR, 0, false, .RO, [], 0x1000080, 0⟩
  | .EGR_CTRL => ⟨.EGR, 4, false, .RW, [], 0, 1⟩
  | .EGR_STATUS => ⟨.EGR, 8, false, .RO, [], 0, 0⟩
  | .EGR_TAKE_CFG => ⟨.EGR, 0xc, false, .RW, [], 0x3e80064, 0xffff00ff⟩
  | .EGR_INT_STAT => ⟨.EGR, 0x10, false, .W1C, [], 0, 0x7f⟩
  | .EGR_INT_EN => ⟨.EGR, 0x14, false, .RW, [], 0, 0x7f⟩
  | .EGR_HEALTH_CFG => ⟨.EGR, 0x20, false, .RW, [], 0x1f4, 0x7ffff⟩
  | .EGR_HEALTH_CTRL => ⟨.EGR, 0x24, false, .RW, [], 0, 0xc0000000⟩
  | .EGR_HEALTH_STAT => ⟨.EGR, 0x28, false, .RO, [], 0, 0⟩
  | .EGR_HEALTH_MASK_A => ⟨.EGR, 0x30, false, .RW, [(4, 4)], 0xffffffff, 0xffffffff⟩
  | .EGR_HEALTH_MASK_B => ⟨.EGR, 0x40, false, .RW, [(4, 4)], 0, 0xffffffff⟩
  | .EGR_JOIN_TIMING => ⟨.EGR, 0x60, false, .RW, [], 0x3e80002, 0xffff000f⟩
  | .EGR_OTD_CFG => ⟨.EGR, 0x100, false, .RW, [(8, 0x10)], 0, 0xf0ff0000⟩
  | .EGR_OTD_PHASE => ⟨.EGR, 0x104, false, .RW, [(8, 0x10)], 0, 0xffffffff⟩
  | .EGR_OTD_FCNT => ⟨.EGR, 0x108, false, .RO, [(8, 0x10)], 0, 0⟩
  | .EGR_OTD_STAT => ⟨.EGR, 0x10c, false, .RO, [(8, 0x10)], 0, 0⟩
  | .EGR_PAT_CFG => ⟨.EGR, 0x200, false, .RW, [(16, 0x10)], 0, 0xfc000007⟩
  | .EGR_PAT_COLOR => ⟨.EGR, 0x204, false, .RW, [(16, 0x10)], 0x4080200, 0x3fffffff⟩
  | .EGR_OUT_CFG => ⟨.EGR, 0x10000, false, .RW, [(128, 0x80)], 0x20400000, 0xbfffe000⟩
  | .EGR_OUT_TAKE => ⟨.EGR, 0x10004, false, .RW, [(128, 0x80)], 0x7ffff, 0x80000000⟩
  | .EGR_OUT_SDI => ⟨.EGR, 0x10008, false, .RW, [(128, 0x80)], 0x30000000, 0xf0000000⟩
  | .EGR_OUT_AUD => ⟨.EGR, 0x1000c, false, .RW, [(128, 0x80)], 0x50000000, 0xff001fff⟩
  | .EGR_OUT_STAT => ⟨.EGR, 0x10010, false, .RO, [(128, 0x80)], 0, 0⟩
  | .EGR_OUT_GAP => ⟨.EGR, 0x10014, false, .RC, [(128, 0x80)], 0, 0⟩
  | .EGR_OUT_ANCDROP => ⟨.EGR, 0x10018, false, .RC, [(128, 0x80)], 0, 0⟩
  | .EGR_OUT_IDENT => ⟨.EGR, 0x10020, false, .RW, [(128, 0x80), (8, 4)], 0, 0xffffffff⟩
  | .EGR_VSND_CFG => ⟨.EGR, 0x20000, false, .RW, [(256, 0x40)], 0, 0xffffffff⟩
  | .EGR_VSND_SRC => ⟨.EGR, 0x20004, false, .RW, [(256, 0x40)], 0x7ffff, 0x7ffff⟩
  | .EGR_VSND_PORT => ⟨.EGR, 0x20008, false, .RW, [(256, 0x40)], 0x88960000, 0xfcffff1f⟩
  | .EGR_VSND_STAT => ⟨.EGR, 0x2000c, false, .RO, [(256, 0x40)], 0, 0⟩
  | .EGR_VSND_TXA => ⟨.EGR, 0x20010, false, .RC, [(256, 0x40)], 0, 0⟩
  | .EGR_VSND_TXB => ⟨.EGR, 0x20014, false, .RC, [(256, 0x40)], 0, 0⟩
  | .EGR_VSND_LATE => ⟨.EGR, 0x20018, false, .RC, [(256, 0x40)], 0, 0⟩
  | .EGR_VSND_MISS => ⟨.EGR, 0x2001c, false, .RC, [(256, 0x40)], 0, 0⟩
  | .EGR_ASND_CFG => ⟨.EGR, 0x30000, false, .RW, [(1024, 0x10)], 0, 0xfff7ffff⟩
  | .EGR_ASND_FMT => ⟨.EGR, 0x30004, false, .RW, [(1024, 0x10)], 0x100000, 0xfff81fff⟩
  | .EGR_ASND_PORT => ⟨.EGR, 0x30008, false, .RW, [(1024, 0x10)], 0xb8000000, 0xfc001f1f⟩
  | .EGR_ASND_TX => ⟨.EGR, 0x3000c, false, .RC, [(1024, 0x10)], 0, 0⟩
  | .EGR_XSND_CFG => ⟨.EGR, 0x40000, false, .RW, [(512, 0x10)], 0, 0xf7f7ffff⟩
  | .EGR_XSND_PORT => ⟨.EGR, 0x40004, false, .RW, [(512, 0x10)], 0x88000000, 0xfc001f1f⟩
  | .EGR_XSND_TX => ⟨.EGR, 0x40008, false, .RC, [(512, 0x10)], 0, 0⟩
  | .EGR_JOIN_ENT => ⟨.EGR, 0x50000, false, .RW, [(4096, 0x10)], 0, 0x83e7ffff⟩
  | .EGR_JOIN_STAT => ⟨.EGR, 0x50004, false, .RO, [(4096, 0x10)], 0, 0⟩
  | .EGR_JOIN_REP => ⟨.EGR, 0x50008, false, .RC, [(4096, 0x10)], 0, 0⟩
  | .NIM_CAPS => ⟨.NIM, 0, false, .RO, [], 0x40080210, 0⟩
  | .NIM_CTRL => ⟨.NIM, 4, false, .RW, [], 0, 1⟩
  | .NIM_STATUS => ⟨.NIM, 8, false, .RO, [], 0, 0⟩
  | .NIM_INT_STAT => ⟨.NIM, 0x10, false, .W1C, [], 0, 0x1ff⟩
  | .NIM_INT_EN => ⟨.NIM, 0x14, false, .RW, [], 0, 0x1ff⟩
  | .NIM_EXEC_CFG => ⟨.NIM, 0x20, false, .RW, [], 0x249f0, 0xffffff⟩
  | .NIM_JRN_CFG => ⟨.NIM, 0x24, false, .RW, [], 0x1f40400, 0xffff3fff⟩
  | .NIM_PAIR_CFG => ⟨.NIM, 0x28, false, .RW, [], 0x3e8, 0xc3ffffff⟩
  | .NIM_PAIR_STAT => ⟨.NIM, 0x2c, false, .RO, [], 0, 0⟩
  | .NIM_JRN_FREE => ⟨.NIM, 0x30, false, .RO, [], 0x4000, 0⟩
  | .NIM_JRN_OPEN => ⟨.NIM, 0x34, false, .RO, [], 0, 0⟩
  | .NIM_REPLAY => ⟨.NIM, 0x38, false, .RO, [], 0, 0⟩
  | .NIM_ACCEPTED => ⟨.NIM, 0x40, true, .RC, [], 0, 0⟩
  | .NIM_COMPLETED => ⟨.NIM, 0x48, true, .RC, [], 0, 0⟩
  | .NIM_REFUSED => ⟨.NIM, 0x50, false, .RC, [], 0, 0⟩
  | .NIM_DUP => ⟨.NIM, 0x54, false, .RC, [], 0, 0⟩
  | .NIM_CQ_LOST => ⟨.NIM, 0x58, false, .RC, [], 0, 0⟩
  | .NIM_TRAP_LAST => ⟨.NIM, 0x5c, false, .RO, [], 0, 0⟩
  | .NIM_AFF_MAP => ⟨.NIM, 0x100, false, .RW, [(64, 4)], 0, 0xf⟩
  | .NIM_CORE_STAT => ⟨.NIM, 0x200, false, .RO, [(16, 4)], 0, 0⟩
  | .NIM_CORE_TRAPS => ⟨.NIM, 0x300, false, .RC, [(16, 4)], 0, 0⟩
  | .NIM_SQ_BASE => ⟨.NIM, 0x1000, true, .RW, [(64, 0x40)], 0, 0xffffffffffffffff⟩
  | .NIM_CQ_BASE => ⟨.NIM, 0x1008, true, .RW, [(64, 0x40)], 0, 0xffffffffffffffff⟩
  | .NIM_Q_CFG => ⟨.NIM, 0x1010, false, .RW, [(64, 0x40)], 0xc0000, 0x800f00ff⟩
  | .NIM_SQ_TAIL => ⟨.NIM, 0x1014, false, .RW, [(64, 0x40)], 0, 0xfff⟩
  | .NIM_SQ_HEAD => ⟨.NIM, 0x1018, false, .RO, [(64, 0x40)], 0, 0⟩
  | .NIM_CQ_HEAD => ⟨.NIM, 0x101c, false, .RW, [(64, 0x40)], 0, 0xfff⟩
  | .NIM_CQ_TAIL => ⟨.NIM, 0x1020, false, .RO, [(64, 0x40)], 0, 0⟩
  | .NIM_Q_STAT => ⟨.NIM, 0x1024, false, .RO, [(64, 0x40)], 0, 0⟩
  | .NIM_Q_HWM => ⟨.NIM, 0x1028, true, .RO, [(64, 0x40)], 0, 0⟩
  | .NIM_Q_REFUSED => ⟨.NIM, 0x1030, false, .RC, [(64, 0x40)], 0, 0⟩
  | .NIM_SVC_CFG => ⟨.NIM, 0x2000, false, .RW, [(32, 0x20)], 0, 0x81ffffff⟩
  | .NIM_SVC_STAT => ⟨.NIM, 0x2004, false, .RO, [(32, 0x20)], 0, 0⟩
  | .NIM_SVC_SEQ => ⟨.NIM, 0x2008, true, .RO, [(32, 0x20)], 0, 0⟩
  | .NIM_SVC_TRAP => ⟨.NIM, 0x2010, false, .RO, [(32, 0x20)], 0, 0⟩
  | .TWD_CAPS => ⟨.TWD, 0, false, .RO, [], 0x800108, 0⟩
  | .TWD_CTRL => ⟨.TWD, 4, false, .RW, [], 0, 1⟩
  | .TWD_STATUS => ⟨.TWD, 8, false, .RO, [], 0, 0⟩
  | .TWD_IN_RES => ⟨.TWD, 0xc, false, .RO, [], 0, 0⟩
  | .TWD_OUT_RES => ⟨.TWD, 0x10, false, .RO, [], 0, 0⟩
  | .TWD_INT_STAT => ⟨.TWD, 0x20, false, .W1C, [], 0, 0x1ff⟩
  | .TWD_INT_EN => ⟨.TWD, 0x24, false, .RW, [], 0, 0x1ff⟩
  | .TWD_MEM_CORR => ⟨.TWD, 0x28, false, .RC, [], 0, 0⟩
  | .TWD_PLACE => ⟨.TWD, 0x1000, false, .RW, [(1184, 4)], 0, 0x80001fff⟩
  | .TWD_FOLLOW => ⟨.TWD, 0x3000, false, .RW, [(400, 4)], 0x40000000, 0xc0001fff⟩
  | .TWD_BTX_CFG => ⟨.TWD, 0x4000, false, .RW, [(16, 0x10)], 0, 0xc0001fff⟩
  | .TWD_BTX_FLOW => ⟨.TWD, 0x4004, false, .RW, [(16, 0x10)], 0, 0x7ffff⟩
  | .TWD_BTX_CELLS => ⟨.TWD, 0x4008, false, .RC, [(16, 0x10)], 0, 0⟩
  | .TWD_BRX_CFG => ⟨.TWD, 0x4100, false, .RW, [(16, 0x10)], 0x2000000, 0x8f07ffff⟩
  | .TWD_BRX_STAT => ⟨.TWD, 0x4104, false, .RC, [(16, 0x10)], 0, 0⟩
  | .TWD_CORE_CFG => ⟨.TWD, 0x8000, false, .RW, [(8, 0x100)], 0x80000000, 0xe0000000⟩
  | .TWD_CORE_RUN => ⟨.TWD, 0x8004, false, .RW, [(8, 0x100)], 0, 0xc0001fff⟩
  | .TWD_CORE_AT => ⟨.TWD, 0x8008, false, .RW, [(8, 0x100)], 0, 0xffffffff⟩
  | .TWD_CORE_STAT => ⟨.TWD, 0x800c, false, .RO, [(8, 0x100)], 0, 0⟩
  | .TWD_CORE_FLAGS => ⟨.TWD, 0x8010, false, .W1C, [(8, 0x100)], 0, 0xf⟩
  | .TWD_CORE_CYC => ⟨.TWD, 0x8014, false, .RO, [(8, 0x100)], 0, 0⟩
  | .TWD_CORE_CYCMAX => ⟨.TWD, 0x8018, false, .RC, [(8, 0x100)], 0, 0⟩
  | .TWD_CORE_OVR => ⟨.TWD, 0x801c, false, .RC, [(8, 0x100)], 0, 0⟩
  | .TWD_CORE_UNDER => ⟨.TWD, 0x8020, false, .RC, [(8, 0x100)], 0, 0⟩
  | .TWD_CORE_TRAP => ⟨.TWD, 0x8024, false, .RO, [(8, 0x100)], 0, 0⟩
  | .TWD_CORE_BLK => ⟨.TWD, 0x8028, false, .RO, [(8, 0x100)], 0, 0⟩
  | .TWD_CORE_LATE => ⟨.TWD, 0x802c, false, .RC, [(8, 0x100)], 0, 0⟩
  | .ASP_CAPS => ⟨.ASP, 0, false, .RO, [], 0x1010, 0⟩
  | .ASP_CTRL => ⟨.ASP, 4, false, .RW, [], 0, 1⟩
  | .ASP_STATUS => ⟨.ASP, 8, false, .RO, [], 0, 0⟩
  | .ASP_INT_STAT => ⟨.ASP, 0x10, false, .W1C, [], 0, 0x7f⟩
  | .ASP_INT_EN => ⟨.ASP, 0x14, false, .RW, [], 0, 0x7f⟩
  | .ASP_INT_SRC => ⟨.ASP, 0x18, false, .RC, [], 0, 0⟩
  | .ASP_TX_CFG => ⟨.ASP, 0x1000, false, .RW, [(16, 0x100)], 0, 0x9f001fff⟩
  | .ASP_TX_FMT => ⟨.ASP, 0x1004, false, .RW, [(16, 0x100)], 0x12204040, 0xfffeffff⟩
  | .ASP_TX_MASK => ⟨.ASP, 0x1008, false, .RW, [(16, 0x100)], 3, 0xffff⟩
  | .ASP_TX_ACT => ⟨.ASP, 0x100c, false, .RO, [(16, 0x100)], 0, 0⟩
  | .ASP_TX_STAT => ⟨.ASP, 0x1010, false, .RO, [(16, 0x100)], 0, 0⟩
  | .ASP_TX_FAULTS => ⟨.ASP, 0x1014, false, .RC, [(16, 0x100)], 0, 0⟩
  | .ASP_TX_SLIP => ⟨.ASP, 0x1018, false, .RC, [(16, 0x100)], 0, 0⟩
  | .ASP_TX_PERIOD => ⟨.ASP, 0x101c, false, .RO, [(16, 0x100)], 0, 0⟩
  | .ASP_TX_KILLED => ⟨.ASP, 0x1020, false, .RO, [(16, 0x100)], 0, 0⟩
  | .ASP_RX_CFG => ⟨.ASP, 0x1080, false, .RW, [(16, 0x100)], 0, 0x9f000000⟩
  | .ASP_RX_FMT => ⟨.ASP, 0x1084, false, .RW, [(16, 0x100)], 0x12204040, 0xfffeffff⟩
  | .ASP_RX_MASK => ⟨.ASP, 0x1088, false, .RW, [(16, 0x100)], 3, 0xffff⟩
  | .ASP_RX_ACT => ⟨.ASP, 0x108c, false, .RO, [(16, 0x100)], 0, 0⟩
  | .ASP_RX_STAT => ⟨.ASP, 0x1090, false, .RO, [(16, 0x100)], 0, 0⟩
  | .ASP_RX_FAULTS => ⟨.ASP, 0x1094, false, .RC, [(16, 0x100)], 0, 0⟩
  | .ASP_RX_SLIP => ⟨.ASP, 0x1098, false, .RC, [(16, 0x100)], 0, 0⟩
  | .ASP_RX_PERIOD => ⟨.ASP, 0x109c, false, .RO, [(16, 0x100)], 0, 0⟩
  | .ASP_RX_KILLED => ⟨.ASP, 0x10a0, false, .RO, [(16, 0x100)], 0, 0⟩
  | .VMP_CAPS => ⟨.VMP, 0, false, .RO, [], 0x20100110, 0⟩
  | .VMP_CTRL => ⟨.VMP, 4, false, .RW, [], 0, 1⟩
  | .VMP_STATUS => ⟨.VMP, 8, false, .RO, [], 0, 0⟩
  | .VMP_INT_STAT => ⟨.VMP, 0x10, false, .W1C, [], 0, 0x1ff⟩
  | .VMP_INT_EN => ⟨.VMP, 0x14, false, .RW, [], 0, 0x1ff⟩
  | .VMP_BUDGET => ⟨.VMP, 0x18, false, .RO, [], 0, 0⟩
  | .VMP_PIPE_CFG => ⟨.VMP, 0x1000, false, .RW, [(16, 0x100)], 0, 0xbe000000⟩
  | .VMP_PIPE_BG => ⟨.VMP, 0x1004, false, .RW, [(16, 0x100)], 0x4080200, 0x3fffffff⟩
  | .VMP_PIPE_STAT => ⟨.VMP, 0x1008, false, .RO, [(16, 0x100)], 0, 0⟩
  | .VMP_PIPE_READ => ⟨.VMP, 0x100c, false, .RO, [(16, 0x100)], 0, 0⟩
  | .VMP_PIPE_APPLIED => ⟨.VMP, 0x1010, true, .RO, [(16, 0x100)], 0, 0⟩
  | .VMP_PIPE_PEND => ⟨.VMP, 0x1018, true, .RO, [(16, 0x100)], 0, 0⟩
  | .VMP_PIPE_NRDY => ⟨.VMP, 0x1020, false, .RC, [(16, 0x100)], 0, 0⟩
  | .VMP_PIPE_LATE => ⟨.VMP, 0x1024, false, .RC, [(16, 0x100)], 0, 0⟩
  | .VMP_PIPE_REPL => ⟨.VMP, 0x1028, false, .RC, [(16, 0x100)], 0, 0⟩
  | .VMP_PIPE_HELD => ⟨.VMP, 0x102c, false, .RC, [(16, 0x100)], 0, 0⟩
  | .VMP_PIPE_LBFAIL => ⟨.VMP, 0x1030, false, .RO, [(16, 0x100)], 0, 0⟩
  | .VMP_LAYER_STAT => ⟨.VMP, 0x1040, false, .RO, [(16, 0x100), (16, 4)], 0, 0⟩
  | .VMP_SURF_CFG => ⟨.VMP, 0x40000, false, .RW, [(256, 0x20)], 0, 0xe0007fff⟩
  | .VMP_SURF_SIZE => ⟨.VMP, 0x40004, false, .RW, [(256, 0x20)], 0, 0x3fff3fff⟩
  | .VMP_SURF_PITCH => ⟨.VMP, 0x40008, false, .RW, [(256, 0x20)], 0, 0x1ffff⟩
  | .VMP_SURF_GEN => ⟨.VMP, 0x4000c, false, .RW, [(256, 0x20)], 0, 0xffffffff⟩
  | .VMP_SURF_USE => ⟨.VMP, 0x40010, false, .RO, [(256, 0x20)], 0, 0⟩
  | .LST_CAPS => ⟨.LST, 0, false, .RO, [], 0x40e, 0⟩
  | .LST_CTRL => ⟨.LST, 4, false, .RW, [], 0, 0xc000000f⟩
  | .LST_STATUS => ⟨.LST, 8, false, .RO, [], 0x1e400000, 0⟩
  | .LST_VALID => ⟨.LST, 0xc, false, .RO, [], 0, 0⟩
  | .LST_QUAL => ⟨.LST, 0x10, false, .RO, [], 0, 0⟩
  | .LST_INT_STAT => ⟨.LST, 0x14, false, .W1C, [], 0, 0x3fff⟩
  | .LST_INT_EN => ⟨.LST, 0x18, false, .RW, [], 0, 0x3fff⟩
  | .LST_CFG => ⟨.LST, 0x20, false, .RW, [], 0x640214, 0xffffffff⟩
  | .LST_SLEW => ⟨.LST, 0x24, false, .RW, [], 0x3e80a0a, 0xffffffff⟩
  | .LST_HOLD_CFG => ⟨.LST, 0x28, false, .RW, [], 0x3e8003c, 0xffffffff⟩
  | .LST_HOLD_LIM => ⟨.LST, 0x2c, false, .RW, [], 0x180064, 0xffffffff⟩
  | .LST_FREQ => ⟨.LST, 0x30, true, .RO, [], 0, 0⟩
  | .LST_HOLD_FREQ => ⟨.LST, 0x38, true, .RO, [], 0, 0⟩
  | .LST_STEER => ⟨.LST, 0x40, true, .RW, [], 0, 0xffffffffffffffff⟩
  | .LST_STEER_RATE => ⟨.LST, 0x48, false, .RW, [], 0x64, 0xffff⟩
  | .LST_PHASE_ERR => ⟨.LST, 0x4c, false, .RO, [], 0, 0⟩
  | .LST_SLEW_LEFT => ⟨.LST, 0x50, false, .RO, [], 0, 0⟩
  | .LST_HOLD_STAT => ⟨.LST, 0x54, false, .RO, [], 0, 0⟩
  | .LST_AGE => ⟨.LST, 0x58, true, .RO, [], 0, 0⟩
  | .LST_AGE_PRED => ⟨.LST, 0x60, false, .RO, [], 0, 0⟩
  | .LST_SWITCHES => ⟨.LST, 0x64, false, .RC, [], 0, 0⟩
  | .LST_TAG => ⟨.LST, 0x68, false, .RO, [], 0, 0⟩
  | .LST_REF_CFG => ⟨.LST, 0x100, false, .RW, [(14, 0x20)], 0, 0xfffeffff⟩
  | .LST_REF_WTR => ⟨.LST, 0x104, false, .RW, [(14, 0x20)], 0x3c, 0xffff⟩
  | .LST_REF_STAT => ⟨.LST, 0x108, false, .RO, [(14, 0x20)], 0, 0⟩
  | .LST_REF_FOFF => ⟨.LST, 0x10c, false, .RO, [(14, 0x20)], 0, 0⟩
  | .LST_REF_LOSS => ⟨.LST, 0x110, false, .RC, [(14, 0x20)], 0, 0⟩
  | .LST_REF_PEER => ⟨.LST, 0x114, false, .RO, [(14, 0x20)], 0, 0⟩
  | .LST_TB_STAT => ⟨.LST, 0x300, false, .RO, [(4, 0x10)], 0, 0⟩
  | .NTM_CAPS => ⟨.NTM, 0, false, .RO, [], 0x40402004, 0⟩
  | .NTM_CTRL => ⟨.NTM, 4, false, .RW, [], 0, 0x31⟩
  | .NTM_STATUS => ⟨.NTM, 8, false, .RO, [], 0, 0⟩
  | .NTM_INT_STAT => ⟨.NTM, 0x10, false, .W1C, [], 0, 0xffe⟩
  | .NTM_INT_EN => ⟨.NTM, 0x14, false, .RW, [], 0, 0xffe⟩
  | .NTM_TRG_SRC => ⟨.NTM, 0x18, true, .RC, [], 0, 0⟩
  | .NTM_CLOCKID => ⟨.NTM, 0x20, true, .RWB, [], 0, 0xffffffffffffffff⟩
  | .NTM_TB_CFG => ⟨.NTM, 0x100, false, .RW, [(4, 0x40)], 0x10000, 0xffff0000⟩
  | .NTM_TB_STAT => ⟨.NTM, 0x104, false, .RO, [(4, 0x40)], 0, 0⟩
  | .NTM_TB_NS => ⟨.NTM, 0x108, false, .RO, [(4, 0x40)], 0, 0⟩
  | .NTM_TB_FRAC => ⟨.NTM, 0x10c, false, .RO, [(4, 0x40)], 0, 0⟩
  | .NTM_TB_SEC => ⟨.NTM, 0x110, true, .RO, [(4, 0x40)], 0, 0⟩
  | .NTM_TB_NIM => ⟨.NTM, 0x118, true, .RO, [(4, 0x40)], 0, 0⟩
  | .NTM_TB_ADJ_SEC => ⟨.NTM, 0x120, true, .RW, [(4, 0x40)], 0, 0xffffffffffff⟩
  | .NTM_TB_ADJ_NS => ⟨.NTM, 0x128, false, .RW, [(4, 0x40)], 0, 0xffffffff⟩
  | .NTM_TB_ADJ => ⟨.NTM, 0x12c, false, .WO, [(4, 0x40)], 0, 3⟩
  | .NTM_TB_ALIGN_OFF => ⟨.NTM, 0x130, false, .RO, [(4, 0x40)], 0, 0⟩
  | .NTM_TB_STEPS => ⟨.NTM, 0x134, false, .RC, [(4, 0x40)], 0, 0⟩
  | .NTM_SRV_CFG => ⟨.NTM, 0x200, false, .RW, [(4, 0x40)], 0x3e80640, 0xfffffff8⟩
  | .NTM_SRV_STAT => ⟨.NTM, 0x204, false, .RO, [(4, 0x40)], 0, 0⟩
  | .NTM_SRV_OFFSET => ⟨.NTM, 0x208, false, .RO, [(4, 0x40)], 0, 0⟩
  | .NTM_SRV_FEED => ⟨.NTM, 0x210, true, .WO, [(4, 0x40)], 0, 0xffffffffffffffff⟩
  | .NTM_SRV_SAMPLES => ⟨.NTM, 0x218, false, .RC, [(4, 0x40)], 0, 0⟩
  | .NTM_SRV_REJECT => ⟨.NTM, 0x21c, false, .RC, [(4, 0x40)], 0, 0⟩
  | .NTM_INST_CFG => ⟨.NTM, 0x400, false, .RW, [(4, 0x40)], 0x1007f00, 0xffe0ff00⟩
  | .NTM_INST_INTV => ⟨.NTM, 0x404, false, .RW, [(4, 0x40)], 0xfefdfd03, 0xffffffff⟩
  | .NTM_INST_DS0 => ⟨.NTM, 0x408, false, .RW, [(4, 0x40)], 0x8080f8fe, 0xffffffff⟩
  | .NTM_INST_DS1 => ⟨.NTM, 0x40c, false, .RW, [(4, 0x40)], 0xffff0000, 0xffffffff⟩
  | .NTM_INST_GMID => ⟨.NTM, 0x410, true, .RW, [(4, 0x40)], 0, 0xffffffffffffffff⟩
  | .NTM_INST_GMDS => ⟨.NTM, 0x418, false, .RW, [(4, 0x40)], 0x8080f8fe, 0xffffffff⟩
  | .NTM_INST_GMVAR => ⟨.NTM, 0x41c, false, .RW, [(4, 0x40)], 0xffff, 0xffff⟩
  | .NTM_INST_TPROP => ⟨.NTM, 0x420, false, .RW, [(4, 0x40)], 0x25a000, 0xffffffff⟩
  | .NTM_PHY_TXLAT => ⟨.NTM, 0x600, false, .RW, [(32, 0x10)], 0, 0xffffffff⟩
  | .NTM_PHY_RXLAT => ⟨.NTM, 0x604, false, .RW, [(32, 0x10)], 0, 0xffffffff⟩
  | .NTM_PHY_TXABORT => ⟨.NTM, 0x608, false, .RC, [(32, 0x10)], 0, 0⟩
  | .NTM_PORT_CFG => ⟨.NTM, 0x1000, false, .RW, [(4, 0x400), (32, 0x20)], 0, 0xe000ffff⟩
  | .NTM_PORT_ASYM => ⟨.NTM, 0x1004, false, .RW, [(4, 0x400), (32, 0x20)], 0, 0xffffffff⟩
  | .NTM_PORT_PARENT => ⟨.NTM, 0x1008, true, .RW, [(4, 0x400), (32, 0x20)], 0, 0xffffffffffffffff⟩
  | .NTM_PORT_STAT => ⟨.NTM, 0x1010, false, .RO, [(4, 0x400), (32, 0x20)], 0, 0⟩
  | .NTM_PORT_MPD => ⟨.NTM, 0x1014, false, .RO, [(4, 0x400), (32, 0x20)], 0, 0⟩
  | .NTM_PORT_RXMSG => ⟨.NTM, 0x1018, false, .RC, [(4, 0x400), (32, 0x20)], 0, 0⟩
  | .NTM_PORT_TXMSG => ⟨.NTM, 0x101c, false, .RC, [(4, 0x400), (32, 0x20)], 0, 0⟩
  | .NTM_TRG_CFG => ⟨.NTM, 0x2000, false, .RW, [(64, 0x40)], 0, 0xbfffffff⟩
  | .NTM_TRG_STAT => ⟨.NTM, 0x2004, false, .RO, [(64, 0x40)], 0, 0⟩
  | .NTM_TRG_T => ⟨.NTM, 0x2008, true, .RW, [(64, 0x40)], 0, 0xffffffffffffffff⟩
  | .NTM_TRG_PNUM => ⟨.NTM, 0x2010, true, .RW, [(64, 0x40)], 0, 0xffffffffff⟩
  | .NTM_TRG_PDEN => ⟨.NTM, 0x2018, false, .RW, [(64, 0x40)], 0x10001, 0xffffffff⟩
  | .NTM_TRG_LATE => ⟨.NTM, 0x201c, false, .RO, [(64, 0x40)], 0, 0⟩
  | .NTM_TRG_MISSED => ⟨.NTM, 0x2020, false, .RC, [(64, 0x40)], 0, 0⟩
  | .NTM_CAP_CFG => ⟨.NTM, 0x3000, false, .RW, [(64, 0x20)], 0, 0xbff00000⟩
  | .NTM_CAP_STAT => ⟨.NTM, 0x3004, false, .RO, [(64, 0x20)], 0, 0⟩
  | .NTM_CAP_NS => ⟨.NTM, 0x3008, false, .RC, [(64, 0x20)], 0x3fffffff, 0⟩
  | .NTM_CAP_HI => ⟨.NTM, 0x3010, true, .RO, [(64, 0x20)], 0, 0⟩
  | .NTM_CAP_OVF => ⟨.NTM, 0x3018, false, .RC, [(64, 0x20)], 0, 0⟩
  | .WLT_CAPS => ⟨.WLT, 0, false, .RO, [], 0x40200080, 0⟩
  | .WLT_INT_STAT => ⟨.WLT, 0x10, false, .W1C, [], 0, 0x3ff⟩
  | .WLT_INT_EN => ⟨.WLT, 0x14, false, .RW, [], 0, 0x3ff⟩
  | .WLT_LK_SRC => ⟨.WLT, 0x18, false, .RC, [], 0, 0⟩
  | .WLT_QUAL => ⟨.WLT, 0x20, false, .RW, [], 0xa326400, 0xffffff00⟩
  | .WLT_EYE_MIN => ⟨.WLT, 0x24, false, .RW, [], 0xc082810, 0xffffffff⟩
  | .WLT_NL_CLKMOVE => ⟨.WLT, 0x28, false, .RC, [], 0, 0⟩
  | .WLT_LANE_CFG => ⟨.WLT, 0x10000, false, .RW, [(224, 0x40)], 0xa0000000, 0xe03f0000⟩
  | .WLT_LANE_TXEQ => ⟨.WLT, 0x10004, false, .RW, [(224, 0x40)], 0xfc0, 0x3fffffff⟩
  | .WLT_LANE_CTRL => ⟨.WLT, 0x10008, false, .WO, [(224, 0x40)], 0, 0xc0000000⟩
  | .WLT_LANE_STAT => ⟨.WLT, 0x1000c, false, .RO, [(224, 0x40)], 0, 0⟩
  | .WLT_LANE_EYE => ⟨.WLT, 0x10010, false, .RO, [(224, 0x40)], 0, 0⟩
  | .WLT_LANE_DFE => ⟨.WLT, 0x10014, false, .RO, [(224, 0x40), (3, 4)], 0, 0⟩
  | .WLT_LANE_ERR => ⟨.WLT, 0x10020, false, .RC, [(224, 0x40)], 0, 0⟩
  | .WLT_LANE_FEC_UNC => ⟨.WLT, 0x10024, false, .RC, [(224, 0x40)], 0, 0⟩
  | .WLT_LANE_LOL => ⟨.WLT, 0x10028, false, .RC, [(224, 0x40)], 0, 0⟩
  | .WLT_LANE_PRBS => ⟨.WLT, 0x1002c, false, .RW, [(224, 0x40)], 0, 0xc0000007⟩
  | .WLT_LANE_PRBS_ERR => ⟨.WLT, 0x10030, false, .RC, [(224, 0x40)], 0, 0⟩
  | .WLT_LK_CFG => ⟨.WLT, 0x20000, false, .RW, [(16, 0x40)], 0x35000064, 0xb700ffff⟩
  | .WLT_LK_CTRL => ⟨.WLT, 0x20004, false, .WO, [(16, 0x40)], 0, 0xc0000003⟩
  | .WLT_LK_STAT => ⟨.WLT, 0x20008, false, .RO, [(16, 0x40)], 0, 0⟩
  | .WLT_LK_PEER => ⟨.WLT, 0x2000c, false, .RO, [(16, 0x40)], 0, 0⟩
  | .WLT_LK_BRINGUP => ⟨.WLT, 0x20010, false, .RO, [(16, 0x40)], 0, 0⟩
  | .WLT_LK_DOWNS => ⟨.WLT, 0x20014, false, .RC, [(16, 0x40)], 0, 0⟩
  | .WLT_LK_DEGRADES => ⟨.WLT, 0x20018, false, .RC, [(16, 0x40)], 0, 0⟩
  | .WLT_LK_REPLAY => ⟨.WLT, 0x2001c, false, .RC, [(16, 0x40)], 0, 0⟩
  | .NPT_CAPS => ⟨.NPT, 0, false, .RO, [], 0x10102008, 0⟩
  | .NPT_CTRL => ⟨.NPT, 4, false, .RW, [], 0, 1⟩
  | .NPT_STATUS => ⟨.NPT, 8, false, .RO, [], 0, 0⟩
  | .NPT_INT_STAT => ⟨.NPT, 0x10, false, .W1C, [], 0, 0x1ff⟩
  | .NPT_INT_EN => ⟨.NPT, 0x14, false, .RW, [], 0, 0x1ff⟩
  | .NPT_LINK => ⟨.NPT, 0x18, false, .RO, [], 0, 0⟩
  | .NPT_MAC_BASE => ⟨.NPT, 0x20, true, .RWB, [], 0, 0xffffffffffff⟩
  | .NPT_WAKE_PAT => ⟨.NPT, 0x28, true, .RW, [], 0, 0xffffffffffffffff⟩
  | .NPT_STEER_MISS => ⟨.NPT, 0x30, false, .RC, [], 0, 0⟩
  | .NPT_STEER_DROP => ⟨.NPT, 0x34, false, .RC, [], 0, 0⟩
  | .NPT_GRP_CFG => ⟨.NPT, 0x100, false, .RW, [(8, 4)], 0, 7⟩
  | .NPT_PORT_CFG => ⟨.NPT, 0x1000, false, .RW, [(32, 0x100)], 0xe0a2400, 0xbfff3fff⟩
  | .NPT_PORT_PRIO => ⟨.NPT, 0x1004, false, .RW, [(32, 0x100)], 0x560, 0x777⟩
  | .NPT_PORT_IP4 => ⟨.NPT, 0x1008, false, .RW, [(32, 0x100)], 0, 0xffffffff⟩
  | .NPT_PORT_IP6 => ⟨.NPT, 0x100c, false, .RW, [(32, 0x100), (4, 4)], 0, 0xffffffff⟩
  | .NPT_PORT_EEE => ⟨.NPT, 0x101c, false, .RW, [(32, 0x100)], 0x64157c, 0xffffffff⟩
  | .NPT_PORT_STAT => ⟨.NPT, 0x1020, false, .RO, [(32, 0x100)], 0, 0⟩
  | .NPT_RX_FRAMES => ⟨.NPT, 0x1028, true, .RC, [(32, 0x100)], 0, 0⟩
  | .NPT_RX_BYTES => ⟨.NPT, 0x1030, true, .RC, [(32, 0x100)], 0, 0⟩
  | .NPT_TX_FRAMES => ⟨.NPT, 0x1038, true, .RC, [(32, 0x100)], 0, 0⟩
  | .NPT_TX_BYTES => ⟨.NPT, 0x1040, true, .RC, [(32, 0x100)], 0, 0⟩
  | .NPT_RX_FCS => ⟨.NPT, 0x1048, false, .RC, [(32, 0x100)], 0, 0⟩
  | .NPT_RX_LEN => ⟨.NPT, 0x104c, false, .RC, [(32, 0x100)], 0, 0⟩
  | .NPT_RX_TAG => ⟨.NPT, 0x1050, false, .RC, [(32, 0x100)], 0, 0⟩
  | .NPT_RX_ADDR => ⟨.NPT, 0x1054, false, .RC, [(32, 0x100)], 0, 0⟩
  | .NPT_RX_CSUM => ⟨.NPT, 0x1058, false, .RC, [(32, 0x100)], 0, 0⟩
  | .NPT_PAUSE_RX => ⟨.NPT, 0x105c, false, .RC, [(32, 0x100)], 0, 0⟩
  | .NPT_PAUSE_IGN => ⟨.NPT, 0x1060, false, .RC, [(32, 0x100)], 0, 0⟩
  | .NPT_LINK_DOWNS => ⟨.NPT, 0x1064, false, .RC, [(32, 0x100)], 0, 0⟩
  | .NPT_LPI_ENTRIES => ⟨.NPT, 0x1068, false, .RC, [(32, 0x100)], 0, 0⟩
  | .NPT_TX_DISCARD => ⟨.NPT, 0x106c, false, .RC, [(32, 0x100)], 0, 0⟩
  | .NPT_STEER => ⟨.NPT, 0x3000, false, .RW, [(64, 4)], 0, 0xffc0ffff⟩
  | .NPT_RXR_BASE => ⟨.NPT, 0x4000, true, .RW, [(16, 0x40)], 0, 0xffffffffffffffff⟩
  | .NPT_RXR_CFG => ⟨.NPT, 0x4008, false, .RW, [(16, 0x40)], 0x800a000, 0xbffff0ff⟩
  | .NPT_RXR_TAIL => ⟨.NPT, 0x400c, false, .RW, [(16, 0x40)], 0, 0xfff⟩
  | .NPT_RXR_HEAD => ⟨.NPT, 0x4010, false, .RO, [(16, 0x40)], 0, 0⟩
  | .NPT_RXR_DROP => ⟨.NPT, 0x4014, false, .RC, [(16, 0x40)], 0, 0⟩
  | .NPT_RXR_FRAMES => ⟨.NPT, 0x4018, false, .RC, [(16, 0x40)], 0, 0⟩
  | .NPT_TXR_BASE => ⟨.NPT, 0x5000, true, .RW, [(16, 0x40)], 0, 0xffffffffffffffff⟩
  | .NPT_TXR_CFG => ⟨.NPT, 0x5008, false, .RW, [(16, 0x40)], 0xa000, 0x8000f0ff⟩
  | .NPT_TXR_TAIL => ⟨.NPT, 0x500c, false, .RW, [(16, 0x40)], 0, 0xfff⟩
  | .NPT_TXR_HEAD => ⟨.NPT, 0x5010, false, .RO, [(16, 0x40)], 0, 0⟩
  | .NPT_EP_CFG => ⟨.NPT, 0x6000, false, .RW, [(32, 0x200), (16, 0x20)], 0, 0xff1f0000⟩
  | .NPT_EP_MAC => ⟨.NPT, 0x6004, false, .RW, [(32, 0x200), (16, 0x20)], 0, 0xffffffff⟩
  | .NPT_EP_MACHI => ⟨.NPT, 0x6008, false, .RW, [(32, 0x200), (16, 0x20)], 0, 0xffffffff⟩
  | .NPT_EP_DPORT => ⟨.NPT, 0x600c, false, .RW, [(32, 0x200), (16, 0x20)], 0, 0xffff⟩
  | .NPT_EP_ADDR => ⟨.NPT, 0x6010, false, .RW, [(32, 0x200), (16, 0x20), (4, 4)], 0, 0xffffffff⟩
  | .RSL_CAPS => ⟨.RSL, 0, false, .RO, [], 0x10021110, 0⟩
  | .RSL_CTRL => ⟨.RSL, 4, false, .RW, [], 1, 1⟩
  | .RSL_STATUS => ⟨.RSL, 8, false, .RO, [], 0, 0⟩
  | .RSL_INT_STAT => ⟨.RSL, 0x10, false, .W1C, [], 0, 0x1fff⟩
  | .RSL_INT_EN => ⟨.RSL, 0x14, false, .RW, [], 0, 0x1fff⟩
  | .RSL_XCHK_CFG => ⟨.RSL, 0x20, false, .RW, [], 0x80080002, 0x80ff001f⟩
  | .RSL_XCHK_LAST => ⟨.RSL, 0x24, false, .RO, [], 0, 0⟩
  | .RSL_XCHK_DIV => ⟨.RSL, 0x28, false, .RC, [], 0, 0⟩
  | .RSL_XCHK_EXPL => ⟨.RSL, 0x2c, false, .RC, [], 0, 0⟩
  | .RSL_XCHK_MISS => ⟨.RSL, 0x30, false, .RC, [], 0, 0⟩
  | .RSL_PAIR_CFG => ⟨.RSL, 0x40, false, .RW, [], 0xa0014, 0xffffffff⟩
  | .RSL_PAIR_STAT => ⟨.RSL, 0x44, false, .RO, [], 0, 0⟩
  | .RSL_FENCE_CTRL => ⟨.RSL, 0x48, false, .WO, [], 0, 0xc0000000⟩
  | .RSL_FENCE_STAT => ⟨.RSL, 0x4c, false, .RO, [], 0, 0⟩
  | .RSL_SPARE_CFG => ⟨.RSL, 0x60, false, .RW, [], 0, 0x8000ffff⟩
  | .RSL_SPARE_LIST => ⟨.RSL, 0x64, false, .RW, [(8, 4)], 0, 0x800003ff⟩
  | .RSL_SPARE_CTRL => ⟨.RSL, 0x84, false, .WO, [], 0, 0xc00003ff⟩
  | .RSL_SPARE_STAT => ⟨.RSL, 0x88, false, .RO, [], 0, 0⟩
  | .RSL_UNIT_CTRL => ⟨.RSL, 0x100, false, .WO, [(232, 0x10)], 0, 3⟩
  | .RSL_UNIT_STAT => ⟨.RSL, 0x104, false, .RO, [(232, 0x10)], 0, 0⟩
  | .RSL_UNIT_CORR => ⟨.RSL, 0x108, false, .RC, [(232, 0x10)], 0, 0⟩
  | .RSL_UNIT_SWAPS => ⟨.RSL, 0x10c, false, .RC, [(232, 0x10)], 0, 0⟩
  | .RSL_PHYS_STAT => ⟨.RSL, 0x1000, false, .RO, [(248, 4)], 0, 0⟩
  | .RSL_REPAIR_USED => ⟨.RSL, 0x2000, false, .RO, [], 0, 0⟩
  | .RSL_SRAM_REP => ⟨.RSL, 0x2004, false, .RO, [], 0, 0⟩
  | .RSL_HBM_PPR => ⟨.RSL, 0x2008, false, .RO, [], 0, 0⟩
  | .RSL_HBM_RETIRED => ⟨.RSL, 0x200c, false, .RO, [], 0, 0⟩
  | .RSL_AUTO => ⟨.RSL, 0x2010, false, .RW, [], 0x400010, 0xffffffff⟩
  | .RSL_AVS_CFG => ⟨.RSL, 0x2020, false, .RW, [], 0x1e, 0xff⟩
  | .RSL_AVS_STAT => ⟨.RSL, 0x2024, false, .RO, [], 0, 0⟩
  | .RSL_MRAM_SCRUB => ⟨.RSL, 0x2030, false, .RO, [], 0x18000000, 0⟩
  | .RSL_FLASH_WEAR => ⟨.RSL, 0x2040, false, .RO, [(2, 4)], 0, 0⟩
  | .RSL_DRAIN_OVR => ⟨.RSL, 0x2050, false, .RC, [], 0, 0⟩
  | .AWL_CAPS => ⟨.AWL, 0, false, .RO, [], 0x1008000, 0⟩
  | .AWL_CTRL => ⟨.AWL, 4, false, .RW, [], 0, 0x80000000⟩
  | .AWL_STATUS => ⟨.AWL, 8, false, .RO, [], 0, 0⟩
  | .AWL_CFG => ⟨.AWL, 0xc, false, .RW, [], 0x1e, 0x8000ffff⟩
  | .AWL_INT_STAT => ⟨.AWL, 0x10, false, .W1C, [], 0, 0x7f⟩
  | .AWL_INT_EN => ⟨.AWL, 0x14, false, .RW, [], 0, 0x7f⟩
  | .AWL_SEQ_NEXT => ⟨.AWL, 0x18, true, .RO, [], 0, 0⟩
  | .AWL_OLDEST => ⟨.AWL, 0x20, true, .RO, [], 0, 0⟩
  | .AWL_COUNT => ⟨.AWL, 0x28, false, .RO, [], 0, 0⟩
  | .AWL_HEAD => ⟨.AWL, 0x2c, false, .RO, [], 0, 0⟩
  | .AWL_EPOCH => ⟨.AWL, 0x30, false, .RO, [], 0, 0⟩
  | .AWL_LOST => ⟨.AWL, 0x34, false, .RC, [], 0, 0⟩
  | .AWL_OVERWRITTEN => ⟨.AWL, 0x38, false, .RC, [], 0, 0⟩
  | .AWL_MERGED => ⟨.AWL, 0x3c, false, .RC, [], 0, 0⟩
  | .AWL_RD_IDX => ⟨.AWL, 0x40, false, .RW, [], 0, 0xc00fffff⟩
  | .AWL_RD_STAT => ⟨.AWL, 0x44, false, .RO, [], 0, 0⟩
  | .AWL_RD_DATA => ⟨.AWL, 0x80, false, .RO, [(16, 4)], 0, 0⟩
  | .AWL_CLR_NONCE => ⟨.AWL, 0x100, true, .RO, [], 0, 0⟩
  | .AWL_CLR_MAC => ⟨.AWL, 0x108, false, .WO, [(8, 4)], 0, 0xffffffff⟩
  | .AWL_CLR_CTRL => ⟨.AWL, 0x128, false, .WO, [], 0, 0x80000000⟩
  | .AWL_CLR_RESULT => ⟨.AWL, 0x12c, false, .RO, [], 0, 0⟩
  | .SET_CAPS => ⟨.SET, 0, false, .RO, [], 0x100f022, 0⟩
  | .SET_CTRL => ⟨.SET, 4, false, .WO, [], 0, 0x80000000⟩
  | .SET_STATUS => ⟨.SET, 8, false, .RO, [], 0, 0⟩
  | .SET_CFG => ⟨.SET, 0xc, false, .RW, [], 0x12c0030, 0xffff00ff⟩
  | .SET_INT_STAT => ⟨.SET, 0x10, false, .W1C, [], 0, 0x7f⟩
  | .SET_INT_EN => ⟨.SET, 0x14, false, .RW, [], 0, 0x7f⟩
  | .SET_SNAP_SEQ => ⟨.SET, 0x18, true, .RO, [], 0, 0⟩
  | .SET_SNAP_OPSEC => ⟨.SET, 0x20, true, .RO, [], 0, 0⟩
  | .SET_SNAP_LEN => ⟨.SET, 0x28, false, .RO, [], 0, 0⟩
  | .SET_SNAP_RESULT => ⟨.SET, 0x2c, false, .RO, [], 0, 0⟩
  | .SET_PAIR_FMT => ⟨.SET, 0x30, false, .RO, [(2, 4)], 0, 0⟩
  | .SET_DELTA_USED => ⟨.SET, 0x38, false, .RO, [], 0, 0⟩
  | .SET_DELTA_DISCARD => ⟨.SET, 0x3c, false, .RO, [], 0, 0⟩
  | .SET_OPSEC => ⟨.SET, 0x40, true, .RO, [], 0, 0⟩
  | .SET_PCYCLES => ⟨.SET, 0x48, false, .RO, [], 0, 0⟩
  | .SET_DEMAND_LEFT => ⟨.SET, 0x4c, false, .RO, [], 0x30, 0⟩
  | .SET_FLOOR => ⟨.SET, 0x50, false, .RO, [], 0, 0⟩
  | .SET_SECTORS => ⟨.SET, 0x60, false, .RO, [(2, 4)], 0, 0⟩
  | .SET_SNAPS => ⟨.SET, 0x70, false, .RC, [], 0, 0⟩
  | .UPD_CAPS => ⟨.UPD, 0, false, .RO, [], 0x208, 0⟩
  | .UPD_CTRL => ⟨.UPD, 4, false, .WO, [], 0, 0xf0000000⟩
  | .UPD_STATUS => ⟨.UPD, 8, false, .RO, [], 0, 0⟩
  | .UPD_CFG => ⟨.UPD, 0xc, false, .RW, [], 0x258, 0x1ffff⟩
  | .UPD_INT_STAT => ⟨.UPD, 0x10, false, .W1C, [], 0, 0xff⟩
  | .UPD_INT_EN => ⟨.UPD, 0x14, false, .RW, [], 0, 0xff⟩
  | .UPD_LOCK => ⟨.UPD, 0x18, false, .RO, [], 0, 0⟩
  | .UPD_LAST_STATUS => ⟨.UPD, 0x1c, false, .RO, [], 0, 0⟩
  | .UPD_NEXT => ⟨.UPD, 0x20, false, .RO, [], 0, 0⟩
  | .UPD_RUN_VER => ⟨.UPD, 0x24, false, .RO, [], 0, 0⟩
  | .UPD_CONFIRM_LEFT => ⟨.UPD, 0x28, false, .RO, [], 0, 0⟩
  | .UPD_SESSION => ⟨.UPD, 0x2c, false, .RO, [], 0, 0⟩
  | .UPD_SLOT_STAT => ⟨.UPD, 0x30, false, .RO, [(2, 0x10)], 0, 0⟩
  | .UPD_SLOT_VER => ⟨.UPD, 0x34, false, .RO, [(2, 0x10)], 0, 0⟩
  | .UPD_SLOT_FLOOR => ⟨.UPD, 0x38, false, .RO, [(2, 0x10)], 0, 0⟩
  | .UPD_SLOT_SEQ => ⟨.UPD, 0x3c, false, .RO, [(2, 0x10)], 0, 0⟩
  | .UPD_SVC_IP4 => ⟨.UPD, 0x50, false, .RW, [(2, 8)], 0, 0xffffffff⟩
  | .UPD_SVC_PORT => ⟨.UPD, 0x54, false, .RW, [(2, 8)], 0xc4f4, 0xffff⟩
  | .UPD_PKT_RX => ⟨.UPD, 0x60, false, .RC, [], 0, 0⟩
  | .UPD_PKT_BUSY => ⟨.UPD, 0x64, false, .RC, [], 0, 0⟩
  | .UPD_AUTH_FAILS => ⟨.UPD, 0x68, false, .RC, [], 0, 0⟩
  | .UPD_MC_STAT => ⟨.UPD, 0x70, false, .RO, [], 0, 0⟩
  | .GLB_ID => ⟨.GLB, 0, false, .RO, [], 0x71280100, 0⟩
  | .GLB_CHIP => ⟨.GLB, 4, false, .RO, [], 0, 0⟩
  | .GLB_SERIAL => ⟨.GLB, 8, true, .RO, [], 0, 0⟩
  | .GLB_ROLE => ⟨.GLB, 0x10, false, .RW, [], 0, 3⟩
  | .GLB_CTRL => ⟨.GLB, 0x14, false, .WO, [], 0, 0xffffffff⟩
  | .GLB_INT_SUM => ⟨.GLB, 0x18, false, .RO, [], 0, 0⟩
  | .GLB_INT_VEC => ⟨.GLB, 0x20, false, .RW, [(18, 4)], 0, 0x800000ff⟩
  | .GLB_INT_STAT => ⟨.GLB, 0x70, false, .W1C, [], 0, 0xf⟩
  | .GLB_INT_EN => ⟨.GLB, 0x74, false, .RW, [], 0, 0xf⟩
  | .GLB_ALERT_STAT => ⟨.GLB, 0x78, false, .W1C, [], 0, 0x3ff⟩
  | .GLB_ALERT_EN => ⟨.GLB, 0x7c, false, .RW, [], 0x3ff, 0x3ff⟩
  | .GLB_TEMP => ⟨.GLB, 0x80, false, .RO, [], 0, 0⟩
  | .GLB_TEMP_CFG => ⟨.GLB, 0x84, false, .RW, [], 0x69, 0xff⟩
  | .GLB_TEMP_MAX => ⟨.GLB, 0x88, false, .RC, [], 0, 0⟩
  | .GLB_PCIE_STAT => ⟨.GLB, 0x90, false, .RO, [], 0, 0⟩
  | .GLB_PCIE_ERR => ⟨.GLB, 0x94, false, .RC, [], 0, 0⟩
  | .GLB_BAR2_MISS => ⟨.GLB, 0x98, false, .RC, [], 0, 0⟩
  | .GLB_SCRATCH => ⟨.GLB, 0xa0, false, .RW, [], 0, 0xffffffff⟩
  | .BOOT_PROT => ⟨.BOOT, 0, false, .RWB, [], 0, 0xfe000000⟩
  | .BOOT_STAGE => ⟨.BOOT, 4, false, .RO, [], 0, 0⟩
  | .BOOT_CAUSE => ⟨.BOOT, 8, false, .RO, [], 0, 0⟩
  | .BOOT_FAIL => ⟨.BOOT, 0xc, false, .RO, [], 0, 0⟩
  | .BOOT_WDOG => ⟨.BOOT, 0x10, false, .RWB, [], 0x3e8, 0xffff⟩
  | .BOOT_WDOG_KICK => ⟨.BOOT, 0x14, false, .WO, [], 0, 0xffffffff⟩
  | .BOOT_WARMS => ⟨.BOOT, 0x18, false, .RC, [], 0, 0⟩
  | .BOOT_IMG_VER => ⟨.BOOT, 0x1c, false, .RO, [], 0, 0⟩
  | .BOOT_TIME => ⟨.BOOT, 0x20, false, .RO, [(8, 4)], 0, 0⟩
  | .BOOT_KEYTAB_DIG => ⟨.BOOT, 0x40, false, .RO, [(12, 4)], 0, 0⟩
  | .BOOT_FUSE_REP => ⟨.BOOT, 0x70, false, .RO, [], 0, 0⟩
  | .INS_CAPS => ⟨.INS, 0, false, .RO, [], 0x1b0400, 0⟩
  | .INS_STATE => ⟨.INS, 4, false, .RO, [], 0, 0⟩
  | .INS_OPSEC => ⟨.INS, 8, true, .RO, [], 0, 0⟩
  | .INS_PCYCLES => ⟨.INS, 0x10, false, .RO, [], 0, 0⟩
  | .INS_WAKE_SRC => ⟨.INS, 0x14, false, .RC, [], 0, 0⟩
  | .INS_INT_STAT => ⟨.INS, 0x18, false, .W1C, [], 0, 0xf⟩
  | .INS_INT_EN => ⟨.INS, 0x1c, false, .RW, [], 0, 0xf⟩
  | .INS_CLK_REQ => ⟨.INS, 0x20, false, .RO, [], 3, 0⟩
  | .INS_CLK_RUN => ⟨.INS, 0x24, false, .RO, [], 3, 0⟩
  | .INS_CLK_CFG => ⟨.INS, 0x28, false, .RW, [], 0x4000a, 0x7ffff⟩
  | .INS_CLK_FORCE => ⟨.INS, 0x2c, false, .RW, [], 0, 0x7ffffff⟩
  | .INS_PLL_STARTS => ⟨.INS, 0x30, false, .RC, [], 0, 0⟩
  | .INS_PLL_FAIL => ⟨.INS, 0x34, false, .RO, [], 0, 0⟩
  | .INS_RET_STAT => ⟨.INS, 0x38, false, .RO, [], 0, 0⟩
  | .INS_XTAL => ⟨.INS, 0x3c, false, .RO, [], 0, 0⟩
  | .INS_PWR => ⟨.INS, 0x40, false, .RO, [(11, 4)], 0, 0⟩
  | .INS_PMBUS_CFG => ⟨.INS, 0x80, false, .RW, [], 0x64, 0x8000ffff⟩
  | .INS_RAIL => ⟨.INS, 0x90, false, .RO, [(8, 4)], 0, 0⟩

/-- The base of a block in BAR0 (the global address map, Table 18.1). -/
def Blk.base : Blk → Nat
  | .GLB => 0x0
  | .BOOT => 0x100000
  | .TWL => 0x1000000
  | .ING => 0x2000000
  | .EGR => 0x3000000
  | .NIM => 0x4000000
  | .TWD => 0x5000000
  | .ASP => 0x6000000
  | .VMP => 0x7000000
  | .LST => 0x8000000
  | .NTM => 0x9000000
  | .WLT => 0xa000000
  | .NPT => 0xb000000
  | .RSL => 0xc000000
  | .AWL => 0xd000000
  | .SET => 0xd800000
  | .UPD => 0xe000000
  | .INS => 0xf000000

/-- The block's bit in GLB_INT_SUM and its index in GLB_INT_VEC (R622). -/
def Blk.index : Blk → Nat
  | .GLB => 0
  | .BOOT => 1
  | .TWL => 2
  | .ING => 3
  | .EGR => 4
  | .NIM => 5
  | .TWD => 6
  | .ASP => 7
  | .VMP => 8
  | .LST => 9
  | .NTM => 10
  | .WLT => 11
  | .NPT => 12
  | .RSL => 13
  | .AWL => 14
  | .SET => 15
  | .UPD => 16
  | .INS => 17

/-- The registers of one block, in offset order. -/
def Blk.regs : Blk → List Reg
  | .GLB => [.GLB_ID, .GLB_CHIP, .GLB_SERIAL, .GLB_ROLE, .GLB_CTRL, .GLB_INT_SUM, .GLB_INT_VEC, .GLB_INT_STAT,
      .GLB_INT_EN, .GLB_ALERT_STAT, .GLB_ALERT_EN, .GLB_TEMP, .GLB_TEMP_CFG, .GLB_TEMP_MAX, .GLB_PCIE_STAT,
      .GLB_PCIE_ERR, .GLB_BAR2_MISS, .GLB_SCRATCH]
  | .BOOT => [.BOOT_PROT, .BOOT_STAGE, .BOOT_CAUSE, .BOOT_FAIL, .BOOT_WDOG, .BOOT_WDOG_KICK, .BOOT_WARMS,
      .BOOT_IMG_VER, .BOOT_TIME, .BOOT_KEYTAB_DIG, .BOOT_FUSE_REP]
  | .TWL => [.TWL_CAPS, .TWL_CTRL, .TWL_STATUS, .TWL_CAL_LIMIT, .TWL_MARGIN, .TWL_LK_LIMIT, .TWL_LATENCY,
      .TWL_INT_STAT, .TWL_INT_EN, .TWL_CW_CORR, .TWL_CW_UNCORR, .TWL_BAD_HDR, .TWL_HOP_DROP, .TWL_NO_ROUTE,
      .TWL_ADMIT_REFUSED, .TWL_KILLED, .TWL_DIR_INDEX, .TWL_DIR_DATA, .TWL_DIR_CMD, .TWL_DIR_RESULT,
      .TWL_DIR_ACK_TO, .TWL_DIR_COUNT, .TWL_DIR_OWN, .TWL_DIR_OVF, .TWL_DIR_SEQ, .TWL_DIR_LAG,
      .TWL_DIR_CONFLICT, .TWL_RSET_USED, .TWL_V6PFX, .TWL_V6SRC, .TWL_SPARE_MAP, .TWL_SWAP_CTRL,
      .TWL_SWAP_STAT, .TWL_SP_STAT, .TWL_SP_RES, .TWL_SP_EGR_RES, .TWL_SP_FREE, .TWL_SP_AQ_ACTIVE,
      .TWL_SP_FAIR_VIOL, .TWL_SP_CELLS_IN, .TWL_SP_CELLS_OUT, .TWL_SP_SEQ_GAP, .TWL_LK_STAT, .TWL_LK_RES,
      .TWL_LK_SHED, .TWL_LK_CW_CORR, .TWL_LK_FWD, .TWL_LK_TX_CELLS, .TWL_LK_RX_CELLS, .TWL_AQ_STAT,
      .TWL_ST_CFG, .TWL_ST_CELLS]
  | .ING => [.ING_CAPS, .ING_CTRL, .ING_STATUS, .ING_POOL_PAGES, .ING_POOL_USED, .ING_POOL_LOW, .ING_INT_STAT,
      .ING_INT_EN, .ING_UNMATCHED, .ING_UNBOUND, .ING_LOSS_SUM, .ING_IN_CFG, .ING_IN_SYNC, .ING_IN_STAT,
      .ING_IN_FMT, .ING_IN_ALLOC, .ING_IN_PHASE, .ING_IN_SLIP, .ING_IN_BADFRM, .ING_IN_LOSSCNT,
      .ING_SDI_CFG, .ING_SDI_RATE, .ING_SDI_352, .ING_SDI_CRC, .ING_SDI_ANCDROP, .ING_SDI_AUDGRP,
      .ING_PKT_VID, .ING_PKT_PD, .ING_PKT_PDMEAS, .ING_PKT_STAT, .ING_PKT_RXA, .ING_PKT_RXB, .ING_PKT_DUP,
      .ING_PKT_LATE, .ING_AFL_CFG, .ING_AFL_FMT, .ING_AFL_OFF, .ING_AFL_STAT, .ING_ANF_CFG, .ING_ANF_STAT]
  | .EGR => [.EGR_CAPS, .EGR_CTRL, .EGR_STATUS, .EGR_TAKE_CFG, .EGR_INT_STAT, .EGR_INT_EN, .EGR_HEALTH_CFG,
      .EGR_HEALTH_CTRL, .EGR_HEALTH_STAT, .EGR_HEALTH_MASK_A, .EGR_HEALTH_MASK_B, .EGR_JOIN_TIMING,
      .EGR_OTD_CFG, .EGR_OTD_PHASE, .EGR_OTD_FCNT, .EGR_OTD_STAT, .EGR_PAT_CFG, .EGR_PAT_COLOR,
      .EGR_OUT_CFG, .EGR_OUT_TAKE, .EGR_OUT_SDI, .EGR_OUT_AUD, .EGR_OUT_STAT, .EGR_OUT_GAP,
      .EGR_OUT_ANCDROP, .EGR_OUT_IDENT, .EGR_VSND_CFG, .EGR_VSND_SRC, .EGR_VSND_PORT, .EGR_VSND_STAT,
      .EGR_VSND_TXA, .EGR_VSND_TXB, .EGR_VSND_LATE, .EGR_VSND_MISS, .EGR_ASND_CFG, .EGR_ASND_FMT,
      .EGR_ASND_PORT, .EGR_ASND_TX, .EGR_XSND_CFG, .EGR_XSND_PORT, .EGR_XSND_TX, .EGR_JOIN_ENT,
      .EGR_JOIN_STAT, .EGR_JOIN_REP]
  | .NIM => [.NIM_CAPS, .NIM_CTRL, .NIM_STATUS, .NIM_INT_STAT, .NIM_INT_EN, .NIM_EXEC_CFG, .NIM_JRN_CFG,
      .NIM_PAIR_CFG, .NIM_PAIR_STAT, .NIM_JRN_FREE, .NIM_JRN_OPEN, .NIM_REPLAY, .NIM_ACCEPTED,
      .NIM_COMPLETED, .NIM_REFUSED, .NIM_DUP, .NIM_CQ_LOST, .NIM_TRAP_LAST, .NIM_AFF_MAP, .NIM_CORE_STAT,
      .NIM_CORE_TRAPS, .NIM_SQ_BASE, .NIM_CQ_BASE, .NIM_Q_CFG, .NIM_SQ_TAIL, .NIM_SQ_HEAD, .NIM_CQ_HEAD,
      .NIM_CQ_TAIL, .NIM_Q_STAT, .NIM_Q_HWM, .NIM_Q_REFUSED, .NIM_SVC_CFG, .NIM_SVC_STAT, .NIM_SVC_SEQ,
      .NIM_SVC_TRAP]
  | .TWD => [.TWD_CAPS, .TWD_CTRL, .TWD_STATUS, .TWD_IN_RES, .TWD_OUT_RES, .TWD_INT_STAT, .TWD_INT_EN,
      .TWD_MEM_CORR, .TWD_PLACE, .TWD_FOLLOW, .TWD_BTX_CFG, .TWD_BTX_FLOW, .TWD_BTX_CELLS, .TWD_BRX_CFG,
      .TWD_BRX_STAT, .TWD_CORE_CFG, .TWD_CORE_RUN, .TWD_CORE_AT, .TWD_CORE_STAT, .TWD_CORE_FLAGS,
      .TWD_CORE_CYC, .TWD_CORE_CYCMAX, .TWD_CORE_OVR, .TWD_CORE_UNDER, .TWD_CORE_TRAP, .TWD_CORE_BLK,
      .TWD_CORE_LATE]
  | .ASP => [.ASP_CAPS, .ASP_CTRL, .ASP_STATUS, .ASP_INT_STAT, .ASP_INT_EN, .ASP_INT_SRC, .ASP_TX_CFG,
      .ASP_TX_FMT, .ASP_TX_MASK, .ASP_TX_ACT, .ASP_TX_STAT, .ASP_TX_FAULTS, .ASP_TX_SLIP, .ASP_TX_PERIOD,
      .ASP_TX_KILLED, .ASP_RX_CFG, .ASP_RX_FMT, .ASP_RX_MASK, .ASP_RX_ACT, .ASP_RX_STAT, .ASP_RX_FAULTS,
      .ASP_RX_SLIP, .ASP_RX_PERIOD, .ASP_RX_KILLED]
  | .VMP => [.VMP_CAPS, .VMP_CTRL, .VMP_STATUS, .VMP_INT_STAT, .VMP_INT_EN, .VMP_BUDGET, .VMP_PIPE_CFG,
      .VMP_PIPE_BG, .VMP_PIPE_STAT, .VMP_PIPE_READ, .VMP_PIPE_APPLIED, .VMP_PIPE_PEND, .VMP_PIPE_NRDY,
      .VMP_PIPE_LATE, .VMP_PIPE_REPL, .VMP_PIPE_HELD, .VMP_PIPE_LBFAIL, .VMP_LAYER_STAT, .VMP_SURF_CFG,
      .VMP_SURF_SIZE, .VMP_SURF_PITCH, .VMP_SURF_GEN, .VMP_SURF_USE]
  | .LST => [.LST_CAPS, .LST_CTRL, .LST_STATUS, .LST_VALID, .LST_QUAL, .LST_INT_STAT, .LST_INT_EN, .LST_CFG,
      .LST_SLEW, .LST_HOLD_CFG, .LST_HOLD_LIM, .LST_FREQ, .LST_HOLD_FREQ, .LST_STEER, .LST_STEER_RATE,
      .LST_PHASE_ERR, .LST_SLEW_LEFT, .LST_HOLD_STAT, .LST_AGE, .LST_AGE_PRED, .LST_SWITCHES, .LST_TAG,
      .LST_REF_CFG, .LST_REF_WTR, .LST_REF_STAT, .LST_REF_FOFF, .LST_REF_LOSS, .LST_REF_PEER, .LST_TB_STAT]
  | .NTM => [.NTM_CAPS, .NTM_CTRL, .NTM_STATUS, .NTM_INT_STAT, .NTM_INT_EN, .NTM_TRG_SRC, .NTM_CLOCKID,
      .NTM_TB_CFG, .NTM_TB_STAT, .NTM_TB_NS, .NTM_TB_FRAC, .NTM_TB_SEC, .NTM_TB_NIM, .NTM_TB_ADJ_SEC,
      .NTM_TB_ADJ_NS, .NTM_TB_ADJ, .NTM_TB_ALIGN_OFF, .NTM_TB_STEPS, .NTM_SRV_CFG, .NTM_SRV_STAT,
      .NTM_SRV_OFFSET, .NTM_SRV_FEED, .NTM_SRV_SAMPLES, .NTM_SRV_REJECT, .NTM_INST_CFG, .NTM_INST_INTV,
      .NTM_INST_DS0, .NTM_INST_DS1, .NTM_INST_GMID, .NTM_INST_GMDS, .NTM_INST_GMVAR, .NTM_INST_TPROP,
      .NTM_PHY_TXLAT, .NTM_PHY_RXLAT, .NTM_PHY_TXABORT, .NTM_PORT_CFG, .NTM_PORT_ASYM, .NTM_PORT_PARENT,
      .NTM_PORT_STAT, .NTM_PORT_MPD, .NTM_PORT_RXMSG, .NTM_PORT_TXMSG, .NTM_TRG_CFG, .NTM_TRG_STAT,
      .NTM_TRG_T, .NTM_TRG_PNUM, .NTM_TRG_PDEN, .NTM_TRG_LATE, .NTM_TRG_MISSED, .NTM_CAP_CFG,
      .NTM_CAP_STAT, .NTM_CAP_NS, .NTM_CAP_HI, .NTM_CAP_OVF]
  | .WLT => [.WLT_CAPS, .WLT_INT_STAT, .WLT_INT_EN, .WLT_LK_SRC, .WLT_QUAL, .WLT_EYE_MIN, .WLT_NL_CLKMOVE,
      .WLT_LANE_CFG, .WLT_LANE_TXEQ, .WLT_LANE_CTRL, .WLT_LANE_STAT, .WLT_LANE_EYE, .WLT_LANE_DFE,
      .WLT_LANE_ERR, .WLT_LANE_FEC_UNC, .WLT_LANE_LOL, .WLT_LANE_PRBS, .WLT_LANE_PRBS_ERR, .WLT_LK_CFG,
      .WLT_LK_CTRL, .WLT_LK_STAT, .WLT_LK_PEER, .WLT_LK_BRINGUP, .WLT_LK_DOWNS, .WLT_LK_DEGRADES,
      .WLT_LK_REPLAY]
  | .NPT => [.NPT_CAPS, .NPT_CTRL, .NPT_STATUS, .NPT_INT_STAT, .NPT_INT_EN, .NPT_LINK, .NPT_MAC_BASE,
      .NPT_WAKE_PAT, .NPT_STEER_MISS, .NPT_STEER_DROP, .NPT_GRP_CFG, .NPT_PORT_CFG, .NPT_PORT_PRIO,
      .NPT_PORT_IP4, .NPT_PORT_IP6, .NPT_PORT_EEE, .NPT_PORT_STAT, .NPT_RX_FRAMES, .NPT_RX_BYTES,
      .NPT_TX_FRAMES, .NPT_TX_BYTES, .NPT_RX_FCS, .NPT_RX_LEN, .NPT_RX_TAG, .NPT_RX_ADDR, .NPT_RX_CSUM,
      .NPT_PAUSE_RX, .NPT_PAUSE_IGN, .NPT_LINK_DOWNS, .NPT_LPI_ENTRIES, .NPT_TX_DISCARD, .NPT_STEER,
      .NPT_RXR_BASE, .NPT_RXR_CFG, .NPT_RXR_TAIL, .NPT_RXR_HEAD, .NPT_RXR_DROP, .NPT_RXR_FRAMES,
      .NPT_TXR_BASE, .NPT_TXR_CFG, .NPT_TXR_TAIL, .NPT_TXR_HEAD, .NPT_EP_CFG, .NPT_EP_MAC, .NPT_EP_MACHI,
      .NPT_EP_DPORT, .NPT_EP_ADDR]
  | .RSL => [.RSL_CAPS, .RSL_CTRL, .RSL_STATUS, .RSL_INT_STAT, .RSL_INT_EN, .RSL_XCHK_CFG, .RSL_XCHK_LAST,
      .RSL_XCHK_DIV, .RSL_XCHK_EXPL, .RSL_XCHK_MISS, .RSL_PAIR_CFG, .RSL_PAIR_STAT, .RSL_FENCE_CTRL,
      .RSL_FENCE_STAT, .RSL_SPARE_CFG, .RSL_SPARE_LIST, .RSL_SPARE_CTRL, .RSL_SPARE_STAT, .RSL_UNIT_CTRL,
      .RSL_UNIT_STAT, .RSL_UNIT_CORR, .RSL_UNIT_SWAPS, .RSL_PHYS_STAT, .RSL_REPAIR_USED, .RSL_SRAM_REP,
      .RSL_HBM_PPR, .RSL_HBM_RETIRED, .RSL_AUTO, .RSL_AVS_CFG, .RSL_AVS_STAT, .RSL_MRAM_SCRUB,
      .RSL_FLASH_WEAR, .RSL_DRAIN_OVR]
  | .AWL => [.AWL_CAPS, .AWL_CTRL, .AWL_STATUS, .AWL_CFG, .AWL_INT_STAT, .AWL_INT_EN, .AWL_SEQ_NEXT, .AWL_OLDEST,
      .AWL_COUNT, .AWL_HEAD, .AWL_EPOCH, .AWL_LOST, .AWL_OVERWRITTEN, .AWL_MERGED, .AWL_RD_IDX,
      .AWL_RD_STAT, .AWL_RD_DATA, .AWL_CLR_NONCE, .AWL_CLR_MAC, .AWL_CLR_CTRL, .AWL_CLR_RESULT]
  | .SET => [.SET_CAPS, .SET_CTRL, .SET_STATUS, .SET_CFG, .SET_INT_STAT, .SET_INT_EN, .SET_SNAP_SEQ,
      .SET_SNAP_OPSEC, .SET_SNAP_LEN, .SET_SNAP_RESULT, .SET_PAIR_FMT, .SET_DELTA_USED, .SET_DELTA_DISCARD,
      .SET_OPSEC, .SET_PCYCLES, .SET_DEMAND_LEFT, .SET_FLOOR, .SET_SECTORS, .SET_SNAPS]
  | .UPD => [.UPD_CAPS, .UPD_CTRL, .UPD_STATUS, .UPD_CFG, .UPD_INT_STAT, .UPD_INT_EN, .UPD_LOCK, .UPD_LAST_STATUS,
      .UPD_NEXT, .UPD_RUN_VER, .UPD_CONFIRM_LEFT, .UPD_SESSION, .UPD_SLOT_STAT, .UPD_SLOT_VER,
      .UPD_SLOT_FLOOR, .UPD_SLOT_SEQ, .UPD_SVC_IP4, .UPD_SVC_PORT, .UPD_PKT_RX, .UPD_PKT_BUSY,
      .UPD_AUTH_FAILS, .UPD_MC_STAT]
  | .INS => [.INS_CAPS, .INS_STATE, .INS_OPSEC, .INS_PCYCLES, .INS_WAKE_SRC, .INS_INT_STAT, .INS_INT_EN,
      .INS_CLK_REQ, .INS_CLK_RUN, .INS_CLK_CFG, .INS_CLK_FORCE, .INS_PLL_STARTS, .INS_PLL_FAIL,
      .INS_RET_STAT, .INS_XTAL, .INS_PWR, .INS_PMBUS_CFG, .INS_RAIL]

/-- A bit field of a register. -/
structure Fld where
  /-- The register that holds it. -/
  reg : Reg
  /-- Its lowest bit. -/
  lo : Nat
  /-- Its width in bits. -/
  len : Nat
  deriving DecidableEq, Repr, Inhabited

-- Fields of the GLB_ registers.
abbrev F.GLB_CHIP_SIDE : Fld := ⟨.GLB_CHIP, 31, 1⟩
abbrev F.GLB_CHIP_DOMAIN : Fld := ⟨.GLB_CHIP, 16, 10⟩
abbrev F.GLB_CHIP_STRAP : Fld := ⟨.GLB_CHIP, 0, 10⟩
abbrev F.GLB_ROLE_ROLE : Fld := ⟨.GLB_ROLE, 0, 2⟩
abbrev F.GLB_INT_VEC_EN : Fld := ⟨.GLB_INT_VEC, 31, 1⟩
abbrev F.GLB_INT_VEC_VECTOR : Fld := ⟨.GLB_INT_VEC, 0, 8⟩
abbrev F.GLB_TEMP_SENSOR : Fld := ⟨.GLB_TEMP, 24, 8⟩
abbrev F.GLB_TEMP_T : Fld := ⟨.GLB_TEMP, 0, 16⟩
abbrev F.GLB_TEMP_CFG_ALARM : Fld := ⟨.GLB_TEMP_CFG, 0, 8⟩
abbrev F.GLB_PCIE_STAT_SPEED : Fld := ⟨.GLB_PCIE_STAT, 28, 4⟩
abbrev F.GLB_PCIE_STAT_WIDTH : Fld := ⟨.GLB_PCIE_STAT, 24, 4⟩
abbrev F.GLB_PCIE_STAT_LTSSM : Fld := ⟨.GLB_PCIE_STAT, 0, 6⟩
-- Fields of the BOOT_ registers.
abbrev F.BOOT_PROT_LOCK : Fld := ⟨.BOOT_PROT, 31, 1⟩
abbrev F.BOOT_PROT_LIB_WP : Fld := ⟨.BOOT_PROT, 30, 1⟩
abbrev F.BOOT_PROT_FACT_WP : Fld := ⟨.BOOT_PROT, 29, 1⟩
abbrev F.BOOT_PROT_KEY_HIDE : Fld := ⟨.BOOT_PROT, 28, 1⟩
abbrev F.BOOT_PROT_JTAG : Fld := ⟨.BOOT_PROT, 26, 2⟩
abbrev F.BOOT_PROT_HOST_BAR2 : Fld := ⟨.BOOT_PROT, 25, 1⟩
abbrev F.BOOT_STAGE_STAGE : Fld := ⟨.BOOT_STAGE, 0, 4⟩
abbrev F.BOOT_CAUSE_SLOT : Fld := ⟨.BOOT_CAUSE, 4, 4⟩
abbrev F.BOOT_CAUSE_CAUSE : Fld := ⟨.BOOT_CAUSE, 0, 4⟩
abbrev F.BOOT_FAIL_UNIT : Fld := ⟨.BOOT_FAIL, 8, 8⟩
abbrev F.BOOT_FAIL_CODE : Fld := ⟨.BOOT_FAIL, 0, 8⟩
abbrev F.BOOT_WDOG_MS : Fld := ⟨.BOOT_WDOG, 0, 16⟩
abbrev F.BOOT_FUSE_REP_N : Fld := ⟨.BOOT_FUSE_REP, 0, 16⟩
-- Fields of the TWL_ registers.
abbrev F.TWL_SP_STAT_STATE : Fld := ⟨.TWL_SP_STAT, 29, 3⟩
abbrev F.TWL_SP_STAT_PHYS : Fld := ⟨.TWL_SP_STAT, 21, 8⟩
abbrev F.TWL_SP_STAT_STREAMS : Fld := ⟨.TWL_SP_STAT, 12, 9⟩
abbrev F.TWL_SP_STAT_AQ_OPEN : Fld := ⟨.TWL_SP_STAT, 5, 7⟩
abbrev F.TWL_LK_STAT_LANES : Fld := ⟨.TWL_LK_STAT, 29, 3⟩
abbrev F.TWL_LK_STAT_RATE : Fld := ⟨.TWL_LK_STAT, 26, 3⟩
abbrev F.TWL_LK_STAT_PEER : Fld := ⟨.TWL_LK_STAT, 16, 10⟩
abbrev F.TWL_LK_STAT_CAP : Fld := ⟨.TWL_LK_STAT, 0, 16⟩
abbrev F.TWL_CTRL_KILL : Fld := ⟨.TWL_CTRL, 1, 1⟩
abbrev F.TWL_CTRL_EN : Fld := ⟨.TWL_CTRL, 0, 1⟩
abbrev F.TWL_STATUS_DIR_RESYNC : Fld := ⟨.TWL_STATUS, 3, 1⟩
abbrev F.TWL_STATUS_DIR_READY : Fld := ⟨.TWL_STATUS, 2, 1⟩
abbrev F.TWL_STATUS_DRAINING : Fld := ⟨.TWL_STATUS, 1, 1⟩
abbrev F.TWL_STATUS_RUN : Fld := ⟨.TWL_STATUS, 0, 1⟩
abbrev F.TWL_CAL_LIMIT_PRESTAGE : Fld := ⟨.TWL_CAL_LIMIT, 16, 12⟩
abbrev F.TWL_CAL_LIMIT_STEADY : Fld := ⟨.TWL_CAL_LIMIT, 0, 12⟩
abbrev F.TWL_MARGIN_SLOTS : Fld := ⟨.TWL_MARGIN, 0, 4⟩
abbrev F.TWL_LK_LIMIT_PRESTAGE : Fld := ⟨.TWL_LK_LIMIT, 8, 6⟩
abbrev F.TWL_LK_LIMIT_STEADY : Fld := ⟨.TWL_LK_LIMIT, 0, 6⟩
abbrev F.TWL_DIR_INDEX_FLOW : Fld := ⟨.TWL_DIR_INDEX, 0, 19⟩
abbrev F.TWL_DIR_CMD_CMD : Fld := ⟨.TWL_DIR_CMD, 0, 2⟩
abbrev F.TWL_DIR_RESULT_BUSY : Fld := ⟨.TWL_DIR_RESULT, 31, 1⟩
abbrev F.TWL_DIR_RESULT_STATUS : Fld := ⟨.TWL_DIR_RESULT, 0, 16⟩
abbrev F.TWL_SPARE_MAP_S1 : Fld := ⟨.TWL_SPARE_MAP, 8, 5⟩
abbrev F.TWL_SPARE_MAP_S0 : Fld := ⟨.TWL_SPARE_MAP, 0, 5⟩
abbrev F.TWL_SWAP_CTRL_GO : Fld := ⟨.TWL_SWAP_CTRL, 31, 1⟩
abbrev F.TWL_SWAP_CTRL_BACK : Fld := ⟨.TWL_SWAP_CTRL, 30, 1⟩
abbrev F.TWL_SWAP_CTRL_SP : Fld := ⟨.TWL_SWAP_CTRL, 16, 8⟩
abbrev F.TWL_SWAP_CTRL_SPARE : Fld := ⟨.TWL_SWAP_CTRL, 0, 1⟩
abbrev F.TWL_SWAP_STAT_STATE : Fld := ⟨.TWL_SWAP_STAT, 30, 2⟩
abbrev F.TWL_SWAP_STAT_STATUS : Fld := ⟨.TWL_SWAP_STAT, 0, 16⟩
abbrev F.TWL_SP_RES_PRESTAGE : Fld := ⟨.TWL_SP_RES, 16, 12⟩
abbrev F.TWL_SP_RES_STEADY : Fld := ⟨.TWL_SP_RES, 0, 12⟩
abbrev F.TWL_SP_EGR_RES_PRESTAGE : Fld := ⟨.TWL_SP_EGR_RES, 16, 12⟩
abbrev F.TWL_SP_EGR_RES_STEADY : Fld := ⟨.TWL_SP_EGR_RES, 0, 12⟩
abbrev F.TWL_SP_AQ_ACTIVE_N : Fld := ⟨.TWL_SP_AQ_ACTIVE, 0, 7⟩
abbrev F.TWL_LK_RES_PRESTAGE : Fld := ⟨.TWL_LK_RES, 16, 16⟩
abbrev F.TWL_LK_RES_STEADY : Fld := ⟨.TWL_LK_RES, 0, 16⟩
abbrev F.TWL_AQ_STAT_OPEN : Fld := ⟨.TWL_AQ_STAT, 31, 1⟩
abbrev F.TWL_AQ_STAT_DPART : Fld := ⟨.TWL_AQ_STAT, 21, 10⟩
abbrev F.TWL_AQ_STAT_DSP : Fld := ⟨.TWL_AQ_STAT, 13, 8⟩
abbrev F.TWL_AQ_STAT_DEPTH : Fld := ⟨.TWL_AQ_STAT, 0, 7⟩
abbrev F.TWL_ST_CFG_VALID : Fld := ⟨.TWL_ST_CFG, 31, 1⟩
abbrev F.TWL_ST_CFG_PRESTAGE : Fld := ⟨.TWL_ST_CFG, 30, 1⟩
abbrev F.TWL_ST_CFG_SLOTS : Fld := ⟨.TWL_ST_CFG, 19, 11⟩
abbrev F.TWL_ST_CFG_FLOW : Fld := ⟨.TWL_ST_CFG, 0, 19⟩
-- Fields of the ING_ registers.
abbrev F.ING_IN_CFG_ENABLE : Fld := ⟨.ING_IN_CFG, 31, 1⟩
abbrev F.ING_IN_CFG_KILL : Fld := ⟨.ING_IN_CFG, 30, 1⟩
abbrev F.ING_IN_CFG_MODE : Fld := ⟨.ING_IN_CFG, 28, 2⟩
abbrev F.ING_IN_CFG_OTD : Fld := ⟨.ING_IN_CFG, 24, 3⟩
abbrev F.ING_IN_CFG_FMT_LOCK : Fld := ⟨.ING_IN_CFG, 23, 1⟩
abbrev F.ING_IN_CFG_FMT_EXPECT : Fld := ⟨.ING_IN_CFG, 15, 8⟩
abbrev F.ING_IN_SYNC_DELAY_FRAMES : Fld := ⟨.ING_IN_SYNC, 22, 10⟩
abbrev F.ING_IN_SYNC_REPEAT_COUNT : Fld := ⟨.ING_IN_SYNC, 14, 8⟩
abbrev F.ING_IN_SYNC_SAFE_LINES : Fld := ⟨.ING_IN_SYNC, 8, 6⟩
abbrev F.ING_IN_SYNC_HYST_LINES : Fld := ⟨.ING_IN_SYNC, 4, 4⟩
abbrev F.ING_IN_STAT_STATE : Fld := ⟨.ING_IN_STAT, 29, 3⟩
abbrev F.ING_IN_STAT_REASON : Fld := ⟨.ING_IN_STAT, 26, 3⟩
abbrev F.ING_IN_STAT_WINDOW : Fld := ⟨.ING_IN_STAT, 25, 1⟩
abbrev F.ING_IN_STAT_DOUBLE : Fld := ⟨.ING_IN_STAT, 24, 1⟩
abbrev F.ING_IN_STAT_KILLED : Fld := ⟨.ING_IN_STAT, 23, 1⟩
abbrev F.ING_IN_STAT_REPEAT_LEFT : Fld := ⟨.ING_IN_STAT, 15, 8⟩
abbrev F.ING_IN_FMT_FORMAT : Fld := ⟨.ING_IN_FMT, 24, 8⟩
abbrev F.ING_IN_FMT_SAMPLING : Fld := ⟨.ING_IN_FMT, 22, 2⟩
abbrev F.ING_IN_FMT_DEPTH : Fld := ⟨.ING_IN_FMT, 20, 2⟩
abbrev F.ING_IN_FMT_FROM_352 : Fld := ⟨.ING_IN_FMT, 19, 1⟩
abbrev F.ING_IN_FMT_LEVEL_B : Fld := ⟨.ING_IN_FMT, 18, 1⟩
abbrev F.ING_IN_FMT_PID_MISMATCH : Fld := ⟨.ING_IN_FMT, 17, 1⟩
abbrev F.ING_SDI_CFG_RATE_FORCE : Fld := ⟨.ING_SDI_CFG, 28, 4⟩
abbrev F.ING_SDI_CFG_BOND : Fld := ⟨.ING_SDI_CFG, 27, 1⟩
abbrev F.ING_SDI_CFG_AUD_EN : Fld := ⟨.ING_SDI_CFG, 26, 1⟩
abbrev F.ING_SDI_CFG_ANC_KEEP : Fld := ⟨.ING_SDI_CFG, 25, 1⟩
abbrev F.ING_PKT_VID_VALID : Fld := ⟨.ING_PKT_VID, 31, 1⟩
abbrev F.ING_PKT_VID_TYPE : Fld := ⟨.ING_PKT_VID, 29, 2⟩
abbrev F.ING_PKT_VID_FLOW : Fld := ⟨.ING_PKT_VID, 0, 19⟩
abbrev F.ING_AFL_CFG_VALID : Fld := ⟨.ING_AFL_CFG, 31, 1⟩
abbrev F.ING_AFL_CFG_KIND : Fld := ⟨.ING_AFL_CFG, 30, 1⟩
abbrev F.ING_AFL_CFG_INPUT : Fld := ⟨.ING_AFL_CFG, 21, 9⟩
abbrev F.ING_AFL_CFG_FLOW : Fld := ⟨.ING_AFL_CFG, 0, 19⟩
abbrev F.ING_AFL_FMT_TB : Fld := ⟨.ING_AFL_FMT, 11, 2⟩
abbrev F.ING_AFL_FMT_PTIME : Fld := ⟨.ING_AFL_FMT, 9, 2⟩
abbrev F.ING_AFL_FMT_RATE : Fld := ⟨.ING_AFL_FMT, 8, 1⟩
abbrev F.ING_AFL_FMT_CHANNELS : Fld := ⟨.ING_AFL_FMT, 0, 8⟩
abbrev F.ING_CTRL_EN : Fld := ⟨.ING_CTRL, 0, 1⟩
abbrev F.ING_STATUS_RUN : Fld := ⟨.ING_STATUS, 0, 1⟩
abbrev F.ING_STATUS_DRAINING : Fld := ⟨.ING_STATUS, 1, 1⟩
abbrev F.ING_IN_ALLOC_RING_FRAMES : Fld := ⟨.ING_IN_ALLOC, 21, 11⟩
abbrev F.ING_IN_ALLOC_PAGES : Fld := ⟨.ING_IN_ALLOC, 0, 21⟩
abbrev F.ING_SDI_RATE_RATE : Fld := ⟨.ING_SDI_RATE, 0, 4⟩
abbrev F.ING_PKT_PD_PD_MAX : Fld := ⟨.ING_PKT_PD, 0, 16⟩
abbrev F.ING_PKT_STAT_PD_EXCEEDED : Fld := ⟨.ING_PKT_STAT, 2, 1⟩
abbrev F.ING_PKT_STAT_PATH_B_OK : Fld := ⟨.ING_PKT_STAT, 1, 1⟩
abbrev F.ING_PKT_STAT_PATH_A_OK : Fld := ⟨.ING_PKT_STAT, 0, 1⟩
abbrev F.ING_AFL_OFF_OFFSET : Fld := ⟨.ING_AFL_OFF, 0, 16⟩
abbrev F.ING_ANF_CFG_VALID : Fld := ⟨.ING_ANF_CFG, 31, 1⟩
abbrev F.ING_ANF_CFG_INPUT : Fld := ⟨.ING_ANF_CFG, 21, 9⟩
abbrev F.ING_ANF_CFG_FLOW : Fld := ⟨.ING_ANF_CFG, 0, 19⟩
-- Fields of the EGR_ registers.
abbrev F.EGR_TAKE_CFG_HORIZON : Fld := ⟨.EGR_TAKE_CFG, 16, 16⟩
abbrev F.EGR_TAKE_CFG_RETRY : Fld := ⟨.EGR_TAKE_CFG, 0, 8⟩
abbrev F.EGR_OUT_TAKE_MISMATCH : Fld := ⟨.EGR_OUT_TAKE, 31, 1⟩
abbrev F.EGR_OUT_TAKE_PENDING : Fld := ⟨.EGR_OUT_TAKE, 28, 3⟩
abbrev F.EGR_OUT_TAKE_PATH_LOST : Fld := ⟨.EGR_OUT_TAKE, 27, 1⟩
abbrev F.EGR_OUT_TAKE_DIRTY : Fld := ⟨.EGR_OUT_TAKE, 26, 1⟩
abbrev F.EGR_OUT_TAKE_BONDED : Fld := ⟨.EGR_OUT_TAKE, 25, 1⟩
abbrev F.EGR_OUT_TAKE_SOURCE : Fld := ⟨.EGR_OUT_TAKE, 0, 19⟩
abbrev F.EGR_OUT_CFG_ENABLE : Fld := ⟨.EGR_OUT_CFG, 31, 1⟩
abbrev F.EGR_OUT_CFG_KILL : Fld := ⟨.EGR_OUT_CFG, 30, 1⟩
abbrev F.EGR_OUT_CFG_SDI_EN : Fld := ⟨.EGR_OUT_CFG, 29, 1⟩
abbrev F.EGR_OUT_CFG_OTD : Fld := ⟨.EGR_OUT_CFG, 26, 3⟩
abbrev F.EGR_OUT_CFG_SAMPLING : Fld := ⟨.EGR_OUT_CFG, 24, 2⟩
abbrev F.EGR_OUT_CFG_DEPTH : Fld := ⟨.EGR_OUT_CFG, 22, 2⟩
abbrev F.EGR_OUT_CFG_OVERRIDE : Fld := ⟨.EGR_OUT_CFG, 20, 2⟩
abbrev F.EGR_OUT_CFG_PAT : Fld := ⟨.EGR_OUT_CFG, 16, 4⟩
abbrev F.EGR_OUT_CFG_IDENT_POS : Fld := ⟨.EGR_OUT_CFG, 13, 3⟩
abbrev F.EGR_OUT_SDI_BOND : Fld := ⟨.EGR_OUT_SDI, 31, 1⟩
abbrev F.EGR_OUT_SDI_LEVEL_B : Fld := ⟨.EGR_OUT_SDI, 30, 1⟩
abbrev F.EGR_OUT_SDI_PID_EN : Fld := ⟨.EGR_OUT_SDI, 29, 1⟩
abbrev F.EGR_OUT_SDI_ANC_EN : Fld := ⟨.EGR_OUT_SDI, 28, 1⟩
abbrev F.EGR_OUT_AUD_MODE : Fld := ⟨.EGR_OUT_AUD, 30, 2⟩
abbrev F.EGR_OUT_AUD_CHANNELS : Fld := ⟨.EGR_OUT_AUD, 24, 6⟩
abbrev F.EGR_OUT_AUD_BASE : Fld := ⟨.EGR_OUT_AUD, 0, 13⟩
abbrev F.EGR_OUT_STAT_STATE : Fld := ⟨.EGR_OUT_STAT, 29, 3⟩
abbrev F.EGR_OUT_STAT_KILLED : Fld := ⟨.EGR_OUT_STAT, 28, 1⟩
abbrev F.EGR_OUT_STAT_MISMATCH : Fld := ⟨.EGR_OUT_STAT, 27, 1⟩
abbrev F.EGR_OUT_STAT_GAP_BLACK : Fld := ⟨.EGR_OUT_STAT, 26, 1⟩
abbrev F.EGR_OUT_STAT_DIRECT_SLIP : Fld := ⟨.EGR_OUT_STAT, 25, 1⟩
abbrev F.EGR_OUT_STAT_OVERRIDDEN : Fld := ⟨.EGR_OUT_STAT, 24, 1⟩
abbrev F.EGR_VSND_CFG_VALID : Fld := ⟨.EGR_VSND_CFG, 31, 1⟩
abbrev F.EGR_VSND_CFG_TYPE : Fld := ⟨.EGR_VSND_CFG, 30, 1⟩
abbrev F.EGR_VSND_CFG_MODE : Fld := ⟨.EGR_VSND_CFG, 29, 1⟩
abbrev F.EGR_VSND_CFG_TP : Fld := ⟨.EGR_VSND_CFG, 28, 1⟩
abbrev F.EGR_VSND_CFG_DUAL : Fld := ⟨.EGR_VSND_CFG, 27, 1⟩
abbrev F.EGR_VSND_CFG_TAKEOVER : Fld := ⟨.EGR_VSND_CFG, 26, 1⟩
abbrev F.EGR_VSND_CFG_OUTPUT : Fld := ⟨.EGR_VSND_CFG, 19, 7⟩
abbrev F.EGR_VSND_CFG_FLOW : Fld := ⟨.EGR_VSND_CFG, 0, 19⟩
abbrev F.EGR_VSND_PORT_DSCP : Fld := ⟨.EGR_VSND_PORT, 26, 6⟩
abbrev F.EGR_VSND_PORT_PAYLOAD : Fld := ⟨.EGR_VSND_PORT, 13, 11⟩
abbrev F.EGR_VSND_PORT_PORT_B : Fld := ⟨.EGR_VSND_PORT, 8, 5⟩
abbrev F.EGR_VSND_PORT_PORT_A : Fld := ⟨.EGR_VSND_PORT, 0, 5⟩
abbrev F.EGR_ASND_CFG_VALID : Fld := ⟨.EGR_ASND_CFG, 31, 1⟩
abbrev F.EGR_ASND_CFG_KIND : Fld := ⟨.EGR_ASND_CFG, 30, 1⟩
abbrev F.EGR_ASND_CFG_MODE : Fld := ⟨.EGR_ASND_CFG, 29, 1⟩
abbrev F.EGR_ASND_CFG_DUAL : Fld := ⟨.EGR_ASND_CFG, 28, 1⟩
abbrev F.EGR_ASND_CFG_TAKEOVER : Fld := ⟨.EGR_ASND_CFG, 27, 1⟩
abbrev F.EGR_ASND_CFG_OUTPUT : Fld := ⟨.EGR_ASND_CFG, 20, 7⟩
abbrev F.EGR_ASND_CFG_FLOW : Fld := ⟨.EGR_ASND_CFG, 0, 19⟩
abbrev F.EGR_ASND_FMT_LEVEL : Fld := ⟨.EGR_ASND_FMT, 29, 3⟩
abbrev F.EGR_ASND_FMT_RATE : Fld := ⟨.EGR_ASND_FMT, 28, 1⟩
abbrev F.EGR_ASND_FMT_PTIME : Fld := ⟨.EGR_ASND_FMT, 26, 2⟩
abbrev F.EGR_ASND_FMT_CHANNELS : Fld := ⟨.EGR_ASND_FMT, 19, 7⟩
abbrev F.EGR_ASND_FMT_FIRST : Fld := ⟨.EGR_ASND_FMT, 0, 13⟩
abbrev F.EGR_XSND_CFG_VALID : Fld := ⟨.EGR_XSND_CFG, 31, 1⟩
abbrev F.EGR_XSND_CFG_DUAL : Fld := ⟨.EGR_XSND_CFG, 30, 1⟩
abbrev F.EGR_XSND_CFG_TAKEOVER : Fld := ⟨.EGR_XSND_CFG, 29, 1⟩
abbrev F.EGR_XSND_CFG_PID : Fld := ⟨.EGR_XSND_CFG, 28, 1⟩
abbrev F.EGR_XSND_CFG_OUTPUT : Fld := ⟨.EGR_XSND_CFG, 20, 7⟩
abbrev F.EGR_XSND_CFG_FLOW : Fld := ⟨.EGR_XSND_CFG, 0, 19⟩
abbrev F.EGR_CTRL_KILL : Fld := ⟨.EGR_CTRL, 1, 1⟩
abbrev F.EGR_CTRL_EN : Fld := ⟨.EGR_CTRL, 0, 1⟩
abbrev F.EGR_STATUS_DRAINING : Fld := ⟨.EGR_STATUS, 1, 1⟩
abbrev F.EGR_STATUS_RUN : Fld := ⟨.EGR_STATUS, 0, 1⟩
abbrev F.EGR_HEALTH_CFG_RELEASE_OTD : Fld := ⟨.EGR_HEALTH_CFG, 16, 3⟩
abbrev F.EGR_HEALTH_CFG_RISE_MS : Fld := ⟨.EGR_HEALTH_CFG, 0, 16⟩
abbrev F.EGR_HEALTH_CTRL_RELEASE_A : Fld := ⟨.EGR_HEALTH_CTRL, 31, 1⟩
abbrev F.EGR_HEALTH_CTRL_RELEASE_B : Fld := ⟨.EGR_HEALTH_CTRL, 30, 1⟩
abbrev F.EGR_HEALTH_STAT_HEALTH_A : Fld := ⟨.EGR_HEALTH_STAT, 31, 1⟩
abbrev F.EGR_HEALTH_STAT_HEALTH_B : Fld := ⟨.EGR_HEALTH_STAT, 30, 1⟩
abbrev F.EGR_HEALTH_STAT_FAIL_A : Fld := ⟨.EGR_HEALTH_STAT, 4, 4⟩
abbrev F.EGR_HEALTH_STAT_FAIL_B : Fld := ⟨.EGR_HEALTH_STAT, 0, 4⟩
abbrev F.EGR_JOIN_TIMING_URI : Fld := ⟨.EGR_JOIN_TIMING, 16, 16⟩
abbrev F.EGR_JOIN_TIMING_ROBUSTNESS : Fld := ⟨.EGR_JOIN_TIMING, 0, 4⟩
abbrev F.EGR_OTD_CFG_ENABLE : Fld := ⟨.EGR_OTD_CFG, 31, 1⟩
abbrev F.EGR_OTD_CFG_TB : Fld := ⟨.EGR_OTD_CFG, 29, 2⟩
abbrev F.EGR_OTD_CFG_COLOR : Fld := ⟨.EGR_OTD_CFG, 28, 1⟩
abbrev F.EGR_OTD_CFG_FORMAT : Fld := ⟨.EGR_OTD_CFG, 16, 8⟩
abbrev F.EGR_OTD_STAT_ALIGNED : Fld := ⟨.EGR_OTD_STAT, 31, 1⟩
abbrev F.EGR_OTD_STAT_REALIGNING : Fld := ⟨.EGR_OTD_STAT, 30, 1⟩
abbrev F.EGR_OTD_STAT_REALIGNS : Fld := ⟨.EGR_OTD_STAT, 0, 16⟩
abbrev F.EGR_PAT_CFG_ENABLE : Fld := ⟨.EGR_PAT_CFG, 31, 1⟩
abbrev F.EGR_PAT_CFG_OTD : Fld := ⟨.EGR_PAT_CFG, 28, 3⟩
abbrev F.EGR_PAT_CFG_TONE : Fld := ⟨.EGR_PAT_CFG, 27, 1⟩
abbrev F.EGR_PAT_CFG_TONE_ID : Fld := ⟨.EGR_PAT_CFG, 26, 1⟩
abbrev F.EGR_PAT_CFG_PATTERN : Fld := ⟨.EGR_PAT_CFG, 0, 3⟩
abbrev F.EGR_PAT_COLOR_Y : Fld := ⟨.EGR_PAT_COLOR, 20, 10⟩
abbrev F.EGR_PAT_COLOR_CB : Fld := ⟨.EGR_PAT_COLOR, 10, 10⟩
abbrev F.EGR_PAT_COLOR_CR : Fld := ⟨.EGR_PAT_COLOR, 0, 10⟩
abbrev F.EGR_VSND_SRC_SOURCE : Fld := ⟨.EGR_VSND_SRC, 0, 19⟩
abbrev F.EGR_VSND_STAT_RUN : Fld := ⟨.EGR_VSND_STAT, 31, 1⟩
abbrev F.EGR_VSND_STAT_LEG_A : Fld := ⟨.EGR_VSND_STAT, 30, 1⟩
abbrev F.EGR_VSND_STAT_LEG_B : Fld := ⟨.EGR_VSND_STAT, 29, 1⟩
abbrev F.EGR_ASND_PORT_DSCP : Fld := ⟨.EGR_ASND_PORT, 26, 6⟩
abbrev F.EGR_ASND_PORT_PORT_B : Fld := ⟨.EGR_ASND_PORT, 8, 5⟩
abbrev F.EGR_ASND_PORT_PORT_A : Fld := ⟨.EGR_ASND_PORT, 0, 5⟩
abbrev F.EGR_XSND_PORT_DSCP : Fld := ⟨.EGR_XSND_PORT, 26, 6⟩
abbrev F.EGR_XSND_PORT_PORT_B : Fld := ⟨.EGR_XSND_PORT, 8, 5⟩
abbrev F.EGR_XSND_PORT_PORT_A : Fld := ⟨.EGR_XSND_PORT, 0, 5⟩
abbrev F.EGR_JOIN_ENT_VALID : Fld := ⟨.EGR_JOIN_ENT, 31, 1⟩
abbrev F.EGR_JOIN_ENT_PORT : Fld := ⟨.EGR_JOIN_ENT, 21, 5⟩
abbrev F.EGR_JOIN_ENT_FLOW : Fld := ⟨.EGR_JOIN_ENT, 0, 19⟩
abbrev F.EGR_JOIN_STAT_STATE : Fld := ⟨.EGR_JOIN_STAT, 29, 3⟩
-- Fields of the NIM_ registers.
abbrev F.NIM_EXEC_CFG_BUDGET : Fld := ⟨.NIM_EXEC_CFG, 0, 24⟩
abbrev F.NIM_JRN_CFG_RETAIN : Fld := ⟨.NIM_JRN_CFG, 16, 16⟩
abbrev F.NIM_JRN_CFG_LOW : Fld := ⟨.NIM_JRN_CFG, 0, 14⟩
abbrev F.NIM_PAIR_CFG_MODE : Fld := ⟨.NIM_PAIR_CFG, 30, 2⟩
abbrev F.NIM_PAIR_CFG_PARTNER : Fld := ⟨.NIM_PAIR_CFG, 16, 10⟩
abbrev F.NIM_PAIR_CFG_WARM_WAIT : Fld := ⟨.NIM_PAIR_CFG, 0, 16⟩
abbrev F.NIM_Q_CFG_EN : Fld := ⟨.NIM_Q_CFG, 31, 1⟩
abbrev F.NIM_Q_CFG_SIZE : Fld := ⟨.NIM_Q_CFG, 16, 4⟩
abbrev F.NIM_Q_CFG_VECTOR : Fld := ⟨.NIM_Q_CFG, 0, 8⟩
abbrev F.NIM_SVC_CFG_EN : Fld := ⟨.NIM_SVC_CFG, 31, 1⟩
abbrev F.NIM_SVC_CFG_CORE : Fld := ⟨.NIM_SVC_CFG, 21, 4⟩
abbrev F.NIM_SVC_CFG_ENTRY : Fld := ⟨.NIM_SVC_CFG, 0, 21⟩
abbrev F.NIM_CTRL_KILL : Fld := ⟨.NIM_CTRL, 1, 1⟩
abbrev F.NIM_CTRL_EN : Fld := ⟨.NIM_CTRL, 0, 1⟩
abbrev F.NIM_STATUS_PARTNER_WAIT : Fld := ⟨.NIM_STATUS, 4, 1⟩
abbrev F.NIM_STATUS_ALONE : Fld := ⟨.NIM_STATUS, 3, 1⟩
abbrev F.NIM_STATUS_REPLAY : Fld := ⟨.NIM_STATUS, 2, 1⟩
abbrev F.NIM_STATUS_DRAINING : Fld := ⟨.NIM_STATUS, 1, 1⟩
abbrev F.NIM_STATUS_RUN : Fld := ⟨.NIM_STATUS, 0, 1⟩
abbrev F.NIM_PAIR_STAT_PARTNER : Fld := ⟨.NIM_PAIR_STAT, 29, 3⟩
abbrev F.NIM_PAIR_STAT_SINCE : Fld := ⟨.NIM_PAIR_STAT, 0, 16⟩
abbrev F.NIM_REPLAY_COPIED : Fld := ⟨.NIM_REPLAY, 20, 12⟩
abbrev F.NIM_REPLAY_REPLAYED : Fld := ⟨.NIM_REPLAY, 8, 12⟩
abbrev F.NIM_REPLAY_KILLED : Fld := ⟨.NIM_REPLAY, 0, 8⟩
abbrev F.NIM_TRAP_LAST_CODE : Fld := ⟨.NIM_TRAP_LAST, 28, 4⟩
abbrev F.NIM_TRAP_LAST_CORE : Fld := ⟨.NIM_TRAP_LAST, 24, 4⟩
abbrev F.NIM_TRAP_LAST_PC : Fld := ⟨.NIM_TRAP_LAST, 0, 24⟩
abbrev F.NIM_AFF_MAP_CORE : Fld := ⟨.NIM_AFF_MAP, 0, 4⟩
abbrev F.NIM_CORE_STAT_STATE : Fld := ⟨.NIM_CORE_STAT, 29, 3⟩
abbrev F.NIM_CORE_STAT_PHYS : Fld := ⟨.NIM_CORE_STAT, 24, 5⟩
abbrev F.NIM_CORE_STAT_BUSY : Fld := ⟨.NIM_CORE_STAT, 8, 8⟩
abbrev F.NIM_CORE_STAT_WAITING : Fld := ⟨.NIM_CORE_STAT, 0, 8⟩
abbrev F.NIM_SQ_TAIL_INDEX : Fld := ⟨.NIM_SQ_TAIL, 0, 12⟩
abbrev F.NIM_SQ_HEAD_INDEX : Fld := ⟨.NIM_SQ_HEAD, 0, 12⟩
abbrev F.NIM_CQ_HEAD_INDEX : Fld := ⟨.NIM_CQ_HEAD, 0, 12⟩
abbrev F.NIM_CQ_TAIL_INDEX : Fld := ⟨.NIM_CQ_TAIL, 0, 12⟩
abbrev F.NIM_Q_STAT_STATE : Fld := ⟨.NIM_Q_STAT, 29, 3⟩
abbrev F.NIM_Q_STAT_OPEN : Fld := ⟨.NIM_Q_STAT, 0, 13⟩
abbrev F.NIM_SVC_STAT_STATE : Fld := ⟨.NIM_SVC_STAT, 29, 3⟩
abbrev F.NIM_SVC_STAT_RESTARTS : Fld := ⟨.NIM_SVC_STAT, 0, 16⟩
abbrev F.NIM_SVC_TRAP_CODE : Fld := ⟨.NIM_SVC_TRAP, 28, 4⟩
abbrev F.NIM_SVC_TRAP_CORE : Fld := ⟨.NIM_SVC_TRAP, 24, 4⟩
abbrev F.NIM_SVC_TRAP_PC : Fld := ⟨.NIM_SVC_TRAP, 0, 24⟩
-- Fields of the TWD_ registers.
abbrev F.TWD_PLACE_VALID : Fld := ⟨.TWD_PLACE, 31, 1⟩
abbrev F.TWD_PLACE_TBMIS : Fld := ⟨.TWD_PLACE, 30, 1⟩
abbrev F.TWD_PLACE_BASE : Fld := ⟨.TWD_PLACE, 0, 13⟩
abbrev F.TWD_FOLLOW_MODE : Fld := ⟨.TWD_FOLLOW, 30, 2⟩
abbrev F.TWD_FOLLOW_BASE : Fld := ⟨.TWD_FOLLOW, 0, 13⟩
abbrev F.TWD_CORE_STAT_STATE : Fld := ⟨.TWD_CORE_STAT, 29, 3⟩
abbrev F.TWD_CORE_STAT_ARMED : Fld := ⟨.TWD_CORE_STAT, 28, 1⟩
abbrev F.TWD_CORE_STAT_BANK : Fld := ⟨.TWD_CORE_STAT, 27, 1⟩
abbrev F.TWD_CORE_STAT_PENDING : Fld := ⟨.TWD_CORE_STAT, 26, 1⟩
abbrev F.TWD_CORE_STAT_PHYS : Fld := ⟨.TWD_CORE_STAT, 0, 4⟩
abbrev F.TWD_CTRL_KILL : Fld := ⟨.TWD_CTRL, 1, 1⟩
abbrev F.TWD_CTRL_EN : Fld := ⟨.TWD_CTRL, 0, 1⟩
abbrev F.TWD_STATUS_DRAINING : Fld := ⟨.TWD_STATUS, 1, 1⟩
abbrev F.TWD_STATUS_RUN : Fld := ⟨.TWD_STATUS, 0, 1⟩
abbrev F.TWD_IN_RES_N : Fld := ⟨.TWD_IN_RES, 0, 14⟩
abbrev F.TWD_OUT_RES_N : Fld := ⟨.TWD_OUT_RES, 0, 14⟩
abbrev F.TWD_BTX_CFG_VALID : Fld := ⟨.TWD_BTX_CFG, 31, 1⟩
abbrev F.TWD_BTX_CFG_RATE : Fld := ⟨.TWD_BTX_CFG, 30, 1⟩
abbrev F.TWD_BTX_CFG_BASE : Fld := ⟨.TWD_BTX_CFG, 0, 13⟩
abbrev F.TWD_BTX_FLOW_FLOW : Fld := ⟨.TWD_BTX_FLOW, 0, 19⟩
abbrev F.TWD_BRX_CFG_VALID : Fld := ⟨.TWD_BRX_CFG, 31, 1⟩
abbrev F.TWD_BRX_CFG_DELAY : Fld := ⟨.TWD_BRX_CFG, 24, 4⟩
abbrev F.TWD_BRX_CFG_FLOW : Fld := ⟨.TWD_BRX_CFG, 0, 19⟩
abbrev F.TWD_CORE_CFG_ACC_SAT : Fld := ⟨.TWD_CORE_CFG, 31, 1⟩
abbrev F.TWD_CORE_CFG_TB : Fld := ⟨.TWD_CORE_CFG, 29, 2⟩
abbrev F.TWD_CORE_RUN_RUN : Fld := ⟨.TWD_CORE_RUN, 31, 1⟩
abbrev F.TWD_CORE_RUN_BANK : Fld := ⟨.TWD_CORE_RUN, 30, 1⟩
abbrev F.TWD_CORE_RUN_ENTRY : Fld := ⟨.TWD_CORE_RUN, 0, 13⟩
abbrev F.TWD_CORE_FLAGS_KILLED : Fld := ⟨.TWD_CORE_FLAGS, 3, 1⟩
abbrev F.TWD_CORE_FLAGS_LATE_APPLY : Fld := ⟨.TWD_CORE_FLAGS, 2, 1⟩
abbrev F.TWD_CORE_FLAGS_SAT : Fld := ⟨.TWD_CORE_FLAGS, 1, 1⟩
abbrev F.TWD_CORE_FLAGS_ACC_OV : Fld := ⟨.TWD_CORE_FLAGS, 0, 1⟩
abbrev F.TWD_CORE_CYC_N : Fld := ⟨.TWD_CORE_CYC, 0, 18⟩
abbrev F.TWD_CORE_CYCMAX_N : Fld := ⟨.TWD_CORE_CYCMAX, 0, 18⟩
abbrev F.TWD_CORE_TRAP_CODE : Fld := ⟨.TWD_CORE_TRAP, 28, 4⟩
abbrev F.TWD_CORE_TRAP_BANK : Fld := ⟨.TWD_CORE_TRAP, 13, 1⟩
abbrev F.TWD_CORE_TRAP_BUNDLE : Fld := ⟨.TWD_CORE_TRAP, 0, 13⟩
-- Fields of the ASP_ registers.
abbrev F.ASP_TX_CFG_ENABLE : Fld := ⟨.ASP_TX_CFG, 31, 1⟩
abbrev F.ASP_RX_CFG_ENABLE : Fld := ⟨.ASP_RX_CFG, 31, 1⟩
abbrev F.ASP_TX_CFG_KILL : Fld := ⟨.ASP_TX_CFG, 30, 1⟩
abbrev F.ASP_RX_CFG_KILL : Fld := ⟨.ASP_RX_CFG, 30, 1⟩
abbrev F.ASP_TX_CFG_ARM : Fld := ⟨.ASP_TX_CFG, 29, 1⟩
abbrev F.ASP_RX_CFG_ARM : Fld := ⟨.ASP_RX_CFG, 29, 1⟩
abbrev F.ASP_TX_CFG_MASTER : Fld := ⟨.ASP_TX_CFG, 28, 1⟩
abbrev F.ASP_RX_CFG_MASTER : Fld := ⟨.ASP_RX_CFG, 28, 1⟩
abbrev F.ASP_TX_CFG_AUTO_RATE : Fld := ⟨.ASP_TX_CFG, 27, 1⟩
abbrev F.ASP_RX_CFG_AUTO_RATE : Fld := ⟨.ASP_RX_CFG, 27, 1⟩
abbrev F.ASP_TX_CFG_HIZ : Fld := ⟨.ASP_TX_CFG, 26, 1⟩
abbrev F.ASP_RX_CFG_CLK_TX : Fld := ⟨.ASP_RX_CFG, 26, 1⟩
abbrev F.ASP_TX_CFG_TB : Fld := ⟨.ASP_TX_CFG, 24, 2⟩
abbrev F.ASP_RX_CFG_TB : Fld := ⟨.ASP_RX_CFG, 24, 2⟩
abbrev F.ASP_TX_CFG_BASE : Fld := ⟨.ASP_TX_CFG, 0, 13⟩
abbrev F.ASP_RX_CFG_BASE : Fld := ⟨.ASP_RX_CFG, 0, 13⟩
abbrev F.ASP_TX_FMT_MODE : Fld := ⟨.ASP_TX_FMT, 30, 2⟩
abbrev F.ASP_RX_FMT_MODE : Fld := ⟨.ASP_RX_FMT, 30, 2⟩
abbrev F.ASP_TX_FMT_RATE : Fld := ⟨.ASP_TX_FMT, 29, 1⟩
abbrev F.ASP_RX_FMT_RATE : Fld := ⟨.ASP_RX_FMT, 29, 1⟩
abbrev F.ASP_TX_FMT_WIDTH : Fld := ⟨.ASP_TX_FMT, 27, 2⟩
abbrev F.ASP_RX_FMT_WIDTH : Fld := ⟨.ASP_RX_FMT, 27, 2⟩
abbrev F.ASP_TX_FMT_WORD : Fld := ⟨.ASP_TX_FMT, 25, 2⟩
abbrev F.ASP_RX_FMT_WORD : Fld := ⟨.ASP_RX_FMT, 25, 2⟩
abbrev F.ASP_TX_FMT_SLOTS : Fld := ⟨.ASP_TX_FMT, 21, 4⟩
abbrev F.ASP_RX_FMT_SLOTS : Fld := ⟨.ASP_RX_FMT, 21, 4⟩
abbrev F.ASP_TX_FMT_DELAY : Fld := ⟨.ASP_TX_FMT, 20, 1⟩
abbrev F.ASP_RX_FMT_DELAY : Fld := ⟨.ASP_RX_FMT, 20, 1⟩
abbrev F.ASP_TX_FMT_WS_POL : Fld := ⟨.ASP_TX_FMT, 19, 1⟩
abbrev F.ASP_RX_FMT_WS_POL : Fld := ⟨.ASP_RX_FMT, 19, 1⟩
abbrev F.ASP_TX_FMT_BCK_EDGE : Fld := ⟨.ASP_TX_FMT, 18, 1⟩
abbrev F.ASP_RX_FMT_BCK_EDGE : Fld := ⟨.ASP_RX_FMT, 18, 1⟩
abbrev F.ASP_TX_FMT_FSYNC : Fld := ⟨.ASP_TX_FMT, 17, 1⟩
abbrev F.ASP_RX_FMT_FSYNC : Fld := ⟨.ASP_RX_FMT, 17, 1⟩
abbrev F.ASP_TX_FMT_TAIL : Fld := ⟨.ASP_TX_FMT, 8, 8⟩
abbrev F.ASP_RX_FMT_TAIL : Fld := ⟨.ASP_RX_FMT, 8, 8⟩
abbrev F.ASP_TX_FMT_LEAD : Fld := ⟨.ASP_TX_FMT, 0, 8⟩
abbrev F.ASP_RX_FMT_LEAD : Fld := ⟨.ASP_RX_FMT, 0, 8⟩
abbrev F.ASP_TX_STAT_STATE : Fld := ⟨.ASP_TX_STAT, 28, 4⟩
abbrev F.ASP_RX_STAT_STATE : Fld := ⟨.ASP_RX_STAT, 28, 4⟩
abbrev F.ASP_TX_STAT_RATE_SEEN : Fld := ⟨.ASP_TX_STAT, 25, 3⟩
abbrev F.ASP_RX_STAT_RATE_SEEN : Fld := ⟨.ASP_RX_STAT, 25, 3⟩
abbrev F.ASP_TX_STAT_MASK_PENDING : Fld := ⟨.ASP_TX_STAT, 24, 1⟩
abbrev F.ASP_RX_STAT_MASK_PENDING : Fld := ⟨.ASP_RX_STAT, 24, 1⟩
abbrev F.ASP_TX_STAT_TBMIS : Fld := ⟨.ASP_TX_STAT, 23, 1⟩
abbrev F.ASP_RX_STAT_TBMIS : Fld := ⟨.ASP_RX_STAT, 23, 1⟩
abbrev F.ASP_TX_STAT_FILL : Fld := ⟨.ASP_TX_STAT, 19, 4⟩
abbrev F.ASP_RX_STAT_FILL : Fld := ⟨.ASP_RX_STAT, 19, 4⟩
abbrev F.ASP_TX_STAT_LAST_FAULT : Fld := ⟨.ASP_TX_STAT, 16, 3⟩
abbrev F.ASP_RX_STAT_LAST_FAULT : Fld := ⟨.ASP_RX_STAT, 16, 3⟩
abbrev F.ASP_TX_STAT_ARM_FAIL : Fld := ⟨.ASP_TX_STAT, 0, 16⟩
abbrev F.ASP_RX_STAT_ARM_FAIL : Fld := ⟨.ASP_RX_STAT, 0, 16⟩
abbrev F.ASP_CTRL_KILL : Fld := ⟨.ASP_CTRL, 1, 1⟩
abbrev F.ASP_CTRL_EN : Fld := ⟨.ASP_CTRL, 0, 1⟩
abbrev F.ASP_STATUS_DRAINING : Fld := ⟨.ASP_STATUS, 1, 1⟩
abbrev F.ASP_STATUS_RUN : Fld := ⟨.ASP_STATUS, 0, 1⟩
abbrev F.ASP_TX_MASK_SLOTS : Fld := ⟨.ASP_TX_MASK, 0, 16⟩
abbrev F.ASP_RX_MASK_SLOTS : Fld := ⟨.ASP_RX_MASK, 0, 16⟩
abbrev F.ASP_TX_ACT_SLOTS : Fld := ⟨.ASP_TX_ACT, 0, 16⟩
abbrev F.ASP_RX_ACT_SLOTS : Fld := ⟨.ASP_RX_ACT, 0, 16⟩
abbrev F.ASP_TX_PERIOD_N : Fld := ⟨.ASP_TX_PERIOD, 0, 24⟩
abbrev F.ASP_RX_PERIOD_N : Fld := ⟨.ASP_RX_PERIOD, 0, 24⟩
-- Fields of the VMP_ registers.
abbrev F.VMP_PIPE_CFG_ENABLE : Fld := ⟨.VMP_PIPE_CFG, 31, 1⟩
abbrev F.VMP_PIPE_CFG_KILL : Fld := ⟨.VMP_PIPE_CFG, 30, 1⟩
abbrev F.VMP_PIPE_CFG_OTD : Fld := ⟨.VMP_PIPE_CFG, 27, 3⟩
abbrev F.VMP_PIPE_CFG_OUT_FORM : Fld := ⟨.VMP_PIPE_CFG, 26, 1⟩
abbrev F.VMP_PIPE_CFG_GANG : Fld := ⟨.VMP_PIPE_CFG, 25, 1⟩
abbrev F.VMP_PIPE_STAT_STATE : Fld := ⟨.VMP_PIPE_STAT, 29, 3⟩
abbrev F.VMP_PIPE_STAT_KILLED : Fld := ⟨.VMP_PIPE_STAT, 28, 1⟩
abbrev F.VMP_PIPE_STAT_PENDING : Fld := ⟨.VMP_PIPE_STAT, 27, 1⟩
abbrev F.VMP_PIPE_STAT_HOLDING : Fld := ⟨.VMP_PIPE_STAT, 26, 1⟩
abbrev F.VMP_PIPE_STAT_PHYS : Fld := ⟨.VMP_PIPE_STAT, 0, 5⟩
abbrev F.VMP_LAYER_STAT_SHOWN : Fld := ⟨.VMP_LAYER_STAT, 29, 3⟩
abbrev F.VMP_LAYER_STAT_CAUSE : Fld := ⟨.VMP_LAYER_STAT, 26, 3⟩
abbrev F.VMP_LAYER_STAT_NRDY_RUN : Fld := ⟨.VMP_LAYER_STAT, 0, 16⟩
abbrev F.VMP_CTRL_KILL : Fld := ⟨.VMP_CTRL, 1, 1⟩
abbrev F.VMP_CTRL_EN : Fld := ⟨.VMP_CTRL, 0, 1⟩
abbrev F.VMP_STATUS_DRAINING : Fld := ⟨.VMP_STATUS, 1, 1⟩
abbrev F.VMP_STATUS_RUN : Fld := ⟨.VMP_STATUS, 0, 1⟩
abbrev F.VMP_BUDGET_GBS : Fld := ⟨.VMP_BUDGET, 0, 16⟩
abbrev F.VMP_PIPE_BG_Y : Fld := ⟨.VMP_PIPE_BG, 20, 10⟩
abbrev F.VMP_PIPE_BG_CB : Fld := ⟨.VMP_PIPE_BG, 10, 10⟩
abbrev F.VMP_PIPE_BG_CR : Fld := ⟨.VMP_PIPE_BG, 0, 10⟩
abbrev F.VMP_PIPE_READ_N : Fld := ⟨.VMP_PIPE_READ, 0, 18⟩
abbrev F.VMP_PIPE_LBFAIL_SHORT : Fld := ⟨.VMP_PIPE_LBFAIL, 31, 1⟩
abbrev F.VMP_PIPE_LBFAIL_WHERE : Fld := ⟨.VMP_PIPE_LBFAIL, 0, 8⟩
abbrev F.VMP_SURF_CFG_VALID : Fld := ⟨.VMP_SURF_CFG, 31, 1⟩
abbrev F.VMP_SURF_CFG_FMT : Fld := ⟨.VMP_SURF_CFG, 29, 2⟩
abbrev F.VMP_SURF_CFG_FIRST : Fld := ⟨.VMP_SURF_CFG, 0, 15⟩
abbrev F.VMP_SURF_SIZE_W1 : Fld := ⟨.VMP_SURF_SIZE, 16, 14⟩
abbrev F.VMP_SURF_SIZE_H1 : Fld := ⟨.VMP_SURF_SIZE, 0, 14⟩
abbrev F.VMP_SURF_PITCH_PITCH : Fld := ⟨.VMP_SURF_PITCH, 0, 17⟩
abbrev F.VMP_SURF_USE_N : Fld := ⟨.VMP_SURF_USE, 0, 9⟩
-- Fields of the LST_ registers.
abbrev F.LST_STATUS_STATE : Fld := ⟨.LST_STATUS, 29, 3⟩
abbrev F.LST_STATUS_SELECTED : Fld := ⟨.LST_STATUS, 25, 4⟩
abbrev F.LST_STATUS_SLEWING : Fld := ⟨.LST_STATUS, 24, 1⟩
abbrev F.LST_STATUS_LANE_QUAL : Fld := ⟨.LST_STATUS, 23, 1⟩
abbrev F.LST_STATUS_HOLD_SRC : Fld := ⟨.LST_STATUS, 20, 3⟩
abbrev F.LST_STATUS_OSC_OK : Fld := ⟨.LST_STATUS, 19, 1⟩
abbrev F.LST_STATUS_REFCLK : Fld := ⟨.LST_STATUS, 18, 1⟩
abbrev F.LST_STATUS_REFCLK_MASTER : Fld := ⟨.LST_STATUS, 17, 1⟩
abbrev F.LST_STATUS_AGE_WARN : Fld := ⟨.LST_STATUS, 16, 1⟩
abbrev F.LST_STATUS_MODEL_RESET : Fld := ⟨.LST_STATUS, 15, 1⟩
abbrev F.LST_STATUS_FORCED : Fld := ⟨.LST_STATUS, 14, 1⟩
abbrev F.LST_STATUS_PICK : Fld := ⟨.LST_STATUS, 11, 3⟩
abbrev F.LST_CFG_DIS_WINDOW : Fld := ⟨.LST_CFG, 16, 16⟩
abbrev F.LST_CFG_FIRST_QUAL : Fld := ⟨.LST_CFG, 8, 8⟩
abbrev F.LST_CFG_HIST_TOL : Fld := ⟨.LST_CFG, 0, 8⟩
abbrev F.LST_SLEW_RATE : Fld := ⟨.LST_SLEW, 16, 16⟩
abbrev F.LST_SLEW_LIMIT : Fld := ⟨.LST_SLEW, 8, 8⟩
abbrev F.LST_SLEW_STEP : Fld := ⟨.LST_SLEW, 0, 8⟩
abbrev F.LST_HOLD_CFG_WINDOW : Fld := ⟨.LST_HOLD_CFG, 16, 16⟩
abbrev F.LST_HOLD_CFG_GUARD : Fld := ⟨.LST_HOLD_CFG, 0, 16⟩
abbrev F.LST_HOLD_LIM_TMAX : Fld := ⟨.LST_HOLD_LIM, 16, 16⟩
abbrev F.LST_HOLD_LIM_FLIMIT : Fld := ⟨.LST_HOLD_LIM, 0, 16⟩
abbrev F.LST_REF_CFG_RANK : Fld := ⟨.LST_REF_CFG, 28, 4⟩
abbrev F.LST_REF_CFG_TRACK : Fld := ⟨.LST_REF_CFG, 27, 1⟩
abbrev F.LST_REF_CFG_TB : Fld := ⟨.LST_REF_CFG, 25, 2⟩
abbrev F.LST_REF_CFG_ARG : Fld := ⟨.LST_REF_CFG, 17, 8⟩
abbrev F.LST_REF_CFG_BW : Fld := ⟨.LST_REF_CFG, 0, 16⟩
abbrev F.LST_REF_STAT_VALID : Fld := ⟨.LST_REF_STAT, 31, 1⟩
abbrev F.LST_REF_STAT_QUALIFIED : Fld := ⟨.LST_REF_STAT, 30, 1⟩
abbrev F.LST_REF_STAT_SELECTED : Fld := ⟨.LST_REF_STAT, 29, 1⟩
abbrev F.LST_REF_STAT_FAULT : Fld := ⟨.LST_REF_STAT, 26, 3⟩
abbrev F.LST_REF_STAT_DISAGREE : Fld := ⟨.LST_REF_STAT, 25, 1⟩
abbrev F.LST_REF_STAT_PHASE_FAR : Fld := ⟨.LST_REF_STAT, 24, 1⟩
abbrev F.LST_REF_STAT_WTR_LEFT : Fld := ⟨.LST_REF_STAT, 0, 16⟩
abbrev F.LST_CTRL_OPEN : Fld := ⟨.LST_CTRL, 31, 1⟩
abbrev F.LST_CTRL_FORCE_EN : Fld := ⟨.LST_CTRL, 30, 1⟩
abbrev F.LST_CTRL_FORCE_REF : Fld := ⟨.LST_CTRL, 0, 4⟩
abbrev F.LST_STEER_RATE_RATE : Fld := ⟨.LST_STEER_RATE, 0, 16⟩
abbrev F.LST_HOLD_STAT_MINUTES : Fld := ⟨.LST_HOLD_STAT, 16, 16⟩
abbrev F.LST_HOLD_STAT_HOURS : Fld := ⟨.LST_HOLD_STAT, 0, 16⟩
abbrev F.LST_AGE_C0 : Fld := ⟨.LST_AGE, 32, 32⟩
abbrev F.LST_AGE_C1 : Fld := ⟨.LST_AGE, 16, 16⟩
abbrev F.LST_AGE_SIGMA : Fld := ⟨.LST_AGE, 0, 16⟩
abbrev F.LST_TAG_STATE : Fld := ⟨.LST_TAG, 29, 3⟩
abbrev F.LST_TAG_DEPTH : Fld := ⟨.LST_TAG, 16, 4⟩
abbrev F.LST_TAG_ROOT : Fld := ⟨.LST_TAG, 0, 10⟩
abbrev F.LST_REF_WTR_WTR : Fld := ⟨.LST_REF_WTR, 0, 16⟩
abbrev F.LST_REF_PEER_STATE : Fld := ⟨.LST_REF_PEER, 29, 3⟩
abbrev F.LST_REF_PEER_DEPTH : Fld := ⟨.LST_REF_PEER, 16, 4⟩
abbrev F.LST_REF_PEER_ROOT : Fld := ⟨.LST_REF_PEER, 0, 10⟩
abbrev F.LST_TB_STAT_SYNTH : Fld := ⟨.LST_TB_STAT, 31, 1⟩
abbrev F.LST_TB_STAT_AUDIO : Fld := ⟨.LST_TB_STAT, 30, 1⟩
abbrev F.LST_TB_STAT_R : Fld := ⟨.LST_TB_STAT, 0, 24⟩
-- Fields of the NTM_ registers.
abbrev F.NTM_TB_CFG_MODE : Fld := ⟨.NTM_TB_CFG, 30, 2⟩
abbrev F.NTM_TB_CFG_ALIGN : Fld := ⟨.NTM_TB_CFG, 29, 1⟩
abbrev F.NTM_TB_CFG_AUTO_STEP : Fld := ⟨.NTM_TB_CFG, 28, 1⟩
abbrev F.NTM_TB_CFG_ALIGN_SRC : Fld := ⟨.NTM_TB_CFG, 24, 4⟩
abbrev F.NTM_TB_CFG_ALIGN_US : Fld := ⟨.NTM_TB_CFG, 16, 8⟩
abbrev F.NTM_SRV_CFG_STEP_NS : Fld := ⟨.NTM_SRV_CFG, 16, 16⟩
abbrev F.NTM_SRV_CFG_LOCK_NS : Fld := ⟨.NTM_SRV_CFG, 4, 12⟩
abbrev F.NTM_SRV_CFG_STEP_AFTER_LOCK : Fld := ⟨.NTM_SRV_CFG, 3, 1⟩
abbrev F.NTM_SRV_STAT_STATE : Fld := ⟨.NTM_SRV_STAT, 29, 3⟩
abbrev F.NTM_SRV_STAT_SAT : Fld := ⟨.NTM_SRV_STAT, 28, 1⟩
abbrev F.NTM_SRV_STAT_SELECTED : Fld := ⟨.NTM_SRV_STAT, 27, 1⟩
abbrev F.NTM_INST_CFG_EN : Fld := ⟨.NTM_INST_CFG, 31, 1⟩
abbrev F.NTM_INST_CFG_ROLE : Fld := ⟨.NTM_INST_CFG, 28, 3⟩
abbrev F.NTM_INST_CFG_PROFILE : Fld := ⟨.NTM_INST_CFG, 26, 2⟩
abbrev F.NTM_INST_CFG_TRANSPORT : Fld := ⟨.NTM_INST_CFG, 24, 2⟩
abbrev F.NTM_INST_CFG_ONE_STEP : Fld := ⟨.NTM_INST_CFG, 23, 1⟩
abbrev F.NTM_INST_CFG_P2P : Fld := ⟨.NTM_INST_CFG, 22, 1⟩
abbrev F.NTM_INST_CFG_SLAVE_ONLY : Fld := ⟨.NTM_INST_CFG, 21, 1⟩
abbrev F.NTM_INST_CFG_DOMAIN : Fld := ⟨.NTM_INST_CFG, 8, 8⟩
abbrev F.NTM_PORT_CFG_STATE : Fld := ⟨.NTM_PORT_CFG, 29, 3⟩
abbrev F.NTM_PORT_CFG_PARENT_PORT : Fld := ⟨.NTM_PORT_CFG, 0, 16⟩
abbrev F.NTM_TRG_CFG_ARM : Fld := ⟨.NTM_TRG_CFG, 31, 1⟩
abbrev F.NTM_TRG_CFG_KILL : Fld := ⟨.NTM_TRG_CFG, 30, 1⟩
abbrev F.NTM_TRG_CFG_TB : Fld := ⟨.NTM_TRG_CFG, 28, 2⟩
abbrev F.NTM_TRG_CFG_LATE : Fld := ⟨.NTM_TRG_CFG, 26, 2⟩
abbrev F.NTM_TRG_CFG_ACTION : Fld := ⟨.NTM_TRG_CFG, 23, 3⟩
abbrev F.NTM_TRG_CFG_IRQ : Fld := ⟨.NTM_TRG_CFG, 22, 1⟩
abbrev F.NTM_TRG_CFG_POL : Fld := ⟨.NTM_TRG_CFG, 21, 1⟩
abbrev F.NTM_TRG_CFG_GPIO : Fld := ⟨.NTM_TRG_CFG, 16, 5⟩
abbrev F.NTM_TRG_CFG_COUNT : Fld := ⟨.NTM_TRG_CFG, 0, 16⟩
abbrev F.NTM_TRG_STAT_STATE : Fld := ⟨.NTM_TRG_STAT, 30, 2⟩
abbrev F.NTM_TRG_STAT_LATE_LAST : Fld := ⟨.NTM_TRG_STAT, 29, 1⟩
abbrev F.NTM_TRG_STAT_LEFT : Fld := ⟨.NTM_TRG_STAT, 0, 16⟩
abbrev F.NTM_CAP_CFG_EN : Fld := ⟨.NTM_CAP_CFG, 31, 1⟩
abbrev F.NTM_CAP_CFG_TB : Fld := ⟨.NTM_CAP_CFG, 28, 2⟩
abbrev F.NTM_CAP_CFG_EDGE : Fld := ⟨.NTM_CAP_CFG, 26, 2⟩
abbrev F.NTM_CAP_CFG_SRC : Fld := ⟨.NTM_CAP_CFG, 20, 6⟩
abbrev F.NTM_CTRL_RING_TB : Fld := ⟨.NTM_CTRL, 4, 2⟩
abbrev F.NTM_CTRL_KILL : Fld := ⟨.NTM_CTRL, 1, 1⟩
abbrev F.NTM_CTRL_EN : Fld := ⟨.NTM_CTRL, 0, 1⟩
abbrev F.NTM_STATUS_DRAINING : Fld := ⟨.NTM_STATUS, 1, 1⟩
abbrev F.NTM_STATUS_RUN : Fld := ⟨.NTM_STATUS, 0, 1⟩
abbrev F.NTM_TB_STAT_RUNNING : Fld := ⟨.NTM_TB_STAT, 31, 1⟩
abbrev F.NTM_TB_STAT_ALIGN_ERR : Fld := ⟨.NTM_TB_STAT, 28, 1⟩
abbrev F.NTM_TB_FRAC_FRAC : Fld := ⟨.NTM_TB_FRAC, 0, 16⟩
abbrev F.NTM_TB_SEC_SEC : Fld := ⟨.NTM_TB_SEC, 0, 48⟩
abbrev F.NTM_TB_ADJ_SEC_SEC : Fld := ⟨.NTM_TB_ADJ_SEC, 0, 48⟩
abbrev F.NTM_TB_ADJ_KIND : Fld := ⟨.NTM_TB_ADJ, 0, 2⟩
abbrev F.NTM_INST_INTV_ANNOUNCE : Fld := ⟨.NTM_INST_INTV, 24, 8⟩
abbrev F.NTM_INST_INTV_SYNC : Fld := ⟨.NTM_INST_INTV, 16, 8⟩
abbrev F.NTM_INST_INTV_DELAY_REQ : Fld := ⟨.NTM_INST_INTV, 8, 8⟩
abbrev F.NTM_INST_INTV_TIMEOUT : Fld := ⟨.NTM_INST_INTV, 0, 8⟩
abbrev F.NTM_INST_DS0_PRIORITY1 : Fld := ⟨.NTM_INST_DS0, 24, 8⟩
abbrev F.NTM_INST_DS0_PRIORITY2 : Fld := ⟨.NTM_INST_DS0, 16, 8⟩
abbrev F.NTM_INST_DS0_CLASS : Fld := ⟨.NTM_INST_DS0, 8, 8⟩
abbrev F.NTM_INST_DS0_ACCURACY : Fld := ⟨.NTM_INST_DS0, 0, 8⟩
abbrev F.NTM_INST_DS1_VARIANCE : Fld := ⟨.NTM_INST_DS1, 16, 16⟩
abbrev F.NTM_INST_DS1_STEPS : Fld := ⟨.NTM_INST_DS1, 0, 16⟩
abbrev F.NTM_INST_GMDS_PRIORITY1 : Fld := ⟨.NTM_INST_GMDS, 24, 8⟩
abbrev F.NTM_INST_GMDS_PRIORITY2 : Fld := ⟨.NTM_INST_GMDS, 16, 8⟩
abbrev F.NTM_INST_GMDS_CLASS : Fld := ⟨.NTM_INST_GMDS, 8, 8⟩
abbrev F.NTM_INST_GMDS_ACCURACY : Fld := ⟨.NTM_INST_GMDS, 0, 8⟩
abbrev F.NTM_INST_GMVAR_VARIANCE : Fld := ⟨.NTM_INST_GMVAR, 0, 16⟩
abbrev F.NTM_INST_TPROP_UTC : Fld := ⟨.NTM_INST_TPROP, 16, 16⟩
abbrev F.NTM_INST_TPROP_SOURCE : Fld := ⟨.NTM_INST_TPROP, 8, 8⟩
abbrev F.NTM_INST_TPROP_FLAGS : Fld := ⟨.NTM_INST_TPROP, 0, 8⟩
abbrev F.NTM_PORT_STAT_ANN_TIMEOUT : Fld := ⟨.NTM_PORT_STAT, 31, 1⟩
abbrev F.NTM_TRG_PNUM_PNUM : Fld := ⟨.NTM_TRG_PNUM, 0, 40⟩
abbrev F.NTM_TRG_PDEN_WIDTH : Fld := ⟨.NTM_TRG_PDEN, 16, 16⟩
abbrev F.NTM_TRG_PDEN_PDEN : Fld := ⟨.NTM_TRG_PDEN, 0, 16⟩
abbrev F.NTM_CAP_STAT_FILL : Fld := ⟨.NTM_CAP_STAT, 0, 5⟩
abbrev F.NTM_CAP_NS_EDGE : Fld := ⟨.NTM_CAP_NS, 31, 1⟩
abbrev F.NTM_CAP_NS_STEPPED : Fld := ⟨.NTM_CAP_NS, 30, 1⟩
abbrev F.NTM_CAP_NS_NS : Fld := ⟨.NTM_CAP_NS, 0, 30⟩
abbrev F.NTM_CAP_HI_SEC : Fld := ⟨.NTM_CAP_HI, 16, 48⟩
abbrev F.NTM_CAP_HI_FRAC : Fld := ⟨.NTM_CAP_HI, 0, 16⟩
-- Fields of the WLT_ registers.
abbrev F.WLT_LANE_CFG_CTLE_AUTO : Fld := ⟨.WLT_LANE_CFG, 31, 1⟩
abbrev F.WLT_LANE_CFG_DFE_FREEZE : Fld := ⟨.WLT_LANE_CFG, 30, 1⟩
abbrev F.WLT_LANE_CFG_RECAL_AUTO : Fld := ⟨.WLT_LANE_CFG, 29, 1⟩
abbrev F.WLT_LANE_CFG_CTLE : Fld := ⟨.WLT_LANE_CFG, 16, 6⟩
abbrev F.WLT_LANE_STAT_STATE : Fld := ⟨.WLT_LANE_STAT, 29, 3⟩
abbrev F.WLT_LANE_STAT_RATE : Fld := ⟨.WLT_LANE_STAT, 24, 4⟩
abbrev F.WLT_LANE_STAT_CTLE : Fld := ⟨.WLT_LANE_STAT, 18, 6⟩
abbrev F.WLT_LANE_STAT_PAM4 : Fld := ⟨.WLT_LANE_STAT, 17, 1⟩
abbrev F.WLT_LANE_STAT_DFE_ON : Fld := ⟨.WLT_LANE_STAT, 16, 1⟩
abbrev F.WLT_LK_CFG_ENABLE : Fld := ⟨.WLT_LK_CFG, 31, 1⟩
abbrev F.WLT_LK_CFG_KILL : Fld := ⟨.WLT_LK_CFG, 30, 1⟩
abbrev F.WLT_LK_CFG_AUTO_READD : Fld := ⟨.WLT_LK_CFG, 29, 1⟩
abbrev F.WLT_LK_CFG_FAST : Fld := ⟨.WLT_LK_CFG, 28, 1⟩
abbrev F.WLT_LK_CFG_MAX_RATE : Fld := ⟨.WLT_LK_CFG, 24, 3⟩
abbrev F.WLT_LK_CFG_RETRY : Fld := ⟨.WLT_LK_CFG, 0, 16⟩
abbrev F.WLT_LK_STAT_STATE : Fld := ⟨.WLT_LK_STAT, 28, 4⟩
abbrev F.WLT_LK_STAT_RATE : Fld := ⟨.WLT_LK_STAT, 25, 3⟩
abbrev F.WLT_LK_STAT_BELOW_MAX : Fld := ⟨.WLT_LK_STAT, 24, 1⟩
abbrev F.WLT_LK_STAT_LANE_MASK : Fld := ⟨.WLT_LK_STAT, 20, 4⟩
abbrev F.WLT_LK_STAT_REASON : Fld := ⟨.WLT_LK_STAT, 16, 4⟩
abbrev F.WLT_LK_STAT_ATTEMPT : Fld := ⟨.WLT_LK_STAT, 12, 4⟩
abbrev F.WLT_QUAL_NRZ_MS : Fld := ⟨.WLT_QUAL, 24, 8⟩
abbrev F.WLT_QUAL_PAM4_MS : Fld := ⟨.WLT_QUAL, 16, 8⟩
abbrev F.WLT_QUAL_SER : Fld := ⟨.WLT_QUAL, 8, 8⟩
abbrev F.WLT_EYE_MIN_PAM4_V : Fld := ⟨.WLT_EYE_MIN, 24, 8⟩
abbrev F.WLT_EYE_MIN_PAM4_H : Fld := ⟨.WLT_EYE_MIN, 16, 8⟩
abbrev F.WLT_EYE_MIN_NRZ_V : Fld := ⟨.WLT_EYE_MIN, 8, 8⟩
abbrev F.WLT_EYE_MIN_NRZ_H : Fld := ⟨.WLT_EYE_MIN, 0, 8⟩
abbrev F.WLT_LANE_TXEQ_CM3 : Fld := ⟨.WLT_LANE_TXEQ, 24, 6⟩
abbrev F.WLT_LANE_TXEQ_CM2 : Fld := ⟨.WLT_LANE_TXEQ, 18, 6⟩
abbrev F.WLT_LANE_TXEQ_CM1 : Fld := ⟨.WLT_LANE_TXEQ, 12, 6⟩
abbrev F.WLT_LANE_TXEQ_C0 : Fld := ⟨.WLT_LANE_TXEQ, 6, 6⟩
abbrev F.WLT_LANE_TXEQ_CP1 : Fld := ⟨.WLT_LANE_TXEQ, 0, 6⟩
abbrev F.WLT_LANE_CTRL_RECAL : Fld := ⟨.WLT_LANE_CTRL, 31, 1⟩
abbrev F.WLT_LANE_CTRL_RETRAIN : Fld := ⟨.WLT_LANE_CTRL, 30, 1⟩
abbrev F.WLT_LANE_EYE_V : Fld := ⟨.WLT_LANE_EYE, 16, 16⟩
abbrev F.WLT_LANE_EYE_H : Fld := ⟨.WLT_LANE_EYE, 8, 8⟩
abbrev F.WLT_LANE_PRBS_GEN : Fld := ⟨.WLT_LANE_PRBS, 31, 1⟩
abbrev F.WLT_LANE_PRBS_CHK : Fld := ⟨.WLT_LANE_PRBS, 30, 1⟩
abbrev F.WLT_LANE_PRBS_PATTERN : Fld := ⟨.WLT_LANE_PRBS, 0, 3⟩
abbrev F.WLT_LK_CTRL_RETRAIN : Fld := ⟨.WLT_LK_CTRL, 31, 1⟩
abbrev F.WLT_LK_CTRL_RECAL : Fld := ⟨.WLT_LK_CTRL, 30, 1⟩
abbrev F.WLT_LK_CTRL_LANE : Fld := ⟨.WLT_LK_CTRL, 0, 2⟩
abbrev F.WLT_LK_PEER_STRAP : Fld := ⟨.WLT_LK_PEER, 16, 10⟩
abbrev F.WLT_LK_PEER_MAX_RATE : Fld := ⟨.WLT_LK_PEER, 8, 3⟩
abbrev F.WLT_LK_PEER_MATCHED : Fld := ⟨.WLT_LK_PEER, 0, 1⟩
abbrev F.WLT_LK_BRINGUP_MS : Fld := ⟨.WLT_LK_BRINGUP, 0, 16⟩
-- Fields of the NPT_ registers.
abbrev F.NPT_PORT_CFG_ENABLE : Fld := ⟨.NPT_PORT_CFG, 31, 1⟩
abbrev F.NPT_PORT_CFG_KILL : Fld := ⟨.NPT_PORT_CFG, 30, 1⟩
abbrev F.NPT_PORT_CFG_LP : Fld := ⟨.NPT_PORT_CFG, 28, 2⟩
abbrev F.NPT_PORT_CFG_ARP_HW : Fld := ⟨.NPT_PORT_CFG, 27, 1⟩
abbrev F.NPT_PORT_CFG_RX_CSUM : Fld := ⟨.NPT_PORT_CFG, 26, 1⟩
abbrev F.NPT_PORT_CFG_UDP4_CSUM : Fld := ⟨.NPT_PORT_CFG, 25, 1⟩
abbrev F.NPT_PORT_CFG_PFC : Fld := ⟨.NPT_PORT_CFG, 24, 1⟩
abbrev F.NPT_PORT_CFG_UP_HOLD : Fld := ⟨.NPT_PORT_CFG, 16, 8⟩
abbrev F.NPT_PORT_CFG_MTU : Fld := ⟨.NPT_PORT_CFG, 0, 14⟩
abbrev F.NPT_PORT_EEE_IDLE_US : Fld := ⟨.NPT_PORT_EEE, 16, 16⟩
abbrev F.NPT_PORT_EEE_TW : Fld := ⟨.NPT_PORT_EEE, 0, 16⟩
abbrev F.NPT_PORT_STAT_STATE : Fld := ⟨.NPT_PORT_STAT, 29, 3⟩
abbrev F.NPT_PORT_STAT_LOCAL_FAULT : Fld := ⟨.NPT_PORT_STAT, 28, 1⟩
abbrev F.NPT_PORT_STAT_REMOTE_FAULT : Fld := ⟨.NPT_PORT_STAT, 27, 1⟩
abbrev F.NPT_PORT_STAT_PAUSED : Fld := ⟨.NPT_PORT_STAT, 26, 1⟩
abbrev F.NPT_PORT_STAT_RX_LPI : Fld := ⟨.NPT_PORT_STAT, 25, 1⟩
abbrev F.NPT_PORT_STAT_EXISTS : Fld := ⟨.NPT_PORT_STAT, 24, 1⟩
abbrev F.NPT_PORT_STAT_RATE : Fld := ⟨.NPT_PORT_STAT, 20, 4⟩
abbrev F.NPT_STEER_VALID : Fld := ⟨.NPT_STEER, 31, 1⟩
abbrev F.NPT_STEER_CLASS : Fld := ⟨.NPT_STEER, 28, 3⟩
abbrev F.NPT_STEER_SLOT : Fld := ⟨.NPT_STEER, 27, 1⟩
abbrev F.NPT_STEER_TARGET : Fld := ⟨.NPT_STEER, 22, 5⟩
abbrev F.NPT_STEER_UDP : Fld := ⟨.NPT_STEER, 0, 16⟩
abbrev F.NPT_RXR_CFG_EN : Fld := ⟨.NPT_RXR_CFG, 31, 1⟩
abbrev F.NPT_RXR_CFG_BUFSZ : Fld := ⟨.NPT_RXR_CFG, 24, 6⟩
abbrev F.NPT_RXR_CFG_COAL_US : Fld := ⟨.NPT_RXR_CFG, 16, 8⟩
abbrev F.NPT_RXR_CFG_SIZE : Fld := ⟨.NPT_RXR_CFG, 12, 4⟩
abbrev F.NPT_RXR_CFG_VECTOR : Fld := ⟨.NPT_RXR_CFG, 0, 8⟩
abbrev F.NPT_TXR_CFG_EN : Fld := ⟨.NPT_TXR_CFG, 31, 1⟩
abbrev F.NPT_TXR_CFG_SIZE : Fld := ⟨.NPT_TXR_CFG, 12, 4⟩
abbrev F.NPT_TXR_CFG_VECTOR : Fld := ⟨.NPT_TXR_CFG, 0, 8⟩
abbrev F.NPT_CTRL_KILL : Fld := ⟨.NPT_CTRL, 1, 1⟩
abbrev F.NPT_CTRL_EN : Fld := ⟨.NPT_CTRL, 0, 1⟩
abbrev F.NPT_STATUS_DRAINING : Fld := ⟨.NPT_STATUS, 1, 1⟩
abbrev F.NPT_STATUS_RUN : Fld := ⟨.NPT_STATUS, 0, 1⟩
abbrev F.NPT_MAC_BASE_MAC : Fld := ⟨.NPT_MAC_BASE, 0, 48⟩
abbrev F.NPT_GRP_CFG_MODE : Fld := ⟨.NPT_GRP_CFG, 0, 3⟩
abbrev F.NPT_PORT_PRIO_MEDIA_PCP : Fld := ⟨.NPT_PORT_PRIO, 8, 3⟩
abbrev F.NPT_PORT_PRIO_PTP_PCP : Fld := ⟨.NPT_PORT_PRIO, 4, 3⟩
abbrev F.NPT_PORT_PRIO_CTRL_PCP : Fld := ⟨.NPT_PORT_PRIO, 0, 3⟩
abbrev F.NPT_RXR_TAIL_INDEX : Fld := ⟨.NPT_RXR_TAIL, 0, 12⟩
abbrev F.NPT_RXR_HEAD_INDEX : Fld := ⟨.NPT_RXR_HEAD, 0, 12⟩
abbrev F.NPT_TXR_TAIL_INDEX : Fld := ⟨.NPT_TXR_TAIL, 0, 12⟩
abbrev F.NPT_TXR_HEAD_INDEX : Fld := ⟨.NPT_TXR_HEAD, 0, 12⟩
abbrev F.NPT_EP_CFG_VALID : Fld := ⟨.NPT_EP_CFG, 31, 1⟩
abbrev F.NPT_EP_CFG_AF : Fld := ⟨.NPT_EP_CFG, 30, 1⟩
abbrev F.NPT_EP_CFG_DSCP : Fld := ⟨.NPT_EP_CFG, 24, 6⟩
abbrev F.NPT_EP_CFG_PORT : Fld := ⟨.NPT_EP_CFG, 16, 5⟩
abbrev F.NPT_EP_MACHI_UDP_SRC : Fld := ⟨.NPT_EP_MACHI, 16, 16⟩
abbrev F.NPT_EP_MACHI_MAC_HI : Fld := ⟨.NPT_EP_MACHI, 0, 16⟩
abbrev F.NPT_EP_DPORT_UDP : Fld := ⟨.NPT_EP_DPORT, 0, 16⟩
-- Fields of the RSL_ registers.
abbrev F.RSL_XCHK_CFG_EN : Fld := ⟨.RSL_XCHK_CFG, 31, 1⟩
abbrev F.RSL_XCHK_CFG_MISS_FRAMES : Fld := ⟨.RSL_XCHK_CFG, 16, 8⟩
abbrev F.RSL_XCHK_CFG_DIVERGE_FRAMES : Fld := ⟨.RSL_XCHK_CFG, 0, 5⟩
abbrev F.RSL_XCHK_LAST_RESULT : Fld := ⟨.RSL_XCHK_LAST, 28, 4⟩
abbrev F.RSL_XCHK_LAST_REASON : Fld := ⟨.RSL_XCHK_LAST, 27, 1⟩
abbrev F.RSL_XCHK_LAST_STEP : Fld := ⟨.RSL_XCHK_LAST, 24, 3⟩
abbrev F.RSL_XCHK_LAST_FRAME : Fld := ⟨.RSL_XCHK_LAST, 8, 8⟩
abbrev F.RSL_XCHK_LAST_OUTPUT : Fld := ⟨.RSL_XCHK_LAST, 0, 7⟩
abbrev F.RSL_PAIR_CFG_PROBE : Fld := ⟨.RSL_PAIR_CFG, 16, 16⟩
abbrev F.RSL_PAIR_CFG_LOSS : Fld := ⟨.RSL_PAIR_CFG, 0, 16⟩
abbrev F.RSL_PAIR_STAT_CAUSE : Fld := ⟨.RSL_PAIR_STAT, 29, 3⟩
abbrev F.RSL_PAIR_STAT_ALONE_JRN : Fld := ⟨.RSL_PAIR_STAT, 28, 1⟩
abbrev F.RSL_PAIR_STAT_SINCE : Fld := ⟨.RSL_PAIR_STAT, 0, 16⟩
abbrev F.RSL_FENCE_STAT_STATE : Fld := ⟨.RSL_FENCE_STAT, 29, 3⟩
abbrev F.RSL_FENCE_STAT_STEP : Fld := ⟨.RSL_FENCE_STAT, 26, 3⟩
abbrev F.RSL_SPARE_CFG_ARMED : Fld := ⟨.RSL_SPARE_CFG, 31, 1⟩
abbrev F.RSL_SPARE_CFG_DELAY : Fld := ⟨.RSL_SPARE_CFG, 0, 16⟩
abbrev F.RSL_UNIT_STAT_STATE : Fld := ⟨.RSL_UNIT_STAT, 29, 3⟩
abbrev F.RSL_UNIT_STAT_DEGRADED : Fld := ⟨.RSL_UNIT_STAT, 28, 1⟩
abbrev F.RSL_UNIT_STAT_PHYS : Fld := ⟨.RSL_UNIT_STAT, 16, 8⟩
abbrev F.RSL_UNIT_STAT_STATUS : Fld := ⟨.RSL_UNIT_STAT, 0, 16⟩
abbrev F.RSL_PHYS_STAT_STATE : Fld := ⟨.RSL_PHYS_STAT, 29, 3⟩
abbrev F.RSL_PHYS_STAT_RESULT : Fld := ⟨.RSL_PHYS_STAT, 24, 5⟩
abbrev F.RSL_PHYS_STAT_LOGICAL : Fld := ⟨.RSL_PHYS_STAT, 0, 8⟩
abbrev F.RSL_CTRL_AUTO : Fld := ⟨.RSL_CTRL, 0, 1⟩
abbrev F.RSL_STATUS_MAP_FULL : Fld := ⟨.RSL_STATUS, 6, 1⟩
abbrev F.RSL_STATUS_CORE_MARGIN : Fld := ⟨.RSL_STATUS, 5, 1⟩
abbrev F.RSL_STATUS_AGE_WARN : Fld := ⟨.RSL_STATUS, 4, 1⟩
abbrev F.RSL_STATUS_SPARE_LOW : Fld := ⟨.RSL_STATUS, 3, 1⟩
abbrev F.RSL_STATUS_PARTNER_LOST : Fld := ⟨.RSL_STATUS, 2, 1⟩
abbrev F.RSL_STATUS_FENCED : Fld := ⟨.RSL_STATUS, 1, 1⟩
abbrev F.RSL_STATUS_ASSUMED : Fld := ⟨.RSL_STATUS, 0, 1⟩
abbrev F.RSL_FENCE_CTRL_FENCE : Fld := ⟨.RSL_FENCE_CTRL, 31, 1⟩
abbrev F.RSL_FENCE_CTRL_REJOIN : Fld := ⟨.RSL_FENCE_CTRL, 30, 1⟩
abbrev F.RSL_SPARE_LIST_VALID : Fld := ⟨.RSL_SPARE_LIST, 31, 1⟩
abbrev F.RSL_SPARE_LIST_ID : Fld := ⟨.RSL_SPARE_LIST, 0, 10⟩
abbrev F.RSL_SPARE_CTRL_ASSUME : Fld := ⟨.RSL_SPARE_CTRL, 31, 1⟩
abbrev F.RSL_SPARE_CTRL_RELEASE : Fld := ⟨.RSL_SPARE_CTRL, 30, 1⟩
abbrev F.RSL_SPARE_CTRL_ID : Fld := ⟨.RSL_SPARE_CTRL, 0, 10⟩
abbrev F.RSL_SPARE_STAT_STATE : Fld := ⟨.RSL_SPARE_STAT, 29, 3⟩
abbrev F.RSL_SPARE_STAT_STATUS : Fld := ⟨.RSL_SPARE_STAT, 12, 16⟩
abbrev F.RSL_SPARE_STAT_ID : Fld := ⟨.RSL_SPARE_STAT, 0, 10⟩
abbrev F.RSL_UNIT_CTRL_CMD : Fld := ⟨.RSL_UNIT_CTRL, 0, 2⟩
abbrev F.RSL_REPAIR_USED_N : Fld := ⟨.RSL_REPAIR_USED, 0, 16⟩
abbrev F.RSL_SRAM_REP_ROWS : Fld := ⟨.RSL_SRAM_REP, 16, 16⟩
abbrev F.RSL_SRAM_REP_COLS : Fld := ⟨.RSL_SRAM_REP, 0, 16⟩
abbrev F.RSL_HBM_PPR_SOFT : Fld := ⟨.RSL_HBM_PPR, 16, 16⟩
abbrev F.RSL_HBM_PPR_HARD : Fld := ⟨.RSL_HBM_PPR, 0, 16⟩
abbrev F.RSL_AUTO_CORR_LIM : Fld := ⟨.RSL_AUTO, 16, 16⟩
abbrev F.RSL_AUTO_HBM_LIM : Fld := ⟨.RSL_AUTO, 0, 16⟩
abbrev F.RSL_AVS_CFG_GUARD : Fld := ⟨.RSL_AVS_CFG, 0, 8⟩
abbrev F.RSL_AVS_STAT_VDD : Fld := ⟨.RSL_AVS_STAT, 22, 10⟩
abbrev F.RSL_AVS_STAT_REQ85 : Fld := ⟨.RSL_AVS_STAT, 12, 10⟩
abbrev F.RSL_AVS_STAT_DAYS : Fld := ⟨.RSL_AVS_STAT, 0, 12⟩
abbrev F.RSL_MRAM_SCRUB_INTERVAL : Fld := ⟨.RSL_MRAM_SCRUB, 24, 8⟩
abbrev F.RSL_MRAM_SCRUB_CORR : Fld := ⟨.RSL_MRAM_SCRUB, 0, 24⟩
abbrev F.RSL_FLASH_WEAR_ERASES : Fld := ⟨.RSL_FLASH_WEAR, 15, 17⟩
abbrev F.RSL_FLASH_WEAR_DAYS : Fld := ⟨.RSL_FLASH_WEAR, 0, 15⟩
-- Fields of the AWL_ registers.
abbrev F.AWL_STATUS_MEDIUM : Fld := ⟨.AWL_STATUS, 30, 2⟩
abbrev F.AWL_STATUS_MEDIA_FAIL : Fld := ⟨.AWL_STATUS, 29, 1⟩
abbrev F.AWL_STATUS_FROZEN : Fld := ⟨.AWL_STATUS, 28, 1⟩
abbrev F.AWL_STATUS_FULL : Fld := ⟨.AWL_STATUS, 27, 1⟩
abbrev F.AWL_STATUS_RETENTION_LOST : Fld := ⟨.AWL_STATUS, 26, 1⟩
abbrev F.AWL_STATUS_CLEARING : Fld := ⟨.AWL_STATUS, 25, 1⟩
abbrev F.AWL_STATUS_STAGED : Fld := ⟨.AWL_STATUS, 0, 9⟩
abbrev F.AWL_CFG_FULL_MODE : Fld := ⟨.AWL_CFG, 31, 1⟩
abbrev F.AWL_CFG_FREEZE_MAX : Fld := ⟨.AWL_CFG, 0, 16⟩
abbrev F.AWL_RD_IDX_MEDIUM : Fld := ⟨.AWL_RD_IDX, 30, 2⟩
abbrev F.AWL_RD_IDX_INDEX : Fld := ⟨.AWL_RD_IDX, 0, 20⟩
abbrev F.AWL_RD_STAT_DONE : Fld := ⟨.AWL_RD_STAT, 31, 1⟩
abbrev F.AWL_RD_STAT_VALID : Fld := ⟨.AWL_RD_STAT, 30, 1⟩
abbrev F.AWL_RD_STAT_OLD_EPOCH : Fld := ⟨.AWL_RD_STAT, 29, 1⟩
abbrev F.AWL_RD_STAT_TORN : Fld := ⟨.AWL_RD_STAT, 28, 1⟩
abbrev F.AWL_CTRL_FREEZE : Fld := ⟨.AWL_CTRL, 31, 1⟩
abbrev F.AWL_CTRL_RETRY_MRAM : Fld := ⟨.AWL_CTRL, 30, 1⟩
abbrev F.AWL_COUNT_N : Fld := ⟨.AWL_COUNT, 0, 20⟩
abbrev F.AWL_HEAD_INDEX : Fld := ⟨.AWL_HEAD, 0, 20⟩
abbrev F.AWL_CLR_CTRL_GO : Fld := ⟨.AWL_CLR_CTRL, 31, 1⟩
abbrev F.AWL_CLR_RESULT_FAILS : Fld := ⟨.AWL_CLR_RESULT, 16, 8⟩
abbrev F.AWL_CLR_RESULT_STATUS : Fld := ⟨.AWL_CLR_RESULT, 0, 16⟩
-- Fields of the SET_ registers.
abbrev F.SET_STATUS_STATE : Fld := ⟨.SET_STATUS, 29, 3⟩
abbrev F.SET_STATUS_PAIR : Fld := ⟨.SET_STATUS, 28, 1⟩
abbrev F.SET_STATUS_NEXT_BANK : Fld := ⟨.SET_STATUS, 27, 1⟩
abbrev F.SET_STATUS_CONVERT_FAIL : Fld := ⟨.SET_STATUS, 26, 1⟩
abbrev F.SET_STATUS_DELTA_LOST : Fld := ⟨.SET_STATUS, 25, 1⟩
abbrev F.SET_STATUS_BANK_FAIL_A : Fld := ⟨.SET_STATUS, 24, 1⟩
abbrev F.SET_STATUS_BANK_FAIL_B : Fld := ⟨.SET_STATUS, 23, 1⟩
abbrev F.SET_STATUS_EMPTY : Fld := ⟨.SET_STATUS, 22, 1⟩
abbrev F.SET_STATUS_FORMAT : Fld := ⟨.SET_STATUS, 0, 16⟩
abbrev F.SET_CFG_INTERVAL : Fld := ⟨.SET_CFG, 16, 16⟩
abbrev F.SET_CFG_DEMAND_MAX : Fld := ⟨.SET_CFG, 0, 8⟩
abbrev F.SET_CTRL_SNAP : Fld := ⟨.SET_CTRL, 31, 1⟩
abbrev F.SET_SNAP_OPSEC_SEC : Fld := ⟨.SET_SNAP_OPSEC, 0, 40⟩
abbrev F.SET_SNAP_RESULT_STATUS : Fld := ⟨.SET_SNAP_RESULT, 0, 16⟩
abbrev F.SET_PAIR_FMT_VALID : Fld := ⟨.SET_PAIR_FMT, 31, 1⟩
abbrev F.SET_PAIR_FMT_FORMAT : Fld := ⟨.SET_PAIR_FMT, 0, 16⟩
abbrev F.SET_DELTA_USED_N : Fld := ⟨.SET_DELTA_USED, 0, 16⟩
abbrev F.SET_OPSEC_SEC : Fld := ⟨.SET_OPSEC, 0, 40⟩
abbrev F.SET_DEMAND_LEFT_N : Fld := ⟨.SET_DEMAND_LEFT, 0, 8⟩
abbrev F.SET_SECTORS_SPARES : Fld := ⟨.SET_SECTORS, 16, 8⟩
abbrev F.SET_SECTORS_RETIRED : Fld := ⟨.SET_SECTORS, 0, 11⟩
-- Fields of the UPD_ registers.
abbrev F.UPD_CTRL_ACTIVATE : Fld := ⟨.UPD_CTRL, 31, 1⟩
abbrev F.UPD_CTRL_CONFIRM : Fld := ⟨.UPD_CTRL, 30, 1⟩
abbrev F.UPD_CTRL_FALLBACK : Fld := ⟨.UPD_CTRL, 29, 1⟩
abbrev F.UPD_CTRL_ABORT : Fld := ⟨.UPD_CTRL, 28, 1⟩
abbrev F.UPD_STATUS_STATE : Fld := ⟨.UPD_STATUS, 29, 3⟩
abbrev F.UPD_STATUS_RUN_SLOT : Fld := ⟨.UPD_STATUS, 28, 1⟩
abbrev F.UPD_STATUS_RECOVERY : Fld := ⟨.UPD_STATUS, 27, 1⟩
abbrev F.UPD_CFG_CONFIRM_S : Fld := ⟨.UPD_CFG, 0, 17⟩
abbrev F.UPD_LOCK_OWNER : Fld := ⟨.UPD_LOCK, 30, 2⟩
abbrev F.UPD_LOCK_IDLE_S : Fld := ⟨.UPD_LOCK, 0, 8⟩
abbrev F.UPD_SLOT_STAT_STATE : Fld := ⟨.UPD_SLOT_STAT, 29, 3⟩
abbrev F.UPD_SLOT_STAT_ATTEMPTS : Fld := ⟨.UPD_SLOT_STAT, 27, 2⟩
abbrev F.UPD_SLOT_STAT_BOOTABLE : Fld := ⟨.UPD_SLOT_STAT, 26, 1⟩
abbrev F.UPD_SLOT_STAT_SET_FORMAT : Fld := ⟨.UPD_SLOT_STAT, 0, 16⟩
abbrev F.UPD_LAST_STATUS_OP : Fld := ⟨.UPD_LAST_STATUS, 16, 8⟩
abbrev F.UPD_LAST_STATUS_STATUS : Fld := ⟨.UPD_LAST_STATUS, 0, 16⟩
abbrev F.UPD_CONFIRM_LEFT_SEC : Fld := ⟨.UPD_CONFIRM_LEFT, 0, 17⟩
abbrev F.UPD_SVC_PORT_UDP : Fld := ⟨.UPD_SVC_PORT, 0, 16⟩
abbrev F.UPD_MC_STAT_FAIL : Fld := ⟨.UPD_MC_STAT, 8, 4⟩
abbrev F.UPD_MC_STAT_BANK : Fld := ⟨.UPD_MC_STAT, 0, 4⟩
-- Fields of the INS_ registers.
abbrev F.INS_STATE_STATE : Fld := ⟨.INS_STATE, 29, 3⟩
abbrev F.INS_STATE_WAKE : Fld := ⟨.INS_STATE, 0, 8⟩
abbrev F.INS_OPSEC_SEC : Fld := ⟨.INS_OPSEC, 0, 40⟩
abbrev F.INS_CLK_REQ_DOMAINS : Fld := ⟨.INS_CLK_REQ, 0, 27⟩
abbrev F.INS_CLK_RUN_DOMAINS : Fld := ⟨.INS_CLK_RUN, 0, 27⟩
abbrev F.INS_CLK_CFG_PARALLEL : Fld := ⟨.INS_CLK_CFG, 16, 3⟩
abbrev F.INS_CLK_CFG_HOLD : Fld := ⟨.INS_CLK_CFG, 0, 16⟩
abbrev F.INS_CLK_FORCE_DOMAINS : Fld := ⟨.INS_CLK_FORCE, 0, 27⟩
abbrev F.INS_PLL_FAIL_DOMAINS : Fld := ⟨.INS_PLL_FAIL, 0, 27⟩
abbrev F.INS_RET_STAT_CHECK_OK : Fld := ⟨.INS_RET_STAT, 31, 1⟩
abbrev F.INS_RET_STAT_STAGED : Fld := ⟨.INS_RET_STAT, 0, 9⟩
abbrev F.INS_XTAL_RUNNING : Fld := ⟨.INS_XTAL, 31, 1⟩
abbrev F.INS_XTAL_OFFSET : Fld := ⟨.INS_XTAL, 0, 16⟩
abbrev F.INS_PWR_N : Fld := ⟨.INS_PWR, 0, 16⟩
abbrev F.INS_PMBUS_CFG_EN : Fld := ⟨.INS_PMBUS_CFG, 31, 1⟩
abbrev F.INS_PMBUS_CFG_PERIOD : Fld := ⟨.INS_PMBUS_CFG, 0, 16⟩
abbrev F.INS_RAIL_MV : Fld := ⟨.INS_RAIL, 16, 16⟩
abbrev F.INS_RAIL_MA10 : Fld := ⟨.INS_RAIL, 0, 16⟩

/-- An interrupt cause: a bit of a block's INT_STAT register (R621). -/
structure Irq where
  /-- The block. -/
  blk : Blk
  /-- The bit of INT_STAT and of INT_EN. -/
  bit : Nat
  deriving DecidableEq, Repr, Inhabited

abbrev Irq.ING_POOL_LOW : Irq := ⟨.ING, 5⟩
abbrev Irq.ING_HOST_WR : Irq := ⟨.ING, 4⟩
abbrev Irq.ING_ANC_DROP : Irq := ⟨.ING, 3⟩
abbrev Irq.ING_PD_EXCEED : Irq := ⟨.ING, 2⟩
abbrev Irq.ING_IN_RETURN : Irq := ⟨.ING, 1⟩
abbrev Irq.ING_IN_LOSS : Irq := ⟨.ING, 0⟩
abbrev Irq.TWL_FAIR_VIOL : Irq := ⟨.TWL, 10⟩
abbrev Irq.TWL_HOST_WR : Irq := ⟨.TWL, 9⟩
abbrev Irq.TWL_PFX_MISMATCH : Irq := ⟨.TWL, 8⟩
abbrev Irq.TWL_SPARE_LOW : Irq := ⟨.TWL, 7⟩
abbrev Irq.TWL_SWAP_DONE : Irq := ⟨.TWL, 6⟩
abbrev Irq.TWL_SHED : Irq := ⟨.TWL, 5⟩
abbrev Irq.TWL_LINK_DEGRADED : Irq := ⟨.TWL, 4⟩
abbrev Irq.TWL_DIR_RESYNC : Irq := ⟨.TWL, 3⟩
abbrev Irq.TWL_DIR_CONFLICT : Irq := ⟨.TWL, 2⟩
abbrev Irq.TWL_HOP_LIMIT : Irq := ⟨.TWL, 1⟩
abbrev Irq.TWL_CW_UNCORR : Irq := ⟨.TWL, 0⟩
abbrev Irq.EGR_OTD_REALIGN : Irq := ⟨.EGR, 6⟩
abbrev Irq.EGR_HOST_WR : Irq := ⟨.EGR, 5⟩
abbrev Irq.EGR_SND_LATE : Irq := ⟨.EGR, 4⟩
abbrev Irq.EGR_HEALTH_CHG : Irq := ⟨.EGR, 3⟩
abbrev Irq.EGR_JOIN_FAIL : Irq := ⟨.EGR, 2⟩
abbrev Irq.EGR_ANC_DROP : Irq := ⟨.EGR, 1⟩
abbrev Irq.EGR_GAP : Irq := ⟨.EGR, 0⟩
abbrev Irq.NIM_HOST_WR : Irq := ⟨.NIM, 8⟩
abbrev Irq.NIM_CQ_LOST : Irq := ⟨.NIM, 7⟩
abbrev Irq.NIM_SVC_STOP : Irq := ⟨.NIM, 6⟩
abbrev Irq.NIM_TRAP : Irq := ⟨.NIM, 5⟩
abbrev Irq.NIM_JRN_LOW : Irq := ⟨.NIM, 4⟩
abbrev Irq.NIM_REPLAY_DONE : Irq := ⟨.NIM, 3⟩
abbrev Irq.NIM_PARTNER_ABSENT : Irq := ⟨.NIM, 2⟩
abbrev Irq.NIM_STALE : Irq := ⟨.NIM, 1⟩
abbrev Irq.NIM_REFUSED : Irq := ⟨.NIM, 0⟩
abbrev Irq.TWD_HOST_WR : Irq := ⟨.TWD, 8⟩
abbrev Irq.TWD_DRAIN_WR : Irq := ⟨.TWD, 7⟩
abbrev Irq.TWD_LATE_APPLY : Irq := ⟨.TWD, 6⟩
abbrev Irq.TWD_BRX_GAP : Irq := ⟨.TWD, 5⟩
abbrev Irq.TWD_UNDERRUN : Irq := ⟨.TWD, 4⟩
abbrev Irq.TWD_MEM_UNCORR : Irq := ⟨.TWD, 3⟩
abbrev Irq.TWD_TRAP : Irq := ⟨.TWD, 2⟩
abbrev Irq.TWD_OVERRUN : Irq := ⟨.TWD, 1⟩
abbrev Irq.TWD_ACC_OV : Irq := ⟨.TWD, 0⟩
abbrev Irq.ASP_HOST_WR : Irq := ⟨.ASP, 6⟩
abbrev Irq.ASP_TBMIS : Irq := ⟨.ASP, 5⟩
abbrev Irq.ASP_KILLED : Irq := ⟨.ASP, 4⟩
abbrev Irq.ASP_SLIP : Irq := ⟨.ASP, 3⟩
abbrev Irq.ASP_RESYNC : Irq := ⟨.ASP, 2⟩
abbrev Irq.ASP_RATE_CHG : Irq := ⟨.ASP, 1⟩
abbrev Irq.ASP_CLK_FAULT : Irq := ⟨.ASP, 0⟩
abbrev Irq.VMP_HOST_WR : Irq := ⟨.VMP, 8⟩
abbrev Irq.VMP_DRAIN_WR : Irq := ⟨.VMP, 7⟩
abbrev Irq.VMP_KILLED : Irq := ⟨.VMP, 6⟩
abbrev Irq.VMP_REPLACED : Irq := ⟨.VMP, 5⟩
abbrev Irq.VMP_LATE : Irq := ⟨.VMP, 4⟩
abbrev Irq.VMP_HELD : Irq := ⟨.VMP, 3⟩
abbrev Irq.VMP_NOT_READY : Irq := ⟨.VMP, 2⟩
abbrev Irq.VMP_LB_SHORT : Irq := ⟨.VMP, 1⟩
abbrev Irq.VMP_COMMIT_DONE : Irq := ⟨.VMP, 0⟩
abbrev Irq.LST_HOST_WR : Irq := ⟨.LST, 13⟩
abbrev Irq.LST_LACE_LOOP : Irq := ⟨.LST, 12⟩
abbrev Irq.LST_SLEW_RETARGET : Irq := ⟨.LST, 11⟩
abbrev Irq.LST_PHASE_FAR : Irq := ⟨.LST, 10⟩
abbrev Irq.LST_AGE_WARN : Irq := ⟨.LST, 9⟩
abbrev Irq.LST_REFCLK_FAIL : Irq := ⟨.LST, 8⟩
abbrev Irq.LST_OSC_FAIL : Irq := ⟨.LST, 7⟩
abbrev Irq.LST_LANE_UNQUAL : Irq := ⟨.LST, 6⟩
abbrev Irq.LST_LOST : Irq := ⟨.LST, 5⟩
abbrev Irq.LST_HOLDOVER : Irq := ⟨.LST, 4⟩
abbrev Irq.LST_REF_DISAGREE : Irq := ⟨.LST, 3⟩
abbrev Irq.LST_REF_LOSS : Irq := ⟨.LST, 2⟩
abbrev Irq.LST_SWITCH : Irq := ⟨.LST, 1⟩
abbrev Irq.LST_STATE_CHG : Irq := ⟨.LST, 0⟩
abbrev Irq.NTM_TRG_FIRE : Irq := ⟨.NTM, 11⟩
abbrev Irq.NTM_HOST_WR : Irq := ⟨.NTM, 10⟩
abbrev Irq.NTM_CAP_OVF : Irq := ⟨.NTM, 9⟩
abbrev Irq.NTM_TRG_LATE : Irq := ⟨.NTM, 8⟩
abbrev Irq.NTM_TX_ABORT : Irq := ⟨.NTM, 7⟩
abbrev Irq.NTM_ANN_TIMEOUT : Irq := ⟨.NTM, 6⟩
abbrev Irq.NTM_SRV_SAT : Irq := ⟨.NTM, 5⟩
abbrev Irq.NTM_ALIGN : Irq := ⟨.NTM, 4⟩
abbrev Irq.NTM_STEP : Irq := ⟨.NTM, 3⟩
abbrev Irq.NTM_HOLDOVER : Irq := ⟨.NTM, 2⟩
abbrev Irq.NTM_LOCK : Irq := ⟨.NTM, 1⟩
abbrev Irq.WLT_HOST_WR : Irq := ⟨.WLT, 9⟩
abbrev Irq.WLT_PRBS_ERR : Irq := ⟨.WLT, 8⟩
abbrev Irq.WLT_CLKMOVE : Irq := ⟨.WLT, 7⟩
abbrev Irq.WLT_READD : Irq := ⟨.WLT, 6⟩
abbrev Irq.WLT_LK_BELOW_MAX : Irq := ⟨.WLT, 5⟩
abbrev Irq.WLT_LK_STOPPED : Irq := ⟨.WLT, 4⟩
abbrev Irq.WLT_LK_DOWN : Irq := ⟨.WLT, 3⟩
abbrev Irq.WLT_LK_UP : Irq := ⟨.WLT, 2⟩
abbrev Irq.WLT_LANE_LOL : Irq := ⟨.WLT, 1⟩
abbrev Irq.WLT_EYE_LOW : Irq := ⟨.WLT, 0⟩
abbrev Irq.NPT_HOST_WR : Irq := ⟨.NPT, 8⟩
abbrev Irq.NPT_WAKE : Irq := ⟨.NPT, 7⟩
abbrev Irq.NPT_RXR_DROP : Irq := ⟨.NPT, 6⟩
abbrev Irq.NPT_STEER_DROP : Irq := ⟨.NPT, 5⟩
abbrev Irq.NPT_PAUSE_IGN : Irq := ⟨.NPT, 4⟩
abbrev Irq.NPT_CSUM_ERR : Irq := ⟨.NPT, 3⟩
abbrev Irq.NPT_FCS_ERR : Irq := ⟨.NPT, 2⟩
abbrev Irq.NPT_LINK_DOWN : Irq := ⟨.NPT, 1⟩
abbrev Irq.NPT_LINK_UP : Irq := ⟨.NPT, 0⟩
abbrev Irq.RSL_HOST_WR : Irq := ⟨.RSL, 12⟩
abbrev Irq.RSL_DRAIN_OVR : Irq := ⟨.RSL, 11⟩
abbrev Irq.RSL_MAP_FULL : Irq := ⟨.RSL, 10⟩
abbrev Irq.RSL_CORE_MARGIN : Irq := ⟨.RSL, 9⟩
abbrev Irq.RSL_AGE_WARN : Irq := ⟨.RSL, 8⟩
abbrev Irq.RSL_SPARE_LOW : Irq := ⟨.RSL, 7⟩
abbrev Irq.RSL_UNIT_RETIRED : Irq := ⟨.RSL, 6⟩
abbrev Irq.RSL_SWAP_DONE : Irq := ⟨.RSL, 5⟩
abbrev Irq.RSL_XCHK_MISS : Irq := ⟨.RSL, 4⟩
abbrev Irq.RSL_DIVERGED : Irq := ⟨.RSL, 3⟩
abbrev Irq.RSL_FENCED : Irq := ⟨.RSL, 2⟩
abbrev Irq.RSL_PARTNER_RETURN : Irq := ⟨.RSL, 1⟩
abbrev Irq.RSL_PARTNER_LOST : Irq := ⟨.RSL, 0⟩
abbrev Irq.AWL_HOST_WR : Irq := ⟨.AWL, 6⟩
abbrev Irq.AWL_AUTH_FAIL : Irq := ⟨.AWL, 5⟩
abbrev Irq.AWL_LOST : Irq := ⟨.AWL, 4⟩
abbrev Irq.AWL_FREEZE_EXPIRED : Irq := ⟨.AWL, 3⟩
abbrev Irq.AWL_FULL : Irq := ⟨.AWL, 2⟩
abbrev Irq.AWL_MEDIA_FAIL : Irq := ⟨.AWL, 1⟩
abbrev Irq.AWL_FALLBACK : Irq := ⟨.AWL, 0⟩
abbrev Irq.SET_HOST_WR : Irq := ⟨.SET, 6⟩
abbrev Irq.SET_SECTOR_RETIRED : Irq := ⟨.SET, 5⟩
abbrev Irq.SET_BANK_FAIL : Irq := ⟨.SET, 4⟩
abbrev Irq.SET_DELTA_HIGH : Irq := ⟨.SET, 3⟩
abbrev Irq.SET_SNAP_FAIL : Irq := ⟨.SET, 2⟩
abbrev Irq.SET_SNAP_DONE : Irq := ⟨.SET, 1⟩
abbrev Irq.SET_DELTA_LOST : Irq := ⟨.SET, 0⟩
abbrev Irq.UPD_HOST_WR : Irq := ⟨.UPD, 7⟩
abbrev Irq.UPD_FALLBACK : Irq := ⟨.UPD, 6⟩
abbrev Irq.UPD_CONFIRMED : Irq := ⟨.UPD, 5⟩
abbrev Irq.UPD_TRIAL : Irq := ⟨.UPD, 4⟩
abbrev Irq.UPD_READY : Irq := ⟨.UPD, 3⟩
abbrev Irq.UPD_REFUSED : Irq := ⟨.UPD, 2⟩
abbrev Irq.UPD_AUTH_FAIL : Irq := ⟨.UPD, 1⟩
abbrev Irq.UPD_LOCK : Irq := ⟨.UPD, 0⟩
abbrev Irq.GLB_ALERT : Irq := ⟨.GLB, 3⟩
abbrev Irq.GLB_BAR2_MISS : Irq := ⟨.GLB, 2⟩
abbrev Irq.GLB_PCIE_ERR : Irq := ⟨.GLB, 1⟩
abbrev Irq.GLB_TEMP : Irq := ⟨.GLB, 0⟩
abbrev Irq.INS_HOST_WR : Irq := ⟨.INS, 3⟩
abbrev Irq.INS_XTAL_FAIL : Irq := ⟨.INS, 2⟩
abbrev Irq.INS_PLL_FAIL : Irq := ⟨.INS, 1⟩
abbrev Irq.INS_WAKE : Irq := ⟨.INS, 0⟩

/-- The INT_STAT register of a block, none where it has none. -/
def Blk.intStat : Blk → Option Reg
  | .GLB => some .GLB_INT_STAT
  | .BOOT => none
  | .TWL => some .TWL_INT_STAT
  | .ING => some .ING_INT_STAT
  | .EGR => some .EGR_INT_STAT
  | .NIM => some .NIM_INT_STAT
  | .TWD => some .TWD_INT_STAT
  | .ASP => some .ASP_INT_STAT
  | .VMP => some .VMP_INT_STAT
  | .LST => some .LST_INT_STAT
  | .NTM => some .NTM_INT_STAT
  | .WLT => some .WLT_INT_STAT
  | .NPT => some .NPT_INT_STAT
  | .RSL => some .RSL_INT_STAT
  | .AWL => some .AWL_INT_STAT
  | .SET => some .SET_INT_STAT
  | .UPD => some .UPD_INT_STAT
  | .INS => some .INS_INT_STAT

/-- The INT_EN register of a block, none where it has none. -/
def Blk.intEn : Blk → Option Reg
  | .GLB => some .GLB_INT_EN
  | .BOOT => none
  | .TWL => some .TWL_INT_EN
  | .ING => some .ING_INT_EN
  | .EGR => some .EGR_INT_EN
  | .NIM => some .NIM_INT_EN
  | .TWD => some .TWD_INT_EN
  | .ASP => some .ASP_INT_EN
  | .VMP => some .VMP_INT_EN
  | .LST => some .LST_INT_EN
  | .NTM => some .NTM_INT_EN
  | .WLT => some .WLT_INT_EN
  | .NPT => some .NPT_INT_EN
  | .RSL => some .RSL_INT_EN
  | .AWL => some .AWL_INT_EN
  | .SET => some .SET_INT_EN
  | .UPD => some .UPD_INT_EN
  | .INS => some .INS_INT_EN

/-- The reset value of LST_REF_CFG (Table 11.9): the bandwidth of the reference's type, and TB r − 6 for PTP. -/
def Reg.refCfgReset (r : Nat) : Nat :=
  if r < 2 then 0x3E8 else if r < 4 then 5 else if r < 6 then 0x64
  else if r < 10 then (r - 6) * 2 ^ 25 + 0xA
  else if r < 12 then 0x3E8 else 0xC350

/-- The physical slice-port that carries a logical one at reset: 23q + j for 21q + j (R90). -/
def Reg.slicePhys (s : Nat) : Nat := 23 * (s / 21) + s % 21

/-- The carrier of a logical unit at reset, numbered within its class (R559, Table 15.9): Cobbler cores
0 to 15, the management core 16, Tweed cores 17 to 24, pipes 25 to 40, slice-ports 64 to 231. -/
def Reg.unitPhys (u : Nat) : Nat :=
  if u < 16 then u else if u < 17 then 0 else if u < 25 then u - 17 else if u < 41 then u - 25
  else if u < 64 then 0 else Reg.slicePhys (u - 64)

/-- The logical unit a physical unit carries at reset, 0xFF for a spare (R559, Table 15.9). -/
def Reg.physLogical (x : Nat) : Nat :=
  if x < 16 then x else if x < 18 then 0xFF else if x < 19 then 16 else if x < 20 then 0xFF
  else if x < 28 then x - 3 else if x < 29 then 0xFF else if x < 45 then x - 4 else if x < 46 then 0xFF
  else if x < 64 then 0xFF
  else if (x - 64) % 23 < 21 then 64 + 21 * ((x - 64) / 23) + (x - 64) % 23 else 0xFF

/-- The reset value of RSL_PHYS_STAT (Table 15.9): STATE 0 for units in service, 3 for spares. -/
def Reg.physReset (x : Nat) : Nat :=
  if 46 ≤ x ∧ x < 64 then 0
  else if Reg.physLogical x = 0xFF then 3 * 2 ^ 29 + 0xFF else Reg.physLogical x

/-- The reset value of an element of a register (the Reset columns of the maps).
Where the map gives no number: straps, factory data, fuses, random and restored values are zero (DESIGN
CHOICE, log 3); formulas are the spec's: R90 (TWL_SP_STAT), Table 16.5 (SET_SECTORS), Table 08.5 (TWD_PLACE), Table 11.9
(LST_REF_CFG), R531, R559. At State.reset the part is ACTIVE and slot A holds a CONFIRMED image (log 30, 31). -/
def Reg.reset (r : Reg) (i : Nat) : Word :=
  match r with
  | .TWL_SP_STAT => BitVec.ofNat 64 ((23 * (i / 21) + i % 21) * 2 ^ 21)
  | .EGR_HEALTH_MASK_A => if i < 2 then 0xFFFFFFFF else 0
  | .EGR_HEALTH_MASK_B => if i < 2 then 0 else 0xFFFFFFFF
  | .NIM_AFF_MAP => BitVec.ofNat 64 (i % 16)
  | .NIM_CORE_STAT => BitVec.ofNat 64 (i * 0x1000000)
  | .TWD_PLACE => if i < 128 then BitVec.ofNat 64 (2 ^ 31 + 32 * i) else 0
  | .TWD_FOLLOW => if i < 384 then 0x40000000 else 0
  | .TWD_CORE_STAT => BitVec.ofNat 64 i
  | .VMP_PIPE_STAT => BitVec.ofNat 64 i
  | .LST_REF_CFG => BitVec.ofNat 64 (Reg.refCfgReset i)
  | .RSL_UNIT_STAT => BitVec.ofNat 64 (Reg.unitPhys i * 2 ^ 16)
  | .UPD_SLOT_STAT => if i = 0 then 0x64000000 else 0
  | .INS_STATE => 0x60000000
  | .SET_SECTORS => 0x00F00000
  | .RSL_PHYS_STAT => BitVec.ofNat 64 (Reg.physReset i)
  | r => BitVec.ofNat 64 r.info.reset

/-- Walk the array dimensions of a register: the flat index and the byte within the element. -/
def Reg.walk : List (Nat × Nat) → Nat → Nat → Option (Nat × Nat)
  | [], rem, i => some (i, rem)
  | (n, st) :: ds, rem, i => if rem / st < n then Reg.walk ds (rem % st) (i * n + rem / st) else none

/-- The element of a register at a block offset: its index, and whether it is the high word. -/
def Reg.at (r : Reg) (off : Nat) : Option (Nat × Bool) :=
  if off < r.info.off then none
  else match Reg.walk r.info.dims (off - r.info.off) 0 with
    | some (i, 0) => some (i, false)
    | some (i, 4) => if r.info.wide then some (i, true) else none
    | _ => none

/-- How many elements a register has. -/
def Reg.count (r : Reg) : Nat := r.info.dims.foldl (fun n d => n * d.1) 1

/-- Search a list of registers for the one at a block offset. -/
def Reg.search : List Reg → Nat → Option (Reg × Nat × Bool)
  | [], _ => none
  | r :: rs, off => match r.at off with
    | some (i, hi) => some (r, i, hi)
    | none => Reg.search rs off

/-- The block that holds a BAR0 address: the one with the highest base not above it. -/
def Blk.ofAddr (a : Nat) : Blk :=
  if 0xf000000 ≤ a then .INS else
  if 0xe000000 ≤ a then .UPD else
  if 0xd800000 ≤ a then .SET else
  if 0xd000000 ≤ a then .AWL else
  if 0xc000000 ≤ a then .RSL else
  if 0xb000000 ≤ a then .NPT else
  if 0xa000000 ≤ a then .WLT else
  if 0x9000000 ≤ a then .NTM else
  if 0x8000000 ≤ a then .LST else
  if 0x7000000 ≤ a then .VMP else
  if 0x6000000 ≤ a then .ASP else
  if 0x5000000 ≤ a then .TWD else
  if 0x4000000 ≤ a then .NIM else
  if 0x3000000 ≤ a then .EGR else
  if 0x2000000 ≤ a then .ING else
  if 0x1000000 ≤ a then .TWL else
  if 0x100000 ≤ a then .BOOT else
  .GLB

/-- The register, element and half at a BAR0 address, none where the maps reserve it. -/
def Reg.ofAddr (a : Nat) : Option (Reg × Nat × Bool) :=
  Reg.search (Blk.ofAddr a).regs (a - (Blk.ofAddr a).base)

end Sys2Proof.Machine
end

