-- ==== Sys2Proof/Machine/Operands.lean ====
section
/-! DEFINITION. Operand forms: bit fields of words, signed readings, the status codes, the requesters, the
format codes and their tables (Tables 02.1, 02.2, 02.7, 03.3, 04.2, 05.1), and times. -/

namespace Sys2Proof.Machine

/-- The 16-bit status codes (Table 06.13). -/
inductive Status where
  | OK | LATE | BUSY | NO_ROOM | BAD_ARG | NOT_READY | REFUSED_POLICY | FORMAT_MISMATCH | NO_PATH
  | LB_SHORT | FENCED | STALE_SEQ | DRAINING | DIVERGED | AUTH_FAIL | MEDIA_FAIL | CONVERT_FAIL
  deriving DecidableEq, Repr, Inhabited

/-- The number of a status code (Table 06.13). -/
def Status.code : Status → Nat
  | .OK => 0 | .LATE => 1 | .BUSY => 2 | .NO_ROOM => 3 | .BAD_ARG => 4 | .NOT_READY => 5
  | .REFUSED_POLICY => 6 | .FORMAT_MISMATCH => 7 | .NO_PATH => 8 | .LB_SHORT => 9 | .FENCED => 0xA
  | .STALE_SEQ => 0xB | .DRAINING => 0xC | .DIVERGED => 0xD | .AUTH_FAIL => 0xE | .MEDIA_FAIL => 0xF
  | .CONVERT_FAIL => 0x10

/-- Who makes a register access: the host over PCIe, a Nimade store of accepted work or of a service,
the management core, or boot code (R18, R35, R630). -/
inductive Requester where
  | pcie | work | mgmt | boot
  deriving DecidableEq, Repr, Inhabited

/-- Bits lo to lo + len − 1 of a word, as a number. -/
def bits (lo len : Nat) (w : Word) : Nat := (w.toNat >>> lo) % 2 ^ len

/-- Bit i of a word. -/
def bit (i : Nat) (w : Word) : Bool := w.getLsbD i

/-- The word with ones at bits lo to lo + len − 1. -/
def maskOf (lo len : Nat) : Word := BitVec.ofNat 64 ((2 ^ len - 1) * 2 ^ lo)

/-- A word with bits lo to lo + len − 1 replaced by a number (taken modulo 2^len). -/
def insertBits (lo len v : Nat) (w : Word) : Word :=
  (w &&& ~~~(maskOf lo len)) ||| BitVec.ofNat 64 (v % 2 ^ len * 2 ^ lo)

/-- The low 32 bits of a word. -/
def low32 (w : Word) : Word := w &&& 0xFFFFFFFF

/-- The number read as signed in n bits. -/
def signedOf (n v : Nat) : Int := if v % 2 ^ n < 2 ^ (n - 1) then (v % 2 ^ n : Nat) else (v % 2 ^ n : Nat) - (2 ^ n : Nat)

/-- A signed number as n bits of two's complement. -/
def unsignedOf (n : Nat) (v : Int) : Nat := (v % (2 ^ n : Nat)).toNat

/-- A signed number clamped to n bits of two's complement. -/
def clampSigned (n : Nat) (v : Int) : Int :=
  if v < -(2 ^ (n - 1) : Nat) then -(2 ^ (n - 1) : Nat)
  else if (2 ^ (n - 1) : Nat) ≤ v then (2 ^ (n - 1) : Nat) - 1 else v

/-- A number saturated at the largest value of n bits. -/
def satTo (n v : Nat) : Nat := if v < 2 ^ n then v else 2 ^ n - 1

/-- The quotient rounded up. -/
def ceilDiv (a b : Nat) : Nat := (a + b - 1) / b

/-- The number of set bits among the low n bits. -/
def popCount (n v : Nat) : Nat := (List.range n).foldl (fun c i => c + (v / 2 ^ i) % 2) 0

/-! ### Formats -/

/-- The raster nibble of a format code (Table 02.2). -/
def rasterOf (code : Nat) : Nat := code / 16 % 16

/-- The rate nibble of a format code (Table 02.2). -/
def rateNibble (code : Nat) : Nat := code % 16

/-- The SDI rate code that carries a format, 0 for a code that Table 02.1 does not accept (R36). -/
def sdiRateOf (code : Nat) : Nat :=
  if code = 0x17 ∨ code = 0x26 then 1
  else if code ∈ [0x36, 0x38, 0x46, 0x48, 0x52, 0x53, 0x55, 0x62, 0x63, 0x65] then 2
  else if code ∈ [0x37, 0x47, 0x51, 0x54, 0x61, 0x64] then 3
  else if code = 0x66 ∨ code = 0x68 then 4
  else if code = 0x67 then 5
  else if code ∈ [0x72, 0x73, 0x75] then 6
  else if code ∈ [0x71, 0x74] then 7
  else if code ∈ [0x76, 0x78, 0x86, 0x88] then 8
  else if code ∈ [0x77, 0x87] then 9
  else 0

/-- Whether Table 02.1 accepts a format code. -/
def fmtAccepted (code : Nat) : Bool := sdiRateOf code != 0

/-- Whether a raster is interlaced, so that its rate is a field rate (R37, R185). -/
def interlaced (code : Nat) : Bool := rasterOf code == 1 || rasterOf code == 2 || rasterOf code == 4

/-- The numerator of the exact rate of a rate nibble (Table 05.1). -/
def rateNum (code : Nat) : Nat :=
  match rateNibble code with
  | 1 => 24000 | 2 => 24 | 3 => 25 | 4 => 30000 | 5 => 30 | 6 => 50 | 7 => 60000 | 8 => 60 | _ => 0

/-- The denominator of the exact frame rate F of a format: half the field rate when interlaced
(Table 05.1, R185). -/
def rateDen (code : Nat) : Nat :=
  (match rateNibble code with | 1 => 1001 | 4 => 1001 | 7 => 1001 | _ => 1) * (if interlaced code then 2 else 1)

/-- Lines of a frame (Table 04.2): for 2160p and each link of 4320p, the 1,125 link lines. -/
def linesOf (code : Nat) : Nat :=
  match rasterOf code with | 1 => 525 | 2 => 625 | 3 => 750 | _ => 1125

/-- The switch line of a format (Table 04.2). -/
def switchLine (code : Nat) : Nat :=
  match rasterOf code with | 1 => 10 | 2 => 6 | _ => 7

/-- The frame period in ns, rounded down; 0 for a code with no rate. -/
def periodNs (code : Nat) : Nat := 1000000000 * rateDen code / rateNum code

/-- Lines of a format in a time: the time in ns over the line period, rounded up. -/
def nsToLines (code ns : Nat) : Nat := ceilDiv (ns * rateNum code * linesOf code) (1000000000 * rateDen code)

/-- The active width in samples (Table 02.7). -/
def widthOf (code : Nat) : Nat :=
  match rasterOf code with | 1 => 720 | 2 => 720 | 3 => 1280 | 4 => 1920 | 5 => 1920 | 6 => 1920 | 7 => 3840 | 8 => 7680 | _ => 0

/-- The active height in lines (Table 02.7). -/
def heightOf (code : Nat) : Nat :=
  match rasterOf code with | 1 => 486 | 2 => 576 | 3 => 720 | 4 => 1080 | 5 => 1080 | 6 => 1080 | 7 => 2160 | 8 => 4320 | _ => 0

/-- A picture form: format code, sampling (0 4:2:2, 1 4:4:4 YCbCr, 2 4:4:4 RGB) and depth (0 8-bit, 1 10-bit,
2 12-bit) (Table 02.12). -/
structure Form where
  code : Nat
  sampling : Nat
  depth : Nat
  deriving DecidableEq, Repr, Inhabited

/-- A format at 4:2:2 10-bit, the form of every SDI and ST 2022-6 input (R664). -/
def Form.sdi (code : Nat) : Form := ⟨code, 0, 1⟩

/-- The bytes of a frame's active picture as stored (R82): 2 or 3 samples per pixel, at 10 bits for 8-bit
and 10-bit sources and 12 bits for 12-bit sources. -/
def Form.bytes (f : Form) : Nat :=
  widthOf f.code * heightOf f.code * (if f.sampling = 0 then 2 else 3) * (if f.depth = 2 then 12 else 10) / 8

/-- The 2 MiB pages of a ring frame: the picture and a 16 KiB region (R82, Table 02.7). -/
def Form.pages (f : Form) : Nat := ceilDiv (f.bytes + 16384) 2097152

/-- A frame-store stream in units of 10 kB/s: two times the picture bytes times the frame rate (R84). -/
def Form.load (f : Form) : Nat := if rateDen f.code = 0 then 0 else 2 * f.bytes * rateNum f.code / rateDen f.code / 10000

/-- The frame-store budget of R21, 2,600 GB/s, in the same units. -/
def storeBudget : Nat := 260000000

/-- Whether an input format has the same frame rate as its domain (R65). -/
def sameRate (inp dom : Nat) : Bool :=
  rateNum inp != 0 && rateNum inp * rateDen dom == rateNum dom * rateDen inp

/-- Whether an input format has twice the frame rate of its domain (R65). -/
def doubleRate (inp dom : Nat) : Bool :=
  rateNum inp != 0 && rateNum dom != 0 && rateNum inp * rateDen dom == 2 * rateNum dom * rateDen inp

/-- Whether an input format fits a domain (R65). -/
def fitsDomain (inp dom : Nat) : Bool := sameRate inp dom || doubleRate inp dom

/-! ### Times -/

/-- A time inside the part: 48-bit seconds, 32-bit nanoseconds and a 16-bit fraction (R6), carried as one
count of 2⁻¹⁶ ns since the PTP epoch. -/
abbrev FineTime := Nat

/-- One second in units of 2⁻¹⁶ ns. -/
def fineSecond : Nat := 1000000000 * 65536

/-- The Nimade time: 64-bit ns since the PTP epoch (R6). -/
def nimTime (t : FineTime) : Nat := t / 65536 % 2 ^ 64

end Sys2Proof.Machine
end

