-- ==== Sys2Proof/Machine/Types.lean ====
section
/-! DEFINITION. The records of which the state and the commands' operands are made, chapter by chapter. -/

namespace Sys2Proof.Machine

/-- The key of a journal entry (R254). -/
structure Key where
  origin : Nat
  seq : Nat
  sub : Nat
  deriving DecidableEq, Repr, Inhabited

/-! ### Host side, pins and the Awl staging queue (chapters 16, 18) -/

/-- An entry of the MSI-X table in BAR4 (R618): address, data and whether its vector is unmasked. -/
structure MsixEntry where
  addr : Nat
  data : Nat
  open_ : Bool
  deriving DecidableEq, Repr, Inhabited

/-- The host interface beyond the registers: the MSI-X table and pending-bit array, and the pins. -/
structure HostSide where
  /-- The part is held in cold reset: PORST_N or STBY_PG is low, or a trip lasts (R624). -/
  inReset : Bool
  /-- The MSI-X table (R618). -/
  msix : Tbl MsixEntry
  /-- The pending-bit array: vectors raised while masked, in rising order (R622). -/
  pba : Tbl Bool
  /-- ALERT_N is driven low (R623). -/
  alertLow : Bool
  deriving DecidableEq, Repr, Inhabited

/-- An entry of the Awl staging queue in retention SRAM (Table 16.10), with the TIME and OPSEC of its TICK
(R586). -/
structure Staged where
  tick : Nat
  code : Nat
  src : Nat
  rep : Nat
  arg : Nat
  /-- Nimade ns on TB0 at the first occurrence; 0 when TB0 was STOPPED. -/
  time : Nat
  /-- Operating seconds at the first occurrence. -/
  opsec : Nat
  /-- The 1 ms merge window is open (R584). -/
  window : Bool
  /-- Kept across a cut: flagged RETAINED when written (R587). -/
  retained : Bool
  deriving DecidableEq, Repr, Inhabited

/-- An Awl record as written to a medium (Table 16.8). -/
structure AwlRecord where
  seq : Nat
  time : Nat
  opsec : Nat
  src : Nat
  code : Nat
  arg : Nat
  rep : Nat
  flags : Nat
  pcycles : Nat
  epoch : Nat
  deriving DecidableEq, Repr, Inhabited

/-- The Awl recorder beyond its registers (R582 to R596). -/
structure Awl where
  /-- The staging queue, oldest first (R584). -/
  staged : List Staged
  /-- Events lost since the last LOST_EVENTS record (R585). -/
  lost : Nat
  /-- The MRAM log by slot (R586). -/
  mram : Tbl (Option AwlRecord)
  /-- The flash fallback by record index (R594). -/
  flash : Tbl (Option AwlRecord)
  /-- The last-words ring, newest first (R595). -/
  lastWords : List AwlRecord
  /-- Failures of AWL_CLR_CTRL.GO in a row have locked GO out (R593). -/
  lockout : Bool
  /-- The MRAM log has failed (Table 16.2, persistence state). -/
  mramFailed : Bool
  /-- RETRY_MRAM runs; a latch of AWL_RD_IDX runs (R591, R594). -/
  retrying : Bool
  latching : Bool
  /-- Fallback sectors in a row in which a program failed (R595). -/
  badSectors : Nat
  deriving DecidableEq, Repr, Inhabited

/-! ### Getting signals in (chapter 02) -/

/-- What a receiver measures of one complete frame delimited by TRS (R39, R40): total lines, active samples
per line, interlace, and the format code that the measurement and the line rate give (0x00 when Table 02.1
holds no such structure). -/
structure FrameMeas where
  lines : Nat
  samples : Nat
  inter : Bool
  code : Nat
  deriving DecidableEq, Repr, Inhabited

/-- An ST 352 payload ID read from a frame (R39): the four bytes, the format code that its raster and rate
name, and the sampling, depth, level B and link number it states. -/
structure Pid where
  payload : BitVec 32
  code : Nat
  sampling : Nat
  depth : Nat
  levelB : Bool
  link : Nat
  deriving DecidableEq, Repr, Inhabited

/-- The kinds of ST 291-1 packet that reception tells apart (R43, R45). -/
inductive AncKind where
  | audio (group : Nat) | audioControl | pid352 | other
  deriving DecidableEq, Repr, Inhabited

/-- An ST 291-1 packet as received: its kind, its bytes and whether its checksum is right (R45). -/
structure AncPkt where
  kind : AncKind
  bytes : Nat
  sumOk : Bool
  deriving DecidableEq, Repr, Inhabited

/-- A frame of an input's ring that has been written: its number, whether it is good (R53, R74), the kept
ancillary packets and bytes (R45), and the instant it closed on the domain's time base (R62). -/
structure RingFrame where
  num : Nat
  good : Bool
  ancPkts : Nat
  ancBytes : Nat
  closed : FineTime
  deriving DecidableEq, Repr, Inhabited

/-- A packet-input frame that has not closed (R51, R52): the input frame its RTP timestamp names, the samples
written, the sums for the path differential (R56) and the packets of each leg. -/
structure OpenFrame where
  num : Nat
  samples : Nat
  ancPkts : Nat
  ancBytes : Nat
  deriving DecidableEq, Repr, Inhabited

/-- What a source shows in the current frame of its domain (R75, R81). -/
inductive Picture where
  | black | frame (num : Nat)
  deriving DecidableEq, Repr, Inhabited

/-- The state of one input beyond its registers (R34 to R84). -/
structure Input where
  /-- The receiver has CDR lock (R38, R478). -/
  lock : Bool
  /-- The rate code at which the receiver last had lock, for a relock without hunting (R38). -/
  hadRate : Nat
  /-- The rate code the receiver is trying (R38); 0 none. -/
  hunt : Nat
  /-- The measurement of the last complete frame (R40). -/
  meas : Option FrameMeas
  /-- The structure of the last format decision, supported or not (R40). -/
  decidedMeas : Option FrameMeas
  /-- The form of the last decision that was accepted (R65, R77). -/
  fits : Bool
  /-- The input is lost (R73). -/
  lost : Bool
  /-- The allocation format of the ring and stream (R664). -/
  alloc : Form
  /-- The frame-store stream reserved for the ring, in 10 kB/s (R84). -/
  load : Nat
  /-- Lines written of the frame being written (R62, R74). -/
  lines : Nat
  /-- The frame being written has been interrupted (R74). -/
  bad : Bool
  /-- The interrupted frame has been counted in ING_IN_BADFRM (R74). -/
  badCounted : Bool
  /-- Kept ancillary packets of the frame being written (R45). -/
  ancPkts : Nat
  /-- Kept ancillary bytes of the frame being written (R45). -/
  ancBytes : Nat
  /-- The number of the next frame to be written. -/
  nextNum : Nat
  /-- Frames written and not yet read, oldest first (R62, R63). -/
  unread : List RingFrame
  /-- Packet frames that have not closed, oldest first (R51, R52). -/
  opening : List OpenFrame
  /-- The highest frame number that has closed, plus one (R53). -/
  closedTo : Nat
  /-- The last good frame output (R75). -/
  lastGood : Option Nat
  /-- The good frame before the one being read (R74). -/
  prevGood : Option Nat
  /-- The frame being read while it is still being written (R62, R74). -/
  reading : Bool
  /-- What the source shows (R75). -/
  shows : Picture
  /-- No eligible frame has been output since the input became LOCKED (Table 02.5). -/
  waiting : Bool
  /-- Boundaries for which the output repeats while the ring fills (R68). -/
  held : Nat
  /-- The last boundary repeated or dropped a frame: the SLIP flag of its cells (R63). -/
  slipped : Bool
  /-- The input runs in DIRECT mode (R69, R72). -/
  direct : Bool
  /-- A change to DIRECT awaits the next boundary (R72). -/
  pendDirect : Bool
  /-- The domain in effect (R67). -/
  dom : Nat
  /-- A change of domain awaits a boundary of the new domain (R67). -/
  pendDom : Option Nat
  /-- The DELAY_FRAMES in effect (R68). -/
  delay : Nat
  /-- A change of DELAY_FRAMES awaits the next boundary (R68). -/
  pendDelay : Option Nat
  /-- A new binding awaits the next boundary (R49). -/
  pendBind : Bool
  /-- A resize of the ring awaits the next boundary: frames and form (R55, R664). -/
  pendRing : Option (Nat × Form)
  /-- Input frames still to be discarded as they arrive: every second frame at twice the domain's rate, and
  frames skipped (R65, R68). -/
  owe : Nat
  /-- The ring's pages are to be freed at the next boundary (Table 02.5). -/
  pendFree : Bool
  /-- The decided format breaks the DIRECT limit of R71. -/
  pdBreak : Bool
  /-- Extended sequence numbers of the video flow received within the window (R54). -/
  seen : List Nat
  /-- The form of the last frame a packet input closed, for the next decision (R40, R51). -/
  lastForm : Option Form
  deriving DecidableEq, Repr, Inhabited

/-- The state of an audio context beyond its registers: the sequence numbers received within the window (R58). -/
structure AudioCtx where
  seen : List Nat
  deriving DecidableEq, Repr, Inhabited

/-- The ingress block beyond its registers. -/
structure Ing where
  /-- The inputs 0 to 383 (R34). -/
  inputs : Tbl Input
  /-- The audio contexts 0 to 1,023 (R48, R58). -/
  audio : Tbl AudioCtx
  deriving DecidableEq, Repr, Inhabited

/-! ### Twill: the crosspoint fabric (chapter 03) -/

/-- A MEDIA, BULK, CTRL or LINK cell header (Table 03.2). -/
abbrev CellHdr := BitVec 128

/-- What becomes of a reservation with an end time (R102, R153): the time base and time that end it, and whether it
then becomes steady or is released. -/
structure ResEnd where
  tb : Nat
  time : FineTime
  keep : Bool
  deriving DecidableEq, Repr, Inhabited

/-- The part of a route that crosses this part: what it holds and, once settled, what it carries (R96, R101, R104,
R112). -/
structure Route where
  /-- The request's identifier. -/
  req : Nat
  flow : Nat
  /-- The source identifier (R34). -/
  src : Nat
  /-- Slots of each stream (R97). -/
  slots : Nat
  /-- The ingress slice-port and stream context of each stream: one, or four for a bonded source. -/
  ing : List (Nat × Nat)
  /-- The egress slice-port of each stream. -/
  egr : List Nat
  /-- Flagged PRESTAGE. -/
  pre : Bool
  ends : Option ResEnd
  /-- Admission order, lowest first. -/
  order : Nat
  /-- Settled: admitted and in effect; otherwise held (R105). -/
  settled : Bool
  /-- Stopped on a degraded link (R119). -/
  stopped : Bool
  /-- This part is the destination part of the route. -/
  atDest : Bool
  /-- The route that this one replaces under R120 or R153. -/
  replaces : Option Nat
  deriving DecidableEq, Repr, Inhabited

/-- A route request as it reaches a hop (R104): the flow and its source, the carriage rate in kbit/s, the slice-ports
by which each stream may enter this part and leave it, the relays on its path, the pre-stage end, and whether this
part is the source part and the destination part. -/
structure RouteHop where
  req : Nat
  flow : Nat
  src : Nat
  carriage : Nat
  /-- For each stream, the slice-ports of the shim on which it enters. -/
  ingress : List (List Nat)
  /-- The slice-ports of the shim by which every stream leaves. -/
  egress : List Nat
  relays : Nat
  pre : Option ResEnd
  atSource : Bool
  atDest : Bool
  replaces : Option Nat
  deriving DecidableEq, Repr, Inhabited

/-- A cell in an arbitrated queue, with the count that orders it by age. -/
structure QCell where
  hdr : CellHdr
  age : Nat
  deriving DecidableEq, Repr, Inhabited

/-- An arbitrated queue (R107): its branch and destination, its cells, the cells its held requester waits to place,
and the accounts of R109 and R110. -/
structure AQueue where
  open_ : Bool
  branch : Nat
  dchip : Nat
  dport : Nat
  cells : List QCell
  waiting : List CellHdr
  seq : Nat
  /-- Cells sent in this period, for the weighted service of R109. -/
  sent : Nat
  sentPrev : Nat
  /-- Continuously eligible through this and the last period. -/
  cont : Bool
  contPrev : Bool
  deriving DecidableEq, Repr, Inhabited

/-- A logical slice-port beyond its registers (R98 to R111). -/
structure SlicePort where
  /-- The active calendar: 4,096 entries of R99. -/
  cal : Tbl Nat
  /-- The shadow calendar. -/
  shadow : Tbl Nat
  /-- The shadow differs and flips at the next period boundary (R100). -/
  flip : Bool
  /-- Next SEQ of each stream context. -/
  ctxSeq : Tbl Nat
  queues : Tbl AQueue
  /-- Cells placed so far, for ages. -/
  placed : Nat
  /-- Slots of this and the last period without a scheduled cell (R110). -/
  free : Nat
  freePrev : Nat
  /-- The largest number of eligible queues seen in this and the last period (R110). -/
  most : Nat
  mostPrev : Nat
  /-- Cells in this slice-port's 256-cell arbitrated buffer (R108). -/
  buffer : Nat
  /-- For each stream received, keyed by FLOW and SRC: its last SEQ, FRAME and LINE, as SEQ + 2^16 × FRAME +
  2^24 × LINE, plus one (R95). -/
  last : Tbl Nat
  deriving DecidableEq, Repr, Inhabited

/-- Gap marks passed to an egress shim's output stage (R95): the missing cells of a flow between two cells. -/
structure GapMark where
  port : Nat
  flow : Nat
  count : Nat
  fromFrame : Nat
  fromLine : Nat
  toFrame : Nat
  toLine : Nat
  deriving DecidableEq, Repr, Inhabited

/-- A pending slice-port swap (R133): the logical slice-port, its new physical carrier, whether it is a swap back. -/
structure Swap where
  sp : Nat
  phys : Nat
  spare : Nat
  back : Bool
  deriving DecidableEq, Repr, Inhabited

/-- A directory update (R128): its origin, its number, the flow, and the entry, none for a withdrawal. -/
structure DirUpdate where
  origin : Nat
  seq : Nat
  flow : Nat
  entry : Option Word128
  deriving DecidableEq, Repr, Inhabited

/-- A directory write or withdrawal of this part that awaits acknowledgement (R129): its update, the parts awaited,
and whether a part reported a conflict. -/
structure DirPending where
  upd : DirUpdate
  waiting : List Nat
  conflict : Bool
  /-- The flow instruction that awaits the status: its context, key and index; none for TWL_DIR_CMD. -/
  who : Option (Option Nat × Key × Nat)
  deriving DecidableEq, Repr, Inhabited

/-- The directory beyond its entries (R125 to R132). -/
structure Dirs where
  /-- The next update number applied from each origin (R128). -/
  next : Tbl Nat
  /-- Updates held after a gap (R128). -/
  held : List DirUpdate
  /-- This part's own last 4,096 updates, newest first (R128). -/
  log : List DirUpdate
  /-- The orders that await acknowledgement. -/
  pend : List DirPending
  /-- Parts marked for resynchronisation (R129). -/
  marked : List Nat
  /-- Origins that a resynchronisation still awaits (R131). -/
  awaiting : List Nat
  /-- Origins left for later (R131). -/
  later : List Nat
  /-- Flows whose entries lie in the overflow table (R125). -/
  overflow : Tbl Bool
  /-- Own entries in the crosspoint and flow state image in MRAM (R131). -/
  image : Tbl Word128
  deriving DecidableEq, Repr, Inhabited

/-- Twill beyond its registers. -/
structure Twl where
  ports : Tbl SlicePort
  /-- Routes held and admitted on this part, in order of admission. -/
  routes : List Route
  orders : Nat
  /-- The delivery table: the replication set of each flow (R124). -/
  deliv : Tbl Nat
  /-- Delivery changes that take effect at the next period boundary (R124). -/
  delivNext : List (Nat × Nat)
  /-- The replication sets by number, as bits over the logical slice-ports (R112). -/
  rsets : Tbl (BitVec 168)
  /-- The link plus one toward each part, from the link-state view; 0 for a part not reachable (R115, R129). -/
  toward : Tbl Nat
  /-- Credit to send arbitrated cells to a destination, keyed 256 × part + slice-port (R108). -/
  credit : Tbl Nat
  gaps : List GapMark
  swap : Option Swap
  dirs : Dirs
  deriving DecidableEq, Repr, Inhabited

/-! ### The Cobbler cores, work orders and the journal (chapters 06, 07) -/

/-- What the issue of instructions has reached (R287): the cycle of the last issue, counted while the context holds
the core; the instruction that a second may still join, as its class and what it writes (registers 0 to 31, predicates
32 to 39, st 40, none 41); and the cycle from which each register may be read. -/
structure Pipe where
  last : Nat
  open_ : Option (Bool × Nat)
  ready : Tbl Nat
  deriving DecidableEq, Repr, Inhabited

/-- Where an instruction executes, and its guard (R283, R284): its core, the guard predicate pg and its negation n. -/
structure NimAt where
  core : Fin 16
  pg : Fin 8
  neg : Bool
  deriving DecidableEq, Repr, Inhabited

/-- What a program context is doing (R233). -/
inductive CtxRun where
  | off | ready | running
  /-- It awaits the result of an instruction (R296, R304, R307, R310). -/
  | result
  /-- It waits for an event in a mask or for a deadline, 0 none (R312). -/
  | event (mask deadline : Nat)
  deriving DecidableEq, Repr, Inhabited

/-- A program context of a core (Table 06.1). -/
structure NimCtx where
  run : CtxRun
  /-- The order in which it became ready (R233). -/
  since : Nat
  /-- The service slot, for a service context. -/
  slot : Option Nat
  /-- The journal entry it runs, for a journalled context. -/
  entry : Option Key
  /-- g1 to g31. -/
  g : Tbl Word
  /-- p0 to p7; p0 reads 1. -/
  p : BitVec 8
  /-- tb0 to tb3. -/
  tb : Tbl Word
  st : BitVec 32
  pc : Nat
  /-- The instruction space: 1 LIBRARY, 2 SHARED, 4 ORDER (R290). -/
  space : Nat
  /-- LOCAL memory, 8 KiB (R234). -/
  loc : Tbl Byte
  /-- Signal-plane instructions executed (R296). -/
  sig : Nat
  pipe : Pipe
  /-- The destination register of the result it awaits. -/
  rd : Nat
  deriving DecidableEq, Repr, Inhabited

/-- The phases of a journal entry (Table 06.9). -/
inductive JPhase where
  | accepted | running | complete
  deriving DecidableEq, Repr, Inhabited

/-- A journal entry: its head (Table 06.8), its current progress slot (Table 06.9), its body, and what the part knows
of its acknowledgement. -/
structure JEntry where
  key : Key
  /-- Accepted on side B. -/
  sideB : Bool
  mirrored : Bool
  alone : Bool
  inline_ : Bool
  forwarded : Bool
  /-- 0 DEST, 1 NONE, 2 ALL (Table 06.4). -/
  affinity : Nat
  dest : Nat
  /-- Journal time of acceptance, and acceptance times on TB1 to TB3 (R242, R255). -/
  time : Nat
  tb1 : Nat
  tb2 : Nat
  tb3 : Nat
  len : Nat
  body : Tbl Byte
  headSlot : Nat
  first : Nat
  progA : Nat
  progB : Nat
  gen : Nat
  phase : JPhase
  trap : Nat
  final : Status
  /-- Statuses of the completed signal-plane instructions (Table 06.9). -/
  sigs : List Status
  partnerDone : Bool
  tag : Nat
  /-- The submission queue that took it on this part. -/
  queue : Option Nat
  /-- The tick at which its ACK was posted or, for an entry of the partner, its head written (R260). -/
  since : Option Nat
  /-- It awaits the partner's reply before its ACK (R262). -/
  awaiting : Bool
  donePosted : Bool
  replayed : Bool
  /-- The word index of a trap (Table 06.6). -/
  pcAt : Nat
  /-- Tags of duplicates that await its DONE (Table 06.7). -/
  dups : List Nat
  deriving DecidableEq, Repr, Inhabited

/-- A submission queue entry as fetched from host memory (Table 06.4), with its body, none when the fetch fails. -/
structure Sqe where
  seq : Nat
  flags : Nat
  affinity : BitVec 32
  tag : Nat
  body : Option (List Byte)
  deriving DecidableEq, Repr, Inhabited

/-- A take completion record (Table 04.4). -/
structure TakeRec where
  seq : Nat
  time : Nat
  otd : Nat
  dest : Nat
  src : Nat
  status : Status
  flags : Nat
  salvo : Nat
  deriving DecidableEq, Repr, Inhabited

/-- What a completion record holds (Table 06.6). -/
inductive CqBody where
  | ack (st : Status)
  | refused (st : Status)
  | done (st : Status)
  | take (r : TakeRec)
  | event (data : BitVec 192)
  deriving DecidableEq, Repr, Inhabited

/-- A completion record with the envelope fields that its kind sets (Table 06.6). -/
structure CqRecord where
  body : CqBody
  seq : Nat
  tag : Nat
  trap : Nat
  pc : Nat
  dup : Bool
  replayed : Bool
  alone : Bool
  deriving DecidableEq, Repr, Inhabited

/-- A service slot beyond its registers (R275 to R278, R308). -/
structure Service where
  /-- The core and context on which it runs. -/
  at_ : Option Nat
  /-- Messages: the sender's part and slot, and the 32 bytes. -/
  msgs : List (Nat × Nat × BitVec 256)
  takes : List TakeRec
  dones : List (Nat × Status)
  rings : List (List Byte)
  /-- Items dropped since the last item taken, for MSG, TAKE, DONE and RING. -/
  lostMsg : Nat
  lostTake : Nat
  lostDone : Nat
  lostRing : Nat
  /-- A wait has named TAKE (R308). -/
  takeOn : Bool
  /-- An entry has become COMPLETE since the last wait that returned JRNDONE (R312). -/
  jrnDone : Bool
  /-- The sender of the last MSG received: part and slot (R310). -/
  lastFrom : Option (Nat × Nat)
  /-- The ticks of its traps within the last 10 s (R278). -/
  traps : List Nat
  deriving DecidableEq, Repr, Inhabited

/-- A signal-plane instruction applied, by key and index, with the status and value recorded (R269). -/
structure Applied where
  key : Key
  index : Nat
  st : Status
  deriving DecidableEq, Repr, Inhabited

/-- The cores, the journal and the services beyond their registers. -/
structure Nim where
  /-- Contexts by 8 × core + context. -/
  ctxs : Tbl NimCtx
  /-- The context each core runs, plus one. -/
  running : Tbl Nat
  /-- Contexts made ready so far. -/
  readied : Nat
  /-- The shared control SRAM: LIBRARY and SHARED, 8 MiB. -/
  sram : Tbl Byte
  /-- The journal's entries, in key order (R254). -/
  journal : List JEntry
  /-- The journal clock (R255). -/
  clock : Nat
  /-- The partner's last frontier (R264). -/
  frontier : Nat
  /-- TAKE and EVENT records that wait for room, by queue (R250). -/
  waiting : List (Nat × CqRecord)
  /-- ACK and REFUSED records held while their queue is not enabled (R627). -/
  heldAcks : List (Nat × CqRecord)
  /-- Records held while a warm reset lasts (R156). -/
  heldRecords : List (Nat × CqRecord)
  /-- Records dropped beyond the 512th while the warm reset lasts (R156). -/
  lostHeld : Nat
  /-- PHASE of each completion queue, 1 until its first wrap (R248). -/
  phase : Tbl Bool
  /-- High-water marks of the sources that are not queues: 66 and 96 to 127 (R245). -/
  hwm : Tbl Nat
  /-- The management core announced a warm reset and has not returned. -/
  warm : Bool
  services : Tbl Service
  /-- Records of applied signal-plane instructions (R269), newest first. -/
  applied : List Applied
  /-- Side B's jsub journals: the partner is declared lost (R277). -/
  leading : Bool
  deriving DecidableEq, Repr, Inhabited

/-! ### Takes (chapter 04) -/

/-- What is known of a source when a take executes (R146, R161): enabled and not gated, DIRECT, WINDOW, its domain,
its form when decided, and its input state. -/
structure SrcView where
  ready : Bool
  direct : Bool
  window : Bool
  otd : Nat
  form : Option Form
  state : Nat
  deriving DecidableEq, Repr, Inhabited

/-- A candidate path of a route (R155): the Lace link by which the stream enters this part, none when the source is on
it; the relays crossed; and the smallest headroom that the path would keep on resources in which candidates differ. -/
structure PathCand where
  link : Option Nat
  relays : List Nat
  headroom : Int
  deriving DecidableEq, Repr, Inhabited

/-- What the part learns from elsewhere for one take: the source as its part reports it, the candidate paths of its
link-state view, the network port group on whose shim a packet input of this part enters, the partner of the source's
part when that part is MIRRORED (R171), and, for a destination on another part, what that part answers (R159). -/
structure TakeView where
  remote : SrcView
  paths : List PathCand
  group : Nat
  srcPartner : Option Nat
  reply : Status × Nat
  deriving DecidableEq, Repr, Inhabited

/-- A take that has been accepted and has not yet switched (R142, R143, R156). -/
structure PendTake where
  out : Nat
  /-- The source as executed, after R171, and as named. -/
  src : Nat
  named : Nat
  otd : Nat
  /-- The frame count whose switch point it switches at. -/
  frame : Nat
  key : Key
  /-- Its signal-plane index and its position in its salvo. -/
  sig : Nat
  pos : Nat
  salvo : Nat
  atomic : Bool
  /-- OK, or the status with which this part refuses it while it awaits its partner's (R172). -/
  own : Status
  /-- The pre-stage route, none when it needs none. -/
  req : Option Nat
  routed : Bool
  /-- The partner's admission result (R172). -/
  partner : Option Status
  alone : Bool
  armed : Bool
  late : Bool
  nochange : Bool
  pathLost : Bool
  dirty : Bool
  mismatch : Bool
  bonded : Bool
  replayed : Bool
  view : SrcView
  deriving DecidableEq, Repr, Inhabited

/-- The account of a take or salvo instruction, or of a forwarded order, until every member is armed or refused
(R297, R298): the context that awaits it, whether it is a single take, the members left and refused, whether one was
late, the first refused member in salvo order, and a single take's switch time. -/
structure SalvoAcct where
  key : Key
  sig : Nat
  ctx : Option Nat
  single : Bool
  left : Nat
  refused : Nat
  late : Bool
  firstBad : Option (Nat × Status)
  time : Nat
  deriving DecidableEq, Repr, Inhabited

/-- A cross-check record (R176): the output, the domain frame count modulo 256, the CRC, the selected source
normalised to side A, and the impairment flags of Table 04.5. -/
structure XchkRec where
  out : Nat
  frame : Nat
  crc : BitVec 64
  src : Nat
  flags : Nat
  deriving DecidableEq, Repr, Inhabited

/-- What the destination crosspoint and flow image of MRAM records (Table 16.1) beyond the directory entries and the
applied keys, which stand in their own records. -/
structure XpImage where
  /-- Selection by output, plus one. -/
  sel : Tbl Nat
  /-- Switch frame of the last take recorded for an output. -/
  when_ : Tbl Nat
  deriving DecidableEq, Repr, Inhabited

/-- Takes beyond the registers. -/
structure Tks where
  /-- Pending takes, in order of acceptance. -/
  takes : List PendTake
  /-- Instructions and forwarded orders whose members are not all armed or refused. -/
  accts : List SalvoAcct
  /-- Requests made so far, for request identifiers. -/
  reqs : Nat
  image : XpImage
  /-- Cross-check records this part sent for the last frames, newest first. -/
  sentX : List XchkRec
  /-- Consecutive diverged frames of an output (R178). -/
  diverged : Tbl Nat
  /-- A run of explained frames is open for an output (R177). -/
  explained : Tbl Bool
  /-- Consecutive frames in which records for every output were missing (R181). -/
  missing : Nat
  /-- Records received since the last frame boundary. -/
  got : Nat
  /-- The self-check runs; its own result once it has finished, the first failed step (Table 04.6). -/
  check : Option (Option Nat)
  /-- The partner's result, if it came first. -/
  partnerCheck : Option Bool
  deriving DecidableEq, Repr, Inhabited

/-! ### Getting signals out (chapter 05) -/

/-- An output timing domain beyond its registers. -/
structure Otd where
  /-- Frame boundaries from the epoch to the start of the current frame (R186). -/
  frame : Nat
  /-- While it realigns: the frame count of the first boundary of the new alignment (R188, R189). -/
  target : Option Nat
  /-- The end of the frame in progress at the first step, on the time base as last stepped (R189). -/
  endAt : FineTime
  deriving DecidableEq, Repr, Inhabited

/-- An output beyond its registers. -/
structure Output where
  /-- The override in effect, its generator (R198). -/
  ovr : Nat
  pat : Nat
  /-- The ident in effect (R201): its position and eight text words. -/
  identPos : Nat
  ident : List Nat
  /-- The route that feeds the selection; none when it needs none or has none. -/
  route : Option Nat
  /-- What the part knows of the selected source, and the source as named, normalised to side A (R176). -/
  view : SrcView
  norm : Nat
  /-- The source whose audio it follows, and the change to come at a block boundary (R147). -/
  audio : Nat
  audioNext : Option (Nat × FineTime)
  /-- The selection is delivered to the shim: cells arrive. -/
  fed : Bool
  /-- Consecutive lines with gap marks (R195). -/
  gapLines : Nat
  /-- A whole line has arrived since GAP_BLACK was set (R195). -/
  wholeLine : Bool
  /-- Impairment flags of the frame (Table 04.5). -/
  flags : Nat
  /-- Line slips of the frame (R196). -/
  slips : Nat
  /-- The lane transmits at its domain's rate (Table 05.7). -/
  lane : Bool
  deriving DecidableEq, Repr, Inhabited

/-- The three kinds of sender. -/
inductive SndKind where
  | video | audio | anc
  deriving DecidableEq, Repr, Inhabited

/-- A sender of any kind beyond its registers. -/
structure Sender where
  /-- The route of a SOURCE sender (R211), and the source it sends. -/
  route : Option Nat
  src : Nat
  /-- A new source that takes effect at the next RTP frame boundary, with its route. -/
  next : Option (Nat × Nat)
  /-- It stops after its current frame or packet (R226, R227). -/
  stopping : Bool
  /-- It runs. -/
  run : Bool
  /-- It sends the partner's leg as well (R220). -/
  takeover : Bool
  /-- Packets of the current frame queued and not yet sent. -/
  queued : Nat
  /-- Its wire rate in bit/s on each leg (R210). -/
  rate : Nat
  deriving DecidableEq, Repr, Inhabited

/-- A join entry beyond its registers (R222). -/
structure Join where
  /-- Repeats of the last report or leave still to send. -/
  repeats : Nat
  /-- The last message was a leave. -/
  leaving : Bool
  /-- A current-state report is scheduled. -/
  queried : Bool
  deriving DecidableEq, Repr, Inhabited

/-- Egress beyond its registers. -/
structure Egr where
  otds : Tbl Otd
  outs : Tbl Output
  vsnd : Tbl Sender
  asnd : Tbl Sender
  xsnd : Tbl Sender
  joins : Tbl Join
  /-- The levels of HEALTH_A and HEALTH_B. -/
  healthA : Bool
  healthB : Bool
  /-- A planned release waits for its switch point, and one is in effect (R225). -/
  waitA : Bool
  waitB : Bool
  relA : Bool
  relB : Bool
  deriving DecidableEq, Repr, Inhabited

end Sys2Proof.Machine
end

