-- ==== Sys2Proof/Machine/TypesAudio.lean ====
section
/-! DEFINITION. The records of the Tweed cores and of the serial audio sections (chapters 08, 09). -/

namespace Sys2Proof.Machine

/-! ### Tweed (chapter 08) -/

/-- A sample as it reaches the input bank (R321): good, flagged invalid, missing or not supplied, or the first after a
slip. -/
inductive SampleKind where
  | good | invalid | missing | slip
  deriving DecidableEq, Repr, Inhabited

/-- A move field of a bundle (Table 08.14): op 0 none, 1 vld, 2 vst, 3 vbl; `rsv` its reserved bit. -/
structure Move where
  op : Fin 8
  v : Fin 32
  r : Fin 8
  mod_ : Fin 4
  k : Fin 4
  stg : Fin 8
  rsv : Bool
  deriving DecidableEq, Repr, Inhabited

/-- The fields of a bundle beside its operation (Table 08.12): ROT, STG, the moves, and whether a reserved bit of the
operation's operands is set. -/
structure Bundle where
  rot : Bool
  stg : Fin 8
  xm : Move
  ym : Move
  rsv : Bool
  deriving DecidableEq, Repr, Inhabited

/-- How the mac family changes its accumulator (R344). -/
inductive MacKind where
  | add | sub | set
  deriving DecidableEq, Repr, Inhabited

/-- The operations of Table 08.13. -/
inductive TOp where
  | nop
  | mac (k : MacKind) (ad : Fin 8) (va vb : Fin 32) (sh : Fin 16)
  | qmac (k : MacKind) (ad : Fin 8) (va vb : Fin 32) (sh : Fin 16)
  | clr (mask : BitVec 8)
  | rnd (vd : Fin 32) (ad : Fin 8) (fmt : Fin 4) (sh : Fin 16)
  | vadd (sub : Bool) (vd va vb : Fin 32)
  | vmov (vd va : Fin 32)
  | vbc (vd va : Fin 32) (k : Fin 4)
  | vtoa (ad : Fin 8) (va : Fin 32)
  | loop (cnt : Fin 1024) (len : Fin 128)
  | lpr (s : Fin 8) (cnt : Fin 1024) (len : Fin 16)
  | br (off : BitVec 17)
  | setx (y : Bool) (r : Fin 8) (addr : BitVec 14)
  | eob
  deriving DecidableEq, Repr, Inhabited

/-- An address register (R322, R323). -/
structure AddrReg where
  addr : Nat
  base : Nat
  len : Nat
  step : Int
  deriving DecidableEq, Repr, Inhabited

/-- A loop in progress (R349): its first bundle, its length, the iteration, the number of iterations, and for lpr the
count that gates its stages. -/
structure LoopFrame where
  start : Nat
  len : Nat
  iter : Nat
  total : Nat
  gate : Option Nat
  deriving DecidableEq, Repr, Inhabited

/-- A Tweed core beyond its registers (Table 08.1, R322, R341). -/
structure TwdCore where
  /-- Physical vector registers 0 to 31. -/
  v : Tbl Word128
  /-- Accumulator lanes, 4 × accumulator + lane. -/
  acc : Tbl (BitVec 80)
  /-- Lanes that clamped and stay until they are set (R345). -/
  stuck : Tbl Bool
  /-- x0 to x7, then y0 to y7. -/
  ar : Tbl AddrReg
  rrb : Nat
  loops : List LoopFrame
  pc : Nat
  /-- A run is in progress. -/
  run : Bool
  /-- The run reached eob; it ended without (overrun, trap or kill). -/
  ended : Bool
  bad : Bool
  /-- Cycles of the run so far, and when each result may be used: vectors 0 to 31, accumulators 32 to 39 (R353). -/
  cycles : Nat
  ready : Tbl Nat
  /-- I, by 8,192 × bank + bundle; X; Y; their parameter shadows and the dirty words (R341). -/
  imem : Tbl Word64
  x : Tbl Word128
  y : Tbl Word128
  xs : Tbl Word128
  ys : Tbl Word128
  xd : List Nat
  yd : List Nat
  /-- The input bank being filled, by word address from 0x3000, and the slots that got a sample. -/
  bank : Tbl Word128
  got : List Nat
  /-- The OUT bank presented, and whether it is 0 with INVALID in every slot. -/
  out : Tbl Word128
  outBad : Bool
  /-- Register writes that await an apply, oldest first. -/
  pend : List (Reg × Nat × Word)
  /-- The last blocks overran in a row (R327). -/
  overrun : Bool
  deriving DecidableEq, Repr, Inhabited

/-- Tweed beyond its registers. -/
structure Twd where
  cores : Tbl TwdCore
  /-- The route that feeds each bundle receiver. -/
  brx : Tbl (Option Nat)
  deriving DecidableEq, Repr, Inhabited

/-! ### Serial audio ports (chapter 09) -/

/-- The clock faults that are not a missing edge (R368). -/
inductive AspFault where
  | period | count | source
  deriving DecidableEq, Repr, Inhabited

/-- A section of a serial audio port beyond its registers (R365 to R375). -/
structure AspSect where
  /-- The elastic buffer's frames, oldest first, each with its slots' samples (R365). -/
  buf : List (List (BitVec 32))
  /-- The last frame given. -/
  last : List (BitVec 32)
  /-- The buffer fills to 4 frames before data (R365). -/
  filling : Bool
  /-- Frames of LEAD and TAIL that remain (R367). -/
  lead : Nat
  tail : Nat
  /-- Data runs; it is outside data otherwise (R366). -/
  data : Bool
  /-- The ramp: 0 none, 1 up in the current block, 2 down in it, 3 up in the block about to begin (R366). -/
  ramp : Nat
  /-- Slots that have entered the mask and carry silence to the end of the block (R374). -/
  entered : BitVec 16
  /-- Slots that ramp up in this block. -/
  rampSlots : BitVec 16
  /-- The Tweed channels it holds reserved (R331, R363). -/
  held : Nat
  deriving DecidableEq, Repr, Inhabited

end Sys2Proof.Machine
end

