-- ==== Sys2Proof/Machine/TypesTime.lean ====
section
/-! DEFINITION. The records of Last and of network time (chapters 11, 12). -/

namespace Sys2Proof.Machine

/-! ### Last (chapter 11) -/

/-- What Last measures at an evaluation (R413, R416, R417, R420, R425, R431): the pairs of references whose agreement is
known, and whether they agree; the references whose offset from OSC_HOLD lies within HIST_TOL of the model; the
master's phase against each reference in ps; the present frequency, and its mean over the window of R425, in 10⁻¹⁸;
and the locks of the master synthesiser (bit 4) and of the time-base synthesisers (bits 3:0). -/
structure LastObs where
  pairs : List (Fin 14 × Fin 14 × Bool)
  near : List (Fin 14)
  phases : List Int
  freq : Int
  mean : Int
  synths : BitVec 5
  deriving DecidableEq, Repr, Inhabited

/-- An ageing record (R432, Table 16.4): the operating hour, the mean offset in 10⁻¹⁸ and the reference used. -/
structure AgeRec where
  hour : Nat
  offset : Int
  ref : Nat
  deriving DecidableEq, Repr, Inhabited

/-- Last beyond its registers. -/
structure Lst where
  /-- The first reference to become valid since the cold reset has done so (R414). -/
  firstUsed : Bool
  /-- The tick at which the locked history began (R424), plus one; 0 none. -/
  histFrom : Nat
  /-- The tick at which holdover began. -/
  holdFrom : Nat
  /-- The selection that takes effect at the next slew step, and whether the slew stops there (R422). -/
  pendSel : Option Nat
  slewEnd : Bool
  /-- The loop runs at 8 times the reference's bandwidth (R424). -/
  fast : Bool
  /-- The frequency toward which the master moves at LST_STEER_RATE (R428, R436). -/
  goal : Option Int
  /-- REFCLK_A and REFCLK_B are invalid (R409). -/
  badA : Bool
  badB : Bool
  /-- The ageing history, newest first (R432), and whether a fitted model exists (R434). -/
  ages : List AgeRec
  model : Bool
  deriving DecidableEq, Repr, Inhabited

/-! ### Network time (chapter 12) -/

/-- The PTP messages. -/
inductive PtpKind where
  | sync | followUp | delayReq | delayResp | pdelayReq | pdelayResp | pdelayRespFollowUp | announce | signaling | management
  deriving DecidableEq, Repr, Inhabited

/-- A PTP message as received (R449, R450, R452): its kind, domain, whether a Follow_Up comes, the sender's port identity,
its sequence number, the time it carries with its correctionField, and the instant it crossed the balls, on the
instance's time base; and the bytes of its frame. -/
structure PtpMsg where
  kind : PtpKind
  domain : Nat
  twoStep : Bool
  clock : Nat
  port : Nat
  seq : Nat
  t : FineTime
  rx : FineTime
  len : Nat
  deriving DecidableEq, Repr, Inhabited

/-- A PTP port of an instance beyond its registers (R457). -/
structure PtpPort where
  /-- A two-step Sync that awaits its Follow_Up: its number and receive time. -/
  sync : Option (Nat × FineTime)
  /-- The last Sync's send and receive times. -/
  t1 : FineTime
  t2 : FineTime
  /-- The last Delay_Req or Pdelay_Req sent: its number and send time. -/
  req : Option (Nat × FineTime)
  /-- A two-step Pdelay_Resp that awaits its Follow_Up: the peer's receive time and this port's. -/
  resp : Option (FineTime × FineTime)
  /-- The path delays of the last 16 exchanges in 2⁻¹⁶ ns, newest first. -/
  delays : List Int
  /-- Sync and Delay_Req messages sent so far. -/
  sent : Nat
  deriving DecidableEq, Repr, Inhabited

/-- A servo beyond its registers (R459, R460, R443, R462). -/
structure Servo where
  /-- Consecutive samples within LOCK_NS, and beyond 4 × LOCK_NS. -/
  within : Nat
  beyond : Nat
  /-- It has reached LOCKED since its MODE was last written. -/
  locked : Bool
  /-- r_k ramps to 0 (R443). -/
  ramp : Bool
  rampAcc : Nat
  /-- Consecutive captured edges beyond ALIGN_US. -/
  edges : Nat
  deriving DecidableEq, Repr, Inhabited

/-- A trigger beyond its registers (R463, R464). -/
structure Trg where
  /-- The next instant of the series. -/
  next : Nat
  /-- A pulse is in progress. -/
  pulse : Bool
  deriving DecidableEq, Repr, Inhabited

/-- An entry of a capture FIFO (R468, R469). -/
structure CapEntry where
  time : FineTime
  rising : Bool
  stepped : Bool
  deriving DecidableEq, Repr, Inhabited

/-- A capture beyond its registers. -/
structure Cap where
  fifo : List CapEntry
  /-- The next entry is the first after a step of the time base. -/
  stepped : Bool
  deriving DecidableEq, Repr, Inhabited

/-- Network time beyond its registers. -/
structure Ntm where
  servos : Tbl Servo
  /-- PTP ports by 32 × instance + port. -/
  ports : Tbl PtpPort
  trgs : Tbl Trg
  caps : Tbl Cap
  /-- The levels of the GPIO that triggers have driven. -/
  gpio : Tbl Bool
  deriving DecidableEq, Repr, Inhabited

end Sys2Proof.Machine
end

