-- ==== Sys2Proof/Machine/TypesNet.lean ====
section
/-! DEFINITION. The records of the serial lanes and of the network ports (chapters 13, 14). -/

namespace Sys2Proof.Machine

/-! ### Welt (chapter 13) -/

/-- What the eye monitor and the checkers of a lane show at a measurement (R480, R482, R498): the smallest eye, the
adapted CTLE code and DFE taps, and the sync-header or symbol errors, uncorrectable codewords and PRBS bit errors since
the last one. -/
structure EyeObs where
  v : Nat
  h : Nat
  ctle : Nat
  dfe : List (BitVec 32)
  errs : Nat
  unc : Nat
  prbs : Nat
  deriving DecidableEq, Repr, Inhabited

/-- What a lane shows over a qualification window (R489): block lock held, its eye, its sync-header errors at NRZ rates,
and at PAM4 rates its symbol error ratio in 10⁻⁷ and its uncorrectable codewords. -/
structure LaneQual where
  lock : Bool
  v : Nat
  h : Nat
  hdr : Nat
  ser : Nat
  unc : Nat
  deriving DecidableEq, Repr, Inhabited

/-- The trained coefficients of a Lace lane (R491, Table 16.4). -/
structure LaneTrain where
  ffe : BitVec 30
  ctle : Nat
  dfe : List (BitVec 32)
  deriving DecidableEq, Repr, Inhabited

/-- A lane beyond its registers. -/
structure Lane where
  /-- Consecutive measurements below WLT_EYE_MIN (R482). -/
  lows : Nat
  /-- A live recalibration runs (R483); and the directions in which the CTLE has reverted a step. -/
  recal : Bool
  upDone : Bool
  downDone : Bool
  /-- The CTLE code in use. -/
  ctle : Nat
  /-- The sampling phase in 1/64 UI. -/
  phase : Int
  deriving DecidableEq, Repr, Inhabited

/-- A training record of a link in MRAM (R491, Table 16.4). -/
structure TrainRec where
  id : Nat
  strap : Nat
  rate : Nat
  opsec : Nat
  lanes : List LaneTrain
  deriving DecidableEq, Repr, Inhabited

/-- What an identity exchange shows (R487): the lanes comma-locked, whether both parts have received two agreeing
frames, the peer's domain and strapped identifiers, MAX_RATE and record identifier, and whether the digests agree. -/
structure IdentObs where
  commas : BitVec 4
  agreed : Bool
  domain : Nat
  strap : Nat
  digestEq : Bool
  maxRate : Nat
  recId : Nat
  deriving DecidableEq, Repr, Inhabited

/-- A Lace link beyond its registers. -/
structure Link where
  /-- The link rate of the identity exchange, and the rate of the present step. -/
  agreed : Nat
  target : Nat
  /-- It has fallen back (R490), and it makes a fast restart (R491). -/
  fallen : Bool
  fast : Bool
  /-- The lanes that carry cells, kept through HOLD. -/
  mask : Nat
  /-- The lane dropped and not re-added, and whether it is out for recalibration (R484, R497). -/
  dropped : Option Nat
  recal : Bool
  /-- Failed re-add attempts in a row, and whether the 60 s retry is awaited (R497). -/
  fails : Nat
  waiting : Bool
  /-- The coefficients trained at each rate. -/
  trained : Tbl (List LaneTrain)
  /-- The tick at which bring-up began. -/
  since : Nat
  /-- The training record that is current, and its slot. -/
  record : Option TrainRec
  slotB : Bool
  /-- The peer's domain identifier. -/
  peer : Nat
  deriving DecidableEq, Repr, Inhabited

/-! ### Network ports (chapter 14) -/

/-- Where a CTRL frame comes from: a transmit ring with the index of its LAST descriptor and whether it asks for its
timestamp, a service slot, a hardware answer, or a transparent clock of an instance. -/
inductive CtrlFrom where
  | ring (r idx : Nat) (ts : Bool)
  | service (slot : Nat)
  | answer
  | clock (inst : Nat) (m : PtpMsg)
  deriving DecidableEq, Repr, Inhabited

/-- A frame of a port's CTRL queue, with its bytes without FCS. -/
structure CtrlFrame where
  who : CtrlFrom
  len : Nat
  deriving DecidableEq, Repr, Inhabited

/-- A frame of a port's PTP queue: the instance, what it is, whether it is a transparent clock's forward, and whether its
transmit instant is fixed (R455). -/
structure PtpFrame where
  inst : Nat
  kind : PtpKind
  fwd : Option PtpMsg
  fixed : Bool
  deriving DecidableEq, Repr, Inhabited

/-- A network port beyond its registers. -/
structure NetPort where
  ptpq : List PtpFrame
  ctrl : List CtrlFrame
  /-- The control frame that is leaving. -/
  leaving : Option CtrlFrame
  /-- The quanta of the running pause (R513). -/
  quanta : Nat
  deriving DecidableEq, Repr, Inhabited

/-- A host ring beyond its registers. -/
structure HostRing where
  /-- Wraps so far are odd (R523). -/
  wrapped : Bool
  /-- The coalescing time runs, and frames have arrived in it (R523). -/
  coal : Bool
  more : Bool
  deriving DecidableEq, Repr, Inhabited

/-- A frame that software posts in a transmit ring (Table 14.4): the lengths of its descriptors, port, and TS_REQ. -/
structure TxFrame where
  lens : List Nat
  port : Nat
  ts : Bool
  deriving DecidableEq, Repr, Inhabited

/-- The destination address of a received frame (R508). -/
inductive DestMac where
  | own | broadcast | multicast | other
  deriving DecidableEq, Repr, Inhabited

/-- What an accepted frame carries (Table 02.3): a UDP packet of a directory flow, named by its entry, with what its
depacketiser reads of it; control traffic of a class of Table 14.2 with its UDP destination port, and whether it is an ARP
request or neighbour solicitation for the port's own address; or anything else. -/
inductive Payload where
  /-- Its leg, extended sequence number, the frame its timestamp names and its samples. -/
  | video (flow : Nat) (ext num samples : Nat)
  | audio (flow : Nat) (ext : Nat) (late : Bool)
  | anc (flow : Nat) (num bytes : Nat)
  | control (cls udp : Nat) (asksUs : Bool)
  | unmatched
  deriving DecidableEq, Repr, Inhabited

/-- A frame as received on a port (R506 to R510): its FCS is right, its length with FCS, its VLAN identifier when tagged,
its destination, a checksum in it is wrong, the wake bytes when it is of the form of R518, what it carries, its bytes from
the destination address to the end of its payload, and its receive timestamp on NTM_CTRL.RING_TB in Nimade ns. -/
structure RxFrame where
  fcsOk : Bool
  len : Nat
  vlan : Option Nat
  dest : DestMac
  badSum : Bool
  wake : Option (BitVec 64)
  payload : Payload
  bytes : List Byte
  time : Nat
  deriving DecidableEq, Repr, Inhabited

/-- The lanes and the network ports beyond their registers. -/
structure Net where
  lanes : Tbl Lane
  links : Tbl Link
  ports : Tbl NetPort
  rxr : Tbl HostRing
  txr : Tbl HostRing
  deriving DecidableEq, Repr, Inhabited

end Sys2Proof.Machine
end

