-- ==== Sys2Proof/Machine/TypesPic.lean ====
section
/-! DEFINITION. The records of the Vamp pipes (chapter 10). -/

namespace Sys2Proof.Machine

/-- A bank of a pipe (R387, R395): the sixteen layers' descriptors by 16 × layer + word, the input LUTs by
12,288 × set + 4,096 × component + code, and the output LUT by 4,096 × component + index. -/
structure VmpBank where
  layers : Tbl (BitVec 32)
  ilut : Tbl (BitVec 32)
  olut : Tbl (BitVec 32)
  deriving DecidableEq, Repr, Inhabited

/-- A layer as it was last drawn while ready (R400): its descriptor, what its input showed, and the surface it read. -/
structure Drawn where
  words : List (BitVec 32)
  frame : Picture
  surf : Option Nat
  deriving DecidableEq, Repr, Inhabited

/-- A pipe beyond its registers (R395 to R401). -/
structure Pipe10 where
  shadow : VmpBank
  /-- The pending state and the domain frame of its boundary. -/
  pend : Option (VmpBank × Nat)
  act : VmpBank
  drawn : Tbl (Option Drawn)
  /-- The source is black until the first boundary (Table 10.6). -/
  black : Bool
  deriving DecidableEq, Repr, Inhabited

/-- Vamp beyond its registers. -/
structure Vmp where
  pipes : Tbl Pipe10
  /-- Writes of VMP_SURF_GEN that wait for earlier BAR2 writes, oldest first (R385). -/
  gens : List (Nat × Word)
  deriving DecidableEq, Repr, Inhabited

end Sys2Proof.Machine
end

