-- ==== Sys2Proof/Machine/TypesKeep.lean ====
section
/-! DEFINITION. The records of spares and repair, of the settings store, of field update and of boot and power
(chapters 15 to 18). -/

namespace Sys2Proof.Machine

/-! ### Faults, spares and ageing (chapter 15) -/

/-- The kinds of repair map entry (Table 16.4). -/
inductive RepairKind where
  | sramRow | sramColumn | mramRow | hbmRow | hbmPage | unit
  deriving DecidableEq, Repr, Inhabited

/-- A repair map entry (Table 16.4): its kind, array, row, column or page, the spare used, and the operating hours. -/
structure Repair where
  kind : RepairKind
  array : Nat
  place : Nat
  spare : Nat
  hours : Nat
  deriving DecidableEq, Repr, Inhabited

/-- A row of an array that needs repair (R534): an SRAM macro or an MRAM bank, the row, and the one column in which all
its errors lie, when they do. -/
structure BadRow where
  mram : Bool
  array : Nat
  row : Nat
  column : Option Nat
  deriving DecidableEq, Repr, Inhabited

/-- What drains within a bound (Table 15.3). -/
inductive DrainTarget where
  | input (n : Fin 384)
  | twill (inFlight : Nat)
  | output (n : Fin 128)
  | tweedCore (c : Fin 8)
  | aspSection (n : Fin 32)
  | pipe (v : Fin 16)
  | trigger (t : Fin 64)
  | port (p : Fin 32)
  | link (k : Fin 16)
  deriving DecidableEq, Repr, Inhabited

/-- The RSL block beyond its registers. -/
structure Rsl where
  /-- The tick of the last partner loss, plus one; 0 none. -/
  lossTick : Nat
  /-- A probe awaits its answer (R549, cause 4), and the records missed before it. -/
  probing : Bool
  missed : Nat
  /-- The physical unit to which a swapping unit copies its state, plus one. -/
  swapTo : Tbl Nat
  /-- The last retired carrier of a unit, plus one, and the unit that a physical unit under test last carried, plus one. -/
  retiredOf : Tbl Nat
  carried : Tbl Nat
  /-- The repair map (R536). -/
  map : List Repair
  /-- Spare rows and columns used by SRAM macro, spare rows used by MRAM bank, and HBM banks without a spare row. -/
  rows : Tbl Nat
  cols : Tbl Nat
  mramRows : Tbl Nat
  hbmUsed : Tbl Bool
  /-- Frame-store pages retired, and in use until they are freed (R535). -/
  retired : List Nat
  toRetire : List Nat
  /-- VDD_CORE below 800 mV, in mV (R543, R652), and whether slack is below GUARD at 0.80 V. -/
  below : Nat
  noMargin : Bool
  /-- The VDD_CORE regulator did not acknowledge its last poll (R652). -/
  noAck : Bool
  /-- Core supply ageing records, newest first: operating day, required mV at 85 °C, lowest slack in ps (R544). -/
  ages : List (Nat × Nat × Int)
  /-- Consecutive MRAM scrubs below 0.01 % (R545). -/
  calm : Nat
  /-- The lost part that a loss notice named (R553). -/
  notice : Option Nat
  /-- The spare whose claim this survivor has granted. -/
  granted : Option Nat
  deriving DecidableEq, Repr, Inhabited

/-! ### The settings store (chapter 16) -/

/-- A delta record (R571): DPOS, the entry's SEQ and ORIGIN, FORMAT, and pairs of BAR0 offset and value. -/
structure Delta where
  dpos : Nat
  seq : Nat
  origin : Nat
  format : Nat
  stores : List (Nat × Word)
  deriving DecidableEq, Repr, Inhabited

/-- A snapshot in a bank (Tables 16.6, 16.7). -/
structure Snapshot where
  format : Nat
  pair : Nat
  bank : Nat
  /-- Its first sector within the bank. -/
  start : Nat
  seq : Nat
  deltaPos : Nat
  len : Nat
  opsec : Nat
  imageVer : Nat
  /-- Section 1: the registers of class SET, by register index and element. -/
  regs : Tbl (Tbl Word)
  /-- Section 2: Tweed's memories. -/
  twd : Twd
  /-- Section 3: Vamp's LUT sets and layer descriptors. -/
  vmp : Vmp
  deriving DecidableEq, Repr, Inhabited

/-- The settings store beyond its registers. -/
structure Store where
  /-- Valid snapshots, newest first. -/
  snaps : List Snapshot
  /-- Delta records not free, oldest first, and the next DPOS. -/
  deltas : List Delta
  nextPos : Nat
  /-- The snapshot being written and read back (R576), and whether it verifies already. -/
  job : Option Snapshot
  /-- The tick at which the last snapshot started. -/
  lastStart : Nat
  /-- Operating seconds at which DEMAND_LEFT last returned to DEMAND_MAX. -/
  demandAt : Nat
  /-- Erase counts by sector, FLASH_B's from 2,048 (R546), and sectors retired with the spare in their place, plus one. -/
  erases : Tbl Nat
  remap : Tbl Nat
  /-- The current counter record: operating seconds and power cycles (R568). -/
  cntSec : Nat
  cntCyc : Nat
  /-- Registers of class SET that accepted work or the management core has written (Table 16.6). -/
  marked : Tbl (Tbl Bool)
  /-- The input, sender and join bindings of the crosspoint and flow image, as kept over a cold reset (Table 16.1). -/
  bind : Tbl (Tbl Word)
  /-- The highest erase count of FLASH_A and FLASH_B by operating day, newest first (R546). -/
  wear : List (Nat × Nat × Nat)
  /-- The control plane runs on factory defaults in RAM only (R610). -/
  ramOnly : Bool
  deriving DecidableEq, Repr, Inhabited

/-! ### Field update (chapter 17) -/

/-- An image header as received (Tables 17.2, 17.3): whether check 1 holds, whether its key is present and its signature
verifies, and its fields. -/
structure ImgHeader where
  wellFormed : Bool
  signed : Bool
  version : Nat
  floorReq : Nat
  setFormat : Nat
  mramFmt : Nat
  pairLevel : Nat
  bodyLen : Nat
  deriving DecidableEq, Repr, Inhabited

/-- The states of an image slot (R607). -/
inductive SlotState where
  | empty | written | trial | confirmed | rejected
  deriving DecidableEq, Repr, Inhabited

/-- An image slot. -/
structure ImgSlot where
  state : SlotState
  attempts : Nat
  hdr : ImgHeader
  seq : Nat
  deriving DecidableEq, Repr, Inhabited

/-- The update engine beyond its registers. -/
structure Upd where
  slotA : ImgSlot
  slotB : ImgSlot
  /-- The header that holds the lock. -/
  hdr : Option ImgHeader
  /-- Body bytes programmed, and the lengths of DATA datagrams that await programming (R603). -/
  done : Nat
  waiting : List Nat
  /-- END has been received and the body is being verified (R606). -/
  ending : Bool
  /-- The ticks of AUTH_FAIL in a row, newest first (Table 17.3, check 3). -/
  fails : List Nat
  /-- The tick of the owner's last datagram (R605). -/
  lastTick : Nat
  /-- The tick at which the trial started (R611). -/
  trialTick : Nat
  /-- The blocks of Table 17.4 whose inactive bank holds new microcode (R613). -/
  loaded : List Nat
  deriving DecidableEq, Repr, Inhabited

/-! ### Boot, resets and power (chapter 18) -/

/-- What a clock domain does (R638, R639): a start carries its failed tries, a stop whether a request waits. -/
inductive ClkRun where
  | stopped | waiting (tries : Nat) | starting (tries : Nat) | running | stopping (again : Bool) | failed
  deriving DecidableEq, Repr, Inhabited

/-- What boot code takes from factory data and from the verified image (R630): BOOT_PROT without LOCK, BOOT_WDOG,
NPT_MAC_BASE, NTM_CLOCKID, and the bytes of LIBRARY. -/
structure BootData where
  prot : BitVec 32
  wdog : BitVec 16
  mac : BitVec 48
  clockId : BitVec 64
  library : List Byte
  deriving DecidableEq, Repr, Inhabited

/-- Boot and power beyond their registers. -/
structure Boot where
  /-- The tick at which the last cold reset ended. -/
  start : Nat
  /-- A warm reset lasts: WARM_RST_N is low. -/
  warmHeld : Bool
  /-- The watchdog is armed (R628). -/
  armed : Bool
  /-- The part holds itself in cold reset after a thermal trip (R641). -/
  tripped : Bool
  /-- The temperature is above ALARM. -/
  hot : Bool
  /-- Clock domains by index (Table 18.8). -/
  clks : Tbl ClkRun
  /-- The retention contents are lost (Table 18.7). -/
  retLost : Bool
  /-- Enabling writes of the restored configuration that have not taken effect (R580). -/
  later : List (Reg × Nat × Word)
  deriving DecidableEq, Repr, Inhabited

end Sys2Proof.Machine
end

