-- ==== Sys2Proof/Machine/TypesOut.lean ====
section
/-! DEFINITION. The messages that leave the part. -/

namespace Sys2Proof.Machine

/-! ### What a register write learns from outside the register file -/

/-- What a write of a register learns from outside the registers, as far as its rule asks for it: the entry that makes the
store, and whether it is an order with affinity ALL; what the partner's registers say; what the sources, senders and routes
concerned show; and what the part has found out. -/
structure BusEnv where
  /-- The entry that makes the store (R571), and whether its affinity is ALL (R282). -/
  key : Key
  allOrder : Bool
  /-- The partner names this part, and its strapped side is B (R27); the partner's running PAIR_LEVEL (R609). -/
  partnerNames : Bool
  partnerB : Bool
  pairLevel : Nat
  /-- Cells in flight (R136), and whether a swap back passes its test (R134). -/
  inFlight : Nat
  passed : Bool
  /-- The source of a video sender (R211), and a route to a bundle receiver (R335). -/
  view : TakeView
  hop : RouteHop
  /-- The directory has no room at the flow's place (R125). -/
  ovf : Bool
  /-- The time base of a placement's sender (R319). -/
  sender : Nat
  /-- The frames that software has posted behind a transmit ring's TAIL (R525). -/
  frames : List TxFrame
  /-- AWL_CLR_MAC holds the right HMAC (R593). -/
  macOk : Bool
  deriving DecidableEq, Repr, Inhabited

/-! ### What leaves the part -/

/-- What leaves the part. -/
inductive OutMsg where
  /-- An MSI-X message of a vector (R622). -/
  | msix (vector : Nat)
  /-- A cell sent on a Lace link (R112, R115). -/
  | cell (link : Nat) (hdr : CellHdr)
  /-- A report to a destination part that a hold was released (R105). -/
  | holdReleased (req : Nat)
  /-- A directory update sent over the spanning tree (R128). -/
  | dirUpdate (u : DirUpdate)
  /-- A request for an origin's missing updates from a number onward (R128, R131). -/
  | dirRequest (origin from_ : Nat)
  /-- This part's whole set of entries to a part, up to update seq (R131). -/
  | dirEntries (part seq : Nat) (entries : List (Nat × Word128))
  /-- An acknowledgement, or a conflict report, of an update to its origin (R129). -/
  | dirAck (origin seq : Nat) (conflict : Bool)
  /-- A completion record written to a completion queue, with its index and phase (R248). -/
  | cqe (queue index : Nat) (phase : Bool) (r : CqRecord)
  /-- A message to a part's service mailbox (R307). -/
  | mail (part slot fromPart fromSlot : Nat) (data : BitVec 256)
  /-- A forwarded take or salvo order to a part (R159, R298). -/
  | forwardTake (part : Nat) (key : Key) (members : List (BitVec 64)) (time salvo : Nat) (atomic : Bool)
  /-- The admission result of a take to the partner (R172). -/
  | admission (key : Key) (sig pos : Nat) (st : Status)
  /-- A completion record to the issuing part of a forwarded take (R170). -/
  | takeDone (part : Nat) (r : TakeRec)
  /-- A cross-check record to the partner (R176). -/
  | xchk (r : XchkRec)
  /-- An RTP packet of a sender: its kind (0 video, 1 audio, 2 ancillary) and number, leg, port, timestamp, 32-bit
  extended sequence number and marker (R211 to R219). -/
  | rtp (kind idx : Nat) (legB : Bool) (port ts seq : Nat) (marker : Bool)
  /-- An entry sent to the partner for journalling (R262, R263, R266). -/
  | mirror (e : JEntry)
  /-- The reply to the partner's entry (R262). -/
  | mirrorReply (key : Key) (st : Status)
  /-- A journal frontier (R264). -/
  | frontier (time : Nat)
  /-- An entry is COMPLETE, to the partner (R260). -/
  | entryDone (key : Key)
  /-- The ramped samples of an output's audio at a take: the old source's down and the new source's up (R336). -/
  | ramp (out : Nat) (down up : List (BitVec 32))
  /-- A frame of a transmit section: its slots' words, none for high impedance (R361, R374). -/
  | aspFrame (section_ : Nat) (slots : List (Option (BitVec 32)))
  /-- A membership report or leave for a flow's group on a port, in the older version of the protocol or not (R222). -/
  | membership (port flow : Nat) (leave older : Bool)
  /-- A PTP message that an instance sends on a port (R447). -/
  | ptp (inst port : Nat) (kind : PtpKind)
  /-- A PTP message that a transparent clock forwards on a port, on its PTP queue or its CTRL queue (R451). -/
  | ptpForward (inst port : Nat) (ptpQueue : Bool) (m : PtpMsg)
  /-- Identity frames on a Lace link (R487), and the leader's step to a rate (R488). -/
  | laceIdentity (link : Nat)
  | laceStep (link rate : Nat)
  /-- A link-control cell that names a lane lost (R494). -/
  | laneLost (link lane : Nat)
  /-- A control frame that leaves a port (R511). -/
  | ctrlFrame (port : Nat) (f : CtrlFrame)
  /-- A receive descriptor written: ring, index, LEN, PORT, CLASS, ENTRY, FLAGS, FRAME_LEN, TIME, STATUS and PHASE
  (Table 14.3). -/
  | rxDesc (ring idx len port cls entry flags frameLen time : Nat) (st : Status) (phase : Bool)
  /-- A transmit descriptor written back: ring, index, TIME, STATUS and PHASE (Table 14.4). -/
  | txDesc (ring idx time : Nat) (st : Status) (phase : Bool)
  /-- The result of the self-check to the partner (R178). -/
  | selfCheck (passed : Bool)
  /-- A probe of the partner, and the answer to one (R549). -/
  | probe
  | probeAnswer
  /-- This part has fenced (R549). -/
  | fencedNotice
  /-- This survivor's partner is lost (R553). -/
  | lossNotice (part : Nat)
  /-- A spare's claim to the survivor of a part, and a survivor's answer (R553). -/
  | claim (part : Nat)
  | claimAnswer (st : Status)
  /-- An identity is free (R554). -/
  | identityFree (part : Nat)
  /-- A warm reset is announced to the partner (R265). -/
  | warmAnnounce
  /-- The reply to an update datagram (R605): type, status, state, NEXT, session and version. -/
  | updReply (kind : Nat) (st : Status) (state next session version : Nat)
  /-- A transaction on the PMBus that sets VDD_CORE, in mV (R543). -/
  | setCore (mv : Nat)
  deriving DecidableEq, Repr, Inhabited

end Sys2Proof.Machine
end

