-- ==== Sys2Proof/Syntax.lean ====
section
/-! DEFINITION. The commands the block takes: one constructor per row of spec/opcode_table.json, with the row's
operands. An event row carries what the spec lets the part observe at that event. -/

namespace Sys2Proof

open Sys2Proof.Machine

/-- The commands of the part: one constructor per row of the opcode table, in its order (R5 to R664). -/
inductive Instr where
  /-- REGISTER_WRITE (R5): A write to a register that has no row of its own, checked against access code, reserved bits, field ranges and PCIe closure. -/
  | registerWrite (src : Requester) (addr : BitVec 28) (size : Fin 4) (data : Word64) (env : BusEnv)
  /-- READ_CLEAR (R5): A read of an RC register returns its value and clears it. -/
  | readClear (src : Requester) (addr : BitVec 28) (size : Fin 3)
  /-- LATCHED_READ_64 (R138): A read of the low word of a 64-bit register latches its high word. -/
  | latchedRead64 (src : Requester) (addr : BitVec 28) (whole : Bool)
  /-- SDI_RATE_HUNT_DWELL (R38): A receiver without lock moves to the next rate code after 200 µs. -/
  | sdiRateHuntDwell (n : Fin 128)
  /-- SDI_LOCK (R478): A video receive lane's CDR locks at the requested rate. -/
  | sdiLock (n : Fin 128)
  /-- SDI_LOCK_LOSS_TIMEOUT (R73): Lock absent for more than 100 µs: the input is lost with reason LOCK and the hunt restarts. -/
  | sdiLockLossTimeout (n : Fin 128)
  /-- SDI_LINE_RECEIVE (R46): An SDI line is received: line CRC counted and ancillary packets kept or dropped. -/
  | sdiLineReceive (n : Fin 128) (crcErrors : Nat) (anc : List AncPkt)
  /-- TRS_LOSS (R73): No valid TRS for 8 consecutive lines: the input is lost with reason TRS. -/
  | trsLoss (n : Fin 128)
  /-- SDI_FRAME_END (R40): A complete frame delimited by TRS ends and is measured against ST 352. -/
  | sdiFrameEnd (n : Fin 128) (m : FrameMeas) (pid : Option Pid) (skewed : Bool)
  /-- NETWORK_FRAME_RECEIVE (R506): A frame received whole on a port is checked for FCS, length, tag, address and checksums. -/
  | networkFrameReceive (p : Fin 32) (f : RxFrame)
  /-- VIDEO_FRAME_CLOSE (R52): A packet-input frame closes at marker or later timestamp plus PD and is judged good or bad. -/
  | videoFrameClose (m : Fin 256) (num : Nat) (form : Form) (diff : BitVec 32)
  /-- LEG_SILENCE (R57): A leg carries no packet for one frame period and its PATH_OK bit clears. -/
  | legSilence (m : Fin 256) (legB : Bool)
  /-- PACKET_LOSS_TIMEOUT (R73): No video packet on any leg for two frame periods: the input is lost with reason PACKETS. -/
  | packetLossTimeout (m : Fin 256)
  /-- SYNC_READ_INTERRUPT (R74): A write stops before the read passes it by SAFE_LINES; remaining lines come from the previous good frame. -/
  | syncReadInterrupt (n : Fin 128)
  /-- INPUT_ENABLE (R79): ENABLE written 1 allocates the ring and puts the input in ACQUIRING. -/
  | inputEnable (src : Requester) (n : Fin 384) (w : Word32)
  /-- INPUT_DISABLE (R79): ENABLE written 0 drains the input. -/
  | inputDisable (src : Requester) (n : Fin 384)
  /-- INPUT_KILL (R80): KILL with ENABLE 0 discards the partial frame and turns the input OFF. -/
  | inputKill (src : Requester) (n : Fin 384)
  /-- INPUT_DRAIN_DONE (R79): A draining input finishes its frame or one period elapses; pages are freed. -/
  | inputDrainDone (n : Fin 384)
  /-- INPUT_MODE_CHANGE (R72): A change between SYNC and DIRECT mode frees or allocates the ring. -/
  | inputModeChange (src : Requester) (n : Fin 384) (mode : BitVec 2)
  /-- INPUT_DOMAIN_CHANGE (R67): A change of ING_IN_CFG.OTD takes effect at the first boundary of the new domain with one slip. -/
  | inputDomainChange (src : Requester) (n : Fin 384) (otd : Fin 8)
  /-- DELAY_FRAMES_CHANGE (R68): A change of DELAY_FRAMES allocates or frees pages at the next boundary. -/
  | delayFramesChange (src : Requester) (n : Fin 384) (w : Word32)
  /-- VIDEO_FLOW_BINDING (R49): A write of ING_PKT_VID binds, changes or clears a packet input's video flow. -/
  | videoFlowBinding (src : Requester) (m : Fin 256) (w : Word32)
  /-- PD_MAX_WRITE (R55): A write of PD_MAX, possibly resizing the ring of a two-leg input. -/
  | pdMaxWrite (src : Requester) (m : Fin 256) (w : Word32)
  /-- AUDIO_CONTEXT_BINDING (R50): A write of ING_AFL_CFG binds an audio flow and reserves Tweed channels. -/
  | audioContextBinding (src : Requester) (a : Fin 1024) (w : Word32)
  /-- AUDIO_OFFSET_WRITE (R59): A write of ING_AFL_OFF sets the audio read offset. -/
  | audioOffsetWrite (src : Requester) (a : Fin 1024) (w : Word32)
  /-- ANC_CONTEXT_BINDING (R49): A write of ING_ANF_CFG binds an ancillary flow. -/
  | ancContextBinding (src : Requester) (a : Fin 512) (w : Word32)
  /-- SDI_CFG_WRITE (R41): A write of ING_SDI_CFG sets rate force, bonding, audio and ancillary keeping. -/
  | sdiCfgWrite (src : Requester) (n : Fin 128) (w : Word32)
  /-- POOL_PAGES_WRITE (R83): A write of ING_POOL_PAGES resizes the ring pool. -/
  | poolPagesWrite (src : Requester) (w : Word32)
  /-- INGRESS_DISABLE (R85): Clearing ING_CTRL.EN drains every input. -/
  | ingressDisable (src : Requester)
  /-- CELL_RECEIVE (R94): A cell arrives at a slice-port and its four codewords are decoded. -/
  | cellReceive (p : Fin 168) (fromLace : Bool) (h : CellHdr) (e0 e1 e2 e3 : Fin 4) (view : List (Nat × Nat))
  /-- CALENDAR_SLOT (R98): In each cell time the slice-port sends its scheduled cell or an arbitrated cell. -/
  | calendarSlot (p : Fin 168) (slot : Fin 4096) (ready : Option CellHdr)
  /-- CALENDAR_PERIOD_BOUNDARY (R100): At each 47.104 µs boundary calendars flip and deferred fabric changes take effect. -/
  | calendarPeriodBoundary
  /-- ROUTE_REQUEST (R104): A route request reaches a hop, which checks and holds its resources or refuses. -/
  | routeRequest (h : RouteHop)
  /-- ROUTE_HOLD_TIMEOUT (R105): A hold not settled within 2 ms is released and reported to the destination part. -/
  | routeHoldTimeout (req : Nat)
  /-- HOLD_RELEASE_REPORT (R105): The destination part receives a release report and refuses the request with NO_PATH. -/
  | holdReleaseReport (req : Nat)
  /-- ROUTE_SETTLE (R104): A request that passed everywhere settles; delivery entries and calendars are written. -/
  | routeSettle (req : Nat)
  /-- ARBITRATED_QUEUE_OPEN (R107): A requester opens an arbitrated queue on a slice-port. -/
  | arbitratedQueueOpen (p : Fin 168) (branch : Fin 5) (dchip : Fin 1024) (dport : Fin 168)
  /-- ARBITRATED_CELL_ENQUEUE (R107): A requester places a BULK or CTRL cell in its queue, or is held when it is full. -/
  | arbitratedCellEnqueue (p : Fin 168) (q : Fin 64) (h : CellHdr)
  /-- LINK_CONTROL_CELL (R20): A link-control cell of credits, lane health and clock tag is received. -/
  | linkControlCell (k : Fin 16) (credits : List (Fin 1024 × Fin 168 × Nat)) (lost : Option (Fin 4 × Nat)) (tag : Word32)
  /-- REROUTE_STREAM (R120): The management core moves a stream to a new pre-staged route. -/
  | rerouteStream (old : Nat) (link : Fin 16) (h : RouteHop)
  /-- DIR_READ (R122): TWL_DIR_CMD READ fetches a directory entry into the data registers. -/
  | dirRead (src : Requester)
  /-- DIR_WRITE (R127): TWL_DIR_CMD WRITE sends a directory update from its origin. -/
  | dirWrite (src : Requester) (ovf : Bool)
  /-- DIR_WITHDRAW (R130): TWL_DIR_CMD WITHDRAW removes an entry the part originates. -/
  | dirWithdraw (src : Requester)
  /-- DIR_UPDATE_RECEIVE (R128): A part applies a directory update from an origin in counter order. -/
  | dirUpdateReceive (u : DirUpdate) (ovf : Bool)
  /-- DIR_MISSING_REQUEST_RECEIVE (R128): An origin receives a request for missing updates and resends them. -/
  | dirMissingRequestReceive (part from_ : Nat)
  /-- DIR_ACK_RECEIVE (R129): The origin receives an acknowledgement or conflict report and returns status when all are in. -/
  | dirAckReceive (part seq : Nat) (conflict : Bool)
  /-- DIR_ACK_TIMEOUT (R129): TWL_DIR_ACK_TO passes and silent parts are marked for resynchronisation. -/
  | dirAckTimeout (seq : Nat)
  /-- DIR_RESYNC_START (R131): A part starts directory resynchronisation and clears DIR_READY. -/
  | dirResyncStart (origins : List Nat)
  /-- DIR_RESYNC_ANSWER (R131): An origin's updates or entries arrive for a resynchronising part. -/
  | dirResyncAnswer (origin seq : Nat) (entries : Option (List (Nat × Word128))) (updates : List DirUpdate) (ovf : List Nat)
  /-- DIR_RESYNC_ORIGIN_TIMEOUT (R131): An origin fails to answer within 100 ms and is left for later. -/
  | dirResyncOriginTimeout (origin : Nat)
  /-- SLICE_PORT_SWAP (R133): TWL_SWAP_CTRL.GO copies a slice-port's state to a spare. -/
  | slicePortSwap (src : Requester) (p : Fin 256) (spare : Fin 2)
  /-- SLICE_PORT_SWAP_BACK (R133): TWL_SWAP_CTRL.BACK copies state back to the original port. -/
  | slicePortSwapBack (src : Requester) (p : Fin 256) (passed : Bool)
  /-- SWAP_SPARE_FAIL (R133): The spare fails its check before the boundary and the swap is abandoned. -/
  | swapSpareFail
  /-- SLICE_PORT_FAIL (R134): A slice-port fails with no spare; its streams are re-placed or stopped. -/
  | slicePortFail (p : Fin 168)
  /-- TWILL_DISABLE (R136): Clearing TWL_CTRL.EN drains Twill. -/
  | twillDisable (src : Requester)
  /-- TWILL_DRAIN_DONE (R136): Cells in flight are delivered and Twill stops. -/
  | twillDrainDone
  /-- TWILL_KILL (R136): KILL with EN clear discards cells in flight. -/
  | twillKill (src : Requester) (inFlight : Nat)
  /-- V6_PREFIX_WRITE (R126): A write of TWL_V6PFX or TWL_V6SRC, refused while IPv6 entries are valid. -/
  | v6PrefixWrite (src : Requester) (source : Bool) (ix : Fin 3) (w : Word32)
  /-- TAKE (R297): The take instruction checks and pre-stages a take and returns when it is armed or refused. -/
  | take (a : NimAt) (rd ra rb rc : Fin 32) (f : BitVec 2) (view : TakeView)
  /-- SALVO (R298): The salvo instruction executes a set of takes with one time and identifier. -/
  | salvo (a : NimAt) (rd ra rb rc : Fin 32) (f : BitVec 2) (views : List TakeView)
  /-- FORWARDED_TAKE (R159): A take forwarded over Lace is journalled and executed on its destination part. -/
  | forwardedTake (key : Key) (salvo : Nat) (atomic : Bool) (time : Nat) (members : List (Word × TakeView))
  /-- PARTNER_ADMISSION_RESULT (R172): The partner's admission result for a take arrives. -/
  | partnerAdmissionResult (key : Key) (sig pos : Nat) (st : Status)
  /-- TAKE_ARMED (R156): A take's route is in effect and the partner has admitted; the take is armed. -/
  | takeArmed (key : Key) (sig pos : Nat)
  /-- SWITCH_POINT (R148): A domain's switch point passes; armed takes switch and completion records are posted. -/
  | switchPoint (d : Fin 8)
  /-- TAKE_ROUTE_LOST (R157): An armed take's pre-stage route is lost and re-routing is attempted. -/
  | takeRouteLost (key : Key) (sig pos : Nat) (v : TakeView)
  /-- ROUTE_RETRY (R157): Every RETRY ms the destination part requests a lost route again. -/
  | routeRetry (n : Fin 128) (v : TakeView)
  /-- XCHK_RECORD_RECEIVE (R177): The partner's cross-check record is compared; frames diverge or are explained. -/
  | xchkRecordReceive (r : XchkRec)
  /-- SELF_CHECK_DONE (R178): The divergence self-check finishes and its result is sent to the partner. -/
  | selfCheckDone (step : Fin 6)
  /-- SELF_CHECK_RESULT_RECEIVE (R179): The partner's self-check result arrives and decides fencing. -/
  | selfCheckResultReceive (passed : Bool)
  /-- SELF_CHECK_RESULT_TIMEOUT (R179): No partner result within 100 ms; neither part fences. -/
  | selfCheckResultTimeout
  /-- PARTNER_SILENCE (R181): Records for every output missing for MISS_FRAMES frames report partner silence. -/
  | partnerSilence
  /-- OTD_FRAME_BOUNDARY (R185): A frame boundary of an enabled output timing domain passes. -/
  | otdFrameBoundary (d : Fin 8) (phases : List (Fin 384 × Int)) (crcs : List (Fin 128 × BitVec 64 × BitVec 6))
  /-- OTD_CONFIG_WRITE (R188): A write changing a domain's format, time base or phase realigns it. -/
  | otdConfigWrite (src : Requester) (d : Fin 8) (w : Word32)
  /-- OTD_PHASE_WRITE (R187): A write of EGR_OTD_PHASE within the frame period. -/
  | otdPhaseWrite (src : Requester) (d : Fin 8) (w : Word32)
  /-- OUTPUT_ENABLE (R190): EGR_OUT_CFG.ENABLE written 1 enables an output. -/
  | outputEnable (src : Requester) (n : Fin 128) (w : Word32)
  /-- OUTPUT_DISABLE (R226): ENABLE cleared drains the output. -/
  | outputDisable (src : Requester) (n : Fin 128)
  /-- OUTPUT_KILL (R226): KILL with ENABLE 0 stops the output at line end. -/
  | outputKill (src : Requester) (n : Fin 128)
  /-- OUTPUT_DRAIN_DONE (R226): The draining output's frame completes and its lane goes idle. -/
  | outputDrainDone (n : Fin 128)
  /-- OUTPUT_LINE (R191): A line passes the output stage steps in order. -/
  | outputLine (n : Fin 128) (gaps slips ancDrops : Nat)
  /-- OVERRIDE_WRITE (R198): A write of EGR_OUT_CFG.OVERRIDE takes effect at the next boundary. -/
  | overrideWrite (src : Requester) (n : Fin 128) (ovr : BitVec 2) (pat : Fin 16)
  /-- PATTERN_GEN_CONFIG (R200): A write of EGR_PAT_CFG enables or configures a pattern generator. -/
  | patternGenConfig (src : Requester) (p : Fin 16) (w : Word32)
  /-- IDENT_WRITE (R201): A change of ident text or position takes effect at the next boundary. -/
  | identWrite (src : Requester) (n : Fin 128) (ix : Fin 8) (w : Word32)
  /-- OUT_AUDIO_WRITE (R202): A write of EGR_OUT_AUD sets follow, Tweed or no audio and reserves channels. -/
  | outAudioWrite (src : Requester) (n : Fin 128) (w : Word32)
  /-- OUT_SDI_BOND (R207): Setting EGR_OUT_SDI.BOND makes a quad-link output group. -/
  | outSdiBond (src : Requester) (n : Fin 128) (w : Word32)
  /-- VIDEO_SENDER_BIND (R209): A write of EGR_VSND_CFG binds a video sender to a flow and checks wire rate. -/
  | videoSenderBind (src : Requester) (ix : Fin 256) (w : Word32) (v : TakeView)
  /-- SOURCE_SENDER_SRC (R211): A write of EGR_VSND_SRC admits a route and changes the sender at the next RTP frame. -/
  | sourceSenderSrc (src : Requester) (ix : Fin 256) (w : Word32) (v : TakeView)
  /-- AUDIO_SENDER_BIND (R216): A write of EGR_ASND_CFG or FMT binds an audio sender. -/
  | audioSenderBind (src : Requester) (ix : Fin 1024) (fmt : Bool) (w : Word32)
  /-- ANC_SENDER_BIND (R217): A write of EGR_XSND_CFG binds an ancillary sender. -/
  | ancSenderBind (src : Requester) (ix : Fin 512) (w : Word32)
  /-- VIDEO_PACKET_SEND (R214): A video packet falls due at its scheduled instant and is sent. -/
  | videoPacketSend (ix : Fin 256) (k : Nat) (missing late : Bool)
  /-- AUDIO_PACKET_SEND (R216): An audio packet leaves after its last Tweed block completes. -/
  | audioPacketSend (ix : Fin 1024) (first : Nat)
  /-- ANC_PACKET_SEND (R217): An ancillary packet leaves in the line after the switch line. -/
  | ancPacketSend (ix : Fin 512) (field : Nat) (last : Bool)
  /-- SENDER_STOP (R227): A sender's VALID cleared stops it after its current frame or packet. -/
  | senderStop (src : Requester) (k : SndKind) (ix : Fin 1024)
  /-- JOIN_ENTRY_SET (R222): A join entry's VALID written 1 sends a state-change report. -/
  | joinEntrySet (src : Requester) (j : Fin 4096) (port : Fin 32) (flow : BitVec 19)
  /-- JOIN_ENTRY_CLEAR (R222): VALID written 0 sends a leave when no other entry holds the group. -/
  | joinEntryClear (src : Requester) (j : Fin 4096)
  /-- JOIN_REPEAT_TIMER (R222): A report or leave is repeated at URI. -/
  | joinRepeatTimer (j : Fin 4096)
  /-- JOIN_STALL_TIMEOUT (R222): No matching packet for 1 s sets JOIN_FAIL and STALLED. -/
  | joinStallTimeout (j : Fin 4096)
  /-- JOIN_QUERY_RECEIVE (R222): A query schedules a current-state report after a random delay. -/
  | joinQueryReceive (port : Fin 32) (group : Option (BitVec 32))
  /-- JOIN_QUERY_REPORT (R222): The random delay expires and the current-state report is sent. -/
  | joinQueryReport (j : Fin 4096)
  /-- JOIN_OLD_QUERIER (R222): An older-version querier is heard for an SSM entry; entry DEGRADED. -/
  | joinOldQuerier (port : Fin 32)
  /-- JOIN_OLD_QUERIER_TIMEOUT (R222): The older-version querier present timeout expires and IGMPv3 or MLDv2 resumes. -/
  | joinOldQuerierTimeout (port : Fin 32)
  /-- HEALTH_RISE_TIMER (R224): Conditions held for RISE_MS and the HEALTH pin rises. -/
  | healthRiseTimer (pinB : Bool)
  /-- HEALTH_RELEASE_WRITE (R225): Setting or clearing RELEASE_A or RELEASE_B plans a release at the next switch point. -/
  | healthReleaseWrite (src : Requester) (releaseA releaseB : Bool)
  /-- EGRESS_DISABLE (R227): Clearing EGR_CTRL.EN drains every output and drops both HEALTH pins. -/
  | egressDisable (src : Requester)
  /-- SQ_DOORBELL (R246): A write of NIM_SQ_TAIL announces new submission entries. -/
  | sqDoorbell (src : Requester) (q : Fin 64) (w : Word32)
  /-- SUBMISSION_ACCEPT (R251): A queue takes its next entry and runs the acceptance checks. -/
  | submissionAccept (q : Fin 64) (e : Sqe)
  /-- CQ_DOORBELL (R249): A write of NIM_CQ_HEAD frees completion entries and lets waiting records go. -/
  | cqDoorbell (src : Requester) (q : Fin 64) (w : Word32)
  /-- JOURNAL_MIRROR_RECEIVE (R262): The partner receives a mirrored entry, checks it, journals it and replies. -/
  | journalMirrorReceive (e : JEntry)
  /-- JOURNAL_MIRROR_REPLY (R262): The partner's reply arrives and the accepting part posts ACK or REFUSED. -/
  | journalMirrorReply (key : Key) (st : Status)
  /-- JOURNAL_RESEND_TIMER (R263): Without a reply the entry is resent every 100 µs. -/
  | journalResendTimer (key : Key)
  /-- FRONTIER_SEND (R264): A journal frontier is sent to the partner at least every 10 µs. -/
  | frontierSend
  /-- FRONTIER_RECEIVE (R264): A partner frontier arrives and advances the journal clock and execution. -/
  | frontierReceive (time : Nat) (done : List Key)
  /-- ENTRY_START (R267): An entry starts on the core its affinity chooses once its waits are met. -/
  | entryStart (key : Key) (core : Fin 16)
  /-- BUDGET_TRAP (R270): A journalled program exhausts its cycle budget and traps. -/
  | budgetTrap (core : Fin 16)
  /-- JOURNAL_ENTRY_FREE (R260): A COMPLETE entry past retention is freed oldest first. -/
  | journalEntryFree
  /-- JOURNAL_REPLAY (R271): After a reset the journal is scanned, reconciled with the partner and replayed. -/
  | journalReplay (warm : Bool) (entries : List JEntry)
  /-- WARM_RESET_ANNOUNCE (R265): The partner announces a warm reset and this part holds acceptance and execution. -/
  | warmResetAnnounce
  /-- WARM_WAIT_TIMEOUT (R265): The partner's warm reset outlasts WARM_WAIT and it is declared lost. -/
  | warmWaitTimeout
  /-- JOURNAL_RECONCILE (R266): Regained partners exchange entries the other lacks and execute them. -/
  | journalReconcile (entries : List JEntry) (lacks : List Key)
  /-- PARTNER_REJOIN (R273): A returning part takes the survivor's image and retained entries, then counts as partner. -/
  | partnerRejoin (sel : List (Fin 128 × Nat × Nat)) (applied : List Applied) (entries : List JEntry)
  /-- NIM_DISABLE (R274): Clearing NIM_CTRL.EN drains the cores. -/
  | nimDisable (src : Requester)
  /-- NIM_KILL (R274): KILL stops every running program; entries stay in the journal. -/
  | nimKill (src : Requester)
  /-- NIM_DRAIN_DONE (R274): All accepted entries are COMPLETE and the cores stop. -/
  | nimDrainDone
  /-- SERVICE_START (R275): After replay the enabled service slots start at ENTRY. -/
  | serviceStart (bad : List (Fin 32))
  /-- SERVICE_RESTART (R278): 100 ms after a service trap the service restarts at ENTRY. -/
  | serviceRestart (n : Fin 32)
  /-- PAIR_MODE_WRITE (R282): A write of NIM_PAIR_CFG.MODE or PARTNER from an ALL order. -/
  | pairModeWrite (src : Requester) (allOrder partnerNames partnerB : Bool) (w : Word32)
  /-- ADD (R289): g[rd] = g[ra] + g[rb]. -/
  | nimAdd (a : NimAt) (rd ra rb : Fin 32)
  /-- SUB (R289): g[rd] = g[ra] − g[rb]. -/
  | nimSub (a : NimAt) (rd ra rb : Fin 32)
  /-- AND (R289): Bitwise and of two registers. -/
  | nimAnd (a : NimAt) (rd ra rb : Fin 32)
  /-- OR (R289): Bitwise or of two registers. -/
  | nimOr (a : NimAt) (rd ra rb : Fin 32)
  /-- XOR (R289): Bitwise exclusive or of two registers. -/
  | nimXor (a : NimAt) (rd ra rb : Fin 32)
  /-- SLL (R289): Shift left logical by register. -/
  | nimSll (a : NimAt) (rd ra rb : Fin 32)
  /-- SRL (R289): Shift right logical by register. -/
  | nimSrl (a : NimAt) (rd ra rb : Fin 32)
  /-- SRA (R289): Shift right arithmetic by register. -/
  | nimSra (a : NimAt) (rd ra rb : Fin 32)
  /-- MUL (R289): Low 64 bits of the product. -/
  | nimMul (a : NimAt) (rd ra rb : Fin 32)
  /-- MULHU (R289): High 64 bits of the unsigned product. -/
  | nimMulhu (a : NimAt) (rd ra rb : Fin 32)
  /-- DIVU (R289): Unsigned quotient, all ones on division by zero. -/
  | nimDivu (a : NimAt) (rd ra rb : Fin 32)
  /-- REMU (R289): Unsigned remainder, g[ra] on division by zero. -/
  | nimRemu (a : NimAt) (rd ra rb : Fin 32)
  /-- MINU (R289): Unsigned minimum. -/
  | nimMinu (a : NimAt) (rd ra rb : Fin 32)
  /-- MAXU (R289): Unsigned maximum. -/
  | nimMaxu (a : NimAt) (rd ra rb : Fin 32)
  /-- MIN (R289): Signed minimum. -/
  | nimMin (a : NimAt) (rd ra rb : Fin 32)
  /-- MAX (R289): Signed maximum. -/
  | nimMax (a : NimAt) (rd ra rb : Fin 32)
  /-- SXB (R289): Sign-extend a byte. -/
  | nimSxb (a : NimAt) (rd ra : Fin 32)
  /-- SXH (R289): Sign-extend a halfword. -/
  | nimSxh (a : NimAt) (rd ra : Fin 32)
  /-- SXW (R289): Sign-extend a word. -/
  | nimSxw (a : NimAt) (rd ra : Fin 32)
  /-- CLZ (R289): Count leading zeros. -/
  | nimClz (a : NimAt) (rd ra : Fin 32)
  /-- POPC (R289): Count ones. -/
  | nimPopc (a : NimAt) (rd ra : Fin 32)
  /-- RDST (R289): Copy st to a general register. -/
  | nimRdst (a : NimAt) (rd : Fin 32)
  /-- ADDI (R289): Add a sign-extended immediate. -/
  | nimAddi (a : NimAt) (rd ra : Fin 32) (imm : BitVec 12)
  /-- ANDI (R289): And with a zero-extended immediate. -/
  | nimAndi (a : NimAt) (rd ra : Fin 32) (imm : BitVec 12)
  /-- ORI (R289): Or with a zero-extended immediate. -/
  | nimOri (a : NimAt) (rd ra : Fin 32) (imm : BitVec 12)
  /-- XORI (R289): Exclusive or with a zero-extended immediate. -/
  | nimXori (a : NimAt) (rd ra : Fin 32) (imm : BitVec 12)
  /-- SLLI (R289): Shift left logical by immediate. -/
  | nimSlli (a : NimAt) (rd ra : Fin 32) (imm : BitVec 10)
  /-- SRLI (R289): Shift right logical by immediate. -/
  | nimSrli (a : NimAt) (rd ra : Fin 32) (imm : BitVec 10)
  /-- SRAI (R289): Shift right arithmetic by immediate. -/
  | nimSrai (a : NimAt) (rd ra : Fin 32) (imm : BitVec 10)
  /-- LDI (R289): Load a 17-bit signed immediate. -/
  | nimLdi (a : NimAt) (rd : Fin 32) (imm : BitVec 17)
  /-- LDK (R289): Shift a register left 16 and insert 16 immediate bits. -/
  | nimLdk (a : NimAt) (rd : Fin 32) (imm : BitVec 17)
  /-- CMP (R289): Compare two registers into a predicate. -/
  | nimCmp (a : NimAt) (pd cc : Fin 8) (ra rb : Fin 32)
  /-- CMPI (R289): Compare a register with an immediate into a predicate. -/
  | nimCmpi (a : NimAt) (pd cc : Fin 8) (ra : Fin 32) (imm : BitVec 11)
  /-- PAND (R289): Predicate and. -/
  | nimPand (a : NimAt) (pd pa pb : Fin 8)
  /-- POR (R289): Predicate or. -/
  | nimPor (a : NimAt) (pd pa pb : Fin 8)
  /-- PXOR (R289): Predicate exclusive or. -/
  | nimPxor (a : NimAt) (pd pa pb : Fin 8)
  /-- PANDN (R289): Predicate and-not. -/
  | nimPandn (a : NimAt) (pd pa pb : Fin 8)
  /-- BR (R290): Branch by a signed word offset. -/
  | nimBr (a : NimAt) (off : BitVec 22)
  /-- CALL (R290): Branch and write the link to g31. -/
  | nimCall (a : NimAt) (off : BitVec 22)
  /-- JR (R290): Jump to the link in a register. -/
  | nimJr (a : NimAt) (rd ra rb : Fin 32) (fn : BitVec 7)
  /-- LCALL (R290): Call a LIBRARY word and write the link. -/
  | nimLcall (a : NimAt) (off : BitVec 22)
  /-- LD (R291): Load from a memory space. -/
  | nimLd (a : NimAt) (rd ra : Fin 32) (sp : Fin 8) (sz : Fin 4) (off : BitVec 7)
  /-- ST (R291): Store to a memory space. -/
  | nimSt (a : NimAt) (rd ra : Fin 32) (sp : Fin 8) (sz : Fin 4) (off : BitVec 7)
  /-- AMO_ADD (R293): Atomic add on a SHARED doubleword. -/
  | nimAmoAdd (a : NimAt) (rd ra rb : Fin 32)
  /-- AMO_SWAP (R293): Atomic swap on a SHARED doubleword. -/
  | nimAmoSwap (a : NimAt) (rd ra rb : Fin 32)
  /-- AMO_CAS (R293): Atomic compare-and-store on a SHARED doubleword. -/
  | nimAmoCas (a : NimAt) (rd ra rb : Fin 32)
  /-- BLD (R294): Block-bus load through the address table. -/
  | nimBld (a : NimAt) (rd ri ent : Fin 32) (wide : Bool)
  /-- BST (R294): Block-bus store through the address table. -/
  | nimBst (a : NimAt) (rd ri ent : Fin 32) (wide : Bool) (env : BusEnv)
  /-- BFENCE (R295): Wait until earlier block-bus accesses complete. -/
  | nimBfence (a : NimAt) (fn : BitVec 22)
  /-- FLOW_WRITE (R299): The flow instruction writes a directory entry. -/
  | nimFlowWrite (a : NimAt) (rd ra rb rc : Fin 32) (loc ovf : Bool)
  /-- FLOW_WITHDRAW (R299): The flow instruction withdraws a directory entry. -/
  | nimFlowWithdraw (a : NimAt) (rd ra rb rc : Fin 32) (loc : Bool)
  /-- LAYER (R300): Write a layer descriptor into its shadow. -/
  | nimLayer (a : NimAt) (rd ra rb rc : Fin 32) (f : BitVec 2)
  /-- COMMIT (R301): Commit pipe shadows to apply at a frame boundary. -/
  | nimCommit (a : NimAt) (rd ra rb rc : Fin 32) (f : BitVec 2)
  /-- RDT (R302): Read a time base snapshot or live time. -/
  | nimRdt (a : NimAt) (rd : Fin 32) (fn : BitVec 7)
  /-- NSP_SWITCH_POINT (R303): Compute the next switch point of a domain. -/
  | nimNspSwitchPoint (a : NimAt) (rd ra : Fin 32) (d : Fin 8)
  /-- NSP_FRAME_BOUNDARY (R303): Compute the next frame boundary of a domain. -/
  | nimNspFrameBoundary (a : NimAt) (rd ra : Fin 32) (d : Fin 8)
  /-- JSUB (R304): A service submits a work order from SHARED memory. -/
  | nimJsub (a : NimAt) (rd ra rb rc : Fin 32) (f : BitVec 2)
  /-- JINFO (R305): Read entry or service information selected by fn. -/
  | nimJinfo (a : NimAt) (rd : Fin 32) (fn : BitVec 7)
  /-- POST (R306): Post an EVENT record to a completion queue. -/
  | nimPost (a : NimAt) (ra rb : Fin 32) (fn : BitVec 7)
  /-- SEND (R307): Deliver 32 bytes to a service mailbox. -/
  | nimSend (a : NimAt) (ra rb : Fin 32) (fn : BitVec 7) (reply : Status)
  /-- REPLY (R310): Reply to the last message sender or the submitter. -/
  | nimReply (a : NimAt) (ra : Fin 32) (fn : BitVec 7) (reply : Status)
  /-- RECV_MSG (R309): Copy the oldest MSG item to LOCAL. -/
  | nimRecvMsg (a : NimAt) (rd ra : Fin 32)
  /-- RECV_TAKE (R309): Copy the oldest TAKE record to LOCAL. -/
  | nimRecvTake (a : NimAt) (rd ra : Fin 32)
  /-- RECV_DONE (R309): Copy the oldest DONE item to LOCAL. -/
  | nimRecvDone (a : NimAt) (rd ra : Fin 32)
  /-- RECV_RING (R309): Copy the oldest RING frame to LOCAL. -/
  | nimRecvRing (a : NimAt) (rd ra : Fin 32)
  /-- XMIT (R311): Send a UDP payload through a service endpoint. -/
  | nimXmit (a : NimAt) (ra rb rc : Fin 32) (f : BitVec 2)
  /-- WAIT (R312): Give up the core until an event or a TB0 deadline. -/
  | nimWait (a : NimAt) (rd ra rb : Fin 32) (fn : BitVec 7)
  /-- WAIT_WAKE (R312): A waiting context becomes ready when an event is pending or its deadline passes. -/
  | nimWaitWake (n : Fin 32)
  /-- YIELD (R313): Give up the core. -/
  | nimYield (a : NimAt) (fn : BitVec 22)
  /-- HALT (R313): End the program. -/
  | nimHalt (a : NimAt)
  /-- NOP (R313): Do nothing. -/
  | nimNop (a : NimAt)
  /-- SIGNAL_PLANE_RESULT (R296): A signal-plane instruction's result returns and its context resumes. -/
  | nimSignalPlaneResult (key : Key) (sig : Nat) (value : Word64) (st : Status)
  /-- TWEED_SAMPLE_WRITE (R324): A sample is written into the input bank as its read instant passes. -/
  | tweedSampleWrite (core : Fin 8) (slot : Fin 1024) (n : Fin 8) (v : BitVec 32) (kind : SampleKind) (asp : Option (Fin 16 × Fin 16))
  /-- TWEED_RUN_START (R326): At a block start the input bank becomes IN, registers load and the run starts. -/
  | tweedRunStart (core : Fin 8) (j : Nat) (filled : Bool)
  /-- TWEED_RUN_DEADLINE (R327): A run not at eob by its deadline is stopped and the block is INVALID. -/
  | tweedRunDeadline (core : Fin 8) (uncorr : Bool)
  /-- TWEED_BLOCK_PRESENT (R326): The OUT bank of a block is presented to consumers. -/
  | tweedBlockPresent (core : Fin 8) (ramps : List (Fin 128 × List (BitVec 32) × List (BitVec 32)))
  /-- TWEED_APPLY_ARM (R341): A write of TWD_CORE_AT arms one apply. -/
  | tweedApplyArm (src : Requester) (core : Fin 8) (at_ : Word32)
  /-- TWD_IMEM_WRITE (R342): A write to the load bank of a core's program memory. -/
  | twdImemWrite (src : Requester) (core : Fin 8) (a : Fin 8192) (v : Word64)
  /-- TWD_PLACE_WRITE (R332): A placement write joins the pending set after its checks. -/
  | twdPlaceWrite (src : Requester) (k : Fin 1184) (w : Word32) (sender : Fin 4)
  /-- TWD_FOLLOW_WRITE (R334): A follow-stream write joins the pending set. -/
  | twdFollowWrite (src : Requester) (n : Fin 400) (w : Word32)
  /-- BUNDLE_SENDER_WRITE (R338): A bundle sender write checks its flow and base. -/
  | bundleSenderWrite (src : Requester) (b : Fin 16) (flow : Bool) (w : Word32)
  /-- BUNDLE_RECEIVER_WRITE (R339): Setting a bundle receiver valid requests a route. -/
  | bundleReceiverWrite (src : Requester) (r : Fin 16) (w : Word32) (h : RouteHop)
  /-- TWEED_SCRUB (R318): Each second every Tweed memory is scrubbed in idle cycles. -/
  | tweedScrub (corrected : Nat) (rows : List BadRow)
  /-- TWEED_CORE_SWAP (R316): A core moves to the spare at a run start. -/
  | tweedCoreSwap (core : Fin 8) (phys : Fin 9)
  /-- TWEED_DISABLE (R343): Clearing TWD_CTRL.EN drains every core. -/
  | tweedDisable (src : Requester)
  /-- TWEED_KILL (R343): KILL stops every run at once with INVALID output. -/
  | tweedKill (src : Requester)
  /-- TWD_NOP (R351): No operation. -/
  | twdNop (core : Fin 8) (b : Bundle)
  /-- MAC (R344): Multiply-accumulate into an accumulator lane. -/
  | twdMac (core : Fin 8) (b : Bundle) (ad : Fin 8) (va vb : Fin 32) (sh : Fin 16)
  /-- MSU (R344): Multiply-subtract from an accumulator. -/
  | twdMsu (core : Fin 8) (b : Bundle) (ad : Fin 8) (va vb : Fin 32) (sh : Fin 16)
  /-- MPY (R344): Set an accumulator to a product. -/
  | twdMpy (core : Fin 8) (b : Bundle) (ad : Fin 8) (va vb : Fin 32) (sh : Fin 16)
  /-- QMAC (R351): Four-unit multiply-accumulate. -/
  | twdQmac (core : Fin 8) (b : Bundle) (ad : Fin 8) (va vb : Fin 32) (sh : Fin 16)
  /-- QMSU (R351): Four-unit multiply-subtract. -/
  | twdQmsu (core : Fin 8) (b : Bundle) (ad : Fin 8) (va vb : Fin 32) (sh : Fin 16)
  /-- QMPY (R351): Four-unit multiply. -/
  | twdQmpy (core : Fin 8) (b : Bundle) (ad : Fin 8) (va vb : Fin 32) (sh : Fin 16)
  /-- CLR (R351): Clear selected accumulators. -/
  | twdClr (core : Fin 8) (b : Bundle) (mask : BitVec 8)
  /-- RND (R346): Shift, round convergently and saturate an accumulator to a vector. -/
  | twdRnd (core : Fin 8) (b : Bundle) (vd : Fin 32) (ad : Fin 8) (fmt : Fin 4) (sh : Fin 16)
  /-- VADD (R347): Saturating lane-wise add. -/
  | twdVadd (core : Fin 8) (b : Bundle) (vd va vb : Fin 32)
  /-- VSUB (R347): Saturating lane-wise subtract. -/
  | twdVsub (core : Fin 8) (b : Bundle) (vd va vb : Fin 32)
  /-- VMOV (R351): Copy a vector register. -/
  | twdVmov (core : Fin 8) (b : Bundle) (vd va : Fin 32)
  /-- VBC (R351): Broadcast one lane to all lanes. -/
  | twdVbc (core : Fin 8) (b : Bundle) (vd va : Fin 32) (k : Fin 4)
  /-- VTOA (R351): Load accumulator lanes from a vector. -/
  | twdVtoa (core : Fin 8) (b : Bundle) (ad : Fin 8) (va : Fin 32)
  /-- LOOP (R349): Repeat the following bundles cnt times. -/
  | twdLoop (core : Fin 8) (b : Bundle) (cnt : Fin 1024) (len : Fin 128)
  /-- LPR (R349): Repeat the following bundles with stage gating. -/
  | twdLpr (core : Fin 8) (b : Bundle) (st : Fin 8) (cnt : Fin 1024) (len : Fin 16)
  /-- TWD_BR (R351): Branch by a bundle offset. -/
  | twdBr (core : Fin 8) (b : Bundle) (off : BitVec 17)
  /-- SETX (R351): Set an X address register's ADDR. -/
  | twdSetx (core : Fin 8) (b : Bundle) (r : Fin 8) (addr : BitVec 14)
  /-- SETY (R351): Set a Y address register's ADDR. -/
  | twdSety (core : Fin 8) (b : Bundle) (r : Fin 8) (addr : BitVec 14)
  /-- EOB (R322): End the run and write back address registers. -/
  | twdEob (core : Fin 8) (b : Bundle)
  /-- VLD (R352): Move a memory word into a vector register. -/
  | twdVld (core : Fin 8) (b : Bundle) (y : Bool) (m : Move)
  /-- VST (R352): Move a vector register into memory. -/
  | twdVst (core : Fin 8) (b : Bundle) (y : Bool) (m : Move)
  /-- VBL (R352): Load one lane of a word into all lanes. -/
  | twdVbl (core : Fin 8) (b : Bundle) (y : Bool) (m : Move)
  /-- ASP_ENABLE (R375): A section's ENABLE written 1 checks reservations and starts clocks or sync. -/
  | aspEnable (src : Requester) (tx : Bool) (n : Fin 16) (w : Word32)
  /-- ASP_DISABLE (R375): ENABLE written 0 ramps down and drains. -/
  | aspDisable (src : Requester) (tx : Bool) (n : Fin 16)
  /-- ASP_KILL (R375): KILL stops the section at once. -/
  | aspKill (src : Requester) (tx : Bool) (n : Fin 16)
  /-- ASP_ARM (R372): ARM written 1 re-arms a section in RATE_STOP. -/
  | aspArm (src : Requester) (tx : Bool) (n : Fin 16)
  /-- ASP_MASK_WRITE (R373): A write of the slot mask goes to its shadow. -/
  | aspMaskWrite (src : Requester) (tx : Bool) (n : Fin 16) (w : Word32)
  /-- ASP_FRAME_START (R365): A section frame starts and samples move to or from the elastic buffer. -/
  | aspFrameStart (tx : Bool) (n : Fin 16) (period : BitVec 24) (frame : List (BitVec 32)) (instants : List (Fin 16))
  /-- ASP_BCK_MISSING (R368): No BCK edge for two nominal periods: clock fault and mute. -/
  | aspBckMissing (tx : Bool) (n : Fin 16)
  /-- ASP_WS_MISSING (R368): No frame start for two nominal frame periods: clock fault and mute. -/
  | aspWsMissing (tx : Bool) (n : Fin 16)
  /-- ASP_CLOCK_FAULT (R369): A period, count or source fault mutes the section. -/
  | aspClockFault (tx : Bool) (n : Fin 16) (f : AspFault)
  /-- ASP_RESYNC (R370): 64 fault-free word periods: the buffer fills and data resumes. -/
  | aspResync (tx : Bool) (n : Fin 16)
  /-- ASP_RATE_CHANGE (R371): A muted slave sees 64 periods at another standard rate and stops in RATE_STOP. -/
  | aspRateChange (tx : Bool) (n : Fin 16) (rate : Fin 8)
  /-- ASP_DATA_START (R375): LEAD frames done and a block boundary reached: data starts ramped. -/
  | aspDataStart (tx : Bool) (n : Fin 16)
  /-- ASP_TAIL_DONE (R375): TAIL frames complete; reservations released and pins high impedance. -/
  | aspTailDone (tx : Bool) (n : Fin 16)
  /-- PIPE_ENABLE (R380): A pipe's ENABLE written 1 passes its checks and reserves budget. -/
  | pipeEnable (src : Requester) (v : Fin 16) (w : Word32)
  /-- PIPE_DISABLE (R402): ENABLE written 0 drains the pipe. -/
  | pipeDisable (src : Requester) (v : Fin 16)
  /-- PIPE_KILL (R402): KILL with ENABLE 0 blacks the pipe from the next line. -/
  | pipeKill (src : Requester) (v : Fin 16)
  /-- PIPE_DRAIN_DONE (R402): The draining pipe's frame completes and budget is released. -/
  | pipeDrainDone (v : Fin 16)
  /-- SURFACE_CONFIG_WRITE (R384): A write of VMP_SURF_CFG defines or validates a surface. -/
  | surfaceConfigWrite (src : Requester) (m : Fin 256) (w : Word32)
  /-- SURF_GEN_APPLY (R385): A VMP_SURF_GEN write is applied after earlier BAR2 writes reach the frame store. -/
  | surfGenApply
  /-- BAR2_ACCESS (R620): A host access to the frame store through BAR2, refused outside its bounds. -/
  | bar2Access (off : BitVec 36) (write : Option (List Byte))
  /-- VAMP_DISABLE (R403): Clearing VMP_CTRL.EN drains every pipe. -/
  | vampDisable (src : Requester)
  /-- LAST_EVALUATION (R416): Every 1 ms or at a validity change Last evaluates its reference selection. -/
  | lastEvaluation (o : LastObs)
  /-- REF_LOSS_DETECT (R411): A reference meets its loss condition and becomes invalid. -/
  | refLossDetect (r : Fin 14) (fault : Fin 8)
  /-- REF_VALID (R411): A reference passes its structural and frequency checks and becomes valid. -/
  | refValid (r : Fin 14)
  /-- REF_QUALIFY (R414): A valid reference's wait-to-restore expires and it qualifies. -/
  | refQualify (r : Fin 14)
  /-- SLEW_STEP (R421): A slew step ends; the next step starts or the slew ends. -/
  | slewStep (phase : Int)
  /-- LAST_LOCK (R424): The lock criterion is met and Last enters LOCKED. -/
  | lastLock
  /-- HOLDOVER_LOST (R426): Holdover time or uncertainty passes its limit and Last enters LOST. -/
  | holdoverLost
  /-- LOOP_OPEN (R428): LST_CTRL.OPEN set opens the loop at the present frequency. -/
  | loopOpen (src : Requester)
  /-- LOOP_CLOSE (R428): OPEN cleared returns to ACQUIRE or HOLDOVER. -/
  | loopClose (src : Requester)
  /-- STEER_WRITE (R429): A write of LST_STEER moves the open-loop frequency at STEER_RATE. -/
  | steerWrite (src : Requester) (v : Word64)
  /-- REF_CFG_WRITE (R415): A write of LST_REF_CFG restarts checks or takes effect at evaluation. -/
  | refCfgWrite (src : Requester) (r : Fin 14) (w : Word32)
  /-- OSC_HOLD_FAIL (R430): OSC_HOLD misses cycles or jumps and fails. -/
  | oscHoldFail
  /-- REFCLK_FAIL (R409): A REFCLK becomes invalid and the network lanes move source. -/
  | refclkFail (b : Bool)
  /-- LANE_CLOCK_UNQUAL (R431): Lane clocks lose qualification and HEALTH condition 7 fails. -/
  | laneClockUnqual (synths : BitVec 5)
  /-- AGEING_RECORD (R432): Each locked hour an OSC_HOLD ageing record is written and the model refitted. -/
  | ageingRecord (offset : Int)
  /-- AGEING_REPLAN (R435): Once a day Last recomputes LOST and 365-day predictions. -/
  | ageingReplan
  /-- TB_SET (R444): NTM_TB_ADJ KIND SET loads a time into a time base. -/
  | tbSet (src : Requester) (k : Fin 4)
  /-- TB_STEP (R444): NTM_TB_ADJ KIND STEP adds a signed offset to a time base. -/
  | tbStep (src : Requester) (k : Fin 4)
  /-- TB_MODE_WRITE (R443): A write of NTM_TB_CFG.MODE changes how the time base gets its time. -/
  | tbModeWrite (src : Requester) (k : Fin 4) (w : Word32)
  /-- PTP_MESSAGE_RECEIVE (R450): A PTP event or general message is consumed by hardware or sent to the rings. -/
  | ptpMessageReceive (p : Fin 32) (m : PtpMsg) (f : RxFrame)
  /-- SRV_FEED_WRITE (R457): A write of NTM_SRV_FEED is one servo sample. -/
  | srvFeedWrite (src : Requester) (k : Fin 4) (v : Word64)
  /-- PTP_ANNOUNCE_SEND (R447): A MASTER port sends Announce at its interval. -/
  | ptpAnnounceSend (k : Fin 4) (p : Fin 32)
  /-- PTP_SYNC_SEND (R447): A MASTER port sends Sync and Follow_Up at its interval. -/
  | ptpSyncSend (k : Fin 4) (p : Fin 32)
  /-- PTP_DELAY_REQ_SEND (R447): A SLAVE port sends Delay_Req at randomised spacing. -/
  | ptpDelayReqSend (k : Fin 4) (p : Fin 32) (tx : FineTime)
  /-- PTP_PDELAY_REQ_SEND (R447): A port under P2P sends Pdelay_Req. -/
  | ptpPdelayReqSend (k : Fin 4) (p : Fin 32) (tx : FineTime)
  /-- ANNOUNCE_TIMEOUT (R449): No Announce from the parent for TIMEOUT intervals stops servo feed from that port. -/
  | announceTimeout (k : Fin 4) (p : Fin 32)
  /-- SERVO_SAMPLES_STOP (R460): No sample for 16 Sync intervals: the servo enters HOLDOVER. -/
  | servoSamplesStop (k : Fin 4)
  /-- PTP_PORT_STATE_WRITE (R448): A write of NTM_PORT_CFG sets a port's PTP state. -/
  | ptpPortStateWrite (src : Requester) (k : Fin 4) (p : Fin 32) (w : Word32)
  /-- ALIGN_EDGE (R462): A captured reference edge is measured against the time base and may step it. -/
  | alignEdge (k : Fin 4)
  /-- TRIGGER_ARM (R465): ARM written 1 arms a trigger and handles lateness. -/
  | triggerArm (src : Requester) (t : Fin 64) (w : Word32)
  /-- TRIGGER_FIRE (R463): A trigger instant arrives and its GPIO action fires. -/
  | triggerFire (t : Fin 64)
  /-- TRIGGER_PULSE_END (R464): A pulse's WIDTH elapses and the pin returns to idle. -/
  | triggerPulseEnd (t : Fin 64)
  /-- TRIGGER_DRAIN (R467): ARM written 0 drains the trigger. -/
  | triggerDrain (src : Requester) (t : Fin 64)
  /-- TRIGGER_KILL (R467): KILL with ARM 0 ends the pulse and disarms. -/
  | triggerKill (src : Requester) (t : Fin 64)
  /-- CAPTURE_EDGE (R468): A chosen edge of a capture source is timestamped into its FIFO. -/
  | captureEdge (c : Fin 64) (rising : Bool)
  /-- CAPTURE_READ (R469): A read of NTM_CAP_NS pops the oldest entry and latches its seconds. -/
  | captureRead (c : Fin 64)
  /-- NTM_DISABLE (R471): Clearing NTM_CTRL.EN drains ports, servos, triggers and captures. -/
  | ntmDisable (src : Requester)
  /-- LANE_LOSS_OF_LOCK (R479): A lane's CDR or sync headers fail and loss of lock is declared. -/
  | laneLossOfLock (ix : Fin 224)
  /-- EYE_MEASURE (R482): Every 100 ms the eye monitor records the smallest eye and may start recalibration. -/
  | eyeMeasure (ix : Fin 224) (o : EyeObs)
  /-- LANE_RECAL (R483): WLT_LANE_CTRL.RECAL starts a live recalibration. -/
  | laneRecal (src : Requester) (ix : Fin 224)
  /-- LANE_RECAL_STEP (R483): A recalibration step timer moves phase or CTLE by one step. -/
  | laneRecalStep (ix : Fin 224) (offset : Int) (larger : Bool)
  /-- LANE_RETRAIN (R485): WLT_LANE_CTRL.RETRAIN re-adapts a video or network lane. -/
  | laneRetrain (src : Requester) (ix : Fin 224)
  /-- TXEQ_WRITE (R481): A write of transmit FFE taps applied at the next word boundary. -/
  | txeqWrite (src : Requester) (ix : Fin 224) (w : Word32)
  /-- PRBS_WRITE (R498): A write of WLT_LANE_PRBS starts or stops a test pattern. -/
  | prbsWrite (src : Requester) (ix : Fin 224) (w : Word32)
  /-- LACE_LINK_ENABLE (R492): WLT_LK_CFG.ENABLE written 1 starts identity frames. -/
  | laceLinkEnable (src : Requester) (k : Fin 16) (w : Word32)
  /-- LACE_IDENTITY_RECEIVE (R487): An identity frame arrives; comma lock and identity agreement are assessed. -/
  | laceIdentityReceive (k : Fin 16) (o : IdentObs)
  /-- LACE_IDENT_TIMEOUT (R487): Fewer than three lanes comma-locked after 10 ms, or no identity frames in STOPPED. -/
  | laceIdentTimeout (k : Fin 16)
  /-- LACE_RETRY (R492): RETRY elapses and a fallen link restarts bring-up. -/
  | laceRetry (k : Fin 16)
  /-- LACE_RATE_STEP (R488): After the step frames and 20 µs silence both parts start the new rate. -/
  | laceRateStep (k : Fin 16)
  /-- LACE_TRAIN_DONE (R488): Every lane finishes adapting or the limit passes; qualification starts. -/
  | laceTrainDone (k : Fin 16) (lanes : List LaneTrain)
  /-- LACE_QUAL_END (R489): The qualification window ends and the step succeeds, repeats or falls back. -/
  | laceQualEnd (k : Fin 16) (qs : List LaneQual) (recId : Nat)
  /-- LACE_LINK_DISABLE (R493): ENABLE written 0 drains the link by moving its routes. -/
  | laceLinkDisable (src : Requester) (k : Fin 16)
  /-- LACE_DRAIN_DONE (R492): TWL_LK_RES reads 0 or 2 s pass; the link goes DOWN. -/
  | laceDrainDone (k : Fin 16)
  /-- LACE_LINK_KILL (R492): KILL idles the link's lanes at once. -/
  | laceLinkKill (src : Requester) (k : Fin 16)
  /-- LACE_LANE_FAIL (R494): A Lace lane loses lock; cells are resent on three lanes and the link degrades. -/
  | laceLaneFail (k : Fin 16) (j : Fin 4) (resent : Nat)
  /-- LACE_ALL_LANES_LOST (R492): Every lane loses lock within 1 µs and the link goes DOWN. -/
  | laceAllLanesLost (k : Fin 16)
  /-- LACE_SECOND_LANE_LOST (R121): A second lane is lost; the link goes DOWN and routes are re-routed. -/
  | laceSecondLaneLost (k : Fin 16) (j : Fin 4)
  /-- LACE_READD_ATTEMPT (R497): A dropped lane retrains alone and is re-added when it qualifies. -/
  | laceReaddAttempt (k : Fin 16) (t : LaneTrain) (q : LaneQual)
  /-- LACE_READD_RETRY (R497): After three failed attempts the lane is retried every 60 s. -/
  | laceReaddRetry (k : Fin 16)
  /-- LACE_LINK_RETRAIN (R490): WLT_LK_CTRL.RETRAIN restarts a link's bring-up. -/
  | laceLinkRetrain (src : Requester) (k : Fin 16)
  /-- LACE_LINK_RECAL (R484): WLT_LK_CTRL.RECAL removes one lane for recalibration. -/
  | laceLinkRecal (src : Requester) (k : Fin 16) (j : Fin 4)
  /-- GROUP_MODE_WRITE (R503): A write of NPT_GRP_CFG.MODE rebuilds a port group's ports. -/
  | groupModeWrite (src : Requester) (g : Fin 8) (w : Word32)
  /-- PORT_ENABLE (R505): NPT_PORT_CFG.ENABLE written 1 starts a port. -/
  | portEnable (src : Requester) (p : Fin 32) (w : Word32)
  /-- PORT_LINK_UP (R505): Lock and alignment held for UP_HOLD ms bring the link up. -/
  | portLinkUp (p : Fin 32)
  /-- PORT_TRANSMIT (R511): The port chooses and sends its next frame from MEDIA, PTP or CTRL. -/
  | portTransmit (p : Fin 32) (media : Option (Nat × Nat)) (ptpBytes : Nat) (onTime : Bool)
  /-- PAUSE_RECEIVE (R512): A PAUSE or PFC frame starts or replaces the CTRL pause timer. -/
  | pauseReceive (p : Fin 32) (pfc : Bool) (classes : BitVec 8) (quanta : List (Fin 65536))
  /-- PAUSE_EXPIRE (R513): The pause timer expires and the CTRL queue resumes. -/
  | pauseExpire (p : Fin 32)
  /-- LPI_ENTER (R517): Queues idle for IDLE_US: the port asserts LPI. -/
  | lpiEnter (p : Fin 32)
  /-- WAKE_FRAME (R518): A wake frame on a WAKE_ONLY port wakes it. -/
  | wakeFrame (p : Fin 32) (f : RxFrame)
  /-- RXR_TAIL_DOORBELL (R523): A write of NPT_RXR_TAIL posts receive buffers. -/
  | rxrTailDoorbell (src : Requester) (r : Fin 16) (tail : Fin 4096)
  /-- RXR_COALESCE_TIMER (R523): COAL_US expires and the ring's vector is raised. -/
  | rxrCoalesceTimer (r : Fin 16)
  /-- TXR_TAIL_DOORBELL (R525): A write of NPT_TXR_TAIL queues transmit descriptors. -/
  | txrTailDoorbell (src : Requester) (r : Fin 16) (tail : Fin 4096) (frames : List TxFrame)
  /-- TX_FRAME_COMPLETE (R526): A control frame leaves and its LAST descriptor is written back. -/
  | txFrameComplete (p : Fin 32) (time : Nat)
  /-- PORT_DISABLE (R529): ENABLE cleared drains the port. -/
  | portDisable (src : Requester) (p : Fin 32)
  /-- PORT_DRAIN_DONE (R529): Queued frames sent or 1 ms elapsed; the link goes down. -/
  | portDrainDone (p : Fin 32)
  /-- PORT_KILL (R529): KILL stops the port at the next frame boundary. -/
  | portKill (src : Requester) (p : Fin 32)
  /-- RING_DISABLE (R529): A ring's EN cleared stops it and returns posted descriptors. -/
  | ringDisable (src : Requester) (rx : Bool) (r : Fin 16)
  /-- NPT_DISABLE (R529): Clearing NPT_CTRL.EN drains every port. -/
  | nptDisable (src : Requester) (kill : Bool)
  /-- HBM_PPR (R535): An HBM row gets soft repair or its page is retired. -/
  | hbmPpr (bank : Fin 65536) (row : Nat) (page : Fin 30720) (inUse : Bool)
  /-- UNIT_TEST (R537): RSL_UNIT_CTRL TEST starts an in-place check. -/
  | unitTest (src : Requester) (u : Fin 232)
  /-- UNIT_SWAP (R537): RSL_UNIT_CTRL SWAP copies a unit's state to a spare. -/
  | unitSwap (src : Requester) (u : Fin 232)
  /-- UNIT_RETEST (R537): RSL_UNIT_CTRL RETEST tests a retired carrier. -/
  | unitRetest (src : Requester) (u : Fin 232)
  /-- AUTO_TEST_TRIGGER (R538): An uncorrectable read, correction limit or self-check implicates a unit. -/
  | autoTestTrigger (u : Fin 232) (corr : Nat) (implicated : Bool)
  /-- INPLACE_CHECK_DONE (R537): An in-place check passes or fails. -/
  | inplaceCheckDone (u : Fin 232) (passed : Bool)
  /-- UNIT_SWAP_POINT (R537): At its class's swap point the unit moves to the spare. -/
  | unitSwapPoint (u : Fin 232)
  /-- SPARE_CHECK_FAIL (R537): The spare fails its check before the swap point. -/
  | spareCheckFail (u : Fin 232)
  /-- OFFLINE_TEST_DONE (R537): An offline test ends; the unit becomes spare or retired. -/
  | offlineTestDone (x : Fin 248) (passed : Bool)
  /-- AVS_STEP (R543): VDD_CORE moves one 5 mV step toward the lowest safe voltage. -/
  | avsStep (slack lower : Int)
  /-- CORE_AGEING_RECORD (R544): Daily VDD_CORE requirement recorded and days to 0.80 V predicted. -/
  | coreAgeingRecord (required : Fin 1024) (slack : Int)
  /-- MRAM_SCRUB (R545): The MRAM is scrubbed every INTERVAL hours and the interval adapted. -/
  | mramScrub (corrected : List Nat) (rows : List BadRow)
  /-- DRAIN_BOUND_EXPIRE (R548): A drain incomplete at its bound completes as a kill. -/
  | drainBoundExpire (target : DrainTarget)
  /-- PARTNER_SILENCE_TIMEOUT (R549): No frontier or link-control cell for LOSS: partner lost, cause SILENCE. -/
  | partnerSilenceTimeout
  /-- PARTNER_FENCED_NOTICE (R549): The partner announces it has fenced: partner lost, cause FENCED. -/
  | partnerFencedNotice
  /-- PARTNER_PROBE_TIMEOUT (R549): A probe after partner silence gets no answer within PROBE. -/
  | partnerProbeTimeout
  /-- PARTNER_PROBE_ANSWER (R551): The probe is answered; missing records are counted and ALERT_N asserted. -/
  | partnerProbeAnswer
  /-- PARTNER_RETURN (R552): A lost partner returns and reconciles or rejoins. -/
  | partnerReturn
  /-- SPARE_LOSS_NOTICE (R553): An armed spare receives a loss notice for a listed part. -/
  | spareLossNotice (id : Fin 1024)
  /-- SPARE_CLAIM_DELAY (R553): DELAY ms after the notice the spare sends its claim. -/
  | spareClaimDelay
  /-- SPARE_CLAIM_RECEIVE (R553): The survivor grants the first claim and refuses later ones. -/
  | spareClaimReceive (claimant id : Fin 1024)
  /-- SPARE_CLAIM_GRANT (R553): A grant arrives and the spare assumes the lost identity. -/
  | spareClaimGrant (survivor : Fin 1024) (st : Status)
  /-- SPARE_CLAIM_TIMEOUT (R553): No survivor answers in 100 ms; the claim fails with NO_PATH. -/
  | spareClaimTimeout
  /-- SPARE_ASSUME (R553): RSL_SPARE_CTRL.ASSUME makes a claim without a loss notice. -/
  | spareAssume (src : Requester) (id : Fin 1024)
  /-- SPARE_RELEASE (R554): RSL_SPARE_CTRL.RELEASE returns the spare to SPARE mode. -/
  | spareRelease (src : Requester)
  /-- FENCE_COMMAND (R542): RSL_FENCE_CTRL.FENCE fences the part at once. -/
  | fenceCommand (src : Requester)
  /-- REJOIN_COMMAND (R542): RSL_FENCE_CTRL.REJOIN in REJOIN_OK makes a fenced part rejoin. -/
  | rejoinCommand (src : Requester)
  /-- FENCE_REPAIR_DONE (R542): A fenced part's repair finishes and sets REJOIN_OK or PERMANENT. -/
  | fenceRepairDone (passed : Bool)
  /-- COUNTER_RECORD_WRITE (R568): Every 10 s operating seconds and power cycles are copied to MRAM. -/
  | counterRecordWrite
  /-- SNAPSHOT_AUTO (R577): INTERVAL seconds after the last start an automatic snapshot starts. -/
  | snapshotAuto
  /-- SNAPSHOT_DEMAND (R577): SET_CTRL.SNAP starts a snapshot on demand. -/
  | snapshotDemand (src : Requester)
  /-- SNAPSHOT_VERIFY_DONE (R576): A snapshot's read-back check ends; deltas freed or sectors retired. -/
  | snapshotVerifyDone (failing : List (Fin 256))
  /-- DEMAND_REFILL (R577): Every 86,400 operating seconds DEMAND_LEFT returns to DEMAND_MAX. -/
  | demandRefill
  /-- AWL_WINDOW_CLOSE (R584): An entry's 1 ms merge window closes and it becomes ready to write. -/
  | awlWindowClose
  /-- AWL_RECORD_WRITE (R586): The oldest staged entry is written to the medium with the next SEQ. -/
  | awlRecordWrite (ok : Bool)
  /-- AWL_FREEZE (R590): AWL_CTRL.FREEZE written 1 stops writes to the medium. -/
  | awlFreeze (src : Requester)
  /-- AWL_UNFREEZE (R590): FREEZE written 0 ends the freeze and staging drains. -/
  | awlUnfreeze (src : Requester)
  /-- AWL_FREEZE_EXPIRE (R590): FREEZE_MAX passes; the freeze ends and FREEZE_EXPIRED is staged. -/
  | awlFreezeExpire
  /-- AWL_READ_INDEX (R591): A write of AWL_RD_IDX starts latching one record. -/
  | awlReadIndex (src : Requester) (w : Word32)
  /-- AWL_READ_LATCH_DONE (R591): The record is latched and DONE sets. -/
  | awlReadLatchDone (torn : Bool)
  /-- AWL_CLEAR_GO (R592): AWL_CLR_CTRL.GO checks the HMAC and clears the log on a match. -/
  | awlClearGo (src : Requester) (match_ : Bool)
  /-- AWL_CLEAR_LOCKOUT_EXPIRE (R593): The 60 s lockout after three failures ends. -/
  | awlClearLockoutExpire
  /-- AWL_RETRY_MRAM (R594): RETRY_MRAM tests every MRAM log codeword. -/
  | awlRetryMram (src : Requester)
  /-- AWL_RETRY_MRAM_DONE (R594): The MRAM test ends and the Awl returns to MRAM when it passes. -/
  | awlRetryMramDone (passed : Bool)
  /-- POWER_FAIL_WARNING (R588): PORST_N falls or the supply monitor warns; counters and staged entries are written. -/
  | powerFailWarning (records : Nat)
  /-- UPD_HEADER (R604): A HEADER datagram is checked and takes the update lock. -/
  | updHeader (port : Fin 2) (session : BitVec 32) (layout : Bool) (h : ImgHeader)
  /-- UPD_DATA (R603): A DATA datagram is queued for programming at NEXT. -/
  | updData (port : Fin 2) (session : BitVec 32) (layout : Bool) (off : Nat) (len : Fin 1025)
  /-- UPD_DATA_PROGRAMMED (R603): Queued body bytes are programmed into the slot. -/
  | updDataProgrammed
  /-- UPD_END (R606): An END datagram requests completion of the body. -/
  | updEnd (port : Fin 2) (session : BitVec 32) (layout : Bool)
  /-- UPD_BODY_VERIFIED (R606): Read-back and digest complete; the slot becomes WRITTEN or invalid. -/
  | updBodyVerified (matches_ : Bool)
  /-- UPD_ABORT_DATAGRAM (R605): ABORT from the owner releases the lock. -/
  | updAbortDatagram (port : Fin 2) (session : BitVec 32) (layout : Bool)
  /-- UPD_QUERY (R605): QUERY is answered with the update state. -/
  | updQuery (port : Fin 2) (session : BitVec 32) (layout : Bool)
  /-- UPD_LOCK_IDLE_TIMEOUT (R605): 30 s without a datagram from the owner releases the lock. -/
  | updLockIdleTimeout
  /-- UPD_ACTIVATE (R609): UPD_CTRL.ACTIVATE puts a WRITTEN slot in TRIAL and warm-resets into it. -/
  | updActivate (src : Requester) (level : BitVec 16)
  /-- UPD_CONFIRM (R611): UPD_CTRL.CONFIRM makes the trial slot CONFIRMED and raises the floor. -/
  | updConfirm (src : Requester)
  /-- UPD_FALLBACK (R611): UPD_CTRL.FALLBACK rejects the trial and warm-resets into the confirmed slot. -/
  | updFallback (src : Requester)
  /-- UPD_CTRL_ABORT (R605): UPD_CTRL.ABORT releases the update lock. -/
  | updCtrlAbort (src : Requester)
  /-- UPD_CONFIRM_TIMEOUT (R611): CONFIRM_S passes without confirmation and the part falls back. -/
  | updConfirmTimeout
  /-- MICROCODE_LOAD (R613): The image's microcode is loaded into a block's inactive bank. -/
  | microcodeLoad (block : Fin 4) (good : Bool)
  /-- MICROCODE_SWAP (R613): At the block's swap point the microcode bank changes. -/
  | microcodeSwap (block : Fin 4)
  /-- PORST_FALL (R624): PORST_N falls and a cold reset begins. -/
  | porstFall (records : Nat)
  /-- PORST_RISE (R635): PORST_N rises; straps are sampled and cold boot starts. -/
  | porstRise (strap : Fin 1024) (sideB : Bool)
  /-- STBY_PG_RISE (R635): STBY_PG rises and Insole starts. -/
  | stbyPgRise
  /-- STBY_PG_FALL (R635): STBY_PG falls; retention contents are lost. -/
  | stbyPgFall (records : Nat)
  /-- WARM_RST_ASSERT (R624): WARM_RST_N falls and a warm reset of the control plane begins. -/
  | warmRstAssert
  /-- WARM_BOOT (R633): The warm reset ends and the control plane reboots and replays. -/
  | warmBoot (good converted : Bool) (data : BootData)
  /-- GLB_WARM_RESET (R624): Writing 0x5741_524D to GLB_CTRL requests a warm reset. -/
  | glbWarmReset (w : Word32)
  /-- WATCHDOG_KICK (R628): The management core services the watchdog. -/
  | watchdogKick (src : Requester) (w : Word32)
  /-- WATCHDOG_TIMEOUT (R628): A watchdog period passes without a kick and a warm reset follows. -/
  | watchdogTimeout
  /-- PCIE_HOT_RESET (R627): A PCIe hot reset, link-down or FLR resets the endpoint and closes queues. -/
  | pcieHotReset
  /-- PCIE_PERST (R648): PCIE_PERST_N low resets the endpoint as a link-down. -/
  | pciePerst
  /-- BOOT_ROM_DONE (R629): ROM ends; repairs applied, slot chosen, verification starts. -/
  | bootRomDone (retentionOk : Bool)
  /-- IMAGE_VERIFY_DONE (R629): The image is verified; boot code writes RWB registers and sets LOCK. -/
  | imageVerifyDone (good : Bool) (data : BootData)
  /-- HBM_TRAIN_DONE (R629): HBM training completes and BAR2 becomes usable. -/
  | hbmTrainDone (converted : Bool)
  /-- HBM_TRAIN_FAIL (R632): A stack fails training and the part stays in HBM_FAIL. -/
  | hbmTrainFail (stack : Fin 4)
  /-- STATE_RESTORE_DONE (R629): The state image is restored and rings are allocated. -/
  | stateRestoreDone (views : List (Fin 128 × TakeView))
  /-- LANES_READY (R629): Video and network lanes run and Lace bring-up starts. -/
  | lanesReady
  /-- REPLAY_PATH_TIMEOUT (R631): No Lace path to the partner within 10 s; the part replays alone. -/
  | replayPathTimeout
  /-- SPARE_EXIT (R635): Identity assumed or mode left: demand domains start and the part goes ACTIVE. -/
  | spareExit (assumed : Bool)
  /-- GLB_ROLE_WRITE (R32): A write of GLB_ROLE changes the part's Lace role. -/
  | glbRoleWrite (src : Requester) (w : Word32)
  /-- CLOCK_DOMAIN_REQUEST (R637): A block requests a demand clock domain. -/
  | clockDomainRequest (d : Fin 27)
  /-- PLL_LOCK (R638): A requested domain's PLL locks and the domain runs. -/
  | pllLock (d : Fin 27)
  /-- PLL_LOCK_TIMEOUT (R639): A PLL fails to lock within 200 µs and is retried or failed. -/
  | pllLockTimeout (d : Fin 27)
  /-- CLOCK_HOLD_EXPIRE (R638): HOLD ms after its last request the domain stops. -/
  | clockHoldExpire (d : Fin 27)
  /-- CLOCK_STOP_DONE (R638): A domain's 5 µs stop ends and waiting requests start it again. -/
  | clockStopDone (d : Fin 27)
  /-- THERMAL_ALARM (R641): The hottest sensor exceeds ALARM; TEMP and THERMAL set. -/
  | thermalAlarm (sensor : Fin 64) (t : BitVec 16)
  /-- THERMAL_TRIP (R641): At 125 °C the part makes power-fail writes and holds in cold reset. -/
  | thermalTrip (records : Nat)
  /-- THERMAL_RECOVER (R641): After a trip the sensor reads below 110 °C and the part boots. -/
  | thermalRecover (t : BitVec 16)
  /-- XTAL_FAIL (R644): XTAL32K stops for 1 ms and operating seconds move to the master clock. -/
  | xtalFail
  /-- PMBUS_POLL (R652): The telemetry poll period elapses and regulators are read. -/
  | pmbusPoll (rails : List (Option (BitVec 32)))
  /-- PORT_FAULT (R505): A local or remote fault, or a loss of alignment, on an enabled port takes its link down. -/
  | portFault (p : Fin 32) (loc rem : Bool)
  /-- OSC_HOLD_RETURN (R430): A failed OSC_HOLD runs correctly again, OSC_OK is set, and holdover and lane-clock qualification become possible again. -/
  | oscHoldReturn (synths : BitVec 5)
  /-- REFCLK_RETURN (R409): An invalid REFCLK becomes valid again while the network lanes run on the other REFCLK or on the master clock. -/
  | refclkReturn (b : Bool)
  /-- XTAL_RETURN (R644): XTAL32K runs again and operating seconds are counted from the crystal once more. -/
  | xtalReturn
  /-- PARTNER_COMPLETE_REPORT (R260): The partner reports a journal entry COMPLETE, setting the PARTNER bit that the freeing of the entry waits for. -/
  | partnerCompleteReport (key : Key)
  /-- PARTNER_PROBE_RECEIVE (R549): A part receives its partner's probe over CTRL cells and answers it. -/
  | partnerProbeReceive
  /-- MSIX_VECTOR_UNMASK (R622): The host unmasks an MSI-X vector through BAR4, and a vector raised while masked is sent. -/
  | msixVectorUnmask (v : Fin 256)
  deriving DecidableEq, Repr

end Sys2Proof
end

