-- ==== Sys2Proof/Decode.lean ====
section
/-! DEFINITION. The commands that words of the opcode table spell. -/

namespace Sys2Proof

/-- The command that a word spells by the table's bits. No row of the opcode table gives bits: its commands are
register accesses, instructions of a program, and events, none of them a coded word of one form. -/
def decodeTableWord (_nbits _w : Nat) : Option Instr := none

end Sys2Proof
end

