-- ==== Sys2Proof/Config.lean ====
section
/-! DEFINITION. What the spec leaves open or an implementation fixes: constants with no body, so that no proof
can see their values. -/

namespace Sys2Proof

/-- A fresh value where the spec states no result (log 2): the n-th free value the machine draws. Nothing
constrains it. -/
opaque Config.freeValue : Nat → BitVec 64

/-- The IEEE 802.3 wake time of a port's PHY in ns, by the rate code of the port (R516): the spec names it and does not
state it (log 23). -/
opaque Config.wakeTime : Nat → Nat

end Sys2Proof
end

