-- ==== Sys2Proof/Machine/State.lean ====
section
/-! DEFINITION. The state of the part as plain data, the reasons a step can stop, and the state after reset. -/

namespace Sys2Proof.Machine

/-- Why a command faults. No rule of the spec makes the block itself fault. -/
inductive Fault where
  /-- Raised by no command (safe): the type of faults needs a constructor to be plain data with a default. -/
  | unreachable
  deriving DecidableEq, Repr

/-- Why a command is refused by the model. -/
inductive Refusal where
  /-- Raised by exec for a command that has no meaning yet (safe). -/
  | notModelled (mnemonic : String)
  deriving DecidableEq, Repr

/-- The whole state of the part (R3 to R664), and the queue of commands that wait. -/
structure State where
  /-- The commands waiting, first in first out (the model's queue). -/
  pending : List Instr
  /-- Every register that differs from its reset value: by register, then by element. -/
  regs : Tbl (Tbl Word)
  /-- The status code the last access, command or instruction returned (Table 06.13). -/
  resp : Status
  /-- The data the last read returned. -/
  rdata : Word
  /-- The high words latched by reads of the low words of 64-bit registers (R138, R472), by 65,536 × register + element. -/
  latchHigh : Tbl Word
  /-- The low words written to 64-bit registers whose high words have not been written (R472), by the same key. -/
  latchLow : Tbl Word
  /-- How many free values have been drawn: the model's own counter (log 2). -/
  freeCtr : Nat
  /-- What the part has sent out, newest first: the model's record of its outputs. -/
  sent : List OutMsg
  /-- The Insole 32.768 kHz count since reset (R584). -/
  tick : Nat
  /-- The four time bases: counters of 2⁻¹⁶ ns since the PTP epoch (R6). -/
  tb : Tbl FineTime
  /-- Host interface: MSI-X, pins, ALERT_N. -/
  host : HostSide
  /-- The Awl recorder. -/
  awl : Awl
  /-- Ingress. -/
  ing : Ing
  /-- Twill. -/
  twl : Twl
  /-- The cores, the journal and the services. -/
  nim : Nim
  /-- Takes. -/
  tks : Tks
  /-- Egress. -/
  egr : Egr
  /-- Tweed. -/
  twd : Twd
  /-- The serial audio sections: transmit 0 to 15, receive 16 to 31. -/
  asp : Tbl AspSect
  /-- Vamp. -/
  vmp : Vmp
  /-- Last. -/
  lst : Lst
  /-- Network time. -/
  ntm : Ntm
  /-- The serial lanes and the network ports. -/
  net : Net
  /-- Faults, spares and ageing. -/
  rsl : Rsl
  /-- The settings store. -/
  keep : Store
  /-- Field update. -/
  upd : Upd
  /-- Boot and power. -/
  boot : Boot
  /-- The usable frame store by BAR2 offset (R618): what the host has written; the pictures of rings are held as
  descriptors (log 5). -/
  frameStore : Tbl Byte
  /-- The facility flow directory, by flow identifier (R122). -/
  dir : Tbl Word128
  deriving DecidableEq, Repr

/-- The state right after a cold reset, with the queue empty: every register at its reset value. -/
def State.reset : State where
  pending := []
  regs := []
  resp := .OK
  rdata := 0
  latchHigh := []
  latchLow := []
  freeCtr := 0
  sent := []
  tick := 0
  tb := []
  host := default
  awl := default
  ing := default
  twl := default
  nim := default
  tks := default
  egr := default
  twd := default
  asp := []
  vmp := default
  lst := default
  ntm := default
  net := default
  rsl := default
  keep := default
  upd := { (default : Upd) with slotA := { (default : ImgSlot) with state := .confirmed } }
  boot := default
  frameStore := []
  dir := []

end Sys2Proof.Machine
end

