-- ==== Sys2Proof/Machine/Ops.lean ====
section
/-! DEFINITION. The named operations over the state: registers and their fields, counters, answers, free
values, messages, and the per-input tables. -/

namespace Sys2Proof.Machine

/-! ### Registers -/

/-- The value of element i of a register. -/
def State.reg (s : State) (r : Reg) (i : Nat) : Word :=
  Tbl.get r.reset (Tbl.get (fun _ => []) s.regs r.ctorIdx) i

/-- What a register holds of a word: a register is 32 bits wide unless its map states 64 (R3). -/
def Reg.fit (r : Reg) (v : Word) : Word := if r.info.wide then v else low32 v

/-- Set element i of a register. -/
def State.setReg (s : State) (r : Reg) (i : Nat) (v : Word) : State :=
  let row := Tbl.set r.reset i (r.fit v) (Tbl.get (fun _ => []) s.regs r.ctorIdx)
  { s with regs := Tbl.set (fun _ => []) r.ctorIdx row s.regs }

/-- A field of element i of its register, as a number. -/
def State.fld (s : State) (f : Fld) (i : Nat) : Nat := bits f.lo f.len (s.reg f.reg i)

/-- Whether a one-bit field is set. -/
def State.flag (s : State) (f : Fld) (i : Nat) : Bool := s.fld f i != 0

/-- Set a field of element i of its register. -/
def State.setFld (s : State) (f : Fld) (i : Nat) (v : Nat) : State :=
  s.setReg f.reg i (insertBits f.lo f.len v (s.reg f.reg i))

/-- Set or clear a one-bit field. -/
def State.setFlag (s : State) (f : Fld) (i : Nat) (b : Bool) : State := s.setFld f i (if b then 1 else 0)

/-- Count n in a register: 32-bit counters saturate at 0xFFFF_FFFF, 64-bit counters do not run out (R557). -/
def State.count (s : State) (r : Reg) (i : Nat) (n : Nat) : State :=
  s.setReg r i (BitVec.ofNat 64
    (if r.info.wide then (s.reg r i).toNat + n else satTo 32 ((s.reg r i).toNat + n)))

/-! ### Answers, messages, free values -/

/-- Return a status code to the requester. -/
def State.answer (s : State) (st : Status) : State := { s with resp := st }

/-- Record a message that leaves the part. -/
def State.emit (s : State) (m : OutMsg) : State := { s with sent := m :: s.sent }

/-- The next free value (log 2). -/
def State.free (s : State) : Word := Config.freeValue s.freeCtr

/-- Draw the next free value. -/
def State.drawFree (s : State) : State := { s with freeCtr := s.freeCtr + 1 }

/-! ### Time -/

/-- The current time of a time base (R6). -/
def State.tbNow (s : State) (k : Nat) : FineTime := Tbl.get (fun _ => 0) s.tb k

/-- Whether a time base is RUNNING (R442). -/
def State.tbRunning (s : State) (k : Nat) : Bool := s.flag F.NTM_TB_STAT_RUNNING k

/-- The time base of an output timing domain (R185). -/
def State.otdTb (s : State) (d : Nat) : Nat := s.fld F.EGR_OTD_CFG_TB d

/-- The format code of an output timing domain (R185). -/
def State.otdFormat (s : State) (d : Nat) : Nat := s.fld F.EGR_OTD_CFG_FORMAT d

/-- Whether an output timing domain is enabled. -/
def State.otdEnabled (s : State) (d : Nat) : Bool := s.flag F.EGR_OTD_CFG_ENABLE d

/-! ### Clock domains (R639) -/

/-- Whether a clock domain has failed to lock, so that its consumers' enables return NOT_READY (R639). -/
def State.domainFailed (s : State) (d : Nat) : Bool := bit d (s.reg .INS_PLL_FAIL 0)

/-! ### The per-object records -/

/-- The record of an input. -/
def State.input (s : State) (n : Nat) : Input := Tbl.get (fun _ => default) s.ing.inputs n

/-- Set the record of an input. -/
def State.setInput (s : State) (n : Nat) (x : Input) : State :=
  { s with ing := { s.ing with inputs := Tbl.set (fun _ => default) n x s.ing.inputs } }

/-! ### The facility flow directory (Table 03.8) -/

/-- The directory entry of a flow. -/
def State.dirEntry (s : State) (flow : Nat) : Word128 := Tbl.get (fun _ => 0) s.dir flow

/-- Set the directory entry of a flow. -/
def State.setDir (s : State) (flow : Nat) (e : Word128) : State :=
  { s with dir := Tbl.set (fun _ => 0) flow e s.dir }

/-- A field of a directory entry. -/
def dirBits (e : Word128) (lo len : Nat) : Nat := (e.toNat >>> lo) % 2 ^ len

/-- VALID of a directory entry. -/
def dirValid (e : Word128) : Bool := e.getLsbD 127

/-- TWO of a directory entry: the flow has two ST 2022-7 legs. -/
def dirTwo (e : Word128) : Bool := e.getLsbD 22

/-- KIND of a directory entry. -/
def dirKind (e : Word128) : Nat := dirBits e 122 3

/-- ORIGIN of a directory entry. -/
def dirOrigin (e : Word128) : Nat := dirBits e 103 19

/-- Whether a flow has two legs: its entry is valid with TWO set (R123). -/
def State.twoLeg (s : State) (flow : Nat) : Bool := dirValid (s.dirEntry flow) && dirTwo (s.dirEntry flow)

/-- Whether an identifier is a leg B identifier: odd, with TWO set (R123). -/
def State.isLegB (s : State) (flow : Nat) : Bool := flow % 2 == 1 && s.twoLeg flow

end Sys2Proof.Machine
end

