-- ==== Sys2Proof/Machine/Flags.lean ====
section
/-! DEFINITION. Interrupt causes, block summaries and MSI-X vectors (R622), ALERT_N (R623), and the staging of Awl
events (R583 to R585). -/

namespace Sys2Proof.Machine

/-! ### Vectors and summaries -/

/-- Raise an MSI-X vector: sent when its entry is unmasked, otherwise held in the pending-bit array (R622). -/
def State.raiseVector (s : State) (v : Nat) : State :=
  if (Tbl.get (fun _ => default) s.host.msix v).open_ then s.emit (.msix v)
  else { s with host := { s.host with pba := Tbl.set (fun _ => false) v true s.host.pba } }

/-- Whether INT_STAT AND INT_EN of a block is non-zero (R622). -/
def State.summary (s : State) (b : Blk) : Bool :=
  match b.intStat, b.intEn with
  | some st, some en => s.reg st 0 &&& s.reg en 0 != 0
  | _, _ => false

/-- Raise the vector of a block when GLB_INT_VEC enables it (R622). -/
def State.raiseBlock (s : State) (b : Blk) : State :=
  if s.flag F.GLB_INT_VEC_EN b.index then s.raiseVector (s.fld F.GLB_INT_VEC_VECTOR b.index) else s

/-- Show the block's summary in GLB_INT_SUM, and raise the vector when the summary has become pending; `was` is
the summary before (R622). -/
def State.refreshSum (s : State) (b : Blk) (was : Bool) : State :=
  let now := s.summary b
  let s := s.setFld ⟨.GLB_INT_SUM, b.index, 1⟩ 0 (if now then 1 else 0)
  if now && !was then s.raiseBlock b else s

/-- Set an interrupt cause. A cause set while its bit is already set raises nothing (R622). -/
def State.irq (s : State) (c : Irq) : State :=
  match c.blk.intStat with
  | none => s
  | some st => if bit c.bit (s.reg st 0) then s
    else (s.setFld ⟨st, c.bit, 1⟩ 0 1).refreshSum c.blk (s.summary c.blk)

/-- A W1C write of a block's INT_STAT: the written bits clear, and the vector is raised again when an enabled
bit stays set (R622). -/
def State.clearStat (s : State) (b : Blk) (v : Word) : State :=
  match b.intStat with
  | none => s
  | some st =>
    let s := s.setReg st 0 (s.reg st 0 &&& ~~~v)
    let s := s.refreshSum b true
    if s.summary b then s.raiseBlock b else s

/-- A write of a block's INT_EN (R622). -/
def State.writeEn (s : State) (b : Blk) (v : Word) : State :=
  match b.intEn with
  | none => s
  | some en => (s.setReg en 0 (v &&& BitVec.ofNat 64 en.info.mask)).refreshSum b (s.summary b)

/-- Unmask or mask an MSI-X vector; a vector raised while masked is sent when it is unmasked (R622). -/
def State.setMask (s : State) (v : Nat) (masked : Bool) : State :=
  let e := Tbl.get (fun _ => default) s.host.msix v
  let s := { s with host := { s.host with msix := Tbl.set (fun _ => default) v { e with open_ := !masked } s.host.msix } }
  if !masked && Tbl.get (fun _ => false) s.host.pba v then
    ({ s with host := { s.host with pba := Tbl.set (fun _ => false) v false s.host.pba } }).emit (.msix v)
  else s

/-- Record a wake source: its bit in INS_WAKE_SRC and its code in INS_STATE (R635, Table 18.13). -/
def State.wake (s : State) (src : Nat) : State :=
  ((s.setFlag ⟨.INS_WAKE_SRC, src, 1⟩ 0 true).setFld F.INS_STATE_WAKE 0 src).irq Irq.INS_WAKE

/-- The wake sources (Table 18.13). -/
def wakePorst : Nat := 0
def wakePort : Nat := 1
def wakeAssume : Nat := 2
def wakeMode : Nat := 3
def wakeStby : Nat := 4

/-! ### ALERT_N -/

/-- Drive ALERT_N: low while GLB_ALERT_STAT AND GLB_ALERT_EN is non-zero, and GLB_INT_STAT.ALERT is set while it
is low (R623). -/
def State.refreshAlert (s : State) : State :=
  let low := s.reg .GLB_ALERT_STAT 0 &&& s.reg .GLB_ALERT_EN 0 != 0
  let s := { s with host := { s.host with alertLow := low } }
  if low then s.irq Irq.GLB_ALERT else s

/-- Assert an ALERT_N cause by its bit in GLB_ALERT_STAT (R623, Table 18.3). -/
def State.alert (s : State) (b : Nat) : State := (s.setFld ⟨.GLB_ALERT_STAT, b, 1⟩ 0 1).refreshAlert

/-- The bits of GLB_ALERT_STAT (Table 18.3). -/
def alertPartnerLost : Nat := 0
def alertDiverged : Nat := 1
def alertXchkMiss : Nat := 2
def alertCoreMargin : Nat := 3
def alertAwlFull : Nat := 4
def alertMediaFail : Nat := 5
def alertDegraded : Nat := 6
def alertFenced : Nat := 7
def alertBoot : Nat := 8
def alertThermal : Nat := 9

/-! ### Awl events -/

/-- SRC of a block: bits 27:20 of its BAR0 offset (Table 16.8). -/
def Blk.src (b : Blk) : Nat := b.base / 2 ^ 20 % 256

/-- The severities of Table 16.9. -/
inductive Severity where
  | info | warning | error | alarm
  deriving DecidableEq, Repr, Inhabited

/-- The number of a severity. -/
def Severity.num : Severity → Nat
  | .info => 0 | .warning => 1 | .error => 2 | .alarm => 3

/-- Show the staging entries in use (Table 16.15, INS_RET_STAT). -/
def State.showStaged (s : State) : State :=
  (s.setFld F.AWL_STATUS_STAGED 0 s.awl.staged.length).setFld F.INS_RET_STAT_STAGED 0 s.awl.staged.length

/-- Merge an event into the first staged entry that it is identical to, whose 1 ms window is open and whose
REPEAT has room; none when there is no such entry (R584). -/
def mergeInto (code src arg : Nat) : List Staged → Option (List Staged)
  | [] => none
  | e :: es =>
    if e.code = code ∧ e.src = src ∧ e.arg = arg ∧ e.window = true ∧ e.rep < 255 then
      some ({ e with rep := e.rep + 1 } :: es)
    else (mergeInto code src arg es).map (e :: ·)

/-- Stage an event (R584, R585): merged, or a new entry, or lost when all 256 entries are in use. -/
def State.stage (s : State) (src code arg : Nat) : State :=
  match mergeInto code src arg s.awl.staged with
  | some q => ({ s with awl := { s.awl with staged := q } }).count .AWL_MERGED 0 1
  | none =>
    if s.awl.staged.length < 256 then
      let e : Staged := ⟨s.tick % 2 ^ 32, code, src, 1, arg, if s.tbRunning 0 then nimTime (s.tbNow 0) else 0,
        s.fld F.INS_OPSEC_SEC 0, true, false⟩
      ({ s with awl := { s.awl with staged := s.awl.staged ++ [e] } }).showStaged
    else (({ s with awl := { s.awl with lost := s.awl.lost + 1 } }).count .AWL_LOST 0 1).irq Irq.AWL_LOST

/-- ARG of an event: the object index in bits 31:16 and the detail in bits 15:0 (Table 16.8). -/
def awlArg (obj detail : Nat) : Nat := obj % 65536 * 65536 + detail % 65536

/-- Stage a persistence event (Table 16.9, 13:8 = 0x00). -/
def State.awlPersist (s : State) (b : Blk) (sev : Severity) (ev arg : Nat) : State :=
  s.stage b.src (sev.num * 2 ^ 14 + ev) arg

/-- Stage the cause record of an interrupt cause (Table 16.9, 13:8 = 0x01): alarm when the event also sets a bit
of GLB_ALERT_STAT, otherwise warning. -/
def State.awlCause (s : State) (c : Irq) (alarm : Bool) (obj detail : Nat) : State :=
  s.stage c.blk.src ((if alarm then 3 else 1) * 2 ^ 14 + 2 ^ 8 + c.bit) (awlArg obj detail)

/-- Stage a state entry (Table 16.9, 13:8 = 0x02): bits 7:0 the new value of the object's STATE field. -/
def State.awlState (s : State) (b : Blk) (sev : Severity) (st obj detail : Nat) : State :=
  s.stage b.src (sev.num * 2 ^ 14 + 2 * 2 ^ 8 + st) (awlArg obj detail)

/-- Stage a fabric event (Table 16.9, 13:8 = 0x03); ARG splits the flow identifier as R583 says. -/
def State.awlFabric (s : State) (ev flow obj : Nat) : State :=
  s.stage Blk.TWL.src (2 * 2 ^ 14 + 3 * 2 ^ 8 + ev) (awlArg (flow / 65536 * 8192 + obj % 8192) (flow % 65536))

/-- Stage a record whose rule states no CODE for it: the code is a free value. -/
def State.awlUnstated (s : State) (b : Blk) (arg : Nat) : State := (s.drawFree).stage b.src (s.free.toNat % 65536) arg

/-- Set a cause, assert its ALERT_N bit, and stage its record as an alarm. -/
def State.alarm (s : State) (c : Irq) (bit_ obj detail : Nat) : State :=
  ((s.irq c).alert bit_).awlCause c true obj detail

/-- Set a cause and stage its record. -/
def State.event (s : State) (c : Irq) (obj detail : Nat) : State := (s.irq c).awlCause c false obj detail

end Sys2Proof.Machine
end

