-- ==== Sys2Proof/Machine/Access.lean ====
section
/-! DEFINITION. What every register write passes: the closure to PCIe writes (R663), the access code (R5) and the
reserved bits (R4). -/

namespace Sys2Proof.Machine

/-- Whether a register of access RW, WO or W1C accepts PCIe writes (R35, R135, R193, R280, R340, R376, R402, R437,
R470, R499, R528, R559, R598, R600, R615, R642, R644, R663). -/
def Reg.hostOpen (r : Reg) : Bool :=
  r.info.blk.intStat == some r || r.info.blk.intEn == some r ||
  match r.info.blk with
  | .GLB => r != .GLB_ROLE
  | .BOOT => true
  | .NIM => [Reg.NIM_CTRL, .NIM_SQ_BASE, .NIM_CQ_BASE, .NIM_Q_CFG, .NIM_SQ_TAIL, .NIM_CQ_HEAD].contains r
  | .TWD => r == .TWD_CORE_FLAGS
  | .VMP => r == .VMP_SURF_GEN
  | .NTM => r == .NTM_SRV_FEED
  | .NPT => [Reg.NPT_RXR_BASE, .NPT_RXR_CFG, .NPT_RXR_TAIL, .NPT_TXR_BASE, .NPT_TXR_CFG, .NPT_TXR_TAIL].contains r
  | .RSL => r == .RSL_FENCE_CTRL
  | .AWL => r != .AWL_CFG
  | .SET => r == .SET_CTRL
  | .UPD => r == .UPD_CTRL
  | _ => false

/-- The HOST_WR cause of a block that closes registers to PCIe writes. -/
def Blk.hostWr : Blk → Option Irq
  | .TWL => some Irq.TWL_HOST_WR | .ING => some Irq.ING_HOST_WR | .EGR => some Irq.EGR_HOST_WR
  | .NIM => some Irq.NIM_HOST_WR | .TWD => some Irq.TWD_HOST_WR | .ASP => some Irq.ASP_HOST_WR
  | .VMP => some Irq.VMP_HOST_WR | .LST => some Irq.LST_HOST_WR | .NTM => some Irq.NTM_HOST_WR
  | .WLT => some Irq.WLT_HOST_WR | .NPT => some Irq.NPT_HOST_WR | .RSL => some Irq.RSL_HOST_WR
  | .AWL => some Irq.AWL_HOST_WR | .SET => some Irq.SET_HOST_WR | .UPD => some Irq.UPD_HOST_WR
  | .INS => some Irq.INS_HOST_WR | .GLB => none | .BOOT => none

/-- Discard a PCIe write under a closure: the block's HOST_WR is set (R663); for GLB_ROLE and RWB registers
GLB_INT_STAT.PCIE_ERR is set and GLB_PCIE_ERR counts (R630, R642). -/
def State.discardHost (s : State) (b : Blk) : State :=
  match b.hostWr with
  | some c => s.irq c
  | none => (s.irq Irq.GLB_PCIE_ERR).count .GLB_PCIE_ERR 0 1

/-- Whether a write is discarded because its register is closed to the requester: a PCIe write under R663, and any
write to an RWB register but boot code's while LOCK is clear (R630). -/
def State.closedTo (s : State) (r : Reg) (src : Requester) : Bool :=
  match r.info.acc with
  | .RWB => !(src == .boot && !s.flag F.BOOT_PROT_LOCK 0)
  | .RW | .WO | .W1C => src == .pcie && !r.hostOpen
  | _ => false

/-- Carry out a write unless its register is closed to the requester (R663, R630). -/
def State.guarded (s : State) (r : Reg) (src : Requester) (k : State → State) : State :=
  if s.closedTo r src then
    if src == .pcie then s.discardHost (if r.info.acc = .RWB then .GLB else r.info.blk) else s
  else k s

/-- Answer a refusal: the status is returned and nothing changes. -/
def State.refuse (s : State) (st : Status) : State := s.answer st

/-- Store a written word: the RW bits take the written value, the others keep theirs (R4). -/
def State.store (s : State) (r : Reg) (i : Nat) (v : Word) : State :=
  let m := BitVec.ofNat 64 r.info.mask
  (s.setReg r i ((s.reg r i &&& ~~~m) ||| (v &&& m))).answer .OK

/-- A field of a word that is being written. -/
def Fld.of (f : Fld) (v : Word) : Nat := bits f.lo f.len v

/-- A one-bit field of a word that is being written. -/
def Fld.on (f : Fld) (v : Word) : Bool := f.of v != 0

/-- A word with a field replaced. -/
def Fld.put (f : Fld) (x : Nat) (v : Word) : Word := insertBits f.lo f.len x v

end Sys2Proof.Machine
end

