-- ==== Sys2Proof/Machine/Placing.lean ====
section
/-! DEFINITION. The placed runs of Tweed's input channels (chapter 08, R331 and R332), which other blocks' writes must
respect. -/

namespace Sys2Proof.Machine

/-- The value that a register will have when its pending writes apply (R341). -/
def State.effReg (s : State) (r : Reg) (i : Nat) : Word :=
  s.twd.cores.foldl (fun (a : Word) e => e.2.pend.foldl (fun (a : Word) w => if w.1 = r ∧ w.2.1 = i then w.2.2 else a) a) (s.reg r i)

/-- The run length of source k (Table 08.5), with the format of an audio context and the rate of an ASP section given. -/
def placeLen (k : Nat) (afl aspFmt : Word) : Nat :=
  if k < 128 then 32
  else if k < 1152 then F.ING_AFL_FMT_CHANNELS.of afl * (if F.ING_AFL_FMT_RATE.on afl then 2 else 1)
  else if k < 1168 then (if F.ASP_RX_FMT_RATE.on aspFmt then 32 else 16)
  else 64

/-- The run length of source k. -/
def State.placeLen (s : State) (k : Nat) : Nat :=
  Machine.placeLen k (s.reg .ING_AFL_FMT (k - 128)) (s.reg .ASP_RX_FMT (k - 1152))

/-- Whether a run of source k crosses a core. -/
def crossesCore (base len : Nat) : Bool := decide (1024 < base % 1024 + len)

/-- Whether a run of source k would overlap another valid run. -/
def State.placeOverlaps (s : State) (k base len : Nat) : Bool :=
  (List.range 1184).any fun j =>
    let v := s.effReg .TWD_PLACE j
    let b := F.TWD_PLACE_BASE.of v
    j != k && F.TWD_PLACE_VALID.on v && decide (b < base + len ∧ base < b + s.placeLen j)

/-- Whether a longer run of source k, if it is placed, breaks R332. -/
def State.placedTooLong (s : State) (k len : Nat) : Bool :=
  let v := s.effReg .TWD_PLACE k
  let b := F.TWD_PLACE_BASE.of v
  F.TWD_PLACE_VALID.on v && (crossesCore b len || s.placeOverlaps k b len)

end Sys2Proof.Machine
end

