-- ==== Sys2Proof/Machine/Ingress.lean ====
section
/-! DEFINITION. Getting signals in: SDI reception, packet inputs, frame synchronisers, ring allocation and the ING_
configuration writes (chapter 02, R34 to R89 and R664). -/

namespace Sys2Proof.Machine

/-! ### Rings and the frame-store budget (R21, R61, R83, R84, R664) -/

/-- The path differential bound of an input in µs: PD_MAX when its video flow has two legs, otherwise 0 (R52). -/
def State.inputPd (s : State) (n : Nat) : Nat :=
  if n < 128 then 0
  else if s.flag F.ING_PKT_VID_VALID (n - 128) && s.twoLeg (s.fld F.ING_PKT_VID_FLOW (n - 128)) then
    s.fld F.ING_PKT_PD_PD_MAX (n - 128)
  else 0

/-- RING_FRAMES of R61: 3 + ceil(PD / T) + DELAY_FRAMES, with PD in µs. -/
def ringFrames (f : Form) (pd delay : Nat) : Nat :=
  3 + (if rateDen f.code * 1000000 = 0 then 0 else ceilDiv (pd * rateNum f.code) (rateDen f.code * 1000000)) + delay

/-- The allocation format before the first decision: FMT_EXPECT when it is not 0x00, otherwise the domain's
format, at 4:2:2 10-bit (R664). -/
def State.allocForm (s : State) (cfg : Word) : Form :=
  Form.sdi (if F.ING_IN_CFG_FMT_EXPECT.of cfg ≠ 0 then F.ING_IN_CFG_FMT_EXPECT.of cfg
    else s.otdFormat (F.ING_IN_CFG_OTD.of cfg))

/-- The frame-store load admitted: rings and pipes (R21), in 10 kB/s. -/
def State.storeLoad (s : State) : Nat :=
  s.ing.inputs.foldl (fun a e => a + e.2.load) 0 + s.fld F.VMP_BUDGET_GBS 0 * 100000

/-- Give input n a ring of some frames of a form and its stream, or none when the pool or the budget cannot
supply them; both checks are made before any state changes (R84). -/
def State.resizeRing (s : State) (n frames pages load : Nat) : Option State :=
  let x := s.input n
  let used := (s.reg .ING_POOL_USED 0).toNat
  let rest := used - s.fld F.ING_IN_ALLOC_PAGES n
  let pool := (s.reg .ING_POOL_PAGES 0).toNat
  if rest + pages ≤ pool ∧ (s.storeLoad - x.load + load ≤ storeBudget ∨ load ≤ x.load) then
    let s := s.setReg .ING_IN_ALLOC n (BitVec.ofNat 64 (frames % 2048 * 2 ^ 21 + pages))
    let s := s.setReg .ING_POOL_USED 0 (BitVec.ofNat 64 (rest + pages))
    let s := s.setInput n { x with load := load }
    let low := (s.reg .ING_POOL_LOW 0).toNat
    some (if pool - (rest + pages) < low ∧ low ≤ pool - used then s.irq Irq.ING_POOL_LOW else s)
  else none

/-- Free the ring and the stream of input n. -/
def State.freeRing (s : State) (n : Nat) : State :=
  let used := (s.reg .ING_POOL_USED 0).toNat
  let s := s.setReg .ING_POOL_USED 0 (BitVec.ofNat 64 (used - s.fld F.ING_IN_ALLOC_PAGES n))
  let s := s.setReg .ING_IN_ALLOC n 0
  s.setInput n { s.input n with load := 0, pendFree := false }

/-- Give input n the ring of a form at once where it grows, and leave a smaller one to the next boundary
(R55, R68, R664). -/
def State.growRing (s : State) (n frames : Nat) (f : Form) : Option State :=
  let pages := frames * f.pages
  let cur := s.fld F.ING_IN_ALLOC_PAGES n
  let x := s.input n
  if pages < cur ∨ f.load < x.load then
    match s.resizeRing n (if pages < cur then s.fld F.ING_IN_ALLOC_RING_FRAMES n else frames)
        (max pages cur) (max f.load x.load) with
    | some s => some (s.setInput n { s.input n with alloc := f, pendRing := some (frames, f) })
    | none => none
  else match s.resizeRing n frames pages f.load with
    | some s => some (s.setInput n { s.input n with alloc := f, pendRing := none })
    | none => none

/-! ### Input states and loss (R73 to R81) -/

/-- The states of ING_IN_STAT.STATE (R88). -/
def inOff : Nat := 0
def inAcquiring : Nat := 1
def inLocked : Nat := 2
def inRepeat : Nat := 3
def inBlack : Nat := 4
def inDraining : Nat := 5

/-- ING_IN_STAT.STATE of input n. -/
def State.inState (s : State) (n : Nat) : Nat := s.fld F.ING_IN_STAT_STATE n

/-- Enter a state: STATE and the input's bit in ING_LOSS_SUM, which shows REPEAT and BLACK (R78). -/
def State.setInState (s : State) (n st : Nat) : State :=
  (s.setFld F.ING_IN_STAT_STATE n st).setFld ⟨.ING_LOSS_SUM, n % 32, 1⟩ (n / 32)
    (if st = inRepeat ∨ st = inBlack then 1 else 0)

/-- Note an entry to REPEAT, or to BLACK directly from LOCKED: IN_LOSS and ING_IN_LOSSCNT (R78). -/
def State.noteLoss (s : State) (n : Nat) : State := (s.irq Irq.ING_IN_LOSS).count .ING_IN_LOSSCNT n 1

/-- Enter REPEAT with REPEAT_LEFT = REPEAT_COUNT − 1 and its Awl record (Table 02.5, R78). -/
def State.enterRepeat (s : State) (n : Nat) : State :=
  let s := (s.setInState n inRepeat).setFld F.ING_IN_STAT_REPEAT_LEFT n (s.fld F.ING_IN_SYNC_REPEAT_COUNT n - 1)
  s.noteLoss n |>.awlState .ING .warning inRepeat n (s.fld F.ING_IN_STAT_REASON n)

/-- Enter BLACK and its Awl record; from LOCKED it is a loss of its own (R75, R78, R81). -/
def State.enterBlack (s : State) (n : Nat) : State :=
  let s' := if s.inState n = inLocked then s.noteLoss n else s
  let s' := (s'.setInState n inBlack).setInput n { s'.input n with shows := .black }
  s'.awlState .ING .error inBlack n (s.fld F.ING_IN_STAT_REASON n)

/-- Return to LOCKED: IN_RETURN and its Awl record (R77, R78). -/
def State.enterReturn (s : State) (n : Nat) : State :=
  (s.setInState n inLocked).irq Irq.ING_IN_RETURN |>.awlState .ING .info inLocked n 0

/-- Whether an input is enabled and not draining. -/
def State.inLive (s : State) (n : Nat) : Bool := s.inState n != inOff && s.inState n != inDraining

/-- Lose an input: REASON is recorded, the frame being written is bad, audio is flagged invalid while `lost` holds
(R73, R74, R76); a DIRECT input goes to BLACK at once (R81). -/
def State.loseInput (s : State) (n reason : Nat) : State :=
  if s.inLive n then
    let x := s.input n
    let s := (s.setFld F.ING_IN_STAT_REASON n reason).setInput n { x with lost := true, bad := true }
    if x.direct && s.inState n == inLocked then s.enterBlack n else s
  else s

/-- Whether a format breaks the DIRECT limit: PD longer than 4 lines of the format (R71). -/
def breaksDirect (code pd : Nat) : Bool := decide (4 < nsToLines code (pd * 1000))

/-- A format decision: the receiver shows the form, and accepts it when it is supported, fits the domain, matches
FMT_EXPECT under FMT_LOCK and keeps the DIRECT limit; its ring is sized under R664 (R40, R65, R66, R71, R73, R77). -/
def State.decideFormat (s : State) (n : Nat) (f : Form) : State :=
  let s := (s.setFld F.ING_IN_FMT_FORMAT n f.code).setFld F.ING_IN_FMT_SAMPLING n f.sampling
    |>.setFld F.ING_IN_FMT_DEPTH n f.depth
  let x := s.input n
  let dom := s.otdFormat x.dom
  let brk := x.direct && breaksDirect f.code (s.inputPd n)
  if !fmtAccepted f.code || !fitsDomain f.code dom || brk ||
      (s.flag F.ING_IN_CFG_FMT_LOCK n && s.fld F.ING_IN_CFG_FMT_EXPECT n != f.code) then
    (s.setInput n { x with fits := false, pdBreak := brk }).loseInput n 3
  else
    let grown := if x.direct then some s
      else s.growRing n (ringFrames f (s.inputPd n) (s.fld F.ING_IN_SYNC_DELAY_FRAMES n)) f
    match grown with
    | none => (s.setInput n { x with fits := false }).loseInput n 4
    | some s =>
      let x := s.input n
      let s := s.setInput n { x with fits := true, lost := false, bad := true, badCounted := true, alloc := f, pdBreak := false }
      let s := s.setFlag F.ING_IN_STAT_DOUBLE n (doubleRate f.code dom)
      if s.inState n = inAcquiring then
        (s.setInState n inLocked).setInput n { s.input n with waiting := true }
      else s

/-! ### SDI reception (R36 to R46) -/

/-- The input that a video lane feeds: lane VL4k + j feeds bonded input 4k while BOND is set (R41). -/
def State.laneInput (s : State) (lane : Nat) : Nat :=
  if s.flag F.ING_SDI_CFG_BOND (lane / 4 * 4) then lane / 4 * 4 else lane

/-- A dwell of 200 µs ends without lock: the next rate code, 0x9 down to 0x1 and round again, or the forced one
(R38). -/
def State.huntNext (s : State) (n : Nat) : State :=
  let x := s.input n
  let forced := s.fld F.ING_SDI_CFG_RATE_FORCE n
  s.setInput n { x with hunt := if forced ≠ 0 then forced else if x.hunt ≤ 1 then 9 else x.hunt - 1 }

/-- SDI_RATE_HUNT_DWELL (R38): only an enabled receiver without lock hunts. -/
def execSdiRateHuntDwell (n : Fin 128) (s : State) : Host.Outcome State Fault Refusal :=
  .next (if s.inLive (s.laneInput n) && !(s.input n).lock then s.huntNext n else s)

/-- The receiver side of lock: ING_SDI_RATE shows the code and the measurements start again (R38, R39). -/
def State.receiverLock (s : State) (n rate : Nat) : State :=
  let x := s.input n
  (s.setReg .ING_SDI_RATE n (BitVec.ofNat 64 rate)).setInput n
    { x with lock := true, hadRate := rate, hunt := rate, meas := none }

/-- The receiver side of a loss of lock of any length: no rate is shown, and the frame being written is bad (R38, R74). -/
def State.receiverUnlock (s : State) (n : Nat) : State :=
  let x := s.input n
  (s.setReg .ING_SDI_RATE n 0).setInput n { x with lock := false, hunt := x.hadRate, meas := none, bad := true }

/-- SDI_LOCK_LOSS_TIMEOUT (R38, R73): the loss passes 100 µs; the input is lost with reason LOCK and the hunt starts. -/
def execSdiLockLossTimeout (n : Fin 128) (s : State) : Host.Outcome State Fault Refusal :=
  let s := s.receiverUnlock n
  let s := s.loseInput (s.laneInput n) 1
  let hunt := if s.fld F.ING_SDI_CFG_RATE_FORCE n ≠ 0 then s.fld F.ING_SDI_CFG_RATE_FORCE n else 9
  .next (s.setInput n { s.input n with hunt := hunt })

/-- TRS_LOSS (R73): no valid TRS for 8 consecutive lines. -/
def execTrsLoss (n : Fin 128) (s : State) : Host.Outcome State Fault Refusal :=
  .next (s.loseInput (s.laneInput n) 2)

/-- Whether a received packet is kept with its frame: everything but de-embedded audio, its control packets and
ST 352 (R43 to R45). Audio is de-embedded when AUD_EN is set, above 270 Mbit/s, and on the first link only. -/
def keepAnc (deembed : Bool) : AncKind → Bool
  | .audio _ => !deembed
  | .audioControl => !deembed
  | .pid352 => false
  | .other => true

/-- Receive one ST 291-1 packet on lane n for input m (R43 to R45). -/
def State.receiveAnc (s : State) (n m : Nat) (deembed : Bool) (p : AncPkt) : State :=
  let s := match p.kind with
    | .audio g => if deembed then s.setFld ⟨.ING_SDI_AUDGRP, g % 8, 1⟩ n 1 else s
    | _ => s
  if s.flag F.ING_SDI_CFG_ANC_KEEP n && keepAnc deembed p.kind then
    let x := s.input m
    if !p.sumOk then s.count .ING_SDI_ANCDROP n 1
    else if x.ancPkts < 255 ∧ x.ancBytes + p.bytes ≤ 16384 then
      s.setInput m { x with ancPkts := x.ancPkts + 1, ancBytes := x.ancBytes + p.bytes }
    else (s.count .ING_SDI_ANCDROP n 1).irq Irq.ING_ANC_DROP
  else s

/-- SDI_LINE_RECEIVE (R45, R46): CRC errors count at 1.485 Gbit/s and above; the line is written and its ancillary
packets are kept or dropped. -/
def execSdiLineReceive (n : Fin 128) (crcErrors : Nat) (anc : List AncPkt) (s : State) :
    Host.Outcome State Fault Refusal :=
  let m := s.laneInput n
  if s.inLive m && (s.input n).lock then
    let rate := (s.reg .ING_SDI_RATE n).toNat
    let s := if 2 ≤ rate then s.count .ING_SDI_CRC n crcErrors else s
    let deembed := s.flag F.ING_SDI_CFG_AUD_EN n && decide (2 ≤ rate) && (n.val == m)
    let s := anc.foldl (fun s p => s.receiveAnc n m deembed p) s
    .next (if n.val = m then s.setInput m { s.input m with lines := (s.input m).lines + 1 } else s)
  else .next s

/-- Close the frame being written: it is good when it was written whole under lock with valid TRS in an accepted
format (R74); a frame being read while it was written is not kept for reading again. -/
def State.closeSdiFrame (s : State) (n : Nat) : State :=
  let x := s.input n
  let good := !x.bad && x.lock && x.fits && !x.lost
  let s := if x.bad && !x.badCounted && x.fits then s.count .ING_IN_BADFRM n 1 else s
  let fr : RingFrame := ⟨x.nextNum, good, x.ancPkts, x.ancBytes, s.tbNow (s.otdTb x.dom)⟩
  let ring := s.fld F.ING_IN_ALLOC_RING_FRAMES n
  let unread := if x.reading || x.direct || !x.fits || decide (0 < x.owe) then x.unread else x.unread ++ [fr]
  s.setInput n { x with
    nextNum := x.nextNum + 1, lines := 0, bad := false, badCounted := false, ancPkts := 0, ancBytes := 0,
    reading := false, owe := if x.reading then x.owe else x.owe - 1,
    unread := if ring < unread.length then unread.drop (unread.length - ring) else unread }

/-- Whether ST 352 agrees with the measurement: the same format code (R39). -/
def pidAgrees (m : FrameMeas) (p : Pid) : Bool := m.code == p.code

/-- SDI_FRAME_END (R39 to R42): the frame closes; ST 352 is compared with the measurement; two consecutive frames of
one structure give a decision; a bonded input with skew above 8 µs or unequal rates is lost. -/
def execSdiFrameEnd (n : Fin 128) (m : FrameMeas) (pid : Option Pid) (skewed : Bool) (s : State) :
    Host.Outcome State Fault Refusal :=
  if s.inLive n && (s.input n).lock && s.laneInput n == n.val then
    let s := s.closeSdiFrame n
    let s := match pid with
      | some p => s.setReg .ING_SDI_352 n (p.payload.setWidth 64)
      | none => s
    let from352 := match pid with | some p => pidAgrees m p | none => false
    let s := s.setFlag F.ING_IN_FMT_PID_MISMATCH n (pid.isSome && !from352)
    let x := s.input n
    let twice := x.meas == some m
    let s := s.setInput n { x with meas := some m }
    if skewed && s.flag F.ING_SDI_CFG_BOND n && n.val % 4 == 0 then .next (s.loseInput n 6)
    else if twice && (x.lost || !x.fits || x.decidedMeas != some m) then
      let form : Form := match pid with
        | some p => if from352 then ⟨m.code, p.sampling, p.depth⟩ else Form.sdi m.code
        | none => Form.sdi m.code
      let s := s.setInput n { s.input n with decidedMeas := some m }
      let s := s.setFlag F.ING_IN_FMT_FROM_352 n from352
      let s := s.setFlag F.ING_IN_FMT_LEVEL_B n (match pid with | some p => from352 && p.levelB | none => false)
      .next (s.decideFormat n form)
    else .next s
  else .next s

/-! ### Packet inputs (R47 to R60) -/

/-- Release the sequence window: the last 1,024 extended numbers are kept. -/
def windowOf (seq : Nat) (seen : List Nat) : List Nat := seq :: seen.take 1023

/-- Write an ST 2110-20 or ST 2022-6 packet (R51, R53, R54, R57): first copies are written into the frame their RTP
timestamp names, second copies are discarded, and packets of a closed frame are late. -/
def State.videoPacket (s : State) (m : Nat) (legB : Bool) (ext num samples : Nat) : State :=
  let n := m + 128
  let s := s.count (if legB then .ING_PKT_RXB else .ING_PKT_RXA) m 1
  let s := s.setFlag (if legB then F.ING_PKT_STAT_PATH_B_OK else F.ING_PKT_STAT_PATH_A_OK) m true
  let x := s.input n
  if !s.inLive n then s
  else if s.inputPd n != 0 && x.seen.contains ext then s.count .ING_PKT_DUP m 1
  else
    let s := s.setInput n { x with seen := windowOf ext x.seen }
    let x := s.input n
    if num < x.closedTo then s.count .ING_PKT_LATE m 1
    else if x.opening.any (fun o => o.num == num) then
      s.setInput n { x with opening := x.opening.map fun o => if o.num = num then { o with samples := o.samples + samples } else o }
    else s.setInput n { x with opening := x.opening ++ [⟨num, samples, 0, 0⟩] }

/-- VIDEO_FRAME_CLOSE (R51 to R53, R56): the frame closes and is judged; the differential of a two-leg flow is
measured; two consecutive frames of one form give a decision. -/
def execVideoFrameClose (m : Fin 256) (num : Nat) (form : Form) (diff : BitVec 32) (s : State) :
    Host.Outcome State Fault Refusal :=
  let n := m.val + 128
  if s.inLive n then
    let x := s.input n
    let o : OpenFrame := (x.opening.find? fun o => o.num == num).getD ⟨num, 0, 0, 0⟩
    let good := decide (widthOf form.code * heightOf form.code ≤ o.samples) && fmtAccepted form.code
    let s := if good then s else s.count .ING_IN_BADFRM n 1
    let fr : RingFrame := ⟨num, good && x.fits && !x.lost, o.ancPkts, o.ancBytes, s.tbNow (s.otdTb x.dom)⟩
    let ring := s.fld F.ING_IN_ALLOC_RING_FRAMES n
    let unread := if x.direct || !x.fits || decide (0 < x.owe) then x.unread else x.unread ++ [fr]
    let twice := x.lastForm == some form && good
    let s := s.setInput n { x with
      opening := x.opening.filter fun o => num < o.num, closedTo := max x.closedTo (num + 1),
      owe := x.owe - 1, nextNum := num + 1, lastForm := if good then some form else none,
      unread := if ring < unread.length then unread.drop (unread.length - ring) else unread }
    let s := if s.inputPd n = 0 then s else
      let s := s.setReg .ING_PKT_PDMEAS m (diff.setWidth 64)
      let above := decide (s.inputPd n < diff.toInt.natAbs)
      let s := s.setFlag F.ING_PKT_STAT_PD_EXCEEDED m above
      if above then s.irq Irq.ING_PD_EXCEED else s
    .next (if twice && (x.lost || !x.fits || x.alloc != form) then s.decideFormat n form else s)
  else .next s

/-- LEG_SILENCE (R57): no packet on the leg for one frame period. -/
def execLegSilence (m : Fin 256) (legB : Bool) (s : State) : Host.Outcome State Fault Refusal :=
  .next (s.setFlag (if legB then F.ING_PKT_STAT_PATH_B_OK else F.ING_PKT_STAT_PATH_A_OK) m false)

/-- PACKET_LOSS_TIMEOUT (R73): no video packet on any leg for two frame periods. -/
def execPacketLossTimeout (m : Fin 256) (s : State) : Host.Outcome State Fault Refusal :=
  .next (s.loseInput (m.val + 128) 5)

/-- Place an audio packet: the first copy of a sequence number is used, a copy after its read point is discarded and
counted (R58). -/
def State.audioPacket (s : State) (a ext : Nat) (late : Bool) : State :=
  let c := Tbl.get (fun _ => default) s.ing.audio a
  if late then s.count .ING_AFL_STAT a 1
  else if c.seen.contains ext then s
  else { s with ing := { s.ing with audio := Tbl.set (fun _ => default) a ⟨windowOf ext c.seen⟩ s.ing.audio } }

/-- Store an ST 2110-40 packet with the frame of its timestamp, under the limits of R45, or drop it (R60). -/
def State.ancFlowPacket (s : State) (a num bytes : Nat) : State :=
  let n := s.fld F.ING_ANF_CFG_INPUT a
  let x := s.input n
  match x.opening.find? (fun o => o.num == num) with
  | some o =>
    if o.ancPkts < 255 ∧ o.ancBytes + bytes ≤ 16384 then
      s.setInput n { x with opening := x.opening.map fun o =>
        if o.num = num then { o with ancPkts := o.ancPkts + 1, ancBytes := o.ancBytes + bytes } else o }
    else (s.count .ING_ANF_STAT a 1).irq Irq.ING_ANC_DROP
  | none => s.count .ING_ANF_STAT a 1

/-! ### The synchroniser at a domain boundary (R61 to R75) -/

/-- The margin of an input in lines: lines written ahead of the next frame to be read, less the delay frames (R62,
R63). For a packet input it is the age of the next frame since its close. -/
def State.marginLines (s : State) (n : Nat) : Int :=
  let x := s.input n
  let t := linesOf x.alloc.code
  if n < 128 then ((x.unread.length * t + x.lines : Nat) : Int) - ((x.delay * t : Nat) : Int)
  else match x.unread with
    | [] => -1
    | f :: _ =>
      let age := s.tbNow (s.otdTb x.dom) - f.closed
      let lines := if rateDen x.alloc.code = 0 then 0
        else age * rateNum x.alloc.code * t / (fineSecond * rateDen x.alloc.code)
      (lines : Int) - ((x.delay * t : Nat) : Int)

/-- Take the next frame to read: an unread frame, or the one being written (R62). -/
def State.takeFrame (s : State) (n : Nat) : Option (RingFrame × State) :=
  let x := s.input n
  let step := if s.flag F.ING_IN_STAT_DOUBLE n then 2 else 1
  match x.unread with
  | f :: rest =>
    let drop := min (step - 1) rest.length
    some (f, s.setInput n { x with unread := rest.drop drop, owe := x.owe + (step - 1 - drop) })
  | [] => if n < 128 then
      some (⟨x.nextNum, !x.bad && x.lock && x.fits && !x.lost, x.ancPkts, x.ancBytes, 0⟩,
        s.setInput n { x with reading := true, owe := x.owe + (step - 1) })
    else none

/-- Repeat the last good frame output (R75). -/
def State.showLast (s : State) (n : Nat) : State :=
  let x := s.input n
  s.setInput n { x with shows := match x.lastGood with | some k => .frame k | none => .black }

/-- A repeat or drop of R63: ING_IN_SLIP counts, and the cells of the frame carry SLIP. -/
def State.slip (s : State) (n : Nat) : State :=
  (s.count .ING_IN_SLIP n 1).setInput n { s.input n with slipped := true }

/-- No eligible good frame at this boundary: Table 02.5. -/
def State.boundaryWithout (s : State) (n : Nat) : State :=
  let st := s.inState n
  if st = inLocked then
    if 0 < s.fld F.ING_IN_SYNC_REPEAT_COUNT n then (s.enterRepeat n).showLast n else s.enterBlack n
  else if st = inRepeat then
    if 0 < s.fld F.ING_IN_STAT_REPEAT_LEFT n then
      (s.setFld F.ING_IN_STAT_REPEAT_LEFT n (s.fld F.ING_IN_STAT_REPEAT_LEFT n - 1)).showLast n
    else s.enterBlack n
  else s.setInput n { s.input n with shows := .black }

/-- An eligible good frame at this boundary is output (R75); a lost input returns (R77). -/
def State.boundaryWith (s : State) (n : Nat) (f : RingFrame) : State :=
  let x := s.input n
  let s := s.setInput n { x with shows := .frame f.num, prevGood := x.lastGood, lastGood := some f.num, waiting := false }
  if s.inState n = inRepeat ∨ s.inState n = inBlack then s.enterReturn n else s

/-- The choice of the synchroniser in SYNC mode (R62, R63, R68, R75). -/
def State.syncChoose (s : State) (n : Nat) : State :=
  let x := s.input n
  let safe := s.fld F.ING_IN_SYNC_SAFE_LINES n
  let hyst := s.fld F.ING_IN_SYNC_HYST_LINES n
  let t := linesOf x.alloc.code
  let step := if s.flag F.ING_IN_STAT_DOUBLE n then 2 else 1
  if 0 < x.held then (s.setInput n { x with held := x.held - 1 }).showLast n
  else if s.marginLines n < (safe : Int) then
    if x.lost || !x.fits then s.boundaryWithout n
    else if x.waiting then s.setInput n { x with shows := .black }
    else if s.inState n = inLocked then (s.slip n).showLast n
    else s.boundaryWithout n
  else
    let s := if (((step * t + safe + hyst : Nat)) : Int) < s.marginLines n && !x.waiting then
        (s.slip n).setInput n { (s.slip n).input n with unread := ((s.slip n).input n).unread.drop step }
      else s
    match s.takeFrame n with
    | none => s.boundaryWithout n
    | some (f, s) => if f.good then s.boundaryWith n f else s.boundaryWithout n

/-- A DIRECT input at a boundary: WINDOW is set while its phase lies within half a line (R70); it returns when it is
no longer lost (R81). -/
def State.directBoundary (s : State) (n : Nat) (phase : Int) : State :=
  let x := s.input n
  let half := rateDen x.alloc.code * 1000000000 / (2 * rateNum x.alloc.code * linesOf x.alloc.code)
  let s := s.setFlag F.ING_IN_STAT_WINDOW n (x.fits && !x.lost && decide (phase.natAbs ≤ half))
  if x.fits && !x.lost then
    let s := s.setInput n { x with shows := .frame x.nextNum, lastGood := some x.nextNum, waiting := false }
    if s.inState n = inBlack ∨ s.inState n = inRepeat then s.enterReturn n else s
  else if s.inState n = inLocked then s.enterBlack n
  else s.setInput n { x with shows := .black }

/-- Changes that take effect at a boundary: the ring, the mode and the delay (R55, R68, R72, R664). -/
def State.applyPending (s : State) (n : Nat) : State :=
  let x := s.input n
  let s := if x.pendDirect then (s.freeRing n).setInput n { (s.freeRing n).input n with direct := true, pendDirect := false }
    else s
  let x := s.input n
  let s := match x.pendDelay with
    | none => s
    | some d => s.setInput n { x with
        pendDelay := none, delay := d, held := x.held + (d - x.delay),
        unread := x.unread.drop (x.delay - d), owe := x.owe + ((x.delay - d) - x.unread.length) }
  let x := s.input n
  match x.pendRing with
  | none => s
  | some (frames, f) =>
    match s.resizeRing n frames (frames * f.pages) f.load with
    | some s => s.setInput n { s.input n with pendRing := none }
    | none => s

/-- The boundary of domain d at one input, with its measured phase in ns (R49, R62 to R75, Table 02.5). -/
def State.inputBoundary (s : State) (n d : Nat) (phase : Int) : State :=
  let x := s.input n
  let s := if x.pendFree && x.dom == d then s.freeRing n else s
  if !s.inLive n then s
  else
    let s := s.setInput n { s.input n with slipped := false }
    if x.pendDom = some d then
      let s := s.setInput n { s.input n with dom := d, pendDom := none }
      let s := s.setFlag F.ING_IN_STAT_DOUBLE n (doubleRate x.alloc.code (s.otdFormat d))
      (s.slip n).showLast n
    else if x.dom ≠ d then s
    else
      let s := s.setReg .ING_IN_PHASE n (BitVec.ofNat 64 (unsignedOf 32 phase))
      if x.pendBind then
        (s.setInState n inAcquiring).setInput n { s.input n with
          pendBind := false, fits := false, lost := false, shows := .black, waiting := true, lastForm := none,
          opening := [], unread := [], seen := [] }
      else
        let s := if x.fits && !fitsDomain x.alloc.code (s.otdFormat d) then
            (s.setInput n { s.input n with fits := false }).loseInput n 3
          else s.setFlag F.ING_IN_STAT_DOUBLE n (x.fits && doubleRate x.alloc.code (s.otdFormat d))
        let s := s.applyPending n
        if s.inState n = inAcquiring then s.setInput n { s.input n with shows := .black }
        else if (s.input n).direct then s.directBoundary n phase
        else s.syncChoose n

/-- SYNC_READ_INTERRUPT (R74): the write of the frame being read stops; the frame is bad and counts once, and the
previous good frame stays the last good frame. -/
def execSyncReadInterrupt (n : Fin 128) (s : State) : Host.Outcome State Fault Refusal :=
  let x := s.input n
  .next (if s.inLive n && x.reading then
    (s.count .ING_IN_BADFRM n 1).setInput n { x with bad := true, badCounted := true, lastGood := x.prevGood }
  else s)

/-! ### Enabling, draining and configuration (R35, R41, R49, R50, R55, R59, R65 to R72, R79, R80) -/

/-- Tweed input channels reserved (R50, R331). -/
def State.reserveIn (s : State) (old new : Nat) : Option State :=
  let held := s.fld F.TWD_IN_RES_N 0
  if held - old + new ≤ 8192 then some (s.setFld F.TWD_IN_RES_N 0 (held - old + new)) else none

/-- The channels an SDI input reserves while it is enabled with AUD_EN set (R50). -/
def State.sdiChannels (s : State) (n : Nat) : Nat := if n < 128 ∧ s.flag F.ING_SDI_CFG_AUD_EN n = true then 32 else 0

/-- The clock domain of an SDI group has failed to lock, so its units are not ready (R639, Table 18.8). -/
def State.vidFailed (s : State) (n : Nat) : Bool := decide (n < 128) && bit (18 + n / 16) (s.reg .INS_PLL_FAIL 0)

/-- The record of an input that has just been enabled. -/
def Input.fresh (x : Input) (f : Form) (dom delay : Nat) (direct : Bool) : Input :=
  { (default : Input) with lock := x.lock, hadRate := x.hadRate, hunt := 9, alloc := f, load := x.load, dom := dom, delay := delay, direct := direct, waiting := true, nextNum := x.nextNum, bad := true, badCounted := true }

/-- ENABLE written 1 on an input in OFF (R79): the ring for its allocation format, then ACQUIRING. -/
def State.enableInput (s : State) (n : Nat) (v : Word) : State :=
  let f := s.allocForm v
  let direct := F.ING_IN_CFG_MODE.of v == 1
  let delay := s.fld F.ING_IN_SYNC_DELAY_FRAMES n
  if n % 4 ≠ 0 ∧ n < 128 ∧ s.flag F.ING_SDI_CFG_BOND (n / 4 * 4) = true then s.refuse .REFUSED_POLICY
  else if s.vidFailed n then s.refuse .NOT_READY
  else if direct && delay != 0 then s.refuse .REFUSED_POLICY
  else if direct && breaksDirect f.code (s.inputPd n) then s.refuse .REFUSED_POLICY
  else match s.reserveIn 0 (s.sdiChannels n) with
    | none => s.refuse .NO_ROOM
    | some s' =>
      let frames := ringFrames f (s.inputPd n) delay
      match (if direct then some s' else s'.resizeRing n frames (frames * f.pages) f.load) with
      | none => s.refuse .NO_ROOM
      | some s =>
        let s := s.store .ING_IN_CFG n v
        let s := s.setReg .ING_IN_STAT n 0
        let s := s.setReg .ING_IN_FMT n 0
        let s := s.setInput n ((s.input n).fresh f (F.ING_IN_CFG_OTD.of v) delay direct)
        s.setInState n inAcquiring

/-- ENABLE written 0: no new frame is accepted, and the frame being written is finished (Table 02.5). -/
def State.drainInput (s : State) (n : Nat) : State :=
  let s := match s.reserveIn (s.sdiChannels n) 0 with | some s => s | none => s
  s.setInState n inDraining

/-- The input reads OFF: the source is black (Table 02.5); ING_STATUS.DRAINING ends with the last drain. -/
def State.inputOff (s : State) (n : Nat) (killed : Bool) : State :=
  let x := s.input n
  let s := s.setInput n { (default : Input) with
    lock := x.lock, hadRate := x.hadRate, hunt := x.hunt, alloc := x.alloc, load := x.load, dom := x.dom, pendFree := !killed }
  let s := (s.setReg .ING_IN_STAT n 0).setFlag F.ING_IN_STAT_KILLED n killed
  let s := s.setInState n inOff
  let s := if killed then s.freeRing n else s
  if s.flag F.ING_STATUS_DRAINING 0 && (List.range 384).all (fun k => s.inState k != inDraining) then
    s.setFlag F.ING_STATUS_DRAINING 0 false
  else s

/-- KILL written 1 with ENABLE 0: the partial frame is discarded and reported (Table 02.5, R80). -/
def State.killInput (s : State) (n : Nat) : State :=
  let s := if s.inState n = inDraining then s
    else match s.reserveIn (s.sdiChannels n) 0 with | some s => s | none => s
  s.inputOff n true

/-- The values of ING_IN_CFG that the field table does not allow (R86). -/
def badInCfg (v : Word) : Bool :=
  decide (2 ≤ F.ING_IN_CFG_MODE.of v) ||
  (F.ING_IN_CFG_FMT_EXPECT.of v != 0 && !fmtAccepted (F.ING_IN_CFG_FMT_EXPECT.of v)) ||
  (F.ING_IN_CFG_FMT_LOCK.on v && F.ING_IN_CFG_FMT_EXPECT.of v == 0)

/-- A write of ING_IN_CFG on an input that stays enabled: domain (R65, R67), mode (R69, R71, R72) and FMT_LOCK (R73). -/
def State.changeInput (s : State) (n : Nat) (v : Word) : State :=
  let x := s.input n
  let otd := F.ING_IN_CFG_OTD.of v
  let direct := F.ING_IN_CFG_MODE.of v == 1
  let wasDirect := s.fld F.ING_IN_CFG_MODE n == 1
  let delay := s.fld F.ING_IN_SYNC_DELAY_FRAMES n
  if otd ≠ s.fld F.ING_IN_CFG_OTD n ∧ x.fits = true ∧ fitsDomain x.alloc.code (s.otdFormat otd) = false then
    s.refuse .FORMAT_MISMATCH
  else if direct && !wasDirect && (delay != 0 || breaksDirect x.alloc.code (s.inputPd n)) then s.refuse .REFUSED_POLICY
  else
    let frames := ringFrames x.alloc (s.inputPd n) delay
    match (if !direct && wasDirect && x.direct then s.resizeRing n frames (frames * x.alloc.pages) x.alloc.load else some s) with
    | none => s.refuse .NO_ROOM
    | some s =>
      let x := s.input n
      let x := if otd = s.fld F.ING_IN_CFG_OTD n then x
        else if x.fits then { x with pendDom := if otd = x.dom then none else some otd } else { x with dom := otd }
      let x := if direct && !wasDirect then { x with pendDirect := true }
        else if !direct && wasDirect then { x with
          pendDirect := false, direct := false, waiting := true, shows := .black, unread := [], pdBreak := false,
          lost := x.lost && !x.pdBreak }
        else x
      let s := (s.setInput n x).store .ING_IN_CFG n v
      if F.ING_IN_CFG_FMT_LOCK.on v && x.fits && x.alloc.code != F.ING_IN_CFG_FMT_EXPECT.of v then
        (s.setInput n { s.input n with fits := false }).loseInput n 3
      else s

/-- A write of ING_IN_CFG (R79, R80, R86, Table 02.5). -/
def State.writeInCfg (s : State) (src : Requester) (n : Nat) (v : Word) : State :=
  s.guarded .ING_IN_CFG src fun s =>
    let st := s.inState n
    let en := F.ING_IN_CFG_ENABLE.on v
    let kill := F.ING_IN_CFG_KILL.on v && !en
    if st = inDraining ∧ kill = false then s.refuse .DRAINING
    else if badInCfg v then s.refuse .BAD_ARG
    else if kill && st != inOff then (s.killInput n).store .ING_IN_CFG n v
    else if en then
      if !s.flag F.ING_CTRL_EN 0 || !s.otdEnabled (F.ING_IN_CFG_OTD.of v) then s.refuse .NOT_READY
      else if st = inOff then s.enableInput n v
      else s.changeInput n v
    else if st = inOff then s.store .ING_IN_CFG n v
    else (s.drainInput n).store .ING_IN_CFG n v

/-- The word of ING_IN_CFG with some fields replaced. -/
def State.inCfgWith (s : State) (n : Nat) (en kill : Bool) : Word :=
  F.ING_IN_CFG_KILL.put (if kill then 1 else 0) (F.ING_IN_CFG_ENABLE.put (if en then 1 else 0) (s.reg .ING_IN_CFG n))

/-- INPUT_ENABLE (R79): ING_IN_CFG written with ENABLE 1. -/
def execInputEnable (src : Requester) (n : Fin 384) (w : Word32) (s : State) : Host.Outcome State Fault Refusal :=
  .next (s.writeInCfg src n (F.ING_IN_CFG_KILL.put 0 (F.ING_IN_CFG_ENABLE.put 1 (w.setWidth 64))))

/-- INPUT_DISABLE (R79): ENABLE written 0. -/
def execInputDisable (src : Requester) (n : Fin 384) (s : State) : Host.Outcome State Fault Refusal :=
  .next (s.writeInCfg src n (s.inCfgWith n false false))

/-- INPUT_KILL (R80): KILL written 1 with ENABLE 0. -/
def execInputKill (src : Requester) (n : Fin 384) (s : State) : Host.Outcome State Fault Refusal :=
  .next (s.writeInCfg src n (s.inCfgWith n false true))

/-- INPUT_DRAIN_DONE (Table 02.5): the draining input's frame is written, or one frame period has elapsed. -/
def execInputDrainDone (n : Fin 384) (s : State) : Host.Outcome State Fault Refusal :=
  .next (if s.inState n = inDraining then s.inputOff n false else s)

/-- INPUT_MODE_CHANGE (R69, R71, R72): MODE written on an input. -/
def execInputModeChange (src : Requester) (n : Fin 384) (mode : BitVec 2) (s : State) : Host.Outcome State Fault Refusal :=
  .next (s.writeInCfg src n (F.ING_IN_CFG_MODE.put mode.toNat (s.reg .ING_IN_CFG n)))

/-- INPUT_DOMAIN_CHANGE (R65, R67): OTD written on an input. -/
def execInputDomainChange (src : Requester) (n : Fin 384) (otd : Fin 8) (s : State) : Host.Outcome State Fault Refusal :=
  .next (s.writeInCfg src n (F.ING_IN_CFG_OTD.put otd (s.reg .ING_IN_CFG n)))

/-- A write of ING_IN_SYNC (R68, R69, R87). -/
def State.writeInSync (s : State) (src : Requester) (n : Nat) (v : Word) : State :=
  s.guarded .ING_IN_SYNC src fun s =>
    let x := s.input n
    let d := F.ING_IN_SYNC_DELAY_FRAMES.of v
    let old := s.fld F.ING_IN_SYNC_DELAY_FRAMES n
    if F.ING_IN_SYNC_SAFE_LINES.of v = 0 then s.refuse .BAD_ARG
    else if s.fld F.ING_IN_CFG_MODE n = 1 ∧ d ≠ 0 then s.refuse .REFUSED_POLICY
    else if !s.inLive n || d == old || x.direct then s.store .ING_IN_SYNC n v
    else match s.growRing n (ringFrames x.alloc (s.inputPd n) d) x.alloc with
      | none => s.refuse .NO_ROOM
      | some s => (s.setInput n { s.input n with pendDelay := some d }).store .ING_IN_SYNC n v

/-- DELAY_FRAMES_CHANGE (R68). -/
def execDelayFramesChange (src : Requester) (n : Fin 384) (w : Word32) (s : State) : Host.Outcome State Fault Refusal :=
  .next (s.writeInSync src n (w.setWidth 64))

/-- Whether a flow is bound to a packet context other than the given one: kind 0 video, 1 audio, 2 ancillary (R49). -/
def State.flowBound (s : State) (flow kind idx : Nat) : Bool :=
  (List.range 256).any (fun m => !(kind == 0 && m == idx) && s.flag F.ING_PKT_VID_VALID m && s.fld F.ING_PKT_VID_FLOW m == flow) ||
  (List.range 1024).any (fun a => !(kind == 1 && a == idx) && s.flag F.ING_AFL_CFG_VALID a && s.fld F.ING_AFL_CFG_FLOW a == flow) ||
  (List.range 512).any (fun a => !(kind == 2 && a == idx) && s.flag F.ING_ANF_CFG_VALID a && s.fld F.ING_ANF_CFG_FLOW a == flow)

/-- A write of ING_PKT_VID (R49, R89, R123). -/
def State.writePktVid (s : State) (src : Requester) (m : Nat) (v : Word) : State :=
  s.guarded .ING_PKT_VID src fun s =>
    let n := m + 128
    let flow := F.ING_PKT_VID_FLOW.of v
    let valid := F.ING_PKT_VID_VALID.on v
    if 2 ≤ F.ING_PKT_VID_TYPE.of v then s.refuse .BAD_ARG
    else if valid && s.isLegB flow then s.refuse .BAD_ARG
    else if valid && s.flowBound flow 0 m then s.refuse .REFUSED_POLICY
    else
      let changed := valid && (!s.flag F.ING_PKT_VID_VALID m || s.fld F.ING_PKT_VID_FLOW m != flow ||
        s.fld F.ING_PKT_VID_TYPE m != F.ING_PKT_VID_TYPE.of v)
      let s := s.store .ING_PKT_VID m v
      if changed && s.inLive n then s.setInput n { s.input n with pendBind := true } else s

/-- VIDEO_FLOW_BINDING (R49). -/
def execVideoFlowBinding (src : Requester) (m : Fin 256) (w : Word32) (s : State) : Host.Outcome State Fault Refusal :=
  .next (s.writePktVid src m (w.setWidth 64))

/-- A write of ING_PKT_PD (R55, R71). -/
def State.writePd (s : State) (src : Requester) (m : Nat) (v : Word) : State :=
  s.guarded .ING_PKT_PD src fun s =>
    let n := m + 128
    let x := s.input n
    let pd := F.ING_PKT_PD_PD_MAX.of v
    let two := s.flag F.ING_PKT_VID_VALID m && s.twoLeg (s.fld F.ING_PKT_VID_FLOW m)
    let code := if x.fits then x.alloc.code else (s.allocForm (s.reg .ING_IN_CFG n)).code
    let cfgDirect := s.fld F.ING_IN_CFG_MODE n == 1
    if 50000 < pd then s.refuse .BAD_ARG
    else if two && cfgDirect && !x.pdBreak && breaksDirect code pd then s.refuse .REFUSED_POLICY
    else if s.inLive n && two && !cfgDirect &&
        ringFrames x.alloc pd (s.fld F.ING_IN_SYNC_DELAY_FRAMES n) != s.fld F.ING_IN_ALLOC_RING_FRAMES n then
      match s.growRing n (ringFrames x.alloc pd (s.fld F.ING_IN_SYNC_DELAY_FRAMES n)) x.alloc with
      | none => s.refuse .NO_ROOM
      | some s => s.store .ING_PKT_PD m v
    else
      let s := s.store .ING_PKT_PD m v
      if x.pdBreak && !breaksDirect x.alloc.code pd then s.setInput n { x with pdBreak := false, lastForm := none } else s

/-- PD_MAX_WRITE (R55). -/
def execPdMaxWrite (src : Requester) (m : Fin 256) (w : Word32) (s : State) : Host.Outcome State Fault Refusal :=
  .next (s.writePd src m (w.setWidth 64))

/-- The channels an audio context reserves: CHANNELS, twice at 96 kHz, while it is valid (R50). -/
def aflChannels (cfg fmt : Word) : Nat :=
  if F.ING_AFL_CFG_VALID.on cfg then F.ING_AFL_FMT_CHANNELS.of fmt * (if F.ING_AFL_FMT_RATE.on fmt then 2 else 1) else 0

/-- How many other valid audio contexts name an input (R49). -/
def State.audioOf (s : State) (input a : Nat) : Nat :=
  ((List.range 1024).filter fun b => b != a && s.flag F.ING_AFL_CFG_VALID b && s.fld F.ING_AFL_CFG_INPUT b == input).length

/-- How many other valid ancillary contexts name an input (R49). -/
def State.ancOf (s : State) (input a : Nat) : Nat :=
  ((List.range 512).filter fun b => b != a && s.flag F.ING_ANF_CFG_VALID b && s.fld F.ING_ANF_CFG_INPUT b == input).length

/-- Whether an INPUT field names a packet input, 128 to 383. -/
def packetInput (i : Nat) : Bool := decide (128 ≤ i ∧ i ≤ 383)

/-- A write of ING_AFL_CFG (R49, R50, R89, R123). -/
def State.writeAfl (s : State) (src : Requester) (a : Nat) (v : Word) : State :=
  s.guarded .ING_AFL_CFG src fun s =>
    let i := F.ING_AFL_CFG_INPUT.of v
    let flow := F.ING_AFL_CFG_FLOW.of v
    let valid := F.ING_AFL_CFG_VALID.on v
    if !packetInput i && i != 0x1FF then s.refuse .BAD_ARG
    else if valid && s.isLegB flow then s.refuse .BAD_ARG
    else if valid && s.flowBound flow 1 a then s.refuse .REFUSED_POLICY
    else if valid && packetInput i && decide (16 ≤ s.audioOf i a) then s.refuse .NO_ROOM
    else match s.reserveIn (aflChannels (s.reg .ING_AFL_CFG a) (s.reg .ING_AFL_FMT a)) (aflChannels v (s.reg .ING_AFL_FMT a)) with
      | none => s.refuse .NO_ROOM
      | some s => s.store .ING_AFL_CFG a v

/-- AUDIO_CONTEXT_BINDING (R49, R50). -/
def execAudioContextBinding (src : Requester) (a : Fin 1024) (w : Word32) (s : State) : Host.Outcome State Fault Refusal :=
  .next (s.writeAfl src a (w.setWidth 64))

/-- A write of ING_AFL_FMT: CHANNELS 1 to 64 and PTIME 0 or 1 (R89); a valid context's reservation follows (R50), and a placed
run does not grow into another (R332). -/
def State.writeAflFmt (s : State) (src : Requester) (a : Nat) (v : Word) : State :=
  s.guarded .ING_AFL_FMT src fun s =>
    let ch := F.ING_AFL_FMT_CHANNELS.of v
    let longer := decide (s.placeLen (128 + a) < Machine.placeLen (128 + a) v 0)
    if ch = 0 ∨ 64 < ch ∨ 1 < F.ING_AFL_FMT_PTIME.of v then s.refuse .BAD_ARG
    else if longer && s.placedTooLong (128 + a) (Machine.placeLen (128 + a) v 0) then s.refuse .REFUSED_POLICY
    else match s.reserveIn (aflChannels (s.reg .ING_AFL_CFG a) (s.reg .ING_AFL_FMT a)) (aflChannels (s.reg .ING_AFL_CFG a) v) with
      | none => s.refuse .NO_ROOM
      | some s => s.store .ING_AFL_FMT a v

/-- The packet time of an audio context in µs. -/
def State.aflPtime (s : State) (a : Nat) : Nat := if s.fld F.ING_AFL_FMT_PTIME a = 0 then 1000 else 125

/-- A write of ING_AFL_OFF (R59): 125 to 60,000 µs, and at least the packet time plus 125 µs. -/
def State.writeAflOff (s : State) (src : Requester) (a : Nat) (v : Word) : State :=
  s.guarded .ING_AFL_OFF src fun s =>
    let off := F.ING_AFL_OFF_OFFSET.of v
    if off < s.aflPtime a + 125 ∨ 60000 < off then s.refuse .BAD_ARG else s.store .ING_AFL_OFF a v

/-- AUDIO_OFFSET_WRITE (R59). -/
def execAudioOffsetWrite (src : Requester) (a : Fin 1024) (w : Word32) (s : State) : Host.Outcome State Fault Refusal :=
  .next (s.writeAflOff src a (w.setWidth 64))

/-- A write of ING_ANF_CFG (R49, R123). -/
def State.writeAnf (s : State) (src : Requester) (a : Nat) (v : Word) : State :=
  s.guarded .ING_ANF_CFG src fun s =>
    let i := F.ING_ANF_CFG_INPUT.of v
    let flow := F.ING_ANF_CFG_FLOW.of v
    let valid := F.ING_ANF_CFG_VALID.on v
    if valid && !packetInput i then s.refuse .BAD_ARG
    else if valid && s.isLegB flow then s.refuse .BAD_ARG
    else if valid && s.flowBound flow 2 a then s.refuse .REFUSED_POLICY
    else if valid && s.flag F.ING_PKT_VID_VALID (i - 128) && s.fld F.ING_PKT_VID_TYPE (i - 128) == 1 then s.refuse .REFUSED_POLICY
    else if valid && decide (4 ≤ s.ancOf i a) then s.refuse .NO_ROOM
    else s.store .ING_ANF_CFG a v

/-- ANC_CONTEXT_BINDING (R49). -/
def execAncContextBinding (src : Requester) (a : Fin 512) (w : Word32) (s : State) : Host.Outcome State Fault Refusal :=
  .next (s.writeAnf src a (w.setWidth 64))

/-- A write of ING_SDI_CFG (R38, R41, R50, R89). -/
def State.writeSdiCfg (s : State) (src : Requester) (n : Nat) (v : Word) : State :=
  s.guarded .ING_SDI_CFG src fun s =>
    let force := F.ING_SDI_CFG_RATE_FORCE.of v
    let base := n / 4 * 4
    let aud := if F.ING_SDI_CFG_AUD_EN.on v then 32 else 0
    if 0xA ≤ force then s.refuse .BAD_ARG
    else if F.ING_SDI_CFG_BOND.on v && !s.flag F.ING_SDI_CFG_BOND n && n == base &&
        [base + 1, base + 2, base + 3].any (fun k => s.flag F.ING_IN_CFG_ENABLE k) then s.refuse .REFUSED_POLICY
    else match (if s.inLive n then s.reserveIn (s.sdiChannels n) aud else some s) with
      | none => s.refuse .NO_ROOM
      | some s =>
        let s := s.store .ING_SDI_CFG n v
        let x := s.input n
        if !x.lock && s.inLive n then s.setInput n { x with hunt := if force = 0 then 9 else force } else s

/-- SDI_CFG_WRITE (R41). -/
def execSdiCfgWrite (src : Requester) (n : Fin 128) (w : Word32) (s : State) : Host.Outcome State Fault Refusal :=
  .next (s.writeSdiCfg src n (w.setWidth 64))

/-- A write of ING_POOL_PAGES (R83, R384). -/
def State.writePool (s : State) (src : Requester) (v : Word) : State :=
  s.guarded .ING_POOL_PAGES src fun s =>
    let used := (s.reg .ING_POOL_USED 0).toNat
    let low := (s.reg .ING_POOL_LOW 0).toNat
    let was := (s.reg .ING_POOL_PAGES 0).toNat - used
    if 30393 < (low32 v).toNat then s.refuse .BAD_ARG
    else if (low32 v).toNat < used then s.refuse .REFUSED_POLICY
    else if (List.range 256).any (fun m => s.flag F.VMP_SURF_CFG_VALID m && decide (s.fld F.VMP_SURF_CFG_FIRST m < (low32 v).toNat)) then
      s.refuse .REFUSED_POLICY
    else
      let s := s.store .ING_POOL_PAGES 0 (low32 v)
      if (low32 v).toNat - used < low ∧ low ≤ was then s.irq Irq.ING_POOL_LOW else s

/-- POOL_PAGES_WRITE (R83, R384). -/
def execPoolPagesWrite (src : Requester) (w : Word32) (s : State) : Host.Outcome State Fault Refusal :=
  .next (s.writePool src (w.setWidth 64))

/-- A write of ING_CTRL: EN set runs the block; clearing EN drains every input (Table 02.9). -/
def State.writeIngCtrl (s : State) (src : Requester) (v : Word) : State :=
  s.guarded .ING_CTRL src fun s =>
    let s := s.store .ING_CTRL 0 v
    if F.ING_CTRL_EN.on v then (s.setFlag F.ING_STATUS_RUN 0 true).setFlag F.ING_STATUS_DRAINING 0 false
    else
      let any := (List.range 384).any fun n => s.inState n != inOff
      let s := (List.range 384).foldl (fun s n =>
        if s.inLive n then (s.drainInput n).setFlag F.ING_IN_CFG_ENABLE n false else s) s
      (s.setFlag F.ING_STATUS_RUN 0 false).setFlag F.ING_STATUS_DRAINING 0 any

/-- INGRESS_DISABLE (Table 02.9): ING_CTRL.EN cleared. -/
def execIngressDisable (src : Requester) (s : State) : Host.Outcome State Fault Refusal := .next (s.writeIngCtrl src 0)

end Sys2Proof.Machine
end

