-- ==== Sys2Proof/Machine/Twill.lean ====
section
/-! DEFINITION. Twill: slice-ports, cells, calendars, admission, arbitration, replication, relaying, live swap and drain
(chapter 03, R90 to R121, R133 to R139). -/

namespace Sys2Proof.Machine

/-! ### Shims and identities (Table 03.1, R25) -/

/-- The part's domain identifier (R25). -/
def State.domainId (s : State) : Nat := s.fld F.GLB_CHIP_DOMAIN 0

/-- The Lace link whose shim owns a logical slice-port (Table 03.1). -/
def laceOf (p : Nat) : Option Nat := if 72 ≤ p ∧ p < 152 then some ((p - 72) / 5) else none

/-- The slice-ports of Lace link k (Table 03.1). -/
def lacePorts (k : Nat) : List Nat := (List.range 5).map (72 + 5 * k + ·)

/-- The slice-ports of SDI group g (Table 03.1). -/
def sdiPorts (g : Nat) : List Nat := (List.range 3).map (3 * g + ·)

/-- The slice-ports of network port group g (Table 03.1). -/
def netPorts (g : Nat) : List Nat := (List.range 6).map (24 + 6 * g + ·)

/-- All slice-ports of the shim that owns a slice-port (Table 03.1). -/
def shimOf (p : Nat) : List Nat :=
  if p < 24 then sdiPorts (p / 3) else if p < 72 then netPorts ((p - 24) / 6)
  else match laceOf p with
    | some k => lacePorts k
    | none => if p < 160 then (List.range 8).map (152 + ·) else if p < 162 then [160, 161]
      else if p < 164 then [162, 163] else (List.range 4).map (164 + ·)

/-- The record of a slice-port. -/
def State.port (s : State) (p : Nat) : SlicePort := Tbl.get (fun _ => default) s.twl.ports p

/-- Set the record of a slice-port. -/
def State.setPort (s : State) (p : Nat) (x : SlicePort) : State :=
  { s with twl := { s.twl with ports := Tbl.set (fun _ => default) p x s.twl.ports } }

/-- Change every slice-port's record. -/
def State.mapPorts (s : State) (f : SlicePort → SlicePort) : State :=
  { s with twl := { s.twl with ports := Tbl.mapVals (fun _ => default) (fun _ x => f x) s.twl.ports } }

/-- Replace the routes. -/
def State.setRoutes (s : State) (rs : List Route) : State := { s with twl := { s.twl with routes := rs } }

/-! ### Slots and calendars (R96 to R100) -/

/-- The SDI line rate class of a form's raster in kbit/s (Table 02.1). -/
def lineRate (code : Nat) : Nat :=
  match sdiRateOf code with
  | 1 => 270000 | 2 => 1485000 | 3 => 1485000 | 4 => 2970000 | 5 => 2970000 | 6 => 5940000 | 7 => 5940000
  | 8 => 11880000 | 9 => 11880000 | _ => 0

/-- The carriage rate C of a form in kbit/s (R96). -/
def Form.carriage (f : Form) : Nat :=
  lineRate f.code * (if f.sampling = 0 then (if f.depth = 2 then 12 else 10) else (if f.depth = 2 then 18 else 15)) / 10

/-- S = ceil(C × 47.104 µs / 1,920 bits) + TWL_MARGIN.SLOTS, with C in kbit/s (R97). -/
def State.slotsOf (s : State) (c : Nat) : Nat := ceilDiv (c * 47104) 1920000000 + s.fld F.TWL_MARGIN_SLOTS 0

/-- The next free slot of a calendar at or after p, round the period (R99). -/
def nextFree (cal : Tbl Nat) : Nat → Nat → Nat
  | 0, p => p
  | fuel + 1, p => if Tbl.get (fun _ => 0) cal p < 32768 then p else nextFree cal fuel ((p + 1) % 4096)

/-- Place slots i to S − 1 of a reservation (R99). -/
def calPlaceFrom (word slots off : Nat) : List Nat → Tbl Nat × List Nat → Tbl Nat × List Nat
  | [], a => a
  | i :: is, a =>
    let p := nextFree a.1 4096 ((off + i * 4096 / slots) % 4096)
    calPlaceFrom word slots off is (Tbl.set (fun _ => 0) p word a.1, p :: a.2)

/-- Put a number in its place in a rising list. -/
def insertNat (n : Nat) : List Nat → List Nat
  | [] => [n]
  | a :: l => if n ≤ a then n :: a :: l else a :: insertNat n l

/-- The largest gap between consecutive slots of a rising list. -/
def largestGap : List Nat → Nat
  | a :: b :: l => max (b - a) (largestGap (b :: l))
  | _ => 0

/-- The largest gap of slots placed round the 4,096-slot period (R99). -/
def cyclicGap (l : List Nat) : Nat :=
  let r := l.foldr insertNat []
  match r, r.getLast? with
  | a :: _, some z => max (largestGap r) (a + 4096 - z)
  | _, _ => 4096

/-- Spread a reservation of S slots for a context with the offset that leaves its largest gap smallest (R99). -/
def calReserve (cal : Tbl Nat) (ctx slots : Nat) (pre : Bool) : Tbl Nat :=
  let word := 32768 + (if pre then 16384 else 0) + ctx
  let at_ := fun off => calPlaceFrom word slots off (List.range slots) (cal, [])
  let best := (List.range 4096).foldl (fun b off =>
    let g := cyclicGap (at_ off).2
    if g < b.1 then (g, off) else b) (4097, 0)
  (at_ best.2).1

/-- Drop a context from a calendar. -/
def calRelease (cal : Tbl Nat) (ctx : Nat) : Tbl Nat := cal.filter fun e => e.2 % 256 ≠ ctx

/-- Flag or unflag PRESTAGE in a context's entries (R99). -/
def calFlag (cal : Tbl Nat) (ctx : Nat) (pre : Bool) : Tbl Nat :=
  cal.map fun e => if e.2 % 256 = ctx then (e.1, 32768 + (if pre then 16384 else 0) + ctx) else e

/-! ### Reservations (R101, R102, R116) -/

/-- Add one use of a resource: uses under one key count once, as steady when any of them is steady (R101). -/
def mergeUse (key slots : Nat) (pre : Bool) : List (Nat × Nat × Bool) → List (Nat × Nat × Bool)
  | [] => [(key, slots, pre)]
  | (k, n, b) :: l => if k = key then (k, n, b && pre) :: l else (k, n, b) :: mergeUse key slots pre l

/-- The steady and the pre-stage total of a list of uses. -/
def totals (l : List (Nat × Nat × Bool)) : Nat × Nat :=
  l.foldl (fun a u => if u.2.2 then (a.1, a.2 + u.2.1) else (a.1 + u.2.1, a.2)) (0, 0)

/-- The uses of ingress slice-port p, by stream context. -/
def ingUses (rs : List Route) (p : Nat) : List (Nat × Nat × Bool) :=
  rs.foldl (fun a r => r.ing.foldl (fun a e => if e.1 = p then mergeUse e.2 r.slots r.pre a else a) a) []

/-- The uses of egress slice-port p, by flow and stream. -/
def egrUses (rs : List Route) (p : Nat) : List (Nat × Nat × Bool) :=
  rs.foldl (fun a r => r.egr.zipIdx.foldl (fun a e =>
    if e.1 = p then mergeUse (r.flow * 4 + e.2) r.slots r.pre a else a) a) []

/-- Steady and pre-stage cells of link k: the egress reservations of its slice-ports (R116). -/
def linkUse (rs : List Route) (k : Nat) : Nat × Nat :=
  (lacePorts k).foldl (fun a p => let u := totals (egrUses rs p); (a.1 + u.1, a.2 + u.2)) (0, 0)

/-- The reservations that remain after every pending end time: replaced and ending routes are gone, and the others
are steady (R152, R153). -/
def afterEnds (rs : List Route) : List Route :=
  (rs.filter fun r => !(rs.any fun q => q.replaces == some r.req) &&
    (match r.ends with | some e => e.keep | none => true)).map fun r => { r with pre := false }

/-- Capacity of a link in cells per calendar period (Table 03.7): by RATE code and lanes. -/
def linkCapacity (rate lanes : Nat) : Nat :=
  match rate, lanes with
  | 2, 4 => 851 | 2, 3 => 638 | 3, 4 => 2129 | 3, 3 => 1596
  | 4, 4 => 4400 | 4, 3 => 3300 | 5, 4 => 8801 | 5, 3 => 6600 | _, _ => 0

/-- The steady limit of link k (R116). -/
def State.linkSteady (s : State) (k : Nat) : Nat := s.fld F.TWL_LK_STAT_CAP k * s.fld F.TWL_LK_LIMIT_STEADY 0 / 64

/-- The pre-stage limit of link k (R116). -/
def State.linkPre (s : State) (k : Nat) : Nat := s.fld F.TWL_LK_STAT_CAP k * s.fld F.TWL_LK_LIMIT_PRESTAGE 0 / 64

/-- Whether totals keep their limits now and, for a pre-stage, after the end times (R102, R116, R152). -/
def keepsLimits (now after : Nat × Nat) (steady pre : Nat) (preReq : Bool) : Bool :=
  decide (now.1 + now.2 ≤ pre) && (if preReq then decide (after.1 ≤ steady) else decide (now.1 ≤ steady))

/-- Whether the reservations of a list of routes keep the limits of R102 on ingress slice-port p. -/
def State.ingFits (s : State) (rs : List Route) (p : Nat) (preReq : Bool) : Bool :=
  keepsLimits (totals (ingUses rs p)) (totals (ingUses (afterEnds rs) p)) (s.fld F.TWL_CAL_LIMIT_STEADY 0)
    (s.fld F.TWL_CAL_LIMIT_PRESTAGE 0) preReq

/-- The same on egress slice-port p. -/
def State.egrFits (s : State) (rs : List Route) (p : Nat) (preReq : Bool) : Bool :=
  keepsLimits (totals (egrUses rs p)) (totals (egrUses (afterEnds rs) p)) (s.fld F.TWL_CAL_LIMIT_STEADY 0)
    (s.fld F.TWL_CAL_LIMIT_PRESTAGE 0) preReq

/-- The same on Lace link k, under R116. -/
def State.linkFits (s : State) (rs : List Route) (k : Nat) (preReq : Bool) : Bool :=
  keepsLimits (linkUse rs k) (linkUse (afterEnds rs) k) (s.linkSteady k) (s.linkPre k) preReq

/-- The states of TWL_SP_STAT.STATE (Table 03.11). -/
def spInService : Nat := 0
def spSwapPending : Nat := 1
def spOnSpare : Nat := 2
def spFailed : Nat := 3
def spGated : Nat := 4

/-- Whether a slice-port takes reservations: not failed and not of a gated shim (R134, R139). -/
def State.portUsable (s : State) (p : Nat) : Bool :=
  s.fld F.TWL_SP_STAT_STATE p != spFailed && s.fld F.TWL_SP_STAT_STATE p != spGated

/-- The lowest stream context of slice-port p that no route uses (R98). -/
def freeCtx (rs : List Route) (p : Nat) : Option Nat :=
  (List.range 256).find? fun c => !(rs.any fun r => r.ing.contains (p, c))

/-- The replication set that the settled routes of a flow need (R112). -/
def setOf (rs : List Route) (flow : Nat) : BitVec 168 :=
  rs.foldl (fun a r => if r.flow = flow then r.egr.foldl (fun a p => a ||| BitVec.twoPow 168 p) a else a) 0

/-- Whether a replication set is at hand: in use already, or fewer than 65,535 are (R112). -/
def State.setAvailable (s : State) (b : BitVec 168) : Bool :=
  s.twl.rsets.any (fun e => e.2 == b) || decide (s.twl.rsets.length < 65535)

/-! ### Admission (R104 to R106, Table 03.4) -/

/-- Place the streams of a request on ingress slice-ports: a stream of the flow that already enters on the shim is
shared, otherwise the lowest-numbered slice-port with room takes it (R91, R96, R101). -/
def State.placeIng (s : State) (h : RouteHop) : List (List Nat) → Nat → Route → Except Status Route
  | [], _, r => .ok r
  | ports :: more, j, r =>
    let rs := s.twl.routes
    match rs.findSome? (fun q => if q.flow = h.flow ∧ q.src = h.src then
        (q.ing[j]?).bind (fun e => if ports.contains e.1 then some e else none) else none) with
    | some e => s.placeIng h more (j + 1) { r with ing := r.ing ++ [e] }
    | none =>
      let usable := ports.filter s.portUsable
      let roomy := usable.filter fun p => s.ingFits (rs ++ [{ r with ing := r.ing ++ [(p, 256)] }]) p r.pre
      match roomy with
      | [] => .error (if usable.isEmpty then .NO_ROOM else if r.pre then .NO_PATH else if h.atSource then .NO_ROOM else .NO_PATH)
      | _ =>
        match roomy.findSome? (fun p => (freeCtx (rs ++ [r]) p).map (p, ·)) with
        | none => .error (if r.pre then .NO_PATH else .NO_ROOM)
        | some e => s.placeIng h more (j + 1) { r with ing := r.ing ++ [e] }

/-- Place the streams of a request on egress slice-ports: one copy per shim (R101). -/
def State.placeEgr (s : State) (h : RouteHop) : Nat → Nat → Route → Except Status Route
  | 0, _, r => .ok r
  | n + 1, j, r =>
    let rs := s.twl.routes
    match rs.findSome? (fun q => if q.flow = h.flow ∧ q.src = h.src then
        (q.egr[j]?).bind (fun p => if h.egress.contains p then some p else none) else none) with
    | some p => s.placeEgr h n (j + 1) { r with egr := r.egr ++ [p] }
    | none =>
      let usable := h.egress.filter s.portUsable
      match usable.find? (fun p => s.egrFits (rs ++ [{ r with egr := r.egr ++ [p] }]) p r.pre) with
      | some p => s.placeEgr h n (j + 1) { r with egr := r.egr ++ [p] }
      | none => .error (if usable.isEmpty then .NO_ROOM else if r.pre then .NO_PATH else if h.atDest then .NO_ROOM else .NO_PATH)

/-- The checks of Table 03.4 at one hop; the route that the hop would hold, or the refusal. -/
def State.admitRoute (s : State) (h : RouteHop) : Except Status Route :=
  if s.flag F.TWL_STATUS_DRAINING 0 then .error .DRAINING
  else if !s.flag F.TWL_STATUS_RUN 0 then .error .NOT_READY
  else if !dirValid (s.dirEntry h.flow) then .error .BAD_ARG
  else if !s.flag F.TWL_STATUS_DIR_READY 0 then .error .NOT_READY
  else if 3 < h.relays then .error .NO_PATH
  else
    let r : Route := ⟨h.req, h.flow, h.src, s.slotsOf h.carriage, [], [], h.pre.isSome, h.pre, s.twl.orders, false, false,
      h.atDest, h.replaces⟩
    match s.placeIng h h.ingress 0 r with
    | .error e => .error e
    | .ok r => match s.placeEgr h h.ingress.length 0 r with
      | .error e => .error e
      | .ok r =>
        let rs := s.twl.routes ++ [r]
        if (r.egr.filterMap laceOf).any (fun k => !s.linkFits rs k r.pre) then .error .NO_PATH
        else if !s.setAvailable (setOf rs h.flow) then .error (if r.pre then .NO_PATH else .NO_ROOM)
        else .ok r

/-- Hold what a request needs, or refuse it with TWL_ADMIT_REFUSED counted (R104, R105). -/
def State.hold (s : State) (h : RouteHop) : State × Status :=
  match s.admitRoute h with
  | .error e => (s.count .TWL_ADMIT_REFUSED 0 1, e)
  | .ok r => ({ s with twl := { s.twl with routes := s.twl.routes ++ [r], orders := s.twl.orders + 1 } }, .OK)

/-- ROUTE_REQUEST (R104, R105): a request reaches this hop. -/
def execRouteRequest (h : RouteHop) (s : State) : Host.Outcome State Fault Refusal :=
  let x := s.hold h
  .next (x.1.answer x.2)

/-! ### Settling and releasing (R99 to R101, R104, R105, R124) -/

/-- TWL_ST_CFG of context c of slice-port p from the settled routes (Table 03.10). -/
def State.showCtx (s : State) (p c : Nat) : State :=
  let us := (s.twl.routes.filter fun r => r.settled && r.ing.contains (p, c))
  let w : Nat := match us with
    | [] => 0
    | r :: _ => 2 ^ 31 + (if us.all (·.pre) then 2 ^ 30 else 0) + r.slots % 2048 * 2 ^ 19 + r.flow % 2 ^ 19
  s.setReg .TWL_ST_CFG (p * 256 + c) (BitVec.ofNat 64 w)

/-- The reservation registers of a slice-port from the settled routes. -/
def State.showPort (s : State) (p : Nat) : State :=
  let rs := s.twl.routes.filter (·.settled)
  let u := ingUses rs p
  let i := totals u
  let e := totals (egrUses rs p)
  let s := s.setReg .TWL_SP_RES p (BitVec.ofNat 64 (i.2 % 4096 * 65536 + i.1 % 4096))
  let s := s.setReg .TWL_SP_EGR_RES p (BitVec.ofNat 64 (e.2 % 4096 * 65536 + e.1 % 4096))
  let s := s.setFld F.TWL_SP_STAT_STREAMS p u.length
  match laceOf p with
  | none => s
  | some k =>
    let l := linkUse rs k
    s.setReg .TWL_LK_RES k (BitVec.ofNat 64 (l.2 % 65536 * 65536 + l.1 % 65536))

/-- Show everything that a route touches. -/
def State.showRoute (s : State) (r : Route) : State :=
  let s := r.ing.foldl (fun s e => (s.showCtx e.1 e.2).showPort e.1) s
  r.egr.foldl (fun s p => s.showPort p) s

/-- Give a flow the replication set its settled routes need, from the next period boundary (R112, R124). -/
def State.deliver (s : State) (flow : Nat) : State :=
  let b := setOf (s.twl.routes.filter (·.settled)) flow
  if b = 0 then { s with twl := { s.twl with delivNext := s.twl.delivNext ++ [(flow, 0)] } }
  else match s.twl.rsets.find? (fun e => e.2 == b) with
    | some e => { s with twl := { s.twl with delivNext := s.twl.delivNext ++ [(flow, e.1)] } }
    | none => match (List.range 65535).find? (fun n => Tbl.get (fun _ => 0) s.twl.rsets (n + 1) == 0) with
      | none => s
      | some n =>
        let t := Tbl.set (fun _ => 0) (n + 1) b s.twl.rsets
        ({ s with twl := { s.twl with rsets := t, delivNext := s.twl.delivNext ++ [(flow, n + 1)] } }).setReg
          .TWL_RSET_USED 0 (BitVec.ofNat 64 t.length)

/-- Write a context into the shadow calendar of its slice-port, or follow its pre-stage flag (R99, R100). -/
def State.calWrite (s : State) (p c slots : Nat) (pre : Bool) : State :=
  let x := s.port p
  let has := x.shadow.any fun e => e.2 % 256 == c
  s.setPort p { x with shadow := if has then calFlag x.shadow c pre else calReserve x.shadow c slots pre, flip := true }

/-- Whether a context is flagged PRESTAGE: every settled route that uses it is (R99). -/
def State.ctxPre (s : State) (p c : Nat) : Bool :=
  (s.twl.routes.filter fun r => r.settled && r.ing.contains (p, c)).all (·.pre)

/-- Settle a request: its contexts enter the shadow calendars, and its delivery entries are written (R99, R100, R104). -/
def State.settle (s : State) (req : Nat) : State :=
  match s.twl.routes.find? (fun r => r.req == req) with
  | none => s
  | some r =>
    let s := s.setRoutes (s.twl.routes.map fun q => if q.req = req then { q with settled := true } else q)
    let s := r.ing.foldl (fun s e => s.calWrite e.1 e.2 r.slots (s.ctxPre e.1 e.2)) s
    (s.showRoute r).deliver r.flow

/-- Release a route: what no other route uses is freed (R104, R105, R153). -/
def State.release (s : State) (req : Nat) : State :=
  match s.twl.routes.find? (fun r => r.req == req) with
  | none => s
  | some r =>
    let s := s.setRoutes (s.twl.routes.filter fun q => q.req ≠ req)
    if !r.settled then s
    else
      let s := r.ing.foldl (fun s e =>
        let x := s.port e.1
        if s.twl.routes.any (fun q => q.settled && q.ing.contains e) then
          s.setPort e.1 { x with shadow := calFlag x.shadow e.2 (s.ctxPre e.1 e.2), flip := true }
        else s.setPort e.1 { x with shadow := calRelease x.shadow e.2, flip := true, ctxSeq := Tbl.set (fun _ => 0) e.2 0 x.ctxSeq }) s
      (s.showRoute r).deliver r.flow

/-- The record of a route, held or admitted. -/
def State.route (s : State) (req : Nat) : Option Route := s.twl.routes.find? fun r => r.req == req

/-- REROUTE_STREAM (R120): the management core moves a stream to a new pre-staged route; a stream with no other path
stays, and is reported UNPROTECTED. -/
def execRerouteStream (old : Nat) (link : Fin 16) (h : RouteHop) (s : State) : Host.Outcome State Fault Refusal :=
  let x := s.hold { h with replaces := some old }
  .next (if x.2 = .OK then x.1.answer .OK else (x.1.awlFabric 1 h.flow link).answer x.2)

/-! ### Cell headers (Table 03.2) -/

/-- A field of a cell header. -/
def hdrBits (h : CellHdr) (lo len : Nat) : Nat := (h.toNat >>> lo) % 2 ^ len

/-- A cell header with a field replaced. -/
def hdrPut (h : CellHdr) (lo len v : Nat) : CellHdr :=
  (h &&& ~~~(BitVec.ofNat 128 ((2 ^ len - 1) * 2 ^ lo))) ||| BitVec.ofNat 128 (v % 2 ^ len * 2 ^ lo)

def cellKind (h : CellHdr) : Nat := hdrBits h 125 3
def cellHops (h : CellHdr) : Nat := hdrBits h 121 2
def cellFlow (h : CellHdr) : Nat := hdrBits h 99 19
def cellSrc (h : CellHdr) : Nat := hdrBits h 80 19
def cellSeq (h : CellHdr) : Nat := hdrBits h 56 16
def cellFrame (h : CellHdr) : Nat := hdrBits h 48 8
def cellLine (h : CellHdr) : Nat := hdrBits h 35 13
def cellDchip (h : CellHdr) : Nat := hdrBits h 25 10
def cellDport (h : CellHdr) : Nat := hdrBits h 17 8

/-! ### Replication and relaying (R112, R115, R124) -/

/-- Send a cell on link k: relayed cells count in TWL_LK_FWD as well. A link that carries no cells sends none. -/
def State.sendLace (s : State) (k : Nat) (h : CellHdr) (relayed : Bool) : State :=
  if s.fld F.TWL_LK_STAT_LANES k = 0 then s
  else
    let s := if relayed then s.count .TWL_LK_FWD k 1 else s
    (s.count .TWL_LK_TX_CELLS k 1).emit (.cell k h)

/-- Forward a cell on link k; a relay increments HOPS, and never forwards a cell whose HOPS is 3 (R115). -/
def State.forward (s : State) (k : Nat) (h : CellHdr) (relay : Bool) : State :=
  if relay then
    if cellHops h = 3 then (s.count .TWL_HOP_DROP 0 1).irq Irq.TWL_HOP_LIMIT
    else s.sendLace k (hdrPut h 121 2 (cellHops h + 1)) true
  else s.sendLace k h false

/-- Whether link k has stopped forwarding a flow (R119). -/
def State.stoppedOn (s : State) (flow k : Nat) : Bool :=
  let rs := s.twl.routes.filter fun r => r.flow == flow && r.egr.any fun p => laceOf p == some k
  !rs.isEmpty && rs.all (·.stopped)

/-- Deliver a MEDIA cell to its flow's replication set; set 0 discards it (R112, R124). Local egress slice-ports
receive their copies as cells of their own. -/
def State.replicate (s : State) (h : CellHdr) (relay : Bool) : State :=
  let n := Tbl.get (fun _ => 0) s.twl.deliv (cellFlow h)
  if n = 0 then s.count .TWL_NO_ROUTE 0 1
  else
    let b := Tbl.get (fun _ => 0) s.twl.rsets n
    (List.range 16).foldl (fun s k =>
      if (lacePorts k).any (fun p => b.getLsbD p) && !s.stoppedOn (cellFlow h) k then s.forward k h relay else s) s

/-- A BULK or CTRL cell toward another part: by its route table, or discarded (R115). -/
def State.relayArb (s : State) (h : CellHdr) (relay : Bool) : State :=
  match Tbl.get (fun _ => 0) s.twl.toward (cellDchip h) with
  | 0 => s.count .TWL_NO_ROUTE 0 1
  | k + 1 => s.forward k h relay

/-! ### Receiving cells (R92 to R95, R113, R115) -/

/-- The SEQ check of a MEDIA stream at an egress shim: missing numbers are counted and marked (R95). -/
def State.checkSeq (s : State) (p : Nat) (h : CellHdr) : State :=
  let x := s.port p
  let key := cellFlow h * 2 ^ 19 + cellSrc h
  let was := Tbl.get (fun _ => 0) x.last key
  let now := cellSeq h + cellFrame h * 2 ^ 16 + cellLine h * 2 ^ 24 + 1
  let s := s.setPort p { x with last := Tbl.set (fun _ => 0) key now x.last }
  let missing := (cellSeq h + 65536 - ((was - 1) % 65536 + 1) % 65536) % 65536
  if was = 0 ∨ missing = 0 then s
  else
    let g : GapMark := ⟨p, cellFlow h, missing, (was - 1) / 2 ^ 16 % 256, (was - 1) / 2 ^ 24, cellFrame h, cellLine h⟩
    ({ s with twl := { s.twl with gaps := s.twl.gaps ++ [g] } }).count .TWL_SP_SEQ_GAP p missing

/-- A corrected cell at slice-port p: from link k when it arrives over Lace, otherwise from the core at its egress
shim. A CTRL cell may carry a part's link-state view. -/
def State.takeCell (s : State) (p : Nat) (fromLace : Bool) (h : CellHdr) (view : List (Nat × Nat)) : State :=
  let k := match laceOf p with | some k => k | none => 0
  let s := if fromLace then s.count .TWL_LK_RX_CELLS k 1 else s.count .TWL_SP_CELLS_OUT p 1
  if cellKind h = 0 then
    if fromLace then s.replicate h true else s.checkSeq p h
  else if cellKind h = 3 then s
  else if fromLace then
    if cellDchip h = s.domainId then
      let x := s.port (cellDport h)
      s.setPort (cellDport h) { x with buffer := x.buffer + 1 }
    else s.relayArb h true
  else
    let x := s.port p
    let s := s.setPort p { x with buffer := x.buffer - 1 }
    { s with twl := { s.twl with toward := view.foldl (fun t e => Tbl.set (fun _ => 0) e.1 e.2 t) s.twl.toward } }

/-- CELL_RECEIVE (R94, R95, R112, R115, R124): the symbol errors of the four codewords, 3 for three or more; a cell
with such a codeword is discarded, and so is one whose KIND is reserved. -/
def execCellReceive (p : Fin 168) (fromLace : Bool) (h : CellHdr) (e0 e1 e2 e3 : Fin 4) (view : List (Nat × Nat))
    (s : State) : Host.Outcome State Fault Refusal :=
  let es := [e0.val, e1.val, e2.val, e3.val]
  let fixed := (es.filter fun e => e == 1 || e == 2).length
  .next (if !s.flag F.TWL_STATUS_RUN 0 then s
    else
      let s := s.count .TWL_CW_CORR 0 fixed
      let s := match laceOf p with
        | some k => if fromLace then s.count .TWL_LK_CW_CORR k fixed else s
        | none => s
      if es.contains 3 then (s.count .TWL_CW_UNCORR 0 1).irq Irq.TWL_CW_UNCORR
      else if 4 ≤ cellKind h then s.count .TWL_BAD_HDR 0 1
      else s.takeCell p (fromLace && (laceOf p).isSome) h view)

/-! ### Arbitrated traffic (R107 to R111) -/

/-- Queue q of slice-port p. -/
def SlicePort.queue (x : SlicePort) (q : Nat) : AQueue := Tbl.get (fun _ => default) x.queues q

/-- Set queue q of slice-port p, and show it in TWL_AQ_STAT. -/
def State.setQueue (s : State) (p q : Nat) (a : AQueue) : State :=
  let x := s.port p
  let s := s.setPort p { x with queues := Tbl.set (fun _ => default) q a x.queues }
  s.setReg .TWL_AQ_STAT (p * 64 + q) (BitVec.ofNat 64
    ((if a.open_ then 2 ^ 31 else 0) + a.dchip % 1024 * 2 ^ 21 + a.dport % 256 * 2 ^ 13 + a.cells.length % 128))

/-- Whether a queue's head cell has room or credit (R108). -/
def State.eligible (s : State) (a : AQueue) : Bool :=
  a.open_ && !a.cells.isEmpty &&
  (if a.dchip = s.domainId then decide ((s.port a.dport).buffer < 256)
   else decide (0 < Tbl.get (fun _ => 0) s.twl.credit (a.dchip * 256 + a.dport)))

/-- The eligible queues of slice-port p. -/
def State.eligibles (s : State) (p : Nat) : List (Nat × AQueue) :=
  (s.port p).queues.filter fun e => s.eligible e.2

/-- Show the number of eligible queues, and note the largest of the period (R110). -/
def State.showEligible (s : State) (p : Nat) : State :=
  let n := (s.eligibles p).length
  let x := s.port p
  (s.setPort p { x with most := max x.most n }).setFld F.TWL_SP_AQ_ACTIVE_N p n

/-- ARBITRATED_QUEUE_OPEN (R107): the lowest closed queue opens; a 65th returns NO_ROOM. -/
def execArbitratedQueueOpen (p : Fin 168) (branch : Fin 5) (dchip : Fin 1024) (dport : Fin 168) (s : State) :
    Host.Outcome State Fault Refusal :=
  .next (match (List.range 64).find? (fun q => !((s.port p).queue q).open_) with
    | none => s.answer .NO_ROOM
    | some q =>
      let s := s.setQueue p q { (default : AQueue) with open_ := true, branch := branch, dchip := dchip, dport := dport }
      (s.setFld F.TWL_SP_STAT_AQ_OPEN p (s.fld F.TWL_SP_STAT_AQ_OPEN p + 1)).answer .OK)

/-- Place a cell in a queue with room: the queue's number and sequence enter its header (Table 03.2). -/
def State.placeCell (s : State) (p q : Nat) (h : CellHdr) : State :=
  let x := s.port p
  let a := x.queue q
  let h := hdrPut (hdrPut (hdrPut h 99 19 q) 56 16 a.seq) 118 3 a.branch
  let h := hdrPut (hdrPut (hdrPut (hdrPut h 25 10 a.dchip) 17 8 a.dport) 121 2 0) 35 21 0
  let s := s.setPort p { x with placed := x.placed + 1 }
  s.setQueue p q { a with cells := a.cells ++ [⟨h, x.placed⟩], seq := (a.seq + 1) % 65536 }

/-- ARBITRATED_CELL_ENQUEUE (R107): a cell of KIND BULK or CTRL enters its queue; at 64 cells its requester is held,
and a draining or stopped Twill takes none (R136). -/
def execArbitratedCellEnqueue (p : Fin 168) (q : Fin 64) (h : CellHdr) (s : State) : Host.Outcome State Fault Refusal :=
  let a := (s.port p).queue q
  .next (if s.flag F.TWL_STATUS_DRAINING 0 then s.answer .DRAINING
    else if !s.flag F.TWL_STATUS_RUN 0 || !a.open_ then s.answer .NOT_READY
    else if a.cells.length < 64 then ((s.placeCell p q h).showEligible p).answer .OK
    else s.setQueue p q { a with waiting := a.waiting ++ [h] })

/-- Of some branches with their service and weight, the numbers of those least served for their weight (R109). -/
def leastServed (l : List (Nat × Nat × Nat)) : List Nat :=
  (l.filter fun b => l.all fun c => decide (b.2.1 * c.2.2 ≤ c.2.1 * b.2.2)).map (·.1)

/-- The branches of a level: each value of `key`, the cells its queues have sent, and its weight. -/
def levelOf (key : AQueue → Nat) (all elig : List (Nat × AQueue)) : List (Nat × Nat × Nat) :=
  let ks := (elig.map fun e => key e.2).foldl (fun l k => if l.contains k then l else l ++ [k]) []
  ks.map fun k => (k, (all.filter fun e => key e.2 == k).foldl (fun n e => n + e.2.sent) 0,
    (elig.filter fun e => key e.2 == k).length)

/-- The queue that holds the oldest head cell. -/
def oldest (l : List (Nat × AQueue)) : Option (Nat × AQueue) :=
  l.foldl (fun b e => match b with
    | none => some e
    | some c => if (e.2.cells.head?.map (·.age)).getD 0 < (c.2.cells.head?.map (·.age)).getD 0 then some e else b) none

/-- Keep, at one level, the queues of the branch that wins: the least served for its weight, and among equals the one
with the oldest head cell (R109, Table 03.6). -/
def winLevel (key : AQueue → Nat) (all elig : List (Nat × AQueue)) : List (Nat × AQueue) :=
  let best := leastServed (levelOf key all elig)
  match oldest (elig.filter fun e => best.contains (key e.2)) with
  | none => []
  | some w => elig.filter fun e => key e.2 == key w.2

/-- The queue that a free slot of slice-port p serves (R109). -/
def State.arbitrate (s : State) (p : Nat) : Option (Nat × AQueue) :=
  let all := (s.port p).queues
  let l1 := winLevel (·.branch) all (s.eligibles p)
  let l2 := winLevel (·.dchip) (all.filter fun e => l1.any fun w => w.2.branch == e.2.branch) l1
  let least := l2.filter fun e => l2.all fun f => decide (e.2.sent ≤ f.2.sent)
  oldest least

/-- Send the head cell of the chosen queue: into the destination's buffer, or over Lace against credit (R108, R111). -/
def State.sendArb (s : State) (p q : Nat) (a : AQueue) : State :=
  match a.cells with
  | [] => s
  | c :: rest =>
    let s := s.setQueue p q { a with cells := rest, sent := a.sent + 1 }
    let s := match a.waiting with
      | [] => s
      | h :: more => (s.setQueue p q { (s.port p).queue q with waiting := more }).placeCell p q h
    let s := s.count .TWL_SP_CELLS_IN p 1
    if a.dchip = s.domainId then
      let x := s.port a.dport
      s.setPort a.dport { x with buffer := x.buffer + 1 }
    else
      let k := a.dchip * 256 + a.dport
      let t := Tbl.set (fun _ => 0) k (Tbl.get (fun _ => 0) s.twl.credit k - 1) s.twl.credit
      ({ s with twl := { s.twl with credit := t } }).relayArb c.hdr false

/-- Send a scheduled cell of context c: its FLOW and SEQ enter the header, and the core replicates it (R98, R112). On
a Lace slice-port the cell was replicated when it arrived. -/
def State.sendMedia (s : State) (p c : Nat) (h : CellHdr) : State :=
  let x := s.port p
  let n := Tbl.get (fun _ => 0) x.ctxSeq c
  let h := hdrPut (hdrPut (hdrPut h 125 3 0) 99 19 (s.fld F.TWL_ST_CFG_FLOW (p * 256 + c))) 56 16 n
  let h := hdrPut (hdrPut (hdrPut h 121 2 0) 118 3 0) 0 35 0
  let s := s.setPort p { x with ctxSeq := Tbl.set (fun _ => 0) c ((n + 1) % 65536) x.ctxSeq }
  let s := (s.count .TWL_SP_CELLS_IN p 1).count .TWL_ST_CELLS (p * 256 + c) 1
  if (laceOf p).isSome then s else s.replicate h false

/-- CALENDAR_SLOT (R98, R108, R109, R111, R112): in a slot of its calendar the slice-port sends the cell its stream has
ready, otherwise an arbitrated cell or nothing. -/
def execCalendarSlot (p : Fin 168) (slot : Fin 4096) (ready : Option CellHdr) (s : State) :
    Host.Outcome State Fault Refusal :=
  if !s.flag F.TWL_STATUS_RUN 0 || s.flag F.TWL_STATUS_DRAINING 0 then .next s
  else
    let s := s.showEligible p
    let e := Tbl.get (fun _ => 0) (s.port p).cal slot
    match ready, decide (32768 ≤ e) with
    | some h, true => .next (s.sendMedia p (e % 256) h)
    | _, _ =>
      let s := s.setPort p { s.port p with free := (s.port p).free + 1 }
      match s.arbitrate p with
      | none => .next s
      | some w => .next ((s.sendArb p w.1 w.2).showEligible p)

/-- Credit returned by link-control cells for a destination makes its queues eligible (R20, R108). -/
def State.creditReturn (s : State) (dchip dport n : Nat) : State :=
  let k := dchip * 256 + dport
  { s with twl := { s.twl with credit := Tbl.set (fun _ => 0) k (Tbl.get (fun _ => 0) s.twl.credit k + n) s.twl.credit } }

/-! ### Links that lose a lane (R119, R120) -/

/-- The routes of link k, in order of admission. -/
def State.routesOn (s : State) (k : Nat) : List Route :=
  s.twl.routes.filter fun r => r.settled && r.egr.any fun p => laceOf p == some k

/-- The cells that the running routes of link k reserve. -/
def runningLoad (rs : List Route) (k : Nat) : Nat :=
  let u := linkUse (rs.filter fun r => !r.stopped) k
  u.1 + u.2

/-- Stop or resume a route. -/
def State.setStopped (s : State) (req : Nat) (b : Bool) : State :=
  s.setRoutes (s.twl.routes.map fun r => if r.req = req then { r with stopped := b } else r)

/-- Stop whole streams of link k, the most recently admitted first, until the rest fit its capacity (R119). -/
def State.shedFrom (s : State) (k : Nat) : List Route → State
  | [] => s
  | r :: rs =>
    if runningLoad s.twl.routes k ≤ s.fld F.TWL_LK_STAT_CAP k then s
    else if r.stopped then s.shedFrom k rs
    else (((s.setStopped r.req true).count .TWL_LK_SHED k 1).event Irq.TWL_SHED k (r.flow % 65536)).shedFrom k rs

/-- Shed streams of a degraded link (R119). -/
def State.shedLink (s : State) (k : Nat) : State := s.shedFrom k (s.routesOn k).reverse

/-- Resume stopped streams of link k, the earliest admitted first, while the reservations stay within its capacity
(R119). -/
def State.resumeLink (s : State) (k : Nat) : State :=
  (s.routesOn k).foldl (fun s r =>
    if !r.stopped then s
    else
      let t := s.setStopped r.req false
      if runningLoad t.twl.routes k ≤ s.fld F.TWL_LK_STAT_CAP k then t else s) s

/-! ### The calendar period boundary (R100, R102, R110, R119, R124, R133, R153) -/

/-- Whether a pending take, an output or a sender still uses a route of this part as destination. -/
def State.routeUsed (s : State) (req : Nat) : Bool :=
  s.tks.takes.any (fun t => t.req == some req) || s.egr.outs.any (fun e => e.2.route == some req) ||
  s.egr.vsnd.any (fun e => e.2.route == some req || (e.2.next.map (·.2)) == some req)

/-- Whether a route's end time has passed (R102). -/
def State.hasEnded (s : State) (r : Route) : Bool :=
  match r.ends with | some e => decide (e.time < s.tbNow e.tb) | none => false

/-- Convert or release the reservations past their end time; the route a converted one replaces is released (R102,
R120, R153). -/
def State.endRoute (s : State) (r : Route) : State :=
  match r.ends with
  | some e =>
    if e.keep then
      let s := s.setRoutes (s.twl.routes.map fun q => if q.req = r.req then { q with pre := false, ends := none, replaces := none } else q)
      let s := r.ing.foldl (fun s e => s.calWrite e.1 e.2 r.slots (s.ctxPre e.1 e.2)) s
      let s := s.showRoute r
      match r.replaces with
        | some old => if s.routeUsed old then s else s.release old
        | none => s
    else if s.routeUsed r.req then
      s.setRoutes (s.twl.routes.map fun q => if q.req = r.req then { q with ends := none } else q)
    else s.release r.req
  | none => s

/-- Flip the calendar banks of slice-port p (R100). -/
def SlicePort.flipped (x : SlicePort) : SlicePort := if x.flip then { x with cal := x.shadow, flip := false } else x

/-- The fairness bound of R110 on slice-port p over two periods, its breaches, and the start of the next period. -/
def State.checkFair (s : State) (p : Nat) : State :=
  let x := s.port p
  let bound := (x.free + x.freePrev) / max 1 (max x.most x.mostPrev)
  let bad := (x.queues.filter fun e => e.2.cont && e.2.contPrev && decide (e.2.sent + e.2.sentPrev < bound)).length
  let now := s.eligibles p
  let x := { x with
    queues := Tbl.mapVals (fun _ => default) (fun q a => { a with
      sentPrev := a.sent, sent := 0, contPrev := a.cont, cont := now.any fun f => f.1 == q }) x.queues
    freePrev := x.free, free := 0, mostPrev := x.most, most := now.length }
  let s := (s.setReg .TWL_SP_FREE p (BitVec.ofNat 64 x.freePrev)).setPort p x
  if bad = 0 then s else (s.count .TWL_SP_FAIR_VIOL p bad).irq Irq.TWL_FAIR_VIOL

/-- Delivery changes take effect, and replication sets that no flow uses are free again (R112, R124). -/
def State.applyDelivery (s : State) : State :=
  let d := s.twl.delivNext.foldl (fun t e => Tbl.set (fun _ => 0) e.1 e.2 t) s.twl.deliv
  let rsets := s.twl.rsets.filter fun e => d.any fun f => f.2 == e.1
  ({ s with twl := { s.twl with deliv := d, delivNext := [], rsets := rsets } }).setReg .TWL_RSET_USED 0
    (BitVec.ofNat 64 rsets.length)

/-- Show in TWL_SPARE_MAP which slice-port of its quadrant a spare serves; 0x1F free (Table 03.10). -/
def State.setSpare (s : State) (quad spare v : Nat) : State :=
  s.setFld (if spare = 0 then F.TWL_SPARE_MAP_S0 else F.TWL_SPARE_MAP_S1) quad v

/-! The units of R559: a logical unit u, and its physical carriers x by class. -/

/-- The first physical index of a unit's class (R559). -/
def physBase (u : Nat) : Nat := if u < 16 then 0 else if u < 17 then 18 else if u < 25 then 20 else if u < 41 then 29 else 64

/-- The physical unit that carries a logical unit (R559). -/
def State.carrier (s : State) (u : Nat) : Nat := physBase u + s.fld F.RSL_UNIT_STAT_PHYS u

/-- A unit runs on physical unit x; its old carrier enters a state (Table 15.2). -/
def State.unitMoved (s : State) (u x oldState : Nat) : State :=
  let o := s.carrier u
  let s := (s.setFld F.RSL_PHYS_STAT_STATE o oldState).setFld F.RSL_PHYS_STAT_LOGICAL o 0xFF
  let s := { s with rsl := { s.rsl with
    carried := Tbl.set (fun _ => 0) o (u + 1) s.rsl.carried, swapTo := Tbl.set (fun _ => 0) u 0 s.rsl.swapTo } }
  let s := (s.setFld F.RSL_PHYS_STAT_STATE x 0).setFld F.RSL_PHYS_STAT_LOGICAL x u
  let s := (s.setFld F.RSL_UNIT_STAT_PHYS u (x - physBase u)).setFld F.RSL_UNIT_STAT_STATE u 0
  let s := (s.setFld F.RSL_UNIT_STAT_STATUS u Status.OK.code).setFlag F.RSL_UNIT_STAT_DEGRADED u false
  (s.count .RSL_UNIT_SWAPS u 1).event Irq.RSL_SWAP_DONE u 0

/-! The repair map and the rows of arrays (R534, R536). -/

/-- Record a repair in the map; a full map takes none, and says so (R536). -/
def State.addRepair (s : State) (kind : RepairKind) (array place spare : Nat) : State :=
  if s.rsl.map.length < 32768 then
    let e : Repair := ⟨kind, array, place, spare, (s.reg .INS_OPSEC 0).toNat / 3600⟩
    let s := { s with rsl := { s.rsl with map := s.rsl.map ++ [e] } }
    s.setFld F.RSL_REPAIR_USED_N 0 s.rsl.map.length
  else (s.setFlag F.RSL_STATUS_MAP_FULL 0 true).event Irq.RSL_MAP_FULL array 0

/-- No spare is free (R534, Table 15.7). -/
def State.spareLow (s : State) : State := (s.setFlag F.RSL_STATUS_SPARE_LOW 0 true).irq Irq.RSL_SPARE_LOW

/-- Repair a row of an SRAM macro or an MRAM bank: by a spare row, else by a spare column where the errors lie in one, else
not at all (R534). -/
def State.repairRow (s : State) (b : BadRow) : State :=
  if b.mram then
    let n := Tbl.get (fun _ => 0) s.rsl.mramRows b.array
    if n < 2 then
      ({ s with rsl := { s.rsl with mramRows := Tbl.set (fun _ => 0) b.array (n + 1) s.rsl.mramRows } }).addRepair .mramRow b.array b.row n
    else s.spareLow
  else
    let n := Tbl.get (fun _ => 0) s.rsl.rows b.array
    let m := Tbl.get (fun _ => 0) s.rsl.cols b.array
    if n < 8 then
      let s := { s with rsl := { s.rsl with rows := Tbl.set (fun _ => 0) b.array (n + 1) s.rsl.rows } }
      (s.setFld F.RSL_SRAM_REP_ROWS 0 (s.fld F.RSL_SRAM_REP_ROWS 0 + 1)).addRepair .sramRow b.array b.row n
    else match b.column with
      | none => s.spareLow
      | some c =>
        if m < 4 then
          let s := { s with rsl := { s.rsl with cols := Tbl.set (fun _ => 0) b.array (m + 1) s.rsl.cols } }
          (s.setFld F.RSL_SRAM_REP_COLS 0 (s.fld F.RSL_SRAM_REP_COLS 0 + 1)).addRepair .sramColumn b.array c m
        else s.spareLow

/-- A swap is abandoned because spare x fails its check: STATUS MEDIA_FAIL, and the spare is RETIRED (Table 15.2). -/
def State.spareFailed (s : State) (u x : Nat) : State :=
  let s := (s.setFld F.RSL_UNIT_STAT_STATE u 0).setFld F.RSL_UNIT_STAT_STATUS u Status.MEDIA_FAIL.code
  let s := { s with rsl := { s.rsl with swapTo := Tbl.set (fun _ => 0) u 0 s.rsl.swapTo } }
  (s.setFld F.RSL_PHYS_STAT_STATE x 2).setFld F.RSL_PHYS_STAT_RESULT x 3

/-- Steer a slice-port to its new carrier at the boundary (R133, Table 03.9). -/
def State.steer (s : State) : State :=
  match s.twl.swap with
  | none => s
  | some w =>
    let s := { s with twl := { s.twl with swap := none } }
    let s := s.setFld F.TWL_SP_STAT_PHYS w.sp w.phys
    let s := s.setFld F.TWL_SP_STAT_STATE w.sp (if w.back then spInService else spOnSpare)
    let s := if w.back then s.setSpare (w.sp / 21) w.spare 0x1F else s
    let s := (s.setFld F.TWL_SWAP_STAT_STATE 0 2).setFld F.TWL_SWAP_STAT_STATUS 0 Status.OK.code
    let s := s.unitMoved (64 + w.sp) (64 + w.phys) (if w.back then 3 else 1)
    s.event Irq.TWL_SWAP_DONE w.sp w.phys

/-- CALENDAR_PERIOD_BOUNDARY (R100, R102, R110, R119, R124, R133, R153). -/
def execCalendarPeriodBoundary (s : State) : Host.Outcome State Fault Refusal :=
  let s := (s.twl.routes.filter fun r => s.hasEnded r).foldl (fun s r => s.endRoute r) s
  let s := s.mapPorts SlicePort.flipped
  let s := s.applyDelivery.steer
  let s := (List.range 16).foldl (fun s k => s.resumeLink k) s
  .next (s.twl.ports.foldl (fun s (e : Nat × SlicePort) => s.checkFair e.1) s)

/-! ### Live swap (R133, R134) -/

/-- The reset carrier of a logical slice-port (R90). -/
def homePhys (p : Nat) : Nat := p / 21 * 23 + p % 21

/-- Refuse a swap: TWL_SWAP_STAT shows refused and the status. -/
def State.refuseSwap (s : State) (st : Status) : State :=
  ((s.setFld F.TWL_SWAP_STAT_STATE 0 3).setFld F.TWL_SWAP_STAT_STATUS 0 st.code).answer st

/-- Whether a spare of a quadrant serves nothing and has not been retired. -/
def State.spareFree (s : State) (quad spare : Nat) : Bool :=
  s.fld (if spare = 0 then F.TWL_SPARE_MAP_S0 else F.TWL_SPARE_MAP_S1) quad == 0x1F &&
    s.fld F.RSL_PHYS_STAT_STATE (64 + 23 * quad + 21 + spare) == 3

/-- A swap of logical slice-port p onto a spare of its quadrant (R133): SWAP_PENDING, or NO_ROOM with no spare free.
SPARE_LOW is set when a quadrant's last spare enters use (R134). -/
def State.startSwap (s : State) (p spare : Nat) : State :=
  let quad := p / 21
  if 168 ≤ p then s.refuseSwap .BAD_ARG
  else if s.twl.swap.isSome then s.refuseSwap .BUSY
  else if s.fld F.TWL_SP_STAT_STATE p ≠ spInService then s.refuseSwap .REFUSED_POLICY
  else if !s.spareFree quad spare then s.refuseSwap .NO_ROOM
  else
    let s := { s with twl := { s.twl with swap := some ⟨p, quad * 23 + 21 + spare, spare, false⟩ } }
    let s := (s.setFld F.TWL_SP_STAT_STATE p spSwapPending).setSpare quad spare (p % 21)
    let s := (s.setFld F.TWL_SWAP_STAT_STATE 0 1).setFld F.TWL_SWAP_STAT_STATUS 0 0
    let s := s.setFld F.RSL_UNIT_STAT_STATE (64 + p) 2
    let s := if s.spareFree quad 0 || s.spareFree quad 1 then s else s.irq Irq.TWL_SPARE_LOW
    s.answer .OK

/-- A swap back of logical slice-port p to its original carrier, which has passed its test (R133). -/
def State.startSwapBack (s : State) (p : Nat) (passed : Bool) : State :=
  let spare := s.fld F.TWL_SP_STAT_PHYS p - (p / 21 * 23 + 21)
  if 168 ≤ p then s.refuseSwap .BAD_ARG
  else if s.twl.swap.isSome then s.refuseSwap .BUSY
  else if s.fld F.TWL_SP_STAT_STATE p ≠ spOnSpare ∨ passed = false then s.refuseSwap .REFUSED_POLICY
  else
    let s := { s with twl := { s.twl with swap := some ⟨p, homePhys p, spare, true⟩ } }
    let s := (s.setFld F.TWL_SP_STAT_STATE p spSwapPending).setFld F.RSL_UNIT_STAT_STATE (64 + p) 2
    ((s.setFld F.TWL_SWAP_STAT_STATE 0 1).setFld F.TWL_SWAP_STAT_STATUS 0 0).answer .OK

/-- A write of TWL_SWAP_CTRL (R133). -/
def State.writeSwapCtrl (s : State) (src : Requester) (v : Word) (passed : Bool) : State :=
  s.guarded .TWL_SWAP_CTRL src fun s =>
    let s := s.store .TWL_SWAP_CTRL 0 v
    let p := F.TWL_SWAP_CTRL_SP.of v
    if F.TWL_SWAP_CTRL_GO.on v then s.startSwap p (F.TWL_SWAP_CTRL_SPARE.of v)
    else if F.TWL_SWAP_CTRL_BACK.on v then s.startSwapBack p passed
    else s

/-- SLICE_PORT_SWAP (R133): TWL_SWAP_CTRL.GO. -/
def execSlicePortSwap (src : Requester) (p : Fin 256) (spare : Fin 2) (s : State) : Host.Outcome State Fault Refusal :=
  .next (s.writeSwapCtrl src (BitVec.ofNat 64 (2 ^ 31 + p.val * 65536 + spare.val)) false)

/-- SLICE_PORT_SWAP_BACK (R133): TWL_SWAP_CTRL.BACK, with the result of the original port's test. -/
def execSlicePortSwapBack (src : Requester) (p : Fin 256) (passed : Bool) (s : State) :
    Host.Outcome State Fault Refusal :=
  .next (s.writeSwapCtrl src (BitVec.ofNat 64 (2 ^ 30 + p.val * 65536)) passed)

/-- SWAP_SPARE_FAIL (R133, Table 03.9): the spare fails its check before the boundary; the swap is abandoned with
MEDIA_FAIL. -/
def execSwapSpareFail (s : State) : Host.Outcome State Fault Refusal :=
  .next (match s.twl.swap with
    | none => s
    | some w =>
      if w.back then s
      else
        let s := { s with twl := { s.twl with swap := none } }
        let s := (s.setFld F.TWL_SP_STAT_STATE w.sp spInService).setSpare (w.sp / 21) w.spare 0x1F
        let s := s.spareFailed (64 + w.sp) (64 + w.phys)
        (s.setFld F.TWL_SWAP_STAT_STATE 0 3).setFld F.TWL_SWAP_STAT_STATUS 0 Status.MEDIA_FAIL.code)

/-- Re-place a route that uses a failed slice-port on the other slice-ports of its shim (R134); a stream that does not
fit stops, and is reported STREAM_STOPPED. -/
def State.replaceRoute (s : State) (p : Nat) (r : Route) : State :=
  let s' := s.release r.req
  let h : RouteHop := ⟨r.req, r.flow, r.src, 0, r.ing.map fun e => if e.1 = p then shimOf p else [e.1],
    if r.egr.contains p then shimOf p else r.egr, 0, r.ends, true, r.atDest, r.replaces⟩
  let base : Route := { r with ing := [], egr := [] }
  match s'.placeIng h h.ingress 0 base with
  | .error _ => s'.awlFabric 2 r.flow p
  | .ok q => match s'.placeEgr h r.egr.length 0 q with
    | .error _ => s'.awlFabric 2 r.flow p
    | .ok q =>
      let s := { s' with twl := { s'.twl with routes := s'.twl.routes ++ [q] } }
      if r.settled then s.settle r.req else s

/-- SLICE_PORT_FAIL (R134, Table 03.9): an uncorrectable failure with no spare free. -/
def execSlicePortFail (p : Fin 168) (s : State) : Host.Outcome State Fault Refusal :=
  let quad := p.val / 21
  let st := s.fld F.TWL_SP_STAT_STATE p
  .next (if (s.spareFree quad 0 || s.spareFree quad 1) || (st != spInService && st != spOnSpare) then s
    else
      let s := s.setFld F.TWL_SP_STAT_STATE p spFailed
      let hit := s.twl.routes.filter fun r => (r.ing.any fun e => e.1 == p.val) || r.egr.contains p.val
      hit.foldl (fun s r => s.replaceRoute p r) s)

/-! ### Disable and configuration writes (R97, R103, R116, R126, R135, R136) -/

/-- Twill stops: nothing runs, and the shims and the core hold no cell. -/
def State.twillStop (s : State) : State :=
  let s := (s.setFlag F.TWL_STATUS_RUN 0 false).setFlag F.TWL_STATUS_DRAINING 0 false
  s.mapPorts fun x => { x with buffer := 0 }

/-- A write of TWL_CTRL: EN runs Twill, clearing it drains, and KILL with EN clear discards the cells in flight (R136). -/
def State.writeTwlCtrl (s : State) (src : Requester) (v : Word) (inFlight : Nat) : State :=
  s.guarded .TWL_CTRL src fun s =>
    let en := F.TWL_CTRL_EN.on v
    let s := s.store .TWL_CTRL 0 (F.TWL_CTRL_KILL.put 0 v)
    if en then (s.setFlag F.TWL_STATUS_RUN 0 true).setFlag F.TWL_STATUS_DRAINING 0 false
    else if F.TWL_CTRL_KILL.on v then (s.count .TWL_KILLED 0 inFlight).twillStop
    else if s.flag F.TWL_STATUS_RUN 0 then s.setFlag F.TWL_STATUS_DRAINING 0 true
    else s

/-- TWILL_DISABLE (R136): TWL_CTRL.EN cleared. -/
def execTwillDisable (src : Requester) (s : State) : Host.Outcome State Fault Refusal := .next (s.writeTwlCtrl src 0 0)

/-- TWILL_DRAIN_DONE (R136): the cells in the core and shims are delivered. -/
def execTwillDrainDone (s : State) : Host.Outcome State Fault Refusal :=
  .next (if s.flag F.TWL_STATUS_DRAINING 0 then s.twillStop else s)

/-- TWILL_KILL (R136): KILL written 1 with EN 0, while some cells are in flight. -/
def execTwillKill (src : Requester) (inFlight : Nat) (s : State) : Host.Outcome State Fault Refusal :=
  .next (s.writeTwlCtrl src 2 inFlight)

/-- A write of TWL_CAL_LIMIT (R103). -/
def State.writeCalLimit (s : State) (src : Requester) (v : Word) : State :=
  s.guarded .TWL_CAL_LIMIT src fun s =>
    let st := F.TWL_CAL_LIMIT_STEADY.of v
    let pre := F.TWL_CAL_LIMIT_PRESTAGE.of v
    let rs := s.twl.routes
    let over_ := fun u : Nat × Nat => decide (st < u.1 ∨ pre < u.1 + u.2)
    if st < 1024 ∨ 3584 < st ∨ pre < st ∨ 3840 < pre then s.refuse .BAD_ARG
    else if (List.range 168).any (fun p => over_ (totals (ingUses rs p)) || over_ (totals (egrUses rs p))) then
      s.refuse .REFUSED_POLICY
    else s.store .TWL_CAL_LIMIT 0 v

/-- A write of TWL_LK_LIMIT (R116). -/
def State.writeLkLimit (s : State) (src : Requester) (v : Word) : State :=
  s.guarded .TWL_LK_LIMIT src fun s =>
    let st := F.TWL_LK_LIMIT_STEADY.of v
    let pre := F.TWL_LK_LIMIT_PRESTAGE.of v
    if st < 32 ∨ 60 < st ∨ pre < st ∨ 63 < pre then s.refuse .BAD_ARG else s.store .TWL_LK_LIMIT 0 v

/-- A write of one word of TWL_V6PFX or TWL_V6SRC (R126). -/
def State.writeV6 (s : State) (src : Requester) (r : Reg) (i : Nat) (v : Word) : State :=
  s.guarded r src fun s =>
    if s.dir.any (fun e => dirValid e.2 && e.2.getLsbD 126) then s.refuse .REFUSED_POLICY else s.store r i v

/-- V6_PREFIX_WRITE (R126): a word of the destination prefix, or of the source prefix. -/
def execV6PrefixWrite (src : Requester) (source : Bool) (i : Fin 3) (w : Word32) (s : State) :
    Host.Outcome State Fault Refusal :=
  .next (s.writeV6 src (if source then .TWL_V6SRC else .TWL_V6PFX) i (w.setWidth 64))

end Sys2Proof.Machine
end

