-- ==== Sys2Proof/Machine/Queues.lean ====
section
/-! DEFINITION. What takes and the journal share: the pair, program contexts and their results, completion queues,
journal entries, service queues, and the times of domains (chapters 04, 05, 06). -/

namespace Sys2Proof.Machine

/-! ### The pair (R26 to R29, R265, R273) -/

/-- The part runs in MIRRORED mode (Table 06.15). -/
def State.mirrored (s : State) : Bool := s.fld F.NIM_PAIR_CFG_MODE 0 == 1

/-- The partner's domain identifier. -/
def State.partnerId (s : State) : Nat := s.fld F.NIM_PAIR_CFG_PARTNER 0

/-- The part is side B of its pair. -/
def State.sideB (s : State) : Bool := s.flag F.GLB_CHIP_SIDE 0

/-- The partner is present: NIM_PAIR_STAT reads 1. -/
def State.partnerPresent (s : State) : Bool := s.fld F.NIM_PAIR_STAT_PARTNER 0 == 1

/-- The partner is declared lost: NIM_PAIR_STAT reads 3. -/
def State.partnerLost (s : State) : Bool := s.fld F.NIM_PAIR_STAT_PARTNER 0 == 3

/-- The part waits for its partner: MIRRORED, and the partner is not declared lost. -/
def State.paired (s : State) : Bool := s.mirrored && !s.partnerLost

/-- The part is fenced (R180). -/
def State.fenced (s : State) : Bool := s.flag F.RSL_STATUS_FENCED 0

/-! ### Times of domains (R185, R186, Table 04.2) -/

/-- The record of a domain. -/
def State.otd (s : State) (d : Nat) : Otd := Tbl.get (fun _ => default) s.egr.otds d

/-- Set the record of a domain. -/
def State.setOtd (s : State) (d : Nat) (x : Otd) : State :=
  { s with egr := { s.egr with otds := Tbl.set (fun _ => default) d x s.egr.otds } }

/-- PHASE of a domain. -/
def State.otdPhase (s : State) (d : Nat) : FineTime := (s.reg .EGR_OTD_PHASE d).toNat * 65536

/-- The time of frame boundary k of a format and phase, rounded down to the resolution of R6. -/
def boundaryTime (code : Nat) (phase : FineTime) (k : Nat) : FineTime :=
  phase + (if rateNum code = 0 then 0 else k * (fineSecond * rateDen code) / rateNum code)

/-- The number of the first boundary at or after a time. -/
def firstBoundary (code : Nat) (phase t : FineTime) : Nat :=
  if t ≤ phase then 0 else ceilDiv ((t - phase) * rateNum code) (fineSecond * rateDen code)

/-- The number of the last boundary at or before a time. -/
def lastBoundary (code : Nat) (phase t : FineTime) : Nat := (t - phase) * rateNum code / (fineSecond * rateDen code)

/-- The time of boundary k of domain d. -/
def State.boundary (s : State) (d k : Nat) : FineTime := boundaryTime (s.otdFormat d) (s.otdPhase d) k

/-- A line period of a format (Table 04.2). -/
def linePeriod (code : Nat) : FineTime :=
  if rateNum code = 0 then 0 else fineSecond * rateDen code / (rateNum code * linesOf code)

/-- A frame period of a format. -/
def framePeriod (code : Nat) : FineTime := if rateNum code = 0 then 0 else fineSecond * rateDen code / rateNum code

/-- The switch point's offset after the frame boundary: the start of the switch line (R148, R149, Table 04.2). -/
def switchOffset (code : Nat) : FineTime :=
  if rateNum code = 0 then 0 else fineSecond * rateDen code * (switchLine code - 1) / (rateNum code * linesOf code)

/-- The switch point of frame k of domain d. -/
def State.switchPoint (s : State) (d k : Nat) : FineTime := s.boundary d k + switchOffset (s.otdFormat d)

/-- The present time of domain d: its time base, and not before its current frame began. -/
def State.otdNow (s : State) (d : Nat) : FineTime := max (s.tbNow (s.otdTb d)) (s.boundary d (s.otd d).frame)

/-- The frame whose switch point is the first at or after a time. -/
def State.switchFrameAt (s : State) (d : Nat) (t : FineTime) : Nat :=
  firstBoundary (s.otdFormat d) (s.otdPhase d) (t - switchOffset (s.otdFormat d))

/-- The fabric lead of R151: 12 µs. -/
def fabricLead : FineTime := 12000 * 65536

/-- The frame of the first switch point whose arming deadline lies after a time (R160); during an extension none
before its end (R189). -/
def State.meetFrame (s : State) (d : Nat) (t : FineTime) : Nat :=
  let k := firstBoundary (s.otdFormat d) (s.otdPhase d) (t + fabricLead + 1 - switchOffset (s.otdFormat d))
  match (s.otd d).target with
  | some f => max k f
  | none => k

/-! ### Program contexts (R231 to R233, R296) -/

/-- Context i, 8 × core + context. -/
def State.ctx (s : State) (i : Nat) : NimCtx := Tbl.get (fun _ => default) s.nim.ctxs i

/-- Set context i. -/
def State.setCtx (s : State) (i : Nat) (c : NimCtx) : State :=
  { s with nim := { s.nim with ctxs := Tbl.set (fun _ => default) i c s.nim.ctxs } }

/-- The context that a core runs. -/
def State.runningOn (s : State) (core : Nat) : Option Nat :=
  match Tbl.get (fun _ => 0) s.nim.running core with | 0 => none | i + 1 => some i

/-- Set the context that a core runs. -/
def State.setRunning (s : State) (core : Nat) (i : Option Nat) : State :=
  { s with nim := { s.nim with running := Tbl.set (fun _ => 0) core (match i with | some i => i + 1 | none => 0) s.nim.running } }

/-- The oldest ready context of a core (R233). -/
def State.oldestReady (s : State) (core : Nat) : Option Nat :=
  ((List.range 8).map (8 * core + ·)).foldl (fun b i =>
    let c := s.ctx i
    if c.run ≠ .ready then b else match b with
      | none => some i
      | some j => if c.since < (s.ctx j).since then some i else b) none

/-- Show the contexts in use on a core. -/
def State.showCore (s : State) (core : Nat) : State :=
  s.setFld F.NIM_CORE_STAT_BUSY core (((List.range 8).filter fun i => (s.ctx (8 * core + i)).run != .off).length)

/-- A core with nothing running resumes its oldest ready context (R233). -/
def State.resume (s : State) (core : Nat) : State :=
  match s.runningOn core with
  | some _ => s
  | none => match s.oldestReady core with
    | none => s
    | some i => (s.setCtx i { s.ctx i with run := .running }).setRunning core (some i)

/-- Make context i ready (R233). -/
def State.ready (s : State) (i : Nat) : State :=
  let s := s.setCtx i { s.ctx i with run := .ready, since := s.nim.readied + 1 }
  ({ s with nim := { s.nim with readied := s.nim.readied + 1 } }).resume (i / 8)

/-- The running context of a core gives it up for another (R233). -/
def State.giveUp (s : State) (core : Nat) (run : CtxRun) : State :=
  match s.runningOn core with
  | none => s
  | some i => ((s.setCtx i { s.ctx i with run := run }).setRunning core none).resume core

/-- A general register of a context; g0 reads 0 (Table 06.1). -/
def NimCtx.reg (c : NimCtx) (r : Nat) : Word := if r = 0 then 0 else Tbl.get (fun _ => 0) c.g r

/-- A context with a general register written; writes to g0 are discarded. -/
def NimCtx.setReg (c : NimCtx) (r : Nat) (v : Word) : NimCtx :=
  if r = 0 then c else { c with g := Tbl.set (fun _ => 0) r v c.g }

/-- A predicate of a context; p0 reads 1 (Table 06.1). -/
def NimCtx.pred (c : NimCtx) (r : Nat) : Bool := r == 0 || c.p.getLsbD r

/-- A context with a predicate written; writes to p0 are discarded. -/
def NimCtx.setPred (c : NimCtx) (r : Nat) (b : Bool) : NimCtx :=
  if r = 0 then c else { c with p := if b then c.p ||| BitVec.twoPow 8 r else c.p &&& ~~~(BitVec.twoPow 8 r) }

/-- st of a status-returning instruction: its status, its signal-plane index, SHADOW (R232, R288). -/
def stWord (st : Status) (sig : Nat) (shadow : Bool) : BitVec 32 :=
  BitVec.ofNat 32 (st.code + sig % 256 * 65536 + (if shadow then 16777216 else 0))

/-- Return a result to a context that awaits it, which becomes ready (R233, R296). -/
def State.giveResult (s : State) (i : Nat) (v : Word) (st : BitVec 32) : State :=
  let c := s.ctx i
  if c.run = .result then (s.setCtx i { c.setReg c.rd v with st := st }).ready i else s

/-! ### Journal entries (R254 to R260) -/

/-- A journal entry by key. -/
def State.entry (s : State) (k : Key) : Option JEntry := s.nim.journal.find? fun e => e.key == k

/-- Change a journal entry. -/
def State.setEntry (s : State) (k : Key) (f : JEntry → JEntry) : State :=
  { s with nim := { s.nim with journal := s.nim.journal.map fun e => if e.key = k then f e else e } }

/-- The journal source of an entry: bits 63:57 of SEQ (R245). -/
def Key.source (k : Key) : Nat := k.seq / 2 ^ 57 % 128

/-- Slots of an entry (R256). -/
def JEntry.slots (e : JEntry) : Nat := 3 + ceilDiv e.len 64

/-- Show the free slots and the open entries; JRN_LOW when the free slots fall below LOW (R260). -/
def State.showJournal (s : State) : State :=
  let free := 16384 - s.nim.journal.foldl (fun n e => n + e.slots) 0
  let was := (s.reg .NIM_JRN_FREE 0).toNat
  let low := s.fld F.NIM_JRN_CFG_LOW 0
  let s := s.setReg .NIM_JRN_FREE 0 (BitVec.ofNat 64 free)
  let s := s.setReg .NIM_JRN_OPEN 0 (BitVec.ofNat 64 (s.nim.journal.filter fun e => e.phase != .complete).length)
  if free < low ∧ low ≤ was then s.irq Irq.NIM_JRN_LOW else s

/-- A signal-plane instruction's status in its entry's progress slot (R268): SIGSTAT, SIGCOUNT and GEN. -/
def State.recordSig (s : State) (k : Key) (sig : Nat) (st : Status) : State :=
  s.setEntry k fun e => if e.sigs.length = sig then { e with sigs := e.sigs ++ [st], gen := (e.gen + 1) % 65536 } else e

/-- What a target has recorded for a key and index (R269). -/
def State.appliedAt (s : State) (k : Key) (sig : Nat) : Option Applied :=
  s.nim.applied.find? fun a => a.key == k && a.index == sig

/-- Record a signal-plane instruction as applied, in the crosspoint and flow image (R269). -/
def State.recordApplied (s : State) (k : Key) (sig : Nat) (st : Status) : State :=
  { s with nim := { s.nim with applied := ⟨k, sig, st⟩ :: s.nim.applied } }

/-- A signal-plane result: recorded as applied and in the progress slot, and returned to the context that waits
(R268, R269, R296). -/
def State.sigReturn (s : State) (i : Option Nat) (k : Key) (sig : Nat) (v : Word) (st : Status) : State :=
  let s := (s.recordApplied k sig st).recordSig k sig st
  match i with
  | none => s
  | some i => s.giveResult i v (stWord st sig false)

/-! ### Completion queues (R248 to R250) -/

/-- Entries of queue q's rings. -/
def State.qSize (s : State) (q : Nat) : Nat := 2 ^ s.fld F.NIM_Q_CFG_SIZE q

/-- Free entries of completion queue q: one entry stays empty between its tail and the entry software reads next. -/
def State.cqFree (s : State) (q : Nat) : Nat :=
  let n := s.qSize q
  (s.fld F.NIM_CQ_HEAD_INDEX q % n + n - s.fld F.NIM_CQ_TAIL_INDEX q % n - 1) % n

/-- Write a completion entry, and raise the queue's vector (R248). -/
def State.writeCq (s : State) (q : Nat) (r : CqRecord) : State :=
  let n := s.qSize q
  let i := s.fld F.NIM_CQ_TAIL_INDEX q % n
  let phase := Tbl.get (fun _ => true) s.nim.phase q
  let s := s.emit (.cqe q i phase r)
  let s := s.setFld F.NIM_CQ_TAIL_INDEX q ((i + 1) % n)
  let s := if i + 1 = n then { s with nim := { s.nim with phase := Tbl.set (fun _ => true) q (!phase) s.nim.phase } } else s
  s.raiseVector (s.fld F.NIM_Q_CFG_VECTOR q)

/-- Post an ACK or REFUSED record; while the queue is not enabled it is held (R627). -/
def State.postAck (s : State) (q : Nat) (r : CqRecord) : State :=
  if s.flag F.NIM_Q_CFG_EN q then s.writeCq q r else { s with nim := { s.nim with heldAcks := s.nim.heldAcks ++ [(q, r)] } }

/-- Write the held ACK and REFUSED records of a queue that is enabled again (R627). -/
def State.flushAcks (s : State) (q : Nat) : State :=
  let mine := s.nim.heldAcks.filter fun (e : Nat × CqRecord) => e.1 == q
  let s := { s with nim := { s.nim with heldAcks := s.nim.heldAcks.filter fun (e : Nat × CqRecord) => e.1 != q } }
  mine.foldl (fun (s : State) e => s.writeCq q e.2) s

/-- Free entries that ACK and DONE records of the queue's orders reserve (R249). -/
def State.cqReserved (s : State) (q : Nat) : Nat := 2 * s.fld F.NIM_Q_STAT_OPEN q + 2

/-- Drop a TAKE or EVENT record: NIM_CQ_LOST and its cause (R250). -/
def State.dropRecord (s : State) : State := (s.count .NIM_CQ_LOST 0 1).irq Irq.NIM_CQ_LOST

/-- Post a TAKE or EVENT record: at once, or in the buffer of 512, or dropped (R250); held through a warm reset, up to
512 of them (R156). -/
def State.postRecord (s : State) (q : Nat) (r : CqRecord) : State :=
  if s.nim.warm then
    if s.nim.heldRecords.length < 512 then { s with nim := { s.nim with heldRecords := s.nim.heldRecords ++ [(q, r)] } }
    else { s with nim := { s.nim with lostHeld := s.nim.lostHeld + 1 } }
  else if s.flag F.NIM_Q_CFG_EN q && s.cqReserved q < s.cqFree q && !(s.nim.waiting.any fun e => e.1 == q) then s.writeCq q r
  else if s.nim.waiting.length < 512 then { s with nim := { s.nim with waiting := s.nim.waiting ++ [(q, r)] } }
  else s.dropRecord

/-- Write the waiting records of queue q for which there is room (R250). -/
def State.flushFrom (s : State) (q : Nat) : List (Nat × CqRecord) → State
  | [] => s
  | e :: es =>
    if e.1 = q ∧ s.cqReserved q < s.cqFree q then
      let s := { s with nim := { s.nim with waiting := s.nim.waiting.erase e } }
      (s.writeCq q e.2).flushFrom q es
    else s.flushFrom q es

/-- A record with nothing set but its body, SEQ and TAG. -/
def cqRecord (b : CqBody) (seq tag : Nat) : CqRecord := ⟨b, seq, tag, 0, 0, false, false, false⟩

/-- Post the DONE record of an entry that this part accepted, and those of its duplicates; while the queue is not
enabled they wait (R248, R268; log 22). -/
def State.postDone (s : State) (k : Key) : State :=
  match s.entry k with
  | none => s
  | some e =>
    if e.donePosted || (match e.queue with | some q => !s.flag F.NIM_Q_CFG_EN q | none => false) then s
    else
      let s := match e.queue with
        | none => s
        | some q =>
          let s := s.writeCq q { cqRecord (.done e.final) k.seq e.tag with trap := e.trap, pc := e.pcAt, replayed := e.replayed, alone := e.alone }
          let s := e.dups.foldl (fun (s : State) d => s.writeCq q { cqRecord (.done e.final) k.seq d with trap := e.trap, pc := e.pcAt }) s
          s.setFld F.NIM_Q_STAT_OPEN q (s.fld F.NIM_Q_STAT_OPEN q - 1 - e.dups.length)
      s.setEntry k fun e => { e with donePosted := true, dups := [] }

/-! ### Service queues (R308, R312) -/

/-- A service slot's record. -/
def State.svc (s : State) (n : Nat) : Service := Tbl.get (fun _ => default) s.nim.services n

/-- Set a service slot's record. -/
def State.setSvc (s : State) (n : Nat) (x : Service) : State :=
  { s with nim := { s.nim with services := Tbl.set (fun _ => default) n x s.nim.services } }

/-- The pending event bits of a service slot (R312). -/
def Service.events (x : Service) : Nat :=
  (if x.msgs.isEmpty then 0 else 1) + (if x.takes.isEmpty then 0 else 2) + (if x.dones.isEmpty then 0 else 4) +
  (if x.rings.isEmpty then 0 else 8) + (if x.jrnDone then 32 else 0)

/-- TB0 has reached a deadline (R312). -/
def State.reached (s : State) (deadline : Nat) : Bool := deadline != 0 && decide (deadline ≤ nimTime (s.tbNow 0))

/-- What a wait of slot n with a mask and deadline returns, 0 while it goes on (R312). -/
def State.waitResult (s : State) (n mask deadline : Nat) : Nat :=
  ((s.svc n).events &&& mask) ||| (if s.reached deadline then 16 else 0)

/-- A context whose wait is met becomes ready with the pending bits (R233, R312). -/
def State.wakeCtx (s : State) (i : Nat) : State :=
  let c := s.ctx i
  match c.run, c.slot with
  | .event mask deadline, some n =>
    let r := s.waitResult n mask deadline
    if r = 0 then s
    else
      let s := if r &&& 32 = 0 then s else s.setSvc n { s.svc n with jrnDone := false }
      let s := s.setFld F.NIM_SVC_STAT_STATE n 1
      (s.setCtx i { c.setReg c.rd (BitVec.ofNat 64 r) with st := stWord .OK 0 false }).ready i
  | _, _ => s

/-- Wake the service of slot n when its wait is met. -/
def State.wakeSvc (s : State) (n : Nat) : State :=
  match (s.svc n).at_ with | some i => s.wakeCtx i | none => s

/-- An item arrives at a receive queue of slot n, or is dropped when the queue is full (R308). -/
def State.giveMsg (s : State) (n part slot : Nat) (m : BitVec 256) : State :=
  let x := s.svc n
  (s.setSvc n (if x.msgs.length < 64 then { x with msgs := x.msgs ++ [(part, slot, m)] } else { x with lostMsg := x.lostMsg + 1 })).wakeSvc n

/-- A take completion record goes to the TAKE queue of every slot that has waited for one (R308). -/
def State.giveTake (s : State) (r : TakeRec) : State :=
  (List.range 32).foldl (fun s n =>
    let x := s.svc n
    if x.takeOn then
      (s.setSvc n (if x.takes.length < 256 then { x with takes := x.takes ++ [r] } else { x with lostTake := x.lostTake + 1 })).wakeSvc n
    else s) s

/-- A result of a jsub order goes to its slot's DONE queue (R304, R308). -/
def State.giveDone (s : State) (n seq : Nat) (st : Status) : State :=
  let x := s.svc n
  (s.setSvc n (if x.dones.length < 64 then { x with dones := x.dones ++ [(seq, st)] } else { x with lostDone := x.lostDone + 1 })).wakeSvc n

/-- A steered frame goes to a slot's RING queue, of 64 frames (R308). -/
def State.giveRing (s : State) (n cap : Nat) (bytes : List Byte) : State :=
  let x := s.svc n
  (s.setSvc n (if x.rings.length < cap then { x with rings := x.rings ++ [bytes] } else { x with lostRing := x.lostRing + 1 })).wakeSvc n

/-- Every slot notes that an entry has become COMPLETE (R312). -/
def State.noteComplete (s : State) : State :=
  (List.range 32).foldl (fun s n =>
    match (s.svc n).at_ with
    | some _ => (s.setSvc n { s.svc n with jrnDone := true }).wakeSvc n
    | none => s) s

end Sys2Proof.Machine
end

