-- ==== Sys2Proof/Machine/Takes.lean ====
section
/-! DEFINITION. Takes: their checks, pre-staging, arming and switching, salvos, completion records, takes of a pair, and
the output cross-check (chapter 04, R140 to R184). -/

namespace Sys2Proof.Machine

/-! ### Sources (R7, R161, Table 03.1) -/

/-- The part and input of a source identifier (R7). -/
def srcPart (src : Nat) : Nat := src / 512
def srcInput (src : Nat) : Nat := src % 512

/-- No selection (Table 04.8). -/
def noSource : Nat := 0x7FFFF

/-- What this part's registers say of its own input n (R146, R161, R379). -/
def State.ownView (s : State) (n : Nat) : SrcView :=
  if n < 384 then
    let x := s.input n
    let gated := decide (n < 128) && s.fld F.TWL_SP_STAT_STATE (3 * (n / 16)) == spGated
    ⟨s.flag F.ING_IN_CFG_ENABLE n && s.inState n != inOff && !gated, s.fld F.ING_IN_CFG_MODE n == 1,
      s.flag F.ING_IN_STAT_WINDOW n, s.fld F.ING_IN_CFG_OTD n,
      if s.fld F.ING_IN_FMT_FORMAT n = 0 ∨ x.fits = false then none
      else some ⟨s.fld F.ING_IN_FMT_FORMAT n, s.fld F.ING_IN_FMT_SAMPLING n, s.fld F.ING_IN_FMT_DEPTH n⟩, s.inState n⟩
  else if n < 400 then
    let d := s.fld F.VMP_PIPE_CFG_OTD (n - 384)
    ⟨s.flag F.VMP_PIPE_CFG_ENABLE (n - 384), false, false, d,
      some (if s.flag F.VMP_PIPE_CFG_OUT_FORM (n - 384) then ⟨s.otdFormat d, 1, 2⟩ else Form.sdi (s.otdFormat d)), inLocked⟩
  else
    let d := s.fld F.EGR_PAT_CFG_OTD (n - 400)
    ⟨s.flag F.EGR_PAT_CFG_ENABLE (n - 400), false, false, d, some (Form.sdi (s.otdFormat d)), inLocked⟩

/-- What is known of a source: from this part's registers, or as its own part reports it. -/
def State.viewOf (s : State) (src : Nat) (v : TakeView) : SrcView :=
  if srcPart src = s.domainId then s.ownView (srcInput src) else v.remote

/-- The streams of a source of a format: four for 4320p (R96, R169). -/
def streamsOf (code : Nat) : Nat := if rasterOf code = 8 then 4 else 1

/-- The slice-ports on which stream j of this part's input n may enter (Table 03.1, R200, R381). -/
def inputPorts (n group j : Nat) : List Nat :=
  if n < 128 then sdiPorts (n / 16) else if n < 384 then netPorts group
  else if n < 400 then [152 + (n - 384 + j) / 2] else [164 + (n - 400) / 4]

/-- The flow of a source: the lowest leg A identifier whose valid entry names it as ORIGIN (R122). -/
def State.flowOf (s : State) (src : Nat) : Option Nat :=
  (s.dir.find? fun e => dirValid e.2 && dirOrigin e.2 == src && !e.2.getLsbD 21).map (·.1)

/-- Whether a path is better than another: more headroom, then no relay, then the lower-numbered relay (R155). -/
def betterPath (a b : PathCand) : Bool :=
  if a.headroom = b.headroom then
    match a.relays, b.relays with
    | [], _ => true
    | _, [] => false
    | x :: _, y :: _ => decide (x ≤ y)
  else decide (b.headroom < a.headroom)

/-- The path that route computation chooses, among those within the relay limit (R33, R155). -/
def choosePath (l : List PathCand) : Option PathCand :=
  (l.filter fun p => decide (p.relays.length ≤ 3)).foldl (fun b p => match b with
    | none => some p
    | some q => if betterPath p q && !betterPath q p then some p else b) none

/-- A route request of this part as destination (R104, R152): from a source to some egress slice-ports. -/
def State.hopOf (s : State) (src : Nat) (form : Form) (v : TakeView) (egress : List Nat) (pre : Option ResEnd)
    (replaces : Option Nat) : Except Status RouteHop :=
  match s.flowOf src with
  | none => .error .BAD_ARG
  | some flow =>
    let n := streamsOf form.code
    let req := s.domainId * 2 ^ 32 + s.tks.reqs
    if srcPart src = s.domainId then
      .ok ⟨req, flow, src, form.carriage, (List.range n).map (inputPorts (srcInput src) v.group), egress, 0, pre, true, true, replaces⟩
    else match choosePath v.paths with
      | none => .error .NO_PATH
      | some p => match p.link with
        | none => .error .NO_PATH
        | some k => .ok ⟨req, flow, src, form.carriage, (List.range n).map (fun _ => lacePorts k), egress, p.relays.length,
            pre, false, true, replaces⟩

/-- A route that already carries a source to a shim, admitted or held (R154). -/
def State.routeTo (s : State) (src : Nat) (egress : List Nat) : Option Route :=
  s.twl.routes.find? fun r => r.atDest && r.src == src && r.egr.all egress.contains

/-- Ask for a route: a delivery at hand is shared (R154), otherwise the resources of this part are held (R104). -/
def State.requestRoute (s : State) (src : Nat) (form : Form) (v : TakeView) (egress : List Nat) (pre : Option ResEnd)
    (replaces : Option Nat) : State × Except Status Nat :=
  match s.routeTo src egress with
  | some r => (s.setRoutes (s.twl.routes.map fun q => if q.req = r.req ∧ (match q.ends with | some e => !e.keep | none => false) = true
      then { q with ends := none } else q), .ok r.req)
  | none => match s.hopOf src form v egress pre replaces with
    | .error e => (s, .error e)
    | .ok h =>
      let x := { s with tks := { s.tks with reqs := s.tks.reqs + 1 } }.hold h
      if x.2 = .OK then (x.1, .ok h.req) else (x.1, .error x.2)

/-! ### Pending takes and completion (R142, R143, R170) -/

/-- The record of an output. -/
def State.out (s : State) (n : Nat) : Output := Tbl.get (fun _ => default) s.egr.outs n

/-- Set the record of an output. -/
def State.setOut (s : State) (n : Nat) (x : Output) : State :=
  { s with egr := { s.egr with outs := Tbl.set (fun _ => default) n x s.egr.outs } }

/-- The state of an output: 0 OFF, 1 RUN, 2 DRAINING (Table 05.10). -/
def State.outState (s : State) (n : Nat) : Nat := s.fld F.EGR_OUT_STAT_STATE n

/-- Replace the pending takes. -/
def State.setTakes (s : State) (l : List PendTake) : State := { s with tks := { s.tks with takes := l } }

/-- Whether two records are of one take: the same key, index and position. -/
def PendTake.same (a b : PendTake) : Bool := a.key == b.key && a.sig == b.sig && a.pos == b.pos

/-- Show the pending takes of an output. -/
def State.showPending (s : State) (n : Nat) : State :=
  s.setFld F.EGR_OUT_TAKE_PENDING n ((s.tks.takes.filter fun t => t.out == n && t.own == .OK).length)

/-- Change one pending take. -/
def State.setTake (s : State) (t : PendTake) : State := s.setTakes (s.tks.takes.map fun q => if q.same t then t else q)

/-- Take one off the pending takes. -/
def State.dropTake (s : State) (t : PendTake) : State := (s.setTakes (s.tks.takes.filter fun q => !q.same t)).showPending t.out

/-- The source that an output carries from frame k's switch point onward (R142). -/
def State.carriedAt (s : State) (n k : Nat) : Nat :=
  match (s.tks.takes.filter fun t => t.out == n && t.own == .OK && decide (t.frame ≤ k)).foldl (fun b t => match b with
    | none => some t
    | some q => if q.frame ≤ t.frame then some t else b) (none : Option PendTake) with
  | some t => t.src
  | none => s.fld F.EGR_OUT_TAKE_SOURCE n

/-- The flags of a completion record (Table 04.4). -/
def PendTake.flags (t : PendTake) (superseded : Bool) : Nat :=
  (if t.late then 1 else 0) + (if superseded then 2 else 0) + (if t.nochange then 4 else 0) + (if t.pathLost then 8 else 0) +
  (if t.dirty then 16 else 0) + (if t.mismatch then 32 else 0) + (if t.alone then 64 else 0) + (if t.bonded then 128 else 0) +
  (if t.replayed then 256 else 0)

/-- Post a completion record: to the queue of the submitting order, to the issuing part, and to the services (R170). -/
def State.postTake (s : State) (t : PendTake) (time : Nat) (st : Status) (superseded : Bool) : State :=
  let r : TakeRec := ⟨t.key.seq, time, t.otd, s.domainId * 128 + t.out, t.src, st, t.flags superseded, t.salvo⟩
  let s := match s.entry t.key with
    | some e => match e.queue with
      | some q => s.postRecord q (cqRecord (.take r) t.key.seq e.tag)
      | none => if t.key.origin = s.domainId then s else s.emit (.takeDone t.key.origin r)
    | none => s
  s.giveTake r

/-! ### Accounts of instructions (R297, R298) -/

/-- What an instruction returns once every member is armed or refused (R297, R298). -/
def SalvoAcct.result (a : SalvoAcct) : Word × Status :=
  let st := match a.firstBad with | some b => b.2 | none => if a.late then .LATE else .OK
  (BitVec.ofNat 64 (if a.single then a.time else a.refused), st)

/-- A forwarded order ends when its members have: its entry is COMPLETE with the status (R159, R268). -/
def State.endForwarded (s : State) (k : Key) (st : Status) : State :=
  (s.setEntry k fun e => if e.forwarded then { e with phase := .complete, final := st, donePosted := true, gen := (e.gen + 1) % 65536 } else e).showJournal

/-- Account for members that have been armed or refused. -/
def State.account (s : State) (k : Key) (sig : Nat) (f : SalvoAcct → SalvoAcct) : State :=
  match s.tks.accts.find? (fun a => a.key == k && a.sig == sig) with
  | none => s
  | some a =>
    let a := f a
    let rest := s.tks.accts.filter fun a => !(a.key == k && a.sig == sig)
    if a.left = 0 then
      let r := a.result
      let s := ({ s with tks := { s.tks with accts := rest } }).sigReturn a.ctx k sig r.1 r.2
      (s.answer r.2).endForwarded k r.2
    else { s with tks := { s.tks with accts := rest ++ [a] } }

/-- The earlier of two refused members in salvo order. -/
def earlierBad (a : Option (Nat × Status)) (pos : Nat) (st : Status) : Option (Nat × Status) :=
  match a with
  | none => some (pos, st)
  | some b => if pos < b.1 then some (pos, st) else some b

/-- A member has been refused. -/
def State.memberRefused (s : State) (k : Key) (sig pos : Nat) (st : Status) : State :=
  s.account k sig fun a => { a with left := a.left - 1, refused := a.refused + 1, firstBad := earlierBad a.firstBad pos st }

/-- A member has been armed, or needs no arming, with its switch time. -/
def State.memberArmed (s : State) (k : Key) (sig : Nat) (time : Nat) (late : Bool) : State :=
  s.account k sig fun a => { a with left := a.left - 1, late := a.late || late, time := time }

/-- Give up a route that nothing else uses. -/
def State.dropRoute (s : State) (req : Option Nat) : State :=
  match req with
  | none => s
  | some r => if s.routeUsed r then s else s.release r

/-- Refuse a pending take: its pre-stage is released, its record posted with TIME 0, and its instruction told (R146,
R170, R172). -/
def State.refuseTake (s : State) (t : PendTake) (st : Status) : State :=
  let s := (s.dropTake t).dropRoute t.req
  let s := s.postTake t 0 st false
  if t.armed then s else s.memberRefused t.key t.sig t.pos st

/-- A take is replaced by a later one at its switch point: its pre-stage is released and its record carries SUPERSEDED
(R142). The spec states no TIME for a take that does not switch: it is a free value. -/
def State.supersede (s : State) (t : PendTake) : State :=
  let s := (s.dropTake t).dropRoute t.req
  let time := s.free.toNat
  let s := (s.drawFree).postTake t time .OK true
  if t.armed then s else s.memberArmed t.key t.sig (nimTime (s.switchPoint t.otd t.frame)) t.late

/-- Every member of an ATOMIC salvo on this part is refused with the first refusal's status (R167). -/
def State.refuseAtomic (s : State) (t : PendTake) (st : Status) : State :=
  (s.tks.takes.filter fun q => q.key == t.key && q.sig == t.sig && !q.same t).foldl (fun s q => s.refuseTake q st) s

/-- Refuse a take, and with it the others of its ATOMIC salvo. -/
def State.refuseWhole (s : State) (t : PendTake) (st : Status) : State :=
  let s' := if t.atomic then s.refuseAtomic t st else s
  s'.refuseTake t st

/-- The admission result of a take goes to the partner while the pair waits for it (R172). -/
def State.tellPartner (s : State) (t : PendTake) (st : Status) : State :=
  if s.paired then s.emit (.admission t.key t.sig t.pos st) else s

/-- This part refuses a take. Side B of a pair waits for its partner's result, because side A's status is returned
when both refuse (R172). -/
def State.ownRefusal (s : State) (t : PendTake) (st : Status) : State :=
  let s := s.tellPartner t st
  if s.paired && s.sideB && t.partner == none then
    (((s.setTake { t with own := st, req := none }).dropRoute t.req)).showPending t.out
  else s.refuseWhole t (match t.partner with | some p => if p = .OK then st else if s.sideB then p else st | none => st)

/-! ### The checks of Table 04.1 -/

/-- A take as it is executed on its destination part. -/
structure TakeOrder where
  key : Key
  sig : Nat
  pos : Nat
  salvo : Nat
  atomic : Bool
  out : Nat
  src : Nat
  time : Nat
  dirtyOk : Bool
  /-- Reserved member bits are set (R297). -/
  bad : Bool
  replayed : Bool
  view : TakeView
  deriving DecidableEq, Repr, Inhabited

/-- The frame at whose switch point a take with time T switches, and whether that is later than asked (R141, R160,
R189). -/
def State.frameFor (s : State) (d time : Nat) : Nat × Bool :=
  let now := s.otdNow d
  if time = 0 then (s.meetFrame d now, false)
  else
    let k := s.switchFrameAt d (time * 65536)
    let m := s.meetFrame d now
    if k < m then (m, true) else (k, false)

/-- Whether output n is one of outputs 4k+1 to 4k+3 of a bonded group. -/
def State.bondedPart (s : State) (n : Nat) : Bool := n % 4 != 0 && s.flag F.EGR_OUT_SDI_BOND (n / 4 * 4)

/-- Whether output n leads a bonded group. -/
def State.bondedOut (s : State) (n : Nat) : Bool := n % 4 == 0 && s.flag F.EGR_OUT_SDI_BOND n

/-- The source of a take as executed: side B takes the partner of a MIRRORED part (R171). -/
def State.substitute (s : State) (o : TakeOrder) : Nat :=
  match s.mirrored && s.sideB, o.view.srcPartner with
  | true, some p => p * 512 + srcInput o.src
  | _, _ => o.src

/-- Checks 1 to 6 of Table 04.1, in order: the status of the first that fails, or whether the take switches under
MISMATCH BLACK. -/
def State.takeChecks (s : State) (o : TakeOrder) : Except Status Bool :=
  let d := s.fld F.EGR_OUT_CFG_OTD o.out
  let v := s.viewOf (s.substitute o) o.view
  let code := s.otdFormat d
  let k := (s.frameFor d o.time).1
  if s.fenced then .error .FENCED
  else if o.bad || decide (416 ≤ srcInput o.src) || s.bondedPart o.out ||
      decide (s.otdNow d / 65536 + s.fld F.EGR_TAKE_CFG_HORIZON 0 * 1000000 < o.time) then .error .BAD_ARG
  else if s.outState o.out = 2 then .error .DRAINING
  else if s.outState o.out ≠ 1 ∨ v.ready = false ∨ s.flag F.TWL_STATUS_DIR_READY 0 = false ∨
      (v.direct && !v.window && !o.dirtyOk) = true then .error .NOT_READY
  else
    let mine := s.tks.takes.filter fun t => t.out == o.out && t.own == .OK
    if 4 ≤ mine.length ∧ (mine.any fun t => t.frame == k) = false then .error .BUSY
    else if v.otd ≠ d then .error .FORMAT_MISMATCH
    else match v.form with
      | none => if s.bondedOut o.out then .error .FORMAT_MISMATCH else .ok false
      | some f =>
        if s.bondedOut o.out && rasterOf f.code != 8 then .error .FORMAT_MISMATCH
        else if f.code = code then .ok false
        else if s.flag F.EGR_OUT_TAKE_MISMATCH o.out && !s.bondedOut o.out then .ok true
        else .error .FORMAT_MISMATCH

/-- The end of a pre-stage: the switch point plus one line (R152). -/
def State.preEnd (s : State) (d k : Nat) : ResEnd := ⟨s.otdTb d, s.switchPoint d k + linePeriod (s.otdFormat d), true⟩

/-- The egress slice-ports of an output's shim (R91, R191). -/
def outPorts (n : Nat) : List Nat := sdiPorts (n / 16)

/-- A take's pre-stage and its entry among the pending takes (R142 to R146, R152, R154). -/
def State.preStage (s : State) (o : TakeOrder) (mismatch : Bool) : State × Option Status :=
  let d := s.fld F.EGR_OUT_CFG_OTD o.out
  let src := s.substitute o
  let v := s.viewOf src o.view
  let fr := s.frameFor d o.time
  let nochange := s.carriedAt o.out fr.1 == src
  let t : PendTake := ⟨o.out, src, o.src, d, fr.1, o.key, o.sig, o.pos, o.salvo, o.atomic, .OK, none, false, none,
    s.mirrored && s.partnerLost, false, fr.2, nochange, false, v.direct && !v.window, mismatch, s.bondedOut o.out, o.replayed, v⟩
  let old := s.tks.takes.find? fun t => t.out == o.out && t.own == .OK && t.frame == fr.1
  let form := match v.form with | some f => f | none => Form.sdi (s.otdFormat d)
  let x : State × Except Status (Option Nat) :=
    if nochange then (s, .ok none)
    else
      let cur := (s.out o.out).route
      let alone := match cur with
        | some r => !(s.egr.outs.any fun e => e.1 != o.out && e.2.route == some r) && !(s.tks.takes.any fun t => t.req == some r)
        | none => false
      let y := s.requestRoute src form o.view (outPorts o.out) (some (s.preEnd d fr.1)) (if alone then cur else none)
      (y.1, match y.2 with | .ok r => .ok (some r) | .error e => .error e)
  match x.2 with
  | .error e => (x.1, some e)
  | .ok req =>
    let s := x.1
    let routed := match req with | none => true | some r => (s.route r).any (·.settled)
    let s := match old with | some q => s.supersede q | none => s
    let t := { t with req := req, routed := routed }
    let s := (s.setTakes (s.tks.takes ++ [t])).showPending o.out
    (if routed then s.tellPartner t .OK else s, none)

/-- A refused order of this part: as ownRefusal, before it has become a pending take. -/
def State.refuseOrder (s : State) (o : TakeOrder) (st : Status) : State :=
  let d := s.fld F.EGR_OUT_CFG_OTD o.out
  let t : PendTake := ⟨o.out, s.substitute o, o.src, d, 0, o.key, o.sig, o.pos, o.salvo, false, .OK, none, false, none,
    false, false, false, false, false, false, false, s.bondedOut o.out, o.replayed, default⟩
  if s.paired && s.sideB then
    (s.setTakes (s.tks.takes ++ [{ t with own := st }])).tellPartner { t with own := st } st
  else ((s.tellPartner t st).postTake t 0 st false).memberRefused o.key o.sig o.pos st

/-- Execute a take on its destination part (R140 to R146). -/
def State.doTake (s : State) (o : TakeOrder) : State × Option Status :=
  match s.takeChecks o with
  | .error e => (s, some e)
  | .ok mismatch => s.preStage o mismatch

/-- Execute takes in order, each standing or falling alone (R167). -/
def State.doTakes (s : State) : List TakeOrder → State
  | [] => s
  | o :: os =>
    let x := s.doTake o
    (match x.2 with | none => x.1 | some e => x.1.refuseOrder o e).doTakes os

/-- The first refusal among takes executed in order (R167). -/
def State.firstRefusal (s : State) : List TakeOrder → Option Status
  | [] => none
  | o :: os =>
    let x := s.doTake o
    match x.2 with
    | some e => some e
    | none => x.1.firstRefusal os

/-- Execute the members of a salvo on this part: with ATOMIC all or none, with the status of the first refusal (R167). -/
def State.doMembers (s : State) (atomic : Bool) (l : List TakeOrder) : State :=
  if atomic then
    match s.firstRefusal l with
    | none => s.doTakes l
    | some e => l.foldl (fun s o => s.refuseOrder o e) s
  else s.doTakes l

/-! ### Members and forwarding (R159, R297, R298) -/

/-- A take member word (R297): source, destination, DIRTY_OK, and whether a reserved bit is set. -/
def memberSrc (w : Word) : Nat := bits 0 19 w
def memberDest (w : Word) : Nat := bits 19 17 w
def memberDirty (w : Word) : Bool := bit 36 w
def memberBad (w : Word) : Bool := bits 37 27 w != 0

/-- The order of member number pos of an instruction. -/
def memberOrder (key : Key) (sig pos salvo : Nat) (atomic dirtyOk replayed : Bool) (time : Nat) (w : Word) (v : TakeView) :
    TakeOrder :=
  ⟨key, sig, pos, salvo, atomic, memberDest w % 128, memberSrc w, time, dirtyOk || memberDirty w, memberBad w, replayed, v⟩

/-- The parts that members name other than this one, in order, each with the position of its first member. -/
def State.otherParts (s : State) (ms : List (Word × Nat)) : List (Nat × Nat) :=
  ms.foldl (fun a m =>
    let p := memberDest m.1 / 128
    if p = s.domainId || a.any (fun e => e.1 == p) then a else a ++ [(p, m.2)]) []

/-- Execute the members of a take or salvo instruction: those of this part here, the others as one forwarded order for
each part, whose answer returns with the command (R159, R165 to R167, R298). -/
def State.takeMembers (s : State) (key : Key) (sig salvo : Nat) (ctx : Option Nat) (single atomic dirtyOk replayed : Bool)
    (time : Nat) (members : List (Word × TakeView)) : State :=
  let a : SalvoAcct := ⟨key, sig, ctx, single, members.length, 0, false, none, 0⟩
  let s := { s with tks := { s.tks with accts := s.tks.accts ++ [a] } }
  let ms := members.zipIdx
  let s := (s.otherParts (ms.map fun m => (m.1.1, m.2))).foldl (fun (s : State) p =>
    let k : Key := ⟨key.origin, key.seq, 1 + 1024 * sig + (if single then 0 else p.2)⟩
    if Tbl.get (fun _ => 0) s.twl.toward p.1 = 0 then s
    else s.emit (.forwardTake p.1 k ((ms.filter fun m => memberDest m.1.1 / 128 == p.1).map (·.1.1)) time salvo atomic)) s
  let here := ms.filter fun m => memberDest m.1.1 / 128 == s.domainId
  let s := (ms.filter fun m => memberDest m.1.1 / 128 != s.domainId).foldl (fun (s : State) m =>
    let r := if Tbl.get (fun _ => 0) s.twl.toward (memberDest m.1.1 / 128) = 0 then (Status.NO_PATH, 0) else m.1.2.reply
    if r.1 = .OK || r.1 = .LATE then s.memberArmed key sig r.2 (r.1 == .LATE)
    else s.memberRefused key sig m.2 r.1) s
  s.doMembers atomic (here.map fun m => memberOrder key sig m.2 salvo atomic dirtyOk replayed time m.1.1 m.1.2)

/-- FORWARDED_TAKE (R159): a take or salvo order from another part is journalled and executed; a key already accepted
returns its recorded status without executing again; one that a reset cut short executes again under replay. -/
def execForwardedTake (key : Key) (salvo : Nat) (atomic : Bool) (time : Nat) (members : List (Word × TakeView)) (s : State) :
    Host.Outcome State Fault Refusal :=
  .next (match s.entry key with
    | some e =>
      if e.phase = .complete then s.answer e.final
      else if s.tks.accts.any (fun (a : SalvoAcct) => a.key == key) || s.tks.takes.any (fun (t : PendTake) => t.key == key) then s.answer .OK
      else (s.answer .OK).takeMembers key 0 salvo none false atomic false true time members
    | none => match s.appliedAt key 0 with
      | some a => s.answer a.st
      | none =>
        if s.fenced then s.answer .FENCED
        else if !s.flag F.NIM_CTRL_EN 0 then s.answer .DRAINING
        else if (s.reg .NIM_JRN_FREE 0).toNat < 4 then s.answer .BUSY
        else
          let e : JEntry := { (default : JEntry) with
            key := key, sideB := s.sideB, mirrored := s.mirrored, alone := s.mirrored && s.partnerLost, inline_ := true, forwarded := true,
            affinity := 1, time := s.nim.clock, len := min 32 (8 * members.length), phase := .running, gen := 1, since := some s.tick }
          let s := ({ s with nim := { s.nim with journal := s.nim.journal ++ [e] } }).showJournal
          (s.answer .OK).takeMembers key 0 salvo none false atomic false false time members)

/-! ### Results, arming and lateness (R156, R160, R166, R172, R173) -/

/-- The pending take of a key, index and position. -/
def State.takeAt (s : State) (k : Key) (sig pos : Nat) : Option PendTake :=
  s.tks.takes.find? fun t => t.key == k && t.sig == sig && t.pos == pos

/-- PARTNER_ADMISSION_RESULT (R172): the partner admits or refuses a take. -/
def execPartnerAdmissionResult (key : Key) (sig pos : Nat) (st : Status) (s : State) : Host.Outcome State Fault Refusal :=
  .next (match s.takeAt key sig pos with
    | none => s
    | some t =>
      if t.own = .OK then
        if st = .OK then s.setTake { t with partner := some .OK } else s.refuseWhole t st
      else s.refuseWhole t (if st = .OK then t.own else st))

/-- The partner is declared lost: takes arm alone (R173), and a refusal stands by itself. -/
def State.takesAlone (s : State) : State :=
  s.tks.takes.foldl (fun s t =>
    if t.own ≠ .OK then s.refuseWhole t t.own
    else if t.partner = none then s.setTake { t with alone := true } else s) s

/-- Takes of one output at one switch point: the one accepted last stays (R142). -/
def State.supersedeSame (s : State) (n : Nat) : State :=
  let l := s.tks.takes.filter fun t => t.out == n && t.own == .OK
  l.zipIdx.foldl (fun s e => if (l.drop (e.2 + 1)).any (fun q => q.frame == e.1.frame) then s.supersede e.1 else s) s

/-- Move a take to a later frame, and with it the other members of its salvo in its domain (R160, R166). -/
def State.moveTake (s : State) (t : PendTake) (k : Nat) : State :=
  let moved := s.tks.takes.filter fun q => q.own == .OK &&
    (q.same t || (t.salvo != 0 && q.key == t.key && q.sig == t.sig && q.otd == t.otd && decide (q.frame < k)))
  let s := s.setTakes (s.tks.takes.map fun q => if moved.any (·.same q) then { q with frame := k, late := true } else q)
  let s := moved.foldl (fun s q => match q.req with
    | none => s
    | some r => s.setRoutes (s.twl.routes.map fun x => if x.req = r ∧ x.ends.isSome = true then { x with ends := some (s.preEnd t.otd k) } else x)) s
  (moved.map (·.out)).foldl (fun s n => s.supersedeSame n) s

/-- TAKE_ARMED (R156, R160, R172): the route is in effect on every part and the partner has admitted; a take armed after
its deadline moves. -/
def execTakeArmed (key : Key) (sig pos : Nat) (s : State) : Host.Outcome State Fault Refusal :=
  .next (match s.takeAt key sig pos with
    | none => s
    | some t =>
      if t.armed || t.own != .OK || !t.routed || (s.paired && t.partner != some .OK) then s
      else
        let m := s.meetFrame t.otd (s.otdNow t.otd)
        let s := s.setTake { t with armed := true }
        let s := if t.frame < m then s.moveTake { t with armed := true } m else s
        let k := max t.frame m
        s.memberArmed key sig (nimTime (s.switchPoint t.otd k)) (t.late || decide (t.frame < m)))

/-! ### Routes of takes (R105, R157) -/

/-- The takes and outputs that a settled route serves. -/
def State.routeReady (s : State) (req : Nat) : State :=
  let s := s.tks.takes.foldl (fun (s : State) t =>
    if t.req = some req ∧ t.routed = false then (s.setTake { t with routed := true }).tellPartner t .OK else s) s
  s.egr.outs.foldl (fun (s : State) e =>
    if e.2.route = some req then (s.setOut e.1 { e.2 with fed := true }).setFlag F.EGR_OUT_TAKE_PATH_LOST e.1 false else s) s

/-- ROUTE_SETTLE (R104, R106): the request passed everywhere; its delivery entries and calendars are written. -/
def execRouteSettle (req : Nat) (s : State) : Host.Outcome State Fault Refusal :=
  .next (match s.route req with
    | some r => if r.settled then s else ((s.settle req).routeReady req).answer .OK
    | none => s)

/-- The destination part refuses a request: its holds are released, and its takes refused (R104, R105). -/
def State.refuseRequest (s : State) (req : Nat) (st : Status) : State :=
  let s := s.release req
  let s := s.tks.takes.foldl (fun (s : State) t =>
    if t.req = some req ∧ t.routed = false then s.ownRefusal { t with req := none } st else s) s
  (s.egr.outs.foldl (fun (s : State) e => if e.2.route = some req then s.setOut e.1 { e.2 with route := none } else s) s).answer st

/-- HOLD_RELEASE_REPORT (R105): the destination part refuses the request with NO_PATH. -/
def execHoldReleaseReport (req : Nat) (s : State) : Host.Outcome State Fault Refusal :=
  .next (match s.route req with
    | some r => if r.settled then s else s.refuseRequest req .NO_PATH
    | none => s)

/-- ROUTE_HOLD_TIMEOUT (R105): a hold not settled within 2 ms is released and reported to the destination part. -/
def execRouteHoldTimeout (req : Nat) (s : State) : Host.Outcome State Fault Refusal :=
  .next (match s.route req with
    | some r => if r.settled then s else if r.atDest then s.refuseRequest req .NO_PATH
      else (s.release req).emit (.holdReleased req)
    | none => s)

/-- An armed take is routed again (R157). -/
def State.rerouteTake (s : State) (t : PendTake) (v : TakeView) : State :=
  if !t.armed then s
  else
    let s := match t.req with | some r => s.release r | none => s
    let form := match t.view.form with | some f => f | none => Form.sdi (s.otdFormat t.otd)
    let x := s.requestRoute t.src form v (outPorts t.out) (some (s.preEnd t.otd t.frame)) none
    x.1.setTake { t with routed := false, req := match x.2 with | .ok r => some r | .error _ => none }

/-- TAKE_ROUTE_LOST (R157): an armed take's pre-stage route is lost before the switch point, and it is routed again. -/
def execTakeRouteLost (key : Key) (sig pos : Nat) (v : TakeView) (s : State) : Host.Outcome State Fault Refusal :=
  .next (match s.takeAt key sig pos with
    | none => s
    | some t => s.rerouteTake t v)

/-- The part requests the lost route of an output again (R157). -/
def State.routeRetry (s : State) (n : Nat) (v : TakeView) : State :=
  if !s.flag F.EGR_OUT_TAKE_PATH_LOST n || (s.out n).route.isSome then s
  else
    let src := s.fld F.EGR_OUT_TAKE_SOURCE n
    let form := match (s.out n).view.form with | some f => f | none => Form.sdi (s.otdFormat (s.fld F.EGR_OUT_CFG_OTD n))
    let x := s.requestRoute src form v (outPorts n) none none
    match x.2 with
    | .error _ => x.1
    | .ok r =>
      let s := x.1.setOut n { x.1.out n with route := some r }
      if (s.route r).any (·.settled) then s.routeReady r else s

/-- ROUTE_RETRY (R157): every EGR_TAKE_CFG.RETRY ms. -/
def execRouteRetry (n : Fin 128) (v : TakeView) (s : State) : Host.Outcome State Fault Refusal := .next (s.routeRetry n v)

/-- The route that feeds an output is lost after its switch (R157): gap marks until a route is admitted. -/
def State.loseOutRoute (s : State) (n : Nat) : State :=
  (s.setOut n { s.out n with route := none, fed := false, flags := (s.out n).flags ||| 8 }).setFlag F.EGR_OUT_TAKE_PATH_LOST n true

/-- A route is torn down while in use (R121, R132, R157): outputs it fed lose it, and so do pending takes. -/
def State.tearDown (s : State) (req : Nat) : State :=
  let s := s.release req
  let s := s.tks.takes.foldl (fun (s : State) t => if t.req = some req then s.setTake { t with req := none, routed := false } else s) s
  s.egr.outs.foldl (fun (s : State) e => if e.2.route = some req then s.loseOutRoute e.1 else s) s

/-! ### The switch point (R142, R147, R148, R153, R156, R157, R162, R164) -/

/-- The first Tweed block boundary of a time base at or after a time: blocks of 8 samples at 48 kHz (R147, R324). -/
def blockBoundary (t : FineTime) : FineTime := ceilDiv (t * 6000) fineSecond * fineSecond / 6000

/-- The old route of an output ends one line after the switch where nothing else uses it (R153). -/
def State.endOld (s : State) (old : Option Nat) (e : ResEnd) : State :=
  match old with
  | none => s
  | some r => if s.routeUsed r then s
    else s.setRoutes (s.twl.routes.map fun q => if q.req = r ∧ q.ends.isNone = true then { q with ends := some { e with keep := false } } else q)

/-- Record a selection in the crosspoint and flow image (R174, Table 16.1). -/
def State.imageSel (s : State) (n src frame : Nat) : State :=
  { s with tks := { s.tks with image :=
    ⟨Tbl.set (fun _ => 0) n (src + 1) s.tks.image.sel, Tbl.set (fun _ => 0) n frame s.tks.image.when_⟩ } }

/-- Switch an output to the source of an armed take, and post its completion record. -/
def State.switchTake (s : State) (t : PendTake) : State :=
  let n := t.out
  let o := s.out n
  let at_ := s.switchPoint t.otd t.frame
  let lost := !t.nochange && !t.routed
  let t := { t with pathLost := lost }
  let s := s.dropTake t
  let s := s.setFld F.EGR_OUT_TAKE_SOURCE n t.src
  let s := (s.setFlag F.EGR_OUT_TAKE_DIRTY n t.dirty).setFlag F.EGR_OUT_TAKE_BONDED n t.bonded
  let s := if t.nochange then s
    else
      let s := s.setOut n { o with
        route := t.req, view := t.view, norm := t.named, fed := t.routed, gapLines := 0,
        flags := o.flags ||| (if lost then 8 else 0) ||| (if t.dirty then 16 else 0),
        audioNext := some (t.src, blockBoundary at_) }
      let s := s.setFlag F.EGR_OUT_TAKE_PATH_LOST n lost
      let s := s.endOld (if o.route = t.req then none else o.route) (s.preEnd t.otd t.frame)
      s.setFlag F.EGR_OUT_STAT_MISMATCH n t.mismatch
  (s.imageSel n t.src t.frame).postTake t (nimTime at_) (if lost then .NO_PATH else if t.late then .LATE else .OK) false

/-- Outputs change from a replaced route to its successor at their switch point (R120). -/
def State.changeRoutes (s : State) (d : Nat) : State :=
  s.egr.outs.foldl (fun (s : State) e =>
    if s.fld F.EGR_OUT_CFG_OTD e.1 ≠ d then s
    else match e.2.route with
      | none => s
      | some r => match s.twl.routes.find? (fun q => q.settled && q.atDest && q.replaces == some r) with
        | none => s
        | some q => s.setOut e.1 { s.out e.1 with route := some q.req }) s

/-- The takes of domain d's current frame switch, in order of acceptance (R142, R156). -/
def State.switchTakes (s : State) (d : Nat) : State :=
  let k := (s.otd d).frame
  let s := s.changeRoutes d
  (s.tks.takes.filter fun t => t.otd == d && t.frame == k && t.armed && t.own == .OK).foldl (fun s t => s.switchTake t) s

/-! ### The cross-check (R175 to R181) -/

/-- Whether the cross-check runs (R175). -/
def State.xchkOn (s : State) : Bool := s.mirrored && s.flag F.RSL_XCHK_CFG_EN 0 && !s.fenced

/-- Record a divergence and start the self-check (R178). -/
def State.declareDiverged (s : State) (n frame : Nat) (reason : Nat) : State :=
  let w := reason * 2 ^ 27 + frame % 256 * 256 + n % 128
  let s := (s.count .RSL_XCHK_DIV 0 1).setReg .RSL_XCHK_LAST 0 (BitVec.ofNat 64 w)
  let s := (s.alarm Irq.RSL_DIVERGED alertDiverged n (frame % 256)).answer .DIVERGED
  { s with tks := { s.tks with check := some none, partnerCheck := none, diverged := Tbl.set (fun _ => 0) n 0 s.tks.diverged } }

/-- Compare a record of the partner with this part's own (R177, R178). -/
def State.compareX (s : State) (own theirs : XchkRec) : State :=
  let n := own.out
  let run := Tbl.get (fun _ => 0) s.tks.diverged n
  if own.src ≠ theirs.src then s.declareDiverged n own.frame 1
  else if own.crc = theirs.crc then
    { s with tks := { s.tks with diverged := Tbl.set (fun _ => 0) n 0 s.tks.diverged, explained := Tbl.set (fun _ => false) n false s.tks.explained } }
  else if own.flags ≠ 0 ∨ theirs.flags ≠ 0 then
    let first := !Tbl.get (fun _ => false) s.tks.explained n
    let s := s.count .RSL_XCHK_EXPL 0 1
    let s := { s with tks := { s.tks with diverged := Tbl.set (fun _ => 0) n 0 s.tks.diverged, explained := Tbl.set (fun _ => false) n true s.tks.explained } }
    if first then s.awlUnstated .RSL (awlArg n (own.flags ||| theirs.flags)) else s
  else
    let s := { s with tks := { s.tks with explained := Tbl.set (fun _ => false) n false s.tks.explained } }
    if s.fld F.RSL_XCHK_CFG_DIVERGE_FRAMES 0 ≤ run + 1 then s.declareDiverged n own.frame 0
    else { s with tks := { s.tks with diverged := Tbl.set (fun _ => 0) n (run + 1) s.tks.diverged } }

/-- XCHK_RECORD_RECEIVE (R177, R178, R181): the partner's record of one output for one frame; the silence before it ends, and
its missing records are counted. -/
def execXchkRecordReceive (r : XchkRec) (s : State) : Host.Outcome State Fault Refusal :=
  .next (if !s.xchkOn then s
    else
      let s := { s with tks := { s.tks with got := s.tks.got + 1, missing := 0 } }
      let s := if s.rsl.probing then s
        else { (s.count .RSL_XCHK_MISS 0 s.rsl.missed) with rsl := { s.rsl with missed := 0 } }
      match s.tks.sentX.find? (fun o => o.out == r.out && o.frame == r.frame) with
      | none => s
      | some own => { s with tks := { s.tks with sentX := s.tks.sentX.erase own } }.compareX own r)

end Sys2Proof.Machine
end

