-- ==== Sys2Proof/Machine/Egress.lean ====
section
/-! DEFINITION. Getting signals out: output timing domains, outputs, pattern generators, senders, the join service and
the HEALTH outputs (chapter 05, R185 to R230). -/

namespace Sys2Proof.Machine

/-! ### The HEALTH outputs (R223 to R225) -/

/-- Output n is in mask A or mask B. -/
def State.inMask (s : State) (b : Bool) (n : Nat) : Bool :=
  bit (n % 32) (s.reg (if b then .EGR_HEALTH_MASK_B else .EGR_HEALTH_MASK_A) (n / 32))

/-- The first failing condition of Table 05.7 for a pin; 0 when every condition holds. -/
def State.healthFail (s : State) (b : Bool) : Nat :=
  let outs := (List.range 128).filter fun n => s.outState n != 0 && s.flag F.EGR_OUT_CFG_ENABLE n && s.inMask b n
  if s.host.inReset then 1
  else if 2 ≤ s.fld F.NIM_PAIR_CFG_MODE 0 ∨ s.fenced = true then 2
  else if s.flag F.EGR_CTRL_EN 0 = false ∨ s.flag F.EGR_STATUS_RUN 0 = false then 3
  else if outs = [] then 4
  else if outs.any (fun n => s.flag F.EGR_OUT_CFG_SDI_EN n && !(s.out n).lane) then 5
  else if outs.any (fun n => s.flag F.EGR_OTD_STAT_REALIGNING (s.fld F.EGR_OUT_CFG_OTD n)) then 6
  else if !s.flag F.LST_STATUS_LANE_QUAL 0 then 7
  else if (if b then s.egr.relB else s.egr.relA) then 8
  else 0

/-- Drive the pins: HEALTH_CHG is set at every change of level, and EGR_HEALTH_STAT shows levels and first failing
conditions (R223, R224). -/
def State.setHealth (s : State) (a b : Bool) : State :=
  let changed := a != s.egr.healthA || b != s.egr.healthB
  let s := { s with egr := { s.egr with healthA := a, healthB := b } }
  let s := (s.setFlag F.EGR_HEALTH_STAT_HEALTH_A 0 a).setFlag F.EGR_HEALTH_STAT_HEALTH_B 0 b
  let s := (s.setFld F.EGR_HEALTH_STAT_FAIL_A 0 (s.healthFail false)).setFld F.EGR_HEALTH_STAT_FAIL_B 0 (s.healthFail true)
  if changed then s.irq Irq.EGR_HEALTH_CHG else s

/-- A pin falls as soon as a condition fails (R224). -/
def State.health (s : State) : State :=
  s.setHealth (s.egr.healthA && s.healthFail false == 0) (s.egr.healthB && s.healthFail true == 0)

/-- HEALTH_RISE_TIMER (R224): every condition of a pin has held for RISE_MS. -/
def execHealthRiseTimer (pinB : Bool) (s : State) : Host.Outcome State Fault Refusal :=
  .next (if s.healthFail pinB = 0 then
      s.setHealth (s.egr.healthA || !pinB) (s.egr.healthB || pinB)
    else s.health)

/-- A write of EGR_HEALTH_CFG (R224, R225). -/
def State.writeHealthCfg (s : State) (src : Requester) (v : Word) : State :=
  s.guarded .EGR_HEALTH_CFG src fun s =>
    if 60000 < F.EGR_HEALTH_CFG_RISE_MS.of v then s.refuse .BAD_ARG
    else if F.EGR_HEALTH_CFG_RELEASE_OTD.of v ≠ s.fld F.EGR_HEALTH_CFG_RELEASE_OTD 0 ∧ (s.egr.waitA || s.egr.waitB) = true then
      s.refuse .BUSY
    else s.store .EGR_HEALTH_CFG 0 v

/-- A write of EGR_HEALTH_CTRL (R225). -/
def State.writeHealthCtrl (s : State) (src : Requester) (v : Word) : State :=
  s.guarded .EGR_HEALTH_CTRL src fun s =>
    let a := F.EGR_HEALTH_CTRL_RELEASE_A.on v
    let b := F.EGR_HEALTH_CTRL_RELEASE_B.on v
    let wasA := s.flag F.EGR_HEALTH_CTRL_RELEASE_A 0
    let wasB := s.flag F.EGR_HEALTH_CTRL_RELEASE_B 0
    if ((a && !wasA) || (b && !wasB)) && !s.otdEnabled (s.fld F.EGR_HEALTH_CFG_RELEASE_OTD 0) then s.refuse .NOT_READY
    else
      let e := s.egr
      let s := { s with egr := { e with
        waitA := a && (e.waitA || !wasA), waitB := b && (e.waitB || !wasB), relA := a && e.relA, relB := b && e.relB } }
      (s.store .EGR_HEALTH_CTRL 0 v).health

/-- HEALTH_RELEASE_WRITE (R225). -/
def execHealthReleaseWrite (src : Requester) (releaseA releaseB : Bool) (s : State) : Host.Outcome State Fault Refusal :=
  .next (s.writeHealthCtrl src (F.EGR_HEALTH_CTRL_RELEASE_A.put (if releaseA then 1 else 0)
    (F.EGR_HEALTH_CTRL_RELEASE_B.put (if releaseB then 1 else 0) 0)))

/-- Planned releases take effect at a switch point of domain RELEASE_OTD (R225). -/
def State.applyReleases (s : State) (d : Nat) : State :=
  if s.fld F.EGR_HEALTH_CFG_RELEASE_OTD 0 ≠ d then s
  else
    let e := s.egr
    ({ s with egr := { e with waitA := false, waitB := false, relA := e.relA || e.waitA, relB := e.relB || e.waitB } }).health

/-! ### Output timing domains (R185 to R190) -/

/-- Whether any output, input or generator that is enabled or draining is assigned to domain d (R190). -/
def State.domainUsed (s : State) (d : Nat) : Bool :=
  (List.range 128).any (fun n => s.outState n != 0 && s.fld F.EGR_OUT_CFG_OTD n == d) ||
  (List.range 384).any (fun n => s.inState n != inOff && s.fld F.ING_IN_CFG_OTD n == d) ||
  (List.range 16).any (fun p => s.flag F.EGR_PAT_CFG_ENABLE p && s.fld F.EGR_PAT_CFG_OTD p == d) ||
  (List.range 16).any (fun v => s.fld F.VMP_PIPE_STAT_STATE v != 0 && s.fld F.VMP_PIPE_CFG_OTD v == d)

/-- Begin a realignment of domain d: the end of its frame on the time base as it now stands, and the first boundary at
least one line period after that and after now (R188, R189). -/
def State.realign (s : State) (d : Nat) (endAt : FineTime) : State :=
  let code := s.otdFormat d
  let now := s.tbNow (s.otdTb d)
  let k := firstBoundary code (s.otdPhase d) (max endAt now + linePeriod code)
  let s := s.setOtd d { s.otd d with target := some k, endAt := endAt }
  ((s.setFlag F.EGR_OTD_STAT_ALIGNED d false).setFlag F.EGR_OTD_STAT_REALIGNING d true).health

/-- The time that remains of domain d's frame in progress. -/
def State.frameLeft (s : State) (d : Nat) : FineTime :=
  s.boundary d ((s.otd d).frame + 1) - s.otdNow d

/-- An enabled domain on a time base that has been stepped extends its frame; `left` is what remained of it (R189). -/
def State.extendDomain (s : State) (d : Nat) (left : FineTime) : State :=
  let s := s.realign d (s.tbNow (s.otdTb d) + left)
  let s := s.setFld F.EGR_OTD_STAT_REALIGNS d (s.fld F.EGR_OTD_STAT_REALIGNS d + 1)
  let s := s.event Irq.EGR_OTD_REALIGN d 0
  match (s.otd d).target with
  | none => s
  | some f => (s.tks.takes.filter fun (t : PendTake) => t.otd == d && t.own == .OK && decide (t.frame < f)).foldl
      (fun (s : State) t => s.moveTake t f) s

/-- A time base has been stepped: the enabled domains on it extend their frames (R189). -/
def State.stepDomains (s : State) (k : Nat) (left : Nat → FineTime) : State :=
  ((List.range 8).filter fun d => s.otdEnabled d && s.otdTb d == k).foldl (fun (s : State) d => s.extendDomain d (left d)) s

/-- Start domain d: its frame count follows its time base (R185, R186). -/
def State.startDomain (s : State) (d : Nat) : State :=
  let k := lastBoundary (s.otdFormat d) (s.otdPhase d) (s.tbNow (s.otdTb d))
  let s := (s.setOtd d ⟨k, none, 0⟩).setReg .EGR_OTD_FCNT d (BitVec.ofNat 64 (k % 2 ^ 32))
  ((s.setFlag F.EGR_OTD_STAT_ALIGNED d (s.tbRunning (s.otdTb d))).setFlag F.EGR_OTD_STAT_REALIGNING d false).health

/-- Outputs of domain d show a mismatch while their source's format differs from the domain's (R188). -/
def State.showMismatch (s : State) (d : Nat) : State :=
  s.egr.outs.foldl (fun (s : State) e =>
    if s.fld F.EGR_OUT_CFG_OTD e.1 ≠ d then s
    else
      let src := s.fld F.EGR_OUT_TAKE_SOURCE e.1
      let v := if srcPart src = s.domainId ∧ src ≠ noSource then s.ownView (srcInput src) else e.2.view
      let bad := src != noSource && (match v.form with | some f => f.code != s.otdFormat d | none => false)
      s.setFlag F.EGR_OUT_STAT_MISMATCH e.1 bad) s

/-- Whether an output of domain d has a pending take (R188). -/
def State.domainPending (s : State) (d : Nat) : Bool := s.tks.takes.any fun t => t.otd == d && t.own == .OK

/-- A change of an enabled domain's format, time base or phase: its frame completes under the old configuration, and
the new one begins at the first new boundary at least one new line period later (R188). -/
def State.reconfigure (s : State) (d : Nat) (k : State → State) : State :=
  let left := s.frameLeft d
  let s := k s
  s.realign d (s.tbNow (s.otdTb d) + left)

/-- A write of EGR_OTD_CFG (R187, R188, R190, R225, R442). -/
def State.writeOtdCfg (s : State) (src : Requester) (d : Nat) (v : Word) : State :=
  s.guarded .EGR_OTD_CFG src fun s =>
    let fmt := F.EGR_OTD_CFG_FORMAT.of v
    let tb := F.EGR_OTD_CFG_TB.of v
    let en := F.EGR_OTD_CFG_ENABLE.on v
    let was := s.otdEnabled d
    let changes := fmt != s.otdFormat d || tb != s.otdTb d
    let release := (s.egr.waitA || s.egr.waitB) && s.fld F.EGR_HEALTH_CFG_RELEASE_OTD 0 == d
    if (fmt != 0 && !fmtAccepted fmt) || (en && fmt == 0) ||
        (fmt != 0 && decide (framePeriod fmt ≤ s.otdPhase d)) then s.refuse .BAD_ARG
    else if was && !en then
      if s.domainUsed d || release then s.refuse .REFUSED_POLICY
      else
        let s := (s.store .EGR_OTD_CFG d v).setOtd d default
        ((s.setFlag F.EGR_OTD_STAT_ALIGNED d false).setFlag F.EGR_OTD_STAT_REALIGNING d false).health
    else if !was && en then
      if !s.tbRunning tb then s.refuse .NOT_READY else (s.store .EGR_OTD_CFG d v).startDomain d
    else if was && changes then
      if s.domainPending d then s.refuse .BUSY
      else if tb ≠ s.otdTb d ∧ s.tbRunning tb = false then s.refuse .NOT_READY
      else s.reconfigure d fun s => s.store .EGR_OTD_CFG d v
    else s.store .EGR_OTD_CFG d v

/-- OTD_CONFIG_WRITE (R187, R188, R190). -/
def execOtdConfigWrite (src : Requester) (d : Fin 8) (w : Word32) (s : State) : Host.Outcome State Fault Refusal :=
  .next (s.writeOtdCfg src d (w.setWidth 64))

/-- A write of EGR_OTD_PHASE: 0 to the frame period less 1 ns (R187, R188). -/
def State.writeOtdPhase (s : State) (src : Requester) (d : Nat) (v : Word) : State :=
  s.guarded .EGR_OTD_PHASE src fun s =>
    let fmt := s.otdFormat d
    if framePeriod fmt < (low32 v).toNat * 65536 + 65536 then s.refuse .BAD_ARG
    else if s.otdEnabled d && low32 v != s.reg .EGR_OTD_PHASE d then
      if s.domainPending d then s.refuse .BUSY
      else s.reconfigure d fun s => s.store .EGR_OTD_PHASE d (low32 v)
    else s.store .EGR_OTD_PHASE d (low32 v)

/-- OTD_PHASE_WRITE (R187). -/
def execOtdPhaseWrite (src : Requester) (d : Fin 8) (w : Word32) (s : State) : Host.Outcome State Fault Refusal :=
  .next (s.writeOtdPhase src d (w.setWidth 64))

/-! ### Senders (R209 to R220) -/

/-- A sender's record. -/
def State.sender (s : State) (k : SndKind) (i : Nat) : Sender :=
  match k with
  | .video => Tbl.get (fun _ => default) s.egr.vsnd i
  | .audio => Tbl.get (fun _ => default) s.egr.asnd i
  | .anc => Tbl.get (fun _ => default) s.egr.xsnd i

/-- Set a sender's record. -/
def State.setSender (s : State) (k : SndKind) (i : Nat) (x : Sender) : State :=
  match k with
  | .video => { s with egr := { s.egr with vsnd := Tbl.set (fun _ => default) i x s.egr.vsnd } }
  | .audio => { s with egr := { s.egr with asnd := Tbl.set (fun _ => default) i x s.egr.asnd } }
  | .anc => { s with egr := { s.egr with xsnd := Tbl.set (fun _ => default) i x s.egr.xsnd } }

/-- The records of one kind of sender. -/
def State.senders (s : State) (k : SndKind) : Tbl Sender :=
  match k with | .video => s.egr.vsnd | .audio => s.egr.asnd | .anc => s.egr.xsnd

/-- PORT_A and PORT_B of a sender. -/
def State.sndPortA (s : State) (k : SndKind) (i : Nat) : Nat :=
  match k with | .video => s.fld F.EGR_VSND_PORT_PORT_A i | .audio => s.fld F.EGR_ASND_PORT_PORT_A i | .anc => s.fld F.EGR_XSND_PORT_PORT_A i
def State.sndPortB (s : State) (k : SndKind) (i : Nat) : Nat :=
  match k with | .video => s.fld F.EGR_VSND_PORT_PORT_B i | .audio => s.fld F.EGR_ASND_PORT_PORT_B i | .anc => s.fld F.EGR_XSND_PORT_PORT_B i

/-- DUAL and TAKEOVER of a sender. -/
def State.sndDual (s : State) (k : SndKind) (i : Nat) : Bool :=
  match k with | .video => s.flag F.EGR_VSND_CFG_DUAL i | .audio => s.flag F.EGR_ASND_CFG_DUAL i | .anc => s.flag F.EGR_XSND_CFG_DUAL i
def State.sndTakeover (s : State) (k : SndKind) (i : Nat) : Bool :=
  match k with | .video => s.flag F.EGR_VSND_CFG_TAKEOVER i | .audio => s.flag F.EGR_ASND_CFG_TAKEOVER i | .anc => s.flag F.EGR_XSND_CFG_TAKEOVER i

/-- FLOW and VALID of a sender. -/
def State.sndFlow (s : State) (k : SndKind) (i : Nat) : Nat :=
  match k with | .video => s.fld F.EGR_VSND_CFG_FLOW i | .audio => s.fld F.EGR_ASND_CFG_FLOW i | .anc => s.fld F.EGR_XSND_CFG_FLOW i
def State.sndValid (s : State) (k : SndKind) (i : Nat) : Bool :=
  match k with | .video => s.flag F.EGR_VSND_CFG_VALID i | .audio => s.flag F.EGR_ASND_CFG_VALID i | .anc => s.flag F.EGR_XSND_CFG_VALID i

/-- The legs that a sender sends, A and B: both with DUAL; in MIRRORED mode a side's own leg only, and the partner's as
well while it takes over (R218 to R220). -/
def State.sndLegs (s : State) (k : SndKind) (i : Nat) (takeover : Bool) : Bool × Bool :=
  if s.mirrored then (!s.sideB || takeover, s.sideB || takeover) else (true, s.sndDual k i)

/-- The legs that count against a port's rate (R210, R219, R220). -/
def State.sndCounted (s : State) (k : SndKind) (i : Nat) : Bool × Bool := s.sndLegs k i (s.sndTakeover k i)

/-- The link rate of a network port in Mbit/s (Table 14.3). -/
def portMbit (rate : Nat) : Nat :=
  match rate with | 1 => 10000 | 2 => 25000 | 3 => 50000 | 4 => 100000 | 5 => 200000 | 6 => 400000 | _ => 0

/-- The wire rate of every valid sender on a port, in bit/s (R210). -/
def State.portLoad (s : State) (port : Nat) : Nat :=
  [SndKind.video, .audio, .anc].foldl (fun a k =>
    (s.senders k).foldl (fun a e =>
      if !s.sndValid k e.1 then a
      else
        let c := s.sndCounted k e.1
        a + (if c.1 && s.sndPortA k e.1 == port then e.2.rate else 0) + (if c.2 && s.sndPortB k e.1 == port then e.2.rate else 0)) a) 0

/-- The senders on a port keep 95 % of its rate (R210); a port whose link is down is counted at its group's rate. -/
def State.portFits (s : State) (port : Nat) : Bool :=
  decide (s.portLoad port * 100 ≤ portMbit (s.fld F.NPT_PORT_STAT_RATE port) * 1000000 * 95)

/-- Bytes of an IP and UDP header pair. -/
def ipUdp (v6 : Bool) : Nat := if v6 then 48 else 28

/-- The pgroup size of a form (R214). -/
def pgroup (f : Form) : Nat :=
  if f.sampling = 0 then (match f.depth with | 0 => 4 | 1 => 5 | _ => 6) else (match f.depth with | 0 => 3 | 1 => 15 | _ => 9)

/-- Bytes of a line in the packet form (R214): pixels per pgroup are 2 at 4:2:2, and at 4:4:4 1, 4 and 2 for 8, 10
and 12 bits. -/
def lineBytes (f : Form) : Nat :=
  widthOf f.code * pgroup f / (if f.sampling = 0 then 2 else match f.depth with | 0 => 1 | 1 => 4 | _ => 2)

/-- Packets of a line (R214). -/
def linePackets (f : Form) (payload : Nat) : Nat := ceilDiv (lineBytes f) (payload / pgroup f * pgroup f)

/-- P of R213: packets per frame. -/
def framePackets (f : Form) (payload : Nat) : Nat := heightOf f.code * linePackets f payload

/-- The wire rate of an ST 2110-20 sender: payload, and per packet 20 bytes of RTP and payload headers, IP and UDP
headers, and the 38 bytes of R210. -/
def videoRate (f : Form) (payload : Nat) (v6 : Bool) : Nat :=
  let n := framePackets f payload
  if rateDen f.code = 0 then 0
  else (heightOf f.code * lineBytes f + n * (20 + ipUdp v6 + 38)) * 8 * rateNum f.code / rateDen f.code

/-- The wire rate of an ST 2022-6 sender: 1,376-byte payloads with RTP and HBRMT headers (R215). -/
def hbrmtRate (code : Nat) (v6 : Bool) : Nat := lineRate code * 1000 * (1376 + 20 + ipUdp v6 + 38) / 1376

/-- Samples of a packet of an audio sender (R216). -/
def audioSamples (rate96 ptime125 : Bool) : Nat := (if ptime125 then 6 else 48) * (if rate96 then 2 else 1)

/-- The wire rate of an audio sender: 3 bytes a sample for L24, 4 for AES3 subframes. -/
def audioRate (aes : Bool) (channels : Nat) (rate96 ptime125 v6 : Bool) : Nat :=
  (channels * audioSamples rate96 ptime125 * (if aes then 4 else 3) + 12 + ipUdp v6 + 38) * 8 * (if ptime125 then 8000 else 1000)

/-- The directory entry that a binding is checked against: leg A's, or leg B's on side B of a pair (R209, R219). -/
def State.sndEntry (s : State) (flow : Nat) : Word128 :=
  s.dirEntry (if s.mirrored && s.sideB && s.twoLeg flow then flow + 1 else flow)

/-- Whether a flow may be bound to a sender: valid, of this part's origin, and of a KIND that matches (R209). -/
def State.bindable (s : State) (flow kind : Nat) : Bool :=
  let e := s.sndEntry flow
  dirValid e && dirOrigin e / 512 == s.domainId && dirKind e == kind

/-- The form that a video sender sends (R211): the output form or, in SOURCE mode, the source's own. -/
def State.vsndForm (s : State) (i : Nat) (cfg : Word) (v : TakeView) : Form :=
  if F.EGR_VSND_CFG_MODE.on cfg then
    match (s.viewOf (s.fld F.EGR_VSND_SRC_SOURCE i) v).form with | some f => f | none => ⟨0, 0, 1⟩
  else
    let n := F.EGR_VSND_CFG_OUTPUT.of cfg
    ⟨s.otdFormat (s.fld F.EGR_OUT_CFG_OTD n), s.fld F.EGR_OUT_CFG_SAMPLING n, s.fld F.EGR_OUT_CFG_DEPTH n⟩

/-- Whether both ports of a sender's legs hold their rate. -/
def State.legsFit (s : State) (k : SndKind) (i : Nat) : Bool :=
  let c := s.sndCounted k i
  (!c.1 || s.portFits (s.sndPortA k i)) && (!c.2 || s.portFits (s.sndPortB k i))

/-- The egress slice-ports of a SOURCE sender's port group (R211). -/
def State.sndEgress (s : State) (i : Nat) : List Nat := netPorts (s.fld F.EGR_VSND_PORT_PORT_A i / 4)

/-- A SOURCE sender asks for a route to its port group; it changes at the first RTP frame boundary after admission
(R211). -/
def State.askSource (s : State) (i src : Nat) (v : TakeView) : State × Status :=
  let form := match (s.viewOf src v).form with | some f => f | none => ⟨0, 0, 1⟩
  let x := s.requestRoute src form v (s.sndEgress i) none none
  match x.2 with
  | .error e => (x.1, e)
  | .ok r => (x.1.setSender .video i { x.1.sender .video i with next := some (src, r) }, .OK)

/-- Whether a video sender's form has no room for one whole pgroup in a frame (R215): ST 2022-6 from a domain above
2.97 Gbit/s does not fit. -/
def State.hbrmtUnfit (s : State) (cfg : Word) : Bool :=
  F.EGR_VSND_CFG_TYPE.on cfg && !F.EGR_VSND_CFG_MODE.on cfg &&
    decide (2970000 < lineRate (s.otdFormat (s.fld F.EGR_OUT_CFG_OTD (F.EGR_VSND_CFG_OUTPUT.of cfg))))

/-- Whether a port is in WAKE_ONLY (R518). -/
def State.wakeOnly (s : State) (port : Nat) : Bool := s.fld F.NPT_PORT_CFG_LP port == 2

/-- Whether a port that a sender's legs name is in WAKE_ONLY (R519). -/
def State.sndAsleep (s : State) (k : SndKind) (i a b : Nat) : Bool :=
  s.wakeOnly a || (s.sndDual k i && s.wakeOnly b)

/-- Clear VALID: the sender stops after its last packet of the current frame, or packet for audio (R227). -/
def State.stopSender (s : State) (k : SndKind) (i : Nat) : State :=
  s.setSender k i { s.sender k i with stopping := (s.sender k i).run }

/-- Start a sender with a wire rate. -/
def State.runSender (s : State) (k : SndKind) (i rate : Nat) : State :=
  let s := s.setSender k i { s.sender k i with run := true, stopping := false, rate := rate }
  if k = .video then s.setFlag F.EGR_VSND_STAT_RUN i true else s

/-- A write of EGR_VSND_CFG (R123, R209 to R211, R215, R218, R227). -/
def State.writeVsndCfg (s : State) (src : Requester) (i : Nat) (w : Word) (v : TakeView) : State :=
  s.guarded .EGR_VSND_CFG src fun s =>
    let flow := F.EGR_VSND_CFG_FLOW.of w
    let hb := F.EGR_VSND_CFG_TYPE.on w
    let source := F.EGR_VSND_CFG_MODE.on w
    if !F.EGR_VSND_CFG_VALID.on w then (s.store .EGR_VSND_CFG i w).stopSender .video i
    else if s.isLegB flow then s.refuse .BAD_ARG
    else if F.EGR_VSND_CFG_DUAL.on w && s.sndPortA .video i == s.sndPortB .video i then s.refuse .BAD_ARG
    else if !s.bindable flow (if hb then 2 else 1) then s.refuse .REFUSED_POLICY
    else if s.sndAsleep .video i (s.sndPortA .video i) (s.sndPortB .video i) then s.refuse .NOT_READY
    else if s.hbrmtUnfit w then s.refuse .FORMAT_MISMATCH
    else
      let f := s.vsndForm i w v
      let v6 := (s.dirEntry flow).getLsbD 126
      let rate := if hb then hbrmtRate f.code v6 else videoRate f (s.fld F.EGR_VSND_PORT_PAYLOAD i) v6
      let t := (s.store .EGR_VSND_CFG i w).runSender .video i rate
      if !t.legsFit .video i then s.refuse .NO_ROOM
      else
        let want := t.fld F.EGR_VSND_SRC_SOURCE i
        let x := t.sender .video i
        if source && want != noSource && x.src != want then
          let y := t.askSource i want v
          if y.2 = .OK then y.1.answer .OK else s.refuse y.2
        else t

/-- VIDEO_SENDER_BIND (R209, R210). -/
def execVideoSenderBind (src : Requester) (i : Fin 256) (w : Word32) (v : TakeView) (s : State) :
    Host.Outcome State Fault Refusal :=
  .next (s.writeVsndCfg src i (w.setWidth 64) v)

/-- A write of EGR_VSND_SRC (R211). -/
def State.writeVsndSrc (s : State) (src : Requester) (i : Nat) (w : Word) (v : TakeView) : State :=
  s.guarded .EGR_VSND_SRC src fun s =>
    let want := F.EGR_VSND_SRC_SOURCE.of w
    if s.flag F.EGR_VSND_CFG_VALID i && s.flag F.EGR_VSND_CFG_MODE i && want != noSource then
      let y := s.askSource i want v
      if y.2 = .OK then y.1.store .EGR_VSND_SRC i w else y.1.refuse y.2
    else s.store .EGR_VSND_SRC i w

/-- SOURCE_SENDER_SRC (R211). -/
def execSourceSenderSrc (src : Requester) (i : Fin 256) (w : Word32) (v : TakeView) (s : State) :
    Host.Outcome State Fault Refusal :=
  .next (s.writeVsndSrc src i (w.setWidth 64) v)

/-- A write of a sender's PORT register: the ports exist (R504), DUAL needs two, and the wire rates keep their limit
(R210, R214, R218). -/
def State.writeSndPort (s : State) (src : Requester) (k : SndKind) (i : Nat) (w : Word) : State :=
  let r := match k with | .video => Reg.EGR_VSND_PORT | .audio => Reg.EGR_ASND_PORT | .anc => Reg.EGR_XSND_PORT
  s.guarded r src fun s =>
    let a := F.EGR_VSND_PORT_PORT_A.of w
    let b := F.EGR_VSND_PORT_PORT_B.of w
    let pay := F.EGR_VSND_PORT_PAYLOAD.of w
    if k = .video ∧ (pay < 500 ∨ 1428 < pay) then s.refuse .BAD_ARG
    else if !s.flag F.NPT_PORT_STAT_EXISTS a || !s.flag F.NPT_PORT_STAT_EXISTS b then s.refuse .BAD_ARG
    else if s.sndValid k i && s.sndDual k i && a == b then s.refuse .BAD_ARG
    else if s.sndValid k i && s.sndAsleep k i a b then s.refuse .NOT_READY
    else
      let t := s.store r i w
      let x := t.sender k i
      let t := if k = .video ∧ s.flag F.EGR_VSND_CFG_TYPE i = false ∧ s.sndValid k i = true then
          let v6 := (t.dirEntry (t.sndFlow k i)).getLsbD 126
          t.setSender k i { x with rate := videoRate (t.vsndForm i (t.reg .EGR_VSND_CFG i) default) pay v6 }
        else t
      if s.sndValid k i && !t.legsFit k i then s.refuse .NO_ROOM else t

/-- Whether channels, packet time and rate keep an ST 2110-30 level: A 8 channels at 48 kHz and 1 ms, B adds 125 µs, C
64 channels at 125 µs; AX, BX and CX the same with 96 kHz at half the channels (R216). -/
def levelOk (level channels : Nat) (rate96 ptime125 : Bool) : Bool :=
  let x := decide (3 ≤ level)
  let base := level % 3
  (!rate96 || x) &&
  (if base = 0 then !ptime125 && decide (channels ≤ (if rate96 then 4 else 8))
   else if base = 1 then decide (channels ≤ (if rate96 then (if ptime125 then 8 else 4) else 8))
   else if ptime125 then decide (channels ≤ (if rate96 then 32 else 64)) else decide (channels ≤ (if rate96 then 4 else 8)))

/-- Tweed output channels that an audio sender reserves (R216). -/
def asndChannels (cfg fmt : Word) : Nat :=
  if F.EGR_ASND_CFG_VALID.on cfg && F.EGR_ASND_CFG_MODE.on cfg then
    F.EGR_ASND_FMT_CHANNELS.of fmt * (if F.EGR_ASND_FMT_RATE.on fmt then 2 else 1)
  else 0

/-- Tweed output channels reserved (R202, R216, R337). -/
def State.reserveOut (s : State) (old new : Nat) : Option State :=
  let held := s.fld F.TWD_OUT_RES_N 0
  if held - old + new ≤ 8192 then some (s.setFld F.TWD_OUT_RES_N 0 (held - old + new)) else none

/-- What breaks an audio sender's settings (R216, R230). -/
def badAsnd (cfg fmt : Word) : Bool :=
  let ch := F.EGR_ASND_FMT_CHANNELS.of fmt
  let hi := F.EGR_ASND_FMT_RATE.on fmt
  decide (6 ≤ F.EGR_ASND_FMT_LEVEL.of fmt) || decide (2 ≤ F.EGR_ASND_FMT_PTIME.of fmt) || ch == 0 || decide (64 < ch) ||
  !levelOk (F.EGR_ASND_FMT_LEVEL.of fmt) ch hi (F.EGR_ASND_FMT_PTIME.of fmt == 1) ||
  (F.EGR_ASND_CFG_VALID.on cfg && F.EGR_ASND_CFG_KIND.on cfg && ch % 2 == 1) ||
  (F.EGR_ASND_CFG_VALID.on cfg && !F.EGR_ASND_CFG_MODE.on cfg && hi)

/-- Bind or change an audio sender to a configuration and a format (R209, R210, R216). -/
def State.setAsnd (s : State) (i : Nat) (cfg fmt : Word) (k : State → State) : State :=
  let flow := F.EGR_ASND_CFG_FLOW.of cfg
  if badAsnd cfg fmt then s.refuse .BAD_ARG
  else match s.reserveOut (asndChannels (s.reg .EGR_ASND_CFG i) (s.reg .EGR_ASND_FMT i)) (asndChannels cfg fmt) with
    | none => s.refuse .NO_ROOM
    | some t =>
      if !F.EGR_ASND_CFG_VALID.on cfg then (k t).stopSender .audio i
      else if s.isLegB flow then s.refuse .BAD_ARG
      else if F.EGR_ASND_CFG_DUAL.on cfg && s.sndPortA .audio i == s.sndPortB .audio i then s.refuse .BAD_ARG
      else if !s.bindable flow (if F.EGR_ASND_CFG_KIND.on cfg then 4 else 3) then s.refuse .REFUSED_POLICY
      else if s.sndAsleep .audio i (s.sndPortA .audio i) (s.sndPortB .audio i) then s.refuse .NOT_READY
      else
        let rate := audioRate (F.EGR_ASND_CFG_KIND.on cfg) (F.EGR_ASND_FMT_CHANNELS.of fmt) (F.EGR_ASND_FMT_RATE.on fmt)
          (F.EGR_ASND_FMT_PTIME.of fmt == 1) ((s.dirEntry flow).getLsbD 126)
        let t := (k t).runSender .audio i rate
        if t.legsFit .audio i then t else s.refuse .NO_ROOM

/-- A write of EGR_ASND_CFG (R216). -/
def State.writeAsndCfg (s : State) (src : Requester) (i : Nat) (w : Word) : State :=
  s.guarded .EGR_ASND_CFG src fun s => s.setAsnd i w (s.reg .EGR_ASND_FMT i) fun s => s.store .EGR_ASND_CFG i w

/-- A write of EGR_ASND_FMT (R216). -/
def State.writeAsndFmt (s : State) (src : Requester) (i : Nat) (w : Word) : State :=
  s.guarded .EGR_ASND_FMT src fun s => s.setAsnd i (s.reg .EGR_ASND_CFG i) w fun s => s.store .EGR_ASND_FMT i w

/-- AUDIO_SENDER_BIND (R216): a write of EGR_ASND_CFG, or of EGR_ASND_FMT. -/
def execAudioSenderBind (src : Requester) (i : Fin 1024) (fmt : Bool) (w : Word32) (s : State) :
    Host.Outcome State Fault Refusal :=
  .next (if fmt then s.writeAsndFmt src i (w.setWidth 64) else s.writeAsndCfg src i (w.setWidth 64))

/-- A write of EGR_XSND_CFG (R209, R217). The spec states no wire rate for ancillary senders: it counts none here. -/
def State.writeXsndCfg (s : State) (src : Requester) (i : Nat) (w : Word) : State :=
  s.guarded .EGR_XSND_CFG src fun s =>
    let flow := F.EGR_XSND_CFG_FLOW.of w
    if !F.EGR_XSND_CFG_VALID.on w then (s.store .EGR_XSND_CFG i w).stopSender .anc i
    else if s.isLegB flow then s.refuse .BAD_ARG
    else if F.EGR_XSND_CFG_DUAL.on w && s.sndPortA .anc i == s.sndPortB .anc i then s.refuse .BAD_ARG
    else if !s.bindable flow 5 then s.refuse .REFUSED_POLICY
    else if s.sndAsleep .anc i (s.sndPortA .anc i) (s.sndPortB .anc i) then s.refuse .NOT_READY
    else (s.store .EGR_XSND_CFG i w).runSender .anc i 0

/-- ANC_SENDER_BIND (R217). -/
def execAncSenderBind (src : Requester) (i : Fin 512) (w : Word32) (s : State) : Host.Outcome State Fault Refusal :=
  .next (s.writeXsndCfg src i (w.setWidth 64))

/-- SENDER_STOP (R227): VALID written 0. -/
def execSenderStop (src : Requester) (k : SndKind) (i : Fin 1024) (s : State) : Host.Outcome State Fault Refusal :=
  .next (match k with
    | .video => s.writeVsndCfg src (i % 256) (F.EGR_VSND_CFG_VALID.put 0 (s.reg .EGR_VSND_CFG (i % 256))) default
    | .audio => s.writeAsndCfg src i (F.EGR_ASND_CFG_VALID.put 0 (s.reg .EGR_ASND_CFG i))
    | .anc => s.writeXsndCfg src (i % 512) (F.EGR_XSND_CFG_VALID.put 0 (s.reg .EGR_XSND_CFG (i % 512))))

/-- A sender that was stopping has stopped. -/
def State.senderOff (s : State) (k : SndKind) (i : Nat) : State :=
  let s := s.setSender k i default
  if k = .video then ((s.setFlag F.EGR_VSND_STAT_RUN i false).setFlag F.EGR_VSND_STAT_LEG_A i false).setFlag F.EGR_VSND_STAT_LEG_B i false else s

/-- Whether a network port's link is up. -/
def State.linkUp (s : State) (port : Nat) : Bool := bit port (s.reg .NPT_LINK 0)

/-- Whether a sender still meets the check of R209; one that does not sends nothing after its frame (R132). -/
def State.sndBound (s : State) (k : SndKind) (i : Nat) : Bool :=
  let e := s.sndEntry (s.sndFlow k i)
  dirValid e && dirOrigin e / 512 == s.domainId

/-- Send one RTP packet on one leg: not on a port without link (R220). -/
def State.sendLeg (s : State) (k : SndKind) (i : Nat) (legB : Bool) (ts seq : Nat) (marker : Bool) : State :=
  let port := if legB then s.sndPortB k i else s.sndPortA k i
  let up := s.linkUp port
  let kind := match k with | .video => 0 | .audio => 1 | .anc => 2
  let s := match k with
    | .video => s.setFlag (if legB then F.EGR_VSND_STAT_LEG_B else F.EGR_VSND_STAT_LEG_A) i up
    | _ => s
  if !up then s
  else
    let s := match k with
      | .video => s.count (if legB then .EGR_VSND_TXB else .EGR_VSND_TXA) i 1
      | .audio => s.count .EGR_ASND_TX i 1
      | .anc => s.count .EGR_XSND_TX i 1
    s.emit (.rtp kind i legB port (ts % 2 ^ 32) (seq % 2 ^ 32) marker)

/-- Send one RTP packet on the sender's legs (R218 to R220). -/
def State.sendRtp (s : State) (k : SndKind) (i ts seq : Nat) (marker : Bool) : State :=
  let l := s.sndLegs k i (s.sender k i).takeover
  let s := if l.1 then s.sendLeg k i false ts seq marker else s
  if l.2 then s.sendLeg k i true ts seq marker else s

/-- The domain whose time base a video sender follows: its output's, or its source's. -/
def State.vsndOtd (s : State) (i : Nat) : Nat :=
  if s.flag F.EGR_VSND_CFG_MODE i then (s.ownView (srcInput (s.sender .video i).src)).otd
  else s.fld F.EGR_OUT_CFG_OTD (s.fld F.EGR_VSND_CFG_OUTPUT i)

/-- The RTP timestamp of a time at 90 kHz (R212). -/
def rtp90 (t : FineTime) : Nat := t * 90000 / fineSecond

/-- VIDEO_PACKET_SEND (R211 to R214, R220): packet k of the sender's frame falls due, its cells missing or not, and
leaves late or not. -/
def execVideoPacketSend (i : Fin 256) (k : Nat) (missing late : Bool) (s : State) : Host.Outcome State Fault Refusal :=
  let x := s.sender .video i
  .next (if !x.run || s.fenced || !s.sndBound .video i then s
    else if missing && s.flag F.EGR_VSND_CFG_MODE i then s.count .EGR_VSND_MISS i 1
    else
      let d := s.vsndOtd i
      let f := s.vsndForm i (s.reg .EGR_VSND_CFG i) default
      let hb := s.flag F.EGR_VSND_CFG_TYPE i
      let n := if hb then ceilDiv (lineRate f.code * 1000 * rateDen f.code) (max 1 (rateNum f.code * 11008)) else framePackets f (s.fld F.EGR_VSND_PORT_PAYLOAD i)
      let two := interlaced f.code && !hb
      let second := two && decide (n / 2 ≤ k)
      let t := s.boundary d (s.otd d).frame + (if second then framePeriod f.code / 2 else 0)
      let marker := k + 1 == n || (two && k + 1 == n / 2)
      let s := if late then (s.count .EGR_VSND_LATE i 1).irq Irq.EGR_SND_LATE else s
      let s := s.setSender .video i { s.sender .video i with queued := (s.sender .video i).queued - 1 }
      s.sendRtp .video i (rtp90 t) ((s.otd d).frame * n + k) marker)

/-- AUDIO_PACKET_SEND (R212, R213, R216): the packet whose first sample has a count from the epoch. -/
def execAudioPacketSend (i : Fin 1024) (first : Nat) (s : State) : Host.Outcome State Fault Refusal :=
  let x := s.sender .audio i
  .next (if !x.run || s.fenced || !s.sndBound .audio i then s
    else
      let n := audioSamples (s.flag F.EGR_ASND_FMT_RATE i) (s.fld F.EGR_ASND_FMT_PTIME i == 1)
      let s := s.setSender .audio i { x with takeover := s.sndTakeover .audio i && s.mirrored && s.partnerLost }
      let s := s.sendRtp .audio i first (first / n % 65536) false
      if x.stopping then s.senderOff .audio i else s)

/-- ANC_PACKET_SEND (R212, R213, R217): a packet of a field or segment counted from the epoch, and whether it is the
last of it. -/
def execAncPacketSend (i : Fin 512) (field : Nat) (last : Bool) (s : State) : Host.Outcome State Fault Refusal :=
  let x := s.sender .anc i
  .next (if !x.run || s.fenced || !s.sndBound .anc i then s
    else
      let d := s.fld F.EGR_OUT_CFG_OTD (s.fld F.EGR_XSND_CFG_OUTPUT i)
      let code := s.otdFormat d
      let two := interlaced code || rasterOf code == 5
      let t := s.boundary d (if two then field / 2 else field) + (if two && field % 2 == 1 then framePeriod code / 2 else 0)
      s.sendRtp .anc i (rtp90 t) (field % 65536) last)

/-- A frame boundary of domain d at the senders that follow it: stops end, admitted sources take over, and a takeover
of the partner's leg starts or stops (R211, R220, R227). -/
def State.senderBoundary (s : State) (d : Nat) : State :=
  let s := s.egr.vsnd.foldl (fun (s : State) e =>
    if s.vsndOtd e.1 ≠ d then s
    else if e.2.stopping then
      let r := e.2.route
      (s.senderOff .video e.1).dropRoute r
    else
      let s := match e.2.next with
        | none => s
        | some n =>
          if (s.route n.2).any (fun (r : Route) => r.settled) then
            (s.setSender .video e.1 { e.2 with src := n.1, route := some n.2, next := none }).dropRoute (if e.2.route = some n.2 then none else e.2.route)
          else s
      let x := s.sender .video e.1
      let f := s.vsndForm e.1 (s.reg .EGR_VSND_CFG e.1) default
      s.setSender .video e.1 { x with
        takeover := s.sndTakeover .video e.1 && s.mirrored && s.partnerLost, queued := framePackets f (s.fld F.EGR_VSND_PORT_PAYLOAD e.1) }) s
  s.egr.xsnd.foldl (fun (s : State) e =>
    if s.fld F.EGR_OUT_CFG_OTD (s.fld F.EGR_XSND_CFG_OUTPUT e.1) ≠ d then s
    else if e.2.stopping then s.senderOff .anc e.1
    else s.setSender .anc e.1 { e.2 with takeover := s.sndTakeover .anc e.1 && s.mirrored && s.partnerLost }) s

/-! ### Outputs (R191 to R208, R226) -/

/-- The values of EGR_OUT_CFG that Table 05.10 does not allow. -/
def badOutCfg (v : Word) : Bool :=
  decide (2 ≤ F.EGR_OUT_CFG_SAMPLING.of v) || F.EGR_OUT_CFG_DEPTH.of v == 3 || F.EGR_OUT_CFG_OVERRIDE.of v == 3 ||
  F.EGR_OUT_CFG_IDENT_POS.of v == 7

/-- Tweed output channels that an output reserves while it is enabled in TWEED mode (R202). -/
def outChannels (aud : Word) : Nat := if F.EGR_OUT_AUD_MODE.of aud = 2 then F.EGR_OUT_AUD_CHANNELS.of aud else 0

/-- Senders bound to an output. -/
def State.boundTo (s : State) (k : SndKind) (n : Nat) : List Nat :=
  ((s.senders k).filter fun e => s.sndValid k e.1 && (match k with
    | .video => !s.flag F.EGR_VSND_CFG_MODE e.1 && s.fld F.EGR_VSND_CFG_OUTPUT e.1 == n
    | .audio => !s.flag F.EGR_ASND_CFG_MODE e.1 && s.fld F.EGR_ASND_CFG_OUTPUT e.1 == n
    | .anc => s.fld F.EGR_XSND_CFG_OUTPUT e.1 == n)).map (·.1)

/-- The output goes OFF: its lane idles, its bound senders stop, and its reservation ends (R202, R226). -/
def State.outputOff (s : State) (n : Nat) (killed : Bool) : State :=
  let s := match s.reserveOut (outChannels (s.reg .EGR_OUT_AUD n)) 0 with | some s => s | none => s
  let s := s.setReg .EGR_OUT_STAT n (if killed then BitVec.ofNat 64 (2 ^ 28) else 0)
  let s := s.setOut n { s.out n with lane := false, flags := 0, gapLines := 0 }
  let s := (s.boundTo .video n).foldl (fun s i =>
    let x := s.sender .video i
    let s := if killed then s.count .EGR_VSND_MISS i x.queued else s
    (s.setSender .video i { x with run := false, queued := 0 }).setFlag F.EGR_VSND_STAT_RUN i false) s
  let s := (s.boundTo .audio n).foldl (fun s i => s.setSender .audio i { s.sender .audio i with run := false }) s
  let s := (s.boundTo .anc n).foldl (fun s i => s.setSender .anc i { s.sender .anc i with run := false }) s
  let s := if s.flag F.EGR_STATUS_DRAINING 0 && (List.range 128).all (fun m => s.outState m != 2) then
      s.setFlag F.EGR_STATUS_DRAINING 0 false
    else s
  s.health

/-- The pending takes of an output complete with DRAINING (R226). -/
def State.drainTakes (s : State) (n : Nat) : State :=
  (s.tks.takes.filter fun t => t.out == n).foldl (fun s t => s.refuseTake t .DRAINING) s

/-- ENABLE cleared: the output drains (R226). -/
def State.drainOutput (s : State) (n : Nat) : State := (s.setFld F.EGR_OUT_STAT_STATE n 2).drainTakes n

/-- An output that has just been enabled: its lane carries the SDI form, and its bound senders run. -/
def State.startOutput (s : State) (n : Nat) : State :=
  let s := s.setReg .EGR_OUT_STAT n (BitVec.ofNat 64 (2 ^ 29))
  let s := s.setOut n { s.out n with lane := s.flag F.EGR_OUT_CFG_SDI_EN n, ovr := s.fld F.EGR_OUT_CFG_OVERRIDE n, pat := s.fld F.EGR_OUT_CFG_PAT n }
  let s := (s.boundTo .video n).foldl (fun s i => (s.setSender .video i { s.sender .video i with run := true }).setFlag F.EGR_VSND_STAT_RUN i true) s
  let s := (s.boundTo .audio n).foldl (fun s i => s.setSender .audio i { s.sender .audio i with run := true }) s
  let s := (s.boundTo .anc n).foldl (fun s i => s.setSender .anc i { s.sender .anc i with run := true }) s
  s.health

/-- Whether a PATTERN override names a disabled generator or one of another domain (R198). -/
def State.badPattern (s : State) (v : Word) : Bool :=
  let p := F.EGR_OUT_CFG_PAT.of v
  F.EGR_OUT_CFG_OVERRIDE.of v == 2 && (!s.flag F.EGR_PAT_CFG_ENABLE p || s.fld F.EGR_PAT_CFG_OTD p != F.EGR_OUT_CFG_OTD.of v)

/-- A write of EGR_OUT_CFG (R190, R194, R198, R207, R226, R229, R639). -/
def State.writeOutCfg (s : State) (src : Requester) (n : Nat) (v : Word) : State :=
  s.guarded .EGR_OUT_CFG src fun s =>
    let en := F.EGR_OUT_CFG_ENABLE.on v
    let kill := F.EGR_OUT_CFG_KILL.on v && !en
    let st := s.outState n
    let w := F.EGR_OUT_CFG_KILL.put 0 v
    if st = 2 ∧ kill = false then s.refuse .DRAINING
    else if badOutCfg v then s.refuse .BAD_ARG
    else if kill && st != 0 then ((s.drainTakes n).store .EGR_OUT_CFG n w).outputOff n true
    else if s.badPattern v then s.refuse .REFUSED_POLICY
    else if en && st == 0 then
      if s.fld F.TWL_SP_STAT_STATE (3 * (n / 16)) = spGated ∨ s.bondedPart n = true then s.refuse .REFUSED_POLICY
      else if !s.flag F.EGR_CTRL_EN 0 || !s.otdEnabled (F.EGR_OUT_CFG_OTD.of v) || s.vidFailed n then s.refuse .NOT_READY
      else match s.reserveOut 0 (outChannels (s.reg .EGR_OUT_AUD n)) with
        | none => s.refuse .NO_ROOM
        | some s => (s.store .EGR_OUT_CFG n w).startOutput n
    else if en && F.EGR_OUT_CFG_OTD.of v != s.fld F.EGR_OUT_CFG_OTD n then s.refuse .REFUSED_POLICY
    else if en then
      let s := s.store .EGR_OUT_CFG n w
      (s.setOut n { s.out n with lane := F.EGR_OUT_CFG_SDI_EN.on v }).health
    else if st = 1 then (s.drainOutput n).store .EGR_OUT_CFG n w
    else s.store .EGR_OUT_CFG n w

/-- OUTPUT_ENABLE (R190, R194, R207): EGR_OUT_CFG written with ENABLE 1. -/
def execOutputEnable (src : Requester) (n : Fin 128) (w : Word32) (s : State) : Host.Outcome State Fault Refusal :=
  .next (s.writeOutCfg src n (F.EGR_OUT_CFG_KILL.put 0 (F.EGR_OUT_CFG_ENABLE.put 1 (w.setWidth 64))))

/-- OUTPUT_DISABLE (R226): ENABLE cleared. -/
def execOutputDisable (src : Requester) (n : Fin 128) (s : State) : Host.Outcome State Fault Refusal :=
  .next (s.writeOutCfg src n (F.EGR_OUT_CFG_KILL.put 0 (F.EGR_OUT_CFG_ENABLE.put 0 (s.reg .EGR_OUT_CFG n))))

/-- OUTPUT_KILL (R226): KILL written 1 with ENABLE 0. -/
def execOutputKill (src : Requester) (n : Fin 128) (s : State) : Host.Outcome State Fault Refusal :=
  .next (s.writeOutCfg src n (F.EGR_OUT_CFG_KILL.put 1 (F.EGR_OUT_CFG_ENABLE.put 0 (s.reg .EGR_OUT_CFG n))))

/-- OUTPUT_DRAIN_DONE (R226): the frame in progress is complete. -/
def execOutputDrainDone (n : Fin 128) (s : State) : Host.Outcome State Fault Refusal :=
  .next (if s.outState n = 2 then s.outputOff n false else s)

/-- OVERRIDE_WRITE (R198): OVERRIDE and PAT written. -/
def execOverrideWrite (src : Requester) (n : Fin 128) (ovr : BitVec 2) (pat : Fin 16) (s : State) :
    Host.Outcome State Fault Refusal :=
  .next (s.writeOutCfg src n (F.EGR_OUT_CFG_OVERRIDE.put ovr.toNat (F.EGR_OUT_CFG_PAT.put pat (s.reg .EGR_OUT_CFG n))))

/-- OUTPUT_LINE (R191, R195, R196, R206): a line with the gap marks that stand in it, the lines that its DIRECT source
made it repeat or drop, and the kept packets that found no room. -/
def execOutputLine (n : Fin 128) (gaps slips ancDrops : Nat) (s : State) : Host.Outcome State Fault Refusal :=
  .next (if s.outState n = 0 then s
    else
      let o := s.out n
      let s := if gaps = 0 then s else (s.count .EGR_OUT_GAP n gaps).irq Irq.EGR_GAP
      let s := if slips = 0 then s else (s.count .EGR_OUT_GAP n slips).setFlag F.EGR_OUT_STAT_DIRECT_SLIP n true
      let s := if ancDrops = 0 then s else (s.count .EGR_OUT_ANCDROP n ancDrops).irq Irq.EGR_ANC_DROP
      let run := if gaps = 0 then 0 else o.gapLines + 1
      let s := s.setOut n { o with
        gapLines := run, wholeLine := if gaps = 0 then true else if run = 8 then false else o.wholeLine,
        flags := o.flags ||| (if gaps = 0 then 0 else 4), slips := o.slips + slips }
      if 8 ≤ run then s.setFlag F.EGR_OUT_STAT_GAP_BLACK n true else s)

/-- A frame boundary at output n: overrides and idents take effect, black for gaps ends, and the frame's flags start
again (R195, R196, R198, R201). -/
def State.outputBoundary (s : State) (n : Nat) : State :=
  let o := s.out n
  let s := if s.flag F.EGR_OUT_STAT_GAP_BLACK n && o.wholeLine && o.gapLines == 0 then s.setFlag F.EGR_OUT_STAT_GAP_BLACK n false else s
  let s := s.setFlag F.EGR_OUT_STAT_DIRECT_SLIP n (decide (0 < o.slips))
  let s := s.setFlag F.EGR_OUT_STAT_OVERRIDDEN n (s.fld F.EGR_OUT_CFG_OVERRIDE n != 0)
  s.setOut n { o with
    ovr := s.fld F.EGR_OUT_CFG_OVERRIDE n, pat := s.fld F.EGR_OUT_CFG_PAT n, identPos := s.fld F.EGR_OUT_CFG_IDENT_POS n,
    ident := (List.range 8).map fun i => (s.reg .EGR_OUT_IDENT (n * 8 + i)).toNat, slips := 0,
    flags := if o.fed || o.route.isNone && !s.flag F.EGR_OUT_TAKE_PATH_LOST n then 0 else 8 }

/-- A write to an output's other registers, refused while it drains (R226). -/
def State.outWrite (s : State) (src : Requester) (r : Reg) (n : Nat) (k : State → State) : State :=
  s.guarded r src fun s => if s.outState n = 2 then s.refuse .DRAINING else k s

/-- A write of EGR_OUT_TAKE: MISMATCH (R162). -/
def State.writeOutTake (s : State) (src : Requester) (n : Nat) (v : Word) : State :=
  s.outWrite src .EGR_OUT_TAKE n fun s => s.store .EGR_OUT_TAKE n v

/-- A write of one word of EGR_OUT_IDENT (R201). -/
def State.writeIdent (s : State) (src : Requester) (n i : Nat) (v : Word) : State :=
  s.outWrite src .EGR_OUT_IDENT n fun s => s.store .EGR_OUT_IDENT (n * 8 + i) v

/-- IDENT_WRITE (R201): a word of the text; the position is a field of EGR_OUT_CFG. -/
def execIdentWrite (src : Requester) (n : Fin 128) (i : Fin 8) (w : Word32) (s : State) : Host.Outcome State Fault Refusal :=
  .next (s.writeIdent src n i (w.setWidth 64))

/-- A write of EGR_OUT_AUD (R202). -/
def State.writeOutAud (s : State) (src : Requester) (n : Nat) (v : Word) : State :=
  s.outWrite src .EGR_OUT_AUD n fun s =>
    let mode := F.EGR_OUT_AUD_MODE.of v
    let ch := F.EGR_OUT_AUD_CHANNELS.of v
    if mode = 3 ∨ 32 < ch ∨ (mode = 2 ∧ 8192 < F.EGR_OUT_AUD_BASE.of v + ch) then s.refuse .BAD_ARG
    else if s.outState n = 0 then s.store .EGR_OUT_AUD n v
    else match s.reserveOut (outChannels (s.reg .EGR_OUT_AUD n)) (outChannels v) with
      | none => s.refuse .NO_ROOM
      | some s => s.store .EGR_OUT_AUD n v

/-- OUT_AUDIO_WRITE (R202). -/
def execOutAudioWrite (src : Requester) (n : Fin 128) (w : Word32) (s : State) : Host.Outcome State Fault Refusal :=
  .next (s.writeOutAud src n (w.setWidth 64))

/-- A write of EGR_OUT_SDI (R207). -/
def State.writeOutSdi (s : State) (src : Requester) (n : Nat) (v : Word) : State :=
  s.outWrite src .EGR_OUT_SDI n fun s =>
    let sets := n % 4 == 0 && F.EGR_OUT_SDI_BOND.on v && !s.flag F.EGR_OUT_SDI_BOND n
    if sets && [n + 1, n + 2, n + 3].any (fun k => s.flag F.EGR_OUT_CFG_ENABLE k) then s.refuse .REFUSED_POLICY
    else if sets && rasterOf (s.otdFormat (s.fld F.EGR_OUT_CFG_OTD n)) != 8 then s.refuse .FORMAT_MISMATCH
    else s.store .EGR_OUT_SDI n v

/-- OUT_SDI_BOND (R207): a write of EGR_OUT_SDI. -/
def execOutSdiBond (src : Requester) (n : Fin 128) (w : Word32) (s : State) : Host.Outcome State Fault Refusal :=
  .next (s.writeOutSdi src n (w.setWidth 64))

/-- A write of EGR_PAT_CFG (R200). -/
def State.writePat (s : State) (src : Requester) (p : Nat) (v : Word) : State :=
  s.guarded .EGR_PAT_CFG src fun s =>
    let was := s.flag F.EGR_PAT_CFG_ENABLE p
    let en := F.EGR_PAT_CFG_ENABLE.on v
    let wide := fun d => rasterOf (s.otdFormat d) == 8
    let others := ((List.range 4).map (p / 4 * 4 + ·)).filter fun q => q != p && s.flag F.EGR_PAT_CFG_ENABLE q
    if was && en && F.EGR_PAT_CFG_OTD.of v != s.fld F.EGR_PAT_CFG_OTD p then s.refuse .REFUSED_POLICY
    else if en && !was && ((wide (F.EGR_PAT_CFG_OTD.of v) && !others.isEmpty) || others.any (fun q => wide (s.fld F.EGR_PAT_CFG_OTD q))) then
      s.refuse .REFUSED_POLICY
    else s.store .EGR_PAT_CFG p v

/-- PATTERN_GEN_CONFIG (R200). -/
def execPatternGenConfig (src : Requester) (p : Fin 16) (w : Word32) (s : State) : Host.Outcome State Fault Refusal :=
  .next (s.writePat src p (w.setWidth 64))

/-- A write of EGR_CTRL: EN runs egress; clearing it drains every output and drops both HEALTH pins (R227); KILL with
EN clear completes every drain as a kill (R547). -/
def State.writeEgrCtrl (s : State) (src : Requester) (v : Word) : State :=
  s.guarded .EGR_CTRL src fun s =>
    let s := s.store .EGR_CTRL 0 (F.EGR_CTRL_KILL.put 0 v)
    if F.EGR_CTRL_EN.on v then ((s.setFlag F.EGR_STATUS_RUN 0 true).setFlag F.EGR_STATUS_DRAINING 0 false).health
    else
      let live := (List.range 128).filter fun n => s.outState n != 0
      let s := (live.filter fun n => s.outState n == 1).foldl (fun s n => (s.drainOutput n).setFlag F.EGR_OUT_CFG_ENABLE n false) s
      let s := (s.setFlag F.EGR_STATUS_RUN 0 false).setFlag F.EGR_STATUS_DRAINING 0 (!live.isEmpty)
      let s := if F.EGR_CTRL_KILL.on v then live.foldl (fun s n => s.outputOff n true) s else s
      s.health

/-- EGRESS_DISABLE (R227): EGR_CTRL.EN cleared. -/
def execEgressDisable (src : Requester) (s : State) : Host.Outcome State Fault Refusal := .next (s.writeEgrCtrl src 0)

/-! ### The multicast join service (R221, R222, Table 05.6) -/

/-- The states of EGR_JOIN_STAT.STATE (Table 05.9). -/
def joinIdle : Nat := 0
def joinJoining : Nat := 1
def joinReceiving : Nat := 2
def joinStalled : Nat := 3
def joinDegraded : Nat := 4

/-- A join entry's record. -/
def State.join (s : State) (j : Nat) : Join := Tbl.get (fun _ => default) s.egr.joins j

/-- Set a join entry's record. -/
def State.setJoin (s : State) (j : Nat) (x : Join) : State :=
  { s with egr := { s.egr with joins := Tbl.set (fun _ => default) j x s.egr.joins } }

/-- The state of a join entry. -/
def State.joinState (s : State) (j : Nat) : Nat := s.fld F.EGR_JOIN_STAT_STATE j

/-- Whether the entry of a flow has SSM set (R221). -/
def State.isSsm (s : State) (flow : Nat) : Bool := (s.dirEntry flow).getLsbD 125

/-- Send a report or a leave for entry j. -/
def State.report (s : State) (j : Nat) (leave older : Bool) : State :=
  (s.count .EGR_JOIN_REP j 1).emit (.membership (s.fld F.EGR_JOIN_ENT_PORT j) (s.fld F.EGR_JOIN_ENT_FLOW j) leave older)

/-- A state-change report with its repeats, and a state (R222). -/
def State.changeReport (s : State) (j st : Nat) (leave : Bool) : State :=
  let s := (s.report j leave false).setFld F.EGR_JOIN_STAT_STATE j st
  s.setJoin j { s.join j with repeats := s.fld F.EGR_JOIN_TIMING_ROBUSTNESS 0 - 1, leaving := leave, queried := false }

/-- Whether another entry holds the group record of entry j: the same destination group on the same port (R221). -/
def State.groupHeld (s : State) (j : Nat) : Bool :=
  let grp := fun flow => (dirBits (s.dirEntry flow) 55 32, (s.dirEntry flow).getLsbD 126)
  s.egr.joins.any fun e => e.1 != j && s.flag F.EGR_JOIN_ENT_VALID e.1 && s.joinState e.1 != joinIdle &&
    s.fld F.EGR_JOIN_ENT_PORT e.1 == s.fld F.EGR_JOIN_ENT_PORT j &&
    grp (s.fld F.EGR_JOIN_ENT_FLOW e.1) == grp (s.fld F.EGR_JOIN_ENT_FLOW j)

/-- Leave the group of entry j unless another entry holds it (R222). -/
def State.leaveJoin (s : State) (j : Nat) : State :=
  if s.joinState j = joinIdle then s
  else if s.groupHeld j then (s.setFld F.EGR_JOIN_STAT_STATE j joinIdle).setJoin j ⟨0, true, false⟩
  else s.changeReport j joinIdle true

/-- A write of EGR_JOIN_ENT (R221, R222, R504). -/
def State.writeJoin (s : State) (src : Requester) (j : Nat) (v : Word) : State :=
  s.guarded .EGR_JOIN_ENT src fun s =>
    if !F.EGR_JOIN_ENT_VALID.on v then (s.leaveJoin j).store .EGR_JOIN_ENT j v
    else if !dirValid (s.dirEntry (F.EGR_JOIN_ENT_FLOW.of v)) || !s.flag F.NPT_PORT_STAT_EXISTS (F.EGR_JOIN_ENT_PORT.of v) then
      s.refuse .BAD_ARG
    else if s.wakeOnly (F.EGR_JOIN_ENT_PORT.of v) then s.refuse .NOT_READY
    else if v == s.reg .EGR_JOIN_ENT j then s.answer .OK
    else
      let s := s.leaveJoin j
      (s.store .EGR_JOIN_ENT j v).changeReport j joinJoining false

/-- JOIN_ENTRY_SET (R222): VALID written 1 with a port and a flow. -/
def execJoinEntrySet (src : Requester) (j : Fin 4096) (port : Fin 32) (flow : BitVec 19) (s : State) :
    Host.Outcome State Fault Refusal :=
  .next (s.writeJoin src j (BitVec.ofNat 64 (2 ^ 31 + port.val * 2 ^ 21 + flow.toNat)))

/-- JOIN_ENTRY_CLEAR (R222): VALID written 0. -/
def execJoinEntryClear (src : Requester) (j : Fin 4096) (s : State) : Host.Outcome State Fault Refusal :=
  .next (s.writeJoin src j (F.EGR_JOIN_ENT_VALID.put 0 (s.reg .EGR_JOIN_ENT j)))

/-- JOIN_REPEAT_TIMER (R222): a report or leave is repeated at URI. -/
def execJoinRepeatTimer (j : Fin 4096) (s : State) : Host.Outcome State Fault Refusal :=
  let x := s.join j
  .next (if x.repeats = 0 then s
    else (s.report j x.leaving (s.joinState j == joinDegraded)).setJoin j { x with repeats := x.repeats - 1 })

/-- A packet matching a join entry's flow arrives on its port (Table 05.6). -/
def State.joinMatch (s : State) (port flow : Nat) : State :=
  s.egr.joins.foldl (fun (s : State) e =>
    if s.flag F.EGR_JOIN_ENT_VALID e.1 && s.fld F.EGR_JOIN_ENT_PORT e.1 == port && s.fld F.EGR_JOIN_ENT_FLOW e.1 == flow &&
        (s.joinState e.1 == joinJoining || s.joinState e.1 == joinStalled) then
      s.setFld F.EGR_JOIN_STAT_STATE e.1 joinReceiving
    else s) s

/-- JOIN_STALL_TIMEOUT (R222): no matching packet for 1 s. -/
def execJoinStallTimeout (j : Fin 4096) (s : State) : Host.Outcome State Fault Refusal :=
  .next (if s.joinState j = joinReceiving then
      ((s.setFld F.EGR_JOIN_STAT_STATE j joinStalled).irq Irq.EGR_JOIN_FAIL).awlState .EGR .error joinStalled j 0
    else s)

/-- Whether entry j answers queries: JOINING, RECEIVING or STALLED. -/
def State.joinLive (s : State) (j : Nat) : Bool :=
  s.joinState j == joinJoining || s.joinState j == joinReceiving || s.joinState j == joinStalled

/-- JOIN_QUERY_RECEIVE (R222): a general query on a port, or one for the group of a flow; each entry it concerns will
report after a random delay. -/
def execJoinQueryReceive (port : Fin 32) (group : Option (BitVec 32)) (s : State) : Host.Outcome State Fault Refusal :=
  .next (s.egr.joins.foldl (fun (s : State) e =>
    let hit := match group with
      | none => true
      | some g => dirBits (s.dirEntry (s.fld F.EGR_JOIN_ENT_FLOW e.1)) 55 32 == g.toNat
    if s.fld F.EGR_JOIN_ENT_PORT e.1 = port ∧ s.joinLive e.1 = true ∧ hit = true then
      s.setJoin e.1 { s.join e.1 with queried := true }
    else s) s)

/-- JOIN_QUERY_REPORT (R222): the random delay of entry j expires. -/
def execJoinQueryReport (j : Fin 4096) (s : State) : Host.Outcome State Fault Refusal :=
  .next (if (s.join j).queried then (s.report j false false).setJoin j { s.join j with queried := false } else s)

/-- JOIN_OLD_QUERIER (R222): an IGMPv1, IGMPv2 or MLDv1 querier is heard on a port; SSM entries report the group in the
older version and are DEGRADED. -/
def execJoinOldQuerier (port : Fin 32) (s : State) : Host.Outcome State Fault Refusal :=
  .next (s.egr.joins.foldl (fun (s : State) e =>
    if s.fld F.EGR_JOIN_ENT_PORT e.1 = port ∧ s.joinLive e.1 = true ∧ s.isSsm (s.fld F.EGR_JOIN_ENT_FLOW e.1) = true then
      let s := ((s.report e.1 false true).setFld F.EGR_JOIN_STAT_STATE e.1 joinDegraded).irq Irq.EGR_JOIN_FAIL
      s.awlState .EGR .warning joinDegraded e.1 0
    else s) s)

/-- JOIN_OLD_QUERIER_TIMEOUT (R222): the older-version querier present timeout of a port expires. -/
def execJoinOldQuerierTimeout (port : Fin 32) (s : State) : Host.Outcome State Fault Refusal :=
  .next (s.egr.joins.foldl (fun (s : State) e =>
    if s.fld F.EGR_JOIN_ENT_PORT e.1 = port ∧ s.joinState e.1 = joinDegraded then s.changeReport e.1 joinJoining false else s) s)

/-- A port's link is up again: its live entries report (Table 05.6). -/
def State.joinLinkUp (s : State) (port : Nat) : State :=
  s.egr.joins.foldl (fun (s : State) e =>
    if s.fld F.EGR_JOIN_ENT_PORT e.1 = port ∧ s.joinLive e.1 = true then s.changeReport e.1 joinJoining false else s) s

end Sys2Proof.Machine
end

