-- ==== Sys2Proof/Machine/Directory.lean ====
section
/-! DEFINITION. The facility flow directory: reads, writes and withdrawals, their updates and acknowledgements,
conflicts, and resynchronisation (chapter 03, R122 to R132). -/

namespace Sys2Proof.Machine

/-- Change the directory's record. -/
def State.setDirs (s : State) (d : Dirs) : State := { s with twl := { s.twl with dirs := d } }

/-- Show the directory's counts (Table 03.10). -/
def State.showDir (s : State) : State :=
  let valid := s.dir.filter fun e => dirValid e.2
  let own := valid.filter fun e => dirOrigin e.2 / 512 == s.domainId
  let s := (s.setReg .TWL_DIR_COUNT 0 (BitVec.ofNat 64 valid.length)).setReg .TWL_DIR_OWN 0 (BitVec.ofNat 64 own.length)
  s.setReg .TWL_DIR_OVF 0 (BitVec.ofNat 64 (min 256 s.twl.dirs.overflow.length))

/-- The origins with updates awaited (TWL_DIR_LAG): those with a gap, those a resynchronisation awaits, and those left
for later (R128, R131). -/
def State.showLag (s : State) : State :=
  let d := s.twl.dirs
  let l := ((d.held.map (·.origin)) ++ d.awaiting ++ d.later).eraseDups
  s.setReg .TWL_DIR_LAG 0 (BitVec.ofNat 64 l.length)

/-- Put an entry into this part's copy, or remove it, with its place in the hash index and, for an own entry, in the
state image (R122, R125, R131). -/
def State.putDir (s : State) (flow : Nat) (entry : Option Word128) (ovf : Bool) : State :=
  let e := match entry with | some e => e | none => 0
  let own := dirValid e && dirOrigin e / 512 == s.domainId
  let d := s.twl.dirs
  let s := s.setDirs { d with
    overflow := Tbl.set (fun _ => false) flow (ovf && dirValid e) d.overflow,
    image := Tbl.set (fun _ => 0) flow (if own then e else 0) d.image }
  (s.setDir flow e).showDir

/-- A conflict decided against an entry (R132). -/
def State.dirLose (s : State) (flow : Nat) (loser : Word128) : State :=
  let part := dirOrigin loser / 512
  let s := (s.count .TWL_DIR_CONFLICT 0 1).irq Irq.TWL_DIR_CONFLICT
  let s := s.awlCause Irq.TWL_DIR_CONFLICT false (flow / 65536 * 8192 + part % 8192) (flow % 65536)
  (s.twl.routes.filter fun r => r.flow == flow && srcPart r.src == part).foldl (fun (s : State) r => s.tearDown r.req) s

/-- Apply an update to this part's copy; the answer says whether the part reports a conflict (R127, R129). -/
def State.applyDir (s : State) (u : DirUpdate) (ovf : Bool) : State × Bool :=
  let cur := s.dirEntry u.flow
  let other := dirValid cur && dirOrigin cur / 512 != u.origin
  match u.entry with
  | none => (if dirValid cur && !other then s.putDir u.flow none false else s, false)
  | some e =>
    if other then
      if dirOrigin cur / 512 < u.origin then (s, true)
      else ((s.dirLose u.flow cur).putDir u.flow (some e) ovf, false)
    else (s.putDir u.flow (some e) ovf, false)

/-- What breaks a WRITE of a flow's entry (R122, R123). -/
def State.badDirWrite (s : State) (flow : Nat) (e : Word128) : Bool :=
  let two := dirTwo e
  let leg := e.getLsbD 21
  let even := s.dirEntry (flow - 1)
  !dirValid e || dirKind e == 7 || dirBits e 0 21 != 0 || leg != (two && flow % 2 == 1) ||
  (two && flow % 2 == 1 && !(dirValid even && dirTwo even && !even.getLsbD 21))

/-- Return the status of a directory order (R129, R130). -/
def State.dirResult (s : State) (who : Option (Option Nat × Key × Nat)) (st : Status) : State :=
  match who with
  | none => (s.setReg .TWL_DIR_RESULT 0 (BitVec.ofNat 64 st.code)).answer st
  | some (ctx, key, sig) => s.sigReturn ctx key sig 0 st

/-- Number an update of this part, keep it among the last 4,096, and send it (R128). -/
def State.sendUpdate (s : State) (flow : Nat) (entry : Option Word128) : State × DirUpdate :=
  let n := ((s.reg .TWL_DIR_SEQ 0).toNat + 1) % 2 ^ 32
  let u : DirUpdate := ⟨s.domainId, n, flow, entry⟩
  let s := s.setReg .TWL_DIR_SEQ 0 (BitVec.ofNat 64 n)
  let d := s.twl.dirs
  ((s.setDirs { d with log := (u :: d.log).take 4096 }).emit (.dirUpdate u), u)

/-- The other parts that the link-state view shows reachable (R129). -/
def State.reachable (s : State) : List Nat :=
  ((s.twl.toward.filter fun e => e.2 != 0).map (·.1)).filter fun p => p != s.domainId

/-- Carry out a write or withdrawal of an own entry: applied here, sent, and awaited (R128, R129). -/
def State.originate (s : State) (who : Option (Option Nat × Key × Nat)) (flow : Nat) (entry : Option Word128) (ovf : Bool) : State :=
  let x := s.applyDir ⟨s.domainId, 0, flow, entry⟩ ovf
  if x.2 then s.dirResult who .REFUSED_POLICY
  else
    let y := x.1.sendUpdate flow entry
    let s := y.1
    let wait := s.reachable
    if wait.isEmpty then s.dirResult who .OK
    else
      let d := s.twl.dirs
      let s := s.setDirs { d with pend := d.pend ++ [⟨y.2, wait, false, who⟩] }
      match who with
      | none => s.setFlag F.TWL_DIR_RESULT_BUSY 0 true
      | some _ => s

/-- A directory WRITE (R122, R123, R125, R127). `ovf`: the hash index has no place for the entry. -/
def State.dirWrite (s : State) (who : Option (Option Nat × Key × Nat)) (flow : Nat) (e : Word128) (ovf : Bool) : State :=
  let held := Tbl.get (fun _ => false) s.twl.dirs.overflow flow
  if s.badDirWrite flow e then s.dirResult who .BAD_ARG
  else if dirOrigin e / 512 ≠ s.domainId then s.dirResult who .REFUSED_POLICY
  else if ovf && !held && decide (256 ≤ s.twl.dirs.overflow.length) then s.dirResult who .NO_ROOM
  else s.originate who flow (some e) ovf

/-- A directory WITHDRAW (R130). -/
def State.dirWithdraw (s : State) (who : Option (Option Nat × Key × Nat)) (flow : Nat) : State :=
  let cur := s.dirEntry flow
  if !dirValid cur then s.dirResult who .OK
  else if dirOrigin cur / 512 ≠ s.domainId then s.dirResult who .REFUSED_POLICY
  else if s.twl.routes.any (fun (r : Route) => r.settled && r.flow == flow) then s.dirResult who .BUSY
  else s.originate who flow none false

/-- The entry in TWL_DIR_DATA. -/
def State.dirData (s : State) : Word128 :=
  BitVec.ofNat 128 ((low32 (s.reg .TWL_DIR_DATA 3)).toNat * 2 ^ 96 + (low32 (s.reg .TWL_DIR_DATA 2)).toNat * 2 ^ 64 +
    (low32 (s.reg .TWL_DIR_DATA 1)).toNat * 2 ^ 32 + (low32 (s.reg .TWL_DIR_DATA 0)).toNat)

/-- READ: fetch the entry of TWL_DIR_INDEX into the data registers (R122). -/
def State.dirFetch (s : State) : State :=
  let e := s.dirEntry (s.fld F.TWL_DIR_INDEX_FLOW 0)
  let s := [0, 1, 2, 3].foldl (fun (s : State) i => s.setReg .TWL_DIR_DATA i (BitVec.ofNat 64 (dirBits e (32 * i) 32))) s
  s.dirResult none .OK

/-- A write of TWL_DIR_CMD: 1 READ, 2 WRITE, 3 WITHDRAW. A command while the last one is BUSY is refused with BUSY, and
command 0 with BAD_ARG (log 20). -/
def State.writeDirCmd (s : State) (src : Requester) (v : Word) (ovf : Bool) : State :=
  s.guarded .TWL_DIR_CMD src fun s =>
    let flow := s.fld F.TWL_DIR_INDEX_FLOW 0
    if s.flag F.TWL_DIR_RESULT_BUSY 0 then s.refuse .BUSY
    else match F.TWL_DIR_CMD_CMD.of v with
      | 1 => s.dirFetch
      | 2 => (s.answer .OK).dirWrite none flow s.dirData ovf
      | 3 => (s.answer .OK).dirWithdraw none flow
      | _ => s.refuse .BAD_ARG

/-- DIR_READ (R122). -/
def execDirRead (src : Requester) (s : State) : Host.Outcome State Fault Refusal := .next (s.writeDirCmd src 1 false)

/-- DIR_WRITE (R122 to R129). -/
def execDirWrite (src : Requester) (ovf : Bool) (s : State) : Host.Outcome State Fault Refusal := .next (s.writeDirCmd src 2 ovf)

/-- DIR_WITHDRAW (R130). -/
def execDirWithdraw (src : Requester) (s : State) : Host.Outcome State Fault Refusal := .next (s.writeDirCmd src 3 false)

/-- The number of the next update expected from an origin; the first update of an origin has number 1 (log 20). -/
def State.nextUpdate (s : State) (origin : Nat) : Nat := Tbl.get (fun _ => 1) s.twl.dirs.next origin

/-- How far an update lies ahead of the next one expected, modulo 2^32. -/
def State.ahead (s : State) (u : DirUpdate) : Nat := (u.seq + 2 ^ 32 - s.nextUpdate u.origin) % 2 ^ 32

/-- Apply the next update of an origin, and acknowledge it or report the conflict (R128, R129). -/
def State.takeUpdate (s : State) (u : DirUpdate) (ovf : Bool) : State :=
  let x := s.applyDir u ovf
  let d := x.1.twl.dirs
  (x.1.setDirs { d with next := Tbl.set (fun _ => 1) u.origin ((u.seq + 1) % 2 ^ 32) d.next }).emit (.dirAck u.origin u.seq x.2)

/-- Apply held updates that have become next, at most one pass for each of them (R128). -/
def State.takeHeld (s : State) : Nat → State
  | 0 => s
  | n + 1 =>
    match s.twl.dirs.held.find? fun u => s.ahead u == 0 with
    | none => s
    | some u =>
      let d := s.twl.dirs
      ((s.setDirs { d with held := d.held.filter fun v => v != u }).takeUpdate u false).takeHeld n

/-- An update arrives: the next one is applied with those held behind it, a later one is held and the missing ones are
requested, and one already applied is discarded (R128). -/
def State.receiveUpdate (s : State) (u : DirUpdate) (ovf : Bool) : State :=
  if s.ahead u = 0 then ((s.takeUpdate u ovf).takeHeld s.twl.dirs.held.length).showLag
  else if s.ahead u < 2 ^ 31 then
    let d := s.twl.dirs
    let s := s.setDirs { d with held := if d.held.contains u then d.held else d.held ++ [u] }
    (s.emit (.dirRequest u.origin (s.nextUpdate u.origin))).showLag
  else s

/-- DIR_UPDATE_RECEIVE (R127, R128, R132). -/
def execDirUpdateReceive (u : DirUpdate) (ovf : Bool) (s : State) : Host.Outcome State Fault Refusal :=
  .next (s.receiveUpdate u ovf)

/-- DIR_MISSING_REQUEST_RECEIVE (R128, R131): a part asks for this part's updates from a number onward; when they are no
longer kept it is sent the whole set of entries. -/
def execDirMissingRequestReceive (part from_ : Nat) (s : State) : Host.Outcome State Fault Refusal :=
  let d := s.twl.dirs
  let s := s.setDirs { d with marked := d.marked.filter (· != part) }
  let last := (s.reg .TWL_DIR_SEQ 0).toNat
  let n := (last + 1 + 2 ^ 32 - from_) % 2 ^ 32
  .next (if n ≤ d.log.length then (d.log.take n).reverse.foldl (fun (s : State) u => s.emit (.dirUpdate u)) s
    else s.emit (.dirEntries part last (s.dir.filter fun e => dirValid e.2 && dirOrigin e.2 / 512 == s.domainId)))

/-- An order has all its answers, or its time has passed: its status, and the withdrawal of a conflicting write
(R129). -/
def State.dirFinish (s : State) (p : DirPending) : State :=
  let d := s.twl.dirs
  let s := s.setDirs { d with pend := d.pend.filter fun q => q.upd != p.upd, marked := (d.marked ++ p.waiting).eraseDups }
  if p.conflict && p.upd.entry.isSome then
    let s := (s.applyDir ⟨s.domainId, 0, p.upd.flow, none⟩ false).1
    ((s.sendUpdate p.upd.flow none).1).dirResult p.who .REFUSED_POLICY
  else s.dirResult p.who .OK

/-- DIR_ACK_RECEIVE (R129). -/
def execDirAckReceive (part seq : Nat) (conflict : Bool) (s : State) : Host.Outcome State Fault Refusal :=
  .next (match s.twl.dirs.pend.find? fun p => p.upd.seq == seq with
    | none => s
    | some p =>
      let p := { p with waiting := p.waiting.filter (· != part), conflict := p.conflict || conflict }
      if p.waiting.isEmpty then s.dirFinish p
      else
        let d := s.twl.dirs
        s.setDirs { d with pend := d.pend.map fun q => if q.upd = p.upd then p else q })

/-- DIR_ACK_TIMEOUT (R129): TWL_DIR_ACK_TO has passed since update seq was sent. -/
def execDirAckTimeout (seq : Nat) (s : State) : Host.Outcome State Fault Refusal :=
  .next (match s.twl.dirs.pend.find? fun p => p.upd.seq == seq with
    | none => s
    | some p => s.dirFinish p)

/-- Every origin is done or left for later: the resynchronisation ends (R131). -/
def State.resyncEnd (s : State) : State :=
  if s.flag F.TWL_STATUS_DIR_RESYNC 0 && s.twl.dirs.awaiting.isEmpty then
    (s.setFlag F.TWL_STATUS_DIR_RESYNC 0 false).setFlag F.TWL_STATUS_DIR_READY 0 true
  else s

/-- One entry fetched by a resynchronisation, or rebuilt from the state image, meets this part's copy (R127, R132). -/
def State.mergeDir (s : State) (ovf : List Nat) (e : Nat × Word128) : State :=
  let cur := s.dirEntry e.1
  let o := decide (e.1 ∈ ovf)
  if dirValid cur && dirOrigin cur / 512 != dirOrigin e.2 / 512 then
    if dirOrigin cur / 512 < dirOrigin e.2 / 512 then s.dirLose e.1 e.2
    else (s.dirLose e.1 cur).putDir e.1 (some e.2) o
  else s.putDir e.1 (some e.2) o

/-- Remove an origin's entries from this part's copy. -/
def State.dropOrigin (s : State) (origin : Nat) : State :=
  let gone := (s.dir.filter fun e => dirOrigin e.2 / 512 == origin).map (·.1)
  let d := s.twl.dirs
  let s := s.setDirs { d with overflow := d.overflow.filter fun (e : Nat × Bool) => !gone.contains e.1 }
  ({ s with dir := s.dir.filter fun (e : Nat × Word128) => dirOrigin e.2 / 512 != origin }).showDir

/-- DIR_RESYNC_START (R131): own entries come from the state image, and every other origin is asked. -/
def execDirResyncStart (origins : List Nat) (s : State) : Host.Outcome State Fault Refusal :=
  let s := (s.setFlag F.TWL_STATUS_DIR_RESYNC 0 true).setFlag F.TWL_STATUS_DIR_READY 0 false
  let s := s.irq Irq.TWL_DIR_RESYNC
  let own := s.twl.dirs.image
  let s := own.foldl (fun (s : State) e => s.mergeDir [] e) (s.dropOrigin s.domainId)
  let s := s.setDirs { s.twl.dirs with awaiting := origins, later := s.twl.dirs.later.filter fun o => !origins.contains o }
  let s := origins.foldl (fun (s : State) o => s.emit (.dirRequest o (s.nextUpdate o))) s
  .next s.resyncEnd.showLag

/-- DIR_RESYNC_ANSWER (R131): an origin answers up to update seq, with its whole set of entries or with the missing
updates; `ovf` names the flows that the hash index has no place for. -/
def execDirResyncAnswer (origin seq : Nat) (entries : Option (List (Nat × Word128))) (updates : List DirUpdate) (ovf : List Nat)
    (s : State) : Host.Outcome State Fault Refusal :=
  let s := match entries with
    | some es =>
      let s := (es.filter fun (e : Nat × Word128) => dirValid e.2 && dirOrigin e.2 / 512 == origin).foldl (fun (s : State) e => s.mergeDir ovf e)
        (s.dropOrigin origin)
      s.setDirs { s.twl.dirs with
        next := Tbl.set (fun _ => 1) origin ((seq + 1) % 2 ^ 32) s.twl.dirs.next,
        held := s.twl.dirs.held.filter fun u => u.origin != origin }
    | none => (updates.filter fun (u : DirUpdate) => u.origin == origin).foldl (fun (s : State) u => s.receiveUpdate u (ovf.contains u.flow)) s
  let s := s.setDirs { s.twl.dirs with awaiting := s.twl.dirs.awaiting.filter (· != origin), later := s.twl.dirs.later.filter (· != origin) }
  .next s.resyncEnd.showLag

/-- DIR_RESYNC_ORIGIN_TIMEOUT (R131): an origin has not answered within 100 ms and is left for later. -/
def execDirResyncOriginTimeout (origin : Nat) (s : State) : Host.Outcome State Fault Refusal :=
  let d := s.twl.dirs
  .next (if d.awaiting.contains origin then
      let s := s.setDirs { d with awaiting := d.awaiting.filter (· != origin), later := d.later ++ [origin] }
      s.resyncEnd.showLag
    else s)

end Sys2Proof.Machine
end

