-- ==== Sys2Proof/Machine/Journal.lean ====
section
/-! DEFINITION. The journal and the contexts that run it: the journal clock and order, entries, mirroring, frontiers,
starts and ends of programs, replay, disable and kill, and the resident services (chapter 06). -/

namespace Sys2Proof.Machine

/-! ### The journal clock and the order of entries (R254, R255) -/

/-- The journal time now (R255): TB0's Nimade time while TB0 is RUNNING and not behind the clock, else the clock. -/
def State.journalNow (s : State) : Nat := if s.tbRunning 0 then max s.nim.clock (nimTime (s.tbNow 0)) else s.nim.clock

/-- The acceptance time on a time base: 0 while it is STOPPED (R242). -/
def State.acceptTb (s : State) (k : Nat) : Nat := if s.tbRunning k then nimTime (s.tbNow k) else 0

/-- The number of a journal time's cell time, of 11.5 ns (R28, R92). -/
def cellOf (t : Nat) : Nat := 2 * t / 23

/-- Lexicographic order of lists of numbers. -/
def lexLt : List Nat → List Nat → Bool
  | x :: xs, y :: ys => decide (x < y) || (x == y && lexLt xs ys)
  | _, _ => false

/-- Key order (R254): cell time, side A first, origin, SEQ, subindex. -/
def JEntry.before (a b : JEntry) : Bool :=
  lexLt [cellOf a.time, if a.sideB then 1 else 0, a.key.origin, a.key.seq, a.key.sub]
    [cellOf b.time, if b.sideB then 1 else 0, b.key.origin, b.key.seq, b.key.sub]

/-- Put an entry at its place in key order. -/
def insertEntry (e : JEntry) : List JEntry → List JEntry
  | [] => [e]
  | f :: l => if e.before f then e :: f :: l else f :: insertEntry e l

/-- Whether two cyclic ranges of the journal's 16,384 slots overlap. -/
def slotsMeet (a m b n : Nat) : Bool := decide ((b + 16384 - a) % 16384 < m) || decide ((a + 16384 - b) % 16384 < n)

/-- The first run of n free slots, from slot 0 or behind an entry (R256; log 22). -/
def State.freeRun (s : State) (n : Nat) : Option Nat :=
  let l := s.nim.journal
  (0 :: l.map (fun (e : JEntry) => (e.headSlot + e.slots) % 16384)).find? fun f =>
    decide (n ≤ 16384) && l.all fun (e : JEntry) => !slotsMeet f n e.headSlot e.slots

/-- The body as bytes in ORDER space. -/
def bodyTbl (l : List Byte) : Tbl Byte := (l.zipIdx.filter fun e => e.1 != 0).map fun e => (e.2, e.1)

/-- Show how many entries wait for each core (NIM_CORE_STAT). -/
def State.showCores (s : State) : State :=
  let wait := s.nim.journal.filter fun (e : JEntry) => e.phase == .accepted && e.affinity == 0
  (List.range 16).foldl (fun (s : State) c =>
    s.setFld F.NIM_CORE_STAT_WAITING c
      (satTo 8 (wait.filter fun (e : JEntry) => s.fld F.NIM_AFF_MAP_CORE (e.dest % 64) == c).length)) s

/-- Write an entry into the journal (R256, R258, R259). -/
def State.journalEntry (s : State) (e : JEntry) : State :=
  let n := ceilDiv e.len 64
  let h := match s.freeRun e.slots with | some h => h | none => 0
  let e := { e with
    headSlot := h, first := (h + 1) % 16384, progA := (h + 1 + n) % 16384, progB := (h + 2 + n) % 16384, gen := 1 }
  (({ s with nim := { s.nim with journal := insertEntry e s.nim.journal } }).showJournal).showCores

/-- Free an entry's slots. -/
def State.dropEntry (s : State) (k : Key) : State :=
  (({ s with nim := { s.nim with journal := s.nim.journal.filter fun (e : JEntry) => e.key != k } }).showJournal).showCores

/-- Raise the high-water mark of an entry's source; a forwarded entry has none (R245, R259). -/
def State.raiseHwm (s : State) (k : Key) : State :=
  let src := k.source
  let n := k.seq % 2 ^ 57
  if src < 64 then s.setReg .NIM_Q_HWM src (BitVec.ofNat 64 (max n (s.reg .NIM_Q_HWM src).toNat))
  else { s with nim := { s.nim with hwm := Tbl.set (fun _ => 0) src (max n (Tbl.get (fun _ => 0) s.nim.hwm src)) s.nim.hwm } }

/-- The high-water mark of a source. -/
def State.hwmOf (s : State) (src : Nat) : Nat :=
  if src < 64 then (s.reg .NIM_Q_HWM src).toNat else Tbl.get (fun _ => 0) s.nim.hwm src

/-! ### Queue states (Table 06.14) -/

/-- Queues take no entries: replay, or a partner's warm reset (R253). -/
def State.holdsWork (s : State) : Bool := s.flag F.NIM_STATUS_REPLAY 0 || s.flag F.NIM_STATUS_PARTNER_WAIT 0

/-- Whether a completion queue has the room that R249 asks before the next submission entry is taken. -/
def State.cqRoom (s : State) (q : Nat) : Bool := decide (s.cqReserved q ≤ s.cqFree q)

/-- Show the state of a queue. -/
def State.showQueue (s : State) (q : Nat) : State :=
  s.setFld F.NIM_Q_STAT_STATE q
    (if !s.flag F.NIM_Q_CFG_EN q then 0 else if !s.flag F.NIM_CTRL_EN 0 then 4 else if s.holdsWork then 3
     else if s.cqRoom q then 1 else 2)

/-- Show the state of every queue. -/
def State.showQueues (s : State) : State := (List.range 64).foldl (fun (s : State) q => s.showQueue q) s

/-- Refuse an order: its record and counts (R252). -/
def State.refusedOrder (s : State) (q : Nat) (seq tag : Nat) (st : Status) : State :=
  let s := s.postAck q (cqRecord (.refused st) seq tag)
  let s := ((s.irq Irq.NIM_REFUSED).count .NIM_REFUSED 0 1).count .NIM_Q_REFUSED q 1
  if st = .STALE_SEQ then s.irq Irq.NIM_STALE else s

/-- Acceptance is complete (R8, R259, R262): the mark is raised, and the ACK is posted or the service that submitted gets
its SEQ. -/
def State.ackEntry (s : State) (k : Key) (alone : Bool) : State :=
  match s.entry k with
  | none => s
  | some e =>
    let s := s.setEntry k fun e => { e with awaiting := false, alone := e.alone || alone, since := some s.tick }
    let s := (s.raiseHwm k).count .NIM_ACCEPTED 0 1
    let s := if alone then s.setFlag F.RSL_PAIR_STAT_ALONE_JRN 0 true else s
    match e.queue with
    | some q =>
      let s := s.setFld F.NIM_Q_STAT_OPEN q (s.fld F.NIM_Q_STAT_OPEN q + 1)
      (s.postAck q { cqRecord (.ack .OK) k.seq e.tag with alone := e.alone || alone }).showQueue q
    | none =>
      if 96 ≤ k.source then
        match (s.svc (k.source - 96)).at_ with
        | some i => s.giveResult i (BitVec.ofNat 64 k.seq) (stWord .OK 0 false)
        | none => s
      else s

/-- The partner refuses an entry: this part frees its copy and refuses the order (R262). -/
def State.mirrorRefused (s : State) (k : Key) (st : Status) : State :=
  match s.entry k with
  | none => s
  | some e =>
    let s := s.dropEntry k
    match e.queue with
    | some q => (s.refusedOrder q k.seq e.tag st).showQueue q
    | none =>
      if 96 ≤ k.source then
        let s := (s.irq Irq.NIM_REFUSED).count .NIM_REFUSED 0 1
        match (s.svc (k.source - 96)).at_ with
        | some i => s.giveResult i 0 (stWord st 0 false)
        | none => s
      else s

/-- Entries that await the partner complete their acceptance alone once it is declared lost (R11, R263). -/
def State.journalAlone (s : State) : State :=
  (s.nim.journal.filter fun (e : JEntry) => e.awaiting).foldl (fun (s : State) e => s.ackEntry e.key true) s

/-! ### Contexts -/

/-- No pending result belongs to context i any more. -/
def State.dropCtx (s : State) (i : Nat) : State :=
  let s := { s with tks := { s.tks with accts := s.tks.accts.map fun (a : SalvoAcct) => if a.ctx = some i then { a with ctx := none } else a } }
  let d := s.twl.dirs
  s.setDirs { d with pend := d.pend.map fun (p : DirPending) => match p.who with
    | some (some j, k, n) => if j = i then { p with who := some (none, k, n) } else p
    | _ => p }

/-- A context ends and its core resumes another (R233). -/
def State.endCtx (s : State) (i : Nat) : State :=
  let s := (s.dropCtx i).setCtx i { s.ctx i with run := .off, entry := none, slot := none }
  let s := if s.runningOn (i / 8) = some i then s.setRunning (i / 8) none else s
  (s.resume (i / 8)).showCore (i / 8)

/-- A fresh context: registers and predicates 0, and the pipeline empty (Table 06.1, R235). -/
def freshCtx (slot : Option Nat) (entry : Option Key) (space pc : Nat) (tb : Tbl Word) (loc : Tbl Byte) : NimCtx :=
  ⟨.ready, 0, slot, entry, [], 1, tb, 0, pc, space, loc, 0, ⟨0, none, []⟩, 0⟩

/-- The address table's length and the program's length and first byte in a body (R247, Table 06.5). -/
def bodyHeader (body : Tbl Byte) : Nat := (List.range 4).foldl (fun a i => a + (Tbl.get (fun _ => 0) body i).toNat * 256 ^ i) 0
def bodyAtab (body : Tbl Byte) : Nat := bodyHeader body / 65536 % 32
def bodyWords (body : Tbl Byte) : Nat := bodyHeader body / 2 ^ 21

/-! ### Ends of programs (R268, R270, R278, R313) -/

/-- The status of a code in st (Table 06.13). -/
def statusOf (n : Nat) : Status :=
  match [Status.OK, .LATE, .BUSY, .NO_ROOM, .BAD_ARG, .NOT_READY, .REFUSED_POLICY, .FORMAT_MISMATCH, .NO_PATH, .LB_SHORT, .FENCED,
    .STALE_SEQ, .DRAINING, .DIVERGED, .AUTH_FAIL, .MEDIA_FAIL, .CONVERT_FAIL][n % 65536]? with
  | some s => s
  | none => .OK

/-- DONE records of COMPLETE entries that are not known to have been posted (R271, step 4). -/
def State.postDones (s : State) : State :=
  (s.nim.journal.filter fun (e : JEntry) => e.phase == .complete && !e.donePosted).foldl (fun (s : State) e => s.postDone e.key) s

/-- BOOT_STAGE i ends: BOOT_TIME shows the ms from the end of reset (R629). -/
def State.stageEnds (s : State) (i : Nat) : State :=
  s.setReg .BOOT_TIME i (BitVec.ofNat 64 ((s.tick - s.boot.start) * 1000 / 32768 % 2 ^ 32))

/-- The control plane is READY when replay ends in the last stage of a boot; a warm reset leaves BOOT_TIME (R629, R633). -/
def State.bootReady (s : State) : State :=
  if s.fld F.BOOT_STAGE_STAGE 0 = 6 then (s.stageEnds 6).setFld F.BOOT_STAGE_STAGE 0 7
  else if s.fld F.BOOT_STAGE_STAGE 0 = 10 ∧ s.boot.warmHeld = false then s.setFld F.BOOT_STAGE_STAGE 0 7
  else s

/-- Every replayed entry is COMPLETE: the queues open (R271, steps 4 and 5). -/
def State.replayCheck (s : State) : State :=
  if s.flag F.NIM_STATUS_REPLAY 0 && s.nim.journal.all (fun (e : JEntry) => e.phase == .complete || !e.replayed || e.forwarded) then
    ((s.setFlag F.NIM_STATUS_REPLAY 0 false).bootReady.postDones.irq Irq.NIM_REPLAY_DONE).showQueues
  else s

/-- An entry is COMPLETE (R268): its progress slot, its DONE record, the partner and the services that wait. -/
def State.completeEntry (s : State) (k : Key) (final : Status) (trap pc : Nat) : State :=
  match s.entry k with
  | none => s
  | some e =>
    if e.phase = .complete then s
    else
      let s := s.setEntry k fun e => { e with phase := .complete, final := final, trap := trap, pcAt := pc, gen := (e.gen + 1) % 65536 }
      let s := s.count .NIM_COMPLETED 0 1
      let s := if e.mirrored then s.emit (.entryDone k) else s
      let s := if k.origin = s.domainId ∧ 96 ≤ k.source ∧ e.forwarded = false then s.giveDone (k.source - 96) k.seq final else s
      let s := s.postDone k
      ((s.noteComplete).showJournal.showCores).replayCheck

/-- What stops a program: the trap codes (Table 06.11). -/
inductive Trap where
  | illegal | range | align | space | budget | siglim | stack
  deriving DecidableEq, Repr

/-- The number of a trap (Table 06.11). -/
def Trap.code : Trap → Nat
  | .illegal => 1 | .range => 2 | .align => 3 | .space => 4 | .budget => 5 | .siglim => 6 | .stack => 7

/-- Ticks of n seconds. -/
def secondsTicks (n : Nat) : Nat := n * 32768

/-- A context traps at its pc (R252, R268, R270, R278): the program stops before the instruction has any effect. -/
def State.trapCtx (s : State) (i : Nat) (t : Trap) : State :=
  let c := s.ctx i
  let core := i / 8
  let word := BitVec.ofNat 64 (t.code * 2 ^ 28 + core * 2 ^ 24 + c.pc % 2 ^ 24)
  let s := ((s.irq Irq.NIM_TRAP).count .NIM_CORE_TRAPS core 1).setReg .NIM_TRAP_LAST 0 word
  match c.slot with
  | some n =>
    let x := s.svc n
    let near := s.tick :: x.traps.filter fun u => decide (s.tick < u + secondsTicks 10)
    let s := (s.setSvc n { x with at_ := none, traps := near }).setReg .NIM_SVC_TRAP n word
    let s := s.awlCause Irq.NIM_TRAP false n t.code
    let s := if 3 ≤ near.length then (s.setFld F.NIM_SVC_STAT_STATE n 4).irq Irq.NIM_SVC_STOP else s.setFld F.NIM_SVC_STAT_STATE n 3
    s.endCtx i
  | none =>
    let s := s.endCtx i
    match c.entry with
    | some k => s.completeEntry k .BAD_ARG t.code c.pc
    | none => s

/-- A program halts (R268, R313): FINAL is the status in st; a service stops. -/
def State.haltCtx (s : State) (i : Nat) : State :=
  let c := s.ctx i
  let s := s.endCtx i
  match c.slot, c.entry with
  | some n, _ => (s.setSvc n { s.svc n with at_ := none }).setFld F.NIM_SVC_STAT_STATE n 0
  | none, some k => s.completeEntry k (statusOf (c.st.toNat % 65536)) 0 0
  | none, none => s

/-! ### Doorbells and queue settings (R246, R249, R281, R282) -/

/-- A write of NIM_SQ_TAIL (R246). -/
def State.writeSqTail (s : State) (src : Requester) (q : Nat) (v : Word) : State :=
  s.guarded .NIM_SQ_TAIL src fun s => (s.store .NIM_SQ_TAIL q v).showQueue q

/-- SQ_DOORBELL (R246). -/
def execSqDoorbell (src : Requester) (q : Fin 64) (w : Word32) (s : State) : Host.Outcome State Fault Refusal :=
  .next (s.writeSqTail src q (w.setWidth 64))

/-- A write of NIM_CQ_HEAD: room for waiting records (R249, R250). -/
def State.writeCqHead (s : State) (src : Requester) (q : Nat) (v : Word) : State :=
  s.guarded .NIM_CQ_HEAD src fun s =>
    let s := s.store .NIM_CQ_HEAD q v
    (s.flushFrom q s.nim.waiting).showQueue q

/-- CQ_DOORBELL (R249, R250). -/
def execCqDoorbell (src : Requester) (q : Fin 64) (w : Word32) (s : State) : Host.Outcome State Fault Refusal :=
  .next (s.writeCqHead src q (w.setWidth 64))

/-- A write of NIM_Q_CFG: SIZE 4 to 12, not changed while EN is set (R281, R282). -/
def State.writeQCfg (s : State) (src : Requester) (q : Nat) (v : Word) : State :=
  s.guarded .NIM_Q_CFG src fun s =>
    let n := F.NIM_Q_CFG_SIZE.of v
    if n < 4 ∨ 12 < n then s.refuse .BAD_ARG
    else if s.flag F.NIM_Q_CFG_EN q && n != s.fld F.NIM_Q_CFG_SIZE q then s.refuse .BUSY
    else
      let was := s.flag F.NIM_Q_CFG_EN q
      let s := (s.store .NIM_Q_CFG q v).showQueue q
      if F.NIM_Q_CFG_EN.on v && !was then ((s.flushAcks q).postDones).flushFrom q s.nim.waiting else s

/-- A write of NIM_SQ_BASE or NIM_CQ_BASE (R282). -/
def State.writeQBase (s : State) (src : Requester) (r : Reg) (q : Nat) (v : Word) : State :=
  s.guarded r src fun s => if s.flag F.NIM_Q_CFG_EN q then s.refuse .BUSY else s.store r q v

/-- A write of NIM_EXEC_CFG (R281). -/
def State.writeExecCfg (s : State) (src : Requester) (v : Word) : State :=
  s.guarded .NIM_EXEC_CFG src fun s =>
    let b := F.NIM_EXEC_CFG_BUDGET.of v
    if b < 15000 ∨ 15000000 < b then s.refuse .BAD_ARG else s.store .NIM_EXEC_CFG 0 v

/-- A write of NIM_JRN_CFG (R281). -/
def State.writeJrnCfg (s : State) (src : Requester) (v : Word) : State :=
  s.guarded .NIM_JRN_CFG src fun s =>
    let r := F.NIM_JRN_CFG_RETAIN.of v
    if r < 100 ∨ 60000 < r then s.refuse .BAD_ARG else (s.store .NIM_JRN_CFG 0 v).showJournal

/-- A write of NIM_SVC_CFG: the entry lies in its space, and at most four slots are enabled on a core (R275, R281). -/
def State.writeSvcCfg (s : State) (src : Requester) (n : Nat) (v : Word) : State :=
  s.guarded .NIM_SVC_CFG src fun s =>
    let core := F.NIM_SVC_CFG_CORE.of v
    let others := ((List.range 32).filter fun m => m != n && s.flag F.NIM_SVC_CFG_EN m && s.fld F.NIM_SVC_CFG_CORE m == core).length
    if 1048574 < F.NIM_SVC_CFG_ENTRY.of v % 2 ^ 20 then s.refuse .BAD_ARG
    else if F.NIM_SVC_CFG_EN.on v && decide (4 ≤ others) then s.refuse .NO_ROOM
    else s.store .NIM_SVC_CFG n v

/-! ### Mirroring (R262 to R266) -/

/-- Write the partner's entry here, without step 5 of R259 (R262, R266). -/
def State.copyEntry (s : State) (e : JEntry) (replayed : Bool) : State :=
  let e := { e with
    queue := none, awaiting := false, donePosted := true, replayed := replayed, dups := [], since := some s.tick,
    partnerDone := e.phase == .complete, phase := if e.phase = .complete ∧ replayed = false then .complete else .accepted,
    sigs := if replayed then [] else e.sigs }
  (s.journalEntry e).raiseHwm e.key

/-- JOURNAL_MIRROR_RECEIVE (R262, R263): checks 1, 2 and 6 of Table 06.7; a known key is answered without writing. -/
def execJournalMirrorReceive (e : JEntry) (s : State) : Host.Outcome State Fault Refusal :=
  .next (match s.entry e.key with
    | some _ => s.emit (.mirrorReply e.key .OK)
    | none =>
      if s.fenced then s.emit (.mirrorReply e.key .FENCED)
      else if !s.flag F.NIM_CTRL_EN 0 then s.emit (.mirrorReply e.key .DRAINING)
      else if (s.freeRun e.slots).isNone then s.emit (.mirrorReply e.key .BUSY)
      else (s.copyEntry { e with phase := .accepted, sigs := [] } false).emit (.mirrorReply e.key .OK))

/-- JOURNAL_MIRROR_REPLY (R262). -/
def execJournalMirrorReply (key : Key) (st : Status) (s : State) : Host.Outcome State Fault Refusal :=
  .next (match s.entry key with
    | none => s
    | some e => if !e.awaiting then s else if st = .OK then s.ackEntry key false else s.mirrorRefused key st)

/-- JOURNAL_RESEND_TIMER (R263). -/
def execJournalResendTimer (key : Key) (s : State) : Host.Outcome State Fault Refusal :=
  .next (match s.entry key with
    | none => s
    | some e => if e.awaiting then s.emit (.mirror e) else s)

/-- FRONTIER_SEND (R264): a journal time before which no further entry will be accepted here. -/
def execFrontierSend (s : State) : Host.Outcome State Fault Refusal :=
  .next (if s.mirrored then
      s.emit (.frontier ((s.nim.journal.filter fun (e : JEntry) => e.awaiting).foldl (fun a (e : JEntry) => min a e.time) s.journalNow))
    else s)

/-- FRONTIER_RECEIVE (R255, R260, R264, R265): the partner's frontier, and the entries it reports COMPLETE. A partner that
was absent or in a warm reset is present again. -/
def execFrontierReceive (time : Nat) (done : List Key) (s : State) : Host.Outcome State Fault Refusal :=
  .next (if !s.mirrored || s.partnerLost then s
    else
      let s := { s with nim := { s.nim with frontier := max time s.nim.frontier, clock := max time s.nim.clock } }
      let s := { s with nim := { s.nim with journal := s.nim.journal.map fun (e : JEntry) => if done.contains e.key then { e with partnerDone := true } else e } }
      let s := (s.setFld F.NIM_PAIR_STAT_SINCE 0 0).setFld F.NIM_PAIR_STAT_PARTNER 0 1
      (s.setFlag F.NIM_STATUS_PARTNER_WAIT 0 false).showQueues)

/-- WARM_RESET_ANNOUNCE (R265). -/
def execWarmResetAnnounce (s : State) : Host.Outcome State Fault Refusal :=
  .next (if !s.mirrored || s.partnerLost then s
    else ((s.setFld F.NIM_PAIR_STAT_PARTNER 0 2).setFlag F.NIM_STATUS_PARTNER_WAIT 0 true).showQueues)

/-- JOURNAL_RECONCILE (R266): the partner's retained entries that this part lacks are executed under replay, it is sent
those that it lacks, and the Awl records how many were exchanged. -/
def execJournalReconcile (entries : List JEntry) (lacks : List Key) (s : State) : Host.Outcome State Fault Refusal :=
  let new := entries.filter fun (e : JEntry) => (s.entry e.key).isNone
  let out := s.nim.journal.filter fun (e : JEntry) => lacks.contains e.key
  let s := out.foldl (fun (s : State) e => s.emit (.mirror e)) s
  let s := new.foldl (fun (s : State) e => s.copyEntry e true) s
  .next (s.awlUnstated .NIM (new.length + out.length))

/-! ### Execution (R264 to R268) -/

/-- Whether a context of this part runs an entry. -/
def State.running (s : State) (k : Key) : Bool := s.nim.ctxs.any fun e => e.2.entry == some k && e.2.run != .off

/-- Whether earlier entries let one start (R267). -/
def State.mayStart (s : State) (e : JEntry) : Bool :=
  let earlier := (s.nim.journal.takeWhile fun (f : JEntry) => f.key != e.key).filter fun (f : JEntry) => f.phase != .complete
  !earlier.any (fun (f : JEntry) => f.affinity == 2) &&
    (if e.affinity = 2 then earlier.isEmpty
     else if e.affinity = 0 then !earlier.any (fun (f : JEntry) => f.affinity == 0 && f.dest == e.dest)
     else true)

/-- The lowest free context of a core. -/
def State.freeContext (s : State) (core : Nat) : Option Nat :=
  ((List.range 8).map (8 * core + ·)).find? fun i => (s.ctx i).run == .off

/-- ENTRY_START (R264, R265, R267, R268): an entry starts on a core once its waits are met. -/
def execEntryStart (key : Key) (core : Fin 16) (s : State) : Host.Outcome State Fault Refusal :=
  .next (match s.entry key with
    | none => s
    | some e =>
      let stopped := !s.flag F.NIM_CTRL_EN 0 && !s.flag F.NIM_STATUS_DRAINING 0
      let place := e.affinity != 0 || s.fld F.NIM_AFF_MAP_CORE (e.dest % 64) == core.val
      let known := !s.paired || decide (e.time < s.nim.frontier)
      if e.forwarded || e.phase = .complete || e.awaiting || s.running key || stopped || s.flag F.NIM_STATUS_PARTNER_WAIT 0 || !place || !known ||
          !s.mayStart e || s.nim.warm || s.fenced || s.fld F.RSL_UNIT_STAT_STATE core == 2 then s
      else match s.freeContext core with
        | none => s
        | some i =>
          let tbs := [e.time, e.tb1, e.tb2, e.tb3].zipIdx.foldl (fun (a : Tbl Word) t => Tbl.set (fun _ => 0) t.2 (BitVec.ofNat 64 t.1) a) []
          let s := s.setEntry key fun e => { e with phase := .running, gen := (e.gen + 1) % 65536 }
          let s := s.setCtx i (freshCtx none (some key) 4 0 tbs [])
          ((s.ready i).showCore core).showJournal.showCores)

/-- BUDGET_TRAP (R270): the running journalled program of a core exhausts its budget. -/
def execBudgetTrap (core : Fin 16) (s : State) : Host.Outcome State Fault Refusal :=
  .next (match s.runningOn core with
    | none => s
    | some i => match (s.ctx i).entry with
      | some _ => s.trapCtx i .budget
      | none => s)

/-- Whether the oldest entry may be freed (R260). -/
def State.freeable (s : State) (e : JEntry) : Bool :=
  let old := match e.since with
    | some t => decide (s.fld F.NIM_JRN_CFG_RETAIN 0 * 32768 ≤ (s.tick - t) * 1000)
    | none => false
  e.phase == .complete && (e.queue.isNone || e.donePosted) && (!s.paired || !e.mirrored || e.partnerDone) &&
    !s.tks.takes.any (fun (t : PendTake) => t.key == e.key && t.own == .OK) && old

/-- JOURNAL_ENTRY_FREE (R260): oldest first. -/
def execJournalEntryFree (s : State) : Host.Outcome State Fault Refusal :=
  .next (match s.nim.journal with
    | [] => s
    | e :: _ => if s.freeable e then s.dropEntry e.key else s)

/-! ### Replay and rejoining (R271 to R273) -/

/-- The journal is replayed (R271, R272): after a cold reset with the entries that the partner sends, or after a warm reset with
none. The high-water marks are raised from the heads, and entries that are not COMPLETE run again. -/
def State.journalReplay (s : State) (warm : Bool) (entries : List JEntry) : State :=
  let s := s.setFlag F.NIM_STATUS_REPLAY 0 true
  let s := s.nim.journal.foldl (fun (s : State) e => if e.forwarded || e.key.origin != s.domainId then s else s.raiseHwm e.key) s
  let new := if warm || !s.paired then [] else entries.filter fun (e : JEntry) => (s.entry e.key).isNone
  let s := new.foldl (fun (s : State) e => s.copyEntry e true) s
  let todo := (s.nim.journal.filter fun (e : JEntry) => e.phase != .complete).length
  let s := { s with nim := { s.nim with journal := s.nim.journal.map fun (e : JEntry) => if e.phase == JPhase.complete && e.donePosted then e else { e with replayed := true, awaiting := false } } }
  let s := (s.setFld F.NIM_REPLAY_COPIED 0 (satTo 12 new.length)).setFld F.NIM_REPLAY_REPLAYED 0 (satTo 12 todo)
  (s.showJournal.showCores).showQueues.replayCheck

/-- JOURNAL_REPLAY (R271, R272). -/
def execJournalReplay (warm : Bool) (entries : List JEntry) (s : State) : Host.Outcome State Fault Refusal :=
  .next (s.journalReplay warm entries)

/-- PARTNER_REJOIN (R273, R174): this part, on its return, takes the survivor's image and retained entries, runs them
before it opens its queues, and adopts the results of those that the survivor has completed. -/
def execPartnerRejoin (sel : List (Fin 128 × Nat × Nat)) (applied : List Applied) (entries : List JEntry) (s : State) :
    Host.Outcome State Fault Refusal :=
  let s := sel.foldl (fun (s : State) e => (s.imageSel e.1 e.2.1 e.2.2).setFld F.EGR_OUT_TAKE_SOURCE e.1 e.2.1) s
  let s := { s with nim := { s.nim with applied := applied ++ s.nim.applied } }
  let s := s.setFlag F.NIM_STATUS_REPLAY 0 true
  let s := entries.foldl (fun (s : State) e =>
    match s.entry e.key with
    | none => if e.phase = .complete then s.copyEntry e false else s.copyEntry e true
    | some f =>
      if e.phase = .complete ∧ f.phase ≠ .complete then
        s.setEntry e.key fun f => { f with phase := .complete, final := e.final, trap := e.trap, sigs := e.sigs, partnerDone := true }
      else s) s
  let s := { s with nim := { s.nim with journal := s.nim.journal.map fun (e : JEntry) => if e.phase == JPhase.complete then e else { e with replayed := true } } }
  .next ((s.showJournal.showCores).showQueues.replayCheck)

/-! ### Disable and kill (R274) -/

/-- Stop every running program; the journalled ones stay in the journal (R274). -/
def State.killPrograms (s : State) : State :=
  let n := (s.nim.ctxs.filter fun (e : Nat × NimCtx) => e.2.run != .off && e.2.entry.isSome).length
  let s := s.nim.ctxs.foldl (fun (s : State) e =>
    if e.2.run = .off then s
    else
      let s := match e.2.slot with
        | some m => (s.setSvc m { s.svc m with at_ := none }).setFld F.NIM_SVC_STAT_STATE m 0
        | none => s
      (s.dropCtx e.1).setCtx e.1 { e.2 with run := .off, entry := none, slot := none }) s
  let s := { s with nim := { s.nim with running := [] } }
  let s := (List.range 16).foldl (fun (s : State) c => s.showCore c) s
  s.setFld F.NIM_REPLAY_KILLED 0 (satTo 8 n)

/-- A write of NIM_CTRL (R274, R547). -/
def State.writeNimCtrl (s : State) (src : Requester) (v : Word) : State :=
  s.guarded .NIM_CTRL src fun s =>
    let was := s.flag F.NIM_CTRL_EN 0
    let s := s.store .NIM_CTRL 0 (F.NIM_CTRL_KILL.put 0 v)
    if F.NIM_CTRL_EN.on v then
      ((s.setFlag F.NIM_STATUS_RUN 0 true).setFlag F.NIM_STATUS_DRAINING 0 false).showQueues
    else
      let s := if was then (s.setFlag F.NIM_STATUS_RUN 0 false).setFlag F.NIM_STATUS_DRAINING 0 true else s
      let s := if F.NIM_CTRL_KILL.on v then s.killPrograms.setFlag F.NIM_STATUS_DRAINING 0 false else s
      s.showQueues

/-- NIM_DISABLE (R274): EN cleared. -/
def execNimDisable (src : Requester) (s : State) : Host.Outcome State Fault Refusal := .next (s.writeNimCtrl src 0)

/-- NIM_KILL (R274): KILL written 1 with EN clear. -/
def execNimKill (src : Requester) (s : State) : Host.Outcome State Fault Refusal :=
  .next (s.writeNimCtrl src (F.NIM_CTRL_KILL.put 1 0))

/-- NIM_DRAIN_DONE (R274): every accepted entry is COMPLETE, and the cores stop. -/
def execNimDrainDone (s : State) : Host.Outcome State Fault Refusal :=
  .next (if s.flag F.NIM_STATUS_DRAINING 0 && s.nim.journal.all (fun (e : JEntry) => e.phase == .complete) then
      let k := s.fld F.NIM_REPLAY_KILLED 0
      (s.killPrograms.setFlag F.NIM_STATUS_DRAINING 0 false).setFld F.NIM_REPLAY_KILLED 0 k
    else s)

/-! ### Resident services (R275 to R278) -/

/-- The context of a service slot: 7 less the enabled slots on its core before it (R275). -/
def State.svcContext (s : State) (n : Nat) : Nat :=
  let core := s.fld F.NIM_SVC_CFG_CORE n
  8 * core + 7 - ((List.range n).filter fun m => s.flag F.NIM_SVC_CFG_EN m && s.fld F.NIM_SVC_CFG_CORE m == core).length

/-- Start a service slot at ENTRY plus a word offset (R275, R277, R314). -/
def State.startSvc (s : State) (n off : Nat) : State :=
  let i := s.svcContext n
  let e := s.fld F.NIM_SVC_CFG_ENTRY n
  let s := if (s.ctx i).run = .off then s else s.endCtx i
  let s := s.setCtx i (freshCtx (some n) none (if e < 2 ^ 20 then 1 else 2) (e % 2 ^ 20 + off) [] (s.ctx i).loc)
  let s := (s.setSvc n { s.svc n with at_ := some i }).setFld F.NIM_SVC_STAT_STATE n 1
  (s.ready i).showCore (i / 8)

/-- SERVICE_START (R275, R614): after replay, every enabled slot starts; those whose image fails the check stay stopped. -/
def execServiceStart (bad : List (Fin 32)) (s : State) : Host.Outcome State Fault Refusal :=
  .next (((List.range 32).filter fun n => s.flag F.NIM_SVC_CFG_EN n).foldl (fun (s : State) n =>
    if bad.any (fun b => b.val == n) then (s.setFld F.NIM_SVC_STAT_STATE n 4).irq Irq.NIM_SVC_STOP else s.startSvc n 0) s)

/-- SERVICE_RESTART (R278): 100 ms after a trap. -/
def execServiceRestart (n : Fin 32) (s : State) : Host.Outcome State Fault Refusal :=
  .next (if s.fld F.NIM_SVC_STAT_STATE n = 3 then
      (s.startSvc n 0).setFld F.NIM_SVC_STAT_RESTARTS n (satTo 16 (s.fld F.NIM_SVC_STAT_RESTARTS n + 1))
    else s)

/-- Side B leads or stops leading: every running service starts at RESYNC (R277). -/
def State.changeRole (s : State) (leading : Bool) : State :=
  if !(s.mirrored && s.sideB) || s.nim.leading == leading then s
  else
    let s := { s with nim := { s.nim with leading := leading } }
    ((List.range 32).filter fun n => (s.svc n).at_.isSome).foldl (fun (s : State) n => s.startSvc n 1) s

/-- Whether jsub, post and xmit are shadowed: side B while its partner is present (R277). -/
def State.shadow (s : State) : Bool := s.mirrored && s.sideB && !s.nim.leading

end Sys2Proof.Machine
end

