-- ==== Sys2Proof/Machine/Tweed.lean ====
section
/-! DEFINITION. Tweed: placements, blocks and runs, the pending set and its apply, and the operations of a bundle
(chapter 08). -/

namespace Sys2Proof.Machine

/-! ### Cores, lanes and memories (R317, R319) -/

/-- A core's record. -/
def State.twdCore (s : State) (c : Nat) : TwdCore := Tbl.get (fun _ => default) s.twd.cores c

/-- Set a core's record. -/
def State.setTwd (s : State) (c : Nat) (x : TwdCore) : State :=
  { s with twd := { s.twd with cores := Tbl.set (fun _ => default) c x s.twd.cores } }

/-- The states of TWD_CORE_STAT.STATE (Table 08.17). -/
def twOff : Nat := 0
def twRun : Nat := 1
def twTrapped : Nat := 2
def twDraining : Nat := 3

/-- Lane l of a word. -/
def lane (w : Word128) (l : Nat) : BitVec 32 := BitVec.ofNat 32 (w.toNat >>> (32 * l))

/-- A word with lane l replaced. -/
def setLane (w : Word128) (l : Nat) (v : BitVec 32) : Word128 :=
  (w &&& ~~~(BitVec.ofNat 128 ((2 ^ 32 - 1) * 2 ^ (32 * l)))) ||| BitVec.ofNat 128 (v.toNat * 2 ^ (32 * l))

/-- A word from a function of its lanes. -/
def lanes (f : Nat → BitVec 32) : Word128 :=
  BitVec.ofNat 128 ((f 0).toNat + (f 1).toNat * 2 ^ 32 + (f 2).toNat * 2 ^ 64 + (f 3).toNat * 2 ^ 96)

/-- Byte b of a word, and a word with byte b replaced. -/
def byteOf (w : Word128) (b : Nat) : Byte := BitVec.ofNat 8 (w.toNat >>> (8 * b))
def setByte (w : Word128) (b : Nat) (v : Byte) : Word128 :=
  (w &&& ~~~(BitVec.ofNat 128 (255 * 2 ^ (8 * b)))) ||| BitVec.ofNat 128 (v.toNat * 2 ^ (8 * b))

/-- The word and lane of sample n of a slot, and the word and byte of its flags (R319). -/
def slotWord (slot n : Nat) : Nat := 0x3000 + 8 * (slot / 4) + n
def flagWord (slot : Nat) : Nat := 0x3800 + slot / 16

/-- A window with a sample of a slot written. -/
def putSample (t : Tbl Word128) (slot n : Nat) (v : BitVec 32) : Tbl Word128 :=
  let a := slotWord slot n
  Tbl.set (fun _ => 0) a (setLane (Tbl.get (fun _ => 0) t a) (slot % 4) v) t

/-- A window with flag bits of a slot set (bit 0 INVALID, bit 1 SLIP). -/
def orFlags (t : Tbl Word128) (slot : Nat) (f : Byte) : Tbl Word128 :=
  let a := flagWord slot
  let w := Tbl.get (fun _ => 0) t a
  Tbl.set (fun _ => 0) a (setByte w (slot % 16) (byteOf w (slot % 16) ||| f)) t

/-- A program read of X or Y: reserved addresses read 0 (R317). -/
def readXY (t : Tbl Word128) (a : Nat) : Word128 := if a < 0x3840 then Tbl.get (fun _ => 0) t a else 0

/-- A program write of X: the IN window, its flags and reserved addresses discard it (R317). -/
def writeX (t : Tbl Word128) (a : Nat) (w : Word128) : Tbl Word128 := if a < 0x3000 then Tbl.set (fun _ => 0) a w t else t

/-- A program write of Y: reserved addresses discard it (R317). -/
def writeY (t : Tbl Word128) (a : Nat) (w : Word128) : Tbl Word128 := if a < 0x3840 then Tbl.set (fun _ => 0) a w t else t

/-! ### Arithmetic (R344 to R347) -/

/-- The product of two lanes, × 2^(1 + sh) (R344). -/
def product (a b : BitVec 32) (sh : Nat) : Int := a.toInt * b.toInt * (2 ^ (1 + sh) : Nat)

/-- Whether a sum leaves [−2^79, 2^79) (R345). -/
def accOver (v : Int) : Bool := decide (v < -(2 ^ 79 : Nat)) || decide ((2 ^ 79 : Nat) ≤ v)

/-- Nearest integer to n / d, a half going to the even one. -/
def roundEven (n : Int) (d : Nat) : Int :=
  let q := n / (d : Int)
  let r := n % (d : Int)
  if 2 * r < d then q else if (d : Int) < 2 * r then q + 1 else if q % 2 = 0 then q else q + 1

/-- The kept bits of a store format: the position of the lowest kept bit of A and the width (Table 08.8). -/
def fmtShift (fmt : Nat) : Nat := match fmt with | 0 => 32 | 1 => 40 | _ => 48

/-- rnd of one lane: the stored word, and whether it saturated (R346, Table 08.8). -/
def rndLane (a : BitVec 80) (fmt sh : Nat) : BitVec 32 × Bool :=
  let p := fmtShift fmt
  let w := 64 - p
  let k := roundEven (a.toInt / (2 ^ sh : Nat)) (2 ^ p)
  let c := clampSigned w k
  (BitVec.ofInt 32 (c * (2 ^ (32 - w) : Nat)), decide (c ≠ k))

/-- A saturating sum or difference of lanes, and whether it saturated (R347). -/
def satLane (sub : Bool) (a b : BitVec 32) : BitVec 32 × Bool :=
  let k := if sub then a.toInt - b.toInt else a.toInt + b.toInt
  let c := clampSigned 32 k
  (BitVec.ofInt 32 c, decide (c ≠ k))

/-- A sample scaled by k / d and rounded convergently to 24 bits (R336, R366). -/
def rampSample (w : BitVec 32) (k d : Nat) : BitVec 32 :=
  BitVec.ofInt 32 (clampSigned 24 (roundEven (w.toInt * k) (d * 256)) * 256)

/-! ### Registers of a core (R322, R323, R348) -/

/-- The physical register of a vector name (R348). -/
def TwdCore.phys (x : TwdCore) (n : Nat) : Nat := if n < 16 then n else 16 + (n - 16 + x.rrb) % 16

/-- The value of a vector name. -/
def TwdCore.vec (x : TwdCore) (n : Nat) : Word128 := Tbl.get (fun _ => 0) x.v (x.phys n)

/-- A core with a vector name of the bundle's start written. -/
def TwdCore.setVec (x : TwdCore) (n : Nat) (w : Word128) : TwdCore := { x with v := Tbl.set (fun _ => 0) (x.phys n) w x.v }

/-- An accumulator lane. -/
def TwdCore.lane (x : TwdCore) (a l : Nat) : BitVec 80 := Tbl.get (fun _ => 0) x.acc (4 * a + l)

/-- A core with an accumulator lane set, clamped or free. -/
def TwdCore.setLane (x : TwdCore) (a l : Nat) (v : BitVec 80) (stuck : Bool) : TwdCore :=
  { x with acc := Tbl.set (fun _ => 0) (4 * a + l) v x.acc, stuck := Tbl.set (fun _ => false) (4 * a + l) stuck x.stuck }

/-- An address register: x0 to x7 are 0 to 7, y0 to y7 8 to 15. -/
def TwdCore.areg (x : TwdCore) (r : Nat) : AddrReg := Tbl.get (fun _ => default) x.ar r

/-- A core with an address register's ADDR set. -/
def TwdCore.setAddr (x : TwdCore) (r a : Nat) : TwdCore :=
  { x with ar := Tbl.set (fun _ => default) r { x.areg r with addr := a % 16384 } x.ar }

/-- Post-modify of an address register (R323). -/
def AddrReg.step_ (a : AddrReg) (mod_ : Nat) : Nat :=
  let d : Int := match mod_ with | 0 => 0 | 1 => 1 | 2 => -1 | _ => a.step
  let n : Int := a.addr + d
  let n := if mod_ = 0 ∨ a.len = 0 then n else if (a.base + a.len : Int) ≤ n then n - a.len else if n < a.base then n + a.len else n
  (n % 16384).toNat

/-- Entry r of the address register image (R322). -/
def imageReg (x : Tbl Word128) (r : Nat) : AddrReg :=
  let w := (Tbl.get (fun _ => 0) x (0x0FF8 + r / 2)).toNat >>> (64 * (r % 2)) % 2 ^ 64
  ⟨w % 2 ^ 14, w >>> 16 % 2 ^ 14, w >>> 32 % 2 ^ 14, signedOf 14 (w >>> 48)⟩

/-- A core at the start of a run (R321, R322). -/
def TwdCore.start (x : TwdCore) (entry : Nat) (inWin : Tbl Word128) : TwdCore :=
  let mem := (x.x.filter fun e => e.1 < 0x3000) ++ inWin
  { x with
    v := [], acc := [], stuck := [], rrb := 0, loops := [], pc := entry, run := true, ended := false, bad := false, cycles := 0, ready := [],
    ar := (List.range 16).foldl (fun t r => Tbl.set (fun _ => default) r (imageReg x.x r) t) [],
    x := mem, y := x.y.filter fun e => e.1 < 0x3000 }

/-- The image with every register's ADDR written back (R322). -/
def TwdCore.writeBack (x : TwdCore) : TwdCore :=
  { x with x := (List.range 16).foldl (fun t r =>
      let a := 0x0FF8 + r / 2
      let w := Tbl.get (fun _ => 0) t a
      let sh := 64 * (r % 2)
      Tbl.set (fun _ => 0) a ((w &&& ~~~(BitVec.ofNat 128 (0x3FFF * 2 ^ sh))) ||| BitVec.ofNat 128 ((x.areg r).addr * 2 ^ sh)) t) x.x }

/-! ### A bundle (R349 to R354) -/

/-- Why a run traps (Table 08.15). -/
inductive TwdTrap where
  | illegal | loop | runoff
  deriving DecidableEq, Repr

/-- The number of a trap (Table 08.15). -/
def TwdTrap.code : TwdTrap → Nat
  | .illegal => 1 | .loop => 2 | .runoff => 3

/-- The lpr body that a bundle lies in: its iteration and count. -/
def TwdCore.lprBody (x : TwdCore) : Option (Nat × Nat) :=
  match x.loops with
  | f :: _ => f.gate.map fun c => (f.iter, c)
  | [] => none

/-- Whether a field with a stage acts (R349). -/
def TwdCore.acts (x : TwdCore) (stg : Nat) : Bool :=
  match x.lprBody with
  | none => true
  | some (i, c) => decide (stg ≤ i ∧ i < stg + c)

/-- The vector names that an operation writes. -/
def TOp.vdst : TOp → Option Nat
  | .rnd vd _ _ _ => some vd | .vadd _ vd _ _ => some vd | .vmov vd _ => some vd | .vbc vd _ _ => some vd
  | _ => none

/-- The vector names that an operation reads. -/
def TOp.vsrc : TOp → List Nat
  | .mac _ _ va vb _ => [va, vb]
  | .qmac _ _ va vb _ => [va.val, va + 1, va + 2, va + 3, vb]
  | .vadd _ _ va vb => [va, vb] | .vmov _ va => [va] | .vbc _ va _ => [va] | .vtoa _ va => [va]
  | _ => []

/-- The name that a move writes. -/
def Move.vdst (m : Move) : Option Nat := if m.op = 1 ∨ m.op = 3 then some m.v else none

/-- Whether two written names are the same register. -/
def clash (a b : Option Nat) : Bool := match a, b with | some x, some y => x == y | _, _ => false

/-- A move field that Table 08.14 or 08.15 does not allow. -/
def Move.bad (m : Move) (inLpr : Bool) : Bool :=
  decide (4 ≤ m.op.val) || m.rsv || (m.op != 3 && m.k != 0) || (!inLpr && m.stg != 0)

/-- Whether an operation is one of the loop and end forms. -/
def TOp.control : TOp → Bool
  | .loop _ _ => true | .lpr _ _ _ => true | .br _ => true | .eob => true
  | _ => false

/-- What a bundle traps with (Table 08.15). -/
def TwdCore.trapOf (x : TwdCore) (op : TOp) (b : Bundle) : Option TwdTrap :=
  let inLpr := x.lprBody.isSome
  if 8192 ≤ x.pc then some .runoff
  else if b.rsv || b.xm.bad inLpr || b.ym.bad inLpr || (!inLpr && b.stg != 0) then some .illegal
  else if clash op.vdst b.xm.vdst || clash op.vdst b.ym.vdst || clash b.xm.vdst b.ym.vdst then some .illegal
  else
    let pair := match op with
      | .setx y r _ =>
        let m := if y then b.ym else b.xm
        m.op != 0 && m.mod_ != 0 && m.r == r
      | .rnd _ _ fmt _ => fmt == 3
      | .qmac _ ad va _ _ => (ad != 0 && ad != 4) || decide (28 < va.val)
      | .loop cnt _ => cnt == 0
      | .lpr _ cnt _ => cnt == 0
      | _ => false
    if pair then some .illegal
    else if op.control && inLpr then some .loop
    else match op with
      | .loop _ len => if 4 ≤ x.loops.length ∨ 8192 ≤ x.pc + len.val + 1 then some .loop else none
      | .lpr _ _ len => if 4 ≤ x.loops.length ∨ 8192 ≤ x.pc + len.val + 1 then some .loop else none
      | .br _ => if x.loops.isEmpty then none else some .loop
      | _ => none

/-- One lane of the mac family: the core and whether the sum left the range (R344, R345). -/
def TwdCore.macLane (x : TwdCore) (k : MacKind) (sat : Bool) (ad l : Nat) (p : Int) : TwdCore × Bool :=
  let a := x.lane ad l
  match k with
  | .set => (x.setLane ad l (BitVec.ofInt 80 p) false, false)
  | _ =>
    if Tbl.get (fun _ => false) x.stuck (4 * ad + l) then (x, false)
    else
      let v := if k = .add then a.toInt + p else a.toInt - p
      if accOver v then
        if sat then (x.setLane ad l (BitVec.ofInt 80 (clampSigned 80 v)) true, true) else (x.setLane ad l (BitVec.ofInt 80 v) false, true)
      else (x.setLane ad l (BitVec.ofInt 80 v) false, false)

/-- The four lanes of one accumulator. -/
def TwdCore.macAcc (x : TwdCore) (k : MacKind) (sat : Bool) (ad : Nat) (a b : Word128) (sh : Nat) : TwdCore × Bool :=
  [0, 1, 2, 3].foldl (fun (y : TwdCore × Bool) l =>
    let z := y.1.macLane k sat ad l (product (Machine.lane a l) (Machine.lane b l) sh)
    (z.1, y.2 || z.2)) (x, false)

/-- What an operation does to the registers, reading them in `x`: the core, ACC_OV and SAT. -/
def TwdCore.operate (x : TwdCore) (sat : Bool) (op : TOp) (y : TwdCore) : TwdCore × Bool × Bool :=
  match op with
  | .mac k ad va vb sh =>
    let z := y.macAcc k sat ad (x.vec va) (x.vec vb) sh
    (z.1, z.2, false)
  | .qmac k ad va vb sh =>
    let z := [0, 1, 2, 3].foldl (fun (w : TwdCore × Bool) u =>
      let z := w.1.macAcc k sat (ad + u) (x.vec (va + u)) (x.vec vb) sh
      (z.1, w.2 || z.2)) (y, false)
    (z.1, z.2, false)
  | .clr mask => ((List.range 8).foldl (fun (w : TwdCore) n =>
      if mask.getLsbD n then [0, 1, 2, 3].foldl (fun (w : TwdCore) l => w.setLane n l 0 false) w else w) y, false, false)
  | .rnd vd ad fmt sh =>
    let f := fun l => rndLane (x.lane ad l) fmt sh
    (y.setVec vd (lanes fun l => (f l).1), false, [0, 1, 2, 3].any fun l => (f l).2)
  | .vadd sub vd va vb =>
    let f := fun l => satLane sub (Machine.lane (x.vec va) l) (Machine.lane (x.vec vb) l)
    (y.setVec vd (lanes fun l => (f l).1), false, [0, 1, 2, 3].any fun l => (f l).2)
  | .vmov vd va => (y.setVec vd (x.vec va), false, false)
  | .vbc vd va k => (y.setVec vd (lanes fun _ => Machine.lane (x.vec va) k), false, false)
  | .vtoa ad va => ([0, 1, 2, 3].foldl (fun (w : TwdCore) l =>
      w.setLane ad l (BitVec.ofInt 80 ((Machine.lane (x.vec va) l).toInt * (2 ^ 32 : Nat))) false) y, false, false)
  | .setx isY r addr => (y.setAddr (r.val + (if isY then 8 else 0)) addr.toNat, false, false)
  | _ => (y, false, false)

/-- What a move does, reading registers and memory in `x` (R317, R323, R352). -/
def TwdCore.moveField (x : TwdCore) (isY : Bool) (m : Move) (y : TwdCore) : TwdCore :=
  if m.op = 0 then y
  else
    let r := m.r.val + (if isY then 8 else 0)
    let a := (x.areg r).addr
    let w := readXY (if isY then x.y else x.x) a
    let y := if m.op = 1 then y.setVec m.v w
      else if m.op = 3 then y.setVec m.v (lanes fun _ => Machine.lane w m.k)
      else if isY then { y with y := writeY y.y a (x.vec m.v) } else { y with x := writeX y.x a (x.vec m.v) }
    if m.mod_ = 0 then y else y.setAddr r ((x.areg r).step_ m.mod_)

/-- The first cycle at which a bundle's fields that act may read their registers (R353). -/
def TwdCore.issueAt (x : TwdCore) (op : TOp) (b : Bundle) : Nat :=
  let vs := (if x.acts b.stg then op.vsrc else []) ++
    (if b.xm.op = 2 ∧ x.acts b.xm.stg = true then [b.xm.v.val] else []) ++ (if b.ym.op = 2 ∧ x.acts b.ym.stg = true then [b.ym.v.val] else [])
  let acc := match op with | .rnd _ ad _ _ => if x.acts b.stg then [32 + ad.val] else [] | _ => []
  (vs.map x.phys ++ acc).foldl (fun t k => max t (Tbl.get (fun _ => 0) x.ready k)) x.cycles

/-- Note when an operation's results may be used (Table 08.13). -/
def TwdCore.noteReady (x : TwdCore) (op : TOp) (t : Nat) (ready : Tbl Nat) : Tbl Nat :=
  match op with
  | .mac _ ad _ _ _ => Tbl.set (fun _ => 0) (32 + ad) (t + 3) ready
  | .qmac _ ad _ _ _ => [0, 1, 2, 3].foldl (fun r u => Tbl.set (fun _ => 0) (32 + ad + u) (t + 3) r) ready
  | .rnd vd _ _ _ => Tbl.set (fun _ => 0) (x.phys vd) (t + 2) ready
  | _ => ready

/-- Close the loops whose last bundle has been passed (R349): the next pc and the loops that go on. -/
def closeLoops (pc : Nat) : List LoopFrame → Nat × List LoopFrame
  | [] => (pc, [])
  | f :: fs =>
    if pc = f.start + f.len then
      if f.iter + 1 < f.total then (f.start, { f with iter := f.iter + 1 } :: fs) else closeLoops pc fs
    else (pc, f :: fs)

/-- The pc and loops after a bundle. -/
def TwdCore.advance (x : TwdCore) (op : TOp) : TwdCore :=
  match op with
  | .loop cnt len => { x with pc := x.pc + 1, loops := ⟨x.pc + 1, len + 1, 0, cnt, none⟩ :: x.loops }
  | .lpr s cnt len => { x with pc := x.pc + 1, loops := ⟨x.pc + 1, len + 1, 0, cnt + s, some cnt⟩ :: x.loops }
  | .br off =>
    let n : Int := x.pc + off.toInt
    { x with pc := if n < 0 then 8192 else n.toNat }
  | _ =>
    let p := closeLoops (x.pc + 1) x.loops
    { x with pc := p.1, loops := p.2 }

/-- The run of a core ends with every slot of its OUT bank 0 with INVALID. -/
def TwdCore.spoil (x : TwdCore) : TwdCore := { x with run := false, ended := false, bad := true, loops := [] }

/-- A core traps (Table 08.6, R354). -/
def State.twdTrap (s : State) (c : Nat) (t : TwdTrap) : State :=
  let x := s.twdCore c
  let bank := s.fld F.TWD_CORE_STAT_BANK c
  let s := (s.setTwd c x.spoil).setFld F.TWD_CORE_STAT_STATE c twTrapped
  let s := s.setReg .TWD_CORE_TRAP c (BitVec.ofNat 64 (t.code * 2 ^ 28 + bank * 2 ^ 13 + x.pc % 2 ^ 13))
  (s.irq Irq.TWD_TRAP).awlState .TWD .error twTrapped c t.code

/-- The run reaches eob: address registers are written back, and the cycles are shown (R322, Table 08.16). -/
def State.twdEnd (s : State) (c : Nat) (x : TwdCore) : State :=
  let x := { x.writeBack with run := false, ended := true }
  let n := BitVec.ofNat 64 (satTo 18 x.cycles)
  let s := (s.setTwd c x).setReg .TWD_CORE_CYC c n
  if (s.reg .TWD_CORE_CYCMAX c).toNat < n.toNat then s.setReg .TWD_CORE_CYCMAX c n else s

/-- One bundle of a core's run: every field reads registers as they stood at the start of its cycle, then the writes,
the rotation and the next pc follow (R348, R349, R353). -/
def State.bundle (s : State) (c : Nat) (op : TOp) (b : Bundle) : State :=
  let x := s.twdCore c
  if !x.run then s
  else match x.trapOf op b with
    | some t => s.twdTrap c t
    | none =>
      let t := x.issueAt op b
      let acts := x.acts b.stg
      let z := if acts then x.operate (s.flag F.TWD_CORE_CFG_ACC_SAT c) op x else (x, false, false)
      let y := if x.acts b.xm.stg then x.moveField false b.xm z.1 else z.1
      let y := if x.acts b.ym.stg then x.moveField true b.ym y else y
      let y := { y with
        ready := if acts then x.noteReady op t x.ready else x.ready,
        rrb := if b.rot then (x.rrb + 15) % 16 else x.rrb, cycles := t + (match op with | .br _ => 3 | _ => 1) }
      let y := y.advance op
      let s := if z.2.1 then (s.setFlag F.TWD_CORE_FLAGS_ACC_OV c true).irq Irq.TWD_ACC_OV else s
      let s := if z.2.2 then s.setFlag F.TWD_CORE_FLAGS_SAT c true else s
      match op with
      | .eob => s.twdEnd c { y with pc := x.pc, loops := [] }
      | _ => s.setTwd c y

/-- TWD_NOP (R351): a bundle whose operation is nop. -/
def execTwdNop (core : Fin 8) (b : Bundle) (s : State) : Host.Outcome State Fault Refusal := .next (s.bundle core .nop b)

/-- MAC (R344, R351). -/
def execTwdMac (core : Fin 8) (b : Bundle) (ad : Fin 8) (va vb : Fin 32) (sh : Fin 16) (s : State) : Host.Outcome State Fault Refusal :=
  .next (s.bundle core (.mac .add ad va vb sh) b)

/-- MSU (R344, R351). -/
def execTwdMsu (core : Fin 8) (b : Bundle) (ad : Fin 8) (va vb : Fin 32) (sh : Fin 16) (s : State) : Host.Outcome State Fault Refusal :=
  .next (s.bundle core (.mac .sub ad va vb sh) b)

/-- MPY (R344, R351). -/
def execTwdMpy (core : Fin 8) (b : Bundle) (ad : Fin 8) (va vb : Fin 32) (sh : Fin 16) (s : State) : Host.Outcome State Fault Refusal :=
  .next (s.bundle core (.mac .set ad va vb sh) b)

/-- QMAC (R351). -/
def execTwdQmac (core : Fin 8) (b : Bundle) (ad : Fin 8) (va vb : Fin 32) (sh : Fin 16) (s : State) : Host.Outcome State Fault Refusal :=
  .next (s.bundle core (.qmac .add ad va vb sh) b)

/-- QMSU (R351). -/
def execTwdQmsu (core : Fin 8) (b : Bundle) (ad : Fin 8) (va vb : Fin 32) (sh : Fin 16) (s : State) : Host.Outcome State Fault Refusal :=
  .next (s.bundle core (.qmac .sub ad va vb sh) b)

/-- QMPY (R351). -/
def execTwdQmpy (core : Fin 8) (b : Bundle) (ad : Fin 8) (va vb : Fin 32) (sh : Fin 16) (s : State) : Host.Outcome State Fault Refusal :=
  .next (s.bundle core (.qmac .set ad va vb sh) b)

/-- CLR (R344, R351). -/
def execTwdClr (core : Fin 8) (b : Bundle) (mask : BitVec 8) (s : State) : Host.Outcome State Fault Refusal :=
  .next (s.bundle core (.clr mask) b)

/-- RND (R346). -/
def execTwdRnd (core : Fin 8) (b : Bundle) (vd : Fin 32) (ad : Fin 8) (fmt : Fin 4) (sh : Fin 16) (s : State) : Host.Outcome State Fault Refusal :=
  .next (s.bundle core (.rnd vd ad fmt sh) b)

/-- VADD (R347). -/
def execTwdVadd (core : Fin 8) (b : Bundle) (vd va vb : Fin 32) (s : State) : Host.Outcome State Fault Refusal :=
  .next (s.bundle core (.vadd false vd va vb) b)

/-- VSUB (R347). -/
def execTwdVsub (core : Fin 8) (b : Bundle) (vd va vb : Fin 32) (s : State) : Host.Outcome State Fault Refusal :=
  .next (s.bundle core (.vadd true vd va vb) b)

/-- VMOV (R351). -/
def execTwdVmov (core : Fin 8) (b : Bundle) (vd va : Fin 32) (s : State) : Host.Outcome State Fault Refusal :=
  .next (s.bundle core (.vmov vd va) b)

/-- VBC (R351). -/
def execTwdVbc (core : Fin 8) (b : Bundle) (vd va : Fin 32) (k : Fin 4) (s : State) : Host.Outcome State Fault Refusal :=
  .next (s.bundle core (.vbc vd va k) b)

/-- VTOA (R344, R351). -/
def execTwdVtoa (core : Fin 8) (b : Bundle) (ad : Fin 8) (va : Fin 32) (s : State) : Host.Outcome State Fault Refusal :=
  .next (s.bundle core (.vtoa ad va) b)

/-- LOOP (R349): `len` is the field len − 1. -/
def execTwdLoop (core : Fin 8) (b : Bundle) (cnt : Fin 1024) (len : Fin 128) (s : State) : Host.Outcome State Fault Refusal :=
  .next (s.bundle core (.loop cnt len) b)

/-- LPR (R349): `st` is the field S − 1 and `len` the field len − 1. -/
def execTwdLpr (core : Fin 8) (b : Bundle) (st : Fin 8) (cnt : Fin 1024) (len : Fin 16) (s : State) : Host.Outcome State Fault Refusal :=
  .next (s.bundle core (.lpr st cnt len) b)

/-- TWD_BR (R351). -/
def execTwdBr (core : Fin 8) (b : Bundle) (off : BitVec 17) (s : State) : Host.Outcome State Fault Refusal :=
  .next (s.bundle core (.br off) b)

/-- SETX (R323, R351). -/
def execTwdSetx (core : Fin 8) (b : Bundle) (r : Fin 8) (addr : BitVec 14) (s : State) : Host.Outcome State Fault Refusal :=
  .next (s.bundle core (.setx false r addr) b)

/-- SETY (R323, R351). -/
def execTwdSety (core : Fin 8) (b : Bundle) (r : Fin 8) (addr : BitVec 14) (s : State) : Host.Outcome State Fault Refusal :=
  .next (s.bundle core (.setx true r addr) b)

/-- EOB (R322). -/
def execTwdEob (core : Fin 8) (b : Bundle) (s : State) : Host.Outcome State Fault Refusal := .next (s.bundle core .eob b)

/-- A bundle with its X or Y move given. -/
def Bundle.withMove (b : Bundle) (y : Bool) (m : Move) : Bundle := if y then { b with ym := m } else { b with xm := m }

/-- VLD (R352): a bundle with an X or Y move of op 1. -/
def execTwdVld (core : Fin 8) (b : Bundle) (y : Bool) (m : Move) (s : State) : Host.Outcome State Fault Refusal :=
  .next (s.bundle core .nop (b.withMove y { m with op := 1 }))

/-- VST (R352): a bundle with an X or Y move of op 2. -/
def execTwdVst (core : Fin 8) (b : Bundle) (y : Bool) (m : Move) (s : State) : Host.Outcome State Fault Refusal :=
  .next (s.bundle core .nop (b.withMove y { m with op := 2 }))

/-- VBL (R352): a bundle with an X or Y move of op 3. -/
def execTwdVbl (core : Fin 8) (b : Bundle) (y : Bool) (m : Move) (s : State) : Host.Outcome State Fault Refusal :=
  .next (s.bundle core .nop (b.withMove y { m with op := 3 }))

/-! ### Placements, follow streams and bundles (R330 to R339, R356) -/

/-- A write joins the pending set of a core; a DRAINING core's registers discard it (R341, R343). -/
def State.pendTwd (s : State) (c : Nat) (r : Reg) (i : Nat) (v : Word) : State :=
  if s.fld F.TWD_CORE_STAT_STATE c = twDraining then s.irq Irq.TWD_DRAIN_WR
  else
    let x := s.twdCore c
    let w := v &&& BitVec.ofNat 64 r.info.mask
    ((s.setTwd c { x with pend := x.pend ++ [(r, i, w)] }).setFlag F.TWD_CORE_STAT_PENDING c true).answer .OK

/-- The time base of a core as it will be when its pending writes apply. -/
def State.coreTb (s : State) (c : Nat) : Nat := F.TWD_CORE_CFG_TB.of (s.effReg .TWD_CORE_CFG c)

/-- The time base of placed source k: its domain's, its context's, its section's, or the sending core's (R332). -/
def State.placeTb (s : State) (k sender : Nat) : Nat :=
  if k < 128 then s.otdTb (s.fld F.ING_IN_CFG_OTD k)
  else if k < 1152 then s.fld F.ING_AFL_FMT_TB (k - 128)
  else if k < 1168 then s.fld F.ASP_RX_CFG_TB (k - 1152)
  else sender

/-- A write of TWD_PLACE (R331, R332, R356); `sender` is the time base of the core that sends to a bundle receiver. -/
def State.writePlace (s : State) (src : Requester) (k : Nat) (v : Word) (sender : Nat) : State :=
  s.guarded .TWD_PLACE src fun s =>
    let base := F.TWD_PLACE_BASE.of v
    let len := s.placeLen k
    let valid := F.TWD_PLACE_VALID.on v
    let asp := decide (1152 ≤ k ∧ k < 1168)
    if base % 4 ≠ 0 ∨ crossesCore base len = true then s.refuse .BAD_ARG
    else if valid && (s.placeOverlaps k base len || (!asp && s.placeTb k sender != s.coreTb (base / 1024))) then s.refuse .REFUSED_POLICY
    else s.pendTwd (base / 1024) .TWD_PLACE k v

/-- TWD_PLACE_WRITE (R332). -/
def execTwdPlaceWrite (src : Requester) (k : Fin 1184) (w : Word32) (sender : Fin 4) (s : State) : Host.Outcome State Fault Refusal :=
  .next (s.writePlace src k (w.setWidth 64) sender)

/-- Channels of the follow stream of a local source: 16 at 525i and 625i (R334). -/
def State.followLen (s : State) (n : Nat) : Nat :=
  let code := if n < 384 then (match (s.ownView n).form with | some f => f.code | none => 0)
    else s.otdFormat (s.fld F.EGR_PAT_CFG_OTD (n - 384))
  if rasterOf code = 1 ∨ rasterOf code = 2 then 16 else 32

/-- A write of TWD_FOLLOW (R334, R356). -/
def State.writeFollow (s : State) (src : Requester) (n : Nat) (v : Word) : State :=
  s.guarded .TWD_FOLLOW src fun s =>
    let mode := F.TWD_FOLLOW_MODE.of v
    let base := F.TWD_FOLLOW_BASE.of v
    if mode = 3 ∨ (mode = 2 ∧ crossesCore base (s.followLen n) = true) then s.refuse .BAD_ARG
    else s.pendTwd (base / 1024) .TWD_FOLLOW n v

/-- TWD_FOLLOW_WRITE (R334). -/
def execTwdFollowWrite (src : Requester) (n : Fin 400) (w : Word32) (s : State) : Host.Outcome State Fault Refusal :=
  .next (s.writeFollow src n (w.setWidth 64))

/-- Whether a flow may be sent by a bundle sender (R338). -/
def State.bundleFlow (s : State) (flow : Nat) : Bool :=
  let e := s.dirEntry flow
  dirValid e && dirKind e == 0 && dirOrigin e / 512 == s.domainId

/-- Output channels that a bundle sender reserves. -/
def btxChannels (v : Word) : Nat := if F.TWD_BTX_CFG_VALID.on v then 64 else 0

/-- A write of TWD_BTX_CFG (R337, R338). -/
def State.writeBtxCfg (s : State) (src : Requester) (b : Nat) (v : Word) : State :=
  s.guarded .TWD_BTX_CFG src fun s =>
    let base := F.TWD_BTX_CFG_BASE.of v
    let valid := F.TWD_BTX_CFG_VALID.on v
    if base % 64 ≠ 0 then s.refuse .BAD_ARG
    else if valid && !s.bundleFlow (F.TWD_BTX_FLOW_FLOW.of (s.effReg .TWD_BTX_FLOW b)) then s.refuse .REFUSED_POLICY
    else match s.reserveOut (btxChannels (s.effReg .TWD_BTX_CFG b)) (btxChannels v) with
      | none => s.refuse .NO_ROOM
      | some s => s.pendTwd (base / 1024) .TWD_BTX_CFG b v

/-- A write of TWD_BTX_FLOW (R338). -/
def State.writeBtxFlow (s : State) (src : Requester) (b : Nat) (v : Word) : State :=
  s.guarded .TWD_BTX_FLOW src fun s =>
    let cfg := s.effReg .TWD_BTX_CFG b
    if F.TWD_BTX_CFG_VALID.on cfg && !s.bundleFlow (F.TWD_BTX_FLOW_FLOW.of v) then s.refuse .REFUSED_POLICY
    else s.pendTwd (F.TWD_BTX_CFG_BASE.of cfg / 1024) .TWD_BTX_FLOW b v

/-- BUNDLE_SENDER_WRITE (R338): a write of TWD_BTX_FLOW or TWD_BTX_CFG. -/
def execBundleSenderWrite (src : Requester) (b : Fin 16) (flow : Bool) (w : Word32) (s : State) : Host.Outcome State Fault Refusal :=
  .next (if flow then s.writeBtxFlow src b (w.setWidth 64) else s.writeBtxCfg src b (w.setWidth 64))

/-- A write of TWD_BRX_CFG (R331, R339); `h` is the route request that setting the receiver valid makes. -/
def State.writeBrxCfg (s : State) (src : Requester) (r : Nat) (v : Word) (h : RouteHop) : State :=
  s.guarded .TWD_BRX_CFG src fun s =>
    let d := F.TWD_BRX_CFG_DELAY.of v
    let old := s.effReg .TWD_BRX_CFG r
    let was := F.TWD_BRX_CFG_VALID.on old
    let now := F.TWD_BRX_CFG_VALID.on v
    let core := F.TWD_PLACE_BASE.of (s.effReg .TWD_PLACE (1168 + r)) / 1024
    if d = 0 ∨ 8 < d then s.refuse .BAD_ARG
    else match s.reserveIn (if was then 64 else 0) (if now then 64 else 0) with
      | none => s.refuse .NO_ROOM
      | some t =>
        let route := Tbl.get (fun _ => none) s.twd.brx r
        if now && (!was || F.TWD_BRX_CFG_FLOW.of v != F.TWD_BRX_CFG_FLOW.of old) then
          let x := t.hold { h with flow := F.TWD_BRX_CFG_FLOW.of v, egress := [160 + r / 8] }
          if x.2 = .OK then
            let s := { x.1 with twd := { x.1.twd with brx := Tbl.set (fun _ => none) r (some h.req) x.1.twd.brx } }
            (s.dropRoute route).pendTwd core .TWD_BRX_CFG r v
          else (s.count .TWL_ADMIT_REFUSED 0 1).refuse x.2
        else if was && !now then
          let s := { t with twd := { t.twd with brx := Tbl.set (fun _ => none) r none t.twd.brx } }
          (s.dropRoute route).pendTwd core .TWD_BRX_CFG r v
        else t.pendTwd core .TWD_BRX_CFG r v

/-- BUNDLE_RECEIVER_WRITE (R339). -/
def execBundleReceiverWrite (src : Requester) (r : Fin 16) (w : Word32) (h : RouteHop) (s : State) : Host.Outcome State Fault Refusal :=
  .next (s.writeBrxCfg src r (w.setWidth 64) h)

/-! ### Core registers and windows (R340 to R342) -/

/-- A write of TWD_CORE_CFG or TWD_CORE_RUN joins the pending set (R341). -/
def State.writeCore (s : State) (src : Requester) (r : Reg) (c : Nat) (v : Word) : State :=
  s.guarded r src fun s => s.pendTwd c r c v

/-- A write of TWD_CORE_AT arms one apply (R341). -/
def State.writeCoreAt (s : State) (src : Requester) (c : Nat) (v : Word) : State :=
  s.guarded .TWD_CORE_AT src fun s =>
    if s.fld F.TWD_CORE_STAT_STATE c = twDraining then s.irq Irq.TWD_DRAIN_WR
    else (s.store .TWD_CORE_AT c v).setFlag F.TWD_CORE_STAT_ARMED c true

/-- TWEED_APPLY_ARM (R341). -/
def execTweedApplyArm (src : Requester) (core : Fin 8) (at_ : Word32) (s : State) : Host.Outcome State Fault Refusal :=
  .next (s.writeCoreAt src core (at_.setWidth 64))

/-- A PCIe write of a memory window is discarded (R340). -/
def State.windowOpen (s : State) (src : Requester) (k : State → State) : State :=
  if src = .pcie then s.irq Irq.TWD_HOST_WR else k s

/-- A store to TWD_XMEM or TWD_YMEM: one 32-bit lane of a shadow word, which becomes dirty (R341, R355). -/
def State.writeShadow (s : State) (src : Requester) (c : Nat) (y : Bool) (a l : Nat) (v : BitVec 32) : State :=
  s.windowOpen src fun s =>
    let x := s.twdCore c
    let put := fun (t : Tbl Word128) => Tbl.set (fun _ => 0) a (setLane (Tbl.get (fun _ => 0) t a) l v) t
    let x := if y then { x with ys := put x.ys, yd := if x.yd.contains a then x.yd else x.yd ++ [a] }
      else { x with xs := put x.xs, xd := if x.xd.contains a then x.xd else x.xd ++ [a] }
    ((s.setTwd c x).setFlag F.TWD_CORE_STAT_PENDING c true).answer .OK

/-- A store to TWD_IMEM: a bundle of the load bank (R342). -/
def State.writeImem (s : State) (src : Requester) (c a : Nat) (v : Word64) : State :=
  s.windowOpen src fun s =>
    let x := s.twdCore c
    let bank := 1 - s.fld F.TWD_CORE_STAT_BANK c
    (s.setTwd c { x with imem := Tbl.set (fun _ => 0) (8192 * bank + a) v x.imem }).answer .OK

/-- TWD_IMEM_WRITE (R342). -/
def execTwdImemWrite (src : Requester) (core : Fin 8) (a : Fin 8192) (v : Word64) (s : State) : Host.Outcome State Fault Refusal :=
  .next (s.writeImem src core a v)

/-! ### Blocks (R321, R324 to R329, R333) -/

/-- A sample with its flags into the input bank (R321). -/
def State.bankSample (s : State) (c slot n : Nat) (v : BitVec 32) (flags : Byte) : State :=
  let x := s.twdCore c
  let b := putSample x.bank slot n v
  s.setTwd c { x with bank := if flags = 0 then b else orFlags b slot flags, got := if x.got.contains slot then x.got else slot :: x.got }

/-- A serial audio sample as its receive section gives it: 0 with INVALID outside data, scaled in a ramp (R366, R374). -/
def State.aspSample (s : State) (n slot idx : Nat) (v : BitVec 32) : BitVec 32 × Byte :=
  let x := Tbl.get (fun _ => default) s.asp (16 + n)
  let d := if s.flag F.ASP_RX_FMT_RATE n then 16 else 8
  let used := bit slot (s.reg .ASP_RX_ACT n) && decide (slot ≤ s.fld F.ASP_RX_FMT_SLOTS n)
  if !x.data || !used || x.entered.getLsbD slot then (0, 1)
  else if x.ramp = 2 then (rampSample v (d - 1 - idx) d, 0)
  else if x.ramp = 1 ∨ x.ramp = 3 ∨ x.rampSlots.getLsbD slot = true then (rampSample v (idx + 1) d, 0)
  else (v, 0)

/-- TWEED_SAMPLE_WRITE (R58, R319, R321, R324): sample n of a channel slot as its read instant passes; `asp` names the
receive section and slot it comes from, for a serial audio sample. -/
def execTweedSampleWrite (core : Fin 8) (slot : Fin 1024) (n : Fin 8) (v : BitVec 32) (kind : SampleKind)
    (asp : Option (Fin 16 × Fin 16)) (s : State) : Host.Outcome State Fault Refusal :=
  .next (match kind with
    | .invalid => s.bankSample core slot n 0 1
    | .missing => ((s.bankSample core slot n 0 1).count .TWD_CORE_UNDER core 1).irq Irq.TWD_UNDERRUN
    | _ =>
      let idx := n.val + (match asp with | some a => if s.flag F.ASP_RX_FMT_RATE a.1 && slot % 2 == 1 then 8 else 0 | none => 0)
      let x := match asp with | some a => s.aspSample a.1 a.2 idx v | none => (v, 0)
      s.bankSample core slot n x.1 (x.2 ||| (if kind = .slip then 2 else 0)))

/-- Copy the dirty words and apply the pending register writes (R341). -/
def State.twdApply (s : State) (c : Nat) : State :=
  let x := s.twdCore c
  let copy := fun (d : List Nat) (from_ dst : Tbl Word128) => d.foldl (fun (t : Tbl Word128) a => Tbl.set (fun _ => 0) a (Tbl.get (fun _ => 0) from_ a) t) dst
  let s := s.setTwd c { x with x := copy x.xd x.xs x.x, y := copy x.yd x.ys x.y, xd := [], yd := [], pend := [] }
  let s := x.pend.foldl (fun (s : State) (w : Reg × Nat × Word) => if Blk.TWD.regs.contains w.1 then
    s.setReg w.1 w.2.1 ((s.reg w.1 w.2.1 &&& ~~~(BitVec.ofNat 64 w.1.info.mask)) ||| w.2.2) else s) s
  let s := (s.setFlag F.TWD_CORE_STAT_ARMED c false).setFlag F.TWD_CORE_STAT_PENDING c false
  s.setFld F.TWD_CORE_STAT_BANK c (s.fld F.TWD_CORE_RUN_BANK c)

/-- Slots of a core that a valid placement covers, and those whose source runs on another time base, which is shown in
TBMIS (R333). -/
def State.placedSlots (s : State) (c : Nat) : List (Nat × Nat × Nat) :=
  (List.range 1184).filterMap fun k =>
    let b := s.fld F.TWD_PLACE_BASE k
    if s.flag F.TWD_PLACE_VALID k && b / 1024 == c then some (k, b % 1024, s.placeLen k) else none

/-- The IN window of a block (R319, R321, R329, R333): the input bank, with INVALID for placed slots that got nothing or
whose source's time base differs; all INVALID when the bank was not filled. -/
def State.inWindow (s : State) (c : Nat) (filled : Bool) : Tbl Word128 :=
  let x := s.twdCore c
  if !filled then (List.range 64).foldl (fun (t : Tbl Word128) i => Tbl.set (fun _ => 0) (0x3800 + i) (BitVec.ofNat 128 0x01010101010101010101010101010101) t) []
  else (s.placedSlots c).foldl (fun (t : Tbl Word128) p =>
    (List.range p.2.2).foldl (fun (t : Tbl Word128) i =>
      let slot := p.2.1 + i
      if s.flag F.TWD_PLACE_TBMIS p.1 then
        orFlags ((List.range 8).foldl (fun (t : Tbl Word128) n => putSample t slot n 0) t) slot 1
      else if x.got.contains slot then t else orFlags t slot 1) t) x.bank

/-- Show TBMIS of a core's placements: the sending time base of a bundle receiver is taken as the core's own. -/
def State.showTbmis (s : State) (c : Nat) : State :=
  (s.placedSlots c).foldl (fun (s : State) p =>
    s.setFlag F.TWD_PLACE_TBMIS p.1 (s.placeTb p.1 (s.coreTb c) != s.coreTb c)) s

/-- Start the run of block j. -/
def State.startRun (s : State) (c j : Nat) (filled : Bool) (st : Nat) : State :=
  let s := s.showTbmis c
  let x := s.twdCore c
  let y := { x.start (s.fld F.TWD_CORE_RUN_ENTRY c) (s.inWindow c filled) with bank := [], got := [] }
  ((s.setTwd c y).setReg .TWD_CORE_BLK c (BitVec.ofNat 64 (j % 2 ^ 32))).setFld F.TWD_CORE_STAT_STATE c st

/-- TWEED_RUN_START (R322, R326, R329, R341, Table 08.6): 4 µs after the start of block j + 1 an armed apply takes effect,
and the run of block j starts; `filled`: the input bank was completely filled. -/
def execTweedRunStart (core : Fin 8) (j : Nat) (filled : Bool) (s : State) : Host.Outcome State Fault Refusal :=
  .next (if !s.flag F.TWD_CTRL_EN 0 then s
    else
      let c := core.val
      let at_ := (s.reg .TWD_CORE_AT c).toNat
      let due := s.flag F.TWD_CORE_STAT_ARMED c && decide ((j + 2 ^ 32 - at_) % 2 ^ 32 < 2 ^ 31)
      let wrote := (s.twdCore c).pend.any fun w => w.1 == .TWD_CORE_RUN
      let s := if due then s.twdApply c else s
      let s := if due && j % 2 ^ 32 != at_ then
          ((s.count .TWD_CORE_LATE c 1).setFlag F.TWD_CORE_FLAGS_LATE_APPLY c true).irq Irq.TWD_LATE_APPLY
        else s
      let run := s.flag F.TWD_CORE_RUN_RUN c
      let st := s.fld F.TWD_CORE_STAT_STATE c
      let drop := s.setTwd c { s.twdCore c with bank := [], got := [] }
      if st = twOff then if due && run then s.startRun c j filled twRun else drop
      else if st = twRun then s.startRun c j filled (if due && !run then twDraining else twRun)
      else if st = twTrapped then
        if due && wrote && run then s.startRun c j filled twRun
        else if due && !run then drop.setFld F.TWD_CORE_STAT_STATE c twOff
        else drop.setTwd c { drop.twdCore c with bad := true }
      else drop)

/-- TWEED_RUN_DEADLINE (R318, R327): a run not at eob by its deadline, or one that read an uncorrectable codeword, is
stopped. -/
def execTweedRunDeadline (core : Fin 8) (uncorr : Bool) (s : State) : Host.Outcome State Fault Refusal :=
  let x := s.twdCore core
  .next (if !x.run then s
    else
      let s := s.setTwd core { x.spoil with overrun := true }
      let s := if uncorr then s.event Irq.TWD_MEM_UNCORR core 0 else s
      let s := (s.count .TWD_CORE_OVR core 1).irq Irq.TWD_OVERRUN
      if x.overrun then s else s.awlCause Irq.TWD_OVERRUN false core 0)

/-- Whether every core is OFF: a draining Tweed has stopped (R343). -/
def State.twdIdle (s : State) : State :=
  if s.flag F.TWD_STATUS_DRAINING 0 && (List.range 8).all (fun c => s.fld F.TWD_CORE_STAT_STATE c != twDraining) then
    s.setFlag F.TWD_STATUS_DRAINING 0 false
  else s

/-- Outputs whose follow audio changes at a block boundary change it (R147, R336). -/
def State.followTakes (s : State) : State :=
  s.egr.outs.foldl (fun (s : State) e =>
    match e.2.audioNext with
    | some (src, t) =>
      if t ≤ s.tbNow (s.otdTb (s.fld F.EGR_OUT_CFG_OTD e.1)) then s.setOut e.1 { e.2 with audio := src, audioNext := none } else s
    | none => s) s

/-- TWEED_BLOCK_PRESENT (R326, R327, R336, R343): the OUT bank of the block is presented; `ramps` are the outputs whose
audio changes source at this boundary, with the eight samples of each channel of the old source's last block and of the
new source's first. -/
def execTweedBlockPresent (core : Fin 8) (ramps : List (Fin 128 × List (BitVec 32) × List (BitVec 32))) (s : State) :
    Host.Outcome State Fault Refusal :=
  let x := s.twdCore core
  let ok := x.ended && !x.bad
  let st := s.fld F.TWD_CORE_STAT_STATE core
  let s := s.setTwd core { x with
    out := if ok then x.y.filter fun e => 0x3000 ≤ e.1 else [], outBad := !ok, ended := false, bad := false,
    overrun := x.overrun && !ok }
  let s := if st = twDraining then s.setFld F.TWD_CORE_STAT_STATE core twOff else s
  let s := ramps.foldl (fun (s : State) r => s.emit (.ramp r.1
    (r.2.1.zipIdx.map fun e => rampSample e.1 (7 - e.2 % 8) 8) (r.2.2.zipIdx.map fun e => rampSample e.1 (e.2 % 8 + 1) 8))) s
  .next (s.followTakes.twdIdle)

/-- TWEED_SCRUB (R318, R534): every memory is scrubbed; corrected codewords are counted, and failing rows repaired. -/
def execTweedScrub (corrected : Nat) (rows : List BadRow) (s : State) : Host.Outcome State Fault Refusal :=
  .next (rows.foldl (fun (s : State) b => s.repairRow b) (s.count .TWD_MEM_CORR 0 corrected))

/-- TWEED_CORE_SWAP (R316): a core moves to another physical core at a run start; its outputs do not change. -/
def execTweedCoreSwap (core : Fin 8) (phys : Fin 9) (s : State) : Host.Outcome State Fault Refusal :=
  .next ((s.setFld F.TWD_CORE_STAT_PHYS core phys).unitMoved (17 + core.val) (20 + phys.val) 1)

/-- Stop a core at once (R343). -/
def State.killCore (s : State) (c : Nat) : State :=
  if s.fld F.TWD_CORE_STAT_STATE c = twOff then s
  else
    let x := s.twdCore c
    let s := s.setTwd c { x.spoil with out := [], outBad := true }
    let s := (s.setFlag F.TWD_CORE_FLAGS_KILLED c true).setFld F.TWD_CORE_STAT_STATE c twOff
    s.awlUnstated .TWD (s.reg .TWD_CORE_BLK c).toNat

/-- A write of TWD_CTRL (R343). -/
def State.writeTwdCtrl (s : State) (src : Requester) (v : Word) : State :=
  s.guarded .TWD_CTRL src fun s =>
    let s := s.store .TWD_CTRL 0 (F.TWD_CTRL_KILL.put 0 v)
    if F.TWD_CTRL_EN.on v then (s.setFlag F.TWD_STATUS_RUN 0 true).setFlag F.TWD_STATUS_DRAINING 0 false
    else
      let s := (s.setFlag F.TWD_STATUS_RUN 0 false).setFlag F.TWD_STATUS_DRAINING 0 true
      let s := (List.range 8).foldl (fun (s : State) c =>
        let st := s.fld F.TWD_CORE_STAT_STATE c
        if st = twRun then s.setFld F.TWD_CORE_STAT_STATE c twDraining
        else if st = twTrapped then s.setFld F.TWD_CORE_STAT_STATE c twOff else s) s
      let s := if F.TWD_CTRL_KILL.on v then (List.range 8).foldl (fun (s : State) c => s.killCore c) s else s
      s.twdIdle

/-- TWEED_DISABLE (R343): EN cleared. -/
def execTweedDisable (src : Requester) (s : State) : Host.Outcome State Fault Refusal := .next (s.writeTwdCtrl src 0)

/-- TWEED_KILL (R343): KILL written 1 with EN clear. -/
def execTweedKill (src : Requester) (s : State) : Host.Outcome State Fault Refusal :=
  .next (s.writeTwdCtrl src (F.TWD_CTRL_KILL.put 1 0))

end Sys2Proof.Machine
end

