-- ==== Sys2Proof/Machine/AudioPorts.lean ====
section
/-! DEFINITION. The serial audio ports (chapter 09, R357 to R377). A section is named by its side, `tx`, and its port. -/

namespace Sys2Proof.Machine

/-! ### A section's registers and record -/

/-- The record of a section. -/
def State.sect (s : State) (tx : Bool) (n : Nat) : AspSect := Tbl.get (fun _ => default) s.asp (if tx then n else 16 + n)

/-- Set the record of a section. -/
def State.setSect (s : State) (tx : Bool) (n : Nat) (x : AspSect) : State :=
  { s with asp := Tbl.set (fun _ => default) (if tx then n else 16 + n) x s.asp }

/-- Transmit and receive sections have the same layout (R376): a transmit register's receive counterpart. -/
def aspCfg (tx : Bool) : Reg := if tx then .ASP_TX_CFG else .ASP_RX_CFG
def aspFmt (tx : Bool) : Reg := if tx then .ASP_TX_FMT else .ASP_RX_FMT
def aspMask (tx : Bool) : Reg := if tx then .ASP_TX_MASK else .ASP_RX_MASK
def aspAct (tx : Bool) : Reg := if tx then .ASP_TX_ACT else .ASP_RX_ACT
def aspStat (tx : Bool) : Reg := if tx then .ASP_TX_STAT else .ASP_RX_STAT
def aspFaults (tx : Bool) : Reg := if tx then .ASP_TX_FAULTS else .ASP_RX_FAULTS
def aspSlip (tx : Bool) : Reg := if tx then .ASP_TX_SLIP else .ASP_RX_SLIP
def aspPeriod (tx : Bool) : Reg := if tx then .ASP_TX_PERIOD else .ASP_RX_PERIOD
def aspKilled (tx : Bool) : Reg := if tx then .ASP_TX_KILLED else .ASP_RX_KILLED

/-- The states of Table 09.6. -/
def aspOff : Nat := 0
def aspSync : Nat := 1
def aspStart : Nat := 2
def aspRun : Nat := 3
def aspMuted : Nat := 4
def aspRateStop : Nat := 5
def aspDraining : Nat := 6

/-- STAT.STATE of a section. -/
def State.aspState (s : State) (tx : Bool) (n : Nat) : Nat := s.fld ⟨aspStat tx, 28, 4⟩ n

/-- Enter a state of Table 09.3. -/
def State.setAspState (s : State) (tx : Bool) (n st : Nat) : State := s.setFld ⟨aspStat tx, 28, 4⟩ n st

/-- CFG.MASTER of a section. -/
def State.aspMaster (s : State) (tx : Bool) (n : Nat) : Bool := s.flag ⟨aspCfg tx, 28, 1⟩ n

/-- FMT.RATE: 96 kHz. -/
def State.aspRate (s : State) (tx : Bool) (n : Nat) : Bool := s.flag ⟨aspFmt tx, 29, 1⟩ n

/-- Samples of a section in a Tweed block (R324). -/
def State.aspBlock (s : State) (tx : Bool) (n : Nat) : Nat := if s.aspRate tx n then 16 else 8

/-- Slots of a frame. -/
def State.aspSlots (s : State) (tx : Bool) (n : Nat) : Nat := s.fld ⟨aspFmt tx, 21, 4⟩ n + 1

/-- Whether a slot is in use (R373). -/
def State.aspUsed (s : State) (tx : Bool) (n slot : Nat) : Bool := bit slot (s.reg (aspAct tx) n) && decide (slot < s.aspSlots tx n)

/-- The Tweed channels a section reserves (R331, R363). -/
def aspChannels (rate : Bool) : Nat := if rate then 32 else 16

/-- Show the fill of the elastic buffer: 0 for a master section (Table 09.6). -/
def State.showFill (s : State) (tx : Bool) (n : Nat) : State :=
  s.setFld ⟨aspStat tx, 19, 4⟩ n (if s.aspMaster tx n then 0 else (s.sect tx n).buf.length)

/-- Set a cause, and the section's bit in ASP_INT_SRC. -/
def State.aspIrq (s : State) (tx : Bool) (n : Nat) (c : Irq) : State :=
  (s.setFld ⟨.ASP_INT_SRC, if tx then n else 16 + n, 1⟩ 0 1).irq c

/-- Set a cause and write its Awl record. -/
def State.aspEvent (s : State) (tx : Bool) (n : Nat) (c : Irq) (detail : Nat) : State :=
  (s.aspIrq tx n c).awlCause c false (if tx then n else 16 + n) detail

/-! ### Reservations and checks (R363, R331, R332) -/

/-- Change a section's reservation to `want` channels; none when it would exceed 8,192. -/
def State.aspReserve (s : State) (tx : Bool) (n want : Nat) : Option State :=
  let x := s.sect tx n
  (if tx then s.reserveOut x.held want else s.reserveIn x.held want).map fun s => s.setSect tx n { s.sect tx n with held := want }

/-- Release a section's reservation. -/
def State.aspRelease (s : State) (tx : Bool) (n : Nat) : State :=
  match s.aspReserve tx n 0 with | some s => s | none => s

/-- Whether a transmit section's run is misplaced (R363). -/
def aspMisplaced (base : Nat) (rate : Bool) : Bool := base % 4 != 0 || crossesCore base (aspChannels rate)

/-- The checks of R363, and for a receive section of R331 and R332, with the reservation made. -/
def State.aspChecks (s : State) (tx : Bool) (n : Nat) (cfg : Word) (rate : Bool) : Except Status State :=
  let base := F.ASP_TX_CFG_BASE.of cfg
  if tx && aspMisplaced base rate then .error .BAD_ARG
  else if !tx && F.TWD_PLACE_VALID.on (s.effReg .TWD_PLACE (1152 + n)) &&
      crossesCore (F.TWD_PLACE_BASE.of (s.effReg .TWD_PLACE (1152 + n))) (aspChannels rate) then .error .BAD_ARG
  else if !tx && s.placedTooLong (1152 + n) (aspChannels rate) then .error .REFUSED_POLICY
  else if tx && F.ASP_TX_CFG_TB.of cfg != s.fld F.TWD_CORE_CFG_TB (base / 1024) then .error .REFUSED_POLICY
  else match s.aspReserve tx n (aspChannels rate) with
    | none => .error .NO_ROOM
    | some s => .ok s

/-! ### Starting and stopping (Table 09.3) -/

/-- A record with nothing buffered and no data, holding its reservation. -/
def AspSect.silent (x : AspSect) : AspSect := { (default : AspSect) with held := x.held }

/-- Clocks start, or synchronisation does (Table 09.3). -/
def State.aspBegin (s : State) (tx : Bool) (n : Nat) : State :=
  let x := (s.sect tx n).silent
  if s.aspMaster tx n then (s.setSect tx n { x with lead := s.fld ⟨aspFmt tx, 0, 8⟩ n }).setAspState tx n aspStart
  else (s.setSect tx n x).setAspState tx n aspSync

/-- Whether every section is OFF: a draining block has stopped. -/
def State.aspIdle (s : State) : State :=
  if s.flag F.ASP_STATUS_DRAINING 0 && [true, false].all (fun tx => (List.range 16).all fun n => s.aspState tx n == aspOff) then
    s.setFlag F.ASP_STATUS_DRAINING 0 false
  else s

/-- A section goes OFF: reservations released, pins high impedance, status of the run cleared. -/
def State.aspToOff (s : State) (tx : Bool) (n : Nat) : State :=
  let s := s.aspRelease tx n
  let s := (s.setSect tx n default).setReg (aspStat tx) n (s.reg (aspStat tx) n &&& BitVec.ofNat 64 (2 ^ 24))
  (s.setFlag ⟨aspCfg tx, 31, 1⟩ n false).aspIdle

/-- ENABLE written 0: ramp down over the current block, then TAIL frames of silence. -/
def State.aspDrain (s : State) (tx : Bool) (n : Nat) : State :=
  let x := s.sect tx n
  let x := if x.data then { x with ramp := 2, tail := s.fld ⟨aspFmt tx, 8, 8⟩ n }
    else { x with ramp := 0, tail := s.fld ⟨aspFmt tx, 8, 8⟩ n }
  ((s.setSect tx n x).setFlag ⟨aspCfg tx, 31, 1⟩ n false).setAspState tx n aspDraining

/-- KILL written 1 with ENABLE 0: stop at once. -/
def State.aspStop (s : State) (tx : Bool) (n : Nat) : State :=
  let lost := (s.sect tx n).buf.length
  ((s.aspToOff tx n).setReg (aspKilled tx) n (BitVec.ofNat 64 lost)).aspEvent tx n Irq.ASP_KILLED lost

/-- Re-arm a section in RATE_STOP (R372). -/
def State.aspRearm (s : State) (tx : Bool) (n : Nat) (rate : Bool) : State :=
  match s.aspChecks tx n (s.reg (aspCfg tx) n) rate with
  | .error st => (s.setFld ⟨aspStat tx, 0, 16⟩ n st.code).answer st
  | .ok s =>
    let s := (s.setFlag ⟨aspFmt tx, 29, 1⟩ n rate).setFld ⟨aspStat tx, 0, 16⟩ n 0
    let x := (s.sect tx n).silent
    ((s.setSect tx n x).setAspState tx n aspSync).answer .OK

/-- The CFG bits that are written only in OFF: MASTER, HIZ or CLK_TX, TB and BASE. -/
def aspFixed (tx : Bool) : Word := if tx then 0x17001FFF else 0x17000000

/-- A write of a section's CFG (R363, R372, Table 09.3). -/
def State.writeAspCfg (s : State) (src : Requester) (tx : Bool) (n : Nat) (v : Word) : State :=
  s.guarded (aspCfg tx) src fun s =>
    let st := s.aspState tx n
    let en := F.ASP_TX_CFG_ENABLE.on v
    let kill := F.ASP_TX_CFG_KILL.on v && !en
    let arm := F.ASP_TX_CFG_ARM.on v
    let old := s.reg (aspCfg tx) n
    if kill && st != aspOff then (s.aspStop tx n).answer .OK
    else if st = aspDraining then s.refuse .DRAINING
    else if arm && st != aspRateStop then s.refuse .REFUSED_POLICY
    else if st != aspOff && (old ^^^ v) &&& aspFixed tx != 0 then s.refuse .BUSY
    else if st = aspOff then
      if tx && aspMisplaced (F.ASP_TX_CFG_BASE.of v) (s.aspRate tx n) then s.refuse .BAD_ARG
      else if !en then s.store (aspCfg tx) n v
      else if !s.flag F.ASP_CTRL_EN 0 then s.refuse .NOT_READY
      else match s.aspChecks tx n v (s.aspRate tx n) with
        | .error st => s.refuse st
        | .ok s => (s.store (aspCfg tx) n v).aspBegin tx n
    else
      let s := s.store (aspCfg tx) n v
      if !en then s.aspDrain tx n
      else if arm then s.aspRearm tx n (s.aspRate tx n) else s

/-- The word bits of a WIDTH or WORD code; none for 3 (Table 09.6). -/
def aspBits (code : Nat) : Option Nat := match code with | 0 => some 16 | 1 => some 24 | 2 => some 32 | _ => none

/-- Whether a FMT word breaks R362 or Table 09.6. -/
def badAspFmt (v : Word) : Bool :=
  let mode := F.ASP_TX_FMT_MODE.of v
  match aspBits (F.ASP_TX_FMT_WIDTH.of v), aspBits (F.ASP_TX_FMT_WORD.of v) with
  | some w, some d =>
    decide (w < d) || mode == 3 || (decide (mode < 2) && F.ASP_TX_FMT_SLOTS.of v != 1) ||
      (mode != 2 && (F.ASP_TX_FMT_DELAY.on v || F.ASP_TX_FMT_FSYNC.on v))
  | _, _ => true

/-- A write of a section's FMT (R362, R375). -/
def State.writeAspFmt (s : State) (src : Requester) (tx : Bool) (n : Nat) (v : Word) : State :=
  s.guarded (aspFmt tx) src fun s =>
    let st := s.aspState tx n
    let onlyRate := (s.reg (aspFmt tx) n ^^^ v) &&& BitVec.ofNat 64 (aspFmt tx).info.mask &&& ~~~(BitVec.ofNat 64 (2 ^ 29)) == 0
    if st = aspDraining then s.refuse .DRAINING
    else if st != aspOff && !(st == aspRateStop && onlyRate) then s.refuse .BUSY
    else if badAspFmt v then s.refuse .BAD_ARG
    else if !tx && st == aspOff && !s.aspRate tx n && F.ASP_TX_FMT_RATE.on v && s.placedTooLong (1152 + n) 32 then
      s.refuse .REFUSED_POLICY
    else s.store (aspFmt tx) n v

/-- A write of a section's slot mask goes to its shadow (R373). -/
def State.writeAspMask (s : State) (src : Requester) (tx : Bool) (n : Nat) (v : Word) : State :=
  s.guarded (aspMask tx) src fun s =>
    if s.aspState tx n = aspDraining then s.refuse .DRAINING
    else (s.store (aspMask tx) n v).setFlag ⟨aspStat tx, 24, 1⟩ n true

/-- Apply a change to every section that is not OFF. -/
def State.eachSect (s : State) (f : State → Bool → Nat → State) : State :=
  [true, false].foldl (fun (s : State) tx => (List.range 16).foldl (fun (s : State) n =>
    if s.aspState tx n = aspOff then s else f s tx n) s) s

/-- A write of ASP_CTRL: clearing EN drains every section, and KILL with EN clear kills them. -/
def State.writeAspCtrl (s : State) (src : Requester) (v : Word) : State :=
  s.guarded .ASP_CTRL src fun s =>
    let s := s.store .ASP_CTRL 0 (F.ASP_CTRL_KILL.put 0 v)
    if F.ASP_CTRL_EN.on v then (s.setFlag F.ASP_STATUS_RUN 0 true).setFlag F.ASP_STATUS_DRAINING 0 false
    else
      let s := (s.setFlag F.ASP_STATUS_RUN 0 false).setFlag F.ASP_STATUS_DRAINING 0 true
      let s := if F.ASP_CTRL_KILL.on v then s.eachSect State.aspStop
        else s.eachSect fun s tx n => if s.aspState tx n = aspDraining then s else s.aspDrain tx n
      s.aspIdle

/-- ASP_ENABLE (R363, R375): CFG written with ENABLE 1. -/
def execAspEnable (src : Requester) (tx : Bool) (n : Fin 16) (w : Word32) (s : State) : Host.Outcome State Fault Refusal :=
  .next (s.writeAspCfg src tx n (F.ASP_TX_CFG_ENABLE.put 1 (w.setWidth 64)))

/-- ASP_DISABLE (R375): CFG written with ENABLE 0, its other fields as they stand. -/
def execAspDisable (src : Requester) (tx : Bool) (n : Fin 16) (s : State) : Host.Outcome State Fault Refusal :=
  .next (s.writeAspCfg src tx n (F.ASP_TX_CFG_ENABLE.put 0 (s.reg (aspCfg tx) n)))

/-- ASP_KILL (R375): KILL written 1 with ENABLE 0. -/
def execAspKill (src : Requester) (tx : Bool) (n : Fin 16) (s : State) : Host.Outcome State Fault Refusal :=
  .next (s.writeAspCfg src tx n (F.ASP_TX_CFG_KILL.put 1 (F.ASP_TX_CFG_ENABLE.put 0 (s.reg (aspCfg tx) n))))

/-- ASP_ARM (R372): ARM written 1, the other fields as they stand. -/
def execAspArm (src : Requester) (tx : Bool) (n : Fin 16) (s : State) : Host.Outcome State Fault Refusal :=
  .next (s.writeAspCfg src tx n (F.ASP_TX_CFG_ARM.put 1 (s.reg (aspCfg tx) n)))

/-- ASP_MASK_WRITE (R373). -/
def execAspMaskWrite (src : Requester) (tx : Bool) (n : Fin 16) (w : Word32) (s : State) : Host.Outcome State Fault Refusal :=
  .next (s.writeAspMask src tx n (w.setWidth 64))

/-! ### Frames and the elastic buffer (R361, R365 to R367, R373, R374) -/

/-- The block changes at a sample instant with position 0: ramps end or begin (R366, R374). -/
def AspSect.newBlock (x : AspSect) : AspSect :=
  { x with
    data := x.data && x.ramp != 2, ramp := if x.ramp = 3 then 1 else 0, rampSlots := x.entered, entered := 0 }

/-- At a sample instant of position p in its block. -/
def AspSect.at_ (x : AspSect) (p : Nat) : AspSect := if p = 0 then x.newBlock else x

/-- A sample as a transmit section takes it at position p (R366, R374). -/
def AspSect.scaled (x : AspSect) (slot p d : Nat) (v : BitVec 32) : BitVec 32 :=
  if !x.data || x.entered.getLsbD slot then 0
  else if x.ramp = 2 then rampSample v (d - 1 - p) d
  else if x.ramp = 1 ∨ x.ramp = 3 ∨ x.rampSlots.getLsbD slot = true then rampSample v (p + 1) d
  else v

/-- The output word of slot `slot` at position p (R319, R363). -/
def State.aspWord (s : State) (n slot p : Nat) : BitVec 32 :=
  let base := s.fld F.ASP_TX_CFG_BASE n
  let ch := if s.aspRate true n then base + 2 * slot + p / 8 else base + slot
  let x := s.twdCore (ch / 1024)
  Machine.lane (Tbl.get (fun _ => 0) x.out (slotWord (ch % 1024) (p % 8))) (ch % 1024 % 4)

/-- The core's time base differs from a transmit section's (R364). -/
def State.aspTbmis (s : State) (n : Nat) : Bool :=
  s.fld F.ASP_TX_CFG_TB n != s.fld F.TWD_CORE_CFG_TB (s.fld F.ASP_TX_CFG_BASE n / 1024)

/-- A transmit frame taken from Tweed at position p: its slots' words, 0 outside data and in slots not in use. -/
def State.aspTake (s : State) (n p : Nat) : List (BitVec 32) :=
  let x := s.sect true n
  (List.range (s.aspSlots true n)).map fun k =>
    if s.aspUsed true n k then x.scaled k p (s.aspBlock true n) (s.aspWord n k p) else 0

/-- A slip: counted, and on receive flagged in every placed slot (R365). -/
def State.aspSlipped (s : State) (tx : Bool) (n : Nat) : State :=
  let s := (s.count (aspSlip tx) n 1).aspIrq tx n Irq.ASP_SLIP
  let v := s.reg .TWD_PLACE (1152 + n)
  if tx || !F.TWD_PLACE_VALID.on v then s
  else
    let b := F.TWD_PLACE_BASE.of v
    let x := s.twdCore (b / 1024)
    let bank := (List.range (s.placeLen (1152 + n))).foldl (fun (t : Tbl Word128) i => orFlags t (b % 1024 + i) 2) x.bank
    s.setTwd (b / 1024) { x with bank := bank }

/-- A frame enters the elastic buffer: beyond 7 frames the oldest is dropped (R365). -/
def State.aspPush (s : State) (tx : Bool) (n : Nat) (f : List (BitVec 32)) : State :=
  let x := s.sect tx n
  let b := x.buf ++ [f]
  if 7 < b.length then (s.setSect tx n { x with buf := b.drop 1 }).aspSlipped tx n
  else s.setSect tx n { x with buf := b, filling := x.filling && decide (b.length < 4) }

/-- A frame leaves the elastic buffer: when the fill would fall below 1 the last frame repeats (R365). -/
def State.aspPull (s : State) (tx : Bool) (n : Nat) : State :=
  let x := s.sect tx n
  if x.filling then s
  else match x.buf with
    | f :: g :: r => s.setSect tx n { x with buf := g :: r, last := f }
    | _ => s.aspSlipped tx n

/-- The shadow mask replaces the active mask; slots that enter it carry silence to the end of the block (R373, R374). -/
def State.aspApplyMask (s : State) (tx : Bool) (n : Nat) : State :=
  let new := s.reg (aspMask tx) n
  let old := s.reg (aspAct tx) n
  let x := s.sect tx n
  let came := BitVec.ofNat 16 (new &&& ~~~old).toNat
  let s := s.setSect tx n { x with entered := x.entered ||| came, rampSlots := x.rampSlots &&& ~~~came }
  (s.setReg (aspAct tx) n new).setFlag ⟨aspStat tx, 24, 1⟩ n false

/-- The bits of a word that a transmit section sends: its WORD most significant bits. -/
def aspTruncate (bits_ : Nat) (v : BitVec 32) : BitVec 32 := (v >>> (32 - bits_)) <<< (32 - bits_)

/-- Send a frame: WORD bits of each slot in use; the others 0, or high impedance with HIZ set (R361, R374). -/
def State.aspSend (s : State) (n : Nat) (f : List (BitVec 32)) : State :=
  let w := (aspBits (s.fld F.ASP_TX_FMT_WORD n)).getD 32
  let hiz := s.flag F.ASP_TX_CFG_HIZ n
  s.emit (.aspFrame n ((List.range (s.aspSlots true n)).map fun k =>
    if s.aspUsed true n k then some (aspTruncate w (f.getD k 0)) else if hiz then none else some 0))

/-- Frames of LEAD and TAIL pass (R367). -/
def State.aspCount (s : State) (tx : Bool) (n : Nat) : State :=
  let x := s.sect tx n
  let st := s.aspState tx n
  if st = aspStart then s.setSect tx n { x with lead := x.lead - 1 }
  else if st = aspDraining && !x.data then s.setSect tx n { x with tail := x.tail - 1 } else s

/-- A transmit frame starts: `ps` are the positions in their blocks of the output instants since the last frame start,
a master's own instant last. -/
def State.aspTxFrame (s : State) (n : Nat) (ps : List (Fin 16)) : State :=
  let bad := s.aspTbmis n
  let s := if bad && !s.flag F.ASP_TX_STAT_TBMIS n then (s.setFlag F.ASP_TX_STAT_TBMIS n true).aspIrq true n Irq.ASP_TBMIS
    else s.setFlag F.ASP_TX_STAT_TBMIS n bad
  let muted := s.aspState true n == aspMuted || s.aspState true n == aspSync
  if s.aspMaster true n then
    let s := ps.foldl (fun (s : State) p => s.setSect true n ((s.sect true n).at_ p)) s
    let s := s.aspApplyMask true n
    let f := match ps.getLast? with | some p => s.aspTake n p | none => []
    (s.aspSend n (if muted || bad then [] else f)).aspCount true n
  else
    let s := ps.foldl (fun (s : State) p =>
      let s := s.setSect true n ((s.sect true n).at_ p)
      if muted then s else s.aspPush true n (s.aspTake n p)) s
    let s := s.aspApplyMask true n
    let s := if muted then s else s.aspPull true n
    let x := s.sect true n
    ((s.aspSend n (if muted || bad || x.filling then [] else x.last)).aspCount true n).showFill true n

/-- A receive frame starts: `f` is the complete frame before it, and `ps` the positions of the sample instants since the
last frame start. -/
def State.aspRxFrame (s : State) (n : Nat) (f : List (BitVec 32)) (ps : List (Fin 16)) : State :=
  let muted := s.aspState false n == aspMuted || s.aspState false n == aspSync
  let master := s.aspMaster false n
  let s := ps.foldl (fun (s : State) p =>
    let s := s.setSect false n ((s.sect false n).at_ p)
    if muted || master then s else s.aspPull false n) s
  let s := s.aspApplyMask false n
  let s := if muted || master then s.setSect false n { s.sect false n with last := f } else s.aspPush false n f
  (s.aspCount false n).showFill false n

/-- ASP_FRAME_START (R361, R363 to R367, R373, R374): a section's frame starts; `period` is the measured frame period in
units of 10 ps, `frame` a receive section's last complete frame, `instants` the positions in their Tweed blocks of the
sample instants since the last frame start. -/
def execAspFrameStart (tx : Bool) (n : Fin 16) (period : BitVec 24) (frame : List (BitVec 32)) (instants : List (Fin 16)) (s : State) :
    Host.Outcome State Fault Refusal :=
  let st := s.aspState tx n
  .next (if st = aspOff ∨ st = aspRateStop then s
    else
      let s := s.setReg (aspPeriod tx) n (period.setWidth 64)
      if tx then s.aspTxFrame n instants else s.aspRxFrame n frame instants)

/-! ### Clock monitoring (R368 to R372) -/

/-- A clock fault (R369): the section mutes at once; while it is muted further faults are counted only. -/
def State.aspFault (s : State) (tx : Bool) (n code : Nat) : State :=
  let st := s.aspState tx n
  if st = aspMuted then s.count (aspFaults tx) n 1
  else if st = aspSync ∨ st = aspStart ∨ st = aspRun then
    let s := (s.setSect tx n (s.sect tx n).silent).setAspState tx n aspMuted
    let s := (s.setFld ⟨aspStat tx, 16, 3⟩ n code).count (aspFaults tx) n 1
    ((s.setFld ⟨aspStat tx, 25, 3⟩ n 0).aspEvent tx n Irq.ASP_CLK_FAULT code).showFill tx n
  else s

/-- ASP_BCK_MISSING (R368, R369): a slave section sees no BCK edge for 2 nominal periods. -/
def execAspBckMissing (tx : Bool) (n : Fin 16) (s : State) : Host.Outcome State Fault Refusal :=
  .next (if s.aspMaster tx n then s else s.aspFault tx n 1)

/-- ASP_WS_MISSING (R368, R369): a slave section sees no frame start for 2 nominal periods. -/
def execAspWsMissing (tx : Bool) (n : Fin 16) (s : State) : Host.Outcome State Fault Refusal :=
  .next (if s.aspMaster tx n then s else s.aspFault tx n 2)

/-- The clock faults that are not a missing edge (R368). -/
def AspFault.code : AspFault → Nat
  | .period => 3 | .count => 4 | .source => 5

/-- ASP_CLOCK_FAULT (R368, R369): PERIOD and COUNT on a slave section, SOURCE on a master. -/
def execAspClockFault (tx : Bool) (n : Fin 16) (f : AspFault) (s : State) : Host.Outcome State Fault Refusal :=
  .next (if s.aspMaster tx n == (f == .source) then s.aspFault tx n f.code else s)

/-- ASP_RESYNC (R370, Table 09.3): 64 fault-free word periods. A section in SYNC fills its buffer and enters START; a muted
one fills its buffer and enters RUN, where its data resumes at a block boundary. -/
def execAspResync (tx : Bool) (n : Fin 16) (s : State) : Host.Outcome State Fault Refusal :=
  let st := s.aspState tx n
  let x := { (s.sect tx n).silent with filling := !s.aspMaster tx n }
  .next (if st = aspSync then
      (s.setSect tx n { x with lead := s.fld ⟨aspFmt tx, 0, 8⟩ n }).setAspState tx n aspStart
    else if st = aspMuted then
      ((s.setSect tx n x).setAspState tx n aspRun).aspEvent tx n Irq.ASP_RESYNC 0
    else s)

/-- ASP_RATE_CHANGE (R371, R372): a muted slave section sees another standard rate, by its RATE_SEEN code. -/
def execAspRateChange (tx : Bool) (n : Fin 16) (rate : Fin 8) (s : State) : Host.Outcome State Fault Refusal :=
  let own := if s.aspRate tx n then 5 else 3
  .next (if s.aspState tx n = aspMuted && !s.aspMaster tx n && rate.val != 0 && rate.val != own then
      let s := ((s.setAspState tx n aspRateStop).setFld ⟨aspStat tx, 25, 3⟩ n rate).aspEvent tx n Irq.ASP_RATE_CHG rate
      if s.flag ⟨aspCfg tx, 27, 1⟩ n && (rate.val == 3 || rate.val == 5) then s.aspRearm tx n (rate.val == 5) else s
    else s)

/-- ASP_DATA_START (R366, R370, Table 09.3): a block boundary is reached with the LEAD frames complete and the elastic buffer
full; data begins there, ramped. -/
def execAspDataStart (tx : Bool) (n : Fin 16) (s : State) : Host.Outcome State Fault Refusal :=
  let x := s.sect tx n
  let st := s.aspState tx n
  .next (if !x.data && !x.filling && ((st == aspStart && x.lead == 0) || st == aspRun) then
      (s.setSect tx n { x with data := true, ramp := 3 }).setAspState tx n aspRun
    else s)

/-- ASP_TAIL_DONE (Table 09.3): the TAIL frames of a draining section, or a receive section's current frame, are complete. -/
def execAspTailDone (tx : Bool) (n : Fin 16) (s : State) : Host.Outcome State Fault Refusal :=
  let x := s.sect tx n
  .next (if s.aspState tx n = aspDraining && !x.data && (!tx || x.tail == 0) then s.aspToOff tx n else s)

end Sys2Proof.Machine
end

