-- ==== Sys2Proof/Machine/Last.lean ====
section
/-! DEFINITION. Last: references, selection, slews, holdover and clocks (chapter 11, R406 to R440). -/

namespace Sys2Proof.Machine

/-! ### Numbers in registers -/

/-- A signed field of n bits of element i of a register. -/
def State.signedFld (s : State) (f : Fld) (i : Nat) : Int := signedOf f.len (s.fld f i)

/-- Set a signed field, clamped to its width. -/
def State.setSigned (s : State) (f : Fld) (i : Nat) (v : Int) : State := s.setFld f i (unsignedOf f.len (clampSigned f.len v))

/-- The square root of a number below 2^128, rounded down. -/
def isqrt (n : Nat) : Nat :=
  (List.range 64).foldl (fun r i => let c := r + 2 ^ (63 - i); if c * c ≤ n then c else r) 0

/-- Seconds of Insole ticks. -/
def tickSeconds (t : Nat) : Nat := t / 32768

/-! ### States, tags and the selection shown -/

/-- The states of Table 11.8. -/
def lstFreerun : Nat := 0
def lstAcquire : Nat := 1
def lstLocked : Nat := 2
def lstHoldover : Nat := 3
def lstLost : Nat := 4
def lstOpen : Nat := 5

/-- LST_STATUS.STATE and SELECTED; 15 is no selection. -/
def State.lstState (s : State) : Nat := s.fld F.LST_STATUS_STATE 0
def State.lstSel (s : State) : Nat := s.fld F.LST_STATUS_SELECTED 0

/-- Set Last's record. -/
def State.setLst (s : State) (x : Lst) : State := { s with lst := x }

/-- Whether a reference is valid, and qualified. -/
def State.refValid (s : State) (r : Nat) : Bool := s.flag F.LST_REF_STAT_VALID r
def State.refQual (s : State) (r : Nat) : Bool := s.flag F.LST_REF_STAT_QUALIFIED r

/-- Whether a reference is Lace-recovered. -/
def laceRef (r : Nat) : Bool := decide (12 ≤ r ∧ r < 14)

/-- This part's Lace tag (R412). -/
def State.showTag (s : State) : State :=
  let st := s.lstState
  let sel := s.lstSel
  let lace := st == lstLocked && laceRef sel
  let depth := if lace then min 15 (s.fld F.LST_REF_PEER_DEPTH sel + 1) else if st = lstLocked then 0 else 15
  let root := if lace && depth != 15 then s.fld F.LST_REF_PEER_ROOT sel else s.domainId
  s.setReg .LST_TAG 0 (BitVec.ofNat 64 (st * 2 ^ 29 + depth * 2 ^ 16 + root % 1024))

/-- Enter a state of Table 11.5: STATE_CHG and an Awl record at every change. -/
def State.enterLst (s : State) (st : Nat) : State :=
  if s.lstState = st then s.showTag
  else
    let s := ((s.setFld F.LST_STATUS_STATE 0 st).irq Irq.LST_STATE_CHG).awlState .LST
      (if st = lstLost then .error else if st = lstHoldover ∨ st = lstFreerun then .warning else .info) st 0 0
    let s := if st = lstHoldover then s.irq Irq.LST_HOLDOVER else s
    let s := if st = lstHoldover ∨ st = lstFreerun ∨ st = lstOpen then s.setLst { s.lst with histFrom := 0 } else s
    s.showTag

/-- Show the selection: SELECTED, LST_REF_STAT.SELECTED and NTM_SRV_STAT.SELECTED; each change counts (R416, R461). -/
def State.showSel (s : State) (r : Nat) : State :=
  let old := s.lstSel
  if old = r then s
  else
    let s := if old < 14 then s.setFlag F.LST_REF_STAT_SELECTED old false else s
    let s := if 6 ≤ old ∧ old < 10 then s.setFlag F.NTM_SRV_STAT_SELECTED (old - 6) false else s
    let s := if r < 14 then s.setFlag F.LST_REF_STAT_SELECTED r true else s
    let s := if 6 ≤ r ∧ r < 10 then s.setFlag F.NTM_SRV_STAT_SELECTED (r - 6) true else s
    ((s.setFld F.LST_STATUS_SELECTED 0 r).count .LST_SWITCHES 0 1).irq Irq.LST_SWITCH

/-! ### Lane clocks (R431) -/

/-- Whether a synthesiser's time base feeds an enabled domain. -/
def State.tbFeeds (s : State) (k : Nat) : Bool := (List.range 8).any fun d => s.otdEnabled d && s.otdTb d == k

/-- Show the synthesisers' locks, the audio clocks they qualify, and the qualification of the lane clocks; a master audio
section on an unqualified audio clock has a SOURCE fault. -/
def State.laneQual (s : State) (synths : BitVec 5) : State :=
  let s := [0, 1, 2, 3].foldl (fun (s : State) k =>
    let up := synths.getLsbD k
    let s := (s.setFlag F.LST_TB_STAT_SYNTH k up).setFlag F.LST_TB_STAT_AUDIO k up
    if up then s
    else s.eachSect fun s tx n =>
      if s.aspMaster tx n && s.fld ⟨aspCfg tx, 24, 2⟩ n == k && s.aspState tx n != aspMuted then s.aspFault tx n 5 else s) s
  let ok := synths.getLsbD 4 && [0, 1, 2, 3].all (fun k => !s.tbFeeds k || synths.getLsbD k) &&
    (s.lstSel != 15 || s.flag F.LST_STATUS_OSC_OK 0)
  let was := s.flag F.LST_STATUS_LANE_QUAL 0
  let s := s.setFlag F.LST_STATUS_LANE_QUAL 0 ok
  if was == ok then s else if ok then s.health else (s.irq Irq.LST_LANE_UNQUAL).health

/-- LANE_CLOCK_UNQUAL (R431): a synthesiser loses lock, or OSC_HOLD is invalid with no reference selected. -/
def execLaneClockUnqual (synths : BitVec 5) (s : State) : Host.Outcome State Fault Refusal := .next (s.laneQual synths)

/-! ### The ageing model (R432 to R435) -/

/-- A fit at an hour: c0 and c1 as numerators over the common denominator, the denominator, and the mean square residual,
in 10⁻¹⁸ and 10⁻¹⁸ per hour. -/
def ageFit (l : List AgeRec) (hour : Nat) : Int × Int × Int × Nat :=
  let pts := (l.filter fun a => decide (hour ≤ a.hour + 720)).map fun (a : AgeRec) => ((a.hour : Int) - (hour : Int), a.offset)
  let n : Int := pts.length
  let st := pts.foldl (fun (a : Int) e => a + e.1) 0
  let sx := pts.foldl (fun (a : Int) e => a + e.2) 0
  let stt := pts.foldl (fun (a : Int) e => a + e.1 * e.1) 0
  let stx := pts.foldl (fun (a : Int) e => a + e.1 * e.2) 0
  let sxx := pts.foldl (fun (a : Int) e => a + e.2 * e.2) 0
  let d := n * stt - st * st
  if d ≤ 0 then (sx, 0, max 1 n, 0)
  else
    let c0 := sx * stt - st * stx
    let c1 := n * stx - st * sx
    (c0, c1, d, ((sxx * d - c0 * sx - c1 * stx) / (n * d)).toNat)

/-- Operating hours (INS_OPSEC). -/
def State.opHours (s : State) : Nat := (s.reg .INS_OPSEC 0).toNat / 3600

/-- Refit after a record: the model exists once 72 records are held (R434). -/
def State.refit (s : State) : State :=
  if s.lst.ages.length < 72 then s.setLst { s.lst with model := false }
  else
    let f := ageFit s.lst.ages s.opHours
    let s := s.setSigned F.LST_AGE_C0 0 (f.1 / (f.2.2.1 * 1000000))
    let s := s.setSigned F.LST_AGE_C1 0 (f.2.1 * 24 / (f.2.2.1 * 1000000))
    let s := s.setFld F.LST_AGE_SIGMA 0 (satTo 16 (isqrt f.2.2.2 / 10000000))
    (s.setLst { s.lst with model := true }).setFlag F.LST_STATUS_MODEL_RESET 0 false

/-- AGEING_RECORD (R432 to R434): a whole hour in LOCKED outside a slew, with its mean OSC_HOLD offset in 10⁻¹⁸; none in
the first 24 h after a cold start. -/
def execAgeingRecord (offset : Int) (s : State) : Host.Outcome State Fault Refusal :=
  .next (if s.lstState ≠ lstLocked ∨ s.flag F.LST_STATUS_SLEWING 0 = true ∨ tickSeconds s.tick < 86400 then s
    else
      let f := ageFit s.lst.ages s.opHours
      let off := s.lst.model && decide (20000000000 < (offset - f.1 / f.2.2.1).natAbs)
      let rec_ : AgeRec := ⟨s.opHours, offset, s.lstSel⟩
      let s := if off then
          ((s.setLst { s.lst with ages := [rec_], model := false }).setFlag F.LST_STATUS_MODEL_RESET 0 true).awlUnstated .LST 0
        else s.setLst { s.lst with ages := (rec_ :: s.lst.ages).take 2160 }
      s.refit)

/-- The slope and residual of the model in 0.001 ppb per day and 0.01 ppb; 0 without a model (R426). -/
def State.ageC1 (s : State) : Int := if s.lst.model then s.signedFld F.LST_AGE_C1 0 else 0
def State.ageSigma (s : State) : Nat := if s.lst.model then s.fld F.LST_AGE_SIGMA 0 else 0

/-- u0 of R426 by HOLD_SRC, in 0.001 ppb. -/
def holdU0 (src : Nat) : Nat := match src with | 0 => 500 | 1 => 2000 | 2 => 10000 | _ => 0

/-- Predicted hours from the start of holdover to LOST (R426): TMAX, or when u(t) reaches FLIMIT. -/
def State.lostHours (s : State) : Nat :=
  let slope := max s.ageC1.natAbs 50
  let room := s.fld F.LST_HOLD_LIM_FLIMIT 0 * 1000 - (holdU0 (s.fld F.LST_STATUS_HOLD_SRC 0) + 20 * s.ageSigma)
  min (s.fld F.LST_HOLD_LIM_TMAX 0) (room * 24 / slope)

/-- Show the minutes in holdover and the predicted hours that remain. -/
def State.showHold (s : State) : State :=
  if s.lstState = lstHoldover ∨ s.lstState = lstLost then
    let sec := tickSeconds (s.tick - s.lst.holdFrom)
    (s.setFld F.LST_HOLD_STAT_MINUTES 0 (satTo 16 (sec / 60))).setFld F.LST_HOLD_STAT_HOURS 0 (satTo 16 (s.lostHours - sec / 3600))
  else s

/-- AGEING_REPLAN (R435): the predictions are recomputed once a day. -/
def execAgeingReplan (s : State) : Host.Outcome State Fault Refusal :=
  .next (
    let s := s.showHold
    let pred := if s.lst.model then (s.signedFld F.LST_AGE_C0 0 + 365 * s.ageC1) / 10 else 0
    let s := s.setReg .LST_AGE_PRED 0 (BitVec.ofNat 64 (unsignedOf 32 (clampSigned 32 pred)))
    if 200000 < pred.natAbs ∨ 5000 < s.ageC1.natAbs then
      ((s.setFlag F.LST_STATUS_AGE_WARN 0 true).irq Irq.LST_AGE_WARN).awlCause Irq.LST_AGE_WARN false 0 0
    else s)

/-! ### Losing references and holding over (R411, R419, R423, R425 to R427) -/

/-- A reference becomes invalid (R411, R414): its qualification goes with it. -/
def State.refLost (s : State) (r fault : Nat) : State :=
  if !s.refValid r then s
  else
    let s := (s.setFlag F.LST_REF_STAT_VALID r false).setFlag F.LST_REF_STAT_QUALIFIED r false
    let s := (s.setFld F.LST_REF_STAT_WTR_LEFT r 0).setFld F.LST_REF_STAT_FAULT r fault
    let s := (s.setFld ⟨.LST_VALID, r, 1⟩ 0 0).setFld ⟨.LST_QUAL, r, 1⟩ 0 0
    let s := (s.count .LST_REF_LOSS r 1).irq Irq.LST_REF_LOSS
    if s.flag F.LST_STATUS_SLEWING 0 && s.lstSel == r then s.setLst { s.lst with slewEnd := true } else s

/-- REF_LOSS_DETECT (R411, Table 11.2): a reference fails a check, by the FAULT code of R411. -/
def execRefLossDetect (r : Fin 14) (fault : Fin 8) (s : State) : Host.Outcome State Fault Refusal := .next (s.refLost r fault)

/-- Whether a peer's tag lets a Lace reference be valid (R412). -/
def State.tagGood (s : State) (r : Nat) : Bool :=
  s.fld F.LST_REF_PEER_STATE r == lstLocked && decide (s.fld F.LST_REF_PEER_DEPTH r ≤ 6) && s.fld F.LST_REF_PEER_ROOT r != s.domainId

/-- Whether a PTP reference's servo is LOCKED. -/
def State.servoLocked (s : State) (k : Nat) : Bool := s.fld F.NTM_SRV_STAT_STATE k == 3

/-- REF_VALID (R411, R412, R414): a reference with a rank passes its checks, and its wait starts. -/
def execRefValid (r : Fin 14) (s : State) : Host.Outcome State Fault Refusal :=
  .next (if s.fld F.LST_REF_CFG_RANK r = 0 ∨ s.refValid r = true then s
    else if laceRef r && !s.tagGood r then s
    else if 6 ≤ r.val ∧ r.val < 10 ∧ s.servoLocked (r - 6) = false then s
    else
      let wait := if s.lst.firstUsed then s.fld F.LST_REF_WTR_WTR r else s.fld F.LST_CFG_FIRST_QUAL 0
      let s := (s.setFlag F.LST_REF_STAT_VALID r true).setFld F.LST_REF_STAT_WTR_LEFT r wait
      (s.setFld ⟨.LST_VALID, r, 1⟩ 0 1).setLst { s.lst with firstUsed := true })

/-- REF_QUALIFY (R414): a valid reference's wait is over. -/
def execRefQualify (r : Fin 14) (s : State) : Host.Outcome State Fault Refusal :=
  .next (if s.refValid r then
      ((s.setFlag F.LST_REF_STAT_QUALIFIED r true).setFld F.LST_REF_STAT_WTR_LEFT r 0).setFld ⟨.LST_QUAL, r, 1⟩ 0 1
    else s)

/-- The tag in a link-control cell of link k (R412): a Lace reference on it whose tag is refused becomes invalid. -/
def State.takeTag (s : State) (k : Nat) (tag : Word) : State :=
  [12, 13].foldl (fun (s : State) r =>
    if s.fld F.LST_REF_CFG_ARG r ≠ k ∨ s.fld F.LST_REF_CFG_RANK r = 0 then s
    else
      let s := s.setReg .LST_REF_PEER r (low32 tag)
      let s := if s.fld F.LST_REF_PEER_ROOT r = s.domainId then s.irq Irq.LST_LACE_LOOP else s
      (if s.tagGood r then s else s.refLost r 4).showTag) s

/-- Seconds of locked history (R423, R424). -/
def State.history (s : State) : Nat := if s.lst.histFrom = 0 then 0 else tickSeconds (s.tick + 1 - s.lst.histFrom)

/-- HOLD_SRC as R423 chooses it; 4 is NONE. No holdover is possible while OSC_HOLD is failed (R430). -/
def State.holdSrc (s : State) : Nat :=
  let guard := s.fld F.LST_HOLD_CFG_GUARD 0
  if !s.flag F.LST_STATUS_OSC_OK 0 then 4
  else if guard + s.fld F.LST_HOLD_CFG_WINDOW 0 ≤ s.history then 0
  else if guard + 100 ≤ s.history then 1
  else if s.lst.model then 2 else 4

/-- Set the master frequency. -/
def State.setFreq (s : State) (f : Int) : State := s.setReg .LST_FREQ 0 (BitVec.ofInt 64 f)

/-- No qualified reference is left (R419, R423, R425): hold the frequency, or run free. -/
def State.holdOver (s : State) (mean : Int) : State :=
  let src := s.holdSrc
  let s := (s.showSel 15).setFld F.LST_STATUS_HOLD_SRC 0 src
  if src = 4 then (s.setFreq 0).enterLst lstFreerun
  else
    let f := if src = 2 then -(s.signedFld F.LST_AGE_C0 0 * 1000000) else mean
    let s := (s.setFreq f).setReg .LST_HOLD_FREQ 0 (BitVec.ofInt 64 f)
    ((s.setLst { s.lst with holdFrom := s.tick }).enterLst lstHoldover).showHold

/-- HOLDOVER_LOST (R426, R427): TMAX or FLIMIT is passed; every clock and the frequency stay. -/
def State.toLost (s : State) : State := if s.lstState = lstHoldover then (s.irq Irq.LST_LOST).enterLst lstLost else s

/-- HOLDOVER_LOST (R426). -/
def execHoldoverLost (s : State) : Host.Outcome State Fault Refusal := .next s.toLost

/-! ### Selection (R416 to R418) -/

/-- What an evaluation knows of a pair: none while its agreement is not known. -/
def LastObs.agree (o : LastObs) (a b : Nat) : Option Bool :=
  (o.pairs.find? fun p => (p.1.val == a && p.2.1.val == b) || (p.1.val == b && p.2.1.val == a)).map (·.2.2)

/-- The pairs of a list of references. -/
def pairsOf : List Nat → List (Nat × Nat)
  | [] => []
  | a :: r => r.map (fun b => (a, b)) ++ pairsOf r

/-- The qualified references, and the best rank among some. -/
def State.qualified (s : State) : List Nat := (List.range 14).filter fun r => s.refQual r && s.fld F.LST_REF_CFG_RANK r != 0
def State.bestRank (s : State) (l : List Nat) : Nat := l.foldl (fun b r => min b (s.fld F.LST_REF_CFG_RANK r)) 16

/-- What an evaluation decides. -/
inductive LastPick where
  /-- Stay in the current state until an agreement is known (R417). -/
  | wait
  /-- No reference. -/
  | none_
  /-- A reference, and the PICK code of the rule that decided. -/
  | some_ (r pick : Nat) (forced : Bool)
  deriving DecidableEq, Repr, Inhabited

/-- The one element of a list of one. -/
def only (l : List Nat) : Option Nat := match l with | [a] => some a | _ => none

/-- Choose among candidates of equal rank (R416 steps 4 and 5, R417). -/
def State.pickAmong (s : State) (o : LastObs) (cands : List Nat) : LastPick :=
  let known := (pairsOf cands).map fun p => o.agree p.1 p.2
  if known.contains none then .wait
  else if known.all (· == some true) then .some_ (cands.headD 15) 4 false
  else
    let score := fun r => ((s.qualified.filter fun q => q != r && o.agree r q == some true).length)
    let best := cands.foldl (fun b r => max b (score r)) 0
    match only (cands.filter fun r => score r == best) with
    | some r => .some_ r 2 false
    | none => match only (cands.filter fun r => o.near.any (fun n => n.val == r)) with
      | some r => .some_ r 3 false
      | none => .some_ (cands.headD 15) 4 false

/-- The selection of R416. -/
def State.select (s : State) (o : LastObs) : LastPick :=
  let q := s.qualified
  let sel := s.lstSel
  let forced := s.fld F.LST_CTRL_FORCE_REF 0
  let best := s.bestRank q
  if s.flag F.LST_CTRL_FORCE_EN 0 && s.refValid forced then .some_ forced 0 true
  else if q.contains sel && s.fld F.LST_REF_CFG_RANK sel ≤ best then .some_ sel 1 false
  else match q.filter fun r => s.fld F.LST_REF_CFG_RANK r == best with
    | [] => .none_
    | [r] => .some_ r 0 false
    | cands => s.pickAmong o cands

/-- A selected reference and a qualified one of equal rank that disagree, or that agree again over a window (R418). -/
def State.showDisagree (s : State) (o : LastObs) : State :=
  let sel := s.lstSel
  if 14 ≤ sel then s
  else
    let peers := s.qualified.filter fun q => q != sel && s.fld F.LST_REF_CFG_RANK q == s.fld F.LST_REF_CFG_RANK sel
    let bad := peers.filter fun q => o.agree sel q == some false
    let s := peers.foldl (fun (s : State) q => if o.agree sel q = some true then s.setFlag F.LST_REF_STAT_DISAGREE q false else s) s
    if bad = [] then
      if peers.any (fun q => o.agree sel q == some true) then s.setFlag F.LST_REF_STAT_DISAGREE sel false else s
    else
      let new := bad.any fun q => !s.flag F.LST_REF_STAT_DISAGREE q
      let s := (sel :: bad).foldl (fun (s : State) q => s.setFlag F.LST_REF_STAT_DISAGREE q true) s
      if new then s.event Irq.LST_REF_DISAGREE sel (bad.headD 0) else s

/-! ### Switching and slews (R420 to R422) -/

/-- Align to a newly selected reference: slew its phase out, or build it out (R420). -/
def State.alignTo (s : State) (r : Nat) (phase : Int) : State :=
  let s := (s.setFlag F.LST_STATUS_SLEWING 0 false).setReg .LST_SLEW_LEFT 0 0
  let s := s.setFlag F.LST_REF_STAT_PHASE_FAR r false
  if !s.flag F.LST_REF_CFG_TRACK r then s.setReg .LST_PHASE_ERR 0 0
  else if s.fld F.LST_SLEW_LIMIT 0 * 1000000 < phase.natAbs then
    ((s.setFlag F.LST_REF_STAT_PHASE_FAR r true).irq Irq.LST_PHASE_FAR).setReg .LST_PHASE_ERR 0 0
  else if phase = 0 then s.setReg .LST_PHASE_ERR 0 0
  else
    let s := (s.setFlag F.LST_STATUS_SLEWING 0 true).setReg .LST_SLEW_LEFT 0 (BitVec.ofNat 64 (unsignedOf 32 phase))
    s.setReg .LST_PHASE_ERR 0 (BitVec.ofNat 64 (unsignedOf 32 phase))

/-- Switch to a reference (R420, R424, Table 11.5): with the loop open only the selection shown changes (R428). -/
def State.switchTo (s : State) (r : Nat) (phase : Int) : State :=
  let st := s.lstState
  let s := s.showSel r
  if st = lstOpen then s
  else
    let s := s.setLst { s.lst with pendSel := none, slewEnd := false, fast := st != lstAcquire && st != lstLocked, goal := none }
    (s.alignTo r phase).enterLst lstAcquire

/-- The phase of the master against a reference, in ps. -/
def LastObs.phase (o : LastObs) (r : Nat) : Int := o.phases.getD r 0

/-- LAST_EVALUATION (R416 to R420, R423, R431): every 1 ms, and at every change of validity. -/
def execLastEvaluation (o : LastObs) (s : State) : Host.Outcome State Fault Refusal :=
  let s := if s.lstState = lstAcquire ∨ s.lstState = lstLocked then s.setFreq o.freq else s
  let s := s.showDisagree o
  let s := match s.select o with
    | .wait => s
    | .none_ =>
      let s := (s.setFlag F.LST_STATUS_FORCED 0 false).setLst { s.lst with pendSel := none }
      if s.lstState = lstAcquire ∨ s.lstState = lstLocked then s.holdOver o.mean
      else if s.lstState = lstOpen then s.showSel 15 else s
    | .some_ r pick forced =>
      let s := (s.setFlag F.LST_STATUS_FORCED 0 forced).setFld F.LST_STATUS_PICK 0 pick
      if s.lstSel = r then s.setLst { s.lst with pendSel := none }
      else
        let s := if pick = 4 ∧ ((s.qualified.filter fun q => s.fld F.LST_REF_CFG_RANK q == s.fld F.LST_REF_CFG_RANK r).any
            fun q => o.agree r q == some false) then s.irq Irq.LST_REF_DISAGREE else s
        if s.flag F.LST_STATUS_SLEWING 0 && s.lstState != lstOpen then s.setLst { s.lst with pendSel := some r }
        else s.switchTo r (o.phase r)
  .next (s.laneQual o.synths)

/-- Move the phase of the master, and of every time base with no servo running, by some ps (R420). -/
def State.movePhase (s : State) (ps : Int) : State :=
  [0, 1, 2, 3].foldl (fun (s : State) k =>
    let st := s.fld F.NTM_SRV_STAT_STATE k
    if s.tbRunning k && (st == 0 || st == 1) then
      { s with tb := Tbl.set (fun _ => 0) k ((s.tbNow k : Int) + ps * 65536 / 1000).toNat s.tb }
    else s) s

/-- The phase that a whole slew step moves, in ps: RATE ppb for STEP × 10 ms. -/
def State.slewStep (s : State) : Nat := s.fld F.LST_SLEW_RATE 0 * s.fld F.LST_SLEW_STEP 0 * 10

/-- SLEW_STEP (R421, R422): a step of the slew ends; `phase` is the master's phase against the reference now chosen. -/
def execSlewStep (phase : Int) (s : State) : Host.Outcome State Fault Refusal :=
  .next (if !s.flag F.LST_STATUS_SLEWING 0 then s
    else
      let left := signedOf 32 (s.reg .LST_SLEW_LEFT 0).toNat
      let step := min s.slewStep left.natAbs
      let moved : Int := if left < 0 then -(step : Int) else step
      let s := s.movePhase moved
      let rest := left - moved
      let s := s.setReg .LST_SLEW_LEFT 0 (BitVec.ofNat 64 (unsignedOf 32 rest))
      match s.lst.pendSel with
      | some r =>
        let s := if s.lst.slewEnd then s else s.event Irq.LST_SLEW_RETARGET r (unsignedOf 16 (rest / 1000))
        s.switchTo r phase
      | none =>
        if rest = 0 ∨ s.lst.slewEnd = true then
          ((s.setFlag F.LST_STATUS_SLEWING 0 false).setReg .LST_SLEW_LEFT 0 0).setLst { s.lst with slewEnd := false }
        else s)

/-- LAST_LOCK (R424): the lock criterion is met, and the history accumulates. -/
def execLastLock (s : State) : Host.Outcome State Fault Refusal :=
  .next (if s.lstState = lstAcquire then
      let s := s.setLst { s.lst with fast := false, histFrom := if s.lst.histFrom = 0 then s.tick + 1 else s.lst.histFrom }
      s.enterLst lstLocked
    else s)

/-! ### Opening the loop (R428, R429) -/

/-- A write of LST_CTRL (R428, R429, R440). -/
def State.writeLstCtrl (s : State) (src : Requester) (v : Word) : State :=
  s.guarded .LST_CTRL src fun s =>
    if 13 < F.LST_CTRL_FORCE_REF.of v then s.refuse .BAD_ARG
    else
      let was := s.lstState == lstOpen
      let open_ := F.LST_CTRL_OPEN.on v
      let s := s.store .LST_CTRL 0 v
      if open_ && !was then
        let f := s.reg .LST_FREQ 0
        let s := (s.setReg .LST_STEER 0 f).setLst { s.lst with goal := none, pendSel := none, slewEnd := false }
        ((s.setFlag F.LST_STATUS_SLEWING 0 false).setReg .LST_SLEW_LEFT 0 0).enterLst lstOpen
      else if !open_ && was then
        if s.lstSel < 14 then (s.setLst { s.lst with fast := true, goal := none }).enterLst lstAcquire
        else
          let s := (s.setReg .LST_HOLD_FREQ 0 (s.reg .LST_FREQ 0)).setFld F.LST_STATUS_HOLD_SRC 0 3
          ((s.setLst { s.lst with holdFrom := s.tick, goal := none }).enterLst lstHoldover).showHold
      else s

/-- LOOP_OPEN (R428): OPEN set. -/
def execLoopOpen (src : Requester) (s : State) : Host.Outcome State Fault Refusal :=
  .next (s.writeLstCtrl src (F.LST_CTRL_OPEN.put 1 (s.reg .LST_CTRL 0)))

/-- LOOP_CLOSE (R428): OPEN cleared. -/
def execLoopClose (src : Requester) (s : State) : Host.Outcome State Fault Refusal :=
  .next (s.writeLstCtrl src (F.LST_CTRL_OPEN.put 0 (s.reg .LST_CTRL 0)))

/-- A write of LST_STEER: while the loop is open the master moves toward it at LST_STEER_RATE (R428, R429). -/
def State.writeSteer (s : State) (src : Requester) (v : Word) : State :=
  s.guarded .LST_STEER src fun s =>
    let s := s.store .LST_STEER 0 v
    if s.lstState = lstOpen then s.setLst { s.lst with goal := some v.toInt } else s

/-- STEER_WRITE (R429). -/
def execSteerWrite (src : Requester) (v : Word64) (s : State) : Host.Outcome State Fault Refusal := .next (s.writeSteer src v)

/-- The master moves toward its goal by what LST_STEER_RATE allows in one Insole period, in 10⁻¹⁸ (R428, R436). -/
def State.steerTick (s : State) : State :=
  match s.lst.goal with
  | none => s
  | some g =>
    let f := (s.reg .LST_FREQ 0).toInt
    let d : Int := (s.fld F.LST_STEER_RATE_RATE 0 * 1000000000 / 32768 : Nat)
    let n := if f < g then min g (f + d) else max g (f - d)
    (s.setFreq n).setLst { s.lst with goal := if n = g then none else some g }

/-- The waits to restore count down each second (R414, Table 11.9). -/
def State.waitTick (s : State) : State :=
  (List.range 14).foldl (fun (s : State) r =>
    if s.refValid r && !s.refQual r && s.fld F.LST_REF_STAT_WTR_LEFT r != 0 then
      s.setFld F.LST_REF_STAT_WTR_LEFT r (s.fld F.LST_REF_STAT_WTR_LEFT r - 1)
    else s) s

/-! ### Configuration writes (R415, R437, R439, R440) -/

/-- A format code of Table 02.2. -/
def codeKnown (c : Nat) : Bool := decide (1 ≤ rasterOf c ∧ rasterOf c ≤ 8 ∧ 1 ≤ rateNibble c ∧ rateNibble c ≤ 8)

/-- What breaks R440. -/
def badRefCfg (r : Nat) (v : Word) : Bool :=
  let arg := F.LST_REF_CFG_ARG.of v
  let bw := F.LST_REF_CFG_BW.of v
  (F.LST_REF_CFG_TRACK.on v && !decide (2 ≤ r ∧ r < 6)) ||
  (if 6 ≤ r ∧ r < 10 then decide (bw = 0 ∨ 1000 < bw) else bw != Reg.refCfgReset r % 65536) ||
  (decide (10 ≤ r ∧ r < 12) && decide (127 < arg)) || (laceRef r && decide (15 < arg)) ||
  (decide (4 ≤ r ∧ r < 6) && !codeKnown arg && !(arg == 0 && F.LST_REF_CFG_RANK.of v == 0))

/-- A write of LST_REF_CFG (R415, R440). TB is read-only for PTP references. -/
def State.writeRefCfg (s : State) (src : Requester) (r : Nat) (v : Word) : State :=
  s.guarded .LST_REF_CFG src fun s =>
    let v := if 6 ≤ r ∧ r < 10 then F.LST_REF_CFG_TB.put (r - 6) v else v
    let changed := F.LST_REF_CFG_ARG.of v != s.fld F.LST_REF_CFG_ARG r || F.LST_REF_CFG_TRACK.of v != s.fld F.LST_REF_CFG_TRACK r ||
      F.LST_REF_CFG_TB.of v != s.fld F.LST_REF_CFG_TB r
    if badRefCfg r v then s.refuse .BAD_ARG
    else if s.lstSel = r then
      if changed then s.refuse .BUSY
      else
        let s := s.store .LST_REF_CFG r v
        if F.LST_REF_CFG_RANK.of v = 0 then s.refLost r (s.fld F.LST_REF_STAT_FAULT r) else s
    else (s.store .LST_REF_CFG r v).refLost r (s.fld F.LST_REF_STAT_FAULT r)

/-- REF_CFG_WRITE (R415, R440). -/
def execRefCfgWrite (src : Requester) (r : Fin 14) (w : Word32) (s : State) : Host.Outcome State Fault Refusal :=
  .next (s.writeRefCfg src r (w.setWidth 64))

/-- What breaks a range of Tables 11.7 and 11.8. -/
def badLst (r : Reg) (v : Word) : Bool :=
  let out := fun (f : Fld) (lo hi : Nat) => decide (f.of v < lo ∨ hi < f.of v)
  match r with
  | .LST_CFG => out F.LST_CFG_DIS_WINDOW 10 10000 || out F.LST_CFG_FIRST_QUAL 1 60 || out F.LST_CFG_HIST_TOL 1 255
  | .LST_SLEW => out F.LST_SLEW_RATE 10 10000 || out F.LST_SLEW_LIMIT 1 255 || out F.LST_SLEW_STEP 1 100
  | .LST_HOLD_CFG => out F.LST_HOLD_CFG_WINDOW 100 10000 || out F.LST_HOLD_CFG_GUARD 0 600
  | .LST_HOLD_LIM => out F.LST_HOLD_LIM_TMAX 1 8760 || out F.LST_HOLD_LIM_FLIMIT 1 10000
  | .LST_STEER_RATE => out F.LST_STEER_RATE_RATE 1 10000
  | .LST_REF_WTR => out F.LST_REF_WTR_WTR 0 3600
  | _ => false

/-- A write of Last's ranged registers (R439). -/
def State.writeLstRange (s : State) (src : Requester) (r : Reg) (i : Nat) (v : Word) : State :=
  s.guarded r src fun s => if badLst r v then s.refuse .BAD_ARG else s.store r i v

/-! ### Oscillators (R409, R430) -/

/-- OSC_HOLD_FAIL (R426, R430). -/
def execOscHoldFail (s : State) : Host.Outcome State Fault Refusal :=
  .next ((s.setFlag F.LST_STATUS_OSC_OK 0 false).event Irq.LST_OSC_FAIL 0 0).toLost

/-- OSC_HOLD_RETURN (R430): OSC_HOLD is valid again; `synths` are the synthesisers' locks for R431. -/
def execOscHoldReturn (synths : BitVec 5) (s : State) : Host.Outcome State Fault Refusal :=
  .next ((s.setFlag F.LST_STATUS_OSC_OK 0 true).laneQual synths)

/-- Move the network lanes to REFCLK_A (0), REFCLK_B (1) or the master clock (2) (R409); each network lane PLL
relocks with phase build-out, and the move counts (R486). -/
def State.moveRefclk (s : State) (to_ : Nat) : State :=
  let s := (s.setFld F.LST_STATUS_REFCLK 0 (to_ % 2)).setFlag F.LST_STATUS_REFCLK_MASTER 0 (to_ == 2)
  (((s.event Irq.LST_REFCLK_FAIL to_ 0).count .WLT_NL_CLKMOVE 0 1).irq Irq.WLT_CLKMOVE)

/-- What the network lanes take now. -/
def State.refclkNow (s : State) : Nat := if s.flag F.LST_STATUS_REFCLK_MASTER 0 then 2 else s.fld F.LST_STATUS_REFCLK 0

/-- The source that R409 gives after a change of validity: the lanes stay on a valid source. -/
def State.refclkNext (s : State) : Nat :=
  let now := s.refclkNow
  if now = 0 ∧ s.lst.badA = false then 0
  else if now = 1 ∧ s.lst.badB = false then 1
  else if !s.lst.badA then 0 else if !s.lst.badB then 1 else 2

/-- Move when R409 asks for it. -/
def State.refclkSettle (s : State) : State := if s.refclkNext = s.refclkNow then s else s.moveRefclk s.refclkNext

/-- REFCLK_FAIL (R409): REFCLK_A or REFCLK_B becomes invalid. -/
def execRefclkFail (b : Bool) (s : State) : Host.Outcome State Fault Refusal :=
  .next (s.setLst (if b then { s.lst with badB := true } else { s.lst with badA := true })).refclkSettle

/-- REFCLK_RETURN (R409): an invalid REFCLK becomes valid again; lanes on the master clock move to it. -/
def execRefclkReturn (b : Bool) (s : State) : Host.Outcome State Fault Refusal :=
  .next (s.setLst (if b then { s.lst with badB := false } else { s.lst with badA := false })).refclkSettle

end Sys2Proof.Machine
end

