-- ==== Sys2Proof/Machine/NetTime.lean ====
section
/-! DEFINITION. Network time: time bases, PTP ports, servos, alignment, triggers and captures (chapter 12, R441 to R473). -/

namespace Sys2Proof.Machine

/-! ### Records -/

/-- Set network time's record. -/
def State.setNtm (s : State) (x : Ntm) : State := { s with ntm := x }

/-- A servo's record. -/
def State.servo (s : State) (k : Nat) : Servo := Tbl.get (fun _ => default) s.ntm.servos k
def State.setServo (s : State) (k : Nat) (x : Servo) : State :=
  s.setNtm { s.ntm with servos := Tbl.set (fun _ => default) k x s.ntm.servos }

/-- The record of a PTP port of an instance. -/
def State.ptpPort (s : State) (k p : Nat) : PtpPort := Tbl.get (fun _ => default) s.ntm.ports (32 * k + p)
def State.setPtpPort (s : State) (k p : Nat) (x : PtpPort) : State :=
  s.setNtm { s.ntm with ports := Tbl.set (fun _ => default) (32 * k + p) x s.ntm.ports }

/-- A trigger's and a capture's record. -/
def State.trg (s : State) (t : Nat) : Trg := Tbl.get (fun _ => default) s.ntm.trgs t
def State.setTrg (s : State) (t : Nat) (x : Trg) : State := s.setNtm { s.ntm with trgs := Tbl.set (fun _ => default) t x s.ntm.trgs }
def State.cap (s : State) (c : Nat) : Cap := Tbl.get (fun _ => default) s.ntm.caps c
def State.setCap (s : State) (c : Nat) (x : Cap) : State := s.setNtm { s.ntm with caps := Tbl.set (fun _ => default) c x s.ntm.caps }

/-! ### Triggers (R463 to R467) -/

/-- The states of a trigger (Table 12.7). -/
def trgIdle : Nat := 0
def trgArmed : Nat := 1
def trgDraining : Nat := 2

/-- NTM_TRG_STAT.STATE. -/
def State.trgState (s : State) (t : Nat) : Nat := s.fld F.NTM_TRG_STAT_STATE t

/-- Instant n of a trigger's series: T + n × PNUM / PDEN ns (R463). -/
def State.trgInstant (s : State) (t n : Nat) : FineTime :=
  (s.reg .NTM_TRG_T t).toNat * 65536 + n * s.fld F.NTM_TRG_PNUM_PNUM t * 65536 / max 1 (s.fld F.NTM_TRG_PDEN_PDEN t)

/-- Drive a GPIO. -/
def State.setGpio (s : State) (g : Nat) (b : Bool) : State := s.setNtm { s.ntm with gpio := Tbl.set (fun _ => false) g b s.ntm.gpio }

/-- The level of a GPIO that a trigger has driven. -/
def State.gpioLevel (s : State) (g : Nat) : Bool := Tbl.get (fun _ => false) s.ntm.gpio g

/-- A firing executes ACTION on its GPIO (R464). -/
def State.trgFire (s : State) (t : Nat) : State :=
  let g := s.fld F.NTM_TRG_CFG_GPIO t
  let s := match s.fld F.NTM_TRG_CFG_ACTION t with
    | 1 => s.setGpio g true
    | 2 => s.setGpio g false
    | 3 => s.setGpio g (!s.gpioLevel g)
    | 4 => (s.setGpio g (!s.flag F.NTM_TRG_CFG_POL t)).setTrg t { s.trg t with pulse := true }
    | _ => s
  let s := s.setFld ⟨.NTM_TRG_SRC, t, 1⟩ 0 1
  if s.flag F.NTM_TRG_CFG_IRQ t then s.irq Irq.NTM_TRG_FIRE else s

/-- Whether every trigger is IDLE: a draining block has stopped. -/
def State.ntmIdle (s : State) : State :=
  if s.flag F.NTM_STATUS_DRAINING 0 && (List.range 64).all (fun t => s.trgState t == trgIdle) then s.setFlag F.NTM_STATUS_DRAINING 0 false
  else s

/-- Disarm: a pulse in progress completes first. -/
def State.disarm (s : State) (t : Nat) : State :=
  ((s.setFlag F.NTM_TRG_CFG_ARM t false).setFld F.NTM_TRG_STAT_STATE t (if (s.trg t).pulse then trgDraining else trgIdle)).ntmIdle

/-- Move past n instants, counting them against COUNT; disarm at the end of the series (R463, R465). -/
def State.trgPass (s : State) (t n : Nat) : State :=
  let s := s.setTrg t { s.trg t with next := (s.trg t).next + n }
  if s.fld F.NTM_TRG_PNUM_PNUM t = 0 then s.disarm t
  else if s.fld F.NTM_TRG_CFG_COUNT t = 0 then s
  else
    let left := s.fld F.NTM_TRG_STAT_LEFT t - n
    let s := s.setFld F.NTM_TRG_STAT_LEFT t left
    if left = 0 then s.disarm t else s

/-- How many unfired instants lie no later than a time (R465): limited by what the series still fires. -/
def State.trgMissed (s : State) (t : Nat) (upTo : FineTime) : Nat :=
  let n := (s.trg t).next
  let first := s.trgInstant t n
  if upTo < first then 0
  else
    let p := s.fld F.NTM_TRG_PNUM_PNUM t
    if p = 0 then 1
    else
      let start := (s.reg .NTM_TRG_T t).toNat * 65536
      let last := (upTo - start + 1) * max 1 (s.fld F.NTM_TRG_PDEN_PDEN t) / (p * 65536)
      let last := if s.trgInstant t last ≤ upTo then last else last - 1
      let m := last + 1 - n
      if s.fld F.NTM_TRG_CFG_COUNT t = 0 then max 1 m else min (max 1 m) (s.fld F.NTM_TRG_STAT_LEFT t)

/-- The series shifts whole: T becomes its first instant after now (Table 12.4). -/
def State.trgShift (s : State) (t : Nat) (now : FineTime) (missed : Nat) : State :=
  let n := (s.trg t).next + missed
  let n := if now < s.trgInstant t n then n else n + 1
  (s.setReg .NTM_TRG_T t (BitVec.ofNat 64 (ceilDiv (s.trgInstant t n) 65536))).setTrg t { s.trg t with next := 0 }

/-- Missed instants at an arming or a forward step (R465, Table 12.4). -/
def State.trgLate (s : State) (t : Nat) (now : FineTime) : State :=
  let m := s.trgMissed t (now + 100 * 65536)
  if m = 0 then s.setFlag F.NTM_TRG_STAT_LATE_LAST t false
  else
    let first := s.trgInstant t (s.trg t).next
    let s := s.setReg .NTM_TRG_LATE t (BitVec.ofNat 64 (satTo 32 ((now - first) / 65536)))
    let s := (s.setFlag F.NTM_TRG_STAT_LATE_LAST t true).irq Irq.NTM_TRG_LATE
    let s := (s.setFld ⟨.NTM_TRG_SRC, t, 1⟩ 0 1).count .NTM_TRG_MISSED t (m - 1)
    match s.fld F.NTM_TRG_CFG_LATE t with
    | 0 => (s.trgFire t).trgPass t m
    | 1 => s.trgPass t m
    | _ => s.trgShift t now m

/-- Whether an arming would be refused with BAD_ARG: a late one-shot under NEXT_PERIOD (Table 12.4). -/
def State.trgTooLate (s : State) (t : Nat) (cfg : Word) : Bool :=
  F.NTM_TRG_CFG_LATE.of cfg == 2 && s.fld F.NTM_TRG_PNUM_PNUM t == 0 &&
    decide ((s.reg .NTM_TRG_T t).toNat * 65536 ≤ s.tbNow (F.NTM_TRG_CFG_TB.of cfg) + 100 * 65536)

/-- Whether another ARMED or DRAINING trigger drives a GPIO (R464). -/
def State.gpioDriven (s : State) (t g : Nat) : Bool :=
  (List.range 64).any fun u => u != t && s.trgState u != trgIdle && s.fld F.NTM_TRG_CFG_GPIO u == g

/-- End a trigger at once: its pin returns to its idle level (R467). -/
def State.trgKill (s : State) (t : Nat) : State :=
  let s := if (s.trg t).pulse then s.setGpio (s.fld F.NTM_TRG_CFG_GPIO t) (s.flag F.NTM_TRG_CFG_POL t) else s
  (s.setTrg t { s.trg t with pulse := false }).disarm t

/-- A write of NTM_TRG_CFG (R464, R465, R467, R473). -/
def State.writeTrg (s : State) (src : Requester) (t : Nat) (v : Word) : State :=
  s.guarded .NTM_TRG_CFG src fun s =>
    let arm := F.NTM_TRG_CFG_ARM.on v
    let kill := F.NTM_TRG_CFG_KILL.on v && !arm
    let tb := F.NTM_TRG_CFG_TB.of v
    let st := s.trgState t
    if F.NTM_TRG_CFG_LATE.of v = 3 ∨ 4 < F.NTM_TRG_CFG_ACTION.of v then s.refuse .BAD_ARG
    else if st ≠ trgIdle then
      if arm then s.refuse .BUSY
      else if kill then (s.trgKill t).answer .OK else (s.disarm t).answer .OK
    else if !arm then s.store .NTM_TRG_CFG t v
    else if !s.flag F.NTM_CTRL_EN 0 || !s.tbRunning tb then s.refuse .NOT_READY
    else if s.gpioDriven t (F.NTM_TRG_CFG_GPIO.of v) then s.refuse .REFUSED_POLICY
    else if s.trgTooLate t v then s.refuse .BAD_ARG
    else
      let s := (s.store .NTM_TRG_CFG t v).setTrg t ⟨0, false⟩
      let s := (s.setFld F.NTM_TRG_STAT_STATE t trgArmed).setFld F.NTM_TRG_STAT_LEFT t (F.NTM_TRG_CFG_COUNT.of v)
      s.trgLate t (s.tbNow tb)

/-- TRIGGER_ARM (R465): ARM written 1. -/
def execTriggerArm (src : Requester) (t : Fin 64) (w : Word32) (s : State) : Host.Outcome State Fault Refusal :=
  .next (s.writeTrg src t (F.NTM_TRG_CFG_ARM.put 1 (w.setWidth 64)))

/-- TRIGGER_DRAIN (R467): ARM written 0, the other fields as they stand. -/
def execTriggerDrain (src : Requester) (t : Fin 64) (s : State) : Host.Outcome State Fault Refusal :=
  .next (s.writeTrg src t (F.NTM_TRG_CFG_ARM.put 0 (s.reg .NTM_TRG_CFG t)))

/-- TRIGGER_KILL (R467): KILL written 1 with ARM 0. -/
def execTriggerKill (src : Requester) (t : Fin 64) (s : State) : Host.Outcome State Fault Refusal :=
  .next (s.writeTrg src t (F.NTM_TRG_CFG_KILL.put 1 (F.NTM_TRG_CFG_ARM.put 0 (s.reg .NTM_TRG_CFG t))))

/-- A write of NTM_TRG_T, PNUM or PDEN: BUSY while the trigger is ARMED or DRAINING (R467, R473). -/
def State.writeTrgTime (s : State) (src : Requester) (r : Reg) (t : Nat) (v : Word) : State :=
  s.guarded r src fun s =>
    if s.trgState t ≠ trgIdle then s.refuse .BUSY
    else if r = .NTM_TRG_PDEN ∧ (F.NTM_TRG_PDEN_WIDTH.of v = 0 ∨ F.NTM_TRG_PDEN_PDEN.of v = 0) then s.refuse .BAD_ARG
    else s.store r t v

/-- TRIGGER_FIRE (R463, R464): the next instant of an armed trigger arrives on its time base. -/
def execTriggerFire (t : Fin 64) (s : State) : Host.Outcome State Fault Refusal :=
  .next (if s.trgState t = trgArmed then (s.trgFire t).trgPass t 1 else s)

/-- TRIGGER_PULSE_END (R464, R467): WIDTH elapses and the pin returns to its idle level. -/
def execTriggerPulseEnd (t : Fin 64) (s : State) : Host.Outcome State Fault Refusal :=
  .next (if (s.trg t).pulse then
      let s := (s.setGpio (s.fld F.NTM_TRG_CFG_GPIO t) (s.flag F.NTM_TRG_CFG_POL t)).setTrg t { s.trg t with pulse := false }
      if s.trgState t = trgDraining then (s.setFld F.NTM_TRG_STAT_STATE t trgIdle).ntmIdle else s
    else s)

/-! ### Setting and stepping a time base (R442 to R445) -/

/-- The detail of a STEP record: sign, exponent and mantissa of the step in ns (R445). -/
def stepDetail (ns : Int) : Nat :=
  let sign := if ns < 0 then 2 ^ 15 else 0
  match (List.range 32).find? fun e => decide (ns.natAbs / 2 ^ e < 1024) with
  | none => sign + 0x7FFF
  | some e => sign + e * 1024 + ns.natAbs / 2 ^ e

/-- Set the time of a time base. -/
def State.setTb (s : State) (k : Nat) (t : FineTime) : State := { s with tb := Tbl.set (fun _ => 0) k t s.tb }

/-- Start a STOPPED time base at a time (R442). -/
def State.startTb (s : State) (k : Nat) (t : FineTime) : State := (s.setTb k t).setFlag F.NTM_TB_STAT_RUNNING k true

/-- A RUNNING time base steps to a time (R445, R466): it is counted and recorded, domains realign, triggers miss the
instants it passes, and the next entry of each capture carries STEPPED. -/
def State.stepTb (s : State) (k : Nat) (t : FineTime) : State :=
  let old := s.tbNow k
  let lefts := (List.range 8).map fun d => s.frameLeft d
  let delta : Int := ((t : Int) - (old : Int)) / 65536
  let s := (s.setTb k t).count .NTM_TB_STEPS k 1
  let s := s.event Irq.NTM_STEP k (stepDetail delta)
  let s := s.stepDomains k fun d => lefts.getD d 0
  let s := (List.range 64).foldl (fun (s : State) c =>
    if s.flag F.NTM_CAP_CFG_EN c && s.fld F.NTM_CAP_CFG_TB c == k then s.setCap c { s.cap c with stepped := true } else s) s
  if old < t then (List.range 64).foldl (fun (s : State) u =>
    if s.trgState u = trgArmed ∧ s.fld F.NTM_TRG_CFG_TB u = k ∧ s.trgMissed u t ≠ 0 then s.trgLate u t else s) s
  else s

/-- A signed step in ns. -/
def State.stepBy (s : State) (k : Nat) (ns : Int) : State := s.stepTb k ((s.tbNow k : Int) + ns * 65536).toNat

/-- A write of NTM_TB_ADJ (R444). -/
def State.writeTbAdj (s : State) (src : Requester) (k : Nat) (v : Word) : State :=
  s.guarded .NTM_TB_ADJ src fun s =>
    let ns := (low32 (s.reg .NTM_TB_ADJ_NS k)).toNat
    let sec := (s.reg .NTM_TB_ADJ_SEC k).toNat
    let kind := F.NTM_TB_ADJ_KIND.of v
    if kind = 0 ∨ kind = 3 then s.refuse .BAD_ARG
    else if kind = 1 ∧ (999999999 < ns ∨ 2 ^ 48 ≤ sec) then s.refuse .BAD_ARG
    else if s.fld F.NTM_TB_CFG_MODE k ≠ 0 then s.refuse .REFUSED_POLICY
    else if kind = 1 then
      let t := (sec * 1000000000 + ns) * 65536
      (if s.tbRunning k then s.stepTb k t else s.startTb k t).answer .OK
    else if !s.tbRunning k then s.refuse .NOT_READY
    else (s.stepBy k (signedOf 32 ns)).answer .OK

/-- TB_SET (R444): NTM_TB_ADJ written with KIND SET. -/
def execTbSet (src : Requester) (k : Fin 4) (s : State) : Host.Outcome State Fault Refusal := .next (s.writeTbAdj src k 1)

/-- TB_STEP (R444): NTM_TB_ADJ written with KIND STEP. -/
def execTbStep (src : Requester) (k : Fin 4) (s : State) : Host.Outcome State Fault Refusal := .next (s.writeTbAdj src k 2)

/-! ### Servos (R443, R457 to R461) -/

/-- The states of a servo (Table 12.7). -/
def srvOff : Nat := 0
def srvWait : Nat := 1
def srvAcquire : Nat := 2
def srvLocked : Nat := 3
def srvHoldover : Nat := 4

/-- NTM_SRV_STAT.STATE. -/
def State.srvState (s : State) (k : Nat) : Nat := s.fld F.NTM_SRV_STAT_STATE k

/-- Enter a servo state; PTPk is valid only while the servo is LOCKED (R461). -/
def State.enterSrv (s : State) (k st : Nat) : State :=
  let s := (s.setFld F.NTM_SRV_STAT_STATE k st).setServo k { s.servo k with within := 0, beyond := 0 }
  if st = srvLocked then s else s.refLost (6 + k) 4

/-- r_k in 0.001 ppm. -/
def State.rk (s : State) (k : Nat) : Int := s.signedFld F.LST_TB_STAT_R k
def State.setRk (s : State) (k : Nat) (r : Int) : State := s.setSigned F.LST_TB_STAT_R k r

/-- The loop's output after a sample: the spec states its form and its limit of ±10 ppm, and no value (R458); SAT and its
cause follow the limit. -/
def State.drawRk (s : State) (k : Nat) : State :=
  let r : Int := (s.free.toNat % 20001 : Nat) - 10000
  let sat := r.natAbs == 10000
  let was := s.flag F.NTM_SRV_STAT_SAT k
  let s := (s.drawFree.setRk k r).setFlag F.NTM_SRV_STAT_SAT k sat
  if sat && !was then s.irq Irq.NTM_SRV_SAT else s

/-- r_k as a servo holds it in HOLDOVER: its integral term, which the spec gives no value; 0 while Last has PTPk selected
(R460, R461). -/
def State.holdRk (s : State) (k : Nat) : State :=
  if s.flag F.NTM_SRV_STAT_SELECTED k then s.setRk k 0
  else (s.drawFree).setRk k ((s.free.toNat % 20001 : Nat) - 10000 : Int)

/-- Samples stop (R460). -/
def State.samplesStop (s : State) (k : Nat) : State :=
  let st := s.srvState k
  if st = srvWait ∨ st = srvAcquire ∨ st = srvLocked then ((s.holdRk k).enterSrv k srvHoldover).event Irq.NTM_HOLDOVER k 0 else s

/-- The step of R459, when the sample asks for one. -/
def State.srvStep (s : State) (k : Nat) (off : Int) : State :=
  let big := decide (s.fld F.NTM_SRV_CFG_STEP_NS k * 65536 < off.natAbs)
  if big && s.tbRunning k && (!(s.servo k).locked || s.flag F.NTM_SRV_CFG_STEP_AFTER_LOCK k) then
    s.stepTb k ((s.tbNow k : Int) - off).toNat
  else s

/-- A sample's place in the counts of Table 12.3. -/
def State.srvCount (s : State) (k : Nat) (off : Int) : State :=
  let x := s.servo k
  let lock := s.fld F.NTM_SRV_CFG_LOCK_NS k * 65536
  let st := s.srvState k
  let x := { x with
    within := if off.natAbs ≤ lock then x.within + 1 else 0, beyond := if 4 * lock < off.natAbs then x.beyond + 1 else 0 }
  let s := s.setServo k x
  if st = srvAcquire ∧ 16 ≤ x.within then
    ((s.setServo k { x with locked := true }).enterSrv k srvLocked).irq Irq.NTM_LOCK
  else if st = srvLocked ∧ 16 ≤ x.beyond then (s.enterSrv k srvAcquire).event Irq.NTM_LOCK k 0
  else s

/-- One sample of the servo of TBk: the offset of TBk from the master, in 2⁻¹⁶ ns; `master` is the master's time, for a
STOPPED time base (R457 to R460). -/
def State.srvSample (s : State) (k : Nat) (off : Int) (master : Option FineTime) : State :=
  let st := s.srvState k
  if st = srvOff ∨ s.flag F.NTM_CTRL_EN 0 = false then s
  else
    let s := s.count .NTM_SRV_SAMPLES k 1
    let s := s.setReg .NTM_SRV_OFFSET k (BitVec.ofNat 64 (unsignedOf 32 (clampSigned 32 (off * 1000 / 65536))))
    if !s.tbRunning k then
      let s := match master with | some t => s.startTb k t | none => s.startTb k (-off).toNat
      (s.drawRk k).enterSrv k srvAcquire
    else if st = srvWait ∨ st = srvHoldover then ((s.srvStep k off).drawRk k).enterSrv k srvAcquire
    else ((s.srvStep k off).drawRk k).srvCount k off

/-- A write of NTM_SRV_FEED: one sample in MODE FEED (R457). -/
def State.writeFeed (s : State) (src : Requester) (k : Nat) (v : Word) : State :=
  s.guarded .NTM_SRV_FEED src fun s => if s.fld F.NTM_TB_CFG_MODE k = 2 then (s.srvSample k v.toInt none).answer .OK else s.answer .OK

/-- SRV_FEED_WRITE (R457). -/
def execSrvFeedWrite (src : Requester) (k : Fin 4) (v : Word64) (s : State) : Host.Outcome State Fault Refusal :=
  .next (s.writeFeed src k v)

/-- SERVO_SAMPLES_STOP (R460): no sample for 16 Sync intervals. -/
def execServoSamplesStop (k : Fin 4) (s : State) : Host.Outcome State Fault Refusal := .next (s.samplesStop k)

/-- r_k ramps to 0 at 1,000 ppb/s after MODE is written FREE (R443): the part of an Insole period. -/
def State.rampTick (s : State) (k : Nat) : State :=
  let x := s.servo k
  if !x.ramp then s
  else
    let acc := x.rampAcc + 1000
    let r := s.rk k
    if r = 0 then s.setServo k { x with ramp := false, rampAcc := 0 }
    else if acc < 32768 then s.setServo k { x with rampAcc := acc }
    else (s.setServo k { x with rampAcc := acc - 32768 }).setRk k (if r < 0 then r + 1 else r - 1)

/-- A write of NTM_TB_CFG (R443, R459, R460, R462, R473). -/
def State.writeTbCfg (s : State) (src : Requester) (k : Nat) (v : Word) : State :=
  s.guarded .NTM_TB_CFG src fun s =>
    let mode := F.NTM_TB_CFG_MODE.of v
    let was := s.fld F.NTM_TB_CFG_MODE k
    let srcRef := F.NTM_TB_CFG_ALIGN_SRC.of v
    if mode = 3 ∨ F.NTM_TB_CFG_ALIGN_US.of v = 0 ∨ (F.NTM_TB_CFG_ALIGN.on v = true ∧ (srcRef < 2 ∨ 5 < srcRef)) then s.refuse .BAD_ARG
    else if mode = 1 ∧ was ≠ 1 ∧ 2 ≤ s.fld F.NTM_INST_CFG_ROLE k then s.refuse .REFUSED_POLICY
    else
      let s := (s.store .NTM_TB_CFG k v).setServo k { s.servo k with locked := false, edges := 0 }
      if mode = 0 then
        if was = 0 then s
        else ((s.enterSrv k srvOff).setFlag F.NTM_SRV_STAT_SAT k false).setServo k { s.servo k with ramp := true, rampAcc := 0 }
      else
        let s := s.setServo k { s.servo k with ramp := false }
        if mode = was then s else s.enterSrv k srvWait

/-- TB_MODE_WRITE (R443). -/
def execTbModeWrite (src : Requester) (k : Fin 4) (w : Word32) (s : State) : Host.Outcome State Fault Refusal :=
  .next (s.writeTbCfg src k (w.setWidth 64))

/-- A write of NTM_SRV_CFG (R473). -/
def State.writeSrvCfg (s : State) (src : Requester) (k : Nat) (v : Word) : State :=
  s.guarded .NTM_SRV_CFG src fun s =>
    if F.NTM_SRV_CFG_STEP_NS.of v < 100 ∨ F.NTM_SRV_CFG_LOCK_NS.of v < 10 then s.refuse .BAD_ARG else s.store .NTM_SRV_CFG k v

/-! ### Instances and ports (R446 to R451, R457) -/

/-- STATE of an instance on a port: 0 DISABLED, 1 LISTENING, 2 MASTER, 3 PASSIVE, 4 SLAVE. -/
def State.ptpState (s : State) (k p : Nat) : Nat := s.fld F.NTM_PORT_CFG_STATE (32 * k + p)

/-- Whether an instance works: enabled, with the block's EN. -/
def State.instOn (s : State) (k : Nat) : Bool := s.flag F.NTM_INST_CFG_EN k && s.flag F.NTM_CTRL_EN 0

/-- A profile's defaults, and the ranges of Table 12.1. -/
def intvDefault (profile : Nat) : Nat := if profile = 0 then 0xFEFDFD03 else 0x01FDFD03

/-- Whether an interval word lies in its profile's ranges (Table 12.1). -/
def intvGood (profile : Nat) (v : Word) : Bool :=
  let a := signedOf 8 (F.NTM_INST_INTV_ANNOUNCE.of v)
  let y := signedOf 8 (F.NTM_INST_INTV_SYNC.of v)
  let d := signedOf 8 (F.NTM_INST_INTV_DELAY_REQ.of v)
  let t := F.NTM_INST_INTV_TIMEOUT.of v
  decide (2 ≤ t ∧ t ≤ 10) &&
    if profile = 0 then decide (-3 ≤ a ∧ a ≤ 1 ∧ -7 ≤ y ∧ y ≤ -1 ∧ -7 ≤ d ∧ d ≤ 5)
    else decide (0 ≤ a ∧ a ≤ 4 ∧ -4 ≤ y ∧ y ≤ 1 ∧ -4 ≤ d ∧ d ≤ 5)

/-- A write of NTM_INST_CFG: a change of PROFILE loads its defaults (R446, R473). -/
def State.writeInst (s : State) (src : Requester) (k : Nat) (v : Word) : State :=
  s.guarded .NTM_INST_CFG src fun s =>
    let profile := F.NTM_INST_CFG_PROFILE.of v
    if 3 < F.NTM_INST_CFG_ROLE.of v ∨ 1 < profile ∨ F.NTM_INST_CFG_TRANSPORT.of v = 3 ∨ 127 < F.NTM_INST_CFG_DOMAIN.of v then
      s.refuse .BAD_ARG
    else
      let changes := profile != s.fld F.NTM_INST_CFG_PROFILE k
      let s := s.store .NTM_INST_CFG k v
      if changes then s.setReg .NTM_INST_INTV k (BitVec.ofNat 64 (intvDefault profile)) else s

/-- A write of NTM_INST_INTV (R446). -/
def State.writeIntv (s : State) (src : Requester) (k : Nat) (v : Word) : State :=
  s.guarded .NTM_INST_INTV src fun s =>
    if intvGood (s.fld F.NTM_INST_CFG_PROFILE k) v then s.store .NTM_INST_INTV k v else s.refuse .BAD_ARG

/-- Whether a port state breaks R447 or R448. -/
def State.badPtpState (s : State) (k p st : Nat) : Bool :=
  let others := (List.range 32).filter fun q => q != p
  let shared := [0, 1, 2, 3].any fun j => j != k && s.ptpState j p != 0 && s.fld F.NTM_INST_CFG_DOMAIN j == s.fld F.NTM_INST_CFG_DOMAIN k
  (st != 0 && shared) || (st == 4 && others.any fun q => s.ptpState k q == 4) ||
  (st != 0 && s.fld F.NTM_INST_CFG_ROLE k == 0 && others.any fun q => s.ptpState k q != 0) ||
  (st == 2 && s.flag F.NTM_INST_CFG_SLAVE_ONLY k)

/-- A write of NTM_PORT_CFG (R447, R448, R460). -/
def State.writePtpPort (s : State) (src : Requester) (i : Nat) (v : Word) : State :=
  s.guarded .NTM_PORT_CFG src fun s =>
    let st := F.NTM_PORT_CFG_STATE.of v
    let was := s.fld F.NTM_PORT_CFG_STATE i
    if decide (4 < st) || !s.flag F.NPT_PORT_STAT_EXISTS (i % 32) then s.refuse .BAD_ARG
    else if s.badPtpState (i / 32) (i % 32) st then s.refuse .REFUSED_POLICY
    else
      let s := s.store .NTM_PORT_CFG i v
      if was = 4 ∧ st ≠ 4 ∧ s.fld F.NTM_TB_CFG_MODE (i / 32) = 1 then s.samplesStop (i / 32) else s

/-- PTP_PORT_STATE_WRITE (R448). -/
def execPtpPortStateWrite (src : Requester) (k : Fin 4) (p : Fin 32) (w : Word32) (s : State) : Host.Outcome State Fault Refusal :=
  .next (s.writePtpPort src (32 * k + p) (w.setWidth 64))

/-- A write of a latency or an asymmetry: ±1,000,000 ps (R453). -/
def State.writeDelay (s : State) (src : Requester) (r : Reg) (i : Nat) (v : Word) : State :=
  s.guarded r src fun s => if 1000000 < (signedOf 32 v.toNat).natAbs then s.refuse .BAD_ARG else s.store r i v

/-- A signed register in ps, in 2⁻¹⁶ ns. -/
def State.delayOf (s : State) (r : Reg) (i : Nat) : Int := signedOf 32 (s.reg r i).toNat * 65536 / 1000

/-- The record of a network port. -/
def State.netPort (s : State) (p : Nat) : NetPort := Tbl.get (fun _ => default) s.net.ports p

/-- Set the record of a network port. -/
def State.setNetPort (s : State) (p : Nat) (x : NetPort) : State :=
  { s with net := { s.net with ports := Tbl.set (fun _ => default) p x s.net.ports } }

/-- Put a frame on the PTP queue of a port (R454, R511). -/
def State.queuePtp (s : State) (p : Nat) (f : PtpFrame) : State :=
  let x := s.netPort p
  s.setNetPort p { x with ptpq := x.ptpq ++ [f] }

/-- Put a frame on the CTRL queue of a port (R511). -/
def State.queueCtrl (s : State) (p : Nat) (f : CtrlFrame) : State :=
  let x := s.netPort p
  s.setNetPort p { x with ctrl := x.ctrl ++ [f] }

/-- Send a PTP message on a port's PTP queue and count it; one-step Sync and Pdelay_Resp leave at a fixed instant (R455). -/
def State.ptpSend (s : State) (k p : Nat) (kind : PtpKind) : State :=
  let fixed := s.flag F.NTM_INST_CFG_ONE_STEP k && (kind == .sync || kind == .pdelayResp)
  (s.queuePtp p ⟨k, kind, none, fixed⟩).count .NTM_PORT_TXMSG (32 * k + p) 1

/-- PTP_ANNOUNCE_SEND (R447): a MASTER port's announce interval elapses. -/
def execPtpAnnounceSend (k : Fin 4) (p : Fin 32) (s : State) : Host.Outcome State Fault Refusal :=
  .next (if s.instOn k && s.ptpState k p == 2 then s.ptpSend k p .announce else s)

/-- PTP_SYNC_SEND (R447): a MASTER port's Sync interval elapses. -/
def execPtpSyncSend (k : Fin 4) (p : Fin 32) (s : State) : Host.Outcome State Fault Refusal :=
  .next (if s.instOn k && s.ptpState k p == 2 then
      let s := s.ptpSend k p .sync
      if s.flag F.NTM_INST_CFG_ONE_STEP k then s else s.ptpSend k p .followUp
    else s)

/-- Send a request, noting its number and its send time with the port's transmit latency (R453, R457). -/
def State.ptpRequest (s : State) (k p : Nat) (kind : PtpKind) (tx : FineTime) : State :=
  let x := s.ptpPort k p
  let t := ((tx : Int) + s.delayOf .NTM_PHY_TXLAT p).toNat
  (s.ptpSend k p kind).setPtpPort k p { x with req := some (x.sent % 65536, t), sent := x.sent + 1 }

/-- PTP_DELAY_REQ_SEND (R447): a SLAVE port under E2E sends Delay_Req; `tx` is its send instant on the instance's time base. -/
def execPtpDelayReqSend (k : Fin 4) (p : Fin 32) (tx : FineTime) (s : State) : Host.Outcome State Fault Refusal :=
  .next (if s.instOn k && s.ptpState k p == 4 && !s.flag F.NTM_INST_CFG_P2P k then s.ptpRequest k p .delayReq tx else s)

/-- PTP_PDELAY_REQ_SEND (R447): a used port under P2P sends Pdelay_Req. -/
def execPtpPdelayReqSend (k : Fin 4) (p : Fin 32) (tx : FineTime) (s : State) : Host.Outcome State Fault Refusal :=
  .next (if s.instOn k && s.ptpState k p != 0 && s.flag F.NTM_INST_CFG_P2P k then s.ptpRequest k p .pdelayReq tx else s)

/-- ANNOUNCE_TIMEOUT (R449, R460): no Announce from the parent of a SLAVE port for TIMEOUT intervals. -/
def execAnnounceTimeout (k : Fin 4) (p : Fin 32) (s : State) : Host.Outcome State Fault Refusal :=
  .next (if s.instOn k && s.ptpState k p == 4 then
      let s := (s.setFlag F.NTM_PORT_STAT_ANN_TIMEOUT (32 * k + p) true).irq Irq.NTM_ANN_TIMEOUT
      if s.fld F.NTM_TB_CFG_MODE k = 1 then s.samplesStop k else s
    else s)

/-- Whether a message comes from the port's parent (R449). -/
def State.fromParent (s : State) (k p : Nat) (m : PtpMsg) : Bool :=
  (s.reg .NTM_PORT_PARENT (32 * k + p)).toNat == m.clock && s.fld F.NTM_PORT_CFG_PARENT_PORT (32 * k + p) == m.port

/-- The mean of a list of path delays. -/
def meanOf (l : List Int) : Int := if l = [] then 0 else (l.foldl (fun (a : Int) b => a + b) 0) / (l.length : Int)

/-- An exchange's path delay (R457): rejected when it exceeds the mean by more than 1 µs. -/
def State.exchange (s : State) (k p : Nat) (d : Int) : State :=
  let x := s.ptpPort k p
  if x.delays ≠ [] ∧ meanOf x.delays + 1000 * 65536 < d then s.count .NTM_SRV_REJECT k 1
  else
    let l := (d :: x.delays).take 16
    let s := s.setPtpPort k p { x with delays := l, req := none, resp := none }
    s.setReg .NTM_PORT_MPD (32 * k + p) (BitVec.ofNat 64 (satTo 32 (meanOf l * 1000 / 65536).toNat))

/-- A Sync's times are complete: one sample in MODE PTP (R457). -/
def State.syncTimes (s : State) (k p : Nat) (t1 t2 : FineTime) : State :=
  let x := s.ptpPort k p
  let s := s.setPtpPort k p { x with sync := none, t1 := t1, t2 := t2 }
  if s.fld F.NTM_TB_CFG_MODE k ≠ 1 ∨ s.flag F.NTM_PORT_STAT_ANN_TIMEOUT (32 * k + p) = true then s
  else
    let path := meanOf x.delays + s.delayOf .NTM_PORT_ASYM (32 * k + p)
    s.srvSample k ((t2 : Int) - (t1 : Int) - path) (some ((t1 : Int) + path).toNat)

/-- A message that instance k consumes on port p (R449, R450, R457). -/
def State.ptpConsume (s : State) (k p : Nat) (m : PtpMsg) : State :=
  let x := s.ptpPort k p
  let st := s.ptpState k p
  let rx := ((m.rx : Int) + s.delayOf .NTM_PHY_RXLAT p).toNat
  let parent := s.fromParent k p m
  let slave := st == 4
  let unused := s.count .NTM_PORT_RXMSG (32 * k + p) 1
  match m.kind with
  | .sync =>
    if !slave then s
    else if !parent then unused
    else if m.twoStep then s.setPtpPort k p { x with sync := some (m.seq, rx) } else s.syncTimes k p m.t rx
  | .followUp =>
    match x.sync with
    | some (n, t2) => if slave && parent && n == m.seq then s.syncTimes k p m.t t2 else s
    | none => s
  | .delayReq => if st = 2 then s.ptpSend k p .delayResp else if slave then unused else s
  | .delayResp =>
    match x.req with
    | some (n, t3) =>
      if slave && parent && n == m.seq && !s.flag F.NTM_INST_CFG_P2P k then
        s.exchange k p (((x.t2 : Int) - (x.t1 : Int) + (m.t : Int) - (t3 : Int)) / 2)
      else s
    | none => s
  | .pdelayReq =>
    let s := s.ptpSend k p .pdelayResp
    if s.flag F.NTM_INST_CFG_ONE_STEP k then s else s.ptpSend k p .pdelayRespFollowUp
  | .pdelayResp =>
    match x.req with
    | some (n, t1) =>
      if n ≠ m.seq then s
      else if m.twoStep then s.setPtpPort k p { x with resp := some (m.t, rx) }
      else s.exchange k p (((rx : Int) - (t1 : Int) - (m.t : Int)) / 2)
    | none => s
  | .pdelayRespFollowUp =>
    match x.req, x.resp with
    | some (n, t1), some (t2, t4) => if n = m.seq then s.exchange k p (((t4 : Int) - (t1 : Int) - ((m.t : Int) - (t2 : Int))) / 2) else s
    | _, _ => s
  | .announce => if slave && parent then s.setFlag F.NTM_PORT_STAT_ANN_TIMEOUT (32 * k + p) false else s
  | _ => s

/-- A transparent clock forwards a message of one port of its set to the others (R451). -/
def State.ptpRelay (s : State) (k p : Nat) (m : PtpMsg) : State :=
  ((List.range 32).filter fun q => q != p && s.ptpState k q != 0).foldl (fun (s : State) q =>
    (if m.len ≤ 130 then s.queuePtp q ⟨k, m.kind, some m, true⟩
      else s.queueCtrl q ⟨.clock k m, m.len⟩).count .NTM_PORT_TXMSG (32 * k + q) 1) s

/-- Whether the hardware consumes a kind of message (R450). -/
def PtpKind.consumed : PtpKind → Bool
  | .announce | .signaling | .management => false
  | _ => true

/-- The instance that a message on a port belongs to: the port used, the domain matching. -/
def State.ptpInst (s : State) (p : Nat) (m : PtpMsg) : Option Nat :=
  [0, 1, 2, 3].find? fun k => s.instOn k && s.ptpState k p != 0 && s.fld F.NTM_INST_CFG_DOMAIN k == m.domain

/-! ### Alignment to house references (R462) -/

/-- The offset of a time from the nearest of the instants before and after it, in ns, rounded down. -/
def nearest (t before after : FineTime) : Int :=
  (if t - before ≤ after - t then ((t : Int) - before) else ((t : Int) - after)) / 65536

/-- ALIGN_EDGE (R462): an edge of reference ALIGN_SRC is captured and measured against TBk. -/
def execAlignEdge (k : Fin 4) (s : State) : Host.Outcome State Fault Refusal :=
  .next (if !s.flag F.NTM_TB_CFG_ALIGN k || !s.tbRunning k then s
    else
      let r := s.fld F.NTM_TB_CFG_ALIGN_SRC k
      let t := s.tbNow k
      let code := s.fld F.LST_REF_CFG_ARG r
      let off := if r < 4 then nearest t (t / fineSecond * fineSecond) ((t / fineSecond + 1) * fineSecond)
        else nearest t (boundaryTime code 0 (lastBoundary code 0 t)) (boundaryTime code 0 (lastBoundary code 0 t + 1))
      let s := s.setReg .NTM_TB_ALIGN_OFF k (BitVec.ofNat 64 (unsignedOf 32 (clampSigned 32 off)))
      let x := s.servo k
      if off.natAbs ≤ s.fld F.NTM_TB_CFG_ALIGN_US k * 1000 then
        (s.setServo k { x with edges := 0 }).setFlag F.NTM_TB_STAT_ALIGN_ERR k false
      else if x.edges + 1 < 3 then s.setServo k { x with edges := x.edges + 1 }
      else
        let s := ((s.setServo k { x with edges := 0 }).setFlag F.NTM_TB_STAT_ALIGN_ERR k true).irq Irq.NTM_ALIGN
        if s.flag F.NTM_TB_CFG_AUTO_STEP k && s.fld F.NTM_TB_CFG_MODE k == 0 then s.stepBy k (-off) else s)

/-! ### Captures (R468, R469) -/

/-- Show a capture's fill. -/
def State.showCap (s : State) (c : Nat) : State := s.setFld F.NTM_CAP_STAT_FILL c (s.cap c).fifo.length

/-- A write of NTM_CAP_CFG (R442, R473). -/
def State.writeCap (s : State) (src : Requester) (c : Nat) (v : Word) : State :=
  s.guarded .NTM_CAP_CFG src fun s =>
    let en := F.NTM_CAP_CFG_EN.on v
    if 35 < F.NTM_CAP_CFG_SRC.of v ∨ (en = true ∧ F.NTM_CAP_CFG_EDGE.of v = 0) then s.refuse .BAD_ARG
    else if en && !(s.flag F.NTM_CTRL_EN 0 && s.tbRunning (F.NTM_CAP_CFG_TB.of v)) then s.refuse .NOT_READY
    else s.store .NTM_CAP_CFG c v

/-- CAPTURE_EDGE (R468): an edge of a capture's source, longer than 10 ns after the last. -/
def execCaptureEdge (c : Fin 64) (rising : Bool) (s : State) : Host.Outcome State Fault Refusal :=
  .next (if !s.flag F.NTM_CAP_CFG_EN c || !s.flag F.NTM_CTRL_EN 0 || s.fld F.NTM_CAP_CFG_EDGE c &&& (if rising then 1 else 2) == 0 then s
    else
      let x := s.cap c
      if 16 ≤ x.fifo.length then (s.count .NTM_CAP_OVF c 1).irq Irq.NTM_CAP_OVF
      else
        let e : CapEntry := ⟨s.tbNow (s.fld F.NTM_CAP_CFG_TB c), rising, x.stepped⟩
        (s.setCap c ⟨x.fifo ++ [e], false⟩).showCap c)

/-- A read of NTM_CAP_NS: the oldest entry's nanoseconds, its seconds and fraction latched, and the entry removed (R469). -/
def State.readCap (s : State) (c : Nat) : State :=
  let x := s.cap c
  match x.fifo with
  | [] => { s with rdata := 0x3FFFFFFF }
  | e :: r =>
    let ns := e.time / 65536 % 1000000000
    let w := (if e.rising then 2 ^ 31 else 0) + (if e.stepped then 2 ^ 30 else 0) + ns
    let hi := e.time / fineSecond % 2 ^ 48 * 65536 + e.time % 65536
    let s := ((s.setReg .NTM_CAP_HI c (BitVec.ofNat 64 hi)).setCap c { x with fifo := r }).showCap c
    { s with rdata := BitVec.ofNat 64 w }

/-- CAPTURE_READ (R469). -/
def execCaptureRead (c : Fin 64) (s : State) : Host.Outcome State Fault Refusal := .next (s.readCap c)

/-! ### Disable (R471) -/

/-- A write of NTM_CTRL (R471). -/
def State.writeNtmCtrl (s : State) (src : Requester) (v : Word) : State :=
  s.guarded .NTM_CTRL src fun s =>
    let s := s.store .NTM_CTRL 0 (F.NTM_CTRL_KILL.put 0 v)
    if F.NTM_CTRL_EN.on v then (s.setFlag F.NTM_STATUS_RUN 0 true).setFlag F.NTM_STATUS_DRAINING 0 false
    else
      let s := (s.setFlag F.NTM_STATUS_RUN 0 false).setFlag F.NTM_STATUS_DRAINING 0 true
      let s := [0, 1, 2, 3].foldl (fun (s : State) k => s.samplesStop k) s
      let s := (List.range 64).foldl (fun (s : State) t =>
        if s.trgState t = trgIdle then s else if F.NTM_CTRL_KILL.on v then s.trgKill t else s.disarm t) s
      s.ntmIdle

/-- NTM_DISABLE (R471): EN cleared. -/
def execNtmDisable (src : Requester) (s : State) : Host.Outcome State Fault Refusal :=
  .next (s.writeNtmCtrl src (F.NTM_CTRL_EN.put 0 (s.reg .NTM_CTRL 0)))

end Sys2Proof.Machine
end

