-- ==== Sys2Proof/Machine/Ports.lean ====
section
/-! DEFINITION. Network ports: groups, links, MAC, transmit order, pause, low power, control rings and endpoints
(chapter 14, R502 to R532), and the reception of frames and PTP messages (R47, R450). -/

namespace Sys2Proof.Machine

/-! ### Groups and ports (R502 to R504) -/

/-- Whether a port exists in a group mode (Table 14.1). -/
def existsIn (mode p : Nat) : Bool :=
  match mode with
  | 1 => p % 4 == 0
  | 2 => p % 2 == 0
  | 3 | 4 | 5 | 6 => true
  | _ => false

/-- The port rate code of a group mode (Tables 14.1, 14.7). -/
def modeRate (mode : Nat) : Nat :=
  match mode with | 1 => 6 | 2 => 5 | 3 => 4 | 4 => 3 | 5 => 2 | 6 => 1 | _ => 0

/-- The mode of a port's group. -/
def State.grpMode (s : State) (p : Nat) : Nat := s.fld F.NPT_GRP_CFG_MODE (p / 4)

/-- The port that uses a network lane (R476). -/
def State.portOfLane (s : State) (l : Nat) : Nat :=
  match s.grpMode l with | 1 => l / 4 * 4 | 2 => l / 2 * 2 | _ => l

/-- The states of NPT_PORT_STAT.STATE (Table 14.7). -/
def portOff : Nat := 0
def portDown : Nat := 1
def portUp : Nat := 2
def portLpi : Nat := 3
def portWakeOnly : Nat := 4
def portWaking : Nat := 5
def portDraining : Nat := 6

/-- A port's state. -/
def State.portState (s : State) (p : Nat) : Nat := s.fld F.NPT_PORT_STAT_STATE p

/-- Set a port's state. -/
def State.setPortState (s : State) (p st : Nat) : State := s.setFld F.NPT_PORT_STAT_STATE p st

/-- Whether a port exists in its group's mode. -/
def State.portExists (s : State) (p : Nat) : Bool := s.flag F.NPT_PORT_STAT_EXISTS p

/-- Whether an element of a register that differs from reset satisfies a test. -/
def State.anyElem (s : State) (r : Reg) (f : Nat → Bool) : Bool :=
  (Tbl.get (fun _ => []) s.regs r.ctorIdx).any fun e => f e.1

/-- Whether a valid sender names a port (R503, R517). -/
def State.senderNames (s : State) (p : Nat) : Bool :=
  let named (k : SndKind) (i : Nat) := s.sndValid k i && (s.sndPortA k i == p || (s.sndDual k i && s.sndPortB k i == p))
  s.anyElem .EGR_VSND_CFG (named .video) || s.anyElem .EGR_ASND_CFG (named .audio) || s.anyElem .EGR_XSND_CFG (named .anc)

/-- Whether a valid sender or join entry, an NTM_PORT_CFG state other than DISABLED or a valid endpoint names a port
(R503, R519). -/
def State.portNamed (s : State) (p : Nat) : Bool :=
  s.senderNames p ||
  s.anyElem .EGR_JOIN_ENT (fun j => s.flag F.EGR_JOIN_ENT_VALID j && s.fld F.EGR_JOIN_ENT_PORT j == p) ||
  [0, 1, 2, 3].any (fun k => s.ptpState k p != 0) ||
  s.anyElem .NPT_EP_CFG (fun j => s.flag F.NPT_EP_CFG_VALID j && s.fld F.NPT_EP_CFG_PORT j == p)

/-! ### Control frames and their completion (R525, R526) -/

/-- The PHASE that a ring's descriptors carry: 1 until its first wrap, inverted on every wrap. -/
def HostRing.phase (x : HostRing) : Bool := !x.wrapped

/-- The record of a transmit ring, and setting it. -/
def State.txr (s : State) (r : Nat) : HostRing := Tbl.get (fun _ => default) s.net.txr r
def State.setTxr (s : State) (r : Nat) (x : HostRing) : State :=
  { s with net := { s.net with txr := Tbl.set (fun _ => default) r x s.net.txr } }

/-- The record of a receive ring, and setting it. -/
def State.rxr (s : State) (r : Nat) : HostRing := Tbl.get (fun _ => default) s.net.rxr r
def State.setRxr (s : State) (r : Nat) (x : HostRing) : State :=
  { s with net := { s.net with rxr := Tbl.set (fun _ => default) r x s.net.rxr } }

/-- Descriptors of a ring. -/
def State.txrSize (s : State) (r : Nat) : Nat := 2 ^ s.fld F.NPT_TXR_CFG_SIZE r
def State.rxrSize (s : State) (r : Nat) : Nat := 2 ^ s.fld F.NPT_RXR_CFG_SIZE r

/-- Write a transmit descriptor back and raise its ring's vector (Table 14.4, R532). The PHASE is that of the lap in which
the descriptor lies. -/
def State.writeBack (s : State) (r idx time : Nat) (st : Status) : State :=
  let lapNow := (s.txr r).phase
  let phase := if s.fld F.NPT_TXR_HEAD_INDEX r ≤ idx then !lapNow else lapNow
  (s.emit (.txDesc r idx time st phase)).raiseVector (s.fld F.NPT_TXR_CFG_VECTOR r)

/-- Complete a control frame that is not sent (R526). -/
def State.ctrlFail (s : State) (p : Nat) (f : CtrlFrame) (st : Status) : State :=
  let s := if st = .NOT_READY then s.count .NPT_TX_DISCARD p 1 else s
  match f.who with
  | .ring r idx _ => s.writeBack r idx 0 st
  | _ => s

/-- Complete every queued control frame of a port with a status. -/
def State.flushCtrl (s : State) (p : Nat) (st : Status) : State :=
  let q := (s.netPort p).ctrl
  let s := s.setNetPort p { s.netPort p with ctrl := [] }
  q.foldl (fun (s : State) f => s.ctrlFail p f st) s

/-- A frame that does not begin at its fixed instant is discarded (R456). -/
def State.txAbort (s : State) (p : Nat) : State := (s.count .NTM_PHY_TXABORT p 1).irq Irq.NTM_TX_ABORT

/-- Drop the PTP queue of a port whose link falls: frames with a fixed instant are aborted (R456). -/
def State.flushPtp (s : State) (p : Nat) : State :=
  let q := (s.netPort p).ptpq
  let s := s.setNetPort p { s.netPort p with ptpq := [] }
  q.foldl (fun (s : State) f => if f.fixed then s.txAbort p else s) s

/-! ### Link (R505) -/

/-- A port's link goes down: counted and told, and its queued frames complete (R505, R526). -/
def State.portFall (s : State) (p : Nat) : State :=
  if s.linkUp p then
    let s := (s.setFld ⟨.NPT_LINK, p, 1⟩ 0 0).count .NPT_LINK_DOWNS p 1
    let s := s.event Irq.NPT_LINK_DOWN p 0
    let s := if s.portState p = portUp ∨ s.portState p = portLpi then s.setPortState p portDown else s
    (s.flushPtp p).flushCtrl p .NOT_READY
  else s

/-- A port leaves service: its link falls, and it is OFF. -/
def State.portStop (s : State) (p : Nat) (st : Status) : State :=
  let s := s.flushCtrl p st
  (s.portFall p).setPortState p portOff

/-- NPT_STATUS.DRAINING shows that a port still drains after NPT_CTRL.EN was cleared (R529). -/
def State.showNpt (s : State) : State :=
  s.setFlag F.NPT_STATUS_DRAINING 0
    (!s.flag F.NPT_CTRL_EN 0 && (List.range 32).any fun p => s.portState p == portDraining)

/-- Start a port that is enabled and exists: DOWN until its link is up. -/
def State.portStart (s : State) (p : Nat) : State :=
  if s.portExists p && s.flag F.NPT_CTRL_EN 0 && s.portState p == portOff then s.setPortState p portDown else s

/-- The ranges of NPT_PORT_CFG (Table 14.7). -/
def badPortCfg (v : Word) : Bool :=
  F.NPT_PORT_CFG_LP.of v == 3 || decide (F.NPT_PORT_CFG_MTU.of v < 1518) || decide (9216 < F.NPT_PORT_CFG_MTU.of v)

/-- Apply LP to a running port (R517, R518). -/
def State.applyLp (s : State) (p : Nat) : State :=
  let lp := s.fld F.NPT_PORT_CFG_LP p
  let st := s.portState p
  if lp = 2 then (if st = portUp ∨ st = portLpi ∨ st = portDown then s.setPortState p portWakeOnly else s)
  else if st = portWakeOnly then s.setPortState p (if s.linkUp p then portUp else portDown)
  else if st = portLpi ∧ lp = 0 then s.setPortState p portUp
  else s

/-- A write of NPT_PORT_CFG (R505, R516 to R519, R529, R532). -/
def State.writePortCfg (s : State) (src : Requester) (p : Nat) (v : Word) : State :=
  s.guarded .NPT_PORT_CFG src fun s =>
    let en := F.NPT_PORT_CFG_ENABLE.on v
    let kill := F.NPT_PORT_CFG_KILL.on v && !en
    let was := s.flag F.NPT_PORT_CFG_ENABLE p
    let lp := F.NPT_PORT_CFG_LP.of v
    let rate := s.fld F.NPT_PORT_STAT_RATE p
    if s.portState p = portDraining ∧ kill = false then s.refuse .DRAINING
    else if badPortCfg v then s.refuse .BAD_ARG
    else if lp ≠ 0 ∧ rate ≠ 1 ∧ rate ≠ 2 then s.refuse .BAD_ARG
    else if lp = 2 ∧ s.portNamed p = true then s.refuse .REFUSED_POLICY
    else if en && !was && s.domainFailed (10 + p / 4) then s.refuse .NOT_READY
    else
      let s := s.store .NPT_PORT_CFG p v
      if kill then ((s.portStop p .DRAINING).showNpt).answer .OK
      else if en then (if was then s else s.portStart p).applyLp p
      else if was && s.portState p != portOff then s.setPortState p portDraining
      else s

/-- PORT_ENABLE (R505): NPT_PORT_CFG with ENABLE set. -/
def execPortEnable (src : Requester) (p : Fin 32) (w : Word32) (s : State) : Host.Outcome State Fault Refusal :=
  .next (s.writePortCfg src p (F.NPT_PORT_CFG_ENABLE.put 1 (w.setWidth 64)))

/-- PORT_DISABLE (R529): ENABLE cleared. -/
def execPortDisable (src : Requester) (p : Fin 32) (s : State) : Host.Outcome State Fault Refusal :=
  .next (s.writePortCfg src p (F.NPT_PORT_CFG_ENABLE.put 0 (s.reg .NPT_PORT_CFG p)))

/-- PORT_KILL (R529): KILL with ENABLE clear. -/
def execPortKill (src : Requester) (p : Fin 32) (s : State) : Host.Outcome State Fault Refusal :=
  .next (s.writePortCfg src p (F.NPT_PORT_CFG_KILL.put 1 (F.NPT_PORT_CFG_ENABLE.put 0 (s.reg .NPT_PORT_CFG p))))

/-- PORT_DRAIN_DONE (R529): the queued frames have left, or 1 ms has passed. -/
def execPortDrainDone (p : Fin 32) (s : State) : Host.Outcome State Fault Refusal :=
  .next (if s.portState p = portDraining then (s.portStop p .NOT_READY).showNpt else s)

/-- PORT_LINK_UP (R505, R518): the PCS has held block lock and alignment for UP_HOLD, or a waking port forwards again. -/
def execPortLinkUp (p : Fin 32) (s : State) : Host.Outcome State Fault Refusal :=
  .next (if s.portState p = portWaking then s.setPortState p portUp
    else if (s.portState p = portDown ∨ s.portState p = portWakeOnly) ∧ s.linkUp p = false ∧
        s.flag F.NPT_PORT_STAT_LOCAL_FAULT p = false ∧ s.flag F.NPT_PORT_STAT_REMOTE_FAULT p = false then
      let s := if s.portState p = portDown then s.setPortState p portUp else s
      ((s.setFld ⟨.NPT_LINK, p, 1⟩ 0 1).irq Irq.NPT_LINK_UP).joinLinkUp p
    else s)

/-- PORT_FAULT (R505): the local and remote faults of a port change; either takes its link down. -/
def execPortFault (p : Fin 32) (loc rem : Bool) (s : State) : Host.Outcome State Fault Refusal :=
  let s := (s.setFlag F.NPT_PORT_STAT_LOCAL_FAULT p loc).setFlag F.NPT_PORT_STAT_REMOTE_FAULT p rem
  .next (if loc || rem then s.portFall p else s)

/-- A write of NPT_GRP_CFG (R502, R503). -/
def State.writeGrpCfg (s : State) (src : Requester) (g : Nat) (v : Word) : State :=
  s.guarded .NPT_GRP_CFG src fun s =>
    let mode := F.NPT_GRP_CFG_MODE.of v
    let ports := (List.range 4).map (4 * g + ·)
    if mode = 7 then s.refuse .BAD_ARG
    else if ports.any (fun p => s.portNamed p || s.flag F.NPT_PORT_CFG_ENABLE p) then s.refuse .REFUSED_POLICY
    else
      let s := s.store .NPT_GRP_CFG g v
      ports.foldl (fun (s : State) p =>
        let s := s.portStop p .NOT_READY
        (s.setFlag F.NPT_PORT_STAT_EXISTS p (existsIn mode p)).setFld F.NPT_PORT_STAT_RATE p
          (if existsIn mode p then modeRate mode else 0)) s

/-- GROUP_MODE_WRITE (R503). -/
def execGroupModeWrite (src : Requester) (g : Fin 8) (w : Word32) (s : State) : Host.Outcome State Fault Refusal :=
  .next (s.writeGrpCfg src g (w.setWidth 64))

/-- A write of NPT_CTRL (R529). -/
def State.writeNptCtrl (s : State) (src : Requester) (v : Word) : State :=
  s.guarded .NPT_CTRL src fun s =>
    let en := F.NPT_CTRL_EN.on v
    let s := (s.store .NPT_CTRL 0 v).setFlag F.NPT_STATUS_RUN 0 en
    let s := (List.range 32).foldl (fun (s : State) p =>
      if en then (if s.flag F.NPT_PORT_CFG_ENABLE p then (s.portStart p).applyLp p else s)
      else if F.NPT_CTRL_KILL.on v then s.portStop p .DRAINING
      else if s.portState p = portOff then s
      else s.setPortState p portDraining) s
    s.showNpt.answer .OK

/-- NPT_DISABLE (R529): NPT_CTRL.EN cleared, with KILL or not. -/
def execNptDisable (src : Requester) (kill : Bool) (s : State) : Host.Outcome State Fault Refusal :=
  .next (s.writeNptCtrl src (if kill then 2 else 0))

/-! ### Transmit (R511) -/

/-- The time in ps that a frame of some bytes with FCS lasts on a port, with preamble and gap (R506, R511). -/
def frameTime (rate bytes : Nat) : Nat := (max 64 bytes + 20) * 8 * 1000000 / portMbit rate

/-- Count a frame that leaves. -/
def State.countTx (s : State) (p bytes : Nat) : State := (s.count .NPT_TX_FRAMES p 1).count .NPT_TX_BYTES p bytes

/-- A PTP frame leaves, with its one-step fields written and its checksums repaired (R455), or is discarded when it does
not begin at its fixed instant (R456); the Follow_Up of a discarded Sync is not sent. -/
def State.sendPtp (s : State) (p : Nat) (f : PtpFrame) (rest : List PtpFrame) (onTime : Bool) (bytes : Nat) : State :=
  if f.fixed && !onTime then
    let rest := match rest with
      | g :: t => if f.kind = .sync ∧ g.kind = .followUp ∧ g.inst = f.inst then t else rest
      | [] => []
    (s.setNetPort p { s.netPort p with ptpq := rest }).txAbort p
  else
    let s := (s.setNetPort p { s.netPort p with ptpq := rest }).countTx p bytes
    match f.fwd with
    | some m => s.emit (.ptpForward f.inst p true m)
    | none => s.emit (.ptp f.inst p f.kind)

/-- A control frame leaves: it is in progress until TX_FRAME_COMPLETE. -/
def State.sendCtrl (s : State) (p : Nat) (f : CtrlFrame) (rest : List CtrlFrame) : State :=
  let s := s.setNetPort p { s.netPort p with ctrl := rest, leaving := some f }
  let s := s.countTx p (max 64 (f.len + 4))
  match f.who with
  | .clock k m => s.emit (.ptpForward k p false m)
  | _ => s.emit (.ctrlFrame p f)

/-- The choice of R511 on a port whose link is up: `media` is the time in ps until the next scheduled MEDIA departure, and
its bytes; `ptpBytes` and `onTime` are of the PTP frame that waits first. -/
def State.transmit (s : State) (p : Nat) (media : Option (Nat × Nat)) (ptpBytes : Nat) (onTime : Bool) : State :=
  let x := s.netPort p
  let soon := match media with | some m => decide (m.1 ≤ 100000) | none => false
  match x.ptpq, media with
  | f :: rest, some m => if soon then s.countTx p m.2 else s.sendPtp p f rest onTime ptpBytes
  | f :: rest, none => s.sendPtp p f rest onTime ptpBytes
  | [], _ =>
    let due := match media with | some m => m.1 == 0 | none => false
    if due then s.countTx p (match media with | some m => m.2 | none => 0)
    else match x.ctrl with
      | [] => s
      | f :: rest =>
        let fits := match media with
          | some m => decide (frameTime (s.fld F.NPT_PORT_STAT_RATE p) (f.len + 4) ≤ m.1)
          | none => true
        if fits && !s.flag F.NPT_PORT_STAT_PAUSED p then s.sendCtrl p f rest else s

/-- PORT_TRANSMIT (R511, R517): no frame is leaving, and the port chooses its next. A frame ends LPI. -/
def execPortTransmit (p : Fin 32) (media : Option (Nat × Nat)) (ptpBytes : Nat) (onTime : Bool) (s : State) :
    Host.Outcome State Fault Refusal :=
  let x := s.netPort p
  .next (if !s.linkUp p || x.leaving.isSome then s
    else if s.portState p = portUp ∨ s.portState p = portDraining then s.transmit p media ptpBytes onTime
    else if s.portState p = portLpi ∧ (media.isSome = true ∨ x.ptpq ≠ [] ∨ x.ctrl ≠ []) then s.setPortState p portUp
    else s)

/-- TX_FRAME_COMPLETE (R526): a control frame has left at `time` on NTM_CTRL.RING_TB. -/
def execTxFrameComplete (p : Fin 32) (time : Nat) (s : State) : Host.Outcome State Fault Refusal :=
  let x := s.netPort p
  .next (match x.leaving with
    | none => s
    | some f =>
      let s := s.setNetPort p { x with leaving := none }
      match f.who with
      | .ring r idx ts => s.writeBack r idx (if ts then time else 0) .OK
      | _ => s)

/-! ### PAUSE and PFC (R512 to R515) -/

/-- PAUSE_RECEIVE: a PAUSE frame, or a PFC frame with its class-enable vector and the quanta of each priority. -/
def execPauseReceive (p : Fin 32) (pfc : Bool) (classes : BitVec 8) (quanta : List (Fin 65536)) (s : State) :
    Host.Outcome State Fault Refusal :=
  .next (if !s.linkUp p || s.portState p == portWakeOnly then s
    else
      let s := s.count .NPT_PAUSE_RX p 1
      let prio := s.fld F.NPT_PORT_PRIO_CTRL_PCP p
      let names := !pfc || classes.getLsbD (s.fld F.NPT_PORT_PRIO_MEDIA_PCP p) || classes.getLsbD (s.fld F.NPT_PORT_PRIO_PTP_PCP p)
      let s := if names then (s.count .NPT_PAUSE_IGN p 1).irq Irq.NPT_PAUSE_IGN else s
      if s.flag F.NPT_PORT_CFG_PFC p != pfc || (pfc && !classes.getLsbD prio) then s
      else
        let q := (quanta.getD (if pfc then prio else 0) 0).val
        (s.setNetPort p { s.netPort p with quanta := q }).setFlag F.NPT_PORT_STAT_PAUSED p (q != 0))

/-- PAUSE_EXPIRE (R513): the pause timer ends. -/
def execPauseExpire (p : Fin 32) (s : State) : Host.Outcome State Fault Refusal :=
  .next ((s.setNetPort p { s.netPort p with quanta := 0 }).setFlag F.NPT_PORT_STAT_PAUSED p false)

/-! ### Energy-efficient Ethernet and wake-only mode (R516 to R519) -/

/-- LPI_ENTER (R517): the queues have been empty for IDLE_US. -/
def execLpiEnter (p : Fin 32) (s : State) : Host.Outcome State Fault Refusal :=
  let x := s.netPort p
  .next (if s.fld F.NPT_PORT_CFG_LP p = 1 ∧ s.portState p = portUp ∧ s.linkUp p = true ∧ s.senderNames p = false ∧
      x.ptpq = [] ∧ x.ctrl = [] ∧ x.leaving = none then
      (s.setPortState p portLpi).count .NPT_LPI_ENTRIES p 1
    else s)

/-- WAKE_FRAME (R518): a frame reaches the wake matcher of a port in WAKE_ONLY; every other frame is discarded. -/
def execWakeFrame (p : Fin 32) (f : RxFrame) (s : State) : Host.Outcome State Fault Refusal :=
  .next (if s.portState p = portWakeOnly ∧ f.dest = .own ∧ f.wake = some (s.reg .NPT_WAKE_PAT 0) then
      (((s.irq Irq.NPT_WAKE).wake wakePort).setFld F.NPT_PORT_CFG_LP p 0).setPortState p portWaking
    else s)

/-- A write of NPT_PORT_EEE (R516, R532). -/
def State.writeEee (s : State) (src : Requester) (p : Nat) (v : Word) : State :=
  s.guarded .NPT_PORT_EEE src fun s =>
    if F.NPT_PORT_EEE_IDLE_US.of v = 0 ∨ F.NPT_PORT_EEE_TW.of v < Config.wakeTime (s.fld F.NPT_PORT_STAT_RATE p) then
      s.refuse .BAD_ARG
    else s.store .NPT_PORT_EEE p v

/-! ### Receive rings (R523, R524) -/

/-- Buffers that software has posted and the part has not used. -/
def State.rxrPosted (s : State) (r : Nat) : Nat :=
  (s.fld F.NPT_RXR_TAIL_INDEX r + s.rxrSize r - s.fld F.NPT_RXR_HEAD_INDEX r % s.rxrSize r) % s.rxrSize r

/-- Raise a receive ring's vector: at once, or once per COAL_US (R523). -/
def State.rxrVector (s : State) (r : Nat) : State :=
  let x := s.rxr r
  if s.fld F.NPT_RXR_CFG_COAL_US r = 0 then s.raiseVector (s.fld F.NPT_RXR_CFG_VECTOR r)
  else if x.coal then s.setRxr r { x with more := true }
  else (s.setRxr r { x with coal := true, more := false }).raiseVector (s.fld F.NPT_RXR_CFG_VECTOR r)

/-- Write one receive descriptor at HEAD and advance it, inverting PHASE at a wrap. -/
def State.rxDescOut (s : State) (r len port cls entry flags frameLen time : Nat) (st : Status) : State :=
  let h := s.fld F.NPT_RXR_HEAD_INDEX r
  let x := s.rxr r
  let s := s.emit (.rxDesc r h len port cls entry flags frameLen time st x.phase)
  let s := if h + 1 = s.rxrSize r then s.setRxr r { x with wrapped := !x.wrapped } else s
  s.setFld F.NPT_RXR_HEAD_INDEX r ((h + 1) % s.rxrSize r)

/-- Write a frame's descriptors in ring order: `left` bytes remain in `n` buffers. -/
def State.rxFill (s : State) (r port cls entry total time : Nat) (chk first : Bool) : Nat → Nat → State
  | 0, _ => s
  | n + 1, left =>
    let buf := 256 * s.fld F.NPT_RXR_CFG_BUFSZ r
    let last := n == 0
    let flags := (if first then 1 else 0) + (if last then 2 else 0) + (if chk then 4 else 0)
    (s.rxDescOut r (min buf left) port cls entry flags (if last then total else 0) time .OK).rxFill r port cls entry total time
      chk false n (left - buf)

/-- Deliver a control frame to a host ring, or discard it for want of buffers (R524). -/
def State.toRing (s : State) (r port cls entry : Nat) (chk : Bool) (f : RxFrame) : State :=
  let total := f.bytes.length
  let need := ceilDiv total (256 * s.fld F.NPT_RXR_CFG_BUFSZ r)
  if s.rxrPosted r < need then (s.count .NPT_RXR_DROP r 1).irq Irq.NPT_RXR_DROP
  else ((s.rxFill r port cls entry total f.time chk true need total).count .NPT_RXR_FRAMES r 1).rxrVector r

/-- The little-endian bytes of a number. -/
def leBytes (n v : Nat) : List Byte := (List.range n).map fun i => BitVec.ofNat 8 (v / 256 ^ i)

/-- A RING item: the 16-byte envelope and the frame (R522). -/
def ringItem (port cls : Nat) (f : RxFrame) : List Byte :=
  leBytes 2 f.bytes.length ++ leBytes 1 port ++ leBytes 1 cls ++ leBytes 4 0 ++ leBytes 8 f.time ++ f.bytes

/-- The first steering entry that a control frame matches (R520). -/
def State.steerEntry (s : State) (cls udp : Nat) : Option Nat :=
  (List.range 64).find? fun e => s.flag F.NPT_STEER_VALID e && s.fld F.NPT_STEER_CLASS e == cls &&
    (cls != 5 || s.fld F.NPT_STEER_UDP e == 0 || s.fld F.NPT_STEER_UDP e == udp)

/-- A frame whose target is unavailable, or that is too long (R520, R522). -/
def State.steerDrop (s : State) : State := (s.count .NPT_STEER_DROP 0 1).irq Irq.NPT_STEER_DROP

/-- CONTROL_STEER (R520). -/
def State.steerCtrl (s : State) (port cls udp : Nat) (f : RxFrame) : State :=
  match s.steerEntry cls udp with
  | none => (s.count .NPT_STEER_MISS 0 1).irq Irq.NPT_STEER_DROP
  | some e =>
    let t := s.fld F.NPT_STEER_TARGET e
    if s.flag F.NPT_STEER_SLOT e then
      if (s.svc t).at_.isNone || decide (2032 < f.bytes.length) then s.steerDrop
      else s.giveRing t 32 (ringItem port cls f)
    else if s.flag F.NPT_RXR_CFG_EN t then s.toRing t port cls e (s.flag F.NPT_PORT_CFG_RX_CSUM port) f
    else s.steerDrop

/-- RXR_COALESCE_TIMER (R523): COAL_US has passed since the ring's vector was raised. -/
def execRxrCoalesceTimer (r : Fin 16) (s : State) : Host.Outcome State Fault Refusal :=
  let x := s.rxr r
  .next (if !x.coal then s
    else if x.more then (s.setRxr r { x with more := false }).raiseVector (s.fld F.NPT_RXR_CFG_VECTOR r)
    else s.setRxr r { x with coal := false })

/-- A write of NPT_RXR_TAIL. -/
def State.writeRxrTail (s : State) (src : Requester) (r : Nat) (v : Word) : State :=
  s.guarded .NPT_RXR_TAIL src fun s => s.store .NPT_RXR_TAIL r v

/-- RXR_TAIL_DOORBELL (R523): software has posted buffers. -/
def execRxrTailDoorbell (src : Requester) (r : Fin 16) (tail : Fin 4096) (s : State) : Host.Outcome State Fault Refusal :=
  .next (s.writeRxrTail src r (BitVec.ofNat 64 tail))

/-! ### Transmit rings (R525, R526) -/

/-- What refuses a posted frame (R526). -/
def State.txBad (s : State) (f : TxFrame) : Option Status :=
  let len := f.lens.sum
  if decide (len < 14) || decide (8 < f.lens.length) || f.lens.any (fun n => n == 0 || decide (16384 < n)) ||
      !s.portExists f.port || decide (s.fld F.NPT_PORT_CFG_MTU f.port - 4 < len) then some .BAD_ARG
  else if !s.linkUp f.port || !s.flag F.NPT_PORT_CFG_ENABLE f.port || s.wakeOnly f.port then some .NOT_READY
  else none

/-- Take the posted frames in ring order, while software has posted their descriptors. -/
def State.takeTx (s : State) (r : Nat) : List TxFrame → State
  | [] => s
  | f :: fs =>
    let size := s.txrSize r
    let h := s.fld F.NPT_TXR_HEAD_INDEX r
    let posted := (s.fld F.NPT_TXR_TAIL_INDEX r + size - h % size) % size
    let n := f.lens.length
    if n = 0 ∨ posted < n then s
    else
      let x := s.txr r
      let s := if size ≤ h + n then s.setTxr r { x with wrapped := !x.wrapped } else s
      let s := s.setFld F.NPT_TXR_HEAD_INDEX r ((h + n) % size)
      let last := (h + n - 1) % size
      let c : CtrlFrame := ⟨.ring r last f.ts, f.lens.sum⟩
      (match s.txBad f with
        | some st => s.ctrlFail f.port c st
        | none => s.queueCtrl f.port c).takeTx r fs

/-- A write of NPT_TXR_TAIL; `frames` are the frames that the posted descriptors hold in host memory. -/
def State.writeTxrTail (s : State) (src : Requester) (r : Nat) (v : Word) (frames : List TxFrame) : State :=
  s.guarded .NPT_TXR_TAIL src fun s =>
    let s := s.store .NPT_TXR_TAIL r v
    if s.flag F.NPT_TXR_CFG_EN r then s.takeTx r frames else s

/-- TXR_TAIL_DOORBELL (R525). -/
def execTxrTailDoorbell (src : Requester) (r : Fin 16) (tail : Fin 4096) (frames : List TxFrame) (s : State) :
    Host.Outcome State Fault Refusal :=
  .next (s.writeTxrTail src r (BitVec.ofNat 64 tail) frames)

/-- Return every posted receive descriptor unused (R529). -/
def State.returnPosted (s : State) (r : Nat) : Nat → State
  | 0 => s
  | n + 1 => (s.rxDescOut r 0 0 0 0 0 0 0 .DRAINING).returnPosted r n

/-- A write of NPT_RXR_CFG (R529, R532). -/
def State.writeRxrCfg (s : State) (src : Requester) (r : Nat) (v : Word) : State :=
  s.guarded .NPT_RXR_CFG src fun s =>
    let size := F.NPT_RXR_CFG_SIZE.of v
    let buf := F.NPT_RXR_CFG_BUFSZ.of v
    let was := s.flag F.NPT_RXR_CFG_EN r
    if size < 4 ∨ 12 < size ∨ buf = 0 ∨ 64 < buf then s.refuse .BAD_ARG
    else if was && (size != s.fld F.NPT_RXR_CFG_SIZE r || buf != s.fld F.NPT_RXR_CFG_BUFSZ r) then s.refuse .BUSY
    else
      let s := if was && !F.NPT_RXR_CFG_EN.on v then s.returnPosted r (s.rxrPosted r) else s
      s.store .NPT_RXR_CFG r v

/-- A write of NPT_TXR_CFG (R529, R532). -/
def State.writeTxrCfg (s : State) (src : Requester) (r : Nat) (v : Word) : State :=
  s.guarded .NPT_TXR_CFG src fun s =>
    let size := F.NPT_TXR_CFG_SIZE.of v
    if size < 4 ∨ 12 < size then s.refuse .BAD_ARG
    else if s.flag F.NPT_TXR_CFG_EN r && size != s.fld F.NPT_TXR_CFG_SIZE r then s.refuse .BUSY
    else s.store .NPT_TXR_CFG r v

/-- A write of a ring base: BUSY while the ring's EN is set (R532); 64-byte aligned. -/
def State.writeRingBase (s : State) (src : Requester) (r : Reg) (i : Nat) (v : Word) : State :=
  s.guarded r src fun s =>
    if s.flag (if r = .NPT_RXR_BASE then F.NPT_RXR_CFG_EN else F.NPT_TXR_CFG_EN) i then s.refuse .BUSY else s.store r i v

/-- RING_DISABLE (R529): a ring's EN cleared. -/
def execRingDisable (src : Requester) (rx : Bool) (r : Fin 16) (s : State) : Host.Outcome State Fault Refusal :=
  .next (if rx then s.writeRxrCfg src r (F.NPT_RXR_CFG_EN.put 0 (s.reg .NPT_RXR_CFG r))
    else s.writeTxrCfg src r (F.NPT_TXR_CFG_EN.put 0 (s.reg .NPT_TXR_CFG r)))

/-- A write of NPT_STEER (Table 14.7). -/
def State.writeSteerEntry (s : State) (src : Requester) (e : Nat) (v : Word) : State :=
  s.guarded .NPT_STEER src fun s =>
    if F.NPT_STEER_CLASS.of v = 7 ∨ (F.NPT_STEER_SLOT.on v = false ∧ 15 < F.NPT_STEER_TARGET.of v) then s.refuse .BAD_ARG
    else s.store .NPT_STEER e v

/-- A write of NPT_EP_CFG: a valid endpoint names a port that exists (R504). -/
def State.writeEpCfg (s : State) (src : Requester) (e : Nat) (v : Word) : State :=
  s.guarded .NPT_EP_CFG src fun s =>
    if F.NPT_EP_CFG_VALID.on v && !s.portExists (F.NPT_EP_CFG_PORT.of v) then s.refuse .BAD_ARG
    else s.store .NPT_EP_CFG e v

/-- Frames of services in the CTRL queues: at most 256 (R527). -/
def State.svcFrames (s : State) : Nat :=
  s.net.ports.foldl (fun (a : Nat) (e : Nat × NetPort) =>
    a + (e.2.ctrl.filter fun f => match f.who with | .service _ => true | _ => false).length) 0

/-- xmit of some payload bytes from endpoint j of a slot (R311, R527): the frame with its Ethernet, IP and UDP headers
joins the port's CTRL queue. -/
def State.xmit (s : State) (slot j len : Nat) : State × Status :=
  let e := 16 * slot + j
  let p := s.fld F.NPT_EP_CFG_PORT e
  if len = 0 ∨ 1400 < len then (s, .BAD_ARG)
  else if !s.flag F.NPT_EP_CFG_VALID e || !s.linkUp p || !s.flag F.NPT_PORT_CFG_ENABLE p || s.wakeOnly p then (s, .NOT_READY)
  else if 256 ≤ s.svcFrames then (s, .BUSY)
  else (s.queueCtrl p ⟨.service slot, 14 + ipUdp (s.flag F.NPT_EP_CFG_AF e) + len⟩, .OK)

/-! ### Reception (R47, R506 to R510, R521) -/

/-- The context of each kind bound to a flow. -/
def State.videoCtx (s : State) (flow : Nat) : Option Nat :=
  ((Tbl.get (fun _ => []) s.regs Reg.ING_PKT_VID.ctorIdx).find? fun e =>
    s.flag F.ING_PKT_VID_VALID e.1 && s.fld F.ING_PKT_VID_FLOW e.1 == flow).map (·.1)
def State.audioCtx (s : State) (flow : Nat) : Option Nat :=
  ((Tbl.get (fun _ => []) s.regs Reg.ING_AFL_CFG.ctorIdx).find? fun e =>
    s.flag F.ING_AFL_CFG_VALID e.1 && s.fld F.ING_AFL_CFG_FLOW e.1 == flow).map (·.1)
def State.ancCtx (s : State) (flow : Nat) : Option Nat :=
  ((Tbl.get (fun _ => []) s.regs Reg.ING_ANF_CFG.ctorIdx).find? fun e =>
    s.flag F.ING_ANF_CFG_VALID e.1 && s.fld F.ING_ANF_CFG_FLOW e.1 == flow).map (·.1)

/-- The leg A identifier of a flow, and whether the flow is a leg B (R123). -/
def State.legOf (s : State) (flow : Nat) : Nat × Bool :=
  if dirTwo (s.dirEntry flow) && flow % 2 == 1 then (flow - 1, true) else (flow, false)

/-- A packet of a directory flow goes to the context bound to its leg A, or is dropped (Table 02.3). -/
def State.mediaIn (s : State) (p flow : Nat) (ctx : Option Nat) (k : Nat → State → State) : State :=
  if !dirValid (s.dirEntry flow) then s.count .ING_UNMATCHED (p / 4) 1
  else
    let s := s.joinMatch p flow
    match ctx with
    | none => s.count .ING_UNBOUND (p / 4) 1
    | some c => k c s

/-- PACKET_CLASSIFY (R47). -/
def State.classify (s : State) (p : Nat) (f : RxFrame) : State :=
  match f.payload with
  | .video flow ext num samples =>
    let l := s.legOf flow
    s.mediaIn p flow (s.videoCtx l.1) fun c s => s.videoPacket c l.2 ext num samples
  | .audio flow ext late =>
    s.mediaIn p flow (s.audioCtx (s.legOf flow).1) fun c s => s.audioPacket c ext late
  | .anc flow num bytes =>
    s.mediaIn p flow (s.ancCtx (s.legOf flow).1) fun c s => s.ancFlowPacket c num bytes
  | .control cls udp asksUs =>
    let s := if asksUs && s.flag F.NPT_PORT_CFG_ARP_HW p then s.queueCtrl p ⟨.answer, 60⟩ else s
    s.steerCtrl p cls udp f
  | .unmatched => s.count .ING_UNMATCHED (p / 4) 1

/-- The checks of R506 to R510, and what passes them. -/
def State.macIn (s : State) (p : Nat) (f : RxFrame) (k : State → State) : State :=
  let s := (s.count .NPT_RX_FRAMES p 1).count .NPT_RX_BYTES p f.len
  if !f.fcsOk then (s.count .NPT_RX_FCS p 1).irq Irq.NPT_FCS_ERR
  else if f.len < 64 ∨ s.fld F.NPT_PORT_CFG_MTU p < f.len then s.count .NPT_RX_LEN p 1
  else if (match f.vlan with | some v => v != 0 | none => false) then s.count .NPT_RX_TAG p 1
  else if f.dest = .other then s.count .NPT_RX_ADDR p 1
  else if s.flag F.NPT_PORT_CFG_RX_CSUM p && f.badSum then (s.count .NPT_RX_CSUM p 1).irq Irq.NPT_CSUM_ERR
  else k s

/-- NETWORK_FRAME_RECEIVE (R506): a frame received whole on a port. A port without link or in WAKE_ONLY receives none
here; frames that arrive while a port wakes are discarded and counted (R518). -/
def execNetworkFrameReceive (p : Fin 32) (f : RxFrame) (s : State) : Host.Outcome State Fault Refusal :=
  .next (if s.portState p = portWaking then s.count .NPT_RX_LEN p 1
    else if !s.linkUp p || s.portState p == portWakeOnly then s
    else s.macIn p f fun s => s.classify p f)

/-- PTP_MESSAGE_RECEIVE (R450, R451): consumed by the hardware, forwarded by a transparent clock, or steered as class 4. -/
def execPtpMessageReceive (p : Fin 32) (m : PtpMsg) (f : RxFrame) (s : State) : Host.Outcome State Fault Refusal :=
  .next (if !s.linkUp p || s.portState p == portWakeOnly then s
    else s.macIn p f fun s =>
      match s.ptpInst p m with
      | none => s.steerCtrl p 4 0 f
      | some k =>
        if 2 ≤ s.fld F.NTM_INST_CFG_ROLE k then s.ptpRelay k p m
        else if m.kind.consumed then s.ptpConsume k p m
        else (if m.kind = .announce then s.ptpConsume k p m else s).steerCtrl p 4 0 f)

end Sys2Proof.Machine
end

