-- ==== Sys2Proof/Machine/Vamp.lean ====
section
/-! DEFINITION. Vamp: pipes, layers, commits and surfaces (chapter 10, R378 to R405). -/

namespace Sys2Proof.Machine

/-! ### Banks -/

/-- Input LUT entry k at reset: k × 0x80_0000 / 4,095, rounded down (R394). -/
def ilutReset (k : Nat) : BitVec 32 := BitVec.ofNat 32 (k % 4096 * 0x800000 / 4095)

/-- Output LUT entry i at reset: the code whose linear value has the square root i / 4,095, rounded down (R393, R394). -/
def olutReset (i : Nat) : BitVec 32 := BitVec.ofNat 32 (i % 4096 * (i % 4096) / 4095)

/-- The record of a pipe. -/
def State.pipe (s : State) (v : Nat) : Pipe10 := Tbl.get (fun _ => default) s.vmp.pipes v

/-- Set the record of a pipe. -/
def State.setPipe (s : State) (v : Nat) (p : Pipe10) : State :=
  { s with vmp := { s.vmp with pipes := Tbl.set (fun _ => default) v p s.vmp.pipes } }

/-- Word w of layer l of a bank. -/
def VmpBank.word (b : VmpBank) (l w : Nat) : Nat := (Tbl.get (fun _ => 0) b.layers (16 * l + w)).toNat

/-- The sixteen words of layer l. -/
def VmpBank.words (b : VmpBank) (l : Nat) : List (BitVec 32) := (List.range 16).map fun w => Tbl.get (fun _ => 0) b.layers (16 * l + w)

/-- Set the descriptor of layer l. -/
def VmpBank.setLayer (b : VmpBank) (l : Nat) (ws : List (BitVec 32)) : VmpBank :=
  { b with layers := ws.zipIdx.foldl (fun (t : Tbl (BitVec 32)) e => Tbl.set (fun _ => 0) (16 * l + e.2) e.1 t) b.layers }

/-! ### A layer's fields (Table 10.2) -/

/-- A layer descriptor's fields. -/
structure Desc where
  enable : Bool
  kind : Nat
  policy : Nat
  key : Nat
  vtaps : Nat
  keysrc : Nat
  index : Nat
  sx : Nat
  sy : Nat
  sw : Nat
  sh : Nat
  dx : Nat
  dy : Nat
  dw : Nat
  dh : Nat
  gen : Nat
  deriving DecidableEq, Repr, Inhabited

/-- The fields of sixteen words. -/
def descOf (ws : List (BitVec 32)) : Desc :=
  let w := fun i lo len => ((ws.getD i 0).toNat >>> lo) % 2 ^ len
  ⟨w 0 31 1 == 1, w 0 29 2, w 0 27 2, w 0 25 2, w 0 22 2, w 1 16 9, w 1 0 9, w 2 0 16, w 2 16 16, w 3 0 16, w 3 16 16,
    w 4 0 16, w 4 16 16, w 5 0 16, w 5 16 16, w 9 0 32⟩

/-- The bits of each word that are not reserved (Table 10.2). -/
def descMask : List Nat :=
  [0xFFFFCFFF, 0x01FF01FF, 0xFFFFFFFF, 0xFFFFFFFF, 0xFFFFFFFF, 0xFFFFFFFF, 0x0FFFFFFF, 0x3FFFFFFF, 0x3FFFFFFF, 0xFFFFFFFF, 0, 0, 0, 0, 0, 0]

/-- Words with their reserved bits clear (R4). -/
def maskDesc (ws : List (BitVec 32)) : List (BitVec 32) :=
  descMask.zipIdx.map fun e => ws.getD e.2 0 &&& BitVec.ofNat 32 e.1

/-- The tap count of a VTAPS code; 0 for bypass. -/
def tapsOf (v : Nat) : Nat := match v with | 1 => 2 | 2 => 4 | 3 => 8 | _ => 0

/-- A layer fits its line buffer (R391, Table 10.3). -/
def Desc.fits (d : Desc) : Bool := decide (tapsOf d.vtaps * d.sw ≤ 32768)

/-- What breaks Table 10.2 or the geometry of R388. -/
def Desc.bad (d : Desc) : Bool :=
  d.kind == 3 || d.policy == 3 || (d.key == 1 && d.kind != 1) || (d.key == 3 && d.kind != 0) ||
  decide (383 < d.keysrc ∨ 383 < d.index ∨ (d.kind = 1 ∧ 255 < d.index)) ||
  decide (8191 < d.sx ∨ 8191 < d.sy ∨ 8191 < d.dx ∨ 8191 < d.dy) ||
  decide (d.sw = 0 ∨ 8192 < d.sw ∨ d.sh = 0 ∨ 8192 < d.sh ∨ d.dw = 0 ∨ 8192 < d.dw ∨ d.dh = 0 ∨ 8192 < d.dh) ||
  decide (8192 < d.sx + d.sw ∨ 8192 < d.sy + d.sh) ||
  decide (16 * d.sw < d.dw ∨ 8 * d.dw < d.sw ∨ 16 * d.sh < d.dh ∨ 8 * d.dh < d.sh) ||
  (d.vtaps == 0 && d.sh != d.dh)

/-! ### Read charge and budget (R380, R389) -/

/-- The bytes of a frame that the enabled layers of a bank are charged (R389). -/
def VmpBank.charge (b : VmpBank) : Nat :=
  (List.range 16).foldl (fun a l =>
    let d := descOf (b.words l)
    if d.enable && d.kind != 2 then a + d.sw * d.sh * 6 else a) 0

/-- The domain of a pipe. -/
def State.pipeOtd (s : State) (v : Nat) : Nat := s.fld F.VMP_PIPE_CFG_OTD v

/-- The budget of a pipe or ganged group in GB/s (R380). -/
def pipeBudget (gang : Bool) : Nat := if gang then 200 else 50

/-- Whether a bank's charge is within its pipe's limit (R389). -/
def State.chargeFits (s : State) (v : Nat) (b : VmpBank) : Bool :=
  let code := s.otdFormat (s.pipeOtd v)
  decide (b.charge * rateNum code ≤ pipeBudget (s.flag F.VMP_PIPE_CFG_GANG v) * 1000000000 * rateDen code)

/-- Show the shadow's read charge in 10 MB/s. -/
def State.showCharge (s : State) (v : Nat) : State :=
  let code := s.otdFormat (s.pipeOtd v)
  s.setFld F.VMP_PIPE_READ_N v ((s.pipe v).shadow.charge * rateNum code / (rateDen code * 10000000))

/-! ### Pipe states (R380, R396, R402, R403, Table 10.6) -/

/-- The states of Table 10.8. -/
def pipeOff : Nat := 0
def pipeRun : Nat := 1
def pipeDraining : Nat := 2

/-- VMP_PIPE_STAT.STATE. -/
def State.pipeState (s : State) (v : Nat) : Nat := s.fld F.VMP_PIPE_STAT_STATE v

/-- Whether pipe v belongs to a group ganged on a lower pipe that is not OFF (R381). -/
def State.gangMember (s : State) (v : Nat) : Bool :=
  v % 4 != 0 && s.flag F.VMP_PIPE_CFG_GANG (v / 4 * 4) && s.pipeState (v / 4 * 4) != pipeOff

/-- Surfaces read or held by the layers of every pipe (R386). -/
def State.surfUse (s : State) (m : Nat) : Nat :=
  s.vmp.pipes.foldl (fun a e => a + (e.2.drawn.filter fun q =>
    (s.fld F.VMP_LAYER_STAT_SHOWN (e.1 * 16 + q.1) == 1 || s.fld F.VMP_LAYER_STAT_SHOWN (e.1 * 16 + q.1) == 2) &&
    (match q.2 with | some d => d.surf == some m | none => false)).length) 0

/-- Show VMP_SURF_USE of every valid surface. -/
def State.showUse (s : State) : State :=
  (List.range 256).foldl (fun (s : State) m =>
    if s.surfUse m = s.fld F.VMP_SURF_USE_N m then s else s.setFld F.VMP_SURF_USE_N m (s.surfUse m)) s

/-- Discard a pipe's pending commit. -/
def State.dropCommit (s : State) (v : Nat) : State :=
  let s := s.setPipe v { s.pipe v with pend := none }
  ((s.setReg .VMP_PIPE_PEND v 0).setFlag F.VMP_PIPE_STAT_PENDING v false).setFlag F.VMP_PIPE_STAT_HOLDING v false

/-- Whether every pipe is OFF: a draining block has stopped. -/
def State.vmpIdle (s : State) : State :=
  if s.flag F.VMP_STATUS_DRAINING 0 && (List.range 16).all (fun v => s.pipeState v == pipeOff) then
    s.setFlag F.VMP_STATUS_DRAINING 0 false
  else s

/-- A pipe goes OFF: its source is black, its budget released and its surfaces let go. -/
def State.pipeStop (s : State) (v : Nat) (killed : Bool) : State :=
  let gang := s.flag F.VMP_PIPE_CFG_GANG v
  let s := s.dropCommit v
  let s := s.setPipe v { s.pipe v with drawn := [], black := true }
  let s := (List.range 16).foldl (fun (s : State) l => s.setReg .VMP_LAYER_STAT (v * 16 + l) 0) s
  let s := s.setFld F.VMP_BUDGET_GBS 0 (s.fld F.VMP_BUDGET_GBS 0 - pipeBudget gang)
  let s := (s.setFld F.VMP_PIPE_STAT_STATE v pipeOff).setFlag F.VMP_PIPE_STAT_KILLED v killed
  (s.setFlag F.VMP_PIPE_CFG_ENABLE v false).showUse.vmpIdle

/-- KILL written 1 with ENABLE 0. -/
def State.pipeKill (s : State) (v : Nat) : State := (s.pipeStop v true).irq Irq.VMP_KILLED

/-- ENABLE written 0: the frame completes, and a pending commit is discarded. -/
def State.pipeDrain (s : State) (v : Nat) : State := (s.dropCommit v).setFld F.VMP_PIPE_STAT_STATE v pipeDraining

/-- The checks of R380, in order; `cfg` is the word written. -/
def State.pipeRefusal (s : State) (v : Nat) (cfg : Word) : Option Status :=
  let d := F.VMP_PIPE_CFG_OTD.of cfg
  let gang := F.VMP_PIPE_CFG_GANG.on cfg
  if !s.flag F.VMP_CTRL_EN 0 || s.domainFailed 26 then some .NOT_READY
  else if !s.otdEnabled d then some .NOT_READY
  else if (rasterOf (s.otdFormat d) == 8) != gang then some .FORMAT_MISMATCH
  else if gang && (v % 4 != 0 || [1, 2, 3].any (fun i => s.pipeState (v + i) != pipeOff) || F.VMP_PIPE_CFG_OUT_FORM.on cfg) then
    some .REFUSED_POLICY
  else if s.gangMember v then some .REFUSED_POLICY
  else if storeBudget < s.storeLoad + pipeBudget gang * 100000 then some .NO_ROOM
  else none

/-- A write of VMP_PIPE_CFG (R380, R402). -/
def State.writePipeCfg (s : State) (src : Requester) (v : Nat) (w : Word) : State :=
  s.guarded .VMP_PIPE_CFG src fun s =>
    let en := F.VMP_PIPE_CFG_ENABLE.on w
    let st := s.pipeState v
    let fixed : Word := 0x3E000000
    if !en && F.VMP_PIPE_CFG_KILL.on w && st != pipeOff then (s.pipeKill v).answer .OK
    else if st = pipeDraining then (s.irq Irq.VMP_DRAIN_WR).refuse .DRAINING
    else if st = pipeRun && (s.reg .VMP_PIPE_CFG v ^^^ w) &&& fixed != 0 then s.refuse .REFUSED_POLICY
    else if st = pipeRun then
      let s := s.store .VMP_PIPE_CFG v w
      if en then s else s.pipeDrain v
    else if !en then (s.store .VMP_PIPE_CFG v w).showCharge v
    else match s.pipeRefusal v w with
      | some st => s.refuse st
      | none =>
        let s := s.store .VMP_PIPE_CFG v w
        let s := s.setFld F.VMP_BUDGET_GBS 0 (s.fld F.VMP_BUDGET_GBS 0 + pipeBudget (F.VMP_PIPE_CFG_GANG.on w))
        let s := s.setPipe v { s.pipe v with drawn := [], black := true, pend := none }
        ((s.setFld F.VMP_PIPE_STAT_STATE v pipeRun).setFlag F.VMP_PIPE_STAT_KILLED v false).showCharge v

/-- PIPE_ENABLE (R380): VMP_PIPE_CFG written with ENABLE 1. -/
def execPipeEnable (src : Requester) (v : Fin 16) (w : Word32) (s : State) : Host.Outcome State Fault Refusal :=
  .next (s.writePipeCfg src v (F.VMP_PIPE_CFG_ENABLE.put 1 (w.setWidth 64)))

/-- PIPE_DISABLE (R402): ENABLE written 0, the other fields as they stand. -/
def execPipeDisable (src : Requester) (v : Fin 16) (s : State) : Host.Outcome State Fault Refusal :=
  .next (s.writePipeCfg src v (F.VMP_PIPE_CFG_ENABLE.put 0 (s.reg .VMP_PIPE_CFG v)))

/-- PIPE_KILL (R402): KILL written 1 with ENABLE 0. -/
def execPipeKill (src : Requester) (v : Fin 16) (s : State) : Host.Outcome State Fault Refusal :=
  .next (s.writePipeCfg src v (F.VMP_PIPE_CFG_KILL.put 1 (F.VMP_PIPE_CFG_ENABLE.put 0 (s.reg .VMP_PIPE_CFG v))))

/-- PIPE_DRAIN_DONE (R402): the frame of a draining pipe is complete. -/
def execPipeDrainDone (v : Fin 16) (s : State) : Host.Outcome State Fault Refusal :=
  .next (if s.pipeState v = pipeDraining then s.pipeStop v false else s)

/-- A write of VMP_CTRL (R403). -/
def State.writeVmpCtrl (s : State) (src : Requester) (w : Word) : State :=
  s.guarded .VMP_CTRL src fun s =>
    let s := s.store .VMP_CTRL 0 (F.VMP_CTRL_KILL.put 0 w)
    if F.VMP_CTRL_EN.on w then (s.setFlag F.VMP_STATUS_RUN 0 true).setFlag F.VMP_STATUS_DRAINING 0 false
    else
      let s := (s.setFlag F.VMP_STATUS_RUN 0 false).setFlag F.VMP_STATUS_DRAINING 0 true
      let s := (List.range 16).foldl (fun (s : State) v =>
        if s.pipeState v = pipeOff then s
        else if F.VMP_CTRL_KILL.on w then s.pipeKill v
        else if s.pipeState v = pipeRun then (s.setFlag F.VMP_PIPE_CFG_ENABLE v false).pipeDrain v else s) s
      s.vmpIdle

/-- VAMP_DISABLE (R403): EN cleared. -/
def execVampDisable (src : Requester) (s : State) : Host.Outcome State Fault Refusal := .next (s.writeVmpCtrl src 0)

/-- A store to a draining pipe's registers or LUT windows is discarded (R402). -/
def State.pipeStore (s : State) (src : Requester) (r : Reg) (v : Nat) (k : State → State) : State :=
  s.guarded r src fun s => if s.pipeState v = pipeDraining then (s.irq Irq.VMP_DRAIN_WR).refuse .DRAINING else k s

/-- A write of VMP_PIPE_BG. -/
def State.writePipeBg (s : State) (src : Requester) (v : Nat) (w : Word) : State :=
  s.pipeStore src .VMP_PIPE_BG v fun s => s.store .VMP_PIPE_BG v w

/-- A write of an entry of VMP_ILUT or VMP_OLUT, to the shadow bank (R395, R404). -/
def State.writeLut (s : State) (src : Requester) (out : Bool) (v i : Nat) (w : Word32) : State :=
  s.pipeStore src .VMP_PIPE_CFG v fun s =>
    let p := s.pipe v
    let b := if out then { p.shadow with olut := Tbl.set olutReset i (w &&& 0xFFF) p.shadow.olut }
      else { p.shadow with ilut := Tbl.set ilutReset i (w &&& 0xFFFFFF) p.shadow.ilut }
    (s.setPipe v { p with shadow := b }).answer .OK

/-- An entry of a LUT window: the shadow bank. -/
def State.readLut (s : State) (out : Bool) (v i : Nat) : Word32 :=
  if out then Tbl.get olutReset (s.pipe v).shadow.olut i else Tbl.get ilutReset (s.pipe v).shadow.ilut i

/-! ### Surfaces (R384 to R386) -/

/-- Bytes per pixel of a surface format (Table 10.1); none for 3. -/
def surfBytes (fmt : Nat) : Option Nat := match fmt with | 0 => some 4 | 1 => some 6 | 2 => some 6 | _ => none

/-- The pages of a surface: from FIRST to FIRST + ceil(PITCH × H / 2 MiB) − 1. -/
def State.surfPages (s : State) (m : Nat) (cfg : Word) : Nat × Nat :=
  let first := F.VMP_SURF_CFG_FIRST.of cfg
  (first, first + ceilDiv (s.fld F.VMP_SURF_PITCH_PITCH m * (s.fld F.VMP_SURF_SIZE_H1 m + 1)) 2097152)

/-- Whether the pages of two surfaces overlap. -/
def State.surfOverlaps (s : State) (m : Nat) (p : Nat × Nat) : Bool :=
  (List.range 256).any fun k =>
    let q := s.surfPages k (s.reg .VMP_SURF_CFG k)
    k != m && s.flag F.VMP_SURF_CFG_VALID k && decide (p.1 < q.2 ∧ q.1 < p.2)

/-- A write of VMP_SURF_CFG (R384). -/
def State.writeSurfCfg (s : State) (src : Requester) (m : Nat) (w : Word) : State :=
  s.guarded .VMP_SURF_CFG src fun s =>
    let p := s.surfPages m w
    let pitch := s.fld F.VMP_SURF_PITCH_PITCH m
    match surfBytes (F.VMP_SURF_CFG_FMT.of w) with
    | none => s.refuse .BAD_ARG
    | some bpp =>
      if s.fld F.VMP_SURF_USE_N m ≠ 0 then s.refuse .BUSY
      else if !F.VMP_SURF_CFG_VALID.on w then s.store .VMP_SURF_CFG m w
      else if pitch < (s.fld F.VMP_SURF_SIZE_W1 m + 1) * bpp ∨ pitch % 64 ≠ 0 ∨ 30393 < p.2 then s.refuse .BAD_ARG
      else if p.1 < (s.reg .ING_POOL_PAGES 0).toNat ∨ s.surfOverlaps m p = true then s.refuse .REFUSED_POLICY
      else s.store .VMP_SURF_CFG m w

/-- SURFACE_CONFIG_WRITE (R384). -/
def execSurfaceConfigWrite (src : Requester) (m : Fin 256) (w : Word32) (s : State) : Host.Outcome State Fault Refusal :=
  .next (s.writeSurfCfg src m (w.setWidth 64))

/-- A write of VMP_SURF_SIZE or VMP_SURF_PITCH: BUSY while the surface is in use (R384). -/
def State.writeSurfGeom (s : State) (src : Requester) (r : Reg) (m : Nat) (w : Word) : State :=
  s.guarded r src fun s => if s.fld F.VMP_SURF_USE_N m ≠ 0 then s.refuse .BUSY else s.store r m w

/-- A write of VMP_SURF_GEN waits for the requester's earlier BAR2 writes (R385). -/
def State.writeSurfGen (s : State) (src : Requester) (m : Nat) (w : Word) : State :=
  s.guarded .VMP_SURF_GEN src fun s =>
    { s.answer .OK with vmp := { s.vmp with gens := s.vmp.gens ++ [(m, low32 w)] } }

/-- SURF_GEN_APPLY (R385): the BAR2 writes before the oldest waiting write of VMP_SURF_GEN have reached the frame store,
and it applies. -/
def execSurfGenApply (s : State) : Host.Outcome State Fault Refusal :=
  .next (match s.vmp.gens with
    | [] => s
    | g :: r => ({ s with vmp := { s.vmp with gens := r } }).setReg .VMP_SURF_GEN g.1 g.2)

/-! ### Layer writes and commits (R300, R301, R387 to R397) -/

/-- An input enabled in SYNC mode on a domain (R388). -/
def State.layerInput (s : State) (n d : Nat) : Bool :=
  s.flag F.ING_IN_CFG_ENABLE n && s.inLive n && s.fld F.ING_IN_CFG_MODE n == 0 && s.fld F.ING_IN_CFG_OTD n == d

/-- Write the descriptor of layer l of pipe v to its shadow (R300, R387, R388). -/
def State.layerWrite (s : State) (v l : Nat) (ws : List (BitVec 32)) : State × Status :=
  let ws := maskDesc ws
  let d := descOf ws
  let p := s.pipe v
  let b := p.shadow.setLayer l ws
  let dom := s.pipeOtd v
  if d.bad || !s.chargeFits v b then (s, .BAD_ARG)
  else if s.pipeState v = pipeDraining then (s, .DRAINING)
  else if d.kind = 0 && !s.layerInput d.index dom then (s, .NOT_READY)
  else if d.kind = 0 && d.key == 3 && !s.layerInput d.keysrc dom then (s, .NOT_READY)
  else if d.kind = 1 && !s.flag F.VMP_SURF_CFG_VALID d.index then (s, .NOT_READY)
  else ((s.setPipe v { p with shadow := b }).showCharge v, .OK)

/-- The pipes of a mask. -/
def maskPipes (mask : Nat) : List Nat := (List.range 16).filter fun v => mask.testBit v

/-- The first layer of a pipe, and of a list of pipes, that fails the line-buffer rule (R301). -/
def State.shortLayer (s : State) (v : Nat) : Option Nat :=
  (List.range 16).find? fun l =>
    let d := descOf ((s.pipe v).shadow.words l)
    d.enable && !d.fits

def State.shortPipe (s : State) : List Nat → Option (Nat × Nat)
  | [] => none
  | v :: r => match s.shortLayer v with
    | some l => some (v, l)
    | none => s.shortPipe r

/-- The 100 µs by which a commit's deadline precedes its boundary (R397). -/
def commitLead : FineTime := 100000 * 65536

/-- The frame of domain d at whose boundary a commit with time T (ns) applies, and whether it is later than asked
(R301, R397). -/
def State.commitFrame (s : State) (d t : Nat) : Nat × Bool :=
  let now := s.otdNow d
  let code := s.otdFormat d
  let first := firstBoundary code (s.otdPhase d) (now + commitLead + 1)
  let first := match (s.otd d).target with | some f => max first f | none => first
  if t = 0 then (first, false)
  else
    let k := firstBoundary code (s.otdPhase d) (t * 65536)
    if s.boundary d k < now + commitLead then (max k first, true) else (k, false)

/-- Arm a commit of one pipe. -/
def State.commitPipe (s : State) (t v : Nat) : State :=
  let d := s.pipeOtd v
  let f := s.commitFrame d t
  let p := s.pipe v
  let s := if p.pend.isSome then (s.count .VMP_PIPE_REPL v 1).irq Irq.VMP_REPLACED else s
  let s := if f.2 then (s.count .VMP_PIPE_LATE v 1).irq Irq.VMP_LATE else s
  let s := s.setPipe v { p with pend := some (p.shadow, f.1) }
  let s := (s.setFlag F.VMP_PIPE_STAT_PENDING v true).setFlag F.VMP_PIPE_STAT_HOLDING v false
  s.setReg .VMP_PIPE_PEND v (BitVec.ofNat 64 (nimTime (s.boundary d f.1)))

/-- Commit the shadows of the pipes in a mask (R301, R395 to R397): the value and the status of the instruction. -/
def State.commit (s : State) (mask t : Nat) : State × Word × Status :=
  let vs := maskPipes mask
  match vs with
  | [] => (s, 0, .BAD_ARG)
  | v0 :: _ =>
    if vs.any fun v => s.pipeState v == pipeDraining then (s, 0, .DRAINING)
    else if vs.any fun v => s.pipeState v != pipeRun || s.gangMember v then (s, 0, .NOT_READY)
    else match s.shortPipe vs with
      | some (v, l) =>
        let s := (s.setReg .VMP_PIPE_LBFAIL v (BitVec.ofNat 64 (2 ^ 31 + 16 * v + l))).irq Irq.VMP_LB_SHORT
        (s, BitVec.ofNat 64 (16 * v + l), .LB_SHORT)
      | none =>
        let late := vs.any fun v => (s.commitFrame (s.pipeOtd v) t).2
        let at_ := nimTime (s.boundary (s.pipeOtd v0) (s.commitFrame (s.pipeOtd v0) t).1)
        (vs.foldl (fun (s : State) v => s.commitPipe t v) s, BitVec.ofNat 64 at_, if late then .LATE else .OK)

/-! ### The frame boundary (R397 to R401) -/

/-- The raster of an input, and the size of a surface. -/
def State.sourceSize (s : State) (d : Desc) : Nat × Nat :=
  if d.kind = 0 then (widthOf (s.fld F.ING_IN_FMT_FORMAT d.index), heightOf (s.fld F.ING_IN_FMT_FORMAT d.index))
  else (s.fld F.VMP_SURF_SIZE_W1 d.index + 1, s.fld F.VMP_SURF_SIZE_H1 d.index + 1)

/-- The cause that one input of a layer gives, 0 none (Table 10.4, causes 1 and 2). -/
def State.inputCause (s : State) (n dom : Nat) : Nat :=
  if s.inState n != inLocked && s.inState n != inRepeat then 1 else if !s.layerInput n dom then 2 else 0

/-- The first condition of Table 10.4 that holds of a layer, 0 none. -/
def State.layerCause (s : State) (v : Nat) (d : Desc) : Nat :=
  let dom := s.pipeOtd v
  let outside := decide ((s.sourceSize d).1 < d.sx + d.sw ∨ (s.sourceSize d).2 < d.sy + d.sh)
  if d.kind = 2 then 0
  else if d.kind = 0 then
    let c := s.inputCause d.index dom
    let k := if d.key = 3 then s.inputCause d.keysrc dom else 0
    if c = 1 ∨ k = 1 then 1 else if c = 2 ∨ k = 2 then 2 else if outside then 3 else 0
  else if outside then 3
  else if !s.flag F.VMP_SURF_CFG_VALID d.index then 4
  else if (s.reg .VMP_SURF_GEN d.index).toNat ≠ d.gen then 5
  else 0

/-- Whether a held picture can still be shown: its frame is in its ring, or its surface is valid (R400). -/
def State.heldGood (s : State) (h : Drawn) : Bool :=
  match h.surf with
  | some m => s.flag F.VMP_SURF_CFG_VALID m
  | none =>
    let d := descOf h.words
    match h.frame with
    | .black => true
    | .frame n => decide (s.fld F.ING_IN_ALLOC_RING_FRAMES d.index ≠ 0 ∧ (s.input d.index).nextNum < n + s.fld F.ING_IN_ALLOC_RING_FRAMES d.index)

/-- Set VMP_LAYER_STAT. -/
def State.showLayer (s : State) (v l shown cause run : Nat) : State :=
  s.setReg .VMP_LAYER_STAT (v * 16 + l) (BitVec.ofNat 64 (shown * 2 ^ 29 + cause * 2 ^ 26 + satTo 16 run))

/-- Draw one layer of the active state; whether it was not ready (R399, R400). -/
def State.drawLayer (s : State) (v l : Nat) : State × Bool :=
  let p := s.pipe v
  let ws := p.act.words l
  let d := descOf ws
  if !d.enable then (s.showLayer v l 0 0 0, false)
  else
    let c := s.layerCause v d
    if c = 0 then
      let frame := if d.kind = 0 then (s.input d.index).shows else .black
      let h : Drawn := ⟨ws, frame, if d.kind = 1 then some d.index else none⟩
      ((s.setPipe v { p with drawn := Tbl.set (fun _ => none) l (some h) p.drawn }).showLayer v l 1 0 0, false)
    else
      let run := s.fld F.VMP_LAYER_STAT_NRDY_RUN (v * 16 + l) + 1
      let s := (s.count .VMP_PIPE_NRDY v 1).irq Irq.VMP_NOT_READY
      if d.policy = 1 then (s.showLayer v l 3 c run, true)
      else match Tbl.get (fun _ => none) p.drawn l with
        | none => (s.showLayer v l 3 7 run, true)
        | some h => if s.heldGood h then (s.showLayer v l 2 c run, true) else (s.showLayer v l 3 6 run, true)

/-- Set the LAYER flag of the outputs that carry a pipe (R400, Table 04.5). -/
def State.layerFlag (s : State) (v : Nat) : State :=
  let src := s.domainId * 512 + 384 + v
  s.egr.outs.foldl (fun (s : State) e =>
    if s.fld F.EGR_OUT_TAKE_SOURCE e.1 = src then s.setOut e.1 { s.out e.1 with flags := (s.out e.1).flags ||| 32 } else s) s

/-- Whether an enabled HOLD_ALL layer of a bank is not ready (R401). -/
def State.mustHold (s : State) (v : Nat) (b : VmpBank) : Bool :=
  (List.range 16).any fun l =>
    let d := descOf (b.words l)
    d.enable && d.policy == 2 && s.layerCause v d != 0

/-- Apply a due commit (R397, R401): whether it is held. -/
def State.applyCommit (s : State) (v k : Nat) : State × Bool :=
  match (s.pipe v).pend with
  | none => (s, false)
  | some (b, f) =>
    if k < f then (s, false)
    else if !s.flag F.VMP_PIPE_STAT_HOLDING v && s.mustHold v b then
      (((s.count .VMP_PIPE_HELD v 1).irq Irq.VMP_HELD).setFlag F.VMP_PIPE_STAT_HOLDING v true, true)
    else
      let s := s.setPipe v { s.pipe v with act := b }
      let s := (s.dropCommit v).setReg .VMP_PIPE_APPLIED v (BitVec.ofNat 64 (nimTime (s.boundary (s.pipeOtd v) k)))
      (s.irq Irq.VMP_COMMIT_DONE, false)

/-- A frame boundary of pipe v, the first line of frame k of its domain (R397 to R401). -/
def State.pipeBoundary (s : State) (v k : Nat) : State :=
  if s.pipeState v ≠ pipeRun then s
  else
    let a := s.applyCommit v k
    let s := a.1.setPipe v { a.1.pipe v with black := false }
    let z := (List.range 16).foldl (fun (z : State × Bool) l => let y := z.1.drawLayer v l; (y.1, z.2 || y.2)) (s, a.2)
    (if z.2 then z.1.layerFlag v else z.1).showUse

end Sys2Proof.Machine
end

