-- ==== Sys2Proof/Machine/Welt.lean ====
section
/-! DEFINITION. Welt, the serial lanes: owners, lock, equalisers, eyes, live recalibration, Lace bring-up, lanes that fail
and test patterns (chapter 13, R474 to R501), and the link-control cell (R20, R494). -/

namespace Sys2Proof.Machine

/-! ### Lanes (R474 to R479) -/

/-- A lane's record. -/
def State.lane (s : State) (i : Nat) : Lane := Tbl.get (fun _ => default) s.net.lanes i

/-- Set a lane's record. -/
def State.setLane (s : State) (i : Nat) (x : Lane) : State :=
  { s with net := { s.net with lanes := Tbl.set (fun _ => default) i x s.net.lanes } }

/-- A link's record. -/
def State.link (s : State) (k : Nat) : Link := Tbl.get (fun _ => default) s.net.links k

/-- Set a link's record. -/
def State.setLink (s : State) (k : Nat) (x : Link) : State :=
  { s with net := { s.net with links := Tbl.set (fun _ => default) k x s.net.links } }

/-- The states of WLT_LK_STAT.STATE (Table 13.6). -/
def lkDown : Nat := 0
def lkIdent : Nat := 1
def lkStep : Nat := 2
def lkTrain : Nat := 3
def lkQual : Nat := 4
def lkUp : Nat := 5
def lkHold : Nat := 6
def lkDraining : Nat := 7
def lkStopped : Nat := 8

/-- A link's state. -/
def State.lkState (s : State) (k : Nat) : Nat := s.fld F.WLT_LK_STAT_STATE k

/-- Set a link's state. -/
def State.setLkState (s : State) (k st : Nat) : State := s.setFld F.WLT_LK_STAT_STATE k st

/-- The link of a Lace lane, and the lane within it. -/
def linkOfLane (i : Nat) : Nat := (i - 160) / 4
def laneInLink (i : Nat) : Nat := (i - 160) % 4

/-- Whether a video lane's receiver or transmitter is enabled (R477). -/
def State.videoRx (s : State) (i : Nat) : Bool := s.inLive (s.laneInput i)
def State.videoTx (s : State) (i : Nat) : Bool := s.flag F.EGR_OUT_CFG_ENABLE i && s.flag F.EGR_OUT_CFG_SDI_EN i

/-- Whether a lane's owner has it enabled (R477). -/
def State.laneOwned (s : State) (i : Nat) : Bool :=
  if i < 128 then s.videoRx i || s.videoTx i
  else if i < 160 then s.portState (s.portOfLane (i - 128)) != portOff
  else s.flag F.WLT_LK_CFG_ENABLE (linkOfLane i)

/-- The rate code of a lane (Table 13.6): of Table 02.1 for a video lane, of TWL_LK_STAT.RATE otherwise. -/
def State.laneRate (s : State) (i : Nat) : Nat :=
  if i < 128 then (if s.videoRx i then (s.reg .ING_SDI_RATE i).toNat % 16 else 0)
  else if i < 160 then
    (match s.grpMode (i - 128) with | 1 | 2 | 3 => 5 | 4 => 4 | 5 => 3 | 6 => 2 | _ => 0)
  else s.fld F.WLT_LK_STAT_RATE (linkOfLane i)

/-- Whether a lane runs PAM4 at its rate (Table 13.1). -/
def State.lanePam4 (s : State) (i : Nat) : Bool := decide (128 ≤ i) && decide (4 ≤ s.laneRate i)

/-- Whether a lane runs a test pattern (R498). -/
def State.laneTest (s : State) (i : Nat) : Bool := s.flag F.WLT_LANE_PRBS_GEN i || s.flag F.WLT_LANE_PRBS_CHK i

/-- WLT_LANE_STAT.STATE: 0 GATED, 1 IDLE, 2 ACQUIRE, 3 LOCKED, 4 DROPPED, 5 TEST (R477, Table 13.6). -/
def State.laneState (s : State) (i : Nat) : Nat :=
  if s.laneTest i then 5
  else if i < 128 then
    if s.videoRx i then (if (s.input i).lock then 3 else 2)
    else if s.videoTx i then 1 else 0
  else if i < 160 then
    let p := s.portOfLane (i - 128)
    if s.portState p = portOff then 0 else if s.linkUp p then 3 else 2
  else
    let k := linkOfLane i
    let j := laneInLink i
    let st := s.lkState k
    if !s.laneOwned i then (if st = lkDraining then 3 else 0)
    else if st = lkDown then 1
    else if st = lkHold then (if j = 0 then 3 else 0)
    else if st = lkUp then (if s.fld F.WLT_LK_STAT_LANE_MASK k / 2 ^ j % 2 = 1 then 3 else 4)
    else 2

/-- WLT_LANE_STAT as it reads (Table 13.6). -/
def State.laneStat (s : State) (i : Nat) : Word :=
  let on := s.laneState i != 0
  let rate := if on then s.laneRate i else 0
  let dfe := on && decide (128 ≤ i) && decide (2 ≤ rate)
  BitVec.ofNat 64 (s.laneState i * 2 ^ 29 + rate % 16 * 2 ^ 24 + (s.lane i).ctle % 64 * 2 ^ 18 +
    (if on && s.lanePam4 i then 2 ^ 17 else 0) + (if dfe then 2 ^ 16 else 0))

/-- Note the link of a Lace lane in WLT_LK_SRC. -/
def State.noteLink (s : State) (k : Nat) : State := s.setFld ⟨.WLT_LK_SRC, k, 1⟩ 0 1
def State.noteLane (s : State) (i : Nat) : State := if 160 ≤ i then s.noteLink (linkOfLane i) else s

/-- SDI_LOCK (R38, R478): a video receive lane's CDR locks at the rate that its owner requests. -/
def execSdiLock (n : Fin 128) (s : State) : Host.Outcome State Fault Refusal :=
  let x := s.input n
  .next (if s.videoRx n && !x.lock && x.hunt != 0 then s.receiverLock n x.hunt else s)

/-- Count and tell a declared loss of lock (R479). -/
def State.laneLol (s : State) (i : Nat) : State :=
  ((s.count .WLT_LANE_LOL i 1).noteLane i).event Irq.WLT_LANE_LOL i 0

/-- LANE_LOSS_OF_LOCK (R479): declared on a lane; video and network owners see it. What a Lace link does follows in its own
commands. -/
def execLaneLossOfLock (i : Fin 224) (s : State) : Host.Outcome State Fault Refusal :=
  let s := s.laneLol i
  .next (if i.val < 128 then (if (s.input i).lock then s.receiverUnlock i else s)
    else if i.val < 160 then s.portFall (s.portOfLane (i.val - 128))
    else s)

/-! ### Links: state and capacity (R113, R118, R492) -/

/-- The lanes in a mask. -/
def maskLanes (m : Nat) : Nat := popCount 4 m

/-- Show in TWL_LK_STAT the lanes and capacity of a link that carries cells on the lanes of a mask (R118, R497). -/
def State.carry (s : State) (k m : Nat) : State :=
  let s := (s.setFld F.WLT_LK_STAT_LANE_MASK k m).setLink k { s.link k with mask := m }
  let s := s.setFld F.TWL_LK_STAT_LANES k (maskLanes m)
  s.setFld F.TWL_LK_STAT_CAP k (linkCapacity (s.fld F.TWL_LK_STAT_RATE k) (maskLanes m))

/-- A link leaves service: no lane carries cells, and no part is reached by it until the link-state view names one. -/
def State.uncarry (s : State) (k : Nat) : State :=
  let s := (s.setFld F.WLT_LK_STAT_LANE_MASK k 0).setReg .TWL_LK_STAT k 0
  { s with twl := { s.twl with toward := s.twl.toward.filter fun e => e.2 != k + 1 } }

/-- A link goes DOWN for a reason; `loud` sets LK_DOWN and writes an Awl record (Table 13.3). -/
def State.linkFall (s : State) (k reason : Nat) (loud : Bool) : State :=
  let s := (s.uncarry k).setReg .WLT_LK_STAT k 0
  let s := (s.setFld F.WLT_LK_STAT_REASON k reason).count .WLT_LK_DOWNS k 1
  let x := s.link k
  let s := s.setLink k { x with
    fallen := false, fast := false, mask := 0, dropped := none, recal := false, fails := 0, waiting := false }
  if loud then (s.noteLink k).event Irq.WLT_LK_DOWN k reason else s

/-- Identity frames start at 1.25 Gbit/s (R487, Table 13.4). -/
def State.startIdent (s : State) (k : Nat) : State :=
  let s := s.uncarry k
  let s := (s.setLkState k lkIdent).setFld F.WLT_LK_STAT_RATE k 1
  let s := ((s.setFld F.WLT_LK_STAT_ATTEMPT k 0).setFlag F.WLT_LK_STAT_BELOW_MAX k false).setFld F.TWL_LK_STAT_RATE k 1
  let s := s.setLink k { s.link k with
    since := s.tick, fallen := false, fast := false, dropped := none, recal := false, fails := 0, waiting := false }
  s.emit (.laceIdentity k)

/-- Enter HOLD: lanes 1 to 3 are gated with their coefficients kept, and TWL_LK_STAT reads LANES 0 (LACE_HOLD, R492). -/
def State.laceHold (s : State) (k : Nat) : State :=
  if s.lkState k = lkUp then
    let s := (s.setLkState k lkHold).setFld F.WLT_LK_STAT_LANE_MASK k 0
    (s.setFld F.TWL_LK_STAT_LANES k 0).setFld F.TWL_LK_STAT_CAP k 0
  else s

/-- Leave HOLD: the domain identifier is announced on lane 0 and lanes 1 to 3 are re-added (LACE_UNHOLD, R492). -/
def State.laceUnhold (s : State) (k : Nat) : State :=
  if s.lkState k = lkHold then
    let m := (s.link k).mask
    let s := (s.setLkState k lkUp).emit (.laceIdentity k)
    s.carry k m
  else s

/-! ### Bring-up (R487 to R492) -/

/-- Operating seconds within which a training record counts: 7 days (R491). -/
def trainAge : Nat := 7 * 86400

/-- Whether a link makes a fast restart to its record's rate (R491). -/
def State.fastOk (s : State) (k agreed peerRec : Nat) : Bool :=
  match (s.link k).record with
  | none => false
  | some r => s.flag F.WLT_LK_CFG_FAST k && r.id == peerRec && r.rate == agreed &&
      decide (s.fld F.INS_OPSEC_SEC 0 - r.opsec ≤ trainAge)

/-- Discard a record older than 7 days (R491). -/
def State.ageRecord (s : State) (k : Nat) : State :=
  match (s.link k).record with
  | some r => if trainAge < s.fld F.INS_OPSEC_SEC 0 - r.opsec then s.setLink k { s.link k with record := none } else s
  | none => s

/-- Step to a rate, in its n-th attempt; the leader sends the step (R488). A part leads the links whose peer has a higher
domain identifier. -/
def State.stepTo (s : State) (k rate attempt : Nat) : State :=
  let s := (s.setLkState k lkStep).setFld F.WLT_LK_STAT_ATTEMPT k attempt
  let s := s.setLink k { s.link k with target := rate }
  if s.domainId < (s.link k).peer then s.emit (.laceStep k rate) else s

/-- What an identity exchange conflicts in: 4 a duplicate identity, 5 a digest mismatch, 0 nothing (R24, R114). -/
def State.identConflict (s : State) (o : IdentObs) : Nat :=
  if o.strap = s.fld F.GLB_CHIP_STRAP 0 ∨ o.domain = s.domainId then 4 else if o.digestEq then 0 else 5

/-- A link holds in STOPPED on a conflict (Table 13.3, R114). -/
def State.stopLink (s : State) (k reason : Nat) : State :=
  let s := (s.setLkState k lkStopped).setFld F.WLT_LK_STAT_REASON k reason
  let s := (s.noteLink k).event Irq.WLT_LK_STOPPED k reason
  if reason = 5 then s.event Irq.TWL_PFX_MISMATCH k 0 else s

/-- The exchange is complete without conflict: the peer is shown, and the first step begins (R487, R491). -/
def State.identDone (s : State) (k : Nat) (o : IdentObs) : State :=
  let s := s.ageRecord k
  let agreed := min (s.fld F.WLT_LK_CFG_MAX_RATE k) o.maxRate
  let fast := s.fastOk k agreed o.recId
  let s := (s.setFld F.WLT_LK_PEER_STRAP k o.strap).setFld F.WLT_LK_PEER_MAX_RATE k o.maxRate
  let s := (s.setFlag F.WLT_LK_PEER_MATCHED k (match (s.link k).record with | some r => r.id == o.recId | none => false))
  let s := s.setFld F.TWL_LK_STAT_PEER k o.domain
  let s := s.setLink k { s.link k with agreed := agreed, fast := fast, fallen := false, peer := o.domain }
  s.stepTo k (if fast then agreed else 2) 1

/-- LACE_IDENTITY_RECEIVE (R24, R114, R487, R554): in STOPPED a conflict may clear; in IDENT the exchange may complete; on a
link UP or in HOLD the peer announces its domain identifier. -/
def execLaceIdentityReceive (k : Fin 16) (o : IdentObs) (s : State) : Host.Outcome State Fault Refusal :=
  let c := s.identConflict o
  let s := if s.lkState k = lkStopped ∧ c = 0 then s.setLkState k lkIdent else s
  .next (if s.lkState k = lkIdent then
      if maskLanes o.commas.toNat < 3 ∨ o.agreed = false then s
      else if c ≠ 0 then s.stopLink k c
      else s.identDone k o
    else if s.lkState k = lkUp ∨ s.lkState k = lkHold then
      (s.setFld F.TWL_LK_STAT_PEER k o.domain).setLink k { s.link k with peer := o.domain }
    else s)

/-- LACE_IDENT_TIMEOUT (R487, R492): 10 ms without three comma-locked lanes in IDENT, or without an identity frame in
STOPPED. -/
def execLaceIdentTimeout (k : Fin 16) (s : State) : Host.Outcome State Fault Refusal :=
  .next (if s.lkState k = lkIdent ∨ s.lkState k = lkStopped then
      (s.setLkState k lkIdent).setFld F.WLT_LK_STAT_REASON k 7
    else s)

/-- LACE_RETRY (R487, R492): RETRY has passed since a fall, or in IDENT. -/
def execLaceRetry (k : Fin 16) (s : State) : Host.Outcome State Fault Refusal :=
  .next (if s.flag F.WLT_LK_CFG_ENABLE k && s.lkState k == lkDown then s.startIdent k
    else if s.lkState k = lkIdent then s.emit (.laceIdentity k)
    else s)

/-- LACE_RATE_STEP (R488): both parts start the new rate. -/
def execLaceRateStep (k : Fin 16) (s : State) : Host.Outcome State Fault Refusal :=
  .next (if s.lkState k = lkStep then (s.setLkState k lkTrain).setFld F.WLT_LK_STAT_RATE k (s.link k).target else s)

/-- Load trained coefficients into the registers of a lane (R481, R491). -/
def State.loadTrain (s : State) (i : Nat) (t : LaneTrain) : State :=
  let s := (s.setReg .WLT_LANE_TXEQ i (t.ffe.setWidth 64)).setLane i { s.lane i with ctle := t.ctle }
  [0, 1, 2].foldl (fun (s : State) j => s.setReg .WLT_LANE_DFE (3 * i + j) ((t.dfe.getD j 0).setWidth 64)) s

/-- Load the coefficients of a link's lanes. -/
def State.loadLink (s : State) (k : Nat) (l : List LaneTrain) : State :=
  l.zipIdx.foldl (fun (s : State) (e : LaneTrain × Nat) => s.loadTrain (160 + 4 * k + e.2) e.1) s

/-- LACE_TRAIN_DONE (R488): every lane has adapted or the limit has passed; what the lanes trained is kept for the rate. -/
def execLaceTrainDone (k : Fin 16) (lanes : List LaneTrain) (s : State) : Host.Outcome State Fault Refusal :=
  .next (if s.lkState k = lkTrain then
      let x := s.link k
      let s := s.setLink k { x with trained := Tbl.set (fun _ => []) x.target lanes x.trained }
      (s.loadLink k lanes).setLkState k lkQual
    else s)

/-- Whether a lane qualifies at a rate (R489). -/
def State.qualifies (s : State) (rate : Nat) (q : LaneQual) : Bool :=
  let pam4 := decide (4 ≤ rate)
  let v := s.fld (if pam4 then F.WLT_EYE_MIN_PAM4_V else F.WLT_EYE_MIN_NRZ_V) 0
  let h := s.fld (if pam4 then F.WLT_EYE_MIN_PAM4_H else F.WLT_EYE_MIN_NRZ_H) 0
  q.lock && decide (v ≤ q.v) && decide (h ≤ q.h) &&
    (if pam4 then decide (q.ser ≤ s.fld F.WLT_QUAL_SER 0) && q.unc == 0 else q.hdr == 0)

/-- The mask of the lanes that qualify. -/
def State.qualMask (s : State) (rate : Nat) (qs : List LaneQual) : Nat :=
  (qs.take 4).zipIdx.foldl (fun (a : Nat) (e : LaneQual × Nat) => a + if s.qualifies rate e.1 then 2 ^ e.2 else 0) 0

/-- Store a link's training record in the slot that is not current (R491, R565). -/
def State.storeTrain (s : State) (k id : Nat) : State :=
  let x := s.link k
  let rate := s.fld F.WLT_LK_STAT_RATE k
  let r : TrainRec := ⟨id, s.fld F.WLT_LK_PEER_STRAP k, rate, s.fld F.INS_OPSEC_SEC 0, Tbl.get (fun _ => []) x.trained rate⟩
  s.setLink k { x with record := some r, slotB := !x.slotB }

/-- The lane of a mask of three that is missing. -/
def missingLane (m : Nat) : Option Nat := [0, 1, 2, 3].find? fun j => m / 2 ^ j % 2 == 0

/-- A link reaches UP on the lanes of a mask (LACE_UP: R490 to R492). -/
def State.linkComesUp (s : State) (k m recId : Nat) : State :=
  let rate := (s.link k).target
  let below := decide (rate < (s.link k).agreed)
  let s := ((s.setLkState k lkUp).setFlag F.WLT_LK_STAT_BELOW_MAX k below).setFld F.TWL_LK_STAT_RATE k rate
  let s := s.carry k m
  let s := s.setLink k { s.link k with dropped := missingLane m, recal := false, fails := 0, waiting := false }
  let s := s.setFld F.WLT_LK_BRINGUP_MS k (satTo 16 ((s.tick - (s.link k).since) * 1000 / 32768))
  let s := (s.storeTrain k recId).noteLink k
  let s := s.irq Irq.WLT_LK_UP
  if below then s.irq Irq.WLT_LK_BELOW_MAX else s

/-- A step in which fewer than three lanes qualify: a failed fast restart becomes a staged bring-up; otherwise it is
repeated, up to three attempts; then the link falls back to the previous rate, or goes DOWN from the lowest (R490, R491). -/
def State.stepFails (s : State) (k : Nat) : State :=
  let x := s.link k
  let n := s.fld F.WLT_LK_STAT_ATTEMPT k
  if x.fast then (s.setLink k { x with fast := false }).stepTo k 2 1
  else if n < 3 then s.stepTo k x.target (n + 1)
  else if x.target ≤ 2 then s.linkFall k 6 false
  else
    let prev := x.target - 1
    let s := s.setLink k { x with target := prev, fallen := true }
    let s := (s.setFld F.WLT_LK_STAT_RATE k prev).setFld F.WLT_LK_STAT_ATTEMPT k 1
    (s.loadLink k (Tbl.get (fun _ => []) x.trained prev)).setLkState k lkQual

/-- LACE_QUAL_END (R489 to R491): the window ends with what the four lanes showed; `recId` is the identifier of the record
that the bring-up stores. -/
def execLaceQualEnd (k : Fin 16) (qs : List LaneQual) (recId : Nat) (s : State) : Host.Outcome State Fault Refusal :=
  .next (if s.lkState k ≠ lkQual then s
    else
      let x := s.link k
      let m := s.qualMask x.target qs
      if maskLanes m < 3 then s.stepFails k
      else
        let s := s.setFld F.TWL_LK_STAT_RATE k x.target
        if x.fallen || decide (x.agreed ≤ x.target) then s.linkComesUp k m recId
        else s.stepTo k (x.target + 1) 1)

/-- The ranges of WLT_LK_CFG (Table 13.6). -/
def badLkCfg (v : Word) : Bool :=
  let m := F.WLT_LK_CFG_MAX_RATE.of v
  let r := F.WLT_LK_CFG_RETRY.of v
  decide (m < 2) || decide (5 < m) || decide (r < 10) || decide (60000 < r)

/-- A write of WLT_LK_CFG (R492, R493, R499, R501). -/
def State.writeLkCfg (s : State) (src : Requester) (k : Nat) (v : Word) : State :=
  s.guarded .WLT_LK_CFG src fun s =>
    let en := F.WLT_LK_CFG_ENABLE.on v
    let kill := F.WLT_LK_CFG_KILL.on v && !en
    let st := s.lkState k
    if st = lkDraining ∧ kill = false then s.refuse .DRAINING
    else if badLkCfg v then s.refuse .BAD_ARG
    else if en && st == lkDown && s.domainFailed (6 + k / 4) then s.refuse .NOT_READY
    else
      let s := s.store .WLT_LK_CFG k v
      if en then (if st = lkDown then s.startIdent k else s)
      else if st = lkDown then s
      else if kill then s.linkFall k 3 false
      else if st = lkUp ∨ st = lkHold then s.setLkState k lkDraining
      else s.linkFall k 2 false

/-- LACE_LINK_ENABLE (R492): WLT_LK_CFG with ENABLE 1. -/
def execLaceLinkEnable (src : Requester) (k : Fin 16) (w : Word32) (s : State) : Host.Outcome State Fault Refusal :=
  .next (s.writeLkCfg src k (F.WLT_LK_CFG_ENABLE.put 1 (w.setWidth 64)))

/-- LACE_LINK_DISABLE (R492, R493): ENABLE written 0. -/
def execLaceLinkDisable (src : Requester) (k : Fin 16) (s : State) : Host.Outcome State Fault Refusal :=
  .next (s.writeLkCfg src k (F.WLT_LK_CFG_ENABLE.put 0 (s.reg .WLT_LK_CFG k)))

/-- LACE_LINK_KILL (R492): KILL written 1 with ENABLE 0. -/
def execLaceLinkKill (src : Requester) (k : Fin 16) (s : State) : Host.Outcome State Fault Refusal :=
  .next (s.writeLkCfg src k (F.WLT_LK_CFG_KILL.put 1 (F.WLT_LK_CFG_ENABLE.put 0 (s.reg .WLT_LK_CFG k))))

/-- LACE_DRAIN_DONE (R492): TWL_LK_RES reads 0, or 2 s have passed. -/
def execLaceDrainDone (k : Fin 16) (s : State) : Host.Outcome State Fault Refusal :=
  .next (if s.lkState k = lkDraining then s.linkFall k 2 false else s)

/-! ### A Lace lane that fails (R494 to R497) -/

/-- A lane of a mask. -/
def laneInMask (m j : Nat) : Bool := m / 2 ^ j % 2 == 1

/-- A failed attempt to re-add a lane writes an Awl record; after three in a row the 60 s retry is awaited (R497). -/
def State.readdFails (s : State) (k : Nat) : State :=
  let x := s.link k
  let s := s.setLink k { x with fails := x.fails + 1, waiting := decide (3 ≤ x.fails + 1) }
  s.awlUnstated .WLT (awlArg k (x.fails + 1))

/-- A lane of a link loses lock, and `resent` cells are resent on the others (R118, R119, R121, R494 to R497). A lane that
carries no cells only fails its attempt. -/
def State.laneFails (s : State) (k j resent : Nat) : State :=
  let m := s.fld F.WLT_LK_STAT_LANE_MASK k
  if s.lkState k ≠ lkUp ∧ s.lkState k ≠ lkDraining then s
  else if !laneInMask m j then (if (s.link k).dropped = some j then s.readdFails k else s)
  else if m ≠ 15 then s.linkFall k 1 true
  else
    let s := s.carry k (15 - 2 ^ j)
    let s := s.setLink k { s.link k with dropped := some j, recal := false, fails := 0, waiting := false }
    let s := (s.count .WLT_LK_DEGRADES k 1).count .WLT_LK_REPLAY k resent
    let s := s.emit (.laneLost k j)
    (s.event Irq.TWL_LINK_DEGRADED k j).shedLink k

/-- LACE_LANE_FAIL (R118, R494). -/
def execLaceLaneFail (k : Fin 16) (j : Fin 4) (resent : Nat) (s : State) : Host.Outcome State Fault Refusal :=
  .next (s.laneFails k j resent)

/-- LACE_SECOND_LANE_LOST (R121, R496): a further lane that carries cells is lost. -/
def execLaceSecondLaneLost (k : Fin 16) (j : Fin 4) (s : State) : Host.Outcome State Fault Refusal :=
  .next (if (s.lkState k = lkUp ∨ s.lkState k = lkDraining) ∧ s.fld F.WLT_LK_STAT_LANE_MASK k ≠ 15 ∧
      laneInMask (s.fld F.WLT_LK_STAT_LANE_MASK k) j = true then s.linkFall k 1 true
    else s)

/-- LACE_ALL_LANES_LOST (R492): every lane loses lock within the same 1 µs. -/
def execLaceAllLanesLost (k : Fin 16) (s : State) : Host.Outcome State Fault Refusal :=
  let st := s.lkState k
  .next (if st = lkStep ∨ st = lkTrain ∨ st = lkQual ∨ st = lkUp ∨ st = lkDraining then s.linkFall k 8 true else s)

/-- LACE_READD_ATTEMPT (R489, R497): an attempt of the dropped lane ends with what it trained and showed. -/
def execLaceReaddAttempt (k : Fin 16) (t : LaneTrain) (q : LaneQual) (s : State) : Host.Outcome State Fault Refusal :=
  let x := s.link k
  .next (match x.dropped with
    | none => s
    | some j =>
      if s.lkState k ≠ lkUp ∨ x.waiting = true ∨ (s.flag F.WLT_LK_CFG_AUTO_READD k = false ∧ x.recal = false) then s
      else
        let rate := s.fld F.WLT_LK_STAT_RATE k
        if !s.qualifies rate q then s.readdFails k
        else
          let l := (Tbl.get (fun _ => []) x.trained rate).set j t
          let s := s.setLink k { x with
            dropped := none, recal := false, fails := 0, waiting := false, trained := Tbl.set (fun _ => []) rate l x.trained }
          let s := (s.loadTrain (160 + 4 * k + j) t).carry k 15
          let s := match (s.link k).record with | some r => s.storeTrain k r.id | none => s
          (s.noteLink k).irq Irq.WLT_READD)

/-- LACE_READD_RETRY (R497): 60 s after three failed attempts the lane is retried. -/
def execLaceReaddRetry (k : Fin 16) (s : State) : Host.Outcome State Fault Refusal :=
  .next (s.setLink k { s.link k with waiting := false })

/-- Remove a lane of a link for recalibration (R483, R484): BUSY with fewer than four lanes, or with reservations above the
three-lane pre-stage limit. -/
def State.lkRecal (s : State) (k j : Nat) : State :=
  let u := linkUse s.twl.routes k
  let limit := linkCapacity (s.fld F.TWL_LK_STAT_RATE k) 3 * s.fld F.TWL_LK_LIMIT_PRESTAGE 0 / 64
  if s.lkState k ≠ lkUp ∨ s.fld F.WLT_LK_STAT_LANE_MASK k ≠ 15 ∨ limit < u.1 + u.2 then s.refuse .BUSY
  else
    let s := s.carry k (15 - 2 ^ j)
    (s.setLink k { s.link k with dropped := some j, recal := true, fails := 0, waiting := false }).answer .OK

/-- WLT_LK_CTRL.RETRAIN restarts the bring-up of an enabled link (R490). -/
def State.lkRetrain (s : State) (k : Nat) : State :=
  if s.flag F.WLT_LK_CFG_ENABLE k then (s.startIdent k).answer .OK else s.refuse .NOT_READY

/-- A write of WLT_LK_CTRL. -/
def State.writeLkCtrl (s : State) (src : Requester) (k : Nat) (v : Word) : State :=
  s.guarded .WLT_LK_CTRL src fun s =>
    if F.WLT_LK_CTRL_RETRAIN.on v then s.lkRetrain k
    else if F.WLT_LK_CTRL_RECAL.on v then s.lkRecal k (F.WLT_LK_CTRL_LANE.of v)
    else s.answer .OK

/-- LACE_LINK_RETRAIN (R490). -/
def execLaceLinkRetrain (src : Requester) (k : Fin 16) (s : State) : Host.Outcome State Fault Refusal :=
  .next (s.writeLkCtrl src k 0x80000000)

/-- LACE_LINK_RECAL (R484). -/
def execLaceLinkRecal (src : Requester) (k : Fin 16) (j : Fin 4) (s : State) : Host.Outcome State Fault Refusal :=
  .next (s.writeLkCtrl src k (BitVec.ofNat 64 (0x40000000 + j)))

/-- LINK_CONTROL_CELL (R20, R108, R412, R494): credit by destination part and slice-port, a lane that the peer names as lost
with the cells resent, and the clock tag. A link carries them while UP, DRAINING or in HOLD. -/
def execLinkControlCell (k : Fin 16) (credits : List (Fin 1024 × Fin 168 × Nat)) (lost : Option (Fin 4 × Nat)) (tag : Word32)
    (s : State) : Host.Outcome State Fault Refusal :=
  let st := s.lkState k
  .next (if st = lkUp ∨ st = lkDraining ∨ st = lkHold then
      let s := credits.foldl (fun (s : State) (c : Fin 1024 × Fin 168 × Nat) => s.creditReturn c.1 c.2.1 c.2.2) s
      let s := match lost with | some l => s.laneFails k l.1 l.2 | none => s
      s.takeTag k (tag.setWidth 64)
    else s)

/-! ### Equalisers, eyes and recalibration (R480 to R485) -/

/-- A write of WLT_LANE_CFG: with CTLE_AUTO clear the code is applied at once (R480, R501). -/
def State.writeLaneCfg (s : State) (src : Requester) (i : Nat) (v : Word) : State :=
  s.guarded .WLT_LANE_CFG src fun s =>
    if 48 < F.WLT_LANE_CFG_CTLE.of v then s.refuse .BAD_ARG
    else
      let s := s.store .WLT_LANE_CFG i v
      if F.WLT_LANE_CFG_CTLE_AUTO.on v then s else s.setLane i { s.lane i with ctle := F.WLT_LANE_CFG_CTLE.of v }

/-- Start a live recalibration (R483, R484). -/
def State.startRecal (s : State) (i : Nat) : State :=
  if 160 ≤ i then s.lkRecal (linkOfLane i) (laneInLink i)
  else (s.setLane i { s.lane i with recal := true, upDone := false, downDone := false }).answer .OK

/-- RETRAIN of a lane (R485). -/
def State.laneRetrain (s : State) (i : Nat) : State :=
  if 160 ≤ i then s.refuse .REFUSED_POLICY
  else
    let s := (s.setLane i { s.lane i with ctle := 0, recal := false }).answer .OK
    if i < 128 then (if s.videoRx i && (s.input i).lock then (s.laneLol i).receiverUnlock i else s)
    else s.portFall (s.portOfLane (i - 128))

/-- A write of WLT_LANE_CTRL (R483, R485). -/
def State.writeLaneCtrl (s : State) (src : Requester) (i : Nat) (v : Word) : State :=
  s.guarded .WLT_LANE_CTRL src fun s =>
    if F.WLT_LANE_CTRL_RETRAIN.on v then s.laneRetrain i
    else if F.WLT_LANE_CTRL_RECAL.on v then s.startRecal i
    else s.answer .OK

/-- LANE_RECAL (R483). -/
def execLaneRecal (src : Requester) (i : Fin 224) (s : State) : Host.Outcome State Fault Refusal :=
  .next (s.writeLaneCtrl src i 0x80000000)

/-- LANE_RETRAIN (R485). -/
def execLaneRetrain (src : Requester) (i : Fin 224) (s : State) : Host.Outcome State Fault Refusal :=
  .next (s.writeLaneCtrl src i 0x40000000)

/-- A recalibration step (R483): a video lane moves its sampling phase by 1/64 UI toward the eye's centre, at `offset`; a
network lane tries one CTLE step, kept when the next measurement shows a larger eye. -/
def State.recalStep (s : State) (i : Nat) (offset : Int) (larger : Bool) : State :=
  let x := s.lane i
  if !x.recal then s
  else if i < 128 then
    if offset = 0 then s.setLane i { x with recal := false }
    else s.setLane i { x with phase := x.phase + (if 0 < offset then 1 else -1) }
  else if !s.flag F.WLT_LANE_CFG_CTLE_AUTO i then s.setLane i { x with recal := false }
  else if !x.upDone then
    s.setLane i (if larger && decide (x.ctle < 48) then { x with ctle := x.ctle + 1 } else { x with upDone := true })
  else
    s.setLane i (if larger && decide (0 < x.ctle) then { x with ctle := x.ctle - 1 }
      else { x with downDone := true, recal := false })

/-- LANE_RECAL_STEP (R483). -/
def execLaneRecalStep (i : Fin 224) (offset : Int) (larger : Bool) (s : State) : Host.Outcome State Fault Refusal :=
  .next (s.recalStep i offset larger)

/-- Whether an eye is below WLT_EYE_MIN for a lane's modulation (R482). -/
def State.eyeBelow (s : State) (i v h : Nat) : Bool :=
  let p := s.lanePam4 i
  decide (v < s.fld (if p then F.WLT_EYE_MIN_PAM4_V else F.WLT_EYE_MIN_NRZ_V) 0) ||
  decide (h < s.fld (if p then F.WLT_EYE_MIN_PAM4_H else F.WLT_EYE_MIN_NRZ_H) 0)

/-- Show what a measurement reads: the eye, the adapted equalisers and the error counts (R480, R482, R498). -/
def State.showEye (s : State) (i : Nat) (o : EyeObs) : State :=
  let s := (s.setFld F.WLT_LANE_EYE_V i o.v).setFld F.WLT_LANE_EYE_H i o.h
  let s := if s.flag F.WLT_LANE_CFG_CTLE_AUTO i then s.setLane i { s.lane i with ctle := o.ctle } else s
  let s := if i < 128 ∨ s.flag F.WLT_LANE_CFG_DFE_FREEZE i = true then s else
    [0, 1, 2].foldl (fun (s : State) j => s.setReg .WLT_LANE_DFE (3 * i + j) ((o.dfe.getD j 0).setWidth 64)) s
  let s := if i < 128 then s else s.count .WLT_LANE_ERR i o.errs
  let s := if s.lanePam4 i then s.count .WLT_LANE_FEC_UNC i o.unc else s
  if s.flag F.WLT_LANE_PRBS_CHK i && o.prbs != 0 then
    ((s.count .WLT_LANE_PRBS_ERR i o.prbs).noteLane i).irq Irq.WLT_PRBS_ERR
  else s

/-- EYE_MEASURE (R482): every 100 ms the eye monitor of a lane that is not gated records its smallest eye. -/
def execEyeMeasure (i : Fin 224) (o : EyeObs) (s : State) : Host.Outcome State Fault Refusal :=
  .next (if s.laneState i = 0 then s
    else
      let s := s.showEye i o
      if !s.eyeBelow i o.v o.h then s.setLane i { s.lane i with lows := 0 }
      else
        let n := min 3 ((s.lane i).lows + 1)
        let s := s.setLane i { s.lane i with lows := n }
        if n < 3 then s
        else
          let s := (s.noteLane i).event Irq.WLT_EYE_LOW i 0
          if s.flag F.WLT_LANE_CFG_RECAL_AUTO i && !(s.lane i).recal then { s.startRecal i with resp := s.resp } else s)

/-- The magnitude of a signed 6-bit tap. -/
def tapMag (n : Nat) : Nat := (signedOf 6 n).natAbs

/-- What breaks a write of transmit FFE taps on a lane at its present rate (R481, Table 13.2). -/
def State.badTxeq (s : State) (i : Nat) (v : Word) : Bool :=
  let a := F.WLT_LANE_TXEQ_CM3.of v
  let b := F.WLT_LANE_TXEQ_CM2.of v
  let c := F.WLT_LANE_TXEQ_CM1.of v
  let d := F.WLT_LANE_TXEQ_C0.of v
  let e := F.WLT_LANE_TXEQ_CP1.of v
  decide (63 < tapMag a + tapMag b + tapMag c + tapMag d + tapMag e) ||
  (decide (i < 128) && (a != 0 || b != 0 || c != 0)) ||
  (decide (128 ≤ i) && !s.lanePam4 i && (a != 0 || b != 0))

/-- A write of WLT_LANE_TXEQ: read-only on Lace lanes (R481). -/
def State.writeTxeq (s : State) (src : Requester) (i : Nat) (v : Word) : State :=
  if 160 ≤ i then s.answer .OK
  else s.guarded .WLT_LANE_TXEQ src fun s => if s.badTxeq i v then s.refuse .BAD_ARG else s.store .WLT_LANE_TXEQ i v

/-- TXEQ_WRITE (R481). -/
def execTxeqWrite (src : Requester) (i : Fin 224) (w : Word32) (s : State) : Host.Outcome State Fault Refusal :=
  .next (s.writeTxeq src i (w.setWidth 64))

/-- Whether a lane may run a test pattern: not while its owner has it enabled, and on a Lace lane only while its link is
DOWN or it is dropped for recalibration (R498). -/
def State.prbsFree (s : State) (i : Nat) : Bool :=
  if 160 ≤ i then
    let k := linkOfLane i
    s.lkState k == lkDown || ((s.link k).recal && (s.link k).dropped == some (laneInLink i))
  else !s.laneOwned i

/-- A write of WLT_LANE_PRBS (R498): patterns 0 to 3, and PRBS13Q at PAM4 rates only. -/
def State.writePrbs (s : State) (src : Requester) (i : Nat) (v : Word) : State :=
  s.guarded .WLT_LANE_PRBS src fun s =>
    let on := F.WLT_LANE_PRBS_GEN.on v || F.WLT_LANE_PRBS_CHK.on v
    let pat := F.WLT_LANE_PRBS_PATTERN.of v
    if 3 < pat then s.refuse .BAD_ARG
    else if on && !s.prbsFree i then s.refuse .BUSY
    else s.store .WLT_LANE_PRBS i v

/-- PRBS_WRITE (R498). -/
def execPrbsWrite (src : Requester) (i : Fin 224) (w : Word32) (s : State) : Host.Outcome State Fault Refusal :=
  .next (s.writePrbs src i (w.setWidth 64))

/-- A write of WLT_QUAL: NRZ_MS, PAM4_MS and SER are 1 to 255 (Table 13.5). -/
def State.writeQual (s : State) (src : Requester) (v : Word) : State :=
  s.guarded .WLT_QUAL src fun s =>
    if F.WLT_QUAL_NRZ_MS.of v = 0 ∨ F.WLT_QUAL_PAM4_MS.of v = 0 ∨ F.WLT_QUAL_SER.of v = 0 then s.refuse .BAD_ARG
    else s.store .WLT_QUAL 0 v

end Sys2Proof.Machine
end

