-- ==== Sys2Proof/Machine/Resilience.lean ====
section
/-! DEFINITION. The self-check and fencing, partner loss, test-swap-test, ageing, drains at their bound, and warm spares
(chapter 15; R179 to R181, R265, R282, R635, R636). -/

namespace Sys2Proof.Machine

/-- Replace the RSL record. -/
def State.setRsl (s : State) (x : Rsl) : State := { s with rsl := x }

/-! ### Partner loss (R549 to R552) -/

/-- The causes of partner loss (Table 15.4). -/
def lossSilence : Nat := 1
def lossFenced : Nat := 2
def lossWarm : Nat := 3
def lossNoAnswer : Nat := 4

/-- The part declares its partner lost (R550): flags, ALERT_N and Awl; pending acceptances and takes go alone; side B
leads; and spares hear of it (R553). -/
def State.losePartner (s : State) (cause : Nat) : State :=
  if !s.mirrored || s.partnerLost then s
  else
    let s := (s.setFld F.NIM_PAIR_STAT_PARTNER 0 3).setFlag F.NIM_STATUS_ALONE 0 true
    let s := (s.setFlag F.NIM_STATUS_PARTNER_WAIT 0 false).setFlag F.RSL_STATUS_PARTNER_LOST 0 true
    let s := ((s.setReg .RSL_PAIR_STAT 0 0).setFld F.RSL_PAIR_STAT_CAUSE 0 cause).irq Irq.NIM_PARTNER_ABSENT
    let s := s.setRsl { s.rsl with lossTick := s.tick + 1, probing := false, granted := none }
    let s := s.alarm Irq.RSL_PARTNER_LOST alertPartnerLost 0 cause
    let s := (s.journalAlone.takesAlone).changeRole true
    (s.showQueues).emit (.lossNotice s.partnerId)

/-- PARTNER_SILENCE_TIMEOUT (R549, R550): no frontier and no link-control cell for LOSS. -/
def execPartnerSilenceTimeout (s : State) : Host.Outcome State Fault Refusal := .next (s.losePartner lossSilence)

/-- PARTNER_FENCED_NOTICE (R549): the partner announces that it has fenced. -/
def execPartnerFencedNotice (s : State) : Host.Outcome State Fault Refusal := .next (s.losePartner lossFenced)

/-- WARM_WAIT_TIMEOUT (R265): the partner's warm reset outlasts WARM_WAIT. -/
def execWarmWaitTimeout (s : State) : Host.Outcome State Fault Refusal :=
  .next (if s.fld F.NIM_PAIR_STAT_PARTNER 0 = 2 then s.losePartner lossWarm else s)

/-- PARTNER_SILENCE (R181, R549): records for every output have been missing for MISS_FRAMES frames, and the partner is
probed. -/
def execPartnerSilence (s : State) : Host.Outcome State Fault Refusal :=
  .next (if s.xchkOn && s.paired && !s.rsl.probing && decide (s.fld F.RSL_XCHK_CFG_MISS_FRAMES 0 ≤ s.tks.missing) then
      (s.setRsl { s.rsl with probing := true }).emit .probe
    else s)

/-- PARTNER_PROBE_TIMEOUT (R549, cause 4). -/
def execPartnerProbeTimeout (s : State) : Host.Outcome State Fault Refusal :=
  .next (if s.rsl.probing then s.losePartner lossNoAnswer else s)

/-- PARTNER_PROBE_ANSWER (R551): the partner is not lost; the missing records are counted. -/
def execPartnerProbeAnswer (s : State) : Host.Outcome State Fault Refusal :=
  .next (if s.rsl.probing then
      let n := s.rsl.missed
      let s := s.setRsl { s.rsl with probing := false, missed := 0 }
      let s := { s with tks := { s.tks with missing := 0 } }
      (s.count .RSL_XCHK_MISS 0 n).alarm Irq.RSL_XCHK_MISS alertXchkMiss 0 n
    else s)

/-- PARTNER_PROBE_RECEIVE (R549): the probe is answered. -/
def execPartnerProbeReceive (s : State) : Host.Outcome State Fault Refusal :=
  .next (if s.mirrored then s.emit .probeAnswer else s)

/-- PARTNER_COMPLETE_REPORT (R260): the partner reports an entry COMPLETE. -/
def execPartnerCompleteReport (key : Key) (s : State) : Host.Outcome State Fault Refusal :=
  .next (s.setEntry key fun (e : JEntry) => { e with partnerDone := true })

/-- PARTNER_RETURN (R550, R552): the partner counts as partner again. -/
def execPartnerReturn (s : State) : Host.Outcome State Fault Refusal :=
  .next (if s.mirrored && s.partnerLost then
      let s := (s.setFld F.NIM_PAIR_STAT_PARTNER 0 1).setFld F.NIM_PAIR_STAT_SINCE 0 0
      let s := (s.setFlag F.NIM_STATUS_ALONE 0 false).setFlag F.RSL_STATUS_PARTNER_LOST 0 false
      let s := (s.setRsl { s.rsl with granted := none }).event Irq.RSL_PARTNER_RETURN 0 0
      (s.changeRole false).showQueues
    else s)

/-! ### Fencing and its repair (R179, R180, R542) -/

/-- NOT_FENCED, FENCED, REPAIRING, REJOIN_OK and PERMANENT (Table 15.9). -/
def fenceNone : Nat := 0
def fenceFenced : Nat := 1
def fenceRepairing : Nat := 2
def fenceRejoinOk : Nat := 3
def fencePermanent : Nat := 4

/-- What a failed self-check step calls for (R542): 0 is a fence by command. -/
def fenceStateOf (step : Nat) : Nat :=
  if step = 0 then fenceFenced else if step = 2 ∨ step = 3 then fenceRepairing else fencePermanent

/-- The contexts that run accepted work stop; their entries stay in the journal (R180). -/
def State.stopWork (s : State) : State :=
  (s.nim.ctxs.filter fun (e : Nat × NimCtx) => e.2.run != .off && e.2.entry.isSome).foldl (fun (s : State) e => s.endCtx e.1) s

/-- The part fences itself (R180): HEALTH falls, work stops, the partner is told, and the outputs run on. -/
def State.fence (s : State) (step : Nat) : State :=
  if s.fenced then s
  else
    let s := (s.setFlag F.RSL_STATUS_FENCED 0 true).setFld F.RSL_FENCE_STAT_STATE 0 (fenceStateOf step)
    let s := (s.setFld F.RSL_FENCE_STAT_STEP 0 step).stopWork
    let s := (s.alarm Irq.RSL_FENCED alertFenced 0 step).health
    if s.mirrored then s.emit .fencedNotice else s

/-- A fenced part rejoins (R542): it works again only after it has taken the survivor's image (R273). -/
def State.rejoin (s : State) : State :=
  let s := (s.setFlag F.RSL_STATUS_FENCED 0 false).setReg .RSL_FENCE_STAT 0 0
  (s.setFlag F.NIM_STATUS_REPLAY 0 s.mirrored).showQueues

/-- A write of RSL_FENCE_CTRL (R542, R559). -/
def State.writeFence (s : State) (src : Requester) (v : Word) : State :=
  s.guarded .RSL_FENCE_CTRL src fun s =>
    let s := s.store .RSL_FENCE_CTRL 0 0
    if F.RSL_FENCE_CTRL_FENCE.on v then s.fence 0
    else if F.RSL_FENCE_CTRL_REJOIN.on v && s.fld F.RSL_FENCE_STAT_STATE 0 == fenceRejoinOk then s.rejoin
    else s

/-- FENCE_COMMAND (R542). -/
def execFenceCommand (src : Requester) (s : State) : Host.Outcome State Fault Refusal :=
  .next (s.writeFence src (F.RSL_FENCE_CTRL_FENCE.put 1 0))

/-- REJOIN_COMMAND (R542). -/
def execRejoinCommand (src : Requester) (s : State) : Host.Outcome State Fault Refusal :=
  .next (s.writeFence src (F.RSL_FENCE_CTRL_REJOIN.put 1 0))

/-- FENCE_REPAIR_DONE (R542): the repair passes or fails. -/
def execFenceRepairDone (passed : Bool) (s : State) : Host.Outcome State Fault Refusal :=
  .next (let st := s.fld F.RSL_FENCE_STAT_STATE 0
    if st = fenceFenced ∨ st = fenceRepairing then
      s.setFld F.RSL_FENCE_STAT_STATE 0 (if passed then fenceRejoinOk else fencePermanent)
    else s)

/-- The outcome of both self-checks (R179): 1 both passed, 2 this part fences, 3 the partner fences, 4 both failed. -/
def State.checkOutcome (s : State) (step : Nat) (partner : Bool) : State :=
  let r := if step = 0 then (if partner then 1 else 3) else (if partner then 2 else 4)
  let s := (s.setFld F.RSL_XCHK_LAST_RESULT 0 r).setFld F.RSL_XCHK_LAST_STEP 0 step
  let s := { s with tks := { s.tks with check := none, partnerCheck := none } }
  if r = 2 then s.fence step else if r = 3 then s else s.alert alertDiverged

/-- SELF_CHECK_DONE (R178, R179): the first failed step of Table 04.6, 0 when all pass. -/
def execSelfCheckDone (step : Fin 6) (s : State) : Host.Outcome State Fault Refusal :=
  .next (if s.tks.check = some none then
      let s := (s.emit (.selfCheck (step == 0))).setFld F.RSL_XCHK_LAST_STEP 0 step
      let s := { s with tks := { s.tks with check := some (some step.val) } }
      match s.tks.partnerCheck with
      | some p => s.checkOutcome step p
      | none => s
    else s)

/-- SELF_CHECK_RESULT_RECEIVE (R179): the partner's result. -/
def execSelfCheckResultReceive (passed : Bool) (s : State) : Host.Outcome State Fault Refusal :=
  .next (match s.tks.check with
    | none => s
    | some none => { s with tks := { s.tks with partnerCheck := some passed } }
    | some (some n) => s.checkOutcome n passed)

/-- SELF_CHECK_RESULT_TIMEOUT (R179): no result of the partner within 100 ms; neither part fences. -/
def execSelfCheckResultTimeout (s : State) : Host.Outcome State Fault Refusal :=
  .next (match s.tks.check with
    | some (some _) =>
      let s := (s.setFld F.RSL_XCHK_LAST_RESULT 0 5).alert alertDiverged
      { s with tks := { s.tks with check := none, partnerCheck := none } }
    | _ => s)

/-! ### Test-swap-test (R533, R537 to R541) -/

/-- UNIT_STAT.STATE of Table 15.9. -/
def unitInService : Nat := 0
def unitSuspect : Nat := 1
def unitSwapping : Nat := 2
def unitDraining : Nat := 3
def unitGated : Nat := 4

/-- PHYS_STAT.STATE of Table 15.9. -/
def physInService : Nat := 0
def physTesting : Nat := 1
def physRetired : Nat := 2
def physSpare : Nat := 3

/-- Whether u is a logical unit of R559. -/
def isUnit (u : Nat) : Bool := decide (u ≤ 40) || (decide (64 ≤ u) && decide (u ≤ 231))

/-- The logical units of the class of u (Table 15.1). -/
def classUnits (u : Nat) : List Nat :=
  if u < 16 then List.range 16 else if u < 17 then [16] else if u < 25 then (List.range 8).map (17 + ·)
  else if u < 41 then (List.range 16).map (25 + ·) else (List.range 168).map (64 + ·)

/-- The physical units from which u may take a spare: its class, or its quadrant's spares for a slice-port (R90, R533). -/
def sparePool (u : Nat) : List Nat :=
  if u < 16 then List.range 18 else if u < 17 then [18, 19] else if u < 25 then (List.range 9).map (20 + ·)
  else if u < 41 then (List.range 17).map (29 + ·)
  else [64 + 23 * ((u - 64) / 21) + 21, 64 + 23 * ((u - 64) / 21) + 22]

/-- Whether physical unit x is a free spare for u. -/
def State.isSpareFor (s : State) (u x : Nat) : Bool :=
  if u < 41 then s.fld F.RSL_PHYS_STAT_STATE x == physSpare else s.spareFree ((u - 64) / 21) ((x - 64) % 23 - 21)

/-- The free spare that u would take. -/
def State.freeSpare (s : State) (u : Nat) : Option Nat := (sparePool u).find? fun x => s.isSpareFor u x

/-- The state of a unit as RSL_UNIT_STAT shows it: SUSPECT and SWAPPING, else DRAINING or GATED with its block
(Tables 15.9, 18.8, R31). -/
def State.unitState (s : State) (u : Nat) : Nat :=
  let st := s.fld F.RSL_UNIT_STAT_STATE u
  if st ≠ 0 then st
  else if u < 16 then (if s.flag F.NIM_STATUS_DRAINING 0 then unitDraining else 0)
  else if u < 17 then 0
  else if u < 25 then (if s.fld F.TWD_CORE_STAT_STATE (u - 17) = twDraining then unitDraining else 0)
  else if u < 41 then (if s.pipeState (u - 25) = pipeDraining then unitDraining else 0)
  else if s.fld F.TWL_SP_STAT_STATE (u - 64) = spGated then unitGated
  else if s.flag F.TWL_STATUS_DRAINING 0 then unitDraining else 0

/-- RSL_UNIT_STAT as it reads. -/
def State.unitStat (s : State) (u : Nat) : Word := F.RSL_UNIT_STAT_STATE.put (s.unitState u) (s.reg .RSL_UNIT_STAT u)

/-- Whether a swap of the class of u is in progress (R539). -/
def State.classSwaps (s : State) (u : Nat) : Bool := (classUnits u).any fun w => s.fld F.RSL_UNIT_STAT_STATE w == unitSwapping

/-- STATUS of a unit. -/
def State.unitStatus (s : State) (u : Nat) (st : Status) : State := s.setFld F.RSL_UNIT_STAT_STATUS u st.code

/-- No spare is free (Table 15.2): NO_ROOM, DEGRADED, ALERT_N and Awl; the unit stays in service. -/
def State.noSpare (s : State) (u : Nat) : State :=
  let s := (s.unitStatus u .NO_ROOM).setFlag F.RSL_UNIT_STAT_DEGRADED u true
  ((s.setFld F.RSL_UNIT_STAT_STATE u unitInService).alert alertDegraded).awlUnstated .RSL (awlArg u Status.NO_ROOM.code)

/-- Start the swap of u onto a free spare (Table 15.2); for a slice-port it is the swap of R133. SPARE_LOW tells that the
last spare has entered use (Table 15.7). -/
def State.startUnitSwap (s : State) (u : Nat) : State :=
  match s.freeSpare u with
  | none => s.noSpare u
  | some x =>
    let s := s.setFld F.RSL_UNIT_STAT_STATE u unitInService
    let s :=
      if u < 41 then
        let s := s.setRsl { s.rsl with swapTo := Tbl.set (fun _ => 0) u (x + 1) s.rsl.swapTo }
        ((s.setFld F.RSL_PHYS_STAT_STATE x physInService).setFld F.RSL_UNIT_STAT_STATE u unitSwapping).answer .OK
      else s.startSwap (u - 64) ((x - 64) % 23 - 21)
    let s := if s.resp = .OK then s else s.unitStatus u s.resp
    if (s.freeSpare u).isNone then s.spareLow else s

/-- A command or an automatic test finds its unit draining or its class swapping (R539). -/
def State.unitBusy (s : State) (u : Nat) : Option Status :=
  if s.unitState u = unitDraining then some .DRAINING else if s.classSwaps u then some .BUSY else none

/-- Start a unit's in-place check (Table 15.2). -/
def State.startTest (s : State) (u : Nat) : State :=
  match s.unitBusy u with
  | some st => s.unitStatus u st
  | none => if s.unitState u = unitInService then s.setFld F.RSL_UNIT_STAT_STATE u unitSuspect else s

/-- Test a unit's last retired carrier again (Table 15.2). -/
def State.startRetest (s : State) (u : Nat) : State :=
  match s.unitBusy u with
  | some st => s.unitStatus u st
  | none =>
    let x := Tbl.get (fun _ => 0) s.rsl.retiredOf u
    if x = 0 ∨ s.fld F.RSL_PHYS_STAT_STATE (x - 1) ≠ physRetired then s.unitStatus u .NOT_READY
    else s.setFld F.RSL_PHYS_STAT_STATE (x - 1) physTesting

/-- A write of RSL_UNIT_CTRL (R537, R539). -/
def State.writeUnitCtrl (s : State) (src : Requester) (u : Nat) (v : Word) : State :=
  s.guarded .RSL_UNIT_CTRL src fun s =>
    let s := s.answer .OK
    let cmd := F.RSL_UNIT_CTRL_CMD.of v
    if !isUnit u || cmd == 0 then s
    else if cmd = 1 then s.startTest u
    else if cmd = 3 then s.startRetest u
    else match s.unitBusy u with
      | some st => s.unitStatus u st
      | none => if s.unitState u = unitInService then s.startUnitSwap u else s

/-- UNIT_TEST (R537): CMD TEST. -/
def execUnitTest (src : Requester) (u : Fin 232) (s : State) : Host.Outcome State Fault Refusal := .next (s.writeUnitCtrl src u 1)

/-- UNIT_SWAP (R537): CMD SWAP. -/
def execUnitSwap (src : Requester) (u : Fin 232) (s : State) : Host.Outcome State Fault Refusal := .next (s.writeUnitCtrl src u 2)

/-- UNIT_RETEST (R537): CMD RETEST. -/
def execUnitRetest (src : Requester) (u : Fin 232) (s : State) : Host.Outcome State Fault Refusal := .next (s.writeUnitCtrl src u 3)

/-- AUTO_TEST_TRIGGER (R538): the corrected codewords of the last 24 h, and whether an uncorrectable codeword or a failed
self-check step implicates the unit. With AUTO clear the trigger is only recorded. -/
def execAutoTestTrigger (u : Fin 232) (corr : Nat) (implicated : Bool) (s : State) : Host.Outcome State Fault Refusal :=
  .next (if !isUnit u then s
    else
      let s := s.setReg .RSL_UNIT_CORR u (BitVec.ofNat 64 (satTo 32 corr))
      if implicated || decide (s.fld F.RSL_AUTO_CORR_LIM 0 ≤ corr) then
        if s.flag F.RSL_CTRL_AUTO 0 then s.startTest u else s.awlUnstated .RSL (awlArg u corr)
      else s)

/-- INPLACE_CHECK_DONE (R537): a SUSPECT unit passes, or is swapped. -/
def execInplaceCheckDone (u : Fin 232) (passed : Bool) (s : State) : Host.Outcome State Fault Refusal :=
  .next (if s.fld F.RSL_UNIT_STAT_STATE u ≠ unitSuspect then s
    else if passed then
      let s := (s.setReg .RSL_UNIT_CORR u 0).setFlag F.RSL_UNIT_STAT_DEGRADED u false
      let s := (s.setFld F.RSL_UNIT_STAT_STATE u unitInService).unitStatus u .OK
      s.awlState .RSL .info unitInService u 0
    else s.startUnitSwap u)

/-- What moving a unit changes in its block (R231, R316, R378, R540): the carrier that the block shows, and for a core its
services, which restart at RESYNC. -/
def State.blockMoved (s : State) (u x : Nat) : State :=
  if u < 16 then
    let s := s.setFld F.NIM_CORE_STAT_PHYS u x
    ((List.range 32).filter fun n => (s.svc n).at_.any (fun i => i / 8 == u)).foldl (fun (s : State) n => s.startSvc n 1) s
  else if u < 17 then s
  else if u < 25 then s.setFld F.TWD_CORE_STAT_PHYS (u - 17) (x - 20)
  else s.setFld F.VMP_PIPE_STAT_PHYS (u - 25) (x - 29)

/-- UNIT_SWAP_POINT (R133, R537, R540, R541): at its class's swap point a swapping unit runs on the spare, and its old
carrier enters TESTING. A core swaps once its running entries have completed. -/
def execUnitSwapPoint (u : Fin 232) (s : State) : Host.Outcome State Fault Refusal :=
  let x := Tbl.get (fun _ => 0) s.rsl.swapTo u
  let working := decide (u.val < 16) && (List.range 8).any fun j => (s.ctx (8 * u.val + j)).run != .off && (s.ctx (8 * u.val + j)).entry.isSome
  .next (if s.fld F.RSL_UNIT_STAT_STATE u ≠ unitSwapping then s
    else if 41 ≤ u.val then (if s.twl.swap.any (fun w => 64 + w.sp == u.val) then s.steer else s)
    else if x = 0 || working then s
    else (s.unitMoved u (x - 1) physTesting).blockMoved u (x - 1))

/-- SPARE_CHECK_FAIL (R537): the spare fails its check before the swap point. -/
def execSpareCheckFail (u : Fin 232) (s : State) : Host.Outcome State Fault Refusal :=
  let x := Tbl.get (fun _ => 0) s.rsl.swapTo u
  .next (if s.fld F.RSL_UNIT_STAT_STATE u ≠ unitSwapping ∨ x = 0 then s else s.spareFailed u (x - 1))

/-- OFFLINE_TEST_DONE (R537): a unit under test becomes a spare of its class, or is retired with a repair map entry. -/
def execOfflineTestDone (x : Fin 248) (passed : Bool) (s : State) : Host.Outcome State Fault Refusal :=
  .next (if s.fld F.RSL_PHYS_STAT_STATE x ≠ physTesting then s
    else if passed then
      let s := s.setRsl { s.rsl with map := s.rsl.map.filter fun (r : Repair) => !(r.kind == .unit && r.array == x.val) }
      let s := s.setFld F.RSL_REPAIR_USED_N 0 s.rsl.map.length
      (s.setFld F.RSL_PHYS_STAT_STATE x physSpare).setFld F.RSL_PHYS_STAT_RESULT x 1
    else
      let u := Tbl.get (fun _ => 0) s.rsl.carried x
      let s := (s.setFld F.RSL_PHYS_STAT_STATE x physRetired).setFld F.RSL_PHYS_STAT_RESULT x 2
      let s := if u = 0 then s else s.setRsl { s.rsl with retiredOf := Tbl.set (fun _ => 0) (u - 1) (x.val + 1) s.rsl.retiredOf }
      let known := s.rsl.map.any fun (r : Repair) => r.kind == .unit && r.array == x.val
      let s := if known then s else s.addRepair .unit x 0 0
      s.event Irq.RSL_UNIT_RETIRED x 0)

/-! ### Arrays and ageing (R535, R543 to R545) -/

/-- Retire a frame-store page (R535). -/
def State.retirePage (s : State) (page bank row : Nat) : State :=
  if s.rsl.retired.contains page then s
  else
    let s := s.setRsl { s.rsl with retired := page :: s.rsl.retired, toRetire := s.rsl.toRetire.filter fun (p : Nat) => p != page }
    (s.setReg .RSL_HBM_RETIRED 0 (BitVec.ofNat 64 s.rsl.retired.length)).addRepair .hbmPage bank page row

/-- HBM_PPR (R535): a failing row of a bank is replaced by soft repair and a hard repair is recorded; with no spare row the
row's page is retired, or awaits being freed while it is in use. -/
def execHbmPpr (bank : Fin 65536) (row : Nat) (page : Fin 30720) (inUse : Bool) (s : State) : Host.Outcome State Fault Refusal :=
  .next (if Tbl.get (fun _ => false) s.rsl.hbmUsed bank then
      if inUse then (if s.rsl.toRetire.contains page.val then s else s.setRsl { s.rsl with toRetire := page.val :: s.rsl.toRetire })
      else s.retirePage page bank row
    else
      let s := s.setRsl { s.rsl with hbmUsed := Tbl.set (fun _ => false) bank true s.rsl.hbmUsed }
      let s := s.setFld F.RSL_HBM_PPR_SOFT 0 (satTo 16 (s.fld F.RSL_HBM_PPR_SOFT 0 + 1))
      let s := if s.rsl.map.length < 32768 then s.setFld F.RSL_HBM_PPR_HARD 0 (satTo 16 (s.fld F.RSL_HBM_PPR_HARD 0 + 1)) else s
      s.addRepair .hbmRow bank row 0)

/-- VDD_CORE in mV (R543, R652). -/
def State.vddCore (s : State) : Nat := 800 - s.rsl.below

/-- Send VDD_CORE its next setpoint; none while its regulator does not acknowledge (R652). -/
def State.setCore (s : State) (below : Nat) : State :=
  if s.rsl.noAck then s
  else
    let s := s.setRsl { s.rsl with below := below }
    (s.setFld F.RSL_AVS_STAT_VDD 0 s.vddCore).emit (.setCore s.vddCore)

/-- AVS_STEP (R543, R544): the lowest slack of the monitors, and what it would be 5 mV lower, in ps. The voltage rises or
falls by 5 mV between 0.70 and 0.80 V; slack below GUARD at 0.80 V is CORE_MARGIN. -/
def execAvsStep (slack lower : Int) (s : State) : Host.Outcome State Fault Refusal :=
  let guard : Int := s.fld F.RSL_AVS_CFG_GUARD 0
  .next (if slack < guard then
      if 0 < s.rsl.below then s.setCore (s.rsl.below - 5)
      else
        let s := (s.setRsl { s.rsl with noMargin := true }).setFlag F.RSL_STATUS_CORE_MARGIN 0 true
        s.alarm Irq.RSL_CORE_MARGIN alertCoreMargin 0 0
    else
      let s := s.setRsl { s.rsl with noMargin := false }
      if guard ≤ lower ∧ s.rsl.below < 100 then s.setCore (s.rsl.below + 5) else s.setCore s.rsl.below)

/-- AGE_WARN (R544 to R546). -/
def State.ageWarn (s : State) (obj detail : Nat) : State := (s.setFlag F.RSL_STATUS_AGE_WARN 0 true).event Irq.RSL_AGE_WARN obj detail

/-- The days from a day until the least-squares line through the records reaches 800 mV; none where it never does (R544). -/
def daysTo800 (l : List (Nat × Nat × Int)) (day : Nat) : Option Int :=
  let n : Int := l.length
  let sx := l.foldl (fun (a : Int) e => a + e.1) 0
  let sy := l.foldl (fun (a : Int) e => a + e.2.1) 0
  let sxx := l.foldl (fun (a : Int) e => a + e.1 * e.1) 0
  let sxy := l.foldl (fun (a : Int) e => a + e.1 * e.2.1) 0
  let num := n * sxy - sx * sy
  if num ≤ 0 then none else some (((800 * n - sy) * (n * sxx - sx * sx) + sx * num) / (num * n) - day)

/-- CORE_AGEING_RECORD (R544, R565): the required VDD_CORE at 85 °C in mV and the lowest slack, once a day. -/
def execCoreAgeingRecord (required : Fin 1024) (slack : Int) (s : State) : Host.Outcome State Fault Refusal :=
  let day := (s.reg .INS_OPSEC 0).toNat / 86400
  let l := (day, required.val, slack) :: s.rsl.ages.take 89
  let s := (s.setRsl { s.rsl with ages := l }).setFld F.RSL_AVS_STAT_REQ85 0 required
  let days := match daysTo800 l day with | none => 4095 | some d => satTo 12 d.toNat
  let s := s.setFld F.RSL_AVS_STAT_DAYS 0 days
  .next (if days < 365 then s.ageWarn 0 days else s)

/-- The codewords of the MRAM regions (Table 16.1), in its order. -/
def mramCodewords : List Nat := [32768, 16384, 8192, 8192, 8192, 40960, 16384]

/-- MRAM_SCRUB (R534, R545): the codewords corrected in each region, and the rows that need repair. -/
def execMramScrub (corrected : List Nat) (rows : List BadRow) (s : State) : Host.Outcome State Fault Refusal :=
  let pairs := corrected.zip mramCodewords
  let over_ := pairs.any fun e => decide (e.2 < 1000 * e.1)
  let calm := pairs.all fun e => decide (10000 * e.1 < e.2)
  let total := corrected.foldl (fun a b => a + b) 0
  let i := s.fld F.RSL_MRAM_SCRUB_INTERVAL 0
  let n := if calm then s.rsl.calm + 1 else 0
  let s := rows.foldl (fun (s : State) b => s.repairRow { b with mram := true }) s
  let s := s.setFld F.RSL_MRAM_SCRUB_CORR 0 (satTo 24 total)
  let s := s.setRsl { s.rsl with calm := if n = 7 then 0 else n }
  .next (if over_ then
      let s := s.setFld F.RSL_MRAM_SCRUB_INTERVAL 0 (max 1 (i / 2))
      if i = 1 then s.ageWarn 0 0 else s
    else if n = 7 then s.setFld F.RSL_MRAM_SCRUB_INTERVAL 0 (min 24 (2 * i))
    else s)

/-! ### Drains at their bound (R547, R548) -/

/-- A drain completes as a kill: counted, SET and recorded (R548). -/
def State.drainOver (s : State) (draining : Bool) (obj : Nat) (kill : State → State) : State :=
  if draining then ((kill s).count .RSL_DRAIN_OVR 0 1).event Irq.RSL_DRAIN_OVR obj 0 else s

/-- DRAIN_BOUND_EXPIRE (R548, Table 15.3). -/
def execDrainBoundExpire (target : DrainTarget) (s : State) : Host.Outcome State Fault Refusal :=
  .next (match target with
    | .input n => s.drainOver (s.inState n == inDraining) n fun (s : State) => s.killInput n
    | .twill f => s.drainOver (s.flag F.TWL_STATUS_DRAINING 0) 0 fun (s : State) => (s.count .TWL_KILLED 0 f).twillStop
    | .output n => s.drainOver (s.outState n == 2) n fun (s : State) => (s.drainTakes n).outputOff n true
    | .tweedCore c => s.drainOver (s.fld F.TWD_CORE_STAT_STATE c == twDraining) c fun (s : State) => (s.killCore c).twdIdle
    | .aspSection n => s.drainOver (s.aspState (decide (n.val < 16)) (n.val % 16) == aspDraining) n fun (s : State) =>
        (s.aspStop (decide (n.val < 16)) (n.val % 16)).aspIdle
    | .pipe v => s.drainOver (s.pipeState v == pipeDraining) v fun (s : State) => s.pipeKill v
    | .trigger t => s.drainOver (s.trgState t == trgDraining) t fun (s : State) => s.trgKill t
    | .port p => s.drainOver (s.portState p == portDraining) p fun (s : State) => (s.portStop p .DRAINING).showNpt
    | .link k => s.drainOver (s.lkState k == lkDraining) k fun (s : State) => s.linkFall k 3 false)

/-! ### The power state and the mode (R26, R27, R282, R635, R636) -/

/-- The power states of INS_STATE (Table 18.13). -/
def powerInsole : Nat := 1
def powerSpare : Nat := 2
def powerActive : Nat := 3

/-- The domains that run in SPARE (Table 18.8). -/
def spareDomains : List Nat := [0, 1, 6, 7, 8, 9]

/-- Enter SPARE (Table 18.7): the data plane is off, demand domains are released, and the links go to HOLD. -/
def State.enterSpare (s : State) : State :=
  let keep := spareDomains.foldl (fun n d => n + 2 ^ d) 0
  let s := s.setFld F.INS_STATE_STATE 0 powerSpare
  let s := { s with boot := { s.boot with clks := s.boot.clks.filter fun (e : Nat × ClkRun) => spareDomains.contains e.1 } }
  let s := (s.setReg .INS_CLK_REQ 0 (s.reg .INS_CLK_REQ 0 &&& BitVec.ofNat 64 keep)).setReg .INS_CLK_RUN 0
    (s.reg .INS_CLK_RUN 0 &&& BitVec.ofNat 64 keep)
  (List.range 16).foldl (fun (s : State) k => s.laceHold k) s

/-- What keeps a part from entering SPARE (R636). -/
def State.spareRefused (s : State) : Bool :=
  (List.range 384).any (fun n => s.flag F.ING_IN_CFG_ENABLE n) || (List.range 128).any (fun n => s.flag F.EGR_OUT_CFG_ENABLE n) ||
  (List.range 16).any (fun v => s.flag F.VMP_PIPE_CFG_ENABLE v) || (List.range 8).any (fun c => s.fld F.TWD_CORE_STAT_STATE c != twOff) ||
  (List.range 16).any (fun n => s.flag F.ASP_TX_CFG_ENABLE n || s.flag F.ASP_RX_CFG_ENABLE n) ||
  s.anyElem .EGR_VSND_CFG (fun i => s.flag F.EGR_VSND_CFG_VALID i) || s.anyElem .EGR_ASND_CFG (fun i => s.flag F.EGR_ASND_CFG_VALID i) ||
  s.anyElem .EGR_XSND_CFG (fun i => s.flag F.EGR_XSND_CFG_VALID i) || (List.range 32).any (fun p => s.flag F.NPT_PORT_CFG_ENABLE p) ||
  !s.twl.routes.isEmpty

/-- A write of NIM_PAIR_CFG (R26, R27, R281, R282, R635, R636): MODE and PARTNER change only from an order of affinity ALL;
what is known of the named partner is whether it names this part, and its PAIR_SIDE. -/
def State.writePairCfg (s : State) (src : Requester) (allOrder partnerNames partnerB : Bool) (v : Word) : State :=
  s.guarded .NIM_PAIR_CFG src fun s =>
    let m := F.NIM_PAIR_CFG_MODE.of v
    let w := F.NIM_PAIR_CFG_WARM_WAIT.of v
    let was := s.fld F.NIM_PAIR_CFG_MODE 0
    let moved := m != was || F.NIM_PAIR_CFG_PARTNER.of v != s.partnerId
    if m = 3 ∨ w < 100 ∨ 10000 < w then s.refuse .BAD_ARG
    else if !moved then s.store .NIM_PAIR_CFG 0 v
    else if !(src == .work && allOrder) then s.refuse .REFUSED_POLICY
    else if m = 1 ∧ (!partnerNames || partnerB == s.sideB) = true then s.refuse .REFUSED_POLICY
    else if m = 2 ∧ was ≠ 2 ∧ s.spareRefused = true then s.refuse .REFUSED_POLICY
    else
      let s := s.store .NIM_PAIR_CFG 0 v
      let s := s.setReg .NIM_PAIR_STAT 0 0
      let s := if m = 1 then s.setFld F.NIM_PAIR_STAT_PARTNER 0 1 else s
      let s := (s.setFlag F.NIM_STATUS_ALONE 0 false).setFlag F.NIM_STATUS_PARTNER_WAIT 0 false
      let s := (s.setFlag F.RSL_STATUS_PARTNER_LOST 0 false).showQueues
      if m = 2 ∧ was ≠ 2 then s.enterSpare else s

/-- PAIR_MODE_WRITE (R282). -/
def execPairModeWrite (src : Requester) (allOrder partnerNames partnerB : Bool) (w : Word32) (s : State) :
    Host.Outcome State Fault Refusal :=
  .next (s.writePairCfg src allOrder partnerNames partnerB (w.setWidth 64))

/-! ### Warm spares (R553, R554) -/

/-- IDLE, CLAIMING, ASSUMING and ASSUMED (Table 15.8, RSL_SPARE_STAT). -/
def spareIdle : Nat := 0
def spareClaiming : Nat := 1
def spareAssuming : Nat := 2
def spareAssumed : Nat := 3

/-- The state of a spare's claim. -/
def State.spareState (s : State) : Nat := s.fld F.RSL_SPARE_STAT_STATE 0

/-- The part runs in SPARE mode. -/
def State.spareMode (s : State) : Bool := s.fld F.NIM_PAIR_CFG_MODE 0 == 2

/-- Send a claim to the survivor of a part (R553). -/
def State.sendClaim (s : State) (id : Nat) : State :=
  let s := (s.setFld F.RSL_SPARE_STAT_STATE 0 spareClaiming).setFld F.RSL_SPARE_STAT_ID 0 id
  (s.setRsl { s.rsl with notice := none }).emit (.claim id)

/-- SPARE_LOSS_NOTICE (R553): an armed spare hears that a listed part is lost. -/
def execSpareLossNotice (id : Fin 1024) (s : State) : Host.Outcome State Fault Refusal :=
  let listed := (List.range 8).any fun i => s.flag F.RSL_SPARE_LIST_VALID i && s.fld F.RSL_SPARE_LIST_ID i == id.val
  .next (if s.spareMode && s.flag F.RSL_SPARE_CFG_ARMED 0 && s.spareState == spareIdle && listed then
      s.setRsl { s.rsl with notice := some id }
    else s)

/-- SPARE_CLAIM_DELAY (R553): DELAY ms after the notice. -/
def execSpareClaimDelay (s : State) : Host.Outcome State Fault Refusal :=
  .next (match s.rsl.notice with
    | some id => if s.spareMode && s.spareState == spareIdle then s.sendClaim id else s
    | none => s)

/-- SPARE_CLAIM_RECEIVE (R553): the survivor grants the first claim and refuses later ones with BUSY. -/
def execSpareClaimReceive (claimant id : Fin 1024) (s : State) : Host.Outcome State Fault Refusal :=
  .next (if s.mirrored && s.partnerLost && s.partnerId == id.val then
      match s.rsl.granted with
      | none => (s.setRsl { s.rsl with granted := some claimant }).emit (.claimAnswer .OK)
      | some _ => s.emit (.claimAnswer .BUSY)
    else s)

/-- SPARE_CLAIM_GRANT (R25, R553): the survivor's answer; on a grant the spare assumes the lost identity, pairs with the
survivor and rejoins (R273). -/
def execSpareClaimGrant (survivor : Fin 1024) (st : Status) (s : State) : Host.Outcome State Fault Refusal :=
  .next (if s.spareState ≠ spareClaiming then s
    else
      let s := s.setFld F.RSL_SPARE_STAT_STATUS 0 st.code
      if st ≠ .OK then s.setFld F.RSL_SPARE_STAT_STATE 0 spareIdle
      else
        let s := s.setFld F.RSL_SPARE_STAT_STATE 0 spareAssuming
        let s := (s.setFld F.GLB_CHIP_DOMAIN 0 (s.fld F.RSL_SPARE_STAT_ID 0)).setFlag F.RSL_STATUS_ASSUMED 0 true
        let s := (s.setFld F.NIM_PAIR_CFG_MODE 0 1).setFld F.NIM_PAIR_CFG_PARTNER 0 survivor
        ((s.setFld F.NIM_PAIR_STAT_PARTNER 0 1).setFlag F.NIM_STATUS_REPLAY 0 true).showQueues)

/-- SPARE_CLAIM_TIMEOUT (R553): no survivor answers in 100 ms. -/
def execSpareClaimTimeout (s : State) : Host.Outcome State Fault Refusal :=
  .next (if s.spareState = spareClaiming then
      (s.setFld F.RSL_SPARE_STAT_STATUS 0 Status.NO_PATH.code).setFld F.RSL_SPARE_STAT_STATE 0 spareIdle
    else s)

/-- The identity that this spare assumed is given back (R554): its outputs drain, it is a SPARE part again, and the
identity is announced free. -/
def State.releaseSpare (s : State) : State :=
  let id := s.domainId
  let s := ((List.range 128).filter fun n => s.outState n == 1).foldl (fun (s : State) n =>
    (s.drainOutput n).setFlag F.EGR_OUT_CFG_ENABLE n false) s
  let s := (s.setFld F.NIM_PAIR_CFG_MODE 0 2).setReg .NIM_PAIR_STAT 0 0
  let s := (s.setFld F.GLB_CHIP_DOMAIN 0 (s.fld F.GLB_CHIP_STRAP 0)).setFlag F.RSL_STATUS_ASSUMED 0 false
  ((s.setFld F.RSL_SPARE_STAT_STATE 0 spareIdle).enterSpare).emit (.identityFree id)

/-- A write of RSL_SPARE_CTRL (R553, R554). -/
def State.writeSpareCtrl (s : State) (src : Requester) (v : Word) : State :=
  s.guarded .RSL_SPARE_CTRL src fun s =>
    if F.RSL_SPARE_CTRL_ASSUME.on v then
      if !s.spareMode then s.refuse .NOT_READY
      else if s.spareState ≠ spareIdle then s.refuse .BUSY
      else (s.answer .OK).sendClaim (F.RSL_SPARE_CTRL_ID.of v)
    else if F.RSL_SPARE_CTRL_RELEASE.on v then
      if s.spareState = spareAssumed then (s.answer .OK).releaseSpare else s.refuse .NOT_READY
    else s.answer .OK

/-- SPARE_ASSUME (R553). -/
def execSpareAssume (src : Requester) (id : Fin 1024) (s : State) : Host.Outcome State Fault Refusal :=
  .next (s.writeSpareCtrl src (BitVec.ofNat 64 (2 ^ 31 + id.val)))

/-- SPARE_RELEASE (R554). -/
def execSpareRelease (src : Requester) (s : State) : Host.Outcome State Fault Refusal :=
  .next (s.writeSpareCtrl src (BitVec.ofNat 64 (2 ^ 30)))

/-! ### Ranges of the RSL registers (R184, R559, R560) -/

/-- Whether a value of an RSL register breaks its table. -/
def badRsl (r : Reg) (v : Word) : Bool :=
  match r with
  | .RSL_XCHK_CFG => decide (F.RSL_XCHK_CFG_MISS_FRAMES.of v < 2) || decide (F.RSL_XCHK_CFG_DIVERGE_FRAMES.of v < 1) ||
      decide (16 < F.RSL_XCHK_CFG_DIVERGE_FRAMES.of v)
  | .RSL_PAIR_CFG => decide (F.RSL_PAIR_CFG_PROBE.of v < 1) || decide (1000 < F.RSL_PAIR_CFG_PROBE.of v) ||
      decide (F.RSL_PAIR_CFG_LOSS.of v < 10) || decide (1000 < F.RSL_PAIR_CFG_LOSS.of v)
  | .RSL_SPARE_CFG => decide (10000 < F.RSL_SPARE_CFG_DELAY.of v)
  | .RSL_AUTO => F.RSL_AUTO_CORR_LIM.of v == 0 || F.RSL_AUTO_HBM_LIM.of v == 0
  | .RSL_AVS_CFG => decide (F.RSL_AVS_CFG_GUARD.of v < 10) || decide (100 < F.RSL_AVS_CFG_GUARD.of v)
  | _ => false

/-- A write of an RSL configuration register. -/
def State.writeRsl (s : State) (src : Requester) (r : Reg) (i : Nat) (v : Word) : State :=
  s.guarded r src fun s => if badRsl r v then s.refuse .BAD_ARG else s.store r i v

end Sys2Proof.Machine
end

