-- ==== Sys2Proof/Machine/Clocks.lean ====
section
/-! DEFINITION. The demand clock arbiter (R637 to R639). -/

namespace Sys2Proof.Machine

/-- What a clock domain does; CORE and PCIE run from the end of a cold reset (Table 18.5). -/
def State.clk (s : State) (d : Nat) : ClkRun := Tbl.get (fun d => if d < 2 then .running else .stopped) s.boot.clks d

/-- Set what a clock domain does. -/
def State.setClk (s : State) (d : Nat) (c : ClkRun) : State :=
  { s with boot := { s.boot with clks := Tbl.set (fun d => if d < 2 then ClkRun.running else .stopped) d c s.boot.clks } }

/-- Whether a PLL is being started. -/
def ClkRun.isStarting : ClkRun → Bool
  | .starting _ => true
  | _ => false

/-- Serve one waiting domain, when fewer PLLs than PARALLEL are being started (R638). -/
def State.serveClk (s : State) (d : Nat) : State :=
  match s.clk d with
  | .waiting n =>
    if ((List.range 27).filter fun e => (s.clk e).isStarting).length < s.fld F.INS_CLK_CFG_PARALLEL 0 then
      (s.setClk d (.starting n)).count .INS_PLL_STARTS 0 1
    else s
  | _ => s

/-- Serve the waiting domains in the order HBM, LACE, NET, VID, PIXEL, and by lower index within a class: the order of the
indexes of Table 18.8 (R638). -/
def State.serveClks (s : State) : State := (List.range 27).foldl (fun (s : State) d => s.serveClk d) s

/-- Start a domain that is to run. -/
def State.startClk (s : State) (d : Nat) : State :=
  match s.clk d with
  | .stopped => (s.setClk d (.waiting 0)).serveClks
  | .stopping _ => s.setClk d (.stopping true)
  | _ => s

/-- A block's request of a domain (R637): a stopped domain starts, one in its 5 µs stop starts after it, and a request
during the hold cancels the stop. -/
def State.requestClk (s : State) (d : Nat) : State := (s.setFlag ⟨.INS_CLK_REQ, d, 1⟩ 0 true).startClk d

/-- CLOCK_DOMAIN_REQUEST (R637). -/
def execClockDomainRequest (d : Fin 27) (s : State) : Host.Outcome State Fault Refusal := .next (s.requestClk d)

/-- PLL_LOCK (R638). -/
def execPllLock (d : Fin 27) (s : State) : Host.Outcome State Fault Refusal :=
  .next (if (s.clk d).isStarting then ((s.setClk d .running).setFlag ⟨.INS_CLK_RUN, d, 1⟩ 0 true).serveClks else s)

/-- PLL_LOCK_TIMEOUT (R639): two retries; the third failure is told. -/
def execPllLockTimeout (d : Fin 27) (s : State) : Host.Outcome State Fault Refusal :=
  .next (match s.clk d with
    | .starting n =>
      if n < 2 then (s.setClk d (.starting (n + 1))).count .INS_PLL_STARTS 0 1
      else
        let s := (s.setClk d .failed).setFlag ⟨.INS_PLL_FAIL, d, 1⟩ 0 true
        (s.event Irq.INS_PLL_FAIL d 0).serveClks
    | _ => s)

/-- Whether a unit of a domain's consumers is enabled or in transition (Table 18.8). -/
def State.clkWanted (s : State) (d : Nat) : Bool :=
  if d < 2 then true
  else if d < 6 then (List.range 384).any (fun n => s.inState n != inOff) || (List.range 16).any (fun v => s.pipeState v != pipeOff)
  else if d < 10 then (List.range 4).any (fun j => s.lkState (4 * (d - 6) + j) != lkDown)
  else if d < 18 then (List.range 4).any (fun j => s.portState (4 * (d - 10) + j) != portOff)
  else if d < 26 then
    (List.range 16).any fun j => s.inState (16 * (d - 18) + j) != inOff || s.outState (16 * (d - 18) + j) != 0
  else (List.range 16).any (fun v => s.pipeState v != pipeOff)

/-- CLOCK_HOLD_EXPIRE (R638): HOLD ms after its last request a domain stops, unless a request has come or it is forced. -/
def execClockHoldExpire (d : Fin 27) (s : State) : Host.Outcome State Fault Refusal :=
  .next (if s.clk d = .running ∧ s.clkWanted d = false then
      let s := s.setFlag ⟨.INS_CLK_REQ, d, 1⟩ 0 false
      if s.flag ⟨.INS_CLK_FORCE, d, 1⟩ 0 then s else s.setClk d (.stopping false)
    else s)

/-- CLOCK_STOP_DONE (R638): the stop ends; a request that came meanwhile starts the domain anew. -/
def execClockStopDone (d : Fin 27) (s : State) : Host.Outcome State Fault Refusal :=
  .next (match s.clk d with
    | .stopping again =>
      let s := (s.setClk d .stopped).setFlag ⟨.INS_CLK_RUN, d, 1⟩ 0 false
      if again then s.startClk d else s
    | _ => s)

/-- A write of INS_CLK_FORCE: a forced domain starts (R638). -/
def State.writeClkForce (s : State) (src : Requester) (v : Word) : State :=
  s.guarded .INS_CLK_FORCE src fun s =>
    let s := s.store .INS_CLK_FORCE 0 v
    ((List.range 27).filter fun d => s.flag ⟨.INS_CLK_FORCE, d, 1⟩ 0).foldl (fun (s : State) d => s.startClk d) s

/-- A write of INS_CLK_CFG (R638). -/
def State.writeClkCfg (s : State) (src : Requester) (v : Word) : State :=
  s.guarded .INS_CLK_CFG src fun s =>
    let p := F.INS_CLK_CFG_PARALLEL.of v
    let h := F.INS_CLK_CFG_HOLD.of v
    if p < 1 ∨ 4 < p ∨ h < 1 ∨ 1000 < h then s.refuse .BAD_ARG else (s.store .INS_CLK_CFG 0 v).serveClks

end Sys2Proof.Machine
end

