-- ==== Sys2Proof/Machine/Persistent.lean ====
section
/-! DEFINITION. What outlives power: the counter record, flash sectors, settings snapshots and the delta log, and the Awl
recorder (chapter 16). -/

namespace Sys2Proof.Machine

/-- Replace the record of the settings store. -/
def State.setKeep (s : State) (x : Store) : State := { s with keep := x }

/-- Replace the record of the Awl. -/
def State.setAwl (s : State) (x : Awl) : State := { s with awl := x }

/-- Operating seconds (R568). -/
def State.opsec (s : State) : Nat := (s.reg .INS_OPSEC 0).toNat % 2 ^ 40

/-! ### The counter record (R563, R568) -/

/-- Copy operating seconds and power cycles into the counter record. -/
def State.writeCounters (s : State) : State :=
  s.setKeep { s.keep with cntSec := s.opsec, cntCyc := (s.reg .INS_PCYCLES 0).toNat }

/-- COUNTER_RECORD_WRITE (R568): every 10 s. -/
def execCounterRecordWrite (s : State) : Host.Outcome State Fault Refusal := .next s.writeCounters

/-! ### Flash sectors (R546, R566, R567) -/

/-- A sector of a device, 0 FLASH_A or 1 FLASH_B, in the tables of erase counts and remap entries. -/
def sectorKey (dev sector : Nat) : Nat := 2048 * dev + sector

/-- The sector that stands for a sector: its spare when it has been retired; none when no spare was free (R567). -/
def State.sectorOf (s : State) (dev sector : Nat) : Option Nat :=
  match Tbl.get (fun _ => 0) s.keep.remap (sectorKey dev sector) with
  | 0 => some sector
  | n + 1 => if n = 240 then none else some (1792 + n)

/-- The erase count of the sector that stands for a sector. -/
def State.eraseCount (s : State) (dev sector : Nat) : Nat :=
  match s.sectorOf dev sector with
  | some p => Tbl.get (fun _ => 0) s.keep.erases (sectorKey dev p)
  | none => 0

/-- Retire a settings or fallback sector: the lowest free spare of its device stands for it, and the Awl is told (R567). -/
def State.retireSector (s : State) (dev sector : Nat) : State :=
  let free := s.fld F.SET_SECTORS_SPARES dev
  let n := if 0 < free then 240 - free else 240
  let s := s.setKeep { s.keep with remap := Tbl.set (fun _ => 0) (sectorKey dev sector) (n + 1) s.keep.remap }
  let s := if 0 < free then s.setFld F.SET_SECTORS_SPARES dev (free - 1) else s
  let s := s.setFld F.SET_SECTORS_RETIRED dev (satTo 11 (s.fld F.SET_SECTORS_RETIRED dev + 1))
  (s.irq Irq.SET_SECTOR_RETIRED).awlPersist .SET .warning 0x0A (awlArg dev sector)

/-- The highest erase count of a device. -/
def State.maxErases (s : State) (dev : Nat) : Nat :=
  s.keep.erases.foldl (fun a (e : Nat × Nat) => if e.1 / 2048 = dev then max a e.2 else a) 0

/-- Show a device's wear: the highest erase count, and the days until it reaches 80,000 at the rate of the last 30 days;
saturated where none were made (R546). -/
def State.showWear (s : State) (dev : Nat) : State :=
  let m := s.maxErases dev
  let day := s.opsec / 86400
  let old := (s.keep.wear.filter fun (w : Nat × Nat × Nat) => decide (day ≤ w.1 + 30)).getLast?
  let days := match old with
    | none => 2 ^ 15 - 1
    | some w =>
      let was := if dev = 0 then w.2.1 else w.2.2
      if m ≤ was then 2 ^ 15 - 1 else satTo 15 ((80000 - m) * (day - w.1) / (m - was))
  (s.setFld F.RSL_FLASH_WEAR_ERASES dev (satTo 17 m)).setFld F.RSL_FLASH_WEAR_DAYS dev days

/-- Note the highest counts of the operating day. -/
def State.noteWear (s : State) : State :=
  let day := s.opsec / 86400
  if s.keep.wear.head?.any (fun w => w.1 == day) then s
  else s.setKeep { s.keep with wear := ((day, s.maxErases 0, s.maxErases 1) :: s.keep.wear).take 31 }

/-- Erase a sector: its count rises first; at 80,000 AGE_WARN is set, and at 100,000 the sector is retired (R546, R567). -/
def State.eraseSector (s : State) (dev sector : Nat) : State :=
  match s.noteWear.sectorOf dev sector with
  | none => s.noteWear
  | some p =>
    let s := s.noteWear
    let n := Tbl.get (fun _ => 0) s.keep.erases (sectorKey dev p) + 1
    let s := (s.setKeep { s.keep with erases := Tbl.set (fun _ => 0) (sectorKey dev p) n s.keep.erases }).showWear dev
    let s := if n = 80000 then s.ageWarn dev p else s
    if n = 100000 then s.retireSector dev sector else s

/-! ### Snapshots and the delta log (R570 to R578) -/

/-- The registers of class ACTION that their access code does not name (Table 06.3). -/
def actionRegs : List Reg :=
  [.TWL_DIR_CMD, .TWL_SWAP_CTRL, .NIM_SQ_TAIL, .NIM_CQ_HEAD, .NPT_RXR_TAIL, .NPT_TXR_TAIL, .AWL_CTRL]

/-- Whether a register is of class SET (Table 06.3). -/
def Reg.isSet (r : Reg) : Bool := r.info.acc == .RW && !actionRegs.contains r

/-- The registers whose contents the crosspoint and flow image holds: input, sender and join bindings (Table 16.1). -/
def imageRegs : List Reg :=
  [.ING_PKT_VID, .ING_AFL_CFG, .ING_ANF_CFG, .EGR_VSND_CFG, .EGR_VSND_SRC, .EGR_ASND_CFG, .EGR_XSND_CFG, .EGR_JOIN_ENT]

/-- The sector in a bank of a pair (Table 16.5). -/
def bankSector (pair n : Nat) : Nat := 1024 + 256 * pair + n % 256

/-- The sectors of a bank that can be written, from a sector onward and wrapping (R574). -/
def State.bankSectors (s : State) (pair bank start : Nat) : List Nat :=
  ((List.range 256).map fun j => (start + j) % 256).filter fun n => (s.sectorOf bank (bankSector pair n)).isSome

/-- Whether a bank has failed (R574). -/
def State.bankFailed (s : State) (bank : Nat) : Bool :=
  s.flag (if bank = 0 then F.SET_STATUS_BANK_FAIL_A else F.SET_STATUS_BANK_FAIL_B) 0

/-- Fail a bank whose sectors cannot hold 135 (R574). -/
def State.checkBank (s : State) (bank : Nat) : State :=
  let pair := s.fld F.SET_STATUS_PAIR 0
  if !s.bankFailed bank && decide ((s.bankSectors pair bank 0).length < 135) then
    (s.setFlag (if bank = 0 then F.SET_STATUS_BANK_FAIL_A else F.SET_STATUS_BANK_FAIL_B) 0 true).irq Irq.SET_BANK_FAIL
  else s

/-- The newest valid snapshot of a pair. -/
def State.newestOf (s : State) (pair : Nat) : Option Snapshot :=
  (s.keep.snaps.filter fun (x : Snapshot) => x.pair == pair).foldl (fun b x => match b with
    | none => some x
    | some y => if y.seq < x.seq then some x else some y) none

/-- The highest SEQ in either pair. -/
def State.topSeq (s : State) : Nat := s.keep.snaps.foldl (fun a (x : Snapshot) => max a x.seq) 0

/-- The bank that the next snapshot goes to (R574). -/
def State.nextBank (s : State) : Nat :=
  let b := match s.newestOf (s.fld F.SET_STATUS_PAIR 0) with | some x => 1 - x.bank | none => 0
  if s.bankFailed b then 1 - b else b

/-- The registers of snapshot section 1 (Table 16.6). -/
def State.section1 (s : State) : Tbl (Tbl Word) :=
  s.regs.filterMap fun (e : Nat × Tbl Word) =>
    let m := Tbl.get (fun _ => []) s.keep.marked e.1
    if (imageRegs.map Reg.ctorIdx).contains e.1 then none
    else match e.2.filter fun (x : Nat × Word) => Tbl.get (fun _ => false) m x.1 with
      | [] => none
      | l => some (e.1, l)

/-- Sectors of a body of n bytes with its header (R575). -/
def snapSectors (len : Nat) : Nat := ceilDiv (256 + len) 65536

/-- Start a snapshot (R574 to R576). The spec does not give the body's form, so that BODY_LEN is a free value up to 135
sectors; its sectors are erased. -/
def State.startSnap (s : State) : State :=
  let pair := s.fld F.SET_STATUS_PAIR 0
  let bank := s.nextBank
  let len := s.free.toNat % (135 * 65536 - 256)
  let last := (s.keep.snaps.filter fun (x : Snapshot) => x.pair == pair && x.bank == bank).foldl
    (fun (b : Option Snapshot) x => match b with | none => some x | some y => if y.seq < x.seq then some x else some y) none
  let from_ := match last with | none => 0 | some x => (x.start + snapSectors x.len) % 256
  let sectors := (s.bankSectors pair bank from_).take (snapSectors len)
  let start := match sectors with | [] => from_ | n :: _ => n
  let x : Snapshot := ⟨s.fld F.SET_STATUS_FORMAT 0, pair, bank, start, s.topSeq + 1, s.keep.nextPos, len, s.opsec,
    (s.reg .UPD_RUN_VER 0).toNat, s.section1, s.twd, s.vmp⟩
  let hit := fun (y : Snapshot) => y.pair == pair && y.bank == bank &&
    ((s.bankSectors pair bank y.start).take (snapSectors y.len)).any sectors.contains
  let s := s.drawFree.setKeep { s.keep with
    job := some x, lastStart := s.tick, snaps := s.keep.snaps.filter fun (y : Snapshot) => !hit y }
  (sectors.foldl (fun (s : State) n => s.eraseSector bank (bankSector pair n)) s).setFld F.SET_STATUS_STATE 0 1

/-- Show the delta records not free; at 30,720 DELTA_HIGH is set and a forced snapshot starts (R572, R577). -/
def State.showDeltas (s : State) : State :=
  let was := s.fld F.SET_DELTA_USED_N 0
  let n := s.keep.deltas.length
  let s := s.setFld F.SET_DELTA_USED_N 0 n
  if 30720 ≤ n ∧ was < 30720 then
    let s := s.irq Irq.SET_DELTA_HIGH
    if s.keep.job.isSome || s.flag F.SET_STATUS_CONVERT_FAIL 0 then s else s.startSnap
  else s

/-- Whether the delta log takes no record (R572). -/
def State.deltasFull (s : State) : Bool := decide (40960 ≤ s.keep.deltas.length)

/-- Write a delta record for a store of class SET by accepted work or the management core (R571). -/
def State.writeDelta (s : State) (seq origin : Nat) (pairs : List (Nat × Word)) : State :=
  let d : Delta := ⟨s.keep.nextPos, seq, origin, s.fld F.SET_STATUS_FORMAT 0, pairs⟩
  (s.setKeep { s.keep with deltas := s.keep.deltas ++ [d], nextPos := s.keep.nextPos + 1 }).showDeltas

/-- Note that accepted work or the management core has written a register, so that snapshots hold it (Table 16.6). -/
def State.markReg (s : State) (r : Reg) (i : Nat) : State :=
  let row := Tbl.set (fun _ => false) i true (Tbl.get (fun _ => []) s.keep.marked r.ctorIdx)
  s.setKeep { s.keep with marked := Tbl.set (fun _ => []) r.ctorIdx row s.keep.marked }

/-- The status of the last snapshot request or attempt. -/
def State.snapResult (s : State) (st : Status) : State := s.setFld F.SET_SNAP_RESULT_STATUS 0 st.code

/-- SNAPSHOT_AUTO (R577, R581): INTERVAL seconds after the last start, while the delta log holds records that the newest
verified snapshot does not. -/
def execSnapshotAuto (s : State) : Host.Outcome State Fault Refusal :=
  .next (if s.keep.job.isSome || decide (s.tick < s.keep.lastStart + s.fld F.SET_CFG_INTERVAL 0 * 32768) || s.keep.deltas.isEmpty then s
    else if s.flag F.SET_STATUS_CONVERT_FAIL 0 then s.snapResult .CONVERT_FAIL
    else s.startSnap)

/-- A write of SET_CTRL (R577, R581). -/
def State.writeSetCtrl (s : State) (src : Requester) (v : Word) : State :=
  s.guarded .SET_CTRL src fun s =>
    let s := s.answer .OK
    if !F.SET_CTRL_SNAP.on v then s
    else if s.flag F.SET_STATUS_CONVERT_FAIL 0 then s.snapResult .CONVERT_FAIL
    else if s.keep.job.isSome || s.fld F.SET_DEMAND_LEFT_N 0 == 0 then s.snapResult .BUSY
    else ((s.setFld F.SET_DEMAND_LEFT_N 0 (s.fld F.SET_DEMAND_LEFT_N 0 - 1)).startSnap).snapResult .OK

/-- SNAPSHOT_DEMAND (R577): SET_CTRL.SNAP. -/
def execSnapshotDemand (src : Requester) (s : State) : Host.Outcome State Fault Refusal :=
  .next (s.writeSetCtrl src (F.SET_CTRL_SNAP.put 1 0))

/-- Show what the newest verified snapshot is. -/
def State.showSnap (s : State) (x : Snapshot) : State :=
  let s := (s.setReg .SET_SNAP_SEQ 0 (BitVec.ofNat 64 x.seq)).setReg .SET_SNAP_OPSEC 0 (BitVec.ofNat 64 x.opsec)
  let s := (s.setReg .SET_SNAP_LEN 0 (BitVec.ofNat 64 x.len)).setFlag F.SET_PAIR_FMT_VALID x.pair true
  let s := s.setFld F.SET_PAIR_FMT_FORMAT x.pair x.format
  s.setFld F.SET_STATUS_NEXT_BANK 0 s.nextBank

/-- SNAPSHOT_VERIFY_DONE (R572, R576): the read-back passes, or names the sectors that fail. -/
def execSnapshotVerifyDone (failing : List (Fin 256)) (s : State) : Host.Outcome State Fault Refusal :=
  .next (match s.keep.job with
    | none => s
    | some x =>
      let s := (s.setKeep { s.keep with job := none }).setFld F.SET_STATUS_STATE 0 0
      match failing with
      | [] =>
        let s := s.setKeep { s.keep with
          snaps := x :: s.keep.snaps, deltas := s.keep.deltas.filter fun (d : Delta) => decide (x.deltaPos ≤ d.dpos) }
        let s := (s.showSnap x).showDeltas
        ((s.irq Irq.SET_SNAP_DONE).count .SET_SNAPS 0 1).snapResult .OK
      | l =>
        let s := l.foldl (fun (s : State) n => s.retireSector x.bank (bankSector x.pair n)) s
        let s := ((s.checkBank x.bank).irq Irq.SET_SNAP_FAIL).snapResult .MEDIA_FAIL
        s.awlPersist .SET .warning 0x09 Status.MEDIA_FAIL.code)

/-- DEMAND_REFILL (R577): every 86,400 operating seconds. -/
def execDemandRefill (s : State) : Host.Outcome State Fault Refusal :=
  .next ((s.setKeep { s.keep with demandAt := s.opsec }).setFld F.SET_DEMAND_LEFT_N 0 (s.fld F.SET_CFG_DEMAND_MAX 0))

/-- A write of SET_CFG (R601). -/
def State.writeSetCfg (s : State) (src : Requester) (v : Word) : State :=
  s.guarded .SET_CFG src fun s => if F.SET_CFG_INTERVAL.of v < 300 then s.refuse .BAD_ARG else s.store .SET_CFG 0 v

/-! ### Awl records (R582, R586, R589, R594, R595) -/

/-- One step of the CRC-32C register over a bit, reflected. -/
def crcBit (c : BitVec 32) : BitVec 32 := if c.getLsbD 0 then (c >>> 1) ^^^ 0x82F63B78 else c >>> 1

/-- CRC-32C over bytes. -/
def crc32c (l : List Byte) : BitVec 32 :=
  ~~~(l.foldl (fun (c : BitVec 32) b => (List.range 8).foldl (fun (c : BitVec 32) _ => crcBit c) (c ^^^ b.setWidth 32)) 0xFFFFFFFF)

/-- The 64 bytes of a record (Table 16.8). -/
def AwlRecord.bytes (r : AwlRecord) : List Byte :=
  let head := leBytes 8 r.seq ++ leBytes 8 r.time ++ leBytes 5 r.opsec ++ leBytes 1 r.src ++ leBytes 2 r.code ++ leBytes 4 r.arg ++
    leBytes 1 r.rep ++ leBytes 1 r.flags ++ leBytes 2 0 ++ leBytes 4 r.pcycles ++ leBytes 4 r.epoch ++ leBytes 16 0
  head ++ leBytes 4 (crc32c head).toNat ++ leBytes 2 0 ++ leBytes 2 0x4157

/-- The media of AWL_STATUS.MEDIUM. -/
def awlMram : Nat := 0
def awlFlash : Nat := 1
def awlRetention : Nat := 2

/-- The medium in use. -/
def State.awlMedium (s : State) : Nat := s.fld F.AWL_STATUS_MEDIUM 0

/-- Records that a medium holds: 32,768 in MRAM, 512 sectors of 1,024 in flash. -/
def awlSize (m : Nat) : Nat := if m = awlMram then 32768 else 524288

/-- The records of a medium by index; the last-words ring from its newest. -/
def State.awlRecs (s : State) (m : Nat) : Tbl (Option AwlRecord) :=
  if m = awlMram then s.awl.mram else if m = awlFlash then s.awl.flash
  else s.awl.lastWords.zipIdx.map fun e => (e.2, some e.1)

/-- Show the count and the oldest record of the medium in use, of the current epoch. -/
def State.showAwl (s : State) : State :=
  let ep := (s.reg .AWL_EPOCH 0).toNat
  let l := (s.awlRecs s.awlMedium).filterMap fun (e : Nat × Option AwlRecord) => e.2.bind fun r => if r.epoch = ep then some r.seq else none
  let next := (s.reg .AWL_SEQ_NEXT 0).toNat
  (s.setFld F.AWL_COUNT_N 0 l.length).setReg .AWL_OLDEST 0 (BitVec.ofNat 64 (l.foldl min next))

/-- Find the head of a medium: behind the valid record of the current epoch with the highest SEQ (R587). -/
def State.findHead (s : State) : State :=
  let ep := (s.reg .AWL_EPOCH 0).toNat
  let m := s.awlMedium
  let top := (s.awlRecs m).foldl (fun (b : Option (Nat × Nat)) e => match e.2 with
    | none => b
    | some r => if r.epoch ≠ ep then b else match b with
      | none => some (r.seq, e.1)
      | some x => if x.1 < r.seq then some (r.seq, e.1) else b) none
  let h := match top with | none => s.fld F.AWL_HEAD_INDEX 0 % awlSize m | some x => (x.2 + 1) % awlSize m
  (s.setFld F.AWL_HEAD_INDEX 0 h).showAwl

/-- Store a record at the head of the medium in use, or at the front of the last-words ring; SEQ goes on. -/
def State.putRecord (s : State) (e : Staged) : State :=
  let seq := (s.reg .AWL_SEQ_NEXT 0).toNat
  let m := s.awlMedium
  let r : AwlRecord := ⟨seq, e.time, e.opsec, e.src, e.code, e.arg, e.rep,
    (if e.retained then 1 else 0) + (if m = awlFlash then 2 else 0), (s.reg .INS_PCYCLES 0).toNat, (s.reg .AWL_EPOCH 0).toNat⟩
  let h := s.fld F.AWL_HEAD_INDEX 0
  let s := s.setReg .AWL_SEQ_NEXT 0 (BitVec.ofNat 64 (seq + 1))
  if m = awlRetention then
    let s := if s.awl.lastWords.length < 16 then s else s.count .AWL_LOST 0 1
    (s.setAwl { s.awl with lastWords := (r :: s.awl.lastWords).take 16 }).showAwl
  else
    let full := decide (awlSize m ≤ s.fld F.AWL_COUNT_N 0)
    let s := if full && m == awlMram then s.count .AWL_OVERWRITTEN 0 1 else s
    let s := if m = awlFlash ∧ h % 1024 = 0 then
        let sector := h / 1024
        let old := s.awl.flash.filter fun (e : Nat × Option AwlRecord) => e.1 / 1024 == sector
        let live := old.filter fun (e : Nat × Option AwlRecord) => e.2.any fun r => r.epoch == (s.reg .AWL_EPOCH 0).toNat
        let s := s.setAwl { s.awl with flash := s.awl.flash.filter fun (e : Nat × Option AwlRecord) => e.1 / 1024 != sector }
        (s.count .AWL_OVERWRITTEN 0 live.length).eraseSector (sector / 256) (1536 + sector % 256)
      else s
    let s := if m = awlMram then s.setAwl { s.awl with mram := Tbl.set (fun _ => none) h (some r) s.awl.mram }
      else s.setAwl { s.awl with flash := Tbl.set (fun _ => none) h (some r) s.awl.flash }
    (s.setFld F.AWL_HEAD_INDEX 0 ((h + 1) % awlSize m)).showAwl

/-- An event of the Awl itself that is written at once (R592, R594). -/
def State.awlNow (s : State) (sev : Severity) (ev arg : Nat) : Staged :=
  ⟨s.tick % 2 ^ 32, sev.num * 2 ^ 14 + ev, Blk.AWL.src, 1, arg, if s.tbRunning 0 then nimTime (s.tbNow 0) else 0, s.opsec, false, false⟩

/-- The Awl moves to a medium: its head is found there, and a first record is written (R594). -/
def State.moveAwl (s : State) (m : Nat) (sev : Severity) (ev arg : Nat) : State :=
  let s := (s.setFld F.AWL_STATUS_MEDIUM 0 m).findHead
  s.putRecord (s.awlNow sev ev arg)

/-- The MRAM log fails (R594). -/
def State.mramLogFails (s : State) : State :=
  ((s.setAwl { s.awl with mramFailed := true, badSectors := 0 }).irq Irq.AWL_FALLBACK).moveAwl awlFlash .error 0x03 0

/-- The fallback fails (R595): the newest 16 entries are kept in retention, and ALERT_N is asserted. -/
def State.fallbackFails (s : State) : State :=
  let s := (s.setFld F.AWL_STATUS_MEDIUM 0 awlRetention).setFlag F.AWL_STATUS_MEDIA_FAIL 0 true
  ((s.irq Irq.AWL_MEDIA_FAIL).alert alertMediaFail).awlPersist .AWL .error 0x03 1

/-- A program in the fallback fails: the sector is retired and the ring goes on in the next; the third in a row fails the
fallback (R567, R595). -/
def State.flashProgramFails (s : State) : State :=
  let sector := s.fld F.AWL_HEAD_INDEX 0 / 1024
  let s := (s.setAwl { s.awl with badSectors := s.awl.badSectors + 1 }).retireSector (sector / 256) (1536 + sector % 256)
  if 3 ≤ s.awl.badSectors then s.fallbackFails
  else s.setFld F.AWL_HEAD_INDEX 0 ((sector + 1) % 512 * 1024)

/-- Whether the medium has room under FULL_MODE; a full medium under STOP sets FULL and asserts ALERT_N (R589). -/
def State.awlRoom (s : State) : Bool :=
  s.awlMedium == awlRetention || !s.flag F.AWL_CFG_FULL_MODE 0 || decide (s.fld F.AWL_COUNT_N 0 < awlSize s.awlMedium)

/-- FULL is set (R589). -/
def State.awlFull (s : State) : State :=
  if s.flag F.AWL_STATUS_FULL 0 then s
  else ((s.setFlag F.AWL_STATUS_FULL 0 true).irq Irq.AWL_FULL).alert alertAwlFull

/-- The oldest entry leaves the queue; events lost meanwhile are told (R585, R586). -/
def State.dropStaged (s : State) : State :=
  let s := (s.setAwl { s.awl with staged := s.awl.staged.tail }).showStaged
  if s.awl.lost = 0 then s
  else
    let n := s.awl.lost
    (s.setAwl { s.awl with lost := 0 }).awlPersist .AWL .warning 0x02 n

/-- Write the oldest staged entry; `ok` tells whether the record verifies (R586, R589, R594, R595). -/
def State.writeOldest (s : State) (ok : Bool) : State :=
  match s.awl.staged with
  | [] => s
  | e :: _ =>
    if !s.awlRoom then s.awlFull
    else if ok || s.awlMedium == awlRetention then
      let s := if s.awlMedium = awlFlash then s.setAwl { s.awl with badSectors := 0 } else s
      (s.putRecord e).dropStaged
    else if s.awlMedium = awlMram then s.mramLogFails
    else s.flashProgramFails

/-- AWL_RECORD_WRITE (R586): the oldest entry, once its window has closed, unless the Awl is frozen. -/
def execAwlRecordWrite (ok : Bool) (s : State) : Host.Outcome State Fault Refusal :=
  .next (if s.flag F.AWL_STATUS_FROZEN 0 || s.awl.staged.head?.any (fun e => e.window) then s else s.writeOldest ok)

/-- Close the first open window. -/
def closeWindow : List Staged → List Staged
  | [] => []
  | e :: es => if e.window then { e with window := false } :: es else e :: closeWindow es

/-- AWL_WINDOW_CLOSE (R584): 1 ms after the oldest entry whose window is open was staged. -/
def execAwlWindowClose (s : State) : Host.Outcome State Fault Refusal :=
  .next (s.setAwl { s.awl with staged := closeWindow s.awl.staged })

/-- Freeze or end the freeze (R590). -/
def State.setFrozen (s : State) (b : Bool) : State := (s.setFlag F.AWL_CTRL_FREEZE 0 b).setFlag F.AWL_STATUS_FROZEN 0 b

/-- A write of AWL_CTRL (R590, R594). -/
def State.writeAwlCtrl (s : State) (src : Requester) (v : Word) : State :=
  s.guarded .AWL_CTRL src fun s =>
    let s := (s.answer .OK).setFrozen (F.AWL_CTRL_FREEZE.on v)
    if F.AWL_CTRL_RETRY_MRAM.on v then s.setAwl { s.awl with retrying := true } else s

/-- AWL_FREEZE (R590). -/
def execAwlFreeze (src : Requester) (s : State) : Host.Outcome State Fault Refusal :=
  .next (s.writeAwlCtrl src (F.AWL_CTRL_FREEZE.put 1 0))

/-- AWL_UNFREEZE (R590). -/
def execAwlUnfreeze (src : Requester) (s : State) : Host.Outcome State Fault Refusal := .next (s.writeAwlCtrl src 0)

/-- AWL_FREEZE_EXPIRE (R590): FREEZE_MAX seconds have passed. -/
def execAwlFreezeExpire (s : State) : Host.Outcome State Fault Refusal :=
  .next (if s.flag F.AWL_STATUS_FROZEN 0 then
      ((s.setFrozen false).irq Irq.AWL_FREEZE_EXPIRED).awlPersist .AWL .warning 0x04 0
    else s)

/-- A write of AWL_RD_IDX starts latching a record (R591, R599). -/
def State.writeRdIdx (s : State) (src : Requester) (v : Word) : State :=
  s.guarded .AWL_RD_IDX src fun s =>
    if F.AWL_RD_IDX_MEDIUM.of v = 3 then s.refuse .BAD_ARG
    else ((s.setAwl { s.awl with latching := true }).setReg .AWL_RD_STAT 0 0).store .AWL_RD_IDX 0 v

/-- AWL_READ_INDEX (R591). -/
def execAwlReadIndex (src : Requester) (w : Word32) (s : State) : Host.Outcome State Fault Refusal :=
  .next (s.writeRdIdx src (w.setWidth 64))

/-- Sixteen words that no record gives: free values. -/
def State.freeLatch (s : State) : State :=
  (List.range 16).foldl (fun (s : State) w => (s.setReg .AWL_RD_DATA w (low32 s.free)).drawFree) s

/-- AWL_READ_LATCH_DONE (R591): the record is latched; `torn` tells that its CRC is wrong or its codeword uncorrectable. -/
def execAwlReadLatchDone (torn : Bool) (s : State) : Host.Outcome State Fault Refusal :=
  .next (if !s.awl.latching then s
    else
      let m := s.fld F.AWL_RD_IDX_MEDIUM 0
      let s := (s.setAwl { s.awl with latching := false }).setReg .AWL_RD_STAT 0 (F.AWL_RD_STAT_DONE.put 1 0)
      match Tbl.get (fun _ => none) (s.awlRecs m) (s.fld F.AWL_RD_IDX_INDEX 0) with
      | none => s.freeLatch
      | some r =>
        if torn then (s.freeLatch).setFlag F.AWL_RD_STAT_TORN 0 true
        else
          let b := r.bytes
          let s := (List.range 16).foldl (fun (s : State) w =>
            s.setReg .AWL_RD_DATA w (BitVec.ofNat 64 ((List.range 4).foldl (fun a i => a + (b.getD (4 * w + i) 0).toNat * 256 ^ i) 0))) s
          if r.epoch = (s.reg .AWL_EPOCH 0).toNat then s.setFlag F.AWL_RD_STAT_VALID 0 true
          else s.setFlag F.AWL_RD_STAT_OLD_EPOCH 0 true)

/-! ### Clearing, and the test of the MRAM log (R592 to R594) -/

/-- The status of the last GO, and a new nonce: a free value (R593). -/
def State.goResult (s : State) (st : Status) : State :=
  let s := (s.answer st).setFld F.AWL_CLR_RESULT_STATUS 0 st.code
  (s.setReg .AWL_CLR_NONCE 0 s.free).drawFree

/-- Clear the log: a new epoch begins, and its first record is CLEARED (R592). -/
def State.clearAwl (s : State) : State :=
  let n := s.fld F.AWL_COUNT_N 0
  let s := s.setReg .AWL_EPOCH 0 (BitVec.ofNat 64 ((s.reg .AWL_EPOCH 0).toNat + 1))
  let s := (s.setFlag F.AWL_STATUS_FULL 0 false).showAwl
  (s.putRecord (s.awlNow .info 0x01 n)).setFld F.AWL_CLR_RESULT_FAILS 0 0

/-- A write of AWL_CLR_CTRL (R592, R593); `match_` is whether the MAC registers hold the right HMAC. -/
def State.writeClrCtrl (s : State) (src : Requester) (match_ : Bool) (v : Word) : State :=
  s.guarded .AWL_CLR_CTRL src fun s =>
    if !F.AWL_CLR_CTRL_GO.on v then s.answer .OK
    else if s.flag F.AWL_STATUS_FROZEN 0 || s.flag F.AWL_STATUS_CLEARING 0 || s.awl.lockout then s.goResult .BUSY
    else if match_ then s.clearAwl.goResult .OK
    else
      let n := satTo 8 (s.fld F.AWL_CLR_RESULT_FAILS 0 + 1)
      let s := (s.setFld F.AWL_CLR_RESULT_FAILS 0 n).setAwl { s.awl with lockout := decide (3 ≤ n) }
      ((s.irq Irq.AWL_AUTH_FAIL).awlPersist .AWL .warning 0x05 n).goResult .AUTH_FAIL

/-- AWL_CLEAR_GO (R592, R593). -/
def execAwlClearGo (src : Requester) (match_ : Bool) (s : State) : Host.Outcome State Fault Refusal :=
  .next (s.writeClrCtrl src match_ (F.AWL_CLR_CTRL_GO.put 1 0))

/-- AWL_CLEAR_LOCKOUT_EXPIRE (R593): 60 s after the third failure. -/
def execAwlClearLockoutExpire (s : State) : Host.Outcome State Fault Refusal :=
  .next (s.setAwl { s.awl with lockout := false })

/-- AWL_RETRY_MRAM (R594). -/
def execAwlRetryMram (src : Requester) (s : State) : Host.Outcome State Fault Refusal :=
  .next (s.writeAwlCtrl src (F.AWL_CTRL_RETRY_MRAM.put 1 (s.reg .AWL_CTRL 0)))

/-- AWL_RETRY_MRAM_DONE (R594): when the test passes, the Awl returns to MRAM. -/
def execAwlRetryMramDone (passed : Bool) (s : State) : Host.Outcome State Fault Refusal :=
  .next (if !s.awl.retrying then s
    else
      let s := s.setAwl { s.awl with retrying := false }
      if passed && s.awlMedium != awlMram then
        (s.setAwl { s.awl with mramFailed := false, badSectors := 0 }).moveAwl awlMram .info 0x0B 0
      else s)

/-- A write of AWL_CFG (R599). -/
def State.writeAwlCfg (s : State) (src : Requester) (v : Word) : State :=
  s.guarded .AWL_CFG src fun s =>
    let f := F.AWL_CFG_FREEZE_MAX.of v
    if f < 1 ∨ 3600 < f then s.refuse .BAD_ARG else s.store .AWL_CFG 0 v

/-! ### Power-fail writes (R588) -/

/-- Write staged entries, oldest first, as many as the hold-up lets (R588). -/
def State.flushStaged (s : State) : Nat → State
  | 0 => s
  | n + 1 => if s.awl.staged.isEmpty || !s.awlRoom then s else (s.writeOldest true).flushStaged n

/-- The power-fail writes (R588): the counter record, then staged entries with their windows closed; a freeze ends. -/
def State.powerFail (s : State) (records : Nat) : State :=
  let s := s.writeCounters.setFrozen false
  (s.setAwl { s.awl with staged := s.awl.staged.map fun (e : Staged) => { e with window := false } }).flushStaged records

/-- POWER_FAIL_WARNING (R588): the number of records that the hold-up lets the part write. -/
def execPowerFailWarning (records : Nat) (s : State) : Host.Outcome State Fault Refusal := .next (s.powerFail records)

end Sys2Proof.Machine
end

