-- ==== Sys2Proof/Machine/Reset.lean ====
section
/-! DEFINITION. The two resets (chapter 18, Table 18.4): what a cold reset and a warm reset clear and keep. -/

namespace Sys2Proof.Machine

/-- Replace the record of boot and power. -/
def State.setBoot (s : State) (x : Boot) : State := { s with boot := x }

/-- Replace the record of the update engine. -/
def State.setUpd (s : State) (x : Upd) : State := { s with upd := x }

/-- The codes of BOOT_CAUSE (Table 18.12). -/
def causePorst : Nat := 1
def causeWarmPin : Nat := 2
def causeGlbCtrl : Nat := 3
def causeWatchdog : Nat := 4
def causeActivation : Nat := 5
def causeFallback : Nat := 6
def causeThermal : Nat := 7
def causeStby : Nat := 8

/-- The codes of BOOT_STAGE (Table 18.12). -/
def stageRom : Nat := 0
def stageVerify : Nat := 1
def stageLocked : Nat := 2
def stageHbmInit : Nat := 3
def stageRestore : Nat := 4
def stageLanes : Nat := 5
def stageReplay : Nat := 6
def stageReady : Nat := 7
def stageRecovery : Nat := 8
def stageHbmFail : Nat := 9
def stageWarmBoot : Nat := 10

/-- The boot stage. -/
def State.bootStage (s : State) : Nat := s.fld F.BOOT_STAGE_STAGE 0

/-! ### Cold reset -/

/-- Registers that show what MRAM, flash, the retention SRAM, Insole or the straps hold through a cold reset. -/
def keptRegs : List Reg :=
  [.GLB_CHIP, .INS_OPSEC, .INS_PCYCLES, .INS_CLK_CFG, .INS_CLK_FORCE, .INS_PLL_STARTS, .INS_PLL_FAIL, .INS_XTAL, .INS_RET_STAT,
    .AWL_SEQ_NEXT, .AWL_EPOCH, .SET_SNAP_SEQ, .SET_SNAP_OPSEC, .SET_SNAP_LEN, .SET_PAIR_FMT, .SET_DELTA_USED, .SET_FLOOR, .SET_SECTORS,
    .SET_STATUS, .UPD_SLOT_STAT, .UPD_SLOT_VER, .UPD_SLOT_FLOOR, .UPD_SLOT_SEQ, .NIM_Q_HWM, .NIM_SVC_SEQ, .RSL_UNIT_STAT,
    .RSL_PHYS_STAT, .RSL_REPAIR_USED, .RSL_SRAM_REP, .RSL_HBM_RETIRED, .RSL_FLASH_WEAR, .TWL_SPARE_MAP]

/-- The rows of a register in a store. -/
def regRow (t : Tbl (Tbl Word)) (r : Reg) : Tbl Word := Tbl.get (fun _ => []) t r.ctorIdx

/-- A unit is steered to the carrier that the repair map gives it (R536). -/
def State.applyUnit (s : State) (u : Nat) (w : Word) : State :=
  let x := F.RSL_UNIT_STAT_PHYS.of w
  let s := s.setReg .RSL_UNIT_STAT u (F.RSL_UNIT_STAT_PHYS.put x 0)
  if u < 16 then s.setFld F.NIM_CORE_STAT_PHYS u x
  else if u < 17 then s
  else if u < 25 then s.setFld F.TWD_CORE_STAT_PHYS (u - 17) x
  else if u < 41 then s.setFld F.VMP_PIPE_STAT_PHYS (u - 25) x
  else
    let s := s.setFld F.TWL_SP_STAT_PHYS (u - 64) x
    if x = homePhys (u - 64) then s else s.setFld F.TWL_SP_STAT_STATE (u - 64) spOnSpare

/-- Journal time after a cold reset: 1 ns above the latest in a valid head, 0 with none (R255). -/
def clockAfter (l : List JEntry) : Nat :=
  if l.isEmpty then 0 else l.foldl (fun a (e : JEntry) => max a e.time) 0 + 1

/-- A cold reset (R624, R625, Table 18.4): everything returns to its reset state but what MRAM, flash, the retention SRAM and
Insole hold, and the model's own records of what it has drawn and sent. -/
def State.coldReset (s : State) : State :=
  let r := State.reset
  let kept : Tbl (Tbl Word) := s.regs.filter fun (e : Nat × Tbl Word) => (keptRegs.map Reg.ctorIdx).contains e.1
  let bind : Tbl (Tbl Word) := s.regs.filter fun (e : Nat × Tbl Word) => (imageRegs.map Reg.ctorIdx).contains e.1
  let medium := s.fld F.AWL_STATUS_MEDIUM 0
  let full := s.flag F.AWL_STATUS_FULL 0
  let bad := s.flag F.AWL_STATUS_MEDIA_FAIL 0
  let links := Tbl.mapVals (fun _ => default) (fun _ (l : Link) => { (default : Link) with record := l.record, slotB := l.slotB }) s.net.links
  let s' : State := { r with
    pending := s.pending, freeCtr := s.freeCtr, sent := s.sent, tick := s.tick, regs := kept
    host := { (default : HostSide) with inReset := true }
    awl := { (default : Awl) with
      staged := s.awl.staged.map fun (e : Staged) => { e with window := false, retained := true }
      mram := s.awl.mram, flash := s.awl.flash, lastWords := s.awl.lastWords, mramFailed := s.awl.mramFailed }
    twl := { (default : Twl) with dirs := { (default : Dirs) with image := s.twl.dirs.image } }
    nim := { (default : Nim) with
      journal := s.nim.journal.map fun (e : JEntry) => { e with awaiting := false }
      clock := clockAfter s.nim.journal, hwm := s.nim.hwm, applied := s.nim.applied }
    tks := { (default : Tks) with
      image := s.tks.image
      takes := (s.tks.takes.filter fun (t : PendTake) => t.armed).map fun (t : PendTake) => { t with req := none, routed := false } }
    lst := { (default : Lst) with ages := s.lst.ages, model := s.lst.model }
    net := { (default : Net) with links := links }
    rsl := { (default : Rsl) with
      map := s.rsl.map, rows := s.rsl.rows, cols := s.rsl.cols, mramRows := s.rsl.mramRows, hbmUsed := s.rsl.hbmUsed
      retired := s.rsl.retired, ages := s.rsl.ages, retiredOf := s.rsl.retiredOf }
    keep := { s.keep with job := none, bind := bind, marked := [], ramOnly := false }
    upd := { (default : Upd) with slotA := s.upd.slotA, slotB := s.upd.slotB, trialTick := s.upd.trialTick }
    boot := { (default : Boot) with
      clks := s.boot.clks.filter fun (e : Nat × ClkRun) => e.2 == ClkRun.failed
      retLost := s.boot.retLost, tripped := s.boot.tripped, hot := s.boot.hot } }
  let s' := (s'.setFld F.AWL_STATUS_MEDIUM 0 medium).setFlag F.AWL_STATUS_FULL 0 full
  let s' := (s'.setFlag F.AWL_STATUS_MEDIA_FAIL 0 bad).setFld F.SET_STATUS_STATE 0 0
  let s' := (s'.setFlag F.SET_STATUS_CONVERT_FAIL 0 false).setFld F.INS_STATE_STATE 0 powerInsole
  (regRow kept .RSL_UNIT_STAT).foldl (fun (s : State) (e : Nat × Word) => s.applyUnit e.1 e.2) s'

/-! ### Warm reset -/

/-- The NIM_ registers that a warm reset leaves: the mode and its state, and what MRAM holds. -/
def warmKept : List Reg := [.NIM_PAIR_CFG, .NIM_PAIR_STAT, .NIM_Q_HWM, .NIM_SVC_SEQ]

/-- The host ring registers (R530). -/
def ringRegs : List Reg :=
  [.NPT_RXR_BASE, .NPT_RXR_CFG, .NPT_RXR_TAIL, .NPT_RXR_HEAD, .NPT_RXR_DROP, .NPT_RXR_FRAMES, .NPT_TXR_BASE, .NPT_TXR_CFG,
    .NPT_TXR_TAIL, .NPT_TXR_HEAD]

/-- The registers that a warm reset returns to their reset values (Table 18.4). -/
def warmCleared : List Reg := (Blk.NIM.regs.filter fun r => !warmKept.contains r) ++ ringRegs

/-- Return a register to its reset value. -/
def State.clearReg (s : State) (r : Reg) : State := { s with regs := Tbl.set (fun _ => []) r.ctorIdx [] s.regs }

/-- Every context ends: the cores and the management core are reset, and services stop with their queues empty (R308). -/
def State.resetCores (s : State) : State :=
  let s := s.nim.ctxs.foldl (fun (s : State) (e : Nat × NimCtx) => s.dropCtx e.1) s
  { s with nim := { s.nim with ctxs := [], running := [], services := [] } }

/-- A warm reset of the control plane begins (R16, R624, R625, R630): it is announced to the partner (R265), LOCK clears, the
cores, the NIM_ registers and the host rings are reset, and records are held until the control plane returns (R156). -/
def State.warmReset (s : State) (cause : Nat) : State :=
  let s := if s.mirrored then s.emit .warmAnnounce else s
  let s := s.resetCores
  let s := warmCleared.foldl (fun (s : State) r => s.clearReg r) s
  let s := (List.range 16).foldl (fun (s : State) c => s.setFld F.NIM_CORE_STAT_PHYS c (s.fld F.RSL_UNIT_STAT_PHYS c)) s
  let s := { s with
    nim := { s.nim with warm := true, phase := [] }
    net := { s.net with rxr := [], txr := [] } }
  let s := s.setBoot { s.boot with armed := false }
  let s := (s.setFlag F.BOOT_PROT_LOCK 0 false).setFld F.BOOT_STAGE_STAGE 0 stageWarmBoot
  let s := (s.setFld F.BOOT_CAUSE_CAUSE 0 cause).count .BOOT_WARMS 0 1
  s.refreshSum .NIM (s.summary .NIM)

/-- WARM_RST_ASSERT (R624, R626): WARM_RST_N falls; the pin holds the control plane in reset while it is low. -/
def execWarmRstAssert (s : State) : Host.Outcome State Fault Refusal :=
  .next (if s.host.inReset then s else (s.warmReset causeWarmPin).setBoot { s.boot with warmHeld := true, armed := false })

/-- A write of GLB_CTRL (R624, R642): other values than 0x5741_524D are ignored. -/
def State.writeGlbCtrl (s : State) (v : Word) : State :=
  if v.toNat = 0x5741524D then (s.answer .OK).warmReset causeGlbCtrl else s.answer .OK

/-- GLB_WARM_RESET (R624). -/
def execGlbWarmReset (w : Word32) (s : State) : Host.Outcome State Fault Refusal := .next (s.writeGlbCtrl (w.setWidth 64))

/-- WATCHDOG_TIMEOUT (R628). -/
def execWatchdogTimeout (s : State) : Host.Outcome State Fault Refusal :=
  .next (if s.boot.armed then (s.warmReset causeWatchdog).awlUnstated .BOOT 0 else s)

/-- A write of BOOT_WDOG_KICK: only the management core's counts (R628). The period restarts, which is time the model leaves
to the timeout. -/
def State.writeKick (s : State) (src : Requester) (_v : Word) : State := if src = .mgmt then s.answer .OK else s

/-- WATCHDOG_KICK (R628). -/
def execWatchdogKick (src : Requester) (w : Word32) (s : State) : Host.Outcome State Fault Refusal :=
  .next (s.writeKick src (w.setWidth 64))

end Sys2Proof.Machine
end

