-- ==== Sys2Proof/Machine/Update.lean ====
section
/-! DEFINITION. Field update (chapter 17): datagrams, the update lock, slots, trial, confirmation, fallback and
microcode. -/

namespace Sys2Proof.Machine

/-! ### What the registers show -/

/-- The running slot: 0 A, 1 B. -/
def State.runSlot (s : State) : Nat := s.fld F.UPD_STATUS_RUN_SLOT 0

/-- A slot. -/
def State.slot (s : State) (i : Nat) : ImgSlot := if i = 0 then s.upd.slotA else s.upd.slotB

/-- Replace a slot. -/
def State.setSlot (s : State) (i : Nat) (x : ImgSlot) : State :=
  s.setUpd (if i = 0 then { s.upd with slotA := x } else { s.upd with slotB := x })

/-- The slot that is not running. -/
def State.target (s : State) : Nat := 1 - s.runSlot

/-- The number of a slot state in UPD_SLOT_STAT (Table 17.7). -/
def SlotState.code : SlotState → Nat
  | .empty => 0 | .written => 1 | .trial => 2 | .confirmed => 3 | .rejected => 4

/-- The rollback floor (R564). -/
def State.floor (s : State) : Nat := (s.reg .SET_FLOOR 0).toNat

/-- Whether the running slot is on trial. -/
def State.onTrial (s : State) : Bool := (s.slot s.runSlot).state == .trial

/-- Whether the update lock is held. -/
def State.locked (s : State) : Bool := s.fld F.UPD_LOCK_OWNER 0 != 0

/-- The state of an update (Table 17.7). -/
def State.updState (s : State) : Nat :=
  if s.onTrial && s.bootStage == stageWarmBoot then 4
  else if s.locked then (if s.upd.ending then 2 else 1)
  else if s.onTrial then 5
  else if (s.slot s.target).state = .written then 3
  else 0

/-- Show a slot. -/
def State.showSlot (s : State) (i : Nat) : State :=
  let x := s.slot i
  let s := (s.setFld F.UPD_SLOT_STAT_STATE i x.state.code).setFld F.UPD_SLOT_STAT_ATTEMPTS i x.attempts
  let s := s.setFlag F.UPD_SLOT_STAT_BOOTABLE i (decide (s.floor ≤ x.hdr.version))
  let s := (s.setFld F.UPD_SLOT_STAT_SET_FORMAT i x.hdr.setFormat).setReg .UPD_SLOT_VER i (BitVec.ofNat 64 (x.hdr.version % 2 ^ 32))
  let s := s.setReg .UPD_SLOT_FLOOR i (BitVec.ofNat 64 (x.hdr.floorReq % 2 ^ 32))
  s.setReg .UPD_SLOT_SEQ i (BitVec.ofNat 64 (x.seq % 2 ^ 32))

/-- Show the slots and the state of the update. -/
def State.showUpd (s : State) : State :=
  let s := (s.showSlot 0).showSlot 1
  let s := if s.onTrial then s else s.setReg .UPD_CONFIRM_LEFT 0 0
  s.setFld F.UPD_STATUS_STATE 0 s.updState

/-- The operation or control bit of the last header, END or UPD_CTRL write, and its status. -/
def State.lastStatus (s : State) (op : Nat) (st : Status) : State :=
  (s.setFld F.UPD_LAST_STATUS_OP 0 op).setFld F.UPD_LAST_STATUS_STATUS 0 st.code

/-- A status that the spec does not state: a free value. -/
def State.freeStatus (s : State) : Status := statusOf (s.free.toNat % 17)

/-! ### Datagrams and the update lock (R602 to R605) -/

/-- The OP codes of Table 17.1. -/
def opHeader : Nat := 1
def opData : Nat := 2
def opEnd : Nat := 3
def opAbort : Nat := 4
def opQuery : Nat := 5

/-- Whether the service ports are served: once READY, and in RECOVERY and HBM_FAIL (R607, R632, Table 18.4). -/
def State.updOpen (s : State) : Bool := !s.host.inReset && [stageReady, stageRecovery, stageHbmFail].contains s.bootStage

/-- Answer a datagram (R603). -/
def State.updAnswer (s : State) (op : Nat) (session : BitVec 32) (st : Status) : State :=
  (s.answer st).emit (.updReply op st s.updState (s.reg .UPD_NEXT 0).toNat session.toNat (s.reg .UPD_RUN_VER 0).toNat)

/-- Whether a datagram comes from the lock's owner. -/
def State.isOwner (s : State) (port : Nat) (session : BitVec 32) : Bool :=
  s.fld F.UPD_LOCK_OWNER 0 == port + 1 && (s.reg .UPD_SESSION 0).toNat == session.toNat

/-- A datagram arrives with a layout of Table 17.1 or without (R602). -/
def State.datagram (s : State) (op : Nat) (session : BitVec 32) (layout : Bool) (k : State → State) : State :=
  if !s.updOpen then s
  else
    let s := s.count .UPD_PKT_RX 0 1
    if !layout || session == 0 then s.updAnswer op session .BAD_ARG else k s

/-- The owner's datagram restarts the idle time (R605). -/
def State.ownerSpoke (s : State) : State := (s.setUpd { s.upd with lastTick := s.tick }).setFld F.UPD_LOCK_IDLE_S 0 0

/-- A datagram of another source or session than the owner's (R605). -/
def State.notOwner (s : State) (op : Nat) (session : BitVec 32) : State :=
  (s.count .UPD_PKT_BUSY 0 1).updAnswer op session .BUSY

/-- Carry out the owner's datagram; without a lock the status is unstated: a free value, and nothing else changes. -/
def State.owned (s : State) (op : Nat) (port : Nat) (session : BitVec 32) (k : State → State) : State :=
  if !s.locked then (s.updAnswer op session s.freeStatus).drawFree
  else if !s.isOwner port session then s.notOwner op session
  else k s.ownerSpoke

/-- Release the lock (R605). -/
def State.releaseLock (s : State) : State :=
  let s := s.setUpd { s.upd with hdr := none, done := 0, waiting := [], ending := false }
  (((s.setReg .UPD_LOCK 0 0).setReg .UPD_SESSION 0 0).setReg .UPD_NEXT 0 0).showUpd

/-- An authentication failure (R604, R606). -/
def State.authFail (s : State) : State :=
  let s := s.setUpd { s.upd with fails := s.tick :: s.upd.fails }
  ((s.count .UPD_AUTH_FAILS 0 1).irq Irq.UPD_AUTH_FAIL).awlUnstated .UPD 0

/-- The checks of a header in the order of Table 17.3, and the reply of the first that fails. -/
def State.headerCheck (s : State) (port : Nat) (session : BitVec 32) (h : ImgHeader) : Option Status :=
  let recent := (s.upd.fails.filter fun t => decide (s.tick < t + 60 * 32768)).length
  if !h.wellFormed || decide (h.version < h.floorReq) then some .BAD_ARG
  else if s.locked && !s.isOwner port session then some .BUSY
  else if 3 ≤ recent then some .BUSY
  else if !h.signed then some .AUTH_FAIL
  else if h.version < s.floor then some .REFUSED_POLICY
  else if h.mramFmt ≠ (s.slot s.runSlot).hdr.mramFmt then some .REFUSED_POLICY
  else if (s.slot s.target).state = .trial then some .BUSY
  else if 67100672 < h.bodyLen then some .NO_ROOM
  else none

/-- A header passes: it takes the lock and invalidates the target slot's state word, whose sector is erased (R604). -/
def State.takeLock (s : State) (port : Nat) (session : BitVec 32) (h : ImgHeader) : State :=
  let was := s.locked
  let s := (s.setSlot s.target { s.slot s.target with state := .empty, attempts := 0, hdr := h }).eraseSector s.target 0
  let s := s.setUpd { s.upd with hdr := some h, done := 0, waiting := [], ending := false, fails := [], lastTick := s.tick }
  let s := (s.setFld F.UPD_LOCK_OWNER 0 (port + 1)).setFld F.UPD_LOCK_IDLE_S 0 0
  let s := ((s.setReg .UPD_SESSION 0 (session.setWidth 64)).setReg .UPD_NEXT 0 0).showUpd
  if was then s else s.irq Irq.UPD_LOCK

/-- UPD_HEADER (R604). -/
def execUpdHeader (port : Fin 2) (session : BitVec 32) (layout : Bool) (h : ImgHeader) (s : State) : Host.Outcome State Fault Refusal :=
  .next (s.datagram opHeader session layout fun s =>
    match s.headerCheck port session h with
    | none => ((s.takeLock port session h).lastStatus opHeader .OK).updAnswer opHeader session .OK
    | some st =>
      let s := if s.locked && !s.isOwner port session && st == .BUSY then s.count .UPD_PKT_BUSY 0 1 else s
      let s := if s.isOwner port session then s.ownerSpoke else s
      let s := if st = .AUTH_FAIL then s.authFail else s
      let s := if st = .REFUSED_POLICY then s.irq Irq.UPD_REFUSED else s
      (s.lastStatus opHeader st).updAnswer opHeader session st)

/-- UPD_DATA (R603): data at NEXT is queued, up to 8 datagrams; data below NEXT is answered OK. -/
def execUpdData (port : Fin 2) (session : BitVec 32) (layout : Bool) (off : Nat) (len : Fin 1025) (s : State) :
    Host.Outcome State Fault Refusal :=
  .next (s.datagram opData session (layout && decide (0 < len.val)) fun s =>
    s.owned opData port session fun s =>
      let next := (s.reg .UPD_NEXT 0).toNat
      let room := match s.upd.hdr with | some h => decide (next + len.val ≤ h.bodyLen) | none => false
      if off + len.val ≤ next then s.updAnswer opData session .OK
      else if off ≠ next ∨ room = false ∨ s.upd.ending = true then s.updAnswer opData session .BAD_ARG
      else if 8 ≤ s.upd.waiting.length then s.updAnswer opData session .BUSY
      else
        let s := s.setUpd { s.upd with waiting := s.upd.waiting ++ [len.val] }
        (s.setReg .UPD_NEXT 0 (BitVec.ofNat 64 (next + len.val))).updAnswer opData session .OK)

/-- UPD_DATA_PROGRAMMED (R603): the oldest queued bytes are programmed from slot offset 8 KiB onward; each sector is erased as
programming reaches it. -/
def execUpdDataProgrammed (s : State) : Host.Outcome State Fault Refusal :=
  .next (match s.upd.waiting with
    | [] => s
    | n :: rest =>
      let old := (8192 + s.upd.done - 1) / 65536
      let new := (8192 + s.upd.done + n - 1) / 65536
      let s := s.setUpd { s.upd with waiting := rest, done := s.upd.done + n }
      (List.range (new - old)).foldl (fun (s : State) i => s.eraseSector s.target (old + 1 + i)) s)

/-- UPD_END (R606): answered NOT_READY before NEXT reaches BODY_LEN, otherwise once the body is verified. -/
def execUpdEnd (port : Fin 2) (session : BitVec 32) (layout : Bool) (s : State) : Host.Outcome State Fault Refusal :=
  .next (s.datagram opEnd session layout fun s =>
    s.owned opEnd port session fun s =>
      match s.upd.hdr with
      | none => s
      | some h =>
        if (s.reg .UPD_NEXT 0).toNat < h.bodyLen then (s.lastStatus opEnd .NOT_READY).updAnswer opEnd session .NOT_READY
        else (s.setUpd { s.upd with ending := true }).showUpd)

/-- UPD_BODY_VERIFIED (R606): every byte has been programmed and read back, and the digest compared. -/
def execUpdBodyVerified (matches_ : Bool) (s : State) : Host.Outcome State Fault Refusal :=
  .next (match s.upd.hdr with
    | none => s
    | some h =>
      if !s.upd.ending || !s.upd.waiting.isEmpty then s
      else
        let session : BitVec 32 := (s.reg .UPD_SESSION 0).setWidth 32
        if matches_ then
          let s := s.setSlot s.target ⟨.written, 0, h, (s.slot s.runSlot).seq + 1⟩
          let s := ((s.lastStatus opEnd .OK).updAnswer opEnd session .OK).releaseLock
          s.irq Irq.UPD_READY
        else
          let s := (s.authFail.lastStatus opEnd .AUTH_FAIL).updAnswer opEnd session .AUTH_FAIL
          s.releaseLock)

/-- UPD_ABORT_DATAGRAM (R605). -/
def execUpdAbortDatagram (port : Fin 2) (session : BitVec 32) (layout : Bool) (s : State) : Host.Outcome State Fault Refusal :=
  .next (s.datagram opAbort session layout fun s =>
    s.owned opAbort port session fun s => s.releaseLock.updAnswer opAbort session .OK)

/-- UPD_QUERY (R605): answered with the owner's state, whoever asks. -/
def execUpdQuery (port : Fin 2) (session : BitVec 32) (layout : Bool) (s : State) : Host.Outcome State Fault Refusal :=
  .next (s.datagram opQuery session layout fun s =>
    let s := if s.isOwner port session then s.ownerSpoke else s
    s.updAnswer opQuery session .OK)

/-- UPD_LOCK_IDLE_TIMEOUT (R605). -/
def execUpdLockIdleTimeout (s : State) : Host.Outcome State Fault Refusal := .next (if s.locked then s.releaseLock else s)

/-! ### Slot selection, trial, confirmation and fallback (R607 to R612) -/

/-- Raise the rollback floor to an image's FLOOR_REQ when it is lower (R608). -/
def State.raiseFloor (s : State) (h : ImgHeader) : State :=
  if s.floor < h.floorReq then s.setReg .SET_FLOOR 0 (BitVec.ofNat 64 (h.floorReq % 2 ^ 32)) else s

/-- Start a slot's image. -/
def State.startSlot (s : State) (i : Nat) : State :=
  let v := BitVec.ofNat 64 ((s.slot i).hdr.version % 2 ^ 32)
  let s := (s.setFld F.UPD_STATUS_RUN_SLOT 0 i).setFld F.BOOT_CAUSE_SLOT 0 i
  let s := (s.setReg .UPD_RUN_VER 0 v).setReg .BOOT_IMG_VER 0 v
  ((s.setFlag F.UPD_STATUS_RECOVERY 0 false).setFld F.SET_STATUS_FORMAT 0 (s.slot i).hdr.setFormat).showUpd

/-- Program a slot REJECTED. -/
def State.rejectSlot (s : State) (i : Nat) : State := (s.setSlot i { s.slot i with state := .rejected }).showUpd

/-- No slot is left: the part stays in boot code in RECOVERY (R607). -/
def State.recovery (s : State) : State :=
  let s := (s.setFld F.BOOT_STAGE_STAGE 0 stageRecovery).setFlag F.UPD_STATUS_RECOVERY 0 true
  (s.setFld F.BOOT_FAIL_CODE 0 3).alert alertBoot

/-- Whether a CONFIRMED slot may be started. -/
def State.bootable (s : State) (i : Nat) : Bool := (s.slot i).state == .confirmed && decide (s.floor ≤ (s.slot i).hdr.version)

/-- Start the CONFIRMED slot with the higher SEQ whose VERSION is at or above the floor (R607, rule 3; R608). -/
def State.startConfirmed (s : State) : State :=
  let go := fun (i : Nat) => (s.raiseFloor (s.slot i).hdr).startSlot i
  match s.bootable 0, s.bootable 1 with
  | true, true => if (s.slot 0).seq < (s.slot 1).seq then go 1 else go 0
  | true, false => go 0
  | false, true => go 1
  | false, false => s.recovery

/-- A trial slot with three attempts used is programmed REJECTED, and the Awl is told (R607, rule 2). -/
def State.rejectSpent (s : State) (i : Nat) : State :=
  if (s.slot i).state = .trial ∧ 3 ≤ (s.slot i).attempts then (s.rejectSlot i).awlUnstated .UPD (awlArg i 0) else s

/-- Whether a slot on trial has an attempt left. -/
def State.mayTry (s : State) (i : Nat) : Bool := (s.slot i).state == .trial && decide ((s.slot i).attempts < 3)

/-- Boot code picks a slot (R607). -/
def State.selectSlot (s : State) : State :=
  let go := fun (i : Nat) => (s.setSlot i { s.slot i with attempts := (s.slot i).attempts + 1 }).startSlot i
  if s.mayTry 0 then go 0
  else if s.mayTry 1 then go 1
  else ((s.rejectSpent 0).rejectSpent 1).startConfirmed

/-- A refused write of UPD_CTRL. -/
def State.ctrlRefused (s : State) (bit_ : Nat) (st : Status) : State :=
  let s := if st = .REFUSED_POLICY then s.irq Irq.UPD_REFUSED else s
  (s.lastStatus bit_ st).answer st

/-- UPD_CTRL.ACTIVATE (R609); `level` is the partner's running PAIR_LEVEL. -/
def State.activate (s : State) (level : Nat) : State :=
  let t := s.target
  if (s.slot t).state ≠ .written then s.ctrlRefused 31 .NOT_READY
  else if s.mirrored && s.fld F.NIM_PAIR_STAT_PARTNER 0 == 2 then s.ctrlRefused 31 .BUSY
  else if s.paired && level != (s.slot t).hdr.pairLevel then s.ctrlRefused 31 .REFUSED_POLICY
  else
    let s := (s.setSlot t { s.slot t with state := .trial }).setUpd
      { (s.setSlot t { s.slot t with state := .trial }).upd with trialTick := s.tick }
    let s := (s.lastStatus 31 .OK).answer .OK
    let s := s.warmReset causeActivation
    let s := (s.selectSlot.setReg .UPD_CONFIRM_LEFT 0 (BitVec.ofNat 64 (s.fld F.UPD_CFG_CONFIRM_S 0))).irq Irq.UPD_TRIAL
    s.showUpd

/-- UPD_CTRL.CONFIRM (R608, R611, R613). Outside a trial no status is stated. -/
def State.confirm (s : State) : State :=
  if !s.onTrial then (s.ctrlRefused 30 s.freeStatus).drawFree
  else if s.bootStage ≠ stageReady then s.ctrlRefused 30 .NOT_READY
  else if s.flag F.SET_STATUS_CONVERT_FAIL 0 then s.ctrlRefused 30 .CONVERT_FAIL
  else if s.fld F.UPD_MC_STAT_FAIL 0 ≠ 0 then s.ctrlRefused 30 .MEDIA_FAIL
  else
    let i := s.runSlot
    let s := (s.setSlot i { s.slot i with state := .confirmed }).raiseFloor (s.slot i).hdr
    (((s.lastStatus 30 .OK).answer .OK).irq Irq.UPD_CONFIRMED).showUpd

/-- The trial falls back: its slot is programmed REJECTED, and a warm reset starts the CONFIRMED slot (R611, R612). -/
def State.fallBack (s : State) : State :=
  let i := s.runSlot
  let bad := (s.slot i).hdr.version
  let s := (s.rejectSlot i).warmReset causeFallback
  let s := s.startConfirmed
  let s := ((s.irq Irq.UPD_FALLBACK).alert alertBoot).awlUnstated .UPD (awlArg bad (s.reg .UPD_RUN_VER 0).toNat)
  s.showUpd

/-- UPD_CTRL.FALLBACK (R611). Outside a trial no status is stated. -/
def State.ctrlFallback (s : State) : State :=
  if !s.onTrial then (s.ctrlRefused 29 s.freeStatus).drawFree
  else ((s.lastStatus 29 .OK).answer .OK).fallBack

/-- UPD_CTRL.ABORT (R605). -/
def State.ctrlAbort (s : State) : State :=
  let s := if s.locked then s.releaseLock else s
  (s.lastStatus 28 .OK).answer .OK

/-- A write of UPD_CTRL: its bits act from bit 31 downward (R616). -/
def State.writeUpdCtrl (s : State) (src : Requester) (level : Nat) (v : Word) : State :=
  s.guarded .UPD_CTRL src fun s =>
    let s := s.answer .OK
    let s := if F.UPD_CTRL_ACTIVATE.on v then s.activate level else s
    let s := if F.UPD_CTRL_CONFIRM.on v then s.confirm else s
    let s := if F.UPD_CTRL_FALLBACK.on v then s.ctrlFallback else s
    if F.UPD_CTRL_ABORT.on v then s.ctrlAbort else s

/-- UPD_ACTIVATE (R609). -/
def execUpdActivate (src : Requester) (level : BitVec 16) (s : State) : Host.Outcome State Fault Refusal :=
  .next (s.writeUpdCtrl src level.toNat (F.UPD_CTRL_ACTIVATE.put 1 0))

/-- UPD_CONFIRM (R611). -/
def execUpdConfirm (src : Requester) (s : State) : Host.Outcome State Fault Refusal :=
  .next (s.writeUpdCtrl src 0 (F.UPD_CTRL_CONFIRM.put 1 0))

/-- UPD_FALLBACK (R611). -/
def execUpdFallback (src : Requester) (s : State) : Host.Outcome State Fault Refusal :=
  .next (s.writeUpdCtrl src 0 (F.UPD_CTRL_FALLBACK.put 1 0))

/-- UPD_CTRL_ABORT (R605). -/
def execUpdCtrlAbort (src : Requester) (s : State) : Host.Outcome State Fault Refusal :=
  .next (s.writeUpdCtrl src 0 (F.UPD_CTRL_ABORT.put 1 0))

/-- UPD_CONFIRM_TIMEOUT (R611): CONFIRM_S seconds pass without confirmation. -/
def execUpdConfirmTimeout (s : State) : Host.Outcome State Fault Refusal := .next (if s.onTrial then s.fallBack else s)

/-- A write of UPD_CFG (Table 17.7). -/
def State.writeUpdCfg (s : State) (src : Requester) (v : Word) : State :=
  s.guarded .UPD_CFG src fun s =>
    let n := F.UPD_CFG_CONFIRM_S.of v
    if n < 60 ∨ 86400 < n then s.refuse .BAD_ARG else s.store .UPD_CFG 0 v

/-! ### Microcode (R613) -/

/-- MICROCODE_LOAD (R613): the image's microcode goes into a block's inactive bank; a load that fails read-back leaves the old
bank in use. -/
def execMicrocodeLoad (block : Fin 4) (good : Bool) (s : State) : Host.Outcome State Fault Refusal :=
  let b := block.val
  .next (if good then
      (s.setUpd { s.upd with loaded := b :: s.upd.loaded.filter (fun x => x != b) }).setFlag ⟨.UPD_MC_STAT, 8 + b, 1⟩ 0 false
    else
      let s := s.setUpd { s.upd with loaded := s.upd.loaded.filter (fun x => x != b) }
      (s.setFlag ⟨.UPD_MC_STAT, 8 + b, 1⟩ 0 true).awlUnstated .UPD (awlArg b 0))

/-- MICROCODE_SWAP (R613): at the block's swap point the bank in use changes. -/
def execMicrocodeSwap (block : Fin 4) (s : State) : Host.Outcome State Fault Refusal :=
  let b := block.val
  .next (if s.upd.loaded.contains b then
      (s.setUpd { s.upd with loaded := s.upd.loaded.filter (fun x => x != b) }).setFlag ⟨.UPD_MC_STAT, b, 1⟩ 0
        (!s.flag ⟨.UPD_MC_STAT, b, 1⟩ 0)
    else s)

end Sys2Proof.Machine
end

