-- ==== Sys2Proof/Machine/Bus.lean ====
section
/-! DEFINITION. The block bus: what a read and a write of each register does (R3 to R5, R138, R291, R472, R619, R663), the
memory windows, and the delta record of a store of class SET (R571). -/

namespace Sys2Proof.Machine

/-! ### GLB_ -/

/-- Whether the condition of an ALERT_N cause holds (Table 18.3). -/
def State.alertHolds (s : State) (b : Nat) : Bool :=
  if b = alertPartnerLost then s.flag F.RSL_STATUS_PARTNER_LOST 0
  else if b = alertCoreMargin then s.rsl.noMargin
  else if b = alertAwlFull then s.flag F.AWL_STATUS_FULL 0
  else if b = alertMediaFail then s.flag F.AWL_STATUS_MEDIA_FAIL 0
  else if b = alertDegraded then (List.range 232).any (fun u => s.flag F.RSL_UNIT_STAT_DEGRADED u)
  else if b = alertFenced then s.fenced
  else if b = alertBoot then s.bootStage == stageRecovery || s.bootStage == stageHbmFail
  else if b = alertThermal then s.boot.hot
  else false

/-- A write of GLB_ALERT_STAT: cleared bits whose condition still holds are set again (R623). -/
def State.clearAlert (s : State) (v : Word) : State :=
  let s := s.setReg .GLB_ALERT_STAT 0 (s.reg .GLB_ALERT_STAT 0 &&& ~~~v)
  let s := (List.range 10).foldl (fun (s : State) b =>
    if bit b v && s.alertHolds b then s.setFld ⟨.GLB_ALERT_STAT, b, 1⟩ 0 1 else s) s
  s.refreshAlert.answer .OK

/-- Whether a route uses an SDI group of this part (R32). -/
def Route.onSdi (r : Route) : Bool := r.ing.any (fun e => decide (e.1 < 24)) || r.egr.any (fun p => decide (p < 24))

/-- Whether a route is relayed through this part. -/
def State.relays (s : State) (r : Route) : Bool := !r.atDest && srcPart r.src != s.domainId

/-- A write of GLB_ROLE (R32, R642). -/
def State.writeRole (s : State) (src : Requester) (v : Word) : State :=
  if src = .pcie then s.discardHost .GLB
  else if src ≠ .work then s.answer .OK
  else
    let to_ := F.GLB_ROLE_ROLE.of v
    let was := s.fld F.GLB_ROLE_ROLE 0
    if to_ = 3 then s.refuse .BAD_ARG
    else if to_ = 2 ∧ was ≠ 2 ∧ s.twl.routes.any Route.onSdi = true then s.refuse .REFUSED_POLICY
    else if to_ = 0 ∧ was = 1 ∧ s.twl.routes.any s.relays = true then s.refuse .REFUSED_POLICY
    else s.store .GLB_ROLE 0 v

/-- GLB_ROLE_WRITE (R32). -/
def execGlbRoleWrite (src : Requester) (w : Word32) (s : State) : Host.Outcome State Fault Refusal :=
  .next (s.writeRole src (w.setWidth 64))

/-! ### Writes -/

/-- A value that the field tables do not allow, for registers whose writes have no other rule (Tables 05.11, 03.11, 18.11 to
18.13). -/
def badValue (r : Reg) (v : Word) : Bool :=
  let out := fun (f : Fld) (lo hi : Nat) => decide (f.of v < lo ∨ hi < f.of v)
  match r with
  | .EGR_TAKE_CFG => out F.EGR_TAKE_CFG_HORIZON 1 10000 || out F.EGR_TAKE_CFG_RETRY 10 255
  | .EGR_JOIN_TIMING => out F.EGR_JOIN_TIMING_URI 100 10000 || out F.EGR_JOIN_TIMING_ROBUSTNESS 1 7
  | .TWL_DIR_ACK_TO => decide (v.toNat % 2 ^ 32 < 100 ∨ 10000 < v.toNat % 2 ^ 32)
  | .GLB_TEMP_CFG => out F.GLB_TEMP_CFG_ALARM 60 115
  | .INS_PMBUS_CFG => out F.INS_PMBUS_CFG_PERIOD 10 10000
  | .BOOT_WDOG => out F.BOOT_WDOG_MS 100 10000
  | _ => false

/-- A write with no rule beyond the access code, the closure and the ranges (R4, R5, R663). -/
def State.writePlain (s : State) (src : Requester) (r : Reg) (i : Nat) (v : Word) : State :=
  match r.info.acc with
  | .RO | .RC => s.answer .OK
  | .WO => s.guarded r src fun s => s.answer .OK
  | .W1C => s.guarded r src fun s => (s.setReg r i (s.reg r i &&& ~~~v)).answer .OK
  | .RW | .RWB => s.guarded r src fun s => if badValue r v then s.refuse .BAD_ARG else s.store r i v

/-- Writes of ingress, Twill and egress registers that have rules. -/
def State.writeData (s : State) (src : Requester) (e : BusEnv) (r : Reg) (i : Nat) (v : Word) : State :=
  match r with
  | .ING_CTRL => s.writeIngCtrl src v
  | .ING_POOL_PAGES => s.writePool src v
  | .ING_IN_CFG => s.writeInCfg src i v
  | .ING_IN_SYNC => s.writeInSync src i v
  | .ING_SDI_CFG => s.writeSdiCfg src i v
  | .ING_PKT_VID => s.writePktVid src i v
  | .ING_PKT_PD => s.writePd src i v
  | .ING_AFL_CFG => s.writeAfl src i v
  | .ING_AFL_FMT => s.writeAflFmt src i v
  | .ING_AFL_OFF => s.writeAflOff src i v
  | .ING_ANF_CFG => s.writeAnf src i v
  | .TWL_CTRL => s.writeTwlCtrl src v e.inFlight
  | .TWL_CAL_LIMIT => s.writeCalLimit src v
  | .TWL_LK_LIMIT => s.writeLkLimit src v
  | .TWL_DIR_CMD => s.writeDirCmd src v e.ovf
  | .TWL_V6PFX | .TWL_V6SRC => s.writeV6 src r i v
  | .TWL_SWAP_CTRL => s.writeSwapCtrl src v e.passed
  | .EGR_CTRL => s.writeEgrCtrl src v
  | .EGR_HEALTH_CFG => s.writeHealthCfg src v
  | .EGR_HEALTH_CTRL => s.writeHealthCtrl src v
  | .EGR_HEALTH_MASK_A | .EGR_HEALTH_MASK_B => (s.writePlain src r i v).health
  | .EGR_OTD_CFG => s.writeOtdCfg src i v
  | .EGR_OTD_PHASE => s.writeOtdPhase src i v
  | .EGR_PAT_CFG => s.writePat src i v
  | .EGR_OUT_CFG => s.writeOutCfg src i v
  | .EGR_OUT_TAKE => s.writeOutTake src i v
  | .EGR_OUT_SDI => s.writeOutSdi src i v
  | .EGR_OUT_AUD => s.writeOutAud src i v
  | .EGR_OUT_IDENT => s.writeIdent src (i / 8) (i % 8) v
  | .EGR_VSND_CFG => s.writeVsndCfg src i v e.view
  | .EGR_VSND_SRC => s.writeVsndSrc src i v e.view
  | .EGR_VSND_PORT => s.writeSndPort src .video i v
  | .EGR_ASND_CFG => s.writeAsndCfg src i v
  | .EGR_ASND_FMT => s.writeAsndFmt src i v
  | .EGR_ASND_PORT => s.writeSndPort src .audio i v
  | .EGR_XSND_CFG => s.writeXsndCfg src i v
  | .EGR_XSND_PORT => s.writeSndPort src .anc i v
  | .EGR_JOIN_ENT => s.writeJoin src i v
  | _ => s.writePlain src r i v

/-- Writes of NIM_, TWD_, ASP_ and VMP_ registers that have rules. -/
def State.writeCores (s : State) (src : Requester) (e : BusEnv) (r : Reg) (i : Nat) (v : Word) : State :=
  match r with
  | .NIM_CTRL => s.writeNimCtrl src v
  | .NIM_EXEC_CFG => s.writeExecCfg src v
  | .NIM_JRN_CFG => s.writeJrnCfg src v
  | .NIM_PAIR_CFG => s.writePairCfg src e.allOrder e.partnerNames e.partnerB v
  | .NIM_SQ_BASE | .NIM_CQ_BASE => s.writeQBase src r i v
  | .NIM_Q_CFG => s.writeQCfg src i v
  | .NIM_SQ_TAIL => s.writeSqTail src i v
  | .NIM_CQ_HEAD => s.writeCqHead src i v
  | .NIM_SVC_CFG => s.writeSvcCfg src i v
  | .TWD_CTRL => s.writeTwdCtrl src v
  | .TWD_PLACE => s.writePlace src i v e.sender
  | .TWD_FOLLOW => s.writeFollow src i v
  | .TWD_BTX_CFG => s.writeBtxCfg src i v
  | .TWD_BTX_FLOW => s.writeBtxFlow src i v
  | .TWD_BRX_CFG => s.writeBrxCfg src i v e.hop
  | .TWD_CORE_CFG | .TWD_CORE_RUN => s.writeCore src r i v
  | .TWD_CORE_AT => s.writeCoreAt src i v
  | .ASP_CTRL => s.writeAspCtrl src v
  | .ASP_TX_CFG => s.writeAspCfg src true i v
  | .ASP_TX_FMT => s.writeAspFmt src true i v
  | .ASP_TX_MASK => s.writeAspMask src true i v
  | .ASP_RX_CFG => s.writeAspCfg src false i v
  | .ASP_RX_FMT => s.writeAspFmt src false i v
  | .ASP_RX_MASK => s.writeAspMask src false i v
  | .VMP_CTRL => s.writeVmpCtrl src v
  | .VMP_PIPE_CFG => s.writePipeCfg src i v
  | .VMP_PIPE_BG => s.writePipeBg src i v
  | .VMP_SURF_CFG => s.writeSurfCfg src i v
  | .VMP_SURF_SIZE | .VMP_SURF_PITCH => s.writeSurfGeom src r i v
  | .VMP_SURF_GEN => s.writeSurfGen src i v
  | _ => s.writePlain src r i v

/-- Writes of LST_, NTM_, WLT_ and NPT_ registers that have rules. -/
def State.writeTiming (s : State) (src : Requester) (e : BusEnv) (r : Reg) (i : Nat) (v : Word) : State :=
  match r with
  | .LST_CTRL => s.writeLstCtrl src v
  | .LST_STEER => s.writeSteer src v
  | .LST_REF_CFG => s.writeRefCfg src i v
  | .LST_CFG | .LST_SLEW | .LST_HOLD_CFG | .LST_HOLD_LIM | .LST_STEER_RATE | .LST_REF_WTR => s.writeLstRange src r i v
  | .NTM_CTRL => s.writeNtmCtrl src v
  | .NTM_TB_CFG => s.writeTbCfg src i v
  | .NTM_TB_ADJ => s.writeTbAdj src i v
  | .NTM_SRV_CFG => s.writeSrvCfg src i v
  | .NTM_SRV_FEED => s.writeFeed src i v
  | .NTM_INST_CFG => s.writeInst src i v
  | .NTM_INST_INTV => s.writeIntv src i v
  | .NTM_PHY_TXLAT | .NTM_PHY_RXLAT | .NTM_PORT_ASYM => s.writeDelay src r i v
  | .NTM_PORT_CFG => s.writePtpPort src i v
  | .NTM_TRG_CFG => s.writeTrg src i v
  | .NTM_TRG_T | .NTM_TRG_PNUM | .NTM_TRG_PDEN => s.writeTrgTime src r i v
  | .NTM_CAP_CFG => s.writeCap src i v
  | .WLT_QUAL => s.writeQual src v
  | .WLT_LANE_CFG => s.writeLaneCfg src i v
  | .WLT_LANE_TXEQ => s.writeTxeq src i v
  | .WLT_LANE_CTRL => s.writeLaneCtrl src i v
  | .WLT_LANE_PRBS => s.writePrbs src i v
  | .WLT_LK_CFG => s.writeLkCfg src i v
  | .WLT_LK_CTRL => s.writeLkCtrl src i v
  | .NPT_CTRL => s.writeNptCtrl src v
  | .NPT_GRP_CFG => s.writeGrpCfg src i v
  | .NPT_PORT_CFG => s.writePortCfg src i v
  | .NPT_PORT_EEE => s.writeEee src i v
  | .NPT_STEER => s.writeSteerEntry src i v
  | .NPT_RXR_BASE | .NPT_TXR_BASE => s.writeRingBase src r i v
  | .NPT_RXR_CFG => s.writeRxrCfg src i v
  | .NPT_TXR_CFG => s.writeTxrCfg src i v
  | .NPT_RXR_TAIL => s.writeRxrTail src i v
  | .NPT_TXR_TAIL => s.writeTxrTail src i v e.frames
  | .NPT_EP_CFG => s.writeEpCfg src i v
  | _ => s.writePlain src r i v

/-- Writes of RSL_, AWL_, SET_, UPD_, GLB_, BOOT_ and INS_ registers that have rules. -/
def State.writeKeep (s : State) (src : Requester) (e : BusEnv) (r : Reg) (i : Nat) (v : Word) : State :=
  match r with
  | .RSL_FENCE_CTRL => s.writeFence src v
  | .RSL_UNIT_CTRL => s.writeUnitCtrl src i v
  | .RSL_SPARE_CTRL => s.writeSpareCtrl src v
  | .RSL_XCHK_CFG | .RSL_PAIR_CFG | .RSL_SPARE_CFG | .RSL_AUTO | .RSL_AVS_CFG => s.writeRsl src r i v
  | .AWL_CTRL => s.writeAwlCtrl src v
  | .AWL_CFG => s.writeAwlCfg src v
  | .AWL_RD_IDX => s.writeRdIdx src v
  | .AWL_CLR_CTRL => s.writeClrCtrl src e.macOk v
  | .SET_CTRL => s.writeSetCtrl src v
  | .SET_CFG => s.writeSetCfg src v
  | .UPD_CTRL => s.writeUpdCtrl src e.pairLevel v
  | .UPD_CFG => s.writeUpdCfg src v
  | .GLB_CTRL => s.writeGlbCtrl v
  | .GLB_ROLE => s.writeRole src v
  | .GLB_ALERT_STAT => s.clearAlert v
  | .GLB_ALERT_EN => (s.writePlain src r i v).refreshAlert
  | .BOOT_WDOG_KICK => s.writeKick src v
  | .INS_CLK_CFG => s.writeClkCfg src v
  | .INS_CLK_FORCE => s.writeClkForce src v
  | _ => s.writePlain src r i v

/-- A write of a whole register. -/
def State.writeReg (s : State) (src : Requester) (e : BusEnv) (r : Reg) (i : Nat) (v : Word) : State :=
  let b := r.info.blk
  if b.intStat = some r then
    let s := (s.clearStat b v).answer .OK
    if b = .GLB then s.refreshAlert else s
  else if b.intEn = some r then (s.writeEn b v).answer .OK
  else match b with
    | .ING | .TWL | .EGR => s.writeData src e r i v
    | .NIM | .TWD | .ASP | .VMP => s.writeCores src e r i v
    | .LST | .NTM | .WLT | .NPT => s.writeTiming src e r i v
    | .RSL | .AWL | .SET | .UPD | .GLB | .BOOT | .INS => s.writeKeep src e r i v

/-! ### Memory windows (Tables 03.10, 08.16, 10.7) -/

/-- A dword of a memory window. -/
inductive Win where
  /-- Two entries of a slice-port's active calendar. -/
  | cal (sp e : Nat)
  /-- Half a bundle of a core's load bank. -/
  | imem (c a : Nat) (high : Bool)
  /-- A lane of a shadow word of X or Y. -/
  | shadow (c : Nat) (y : Bool) (a l : Nat)
  /-- A lane of live X or Y. -/
  | peek (c : Nat) (y : Bool) (a l : Nat)
  /-- A word of a shadow or active layer descriptor. -/
  | layer (v : Nat) (act : Bool) (l w : Nat)
  /-- An entry of a LUT window: input or output. -/
  | lut (out : Bool) (v i : Nat)
  deriving DecidableEq, Repr, Inhabited

/-- The window dword at a BAR0 address. -/
def winAt (a : Nat) : Option Win :=
  let b := Blk.ofAddr a
  let o := a - b.base
  match b with
  | .TWL =>
    let p := o - 0x100000
    if o < 0x100000 ∨ 168 * 0x2000 ≤ p then none else some (.cal (p / 0x2000) (p % 0x2000 / 4 * 2))
  | .TWD =>
    if o < 0x100000 then none
    else if o < 0x180000 then some (.imem (o / 0x10000 % 16) (o % 0x10000 / 8) (decide (o % 8 = 4)))
    else if o < 0x200000 then none
    else if o < 0x300000 then
      some (.shadow ((o - 0x200000) / 0x20000) (decide (0x10000 ≤ o % 0x20000)) (o % 0x10000 / 16) (o % 16 / 4))
    else if o < 0x400000 then none
    else if o < 0x800000 then
      some (.peek ((o - 0x400000) / 0x80000) (decide (0x40000 ≤ o % 0x80000)) (o % 0x40000 / 16) (o % 16 / 4))
    else none
  | .VMP =>
    if o < 0x20000 then none
    else if o < 0x30000 then
      if o % 0x800 < 0x400 then some (.layer ((o - 0x20000) / 0x1000) (decide (0x800 ≤ o % 0x1000)) (o % 0x400 / 0x40) (o % 0x40 / 4))
      else none
    else if o < 0x200000 then none
    else if o < 0xA00000 then
      if o % 0x80000 < 0x60000 then some (.lut false ((o - 0x200000) / 0x80000) (o % 0x80000 / 4)) else none
    else if o < 0xB00000 then
      if o % 0x10000 < 0xC000 then some (.lut true ((o - 0xA00000) / 0x10000) (o % 0x10000 / 4)) else none
    else none
  | _ => none

/-- The value of a window dword. -/
def State.readWin (s : State) : Win → Word32
  | .cal sp e =>
    let t := (s.port sp).cal
    BitVec.ofNat 32 (Tbl.get (fun _ => 0) t e % 65536 + Tbl.get (fun _ => 0) t (e + 1) % 65536 * 65536)
  | .imem c a high =>
    let w := Tbl.get (fun _ => 0) (s.twdCore c).imem (8192 * (1 - s.fld F.TWD_CORE_STAT_BANK c) + a)
    if high then (w >>> 32).setWidth 32 else w.setWidth 32
  | .shadow c y a l => Sys2Proof.Machine.lane (Tbl.get (fun _ => 0) (if y then (s.twdCore c).ys else (s.twdCore c).xs) a) l
  | .peek c y a l => Sys2Proof.Machine.lane (readXY (if y then (s.twdCore c).y else (s.twdCore c).x) a) l
  | .layer v act l w =>
    BitVec.ofNat 32 ((if act then (s.pipe v).act else (s.pipe v).shadow).word l w)
  | .lut out v i => s.readLut out v i

/-- A write of a window dword; the read-only windows ignore it (R5). -/
def State.writeWin (s : State) (src : Requester) (w : Win) (v : Word32) : State :=
  match w with
  | .cal .. | .peek .. | .layer .. => s.answer .OK
  | .imem c a high =>
    let old := Tbl.get (fun _ => 0) (s.twdCore c).imem (8192 * (1 - s.fld F.TWD_CORE_STAT_BANK c) + a)
    s.writeImem src c a (if high then v ++ old.setWidth 32 else (old >>> 32).setWidth 32 ++ v)
  | .shadow c y a l => s.writeShadow src c y a l v
  | .lut out v' i => s.writeLut src out v' i v

/-- Whether a window holds settings: it accepts writes (Table 06.3). -/
def Win.isSet : Win → Bool
  | .imem .. | .shadow .. | .lut .. => true
  | _ => false

/-! ### Accesses by address -/

/-- The key of a 64-bit register's halves in the latches. -/
def halfKey (r : Reg) (i : Nat) : Nat := 65536 * r.ctorIdx + i

/-- Whether the endpoint answers BAR0 accesses: from the end of ROM (Table 18.5). -/
def State.pcieUp (s : State) : Bool := !s.host.inReset && s.bootStage != stageRom

/-- Whether PCIe accesses to NIM_ are turned away: during a warm reset until READY (Table 18.4). -/
def State.nimShut (s : State) (src : Requester) (b : Blk) : Bool :=
  src == .pcie && b == .NIM && (s.boot.warmHeld || s.bootStage == stageWarmBoot)

/-- Whether a store's settings are recorded: those of accepted work and of the management core (R571). -/
def Requester.recorded : Requester → Bool
  | .work | .mgmt => true
  | _ => false

/-- Write a delta record for a store that has taken effect. -/
def State.recordStore (s : State) (src : Requester) (e : BusEnv) (set : Bool) (pairs : List (Nat × Word)) : State :=
  if src.recorded && set && s.resp == .OK then s.writeDelta e.key.seq e.key.origin pairs else s

/-- A store to a whole register, with its delta record. While the delta log takes no record, a store of settings is
answered BUSY. -/
def State.storeReg (s : State) (src : Requester) (e : BusEnv) (r : Reg) (i a : Nat) (v : Word) : State :=
  if src.recorded && r.isSet && s.deltasFull then s.refuse .BUSY
  else
    let s := (s.answer .OK).writeReg src e r i v
    let s := if src.recorded && r.isSet && s.resp == .OK then s.markReg r i else s
    s.recordStore src e r.isSet (if r.info.wide then [(a, low32 v), (a + 4, v >>> 32)] else [(a, low32 v)])

/-- A store of 4 bytes at a BAR0 address. The low word of a 64-bit register waits for its high word (R472). -/
def State.store32 (s : State) (src : Requester) (e : BusEnv) (a : Nat) (v : Word32) : State :=
  match winAt a with
  | some w =>
    if src.recorded && w.isSet && s.deltasFull then s.refuse .BUSY
    else ((s.answer .OK).writeWin src w v).recordStore src e w.isSet [(a, v.setWidth 64)]
  | none => match Reg.ofAddr a with
    | none => s.answer .OK
    | some (r, i, high) =>
      if !r.info.wide then s.storeReg src e r i a (v.setWidth 64)
      else if high then
        let low := Tbl.get (fun _ => 0) s.latchLow (halfKey r i)
        let s := { s with latchLow := Tbl.set (fun _ => 0) (halfKey r i) 0 s.latchLow }
        s.storeReg src e r i (a - 4) (v.setWidth 64 <<< 32 ||| low)
      else (s.answer .OK).guarded r src fun s =>
        { s with latchLow := Tbl.set (fun _ => 0) (halfKey r i) (v.setWidth 64) s.latchLow }

/-- Whether an 8-byte access names a register that its map gives as 64 bits. -/
def wideAt (a : Nat) : Bool :=
  match winAt a with
  | some (.imem _ _ high) => !high
  | some _ => false
  | none => match Reg.ofAddr a with
    | some (r, _, high) => r.info.wide && !high
    | none => false

/-- A store of 8 bytes to a 64-bit register. -/
def State.store64 (s : State) (src : Requester) (e : BusEnv) (a : Nat) (v : Word) : State :=
  match winAt a with
  | some (.imem c n _) =>
    if src.recorded && s.deltasFull then s.refuse .BUSY
    else ((s.answer .OK).writeImem src c n v).recordStore src e true [(a, low32 v), (a + 4, v >>> 32)]
  | _ => match Reg.ofAddr a with
    | some (r, i, _) => s.storeReg src e r i a v
    | none => s.answer .OK

/-- A write on the block bus: `size` is the logarithm of the bytes. A PCIe write of any other form than R619 allows is
discarded and counted. -/
def State.busWrite (s : State) (src : Requester) (e : BusEnv) (a size : Nat) (v : Word) : State :=
  if src == .pcie && !s.pcieUp then s
  else if s.nimShut src (Blk.ofAddr a) then s
  else if size = 3 ∧ a % 4 = 0 ∧ wideAt a = true then s.store64 src e a v
  else if size = 2 ∧ a % 4 = 0 then s.store32 src e a (v.setWidth 32)
  else if src = .pcie then s.count .GLB_PCIE_ERR 0 1
  else s.answer .OK

/-- A read of NTM_TB_NS latches the seconds and the fraction (R472). -/
def State.latchTb (s : State) (k : Nat) : State :=
  let t := s.tbNow k
  let s := s.setReg .NTM_TB_NS k (BitVec.ofNat 64 (t / 65536 % 1000000000))
  let s := s.setReg .NTM_TB_FRAC k (BitVec.ofNat 64 (t % 65536))
  s.setReg .NTM_TB_SEC k (BitVec.ofNat 64 (t / fineSecond % 2 ^ 48))

/-- The most that a group draws, in 0.1 W, in a power state (Table 18.9). -/
def powerLimit (state g : Nat) : Nat :=
  (if state = powerSpare then [0, 0, 60, 30, 0, 0, 0, 0, 50, 60, 40]
    else [190, 180, 280, 500, 480, 430, 260, 120, 130, 80, 150]).getD g 0

/-- The value that a read of a register returns, with what the read does: RC registers clear, WO registers read 0 (R5), and
registers that show live values are computed; the estimate of INS_PWR is a free value within Table 18.9 (R640). -/
def State.readReg (s : State) (r : Reg) (i : Nat) : Word × State :=
  match r with
  | .NTM_TB_NS =>
    let s := s.latchTb i
    (s.reg .NTM_TB_NS i, s)
  | .NTM_TB_NIM => (BitVec.ofNat 64 (nimTime (s.tbNow i)), s)
  | .NTM_CAP_NS =>
    let s := s.readCap i
    (s.rdata, s)
  | .WLT_LANE_STAT => (s.laneStat i, s)
  | .RSL_UNIT_STAT => (s.unitStat i, s)
  | .SET_OPSEC => (s.reg .INS_OPSEC 0, s)
  | .SET_PCYCLES => (s.reg .INS_PCYCLES 0, s)
  | .INS_PWR => (BitVec.ofNat 64 (s.free.toNat % (powerLimit (s.fld F.INS_STATE_STATE 0) i + 1)), s.drawFree)
  | r => match r.info.acc with
    | .WO => (0, s)
    | .RC => (s.reg r i, s.setReg r i 0)
    | _ => (s.reg r i, s)

/-- A read of 4 bytes at a BAR0 address: the low word of a 64-bit register latches its high word (R138, R472). -/
def State.load32 (s : State) (a : Nat) : State :=
  match winAt a with
  | some w => { s with rdata := (s.readWin w).setWidth 64 }
  | none => match Reg.ofAddr a with
    | none => { s with rdata := 0 }
    | some (r, i, high) =>
      if high then { s with rdata := Tbl.get (fun _ => 0) s.latchHigh (halfKey r i) }
      else
        let x := s.readReg r i
        if r.info.wide then
          { x.2 with
            rdata := low32 x.1
            latchHigh := Tbl.set (fun _ => 0) (halfKey r i) (x.1 >>> 32) x.2.latchHigh }
        else { x.2 with rdata := low32 x.1 }

/-- A read of 8 bytes of a 64-bit register. -/
def State.load64 (s : State) (a : Nat) : State :=
  match winAt a with
  | some (.imem c n _) => { s with rdata := s.readWin (.imem c n true) ++ s.readWin (.imem c n false) }
  | _ => match Reg.ofAddr a with
    | some (r, i, _) =>
      let x := s.readReg r i
      { x.2 with rdata := x.1 }
    | none => { s with rdata := 0 }

/-- A read on the block bus; a read of any other size returns the bytes of the containing dword (R619). -/
def State.busRead (s : State) (src : Requester) (a size : Nat) : State :=
  if src == .pcie && !s.pcieUp then s
  else if s.nimShut src (Blk.ofAddr a) then { s with rdata := 0 }
  else if size = 3 ∧ a % 4 = 0 ∧ wideAt a = true then (s.load64 a).answer .OK
  else
    let s := (s.load32 (a - a % 4)).answer .OK
    if 2 ≤ size then s else { s with rdata := (s.rdata >>> (8 * (a % 4))) &&& BitVec.ofNat 64 (2 ^ (8 * 2 ^ size) - 1) }

/-- REGISTER_WRITE (R4, R5, R619, R663): a write at a BAR0 address of 1, 2, 4 or 8 bytes. -/
def execRegisterWrite (src : Requester) (addr : BitVec 28) (size : Fin 4) (data : Word64) (env : BusEnv) (s : State) :
    Host.Outcome State Fault Refusal := .next (s.busWrite src env addr.toNat size data)

/-- READ_CLEAR (R5): a read at a BAR0 address of 1, 2 or 4 bytes; an RC register clears. -/
def execReadClear (src : Requester) (addr : BitVec 28) (size : Fin 3) (s : State) : Host.Outcome State Fault Refusal :=
  .next (s.busRead src addr.toNat size)

/-- LATCHED_READ_64 (R138, R472): a read of the low word of a 64-bit register, or of the whole register in one access. -/
def execLatchedRead64 (src : Requester) (addr : BitVec 28) (whole : Bool) (s : State) : Host.Outcome State Fault Refusal :=
  .next (s.busRead src addr.toNat (if whole then 3 else 2))

end Sys2Proof.Machine
end

