-- ==== Sys2Proof/Machine/Boot.lean ====
section
/-! DEFINITION. Boot, restore, power states, thermal protection and the host's other accesses (chapter 18; R579, R580). -/

namespace Sys2Proof.Machine

/-! ### Restoring the configuration (R573, R579, R580, R610, R612) -/

/-- The registers whose restored values take effect through their writes, in the order in which they are made: enables and
bindings (R580). -/
def lateRegs : List Reg :=
  [.INS_CLK_FORCE, .LST_CTRL, .LST_REF_CFG, .LST_STEER, .NPT_CTRL, .NPT_GRP_CFG, .NPT_PORT_CFG, .NPT_PORT_EEE, .NTM_CTRL,
    .NTM_INST_CFG, .NTM_PORT_CFG, .NTM_TB_CFG, .WLT_LANE_CFG, .ING_CTRL, .TWL_CTRL, .EGR_CTRL, .EGR_OTD_CFG, .ING_SDI_CFG,
    .ING_PKT_VID, .ING_AFL_CFG, .ING_ANF_CFG, .ING_IN_CFG, .TWD_CTRL, .ASP_CTRL, .ASP_TX_CFG, .ASP_RX_CFG, .VMP_CTRL, .VMP_PIPE_CFG,
    .EGR_OUT_CFG, .EGR_VSND_SRC, .EGR_VSND_CFG, .EGR_ASND_CFG, .EGR_XSND_CFG, .EGR_JOIN_ENT, .NTM_TRG_CFG, .NTM_CAP_CFG, .NIM_CTRL]

/-- Set the written bits of a register without its write's effects. -/
def State.rawSet (s : State) (r : Reg) (i : Nat) (v : Word) : State :=
  let m := BitVec.ofNat 64 r.info.mask
  s.setReg r i ((s.reg r i &&& ~~~m) ||| (v &&& m))

/-- Restore a register: at once, or by its write later. -/
def State.restoreReg (s : State) (r : Reg) (i : Nat) (v : Word) : State :=
  let s := s.markReg r i
  if lateRegs.contains r then
    s.setBoot { s.boot with later := (s.boot.later.filter fun (e : Reg × Nat × Word) => !(e.1 == r && e.2.1 == i)) ++ [(r, i, v)] }
  else s.rawSet r i v

/-- The register of a number. -/
def regOf (n : Nat) : Option Reg :=
  [Blk.GLB, .BOOT, .TWL, .ING, .EGR, .NIM, .TWD, .ASP, .VMP, .LST, .NTM, .WLT, .NPT, .RSL, .AWL, .SET, .UPD, .INS].findSome? fun b =>
    b.regs.find? fun r => r.ctorIdx == n

/-- Restore the registers of a table. -/
def State.restoreRows (s : State) (t : Tbl (Tbl Word)) (ok : Reg → Bool) : State :=
  t.foldl (fun (s : State) (row : Nat × Tbl Word) => match regOf row.1 with
    | none => s
    | some r => if ok r then row.2.foldl (fun (s : State) (e : Nat × Word) => s.restoreReg r e.1 e.2) s else s) s

/-- Restore a dword of a memory window. -/
def State.restoreWin (s : State) (w : Win) (v : Word32) : State :=
  match w with
  | .imem .. | .lut .. => s.writeWin .boot w v
  | .shadow c y a l =>
    let x := s.twdCore c
    let put := fun (t : Tbl Word128) => Tbl.set (fun _ => 0) a (Sys2Proof.Machine.setLane (Tbl.get (fun _ => 0) t a) l v) t
    s.setTwd c (if y then { x with y := put x.y, ys := put x.ys } else { x with x := put x.x, xs := put x.xs })
  | _ => s

/-- Restore one store of a delta record; the halves of a 64-bit register come one after the other. -/
def State.restoreStore (s : State) (ok : Reg → Bool) (a : Nat) (v : Word) : State :=
  match winAt a with
  | some w => if ok .TWD_CORE_RUN then s.restoreWin w (v.setWidth 32) else s
  | none => match Reg.ofAddr a with
    | none => s
    | some (r, i, high) =>
      if !ok r then s
      else if !r.info.wide then s.restoreReg r i v
      else if high then s.restoreReg r i (v <<< 32 ||| low32 (s.reg r i))
      else s.restoreReg r i (low32 v ||| (s.reg r i >>> 32) <<< 32)

/-- Restore Tweed's and Vamp's memories (Table 16.6, sections 2 and 3). -/
def State.restoreMems (s : State) (x : Snapshot) : State :=
  { s with
    twd := { s.twd with cores := Tbl.mapVals (fun _ => default) (fun _ (c : TwdCore) => { (default : TwdCore) with
      imem := c.imem, x := c.x, y := c.y, xs := c.xs, ys := c.ys }) x.twd.cores }
    vmp := { s.vmp with pipes := Tbl.mapVals (fun _ => default) (fun _ (p : Pipe10) => { (default : Pipe10) with
      shadow := p.shadow, pend := p.pend, act := p.act, black := true }) x.vmp.pipes } }

/-- The pair whose format is the running image's, and of two the one with the higher SEQ (R573). -/
def State.pairFor (s : State) (format : Nat) : Option Snapshot :=
  let good := fun (p : Nat) => (s.newestOf p).filter fun (x : Snapshot) => x.format == format
  match good 0, good 1 with
  | some x, some y => if x.seq < y.seq then some y else some x
  | some x, none => some x
  | none, y => y

/-- The newest valid snapshot of the store. -/
def State.newestSnap (s : State) : Option Snapshot :=
  match s.newestOf 0, s.newestOf 1 with
  | some x, some y => if x.seq < y.seq then some y else some x
  | some x, none => some x
  | none, y => y

/-- The snapshot that the running image restores, with the pair it then uses: its own format's, or the store's newest
converted into the other pair when the conversion passes (R573, R610). -/
def State.pickSnap (s : State) (converted : Bool) : Option Snapshot × State :=
  let f := s.fld F.SET_STATUS_FORMAT 0
  let s := s.setFlag F.SET_STATUS_CONVERT_FAIL 0 false
  match s.pairFor f with
  | some x => (some x, ((s.setFld F.SET_STATUS_PAIR 0 x.pair).setFlag F.SET_STATUS_EMPTY 0 false).showSnap x)
  | none => match s.newestSnap with
    | none => (none, (s.setFld F.SET_STATUS_PAIR 0 0).setFlag F.SET_STATUS_EMPTY 0 true)
    | some x =>
      if converted then
        let y : Snapshot := { x with format := f, pair := 1 - x.pair, seq := s.topSeq + 1, start := 0 }
        let s := s.setKeep { s.keep with snaps := { y with deltaPos := s.keep.nextPos } :: s.keep.snaps }
        (some y, ((s.setFld F.SET_STATUS_PAIR 0 y.pair).setFlag F.SET_STATUS_EMPTY 0 false).showSnap y)
      else
        (none, (s.setFlag F.SET_STATUS_CONVERT_FAIL 0 true).setKeep { s.keep with ramOnly := true })

/-- Restore the settings (R579, steps 3 and 4): the snapshot, then the delta records from its DELTA_POS onward; those of another
format are discarded and told. `ok` says which registers are restored. -/
def State.restoreSettings (s : State) (converted mems : Bool) (ok : Reg → Bool) : State :=
  let p := s.pickSnap converted
  let s := p.2
  let f := s.fld F.SET_STATUS_FORMAT 0
  let from_ := match p.1 with | some x => x.deltaPos | none => 0
  let live := s.keep.deltas.filter fun (d : Delta) => decide (from_ ≤ d.dpos)
  let lost := match p.1 with
    | some x => if x.format = f ∧ (s.pairFor f).any (fun (y : Snapshot) => y.deltaPos == x.deltaPos) = true then live.filter fun (d : Delta) => d.format != f else []
    | none => []
  let use := live.filter fun (d : Delta) => !lost.contains d
  let s := match p.1 with
    | some x => if mems then s.restoreMems x else s
    | none => s
  let s := match p.1 with | some x => s.restoreRows x.regs ok | none => s
  let s := use.foldl (fun (s : State) (d : Delta) => d.stores.foldl (fun (s : State) e => s.restoreStore ok e.1 e.2) s) s
  if lost.isEmpty then s.showDeltas
  else
    let s := s.setKeep { s.keep with deltas := s.keep.deltas.filter fun (d : Delta) => !lost.contains d }
    ((s.count .SET_DELTA_DISCARD 0 lost.length).awlPersist .SET .error 0x06 lost.length).showDeltas

/-- Make a restored write; one that is NOT_READY waits (R580). -/
def State.lateWrite (s : State) (e : Reg × Nat × Word) : State :=
  let s := (s.answer .OK).writeReg .mgmt default e.1 e.2.1 e.2.2
  if s.resp = .NOT_READY then s.setBoot { s.boot with later := s.boot.later ++ [e] } else s

/-- Make the restored writes that wait, in the order of lateRegs. -/
def State.runLater (s : State) : State :=
  let l := s.boot.later
  let ans := s.resp
  let s := s.setBoot { s.boot with later := [] }
  let s := lateRegs.foldl (fun (s : State) r =>
    (l.filter fun (e : Reg × Nat × Word) => e.1 == r).foldl (fun (s : State) e => s.lateWrite e) s) s
  s.answer ans

/-- Tweed's cores take up their restored configuration: those with RUN start with the first block (R580). -/
def State.startCores (s : State) : State :=
  (List.range 8).foldl (fun (s : State) c =>
    let s := s.setFld F.TWD_CORE_STAT_BANK c (s.fld F.TWD_CORE_RUN_BANK c)
    if s.flag F.TWD_CORE_RUN_RUN c then s.setFld F.TWD_CORE_STAT_STATE c twRun else s) s

/-- Registers whose restored values are data of the snapshot and of the delta log. -/
def anyReg : Reg → Bool := fun _ => true

/-- The registers of the control plane (R633). -/
def controlReg (r : Reg) : Bool := r.info.blk == .NIM

/-! ### Boot code (R630) -/

/-- Boot code writes every RWB register, loads LIBRARY and sets LOCK; the management firmware starts and arms the watchdog
(R628, R630). -/
def State.lockDown (s : State) (b : BootData) : State :=
  let s := s.setFlag F.BOOT_PROT_LOCK 0 false
  let s := ((s.rawSet .BOOT_PROT 0 (b.prot.setWidth 64)).rawSet .BOOT_WDOG 0 (b.wdog.setWidth 64)).rawSet .NPT_MAC_BASE 0 (b.mac.setWidth 64)
  let s := s.rawSet .NTM_CLOCKID 0 b.clockId
  let lib := (b.library.take 0x400000).zipIdx.filterMap fun e => if e.1 = 0 then none else some (e.2, e.1)
  let s := { s with nim := { s.nim with sram := lib ++ s.nim.sram.filter fun (e : Nat × Byte) => decide (0x400000 ≤ e.1) } }
  (s.setFlag F.BOOT_PROT_LOCK 0 true).setBoot { s.boot with armed := true }

/-- A slot fails verification: it is programmed REJECTED, and the selection is made again (R607, R632). -/
def State.badSlot (s : State) : State :=
  let i := s.runSlot
  let s := (s.setFld F.BOOT_FAIL_UNIT 0 i).setFld F.BOOT_FAIL_CODE 0 1
  (s.rejectSlot i).selectSlot

/-! ### Power states and cold boot (R624, R629, R635) -/

/-- The power state; 0 while off. -/
def State.power (s : State) : Nat := s.fld F.INS_STATE_STATE 0

/-- A cold boot starts (Table 18.5): CORE and PCIE run, and the power state is ACTIVE until a restored mode says SPARE. -/
def State.coldBoot (s : State) (cause : Nat) : State :=
  let s := { s with host := { s.host with inReset := false } }
  let s := s.setBoot { s.boot with start := s.tick }
  let s := (s.setFld F.INS_STATE_STATE 0 powerActive).setFld F.BOOT_CAUSE_CAUSE 0 cause
  s.wake wakePorst

/-- PORST_FALL (R588, R624, R635): the power-fail writes, then a cold reset. -/
def execPorstFall (records : Nat) (s : State) : Host.Outcome State Fault Refusal :=
  .next (if s.host.inReset then s else ((s.powerFail records).coldReset).setFld F.BOOT_CAUSE_CAUSE 0 causePorst)

/-- PORST_RISE (R23, R635): straps are sampled and the cold boot starts, unless standby is off or the part holds itself in
reset after a trip. -/
def execPorstRise (strap : Fin 1024) (sideB : Bool) (s : State) : Host.Outcome State Fault Refusal :=
  .next (if !s.host.inReset || s.power != powerInsole then s
    else
      let s := ((s.setFld F.GLB_CHIP_STRAP 0 strap).setFld F.GLB_CHIP_DOMAIN 0 strap).setFlag F.GLB_CHIP_SIDE 0 sideB
      let cause := s.fld F.BOOT_CAUSE_CAUSE 0
      if s.boot.tripped then s else s.coldBoot (if cause = 0 then causePorst else cause))

/-- STBY_PG_RISE (R635): Insole starts on XTAL32K. -/
def execStbyPgRise (s : State) : Host.Outcome State Fault Refusal :=
  .next (if s.power ≠ 0 then s
    else ((s.setFld F.INS_STATE_STATE 0 powerInsole).setFlag F.INS_XTAL_RUNNING 0 true).wake wakeStby)

/-- The registers that Insole keeps in INSOLE (R635). -/
def insoleRegs : List Reg :=
  [.INS_OPSEC, .INS_PCYCLES, .INS_CLK_CFG, .INS_CLK_FORCE, .INS_PLL_STARTS, .INS_PLL_FAIL, .INS_XTAL, .INS_RET_STAT]

/-- STBY_PG_FALL (R588, R624, R635): power-fail writes out of SPARE or ACTIVE, and the retention contents are lost. -/
def execStbyPgFall (records : Nat) (s : State) : Host.Outcome State Fault Refusal :=
  .next (if s.power = 0 then s
    else
      let s := if s.host.inReset then s else (s.powerFail records).coldReset
      let s := insoleRegs.foldl (fun (s : State) r => s.clearReg r) s
      let s := s.setAwl { s.awl with staged := [], lastWords := [] }
      let s := s.setBoot { s.boot with retLost := true, tripped := false, clks := [] }
      (s.setFld F.INS_STATE_STATE 0 0).setFld F.BOOT_CAUSE_CAUSE 0 causeStby)

/-- The counts after a cold reset (R569): the largest of the counter record, Insole's count, the newest Awl record's and the
newest snapshot's; one power cycle more; and the counter record is written. -/
def State.takeCounts (s : State) : State :=
  let awl := ([0, 1].flatMap fun m => s.awlRecs m).foldl (fun a (e : Nat × Option AwlRecord) => match e.2 with
    | some r => max a r.opsec
    | none => a) 0
  let snap := s.keep.snaps.foldl (fun a (x : Snapshot) => max a x.opsec) 0
  let own := if s.boot.retLost then 0 else s.opsec
  let sec := max (max s.keep.cntSec own) (max awl snap)
  let cyc := max s.keep.cntCyc (if s.boot.retLost then 0 else (s.reg .INS_PCYCLES 0).toNat) + 1
  ((s.setReg .INS_OPSEC 0 (BitVec.ofNat 64 (sec % 2 ^ 40))).setReg .INS_PCYCLES 0 (BitVec.ofNat 64 (cyc % 2 ^ 32))).writeCounters

/-- BOOT_ROM_DONE (R562, R569, R607, R629): counts taken, slot chosen; `retentionOk` is the check of the retention SRAM. -/
def execBootRomDone (retentionOk : Bool) (s : State) : Host.Outcome State Fault Refusal :=
  .next (if s.host.inReset || s.bootStage != stageRom then s
    else
      let ok := retentionOk && !s.boot.retLost
      let s := s.setBoot { s.boot with retLost := !ok }
      let s := s.setFlag F.INS_RET_STAT_CHECK_OK 0 ok
      let s := s.takeCounts
      let s := s.setBoot { s.boot with retLost := false }
      let s := if ok then s else (s.setAwl { s.awl with staged := [], lastWords := [] }).setFlag F.AWL_STATUS_RETENTION_LOST 0 true
      let s := (s.stageEnds 0).setFld F.BOOT_STAGE_STAGE 0 stageVerify
      s.selectSlot.showUpd)

/-- The Awl starts (R587): its head is found; a retained entry already written is dropped; a failed check is told. -/
def State.startAwl (s : State) : State :=
  let s := s.findHead
  let newest := (s.awlRecs s.awlMedium).foldl (fun (b : Option AwlRecord) e => match e.2, b with
    | some r, some x => if x.seq < r.seq then some r else b
    | some r, none => some r
    | none, _ => b) none
  let s := match s.awl.staged, newest with
    | e :: rest, some r =>
      if e.retained && e.src == r.src && e.code == r.code && e.arg == r.arg && e.rep == r.rep then s.setAwl { s.awl with staged := rest }
      else s
    | _, _ => s
  let s := if s.flag F.AWL_STATUS_RETENTION_LOST 0 then s.awlPersist .AWL .warning 0x07 0 else s
  s.showStaged

/-- IMAGE_VERIFY_DONE (R587, R607, R629, R630): a good image is started, through LOCKED to HBM_INIT; a bad one is rejected. -/
def execImageVerifyDone (good : Bool) (data : BootData) (s : State) : Host.Outcome State Fault Refusal :=
  .next (if s.host.inReset || s.bootStage != stageVerify then s
    else if !good then s.badSlot
    else
      let s := (s.stageEnds 1).setFld F.BOOT_STAGE_STAGE 0 stageLocked
      let s := (s.lockDown data).startAwl
      (s.stageEnds 2).setFld F.BOOT_STAGE_STAGE 0 stageHbmInit)

/-- HBM_TRAIN_DONE (R579, R629): the frame store is usable, and the settings have been restored. -/
def execHbmTrainDone (converted : Bool) (s : State) : Host.Outcome State Fault Refusal :=
  .next (if s.host.inReset || s.bootStage != stageHbmInit then s
    else
      let s := (s.restoreSettings converted true anyReg).startCores
      let s := if s.mirrored then s.setFld F.NIM_PAIR_STAT_PARTNER 0 1 else s
      let s := if s.fld F.NIM_PAIR_CFG_MODE 0 = 2 then s.enterSpare else s
      (s.stageEnds 3).setFld F.BOOT_STAGE_STAGE 0 stageRestore)

/-- HBM_TRAIN_FAIL (R632). -/
def execHbmTrainFail (stack : Fin 4) (s : State) : Host.Outcome State Fault Refusal :=
  .next (if s.host.inReset || s.bootStage != stageHbmInit then s
    else
      let s := (s.setFld F.BOOT_FAIL_UNIT 0 stack).setFld F.BOOT_FAIL_CODE 0 2
      ((s.setFld F.BOOT_STAGE_STAGE 0 stageHbmFail).alert alertBoot).awlUnstated .BOOT (awlArg stack 2))

/-- The crosspoint and flow image is restored (R579, step 5): bindings, selections and pending takes; `views` is what other
parts report of the sources of restored outputs, whose routes are admitted again. -/
def State.restoreImage (s : State) (views : List (Fin 128 × TakeView)) : State :=
  let s := s.restoreRows s.keep.bind anyReg
  let s := s.runLater
  let s := s.tks.image.sel.foldl (fun (s : State) (e : Nat × Nat) =>
    let s := s.setFld F.EGR_OUT_TAKE_SOURCE e.1 (e.2 - 1)
    if e.2 - 1 = noSource then s else s.setFlag F.EGR_OUT_TAKE_PATH_LOST e.1 true) s
  let s := s.tks.takes.foldl (fun (s : State) (t : PendTake) => s.showPending t.out) s
  views.foldl (fun (s : State) e =>
    let s := s.routeRetry e.1 e.2
    (s.tks.takes.filter fun (t : PendTake) => t.out == e.1.val && !t.routed && !t.nochange).foldl (fun (s : State) t => s.rerouteTake t e.2) s) s

/-- STATE_RESTORE_DONE (R579, R629). -/
def execStateRestoreDone (views : List (Fin 128 × TakeView)) (s : State) : Host.Outcome State Fault Refusal :=
  .next (if s.host.inReset || s.bootStage != stageRestore then s
    else ((s.restoreImage views).stageEnds 4).setFld F.BOOT_STAGE_STAGE 0 stageLanes)

/-- LANES_READY (R629): Lace links start bring-up. -/
def execLanesReady (s : State) : Host.Outcome State Fault Refusal :=
  .next (if s.host.inReset || s.bootStage != stageLanes then s
    else
      let s := ((List.range 16).filter fun k => s.flag F.WLT_LK_CFG_ENABLE k && s.lkState k == lkDown).foldl
        (fun (s : State) k => s.startIdent k) s
      (s.stageEnds 5).setFld F.BOOT_STAGE_STAGE 0 stageReplay)

/-- REPLAY_PATH_TIMEOUT (R631): no path to the partner within 10 s: it is declared lost, and the part replays alone. -/
def execReplayPathTimeout (s : State) : Host.Outcome State Fault Refusal :=
  .next (if s.host.inReset || s.bootStage != stageReplay || !s.paired then s
    else (s.losePartner lossSilence).journalReplay false [])

/-- WARM_BOOT (R630, R633, R610, R612): the warm reset ends, and the control plane boots. After a fallback every setting returns to
the old pair's. -/
def execWarmBoot (good converted : Bool) (data : BootData) (s : State) : Host.Outcome State Fault Refusal :=
  .next (if s.host.inReset || s.bootStage != stageWarmBoot then s
    else
      let s := s.setBoot { s.boot with warmHeld := false }
      if !good then s.badSlot.showUpd
      else
        let s := s.lockDown data
        let back := s.fld F.BOOT_CAUSE_CAUSE 0 == causeFallback
        let s := (s.restoreSettings converted false (if back then anyReg else controlReg)).runLater
        let held := s.nim.heldRecords.reverse
        let lost := s.nim.lostHeld
        let s := { s with nim := { s.nim with warm := false, heldRecords := [], lostHeld := 0 } }
        let s := held.foldl (fun (s : State) e => s.postRecord e.1 e.2) s
        let s := if lost = 0 then s else s.awlCause Irq.NIM_CQ_LOST false 0 lost
        (s.journalReplay true []).showUpd)

/-- SPARE_EXIT (R553, R635): an identity is assumed, or the mode is left: the demand domains start, and lanes 1 to 3 of each
link are re-added. -/
def execSpareExit (assumed : Bool) (s : State) : Host.Outcome State Fault Refusal :=
  .next (if s.power ≠ powerSpare then s
    else
      let s := (s.setFld F.INS_STATE_STATE 0 powerActive).wake (if assumed then wakeAssume else wakeMode)
      let s := ((List.range 27).filter fun d => !spareDomains.contains d).foldl (fun (s : State) d => s.requestClk d) s
      let s := (List.range 16).foldl (fun (s : State) k => s.laceUnhold k) s
      if assumed then s.setFld F.RSL_SPARE_STAT_STATE 0 spareAssumed else s)

/-! ### Thermal protection, the crystal and the regulators (R641, R644, R652) -/

/-- Show the hottest sensor and its temperature, signed in 1/16 °C. -/
def State.showTemp (s : State) (sensor : Nat) (t : BitVec 16) : State :=
  let w := BitVec.ofNat 64 (sensor % 64 * 2 ^ 24 + t.toNat)
  let s := s.setReg .GLB_TEMP 0 w
  if signedOf 16 (s.fld ⟨.GLB_TEMP_MAX, 0, 16⟩ 0) < t.toInt || s.reg .GLB_TEMP_MAX 0 == 0 then s.setReg .GLB_TEMP_MAX 0 w else s

/-- THERMAL_ALARM (R641): the hottest sensor's reading; above ALARM it is told. -/
def execThermalAlarm (sensor : Fin 64) (t : BitVec 16) (s : State) : Host.Outcome State Fault Refusal :=
  let s := s.showTemp sensor t
  .next (if (16 * s.fld F.GLB_TEMP_CFG_ALARM 0 : Nat) < t.toInt then
      let s := s.setBoot { s.boot with hot := true }
      s.alarm Irq.GLB_TEMP alertThermal sensor t.toNat
    else s.setBoot { s.boot with hot := false })

/-- THERMAL_TRIP (R641): at 125 °C the part makes the power-fail writes and holds itself in cold reset. -/
def execThermalTrip (records : Nat) (s : State) : Host.Outcome State Fault Refusal :=
  .next (if s.host.inReset then s
    else
      let s := ((s.powerFail records).coldReset).setFld F.BOOT_CAUSE_CAUSE 0 causeThermal
      s.setBoot { s.boot with tripped := true, hot := true })

/-- THERMAL_RECOVER (R641): below 110 °C the part boots as after PORST_N rising, with BOOT_CAUSE 7. -/
def execThermalRecover (t : BitVec 16) (s : State) : Host.Outcome State Fault Refusal :=
  .next (if !s.boot.tripped || decide (110 * 16 ≤ t.toInt) then s
    else
      let s := s.setBoot { s.boot with tripped := false, hot := decide ((16 * s.fld F.GLB_TEMP_CFG_ALARM 0 : Nat) < t.toInt) }
      s.coldBoot causeThermal)

/-- XTAL_FAIL (R644): operating seconds are counted from the master clock until the crystal returns. -/
def execXtalFail (s : State) : Host.Outcome State Fault Refusal :=
  .next ((s.setFlag F.INS_XTAL_RUNNING 0 false).event Irq.INS_XTAL_FAIL 0 0)

/-- XTAL_RETURN (R644). -/
def execXtalReturn (s : State) : Host.Outcome State Fault Refusal := .next (s.setFlag F.INS_XTAL_RUNNING 0 true)

/-- PMBUS_POLL (R652, Table 18.13): what each regulator answers; one that does not acknowledge reads 0 and is told. -/
def execPmbusPoll (rails : List (Option (BitVec 32))) (s : State) : Host.Outcome State Fault Refusal :=
  .next (if !s.flag F.INS_PMBUS_CFG_EN 0 then s
    else (rails.take 8).zipIdx.foldl (fun (s : State) e =>
      let s := if e.2 = 0 then s.setRsl { s.rsl with noAck := e.1.isNone } else s
      match e.1 with
      | some w => s.setReg .INS_RAIL e.2 (w.setWidth 64)
      | none => (s.setReg .INS_RAIL e.2 0).awlUnstated .INS (awlArg e.2 0)) s)

/-! ### The endpoint (R617 to R620, R622, R627, R648) -/

/-- The endpoint is reset (R627): its MSI-X table, the queues' EN and the rings' EN. -/
def State.pcieReset (s : State) : State :=
  let s := { s with host := { s.host with msix := [], pba := [] } }
  let s := s.setReg .GLB_PCIE_STAT 0 0
  let s := (List.range 64).foldl (fun (s : State) q => s.setFlag F.NIM_Q_CFG_EN q false) s
  let s := (List.range 16).foldl (fun (s : State) r => (s.setFlag F.NPT_RXR_CFG_EN r false).setFlag F.NPT_TXR_CFG_EN r false) s
  s.showQueues

/-- PCIE_HOT_RESET (R627). -/
def execPcieHotReset (s : State) : Host.Outcome State Fault Refusal := .next (if s.host.inReset then s else s.pcieReset)

/-- PCIE_PERST (R648). -/
def execPciePerst (s : State) : Host.Outcome State Fault Refusal := .next (if s.host.inReset then s else s.pcieReset)

/-- MSIX_VECTOR_UNMASK (R622). -/
def execMsixVectorUnmask (v : Fin 256) (s : State) : Host.Outcome State Fault Refusal := .next (s.setMask v false)

/-- Whether BAR2 may be accessed: HOST_BAR2 set, and the frame store ready (R620). -/
def State.bar2Open (s : State) : Bool :=
  s.flag F.BOOT_PROT_HOST_BAR2 0 && !s.host.inReset &&
    [stageRestore, stageLanes, stageReplay, stageReady, stageWarmBoot].contains s.bootStage

/-- Whether an access to a page is refused (R620). -/
def State.bar2Refused (s : State) (page : Nat) (write : Bool) : Bool :=
  !s.bar2Open || decide (30393 ≤ page) || s.rsl.retired.contains page || (write && decide (page < (s.reg .ING_POOL_PAGES 0).toNat))

/-- A refused BAR2 access is counted and told. -/
def State.bar2Miss (s : State) : State := (s.count .GLB_BAR2_MISS 0 1).irq Irq.GLB_BAR2_MISS

/-- BAR2_ACCESS (R620): a write of bytes, or a read of 8; a page is 2 MiB. What a ring's page holds is a free value (log 5). -/
def execBar2Access (off : BitVec 36) (write : Option (List Byte)) (s : State) : Host.Outcome State Fault Refusal :=
  let a := off.toNat
  let n := match write with | some l => max l.length 1 | none => 8
  let bad := [a, a + n - 1].any fun x => s.bar2Refused (x / 2097152) write.isSome
  .next (match write with
    | some l =>
      if bad then s.bar2Miss
      else { s with frameStore := l.zipIdx.foldl (fun (t : Tbl Byte) e => Tbl.set (fun _ => 0) (a + e.2) e.1 t) s.frameStore }
    | none =>
      if bad then { s.bar2Miss with rdata := BitVec.allOnes 64 }
      else if a / 2097152 < (s.reg .ING_POOL_PAGES 0).toNat then { s with rdata := s.free }.drawFree
      else { s with rdata := BitVec.ofNat 64 ((List.range 8).foldl (fun v i => v + (Tbl.get (fun _ => 0) s.frameStore (a + i)).toNat * 256 ^ i) 0) })

end Sys2Proof.Machine
end

