-- ==== Sys2Proof/Machine/Accept.lean ====
section
/-! DEFINITION. Acceptance of work orders: Nimade words as acceptance reads them (R283 to R286), the effect classes (R240),
the checks of Table 06.7 and what each outcome does (R243 to R263). -/

namespace Sys2Proof.Machine

/-! ### Nimade words at acceptance (R243, R283 to R286, R291, R294) -/

/-- What acceptance makes of a word. -/
inductive WordUse where
  /-- An undefined word (R283, R284). -/
  | undefined
  /-- Permitted in journalled context. -/
  | allowed
  /-- Defined, and refused in journalled context (R243). -/
  | refused
  /-- A bld or bst that names an entry of the address table (R294). -/
  | load (ent : Nat)
  | save (ent : Nat)
  deriving DecidableEq, Repr, Inhabited

/-- Bits of an instruction word. -/
def wordBits (w : Word32) (lo len : Nat) : Nat := w.toNat / 2 ^ lo % 2 ^ len

/-- Whether the fields below bit 22 hold what Tables 07.2 to 07.6 define for an opcode: function codes, condition codes and
reserved fields (R283). -/
def fieldsDefined (op : Nat) (w : Word32) : Bool :=
  let f := wordBits w
  let zero := fun lo len => f lo len == 0
  match op with
  | 0x00 => decide (f 0 7 ≤ 21)
  | 0x05 => f 10 2 != 3 && zero 6 4
  | 0x07 => zero 16 1
  | 0x08 => decide (f 16 3 ≤ 5) && zero 0 6
  | 0x09 => decide (f 16 3 ≤ 5)
  | 0x0A => decide (f 16 3 ≤ 3) && zero 0 10
  | 0x12 => zero 17 5 && zero 0 12
  | 0x13 => zero 20 2
  | 0x18 | 0x19 => decide (f 9 3 ≤ 4)
  | 0x1A => decide (f 0 7 ≤ 2)
  | 0x20 | 0x21 => zero 0 6
  | 0x22 | 0x3E => zero 0 22
  | 0x29 => zero 1 6
  | 0x2A | 0x2B => zero 2 5 && (op == 0x2A || zero 1 1)
  | 0x2C => zero 0 7
  | 0x30 => decide (f 0 7 ≤ 3)
  | 0x31 => decide (f 0 7 ≤ 15)
  | 0x34 | 0x3C => zero 0 2
  | 0x35 => decide (f 0 7 ≤ 3)
  | 0x38 | 0x39 | 0x3A | 0x3D => zero 0 7
  | 0x3B => decide (f 0 7 ≤ 3)
  | 0x3F => decide (f 0 22 ≤ 1)
  | _ => true

/-- The opcodes of Table 07.2. -/
def opcodes : List Nat :=
  (List.range 0x0B) ++ [0x10, 0x11, 0x12, 0x13, 0x18, 0x19, 0x1A, 0x20, 0x21, 0x22, 0x28, 0x29, 0x2A, 0x2B, 0x2C, 0x30, 0x31, 0x34, 0x35,
    0x38, 0x39, 0x3A, 0x3B, 0x3C, 0x3D, 0x3E, 0x3F]

/-- The use that a journalled program may make of a word. -/
def wordUse (w : Word32) : WordUse :=
  let op := wordBits w 22 6
  if (wordBits w 29 3 == 0 && wordBits w 28 1 == 1) || !opcodes.contains op || !fieldsDefined op w then .undefined
  else
    let sp := wordBits w 9 3
    match op with
    | 0x18 => if sp = 2 ∨ sp = 3 then .refused else .allowed
    | 0x19 => if sp = 0 then .allowed else .refused
    | 0x20 => .load (wordBits w 7 5)
    | 0x21 => .save (wordBits w 7 5)
    | 0x1A | 0x34 | 0x39 | 0x3B | 0x3C | 0x3D => .refused
    | _ => .allowed

/-! ### Bodies (R247, Table 06.5) -/

/-- n bytes of a memory from an address, little-endian. -/
def bodyBytes (t : Tbl Byte) (a n : Nat) : Nat :=
  ((List.range n).map (a + ·)).foldr (fun i x => (Tbl.get (fun _ => 0) t i).toNat + 256 * x) 0

/-- An address table entry: BASE, STRIDE, COUNT and MODE. -/
structure AtabEntry where
  base : Nat
  stride : Nat
  count : Nat
  mode : Nat
  deriving DecidableEq, Repr, Inhabited

/-- Entry n of a body's address table. -/
def atabEntry (body : Tbl Byte) (n : Nat) : AtabEntry :=
  let w := bodyBytes body (4 + 8 * n) 8
  ⟨w / 2 ^ 36, w / 2 ^ 24 % 2 ^ 12, w / 2 ^ 8 % 2 ^ 16, w % 4⟩

/-- The address table of a body. -/
def atabOf (body : Tbl Byte) : List AtabEntry := (List.range (bodyAtab body)).map (atabEntry body)

/-- The byte at which the program starts. -/
def progBase (body : Tbl Byte) : Nat := 4 + 8 * bodyAtab body

/-- Word n of a body's program. -/
def progWord (body : Tbl Byte) (n : Nat) : Word32 := BitVec.ofNat 32 (bodyBytes body (progBase body + 4 * n) 4)

/-- Whether a body of a length has a header and address table that R247 accepts. -/
def bodyOk (body : Tbl Byte) (len : Nat) : Bool :=
  decide (1 ≤ bodyWords body) && decide (bodyWords body ≤ 1024) && bodyHeader body % 65536 == 0 &&
    decide (progBase body + 4 * bodyWords body ≤ len) &&
    (List.range (bodyAtab body)).all fun n =>
      let e := atabEntry body n
      (e.mode == 1 || e.mode == 2) && e.stride % 4 == 0 && decide (1 ≤ e.count) && bodyBytes body (4 + 8 * n) 1 / 4 == 0

/-- The addresses that an entry covers. -/
def AtabEntry.covers (e : AtabEntry) : List Nat := (List.range e.count).map fun i => e.base + e.stride * i

/-! ### Effect classes (R240, Table 06.3) -/

/-- The effect classes. -/
inductive EffClass where
  | const | set | live | count | action
  deriving DecidableEq, Repr, Inhabited

/-- The identity and capability registers. -/
def idRegs : List Reg :=
  [.GLB_ID, .GLB_CHIP, .GLB_SERIAL, .TWL_CAPS, .ING_CAPS, .EGR_CAPS, .NIM_CAPS, .TWD_CAPS, .ASP_CAPS, .VMP_CAPS, .LST_CAPS, .NTM_CAPS,
    .WLT_CAPS, .NPT_CAPS, .RSL_CAPS, .AWL_CAPS, .SET_CAPS, .UPD_CAPS, .INS_CAPS]

/-- The class of a register. -/
def Reg.effClass (r : Reg) : EffClass :=
  if actionRegs.contains r then .action
  else match r.info.acc with
    | .RW => .set
    | .RWB => .const
    | .RO => if idRegs.contains r then .const else .live
    | .RC => .count
    | .WO | .W1C => .action

/-- The class of a BAR0 address; none at a reserved offset. -/
def classAt (a : Nat) : Option EffClass :=
  match winAt a with
  | some w => some (if w.isSet then .set else .live)
  | none => (Reg.ofAddr a).map fun x => x.1.effClass

/-! ### The checks (Table 06.7) -/

/-- Check 3 beyond SEQ: the flags, the affinity, and a body of 4 to 8,192 bytes in whole words that is fetched and has a good
header (R246, R247). -/
def orderArgs (flags : Nat) (aff : BitVec 32) (body : Option (List Byte)) : Bool :=
  let a := aff.toNat
  decide (flags < 2) && a / 2 ^ 30 != 3 && a / 2 ^ 17 % 2 ^ 13 == 0 &&
    match body with
    | none => false
    | some l => decide (4 ≤ l.length) && decide (l.length ≤ (if flags = 1 then 32 else 8192)) && l.length % 4 == 0 && bodyOk (bodyTbl l) l.length

/-- Check 5: the program meets R243, R291 and R294. -/
def programCheck (kind : Nat) (body : Tbl Byte) : Status :=
  let uses := (List.range (bodyWords body)).map fun n => wordUse (progWord body n)
  let tab := atabOf body
  let mode := fun n => (tab[n]?.map (·.mode)).getD 0
  let bad := fun (u : WordUse) => match u with
    | .refused => true
    | .load n => mode n != 1
    | .save n => mode n != 2
    | _ => false
  let at_ := fun m => (tab.filter fun (e : AtabEntry) => e.mode == m).flatMap AtabEntry.covers
  if uses.contains .undefined then .BAD_ARG
  else if uses.any bad || (kind == 1 && !tab.isEmpty) ||
      (at_ 2).any (fun a => classAt a != some .set) ||
      (at_ 1).any (fun a => classAt a != some .set && classAt a != some .const) ||
      (at_ 2).any (at_ 1).contains then .REFUSED_POLICY
  else .OK

/-- A new entry of this part (R254 to R257). -/
def State.newEntry (s : State) (seq : Nat) (inline_ : Bool) (aff : BitVec 32) (body : List Byte) (tag : Nat) (queue : Option Nat) :
    JEntry :=
  { (default : JEntry) with
    key := ⟨s.domainId, seq, 0⟩, sideB := s.sideB, mirrored := s.mirrored, alone := s.mirrored && s.partnerLost, inline_ := inline_,
    affinity := aff.toNat / 2 ^ 30, dest := aff.toNat % 2 ^ 17, time := s.journalNow, tb1 := s.acceptTb 1, tb2 := s.acceptTb 2,
    tb3 := s.acceptTb 3, len := body.length, body := bodyTbl body, tag := tag, queue := queue, awaiting := s.paired }

/-- Checks 5 and 6, and what an order that passes them does: the entry is written, and sent to the partner, whose reply
completes check 7 (R259, R262). -/
def State.acceptOrder (s : State) (e : JEntry) : Except Status State :=
  match programCheck e.affinity e.body with
  | .OK =>
    if (s.freeRun e.slots).isNone || s.deltasFull then .error .BUSY
    else
      let s := s.journalEntry e
      .ok (if e.awaiting then match s.entry e.key with
          | some e => s.emit (.mirror e)
          | none => s
        else s.ackEntry e.key e.alone)
  | st => .error st

/-- A duplicate of a retained entry: ACK with DUPLICATE, and DONE with its recorded status when it is COMPLETE (check 4). -/
def State.duplicate (s : State) (q : Nat) (e : JEntry) (tag : Nat) : State :=
  let seq := e.key.seq
  let s := (s.count .NIM_DUP 0 1).postAck q { cqRecord (.ack .OK) seq tag with dup := true, alone := e.alone }
  if e.phase = .complete ∧ e.donePosted = true then
    s.writeCq q { cqRecord (.done e.final) seq tag with trap := e.trap, pc := e.pcAt, replayed := e.replayed, alone := e.alone }
  else
    let s := s.setFld F.NIM_Q_STAT_OPEN q (s.fld F.NIM_Q_STAT_OPEN q + 1)
    match e.queue with
    | some _ => s.setEntry e.key fun e => { e with dups := e.dups ++ [tag] }
    | none => s.setEntry e.key fun e => { e with queue := some q, tag := tag, donePosted := false }

/-- Whether queue q takes its next entry (R249, R251, R253, R271). -/
def State.queueReady (s : State) (q : Nat) : Bool :=
  s.flag F.NIM_Q_CFG_EN q && s.fld F.NIM_SQ_HEAD_INDEX q % s.qSize q != s.fld F.NIM_SQ_TAIL_INDEX q % s.qSize q &&
    !s.holdsWork && s.cqRoom q && !s.nim.journal.any (fun (e : JEntry) => e.queue == some q && e.awaiting) &&
    s.bootStage == stageReady && !s.boot.warmHeld

/-- Queue q takes the entry at its head: the checks of Table 06.7 in their order. -/
def State.takeSqe (s : State) (q : Nat) (e : Sqe) : State :=
  let s := s.setFld F.NIM_SQ_HEAD_INDEX q ((s.fld F.NIM_SQ_HEAD_INDEX q + 1) % s.qSize q)
  let refuse := fun st => s.refusedOrder q e.seq e.tag st
  if s.fenced then refuse .FENCED
  else if !s.flag F.NIM_CTRL_EN 0 then refuse .DRAINING
  else if e.seq / 2 ^ 57 ≠ q ∨ e.seq % 2 ^ 57 = 0 ∨ orderArgs e.flags e.affinity e.body = false then refuse .BAD_ARG
  else if e.seq % 2 ^ 57 ≤ s.hwmOf q then
    match s.entry ⟨s.domainId, e.seq, 0⟩ with
    | some x => s.duplicate q x e.tag
    | none => refuse .STALE_SEQ
  else match s.acceptOrder (s.newEntry e.seq (e.flags == 1) e.affinity (e.body.getD []) e.tag (some q)) with
    | .ok s => s
    | .error st => refuse st

/-- SUBMISSION_ACCEPT (R251 to R253, R259, R262): a queue takes its next entry, as it has been fetched from host memory. -/
def execSubmissionAccept (q : Fin 64) (e : Sqe) (s : State) : Host.Outcome State Fault Refusal :=
  .next (if s.queueReady q then ((s.takeSqe q e).showQueue q) else s.showQueue q)

end Sys2Proof.Machine
end

