-- ==== Sys2Proof/Machine/Cobbler.lean ====
section
/-! DEFINITION. The Cobbler cores: how an instruction issues and traps (R283 to R288), and the integer, predicate, branch,
memory and block-bus instructions (R289 to R295, Tables 07.3 to 07.5). -/

namespace Sys2Proof.Machine

/-! ### Issue (R284, R287) -/

/-- How an instruction issues: an integer instruction (some false), a ld, st, bld or bst (some true) or one that issues alone
(none); the registers it reads (0 to 31, predicates 32 to 39, st 40); and the cycles it occupies. -/
structure Issue where
  cls : Option Bool
  reads : List Nat
  cost : Nat
  deriving DecidableEq, Repr, Inhabited

/-- The number that stands for no register written. -/
def noReg : Nat := 41

/-- The cycle in which an instruction issues, and whether it joins the one before it (R287). -/
def NimCtx.slotFor (c : NimCtx) (pg : Nat) (i : Issue) : Nat × Bool :=
  let srcs := (32 + pg) :: i.reads
  let rdy := srcs.foldl (fun a r => max a (Tbl.get (fun _ => 0) c.pipe.ready r)) 0
  let alone := (max (c.pipe.last + 1) rdy, false)
  match c.pipe.open_, i.cls with
  | some (m, w), some n => if !(m && n) && decide (rdy ≤ c.pipe.last) && !srcs.contains w then (c.pipe.last, true) else alone
  | _, _ => alone

/-- The context once an instruction has issued, which writes a register after a latency: the pc moves on. -/
def NimCtx.issue (c : NimCtx) (pg : Nat) (i : Issue) (w lat : Nat) : NimCtx :=
  let t := c.slotFor pg i
  let w := if w = 0 ∨ w = 32 then noReg else w
  { c with
    pc := c.pc + 1
    pipe := ⟨max c.pipe.last (t.1 + i.cost - 1), if t.2 then none else i.cls.map fun m => (m, w),
      if w = noReg then c.pipe.ready else Tbl.set (fun _ => 0) w (t.1 + lat) c.pipe.ready⟩ }

/-- A guard that is false: one cycle and no other effect (R284). -/
def skipIssue : Issue := ⟨none, [], 1⟩

/-- The words of an instruction space (R290). -/
def State.spaceWords (s : State) (c : NimCtx) (space : Nat) : Nat :=
  if space = 4 then match c.entry with
    | some k => match s.entry k with | some e => bodyWords e.body | none => 0
    | none => 0
  else if space = 1 ∨ (space = 2 ∧ c.entry = none) then 2 ^ 20
  else 0

/-- Whether the budget of R270 is exhausted by an instruction. -/
def State.overBudget (s : State) (c : NimCtx) (pg : Nat) (i : Issue) : Bool :=
  c.entry.isSome && decide (s.fld F.NIM_EXEC_CFG_BUDGET 0 < (c.slotFor pg i).1 + i.cost - 1)

/-- Execute one instruction on the context that a core runs: nothing where none runs; a trap outside the program, on an
undefined word or past the budget; nothing but a cycle where the guard is false; else its effect or its trap. -/
def State.onCore (s : State) (a : NimAt) (undef : Bool) (i : NimCtx → Issue) (k : Nat → NimCtx → Except Trap State) : State :=
  match s.runningOn a.core with
  | none => s
  | some x =>
    let c := s.ctx x
    if s.spaceWords c c.space ≤ c.pc then s.trapCtx x .space
    else if (a.pg.val == 0 && a.neg) || undef then s.trapCtx x .illegal
    else if c.pred a.pg == a.neg then
      if s.overBudget c a.pg skipIssue then s.trapCtx x .budget else s.setCtx x (c.issue a.pg skipIssue noReg 0)
    else if s.overBudget c a.pg (i c) then s.trapCtx x .budget
    else match k x c with
      | .ok s => s
      | .error t => s.trapCtx x t

/-! ### Integer and predicate instructions (R289, Table 07.3) -/

/-- An integer instruction: it reads registers and writes one, after a latency. -/
def State.alu (s : State) (a : NimAt) (undef : Bool) (reads : List Nat) (rd lat : Nat) (f : NimCtx → Word) : State :=
  let i : Issue := ⟨some false, reads, 1⟩
  s.onCore a undef (fun _ => i) fun x c => .ok (s.setCtx x ((c.issue a.pg i rd lat).setReg rd (f c)))

/-- An instruction that writes a predicate. -/
def State.alup (s : State) (a : NimAt) (undef : Bool) (reads : List Nat) (pd : Nat) (f : NimCtx → Bool) : State :=
  let i : Issue := ⟨some false, reads, 1⟩
  s.onCore a undef (fun _ => i) fun x c => .ok (s.setCtx x ((c.issue a.pg i (32 + pd) 1).setPred pd (f c)))

/-- A two-operand integer instruction. -/
def State.alu2 (s : State) (a : NimAt) (rd ra rb : Fin 32) (lat : Nat) (f : Word → Word → Word) : State :=
  s.alu a false [ra, rb] rd lat fun c => f (c.reg ra) (c.reg rb)

/-- A one-operand integer instruction. -/
def State.alu1 (s : State) (a : NimAt) (undef : Bool) (rd ra : Fin 32) (f : Word → Word) : State :=
  s.alu a undef [ra] rd 1 fun c => f (c.reg ra)

/-- The amount of a shift by register: the low 6 bits (R289). -/
def shamt (b : Word) : Nat := b.toNat % 64

/-- Leading zeros of a word. -/
def clz64 (v : Word) : Nat := match (List.range 64).find? fun i => v.getLsbD (63 - i) with | some i => i | none => 64

/-- A condition code (R289); codes 6 and 7 are undefined. -/
def condition (cc : Nat) (a b : Word) : Bool :=
  match cc with
  | 0 => a == b
  | 1 => a != b
  | 2 => a.slt b
  | 3 => !a.slt b
  | 4 => decide (a.toNat < b.toNat)
  | _ => decide (b.toNat ≤ a.toNat)

/-- ADD (R289). -/
def execNimAdd (a : NimAt) (rd ra rb : Fin 32) (s : State) : Host.Outcome State Fault Refusal := .next (s.alu2 a rd ra rb 1 fun x y => x + y)
/-- SUB (R289). -/
def execNimSub (a : NimAt) (rd ra rb : Fin 32) (s : State) : Host.Outcome State Fault Refusal := .next (s.alu2 a rd ra rb 1 fun x y => x - y)
/-- AND (R289). -/
def execNimAnd (a : NimAt) (rd ra rb : Fin 32) (s : State) : Host.Outcome State Fault Refusal := .next (s.alu2 a rd ra rb 1 fun x y => x &&& y)
/-- OR (R289). -/
def execNimOr (a : NimAt) (rd ra rb : Fin 32) (s : State) : Host.Outcome State Fault Refusal := .next (s.alu2 a rd ra rb 1 fun x y => x ||| y)
/-- XOR (R289). -/
def execNimXor (a : NimAt) (rd ra rb : Fin 32) (s : State) : Host.Outcome State Fault Refusal := .next (s.alu2 a rd ra rb 1 fun x y => x ^^^ y)
/-- SLL (R289). -/
def execNimSll (a : NimAt) (rd ra rb : Fin 32) (s : State) : Host.Outcome State Fault Refusal :=
  .next (s.alu2 a rd ra rb 1 fun x y => x <<< shamt y)
/-- SRL (R289). -/
def execNimSrl (a : NimAt) (rd ra rb : Fin 32) (s : State) : Host.Outcome State Fault Refusal :=
  .next (s.alu2 a rd ra rb 1 fun x y => x >>> shamt y)
/-- SRA (R289). -/
def execNimSra (a : NimAt) (rd ra rb : Fin 32) (s : State) : Host.Outcome State Fault Refusal :=
  .next (s.alu2 a rd ra rb 1 fun x y => x.sshiftRight (shamt y))
/-- MUL (R289): the low 64 bits of the product. -/
def execNimMul (a : NimAt) (rd ra rb : Fin 32) (s : State) : Host.Outcome State Fault Refusal := .next (s.alu2 a rd ra rb 3 fun x y => x * y)
/-- MULHU (R289): the high 64 bits of the unsigned product. -/
def execNimMulhu (a : NimAt) (rd ra rb : Fin 32) (s : State) : Host.Outcome State Fault Refusal :=
  .next (s.alu2 a rd ra rb 3 fun x y => BitVec.ofNat 64 (x.toNat * y.toNat / 2 ^ 64))
/-- DIVU (R289): all ones on division by zero. -/
def execNimDivu (a : NimAt) (rd ra rb : Fin 32) (s : State) : Host.Outcome State Fault Refusal :=
  .next (s.alu2 a rd ra rb 34 fun x y => if y = 0 then BitVec.allOnes 64 else BitVec.ofNat 64 (x.toNat / y.toNat))
/-- REMU (R289): g[ra] on division by zero. -/
def execNimRemu (a : NimAt) (rd ra rb : Fin 32) (s : State) : Host.Outcome State Fault Refusal :=
  .next (s.alu2 a rd ra rb 34 fun x y => if y = 0 then x else BitVec.ofNat 64 (x.toNat % y.toNat))
/-- MINU (R289). -/
def execNimMinu (a : NimAt) (rd ra rb : Fin 32) (s : State) : Host.Outcome State Fault Refusal :=
  .next (s.alu2 a rd ra rb 1 fun x y => if x.ult y then x else y)
/-- MAXU (R289). -/
def execNimMaxu (a : NimAt) (rd ra rb : Fin 32) (s : State) : Host.Outcome State Fault Refusal :=
  .next (s.alu2 a rd ra rb 1 fun x y => if x.ult y then y else x)
/-- MIN (R289). -/
def execNimMin (a : NimAt) (rd ra rb : Fin 32) (s : State) : Host.Outcome State Fault Refusal :=
  .next (s.alu2 a rd ra rb 1 fun x y => if x.slt y then x else y)
/-- MAX (R289). -/
def execNimMax (a : NimAt) (rd ra rb : Fin 32) (s : State) : Host.Outcome State Fault Refusal :=
  .next (s.alu2 a rd ra rb 1 fun x y => if x.slt y then y else x)
/-- SXB (R289). -/
def execNimSxb (a : NimAt) (rd ra : Fin 32) (s : State) : Host.Outcome State Fault Refusal :=
  .next (s.alu1 a false rd ra fun x => (x.setWidth 8).signExtend 64)
/-- SXH (R289). -/
def execNimSxh (a : NimAt) (rd ra : Fin 32) (s : State) : Host.Outcome State Fault Refusal :=
  .next (s.alu1 a false rd ra fun x => (x.setWidth 16).signExtend 64)
/-- SXW (R289). -/
def execNimSxw (a : NimAt) (rd ra : Fin 32) (s : State) : Host.Outcome State Fault Refusal :=
  .next (s.alu1 a false rd ra fun x => (x.setWidth 32).signExtend 64)
/-- CLZ (R289). -/
def execNimClz (a : NimAt) (rd ra : Fin 32) (s : State) : Host.Outcome State Fault Refusal :=
  .next (s.alu1 a false rd ra fun x => BitVec.ofNat 64 (clz64 x))
/-- POPC (R289). -/
def execNimPopc (a : NimAt) (rd ra : Fin 32) (s : State) : Host.Outcome State Fault Refusal :=
  .next (s.alu1 a false rd ra fun x => BitVec.ofNat 64 (popCount 64 x.toNat))
/-- RDST (R289): st, zero-extended. -/
def execNimRdst (a : NimAt) (rd : Fin 32) (s : State) : Host.Outcome State Fault Refusal :=
  .next (s.alu a false [40] rd 1 fun c => c.st.setWidth 64)
/-- ADDI (R285, R289): the immediate is sign-extended. -/
def execNimAddi (a : NimAt) (rd ra : Fin 32) (imm : BitVec 12) (s : State) : Host.Outcome State Fault Refusal :=
  .next (s.alu1 a false rd ra fun x => x + imm.signExtend 64)
/-- ANDI (R289): the immediate is zero-extended. -/
def execNimAndi (a : NimAt) (rd ra : Fin 32) (imm : BitVec 12) (s : State) : Host.Outcome State Fault Refusal :=
  .next (s.alu1 a false rd ra fun x => x &&& imm.setWidth 64)
/-- ORI (R289). -/
def execNimOri (a : NimAt) (rd ra : Fin 32) (imm : BitVec 12) (s : State) : Host.Outcome State Fault Refusal :=
  .next (s.alu1 a false rd ra fun x => x ||| imm.setWidth 64)
/-- XORI (R289). -/
def execNimXori (a : NimAt) (rd ra : Fin 32) (imm : BitVec 12) (s : State) : Host.Outcome State Fault Refusal :=
  .next (s.alu1 a false rd ra fun x => x ^^^ imm.setWidth 64)
/-- SLLI (R289): bits 9:6 of the immediate are reserved. -/
def execNimSlli (a : NimAt) (rd ra : Fin 32) (imm : BitVec 10) (s : State) : Host.Outcome State Fault Refusal :=
  .next (s.alu1 a (decide (64 ≤ imm.toNat)) rd ra fun x => x <<< imm.toNat)
/-- SRLI (R289). -/
def execNimSrli (a : NimAt) (rd ra : Fin 32) (imm : BitVec 10) (s : State) : Host.Outcome State Fault Refusal :=
  .next (s.alu1 a (decide (64 ≤ imm.toNat)) rd ra fun x => x >>> imm.toNat)
/-- SRAI (R289). -/
def execNimSrai (a : NimAt) (rd ra : Fin 32) (imm : BitVec 10) (s : State) : Host.Outcome State Fault Refusal :=
  .next (s.alu1 a (decide (64 ≤ imm.toNat)) rd ra fun x => x.sshiftRight imm.toNat)
/-- LDI (R289): a 17-bit signed immediate. -/
def execNimLdi (a : NimAt) (rd : Fin 32) (imm : BitVec 17) (s : State) : Host.Outcome State Fault Refusal :=
  .next (s.alu a false [] rd 1 fun _ => imm.signExtend 64)
/-- LDK (R289): bit 16 of the immediate is reserved. -/
def execNimLdk (a : NimAt) (rd : Fin 32) (imm : BitVec 17) (s : State) : Host.Outcome State Fault Refusal :=
  .next (s.alu a (imm.getLsbD 16) [rd.val] rd 1 fun c => (c.reg rd <<< 16) ||| (imm.setWidth 16).setWidth 64)
/-- CMP (R289). -/
def execNimCmp (a : NimAt) (pd cc : Fin 8) (ra rb : Fin 32) (s : State) : Host.Outcome State Fault Refusal :=
  .next (s.alup a (decide (6 ≤ cc.val)) [ra.val, rb.val] pd fun c => condition cc (c.reg ra) (c.reg rb))
/-- CMPI (R289): the immediate is sign-extended. -/
def execNimCmpi (a : NimAt) (pd cc : Fin 8) (ra : Fin 32) (imm : BitVec 11) (s : State) : Host.Outcome State Fault Refusal :=
  .next (s.alup a (decide (6 ≤ cc.val)) [ra.val] pd fun c => condition cc (c.reg ra) (imm.signExtend 64))
/-- A predicate operation on two predicates. -/
def State.plog (s : State) (a : NimAt) (pd pa pb : Fin 8) (f : Bool → Bool → Bool) : State :=
  s.alup a false [32 + pa.val, 32 + pb.val] pd fun c => f (c.pred pa) (c.pred pb)
/-- PAND (R289). -/
def execNimPand (a : NimAt) (pd pa pb : Fin 8) (s : State) : Host.Outcome State Fault Refusal := .next (s.plog a pd pa pb fun x y => x && y)
/-- POR (R289). -/
def execNimPor (a : NimAt) (pd pa pb : Fin 8) (s : State) : Host.Outcome State Fault Refusal := .next (s.plog a pd pa pb fun x y => x || y)
/-- PXOR (R289). -/
def execNimPxor (a : NimAt) (pd pa pb : Fin 8) (s : State) : Host.Outcome State Fault Refusal := .next (s.plog a pd pa pb fun x y => x != y)
/-- PANDN (R289): p[pa] and not p[pb]. -/
def execNimPandn (a : NimAt) (pd pa pb : Fin 8) (s : State) : Host.Outcome State Fault Refusal := .next (s.plog a pd pa pb fun x y => x && !y)

/-! ### Branches (R290, Table 07.4) -/

/-- The link to the word after a context's pc (R290). -/
def NimCtx.link (c : NimCtx) : Word := BitVec.ofNat 64 (c.space * 2 ^ 61 + (c.pc + 1) % 2 ^ 32)

/-- A taken branch to a space and word: outside the space it traps with SPACE. -/
def State.branch (s : State) (a : NimAt) (undef : Bool) (reads : List Nat) (cost : Nat) (link : Bool) (f : NimCtx → Nat × Int) : State :=
  let i : Issue := ⟨none, reads, cost⟩
  s.onCore a undef (fun _ => i) fun x c =>
    let t := f c
    if t.2 < 0 ∨ (s.spaceWords c t.1 : Int) ≤ t.2 then .error .space
    else
      let d := c.issue a.pg i (if link then 31 else noReg) cost
      let d := if link then d.setReg 31 c.link else d
      .ok (s.setCtx x { d with
        pc := t.2.toNat
        space := t.1 })

/-- BR (R290). -/
def execNimBr (a : NimAt) (off : BitVec 22) (s : State) : Host.Outcome State Fault Refusal :=
  .next (s.branch a false [] 3 false fun c => (c.space, c.pc + off.toInt))
/-- CALL (R290). -/
def execNimCall (a : NimAt) (off : BitVec 22) (s : State) : Host.Outcome State Fault Refusal :=
  .next (s.branch a false [] 3 true fun c => (c.space, c.pc + off.toInt))
/-- JR (R290): fields rd, rb and fn are reserved (log 68). -/
def execNimJr (a : NimAt) (rd ra rb : Fin 32) (fn : BitVec 7) (s : State) : Host.Outcome State Fault Refusal :=
  .next (s.branch a (rd.val != 0 || rb.val != 0 || fn != 0) [ra] 3 false fun c =>
    let l := (c.reg ra).toNat
    if l / 2 ^ 32 % 2 ^ 29 = 0 then (l / 2 ^ 61, (l % 2 ^ 32 : Nat)) else (0, 0))
/-- LCALL (R290): bits 21:20 are reserved. -/
def execNimLcall (a : NimAt) (off : BitVec 22) (s : State) : Host.Outcome State Fault Refusal :=
  .next (s.branch a (decide (2 ^ 20 ≤ off.toNat)) [] 4 true fun _ => (1, (off.toNat : Nat)))

/-! ### Memory (R234, R291 to R293, Table 07.5) -/

/-- Write n bytes of a number at an address, little-endian. -/
def setBytes (t : Tbl Byte) (a n v : Nat) : Tbl Byte :=
  (List.range n).foldl (fun (t : Tbl Byte) i => Tbl.set (fun _ => 0) (a + i) (BitVec.ofNat 8 (v / 256 ^ i)) t) t

/-- Write a list of bytes at an address. -/
def putBytes (t : Tbl Byte) (a : Nat) (l : List Byte) : Tbl Byte :=
  l.zipIdx.foldl (fun (t : Tbl Byte) e => Tbl.set (fun _ => 0) (a + e.2) e.1 t) t

/-- The body and length of the order that a context runs. -/
def State.bodyOf (s : State) (c : NimCtx) : Tbl Byte × Nat :=
  match c.entry with
  | some k => match s.entry k with | some e => (e.body, e.len) | none => ([], 0)
  | none => ([], 0)

/-- The trap of an access to a space, none where it is permitted: the permission, the alignment, then the bounds (R234, R291,
R292). -/
def State.memTrap (s : State) (c : NimCtx) (store : Bool) (sp addr size align : Nat) : Option Trap :=
  let order := c.entry.isSome
  let ok := match sp with
    | 0 => true
    | 1 => !store
    | 2 | 3 => !order
    | 4 => order && !store
    | _ => false
  if !ok then some .space
  else if addr % align ≠ 0 then some .align
  else match sp with
    | 0 => if 8192 < addr + size then some .stack else none
    | 3 =>
      if size < 4 then some .align
      else if 2 ^ 28 < addr + size then some .space
      else if size = 8 ∧ wideAt addr = false then some .align
      else none
    | 4 => if (s.bodyOf c).2 < addr + size then some .space else none
    | _ => if 2 ^ 22 < addr + size then some .space else none

/-- The bytes of LOCAL, LIBRARY, SHARED or ORDER as a number. -/
def State.memRead (s : State) (c : NimCtx) (sp addr n : Nat) : Nat :=
  match sp with
  | 0 => bodyBytes c.loc addr n
  | 1 => bodyBytes s.nim.sram addr n
  | 2 => bodyBytes s.nim.sram (4194304 + addr) n
  | _ => bodyBytes (s.bodyOf c).1 addr n

/-- The alignment that an access of a size needs: ORDER needs 4 bytes at most (R291). -/
def alignFor (sp size : Nat) : Nat := if sp = 4 then min size 4 else size

/-- The address g[ra] + off7 × size. -/
def memAddr (c : NimCtx) (ra : Fin 32) (off : BitVec 7) (size : Nat) : Nat := (c.reg ra + BitVec.ofInt 64 (off.toInt * size)).toNat

/-- The latency of a BLOCK load: a free value from 40 to 200 cycles (R239). -/
def State.busLatency (s : State) : Nat := 40 + s.free.toNat % 161

/-- The latency of a ld from a space (Table 07.5). -/
def ldLatency (sp : Nat) : Nat := match sp with | 0 => 2 | 2 => 12 | _ => 4

/-- LD (R291, R292). -/
def execNimLd (a : NimAt) (rd ra : Fin 32) (sp : Fin 8) (sz : Fin 4) (off : BitVec 7) (s : State) : Host.Outcome State Fault Refusal :=
  let i : Issue := ⟨some true, [ra.val], 1⟩
  let size := 2 ^ sz.val
  .next (s.onCore a (decide (5 ≤ sp.val)) (fun _ => i) fun x c =>
    let at_ := memAddr c ra off size
    match s.memTrap c false sp at_ size (alignFor sp size) with
    | some t => .error t
    | none =>
      if sp.val = 3 then
        let t := s.drawFree.busRead .work at_ sz
        .ok (t.setCtx x ((c.issue a.pg i rd s.busLatency).setReg rd t.rdata))
      else .ok (s.setCtx x ((c.issue a.pg i rd (ldLatency sp)).setReg rd (BitVec.ofNat 64 (s.memRead c sp at_ size)))))

/-- Whether a service may store to a BAR0 address: a NIM_ register of class SET, or a reserved offset, where the store is
discarded (R244, R292). -/
def svcStores (a : Nat) : Bool :=
  match winAt a, Reg.ofAddr a with
  | some _, _ => false
  | none, none => true
  | none, some (r, _, _) => r.info.blk == .NIM && r.isSet

/-- ST (R244, R291, R292). -/
def execNimSt (a : NimAt) (rd ra : Fin 32) (sp : Fin 8) (sz : Fin 4) (off : BitVec 7) (s : State) : Host.Outcome State Fault Refusal :=
  let i : Issue := ⟨some true, [ra.val, rd.val], 1⟩
  let size := 2 ^ sz.val
  .next (s.onCore a (decide (5 ≤ sp.val)) (fun _ => i) fun x c =>
    let at_ := memAddr c ra off size
    let v := (c.reg rd).toNat % 2 ^ (8 * size)
    let d := c.issue a.pg i noReg 0
    match s.memTrap c true sp at_ size (alignFor sp size) with
    | some t => .error t
    | none => match sp.val with
      | 0 => .ok (s.setCtx x { d with loc := setBytes c.loc at_ size v })
      | 2 => .ok ({ s with nim := { s.nim with sram := setBytes s.nim.sram (4194304 + at_) size v } }.setCtx x d)
      | _ =>
        if !svcStores at_ then .error .space
        else .ok ((s.setCtx x d).busWrite .mgmt default at_ sz (BitVec.ofNat 64 v)))

/-- An atomic operation on a SHARED doubleword, in service context only (R293). -/
def State.amo (s : State) (a : NimAt) (reads : List Nat) (rd ra rb : Fin 32) (f : Word → Word → Word → Word) : State :=
  let i : Issue := ⟨none, reads, 20⟩
  s.onCore a false (fun _ => i) fun x c =>
    let at_ := (c.reg ra).toNat
    match s.memTrap c true 2 at_ 8 8 with
    | some t => .error t
    | none =>
      let old := BitVec.ofNat 64 (s.memRead c 2 at_ 8)
      let new := f old (c.reg rb) (c.reg rd)
      .ok ({ s with nim := { s.nim with sram := setBytes s.nim.sram (4194304 + at_) 8 new.toNat } }.setCtx x
        ((c.issue a.pg i rd 20).setReg rd old))

/-- AMO_ADD (R293). -/
def execNimAmoAdd (a : NimAt) (rd ra rb : Fin 32) (s : State) : Host.Outcome State Fault Refusal := .next (s.amo a [ra.val, rb.val] rd ra rb fun old b _ => old + b)
/-- AMO_SWAP (R293). -/
def execNimAmoSwap (a : NimAt) (rd ra rb : Fin 32) (s : State) : Host.Outcome State Fault Refusal := .next (s.amo a [ra.val, rb.val] rd ra rb fun _ b _ => b)
/-- AMO_CAS (R293): stores g[rb] when the doubleword equals g[rd]. -/
def execNimAmoCas (a : NimAt) (rd ra rb : Fin 32) (s : State) : Host.Outcome State Fault Refusal :=
  .next (s.amo a [ra.val, rb.val, rd.val] rd ra rb fun old b d => if old = d then b else old)

/-! ### The block bus through the address table (R241, R294, R295) -/

/-- The BAR0 address of an access through an entry of the running order's address table, or its trap. -/
def State.tableAddr (s : State) (c : NimCtx) (store : Bool) (ent : Nat) (index : Word) (size : Nat) : Except Trap Nat :=
  match c.entry with
  | none => .error .space
  | some _ =>
    let body := (s.bodyOf c).1
    let e := atabEntry body ent
    let at_ := e.base + e.stride * index.toNat
    if bodyAtab body ≤ ent ∨ e.mode ≠ (if store then 2 else 1) then .error .space
    else if e.count ≤ index.toNat then .error .range
    else if at_ % size ≠ 0 ∨ (size = 8 ∧ wideAt at_ = false) then .error .align
    else .ok at_

/-- The bits of a SET register that a journalled load sees: RO fields read as 0 (Table 06.3). -/
def journalMask (a : Nat) : Word :=
  match winAt a, Reg.ofAddr a with
  | none, some (r, _, high) =>
    if r.effClass = .set then (if high then BitVec.ofNat 64 r.info.mask >>> 32 else BitVec.ofNat 64 r.info.mask) else BitVec.allOnes 64
  | _, _ => BitVec.allOnes 64

/-- BLD (R237, R241, R294). -/
def execNimBld (a : NimAt) (rd ri ent : Fin 32) (wide : Bool) (s : State) : Host.Outcome State Fault Refusal :=
  let i : Issue := ⟨some true, [ri.val], 1⟩
  .next (s.onCore a false (fun _ => i) fun x c =>
    match s.tableAddr c false ent (c.reg ri) (if wide then 8 else 4) with
    | .error t => .error t
    | .ok at_ =>
      let t := s.drawFree.busRead .work at_ (if wide then 3 else 2)
      .ok (t.setCtx x ((c.issue a.pg i rd s.busLatency).setReg rd (t.rdata &&& journalMask at_))))

/-- BST (R236, R241, R294, R571): the store waits while the delta log takes no record (R572; log 69). -/
def execNimBst (a : NimAt) (rd ri ent : Fin 32) (wide : Bool) (env : BusEnv) (s : State) : Host.Outcome State Fault Refusal :=
  let i : Issue := ⟨some true, [ri.val, rd.val], 1⟩
  .next (s.onCore a false (fun _ => i) fun x c =>
    match s.tableAddr c true ent (c.reg ri) (if wide then 8 else 4) with
    | .error t => .error t
    | .ok at_ =>
      if s.deltasFull then .ok s
      else
        let e := match c.entry with | some k => s.entry k | none => none
        let env := { env with
          key := match c.entry with | some k => k | none => default
          allOrder := match e with | some e => e.affinity == 2 | none => false }
        .ok ((s.setCtx x (c.issue a.pg i noReg 0)).busWrite .work env at_ (if wide then 3 else 2)
          (if wide then c.reg rd else low32 (c.reg rd))))

/-- BFENCE (R237, R295): every access has completed when the next instruction issues. -/
def execNimBfence (a : NimAt) (fn : BitVec 22) (s : State) : Host.Outcome State Fault Refusal :=
  let i : Issue := ⟨none, [], 1⟩
  .next (s.onCore a (fn != 0) (fun _ => i) fun x c => .ok (s.setCtx x (c.issue a.pg i noReg 0)))

end Sys2Proof.Machine
end

