-- ==== Sys2Proof/Machine/Frame.lean ====
section
/-! DEFINITION. The frame boundary and the switch point of an output timing domain (R62 to R75, R148, R175 to R181, R185 to
R189, R195 to R201, R211, R220, R225, R397 to R401). -/

namespace Sys2Proof.Machine

/-! ### Cross-check records (R175, R176, R181, Table 04.5) -/

/-- The outputs of domain d that are enabled. -/
def State.liveOuts (s : State) (d : Nat) : List Nat :=
  (List.range 128).filter fun n => s.outState n == 1 && s.fld F.EGR_OUT_CFG_OTD n == d

/-- The impairment flags that an output's own source shows as the frame stands: SRC_LOSS, SLIP and DIRECT (Table 04.5). -/
def State.sourceFlags (s : State) (n : Nat) : Nat :=
  let src := s.fld F.EGR_OUT_TAKE_SOURCE n
  if srcPart src ≠ s.domainId ∨ 384 ≤ srcInput src then if (s.out n).view.direct then 16 else 0
  else
    let i := srcInput src
    let st := s.inState i
    (if st = inAcquiring ∨ st = inRepeat ∨ st = inBlack then 1 else 0) + (if (s.input i).slipped then 2 else 0) +
      (if (s.input i).direct then 16 else 0)

/-- The cross-check record of an output for the frame that ends, with the CRC of its samples and the flags that the cells
and audio of its source carried (R175, R176). -/
def State.xchkRec (s : State) (d n : Nat) (crc : BitVec 64) (seen : BitVec 6) : XchkRec :=
  ⟨n, (s.otd d).frame % 256, crc,
    if s.fld F.EGR_OUT_TAKE_SOURCE n = noSource then noSource else (s.out n).norm,
    (s.out n).flags ||| s.sourceFlags n ||| seen.toNat⟩

/-- Account for the partner's records of the frame before: those still missing when nothing has arrived since the last
boundary make one more silent frame, and others are counted one by one (R181). Silent frames are counted at the boundaries
of the lowest-numbered domain that has an enabled output. -/
def State.countMissing (s : State) (d : Nat) : State :=
  let mine := fun (r : XchkRec) => s.fld F.EGR_OUT_CFG_OTD r.out == d
  let due := s.tks.sentX.filter mine
  let silent := s.tks.got == 0
  let s := { s with tks := { s.tks with
    sentX := s.tks.sentX.filter fun r => !mine r
    got := 0 } }
  if due = [] then s
  else if silent then
    let lead := ((List.range 8).find? fun e => !(s.liveOuts e).isEmpty) == some d
    let s := s.setRsl { s.rsl with missed := s.rsl.missed + due.length }
    if lead then { s with tks := { s.tks with missing := s.tks.missing + 1 } } else s
  else s.count .RSL_XCHK_MISS 0 due.length

/-- Send the records of the frame that ends (R176). -/
def State.sendX (s : State) (d : Nat) (obs : List (Fin 128 × BitVec 64 × BitVec 6)) : State :=
  if !s.xchkOn then { s with tks := { s.tks with sentX := s.tks.sentX.filter fun r => s.fld F.EGR_OUT_CFG_OTD r.out != d } }
  else
    let s := s.countMissing d
    (s.liveOuts d).foldl (fun (s : State) n =>
      match obs.find? fun o => o.1.val == n with
      | none => s
      | some o =>
        let r := s.xchkRec d n o.2.1 o.2.2
        { s with
          sent := .xchk r :: s.sent
          tks := { s.tks with sentX := r :: s.tks.sentX } }) s

/-! ### The boundary (R185, R186, R188, R189) -/

/-- Domain d starts its next frame: the one after, or the first of a new alignment, which shows its mismatches. -/
def State.nextFrame (s : State) (d : Nat) : State :=
  let x := s.otd d
  let k := match x.target with | some f => f | none => x.frame + 1
  let s := (s.setOtd d ⟨k, none, 0⟩).setReg .EGR_OTD_FCNT d (BitVec.ofNat 64 (k % 2 ^ 32))
  if x.target.isSome then
    (((s.setFlag F.EGR_OTD_STAT_ALIGNED d (s.tbRunning (s.otdTb d))).setFlag F.EGR_OTD_STAT_REALIGNING d false).showMismatch d).health
  else s

/-- The pipes of domain d meet the boundary (R397 to R401). -/
def State.pipesBoundary (s : State) (d : Nat) : State :=
  ((List.range 16).filter fun v => s.pipeOtd v == d).foldl (fun s v => s.pipeBoundary v (s.otd d).frame) s

/-- The inputs that follow domain d, or change to it, meet the boundary; `phases` are the phases measured (R62 to R75). -/
def State.inputsBoundary (s : State) (d : Nat) (phases : List (Fin 384 × Int)) : State :=
  s.ing.inputs.foldl (fun (s : State) e =>
    let phase := match phases.find? fun p => p.1.val == e.1 with
      | some p => p.2
      | none => signedOf 32 (s.reg .ING_IN_PHASE e.1).toNat
    s.inputBoundary e.1 d phase) s

/-- The outputs of domain d meet the boundary: the frame's flags start again, with those of the pipes just drawn. -/
def State.outputsBoundary (s : State) (d : Nat) : State :=
  ((List.range 128).filter fun n => s.outState n != 0 && s.fld F.EGR_OUT_CFG_OTD n == d).foldl (fun s n => s.outputBoundary n) s

/-- The flags of the sources' new frames enter the outputs' flags (Table 04.5). -/
def State.flagSources (s : State) (d : Nat) : State :=
  (s.liveOuts d).foldl (fun (s : State) n => s.setOut n { s.out n with flags := (s.out n).flags ||| s.sourceFlags n }) s

/-- OTD_FRAME_BOUNDARY (R62 to R75, R176, R185, R186, R198, R201, R220, R397): a boundary of an enabled domain, with the
phases measured on its DIRECT inputs, and for each output the CRC of the frame that ends and the flags its source carried. -/
def execOtdFrameBoundary (d : Fin 8) (phases : List (Fin 384 × Int)) (crcs : List (Fin 128 × BitVec 64 × BitVec 6)) (s : State) :
    Host.Outcome State Fault Refusal :=
  .next (if !s.otdEnabled d then s
    else
      let s := (s.sendX d crcs).nextFrame d
      let s := ((s.outputsBoundary d).pipesBoundary d).inputsBoundary d phases
      ((s.flagSources d).showMismatch d).senderBoundary d)

/-- SWITCH_POINT (R148, R142, R156, R225): the takes of the domain's current frame switch, and planned releases take
effect. -/
def execSwitchPoint (d : Fin 8) (s : State) : Host.Outcome State Fault Refusal :=
  .next (if !s.otdEnabled d then s else (s.switchTakes d).applyReleases d)

end Sys2Proof.Machine
end

