-- ==== Sys2Proof/Machine/Nimade.lean ====
section
/-! DEFINITION. The Nimade instructions that reach beyond the core: the signal plane (R296 to R301), time (R302, R303), the
journal (R304, R305), events and messages (R306 to R312), and the ends of programs (R313). -/

namespace Sys2Proof.Machine

/-! ### The signal plane (R238, R269, R296) -/

/-- A context awaits again what a run before it left under way: an account of takes, or a directory order (R269). -/
def State.reattach (s : State) (x : Nat) (k : Key) (n : Nat) : Option State :=
  if s.tks.accts.any (fun (a : SalvoAcct) => a.key == k && a.sig == n) then
    some { s with tks := { s.tks with accts := s.tks.accts.map fun (a : SalvoAcct) => if a.key = k ∧ a.sig = n then { a with ctx := some x } else a } }
  else
    let d := s.twl.dirs
    let mine : DirPending → Bool := fun (p : DirPending) => match p.who with | some (_, j, m) => j == k && m == n | none => false
    if d.pend.any mine then
      some (s.setDirs { d with pend := d.pend.map fun (p : DirPending) => if mine p then { p with who := some (some x, k, n) } else p })
    else none

/-- Send a signal-plane instruction: one below SIGCOUNT returns its recorded status, one that its target has applied returns what
the target recorded, one that is under way is awaited, and any other has its effect. The spec records no value of g[rd] for
the first two: it is a free value. -/
def State.sigSend (s : State) (x : Nat) (k : Key) (n : Nat) (go : State → State) : State :=
  match (s.entry k).bind fun e => e.sigs[n]? with
  | some st => s.drawFree.giveResult x s.free (stWord st n false)
  | none => match s.appliedAt k n with
    | some r => (s.drawFree.recordSig k n r.st).giveResult x s.free (stWord r.st n false)
    | none => match s.reattach x k n with
      | some s => s
      | none => go s

/-- A signal-plane instruction: its arguments are read, its context gives up the core, and it is sent. -/
def State.sigPlane {α : Type} (s : State) (a : NimAt) (undef : Bool) (reads : List Nat) (rd : Nat) (args : NimCtx → Except Trap α)
    (go : Nat → Key → Nat → α → State → State) : State :=
  let i : Issue := ⟨none, reads, 8⟩
  s.onCore a undef (fun _ => i) fun x c =>
    match c.entry with
    | none => .error .space
    | some k =>
      if 24 ≤ c.sig then .error .siglim
      else match args c with
        | .error t => .error t
        | .ok v =>
          let s := s.setCtx x { (c.issue a.pg i noReg 0) with
            sig := c.sig + 1
            rd := rd }
          .ok ((s.giveUp a.core .result).sigSend x k c.sig (go x k c.sig v))

/-- The space of a signal-plane operand block: f bit 0, 0 ORDER, 1 LOCAL (Table 07.6). -/
def blockSpace (loc : Bool) : Nat := if loc then 0 else 4

/-- Read a block of n bytes in ORDER or LOCAL, or its trap. -/
def State.readBlock (s : State) (c : NimCtx) (loc : Bool) (addr n align : Nat) : Except Trap Nat :=
  let sp := blockSpace loc
  match s.memTrap c false sp addr n (if loc then align else 4) with
  | some t => .error t
  | none => .ok (s.memRead c sp addr n)

/-- Whether the entry of a key is replayed. -/
def State.isReplayed (s : State) (k : Key) : Bool := (s.entry k).any fun e => e.replayed

/-- TAKE (R297): `f` bit 0 is DIRTY_OK and bit 1 reserved, and rc must be g0. -/
def execTake (a : NimAt) (rd ra rb rc : Fin 32) (f : BitVec 2) (view : TakeView) (s : State) : Host.Outcome State Fault Refusal :=
  .next (s.sigPlane a (rc.val != 0 || f.getLsbD 1) [ra, rb] rd (fun c => .ok (c.reg ra, (c.reg rb).toNat))
    fun x k n v s => s.takeMembers k n 0 (some x) true false (f.getLsbD 0) (s.isReplayed k) v.2 [(v.1, view)])

/-- The members of a salvo: none when the count or identifier is out of range, and a block that leaves its space traps with
SPACE (R298). -/
def State.salvoArgs (s : State) (c : NimCtx) (loc : Bool) (addr : Nat) (rc : Word) : Except Trap (Option (List Word)) :=
  let n := rc.toNat / 2 ^ 32
  if n = 0 ∨ 1024 < n ∨ rc.toNat % 2 ^ 32 = 0 then .ok none
  else match s.readBlock c loc addr (8 * n) 8 with
    | .error .stack => .error .space
    | .error t => .error t
    | .ok v => .ok (some ((List.range n).map fun j => BitVec.ofNat 64 (v / 2 ^ (64 * j))))

/-- SALVO (R298): `f` bit 0 is the space and bit 1 ATOMIC; `views` are the members' views, in order. -/
def execSalvo (a : NimAt) (rd ra rb rc : Fin 32) (f : BitVec 2) (views : List TakeView) (s : State) : Host.Outcome State Fault Refusal :=
  .next (s.sigPlane a false [ra, rb, rc] rd
    (fun c => (s.salvoArgs c (f.getLsbD 0) (c.reg ra).toNat (c.reg rc)).map fun m => (m, (c.reg rb).toNat, (c.reg rc).toNat % 2 ^ 32))
    fun x k n v s => match v.1 with
      | none => s.sigReturn (some x) k n 0 .BAD_ARG
      | some ms => s.takeMembers k n v.2.2 (some x) false (f.getLsbD 1) false (s.isReplayed k) v.2.1
          (ms.zipIdx.map fun m => (m.1, views.getD m.2 default)))

/-- Whether a directory order of a pair is the partner's to carry out (R299). -/
def State.partnerFlow (s : State) (origin : Nat) : Bool := s.paired && origin / 512 == s.partnerId && origin / 512 != s.domainId

/-- FLOW_WRITE (R299): `loc` is the space; `ovf` says that the directory has no place for the entry at the flow's hash. An
entry of the partner is written by the partner, whose status returns as SIGNAL_PLANE_RESULT. -/
def execNimFlowWrite (a : NimAt) (rd ra rb rc : Fin 32) (loc ovf : Bool) (s : State) : Host.Outcome State Fault Refusal :=
  .next (s.sigPlane a (rc.val != 0) [ra, rb] rd
    (fun c => (s.readBlock c loc (c.reg rb).toNat 16 8).map fun e => ((c.reg ra).toNat, BitVec.ofNat 128 e))
    fun x k n v s =>
      if 524287 < v.1 ∨ s.badDirWrite v.1 v.2 = true then s.sigReturn (some x) k n 0 .BAD_ARG
      else if s.partnerFlow (dirOrigin v.2) then s
      else s.dirWrite (some (some x, k, n)) v.1 v.2 ovf)

/-- FLOW_WITHDRAW (R299). -/
def execNimFlowWithdraw (a : NimAt) (rd ra rb rc : Fin 32) (loc : Bool) (s : State) : Host.Outcome State Fault Refusal :=
  .next (s.sigPlane a (rc.val != 0) [ra.val] rd (fun c => .ok (c.reg ra).toNat)
    fun x k n v s =>
      if 524287 < v then s.sigReturn (some x) k n 0 .BAD_ARG
      else if dirValid (s.dirEntry v) && s.partnerFlow (dirOrigin (s.dirEntry v)) then s
      else s.dirWithdraw (some (some x, k, n)) v)

/-- LAYER (R300): f bit 1 is reserved. -/
def execNimLayer (a : NimAt) (rd ra rb rc : Fin 32) (f : BitVec 2) (s : State) : Host.Outcome State Fault Refusal :=
  .next (s.sigPlane a (rc.val != 0 || f.getLsbD 1) [ra, rb] rd
    (fun c => (s.readBlock c (f.getLsbD 0) (c.reg rb).toNat 64 4).map fun d => ((c.reg ra).toNat, d))
    fun x k n v s =>
      let r := s.layerWrite (v.1 / 16 % 16) (v.1 % 16) ((List.range 16).map fun j => BitVec.ofNat 32 (v.2 / 2 ^ (32 * j)))
      r.1.sigReturn (some x) k n 0 r.2)

/-- COMMIT (R301): rc must be g0 and f must be 0. -/
def execNimCommit (a : NimAt) (rd ra rb rc : Fin 32) (f : BitVec 2) (s : State) : Host.Outcome State Fault Refusal :=
  .next (s.sigPlane a (rc.val != 0 || f != 0) [ra, rb] rd (fun c => .ok ((c.reg ra).toNat % 65536, (c.reg rb).toNat))
    fun x k n v s =>
      let r := s.commit v.1 v.2
      r.1.sigReturn (some x) k n r.2.1 r.2.2)

/-- SIGNAL_PLANE_RESULT (R233, R296, R299): the result of an instruction that was carried out elsewhere returns to the context
that awaits it. -/
def execNimSignalPlaneResult (key : Key) (sig : Nat) (value : Word64) (st : Status) (s : State) : Host.Outcome State Fault Refusal :=
  .next (if s.tks.accts.any (fun (a : SalvoAcct) => a.key == key && a.sig == sig) ||
      s.twl.dirs.pend.any (fun (p : DirPending) => match p.who with | some (_, j, m) => j == key && m == sig | none => false) then s
    else match (List.range 128).find? fun x => (s.ctx x).entry == some key && (s.ctx x).run == .result && (s.ctx x).sig == sig + 1 with
      | some x => s.sigReturn (some x) key sig value st
      | none => s)

/-! ### Status-returning instructions of the core (R288) -/

/-- A context with st written by an instruction that occupies some cycles (R288). -/
def NimCtx.status (c : NimCtx) (st : Status) (shadow : Bool) : NimCtx :=
  { c with
    st := stWord st 0 shadow
    pipe := { c.pipe with ready := Tbl.set (fun _ => 0) 40 (c.pipe.last + 1) c.pipe.ready } }

/-- RDT (R242, R302). -/
def execNimRdt (a : NimAt) (rd : Fin 32) (fn : BitVec 7) (s : State) : Host.Outcome State Fault Refusal :=
  let k := fn.toNat
  let i := fun (c : NimCtx) => (⟨none, [], if c.entry.isSome then 1 else 20⟩ : Issue)
  .next (s.onCore a (decide (4 ≤ k)) i fun x c =>
    let d := c.issue a.pg (i c) rd (i c).cost
    if c.entry.isSome then .ok (s.setCtx x (d.setReg rd (Tbl.get (fun _ => 0) c.tb k)))
    else if s.tbRunning k then
      let t := BitVec.ofNat 64 (nimTime (s.tbNow k))
      .ok (s.setCtx x (({ d with tb := Tbl.set (fun _ => 0) k t c.tb }.setReg rd t).status .OK false))
    else .ok (s.setCtx x ((d.setReg rd 0).status .NOT_READY false)))

/-- The first switch point, or frame boundary, of a domain at or after a Nimade time (R303). -/
def State.nextPoint (s : State) (boundary : Bool) (d t : Nat) : Nat :=
  if boundary then nimTime (s.boundary d (firstBoundary (s.otdFormat d) (s.otdPhase d) (t * 65536)))
  else nimTime (s.switchPoint d (s.switchFrameAt d (t * 65536)))

/-- nsp (R303): 6 cycles. -/
def State.nsp (s : State) (a : NimAt) (rd ra : Fin 32) (d : Fin 8) (boundary : Bool) : State :=
  let i : Issue := ⟨none, [ra.val], 6⟩
  s.onCore a false (fun _ => i) fun x c =>
    let e := c.issue a.pg i rd 6
    if s.otdEnabled d then .ok (s.setCtx x ((e.setReg rd (BitVec.ofNat 64 (s.nextPoint boundary d (c.reg ra).toNat))).status .OK false))
    else .ok (s.setCtx x ((e.setReg rd 0).status .NOT_READY false))

/-- NSP_SWITCH_POINT (R303). -/
def execNimNspSwitchPoint (a : NimAt) (rd ra : Fin 32) (d : Fin 8) (s : State) : Host.Outcome State Fault Refusal := .next (s.nsp a rd ra d false)
/-- NSP_FRAME_BOUNDARY (R303). -/
def execNimNspFrameBoundary (a : NimAt) (rd ra : Fin 32) (d : Fin 8) (s : State) : Host.Outcome State Fault Refusal := .next (s.nsp a rd ra d true)

/-! ### The journal (R304, R305) -/

/-- Submit a service's order (R276): the checks of Table 06.7 from check 3 onward. -/
def State.submitSvc (s : State) (n x : Nat) (aff : BitVec 32) (body : List Byte) : State :=
  let count := (s.reg .NIM_SVC_SEQ n).toNat % 2 ^ 57 + 1
  let seq := (96 + n) * 2 ^ 57 + count
  let s := s.setReg .NIM_SVC_SEQ n (BitVec.ofNat 64 seq)
  let refuse := fun st =>
    let s := (s.irq Irq.NIM_REFUSED).count .NIM_REFUSED 0 1
    let s := if st = Status.STALE_SEQ then s.irq Irq.NIM_STALE else s
    s.giveResult x 0 (stWord st 0 false)
  if !orderArgs 0 aff (some body) then refuse .BAD_ARG
  else if count ≤ s.hwmOf (96 + n) then
    match s.entry ⟨s.domainId, seq, 0⟩ with
    | some _ => (s.count .NIM_DUP 0 1).giveResult x (BitVec.ofNat 64 seq) (stWord .OK 0 false)
    | none => refuse .STALE_SEQ
  else match s.acceptOrder (s.newEntry seq false aff body 0 none) with
    | .ok s => s
    | .error st => refuse st

/-- JSUB (R276, R277, R304): in service context only. It waits while the part takes no entries (R253; log 70). -/
def execNimJsub (a : NimAt) (rd ra rb rc : Fin 32) (f : BitVec 2) (s : State) : Host.Outcome State Fault Refusal :=
  let i : Issue := ⟨none, [ra.val, rb.val, rc.val], 10⟩
  .next (s.onCore a (f != 0) (fun _ => i) fun x c =>
    match c.slot with
    | none => .error .space
    | some n =>
      let at_ := (c.reg ra).toNat
      let len := (c.reg rb).toNat
      let d := c.issue a.pg i rd 10
      if s.shadow then .ok (s.drawFree.setCtx x ((d.setReg rd s.free).status .OK true))
      else if s.holdsWork then .ok s
      else if at_ % 64 ≠ 0 then .error .align
      else
        let m := if 8192 < len then 0 else len
        match s.memTrap c false 2 at_ m 1 with
        | some t => .error t
        | none =>
          let body := (List.range m).map fun j => Tbl.get (fun _ => 0) s.nim.sram (4194304 + at_ + j)
          let s := (s.setCtx x { d with rd := rd }).giveUp a.core .result
          .ok (s.submitSvc n x ((c.reg rc).setWidth 32) body))

/-- The value that jinfo reads for a function, none where the function is undefined in the context (R305). -/
def State.jinfo (s : State) (c : NimCtx) (fn : Nat) : Option Nat :=
  match c.entry, c.slot with
  | some k, _ => match fn with
    | 0 => some k.seq
    | 1 => some k.origin
    | 2 => some k.sub
    | 3 => some (s.bodyOf c).2
    | _ => none
  | none, some n => match fn with
    | 0 => some (s.reg .NIM_SVC_SEQ n).toNat
    | 4 => some n
    | 5 => some (if s.shadow then 1 else 0)
    | _ => none
  | none, none => none

/-- JINFO (R305). -/
def execNimJinfo (a : NimAt) (rd : Fin 32) (fn : BitVec 7) (s : State) : Host.Outcome State Fault Refusal :=
  let i : Issue := ⟨none, [], 1⟩
  .next (s.onCore a false (fun _ => i) fun x c =>
    match s.jinfo c fn.toNat with
    | none => .error .illegal
    | some v => .ok (s.setCtx x ((c.issue a.pg i rd 1).setReg rd (BitVec.ofNat 64 v))))

/-! ### Events and messages (R306 to R311) -/

/-- Post an EVENT record of a journalled program to the queue that submitted its order (R306). -/
def State.postEvent (s : State) (k : Key) (data : BitVec 192) : State :=
  if k.origin ≠ s.domainId then s
  else match s.entry k with
    | none => s
    | some e => match e.queue with
      | none => s
      | some q => s.postRecord q { cqRecord (.event data) k.seq e.tag with replayed := e.replayed }

/-- POST (R277, R306). -/
def execNimPost (a : NimAt) (ra rb : Fin 32) (fn : BitVec 7) (s : State) : Host.Outcome State Fault Refusal :=
  let i : Issue := ⟨none, [ra.val, rb.val], 12⟩
  .next (s.onCore a (fn != 0) (fun _ => i) fun x c =>
    let at_ := (c.reg ra).toNat
    let d := c.issue a.pg i noReg 0
    match s.memTrap c false 0 at_ 24 1 with
    | some t => .error t
    | none =>
      let data := BitVec.ofNat 192 (s.memRead c 0 at_ 24)
      match c.entry with
      | some k => .ok ((s.postEvent k data).setCtx x (d.status .OK false))
      | none =>
        let q := (c.reg rb).toNat
        if s.shadow then .ok (s.setCtx x (d.status .OK true))
        else if 64 ≤ q then .ok (s.setCtx x (d.status .BAD_ARG false))
        else if !s.flag F.NIM_Q_CFG_EN q then .ok (s.setCtx x (d.status .NOT_READY false))
        else .ok ((s.postRecord q (cqRecord (.event data) 0 0)).setCtx x (d.status .OK false)))

/-- Deliver a message to a service slot of a part, as a slot of this part (R307); `reply` is what another part reports. -/
def State.deliverMail (s : State) (part slot from_ : Nat) (m : BitVec 256) (reply : Status) : State × Status :=
  if part = s.domainId then
    if (s.svc slot).at_.isNone then (s, .NOT_READY)
    else if 64 ≤ (s.svc slot).msgs.length then (s, .BUSY)
    else (s.giveMsg slot s.domainId from_ m, .OK)
  else if Tbl.get (fun _ => 0) s.twl.toward part = 0 then (s, .NO_PATH)
  else (s.emit (.mail part slot s.domainId from_ m), reply)

/-- A context gives up the core for a report that has come, and becomes ready with it (R233, R307, R310). -/
def State.reported (s : State) (core x : Nat) (d : NimCtx) (k : State → State × Status) : State :=
  let r := k ((s.setCtx x { d with rd := 0 }).giveUp core .result)
  r.1.giveResult x 0 (stWord r.2 0 false)

/-- SEND (R307): in service context only. -/
def execNimSend (a : NimAt) (ra rb : Fin 32) (fn : BitVec 7) (reply : Status) (s : State) : Host.Outcome State Fault Refusal :=
  let i : Issue := ⟨none, [ra.val, rb.val], 12⟩
  .next (s.onCore a (fn != 0) (fun _ => i) fun x c =>
    match c.slot with
    | none => .error .space
    | some n =>
      let at_ := (c.reg ra).toNat
      let w := (c.reg rb).toNat
      match s.memTrap c false 0 at_ 32 1 with
      | some t => .error t
      | none => .ok (s.reported a.core x (c.issue a.pg i noReg 0) fun s =>
          s.deliverMail (w / 32 % 1024) (w % 32) n (BitVec.ofNat 256 (s.memRead c 0 at_ 32)) reply))

/-- A reply of a journalled program, on its ORIGIN: to the service that submitted its order, or as an EVENT record of the first
24 bytes (R310). The slot that stands for the sender in the envelope is a free value. -/
def State.replyOrder (s : State) (k : Key) (m : Nat) : State × Status :=
  if k.origin ≠ s.domainId then (s, .OK)
  else if 96 ≤ k.source then s.drawFree.deliverMail s.domainId (k.source - 96) (s.free.toNat % 32) (BitVec.ofNat 256 m) .OK
  else (s.postEvent k (BitVec.ofNat 192 m), .OK)

/-- REPLY (R310). Before any MSG has been received, the status is a free value. -/
def execNimReply (a : NimAt) (ra : Fin 32) (fn : BitVec 7) (reply : Status) (s : State) : Host.Outcome State Fault Refusal :=
  let i : Issue := ⟨none, [ra.val], 12⟩
  .next (s.onCore a (fn != 0) (fun _ => i) fun x c =>
    let at_ := (c.reg ra).toNat
    match s.memTrap c false 0 at_ 32 1 with
    | some t => .error t
    | none =>
      let m := s.memRead c 0 at_ 32
      .ok (s.reported a.core x (c.issue a.pg i noReg 0) fun s =>
        match c.entry, c.slot with
        | some k, _ => s.replyOrder k m
        | none, some n => match (s.svc n).lastFrom with
          | some p => s.deliverMail p.1 p.2 n (BitVec.ofNat 256 m) reply
          | none => (s.drawFree, s.freeStatus)
        | none, none => (s, .OK)))

/-- The bytes of a TAKE record (Table 04.4). -/
def TakeRec.bytes (r : TakeRec) : List Byte :=
  leBytes 8 r.seq ++ leBytes 8 r.time ++ leBytes 4 (r.otd * 2 ^ 29 + r.dest) ++ leBytes 4 r.src ++ leBytes 2 r.status.code ++ leBytes 2 r.flags ++
    leBytes 4 r.salvo

/-- The oldest item of a receive queue of a slot as bytes, the items dropped before it, and the slot without it; none when the
queue is empty (R308, R309). -/
def Service.pop (x : Service) (q : Fin 4) : Option (List Byte × Nat × Service) :=
  match q with
  | 0 => match x.msgs with
    | [] => none
    | m :: l => some (leBytes 8 (m.1 % 1024 * 32 + m.2.1 % 32) ++ leBytes 32 m.2.2.toNat, x.lostMsg,
        { x with msgs := l, lostMsg := 0, lastFrom := some (m.1, m.2.1) })
  | 1 => match x.takes with
    | [] => none
    | r :: l => some (r.bytes, x.lostTake, { x with takes := l, lostTake := 0 })
  | 2 => match x.dones with
    | [] => none
    | r :: l => some (leBytes 8 r.1 ++ leBytes 8 r.2.code, x.lostDone, { x with dones := l, lostDone := 0 })
  | 3 => match x.rings with
    | [] => none
    | b :: l => some (b, x.lostRing, { x with rings := l, lostRing := 0 })

/-- The item that a service's context would take from queue q: its bytes, its source, and the service without it. -/
def State.recvItem (s : State) (q : Fin 4) (c : NimCtx) : Option (List Byte × Nat × Service) :=
  match c.slot with | some n => (s.svc n).pop q | none => none

/-- What a recv costs: 6 cycles, and one for each 16 bytes of the item. -/
def State.recvIssue (s : State) (ra : Fin 32) (q : Fin 4) (c : NimCtx) : Issue :=
  ⟨none, [ra.val], 6 + match s.recvItem q c with | some p => p.1.length / 16 | none => 0⟩

/-- recv (R309): in service context only; 6 cycles and 1 for every 16 bytes. -/
def State.recv (s : State) (a : NimAt) (rd ra : Fin 32) (q : Fin 4) : State :=
  s.onCore a false (s.recvIssue ra q) fun x c =>
    match c.slot with
    | none => .error .space
    | some n =>
      let d := c.issue a.pg (s.recvIssue ra q c) rd (s.recvIssue ra q c).cost
      match s.recvItem q c with
      | none => .ok (s.setCtx x ((d.setReg rd 0).status .NOT_READY false))
      | some p =>
        let at_ := (c.reg ra).toNat
        if 8192 < at_ + p.1.length then .error .stack
        else .ok ((s.setSvc n p.2.2).setCtx x
          (({ d with loc := putBytes c.loc at_ p.1 }.setReg rd (BitVec.ofNat 64 (p.1.length + p.2.1 % 2 ^ 32 * 2 ^ 32))).status .OK false))

/-- RECV_MSG (R309). -/
def execNimRecvMsg (a : NimAt) (rd ra : Fin 32) (s : State) : Host.Outcome State Fault Refusal := .next (s.recv a rd ra 0)
/-- RECV_TAKE (R309). -/
def execNimRecvTake (a : NimAt) (rd ra : Fin 32) (s : State) : Host.Outcome State Fault Refusal := .next (s.recv a rd ra 1)
/-- RECV_DONE (R309). -/
def execNimRecvDone (a : NimAt) (rd ra : Fin 32) (s : State) : Host.Outcome State Fault Refusal := .next (s.recv a rd ra 2)
/-- RECV_RING (R309). -/
def execNimRecvRing (a : NimAt) (rd ra : Fin 32) (s : State) : Host.Outcome State Fault Refusal := .next (s.recv a rd ra 3)

/-- XMIT (R277, R311): in service context only. -/
def execNimXmit (a : NimAt) (ra rb rc : Fin 32) (f : BitVec 2) (s : State) : Host.Outcome State Fault Refusal :=
  let i : Issue := ⟨none, [ra.val, rb.val, rc.val], 16⟩
  .next (s.onCore a (f != 0) (fun _ => i) fun x c =>
    match c.slot with
    | none => .error .space
    | some n =>
      let len := (c.reg rb).toNat
      let d := c.issue a.pg i noReg 0
      match s.memTrap c false 0 (c.reg ra).toNat (if 1400 < len then 0 else len) 1 with
      | some t => .error t
      | none =>
        if s.shadow then .ok (s.setCtx x (d.status .OK true))
        else
          let r := s.xmit n ((c.reg rc).toNat % 16) len
          .ok (r.1.setCtx x (d.status r.2 false)))

/-! ### Waiting and ends (R233, R312, R313) -/

/-- WAIT (R308, R312): in service context only. A deadline already passed, and a mask of 0 with no deadline, return at once;
any other wait gives up the core, and ends at once when an event is pending. -/
def execNimWait (a : NimAt) (rd ra rb : Fin 32) (fn : BitVec 7) (s : State) : Host.Outcome State Fault Refusal :=
  let i : Issue := ⟨none, [ra.val, rb.val], 4⟩
  .next (s.onCore a (fn != 0) (fun _ => i) fun x c =>
    match c.slot with
    | none => .error .space
    | some n =>
      let mask := (c.reg ra).toNat
      let deadline := (c.reg rb).toNat
      let d := c.issue a.pg i rd 4
      if mask = 0 ∧ deadline = 0 then .ok (s.setCtx x ((d.setReg rd 0).status .BAD_ARG false))
      else
        let s := if mask.testBit 1 then s.setSvc n { s.svc n with takeOn := true } else s
        let r := s.waitResult n mask deadline
        if s.reached deadline then
          let s := if r.testBit 5 then s.setSvc n { s.svc n with jrnDone := false } else s
          .ok (s.setCtx x ((d.setReg rd (BitVec.ofNat 64 r)).status .OK false))
        else
          let s := (s.setCtx x { d with rd := rd }).giveUp a.core (.event mask deadline)
          .ok ((s.setFld F.NIM_SVC_STAT_STATE n 2).wakeCtx x))

/-- WAIT_WAKE (R233, R312): a service's wait is met, and its context becomes ready. -/
def execNimWaitWake (n : Fin 32) (s : State) : Host.Outcome State Fault Refusal := .next (s.wakeSvc n)

/-- YIELD (R233, R313): the context is ready again behind the others. -/
def execNimYield (a : NimAt) (fn : BitVec 22) (s : State) : Host.Outcome State Fault Refusal :=
  let i : Issue := ⟨none, [], 4⟩
  .next (s.onCore a (fn != 0) (fun _ => i) fun x c =>
    .ok (((s.setCtx x { (c.issue a.pg i noReg 0) with run := .result }).setRunning a.core none).ready x))

/-- HALT (R238, R268, R313): a journalled program does not complete while the delta log takes no record (R572). -/
def execNimHalt (a : NimAt) (s : State) : Host.Outcome State Fault Refusal :=
  let i : Issue := ⟨none, [40], 4⟩
  .next (s.onCore a false (fun _ => i) fun x c => .ok (if c.entry.isSome && s.deltasFull then s else s.haltCtx x))

/-- NOP (R313). -/
def execNimNop (a : NimAt) (s : State) : Host.Outcome State Fault Refusal :=
  let i : Issue := ⟨none, [], 1⟩
  .next (s.onCore a false (fun _ => i) fun x c => .ok (s.setCtx x (c.issue a.pg i noReg 0)))

end Sys2Proof.Machine
end

