-- ==== Sys2Proof/Machine/Dispatch.lean ====
section
/-! DEFINITION. The dispatch: one arm per command of the opcode table, each one direct call of its meaning. -/

namespace Sys2Proof.Machine

def exec (i : Instr) (s : State) : Host.Outcome State Fault Refusal :=
  match i with
  | .registerWrite src addr size data env => Sys2Proof.Machine.execRegisterWrite src addr size data env s
  | .readClear src addr size => Sys2Proof.Machine.execReadClear src addr size s
  | .latchedRead64 src addr whole => Sys2Proof.Machine.execLatchedRead64 src addr whole s
  | .sdiRateHuntDwell n => Sys2Proof.Machine.execSdiRateHuntDwell n s
  | .sdiLock n => Sys2Proof.Machine.execSdiLock n s
  | .sdiLockLossTimeout n => Sys2Proof.Machine.execSdiLockLossTimeout n s
  | .sdiLineReceive n crcErrors anc => Sys2Proof.Machine.execSdiLineReceive n crcErrors anc s
  | .trsLoss n => Sys2Proof.Machine.execTrsLoss n s
  | .sdiFrameEnd n m pid skewed => Sys2Proof.Machine.execSdiFrameEnd n m pid skewed s
  | .networkFrameReceive p f => Sys2Proof.Machine.execNetworkFrameReceive p f s
  | .videoFrameClose m num form diff => Sys2Proof.Machine.execVideoFrameClose m num form diff s
  | .legSilence m legB => Sys2Proof.Machine.execLegSilence m legB s
  | .packetLossTimeout m => Sys2Proof.Machine.execPacketLossTimeout m s
  | .syncReadInterrupt n => Sys2Proof.Machine.execSyncReadInterrupt n s
  | .inputEnable src n w => Sys2Proof.Machine.execInputEnable src n w s
  | .inputDisable src n => Sys2Proof.Machine.execInputDisable src n s
  | .inputKill src n => Sys2Proof.Machine.execInputKill src n s
  | .inputDrainDone n => Sys2Proof.Machine.execInputDrainDone n s
  | .inputModeChange src n mode => Sys2Proof.Machine.execInputModeChange src n mode s
  | .inputDomainChange src n otd => Sys2Proof.Machine.execInputDomainChange src n otd s
  | .delayFramesChange src n w => Sys2Proof.Machine.execDelayFramesChange src n w s
  | .videoFlowBinding src m w => Sys2Proof.Machine.execVideoFlowBinding src m w s
  | .pdMaxWrite src m w => Sys2Proof.Machine.execPdMaxWrite src m w s
  | .audioContextBinding src a w => Sys2Proof.Machine.execAudioContextBinding src a w s
  | .audioOffsetWrite src a w => Sys2Proof.Machine.execAudioOffsetWrite src a w s
  | .ancContextBinding src a w => Sys2Proof.Machine.execAncContextBinding src a w s
  | .sdiCfgWrite src n w => Sys2Proof.Machine.execSdiCfgWrite src n w s
  | .poolPagesWrite src w => Sys2Proof.Machine.execPoolPagesWrite src w s
  | .ingressDisable src => Sys2Proof.Machine.execIngressDisable src s
  | .cellReceive p fromLace h e0 e1 e2 e3 view => Sys2Proof.Machine.execCellReceive p fromLace h e0 e1 e2 e3 view s
  | .calendarSlot p slot ready => Sys2Proof.Machine.execCalendarSlot p slot ready s
  | .calendarPeriodBoundary => Sys2Proof.Machine.execCalendarPeriodBoundary s
  | .routeRequest h => Sys2Proof.Machine.execRouteRequest h s
  | .routeHoldTimeout req => Sys2Proof.Machine.execRouteHoldTimeout req s
  | .holdReleaseReport req => Sys2Proof.Machine.execHoldReleaseReport req s
  | .routeSettle req => Sys2Proof.Machine.execRouteSettle req s
  | .arbitratedQueueOpen p branch dchip dport => Sys2Proof.Machine.execArbitratedQueueOpen p branch dchip dport s
  | .arbitratedCellEnqueue p q h => Sys2Proof.Machine.execArbitratedCellEnqueue p q h s
  | .linkControlCell k credits lost tag => Sys2Proof.Machine.execLinkControlCell k credits lost tag s
  | .rerouteStream old link h => Sys2Proof.Machine.execRerouteStream old link h s
  | .dirRead src => Sys2Proof.Machine.execDirRead src s
  | .dirWrite src ovf => Sys2Proof.Machine.execDirWrite src ovf s
  | .dirWithdraw src => Sys2Proof.Machine.execDirWithdraw src s
  | .dirUpdateReceive u ovf => Sys2Proof.Machine.execDirUpdateReceive u ovf s
  | .dirMissingRequestReceive part from_ => Sys2Proof.Machine.execDirMissingRequestReceive part from_ s
  | .dirAckReceive part seq conflict => Sys2Proof.Machine.execDirAckReceive part seq conflict s
  | .dirAckTimeout seq => Sys2Proof.Machine.execDirAckTimeout seq s
  | .dirResyncStart origins => Sys2Proof.Machine.execDirResyncStart origins s
  | .dirResyncAnswer origin seq entries updates ovf => Sys2Proof.Machine.execDirResyncAnswer origin seq entries updates ovf s
  | .dirResyncOriginTimeout origin => Sys2Proof.Machine.execDirResyncOriginTimeout origin s
  | .slicePortSwap src p spare => Sys2Proof.Machine.execSlicePortSwap src p spare s
  | .slicePortSwapBack src p passed => Sys2Proof.Machine.execSlicePortSwapBack src p passed s
  | .swapSpareFail => Sys2Proof.Machine.execSwapSpareFail s
  | .slicePortFail p => Sys2Proof.Machine.execSlicePortFail p s
  | .twillDisable src => Sys2Proof.Machine.execTwillDisable src s
  | .twillDrainDone => Sys2Proof.Machine.execTwillDrainDone s
  | .twillKill src inFlight => Sys2Proof.Machine.execTwillKill src inFlight s
  | .v6PrefixWrite src source ix w => Sys2Proof.Machine.execV6PrefixWrite src source ix w s
  | .take a rd ra rb rc f view => Sys2Proof.Machine.execTake a rd ra rb rc f view s
  | .salvo a rd ra rb rc f views => Sys2Proof.Machine.execSalvo a rd ra rb rc f views s
  | .forwardedTake key salvo atomic time members => Sys2Proof.Machine.execForwardedTake key salvo atomic time members s
  | .partnerAdmissionResult key sig pos st => Sys2Proof.Machine.execPartnerAdmissionResult key sig pos st s
  | .takeArmed key sig pos => Sys2Proof.Machine.execTakeArmed key sig pos s
  | .switchPoint d => Sys2Proof.Machine.execSwitchPoint d s
  | .takeRouteLost key sig pos v => Sys2Proof.Machine.execTakeRouteLost key sig pos v s
  | .routeRetry n v => Sys2Proof.Machine.execRouteRetry n v s
  | .xchkRecordReceive r => Sys2Proof.Machine.execXchkRecordReceive r s
  | .selfCheckDone step => Sys2Proof.Machine.execSelfCheckDone step s
  | .selfCheckResultReceive passed => Sys2Proof.Machine.execSelfCheckResultReceive passed s
  | .selfCheckResultTimeout => Sys2Proof.Machine.execSelfCheckResultTimeout s
  | .partnerSilence => Sys2Proof.Machine.execPartnerSilence s
  | .otdFrameBoundary d phases crcs => Sys2Proof.Machine.execOtdFrameBoundary d phases crcs s
  | .otdConfigWrite src d w => Sys2Proof.Machine.execOtdConfigWrite src d w s
  | .otdPhaseWrite src d w => Sys2Proof.Machine.execOtdPhaseWrite src d w s
  | .outputEnable src n w => Sys2Proof.Machine.execOutputEnable src n w s
  | .outputDisable src n => Sys2Proof.Machine.execOutputDisable src n s
  | .outputKill src n => Sys2Proof.Machine.execOutputKill src n s
  | .outputDrainDone n => Sys2Proof.Machine.execOutputDrainDone n s
  | .outputLine n gaps slips ancDrops => Sys2Proof.Machine.execOutputLine n gaps slips ancDrops s
  | .overrideWrite src n ovr pat => Sys2Proof.Machine.execOverrideWrite src n ovr pat s
  | .patternGenConfig src p w => Sys2Proof.Machine.execPatternGenConfig src p w s
  | .identWrite src n ix w => Sys2Proof.Machine.execIdentWrite src n ix w s
  | .outAudioWrite src n w => Sys2Proof.Machine.execOutAudioWrite src n w s
  | .outSdiBond src n w => Sys2Proof.Machine.execOutSdiBond src n w s
  | .videoSenderBind src ix w v => Sys2Proof.Machine.execVideoSenderBind src ix w v s
  | .sourceSenderSrc src ix w v => Sys2Proof.Machine.execSourceSenderSrc src ix w v s
  | .audioSenderBind src ix fmt w => Sys2Proof.Machine.execAudioSenderBind src ix fmt w s
  | .ancSenderBind src ix w => Sys2Proof.Machine.execAncSenderBind src ix w s
  | .videoPacketSend ix k missing late => Sys2Proof.Machine.execVideoPacketSend ix k missing late s
  | .audioPacketSend ix first => Sys2Proof.Machine.execAudioPacketSend ix first s
  | .ancPacketSend ix field last => Sys2Proof.Machine.execAncPacketSend ix field last s
  | .senderStop src k ix => Sys2Proof.Machine.execSenderStop src k ix s
  | .joinEntrySet src j port flow => Sys2Proof.Machine.execJoinEntrySet src j port flow s
  | .joinEntryClear src j => Sys2Proof.Machine.execJoinEntryClear src j s
  | .joinRepeatTimer j => Sys2Proof.Machine.execJoinRepeatTimer j s
  | .joinStallTimeout j => Sys2Proof.Machine.execJoinStallTimeout j s
  | .joinQueryReceive port group => Sys2Proof.Machine.execJoinQueryReceive port group s
  | .joinQueryReport j => Sys2Proof.Machine.execJoinQueryReport j s
  | .joinOldQuerier port => Sys2Proof.Machine.execJoinOldQuerier port s
  | .joinOldQuerierTimeout port => Sys2Proof.Machine.execJoinOldQuerierTimeout port s
  | .healthRiseTimer pinB => Sys2Proof.Machine.execHealthRiseTimer pinB s
  | .healthReleaseWrite src releaseA releaseB => Sys2Proof.Machine.execHealthReleaseWrite src releaseA releaseB s
  | .egressDisable src => Sys2Proof.Machine.execEgressDisable src s
  | .sqDoorbell src q w => Sys2Proof.Machine.execSqDoorbell src q w s
  | .submissionAccept q e => Sys2Proof.Machine.execSubmissionAccept q e s
  | .cqDoorbell src q w => Sys2Proof.Machine.execCqDoorbell src q w s
  | .journalMirrorReceive e => Sys2Proof.Machine.execJournalMirrorReceive e s
  | .journalMirrorReply key st => Sys2Proof.Machine.execJournalMirrorReply key st s
  | .journalResendTimer key => Sys2Proof.Machine.execJournalResendTimer key s
  | .frontierSend => Sys2Proof.Machine.execFrontierSend s
  | .frontierReceive time done => Sys2Proof.Machine.execFrontierReceive time done s
  | .entryStart key core => Sys2Proof.Machine.execEntryStart key core s
  | .budgetTrap core => Sys2Proof.Machine.execBudgetTrap core s
  | .journalEntryFree => Sys2Proof.Machine.execJournalEntryFree s
  | .journalReplay warm entries => Sys2Proof.Machine.execJournalReplay warm entries s
  | .warmResetAnnounce => Sys2Proof.Machine.execWarmResetAnnounce s
  | .warmWaitTimeout => Sys2Proof.Machine.execWarmWaitTimeout s
  | .journalReconcile entries lacks => Sys2Proof.Machine.execJournalReconcile entries lacks s
  | .partnerRejoin sel applied entries => Sys2Proof.Machine.execPartnerRejoin sel applied entries s
  | .nimDisable src => Sys2Proof.Machine.execNimDisable src s
  | .nimKill src => Sys2Proof.Machine.execNimKill src s
  | .nimDrainDone => Sys2Proof.Machine.execNimDrainDone s
  | .serviceStart bad => Sys2Proof.Machine.execServiceStart bad s
  | .serviceRestart n => Sys2Proof.Machine.execServiceRestart n s
  | .pairModeWrite src allOrder partnerNames partnerB w => Sys2Proof.Machine.execPairModeWrite src allOrder partnerNames partnerB w s
  | .nimAdd a rd ra rb => Sys2Proof.Machine.execNimAdd a rd ra rb s
  | .nimSub a rd ra rb => Sys2Proof.Machine.execNimSub a rd ra rb s
  | .nimAnd a rd ra rb => Sys2Proof.Machine.execNimAnd a rd ra rb s
  | .nimOr a rd ra rb => Sys2Proof.Machine.execNimOr a rd ra rb s
  | .nimXor a rd ra rb => Sys2Proof.Machine.execNimXor a rd ra rb s
  | .nimSll a rd ra rb => Sys2Proof.Machine.execNimSll a rd ra rb s
  | .nimSrl a rd ra rb => Sys2Proof.Machine.execNimSrl a rd ra rb s
  | .nimSra a rd ra rb => Sys2Proof.Machine.execNimSra a rd ra rb s
  | .nimMul a rd ra rb => Sys2Proof.Machine.execNimMul a rd ra rb s
  | .nimMulhu a rd ra rb => Sys2Proof.Machine.execNimMulhu a rd ra rb s
  | .nimDivu a rd ra rb => Sys2Proof.Machine.execNimDivu a rd ra rb s
  | .nimRemu a rd ra rb => Sys2Proof.Machine.execNimRemu a rd ra rb s
  | .nimMinu a rd ra rb => Sys2Proof.Machine.execNimMinu a rd ra rb s
  | .nimMaxu a rd ra rb => Sys2Proof.Machine.execNimMaxu a rd ra rb s
  | .nimMin a rd ra rb => Sys2Proof.Machine.execNimMin a rd ra rb s
  | .nimMax a rd ra rb => Sys2Proof.Machine.execNimMax a rd ra rb s
  | .nimSxb a rd ra => Sys2Proof.Machine.execNimSxb a rd ra s
  | .nimSxh a rd ra => Sys2Proof.Machine.execNimSxh a rd ra s
  | .nimSxw a rd ra => Sys2Proof.Machine.execNimSxw a rd ra s
  | .nimClz a rd ra => Sys2Proof.Machine.execNimClz a rd ra s
  | .nimPopc a rd ra => Sys2Proof.Machine.execNimPopc a rd ra s
  | .nimRdst a rd => Sys2Proof.Machine.execNimRdst a rd s
  | .nimAddi a rd ra imm => Sys2Proof.Machine.execNimAddi a rd ra imm s
  | .nimAndi a rd ra imm => Sys2Proof.Machine.execNimAndi a rd ra imm s
  | .nimOri a rd ra imm => Sys2Proof.Machine.execNimOri a rd ra imm s
  | .nimXori a rd ra imm => Sys2Proof.Machine.execNimXori a rd ra imm s
  | .nimSlli a rd ra imm => Sys2Proof.Machine.execNimSlli a rd ra imm s
  | .nimSrli a rd ra imm => Sys2Proof.Machine.execNimSrli a rd ra imm s
  | .nimSrai a rd ra imm => Sys2Proof.Machine.execNimSrai a rd ra imm s
  | .nimLdi a rd imm => Sys2Proof.Machine.execNimLdi a rd imm s
  | .nimLdk a rd imm => Sys2Proof.Machine.execNimLdk a rd imm s
  | .nimCmp a pd cc ra rb => Sys2Proof.Machine.execNimCmp a pd cc ra rb s
  | .nimCmpi a pd cc ra imm => Sys2Proof.Machine.execNimCmpi a pd cc ra imm s
  | .nimPand a pd pa pb => Sys2Proof.Machine.execNimPand a pd pa pb s
  | .nimPor a pd pa pb => Sys2Proof.Machine.execNimPor a pd pa pb s
  | .nimPxor a pd pa pb => Sys2Proof.Machine.execNimPxor a pd pa pb s
  | .nimPandn a pd pa pb => Sys2Proof.Machine.execNimPandn a pd pa pb s
  | .nimBr a off => Sys2Proof.Machine.execNimBr a off s
  | .nimCall a off => Sys2Proof.Machine.execNimCall a off s
  | .nimJr a rd ra rb fn => Sys2Proof.Machine.execNimJr a rd ra rb fn s
  | .nimLcall a off => Sys2Proof.Machine.execNimLcall a off s
  | .nimLd a rd ra sp sz off => Sys2Proof.Machine.execNimLd a rd ra sp sz off s
  | .nimSt a rd ra sp sz off => Sys2Proof.Machine.execNimSt a rd ra sp sz off s
  | .nimAmoAdd a rd ra rb => Sys2Proof.Machine.execNimAmoAdd a rd ra rb s
  | .nimAmoSwap a rd ra rb => Sys2Proof.Machine.execNimAmoSwap a rd ra rb s
  | .nimAmoCas a rd ra rb => Sys2Proof.Machine.execNimAmoCas a rd ra rb s
  | .nimBld a rd ri ent wide => Sys2Proof.Machine.execNimBld a rd ri ent wide s
  | .nimBst a rd ri ent wide env => Sys2Proof.Machine.execNimBst a rd ri ent wide env s
  | .nimBfence a fn => Sys2Proof.Machine.execNimBfence a fn s
  | .nimFlowWrite a rd ra rb rc loc ovf => Sys2Proof.Machine.execNimFlowWrite a rd ra rb rc loc ovf s
  | .nimFlowWithdraw a rd ra rb rc loc => Sys2Proof.Machine.execNimFlowWithdraw a rd ra rb rc loc s
  | .nimLayer a rd ra rb rc f => Sys2Proof.Machine.execNimLayer a rd ra rb rc f s
  | .nimCommit a rd ra rb rc f => Sys2Proof.Machine.execNimCommit a rd ra rb rc f s
  | .nimRdt a rd fn => Sys2Proof.Machine.execNimRdt a rd fn s
  | .nimNspSwitchPoint a rd ra d => Sys2Proof.Machine.execNimNspSwitchPoint a rd ra d s
  | .nimNspFrameBoundary a rd ra d => Sys2Proof.Machine.execNimNspFrameBoundary a rd ra d s
  | .nimJsub a rd ra rb rc f => Sys2Proof.Machine.execNimJsub a rd ra rb rc f s
  | .nimJinfo a rd fn => Sys2Proof.Machine.execNimJinfo a rd fn s
  | .nimPost a ra rb fn => Sys2Proof.Machine.execNimPost a ra rb fn s
  | .nimSend a ra rb fn reply => Sys2Proof.Machine.execNimSend a ra rb fn reply s
  | .nimReply a ra fn reply => Sys2Proof.Machine.execNimReply a ra fn reply s
  | .nimRecvMsg a rd ra => Sys2Proof.Machine.execNimRecvMsg a rd ra s
  | .nimRecvTake a rd ra => Sys2Proof.Machine.execNimRecvTake a rd ra s
  | .nimRecvDone a rd ra => Sys2Proof.Machine.execNimRecvDone a rd ra s
  | .nimRecvRing a rd ra => Sys2Proof.Machine.execNimRecvRing a rd ra s
  | .nimXmit a ra rb rc f => Sys2Proof.Machine.execNimXmit a ra rb rc f s
  | .nimWait a rd ra rb fn => Sys2Proof.Machine.execNimWait a rd ra rb fn s
  | .nimWaitWake n => Sys2Proof.Machine.execNimWaitWake n s
  | .nimYield a fn => Sys2Proof.Machine.execNimYield a fn s
  | .nimHalt a => Sys2Proof.Machine.execNimHalt a s
  | .nimNop a => Sys2Proof.Machine.execNimNop a s
  | .nimSignalPlaneResult key sig value st => Sys2Proof.Machine.execNimSignalPlaneResult key sig value st s
  | .tweedSampleWrite core slot n v kind asp => Sys2Proof.Machine.execTweedSampleWrite core slot n v kind asp s
  | .tweedRunStart core j filled => Sys2Proof.Machine.execTweedRunStart core j filled s
  | .tweedRunDeadline core uncorr => Sys2Proof.Machine.execTweedRunDeadline core uncorr s
  | .tweedBlockPresent core ramps => Sys2Proof.Machine.execTweedBlockPresent core ramps s
  | .tweedApplyArm src core at_ => Sys2Proof.Machine.execTweedApplyArm src core at_ s
  | .twdImemWrite src core a v => Sys2Proof.Machine.execTwdImemWrite src core a v s
  | .twdPlaceWrite src k w sender => Sys2Proof.Machine.execTwdPlaceWrite src k w sender s
  | .twdFollowWrite src n w => Sys2Proof.Machine.execTwdFollowWrite src n w s
  | .bundleSenderWrite src b flow w => Sys2Proof.Machine.execBundleSenderWrite src b flow w s
  | .bundleReceiverWrite src r w h => Sys2Proof.Machine.execBundleReceiverWrite src r w h s
  | .tweedScrub corrected rows => Sys2Proof.Machine.execTweedScrub corrected rows s
  | .tweedCoreSwap core phys => Sys2Proof.Machine.execTweedCoreSwap core phys s
  | .tweedDisable src => Sys2Proof.Machine.execTweedDisable src s
  | .tweedKill src => Sys2Proof.Machine.execTweedKill src s
  | .twdNop core b => Sys2Proof.Machine.execTwdNop core b s
  | .twdMac core b ad va vb sh => Sys2Proof.Machine.execTwdMac core b ad va vb sh s
  | .twdMsu core b ad va vb sh => Sys2Proof.Machine.execTwdMsu core b ad va vb sh s
  | .twdMpy core b ad va vb sh => Sys2Proof.Machine.execTwdMpy core b ad va vb sh s
  | .twdQmac core b ad va vb sh => Sys2Proof.Machine.execTwdQmac core b ad va vb sh s
  | .twdQmsu core b ad va vb sh => Sys2Proof.Machine.execTwdQmsu core b ad va vb sh s
  | .twdQmpy core b ad va vb sh => Sys2Proof.Machine.execTwdQmpy core b ad va vb sh s
  | .twdClr core b mask => Sys2Proof.Machine.execTwdClr core b mask s
  | .twdRnd core b vd ad fmt sh => Sys2Proof.Machine.execTwdRnd core b vd ad fmt sh s
  | .twdVadd core b vd va vb => Sys2Proof.Machine.execTwdVadd core b vd va vb s
  | .twdVsub core b vd va vb => Sys2Proof.Machine.execTwdVsub core b vd va vb s
  | .twdVmov core b vd va => Sys2Proof.Machine.execTwdVmov core b vd va s
  | .twdVbc core b vd va k => Sys2Proof.Machine.execTwdVbc core b vd va k s
  | .twdVtoa core b ad va => Sys2Proof.Machine.execTwdVtoa core b ad va s
  | .twdLoop core b cnt len => Sys2Proof.Machine.execTwdLoop core b cnt len s
  | .twdLpr core b st cnt len => Sys2Proof.Machine.execTwdLpr core b st cnt len s
  | .twdBr core b off => Sys2Proof.Machine.execTwdBr core b off s
  | .twdSetx core b r addr => Sys2Proof.Machine.execTwdSetx core b r addr s
  | .twdSety core b r addr => Sys2Proof.Machine.execTwdSety core b r addr s
  | .twdEob core b => Sys2Proof.Machine.execTwdEob core b s
  | .twdVld core b y m => Sys2Proof.Machine.execTwdVld core b y m s
  | .twdVst core b y m => Sys2Proof.Machine.execTwdVst core b y m s
  | .twdVbl core b y m => Sys2Proof.Machine.execTwdVbl core b y m s
  | .aspEnable src tx n w => Sys2Proof.Machine.execAspEnable src tx n w s
  | .aspDisable src tx n => Sys2Proof.Machine.execAspDisable src tx n s
  | .aspKill src tx n => Sys2Proof.Machine.execAspKill src tx n s
  | .aspArm src tx n => Sys2Proof.Machine.execAspArm src tx n s
  | .aspMaskWrite src tx n w => Sys2Proof.Machine.execAspMaskWrite src tx n w s
  | .aspFrameStart tx n period frame instants => Sys2Proof.Machine.execAspFrameStart tx n period frame instants s
  | .aspBckMissing tx n => Sys2Proof.Machine.execAspBckMissing tx n s
  | .aspWsMissing tx n => Sys2Proof.Machine.execAspWsMissing tx n s
  | .aspClockFault tx n f => Sys2Proof.Machine.execAspClockFault tx n f s
  | .aspResync tx n => Sys2Proof.Machine.execAspResync tx n s
  | .aspRateChange tx n rate => Sys2Proof.Machine.execAspRateChange tx n rate s
  | .aspDataStart tx n => Sys2Proof.Machine.execAspDataStart tx n s
  | .aspTailDone tx n => Sys2Proof.Machine.execAspTailDone tx n s
  | .pipeEnable src v w => Sys2Proof.Machine.execPipeEnable src v w s
  | .pipeDisable src v => Sys2Proof.Machine.execPipeDisable src v s
  | .pipeKill src v => Sys2Proof.Machine.execPipeKill src v s
  | .pipeDrainDone v => Sys2Proof.Machine.execPipeDrainDone v s
  | .surfaceConfigWrite src m w => Sys2Proof.Machine.execSurfaceConfigWrite src m w s
  | .surfGenApply => Sys2Proof.Machine.execSurfGenApply s
  | .bar2Access off write => Sys2Proof.Machine.execBar2Access off write s
  | .vampDisable src => Sys2Proof.Machine.execVampDisable src s
  | .lastEvaluation o => Sys2Proof.Machine.execLastEvaluation o s
  | .refLossDetect r fault => Sys2Proof.Machine.execRefLossDetect r fault s
  | .refValid r => Sys2Proof.Machine.execRefValid r s
  | .refQualify r => Sys2Proof.Machine.execRefQualify r s
  | .slewStep phase => Sys2Proof.Machine.execSlewStep phase s
  | .lastLock => Sys2Proof.Machine.execLastLock s
  | .holdoverLost => Sys2Proof.Machine.execHoldoverLost s
  | .loopOpen src => Sys2Proof.Machine.execLoopOpen src s
  | .loopClose src => Sys2Proof.Machine.execLoopClose src s
  | .steerWrite src v => Sys2Proof.Machine.execSteerWrite src v s
  | .refCfgWrite src r w => Sys2Proof.Machine.execRefCfgWrite src r w s
  | .oscHoldFail => Sys2Proof.Machine.execOscHoldFail s
  | .refclkFail b => Sys2Proof.Machine.execRefclkFail b s
  | .laneClockUnqual synths => Sys2Proof.Machine.execLaneClockUnqual synths s
  | .ageingRecord offset => Sys2Proof.Machine.execAgeingRecord offset s
  | .ageingReplan => Sys2Proof.Machine.execAgeingReplan s
  | .tbSet src k => Sys2Proof.Machine.execTbSet src k s
  | .tbStep src k => Sys2Proof.Machine.execTbStep src k s
  | .tbModeWrite src k w => Sys2Proof.Machine.execTbModeWrite src k w s
  | .ptpMessageReceive p m f => Sys2Proof.Machine.execPtpMessageReceive p m f s
  | .srvFeedWrite src k v => Sys2Proof.Machine.execSrvFeedWrite src k v s
  | .ptpAnnounceSend k p => Sys2Proof.Machine.execPtpAnnounceSend k p s
  | .ptpSyncSend k p => Sys2Proof.Machine.execPtpSyncSend k p s
  | .ptpDelayReqSend k p tx => Sys2Proof.Machine.execPtpDelayReqSend k p tx s
  | .ptpPdelayReqSend k p tx => Sys2Proof.Machine.execPtpPdelayReqSend k p tx s
  | .announceTimeout k p => Sys2Proof.Machine.execAnnounceTimeout k p s
  | .servoSamplesStop k => Sys2Proof.Machine.execServoSamplesStop k s
  | .ptpPortStateWrite src k p w => Sys2Proof.Machine.execPtpPortStateWrite src k p w s
  | .alignEdge k => Sys2Proof.Machine.execAlignEdge k s
  | .triggerArm src t w => Sys2Proof.Machine.execTriggerArm src t w s
  | .triggerFire t => Sys2Proof.Machine.execTriggerFire t s
  | .triggerPulseEnd t => Sys2Proof.Machine.execTriggerPulseEnd t s
  | .triggerDrain src t => Sys2Proof.Machine.execTriggerDrain src t s
  | .triggerKill src t => Sys2Proof.Machine.execTriggerKill src t s
  | .captureEdge c rising => Sys2Proof.Machine.execCaptureEdge c rising s
  | .captureRead c => Sys2Proof.Machine.execCaptureRead c s
  | .ntmDisable src => Sys2Proof.Machine.execNtmDisable src s
  | .laneLossOfLock ix => Sys2Proof.Machine.execLaneLossOfLock ix s
  | .eyeMeasure ix o => Sys2Proof.Machine.execEyeMeasure ix o s
  | .laneRecal src ix => Sys2Proof.Machine.execLaneRecal src ix s
  | .laneRecalStep ix offset larger => Sys2Proof.Machine.execLaneRecalStep ix offset larger s
  | .laneRetrain src ix => Sys2Proof.Machine.execLaneRetrain src ix s
  | .txeqWrite src ix w => Sys2Proof.Machine.execTxeqWrite src ix w s
  | .prbsWrite src ix w => Sys2Proof.Machine.execPrbsWrite src ix w s
  | .laceLinkEnable src k w => Sys2Proof.Machine.execLaceLinkEnable src k w s
  | .laceIdentityReceive k o => Sys2Proof.Machine.execLaceIdentityReceive k o s
  | .laceIdentTimeout k => Sys2Proof.Machine.execLaceIdentTimeout k s
  | .laceRetry k => Sys2Proof.Machine.execLaceRetry k s
  | .laceRateStep k => Sys2Proof.Machine.execLaceRateStep k s
  | .laceTrainDone k lanes => Sys2Proof.Machine.execLaceTrainDone k lanes s
  | .laceQualEnd k qs recId => Sys2Proof.Machine.execLaceQualEnd k qs recId s
  | .laceLinkDisable src k => Sys2Proof.Machine.execLaceLinkDisable src k s
  | .laceDrainDone k => Sys2Proof.Machine.execLaceDrainDone k s
  | .laceLinkKill src k => Sys2Proof.Machine.execLaceLinkKill src k s
  | .laceLaneFail k j resent => Sys2Proof.Machine.execLaceLaneFail k j resent s
  | .laceAllLanesLost k => Sys2Proof.Machine.execLaceAllLanesLost k s
  | .laceSecondLaneLost k j => Sys2Proof.Machine.execLaceSecondLaneLost k j s
  | .laceReaddAttempt k t q => Sys2Proof.Machine.execLaceReaddAttempt k t q s
  | .laceReaddRetry k => Sys2Proof.Machine.execLaceReaddRetry k s
  | .laceLinkRetrain src k => Sys2Proof.Machine.execLaceLinkRetrain src k s
  | .laceLinkRecal src k j => Sys2Proof.Machine.execLaceLinkRecal src k j s
  | .groupModeWrite src g w => Sys2Proof.Machine.execGroupModeWrite src g w s
  | .portEnable src p w => Sys2Proof.Machine.execPortEnable src p w s
  | .portLinkUp p => Sys2Proof.Machine.execPortLinkUp p s
  | .portTransmit p media ptpBytes onTime => Sys2Proof.Machine.execPortTransmit p media ptpBytes onTime s
  | .pauseReceive p pfc classes quanta => Sys2Proof.Machine.execPauseReceive p pfc classes quanta s
  | .pauseExpire p => Sys2Proof.Machine.execPauseExpire p s
  | .lpiEnter p => Sys2Proof.Machine.execLpiEnter p s
  | .wakeFrame p f => Sys2Proof.Machine.execWakeFrame p f s
  | .rxrTailDoorbell src r tail => Sys2Proof.Machine.execRxrTailDoorbell src r tail s
  | .rxrCoalesceTimer r => Sys2Proof.Machine.execRxrCoalesceTimer r s
  | .txrTailDoorbell src r tail frames => Sys2Proof.Machine.execTxrTailDoorbell src r tail frames s
  | .txFrameComplete p time => Sys2Proof.Machine.execTxFrameComplete p time s
  | .portDisable src p => Sys2Proof.Machine.execPortDisable src p s
  | .portDrainDone p => Sys2Proof.Machine.execPortDrainDone p s
  | .portKill src p => Sys2Proof.Machine.execPortKill src p s
  | .ringDisable src rx r => Sys2Proof.Machine.execRingDisable src rx r s
  | .nptDisable src kill => Sys2Proof.Machine.execNptDisable src kill s
  | .hbmPpr bank row page inUse => Sys2Proof.Machine.execHbmPpr bank row page inUse s
  | .unitTest src u => Sys2Proof.Machine.execUnitTest src u s
  | .unitSwap src u => Sys2Proof.Machine.execUnitSwap src u s
  | .unitRetest src u => Sys2Proof.Machine.execUnitRetest src u s
  | .autoTestTrigger u corr implicated => Sys2Proof.Machine.execAutoTestTrigger u corr implicated s
  | .inplaceCheckDone u passed => Sys2Proof.Machine.execInplaceCheckDone u passed s
  | .unitSwapPoint u => Sys2Proof.Machine.execUnitSwapPoint u s
  | .spareCheckFail u => Sys2Proof.Machine.execSpareCheckFail u s
  | .offlineTestDone x passed => Sys2Proof.Machine.execOfflineTestDone x passed s
  | .avsStep slack lower => Sys2Proof.Machine.execAvsStep slack lower s
  | .coreAgeingRecord required slack => Sys2Proof.Machine.execCoreAgeingRecord required slack s
  | .mramScrub corrected rows => Sys2Proof.Machine.execMramScrub corrected rows s
  | .drainBoundExpire target => Sys2Proof.Machine.execDrainBoundExpire target s
  | .partnerSilenceTimeout => Sys2Proof.Machine.execPartnerSilenceTimeout s
  | .partnerFencedNotice => Sys2Proof.Machine.execPartnerFencedNotice s
  | .partnerProbeTimeout => Sys2Proof.Machine.execPartnerProbeTimeout s
  | .partnerProbeAnswer => Sys2Proof.Machine.execPartnerProbeAnswer s
  | .partnerReturn => Sys2Proof.Machine.execPartnerReturn s
  | .spareLossNotice id => Sys2Proof.Machine.execSpareLossNotice id s
  | .spareClaimDelay => Sys2Proof.Machine.execSpareClaimDelay s
  | .spareClaimReceive claimant id => Sys2Proof.Machine.execSpareClaimReceive claimant id s
  | .spareClaimGrant survivor st => Sys2Proof.Machine.execSpareClaimGrant survivor st s
  | .spareClaimTimeout => Sys2Proof.Machine.execSpareClaimTimeout s
  | .spareAssume src id => Sys2Proof.Machine.execSpareAssume src id s
  | .spareRelease src => Sys2Proof.Machine.execSpareRelease src s
  | .fenceCommand src => Sys2Proof.Machine.execFenceCommand src s
  | .rejoinCommand src => Sys2Proof.Machine.execRejoinCommand src s
  | .fenceRepairDone passed => Sys2Proof.Machine.execFenceRepairDone passed s
  | .counterRecordWrite => Sys2Proof.Machine.execCounterRecordWrite s
  | .snapshotAuto => Sys2Proof.Machine.execSnapshotAuto s
  | .snapshotDemand src => Sys2Proof.Machine.execSnapshotDemand src s
  | .snapshotVerifyDone failing => Sys2Proof.Machine.execSnapshotVerifyDone failing s
  | .demandRefill => Sys2Proof.Machine.execDemandRefill s
  | .awlWindowClose => Sys2Proof.Machine.execAwlWindowClose s
  | .awlRecordWrite ok => Sys2Proof.Machine.execAwlRecordWrite ok s
  | .awlFreeze src => Sys2Proof.Machine.execAwlFreeze src s
  | .awlUnfreeze src => Sys2Proof.Machine.execAwlUnfreeze src s
  | .awlFreezeExpire => Sys2Proof.Machine.execAwlFreezeExpire s
  | .awlReadIndex src w => Sys2Proof.Machine.execAwlReadIndex src w s
  | .awlReadLatchDone torn => Sys2Proof.Machine.execAwlReadLatchDone torn s
  | .awlClearGo src match_ => Sys2Proof.Machine.execAwlClearGo src match_ s
  | .awlClearLockoutExpire => Sys2Proof.Machine.execAwlClearLockoutExpire s
  | .awlRetryMram src => Sys2Proof.Machine.execAwlRetryMram src s
  | .awlRetryMramDone passed => Sys2Proof.Machine.execAwlRetryMramDone passed s
  | .powerFailWarning records => Sys2Proof.Machine.execPowerFailWarning records s
  | .updHeader port session layout h => Sys2Proof.Machine.execUpdHeader port session layout h s
  | .updData port session layout off len => Sys2Proof.Machine.execUpdData port session layout off len s
  | .updDataProgrammed => Sys2Proof.Machine.execUpdDataProgrammed s
  | .updEnd port session layout => Sys2Proof.Machine.execUpdEnd port session layout s
  | .updBodyVerified matches_ => Sys2Proof.Machine.execUpdBodyVerified matches_ s
  | .updAbortDatagram port session layout => Sys2Proof.Machine.execUpdAbortDatagram port session layout s
  | .updQuery port session layout => Sys2Proof.Machine.execUpdQuery port session layout s
  | .updLockIdleTimeout => Sys2Proof.Machine.execUpdLockIdleTimeout s
  | .updActivate src level => Sys2Proof.Machine.execUpdActivate src level s
  | .updConfirm src => Sys2Proof.Machine.execUpdConfirm src s
  | .updFallback src => Sys2Proof.Machine.execUpdFallback src s
  | .updCtrlAbort src => Sys2Proof.Machine.execUpdCtrlAbort src s
  | .updConfirmTimeout => Sys2Proof.Machine.execUpdConfirmTimeout s
  | .microcodeLoad block good => Sys2Proof.Machine.execMicrocodeLoad block good s
  | .microcodeSwap block => Sys2Proof.Machine.execMicrocodeSwap block s
  | .porstFall records => Sys2Proof.Machine.execPorstFall records s
  | .porstRise strap sideB => Sys2Proof.Machine.execPorstRise strap sideB s
  | .stbyPgRise => Sys2Proof.Machine.execStbyPgRise s
  | .stbyPgFall records => Sys2Proof.Machine.execStbyPgFall records s
  | .warmRstAssert => Sys2Proof.Machine.execWarmRstAssert s
  | .warmBoot good converted data => Sys2Proof.Machine.execWarmBoot good converted data s
  | .glbWarmReset w => Sys2Proof.Machine.execGlbWarmReset w s
  | .watchdogKick src w => Sys2Proof.Machine.execWatchdogKick src w s
  | .watchdogTimeout => Sys2Proof.Machine.execWatchdogTimeout s
  | .pcieHotReset => Sys2Proof.Machine.execPcieHotReset s
  | .pciePerst => Sys2Proof.Machine.execPciePerst s
  | .bootRomDone retentionOk => Sys2Proof.Machine.execBootRomDone retentionOk s
  | .imageVerifyDone good data => Sys2Proof.Machine.execImageVerifyDone good data s
  | .hbmTrainDone converted => Sys2Proof.Machine.execHbmTrainDone converted s
  | .hbmTrainFail stack => Sys2Proof.Machine.execHbmTrainFail stack s
  | .stateRestoreDone views => Sys2Proof.Machine.execStateRestoreDone views s
  | .lanesReady => Sys2Proof.Machine.execLanesReady s
  | .replayPathTimeout => Sys2Proof.Machine.execReplayPathTimeout s
  | .spareExit assumed => Sys2Proof.Machine.execSpareExit assumed s
  | .glbRoleWrite src w => Sys2Proof.Machine.execGlbRoleWrite src w s
  | .clockDomainRequest d => Sys2Proof.Machine.execClockDomainRequest d s
  | .pllLock d => Sys2Proof.Machine.execPllLock d s
  | .pllLockTimeout d => Sys2Proof.Machine.execPllLockTimeout d s
  | .clockHoldExpire d => Sys2Proof.Machine.execClockHoldExpire d s
  | .clockStopDone d => Sys2Proof.Machine.execClockStopDone d s
  | .thermalAlarm sensor t => Sys2Proof.Machine.execThermalAlarm sensor t s
  | .thermalTrip records => Sys2Proof.Machine.execThermalTrip records s
  | .thermalRecover t => Sys2Proof.Machine.execThermalRecover t s
  | .xtalFail => Sys2Proof.Machine.execXtalFail s
  | .pmbusPoll rails => Sys2Proof.Machine.execPmbusPoll rails s
  | .portFault p loc rem => Sys2Proof.Machine.execPortFault p loc rem s
  | .oscHoldReturn synths => Sys2Proof.Machine.execOscHoldReturn synths s
  | .refclkReturn b => Sys2Proof.Machine.execRefclkReturn b s
  | .xtalReturn => Sys2Proof.Machine.execXtalReturn s
  | .partnerCompleteReport key => Sys2Proof.Machine.execPartnerCompleteReport key s
  | .partnerProbeReceive => Sys2Proof.Machine.execPartnerProbeReceive s
  | .msixVectorUnmask v => Sys2Proof.Machine.execMsixVectorUnmask v s

end Sys2Proof.Machine
end

