-- ==== Sys2Proof/Machine/Tick.lean ====
section
/-! DEFINITION. What one period of the Insole 32.768 kHz oscillator does: the block's idle step (log 4). Time bases (R6, R443), the
journal clock (R255), Last's steering and waits (R414, R428), the ages that registers show, and operating seconds (R568). -/

namespace Sys2Proof.Machine

/-- The length of an Insole period in units of 2⁻¹⁶ ns: 10⁹ × 2¹⁶ / 32,768. -/
def insolePeriod : FineTime := 2000000000

/-- A RUNNING time base advances at 1 + r_k, with r_k in ppb; a STOPPED one holds its time (R442, R443). -/
def State.advanceTb (s : State) (k : Nat) : State :=
  if s.tbRunning k then
    { s with tb := Tbl.set (fun _ => 0) k ((s.tbNow k : Int) + (insolePeriod : Int) + 2 * s.rk k).toNat s.tb }
  else s

/-- Nanoseconds in a number of Insole periods. -/
def tickNs (t : Nat) : Nat := t * 1000000000 / 32768

/-- The journal clock over the period that has just passed (R255): TB0's time while TB0 is RUNNING and not behind it, else it runs
on from its own value. -/
def State.advanceClock (s : State) : State :=
  let t := nimTime (s.tbNow 0)
  let c := s.nim.clock
  { s with nim := { s.nim with
    clock := if s.tbRunning 0 ∧ c ≤ t then t else c + (tickNs s.tick - tickNs (s.tick - 1)) } }

/-- The age of the partner's last frontier, in µs (Table 06.14). -/
def State.agePartner (s : State) : State :=
  if s.mirrored then
    s.setFld F.NIM_PAIR_STAT_SINCE 0 (satTo 16 (s.fld F.NIM_PAIR_STAT_SINCE 0 + (tickNs s.tick / 1000 - tickNs (s.tick - 1) / 1000)))
  else s

/-- What is shown in whole seconds: the time since a partner's loss, the update lock's idle time and the time left for a
confirmation. -/
def State.showSeconds (s : State) : State :=
  let s := if s.rsl.lossTick = 0 then s else s.setFld F.RSL_PAIR_STAT_SINCE 0 (satTo 16 ((s.tick + 1 - s.rsl.lossTick) / 32768))
  let s := if s.locked then s.setFld F.UPD_LOCK_IDLE_S 0 (satTo 8 ((s.tick - s.upd.lastTick) / 32768)) else s
  if s.onTrial then s.setFld F.UPD_CONFIRM_LEFT_SEC 0 (s.fld F.UPD_CONFIRM_LEFT_SEC 0 - 1) else s

/-- What a second of the Insole oscillator does: operating seconds in SPARE and ACTIVE (R568), Last's waits and the ages shown. -/
def State.secondTick (s : State) : State :=
  let s := if powerSpare ≤ s.power then s.count .INS_OPSEC 0 1 else s
  let s := s.waitTick.showSeconds
  if s.tick / 32768 % 60 = 0 then s.showHold else s

/-- One Insole period (log 4): nothing without standby power, and the count alone while the part is held in cold reset. -/
def State.idleTick (s : State) : State :=
  if s.power = 0 then s
  else
    let s := { s with tick := s.tick + 1 }
    if s.host.inReset then s
    else
      let s := ([0, 1, 2, 3].foldl State.advanceTb s).advanceClock.agePartner.steerTick
      let s := [0, 1, 2, 3].foldl State.rampTick s
      let s := if s.tick % 32768 = 0 then s.secondTick else s
      if s.boot.later.isEmpty then s else s.runLater

end Sys2Proof.Machine
end

