-- ==== Sys2Proof/Safety.lean ====
section
/-! DEFINITION. The terms in which claims speak of a safe run: what a command leaves alone, and what every state of the part
must satisfy. -/

namespace Sys2Proof.Machine

/-- The parts of the state beside its registers. -/
inductive Part where
  | pending | resp | rdata | latchHigh | latchLow | freeCtr | sent | tick | tb | host | awl | ing | twl | nim | tks | egr | twd
  | asp | vmp | lst | ntm | net | rsl | keep | upd | boot | frameStore | dir
  deriving DecidableEq, Repr

/-- A part of the state is the same in two states. -/
def Part.same (s t : State) : Part → Prop
  | .pending => t.pending = s.pending
  | .resp => t.resp = s.resp
  | .rdata => t.rdata = s.rdata
  | .latchHigh => t.latchHigh = s.latchHigh
  | .latchLow => t.latchLow = s.latchLow
  | .freeCtr => t.freeCtr = s.freeCtr
  | .sent => t.sent = s.sent
  | .tick => t.tick = s.tick
  | .tb => t.tb = s.tb
  | .host => t.host = s.host
  | .awl => t.awl = s.awl
  | .ing => t.ing = s.ing
  | .twl => t.twl = s.twl
  | .nim => t.nim = s.nim
  | .tks => t.tks = s.tks
  | .egr => t.egr = s.egr
  | .twd => t.twd = s.twd
  | .asp => t.asp = s.asp
  | .vmp => t.vmp = s.vmp
  | .lst => t.lst = s.lst
  | .ntm => t.ntm = s.ntm
  | .net => t.net = s.net
  | .rsl => t.rsl = s.rsl
  | .keep => t.keep = s.keep
  | .upd => t.upd = s.upd
  | .boot => t.boot = s.boot
  | .frameStore => t.frameStore = s.frameStore
  | .dir => t.dir = s.dir

/-- What a command may change: parts of the state, and registers. -/
structure Foot where
  parts : List Part
  regs : List Reg
  deriving DecidableEq, Repr

/-- A command completes: it answers a next state, and that state satisfies P. -/
def Completes (P : State → Prop) (o : Host.Outcome State Fault Refusal) : Prop := ∃ t, o = .next t ∧ P t

/-- The word that a store of v leaves in element i of a register: the RW bits take the written value and the others keep theirs
(R4), and a register of 32 bits keeps 32 (R3). -/
def State.stored (s : State) (r : Reg) (i : Nat) (v : Word) : Word :=
  r.fit ((s.reg r i &&& ~~~(BitVec.ofNat 64 r.info.mask)) ||| (v &&& BitVec.ofNat 64 r.info.mask))

/-- What element i of a counter register reads after n more counts: a 32-bit counter saturates, a 64-bit one does not run out
(R557). -/
def State.counted (s : State) (r : Reg) (i n : Nat) : Word :=
  r.fit (BitVec.ofNat 64 (if r.info.wide then (s.reg r i).toNat + n else satTo 32 ((s.reg r i).toNat + n)))

/-- An instruction issues on context x: the core runs x, whose pc lies inside its program, the guard holds, and the budget covers
the instruction (R270, R283, R284). -/
abbrev State.issues (s : State) (a : NimAt) (i : Issue) (x : Nat) : Prop :=
  s.runningOn a.core = some x ∧ (s.ctx x).pc < s.spaceWords (s.ctx x) (s.ctx x).space ∧ (s.ctx x).pred a.pg ≠ a.neg ∧
    s.overBudget (s.ctx x) a.pg i = false

/-- From s to t, context x writes v to its general register rd, where g0 stays 0, and goes on to its next word; its other general
registers, its predicates, the other contexts and the registers of the block are as they were. -/
abbrev State.writesReg (s t : State) (x rd : Nat) (v : Word) : Prop :=
  (t.ctx x).reg rd = (if rd = 0 then 0 else v) ∧ (∀ r, r < 32 → r ≠ rd → (t.ctx x).reg r = (s.ctx x).reg r) ∧
    (t.ctx x).p = (s.ctx x).p ∧ (t.ctx x).pc = (s.ctx x).pc + 1 ∧ (∀ y, y < 128 → y ≠ x → t.ctx y = s.ctx y) ∧ t.regs = s.regs

/-- From s to t, context x writes b to its predicate pd, where p0 stays 1, and goes on to its next word; its other predicates, its
general registers, the other contexts and the registers of the block are as they were. -/
abbrev State.writesPred (s t : State) (x pd : Nat) (b : Bool) : Prop :=
  (t.ctx x).pred pd = (if pd = 0 then true else b) ∧ (∀ p, p < 8 → p ≠ pd → (t.ctx x).pred p = (s.ctx x).pred p) ∧
    (t.ctx x).g = (s.ctx x).g ∧ (t.ctx x).pc = (s.ctx x).pc + 1 ∧ (∀ y, y < 128 → y ≠ x → t.ctx y = s.ctx y) ∧ t.regs = s.regs

/-- A signal-plane instruction of entry k is sent from context x for the first time: it issues, fewer than 24 went before it, and
neither its entry, nor its target, nor an account or order under way knows its index (R269, R296). -/
abbrev State.sends (s : State) (a : NimAt) (reads : List Nat) (x : Nat) (k : Key) : Prop :=
  s.issues a ⟨none, reads, 8⟩ x ∧ (s.ctx x).entry = some k ∧ (s.ctx x).sig < 24 ∧
    ((s.entry k).bind fun e => e.sigs[(s.ctx x).sig]?) = none ∧ s.appliedAt k (s.ctx x).sig = none ∧ s.reattach x k (s.ctx x).sig = none

/-- The state in which a signal-plane instruction is on its way: its context has given up the core and awaits the result, which
goes to rd (R233, R296). -/
def State.sentBy (s : State) (a : NimAt) (reads : List Nat) (x rd : Nat) : State :=
  (s.setCtx x { ((s.ctx x).issue a.pg ⟨none, reads, 8⟩ noReg 0) with
    sig := (s.ctx x).sig + 1
    rd := rd }).giveUp a.core .result

/-- The listed elements of a register. -/
def State.row (s : State) (r : Reg) : Tbl Word := Tbl.get (fun _ => []) s.regs r.ctorIdx

/-- The register store is sound: it is in canonical form, so that equal contents are equal data, and no 32-bit register holds
more than 32 bits (R3). -/
def RegsOk (s : State) : Prop :=
  Tbl.wf (fun _ => []) s.regs = true ∧
  ∀ r : Reg, Tbl.wf r.reset (s.row r) = true ∧ (r.info.wide = false → ∀ e ∈ s.row r, e.2.toNat < 2 ^ 32)

/-- t differs from s in nothing but the parts and the registers of a footprint: every other part, and every element of every
other register, is as it was; and its register store is sound if that of s is. -/
structure Frame (f : Foot) (s t : State) : Prop where
  parts : ∀ p, p ∉ f.parts → p.same s t
  regs : ∀ r i, r ∉ f.regs → t.reg r i = s.reg r i
  sound : RegsOk s → RegsOk t

/-! ### Registers that change together -/

/-- The registers that staging an Awl record may change (R584, R585). -/
def awlFoot : List Reg := [.AWL_INT_STAT, .AWL_STATUS, .AWL_MERGED, .INS_RET_STAT, .AWL_LOST]

/-- The registers that a refused host write may change beside its block's INT_STAT (R622, R630, R663). -/
def pcieFoot : List Reg := [.GLB_INT_SUM, .GLB_INT_STAT, .GLB_PCIE_ERR]

/-- The registers that show what the admitted routes use (R94, R113). -/
def routeFoot : List Reg := [.TWL_SP_STAT, .TWL_SP_RES, .TWL_SP_EGR_RES, .TWL_LK_RES, .TWL_ST_CFG, .TWL_RSET_USED]

/-- The registers that show the journal, its queues, services and cores, and the boot stage that a replay ends (R245 to R271). -/
def entryFoot : List Reg := [.NIM_CQ_TAIL, .NIM_Q_STAT, .NIM_JRN_FREE, .NIM_JRN_OPEN, .NIM_STATUS, .BOOT_TIME, .BOOT_STAGE,
  .NIM_SVC_STAT, .NIM_CORE_STAT]

/-- The registers that show a program's end or trap (R268, R282). -/
def trapFoot : List Reg := [.NIM_INT_STAT, .NIM_CORE_TRAPS, .NIM_TRAP_LAST, .NIM_SVC_TRAP, .NIM_COMPLETED]

/-- The registers that show what a Tweed core does (chapter 8). -/
def cycleFoot : List Reg := [.TWD_CORE_TRAP, .TWD_CORE_CYC, .TWD_CORE_CYCMAX, .TWD_CORE_STAT, .TWD_CORE_FLAGS, .TWD_INT_STAT]

end Sys2Proof.Machine
end

