-- ==== Sys2Proof/Certificates/Slice0/Obligations.lean ====
section
/-! DEFINITION. The statements about the model, for its provers: how a step runs, reset, the invariant of the register store, what the
commands of each family do, and what they leave unchanged. -/

open Sys2Proof Sys2Proof.Machine

set_option maxRecDepth 20000

/-- For every command c, every rest of the queue and every state: the step of the state whose queue is c followed by the rest
answers exactly what exec answers for c on the state whose queue is the rest. The queue is the model's own (log 3): commands
come from outside and are taken first in, first out. -/
def Obligations.StepRunsFrontCommand : Prop :=
  ∀ (c : Instr) (rest : List Instr) (s : State),
    step { s with pending := c :: rest } = exec c { s with pending := rest }

/-- The model's choice (log 4): on an empty queue a step completes and leaves the queue empty. Without standby power nothing
changes; else one period of the 32.768 kHz oscillator is counted; a part held in cold reset does that and nothing more; and in
a part that runs, with nothing put off until later, each of the four time bases that is RUNNING moves on by 10^9 * 2^16 /
32768 units of 2^-16 ns, corrected by its rate in ppb (R442, R443), and one that is STOPPED keeps its time. -/
def Obligations.StepIdlesOneInsolePeriod : Prop :=
  ∀ s : State, s.pending = [] →
    Completes (fun t => t.pending = [] ∧ (s.power = 0 → t = s) ∧ (s.power ≠ 0 → t.tick = s.tick + 1) ∧
      (s.power ≠ 0 → s.host.inReset = true → t = { s with tick := s.tick + 1 }) ∧
      (s.power ≠ 0 → s.host.inReset = false → s.boot.later = [] → ∀ k : Nat, k < 4 →
        t.tbNow k = if s.tbRunning k then ((s.tbNow k : Int) + 2000000000 + 2 * s.rk k).toNat else s.tbNow k)) (step s)

/-- For every command and every state exec answers a next state: none faults and none is refused, whatever its operands; and the
queue of waiting commands is as it was (a command's effect is on everything but the queue, log 3). -/
def Obligations.EveryCommandCompletesAndKeepsTheQueue : Prop :=
  ∀ (c : Instr) (s : State), Completes (fun t => t.pending = s.pending) (exec c s)

/-- At reset the register store is in its canonical form (no element is listed that holds its reset value, so that equal contents
are equal data: the model's own invariant), and no register of 32 bits holds more than 32 bits (R3). -/
def Obligations.RegistersSoundAtReset : Prop :=
  RegsOk State.reset

/-- For every state whose register store is sound, whatever stands in its queue: if a step answers a next state, the register
store of that state is sound too. Sound means: in canonical form, so that equal contents are equal data (the model's own
invariant), and no register of 32 bits holds more than 32 bits (R3). -/
def Obligations.StepKeepsRegistersSound : Prop :=
  ∀ s t : State, RegsOk s → step s = .next t → RegsOk t

/-- The values that the register tables of the chapters give at reset, one or more registers of each block: block enables,
configuration of queues, ports, rings, time bases, clocks and limits, and the identity of the part; and no command waits at
reset. -/
def Obligations.ResetValuesOfTheRegisterTables : Prop :=
  State.reset.pending = [] ∧
  (∀ d, State.reset.reg .EGR_OTD_PHASE d = 0) ∧
  State.reset.reg .GLB_ID 0 = 0x71280100 ∧
  State.reset.reg .GLB_ALERT_EN 0 = 0x3FF ∧
  State.reset.reg .GLB_TEMP_CFG 0 = 0x69 ∧
  State.reset.reg .BOOT_WDOG 0 = 0x3E8 ∧
  State.reset.reg .INS_CLK_CFG 0 = 0x4000A ∧
  State.reset.reg .ING_CTRL 0 = 0 ∧
  State.reset.reg .TWL_CTRL 0 = 0 ∧
  State.reset.reg .NIM_EXEC_CFG 0 = 0x249F0 ∧
  State.reset.reg .NIM_PAIR_CFG 0 = 0x3E8 ∧
  (∀ q, State.reset.reg .NIM_Q_CFG q = 0xC0000) ∧
  (∀ i : Nat, i < 64 → State.reset.reg .NIM_AFF_MAP i = BitVec.ofNat 64 (i % 16)) ∧
  State.reset.reg .TWD_CTRL 0 = 0 ∧
  State.reset.reg .ASP_CTRL 0 = 0 ∧
  State.reset.reg .VMP_CTRL 0 = 0 ∧
  State.reset.reg .LST_CFG 0 = 0x640214 ∧
  (∀ k, State.reset.reg .NTM_TB_CFG k = 0x10000) ∧
  State.reset.reg .WLT_QUAL 0 = 0xA326400 ∧
  State.reset.reg .WLT_EYE_MIN 0 = 0xC082810 ∧
  (∀ p, State.reset.reg .NPT_PORT_CFG p = 0xE0A2400) ∧
  (∀ p, State.reset.reg .NPT_PORT_PRIO p = 0x560) ∧
  (∀ r, State.reset.reg .NPT_RXR_CFG r = 0x800A000) ∧
  State.reset.reg .RSL_CTRL 0 = 1 ∧
  State.reset.reg .RSL_XCHK_CFG 0 = 0x80080002 ∧
  State.reset.reg .RSL_PAIR_CFG 0 = 0xA0014 ∧
  State.reset.reg .AWL_CFG 0 = 0x1E ∧
  State.reset.reg .SET_CFG 0 = 0x12C0030

/-- R126: TWL_V6PFX and TWL_V6SRC each hold one 96-bit prefix: three words, each of which reads as it was written; a write to
either while any valid entry of the directory has AF set (bit 126, Table 03.6) returns REFUSED_POLICY and changes nothing but
the answer. The register is open to the requester (R663 says what happens where it is not). -/
def Obligations.PrefixesAreFixedWhileTheyAreUsed : Prop :=
  (∀ (src : Requester) (source : Bool) (ix : Fin 3) (w : Word32) (s : State),
    s.closedTo (if source then .TWL_V6SRC else .TWL_V6PFX) src = false →
    (∀ e ∈ s.dir, ¬(dirValid e.2 = true ∧ e.2.getLsbD 126 = true)) →
    Completes (fun t => t.reg (if source then .TWL_V6SRC else .TWL_V6PFX) ix = w.setWidth 64 ∧ t.resp = .OK)
      (exec (.v6PrefixWrite src source ix w) s)) ∧
  (∀ (src : Requester) (source : Bool) (ix : Fin 3) (w : Word32) (e : Nat × Word128) (s : State),
    s.closedTo (if source then .TWL_V6SRC else .TWL_V6PFX) src = false →
    e ∈ s.dir →
    dirValid e.2 = true →
    e.2.getLsbD 126 = true →
    Completes (fun t => t = s.answer .REFUSED_POLICY)
      (exec (.v6PrefixWrite src source ix w) s))

/-- R46: a line received under lock with k CRC errors counts k in ING_SDI_CRC of its lane, saturating as every 32-bit counter
(R557), at 1.485 Gbit/s and above (rate codes from 2, Table 02.1); and whatever its errors, the frame being written is as good
or bad as it was. -/
def Obligations.LineCrcErrorsAreCountedAndNoMore : Prop :=
  (∀ (n : Fin 128) (k : Nat) (anc : List AncPkt) (s : State),
    s.inLive (s.laneInput n) = true →
    (s.input n).lock = true →
    2 ≤ (s.reg .ING_SDI_RATE n).toNat →
    Completes (fun t => t.reg .ING_SDI_CRC n = s.counted .ING_SDI_CRC n k ∧ (t.input (s.laneInput n)).bad = (s.input (s.laneInput
      n)).bad)
      (exec (.sdiLineReceive n k anc) s))

/-- Resets and boot (R622 to R652): PORST_N falling, standby failing or a trip hold the part in cold reset with its cause; PORST_N
rising samples the straps and boots; each boot stage ends in the next, a failed HBM stack in HBM_FAIL; an image that fails is
REJECTED; a warm reset, by the pin, 0x5741524D in GLB_CTRL or an armed watchdog not kicked, puts the control plane into
WARM_BOOT with its cause and counts; only the management core kicks; a trip ends below 110 degrees; an alarm tells the hottest
sensor; XTAL failing and returning, regulators and a reset endpoint as their rules say. -/
def Obligations.PowerResetsBootAndTheEndpoint : Prop :=
  (∀ (records : Nat) (s : State),
    s.host.inReset = false →
    Completes (fun t => t.host.inReset = true ∧ t.fld F.BOOT_CAUSE_CAUSE 0 = causePorst ∧ t.power = powerInsole ∧ t.bootStage =
      stageRom ∧ t.nim.ctxs = [])
      (exec (.porstFall records) s)) ∧
  (∀ (records : Nat) (s : State),
    s.host.inReset = true →
    Completes (fun t => t = s)
      (exec (.porstFall records) s)) ∧
  (∀ (strap : Fin 1024) (sideB : Bool) (s : State),
    s.host.inReset = true →
    s.power = powerInsole →
    s.boot.tripped = false →
    Completes (fun t => t.fld F.GLB_CHIP_STRAP 0 = strap ∧ t.domainId = strap ∧ t.sideB = sideB ∧ t.host.inReset = false ∧ t.power =
      powerActive ∧ t.bootStage = s.bootStage)
      (exec (.porstRise strap sideB) s)) ∧
  (∀ (strap : Fin 1024) (sideB : Bool) (s : State),
    s.host.inReset = true →
    s.power = powerInsole →
    s.boot.tripped = true →
    Completes (fun t => t.host.inReset = true ∧ t.power = powerInsole)
      (exec (.porstRise strap sideB) s)) ∧
  (∀ (s : State),
    s.power = 0 →
    Completes (fun t => t.power = powerInsole ∧ t.flag F.INS_XTAL_RUNNING 0 = true ∧ t.fld F.INS_STATE_WAKE 0 = wakeStby)
      (exec .stbyPgRise s)) ∧
  (∀ (records : Nat) (s : State),
    s.power ≠ 0 →
    Completes (fun t => t.power = 0 ∧ t.fld F.BOOT_CAUSE_CAUSE 0 = causeStby ∧ t.awl.staged = [] ∧ t.boot.retLost = true)
      (exec (.stbyPgFall records) s)) ∧
  (∀ (records : Nat) (s : State),
    s.host.inReset = false →
    Completes (fun t => t.host.inReset = true ∧ t.fld F.BOOT_CAUSE_CAUSE 0 = causeThermal ∧ t.boot.tripped = true)
      (exec (.thermalTrip records) s)) ∧
  (∀ (tt : BitVec 16) (s : State),
    s.boot.tripped = true →
    tt.toInt < 1760 →
    Completes (fun t => t.boot.tripped = false ∧ t.host.inReset = false ∧ t.power = powerActive ∧ t.fld F.BOOT_CAUSE_CAUSE 0 =
      causeThermal)
      (exec (.thermalRecover tt) s)) ∧
  (∀ (tt : BitVec 16) (s : State),
    1760 ≤ tt.toInt →
    Completes (fun t => t = s)
      (exec (.thermalRecover tt) s)) ∧
  (∀ (sensor : Fin 64) (tt : BitVec 16) (s : State),
    (16 * s.fld F.GLB_TEMP_CFG_ALARM 0 : Nat) < tt.toInt →
    Completes (fun t => t.reg .GLB_TEMP 0 = BitVec.ofNat 64 (sensor.val * 2 ^ 24 + tt.toNat) ∧ t.boot = { s.boot with hot := true }
      ∧ t.fld ⟨.GLB_ALERT_STAT, alertThermal, 1⟩ 0 = 1)
      (exec (.thermalAlarm sensor tt) s)) ∧
  (∀ (sensor : Fin 64) (tt : BitVec 16) (s : State),
    tt.toInt ≤ (16 * s.fld F.GLB_TEMP_CFG_ALARM 0 : Nat) →
    Completes (fun t => t.reg .GLB_TEMP 0 = BitVec.ofNat 64 (sensor.val * 2 ^ 24 + tt.toNat) ∧ t.boot = { s.boot with hot := false }
      ∧ t.reg .GLB_ALERT_STAT 0 = s.reg .GLB_ALERT_STAT 0)
      (exec (.thermalAlarm sensor tt) s)) ∧
  (∀ (retentionOk : Bool) (s : State),
    s.host.inReset = false →
    s.bootStage = stageRom →
    s.bootable 0 = true →
    (s.slot 1).state = .empty →
    Completes (fun t => t.bootStage = stageVerify ∧ t.runSlot = 0 ∧ t.flag F.INS_RET_STAT_CHECK_OK 0 = (retentionOk &&
      !s.boot.retLost) ∧ t.boot.retLost = false)
      (exec (.bootRomDone retentionOk) s)) ∧
  (∀ (good : Bool) (data : BootData) (s : State),
    s.host.inReset = false →
    s.bootStage = stageVerify →
    good = true →
    Completes (fun t => t.bootStage = stageHbmInit ∧ t.flag F.BOOT_PROT_LOCK 0 = true ∧ t.boot.armed = true ∧ (t.reg .NTM_CLOCKID 0)
      = data.clockId)
      (exec (.imageVerifyDone good data) s)) ∧
  (∀ (good : Bool) (data : BootData) (s : State),
    s.host.inReset = false →
    s.bootStage = stageVerify →
    good = false →
    s.runSlot = 0 →
    Completes (fun t => (t.slot 0).state = .rejected ∧ (t.fld F.BOOT_FAIL_CODE 0 = 1 ∨ t.bootStage = stageRecovery))
      (exec (.imageVerifyDone good data) s)) ∧
  (∀ (converted : Bool) (s : State),
    s.host.inReset = false →
    s.bootStage = stageHbmInit →
    Completes (fun t => t.bootStage = stageRestore)
      (exec (.hbmTrainDone converted) s)) ∧
  (∀ (stack : Fin 4) (s : State),
    s.host.inReset = false →
    s.bootStage = stageHbmInit →
    Completes (fun t => t.bootStage = stageHbmFail ∧ t.fld F.BOOT_FAIL_CODE 0 = 2 ∧ t.fld F.BOOT_FAIL_UNIT 0 = stack ∧ t.fld
      ⟨.GLB_ALERT_STAT, alertBoot, 1⟩ 0 = 1)
      (exec (.hbmTrainFail stack) s)) ∧
  (∀ (views : List (Fin 128 × TakeView)) (s : State),
    s.host.inReset = false →
    s.bootStage = stageRestore →
    Completes (fun t => t.bootStage = stageLanes)
      (exec (.stateRestoreDone views) s)) ∧
  (∀ (s : State),
    s.host.inReset = false →
    s.bootStage = stageLanes →
    Completes (fun t => t.bootStage = stageReplay ∧ (∀ k : Nat, k < 16 → s.flag F.WLT_LK_CFG_ENABLE k = true → s.lkState k = lkDown
      → t.lkState k = lkIdent))
      (exec .lanesReady s)) ∧
  (∀ (s : State),
    s.host.inReset = false →
    s.bootStage = stageReplay →
    s.paired = true →
    Completes (fun t => t.partnerLost = true ∧ t.fld F.RSL_PAIR_STAT_CAUSE 0 = lossSilence)
      (exec .replayPathTimeout s)) ∧
  (∀ (s : State),
    s.host.inReset = false →
    Completes (fun t => t.bootStage = stageWarmBoot ∧ t.fld F.BOOT_CAUSE_CAUSE 0 = causeWarmPin ∧ t.reg .BOOT_WARMS 0 = s.counted
      .BOOT_WARMS 0 1 ∧ t.flag F.BOOT_PROT_LOCK 0 = false ∧ t.nim.ctxs = [] ∧ t.boot.warmHeld = true)
      (exec .warmRstAssert s)) ∧
  (∀ (w : Word32) (s : State),
    w = 0x5741524D →
    Completes (fun t => t.bootStage = stageWarmBoot ∧ t.fld F.BOOT_CAUSE_CAUSE 0 = causeGlbCtrl ∧ t.reg .BOOT_WARMS 0 = s.counted
      .BOOT_WARMS 0 1 ∧ t.nim.ctxs = [])
      (exec (.glbWarmReset w) s)) ∧
  (∀ (w : Word32) (s : State),
    w ≠ 0x5741524D →
    Completes (fun t => t = s.answer .OK)
      (exec (.glbWarmReset w) s)) ∧
  (∀ (s : State),
    s.boot.armed = true →
    Completes (fun t => t.bootStage = stageWarmBoot ∧ t.fld F.BOOT_CAUSE_CAUSE 0 = causeWatchdog ∧ t.boot.armed = false)
      (exec .watchdogTimeout s)) ∧
  (∀ (s : State),
    s.boot.armed = false →
    Completes (fun t => t = s)
      (exec .watchdogTimeout s)) ∧
  (∀ (src : Requester) (w : Word32) (s : State),
    src = .mgmt →
    Completes (fun t => t = s.answer .OK)
      (exec (.watchdogKick src w) s)) ∧
  (∀ (src : Requester) (w : Word32) (s : State),
    src ≠ .mgmt →
    Completes (fun t => t = s)
      (exec (.watchdogKick src w) s)) ∧
  (∀ (good converted : Bool) (data : BootData) (s : State),
    s.host.inReset = false →
    s.bootStage = stageWarmBoot →
    good = false →
    s.runSlot = 0 →
    Completes (fun t => (t.slot 0).state = .rejected ∧ t.boot.warmHeld = false)
      (exec (.warmBoot good converted data) s)) ∧
  (∀ (good converted : Bool) (data : BootData) (s : State),
    s.host.inReset = false →
    s.bootStage = stageWarmBoot →
    good = true →
    Completes (fun t => t.nim.warm = false ∧ t.boot.warmHeld = false)
      (exec (.warmBoot good converted data) s)) ∧
  (∀ (assumed : Bool) (s : State),
    s.power = powerSpare →
    Completes (fun t => t.power = powerActive ∧ t.fld F.INS_STATE_WAKE 0 = (if assumed then wakeAssume else wakeMode) ∧ (∀ d : Nat,
      10 ≤ d → d < 27 → t.flag ⟨.INS_CLK_REQ, d, 1⟩ 0 = true))
      (exec (.spareExit assumed) s)) ∧
  (∀ (s : State),
    s.host.inReset = false →
    Completes (fun t => t.host.msix = [] ∧ t.host.pba = [] ∧ t.reg .GLB_PCIE_STAT 0 = 0 ∧ (∀ q : Nat, q < 64 → t.flag F.NIM_Q_CFG_EN
      q = false) ∧ (∀ r : Nat, r < 16 → t.flag F.NPT_RXR_CFG_EN r = false ∧ t.flag F.NPT_TXR_CFG_EN r = false))
      (exec .pcieHotReset s)) ∧
  (∀ (s : State),
    s.host.inReset = false →
    Completes (fun t => t.host.msix = [] ∧ t.host.pba = [] ∧ t.reg .GLB_PCIE_STAT 0 = 0 ∧ (∀ q : Nat, q < 64 → t.flag F.NIM_Q_CFG_EN
      q = false) ∧ (∀ r : Nat, r < 16 → t.flag F.NPT_RXR_CFG_EN r = false ∧ t.flag F.NPT_TXR_CFG_EN r = false))
      (exec .pciePerst s)) ∧
  (∀ (v : Fin 256) (s : State),
    Tbl.get (fun _ => false) s.host.pba v = true →
    Completes (fun t => (Tbl.get (fun _ => default) t.host.msix v).open_ = true ∧ Tbl.get (fun _ => false) t.host.pba v = false ∧
      t.sent = .msix v :: s.sent ∧ t.regs = s.regs)
      (exec (.msixVectorUnmask v) s)) ∧
  (∀ (v : Fin 256) (s : State),
    Tbl.get (fun _ => false) s.host.pba v = false →
    Completes (fun t => (Tbl.get (fun _ => default) t.host.msix v).open_ = true ∧ t.sent = s.sent ∧ t.regs = s.regs)
      (exec (.msixVectorUnmask v) s)) ∧
  (∀ (s : State),
    Completes (fun t => t.flag F.INS_XTAL_RUNNING 0 = false ∧ bit Irq.INS_XTAL_FAIL.bit (t.reg .INS_INT_STAT 0) = true)
      (exec .xtalFail s)) ∧
  (∀ (s : State),
    Completes (fun t => t = s.setFlag F.INS_XTAL_RUNNING 0 true)
      (exec .xtalReturn s)) ∧
  (∀ (rails : List (Option (BitVec 32))) (s : State),
    s.flag F.INS_PMBUS_CFG_EN 0 = false →
    Completes (fun t => t = s)
      (exec (.pmbusPoll rails) s)) ∧
  (∀ (w : BitVec 32) (s : State),
    s.flag F.INS_PMBUS_CFG_EN 0 = true →
    Completes (fun t => t.reg .INS_RAIL 0 = w.setWidth 64 ∧ t.reg .INS_RAIL 1 = 0 ∧ t.rsl = { s.rsl with noAck := false })
      (exec (.pmbusPoll [some w, none]) s))

/-- Clock domains (R637 to R639): a request starts a stopped domain, a lock makes it run, a third failure is told, an unwanted
domain stops after its hold unless forced. The block bus (R3 to R5, R472, R619, R642, R663): a write of a read-only register
or of no register changes nothing, a closed register keeps its value, a plain one takes its RW bits, and a store of settings
by work is recorded in the delta log; a PCIe write of 1 or 2 bytes is counted as an error; a read returns the register, clears
an RC one, and latches the high word of a 64-bit one; GLB_ROLE takes roles from accepted work only. -/
def Obligations.ClocksAndTheBlockBus : Prop :=
  (∀ (d : Fin 27) (s : State),
    s.clk d = .stopping false →
    Completes (fun t => t.clk d = .stopping true ∧ t.flag ⟨.INS_CLK_REQ, d, 1⟩ 0 = true)
      (exec (.clockDomainRequest d) s)) ∧
  (∀ (d : Fin 27) (s : State),
    s.clk d = .running →
    Completes (fun t => t = s.setFlag ⟨.INS_CLK_REQ, d, 1⟩ 0 true)
      (exec (.clockDomainRequest d) s)) ∧
  (∀ (d : Fin 27) (s : State),
    (∀ e : Nat, e < 27 → s.clk e = .stopped ∨ s.clk e = .running) →
    s.clk d = .stopped →
    1 ≤ s.fld F.INS_CLK_CFG_PARALLEL 0 →
    Completes (fun t => t.clk d = .starting 0 ∧ t.flag ⟨.INS_CLK_REQ, d, 1⟩ 0 = true ∧ t.reg .INS_PLL_STARTS 0 = s.counted
      .INS_PLL_STARTS 0 1)
      (exec (.clockDomainRequest d) s)) ∧
  (∀ (d : Fin 27) (s : State),
    (s.clk d).isStarting = true →
    Completes (fun t => t.clk d = .running ∧ t.flag ⟨.INS_CLK_RUN, d, 1⟩ 0 = true)
      (exec (.pllLock d) s)) ∧
  (∀ (d : Fin 27) (s : State),
    (s.clk d).isStarting = false →
    Completes (fun t => t = s)
      (exec (.pllLock d) s)) ∧
  (∀ (d : Fin 27) (n : Nat) (s : State),
    s.clk d = .starting n →
    n < 2 →
    Completes (fun t => t.clk d = .starting (n + 1) ∧ t.reg .INS_PLL_STARTS 0 = s.counted .INS_PLL_STARTS 0 1)
      (exec (.pllLockTimeout d) s)) ∧
  (∀ (d : Fin 27) (n : Nat) (s : State),
    s.clk d = .starting n →
    2 ≤ n →
    Completes (fun t => t.clk d = .failed ∧ t.flag ⟨.INS_PLL_FAIL, d, 1⟩ 0 = true ∧ bit Irq.INS_PLL_FAIL.bit (t.reg .INS_INT_STAT 0)
      = true)
      (exec (.pllLockTimeout d) s)) ∧
  (∀ (d : Fin 27) (s : State),
    s.clk d = .running →
    s.clkWanted d = false →
    Completes (fun t => t.flag ⟨.INS_CLK_REQ, d, 1⟩ 0 = false ∧ t.clk d = (if s.flag ⟨.INS_CLK_FORCE, d, 1⟩ 0 then .running else
      .stopping false))
      (exec (.clockHoldExpire d) s)) ∧
  (∀ (d : Fin 27) (s : State),
    s.clkWanted d = true →
    Completes (fun t => t = s)
      (exec (.clockHoldExpire d) s)) ∧
  (∀ (d : Fin 27) (s : State),
    s.clk d = .stopping false →
    Completes (fun t => t.clk d = .stopped ∧ t.flag ⟨.INS_CLK_RUN, d, 1⟩ 0 = false)
      (exec (.clockStopDone d) s)) ∧
  (∀ (src : Requester) (w : Word32) (s : State),
    src = .pcie →
    Completes (fun t => t.reg .GLB_ROLE 0 = s.reg .GLB_ROLE 0 ∧ t.reg .GLB_PCIE_ERR 0 = s.counted .GLB_PCIE_ERR 0 1)
      (exec (.glbRoleWrite src w) s)) ∧
  (∀ (src : Requester) (w : Word32) (s : State),
    src = .work →
    F.GLB_ROLE_ROLE.of (w.setWidth 64) = 3 →
    Completes (fun t => t = s.answer .BAD_ARG)
      (exec (.glbRoleWrite src w) s)) ∧
  (∀ (src : Requester) (w : Word32) (s : State),
    src = .work →
    F.GLB_ROLE_ROLE.of (w.setWidth 64) < 3 →
    s.twl.routes = [] →
    Completes (fun t => t.reg .GLB_ROLE 0 = s.stored .GLB_ROLE 0 (w.setWidth 64) ∧ t.resp = .OK)
      (exec (.glbRoleWrite src w) s)) ∧
  (∀ (src : Requester) (addr : BitVec 28) (data : Word64) (env : BusEnv) (s : State),
    src ≠ .pcie →
    addr.toNat % 4 = 0 →
    winAt addr.toNat = none →
    Reg.ofAddr addr.toNat = none →
    Completes (fun t => t = s.answer .OK)
      (exec (.registerWrite src addr 2 data env) s)) ∧
  (∀ (src : Requester) (addr : BitVec 28) (data : Word64) (env : BusEnv) (r : Reg) (i : Nat) (s : State),
    src ≠ .pcie →
    addr.toNat % 4 = 0 →
    winAt addr.toNat = none →
    Reg.ofAddr addr.toNat = some (r, i, false) →
    r.info.wide = false →
    (r.info.acc = .RO ∨ r.info.acc = .RC) →
    Completes (fun t => t = s.answer .OK)
      (exec (.registerWrite src addr 2 data env) s)) ∧
  (∀ (addr : BitVec 28) (data : Word64) (env : BusEnv) (r : Reg) (i : Nat) (s : State),
    addr.toNat % 4 = 0 →
    winAt addr.toNat = none →
    Reg.ofAddr addr.toNat = some (r, i, false) →
    r.info.wide = false →
    s.closedTo r .pcie = true →
    Completes (fun t => t.reg r i = s.reg r i ∧ t.keep = s.keep)
      (exec (.registerWrite .pcie addr 2 data env) s)) ∧
  (∀ (addr : BitVec 28) (data : Word64) (env : BusEnv) (r : Reg) (s : State),
    addr.toNat % 4 = 0 →
    winAt addr.toNat = none →
    Reg.ofAddr addr.toNat = some (r, 0, false) →
    r ∈ [Reg.GLB_TEMP_CFG, .EGR_TAKE_CFG, .TWL_DIR_ACK_TO, .INS_PMBUS_CFG] →
    badValue r (low32 data) = false →
    s.deltasFull = false →
    Completes (fun t => t.reg r 0 = s.stored r 0 (low32 data) ∧ t.resp = .OK ∧ t.keep.deltas = s.keep.deltas ++ [⟨s.keep.nextPos,
      env.key.seq, env.key.origin, s.fld F.SET_STATUS_FORMAT 0, [(addr.toNat, low32 data)]⟩])
      (exec (.registerWrite .work addr 2 data env) s)) ∧
  (∀ (addr : BitVec 28) (size : Fin 4) (data : Word64) (env : BusEnv) (s : State),
    s.pcieUp = true →
    Blk.ofAddr addr.toNat ≠ .NIM →
    size < 2 →
    Completes (fun t => t.reg .GLB_PCIE_ERR 0 = s.counted .GLB_PCIE_ERR 0 1 ∧ t.keep = s.keep)
      (exec (.registerWrite .pcie addr size data env) s)) ∧
  (∀ (src : Requester) (addr : BitVec 28) (r : Reg) (i : Nat) (s : State),
    src ≠ .pcie →
    addr.toNat % 4 = 0 →
    winAt addr.toNat = none →
    Reg.ofAddr addr.toNat = some (r, i, false) →
    r.info.wide = false →
    r.info.acc = .RC →
    r ≠ .NTM_CAP_NS →
    Completes (fun t => t.rdata = low32 (s.reg r i) ∧ t.reg r i = 0 ∧ t.resp = .OK)
      (exec (.readClear src addr 2) s)) ∧
  (∀ (src : Requester) (addr : BitVec 28) (r : Reg) (i : Nat) (s : State),
    src ≠ .pcie →
    addr.toNat % 4 = 0 →
    winAt addr.toNat = none →
    Reg.ofAddr addr.toNat = some (r, i, false) →
    r.info.wide = false →
    (r.info.acc = .RW ∨ r.info.acc = .RWB ∨ r.info.acc = .W1C) →
    Completes (fun t => t.rdata = low32 (s.reg r i) ∧ t.regs = s.regs ∧ t.resp = .OK)
      (exec (.readClear src addr 2) s)) ∧
  (∀ (src : Requester) (addr : BitVec 28) (r : Reg) (i : Nat) (s : State),
    src ≠ .pcie →
    addr.toNat % 4 = 0 →
    winAt addr.toNat = none →
    Reg.ofAddr addr.toNat = some (r, i, false) →
    r.info.wide = true →
    r.info.acc = .RW →
    Completes (fun t => t.rdata = s.reg r i ∧ t.regs = s.regs ∧ t.latchHigh = s.latchHigh)
      (exec (.latchedRead64 src addr true) s)) ∧
  (∀ (src : Requester) (addr : BitVec 28) (r : Reg) (i : Nat) (s : State),
    src ≠ .pcie →
    addr.toNat % 4 = 0 →
    winAt addr.toNat = none →
    Reg.ofAddr addr.toNat = some (r, i, false) →
    r.info.wide = true →
    r.info.acc = .RW →
    Completes (fun t => t.rdata = low32 (s.reg r i) ∧ Tbl.get (fun _ => 0) t.latchHigh (halfKey r i) = s.reg r i >>> 32 ∧ t.regs =
      s.regs)
      (exec (.latchedRead64 src addr false) s))

/-- The receiver side of a video lane (R38, R39, R40, R46, R73, R74): a dwell without lock moves the hunt to the forced or the
next rate code; lock shows the rate; a lock loss of 100 µs and a TRS loss lose the input; a received line counts its CRC
errors, saturating, at rate codes from 2; a frame's end stores its measurement and ST 352 payload; and an interrupted frame
counts once and is bad. -/
def Obligations.SdiReceptionFollowsLockAndFormat : Prop :=
  (∀ (n : Fin 128) (s : State),
    s.inLive (s.laneInput n) = true →
    (s.input n).lock = false →
    Completes (fun t => (t.input n).hunt = (if s.fld F.ING_SDI_CFG_RATE_FORCE n ≠ 0 then s.fld F.ING_SDI_CFG_RATE_FORCE n
      else if (s.input n).hunt ≤ 1 then 9 else (s.input n).hunt - 1))
      (exec (.sdiRateHuntDwell n) s)) ∧
  (∀ (n : Fin 128) (s : State),
    s.videoRx n = true →
    (s.input n).lock = false →
    (s.input n).hunt ≠ 0 →
    (s.input n).hunt < 16 →
    Completes (fun t => (t.reg .ING_SDI_RATE n).toNat = (s.input n).hunt ∧ (t.input n).lock = true ∧ (t.input n).hadRate = (s.input
      n).hunt)
      (exec (.sdiLock n) s)) ∧
  (∀ (n : Fin 128) (s : State),
    s.inLive (s.laneInput n) = true →
    Completes (fun t => (t.input n).lock = false ∧ (t.input (s.laneInput n)).lost = true)
      (exec (.sdiLockLossTimeout n) s)) ∧
  (∀ (n : Fin 128) (s : State),
    s.inLive (s.laneInput n) = true →
    (s.input (s.laneInput n)).direct = false →
    Completes (fun t => t.fld F.ING_IN_STAT_REASON (s.laneInput n) = 2 ∧ (t.input (s.laneInput n)).lost = true ∧ (t.input
      (s.laneInput n)).bad = true)
      (exec (.trsLoss n) s)) ∧
  (∀ (n : Fin 128) (k : Nat) (s : State),
    s.inLive (s.laneInput n) = true →
    (s.input n).lock = true →
    Completes (fun t => (n.val = s.laneInput n → (t.input n).lines = (s.input n).lines + 1) ∧ (2 ≤ (s.reg .ING_SDI_RATE n).toNat →
      t.reg .ING_SDI_CRC n = s.counted .ING_SDI_CRC n k))
      (exec (.sdiLineReceive n k []) s)) ∧
  (∀ (n : Fin 128) (m : FrameMeas) (p : Pid) (s : State),
    s.inLive n = true →
    (s.input n).lock = true →
    s.laneInput n = n →
    (s.input n).meas ≠ some m →
    Completes (fun t => (t.input n).meas = some m ∧ (t.input n).nextNum = (s.input n).nextNum + 1 ∧ t.reg .ING_SDI_352 n =
      p.payload.setWidth 64 ∧ (t.flag F.ING_IN_FMT_PID_MISMATCH n = true ↔ m.code ≠ p.code))
      (exec (.sdiFrameEnd n m (some p) false) s)) ∧
  (∀ (n : Fin 128) (s : State),
    s.inLive n = true →
    (s.input n).reading = true →
    Completes (fun t => t.reg .ING_IN_BADFRM n = s.counted .ING_IN_BADFRM n 1 ∧ (t.input n).bad = true ∧ (t.input n).lastGood =
      (s.input n).prevGood)
      (exec (.syncReadInterrupt n) s))

/-- Packet inputs (R47, R51, R53, R57, R73, R506): a frame received on a port in service counts in NPT_RX_FRAMES and, when it
passes the checks and matches nothing, in ING_UNMATCHED of its port group; the close of a picture records its number and
counts a picture that is not whole; a silent leg clears its PATH_OK; and two frame periods without a packet lose the input
with reason 5. -/
def Obligations.PacketInputsReceiveAndClose : Prop :=
  (∀ (p : Fin 32) (f : RxFrame) (s : State),
    s.portState p ≠ portWaking →
    s.linkUp p = true →
    s.portState p ≠ portWakeOnly →
    f.fcsOk = true →
    64 ≤ f.len →
    f.len ≤ s.fld F.NPT_PORT_CFG_MTU p →
    f.vlan = none →
    f.dest ≠ .other →
    f.badSum = false →
    f.payload = .unmatched →
    Completes (fun t => t.reg .NPT_RX_FRAMES p = s.counted .NPT_RX_FRAMES p 1 ∧ t.reg .ING_UNMATCHED (p / 4) = s.counted
      .ING_UNMATCHED (p / 4) 1)
      (exec (.networkFrameReceive p f) s)) ∧
  (∀ (m : Fin 256) (num : Nat) (form : Form) (diff : BitVec 32) (s : State),
    s.inLive (m + 128) = true →
    (s.input (m + 128)).lastForm ≠ some form →
    (s.input (m + 128)).opening = [] →
    0 < widthOf form.code * heightOf form.code →
    Completes (fun t => (t.input (m + 128)).closedTo = max (s.input (m + 128)).closedTo (num + 1) ∧ (t.input (m + 128)).nextNum =
      num + 1 ∧ t.reg .ING_IN_BADFRM (m + 128) = s.counted .ING_IN_BADFRM (m + 128) 1)
      (exec (.videoFrameClose m num form diff) s)) ∧
  (∀ (m : Fin 256) (legB : Bool) (s : State),
    Completes (fun t => t.flag (if legB then F.ING_PKT_STAT_PATH_B_OK else F.ING_PKT_STAT_PATH_A_OK) m = false)
      (exec (.legSilence m legB) s)) ∧
  (∀ (m : Fin 256) (s : State),
    s.inLive (m + 128) = true →
    (s.input (m + 128)).direct = false →
    Completes (fun t => t.fld F.ING_IN_STAT_REASON (m + 128) = 5 ∧ (t.input (m + 128)).lost = true ∧ (t.input (m + 128)).bad = true)
      (exec (.packetLossTimeout m) s))

/-- An input's life (R67, R69, R72, R79, R80, Table 02.5), for a requester to whom ING_IN_CFG is open: enabled with its ring it is
ACQUIRING, with the allocation format and the mode written; disabled it drains; killed it reads OFF at once with KILLED set; a
drain that is done reads OFF and frees the ring later; on a live input a change to DIRECT waits for its boundary, a change
back to SYNC is immediate, and a change of domain waits for a boundary of the new domain. -/
def Obligations.InputsEnableDrainAndKill : Prop :=
  (∀ (src : Requester) (n : Fin 384) (w : Word32) (word : Word) (f : Form) (frames : Nat) (u v : State) (s : State),
    word = F.ING_IN_CFG_KILL.put 0 (F.ING_IN_CFG_ENABLE.put 1 (w.setWidth 64)) →
    F.ING_IN_CFG_MODE.of word = 0 →
    f = s.allocForm word →
    frames = ringFrames f (s.inputPd n) (s.fld F.ING_IN_SYNC_DELAY_FRAMES n) →
    s.closedTo .ING_IN_CFG src = false →
    s.inState n = inOff →
    badInCfg word = false →
    s.flag F.ING_CTRL_EN 0 = true →
    s.otdEnabled (F.ING_IN_CFG_OTD.of word) = true →
    ¬(n.val % 4 ≠ 0 ∧ n.val < 128 ∧ s.flag F.ING_SDI_CFG_BOND (n / 4 * 4) = true) →
    s.vidFailed n = false →
    s.reserveIn 0 (s.sdiChannels n) = some u →
    u.resizeRing n frames (frames * f.pages) f.load = some v →
    Completes (fun t => t.inState n = inAcquiring ∧ t.resp = .OK ∧ (t.input n).alloc = f ∧ (t.input n).waiting = true ∧ t.reg
      .ING_IN_ALLOC n = v.reg .ING_IN_ALLOC n)
      (exec (.inputEnable src n w) s)) ∧
  (∀ (src : Requester) (n : Fin 384) (w : Word32) (word : Word) (u : State) (s : State),
    word = F.ING_IN_CFG_KILL.put 0 (F.ING_IN_CFG_ENABLE.put 1 (w.setWidth 64)) →
    F.ING_IN_CFG_MODE.of word = 1 →
    s.closedTo .ING_IN_CFG src = false →
    s.inState n = inOff →
    badInCfg word = false →
    s.flag F.ING_CTRL_EN 0 = true →
    s.otdEnabled (F.ING_IN_CFG_OTD.of word) = true →
    ¬(n.val % 4 ≠ 0 ∧ n.val < 128 ∧ s.flag F.ING_SDI_CFG_BOND (n / 4 * 4) = true) →
    s.vidFailed n = false →
    s.fld F.ING_IN_SYNC_DELAY_FRAMES n = 0 →
    breaksDirect (s.allocForm word).code (s.inputPd n) = false →
    s.reserveIn 0 (s.sdiChannels n) = some u →
    Completes (fun t => t.inState n = inAcquiring ∧ t.resp = .OK ∧ (t.input n).direct = true ∧ t.reg .ING_IN_ALLOC n = s.reg
      .ING_IN_ALLOC n)
      (exec (.inputEnable src n w) s)) ∧
  (∀ (src : Requester) (n : Fin 384) (s : State),
    s.closedTo .ING_IN_CFG src = false →
    s.inLive n = true →
    badInCfg (s.inCfgWith n false false) = false →
    Completes (fun t => t.inState n = inDraining ∧ t.resp = .OK)
      (exec (.inputDisable src n) s)) ∧
  (∀ (src : Requester) (n : Fin 384) (s : State),
    s.closedTo .ING_IN_CFG src = false →
    s.inState n ≠ inOff →
    badInCfg (s.inCfgWith n false true) = false →
    Completes (fun t => t.inState n = inOff ∧ t.flag F.ING_IN_STAT_KILLED n = true ∧ t.resp = .OK ∧ t.reg .ING_IN_ALLOC n = 0)
      (exec (.inputKill src n) s)) ∧
  (∀ (n : Fin 384) (s : State),
    s.inState n = inDraining →
    Completes (fun t => t.inState n = inOff ∧ (t.input n).pendFree = true)
      (exec (.inputDrainDone n) s)) ∧
  (∀ (src : Requester) (n : Fin 384) (word : Word) (s : State),
    word = F.ING_IN_CFG_MODE.put 1 (s.reg .ING_IN_CFG n) →
    s.closedTo .ING_IN_CFG src = false →
    s.inLive n = true →
    s.flag F.ING_IN_CFG_ENABLE n = true →
    badInCfg word = false →
    s.flag F.ING_CTRL_EN 0 = true →
    s.otdEnabled (s.fld F.ING_IN_CFG_OTD n) = true →
    s.fld F.ING_IN_CFG_MODE n = 0 →
    s.fld F.ING_IN_SYNC_DELAY_FRAMES n = 0 →
    breaksDirect (s.input n).alloc.code (s.inputPd n) = false →
    s.flag F.ING_IN_CFG_FMT_LOCK n = false →
    Completes (fun t => (t.input n).pendDirect = true ∧ t.reg .ING_IN_CFG n = s.stored .ING_IN_CFG n word ∧ t.resp = .OK)
      (exec (.inputModeChange src n 1) s)) ∧
  (∀ (src : Requester) (n : Fin 384) (word : Word) (u : State) (s : State),
    word = F.ING_IN_CFG_MODE.put 0 (s.reg .ING_IN_CFG n) →
    s.closedTo .ING_IN_CFG src = false →
    s.inLive n = true →
    s.flag F.ING_IN_CFG_ENABLE n = true →
    badInCfg word = false →
    s.flag F.ING_CTRL_EN 0 = true →
    s.otdEnabled (s.fld F.ING_IN_CFG_OTD n) = true →
    s.fld F.ING_IN_CFG_MODE n = 1 →
    (s.input n).direct = true →
    s.flag F.ING_IN_CFG_FMT_LOCK n = false →
    s.resizeRing n (ringFrames (s.input n).alloc (s.inputPd n) (s.fld F.ING_IN_SYNC_DELAY_FRAMES n))
      (ringFrames (s.input n).alloc (s.inputPd n) (s.fld F.ING_IN_SYNC_DELAY_FRAMES n) * (s.input n).alloc.pages) (s.input
        n).alloc.load = some u →
    Completes (fun t => (t.input n).direct = false ∧ (t.input n).waiting = true ∧ (t.input n).shows = .black ∧ t.reg .ING_IN_ALLOC n
      = u.reg .ING_IN_ALLOC n ∧ t.resp = .OK)
      (exec (.inputModeChange src n 0) s)) ∧
  (∀ (src : Requester) (n : Fin 384) (otd : Fin 8) (word : Word) (s : State),
    word = F.ING_IN_CFG_OTD.put otd (s.reg .ING_IN_CFG n) →
    s.closedTo .ING_IN_CFG src = false →
    s.inLive n = true →
    s.flag F.ING_IN_CFG_ENABLE n = true →
    badInCfg word = false →
    s.flag F.ING_CTRL_EN 0 = true →
    s.otdEnabled otd = true →
    s.fld F.ING_IN_CFG_OTD n ≠ otd →
    (s.input n).dom ≠ otd →
    s.fld F.ING_IN_CFG_MODE n = 0 →
    (s.input n).fits = true →
    fitsDomain (s.input n).alloc.code (s.otdFormat otd) = true →
    s.flag F.ING_IN_CFG_FMT_LOCK n = false →
    Completes (fun t => (t.input n).pendDom = some otd.val ∧ (t.input n).dom = (s.input n).dom ∧ t.reg .ING_IN_CFG n = s.stored
      .ING_IN_CFG n word ∧ t.resp = .OK)
      (exec (.inputDomainChange src n otd) s))

/-- Writes of the ingress registers by a requester to whom they are open (R41, R49, R50, R55, R59, R68, R83, Table 02.9): a word
that the rules allow is stored, bit by bit where its fields are writable, and OK is returned; a change of DELAY_FRAMES on a
running synchroniser waits for the boundary; a changed video binding on a live input waits for the boundary; and clearing
ING_CTRL.EN ends RUN. -/
def Obligations.IngressConfigurationWrites : Prop :=
  (∀ (src : Requester) (n : Fin 384) (w : Word32) (word : Word) (s : State),
    word = w.setWidth 64 →
    s.closedTo .ING_IN_SYNC src = false →
    F.ING_IN_SYNC_SAFE_LINES.of word ≠ 0 →
    ¬(s.fld F.ING_IN_CFG_MODE n = 1 ∧ F.ING_IN_SYNC_DELAY_FRAMES.of word ≠ 0) →
    (s.inLive n = false ∨ F.ING_IN_SYNC_DELAY_FRAMES.of word = s.fld F.ING_IN_SYNC_DELAY_FRAMES n ∨ (s.input n).direct = true) →
    Completes (fun t => t.reg .ING_IN_SYNC n = s.stored .ING_IN_SYNC n word ∧ t.resp = .OK)
      (exec (.delayFramesChange src n w) s)) ∧
  (∀ (src : Requester) (n : Fin 384) (w : Word32) (word : Word) (u : State) (s : State),
    word = w.setWidth 64 →
    s.closedTo .ING_IN_SYNC src = false →
    F.ING_IN_SYNC_SAFE_LINES.of word ≠ 0 →
    ¬(s.fld F.ING_IN_CFG_MODE n = 1 ∧ F.ING_IN_SYNC_DELAY_FRAMES.of word ≠ 0) →
    s.inLive n = true →
    (s.input n).direct = false →
    F.ING_IN_SYNC_DELAY_FRAMES.of word ≠ s.fld F.ING_IN_SYNC_DELAY_FRAMES n →
    s.growRing n (ringFrames (s.input n).alloc (s.inputPd n) (F.ING_IN_SYNC_DELAY_FRAMES.of word)) (s.input n).alloc = some u →
    Completes (fun t => (t.input n).pendDelay = some (F.ING_IN_SYNC_DELAY_FRAMES.of word) ∧ t.reg .ING_IN_ALLOC n = u.reg
      .ING_IN_ALLOC n ∧ t.resp = .OK)
      (exec (.delayFramesChange src n w) s)) ∧
  (∀ (src : Requester) (m : Fin 256) (w : Word32) (word : Word) (s : State),
    word = w.setWidth 64 →
    s.closedTo .ING_PKT_VID src = false →
    F.ING_PKT_VID_TYPE.of word < 2 →
    F.ING_PKT_VID_VALID.on word = true →
    s.isLegB (F.ING_PKT_VID_FLOW.of word) = false →
    s.flowBound (F.ING_PKT_VID_FLOW.of word) 0 m = false →
    Completes (fun t => t.reg .ING_PKT_VID m = s.stored .ING_PKT_VID m word ∧ t.resp = .OK ∧ (s.inLive (m + 128) = true → s.flag
      F.ING_PKT_VID_VALID m = false → (t.input (m + 128)).pendBind = true))
      (exec (.videoFlowBinding src m w) s)) ∧
  (∀ (src : Requester) (m : Fin 256) (w : Word32) (word : Word) (s : State),
    word = w.setWidth 64 →
    s.closedTo .ING_PKT_PD src = false →
    F.ING_PKT_PD_PD_MAX.of word ≤ 50000 →
    s.inLive (m + 128) = false →
    s.fld F.ING_IN_CFG_MODE (m + 128) ≠ 1 →
    Completes (fun t => t.reg .ING_PKT_PD m = s.stored .ING_PKT_PD m word ∧ t.resp = .OK)
      (exec (.pdMaxWrite src m w) s)) ∧
  (∀ (src : Requester) (m : Fin 256) (w : Word32) (word : Word) (u : State) (s : State),
    word = w.setWidth 64 →
    s.closedTo .ING_PKT_PD src = false →
    F.ING_PKT_PD_PD_MAX.of word ≤ 50000 →
    s.inLive (m + 128) = true →
    s.flag F.ING_PKT_VID_VALID m = true →
    s.twoLeg (s.fld F.ING_PKT_VID_FLOW m) = true →
    s.fld F.ING_IN_CFG_MODE (m + 128) ≠ 1 →
    ringFrames (s.input (m + 128)).alloc (F.ING_PKT_PD_PD_MAX.of word) (s.fld F.ING_IN_SYNC_DELAY_FRAMES (m + 128)) ≠
      s.fld F.ING_IN_ALLOC_RING_FRAMES (m + 128) →
    s.growRing (m + 128) (ringFrames (s.input (m + 128)).alloc (F.ING_PKT_PD_PD_MAX.of word) (s.fld F.ING_IN_SYNC_DELAY_FRAMES (m +
      128)))
      (s.input (m + 128)).alloc = some u →
    Completes (fun t => t.reg .ING_PKT_PD m = u.stored .ING_PKT_PD m word ∧ t.reg .ING_IN_ALLOC (m + 128) = u.reg .ING_IN_ALLOC (m +
      128) ∧ t.resp = .OK)
      (exec (.pdMaxWrite src m w) s)) ∧
  (∀ (src : Requester) (a : Fin 1024) (w : Word32) (word : Word) (u : State) (s : State),
    word = w.setWidth 64 →
    s.closedTo .ING_AFL_CFG src = false →
    (packetInput (F.ING_AFL_CFG_INPUT.of word) = true ∨ F.ING_AFL_CFG_INPUT.of word = 0x1FF) →
    (F.ING_AFL_CFG_VALID.on word = true → s.isLegB (F.ING_AFL_CFG_FLOW.of word) = false ∧ s.flowBound (F.ING_AFL_CFG_FLOW.of word) 1
      a = false ∧
      (packetInput (F.ING_AFL_CFG_INPUT.of word) = true → s.audioOf (F.ING_AFL_CFG_INPUT.of word) a < 16)) →
    s.reserveIn (aflChannels (s.reg .ING_AFL_CFG a) (s.reg .ING_AFL_FMT a)) (aflChannels word (s.reg .ING_AFL_FMT a)) = some u →
    Completes (fun t => t.reg .ING_AFL_CFG a = s.stored .ING_AFL_CFG a word ∧ t.fld F.TWD_IN_RES_N 0 = u.fld F.TWD_IN_RES_N 0 ∧
      t.resp = .OK)
      (exec (.audioContextBinding src a w) s)) ∧
  (∀ (src : Requester) (a : Fin 1024) (w : Word32) (word : Word) (s : State),
    word = w.setWidth 64 →
    s.closedTo .ING_AFL_OFF src = false →
    s.aflPtime a + 125 ≤ F.ING_AFL_OFF_OFFSET.of word →
    F.ING_AFL_OFF_OFFSET.of word ≤ 60000 →
    Completes (fun t => t.reg .ING_AFL_OFF a = s.stored .ING_AFL_OFF a word ∧ t.resp = .OK)
      (exec (.audioOffsetWrite src a w) s)) ∧
  (∀ (src : Requester) (a : Fin 512) (w : Word32) (word : Word) (s : State),
    word = w.setWidth 64 →
    s.closedTo .ING_ANF_CFG src = false →
    (F.ING_ANF_CFG_VALID.on word = true → packetInput (F.ING_ANF_CFG_INPUT.of word) = true ∧ s.isLegB (F.ING_ANF_CFG_FLOW.of word) =
      false ∧
      s.flowBound (F.ING_ANF_CFG_FLOW.of word) 2 a = false ∧ s.ancOf (F.ING_ANF_CFG_INPUT.of word) a < 4 ∧
      ¬(s.flag F.ING_PKT_VID_VALID (F.ING_ANF_CFG_INPUT.of word - 128) = true ∧ s.fld F.ING_PKT_VID_TYPE (F.ING_ANF_CFG_INPUT.of
        word - 128) = 1)) →
    Completes (fun t => t.reg .ING_ANF_CFG a = s.stored .ING_ANF_CFG a word ∧ t.resp = .OK)
      (exec (.ancContextBinding src a w) s)) ∧
  (∀ (src : Requester) (n : Fin 128) (w : Word32) (word : Word) (s : State),
    word = w.setWidth 64 →
    s.closedTo .ING_SDI_CFG src = false →
    F.ING_SDI_CFG_RATE_FORCE.of word < 0xA →
    s.inLive n = false →
    (F.ING_SDI_CFG_BOND.on word = true → s.flag F.ING_SDI_CFG_BOND n = false → n.val % 4 = 0 →
      ∀ k : Fin 3, s.flag F.ING_IN_CFG_ENABLE (n + 1 + k) = false) →
    Completes (fun t => t.reg .ING_SDI_CFG n = s.stored .ING_SDI_CFG n word ∧ t.resp = .OK)
      (exec (.sdiCfgWrite src n w) s)) ∧
  (∀ (src : Requester) (w : Word32) (word : Word) (s : State),
    word = w.setWidth 64 →
    s.closedTo .ING_POOL_PAGES src = false →
    word.toNat ≤ 30393 →
    (s.reg .ING_POOL_USED 0).toNat ≤ word.toNat →
    (∀ m : Fin 256, s.flag F.VMP_SURF_CFG_VALID m = true → word.toNat ≤ s.fld F.VMP_SURF_CFG_FIRST m) →
    Completes (fun t => t.reg .ING_POOL_PAGES 0 = s.stored .ING_POOL_PAGES 0 word ∧ t.resp = .OK)
      (exec (.poolPagesWrite src w) s)) ∧
  (∀ (src : Requester) (s : State),
    s.closedTo .ING_CTRL src = false →
    Completes (fun t => t.flag F.ING_STATUS_RUN 0 = false ∧ t.flag F.ING_CTRL_EN 0 = false ∧ t.resp = .OK)
      (exec (.ingressDisable src) s))

/-- Routes at one hop (R104, R105, R106, R120, Table 03.4): a request that passes every check holds its route and answers OK, one
that fails a check answers that refusal and counts in TWL_ADMIT_REFUSED; a settled request's route is settled; a hold not
settled in 2 ms, or reported released, is gone, with a report toward the destination part or NO_PATH at it; and a re-routed
stream holds its new route. -/
def Obligations.RoutesHeldSettledAndReleased : Prop :=
  (∀ (h : RouteHop) (r : Route) (s : State),
    s.admitRoute h = .ok r →
    Completes (fun t => t.twl.routes = s.twl.routes ++ [r] ∧ t.resp = .OK)
      (exec (.routeRequest h) s)) ∧
  (∀ (h : RouteHop) (e : Status) (s : State),
    s.admitRoute h = .error e →
    Completes (fun t => t.reg .TWL_ADMIT_REFUSED 0 = s.counted .TWL_ADMIT_REFUSED 0 1 ∧ t.twl.routes = s.twl.routes ∧ t.resp = e)
      (exec (.routeRequest h) s)) ∧
  (∀ (req : Nat) (r : Route) (s : State),
    s.route req = some r →
    r.settled = false →
    r.atDest = false →
    Completes (fun t => t.route req = none ∧ t.sent = .holdReleased req :: s.sent)
      (exec (.routeHoldTimeout req) s)) ∧
  (∀ (req : Nat) (r : Route) (s : State),
    s.route req = some r →
    r.settled = false →
    r.atDest = true →
    (∀ k ∈ s.tks.takes, k.req ≠ some req) →
    Completes (fun t => t.route req = none ∧ t.resp = .NO_PATH)
      (exec (.routeHoldTimeout req) s)) ∧
  (∀ (req : Nat) (r : Route) (s : State),
    s.route req = some r →
    r.settled = false →
    (∀ k ∈ s.tks.takes, k.req ≠ some req) →
    Completes (fun t => t.route req = none ∧ t.resp = .NO_PATH)
      (exec (.holdReleaseReport req) s)) ∧
  (∀ (req : Nat) (r : Route) (s : State),
    s.route req = some r →
    r.settled = false →
    Completes (fun t => t.route req = some { r with settled := true } ∧ t.resp = .OK)
      (exec (.routeSettle req) s)) ∧
  (∀ (old : Nat) (link : Fin 16) (h : RouteHop) (r : Route) (s : State),
    s.admitRoute { h with replaces := some old } = .ok r →
    Completes (fun t => t.twl.routes = s.twl.routes ++ [r] ∧ t.resp = .OK)
      (exec (.rerouteStream old link h) s))

/-- Cells (R95, R98, R100, R107, R108, R110, R124): a media cell that reaches an egress slice-port is counted and its SEQ kept; a
scheduled slot with a cell ready sends it and advances its context's SEQ, one with nothing to send counts as free; at the
period boundary the calendar banks flip, the delivery changes take effect and the free slots show; the lowest closed queue
opens; an enqueued cell joins its queue; and a link control cell returns its credit. -/
def Obligations.CellsQueuesAndCalendar : Prop :=
  (∀ (p : Fin 168) (h : CellHdr) (e0 e1 e2 e3 : Fin 4) (view : List (Nat × Nat)) (s : State),
    s.flag F.TWL_STATUS_RUN 0 = true →
    [e0, e1, e2, e3].contains 3 = false →
    cellKind h = 0 →
    Completes (fun t => t.reg .TWL_SP_CELLS_OUT p = s.counted .TWL_SP_CELLS_OUT p 1 ∧ Tbl.get (fun _ => 0) (t.port p).last (cellFlow
      h * 2 ^ 19 + cellSrc h) = cellSeq h + cellFrame h * 2 ^ 16 + cellLine h * 2 ^ 24 + 1)
      (exec (.cellReceive p false h e0 e1 e2 e3 view) s)) ∧
  (∀ (p : Fin 168) (slot : Fin 4096) (h : CellHdr) (e : Nat) (s : State),
    s.flag F.TWL_STATUS_RUN 0 = true →
    s.flag F.TWL_STATUS_DRAINING 0 = false →
    e = Tbl.get (fun _ => 0) (s.port p).cal slot →
    32768 ≤ e →
    Completes (fun t => Tbl.get (fun _ => 0) (t.port p).ctxSeq (e % 256) = (Tbl.get (fun _ => 0) (s.port p).ctxSeq (e % 256) + 1) %
      65536 ∧ t.reg .TWL_SP_CELLS_IN p = s.counted .TWL_SP_CELLS_IN p 1)
      (exec (.calendarSlot p slot (some h)) s)) ∧
  (∀ (p : Fin 168) (slot : Fin 4096) (s : State),
    s.flag F.TWL_STATUS_RUN 0 = true →
    s.flag F.TWL_STATUS_DRAINING 0 = false →
    (s.port p).queues = [] →
    Completes (fun t => (t.port p).free = (s.port p).free + 1)
      (exec (.calendarSlot p slot none) s)) ∧
  (∀ (p : Nat) (s : State),
    s.twl.routes.filter (fun r => s.hasEnded r) = [] →
    Tbl.wf (fun _ => default) s.twl.ports = true →
    (s.port p).flip = true →
    Completes (fun t => (t.port p).cal = (s.port p).shadow ∧ (t.port p).flip = false ∧ t.twl.deliv = s.twl.delivNext.foldl (fun d e
      => Tbl.set (fun _ => 0) e.1 e.2 d) s.twl.deliv ∧ t.twl.delivNext = [])
      (exec .calendarPeriodBoundary s)) ∧
  (∀ (p : Fin 168) (branch : Fin 5) (dchip : Fin 1024) (dport : Fin 168) (q : Nat) (s : State),
    (List.range 64).find? (fun k => !((s.port p).queue k).open_) = some q →
    Completes (fun t => ((t.port p).queue q).open_ = true ∧ ((t.port p).queue q).dchip = dchip ∧ ((t.port p).queue q).dport = dport
      ∧ t.resp = .OK)
      (exec (.arbitratedQueueOpen p branch dchip dport) s)) ∧
  (∀ (p : Fin 168) (q : Fin 64) (h : CellHdr) (s : State),
    s.flag F.TWL_STATUS_DRAINING 0 = false →
    s.flag F.TWL_STATUS_RUN 0 = true →
    ((s.port p).queue q).open_ = true →
    ((s.port p).queue q).cells.length < 64 →
    Completes (fun t => ((t.port p).queue q).cells.length = ((s.port p).queue q).cells.length + 1 ∧ ((t.port p).queue q).seq =
      (((s.port p).queue q).seq + 1) % 65536 ∧ t.resp = .OK)
      (exec (.arbitratedCellEnqueue p q h) s)) ∧
  (∀ (k : Fin 16) (dchip : Fin 1024) (dport : Fin 168) (n : Nat) (tag : Word32) (s : State),
    (s.lkState k = lkUp ∨ s.lkState k = lkDraining ∨ s.lkState k = lkHold) →
    Completes (fun t => Tbl.get (fun _ => 0) t.twl.credit (dchip * 256 + dport) = Tbl.get (fun _ => 0) s.twl.credit (dchip * 256 +
      dport) + n)
      (exec (.linkControlCell k [(dchip, dport, n)] none tag) s))

/-- Slice-ports and the block (R126, R133, R134, R136, Table 03.9): a swap onto a free spare, and a swap back of a port that has
passed its test, are pending until the period boundary; a spare that fails its check ends the swap with MEDIA_FAIL and is
retired; a port that fails with no spare free reads FAILED; clearing EN drains, the end of the drain and KILL stop Twill, KILL
counting the cells in flight; and the prefix words are stored while no IPv6 entry is valid. -/
def Obligations.SlicePortsSwapAndTwillDrain : Prop :=
  (∀ (src : Requester) (p : Fin 256) (spare : Fin 2) (s : State),
    s.closedTo .TWL_SWAP_CTRL src = false →
    p.val < 168 →
    s.twl.swap = none →
    s.fld F.TWL_SP_STAT_STATE p = spInService →
    s.spareFree (p / 21) spare = true →
    Completes (fun t => t.twl.swap = some ⟨p, p / 21 * 23 + 21 + spare, spare, false⟩ ∧ t.fld F.TWL_SP_STAT_STATE p = spSwapPending
      ∧ t.fld F.TWL_SWAP_STAT_STATE 0 = 1 ∧ t.resp = .OK)
      (exec (.slicePortSwap src p spare) s)) ∧
  (∀ (src : Requester) (p : Fin 256) (s : State),
    s.closedTo .TWL_SWAP_CTRL src = false →
    p.val < 168 →
    s.twl.swap = none →
    s.fld F.TWL_SP_STAT_STATE p = spOnSpare →
    Completes (fun t => (t.twl.swap.map fun w => (w.sp, w.phys, w.back)) = some (p.val, homePhys p, true) ∧ t.fld
      F.TWL_SP_STAT_STATE p = spSwapPending ∧ t.fld F.TWL_SWAP_STAT_STATE 0 = 1 ∧ t.resp = .OK)
      (exec (.slicePortSwapBack src p true) s)) ∧
  (∀ (w : Swap) (s : State),
    s.twl.swap = some w →
    w.back = false →
    Completes (fun t => t.twl.swap = none ∧ t.fld F.TWL_SP_STAT_STATE w.sp = spInService ∧ t.fld F.TWL_SWAP_STAT_STATUS 0 =
      Status.MEDIA_FAIL.code ∧ t.fld F.RSL_PHYS_STAT_STATE (64 + w.phys) = 2)
      (exec .swapSpareFail s)) ∧
  (∀ (p : Fin 168) (s : State),
    s.spareFree (p / 21) 0 = false →
    s.spareFree (p / 21) 1 = false →
    (s.fld F.TWL_SP_STAT_STATE p = spInService ∨ s.fld F.TWL_SP_STAT_STATE p = spOnSpare) →
    Completes (fun t => t.fld F.TWL_SP_STAT_STATE p = spFailed)
      (exec (.slicePortFail p) s)) ∧
  (∀ (src : Requester) (s : State),
    s.closedTo .TWL_CTRL src = false →
    s.flag F.TWL_STATUS_RUN 0 = true →
    Completes (fun t => t.flag F.TWL_STATUS_DRAINING 0 = true ∧ t.flag F.TWL_STATUS_RUN 0 = true ∧ t.flag F.TWL_CTRL_EN 0 = false ∧
      t.resp = .OK)
      (exec (.twillDisable src) s)) ∧
  (∀ (k : Nat) (s : State),
    s.flag F.TWL_STATUS_DRAINING 0 = true →
    Completes (fun t => t.flag F.TWL_STATUS_RUN 0 = false ∧ t.flag F.TWL_STATUS_DRAINING 0 = false ∧ (t.port k).buffer = 0)
      (exec .twillDrainDone s)) ∧
  (∀ (src : Requester) (inFlight : Nat) (s : State),
    s.closedTo .TWL_CTRL src = false →
    Completes (fun t => t.flag F.TWL_STATUS_RUN 0 = false ∧ t.flag F.TWL_STATUS_DRAINING 0 = false ∧ t.reg .TWL_KILLED 0 = s.counted
      .TWL_KILLED 0 inFlight ∧ t.resp = .OK)
      (exec (.twillKill src inFlight) s)) ∧
  (∀ (src : Requester) (source : Bool) (ix : Fin 3) (w : Word32) (s : State),
    s.closedTo (if source then .TWL_V6SRC else .TWL_V6PFX) src = false →
    s.dir.any (fun e => dirValid e.2 && e.2.getLsbD 126) = false →
    Completes (fun t => t.reg (if source then .TWL_V6SRC else .TWL_V6PFX) ix = s.stored (if source then .TWL_V6SRC else .TWL_V6PFX)
      ix (w.setWidth 64) ∧ t.resp = .OK)
      (exec (.v6PrefixWrite src source ix w) s))

/-- The facility flow directory (R122 to R131): a READ fetches the entry of TWL_DIR_INDEX into the data registers; a WRITE of an
own, well-formed entry and a WITHDRAW of an own entry without routes change this part's copy, take the next TWL_DIR_SEQ, and
answer at once when no other part is reachable; an update that is the next of its origin is applied and acknowledged; a
request for missing updates is answered with those kept; the last acknowledgement and the timeout end an order, the timeout
marking the parts that did not answer; and a resynchronisation awaits its origins, takes an origin's answer, and leaves a
silent origin for later. -/
def Obligations.DirectoryOrdersUpdatesAndResync : Prop :=
  (∀ (src : Requester) (i : Fin 4) (s : State),
    s.closedTo .TWL_DIR_CMD src = false →
    s.flag F.TWL_DIR_RESULT_BUSY 0 = false →
    Completes (fun t => (t.reg .TWL_DIR_DATA i).toNat = dirBits (s.dirEntry (s.fld F.TWL_DIR_INDEX_FLOW 0)) (32 * i) 32 ∧ t.reg
      .TWL_DIR_RESULT 0 = 0 ∧ t.resp = .OK)
      (exec (.dirRead src) s)) ∧
  (∀ (src : Requester) (ovf : Bool) (flow : Nat) (s : State),
    s.closedTo .TWL_DIR_CMD src = false →
    s.flag F.TWL_DIR_RESULT_BUSY 0 = false →
    flow = s.fld F.TWL_DIR_INDEX_FLOW 0 →
    s.badDirWrite flow s.dirData = false →
    dirOrigin s.dirData / 512 = s.domainId →
    (ovf = true → s.twl.dirs.overflow.length < 256) →
    (dirValid (s.dirEntry flow) = true → dirOrigin (s.dirEntry flow) / 512 = s.domainId) →
    Completes (fun t => t.dirEntry flow = s.dirData ∧ (t.reg .TWL_DIR_SEQ 0).toNat = ((s.reg .TWL_DIR_SEQ 0).toNat + 1) % 2 ^ 32 ∧
      (s.reachable = [] → t.resp = .OK ∧ t.reg .TWL_DIR_RESULT 0 = 0) ∧ (s.reachable ≠ [] → t.flag F.TWL_DIR_RESULT_BUSY 0 = true))
      (exec (.dirWrite src ovf) s)) ∧
  (∀ (src : Requester) (flow : Nat) (s : State),
    s.closedTo .TWL_DIR_CMD src = false →
    s.flag F.TWL_DIR_RESULT_BUSY 0 = false →
    flow = s.fld F.TWL_DIR_INDEX_FLOW 0 →
    dirValid (s.dirEntry flow) = true →
    dirOrigin (s.dirEntry flow) / 512 = s.domainId →
    s.twl.routes.any (fun r => r.settled && r.flow == flow) = false →
    Completes (fun t => t.dirEntry flow = 0 ∧ (t.reg .TWL_DIR_SEQ 0).toNat = ((s.reg .TWL_DIR_SEQ 0).toNat + 1) % 2 ^ 32 ∧
      (s.reachable = [] → t.resp = .OK ∧ t.reg .TWL_DIR_RESULT 0 = 0))
      (exec (.dirWithdraw src) s)) ∧
  (∀ (u : DirUpdate) (ovf : Bool) (e : Word128) (s : State),
    s.ahead u = 0 →
    s.twl.dirs.held = [] →
    u.entry = some e →
    (dirValid (s.dirEntry u.flow) = true → dirOrigin (s.dirEntry u.flow) / 512 = u.origin) →
    Completes (fun t => t.dirEntry u.flow = e ∧ t.nextUpdate u.origin = (u.seq + 1) % 2 ^ 32 ∧ t.sent = .dirAck u.origin u.seq false
      :: s.sent)
      (exec (.dirUpdateReceive u ovf) s)) ∧
  (∀ (part from_ n : Nat) (s : State),
    n = ((s.reg .TWL_DIR_SEQ 0).toNat + 1 + 2 ^ 32 - from_) % 2 ^ 32 →
    n ≤ s.twl.dirs.log.length →
    Completes (fun t => t.sent = (s.twl.dirs.log.take n).map OutMsg.dirUpdate ++ s.sent ∧ t.twl.dirs.marked =
      s.twl.dirs.marked.filter (· != part))
      (exec (.dirMissingRequestReceive part from_) s)) ∧
  (∀ (part seq : Nat) (p : DirPending) (s : State),
    s.twl.dirs.pend.find? (fun q => q.upd.seq == seq) = some p →
    p.waiting.filter (· != part) = [] →
    p.conflict = false →
    p.who = none →
    Completes (fun t => t.twl.dirs.pend = s.twl.dirs.pend.filter (fun q => q.upd != p.upd) ∧ t.reg .TWL_DIR_RESULT 0 = 0 ∧ t.resp =
      .OK)
      (exec (.dirAckReceive part seq false) s)) ∧
  (∀ (seq : Nat) (p : DirPending) (s : State),
    s.twl.dirs.pend.find? (fun q => q.upd.seq == seq) = some p →
    p.conflict = false →
    p.who = none →
    Completes (fun t => t.twl.dirs.marked = (s.twl.dirs.marked ++ p.waiting).eraseDups ∧ t.reg .TWL_DIR_RESULT 0 = 0 ∧ t.resp = .OK)
      (exec (.dirAckTimeout seq) s)) ∧
  (∀ (origins : List Nat) (s : State),
    origins ≠ [] →
    Completes (fun t => t.flag F.TWL_STATUS_DIR_RESYNC 0 = true ∧ t.flag F.TWL_STATUS_DIR_READY 0 = false ∧ t.twl.dirs.awaiting =
      origins)
      (exec (.dirResyncStart origins) s)) ∧
  (∀ (origin seq : Nat) (es : List (Nat × Word128)) (updates : List DirUpdate) (ovf : List Nat) (s : State),
    Completes (fun t => t.nextUpdate origin = (seq + 1) % 2 ^ 32 ∧ t.twl.dirs.awaiting = s.twl.dirs.awaiting.filter (· != origin) ∧
      t.twl.dirs.later = s.twl.dirs.later.filter (· != origin))
      (exec (.dirResyncAnswer origin seq (some es) updates ovf) s)) ∧
  (∀ (origin : Nat) (s : State),
    s.twl.dirs.awaiting.contains origin = true →
    Completes (fun t => t.twl.dirs.awaiting = s.twl.dirs.awaiting.filter (· != origin) ∧ t.twl.dirs.later = s.twl.dirs.later ++
      [origin])
      (exec (.dirResyncOriginTimeout origin) s))

/-- Takes (R142, R148, R156, R157, R159, R172, R185, R186): a forwarded order that is new is journalled; a partner's admission is
kept with its take; a take whose route is in effect and whose deadline stands is armed; at its domain's switch point an armed
take sets the output's SOURCE and leaves the pending takes; an armed take whose route is lost is routed again; an output's
lost route is asked for again; and a domain's boundary starts its next frame and shows its count. -/
def Obligations.TakesAdmittedArmedAndSwitched : Prop :=
  (∀ (key : Key) (salvo : Nat) (atomic : Bool) (time : Nat) (members : List (Word × TakeView)) (s : State),
    s.entry key = none →
    s.appliedAt key 0 = none →
    s.fenced = false →
    s.flag F.NIM_CTRL_EN 0 = true →
    4 ≤ (s.reg .NIM_JRN_FREE 0).toNat →
    Completes (fun t => (t.entry key).map (fun e => e.forwarded) = some true)
      (exec (.forwardedTake key salvo atomic time members) s)) ∧
  (∀ (key : Key) (salvo : Nat) (atomic : Bool) (time : Nat) (members : List (Word × TakeView)) (e : JEntry) (s : State),
    s.entry key = some e →
    e.phase = .complete →
    Completes (fun t => t.resp = e.final ∧ t.nim = s.nim ∧ t.tks = s.tks)
      (exec (.forwardedTake key salvo atomic time members) s)) ∧
  (∀ (key : Key) (sig pos : Nat) (k : PendTake) (s : State),
    s.takeAt key sig pos = some k →
    k.own = .OK →
    Completes (fun t => t.takeAt key sig pos = some { k with partner := some .OK } ∧ t.tks.takes.length = s.tks.takes.length)
      (exec (.partnerAdmissionResult key sig pos .OK) s)) ∧
  (∀ (key : Key) (sig pos : Nat) (k : PendTake) (s : State),
    s.takeAt key sig pos = some k →
    k.armed = false →
    k.own = .OK →
    k.routed = true →
    (s.paired = true → k.partner = some .OK) →
    s.meetFrame k.otd (s.otdNow k.otd) ≤ k.frame →
    Completes (fun t => t.takeAt key sig pos = some { k with armed := true })
      (exec (.takeArmed key sig pos) s)) ∧
  (∀ (d : Fin 8) (k : PendTake) (s : State),
    s.otdEnabled d = true →
    s.tks.takes = [k] →
    k.otd = d →
    k.frame = (s.otd d).frame →
    k.armed = true →
    k.own = .OK →
    k.src < 2 ^ 19 →
    Completes (fun t => t.fld F.EGR_OUT_TAKE_SOURCE k.out = k.src ∧ t.tks.takes = [])
      (exec (.switchPoint d) s)) ∧
  (∀ (key : Key) (sig pos : Nat) (v : TakeView) (k : PendTake) (s : State),
    s.takeAt key sig pos = some k →
    k.armed = true →
    Completes (fun t => (t.takeAt key sig pos).map (fun q => q.routed) = some false)
      (exec (.takeRouteLost key sig pos v) s)) ∧
  (∀ (n : Fin 128) (v : TakeView) (form : Form) (u : State) (r : Nat) (s : State),
    s.flag F.EGR_OUT_TAKE_PATH_LOST n = true →
    (s.out n).route = none →
    form = (match (s.out n).view.form with | some f => f | none => Form.sdi (s.otdFormat (s.fld F.EGR_OUT_CFG_OTD n))) →
    s.requestRoute (s.fld F.EGR_OUT_TAKE_SOURCE n) form v (outPorts n) none none = (u, .ok r) →
    Completes (fun t => (t.out n).route = some r)
      (exec (.routeRetry n v) s)) ∧
  (∀ (d : Fin 8) (phases : List (Fin 384 × Int)) (crcs : List (Fin 128 × BitVec 64 × BitVec 6)) (k : Nat) (s : State),
    s.otdEnabled d = true →
    k = (match (s.otd d).target with | some f => f | none => (s.otd d).frame + 1) →
    Completes (fun t => (t.otd d).frame = k ∧ (t.reg .EGR_OTD_FCNT d).toNat = k % 2 ^ 32)
      (exec (.otdFrameBoundary d phases crcs) s))

/-- The cross-check (R177, R178, R181): while it runs, a record of the partner ends the count of silent frames; and one that names
another source than this part's own record of the same output and frame is a divergence: counted, answered DIVERGED, and the
self-check starts. -/
def Obligations.CrossCheckRecordsCompared : Prop :=
  (∀ (r : XchkRec) (s : State),
    s.xchkOn = true →
    Completes (fun t => t.tks.missing = 0 ∧ t.tks.got = s.tks.got + 1)
      (exec (.xchkRecordReceive r) s)) ∧
  (∀ (r own : XchkRec) (s : State),
    s.xchkOn = true →
    s.tks.sentX.find? (fun o => o.out == r.out && o.frame == r.frame) = some own →
    own.src ≠ r.src →
    Completes (fun t => t.reg .RSL_XCHK_DIV 0 = s.counted .RSL_XCHK_DIV 0 1 ∧ t.tks.check = some none ∧ t.resp = .DIVERGED)
      (exec (.xchkRecordReceive r) s))

/-- Output timing domains (R187, R188, R190), for a requester to whom the register is open: a domain enabled on a running time
base is aligned from the last boundary of its format; a change of an enabled domain without pending takes realigns it; a PHASE
within the frame period is stored, and one beyond it answers BAD_ARG and changes nothing. -/
def Obligations.DomainsConfiguredAndPhased : Prop :=
  (∀ (src : Requester) (d : Fin 8) (w : Word32) (word : Word) (fmt : Nat) (s : State),
    word = w.setWidth 64 →
    fmt = F.EGR_OTD_CFG_FORMAT.of word →
    s.closedTo .EGR_OTD_CFG src = false →
    F.EGR_OTD_CFG_ENABLE.on word = true →
    s.otdEnabled d = false →
    fmtAccepted fmt = true →
    s.otdPhase d < framePeriod fmt →
    s.tbRunning (F.EGR_OTD_CFG_TB.of word) = true →
    Completes (fun t => t.reg .EGR_OTD_CFG d = s.stored .EGR_OTD_CFG d word ∧ t.flag F.EGR_OTD_STAT_ALIGNED d = true ∧ (t.reg
      .EGR_OTD_FCNT d).toNat = lastBoundary fmt (s.otdPhase d) (s.tbNow (F.EGR_OTD_CFG_TB.of word)) % 2 ^ 32 ∧ t.resp = .OK)
      (exec (.otdConfigWrite src d w) s)) ∧
  (∀ (src : Requester) (d : Fin 8) (w : Word32) (word : Word) (fmt : Nat) (s : State),
    word = w.setWidth 64 →
    fmt = F.EGR_OTD_CFG_FORMAT.of word →
    s.closedTo .EGR_OTD_CFG src = false →
    F.EGR_OTD_CFG_ENABLE.on word = true →
    s.otdEnabled d = true →
    (fmt ≠ s.otdFormat d ∨ F.EGR_OTD_CFG_TB.of word ≠ s.otdTb d) →
    fmtAccepted fmt = true →
    s.otdPhase d < framePeriod fmt →
    s.domainPending d = false →
    (F.EGR_OTD_CFG_TB.of word ≠ s.otdTb d → s.tbRunning (F.EGR_OTD_CFG_TB.of word) = true) →
    Completes (fun t => t.reg .EGR_OTD_CFG d = s.stored .EGR_OTD_CFG d word ∧ t.flag F.EGR_OTD_STAT_REALIGNING d = true ∧ t.flag
      F.EGR_OTD_STAT_ALIGNED d = false ∧ t.resp = .OK)
      (exec (.otdConfigWrite src d w) s)) ∧
  (∀ (src : Requester) (d : Fin 8) (w : Word32) (word : Word) (s : State),
    word = w.setWidth 64 →
    s.closedTo .EGR_OTD_PHASE src = false →
    word.toNat * 65536 + 65536 ≤ framePeriod (s.otdFormat d) →
    (s.otdEnabled d = true → s.domainPending d = false) →
    Completes (fun t => t.reg .EGR_OTD_PHASE d = s.stored .EGR_OTD_PHASE d word ∧ t.resp = .OK)
      (exec (.otdPhaseWrite src d w) s)) ∧
  (∀ (src : Requester) (d : Fin 8) (w : Word32) (word : Word) (s : State),
    word = w.setWidth 64 →
    s.closedTo .EGR_OTD_PHASE src = false →
    framePeriod (s.otdFormat d) < word.toNat * 65536 + 65536 →
    Completes (fun t => t.reg .EGR_OTD_PHASE d = s.reg .EGR_OTD_PHASE d ∧ t.resp = .BAD_ARG)
      (exec (.otdPhaseWrite src d w) s))

/-- Outputs (R191 to R207, R226, R227), for a requester to whom the register is open: an output enabled in an enabled domain reads
RUN, cleared it drains, killed or drained it reads OFF; a line counts its gap marks, slips and lost packets; overrides,
patterns, idents, embedded audio and bonds that the rules allow are stored; and clearing EGR_CTRL.EN drains every output in
RUN. -/
def Obligations.OutputsEnabledDrainedAndRun : Prop :=
  (∀ (src : Requester) (n : Fin 128) (w : Word32) (word : Word) (u : State) (s : State),
    word = F.EGR_OUT_CFG_KILL.put 0 (F.EGR_OUT_CFG_ENABLE.put 1 (w.setWidth 64)) →
    s.closedTo .EGR_OUT_CFG src = false →
    s.outState n = 0 →
    badOutCfg word = false →
    s.badPattern word = false →
    s.fld F.TWL_SP_STAT_STATE (3 * (n / 16)) ≠ spGated →
    s.bondedPart n = false →
    s.flag F.EGR_CTRL_EN 0 = true →
    s.otdEnabled (F.EGR_OUT_CFG_OTD.of word) = true →
    s.vidFailed n = false →
    s.reserveOut 0 (outChannels (s.reg .EGR_OUT_AUD n)) = some u →
    Completes (fun t => t.outState n = 1 ∧ t.reg .EGR_OUT_CFG n = s.stored .EGR_OUT_CFG n word ∧ t.fld F.TWD_OUT_RES_N 0 = u.fld
      F.TWD_OUT_RES_N 0 ∧ t.resp = .OK)
      (exec (.outputEnable src n w) s)) ∧
  (∀ (src : Requester) (n : Fin 128) (word : Word) (s : State),
    word = F.EGR_OUT_CFG_KILL.put 0 (F.EGR_OUT_CFG_ENABLE.put 0 (s.reg .EGR_OUT_CFG n)) →
    s.closedTo .EGR_OUT_CFG src = false →
    s.outState n = 1 →
    badOutCfg word = false →
    s.badPattern word = false →
    Completes (fun t => t.outState n = 2 ∧ t.reg .EGR_OUT_CFG n = s.stored .EGR_OUT_CFG n word ∧ t.resp = .OK)
      (exec (.outputDisable src n) s)) ∧
  (∀ (src : Requester) (n : Fin 128) (word : Word) (s : State),
    word = F.EGR_OUT_CFG_KILL.put 1 (F.EGR_OUT_CFG_ENABLE.put 0 (s.reg .EGR_OUT_CFG n)) →
    s.closedTo .EGR_OUT_CFG src = false →
    s.outState n ≠ 0 →
    badOutCfg word = false →
    Completes (fun t => t.outState n = 0 ∧ t.flag F.EGR_OUT_STAT_KILLED n = true ∧ t.resp = .OK)
      (exec (.outputKill src n) s)) ∧
  (∀ (n : Fin 128) (s : State),
    s.outState n = 2 →
    Completes (fun t => t.outState n = 0 ∧ t.flag F.EGR_OUT_STAT_KILLED n = false ∧ (t.out n).lane = false)
      (exec (.outputDrainDone n) s)) ∧
  (∀ (n : Fin 128) (gaps slips ancDrops : Nat) (s : State),
    s.outState n ≠ 0 →
    Completes (fun t => (t.out n).gapLines = (if gaps = 0 then 0 else (s.out n).gapLines + 1) ∧ (t.out n).slips = (s.out n).slips +
      slips ∧ (gaps ≠ 0 → slips = 0 → t.reg .EGR_OUT_GAP n = s.counted .EGR_OUT_GAP n gaps) ∧ (ancDrops ≠ 0 → t.reg .EGR_OUT_ANCDROP
      n = s.counted .EGR_OUT_ANCDROP n ancDrops))
      (exec (.outputLine n gaps slips ancDrops) s)) ∧
  (∀ (src : Requester) (n : Fin 128) (ovr : BitVec 2) (pat : Fin 16) (word : Word) (s : State),
    word = F.EGR_OUT_CFG_OVERRIDE.put ovr.toNat (F.EGR_OUT_CFG_PAT.put pat (s.reg .EGR_OUT_CFG n)) →
    s.closedTo .EGR_OUT_CFG src = false →
    s.outState n = 1 →
    s.flag F.EGR_OUT_CFG_ENABLE n = true →
    badOutCfg word = false →
    s.badPattern word = false →
    Completes (fun t => t.reg .EGR_OUT_CFG n = s.stored .EGR_OUT_CFG n (F.EGR_OUT_CFG_KILL.put 0 word) ∧ t.resp = .OK)
      (exec (.overrideWrite src n ovr pat) s)) ∧
  (∀ (src : Requester) (p : Fin 16) (w : Word32) (word : Word) (s : State),
    word = w.setWidth 64 →
    s.closedTo .EGR_PAT_CFG src = false →
    (F.EGR_PAT_CFG_ENABLE.on word = true → s.flag F.EGR_PAT_CFG_ENABLE p = true → F.EGR_PAT_CFG_OTD.of word = s.fld
      F.EGR_PAT_CFG_OTD p) →
    (F.EGR_PAT_CFG_ENABLE.on word = true → s.flag F.EGR_PAT_CFG_ENABLE p = false → ∀ q : Fin 4, p / 4 * 4 + q.val ≠ p.val →
      s.flag F.EGR_PAT_CFG_ENABLE (p / 4 * 4 + q) = true → rasterOf (s.otdFormat (F.EGR_PAT_CFG_OTD.of word)) ≠ 8 ∧
      rasterOf (s.otdFormat (s.fld F.EGR_PAT_CFG_OTD (p / 4 * 4 + q))) ≠ 8) →
    Completes (fun t => t.reg .EGR_PAT_CFG p = s.stored .EGR_PAT_CFG p word ∧ t.resp = .OK)
      (exec (.patternGenConfig src p w) s)) ∧
  (∀ (src : Requester) (n : Fin 128) (ix : Fin 8) (w : Word32) (s : State),
    s.closedTo .EGR_OUT_IDENT src = false →
    s.outState n ≠ 2 →
    Completes (fun t => t.reg .EGR_OUT_IDENT (n * 8 + ix) = s.stored .EGR_OUT_IDENT (n * 8 + ix) (w.setWidth 64) ∧ t.resp = .OK)
      (exec (.identWrite src n ix w) s)) ∧
  (∀ (src : Requester) (n : Fin 128) (w : Word32) (word : Word) (u : State) (s : State),
    word = w.setWidth 64 →
    s.closedTo .EGR_OUT_AUD src = false →
    s.outState n ≠ 2 →
    F.EGR_OUT_AUD_MODE.of word ≠ 3 →
    F.EGR_OUT_AUD_CHANNELS.of word ≤ 32 →
    (F.EGR_OUT_AUD_MODE.of word = 2 → F.EGR_OUT_AUD_BASE.of word + F.EGR_OUT_AUD_CHANNELS.of word ≤ 8192) →
    (if s.outState n = 0 then some s else s.reserveOut (outChannels (s.reg .EGR_OUT_AUD n)) (outChannels word)) = some u →
    Completes (fun t => t.reg .EGR_OUT_AUD n = s.stored .EGR_OUT_AUD n word ∧ t.fld F.TWD_OUT_RES_N 0 = u.fld F.TWD_OUT_RES_N 0 ∧
      t.resp = .OK)
      (exec (.outAudioWrite src n w) s)) ∧
  (∀ (src : Requester) (n : Fin 128) (w : Word32) (word : Word) (s : State),
    word = w.setWidth 64 →
    s.closedTo .EGR_OUT_SDI src = false →
    s.outState n ≠ 2 →
    (n.val % 4 = 0 → F.EGR_OUT_SDI_BOND.on word = true → s.flag F.EGR_OUT_SDI_BOND n = false →
      (∀ k : Fin 3, s.flag F.EGR_OUT_CFG_ENABLE (n + 1 + k) = false) ∧ rasterOf (s.otdFormat (s.fld F.EGR_OUT_CFG_OTD n)) = 8) →
    Completes (fun t => t.reg .EGR_OUT_SDI n = s.stored .EGR_OUT_SDI n word ∧ t.resp = .OK)
      (exec (.outSdiBond src n w) s)) ∧
  (∀ (src : Requester) (n : Fin 128) (s : State),
    s.closedTo .EGR_CTRL src = false →
    Completes (fun t => t.flag F.EGR_STATUS_RUN 0 = false ∧ t.flag F.EGR_CTRL_EN 0 = false ∧ (s.outState n = 1 → t.outState n = 2))
      (exec (.egressDisable src) s))

/-- Senders (R209 to R220, R227), for a requester to whom the register is open: a binding that passes every check is stored and
the sender runs; a packet counts on each leg whose port has link; an OUTPUT sender's missing cells do not stop it while a
SOURCE sender's count in EGR_VSND_MISS; and clearing VALID stops the sender after its frame. -/
def Obligations.SendersBoundSentAndStopped : Prop :=
  (∀ (src : Requester) (ix : Fin 256) (w : Word32) (v : TakeView) (word : Word) (rate : Nat) (s : State),
    word = w.setWidth 64 →
    s.closedTo .EGR_VSND_CFG src = false →
    F.EGR_VSND_CFG_VALID.on word = true →
    F.EGR_VSND_CFG_MODE.on word = false →
    s.isLegB (F.EGR_VSND_CFG_FLOW.of word) = false →
    (F.EGR_VSND_CFG_DUAL.on word = true → s.sndPortA .video ix ≠ s.sndPortB .video ix) →
    s.bindable (F.EGR_VSND_CFG_FLOW.of word) (if F.EGR_VSND_CFG_TYPE.on word then 2 else 1) = true →
    s.sndAsleep .video ix (s.sndPortA .video ix) (s.sndPortB .video ix) = false →
    s.hbrmtUnfit word = false →
    rate = (if F.EGR_VSND_CFG_TYPE.on word then hbrmtRate (s.vsndForm ix word v).code ((s.dirEntry (F.EGR_VSND_CFG_FLOW.of
      word)).getLsbD 126)
      else videoRate (s.vsndForm ix word v) (s.fld F.EGR_VSND_PORT_PAYLOAD ix) ((s.dirEntry (F.EGR_VSND_CFG_FLOW.of word)).getLsbD
        126)) →
    ((s.store .EGR_VSND_CFG ix word).runSender .video ix rate).legsFit .video ix = true →
    Completes (fun t => t.reg .EGR_VSND_CFG ix = s.stored .EGR_VSND_CFG ix word ∧ (t.sender .video ix).run = true ∧ (t.sender .video
      ix).rate = rate ∧ t.flag F.EGR_VSND_STAT_RUN ix = true ∧ t.resp = .OK)
      (exec (.videoSenderBind src ix w v) s)) ∧
  (∀ (src : Requester) (ix : Fin 256) (w : Word32) (v : TakeView) (word : Word) (s : State),
    word = w.setWidth 64 →
    s.closedTo .EGR_VSND_SRC src = false →
    ¬(s.flag F.EGR_VSND_CFG_VALID ix = true ∧ s.flag F.EGR_VSND_CFG_MODE ix = true ∧ F.EGR_VSND_SRC_SOURCE.of word ≠ noSource) →
    Completes (fun t => t.reg .EGR_VSND_SRC ix = s.stored .EGR_VSND_SRC ix word ∧ t.resp = .OK)
      (exec (.sourceSenderSrc src ix w v) s)) ∧
  (∀ (src : Requester) (ix : Fin 256) (w : Word32) (v : TakeView) (word : Word) (u : State) (s : State),
    word = w.setWidth 64 →
    s.closedTo .EGR_VSND_SRC src = false →
    s.flag F.EGR_VSND_CFG_VALID ix = true →
    s.flag F.EGR_VSND_CFG_MODE ix = true →
    F.EGR_VSND_SRC_SOURCE.of word ≠ noSource →
    s.askSource ix (F.EGR_VSND_SRC_SOURCE.of word) v = (u, .OK) →
    Completes (fun t => t.reg .EGR_VSND_SRC ix = u.stored .EGR_VSND_SRC ix word ∧ (t.sender .video ix).next = (u.sender .video
      ix).next ∧ t.resp = .OK)
      (exec (.sourceSenderSrc src ix w v) s)) ∧
  (∀ (src : Requester) (ix : Fin 1024) (w : Word32) (word : Word) (u : State) (rate : Nat) (s : State),
    word = w.setWidth 64 →
    s.closedTo .EGR_ASND_CFG src = false →
    badAsnd word (s.reg .EGR_ASND_FMT ix) = false →
    s.reserveOut (asndChannels (s.reg .EGR_ASND_CFG ix) (s.reg .EGR_ASND_FMT ix)) (asndChannels word (s.reg .EGR_ASND_FMT ix)) =
      some u →
    F.EGR_ASND_CFG_VALID.on word = true →
    s.isLegB (F.EGR_ASND_CFG_FLOW.of word) = false →
    (F.EGR_ASND_CFG_DUAL.on word = true → s.sndPortA .audio ix ≠ s.sndPortB .audio ix) →
    s.bindable (F.EGR_ASND_CFG_FLOW.of word) (if F.EGR_ASND_CFG_KIND.on word then 4 else 3) = true →
    s.sndAsleep .audio ix (s.sndPortA .audio ix) (s.sndPortB .audio ix) = false →
    rate = audioRate (F.EGR_ASND_CFG_KIND.on word) (s.fld F.EGR_ASND_FMT_CHANNELS ix) (s.flag F.EGR_ASND_FMT_RATE ix)
      (s.fld F.EGR_ASND_FMT_PTIME ix == 1) ((s.dirEntry (F.EGR_ASND_CFG_FLOW.of word)).getLsbD 126) →
    ((u.store .EGR_ASND_CFG ix word).runSender .audio ix rate).legsFit .audio ix = true →
    Completes (fun t => t.reg .EGR_ASND_CFG ix = s.stored .EGR_ASND_CFG ix word ∧ (t.sender .audio ix).run = true ∧ (t.sender .audio
      ix).rate = rate ∧ t.fld F.TWD_OUT_RES_N 0 = u.fld F.TWD_OUT_RES_N 0 ∧ t.resp = .OK)
      (exec (.audioSenderBind src ix false w) s)) ∧
  (∀ (src : Requester) (ix : Fin 1024) (w : Word32) (word : Word) (u : State) (s : State),
    word = w.setWidth 64 →
    s.closedTo .EGR_ASND_FMT src = false →
    badAsnd (s.reg .EGR_ASND_CFG ix) word = false →
    s.flag F.EGR_ASND_CFG_VALID ix = false →
    s.reserveOut (asndChannels (s.reg .EGR_ASND_CFG ix) (s.reg .EGR_ASND_FMT ix)) (asndChannels (s.reg .EGR_ASND_CFG ix) word) =
      some u →
    Completes (fun t => t.reg .EGR_ASND_FMT ix = s.stored .EGR_ASND_FMT ix word ∧ t.resp = .OK)
      (exec (.audioSenderBind src ix true w) s)) ∧
  (∀ (src : Requester) (ix : Fin 512) (w : Word32) (word : Word) (s : State),
    word = w.setWidth 64 →
    s.closedTo .EGR_XSND_CFG src = false →
    F.EGR_XSND_CFG_VALID.on word = true →
    s.isLegB (F.EGR_XSND_CFG_FLOW.of word) = false →
    (F.EGR_XSND_CFG_DUAL.on word = true → s.sndPortA .anc ix ≠ s.sndPortB .anc ix) →
    s.bindable (F.EGR_XSND_CFG_FLOW.of word) 5 = true →
    s.sndAsleep .anc ix (s.sndPortA .anc ix) (s.sndPortB .anc ix) = false →
    Completes (fun t => t.reg .EGR_XSND_CFG ix = s.stored .EGR_XSND_CFG ix word ∧ (t.sender .anc ix).run = true ∧ t.resp = .OK)
      (exec (.ancSenderBind src ix w) s)) ∧
  (∀ (ix : Fin 256) (k : Nat) (late : Bool) (s : State),
    (s.sender .video ix).run = true →
    s.fenced = false →
    s.sndBound .video ix = true →
    (s.sndLegs .video ix (s.sender .video ix).takeover).1 = true →
    s.linkUp (s.sndPortA .video ix) = true →
    Completes (fun t => (t.sender .video ix).queued = (s.sender .video ix).queued - 1 ∧ t.reg .EGR_VSND_TXA ix = s.counted
      .EGR_VSND_TXA ix 1 ∧ (late = true → t.reg .EGR_VSND_LATE ix = s.counted .EGR_VSND_LATE ix 1))
      (exec (.videoPacketSend ix k false late) s)) ∧
  (∀ (ix : Fin 256) (k : Nat) (late : Bool) (s : State),
    (s.sender .video ix).run = true →
    s.fenced = false →
    s.sndBound .video ix = true →
    s.flag F.EGR_VSND_CFG_MODE ix = true →
    Completes (fun t => t.reg .EGR_VSND_MISS ix = s.counted .EGR_VSND_MISS ix 1 ∧ t.sent = s.sent)
      (exec (.videoPacketSend ix k true late) s)) ∧
  (∀ (ix : Fin 1024) (first : Nat) (s : State),
    (s.sender .audio ix).run = true →
    s.fenced = false →
    s.sndBound .audio ix = true →
    s.sndLegs .audio ix (s.sndTakeover .audio ix && s.mirrored && s.partnerLost) = (true, false) →
    s.linkUp (s.sndPortA .audio ix) = true →
    Completes (fun t => t.reg .EGR_ASND_TX ix = s.counted .EGR_ASND_TX ix 1 ∧ ((s.sender .audio ix).stopping = true → (t.sender
      .audio ix).run = false))
      (exec (.audioPacketSend ix first) s)) ∧
  (∀ (ix : Fin 512) (field : Nat) (last : Bool) (s : State),
    (s.sender .anc ix).run = true →
    s.fenced = false →
    s.sndBound .anc ix = true →
    s.sndLegs .anc ix (s.sender .anc ix).takeover = (true, false) →
    s.linkUp (s.sndPortA .anc ix) = true →
    Completes (fun t => t.reg .EGR_XSND_TX ix = s.counted .EGR_XSND_TX ix 1)
      (exec (.ancPacketSend ix field last) s)) ∧
  (∀ (src : Requester) (ix : Fin 1024) (s : State),
    s.closedTo .EGR_VSND_CFG src = false →
    Completes (fun t => t.flag F.EGR_VSND_CFG_VALID (ix % 256) = false ∧ (t.sender .video (ix % 256)).stopping = (s.sender .video
      (ix % 256)).run ∧ t.resp = .OK)
      (exec (.senderStop src .video ix) s)) ∧
  (∀ (src : Requester) (ix : Fin 1024) (word : Word) (u : State) (s : State),
    word = F.EGR_ASND_CFG_VALID.put 0 (s.reg .EGR_ASND_CFG ix) →
    s.closedTo .EGR_ASND_CFG src = false →
    badAsnd word (s.reg .EGR_ASND_FMT ix) = false →
    s.reserveOut (asndChannels (s.reg .EGR_ASND_CFG ix) (s.reg .EGR_ASND_FMT ix)) (asndChannels word (s.reg .EGR_ASND_FMT ix)) =
      some u →
    Completes (fun t => t.flag F.EGR_ASND_CFG_VALID ix = false ∧ (t.sender .audio ix).stopping = (s.sender .audio ix).run ∧ t.resp =
      .OK)
      (exec (.senderStop src .audio ix) s)) ∧
  (∀ (src : Requester) (ix : Fin 1024) (s : State),
    s.closedTo .EGR_XSND_CFG src = false →
    Completes (fun t => t.flag F.EGR_XSND_CFG_VALID (ix % 512) = false ∧ (t.sender .anc (ix % 512)).stopping = (s.sender .anc (ix %
      512)).run ∧ t.resp = .OK)
      (exec (.senderStop src .anc ix) s))

/-- The join service (R221, R222, Table 05.6) and the HEALTH outputs (R224, R225): an entry set joins with a report, cleared it is
idle; repeats, a stall, queries and older queriers move a live entry as Table 05.6 says; a pin whose conditions have held
rises; and a planned release of an enabled domain waits for its switch point. -/
def Obligations.JoinsAndHealthFollowTheirRules : Prop :=
  (∀ (src : Requester) (j : Fin 4096) (port : Fin 32) (flow : BitVec 19) (word : Word) (s : State),
    word = BitVec.ofNat 64 (2 ^ 31 + port.val * 2 ^ 21 + flow.toNat) →
    s.closedTo .EGR_JOIN_ENT src = false →
    dirValid (s.dirEntry flow.toNat) = true →
    s.flag F.NPT_PORT_STAT_EXISTS port = true →
    s.wakeOnly port = false →
    word ≠ s.reg .EGR_JOIN_ENT j →
    Completes (fun t => t.reg .EGR_JOIN_ENT j = s.stored .EGR_JOIN_ENT j word ∧ t.joinState j = joinJoining ∧ (t.join j).leaving =
      false ∧ t.resp = .OK)
      (exec (.joinEntrySet src j port flow) s)) ∧
  (∀ (src : Requester) (j : Fin 4096) (s : State),
    s.closedTo .EGR_JOIN_ENT src = false →
    Completes (fun t => t.joinState j = joinIdle ∧ t.flag F.EGR_JOIN_ENT_VALID j = false ∧ t.resp = .OK)
      (exec (.joinEntryClear src j) s)) ∧
  (∀ (j : Fin 4096) (s : State),
    (s.join j).repeats ≠ 0 →
    Completes (fun t => (t.join j).repeats = (s.join j).repeats - 1 ∧ t.reg .EGR_JOIN_REP j = s.counted .EGR_JOIN_REP j 1)
      (exec (.joinRepeatTimer j) s)) ∧
  (∀ (j : Fin 4096) (s : State),
    s.joinState j = joinReceiving →
    Completes (fun t => t.joinState j = joinStalled ∧ bit Irq.EGR_JOIN_FAIL.bit (t.reg .EGR_INT_STAT 0) = true)
      (exec (.joinStallTimeout j) s)) ∧
  (∀ (port : Fin 32) (j : Nat) (s : State),
    s.egr.joins.any (fun e => e.1 == j) = true →
    s.fld F.EGR_JOIN_ENT_PORT j = port →
    s.joinLive j = true →
    Completes (fun t => (t.join j).queried = true)
      (exec (.joinQueryReceive port none) s)) ∧
  (∀ (j : Fin 4096) (s : State),
    (s.join j).queried = true →
    Completes (fun t => (t.join j).queried = false ∧ t.reg .EGR_JOIN_REP j = s.counted .EGR_JOIN_REP j 1)
      (exec (.joinQueryReport j) s)) ∧
  (∀ (port : Fin 32) (j : Nat) (s : State),
    s.egr.joins.any (fun e => e.1 == j) = true →
    s.fld F.EGR_JOIN_ENT_PORT j = port →
    s.joinLive j = true →
    s.isSsm (s.fld F.EGR_JOIN_ENT_FLOW j) = true →
    Completes (fun t => t.joinState j = joinDegraded)
      (exec (.joinOldQuerier port) s)) ∧
  (∀ (port : Fin 32) (j : Nat) (s : State),
    s.egr.joins.any (fun e => e.1 == j) = true →
    s.fld F.EGR_JOIN_ENT_PORT j = port →
    s.joinState j = joinDegraded →
    Completes (fun t => t.joinState j = joinJoining)
      (exec (.joinOldQuerierTimeout port) s)) ∧
  (∀ (pinB : Bool) (s : State),
    s.healthFail pinB = 0 →
    Completes (fun t => (if pinB then t.egr.healthB else t.egr.healthA) = true ∧ t.flag (if pinB then F.EGR_HEALTH_STAT_HEALTH_B
      else F.EGR_HEALTH_STAT_HEALTH_A) 0 = true)
      (exec (.healthRiseTimer pinB) s)) ∧
  (∀ (src : Requester) (releaseB : Bool) (s : State),
    s.closedTo .EGR_HEALTH_CTRL src = false →
    s.otdEnabled (s.fld F.EGR_HEALTH_CFG_RELEASE_OTD 0) = true →
    s.flag F.EGR_HEALTH_CTRL_RELEASE_A 0 = false →
    Completes (fun t => t.egr.waitA = true ∧ t.flag F.EGR_HEALTH_CTRL_RELEASE_A 0 = true ∧ t.resp = .OK)
      (exec (.healthReleaseWrite src true releaseB) s))

/-- The self-check (R178, R179, R181, R542, R549): its end is told to the partner and kept, and with the partner's result at hand
it decides: a part that failed while the partner passed fences, HEALTH falling and RSL_STATUS.FENCED reading 1; when the
partner fails, or both pass, this part goes on. No result in time is RESULT 5 and fences nobody. Records missing for
MISS_FRAMES frames probe the partner. -/
def Obligations.SelfCheckDecidesWhoFences : Prop :=
  (∀ (step : Fin 6) (s : State),
    s.tks.check = some none →
    s.tks.partnerCheck = none →
    Completes (fun t => t.tks.check = some (some step.val) ∧ t.sent = .selfCheck (step == 0) :: s.sent ∧ t.fld F.RSL_XCHK_LAST_STEP
      0 = step.val ∧ t.fenced = s.fenced)
      (exec (.selfCheckDone step) s)) ∧
  (∀ (step : Fin 6) (s : State),
    s.tks.check = some none →
    s.tks.partnerCheck = some true →
    step.val ≠ 0 →
    Completes (fun t => t.fenced = true ∧ t.fld F.RSL_XCHK_LAST_RESULT 0 = 2 ∧ t.tks.check = none)
      (exec (.selfCheckDone step) s)) ∧
  (∀ (passed : Bool) (s : State),
    s.tks.check = some none →
    Completes (fun t => t.tks.partnerCheck = some passed ∧ t.regs = s.regs)
      (exec (.selfCheckResultReceive passed) s)) ∧
  (∀ (passed : Bool) (n : Nat) (s : State),
    s.tks.check = some (some n) →
    (n = 0 ∨ passed = false) →
    Completes (fun t => t.fenced = s.fenced ∧ t.fld F.RSL_XCHK_LAST_RESULT 0 = (if n = 0 then (if passed then 1 else 3) else 4) ∧
      t.tks.check = none)
      (exec (.selfCheckResultReceive passed) s)) ∧
  (∀ (n : Nat) (s : State),
    s.tks.check = some (some n) →
    n ≠ 0 →
    s.fenced = false →
    n < 8 →
    Completes (fun t => t.fenced = true ∧ t.fld F.RSL_FENCE_STAT_STATE 0 = fenceStateOf n ∧ t.fld F.RSL_FENCE_STAT_STEP 0 = n ∧
      t.fld F.RSL_XCHK_LAST_RESULT 0 = 2)
      (exec (.selfCheckResultReceive true) s)) ∧
  (∀ (n : Nat) (s : State),
    s.tks.check = some (some n) →
    Completes (fun t => t.fld F.RSL_XCHK_LAST_RESULT 0 = 5 ∧ t.tks.check = none ∧ t.tks.partnerCheck = none ∧ t.fenced = s.fenced)
      (exec .selfCheckResultTimeout s)) ∧
  (∀ (s : State),
    s.xchkOn = true →
    s.paired = true →
    s.rsl.probing = false →
    s.fld F.RSL_XCHK_CFG_MISS_FRAMES 0 ≤ s.tks.missing →
    Completes (fun t => t.rsl.probing = true ∧ t.sent = .probe :: s.sent ∧ t.regs = s.regs)
      (exec .partnerSilence s))

/-- Submission and completion queues (R245, R246, R248, R249, R251 to R253, R259, R262): a doorbell stores its index; a queue that
is ready takes the entry at its head, which moves on; an order that fails check 1, 2 or 3 of Table 06.7 is refused and
counted; and one that passes them all on a part without partner is in the journal, ACCEPTED, with its source's high-water mark
at its SEQ. -/
def Obligations.QueuesTakeOrdersIntoTheJournal : Prop :=
  (∀ (src : Requester) (q : Fin 64) (w : Word32) (s : State),
    s.closedTo .NIM_SQ_TAIL src = false →
    Completes (fun t => t.reg .NIM_SQ_TAIL q = s.stored .NIM_SQ_TAIL q (w.setWidth 64) ∧ t.nim = s.nim)
      (exec (.sqDoorbell src q w) s)) ∧
  (∀ (src : Requester) (q : Fin 64) (w : Word32) (s : State),
    s.closedTo .NIM_CQ_HEAD src = false →
    s.nim.waiting = [] →
    Completes (fun t => t.reg .NIM_CQ_HEAD q = s.stored .NIM_CQ_HEAD q (w.setWidth 64) ∧ t.nim = s.nim)
      (exec (.cqDoorbell src q w) s)) ∧
  (∀ (q : Fin 64) (e : Sqe) (s : State),
    s.queueReady q = true →
    s.fenced = true →
    Completes (fun t => t.fld F.NIM_SQ_HEAD_INDEX q = (s.fld F.NIM_SQ_HEAD_INDEX q + 1) % s.qSize q ∧ t.reg .NIM_REFUSED 0 =
      s.counted .NIM_REFUSED 0 1 ∧ t.reg .NIM_Q_REFUSED q = s.counted .NIM_Q_REFUSED q 1 ∧ t.nim.journal = s.nim.journal ∧ t.reg
      .NIM_ACCEPTED 0 = s.reg .NIM_ACCEPTED 0)
      (exec (.submissionAccept q e) s)) ∧
  (∀ (q : Fin 64) (e : Sqe) (s : State),
    s.queueReady q = true →
    s.flag F.NIM_CTRL_EN 0 = false →
    Completes (fun t => t.fld F.NIM_SQ_HEAD_INDEX q = (s.fld F.NIM_SQ_HEAD_INDEX q + 1) % s.qSize q ∧ t.reg .NIM_REFUSED 0 =
      s.counted .NIM_REFUSED 0 1 ∧ t.reg .NIM_Q_REFUSED q = s.counted .NIM_Q_REFUSED q 1 ∧ t.nim.journal = s.nim.journal)
      (exec (.submissionAccept q e) s)) ∧
  (∀ (q : Fin 64) (e : Sqe) (s : State),
    s.queueReady q = true →
    (e.seq / 2 ^ 57 ≠ q ∨ e.seq % 2 ^ 57 = 0 ∨ orderArgs e.flags e.affinity e.body = false) →
    Completes (fun t => t.fld F.NIM_SQ_HEAD_INDEX q = (s.fld F.NIM_SQ_HEAD_INDEX q + 1) % s.qSize q ∧ t.reg .NIM_REFUSED 0 =
      s.counted .NIM_REFUSED 0 1 ∧ t.reg .NIM_Q_REFUSED q = s.counted .NIM_Q_REFUSED q 1 ∧ t.nim.journal = s.nim.journal)
      (exec (.submissionAccept q e) s)) ∧
  (∀ (q : Fin 64) (seq flags tag : Nat) (aff : BitVec 32) (body : List Byte) (s : State),
    s.queueReady q = true →
    s.fenced = false →
    s.flag F.NIM_CTRL_EN 0 = true →
    seq / 2 ^ 57 = q.val →
    s.hwmOf q < seq % 2 ^ 57 →
    orderArgs flags aff (some body) = true →
    programCheck (aff.toNat / 2 ^ 30) (bodyTbl body) = .OK →
    s.deltasFull = false →
    (s.freeRun (3 + ceilDiv body.length 64)).isSome = true →
    s.paired = false →
    s.entry ⟨s.domainId, seq, 0⟩ = none →
    Completes (fun t => (t.entry ⟨s.domainId, seq, 0⟩).map (fun e => (e.phase, e.len, e.tag, e.awaiting)) = some (.accepted,
      body.length, tag, false) ∧ t.hwmOf q = seq % 2 ^ 57 ∧ t.fld F.NIM_SQ_HEAD_INDEX q = (s.fld F.NIM_SQ_HEAD_INDEX q + 1) %
      s.qSize q ∧ t.reg .NIM_ACCEPTED 0 = s.counted .NIM_ACCEPTED 0 1 ∧ t.reg .NIM_REFUSED 0 = s.reg .NIM_REFUSED 0)
      (exec (.submissionAccept q ⟨seq, flags, aff, tag, some body⟩) s))

/-- The journal (R255, R260, R262 to R268, R270, R271, R273): the partner's entry is written here and answered OK, once; the
partner's reply ends the wait of an entry or frees it; an entry that waits is sent again; frontiers go out and come in; an
entry that may start runs on a free context of its core; a program that exhausts its budget traps and its entry is COMPLETE
with BAD_ARG; the oldest entry is freed; a warm reset of the partner holds the queues, and one that lasts too long is its
loss; replay, reconciliation and rejoining write the entries that this part lacks. -/
def Obligations.JournalMirroredRunAndFreed : Prop :=
  (∀ (e f : JEntry) (s : State),
    s.entry e.key = some f →
    Completes (fun t => t.sent = .mirrorReply e.key .OK :: s.sent ∧ t.nim = s.nim ∧ t.regs = s.regs)
      (exec (.journalMirrorReceive e) s)) ∧
  (∀ (e : JEntry) (s : State),
    s.entry e.key = none →
    s.fenced = false →
    s.flag F.NIM_CTRL_EN 0 = true →
    (s.freeRun e.slots).isSome = true →
    Completes (fun t => (t.entry e.key).map (fun f => (f.phase, f.time, f.body, f.queue)) = some (.accepted, e.time, e.body, none) ∧
      t.sent = .mirrorReply e.key .OK :: s.sent)
      (exec (.journalMirrorReceive e) s)) ∧
  (∀ (e : JEntry) (s : State),
    s.entry e.key = none →
    s.fenced = true →
    Completes (fun t => t.sent = .mirrorReply e.key .FENCED :: s.sent ∧ t.nim = s.nim)
      (exec (.journalMirrorReceive e) s)) ∧
  (∀ (key : Key) (e : JEntry) (s : State),
    s.entry key = some e →
    e.awaiting = true →
    e.queue = some 3 →
    Completes (fun t => (t.entry key).map (fun f => f.awaiting) = some false ∧ t.reg .NIM_ACCEPTED 0 = s.counted .NIM_ACCEPTED 0 1)
      (exec (.journalMirrorReply key .OK) s)) ∧
  (∀ (key : Key) (st : Status) (e : JEntry) (s : State),
    s.entry key = some e →
    e.awaiting = true →
    e.queue = some 3 →
    st ≠ .OK →
    Completes (fun t => t.entry key = none ∧ t.reg .NIM_REFUSED 0 = s.counted .NIM_REFUSED 0 1)
      (exec (.journalMirrorReply key st) s)) ∧
  (∀ (key : Key) (e : JEntry) (s : State),
    s.entry key = some e →
    e.awaiting = true →
    Completes (fun t => t = s.emit (.mirror e))
      (exec (.journalResendTimer key) s)) ∧
  (∀ (s : State),
    s.mirrored = true →
    (s.nim.journal.filter fun (e : JEntry) => e.awaiting) = [] →
    Completes (fun t => t = s.emit (.frontier s.journalNow))
      (exec .frontierSend s)) ∧
  (∀ (time : Nat) (done : List Key) (s : State),
    s.mirrored = true →
    s.partnerLost = false →
    Completes (fun t => t.nim.frontier = max time s.nim.frontier ∧ t.nim.clock = max time s.nim.clock ∧ t.fld
      F.NIM_PAIR_STAT_PARTNER 0 = 1 ∧ t.flag F.NIM_STATUS_PARTNER_WAIT 0 = false ∧ t.nim.journal.map (·.key) = s.nim.journal.map
      (·.key) ∧ (∀ e ∈ t.nim.journal, done.contains e.key = true → e.partnerDone = true))
      (exec (.frontierReceive time done) s)) ∧
  (∀ (key : Key) (core : Fin 16) (e : JEntry) (i : Nat) (s : State),
    s.entry key = some e →
    e.phase = .accepted →
    e.forwarded = false →
    e.awaiting = false →
    e.affinity = 1 →
    s.running key = false →
    s.flag F.NIM_CTRL_EN 0 = true →
    s.flag F.NIM_STATUS_PARTNER_WAIT 0 = false →
    (s.paired = true → e.time < s.nim.frontier) →
    s.mayStart e = true →
    s.nim.warm = false →
    s.fenced = false →
    s.fld F.RSL_UNIT_STAT_STATE core ≠ 2 →
    s.freeContext core = some i →
    Completes (fun t => (t.ctx i).entry = some key ∧ (t.ctx i).pc = 0 ∧ (t.ctx i).run ≠ .off ∧ (t.entry key).map (fun f => f.phase)
      = some .running)
      (exec (.entryStart key core) s)) ∧
  (∀ (core : Fin 16) (i : Nat) (k : Key) (e : JEntry) (s : State),
    s.runningOn core = some i →
    i / 8 = core.val →
    (s.ctx i).entry = some k →
    (s.ctx i).slot = none →
    s.entry k = some e →
    e.phase = .running →
    Completes (fun t => (t.entry k).map (fun f => (f.phase, f.final, f.trap)) = some (.complete, .BAD_ARG, 5) ∧ (t.ctx i).run = .off
      ∧ t.reg .NIM_CORE_TRAPS core = s.counted .NIM_CORE_TRAPS core 1 ∧ t.reg .NIM_COMPLETED 0 = s.counted .NIM_COMPLETED 0 1)
      (exec (.budgetTrap core) s)) ∧
  (∀ (e : JEntry) (l : List JEntry) (s : State),
    s.nim.journal = e :: l →
    s.freeable e = true →
    Completes (fun t => t.entry e.key = none ∧ (∀ k, k ≠ e.key → t.entry k = s.entry k))
      (exec .journalEntryFree s)) ∧
  (∀ (key : Key) (e : JEntry) (s : State),
    s.entry key = some e →
    e.phase = .accepted →
    e.forwarded = false →
    e.key.origin = s.domainId →
    e.key.source = 3 →
    Completes (fun t => t.flag F.NIM_STATUS_REPLAY 0 = true ∧ (t.entry key).map (fun f => f.replayed) = some true ∧
      t.nim.journal.length = s.nim.journal.length ∧ key.seq % 2 ^ 57 ≤ t.hwmOf 3)
      (exec (.journalReplay true []) s)) ∧
  (∀ (s : State),
    s.mirrored = true →
    s.partnerLost = false →
    Completes (fun t => t.fld F.NIM_PAIR_STAT_PARTNER 0 = 2 ∧ t.flag F.NIM_STATUS_PARTNER_WAIT 0 = true ∧ t.nim = s.nim)
      (exec .warmResetAnnounce s)) ∧
  (∀ (s : State),
    s.fld F.NIM_PAIR_STAT_PARTNER 0 = 2 →
    s.mirrored = true →
    Completes (fun t => t.partnerLost = true ∧ t.fld F.RSL_PAIR_STAT_CAUSE 0 = 3 ∧ t.flag F.NIM_STATUS_PARTNER_WAIT 0 = false)
      (exec .warmWaitTimeout s)) ∧
  (∀ (e : JEntry) (s : State),
    s.entry e.key = none →
    Completes (fun t => (t.entry e.key).map (fun f => (f.body, f.replayed)) = some (e.body, true) ∧ t.sent = s.sent)
      (exec (.journalReconcile [e] []) s)) ∧
  (∀ (e : JEntry) (s : State),
    s.entry e.key = none →
    e.phase ≠ .complete →
    e.forwarded = false →
    Completes (fun t => (t.entry e.key).map (fun f => (f.body, f.replayed)) = some (e.body, true) ∧ t.flag F.NIM_STATUS_REPLAY 0 =
      true)
      (exec (.partnerRejoin [] [] [e]) s))

/-- NIM_CTRL and the services (R274, R275, R278) and NIM_PAIR_CFG (R26, R27, R281, R282): a disable drains, a kill ends the drain
with no program left, a drain whose entries are all COMPLETE ends; an enabled service starts at its ENTRY on its core, one
that trapped starts again; and a WARM_WAIT outside 100 to 10,000 or MODE 3 answers BAD_ARG, a change of MODE or PARTNER that
no order of affinity ALL asks for answers REFUSED_POLICY, and each of these leaves NIM_PAIR_CFG as it was. -/
def Obligations.NimadeDrainsServesAndPairs : Prop :=
  (∀ (src : Requester) (s : State),
    s.closedTo .NIM_CTRL src = false →
    s.flag F.NIM_CTRL_EN 0 = true →
    Completes (fun t => t.flag F.NIM_CTRL_EN 0 = false ∧ t.flag F.NIM_STATUS_RUN 0 = false ∧ t.flag F.NIM_STATUS_DRAINING 0 = true ∧
      t.nim = s.nim)
      (exec (.nimDisable src) s)) ∧
  (∀ (src : Requester) (s : State),
    s.closedTo .NIM_CTRL src = false →
    Completes (fun t => t.flag F.NIM_CTRL_EN 0 = false ∧ t.flag F.NIM_STATUS_DRAINING 0 = false ∧ t.nim.running = [] ∧ t.nim.journal
      = s.nim.journal)
      (exec (.nimKill src) s)) ∧
  (∀ (s : State),
    s.flag F.NIM_STATUS_DRAINING 0 = true →
    (∀ e ∈ s.nim.journal, e.phase = .complete) →
    Completes (fun t => t.flag F.NIM_STATUS_DRAINING 0 = false ∧ t.nim.running = [] ∧ t.nim.journal = s.nim.journal)
      (exec .nimDrainDone s)) ∧
  (∀ (n : Fin 32) (s : State),
    (∀ m : Fin 32, s.flag F.NIM_SVC_CFG_EN m = decide (m = n)) →
    Completes (fun t => t.fld F.NIM_SVC_STAT_STATE n = 1 ∧ (t.svc n).at_ = some (s.svcContext n) ∧ (t.ctx (s.svcContext n)).slot =
      some n.val ∧ (t.ctx (s.svcContext n)).pc = s.fld F.NIM_SVC_CFG_ENTRY n % 2 ^ 20)
      (exec (.serviceStart []) s)) ∧
  (∀ (n : Fin 32) (s : State),
    s.fld F.NIM_SVC_STAT_STATE n = 3 →
    Completes (fun t => t.fld F.NIM_SVC_STAT_STATE n = 1 ∧ t.fld F.NIM_SVC_STAT_RESTARTS n = satTo 16 (s.fld F.NIM_SVC_STAT_RESTARTS
      n + 1) ∧ (t.svc n).at_ = some (s.svcContext n))
      (exec (.serviceRestart n) s)) ∧
  (∀ (src : Requester) (allOrder partnerNames partnerB : Bool) (w : Word32) (s : State),
    s.closedTo .NIM_PAIR_CFG src = false →
    (F.NIM_PAIR_CFG_MODE.of (w.setWidth 64) = 3 ∨ F.NIM_PAIR_CFG_WARM_WAIT.of (w.setWidth 64) < 100 ∨ 10000 <
      F.NIM_PAIR_CFG_WARM_WAIT.of (w.setWidth 64)) →
    Completes (fun t => t = s.answer .BAD_ARG)
      (exec (.pairModeWrite src allOrder partnerNames partnerB w) s)) ∧
  (∀ (src : Requester) (allOrder partnerNames partnerB : Bool) (w : Word32) (s : State),
    s.closedTo .NIM_PAIR_CFG src = false →
    F.NIM_PAIR_CFG_MODE.of (w.setWidth 64) ≠ 3 →
    100 ≤ F.NIM_PAIR_CFG_WARM_WAIT.of (w.setWidth 64) →
    F.NIM_PAIR_CFG_WARM_WAIT.of (w.setWidth 64) ≤ 10000 →
    F.NIM_PAIR_CFG_MODE.of (w.setWidth 64) ≠ s.fld F.NIM_PAIR_CFG_MODE 0 →
    (allOrder = false ∨ src ≠ .work) →
    Completes (fun t => t = s.answer .REFUSED_POLICY)
      (exec (.pairModeWrite src allOrder partnerNames partnerB w) s)) ∧
  (∀ (w : Word32) (partnerB : Bool) (s : State),
    F.NIM_PAIR_CFG_MODE.of (w.setWidth 64) = 1 →
    100 ≤ F.NIM_PAIR_CFG_WARM_WAIT.of (w.setWidth 64) →
    F.NIM_PAIR_CFG_WARM_WAIT.of (w.setWidth 64) ≤ 10000 →
    s.fld F.NIM_PAIR_CFG_MODE 0 ≠ 1 →
    partnerB ≠ s.sideB →
    Completes (fun t => t.reg .NIM_PAIR_CFG 0 = s.stored .NIM_PAIR_CFG 0 (w.setWidth 64) ∧ t.fld F.NIM_PAIR_STAT_PARTNER 0 = 1 ∧
      t.partnerLost = false ∧ t.resp = .OK)
      (exec (.pairModeWrite .work true true partnerB w) s))

/-- Signal-plane instructions (R233, R269, R296 to R301): sent for the first time, one reads its operands from its registers and
block, its context gives up the core and counts it, and it has its effect: take and salvo execute their members as take
orders, flow_write and flow_withdraw order the directory, layer writes a layer of a pipe, commit commits pipes, and a result
that comes back gives g[rd], st and the progress slot. One whose index is recorded already has no effect again: it gets the
recorded status. -/
def Obligations.SignalPlaneInstructionsAreSentAndAnswered : Prop :=
  (∀ (a : NimAt) (rd ra rb : Fin 32) (f : BitVec 2) (view : TakeView) (x : Nat) (k : Key) (s : State),
    s.sends a [ra.val, rb.val] x k →
    f.getLsbD 1 = false →
    Completes (fun t => t = (s.sentBy a [ra.val, rb.val] x rd).takeMembers k (s.ctx x).sig 0 (some x) true false (f.getLsbD 0)
      ((s.sentBy a [ra.val, rb.val] x rd).isReplayed k) ((s.ctx x).reg rb).toNat [((s.ctx x).reg ra, view)])
      (exec (.take a rd ra rb 0 f view) s)) ∧
  (∀ (a : NimAt) (rd ra rb : Fin 32) (f : BitVec 2) (view : TakeView) (x : Nat) (k : Key) (e : JEntry) (st : Status) (s : State),
    s.issues a ⟨none, [ra.val, rb.val], 8⟩ x →
    (s.ctx x).entry = some k →
    (s.ctx x).sig < 24 →
    f.getLsbD 1 = false →
    s.entry k = some e →
    e.sigs[(s.ctx x).sig]? = some st →
    x / 8 = a.core.val →
    Completes (fun t => (t.ctx x).st = stWord st (s.ctx x).sig false ∧ (t.ctx x).pc = (s.ctx x).pc + 1 ∧ t.tks = s.tks ∧
      t.nim.journal = s.nim.journal ∧ t.regs = s.regs)
      (exec (.take a rd ra rb 0 f view) s)) ∧
  (∀ (a : NimAt) (rd ra rb rc : Fin 32) (f : BitVec 2) (views : List TakeView) (members : List Word) (x : Nat) (k : Key) (s :
    State),
    s.sends a [ra.val, rb.val, rc.val] x k →
    s.salvoArgs (s.ctx x) (f.getLsbD 0) ((s.ctx x).reg ra).toNat ((s.ctx x).reg rc) = .ok (some members) →
    Completes (fun t => t = (s.sentBy a [ra.val, rb.val, rc.val] x rd).takeMembers k (s.ctx x).sig (((s.ctx x).reg rc).toNat % 2 ^
      32) (some x) false (f.getLsbD 1) false
      ((s.sentBy a [ra.val, rb.val, rc.val] x rd).isReplayed k) ((s.ctx x).reg rb).toNat (members.zipIdx.map fun m => (m.1,
        views.getD m.2 default)))
      (exec (.salvo a rd ra rb rc f views) s)) ∧
  (∀ (a : NimAt) (rd ra rb rc : Fin 32) (f : BitVec 2) (views : List TakeView) (x : Nat) (k : Key) (s : State),
    s.sends a [ra.val, rb.val, rc.val] x k →
    s.salvoArgs (s.ctx x) (f.getLsbD 0) ((s.ctx x).reg ra).toNat ((s.ctx x).reg rc) = .ok none →
    Completes (fun t => (t.ctx x).st = stWord .BAD_ARG (s.ctx x).sig false ∧ (t.ctx x).reg rd = 0 ∧ t.appliedAt k (s.ctx x).sig =
      some ⟨k, (s.ctx x).sig, .BAD_ARG⟩ ∧ t.tks = s.tks)
      (exec (.salvo a rd ra rb rc f views) s)) ∧
  (∀ (a : NimAt) (rd ra rb : Fin 32) (loc ovf : Bool) (x : Nat) (k : Key) (e : Nat) (s : State),
    s.sends a [ra.val, rb.val] x k →
    s.readBlock (s.ctx x) loc ((s.ctx x).reg rb).toNat 16 8 = .ok e →
    ((s.ctx x).reg ra).toNat ≤ 524287 →
    (s.sentBy a [ra.val, rb.val] x rd).badDirWrite ((s.ctx x).reg ra).toNat (BitVec.ofNat 128 e) = false →
    (s.sentBy a [ra.val, rb.val] x rd).partnerFlow (dirOrigin (BitVec.ofNat 128 e)) = false →
    Completes (fun t => t = (s.sentBy a [ra.val, rb.val] x rd).dirWrite (some (some x, k, (s.ctx x).sig)) ((s.ctx x).reg ra).toNat
      (BitVec.ofNat 128 e) ovf)
      (exec (.nimFlowWrite a rd ra rb 0 loc ovf) s)) ∧
  (∀ (a : NimAt) (rd ra rb : Fin 32) (loc : Bool) (x : Nat) (k : Key) (s : State),
    s.sends a [ra.val] x k →
    ((s.ctx x).reg ra).toNat ≤ 524287 →
    s.paired = false →
    Completes (fun t => t = (s.sentBy a [ra.val] x rd).dirWithdraw (some (some x, k, (s.ctx x).sig)) ((s.ctx x).reg ra).toNat)
      (exec (.nimFlowWithdraw a rd ra rb 0 loc) s)) ∧
  (∀ (a : NimAt) (rd ra rb : Fin 32) (f : BitVec 2) (x : Nat) (k : Key) (d : Nat) (u : State) (s : State),
    s.sends a [ra.val, rb.val] x k →
    f.getLsbD 1 = false →
    s.readBlock (s.ctx x) (f.getLsbD 0) ((s.ctx x).reg rb).toNat 64 4 = .ok d →
    (s.sentBy a [ra.val, rb.val] x rd).layerWrite (((s.ctx x).reg ra).toNat / 16 % 16) (((s.ctx x).reg ra).toNat % 16)
      ((List.range 16).map fun j => BitVec.ofNat 32 (d / 2 ^ (32 * j))) = (u, .OK) →
    Completes (fun t => t.vmp = u.vmp ∧ (t.ctx x).st = stWord .OK (s.ctx x).sig false ∧ (t.ctx x).reg rd = 0 ∧ (t.ctx x).sig =
      (s.ctx x).sig + 1)
      (exec (.nimLayer a rd ra rb 0 f) s)) ∧
  (∀ (a : NimAt) (rd ra rb : Fin 32) (x : Nat) (k : Key) (u : State) (v : Word) (st : Status) (s : State),
    s.sends a [ra.val, rb.val] x k →
    rd.val ≠ 0 →
    (s.sentBy a [ra.val, rb.val] x rd).commit (((s.ctx x).reg ra).toNat % 65536) ((s.ctx x).reg rb).toNat = (u, v, st) →
    Completes (fun t => t.vmp = u.vmp ∧ (t.ctx x).st = stWord st (s.ctx x).sig false ∧ (t.ctx x).reg rd = v ∧ (t.ctx x).sig = (s.ctx
      x).sig + 1)
      (exec (.nimCommit a rd ra rb 0 0) s)) ∧
  (∀ (key : Key) (sig : Nat) (value : Word64) (st : Status) (x : Nat) (s : State),
    s.tks.accts = [] →
    s.twl.dirs.pend = [] →
    ((List.range 128).find? fun y => (s.ctx y).entry == some key && (s.ctx y).run == .result && (s.ctx y).sig == sig + 1) = some x →
    Completes (fun t => (t.ctx x).reg (s.ctx x).rd = (if (s.ctx x).rd = 0 then 0 else value) ∧ (t.ctx x).st = stWord st sig false ∧
      t.appliedAt key sig = some ⟨key, sig, st⟩ ∧ t.regs = s.regs)
      (exec (.nimSignalPlaneResult key sig value st) s))

/-- The other instructions (R302 to R313): rdt reads the acceptance time in journalled context and the running time base in
service context; nsp the next switch point or frame boundary; jsub counts the slot's SEQ and, on side B beside its partner,
answers OK with SHADOW and a free value; jinfo, post, send, reply, recv, xmit, wait and its wake, yield, halt and nop do what
their rules say. -/
def Obligations.TimeJournalAndEventInstructions : Prop :=
  (∀ (a : NimAt) (rd : Fin 32) (fn : BitVec 7) (x : Nat) (k : Key) (s : State),
    s.issues a ⟨none, [], 1⟩ x →
    (s.ctx x).entry = some k →
    fn.toNat < 4 →
    Completes (fun t => s.writesReg t x rd (Tbl.get (fun _ => 0) (s.ctx x).tb fn.toNat) ∧ (t.ctx x).st = (s.ctx x).st)
      (exec (.nimRdt a rd fn) s)) ∧
  (∀ (a : NimAt) (rd : Fin 32) (fn : BitVec 7) (x : Nat) (s : State),
    s.issues a ⟨none, [], 20⟩ x →
    (s.ctx x).entry = none →
    fn.toNat < 4 →
    Completes (fun t => s.writesReg t x rd (if s.tbRunning fn.toNat then BitVec.ofNat 64 (nimTime (s.tbNow fn.toNat)) else 0) ∧
      (t.ctx x).st = stWord (if s.tbRunning fn.toNat then .OK else .NOT_READY) 0 false)
      (exec (.nimRdt a rd fn) s)) ∧
  (∀ (a : NimAt) (rd ra : Fin 32) (d : Fin 8) (x : Nat) (s : State),
    s.issues a ⟨none, [ra.val], 6⟩ x →
    s.otdEnabled d = true →
    Completes (fun t => s.writesReg t x rd (BitVec.ofNat 64 (nimTime (s.switchPoint d (s.switchFrameAt d (((s.ctx x).reg ra).toNat *
      65536))))) ∧ (t.ctx x).st = stWord .OK 0 false)
      (exec (.nimNspSwitchPoint a rd ra d) s)) ∧
  (∀ (a : NimAt) (rd ra : Fin 32) (d : Fin 8) (x : Nat) (s : State),
    s.issues a ⟨none, [ra.val], 6⟩ x →
    s.otdEnabled d = true →
    Completes (fun t => s.writesReg t x rd (BitVec.ofNat 64 (nimTime (s.boundary d (firstBoundary (s.otdFormat d) (s.otdPhase d)
      (((s.ctx x).reg ra).toNat * 65536))))) ∧ (t.ctx x).st = stWord .OK 0 false)
      (exec (.nimNspFrameBoundary a rd ra d) s)) ∧
  (∀ (a : NimAt) (rd ra rb rc : Fin 32) (x n : Nat) (s : State),
    s.issues a ⟨none, [ra.val, rb.val, rc.val], 10⟩ x →
    (s.ctx x).slot = some n →
    s.shadow = false →
    s.holdsWork = false →
    ((s.ctx x).reg ra).toNat % 64 = 0 →
    ((s.ctx x).reg rb).toNat ≤ 8192 →
    s.memTrap (s.ctx x) false 2 ((s.ctx x).reg ra).toNat ((s.ctx x).reg rb).toNat 1 = none →
    Completes (fun t => (t.reg .NIM_SVC_SEQ n).toNat = ((96 + n) * 2 ^ 57 + (s.reg .NIM_SVC_SEQ n).toNat % 2 ^ 57 + 1) % 2 ^ 64 ∧
      (t.ctx x).pc = (s.ctx x).pc + 1)
      (exec (.nimJsub a rd ra rb rc 0) s)) ∧
  (∀ (a : NimAt) (rd ra rb rc : Fin 32) (x n : Nat) (s : State),
    s.issues a ⟨none, [ra.val, rb.val, rc.val], 10⟩ x →
    (s.ctx x).slot = some n →
    s.shadow = true →
    Completes (fun t => (t.ctx x).reg rd = (if rd = 0 then 0 else s.free) ∧ (t.ctx x).st = stWord .OK 0 true ∧ t.freeCtr = s.freeCtr
      + 1 ∧ t.nim.journal = s.nim.journal)
      (exec (.nimJsub a rd ra rb rc 0) s)) ∧
  (∀ (a : NimAt) (rd : Fin 32) (fn : BitVec 7) (x v : Nat) (s : State),
    s.issues a ⟨none, [], 1⟩ x →
    s.jinfo (s.ctx x) fn.toNat = some v →
    Completes (fun t => s.writesReg t x rd (BitVec.ofNat 64 v))
      (exec (.nimJinfo a rd fn) s)) ∧
  (∀ (a : NimAt) (ra rb : Fin 32) (x : Nat) (s : State),
    s.issues a ⟨none, [ra.val, rb.val], 12⟩ x →
    (s.ctx x).entry = none →
    s.shadow = false →
    ((s.ctx x).reg ra).toNat + 24 ≤ 8192 →
    ((s.ctx x).reg rb).toNat < 64 →
    s.flag F.NIM_Q_CFG_EN ((s.ctx x).reg rb).toNat = true →
    s.nim.warm = false →
    s.nim.waiting = [] →
    s.cqReserved ((s.ctx x).reg rb).toNat < s.cqFree ((s.ctx x).reg rb).toNat →
    Completes (fun t => (t.ctx x).st = stWord .OK 0 false ∧ (t.ctx x).pc = (s.ctx x).pc + 1 ∧ t.fld F.NIM_CQ_TAIL_INDEX ((s.ctx
      x).reg rb).toNat = (s.fld F.NIM_CQ_TAIL_INDEX ((s.ctx x).reg rb).toNat % s.qSize ((s.ctx x).reg rb).toNat + 1) % s.qSize
      ((s.ctx x).reg rb).toNat)
      (exec (.nimPost a ra rb 0) s)) ∧
  (∀ (a : NimAt) (ra rb : Fin 32) (reply : Status) (x n : Nat) (s : State),
    s.issues a ⟨none, [ra.val, rb.val], 12⟩ x →
    x / 8 = a.core.val →
    (s.ctx x).slot = some n →
    ((s.ctx x).reg ra).toNat + 32 ≤ 8192 →
    ((s.ctx x).reg rb).toNat / 32 % 1024 = s.domainId →
    (s.svc (((s.ctx x).reg rb).toNat % 32)).at_.isSome = true →
    (s.svc (((s.ctx x).reg rb).toNat % 32)).msgs.length < 64 →
    Completes (fun t => (t.svc (((s.ctx x).reg rb).toNat % 32)).msgs = (s.svc (((s.ctx x).reg rb).toNat % 32)).msgs ++
      [(s.domainId, n, BitVec.ofNat 256 (s.memRead (s.ctx x) 0 ((s.ctx x).reg ra).toNat 32))] ∧ (t.ctx x).st = stWord .OK 0 false ∧
        (t.ctx x).pc = (s.ctx x).pc + 1)
      (exec (.nimSend a ra rb 0 reply) s)) ∧
  (∀ (a : NimAt) (ra : Fin 32) (reply : Status) (x n part slot : Nat) (s : State),
    s.issues a ⟨none, [ra.val], 12⟩ x →
    x / 8 = a.core.val →
    (s.ctx x).entry = none →
    (s.ctx x).slot = some n →
    ((s.ctx x).reg ra).toNat + 32 ≤ 8192 →
    (s.svc n).lastFrom = some (part, slot) →
    part = s.domainId →
    (s.svc slot).at_.isSome = true →
    (s.svc slot).msgs.length < 64 →
    Completes (fun t => (t.svc slot).msgs = (s.svc slot).msgs ++ [(s.domainId, n, BitVec.ofNat 256 (s.memRead (s.ctx x) 0 ((s.ctx
      x).reg ra).toNat 32))] ∧ (t.ctx x).st = stWord .OK 0 false ∧ (t.ctx x).pc = (s.ctx x).pc + 1)
      (exec (.nimReply a ra 0 reply) s)) ∧
  (∀ (a : NimAt) (rd ra : Fin 32) (x n part slot : Nat) (m : BitVec 256) (l : List (Nat × Nat × BitVec 256)) (s : State),
    s.issues a ⟨none, [ra.val], 8⟩ x →
    (s.ctx x).slot = some n →
    (s.svc n).msgs = (part, slot, m) :: l →
    ((s.ctx x).reg ra).toNat + 40 ≤ 8192 →
    Completes (fun t => s.writesReg t x rd (BitVec.ofNat 64 (40 + (s.svc n).lostMsg % 2 ^ 32 * 2 ^ 32)) ∧ (t.svc n).msgs = l ∧
      (t.svc n).lostMsg = 0 ∧ (t.svc n).lastFrom = some (part, slot) ∧ (t.ctx x).st = stWord .OK 0 false ∧ bodyBytes (t.ctx x).loc
      (((s.ctx x).reg ra).toNat + 8) 32 = m.toNat)
      (exec (.nimRecvMsg a rd ra) s)) ∧
  (∀ (a : NimAt) (rd ra : Fin 32) (x n : Nat) (r : TakeRec) (l : List TakeRec) (s : State),
    s.issues a ⟨none, [ra.val], 8⟩ x →
    (s.ctx x).slot = some n →
    (s.svc n).takes = r :: l →
    ((s.ctx x).reg ra).toNat + 32 ≤ 8192 →
    Completes (fun t => s.writesReg t x rd (BitVec.ofNat 64 (32 + (s.svc n).lostTake % 2 ^ 32 * 2 ^ 32)) ∧ (t.svc n).takes = l ∧
      (t.svc n).lostTake = 0 ∧ (t.ctx x).st = stWord .OK 0 false)
      (exec (.nimRecvTake a rd ra) s)) ∧
  (∀ (a : NimAt) (rd ra : Fin 32) (x n seq : Nat) (st : Status) (l : List (Nat × Status)) (s : State),
    s.issues a ⟨none, [ra.val], 7⟩ x →
    (s.ctx x).slot = some n →
    (s.svc n).dones = (seq, st) :: l →
    ((s.ctx x).reg ra).toNat + 16 ≤ 8192 →
    Completes (fun t => s.writesReg t x rd (BitVec.ofNat 64 (16 + (s.svc n).lostDone % 2 ^ 32 * 2 ^ 32)) ∧ (t.svc n).dones = l ∧
      (t.svc n).lostDone = 0 ∧ (t.ctx x).st = stWord .OK 0 false)
      (exec (.nimRecvDone a rd ra) s)) ∧
  (∀ (a : NimAt) (rd ra : Fin 32) (x n : Nat) (b : List Byte) (l : List (List Byte)) (s : State),
    s.issues a ⟨none, [ra.val], 6 + b.length / 16⟩ x →
    (s.ctx x).slot = some n →
    (s.svc n).rings = b :: l →
    ((s.ctx x).reg ra).toNat + b.length ≤ 8192 →
    Completes (fun t => s.writesReg t x rd (BitVec.ofNat 64 (b.length + (s.svc n).lostRing % 2 ^ 32 * 2 ^ 32)) ∧ (t.svc n).rings = l
      ∧ (t.svc n).lostRing = 0 ∧ (t.ctx x).st = stWord .OK 0 false)
      (exec (.nimRecvRing a rd ra) s)) ∧
  (∀ (a : NimAt) (ra rb rc : Fin 32) (x n : Nat) (u : State) (s : State),
    s.issues a ⟨none, [ra.val, rb.val, rc.val], 16⟩ x →
    (s.ctx x).slot = some n →
    s.shadow = false →
    ((s.ctx x).reg rb).toNat ≤ 1400 →
    ((s.ctx x).reg ra).toNat + ((s.ctx x).reg rb).toNat ≤ 8192 →
    s.xmit n (((s.ctx x).reg rc).toNat % 16) ((s.ctx x).reg rb).toNat = (u, .OK) →
    Completes (fun t => t.net = u.net ∧ (t.ctx x).st = stWord .OK 0 false ∧ (t.ctx x).pc = (s.ctx x).pc + 1)
      (exec (.nimXmit a ra rb rc 0) s)) ∧
  (∀ (a : NimAt) (rd ra rb : Fin 32) (x n : Nat) (s : State),
    s.issues a ⟨none, [ra.val, rb.val], 4⟩ x →
    x / 8 = a.core.val →
    (s.ctx x).slot = some n →
    ((s.ctx x).reg ra ≠ 0 ∨ (s.ctx x).reg rb ≠ 0) →
    s.waitResult n ((s.ctx x).reg ra).toNat ((s.ctx x).reg rb).toNat = 0 →
    Completes (fun t => (t.ctx x).run = .event ((s.ctx x).reg ra).toNat ((s.ctx x).reg rb).toNat ∧ (t.ctx x).rd = rd.val ∧ t.fld
      F.NIM_SVC_STAT_STATE n = 2 ∧ t.runningOn a.core ≠ some x)
      (exec (.nimWait a rd ra rb 0) s)) ∧
  (∀ (a : NimAt) (rd ra rb : Fin 32) (x n : Nat) (s : State),
    s.issues a ⟨none, [ra.val, rb.val], 4⟩ x →
    (s.ctx x).slot = some n →
    s.reached ((s.ctx x).reg rb).toNat = true →
    Completes (fun t => s.writesReg t x rd (BitVec.ofNat 64 (s.waitResult n ((s.ctx x).reg ra).toNat ((s.ctx x).reg rb).toNat)) ∧
      (t.ctx x).st = stWord .OK 0 false ∧ t.runningOn a.core = some x)
      (exec (.nimWait a rd ra rb 0) s)) ∧
  (∀ (n : Fin 32) (i mask deadline : Nat) (s : State),
    (s.svc n).at_ = some i →
    (s.ctx i).run = .event mask deadline →
    (s.ctx i).slot = some n.val →
    s.waitResult n mask deadline ≠ 0 →
    Completes (fun t => (t.ctx i).reg (s.ctx i).rd = (if (s.ctx i).rd = 0 then 0 else BitVec.ofNat 64 (s.waitResult n mask
      deadline)) ∧ (t.ctx i).st = stWord .OK 0 false ∧ t.fld F.NIM_SVC_STAT_STATE n = 1 ∧ ((t.ctx i).run = .ready ∨ (t.ctx i).run =
      .running))
      (exec (.nimWaitWake n) s)) ∧
  (∀ (a : NimAt) (x : Nat) (s : State),
    s.issues a ⟨none, [], 4⟩ x →
    x / 8 = a.core.val →
    Completes (fun t => (t.ctx x).since = s.nim.readied + 1 ∧ (t.ctx x).pc = (s.ctx x).pc + 1 ∧ ((t.ctx x).run = .ready ∨
      t.runningOn a.core = some x) ∧ t.regs = s.regs)
      (exec (.nimYield a 0) s)) ∧
  (∀ (a : NimAt) (x : Nat) (k : Key) (e : JEntry) (s : State),
    s.issues a ⟨none, [40], 4⟩ x →
    (s.ctx x).slot = none →
    (s.ctx x).entry = some k →
    s.deltasFull = false →
    s.entry k = some e →
    e.phase = .running →
    Completes (fun t => (t.entry k).map (fun f => (f.phase, f.final, f.trap)) = some (.complete, statusOf ((s.ctx x).st.toNat %
      65536), 0) ∧ (t.ctx x).run = .off ∧ t.reg .NIM_COMPLETED 0 = s.counted .NIM_COMPLETED 0 1)
      (exec (.nimHalt a) s)) ∧
  (∀ (a : NimAt) (x n : Nat) (s : State),
    s.issues a ⟨none, [40], 4⟩ x →
    (s.ctx x).slot = some n →
    (s.ctx x).entry = none →
    Completes (fun t => (t.ctx x).run = .off ∧ (t.svc n).at_ = none ∧ t.fld F.NIM_SVC_STAT_STATE n = 0)
      (exec (.nimHalt a) s)) ∧
  (∀ (a : NimAt) (x : Nat) (s : State),
    s.issues a ⟨none, [], 1⟩ x →
    Completes (fun t => s.writesReg t x 0 0 ∧ (t.ctx x).st = (s.ctx x).st ∧ t.nim.sram = s.nim.sram)
      (exec (.nimNop a) s))

/-- Integer instructions of two operands (R289): once one issues on a context, g[rd] holds the value of Table 07.3 (g0 stays 0),
the pc has moved on one word, and no other register, predicate, context or block register has changed. Division by zero gives
all ones, and its remainder is g[ra]; shifts use the low 6 bits of g[rb]. -/
def Obligations.TwoOperandInstructionsCompute : Prop :=
  (∀ (a : NimAt) (rd ra rb : Fin 32) (x : Nat) (s : State),
    s.issues a ⟨some false, [ra.val, rb.val], 1⟩ x →
    Completes (fun t => s.writesReg t x rd ((s.ctx x).reg ra + (s.ctx x).reg rb))
      (exec (.nimAdd a rd ra rb) s)) ∧
  (∀ (a : NimAt) (rd ra rb : Fin 32) (x : Nat) (s : State),
    s.issues a ⟨some false, [ra.val, rb.val], 1⟩ x →
    Completes (fun t => s.writesReg t x rd ((s.ctx x).reg ra - (s.ctx x).reg rb))
      (exec (.nimSub a rd ra rb) s)) ∧
  (∀ (a : NimAt) (rd ra rb : Fin 32) (x : Nat) (s : State),
    s.issues a ⟨some false, [ra.val, rb.val], 1⟩ x →
    Completes (fun t => s.writesReg t x rd ((s.ctx x).reg ra &&& (s.ctx x).reg rb))
      (exec (.nimAnd a rd ra rb) s)) ∧
  (∀ (a : NimAt) (rd ra rb : Fin 32) (x : Nat) (s : State),
    s.issues a ⟨some false, [ra.val, rb.val], 1⟩ x →
    Completes (fun t => s.writesReg t x rd ((s.ctx x).reg ra ||| (s.ctx x).reg rb))
      (exec (.nimOr a rd ra rb) s)) ∧
  (∀ (a : NimAt) (rd ra rb : Fin 32) (x : Nat) (s : State),
    s.issues a ⟨some false, [ra.val, rb.val], 1⟩ x →
    Completes (fun t => s.writesReg t x rd ((s.ctx x).reg ra ^^^ (s.ctx x).reg rb))
      (exec (.nimXor a rd ra rb) s)) ∧
  (∀ (a : NimAt) (rd ra rb : Fin 32) (x : Nat) (s : State),
    s.issues a ⟨some false, [ra.val, rb.val], 1⟩ x →
    Completes (fun t => s.writesReg t x rd ((s.ctx x).reg ra <<< (((s.ctx x).reg rb).toNat % 64)))
      (exec (.nimSll a rd ra rb) s)) ∧
  (∀ (a : NimAt) (rd ra rb : Fin 32) (x : Nat) (s : State),
    s.issues a ⟨some false, [ra.val, rb.val], 1⟩ x →
    Completes (fun t => s.writesReg t x rd ((s.ctx x).reg ra >>> (((s.ctx x).reg rb).toNat % 64)))
      (exec (.nimSrl a rd ra rb) s)) ∧
  (∀ (a : NimAt) (rd ra rb : Fin 32) (x : Nat) (s : State),
    s.issues a ⟨some false, [ra.val, rb.val], 1⟩ x →
    Completes (fun t => s.writesReg t x rd (((s.ctx x).reg ra).sshiftRight (((s.ctx x).reg rb).toNat % 64)))
      (exec (.nimSra a rd ra rb) s)) ∧
  (∀ (a : NimAt) (rd ra rb : Fin 32) (x : Nat) (s : State),
    s.issues a ⟨some false, [ra.val, rb.val], 1⟩ x →
    Completes (fun t => s.writesReg t x rd ((s.ctx x).reg ra * (s.ctx x).reg rb))
      (exec (.nimMul a rd ra rb) s)) ∧
  (∀ (a : NimAt) (rd ra rb : Fin 32) (x : Nat) (s : State),
    s.issues a ⟨some false, [ra.val, rb.val], 1⟩ x →
    Completes (fun t => s.writesReg t x rd (BitVec.ofNat 64 (((s.ctx x).reg ra).toNat * ((s.ctx x).reg rb).toNat / 2 ^ 64)))
      (exec (.nimMulhu a rd ra rb) s)) ∧
  (∀ (a : NimAt) (rd ra rb : Fin 32) (x : Nat) (s : State),
    s.issues a ⟨some false, [ra.val, rb.val], 1⟩ x →
    Completes (fun t => s.writesReg t x rd (if (s.ctx x).reg rb = 0 then BitVec.allOnes 64 else BitVec.ofNat 64 (((s.ctx x).reg
      ra).toNat / ((s.ctx x).reg rb).toNat)))
      (exec (.nimDivu a rd ra rb) s)) ∧
  (∀ (a : NimAt) (rd ra rb : Fin 32) (x : Nat) (s : State),
    s.issues a ⟨some false, [ra.val, rb.val], 1⟩ x →
    Completes (fun t => s.writesReg t x rd (if (s.ctx x).reg rb = 0 then (s.ctx x).reg ra else BitVec.ofNat 64 (((s.ctx x).reg
      ra).toNat % ((s.ctx x).reg rb).toNat)))
      (exec (.nimRemu a rd ra rb) s)) ∧
  (∀ (a : NimAt) (rd ra rb : Fin 32) (x : Nat) (s : State),
    s.issues a ⟨some false, [ra.val, rb.val], 1⟩ x →
    Completes (fun t => s.writesReg t x rd (if ((s.ctx x).reg ra).ult ((s.ctx x).reg rb) then (s.ctx x).reg ra else (s.ctx x).reg
      rb))
      (exec (.nimMinu a rd ra rb) s)) ∧
  (∀ (a : NimAt) (rd ra rb : Fin 32) (x : Nat) (s : State),
    s.issues a ⟨some false, [ra.val, rb.val], 1⟩ x →
    Completes (fun t => s.writesReg t x rd (if ((s.ctx x).reg ra).ult ((s.ctx x).reg rb) then (s.ctx x).reg rb else (s.ctx x).reg
      ra))
      (exec (.nimMaxu a rd ra rb) s)) ∧
  (∀ (a : NimAt) (rd ra rb : Fin 32) (x : Nat) (s : State),
    s.issues a ⟨some false, [ra.val, rb.val], 1⟩ x →
    Completes (fun t => s.writesReg t x rd (if ((s.ctx x).reg ra).slt ((s.ctx x).reg rb) then (s.ctx x).reg ra else (s.ctx x).reg
      rb))
      (exec (.nimMin a rd ra rb) s)) ∧
  (∀ (a : NimAt) (rd ra rb : Fin 32) (x : Nat) (s : State),
    s.issues a ⟨some false, [ra.val, rb.val], 1⟩ x →
    Completes (fun t => s.writesReg t x rd (if ((s.ctx x).reg ra).slt ((s.ctx x).reg rb) then (s.ctx x).reg rb else (s.ctx x).reg
      ra))
      (exec (.nimMax a rd ra rb) s))

/-- Integer instructions of one operand or with an immediate (R285, R289): once one issues, g[rd] holds the value of Table 07.3
and nothing else has changed but the pc; sign-extended immediates are addi, ldi and cmpi, zero-extended ones andi, ori and
xori, and a shift by an immediate uses its low 6 bits with bits 9:6 zero. -/
def Obligations.OneOperandAndImmediateInstructionsCompute : Prop :=
  (∀ (a : NimAt) (rd ra : Fin 32) (x : Nat) (s : State),
    s.issues a ⟨some false, [ra.val], 1⟩ x →
    Completes (fun t => s.writesReg t x rd ((((s.ctx x).reg ra).setWidth 8).signExtend 64))
      (exec (.nimSxb a rd ra) s)) ∧
  (∀ (a : NimAt) (rd ra : Fin 32) (x : Nat) (s : State),
    s.issues a ⟨some false, [ra.val], 1⟩ x →
    Completes (fun t => s.writesReg t x rd ((((s.ctx x).reg ra).setWidth 16).signExtend 64))
      (exec (.nimSxh a rd ra) s)) ∧
  (∀ (a : NimAt) (rd ra : Fin 32) (x : Nat) (s : State),
    s.issues a ⟨some false, [ra.val], 1⟩ x →
    Completes (fun t => s.writesReg t x rd ((((s.ctx x).reg ra).setWidth 32).signExtend 64))
      (exec (.nimSxw a rd ra) s)) ∧
  (∀ (a : NimAt) (rd ra : Fin 32) (x : Nat) (s : State),
    s.issues a ⟨some false, [ra.val], 1⟩ x →
    Completes (fun t => s.writesReg t x rd (BitVec.ofNat 64 (clz64 ((s.ctx x).reg ra))))
      (exec (.nimClz a rd ra) s)) ∧
  (∀ (a : NimAt) (rd ra : Fin 32) (x : Nat) (s : State),
    s.issues a ⟨some false, [ra.val], 1⟩ x →
    Completes (fun t => s.writesReg t x rd (BitVec.ofNat 64 (popCount 64 ((s.ctx x).reg ra).toNat)))
      (exec (.nimPopc a rd ra) s)) ∧
  (∀ (a : NimAt) (rd : Fin 32) (x : Nat) (s : State),
    s.issues a ⟨some false, [40], 1⟩ x →
    Completes (fun t => s.writesReg t x rd ((s.ctx x).st.setWidth 64))
      (exec (.nimRdst a rd) s)) ∧
  (∀ (a : NimAt) (rd ra : Fin 32) (imm : BitVec 12) (x : Nat) (s : State),
    s.issues a ⟨some false, [ra.val], 1⟩ x →
    Completes (fun t => s.writesReg t x rd ((s.ctx x).reg ra + imm.signExtend 64))
      (exec (.nimAddi a rd ra imm) s)) ∧
  (∀ (a : NimAt) (rd ra : Fin 32) (imm : BitVec 12) (x : Nat) (s : State),
    s.issues a ⟨some false, [ra.val], 1⟩ x →
    Completes (fun t => s.writesReg t x rd ((s.ctx x).reg ra &&& imm.setWidth 64))
      (exec (.nimAndi a rd ra imm) s)) ∧
  (∀ (a : NimAt) (rd ra : Fin 32) (imm : BitVec 12) (x : Nat) (s : State),
    s.issues a ⟨some false, [ra.val], 1⟩ x →
    Completes (fun t => s.writesReg t x rd ((s.ctx x).reg ra ||| imm.setWidth 64))
      (exec (.nimOri a rd ra imm) s)) ∧
  (∀ (a : NimAt) (rd ra : Fin 32) (imm : BitVec 12) (x : Nat) (s : State),
    s.issues a ⟨some false, [ra.val], 1⟩ x →
    Completes (fun t => s.writesReg t x rd ((s.ctx x).reg ra ^^^ imm.setWidth 64))
      (exec (.nimXori a rd ra imm) s)) ∧
  (∀ (a : NimAt) (rd ra : Fin 32) (imm : BitVec 10) (x : Nat) (s : State),
    s.issues a ⟨some false, [ra.val], 1⟩ x →
    imm.toNat < 64 →
    Completes (fun t => s.writesReg t x rd ((s.ctx x).reg ra <<< imm.toNat))
      (exec (.nimSlli a rd ra imm) s)) ∧
  (∀ (a : NimAt) (rd ra : Fin 32) (imm : BitVec 10) (x : Nat) (s : State),
    s.issues a ⟨some false, [ra.val], 1⟩ x →
    imm.toNat < 64 →
    Completes (fun t => s.writesReg t x rd ((s.ctx x).reg ra >>> imm.toNat))
      (exec (.nimSrli a rd ra imm) s)) ∧
  (∀ (a : NimAt) (rd ra : Fin 32) (imm : BitVec 10) (x : Nat) (s : State),
    s.issues a ⟨some false, [ra.val], 1⟩ x →
    imm.toNat < 64 →
    Completes (fun t => s.writesReg t x rd (((s.ctx x).reg ra).sshiftRight imm.toNat))
      (exec (.nimSrai a rd ra imm) s)) ∧
  (∀ (a : NimAt) (rd : Fin 32) (imm : BitVec 17) (x : Nat) (s : State),
    s.issues a ⟨some false, [], 1⟩ x →
    Completes (fun t => s.writesReg t x rd (imm.signExtend 64))
      (exec (.nimLdi a rd imm) s)) ∧
  (∀ (a : NimAt) (rd : Fin 32) (imm : BitVec 17) (x : Nat) (s : State),
    s.issues a ⟨some false, [rd.val], 1⟩ x →
    imm.getLsbD 16 = false →
    Completes (fun t => s.writesReg t x rd (((s.ctx x).reg rd <<< 16) ||| (imm.setWidth 16).setWidth 64))
      (exec (.nimLdk a rd imm) s))

/-- Predicate instructions (R289) write p[pd] alone, where p0 stays 1; the condition codes are equal, not equal, and the signed
and unsigned orders. A branch (R290) goes to its target inside its space, and call and lcall leave the link in g31. An
undefined word (R283: a reserved field that is not 0, a condition code of 6 or 7) traps: the trap is counted, and the running
program ends, its entry COMPLETE with BAD_ARG and trap code 1. -/
def Obligations.PredicatesBranchesAndUndefinedWords : Prop :=
  (∀ (a : NimAt) (pd cc : Fin 8) (ra rb : Fin 32) (x : Nat) (s : State),
    s.issues a ⟨some false, [ra.val, rb.val], 1⟩ x →
    cc.val < 6 →
    Completes (fun t => s.writesPred t x pd (match cc.val with
      | 0 => (s.ctx x).reg ra == (s.ctx x).reg rb
      | 1 => (s.ctx x).reg ra != (s.ctx x).reg rb
      | 2 => ((s.ctx x).reg ra).slt ((s.ctx x).reg rb)
      | 3 => !((s.ctx x).reg ra).slt ((s.ctx x).reg rb)
      | 4 => ((s.ctx x).reg ra).ult ((s.ctx x).reg rb)
      | _ => !((s.ctx x).reg ra).ult ((s.ctx x).reg rb)))
      (exec (.nimCmp a pd cc ra rb) s)) ∧
  (∀ (a : NimAt) (pd cc : Fin 8) (ra : Fin 32) (imm : BitVec 11) (x : Nat) (s : State),
    s.issues a ⟨some false, [ra.val], 1⟩ x →
    cc.val < 6 →
    Completes (fun t => s.writesPred t x pd (match cc.val with
      | 0 => (s.ctx x).reg ra == imm.signExtend 64
      | 1 => (s.ctx x).reg ra != imm.signExtend 64
      | 2 => ((s.ctx x).reg ra).slt (imm.signExtend 64)
      | 3 => !((s.ctx x).reg ra).slt (imm.signExtend 64)
      | 4 => ((s.ctx x).reg ra).ult (imm.signExtend 64)
      | _ => !((s.ctx x).reg ra).ult (imm.signExtend 64)))
      (exec (.nimCmpi a pd cc ra imm) s)) ∧
  (∀ (a : NimAt) (pd pa pb : Fin 8) (x : Nat) (s : State),
    s.issues a ⟨some false, [32 + pa.val, 32 + pb.val], 1⟩ x →
    Completes (fun t => s.writesPred t x pd ((s.ctx x).pred pa && (s.ctx x).pred pb))
      (exec (.nimPand a pd pa pb) s)) ∧
  (∀ (a : NimAt) (pd pa pb : Fin 8) (x : Nat) (s : State),
    s.issues a ⟨some false, [32 + pa.val, 32 + pb.val], 1⟩ x →
    Completes (fun t => s.writesPred t x pd ((s.ctx x).pred pa || (s.ctx x).pred pb))
      (exec (.nimPor a pd pa pb) s)) ∧
  (∀ (a : NimAt) (pd pa pb : Fin 8) (x : Nat) (s : State),
    s.issues a ⟨some false, [32 + pa.val, 32 + pb.val], 1⟩ x →
    Completes (fun t => s.writesPred t x pd ((s.ctx x).pred pa != (s.ctx x).pred pb))
      (exec (.nimPxor a pd pa pb) s)) ∧
  (∀ (a : NimAt) (pd pa pb : Fin 8) (x : Nat) (s : State),
    s.issues a ⟨some false, [32 + pa.val, 32 + pb.val], 1⟩ x →
    Completes (fun t => s.writesPred t x pd ((s.ctx x).pred pa && !(s.ctx x).pred pb))
      (exec (.nimPandn a pd pa pb) s)) ∧
  (∀ (a : NimAt) (off : BitVec 22) (x : Nat) (s : State),
    s.issues a ⟨none, [], 3⟩ x →
    0 ≤ (s.ctx x).pc + off.toInt →
    (s.ctx x).pc + off.toInt < s.spaceWords (s.ctx x) (s.ctx x).space →
    Completes (fun t => ((t.ctx x).pc : Int) = (s.ctx x).pc + off.toInt ∧ (t.ctx x).space = (s.ctx x).space ∧ (t.ctx x).g = (s.ctx
      x).g ∧ t.regs = s.regs)
      (exec (.nimBr a off) s)) ∧
  (∀ (a : NimAt) (off : BitVec 22) (x : Nat) (s : State),
    s.issues a ⟨none, [], 3⟩ x →
    0 ≤ (s.ctx x).pc + off.toInt →
    (s.ctx x).pc + off.toInt < s.spaceWords (s.ctx x) (s.ctx x).space →
    Completes (fun t => ((t.ctx x).pc : Int) = (s.ctx x).pc + off.toInt ∧ (t.ctx x).reg 31 = BitVec.ofNat 64 ((s.ctx x).space * 2 ^
      61 + ((s.ctx x).pc + 1) % 2 ^ 32) ∧ (∀ r : Nat, r < 31 → (t.ctx x).reg r = (s.ctx x).reg r) ∧ t.regs = s.regs)
      (exec (.nimCall a off) s)) ∧
  (∀ (a : NimAt) (ra : Fin 32) (x : Nat) (s : State),
    s.issues a ⟨none, [ra.val], 3⟩ x →
    ((s.ctx x).reg ra).toNat / 2 ^ 32 % 2 ^ 29 = 0 →
    ((s.ctx x).reg ra).toNat % 2 ^ 32 < s.spaceWords (s.ctx x) (((s.ctx x).reg ra).toNat / 2 ^ 61) →
    Completes (fun t => (t.ctx x).pc = ((s.ctx x).reg ra).toNat % 2 ^ 32 ∧ (t.ctx x).space = ((s.ctx x).reg ra).toNat / 2 ^ 61 ∧
      (t.ctx x).g = (s.ctx x).g ∧ t.regs = s.regs)
      (exec (.nimJr a 0 ra 0 0) s)) ∧
  (∀ (a : NimAt) (off : BitVec 22) (x : Nat) (s : State),
    s.issues a ⟨none, [], 4⟩ x →
    off.toNat < 2 ^ 20 →
    Completes (fun t => (t.ctx x).pc = off.toNat ∧ (t.ctx x).space = 1 ∧ (t.ctx x).reg 31 = BitVec.ofNat 64 ((s.ctx x).space * 2 ^
      61 + ((s.ctx x).pc + 1) % 2 ^ 32) ∧ (∀ r : Nat, r < 31 → (t.ctx x).reg r = (s.ctx x).reg r) ∧ t.regs = s.regs)
      (exec (.nimLcall a off) s)) ∧
  (∀ (a : NimAt) (rd ra : Fin 32) (imm : BitVec 10) (x : Nat) (k : Key) (e : JEntry) (s : State),
    s.runningOn a.core = some x →
    x / 8 = a.core.val →
    (s.ctx x).pc < s.spaceWords (s.ctx x) (s.ctx x).space →
    (s.ctx x).slot = none →
    (s.ctx x).entry = some k →
    s.entry k = some e →
    e.phase = .running →
    64 ≤ imm.toNat →
    Completes (fun t => (t.entry k).map (fun e => (e.phase, e.final, e.trap)) = some (.complete, .BAD_ARG, 1) ∧ (t.ctx x).run = .off
      ∧ t.reg .NIM_CORE_TRAPS a.core = s.counted .NIM_CORE_TRAPS a.core 1)
      (exec (.nimSlli a rd ra imm) s)) ∧
  (∀ (a : NimAt) (pd cc : Fin 8) (ra rb : Fin 32) (x : Nat) (k : Key) (e : JEntry) (s : State),
    s.runningOn a.core = some x →
    x / 8 = a.core.val →
    (s.ctx x).pc < s.spaceWords (s.ctx x) (s.ctx x).space →
    (s.ctx x).slot = none →
    (s.ctx x).entry = some k →
    s.entry k = some e →
    e.phase = .running →
    6 ≤ cc.val →
    Completes (fun t => (t.entry k).map (fun e => (e.phase, e.final, e.trap)) = some (.complete, .BAD_ARG, 1) ∧ (t.ctx x).run = .off
      ∧ t.reg .NIM_CORE_TRAPS a.core = s.counted .NIM_CORE_TRAPS a.core 1)
      (exec (.nimCmp a pd cc ra rb) s))

/-- Memory of a core (R234, R291 to R295): a load that no rule stops gives g[rd] the little-endian value of its bytes; a store to
LOCAL or SHARED puts its bytes at g[ra] + off7 × size and leaves every other byte as it was; a store of a service to BLOCK is
a bus write; an atomic operation gives g[rd] the old doubleword and stores the new one, with every other byte as it was. bld
and bst access the address BASE + STRIDE × index of an entry of the order's address table, a load in it seeing RO fields of a
SET register as 0; a BLOCK load's latency is a free value. A bfence only passes on. -/
def Obligations.CoreMemoryAndTheBlockBus : Prop :=
  (∀ (a : NimAt) (rd ra : Fin 32) (sp : Fin 8) (sz : Fin 4) (off : BitVec 7) (x : Nat) (s : State),
    s.issues a ⟨some true, [ra.val], 1⟩ x →
    sp.val < 5 →
    sp.val ≠ 3 →
    s.memTrap (s.ctx x) false sp (memAddr (s.ctx x) ra off (2 ^ sz.val)) (2 ^ sz.val) (alignFor sp (2 ^ sz.val)) = none →
    Completes (fun t => s.writesReg t x rd (BitVec.ofNat 64 (s.memRead (s.ctx x) sp (memAddr (s.ctx x) ra off (2 ^ sz.val)) (2 ^
      sz.val))) ∧ (t.ctx x).loc = (s.ctx x).loc ∧ t.nim.sram = s.nim.sram)
      (exec (.nimLd a rd ra sp sz off) s)) ∧
  (∀ (a : NimAt) (rd ra : Fin 32) (sz : Fin 4) (off : BitVec 7) (x : Nat) (s : State),
    s.issues a ⟨some true, [ra.val], 1⟩ x →
    s.memTrap (s.ctx x) false 3 (memAddr (s.ctx x) ra off (2 ^ sz.val)) (2 ^ sz.val) (2 ^ sz.val) = none →
    Completes (fun t => (t.ctx x).reg rd = (if rd = 0 then 0 else (s.drawFree.busRead .work (memAddr (s.ctx x) ra off (2 ^ sz.val))
      sz).rdata) ∧ (t.ctx x).pc = (s.ctx x).pc + 1 ∧ t.regs = (s.drawFree.busRead .work (memAddr (s.ctx x) ra off (2 ^ sz.val))
      sz).regs)
      (exec (.nimLd a rd ra 3 sz off) s)) ∧
  (∀ (a : NimAt) (rd ra : Fin 32) (sz : Fin 4) (off : BitVec 7) (x : Nat) (s : State),
    s.issues a ⟨some true, [ra.val, rd.val], 1⟩ x →
    s.memTrap (s.ctx x) true 0 (memAddr (s.ctx x) ra off (2 ^ sz.val)) (2 ^ sz.val) (2 ^ sz.val) = none →
    Completes (fun t => t.memRead (t.ctx x) 0 (memAddr (s.ctx x) ra off (2 ^ sz.val)) (2 ^ sz.val) = ((s.ctx x).reg rd).toNat % 2 ^
      (8 * 2 ^ sz.val) ∧ (∀ b, b < memAddr (s.ctx x) ra off (2 ^ sz.val) ∨ memAddr (s.ctx x) ra off (2 ^ sz.val) + 2 ^ sz.val ≤ b →
      Tbl.get (fun _ => 0) (t.ctx x).loc b = Tbl.get (fun _ => 0) (s.ctx x).loc b) ∧ s.writesReg t x 0 0 ∧ t.nim.sram = s.nim.sram)
      (exec (.nimSt a rd ra 0 sz off) s)) ∧
  (∀ (a : NimAt) (rd ra : Fin 32) (sz : Fin 4) (off : BitVec 7) (x : Nat) (s : State),
    s.issues a ⟨some true, [ra.val, rd.val], 1⟩ x →
    s.memTrap (s.ctx x) true 2 (memAddr (s.ctx x) ra off (2 ^ sz.val)) (2 ^ sz.val) (2 ^ sz.val) = none →
    Completes (fun t => t.memRead (t.ctx x) 2 (memAddr (s.ctx x) ra off (2 ^ sz.val)) (2 ^ sz.val) = ((s.ctx x).reg rd).toNat % 2 ^
      (8 * 2 ^ sz.val) ∧ (∀ b, b < 4194304 + memAddr (s.ctx x) ra off (2 ^ sz.val) ∨ 4194304 + memAddr (s.ctx x) ra off (2 ^ sz.val)
      + 2 ^ sz.val ≤ b → Tbl.get (fun _ => 0) t.nim.sram b = Tbl.get (fun _ => 0) s.nim.sram b) ∧ s.writesReg t x 0 0)
      (exec (.nimSt a rd ra 2 sz off) s)) ∧
  (∀ (a : NimAt) (rd ra : Fin 32) (sz : Fin 4) (off : BitVec 7) (x : Nat) (s : State),
    s.issues a ⟨some true, [ra.val, rd.val], 1⟩ x →
    s.memTrap (s.ctx x) true 3 (memAddr (s.ctx x) ra off (2 ^ sz.val)) (2 ^ sz.val) (2 ^ sz.val) = none →
    svcStores (memAddr (s.ctx x) ra off (2 ^ sz.val)) = true →
    Completes (fun t => t = (s.setCtx x ((s.ctx x).issue a.pg ⟨some true, [ra.val, rd.val], 1⟩ noReg 0)).busWrite .mgmt default
      (memAddr (s.ctx x) ra off (2 ^ sz.val)) sz (BitVec.ofNat 64 (((s.ctx x).reg rd).toNat % 2 ^ (8 * 2 ^ sz.val))))
      (exec (.nimSt a rd ra 3 sz off) s)) ∧
  (∀ (a : NimAt) (rd ra rb : Fin 32) (x : Nat) (s : State),
    s.issues a ⟨none, [ra.val, rb.val], 20⟩ x →
    s.memTrap (s.ctx x) true 2 ((s.ctx x).reg ra).toNat 8 8 = none →
    Completes (fun t => s.writesReg t x rd (BitVec.ofNat 64 (s.memRead (s.ctx x) 2 ((s.ctx x).reg ra).toNat 8)) ∧ BitVec.ofNat 64
      (t.memRead (t.ctx x) 2 ((s.ctx x).reg ra).toNat 8) = (BitVec.ofNat 64 (s.memRead (s.ctx x) 2 ((s.ctx x).reg ra).toNat 8) +
      (s.ctx x).reg rb) ∧ (∀ b, b < 4194304 + ((s.ctx x).reg ra).toNat ∨ 4194304 + ((s.ctx x).reg ra).toNat + 8 ≤ b → Tbl.get (fun _
      => 0) t.nim.sram b = Tbl.get (fun _ => 0) s.nim.sram b))
      (exec (.nimAmoAdd a rd ra rb) s)) ∧
  (∀ (a : NimAt) (rd ra rb : Fin 32) (x : Nat) (s : State),
    s.issues a ⟨none, [ra.val, rb.val], 20⟩ x →
    s.memTrap (s.ctx x) true 2 ((s.ctx x).reg ra).toNat 8 8 = none →
    Completes (fun t => s.writesReg t x rd (BitVec.ofNat 64 (s.memRead (s.ctx x) 2 ((s.ctx x).reg ra).toNat 8)) ∧ BitVec.ofNat 64
      (t.memRead (t.ctx x) 2 ((s.ctx x).reg ra).toNat 8) = ((s.ctx x).reg rb) ∧ (∀ b, b < 4194304 + ((s.ctx x).reg ra).toNat ∨
      4194304 + ((s.ctx x).reg ra).toNat + 8 ≤ b → Tbl.get (fun _ => 0) t.nim.sram b = Tbl.get (fun _ => 0) s.nim.sram b))
      (exec (.nimAmoSwap a rd ra rb) s)) ∧
  (∀ (a : NimAt) (rd ra rb : Fin 32) (x : Nat) (s : State),
    s.issues a ⟨none, [ra.val, rb.val, rd.val], 20⟩ x →
    s.memTrap (s.ctx x) true 2 ((s.ctx x).reg ra).toNat 8 8 = none →
    Completes (fun t => s.writesReg t x rd (BitVec.ofNat 64 (s.memRead (s.ctx x) 2 ((s.ctx x).reg ra).toNat 8)) ∧ BitVec.ofNat 64
      (t.memRead (t.ctx x) 2 ((s.ctx x).reg ra).toNat 8) = (if BitVec.ofNat 64 (s.memRead (s.ctx x) 2 ((s.ctx x).reg ra).toNat 8) =
      (s.ctx x).reg rd then (s.ctx x).reg rb else BitVec.ofNat 64 (s.memRead (s.ctx x) 2 ((s.ctx x).reg ra).toNat 8)) ∧ (∀ b, b <
      4194304 + ((s.ctx x).reg ra).toNat ∨ 4194304 + ((s.ctx x).reg ra).toNat + 8 ≤ b → Tbl.get (fun _ => 0) t.nim.sram b = Tbl.get
      (fun _ => 0) s.nim.sram b))
      (exec (.nimAmoCas a rd ra rb) s)) ∧
  (∀ (a : NimAt) (rd ri ent : Fin 32) (wide : Bool) (x at_ : Nat) (s : State),
    s.issues a ⟨some true, [ri.val], 1⟩ x →
    s.tableAddr (s.ctx x) false ent ((s.ctx x).reg ri) (if wide then 8 else 4) = .ok at_ →
    Completes (fun t => (t.ctx x).reg rd = (if rd = 0 then 0 else (s.drawFree.busRead .work at_ (if wide then 3 else 2)).rdata &&&
      journalMask at_) ∧ (t.ctx x).pc = (s.ctx x).pc + 1 ∧ t.regs = (s.drawFree.busRead .work at_ (if wide then 3 else 2)).regs)
      (exec (.nimBld a rd ri ent wide) s)) ∧
  (∀ (a : NimAt) (rd ri ent : Fin 32) (wide : Bool) (env : BusEnv) (x at_ : Nat) (k : Key) (e : JEntry) (s : State),
    s.issues a ⟨some true, [ri.val, rd.val], 1⟩ x →
    s.tableAddr (s.ctx x) true ent ((s.ctx x).reg ri) (if wide then 8 else 4) = .ok at_ →
    s.deltasFull = false →
    (s.ctx x).entry = some k →
    s.entry k = some e →
    Completes (fun t => t = (s.setCtx x ((s.ctx x).issue a.pg ⟨some true, [ri.val, rd.val], 1⟩ noReg 0)).busWrite .work
      { env with key := k, allOrder := e.affinity == 2 } at_ (if wide then 3 else 2) (if wide then (s.ctx x).reg rd else low32
      ((s.ctx x).reg rd)))
      (exec (.nimBst a rd ri ent wide env) s)) ∧
  (∀ (a : NimAt) (x : Nat) (s : State),
    s.issues a ⟨none, [], 1⟩ x →
    Completes (fun t => s.writesReg t x 0 0 ∧ t.nim.sram = s.nim.sram)
      (exec (.nimBfence a 0) s))

/-- Operations of a bundle (R344 to R349, R351, R353): a bundle that no rule of Table 08.15 traps and whose operation acts has the
operation's effect on its accumulator or vector, reading registers as they stood at its start, whatever moves stand beside it;
then the pc goes on to the next bundle of the program or of its loops. A sum that leaves 80 bits clamps with ACC_SAT set, and
the lane stays until it is set; it wraps otherwise. rnd rounds to nearest even and saturates; vadd and vsub saturate. -/
def Obligations.TweedArithmeticBundles : Prop :=
  (∀ (core : Fin 8) (b : Bundle) (ad : Fin 8) (va vb : Fin 32) (sh : Fin 16) (s : State),
    (s.twdCore core).run = true →
    (s.twdCore core).trapOf (.mac .add ad va vb sh) b = none →
    (s.twdCore core).acts b.stg = true →
    Completes (fun t => (∀ l : Nat, l < 4 → (t.twdCore core).lane ad l = if Tbl.get (fun _ => false) (s.twdCore core).stuck (4 * ad
      + l) then (s.twdCore core).lane ad l else BitVec.ofInt 80 (if s.flag F.TWD_CORE_CFG_ACC_SAT core then clampSigned 80
      (((s.twdCore core).lane ad l).toInt + product (lane ((s.twdCore core).vec va) l) (lane ((s.twdCore core).vec vb) l) sh) else
      ((s.twdCore core).lane ad l).toInt + product (lane ((s.twdCore core).vec va) l) (lane ((s.twdCore core).vec vb) l) sh)) ∧
      (t.twdCore core).pc = (closeLoops ((s.twdCore core).pc + 1) (s.twdCore core).loops).1 ∧ (t.twdCore core).cycles = (s.twdCore
      core).issueAt (.mac .add ad va vb sh) b + 1)
      (exec (.twdMac core b ad va vb sh) s)) ∧
  (∀ (core : Fin 8) (b : Bundle) (ad : Fin 8) (va vb : Fin 32) (sh : Fin 16) (s : State),
    (s.twdCore core).run = true →
    (s.twdCore core).trapOf (.mac .sub ad va vb sh) b = none →
    (s.twdCore core).acts b.stg = true →
    Completes (fun t => (∀ l : Nat, l < 4 → (t.twdCore core).lane ad l = if Tbl.get (fun _ => false) (s.twdCore core).stuck (4 * ad
      + l) then (s.twdCore core).lane ad l else BitVec.ofInt 80 (if s.flag F.TWD_CORE_CFG_ACC_SAT core then clampSigned 80
      (((s.twdCore core).lane ad l).toInt - product (lane ((s.twdCore core).vec va) l) (lane ((s.twdCore core).vec vb) l) sh) else
      ((s.twdCore core).lane ad l).toInt - product (lane ((s.twdCore core).vec va) l) (lane ((s.twdCore core).vec vb) l) sh)) ∧
      (t.twdCore core).pc = (closeLoops ((s.twdCore core).pc + 1) (s.twdCore core).loops).1 ∧ (t.twdCore core).cycles = (s.twdCore
      core).issueAt (.mac .sub ad va vb sh) b + 1)
      (exec (.twdMsu core b ad va vb sh) s)) ∧
  (∀ (core : Fin 8) (b : Bundle) (ad : Fin 8) (va vb : Fin 32) (sh : Fin 16) (s : State),
    (s.twdCore core).run = true →
    (s.twdCore core).trapOf (.mac .set ad va vb sh) b = none →
    (s.twdCore core).acts b.stg = true →
    Completes (fun t => (∀ l : Nat, l < 4 → (t.twdCore core).lane ad l = BitVec.ofInt 80 (product (lane ((s.twdCore core).vec va) l)
      (lane ((s.twdCore core).vec vb) l) sh)) ∧ (t.twdCore core).pc = (closeLoops ((s.twdCore core).pc + 1) (s.twdCore
      core).loops).1 ∧ (t.twdCore core).cycles = (s.twdCore core).issueAt (.mac .set ad va vb sh) b + 1)
      (exec (.twdMpy core b ad va vb sh) s)) ∧
  (∀ (core : Fin 8) (b : Bundle) (ad : Fin 8) (va vb : Fin 32) (sh : Fin 16) (s : State),
    (s.twdCore core).run = true →
    (s.twdCore core).trapOf (.qmac .add ad va vb sh) b = none →
    (s.twdCore core).acts b.stg = true →
    Completes (fun t => (∀ u : Nat, u < 4 → ∀ l : Nat, l < 4 → (t.twdCore core).lane (ad + u) l = if Tbl.get (fun _ => false)
      (s.twdCore core).stuck (4 * (ad + u) + l) then (s.twdCore core).lane (ad + u) l else BitVec.ofInt 80 (if s.flag
      F.TWD_CORE_CFG_ACC_SAT core then clampSigned 80 (((s.twdCore core).lane (ad + u) l).toInt + product (lane ((s.twdCore
      core).vec (va + u)) l) (lane ((s.twdCore core).vec vb) l) sh) else ((s.twdCore core).lane (ad + u) l).toInt + product (lane
      ((s.twdCore core).vec (va + u)) l) (lane ((s.twdCore core).vec vb) l) sh)) ∧ (t.twdCore core).pc = (closeLoops ((s.twdCore
      core).pc + 1) (s.twdCore core).loops).1 ∧ (t.twdCore core).cycles = (s.twdCore core).issueAt (.qmac .add ad va vb sh) b + 1)
      (exec (.twdQmac core b ad va vb sh) s)) ∧
  (∀ (core : Fin 8) (b : Bundle) (ad : Fin 8) (va vb : Fin 32) (sh : Fin 16) (s : State),
    (s.twdCore core).run = true →
    (s.twdCore core).trapOf (.qmac .sub ad va vb sh) b = none →
    (s.twdCore core).acts b.stg = true →
    Completes (fun t => (∀ u : Nat, u < 4 → ∀ l : Nat, l < 4 → (t.twdCore core).lane (ad + u) l = if Tbl.get (fun _ => false)
      (s.twdCore core).stuck (4 * (ad + u) + l) then (s.twdCore core).lane (ad + u) l else BitVec.ofInt 80 (if s.flag
      F.TWD_CORE_CFG_ACC_SAT core then clampSigned 80 (((s.twdCore core).lane (ad + u) l).toInt - product (lane ((s.twdCore
      core).vec (va + u)) l) (lane ((s.twdCore core).vec vb) l) sh) else ((s.twdCore core).lane (ad + u) l).toInt - product (lane
      ((s.twdCore core).vec (va + u)) l) (lane ((s.twdCore core).vec vb) l) sh)) ∧ (t.twdCore core).pc = (closeLoops ((s.twdCore
      core).pc + 1) (s.twdCore core).loops).1 ∧ (t.twdCore core).cycles = (s.twdCore core).issueAt (.qmac .sub ad va vb sh) b + 1)
      (exec (.twdQmsu core b ad va vb sh) s)) ∧
  (∀ (core : Fin 8) (b : Bundle) (ad : Fin 8) (va vb : Fin 32) (sh : Fin 16) (s : State),
    (s.twdCore core).run = true →
    (s.twdCore core).trapOf (.qmac .set ad va vb sh) b = none →
    (s.twdCore core).acts b.stg = true →
    Completes (fun t => (∀ u : Nat, u < 4 → ∀ l : Nat, l < 4 → (t.twdCore core).lane (ad + u) l = BitVec.ofInt 80 (product (lane
      ((s.twdCore core).vec (va + u)) l) (lane ((s.twdCore core).vec vb) l) sh)) ∧ (t.twdCore core).pc = (closeLoops ((s.twdCore
      core).pc + 1) (s.twdCore core).loops).1 ∧ (t.twdCore core).cycles = (s.twdCore core).issueAt (.qmac .set ad va vb sh) b + 1)
      (exec (.twdQmpy core b ad va vb sh) s)) ∧
  (∀ (core : Fin 8) (b : Bundle) (mask : BitVec 8) (s : State),
    (s.twdCore core).run = true →
    (s.twdCore core).trapOf (.clr mask) b = none →
    (s.twdCore core).acts b.stg = true →
    Completes (fun t => (∀ n : Nat, n < 8 → ∀ l : Nat, l < 4 → (t.twdCore core).lane n l = if mask.getLsbD n then 0 else (s.twdCore
      core).lane n l) ∧ (t.twdCore core).pc = (closeLoops ((s.twdCore core).pc + 1) (s.twdCore core).loops).1)
      (exec (.twdClr core b mask) s)) ∧
  (∀ (core : Fin 8) (b : Bundle) (vd : Fin 32) (ad : Fin 8) (fmt : Fin 4) (sh : Fin 16) (s : State),
    (s.twdCore core).run = true →
    (s.twdCore core).trapOf (.rnd vd ad fmt sh) b = none →
    (s.twdCore core).acts b.stg = true →
    Completes (fun t => Tbl.get (fun _ => 0) (t.twdCore core).v ((s.twdCore core).phys vd) = lanes (fun l => BitVec.ofInt 32
      (clampSigned (64 - fmtShift fmt) (roundEven (((s.twdCore core).lane ad l).toInt / (2 ^ sh.val : Nat)) (2 ^ fmtShift fmt)) * (2
      ^ (32 - (64 - fmtShift fmt)) : Nat))) ∧ (t.twdCore core).pc = (closeLoops ((s.twdCore core).pc + 1) (s.twdCore core).loops).1
      ∧ (t.twdCore core).cycles = (s.twdCore core).issueAt (.rnd vd ad fmt sh) b + 1)
      (exec (.twdRnd core b vd ad fmt sh) s)) ∧
  (∀ (core : Fin 8) (b : Bundle) (vd va vb : Fin 32) (s : State),
    (s.twdCore core).run = true →
    (s.twdCore core).trapOf (.vadd false vd va vb) b = none →
    (s.twdCore core).acts b.stg = true →
    Completes (fun t => Tbl.get (fun _ => 0) (t.twdCore core).v ((s.twdCore core).phys vd) = lanes (fun l => BitVec.ofInt 32
      (clampSigned 32 ((lane ((s.twdCore core).vec va) l).toInt + (lane ((s.twdCore core).vec vb) l).toInt))) ∧ (t.twdCore core).pc
      = (closeLoops ((s.twdCore core).pc + 1) (s.twdCore core).loops).1 ∧ (t.twdCore core).cycles = (s.twdCore core).issueAt (.vadd
      false vd va vb) b + 1)
      (exec (.twdVadd core b vd va vb) s)) ∧
  (∀ (core : Fin 8) (b : Bundle) (vd va vb : Fin 32) (s : State),
    (s.twdCore core).run = true →
    (s.twdCore core).trapOf (.vadd true vd va vb) b = none →
    (s.twdCore core).acts b.stg = true →
    Completes (fun t => Tbl.get (fun _ => 0) (t.twdCore core).v ((s.twdCore core).phys vd) = lanes (fun l => BitVec.ofInt 32
      (clampSigned 32 ((lane ((s.twdCore core).vec va) l).toInt - (lane ((s.twdCore core).vec vb) l).toInt))) ∧ (t.twdCore core).pc
      = (closeLoops ((s.twdCore core).pc + 1) (s.twdCore core).loops).1 ∧ (t.twdCore core).cycles = (s.twdCore core).issueAt (.vadd
      true vd va vb) b + 1)
      (exec (.twdVsub core b vd va vb) s)) ∧
  (∀ (core : Fin 8) (b : Bundle) (vd va : Fin 32) (s : State),
    (s.twdCore core).run = true →
    (s.twdCore core).trapOf (.vmov vd va) b = none →
    (s.twdCore core).acts b.stg = true →
    Completes (fun t => Tbl.get (fun _ => 0) (t.twdCore core).v ((s.twdCore core).phys vd) = (s.twdCore core).vec va ∧ (t.twdCore
      core).pc = (closeLoops ((s.twdCore core).pc + 1) (s.twdCore core).loops).1)
      (exec (.twdVmov core b vd va) s)) ∧
  (∀ (core : Fin 8) (b : Bundle) (vd va : Fin 32) (k : Fin 4) (s : State),
    (s.twdCore core).run = true →
    (s.twdCore core).trapOf (.vbc vd va k) b = none →
    (s.twdCore core).acts b.stg = true →
    Completes (fun t => Tbl.get (fun _ => 0) (t.twdCore core).v ((s.twdCore core).phys vd) = lanes (fun _ => lane ((s.twdCore
      core).vec va) k) ∧ (t.twdCore core).pc = (closeLoops ((s.twdCore core).pc + 1) (s.twdCore core).loops).1)
      (exec (.twdVbc core b vd va k) s)) ∧
  (∀ (core : Fin 8) (b : Bundle) (ad : Fin 8) (va : Fin 32) (s : State),
    (s.twdCore core).run = true →
    (s.twdCore core).trapOf (.vtoa ad va) b = none →
    (s.twdCore core).acts b.stg = true →
    Completes (fun t => (∀ l : Nat, l < 4 → (t.twdCore core).lane ad l = BitVec.ofInt 80 ((lane ((s.twdCore core).vec va) l).toInt *
      (2 ^ 32 : Nat))) ∧ (t.twdCore core).pc = (closeLoops ((s.twdCore core).pc + 1) (s.twdCore core).loops).1)
      (exec (.twdVtoa core b ad va) s))

/-- Control and moves of a bundle (R317, R322, R323, R348 to R352, R354): loop and lpr open their loop at the next bundle, a
branch adds its offset, setx and sety set an address register, eob ends the run with the address registers written back, and
ROT turns the rotating vectors by one. A move reads or writes the word at its address register, which it then post-modifies. A
bundle that Table 08.15 does not allow traps: the core is TRAPPED and its run over. -/
def Obligations.TweedControlMovesAndTraps : Prop :=
  (∀ (core : Fin 8) (b : Bundle) (s : State),
    (s.twdCore core).run = true →
    (s.twdCore core).trapOf (.nop) b = none →
    Completes (fun t => (t.twdCore core).pc = (closeLoops ((s.twdCore core).pc + 1) (s.twdCore core).loops).1 ∧ (t.twdCore
      core).cycles = (s.twdCore core).issueAt (.nop) b + 1 ∧ (t.twdCore core).rrb = (if b.rot then ((s.twdCore core).rrb + 15) % 16
      else (s.twdCore core).rrb) ∧ (t.twdCore core).acc = (s.twdCore core).acc)
      (exec (.twdNop core b) s)) ∧
  (∀ (core : Fin 8) (b : Bundle) (tr : TwdTrap) (s : State),
    (s.twdCore core).run = true →
    (s.twdCore core).trapOf .nop b = some tr →
    Completes (fun t => t.fld F.TWD_CORE_STAT_STATE core = 2 ∧ (t.twdCore core).run = false ∧ (t.twdCore core).bad = true ∧ (t.reg
      .TWD_CORE_TRAP core).toNat / 2 ^ 28 = tr.code ∧ (t.twdCore core).acc = (s.twdCore core).acc)
      (exec (.twdNop core b) s)) ∧
  (∀ (core : Fin 8) (b : Bundle) (cnt : Fin 1024) (len : Fin 128) (s : State),
    (s.twdCore core).run = true →
    (s.twdCore core).trapOf (.loop cnt len) b = none →
    Completes (fun t => (t.twdCore core).pc = (s.twdCore core).pc + 1 ∧ (t.twdCore core).loops = ⟨(s.twdCore core).pc + 1, len + 1,
      0, cnt, none⟩ :: (s.twdCore core).loops)
      (exec (.twdLoop core b cnt len) s)) ∧
  (∀ (core : Fin 8) (b : Bundle) (st : Fin 8) (cnt : Fin 1024) (len : Fin 16) (s : State),
    (s.twdCore core).run = true →
    (s.twdCore core).trapOf (.lpr st cnt len) b = none →
    Completes (fun t => (t.twdCore core).pc = (s.twdCore core).pc + 1 ∧ (t.twdCore core).loops = ⟨(s.twdCore core).pc + 1, len + 1,
      0, cnt + st, some cnt⟩ :: (s.twdCore core).loops)
      (exec (.twdLpr core b st cnt len) s)) ∧
  (∀ (core : Fin 8) (b : Bundle) (off : BitVec 17) (s : State),
    (s.twdCore core).run = true →
    (s.twdCore core).trapOf (.br off) b = none →
    0 ≤ (s.twdCore core).pc + off.toInt →
    Completes (fun t => ((t.twdCore core).pc : Int) = (s.twdCore core).pc + off.toInt ∧ (t.twdCore core).cycles = (s.twdCore
      core).issueAt (.br off) b + 3 ∧ (t.twdCore core).loops = (s.twdCore core).loops)
      (exec (.twdBr core b off) s)) ∧
  (∀ (core : Fin 8) (b : Bundle) (r : Fin 8) (addr : BitVec 14) (s : State),
    (s.twdCore core).run = true →
    (s.twdCore core).trapOf (.setx false r addr) b = none →
    (s.twdCore core).acts b.stg = true →
    Completes (fun t => ((t.twdCore core).areg (r.val + 0)).addr = addr.toNat ∧ (t.twdCore core).pc = (closeLoops ((s.twdCore
      core).pc + 1) (s.twdCore core).loops).1)
      (exec (.twdSetx core b r addr) s)) ∧
  (∀ (core : Fin 8) (b : Bundle) (r : Fin 8) (addr : BitVec 14) (s : State),
    (s.twdCore core).run = true →
    (s.twdCore core).trapOf (.setx true r addr) b = none →
    (s.twdCore core).acts b.stg = true →
    Completes (fun t => ((t.twdCore core).areg (r.val + 8)).addr = addr.toNat ∧ (t.twdCore core).pc = (closeLoops ((s.twdCore
      core).pc + 1) (s.twdCore core).loops).1)
      (exec (.twdSety core b r addr) s)) ∧
  (∀ (core : Fin 8) (b : Bundle) (s : State),
    (s.twdCore core).run = true →
    (s.twdCore core).trapOf (.eob) b = none →
    b.xm.op = 0 →
    b.ym.op = 0 →
    Completes (fun t => (t.twdCore core).run = false ∧ (t.twdCore core).ended = true ∧ (t.twdCore core).x = ((s.twdCore
      core).writeBack).x ∧ (t.twdCore core).y = (s.twdCore core).y ∧ (t.reg .TWD_CORE_CYC core).toNat = satTo 18 ((s.twdCore
      core).issueAt .eob b + 1))
      (exec (.twdEob core b) s)) ∧
  (∀ (core : Fin 8) (b : Bundle) (y : Bool) (m : Move) (s : State),
    (s.twdCore core).run = true →
    (s.twdCore core).trapOf .nop (b.withMove y { m with op := 1 }) = none →
    (s.twdCore core).acts m.stg = true →
    Completes (fun t => Tbl.get (fun _ => 0) (t.twdCore core).v ((s.twdCore core).phys m.v) = readXY (if y then (s.twdCore core).y
      else (s.twdCore core).x) ((s.twdCore core).areg (m.r.val + (if y then 8 else 0))).addr ∧ ((t.twdCore core).areg (m.r.val + (if
      y then 8 else 0))).addr = (if m.mod_ = 0 then ((s.twdCore core).areg (m.r.val + (if y then 8 else 0))).addr else ((s.twdCore
      core).areg (m.r.val + (if y then 8 else 0))).step_ m.mod_) ∧ (t.twdCore core).pc = (closeLoops ((s.twdCore core).pc + 1)
      (s.twdCore core).loops).1)
      (exec (.twdVld core b y m) s)) ∧
  (∀ (core : Fin 8) (b : Bundle) (y : Bool) (m : Move) (s : State),
    (s.twdCore core).run = true →
    (s.twdCore core).trapOf .nop (b.withMove y { m with op := 2 }) = none →
    (s.twdCore core).acts m.stg = true →
    ((s.twdCore core).areg (m.r.val + (if y then 8 else 0))).addr < 0x3000 →
    Completes (fun t => Tbl.get (fun _ => 0) (if y then (t.twdCore core).y else (t.twdCore core).x) ((s.twdCore core).areg (m.r.val
      + (if y then 8 else 0))).addr = (s.twdCore core).vec m.v ∧ ((t.twdCore core).areg (m.r.val + (if y then 8 else 0))).addr = (if
      m.mod_ = 0 then ((s.twdCore core).areg (m.r.val + (if y then 8 else 0))).addr else ((s.twdCore core).areg (m.r.val + (if y
      then 8 else 0))).step_ m.mod_) ∧ (t.twdCore core).pc = (closeLoops ((s.twdCore core).pc + 1) (s.twdCore core).loops).1)
      (exec (.twdVst core b y m) s)) ∧
  (∀ (core : Fin 8) (b : Bundle) (y : Bool) (m : Move) (s : State),
    (s.twdCore core).run = true →
    (s.twdCore core).trapOf .nop (b.withMove y { m with op := 3 }) = none →
    (s.twdCore core).acts m.stg = true →
    Completes (fun t => Tbl.get (fun _ => 0) (t.twdCore core).v ((s.twdCore core).phys m.v) = lanes (fun _ => lane (readXY (if y
      then (s.twdCore core).y else (s.twdCore core).x) ((s.twdCore core).areg (m.r.val + (if y then 8 else 0))).addr) m.k) ∧
      ((t.twdCore core).areg (m.r.val + (if y then 8 else 0))).addr = (if m.mod_ = 0 then ((s.twdCore core).areg (m.r.val + (if y
      then 8 else 0))).addr else ((s.twdCore core).areg (m.r.val + (if y then 8 else 0))).step_ m.mod_) ∧ (t.twdCore core).pc =
      (closeLoops ((s.twdCore core).pc + 1) (s.twdCore core).loops).1)
      (exec (.twdVbl core b y m) s))

/-- Blocks (R316, R318, R319, R321, R322, R326, R327, R329, R341 to R343): a sample enters the input bank, and a missing one is 0
with INVALID and counted; a core in RUN starts its run at its entry with cleared registers, an armed apply taking effect
first; a run past its deadline is stopped and counted; the OUT bank of a run that ended is presented, and INVALID slots
otherwise; scrub counts corrected codewords; a swap shows its carrier; an instruction store goes to the load bank; disabling
drains, and a kill stops at once. -/
def Obligations.TweedBlocksRunAndPresent : Prop :=
  (∀ (core : Fin 8) (slot : Fin 1024) (n : Fin 8) (v : BitVec 32) (s : State),
    Completes (fun t => lane (Tbl.get (fun _ => 0) (t.twdCore core).bank (slotWord slot n)) (slot % 4) = v ∧ slot.val ∈ (t.twdCore
      core).got ∧ t.regs = s.regs)
      (exec (.tweedSampleWrite core slot n v .good none) s)) ∧
  (∀ (core : Fin 8) (slot : Fin 1024) (n : Fin 8) (v : BitVec 32) (asp : Option (Fin 16 × Fin 16)) (s : State),
    Completes (fun t => lane (Tbl.get (fun _ => 0) (t.twdCore core).bank (slotWord slot n)) (slot % 4) = 0 ∧ (byteOf (Tbl.get (fun _
      => 0) (t.twdCore core).bank (flagWord slot)) (slot % 16)).getLsbD 0 = true ∧ t.reg .TWD_CORE_UNDER core = s.counted
      .TWD_CORE_UNDER core 1)
      (exec (.tweedSampleWrite core slot n v .missing asp) s)) ∧
  (∀ (core : Fin 8) (j : Nat) (filled : Bool) (s : State),
    s.flag F.TWD_CTRL_EN 0 = true →
    s.flag F.TWD_CORE_STAT_ARMED core = false →
    s.fld F.TWD_CORE_STAT_STATE core = 1 →
    Completes (fun t => (t.twdCore core).run = true ∧ (t.twdCore core).pc = s.fld F.TWD_CORE_RUN_ENTRY core ∧ (t.twdCore core).v =
      [] ∧ (t.twdCore core).acc = [] ∧ (t.twdCore core).bank = [] ∧ t.reg .TWD_CORE_BLK core = BitVec.ofNat 64 (j % 2 ^ 32) ∧ t.fld
      F.TWD_CORE_STAT_STATE core = 1)
      (exec (.tweedRunStart core j filled) s)) ∧
  (∀ (core : Fin 8) (uncorr : Bool) (s : State),
    (s.twdCore core).run = true →
    Completes (fun t => (t.twdCore core).run = false ∧ (t.twdCore core).bad = true ∧ (t.twdCore core).overrun = true ∧ t.reg
      .TWD_CORE_OVR core = s.counted .TWD_CORE_OVR core 1)
      (exec (.tweedRunDeadline core uncorr) s)) ∧
  (∀ (core : Fin 8) (s : State),
    (s.twdCore core).ended = true →
    (s.twdCore core).bad = false →
    Completes (fun t => (t.twdCore core).out = (s.twdCore core).y.filter fun e => 0x3000 ≤ e.1 ∧ (t.twdCore core).outBad = false ∧
      (t.twdCore core).ended = false ∧ t.sent = s.sent)
      (exec (.tweedBlockPresent core []) s)) ∧
  (∀ (core : Fin 8) (s : State),
    ((s.twdCore core).ended = false ∨ (s.twdCore core).bad = true) →
    Completes (fun t => (t.twdCore core).out = [] ∧ (t.twdCore core).outBad = true)
      (exec (.tweedBlockPresent core []) s)) ∧
  (∀ (src : Requester) (core : Fin 8) (at_ : Word32) (s : State),
    s.closedTo .TWD_CORE_AT src = false →
    s.fld F.TWD_CORE_STAT_STATE core ≠ 3 →
    Completes (fun t => t.reg .TWD_CORE_AT core = s.stored .TWD_CORE_AT core (at_.setWidth 64) ∧ t.flag F.TWD_CORE_STAT_ARMED core =
      true ∧ t.twd = s.twd)
      (exec (.tweedApplyArm src core at_) s)) ∧
  (∀ (src : Requester) (core : Fin 8) (a : Fin 8192) (v : Word64) (s : State),
    src ≠ .pcie →
    Completes (fun t => Tbl.get (fun _ => 0) (t.twdCore core).imem (8192 * (1 - s.fld F.TWD_CORE_STAT_BANK core) + a) = v ∧ t.regs =
      s.regs ∧ t.resp = .OK)
      (exec (.twdImemWrite src core a v) s)) ∧
  (∀ (corrected : Nat) (s : State),
    Completes (fun t => t.reg .TWD_MEM_CORR 0 = s.counted .TWD_MEM_CORR 0 corrected ∧ t.twd = s.twd)
      (exec (.tweedScrub corrected []) s)) ∧
  (∀ (core : Fin 8) (phys : Fin 9) (s : State),
    Completes (fun t => t.fld F.TWD_CORE_STAT_PHYS core = phys.val ∧ t.twd = s.twd)
      (exec (.tweedCoreSwap core phys) s)) ∧
  (∀ (src : Requester) (s : State),
    s.closedTo .TWD_CTRL src = false →
    (∀ c : Fin 8, s.fld F.TWD_CORE_STAT_STATE c = 1) →
    Completes (fun t => t.flag F.TWD_CTRL_EN 0 = false ∧ t.flag F.TWD_STATUS_RUN 0 = false ∧ t.flag F.TWD_STATUS_DRAINING 0 = true ∧
      (∀ c : Fin 8, t.fld F.TWD_CORE_STAT_STATE c = 3) ∧ t.twd = s.twd)
      (exec (.tweedDisable src) s)) ∧
  (∀ (src : Requester) (s : State),
    s.closedTo .TWD_CTRL src = false →
    Completes (fun t => t.flag F.TWD_CTRL_EN 0 = false ∧ t.flag F.TWD_STATUS_DRAINING 0 = false ∧ (∀ c : Fin 8, t.fld
      F.TWD_CORE_STAT_STATE c = 0))
      (exec (.tweedKill src) s))

/-- Placement registers (R330 to R334, R337 to R339, R341, R356): a write that passes its checks joins the pending set of its core
and answers OK, the register keeping its value until an apply; a base that is not aligned or a run that crosses cores answers
BAD_ARG, one that overlaps or sends a flow that is not this part's answers REFUSED_POLICY. -/
def Obligations.TweedPlacementsFollowsAndBundles : Prop :=
  (∀ (src : Requester) (k : Fin 1184) (w : Word32) (sender : Fin 4) (s : State),
    s.closedTo .TWD_PLACE src = false →
    (F.TWD_PLACE_BASE.of (w.setWidth 64) % 4 ≠ 0 ∨ crossesCore (F.TWD_PLACE_BASE.of (w.setWidth 64)) (s.placeLen k) = true) →
    Completes (fun t => t = s.answer .BAD_ARG)
      (exec (.twdPlaceWrite src k w sender) s)) ∧
  (∀ (src : Requester) (k : Fin 1184) (w : Word32) (sender : Fin 4) (s : State),
    s.closedTo .TWD_PLACE src = false →
    F.TWD_PLACE_BASE.of (w.setWidth 64) % 4 = 0 →
    crossesCore (F.TWD_PLACE_BASE.of (w.setWidth 64)) (s.placeLen k) = false →
    s.placeOverlaps k (F.TWD_PLACE_BASE.of (w.setWidth 64)) (s.placeLen k) = false →
    s.placeTb k sender = s.coreTb (F.TWD_PLACE_BASE.of (w.setWidth 64) / 1024) →
    s.fld F.TWD_CORE_STAT_STATE (F.TWD_PLACE_BASE.of (w.setWidth 64) / 1024) ≠ 3 →
    Completes (fun t => (t.twdCore (F.TWD_PLACE_BASE.of (w.setWidth 64) / 1024)).pend = (s.twdCore (F.TWD_PLACE_BASE.of (w.setWidth
      64) / 1024)).pend ++ [(Reg.TWD_PLACE, k.val, w.setWidth 64 &&& BitVec.ofNat 64 Reg.TWD_PLACE.info.mask)] ∧ t.reg .TWD_PLACE k
      = s.reg .TWD_PLACE k ∧ t.resp = .OK)
      (exec (.twdPlaceWrite src k w sender) s)) ∧
  (∀ (src : Requester) (n : Fin 400) (w : Word32) (s : State),
    s.closedTo .TWD_FOLLOW src = false →
    F.TWD_FOLLOW_MODE.of (w.setWidth 64) ≠ 3 →
    (F.TWD_FOLLOW_MODE.of (w.setWidth 64) = 2 → crossesCore (F.TWD_FOLLOW_BASE.of (w.setWidth 64)) (s.followLen n) = false) →
    s.fld F.TWD_CORE_STAT_STATE (F.TWD_FOLLOW_BASE.of (w.setWidth 64) / 1024) ≠ 3 →
    Completes (fun t => (t.twdCore (F.TWD_FOLLOW_BASE.of (w.setWidth 64) / 1024)).pend = (s.twdCore (F.TWD_FOLLOW_BASE.of
      (w.setWidth 64) / 1024)).pend ++ [(Reg.TWD_FOLLOW, n.val, w.setWidth 64 &&& BitVec.ofNat 64 Reg.TWD_FOLLOW.info.mask)] ∧ t.reg
      .TWD_FOLLOW n = s.reg .TWD_FOLLOW n ∧ t.resp = .OK)
      (exec (.twdFollowWrite src n w) s)) ∧
  (∀ (src : Requester) (b : Fin 16) (w : Word32) (s : State),
    s.closedTo .TWD_BTX_FLOW src = false →
    F.TWD_BTX_CFG_VALID.on (s.effReg .TWD_BTX_CFG b) = false →
    s.fld F.TWD_CORE_STAT_STATE (F.TWD_BTX_CFG_BASE.of (s.effReg .TWD_BTX_CFG b) / 1024) ≠ 3 →
    Completes (fun t => (t.twdCore (F.TWD_BTX_CFG_BASE.of (s.effReg .TWD_BTX_CFG b) / 1024)).pend = (s.twdCore
      (F.TWD_BTX_CFG_BASE.of (s.effReg .TWD_BTX_CFG b) / 1024)).pend ++ [(Reg.TWD_BTX_FLOW, b.val, w.setWidth 64 &&& BitVec.ofNat 64
      Reg.TWD_BTX_FLOW.info.mask)] ∧ t.resp = .OK)
      (exec (.bundleSenderWrite src b true w) s)) ∧
  (∀ (src : Requester) (b : Fin 16) (w : Word32) (u : State) (s : State),
    s.closedTo .TWD_BTX_CFG src = false →
    F.TWD_BTX_CFG_BASE.of (w.setWidth 64) % 64 = 0 →
    s.bundleFlow (F.TWD_BTX_FLOW_FLOW.of (s.effReg .TWD_BTX_FLOW b)) = true →
    s.reserveOut (btxChannels (s.effReg .TWD_BTX_CFG b)) (btxChannels (w.setWidth 64)) = some u →
    s.fld F.TWD_CORE_STAT_STATE (F.TWD_BTX_CFG_BASE.of (w.setWidth 64) / 1024) ≠ 3 →
    Completes (fun t => (t.twdCore (F.TWD_BTX_CFG_BASE.of (w.setWidth 64) / 1024)).pend = (s.twdCore (F.TWD_BTX_CFG_BASE.of
      (w.setWidth 64) / 1024)).pend ++ [(Reg.TWD_BTX_CFG, b.val, w.setWidth 64 &&& BitVec.ofNat 64 Reg.TWD_BTX_CFG.info.mask)] ∧
      t.resp = .OK ∧ t.reg .TWD_BTX_CFG b = s.reg .TWD_BTX_CFG b)
      (exec (.bundleSenderWrite src b false w) s)) ∧
  (∀ (src : Requester) (b : Fin 16) (w : Word32) (s : State),
    s.closedTo .TWD_BTX_CFG src = false →
    F.TWD_BTX_CFG_BASE.of (w.setWidth 64) % 64 ≠ 0 →
    Completes (fun t => t = s.answer .BAD_ARG)
      (exec (.bundleSenderWrite src b false w) s)) ∧
  (∀ (src : Requester) (r : Fin 16) (w : Word32) (h : RouteHop) (s : State),
    s.closedTo .TWD_BRX_CFG src = false →
    (F.TWD_BRX_CFG_DELAY.of (w.setWidth 64) = 0 ∨ 8 < F.TWD_BRX_CFG_DELAY.of (w.setWidth 64)) →
    Completes (fun t => t = s.answer .BAD_ARG)
      (exec (.bundleReceiverWrite src r w h) s)) ∧
  (∀ (src : Requester) (r : Fin 16) (w : Word32) (h : RouteHop) (s : State),
    s.closedTo .TWD_BRX_CFG src = false →
    0 < F.TWD_BRX_CFG_DELAY.of (w.setWidth 64) →
    F.TWD_BRX_CFG_DELAY.of (w.setWidth 64) ≤ 8 →
    F.TWD_BRX_CFG_VALID.on (w.setWidth 64) = false →
    F.TWD_BRX_CFG_VALID.on (s.effReg .TWD_BRX_CFG r) = false →
    s.fld F.TWD_CORE_STAT_STATE (F.TWD_PLACE_BASE.of (s.effReg .TWD_PLACE (1168 + r)) / 1024) ≠ 3 →
    (s.reserveIn 0 0).isSome = true →
    Completes (fun t => (t.twdCore (F.TWD_PLACE_BASE.of (s.effReg .TWD_PLACE (1168 + r)) / 1024)).pend = (s.twdCore
      (F.TWD_PLACE_BASE.of (s.effReg .TWD_PLACE (1168 + r)) / 1024)).pend ++ [(Reg.TWD_BRX_CFG, r.val, w.setWidth 64 &&&
      BitVec.ofNat 64 Reg.TWD_BRX_CFG.info.mask)] ∧ t.resp = .OK)
      (exec (.bundleReceiverWrite src r w h) s)) ∧
  (∀ (src : Requester) (r : Fin 16) (w : Word32) (h : RouteHop) (u v : State) (s : State),
    s.closedTo .TWD_BRX_CFG src = false →
    0 < F.TWD_BRX_CFG_DELAY.of (w.setWidth 64) →
    F.TWD_BRX_CFG_DELAY.of (w.setWidth 64) ≤ 8 →
    F.TWD_BRX_CFG_VALID.on (w.setWidth 64) = true →
    F.TWD_BRX_CFG_VALID.on (s.effReg .TWD_BRX_CFG r) = false →
    s.reserveIn 0 64 = some u →
    u.hold { h with flow := F.TWD_BRX_CFG_FLOW.of (w.setWidth 64), egress := [160 + r / 8] } = (v, .OK) →
    Completes (fun t => Tbl.get (fun _ => none) t.twd.brx r = some h.req)
      (exec (.bundleReceiverWrite src r w h) s))

/-- Serial audio ports (R361, R363, R365, R366, R368 to R373, R375): an enable in OFF that passes its checks starts a slave in
SYNC and a master in START; a disable drains and a kill goes OFF at once; a mask waits in its shadow; a frame start shows the
period measured; a fault mutes the section, counted; 64 good periods resume it; another rate stops it until it is armed; data
starts and ends where its LEAD and TAIL frames end. -/
def Obligations.SerialAudioSectionsStartStopAndMute : Prop :=
  (∀ (src : Requester) (tx : Bool) (n : Fin 16) (w : Word32) (u : State) (s : State),
    s.closedTo (aspCfg tx) src = false →
    s.aspState tx n = aspOff →
    s.flag F.ASP_CTRL_EN 0 = true →
    F.ASP_TX_CFG_ARM.on (w.setWidth 64) = false →
    (tx = true → aspMisplaced (F.ASP_TX_CFG_BASE.of (w.setWidth 64)) (s.aspRate tx n) = false) →
    s.aspChecks tx n (F.ASP_TX_CFG_ENABLE.put 1 (w.setWidth 64)) (s.aspRate tx n) = .ok u →
    Completes (fun t => t.reg (aspCfg tx) n = s.stored (aspCfg tx) n (F.ASP_TX_CFG_ENABLE.put 1 (w.setWidth 64)) ∧ t.aspState tx n =
      (if t.aspMaster tx n then aspStart else aspSync) ∧ (t.sect tx n).data = false ∧ t.resp = .OK)
      (exec (.aspEnable src tx n w) s)) ∧
  (∀ (src : Requester) (tx : Bool) (n : Fin 16) (s : State),
    s.closedTo (aspCfg tx) src = false →
    (s.aspState tx n = aspStart ∨ s.aspState tx n = aspRun ∨ s.aspState tx n = aspSync ∨ s.aspState tx n = aspMuted) →
    F.ASP_TX_CFG_ARM.on (s.reg (aspCfg tx) n) = false →
    F.ASP_TX_CFG_KILL.on (s.reg (aspCfg tx) n) = false →
    Completes (fun t => t.aspState tx n = aspDraining ∧ t.flag ⟨aspCfg tx, 31, 1⟩ n = false ∧ t.resp = .OK)
      (exec (.aspDisable src tx n) s)) ∧
  (∀ (src : Requester) (tx : Bool) (n : Fin 16) (s : State),
    s.closedTo (aspCfg tx) src = false →
    s.aspState tx n ≠ aspOff →
    Completes (fun t => t.aspState tx n = aspOff ∧ t.flag ⟨aspCfg tx, 31, 1⟩ n = false ∧ t.sect tx n = default ∧ (t.reg (aspKilled
      tx) n).toNat = (s.sect tx n).buf.length % 2 ^ 32 ∧ t.resp = .OK)
      (exec (.aspKill src tx n) s)) ∧
  (∀ (src : Requester) (tx : Bool) (n : Fin 16) (s : State),
    s.closedTo (aspCfg tx) src = false →
    s.aspState tx n ≠ aspRateStop →
    s.aspState tx n ≠ aspDraining →
    F.ASP_TX_CFG_KILL.on (s.reg (aspCfg tx) n) = false →
    Completes (fun t => t = s.answer .REFUSED_POLICY)
      (exec (.aspArm src tx n) s)) ∧
  (∀ (src : Requester) (tx : Bool) (n : Fin 16) (u : State) (s : State),
    s.closedTo (aspCfg tx) src = false →
    s.aspState tx n = aspRateStop →
    s.flag ⟨aspCfg tx, 31, 1⟩ n = true →
    (s.store (aspCfg tx) n (F.ASP_TX_CFG_ARM.put 1 (s.reg (aspCfg tx) n))).aspChecks tx n
      ((s.store (aspCfg tx) n (F.ASP_TX_CFG_ARM.put 1 (s.reg (aspCfg tx) n))).reg (aspCfg tx) n) (s.aspRate tx n) = .ok u →
    Completes (fun t => t.aspState tx n = aspSync ∧ t.fld ⟨aspStat tx, 0, 16⟩ n = 0 ∧ t.resp = .OK)
      (exec (.aspArm src tx n) s)) ∧
  (∀ (src : Requester) (tx : Bool) (n : Fin 16) (w : Word32) (s : State),
    s.closedTo (aspMask tx) src = false →
    s.aspState tx n ≠ aspDraining →
    Completes (fun t => t.reg (aspMask tx) n = s.stored (aspMask tx) n (w.setWidth 64) ∧ t.flag ⟨aspStat tx, 24, 1⟩ n = true ∧ t.reg
      (aspAct tx) n = s.reg (aspAct tx) n ∧ t.asp = s.asp)
      (exec (.aspMaskWrite src tx n w) s)) ∧
  (∀ (tx : Bool) (n : Fin 16) (period : BitVec 24) (frame : List (BitVec 32)) (instants : List (Fin 16)) (s : State),
    s.aspState tx n ≠ aspOff →
    s.aspState tx n ≠ aspRateStop →
    Completes (fun t => t.reg (aspPeriod tx) n = period.setWidth 64 ∧ t.reg (aspAct tx) n = s.reg (aspMask tx) n ∧ t.flag ⟨aspStat
      tx, 24, 1⟩ n = false)
      (exec (.aspFrameStart tx n period frame instants) s)) ∧
  (∀ (tx : Bool) (n : Fin 16) (s : State),
    s.aspMaster tx n = false →
    (s.aspState tx n = aspStart ∨ s.aspState tx n = aspRun ∨ s.aspState tx n = aspSync) →
    Completes (fun t => t.aspState tx n = aspMuted ∧ t.fld ⟨aspStat tx, 16, 3⟩ n = 1 ∧ t.reg (aspFaults tx) n = s.counted (aspFaults
      tx) n 1 ∧ (t.sect tx n).data = false ∧ (t.sect tx n).buf = [])
      (exec (.aspBckMissing tx n) s)) ∧
  (∀ (tx : Bool) (n : Fin 16) (s : State),
    s.aspMaster tx n = false →
    s.aspState tx n = aspMuted →
    Completes (fun t => t.aspState tx n = aspMuted ∧ t.reg (aspFaults tx) n = s.counted (aspFaults tx) n 1 ∧ t.asp = s.asp)
      (exec (.aspWsMissing tx n) s)) ∧
  (∀ (tx : Bool) (n : Fin 16) (s : State),
    s.aspMaster tx n = false →
    (s.aspState tx n = aspStart ∨ s.aspState tx n = aspRun ∨ s.aspState tx n = aspSync) →
    Completes (fun t => t.aspState tx n = aspMuted ∧ t.fld ⟨aspStat tx, 16, 3⟩ n = 2 ∧ t.reg (aspFaults tx) n = s.counted (aspFaults
      tx) n 1)
      (exec (.aspWsMissing tx n) s)) ∧
  (∀ (tx : Bool) (n : Fin 16) (f : AspFault) (s : State),
    s.aspMaster tx n = (f == .source) →
    (s.aspState tx n = aspStart ∨ s.aspState tx n = aspRun ∨ s.aspState tx n = aspSync) →
    Completes (fun t => t.aspState tx n = aspMuted ∧ t.fld ⟨aspStat tx, 16, 3⟩ n = f.code ∧ t.reg (aspFaults tx) n = s.counted
      (aspFaults tx) n 1)
      (exec (.aspClockFault tx n f) s)) ∧
  (∀ (tx : Bool) (n : Fin 16) (s : State),
    s.aspState tx n = aspSync →
    Completes (fun t => t.aspState tx n = aspStart ∧ (t.sect tx n).lead = s.fld ⟨aspFmt tx, 0, 8⟩ n ∧ (t.sect tx n).buf = [])
      (exec (.aspResync tx n) s)) ∧
  (∀ (tx : Bool) (n : Fin 16) (s : State),
    s.aspState tx n = aspMuted →
    Completes (fun t => t.aspState tx n = aspRun ∧ (t.sect tx n).data = false ∧ (t.sect tx n).filling = !s.aspMaster tx n)
      (exec (.aspResync tx n) s)) ∧
  (∀ (tx : Bool) (n : Fin 16) (rate : Fin 8) (s : State),
    s.aspState tx n = aspMuted →
    s.aspMaster tx n = false →
    rate.val ≠ 0 →
    rate.val ≠ (if s.aspRate tx n then 5 else 3) →
    s.flag ⟨aspCfg tx, 27, 1⟩ n = false →
    Completes (fun t => t.aspState tx n = aspRateStop ∧ t.fld ⟨aspStat tx, 25, 3⟩ n = rate.val)
      (exec (.aspRateChange tx n rate) s)) ∧
  (∀ (tx : Bool) (n : Fin 16) (s : State),
    s.aspState tx n = aspStart →
    (s.sect tx n).data = false →
    (s.sect tx n).filling = false →
    (s.sect tx n).lead = 0 →
    Completes (fun t => t.aspState tx n = aspRun ∧ t.sect tx n = { s.sect tx n with data := true, ramp := 3 })
      (exec (.aspDataStart tx n) s)) ∧
  (∀ (tx : Bool) (n : Fin 16) (s : State),
    s.aspState tx n = aspDraining →
    (s.sect tx n).data = false →
    (s.sect tx n).tail = 0 →
    Completes (fun t => t.aspState tx n = aspOff ∧ t.sect tx n = default)
      (exec (.aspTailDone tx n) s))

/-- Vamp (R380, R384, R385, R402, R403): an enable that passes its checks puts its pipe in RUN with its budget charged, a refused
one answers its status and changes nothing; a disable drains the pipe and discards its pending commit, a drained or killed
pipe is OFF with no layer drawn; a surface write that passes its checks is stored; the oldest write of a surface's GEN that
waits applies; clearing VMP_CTRL.EN drains every pipe. -/
def Obligations.VampPipesAndSurfaces : Prop :=
  (∀ (src : Requester) (v : Fin 16) (w : Word32) (s : State),
    s.closedTo .VMP_PIPE_CFG src = false →
    s.pipeState v = pipeOff →
    s.pipeRefusal v (F.VMP_PIPE_CFG_ENABLE.put 1 (w.setWidth 64)) = none →
    Completes (fun t => t.pipeState v = pipeRun ∧ t.reg .VMP_PIPE_CFG v = s.stored .VMP_PIPE_CFG v (F.VMP_PIPE_CFG_ENABLE.put 1
      (w.setWidth 64)) ∧ (t.pipe v).drawn = [] ∧ (t.pipe v).pend = none ∧ t.flag F.VMP_PIPE_STAT_KILLED v = false ∧ t.resp = .OK)
      (exec (.pipeEnable src v w) s)) ∧
  (∀ (src : Requester) (v : Fin 16) (w : Word32) (st : Status) (s : State),
    s.closedTo .VMP_PIPE_CFG src = false →
    s.pipeState v = pipeOff →
    s.pipeRefusal v (F.VMP_PIPE_CFG_ENABLE.put 1 (w.setWidth 64)) = some st →
    Completes (fun t => t = s.answer st)
      (exec (.pipeEnable src v w) s)) ∧
  (∀ (src : Requester) (v : Fin 16) (s : State),
    s.closedTo .VMP_PIPE_CFG src = false →
    s.pipeState v = pipeRun →
    F.VMP_PIPE_CFG_KILL.on (s.reg .VMP_PIPE_CFG v) = false →
    Completes (fun t => t.pipeState v = pipeDraining ∧ (t.pipe v).pend = none ∧ t.reg .VMP_PIPE_PEND v = 0 ∧ t.flag
      F.VMP_PIPE_CFG_ENABLE v = false)
      (exec (.pipeDisable src v) s)) ∧
  (∀ (src : Requester) (v : Fin 16) (s : State),
    s.closedTo .VMP_PIPE_CFG src = false →
    s.pipeState v ≠ pipeOff →
    Completes (fun t => t.pipeState v = pipeOff ∧ (t.pipe v).drawn = [] ∧ (t.pipe v).pend = none ∧ t.flag F.VMP_PIPE_STAT_KILLED v =
      true ∧ t.flag F.VMP_PIPE_CFG_ENABLE v = false ∧ t.resp = .OK)
      (exec (.pipeKill src v) s)) ∧
  (∀ (v : Fin 16) (s : State),
    s.pipeState v = pipeDraining →
    Completes (fun t => t.pipeState v = pipeOff ∧ (t.pipe v).drawn = [] ∧ t.flag F.VMP_PIPE_STAT_KILLED v = false)
      (exec (.pipeDrainDone v) s)) ∧
  (∀ (src : Requester) (m : Fin 256) (w : Word32) (b : Nat) (s : State),
    s.closedTo .VMP_SURF_CFG src = false →
    surfBytes (F.VMP_SURF_CFG_FMT.of (w.setWidth 64)) = some b →
    s.fld F.VMP_SURF_USE_N m = 0 →
    (F.VMP_SURF_CFG_VALID.on (w.setWidth 64) = true → (s.fld F.VMP_SURF_SIZE_W1 m + 1) * b ≤ s.fld F.VMP_SURF_PITCH_PITCH m ∧ s.fld
      F.VMP_SURF_PITCH_PITCH m % 64 = 0 ∧
      (s.surfPages m (w.setWidth 64)).2 ≤ 30393 ∧ (s.reg .ING_POOL_PAGES 0).toNat ≤ (s.surfPages m (w.setWidth 64)).1 ∧
        s.surfOverlaps m (s.surfPages m (w.setWidth 64)) = false) →
    Completes (fun t => t.reg .VMP_SURF_CFG m = s.stored .VMP_SURF_CFG m (w.setWidth 64) ∧ t.resp = .OK ∧ t.vmp = s.vmp)
      (exec (.surfaceConfigWrite src m w) s)) ∧
  (∀ (src : Requester) (m : Fin 256) (w : Word32) (s : State),
    s.closedTo .VMP_SURF_CFG src = false →
    (surfBytes (F.VMP_SURF_CFG_FMT.of (w.setWidth 64))).isSome = true →
    s.fld F.VMP_SURF_USE_N m ≠ 0 →
    Completes (fun t => t = s.answer .BUSY)
      (exec (.surfaceConfigWrite src m w) s)) ∧
  (∀ (m : Nat) (g : Word) (r : List (Nat × Word)) (s : State),
    s.vmp.gens = (m, g) :: r →
    g.toNat < 2 ^ 32 →
    Completes (fun t => t.reg .VMP_SURF_GEN m = g ∧ t.vmp.gens = r)
      (exec .surfGenApply s)) ∧
  (∀ (src : Requester) (s : State),
    s.closedTo .VMP_CTRL src = false →
    (∀ v : Fin 16, s.pipeState v = pipeRun) →
    Completes (fun t => t.flag F.VMP_CTRL_EN 0 = false ∧ t.flag F.VMP_STATUS_RUN 0 = false ∧ t.flag F.VMP_STATUS_DRAINING 0 = true ∧
      (∀ v : Fin 16, t.pipeState v = pipeDraining))
      (exec (.vampDisable src) s)) ∧
  (∀ (off : BitVec 36) (b : Byte) (s : State),
    s.bar2Refused (off.toNat / 2097152) true = false →
    Completes (fun t => Tbl.get (fun _ => 0) t.frameStore off.toNat = b ∧ t.regs = s.regs)
      (exec (.bar2Access off (some [b])) s)) ∧
  (∀ (off : BitVec 36) (write : Option (List Byte)) (s : State),
    s.bar2Refused (off.toNat / 2097152) write.isSome = true →
    Completes (fun t => t.frameStore = s.frameStore ∧ t.reg .GLB_BAR2_MISS 0 = s.counted .GLB_BAR2_MISS 0 1)
      (exec (.bar2Access off write) s))

/-- Last (R409, R411, R414, R416, R420, R421, R423, R424, R426, R428 to R430): a reference that fails a check is neither valid nor
qualified, and one that passes waits before it qualifies; an evaluation selects the one qualified reference of the best rank,
and with none left the part holds over or runs free; ACQUIRE becomes LOCKED, HOLDOVER becomes LOST; the loop opens at the
present frequency and closes; a slew step shortens the slew; a failed REFCLK moves the network lanes. -/
def Obligations.LastSelectsSlewsAndHolds : Prop :=
  (∀ (o : LastObs) (r : Nat) (s : State),
    s.flag F.LST_CTRL_FORCE_EN 0 = false →
    s.qualified = [r] →
    s.lstSel ≠ r →
    s.lstState ≠ lstOpen →
    s.flag F.LST_STATUS_SLEWING 0 = false →
    Completes (fun t => t.lstSel = r ∧ t.lstState = lstAcquire ∧ t.fld F.LST_STATUS_PICK 0 = 0 ∧ t.reg .LST_SWITCHES 0 = s.counted
      .LST_SWITCHES 0 1)
      (exec (.lastEvaluation o) s)) ∧
  (∀ (o : LastObs) (s : State),
    s.flag F.LST_CTRL_FORCE_EN 0 = false →
    s.qualified = [] →
    (s.lstState = lstAcquire ∨ s.lstState = lstLocked) →
    Completes (fun t => t.lstSel = 15 ∧ (t.lstState = lstHoldover ∨ t.lstState = lstFreerun) ∧ (t.lstState = lstFreerun → (t.reg
      .LST_FREQ 0).toNat = 0))
      (exec (.lastEvaluation o) s)) ∧
  (∀ (r : Fin 14) (fault : Fin 8) (s : State),
    s.refValid r = true →
    Completes (fun t => t.refValid r = false ∧ t.refQual r = false ∧ t.fld F.LST_REF_STAT_FAULT r = fault.val ∧ t.reg .LST_REF_LOSS
      r = s.counted .LST_REF_LOSS r 1)
      (exec (.refLossDetect r fault) s)) ∧
  (∀ (r : Fin 14) (s : State),
    s.fld F.LST_REF_CFG_RANK r ≠ 0 →
    s.refValid r = false →
    (12 ≤ r.val → s.tagGood r = true) →
    (6 ≤ r.val → r.val < 10 → s.servoLocked (r - 6) = true) →
    Completes (fun t => t.refValid r = true ∧ t.refQual r = s.refQual r ∧ t.fld F.LST_REF_STAT_WTR_LEFT r = (if s.lst.firstUsed then
      s.fld F.LST_REF_WTR_WTR r else s.fld F.LST_CFG_FIRST_QUAL 0) ∧ t.lst.firstUsed = true)
      (exec (.refValid r) s)) ∧
  (∀ (r : Fin 14) (s : State),
    s.refValid r = true →
    Completes (fun t => t.refQual r = true ∧ t.fld F.LST_REF_STAT_WTR_LEFT r = 0 ∧ t.refValid r = true)
      (exec (.refQualify r) s)) ∧
  (∀ (phase : Int) (s : State),
    s.flag F.LST_STATUS_SLEWING 0 = true →
    s.lst.pendSel = none →
    s.lst.slewEnd = false →
    s.slewStep < (signedOf 32 (s.reg .LST_SLEW_LEFT 0).toNat).natAbs →
    0 < signedOf 32 (s.reg .LST_SLEW_LEFT 0).toNat →
    Completes (fun t => signedOf 32 (t.reg .LST_SLEW_LEFT 0).toNat = signedOf 32 (s.reg .LST_SLEW_LEFT 0).toNat - s.slewStep ∧
      t.flag F.LST_STATUS_SLEWING 0 = true ∧ t.lstSel = s.lstSel)
      (exec (.slewStep phase) s)) ∧
  (∀ (phase : Int) (s : State),
    s.flag F.LST_STATUS_SLEWING 0 = true →
    s.lst.pendSel = none →
    (signedOf 32 (s.reg .LST_SLEW_LEFT 0).toNat).natAbs ≤ s.slewStep →
    Completes (fun t => t.flag F.LST_STATUS_SLEWING 0 = false ∧ (t.reg .LST_SLEW_LEFT 0).toNat = 0)
      (exec (.slewStep phase) s)) ∧
  (∀ (s : State),
    s.lstState = lstAcquire →
    Completes (fun t => t.lstState = lstLocked ∧ t.lst.histFrom = (if s.lst.histFrom = 0 then s.tick + 1 else s.lst.histFrom) ∧
      t.lst.fast = false ∧ t.lstSel = s.lstSel)
      (exec .lastLock s)) ∧
  (∀ (s : State),
    s.lstState = lstHoldover →
    Completes (fun t => t.lstState = lstLost ∧ t.reg .LST_FREQ 0 = s.reg .LST_FREQ 0)
      (exec .holdoverLost s)) ∧
  (∀ (src : Requester) (s : State),
    s.closedTo .LST_CTRL src = false →
    s.fld F.LST_CTRL_FORCE_REF 0 ≤ 13 →
    s.lstState ≠ lstOpen →
    Completes (fun t => t.lstState = lstOpen ∧ t.reg .LST_STEER 0 = s.reg .LST_FREQ 0 ∧ t.reg .LST_FREQ 0 = s.reg .LST_FREQ 0 ∧
      t.flag F.LST_CTRL_OPEN 0 = true)
      (exec (.loopOpen src) s)) ∧
  (∀ (src : Requester) (s : State),
    s.closedTo .LST_CTRL src = false →
    s.fld F.LST_CTRL_FORCE_REF 0 ≤ 13 →
    s.lstState = lstOpen →
    Completes (fun t => t.lstState = (if s.lstSel < 14 then lstAcquire else lstHoldover) ∧ t.flag F.LST_CTRL_OPEN 0 = false ∧ t.reg
      .LST_FREQ 0 = s.reg .LST_FREQ 0 ∧ t.lst.goal = none)
      (exec (.loopClose src) s)) ∧
  (∀ (src : Requester) (v : Word64) (s : State),
    s.closedTo .LST_STEER src = false →
    s.lstState = lstOpen →
    Completes (fun t => t.reg .LST_STEER 0 = s.stored .LST_STEER 0 v ∧ t.lst.goal = some v.toInt ∧ t.reg .LST_FREQ 0 = s.reg
      .LST_FREQ 0)
      (exec (.steerWrite src v) s)) ∧
  (∀ (src : Requester) (r : Fin 14) (w : Word32) (s : State),
    s.closedTo .LST_REF_CFG src = false →
    badRefCfg r (w.setWidth 64) = false →
    ¬ (6 ≤ r.val ∧ r.val < 10) →
    s.lstSel ≠ r.val →
    Completes (fun t => t.reg .LST_REF_CFG r = s.stored .LST_REF_CFG r (w.setWidth 64) ∧ t.refValid r = false ∧ (s.refValid r = true
      → t.reg .LST_REF_LOSS r = s.counted .LST_REF_LOSS r 1))
      (exec (.refCfgWrite src r w) s)) ∧
  (∀ (s : State),
    Completes (fun t => t.flag F.LST_STATUS_OSC_OK 0 = false ∧ t.lstState = (if s.lstState = lstHoldover then lstLost else
      s.lstState))
      (exec .oscHoldFail s)) ∧
  (∀ (synths : BitVec 5) (s : State),
    Completes (fun t => t.flag F.LST_STATUS_OSC_OK 0 = true ∧ t.lstState = s.lstState ∧ t.flag F.LST_STATUS_LANE_QUAL 0 =
      (synths.getLsbD 4 && [0, 1, 2, 3].all (fun k => !s.tbFeeds k || synths.getLsbD k)))
      (exec (.oscHoldReturn synths) s)) ∧
  (∀ (synths : BitVec 5) (s : State),
    synths.getLsbD 4 = false →
    Completes (fun t => t.flag F.LST_STATUS_LANE_QUAL 0 = false ∧ (∀ k : Fin 4, t.flag F.LST_TB_STAT_SYNTH k = synths.getLsbD k) ∧
      (∀ k : Fin 4, t.flag F.LST_TB_STAT_AUDIO k = synths.getLsbD k))
      (exec (.laneClockUnqual synths) s)) ∧
  (∀ (offset : Int) (s : State),
    s.lstState = lstLocked →
    s.flag F.LST_STATUS_SLEWING 0 = false →
    86400 * 32768 ≤ s.tick →
    s.lst.model = false →
    Completes (fun t => t.lst.ages = ((⟨(s.reg .INS_OPSEC 0).toNat / 3600, offset, s.lstSel⟩ : AgeRec) :: s.lst.ages).take 2160 ∧
      t.lst.model = decide (72 ≤ t.lst.ages.length))
      (exec (.ageingRecord offset) s)) ∧
  (∀ (s : State),
    s.lst.model = false →
    Completes (fun t => (t.reg .LST_AGE_PRED 0).toNat = 0 ∧ t.lst = s.lst ∧ t.flag F.LST_STATUS_AGE_WARN 0 = s.flag
      F.LST_STATUS_AGE_WARN 0)
      (exec .ageingReplan s)) ∧
  (∀ (s : State),
    s.lst.model = true →
    0 ≤ (s.signedFld F.LST_AGE_C0 0 + 365 * s.signedFld F.LST_AGE_C1 0) / 10 →
    (s.signedFld F.LST_AGE_C0 0 + 365 * s.signedFld F.LST_AGE_C1 0) / 10 < 2 ^ 31 →
    Completes (fun t => (t.reg .LST_AGE_PRED 0).toNat = ((s.signedFld F.LST_AGE_C0 0 + 365 * s.signedFld F.LST_AGE_C1 0) / 10).toNat
      ∧ (200000 < (s.signedFld F.LST_AGE_C0 0 + 365 * s.signedFld F.LST_AGE_C1 0) / 10 → t.flag F.LST_STATUS_AGE_WARN 0 = true))
      (exec .ageingReplan s)) ∧
  (∀ (b : Bool) (s : State),
    s.refclkNow = (if b then 1 else 0) →
    (if b then s.lst.badA else s.lst.badB) = false →
    Completes (fun t => t.refclkNow = (if b then 0 else 1) ∧ t.reg .WLT_NL_CLKMOVE 0 = s.counted .WLT_NL_CLKMOVE 0 1 ∧ (if b then
      t.lst.badB else t.lst.badA) = true)
      (exec (.refclkFail b) s)) ∧
  (∀ (b : Bool) (s : State),
    s.refclkNow = 2 →
    s.lst.badA = true →
    s.lst.badB = true →
    Completes (fun t => t.refclkNow = (if b then 1 else 0) ∧ t.reg .WLT_NL_CLKMOVE 0 = s.counted .WLT_NL_CLKMOVE 0 1)
      (exec (.refclkReturn b) s))

/-- Time bases and PTP (R442 to R445, R447 to R449, R457, R460, R462): a set starts a STOPPED time base at the time asked for, a
step moves a RUNNING one and is counted; a MODE write starts or ends the servo; a sample shows its offset and is counted, the
loop's output being a free value; samples that stop end in HOLDOVER; a port sends in its role's state, counted; an Announce
timeout is flagged; a Sync message of another clock than the parent is counted as unused; an edge within ALIGN_US clears
ALIGN_ERR. -/
def Obligations.TimeBasesServosAndPtp : Prop :=
  (∀ (src : Requester) (k : Fin 4) (s : State),
    s.closedTo .NTM_TB_ADJ src = false →
    s.fld F.NTM_TB_CFG_MODE k = 0 →
    (low32 (s.reg .NTM_TB_ADJ_NS k)).toNat ≤ 999999999 →
    (s.reg .NTM_TB_ADJ_SEC k).toNat < 2 ^ 48 →
    s.tbRunning k = false →
    Completes (fun t => t.tbNow k = ((s.reg .NTM_TB_ADJ_SEC k).toNat * 1000000000 + (low32 (s.reg .NTM_TB_ADJ_NS k)).toNat) * 65536
      ∧ t.tbRunning k = true ∧ t.resp = .OK ∧ t.reg .NTM_TB_STEPS k = s.reg .NTM_TB_STEPS k)
      (exec (.tbSet src k) s)) ∧
  (∀ (src : Requester) (k : Fin 4) (s : State),
    s.closedTo .NTM_TB_ADJ src = false →
    s.fld F.NTM_TB_CFG_MODE k = 0 →
    s.tbRunning k = true →
    Completes (fun t => t.tbNow k = ((s.tbNow k : Int) + signedOf 32 (low32 (s.reg .NTM_TB_ADJ_NS k)).toNat * 65536).toNat ∧
      t.tbRunning k = true ∧ t.reg .NTM_TB_STEPS k = s.counted .NTM_TB_STEPS k 1 ∧ t.resp = .OK)
      (exec (.tbStep src k) s)) ∧
  (∀ (src : Requester) (k : Fin 4) (s : State),
    s.closedTo .NTM_TB_ADJ src = false →
    s.fld F.NTM_TB_CFG_MODE k = 0 →
    s.tbRunning k = false →
    Completes (fun t => t = s.answer .NOT_READY)
      (exec (.tbStep src k) s)) ∧
  (∀ (src : Requester) (k : Fin 4) (w : Word32) (s : State),
    s.closedTo .NTM_TB_CFG src = false →
    F.NTM_TB_CFG_MODE.of (w.setWidth 64) = 2 →
    F.NTM_TB_CFG_ALIGN_US.of (w.setWidth 64) ≠ 0 →
    F.NTM_TB_CFG_ALIGN.on (w.setWidth 64) = false →
    s.fld F.NTM_TB_CFG_MODE k ≠ 2 →
    Completes (fun t => t.reg .NTM_TB_CFG k = s.stored .NTM_TB_CFG k (w.setWidth 64) ∧ t.srvState k = srvWait ∧ (t.servo k).locked =
      false ∧ (t.servo k).ramp = false)
      (exec (.tbModeWrite src k w) s)) ∧
  (∀ (src : Requester) (k : Fin 4) (w : Word32) (s : State),
    s.closedTo .NTM_TB_CFG src = false →
    F.NTM_TB_CFG_MODE.of (w.setWidth 64) = 3 →
    Completes (fun t => t = s.answer .BAD_ARG)
      (exec (.tbModeWrite src k w) s)) ∧
  (∀ (src : Requester) (k : Fin 4) (v : Word64) (s : State),
    s.closedTo .NTM_SRV_FEED src = false →
    s.fld F.NTM_TB_CFG_MODE k = 2 →
    s.srvState k = srvWait →
    s.flag F.NTM_CTRL_EN 0 = true →
    s.tbRunning k = true →
    v.toInt.natAbs ≤ s.fld F.NTM_SRV_CFG_STEP_NS k * 65536 →
    Completes (fun t => t.srvState k = srvAcquire ∧ t.reg .NTM_SRV_SAMPLES k = s.counted .NTM_SRV_SAMPLES k 1 ∧ t.rk k =
      ((s.free.toNat % 20001 : Nat) - 10000 : Int) ∧ t.tbNow k = s.tbNow k ∧ t.resp = .OK)
      (exec (.srvFeedWrite src k v) s)) ∧
  (∀ (k : Fin 4) (s : State),
    (s.srvState k = srvWait ∨ s.srvState k = srvAcquire ∨ s.srvState k = srvLocked) →
    Completes (fun t => t.srvState k = srvHoldover ∧ (s.flag F.NTM_SRV_STAT_SELECTED k = true → t.rk k = 0) ∧ t.refValid (6 + k) =
      false)
      (exec (.servoSamplesStop k) s)) ∧
  (∀ (src : Requester) (k : Fin 4) (p : Fin 32) (w : Word32) (s : State),
    s.closedTo .NTM_PORT_CFG src = false →
    F.NTM_PORT_CFG_STATE.of (w.setWidth 64) ≤ 4 →
    s.flag F.NPT_PORT_STAT_EXISTS p = true →
    s.badPtpState k p (F.NTM_PORT_CFG_STATE.of (w.setWidth 64)) = false →
    Completes (fun t => t.reg .NTM_PORT_CFG (32 * k + p) = s.stored .NTM_PORT_CFG (32 * k + p) (w.setWidth 64))
      (exec (.ptpPortStateWrite src k p w) s)) ∧
  (∀ (src : Requester) (k : Fin 4) (p : Fin 32) (w : Word32) (s : State),
    s.closedTo .NTM_PORT_CFG src = false →
    (4 < F.NTM_PORT_CFG_STATE.of (w.setWidth 64) ∨ s.flag F.NPT_PORT_STAT_EXISTS p = false) →
    Completes (fun t => t = s.answer .BAD_ARG)
      (exec (.ptpPortStateWrite src k p w) s)) ∧
  (∀ (k : Fin 4) (p : Fin 32) (s : State),
    s.instOn k = true →
    s.ptpState k p = 2 →
    Completes (fun t => (t.netPort p).ptpq = (s.netPort p).ptpq ++ [⟨k, .announce, none, false⟩] ∧ t.reg .NTM_PORT_TXMSG (32 * k +
      p) = s.counted .NTM_PORT_TXMSG (32 * k + p) 1)
      (exec (.ptpAnnounceSend k p) s)) ∧
  (∀ (k : Fin 4) (p : Fin 32) (s : State),
    s.instOn k = true →
    s.ptpState k p = 2 →
    s.flag F.NTM_INST_CFG_ONE_STEP k = true →
    Completes (fun t => (t.netPort p).ptpq = (s.netPort p).ptpq ++ [⟨k, .sync, none, true⟩] ∧ t.reg .NTM_PORT_TXMSG (32 * k + p) =
      s.counted .NTM_PORT_TXMSG (32 * k + p) 1)
      (exec (.ptpSyncSend k p) s)) ∧
  (∀ (k : Fin 4) (p : Fin 32) (s : State),
    s.instOn k = true →
    s.ptpState k p = 2 →
    s.flag F.NTM_INST_CFG_ONE_STEP k = false →
    Completes (fun t => (t.netPort p).ptpq = (s.netPort p).ptpq ++ [⟨k, .sync, none, false⟩, ⟨k, .followUp, none, false⟩])
      (exec (.ptpSyncSend k p) s)) ∧
  (∀ (k : Fin 4) (p : Fin 32) (tx : FineTime) (s : State),
    s.instOn k = true →
    s.ptpState k p = 4 →
    s.flag F.NTM_INST_CFG_P2P k = false →
    Completes (fun t => (t.netPort p).ptpq = (s.netPort p).ptpq ++ [⟨k, .delayReq, none, false⟩] ∧ (t.ptpPort k p).req = some
      ((s.ptpPort k p).sent % 65536, ((tx : Int) + s.delayOf .NTM_PHY_TXLAT p).toNat) ∧ (t.ptpPort k p).sent = (s.ptpPort k p).sent
      + 1)
      (exec (.ptpDelayReqSend k p tx) s)) ∧
  (∀ (k : Fin 4) (p : Fin 32) (tx : FineTime) (s : State),
    s.instOn k = true →
    s.ptpState k p ≠ 0 →
    s.flag F.NTM_INST_CFG_P2P k = true →
    Completes (fun t => (t.netPort p).ptpq = (s.netPort p).ptpq ++ [⟨k, .pdelayReq, none, false⟩] ∧ (t.ptpPort k p).req = some
      ((s.ptpPort k p).sent % 65536, ((tx : Int) + s.delayOf .NTM_PHY_TXLAT p).toNat))
      (exec (.ptpPdelayReqSend k p tx) s)) ∧
  (∀ (k : Fin 4) (p : Fin 32) (s : State),
    s.instOn k = true →
    s.ptpState k p = 4 →
    Completes (fun t => t.flag F.NTM_PORT_STAT_ANN_TIMEOUT (32 * k + p) = true ∧ (s.fld F.NTM_TB_CFG_MODE k = 1 → s.srvState k =
      srvLocked → t.srvState k = srvHoldover))
      (exec (.announceTimeout k p) s)) ∧
  (∀ (p : Fin 32) (m : PtpMsg) (f : RxFrame) (k : Nat) (s : State),
    s.linkUp p = true →
    s.portState p ≠ portWakeOnly →
    f.fcsOk = true →
    64 ≤ f.len →
    f.len ≤ s.fld F.NPT_PORT_CFG_MTU p →
    f.vlan = none →
    f.dest ≠ .other →
    f.badSum = false →
    s.ptpInst p m = some k →
    s.fld F.NTM_INST_CFG_ROLE k < 2 →
    s.ptpState k p = 4 →
    m.kind = .sync →
    s.fromParent k p m = false →
    Completes (fun t => t.reg .NTM_PORT_RXMSG (32 * k + p) = s.counted .NTM_PORT_RXMSG (32 * k + p) 1 ∧ t.ntm = s.ntm ∧ t.reg
      .NPT_RX_FRAMES p = s.counted .NPT_RX_FRAMES p 1)
      (exec (.ptpMessageReceive p m f) s)) ∧
  (∀ (k : Fin 4) (s : State),
    s.flag F.NTM_TB_CFG_ALIGN k = true →
    s.tbRunning k = true →
    s.fld F.NTM_TB_CFG_ALIGN_SRC k < 4 →
    (nearest (s.tbNow k) (s.tbNow k / fineSecond * fineSecond) ((s.tbNow k / fineSecond + 1) * fineSecond)).natAbs ≤ s.fld
      F.NTM_TB_CFG_ALIGN_US k * 1000 →
    Completes (fun t => t.flag F.NTM_TB_STAT_ALIGN_ERR k = false ∧ (t.servo k).edges = 0 ∧ t.reg .NTM_TB_ALIGN_OFF k = BitVec.ofNat
      64 (unsignedOf 32 (clampSigned 32 (nearest (s.tbNow k) (s.tbNow k / fineSecond * fineSecond) ((s.tbNow k / fineSecond + 1) *
      fineSecond)))) ∧ t.tb = s.tb)
      (exec (.alignEdge k) s))

/-- Triggers and captures (R463 to R465, R467 to R469, R471): arming a trigger ahead of its time makes it ARMED with COUNT
instants left; a firing drives its GPIO as ACTION says and passes one instant; a pulse ends at the idle level; a drained or
killed trigger is IDLE once no pulse runs; an edge enters the FIFO with the time of its time base, and is lost and counted
when 16 wait; a read gives the oldest and removes it; a disable disarms every trigger. -/
def Obligations.TriggersCapturesAndTheirStop : Prop :=
  (∀ (src : Requester) (t0 : Fin 64) (w : Word32) (v : Word) (s : State),
    v = F.NTM_TRG_CFG_ARM.put 1 (w.setWidth 64) →
    s.closedTo .NTM_TRG_CFG src = false →
    F.NTM_TRG_CFG_LATE.of v ≠ 3 →
    F.NTM_TRG_CFG_ACTION.of v ≤ 4 →
    s.trgState t0 = trgIdle →
    s.flag F.NTM_CTRL_EN 0 = true →
    s.tbRunning (F.NTM_TRG_CFG_TB.of v) = true →
    s.gpioDriven t0 (F.NTM_TRG_CFG_GPIO.of v) = false →
    s.tbNow (F.NTM_TRG_CFG_TB.of v) + 100 * 65536 < (s.reg .NTM_TRG_T t0).toNat * 65536 →
    Completes (fun t => t.reg .NTM_TRG_CFG t0 = s.stored .NTM_TRG_CFG t0 v ∧ t.trgState t0 = trgArmed ∧ t.fld F.NTM_TRG_STAT_LEFT t0
      = F.NTM_TRG_CFG_COUNT.of v ∧ t.trg t0 = ⟨0, false⟩ ∧ t.flag F.NTM_TRG_STAT_LATE_LAST t0 = false)
      (exec (.triggerArm src t0 w) s)) ∧
  (∀ (t0 : Fin 64) (s : State),
    s.trgState t0 = trgArmed →
    s.fld F.NTM_TRG_CFG_ACTION t0 = 1 →
    s.fld F.NTM_TRG_PNUM_PNUM t0 = 0 →
    (s.trg t0).pulse = false →
    Completes (fun t => t.gpioLevel (s.fld F.NTM_TRG_CFG_GPIO t0) = true ∧ t.trgState t0 = trgIdle ∧ t.flag F.NTM_TRG_CFG_ARM t0 =
      false ∧ (t.trg t0).next = (s.trg t0).next + 1)
      (exec (.triggerFire t0) s)) ∧
  (∀ (t0 : Fin 64) (s : State),
    s.trgState t0 = trgArmed →
    s.fld F.NTM_TRG_CFG_ACTION t0 = 3 →
    s.fld F.NTM_TRG_PNUM_PNUM t0 ≠ 0 →
    s.fld F.NTM_TRG_CFG_COUNT t0 = 0 →
    Completes (fun t => t.gpioLevel (s.fld F.NTM_TRG_CFG_GPIO t0) = !s.gpioLevel (s.fld F.NTM_TRG_CFG_GPIO t0) ∧ t.trgState t0 =
      trgArmed ∧ (t.trg t0).next = (s.trg t0).next + 1)
      (exec (.triggerFire t0) s)) ∧
  (∀ (t0 : Fin 64) (s : State),
    (s.trg t0).pulse = true →
    Completes (fun t => (t.trg t0).pulse = false ∧ t.gpioLevel (s.fld F.NTM_TRG_CFG_GPIO t0) = s.flag F.NTM_TRG_CFG_POL t0 ∧
      t.trgState t0 = (if s.trgState t0 = trgDraining then trgIdle else s.trgState t0))
      (exec (.triggerPulseEnd t0) s)) ∧
  (∀ (src : Requester) (t0 : Fin 64) (s : State),
    s.closedTo .NTM_TRG_CFG src = false →
    F.NTM_TRG_CFG_LATE.of (s.reg .NTM_TRG_CFG t0) ≠ 3 →
    F.NTM_TRG_CFG_ACTION.of (s.reg .NTM_TRG_CFG t0) ≤ 4 →
    F.NTM_TRG_CFG_KILL.on (s.reg .NTM_TRG_CFG t0) = false →
    s.trgState t0 ≠ trgIdle →
    Completes (fun t => t.trgState t0 = (if (s.trg t0).pulse then trgDraining else trgIdle) ∧ t.flag F.NTM_TRG_CFG_ARM t0 = false ∧
      t.ntm = s.ntm ∧ t.resp = .OK)
      (exec (.triggerDrain src t0) s)) ∧
  (∀ (src : Requester) (t0 : Fin 64) (s : State),
    s.closedTo .NTM_TRG_CFG src = false →
    F.NTM_TRG_CFG_LATE.of (s.reg .NTM_TRG_CFG t0) ≠ 3 →
    F.NTM_TRG_CFG_ACTION.of (s.reg .NTM_TRG_CFG t0) ≤ 4 →
    s.trgState t0 ≠ trgIdle →
    Completes (fun t => t.trgState t0 = trgIdle ∧ (t.trg t0).pulse = false ∧ ((s.trg t0).pulse = true → t.gpioLevel (s.fld
      F.NTM_TRG_CFG_GPIO t0) = s.flag F.NTM_TRG_CFG_POL t0) ∧ t.resp = .OK)
      (exec (.triggerKill src t0) s)) ∧
  (∀ (c : Fin 64) (rising : Bool) (s : State),
    s.flag F.NTM_CAP_CFG_EN c = true →
    s.flag F.NTM_CTRL_EN 0 = true →
    s.fld F.NTM_CAP_CFG_EDGE c = 3 →
    (s.cap c).fifo.length < 16 →
    Completes (fun t => (t.cap c).fifo = (s.cap c).fifo ++ [⟨s.tbNow (s.fld F.NTM_CAP_CFG_TB c), rising, (s.cap c).stepped⟩] ∧
      (t.cap c).stepped = false ∧ t.fld F.NTM_CAP_STAT_FILL c = (s.cap c).fifo.length + 1)
      (exec (.captureEdge c rising) s)) ∧
  (∀ (c : Fin 64) (rising : Bool) (s : State),
    s.flag F.NTM_CAP_CFG_EN c = true →
    s.flag F.NTM_CTRL_EN 0 = true →
    s.fld F.NTM_CAP_CFG_EDGE c = 3 →
    16 ≤ (s.cap c).fifo.length →
    Completes (fun t => t.ntm = s.ntm ∧ t.reg .NTM_CAP_OVF c = s.counted .NTM_CAP_OVF c 1)
      (exec (.captureEdge c rising) s)) ∧
  (∀ (c : Fin 64) (e : CapEntry) (r : List CapEntry) (s : State),
    (s.cap c).fifo = e :: r →
    Completes (fun t => (t.cap c).fifo = r ∧ t.rdata = BitVec.ofNat 64 ((if e.rising then 2 ^ 31 else 0) + (if e.stepped then 2 ^ 30
      else 0) + e.time / 65536 % 1000000000) ∧ (t.reg .NTM_CAP_HI c).toNat = (e.time / fineSecond % 2 ^ 48 * 65536 + e.time % 65536)
      % 2 ^ 64)
      (exec (.captureRead c) s)) ∧
  (∀ (src : Requester) (s : State),
    s.closedTo .NTM_CTRL src = false →
    F.NTM_CTRL_KILL.on (s.reg .NTM_CTRL 0) = false →
    Completes (fun t => t.flag F.NTM_CTRL_EN 0 = false ∧ t.flag F.NTM_STATUS_RUN 0 = false ∧ (∀ u : Fin 64, t.trgState u = (if
      s.trgState u = trgIdle then trgIdle else if (s.trg u).pulse then trgDraining else trgIdle)) ∧ (s.srvState 1 = srvLocked →
      t.srvState 1 = srvHoldover))
      (exec (.ntmDisable src) s))

/-- Lanes (R479 to R485, R498): a declared loss of lock is counted and told, and takes a video lane's lock or a network lane's
link; an eye is recorded, three low ones in a row set EYE_LOW; taps above the sum of 63, or that the lane does not have,
answer BAD_ARG, and a Lace lane's are read-only; a network lane's RECAL starts and each step moves one step of the equaliser
while the eye grows, first up, then down, a video lane's phase moves by 1/64 UI toward the centre; RECAL of a Lace lane takes
it out of an UP link of four lanes, BUSY without four; RETRAIN restarts a lane's adaptation, REFUSED_POLICY on a Lace lane; a
pattern above 3 answers BAD_ARG and a lane whose owner has it enabled BUSY. -/
def Obligations.LaneLocksEyesEqualisersAndPatterns : Prop :=
  (∀ (ix : Fin 224) (s : State),
    160 ≤ ix.val →
    Completes (fun t => t.reg .WLT_LANE_LOL ix = s.counted .WLT_LANE_LOL ix 1 ∧ bit Irq.WLT_LANE_LOL.bit (t.reg .WLT_INT_STAT 0) =
      true ∧ t.fld ⟨.WLT_LK_SRC, linkOfLane ix, 1⟩ 0 = 1 ∧ t.reg .WLT_LK_STAT (linkOfLane ix) = s.reg .WLT_LK_STAT (linkOfLane ix))
      (exec (.laneLossOfLock ix) s)) ∧
  (∀ (ix : Fin 224) (s : State),
    ix.val < 128 →
    (s.input ix).lock = true →
    Completes (fun t => t.reg .WLT_LANE_LOL ix = s.counted .WLT_LANE_LOL ix 1 ∧ (t.input ix).lock = false)
      (exec (.laneLossOfLock ix) s)) ∧
  (∀ (ix : Fin 224) (s : State),
    128 ≤ ix.val →
    ix.val < 160 →
    s.linkUp (s.portOfLane (ix - 128)) = true →
    Completes (fun t => t.reg .WLT_LANE_LOL ix = s.counted .WLT_LANE_LOL ix 1 ∧ t.linkUp (s.portOfLane (ix - 128)) = false ∧ t.reg
      .NPT_LINK_DOWNS (s.portOfLane (ix - 128)) = s.counted .NPT_LINK_DOWNS (s.portOfLane (ix - 128)) 1)
      (exec (.laneLossOfLock ix) s)) ∧
  (∀ (ix : Fin 224) (o : EyeObs) (s : State),
    s.laneState ix = 0 →
    Completes (fun t => t = s)
      (exec (.eyeMeasure ix o) s)) ∧
  (∀ (ix : Fin 224) (o : EyeObs) (s : State),
    s.laneState ix ≠ 0 →
    s.eyeBelow ix o.v o.h = false →
    Completes (fun t => t.fld F.WLT_LANE_EYE_V ix = o.v % 2 ^ F.WLT_LANE_EYE_V.len ∧ t.fld F.WLT_LANE_EYE_H ix = o.h % 2 ^
      F.WLT_LANE_EYE_H.len ∧ (t.lane ix).lows = 0)
      (exec (.eyeMeasure ix o) s)) ∧
  (∀ (ix : Fin 224) (o : EyeObs) (s : State),
    s.laneState ix ≠ 0 →
    s.eyeBelow ix o.v o.h = true →
    2 ≤ (s.lane ix).lows →
    s.flag F.WLT_LANE_CFG_RECAL_AUTO ix = false →
    Completes (fun t => t.fld F.WLT_LANE_EYE_V ix = o.v % 2 ^ F.WLT_LANE_EYE_V.len ∧ (t.lane ix).lows = 3 ∧ bit Irq.WLT_EYE_LOW.bit
      (t.reg .WLT_INT_STAT 0) = true)
      (exec (.eyeMeasure ix o) s)) ∧
  (∀ (src : Requester) (ix : Fin 224) (s : State),
    s.closedTo .WLT_LANE_CTRL src = false →
    ix.val < 160 →
    Completes (fun t => t.lane ix = { s.lane ix with recal := true, upDone := false, downDone := false } ∧ t.resp = .OK ∧ t.regs =
      s.regs)
      (exec (.laneRecal src ix) s)) ∧
  (∀ (src : Requester) (ix : Fin 224) (s : State),
    s.closedTo .WLT_LANE_CTRL src = false →
    160 ≤ ix.val →
    s.fld F.WLT_LK_STAT_LANE_MASK (linkOfLane ix) ≠ 15 →
    Completes (fun t => t = s.answer .BUSY)
      (exec (.laneRecal src ix) s)) ∧
  (∀ (ix : Fin 224) (offset : Int) (larger : Bool) (s : State),
    (s.lane ix).recal = true →
    ix.val < 128 →
    0 < offset →
    Completes (fun t => t.lane ix = { s.lane ix with phase := (s.lane ix).phase + 1 } ∧ t.regs = s.regs)
      (exec (.laneRecalStep ix offset larger) s)) ∧
  (∀ (ix : Fin 224) (offset : Int) (larger : Bool) (s : State),
    (s.lane ix).recal = true →
    128 ≤ ix.val →
    s.flag F.WLT_LANE_CFG_CTLE_AUTO ix = true →
    (s.lane ix).upDone = false →
    larger = true →
    (s.lane ix).ctle < 48 →
    Completes (fun t => t.lane ix = { s.lane ix with ctle := (s.lane ix).ctle + 1 })
      (exec (.laneRecalStep ix offset larger) s)) ∧
  (∀ (ix : Fin 224) (offset : Int) (larger : Bool) (s : State),
    (s.lane ix).recal = true →
    128 ≤ ix.val →
    s.flag F.WLT_LANE_CFG_CTLE_AUTO ix = true →
    (s.lane ix).upDone = true →
    larger = false →
    Completes (fun t => (t.lane ix).recal = false ∧ (t.lane ix).ctle = (s.lane ix).ctle)
      (exec (.laneRecalStep ix offset larger) s)) ∧
  (∀ (src : Requester) (ix : Fin 224) (s : State),
    s.closedTo .WLT_LANE_CTRL src = false →
    160 ≤ ix.val →
    Completes (fun t => t = s.answer .REFUSED_POLICY)
      (exec (.laneRetrain src ix) s)) ∧
  (∀ (src : Requester) (ix : Fin 224) (s : State),
    s.closedTo .WLT_LANE_CTRL src = false →
    128 ≤ ix.val →
    ix.val < 160 →
    Completes (fun t => t.lane ix = { s.lane ix with ctle := 0, recal := false } ∧ t.linkUp (s.portOfLane (ix - 128)) = false ∧
      t.resp = .OK)
      (exec (.laneRetrain src ix) s)) ∧
  (∀ (src : Requester) (ix : Fin 224) (s : State),
    s.closedTo .WLT_LANE_CTRL src = false →
    s.videoRx ix = true →
    (s.input ix).lock = true →
    ix.val < 128 →
    Completes (fun t => t.lane ix = { s.lane ix with ctle := 0, recal := false } ∧ (t.input ix).lock = false ∧ t.reg .WLT_LANE_LOL
      ix = s.counted .WLT_LANE_LOL ix 1)
      (exec (.laneRetrain src ix) s)) ∧
  (∀ (src : Requester) (ix : Fin 224) (w : Word32) (s : State),
    ix.val < 160 →
    s.closedTo .WLT_LANE_TXEQ src = false →
    s.badTxeq ix (w.setWidth 64) = false →
    Completes (fun t => t.reg .WLT_LANE_TXEQ ix = s.stored .WLT_LANE_TXEQ ix (w.setWidth 64) ∧ t.resp = .OK)
      (exec (.txeqWrite src ix w) s)) ∧
  (∀ (src : Requester) (ix : Fin 224) (w : Word32) (s : State),
    ix.val < 160 →
    s.closedTo .WLT_LANE_TXEQ src = false →
    63 < tapMag (F.WLT_LANE_TXEQ_CM3.of (w.setWidth 64)) + tapMag (F.WLT_LANE_TXEQ_CM2.of (w.setWidth 64)) +
      tapMag (F.WLT_LANE_TXEQ_CM1.of (w.setWidth 64)) + tapMag (F.WLT_LANE_TXEQ_C0.of (w.setWidth 64)) + tapMag
        (F.WLT_LANE_TXEQ_CP1.of (w.setWidth 64)) →
    Completes (fun t => t = s.answer .BAD_ARG)
      (exec (.txeqWrite src ix w) s)) ∧
  (∀ (src : Requester) (ix : Fin 224) (w : Word32) (s : State),
    160 ≤ ix.val →
    Completes (fun t => t = s.answer .OK)
      (exec (.txeqWrite src ix w) s)) ∧
  (∀ (src : Requester) (ix : Fin 224) (w : Word32) (s : State),
    s.closedTo .WLT_LANE_PRBS src = false →
    F.WLT_LANE_PRBS_PATTERN.of (w.setWidth 64) ≤ 3 →
    s.prbsFree ix = true →
    Completes (fun t => t.reg .WLT_LANE_PRBS ix = s.stored .WLT_LANE_PRBS ix (w.setWidth 64) ∧ t.resp = .OK)
      (exec (.prbsWrite src ix w) s)) ∧
  (∀ (src : Requester) (ix : Fin 224) (w : Word32) (s : State),
    s.closedTo .WLT_LANE_PRBS src = false →
    F.WLT_LANE_PRBS_PATTERN.of (w.setWidth 64) ≤ 3 →
    F.WLT_LANE_PRBS_GEN.on (w.setWidth 64) = true →
    ix.val < 160 →
    s.laneOwned ix = true →
    Completes (fun t => t = s.answer .BUSY)
      (exec (.prbsWrite src ix w) s)) ∧
  (∀ (src : Requester) (ix : Fin 224) (w : Word32) (s : State),
    s.closedTo .WLT_LANE_PRBS src = false →
    3 < F.WLT_LANE_PRBS_PATTERN.of (w.setWidth 64) →
    Completes (fun t => t = s.answer .BAD_ARG)
      (exec (.prbsWrite src ix w) s))

/-- Lace links (R113, R118, R121, R487 to R497): enabling a DOWN link starts IDENT at code 1; an exchange that agrees shows the
peer and takes the first step at 10.3125 Gbit/s, one with this part's own identifier stops the link; a step is trained, then
qualified: three lanes or more at the agreed rate bring the link UP with their capacity, at a lower rate the next step
follows, fewer than three repeat the step up to three attempts; a lane of four that is lost degrades the link, a further one
takes it DOWN and is told; a dropped lane that qualifies is re-added; a disabled link drains, then is DOWN; a killed one is
DOWN at once. -/
def Obligations.LaceLinksComeUpDegradeAndFall : Prop :=
  (∀ (src : Requester) (k : Fin 16) (w : Word32) (s : State),
    s.closedTo .WLT_LK_CFG src = false →
    s.lkState k = lkDown →
    badLkCfg (F.WLT_LK_CFG_ENABLE.put 1 (w.setWidth 64)) = false →
    s.domainFailed (6 + k.val / 4) = false →
    Completes (fun t => t.reg .WLT_LK_CFG k = s.stored .WLT_LK_CFG k (F.WLT_LK_CFG_ENABLE.put 1 (w.setWidth 64)) ∧ t.lkState k =
      lkIdent ∧ t.fld F.WLT_LK_STAT_RATE k = 1 ∧ t.resp = .OK)
      (exec (.laceLinkEnable src k w) s)) ∧
  (∀ (src : Requester) (k : Fin 16) (w : Word32) (s : State),
    s.closedTo .WLT_LK_CFG src = false →
    s.lkState k ≠ lkDraining →
    badLkCfg (F.WLT_LK_CFG_ENABLE.put 1 (w.setWidth 64)) = true →
    Completes (fun t => t = s.answer .BAD_ARG)
      (exec (.laceLinkEnable src k w) s)) ∧
  (∀ (src : Requester) (k : Fin 16) (w : Word32) (s : State),
    s.closedTo .WLT_LK_CFG src = false →
    s.lkState k = lkDraining →
    F.WLT_LK_CFG_KILL.on (F.WLT_LK_CFG_ENABLE.put 1 (w.setWidth 64)) = false →
    Completes (fun t => t = s.answer .DRAINING)
      (exec (.laceLinkEnable src k w) s)) ∧
  (∀ (k : Fin 16) (o : IdentObs) (s : State),
    s.lkState k = lkIdent →
    3 ≤ maskLanes o.commas.toNat →
    o.agreed = true →
    s.identConflict o = 0 →
    Completes (fun t => t.lkState k = lkStep ∧ t.fld F.WLT_LK_PEER_STRAP k = o.strap % 2 ^ F.WLT_LK_PEER_STRAP.len ∧ t.fld
      F.TWL_LK_STAT_PEER k = o.domain % 2 ^ F.TWL_LK_STAT_PEER.len ∧ (t.link k).agreed = min (s.fld F.WLT_LK_CFG_MAX_RATE k)
      o.maxRate ∧ (t.link k).peer = o.domain ∧ ((t.link k).target = 2 ∨ (t.link k).target = (t.link k).agreed) ∧ t.fld
      F.WLT_LK_STAT_ATTEMPT k = 1)
      (exec (.laceIdentityReceive k o) s)) ∧
  (∀ (k : Fin 16) (o : IdentObs) (s : State),
    s.lkState k = lkIdent →
    3 ≤ maskLanes o.commas.toNat →
    o.agreed = true →
    o.domain = s.domainId →
    Completes (fun t => t.lkState k = lkStopped ∧ t.fld F.WLT_LK_STAT_REASON k = 4 ∧ bit Irq.WLT_LK_STOPPED.bit (t.reg .WLT_INT_STAT
      0) = true)
      (exec (.laceIdentityReceive k o) s)) ∧
  (∀ (k : Fin 16) (s : State),
    (s.lkState k = lkIdent ∨ s.lkState k = lkStopped) →
    Completes (fun t => t.lkState k = lkIdent ∧ t.fld F.WLT_LK_STAT_REASON k = 7 ∧ t.reg .WLT_LK_CFG k = s.reg .WLT_LK_CFG k)
      (exec (.laceIdentTimeout k) s)) ∧
  (∀ (k : Fin 16) (s : State),
    s.flag F.WLT_LK_CFG_ENABLE k = true →
    s.lkState k = lkDown →
    Completes (fun t => t.lkState k = lkIdent ∧ t.fld F.WLT_LK_STAT_RATE k = 1 ∧ t.sent = .laceIdentity k :: s.sent)
      (exec (.laceRetry k) s)) ∧
  (∀ (k : Fin 16) (s : State),
    s.lkState k = lkStep →
    (s.link k).target < 8 →
    Completes (fun t => t.lkState k = lkTrain ∧ t.fld F.WLT_LK_STAT_RATE k = (s.link k).target)
      (exec (.laceRateStep k) s)) ∧
  (∀ (k : Fin 16) (lanes : List LaneTrain) (s : State),
    s.lkState k = lkTrain →
    Completes (fun t => t.lkState k = lkQual ∧ Tbl.get (fun _ => []) (t.link k).trained (s.link k).target = lanes)
      (exec (.laceTrainDone k lanes) s)) ∧
  (∀ (k : Fin 16) (qs : List LaneQual) (recId : Nat) (s : State),
    s.lkState k = lkQual →
    3 ≤ maskLanes (s.qualMask (s.link k).target qs) →
    ((s.link k).fallen = true ∨ (s.link k).agreed ≤ (s.link k).target) →
    (s.link k).target < 8 →
    Completes (fun t => t.lkState k = lkUp ∧ t.fld F.WLT_LK_STAT_LANE_MASK k = s.qualMask (s.link k).target qs % 16 ∧ t.fld
      F.TWL_LK_STAT_LANES k = maskLanes (s.qualMask (s.link k).target qs) ∧ t.flag F.WLT_LK_STAT_BELOW_MAX k = decide ((s.link
      k).target < (s.link k).agreed) ∧ bit Irq.WLT_LK_UP.bit (t.reg .WLT_INT_STAT 0) = true)
      (exec (.laceQualEnd k qs recId) s)) ∧
  (∀ (k : Fin 16) (qs : List LaneQual) (recId : Nat) (s : State),
    s.lkState k = lkQual →
    3 ≤ maskLanes (s.qualMask (s.link k).target qs) →
    (s.link k).fallen = false →
    (s.link k).target < (s.link k).agreed →
    Completes (fun t => t.lkState k = lkStep ∧ (t.link k).target = (s.link k).target + 1 ∧ t.fld F.WLT_LK_STAT_ATTEMPT k = 1)
      (exec (.laceQualEnd k qs recId) s)) ∧
  (∀ (k : Fin 16) (qs : List LaneQual) (recId : Nat) (s : State),
    s.lkState k = lkQual →
    maskLanes (s.qualMask (s.link k).target qs) < 3 →
    (s.link k).fast = false →
    s.fld F.WLT_LK_STAT_ATTEMPT k < 3 →
    Completes (fun t => t.lkState k = lkStep ∧ (t.link k).target = (s.link k).target ∧ t.fld F.WLT_LK_STAT_ATTEMPT k = s.fld
      F.WLT_LK_STAT_ATTEMPT k + 1)
      (exec (.laceQualEnd k qs recId) s)) ∧
  (∀ (k : Fin 16) (qs : List LaneQual) (recId : Nat) (s : State),
    s.lkState k = lkQual →
    maskLanes (s.qualMask (s.link k).target qs) < 3 →
    (s.link k).fast = false →
    s.fld F.WLT_LK_STAT_ATTEMPT k = 3 →
    (s.link k).target ≤ 2 →
    Completes (fun t => t.lkState k = lkDown ∧ t.fld F.WLT_LK_STAT_REASON k = 6 ∧ t.reg .WLT_LK_DOWNS k = s.counted .WLT_LK_DOWNS k
      1)
      (exec (.laceQualEnd k qs recId) s)) ∧
  (∀ (src : Requester) (k : Fin 16) (s : State),
    s.closedTo .WLT_LK_CFG src = false →
    (s.lkState k = lkUp ∨ s.lkState k = lkHold) →
    badLkCfg (F.WLT_LK_CFG_ENABLE.put 0 (s.reg .WLT_LK_CFG k)) = false →
    s.flag F.WLT_LK_CFG_KILL k = false →
    Completes (fun t => t.lkState k = lkDraining ∧ t.resp = .OK)
      (exec (.laceLinkDisable src k) s)) ∧
  (∀ (k : Fin 16) (s : State),
    s.lkState k = lkDraining →
    Completes (fun t => t.lkState k = lkDown ∧ t.fld F.WLT_LK_STAT_REASON k = 2 ∧ t.reg .TWL_LK_STAT k = 0 ∧ t.reg .WLT_LK_DOWNS k =
      s.counted .WLT_LK_DOWNS k 1)
      (exec (.laceDrainDone k) s)) ∧
  (∀ (src : Requester) (k : Fin 16) (s : State),
    s.closedTo .WLT_LK_CFG src = false →
    s.lkState k ≠ lkDown →
    badLkCfg (F.WLT_LK_CFG_KILL.put 1 (F.WLT_LK_CFG_ENABLE.put 0 (s.reg .WLT_LK_CFG k))) = false →
    Completes (fun t => t.lkState k = lkDown ∧ t.fld F.WLT_LK_STAT_REASON k = 3 ∧ t.reg .TWL_LK_STAT k = 0 ∧ t.resp = .OK)
      (exec (.laceLinkKill src k) s)) ∧
  (∀ (k : Fin 16) (j : Fin 4) (resent : Nat) (s : State),
    (s.lkState k = lkUp ∨ s.lkState k = lkDraining) →
    s.fld F.WLT_LK_STAT_LANE_MASK k = 15 →
    Completes (fun t => t.fld F.WLT_LK_STAT_LANE_MASK k = 15 - 2 ^ j.val ∧ t.fld F.TWL_LK_STAT_LANES k = 3 ∧ t.fld F.TWL_LK_STAT_CAP
      k = linkCapacity (s.fld F.TWL_LK_STAT_RATE k) 3 % 2 ^ F.TWL_LK_STAT_CAP.len ∧ t.lkState k = s.lkState k ∧ (t.link k).dropped =
      some j.val ∧ t.reg .WLT_LK_DEGRADES k = s.counted .WLT_LK_DEGRADES k 1 ∧ t.reg .WLT_LK_REPLAY k = s.counted .WLT_LK_REPLAY k
      resent)
      (exec (.laceLaneFail k j resent) s)) ∧
  (∀ (k : Fin 16) (j : Fin 4) (resent : Nat) (s : State),
    s.lkState k = lkUp →
    s.fld F.WLT_LK_STAT_LANE_MASK k ≠ 15 →
    laneInMask (s.fld F.WLT_LK_STAT_LANE_MASK k) j = true →
    Completes (fun t => t.lkState k = lkDown ∧ t.fld F.WLT_LK_STAT_REASON k = 1 ∧ bit Irq.WLT_LK_DOWN.bit (t.reg .WLT_INT_STAT 0) =
      true)
      (exec (.laceLaneFail k j resent) s)) ∧
  (∀ (k : Fin 16) (j : Fin 4) (s : State),
    s.lkState k = lkUp →
    s.fld F.WLT_LK_STAT_LANE_MASK k ≠ 15 →
    laneInMask (s.fld F.WLT_LK_STAT_LANE_MASK k) j = true →
    Completes (fun t => t.lkState k = lkDown ∧ t.fld F.WLT_LK_STAT_REASON k = 1 ∧ t.reg .TWL_LK_STAT k = 0 ∧ t.reg .WLT_LK_DOWNS k =
      s.counted .WLT_LK_DOWNS k 1)
      (exec (.laceSecondLaneLost k j) s)) ∧
  (∀ (k : Fin 16) (s : State),
    (s.lkState k = lkStep ∨ s.lkState k = lkTrain ∨ s.lkState k = lkQual ∨ s.lkState k = lkUp ∨ s.lkState k = lkDraining) →
    Completes (fun t => t.lkState k = lkDown ∧ t.fld F.WLT_LK_STAT_REASON k = 8 ∧ t.reg .TWL_LK_STAT k = 0 ∧ bit Irq.WLT_LK_DOWN.bit
      (t.reg .WLT_INT_STAT 0) = true)
      (exec (.laceAllLanesLost k) s)) ∧
  (∀ (k : Fin 16) (tr : LaneTrain) (q : LaneQual) (j : Nat) (s : State),
    (s.link k).dropped = some j →
    s.lkState k = lkUp →
    (s.link k).waiting = false →
    s.flag F.WLT_LK_CFG_AUTO_READD k = true →
    s.qualifies (s.fld F.WLT_LK_STAT_RATE k) q = true →
    Completes (fun t => t.fld F.WLT_LK_STAT_LANE_MASK k = 15 ∧ t.fld F.TWL_LK_STAT_LANES k = 4 ∧ (t.link k).dropped = none ∧ bit
      Irq.WLT_READD.bit (t.reg .WLT_INT_STAT 0) = true)
      (exec (.laceReaddAttempt k tr q) s)) ∧
  (∀ (k : Fin 16) (tr : LaneTrain) (q : LaneQual) (j : Nat) (s : State),
    (s.link k).dropped = some j →
    s.lkState k = lkUp →
    (s.link k).waiting = false →
    s.flag F.WLT_LK_CFG_AUTO_READD k = true →
    s.qualifies (s.fld F.WLT_LK_STAT_RATE k) q = false →
    Completes (fun t => (t.link k).fails = (s.link k).fails + 1 ∧ (t.link k).waiting = decide (3 ≤ (s.link k).fails + 1) ∧ t.reg
      .WLT_LK_STAT k = s.reg .WLT_LK_STAT k)
      (exec (.laceReaddAttempt k tr q) s)) ∧
  (∀ (k : Fin 16) (s : State),
    Completes (fun t => t.link k = { s.link k with waiting := false } ∧ t.regs = s.regs)
      (exec (.laceReaddRetry k) s)) ∧
  (∀ (src : Requester) (k : Fin 16) (s : State),
    s.closedTo .WLT_LK_CTRL src = false →
    s.flag F.WLT_LK_CFG_ENABLE k = true →
    Completes (fun t => t.lkState k = lkIdent ∧ t.fld F.WLT_LK_STAT_RATE k = 1 ∧ t.resp = .OK)
      (exec (.laceLinkRetrain src k) s)) ∧
  (∀ (src : Requester) (k : Fin 16) (s : State),
    s.closedTo .WLT_LK_CTRL src = false →
    s.flag F.WLT_LK_CFG_ENABLE k = false →
    Completes (fun t => t = s.answer .NOT_READY)
      (exec (.laceLinkRetrain src k) s)) ∧
  (∀ (src : Requester) (k : Fin 16) (j : Fin 4) (s : State),
    s.closedTo .WLT_LK_CTRL src = false →
    s.lkState k = lkUp →
    s.fld F.WLT_LK_STAT_LANE_MASK k = 15 →
    (linkUse s.twl.routes k).1 + (linkUse s.twl.routes k).2 ≤ linkCapacity (s.fld F.TWL_LK_STAT_RATE k) 3 * s.fld
      F.TWL_LK_LIMIT_PRESTAGE 0 / 64 →
    Completes (fun t => t.fld F.WLT_LK_STAT_LANE_MASK k = 15 - 2 ^ j.val ∧ t.fld F.TWL_LK_STAT_LANES k = 3 ∧ (t.link k).dropped =
      some j.val ∧ (t.link k).recal = true ∧ t.resp = .OK)
      (exec (.laceLinkRecal src k j) s)) ∧
  (∀ (src : Requester) (k : Fin 16) (j : Fin 4) (s : State),
    s.closedTo .WLT_LK_CTRL src = false →
    s.lkState k = lkUp →
    s.fld F.WLT_LK_STAT_LANE_MASK k ≠ 15 →
    Completes (fun t => t = s.answer .BUSY)
      (exec (.laceLinkRecal src k j) s))

/-- Network ports (R502 to R529): a mode write of a group without named or enabled ports gives each of its ports its existence and
rate, REFUSED_POLICY otherwise and BAD_ARG for mode 7; an enabled port waits for its link, is UP with it, falls with a fault;
MEDIA due now goes first, a PTP frame next, a CTRL frame last and not while paused; PAUSE pauses CTRL only and is counted as
ignored for MEDIA and PTP; an idle port in LP 1 enters LPI; the wake frame of this port's pattern wakes it; tails are
doorbells, with the frames taken in ring order; a vector is raised at most once in COAL_US; a disabled port or NPT drains, a
killed one is OFF at once. -/
def Obligations.PortsGroupsPausesAndRings : Prop :=
  (∀ (src : Requester) (g : Fin 8) (w : Word32) (s : State),
    s.closedTo .NPT_GRP_CFG src = false →
    F.NPT_GRP_CFG_MODE.of (w.setWidth 64) ≠ 7 →
    (∀ q : Nat, q < 4 → s.portNamed (4 * g.val + q) = false ∧ s.flag F.NPT_PORT_CFG_ENABLE (4 * g.val + q) = false) →
    Completes (fun t => t.reg .NPT_GRP_CFG g = s.stored .NPT_GRP_CFG g (w.setWidth 64) ∧ (∀ q : Nat, q < 4 → t.flag
      F.NPT_PORT_STAT_EXISTS (4 * g.val + q) = existsIn (F.NPT_GRP_CFG_MODE.of (w.setWidth 64)) (4 * g.val + q) ∧
      t.linkUp (4 * g.val + q) = false))
      (exec (.groupModeWrite src g w) s)) ∧
  (∀ (src : Requester) (g : Fin 8) (w : Word32) (s : State),
    s.closedTo .NPT_GRP_CFG src = false →
    F.NPT_GRP_CFG_MODE.of (w.setWidth 64) = 7 →
    Completes (fun t => t = s.answer .BAD_ARG)
      (exec (.groupModeWrite src g w) s)) ∧
  (∀ (src : Requester) (g : Fin 8) (w : Word32) (q : Nat) (s : State),
    s.closedTo .NPT_GRP_CFG src = false →
    F.NPT_GRP_CFG_MODE.of (w.setWidth 64) ≠ 7 →
    q < 4 →
    s.flag F.NPT_PORT_CFG_ENABLE (4 * g.val + q) = true →
    Completes (fun t => t = s.answer .REFUSED_POLICY)
      (exec (.groupModeWrite src g w) s)) ∧
  (∀ (src : Requester) (p : Fin 32) (w : Word32) (s : State),
    s.closedTo .NPT_PORT_CFG src = false →
    s.portState p = portOff →
    s.portExists p = true →
    s.flag F.NPT_CTRL_EN 0 = true →
    s.flag F.NPT_PORT_CFG_ENABLE p = false →
    s.domainFailed (10 + p.val / 4) = false →
    1518 ≤ F.NPT_PORT_CFG_MTU.of (w.setWidth 64) →
    F.NPT_PORT_CFG_MTU.of (w.setWidth 64) ≤ 9216 →
    F.NPT_PORT_CFG_LP.of (w.setWidth 64) = 0 →
    Completes (fun t => t.reg .NPT_PORT_CFG p = s.stored .NPT_PORT_CFG p (F.NPT_PORT_CFG_ENABLE.put 1 (w.setWidth 64)) ∧ t.portState
      p = portDown ∧ t.resp = .OK)
      (exec (.portEnable src p w) s)) ∧
  (∀ (src : Requester) (p : Fin 32) (w : Word32) (s : State),
    s.closedTo .NPT_PORT_CFG src = false →
    s.portState p ≠ portDraining →
    F.NPT_PORT_CFG_MTU.of (w.setWidth 64) < 1518 →
    Completes (fun t => t = s.answer .BAD_ARG)
      (exec (.portEnable src p w) s)) ∧
  (∀ (p : Fin 32) (s : State),
    s.portState p = portDown →
    s.linkUp p = false →
    s.flag F.NPT_PORT_STAT_LOCAL_FAULT p = false →
    s.flag F.NPT_PORT_STAT_REMOTE_FAULT p = false →
    Completes (fun t => t.linkUp p = true ∧ t.portState p = portUp ∧ bit Irq.NPT_LINK_UP.bit (t.reg .NPT_INT_STAT 0) = true)
      (exec (.portLinkUp p) s)) ∧
  (∀ (p : Fin 32) (s : State),
    s.portState p = portWaking →
    Completes (fun t => t.portState p = portUp ∧ t.linkUp p = s.linkUp p)
      (exec (.portLinkUp p) s)) ∧
  (∀ (p : Fin 32) (loc rem : Bool) (s : State),
    (loc = true ∨ rem = true) →
    s.linkUp p = true →
    Completes (fun t => t.linkUp p = false ∧ t.flag F.NPT_PORT_STAT_LOCAL_FAULT p = loc ∧ t.flag F.NPT_PORT_STAT_REMOTE_FAULT p =
      rem ∧ t.reg .NPT_LINK_DOWNS p = s.counted .NPT_LINK_DOWNS p 1 ∧ bit Irq.NPT_LINK_DOWN.bit (t.reg .NPT_INT_STAT 0) = true)
      (exec (.portFault p loc rem) s)) ∧
  (∀ (p : Fin 32) (loc rem : Bool) (s : State),
    loc = false →
    rem = false →
    Completes (fun t => t.flag F.NPT_PORT_STAT_LOCAL_FAULT p = false ∧ t.flag F.NPT_PORT_STAT_REMOTE_FAULT p = false ∧ t.linkUp p =
      s.linkUp p)
      (exec (.portFault p loc rem) s)) ∧
  (∀ (p : Fin 32) (bytes ptpBytes : Nat) (onTime : Bool) (s : State),
    s.linkUp p = true →
    (s.netPort p).leaving = none →
    s.portState p = portUp →
    Completes (fun t => t.reg .NPT_TX_FRAMES p = s.counted .NPT_TX_FRAMES p 1 ∧ t.reg .NPT_TX_BYTES p = s.counted .NPT_TX_BYTES p
      bytes ∧ t.netPort p = s.netPort p ∧ t.sent = s.sent)
      (exec (.portTransmit p (some (0, bytes)) ptpBytes onTime) s)) ∧
  (∀ (p : Fin 32) (ptpBytes : Nat) (onTime : Bool) (f : CtrlFrame) (rest : List CtrlFrame) (s : State),
    s.linkUp p = true →
    (s.netPort p).leaving = none →
    s.portState p = portUp →
    (s.netPort p).ptpq = [] →
    (s.netPort p).ctrl = f :: rest →
    s.flag F.NPT_PORT_STAT_PAUSED p = false →
    Completes (fun t => t.netPort p = { s.netPort p with ctrl := rest, leaving := some f } ∧ t.reg .NPT_TX_FRAMES p = s.counted
      .NPT_TX_FRAMES p 1)
      (exec (.portTransmit p none ptpBytes onTime) s)) ∧
  (∀ (p : Fin 32) (ptpBytes : Nat) (onTime : Bool) (f : PtpFrame) (rest : List PtpFrame) (s : State),
    s.linkUp p = true →
    (s.netPort p).leaving = none →
    s.portState p = portUp →
    (s.netPort p).ptpq = f :: rest →
    f.fixed = false →
    f.fwd = none →
    Completes (fun t => t.netPort p = { s.netPort p with ptpq := rest } ∧ t.sent = .ptp f.inst p f.kind :: s.sent ∧ t.reg
      .NPT_TX_FRAMES p = s.counted .NPT_TX_FRAMES p 1)
      (exec (.portTransmit p none ptpBytes onTime) s)) ∧
  (∀ (p : Fin 32) (ptpBytes : Nat) (onTime : Bool) (s : State),
    s.linkUp p = true →
    (s.netPort p).leaving = none →
    s.portState p = portUp →
    (s.netPort p).ptpq = [] →
    s.flag F.NPT_PORT_STAT_PAUSED p = true →
    Completes (fun t => t = s)
      (exec (.portTransmit p none ptpBytes onTime) s)) ∧
  (∀ (p : Fin 32) (classes : BitVec 8) (quanta : List (Fin 65536)) (s : State),
    s.linkUp p = true →
    s.portState p ≠ portWakeOnly →
    s.flag F.NPT_PORT_CFG_PFC p = false →
    Completes (fun t => t.reg .NPT_PAUSE_RX p = s.counted .NPT_PAUSE_RX p 1 ∧ t.reg .NPT_PAUSE_IGN p = s.counted .NPT_PAUSE_IGN p 1
      ∧ (t.netPort p).quanta = (quanta.getD 0 0).val ∧ t.flag F.NPT_PORT_STAT_PAUSED p = decide ((quanta.getD 0 0).val ≠ 0))
      (exec (.pauseReceive p false classes quanta) s)) ∧
  (∀ (p : Fin 32) (s : State),
    Completes (fun t => t.netPort p = { s.netPort p with quanta := 0 } ∧ t.flag F.NPT_PORT_STAT_PAUSED p = false)
      (exec (.pauseExpire p) s)) ∧
  (∀ (p : Fin 32) (s : State),
    s.fld F.NPT_PORT_CFG_LP p = 1 →
    s.portState p = portUp →
    s.linkUp p = true →
    s.senderNames p = false →
    (s.netPort p).ptpq = [] →
    (s.netPort p).ctrl = [] →
    (s.netPort p).leaving = none →
    Completes (fun t => t.portState p = portLpi ∧ t.reg .NPT_LPI_ENTRIES p = s.counted .NPT_LPI_ENTRIES p 1)
      (exec (.lpiEnter p) s)) ∧
  (∀ (p : Fin 32) (f : RxFrame) (s : State),
    s.portState p = portWakeOnly →
    f.dest = .own →
    f.wake = some (s.reg .NPT_WAKE_PAT 0) →
    Completes (fun t => t.portState p = portWaking ∧ t.fld F.NPT_PORT_CFG_LP p = 0 ∧ bit Irq.NPT_WAKE.bit (t.reg .NPT_INT_STAT 0) =
      true)
      (exec (.wakeFrame p f) s)) ∧
  (∀ (p : Fin 32) (f : RxFrame) (s : State),
    f.wake ≠ some (s.reg .NPT_WAKE_PAT 0) →
    Completes (fun t => t = s)
      (exec (.wakeFrame p f) s)) ∧
  (∀ (src : Requester) (r : Fin 16) (tail : Fin 4096) (s : State),
    s.closedTo .NPT_RXR_TAIL src = false →
    Completes (fun t => t.reg .NPT_RXR_TAIL r = s.stored .NPT_RXR_TAIL r (BitVec.ofNat 64 tail) ∧ t.resp = .OK ∧ t.sent = s.sent)
      (exec (.rxrTailDoorbell src r tail) s)) ∧
  (∀ (r : Fin 16) (s : State),
    (s.rxr r).coal = true →
    (s.rxr r).more = false →
    Completes (fun t => t.rxr r = { s.rxr r with coal := false } ∧ t.host = s.host)
      (exec (.rxrCoalesceTimer r) s)) ∧
  (∀ (src : Requester) (r : Fin 16) (tail : Fin 4096) (frames : List TxFrame) (s : State),
    s.closedTo .NPT_TXR_TAIL src = false →
    s.flag F.NPT_TXR_CFG_EN r = false →
    Completes (fun t => t.reg .NPT_TXR_TAIL r = s.stored .NPT_TXR_TAIL r (BitVec.ofNat 64 tail) ∧ t.net = s.net ∧ t.resp = .OK)
      (exec (.txrTailDoorbell src r tail frames) s)) ∧
  (∀ (src : Requester) (r : Fin 16) (tail : Fin 4096) (f : TxFrame) (s : State),
    s.closedTo .NPT_TXR_TAIL src = false →
    s.flag F.NPT_TXR_CFG_EN r = true →
    4 ≤ s.fld F.NPT_TXR_CFG_SIZE r →
    s.fld F.NPT_TXR_CFG_SIZE r ≤ 12 →
    s.fld F.NPT_TXR_HEAD_INDEX r = 0 →
    f.lens.length ≤ tail.val →
    tail.val < 16 →
    s.txBad f = none →
    (s.netPort f.port).ctrl = [] →
    Completes (fun t => t.fld F.NPT_TXR_HEAD_INDEX r = f.lens.length ∧ (t.netPort f.port).ctrl = [⟨.ring r (f.lens.length - 1) f.ts,
      f.lens.sum⟩] ∧ t.resp = .OK)
      (exec (.txrTailDoorbell src r tail [f]) s)) ∧
  (∀ (p : Fin 32) (time : Nat) (s : State),
    (s.netPort p).leaving = none →
    Completes (fun t => t = s)
      (exec (.txFrameComplete p time) s)) ∧
  (∀ (p : Fin 32) (time : Nat) (r idx len : Nat) (ts : Bool) (s : State),
    (s.netPort p).leaving = some ⟨.ring r idx ts, len⟩ →
    Completes (fun t => (t.netPort p).leaving = none ∧ t.sent = .txDesc r idx (if ts then time else 0) .OK (if s.fld
      F.NPT_TXR_HEAD_INDEX r ≤ idx then !(s.txr r).phase else (s.txr r).phase) :: s.sent)
      (exec (.txFrameComplete p time) s)) ∧
  (∀ (src : Requester) (p : Fin 32) (s : State),
    s.closedTo .NPT_PORT_CFG src = false →
    s.portState p ≠ portOff →
    s.portState p ≠ portDraining →
    s.flag F.NPT_PORT_CFG_ENABLE p = true →
    s.flag F.NPT_PORT_CFG_KILL p = false →
    1518 ≤ s.fld F.NPT_PORT_CFG_MTU p →
    s.fld F.NPT_PORT_CFG_MTU p ≤ 9216 →
    s.fld F.NPT_PORT_CFG_LP p = 0 →
    Completes (fun t => t.portState p = portDraining ∧ t.flag F.NPT_PORT_CFG_ENABLE p = false ∧ t.resp = .OK)
      (exec (.portDisable src p) s)) ∧
  (∀ (p : Fin 32) (s : State),
    s.portState p = portDraining →
    Completes (fun t => t.portState p = portOff ∧ t.linkUp p = false ∧ (t.netPort p).ctrl = [])
      (exec (.portDrainDone p) s)) ∧
  (∀ (p : Fin 32) (s : State),
    s.portState p ≠ portDraining →
    Completes (fun t => t = s)
      (exec (.portDrainDone p) s)) ∧
  (∀ (src : Requester) (p : Fin 32) (s : State),
    s.closedTo .NPT_PORT_CFG src = false →
    1518 ≤ s.fld F.NPT_PORT_CFG_MTU p →
    s.fld F.NPT_PORT_CFG_MTU p ≤ 9216 →
    s.fld F.NPT_PORT_CFG_LP p = 0 →
    Completes (fun t => t.portState p = portOff ∧ t.linkUp p = false ∧ t.resp = .OK)
      (exec (.portKill src p) s)) ∧
  (∀ (src : Requester) (r : Fin 16) (s : State),
    s.closedTo .NPT_TXR_CFG src = false →
    4 ≤ s.fld F.NPT_TXR_CFG_SIZE r →
    s.fld F.NPT_TXR_CFG_SIZE r ≤ 12 →
    Completes (fun t => t.flag F.NPT_TXR_CFG_EN r = false ∧ t.resp = .OK)
      (exec (.ringDisable src false r) s)) ∧
  (∀ (src : Requester) (r : Fin 16) (s : State),
    s.closedTo .NPT_RXR_CFG src = false →
    4 ≤ s.fld F.NPT_RXR_CFG_SIZE r →
    s.fld F.NPT_RXR_CFG_SIZE r ≤ 12 →
    1 ≤ s.fld F.NPT_RXR_CFG_BUFSZ r →
    s.fld F.NPT_RXR_CFG_BUFSZ r ≤ 64 →
    Completes (fun t => t.flag F.NPT_RXR_CFG_EN r = false ∧ t.resp = .OK)
      (exec (.ringDisable src true r) s)) ∧
  (∀ (src : Requester) (s : State),
    s.closedTo .NPT_CTRL src = false →
    Completes (fun t => t.flag F.NPT_CTRL_EN 0 = false ∧ t.flag F.NPT_STATUS_RUN 0 = false ∧ (∀ p : Nat, p < 32 → t.portState p =
      portOff ∧ t.linkUp p = false) ∧ t.resp = .OK)
      (exec (.nptDisable src true) s)) ∧
  (∀ (src : Requester) (s : State),
    s.closedTo .NPT_CTRL src = false →
    Completes (fun t => t.flag F.NPT_CTRL_EN 0 = false ∧ t.flag F.NPT_STATUS_RUN 0 = false ∧ (∀ p : Nat, p < 32 → t.portState p = if
      s.portState p = portOff then portOff else portDraining) ∧ t.resp = .OK)
      (exec (.nptDisable src false) s))

/-- Test-swap-test, repair and ageing (R534 to R548): TEST makes an idle unit SUSPECT; one that passes is IN_SERVICE with OK, one
that fails is swapped onto a free spare; a unit swaps at its swap point and is counted; a spare that fails is retired with
MEDIA_FAIL; a unit under test becomes a spare or is RETIRED; RETEST needs a retired carrier; a failing HBM row takes the
bank's spare row, then its page is retired; the core voltage moves by 5 mV between 700 and 800 mV, and CORE_MARGIN tells slack
below GUARD at 800 mV; the scrub interval halves over the bound; a drain at its bound is killed and counted. -/
def Obligations.UnitsTestedSwappedAndRetired : Prop :=
  (∀ (src : Requester) (u : Fin 232) (s : State),
    s.closedTo .RSL_UNIT_CTRL src = false →
    isUnit u = true →
    s.unitBusy u = none →
    s.unitState u = unitInService →
    Completes (fun t => t.fld F.RSL_UNIT_STAT_STATE u = unitSuspect ∧ t.resp = .OK ∧ t.rsl = s.rsl)
      (exec (.unitTest src u) s)) ∧
  (∀ (src : Requester) (u : Fin 232) (st : Status) (s : State),
    s.closedTo .RSL_UNIT_CTRL src = false →
    isUnit u = true →
    s.unitBusy u = some st →
    Completes (fun t => t = (s.answer .OK).setFld F.RSL_UNIT_STAT_STATUS u st.code)
      (exec (.unitTest src u) s)) ∧
  (∀ (src : Requester) (u : Fin 232) (x : Nat) (s : State),
    s.closedTo .RSL_UNIT_CTRL src = false →
    u.val < 41 →
    s.unitBusy u = none →
    s.unitState u = unitInService →
    s.freeSpare u = some x →
    Completes (fun t => t.fld F.RSL_UNIT_STAT_STATE u = unitSwapping ∧ t.fld F.RSL_PHYS_STAT_STATE x = physInService ∧ Tbl.get (fun
      _ => 0) t.rsl.swapTo u = x + 1 ∧ t.resp = .OK)
      (exec (.unitSwap src u) s)) ∧
  (∀ (src : Requester) (u : Fin 232) (s : State),
    s.closedTo .RSL_UNIT_CTRL src = false →
    isUnit u = true →
    s.unitBusy u = none →
    s.unitState u = unitInService →
    s.freeSpare u = none →
    Completes (fun t => t.fld F.RSL_UNIT_STAT_STATE u = unitInService ∧ t.fld F.RSL_UNIT_STAT_STATUS u = Status.NO_ROOM.code ∧
      t.flag F.RSL_UNIT_STAT_DEGRADED u = true ∧ t.fld ⟨.GLB_ALERT_STAT, alertDegraded, 1⟩ 0 = 1)
      (exec (.unitSwap src u) s)) ∧
  (∀ (src : Requester) (u : Fin 232) (s : State),
    s.closedTo .RSL_UNIT_CTRL src = false →
    isUnit u = true →
    s.unitBusy u = none →
    Tbl.get (fun _ => 0) s.rsl.retiredOf u = 0 →
    Completes (fun t => t.fld F.RSL_UNIT_STAT_STATUS u = Status.NOT_READY.code ∧ t.resp = .OK)
      (exec (.unitRetest src u) s)) ∧
  (∀ (src : Requester) (u : Fin 232) (x : Nat) (s : State),
    s.closedTo .RSL_UNIT_CTRL src = false →
    isUnit u = true →
    s.unitBusy u = none →
    Tbl.get (fun _ => 0) s.rsl.retiredOf u = x + 1 →
    s.fld F.RSL_PHYS_STAT_STATE x = physRetired →
    Completes (fun t => t.fld F.RSL_PHYS_STAT_STATE x = physTesting ∧ t.resp = .OK)
      (exec (.unitRetest src u) s)) ∧
  (∀ (u : Fin 232) (corr : Nat) (implicated : Bool) (s : State),
    isUnit u = true →
    corr < s.fld F.RSL_AUTO_CORR_LIM 0 →
    implicated = false →
    Completes (fun t => (t.reg .RSL_UNIT_CORR u).toNat = satTo 32 corr ∧ t.fld F.RSL_UNIT_STAT_STATE u = s.fld F.RSL_UNIT_STAT_STATE
      u)
      (exec (.autoTestTrigger u corr implicated) s)) ∧
  (∀ (u : Fin 232) (corr : Nat) (implicated : Bool) (s : State),
    isUnit u = true →
    implicated = true →
    s.flag F.RSL_CTRL_AUTO 0 = true →
    s.unitBusy u = none →
    s.unitState u = unitInService →
    Completes (fun t => (t.reg .RSL_UNIT_CORR u).toNat = satTo 32 corr ∧ t.fld F.RSL_UNIT_STAT_STATE u = unitSuspect)
      (exec (.autoTestTrigger u corr implicated) s)) ∧
  (∀ (u : Fin 232) (passed : Bool) (s : State),
    s.fld F.RSL_UNIT_STAT_STATE u = unitSuspect →
    passed = true →
    Completes (fun t => t.fld F.RSL_UNIT_STAT_STATE u = unitInService ∧ t.fld F.RSL_UNIT_STAT_STATUS u = Status.OK.code ∧ t.reg
      .RSL_UNIT_CORR u = 0 ∧ t.flag F.RSL_UNIT_STAT_DEGRADED u = false)
      (exec (.inplaceCheckDone u passed) s)) ∧
  (∀ (u : Fin 232) (passed : Bool) (x : Nat) (s : State),
    s.fld F.RSL_UNIT_STAT_STATE u = unitSuspect →
    passed = false →
    u.val < 41 →
    s.freeSpare u = some x →
    Completes (fun t => t.fld F.RSL_UNIT_STAT_STATE u = unitSwapping ∧ Tbl.get (fun _ => 0) t.rsl.swapTo u = x + 1)
      (exec (.inplaceCheckDone u passed) s)) ∧
  (∀ (u : Fin 232) (x : Nat) (s : State),
    s.fld F.RSL_UNIT_STAT_STATE u = unitSwapping →
    16 ≤ u.val →
    u.val < 41 →
    Tbl.get (fun _ => 0) s.rsl.swapTo u = x + 1 →
    x < 46 →
    s.carrier u ≠ x →
    Completes (fun t => t.fld F.RSL_UNIT_STAT_STATE u = unitInService ∧ t.fld F.RSL_PHYS_STAT_STATE (s.carrier u) = physTesting ∧
      t.fld F.RSL_PHYS_STAT_STATE x = physInService ∧ t.fld F.RSL_PHYS_STAT_LOGICAL x = u ∧ t.reg .RSL_UNIT_SWAPS u = s.counted
      .RSL_UNIT_SWAPS u 1 ∧ bit Irq.RSL_SWAP_DONE.bit (t.reg .RSL_INT_STAT 0) = true)
      (exec (.unitSwapPoint u) s)) ∧
  (∀ (u : Fin 232) (x : Nat) (s : State),
    s.fld F.RSL_UNIT_STAT_STATE u = unitSwapping →
    Tbl.get (fun _ => 0) s.rsl.swapTo u = x + 1 →
    Completes (fun t => t.fld F.RSL_UNIT_STAT_STATE u = unitInService ∧ t.fld F.RSL_UNIT_STAT_STATUS u = Status.MEDIA_FAIL.code ∧
      t.fld F.RSL_PHYS_STAT_STATE x = physRetired ∧ Tbl.get (fun _ => 0) t.rsl.swapTo u = 0)
      (exec (.spareCheckFail u) s)) ∧
  (∀ (x : Fin 248) (passed : Bool) (s : State),
    s.fld F.RSL_PHYS_STAT_STATE x = physTesting →
    passed = true →
    Completes (fun t => t.fld F.RSL_PHYS_STAT_STATE x = physSpare ∧ t.fld F.RSL_PHYS_STAT_RESULT x = 1 ∧ (∀ r ∈ t.rsl.map, ¬(r.kind
      = .unit ∧ r.array = x.val)))
      (exec (.offlineTestDone x passed) s)) ∧
  (∀ (x : Fin 248) (passed : Bool) (s : State),
    s.fld F.RSL_PHYS_STAT_STATE x = physTesting →
    passed = false →
    Completes (fun t => t.fld F.RSL_PHYS_STAT_STATE x = physRetired ∧ t.fld F.RSL_PHYS_STAT_RESULT x = 2 ∧ bit
      Irq.RSL_UNIT_RETIRED.bit (t.reg .RSL_INT_STAT 0) = true)
      (exec (.offlineTestDone x passed) s)) ∧
  (∀ (bank : Fin 65536) (row : Nat) (page : Fin 30720) (inUse : Bool) (s : State),
    Tbl.get (fun _ => false) s.rsl.hbmUsed bank = false →
    s.rsl.map.length < 32768 →
    Completes (fun t => Tbl.get (fun _ => false) t.rsl.hbmUsed bank = true ∧ t.fld F.RSL_HBM_PPR_SOFT 0 = satTo 16 (s.fld
      F.RSL_HBM_PPR_SOFT 0 + 1) ∧ t.fld F.RSL_HBM_PPR_HARD 0 = satTo 16 (s.fld F.RSL_HBM_PPR_HARD 0 + 1) ∧ t.rsl.map = s.rsl.map ++
      [⟨.hbmRow, bank, row, 0, (s.reg .INS_OPSEC 0).toNat / 3600⟩])
      (exec (.hbmPpr bank row page inUse) s)) ∧
  (∀ (bank : Fin 65536) (row : Nat) (page : Fin 30720) (inUse : Bool) (s : State),
    Tbl.get (fun _ => false) s.rsl.hbmUsed bank = true →
    inUse = true →
    page.val ∉ s.rsl.toRetire →
    Completes (fun t => t.rsl = { s.rsl with toRetire := page.val :: s.rsl.toRetire } ∧ t.regs = s.regs)
      (exec (.hbmPpr bank row page inUse) s)) ∧
  (∀ (bank : Fin 65536) (row : Nat) (page : Fin 30720) (inUse : Bool) (s : State),
    Tbl.get (fun _ => false) s.rsl.hbmUsed bank = true →
    inUse = false →
    page.val ∉ s.rsl.retired →
    Completes (fun t => t.rsl.retired = page.val :: s.rsl.retired)
      (exec (.hbmPpr bank row page inUse) s)) ∧
  (∀ (slack lower : Int) (s : State),
    slack < (s.fld F.RSL_AVS_CFG_GUARD 0 : Int) →
    0 < s.rsl.below →
    s.rsl.noAck = false →
    Completes (fun t => t.rsl = { s.rsl with below := s.rsl.below - 5 } ∧ t.sent = .setCore (800 - (s.rsl.below - 5)) :: s.sent)
      (exec (.avsStep slack lower) s)) ∧
  (∀ (slack lower : Int) (s : State),
    slack < (s.fld F.RSL_AVS_CFG_GUARD 0 : Int) →
    s.rsl.below = 0 →
    Completes (fun t => t.rsl = { s.rsl with noMargin := true } ∧ t.flag F.RSL_STATUS_CORE_MARGIN 0 = true ∧ t.fld ⟨.GLB_ALERT_STAT,
      alertCoreMargin, 1⟩ 0 = 1)
      (exec (.avsStep slack lower) s)) ∧
  (∀ (slack lower : Int) (s : State),
    (s.fld F.RSL_AVS_CFG_GUARD 0 : Int) ≤ slack →
    (s.fld F.RSL_AVS_CFG_GUARD 0 : Int) ≤ lower →
    s.rsl.below < 100 →
    s.rsl.noAck = false →
    Completes (fun t => t.rsl = { s.rsl with below := s.rsl.below + 5, noMargin := false } ∧ t.sent = .setCore (800 - (s.rsl.below +
      5)) :: s.sent)
      (exec (.avsStep slack lower) s)) ∧
  (∀ (required : Fin 1024) (slack : Int) (s : State),
    Completes (fun t => t.fld F.RSL_AVS_STAT_REQ85 0 = required ∧ t.rsl =
      { s.rsl with ages := ((s.reg .INS_OPSEC 0).toNat / 86400, required.val, slack) :: s.rsl.ages.take 89 })
      (exec (.coreAgeingRecord required slack) s)) ∧
  (∀ (corrected : List Nat) (s : State),
    (corrected.zip mramCodewords).any (fun e => decide (e.2 < 1000 * e.1)) = true →
    Completes (fun t => t.fld F.RSL_MRAM_SCRUB_CORR 0 = satTo 24 (corrected.foldl (fun a b => a + b) 0) ∧ t.fld
      F.RSL_MRAM_SCRUB_INTERVAL 0 = max 1 (s.fld F.RSL_MRAM_SCRUB_INTERVAL 0 / 2) ∧ t.rsl.map = s.rsl.map)
      (exec (.mramScrub corrected []) s)) ∧
  (∀ (corrected : List Nat) (s : State),
    (corrected.zip mramCodewords).all (fun e => decide (10000 * e.1 < e.2)) = true →
    s.rsl.calm = 6 →
    Completes (fun t => t.fld F.RSL_MRAM_SCRUB_INTERVAL 0 = min 24 (2 * s.fld F.RSL_MRAM_SCRUB_INTERVAL 0) ∧ t.rsl.calm = 0)
      (exec (.mramScrub corrected []) s)) ∧
  (∀ (k : Fin 16) (s : State),
    s.lkState k = lkDraining →
    Completes (fun t => t.lkState k = lkDown ∧ t.fld F.WLT_LK_STAT_REASON k = 3 ∧ t.reg .RSL_DRAIN_OVR 0 = s.counted .RSL_DRAIN_OVR
      0 1 ∧ bit Irq.RSL_DRAIN_OVR.bit (t.reg .RSL_INT_STAT 0) = true)
      (exec (.drainBoundExpire (.link k)) s)) ∧
  (∀ (p : Fin 32) (s : State),
    s.portState p = portDraining →
    Completes (fun t => t.portState p = portOff ∧ t.linkUp p = false ∧ t.reg .RSL_DRAIN_OVR 0 = s.counted .RSL_DRAIN_OVR 0 1 ∧ bit
      Irq.RSL_DRAIN_OVR.bit (t.reg .RSL_INT_STAT 0) = true)
      (exec (.drainBoundExpire (.port p)) s)) ∧
  (∀ (n : Fin 384) (s : State),
    s.inState n = inDraining →
    Completes (fun t => t.inState n ≠ inDraining ∧ t.reg .RSL_DRAIN_OVR 0 = s.counted .RSL_DRAIN_OVR 0 1)
      (exec (.drainBoundExpire (.input n)) s)) ∧
  (∀ (k : Fin 16) (s : State),
    s.lkState k ≠ lkDraining →
    Completes (fun t => t = s)
      (exec (.drainBoundExpire (.link k)) s))

/-- Partner loss, fencing and spares (R180, R542, R549 to R554): silence, a fenced notice or a probe without an answer loses the
partner of a MIRRORED part, which is told with its cause and works alone; an answered probe counts the missing records
instead; a partner that returns ends it; FENCE fences with state FENCED, its repair passes or fails, and REJOIN works only
from REJOIN_OK; an armed spare remembers the notice of a listed loss, claims it after its delay, the survivor grants the first
claim and answers BUSY to others; a grant gives the spare the identity, a refusal or silence makes it idle; RELEASE from
ASSUMED gives the identity back. -/
def Obligations.PartnersLostFencedAndReplaced : Prop :=
  (∀ (s : State),
    s.mirrored = true →
    s.partnerLost = false →
    Completes (fun t => t.partnerLost = true ∧ t.flag F.NIM_STATUS_ALONE 0 = true ∧ t.flag F.RSL_STATUS_PARTNER_LOST 0 = true ∧
      t.fld F.RSL_PAIR_STAT_CAUSE 0 = lossSilence ∧ t.fld ⟨.GLB_ALERT_STAT, alertPartnerLost, 1⟩ 0 = 1 ∧ t.rsl.granted = none)
      (exec .partnerSilenceTimeout s)) ∧
  (∀ (s : State),
    s.mirrored = false →
    Completes (fun t => t = s)
      (exec .partnerSilenceTimeout s)) ∧
  (∀ (s : State),
    s.mirrored = true →
    s.partnerLost = false →
    Completes (fun t => t.partnerLost = true ∧ t.fld F.RSL_PAIR_STAT_CAUSE 0 = lossFenced ∧ t.flag F.RSL_STATUS_PARTNER_LOST 0 =
      true)
      (exec .partnerFencedNotice s)) ∧
  (∀ (s : State),
    s.mirrored = true →
    s.partnerLost = false →
    s.rsl.probing = true →
    Completes (fun t => t.partnerLost = true ∧ t.fld F.RSL_PAIR_STAT_CAUSE 0 = lossNoAnswer ∧ t.rsl.probing = false)
      (exec .partnerProbeTimeout s)) ∧
  (∀ (s : State),
    s.rsl.probing = true →
    Completes (fun t => t.rsl = { s.rsl with probing := false, missed := 0 } ∧ t.tks = { s.tks with missing := 0 } ∧ t.reg
      .RSL_XCHK_MISS 0 = s.counted .RSL_XCHK_MISS 0 s.rsl.missed ∧ t.fld ⟨.GLB_ALERT_STAT, alertXchkMiss, 1⟩ 0 = 1 ∧ t.partnerLost =
      s.partnerLost)
      (exec .partnerProbeAnswer s)) ∧
  (∀ (s : State),
    s.mirrored = true →
    Completes (fun t => t = s.emit .probeAnswer)
      (exec .partnerProbeReceive s)) ∧
  (∀ (key : Key) (s : State),
    Completes (fun t => t = s.setEntry key (fun e : JEntry => { e with partnerDone := true }) ∧ t.regs = s.regs)
      (exec (.partnerCompleteReport key) s)) ∧
  (∀ (s : State),
    s.mirrored = true →
    s.partnerLost = true →
    Completes (fun t => t.fld F.NIM_PAIR_STAT_PARTNER 0 = 1 ∧ t.flag F.NIM_STATUS_ALONE 0 = false ∧ t.flag F.RSL_STATUS_PARTNER_LOST
      0 = false ∧ bit Irq.RSL_PARTNER_RETURN.bit (t.reg .RSL_INT_STAT 0) = true)
      (exec .partnerReturn s)) ∧
  (∀ (src : Requester) (s : State),
    s.closedTo .RSL_FENCE_CTRL src = false →
    s.fenced = false →
    Completes (fun t => t.fenced = true ∧ t.fld F.RSL_FENCE_STAT_STATE 0 = fenceFenced ∧ t.fld F.RSL_FENCE_STAT_STEP 0 = 0 ∧ t.fld
      ⟨.GLB_ALERT_STAT, alertFenced, 1⟩ 0 = 1)
      (exec (.fenceCommand src) s)) ∧
  (∀ (passed : Bool) (s : State),
    (s.fld F.RSL_FENCE_STAT_STATE 0 = fenceFenced ∨ s.fld F.RSL_FENCE_STAT_STATE 0 = fenceRepairing) →
    Completes (fun t => t.fld F.RSL_FENCE_STAT_STATE 0 = (if passed then fenceRejoinOk else fencePermanent) ∧ t.fenced = s.fenced)
      (exec (.fenceRepairDone passed) s)) ∧
  (∀ (src : Requester) (s : State),
    s.closedTo .RSL_FENCE_CTRL src = false →
    s.fld F.RSL_FENCE_STAT_STATE 0 = fenceRejoinOk →
    Completes (fun t => t.fenced = false ∧ t.reg .RSL_FENCE_STAT 0 = 0 ∧ t.flag F.NIM_STATUS_REPLAY 0 = s.mirrored)
      (exec (.rejoinCommand src) s)) ∧
  (∀ (src : Requester) (s : State),
    s.closedTo .RSL_FENCE_CTRL src = false →
    s.fld F.RSL_FENCE_STAT_STATE 0 ≠ fenceRejoinOk →
    Completes (fun t => t.fenced = s.fenced ∧ t.fld F.RSL_FENCE_STAT_STATE 0 = s.fld F.RSL_FENCE_STAT_STATE 0)
      (exec (.rejoinCommand src) s)) ∧
  (∀ (id : Fin 1024) (i : Nat) (s : State),
    s.spareMode = true →
    s.flag F.RSL_SPARE_CFG_ARMED 0 = true →
    s.spareState = spareIdle →
    i < 8 →
    s.flag F.RSL_SPARE_LIST_VALID i = true →
    s.fld F.RSL_SPARE_LIST_ID i = id →
    Completes (fun t => t = s.setRsl { s.rsl with notice := some id })
      (exec (.spareLossNotice id) s)) ∧
  (∀ (id : Fin 1024) (s : State),
    s.flag F.RSL_SPARE_CFG_ARMED 0 = false →
    Completes (fun t => t = s)
      (exec (.spareLossNotice id) s)) ∧
  (∀ (id : Nat) (s : State),
    s.rsl.notice = some id →
    id < 1024 →
    s.spareMode = true →
    s.spareState = spareIdle →
    Completes (fun t => t.spareState = spareClaiming ∧ t.fld F.RSL_SPARE_STAT_ID 0 = id ∧ t.rsl = { s.rsl with notice := none } ∧
      t.sent = .claim id :: s.sent)
      (exec .spareClaimDelay s)) ∧
  (∀ (claimant id : Fin 1024) (s : State),
    s.mirrored = true →
    s.partnerLost = true →
    s.partnerId = id →
    s.rsl.granted = none →
    Completes (fun t => t = (s.setRsl { s.rsl with granted := some claimant }).emit (.claimAnswer .OK))
      (exec (.spareClaimReceive claimant id) s)) ∧
  (∀ (claimant id : Fin 1024) (other : Nat) (s : State),
    s.mirrored = true →
    s.partnerLost = true →
    s.partnerId = id →
    s.rsl.granted = some other →
    Completes (fun t => t = s.emit (.claimAnswer .BUSY))
      (exec (.spareClaimReceive claimant id) s)) ∧
  (∀ (survivor : Fin 1024) (st : Status) (s : State),
    s.spareState = spareClaiming →
    st ≠ .OK →
    Completes (fun t => t.spareState = spareIdle ∧ t.fld F.RSL_SPARE_STAT_STATUS 0 = st.code ∧ t.domainId = s.domainId)
      (exec (.spareClaimGrant survivor st) s)) ∧
  (∀ (survivor : Fin 1024) (st : Status) (s : State),
    s.spareState = spareClaiming →
    st = .OK →
    Completes (fun t => t.spareState = spareAssuming ∧ t.domainId = s.fld F.RSL_SPARE_STAT_ID 0 ∧ t.flag F.RSL_STATUS_ASSUMED 0 =
      true ∧ t.mirrored = true ∧ t.partnerId = survivor ∧ t.fld F.NIM_PAIR_STAT_PARTNER 0 = 1 ∧ t.flag F.NIM_STATUS_REPLAY 0 = true)
      (exec (.spareClaimGrant survivor st) s)) ∧
  (∀ (s : State),
    s.spareState = spareClaiming →
    Completes (fun t => t.spareState = spareIdle ∧ t.fld F.RSL_SPARE_STAT_STATUS 0 = Status.NO_PATH.code)
      (exec .spareClaimTimeout s)) ∧
  (∀ (src : Requester) (id : Fin 1024) (s : State),
    s.closedTo .RSL_SPARE_CTRL src = false →
    s.spareMode = true →
    s.spareState = spareIdle →
    Completes (fun t => t.spareState = spareClaiming ∧ t.fld F.RSL_SPARE_STAT_ID 0 = id ∧ t.resp = .OK ∧ t.sent = .claim id ::
      s.sent)
      (exec (.spareAssume src id) s)) ∧
  (∀ (src : Requester) (id : Fin 1024) (s : State),
    s.closedTo .RSL_SPARE_CTRL src = false →
    s.spareMode = false →
    Completes (fun t => t = s.answer .NOT_READY)
      (exec (.spareAssume src id) s)) ∧
  (∀ (src : Requester) (id : Fin 1024) (s : State),
    s.closedTo .RSL_SPARE_CTRL src = false →
    s.spareMode = true →
    s.spareState ≠ spareIdle →
    Completes (fun t => t = s.answer .BUSY)
      (exec (.spareAssume src id) s)) ∧
  (∀ (src : Requester) (s : State),
    s.closedTo .RSL_SPARE_CTRL src = false →
    s.spareState = spareAssumed →
    Completes (fun t => t.spareState = spareIdle ∧ t.spareMode = true ∧ t.domainId = s.fld F.GLB_CHIP_STRAP 0 ∧ t.flag
      F.RSL_STATUS_ASSUMED 0 = false ∧ t.fld F.INS_STATE_STATE 0 = powerSpare ∧ t.sent.head? = some (.identityFree s.domainId))
      (exec (.spareRelease src) s)) ∧
  (∀ (src : Requester) (s : State),
    s.closedTo .RSL_SPARE_CTRL src = false →
    s.spareState ≠ spareAssumed →
    Completes (fun t => t = s.answer .NOT_READY)
      (exec (.spareRelease src) s))

/-- The settings store (R568, R572, R576, R577, R581, R588): the counter record takes the operating seconds and power cycles; a
snapshot starts after INTERVAL while records wait, or on demand while the day's demands last, which count down and answer in
SET_SNAP_RESULT, BUSY without one or while one runs, CONVERT_FAIL while settings are not converted; a verified one frees the
delta records below its position, and is counted and told; a failed one is told; the demands are refilled; a power-fail
warning writes the counters and ends a freeze. -/
def Obligations.SnapshotsCountersAndTheDeltaLog : Prop :=
  (∀ (s : State),
    Completes (fun t => t = s.setKeep { s.keep with cntSec := s.opsec, cntCyc := (s.reg .INS_PCYCLES 0).toNat } ∧ t.regs = s.regs)
      (exec .counterRecordWrite s)) ∧
  (∀ (s : State),
    (s.keep.job.isSome = true ∨ s.tick < s.keep.lastStart + s.fld F.SET_CFG_INTERVAL 0 * 32768 ∨ s.keep.deltas = []) →
    Completes (fun t => t = s)
      (exec .snapshotAuto s)) ∧
  (∀ (s : State),
    s.keep.job = none →
    s.keep.lastStart + s.fld F.SET_CFG_INTERVAL 0 * 32768 ≤ s.tick →
    s.keep.deltas ≠ [] →
    s.flag F.SET_STATUS_CONVERT_FAIL 0 = true →
    Completes (fun t => t.fld F.SET_SNAP_RESULT_STATUS 0 = Status.CONVERT_FAIL.code ∧ t.keep = s.keep)
      (exec .snapshotAuto s)) ∧
  (∀ (s : State),
    s.keep.job = none →
    s.keep.lastStart + s.fld F.SET_CFG_INTERVAL 0 * 32768 ≤ s.tick →
    s.keep.deltas ≠ [] →
    s.flag F.SET_STATUS_CONVERT_FAIL 0 = false →
    Completes (fun t => t.keep.job.isSome = true ∧ t.keep.lastStart = s.tick ∧ t.fld F.SET_STATUS_STATE 0 = 1)
      (exec .snapshotAuto s)) ∧
  (∀ (src : Requester) (s : State),
    s.closedTo .SET_CTRL src = false →
    s.flag F.SET_STATUS_CONVERT_FAIL 0 = false →
    s.keep.job = none →
    s.fld F.SET_DEMAND_LEFT_N 0 ≠ 0 →
    Completes (fun t => t.keep.job.isSome = true ∧ t.fld F.SET_DEMAND_LEFT_N 0 = s.fld F.SET_DEMAND_LEFT_N 0 - 1 ∧ t.fld
      F.SET_SNAP_RESULT_STATUS 0 = Status.OK.code ∧ t.resp = .OK)
      (exec (.snapshotDemand src) s)) ∧
  (∀ (src : Requester) (s : State),
    s.closedTo .SET_CTRL src = false →
    s.flag F.SET_STATUS_CONVERT_FAIL 0 = false →
    (s.keep.job.isSome = true ∨ s.fld F.SET_DEMAND_LEFT_N 0 = 0) →
    Completes (fun t => t.fld F.SET_SNAP_RESULT_STATUS 0 = Status.BUSY.code ∧ t.keep = s.keep)
      (exec (.snapshotDemand src) s)) ∧
  (∀ (failing : List (Fin 256)) (s : State),
    s.keep.job = none →
    Completes (fun t => t = s)
      (exec (.snapshotVerifyDone failing) s)) ∧
  (∀ (x : Snapshot) (s : State),
    s.keep.job = some x →
    (s.keep.deltas.filter fun d => decide (x.deltaPos ≤ d.dpos)).length < 30720 →
    Completes (fun t => t.keep.job = none ∧ t.keep.snaps = x :: s.keep.snaps ∧ t.keep.deltas = s.keep.deltas.filter (fun d => decide
      (x.deltaPos ≤ d.dpos)) ∧ t.reg .SET_SNAPS 0 = s.counted .SET_SNAPS 0 1 ∧ t.fld F.SET_SNAP_RESULT_STATUS 0 = Status.OK.code ∧
      bit Irq.SET_SNAP_DONE.bit (t.reg .SET_INT_STAT 0) = true)
      (exec (.snapshotVerifyDone []) s)) ∧
  (∀ (n : Fin 256) (l : List (Fin 256)) (x : Snapshot) (s : State),
    s.keep.job = some x →
    Completes (fun t => t.keep.job = none ∧ t.keep.snaps = s.keep.snaps ∧ t.keep.deltas = s.keep.deltas ∧ t.fld
      F.SET_SNAP_RESULT_STATUS 0 = Status.MEDIA_FAIL.code ∧ bit Irq.SET_SNAP_FAIL.bit (t.reg .SET_INT_STAT 0) = true ∧ bit
      Irq.SET_SECTOR_RETIRED.bit (t.reg .SET_INT_STAT 0) = true)
      (exec (.snapshotVerifyDone (n :: l)) s)) ∧
  (∀ (s : State),
    Completes (fun t => t.fld F.SET_DEMAND_LEFT_N 0 = s.fld F.SET_CFG_DEMAND_MAX 0 % 2 ^ F.SET_DEMAND_LEFT_N.len ∧ t.keep =
      { s.keep with demandAt := s.opsec })
      (exec .demandRefill s)) ∧
  (∀ (s : State),
    Completes (fun t => t.keep = { s.keep with cntSec := s.opsec, cntCyc := (s.reg .INS_PCYCLES 0).toNat } ∧ t.flag
      F.AWL_STATUS_FROZEN 0 = false ∧ (∀ e ∈ t.awl.staged, e.window = false) ∧ t.awl.staged.length = s.awl.staged.length)
      (exec (.powerFailWarning 0) s))

/-- The Awl (R584 to R594): a window closes on the oldest entry whose window is open; a verified write puts the oldest entry at
the head of the medium, SEQ goes on, and it leaves the queue; while frozen or while a window is open nothing is written; a
full log under STOP sets FULL; FREEZE freezes and expires; an index is latched, medium 3 answers BAD_ARG; a clear with the
right HMAC begins a new epoch, a wrong one is counted and answers AUTH_FAIL, the third locks for 60 s, and during a lockout, a
freeze or a clear GO answers BUSY; the nonce after it is a free value; a passed test returns the log to MRAM. -/
def Obligations.TheAwlWritesFreezesReadsAndClears : Prop :=
  (∀ (s : State),
    Completes (fun t => t = s.setAwl { s.awl with staged := closeWindow s.awl.staged } ∧ t.awl.staged.length = s.awl.staged.length ∧
      t.regs = s.regs)
      (exec .awlWindowClose s)) ∧
  (∀ (e : Staged) (l : List Staged) (s : State),
    s.awl.staged = e :: l →
    e.window = true →
    Completes (fun t => t.awl.staged = { e with window := false } :: l)
      (exec .awlWindowClose s)) ∧
  (∀ (e : Staged) (l : List Staged) (s : State),
    s.flag F.AWL_STATUS_FROZEN 0 = false →
    s.awl.staged = e :: l →
    e.window = false →
    s.awl.lost = 0 →
    s.awlRoom = true →
    s.awlMedium = awlMram →
    Completes (fun t => t.awl.staged = l ∧ t.reg .AWL_SEQ_NEXT 0 = s.reg .AWL_SEQ_NEXT 0 + 1 ∧ t.fld F.AWL_HEAD_INDEX 0 = (s.fld
      F.AWL_HEAD_INDEX 0 + 1) % 32768 ∧ Tbl.get (fun _ => none) t.awl.mram (s.fld F.AWL_HEAD_INDEX 0) = some (⟨(s.reg .AWL_SEQ_NEXT
      0).toNat, e.time, e.opsec, e.src, e.code, e.arg, e.rep,
      (if e.retained then 1 else 0), (s.reg .INS_PCYCLES 0).toNat, (s.reg .AWL_EPOCH 0).toNat⟩ : AwlRecord))
      (exec (.awlRecordWrite true) s)) ∧
  (∀ (ok : Bool) (s : State),
    s.flag F.AWL_STATUS_FROZEN 0 = true →
    Completes (fun t => t = s)
      (exec (.awlRecordWrite ok) s)) ∧
  (∀ (ok : Bool) (e : Staged) (l : List Staged) (s : State),
    s.flag F.AWL_STATUS_FROZEN 0 = false →
    s.awl.staged = e :: l →
    e.window = false →
    s.awlRoom = false →
    Completes (fun t => t.flag F.AWL_STATUS_FULL 0 = true ∧ t.awl.mram = s.awl.mram ∧ t.reg .AWL_SEQ_NEXT 0 = s.reg .AWL_SEQ_NEXT 0)
      (exec (.awlRecordWrite ok) s)) ∧
  (∀ (src : Requester) (s : State),
    s.closedTo .AWL_CTRL src = false →
    Completes (fun t => t.flag F.AWL_STATUS_FROZEN 0 = true ∧ t.awl = s.awl ∧ t.resp = .OK)
      (exec (.awlFreeze src) s)) ∧
  (∀ (src : Requester) (s : State),
    s.closedTo .AWL_CTRL src = false →
    Completes (fun t => t.flag F.AWL_STATUS_FROZEN 0 = false ∧ t.awl = s.awl ∧ t.resp = .OK)
      (exec (.awlUnfreeze src) s)) ∧
  (∀ (s : State),
    s.flag F.AWL_STATUS_FROZEN 0 = true →
    Completes (fun t => t.flag F.AWL_STATUS_FROZEN 0 = false ∧ bit Irq.AWL_FREEZE_EXPIRED.bit (t.reg .AWL_INT_STAT 0) = true)
      (exec .awlFreezeExpire s)) ∧
  (∀ (src : Requester) (w : Word32) (s : State),
    s.closedTo .AWL_RD_IDX src = false →
    F.AWL_RD_IDX_MEDIUM.of (w.setWidth 64) ≠ 3 →
    Completes (fun t => t.reg .AWL_RD_IDX 0 = s.stored .AWL_RD_IDX 0 (w.setWidth 64) ∧ t.reg .AWL_RD_STAT 0 = 0 ∧ t.awl =
      { s.awl with latching := true } ∧ t.resp = .OK)
      (exec (.awlReadIndex src w) s)) ∧
  (∀ (src : Requester) (w : Word32) (s : State),
    s.closedTo .AWL_RD_IDX src = false →
    F.AWL_RD_IDX_MEDIUM.of (w.setWidth 64) = 3 →
    Completes (fun t => t = s.answer .BAD_ARG)
      (exec (.awlReadIndex src w) s)) ∧
  (∀ (torn : Bool) (s : State),
    s.awl.latching = false →
    Completes (fun t => t = s)
      (exec (.awlReadLatchDone torn) s)) ∧
  (∀ (torn : Bool) (r : AwlRecord) (s : State),
    s.awl.latching = true →
    Tbl.get (fun _ => none) (s.awlRecs (s.fld F.AWL_RD_IDX_MEDIUM 0)) (s.fld F.AWL_RD_IDX_INDEX 0) = some r →
    Completes (fun t => t.flag F.AWL_RD_STAT_DONE 0 = true ∧ t.flag F.AWL_RD_STAT_TORN 0 = torn ∧ t.flag F.AWL_RD_STAT_VALID 0 =
      (!torn && decide (r.epoch = (s.reg .AWL_EPOCH 0).toNat)) ∧ t.awl = { s.awl with latching := false })
      (exec (.awlReadLatchDone torn) s)) ∧
  (∀ (src : Requester) (match_ : Bool) (s : State),
    s.closedTo .AWL_CLR_CTRL src = false →
    (s.flag F.AWL_STATUS_FROZEN 0 = true ∨ s.flag F.AWL_STATUS_CLEARING 0 = true ∨ s.awl.lockout = true) →
    Completes (fun t => t.resp = .BUSY ∧ t.fld F.AWL_CLR_RESULT_STATUS 0 = Status.BUSY.code ∧ t.reg .AWL_EPOCH 0 = s.reg .AWL_EPOCH
      0 ∧ t.reg .AWL_CLR_NONCE 0 = s.free ∧ t.awl = s.awl)
      (exec (.awlClearGo src match_) s)) ∧
  (∀ (src : Requester) (match_ : Bool) (s : State),
    s.closedTo .AWL_CLR_CTRL src = false →
    match_ = true →
    s.flag F.AWL_STATUS_FROZEN 0 = false →
    s.flag F.AWL_STATUS_CLEARING 0 = false →
    s.awl.lockout = false →
    s.awlMedium = awlMram →
    (s.reg .AWL_EPOCH 0).toNat < 2 ^ 32 - 1 →
    Completes (fun t => t.resp = .OK ∧ (t.reg .AWL_EPOCH 0).toNat = (s.reg .AWL_EPOCH 0).toNat + 1 ∧ t.fld F.AWL_CLR_RESULT_FAILS 0
      = 0 ∧ t.flag F.AWL_STATUS_FULL 0 = false ∧ t.reg .AWL_SEQ_NEXT 0 = s.reg .AWL_SEQ_NEXT 0 + 1 ∧ t.reg .AWL_CLR_NONCE 0 =
      s.free)
      (exec (.awlClearGo src match_) s)) ∧
  (∀ (src : Requester) (match_ : Bool) (s : State),
    s.closedTo .AWL_CLR_CTRL src = false →
    match_ = false →
    s.flag F.AWL_STATUS_FROZEN 0 = false →
    s.flag F.AWL_STATUS_CLEARING 0 = false →
    s.awl.lockout = false →
    Completes (fun t => t.resp = .AUTH_FAIL ∧ t.fld F.AWL_CLR_RESULT_FAILS 0 = satTo 8 (s.fld F.AWL_CLR_RESULT_FAILS 0 + 1) ∧
      t.awl.lockout = decide (3 ≤ satTo 8 (s.fld F.AWL_CLR_RESULT_FAILS 0 + 1)) ∧ t.reg .AWL_EPOCH 0 = s.reg .AWL_EPOCH 0 ∧ bit
      Irq.AWL_AUTH_FAIL.bit (t.reg .AWL_INT_STAT 0) = true ∧ t.reg .AWL_CLR_NONCE 0 = s.free)
      (exec (.awlClearGo src match_) s)) ∧
  (∀ (s : State),
    Completes (fun t => t = s.setAwl { s.awl with lockout := false } ∧ t.regs = s.regs)
      (exec .awlClearLockoutExpire s)) ∧
  (∀ (src : Requester) (s : State),
    s.closedTo .AWL_CTRL src = false →
    Completes (fun t => t.awl = { s.awl with retrying := true } ∧ t.flag F.AWL_STATUS_FROZEN 0 = s.flag F.AWL_CTRL_FREEZE 0 ∧ t.resp
      = .OK)
      (exec (.awlRetryMram src) s)) ∧
  (∀ (passed : Bool) (s : State),
    s.awl.retrying = true →
    passed = true →
    s.awlMedium ≠ awlMram →
    Completes (fun t => t.awlMedium = awlMram ∧ t.awl.mramFailed = false ∧ t.awl.retrying = false ∧ t.reg .AWL_SEQ_NEXT 0 = s.reg
      .AWL_SEQ_NEXT 0 + 1)
      (exec (.awlRetryMramDone passed) s)) ∧
  (∀ (passed : Bool) (s : State),
    s.awl.retrying = true →
    passed = false →
    Completes (fun t => t = s.setAwl { s.awl with retrying := false })
      (exec (.awlRetryMramDone passed) s))

/-- Field update (R602 to R613): a datagram is counted and answered, without the layout BAD_ARG, of another owner BUSY; a header
that passes its checks takes the lock and empties the target slot, the first check that fails is its status; data at NEXT
moves NEXT, below it is answered OK, elsewhere BAD_ARG, with eight waiting BUSY; END before BODY_LEN answers NOT_READY; a
verified body makes the slot WRITTEN with the running slot's SEQ + 1, a false digest counts as a failure; abort and idleness
release the lock; ACTIVATE needs a WRITTEN slot, CONFIRM a READY trial whose settings converted and whose microcode loaded,
and it raises the floor; outside a trial CONFIRM and FALLBACK have an unstated status, a free value; an unconfirmed trial
falls back; a good microcode load waits for its swap point. -/
def Obligations.UpdatesAreReceivedVerifiedAndConfirmed : Prop :=
  (∀ (port : Fin 2) (session : BitVec 32) (layout : Bool) (h : ImgHeader) (s : State),
    s.updOpen = true →
    (layout = false ∨ session = 0) →
    Completes (fun t => t.resp = .BAD_ARG ∧ t.reg .UPD_PKT_RX 0 = s.counted .UPD_PKT_RX 0 1 ∧ t.upd = s.upd)
      (exec (.updHeader port session layout h) s)) ∧
  (∀ (port : Fin 2) (session : BitVec 32) (layout : Bool) (h : ImgHeader) (s : State),
    s.updOpen = true →
    layout = true →
    session ≠ 0 →
    s.headerCheck port session h = none →
    Completes (fun t => t.resp = .OK ∧ t.upd.hdr = some h ∧ t.upd.done = 0 ∧ t.upd.waiting = [] ∧ t.fld F.UPD_LOCK_OWNER 0 = port +
      1 ∧ t.reg .UPD_NEXT 0 = 0 ∧ (t.slot s.target).state = .empty)
      (exec (.updHeader port session layout h) s)) ∧
  (∀ (port : Fin 2) (session : BitVec 32) (layout : Bool) (h : ImgHeader) (st : Status) (s : State),
    s.updOpen = true →
    layout = true →
    session ≠ 0 →
    s.headerCheck port session h = some st →
    Completes (fun t => t.resp = st ∧ t.upd.hdr = s.upd.hdr ∧ t.fld F.UPD_LAST_STATUS_STATUS 0 = st.code ∧ t.fld F.UPD_LOCK_OWNER 0
      = s.fld F.UPD_LOCK_OWNER 0 ∧ t.slot s.target = s.slot s.target)
      (exec (.updHeader port session layout h) s)) ∧
  (∀ (port : Fin 2) (session : BitVec 32) (layout : Bool) (off : Nat) (len : Fin 1025) (s : State),
    s.updOpen = true →
    layout = true →
    session ≠ 0 →
    0 < len.val →
    s.locked = true →
    s.isOwner port session = false →
    Completes (fun t => t.resp = .BUSY ∧ t.reg .UPD_PKT_BUSY 0 = s.counted .UPD_PKT_BUSY 0 1 ∧ t.upd = s.upd)
      (exec (.updData port session layout off len) s)) ∧
  (∀ (port : Fin 2) (session : BitVec 32) (layout : Bool) (off : Nat) (len : Fin 1025) (h : ImgHeader) (s : State),
    s.updOpen = true →
    layout = true →
    session ≠ 0 →
    0 < len.val →
    s.isOwner port session = true →
    s.upd.hdr = some h →
    off = (s.reg .UPD_NEXT 0).toNat →
    off + len.val ≤ h.bodyLen →
    h.bodyLen ≤ 67100672 →
    s.upd.ending = false →
    s.upd.waiting.length < 8 →
    Completes (fun t => t.resp = .OK ∧ t.upd.waiting = s.upd.waiting ++ [len.val] ∧ (t.reg .UPD_NEXT 0).toNat = off + len.val)
      (exec (.updData port session layout off len) s)) ∧
  (∀ (port : Fin 2) (session : BitVec 32) (layout : Bool) (off : Nat) (len : Fin 1025) (s : State),
    s.updOpen = true →
    layout = true →
    session ≠ 0 →
    0 < len.val →
    s.isOwner port session = true →
    (s.reg .UPD_NEXT 0).toNat < off →
    Completes (fun t => t.resp = .BAD_ARG ∧ t.upd.waiting = s.upd.waiting ∧ t.reg .UPD_NEXT 0 = s.reg .UPD_NEXT 0)
      (exec (.updData port session layout off len) s)) ∧
  (∀ (port : Fin 2) (session : BitVec 32) (layout : Bool) (off : Nat) (len : Fin 1025) (s : State),
    s.updOpen = true →
    layout = true →
    session ≠ 0 →
    0 < len.val →
    s.isOwner port session = true →
    off + len.val ≤ (s.reg .UPD_NEXT 0).toNat →
    Completes (fun t => t.resp = .OK ∧ t.upd.waiting = s.upd.waiting ∧ t.reg .UPD_NEXT 0 = s.reg .UPD_NEXT 0)
      (exec (.updData port session layout off len) s)) ∧
  (∀ (s : State),
    s.upd.waiting = [] →
    Completes (fun t => t = s)
      (exec .updDataProgrammed s)) ∧
  (∀ (n : Nat) (rest : List Nat) (s : State),
    s.upd.waiting = n :: rest →
    Completes (fun t => t.upd = { s.upd with waiting := rest, done := s.upd.done + n } ∧ t.reg .UPD_NEXT 0 = s.reg .UPD_NEXT 0)
      (exec .updDataProgrammed s)) ∧
  (∀ (port : Fin 2) (session : BitVec 32) (layout : Bool) (h : ImgHeader) (s : State),
    s.updOpen = true →
    layout = true →
    session ≠ 0 →
    s.isOwner port session = true →
    s.upd.hdr = some h →
    (s.reg .UPD_NEXT 0).toNat < h.bodyLen →
    Completes (fun t => t.resp = .NOT_READY ∧ t.upd.ending = s.upd.ending ∧ t.fld F.UPD_LAST_STATUS_STATUS 0 =
      Status.NOT_READY.code)
      (exec (.updEnd port session layout) s)) ∧
  (∀ (port : Fin 2) (session : BitVec 32) (layout : Bool) (h : ImgHeader) (s : State),
    s.updOpen = true →
    layout = true →
    session ≠ 0 →
    s.isOwner port session = true →
    s.upd.hdr = some h →
    h.bodyLen ≤ (s.reg .UPD_NEXT 0).toNat →
    Completes (fun t => t.upd.ending = true ∧ t.sent = s.sent)
      (exec (.updEnd port session layout) s)) ∧
  (∀ (matches_ : Bool) (h : ImgHeader) (s : State),
    s.upd.hdr = some h →
    s.upd.ending = true →
    s.upd.waiting = [] →
    matches_ = true →
    Completes (fun t => t.slot s.target = ⟨.written, 0, h, (s.slot s.runSlot).seq + 1⟩ ∧ t.locked = false ∧ t.resp = .OK ∧ bit
      Irq.UPD_READY.bit (t.reg .UPD_INT_STAT 0) = true)
      (exec (.updBodyVerified matches_) s)) ∧
  (∀ (matches_ : Bool) (h : ImgHeader) (s : State),
    s.upd.hdr = some h →
    s.upd.ending = true →
    s.upd.waiting = [] →
    matches_ = false →
    Completes (fun t => t.slot s.target = s.slot s.target ∧ t.locked = false ∧ t.resp = .AUTH_FAIL ∧ t.reg .UPD_AUTH_FAILS 0 =
      s.counted .UPD_AUTH_FAILS 0 1)
      (exec (.updBodyVerified matches_) s)) ∧
  (∀ (port : Fin 2) (session : BitVec 32) (layout : Bool) (s : State),
    s.updOpen = true →
    layout = true →
    session ≠ 0 →
    s.isOwner port session = true →
    Completes (fun t => t.locked = false ∧ t.resp = .OK ∧ t.upd.hdr = none ∧ t.reg .UPD_NEXT 0 = 0)
      (exec (.updAbortDatagram port session layout) s)) ∧
  (∀ (port : Fin 2) (session : BitVec 32) (layout : Bool) (s : State),
    s.updOpen = true →
    layout = true →
    session ≠ 0 →
    s.locked = false →
    Completes (fun t => t.resp = s.freeStatus ∧ t.upd = s.upd)
      (exec (.updAbortDatagram port session layout) s)) ∧
  (∀ (port : Fin 2) (session : BitVec 32) (layout : Bool) (s : State),
    s.updOpen = true →
    layout = true →
    session ≠ 0 →
    Completes (fun t => t.resp = .OK ∧ t.fld F.UPD_LOCK_OWNER 0 = s.fld F.UPD_LOCK_OWNER 0 ∧ t.reg .UPD_PKT_RX 0 = s.counted
      .UPD_PKT_RX 0 1)
      (exec (.updQuery port session layout) s)) ∧
  (∀ (port : Fin 2) (session : BitVec 32) (layout : Bool) (s : State),
    s.updOpen = false →
    Completes (fun t => t = s)
      (exec (.updQuery port session layout) s)) ∧
  (∀ (s : State),
    s.locked = true →
    Completes (fun t => t.locked = false ∧ t.upd.hdr = none ∧ t.reg .UPD_NEXT 0 = 0)
      (exec .updLockIdleTimeout s)) ∧
  (∀ (src : Requester) (level : BitVec 16) (s : State),
    s.closedTo .UPD_CTRL src = false →
    (s.slot s.target).state ≠ .written →
    Completes (fun t => t.resp = .NOT_READY ∧ t.upd = s.upd ∧ t.bootStage = s.bootStage ∧ t.fld F.UPD_LAST_STATUS_STATUS 0 =
      Status.NOT_READY.code)
      (exec (.updActivate src level) s)) ∧
  (∀ (src : Requester) (level : BitVec 16) (s : State),
    s.closedTo .UPD_CTRL src = false →
    (s.slot s.target).state = .written →
    s.paired = true →
    s.fld F.NIM_PAIR_STAT_PARTNER 0 ≠ 2 →
    level.toNat ≠ (s.slot s.target).hdr.pairLevel →
    Completes (fun t => t.resp = .REFUSED_POLICY ∧ t.upd = s.upd ∧ bit Irq.UPD_REFUSED.bit (t.reg .UPD_INT_STAT 0) = true)
      (exec (.updActivate src level) s)) ∧
  (∀ (src : Requester) (level : BitVec 16) (s : State),
    s.closedTo .UPD_CTRL src = false →
    (s.slot s.target).state = .written →
    (s.slot s.target).attempts = 0 →
    (s.slot s.runSlot).state ≠ .trial →
    s.runSlot < 2 →
    s.mirrored = false →
    Completes (fun t => t.runSlot = s.target ∧ (t.slot s.target).state = .trial ∧ (t.slot s.target).attempts = 1 ∧ t.bootStage =
      stageWarmBoot ∧ t.resp = .OK ∧ bit Irq.UPD_TRIAL.bit (t.reg .UPD_INT_STAT 0) = true)
      (exec (.updActivate src level) s)) ∧
  (∀ (src : Requester) (s : State),
    s.closedTo .UPD_CTRL src = false →
    s.onTrial = true →
    s.bootStage = stageReady →
    s.flag F.SET_STATUS_CONVERT_FAIL 0 = false →
    s.fld F.UPD_MC_STAT_FAIL 0 = 0 →
    (s.slot s.runSlot).hdr.floorReq < 2 ^ 32 →
    Completes (fun t => (t.slot s.runSlot).state = .confirmed ∧ t.resp = .OK ∧ t.floor = max s.floor (s.slot s.runSlot).hdr.floorReq
      ∧ bit Irq.UPD_CONFIRMED.bit (t.reg .UPD_INT_STAT 0) = true)
      (exec (.updConfirm src) s)) ∧
  (∀ (src : Requester) (s : State),
    s.closedTo .UPD_CTRL src = false →
    s.onTrial = true →
    s.bootStage ≠ stageReady →
    Completes (fun t => t.resp = .NOT_READY ∧ t.upd = s.upd)
      (exec (.updConfirm src) s)) ∧
  (∀ (src : Requester) (s : State),
    s.closedTo .UPD_CTRL src = false →
    s.onTrial = false →
    Completes (fun t => t.resp = s.freeStatus ∧ t.upd = s.upd)
      (exec (.updConfirm src) s)) ∧
  (∀ (src : Requester) (s : State),
    s.closedTo .UPD_CTRL src = false →
    s.onTrial = true →
    s.runSlot = 1 →
    s.bootable 0 = true →
    Completes (fun t => (t.slot 1).state = .rejected ∧ t.runSlot = 0 ∧ t.bootStage = stageWarmBoot ∧ t.fld F.BOOT_CAUSE_CAUSE 0 =
      causeFallback ∧ bit Irq.UPD_FALLBACK.bit (t.reg .UPD_INT_STAT 0) = true)
      (exec (.updFallback src) s)) ∧
  (∀ (src : Requester) (s : State),
    s.closedTo .UPD_CTRL src = false →
    s.onTrial = false →
    Completes (fun t => t.resp = s.freeStatus ∧ t.upd = s.upd)
      (exec (.updFallback src) s)) ∧
  (∀ (src : Requester) (s : State),
    s.closedTo .UPD_CTRL src = false →
    Completes (fun t => t.locked = false ∧ t.resp = .OK ∧ t.fld F.UPD_LAST_STATUS_STATUS 0 = 0)
      (exec (.updCtrlAbort src) s)) ∧
  (∀ (s : State),
    s.onTrial = true →
    s.runSlot = 1 →
    s.bootable 0 = true →
    Completes (fun t => (t.slot 1).state = .rejected ∧ t.runSlot = 0 ∧ t.bootStage = stageWarmBoot)
      (exec .updConfirmTimeout s)) ∧
  (∀ (s : State),
    s.onTrial = false →
    Completes (fun t => t = s)
      (exec .updConfirmTimeout s)) ∧
  (∀ (block : Fin 4) (good : Bool) (s : State),
    good = true →
    Completes (fun t => t.upd.loaded.contains block.val = true ∧ t.flag ⟨.UPD_MC_STAT, 8 + block, 1⟩ 0 = false)
      (exec (.microcodeLoad block good) s)) ∧
  (∀ (block : Fin 4) (good : Bool) (s : State),
    good = false →
    Completes (fun t => t.upd.loaded.contains block.val = false ∧ t.flag ⟨.UPD_MC_STAT, 8 + block, 1⟩ 0 = true ∧ t.flag
      ⟨.UPD_MC_STAT, block, 1⟩ 0 = s.flag ⟨.UPD_MC_STAT, block, 1⟩ 0)
      (exec (.microcodeLoad block good) s)) ∧
  (∀ (block : Fin 4) (s : State),
    s.upd.loaded.contains block.val = true →
    Completes (fun t => t.flag ⟨.UPD_MC_STAT, block, 1⟩ 0 = !s.flag ⟨.UPD_MC_STAT, block, 1⟩ 0 ∧ t.upd.loaded.contains block.val =
      false)
      (exec (.microcodeSwap block) s)) ∧
  (∀ (block : Fin 4) (s : State),
    s.upd.loaded.contains block.val = false →
    Completes (fun t => t = s)
      (exec (.microcodeSwap block) s))

/-- Ingress, the Twill fabric and the flow directory: what each command leaves unchanged. For each command named, in every state:
it completes, and it changes nothing outside its footprint (the first list: parts of the state beside the registers; the
second: registers). Every part not listed and every element of every register not listed reads as before, and the register
store stays sound. -/
def Obligations.IngressAndTwillFrames : Prop :=
  (let ft : Foot := ⟨[.ing],
      []⟩;
    (∀ (n : Fin 128) (s : State), Completes (Frame ft s) (exec (.sdiRateHuntDwell n) s))) ∧
  (let ft : Foot := ⟨[.sent, .host, .awl, .ing],
      .GLB_INT_SUM :: .ING_INT_STAT :: .ING_IN_LOSSCNT :: .ING_IN_STAT :: .ING_LOSS_SUM :: .ING_SDI_RATE :: awlFoot⟩;
    (∀ (n : Fin 128) (s : State), Completes (Frame ft s) (exec (.sdiLockLossTimeout n) s))) ∧
  (let ft : Foot := ⟨[.sent, .host, .ing],
      [.GLB_INT_SUM, .ING_INT_STAT, .ING_SDI_ANCDROP, .ING_SDI_AUDGRP, .ING_SDI_CRC]⟩;
    (∀ (n : Fin 128) (crcErrors : Nat) (anc : List AncPkt) (s : State), Completes (Frame ft s) (exec (.sdiLineReceive n crcErrors
      anc) s))) ∧
  (let ft : Foot := ⟨[.sent, .host, .awl, .ing],
      .GLB_INT_SUM :: .ING_INT_STAT :: .ING_IN_LOSSCNT :: .ING_IN_STAT :: .ING_LOSS_SUM :: awlFoot⟩;
    (∀ (n : Fin 128) (s : State), Completes (Frame ft s) (exec (.trsLoss n) s)) ∧
    (∀ (m : Fin 256) (s : State), Completes (Frame ft s) (exec (.packetLossTimeout m) s))) ∧
  (let ft : Foot := ⟨[.sent, .host, .awl, .ing],
      .GLB_INT_SUM :: .ING_INT_STAT :: .ING_IN_ALLOC :: .ING_IN_BADFRM :: .ING_IN_FMT :: .ING_IN_LOSSCNT :: .ING_IN_STAT ::
        .ING_LOSS_SUM :: .ING_POOL_USED :: .ING_SDI_352 :: awlFoot⟩;
    (∀ (n : Fin 128) (m : FrameMeas) (pid : Option Pid) (skewed : Bool) (s : State), Completes (Frame ft s) (exec (.sdiFrameEnd n m
      pid skewed) s))) ∧
  (let ft : Foot := ⟨[.sent, .host, .awl, .ing],
      .GLB_INT_SUM :: .ING_INT_STAT :: .ING_IN_ALLOC :: .ING_IN_BADFRM :: .ING_IN_FMT :: .ING_IN_LOSSCNT :: .ING_IN_STAT ::
        .ING_LOSS_SUM :: .ING_PKT_PDMEAS :: .ING_PKT_STAT :: .ING_POOL_USED :: awlFoot⟩;
    (∀ (m : Fin 256) (num : Nat) (form : Form) (diff : BitVec 32) (s : State), Completes (Frame ft s) (exec (.videoFrameClose m num
      form diff) s))) ∧
  (let ft : Foot := ⟨[],
      [.ING_PKT_STAT]⟩;
    (∀ (m : Fin 256) (legB : Bool) (s : State), Completes (Frame ft s) (exec (.legSilence m legB) s))) ∧
  (let ft : Foot := ⟨[.ing],
      [.ING_IN_BADFRM]⟩;
    (∀ (n : Fin 128) (s : State), Completes (Frame ft s) (exec (.syncReadInterrupt n) s))) ∧
  (let ft : Foot := ⟨[.resp, .sent, .host, .awl, .ing],
      .ING_INT_STAT :: .ING_IN_ALLOC :: .ING_IN_CFG :: .ING_IN_FMT :: .ING_IN_LOSSCNT :: .ING_IN_STAT :: .ING_LOSS_SUM ::
        .ING_POOL_USED :: .ING_STATUS :: .TWD_IN_RES :: (awlFoot ++ pcieFoot)⟩;
    (∀ (src : Requester) (n : Fin 384) (w : Word32) (s : State), Completes (Frame ft s) (exec (.inputEnable src n w) s)) ∧
    (∀ (src : Requester) (n : Fin 384) (s : State), Completes (Frame ft s) (exec (.inputDisable src n) s)) ∧
    (∀ (src : Requester) (n : Fin 384) (s : State), Completes (Frame ft s) (exec (.inputKill src n) s)) ∧
    (∀ (src : Requester) (n : Fin 384) (mode : BitVec 2) (s : State), Completes (Frame ft s) (exec (.inputModeChange src n mode) s))
      ∧
    (∀ (src : Requester) (n : Fin 384) (otd : Fin 8) (s : State), Completes (Frame ft s) (exec (.inputDomainChange src n otd) s))) ∧
  (let ft : Foot := ⟨[.ing],
      [.ING_IN_ALLOC, .ING_IN_STAT, .ING_LOSS_SUM, .ING_POOL_USED, .ING_STATUS]⟩;
    (∀ (n : Fin 384) (s : State), Completes (Frame ft s) (exec (.inputDrainDone n) s))) ∧
  (let ft : Foot := ⟨[.resp, .sent, .host, .ing],
      .ING_INT_STAT :: .ING_IN_ALLOC :: .ING_IN_SYNC :: .ING_POOL_USED :: pcieFoot⟩;
    (∀ (src : Requester) (n : Fin 384) (w : Word32) (s : State), Completes (Frame ft s) (exec (.delayFramesChange src n w) s))) ∧
  (let ft : Foot := ⟨[.resp, .sent, .host, .ing],
      .ING_INT_STAT :: .ING_PKT_VID :: pcieFoot⟩;
    (∀ (src : Requester) (m : Fin 256) (w : Word32) (s : State), Completes (Frame ft s) (exec (.videoFlowBinding src m w) s))) ∧
  (let ft : Foot := ⟨[.resp, .sent, .host, .ing],
      .ING_INT_STAT :: .ING_IN_ALLOC :: .ING_PKT_PD :: .ING_POOL_USED :: pcieFoot⟩;
    (∀ (src : Requester) (m : Fin 256) (w : Word32) (s : State), Completes (Frame ft s) (exec (.pdMaxWrite src m w) s))) ∧
  (let ft : Foot := ⟨[.resp, .sent, .host],
      .ING_AFL_CFG :: .ING_INT_STAT :: .TWD_IN_RES :: pcieFoot⟩;
    (∀ (src : Requester) (a : Fin 1024) (w : Word32) (s : State), Completes (Frame ft s) (exec (.audioContextBinding src a w) s))) ∧
  (let ft : Foot := ⟨[.resp, .sent, .host],
      .ING_AFL_OFF :: .ING_INT_STAT :: pcieFoot⟩;
    (∀ (src : Requester) (a : Fin 1024) (w : Word32) (s : State), Completes (Frame ft s) (exec (.audioOffsetWrite src a w) s))) ∧
  (let ft : Foot := ⟨[.resp, .sent, .host],
      .ING_ANF_CFG :: .ING_INT_STAT :: pcieFoot⟩;
    (∀ (src : Requester) (a : Fin 512) (w : Word32) (s : State), Completes (Frame ft s) (exec (.ancContextBinding src a w) s))) ∧
  (let ft : Foot := ⟨[.resp, .sent, .host, .ing],
      .ING_INT_STAT :: .ING_SDI_CFG :: .TWD_IN_RES :: pcieFoot⟩;
    (∀ (src : Requester) (n : Fin 128) (w : Word32) (s : State), Completes (Frame ft s) (exec (.sdiCfgWrite src n w) s))) ∧
  (let ft : Foot := ⟨[.resp, .sent, .host],
      .ING_INT_STAT :: .ING_POOL_PAGES :: pcieFoot⟩;
    (∀ (src : Requester) (w : Word32) (s : State), Completes (Frame ft s) (exec (.poolPagesWrite src w) s))) ∧
  (let ft : Foot := ⟨[.resp, .sent, .host],
      .ING_CTRL :: .ING_INT_STAT :: .ING_IN_CFG :: .ING_IN_STAT :: .ING_LOSS_SUM :: .ING_STATUS :: .TWD_IN_RES :: pcieFoot⟩;
    (∀ (src : Requester) (s : State), Completes (Frame ft s) (exec (.ingressDisable src) s))) ∧
  (let ft : Foot := ⟨[.sent, .host, .twl],
      [.GLB_INT_SUM, .TWL_BAD_HDR, .TWL_CW_CORR, .TWL_CW_UNCORR, .TWL_HOP_DROP, .TWL_INT_STAT, .TWL_LK_CW_CORR, .TWL_LK_FWD,
        .TWL_LK_RX_CELLS, .TWL_LK_TX_CELLS, .TWL_NO_ROUTE, .TWL_SP_CELLS_OUT, .TWL_SP_SEQ_GAP]⟩;
    (∀ (p : Fin 168) (fromLace : Bool) (h : CellHdr) (e0 e1 e2 e3 : Fin 4) (view : List (Nat × Nat)) (s : State), Completes (Frame
      ft s) (exec (.cellReceive p fromLace h e0 e1 e2 e3 view) s))) ∧
  (let ft : Foot := ⟨[.sent, .host, .twl],
      [.GLB_INT_SUM, .TWL_AQ_STAT, .TWL_HOP_DROP, .TWL_INT_STAT, .TWL_LK_FWD, .TWL_LK_TX_CELLS, .TWL_NO_ROUTE, .TWL_SP_AQ_ACTIVE,
        .TWL_SP_CELLS_IN, .TWL_ST_CELLS]⟩;
    (∀ (p : Fin 168) (slot : Fin 4096) (ready : Option CellHdr) (s : State), Completes (Frame ft s) (exec (.calendarSlot p slot
      ready) s))) ∧
  (let ft : Foot := ⟨[.sent, .host, .awl, .twl, .rsl],
      .GLB_INT_SUM :: .RSL_INT_STAT :: .RSL_PHYS_STAT :: .RSL_UNIT_STAT :: .RSL_UNIT_SWAPS :: .TWL_INT_STAT :: .TWL_SPARE_MAP ::
        .TWL_SP_FAIR_VIOL :: .TWL_SP_FREE :: .TWL_SWAP_STAT :: (awlFoot ++ routeFoot)⟩;
    (∀ (s : State), Completes (Frame ft s) (exec .calendarPeriodBoundary s))) ∧
  (let ft : Foot := ⟨[.resp, .twl],
      [.TWL_ADMIT_REFUSED]⟩;
    (∀ (h : RouteHop) (s : State), Completes (Frame ft s) (exec (.routeRequest h) s))) ∧
  (let ft : Foot := ⟨[.resp, .twl],
      [.TWL_AQ_STAT, .TWL_SP_STAT]⟩;
    (∀ (p : Fin 168) (branch : Fin 5) (dchip : Fin 1024) (dport : Fin 168) (s : State), Completes (Frame ft s) (exec
      (.arbitratedQueueOpen p branch dchip dport) s))) ∧
  (let ft : Foot := ⟨[.resp, .twl],
      [.TWL_AQ_STAT, .TWL_SP_AQ_ACTIVE]⟩;
    (∀ (p : Fin 168) (q : Fin 64) (h : CellHdr) (s : State), Completes (Frame ft s) (exec (.arbitratedCellEnqueue p q h) s))) ∧
  (let ft : Foot := ⟨[.resp, .sent, .host, .awl, .twl],
      .GLB_INT_SUM :: .TWL_ADMIT_REFUSED :: awlFoot⟩;
    (∀ (old : Nat) (link : Fin 16) (h : RouteHop) (s : State), Completes (Frame ft s) (exec (.rerouteStream old link h) s))) ∧
  (let ft : Foot := ⟨[.resp, .sent, .host, .awl, .twl, .nim, .tks, .egr, .dir],
      .EGR_OUT_TAKE :: .TWL_DIR_CONFLICT :: .TWL_DIR_COUNT :: .TWL_DIR_DATA :: .TWL_DIR_OVF :: .TWL_DIR_OWN :: .TWL_DIR_RESULT ::
        .TWL_DIR_SEQ :: .TWL_INT_STAT :: (awlFoot ++ pcieFoot ++ routeFoot)⟩;
    (∀ (src : Requester) (s : State), Completes (Frame ft s) (exec (.dirRead src) s)) ∧
    (∀ (src : Requester) (ovf : Bool) (s : State), Completes (Frame ft s) (exec (.dirWrite src ovf) s)) ∧
    (∀ (src : Requester) (s : State), Completes (Frame ft s) (exec (.dirWithdraw src) s))) ∧
  (let ft : Foot := ⟨[.sent, .host, .awl, .twl, .tks, .egr, .dir],
      .EGR_OUT_TAKE :: .GLB_INT_SUM :: .TWL_DIR_CONFLICT :: .TWL_DIR_COUNT :: .TWL_DIR_LAG :: .TWL_DIR_OVF :: .TWL_DIR_OWN ::
        .TWL_INT_STAT :: (awlFoot ++ routeFoot)⟩;
    (∀ (u : DirUpdate) (ovf : Bool) (s : State), Completes (Frame ft s) (exec (.dirUpdateReceive u ovf) s))) ∧
  (let ft : Foot := ⟨[.sent, .twl],
      []⟩;
    (∀ (part from_ : Nat) (s : State), Completes (Frame ft s) (exec (.dirMissingRequestReceive part from_) s))) ∧
  (let ft : Foot := ⟨[.resp, .sent, .host, .awl, .twl, .nim, .tks, .egr, .dir],
      .EGR_OUT_TAKE :: .GLB_INT_SUM :: .TWL_DIR_CONFLICT :: .TWL_DIR_COUNT :: .TWL_DIR_OVF :: .TWL_DIR_OWN :: .TWL_DIR_RESULT ::
        .TWL_DIR_SEQ :: .TWL_INT_STAT :: (awlFoot ++ routeFoot)⟩;
    (∀ (part seq : Nat) (conflict : Bool) (s : State), Completes (Frame ft s) (exec (.dirAckReceive part seq conflict) s)) ∧
    (∀ (seq : Nat) (s : State), Completes (Frame ft s) (exec (.dirAckTimeout seq) s))) ∧
  (let ft : Foot := ⟨[.sent, .host, .awl, .twl, .tks, .egr, .dir],
      .EGR_OUT_TAKE :: .GLB_INT_SUM :: .TWL_DIR_CONFLICT :: .TWL_DIR_COUNT :: .TWL_DIR_LAG :: .TWL_DIR_OVF :: .TWL_DIR_OWN ::
        .TWL_INT_STAT :: .TWL_STATUS :: (awlFoot ++ routeFoot)⟩;
    (∀ (origins : List Nat) (s : State), Completes (Frame ft s) (exec (.dirResyncStart origins) s)) ∧
    (∀ (origin seq : Nat) (entries : Option (List (Nat × Word128))) (updates : List DirUpdate) (ovf : List Nat) (s : State),
      Completes (Frame ft s) (exec (.dirResyncAnswer origin seq entries updates ovf) s))) ∧
  (let ft : Foot := ⟨[.twl],
      [.TWL_DIR_LAG, .TWL_STATUS]⟩;
    (∀ (origin : Nat) (s : State), Completes (Frame ft s) (exec (.dirResyncOriginTimeout origin) s))) ∧
  (let ft : Foot := ⟨[.resp, .sent, .host, .twl],
      .RSL_UNIT_STAT :: .TWL_INT_STAT :: .TWL_SPARE_MAP :: .TWL_SP_STAT :: .TWL_SWAP_CTRL :: .TWL_SWAP_STAT :: pcieFoot⟩;
    (∀ (src : Requester) (p : Fin 256) (spare : Fin 2) (s : State), Completes (Frame ft s) (exec (.slicePortSwap src p spare) s)) ∧
    (∀ (src : Requester) (p : Fin 256) (passed : Bool) (s : State), Completes (Frame ft s) (exec (.slicePortSwapBack src p passed)
      s))) ∧
  (let ft : Foot := ⟨[.twl, .rsl],
      [.RSL_PHYS_STAT, .RSL_UNIT_STAT, .TWL_SPARE_MAP, .TWL_SP_STAT, .TWL_SWAP_STAT]⟩;
    (∀ (s : State), Completes (Frame ft s) (exec .swapSpareFail s))) ∧
  (let ft : Foot := ⟨[.sent, .host, .awl, .twl],
      .GLB_INT_SUM :: (awlFoot ++ routeFoot)⟩;
    (∀ (p : Fin 168) (s : State), Completes (Frame ft s) (exec (.slicePortFail p) s))) ∧
  (let ft : Foot := ⟨[.resp, .sent, .host, .twl],
      .TWL_CTRL :: .TWL_INT_STAT :: .TWL_KILLED :: .TWL_STATUS :: pcieFoot⟩;
    (∀ (src : Requester) (s : State), Completes (Frame ft s) (exec (.twillDisable src) s)) ∧
    (∀ (src : Requester) (inFlight : Nat) (s : State), Completes (Frame ft s) (exec (.twillKill src inFlight) s))) ∧
  (let ft : Foot := ⟨[.twl],
      [.TWL_STATUS]⟩;
    (∀ (s : State), Completes (Frame ft s) (exec .twillDrainDone s))) ∧
  (let ft : Foot := ⟨[.resp, .sent, .host],
      .TWL_INT_STAT :: .TWL_V6PFX :: .TWL_V6SRC :: pcieFoot⟩;
    (∀ (src : Requester) (source : Bool) (ix : Fin 3) (w : Word32) (s : State), Completes (Frame ft s) (exec (.v6PrefixWrite src
      source ix w) s)))

/-- Output domains, outputs, senders, joins and takes: what each command leaves unchanged. For each command named, in every state:
it completes, and it changes nothing outside its footprint (the first list: parts of the state beside the registers; the
second: registers). Every part not listed and every element of every register not listed reads as before, and the register
store stays sound. -/
def Obligations.EgressAndTakeFrames : Prop :=
  (let ft : Foot := ⟨[.resp, .sent, .host, .twl, .nim, .tks, .egr],
      .EGR_OUT_TAKE :: .GLB_INT_SUM :: .NIM_CQ_LOST :: .NIM_CQ_TAIL :: .NIM_INT_STAT :: .NIM_JRN_FREE :: .NIM_JRN_OPEN ::
        .NIM_SVC_STAT :: routeFoot⟩;
    (∀ (req : Nat) (s : State), Completes (Frame ft s) (exec (.routeHoldTimeout req) s)) ∧
    (∀ (req : Nat) (s : State), Completes (Frame ft s) (exec (.holdReleaseReport req) s))) ∧
  (let ft : Foot := ⟨[.resp, .sent, .twl, .tks, .egr],
      .EGR_OUT_TAKE :: routeFoot⟩;
    (∀ (req : Nat) (s : State), Completes (Frame ft s) (exec (.routeSettle req) s))) ∧
  (let ft : Foot := ⟨[.resp, .freeCtr, .sent, .host, .twl, .nim, .tks],
      .EGR_OUT_TAKE :: .GLB_INT_SUM :: .NIM_CQ_LOST :: .NIM_CQ_TAIL :: .NIM_INT_STAT :: .NIM_JRN_FREE :: .NIM_JRN_OPEN ::
        .NIM_SVC_STAT :: .TWL_ADMIT_REFUSED :: routeFoot⟩;
    (∀ (key : Key) (salvo : Nat) (atomic : Bool) (time : Nat) (members : List (Word × TakeView)) (s : State), Completes (Frame ft s)
      (exec (.forwardedTake key salvo atomic time members) s))) ∧
  (let ft : Foot := ⟨[.resp, .sent, .host, .twl, .nim, .tks],
      .EGR_OUT_TAKE :: .GLB_INT_SUM :: .NIM_CQ_LOST :: .NIM_CQ_TAIL :: .NIM_INT_STAT :: .NIM_JRN_FREE :: .NIM_JRN_OPEN ::
        .NIM_SVC_STAT :: routeFoot⟩;
    (∀ (key : Key) (sig pos : Nat) (st : Status) (s : State), Completes (Frame ft s) (exec (.partnerAdmissionResult key sig pos st)
      s))) ∧
  (let ft : Foot := ⟨[.resp, .freeCtr, .sent, .host, .twl, .nim, .tks],
      .EGR_OUT_TAKE :: .GLB_INT_SUM :: .NIM_CQ_LOST :: .NIM_CQ_TAIL :: .NIM_INT_STAT :: .NIM_JRN_FREE :: .NIM_JRN_OPEN ::
        .NIM_SVC_STAT :: routeFoot⟩;
    (∀ (key : Key) (sig pos : Nat) (s : State), Completes (Frame ft s) (exec (.takeArmed key sig pos) s))) ∧
  (let ft : Foot := ⟨[.sent, .host, .twl, .nim, .tks, .egr],
      [.EGR_HEALTH_STAT, .EGR_INT_STAT, .EGR_OUT_STAT, .EGR_OUT_TAKE, .GLB_INT_SUM, .NIM_CQ_LOST, .NIM_CQ_TAIL, .NIM_INT_STAT,
        .NIM_SVC_STAT]⟩;
    (∀ (d : Fin 8) (s : State), Completes (Frame ft s) (exec (.switchPoint d) s))) ∧
  (let ft : Foot := ⟨[.twl, .tks],
      .TWL_ADMIT_REFUSED :: routeFoot⟩;
    (∀ (key : Key) (sig pos : Nat) (v : TakeView) (s : State), Completes (Frame ft s) (exec (.takeRouteLost key sig pos v) s))) ∧
  (let ft : Foot := ⟨[.sent, .twl, .tks, .egr],
      [.EGR_OUT_TAKE, .TWL_ADMIT_REFUSED]⟩;
    (∀ (n : Fin 128) (v : TakeView) (s : State), Completes (Frame ft s) (exec (.routeRetry n v) s))) ∧
  (let ft : Foot := ⟨[.resp, .freeCtr, .sent, .host, .awl, .tks, .rsl],
      .GLB_ALERT_STAT :: .GLB_INT_STAT :: .GLB_INT_SUM :: .RSL_INT_STAT :: .RSL_XCHK_DIV :: .RSL_XCHK_EXPL :: .RSL_XCHK_LAST ::
        .RSL_XCHK_MISS :: awlFoot⟩;
    (∀ (r : XchkRec) (s : State), Completes (Frame ft s) (exec (.xchkRecordReceive r) s))) ∧
  (let ft : Foot := ⟨[.sent, .host, .awl, .ing, .twl, .tks, .egr, .vmp, .rsl],
      .EGR_HEALTH_STAT :: .EGR_INT_STAT :: .EGR_OTD_FCNT :: .EGR_OTD_STAT :: .EGR_OUT_STAT :: .EGR_VSND_STAT :: .GLB_INT_SUM ::
        .ING_INT_STAT :: .ING_IN_ALLOC :: .ING_IN_LOSSCNT :: .ING_IN_PHASE :: .ING_IN_SLIP :: .ING_IN_STAT :: .ING_LOSS_SUM ::
        .ING_POOL_USED :: .RSL_XCHK_MISS :: .VMP_INT_STAT :: .VMP_LAYER_STAT :: .VMP_PIPE_APPLIED :: .VMP_PIPE_HELD ::
        .VMP_PIPE_NRDY :: .VMP_PIPE_PEND :: .VMP_PIPE_STAT :: .VMP_SURF_USE :: (awlFoot ++ routeFoot)⟩;
    (∀ (d : Fin 8) (phases : List (Fin 384 × Int)) (crcs : List (Fin 128 × BitVec 64 × BitVec 6)) (s : State), Completes (Frame ft
      s) (exec (.otdFrameBoundary d phases crcs) s))) ∧
  (let ft : Foot := ⟨[.resp, .sent, .host, .egr],
      .EGR_HEALTH_STAT :: .EGR_INT_STAT :: .EGR_OTD_CFG :: .EGR_OTD_FCNT :: .EGR_OTD_STAT :: pcieFoot⟩;
    (∀ (src : Requester) (d : Fin 8) (w : Word32) (s : State), Completes (Frame ft s) (exec (.otdConfigWrite src d w) s))) ∧
  (let ft : Foot := ⟨[.resp, .sent, .host, .egr],
      .EGR_HEALTH_STAT :: .EGR_INT_STAT :: .EGR_OTD_PHASE :: .EGR_OTD_STAT :: pcieFoot⟩;
    (∀ (src : Requester) (d : Fin 8) (w : Word32) (s : State), Completes (Frame ft s) (exec (.otdPhaseWrite src d w) s))) ∧
  (let ft : Foot := ⟨[.resp, .sent, .host, .twl, .nim, .tks, .egr],
      .EGR_HEALTH_STAT :: .EGR_INT_STAT :: .EGR_OUT_CFG :: .EGR_OUT_STAT :: .EGR_OUT_TAKE :: .EGR_STATUS :: .EGR_VSND_MISS ::
        .EGR_VSND_STAT :: .NIM_CQ_LOST :: .NIM_CQ_TAIL :: .NIM_INT_STAT :: .NIM_JRN_FREE :: .NIM_JRN_OPEN :: .NIM_SVC_STAT ::
        .TWD_OUT_RES :: (pcieFoot ++ routeFoot)⟩;
    (∀ (src : Requester) (n : Fin 128) (w : Word32) (s : State), Completes (Frame ft s) (exec (.outputEnable src n w) s)) ∧
    (∀ (src : Requester) (n : Fin 128) (s : State), Completes (Frame ft s) (exec (.outputDisable src n) s)) ∧
    (∀ (src : Requester) (n : Fin 128) (s : State), Completes (Frame ft s) (exec (.outputKill src n) s)) ∧
    (∀ (src : Requester) (n : Fin 128) (ovr : BitVec 2) (pat : Fin 16) (s : State), Completes (Frame ft s) (exec (.overrideWrite src
      n ovr pat) s))) ∧
  (let ft : Foot := ⟨[.sent, .host, .egr],
      [.EGR_HEALTH_STAT, .EGR_INT_STAT, .EGR_OUT_STAT, .EGR_STATUS, .EGR_VSND_MISS, .EGR_VSND_STAT, .GLB_INT_SUM, .TWD_OUT_RES]⟩;
    (∀ (n : Fin 128) (s : State), Completes (Frame ft s) (exec (.outputDrainDone n) s))) ∧
  (let ft : Foot := ⟨[.sent, .host, .egr],
      [.EGR_INT_STAT, .EGR_OUT_ANCDROP, .EGR_OUT_GAP, .EGR_OUT_STAT, .GLB_INT_SUM]⟩;
    (∀ (n : Fin 128) (gaps slips ancDrops : Nat) (s : State), Completes (Frame ft s) (exec (.outputLine n gaps slips ancDrops) s))) ∧
  (let ft : Foot := ⟨[.resp, .sent, .host],
      .EGR_INT_STAT :: .EGR_PAT_CFG :: pcieFoot⟩;
    (∀ (src : Requester) (p : Fin 16) (w : Word32) (s : State), Completes (Frame ft s) (exec (.patternGenConfig src p w) s))) ∧
  (let ft : Foot := ⟨[.resp, .sent, .host],
      .EGR_INT_STAT :: .EGR_OUT_IDENT :: pcieFoot⟩;
    (∀ (src : Requester) (n : Fin 128) (ix : Fin 8) (w : Word32) (s : State), Completes (Frame ft s) (exec (.identWrite src n ix w)
      s))) ∧
  (let ft : Foot := ⟨[.resp, .sent, .host],
      .EGR_INT_STAT :: .EGR_OUT_AUD :: .TWD_OUT_RES :: pcieFoot⟩;
    (∀ (src : Requester) (n : Fin 128) (w : Word32) (s : State), Completes (Frame ft s) (exec (.outAudioWrite src n w) s))) ∧
  (let ft : Foot := ⟨[.resp, .sent, .host],
      .EGR_INT_STAT :: .EGR_OUT_SDI :: pcieFoot⟩;
    (∀ (src : Requester) (n : Fin 128) (w : Word32) (s : State), Completes (Frame ft s) (exec (.outSdiBond src n w) s))) ∧
  (let ft : Foot := ⟨[.resp, .sent, .host, .twl, .tks, .egr],
      .EGR_INT_STAT :: .EGR_VSND_CFG :: .EGR_VSND_STAT :: .TWL_ADMIT_REFUSED :: pcieFoot⟩;
    (∀ (src : Requester) (ix : Fin 256) (w : Word32) (v : TakeView) (s : State), Completes (Frame ft s) (exec (.videoSenderBind src
      ix w v) s))) ∧
  (let ft : Foot := ⟨[.resp, .sent, .host, .twl, .tks, .egr],
      .EGR_INT_STAT :: .EGR_VSND_SRC :: .TWL_ADMIT_REFUSED :: pcieFoot⟩;
    (∀ (src : Requester) (ix : Fin 256) (w : Word32) (v : TakeView) (s : State), Completes (Frame ft s) (exec (.sourceSenderSrc src
      ix w v) s))) ∧
  (let ft : Foot := ⟨[.resp, .sent, .host, .egr],
      .EGR_ASND_CFG :: .EGR_ASND_FMT :: .EGR_INT_STAT :: .EGR_VSND_STAT :: .TWD_OUT_RES :: pcieFoot⟩;
    (∀ (src : Requester) (ix : Fin 1024) (fmt : Bool) (w : Word32) (s : State), Completes (Frame ft s) (exec (.audioSenderBind src
      ix fmt w) s))) ∧
  (let ft : Foot := ⟨[.resp, .sent, .host, .egr],
      .EGR_INT_STAT :: .EGR_VSND_STAT :: .EGR_XSND_CFG :: pcieFoot⟩;
    (∀ (src : Requester) (ix : Fin 512) (w : Word32) (s : State), Completes (Frame ft s) (exec (.ancSenderBind src ix w) s))) ∧
  (let ft : Foot := ⟨[.sent, .host, .egr],
      [.EGR_ASND_TX, .EGR_INT_STAT, .EGR_VSND_LATE, .EGR_VSND_MISS, .EGR_VSND_STAT, .EGR_VSND_TXA, .EGR_VSND_TXB, .EGR_XSND_TX,
        .GLB_INT_SUM]⟩;
    (∀ (ix : Fin 256) (k : Nat) (missing late : Bool) (s : State), Completes (Frame ft s) (exec (.videoPacketSend ix k missing late)
      s))) ∧
  (let ft : Foot := ⟨[.sent, .egr],
      [.EGR_ASND_TX, .EGR_VSND_STAT, .EGR_VSND_TXA, .EGR_VSND_TXB, .EGR_XSND_TX]⟩;
    (∀ (ix : Fin 1024) (first : Nat) (s : State), Completes (Frame ft s) (exec (.audioPacketSend ix first) s))) ∧
  (let ft : Foot := ⟨[.sent],
      [.EGR_ASND_TX, .EGR_VSND_STAT, .EGR_VSND_TXA, .EGR_VSND_TXB, .EGR_XSND_TX]⟩;
    (∀ (ix : Fin 512) (field : Nat) (last : Bool) (s : State), Completes (Frame ft s) (exec (.ancPacketSend ix field last) s))) ∧
  (let ft : Foot := ⟨[.resp, .sent, .host, .twl, .tks, .egr],
      .EGR_ASND_CFG :: .EGR_INT_STAT :: .EGR_VSND_CFG :: .EGR_VSND_STAT :: .EGR_XSND_CFG :: .TWD_OUT_RES :: .TWL_ADMIT_REFUSED ::
        pcieFoot⟩;
    (∀ (src : Requester) (k : SndKind) (ix : Fin 1024) (s : State), Completes (Frame ft s) (exec (.senderStop src k ix) s))) ∧
  (let ft : Foot := ⟨[.resp, .sent, .host, .egr],
      .EGR_INT_STAT :: .EGR_JOIN_ENT :: .EGR_JOIN_REP :: .EGR_JOIN_STAT :: pcieFoot⟩;
    (∀ (src : Requester) (j : Fin 4096) (port : Fin 32) (flow : BitVec 19) (s : State), Completes (Frame ft s) (exec (.joinEntrySet
      src j port flow) s)) ∧
    (∀ (src : Requester) (j : Fin 4096) (s : State), Completes (Frame ft s) (exec (.joinEntryClear src j) s))) ∧
  (let ft : Foot := ⟨[.sent, .egr],
      [.EGR_JOIN_REP]⟩;
    (∀ (j : Fin 4096) (s : State), Completes (Frame ft s) (exec (.joinRepeatTimer j) s)) ∧
    (∀ (j : Fin 4096) (s : State), Completes (Frame ft s) (exec (.joinQueryReport j) s))) ∧
  (let ft : Foot := ⟨[.sent, .host, .awl],
      .EGR_INT_STAT :: .EGR_JOIN_STAT :: .GLB_INT_SUM :: awlFoot⟩;
    (∀ (j : Fin 4096) (s : State), Completes (Frame ft s) (exec (.joinStallTimeout j) s))) ∧
  (let ft : Foot := ⟨[.egr],
      []⟩;
    (∀ (port : Fin 32) (group : Option (BitVec 32)) (s : State), Completes (Frame ft s) (exec (.joinQueryReceive port group) s))) ∧
  (let ft : Foot := ⟨[.sent, .host, .awl],
      .EGR_INT_STAT :: .EGR_JOIN_REP :: .EGR_JOIN_STAT :: .GLB_INT_SUM :: awlFoot⟩;
    (∀ (port : Fin 32) (s : State), Completes (Frame ft s) (exec (.joinOldQuerier port) s))) ∧
  (let ft : Foot := ⟨[.sent, .egr],
      [.EGR_JOIN_REP, .EGR_JOIN_STAT]⟩;
    (∀ (port : Fin 32) (s : State), Completes (Frame ft s) (exec (.joinOldQuerierTimeout port) s))) ∧
  (let ft : Foot := ⟨[.sent, .host, .egr],
      [.EGR_HEALTH_STAT, .EGR_INT_STAT, .GLB_INT_SUM]⟩;
    (∀ (pinB : Bool) (s : State), Completes (Frame ft s) (exec (.healthRiseTimer pinB) s))) ∧
  (let ft : Foot := ⟨[.resp, .sent, .host, .egr],
      .EGR_HEALTH_CTRL :: .EGR_HEALTH_STAT :: .EGR_INT_STAT :: pcieFoot⟩;
    (∀ (src : Requester) (releaseA releaseB : Bool) (s : State), Completes (Frame ft s) (exec (.healthReleaseWrite src releaseA
      releaseB) s))) ∧
  (let ft : Foot := ⟨[.resp, .sent, .host, .twl, .nim, .tks, .egr],
      .EGR_CTRL :: .EGR_HEALTH_STAT :: .EGR_INT_STAT :: .EGR_OUT_CFG :: .EGR_OUT_STAT :: .EGR_OUT_TAKE :: .EGR_STATUS ::
        .EGR_VSND_MISS :: .EGR_VSND_STAT :: .NIM_CQ_LOST :: .NIM_CQ_TAIL :: .NIM_INT_STAT :: .NIM_JRN_FREE :: .NIM_JRN_OPEN ::
        .NIM_SVC_STAT :: .TWD_OUT_RES :: (pcieFoot ++ routeFoot)⟩;
    (∀ (src : Requester) (s : State), Completes (Frame ft s) (exec (.egressDisable src) s)))

/-- The queues, the journal and the contexts: what each command leaves unchanged. For each command named, in every state: it
completes, and it changes nothing outside its footprint (the first list: parts of the state beside the registers; the second:
registers). Every part not listed and every element of every register not listed reads as before, and the register store stays
sound. -/
def Obligations.JournalFrames : Prop :=
  (let ft : Foot := ⟨[.resp, .sent, .host],
      .NIM_INT_STAT :: .NIM_Q_STAT :: .NIM_SQ_TAIL :: pcieFoot⟩;
    (∀ (src : Requester) (q : Fin 64) (w : Word32) (s : State), Completes (Frame ft s) (exec (.sqDoorbell src q w) s))) ∧
  (let ft : Foot := ⟨[.sent, .host, .nim],
      [.GLB_INT_SUM, .NIM_ACCEPTED, .NIM_CORE_STAT, .NIM_CQ_TAIL, .NIM_DUP, .NIM_INT_STAT, .NIM_JRN_FREE, .NIM_JRN_OPEN, .NIM_Q_HWM,
        .NIM_Q_REFUSED, .NIM_Q_STAT, .NIM_REFUSED, .NIM_SQ_HEAD, .RSL_PAIR_STAT]⟩;
    (∀ (q : Fin 64) (e : Sqe) (s : State), Completes (Frame ft s) (exec (.submissionAccept q e) s))) ∧
  (let ft : Foot := ⟨[.resp, .sent, .host, .nim],
      .NIM_CQ_HEAD :: .NIM_CQ_TAIL :: .NIM_INT_STAT :: .NIM_Q_STAT :: pcieFoot⟩;
    (∀ (src : Requester) (q : Fin 64) (w : Word32) (s : State), Completes (Frame ft s) (exec (.cqDoorbell src q w) s))) ∧
  (let ft : Foot := ⟨[.sent, .host, .nim],
      [.GLB_INT_SUM, .NIM_CORE_STAT, .NIM_INT_STAT, .NIM_JRN_FREE, .NIM_JRN_OPEN, .NIM_Q_HWM]⟩;
    (∀ (e : JEntry) (s : State), Completes (Frame ft s) (exec (.journalMirrorReceive e) s))) ∧
  (let ft : Foot := ⟨[.sent, .host, .nim],
      [.GLB_INT_SUM, .NIM_ACCEPTED, .NIM_CORE_STAT, .NIM_CQ_TAIL, .NIM_INT_STAT, .NIM_JRN_FREE, .NIM_JRN_OPEN, .NIM_Q_HWM,
        .NIM_Q_REFUSED, .NIM_Q_STAT, .NIM_REFUSED, .RSL_PAIR_STAT]⟩;
    (∀ (key : Key) (st : Status) (s : State), Completes (Frame ft s) (exec (.journalMirrorReply key st) s))) ∧
  (let ft : Foot := ⟨[.sent],
      []⟩;
    (∀ (key : Key) (s : State), Completes (Frame ft s) (exec (.journalResendTimer key) s)) ∧
    (∀ (s : State), Completes (Frame ft s) (exec .frontierSend s))) ∧
  (let ft : Foot := ⟨[.nim],
      [.NIM_PAIR_STAT, .NIM_Q_STAT, .NIM_STATUS]⟩;
    (∀ (time : Nat) (done : List Key) (s : State), Completes (Frame ft s) (exec (.frontierReceive time done) s))) ∧
  (let ft : Foot := ⟨[.sent, .host, .nim],
      [.GLB_INT_SUM, .NIM_CORE_STAT, .NIM_INT_STAT, .NIM_JRN_FREE, .NIM_JRN_OPEN]⟩;
    (∀ (key : Key) (core : Fin 16) (s : State), Completes (Frame ft s) (exec (.entryStart key core) s)) ∧
    (∀ (s : State), Completes (Frame ft s) (exec .journalEntryFree s))) ∧
  (let ft : Foot := ⟨[.sent, .host, .awl, .twl, .nim, .tks],
      .GLB_INT_SUM :: (awlFoot ++ entryFoot ++ trapFoot)⟩;
    (∀ (core : Fin 16) (s : State), Completes (Frame ft s) (exec (.budgetTrap core) s))) ∧
  (let ft : Foot := ⟨[.sent, .host, .nim],
      [.BOOT_STAGE, .BOOT_TIME, .GLB_INT_SUM, .NIM_CORE_STAT, .NIM_CQ_TAIL, .NIM_INT_STAT, .NIM_JRN_FREE, .NIM_JRN_OPEN, .NIM_Q_HWM,
        .NIM_Q_STAT, .NIM_REPLAY, .NIM_STATUS]⟩;
    (∀ (warm : Bool) (entries : List JEntry) (s : State), Completes (Frame ft s) (exec (.journalReplay warm entries) s))) ∧
  (let ft : Foot := ⟨[],
      [.NIM_PAIR_STAT, .NIM_Q_STAT, .NIM_STATUS]⟩;
    (∀ (s : State), Completes (Frame ft s) (exec .warmResetAnnounce s))) ∧
  (let ft : Foot := ⟨[.freeCtr, .sent, .host, .awl, .nim],
      .GLB_INT_SUM :: .NIM_CORE_STAT :: .NIM_INT_STAT :: .NIM_JRN_FREE :: .NIM_JRN_OPEN :: .NIM_Q_HWM :: awlFoot⟩;
    (∀ (entries : List JEntry) (lacks : List Key) (s : State), Completes (Frame ft s) (exec (.journalReconcile entries lacks) s))) ∧
  (let ft : Foot := ⟨[.sent, .host, .nim, .tks],
      [.BOOT_STAGE, .BOOT_TIME, .EGR_OUT_TAKE, .GLB_INT_SUM, .NIM_CORE_STAT, .NIM_CQ_TAIL, .NIM_INT_STAT, .NIM_JRN_FREE,
        .NIM_JRN_OPEN, .NIM_Q_HWM, .NIM_Q_STAT, .NIM_STATUS]⟩;
    (∀ (sel : List (Fin 128 × Nat × Nat)) (applied : List Applied) (entries : List JEntry) (s : State), Completes (Frame ft s) (exec
      (.partnerRejoin sel applied entries) s))) ∧
  (let ft : Foot := ⟨[.resp, .sent, .host, .twl, .nim, .tks],
      .NIM_CORE_STAT :: .NIM_CTRL :: .NIM_INT_STAT :: .NIM_Q_STAT :: .NIM_REPLAY :: .NIM_STATUS :: .NIM_SVC_STAT :: pcieFoot⟩;
    (∀ (src : Requester) (s : State), Completes (Frame ft s) (exec (.nimDisable src) s)) ∧
    (∀ (src : Requester) (s : State), Completes (Frame ft s) (exec (.nimKill src) s))) ∧
  (let ft : Foot := ⟨[.twl, .nim, .tks],
      [.NIM_CORE_STAT, .NIM_REPLAY, .NIM_STATUS, .NIM_SVC_STAT]⟩;
    (∀ (s : State), Completes (Frame ft s) (exec .nimDrainDone s))) ∧
  (let ft : Foot := ⟨[.sent, .host, .twl, .nim, .tks],
      [.GLB_INT_SUM, .NIM_CORE_STAT, .NIM_INT_STAT, .NIM_SVC_STAT]⟩;
    (∀ (bad : List (Fin 32)) (s : State), Completes (Frame ft s) (exec (.serviceStart bad) s))) ∧
  (let ft : Foot := ⟨[.twl, .nim, .tks],
      [.NIM_CORE_STAT, .NIM_SVC_STAT]⟩;
    (∀ (n : Fin 32) (s : State), Completes (Frame ft s) (exec (.serviceRestart n) s)))

/-- The instructions of a Cobbler core: what each command leaves unchanged. For each command named, in every state: it completes,
and it changes nothing outside its footprint (the first list: parts of the state beside the registers; the second: registers).
Every part not listed and every element of every register not listed reads as before, and the register store stays sound. For
nimLd, nimBld, nimSt, nimBst the register that changes is the addressed one or the footprint is the parts alone: of the
registers it says that the store stays sound, and for the reads that every register but a read-clear one outside the list is
as before. -/
def Obligations.CobblerFrames : Prop :=
  (let ft : Foot := ⟨[.resp, .freeCtr, .sent, .host, .awl, .twl, .nim, .tks],
      .EGR_OUT_TAKE :: .GLB_INT_SUM :: .NIM_CQ_LOST :: .TWL_ADMIT_REFUSED :: (awlFoot ++ routeFoot ++ entryFoot ++ trapFoot)⟩;
    (∀ (a : NimAt) (rd ra rb rc : Fin 32) (f : BitVec 2) (view : TakeView) (s : State), Completes (Frame ft s) (exec (.take a rd ra
      rb rc f view) s)) ∧
    (∀ (a : NimAt) (rd ra rb rc : Fin 32) (f : BitVec 2) (views : List TakeView) (s : State), Completes (Frame ft s) (exec (.salvo a
      rd ra rb rc f views) s))) ∧
  (let ft : Foot := ⟨[.sent, .host, .awl, .twl, .nim, .tks],
      .GLB_INT_SUM :: (awlFoot ++ entryFoot ++ trapFoot)⟩;
    (∀ (a : NimAt) (rd ra rb : Fin 32) (s : State), Completes (Frame ft s) (exec (.nimAdd a rd ra rb) s)) ∧
    (∀ (a : NimAt) (rd ra rb : Fin 32) (s : State), Completes (Frame ft s) (exec (.nimSub a rd ra rb) s)) ∧
    (∀ (a : NimAt) (rd ra rb : Fin 32) (s : State), Completes (Frame ft s) (exec (.nimAnd a rd ra rb) s)) ∧
    (∀ (a : NimAt) (rd ra rb : Fin 32) (s : State), Completes (Frame ft s) (exec (.nimOr a rd ra rb) s)) ∧
    (∀ (a : NimAt) (rd ra rb : Fin 32) (s : State), Completes (Frame ft s) (exec (.nimXor a rd ra rb) s)) ∧
    (∀ (a : NimAt) (rd ra rb : Fin 32) (s : State), Completes (Frame ft s) (exec (.nimSll a rd ra rb) s)) ∧
    (∀ (a : NimAt) (rd ra rb : Fin 32) (s : State), Completes (Frame ft s) (exec (.nimSrl a rd ra rb) s)) ∧
    (∀ (a : NimAt) (rd ra rb : Fin 32) (s : State), Completes (Frame ft s) (exec (.nimSra a rd ra rb) s)) ∧
    (∀ (a : NimAt) (rd ra rb : Fin 32) (s : State), Completes (Frame ft s) (exec (.nimMul a rd ra rb) s)) ∧
    (∀ (a : NimAt) (rd ra rb : Fin 32) (s : State), Completes (Frame ft s) (exec (.nimMulhu a rd ra rb) s)) ∧
    (∀ (a : NimAt) (rd ra rb : Fin 32) (s : State), Completes (Frame ft s) (exec (.nimDivu a rd ra rb) s)) ∧
    (∀ (a : NimAt) (rd ra rb : Fin 32) (s : State), Completes (Frame ft s) (exec (.nimRemu a rd ra rb) s)) ∧
    (∀ (a : NimAt) (rd ra rb : Fin 32) (s : State), Completes (Frame ft s) (exec (.nimMinu a rd ra rb) s)) ∧
    (∀ (a : NimAt) (rd ra rb : Fin 32) (s : State), Completes (Frame ft s) (exec (.nimMaxu a rd ra rb) s)) ∧
    (∀ (a : NimAt) (rd ra rb : Fin 32) (s : State), Completes (Frame ft s) (exec (.nimMin a rd ra rb) s)) ∧
    (∀ (a : NimAt) (rd ra rb : Fin 32) (s : State), Completes (Frame ft s) (exec (.nimMax a rd ra rb) s)) ∧
    (∀ (a : NimAt) (rd ra : Fin 32) (s : State), Completes (Frame ft s) (exec (.nimSxb a rd ra) s)) ∧
    (∀ (a : NimAt) (rd ra : Fin 32) (s : State), Completes (Frame ft s) (exec (.nimSxh a rd ra) s)) ∧
    (∀ (a : NimAt) (rd ra : Fin 32) (s : State), Completes (Frame ft s) (exec (.nimSxw a rd ra) s)) ∧
    (∀ (a : NimAt) (rd ra : Fin 32) (s : State), Completes (Frame ft s) (exec (.nimClz a rd ra) s)) ∧
    (∀ (a : NimAt) (rd ra : Fin 32) (s : State), Completes (Frame ft s) (exec (.nimPopc a rd ra) s)) ∧
    (∀ (a : NimAt) (rd : Fin 32) (s : State), Completes (Frame ft s) (exec (.nimRdst a rd) s)) ∧
    (∀ (a : NimAt) (rd ra : Fin 32) (imm : BitVec 12) (s : State), Completes (Frame ft s) (exec (.nimAddi a rd ra imm) s)) ∧
    (∀ (a : NimAt) (rd ra : Fin 32) (imm : BitVec 12) (s : State), Completes (Frame ft s) (exec (.nimAndi a rd ra imm) s)) ∧
    (∀ (a : NimAt) (rd ra : Fin 32) (imm : BitVec 12) (s : State), Completes (Frame ft s) (exec (.nimOri a rd ra imm) s)) ∧
    (∀ (a : NimAt) (rd ra : Fin 32) (imm : BitVec 12) (s : State), Completes (Frame ft s) (exec (.nimXori a rd ra imm) s)) ∧
    (∀ (a : NimAt) (rd ra : Fin 32) (imm : BitVec 10) (s : State), Completes (Frame ft s) (exec (.nimSlli a rd ra imm) s)) ∧
    (∀ (a : NimAt) (rd ra : Fin 32) (imm : BitVec 10) (s : State), Completes (Frame ft s) (exec (.nimSrli a rd ra imm) s)) ∧
    (∀ (a : NimAt) (rd ra : Fin 32) (imm : BitVec 10) (s : State), Completes (Frame ft s) (exec (.nimSrai a rd ra imm) s)) ∧
    (∀ (a : NimAt) (rd : Fin 32) (imm : BitVec 17) (s : State), Completes (Frame ft s) (exec (.nimLdi a rd imm) s)) ∧
    (∀ (a : NimAt) (rd : Fin 32) (imm : BitVec 17) (s : State), Completes (Frame ft s) (exec (.nimLdk a rd imm) s)) ∧
    (∀ (a : NimAt) (pd cc : Fin 8) (ra rb : Fin 32) (s : State), Completes (Frame ft s) (exec (.nimCmp a pd cc ra rb) s)) ∧
    (∀ (a : NimAt) (pd cc : Fin 8) (ra : Fin 32) (imm : BitVec 11) (s : State), Completes (Frame ft s) (exec (.nimCmpi a pd cc ra
      imm) s)) ∧
    (∀ (a : NimAt) (pd pa pb : Fin 8) (s : State), Completes (Frame ft s) (exec (.nimPand a pd pa pb) s)) ∧
    (∀ (a : NimAt) (pd pa pb : Fin 8) (s : State), Completes (Frame ft s) (exec (.nimPor a pd pa pb) s)) ∧
    (∀ (a : NimAt) (pd pa pb : Fin 8) (s : State), Completes (Frame ft s) (exec (.nimPxor a pd pa pb) s)) ∧
    (∀ (a : NimAt) (pd pa pb : Fin 8) (s : State), Completes (Frame ft s) (exec (.nimPandn a pd pa pb) s)) ∧
    (∀ (a : NimAt) (off : BitVec 22) (s : State), Completes (Frame ft s) (exec (.nimBr a off) s)) ∧
    (∀ (a : NimAt) (off : BitVec 22) (s : State), Completes (Frame ft s) (exec (.nimCall a off) s)) ∧
    (∀ (a : NimAt) (rd ra rb : Fin 32) (fn : BitVec 7) (s : State), Completes (Frame ft s) (exec (.nimJr a rd ra rb fn) s)) ∧
    (∀ (a : NimAt) (off : BitVec 22) (s : State), Completes (Frame ft s) (exec (.nimLcall a off) s)) ∧
    (∀ (a : NimAt) (rd ra rb : Fin 32) (s : State), Completes (Frame ft s) (exec (.nimAmoAdd a rd ra rb) s)) ∧
    (∀ (a : NimAt) (rd ra rb : Fin 32) (s : State), Completes (Frame ft s) (exec (.nimAmoSwap a rd ra rb) s)) ∧
    (∀ (a : NimAt) (rd ra rb : Fin 32) (s : State), Completes (Frame ft s) (exec (.nimAmoCas a rd ra rb) s)) ∧
    (∀ (a : NimAt) (fn : BitVec 22) (s : State), Completes (Frame ft s) (exec (.nimBfence a fn) s)) ∧
    (∀ (a : NimAt) (rd : Fin 32) (fn : BitVec 7) (s : State), Completes (Frame ft s) (exec (.nimRdt a rd fn) s)) ∧
    (∀ (a : NimAt) (rd ra : Fin 32) (d : Fin 8) (s : State), Completes (Frame ft s) (exec (.nimNspSwitchPoint a rd ra d) s)) ∧
    (∀ (a : NimAt) (rd ra : Fin 32) (d : Fin 8) (s : State), Completes (Frame ft s) (exec (.nimNspFrameBoundary a rd ra d) s)) ∧
    (∀ (a : NimAt) (rd : Fin 32) (fn : BitVec 7) (s : State), Completes (Frame ft s) (exec (.nimJinfo a rd fn) s)) ∧
    (∀ (a : NimAt) (ra rb : Fin 32) (fn : BitVec 7) (reply : Status) (s : State), Completes (Frame ft s) (exec (.nimSend a ra rb fn
      reply) s)) ∧
    (∀ (a : NimAt) (rd ra : Fin 32) (s : State), Completes (Frame ft s) (exec (.nimRecvMsg a rd ra) s)) ∧
    (∀ (a : NimAt) (rd ra : Fin 32) (s : State), Completes (Frame ft s) (exec (.nimRecvTake a rd ra) s)) ∧
    (∀ (a : NimAt) (rd ra : Fin 32) (s : State), Completes (Frame ft s) (exec (.nimRecvDone a rd ra) s)) ∧
    (∀ (a : NimAt) (rd ra : Fin 32) (s : State), Completes (Frame ft s) (exec (.nimRecvRing a rd ra) s)) ∧
    (∀ (a : NimAt) (rd ra rb : Fin 32) (fn : BitVec 7) (s : State), Completes (Frame ft s) (exec (.nimWait a rd ra rb fn) s)) ∧
    (∀ (a : NimAt) (fn : BitVec 22) (s : State), Completes (Frame ft s) (exec (.nimYield a fn) s)) ∧
    (∀ (a : NimAt) (s : State), Completes (Frame ft s) (exec (.nimHalt a) s)) ∧
    (∀ (a : NimAt) (s : State), Completes (Frame ft s) (exec (.nimNop a) s))) ∧
  (let ft : Foot := ⟨[.resp, .rdata, .latchHigh, .freeCtr, .sent, .host, .awl, .twl, .nim, .tks, .ntm],
      .GLB_INT_SUM :: .NTM_CAP_HI :: .NTM_CAP_STAT :: .NTM_TB_FRAC :: .NTM_TB_NS :: .NTM_TB_SEC :: (awlFoot ++ entryFoot ++
        trapFoot)⟩;
    (∀ (a : NimAt) (rd ra : Fin 32) (sp : Fin 8) (sz : Fin 4) (off : BitVec 7) (s : State), Completes (fun t => (∀ p, p ∉ ft.parts →
      p.same s t) ∧
      (∀ r i, r ∉ ft.regs → r.info.acc ≠ .RC → t.reg r i = s.reg r i) ∧ (RegsOk s → RegsOk t)) (exec (.nimLd a rd ra sp sz off) s))
        ∧
    (∀ (a : NimAt) (rd ri ent : Fin 32) (wide : Bool) (s : State), Completes (fun t => (∀ p, p ∉ ft.parts → p.same s t) ∧
      (∀ r i, r ∉ ft.regs → r.info.acc ≠ .RC → t.reg r i = s.reg r i) ∧ (RegsOk s → RegsOk t)) (exec (.nimBld a rd ri ent wide) s))) ∧
  (let l : List Part := [.resp, .latchLow, .freeCtr, .sent, .tb, .host, .awl, .ing, .twl, .nim, .tks, .egr, .twd, .asp, .vmp, .lst,
  .ntm, .net, .rsl, .keep, .upd, .boot, .dir];
    (∀ (a : NimAt) (rd ra : Fin 32) (sp : Fin 8) (sz : Fin 4) (off : BitVec 7) (s : State), Completes (fun t => (∀ p, p ∉ l → p.same
      s t) ∧ (RegsOk s → RegsOk t)) (exec (.nimSt a rd ra sp sz off) s)) ∧
    (∀ (a : NimAt) (rd ri ent : Fin 32) (wide : Bool) (env : BusEnv) (s : State), Completes (fun t => (∀ p, p ∉ l → p.same s t) ∧
      (RegsOk s → RegsOk t)) (exec (.nimBst a rd ri ent wide env) s))) ∧
  (let ft : Foot := ⟨[.resp, .freeCtr, .sent, .host, .awl, .twl, .nim, .tks, .egr, .dir],
      .EGR_OUT_TAKE :: .GLB_INT_SUM :: .TWL_DIR_CONFLICT :: .TWL_DIR_COUNT :: .TWL_DIR_OVF :: .TWL_DIR_OWN :: .TWL_DIR_RESULT ::
        .TWL_DIR_SEQ :: .TWL_INT_STAT :: (awlFoot ++ routeFoot ++ entryFoot ++ trapFoot)⟩;
    (∀ (a : NimAt) (rd ra rb rc : Fin 32) (loc ovf : Bool) (s : State), Completes (Frame ft s) (exec (.nimFlowWrite a rd ra rb rc
      loc ovf) s)) ∧
    (∀ (a : NimAt) (rd ra rb rc : Fin 32) (loc : Bool) (s : State), Completes (Frame ft s) (exec (.nimFlowWithdraw a rd ra rb rc
      loc) s))) ∧
  (let ft : Foot := ⟨[.freeCtr, .sent, .host, .awl, .twl, .nim, .tks, .vmp],
      .GLB_INT_SUM :: .VMP_PIPE_READ :: (awlFoot ++ entryFoot ++ trapFoot)⟩;
    (∀ (a : NimAt) (rd ra rb rc : Fin 32) (f : BitVec 2) (s : State), Completes (Frame ft s) (exec (.nimLayer a rd ra rb rc f) s))) ∧
  (let ft : Foot := ⟨[.freeCtr, .sent, .host, .awl, .twl, .nim, .tks, .vmp],
      .GLB_INT_SUM :: .VMP_INT_STAT :: .VMP_PIPE_LATE :: .VMP_PIPE_LBFAIL :: .VMP_PIPE_PEND :: .VMP_PIPE_REPL :: .VMP_PIPE_STAT ::
        (awlFoot ++ entryFoot ++ trapFoot)⟩;
    (∀ (a : NimAt) (rd ra rb rc : Fin 32) (f : BitVec 2) (s : State), Completes (Frame ft s) (exec (.nimCommit a rd ra rb rc f) s))) ∧
  (let ft : Foot := ⟨[.freeCtr, .sent, .host, .awl, .twl, .nim, .tks],
      .GLB_INT_SUM :: .NIM_ACCEPTED :: .NIM_DUP :: .NIM_Q_HWM :: .NIM_REFUSED :: .NIM_SVC_SEQ :: .RSL_PAIR_STAT :: (awlFoot ++
        entryFoot ++ trapFoot)⟩;
    (∀ (a : NimAt) (rd ra rb rc : Fin 32) (f : BitVec 2) (s : State), Completes (Frame ft s) (exec (.nimJsub a rd ra rb rc f) s))) ∧
  (let ft : Foot := ⟨[.sent, .host, .awl, .twl, .nim, .tks],
      .GLB_INT_SUM :: .NIM_CQ_LOST :: (awlFoot ++ entryFoot ++ trapFoot)⟩;
    (∀ (a : NimAt) (ra rb : Fin 32) (fn : BitVec 7) (s : State), Completes (Frame ft s) (exec (.nimPost a ra rb fn) s))) ∧
  (let ft : Foot := ⟨[.freeCtr, .sent, .host, .awl, .twl, .nim, .tks],
      .GLB_INT_SUM :: .NIM_CQ_LOST :: (awlFoot ++ entryFoot ++ trapFoot)⟩;
    (∀ (a : NimAt) (ra : Fin 32) (fn : BitVec 7) (reply : Status) (s : State), Completes (Frame ft s) (exec (.nimReply a ra fn
      reply) s))) ∧
  (let ft : Foot := ⟨[.sent, .host, .awl, .twl, .nim, .tks, .net],
      .GLB_INT_SUM :: (awlFoot ++ entryFoot ++ trapFoot)⟩;
    (∀ (a : NimAt) (ra rb rc : Fin 32) (f : BitVec 2) (s : State), Completes (Frame ft s) (exec (.nimXmit a ra rb rc f) s))) ∧
  (let ft : Foot := ⟨[.nim],
      [.NIM_SVC_STAT]⟩;
    (∀ (n : Fin 32) (s : State), Completes (Frame ft s) (exec (.nimWaitWake n) s))) ∧
  (let ft : Foot := ⟨[.nim],
      []⟩;
    (∀ (key : Key) (sig : Nat) (value : Word64) (st : Status) (s : State), Completes (Frame ft s) (exec (.nimSignalPlaneResult key
      sig value st) s)))

/-- Tweed bundles and blocks, and the serial audio sections: what each command leaves unchanged. For each command named, in every
state: it completes, and it changes nothing outside its footprint (the first list: parts of the state beside the registers;
the second: registers). Every part not listed and every element of every register not listed reads as before, and the register
store stays sound. -/
def Obligations.TweedAndAudioPortFrames : Prop :=
  (let ft : Foot := ⟨[.sent, .host, .twd],
      [.GLB_INT_SUM, .TWD_CORE_UNDER, .TWD_INT_STAT]⟩;
    (∀ (core : Fin 8) (slot : Fin 1024) (n : Fin 8) (v : BitVec 32) (kind : SampleKind) (asp : Option (Fin 16 × Fin 16)) (s :
      State), Completes (Frame ft s) (exec (.tweedSampleWrite core slot n v kind asp) s))) ∧
  (let ft : Foot := ⟨[.sent, .host, .twd],
      .GLB_INT_SUM :: .TWD_CORE_BLK :: .TWD_CORE_FLAGS :: .TWD_CORE_LATE :: .TWD_CORE_STAT :: .TWD_INT_STAT :: .TWD_PLACE ::
        Blk.TWD.regs⟩;
    (∀ (core : Fin 8) (j : Nat) (filled : Bool) (s : State), Completes (Frame ft s) (exec (.tweedRunStart core j filled) s))) ∧
  (let ft : Foot := ⟨[.sent, .host, .awl, .twd],
      .GLB_INT_SUM :: .TWD_CORE_OVR :: .TWD_INT_STAT :: awlFoot⟩;
    (∀ (core : Fin 8) (uncorr : Bool) (s : State), Completes (Frame ft s) (exec (.tweedRunDeadline core uncorr) s))) ∧
  (let ft : Foot := ⟨[.sent, .egr, .twd],
      [.TWD_CORE_STAT, .TWD_STATUS]⟩;
    (∀ (core : Fin 8) (ramps : List (Fin 128 × List (BitVec 32) × List (BitVec 32))) (s : State), Completes (Frame ft s) (exec
      (.tweedBlockPresent core ramps) s))) ∧
  (let ft : Foot := ⟨[.resp, .sent, .host],
      .TWD_CORE_AT :: .TWD_CORE_STAT :: .TWD_INT_STAT :: pcieFoot⟩;
    (∀ (src : Requester) (core : Fin 8) (at_ : Word32) (s : State), Completes (Frame ft s) (exec (.tweedApplyArm src core at_) s))) ∧
  (let ft : Foot := ⟨[.resp, .sent, .host, .twd],
      [.GLB_INT_SUM, .TWD_INT_STAT]⟩;
    (∀ (src : Requester) (core : Fin 8) (a : Fin 8192) (v : Word64) (s : State), Completes (Frame ft s) (exec (.twdImemWrite src
      core a v) s))) ∧
  (let ft : Foot := ⟨[.resp, .sent, .host, .twd],
      .TWD_CORE_STAT :: .TWD_INT_STAT :: pcieFoot⟩;
    (∀ (src : Requester) (k : Fin 1184) (w : Word32) (sender : Fin 4) (s : State), Completes (Frame ft s) (exec (.twdPlaceWrite src
      k w sender) s)) ∧
    (∀ (src : Requester) (n : Fin 400) (w : Word32) (s : State), Completes (Frame ft s) (exec (.twdFollowWrite src n w) s))) ∧
  (let ft : Foot := ⟨[.resp, .sent, .host, .twd],
      .TWD_CORE_STAT :: .TWD_INT_STAT :: .TWD_OUT_RES :: pcieFoot⟩;
    (∀ (src : Requester) (b : Fin 16) (flow : Bool) (w : Word32) (s : State), Completes (Frame ft s) (exec (.bundleSenderWrite src b
      flow w) s))) ∧
  (let ft : Foot := ⟨[.resp, .sent, .host, .twl, .twd],
      .TWD_CORE_STAT :: .TWD_INT_STAT :: .TWD_IN_RES :: .TWL_ADMIT_REFUSED :: (pcieFoot ++ routeFoot)⟩;
    (∀ (src : Requester) (r : Fin 16) (w : Word32) (h : RouteHop) (s : State), Completes (Frame ft s) (exec (.bundleReceiverWrite
      src r w h) s))) ∧
  (let ft : Foot := ⟨[.sent, .host, .awl, .rsl],
      .GLB_INT_SUM :: .RSL_INT_STAT :: .RSL_REPAIR_USED :: .RSL_SRAM_REP :: .RSL_STATUS :: .TWD_MEM_CORR :: awlFoot⟩;
    (∀ (corrected : Nat) (rows : List BadRow) (s : State), Completes (Frame ft s) (exec (.tweedScrub corrected rows) s))) ∧
  (let ft : Foot := ⟨[.sent, .host, .awl, .rsl],
      .GLB_INT_SUM :: .RSL_INT_STAT :: .RSL_PHYS_STAT :: .RSL_UNIT_STAT :: .RSL_UNIT_SWAPS :: .TWD_CORE_STAT :: awlFoot⟩;
    (∀ (core : Fin 8) (phys : Fin 9) (s : State), Completes (Frame ft s) (exec (.tweedCoreSwap core phys) s))) ∧
  (let ft : Foot := ⟨[.resp, .freeCtr, .sent, .host, .awl, .twd],
      .TWD_CORE_FLAGS :: .TWD_CORE_STAT :: .TWD_CTRL :: .TWD_INT_STAT :: .TWD_STATUS :: (awlFoot ++ pcieFoot)⟩;
    (∀ (src : Requester) (s : State), Completes (Frame ft s) (exec (.tweedDisable src) s)) ∧
    (∀ (src : Requester) (s : State), Completes (Frame ft s) (exec (.tweedKill src) s))) ∧
  (let ft : Foot := ⟨[.sent, .host, .awl, .twd],
      .GLB_INT_SUM :: (awlFoot ++ cycleFoot)⟩;
    (∀ (core : Fin 8) (b : Bundle) (s : State), Completes (Frame ft s) (exec (.twdNop core b) s)) ∧
    (∀ (core : Fin 8) (b : Bundle) (ad : Fin 8) (va vb : Fin 32) (sh : Fin 16) (s : State), Completes (Frame ft s) (exec (.twdMac
      core b ad va vb sh) s)) ∧
    (∀ (core : Fin 8) (b : Bundle) (ad : Fin 8) (va vb : Fin 32) (sh : Fin 16) (s : State), Completes (Frame ft s) (exec (.twdMsu
      core b ad va vb sh) s)) ∧
    (∀ (core : Fin 8) (b : Bundle) (ad : Fin 8) (va vb : Fin 32) (sh : Fin 16) (s : State), Completes (Frame ft s) (exec (.twdMpy
      core b ad va vb sh) s)) ∧
    (∀ (core : Fin 8) (b : Bundle) (ad : Fin 8) (va vb : Fin 32) (sh : Fin 16) (s : State), Completes (Frame ft s) (exec (.twdQmac
      core b ad va vb sh) s)) ∧
    (∀ (core : Fin 8) (b : Bundle) (ad : Fin 8) (va vb : Fin 32) (sh : Fin 16) (s : State), Completes (Frame ft s) (exec (.twdQmsu
      core b ad va vb sh) s)) ∧
    (∀ (core : Fin 8) (b : Bundle) (ad : Fin 8) (va vb : Fin 32) (sh : Fin 16) (s : State), Completes (Frame ft s) (exec (.twdQmpy
      core b ad va vb sh) s)) ∧
    (∀ (core : Fin 8) (b : Bundle) (mask : BitVec 8) (s : State), Completes (Frame ft s) (exec (.twdClr core b mask) s)) ∧
    (∀ (core : Fin 8) (b : Bundle) (vd : Fin 32) (ad : Fin 8) (fmt : Fin 4) (sh : Fin 16) (s : State), Completes (Frame ft s) (exec
      (.twdRnd core b vd ad fmt sh) s)) ∧
    (∀ (core : Fin 8) (b : Bundle) (vd va vb : Fin 32) (s : State), Completes (Frame ft s) (exec (.twdVadd core b vd va vb) s)) ∧
    (∀ (core : Fin 8) (b : Bundle) (vd va vb : Fin 32) (s : State), Completes (Frame ft s) (exec (.twdVsub core b vd va vb) s)) ∧
    (∀ (core : Fin 8) (b : Bundle) (vd va : Fin 32) (s : State), Completes (Frame ft s) (exec (.twdVmov core b vd va) s)) ∧
    (∀ (core : Fin 8) (b : Bundle) (vd va : Fin 32) (k : Fin 4) (s : State), Completes (Frame ft s) (exec (.twdVbc core b vd va k)
      s)) ∧
    (∀ (core : Fin 8) (b : Bundle) (ad : Fin 8) (va : Fin 32) (s : State), Completes (Frame ft s) (exec (.twdVtoa core b ad va) s))
      ∧
    (∀ (core : Fin 8) (b : Bundle) (cnt : Fin 1024) (len : Fin 128) (s : State), Completes (Frame ft s) (exec (.twdLoop core b cnt
      len) s)) ∧
    (∀ (core : Fin 8) (b : Bundle) (st : Fin 8) (cnt : Fin 1024) (len : Fin 16) (s : State), Completes (Frame ft s) (exec (.twdLpr
      core b st cnt len) s)) ∧
    (∀ (core : Fin 8) (b : Bundle) (off : BitVec 17) (s : State), Completes (Frame ft s) (exec (.twdBr core b off) s)) ∧
    (∀ (core : Fin 8) (b : Bundle) (r : Fin 8) (addr : BitVec 14) (s : State), Completes (Frame ft s) (exec (.twdSetx core b r addr)
      s)) ∧
    (∀ (core : Fin 8) (b : Bundle) (r : Fin 8) (addr : BitVec 14) (s : State), Completes (Frame ft s) (exec (.twdSety core b r addr)
      s)) ∧
    (∀ (core : Fin 8) (b : Bundle) (s : State), Completes (Frame ft s) (exec (.twdEob core b) s)) ∧
    (∀ (core : Fin 8) (b : Bundle) (y : Bool) (m : Move) (s : State), Completes (Frame ft s) (exec (.twdVld core b y m) s)) ∧
    (∀ (core : Fin 8) (b : Bundle) (y : Bool) (m : Move) (s : State), Completes (Frame ft s) (exec (.twdVst core b y m) s)) ∧
    (∀ (core : Fin 8) (b : Bundle) (y : Bool) (m : Move) (s : State), Completes (Frame ft s) (exec (.twdVbl core b y m) s))) ∧
  (let ft : Foot := ⟨[.resp, .sent, .host, .awl, .asp],
      .ASP_INT_SRC :: .ASP_INT_STAT :: .ASP_RX_CFG :: .ASP_RX_FMT :: .ASP_RX_KILLED :: .ASP_RX_STAT :: .ASP_STATUS :: .ASP_TX_CFG ::
        .ASP_TX_FMT :: .ASP_TX_KILLED :: .ASP_TX_STAT :: .TWD_IN_RES :: .TWD_OUT_RES :: (awlFoot ++ pcieFoot)⟩;
    (∀ (src : Requester) (tx : Bool) (n : Fin 16) (w : Word32) (s : State), Completes (Frame ft s) (exec (.aspEnable src tx n w) s))
      ∧
    (∀ (src : Requester) (tx : Bool) (n : Fin 16) (s : State), Completes (Frame ft s) (exec (.aspDisable src tx n) s)) ∧
    (∀ (src : Requester) (tx : Bool) (n : Fin 16) (s : State), Completes (Frame ft s) (exec (.aspKill src tx n) s)) ∧
    (∀ (src : Requester) (tx : Bool) (n : Fin 16) (s : State), Completes (Frame ft s) (exec (.aspArm src tx n) s))) ∧
  (let ft : Foot := ⟨[.resp, .sent, .host],
      .ASP_INT_STAT :: .ASP_RX_MASK :: .ASP_RX_STAT :: .ASP_TX_MASK :: .ASP_TX_STAT :: pcieFoot⟩;
    (∀ (src : Requester) (tx : Bool) (n : Fin 16) (w : Word32) (s : State), Completes (Frame ft s) (exec (.aspMaskWrite src tx n w)
      s))) ∧
  (let ft : Foot := ⟨[.sent, .host, .twd, .asp],
      [.ASP_INT_SRC, .ASP_INT_STAT, .ASP_RX_ACT, .ASP_RX_PERIOD, .ASP_RX_SLIP, .ASP_RX_STAT, .ASP_TX_ACT, .ASP_TX_PERIOD,
        .ASP_TX_SLIP, .ASP_TX_STAT, .GLB_INT_SUM]⟩;
    (∀ (tx : Bool) (n : Fin 16) (period : BitVec 24) (frame : List (BitVec 32)) (instants : List (Fin 16)) (s : State), Completes
      (Frame ft s) (exec (.aspFrameStart tx n period frame instants) s))) ∧
  (let ft : Foot := ⟨[.sent, .host, .awl, .asp],
      .ASP_INT_SRC :: .ASP_INT_STAT :: .ASP_RX_FAULTS :: .ASP_RX_STAT :: .ASP_TX_FAULTS :: .ASP_TX_STAT :: .GLB_INT_SUM :: awlFoot⟩;
    (∀ (tx : Bool) (n : Fin 16) (s : State), Completes (Frame ft s) (exec (.aspBckMissing tx n) s)) ∧
    (∀ (tx : Bool) (n : Fin 16) (s : State), Completes (Frame ft s) (exec (.aspWsMissing tx n) s)) ∧
    (∀ (tx : Bool) (n : Fin 16) (f : AspFault) (s : State), Completes (Frame ft s) (exec (.aspClockFault tx n f) s))) ∧
  (let ft : Foot := ⟨[.sent, .host, .awl, .asp],
      .ASP_INT_SRC :: .ASP_INT_STAT :: .ASP_RX_STAT :: .ASP_TX_STAT :: .GLB_INT_SUM :: awlFoot⟩;
    (∀ (tx : Bool) (n : Fin 16) (s : State), Completes (Frame ft s) (exec (.aspResync tx n) s))) ∧
  (let ft : Foot := ⟨[.resp, .sent, .host, .awl, .asp],
      .ASP_INT_SRC :: .ASP_INT_STAT :: .ASP_RX_FMT :: .ASP_RX_STAT :: .ASP_TX_FMT :: .ASP_TX_STAT :: .GLB_INT_SUM :: .TWD_IN_RES ::
        .TWD_OUT_RES :: awlFoot⟩;
    (∀ (tx : Bool) (n : Fin 16) (rate : Fin 8) (s : State), Completes (Frame ft s) (exec (.aspRateChange tx n rate) s))) ∧
  (let ft : Foot := ⟨[.asp],
      [.ASP_RX_STAT, .ASP_TX_STAT]⟩;
    (∀ (tx : Bool) (n : Fin 16) (s : State), Completes (Frame ft s) (exec (.aspDataStart tx n) s))) ∧
  (let ft : Foot := ⟨[.asp],
      [.ASP_RX_CFG, .ASP_RX_STAT, .ASP_STATUS, .ASP_TX_CFG, .ASP_TX_STAT, .TWD_IN_RES, .TWD_OUT_RES]⟩;
    (∀ (tx : Bool) (n : Fin 16) (s : State), Completes (Frame ft s) (exec (.aspTailDone tx n) s)))

/-- Vamp pipes, the Last clock, time bases, triggers and captures: what each command leaves unchanged. For each command named, in
every state: it completes, and it changes nothing outside its footprint (the first list: parts of the state beside the
registers; the second: registers). Every part not listed and every element of every register not listed reads as before, and
the register store stays sound. -/
def Obligations.VampLastAndTimeFrames : Prop :=
  (let ft : Foot := ⟨[.resp, .sent, .host, .vmp],
      .VMP_BUDGET :: .VMP_INT_STAT :: .VMP_LAYER_STAT :: .VMP_PIPE_CFG :: .VMP_PIPE_PEND :: .VMP_PIPE_READ :: .VMP_PIPE_STAT ::
        .VMP_STATUS :: .VMP_SURF_USE :: pcieFoot⟩;
    (∀ (src : Requester) (v : Fin 16) (w : Word32) (s : State), Completes (Frame ft s) (exec (.pipeEnable src v w) s)) ∧
    (∀ (src : Requester) (v : Fin 16) (s : State), Completes (Frame ft s) (exec (.pipeDisable src v) s)) ∧
    (∀ (src : Requester) (v : Fin 16) (s : State), Completes (Frame ft s) (exec (.pipeKill src v) s))) ∧
  (let ft : Foot := ⟨[.vmp],
      [.VMP_BUDGET, .VMP_LAYER_STAT, .VMP_PIPE_CFG, .VMP_PIPE_PEND, .VMP_PIPE_STAT, .VMP_STATUS, .VMP_SURF_USE]⟩;
    (∀ (v : Fin 16) (s : State), Completes (Frame ft s) (exec (.pipeDrainDone v) s))) ∧
  (let ft : Foot := ⟨[.resp, .sent, .host],
      .VMP_INT_STAT :: .VMP_SURF_CFG :: pcieFoot⟩;
    (∀ (src : Requester) (m : Fin 256) (w : Word32) (s : State), Completes (Frame ft s) (exec (.surfaceConfigWrite src m w) s))) ∧
  (let ft : Foot := ⟨[.vmp],
      [.VMP_SURF_GEN]⟩;
    (∀ (s : State), Completes (Frame ft s) (exec .surfGenApply s))) ∧
  (let ft : Foot := ⟨[.resp, .sent, .host, .vmp],
      .VMP_BUDGET :: .VMP_CTRL :: .VMP_INT_STAT :: .VMP_LAYER_STAT :: .VMP_PIPE_CFG :: .VMP_PIPE_PEND :: .VMP_PIPE_STAT ::
        .VMP_STATUS :: .VMP_SURF_USE :: pcieFoot⟩;
    (∀ (src : Requester) (s : State), Completes (Frame ft s) (exec (.vampDisable src) s))) ∧
  (let ft : Foot := ⟨[.sent, .host, .awl, .egr, .asp, .lst],
      .ASP_INT_SRC :: .ASP_INT_STAT :: .ASP_RX_FAULTS :: .ASP_RX_STAT :: .ASP_TX_FAULTS :: .ASP_TX_STAT :: .EGR_HEALTH_STAT ::
        .EGR_INT_STAT :: .GLB_INT_SUM :: .LST_FREQ :: .LST_HOLD_FREQ :: .LST_HOLD_STAT :: .LST_INT_STAT :: .LST_PHASE_ERR ::
        .LST_REF_STAT :: .LST_SLEW_LEFT :: .LST_STATUS :: .LST_SWITCHES :: .LST_TAG :: .LST_TB_STAT :: .NTM_SRV_STAT :: awlFoot⟩;
    (∀ (o : LastObs) (s : State), Completes (Frame ft s) (exec (.lastEvaluation o) s))) ∧
  (let ft : Foot := ⟨[.sent, .host, .lst],
      [.GLB_INT_SUM, .LST_INT_STAT, .LST_QUAL, .LST_REF_LOSS, .LST_REF_STAT, .LST_VALID]⟩;
    (∀ (r : Fin 14) (fault : Fin 8) (s : State), Completes (Frame ft s) (exec (.refLossDetect r fault) s))) ∧
  (let ft : Foot := ⟨[.lst],
      [.LST_REF_STAT, .LST_VALID]⟩;
    (∀ (r : Fin 14) (s : State), Completes (Frame ft s) (exec (.refValid r) s))) ∧
  (let ft : Foot := ⟨[],
      [.LST_QUAL, .LST_REF_STAT]⟩;
    (∀ (r : Fin 14) (s : State), Completes (Frame ft s) (exec (.refQualify r) s))) ∧
  (let ft : Foot := ⟨[.sent, .tb, .host, .awl, .lst],
      .GLB_INT_SUM :: .LST_INT_STAT :: .LST_PHASE_ERR :: .LST_REF_STAT :: .LST_SLEW_LEFT :: .LST_STATUS :: .LST_SWITCHES :: .LST_TAG
        :: .NTM_SRV_STAT :: awlFoot⟩;
    (∀ (phase : Int) (s : State), Completes (Frame ft s) (exec (.slewStep phase) s))) ∧
  (let ft : Foot := ⟨[.sent, .host, .awl, .lst],
      .GLB_INT_SUM :: .LST_INT_STAT :: .LST_STATUS :: .LST_TAG :: awlFoot⟩;
    (∀ (s : State), Completes (Frame ft s) (exec .lastLock s)) ∧
    (∀ (s : State), Completes (Frame ft s) (exec .holdoverLost s)) ∧
    (∀ (s : State), Completes (Frame ft s) (exec .oscHoldFail s))) ∧
  (let ft : Foot := ⟨[.resp, .sent, .host, .awl, .lst],
      .LST_CTRL :: .LST_HOLD_FREQ :: .LST_HOLD_STAT :: .LST_INT_STAT :: .LST_SLEW_LEFT :: .LST_STATUS :: .LST_STEER :: .LST_TAG ::
        (awlFoot ++ pcieFoot)⟩;
    (∀ (src : Requester) (s : State), Completes (Frame ft s) (exec (.loopOpen src) s)) ∧
    (∀ (src : Requester) (s : State), Completes (Frame ft s) (exec (.loopClose src) s))) ∧
  (let ft : Foot := ⟨[.resp, .sent, .host, .lst],
      .LST_INT_STAT :: .LST_STEER :: pcieFoot⟩;
    (∀ (src : Requester) (v : Word64) (s : State), Completes (Frame ft s) (exec (.steerWrite src v) s))) ∧
  (let ft : Foot := ⟨[.resp, .sent, .host, .lst],
      .LST_INT_STAT :: .LST_QUAL :: .LST_REF_CFG :: .LST_REF_LOSS :: .LST_REF_STAT :: .LST_VALID :: pcieFoot⟩;
    (∀ (src : Requester) (r : Fin 14) (w : Word32) (s : State), Completes (Frame ft s) (exec (.refCfgWrite src r w) s))) ∧
  (let ft : Foot := ⟨[.sent, .host, .awl, .lst],
      .GLB_INT_SUM :: .LST_INT_STAT :: .LST_STATUS :: .WLT_INT_STAT :: .WLT_NL_CLKMOVE :: awlFoot⟩;
    (∀ (b : Bool) (s : State), Completes (Frame ft s) (exec (.refclkFail b) s)) ∧
    (∀ (b : Bool) (s : State), Completes (Frame ft s) (exec (.refclkReturn b) s))) ∧
  (let ft : Foot := ⟨[.sent, .host, .awl, .egr, .asp],
      .ASP_INT_SRC :: .ASP_INT_STAT :: .ASP_RX_FAULTS :: .ASP_RX_STAT :: .ASP_TX_FAULTS :: .ASP_TX_STAT :: .EGR_HEALTH_STAT ::
        .EGR_INT_STAT :: .GLB_INT_SUM :: .LST_INT_STAT :: .LST_STATUS :: .LST_TB_STAT :: awlFoot⟩;
    (∀ (synths : BitVec 5) (s : State), Completes (Frame ft s) (exec (.laneClockUnqual synths) s)) ∧
    (∀ (synths : BitVec 5) (s : State), Completes (Frame ft s) (exec (.oscHoldReturn synths) s))) ∧
  (let ft : Foot := ⟨[.freeCtr, .sent, .host, .awl, .lst],
      .GLB_INT_SUM :: .LST_AGE :: .LST_STATUS :: awlFoot⟩;
    (∀ (offset : Int) (s : State), Completes (Frame ft s) (exec (.ageingRecord offset) s))) ∧
  (let ft : Foot := ⟨[.sent, .host, .awl],
      .GLB_INT_SUM :: .LST_AGE_PRED :: .LST_HOLD_STAT :: .LST_INT_STAT :: .LST_STATUS :: awlFoot⟩;
    (∀ (s : State), Completes (Frame ft s) (exec .ageingReplan s))) ∧
  (let ft : Foot := ⟨[.resp, .freeCtr, .sent, .tb, .host, .awl, .twl, .nim, .tks, .egr, .ntm],
      .EGR_HEALTH_STAT :: .EGR_INT_STAT :: .EGR_OTD_STAT :: .EGR_OUT_TAKE :: .NIM_CQ_LOST :: .NIM_CQ_TAIL :: .NIM_INT_STAT ::
        .NIM_JRN_FREE :: .NIM_JRN_OPEN :: .NIM_SVC_STAT :: .NTM_INT_STAT :: .NTM_STATUS :: .NTM_TB_STAT :: .NTM_TB_STEPS ::
        .NTM_TRG_CFG :: .NTM_TRG_LATE :: .NTM_TRG_MISSED :: .NTM_TRG_SRC :: .NTM_TRG_STAT :: .NTM_TRG_T :: (awlFoot ++ pcieFoot ++
        routeFoot)⟩;
    (∀ (src : Requester) (k : Fin 4) (s : State), Completes (Frame ft s) (exec (.tbSet src k) s)) ∧
    (∀ (src : Requester) (k : Fin 4) (s : State), Completes (Frame ft s) (exec (.tbStep src k) s))) ∧
  (let ft : Foot := ⟨[.resp, .sent, .host, .lst, .ntm],
      .LST_INT_STAT :: .LST_QUAL :: .LST_REF_LOSS :: .LST_REF_STAT :: .LST_VALID :: .NTM_INT_STAT :: .NTM_SRV_STAT :: .NTM_TB_CFG ::
        pcieFoot⟩;
    (∀ (src : Requester) (k : Fin 4) (w : Word32) (s : State), Completes (Frame ft s) (exec (.tbModeWrite src k w) s))) ∧
  (let ft : Foot := ⟨[.resp, .freeCtr, .sent, .tb, .host, .awl, .twl, .nim, .tks, .egr, .lst, .ntm],
      .EGR_HEALTH_STAT :: .EGR_INT_STAT :: .EGR_OTD_STAT :: .EGR_OUT_TAKE :: .LST_INT_STAT :: .LST_QUAL :: .LST_REF_LOSS ::
        .LST_REF_STAT :: .LST_TB_STAT :: .LST_VALID :: .NIM_CQ_LOST :: .NIM_CQ_TAIL :: .NIM_INT_STAT :: .NIM_JRN_FREE ::
        .NIM_JRN_OPEN :: .NIM_SVC_STAT :: .NTM_INT_STAT :: .NTM_SRV_OFFSET :: .NTM_SRV_SAMPLES :: .NTM_SRV_STAT :: .NTM_STATUS ::
        .NTM_TB_STAT :: .NTM_TB_STEPS :: .NTM_TRG_CFG :: .NTM_TRG_LATE :: .NTM_TRG_MISSED :: .NTM_TRG_SRC :: .NTM_TRG_STAT ::
        .NTM_TRG_T :: (awlFoot ++ pcieFoot ++ routeFoot)⟩;
    (∀ (src : Requester) (k : Fin 4) (v : Word64) (s : State), Completes (Frame ft s) (exec (.srvFeedWrite src k v) s))) ∧
  (let ft : Foot := ⟨[.net],
      [.NTM_PORT_TXMSG]⟩;
    (∀ (k : Fin 4) (p : Fin 32) (s : State), Completes (Frame ft s) (exec (.ptpAnnounceSend k p) s)) ∧
    (∀ (k : Fin 4) (p : Fin 32) (s : State), Completes (Frame ft s) (exec (.ptpSyncSend k p) s))) ∧
  (let ft : Foot := ⟨[.ntm, .net],
      [.NTM_PORT_TXMSG]⟩;
    (∀ (k : Fin 4) (p : Fin 32) (tx : FineTime) (s : State), Completes (Frame ft s) (exec (.ptpDelayReqSend k p tx) s)) ∧
    (∀ (k : Fin 4) (p : Fin 32) (tx : FineTime) (s : State), Completes (Frame ft s) (exec (.ptpPdelayReqSend k p tx) s))) ∧
  (let ft : Foot := ⟨[.freeCtr, .sent, .host, .awl, .lst, .ntm],
      .GLB_INT_SUM :: .LST_INT_STAT :: .LST_QUAL :: .LST_REF_LOSS :: .LST_REF_STAT :: .LST_TB_STAT :: .LST_VALID :: .NTM_INT_STAT ::
        .NTM_PORT_STAT :: .NTM_SRV_STAT :: awlFoot⟩;
    (∀ (k : Fin 4) (p : Fin 32) (s : State), Completes (Frame ft s) (exec (.announceTimeout k p) s))) ∧
  (let ft : Foot := ⟨[.freeCtr, .sent, .host, .awl, .lst, .ntm],
      .GLB_INT_SUM :: .LST_INT_STAT :: .LST_QUAL :: .LST_REF_LOSS :: .LST_REF_STAT :: .LST_TB_STAT :: .LST_VALID :: .NTM_INT_STAT ::
        .NTM_SRV_STAT :: awlFoot⟩;
    (∀ (k : Fin 4) (s : State), Completes (Frame ft s) (exec (.servoSamplesStop k) s))) ∧
  (let ft : Foot := ⟨[.resp, .freeCtr, .sent, .host, .awl, .lst, .ntm],
      .LST_INT_STAT :: .LST_QUAL :: .LST_REF_LOSS :: .LST_REF_STAT :: .LST_TB_STAT :: .LST_VALID :: .NTM_INT_STAT :: .NTM_PORT_CFG
        :: .NTM_SRV_STAT :: (awlFoot ++ pcieFoot)⟩;
    (∀ (src : Requester) (k : Fin 4) (p : Fin 32) (w : Word32) (s : State), Completes (Frame ft s) (exec (.ptpPortStateWrite src k p
      w) s))) ∧
  (let ft : Foot := ⟨[.resp, .freeCtr, .sent, .tb, .host, .awl, .twl, .nim, .tks, .egr, .ntm],
      .EGR_HEALTH_STAT :: .EGR_INT_STAT :: .EGR_OTD_STAT :: .EGR_OUT_TAKE :: .GLB_INT_SUM :: .NIM_CQ_LOST :: .NIM_CQ_TAIL ::
        .NIM_INT_STAT :: .NIM_JRN_FREE :: .NIM_JRN_OPEN :: .NIM_SVC_STAT :: .NTM_INT_STAT :: .NTM_STATUS :: .NTM_TB_ALIGN_OFF ::
        .NTM_TB_STAT :: .NTM_TB_STEPS :: .NTM_TRG_CFG :: .NTM_TRG_LATE :: .NTM_TRG_MISSED :: .NTM_TRG_SRC :: .NTM_TRG_STAT ::
        .NTM_TRG_T :: (awlFoot ++ routeFoot)⟩;
    (∀ (k : Fin 4) (s : State), Completes (Frame ft s) (exec (.alignEdge k) s))) ∧
  (let ft : Foot := ⟨[.resp, .sent, .host, .ntm],
      .NTM_INT_STAT :: .NTM_STATUS :: .NTM_TRG_CFG :: .NTM_TRG_LATE :: .NTM_TRG_MISSED :: .NTM_TRG_SRC :: .NTM_TRG_STAT ::
        .NTM_TRG_T :: pcieFoot⟩;
    (∀ (src : Requester) (tt : Fin 64) (w : Word32) (s : State), Completes (Frame ft s) (exec (.triggerArm src tt w) s)) ∧
    (∀ (src : Requester) (tt : Fin 64) (s : State), Completes (Frame ft s) (exec (.triggerDrain src tt) s)) ∧
    (∀ (src : Requester) (tt : Fin 64) (s : State), Completes (Frame ft s) (exec (.triggerKill src tt) s))) ∧
  (let ft : Foot := ⟨[.sent, .host, .ntm],
      [.GLB_INT_SUM, .NTM_INT_STAT, .NTM_STATUS, .NTM_TRG_CFG, .NTM_TRG_SRC, .NTM_TRG_STAT]⟩;
    (∀ (tt : Fin 64) (s : State), Completes (Frame ft s) (exec (.triggerFire tt) s))) ∧
  (let ft : Foot := ⟨[.ntm],
      [.NTM_STATUS, .NTM_TRG_STAT]⟩;
    (∀ (tt : Fin 64) (s : State), Completes (Frame ft s) (exec (.triggerPulseEnd tt) s))) ∧
  (let ft : Foot := ⟨[.sent, .host, .ntm],
      [.GLB_INT_SUM, .NTM_CAP_OVF, .NTM_CAP_STAT, .NTM_INT_STAT]⟩;
    (∀ (c : Fin 64) (rising : Bool) (s : State), Completes (Frame ft s) (exec (.captureEdge c rising) s))) ∧
  (let ft : Foot := ⟨[.rdata, .ntm],
      [.NTM_CAP_HI, .NTM_CAP_STAT]⟩;
    (∀ (c : Fin 64) (s : State), Completes (Frame ft s) (exec (.captureRead c) s))) ∧
  (let ft : Foot := ⟨[.resp, .freeCtr, .sent, .host, .awl, .lst, .ntm],
      .LST_INT_STAT :: .LST_QUAL :: .LST_REF_LOSS :: .LST_REF_STAT :: .LST_TB_STAT :: .LST_VALID :: .NTM_CTRL :: .NTM_INT_STAT ::
        .NTM_SRV_STAT :: .NTM_STATUS :: .NTM_TRG_CFG :: .NTM_TRG_STAT :: (awlFoot ++ pcieFoot)⟩;
    (∀ (src : Requester) (s : State), Completes (Frame ft s) (exec (.ntmDisable src) s)))

/-- Serial lanes, Lace links and network ports: what each command leaves unchanged. For each command named, in every state: it
completes, and it changes nothing outside its footprint (the first list: parts of the state beside the registers; the second:
registers). Every part not listed and every element of every register not listed reads as before, and the register store stays
sound. -/
def Obligations.LaneAndPortFrames : Prop :=
  (let ft : Foot := ⟨[.ing],
      [.ING_SDI_RATE]⟩;
    (∀ (n : Fin 128) (s : State), Completes (Frame ft s) (exec (.sdiLock n) s))) ∧
  (let ft : Foot := ⟨[.sent, .host, .ing, .nim, .net],
      [.EGR_JOIN_STAT, .GLB_INT_SUM, .ING_AFL_STAT, .ING_ANF_STAT, .ING_INT_STAT, .ING_PKT_DUP, .ING_PKT_LATE, .ING_PKT_RXA,
        .ING_PKT_RXB, .ING_PKT_STAT, .ING_UNBOUND, .ING_UNMATCHED, .NIM_SVC_STAT, .NPT_INT_STAT, .NPT_RXR_DROP, .NPT_RXR_FRAMES,
        .NPT_RXR_HEAD, .NPT_RX_ADDR, .NPT_RX_BYTES, .NPT_RX_CSUM, .NPT_RX_FCS, .NPT_RX_FRAMES, .NPT_RX_LEN, .NPT_RX_TAG,
        .NPT_STEER_DROP, .NPT_STEER_MISS]⟩;
    (∀ (p : Fin 32) (f : RxFrame) (s : State), Completes (Frame ft s) (exec (.networkFrameReceive p f) s))) ∧
  (let ft : Foot := ⟨[.freeCtr, .sent, .host, .awl, .twl, .lst, .net],
      .GLB_INT_SUM :: .LST_INT_STAT :: .LST_QUAL :: .LST_REF_LOSS :: .LST_REF_PEER :: .LST_REF_STAT :: .LST_TAG :: .LST_VALID ::
        .TWL_INT_STAT :: .TWL_LK_SHED :: .TWL_LK_STAT :: .WLT_INT_STAT :: .WLT_LK_DEGRADES :: .WLT_LK_DOWNS :: .WLT_LK_REPLAY ::
        .WLT_LK_SRC :: .WLT_LK_STAT :: awlFoot⟩;
    (∀ (k : Fin 16) (credits : List (Fin 1024 × Fin 168 × Nat)) (lost : Option (Fin 4 × Nat)) (tag : Word32) (s : State), Completes
      (Frame ft s) (exec (.linkControlCell k credits lost tag) s))) ∧
  (let ft : Foot := ⟨[.resp, .freeCtr, .sent, .tb, .host, .awl, .twl, .nim, .tks, .egr, .lst, .ntm, .net],
      .EGR_HEALTH_STAT :: .EGR_INT_STAT :: .EGR_OTD_STAT :: .EGR_OUT_TAKE :: .GLB_INT_SUM :: .LST_INT_STAT :: .LST_QUAL ::
        .LST_REF_LOSS :: .LST_REF_STAT :: .LST_TB_STAT :: .LST_VALID :: .NIM_CQ_LOST :: .NIM_CQ_TAIL :: .NIM_INT_STAT ::
        .NIM_JRN_FREE :: .NIM_JRN_OPEN :: .NIM_SVC_STAT :: .NPT_INT_STAT :: .NPT_RXR_DROP :: .NPT_RXR_FRAMES :: .NPT_RXR_HEAD ::
        .NPT_RX_ADDR :: .NPT_RX_BYTES :: .NPT_RX_CSUM :: .NPT_RX_FCS :: .NPT_RX_FRAMES :: .NPT_RX_LEN :: .NPT_RX_TAG ::
        .NPT_STEER_DROP :: .NPT_STEER_MISS :: .NTM_INT_STAT :: .NTM_PORT_MPD :: .NTM_PORT_RXMSG :: .NTM_PORT_STAT :: .NTM_PORT_TXMSG
        :: .NTM_SRV_OFFSET :: .NTM_SRV_REJECT :: .NTM_SRV_SAMPLES :: .NTM_SRV_STAT :: .NTM_STATUS :: .NTM_TB_STAT :: .NTM_TB_STEPS
        :: .NTM_TRG_CFG :: .NTM_TRG_LATE :: .NTM_TRG_MISSED :: .NTM_TRG_SRC :: .NTM_TRG_STAT :: .NTM_TRG_T :: (awlFoot ++
        routeFoot)⟩;
    (∀ (p : Fin 32) (m : PtpMsg) (f : RxFrame) (s : State), Completes (Frame ft s) (exec (.ptpMessageReceive p m f) s))) ∧
  (let ft : Foot := ⟨[.sent, .host, .awl, .ing, .net],
      .GLB_INT_SUM :: .ING_SDI_RATE :: .NPT_INT_STAT :: .NPT_LINK :: .NPT_LINK_DOWNS :: .NPT_PORT_STAT :: .NPT_TX_DISCARD ::
        .NTM_INT_STAT :: .NTM_PHY_TXABORT :: .WLT_INT_STAT :: .WLT_LANE_LOL :: .WLT_LK_SRC :: awlFoot⟩;
    (∀ (ix : Fin 224) (s : State), Completes (Frame ft s) (exec (.laneLossOfLock ix) s))) ∧
  (let ft : Foot := ⟨[.resp, .sent, .host, .awl, .net],
      .GLB_INT_SUM :: .TWL_LK_STAT :: .WLT_INT_STAT :: .WLT_LANE_DFE :: .WLT_LANE_ERR :: .WLT_LANE_EYE :: .WLT_LANE_FEC_UNC ::
        .WLT_LANE_PRBS_ERR :: .WLT_LK_SRC :: .WLT_LK_STAT :: awlFoot⟩;
    (∀ (ix : Fin 224) (o : EyeObs) (s : State), Completes (Frame ft s) (exec (.eyeMeasure ix o) s))) ∧
  (let ft : Foot := ⟨[.resp, .sent, .host, .awl, .ing, .net],
      .ING_SDI_RATE :: .NPT_INT_STAT :: .NPT_LINK :: .NPT_LINK_DOWNS :: .NPT_PORT_STAT :: .NPT_TX_DISCARD :: .NTM_INT_STAT ::
        .NTM_PHY_TXABORT :: .TWL_LK_STAT :: .WLT_INT_STAT :: .WLT_LANE_LOL :: .WLT_LK_SRC :: .WLT_LK_STAT :: (awlFoot ++ pcieFoot)⟩;
    (∀ (src : Requester) (ix : Fin 224) (s : State), Completes (Frame ft s) (exec (.laneRecal src ix) s)) ∧
    (∀ (src : Requester) (ix : Fin 224) (s : State), Completes (Frame ft s) (exec (.laneRetrain src ix) s))) ∧
  (let ft : Foot := ⟨[.net],
      []⟩;
    (∀ (ix : Fin 224) (offset : Int) (larger : Bool) (s : State), Completes (Frame ft s) (exec (.laneRecalStep ix offset larger) s))
      ∧
    (∀ (k : Fin 16) (s : State), Completes (Frame ft s) (exec (.laceReaddRetry k) s))) ∧
  (let ft : Foot := ⟨[.resp, .sent, .host],
      .WLT_INT_STAT :: .WLT_LANE_TXEQ :: pcieFoot⟩;
    (∀ (src : Requester) (ix : Fin 224) (w : Word32) (s : State), Completes (Frame ft s) (exec (.txeqWrite src ix w) s))) ∧
  (let ft : Foot := ⟨[.resp, .sent, .host],
      .WLT_INT_STAT :: .WLT_LANE_PRBS :: pcieFoot⟩;
    (∀ (src : Requester) (ix : Fin 224) (w : Word32) (s : State), Completes (Frame ft s) (exec (.prbsWrite src ix w) s))) ∧
  (let ft : Foot := ⟨[.resp, .sent, .host, .awl, .twl, .net],
      .TWL_LK_STAT :: .WLT_INT_STAT :: .WLT_LK_CFG :: .WLT_LK_DOWNS :: .WLT_LK_SRC :: .WLT_LK_STAT :: (awlFoot ++ pcieFoot)⟩;
    (∀ (src : Requester) (k : Fin 16) (w : Word32) (s : State), Completes (Frame ft s) (exec (.laceLinkEnable src k w) s)) ∧
    (∀ (src : Requester) (k : Fin 16) (s : State), Completes (Frame ft s) (exec (.laceLinkDisable src k) s)) ∧
    (∀ (src : Requester) (k : Fin 16) (s : State), Completes (Frame ft s) (exec (.laceLinkKill src k) s))) ∧
  (let ft : Foot := ⟨[.sent, .host, .awl, .net],
      .GLB_INT_SUM :: .TWL_INT_STAT :: .TWL_LK_STAT :: .WLT_INT_STAT :: .WLT_LK_PEER :: .WLT_LK_SRC :: .WLT_LK_STAT :: awlFoot⟩;
    (∀ (k : Fin 16) (o : IdentObs) (s : State), Completes (Frame ft s) (exec (.laceIdentityReceive k o) s))) ∧
  (let ft : Foot := ⟨[],
      [.WLT_LK_STAT]⟩;
    (∀ (k : Fin 16) (s : State), Completes (Frame ft s) (exec (.laceIdentTimeout k) s)) ∧
    (∀ (k : Fin 16) (s : State), Completes (Frame ft s) (exec (.laceRateStep k) s))) ∧
  (let ft : Foot := ⟨[.sent, .twl, .net],
      [.TWL_LK_STAT, .WLT_LK_STAT]⟩;
    (∀ (k : Fin 16) (s : State), Completes (Frame ft s) (exec (.laceRetry k) s))) ∧
  (let ft : Foot := ⟨[.net],
      [.WLT_LANE_DFE, .WLT_LANE_TXEQ, .WLT_LK_STAT]⟩;
    (∀ (k : Fin 16) (lanes : List LaneTrain) (s : State), Completes (Frame ft s) (exec (.laceTrainDone k lanes) s))) ∧
  (let ft : Foot := ⟨[.sent, .host, .awl, .twl, .net],
      .GLB_INT_SUM :: .TWL_LK_STAT :: .WLT_INT_STAT :: .WLT_LANE_DFE :: .WLT_LANE_TXEQ :: .WLT_LK_BRINGUP :: .WLT_LK_DOWNS ::
        .WLT_LK_SRC :: .WLT_LK_STAT :: awlFoot⟩;
    (∀ (k : Fin 16) (qs : List LaneQual) (recId : Nat) (s : State), Completes (Frame ft s) (exec (.laceQualEnd k qs recId) s))) ∧
  (let ft : Foot := ⟨[.sent, .host, .awl, .twl, .net],
      .GLB_INT_SUM :: .TWL_LK_STAT :: .WLT_INT_STAT :: .WLT_LK_DOWNS :: .WLT_LK_SRC :: .WLT_LK_STAT :: awlFoot⟩;
    (∀ (k : Fin 16) (s : State), Completes (Frame ft s) (exec (.laceDrainDone k) s)) ∧
    (∀ (k : Fin 16) (s : State), Completes (Frame ft s) (exec (.laceAllLanesLost k) s)) ∧
    (∀ (k : Fin 16) (j : Fin 4) (s : State), Completes (Frame ft s) (exec (.laceSecondLaneLost k j) s))) ∧
  (let ft : Foot := ⟨[.freeCtr, .sent, .host, .awl, .twl, .net],
      .GLB_INT_SUM :: .TWL_INT_STAT :: .TWL_LK_SHED :: .TWL_LK_STAT :: .WLT_INT_STAT :: .WLT_LK_DEGRADES :: .WLT_LK_DOWNS ::
        .WLT_LK_REPLAY :: .WLT_LK_SRC :: .WLT_LK_STAT :: awlFoot⟩;
    (∀ (k : Fin 16) (j : Fin 4) (resent : Nat) (s : State), Completes (Frame ft s) (exec (.laceLaneFail k j resent) s))) ∧
  (let ft : Foot := ⟨[.freeCtr, .sent, .host, .awl, .net],
      .GLB_INT_SUM :: .TWL_LK_STAT :: .WLT_INT_STAT :: .WLT_LANE_DFE :: .WLT_LANE_TXEQ :: .WLT_LK_SRC :: .WLT_LK_STAT :: awlFoot⟩;
    (∀ (k : Fin 16) (tt : LaneTrain) (q : LaneQual) (s : State), Completes (Frame ft s) (exec (.laceReaddAttempt k tt q) s))) ∧
  (let ft : Foot := ⟨[.resp, .sent, .host, .twl, .net],
      .TWL_LK_STAT :: .WLT_INT_STAT :: .WLT_LK_STAT :: pcieFoot⟩;
    (∀ (src : Requester) (k : Fin 16) (s : State), Completes (Frame ft s) (exec (.laceLinkRetrain src k) s)) ∧
    (∀ (src : Requester) (k : Fin 16) (j : Fin 4) (s : State), Completes (Frame ft s) (exec (.laceLinkRecal src k j) s))) ∧
  (let ft : Foot := ⟨[.resp, .sent, .host, .awl, .net],
      .NPT_GRP_CFG :: .NPT_INT_STAT :: .NPT_LINK :: .NPT_LINK_DOWNS :: .NPT_PORT_STAT :: .NPT_TX_DISCARD :: .NTM_INT_STAT ::
        .NTM_PHY_TXABORT :: (awlFoot ++ pcieFoot)⟩;
    (∀ (src : Requester) (g : Fin 8) (w : Word32) (s : State), Completes (Frame ft s) (exec (.groupModeWrite src g w) s))) ∧
  (let ft : Foot := ⟨[.resp, .sent, .host, .awl, .net],
      .NPT_INT_STAT :: .NPT_LINK :: .NPT_LINK_DOWNS :: .NPT_PORT_CFG :: .NPT_PORT_STAT :: .NPT_STATUS :: .NPT_TX_DISCARD ::
        .NTM_INT_STAT :: .NTM_PHY_TXABORT :: (awlFoot ++ pcieFoot)⟩;
    (∀ (src : Requester) (p : Fin 32) (w : Word32) (s : State), Completes (Frame ft s) (exec (.portEnable src p w) s)) ∧
    (∀ (src : Requester) (p : Fin 32) (s : State), Completes (Frame ft s) (exec (.portDisable src p) s)) ∧
    (∀ (src : Requester) (p : Fin 32) (s : State), Completes (Frame ft s) (exec (.portKill src p) s))) ∧
  (let ft : Foot := ⟨[.sent, .host, .egr],
      [.EGR_JOIN_REP, .EGR_JOIN_STAT, .GLB_INT_SUM, .NPT_INT_STAT, .NPT_LINK, .NPT_PORT_STAT]⟩;
    (∀ (p : Fin 32) (s : State), Completes (Frame ft s) (exec (.portLinkUp p) s))) ∧
  (let ft : Foot := ⟨[.sent, .host, .net],
      [.GLB_INT_SUM, .NPT_PORT_STAT, .NPT_TX_BYTES, .NPT_TX_FRAMES, .NTM_INT_STAT, .NTM_PHY_TXABORT]⟩;
    (∀ (p : Fin 32) (media : Option (Nat × Nat)) (ptpBytes : Nat) (onTime : Bool) (s : State), Completes (Frame ft s) (exec
      (.portTransmit p media ptpBytes onTime) s))) ∧
  (let ft : Foot := ⟨[.sent, .host, .net],
      [.GLB_INT_SUM, .NPT_INT_STAT, .NPT_PAUSE_IGN, .NPT_PAUSE_RX, .NPT_PORT_STAT]⟩;
    (∀ (p : Fin 32) (pfc : Bool) (classes : BitVec 8) (quanta : List (Fin 65536)) (s : State), Completes (Frame ft s) (exec
      (.pauseReceive p pfc classes quanta) s))) ∧
  (let ft : Foot := ⟨[.net],
      [.NPT_PORT_STAT]⟩;
    (∀ (p : Fin 32) (s : State), Completes (Frame ft s) (exec (.pauseExpire p) s))) ∧
  (let ft : Foot := ⟨[],
      [.NPT_LPI_ENTRIES, .NPT_PORT_STAT]⟩;
    (∀ (p : Fin 32) (s : State), Completes (Frame ft s) (exec (.lpiEnter p) s))) ∧
  (let ft : Foot := ⟨[.sent, .host],
      [.GLB_INT_SUM, .INS_INT_STAT, .INS_STATE, .INS_WAKE_SRC, .NPT_INT_STAT, .NPT_PORT_CFG, .NPT_PORT_STAT]⟩;
    (∀ (p : Fin 32) (f : RxFrame) (s : State), Completes (Frame ft s) (exec (.wakeFrame p f) s))) ∧
  (let ft : Foot := ⟨[.resp, .sent, .host],
      .NPT_INT_STAT :: .NPT_RXR_TAIL :: pcieFoot⟩;
    (∀ (src : Requester) (r : Fin 16) (tail : Fin 4096) (s : State), Completes (Frame ft s) (exec (.rxrTailDoorbell src r tail) s))) ∧
  (let ft : Foot := ⟨[.sent, .host, .net],
      []⟩;
    (∀ (r : Fin 16) (s : State), Completes (Frame ft s) (exec (.rxrCoalesceTimer r) s)) ∧
    (∀ (p : Fin 32) (time : Nat) (s : State), Completes (Frame ft s) (exec (.txFrameComplete p time) s))) ∧
  (let ft : Foot := ⟨[.resp, .sent, .host, .net],
      .NPT_INT_STAT :: .NPT_TXR_HEAD :: .NPT_TXR_TAIL :: .NPT_TX_DISCARD :: pcieFoot⟩;
    (∀ (src : Requester) (r : Fin 16) (tail : Fin 4096) (frames : List TxFrame) (s : State), Completes (Frame ft s) (exec
      (.txrTailDoorbell src r tail frames) s))) ∧
  (let ft : Foot := ⟨[.sent, .host, .awl, .net],
      .GLB_INT_SUM :: .NPT_INT_STAT :: .NPT_LINK :: .NPT_LINK_DOWNS :: .NPT_PORT_STAT :: .NPT_STATUS :: .NPT_TX_DISCARD ::
        .NTM_INT_STAT :: .NTM_PHY_TXABORT :: awlFoot⟩;
    (∀ (p : Fin 32) (s : State), Completes (Frame ft s) (exec (.portDrainDone p) s))) ∧
  (let ft : Foot := ⟨[.resp, .sent, .host, .net],
      .NPT_INT_STAT :: .NPT_RXR_CFG :: .NPT_RXR_HEAD :: .NPT_TXR_CFG :: pcieFoot⟩;
    (∀ (src : Requester) (rx : Bool) (r : Fin 16) (s : State), Completes (Frame ft s) (exec (.ringDisable src rx r) s))) ∧
  (let ft : Foot := ⟨[.resp, .sent, .host, .awl, .net],
      .NPT_CTRL :: .NPT_INT_STAT :: .NPT_LINK :: .NPT_LINK_DOWNS :: .NPT_PORT_STAT :: .NPT_STATUS :: .NPT_TX_DISCARD ::
        .NTM_INT_STAT :: .NTM_PHY_TXABORT :: (awlFoot ++ pcieFoot)⟩;
    (∀ (src : Requester) (kill : Bool) (s : State), Completes (Frame ft s) (exec (.nptDisable src kill) s))) ∧
  (let ft : Foot := ⟨[.sent, .host, .awl, .net],
      .GLB_INT_SUM :: .NPT_INT_STAT :: .NPT_LINK :: .NPT_LINK_DOWNS :: .NPT_PORT_STAT :: .NPT_TX_DISCARD :: .NTM_INT_STAT ::
        .NTM_PHY_TXABORT :: awlFoot⟩;
    (∀ (p : Fin 32) (loc rem : Bool) (s : State), Completes (Frame ft s) (exec (.portFault p loc rem) s)))

/-- Resilience, the settings store, the Awl and field update: what each command leaves unchanged. For each command named, in every
state: it completes, and it changes nothing outside its footprint (the first list: parts of the state beside the registers;
the second: registers). Every part not listed and every element of every register not listed reads as before, and the register
store stays sound. -/
def Obligations.ResilienceAndStoreFrames : Prop :=
  (let ft : Foot := ⟨[.sent, .host, .awl, .twl, .nim, .tks, .egr],
      .EGR_HEALTH_STAT :: .EGR_INT_STAT :: .GLB_ALERT_STAT :: .GLB_INT_STAT :: .GLB_INT_SUM :: .NIM_CORE_STAT :: .RSL_FENCE_STAT ::
        .RSL_INT_STAT :: .RSL_STATUS :: .RSL_XCHK_LAST :: awlFoot⟩;
    (∀ (step : Fin 6) (s : State), Completes (Frame ft s) (exec (.selfCheckDone step) s)) ∧
    (∀ (passed : Bool) (s : State), Completes (Frame ft s) (exec (.selfCheckResultReceive passed) s))) ∧
  (let ft : Foot := ⟨[.sent, .host, .tks],
      [.GLB_ALERT_STAT, .GLB_INT_STAT, .GLB_INT_SUM, .RSL_XCHK_LAST]⟩;
    (∀ (s : State), Completes (Frame ft s) (exec .selfCheckResultTimeout s))) ∧
  (let ft : Foot := ⟨[.sent, .rsl],
      []⟩;
    (∀ (s : State), Completes (Frame ft s) (exec .partnerSilence s)) ∧
    (∀ (claimant id : Fin 1024) (s : State), Completes (Frame ft s) (exec (.spareClaimReceive claimant id) s))) ∧
  (let ft : Foot := ⟨[.resp, .sent, .host, .awl, .twl, .nim, .tks, .rsl],
      .EGR_OUT_TAKE :: .GLB_ALERT_STAT :: .GLB_INT_STAT :: .GLB_INT_SUM :: .NIM_ACCEPTED :: .NIM_CORE_STAT :: .NIM_CQ_LOST ::
        .NIM_CQ_TAIL :: .NIM_INT_STAT :: .NIM_JRN_FREE :: .NIM_JRN_OPEN :: .NIM_PAIR_STAT :: .NIM_Q_HWM :: .NIM_Q_STAT ::
        .NIM_STATUS :: .NIM_SVC_STAT :: .RSL_INT_STAT :: .RSL_PAIR_STAT :: .RSL_STATUS :: (awlFoot ++ routeFoot)⟩;
    (∀ (s : State), Completes (Frame ft s) (exec .warmWaitTimeout s)) ∧
    (∀ (s : State), Completes (Frame ft s) (exec .partnerSilenceTimeout s)) ∧
    (∀ (s : State), Completes (Frame ft s) (exec .partnerFencedNotice s)) ∧
    (∀ (s : State), Completes (Frame ft s) (exec .partnerProbeTimeout s))) ∧
  (let ft : Foot := ⟨[.resp, .sent, .host, .boot],
      .INS_CLK_REQ :: .INS_CLK_RUN :: .INS_STATE :: .NIM_INT_STAT :: .NIM_PAIR_CFG :: .NIM_PAIR_STAT :: .NIM_Q_STAT :: .NIM_STATUS
        :: .RSL_STATUS :: .TWL_LK_STAT :: .WLT_LK_STAT :: pcieFoot⟩;
    (∀ (src : Requester) (allOrder partnerNames partnerB : Bool) (w : Word32) (s : State), Completes (Frame ft s) (exec
      (.pairModeWrite src allOrder partnerNames partnerB w) s))) ∧
  (let ft : Foot := ⟨[.sent, .host, .awl, .rsl],
      .GLB_INT_SUM :: .RSL_HBM_PPR :: .RSL_HBM_RETIRED :: .RSL_INT_STAT :: .RSL_REPAIR_USED :: .RSL_STATUS :: awlFoot⟩;
    (∀ (bank : Fin 65536) (row : Nat) (page : Fin 30720) (inUse : Bool) (s : State), Completes (Frame ft s) (exec (.hbmPpr bank row
      page inUse) s))) ∧
  (let ft : Foot := ⟨[.resp, .freeCtr, .sent, .host, .awl, .twl, .rsl],
      .GLB_ALERT_STAT :: .RSL_INT_STAT :: .RSL_PHYS_STAT :: .RSL_STATUS :: .RSL_UNIT_STAT :: .TWL_INT_STAT :: .TWL_SPARE_MAP ::
        .TWL_SP_STAT :: .TWL_SWAP_STAT :: (awlFoot ++ pcieFoot)⟩;
    (∀ (src : Requester) (u : Fin 232) (s : State), Completes (Frame ft s) (exec (.unitTest src u) s)) ∧
    (∀ (src : Requester) (u : Fin 232) (s : State), Completes (Frame ft s) (exec (.unitSwap src u) s)) ∧
    (∀ (src : Requester) (u : Fin 232) (s : State), Completes (Frame ft s) (exec (.unitRetest src u) s))) ∧
  (let ft : Foot := ⟨[.freeCtr, .sent, .host, .awl],
      .GLB_INT_SUM :: .RSL_UNIT_CORR :: .RSL_UNIT_STAT :: awlFoot⟩;
    (∀ (u : Fin 232) (corr : Nat) (implicated : Bool) (s : State), Completes (Frame ft s) (exec (.autoTestTrigger u corr implicated)
      s))) ∧
  (let ft : Foot := ⟨[.resp, .freeCtr, .sent, .host, .awl, .twl, .rsl],
      .GLB_ALERT_STAT :: .GLB_INT_STAT :: .GLB_INT_SUM :: .RSL_INT_STAT :: .RSL_PHYS_STAT :: .RSL_STATUS :: .RSL_UNIT_CORR ::
        .RSL_UNIT_STAT :: .TWL_INT_STAT :: .TWL_SPARE_MAP :: .TWL_SP_STAT :: .TWL_SWAP_STAT :: awlFoot⟩;
    (∀ (u : Fin 232) (passed : Bool) (s : State), Completes (Frame ft s) (exec (.inplaceCheckDone u passed) s))) ∧
  (let ft : Foot := ⟨[.sent, .host, .awl, .twl, .nim, .tks, .rsl],
      .GLB_INT_SUM :: .NIM_CORE_STAT :: .NIM_SVC_STAT :: .RSL_INT_STAT :: .RSL_PHYS_STAT :: .RSL_UNIT_STAT :: .RSL_UNIT_SWAPS ::
        .TWD_CORE_STAT :: .TWL_INT_STAT :: .TWL_SPARE_MAP :: .TWL_SP_STAT :: .TWL_SWAP_STAT :: .VMP_PIPE_STAT :: awlFoot⟩;
    (∀ (u : Fin 232) (s : State), Completes (Frame ft s) (exec (.unitSwapPoint u) s))) ∧
  (let ft : Foot := ⟨[.rsl],
      [.RSL_PHYS_STAT, .RSL_UNIT_STAT]⟩;
    (∀ (u : Fin 232) (s : State), Completes (Frame ft s) (exec (.spareCheckFail u) s))) ∧
  (let ft : Foot := ⟨[.sent, .host, .awl, .rsl],
      .GLB_INT_SUM :: .RSL_INT_STAT :: .RSL_PHYS_STAT :: .RSL_REPAIR_USED :: .RSL_STATUS :: awlFoot⟩;
    (∀ (x : Fin 248) (passed : Bool) (s : State), Completes (Frame ft s) (exec (.offlineTestDone x passed) s))) ∧
  (let ft : Foot := ⟨[.sent, .host, .awl, .rsl],
      .GLB_ALERT_STAT :: .GLB_INT_STAT :: .GLB_INT_SUM :: .RSL_AVS_STAT :: .RSL_INT_STAT :: .RSL_STATUS :: awlFoot⟩;
    (∀ (slack lower : Int) (s : State), Completes (Frame ft s) (exec (.avsStep slack lower) s))) ∧
  (let ft : Foot := ⟨[.sent, .host, .awl, .rsl],
      .GLB_INT_SUM :: .RSL_AVS_STAT :: .RSL_INT_STAT :: .RSL_STATUS :: awlFoot⟩;
    (∀ (required : Fin 1024) (slack : Int) (s : State), Completes (Frame ft s) (exec (.coreAgeingRecord required slack) s))) ∧
  (let ft : Foot := ⟨[.sent, .host, .awl, .rsl],
      .GLB_INT_SUM :: .RSL_INT_STAT :: .RSL_MRAM_SCRUB :: .RSL_REPAIR_USED :: .RSL_SRAM_REP :: .RSL_STATUS :: awlFoot⟩;
    (∀ (corrected : List Nat) (rows : List BadRow) (s : State), Completes (Frame ft s) (exec (.mramScrub corrected rows) s))) ∧
  (let ft : Foot := ⟨[.resp, .freeCtr, .sent, .host, .awl, .ing, .twl, .nim, .tks, .egr, .twd, .asp, .vmp, .ntm, .net],
      .ASP_INT_SRC :: .ASP_INT_STAT :: .ASP_RX_CFG :: .ASP_RX_KILLED :: .ASP_RX_STAT :: .ASP_STATUS :: .ASP_TX_CFG :: .ASP_TX_KILLED
        :: .ASP_TX_STAT :: .EGR_HEALTH_STAT :: .EGR_INT_STAT :: .EGR_OUT_STAT :: .EGR_OUT_TAKE :: .EGR_STATUS :: .EGR_VSND_MISS ::
        .EGR_VSND_STAT :: .GLB_INT_SUM :: .ING_IN_ALLOC :: .ING_IN_STAT :: .ING_LOSS_SUM :: .ING_POOL_USED :: .ING_STATUS ::
        .NIM_CQ_LOST :: .NIM_CQ_TAIL :: .NIM_INT_STAT :: .NIM_JRN_FREE :: .NIM_JRN_OPEN :: .NIM_SVC_STAT :: .NPT_INT_STAT ::
        .NPT_LINK :: .NPT_LINK_DOWNS :: .NPT_PORT_STAT :: .NPT_STATUS :: .NPT_TX_DISCARD :: .NTM_INT_STAT :: .NTM_PHY_TXABORT ::
        .NTM_STATUS :: .NTM_TRG_CFG :: .NTM_TRG_STAT :: .RSL_DRAIN_OVR :: .RSL_INT_STAT :: .TWD_CORE_FLAGS :: .TWD_CORE_STAT ::
        .TWD_IN_RES :: .TWD_OUT_RES :: .TWD_STATUS :: .TWL_KILLED :: .TWL_LK_STAT :: .TWL_STATUS :: .VMP_BUDGET :: .VMP_INT_STAT ::
        .VMP_LAYER_STAT :: .VMP_PIPE_CFG :: .VMP_PIPE_PEND :: .VMP_PIPE_STAT :: .VMP_STATUS :: .VMP_SURF_USE :: .WLT_INT_STAT ::
        .WLT_LK_DOWNS :: .WLT_LK_SRC :: .WLT_LK_STAT :: (awlFoot ++ routeFoot)⟩;
    (∀ (target : DrainTarget) (s : State), Completes (Frame ft s) (exec (.drainBoundExpire target) s))) ∧
  (let ft : Foot := ⟨[.sent, .host, .awl, .tks, .rsl],
      .GLB_ALERT_STAT :: .GLB_INT_STAT :: .GLB_INT_SUM :: .RSL_INT_STAT :: .RSL_XCHK_MISS :: awlFoot⟩;
    (∀ (s : State), Completes (Frame ft s) (exec .partnerProbeAnswer s))) ∧
  (let ft : Foot := ⟨[.sent, .host, .awl, .twl, .nim, .tks, .rsl],
      .GLB_INT_SUM :: .NIM_CORE_STAT :: .NIM_PAIR_STAT :: .NIM_Q_STAT :: .NIM_STATUS :: .NIM_SVC_STAT :: .RSL_INT_STAT ::
        .RSL_STATUS :: awlFoot⟩;
    (∀ (s : State), Completes (Frame ft s) (exec .partnerReturn s))) ∧
  (let ft : Foot := ⟨[.rsl],
      []⟩;
    (∀ (id : Fin 1024) (s : State), Completes (Frame ft s) (exec (.spareLossNotice id) s))) ∧
  (let ft : Foot := ⟨[.sent, .rsl],
      [.RSL_SPARE_STAT]⟩;
    (∀ (s : State), Completes (Frame ft s) (exec .spareClaimDelay s))) ∧
  (let ft : Foot := ⟨[],
      [.GLB_CHIP, .NIM_PAIR_CFG, .NIM_PAIR_STAT, .NIM_Q_STAT, .NIM_STATUS, .RSL_SPARE_STAT, .RSL_STATUS]⟩;
    (∀ (survivor : Fin 1024) (st : Status) (s : State), Completes (Frame ft s) (exec (.spareClaimGrant survivor st) s))) ∧
  (let ft : Foot := ⟨[],
      [.RSL_SPARE_STAT]⟩;
    (∀ (s : State), Completes (Frame ft s) (exec .spareClaimTimeout s))) ∧
  (let ft : Foot := ⟨[.resp, .sent, .host, .twl, .nim, .tks, .rsl, .boot],
      .EGR_OUT_CFG :: .EGR_OUT_STAT :: .EGR_OUT_TAKE :: .GLB_CHIP :: .INS_CLK_REQ :: .INS_CLK_RUN :: .INS_STATE :: .NIM_CQ_LOST ::
        .NIM_CQ_TAIL :: .NIM_INT_STAT :: .NIM_JRN_FREE :: .NIM_JRN_OPEN :: .NIM_PAIR_CFG :: .NIM_PAIR_STAT :: .NIM_SVC_STAT ::
        .RSL_INT_STAT :: .RSL_SPARE_STAT :: .RSL_STATUS :: .TWL_LK_STAT :: .WLT_LK_STAT :: (pcieFoot ++ routeFoot)⟩;
    (∀ (src : Requester) (id : Fin 1024) (s : State), Completes (Frame ft s) (exec (.spareAssume src id) s)) ∧
    (∀ (src : Requester) (s : State), Completes (Frame ft s) (exec (.spareRelease src) s))) ∧
  (let ft : Foot := ⟨[.resp, .sent, .host, .awl, .twl, .nim, .tks, .egr],
      .EGR_HEALTH_STAT :: .EGR_INT_STAT :: .GLB_ALERT_STAT :: .NIM_CORE_STAT :: .NIM_Q_STAT :: .NIM_STATUS :: .RSL_FENCE_CTRL ::
        .RSL_FENCE_STAT :: .RSL_INT_STAT :: .RSL_STATUS :: (awlFoot ++ pcieFoot)⟩;
    (∀ (src : Requester) (s : State), Completes (Frame ft s) (exec (.fenceCommand src) s)) ∧
    (∀ (src : Requester) (s : State), Completes (Frame ft s) (exec (.rejoinCommand src) s))) ∧
  (let ft : Foot := ⟨[],
      [.RSL_FENCE_STAT]⟩;
    (∀ (passed : Bool) (s : State), Completes (Frame ft s) (exec (.fenceRepairDone passed) s))) ∧
  (let ft : Foot := ⟨[.keep],
      []⟩;
    (∀ (s : State), Completes (Frame ft s) (exec .counterRecordWrite s))) ∧
  (let ft : Foot := ⟨[.freeCtr, .sent, .host, .awl, .keep],
      .GLB_INT_SUM :: .RSL_FLASH_WEAR :: .RSL_INT_STAT :: .RSL_STATUS :: .SET_INT_STAT :: .SET_SECTORS :: .SET_SNAP_RESULT ::
        .SET_STATUS :: awlFoot⟩;
    (∀ (s : State), Completes (Frame ft s) (exec .snapshotAuto s))) ∧
  (let ft : Foot := ⟨[.resp, .freeCtr, .sent, .host, .awl, .keep],
      .RSL_FLASH_WEAR :: .RSL_INT_STAT :: .RSL_STATUS :: .SET_DEMAND_LEFT :: .SET_INT_STAT :: .SET_SECTORS :: .SET_SNAP_RESULT ::
        .SET_STATUS :: (awlFoot ++ pcieFoot)⟩;
    (∀ (src : Requester) (s : State), Completes (Frame ft s) (exec (.snapshotDemand src) s))) ∧
  (let ft : Foot := ⟨[.freeCtr, .sent, .host, .awl, .keep],
      .GLB_INT_SUM :: .RSL_FLASH_WEAR :: .RSL_INT_STAT :: .RSL_STATUS :: .SET_DELTA_USED :: .SET_INT_STAT :: .SET_PAIR_FMT ::
        .SET_SECTORS :: .SET_SNAPS :: .SET_SNAP_LEN :: .SET_SNAP_OPSEC :: .SET_SNAP_RESULT :: .SET_SNAP_SEQ :: .SET_STATUS ::
        awlFoot⟩;
    (∀ (failing : List (Fin 256)) (s : State), Completes (Frame ft s) (exec (.snapshotVerifyDone failing) s))) ∧
  (let ft : Foot := ⟨[.keep],
      [.SET_DEMAND_LEFT]⟩;
    (∀ (s : State), Completes (Frame ft s) (exec .demandRefill s))) ∧
  (let ft : Foot := ⟨[.awl],
      []⟩;
    (∀ (s : State), Completes (Frame ft s) (exec .awlWindowClose s)) ∧
    (∀ (s : State), Completes (Frame ft s) (exec .awlClearLockoutExpire s))) ∧
  (let ft : Foot := ⟨[.sent, .host, .awl, .keep],
      .AWL_COUNT :: .AWL_HEAD :: .AWL_OLDEST :: .AWL_OVERWRITTEN :: .AWL_SEQ_NEXT :: .GLB_ALERT_STAT :: .GLB_INT_STAT ::
        .GLB_INT_SUM :: .RSL_FLASH_WEAR :: .RSL_INT_STAT :: .RSL_STATUS :: .SET_INT_STAT :: .SET_SECTORS :: awlFoot⟩;
    (∀ (ok : Bool) (s : State), Completes (Frame ft s) (exec (.awlRecordWrite ok) s))) ∧
  (let ft : Foot := ⟨[.resp, .sent, .host, .awl],
      .AWL_CTRL :: .AWL_INT_STAT :: .AWL_STATUS :: pcieFoot⟩;
    (∀ (src : Requester) (s : State), Completes (Frame ft s) (exec (.awlFreeze src) s)) ∧
    (∀ (src : Requester) (s : State), Completes (Frame ft s) (exec (.awlUnfreeze src) s)) ∧
    (∀ (src : Requester) (s : State), Completes (Frame ft s) (exec (.awlRetryMram src) s))) ∧
  (let ft : Foot := ⟨[.sent, .host, .awl],
      .AWL_CTRL :: .GLB_INT_SUM :: awlFoot⟩;
    (∀ (s : State), Completes (Frame ft s) (exec .awlFreezeExpire s))) ∧
  (let ft : Foot := ⟨[.resp, .sent, .host, .awl],
      .AWL_INT_STAT :: .AWL_RD_IDX :: .AWL_RD_STAT :: pcieFoot⟩;
    (∀ (src : Requester) (w : Word32) (s : State), Completes (Frame ft s) (exec (.awlReadIndex src w) s))) ∧
  (let ft : Foot := ⟨[.freeCtr, .awl],
      [.AWL_RD_DATA, .AWL_RD_STAT]⟩;
    (∀ (torn : Bool) (s : State), Completes (Frame ft s) (exec (.awlReadLatchDone torn) s))) ∧
  (let ft : Foot := ⟨[.resp, .freeCtr, .sent, .host, .awl, .keep],
      .AWL_CLR_NONCE :: .AWL_CLR_RESULT :: .AWL_COUNT :: .AWL_EPOCH :: .AWL_HEAD :: .AWL_OLDEST :: .AWL_OVERWRITTEN :: .AWL_SEQ_NEXT
        :: .RSL_FLASH_WEAR :: .RSL_INT_STAT :: .RSL_STATUS :: .SET_INT_STAT :: .SET_SECTORS :: (awlFoot ++ pcieFoot)⟩;
    (∀ (src : Requester) (match_ : Bool) (s : State), Completes (Frame ft s) (exec (.awlClearGo src match_) s))) ∧
  (let ft : Foot := ⟨[.sent, .host, .awl, .keep],
      .AWL_COUNT :: .AWL_HEAD :: .AWL_OLDEST :: .AWL_OVERWRITTEN :: .AWL_SEQ_NEXT :: .GLB_INT_SUM :: .RSL_FLASH_WEAR ::
        .RSL_INT_STAT :: .RSL_STATUS :: .SET_INT_STAT :: .SET_SECTORS :: awlFoot⟩;
    (∀ (passed : Bool) (s : State), Completes (Frame ft s) (exec (.awlRetryMramDone passed) s))) ∧
  (let ft : Foot := ⟨[.sent, .host, .awl, .keep],
      .AWL_COUNT :: .AWL_CTRL :: .AWL_HEAD :: .AWL_OLDEST :: .AWL_OVERWRITTEN :: .AWL_SEQ_NEXT :: .GLB_ALERT_STAT :: .GLB_INT_STAT
        :: .GLB_INT_SUM :: .RSL_FLASH_WEAR :: .RSL_INT_STAT :: .RSL_STATUS :: .SET_INT_STAT :: .SET_SECTORS :: awlFoot⟩;
    (∀ (records : Nat) (s : State), Completes (Frame ft s) (exec (.powerFailWarning records) s))) ∧
  (let ft : Foot := ⟨[.resp, .freeCtr, .sent, .host, .awl, .keep, .upd],
      .GLB_INT_SUM :: .RSL_FLASH_WEAR :: .RSL_INT_STAT :: .RSL_STATUS :: .SET_INT_STAT :: .SET_SECTORS :: .UPD_AUTH_FAILS ::
        .UPD_CONFIRM_LEFT :: .UPD_INT_STAT :: .UPD_LAST_STATUS :: .UPD_LOCK :: .UPD_NEXT :: .UPD_PKT_BUSY :: .UPD_PKT_RX ::
        .UPD_SESSION :: .UPD_SLOT_FLOOR :: .UPD_SLOT_SEQ :: .UPD_SLOT_STAT :: .UPD_SLOT_VER :: .UPD_STATUS :: awlFoot⟩;
    (∀ (port : Fin 2) (session : BitVec 32) (layout : Bool) (h : ImgHeader) (s : State), Completes (Frame ft s) (exec (.updHeader
      port session layout h) s))) ∧
  (let ft : Foot := ⟨[.resp, .freeCtr, .sent, .upd],
      [.UPD_LOCK, .UPD_NEXT, .UPD_PKT_BUSY, .UPD_PKT_RX]⟩;
    (∀ (port : Fin 2) (session : BitVec 32) (layout : Bool) (off : Nat) (len : Fin 1025) (s : State), Completes (Frame ft s) (exec
      (.updData port session layout off len) s))) ∧
  (let ft : Foot := ⟨[.sent, .host, .awl, .keep, .upd],
      .GLB_INT_SUM :: .RSL_FLASH_WEAR :: .RSL_INT_STAT :: .RSL_STATUS :: .SET_INT_STAT :: .SET_SECTORS :: awlFoot⟩;
    (∀ (s : State), Completes (Frame ft s) (exec .updDataProgrammed s))) ∧
  (let ft : Foot := ⟨[.resp, .freeCtr, .sent, .upd],
      [.UPD_CONFIRM_LEFT, .UPD_LAST_STATUS, .UPD_LOCK, .UPD_PKT_BUSY, .UPD_PKT_RX, .UPD_SLOT_FLOOR, .UPD_SLOT_SEQ, .UPD_SLOT_STAT,
        .UPD_SLOT_VER, .UPD_STATUS]⟩;
    (∀ (port : Fin 2) (session : BitVec 32) (layout : Bool) (s : State), Completes (Frame ft s) (exec (.updEnd port session layout)
      s))) ∧
  (let ft : Foot := ⟨[.resp, .freeCtr, .sent, .host, .awl, .upd],
      .GLB_INT_SUM :: .UPD_AUTH_FAILS :: .UPD_CONFIRM_LEFT :: .UPD_INT_STAT :: .UPD_LAST_STATUS :: .UPD_LOCK :: .UPD_NEXT ::
        .UPD_SESSION :: .UPD_SLOT_FLOOR :: .UPD_SLOT_SEQ :: .UPD_SLOT_STAT :: .UPD_SLOT_VER :: .UPD_STATUS :: awlFoot⟩;
    (∀ (matches_ : Bool) (s : State), Completes (Frame ft s) (exec (.updBodyVerified matches_) s))) ∧
  (let ft : Foot := ⟨[.resp, .freeCtr, .sent, .upd],
      [.UPD_CONFIRM_LEFT, .UPD_LOCK, .UPD_NEXT, .UPD_PKT_BUSY, .UPD_PKT_RX, .UPD_SESSION, .UPD_SLOT_FLOOR, .UPD_SLOT_SEQ,
        .UPD_SLOT_STAT, .UPD_SLOT_VER, .UPD_STATUS]⟩;
    (∀ (port : Fin 2) (session : BitVec 32) (layout : Bool) (s : State), Completes (Frame ft s) (exec (.updAbortDatagram port
      session layout) s))) ∧
  (let ft : Foot := ⟨[.resp, .sent, .upd],
      [.UPD_LOCK, .UPD_PKT_RX]⟩;
    (∀ (port : Fin 2) (session : BitVec 32) (layout : Bool) (s : State), Completes (Frame ft s) (exec (.updQuery port session
      layout) s))) ∧
  (let ft : Foot := ⟨[.upd],
      [.UPD_CONFIRM_LEFT, .UPD_LOCK, .UPD_NEXT, .UPD_SESSION, .UPD_SLOT_FLOOR, .UPD_SLOT_SEQ, .UPD_SLOT_STAT, .UPD_SLOT_VER,
        .UPD_STATUS]⟩;
    (∀ (s : State), Completes (Frame ft s) (exec .updLockIdleTimeout s))) ∧
  (let ft : Foot := ⟨[.resp, .freeCtr, .sent, .host, .awl, .twl, .nim, .tks, .net, .upd, .boot],
      .BOOT_CAUSE :: .BOOT_FAIL :: .BOOT_IMG_VER :: .BOOT_PROT :: .BOOT_STAGE :: .BOOT_WARMS :: .GLB_ALERT_STAT :: .NIM_CORE_STAT ::
        .SET_FLOOR :: .SET_STATUS :: .UPD_CONFIRM_LEFT :: .UPD_INT_STAT :: .UPD_LAST_STATUS :: .UPD_LOCK :: .UPD_NEXT ::
        .UPD_RUN_VER :: .UPD_SESSION :: .UPD_SLOT_FLOOR :: .UPD_SLOT_SEQ :: .UPD_SLOT_STAT :: .UPD_SLOT_VER :: .UPD_STATUS ::
        (warmCleared ++ awlFoot ++ pcieFoot)⟩;
    (∀ (src : Requester) (level : BitVec 16) (s : State), Completes (Frame ft s) (exec (.updActivate src level) s)) ∧
    (∀ (src : Requester) (s : State), Completes (Frame ft s) (exec (.updConfirm src) s)) ∧
    (∀ (src : Requester) (s : State), Completes (Frame ft s) (exec (.updFallback src) s)) ∧
    (∀ (src : Requester) (s : State), Completes (Frame ft s) (exec (.updCtrlAbort src) s))) ∧
  (let ft : Foot := ⟨[.freeCtr, .sent, .host, .awl, .twl, .nim, .tks, .net, .upd, .boot],
      .BOOT_CAUSE :: .BOOT_FAIL :: .BOOT_IMG_VER :: .BOOT_PROT :: .BOOT_STAGE :: .BOOT_WARMS :: .GLB_ALERT_STAT :: .GLB_INT_STAT ::
        .GLB_INT_SUM :: .NIM_CORE_STAT :: .SET_FLOOR :: .SET_STATUS :: .UPD_CONFIRM_LEFT :: .UPD_INT_STAT :: .UPD_RUN_VER ::
        .UPD_SLOT_FLOOR :: .UPD_SLOT_SEQ :: .UPD_SLOT_STAT :: .UPD_SLOT_VER :: .UPD_STATUS :: (warmCleared ++ awlFoot)⟩;
    (∀ (s : State), Completes (Frame ft s) (exec .updConfirmTimeout s))) ∧
  (let ft : Foot := ⟨[.freeCtr, .sent, .host, .awl, .upd],
      .GLB_INT_SUM :: .UPD_MC_STAT :: awlFoot⟩;
    (∀ (block : Fin 4) (good : Bool) (s : State), Completes (Frame ft s) (exec (.microcodeLoad block good) s))) ∧
  (let ft : Foot := ⟨[.upd],
      [.UPD_MC_STAT]⟩;
    (∀ (block : Fin 4) (s : State), Completes (Frame ft s) (exec (.microcodeSwap block) s))) ∧
  (let ft : Foot := ⟨[.nim],
      []⟩;
    (∀ (key : Key) (s : State), Completes (Frame ft s) (exec (.partnerCompleteReport key) s))) ∧
  (let ft : Foot := ⟨[.sent],
      []⟩;
    (∀ (s : State), Completes (Frame ft s) (exec .partnerProbeReceive s)))

/-- Power, resets, boot, clocks and the block bus: what each command leaves unchanged. For each command named, in every state: it
completes, and it changes nothing outside its footprint (the first list: parts of the state beside the registers; the second:
registers). Every part not listed and every element of every register not listed reads as before, and the register store stays
sound. For registerWrite, readClear, latchedRead64, porstFall, stbyPgFall, thermalTrip, warmBoot, stateRestoreDone,
hbmTrainDone the register that changes is the addressed one or the footprint is the parts alone: of the registers it says that
the store stays sound, and for the reads that every register but a read-clear one outside the list is as before. -/
def Obligations.ResetBootAndBusFrames : Prop :=
  (let l : List Part := [.resp, .latchLow, .freeCtr, .sent, .tb, .host, .awl, .ing, .twl, .nim, .tks, .egr, .twd, .asp, .vmp, .lst,
  .ntm, .net, .rsl, .keep, .upd, .boot, .dir];
    (∀ (src : Requester) (addr : BitVec 28) (size : Fin 4) (data : Word64) (env : BusEnv) (s : State), Completes (fun t => (∀ p, p ∉
      l → p.same s t) ∧ (RegsOk s → RegsOk t)) (exec (.registerWrite src addr size data env) s))) ∧
  (let ft : Foot := ⟨[.resp, .rdata, .latchHigh, .freeCtr, .ntm],
      [.NTM_CAP_HI, .NTM_CAP_STAT, .NTM_TB_FRAC, .NTM_TB_NS, .NTM_TB_SEC]⟩;
    (∀ (src : Requester) (addr : BitVec 28) (size : Fin 3) (s : State), Completes (fun t => (∀ p, p ∉ ft.parts → p.same s t) ∧
      (∀ r i, r ∉ ft.regs → r.info.acc ≠ .RC → t.reg r i = s.reg r i) ∧ (RegsOk s → RegsOk t)) (exec (.readClear src addr size) s))
        ∧
    (∀ (src : Requester) (addr : BitVec 28) (whole : Bool) (s : State), Completes (fun t => (∀ p, p ∉ ft.parts → p.same s t) ∧
      (∀ r i, r ∉ ft.regs → r.info.acc ≠ .RC → t.reg r i = s.reg r i) ∧ (RegsOk s → RegsOk t)) (exec (.latchedRead64 src addr whole)
        s))) ∧
  (let ft : Foot := ⟨[.rdata, .freeCtr, .sent, .host, .frameStore],
      [.GLB_BAR2_MISS, .GLB_INT_STAT, .GLB_INT_SUM]⟩;
    (∀ (off : BitVec 36) (write : Option (List Byte)) (s : State), Completes (Frame ft s) (exec (.bar2Access off write) s))) ∧
  (let l : List Part := [.resp, .rdata, .latchHigh, .latchLow, .freeCtr, .sent, .tb, .host, .awl, .ing, .twl, .nim, .tks, .egr, .twd,
  .asp, .vmp, .lst, .ntm, .net, .rsl, .keep, .upd, .boot, .frameStore, .dir];
    (∀ (records : Nat) (s : State), Completes (fun t => (∀ p, p ∉ l → p.same s t) ∧ (RegsOk s → RegsOk t)) (exec (.porstFall
      records) s)) ∧
    (∀ (records : Nat) (s : State), Completes (fun t => (∀ p, p ∉ l → p.same s t) ∧ (RegsOk s → RegsOk t)) (exec (.stbyPgFall
      records) s)) ∧
    (∀ (records : Nat) (s : State), Completes (fun t => (∀ p, p ∉ l → p.same s t) ∧ (RegsOk s → RegsOk t)) (exec (.thermalTrip
      records) s))) ∧
  (let ft : Foot := ⟨[.sent, .host, .boot],
      [.BOOT_CAUSE, .GLB_CHIP, .GLB_INT_SUM, .INS_INT_STAT, .INS_STATE, .INS_WAKE_SRC]⟩;
    (∀ (strap : Fin 1024) (sideB : Bool) (s : State), Completes (Frame ft s) (exec (.porstRise strap sideB) s))) ∧
  (let ft : Foot := ⟨[.sent, .host],
      [.GLB_INT_SUM, .INS_INT_STAT, .INS_STATE, .INS_WAKE_SRC, .INS_XTAL]⟩;
    (∀ (s : State), Completes (Frame ft s) (exec .stbyPgRise s))) ∧
  (let ft : Foot := ⟨[.sent, .host, .twl, .nim, .tks, .net, .boot],
      .BOOT_CAUSE :: .BOOT_PROT :: .BOOT_STAGE :: .BOOT_WARMS :: .GLB_INT_SUM :: .NIM_CORE_STAT :: warmCleared⟩;
    (∀ (s : State), Completes (Frame ft s) (exec .warmRstAssert s))) ∧
  (let l : List Part := [.resp, .freeCtr, .sent, .tb, .host, .awl, .ing, .twl, .nim, .tks, .egr, .twd, .asp, .vmp, .lst, .ntm, .net,
  .rsl, .keep, .upd, .boot, .dir];
    (∀ (good converted : Bool) (data : BootData) (s : State), Completes (fun t => (∀ p, p ∉ l → p.same s t) ∧ (RegsOk s → RegsOk t))
      (exec (.warmBoot good converted data) s)) ∧
    (∀ (views : List (Fin 128 × TakeView)) (s : State), Completes (fun t => (∀ p, p ∉ l → p.same s t) ∧ (RegsOk s → RegsOk t)) (exec
      (.stateRestoreDone views) s))) ∧
  (let ft : Foot := ⟨[.resp, .sent, .host, .twl, .nim, .tks, .net, .boot],
      .BOOT_CAUSE :: .BOOT_PROT :: .BOOT_STAGE :: .BOOT_WARMS :: .GLB_INT_SUM :: .NIM_CORE_STAT :: warmCleared⟩;
    (∀ (w : Word32) (s : State), Completes (Frame ft s) (exec (.glbWarmReset w) s))) ∧
  (let ft : Foot := ⟨[.resp],
      []⟩;
    (∀ (src : Requester) (w : Word32) (s : State), Completes (Frame ft s) (exec (.watchdogKick src w) s))) ∧
  (let ft : Foot := ⟨[.freeCtr, .sent, .host, .awl, .twl, .nim, .tks, .net, .boot],
      .BOOT_CAUSE :: .BOOT_PROT :: .BOOT_STAGE :: .BOOT_WARMS :: .GLB_INT_SUM :: .NIM_CORE_STAT :: (warmCleared ++ awlFoot)⟩;
    (∀ (s : State), Completes (Frame ft s) (exec .watchdogTimeout s))) ∧
  (let ft : Foot := ⟨[.host],
      [.GLB_PCIE_STAT, .NIM_Q_CFG, .NIM_Q_STAT, .NPT_RXR_CFG, .NPT_TXR_CFG]⟩;
    (∀ (s : State), Completes (Frame ft s) (exec .pcieHotReset s)) ∧
    (∀ (s : State), Completes (Frame ft s) (exec .pciePerst s))) ∧
  (let ft : Foot := ⟨[.freeCtr, .sent, .host, .awl, .keep, .upd, .boot],
      .BOOT_CAUSE :: .BOOT_FAIL :: .BOOT_IMG_VER :: .BOOT_STAGE :: .BOOT_TIME :: .GLB_ALERT_STAT :: .GLB_INT_STAT :: .GLB_INT_SUM ::
        .INS_OPSEC :: .INS_PCYCLES :: .SET_FLOOR :: .SET_STATUS :: .UPD_CONFIRM_LEFT :: .UPD_RUN_VER :: .UPD_SLOT_FLOOR ::
        .UPD_SLOT_SEQ :: .UPD_SLOT_STAT :: .UPD_SLOT_VER :: .UPD_STATUS :: awlFoot⟩;
    (∀ (retentionOk : Bool) (s : State), Completes (Frame ft s) (exec (.bootRomDone retentionOk) s))) ∧
  (let ft : Foot := ⟨[.freeCtr, .sent, .host, .awl, .nim, .upd, .boot],
      .AWL_COUNT :: .AWL_HEAD :: .AWL_OLDEST :: .BOOT_CAUSE :: .BOOT_FAIL :: .BOOT_IMG_VER :: .BOOT_PROT :: .BOOT_STAGE ::
        .BOOT_TIME :: .BOOT_WDOG :: .GLB_ALERT_STAT :: .GLB_INT_STAT :: .GLB_INT_SUM :: .NPT_MAC_BASE :: .NTM_CLOCKID :: .SET_FLOOR
        :: .SET_STATUS :: .UPD_CONFIRM_LEFT :: .UPD_RUN_VER :: .UPD_SLOT_FLOOR :: .UPD_SLOT_SEQ :: .UPD_SLOT_STAT :: .UPD_SLOT_VER
        :: .UPD_STATUS :: awlFoot⟩;
    (∀ (good : Bool) (data : BootData) (s : State), Completes (Frame ft s) (exec (.imageVerifyDone good data) s))) ∧
  (let l : List Part := [.resp, .freeCtr, .sent, .host, .awl, .twd, .vmp, .keep, .boot];
    (∀ (converted : Bool) (s : State), Completes (fun t => (∀ p, p ∉ l → p.same s t) ∧ (RegsOk s → RegsOk t)) (exec (.hbmTrainDone
      converted) s))) ∧
  (let ft : Foot := ⟨[.freeCtr, .sent, .host, .awl],
      .BOOT_FAIL :: .BOOT_STAGE :: .GLB_ALERT_STAT :: .GLB_INT_STAT :: .GLB_INT_SUM :: awlFoot⟩;
    (∀ (stack : Fin 4) (s : State), Completes (Frame ft s) (exec (.hbmTrainFail stack) s))) ∧
  (let ft : Foot := ⟨[.sent, .twl, .net],
      [.BOOT_STAGE, .BOOT_TIME, .TWL_LK_STAT, .WLT_LK_STAT]⟩;
    (∀ (s : State), Completes (Frame ft s) (exec .lanesReady s))) ∧
  (let ft : Foot := ⟨[.resp, .sent, .host, .awl, .twl, .nim, .tks, .rsl],
      .EGR_OUT_TAKE :: .GLB_ALERT_STAT :: .GLB_INT_STAT :: .GLB_INT_SUM :: .NIM_ACCEPTED :: .NIM_CQ_LOST :: .NIM_INT_STAT ::
        .NIM_PAIR_STAT :: .NIM_Q_HWM :: .NIM_REPLAY :: .RSL_INT_STAT :: .RSL_PAIR_STAT :: .RSL_STATUS :: (awlFoot ++ routeFoot ++
        entryFoot)⟩;
    (∀ (s : State), Completes (Frame ft s) (exec .replayPathTimeout s))) ∧
  (let ft : Foot := ⟨[.sent, .host, .net, .boot],
      [.GLB_INT_SUM, .INS_CLK_REQ, .INS_INT_STAT, .INS_PLL_STARTS, .INS_STATE, .INS_WAKE_SRC, .RSL_SPARE_STAT, .TWL_LK_STAT,
        .WLT_LK_STAT]⟩;
    (∀ (assumed : Bool) (s : State), Completes (Frame ft s) (exec (.spareExit assumed) s))) ∧
  (let ft : Foot := ⟨[.resp, .sent, .host],
      .GLB_ROLE :: pcieFoot⟩;
    (∀ (src : Requester) (w : Word32) (s : State), Completes (Frame ft s) (exec (.glbRoleWrite src w) s))) ∧
  (let ft : Foot := ⟨[.boot],
      [.INS_CLK_REQ, .INS_PLL_STARTS]⟩;
    (∀ (d : Fin 27) (s : State), Completes (Frame ft s) (exec (.clockDomainRequest d) s))) ∧
  (let ft : Foot := ⟨[.boot],
      [.INS_CLK_RUN, .INS_PLL_STARTS]⟩;
    (∀ (d : Fin 27) (s : State), Completes (Frame ft s) (exec (.pllLock d) s)) ∧
    (∀ (d : Fin 27) (s : State), Completes (Frame ft s) (exec (.clockStopDone d) s))) ∧
  (let ft : Foot := ⟨[.sent, .host, .awl, .boot],
      .GLB_INT_SUM :: .INS_INT_STAT :: .INS_PLL_FAIL :: .INS_PLL_STARTS :: awlFoot⟩;
    (∀ (d : Fin 27) (s : State), Completes (Frame ft s) (exec (.pllLockTimeout d) s))) ∧
  (let ft : Foot := ⟨[.boot],
      [.INS_CLK_REQ]⟩;
    (∀ (d : Fin 27) (s : State), Completes (Frame ft s) (exec (.clockHoldExpire d) s))) ∧
  (let ft : Foot := ⟨[.sent, .host, .awl, .boot],
      .GLB_ALERT_STAT :: .GLB_INT_STAT :: .GLB_INT_SUM :: .GLB_TEMP :: .GLB_TEMP_MAX :: awlFoot⟩;
    (∀ (sensor : Fin 64) (tt : BitVec 16) (s : State), Completes (Frame ft s) (exec (.thermalAlarm sensor tt) s))) ∧
  (let ft : Foot := ⟨[.sent, .host, .boot],
      [.BOOT_CAUSE, .GLB_INT_SUM, .INS_INT_STAT, .INS_STATE, .INS_WAKE_SRC]⟩;
    (∀ (tt : BitVec 16) (s : State), Completes (Frame ft s) (exec (.thermalRecover tt) s))) ∧
  (let ft : Foot := ⟨[.sent, .host, .awl],
      .GLB_INT_SUM :: .INS_INT_STAT :: .INS_XTAL :: awlFoot⟩;
    (∀ (s : State), Completes (Frame ft s) (exec .xtalFail s))) ∧
  (let ft : Foot := ⟨[.freeCtr, .sent, .host, .awl, .rsl],
      .GLB_INT_SUM :: .INS_RAIL :: awlFoot⟩;
    (∀ (rails : List (Option (BitVec 32))) (s : State), Completes (Frame ft s) (exec (.pmbusPoll rails) s))) ∧
  (let ft : Foot := ⟨[],
      [.INS_XTAL]⟩;
    (∀ (s : State), Completes (Frame ft s) (exec .xtalReturn s))) ∧
  (let ft : Foot := ⟨[.sent, .host],
      []⟩;
    (∀ (v : Fin 256) (s : State), Completes (Frame ft s) (exec (.msixVectorUnmask v) s)))
end

