-- ==== Sys2Proof/Laws/Tables.lean ====
section
/-! SUPPORT. The laws of the sparse tables: a read after a write, and the canonical form. -/

namespace Sys2Proof.Machine

variable {α : Type}

theorem Tbl.get_insert_same (d : Nat → α) (k : Nat) (v : α) (t : Tbl α)
    (h : ∀ e ∈ t, e.1 ≠ k) : Tbl.get d (Tbl.insert k v t) k = v := by
  induction t with
  | nil => simp [Tbl.insert, Tbl.get]
  | cons e t ih =>
    unfold Tbl.insert
    split
    · simp [Tbl.get]
    · have he := h e (by simp)
      simp only [Tbl.get, he, if_false]
      exact ih fun e' m => h e' (by simp [m])

theorem Tbl.get_insert_other (d : Nat → α) (k j : Nat) (v : α) (t : Tbl α) (h : j ≠ k) :
    Tbl.get d (Tbl.insert k v t) j = Tbl.get d t j := by
  induction t with
  | nil => simp [Tbl.insert, Tbl.get, Ne.symm h]
  | cons e t ih =>
    unfold Tbl.insert
    split
    · simp [Tbl.get, Ne.symm h]
    · simp only [Tbl.get, ih]

theorem Tbl.get_erase_same (d : Nat → α) (k : Nat) (t : Tbl α) :
    Tbl.get d (Tbl.erase k t) k = d k := by
  induction t with
  | nil => rfl
  | cons e t ih =>
    by_cases he : e.1 = k
    · simpa [Tbl.erase, List.filter, he] using ih
    · simpa [Tbl.erase, List.filter, he, Tbl.get] using ih

theorem Tbl.get_erase_other (d : Nat → α) (k j : Nat) (t : Tbl α) (h : j ≠ k) :
    Tbl.get d (Tbl.erase k t) j = Tbl.get d t j := by
  induction t with
  | nil => rfl
  | cons e t ih =>
    by_cases he : e.1 = k
    · have : e.1 ≠ j := fun h' => h (h'.symm.trans he)
      simpa [Tbl.erase, List.filter, he, Tbl.get, Ne.symm h] using ih
    · simp only [Tbl.erase, List.filter, he, Tbl.get, ne_eq, not_false_eq_true, decide_true]
      by_cases hj : e.1 = j
      · simp [hj]
      · simpa [hj, Tbl.erase] using ih

theorem Tbl.mem_erase {k : Nat} {t : Tbl α} {e : Nat × α} (h : e ∈ Tbl.erase k t) : e.1 ≠ k := by
  simpa using (List.mem_filter.mp h).2

/-- A read of the key just written gives the value written. -/
@[simp] theorem Tbl.get_set_same [DecidableEq α] (d : Nat → α) (k : Nat) (v : α) (t : Tbl α) :
    Tbl.get d (Tbl.set d k v t) k = v := by
  unfold Tbl.set
  split
  · rename_i h; rw [Tbl.get_erase_same, h]
  · exact Tbl.get_insert_same d k v _ fun e m => Tbl.mem_erase m

/-- A write leaves every other key alone. -/
theorem Tbl.get_set_other [DecidableEq α] (d : Nat → α) (k j : Nat) (v : α) (t : Tbl α)
    (h : j ≠ k) : Tbl.get d (Tbl.set d k v t) j = Tbl.get d t j := by
  unfold Tbl.set
  split
  · exact Tbl.get_erase_other d k j t h
  · rw [Tbl.get_insert_other d k j v _ h, Tbl.get_erase_other d k j t h]

theorem Tbl.wf_iff [DecidableEq α] (d : Nat → α) (t : Tbl α) :
    Tbl.wf d t = true ↔ (∀ e ∈ t, e.2 ≠ d e.1) ∧ t.Pairwise fun a b => a.1 < b.1 := by
  induction t with
  | nil => simp [Tbl.wf]
  | cons e t ih =>
    cases t with
    | nil => simp [Tbl.wf]
    | cons f t =>
      simp only [Tbl.wf, Bool.and_eq_true, decide_eq_true_eq, ih, List.pairwise_cons]
      constructor
      · rintro ⟨⟨h1, h2⟩, h3, h4, h5⟩
        refine ⟨?_, ?_, h4, h5⟩
        · intro e' m
          rcases List.mem_cons.mp m with rfl | m
          · exact h1
          · exact h3 e' m
        · intro e' m
          rcases List.mem_cons.mp m with rfl | m
          · exact h2
          · exact lt_trans h2 (h4 e' m)
      · rintro ⟨h1, h2, h4, h5⟩
        exact ⟨⟨h1 e (by simp), h2 f (by simp)⟩, fun e' m => h1 e' (by simp [m]), h4, h5⟩

theorem Tbl.mem_insert {k : Nat} {v : α} {t : Tbl α} {e : Nat × α}
    (h : e ∈ Tbl.insert k v t) : e = (k, v) ∨ e ∈ t := by
  induction t with
  | nil => simpa [Tbl.insert] using h
  | cons f t ih =>
    unfold Tbl.insert at h
    split at h
    · simpa using h
    · rcases List.mem_cons.mp h with rfl | m
      · simp
      · rcases ih m with rfl | m
        · simp
        · simp [m]

theorem Tbl.pairwise_insert (k : Nat) (v : α) (t : Tbl α) (hk : ∀ e ∈ t, e.1 ≠ k)
    (h : t.Pairwise fun a b => a.1 < b.1) :
    (Tbl.insert k v t).Pairwise fun a b => a.1 < b.1 := by
  induction t with
  | nil => simp [Tbl.insert]
  | cons e t ih =>
    rw [List.pairwise_cons] at h
    unfold Tbl.insert
    split
    · rename_i hlt
      refine List.pairwise_cons.mpr ⟨?_, List.pairwise_cons.mpr h⟩
      intro e' m
      rcases List.mem_cons.mp m with rfl | m
      · exact hlt
      · exact lt_trans hlt (h.1 e' m)
    · rename_i hge
      refine List.pairwise_cons.mpr ⟨?_, ih (fun e' m => hk e' (by simp [m])) h.2⟩
      intro e' m
      rcases Tbl.mem_insert m with rfl | m
      · have := hk e (by simp)
        simp only
        omega
      · exact h.1 e' m

/-- Every write keeps the canonical form. -/
theorem Tbl.wf_set [DecidableEq α] (d : Nat → α) (k : Nat) (v : α) (t : Tbl α)
    (h : Tbl.wf d t = true) : Tbl.wf d (Tbl.set d k v t) = true := by
  rw [Tbl.wf_iff] at h ⊢
  have he : (Tbl.erase k t).Pairwise fun a b => a.1 < b.1 := h.2.filter _
  unfold Tbl.set
  split
  · exact ⟨fun e m => h.1 e (List.mem_of_mem_filter m), he⟩
  · rename_i hv
    refine ⟨?_, Tbl.pairwise_insert k v _ (fun e m => Tbl.mem_erase m) he⟩
    intro e m
    rcases Tbl.mem_insert m with rfl | m
    · exact hv
    · exact h.1 e (List.mem_of_mem_filter m)

end Sys2Proof.Machine
end

