-- ==== Sys2Proof/Laws/Regs.lean ====
section
/-! SUPPORT. The laws of registers and their fields: what a read gives after a write, for registers, for fields of one
register, and the soundness of the register store. -/

namespace Sys2Proof.Machine

theorem Reg.ctorIdx_inj {a b : Reg} (h : a.ctorIdx = b.ctorIdx) : a = b := by
  simpa [Reg.ofNat_ctorIdx] using congrArg Reg.ofNat h

/-! ### What a register holds of a word -/

theorem Reg.fit_wide {r : Reg} (h : r.info.wide = true) (v : Word) : r.fit v = v := by simp [Reg.fit, h]

theorem Reg.fit_narrow {r : Reg} (h : r.info.wide = false) (v : Word) : r.fit v = low32 v := by simp [Reg.fit, h]

theorem low32_toNat (v : Word) : (low32 v).toNat = v.toNat % 2 ^ 32 := by
  rw [low32, show (0xFFFFFFFF : Word) = BitVec.ofNat 64 (2 ^ 32 - 1) from rfl, BitVec.toNat_and, BitVec.toNat_ofNat,
    Nat.mod_eq_of_lt (by decide : 2 ^ 32 - 1 < 2 ^ 64), Nat.and_two_pow_sub_one_eq_mod]

theorem Reg.fit_toNat {r : Reg} (h : r.info.wide = false) (v : Word) : (r.fit v).toNat = v.toNat % 2 ^ 32 := by
  rw [Reg.fit_narrow h, low32_toNat]

theorem Reg.fit_lt {r : Reg} (h : r.info.wide = false) (v : Word) : (r.fit v).toNat < 2 ^ 32 := by
  rw [Reg.fit_toNat h]; exact Nat.mod_lt _ (by decide)

/-! ### Registers -/

theorem State.reg_row (s : State) (r : Reg) (i : Nat) : s.reg r i = Tbl.get r.reset (s.row r) i := rfl

@[simp] theorem State.row_setReg_same (s : State) (r : Reg) (i : Nat) (v : Word) :
    (s.setReg r i v).row r = Tbl.set r.reset i (r.fit v) (s.row r) := by
  simp [State.row, State.setReg]

theorem State.row_setReg_other (s : State) {r r' : Reg} (h : r' ≠ r) (i : Nat) (v : Word) :
    (s.setReg r i v).row r' = s.row r' :=
  Tbl.get_set_other _ _ _ _ _ fun e => h (Reg.ctorIdx_inj e)

/-- A read of the element just written gives what the register holds of the written word. -/
@[simp] theorem State.reg_setReg_same (s : State) (r : Reg) (i : Nat) (v : Word) :
    (s.setReg r i v).reg r i = r.fit v := by
  simp [State.reg_row]

/-- A write leaves every other register alone. -/
theorem State.reg_setReg_other (s : State) {r r' : Reg} (h : r' ≠ r) (i j : Nat) (v : Word) :
    (s.setReg r i v).reg r' j = s.reg r' j := by
  rw [State.reg_row, State.row_setReg_other s h, State.reg_row]

/-- A write leaves every other element of its register alone. -/
theorem State.reg_setReg_index (s : State) (r : Reg) {i j : Nat} (h : j ≠ i) (v : Word) :
    (s.setReg r i v).reg r j = s.reg r j := by
  rw [State.reg_row, State.row_setReg_same, Tbl.get_set_other _ _ _ _ _ h, State.reg_row]

/-- A read after a write, in one equation. -/
theorem State.reg_setReg (s : State) (r r' : Reg) (i j : Nat) (v : Word) :
    (s.setReg r i v).reg r' j = if r' = r ∧ j = i then r.fit v else s.reg r' j := by
  by_cases h : r' = r
  · subst h
    by_cases hj : j = i
    · subst hj; simp
    · simp [hj, State.reg_setReg_index s r' hj v]
  · simp [h, State.reg_setReg_other s h i j v]

/-! ### Bits and fields of words -/

theorem bits_eq (lo len : Nat) (w : Word) : bits lo len w = w.toNat / 2 ^ lo % 2 ^ len := by
  rw [bits, Nat.shiftRight_eq_div_pow]

theorem bits_lt (lo len : Nat) (w : Word) : bits lo len w < 2 ^ len := Nat.mod_lt _ (Nat.two_pow_pos len)

theorem bits_testBit (lo len : Nat) (w : Word) (k : Nat) :
    (bits lo len w).testBit k = (decide (k < len) && w.getLsbD (lo + k)) := by
  rw [bits, Nat.testBit_mod_two_pow, Nat.testBit_shiftRight, BitVec.testBit_toNat]

theorem maskOf_getLsbD (lo len k : Nat) (h : k < 64) :
    (maskOf lo len).getLsbD k = (decide (lo ≤ k) && decide (k < lo + len)) := by
  rw [maskOf, BitVec.getLsbD_ofNat, Nat.testBit_mul_two_pow, Nat.testBit_two_pow_sub_one]
  by_cases h1 : lo ≤ k
  · by_cases h2 : k < lo + len
    · simp [h, h1, h2, show k - lo < len by omega]
    · simp [h1, h2, show ¬ k - lo < len by omega]
  · simp [h1]

theorem insertBits_getLsbD (lo len v : Nat) (w : Word) (k : Nat) (h : k < 64) :
    (insertBits lo len v w).getLsbD k =
      if lo ≤ k ∧ k < lo + len then v.testBit (k - lo) else w.getLsbD k := by
  rw [insertBits, BitVec.getLsbD_or, BitVec.getLsbD_and, BitVec.getLsbD_not, maskOf_getLsbD lo len k h,
    BitVec.getLsbD_ofNat, Nat.testBit_mul_two_pow, Nat.testBit_mod_two_pow]
  by_cases h1 : lo ≤ k
  · by_cases h2 : k < lo + len
    · simp [h, h1, h2, show k - lo < len by omega]
    · simp [h, h1, h2, show ¬ k - lo < len by omega]
  · simp [h, h1]

theorem low32_getLsbD (w : Word) (k : Nat) : (low32 w).getLsbD k = (decide (k < 32) && w.getLsbD k) := by
  rw [low32, BitVec.getLsbD_and, show (0xFFFFFFFF : Word) = maskOf 0 32 from rfl]
  by_cases h : k < 64
  · rw [maskOf_getLsbD 0 32 k h]; simp [Bool.and_comm]
  · simp [BitVec.getLsbD_of_ge _ _ (Nat.le_of_not_lt h)]

/-- How many bits of a word a register holds. -/
def Reg.width (r : Reg) : Nat := if r.info.wide then 64 else 32

theorem Reg.width_le (r : Reg) : r.width ≤ 64 := by unfold Reg.width; split <;> decide

theorem Reg.fit_getLsbD (r : Reg) (v : Word) (k : Nat) (h : k < 64) :
    (r.fit v).getLsbD k = (decide (k < r.width) && v.getLsbD k) := by
  by_cases hw : r.info.wide = true
  · simp [Reg.fit, Reg.width, hw, h]
  · simp [Reg.fit, Reg.width, hw, low32_getLsbD]

/-- The field just written reads as the number written, as far as the field is wide. -/
theorem State.fld_setFld_same (s : State) (f : Fld) (i v : Nat) (h : f.lo + f.len ≤ f.reg.width) :
    (s.setFld f i v).fld f i = v % 2 ^ f.len := by
  have hw := f.reg.width_le
  apply Nat.eq_of_testBit_eq
  intro k
  rw [State.fld, State.setFld, State.reg_setReg_same, bits_testBit, Nat.testBit_mod_two_pow]
  by_cases hk : k < f.len
  · rw [Reg.fit_getLsbD _ _ _ (by omega), insertBits_getLsbD _ _ _ _ _ (by omega)]
    simp [hk, show f.lo + k < f.reg.width by omega]
  · simp [hk]

/-- A field of a register that is written stays as it is when it lies outside the bits written. -/
theorem State.fld_setFld_disjoint (s : State) {f g : Fld} (i v : Nat) (hr : g.reg = f.reg)
    (hd : g.lo + g.len ≤ f.lo ∨ f.lo + f.len ≤ g.lo) (h : g.lo + g.len ≤ g.reg.width) :
    (s.setFld f i v).fld g i = s.fld g i := by
  have hw := g.reg.width_le
  apply Nat.eq_of_testBit_eq
  intro k
  rw [State.fld, State.fld, State.setFld, hr, State.reg_setReg_same, bits_testBit, bits_testBit]
  by_cases hk : k < g.len
  · rw [Reg.fit_getLsbD _ _ _ (by omega), insertBits_getLsbD _ _ _ _ _ (by omega), ← hr]
    have hn : ¬ (f.lo ≤ g.lo + k ∧ g.lo + k < f.lo + f.len) := by omega
    simp [hk, hn, show g.lo + k < g.reg.width by omega]
  · simp [hk]

/-- A field of another register, or of another element, stays as it is. -/
theorem State.fld_setFld_other (s : State) {f g : Fld} {i j : Nat} (v : Nat) (h : g.reg ≠ f.reg ∨ j ≠ i) :
    (s.setFld f i v).fld g j = s.fld g j := by
  have : ¬ (g.reg = f.reg ∧ j = i) := by tauto
  rw [State.fld, State.fld, State.setFld, State.reg_setReg, if_neg this]

theorem State.flag_setFlag_same (s : State) (f : Fld) (i : Nat) (b : Bool) (h : f.lo + f.len ≤ f.reg.width) (h1 : f.len = 1) :
    (s.setFlag f i b).flag f i = b := by
  rw [State.flag, State.setFlag, State.fld_setFld_same s f i _ h, h1]
  cases b <;> rfl

/-! ### The soundness of the register store -/

theorem RegsOk.setReg {s : State} (h : RegsOk s) (r : Reg) (i : Nat) (v : Word) : RegsOk (s.setReg r i v) := by
  refine ⟨Tbl.wf_set _ _ _ _ h.1, fun r' => ?_⟩
  by_cases hr : r' = r
  · subst hr
    rw [State.row_setReg_same]
    refine ⟨Tbl.wf_set _ _ _ _ (h.2 r').1, fun hn e m => ?_⟩
    unfold Tbl.set at m
    split at m
    · exact (h.2 r').2 hn e (List.mem_of_mem_filter m)
    · rcases Tbl.mem_insert m with rfl | m
      · exact Reg.fit_lt hn v
      · exact (h.2 r').2 hn e (List.mem_of_mem_filter m)
  · rw [State.row_setReg_other s hr]; exact h.2 r'

theorem RegsOk.clearReg {s : State} (h : RegsOk s) (r : Reg) : RegsOk (s.clearReg r) := by
  have e : (s.clearReg r).regs = Tbl.set (fun _ => []) r.ctorIdx [] s.regs := rfl
  refine ⟨by rw [e]; exact Tbl.wf_set _ _ _ _ h.1, fun r' => ?_⟩
  by_cases hr : r' = r
  · subst hr
    have : (s.clearReg r').row r' = [] := by simp [State.row, e]
    rw [this]
    exact ⟨rfl, fun _ e m => by cases m⟩
  · have : (s.clearReg r).row r' = s.row r' := by
      rw [State.row, e]; exact Tbl.get_set_other _ _ _ _ _ fun e => hr (Reg.ctorIdx_inj e)
    rw [this]
    exact h.2 r'

/-- Whatever keeps the registers keeps the store sound. -/
theorem RegsOk.of_regs_eq {s t : State} (h : RegsOk s) (e : t.regs = s.regs) : RegsOk t := by
  unfold RegsOk State.row at *
  rw [e]; exact h

end Sys2Proof.Machine
end

