-- ==== Sys2Proof/Laws/Frames.lean ====
section
/-! SUPPORT. The frame laws: what the shared operations leave alone. Each is stated over a footprint that is at least as large as
the operation's own, so that they chain. -/

namespace Sys2Proof.Machine

variable {f : Foot} {s₀ s t : State}

theorem Frame.refl (f : Foot) (s : State) : Frame f s s := ⟨fun p _ => by cases p <;> rfl, fun _ _ _ => rfl, id⟩

/-- A step that leaves the registers alone. -/
theorem Frame.of_parts (h : Frame f s₀ s) (hp : ∀ p, p ∉ f.parts → p.same s t) (hr : t.regs = s.regs) : Frame f s₀ t := by
  refine ⟨fun p n => ?_, fun r i n => ?_, fun k => (h.sound k).of_regs_eq hr⟩
  · have a := h.1 p n
    have b := hp p n
    cases p <;> exact b.trans a
  · rw [State.reg, hr]; exact h.2 r i n

theorem Frame.trans {u : State} (h : Frame f s t) (h' : Frame f t u) : Frame f s u := by
  refine ⟨fun p hp => ?_, fun r i hr => (h'.2 r i hr).trans (h.2 r i hr), fun k => h'.sound (h.sound k)⟩
  have a := h.1 p hp
  have b := h'.1 p hp
  cases p <;> exact b.trans a

theorem Frame.mono {g : Foot} (h : Frame f s t) (hp : f.parts ⊆ g.parts) (hr : f.regs ⊆ g.regs) : Frame g s t :=
  ⟨fun p n => h.1 p fun m => n (hp m), fun r i n => h.2 r i fun m => n (hr m), h.sound⟩

/-- An update of some parts of the record. -/
theorem Frame.upd (h : Frame f s₀ s) {pending_ : _} {resp_ : _} {rdata_ : _} {latchHigh_ : _} {latchLow_ : _} {freeCtr_ : _} {sent_ : _} {tick_ : _} {tb_ : _} {host_ : _} {awl_ : _} {ing_ : _} {twl_ : _} {nim_ : _} {tks_ : _} {egr_ : _} {twd_ : _} {asp_ : _} {vmp_ : _} {lst_ : _} {ntm_ : _} {net_ : _} {rsl_ : _} {keep_ : _} {upd_ : _} {boot_ : _} {frameStore_ : _} {dir_ : _}
    (h_pending : .pending ∉ f.parts → pending_ = s.pending)
    (h_resp : .resp ∉ f.parts → resp_ = s.resp)
    (h_rdata : .rdata ∉ f.parts → rdata_ = s.rdata)
    (h_latchHigh : .latchHigh ∉ f.parts → latchHigh_ = s.latchHigh)
    (h_latchLow : .latchLow ∉ f.parts → latchLow_ = s.latchLow)
    (h_freeCtr : .freeCtr ∉ f.parts → freeCtr_ = s.freeCtr)
    (h_sent : .sent ∉ f.parts → sent_ = s.sent)
    (h_tick : .tick ∉ f.parts → tick_ = s.tick)
    (h_tb : .tb ∉ f.parts → tb_ = s.tb)
    (h_host : .host ∉ f.parts → host_ = s.host)
    (h_awl : .awl ∉ f.parts → awl_ = s.awl)
    (h_ing : .ing ∉ f.parts → ing_ = s.ing)
    (h_twl : .twl ∉ f.parts → twl_ = s.twl)
    (h_nim : .nim ∉ f.parts → nim_ = s.nim)
    (h_tks : .tks ∉ f.parts → tks_ = s.tks)
    (h_egr : .egr ∉ f.parts → egr_ = s.egr)
    (h_twd : .twd ∉ f.parts → twd_ = s.twd)
    (h_asp : .asp ∉ f.parts → asp_ = s.asp)
    (h_vmp : .vmp ∉ f.parts → vmp_ = s.vmp)
    (h_lst : .lst ∉ f.parts → lst_ = s.lst)
    (h_ntm : .ntm ∉ f.parts → ntm_ = s.ntm)
    (h_net : .net ∉ f.parts → net_ = s.net)
    (h_rsl : .rsl ∉ f.parts → rsl_ = s.rsl)
    (h_keep : .keep ∉ f.parts → keep_ = s.keep)
    (h_upd : .upd ∉ f.parts → upd_ = s.upd)
    (h_boot : .boot ∉ f.parts → boot_ = s.boot)
    (h_frameStore : .frameStore ∉ f.parts → frameStore_ = s.frameStore)
    (h_dir : .dir ∉ f.parts → dir_ = s.dir) :
    Frame f s₀ ⟨pending_, s.regs, resp_, rdata_, latchHigh_, latchLow_, freeCtr_, sent_, tick_, tb_, host_, awl_, ing_, twl_, nim_, tks_, egr_, twd_, asp_, vmp_, lst_, ntm_, net_, rsl_, keep_, upd_, boot_, frameStore_, dir_⟩ := by
  refine h.of_parts (fun p n => ?_) rfl
  cases p
  · exact h_pending n
  · exact h_resp n
  · exact h_rdata n
  · exact h_latchHigh n
  · exact h_latchLow n
  · exact h_freeCtr n
  · exact h_sent n
  · exact h_tick n
  · exact h_tb n
  · exact h_host n
  · exact h_awl n
  · exact h_ing n
  · exact h_twl n
  · exact h_nim n
  · exact h_tks n
  · exact h_egr n
  · exact h_twd n
  · exact h_asp n
  · exact h_vmp n
  · exact h_lst n
  · exact h_ntm n
  · exact h_net n
  · exact h_rsl n
  · exact h_keep n
  · exact h_upd n
  · exact h_boot n
  · exact h_frameStore n
  · exact h_dir n

theorem Frame.setReg (h : Frame f s₀ s) {r : Reg} (hr : r ∈ f.regs) (i : Nat) (v : Word) : Frame f s₀ (s.setReg r i v) :=
  h.trans ⟨fun p _ => by cases p <;> rfl, fun r' j n => State.reg_setReg_other s (fun e : r' = r => n (by rw [e]; exact hr)) i j v,
    fun k => k.setReg r i v⟩

theorem Frame.ite {c : Prop} [Decidable c] {a b : State} (ha : Frame f s₀ a) (hb : Frame f s₀ b) :
    Frame f s₀ (if c then a else b) := by split <;> assumption

theorem Frame.foldl {α : Type} {g : State → α → State} (hg : ∀ s x, Frame f s₀ s → Frame f s₀ (g s x)) (l : List α)
    (h : Frame f s₀ s) : Frame f s₀ (l.foldl g s) := by
  induction l generalizing s with
  | nil => exact h
  | cons x l ih => exact ih (hg s x h)

theorem Completes.next {P : State → Prop} (h : P t) : Completes P (.next t) := ⟨t, rfl, h⟩

theorem Frame.of_pair {β : Type} {x : State × β} {b : β} (e : x = (t, b)) (h : Frame f s₀ x.1) : Frame f s₀ t := by
  subst e; exact h

theorem Frame.of_some {x : Option State} (e : x = some t) (h : ∀ u, x = some u → Frame f s₀ u) : Frame f s₀ t := h t e

theorem Frame.of_ok {ε : Type} {x : Except ε State} (e : x = .ok t) (h : ∀ u, x = .ok u → Frame f s₀ u) : Frame f s₀ t := h t e

/-! ### Fields, counters and stores -/

theorem State.setFld_frame (h : Frame f s₀ s) {g : Fld} (hr : g.reg ∈ f.regs) {i v : Nat} : Frame f s₀ (s.setFld g i v) :=
  h.setReg hr i _

theorem State.setFlag_frame (h : Frame f s₀ s) {g : Fld} (hr : g.reg ∈ f.regs) {i : Nat} {b : Bool} :
    Frame f s₀ (s.setFlag g i b) :=
  h.setReg hr i _

theorem State.count_frame (h : Frame f s₀ s) {r : Reg} (hr : r ∈ f.regs) {i n : Nat} : Frame f s₀ (s.count r i n) :=
  h.setReg hr i _

theorem State.clearReg_frame (h : Frame f s₀ s) {r : Reg} (hr : r ∈ f.regs) : Frame f s₀ (s.clearReg r) := by
  refine h.trans ⟨fun p _ => by cases p <;> rfl, fun r' i n => ?_, fun k => k.clearReg r⟩
  have hne : r' ≠ r := fun e => n (by rw [e]; exact hr)
  have hrow : (s.clearReg r).row r' = s.row r' := by
    unfold State.row State.clearReg
    dsimp only
    rw [Tbl.get_set_other]
    exact fun e => hne (Reg.ctorIdx_inj e)
  rw [State.reg_row, State.reg_row, hrow]

theorem State.answer_frame (h : Frame f s₀ s) (hp : .resp ∈ f.parts) {st : Status} : Frame f s₀ (s.answer st) :=
  h.of_parts (fun p n => by cases p <;> first | rfl | exact absurd hp n) rfl

theorem State.emit_frame (h : Frame f s₀ s) (hp : .sent ∈ f.parts) {m : OutMsg} : Frame f s₀ (s.emit m) :=
  h.of_parts (fun p n => by cases p <;> first | rfl | exact absurd hp n) rfl

theorem State.store_frame (h : Frame f s₀ s) (hp : .resp ∈ f.parts) {r : Reg} (hr : r ∈ f.regs) {i : Nat} {v : Word} :
    Frame f s₀ (s.store r i v) :=
  State.answer_frame (h.setReg hr i _) hp

theorem State.rawSet_frame (h : Frame f s₀ s) {r : Reg} (hr : r ∈ f.regs) {i : Nat} {v : Word} : Frame f s₀ (s.rawSet r i v) :=
  h.setReg hr i _

theorem State.setSigned_frame (h : Frame f s₀ s) {g : Fld} (hr : g.reg ∈ f.regs) {i : Nat} {v : Int} :
    Frame f s₀ (s.setSigned g i v) :=
  h.setReg hr i _

/-! ### Interrupts (R622): a cause changes its block's INT_STAT, the summary, the pending bits and what is sent -/

/-- The registers that a cause of a block changes. -/
def Blk.irqRegs (b : Blk) : List Reg := .GLB_INT_SUM :: b.intStat.toList

theorem State.raiseVector_frame (h : Frame f s₀ s) (hp : [.host, .sent] ⊆ f.parts) {v : Nat} :
    Frame f s₀ (s.raiseVector v) := by
  unfold State.raiseVector
  split
  · exact State.emit_frame h (hp (by decide))
  · exact h.of_parts (fun p n => by cases p <;> first | rfl | exact absurd (hp (by decide)) n) rfl

theorem State.raiseBlock_frame (h : Frame f s₀ s) (hp : [.host, .sent] ⊆ f.parts) {b : Blk} : Frame f s₀ (s.raiseBlock b) := by
  unfold State.raiseBlock
  split
  · exact State.raiseVector_frame h hp
  · exact h

theorem State.refreshSum_frame (h : Frame f s₀ s) (hp : [.host, .sent] ⊆ f.parts) (hr : .GLB_INT_SUM ∈ f.regs) {b : Blk}
    {was : Bool} : Frame f s₀ (s.refreshSum b was) := by
  unfold State.refreshSum
  have h1 := State.setFld_frame h (g := ⟨.GLB_INT_SUM, b.index, 1⟩) hr (i := 0) (v := if s.summary b then 1 else 0)
  dsimp only
  split
  · exact State.raiseBlock_frame h1 hp
  · exact h1

theorem State.irq_frame (h : Frame f s₀ s) (hp : [.host, .sent] ⊆ f.parts) {c : Irq} (hr : c.blk.irqRegs ⊆ f.regs) :
    Frame f s₀ (s.irq c) := by
  unfold State.irq
  split
  · exact h
  · rename_i st e
    split
    · exact h
    · exact State.refreshSum_frame (State.setFld_frame h (hr (by simp [Blk.irqRegs, e]))) hp (hr (by simp [Blk.irqRegs]))

theorem State.clearStat_frame (h : Frame f s₀ s) (hp : [.host, .sent] ⊆ f.parts) {b : Blk} (hr : b.irqRegs ⊆ f.regs) {v : Word} :
    Frame f s₀ (s.clearStat b v) := by
  unfold State.clearStat
  split
  · exact h
  · rename_i st e
    have h1 := State.refreshSum_frame (h.setReg (r := st) (hr (by simp [Blk.irqRegs, e])) 0 (s.reg st 0 &&& ~~~v)) hp
      (hr (by simp [Blk.irqRegs])) (b := b) (was := true)
    dsimp only
    split
    · exact State.raiseBlock_frame h1 hp
    · exact h1

theorem State.writeEn_frame (h : Frame f s₀ s) (hp : [.host, .sent] ⊆ f.parts) {b : Blk}
    (hr : .GLB_INT_SUM :: b.intEn.toList ⊆ f.regs) {v : Word} : Frame f s₀ (s.writeEn b v) := by
  unfold State.writeEn
  split
  · exact h
  · rename_i en e
    exact State.refreshSum_frame (h.setReg (hr (by simp [e])) 0 _) hp (hr (by simp))

/-- The registers that a discarded write of a block's register changes (R663, R630). -/
def Blk.shutRegs (b : Blk) : List Reg := [.GLB_INT_SUM, .GLB_INT_STAT, .GLB_PCIE_ERR] ++ b.intStat.toList

theorem Blk.hostWr_blk {b : Blk} {c : Irq} (h : b.hostWr = some c) : c.blk = b := by
  cases b <;> simp only [Blk.hostWr, Option.some.injEq, reduceCtorEq] at h <;> subst h <;> rfl

theorem State.discardHost_frame (h : Frame f s₀ s) (hp : [.host, .sent] ⊆ f.parts) {b : Blk} (hr : b.shutRegs ⊆ f.regs) :
    Frame f s₀ (s.discardHost b) := by
  unfold State.discardHost
  split
  · rename_i c e
    refine State.irq_frame h hp fun r m => hr ?_
    rw [Blk.irqRegs, Blk.hostWr_blk e] at m
    simp only [Blk.shutRegs, List.mem_append, List.mem_cons] at m ⊢
    tauto
  · refine State.count_frame (State.irq_frame h hp fun r m => hr ?_) (hr (by simp [Blk.shutRegs]))
    have hm : Irq.GLB_PCIE_ERR.blk.irqRegs = [.GLB_INT_SUM, .GLB_INT_STAT] := rfl
    rw [hm] at m
    simp only [Blk.shutRegs, List.mem_append, List.mem_cons, List.not_mem_nil, or_false] at m ⊢
    tauto

/-- The registers that a write of a register changes when it is closed to the requester. -/
def Reg.shutRegs (r : Reg) : List Reg := r.info.blk.shutRegs

theorem State.guarded_frame (h : Frame f s₀ s) (hp : [.host, .sent] ⊆ f.parts) {r : Reg} (hr : r.shutRegs ⊆ f.regs)
    {src : Requester} {k : State → State} (hk : Frame f s₀ (k s)) : Frame f s₀ (s.guarded r src k) := by
  unfold State.guarded
  split
  · split
    · refine State.discardHost_frame h hp fun x m => hr ?_
      split at m
      · simp only [Blk.shutRegs, Reg.shutRegs, List.mem_append, List.mem_cons, Blk.intStat] at m ⊢
        have hg : x ∈ (some Reg.GLB_INT_STAT).toList → x = .GLB_INT_STAT := by simp
        tauto
      · exact m
    · exact h
  · exact hk

end Sys2Proof.Machine
end

