-- ==== Sys2Proof/Laws/Shared.lean ====
section
/-! SUPPORT. One frame law per shared operation: the parts of the state and the registers outside which it changes nothing, over
any footprint at least as large. A prover chains them and unfolds no operation that has one. -/

namespace Sys2Proof.Machine

variable {f : Foot} {s₀ s t : State}

theorem State.setCtx_frame {i c} (h : Frame f s₀ s) (hp : [.nim] ⊆ f.parts) :
    Frame f s₀ (State.setCtx s i c) := by
  unfold State.setCtx
  repeat' (first
    | assumption | with_reducible apply Frame.upd | with_reducible exact fun _ => rfl
    | exact fun n => absurd (hp (by decide)) n | exact hp (by decide) | exact List.Subset.trans (by decide) hp)

theorem State.setRunning_frame {core i} (h : Frame f s₀ s) (hp : [.nim] ⊆ f.parts) :
    Frame f s₀ (State.setRunning s core i) := by
  unfold State.setRunning
  repeat' (first
    | assumption | with_reducible apply Frame.upd | with_reducible exact fun _ => rfl
    | exact fun n => absurd (hp (by decide)) n | exact hp (by decide) | exact List.Subset.trans (by decide) hp)

theorem State.resume_frame {core} (h : Frame f s₀ s) (hp : [.nim] ⊆ f.parts) :
    Frame f s₀ (State.resume s core) := by
  unfold State.resume
  repeat' (first
    | assumption | with_reducible apply State.setCtx_frame | with_reducible apply State.setRunning_frame | split
    | exact hp (by decide) | exact List.Subset.trans (by decide) hp)

theorem State.ready_frame {i} (h : Frame f s₀ s) (hp : [.nim] ⊆ f.parts) :
    Frame f s₀ (State.ready s i) := by
  unfold State.ready
  try extract_lets
  repeat' (first
    | assumption | with_reducible apply State.resume_frame | with_reducible apply State.setCtx_frame
    | with_reducible apply Frame.upd | extract_lets | with_reducible exact fun _ => rfl
    | exact fun n => absurd (hp (by decide)) n | exact hp (by decide) | exact List.Subset.trans (by decide) hp)

theorem State.giveResult_frame {i v st} (h : Frame f s₀ s) (hp : [.nim] ⊆ f.parts) :
    Frame f s₀ (State.giveResult s i v st) := by
  unfold State.giveResult
  try extract_lets
  repeat' (first
    | assumption | with_reducible apply State.ready_frame | with_reducible apply State.setCtx_frame | split
    | extract_lets | exact hp (by decide) | exact List.Subset.trans (by decide) hp)

theorem State.writeCq_frame {q r} (h : Frame f s₀ s) (hp : [.sent, .nim, .host] ⊆ f.parts) (hr : [.NIM_CQ_TAIL] ⊆ f.regs) :
    Frame f s₀ (State.writeCq s q r) := by
  unfold State.writeCq
  try extract_lets
  repeat' (first
    | assumption | with_reducible apply State.emit_frame | with_reducible apply State.raiseVector_frame
    | with_reducible apply State.setFld_frame | split | with_reducible apply Frame.upd | extract_lets
    | with_reducible exact fun _ => rfl | exact fun n => absurd (hp (by decide)) n | exact hp (by decide)
    | exact List.Subset.trans (by decide) hp | exact hr (by decide) | exact hr (by simp)
    | exact List.Subset.trans (by decide) hr)

theorem State.postAck_frame {q r} (h : Frame f s₀ s) (hp : [.sent, .nim, .host] ⊆ f.parts) (hr : [.NIM_CQ_TAIL] ⊆ f.regs) :
    Frame f s₀ (State.postAck s q r) := by
  unfold State.postAck
  repeat' (first
    | assumption | with_reducible apply State.writeCq_frame | split | with_reducible apply Frame.upd
    | with_reducible exact fun _ => rfl | exact fun n => absurd (hp (by decide)) n | exact hp (by decide)
    | exact List.Subset.trans (by decide) hp | exact hr (by decide) | exact hr (by simp)
    | exact List.Subset.trans (by decide) hr)

theorem State.raiseHwm_frame {k} (h : Frame f s₀ s) (hp : [.nim] ⊆ f.parts) (hr : [.NIM_Q_HWM] ⊆ f.regs) :
    Frame f s₀ (State.raiseHwm s k) := by
  unfold State.raiseHwm
  try extract_lets
  repeat' (first
    | assumption | with_reducible apply Frame.setReg | split | with_reducible apply Frame.upd | extract_lets
    | with_reducible exact fun _ => rfl | exact fun n => absurd (hp (by decide)) n | exact hp (by decide)
    | exact List.Subset.trans (by decide) hp | exact hr (by decide) | exact hr (by simp)
    | exact List.Subset.trans (by decide) hr)

theorem State.setEntry_frame {k f'} (h : Frame f s₀ s) (hp : [.nim] ⊆ f.parts) :
    Frame f s₀ (State.setEntry s k f') := by
  unfold State.setEntry
  repeat' (first
    | assumption | with_reducible apply Frame.upd | with_reducible exact fun _ => rfl
    | exact fun n => absurd (hp (by decide)) n | exact hp (by decide) | exact List.Subset.trans (by decide) hp)

theorem State.showQueue_frame {q} (h : Frame f s₀ s) (hr : [.NIM_Q_STAT] ⊆ f.regs) :
    Frame f s₀ (State.showQueue s q) := by
  unfold State.showQueue
  repeat' (first
    | assumption | with_reducible apply State.setFld_frame | exact hr (by decide) | exact hr (by simp)
    | exact List.Subset.trans (by decide) hr)

theorem State.ackEntry_frame {k alone} (h : Frame f s₀ s) (hp : [.nim, .sent, .host] ⊆ f.parts) (hr : [.NIM_Q_HWM, .NIM_ACCEPTED, .RSL_PAIR_STAT, .NIM_Q_STAT, .NIM_CQ_TAIL] ⊆ f.regs) :
    Frame f s₀ (State.ackEntry s k alone) := by
  unfold State.ackEntry
  dsimp only
  repeat' (first
    | assumption | with_reducible apply State.count_frame | with_reducible apply State.giveResult_frame
    | with_reducible apply State.postAck_frame | with_reducible apply State.raiseHwm_frame
    | with_reducible apply State.setEntry_frame | with_reducible apply State.setFlag_frame
    | with_reducible apply State.setFld_frame | with_reducible apply State.showQueue_frame | split
    | exact hp (by decide) | exact List.Subset.trans (by decide) hp | exact hr (by decide) | exact hr (by simp)
    | exact List.Subset.trans (by decide) hr)

theorem State.showJournal_frame (h : Frame f s₀ s) (hp : [.host, .sent] ⊆ f.parts) (hr : [.NIM_JRN_FREE, .NIM_JRN_OPEN, .GLB_INT_SUM, .NIM_INT_STAT] ⊆ f.regs) :
    Frame f s₀ (State.showJournal s) := by
  unfold State.showJournal
  try extract_lets
  repeat' (first
    | assumption | with_reducible apply State.irq_frame | with_reducible apply Frame.setReg | split | extract_lets
    | exact hp (by decide) | exact List.Subset.trans (by decide) hp | exact hr (by decide) | exact hr (by simp)
    | exact List.Subset.trans (by decide) hr)

theorem State.endForwarded_frame {k st} (h : Frame f s₀ s) (hp : [.nim, .host, .sent] ⊆ f.parts) (hr : [.NIM_JRN_FREE, .NIM_JRN_OPEN, .GLB_INT_SUM, .NIM_INT_STAT] ⊆ f.regs) :
    Frame f s₀ (State.endForwarded s k st) := by
  unfold State.endForwarded
  repeat' (first
    | assumption | with_reducible apply State.setEntry_frame | with_reducible apply State.showJournal_frame
    | exact hp (by decide) | exact List.Subset.trans (by decide) hp | exact hr (by decide) | exact hr (by simp)
    | exact List.Subset.trans (by decide) hr)

theorem State.recordApplied_frame {k sig st} (h : Frame f s₀ s) (hp : [.nim] ⊆ f.parts) :
    Frame f s₀ (State.recordApplied s k sig st) := by
  unfold State.recordApplied
  repeat' (first
    | assumption | with_reducible apply Frame.upd | with_reducible exact fun _ => rfl
    | exact fun n => absurd (hp (by decide)) n | exact hp (by decide) | exact List.Subset.trans (by decide) hp)

theorem State.recordSig_frame {k sig st} (h : Frame f s₀ s) (hp : [.nim] ⊆ f.parts) :
    Frame f s₀ (State.recordSig s k sig st) := by
  unfold State.recordSig
  repeat' (first
    | assumption | with_reducible apply State.setEntry_frame | exact hp (by decide)
    | exact List.Subset.trans (by decide) hp)

theorem State.sigReturn_frame {i k sig v st} (h : Frame f s₀ s) (hp : [.nim] ⊆ f.parts) :
    Frame f s₀ (State.sigReturn s i k sig v st) := by
  unfold State.sigReturn
  try extract_lets
  repeat' (first
    | assumption | with_reducible apply State.giveResult_frame | with_reducible apply State.recordApplied_frame
    | with_reducible apply State.recordSig_frame | split | extract_lets | exact hp (by decide)
    | exact List.Subset.trans (by decide) hp)

theorem State.account_frame {k sig f'} (h : Frame f s₀ s) (hp : [.tks, .nim, .resp, .host, .sent] ⊆ f.parts) (hr : [.NIM_JRN_FREE, .NIM_JRN_OPEN, .GLB_INT_SUM, .NIM_INT_STAT] ⊆ f.regs) :
    Frame f s₀ (State.account s k sig f') := by
  unfold State.account
  try extract_lets
  repeat' (first
    | assumption | with_reducible apply State.answer_frame | with_reducible apply State.endForwarded_frame
    | with_reducible apply State.sigReturn_frame | split | with_reducible apply Frame.upd | extract_lets
    | with_reducible exact fun _ => rfl | exact fun n => absurd (hp (by decide)) n | exact hp (by decide)
    | exact List.Subset.trans (by decide) hp | exact hr (by decide) | exact hr (by simp)
    | exact List.Subset.trans (by decide) hr)

theorem State.lastStatus_frame {op st} (h : Frame f s₀ s) (hr : [.UPD_LAST_STATUS] ⊆ f.regs) :
    Frame f s₀ (State.lastStatus s op st) := by
  unfold State.lastStatus
  repeat' (first
    | assumption | with_reducible apply State.setFld_frame | exact hr (by decide) | exact hr (by simp)
    | exact List.Subset.trans (by decide) hr)

theorem State.ctrlRefused_frame {bit_ st} (h : Frame f s₀ s) (hp : [.host, .sent, .resp] ⊆ f.parts) (hr : [.GLB_INT_SUM, .UPD_INT_STAT, .UPD_LAST_STATUS] ⊆ f.regs) :
    Frame f s₀ (State.ctrlRefused s bit_ st) := by
  unfold State.ctrlRefused
  dsimp only
  repeat' (first
    | assumption | with_reducible apply State.answer_frame | with_reducible apply State.irq_frame
    | with_reducible apply State.lastStatus_frame | split | exact hp (by decide)
    | exact List.Subset.trans (by decide) hp | exact hr (by decide) | exact hr (by simp)
    | exact List.Subset.trans (by decide) hr)

theorem State.drawFree_frame (h : Frame f s₀ s) (hp : [.freeCtr] ⊆ f.parts) :
    Frame f s₀ (State.drawFree s) := by
  unfold State.drawFree
  repeat' (first
    | assumption | with_reducible apply Frame.upd | with_reducible exact fun _ => rfl
    | exact fun n => absurd (hp (by decide)) n | exact hp (by decide) | exact List.Subset.trans (by decide) hp)

theorem State.showStaged_frame (h : Frame f s₀ s) (hr : [.AWL_STATUS, .INS_RET_STAT] ⊆ f.regs) :
    Frame f s₀ (State.showStaged s) := by
  unfold State.showStaged
  repeat' (first
    | assumption | with_reducible apply State.setFld_frame | exact hr (by decide) | exact hr (by simp)
    | exact List.Subset.trans (by decide) hr)

theorem State.stage_frame {src code arg} (h : Frame f s₀ s) (hp : [.awl, .host, .sent] ⊆ f.parts) (hr : [.AWL_MERGED, .AWL_STATUS, .INS_RET_STAT, .AWL_LOST, .GLB_INT_SUM, .AWL_INT_STAT] ⊆ f.regs) :
    Frame f s₀ (State.stage s src code arg) := by
  unfold State.stage
  try extract_lets
  repeat' (first
    | assumption | with_reducible apply State.count_frame | with_reducible apply State.irq_frame
    | with_reducible apply State.showStaged_frame | split | with_reducible apply Frame.upd | extract_lets
    | with_reducible exact fun _ => rfl | exact fun n => absurd (hp (by decide)) n | exact hp (by decide)
    | exact List.Subset.trans (by decide) hp | exact hr (by decide) | exact hr (by simp)
    | exact List.Subset.trans (by decide) hr)

theorem State.awlUnstated_frame {b arg} (h : Frame f s₀ s) (hp : [.freeCtr, .awl, .host, .sent] ⊆ f.parts) (hr : [.AWL_MERGED, .AWL_STATUS, .INS_RET_STAT, .AWL_LOST, .GLB_INT_SUM, .AWL_INT_STAT] ⊆ f.regs) :
    Frame f s₀ (State.awlUnstated s b arg) := by
  unfold State.awlUnstated
  repeat' (first
    | assumption | with_reducible apply State.drawFree_frame | with_reducible apply State.stage_frame
    | exact hp (by decide) | exact List.Subset.trans (by decide) hp | exact hr (by decide) | exact hr (by simp)
    | exact List.Subset.trans (by decide) hr)

theorem State.setUpd_frame {x} (h : Frame f s₀ s) (hp : [.upd] ⊆ f.parts) :
    Frame f s₀ (State.setUpd s x) := by
  unfold State.setUpd
  repeat' (first
    | assumption | with_reducible apply Frame.upd | with_reducible exact fun _ => rfl
    | exact fun n => absurd (hp (by decide)) n | exact hp (by decide) | exact List.Subset.trans (by decide) hp)

theorem State.setSlot_frame {i x} (h : Frame f s₀ s) (hp : [.upd] ⊆ f.parts) :
    Frame f s₀ (State.setSlot s i x) := by
  unfold State.setSlot
  repeat' (first
    | assumption | with_reducible apply State.setUpd_frame | exact hp (by decide)
    | exact List.Subset.trans (by decide) hp)

theorem State.raiseFloor_frame {h'} (h : Frame f s₀ s) (hr : [.SET_FLOOR] ⊆ f.regs) :
    Frame f s₀ (State.raiseFloor s h') := by
  unfold State.raiseFloor
  repeat' (first
    | assumption | with_reducible apply Frame.setReg | split | exact hr (by decide) | exact hr (by simp)
    | exact List.Subset.trans (by decide) hr)

theorem State.refreshAlert_frame (h : Frame f s₀ s) (hp : [.host, .sent] ⊆ f.parts) (hr : [.GLB_INT_SUM, .GLB_INT_STAT] ⊆ f.regs) :
    Frame f s₀ (State.refreshAlert s) := by
  unfold State.refreshAlert
  try extract_lets
  repeat' (first
    | assumption | with_reducible apply State.irq_frame | split | with_reducible apply Frame.upd | extract_lets
    | with_reducible exact fun _ => rfl | exact fun n => absurd (hp (by decide)) n | exact hp (by decide)
    | exact List.Subset.trans (by decide) hp | exact hr (by decide) | exact hr (by simp)
    | exact List.Subset.trans (by decide) hr)

theorem State.alert_frame {b} (h : Frame f s₀ s) (hp : [.host, .sent] ⊆ f.parts) (hr : [.GLB_ALERT_STAT, .GLB_INT_SUM, .GLB_INT_STAT] ⊆ f.regs) :
    Frame f s₀ (State.alert s b) := by
  unfold State.alert
  repeat' (first
    | assumption | with_reducible apply State.refreshAlert_frame | with_reducible apply State.setFld_frame
    | exact hp (by decide) | exact List.Subset.trans (by decide) hp | exact hr (by decide) | exact hr (by simp)
    | exact List.Subset.trans (by decide) hr)

theorem State.recovery_frame (h : Frame f s₀ s) (hp : [.host, .sent] ⊆ f.parts) (hr : [.BOOT_STAGE, .UPD_STATUS, .BOOT_FAIL, .GLB_ALERT_STAT, .GLB_INT_SUM, .GLB_INT_STAT] ⊆ f.regs) :
    Frame f s₀ (State.recovery s) := by
  unfold State.recovery
  try extract_lets
  repeat' (first
    | assumption | with_reducible apply State.alert_frame | with_reducible apply State.setFlag_frame
    | with_reducible apply State.setFld_frame | extract_lets | exact hp (by decide)
    | exact List.Subset.trans (by decide) hp | exact hr (by decide) | exact hr (by simp)
    | exact List.Subset.trans (by decide) hr)

theorem State.setDirs_frame {d} (h : Frame f s₀ s) (hp : [.twl] ⊆ f.parts) :
    Frame f s₀ (State.setDirs s d) := by
  unfold State.setDirs
  repeat' (first
    | assumption | with_reducible apply Frame.upd | with_reducible exact fun _ => rfl
    | exact fun n => absurd (hp (by decide)) n | exact hp (by decide) | exact List.Subset.trans (by decide) hp)

theorem State.dropCtx_frame {i} (h : Frame f s₀ s) (hp : [.tks, .twl] ⊆ f.parts) :
    Frame f s₀ (State.dropCtx s i) := by
  unfold State.dropCtx
  try extract_lets
  repeat' (first
    | assumption | with_reducible apply State.setDirs_frame | with_reducible apply Frame.upd | extract_lets
    | with_reducible exact fun _ => rfl | exact fun n => absurd (hp (by decide)) n | exact hp (by decide)
    | exact List.Subset.trans (by decide) hp)

theorem State.resetCores_frame (h : Frame f s₀ s) (hp : [.tks, .twl, .nim] ⊆ f.parts) :
    Frame f s₀ (State.resetCores s) := by
  unfold State.resetCores
  try extract_lets
  repeat' (first
    | assumption | with_reducible apply State.dropCtx_frame | with_reducible refine Frame.foldl (fun _ _ _ => ?_) _ ?_
    | with_reducible apply Frame.upd | extract_lets | with_reducible exact fun _ => rfl
    | exact fun n => absurd (hp (by decide)) n | exact hp (by decide) | exact List.Subset.trans (by decide) hp)

theorem State.setBoot_frame {x} (h : Frame f s₀ s) (hp : [.boot] ⊆ f.parts) :
    Frame f s₀ (State.setBoot s x) := by
  unfold State.setBoot
  repeat' (first
    | assumption | with_reducible apply Frame.upd | with_reducible exact fun _ => rfl
    | exact fun n => absurd (hp (by decide)) n | exact hp (by decide) | exact List.Subset.trans (by decide) hp)

theorem State.awlCause_frame {c alarm obj detail} (h : Frame f s₀ s) (hp : [.awl, .host, .sent] ⊆ f.parts) (hr : [.AWL_MERGED, .AWL_STATUS, .INS_RET_STAT, .AWL_LOST, .GLB_INT_SUM, .AWL_INT_STAT] ⊆ f.regs) :
    Frame f s₀ (State.awlCause s c alarm obj detail) := by
  unfold State.awlCause
  repeat' (first
    | assumption | with_reducible apply State.stage_frame | exact hp (by decide)
    | exact List.Subset.trans (by decide) hp | exact hr (by decide) | exact hr (by simp)
    | exact List.Subset.trans (by decide) hr)

theorem State.event_frame {c obj detail} (h : Frame f s₀ s) (hp : [.host, .sent, .awl] ⊆ f.parts) (hc : c.blk.irqRegs ⊆ f.regs) (hr : [.AWL_MERGED, .AWL_STATUS, .INS_RET_STAT, .AWL_LOST, .GLB_INT_SUM, .AWL_INT_STAT] ⊆ f.regs) :
    Frame f s₀ (State.event s c obj detail) := by
  unfold State.event
  repeat' (first
    | assumption | with_reducible apply State.awlCause_frame | with_reducible apply State.irq_frame
    | exact hp (by decide) | exact List.Subset.trans (by decide) hp | exact hr (by decide) | exact hr (by simp)
    | exact List.Subset.trans (by decide) hr)

theorem State.addRepair_frame {kind array place spare} (h : Frame f s₀ s) (hp : [.rsl, .host, .sent, .awl] ⊆ f.parts) (hr : [.RSL_REPAIR_USED, .RSL_STATUS, .AWL_MERGED, .AWL_STATUS, .INS_RET_STAT, .AWL_LOST, .GLB_INT_SUM, .AWL_INT_STAT, .RSL_INT_STAT] ⊆ f.regs) :
    Frame f s₀ (State.addRepair s kind array place spare) := by
  unfold State.addRepair
  try extract_lets
  repeat' (first
    | assumption | with_reducible apply State.event_frame | with_reducible apply State.setFlag_frame
    | with_reducible apply State.setFld_frame | split | with_reducible apply Frame.upd | extract_lets
    | with_reducible exact fun _ => rfl | exact fun n => absurd (hp (by decide)) n | exact hp (by decide)
    | exact List.Subset.trans (by decide) hp | exact hr (by decide) | exact hr (by simp)
    | exact List.Subset.trans (by decide) hr)

theorem State.advanceClock_frame (h : Frame f s₀ s) (hp : [.nim] ⊆ f.parts) :
    Frame f s₀ (State.advanceClock s) := by
  unfold State.advanceClock
  try extract_lets
  repeat' (first
    | assumption | with_reducible apply Frame.upd | extract_lets | with_reducible exact fun _ => rfl
    | exact fun n => absurd (hp (by decide)) n | exact hp (by decide) | exact List.Subset.trans (by decide) hp)

theorem State.advanceTb_frame {k} (h : Frame f s₀ s) (hp : [.tb] ⊆ f.parts) :
    Frame f s₀ (State.advanceTb s k) := by
  unfold State.advanceTb
  repeat' (first
    | assumption | split | with_reducible apply Frame.upd | with_reducible exact fun _ => rfl
    | exact fun n => absurd (hp (by decide)) n | exact hp (by decide) | exact List.Subset.trans (by decide) hp)

theorem State.agePartner_frame (h : Frame f s₀ s) (hr : [.NIM_PAIR_STAT] ⊆ f.regs) :
    Frame f s₀ (State.agePartner s) := by
  unfold State.agePartner
  repeat' (first
    | assumption | with_reducible apply State.setFld_frame | split | exact hr (by decide) | exact hr (by simp)
    | exact List.Subset.trans (by decide) hr)

theorem State.setLink_frame {k x} (h : Frame f s₀ s) (hp : [.net] ⊆ f.parts) :
    Frame f s₀ (State.setLink s k x) := by
  unfold State.setLink
  repeat' (first
    | assumption | with_reducible apply Frame.upd | with_reducible exact fun _ => rfl
    | exact fun n => absurd (hp (by decide)) n | exact hp (by decide) | exact List.Subset.trans (by decide) hp)

theorem State.ageRecord_frame {k} (h : Frame f s₀ s) (hp : [.net] ⊆ f.parts) :
    Frame f s₀ (State.ageRecord s k) := by
  unfold State.ageRecord
  repeat' (first
    | assumption | with_reducible apply State.setLink_frame | split | exact hp (by decide)
    | exact List.Subset.trans (by decide) hp)

theorem State.ageWarn_frame {obj detail} (h : Frame f s₀ s) (hp : [.host, .sent, .awl] ⊆ f.parts) (hr : [.RSL_STATUS, .AWL_MERGED, .AWL_STATUS, .INS_RET_STAT, .AWL_LOST, .GLB_INT_SUM, .AWL_INT_STAT, .RSL_INT_STAT] ⊆ f.regs) :
    Frame f s₀ (State.ageWarn s obj detail) := by
  unfold State.ageWarn
  repeat' (first
    | assumption | with_reducible apply State.event_frame | with_reducible apply State.setFlag_frame
    | exact hp (by decide) | exact List.Subset.trans (by decide) hp | exact hr (by decide) | exact hr (by simp)
    | exact List.Subset.trans (by decide) hr)

theorem State.alarm_frame {c bit_ obj detail} (h : Frame f s₀ s) (hp : [.host, .sent, .awl] ⊆ f.parts) (hc : c.blk.irqRegs ⊆ f.regs) (hr : [.GLB_ALERT_STAT, .GLB_INT_SUM, .GLB_INT_STAT, .AWL_MERGED, .AWL_STATUS, .INS_RET_STAT, .AWL_LOST, .AWL_INT_STAT] ⊆ f.regs) :
    Frame f s₀ (State.alarm s c bit_ obj detail) := by
  unfold State.alarm
  repeat' (first
    | assumption | with_reducible apply State.alert_frame | with_reducible apply State.awlCause_frame
    | with_reducible apply State.irq_frame | exact hp (by decide) | exact List.Subset.trans (by decide) hp
    | exact hr (by decide) | exact hr (by simp) | exact List.Subset.trans (by decide) hr)

theorem State.setSvc_frame {n x} (h : Frame f s₀ s) (hp : [.nim] ⊆ f.parts) :
    Frame f s₀ (State.setSvc s n x) := by
  unfold State.setSvc
  repeat' (first
    | assumption | with_reducible apply Frame.upd | with_reducible exact fun _ => rfl
    | exact fun n => absurd (hp (by decide)) n | exact hp (by decide) | exact List.Subset.trans (by decide) hp)

theorem State.wakeCtx_frame {i} (h : Frame f s₀ s) (hp : [.nim] ⊆ f.parts) (hr : [.NIM_SVC_STAT] ⊆ f.regs) :
    Frame f s₀ (State.wakeCtx s i) := by
  unfold State.wakeCtx
  dsimp only
  repeat' (first
    | assumption | with_reducible apply State.ready_frame | with_reducible apply State.setCtx_frame
    | with_reducible apply State.setFld_frame | with_reducible apply State.setSvc_frame | split | exact hp (by decide)
    | exact List.Subset.trans (by decide) hp | exact hr (by decide) | exact hr (by simp)
    | exact List.Subset.trans (by decide) hr)

theorem State.wakeSvc_frame {n} (h : Frame f s₀ s) (hp : [.nim] ⊆ f.parts) (hr : [.NIM_SVC_STAT] ⊆ f.regs) :
    Frame f s₀ (State.wakeSvc s n) := by
  unfold State.wakeSvc
  repeat' (first
    | assumption | with_reducible apply State.wakeCtx_frame | split | exact hp (by decide)
    | exact List.Subset.trans (by decide) hp | exact hr (by decide) | exact hr (by simp)
    | exact List.Subset.trans (by decide) hr)

theorem State.giveDone_frame {n seq st} (h : Frame f s₀ s) (hp : [.nim] ⊆ f.parts) (hr : [.NIM_SVC_STAT] ⊆ f.regs) :
    Frame f s₀ (State.giveDone s n seq st) := by
  unfold State.giveDone
  try extract_lets
  repeat' (first
    | assumption | with_reducible apply State.setSvc_frame | with_reducible apply State.wakeSvc_frame | extract_lets
    | exact hp (by decide) | exact List.Subset.trans (by decide) hp | exact hr (by decide) | exact hr (by simp)
    | exact List.Subset.trans (by decide) hr)

theorem State.postDone_frame {k} (h : Frame f s₀ s) (hp : [.sent, .nim, .host] ⊆ f.parts) (hr : [.NIM_CQ_TAIL, .NIM_Q_STAT] ⊆ f.regs) :
    Frame f s₀ (State.postDone s k) := by
  unfold State.postDone
  try extract_lets
  repeat' (first
    | assumption | with_reducible apply State.setEntry_frame | with_reducible apply State.setFld_frame
    | with_reducible apply State.writeCq_frame | with_reducible refine Frame.foldl (fun _ _ _ => ?_) _ ?_ | split
    | extract_lets | exact hp (by decide) | exact List.Subset.trans (by decide) hp | exact hr (by decide)
    | exact hr (by simp) | exact List.Subset.trans (by decide) hr)

theorem State.stageEnds_frame {i} (h : Frame f s₀ s) (hr : [.BOOT_TIME] ⊆ f.regs) :
    Frame f s₀ (State.stageEnds s i) := by
  unfold State.stageEnds
  repeat' (first
    | assumption | with_reducible apply Frame.setReg | exact hr (by decide) | exact hr (by simp)
    | exact List.Subset.trans (by decide) hr)

theorem State.bootReady_frame (h : Frame f s₀ s) (hr : [.BOOT_TIME, .BOOT_STAGE] ⊆ f.regs) :
    Frame f s₀ (State.bootReady s) := by
  unfold State.bootReady
  repeat' (first
    | assumption | with_reducible apply State.setFld_frame | with_reducible apply State.stageEnds_frame | split
    | exact hr (by decide) | exact hr (by simp) | exact List.Subset.trans (by decide) hr)

theorem State.postDones_frame (h : Frame f s₀ s) (hp : [.sent, .nim, .host] ⊆ f.parts) (hr : [.NIM_CQ_TAIL, .NIM_Q_STAT] ⊆ f.regs) :
    Frame f s₀ (State.postDones s) := by
  unfold State.postDones
  repeat' (first
    | assumption | with_reducible apply State.postDone_frame
    | with_reducible refine Frame.foldl (fun _ _ _ => ?_) _ ?_ | exact hp (by decide)
    | exact List.Subset.trans (by decide) hp | exact hr (by decide) | exact hr (by simp)
    | exact List.Subset.trans (by decide) hr)

theorem State.showCore_frame {core} (h : Frame f s₀ s) (hr : [.NIM_CORE_STAT] ⊆ f.regs) :
    Frame f s₀ (State.showCore s core) := by
  unfold State.showCore
  repeat' (first
    | assumption | with_reducible apply State.setFld_frame | exact hr (by decide) | exact hr (by simp)
    | exact List.Subset.trans (by decide) hr)

theorem State.endCtx_frame {i} (h : Frame f s₀ s) (hp : [.tks, .twl, .nim] ⊆ f.parts) (hr : [.NIM_CORE_STAT] ⊆ f.regs) :
    Frame f s₀ (State.endCtx s i) := by
  unfold State.endCtx
  dsimp only
  repeat' (first
    | assumption | with_reducible apply State.dropCtx_frame | with_reducible apply State.resume_frame
    | with_reducible apply State.setCtx_frame | with_reducible apply State.setRunning_frame
    | with_reducible apply State.showCore_frame | split | exact hp (by decide)
    | exact List.Subset.trans (by decide) hp | exact hr (by decide) | exact hr (by simp)
    | exact List.Subset.trans (by decide) hr)

theorem State.setInput_frame {n x} (h : Frame f s₀ s) (hp : [.ing] ⊆ f.parts) :
    Frame f s₀ (State.setInput s n x) := by
  unfold State.setInput
  repeat' (first
    | assumption | with_reducible apply Frame.upd | with_reducible exact fun _ => rfl
    | exact fun n => absurd (hp (by decide)) n | exact hp (by decide) | exact List.Subset.trans (by decide) hp)

theorem State.ancFlowPacket_frame {a num bytes} (h : Frame f s₀ s) (hp : [.ing, .host, .sent] ⊆ f.parts) (hr : [.ING_ANF_STAT, .GLB_INT_SUM, .ING_INT_STAT] ⊆ f.regs) :
    Frame f s₀ (State.ancFlowPacket s a num bytes) := by
  unfold State.ancFlowPacket
  try extract_lets
  repeat' (first
    | assumption | with_reducible apply State.count_frame | with_reducible apply State.irq_frame
    | with_reducible apply State.setInput_frame | split | extract_lets | exact hp (by decide)
    | exact List.Subset.trans (by decide) hp | exact hr (by decide) | exact hr (by simp)
    | exact List.Subset.trans (by decide) hr)

theorem State.setPipe_frame {v p} (h : Frame f s₀ s) (hp : [.vmp] ⊆ f.parts) :
    Frame f s₀ (State.setPipe s v p) := by
  unfold State.setPipe
  repeat' (first
    | assumption | with_reducible apply Frame.upd | with_reducible exact fun _ => rfl
    | exact fun n => absurd (hp (by decide)) n | exact hp (by decide) | exact List.Subset.trans (by decide) hp)

theorem State.applyDelivery_frame (h : Frame f s₀ s) (hp : [.twl] ⊆ f.parts) (hr : [.TWL_RSET_USED] ⊆ f.regs) :
    Frame f s₀ (State.applyDelivery s) := by
  unfold State.applyDelivery
  try extract_lets
  repeat' (first
    | assumption | with_reducible apply Frame.setReg | with_reducible apply Frame.upd | extract_lets
    | with_reducible exact fun _ => rfl | exact fun n => absurd (hp (by decide)) n | exact hp (by decide)
    | exact List.Subset.trans (by decide) hp | exact hr (by decide) | exact hr (by simp)
    | exact List.Subset.trans (by decide) hr)

theorem State.setOut_frame {n x} (h : Frame f s₀ s) (hp : [.egr] ⊆ f.parts) :
    Frame f s₀ (State.setOut s n x) := by
  unfold State.setOut
  repeat' (first
    | assumption | with_reducible apply Frame.upd | with_reducible exact fun _ => rfl
    | exact fun n => absurd (hp (by decide)) n | exact hp (by decide) | exact List.Subset.trans (by decide) hp)

theorem State.loseOutRoute_frame {n} (h : Frame f s₀ s) (hp : [.egr] ⊆ f.parts) (hr : [.EGR_OUT_TAKE] ⊆ f.regs) :
    Frame f s₀ (State.loseOutRoute s n) := by
  unfold State.loseOutRoute
  repeat' (first
    | assumption | with_reducible apply State.setFlag_frame | with_reducible apply State.setOut_frame
    | exact hp (by decide) | exact List.Subset.trans (by decide) hp | exact hr (by decide) | exact hr (by simp)
    | exact List.Subset.trans (by decide) hr)

theorem State.setPort_frame {p x} (h : Frame f s₀ s) (hp : [.twl] ⊆ f.parts) :
    Frame f s₀ (State.setPort s p x) := by
  unfold State.setPort
  repeat' (first
    | assumption | with_reducible apply Frame.upd | with_reducible exact fun _ => rfl
    | exact fun n => absurd (hp (by decide)) n | exact hp (by decide) | exact List.Subset.trans (by decide) hp)

theorem State.setRoutes_frame {rs} (h : Frame f s₀ s) (hp : [.twl] ⊆ f.parts) :
    Frame f s₀ (State.setRoutes s rs) := by
  unfold State.setRoutes
  repeat' (first
    | assumption | with_reducible apply Frame.upd | with_reducible exact fun _ => rfl
    | exact fun n => absurd (hp (by decide)) n | exact hp (by decide) | exact List.Subset.trans (by decide) hp)

theorem State.showCtx_frame {p c} (h : Frame f s₀ s) (hr : [.TWL_ST_CFG] ⊆ f.regs) :
    Frame f s₀ (State.showCtx s p c) := by
  unfold State.showCtx
  try extract_lets
  repeat' (first
    | assumption | with_reducible apply Frame.setReg | extract_lets | exact hr (by decide) | exact hr (by simp)
    | exact List.Subset.trans (by decide) hr)

theorem State.setTakes_frame {l} (h : Frame f s₀ s) (hp : [.tks] ⊆ f.parts) :
    Frame f s₀ (State.setTakes s l) := by
  unfold State.setTakes
  repeat' (first
    | assumption | with_reducible apply Frame.upd | with_reducible exact fun _ => rfl
    | exact fun n => absurd (hp (by decide)) n | exact hp (by decide) | exact List.Subset.trans (by decide) hp)

theorem State.setTake_frame {t'} (h : Frame f s₀ s) (hp : [.tks] ⊆ f.parts) :
    Frame f s₀ (State.setTake s t') := by
  unfold State.setTake
  repeat' (first
    | assumption | with_reducible apply State.setTakes_frame | exact hp (by decide)
    | exact List.Subset.trans (by decide) hp)

theorem State.setDir_frame {flow e} (h : Frame f s₀ s) (hp : [.dir] ⊆ f.parts) :
    Frame f s₀ (State.setDir s flow e) := by
  unfold State.setDir
  repeat' (first
    | assumption | with_reducible apply Frame.upd | with_reducible exact fun _ => rfl
    | exact fun n => absurd (hp (by decide)) n | exact hp (by decide) | exact List.Subset.trans (by decide) hp)

theorem State.showDir_frame (h : Frame f s₀ s) (hr : [.TWL_DIR_COUNT, .TWL_DIR_OWN, .TWL_DIR_OVF] ⊆ f.regs) :
    Frame f s₀ (State.showDir s) := by
  unfold State.showDir
  try extract_lets
  repeat' (first
    | assumption | with_reducible apply Frame.setReg | extract_lets | exact hr (by decide) | exact hr (by simp)
    | exact List.Subset.trans (by decide) hr)

theorem State.setPortState_frame {p st} (h : Frame f s₀ s) (hr : [.NPT_PORT_STAT] ⊆ f.regs) :
    Frame f s₀ (State.setPortState s p st) := by
  unfold State.setPortState
  repeat' (first
    | assumption | with_reducible apply State.setFld_frame | exact hr (by decide) | exact hr (by simp)
    | exact List.Subset.trans (by decide) hr)

theorem State.applyLp_frame {p} (h : Frame f s₀ s) (hr : [.NPT_PORT_STAT] ⊆ f.regs) :
    Frame f s₀ (State.applyLp s p) := by
  unfold State.applyLp
  try extract_lets
  repeat' (first
    | assumption | with_reducible apply State.setPortState_frame | split | extract_lets | exact hr (by decide)
    | exact hr (by simp) | exact List.Subset.trans (by decide) hr)

theorem State.freeRing_frame {n} (h : Frame f s₀ s) (hp : [.ing] ⊆ f.parts) (hr : [.ING_POOL_USED, .ING_IN_ALLOC] ⊆ f.regs) :
    Frame f s₀ (State.freeRing s n) := by
  unfold State.freeRing
  try extract_lets
  repeat' (first
    | assumption | with_reducible apply State.setInput_frame | with_reducible apply Frame.setReg | extract_lets
    | exact hp (by decide) | exact List.Subset.trans (by decide) hp | exact hr (by decide) | exact hr (by simp)
    | exact List.Subset.trans (by decide) hr)

theorem State.setSender_frame {k i x} (h : Frame f s₀ s) (hp : [.egr] ⊆ f.parts) :
    Frame f s₀ (State.setSender s k i x) := by
  unfold State.setSender
  repeat' (first
    | assumption | split | with_reducible apply Frame.upd | with_reducible exact fun _ => rfl
    | exact fun n => absurd (hp (by decide)) n | exact hp (by decide) | exact List.Subset.trans (by decide) hp)

theorem State.setSect_frame {tx n x} (h : Frame f s₀ s) (hp : [.asp] ⊆ f.parts) :
    Frame f s₀ (State.setSect s tx n x) := by
  unfold State.setSect
  repeat' (first
    | assumption | with_reducible apply Frame.upd | with_reducible exact fun _ => rfl
    | exact fun n => absurd (hp (by decide)) n | exact hp (by decide) | exact List.Subset.trans (by decide) hp)

theorem State.setAspState_frame {tx n st} (h : Frame f s₀ s) (hr : [.ASP_TX_STAT, .ASP_RX_STAT] ⊆ f.regs) :
    Frame f s₀ (State.setAspState s tx n st) := by
  unfold State.setAspState
  repeat' (first
    | assumption | with_reducible apply State.setFld_frame | exact hr (by decide)
    | (cases tx <;> exact hr (by decide)) | exact hr (by simp) | exact List.Subset.trans (by decide) hr
    | (refine hr ?_; split <;> decide) | (refine hr ?_; dsimp only; split <;> decide)
    | (refine hr ?_; cases tx <;> decide))

theorem State.aspCount_frame {tx n} (h : Frame f s₀ s) (hp : [.asp] ⊆ f.parts) :
    Frame f s₀ (State.aspCount s tx n) := by
  unfold State.aspCount
  try extract_lets
  repeat' (first
    | assumption | with_reducible apply State.setSect_frame | split | extract_lets | exact hp (by decide)
    | exact List.Subset.trans (by decide) hp)

theorem State.aspIrq_frame {tx n c} (h : Frame f s₀ s) (hp : [.host, .sent] ⊆ f.parts) (hc : c.blk.irqRegs ⊆ f.regs) (hr : [.ASP_INT_SRC] ⊆ f.regs) :
    Frame f s₀ (State.aspIrq s tx n c) := by
  unfold State.aspIrq
  repeat' (first
    | assumption | with_reducible apply State.irq_frame | with_reducible apply State.setFld_frame
    | exact hp (by decide) | exact List.Subset.trans (by decide) hp | exact hr (by decide)
    | (cases tx <;> exact hr (by decide)) | exact hr (by simp) | exact List.Subset.trans (by decide) hr)

theorem State.aspEvent_frame {tx n c detail} (h : Frame f s₀ s) (hp : [.host, .sent, .awl] ⊆ f.parts) (hc : c.blk.irqRegs ⊆ f.regs) (hr : [.ASP_INT_SRC, .AWL_MERGED, .AWL_STATUS, .INS_RET_STAT, .AWL_LOST, .GLB_INT_SUM, .AWL_INT_STAT] ⊆ f.regs) :
    Frame f s₀ (State.aspEvent s tx n c detail) := by
  unfold State.aspEvent
  repeat' (first
    | assumption | with_reducible apply State.aspIrq_frame | with_reducible apply State.awlCause_frame
    | exact hp (by decide) | exact List.Subset.trans (by decide) hp | exact hr (by decide)
    | (cases tx <;> exact hr (by decide)) | exact hr (by simp) | exact List.Subset.trans (by decide) hr)

theorem State.aspIdle_frame (h : Frame f s₀ s) (hr : [.ASP_STATUS] ⊆ f.regs) :
    Frame f s₀ (State.aspIdle s) := by
  unfold State.aspIdle
  repeat' (first
    | assumption | with_reducible apply State.setFlag_frame | split | exact hr (by decide)
    | (cases tx <;> exact hr (by decide)) | exact hr (by simp) | exact List.Subset.trans (by decide) hr)

theorem State.setTwd_frame {c x} (h : Frame f s₀ s) (hp : [.twd] ⊆ f.parts) :
    Frame f s₀ (State.setTwd s c x) := by
  unfold State.setTwd
  repeat' (first
    | assumption | with_reducible apply Frame.upd | with_reducible exact fun _ => rfl
    | exact fun n => absurd (hp (by decide)) n | exact hp (by decide) | exact List.Subset.trans (by decide) hp)

theorem State.aspSlipped_frame {tx n} (h : Frame f s₀ s) (hp : [.host, .sent, .twd] ⊆ f.parts) (hr : [.ASP_TX_SLIP, .ASP_RX_SLIP, .ASP_INT_SRC, .GLB_INT_SUM, .ASP_INT_STAT] ⊆ f.regs) :
    Frame f s₀ (State.aspSlipped s tx n) := by
  unfold State.aspSlipped
  try extract_lets
  repeat' (first
    | assumption | with_reducible apply State.aspIrq_frame | with_reducible apply State.count_frame
    | with_reducible apply State.setTwd_frame | split | extract_lets | exact hp (by decide)
    | exact List.Subset.trans (by decide) hp | exact hr (by decide) | (cases tx <;> exact hr (by decide))
    | exact hr (by simp) | exact List.Subset.trans (by decide) hr | (refine hr ?_; split <;> decide)
    | (refine hr ?_; dsimp only; split <;> decide) | (refine hr ?_; cases tx <;> decide))

theorem State.aspPull_frame {tx n} (h : Frame f s₀ s) (hp : [.asp, .host, .sent, .twd] ⊆ f.parts) (hr : [.ASP_TX_SLIP, .ASP_RX_SLIP, .ASP_INT_SRC, .GLB_INT_SUM, .ASP_INT_STAT] ⊆ f.regs) :
    Frame f s₀ (State.aspPull s tx n) := by
  unfold State.aspPull
  try extract_lets
  repeat' (first
    | assumption | with_reducible apply State.aspSlipped_frame | with_reducible apply State.setSect_frame | split
    | extract_lets | exact hp (by decide) | exact List.Subset.trans (by decide) hp | exact hr (by decide)
    | (cases tx <;> exact hr (by decide)) | exact hr (by simp) | exact List.Subset.trans (by decide) hr)

theorem State.aspPush_frame {tx n f'} (h : Frame f s₀ s) (hp : [.asp, .host, .sent, .twd] ⊆ f.parts) (hr : [.ASP_TX_SLIP, .ASP_RX_SLIP, .ASP_INT_SRC, .GLB_INT_SUM, .ASP_INT_STAT] ⊆ f.regs) :
    Frame f s₀ (State.aspPush s tx n f') := by
  unfold State.aspPush
  try extract_lets
  repeat' (first
    | assumption | with_reducible apply State.aspSlipped_frame | with_reducible apply State.setSect_frame | split
    | extract_lets | exact hp (by decide) | exact List.Subset.trans (by decide) hp | exact hr (by decide)
    | (cases tx <;> exact hr (by decide)) | exact hr (by simp) | exact List.Subset.trans (by decide) hr)

theorem State.aspSend_frame {n f'} (h : Frame f s₀ s) (hp : [.sent] ⊆ f.parts) :
    Frame f s₀ (State.aspSend s n f') := by
  unfold State.aspSend
  try extract_lets
  repeat' (first
    | assumption | with_reducible apply State.emit_frame | extract_lets | exact hp (by decide)
    | exact List.Subset.trans (by decide) hp)

theorem State.audioPacket_frame {a ext late} (h : Frame f s₀ s) (hp : [.ing] ⊆ f.parts) (hr : [.ING_AFL_STAT] ⊆ f.regs) :
    Frame f s₀ (State.audioPacket s a ext late) := by
  unfold State.audioPacket
  try extract_lets
  repeat' (first
    | assumption | with_reducible apply State.count_frame | split | with_reducible apply Frame.upd | extract_lets
    | with_reducible exact fun _ => rfl | exact fun n => absurd (hp (by decide)) n | exact hp (by decide)
    | exact List.Subset.trans (by decide) hp | exact hr (by decide) | exact hr (by simp)
    | exact List.Subset.trans (by decide) hr)

theorem State.authFail_frame (h : Frame f s₀ s) (hp : [.upd, .host, .sent, .freeCtr, .awl] ⊆ f.parts) (hr : [.UPD_AUTH_FAILS, .GLB_INT_SUM, .UPD_INT_STAT, .AWL_MERGED, .AWL_STATUS, .INS_RET_STAT, .AWL_LOST, .AWL_INT_STAT] ⊆ f.regs) :
    Frame f s₀ (State.authFail s) := by
  unfold State.authFail
  try extract_lets
  repeat' (first
    | assumption | with_reducible apply State.awlUnstated_frame | with_reducible apply State.count_frame
    | with_reducible apply State.irq_frame | with_reducible apply State.setUpd_frame | extract_lets
    | exact hp (by decide) | exact List.Subset.trans (by decide) hp | exact hr (by decide) | exact hr (by simp)
    | exact List.Subset.trans (by decide) hr)

theorem State.awlFabric_frame {ev flow obj} (h : Frame f s₀ s) (hp : [.awl, .host, .sent] ⊆ f.parts) (hr : [.AWL_MERGED, .AWL_STATUS, .INS_RET_STAT, .AWL_LOST, .GLB_INT_SUM, .AWL_INT_STAT] ⊆ f.regs) :
    Frame f s₀ (State.awlFabric s ev flow obj) := by
  unfold State.awlFabric
  repeat' (first
    | assumption | with_reducible apply State.stage_frame | exact hp (by decide)
    | exact List.Subset.trans (by decide) hp | exact hr (by decide) | exact hr (by simp)
    | exact List.Subset.trans (by decide) hr)

theorem State.awlFull_frame (h : Frame f s₀ s) (hp : [.host, .sent] ⊆ f.parts) (hr : [.AWL_STATUS, .GLB_INT_SUM, .AWL_INT_STAT, .GLB_ALERT_STAT, .GLB_INT_STAT] ⊆ f.regs) :
    Frame f s₀ (State.awlFull s) := by
  unfold State.awlFull
  repeat' (first
    | assumption | with_reducible apply State.alert_frame | with_reducible apply State.irq_frame
    | with_reducible apply State.setFlag_frame | split | exact hp (by decide) | exact List.Subset.trans (by decide) hp
    | exact hr (by decide) | exact hr (by simp) | exact List.Subset.trans (by decide) hr)

theorem State.awlPersist_frame {b sev ev arg} (h : Frame f s₀ s) (hp : [.awl, .host, .sent] ⊆ f.parts) (hr : [.AWL_MERGED, .AWL_STATUS, .INS_RET_STAT, .AWL_LOST, .GLB_INT_SUM, .AWL_INT_STAT] ⊆ f.regs) :
    Frame f s₀ (State.awlPersist s b sev ev arg) := by
  unfold State.awlPersist
  repeat' (first
    | assumption | with_reducible apply State.stage_frame | exact hp (by decide)
    | exact List.Subset.trans (by decide) hp | exact hr (by decide) | exact hr (by simp)
    | exact List.Subset.trans (by decide) hr)

theorem State.awlState_frame {b sev st obj detail} (h : Frame f s₀ s) (hp : [.awl, .host, .sent] ⊆ f.parts) (hr : [.AWL_MERGED, .AWL_STATUS, .INS_RET_STAT, .AWL_LOST, .GLB_INT_SUM, .AWL_INT_STAT] ⊆ f.regs) :
    Frame f s₀ (State.awlState s b sev st obj detail) := by
  unfold State.awlState
  repeat' (first
    | assumption | with_reducible apply State.stage_frame | exact hp (by decide)
    | exact List.Subset.trans (by decide) hp | exact hr (by decide) | exact hr (by simp)
    | exact List.Subset.trans (by decide) hr)

theorem State.bankSample_frame {c slot n v flags} (h : Frame f s₀ s) (hp : [.twd] ⊆ f.parts) :
    Frame f s₀ (State.bankSample s c slot n v flags) := by
  unfold State.bankSample
  try extract_lets
  repeat' (first
    | assumption | with_reducible apply State.setTwd_frame | extract_lets | exact hp (by decide)
    | exact List.Subset.trans (by decide) hp)

theorem State.bar2Miss_frame (h : Frame f s₀ s) (hp : [.host, .sent] ⊆ f.parts) (hr : [.GLB_BAR2_MISS, .GLB_INT_SUM, .GLB_INT_STAT] ⊆ f.regs) :
    Frame f s₀ (State.bar2Miss s) := by
  unfold State.bar2Miss
  repeat' (first
    | assumption | with_reducible apply State.count_frame | with_reducible apply State.irq_frame
    | exact hp (by decide) | exact List.Subset.trans (by decide) hp | exact hr (by decide) | exact hr (by simp)
    | exact List.Subset.trans (by decide) hr)

theorem State.startSvc_frame {n off} (h : Frame f s₀ s) (hp : [.tks, .twl, .nim] ⊆ f.parts) (hr : [.NIM_CORE_STAT, .NIM_SVC_STAT] ⊆ f.regs) :
    Frame f s₀ (State.startSvc s n off) := by
  unfold State.startSvc
  dsimp only
  repeat' (first
    | assumption | with_reducible apply State.endCtx_frame | with_reducible apply State.ready_frame
    | with_reducible apply State.setCtx_frame | with_reducible apply State.setFld_frame
    | with_reducible apply State.setSvc_frame | with_reducible apply State.showCore_frame | split
    | exact hp (by decide) | exact List.Subset.trans (by decide) hp | exact hr (by decide) | exact hr (by simp)
    | exact List.Subset.trans (by decide) hr)

theorem State.blockMoved_frame {u x} (h : Frame f s₀ s) (hp : [.tks, .twl, .nim] ⊆ f.parts) (hr : [.NIM_CORE_STAT, .NIM_SVC_STAT, .TWD_CORE_STAT, .VMP_PIPE_STAT] ⊆ f.regs) :
    Frame f s₀ (State.blockMoved s u x) := by
  unfold State.blockMoved
  try extract_lets
  repeat' (first
    | assumption | with_reducible apply State.setFld_frame | with_reducible apply State.startSvc_frame
    | with_reducible refine Frame.foldl (fun _ _ _ => ?_) _ ?_ | split | extract_lets | exact hp (by decide)
    | exact List.Subset.trans (by decide) hp | exact hr (by decide) | exact hr (by simp)
    | exact List.Subset.trans (by decide) hr)

theorem State.setInState_frame {n st} (h : Frame f s₀ s) (hr : [.ING_IN_STAT, .ING_LOSS_SUM] ⊆ f.regs) :
    Frame f s₀ (State.setInState s n st) := by
  unfold State.setInState
  repeat' (first
    | assumption | with_reducible apply State.setFld_frame | exact hr (by decide) | exact hr (by simp)
    | exact List.Subset.trans (by decide) hr)

theorem State.enterReturn_frame {n} (h : Frame f s₀ s) (hp : [.host, .sent, .awl] ⊆ f.parts) (hr : [.ING_IN_STAT, .ING_LOSS_SUM, .GLB_INT_SUM, .ING_INT_STAT, .AWL_MERGED, .AWL_STATUS, .INS_RET_STAT, .AWL_LOST, .AWL_INT_STAT] ⊆ f.regs) :
    Frame f s₀ (State.enterReturn s n) := by
  unfold State.enterReturn
  repeat' (first
    | assumption | with_reducible apply State.awlState_frame | with_reducible apply State.irq_frame
    | with_reducible apply State.setInState_frame | exact hp (by decide) | exact List.Subset.trans (by decide) hp
    | exact hr (by decide) | exact hr (by simp) | exact List.Subset.trans (by decide) hr)

theorem State.boundaryWith_frame {n f'} (h : Frame f s₀ s) (hp : [.ing, .host, .sent, .awl] ⊆ f.parts) (hr : [.ING_IN_STAT, .ING_LOSS_SUM, .GLB_INT_SUM, .ING_INT_STAT, .AWL_MERGED, .AWL_STATUS, .INS_RET_STAT, .AWL_LOST, .AWL_INT_STAT] ⊆ f.regs) :
    Frame f s₀ (State.boundaryWith s n f') := by
  unfold State.boundaryWith
  try extract_lets
  repeat' (first
    | assumption | with_reducible apply State.enterReturn_frame | with_reducible apply State.setInput_frame | split
    | extract_lets | exact hp (by decide) | exact List.Subset.trans (by decide) hp | exact hr (by decide)
    | exact hr (by simp) | exact List.Subset.trans (by decide) hr)

theorem State.noteLoss_frame {n} (h : Frame f s₀ s) (hp : [.host, .sent] ⊆ f.parts) (hr : [.GLB_INT_SUM, .ING_INT_STAT, .ING_IN_LOSSCNT] ⊆ f.regs) :
    Frame f s₀ (State.noteLoss s n) := by
  unfold State.noteLoss
  repeat' (first
    | assumption | with_reducible apply State.count_frame | with_reducible apply State.irq_frame
    | exact hp (by decide) | exact List.Subset.trans (by decide) hp | exact hr (by decide) | exact hr (by simp)
    | exact List.Subset.trans (by decide) hr)

theorem State.enterBlack_frame {n} (h : Frame f s₀ s) (hp : [.host, .sent, .ing, .awl] ⊆ f.parts) (hr : [.GLB_INT_SUM, .ING_INT_STAT, .ING_IN_LOSSCNT, .ING_IN_STAT, .ING_LOSS_SUM, .AWL_MERGED, .AWL_STATUS, .INS_RET_STAT, .AWL_LOST, .AWL_INT_STAT] ⊆ f.regs) :
    Frame f s₀ (State.enterBlack s n) := by
  unfold State.enterBlack
  dsimp only
  repeat' (first
    | assumption | with_reducible apply State.awlState_frame | with_reducible apply State.noteLoss_frame
    | with_reducible apply State.setInState_frame | with_reducible apply State.setInput_frame | split
    | exact hp (by decide) | exact List.Subset.trans (by decide) hp | exact hr (by decide) | exact hr (by simp)
    | exact List.Subset.trans (by decide) hr)

theorem State.showLast_frame {n} (h : Frame f s₀ s) (hp : [.ing] ⊆ f.parts) :
    Frame f s₀ (State.showLast s n) := by
  unfold State.showLast
  try extract_lets
  repeat' (first
    | assumption | with_reducible apply State.setInput_frame | extract_lets | exact hp (by decide)
    | exact List.Subset.trans (by decide) hp)

theorem State.setNtm_frame {x} (h : Frame f s₀ s) (hp : [.ntm] ⊆ f.parts) :
    Frame f s₀ (State.setNtm s x) := by
  unfold State.setNtm
  repeat' (first
    | assumption | with_reducible apply Frame.upd | with_reducible exact fun _ => rfl
    | exact fun n => absurd (hp (by decide)) n | exact hp (by decide) | exact List.Subset.trans (by decide) hp)

theorem State.setCap_frame {c x} (h : Frame f s₀ s) (hp : [.ntm] ⊆ f.parts) :
    Frame f s₀ (State.setCap s c x) := by
  unfold State.setCap
  repeat' (first
    | assumption | with_reducible apply State.setNtm_frame | exact hp (by decide)
    | exact List.Subset.trans (by decide) hp)

theorem State.showCap_frame {c} (h : Frame f s₀ s) (hr : [.NTM_CAP_STAT] ⊆ f.regs) :
    Frame f s₀ (State.showCap s c) := by
  unfold State.showCap
  repeat' (first
    | assumption | with_reducible apply State.setFld_frame | exact hr (by decide) | exact hr (by simp)
    | exact List.Subset.trans (by decide) hr)

theorem State.setKeep_frame {x} (h : Frame f s₀ s) (hp : [.keep] ⊆ f.parts) :
    Frame f s₀ (State.setKeep s x) := by
  unfold State.setKeep
  repeat' (first
    | assumption | with_reducible apply Frame.upd | with_reducible exact fun _ => rfl
    | exact fun n => absurd (hp (by decide)) n | exact hp (by decide) | exact List.Subset.trans (by decide) hp)

theorem State.noteWear_frame (h : Frame f s₀ s) (hp : [.keep] ⊆ f.parts) :
    Frame f s₀ (State.noteWear s) := by
  unfold State.noteWear
  try extract_lets
  repeat' (first
    | assumption | with_reducible apply State.setKeep_frame | split | extract_lets | exact hp (by decide)
    | exact List.Subset.trans (by decide) hp)

theorem State.retireSector_frame {dev sector} (h : Frame f s₀ s) (hp : [.keep, .host, .sent, .awl] ⊆ f.parts) (hr : [.SET_SECTORS, .GLB_INT_SUM, .SET_INT_STAT, .AWL_MERGED, .AWL_STATUS, .INS_RET_STAT, .AWL_LOST, .AWL_INT_STAT] ⊆ f.regs) :
    Frame f s₀ (State.retireSector s dev sector) := by
  unfold State.retireSector
  dsimp only
  repeat' (first
    | assumption | with_reducible apply State.awlPersist_frame | with_reducible apply State.irq_frame
    | with_reducible apply State.setFld_frame | with_reducible apply State.setKeep_frame | split
    | exact hp (by decide) | exact List.Subset.trans (by decide) hp | exact hr (by decide) | exact hr (by simp)
    | exact List.Subset.trans (by decide) hr)

theorem State.showWear_frame {dev} (h : Frame f s₀ s) (hr : [.RSL_FLASH_WEAR] ⊆ f.regs) :
    Frame f s₀ (State.showWear s dev) := by
  unfold State.showWear
  try extract_lets
  repeat' (first
    | assumption | with_reducible apply State.setFld_frame | extract_lets | exact hr (by decide) | exact hr (by simp)
    | exact List.Subset.trans (by decide) hr)

theorem State.eraseSector_frame {dev sector} (h : Frame f s₀ s) (hp : [.keep, .host, .sent, .awl] ⊆ f.parts) (hr : [.RSL_FLASH_WEAR, .RSL_STATUS, .AWL_MERGED, .AWL_STATUS, .INS_RET_STAT, .AWL_LOST, .GLB_INT_SUM, .AWL_INT_STAT, .RSL_INT_STAT, .SET_SECTORS, .SET_INT_STAT] ⊆ f.regs) :
    Frame f s₀ (State.eraseSector s dev sector) := by
  unfold State.eraseSector
  dsimp only
  repeat' (first
    | assumption | with_reducible apply State.ageWarn_frame | with_reducible apply State.noteWear_frame
    | with_reducible apply State.retireSector_frame | with_reducible apply State.setKeep_frame
    | with_reducible apply State.showWear_frame | split | exact hp (by decide)
    | exact List.Subset.trans (by decide) hp | exact hr (by decide) | exact hr (by simp)
    | exact List.Subset.trans (by decide) hr)

theorem State.startSnap_frame (h : Frame f s₀ s) (hp : [.keep, .host, .sent, .awl, .freeCtr] ⊆ f.parts) (hr : [.RSL_FLASH_WEAR, .RSL_STATUS, .AWL_MERGED, .AWL_STATUS, .INS_RET_STAT, .AWL_LOST, .GLB_INT_SUM, .AWL_INT_STAT, .RSL_INT_STAT, .SET_SECTORS, .SET_INT_STAT, .SET_STATUS] ⊆ f.regs) :
    Frame f s₀ (State.startSnap s) := by
  unfold State.startSnap
  try extract_lets
  repeat' (first
    | assumption | with_reducible apply State.drawFree_frame | with_reducible apply State.eraseSector_frame
    | with_reducible apply State.setFld_frame | with_reducible apply State.setKeep_frame
    | with_reducible refine Frame.foldl (fun _ _ _ => ?_) _ ?_ | extract_lets | exact hp (by decide)
    | exact List.Subset.trans (by decide) hp | exact hr (by decide) | exact hr (by simp)
    | exact List.Subset.trans (by decide) hr)

theorem State.showDeltas_frame (h : Frame f s₀ s) (hp : [.host, .sent, .keep, .awl, .freeCtr] ⊆ f.parts) (hr : [.SET_DELTA_USED, .GLB_INT_SUM, .SET_INT_STAT, .RSL_FLASH_WEAR, .RSL_STATUS, .AWL_MERGED, .AWL_STATUS, .INS_RET_STAT, .AWL_LOST, .AWL_INT_STAT, .RSL_INT_STAT, .SET_SECTORS, .SET_STATUS] ⊆ f.regs) :
    Frame f s₀ (State.showDeltas s) := by
  unfold State.showDeltas
  try extract_lets
  repeat' (first
    | assumption | with_reducible apply State.irq_frame | with_reducible apply State.setFld_frame
    | with_reducible apply State.startSnap_frame | split | extract_lets | exact hp (by decide)
    | exact List.Subset.trans (by decide) hp | exact hr (by decide) | exact hr (by simp)
    | exact List.Subset.trans (by decide) hr)

theorem State.writeDelta_frame {seq origin pairs} (h : Frame f s₀ s) (hp : [.keep, .host, .sent, .awl, .freeCtr] ⊆ f.parts) (hr : [.SET_DELTA_USED, .GLB_INT_SUM, .SET_INT_STAT, .RSL_FLASH_WEAR, .RSL_STATUS, .AWL_MERGED, .AWL_STATUS, .INS_RET_STAT, .AWL_LOST, .AWL_INT_STAT, .RSL_INT_STAT, .SET_SECTORS, .SET_STATUS] ⊆ f.regs) :
    Frame f s₀ (State.writeDelta s seq origin pairs) := by
  unfold State.writeDelta
  try extract_lets
  repeat' (first
    | assumption | with_reducible apply State.setKeep_frame | with_reducible apply State.showDeltas_frame
    | extract_lets | exact hp (by decide) | exact List.Subset.trans (by decide) hp | exact hr (by decide)
    | exact hr (by simp) | exact List.Subset.trans (by decide) hr)

theorem State.recordStore_frame {src e set pairs} (h : Frame f s₀ s) (hp : [.keep, .host, .sent, .awl, .freeCtr] ⊆ f.parts) (hr : [.SET_DELTA_USED, .GLB_INT_SUM, .SET_INT_STAT, .RSL_FLASH_WEAR, .RSL_STATUS, .AWL_MERGED, .AWL_STATUS, .INS_RET_STAT, .AWL_LOST, .AWL_INT_STAT, .RSL_INT_STAT, .SET_SECTORS, .SET_STATUS] ⊆ f.regs) :
    Frame f s₀ (State.recordStore s src e set pairs) := by
  unfold State.recordStore
  repeat' (first
    | assumption | with_reducible apply State.writeDelta_frame | split | exact hp (by decide)
    | exact List.Subset.trans (by decide) hp | exact hr (by decide) | exact hr (by simp)
    | exact List.Subset.trans (by decide) hr)

theorem State.refuse_frame {st} (h : Frame f s₀ s) (hp : [.resp] ⊆ f.parts) :
    Frame f s₀ (State.refuse s st) := by
  unfold State.refuse
  repeat' (first
    | assumption | with_reducible apply State.answer_frame | exact hp (by decide)
    | exact List.Subset.trans (by decide) hp)

theorem State.markReg_frame {r i} (h : Frame f s₀ s) (hp : [.keep] ⊆ f.parts) :
    Frame f s₀ (State.markReg s r i) := by
  unfold State.markReg
  try extract_lets
  repeat' (first
    | assumption | with_reducible apply State.setKeep_frame | extract_lets | exact hp (by decide)
    | exact List.Subset.trans (by decide) hp)

theorem State.pendTwd_frame {c r i v} (h : Frame f s₀ s) (hp : [.host, .sent, .twd, .resp] ⊆ f.parts) (hr : [.GLB_INT_SUM, .TWD_INT_STAT, .TWD_CORE_STAT] ⊆ f.regs) :
    Frame f s₀ (State.pendTwd s c r i v) := by
  unfold State.pendTwd
  try extract_lets
  repeat' (first
    | assumption | with_reducible apply State.answer_frame | with_reducible apply State.irq_frame
    | with_reducible apply State.setFlag_frame | with_reducible apply State.setTwd_frame | split | extract_lets
    | exact hp (by decide) | exact List.Subset.trans (by decide) hp | exact hr (by decide) | exact hr (by simp)
    | exact List.Subset.trans (by decide) hr)

theorem State.writeBtxFlow_frame {src b v} (h : Frame f s₀ s) (hp : [.host, .sent, .resp, .twd] ⊆ f.parts) (hr : [.GLB_INT_SUM, .GLB_INT_STAT, .GLB_PCIE_ERR, .TWD_INT_STAT, .TWD_CORE_STAT] ⊆ f.regs) :
    Frame f s₀ (State.writeBtxFlow s src b v) := by
  unfold State.writeBtxFlow
  try extract_lets
  repeat' (first
    | assumption | with_reducible apply State.guarded_frame | with_reducible apply State.pendTwd_frame
    | with_reducible apply State.refuse_frame | split | extract_lets | exact hp (by decide)
    | exact List.Subset.trans (by decide) hp | exact hr (by decide) | exact hr (by simp)
    | exact List.Subset.trans (by decide) hr)

theorem State.writeCoreAt_frame {src c v} (h : Frame f s₀ s) (hp : [.host, .sent, .resp] ⊆ f.parts) (hr : [.GLB_INT_SUM, .GLB_INT_STAT, .GLB_PCIE_ERR, .TWD_INT_STAT, .TWD_CORE_AT, .TWD_CORE_STAT] ⊆ f.regs) :
    Frame f s₀ (State.writeCoreAt s src c v) := by
  unfold State.writeCoreAt
  repeat' (first
    | assumption | with_reducible apply State.guarded_frame | with_reducible apply State.irq_frame
    | with_reducible apply State.setFlag_frame | with_reducible apply State.store_frame | split | exact hp (by decide)
    | exact List.Subset.trans (by decide) hp | exact hr (by decide) | exact hr (by simp)
    | exact List.Subset.trans (by decide) hr)

theorem State.writeExecCfg_frame {src v} (h : Frame f s₀ s) (hp : [.host, .sent, .resp] ⊆ f.parts) (hr : [.GLB_INT_SUM, .GLB_INT_STAT, .GLB_PCIE_ERR, .NIM_INT_STAT, .NIM_EXEC_CFG] ⊆ f.regs) :
    Frame f s₀ (State.writeExecCfg s src v) := by
  unfold State.writeExecCfg
  try extract_lets
  repeat' (first
    | assumption | with_reducible apply State.guarded_frame | with_reducible apply State.refuse_frame
    | with_reducible apply State.store_frame | split | extract_lets | exact hp (by decide)
    | exact List.Subset.trans (by decide) hp | exact hr (by decide) | exact hr (by simp)
    | exact List.Subset.trans (by decide) hr)

theorem State.writeFollow_frame {src n v} (h : Frame f s₀ s) (hp : [.host, .sent, .resp, .twd] ⊆ f.parts) (hr : [.GLB_INT_SUM, .GLB_INT_STAT, .GLB_PCIE_ERR, .TWD_INT_STAT, .TWD_CORE_STAT] ⊆ f.regs) :
    Frame f s₀ (State.writeFollow s src n v) := by
  unfold State.writeFollow
  try extract_lets
  repeat' (first
    | assumption | with_reducible apply State.guarded_frame | with_reducible apply State.pendTwd_frame
    | with_reducible apply State.refuse_frame | split | extract_lets | exact hp (by decide)
    | exact List.Subset.trans (by decide) hp | exact hr (by decide) | exact hr (by simp)
    | exact List.Subset.trans (by decide) hr)

theorem State.writeJrnCfg_frame {src v} (h : Frame f s₀ s) (hp : [.host, .sent, .resp] ⊆ f.parts) (hr : [.GLB_INT_SUM, .GLB_INT_STAT, .GLB_PCIE_ERR, .NIM_INT_STAT, .NIM_JRN_CFG, .NIM_JRN_FREE, .NIM_JRN_OPEN] ⊆ f.regs) :
    Frame f s₀ (State.writeJrnCfg s src v) := by
  unfold State.writeJrnCfg
  try extract_lets
  repeat' (first
    | assumption | with_reducible apply State.guarded_frame | with_reducible apply State.refuse_frame
    | with_reducible apply State.showJournal_frame | with_reducible apply State.store_frame | split | extract_lets
    | exact hp (by decide) | exact List.Subset.trans (by decide) hp | exact hr (by decide) | exact hr (by simp)
    | exact List.Subset.trans (by decide) hr)

theorem State.killPrograms_frame (h : Frame f s₀ s) (hp : [.nim, .tks, .twl] ⊆ f.parts) (hr : [.NIM_CORE_STAT, .NIM_SVC_STAT, .NIM_REPLAY] ⊆ f.regs) :
    Frame f s₀ (State.killPrograms s) := by
  unfold State.killPrograms
  try extract_lets
  repeat' (first
    | assumption | with_reducible apply State.dropCtx_frame | with_reducible apply State.setCtx_frame
    | with_reducible apply State.setFld_frame | with_reducible apply State.setSvc_frame
    | with_reducible apply State.showCore_frame | with_reducible refine Frame.foldl (fun _ _ _ => ?_) _ ?_ | split
    | with_reducible apply Frame.upd | extract_lets | with_reducible exact fun _ => rfl
    | exact fun n => absurd (hp (by decide)) n | exact hp (by decide) | exact List.Subset.trans (by decide) hp
    | exact hr (by decide) | exact hr (by simp) | exact List.Subset.trans (by decide) hr)

theorem State.setLkState_frame {k st} (h : Frame f s₀ s) (hr : [.WLT_LK_STAT] ⊆ f.regs) :
    Frame f s₀ (State.setLkState s k st) := by
  unfold State.setLkState
  repeat' (first
    | assumption | with_reducible apply State.setFld_frame | exact hr (by decide) | exact hr (by simp)
    | exact List.Subset.trans (by decide) hr)

theorem State.vmpIdle_frame (h : Frame f s₀ s) (hr : [.VMP_STATUS] ⊆ f.regs) :
    Frame f s₀ (State.vmpIdle s) := by
  unfold State.vmpIdle
  repeat' (first
    | assumption | with_reducible apply State.setFlag_frame | split | exact hr (by decide) | exact hr (by simp)
    | exact List.Subset.trans (by decide) hr)

theorem State.showCharge_frame {v} (h : Frame f s₀ s) (hr : [.VMP_PIPE_READ] ⊆ f.regs) :
    Frame f s₀ (State.showCharge s v) := by
  unfold State.showCharge
  try extract_lets
  repeat' (first
    | assumption | with_reducible apply State.setFld_frame | extract_lets | exact hr (by decide) | exact hr (by simp)
    | exact List.Subset.trans (by decide) hr)

theorem State.writePlace_frame {src k v sender} (h : Frame f s₀ s) (hp : [.host, .sent, .resp, .twd] ⊆ f.parts) (hr : [.GLB_INT_SUM, .GLB_INT_STAT, .GLB_PCIE_ERR, .TWD_INT_STAT, .TWD_CORE_STAT] ⊆ f.regs) :
    Frame f s₀ (State.writePlace s src k v sender) := by
  unfold State.writePlace
  try extract_lets
  repeat' (first
    | assumption | with_reducible apply State.guarded_frame | with_reducible apply State.pendTwd_frame
    | with_reducible apply State.refuse_frame | split | extract_lets | exact hp (by decide)
    | exact List.Subset.trans (by decide) hp | exact hr (by decide) | exact hr (by simp)
    | exact List.Subset.trans (by decide) hr)

theorem State.flushAcks_frame {q} (h : Frame f s₀ s) (hp : [.sent, .nim, .host] ⊆ f.parts) (hr : [.NIM_CQ_TAIL] ⊆ f.regs) :
    Frame f s₀ (State.flushAcks s q) := by
  unfold State.flushAcks
  try extract_lets
  repeat' (first
    | assumption | with_reducible apply State.writeCq_frame | with_reducible refine Frame.foldl (fun _ _ _ => ?_) _ ?_
    | with_reducible apply Frame.upd | extract_lets | with_reducible exact fun _ => rfl
    | exact fun n => absurd (hp (by decide)) n | exact hp (by decide) | exact List.Subset.trans (by decide) hp
    | exact hr (by decide) | exact hr (by simp) | exact List.Subset.trans (by decide) hr)

theorem State.writeSqTail_frame {src q v} (h : Frame f s₀ s) (hp : [.host, .sent, .resp] ⊆ f.parts) (hr : [.GLB_INT_SUM, .GLB_INT_STAT, .GLB_PCIE_ERR, .NIM_INT_STAT, .NIM_SQ_TAIL, .NIM_Q_STAT] ⊆ f.regs) :
    Frame f s₀ (State.writeSqTail s src q v) := by
  unfold State.writeSqTail
  repeat' (first
    | assumption | with_reducible apply State.guarded_frame | with_reducible apply State.showQueue_frame
    | with_reducible apply State.store_frame | exact hp (by decide) | exact List.Subset.trans (by decide) hp
    | exact hr (by decide) | exact hr (by simp) | exact List.Subset.trans (by decide) hr)

theorem State.writeSurfCfg_frame {src m w} (h : Frame f s₀ s) (hp : [.host, .sent, .resp] ⊆ f.parts) (hr : [.GLB_INT_SUM, .GLB_INT_STAT, .GLB_PCIE_ERR, .VMP_INT_STAT, .VMP_SURF_CFG] ⊆ f.regs) :
    Frame f s₀ (State.writeSurfCfg s src m w) := by
  unfold State.writeSurfCfg
  try extract_lets
  repeat' (first
    | assumption | with_reducible apply State.guarded_frame | with_reducible apply State.refuse_frame
    | with_reducible apply State.store_frame | split | extract_lets | exact hp (by decide)
    | exact List.Subset.trans (by decide) hp | exact hr (by decide) | exact hr (by simp)
    | exact List.Subset.trans (by decide) hr)

theorem State.writeSurfGen_frame {src m w} (h : Frame f s₀ s) (hp : [.host, .sent, .resp, .vmp] ⊆ f.parts) (hr : [.GLB_INT_SUM, .GLB_INT_STAT, .GLB_PCIE_ERR, .VMP_INT_STAT] ⊆ f.regs) :
    Frame f s₀ (State.writeSurfGen s src m w) := by
  unfold State.writeSurfGen
  try extract_lets
  repeat' (first
    | assumption | with_reducible apply State.answer_frame | with_reducible apply State.guarded_frame
    | with_reducible apply Frame.upd | extract_lets | with_reducible exact fun _ => rfl
    | exact fun n => absurd (hp (by decide)) n | exact hp (by decide) | exact List.Subset.trans (by decide) hp
    | exact hr (by decide) | exact hr (by simp) | exact List.Subset.trans (by decide) hr)

theorem State.writeSvcCfg_frame {src n v} (h : Frame f s₀ s) (hp : [.host, .sent, .resp] ⊆ f.parts) (hr : [.GLB_INT_SUM, .GLB_INT_STAT, .GLB_PCIE_ERR, .NIM_INT_STAT, .NIM_SVC_CFG] ⊆ f.regs) :
    Frame f s₀ (State.writeSvcCfg s src n v) := by
  unfold State.writeSvcCfg
  try extract_lets
  repeat' (first
    | assumption | with_reducible apply State.guarded_frame | with_reducible apply State.refuse_frame
    | with_reducible apply State.store_frame | split | extract_lets | exact hp (by decide)
    | exact List.Subset.trans (by decide) hp | exact hr (by decide) | exact hr (by simp)
    | exact List.Subset.trans (by decide) hr)

theorem State.twdIdle_frame (h : Frame f s₀ s) (hr : [.TWD_STATUS] ⊆ f.regs) :
    Frame f s₀ (State.twdIdle s) := by
  unfold State.twdIdle
  repeat' (first
    | assumption | with_reducible apply State.setFlag_frame | split | exact hr (by decide) | exact hr (by simp)
    | exact List.Subset.trans (by decide) hr)

theorem State.writeAflOff_frame {src a v} (h : Frame f s₀ s) (hp : [.host, .sent, .resp] ⊆ f.parts) (hr : [.GLB_INT_SUM, .GLB_INT_STAT, .GLB_PCIE_ERR, .ING_INT_STAT, .ING_AFL_OFF] ⊆ f.regs) :
    Frame f s₀ (State.writeAflOff s src a v) := by
  unfold State.writeAflOff
  try extract_lets
  repeat' (first
    | assumption | with_reducible apply State.guarded_frame | with_reducible apply State.refuse_frame
    | with_reducible apply State.store_frame | split | extract_lets | exact hp (by decide)
    | exact List.Subset.trans (by decide) hp | exact hr (by decide) | exact hr (by simp)
    | exact List.Subset.trans (by decide) hr)

theorem State.writeAnf_frame {src a v} (h : Frame f s₀ s) (hp : [.host, .sent, .resp] ⊆ f.parts) (hr : [.GLB_INT_SUM, .GLB_INT_STAT, .GLB_PCIE_ERR, .ING_INT_STAT, .ING_ANF_CFG] ⊆ f.regs) :
    Frame f s₀ (State.writeAnf s src a v) := by
  unfold State.writeAnf
  try extract_lets
  repeat' (first
    | assumption | with_reducible apply State.guarded_frame | with_reducible apply State.refuse_frame
    | with_reducible apply State.store_frame | split | extract_lets | exact hp (by decide)
    | exact List.Subset.trans (by decide) hp | exact hr (by decide) | exact hr (by simp)
    | exact List.Subset.trans (by decide) hr)

theorem State.runSender_frame {k i rate} (h : Frame f s₀ s) (hp : [.egr] ⊆ f.parts) (hr : [.EGR_VSND_STAT] ⊆ f.regs) :
    Frame f s₀ (State.runSender s k i rate) := by
  unfold State.runSender
  try extract_lets
  repeat' (first
    | assumption | with_reducible apply State.setFlag_frame | with_reducible apply State.setSender_frame | split
    | extract_lets | exact hp (by decide) | exact List.Subset.trans (by decide) hp | exact hr (by decide)
    | exact hr (by simp) | exact List.Subset.trans (by decide) hr)

theorem State.stopSender_frame {k i} (h : Frame f s₀ s) (hp : [.egr] ⊆ f.parts) :
    Frame f s₀ (State.stopSender s k i) := by
  unfold State.stopSender
  repeat' (first
    | assumption | with_reducible apply State.setSender_frame | exact hp (by decide)
    | exact List.Subset.trans (by decide) hp)

theorem State.writeCalLimit_frame {src v} (h : Frame f s₀ s) (hp : [.host, .sent, .resp] ⊆ f.parts) (hr : [.GLB_INT_SUM, .GLB_INT_STAT, .GLB_PCIE_ERR, .TWL_INT_STAT, .TWL_CAL_LIMIT] ⊆ f.regs) :
    Frame f s₀ (State.writeCalLimit s src v) := by
  unfold State.writeCalLimit
  try extract_lets
  repeat' (first
    | assumption | with_reducible apply State.guarded_frame | with_reducible apply State.refuse_frame
    | with_reducible apply State.store_frame | split | extract_lets | exact hp (by decide)
    | exact List.Subset.trans (by decide) hp | exact hr (by decide) | exact hr (by simp)
    | exact List.Subset.trans (by decide) hr)

theorem State.dirResult_frame {who st} (h : Frame f s₀ s) (hp : [.resp, .nim] ⊆ f.parts) (hr : [.TWL_DIR_RESULT] ⊆ f.regs) :
    Frame f s₀ (State.dirResult s who st) := by
  unfold State.dirResult
  repeat' (first
    | assumption | with_reducible apply State.answer_frame | with_reducible apply Frame.setReg
    | with_reducible apply State.sigReturn_frame | split | exact hp (by decide)
    | exact List.Subset.trans (by decide) hp | exact hr (by decide) | exact hr (by simp)
    | exact List.Subset.trans (by decide) hr)

theorem State.dirFetch_frame (h : Frame f s₀ s) (hp : [.resp, .nim] ⊆ f.parts) (hr : [.TWL_DIR_DATA, .TWL_DIR_RESULT] ⊆ f.regs) :
    Frame f s₀ (State.dirFetch s) := by
  unfold State.dirFetch
  try extract_lets
  repeat' (first
    | assumption | with_reducible apply State.dirResult_frame | with_reducible apply Frame.setReg
    | with_reducible refine Frame.foldl (fun _ _ _ => ?_) _ ?_ | extract_lets | exact hp (by decide)
    | exact List.Subset.trans (by decide) hp | exact hr (by decide) | exact hr (by simp)
    | exact List.Subset.trans (by decide) hr)

theorem State.showPending_frame {n} (h : Frame f s₀ s) (hr : [.EGR_OUT_TAKE] ⊆ f.regs) :
    Frame f s₀ (State.showPending s n) := by
  unfold State.showPending
  repeat' (first
    | assumption | with_reducible apply State.setFld_frame | exact hr (by decide) | exact hr (by simp)
    | exact List.Subset.trans (by decide) hr)

theorem State.dropTake_frame {t'} (h : Frame f s₀ s) (hp : [.tks] ⊆ f.parts) (hr : [.EGR_OUT_TAKE] ⊆ f.regs) :
    Frame f s₀ (State.dropTake s t') := by
  unfold State.dropTake
  repeat' (first
    | assumption | with_reducible apply State.setTakes_frame | with_reducible apply State.showPending_frame
    | exact hp (by decide) | exact List.Subset.trans (by decide) hp | exact hr (by decide) | exact hr (by simp)
    | exact List.Subset.trans (by decide) hr)

theorem State.memberRefused_frame {k sig pos st} (h : Frame f s₀ s) (hp : [.tks, .nim, .resp, .host, .sent] ⊆ f.parts) (hr : [.NIM_JRN_FREE, .NIM_JRN_OPEN, .GLB_INT_SUM, .NIM_INT_STAT] ⊆ f.regs) :
    Frame f s₀ (State.memberRefused s k sig pos st) := by
  unfold State.memberRefused
  repeat' (first
    | assumption | with_reducible apply State.account_frame | exact hp (by decide)
    | exact List.Subset.trans (by decide) hp | exact hr (by decide) | exact hr (by simp)
    | exact List.Subset.trans (by decide) hr)

theorem State.dropRecord_frame (h : Frame f s₀ s) (hp : [.host, .sent] ⊆ f.parts) (hr : [.NIM_CQ_LOST, .GLB_INT_SUM, .NIM_INT_STAT] ⊆ f.regs) :
    Frame f s₀ (State.dropRecord s) := by
  unfold State.dropRecord
  repeat' (first
    | assumption | with_reducible apply State.count_frame | with_reducible apply State.irq_frame
    | exact hp (by decide) | exact List.Subset.trans (by decide) hp | exact hr (by decide) | exact hr (by simp)
    | exact List.Subset.trans (by decide) hr)

theorem State.postRecord_frame {q r} (h : Frame f s₀ s) (hp : [.nim, .sent, .host] ⊆ f.parts) (hr : [.NIM_CQ_TAIL, .NIM_CQ_LOST, .GLB_INT_SUM, .NIM_INT_STAT] ⊆ f.regs) :
    Frame f s₀ (State.postRecord s q r) := by
  unfold State.postRecord
  repeat' (first
    | assumption | with_reducible apply State.dropRecord_frame | with_reducible apply State.writeCq_frame | split
    | with_reducible apply Frame.upd | with_reducible exact fun _ => rfl | exact fun n => absurd (hp (by decide)) n
    | exact hp (by decide) | exact List.Subset.trans (by decide) hp | exact hr (by decide) | exact hr (by simp)
    | exact List.Subset.trans (by decide) hr)

theorem State.writeHealthCfg_frame {src v} (h : Frame f s₀ s) (hp : [.host, .sent, .resp] ⊆ f.parts) (hr : [.GLB_INT_SUM, .GLB_INT_STAT, .GLB_PCIE_ERR, .EGR_INT_STAT, .EGR_HEALTH_CFG] ⊆ f.regs) :
    Frame f s₀ (State.writeHealthCfg s src v) := by
  unfold State.writeHealthCfg
  repeat' (first
    | assumption | with_reducible apply State.guarded_frame | with_reducible apply State.refuse_frame
    | with_reducible apply State.store_frame | split | exact hp (by decide) | exact List.Subset.trans (by decide) hp
    | exact hr (by decide) | exact hr (by simp) | exact List.Subset.trans (by decide) hr)

theorem State.loseInput_frame {n reason} (h : Frame f s₀ s) (hp : [.ing, .host, .sent, .awl] ⊆ f.parts) (hr : [.ING_IN_STAT, .GLB_INT_SUM, .ING_INT_STAT, .ING_IN_LOSSCNT, .ING_LOSS_SUM, .AWL_MERGED, .AWL_STATUS, .INS_RET_STAT, .AWL_LOST, .AWL_INT_STAT] ⊆ f.regs) :
    Frame f s₀ (State.loseInput s n reason) := by
  unfold State.loseInput
  try extract_lets
  repeat' (first
    | assumption | with_reducible apply State.enterBlack_frame | with_reducible apply State.setFld_frame
    | with_reducible apply State.setInput_frame | split | extract_lets | exact hp (by decide)
    | exact List.Subset.trans (by decide) hp | exact hr (by decide) | exact hr (by simp)
    | exact List.Subset.trans (by decide) hr)

theorem State.report_frame {j leave older} (h : Frame f s₀ s) (hp : [.sent] ⊆ f.parts) (hr : [.EGR_JOIN_REP] ⊆ f.regs) :
    Frame f s₀ (State.report s j leave older) := by
  unfold State.report
  repeat' (first
    | assumption | with_reducible apply State.count_frame | with_reducible apply State.emit_frame
    | exact hp (by decide) | exact List.Subset.trans (by decide) hp | exact hr (by decide) | exact hr (by simp)
    | exact List.Subset.trans (by decide) hr)

theorem State.setJoin_frame {j x} (h : Frame f s₀ s) (hp : [.egr] ⊆ f.parts) :
    Frame f s₀ (State.setJoin s j x) := by
  unfold State.setJoin
  repeat' (first
    | assumption | with_reducible apply Frame.upd | with_reducible exact fun _ => rfl
    | exact fun n => absurd (hp (by decide)) n | exact hp (by decide) | exact List.Subset.trans (by decide) hp)

theorem State.changeReport_frame {j st leave} (h : Frame f s₀ s) (hp : [.sent, .egr] ⊆ f.parts) (hr : [.EGR_JOIN_REP, .EGR_JOIN_STAT] ⊆ f.regs) :
    Frame f s₀ (State.changeReport s j st leave) := by
  unfold State.changeReport
  try extract_lets
  repeat' (first
    | assumption | with_reducible apply State.report_frame | with_reducible apply State.setFld_frame
    | with_reducible apply State.setJoin_frame | extract_lets | exact hp (by decide)
    | exact List.Subset.trans (by decide) hp | exact hr (by decide) | exact hr (by simp)
    | exact List.Subset.trans (by decide) hr)

theorem State.leaveJoin_frame {j} (h : Frame f s₀ s) (hp : [.egr, .sent] ⊆ f.parts) (hr : [.EGR_JOIN_STAT, .EGR_JOIN_REP] ⊆ f.regs) :
    Frame f s₀ (State.leaveJoin s j) := by
  unfold State.leaveJoin
  repeat' (first
    | assumption | with_reducible apply State.changeReport_frame | with_reducible apply State.setFld_frame
    | with_reducible apply State.setJoin_frame | split | exact hp (by decide) | exact List.Subset.trans (by decide) hp
    | exact hr (by decide) | exact hr (by simp) | exact List.Subset.trans (by decide) hr)

theorem State.writeJoin_frame {src j v} (h : Frame f s₀ s) (hp : [.host, .sent, .egr, .resp] ⊆ f.parts) (hr : [.GLB_INT_SUM, .GLB_INT_STAT, .GLB_PCIE_ERR, .EGR_INT_STAT, .EGR_JOIN_STAT, .EGR_JOIN_REP, .EGR_JOIN_ENT] ⊆ f.regs) :
    Frame f s₀ (State.writeJoin s src j v) := by
  unfold State.writeJoin
  try extract_lets
  repeat' (first
    | assumption | with_reducible apply State.answer_frame | with_reducible apply State.changeReport_frame
    | with_reducible apply State.guarded_frame | with_reducible apply State.leaveJoin_frame
    | with_reducible apply State.refuse_frame | with_reducible apply State.store_frame | split | extract_lets
    | exact hp (by decide) | exact List.Subset.trans (by decide) hp | exact hr (by decide) | exact hr (by simp)
    | exact List.Subset.trans (by decide) hr)

theorem State.writeLkLimit_frame {src v} (h : Frame f s₀ s) (hp : [.host, .sent, .resp] ⊆ f.parts) (hr : [.GLB_INT_SUM, .GLB_INT_STAT, .GLB_PCIE_ERR, .TWL_INT_STAT, .TWL_LK_LIMIT] ⊆ f.regs) :
    Frame f s₀ (State.writeLkLimit s src v) := by
  unfold State.writeLkLimit
  try extract_lets
  repeat' (first
    | assumption | with_reducible apply State.guarded_frame | with_reducible apply State.refuse_frame
    | with_reducible apply State.store_frame | split | extract_lets | exact hp (by decide)
    | exact List.Subset.trans (by decide) hp | exact hr (by decide) | exact hr (by simp)
    | exact List.Subset.trans (by decide) hr)

theorem State.setOtd_frame {d x} (h : Frame f s₀ s) (hp : [.egr] ⊆ f.parts) :
    Frame f s₀ (State.setOtd s d x) := by
  unfold State.setOtd
  repeat' (first
    | assumption | with_reducible apply Frame.upd | with_reducible exact fun _ => rfl
    | exact fun n => absurd (hp (by decide)) n | exact hp (by decide) | exact List.Subset.trans (by decide) hp)

theorem State.writePat_frame {src p v} (h : Frame f s₀ s) (hp : [.host, .sent, .resp] ⊆ f.parts) (hr : [.GLB_INT_SUM, .GLB_INT_STAT, .GLB_PCIE_ERR, .EGR_INT_STAT, .EGR_PAT_CFG] ⊆ f.regs) :
    Frame f s₀ (State.writePat s src p v) := by
  unfold State.writePat
  try extract_lets
  repeat' (first
    | assumption | with_reducible apply State.guarded_frame | with_reducible apply State.refuse_frame
    | with_reducible apply State.store_frame | split | extract_lets | exact hp (by decide)
    | exact List.Subset.trans (by decide) hp | exact hr (by decide) | exact hr (by simp)
    | exact List.Subset.trans (by decide) hr)

theorem State.writePktVid_frame {src m v} (h : Frame f s₀ s) (hp : [.host, .sent, .resp, .ing] ⊆ f.parts) (hr : [.GLB_INT_SUM, .GLB_INT_STAT, .GLB_PCIE_ERR, .ING_INT_STAT, .ING_PKT_VID] ⊆ f.regs) :
    Frame f s₀ (State.writePktVid s src m v) := by
  unfold State.writePktVid
  try extract_lets
  repeat' (first
    | assumption | with_reducible apply State.guarded_frame | with_reducible apply State.refuse_frame
    | with_reducible apply State.setInput_frame | with_reducible apply State.store_frame | split | extract_lets
    | exact hp (by decide) | exact List.Subset.trans (by decide) hp | exact hr (by decide) | exact hr (by simp)
    | exact List.Subset.trans (by decide) hr)

theorem State.writePool_frame {src v} (h : Frame f s₀ s) (hp : [.host, .sent, .resp] ⊆ f.parts) (hr : [.GLB_INT_SUM, .GLB_INT_STAT, .GLB_PCIE_ERR, .ING_INT_STAT, .ING_POOL_PAGES] ⊆ f.regs) :
    Frame f s₀ (State.writePool s src v) := by
  unfold State.writePool
  try extract_lets
  repeat' (first
    | assumption | with_reducible apply State.guarded_frame | with_reducible apply State.irq_frame
    | with_reducible apply State.refuse_frame | with_reducible apply State.store_frame | split | extract_lets
    | exact hp (by decide) | exact List.Subset.trans (by decide) hp | exact hr (by decide) | exact hr (by simp)
    | exact List.Subset.trans (by decide) hr)

theorem State.refuseSwap_frame {st} (h : Frame f s₀ s) (hp : [.resp] ⊆ f.parts) (hr : [.TWL_SWAP_STAT] ⊆ f.regs) :
    Frame f s₀ (State.refuseSwap s st) := by
  unfold State.refuseSwap
  repeat' (first
    | assumption | with_reducible apply State.answer_frame | with_reducible apply State.setFld_frame
    | exact hp (by decide) | exact List.Subset.trans (by decide) hp | exact hr (by decide) | exact hr (by simp)
    | exact List.Subset.trans (by decide) hr)

theorem State.mapPorts_frame {f'} (h : Frame f s₀ s) (hp : [.twl] ⊆ f.parts) :
    Frame f s₀ (State.mapPorts s f') := by
  unfold State.mapPorts
  repeat' (first
    | assumption | with_reducible apply Frame.upd | with_reducible exact fun _ => rfl
    | exact fun n => absurd (hp (by decide)) n | exact hp (by decide) | exact List.Subset.trans (by decide) hp)

theorem State.twillStop_frame (h : Frame f s₀ s) (hp : [.twl] ⊆ f.parts) (hr : [.TWL_STATUS] ⊆ f.regs) :
    Frame f s₀ (State.twillStop s) := by
  unfold State.twillStop
  try extract_lets
  repeat' (first
    | assumption | with_reducible apply State.mapPorts_frame | with_reducible apply State.setFlag_frame | extract_lets
    | exact hp (by decide) | exact List.Subset.trans (by decide) hp | exact hr (by decide) | exact hr (by simp)
    | exact List.Subset.trans (by decide) hr)

theorem State.writeTwlCtrl_frame {src v inFlight} (h : Frame f s₀ s) (hp : [.host, .sent, .resp, .twl] ⊆ f.parts) (hr : [.GLB_INT_SUM, .GLB_INT_STAT, .GLB_PCIE_ERR, .TWL_INT_STAT, .TWL_CTRL, .TWL_STATUS, .TWL_KILLED] ⊆ f.regs) :
    Frame f s₀ (State.writeTwlCtrl s src v inFlight) := by
  unfold State.writeTwlCtrl
  try extract_lets
  repeat' (first
    | assumption | with_reducible apply State.count_frame | with_reducible apply State.guarded_frame
    | with_reducible apply State.setFlag_frame | with_reducible apply State.store_frame
    | with_reducible apply State.twillStop_frame | split | extract_lets | exact hp (by decide)
    | exact List.Subset.trans (by decide) hp | exact hr (by decide) | exact hr (by simp)
    | exact List.Subset.trans (by decide) hr)

theorem State.writeXsndCfg_frame {src i w} (h : Frame f s₀ s) (hp : [.host, .sent, .resp, .egr] ⊆ f.parts) (hr : [.GLB_INT_SUM, .GLB_INT_STAT, .GLB_PCIE_ERR, .EGR_INT_STAT, .EGR_XSND_CFG, .EGR_VSND_STAT] ⊆ f.regs) :
    Frame f s₀ (State.writeXsndCfg s src i w) := by
  unfold State.writeXsndCfg
  try extract_lets
  repeat' (first
    | assumption | with_reducible apply State.guarded_frame | with_reducible apply State.refuse_frame
    | with_reducible apply State.runSender_frame | with_reducible apply State.stopSender_frame
    | with_reducible apply State.store_frame | split | extract_lets | exact hp (by decide)
    | exact List.Subset.trans (by decide) hp | exact hr (by decide) | exact hr (by simp)
    | exact List.Subset.trans (by decide) hr)

theorem State.clearAlert_frame {v} (h : Frame f s₀ s) (hp : [.host, .sent, .resp] ⊆ f.parts) (hr : [.GLB_ALERT_STAT, .GLB_INT_SUM, .GLB_INT_STAT] ⊆ f.regs) :
    Frame f s₀ (State.clearAlert s v) := by
  unfold State.clearAlert
  try extract_lets
  repeat' (first
    | assumption | with_reducible apply State.answer_frame | with_reducible apply State.refreshAlert_frame
    | with_reducible apply State.setFld_frame | with_reducible apply Frame.setReg
    | with_reducible refine Frame.foldl (fun _ _ _ => ?_) _ ?_ | split | extract_lets | exact hp (by decide)
    | exact List.Subset.trans (by decide) hp | exact hr (by decide) | exact hr (by simp)
    | exact List.Subset.trans (by decide) hr)

theorem State.writeAwlCfg_frame {src v} (h : Frame f s₀ s) (hp : [.host, .sent, .resp] ⊆ f.parts) (hr : [.GLB_INT_SUM, .GLB_INT_STAT, .GLB_PCIE_ERR, .AWL_INT_STAT, .AWL_CFG] ⊆ f.regs) :
    Frame f s₀ (State.writeAwlCfg s src v) := by
  unfold State.writeAwlCfg
  try extract_lets
  repeat' (first
    | assumption | with_reducible apply State.guarded_frame | with_reducible apply State.refuse_frame
    | with_reducible apply State.store_frame | split | extract_lets | exact hp (by decide)
    | exact List.Subset.trans (by decide) hp | exact hr (by decide) | exact hr (by simp)
    | exact List.Subset.trans (by decide) hr)

theorem State.setAwl_frame {x} (h : Frame f s₀ s) (hp : [.awl] ⊆ f.parts) :
    Frame f s₀ (State.setAwl s x) := by
  unfold State.setAwl
  repeat' (first
    | assumption | with_reducible apply Frame.upd | with_reducible exact fun _ => rfl
    | exact fun n => absurd (hp (by decide)) n | exact hp (by decide) | exact List.Subset.trans (by decide) hp)

theorem State.setFrozen_frame {b} (h : Frame f s₀ s) (hr : [.AWL_CTRL, .AWL_STATUS] ⊆ f.regs) :
    Frame f s₀ (State.setFrozen s b) := by
  unfold State.setFrozen
  repeat' (first
    | assumption | with_reducible apply State.setFlag_frame | exact hr (by decide) | exact hr (by simp)
    | exact List.Subset.trans (by decide) hr)

theorem State.writeAwlCtrl_frame {src v} (h : Frame f s₀ s) (hp : [.host, .sent, .resp, .awl] ⊆ f.parts) (hr : [.GLB_INT_SUM, .GLB_INT_STAT, .GLB_PCIE_ERR, .AWL_INT_STAT, .AWL_CTRL, .AWL_STATUS] ⊆ f.regs) :
    Frame f s₀ (State.writeAwlCtrl s src v) := by
  unfold State.writeAwlCtrl
  try extract_lets
  repeat' (first
    | assumption | with_reducible apply State.answer_frame | with_reducible apply State.guarded_frame
    | with_reducible apply State.setAwl_frame | with_reducible apply State.setFrozen_frame | split | extract_lets
    | exact hp (by decide) | exact List.Subset.trans (by decide) hp | exact hr (by decide) | exact hr (by simp)
    | exact List.Subset.trans (by decide) hr)

theorem State.setClk_frame {d c} (h : Frame f s₀ s) (hp : [.boot] ⊆ f.parts) :
    Frame f s₀ (State.setClk s d c) := by
  unfold State.setClk
  repeat' (first
    | assumption | with_reducible apply Frame.upd | with_reducible exact fun _ => rfl
    | exact fun n => absurd (hp (by decide)) n | exact hp (by decide) | exact List.Subset.trans (by decide) hp)

theorem State.serveClk_frame {d} (h : Frame f s₀ s) (hp : [.boot] ⊆ f.parts) (hr : [.INS_PLL_STARTS] ⊆ f.regs) :
    Frame f s₀ (State.serveClk s d) := by
  unfold State.serveClk
  repeat' (first
    | assumption | with_reducible apply State.count_frame | with_reducible apply State.setClk_frame | split
    | exact hp (by decide) | exact List.Subset.trans (by decide) hp | exact hr (by decide) | exact hr (by simp)
    | exact List.Subset.trans (by decide) hr)

theorem State.showAwl_frame (h : Frame f s₀ s) (hr : [.AWL_COUNT, .AWL_OLDEST] ⊆ f.regs) :
    Frame f s₀ (State.showAwl s) := by
  unfold State.showAwl
  try extract_lets
  repeat' (first
    | assumption | with_reducible apply State.setFld_frame | with_reducible apply Frame.setReg | extract_lets
    | exact hr (by decide) | exact hr (by simp) | exact List.Subset.trans (by decide) hr)

theorem State.goResult_frame {st} (h : Frame f s₀ s) (hp : [.resp, .freeCtr] ⊆ f.parts) (hr : [.AWL_CLR_RESULT, .AWL_CLR_NONCE] ⊆ f.regs) :
    Frame f s₀ (State.goResult s st) := by
  unfold State.goResult
  try extract_lets
  repeat' (first
    | assumption | with_reducible apply State.answer_frame | with_reducible apply State.drawFree_frame
    | with_reducible apply State.setFld_frame | with_reducible apply Frame.setReg | extract_lets
    | exact hp (by decide) | exact List.Subset.trans (by decide) hp | exact hr (by decide) | exact hr (by simp)
    | exact List.Subset.trans (by decide) hr)

theorem State.stopWork_frame (h : Frame f s₀ s) (hp : [.tks, .twl, .nim] ⊆ f.parts) (hr : [.NIM_CORE_STAT] ⊆ f.regs) :
    Frame f s₀ (State.stopWork s) := by
  unfold State.stopWork
  repeat' (first
    | assumption | with_reducible apply State.endCtx_frame | with_reducible refine Frame.foldl (fun _ _ _ => ?_) _ ?_
    | exact hp (by decide) | exact List.Subset.trans (by decide) hp | exact hr (by decide) | exact hr (by simp)
    | exact List.Subset.trans (by decide) hr)

theorem State.writeKick_frame {src _v} (h : Frame f s₀ s) (hp : [.resp] ⊆ f.parts) :
    Frame f s₀ (State.writeKick s src _v) := by
  unfold State.writeKick
  repeat' (first
    | assumption | with_reducible apply State.answer_frame | split | exact hp (by decide)
    | exact List.Subset.trans (by decide) hp)

theorem State.writeRdIdx_frame {src v} (h : Frame f s₀ s) (hp : [.host, .sent, .resp, .awl] ⊆ f.parts) (hr : [.GLB_INT_SUM, .GLB_INT_STAT, .GLB_PCIE_ERR, .AWL_INT_STAT, .AWL_RD_STAT, .AWL_RD_IDX] ⊆ f.regs) :
    Frame f s₀ (State.writeRdIdx s src v) := by
  unfold State.writeRdIdx
  repeat' (first
    | assumption | with_reducible apply State.guarded_frame | with_reducible apply State.refuse_frame
    | with_reducible apply State.setAwl_frame | with_reducible apply Frame.setReg
    | with_reducible apply State.store_frame | split | exact hp (by decide) | exact List.Subset.trans (by decide) hp
    | exact hr (by decide) | exact hr (by simp) | exact List.Subset.trans (by decide) hr)

theorem State.writeRole_frame {src v} (h : Frame f s₀ s) (hp : [.host, .sent, .resp] ⊆ f.parts) (hr : [.GLB_INT_SUM, .GLB_INT_STAT, .GLB_PCIE_ERR, .GLB_ROLE] ⊆ f.regs) :
    Frame f s₀ (State.writeRole s src v) := by
  unfold State.writeRole
  try extract_lets
  repeat' (first
    | assumption | with_reducible apply State.answer_frame | with_reducible apply State.discardHost_frame
    | with_reducible apply State.refuse_frame | with_reducible apply State.store_frame | split | extract_lets
    | exact hp (by decide) | exact List.Subset.trans (by decide) hp | exact hr (by decide) | exact hr (by simp)
    | exact List.Subset.trans (by decide) hr)

theorem State.writeRsl_frame {src r i v} (h : Frame f s₀ s) (hp : [.host, .sent, .resp] ⊆ f.parts) (hc : r.shutRegs ⊆ f.regs) (hm : r ∈ f.regs) :
    Frame f s₀ (State.writeRsl s src r i v) := by
  unfold State.writeRsl
  repeat' (first
    | assumption | with_reducible apply State.guarded_frame | with_reducible apply State.refuse_frame
    | with_reducible apply State.store_frame | split | exact hp (by decide) | exact List.Subset.trans (by decide) hp)

theorem State.writeSetCfg_frame {src v} (h : Frame f s₀ s) (hp : [.host, .sent, .resp] ⊆ f.parts) (hr : [.GLB_INT_SUM, .GLB_INT_STAT, .GLB_PCIE_ERR, .SET_INT_STAT, .SET_CFG] ⊆ f.regs) :
    Frame f s₀ (State.writeSetCfg s src v) := by
  unfold State.writeSetCfg
  repeat' (first
    | assumption | with_reducible apply State.guarded_frame | with_reducible apply State.refuse_frame
    | with_reducible apply State.store_frame | split | exact hp (by decide) | exact List.Subset.trans (by decide) hp
    | exact hr (by decide) | exact hr (by simp) | exact List.Subset.trans (by decide) hr)

theorem State.snapResult_frame {st} (h : Frame f s₀ s) (hr : [.SET_SNAP_RESULT] ⊆ f.regs) :
    Frame f s₀ (State.snapResult s st) := by
  unfold State.snapResult
  repeat' (first
    | assumption | with_reducible apply State.setFld_frame | exact hr (by decide) | exact hr (by simp)
    | exact List.Subset.trans (by decide) hr)

theorem State.writeSetCtrl_frame {src v} (h : Frame f s₀ s) (hp : [.host, .sent, .resp, .keep, .awl, .freeCtr] ⊆ f.parts) (hr : [.GLB_INT_SUM, .GLB_INT_STAT, .GLB_PCIE_ERR, .SET_INT_STAT, .SET_SNAP_RESULT, .SET_DEMAND_LEFT, .RSL_FLASH_WEAR, .RSL_STATUS, .AWL_MERGED, .AWL_STATUS, .INS_RET_STAT, .AWL_LOST, .AWL_INT_STAT, .RSL_INT_STAT, .SET_SECTORS, .SET_STATUS] ⊆ f.regs) :
    Frame f s₀ (State.writeSetCtrl s src v) := by
  unfold State.writeSetCtrl
  try extract_lets
  repeat' (first
    | assumption | with_reducible apply State.answer_frame | with_reducible apply State.guarded_frame
    | with_reducible apply State.setFld_frame | with_reducible apply State.snapResult_frame
    | with_reducible apply State.startSnap_frame | split | extract_lets | exact hp (by decide)
    | exact List.Subset.trans (by decide) hp | exact hr (by decide) | exact hr (by simp)
    | exact List.Subset.trans (by decide) hr)

theorem State.setRsl_frame {x} (h : Frame f s₀ s) (hp : [.rsl] ⊆ f.parts) :
    Frame f s₀ (State.setRsl s x) := by
  unfold State.setRsl
  repeat' (first
    | assumption | with_reducible apply Frame.upd | with_reducible exact fun _ => rfl
    | exact fun n => absurd (hp (by decide)) n | exact hp (by decide) | exact List.Subset.trans (by decide) hp)

theorem State.sendClaim_frame {id} (h : Frame f s₀ s) (hp : [.rsl, .sent] ⊆ f.parts) (hr : [.RSL_SPARE_STAT] ⊆ f.regs) :
    Frame f s₀ (State.sendClaim s id) := by
  unfold State.sendClaim
  try extract_lets
  repeat' (first
    | assumption | with_reducible apply State.emit_frame | with_reducible apply State.setFld_frame
    | with_reducible apply State.setRsl_frame | extract_lets | exact hp (by decide)
    | exact List.Subset.trans (by decide) hp | exact hr (by decide) | exact hr (by simp)
    | exact List.Subset.trans (by decide) hr)

theorem State.unitStatus_frame {u st} (h : Frame f s₀ s) (hr : [.RSL_UNIT_STAT] ⊆ f.regs) :
    Frame f s₀ (State.unitStatus s u st) := by
  unfold State.unitStatus
  repeat' (first
    | assumption | with_reducible apply State.setFld_frame | exact hr (by decide) | exact hr (by simp)
    | exact List.Subset.trans (by decide) hr)

theorem State.startRetest_frame {u} (h : Frame f s₀ s) (hr : [.RSL_UNIT_STAT, .RSL_PHYS_STAT] ⊆ f.regs) :
    Frame f s₀ (State.startRetest s u) := by
  unfold State.startRetest
  try extract_lets
  repeat' (first
    | assumption | with_reducible apply State.setFld_frame | with_reducible apply State.unitStatus_frame | split
    | extract_lets | exact hr (by decide) | exact hr (by simp) | exact List.Subset.trans (by decide) hr)

theorem State.startTest_frame {u} (h : Frame f s₀ s) (hr : [.RSL_UNIT_STAT] ⊆ f.regs) :
    Frame f s₀ (State.startTest s u) := by
  unfold State.startTest
  repeat' (first
    | assumption | with_reducible apply State.setFld_frame | with_reducible apply State.unitStatus_frame | split
    | exact hr (by decide) | exact hr (by simp) | exact List.Subset.trans (by decide) hr)

theorem State.noSpare_frame {u} (h : Frame f s₀ s) (hp : [.host, .sent, .freeCtr, .awl] ⊆ f.parts) (hr : [.RSL_UNIT_STAT, .GLB_ALERT_STAT, .GLB_INT_SUM, .GLB_INT_STAT, .AWL_MERGED, .AWL_STATUS, .INS_RET_STAT, .AWL_LOST, .AWL_INT_STAT] ⊆ f.regs) :
    Frame f s₀ (State.noSpare s u) := by
  unfold State.noSpare
  try extract_lets
  repeat' (first
    | assumption | with_reducible apply State.alert_frame | with_reducible apply State.awlUnstated_frame
    | with_reducible apply State.setFlag_frame | with_reducible apply State.setFld_frame
    | with_reducible apply State.unitStatus_frame | extract_lets | exact hp (by decide)
    | exact List.Subset.trans (by decide) hp | exact hr (by decide) | exact hr (by simp)
    | exact List.Subset.trans (by decide) hr)

theorem State.spareLow_frame (h : Frame f s₀ s) (hp : [.host, .sent] ⊆ f.parts) (hr : [.RSL_STATUS, .GLB_INT_SUM, .RSL_INT_STAT] ⊆ f.regs) :
    Frame f s₀ (State.spareLow s) := by
  unfold State.spareLow
  repeat' (first
    | assumption | with_reducible apply State.irq_frame | with_reducible apply State.setFlag_frame
    | exact hp (by decide) | exact List.Subset.trans (by decide) hp | exact hr (by decide) | exact hr (by simp)
    | exact List.Subset.trans (by decide) hr)

theorem State.writeUpdCfg_frame {src v} (h : Frame f s₀ s) (hp : [.host, .sent, .resp] ⊆ f.parts) (hr : [.GLB_INT_SUM, .GLB_INT_STAT, .GLB_PCIE_ERR, .UPD_INT_STAT, .UPD_CFG] ⊆ f.regs) :
    Frame f s₀ (State.writeUpdCfg s src v) := by
  unfold State.writeUpdCfg
  try extract_lets
  repeat' (first
    | assumption | with_reducible apply State.guarded_frame | with_reducible apply State.refuse_frame
    | with_reducible apply State.store_frame | split | extract_lets | exact hp (by decide)
    | exact List.Subset.trans (by decide) hp | exact hr (by decide) | exact hr (by simp)
    | exact List.Subset.trans (by decide) hr)

theorem State.writeCap_frame {src c v} (h : Frame f s₀ s) (hp : [.host, .sent, .resp] ⊆ f.parts) (hr : [.GLB_INT_SUM, .GLB_INT_STAT, .GLB_PCIE_ERR, .NTM_INT_STAT, .NTM_CAP_CFG] ⊆ f.regs) :
    Frame f s₀ (State.writeCap s src c v) := by
  unfold State.writeCap
  try extract_lets
  repeat' (first
    | assumption | with_reducible apply State.guarded_frame | with_reducible apply State.refuse_frame
    | with_reducible apply State.store_frame | split | extract_lets | exact hp (by decide)
    | exact List.Subset.trans (by decide) hp | exact hr (by decide) | exact hr (by simp)
    | exact List.Subset.trans (by decide) hr)

theorem State.writeEee_frame {src p v} (h : Frame f s₀ s) (hp : [.host, .sent, .resp] ⊆ f.parts) (hr : [.GLB_INT_SUM, .GLB_INT_STAT, .GLB_PCIE_ERR, .NPT_INT_STAT, .NPT_PORT_EEE] ⊆ f.regs) :
    Frame f s₀ (State.writeEee s src p v) := by
  unfold State.writeEee
  repeat' (first
    | assumption | with_reducible apply State.guarded_frame | with_reducible apply State.refuse_frame
    | with_reducible apply State.store_frame | split | exact hp (by decide) | exact List.Subset.trans (by decide) hp
    | exact hr (by decide) | exact hr (by simp) | exact List.Subset.trans (by decide) hr)

theorem State.writeEpCfg_frame {src e v} (h : Frame f s₀ s) (hp : [.host, .sent, .resp] ⊆ f.parts) (hr : [.GLB_INT_SUM, .GLB_INT_STAT, .GLB_PCIE_ERR, .NPT_INT_STAT, .NPT_EP_CFG] ⊆ f.regs) :
    Frame f s₀ (State.writeEpCfg s src e v) := by
  unfold State.writeEpCfg
  repeat' (first
    | assumption | with_reducible apply State.guarded_frame | with_reducible apply State.refuse_frame
    | with_reducible apply State.store_frame | split | exact hp (by decide) | exact List.Subset.trans (by decide) hp
    | exact hr (by decide) | exact hr (by simp) | exact List.Subset.trans (by decide) hr)

theorem State.setRk_frame {k r} (h : Frame f s₀ s) (hr : [.LST_TB_STAT] ⊆ f.regs) :
    Frame f s₀ (State.setRk s k r) := by
  unfold State.setRk
  repeat' (first
    | assumption | with_reducible apply State.setSigned_frame | exact hr (by decide) | exact hr (by simp)
    | exact List.Subset.trans (by decide) hr)

theorem State.drawRk_frame {k} (h : Frame f s₀ s) (hp : [.freeCtr, .host, .sent] ⊆ f.parts) (hr : [.LST_TB_STAT, .NTM_SRV_STAT, .GLB_INT_SUM, .NTM_INT_STAT] ⊆ f.regs) :
    Frame f s₀ (State.drawRk s k) := by
  unfold State.drawRk
  try extract_lets
  repeat' (first
    | assumption | with_reducible apply State.drawFree_frame | with_reducible apply State.irq_frame
    | with_reducible apply State.setFlag_frame | with_reducible apply State.setRk_frame | split | extract_lets
    | exact hp (by decide) | exact List.Subset.trans (by decide) hp | exact hr (by decide) | exact hr (by simp)
    | exact List.Subset.trans (by decide) hr)

theorem State.setLst_frame {x} (h : Frame f s₀ s) (hp : [.lst] ⊆ f.parts) :
    Frame f s₀ (State.setLst s x) := by
  unfold State.setLst
  repeat' (first
    | assumption | with_reducible apply Frame.upd | with_reducible exact fun _ => rfl
    | exact fun n => absurd (hp (by decide)) n | exact hp (by decide) | exact List.Subset.trans (by decide) hp)

theorem State.setServo_frame {k x} (h : Frame f s₀ s) (hp : [.ntm] ⊆ f.parts) :
    Frame f s₀ (State.setServo s k x) := by
  unfold State.setServo
  repeat' (first
    | assumption | with_reducible apply State.setNtm_frame | exact hp (by decide)
    | exact List.Subset.trans (by decide) hp)

theorem State.setTb_frame {k t'} (h : Frame f s₀ s) (hp : [.tb] ⊆ f.parts) :
    Frame f s₀ (State.setTb s k t') := by
  unfold State.setTb
  repeat' (first
    | assumption | with_reducible apply Frame.upd | with_reducible exact fun _ => rfl
    | exact fun n => absurd (hp (by decide)) n | exact hp (by decide) | exact List.Subset.trans (by decide) hp)

theorem State.memberArmed_frame {k sig time late} (h : Frame f s₀ s) (hp : [.tks, .nim, .resp, .host, .sent] ⊆ f.parts) (hr : [.NIM_JRN_FREE, .NIM_JRN_OPEN, .GLB_INT_SUM, .NIM_INT_STAT] ⊆ f.regs) :
    Frame f s₀ (State.memberArmed s k sig time late) := by
  unfold State.memberArmed
  repeat' (first
    | assumption | with_reducible apply State.account_frame | exact hp (by decide)
    | exact List.Subset.trans (by decide) hp | exact hr (by decide) | exact hr (by simp)
    | exact List.Subset.trans (by decide) hr)

theorem State.setGpio_frame {g b} (h : Frame f s₀ s) (hp : [.ntm] ⊆ f.parts) :
    Frame f s₀ (State.setGpio s g b) := by
  unfold State.setGpio
  repeat' (first
    | assumption | with_reducible apply State.setNtm_frame | exact hp (by decide)
    | exact List.Subset.trans (by decide) hp)

theorem State.setTrg_frame {t' x} (h : Frame f s₀ s) (hp : [.ntm] ⊆ f.parts) :
    Frame f s₀ (State.setTrg s t' x) := by
  unfold State.setTrg
  repeat' (first
    | assumption | with_reducible apply State.setNtm_frame | exact hp (by decide)
    | exact List.Subset.trans (by decide) hp)

theorem State.ntmIdle_frame (h : Frame f s₀ s) (hr : [.NTM_STATUS] ⊆ f.regs) :
    Frame f s₀ (State.ntmIdle s) := by
  unfold State.ntmIdle
  repeat' (first
    | assumption | with_reducible apply State.setFlag_frame | split | exact hr (by decide) | exact hr (by simp)
    | exact List.Subset.trans (by decide) hr)

theorem State.disarm_frame {t'} (h : Frame f s₀ s) (hr : [.NTM_TRG_CFG, .NTM_TRG_STAT, .NTM_STATUS] ⊆ f.regs) :
    Frame f s₀ (State.disarm s t') := by
  unfold State.disarm
  repeat' (first
    | assumption | with_reducible apply State.ntmIdle_frame | with_reducible apply State.setFlag_frame
    | with_reducible apply State.setFld_frame | exact hr (by decide) | exact hr (by simp)
    | exact List.Subset.trans (by decide) hr)

theorem State.trgPass_frame {t' n} (h : Frame f s₀ s) (hp : [.ntm] ⊆ f.parts) (hr : [.NTM_TRG_CFG, .NTM_TRG_STAT, .NTM_STATUS] ⊆ f.regs) :
    Frame f s₀ (State.trgPass s t' n) := by
  unfold State.trgPass
  try extract_lets
  repeat' (first
    | assumption | with_reducible apply State.disarm_frame | with_reducible apply State.setFld_frame
    | with_reducible apply State.setTrg_frame | split | extract_lets | exact hp (by decide)
    | exact List.Subset.trans (by decide) hp | exact hr (by decide) | exact hr (by simp)
    | exact List.Subset.trans (by decide) hr)

theorem State.trgShift_frame {t' now missed} (h : Frame f s₀ s) (hp : [.ntm] ⊆ f.parts) (hr : [.NTM_TRG_T] ⊆ f.regs) :
    Frame f s₀ (State.trgShift s t' now missed) := by
  unfold State.trgShift
  try extract_lets
  repeat' (first
    | assumption | with_reducible apply Frame.setReg | with_reducible apply State.setTrg_frame | extract_lets
    | exact hp (by decide) | exact List.Subset.trans (by decide) hp | exact hr (by decide) | exact hr (by simp)
    | exact List.Subset.trans (by decide) hr)

theorem State.startTb_frame {k t'} (h : Frame f s₀ s) (hp : [.tb] ⊆ f.parts) (hr : [.NTM_TB_STAT] ⊆ f.regs) :
    Frame f s₀ (State.startTb s k t') := by
  unfold State.startTb
  repeat' (first
    | assumption | with_reducible apply State.setFlag_frame | with_reducible apply State.setTb_frame
    | exact hp (by decide) | exact List.Subset.trans (by decide) hp | exact hr (by decide) | exact hr (by simp)
    | exact List.Subset.trans (by decide) hr)

theorem State.writeBack_frame {r idx time st} (h : Frame f s₀ s) (hp : [.sent, .host] ⊆ f.parts) :
    Frame f s₀ (State.writeBack s r idx time st) := by
  unfold State.writeBack
  try extract_lets
  repeat' (first
    | assumption | with_reducible apply State.emit_frame | with_reducible apply State.raiseVector_frame | extract_lets
    | exact hp (by decide) | exact List.Subset.trans (by decide) hp)

theorem State.ctrlFail_frame {p f' st} (h : Frame f s₀ s) (hp : [.sent, .host] ⊆ f.parts) (hr : [.NPT_TX_DISCARD] ⊆ f.regs) :
    Frame f s₀ (State.ctrlFail s p f' st) := by
  unfold State.ctrlFail
  dsimp only
  repeat' (first
    | assumption | with_reducible apply State.count_frame | with_reducible apply State.writeBack_frame | split
    | exact hp (by decide) | exact List.Subset.trans (by decide) hp | exact hr (by decide) | exact hr (by simp)
    | exact List.Subset.trans (by decide) hr)

theorem State.setNetPort_frame {p x} (h : Frame f s₀ s) (hp : [.net] ⊆ f.parts) :
    Frame f s₀ (State.setNetPort s p x) := by
  unfold State.setNetPort
  repeat' (first
    | assumption | with_reducible apply Frame.upd | with_reducible exact fun _ => rfl
    | exact fun n => absurd (hp (by decide)) n | exact hp (by decide) | exact List.Subset.trans (by decide) hp)

theorem State.flushCtrl_frame {p st} (h : Frame f s₀ s) (hp : [.sent, .host, .net] ⊆ f.parts) (hr : [.NPT_TX_DISCARD] ⊆ f.regs) :
    Frame f s₀ (State.flushCtrl s p st) := by
  unfold State.flushCtrl
  try extract_lets
  repeat' (first
    | assumption | with_reducible apply State.ctrlFail_frame | with_reducible apply State.setNetPort_frame
    | with_reducible refine Frame.foldl (fun _ _ _ => ?_) _ ?_ | extract_lets | exact hp (by decide)
    | exact List.Subset.trans (by decide) hp | exact hr (by decide) | exact hr (by simp)
    | exact List.Subset.trans (by decide) hr)

theorem State.txAbort_frame {p} (h : Frame f s₀ s) (hp : [.host, .sent] ⊆ f.parts) (hr : [.NTM_PHY_TXABORT, .GLB_INT_SUM, .NTM_INT_STAT] ⊆ f.regs) :
    Frame f s₀ (State.txAbort s p) := by
  unfold State.txAbort
  repeat' (first
    | assumption | with_reducible apply State.count_frame | with_reducible apply State.irq_frame
    | exact hp (by decide) | exact List.Subset.trans (by decide) hp | exact hr (by decide) | exact hr (by simp)
    | exact List.Subset.trans (by decide) hr)

theorem State.flushPtp_frame {p} (h : Frame f s₀ s) (hp : [.host, .sent, .net] ⊆ f.parts) (hr : [.NTM_PHY_TXABORT, .GLB_INT_SUM, .NTM_INT_STAT] ⊆ f.regs) :
    Frame f s₀ (State.flushPtp s p) := by
  unfold State.flushPtp
  try extract_lets
  repeat' (first
    | assumption | with_reducible apply State.setNetPort_frame | with_reducible apply State.txAbort_frame
    | with_reducible refine Frame.foldl (fun _ _ _ => ?_) _ ?_ | split | extract_lets | exact hp (by decide)
    | exact List.Subset.trans (by decide) hp | exact hr (by decide) | exact hr (by simp)
    | exact List.Subset.trans (by decide) hr)

theorem State.portFall_frame {p} (h : Frame f s₀ s) (hp : [.host, .sent, .awl, .net] ⊆ f.parts) (hr : [.NPT_LINK, .NPT_LINK_DOWNS, .AWL_MERGED, .AWL_STATUS, .INS_RET_STAT, .AWL_LOST, .GLB_INT_SUM, .AWL_INT_STAT, .NPT_INT_STAT, .NPT_PORT_STAT, .NTM_PHY_TXABORT, .NTM_INT_STAT, .NPT_TX_DISCARD] ⊆ f.regs) :
    Frame f s₀ (State.portFall s p) := by
  unfold State.portFall
  dsimp only
  repeat' (first
    | assumption | with_reducible apply State.count_frame | with_reducible apply State.event_frame
    | with_reducible apply State.flushCtrl_frame | with_reducible apply State.flushPtp_frame
    | with_reducible apply State.setFld_frame | with_reducible apply State.setPortState_frame | split
    | exact hp (by decide) | exact List.Subset.trans (by decide) hp | exact hr (by decide) | exact hr (by simp)
    | exact List.Subset.trans (by decide) hr)

theorem State.portStop_frame {p st} (h : Frame f s₀ s) (hp : [.sent, .host, .net, .awl] ⊆ f.parts) (hr : [.NPT_TX_DISCARD, .NPT_LINK, .NPT_LINK_DOWNS, .AWL_MERGED, .AWL_STATUS, .INS_RET_STAT, .AWL_LOST, .GLB_INT_SUM, .AWL_INT_STAT, .NPT_INT_STAT, .NPT_PORT_STAT, .NTM_PHY_TXABORT, .NTM_INT_STAT] ⊆ f.regs) :
    Frame f s₀ (State.portStop s p st) := by
  unfold State.portStop
  try extract_lets
  repeat' (first
    | assumption | with_reducible apply State.flushCtrl_frame | with_reducible apply State.portFall_frame
    | with_reducible apply State.setPortState_frame | extract_lets | exact hp (by decide)
    | exact List.Subset.trans (by decide) hp | exact hr (by decide) | exact hr (by simp)
    | exact List.Subset.trans (by decide) hr)

theorem State.writeGrpCfg_frame {src g v} (h : Frame f s₀ s) (hp : [.host, .sent, .resp, .net, .awl] ⊆ f.parts) (hr : [.GLB_INT_SUM, .GLB_INT_STAT, .GLB_PCIE_ERR, .NPT_INT_STAT, .NPT_TX_DISCARD, .NPT_LINK, .NPT_LINK_DOWNS, .AWL_MERGED, .AWL_STATUS, .INS_RET_STAT, .AWL_LOST, .AWL_INT_STAT, .NPT_PORT_STAT, .NTM_PHY_TXABORT, .NTM_INT_STAT, .NPT_GRP_CFG] ⊆ f.regs) :
    Frame f s₀ (State.writeGrpCfg s src g v) := by
  unfold State.writeGrpCfg
  try extract_lets
  repeat' (first
    | assumption | with_reducible apply State.guarded_frame | with_reducible apply State.portStop_frame
    | with_reducible apply State.refuse_frame | with_reducible apply State.setFlag_frame
    | with_reducible apply State.setFld_frame | with_reducible apply State.store_frame
    | with_reducible refine Frame.foldl (fun _ _ _ => ?_) _ ?_ | split | extract_lets | exact hp (by decide)
    | exact List.Subset.trans (by decide) hp | exact hr (by decide) | exact hr (by simp)
    | exact List.Subset.trans (by decide) hr)

theorem State.writeInst_frame {src k v} (h : Frame f s₀ s) (hp : [.host, .sent, .resp] ⊆ f.parts) (hr : [.GLB_INT_SUM, .GLB_INT_STAT, .GLB_PCIE_ERR, .NTM_INT_STAT, .NTM_INST_CFG, .NTM_INST_INTV] ⊆ f.regs) :
    Frame f s₀ (State.writeInst s src k v) := by
  unfold State.writeInst
  try extract_lets
  repeat' (first
    | assumption | with_reducible apply State.guarded_frame | with_reducible apply State.refuse_frame
    | with_reducible apply Frame.setReg | with_reducible apply State.store_frame | split | extract_lets
    | exact hp (by decide) | exact List.Subset.trans (by decide) hp | exact hr (by decide) | exact hr (by simp)
    | exact List.Subset.trans (by decide) hr)

theorem State.writeIntv_frame {src k v} (h : Frame f s₀ s) (hp : [.host, .sent, .resp] ⊆ f.parts) (hr : [.GLB_INT_SUM, .GLB_INT_STAT, .GLB_PCIE_ERR, .NTM_INT_STAT, .NTM_INST_INTV] ⊆ f.regs) :
    Frame f s₀ (State.writeIntv s src k v) := by
  unfold State.writeIntv
  repeat' (first
    | assumption | with_reducible apply State.guarded_frame | with_reducible apply State.refuse_frame
    | with_reducible apply State.store_frame | split | exact hp (by decide) | exact List.Subset.trans (by decide) hp
    | exact hr (by decide) | exact hr (by simp) | exact List.Subset.trans (by decide) hr)

theorem State.setLane_frame {i x} (h : Frame f s₀ s) (hp : [.net] ⊆ f.parts) :
    Frame f s₀ (State.setLane s i x) := by
  unfold State.setLane
  repeat' (first
    | assumption | with_reducible apply Frame.upd | with_reducible exact fun _ => rfl
    | exact fun n => absurd (hp (by decide)) n | exact hp (by decide) | exact List.Subset.trans (by decide) hp)

theorem State.writeLaneCfg_frame {src i v} (h : Frame f s₀ s) (hp : [.host, .sent, .resp, .net] ⊆ f.parts) (hr : [.GLB_INT_SUM, .GLB_INT_STAT, .GLB_PCIE_ERR, .WLT_INT_STAT, .WLT_LANE_CFG] ⊆ f.regs) :
    Frame f s₀ (State.writeLaneCfg s src i v) := by
  unfold State.writeLaneCfg
  try extract_lets
  repeat' (first
    | assumption | with_reducible apply State.guarded_frame | with_reducible apply State.refuse_frame
    | with_reducible apply State.setLane_frame | with_reducible apply State.store_frame | split | extract_lets
    | exact hp (by decide) | exact List.Subset.trans (by decide) hp | exact hr (by decide) | exact hr (by simp)
    | exact List.Subset.trans (by decide) hr)

theorem State.noteLink_frame {k} (h : Frame f s₀ s) (hr : [.WLT_LK_SRC] ⊆ f.regs) :
    Frame f s₀ (State.noteLink s k) := by
  unfold State.noteLink
  repeat' (first
    | assumption | with_reducible apply State.setFld_frame | exact hr (by decide) | exact hr (by simp)
    | exact List.Subset.trans (by decide) hr)

theorem State.noteLane_frame {i} (h : Frame f s₀ s) (hr : [.WLT_LK_SRC] ⊆ f.regs) :
    Frame f s₀ (State.noteLane s i) := by
  unfold State.noteLane
  repeat' (first
    | assumption | with_reducible apply State.noteLink_frame | split | exact hr (by decide) | exact hr (by simp)
    | exact List.Subset.trans (by decide) hr)

theorem State.laneLol_frame {i} (h : Frame f s₀ s) (hp : [.host, .sent, .awl] ⊆ f.parts) (hr : [.WLT_LANE_LOL, .WLT_LK_SRC, .AWL_MERGED, .AWL_STATUS, .INS_RET_STAT, .AWL_LOST, .GLB_INT_SUM, .AWL_INT_STAT, .WLT_INT_STAT] ⊆ f.regs) :
    Frame f s₀ (State.laneLol s i) := by
  unfold State.laneLol
  repeat' (first
    | assumption | with_reducible apply State.count_frame | with_reducible apply State.event_frame
    | with_reducible apply State.noteLane_frame | exact hp (by decide) | exact List.Subset.trans (by decide) hp
    | exact hr (by decide) | exact hr (by simp) | exact List.Subset.trans (by decide) hr)

theorem State.receiverUnlock_frame {n} (h : Frame f s₀ s) (hp : [.ing] ⊆ f.parts) (hr : [.ING_SDI_RATE] ⊆ f.regs) :
    Frame f s₀ (State.receiverUnlock s n) := by
  unfold State.receiverUnlock
  try extract_lets
  repeat' (first
    | assumption | with_reducible apply State.setInput_frame | with_reducible apply Frame.setReg | extract_lets
    | exact hp (by decide) | exact List.Subset.trans (by decide) hp | exact hr (by decide) | exact hr (by simp)
    | exact List.Subset.trans (by decide) hr)

theorem State.laneRetrain_frame {i} (h : Frame f s₀ s) (hp : [.resp, .net, .host, .sent, .awl, .ing] ⊆ f.parts) (hr : [.WLT_LANE_LOL, .WLT_LK_SRC, .AWL_MERGED, .AWL_STATUS, .INS_RET_STAT, .AWL_LOST, .GLB_INT_SUM, .AWL_INT_STAT, .WLT_INT_STAT, .ING_SDI_RATE, .NPT_LINK, .NPT_LINK_DOWNS, .NPT_INT_STAT, .NPT_PORT_STAT, .NTM_PHY_TXABORT, .NTM_INT_STAT, .NPT_TX_DISCARD] ⊆ f.regs) :
    Frame f s₀ (State.laneRetrain s i) := by
  unfold State.laneRetrain
  try extract_lets
  repeat' (first
    | assumption | with_reducible apply State.answer_frame | with_reducible apply State.laneLol_frame
    | with_reducible apply State.portFall_frame | with_reducible apply State.receiverUnlock_frame
    | with_reducible apply State.refuse_frame | with_reducible apply State.setLane_frame | split | extract_lets
    | exact hp (by decide) | exact List.Subset.trans (by decide) hp | exact hr (by decide) | exact hr (by simp)
    | exact List.Subset.trans (by decide) hr)

theorem State.showTag_frame (h : Frame f s₀ s) (hr : [.LST_TAG] ⊆ f.regs) :
    Frame f s₀ (State.showTag s) := by
  unfold State.showTag
  try extract_lets
  repeat' (first
    | assumption | with_reducible apply Frame.setReg | extract_lets | exact hr (by decide) | exact hr (by simp)
    | exact List.Subset.trans (by decide) hr)

theorem State.enterLst_frame {st} (h : Frame f s₀ s) (hp : [.host, .sent, .awl, .lst] ⊆ f.parts) (hr : [.LST_TAG, .LST_STATUS, .GLB_INT_SUM, .LST_INT_STAT, .AWL_MERGED, .AWL_STATUS, .INS_RET_STAT, .AWL_LOST, .AWL_INT_STAT] ⊆ f.regs) :
    Frame f s₀ (State.enterLst s st) := by
  unfold State.enterLst
  dsimp only
  repeat' (first
    | assumption | with_reducible apply State.awlState_frame | with_reducible apply State.irq_frame
    | with_reducible apply State.setFld_frame | with_reducible apply State.setLst_frame
    | with_reducible apply State.showTag_frame | split | exact hp (by decide) | exact List.Subset.trans (by decide) hp
    | exact hr (by decide) | exact hr (by simp) | exact List.Subset.trans (by decide) hr)

theorem State.showHold_frame (h : Frame f s₀ s) (hr : [.LST_HOLD_STAT] ⊆ f.regs) :
    Frame f s₀ (State.showHold s) := by
  unfold State.showHold
  try extract_lets
  repeat' (first
    | assumption | with_reducible apply State.setFld_frame | split | extract_lets | exact hr (by decide)
    | exact hr (by simp) | exact List.Subset.trans (by decide) hr)

theorem State.portStart_frame {p} (h : Frame f s₀ s) (hr : [.NPT_PORT_STAT] ⊆ f.regs) :
    Frame f s₀ (State.portStart s p) := by
  unfold State.portStart
  repeat' (first
    | assumption | with_reducible apply State.setPortState_frame | split | exact hr (by decide) | exact hr (by simp)
    | exact List.Subset.trans (by decide) hr)

theorem State.showNpt_frame (h : Frame f s₀ s) (hr : [.NPT_STATUS] ⊆ f.regs) :
    Frame f s₀ (State.showNpt s) := by
  unfold State.showNpt
  repeat' (first
    | assumption | with_reducible apply State.setFlag_frame | exact hr (by decide) | exact hr (by simp)
    | exact List.Subset.trans (by decide) hr)

theorem State.writeNptCtrl_frame {src v} (h : Frame f s₀ s) (hp : [.host, .sent, .net, .awl, .resp] ⊆ f.parts) (hr : [.GLB_INT_SUM, .GLB_INT_STAT, .GLB_PCIE_ERR, .NPT_INT_STAT, .NPT_PORT_STAT, .NPT_TX_DISCARD, .NPT_LINK, .NPT_LINK_DOWNS, .AWL_MERGED, .AWL_STATUS, .INS_RET_STAT, .AWL_LOST, .AWL_INT_STAT, .NTM_PHY_TXABORT, .NTM_INT_STAT, .NPT_CTRL, .NPT_STATUS] ⊆ f.regs) :
    Frame f s₀ (State.writeNptCtrl s src v) := by
  unfold State.writeNptCtrl
  try extract_lets
  repeat' (first
    | assumption | with_reducible apply State.answer_frame | with_reducible apply State.applyLp_frame
    | with_reducible apply State.guarded_frame | with_reducible apply State.portStart_frame
    | with_reducible apply State.portStop_frame | with_reducible apply State.setFlag_frame
    | with_reducible apply State.setPortState_frame | with_reducible apply State.showNpt_frame
    | with_reducible apply State.store_frame | with_reducible refine Frame.foldl (fun _ _ _ => ?_) _ ?_ | split
    | extract_lets | exact hp (by decide) | exact List.Subset.trans (by decide) hp | exact hr (by decide)
    | exact hr (by simp) | exact List.Subset.trans (by decide) hr)

theorem State.holdRk_frame {k} (h : Frame f s₀ s) (hp : [.freeCtr] ⊆ f.parts) (hr : [.LST_TB_STAT] ⊆ f.regs) :
    Frame f s₀ (State.holdRk s k) := by
  unfold State.holdRk
  repeat' (first
    | assumption | with_reducible apply State.drawFree_frame | with_reducible apply State.setRk_frame | split
    | exact hp (by decide) | exact List.Subset.trans (by decide) hp | exact hr (by decide) | exact hr (by simp)
    | exact List.Subset.trans (by decide) hr)

theorem State.trgKill_frame {t'} (h : Frame f s₀ s) (hp : [.ntm] ⊆ f.parts) (hr : [.NTM_TRG_CFG, .NTM_TRG_STAT, .NTM_STATUS] ⊆ f.regs) :
    Frame f s₀ (State.trgKill s t') := by
  unfold State.trgKill
  dsimp only
  repeat' (first
    | assumption | with_reducible apply State.disarm_frame | with_reducible apply State.setGpio_frame
    | with_reducible apply State.setTrg_frame | split | exact hp (by decide) | exact List.Subset.trans (by decide) hp
    | exact hr (by decide) | exact hr (by simp) | exact List.Subset.trans (by decide) hr)

theorem State.writePrbs_frame {src i v} (h : Frame f s₀ s) (hp : [.host, .sent, .resp] ⊆ f.parts) (hr : [.GLB_INT_SUM, .GLB_INT_STAT, .GLB_PCIE_ERR, .WLT_INT_STAT, .WLT_LANE_PRBS] ⊆ f.regs) :
    Frame f s₀ (State.writePrbs s src i v) := by
  unfold State.writePrbs
  try extract_lets
  repeat' (first
    | assumption | with_reducible apply State.guarded_frame | with_reducible apply State.refuse_frame
    | with_reducible apply State.store_frame | split | extract_lets | exact hp (by decide)
    | exact List.Subset.trans (by decide) hp | exact hr (by decide) | exact hr (by simp)
    | exact List.Subset.trans (by decide) hr)

theorem State.writeQual_frame {src v} (h : Frame f s₀ s) (hp : [.host, .sent, .resp] ⊆ f.parts) (hr : [.GLB_INT_SUM, .GLB_INT_STAT, .GLB_PCIE_ERR, .WLT_INT_STAT, .WLT_QUAL] ⊆ f.regs) :
    Frame f s₀ (State.writeQual s src v) := by
  unfold State.writeQual
  repeat' (first
    | assumption | with_reducible apply State.guarded_frame | with_reducible apply State.refuse_frame
    | with_reducible apply State.store_frame | split | exact hp (by decide) | exact List.Subset.trans (by decide) hp
    | exact hr (by decide) | exact hr (by simp) | exact List.Subset.trans (by decide) hr)

theorem State.setRxr_frame {r x} (h : Frame f s₀ s) (hp : [.net] ⊆ f.parts) :
    Frame f s₀ (State.setRxr s r x) := by
  unfold State.setRxr
  repeat' (first
    | assumption | with_reducible apply Frame.upd | with_reducible exact fun _ => rfl
    | exact fun n => absurd (hp (by decide)) n | exact hp (by decide) | exact List.Subset.trans (by decide) hp)

theorem State.rxDescOut_frame {r len port cls entry flags frameLen time st} (h : Frame f s₀ s) (hp : [.sent, .net] ⊆ f.parts) (hr : [.NPT_RXR_HEAD] ⊆ f.regs) :
    Frame f s₀ (State.rxDescOut s r len port cls entry flags frameLen time st) := by
  unfold State.rxDescOut
  dsimp only
  repeat' (first
    | assumption | with_reducible apply State.emit_frame | with_reducible apply State.setFld_frame
    | with_reducible apply State.setRxr_frame | split | exact hp (by decide) | exact List.Subset.trans (by decide) hp
    | exact hr (by decide) | exact hr (by simp) | exact List.Subset.trans (by decide) hr)

theorem State.writeRxrTail_frame {src r v} (h : Frame f s₀ s) (hp : [.host, .sent, .resp] ⊆ f.parts) (hr : [.GLB_INT_SUM, .GLB_INT_STAT, .GLB_PCIE_ERR, .NPT_INT_STAT, .NPT_RXR_TAIL] ⊆ f.regs) :
    Frame f s₀ (State.writeRxrTail s src r v) := by
  unfold State.writeRxrTail
  repeat' (first
    | assumption | with_reducible apply State.guarded_frame | with_reducible apply State.store_frame
    | exact hp (by decide) | exact List.Subset.trans (by decide) hp | exact hr (by decide) | exact hr (by simp)
    | exact List.Subset.trans (by decide) hr)

theorem State.writeSrvCfg_frame {src k v} (h : Frame f s₀ s) (hp : [.host, .sent, .resp] ⊆ f.parts) (hr : [.GLB_INT_SUM, .GLB_INT_STAT, .GLB_PCIE_ERR, .NTM_INT_STAT, .NTM_SRV_CFG] ⊆ f.regs) :
    Frame f s₀ (State.writeSrvCfg s src k v) := by
  unfold State.writeSrvCfg
  repeat' (first
    | assumption | with_reducible apply State.guarded_frame | with_reducible apply State.refuse_frame
    | with_reducible apply State.store_frame | split | exact hp (by decide) | exact List.Subset.trans (by decide) hp
    | exact hr (by decide) | exact hr (by simp) | exact List.Subset.trans (by decide) hr)

theorem State.writeSteer_frame {src v} (h : Frame f s₀ s) (hp : [.host, .sent, .resp, .lst] ⊆ f.parts) (hr : [.GLB_INT_SUM, .GLB_INT_STAT, .GLB_PCIE_ERR, .LST_INT_STAT, .LST_STEER] ⊆ f.regs) :
    Frame f s₀ (State.writeSteer s src v) := by
  unfold State.writeSteer
  try extract_lets
  repeat' (first
    | assumption | with_reducible apply State.guarded_frame | with_reducible apply State.setLst_frame
    | with_reducible apply State.store_frame | split | extract_lets | exact hp (by decide)
    | exact List.Subset.trans (by decide) hp | exact hr (by decide) | exact hr (by simp)
    | exact List.Subset.trans (by decide) hr)

theorem State.writeSteerEntry_frame {src e v} (h : Frame f s₀ s) (hp : [.host, .sent, .resp] ⊆ f.parts) (hr : [.GLB_INT_SUM, .GLB_INT_STAT, .GLB_PCIE_ERR, .NPT_INT_STAT, .NPT_STEER] ⊆ f.regs) :
    Frame f s₀ (State.writeSteerEntry s src e v) := by
  unfold State.writeSteerEntry
  repeat' (first
    | assumption | with_reducible apply State.guarded_frame | with_reducible apply State.refuse_frame
    | with_reducible apply State.store_frame | split | exact hp (by decide) | exact List.Subset.trans (by decide) hp
    | exact hr (by decide) | exact hr (by simp) | exact List.Subset.trans (by decide) hr)

theorem State.writeTxeq_frame {src i v} (h : Frame f s₀ s) (hp : [.resp, .host, .sent] ⊆ f.parts) (hr : [.GLB_INT_SUM, .GLB_INT_STAT, .GLB_PCIE_ERR, .WLT_INT_STAT, .WLT_LANE_TXEQ] ⊆ f.regs) :
    Frame f s₀ (State.writeTxeq s src i v) := by
  unfold State.writeTxeq
  repeat' (first
    | assumption | with_reducible apply State.answer_frame | with_reducible apply State.guarded_frame
    | with_reducible apply State.refuse_frame | with_reducible apply State.store_frame | split | exact hp (by decide)
    | exact List.Subset.trans (by decide) hp | exact hr (by decide) | exact hr (by simp)
    | exact List.Subset.trans (by decide) hr)

theorem State.writeTxrCfg_frame {src r v} (h : Frame f s₀ s) (hp : [.host, .sent, .resp] ⊆ f.parts) (hr : [.GLB_INT_SUM, .GLB_INT_STAT, .GLB_PCIE_ERR, .NPT_INT_STAT, .NPT_TXR_CFG] ⊆ f.regs) :
    Frame f s₀ (State.writeTxrCfg s src r v) := by
  unfold State.writeTxrCfg
  try extract_lets
  repeat' (first
    | assumption | with_reducible apply State.guarded_frame | with_reducible apply State.refuse_frame
    | with_reducible apply State.store_frame | split | extract_lets | exact hp (by decide)
    | exact List.Subset.trans (by decide) hp | exact hr (by decide) | exact hr (by simp)
    | exact List.Subset.trans (by decide) hr)

theorem State.queueCtrl_frame {p f'} (h : Frame f s₀ s) (hp : [.net] ⊆ f.parts) :
    Frame f s₀ (State.queueCtrl s p f') := by
  unfold State.queueCtrl
  try extract_lets
  repeat' (first
    | assumption | with_reducible apply State.setNetPort_frame | extract_lets | exact hp (by decide)
    | exact List.Subset.trans (by decide) hp)

theorem State.setTxr_frame {r x} (h : Frame f s₀ s) (hp : [.net] ⊆ f.parts) :
    Frame f s₀ (State.setTxr s r x) := by
  unfold State.setTxr
  repeat' (first
    | assumption | with_reducible apply Frame.upd | with_reducible exact fun _ => rfl
    | exact fun n => absurd (hp (by decide)) n | exact hp (by decide) | exact List.Subset.trans (by decide) hp)

theorem State.calWrite_frame {p c slots pre} (h : Frame f s₀ s) (hp : [.twl] ⊆ f.parts) :
    Frame f s₀ (State.calWrite s p c slots pre) := by
  unfold State.calWrite
  try extract_lets
  repeat' (first
    | assumption | with_reducible apply State.setPort_frame | extract_lets | exact hp (by decide)
    | exact List.Subset.trans (by decide) hp)

theorem State.changeRole_frame {leading} (h : Frame f s₀ s) (hp : [.tks, .twl, .nim] ⊆ f.parts) (hr : [.NIM_CORE_STAT, .NIM_SVC_STAT] ⊆ f.regs) :
    Frame f s₀ (State.changeRole s leading) := by
  unfold State.changeRole
  try extract_lets
  repeat' (first
    | assumption | with_reducible apply State.startSvc_frame
    | with_reducible refine Frame.foldl (fun _ _ _ => ?_) _ ?_ | split | with_reducible apply Frame.upd | extract_lets
    | with_reducible exact fun _ => rfl | exact fun n => absurd (hp (by decide)) n | exact hp (by decide)
    | exact List.Subset.trans (by decide) hp | exact hr (by decide) | exact hr (by simp)
    | exact List.Subset.trans (by decide) hr)

theorem State.changeRoutes_frame {d} (h : Frame f s₀ s) (hp : [.egr] ⊆ f.parts) :
    Frame f s₀ (State.changeRoutes s d) := by
  unfold State.changeRoutes
  repeat' (first
    | assumption | with_reducible apply State.setOut_frame | with_reducible refine Frame.foldl (fun _ _ _ => ?_) _ ?_
    | split | exact hp (by decide) | exact List.Subset.trans (by decide) hp)

theorem State.checkBank_frame {bank} (h : Frame f s₀ s) (hp : [.host, .sent] ⊆ f.parts) (hr : [.SET_STATUS, .GLB_INT_SUM, .SET_INT_STAT] ⊆ f.regs) :
    Frame f s₀ (State.checkBank s bank) := by
  unfold State.checkBank
  try extract_lets
  repeat' (first
    | assumption | with_reducible apply State.irq_frame | with_reducible apply State.setFlag_frame | split
    | extract_lets | exact hp (by decide) | exact List.Subset.trans (by decide) hp | exact hr (by decide)
    | exact hr (by simp) | exact List.Subset.trans (by decide) hr | (refine hr ?_; split <;> decide)
    | (refine hr ?_; dsimp only; split <;> decide) | (refine hr ?_; cases tx <;> decide))

theorem State.checkFair_frame {p} (h : Frame f s₀ s) (hp : [.twl, .host, .sent] ⊆ f.parts) (hr : [.TWL_SP_FREE, .TWL_SP_FAIR_VIOL, .GLB_INT_SUM, .TWL_INT_STAT] ⊆ f.regs) :
    Frame f s₀ (State.checkFair s p) := by
  unfold State.checkFair
  try extract_lets
  repeat' (first
    | assumption | with_reducible apply State.count_frame | with_reducible apply State.irq_frame
    | with_reducible apply State.setPort_frame | with_reducible apply Frame.setReg | split | extract_lets
    | exact hp (by decide) | exact List.Subset.trans (by decide) hp | exact hr (by decide) | exact hr (by simp)
    | exact List.Subset.trans (by decide) hr)

theorem State.checkSeq_frame {p h'} (h : Frame f s₀ s) (hp : [.twl] ⊆ f.parts) (hr : [.TWL_SP_SEQ_GAP] ⊆ f.regs) :
    Frame f s₀ (State.checkSeq s p h') := by
  unfold State.checkSeq
  try extract_lets
  repeat' (first
    | assumption | with_reducible apply State.count_frame | with_reducible apply State.setPort_frame | split
    | with_reducible apply Frame.upd | extract_lets | with_reducible exact fun _ => rfl
    | exact fun n => absurd (hp (by decide)) n | exact hp (by decide) | exact List.Subset.trans (by decide) hp
    | exact hr (by decide) | exact hr (by simp) | exact List.Subset.trans (by decide) hr)

theorem State.joinMatch_frame {port flow} (h : Frame f s₀ s) (hr : [.EGR_JOIN_STAT] ⊆ f.regs) :
    Frame f s₀ (State.joinMatch s port flow) := by
  unfold State.joinMatch
  repeat' (first
    | assumption | with_reducible apply State.setFld_frame | with_reducible refine Frame.foldl (fun _ _ _ => ?_) _ ?_
    | split | exact hr (by decide) | exact hr (by simp) | exact List.Subset.trans (by decide) hr)

theorem State.giveRing_frame {n cap bytes} (h : Frame f s₀ s) (hp : [.nim] ⊆ f.parts) (hr : [.NIM_SVC_STAT] ⊆ f.regs) :
    Frame f s₀ (State.giveRing s n cap bytes) := by
  unfold State.giveRing
  try extract_lets
  repeat' (first
    | assumption | with_reducible apply State.setSvc_frame | with_reducible apply State.wakeSvc_frame | extract_lets
    | exact hp (by decide) | exact List.Subset.trans (by decide) hp | exact hr (by decide) | exact hr (by simp)
    | exact List.Subset.trans (by decide) hr)

theorem State.steerDrop_frame (h : Frame f s₀ s) (hp : [.host, .sent] ⊆ f.parts) (hr : [.NPT_STEER_DROP, .GLB_INT_SUM, .NPT_INT_STAT] ⊆ f.regs) :
    Frame f s₀ (State.steerDrop s) := by
  unfold State.steerDrop
  repeat' (first
    | assumption | with_reducible apply State.count_frame | with_reducible apply State.irq_frame
    | exact hp (by decide) | exact List.Subset.trans (by decide) hp | exact hr (by decide) | exact hr (by simp)
    | exact List.Subset.trans (by decide) hr)

theorem State.rxrVector_frame {r} (h : Frame f s₀ s) (hp : [.host, .sent, .net] ⊆ f.parts) :
    Frame f s₀ (State.rxrVector s r) := by
  unfold State.rxrVector
  try extract_lets
  repeat' (first
    | assumption | with_reducible apply State.raiseVector_frame | with_reducible apply State.setRxr_frame | split
    | extract_lets | exact hp (by decide) | exact List.Subset.trans (by decide) hp)

theorem State.closeSdiFrame_frame {n} (h : Frame f s₀ s) (hp : [.ing] ⊆ f.parts) (hr : [.ING_IN_BADFRM] ⊆ f.regs) :
    Frame f s₀ (State.closeSdiFrame s n) := by
  unfold State.closeSdiFrame
  dsimp only
  repeat' (first
    | assumption | with_reducible apply State.count_frame | with_reducible apply State.setInput_frame | split
    | exact hp (by decide) | exact List.Subset.trans (by decide) hp | exact hr (by decide) | exact hr (by simp)
    | exact List.Subset.trans (by decide) hr)

theorem State.wake_frame {src} (h : Frame f s₀ s) (hp : [.host, .sent] ⊆ f.parts) (hr : [.INS_WAKE_SRC, .INS_STATE, .GLB_INT_SUM, .INS_INT_STAT] ⊆ f.regs) :
    Frame f s₀ (State.wake s src) := by
  unfold State.wake
  repeat' (first
    | assumption | with_reducible apply State.irq_frame | with_reducible apply State.setFlag_frame
    | with_reducible apply State.setFld_frame | exact hp (by decide) | exact List.Subset.trans (by decide) hp
    | exact hr (by decide) | exact hr (by simp) | exact List.Subset.trans (by decide) hr)

theorem State.coldBoot_frame {cause} (h : Frame f s₀ s) (hp : [.host, .boot, .sent] ⊆ f.parts) (hr : [.INS_STATE, .BOOT_CAUSE, .INS_WAKE_SRC, .GLB_INT_SUM, .INS_INT_STAT] ⊆ f.regs) :
    Frame f s₀ (State.coldBoot s cause) := by
  unfold State.coldBoot
  try extract_lets
  repeat' (first
    | assumption | with_reducible apply State.setBoot_frame | with_reducible apply State.setFld_frame
    | with_reducible apply State.wake_frame | with_reducible apply Frame.upd | extract_lets
    | with_reducible exact fun _ => rfl | exact fun n => absurd (hp (by decide)) n | exact hp (by decide)
    | exact List.Subset.trans (by decide) hp | exact hr (by decide) | exact hr (by simp)
    | exact List.Subset.trans (by decide) hr)

theorem State.commitPipe_frame {t' v} (h : Frame f s₀ s) (hp : [.host, .sent, .vmp] ⊆ f.parts) (hr : [.VMP_PIPE_REPL, .GLB_INT_SUM, .VMP_INT_STAT, .VMP_PIPE_LATE, .VMP_PIPE_STAT, .VMP_PIPE_PEND] ⊆ f.regs) :
    Frame f s₀ (State.commitPipe s t' v) := by
  unfold State.commitPipe
  dsimp only
  repeat' (first
    | assumption | with_reducible apply State.count_frame | with_reducible apply State.irq_frame
    | with_reducible apply State.setFlag_frame | with_reducible apply State.setPipe_frame
    | with_reducible apply Frame.setReg | split | exact hp (by decide) | exact List.Subset.trans (by decide) hp
    | exact hr (by decide) | exact hr (by simp) | exact List.Subset.trans (by decide) hr)

theorem State.declareDiverged_frame {n frame reason} (h : Frame f s₀ s) (hp : [.host, .sent, .awl, .resp, .tks] ⊆ f.parts) (hr : [.RSL_XCHK_DIV, .RSL_XCHK_LAST, .GLB_ALERT_STAT, .GLB_INT_SUM, .GLB_INT_STAT, .AWL_MERGED, .AWL_STATUS, .INS_RET_STAT, .AWL_LOST, .AWL_INT_STAT, .RSL_INT_STAT] ⊆ f.regs) :
    Frame f s₀ (State.declareDiverged s n frame reason) := by
  unfold State.declareDiverged
  try extract_lets
  repeat' (first
    | assumption | with_reducible apply State.alarm_frame | with_reducible apply State.answer_frame
    | with_reducible apply State.count_frame | with_reducible apply Frame.setReg | with_reducible apply Frame.upd
    | extract_lets | with_reducible exact fun _ => rfl | exact fun n => absurd (hp (by decide)) n
    | exact hp (by decide) | exact List.Subset.trans (by decide) hp | exact hr (by decide) | exact hr (by simp)
    | exact List.Subset.trans (by decide) hr)

theorem State.compareX_frame {own theirs} (h : Frame f s₀ s) (hp : [.host, .sent, .awl, .resp, .tks, .freeCtr] ⊆ f.parts) (hr : [.RSL_XCHK_DIV, .RSL_XCHK_LAST, .GLB_ALERT_STAT, .GLB_INT_SUM, .GLB_INT_STAT, .AWL_MERGED, .AWL_STATUS, .INS_RET_STAT, .AWL_LOST, .AWL_INT_STAT, .RSL_INT_STAT, .RSL_XCHK_EXPL] ⊆ f.regs) :
    Frame f s₀ (State.compareX s own theirs) := by
  unfold State.compareX
  try extract_lets
  repeat' (first
    | assumption | with_reducible apply State.awlUnstated_frame | with_reducible apply State.count_frame
    | with_reducible apply State.declareDiverged_frame | split | with_reducible apply Frame.upd | extract_lets
    | with_reducible exact fun _ => rfl | exact fun n => absurd (hp (by decide)) n | exact hp (by decide)
    | exact List.Subset.trans (by decide) hp | exact hr (by decide) | exact hr (by simp)
    | exact List.Subset.trans (by decide) hr)

theorem State.countMissing_frame {d} (h : Frame f s₀ s) (hp : [.tks, .rsl] ⊆ f.parts) (hr : [.RSL_XCHK_MISS] ⊆ f.regs) :
    Frame f s₀ (State.countMissing s d) := by
  unfold State.countMissing
  try extract_lets
  repeat' (first
    | assumption | with_reducible apply State.count_frame | with_reducible apply State.setRsl_frame | split
    | with_reducible apply Frame.upd | extract_lets | with_reducible exact fun _ => rfl
    | exact fun n => absurd (hp (by decide)) n | exact hp (by decide) | exact List.Subset.trans (by decide) hp
    | exact hr (by decide) | exact hr (by simp) | exact List.Subset.trans (by decide) hr)

theorem State.countTx_frame {p bytes} (h : Frame f s₀ s) (hr : [.NPT_TX_FRAMES, .NPT_TX_BYTES] ⊆ f.regs) :
    Frame f s₀ (State.countTx s p bytes) := by
  unfold State.countTx
  repeat' (first
    | assumption | with_reducible apply State.count_frame | exact hr (by decide) | exact hr (by simp)
    | exact List.Subset.trans (by decide) hr)

theorem State.creditReturn_frame {dchip dport n} (h : Frame f s₀ s) (hp : [.twl] ⊆ f.parts) :
    Frame f s₀ (State.creditReturn s dchip dport n) := by
  unfold State.creditReturn
  try extract_lets
  repeat' (first
    | assumption | with_reducible apply Frame.upd | extract_lets | with_reducible exact fun _ => rfl
    | exact fun n => absurd (hp (by decide)) n | exact hp (by decide) | exact List.Subset.trans (by decide) hp)

theorem State.updAnswer_frame {op session st} (h : Frame f s₀ s) (hp : [.resp, .sent] ⊆ f.parts) :
    Frame f s₀ (State.updAnswer s op session st) := by
  unfold State.updAnswer
  repeat' (first
    | assumption | with_reducible apply State.answer_frame | with_reducible apply State.emit_frame
    | exact hp (by decide) | exact List.Subset.trans (by decide) hp)

theorem State.giveMsg_frame {n part slot m} (h : Frame f s₀ s) (hp : [.nim] ⊆ f.parts) (hr : [.NIM_SVC_STAT] ⊆ f.regs) :
    Frame f s₀ (State.giveMsg s n part slot m) := by
  unfold State.giveMsg
  try extract_lets
  repeat' (first
    | assumption | with_reducible apply State.setSvc_frame | with_reducible apply State.wakeSvc_frame | extract_lets
    | exact hp (by decide) | exact List.Subset.trans (by decide) hp | exact hr (by decide) | exact hr (by simp)
    | exact List.Subset.trans (by decide) hr)

theorem State.directBoundary_frame {n phase} (h : Frame f s₀ s) (hp : [.ing, .host, .sent, .awl] ⊆ f.parts) (hr : [.ING_IN_STAT, .ING_LOSS_SUM, .GLB_INT_SUM, .ING_INT_STAT, .AWL_MERGED, .AWL_STATUS, .INS_RET_STAT, .AWL_LOST, .AWL_INT_STAT, .ING_IN_LOSSCNT] ⊆ f.regs) :
    Frame f s₀ (State.directBoundary s n phase) := by
  unfold State.directBoundary
  try extract_lets
  repeat' (first
    | assumption | with_reducible apply State.enterBlack_frame | with_reducible apply State.enterReturn_frame
    | with_reducible apply State.setFlag_frame | with_reducible apply State.setInput_frame | split | extract_lets
    | exact hp (by decide) | exact List.Subset.trans (by decide) hp | exact hr (by decide) | exact hr (by simp)
    | exact List.Subset.trans (by decide) hr)

theorem State.tellPartner_frame {t' st} (h : Frame f s₀ s) (hp : [.sent] ⊆ f.parts) :
    Frame f s₀ (State.tellPartner s t' st) := by
  unfold State.tellPartner
  repeat' (first
    | assumption | with_reducible apply State.emit_frame | split | exact hp (by decide)
    | exact List.Subset.trans (by decide) hp)

theorem State.showLayer_frame {v l shown cause run} (h : Frame f s₀ s) (hr : [.VMP_LAYER_STAT] ⊆ f.regs) :
    Frame f s₀ (State.showLayer s v l shown cause run) := by
  unfold State.showLayer
  repeat' (first
    | assumption | with_reducible apply Frame.setReg | exact hr (by decide) | exact hr (by simp)
    | exact List.Subset.trans (by decide) hr)

theorem State.dropOrigin_frame {origin} (h : Frame f s₀ s) (hp : [.twl, .dir] ⊆ f.parts) (hr : [.TWL_DIR_COUNT, .TWL_DIR_OWN, .TWL_DIR_OVF] ⊆ f.regs) :
    Frame f s₀ (State.dropOrigin s origin) := by
  unfold State.dropOrigin
  try extract_lets
  repeat' (first
    | assumption | with_reducible apply State.setDirs_frame | with_reducible apply State.showDir_frame
    | with_reducible apply Frame.upd | extract_lets | with_reducible exact fun _ => rfl
    | exact fun n => absurd (hp (by decide)) n | exact hp (by decide) | exact List.Subset.trans (by decide) hp
    | exact hr (by decide) | exact hr (by simp) | exact List.Subset.trans (by decide) hr)

theorem State.dropStaged_frame (h : Frame f s₀ s) (hp : [.awl, .host, .sent] ⊆ f.parts) (hr : [.AWL_STATUS, .INS_RET_STAT, .AWL_MERGED, .AWL_LOST, .GLB_INT_SUM, .AWL_INT_STAT] ⊆ f.regs) :
    Frame f s₀ (State.dropStaged s) := by
  unfold State.dropStaged
  try extract_lets
  repeat' (first
    | assumption | with_reducible apply State.awlPersist_frame | with_reducible apply State.setAwl_frame
    | with_reducible apply State.showStaged_frame | split | extract_lets | exact hp (by decide)
    | exact List.Subset.trans (by decide) hp | exact hr (by decide) | exact hr (by simp)
    | exact List.Subset.trans (by decide) hr)

theorem State.duplicate_frame {q e tag} (h : Frame f s₀ s) (hp : [.sent, .nim, .host] ⊆ f.parts) (hr : [.NIM_DUP, .NIM_CQ_TAIL, .NIM_Q_STAT] ⊆ f.regs) :
    Frame f s₀ (State.duplicate s q e tag) := by
  unfold State.duplicate
  try extract_lets
  repeat' (first
    | assumption | with_reducible apply State.count_frame | with_reducible apply State.postAck_frame
    | with_reducible apply State.setEntry_frame | with_reducible apply State.setFld_frame
    | with_reducible apply State.writeCq_frame | split | extract_lets | exact hp (by decide)
    | exact List.Subset.trans (by decide) hp | exact hr (by decide) | exact hr (by simp)
    | exact List.Subset.trans (by decide) hr)

theorem State.endOld_frame {old e} (h : Frame f s₀ s) (hp : [.twl] ⊆ f.parts) :
    Frame f s₀ (State.endOld s old e) := by
  unfold State.endOld
  repeat' (first
    | assumption | with_reducible apply State.setRoutes_frame | split | exact hp (by decide)
    | exact List.Subset.trans (by decide) hp)

theorem State.setPtpPort_frame {k p x} (h : Frame f s₀ s) (hp : [.ntm] ⊆ f.parts) :
    Frame f s₀ (State.setPtpPort s k p x) := by
  unfold State.setPtpPort
  repeat' (first
    | assumption | with_reducible apply State.setNtm_frame | exact hp (by decide)
    | exact List.Subset.trans (by decide) hp)

theorem State.exchange_frame {k p d} (h : Frame f s₀ s) (hp : [.ntm] ⊆ f.parts) (hr : [.NTM_SRV_REJECT, .NTM_PORT_MPD] ⊆ f.regs) :
    Frame f s₀ (State.exchange s k p d) := by
  unfold State.exchange
  try extract_lets
  repeat' (first
    | assumption | with_reducible apply State.count_frame | with_reducible apply State.setPtpPort_frame
    | with_reducible apply Frame.setReg | split | extract_lets | exact hp (by decide)
    | exact List.Subset.trans (by decide) hp | exact hr (by decide) | exact hr (by simp)
    | exact List.Subset.trans (by decide) hr)

theorem State.fallbackFails_frame (h : Frame f s₀ s) (hp : [.host, .sent, .awl] ⊆ f.parts) (hr : [.AWL_STATUS, .GLB_INT_SUM, .AWL_INT_STAT, .GLB_ALERT_STAT, .GLB_INT_STAT, .AWL_MERGED, .INS_RET_STAT, .AWL_LOST] ⊆ f.regs) :
    Frame f s₀ (State.fallbackFails s) := by
  unfold State.fallbackFails
  try extract_lets
  repeat' (first
    | assumption | with_reducible apply State.alert_frame | with_reducible apply State.awlPersist_frame
    | with_reducible apply State.irq_frame | with_reducible apply State.setFlag_frame
    | with_reducible apply State.setFld_frame | extract_lets | exact hp (by decide)
    | exact List.Subset.trans (by decide) hp | exact hr (by decide) | exact hr (by simp)
    | exact List.Subset.trans (by decide) hr)

theorem State.findHead_frame (h : Frame f s₀ s) (hr : [.AWL_HEAD, .AWL_COUNT, .AWL_OLDEST] ⊆ f.regs) :
    Frame f s₀ (State.findHead s) := by
  unfold State.findHead
  try extract_lets
  repeat' (first
    | assumption | with_reducible apply State.setFld_frame | with_reducible apply State.showAwl_frame | extract_lets
    | exact hr (by decide) | exact hr (by simp) | exact List.Subset.trans (by decide) hr)

theorem State.flagSources_frame {d} (h : Frame f s₀ s) (hp : [.egr] ⊆ f.parts) :
    Frame f s₀ (State.flagSources s d) := by
  unfold State.flagSources
  repeat' (first
    | assumption | with_reducible apply State.setOut_frame | with_reducible refine Frame.foldl (fun _ _ _ => ?_) _ ?_
    | exact hp (by decide) | exact List.Subset.trans (by decide) hp)

theorem State.flashProgramFails_frame (h : Frame f s₀ s) (hp : [.awl, .keep, .host, .sent] ⊆ f.parts) (hr : [.SET_SECTORS, .GLB_INT_SUM, .SET_INT_STAT, .AWL_MERGED, .AWL_STATUS, .INS_RET_STAT, .AWL_LOST, .AWL_INT_STAT, .GLB_ALERT_STAT, .GLB_INT_STAT, .AWL_HEAD] ⊆ f.regs) :
    Frame f s₀ (State.flashProgramFails s) := by
  unfold State.flashProgramFails
  try extract_lets
  repeat' (first
    | assumption | with_reducible apply State.fallbackFails_frame | with_reducible apply State.retireSector_frame
    | with_reducible apply State.setAwl_frame | with_reducible apply State.setFld_frame | split | extract_lets
    | exact hp (by decide) | exact List.Subset.trans (by decide) hp | exact hr (by decide) | exact hr (by simp)
    | exact List.Subset.trans (by decide) hr)

theorem State.followTakes_frame (h : Frame f s₀ s) (hp : [.egr] ⊆ f.parts) :
    Frame f s₀ (State.followTakes s) := by
  unfold State.followTakes
  repeat' (first
    | assumption | with_reducible apply State.setOut_frame | with_reducible refine Frame.foldl (fun _ _ _ => ?_) _ ?_
    | split | exact hp (by decide) | exact List.Subset.trans (by decide) hp)

theorem State.sendLace_frame {k h' relayed} (h : Frame f s₀ s) (hp : [.sent] ⊆ f.parts) (hr : [.TWL_LK_FWD, .TWL_LK_TX_CELLS] ⊆ f.regs) :
    Frame f s₀ (State.sendLace s k h' relayed) := by
  unfold State.sendLace
  dsimp only
  repeat' (first
    | assumption | with_reducible apply State.count_frame | with_reducible apply State.emit_frame | split
    | exact hp (by decide) | exact List.Subset.trans (by decide) hp | exact hr (by decide) | exact hr (by simp)
    | exact List.Subset.trans (by decide) hr)

theorem State.forward_frame {k h' relay} (h : Frame f s₀ s) (hp : [.host, .sent] ⊆ f.parts) (hr : [.TWL_HOP_DROP, .GLB_INT_SUM, .TWL_INT_STAT, .TWL_LK_FWD, .TWL_LK_TX_CELLS] ⊆ f.regs) :
    Frame f s₀ (State.forward s k h' relay) := by
  unfold State.forward
  repeat' (first
    | assumption | with_reducible apply State.count_frame | with_reducible apply State.irq_frame
    | with_reducible apply State.sendLace_frame | split | exact hp (by decide)
    | exact List.Subset.trans (by decide) hp | exact hr (by decide) | exact hr (by simp)
    | exact List.Subset.trans (by decide) hr)

theorem State.giveUp_frame {core run} (h : Frame f s₀ s) (hp : [.nim] ⊆ f.parts) :
    Frame f s₀ (State.giveUp s core run) := by
  unfold State.giveUp
  repeat' (first
    | assumption | with_reducible apply State.resume_frame | with_reducible apply State.setCtx_frame
    | with_reducible apply State.setRunning_frame | split | exact hp (by decide)
    | exact List.Subset.trans (by decide) hp)

theorem State.setFreq_frame {f'} (h : Frame f s₀ s) (hr : [.LST_FREQ] ⊆ f.regs) :
    Frame f s₀ (State.setFreq s f') := by
  unfold State.setFreq
  repeat' (first
    | assumption | with_reducible apply Frame.setReg | exact hr (by decide) | exact hr (by simp)
    | exact List.Subset.trans (by decide) hr)

theorem State.showSel_frame {r} (h : Frame f s₀ s) (hp : [.host, .sent] ⊆ f.parts) (hr : [.LST_REF_STAT, .NTM_SRV_STAT, .LST_STATUS, .LST_SWITCHES, .GLB_INT_SUM, .LST_INT_STAT] ⊆ f.regs) :
    Frame f s₀ (State.showSel s r) := by
  unfold State.showSel
  dsimp only
  repeat' (first
    | assumption | with_reducible apply State.count_frame | with_reducible apply State.irq_frame
    | with_reducible apply State.setFlag_frame | with_reducible apply State.setFld_frame | split
    | exact hp (by decide) | exact List.Subset.trans (by decide) hp | exact hr (by decide) | exact hr (by simp)
    | exact List.Subset.trans (by decide) hr)

theorem State.holdOver_frame {mean} (h : Frame f s₀ s) (hp : [.host, .sent, .awl, .lst] ⊆ f.parts) (hr : [.LST_REF_STAT, .NTM_SRV_STAT, .LST_STATUS, .LST_SWITCHES, .GLB_INT_SUM, .LST_INT_STAT, .LST_FREQ, .LST_TAG, .AWL_MERGED, .AWL_STATUS, .INS_RET_STAT, .AWL_LOST, .AWL_INT_STAT, .LST_HOLD_FREQ, .LST_HOLD_STAT] ⊆ f.regs) :
    Frame f s₀ (State.holdOver s mean) := by
  unfold State.holdOver
  try extract_lets
  repeat' (first
    | assumption | with_reducible apply State.enterLst_frame | with_reducible apply State.setFld_frame
    | with_reducible apply State.setFreq_frame | with_reducible apply State.setLst_frame
    | with_reducible apply Frame.setReg | with_reducible apply State.showHold_frame
    | with_reducible apply State.showSel_frame | split | extract_lets | exact hp (by decide)
    | exact List.Subset.trans (by decide) hp | exact hr (by decide) | exact hr (by simp)
    | exact List.Subset.trans (by decide) hr)

theorem State.huntNext_frame {n} (h : Frame f s₀ s) (hp : [.ing] ⊆ f.parts) :
    Frame f s₀ (State.huntNext s n) := by
  unfold State.huntNext
  try extract_lets
  repeat' (first
    | assumption | with_reducible apply State.setInput_frame | extract_lets | exact hp (by decide)
    | exact List.Subset.trans (by decide) hp)

theorem State.showSeconds_frame (h : Frame f s₀ s) (hr : [.RSL_PAIR_STAT, .UPD_LOCK, .UPD_CONFIRM_LEFT] ⊆ f.regs) :
    Frame f s₀ (State.showSeconds s) := by
  unfold State.showSeconds
  dsimp only
  repeat' (first
    | assumption | with_reducible apply State.setFld_frame | split | exact hr (by decide) | exact hr (by simp)
    | exact List.Subset.trans (by decide) hr)

theorem State.waitTick_frame (h : Frame f s₀ s) (hr : [.LST_REF_STAT] ⊆ f.regs) :
    Frame f s₀ (State.waitTick s) := by
  unfold State.waitTick
  repeat' (first
    | assumption | with_reducible apply State.setFld_frame | with_reducible refine Frame.foldl (fun _ _ _ => ?_) _ ?_
    | split | exact hr (by decide) | exact hr (by simp) | exact List.Subset.trans (by decide) hr)

theorem State.secondTick_frame (h : Frame f s₀ s) (hr : [.INS_OPSEC, .LST_REF_STAT, .RSL_PAIR_STAT, .UPD_LOCK, .UPD_CONFIRM_LEFT, .LST_HOLD_STAT] ⊆ f.regs) :
    Frame f s₀ (State.secondTick s) := by
  unfold State.secondTick
  dsimp only
  repeat' (first
    | assumption | with_reducible apply State.count_frame | with_reducible apply State.showHold_frame
    | with_reducible apply State.showSeconds_frame | with_reducible apply State.waitTick_frame | split
    | exact hr (by decide) | exact hr (by simp) | exact List.Subset.trans (by decide) hr)

theorem State.steerTick_frame (h : Frame f s₀ s) (hp : [.lst] ⊆ f.parts) (hr : [.LST_FREQ] ⊆ f.regs) :
    Frame f s₀ (State.steerTick s) := by
  unfold State.steerTick
  try extract_lets
  repeat' (first
    | assumption | with_reducible apply State.setFreq_frame | with_reducible apply State.setLst_frame | split
    | extract_lets | exact hp (by decide) | exact List.Subset.trans (by decide) hp | exact hr (by decide)
    | exact hr (by simp) | exact List.Subset.trans (by decide) hr)

theorem State.imageSel_frame {n src frame} (h : Frame f s₀ s) (hp : [.tks] ⊆ f.parts) :
    Frame f s₀ (State.imageSel s n src frame) := by
  unfold State.imageSel
  repeat' (first
    | assumption | with_reducible apply Frame.upd | with_reducible exact fun _ => rfl
    | exact fun n => absurd (hp (by decide)) n | exact hp (by decide) | exact List.Subset.trans (by decide) hp)

theorem State.slip_frame {n} (h : Frame f s₀ s) (hp : [.ing] ⊆ f.parts) (hr : [.ING_IN_SLIP] ⊆ f.regs) :
    Frame f s₀ (State.slip s n) := by
  unfold State.slip
  repeat' (first
    | assumption | with_reducible apply State.count_frame | with_reducible apply State.setInput_frame
    | exact hp (by decide) | exact List.Subset.trans (by decide) hp | exact hr (by decide) | exact hr (by simp)
    | exact List.Subset.trans (by decide) hr)

theorem State.joinLinkUp_frame {port} (h : Frame f s₀ s) (hp : [.sent, .egr] ⊆ f.parts) (hr : [.EGR_JOIN_REP, .EGR_JOIN_STAT] ⊆ f.regs) :
    Frame f s₀ (State.joinLinkUp s port) := by
  unfold State.joinLinkUp
  repeat' (first
    | assumption | with_reducible apply State.changeReport_frame
    | with_reducible refine Frame.foldl (fun _ _ _ => ?_) _ ?_ | split | exact hp (by decide)
    | exact List.Subset.trans (by decide) hp | exact hr (by decide) | exact hr (by simp)
    | exact List.Subset.trans (by decide) hr)

theorem State.journalAlone_frame (h : Frame f s₀ s) (hp : [.nim, .sent, .host] ⊆ f.parts) (hr : [.NIM_Q_HWM, .NIM_ACCEPTED, .RSL_PAIR_STAT, .NIM_Q_STAT, .NIM_CQ_TAIL] ⊆ f.regs) :
    Frame f s₀ (State.journalAlone s) := by
  unfold State.journalAlone
  repeat' (first
    | assumption | with_reducible apply State.ackEntry_frame
    | with_reducible refine Frame.foldl (fun _ _ _ => ?_) _ ?_ | exact hp (by decide)
    | exact List.Subset.trans (by decide) hp | exact hr (by decide) | exact hr (by simp)
    | exact List.Subset.trans (by decide) hr)

theorem State.readdFails_frame {k} (h : Frame f s₀ s) (hp : [.net, .freeCtr, .awl, .host, .sent] ⊆ f.parts) (hr : [.AWL_MERGED, .AWL_STATUS, .INS_RET_STAT, .AWL_LOST, .GLB_INT_SUM, .AWL_INT_STAT] ⊆ f.regs) :
    Frame f s₀ (State.readdFails s k) := by
  unfold State.readdFails
  try extract_lets
  repeat' (first
    | assumption | with_reducible apply State.awlUnstated_frame | with_reducible apply State.setLink_frame
    | extract_lets | exact hp (by decide) | exact List.Subset.trans (by decide) hp | exact hr (by decide)
    | exact hr (by simp) | exact List.Subset.trans (by decide) hr)

theorem State.setStopped_frame {req b} (h : Frame f s₀ s) (hp : [.twl] ⊆ f.parts) :
    Frame f s₀ (State.setStopped s req b) := by
  unfold State.setStopped
  repeat' (first
    | assumption | with_reducible apply State.setRoutes_frame | exact hp (by decide)
    | exact List.Subset.trans (by decide) hp)

theorem State.layerFlag_frame {v} (h : Frame f s₀ s) (hp : [.egr] ⊆ f.parts) :
    Frame f s₀ (State.layerFlag s v) := by
  unfold State.layerFlag
  try extract_lets
  repeat' (first
    | assumption | with_reducible apply State.setOut_frame | with_reducible refine Frame.foldl (fun _ _ _ => ?_) _ ?_
    | split | extract_lets | exact hp (by decide) | exact List.Subset.trans (by decide) hp)

theorem State.storeTrain_frame {k id} (h : Frame f s₀ s) (hp : [.net] ⊆ f.parts) :
    Frame f s₀ (State.storeTrain s k id) := by
  unfold State.storeTrain
  try extract_lets
  repeat' (first
    | assumption | with_reducible apply State.setLink_frame | extract_lets | exact hp (by decide)
    | exact List.Subset.trans (by decide) hp)

theorem State.refusedOrder_frame {q seq tag st} (h : Frame f s₀ s) (hp : [.sent, .nim, .host] ⊆ f.parts) (hr : [.NIM_CQ_TAIL, .GLB_INT_SUM, .NIM_INT_STAT, .NIM_REFUSED, .NIM_Q_REFUSED] ⊆ f.regs) :
    Frame f s₀ (State.refusedOrder s q seq tag st) := by
  unfold State.refusedOrder
  try extract_lets
  repeat' (first
    | assumption | with_reducible apply State.count_frame | with_reducible apply State.irq_frame
    | with_reducible apply State.postAck_frame | split | extract_lets | exact hp (by decide)
    | exact List.Subset.trans (by decide) hp | exact hr (by decide) | exact hr (by simp)
    | exact List.Subset.trans (by decide) hr)

theorem State.movePhase_frame {ps} (h : Frame f s₀ s) (hp : [.tb] ⊆ f.parts) :
    Frame f s₀ (State.movePhase s ps) := by
  unfold State.movePhase
  try extract_lets
  repeat' (first
    | assumption | with_reducible refine Frame.foldl (fun _ _ _ => ?_) _ ?_ | split | with_reducible apply Frame.upd
    | extract_lets | with_reducible exact fun _ => rfl | exact fun n => absurd (hp (by decide)) n
    | exact hp (by decide) | exact List.Subset.trans (by decide) hp)

theorem State.moveRefclk_frame {to_} (h : Frame f s₀ s) (hp : [.host, .sent, .awl] ⊆ f.parts) (hr : [.LST_STATUS, .AWL_MERGED, .AWL_STATUS, .INS_RET_STAT, .AWL_LOST, .GLB_INT_SUM, .AWL_INT_STAT, .LST_INT_STAT, .WLT_NL_CLKMOVE, .WLT_INT_STAT] ⊆ f.regs) :
    Frame f s₀ (State.moveRefclk s to_) := by
  unfold State.moveRefclk
  try extract_lets
  repeat' (first
    | assumption | with_reducible apply State.count_frame | with_reducible apply State.event_frame
    | with_reducible apply State.irq_frame | with_reducible apply State.setFlag_frame
    | with_reducible apply State.setFld_frame | extract_lets | exact hp (by decide)
    | exact List.Subset.trans (by decide) hp | exact hr (by decide) | exact hr (by simp)
    | exact List.Subset.trans (by decide) hr)

theorem State.showMismatch_frame {d} (h : Frame f s₀ s) (hr : [.EGR_OUT_STAT] ⊆ f.regs) :
    Frame f s₀ (State.showMismatch s d) := by
  unfold State.showMismatch
  try extract_lets
  repeat' (first
    | assumption | with_reducible apply State.setFlag_frame | with_reducible refine Frame.foldl (fun _ _ _ => ?_) _ ?_
    | split | extract_lets | exact hr (by decide) | exact hr (by simp) | exact List.Subset.trans (by decide) hr)

theorem State.notOwner_frame {op session} (h : Frame f s₀ s) (hp : [.resp, .sent] ⊆ f.parts) (hr : [.UPD_PKT_BUSY] ⊆ f.regs) :
    Frame f s₀ (State.notOwner s op session) := by
  unfold State.notOwner
  repeat' (first
    | assumption | with_reducible apply State.count_frame | with_reducible apply State.updAnswer_frame
    | exact hp (by decide) | exact List.Subset.trans (by decide) hp | exact hr (by decide) | exact hr (by simp)
    | exact List.Subset.trans (by decide) hr)

theorem State.outputBoundary_frame {n} (h : Frame f s₀ s) (hp : [.egr] ⊆ f.parts) (hr : [.EGR_OUT_STAT] ⊆ f.regs) :
    Frame f s₀ (State.outputBoundary s n) := by
  unfold State.outputBoundary
  dsimp only
  repeat' (first
    | assumption | with_reducible apply State.setFlag_frame | with_reducible apply State.setOut_frame | split
    | exact hp (by decide) | exact List.Subset.trans (by decide) hp | exact hr (by decide) | exact hr (by simp)
    | exact List.Subset.trans (by decide) hr)

theorem State.outputsBoundary_frame {d} (h : Frame f s₀ s) (hp : [.egr] ⊆ f.parts) (hr : [.EGR_OUT_STAT] ⊆ f.regs) :
    Frame f s₀ (State.outputsBoundary s d) := by
  unfold State.outputsBoundary
  repeat' (first
    | assumption | with_reducible apply State.outputBoundary_frame
    | with_reducible refine Frame.foldl (fun _ _ _ => ?_) _ ?_ | exact hp (by decide)
    | exact List.Subset.trans (by decide) hp | exact hr (by decide) | exact hr (by simp)
    | exact List.Subset.trans (by decide) hr)

theorem State.ownerSpoke_frame (h : Frame f s₀ s) (hp : [.upd] ⊆ f.parts) (hr : [.UPD_LOCK] ⊆ f.regs) :
    Frame f s₀ (State.ownerSpoke s) := by
  unfold State.ownerSpoke
  repeat' (first
    | assumption | with_reducible apply State.setFld_frame | with_reducible apply State.setUpd_frame
    | exact hp (by decide) | exact List.Subset.trans (by decide) hp | exact hr (by decide) | exact hr (by simp)
    | exact List.Subset.trans (by decide) hr)

theorem State.setQueue_frame {p q a} (h : Frame f s₀ s) (hp : [.twl] ⊆ f.parts) (hr : [.TWL_AQ_STAT] ⊆ f.regs) :
    Frame f s₀ (State.setQueue s p q a) := by
  unfold State.setQueue
  try extract_lets
  repeat' (first
    | assumption | with_reducible apply State.setPort_frame | with_reducible apply Frame.setReg | extract_lets
    | exact hp (by decide) | exact List.Subset.trans (by decide) hp | exact hr (by decide) | exact hr (by simp)
    | exact List.Subset.trans (by decide) hr)

theorem State.postEvent_frame {k data} (h : Frame f s₀ s) (hp : [.nim, .sent, .host] ⊆ f.parts) (hr : [.NIM_CQ_TAIL, .NIM_CQ_LOST, .GLB_INT_SUM, .NIM_INT_STAT] ⊆ f.regs) :
    Frame f s₀ (State.postEvent s k data) := by
  unfold State.postEvent
  repeat' (first
    | assumption | with_reducible apply State.postRecord_frame | split | exact hp (by decide)
    | exact List.Subset.trans (by decide) hp | exact hr (by decide) | exact hr (by simp)
    | exact List.Subset.trans (by decide) hr)

theorem State.writeCounters_frame (h : Frame f s₀ s) (hp : [.keep] ⊆ f.parts) :
    Frame f s₀ (State.writeCounters s) := by
  unfold State.writeCounters
  repeat' (first
    | assumption | with_reducible apply State.setKeep_frame | exact hp (by decide)
    | exact List.Subset.trans (by decide) hp)

theorem State.queuePtp_frame {p f'} (h : Frame f s₀ s) (hp : [.net] ⊆ f.parts) :
    Frame f s₀ (State.queuePtp s p f') := by
  unfold State.queuePtp
  try extract_lets
  repeat' (first
    | assumption | with_reducible apply State.setNetPort_frame | extract_lets | exact hp (by decide)
    | exact List.Subset.trans (by decide) hp)

theorem State.ptpSend_frame {k p kind} (h : Frame f s₀ s) (hp : [.net] ⊆ f.parts) (hr : [.NTM_PORT_TXMSG] ⊆ f.regs) :
    Frame f s₀ (State.ptpSend s k p kind) := by
  unfold State.ptpSend
  try extract_lets
  repeat' (first
    | assumption | with_reducible apply State.count_frame | with_reducible apply State.queuePtp_frame | extract_lets
    | exact hp (by decide) | exact List.Subset.trans (by decide) hp | exact hr (by decide) | exact hr (by simp)
    | exact List.Subset.trans (by decide) hr)

theorem State.ptpRelay_frame {k p m} (h : Frame f s₀ s) (hp : [.net] ⊆ f.parts) (hr : [.NTM_PORT_TXMSG] ⊆ f.regs) :
    Frame f s₀ (State.ptpRelay s k p m) := by
  unfold State.ptpRelay
  repeat' (first
    | assumption | with_reducible apply State.count_frame | with_reducible apply State.queueCtrl_frame
    | with_reducible apply State.queuePtp_frame | with_reducible refine Frame.foldl (fun _ _ _ => ?_) _ ?_ | split
    | exact hp (by decide) | exact List.Subset.trans (by decide) hp | exact hr (by decide) | exact hr (by simp)
    | exact List.Subset.trans (by decide) hr)

theorem State.ptpRequest_frame {k p kind tx} (h : Frame f s₀ s) (hp : [.net, .ntm] ⊆ f.parts) (hr : [.NTM_PORT_TXMSG] ⊆ f.regs) :
    Frame f s₀ (State.ptpRequest s k p kind tx) := by
  unfold State.ptpRequest
  try extract_lets
  repeat' (first
    | assumption | with_reducible apply State.ptpSend_frame | with_reducible apply State.setPtpPort_frame
    | extract_lets | exact hp (by decide) | exact List.Subset.trans (by decide) hp | exact hr (by decide)
    | exact hr (by simp) | exact List.Subset.trans (by decide) hr)

theorem State.recalStep_frame {i offset larger} (h : Frame f s₀ s) (hp : [.net] ⊆ f.parts) :
    Frame f s₀ (State.recalStep s i offset larger) := by
  unfold State.recalStep
  try extract_lets
  repeat' (first
    | assumption | with_reducible apply State.setLane_frame | split | extract_lets | exact hp (by decide)
    | exact List.Subset.trans (by decide) hp)

theorem State.showLag_frame (h : Frame f s₀ s) (hr : [.TWL_DIR_LAG] ⊆ f.regs) :
    Frame f s₀ (State.showLag s) := by
  unfold State.showLag
  try extract_lets
  repeat' (first
    | assumption | with_reducible apply Frame.setReg | extract_lets | exact hr (by decide) | exact hr (by simp)
    | exact List.Subset.trans (by decide) hr)

theorem State.receiverLock_frame {n rate} (h : Frame f s₀ s) (hp : [.ing] ⊆ f.parts) (hr : [.ING_SDI_RATE] ⊆ f.regs) :
    Frame f s₀ (State.receiverLock s n rate) := by
  unfold State.receiverLock
  try extract_lets
  repeat' (first
    | assumption | with_reducible apply State.setInput_frame | with_reducible apply Frame.setReg | extract_lets
    | exact hp (by decide) | exact List.Subset.trans (by decide) hp | exact hr (by decide) | exact hr (by simp)
    | exact List.Subset.trans (by decide) hr)

theorem State.refclkSettle_frame (h : Frame f s₀ s) (hp : [.host, .sent, .awl] ⊆ f.parts) (hr : [.LST_STATUS, .AWL_MERGED, .AWL_STATUS, .INS_RET_STAT, .AWL_LOST, .GLB_INT_SUM, .AWL_INT_STAT, .LST_INT_STAT, .WLT_NL_CLKMOVE, .WLT_INT_STAT] ⊆ f.regs) :
    Frame f s₀ (State.refclkSettle s) := by
  unfold State.refclkSettle
  repeat' (first
    | assumption | with_reducible apply State.moveRefclk_frame | split | exact hp (by decide)
    | exact List.Subset.trans (by decide) hp | exact hr (by decide) | exact hr (by simp)
    | exact List.Subset.trans (by decide) hr)

theorem State.relayArb_frame {h' relay} (h : Frame f s₀ s) (hp : [.host, .sent] ⊆ f.parts) (hr : [.TWL_NO_ROUTE, .TWL_HOP_DROP, .GLB_INT_SUM, .TWL_INT_STAT, .TWL_LK_FWD, .TWL_LK_TX_CELLS] ⊆ f.regs) :
    Frame f s₀ (State.relayArb s h' relay) := by
  unfold State.relayArb
  repeat' (first
    | assumption | with_reducible apply State.count_frame | with_reducible apply State.forward_frame | split
    | exact hp (by decide) | exact List.Subset.trans (by decide) hp | exact hr (by decide) | exact hr (by simp)
    | exact List.Subset.trans (by decide) hr)

theorem State.repairRow_frame {b} (h : Frame f s₀ s) (hp : [.rsl, .host, .sent, .awl] ⊆ f.parts) (hr : [.RSL_REPAIR_USED, .RSL_STATUS, .AWL_MERGED, .AWL_STATUS, .INS_RET_STAT, .AWL_LOST, .GLB_INT_SUM, .AWL_INT_STAT, .RSL_INT_STAT, .RSL_SRAM_REP] ⊆ f.regs) :
    Frame f s₀ (State.repairRow s b) := by
  unfold State.repairRow
  try extract_lets
  repeat' (first
    | assumption | with_reducible apply State.addRepair_frame | with_reducible apply State.setFld_frame
    | with_reducible apply State.spareLow_frame | split | with_reducible apply Frame.upd | extract_lets
    | with_reducible exact fun _ => rfl | exact fun n => absurd (hp (by decide)) n | exact hp (by decide)
    | exact List.Subset.trans (by decide) hp | exact hr (by decide) | exact hr (by simp)
    | exact List.Subset.trans (by decide) hr)

theorem State.replicate_frame {h' relay} (h : Frame f s₀ s) (hp : [.host, .sent] ⊆ f.parts) (hr : [.TWL_NO_ROUTE, .TWL_HOP_DROP, .GLB_INT_SUM, .TWL_INT_STAT, .TWL_LK_FWD, .TWL_LK_TX_CELLS] ⊆ f.regs) :
    Frame f s₀ (State.replicate s h' relay) := by
  unfold State.replicate
  try extract_lets
  repeat' (first
    | assumption | with_reducible apply State.count_frame | with_reducible apply State.forward_frame
    | with_reducible refine Frame.foldl (fun _ _ _ => ?_) _ ?_ | split | extract_lets | exact hp (by decide)
    | exact List.Subset.trans (by decide) hp | exact hr (by decide) | exact hr (by simp)
    | exact List.Subset.trans (by decide) hr)

theorem State.routeReady_frame {req} (h : Frame f s₀ s) (hp : [.egr, .tks, .sent] ⊆ f.parts) (hr : [.EGR_OUT_TAKE] ⊆ f.regs) :
    Frame f s₀ (State.routeReady s req) := by
  unfold State.routeReady
  try extract_lets
  repeat' (first
    | assumption | with_reducible apply State.setFlag_frame | with_reducible apply State.setOut_frame
    | with_reducible apply State.setTake_frame | with_reducible apply State.tellPartner_frame
    | with_reducible refine Frame.foldl (fun _ _ _ => ?_) _ ?_ | split | extract_lets | exact hp (by decide)
    | exact List.Subset.trans (by decide) hp | exact hr (by decide) | exact hr (by simp)
    | exact List.Subset.trans (by decide) hr)

theorem State.restoreMems_frame {x} (h : Frame f s₀ s) (hp : [.twd, .vmp] ⊆ f.parts) :
    Frame f s₀ (State.restoreMems s x) := by
  unfold State.restoreMems
  repeat' (first
    | assumption | with_reducible apply Frame.upd | with_reducible exact fun _ => rfl
    | exact fun n => absurd (hp (by decide)) n | exact hp (by decide) | exact List.Subset.trans (by decide) hp)

theorem State.resumeLink_frame {k} (h : Frame f s₀ s) (hp : [.twl] ⊆ f.parts) :
    Frame f s₀ (State.resumeLink s k) := by
  unfold State.resumeLink
  try extract_lets
  repeat' (first
    | assumption | with_reducible apply State.setStopped_frame
    | with_reducible refine Frame.foldl (fun _ _ _ => ?_) _ ?_ | split | extract_lets | exact hp (by decide)
    | exact List.Subset.trans (by decide) hp)

theorem State.resyncEnd_frame (h : Frame f s₀ s) (hr : [.TWL_STATUS] ⊆ f.regs) :
    Frame f s₀ (State.resyncEnd s) := by
  unfold State.resyncEnd
  repeat' (first
    | assumption | with_reducible apply State.setFlag_frame | split | exact hr (by decide) | exact hr (by simp)
    | exact List.Subset.trans (by decide) hr)

theorem State.retirePage_frame {page bank row} (h : Frame f s₀ s) (hp : [.rsl, .host, .sent, .awl] ⊆ f.parts) (hr : [.RSL_HBM_RETIRED, .RSL_REPAIR_USED, .RSL_STATUS, .AWL_MERGED, .AWL_STATUS, .INS_RET_STAT, .AWL_LOST, .GLB_INT_SUM, .AWL_INT_STAT, .RSL_INT_STAT] ⊆ f.regs) :
    Frame f s₀ (State.retirePage s page bank row) := by
  unfold State.retirePage
  try extract_lets
  repeat' (first
    | assumption | with_reducible apply State.addRepair_frame | with_reducible apply Frame.setReg
    | with_reducible apply State.setRsl_frame | split | extract_lets | exact hp (by decide)
    | exact List.Subset.trans (by decide) hp | exact hr (by decide) | exact hr (by simp)
    | exact List.Subset.trans (by decide) hr)

theorem State.sendLeg_frame {k i legB ts seq marker} (h : Frame f s₀ s) (hp : [.sent] ⊆ f.parts) (hr : [.EGR_VSND_STAT, .EGR_VSND_TXB, .EGR_VSND_TXA, .EGR_ASND_TX, .EGR_XSND_TX] ⊆ f.regs) :
    Frame f s₀ (State.sendLeg s k i legB ts seq marker) := by
  unfold State.sendLeg
  dsimp only
  repeat' (first
    | assumption | with_reducible apply State.count_frame | with_reducible apply State.emit_frame
    | with_reducible apply State.setFlag_frame | split | exact hp (by decide) | exact List.Subset.trans (by decide) hp
    | exact hr (by decide) | exact hr (by simp) | exact List.Subset.trans (by decide) hr
    | (refine hr ?_; split <;> decide) | (refine hr ?_; dsimp only; split <;> decide)
    | (refine hr ?_; cases tx <;> decide))

theorem State.sendRtp_frame {k i ts seq marker} (h : Frame f s₀ s) (hp : [.sent] ⊆ f.parts) (hr : [.EGR_VSND_STAT, .EGR_VSND_TXB, .EGR_VSND_TXA, .EGR_ASND_TX, .EGR_XSND_TX] ⊆ f.regs) :
    Frame f s₀ (State.sendRtp s k i ts seq marker) := by
  unfold State.sendRtp
  dsimp only
  repeat' (first
    | assumption | with_reducible apply State.sendLeg_frame | split | exact hp (by decide)
    | exact List.Subset.trans (by decide) hp | exact hr (by decide) | exact hr (by simp)
    | exact List.Subset.trans (by decide) hr)

theorem State.sendX_frame {d obs} (h : Frame f s₀ s) (hp : [.tks, .sent, .rsl] ⊆ f.parts) (hr : [.RSL_XCHK_MISS] ⊆ f.regs) :
    Frame f s₀ (State.sendX s d obs) := by
  unfold State.sendX
  try extract_lets
  repeat' (first
    | assumption | with_reducible apply State.countMissing_frame
    | with_reducible refine Frame.foldl (fun _ _ _ => ?_) _ ?_ | split | with_reducible apply Frame.upd | extract_lets
    | with_reducible exact fun _ => rfl | exact fun n => absurd (hp (by decide)) n | exact hp (by decide)
    | exact List.Subset.trans (by decide) hp | exact hr (by decide) | exact hr (by simp)
    | exact List.Subset.trans (by decide) hr)

theorem State.senderOff_frame {k i} (h : Frame f s₀ s) (hp : [.egr] ⊆ f.parts) (hr : [.EGR_VSND_STAT] ⊆ f.regs) :
    Frame f s₀ (State.senderOff s k i) := by
  unfold State.senderOff
  try extract_lets
  repeat' (first
    | assumption | with_reducible apply State.setFlag_frame | with_reducible apply State.setSender_frame | split
    | extract_lets | exact hp (by decide) | exact List.Subset.trans (by decide) hp | exact hr (by decide)
    | exact hr (by simp) | exact List.Subset.trans (by decide) hr)

theorem State.setCore_frame {below} (h : Frame f s₀ s) (hp : [.rsl, .sent] ⊆ f.parts) (hr : [.RSL_AVS_STAT] ⊆ f.regs) :
    Frame f s₀ (State.setCore s below) := by
  unfold State.setCore
  try extract_lets
  repeat' (first
    | assumption | with_reducible apply State.emit_frame | with_reducible apply State.setFld_frame
    | with_reducible apply State.setRsl_frame | split | extract_lets | exact hp (by decide)
    | exact List.Subset.trans (by decide) hp | exact hr (by decide) | exact hr (by simp)
    | exact List.Subset.trans (by decide) hr)

theorem State.setMask_frame {v masked} (h : Frame f s₀ s) (hp : [.host, .sent] ⊆ f.parts) :
    Frame f s₀ (State.setMask s v masked) := by
  unfold State.setMask
  try extract_lets
  repeat' (first
    | assumption | with_reducible apply State.emit_frame | split | with_reducible apply Frame.upd | extract_lets
    | with_reducible exact fun _ => rfl | exact fun n => absurd (hp (by decide)) n | exact hp (by decide)
    | exact List.Subset.trans (by decide) hp)

theorem State.showDisagree_frame {o} (h : Frame f s₀ s) (hp : [.host, .sent, .awl] ⊆ f.parts) (hr : [.LST_REF_STAT, .AWL_MERGED, .AWL_STATUS, .INS_RET_STAT, .AWL_LOST, .GLB_INT_SUM, .AWL_INT_STAT, .LST_INT_STAT] ⊆ f.regs) :
    Frame f s₀ (State.showDisagree s o) := by
  unfold State.showDisagree
  try extract_lets
  repeat' (first
    | assumption | with_reducible apply State.event_frame | with_reducible apply State.setFlag_frame
    | with_reducible refine Frame.foldl (fun _ _ _ => ?_) _ ?_ | split | extract_lets | exact hp (by decide)
    | exact List.Subset.trans (by decide) hp | exact hr (by decide) | exact hr (by simp)
    | exact List.Subset.trans (by decide) hr)

theorem State.showEligible_frame {p} (h : Frame f s₀ s) (hp : [.twl] ⊆ f.parts) (hr : [.TWL_SP_AQ_ACTIVE] ⊆ f.regs) :
    Frame f s₀ (State.showEligible s p) := by
  unfold State.showEligible
  try extract_lets
  repeat' (first
    | assumption | with_reducible apply State.setFld_frame | with_reducible apply State.setPort_frame | extract_lets
    | exact hp (by decide) | exact List.Subset.trans (by decide) hp | exact hr (by decide) | exact hr (by simp)
    | exact List.Subset.trans (by decide) hr)

theorem State.showTemp_frame {sensor t'} (h : Frame f s₀ s) (hr : [.GLB_TEMP, .GLB_TEMP_MAX] ⊆ f.regs) :
    Frame f s₀ (State.showTemp s sensor t') := by
  unfold State.showTemp
  try extract_lets
  repeat' (first
    | assumption | with_reducible apply Frame.setReg | split | extract_lets | exact hr (by decide)
    | exact hr (by simp) | exact List.Subset.trans (by decide) hr)

theorem State.startCores_frame (h : Frame f s₀ s) (hr : [.TWD_CORE_STAT] ⊆ f.regs) :
    Frame f s₀ (State.startCores s) := by
  unfold State.startCores
  try extract_lets
  repeat' (first
    | assumption | with_reducible apply State.setFld_frame | with_reducible refine Frame.foldl (fun _ _ _ => ?_) _ ?_
    | split | extract_lets | exact hr (by decide) | exact hr (by simp) | exact List.Subset.trans (by decide) hr)

theorem State.takeCounts_frame (h : Frame f s₀ s) (hp : [.keep] ⊆ f.parts) (hr : [.INS_OPSEC, .INS_PCYCLES] ⊆ f.regs) :
    Frame f s₀ (State.takeCounts s) := by
  unfold State.takeCounts
  try extract_lets
  repeat' (first
    | assumption | with_reducible apply Frame.setReg | with_reducible apply State.writeCounters_frame | extract_lets
    | exact hp (by decide) | exact List.Subset.trans (by decide) hp | exact hr (by decide) | exact hr (by simp)
    | exact List.Subset.trans (by decide) hr)

theorem State.toLost_frame (h : Frame f s₀ s) (hp : [.host, .sent, .awl, .lst] ⊆ f.parts) (hr : [.GLB_INT_SUM, .LST_INT_STAT, .LST_TAG, .LST_STATUS, .AWL_MERGED, .AWL_STATUS, .INS_RET_STAT, .AWL_LOST, .AWL_INT_STAT] ⊆ f.regs) :
    Frame f s₀ (State.toLost s) := by
  unfold State.toLost
  repeat' (first
    | assumption | with_reducible apply State.enterLst_frame | with_reducible apply State.irq_frame | split
    | exact hp (by decide) | exact List.Subset.trans (by decide) hp | exact hr (by decide) | exact hr (by simp)
    | exact List.Subset.trans (by decide) hr)

end Sys2Proof.Machine
end

