-- ==== Sys2Proof/Laws/State.lean ====
section
/-! SUPPORT. What each named update leaves alone and what it sets: one lemma per update and part of the state. -/

namespace Sys2Proof.Machine

variable (s : State)

/-! ### setReg -/

@[simp] theorem State.setReg_pending (r : Reg) (i : Nat) (v : Word) : (s.setReg r i v).pending = s.pending := rfl
@[simp] theorem State.setReg_resp (r : Reg) (i : Nat) (v : Word) : (s.setReg r i v).resp = s.resp := rfl
@[simp] theorem State.setReg_rdata (r : Reg) (i : Nat) (v : Word) : (s.setReg r i v).rdata = s.rdata := rfl
@[simp] theorem State.setReg_latchHigh (r : Reg) (i : Nat) (v : Word) : (s.setReg r i v).latchHigh = s.latchHigh := rfl
@[simp] theorem State.setReg_latchLow (r : Reg) (i : Nat) (v : Word) : (s.setReg r i v).latchLow = s.latchLow := rfl
@[simp] theorem State.setReg_freeCtr (r : Reg) (i : Nat) (v : Word) : (s.setReg r i v).freeCtr = s.freeCtr := rfl
@[simp] theorem State.setReg_sent (r : Reg) (i : Nat) (v : Word) : (s.setReg r i v).sent = s.sent := rfl
@[simp] theorem State.setReg_tick (r : Reg) (i : Nat) (v : Word) : (s.setReg r i v).tick = s.tick := rfl
@[simp] theorem State.setReg_tb (r : Reg) (i : Nat) (v : Word) : (s.setReg r i v).tb = s.tb := rfl
@[simp] theorem State.setReg_host (r : Reg) (i : Nat) (v : Word) : (s.setReg r i v).host = s.host := rfl
@[simp] theorem State.setReg_awl (r : Reg) (i : Nat) (v : Word) : (s.setReg r i v).awl = s.awl := rfl
@[simp] theorem State.setReg_ing (r : Reg) (i : Nat) (v : Word) : (s.setReg r i v).ing = s.ing := rfl
@[simp] theorem State.setReg_twl (r : Reg) (i : Nat) (v : Word) : (s.setReg r i v).twl = s.twl := rfl
@[simp] theorem State.setReg_nim (r : Reg) (i : Nat) (v : Word) : (s.setReg r i v).nim = s.nim := rfl
@[simp] theorem State.setReg_tks (r : Reg) (i : Nat) (v : Word) : (s.setReg r i v).tks = s.tks := rfl
@[simp] theorem State.setReg_egr (r : Reg) (i : Nat) (v : Word) : (s.setReg r i v).egr = s.egr := rfl
@[simp] theorem State.setReg_twd (r : Reg) (i : Nat) (v : Word) : (s.setReg r i v).twd = s.twd := rfl
@[simp] theorem State.setReg_asp (r : Reg) (i : Nat) (v : Word) : (s.setReg r i v).asp = s.asp := rfl
@[simp] theorem State.setReg_vmp (r : Reg) (i : Nat) (v : Word) : (s.setReg r i v).vmp = s.vmp := rfl
@[simp] theorem State.setReg_lst (r : Reg) (i : Nat) (v : Word) : (s.setReg r i v).lst = s.lst := rfl
@[simp] theorem State.setReg_ntm (r : Reg) (i : Nat) (v : Word) : (s.setReg r i v).ntm = s.ntm := rfl
@[simp] theorem State.setReg_net (r : Reg) (i : Nat) (v : Word) : (s.setReg r i v).net = s.net := rfl
@[simp] theorem State.setReg_rsl (r : Reg) (i : Nat) (v : Word) : (s.setReg r i v).rsl = s.rsl := rfl
@[simp] theorem State.setReg_keep (r : Reg) (i : Nat) (v : Word) : (s.setReg r i v).keep = s.keep := rfl
@[simp] theorem State.setReg_upd (r : Reg) (i : Nat) (v : Word) : (s.setReg r i v).upd = s.upd := rfl
@[simp] theorem State.setReg_boot (r : Reg) (i : Nat) (v : Word) : (s.setReg r i v).boot = s.boot := rfl
@[simp] theorem State.setReg_frameStore (r : Reg) (i : Nat) (v : Word) : (s.setReg r i v).frameStore = s.frameStore := rfl
@[simp] theorem State.setReg_dir (r : Reg) (i : Nat) (v : Word) : (s.setReg r i v).dir = s.dir := rfl

/-! ### setFld -/

@[simp] theorem State.setFld_pending (f : Fld) (i v : Nat) : (s.setFld f i v).pending = s.pending := rfl
@[simp] theorem State.setFld_resp (f : Fld) (i v : Nat) : (s.setFld f i v).resp = s.resp := rfl
@[simp] theorem State.setFld_rdata (f : Fld) (i v : Nat) : (s.setFld f i v).rdata = s.rdata := rfl
@[simp] theorem State.setFld_latchHigh (f : Fld) (i v : Nat) : (s.setFld f i v).latchHigh = s.latchHigh := rfl
@[simp] theorem State.setFld_latchLow (f : Fld) (i v : Nat) : (s.setFld f i v).latchLow = s.latchLow := rfl
@[simp] theorem State.setFld_freeCtr (f : Fld) (i v : Nat) : (s.setFld f i v).freeCtr = s.freeCtr := rfl
@[simp] theorem State.setFld_sent (f : Fld) (i v : Nat) : (s.setFld f i v).sent = s.sent := rfl
@[simp] theorem State.setFld_tick (f : Fld) (i v : Nat) : (s.setFld f i v).tick = s.tick := rfl
@[simp] theorem State.setFld_tb (f : Fld) (i v : Nat) : (s.setFld f i v).tb = s.tb := rfl
@[simp] theorem State.setFld_host (f : Fld) (i v : Nat) : (s.setFld f i v).host = s.host := rfl
@[simp] theorem State.setFld_awl (f : Fld) (i v : Nat) : (s.setFld f i v).awl = s.awl := rfl
@[simp] theorem State.setFld_ing (f : Fld) (i v : Nat) : (s.setFld f i v).ing = s.ing := rfl
@[simp] theorem State.setFld_twl (f : Fld) (i v : Nat) : (s.setFld f i v).twl = s.twl := rfl
@[simp] theorem State.setFld_nim (f : Fld) (i v : Nat) : (s.setFld f i v).nim = s.nim := rfl
@[simp] theorem State.setFld_tks (f : Fld) (i v : Nat) : (s.setFld f i v).tks = s.tks := rfl
@[simp] theorem State.setFld_egr (f : Fld) (i v : Nat) : (s.setFld f i v).egr = s.egr := rfl
@[simp] theorem State.setFld_twd (f : Fld) (i v : Nat) : (s.setFld f i v).twd = s.twd := rfl
@[simp] theorem State.setFld_asp (f : Fld) (i v : Nat) : (s.setFld f i v).asp = s.asp := rfl
@[simp] theorem State.setFld_vmp (f : Fld) (i v : Nat) : (s.setFld f i v).vmp = s.vmp := rfl
@[simp] theorem State.setFld_lst (f : Fld) (i v : Nat) : (s.setFld f i v).lst = s.lst := rfl
@[simp] theorem State.setFld_ntm (f : Fld) (i v : Nat) : (s.setFld f i v).ntm = s.ntm := rfl
@[simp] theorem State.setFld_net (f : Fld) (i v : Nat) : (s.setFld f i v).net = s.net := rfl
@[simp] theorem State.setFld_rsl (f : Fld) (i v : Nat) : (s.setFld f i v).rsl = s.rsl := rfl
@[simp] theorem State.setFld_keep (f : Fld) (i v : Nat) : (s.setFld f i v).keep = s.keep := rfl
@[simp] theorem State.setFld_upd (f : Fld) (i v : Nat) : (s.setFld f i v).upd = s.upd := rfl
@[simp] theorem State.setFld_boot (f : Fld) (i v : Nat) : (s.setFld f i v).boot = s.boot := rfl
@[simp] theorem State.setFld_frameStore (f : Fld) (i v : Nat) : (s.setFld f i v).frameStore = s.frameStore := rfl
@[simp] theorem State.setFld_dir (f : Fld) (i v : Nat) : (s.setFld f i v).dir = s.dir := rfl

/-! ### setFlag -/

@[simp] theorem State.setFlag_pending (f : Fld) (i : Nat) (b : Bool) : (s.setFlag f i b).pending = s.pending := rfl
@[simp] theorem State.setFlag_resp (f : Fld) (i : Nat) (b : Bool) : (s.setFlag f i b).resp = s.resp := rfl
@[simp] theorem State.setFlag_rdata (f : Fld) (i : Nat) (b : Bool) : (s.setFlag f i b).rdata = s.rdata := rfl
@[simp] theorem State.setFlag_latchHigh (f : Fld) (i : Nat) (b : Bool) : (s.setFlag f i b).latchHigh = s.latchHigh := rfl
@[simp] theorem State.setFlag_latchLow (f : Fld) (i : Nat) (b : Bool) : (s.setFlag f i b).latchLow = s.latchLow := rfl
@[simp] theorem State.setFlag_freeCtr (f : Fld) (i : Nat) (b : Bool) : (s.setFlag f i b).freeCtr = s.freeCtr := rfl
@[simp] theorem State.setFlag_sent (f : Fld) (i : Nat) (b : Bool) : (s.setFlag f i b).sent = s.sent := rfl
@[simp] theorem State.setFlag_tick (f : Fld) (i : Nat) (b : Bool) : (s.setFlag f i b).tick = s.tick := rfl
@[simp] theorem State.setFlag_tb (f : Fld) (i : Nat) (b : Bool) : (s.setFlag f i b).tb = s.tb := rfl
@[simp] theorem State.setFlag_host (f : Fld) (i : Nat) (b : Bool) : (s.setFlag f i b).host = s.host := rfl
@[simp] theorem State.setFlag_awl (f : Fld) (i : Nat) (b : Bool) : (s.setFlag f i b).awl = s.awl := rfl
@[simp] theorem State.setFlag_ing (f : Fld) (i : Nat) (b : Bool) : (s.setFlag f i b).ing = s.ing := rfl
@[simp] theorem State.setFlag_twl (f : Fld) (i : Nat) (b : Bool) : (s.setFlag f i b).twl = s.twl := rfl
@[simp] theorem State.setFlag_nim (f : Fld) (i : Nat) (b : Bool) : (s.setFlag f i b).nim = s.nim := rfl
@[simp] theorem State.setFlag_tks (f : Fld) (i : Nat) (b : Bool) : (s.setFlag f i b).tks = s.tks := rfl
@[simp] theorem State.setFlag_egr (f : Fld) (i : Nat) (b : Bool) : (s.setFlag f i b).egr = s.egr := rfl
@[simp] theorem State.setFlag_twd (f : Fld) (i : Nat) (b : Bool) : (s.setFlag f i b).twd = s.twd := rfl
@[simp] theorem State.setFlag_asp (f : Fld) (i : Nat) (b : Bool) : (s.setFlag f i b).asp = s.asp := rfl
@[simp] theorem State.setFlag_vmp (f : Fld) (i : Nat) (b : Bool) : (s.setFlag f i b).vmp = s.vmp := rfl
@[simp] theorem State.setFlag_lst (f : Fld) (i : Nat) (b : Bool) : (s.setFlag f i b).lst = s.lst := rfl
@[simp] theorem State.setFlag_ntm (f : Fld) (i : Nat) (b : Bool) : (s.setFlag f i b).ntm = s.ntm := rfl
@[simp] theorem State.setFlag_net (f : Fld) (i : Nat) (b : Bool) : (s.setFlag f i b).net = s.net := rfl
@[simp] theorem State.setFlag_rsl (f : Fld) (i : Nat) (b : Bool) : (s.setFlag f i b).rsl = s.rsl := rfl
@[simp] theorem State.setFlag_keep (f : Fld) (i : Nat) (b : Bool) : (s.setFlag f i b).keep = s.keep := rfl
@[simp] theorem State.setFlag_upd (f : Fld) (i : Nat) (b : Bool) : (s.setFlag f i b).upd = s.upd := rfl
@[simp] theorem State.setFlag_boot (f : Fld) (i : Nat) (b : Bool) : (s.setFlag f i b).boot = s.boot := rfl
@[simp] theorem State.setFlag_frameStore (f : Fld) (i : Nat) (b : Bool) : (s.setFlag f i b).frameStore = s.frameStore := rfl
@[simp] theorem State.setFlag_dir (f : Fld) (i : Nat) (b : Bool) : (s.setFlag f i b).dir = s.dir := rfl

/-! ### count -/

@[simp] theorem State.count_pending (r : Reg) (i n : Nat) : (s.count r i n).pending = s.pending := rfl
@[simp] theorem State.count_resp (r : Reg) (i n : Nat) : (s.count r i n).resp = s.resp := rfl
@[simp] theorem State.count_rdata (r : Reg) (i n : Nat) : (s.count r i n).rdata = s.rdata := rfl
@[simp] theorem State.count_latchHigh (r : Reg) (i n : Nat) : (s.count r i n).latchHigh = s.latchHigh := rfl
@[simp] theorem State.count_latchLow (r : Reg) (i n : Nat) : (s.count r i n).latchLow = s.latchLow := rfl
@[simp] theorem State.count_freeCtr (r : Reg) (i n : Nat) : (s.count r i n).freeCtr = s.freeCtr := rfl
@[simp] theorem State.count_sent (r : Reg) (i n : Nat) : (s.count r i n).sent = s.sent := rfl
@[simp] theorem State.count_tick (r : Reg) (i n : Nat) : (s.count r i n).tick = s.tick := rfl
@[simp] theorem State.count_tb (r : Reg) (i n : Nat) : (s.count r i n).tb = s.tb := rfl
@[simp] theorem State.count_host (r : Reg) (i n : Nat) : (s.count r i n).host = s.host := rfl
@[simp] theorem State.count_awl (r : Reg) (i n : Nat) : (s.count r i n).awl = s.awl := rfl
@[simp] theorem State.count_ing (r : Reg) (i n : Nat) : (s.count r i n).ing = s.ing := rfl
@[simp] theorem State.count_twl (r : Reg) (i n : Nat) : (s.count r i n).twl = s.twl := rfl
@[simp] theorem State.count_nim (r : Reg) (i n : Nat) : (s.count r i n).nim = s.nim := rfl
@[simp] theorem State.count_tks (r : Reg) (i n : Nat) : (s.count r i n).tks = s.tks := rfl
@[simp] theorem State.count_egr (r : Reg) (i n : Nat) : (s.count r i n).egr = s.egr := rfl
@[simp] theorem State.count_twd (r : Reg) (i n : Nat) : (s.count r i n).twd = s.twd := rfl
@[simp] theorem State.count_asp (r : Reg) (i n : Nat) : (s.count r i n).asp = s.asp := rfl
@[simp] theorem State.count_vmp (r : Reg) (i n : Nat) : (s.count r i n).vmp = s.vmp := rfl
@[simp] theorem State.count_lst (r : Reg) (i n : Nat) : (s.count r i n).lst = s.lst := rfl
@[simp] theorem State.count_ntm (r : Reg) (i n : Nat) : (s.count r i n).ntm = s.ntm := rfl
@[simp] theorem State.count_net (r : Reg) (i n : Nat) : (s.count r i n).net = s.net := rfl
@[simp] theorem State.count_rsl (r : Reg) (i n : Nat) : (s.count r i n).rsl = s.rsl := rfl
@[simp] theorem State.count_keep (r : Reg) (i n : Nat) : (s.count r i n).keep = s.keep := rfl
@[simp] theorem State.count_upd (r : Reg) (i n : Nat) : (s.count r i n).upd = s.upd := rfl
@[simp] theorem State.count_boot (r : Reg) (i n : Nat) : (s.count r i n).boot = s.boot := rfl
@[simp] theorem State.count_frameStore (r : Reg) (i n : Nat) : (s.count r i n).frameStore = s.frameStore := rfl
@[simp] theorem State.count_dir (r : Reg) (i n : Nat) : (s.count r i n).dir = s.dir := rfl

/-! ### answer -/

@[simp] theorem State.answer_pending (st : Status) : (s.answer st).pending = s.pending := rfl
@[simp] theorem State.answer_rdata (st : Status) : (s.answer st).rdata = s.rdata := rfl
@[simp] theorem State.answer_latchHigh (st : Status) : (s.answer st).latchHigh = s.latchHigh := rfl
@[simp] theorem State.answer_latchLow (st : Status) : (s.answer st).latchLow = s.latchLow := rfl
@[simp] theorem State.answer_freeCtr (st : Status) : (s.answer st).freeCtr = s.freeCtr := rfl
@[simp] theorem State.answer_sent (st : Status) : (s.answer st).sent = s.sent := rfl
@[simp] theorem State.answer_tick (st : Status) : (s.answer st).tick = s.tick := rfl
@[simp] theorem State.answer_tb (st : Status) : (s.answer st).tb = s.tb := rfl
@[simp] theorem State.answer_host (st : Status) : (s.answer st).host = s.host := rfl
@[simp] theorem State.answer_awl (st : Status) : (s.answer st).awl = s.awl := rfl
@[simp] theorem State.answer_ing (st : Status) : (s.answer st).ing = s.ing := rfl
@[simp] theorem State.answer_twl (st : Status) : (s.answer st).twl = s.twl := rfl
@[simp] theorem State.answer_nim (st : Status) : (s.answer st).nim = s.nim := rfl
@[simp] theorem State.answer_tks (st : Status) : (s.answer st).tks = s.tks := rfl
@[simp] theorem State.answer_egr (st : Status) : (s.answer st).egr = s.egr := rfl
@[simp] theorem State.answer_twd (st : Status) : (s.answer st).twd = s.twd := rfl
@[simp] theorem State.answer_asp (st : Status) : (s.answer st).asp = s.asp := rfl
@[simp] theorem State.answer_vmp (st : Status) : (s.answer st).vmp = s.vmp := rfl
@[simp] theorem State.answer_lst (st : Status) : (s.answer st).lst = s.lst := rfl
@[simp] theorem State.answer_ntm (st : Status) : (s.answer st).ntm = s.ntm := rfl
@[simp] theorem State.answer_net (st : Status) : (s.answer st).net = s.net := rfl
@[simp] theorem State.answer_rsl (st : Status) : (s.answer st).rsl = s.rsl := rfl
@[simp] theorem State.answer_keep (st : Status) : (s.answer st).keep = s.keep := rfl
@[simp] theorem State.answer_upd (st : Status) : (s.answer st).upd = s.upd := rfl
@[simp] theorem State.answer_boot (st : Status) : (s.answer st).boot = s.boot := rfl
@[simp] theorem State.answer_frameStore (st : Status) : (s.answer st).frameStore = s.frameStore := rfl
@[simp] theorem State.answer_dir (st : Status) : (s.answer st).dir = s.dir := rfl
@[simp] theorem State.answer_reg (st : Status) (r : Reg) (j : Nat) : (s.answer st).reg r j = s.reg r j := rfl
@[simp] theorem State.answer_fld (st : Status) (g : Fld) (j : Nat) : (s.answer st).fld g j = s.fld g j := rfl
@[simp] theorem State.answer_flag (st : Status) (g : Fld) (j : Nat) : (s.answer st).flag g j = s.flag g j := rfl

/-! ### emit -/

@[simp] theorem State.emit_pending (m : OutMsg) : (s.emit m).pending = s.pending := rfl
@[simp] theorem State.emit_resp (m : OutMsg) : (s.emit m).resp = s.resp := rfl
@[simp] theorem State.emit_rdata (m : OutMsg) : (s.emit m).rdata = s.rdata := rfl
@[simp] theorem State.emit_latchHigh (m : OutMsg) : (s.emit m).latchHigh = s.latchHigh := rfl
@[simp] theorem State.emit_latchLow (m : OutMsg) : (s.emit m).latchLow = s.latchLow := rfl
@[simp] theorem State.emit_freeCtr (m : OutMsg) : (s.emit m).freeCtr = s.freeCtr := rfl
@[simp] theorem State.emit_tick (m : OutMsg) : (s.emit m).tick = s.tick := rfl
@[simp] theorem State.emit_tb (m : OutMsg) : (s.emit m).tb = s.tb := rfl
@[simp] theorem State.emit_host (m : OutMsg) : (s.emit m).host = s.host := rfl
@[simp] theorem State.emit_awl (m : OutMsg) : (s.emit m).awl = s.awl := rfl
@[simp] theorem State.emit_ing (m : OutMsg) : (s.emit m).ing = s.ing := rfl
@[simp] theorem State.emit_twl (m : OutMsg) : (s.emit m).twl = s.twl := rfl
@[simp] theorem State.emit_nim (m : OutMsg) : (s.emit m).nim = s.nim := rfl
@[simp] theorem State.emit_tks (m : OutMsg) : (s.emit m).tks = s.tks := rfl
@[simp] theorem State.emit_egr (m : OutMsg) : (s.emit m).egr = s.egr := rfl
@[simp] theorem State.emit_twd (m : OutMsg) : (s.emit m).twd = s.twd := rfl
@[simp] theorem State.emit_asp (m : OutMsg) : (s.emit m).asp = s.asp := rfl
@[simp] theorem State.emit_vmp (m : OutMsg) : (s.emit m).vmp = s.vmp := rfl
@[simp] theorem State.emit_lst (m : OutMsg) : (s.emit m).lst = s.lst := rfl
@[simp] theorem State.emit_ntm (m : OutMsg) : (s.emit m).ntm = s.ntm := rfl
@[simp] theorem State.emit_net (m : OutMsg) : (s.emit m).net = s.net := rfl
@[simp] theorem State.emit_rsl (m : OutMsg) : (s.emit m).rsl = s.rsl := rfl
@[simp] theorem State.emit_keep (m : OutMsg) : (s.emit m).keep = s.keep := rfl
@[simp] theorem State.emit_upd (m : OutMsg) : (s.emit m).upd = s.upd := rfl
@[simp] theorem State.emit_boot (m : OutMsg) : (s.emit m).boot = s.boot := rfl
@[simp] theorem State.emit_frameStore (m : OutMsg) : (s.emit m).frameStore = s.frameStore := rfl
@[simp] theorem State.emit_dir (m : OutMsg) : (s.emit m).dir = s.dir := rfl
@[simp] theorem State.emit_reg (m : OutMsg) (r : Reg) (j : Nat) : (s.emit m).reg r j = s.reg r j := rfl
@[simp] theorem State.emit_fld (m : OutMsg) (g : Fld) (j : Nat) : (s.emit m).fld g j = s.fld g j := rfl
@[simp] theorem State.emit_flag (m : OutMsg) (g : Fld) (j : Nat) : (s.emit m).flag g j = s.flag g j := rfl

/-! ### drawFree -/

@[simp] theorem State.drawFree_pending  : (s.drawFree).pending = s.pending := rfl
@[simp] theorem State.drawFree_resp  : (s.drawFree).resp = s.resp := rfl
@[simp] theorem State.drawFree_rdata  : (s.drawFree).rdata = s.rdata := rfl
@[simp] theorem State.drawFree_latchHigh  : (s.drawFree).latchHigh = s.latchHigh := rfl
@[simp] theorem State.drawFree_latchLow  : (s.drawFree).latchLow = s.latchLow := rfl
@[simp] theorem State.drawFree_sent  : (s.drawFree).sent = s.sent := rfl
@[simp] theorem State.drawFree_tick  : (s.drawFree).tick = s.tick := rfl
@[simp] theorem State.drawFree_tb  : (s.drawFree).tb = s.tb := rfl
@[simp] theorem State.drawFree_host  : (s.drawFree).host = s.host := rfl
@[simp] theorem State.drawFree_awl  : (s.drawFree).awl = s.awl := rfl
@[simp] theorem State.drawFree_ing  : (s.drawFree).ing = s.ing := rfl
@[simp] theorem State.drawFree_twl  : (s.drawFree).twl = s.twl := rfl
@[simp] theorem State.drawFree_nim  : (s.drawFree).nim = s.nim := rfl
@[simp] theorem State.drawFree_tks  : (s.drawFree).tks = s.tks := rfl
@[simp] theorem State.drawFree_egr  : (s.drawFree).egr = s.egr := rfl
@[simp] theorem State.drawFree_twd  : (s.drawFree).twd = s.twd := rfl
@[simp] theorem State.drawFree_asp  : (s.drawFree).asp = s.asp := rfl
@[simp] theorem State.drawFree_vmp  : (s.drawFree).vmp = s.vmp := rfl
@[simp] theorem State.drawFree_lst  : (s.drawFree).lst = s.lst := rfl
@[simp] theorem State.drawFree_ntm  : (s.drawFree).ntm = s.ntm := rfl
@[simp] theorem State.drawFree_net  : (s.drawFree).net = s.net := rfl
@[simp] theorem State.drawFree_rsl  : (s.drawFree).rsl = s.rsl := rfl
@[simp] theorem State.drawFree_keep  : (s.drawFree).keep = s.keep := rfl
@[simp] theorem State.drawFree_upd  : (s.drawFree).upd = s.upd := rfl
@[simp] theorem State.drawFree_boot  : (s.drawFree).boot = s.boot := rfl
@[simp] theorem State.drawFree_frameStore  : (s.drawFree).frameStore = s.frameStore := rfl
@[simp] theorem State.drawFree_dir  : (s.drawFree).dir = s.dir := rfl
@[simp] theorem State.drawFree_reg (r : Reg) (j : Nat) : (s.drawFree).reg r j = s.reg r j := rfl
@[simp] theorem State.drawFree_fld (g : Fld) (j : Nat) : (s.drawFree).fld g j = s.fld g j := rfl
@[simp] theorem State.drawFree_flag (g : Fld) (j : Nat) : (s.drawFree).flag g j = s.flag g j := rfl

/-! ### setInput -/

@[simp] theorem State.setInput_pending (n : Nat) (x : Input) : (s.setInput n x).pending = s.pending := rfl
@[simp] theorem State.setInput_resp (n : Nat) (x : Input) : (s.setInput n x).resp = s.resp := rfl
@[simp] theorem State.setInput_rdata (n : Nat) (x : Input) : (s.setInput n x).rdata = s.rdata := rfl
@[simp] theorem State.setInput_latchHigh (n : Nat) (x : Input) : (s.setInput n x).latchHigh = s.latchHigh := rfl
@[simp] theorem State.setInput_latchLow (n : Nat) (x : Input) : (s.setInput n x).latchLow = s.latchLow := rfl
@[simp] theorem State.setInput_freeCtr (n : Nat) (x : Input) : (s.setInput n x).freeCtr = s.freeCtr := rfl
@[simp] theorem State.setInput_sent (n : Nat) (x : Input) : (s.setInput n x).sent = s.sent := rfl
@[simp] theorem State.setInput_tick (n : Nat) (x : Input) : (s.setInput n x).tick = s.tick := rfl
@[simp] theorem State.setInput_tb (n : Nat) (x : Input) : (s.setInput n x).tb = s.tb := rfl
@[simp] theorem State.setInput_host (n : Nat) (x : Input) : (s.setInput n x).host = s.host := rfl
@[simp] theorem State.setInput_awl (n : Nat) (x : Input) : (s.setInput n x).awl = s.awl := rfl
@[simp] theorem State.setInput_twl (n : Nat) (x : Input) : (s.setInput n x).twl = s.twl := rfl
@[simp] theorem State.setInput_nim (n : Nat) (x : Input) : (s.setInput n x).nim = s.nim := rfl
@[simp] theorem State.setInput_tks (n : Nat) (x : Input) : (s.setInput n x).tks = s.tks := rfl
@[simp] theorem State.setInput_egr (n : Nat) (x : Input) : (s.setInput n x).egr = s.egr := rfl
@[simp] theorem State.setInput_twd (n : Nat) (x : Input) : (s.setInput n x).twd = s.twd := rfl
@[simp] theorem State.setInput_asp (n : Nat) (x : Input) : (s.setInput n x).asp = s.asp := rfl
@[simp] theorem State.setInput_vmp (n : Nat) (x : Input) : (s.setInput n x).vmp = s.vmp := rfl
@[simp] theorem State.setInput_lst (n : Nat) (x : Input) : (s.setInput n x).lst = s.lst := rfl
@[simp] theorem State.setInput_ntm (n : Nat) (x : Input) : (s.setInput n x).ntm = s.ntm := rfl
@[simp] theorem State.setInput_net (n : Nat) (x : Input) : (s.setInput n x).net = s.net := rfl
@[simp] theorem State.setInput_rsl (n : Nat) (x : Input) : (s.setInput n x).rsl = s.rsl := rfl
@[simp] theorem State.setInput_keep (n : Nat) (x : Input) : (s.setInput n x).keep = s.keep := rfl
@[simp] theorem State.setInput_upd (n : Nat) (x : Input) : (s.setInput n x).upd = s.upd := rfl
@[simp] theorem State.setInput_boot (n : Nat) (x : Input) : (s.setInput n x).boot = s.boot := rfl
@[simp] theorem State.setInput_frameStore (n : Nat) (x : Input) : (s.setInput n x).frameStore = s.frameStore := rfl
@[simp] theorem State.setInput_dir (n : Nat) (x : Input) : (s.setInput n x).dir = s.dir := rfl
@[simp] theorem State.setInput_reg (n : Nat) (x : Input) (r : Reg) (j : Nat) : (s.setInput n x).reg r j = s.reg r j := rfl
@[simp] theorem State.setInput_fld (n : Nat) (x : Input) (g : Fld) (j : Nat) : (s.setInput n x).fld g j = s.fld g j := rfl
@[simp] theorem State.setInput_flag (n : Nat) (x : Input) (g : Fld) (j : Nat) : (s.setInput n x).flag g j = s.flag g j := rfl

/-! ### setDir -/

@[simp] theorem State.setDir_pending (n : Nat) (e : Word128) : (s.setDir n e).pending = s.pending := rfl
@[simp] theorem State.setDir_resp (n : Nat) (e : Word128) : (s.setDir n e).resp = s.resp := rfl
@[simp] theorem State.setDir_rdata (n : Nat) (e : Word128) : (s.setDir n e).rdata = s.rdata := rfl
@[simp] theorem State.setDir_latchHigh (n : Nat) (e : Word128) : (s.setDir n e).latchHigh = s.latchHigh := rfl
@[simp] theorem State.setDir_latchLow (n : Nat) (e : Word128) : (s.setDir n e).latchLow = s.latchLow := rfl
@[simp] theorem State.setDir_freeCtr (n : Nat) (e : Word128) : (s.setDir n e).freeCtr = s.freeCtr := rfl
@[simp] theorem State.setDir_sent (n : Nat) (e : Word128) : (s.setDir n e).sent = s.sent := rfl
@[simp] theorem State.setDir_tick (n : Nat) (e : Word128) : (s.setDir n e).tick = s.tick := rfl
@[simp] theorem State.setDir_tb (n : Nat) (e : Word128) : (s.setDir n e).tb = s.tb := rfl
@[simp] theorem State.setDir_host (n : Nat) (e : Word128) : (s.setDir n e).host = s.host := rfl
@[simp] theorem State.setDir_awl (n : Nat) (e : Word128) : (s.setDir n e).awl = s.awl := rfl
@[simp] theorem State.setDir_ing (n : Nat) (e : Word128) : (s.setDir n e).ing = s.ing := rfl
@[simp] theorem State.setDir_twl (n : Nat) (e : Word128) : (s.setDir n e).twl = s.twl := rfl
@[simp] theorem State.setDir_nim (n : Nat) (e : Word128) : (s.setDir n e).nim = s.nim := rfl
@[simp] theorem State.setDir_tks (n : Nat) (e : Word128) : (s.setDir n e).tks = s.tks := rfl
@[simp] theorem State.setDir_egr (n : Nat) (e : Word128) : (s.setDir n e).egr = s.egr := rfl
@[simp] theorem State.setDir_twd (n : Nat) (e : Word128) : (s.setDir n e).twd = s.twd := rfl
@[simp] theorem State.setDir_asp (n : Nat) (e : Word128) : (s.setDir n e).asp = s.asp := rfl
@[simp] theorem State.setDir_vmp (n : Nat) (e : Word128) : (s.setDir n e).vmp = s.vmp := rfl
@[simp] theorem State.setDir_lst (n : Nat) (e : Word128) : (s.setDir n e).lst = s.lst := rfl
@[simp] theorem State.setDir_ntm (n : Nat) (e : Word128) : (s.setDir n e).ntm = s.ntm := rfl
@[simp] theorem State.setDir_net (n : Nat) (e : Word128) : (s.setDir n e).net = s.net := rfl
@[simp] theorem State.setDir_rsl (n : Nat) (e : Word128) : (s.setDir n e).rsl = s.rsl := rfl
@[simp] theorem State.setDir_keep (n : Nat) (e : Word128) : (s.setDir n e).keep = s.keep := rfl
@[simp] theorem State.setDir_upd (n : Nat) (e : Word128) : (s.setDir n e).upd = s.upd := rfl
@[simp] theorem State.setDir_boot (n : Nat) (e : Word128) : (s.setDir n e).boot = s.boot := rfl
@[simp] theorem State.setDir_frameStore (n : Nat) (e : Word128) : (s.setDir n e).frameStore = s.frameStore := rfl
@[simp] theorem State.setDir_reg (n : Nat) (e : Word128) (r : Reg) (j : Nat) : (s.setDir n e).reg r j = s.reg r j := rfl
@[simp] theorem State.setDir_fld (n : Nat) (e : Word128) (g : Fld) (j : Nat) : (s.setDir n e).fld g j = s.fld g j := rfl
@[simp] theorem State.setDir_flag (n : Nat) (e : Word128) (g : Fld) (j : Nat) : (s.setDir n e).flag g j = s.flag g j := rfl

/-! ### setSvc -/

@[simp] theorem State.setSvc_pending (n : Nat) (x : Service) : (s.setSvc n x).pending = s.pending := rfl
@[simp] theorem State.setSvc_resp (n : Nat) (x : Service) : (s.setSvc n x).resp = s.resp := rfl
@[simp] theorem State.setSvc_rdata (n : Nat) (x : Service) : (s.setSvc n x).rdata = s.rdata := rfl
@[simp] theorem State.setSvc_latchHigh (n : Nat) (x : Service) : (s.setSvc n x).latchHigh = s.latchHigh := rfl
@[simp] theorem State.setSvc_latchLow (n : Nat) (x : Service) : (s.setSvc n x).latchLow = s.latchLow := rfl
@[simp] theorem State.setSvc_freeCtr (n : Nat) (x : Service) : (s.setSvc n x).freeCtr = s.freeCtr := rfl
@[simp] theorem State.setSvc_sent (n : Nat) (x : Service) : (s.setSvc n x).sent = s.sent := rfl
@[simp] theorem State.setSvc_tick (n : Nat) (x : Service) : (s.setSvc n x).tick = s.tick := rfl
@[simp] theorem State.setSvc_tb (n : Nat) (x : Service) : (s.setSvc n x).tb = s.tb := rfl
@[simp] theorem State.setSvc_host (n : Nat) (x : Service) : (s.setSvc n x).host = s.host := rfl
@[simp] theorem State.setSvc_awl (n : Nat) (x : Service) : (s.setSvc n x).awl = s.awl := rfl
@[simp] theorem State.setSvc_ing (n : Nat) (x : Service) : (s.setSvc n x).ing = s.ing := rfl
@[simp] theorem State.setSvc_twl (n : Nat) (x : Service) : (s.setSvc n x).twl = s.twl := rfl
@[simp] theorem State.setSvc_tks (n : Nat) (x : Service) : (s.setSvc n x).tks = s.tks := rfl
@[simp] theorem State.setSvc_egr (n : Nat) (x : Service) : (s.setSvc n x).egr = s.egr := rfl
@[simp] theorem State.setSvc_twd (n : Nat) (x : Service) : (s.setSvc n x).twd = s.twd := rfl
@[simp] theorem State.setSvc_asp (n : Nat) (x : Service) : (s.setSvc n x).asp = s.asp := rfl
@[simp] theorem State.setSvc_vmp (n : Nat) (x : Service) : (s.setSvc n x).vmp = s.vmp := rfl
@[simp] theorem State.setSvc_lst (n : Nat) (x : Service) : (s.setSvc n x).lst = s.lst := rfl
@[simp] theorem State.setSvc_ntm (n : Nat) (x : Service) : (s.setSvc n x).ntm = s.ntm := rfl
@[simp] theorem State.setSvc_net (n : Nat) (x : Service) : (s.setSvc n x).net = s.net := rfl
@[simp] theorem State.setSvc_rsl (n : Nat) (x : Service) : (s.setSvc n x).rsl = s.rsl := rfl
@[simp] theorem State.setSvc_keep (n : Nat) (x : Service) : (s.setSvc n x).keep = s.keep := rfl
@[simp] theorem State.setSvc_upd (n : Nat) (x : Service) : (s.setSvc n x).upd = s.upd := rfl
@[simp] theorem State.setSvc_boot (n : Nat) (x : Service) : (s.setSvc n x).boot = s.boot := rfl
@[simp] theorem State.setSvc_frameStore (n : Nat) (x : Service) : (s.setSvc n x).frameStore = s.frameStore := rfl
@[simp] theorem State.setSvc_dir (n : Nat) (x : Service) : (s.setSvc n x).dir = s.dir := rfl
@[simp] theorem State.setSvc_reg (n : Nat) (x : Service) (r : Reg) (j : Nat) : (s.setSvc n x).reg r j = s.reg r j := rfl
@[simp] theorem State.setSvc_fld (n : Nat) (x : Service) (g : Fld) (j : Nat) : (s.setSvc n x).fld g j = s.fld g j := rfl
@[simp] theorem State.setSvc_flag (n : Nat) (x : Service) (g : Fld) (j : Nat) : (s.setSvc n x).flag g j = s.flag g j := rfl

/-! ### setCtx -/

@[simp] theorem State.setCtx_pending (n : Nat) (x : NimCtx) : (s.setCtx n x).pending = s.pending := rfl
@[simp] theorem State.setCtx_resp (n : Nat) (x : NimCtx) : (s.setCtx n x).resp = s.resp := rfl
@[simp] theorem State.setCtx_rdata (n : Nat) (x : NimCtx) : (s.setCtx n x).rdata = s.rdata := rfl
@[simp] theorem State.setCtx_latchHigh (n : Nat) (x : NimCtx) : (s.setCtx n x).latchHigh = s.latchHigh := rfl
@[simp] theorem State.setCtx_latchLow (n : Nat) (x : NimCtx) : (s.setCtx n x).latchLow = s.latchLow := rfl
@[simp] theorem State.setCtx_freeCtr (n : Nat) (x : NimCtx) : (s.setCtx n x).freeCtr = s.freeCtr := rfl
@[simp] theorem State.setCtx_sent (n : Nat) (x : NimCtx) : (s.setCtx n x).sent = s.sent := rfl
@[simp] theorem State.setCtx_tick (n : Nat) (x : NimCtx) : (s.setCtx n x).tick = s.tick := rfl
@[simp] theorem State.setCtx_tb (n : Nat) (x : NimCtx) : (s.setCtx n x).tb = s.tb := rfl
@[simp] theorem State.setCtx_host (n : Nat) (x : NimCtx) : (s.setCtx n x).host = s.host := rfl
@[simp] theorem State.setCtx_awl (n : Nat) (x : NimCtx) : (s.setCtx n x).awl = s.awl := rfl
@[simp] theorem State.setCtx_ing (n : Nat) (x : NimCtx) : (s.setCtx n x).ing = s.ing := rfl
@[simp] theorem State.setCtx_twl (n : Nat) (x : NimCtx) : (s.setCtx n x).twl = s.twl := rfl
@[simp] theorem State.setCtx_tks (n : Nat) (x : NimCtx) : (s.setCtx n x).tks = s.tks := rfl
@[simp] theorem State.setCtx_egr (n : Nat) (x : NimCtx) : (s.setCtx n x).egr = s.egr := rfl
@[simp] theorem State.setCtx_twd (n : Nat) (x : NimCtx) : (s.setCtx n x).twd = s.twd := rfl
@[simp] theorem State.setCtx_asp (n : Nat) (x : NimCtx) : (s.setCtx n x).asp = s.asp := rfl
@[simp] theorem State.setCtx_vmp (n : Nat) (x : NimCtx) : (s.setCtx n x).vmp = s.vmp := rfl
@[simp] theorem State.setCtx_lst (n : Nat) (x : NimCtx) : (s.setCtx n x).lst = s.lst := rfl
@[simp] theorem State.setCtx_ntm (n : Nat) (x : NimCtx) : (s.setCtx n x).ntm = s.ntm := rfl
@[simp] theorem State.setCtx_net (n : Nat) (x : NimCtx) : (s.setCtx n x).net = s.net := rfl
@[simp] theorem State.setCtx_rsl (n : Nat) (x : NimCtx) : (s.setCtx n x).rsl = s.rsl := rfl
@[simp] theorem State.setCtx_keep (n : Nat) (x : NimCtx) : (s.setCtx n x).keep = s.keep := rfl
@[simp] theorem State.setCtx_upd (n : Nat) (x : NimCtx) : (s.setCtx n x).upd = s.upd := rfl
@[simp] theorem State.setCtx_boot (n : Nat) (x : NimCtx) : (s.setCtx n x).boot = s.boot := rfl
@[simp] theorem State.setCtx_frameStore (n : Nat) (x : NimCtx) : (s.setCtx n x).frameStore = s.frameStore := rfl
@[simp] theorem State.setCtx_dir (n : Nat) (x : NimCtx) : (s.setCtx n x).dir = s.dir := rfl
@[simp] theorem State.setCtx_reg (n : Nat) (x : NimCtx) (r : Reg) (j : Nat) : (s.setCtx n x).reg r j = s.reg r j := rfl
@[simp] theorem State.setCtx_fld (n : Nat) (x : NimCtx) (g : Fld) (j : Nat) : (s.setCtx n x).fld g j = s.fld g j := rfl
@[simp] theorem State.setCtx_flag (n : Nat) (x : NimCtx) (g : Fld) (j : Nat) : (s.setCtx n x).flag g j = s.flag g j := rfl

/-! ### setTwd -/

@[simp] theorem State.setTwd_pending (n : Nat) (x : TwdCore) : (s.setTwd n x).pending = s.pending := rfl
@[simp] theorem State.setTwd_resp (n : Nat) (x : TwdCore) : (s.setTwd n x).resp = s.resp := rfl
@[simp] theorem State.setTwd_rdata (n : Nat) (x : TwdCore) : (s.setTwd n x).rdata = s.rdata := rfl
@[simp] theorem State.setTwd_latchHigh (n : Nat) (x : TwdCore) : (s.setTwd n x).latchHigh = s.latchHigh := rfl
@[simp] theorem State.setTwd_latchLow (n : Nat) (x : TwdCore) : (s.setTwd n x).latchLow = s.latchLow := rfl
@[simp] theorem State.setTwd_freeCtr (n : Nat) (x : TwdCore) : (s.setTwd n x).freeCtr = s.freeCtr := rfl
@[simp] theorem State.setTwd_sent (n : Nat) (x : TwdCore) : (s.setTwd n x).sent = s.sent := rfl
@[simp] theorem State.setTwd_tick (n : Nat) (x : TwdCore) : (s.setTwd n x).tick = s.tick := rfl
@[simp] theorem State.setTwd_tb (n : Nat) (x : TwdCore) : (s.setTwd n x).tb = s.tb := rfl
@[simp] theorem State.setTwd_host (n : Nat) (x : TwdCore) : (s.setTwd n x).host = s.host := rfl
@[simp] theorem State.setTwd_awl (n : Nat) (x : TwdCore) : (s.setTwd n x).awl = s.awl := rfl
@[simp] theorem State.setTwd_ing (n : Nat) (x : TwdCore) : (s.setTwd n x).ing = s.ing := rfl
@[simp] theorem State.setTwd_twl (n : Nat) (x : TwdCore) : (s.setTwd n x).twl = s.twl := rfl
@[simp] theorem State.setTwd_nim (n : Nat) (x : TwdCore) : (s.setTwd n x).nim = s.nim := rfl
@[simp] theorem State.setTwd_tks (n : Nat) (x : TwdCore) : (s.setTwd n x).tks = s.tks := rfl
@[simp] theorem State.setTwd_egr (n : Nat) (x : TwdCore) : (s.setTwd n x).egr = s.egr := rfl
@[simp] theorem State.setTwd_asp (n : Nat) (x : TwdCore) : (s.setTwd n x).asp = s.asp := rfl
@[simp] theorem State.setTwd_vmp (n : Nat) (x : TwdCore) : (s.setTwd n x).vmp = s.vmp := rfl
@[simp] theorem State.setTwd_lst (n : Nat) (x : TwdCore) : (s.setTwd n x).lst = s.lst := rfl
@[simp] theorem State.setTwd_ntm (n : Nat) (x : TwdCore) : (s.setTwd n x).ntm = s.ntm := rfl
@[simp] theorem State.setTwd_net (n : Nat) (x : TwdCore) : (s.setTwd n x).net = s.net := rfl
@[simp] theorem State.setTwd_rsl (n : Nat) (x : TwdCore) : (s.setTwd n x).rsl = s.rsl := rfl
@[simp] theorem State.setTwd_keep (n : Nat) (x : TwdCore) : (s.setTwd n x).keep = s.keep := rfl
@[simp] theorem State.setTwd_upd (n : Nat) (x : TwdCore) : (s.setTwd n x).upd = s.upd := rfl
@[simp] theorem State.setTwd_boot (n : Nat) (x : TwdCore) : (s.setTwd n x).boot = s.boot := rfl
@[simp] theorem State.setTwd_frameStore (n : Nat) (x : TwdCore) : (s.setTwd n x).frameStore = s.frameStore := rfl
@[simp] theorem State.setTwd_dir (n : Nat) (x : TwdCore) : (s.setTwd n x).dir = s.dir := rfl
@[simp] theorem State.setTwd_reg (n : Nat) (x : TwdCore) (r : Reg) (j : Nat) : (s.setTwd n x).reg r j = s.reg r j := rfl
@[simp] theorem State.setTwd_fld (n : Nat) (x : TwdCore) (g : Fld) (j : Nat) : (s.setTwd n x).fld g j = s.fld g j := rfl
@[simp] theorem State.setTwd_flag (n : Nat) (x : TwdCore) (g : Fld) (j : Nat) : (s.setTwd n x).flag g j = s.flag g j := rfl

/-! ### setSect -/

@[simp] theorem State.setSect_pending (tx : Bool) (n : Nat) (x : AspSect) : (s.setSect tx n x).pending = s.pending := rfl
@[simp] theorem State.setSect_resp (tx : Bool) (n : Nat) (x : AspSect) : (s.setSect tx n x).resp = s.resp := rfl
@[simp] theorem State.setSect_rdata (tx : Bool) (n : Nat) (x : AspSect) : (s.setSect tx n x).rdata = s.rdata := rfl
@[simp] theorem State.setSect_latchHigh (tx : Bool) (n : Nat) (x : AspSect) : (s.setSect tx n x).latchHigh = s.latchHigh := rfl
@[simp] theorem State.setSect_latchLow (tx : Bool) (n : Nat) (x : AspSect) : (s.setSect tx n x).latchLow = s.latchLow := rfl
@[simp] theorem State.setSect_freeCtr (tx : Bool) (n : Nat) (x : AspSect) : (s.setSect tx n x).freeCtr = s.freeCtr := rfl
@[simp] theorem State.setSect_sent (tx : Bool) (n : Nat) (x : AspSect) : (s.setSect tx n x).sent = s.sent := rfl
@[simp] theorem State.setSect_tick (tx : Bool) (n : Nat) (x : AspSect) : (s.setSect tx n x).tick = s.tick := rfl
@[simp] theorem State.setSect_tb (tx : Bool) (n : Nat) (x : AspSect) : (s.setSect tx n x).tb = s.tb := rfl
@[simp] theorem State.setSect_host (tx : Bool) (n : Nat) (x : AspSect) : (s.setSect tx n x).host = s.host := rfl
@[simp] theorem State.setSect_awl (tx : Bool) (n : Nat) (x : AspSect) : (s.setSect tx n x).awl = s.awl := rfl
@[simp] theorem State.setSect_ing (tx : Bool) (n : Nat) (x : AspSect) : (s.setSect tx n x).ing = s.ing := rfl
@[simp] theorem State.setSect_twl (tx : Bool) (n : Nat) (x : AspSect) : (s.setSect tx n x).twl = s.twl := rfl
@[simp] theorem State.setSect_nim (tx : Bool) (n : Nat) (x : AspSect) : (s.setSect tx n x).nim = s.nim := rfl
@[simp] theorem State.setSect_tks (tx : Bool) (n : Nat) (x : AspSect) : (s.setSect tx n x).tks = s.tks := rfl
@[simp] theorem State.setSect_egr (tx : Bool) (n : Nat) (x : AspSect) : (s.setSect tx n x).egr = s.egr := rfl
@[simp] theorem State.setSect_twd (tx : Bool) (n : Nat) (x : AspSect) : (s.setSect tx n x).twd = s.twd := rfl
@[simp] theorem State.setSect_vmp (tx : Bool) (n : Nat) (x : AspSect) : (s.setSect tx n x).vmp = s.vmp := rfl
@[simp] theorem State.setSect_lst (tx : Bool) (n : Nat) (x : AspSect) : (s.setSect tx n x).lst = s.lst := rfl
@[simp] theorem State.setSect_ntm (tx : Bool) (n : Nat) (x : AspSect) : (s.setSect tx n x).ntm = s.ntm := rfl
@[simp] theorem State.setSect_net (tx : Bool) (n : Nat) (x : AspSect) : (s.setSect tx n x).net = s.net := rfl
@[simp] theorem State.setSect_rsl (tx : Bool) (n : Nat) (x : AspSect) : (s.setSect tx n x).rsl = s.rsl := rfl
@[simp] theorem State.setSect_keep (tx : Bool) (n : Nat) (x : AspSect) : (s.setSect tx n x).keep = s.keep := rfl
@[simp] theorem State.setSect_upd (tx : Bool) (n : Nat) (x : AspSect) : (s.setSect tx n x).upd = s.upd := rfl
@[simp] theorem State.setSect_boot (tx : Bool) (n : Nat) (x : AspSect) : (s.setSect tx n x).boot = s.boot := rfl
@[simp] theorem State.setSect_frameStore (tx : Bool) (n : Nat) (x : AspSect) : (s.setSect tx n x).frameStore = s.frameStore := rfl
@[simp] theorem State.setSect_dir (tx : Bool) (n : Nat) (x : AspSect) : (s.setSect tx n x).dir = s.dir := rfl
@[simp] theorem State.setSect_reg (tx : Bool) (n : Nat) (x : AspSect) (r : Reg) (j : Nat) : (s.setSect tx n x).reg r j = s.reg r j := rfl
@[simp] theorem State.setSect_fld (tx : Bool) (n : Nat) (x : AspSect) (g : Fld) (j : Nat) : (s.setSect tx n x).fld g j = s.fld g j := rfl
@[simp] theorem State.setSect_flag (tx : Bool) (n : Nat) (x : AspSect) (g : Fld) (j : Nat) : (s.setSect tx n x).flag g j = s.flag g j := rfl

/-! ### setPipe -/

@[simp] theorem State.setPipe_pending (n : Nat) (x : Pipe10) : (s.setPipe n x).pending = s.pending := rfl
@[simp] theorem State.setPipe_resp (n : Nat) (x : Pipe10) : (s.setPipe n x).resp = s.resp := rfl
@[simp] theorem State.setPipe_rdata (n : Nat) (x : Pipe10) : (s.setPipe n x).rdata = s.rdata := rfl
@[simp] theorem State.setPipe_latchHigh (n : Nat) (x : Pipe10) : (s.setPipe n x).latchHigh = s.latchHigh := rfl
@[simp] theorem State.setPipe_latchLow (n : Nat) (x : Pipe10) : (s.setPipe n x).latchLow = s.latchLow := rfl
@[simp] theorem State.setPipe_freeCtr (n : Nat) (x : Pipe10) : (s.setPipe n x).freeCtr = s.freeCtr := rfl
@[simp] theorem State.setPipe_sent (n : Nat) (x : Pipe10) : (s.setPipe n x).sent = s.sent := rfl
@[simp] theorem State.setPipe_tick (n : Nat) (x : Pipe10) : (s.setPipe n x).tick = s.tick := rfl
@[simp] theorem State.setPipe_tb (n : Nat) (x : Pipe10) : (s.setPipe n x).tb = s.tb := rfl
@[simp] theorem State.setPipe_host (n : Nat) (x : Pipe10) : (s.setPipe n x).host = s.host := rfl
@[simp] theorem State.setPipe_awl (n : Nat) (x : Pipe10) : (s.setPipe n x).awl = s.awl := rfl
@[simp] theorem State.setPipe_ing (n : Nat) (x : Pipe10) : (s.setPipe n x).ing = s.ing := rfl
@[simp] theorem State.setPipe_twl (n : Nat) (x : Pipe10) : (s.setPipe n x).twl = s.twl := rfl
@[simp] theorem State.setPipe_nim (n : Nat) (x : Pipe10) : (s.setPipe n x).nim = s.nim := rfl
@[simp] theorem State.setPipe_tks (n : Nat) (x : Pipe10) : (s.setPipe n x).tks = s.tks := rfl
@[simp] theorem State.setPipe_egr (n : Nat) (x : Pipe10) : (s.setPipe n x).egr = s.egr := rfl
@[simp] theorem State.setPipe_twd (n : Nat) (x : Pipe10) : (s.setPipe n x).twd = s.twd := rfl
@[simp] theorem State.setPipe_asp (n : Nat) (x : Pipe10) : (s.setPipe n x).asp = s.asp := rfl
@[simp] theorem State.setPipe_lst (n : Nat) (x : Pipe10) : (s.setPipe n x).lst = s.lst := rfl
@[simp] theorem State.setPipe_ntm (n : Nat) (x : Pipe10) : (s.setPipe n x).ntm = s.ntm := rfl
@[simp] theorem State.setPipe_net (n : Nat) (x : Pipe10) : (s.setPipe n x).net = s.net := rfl
@[simp] theorem State.setPipe_rsl (n : Nat) (x : Pipe10) : (s.setPipe n x).rsl = s.rsl := rfl
@[simp] theorem State.setPipe_keep (n : Nat) (x : Pipe10) : (s.setPipe n x).keep = s.keep := rfl
@[simp] theorem State.setPipe_upd (n : Nat) (x : Pipe10) : (s.setPipe n x).upd = s.upd := rfl
@[simp] theorem State.setPipe_boot (n : Nat) (x : Pipe10) : (s.setPipe n x).boot = s.boot := rfl
@[simp] theorem State.setPipe_frameStore (n : Nat) (x : Pipe10) : (s.setPipe n x).frameStore = s.frameStore := rfl
@[simp] theorem State.setPipe_dir (n : Nat) (x : Pipe10) : (s.setPipe n x).dir = s.dir := rfl
@[simp] theorem State.setPipe_reg (n : Nat) (x : Pipe10) (r : Reg) (j : Nat) : (s.setPipe n x).reg r j = s.reg r j := rfl
@[simp] theorem State.setPipe_fld (n : Nat) (x : Pipe10) (g : Fld) (j : Nat) : (s.setPipe n x).fld g j = s.fld g j := rfl
@[simp] theorem State.setPipe_flag (n : Nat) (x : Pipe10) (g : Fld) (j : Nat) : (s.setPipe n x).flag g j = s.flag g j := rfl

/-! ### setLst -/

@[simp] theorem State.setLst_pending (x : Lst) : (s.setLst x).pending = s.pending := rfl
@[simp] theorem State.setLst_resp (x : Lst) : (s.setLst x).resp = s.resp := rfl
@[simp] theorem State.setLst_rdata (x : Lst) : (s.setLst x).rdata = s.rdata := rfl
@[simp] theorem State.setLst_latchHigh (x : Lst) : (s.setLst x).latchHigh = s.latchHigh := rfl
@[simp] theorem State.setLst_latchLow (x : Lst) : (s.setLst x).latchLow = s.latchLow := rfl
@[simp] theorem State.setLst_freeCtr (x : Lst) : (s.setLst x).freeCtr = s.freeCtr := rfl
@[simp] theorem State.setLst_sent (x : Lst) : (s.setLst x).sent = s.sent := rfl
@[simp] theorem State.setLst_tick (x : Lst) : (s.setLst x).tick = s.tick := rfl
@[simp] theorem State.setLst_tb (x : Lst) : (s.setLst x).tb = s.tb := rfl
@[simp] theorem State.setLst_host (x : Lst) : (s.setLst x).host = s.host := rfl
@[simp] theorem State.setLst_awl (x : Lst) : (s.setLst x).awl = s.awl := rfl
@[simp] theorem State.setLst_ing (x : Lst) : (s.setLst x).ing = s.ing := rfl
@[simp] theorem State.setLst_twl (x : Lst) : (s.setLst x).twl = s.twl := rfl
@[simp] theorem State.setLst_nim (x : Lst) : (s.setLst x).nim = s.nim := rfl
@[simp] theorem State.setLst_tks (x : Lst) : (s.setLst x).tks = s.tks := rfl
@[simp] theorem State.setLst_egr (x : Lst) : (s.setLst x).egr = s.egr := rfl
@[simp] theorem State.setLst_twd (x : Lst) : (s.setLst x).twd = s.twd := rfl
@[simp] theorem State.setLst_asp (x : Lst) : (s.setLst x).asp = s.asp := rfl
@[simp] theorem State.setLst_vmp (x : Lst) : (s.setLst x).vmp = s.vmp := rfl
@[simp] theorem State.setLst_ntm (x : Lst) : (s.setLst x).ntm = s.ntm := rfl
@[simp] theorem State.setLst_net (x : Lst) : (s.setLst x).net = s.net := rfl
@[simp] theorem State.setLst_rsl (x : Lst) : (s.setLst x).rsl = s.rsl := rfl
@[simp] theorem State.setLst_keep (x : Lst) : (s.setLst x).keep = s.keep := rfl
@[simp] theorem State.setLst_upd (x : Lst) : (s.setLst x).upd = s.upd := rfl
@[simp] theorem State.setLst_boot (x : Lst) : (s.setLst x).boot = s.boot := rfl
@[simp] theorem State.setLst_frameStore (x : Lst) : (s.setLst x).frameStore = s.frameStore := rfl
@[simp] theorem State.setLst_dir (x : Lst) : (s.setLst x).dir = s.dir := rfl
@[simp] theorem State.setLst_reg (x : Lst) (r : Reg) (j : Nat) : (s.setLst x).reg r j = s.reg r j := rfl
@[simp] theorem State.setLst_fld (x : Lst) (g : Fld) (j : Nat) : (s.setLst x).fld g j = s.fld g j := rfl
@[simp] theorem State.setLst_flag (x : Lst) (g : Fld) (j : Nat) : (s.setLst x).flag g j = s.flag g j := rfl

/-! ### setNtm -/

@[simp] theorem State.setNtm_pending (x : Ntm) : (s.setNtm x).pending = s.pending := rfl
@[simp] theorem State.setNtm_resp (x : Ntm) : (s.setNtm x).resp = s.resp := rfl
@[simp] theorem State.setNtm_rdata (x : Ntm) : (s.setNtm x).rdata = s.rdata := rfl
@[simp] theorem State.setNtm_latchHigh (x : Ntm) : (s.setNtm x).latchHigh = s.latchHigh := rfl
@[simp] theorem State.setNtm_latchLow (x : Ntm) : (s.setNtm x).latchLow = s.latchLow := rfl
@[simp] theorem State.setNtm_freeCtr (x : Ntm) : (s.setNtm x).freeCtr = s.freeCtr := rfl
@[simp] theorem State.setNtm_sent (x : Ntm) : (s.setNtm x).sent = s.sent := rfl
@[simp] theorem State.setNtm_tick (x : Ntm) : (s.setNtm x).tick = s.tick := rfl
@[simp] theorem State.setNtm_tb (x : Ntm) : (s.setNtm x).tb = s.tb := rfl
@[simp] theorem State.setNtm_host (x : Ntm) : (s.setNtm x).host = s.host := rfl
@[simp] theorem State.setNtm_awl (x : Ntm) : (s.setNtm x).awl = s.awl := rfl
@[simp] theorem State.setNtm_ing (x : Ntm) : (s.setNtm x).ing = s.ing := rfl
@[simp] theorem State.setNtm_twl (x : Ntm) : (s.setNtm x).twl = s.twl := rfl
@[simp] theorem State.setNtm_nim (x : Ntm) : (s.setNtm x).nim = s.nim := rfl
@[simp] theorem State.setNtm_tks (x : Ntm) : (s.setNtm x).tks = s.tks := rfl
@[simp] theorem State.setNtm_egr (x : Ntm) : (s.setNtm x).egr = s.egr := rfl
@[simp] theorem State.setNtm_twd (x : Ntm) : (s.setNtm x).twd = s.twd := rfl
@[simp] theorem State.setNtm_asp (x : Ntm) : (s.setNtm x).asp = s.asp := rfl
@[simp] theorem State.setNtm_vmp (x : Ntm) : (s.setNtm x).vmp = s.vmp := rfl
@[simp] theorem State.setNtm_lst (x : Ntm) : (s.setNtm x).lst = s.lst := rfl
@[simp] theorem State.setNtm_net (x : Ntm) : (s.setNtm x).net = s.net := rfl
@[simp] theorem State.setNtm_rsl (x : Ntm) : (s.setNtm x).rsl = s.rsl := rfl
@[simp] theorem State.setNtm_keep (x : Ntm) : (s.setNtm x).keep = s.keep := rfl
@[simp] theorem State.setNtm_upd (x : Ntm) : (s.setNtm x).upd = s.upd := rfl
@[simp] theorem State.setNtm_boot (x : Ntm) : (s.setNtm x).boot = s.boot := rfl
@[simp] theorem State.setNtm_frameStore (x : Ntm) : (s.setNtm x).frameStore = s.frameStore := rfl
@[simp] theorem State.setNtm_dir (x : Ntm) : (s.setNtm x).dir = s.dir := rfl
@[simp] theorem State.setNtm_reg (x : Ntm) (r : Reg) (j : Nat) : (s.setNtm x).reg r j = s.reg r j := rfl
@[simp] theorem State.setNtm_fld (x : Ntm) (g : Fld) (j : Nat) : (s.setNtm x).fld g j = s.fld g j := rfl
@[simp] theorem State.setNtm_flag (x : Ntm) (g : Fld) (j : Nat) : (s.setNtm x).flag g j = s.flag g j := rfl

/-! ### setServo -/

@[simp] theorem State.setServo_pending (n : Nat) (x : Servo) : (s.setServo n x).pending = s.pending := rfl
@[simp] theorem State.setServo_resp (n : Nat) (x : Servo) : (s.setServo n x).resp = s.resp := rfl
@[simp] theorem State.setServo_rdata (n : Nat) (x : Servo) : (s.setServo n x).rdata = s.rdata := rfl
@[simp] theorem State.setServo_latchHigh (n : Nat) (x : Servo) : (s.setServo n x).latchHigh = s.latchHigh := rfl
@[simp] theorem State.setServo_latchLow (n : Nat) (x : Servo) : (s.setServo n x).latchLow = s.latchLow := rfl
@[simp] theorem State.setServo_freeCtr (n : Nat) (x : Servo) : (s.setServo n x).freeCtr = s.freeCtr := rfl
@[simp] theorem State.setServo_sent (n : Nat) (x : Servo) : (s.setServo n x).sent = s.sent := rfl
@[simp] theorem State.setServo_tick (n : Nat) (x : Servo) : (s.setServo n x).tick = s.tick := rfl
@[simp] theorem State.setServo_tb (n : Nat) (x : Servo) : (s.setServo n x).tb = s.tb := rfl
@[simp] theorem State.setServo_host (n : Nat) (x : Servo) : (s.setServo n x).host = s.host := rfl
@[simp] theorem State.setServo_awl (n : Nat) (x : Servo) : (s.setServo n x).awl = s.awl := rfl
@[simp] theorem State.setServo_ing (n : Nat) (x : Servo) : (s.setServo n x).ing = s.ing := rfl
@[simp] theorem State.setServo_twl (n : Nat) (x : Servo) : (s.setServo n x).twl = s.twl := rfl
@[simp] theorem State.setServo_nim (n : Nat) (x : Servo) : (s.setServo n x).nim = s.nim := rfl
@[simp] theorem State.setServo_tks (n : Nat) (x : Servo) : (s.setServo n x).tks = s.tks := rfl
@[simp] theorem State.setServo_egr (n : Nat) (x : Servo) : (s.setServo n x).egr = s.egr := rfl
@[simp] theorem State.setServo_twd (n : Nat) (x : Servo) : (s.setServo n x).twd = s.twd := rfl
@[simp] theorem State.setServo_asp (n : Nat) (x : Servo) : (s.setServo n x).asp = s.asp := rfl
@[simp] theorem State.setServo_vmp (n : Nat) (x : Servo) : (s.setServo n x).vmp = s.vmp := rfl
@[simp] theorem State.setServo_lst (n : Nat) (x : Servo) : (s.setServo n x).lst = s.lst := rfl
@[simp] theorem State.setServo_net (n : Nat) (x : Servo) : (s.setServo n x).net = s.net := rfl
@[simp] theorem State.setServo_rsl (n : Nat) (x : Servo) : (s.setServo n x).rsl = s.rsl := rfl
@[simp] theorem State.setServo_keep (n : Nat) (x : Servo) : (s.setServo n x).keep = s.keep := rfl
@[simp] theorem State.setServo_upd (n : Nat) (x : Servo) : (s.setServo n x).upd = s.upd := rfl
@[simp] theorem State.setServo_boot (n : Nat) (x : Servo) : (s.setServo n x).boot = s.boot := rfl
@[simp] theorem State.setServo_frameStore (n : Nat) (x : Servo) : (s.setServo n x).frameStore = s.frameStore := rfl
@[simp] theorem State.setServo_dir (n : Nat) (x : Servo) : (s.setServo n x).dir = s.dir := rfl
@[simp] theorem State.setServo_reg (n : Nat) (x : Servo) (r : Reg) (j : Nat) : (s.setServo n x).reg r j = s.reg r j := rfl
@[simp] theorem State.setServo_fld (n : Nat) (x : Servo) (g : Fld) (j : Nat) : (s.setServo n x).fld g j = s.fld g j := rfl
@[simp] theorem State.setServo_flag (n : Nat) (x : Servo) (g : Fld) (j : Nat) : (s.setServo n x).flag g j = s.flag g j := rfl

/-! ### setPtpPort -/

@[simp] theorem State.setPtpPort_pending (k p : Nat) (x : PtpPort) : (s.setPtpPort k p x).pending = s.pending := rfl
@[simp] theorem State.setPtpPort_resp (k p : Nat) (x : PtpPort) : (s.setPtpPort k p x).resp = s.resp := rfl
@[simp] theorem State.setPtpPort_rdata (k p : Nat) (x : PtpPort) : (s.setPtpPort k p x).rdata = s.rdata := rfl
@[simp] theorem State.setPtpPort_latchHigh (k p : Nat) (x : PtpPort) : (s.setPtpPort k p x).latchHigh = s.latchHigh := rfl
@[simp] theorem State.setPtpPort_latchLow (k p : Nat) (x : PtpPort) : (s.setPtpPort k p x).latchLow = s.latchLow := rfl
@[simp] theorem State.setPtpPort_freeCtr (k p : Nat) (x : PtpPort) : (s.setPtpPort k p x).freeCtr = s.freeCtr := rfl
@[simp] theorem State.setPtpPort_sent (k p : Nat) (x : PtpPort) : (s.setPtpPort k p x).sent = s.sent := rfl
@[simp] theorem State.setPtpPort_tick (k p : Nat) (x : PtpPort) : (s.setPtpPort k p x).tick = s.tick := rfl
@[simp] theorem State.setPtpPort_tb (k p : Nat) (x : PtpPort) : (s.setPtpPort k p x).tb = s.tb := rfl
@[simp] theorem State.setPtpPort_host (k p : Nat) (x : PtpPort) : (s.setPtpPort k p x).host = s.host := rfl
@[simp] theorem State.setPtpPort_awl (k p : Nat) (x : PtpPort) : (s.setPtpPort k p x).awl = s.awl := rfl
@[simp] theorem State.setPtpPort_ing (k p : Nat) (x : PtpPort) : (s.setPtpPort k p x).ing = s.ing := rfl
@[simp] theorem State.setPtpPort_twl (k p : Nat) (x : PtpPort) : (s.setPtpPort k p x).twl = s.twl := rfl
@[simp] theorem State.setPtpPort_nim (k p : Nat) (x : PtpPort) : (s.setPtpPort k p x).nim = s.nim := rfl
@[simp] theorem State.setPtpPort_tks (k p : Nat) (x : PtpPort) : (s.setPtpPort k p x).tks = s.tks := rfl
@[simp] theorem State.setPtpPort_egr (k p : Nat) (x : PtpPort) : (s.setPtpPort k p x).egr = s.egr := rfl
@[simp] theorem State.setPtpPort_twd (k p : Nat) (x : PtpPort) : (s.setPtpPort k p x).twd = s.twd := rfl
@[simp] theorem State.setPtpPort_asp (k p : Nat) (x : PtpPort) : (s.setPtpPort k p x).asp = s.asp := rfl
@[simp] theorem State.setPtpPort_vmp (k p : Nat) (x : PtpPort) : (s.setPtpPort k p x).vmp = s.vmp := rfl
@[simp] theorem State.setPtpPort_lst (k p : Nat) (x : PtpPort) : (s.setPtpPort k p x).lst = s.lst := rfl
@[simp] theorem State.setPtpPort_net (k p : Nat) (x : PtpPort) : (s.setPtpPort k p x).net = s.net := rfl
@[simp] theorem State.setPtpPort_rsl (k p : Nat) (x : PtpPort) : (s.setPtpPort k p x).rsl = s.rsl := rfl
@[simp] theorem State.setPtpPort_keep (k p : Nat) (x : PtpPort) : (s.setPtpPort k p x).keep = s.keep := rfl
@[simp] theorem State.setPtpPort_upd (k p : Nat) (x : PtpPort) : (s.setPtpPort k p x).upd = s.upd := rfl
@[simp] theorem State.setPtpPort_boot (k p : Nat) (x : PtpPort) : (s.setPtpPort k p x).boot = s.boot := rfl
@[simp] theorem State.setPtpPort_frameStore (k p : Nat) (x : PtpPort) : (s.setPtpPort k p x).frameStore = s.frameStore := rfl
@[simp] theorem State.setPtpPort_dir (k p : Nat) (x : PtpPort) : (s.setPtpPort k p x).dir = s.dir := rfl
@[simp] theorem State.setPtpPort_reg (k p : Nat) (x : PtpPort) (r : Reg) (j : Nat) : (s.setPtpPort k p x).reg r j = s.reg r j := rfl
@[simp] theorem State.setPtpPort_fld (k p : Nat) (x : PtpPort) (g : Fld) (j : Nat) : (s.setPtpPort k p x).fld g j = s.fld g j := rfl
@[simp] theorem State.setPtpPort_flag (k p : Nat) (x : PtpPort) (g : Fld) (j : Nat) : (s.setPtpPort k p x).flag g j = s.flag g j := rfl

/-! ### setTrg -/

@[simp] theorem State.setTrg_pending (n : Nat) (x : Trg) : (s.setTrg n x).pending = s.pending := rfl
@[simp] theorem State.setTrg_resp (n : Nat) (x : Trg) : (s.setTrg n x).resp = s.resp := rfl
@[simp] theorem State.setTrg_rdata (n : Nat) (x : Trg) : (s.setTrg n x).rdata = s.rdata := rfl
@[simp] theorem State.setTrg_latchHigh (n : Nat) (x : Trg) : (s.setTrg n x).latchHigh = s.latchHigh := rfl
@[simp] theorem State.setTrg_latchLow (n : Nat) (x : Trg) : (s.setTrg n x).latchLow = s.latchLow := rfl
@[simp] theorem State.setTrg_freeCtr (n : Nat) (x : Trg) : (s.setTrg n x).freeCtr = s.freeCtr := rfl
@[simp] theorem State.setTrg_sent (n : Nat) (x : Trg) : (s.setTrg n x).sent = s.sent := rfl
@[simp] theorem State.setTrg_tick (n : Nat) (x : Trg) : (s.setTrg n x).tick = s.tick := rfl
@[simp] theorem State.setTrg_tb (n : Nat) (x : Trg) : (s.setTrg n x).tb = s.tb := rfl
@[simp] theorem State.setTrg_host (n : Nat) (x : Trg) : (s.setTrg n x).host = s.host := rfl
@[simp] theorem State.setTrg_awl (n : Nat) (x : Trg) : (s.setTrg n x).awl = s.awl := rfl
@[simp] theorem State.setTrg_ing (n : Nat) (x : Trg) : (s.setTrg n x).ing = s.ing := rfl
@[simp] theorem State.setTrg_twl (n : Nat) (x : Trg) : (s.setTrg n x).twl = s.twl := rfl
@[simp] theorem State.setTrg_nim (n : Nat) (x : Trg) : (s.setTrg n x).nim = s.nim := rfl
@[simp] theorem State.setTrg_tks (n : Nat) (x : Trg) : (s.setTrg n x).tks = s.tks := rfl
@[simp] theorem State.setTrg_egr (n : Nat) (x : Trg) : (s.setTrg n x).egr = s.egr := rfl
@[simp] theorem State.setTrg_twd (n : Nat) (x : Trg) : (s.setTrg n x).twd = s.twd := rfl
@[simp] theorem State.setTrg_asp (n : Nat) (x : Trg) : (s.setTrg n x).asp = s.asp := rfl
@[simp] theorem State.setTrg_vmp (n : Nat) (x : Trg) : (s.setTrg n x).vmp = s.vmp := rfl
@[simp] theorem State.setTrg_lst (n : Nat) (x : Trg) : (s.setTrg n x).lst = s.lst := rfl
@[simp] theorem State.setTrg_net (n : Nat) (x : Trg) : (s.setTrg n x).net = s.net := rfl
@[simp] theorem State.setTrg_rsl (n : Nat) (x : Trg) : (s.setTrg n x).rsl = s.rsl := rfl
@[simp] theorem State.setTrg_keep (n : Nat) (x : Trg) : (s.setTrg n x).keep = s.keep := rfl
@[simp] theorem State.setTrg_upd (n : Nat) (x : Trg) : (s.setTrg n x).upd = s.upd := rfl
@[simp] theorem State.setTrg_boot (n : Nat) (x : Trg) : (s.setTrg n x).boot = s.boot := rfl
@[simp] theorem State.setTrg_frameStore (n : Nat) (x : Trg) : (s.setTrg n x).frameStore = s.frameStore := rfl
@[simp] theorem State.setTrg_dir (n : Nat) (x : Trg) : (s.setTrg n x).dir = s.dir := rfl
@[simp] theorem State.setTrg_reg (n : Nat) (x : Trg) (r : Reg) (j : Nat) : (s.setTrg n x).reg r j = s.reg r j := rfl
@[simp] theorem State.setTrg_fld (n : Nat) (x : Trg) (g : Fld) (j : Nat) : (s.setTrg n x).fld g j = s.fld g j := rfl
@[simp] theorem State.setTrg_flag (n : Nat) (x : Trg) (g : Fld) (j : Nat) : (s.setTrg n x).flag g j = s.flag g j := rfl

/-! ### setCap -/

@[simp] theorem State.setCap_pending (n : Nat) (x : Cap) : (s.setCap n x).pending = s.pending := rfl
@[simp] theorem State.setCap_resp (n : Nat) (x : Cap) : (s.setCap n x).resp = s.resp := rfl
@[simp] theorem State.setCap_rdata (n : Nat) (x : Cap) : (s.setCap n x).rdata = s.rdata := rfl
@[simp] theorem State.setCap_latchHigh (n : Nat) (x : Cap) : (s.setCap n x).latchHigh = s.latchHigh := rfl
@[simp] theorem State.setCap_latchLow (n : Nat) (x : Cap) : (s.setCap n x).latchLow = s.latchLow := rfl
@[simp] theorem State.setCap_freeCtr (n : Nat) (x : Cap) : (s.setCap n x).freeCtr = s.freeCtr := rfl
@[simp] theorem State.setCap_sent (n : Nat) (x : Cap) : (s.setCap n x).sent = s.sent := rfl
@[simp] theorem State.setCap_tick (n : Nat) (x : Cap) : (s.setCap n x).tick = s.tick := rfl
@[simp] theorem State.setCap_tb (n : Nat) (x : Cap) : (s.setCap n x).tb = s.tb := rfl
@[simp] theorem State.setCap_host (n : Nat) (x : Cap) : (s.setCap n x).host = s.host := rfl
@[simp] theorem State.setCap_awl (n : Nat) (x : Cap) : (s.setCap n x).awl = s.awl := rfl
@[simp] theorem State.setCap_ing (n : Nat) (x : Cap) : (s.setCap n x).ing = s.ing := rfl
@[simp] theorem State.setCap_twl (n : Nat) (x : Cap) : (s.setCap n x).twl = s.twl := rfl
@[simp] theorem State.setCap_nim (n : Nat) (x : Cap) : (s.setCap n x).nim = s.nim := rfl
@[simp] theorem State.setCap_tks (n : Nat) (x : Cap) : (s.setCap n x).tks = s.tks := rfl
@[simp] theorem State.setCap_egr (n : Nat) (x : Cap) : (s.setCap n x).egr = s.egr := rfl
@[simp] theorem State.setCap_twd (n : Nat) (x : Cap) : (s.setCap n x).twd = s.twd := rfl
@[simp] theorem State.setCap_asp (n : Nat) (x : Cap) : (s.setCap n x).asp = s.asp := rfl
@[simp] theorem State.setCap_vmp (n : Nat) (x : Cap) : (s.setCap n x).vmp = s.vmp := rfl
@[simp] theorem State.setCap_lst (n : Nat) (x : Cap) : (s.setCap n x).lst = s.lst := rfl
@[simp] theorem State.setCap_net (n : Nat) (x : Cap) : (s.setCap n x).net = s.net := rfl
@[simp] theorem State.setCap_rsl (n : Nat) (x : Cap) : (s.setCap n x).rsl = s.rsl := rfl
@[simp] theorem State.setCap_keep (n : Nat) (x : Cap) : (s.setCap n x).keep = s.keep := rfl
@[simp] theorem State.setCap_upd (n : Nat) (x : Cap) : (s.setCap n x).upd = s.upd := rfl
@[simp] theorem State.setCap_boot (n : Nat) (x : Cap) : (s.setCap n x).boot = s.boot := rfl
@[simp] theorem State.setCap_frameStore (n : Nat) (x : Cap) : (s.setCap n x).frameStore = s.frameStore := rfl
@[simp] theorem State.setCap_dir (n : Nat) (x : Cap) : (s.setCap n x).dir = s.dir := rfl
@[simp] theorem State.setCap_reg (n : Nat) (x : Cap) (r : Reg) (j : Nat) : (s.setCap n x).reg r j = s.reg r j := rfl
@[simp] theorem State.setCap_fld (n : Nat) (x : Cap) (g : Fld) (j : Nat) : (s.setCap n x).fld g j = s.fld g j := rfl
@[simp] theorem State.setCap_flag (n : Nat) (x : Cap) (g : Fld) (j : Nat) : (s.setCap n x).flag g j = s.flag g j := rfl

/-! ### setLane -/

@[simp] theorem State.setLane_pending (n : Nat) (x : Lane) : (s.setLane n x).pending = s.pending := rfl
@[simp] theorem State.setLane_resp (n : Nat) (x : Lane) : (s.setLane n x).resp = s.resp := rfl
@[simp] theorem State.setLane_rdata (n : Nat) (x : Lane) : (s.setLane n x).rdata = s.rdata := rfl
@[simp] theorem State.setLane_latchHigh (n : Nat) (x : Lane) : (s.setLane n x).latchHigh = s.latchHigh := rfl
@[simp] theorem State.setLane_latchLow (n : Nat) (x : Lane) : (s.setLane n x).latchLow = s.latchLow := rfl
@[simp] theorem State.setLane_freeCtr (n : Nat) (x : Lane) : (s.setLane n x).freeCtr = s.freeCtr := rfl
@[simp] theorem State.setLane_sent (n : Nat) (x : Lane) : (s.setLane n x).sent = s.sent := rfl
@[simp] theorem State.setLane_tick (n : Nat) (x : Lane) : (s.setLane n x).tick = s.tick := rfl
@[simp] theorem State.setLane_tb (n : Nat) (x : Lane) : (s.setLane n x).tb = s.tb := rfl
@[simp] theorem State.setLane_host (n : Nat) (x : Lane) : (s.setLane n x).host = s.host := rfl
@[simp] theorem State.setLane_awl (n : Nat) (x : Lane) : (s.setLane n x).awl = s.awl := rfl
@[simp] theorem State.setLane_ing (n : Nat) (x : Lane) : (s.setLane n x).ing = s.ing := rfl
@[simp] theorem State.setLane_twl (n : Nat) (x : Lane) : (s.setLane n x).twl = s.twl := rfl
@[simp] theorem State.setLane_nim (n : Nat) (x : Lane) : (s.setLane n x).nim = s.nim := rfl
@[simp] theorem State.setLane_tks (n : Nat) (x : Lane) : (s.setLane n x).tks = s.tks := rfl
@[simp] theorem State.setLane_egr (n : Nat) (x : Lane) : (s.setLane n x).egr = s.egr := rfl
@[simp] theorem State.setLane_twd (n : Nat) (x : Lane) : (s.setLane n x).twd = s.twd := rfl
@[simp] theorem State.setLane_asp (n : Nat) (x : Lane) : (s.setLane n x).asp = s.asp := rfl
@[simp] theorem State.setLane_vmp (n : Nat) (x : Lane) : (s.setLane n x).vmp = s.vmp := rfl
@[simp] theorem State.setLane_lst (n : Nat) (x : Lane) : (s.setLane n x).lst = s.lst := rfl
@[simp] theorem State.setLane_ntm (n : Nat) (x : Lane) : (s.setLane n x).ntm = s.ntm := rfl
@[simp] theorem State.setLane_rsl (n : Nat) (x : Lane) : (s.setLane n x).rsl = s.rsl := rfl
@[simp] theorem State.setLane_keep (n : Nat) (x : Lane) : (s.setLane n x).keep = s.keep := rfl
@[simp] theorem State.setLane_upd (n : Nat) (x : Lane) : (s.setLane n x).upd = s.upd := rfl
@[simp] theorem State.setLane_boot (n : Nat) (x : Lane) : (s.setLane n x).boot = s.boot := rfl
@[simp] theorem State.setLane_frameStore (n : Nat) (x : Lane) : (s.setLane n x).frameStore = s.frameStore := rfl
@[simp] theorem State.setLane_dir (n : Nat) (x : Lane) : (s.setLane n x).dir = s.dir := rfl
@[simp] theorem State.setLane_reg (n : Nat) (x : Lane) (r : Reg) (j : Nat) : (s.setLane n x).reg r j = s.reg r j := rfl
@[simp] theorem State.setLane_fld (n : Nat) (x : Lane) (g : Fld) (j : Nat) : (s.setLane n x).fld g j = s.fld g j := rfl
@[simp] theorem State.setLane_flag (n : Nat) (x : Lane) (g : Fld) (j : Nat) : (s.setLane n x).flag g j = s.flag g j := rfl

/-! ### setLink -/

@[simp] theorem State.setLink_pending (n : Nat) (x : Link) : (s.setLink n x).pending = s.pending := rfl
@[simp] theorem State.setLink_resp (n : Nat) (x : Link) : (s.setLink n x).resp = s.resp := rfl
@[simp] theorem State.setLink_rdata (n : Nat) (x : Link) : (s.setLink n x).rdata = s.rdata := rfl
@[simp] theorem State.setLink_latchHigh (n : Nat) (x : Link) : (s.setLink n x).latchHigh = s.latchHigh := rfl
@[simp] theorem State.setLink_latchLow (n : Nat) (x : Link) : (s.setLink n x).latchLow = s.latchLow := rfl
@[simp] theorem State.setLink_freeCtr (n : Nat) (x : Link) : (s.setLink n x).freeCtr = s.freeCtr := rfl
@[simp] theorem State.setLink_sent (n : Nat) (x : Link) : (s.setLink n x).sent = s.sent := rfl
@[simp] theorem State.setLink_tick (n : Nat) (x : Link) : (s.setLink n x).tick = s.tick := rfl
@[simp] theorem State.setLink_tb (n : Nat) (x : Link) : (s.setLink n x).tb = s.tb := rfl
@[simp] theorem State.setLink_host (n : Nat) (x : Link) : (s.setLink n x).host = s.host := rfl
@[simp] theorem State.setLink_awl (n : Nat) (x : Link) : (s.setLink n x).awl = s.awl := rfl
@[simp] theorem State.setLink_ing (n : Nat) (x : Link) : (s.setLink n x).ing = s.ing := rfl
@[simp] theorem State.setLink_twl (n : Nat) (x : Link) : (s.setLink n x).twl = s.twl := rfl
@[simp] theorem State.setLink_nim (n : Nat) (x : Link) : (s.setLink n x).nim = s.nim := rfl
@[simp] theorem State.setLink_tks (n : Nat) (x : Link) : (s.setLink n x).tks = s.tks := rfl
@[simp] theorem State.setLink_egr (n : Nat) (x : Link) : (s.setLink n x).egr = s.egr := rfl
@[simp] theorem State.setLink_twd (n : Nat) (x : Link) : (s.setLink n x).twd = s.twd := rfl
@[simp] theorem State.setLink_asp (n : Nat) (x : Link) : (s.setLink n x).asp = s.asp := rfl
@[simp] theorem State.setLink_vmp (n : Nat) (x : Link) : (s.setLink n x).vmp = s.vmp := rfl
@[simp] theorem State.setLink_lst (n : Nat) (x : Link) : (s.setLink n x).lst = s.lst := rfl
@[simp] theorem State.setLink_ntm (n : Nat) (x : Link) : (s.setLink n x).ntm = s.ntm := rfl
@[simp] theorem State.setLink_rsl (n : Nat) (x : Link) : (s.setLink n x).rsl = s.rsl := rfl
@[simp] theorem State.setLink_keep (n : Nat) (x : Link) : (s.setLink n x).keep = s.keep := rfl
@[simp] theorem State.setLink_upd (n : Nat) (x : Link) : (s.setLink n x).upd = s.upd := rfl
@[simp] theorem State.setLink_boot (n : Nat) (x : Link) : (s.setLink n x).boot = s.boot := rfl
@[simp] theorem State.setLink_frameStore (n : Nat) (x : Link) : (s.setLink n x).frameStore = s.frameStore := rfl
@[simp] theorem State.setLink_dir (n : Nat) (x : Link) : (s.setLink n x).dir = s.dir := rfl
@[simp] theorem State.setLink_reg (n : Nat) (x : Link) (r : Reg) (j : Nat) : (s.setLink n x).reg r j = s.reg r j := rfl
@[simp] theorem State.setLink_fld (n : Nat) (x : Link) (g : Fld) (j : Nat) : (s.setLink n x).fld g j = s.fld g j := rfl
@[simp] theorem State.setLink_flag (n : Nat) (x : Link) (g : Fld) (j : Nat) : (s.setLink n x).flag g j = s.flag g j := rfl

/-! ### setNetPort -/

@[simp] theorem State.setNetPort_pending (n : Nat) (x : NetPort) : (s.setNetPort n x).pending = s.pending := rfl
@[simp] theorem State.setNetPort_resp (n : Nat) (x : NetPort) : (s.setNetPort n x).resp = s.resp := rfl
@[simp] theorem State.setNetPort_rdata (n : Nat) (x : NetPort) : (s.setNetPort n x).rdata = s.rdata := rfl
@[simp] theorem State.setNetPort_latchHigh (n : Nat) (x : NetPort) : (s.setNetPort n x).latchHigh = s.latchHigh := rfl
@[simp] theorem State.setNetPort_latchLow (n : Nat) (x : NetPort) : (s.setNetPort n x).latchLow = s.latchLow := rfl
@[simp] theorem State.setNetPort_freeCtr (n : Nat) (x : NetPort) : (s.setNetPort n x).freeCtr = s.freeCtr := rfl
@[simp] theorem State.setNetPort_sent (n : Nat) (x : NetPort) : (s.setNetPort n x).sent = s.sent := rfl
@[simp] theorem State.setNetPort_tick (n : Nat) (x : NetPort) : (s.setNetPort n x).tick = s.tick := rfl
@[simp] theorem State.setNetPort_tb (n : Nat) (x : NetPort) : (s.setNetPort n x).tb = s.tb := rfl
@[simp] theorem State.setNetPort_host (n : Nat) (x : NetPort) : (s.setNetPort n x).host = s.host := rfl
@[simp] theorem State.setNetPort_awl (n : Nat) (x : NetPort) : (s.setNetPort n x).awl = s.awl := rfl
@[simp] theorem State.setNetPort_ing (n : Nat) (x : NetPort) : (s.setNetPort n x).ing = s.ing := rfl
@[simp] theorem State.setNetPort_twl (n : Nat) (x : NetPort) : (s.setNetPort n x).twl = s.twl := rfl
@[simp] theorem State.setNetPort_nim (n : Nat) (x : NetPort) : (s.setNetPort n x).nim = s.nim := rfl
@[simp] theorem State.setNetPort_tks (n : Nat) (x : NetPort) : (s.setNetPort n x).tks = s.tks := rfl
@[simp] theorem State.setNetPort_egr (n : Nat) (x : NetPort) : (s.setNetPort n x).egr = s.egr := rfl
@[simp] theorem State.setNetPort_twd (n : Nat) (x : NetPort) : (s.setNetPort n x).twd = s.twd := rfl
@[simp] theorem State.setNetPort_asp (n : Nat) (x : NetPort) : (s.setNetPort n x).asp = s.asp := rfl
@[simp] theorem State.setNetPort_vmp (n : Nat) (x : NetPort) : (s.setNetPort n x).vmp = s.vmp := rfl
@[simp] theorem State.setNetPort_lst (n : Nat) (x : NetPort) : (s.setNetPort n x).lst = s.lst := rfl
@[simp] theorem State.setNetPort_ntm (n : Nat) (x : NetPort) : (s.setNetPort n x).ntm = s.ntm := rfl
@[simp] theorem State.setNetPort_rsl (n : Nat) (x : NetPort) : (s.setNetPort n x).rsl = s.rsl := rfl
@[simp] theorem State.setNetPort_keep (n : Nat) (x : NetPort) : (s.setNetPort n x).keep = s.keep := rfl
@[simp] theorem State.setNetPort_upd (n : Nat) (x : NetPort) : (s.setNetPort n x).upd = s.upd := rfl
@[simp] theorem State.setNetPort_boot (n : Nat) (x : NetPort) : (s.setNetPort n x).boot = s.boot := rfl
@[simp] theorem State.setNetPort_frameStore (n : Nat) (x : NetPort) : (s.setNetPort n x).frameStore = s.frameStore := rfl
@[simp] theorem State.setNetPort_dir (n : Nat) (x : NetPort) : (s.setNetPort n x).dir = s.dir := rfl
@[simp] theorem State.setNetPort_reg (n : Nat) (x : NetPort) (r : Reg) (j : Nat) : (s.setNetPort n x).reg r j = s.reg r j := rfl
@[simp] theorem State.setNetPort_fld (n : Nat) (x : NetPort) (g : Fld) (j : Nat) : (s.setNetPort n x).fld g j = s.fld g j := rfl
@[simp] theorem State.setNetPort_flag (n : Nat) (x : NetPort) (g : Fld) (j : Nat) : (s.setNetPort n x).flag g j = s.flag g j := rfl

/-! ### setRxr -/

@[simp] theorem State.setRxr_pending (n : Nat) (x : HostRing) : (s.setRxr n x).pending = s.pending := rfl
@[simp] theorem State.setRxr_resp (n : Nat) (x : HostRing) : (s.setRxr n x).resp = s.resp := rfl
@[simp] theorem State.setRxr_rdata (n : Nat) (x : HostRing) : (s.setRxr n x).rdata = s.rdata := rfl
@[simp] theorem State.setRxr_latchHigh (n : Nat) (x : HostRing) : (s.setRxr n x).latchHigh = s.latchHigh := rfl
@[simp] theorem State.setRxr_latchLow (n : Nat) (x : HostRing) : (s.setRxr n x).latchLow = s.latchLow := rfl
@[simp] theorem State.setRxr_freeCtr (n : Nat) (x : HostRing) : (s.setRxr n x).freeCtr = s.freeCtr := rfl
@[simp] theorem State.setRxr_sent (n : Nat) (x : HostRing) : (s.setRxr n x).sent = s.sent := rfl
@[simp] theorem State.setRxr_tick (n : Nat) (x : HostRing) : (s.setRxr n x).tick = s.tick := rfl
@[simp] theorem State.setRxr_tb (n : Nat) (x : HostRing) : (s.setRxr n x).tb = s.tb := rfl
@[simp] theorem State.setRxr_host (n : Nat) (x : HostRing) : (s.setRxr n x).host = s.host := rfl
@[simp] theorem State.setRxr_awl (n : Nat) (x : HostRing) : (s.setRxr n x).awl = s.awl := rfl
@[simp] theorem State.setRxr_ing (n : Nat) (x : HostRing) : (s.setRxr n x).ing = s.ing := rfl
@[simp] theorem State.setRxr_twl (n : Nat) (x : HostRing) : (s.setRxr n x).twl = s.twl := rfl
@[simp] theorem State.setRxr_nim (n : Nat) (x : HostRing) : (s.setRxr n x).nim = s.nim := rfl
@[simp] theorem State.setRxr_tks (n : Nat) (x : HostRing) : (s.setRxr n x).tks = s.tks := rfl
@[simp] theorem State.setRxr_egr (n : Nat) (x : HostRing) : (s.setRxr n x).egr = s.egr := rfl
@[simp] theorem State.setRxr_twd (n : Nat) (x : HostRing) : (s.setRxr n x).twd = s.twd := rfl
@[simp] theorem State.setRxr_asp (n : Nat) (x : HostRing) : (s.setRxr n x).asp = s.asp := rfl
@[simp] theorem State.setRxr_vmp (n : Nat) (x : HostRing) : (s.setRxr n x).vmp = s.vmp := rfl
@[simp] theorem State.setRxr_lst (n : Nat) (x : HostRing) : (s.setRxr n x).lst = s.lst := rfl
@[simp] theorem State.setRxr_ntm (n : Nat) (x : HostRing) : (s.setRxr n x).ntm = s.ntm := rfl
@[simp] theorem State.setRxr_rsl (n : Nat) (x : HostRing) : (s.setRxr n x).rsl = s.rsl := rfl
@[simp] theorem State.setRxr_keep (n : Nat) (x : HostRing) : (s.setRxr n x).keep = s.keep := rfl
@[simp] theorem State.setRxr_upd (n : Nat) (x : HostRing) : (s.setRxr n x).upd = s.upd := rfl
@[simp] theorem State.setRxr_boot (n : Nat) (x : HostRing) : (s.setRxr n x).boot = s.boot := rfl
@[simp] theorem State.setRxr_frameStore (n : Nat) (x : HostRing) : (s.setRxr n x).frameStore = s.frameStore := rfl
@[simp] theorem State.setRxr_dir (n : Nat) (x : HostRing) : (s.setRxr n x).dir = s.dir := rfl
@[simp] theorem State.setRxr_reg (n : Nat) (x : HostRing) (r : Reg) (j : Nat) : (s.setRxr n x).reg r j = s.reg r j := rfl
@[simp] theorem State.setRxr_fld (n : Nat) (x : HostRing) (g : Fld) (j : Nat) : (s.setRxr n x).fld g j = s.fld g j := rfl
@[simp] theorem State.setRxr_flag (n : Nat) (x : HostRing) (g : Fld) (j : Nat) : (s.setRxr n x).flag g j = s.flag g j := rfl

/-! ### setTxr -/

@[simp] theorem State.setTxr_pending (n : Nat) (x : HostRing) : (s.setTxr n x).pending = s.pending := rfl
@[simp] theorem State.setTxr_resp (n : Nat) (x : HostRing) : (s.setTxr n x).resp = s.resp := rfl
@[simp] theorem State.setTxr_rdata (n : Nat) (x : HostRing) : (s.setTxr n x).rdata = s.rdata := rfl
@[simp] theorem State.setTxr_latchHigh (n : Nat) (x : HostRing) : (s.setTxr n x).latchHigh = s.latchHigh := rfl
@[simp] theorem State.setTxr_latchLow (n : Nat) (x : HostRing) : (s.setTxr n x).latchLow = s.latchLow := rfl
@[simp] theorem State.setTxr_freeCtr (n : Nat) (x : HostRing) : (s.setTxr n x).freeCtr = s.freeCtr := rfl
@[simp] theorem State.setTxr_sent (n : Nat) (x : HostRing) : (s.setTxr n x).sent = s.sent := rfl
@[simp] theorem State.setTxr_tick (n : Nat) (x : HostRing) : (s.setTxr n x).tick = s.tick := rfl
@[simp] theorem State.setTxr_tb (n : Nat) (x : HostRing) : (s.setTxr n x).tb = s.tb := rfl
@[simp] theorem State.setTxr_host (n : Nat) (x : HostRing) : (s.setTxr n x).host = s.host := rfl
@[simp] theorem State.setTxr_awl (n : Nat) (x : HostRing) : (s.setTxr n x).awl = s.awl := rfl
@[simp] theorem State.setTxr_ing (n : Nat) (x : HostRing) : (s.setTxr n x).ing = s.ing := rfl
@[simp] theorem State.setTxr_twl (n : Nat) (x : HostRing) : (s.setTxr n x).twl = s.twl := rfl
@[simp] theorem State.setTxr_nim (n : Nat) (x : HostRing) : (s.setTxr n x).nim = s.nim := rfl
@[simp] theorem State.setTxr_tks (n : Nat) (x : HostRing) : (s.setTxr n x).tks = s.tks := rfl
@[simp] theorem State.setTxr_egr (n : Nat) (x : HostRing) : (s.setTxr n x).egr = s.egr := rfl
@[simp] theorem State.setTxr_twd (n : Nat) (x : HostRing) : (s.setTxr n x).twd = s.twd := rfl
@[simp] theorem State.setTxr_asp (n : Nat) (x : HostRing) : (s.setTxr n x).asp = s.asp := rfl
@[simp] theorem State.setTxr_vmp (n : Nat) (x : HostRing) : (s.setTxr n x).vmp = s.vmp := rfl
@[simp] theorem State.setTxr_lst (n : Nat) (x : HostRing) : (s.setTxr n x).lst = s.lst := rfl
@[simp] theorem State.setTxr_ntm (n : Nat) (x : HostRing) : (s.setTxr n x).ntm = s.ntm := rfl
@[simp] theorem State.setTxr_rsl (n : Nat) (x : HostRing) : (s.setTxr n x).rsl = s.rsl := rfl
@[simp] theorem State.setTxr_keep (n : Nat) (x : HostRing) : (s.setTxr n x).keep = s.keep := rfl
@[simp] theorem State.setTxr_upd (n : Nat) (x : HostRing) : (s.setTxr n x).upd = s.upd := rfl
@[simp] theorem State.setTxr_boot (n : Nat) (x : HostRing) : (s.setTxr n x).boot = s.boot := rfl
@[simp] theorem State.setTxr_frameStore (n : Nat) (x : HostRing) : (s.setTxr n x).frameStore = s.frameStore := rfl
@[simp] theorem State.setTxr_dir (n : Nat) (x : HostRing) : (s.setTxr n x).dir = s.dir := rfl
@[simp] theorem State.setTxr_reg (n : Nat) (x : HostRing) (r : Reg) (j : Nat) : (s.setTxr n x).reg r j = s.reg r j := rfl
@[simp] theorem State.setTxr_fld (n : Nat) (x : HostRing) (g : Fld) (j : Nat) : (s.setTxr n x).fld g j = s.fld g j := rfl
@[simp] theorem State.setTxr_flag (n : Nat) (x : HostRing) (g : Fld) (j : Nat) : (s.setTxr n x).flag g j = s.flag g j := rfl

/-! ### setRsl -/

@[simp] theorem State.setRsl_pending (x : Rsl) : (s.setRsl x).pending = s.pending := rfl
@[simp] theorem State.setRsl_resp (x : Rsl) : (s.setRsl x).resp = s.resp := rfl
@[simp] theorem State.setRsl_rdata (x : Rsl) : (s.setRsl x).rdata = s.rdata := rfl
@[simp] theorem State.setRsl_latchHigh (x : Rsl) : (s.setRsl x).latchHigh = s.latchHigh := rfl
@[simp] theorem State.setRsl_latchLow (x : Rsl) : (s.setRsl x).latchLow = s.latchLow := rfl
@[simp] theorem State.setRsl_freeCtr (x : Rsl) : (s.setRsl x).freeCtr = s.freeCtr := rfl
@[simp] theorem State.setRsl_sent (x : Rsl) : (s.setRsl x).sent = s.sent := rfl
@[simp] theorem State.setRsl_tick (x : Rsl) : (s.setRsl x).tick = s.tick := rfl
@[simp] theorem State.setRsl_tb (x : Rsl) : (s.setRsl x).tb = s.tb := rfl
@[simp] theorem State.setRsl_host (x : Rsl) : (s.setRsl x).host = s.host := rfl
@[simp] theorem State.setRsl_awl (x : Rsl) : (s.setRsl x).awl = s.awl := rfl
@[simp] theorem State.setRsl_ing (x : Rsl) : (s.setRsl x).ing = s.ing := rfl
@[simp] theorem State.setRsl_twl (x : Rsl) : (s.setRsl x).twl = s.twl := rfl
@[simp] theorem State.setRsl_nim (x : Rsl) : (s.setRsl x).nim = s.nim := rfl
@[simp] theorem State.setRsl_tks (x : Rsl) : (s.setRsl x).tks = s.tks := rfl
@[simp] theorem State.setRsl_egr (x : Rsl) : (s.setRsl x).egr = s.egr := rfl
@[simp] theorem State.setRsl_twd (x : Rsl) : (s.setRsl x).twd = s.twd := rfl
@[simp] theorem State.setRsl_asp (x : Rsl) : (s.setRsl x).asp = s.asp := rfl
@[simp] theorem State.setRsl_vmp (x : Rsl) : (s.setRsl x).vmp = s.vmp := rfl
@[simp] theorem State.setRsl_lst (x : Rsl) : (s.setRsl x).lst = s.lst := rfl
@[simp] theorem State.setRsl_ntm (x : Rsl) : (s.setRsl x).ntm = s.ntm := rfl
@[simp] theorem State.setRsl_net (x : Rsl) : (s.setRsl x).net = s.net := rfl
@[simp] theorem State.setRsl_keep (x : Rsl) : (s.setRsl x).keep = s.keep := rfl
@[simp] theorem State.setRsl_upd (x : Rsl) : (s.setRsl x).upd = s.upd := rfl
@[simp] theorem State.setRsl_boot (x : Rsl) : (s.setRsl x).boot = s.boot := rfl
@[simp] theorem State.setRsl_frameStore (x : Rsl) : (s.setRsl x).frameStore = s.frameStore := rfl
@[simp] theorem State.setRsl_dir (x : Rsl) : (s.setRsl x).dir = s.dir := rfl
@[simp] theorem State.setRsl_reg (x : Rsl) (r : Reg) (j : Nat) : (s.setRsl x).reg r j = s.reg r j := rfl
@[simp] theorem State.setRsl_fld (x : Rsl) (g : Fld) (j : Nat) : (s.setRsl x).fld g j = s.fld g j := rfl
@[simp] theorem State.setRsl_flag (x : Rsl) (g : Fld) (j : Nat) : (s.setRsl x).flag g j = s.flag g j := rfl

/-! ### setKeep -/

@[simp] theorem State.setKeep_pending (x : Store) : (s.setKeep x).pending = s.pending := rfl
@[simp] theorem State.setKeep_resp (x : Store) : (s.setKeep x).resp = s.resp := rfl
@[simp] theorem State.setKeep_rdata (x : Store) : (s.setKeep x).rdata = s.rdata := rfl
@[simp] theorem State.setKeep_latchHigh (x : Store) : (s.setKeep x).latchHigh = s.latchHigh := rfl
@[simp] theorem State.setKeep_latchLow (x : Store) : (s.setKeep x).latchLow = s.latchLow := rfl
@[simp] theorem State.setKeep_freeCtr (x : Store) : (s.setKeep x).freeCtr = s.freeCtr := rfl
@[simp] theorem State.setKeep_sent (x : Store) : (s.setKeep x).sent = s.sent := rfl
@[simp] theorem State.setKeep_tick (x : Store) : (s.setKeep x).tick = s.tick := rfl
@[simp] theorem State.setKeep_tb (x : Store) : (s.setKeep x).tb = s.tb := rfl
@[simp] theorem State.setKeep_host (x : Store) : (s.setKeep x).host = s.host := rfl
@[simp] theorem State.setKeep_awl (x : Store) : (s.setKeep x).awl = s.awl := rfl
@[simp] theorem State.setKeep_ing (x : Store) : (s.setKeep x).ing = s.ing := rfl
@[simp] theorem State.setKeep_twl (x : Store) : (s.setKeep x).twl = s.twl := rfl
@[simp] theorem State.setKeep_nim (x : Store) : (s.setKeep x).nim = s.nim := rfl
@[simp] theorem State.setKeep_tks (x : Store) : (s.setKeep x).tks = s.tks := rfl
@[simp] theorem State.setKeep_egr (x : Store) : (s.setKeep x).egr = s.egr := rfl
@[simp] theorem State.setKeep_twd (x : Store) : (s.setKeep x).twd = s.twd := rfl
@[simp] theorem State.setKeep_asp (x : Store) : (s.setKeep x).asp = s.asp := rfl
@[simp] theorem State.setKeep_vmp (x : Store) : (s.setKeep x).vmp = s.vmp := rfl
@[simp] theorem State.setKeep_lst (x : Store) : (s.setKeep x).lst = s.lst := rfl
@[simp] theorem State.setKeep_ntm (x : Store) : (s.setKeep x).ntm = s.ntm := rfl
@[simp] theorem State.setKeep_net (x : Store) : (s.setKeep x).net = s.net := rfl
@[simp] theorem State.setKeep_rsl (x : Store) : (s.setKeep x).rsl = s.rsl := rfl
@[simp] theorem State.setKeep_upd (x : Store) : (s.setKeep x).upd = s.upd := rfl
@[simp] theorem State.setKeep_boot (x : Store) : (s.setKeep x).boot = s.boot := rfl
@[simp] theorem State.setKeep_frameStore (x : Store) : (s.setKeep x).frameStore = s.frameStore := rfl
@[simp] theorem State.setKeep_dir (x : Store) : (s.setKeep x).dir = s.dir := rfl
@[simp] theorem State.setKeep_reg (x : Store) (r : Reg) (j : Nat) : (s.setKeep x).reg r j = s.reg r j := rfl
@[simp] theorem State.setKeep_fld (x : Store) (g : Fld) (j : Nat) : (s.setKeep x).fld g j = s.fld g j := rfl
@[simp] theorem State.setKeep_flag (x : Store) (g : Fld) (j : Nat) : (s.setKeep x).flag g j = s.flag g j := rfl

/-! ### setUpd -/

@[simp] theorem State.setUpd_pending (x : Upd) : (s.setUpd x).pending = s.pending := rfl
@[simp] theorem State.setUpd_resp (x : Upd) : (s.setUpd x).resp = s.resp := rfl
@[simp] theorem State.setUpd_rdata (x : Upd) : (s.setUpd x).rdata = s.rdata := rfl
@[simp] theorem State.setUpd_latchHigh (x : Upd) : (s.setUpd x).latchHigh = s.latchHigh := rfl
@[simp] theorem State.setUpd_latchLow (x : Upd) : (s.setUpd x).latchLow = s.latchLow := rfl
@[simp] theorem State.setUpd_freeCtr (x : Upd) : (s.setUpd x).freeCtr = s.freeCtr := rfl
@[simp] theorem State.setUpd_sent (x : Upd) : (s.setUpd x).sent = s.sent := rfl
@[simp] theorem State.setUpd_tick (x : Upd) : (s.setUpd x).tick = s.tick := rfl
@[simp] theorem State.setUpd_tb (x : Upd) : (s.setUpd x).tb = s.tb := rfl
@[simp] theorem State.setUpd_host (x : Upd) : (s.setUpd x).host = s.host := rfl
@[simp] theorem State.setUpd_awl (x : Upd) : (s.setUpd x).awl = s.awl := rfl
@[simp] theorem State.setUpd_ing (x : Upd) : (s.setUpd x).ing = s.ing := rfl
@[simp] theorem State.setUpd_twl (x : Upd) : (s.setUpd x).twl = s.twl := rfl
@[simp] theorem State.setUpd_nim (x : Upd) : (s.setUpd x).nim = s.nim := rfl
@[simp] theorem State.setUpd_tks (x : Upd) : (s.setUpd x).tks = s.tks := rfl
@[simp] theorem State.setUpd_egr (x : Upd) : (s.setUpd x).egr = s.egr := rfl
@[simp] theorem State.setUpd_twd (x : Upd) : (s.setUpd x).twd = s.twd := rfl
@[simp] theorem State.setUpd_asp (x : Upd) : (s.setUpd x).asp = s.asp := rfl
@[simp] theorem State.setUpd_vmp (x : Upd) : (s.setUpd x).vmp = s.vmp := rfl
@[simp] theorem State.setUpd_lst (x : Upd) : (s.setUpd x).lst = s.lst := rfl
@[simp] theorem State.setUpd_ntm (x : Upd) : (s.setUpd x).ntm = s.ntm := rfl
@[simp] theorem State.setUpd_net (x : Upd) : (s.setUpd x).net = s.net := rfl
@[simp] theorem State.setUpd_rsl (x : Upd) : (s.setUpd x).rsl = s.rsl := rfl
@[simp] theorem State.setUpd_keep (x : Upd) : (s.setUpd x).keep = s.keep := rfl
@[simp] theorem State.setUpd_boot (x : Upd) : (s.setUpd x).boot = s.boot := rfl
@[simp] theorem State.setUpd_frameStore (x : Upd) : (s.setUpd x).frameStore = s.frameStore := rfl
@[simp] theorem State.setUpd_dir (x : Upd) : (s.setUpd x).dir = s.dir := rfl
@[simp] theorem State.setUpd_reg (x : Upd) (r : Reg) (j : Nat) : (s.setUpd x).reg r j = s.reg r j := rfl
@[simp] theorem State.setUpd_fld (x : Upd) (g : Fld) (j : Nat) : (s.setUpd x).fld g j = s.fld g j := rfl
@[simp] theorem State.setUpd_flag (x : Upd) (g : Fld) (j : Nat) : (s.setUpd x).flag g j = s.flag g j := rfl

/-! ### setBoot -/

@[simp] theorem State.setBoot_pending (x : Boot) : (s.setBoot x).pending = s.pending := rfl
@[simp] theorem State.setBoot_resp (x : Boot) : (s.setBoot x).resp = s.resp := rfl
@[simp] theorem State.setBoot_rdata (x : Boot) : (s.setBoot x).rdata = s.rdata := rfl
@[simp] theorem State.setBoot_latchHigh (x : Boot) : (s.setBoot x).latchHigh = s.latchHigh := rfl
@[simp] theorem State.setBoot_latchLow (x : Boot) : (s.setBoot x).latchLow = s.latchLow := rfl
@[simp] theorem State.setBoot_freeCtr (x : Boot) : (s.setBoot x).freeCtr = s.freeCtr := rfl
@[simp] theorem State.setBoot_sent (x : Boot) : (s.setBoot x).sent = s.sent := rfl
@[simp] theorem State.setBoot_tick (x : Boot) : (s.setBoot x).tick = s.tick := rfl
@[simp] theorem State.setBoot_tb (x : Boot) : (s.setBoot x).tb = s.tb := rfl
@[simp] theorem State.setBoot_host (x : Boot) : (s.setBoot x).host = s.host := rfl
@[simp] theorem State.setBoot_awl (x : Boot) : (s.setBoot x).awl = s.awl := rfl
@[simp] theorem State.setBoot_ing (x : Boot) : (s.setBoot x).ing = s.ing := rfl
@[simp] theorem State.setBoot_twl (x : Boot) : (s.setBoot x).twl = s.twl := rfl
@[simp] theorem State.setBoot_nim (x : Boot) : (s.setBoot x).nim = s.nim := rfl
@[simp] theorem State.setBoot_tks (x : Boot) : (s.setBoot x).tks = s.tks := rfl
@[simp] theorem State.setBoot_egr (x : Boot) : (s.setBoot x).egr = s.egr := rfl
@[simp] theorem State.setBoot_twd (x : Boot) : (s.setBoot x).twd = s.twd := rfl
@[simp] theorem State.setBoot_asp (x : Boot) : (s.setBoot x).asp = s.asp := rfl
@[simp] theorem State.setBoot_vmp (x : Boot) : (s.setBoot x).vmp = s.vmp := rfl
@[simp] theorem State.setBoot_lst (x : Boot) : (s.setBoot x).lst = s.lst := rfl
@[simp] theorem State.setBoot_ntm (x : Boot) : (s.setBoot x).ntm = s.ntm := rfl
@[simp] theorem State.setBoot_net (x : Boot) : (s.setBoot x).net = s.net := rfl
@[simp] theorem State.setBoot_rsl (x : Boot) : (s.setBoot x).rsl = s.rsl := rfl
@[simp] theorem State.setBoot_keep (x : Boot) : (s.setBoot x).keep = s.keep := rfl
@[simp] theorem State.setBoot_upd (x : Boot) : (s.setBoot x).upd = s.upd := rfl
@[simp] theorem State.setBoot_frameStore (x : Boot) : (s.setBoot x).frameStore = s.frameStore := rfl
@[simp] theorem State.setBoot_dir (x : Boot) : (s.setBoot x).dir = s.dir := rfl
@[simp] theorem State.setBoot_reg (x : Boot) (r : Reg) (j : Nat) : (s.setBoot x).reg r j = s.reg r j := rfl
@[simp] theorem State.setBoot_fld (x : Boot) (g : Fld) (j : Nat) : (s.setBoot x).fld g j = s.fld g j := rfl
@[simp] theorem State.setBoot_flag (x : Boot) (g : Fld) (j : Nat) : (s.setBoot x).flag g j = s.flag g j := rfl

/-! ### setAwl -/

@[simp] theorem State.setAwl_pending (x : Awl) : (s.setAwl x).pending = s.pending := rfl
@[simp] theorem State.setAwl_resp (x : Awl) : (s.setAwl x).resp = s.resp := rfl
@[simp] theorem State.setAwl_rdata (x : Awl) : (s.setAwl x).rdata = s.rdata := rfl
@[simp] theorem State.setAwl_latchHigh (x : Awl) : (s.setAwl x).latchHigh = s.latchHigh := rfl
@[simp] theorem State.setAwl_latchLow (x : Awl) : (s.setAwl x).latchLow = s.latchLow := rfl
@[simp] theorem State.setAwl_freeCtr (x : Awl) : (s.setAwl x).freeCtr = s.freeCtr := rfl
@[simp] theorem State.setAwl_sent (x : Awl) : (s.setAwl x).sent = s.sent := rfl
@[simp] theorem State.setAwl_tick (x : Awl) : (s.setAwl x).tick = s.tick := rfl
@[simp] theorem State.setAwl_tb (x : Awl) : (s.setAwl x).tb = s.tb := rfl
@[simp] theorem State.setAwl_host (x : Awl) : (s.setAwl x).host = s.host := rfl
@[simp] theorem State.setAwl_ing (x : Awl) : (s.setAwl x).ing = s.ing := rfl
@[simp] theorem State.setAwl_twl (x : Awl) : (s.setAwl x).twl = s.twl := rfl
@[simp] theorem State.setAwl_nim (x : Awl) : (s.setAwl x).nim = s.nim := rfl
@[simp] theorem State.setAwl_tks (x : Awl) : (s.setAwl x).tks = s.tks := rfl
@[simp] theorem State.setAwl_egr (x : Awl) : (s.setAwl x).egr = s.egr := rfl
@[simp] theorem State.setAwl_twd (x : Awl) : (s.setAwl x).twd = s.twd := rfl
@[simp] theorem State.setAwl_asp (x : Awl) : (s.setAwl x).asp = s.asp := rfl
@[simp] theorem State.setAwl_vmp (x : Awl) : (s.setAwl x).vmp = s.vmp := rfl
@[simp] theorem State.setAwl_lst (x : Awl) : (s.setAwl x).lst = s.lst := rfl
@[simp] theorem State.setAwl_ntm (x : Awl) : (s.setAwl x).ntm = s.ntm := rfl
@[simp] theorem State.setAwl_net (x : Awl) : (s.setAwl x).net = s.net := rfl
@[simp] theorem State.setAwl_rsl (x : Awl) : (s.setAwl x).rsl = s.rsl := rfl
@[simp] theorem State.setAwl_keep (x : Awl) : (s.setAwl x).keep = s.keep := rfl
@[simp] theorem State.setAwl_upd (x : Awl) : (s.setAwl x).upd = s.upd := rfl
@[simp] theorem State.setAwl_boot (x : Awl) : (s.setAwl x).boot = s.boot := rfl
@[simp] theorem State.setAwl_frameStore (x : Awl) : (s.setAwl x).frameStore = s.frameStore := rfl
@[simp] theorem State.setAwl_dir (x : Awl) : (s.setAwl x).dir = s.dir := rfl
@[simp] theorem State.setAwl_reg (x : Awl) (r : Reg) (j : Nat) : (s.setAwl x).reg r j = s.reg r j := rfl
@[simp] theorem State.setAwl_fld (x : Awl) (g : Fld) (j : Nat) : (s.setAwl x).fld g j = s.fld g j := rfl
@[simp] theorem State.setAwl_flag (x : Awl) (g : Fld) (j : Nat) : (s.setAwl x).flag g j = s.flag g j := rfl

/-! ### setClk -/

@[simp] theorem State.setClk_pending (n : Nat) (x : ClkRun) : (s.setClk n x).pending = s.pending := rfl
@[simp] theorem State.setClk_resp (n : Nat) (x : ClkRun) : (s.setClk n x).resp = s.resp := rfl
@[simp] theorem State.setClk_rdata (n : Nat) (x : ClkRun) : (s.setClk n x).rdata = s.rdata := rfl
@[simp] theorem State.setClk_latchHigh (n : Nat) (x : ClkRun) : (s.setClk n x).latchHigh = s.latchHigh := rfl
@[simp] theorem State.setClk_latchLow (n : Nat) (x : ClkRun) : (s.setClk n x).latchLow = s.latchLow := rfl
@[simp] theorem State.setClk_freeCtr (n : Nat) (x : ClkRun) : (s.setClk n x).freeCtr = s.freeCtr := rfl
@[simp] theorem State.setClk_sent (n : Nat) (x : ClkRun) : (s.setClk n x).sent = s.sent := rfl
@[simp] theorem State.setClk_tick (n : Nat) (x : ClkRun) : (s.setClk n x).tick = s.tick := rfl
@[simp] theorem State.setClk_tb (n : Nat) (x : ClkRun) : (s.setClk n x).tb = s.tb := rfl
@[simp] theorem State.setClk_host (n : Nat) (x : ClkRun) : (s.setClk n x).host = s.host := rfl
@[simp] theorem State.setClk_awl (n : Nat) (x : ClkRun) : (s.setClk n x).awl = s.awl := rfl
@[simp] theorem State.setClk_ing (n : Nat) (x : ClkRun) : (s.setClk n x).ing = s.ing := rfl
@[simp] theorem State.setClk_twl (n : Nat) (x : ClkRun) : (s.setClk n x).twl = s.twl := rfl
@[simp] theorem State.setClk_nim (n : Nat) (x : ClkRun) : (s.setClk n x).nim = s.nim := rfl
@[simp] theorem State.setClk_tks (n : Nat) (x : ClkRun) : (s.setClk n x).tks = s.tks := rfl
@[simp] theorem State.setClk_egr (n : Nat) (x : ClkRun) : (s.setClk n x).egr = s.egr := rfl
@[simp] theorem State.setClk_twd (n : Nat) (x : ClkRun) : (s.setClk n x).twd = s.twd := rfl
@[simp] theorem State.setClk_asp (n : Nat) (x : ClkRun) : (s.setClk n x).asp = s.asp := rfl
@[simp] theorem State.setClk_vmp (n : Nat) (x : ClkRun) : (s.setClk n x).vmp = s.vmp := rfl
@[simp] theorem State.setClk_lst (n : Nat) (x : ClkRun) : (s.setClk n x).lst = s.lst := rfl
@[simp] theorem State.setClk_ntm (n : Nat) (x : ClkRun) : (s.setClk n x).ntm = s.ntm := rfl
@[simp] theorem State.setClk_net (n : Nat) (x : ClkRun) : (s.setClk n x).net = s.net := rfl
@[simp] theorem State.setClk_rsl (n : Nat) (x : ClkRun) : (s.setClk n x).rsl = s.rsl := rfl
@[simp] theorem State.setClk_keep (n : Nat) (x : ClkRun) : (s.setClk n x).keep = s.keep := rfl
@[simp] theorem State.setClk_upd (n : Nat) (x : ClkRun) : (s.setClk n x).upd = s.upd := rfl
@[simp] theorem State.setClk_frameStore (n : Nat) (x : ClkRun) : (s.setClk n x).frameStore = s.frameStore := rfl
@[simp] theorem State.setClk_dir (n : Nat) (x : ClkRun) : (s.setClk n x).dir = s.dir := rfl
@[simp] theorem State.setClk_reg (n : Nat) (x : ClkRun) (r : Reg) (j : Nat) : (s.setClk n x).reg r j = s.reg r j := rfl
@[simp] theorem State.setClk_fld (n : Nat) (x : ClkRun) (g : Fld) (j : Nat) : (s.setClk n x).fld g j = s.fld g j := rfl
@[simp] theorem State.setClk_flag (n : Nat) (x : ClkRun) (g : Fld) (j : Nat) : (s.setClk n x).flag g j = s.flag g j := rfl

/-! ### setOut -/

@[simp] theorem State.setOut_pending (n : Nat) (x : Output) : (s.setOut n x).pending = s.pending := rfl
@[simp] theorem State.setOut_resp (n : Nat) (x : Output) : (s.setOut n x).resp = s.resp := rfl
@[simp] theorem State.setOut_rdata (n : Nat) (x : Output) : (s.setOut n x).rdata = s.rdata := rfl
@[simp] theorem State.setOut_latchHigh (n : Nat) (x : Output) : (s.setOut n x).latchHigh = s.latchHigh := rfl
@[simp] theorem State.setOut_latchLow (n : Nat) (x : Output) : (s.setOut n x).latchLow = s.latchLow := rfl
@[simp] theorem State.setOut_freeCtr (n : Nat) (x : Output) : (s.setOut n x).freeCtr = s.freeCtr := rfl
@[simp] theorem State.setOut_sent (n : Nat) (x : Output) : (s.setOut n x).sent = s.sent := rfl
@[simp] theorem State.setOut_tick (n : Nat) (x : Output) : (s.setOut n x).tick = s.tick := rfl
@[simp] theorem State.setOut_tb (n : Nat) (x : Output) : (s.setOut n x).tb = s.tb := rfl
@[simp] theorem State.setOut_host (n : Nat) (x : Output) : (s.setOut n x).host = s.host := rfl
@[simp] theorem State.setOut_awl (n : Nat) (x : Output) : (s.setOut n x).awl = s.awl := rfl
@[simp] theorem State.setOut_ing (n : Nat) (x : Output) : (s.setOut n x).ing = s.ing := rfl
@[simp] theorem State.setOut_twl (n : Nat) (x : Output) : (s.setOut n x).twl = s.twl := rfl
@[simp] theorem State.setOut_nim (n : Nat) (x : Output) : (s.setOut n x).nim = s.nim := rfl
@[simp] theorem State.setOut_tks (n : Nat) (x : Output) : (s.setOut n x).tks = s.tks := rfl
@[simp] theorem State.setOut_twd (n : Nat) (x : Output) : (s.setOut n x).twd = s.twd := rfl
@[simp] theorem State.setOut_asp (n : Nat) (x : Output) : (s.setOut n x).asp = s.asp := rfl
@[simp] theorem State.setOut_vmp (n : Nat) (x : Output) : (s.setOut n x).vmp = s.vmp := rfl
@[simp] theorem State.setOut_lst (n : Nat) (x : Output) : (s.setOut n x).lst = s.lst := rfl
@[simp] theorem State.setOut_ntm (n : Nat) (x : Output) : (s.setOut n x).ntm = s.ntm := rfl
@[simp] theorem State.setOut_net (n : Nat) (x : Output) : (s.setOut n x).net = s.net := rfl
@[simp] theorem State.setOut_rsl (n : Nat) (x : Output) : (s.setOut n x).rsl = s.rsl := rfl
@[simp] theorem State.setOut_keep (n : Nat) (x : Output) : (s.setOut n x).keep = s.keep := rfl
@[simp] theorem State.setOut_upd (n : Nat) (x : Output) : (s.setOut n x).upd = s.upd := rfl
@[simp] theorem State.setOut_boot (n : Nat) (x : Output) : (s.setOut n x).boot = s.boot := rfl
@[simp] theorem State.setOut_frameStore (n : Nat) (x : Output) : (s.setOut n x).frameStore = s.frameStore := rfl
@[simp] theorem State.setOut_dir (n : Nat) (x : Output) : (s.setOut n x).dir = s.dir := rfl
@[simp] theorem State.setOut_reg (n : Nat) (x : Output) (r : Reg) (j : Nat) : (s.setOut n x).reg r j = s.reg r j := rfl
@[simp] theorem State.setOut_fld (n : Nat) (x : Output) (g : Fld) (j : Nat) : (s.setOut n x).fld g j = s.fld g j := rfl
@[simp] theorem State.setOut_flag (n : Nat) (x : Output) (g : Fld) (j : Nat) : (s.setOut n x).flag g j = s.flag g j := rfl

/-! ### setOtd -/

@[simp] theorem State.setOtd_pending (n : Nat) (x : Otd) : (s.setOtd n x).pending = s.pending := rfl
@[simp] theorem State.setOtd_resp (n : Nat) (x : Otd) : (s.setOtd n x).resp = s.resp := rfl
@[simp] theorem State.setOtd_rdata (n : Nat) (x : Otd) : (s.setOtd n x).rdata = s.rdata := rfl
@[simp] theorem State.setOtd_latchHigh (n : Nat) (x : Otd) : (s.setOtd n x).latchHigh = s.latchHigh := rfl
@[simp] theorem State.setOtd_latchLow (n : Nat) (x : Otd) : (s.setOtd n x).latchLow = s.latchLow := rfl
@[simp] theorem State.setOtd_freeCtr (n : Nat) (x : Otd) : (s.setOtd n x).freeCtr = s.freeCtr := rfl
@[simp] theorem State.setOtd_sent (n : Nat) (x : Otd) : (s.setOtd n x).sent = s.sent := rfl
@[simp] theorem State.setOtd_tick (n : Nat) (x : Otd) : (s.setOtd n x).tick = s.tick := rfl
@[simp] theorem State.setOtd_tb (n : Nat) (x : Otd) : (s.setOtd n x).tb = s.tb := rfl
@[simp] theorem State.setOtd_host (n : Nat) (x : Otd) : (s.setOtd n x).host = s.host := rfl
@[simp] theorem State.setOtd_awl (n : Nat) (x : Otd) : (s.setOtd n x).awl = s.awl := rfl
@[simp] theorem State.setOtd_ing (n : Nat) (x : Otd) : (s.setOtd n x).ing = s.ing := rfl
@[simp] theorem State.setOtd_twl (n : Nat) (x : Otd) : (s.setOtd n x).twl = s.twl := rfl
@[simp] theorem State.setOtd_nim (n : Nat) (x : Otd) : (s.setOtd n x).nim = s.nim := rfl
@[simp] theorem State.setOtd_tks (n : Nat) (x : Otd) : (s.setOtd n x).tks = s.tks := rfl
@[simp] theorem State.setOtd_twd (n : Nat) (x : Otd) : (s.setOtd n x).twd = s.twd := rfl
@[simp] theorem State.setOtd_asp (n : Nat) (x : Otd) : (s.setOtd n x).asp = s.asp := rfl
@[simp] theorem State.setOtd_vmp (n : Nat) (x : Otd) : (s.setOtd n x).vmp = s.vmp := rfl
@[simp] theorem State.setOtd_lst (n : Nat) (x : Otd) : (s.setOtd n x).lst = s.lst := rfl
@[simp] theorem State.setOtd_ntm (n : Nat) (x : Otd) : (s.setOtd n x).ntm = s.ntm := rfl
@[simp] theorem State.setOtd_net (n : Nat) (x : Otd) : (s.setOtd n x).net = s.net := rfl
@[simp] theorem State.setOtd_rsl (n : Nat) (x : Otd) : (s.setOtd n x).rsl = s.rsl := rfl
@[simp] theorem State.setOtd_keep (n : Nat) (x : Otd) : (s.setOtd n x).keep = s.keep := rfl
@[simp] theorem State.setOtd_upd (n : Nat) (x : Otd) : (s.setOtd n x).upd = s.upd := rfl
@[simp] theorem State.setOtd_boot (n : Nat) (x : Otd) : (s.setOtd n x).boot = s.boot := rfl
@[simp] theorem State.setOtd_frameStore (n : Nat) (x : Otd) : (s.setOtd n x).frameStore = s.frameStore := rfl
@[simp] theorem State.setOtd_dir (n : Nat) (x : Otd) : (s.setOtd n x).dir = s.dir := rfl
@[simp] theorem State.setOtd_reg (n : Nat) (x : Otd) (r : Reg) (j : Nat) : (s.setOtd n x).reg r j = s.reg r j := rfl
@[simp] theorem State.setOtd_fld (n : Nat) (x : Otd) (g : Fld) (j : Nat) : (s.setOtd n x).fld g j = s.fld g j := rfl
@[simp] theorem State.setOtd_flag (n : Nat) (x : Otd) (g : Fld) (j : Nat) : (s.setOtd n x).flag g j = s.flag g j := rfl

/-! ### setSender -/

@[simp] theorem State.setSender_pending (k : SndKind) (n : Nat) (x : Sender) : (s.setSender k n x).pending = s.pending := by cases k <;> rfl
@[simp] theorem State.setSender_resp (k : SndKind) (n : Nat) (x : Sender) : (s.setSender k n x).resp = s.resp := by cases k <;> rfl
@[simp] theorem State.setSender_rdata (k : SndKind) (n : Nat) (x : Sender) : (s.setSender k n x).rdata = s.rdata := by cases k <;> rfl
@[simp] theorem State.setSender_latchHigh (k : SndKind) (n : Nat) (x : Sender) : (s.setSender k n x).latchHigh = s.latchHigh := by cases k <;> rfl
@[simp] theorem State.setSender_latchLow (k : SndKind) (n : Nat) (x : Sender) : (s.setSender k n x).latchLow = s.latchLow := by cases k <;> rfl
@[simp] theorem State.setSender_freeCtr (k : SndKind) (n : Nat) (x : Sender) : (s.setSender k n x).freeCtr = s.freeCtr := by cases k <;> rfl
@[simp] theorem State.setSender_sent (k : SndKind) (n : Nat) (x : Sender) : (s.setSender k n x).sent = s.sent := by cases k <;> rfl
@[simp] theorem State.setSender_tick (k : SndKind) (n : Nat) (x : Sender) : (s.setSender k n x).tick = s.tick := by cases k <;> rfl
@[simp] theorem State.setSender_tb (k : SndKind) (n : Nat) (x : Sender) : (s.setSender k n x).tb = s.tb := by cases k <;> rfl
@[simp] theorem State.setSender_host (k : SndKind) (n : Nat) (x : Sender) : (s.setSender k n x).host = s.host := by cases k <;> rfl
@[simp] theorem State.setSender_awl (k : SndKind) (n : Nat) (x : Sender) : (s.setSender k n x).awl = s.awl := by cases k <;> rfl
@[simp] theorem State.setSender_ing (k : SndKind) (n : Nat) (x : Sender) : (s.setSender k n x).ing = s.ing := by cases k <;> rfl
@[simp] theorem State.setSender_twl (k : SndKind) (n : Nat) (x : Sender) : (s.setSender k n x).twl = s.twl := by cases k <;> rfl
@[simp] theorem State.setSender_nim (k : SndKind) (n : Nat) (x : Sender) : (s.setSender k n x).nim = s.nim := by cases k <;> rfl
@[simp] theorem State.setSender_tks (k : SndKind) (n : Nat) (x : Sender) : (s.setSender k n x).tks = s.tks := by cases k <;> rfl
@[simp] theorem State.setSender_twd (k : SndKind) (n : Nat) (x : Sender) : (s.setSender k n x).twd = s.twd := by cases k <;> rfl
@[simp] theorem State.setSender_asp (k : SndKind) (n : Nat) (x : Sender) : (s.setSender k n x).asp = s.asp := by cases k <;> rfl
@[simp] theorem State.setSender_vmp (k : SndKind) (n : Nat) (x : Sender) : (s.setSender k n x).vmp = s.vmp := by cases k <;> rfl
@[simp] theorem State.setSender_lst (k : SndKind) (n : Nat) (x : Sender) : (s.setSender k n x).lst = s.lst := by cases k <;> rfl
@[simp] theorem State.setSender_ntm (k : SndKind) (n : Nat) (x : Sender) : (s.setSender k n x).ntm = s.ntm := by cases k <;> rfl
@[simp] theorem State.setSender_net (k : SndKind) (n : Nat) (x : Sender) : (s.setSender k n x).net = s.net := by cases k <;> rfl
@[simp] theorem State.setSender_rsl (k : SndKind) (n : Nat) (x : Sender) : (s.setSender k n x).rsl = s.rsl := by cases k <;> rfl
@[simp] theorem State.setSender_keep (k : SndKind) (n : Nat) (x : Sender) : (s.setSender k n x).keep = s.keep := by cases k <;> rfl
@[simp] theorem State.setSender_upd (k : SndKind) (n : Nat) (x : Sender) : (s.setSender k n x).upd = s.upd := by cases k <;> rfl
@[simp] theorem State.setSender_boot (k : SndKind) (n : Nat) (x : Sender) : (s.setSender k n x).boot = s.boot := by cases k <;> rfl
@[simp] theorem State.setSender_frameStore (k : SndKind) (n : Nat) (x : Sender) : (s.setSender k n x).frameStore = s.frameStore := by cases k <;> rfl
@[simp] theorem State.setSender_dir (k : SndKind) (n : Nat) (x : Sender) : (s.setSender k n x).dir = s.dir := by cases k <;> rfl
@[simp] theorem State.setSender_reg (k : SndKind) (n : Nat) (x : Sender) (r : Reg) (j : Nat) : (s.setSender k n x).reg r j = s.reg r j := by cases k <;> rfl
@[simp] theorem State.setSender_fld (k : SndKind) (n : Nat) (x : Sender) (g : Fld) (j : Nat) : (s.setSender k n x).fld g j = s.fld g j := by cases k <;> rfl
@[simp] theorem State.setSender_flag (k : SndKind) (n : Nat) (x : Sender) (g : Fld) (j : Nat) : (s.setSender k n x).flag g j = s.flag g j := by cases k <;> rfl

/-! ### setJoin -/

@[simp] theorem State.setJoin_pending (n : Nat) (x : Join) : (s.setJoin n x).pending = s.pending := rfl
@[simp] theorem State.setJoin_resp (n : Nat) (x : Join) : (s.setJoin n x).resp = s.resp := rfl
@[simp] theorem State.setJoin_rdata (n : Nat) (x : Join) : (s.setJoin n x).rdata = s.rdata := rfl
@[simp] theorem State.setJoin_latchHigh (n : Nat) (x : Join) : (s.setJoin n x).latchHigh = s.latchHigh := rfl
@[simp] theorem State.setJoin_latchLow (n : Nat) (x : Join) : (s.setJoin n x).latchLow = s.latchLow := rfl
@[simp] theorem State.setJoin_freeCtr (n : Nat) (x : Join) : (s.setJoin n x).freeCtr = s.freeCtr := rfl
@[simp] theorem State.setJoin_sent (n : Nat) (x : Join) : (s.setJoin n x).sent = s.sent := rfl
@[simp] theorem State.setJoin_tick (n : Nat) (x : Join) : (s.setJoin n x).tick = s.tick := rfl
@[simp] theorem State.setJoin_tb (n : Nat) (x : Join) : (s.setJoin n x).tb = s.tb := rfl
@[simp] theorem State.setJoin_host (n : Nat) (x : Join) : (s.setJoin n x).host = s.host := rfl
@[simp] theorem State.setJoin_awl (n : Nat) (x : Join) : (s.setJoin n x).awl = s.awl := rfl
@[simp] theorem State.setJoin_ing (n : Nat) (x : Join) : (s.setJoin n x).ing = s.ing := rfl
@[simp] theorem State.setJoin_twl (n : Nat) (x : Join) : (s.setJoin n x).twl = s.twl := rfl
@[simp] theorem State.setJoin_nim (n : Nat) (x : Join) : (s.setJoin n x).nim = s.nim := rfl
@[simp] theorem State.setJoin_tks (n : Nat) (x : Join) : (s.setJoin n x).tks = s.tks := rfl
@[simp] theorem State.setJoin_twd (n : Nat) (x : Join) : (s.setJoin n x).twd = s.twd := rfl
@[simp] theorem State.setJoin_asp (n : Nat) (x : Join) : (s.setJoin n x).asp = s.asp := rfl
@[simp] theorem State.setJoin_vmp (n : Nat) (x : Join) : (s.setJoin n x).vmp = s.vmp := rfl
@[simp] theorem State.setJoin_lst (n : Nat) (x : Join) : (s.setJoin n x).lst = s.lst := rfl
@[simp] theorem State.setJoin_ntm (n : Nat) (x : Join) : (s.setJoin n x).ntm = s.ntm := rfl
@[simp] theorem State.setJoin_net (n : Nat) (x : Join) : (s.setJoin n x).net = s.net := rfl
@[simp] theorem State.setJoin_rsl (n : Nat) (x : Join) : (s.setJoin n x).rsl = s.rsl := rfl
@[simp] theorem State.setJoin_keep (n : Nat) (x : Join) : (s.setJoin n x).keep = s.keep := rfl
@[simp] theorem State.setJoin_upd (n : Nat) (x : Join) : (s.setJoin n x).upd = s.upd := rfl
@[simp] theorem State.setJoin_boot (n : Nat) (x : Join) : (s.setJoin n x).boot = s.boot := rfl
@[simp] theorem State.setJoin_frameStore (n : Nat) (x : Join) : (s.setJoin n x).frameStore = s.frameStore := rfl
@[simp] theorem State.setJoin_dir (n : Nat) (x : Join) : (s.setJoin n x).dir = s.dir := rfl
@[simp] theorem State.setJoin_reg (n : Nat) (x : Join) (r : Reg) (j : Nat) : (s.setJoin n x).reg r j = s.reg r j := rfl
@[simp] theorem State.setJoin_fld (n : Nat) (x : Join) (g : Fld) (j : Nat) : (s.setJoin n x).fld g j = s.fld g j := rfl
@[simp] theorem State.setJoin_flag (n : Nat) (x : Join) (g : Fld) (j : Nat) : (s.setJoin n x).flag g j = s.flag g j := rfl

/-! ### setTakes -/

@[simp] theorem State.setTakes_pending (l : List PendTake) : (s.setTakes l).pending = s.pending := rfl
@[simp] theorem State.setTakes_resp (l : List PendTake) : (s.setTakes l).resp = s.resp := rfl
@[simp] theorem State.setTakes_rdata (l : List PendTake) : (s.setTakes l).rdata = s.rdata := rfl
@[simp] theorem State.setTakes_latchHigh (l : List PendTake) : (s.setTakes l).latchHigh = s.latchHigh := rfl
@[simp] theorem State.setTakes_latchLow (l : List PendTake) : (s.setTakes l).latchLow = s.latchLow := rfl
@[simp] theorem State.setTakes_freeCtr (l : List PendTake) : (s.setTakes l).freeCtr = s.freeCtr := rfl
@[simp] theorem State.setTakes_sent (l : List PendTake) : (s.setTakes l).sent = s.sent := rfl
@[simp] theorem State.setTakes_tick (l : List PendTake) : (s.setTakes l).tick = s.tick := rfl
@[simp] theorem State.setTakes_tb (l : List PendTake) : (s.setTakes l).tb = s.tb := rfl
@[simp] theorem State.setTakes_host (l : List PendTake) : (s.setTakes l).host = s.host := rfl
@[simp] theorem State.setTakes_awl (l : List PendTake) : (s.setTakes l).awl = s.awl := rfl
@[simp] theorem State.setTakes_ing (l : List PendTake) : (s.setTakes l).ing = s.ing := rfl
@[simp] theorem State.setTakes_twl (l : List PendTake) : (s.setTakes l).twl = s.twl := rfl
@[simp] theorem State.setTakes_nim (l : List PendTake) : (s.setTakes l).nim = s.nim := rfl
@[simp] theorem State.setTakes_egr (l : List PendTake) : (s.setTakes l).egr = s.egr := rfl
@[simp] theorem State.setTakes_twd (l : List PendTake) : (s.setTakes l).twd = s.twd := rfl
@[simp] theorem State.setTakes_asp (l : List PendTake) : (s.setTakes l).asp = s.asp := rfl
@[simp] theorem State.setTakes_vmp (l : List PendTake) : (s.setTakes l).vmp = s.vmp := rfl
@[simp] theorem State.setTakes_lst (l : List PendTake) : (s.setTakes l).lst = s.lst := rfl
@[simp] theorem State.setTakes_ntm (l : List PendTake) : (s.setTakes l).ntm = s.ntm := rfl
@[simp] theorem State.setTakes_net (l : List PendTake) : (s.setTakes l).net = s.net := rfl
@[simp] theorem State.setTakes_rsl (l : List PendTake) : (s.setTakes l).rsl = s.rsl := rfl
@[simp] theorem State.setTakes_keep (l : List PendTake) : (s.setTakes l).keep = s.keep := rfl
@[simp] theorem State.setTakes_upd (l : List PendTake) : (s.setTakes l).upd = s.upd := rfl
@[simp] theorem State.setTakes_boot (l : List PendTake) : (s.setTakes l).boot = s.boot := rfl
@[simp] theorem State.setTakes_frameStore (l : List PendTake) : (s.setTakes l).frameStore = s.frameStore := rfl
@[simp] theorem State.setTakes_dir (l : List PendTake) : (s.setTakes l).dir = s.dir := rfl
@[simp] theorem State.setTakes_reg (l : List PendTake) (r : Reg) (j : Nat) : (s.setTakes l).reg r j = s.reg r j := rfl
@[simp] theorem State.setTakes_fld (l : List PendTake) (g : Fld) (j : Nat) : (s.setTakes l).fld g j = s.fld g j := rfl
@[simp] theorem State.setTakes_flag (l : List PendTake) (g : Fld) (j : Nat) : (s.setTakes l).flag g j = s.flag g j := rfl

/-! ### setDirs -/

@[simp] theorem State.setDirs_pending (d : Dirs) : (s.setDirs d).pending = s.pending := rfl
@[simp] theorem State.setDirs_resp (d : Dirs) : (s.setDirs d).resp = s.resp := rfl
@[simp] theorem State.setDirs_rdata (d : Dirs) : (s.setDirs d).rdata = s.rdata := rfl
@[simp] theorem State.setDirs_latchHigh (d : Dirs) : (s.setDirs d).latchHigh = s.latchHigh := rfl
@[simp] theorem State.setDirs_latchLow (d : Dirs) : (s.setDirs d).latchLow = s.latchLow := rfl
@[simp] theorem State.setDirs_freeCtr (d : Dirs) : (s.setDirs d).freeCtr = s.freeCtr := rfl
@[simp] theorem State.setDirs_sent (d : Dirs) : (s.setDirs d).sent = s.sent := rfl
@[simp] theorem State.setDirs_tick (d : Dirs) : (s.setDirs d).tick = s.tick := rfl
@[simp] theorem State.setDirs_tb (d : Dirs) : (s.setDirs d).tb = s.tb := rfl
@[simp] theorem State.setDirs_host (d : Dirs) : (s.setDirs d).host = s.host := rfl
@[simp] theorem State.setDirs_awl (d : Dirs) : (s.setDirs d).awl = s.awl := rfl
@[simp] theorem State.setDirs_ing (d : Dirs) : (s.setDirs d).ing = s.ing := rfl
@[simp] theorem State.setDirs_nim (d : Dirs) : (s.setDirs d).nim = s.nim := rfl
@[simp] theorem State.setDirs_tks (d : Dirs) : (s.setDirs d).tks = s.tks := rfl
@[simp] theorem State.setDirs_egr (d : Dirs) : (s.setDirs d).egr = s.egr := rfl
@[simp] theorem State.setDirs_twd (d : Dirs) : (s.setDirs d).twd = s.twd := rfl
@[simp] theorem State.setDirs_asp (d : Dirs) : (s.setDirs d).asp = s.asp := rfl
@[simp] theorem State.setDirs_vmp (d : Dirs) : (s.setDirs d).vmp = s.vmp := rfl
@[simp] theorem State.setDirs_lst (d : Dirs) : (s.setDirs d).lst = s.lst := rfl
@[simp] theorem State.setDirs_ntm (d : Dirs) : (s.setDirs d).ntm = s.ntm := rfl
@[simp] theorem State.setDirs_net (d : Dirs) : (s.setDirs d).net = s.net := rfl
@[simp] theorem State.setDirs_rsl (d : Dirs) : (s.setDirs d).rsl = s.rsl := rfl
@[simp] theorem State.setDirs_keep (d : Dirs) : (s.setDirs d).keep = s.keep := rfl
@[simp] theorem State.setDirs_upd (d : Dirs) : (s.setDirs d).upd = s.upd := rfl
@[simp] theorem State.setDirs_boot (d : Dirs) : (s.setDirs d).boot = s.boot := rfl
@[simp] theorem State.setDirs_frameStore (d : Dirs) : (s.setDirs d).frameStore = s.frameStore := rfl
@[simp] theorem State.setDirs_dir (d : Dirs) : (s.setDirs d).dir = s.dir := rfl
@[simp] theorem State.setDirs_reg (d : Dirs) (r : Reg) (j : Nat) : (s.setDirs d).reg r j = s.reg r j := rfl
@[simp] theorem State.setDirs_fld (d : Dirs) (g : Fld) (j : Nat) : (s.setDirs d).fld g j = s.fld g j := rfl
@[simp] theorem State.setDirs_flag (d : Dirs) (g : Fld) (j : Nat) : (s.setDirs d).flag g j = s.flag g j := rfl

/-! ### setRoutes -/

@[simp] theorem State.setRoutes_pending (l : List Route) : (s.setRoutes l).pending = s.pending := rfl
@[simp] theorem State.setRoutes_resp (l : List Route) : (s.setRoutes l).resp = s.resp := rfl
@[simp] theorem State.setRoutes_rdata (l : List Route) : (s.setRoutes l).rdata = s.rdata := rfl
@[simp] theorem State.setRoutes_latchHigh (l : List Route) : (s.setRoutes l).latchHigh = s.latchHigh := rfl
@[simp] theorem State.setRoutes_latchLow (l : List Route) : (s.setRoutes l).latchLow = s.latchLow := rfl
@[simp] theorem State.setRoutes_freeCtr (l : List Route) : (s.setRoutes l).freeCtr = s.freeCtr := rfl
@[simp] theorem State.setRoutes_sent (l : List Route) : (s.setRoutes l).sent = s.sent := rfl
@[simp] theorem State.setRoutes_tick (l : List Route) : (s.setRoutes l).tick = s.tick := rfl
@[simp] theorem State.setRoutes_tb (l : List Route) : (s.setRoutes l).tb = s.tb := rfl
@[simp] theorem State.setRoutes_host (l : List Route) : (s.setRoutes l).host = s.host := rfl
@[simp] theorem State.setRoutes_awl (l : List Route) : (s.setRoutes l).awl = s.awl := rfl
@[simp] theorem State.setRoutes_ing (l : List Route) : (s.setRoutes l).ing = s.ing := rfl
@[simp] theorem State.setRoutes_nim (l : List Route) : (s.setRoutes l).nim = s.nim := rfl
@[simp] theorem State.setRoutes_tks (l : List Route) : (s.setRoutes l).tks = s.tks := rfl
@[simp] theorem State.setRoutes_egr (l : List Route) : (s.setRoutes l).egr = s.egr := rfl
@[simp] theorem State.setRoutes_twd (l : List Route) : (s.setRoutes l).twd = s.twd := rfl
@[simp] theorem State.setRoutes_asp (l : List Route) : (s.setRoutes l).asp = s.asp := rfl
@[simp] theorem State.setRoutes_vmp (l : List Route) : (s.setRoutes l).vmp = s.vmp := rfl
@[simp] theorem State.setRoutes_lst (l : List Route) : (s.setRoutes l).lst = s.lst := rfl
@[simp] theorem State.setRoutes_ntm (l : List Route) : (s.setRoutes l).ntm = s.ntm := rfl
@[simp] theorem State.setRoutes_net (l : List Route) : (s.setRoutes l).net = s.net := rfl
@[simp] theorem State.setRoutes_rsl (l : List Route) : (s.setRoutes l).rsl = s.rsl := rfl
@[simp] theorem State.setRoutes_keep (l : List Route) : (s.setRoutes l).keep = s.keep := rfl
@[simp] theorem State.setRoutes_upd (l : List Route) : (s.setRoutes l).upd = s.upd := rfl
@[simp] theorem State.setRoutes_boot (l : List Route) : (s.setRoutes l).boot = s.boot := rfl
@[simp] theorem State.setRoutes_frameStore (l : List Route) : (s.setRoutes l).frameStore = s.frameStore := rfl
@[simp] theorem State.setRoutes_dir (l : List Route) : (s.setRoutes l).dir = s.dir := rfl
@[simp] theorem State.setRoutes_reg (l : List Route) (r : Reg) (j : Nat) : (s.setRoutes l).reg r j = s.reg r j := rfl
@[simp] theorem State.setRoutes_fld (l : List Route) (g : Fld) (j : Nat) : (s.setRoutes l).fld g j = s.fld g j := rfl
@[simp] theorem State.setRoutes_flag (l : List Route) (g : Fld) (j : Nat) : (s.setRoutes l).flag g j = s.flag g j := rfl

/-! ### setPort -/

@[simp] theorem State.setPort_pending (n : Nat) (x : SlicePort) : (s.setPort n x).pending = s.pending := rfl
@[simp] theorem State.setPort_resp (n : Nat) (x : SlicePort) : (s.setPort n x).resp = s.resp := rfl
@[simp] theorem State.setPort_rdata (n : Nat) (x : SlicePort) : (s.setPort n x).rdata = s.rdata := rfl
@[simp] theorem State.setPort_latchHigh (n : Nat) (x : SlicePort) : (s.setPort n x).latchHigh = s.latchHigh := rfl
@[simp] theorem State.setPort_latchLow (n : Nat) (x : SlicePort) : (s.setPort n x).latchLow = s.latchLow := rfl
@[simp] theorem State.setPort_freeCtr (n : Nat) (x : SlicePort) : (s.setPort n x).freeCtr = s.freeCtr := rfl
@[simp] theorem State.setPort_sent (n : Nat) (x : SlicePort) : (s.setPort n x).sent = s.sent := rfl
@[simp] theorem State.setPort_tick (n : Nat) (x : SlicePort) : (s.setPort n x).tick = s.tick := rfl
@[simp] theorem State.setPort_tb (n : Nat) (x : SlicePort) : (s.setPort n x).tb = s.tb := rfl
@[simp] theorem State.setPort_host (n : Nat) (x : SlicePort) : (s.setPort n x).host = s.host := rfl
@[simp] theorem State.setPort_awl (n : Nat) (x : SlicePort) : (s.setPort n x).awl = s.awl := rfl
@[simp] theorem State.setPort_ing (n : Nat) (x : SlicePort) : (s.setPort n x).ing = s.ing := rfl
@[simp] theorem State.setPort_nim (n : Nat) (x : SlicePort) : (s.setPort n x).nim = s.nim := rfl
@[simp] theorem State.setPort_tks (n : Nat) (x : SlicePort) : (s.setPort n x).tks = s.tks := rfl
@[simp] theorem State.setPort_egr (n : Nat) (x : SlicePort) : (s.setPort n x).egr = s.egr := rfl
@[simp] theorem State.setPort_twd (n : Nat) (x : SlicePort) : (s.setPort n x).twd = s.twd := rfl
@[simp] theorem State.setPort_asp (n : Nat) (x : SlicePort) : (s.setPort n x).asp = s.asp := rfl
@[simp] theorem State.setPort_vmp (n : Nat) (x : SlicePort) : (s.setPort n x).vmp = s.vmp := rfl
@[simp] theorem State.setPort_lst (n : Nat) (x : SlicePort) : (s.setPort n x).lst = s.lst := rfl
@[simp] theorem State.setPort_ntm (n : Nat) (x : SlicePort) : (s.setPort n x).ntm = s.ntm := rfl
@[simp] theorem State.setPort_net (n : Nat) (x : SlicePort) : (s.setPort n x).net = s.net := rfl
@[simp] theorem State.setPort_rsl (n : Nat) (x : SlicePort) : (s.setPort n x).rsl = s.rsl := rfl
@[simp] theorem State.setPort_keep (n : Nat) (x : SlicePort) : (s.setPort n x).keep = s.keep := rfl
@[simp] theorem State.setPort_upd (n : Nat) (x : SlicePort) : (s.setPort n x).upd = s.upd := rfl
@[simp] theorem State.setPort_boot (n : Nat) (x : SlicePort) : (s.setPort n x).boot = s.boot := rfl
@[simp] theorem State.setPort_frameStore (n : Nat) (x : SlicePort) : (s.setPort n x).frameStore = s.frameStore := rfl
@[simp] theorem State.setPort_dir (n : Nat) (x : SlicePort) : (s.setPort n x).dir = s.dir := rfl
@[simp] theorem State.setPort_reg (n : Nat) (x : SlicePort) (r : Reg) (j : Nat) : (s.setPort n x).reg r j = s.reg r j := rfl
@[simp] theorem State.setPort_fld (n : Nat) (x : SlicePort) (g : Fld) (j : Nat) : (s.setPort n x).fld g j = s.fld g j := rfl
@[simp] theorem State.setPort_flag (n : Nat) (x : SlicePort) (g : Fld) (j : Nat) : (s.setPort n x).flag g j = s.flag g j := rfl

/-! ### setTb -/

@[simp] theorem State.setTb_pending (k : Nat) (x : FineTime) : (s.setTb k x).pending = s.pending := rfl
@[simp] theorem State.setTb_resp (k : Nat) (x : FineTime) : (s.setTb k x).resp = s.resp := rfl
@[simp] theorem State.setTb_rdata (k : Nat) (x : FineTime) : (s.setTb k x).rdata = s.rdata := rfl
@[simp] theorem State.setTb_latchHigh (k : Nat) (x : FineTime) : (s.setTb k x).latchHigh = s.latchHigh := rfl
@[simp] theorem State.setTb_latchLow (k : Nat) (x : FineTime) : (s.setTb k x).latchLow = s.latchLow := rfl
@[simp] theorem State.setTb_freeCtr (k : Nat) (x : FineTime) : (s.setTb k x).freeCtr = s.freeCtr := rfl
@[simp] theorem State.setTb_sent (k : Nat) (x : FineTime) : (s.setTb k x).sent = s.sent := rfl
@[simp] theorem State.setTb_tick (k : Nat) (x : FineTime) : (s.setTb k x).tick = s.tick := rfl
@[simp] theorem State.setTb_host (k : Nat) (x : FineTime) : (s.setTb k x).host = s.host := rfl
@[simp] theorem State.setTb_awl (k : Nat) (x : FineTime) : (s.setTb k x).awl = s.awl := rfl
@[simp] theorem State.setTb_ing (k : Nat) (x : FineTime) : (s.setTb k x).ing = s.ing := rfl
@[simp] theorem State.setTb_twl (k : Nat) (x : FineTime) : (s.setTb k x).twl = s.twl := rfl
@[simp] theorem State.setTb_nim (k : Nat) (x : FineTime) : (s.setTb k x).nim = s.nim := rfl
@[simp] theorem State.setTb_tks (k : Nat) (x : FineTime) : (s.setTb k x).tks = s.tks := rfl
@[simp] theorem State.setTb_egr (k : Nat) (x : FineTime) : (s.setTb k x).egr = s.egr := rfl
@[simp] theorem State.setTb_twd (k : Nat) (x : FineTime) : (s.setTb k x).twd = s.twd := rfl
@[simp] theorem State.setTb_asp (k : Nat) (x : FineTime) : (s.setTb k x).asp = s.asp := rfl
@[simp] theorem State.setTb_vmp (k : Nat) (x : FineTime) : (s.setTb k x).vmp = s.vmp := rfl
@[simp] theorem State.setTb_lst (k : Nat) (x : FineTime) : (s.setTb k x).lst = s.lst := rfl
@[simp] theorem State.setTb_ntm (k : Nat) (x : FineTime) : (s.setTb k x).ntm = s.ntm := rfl
@[simp] theorem State.setTb_net (k : Nat) (x : FineTime) : (s.setTb k x).net = s.net := rfl
@[simp] theorem State.setTb_rsl (k : Nat) (x : FineTime) : (s.setTb k x).rsl = s.rsl := rfl
@[simp] theorem State.setTb_keep (k : Nat) (x : FineTime) : (s.setTb k x).keep = s.keep := rfl
@[simp] theorem State.setTb_upd (k : Nat) (x : FineTime) : (s.setTb k x).upd = s.upd := rfl
@[simp] theorem State.setTb_boot (k : Nat) (x : FineTime) : (s.setTb k x).boot = s.boot := rfl
@[simp] theorem State.setTb_frameStore (k : Nat) (x : FineTime) : (s.setTb k x).frameStore = s.frameStore := rfl
@[simp] theorem State.setTb_dir (k : Nat) (x : FineTime) : (s.setTb k x).dir = s.dir := rfl
@[simp] theorem State.setTb_reg (k : Nat) (x : FineTime) (r : Reg) (j : Nat) : (s.setTb k x).reg r j = s.reg r j := rfl
@[simp] theorem State.setTb_fld (k : Nat) (x : FineTime) (g : Fld) (j : Nat) : (s.setTb k x).fld g j = s.fld g j := rfl
@[simp] theorem State.setTb_flag (k : Nat) (x : FineTime) (g : Fld) (j : Nat) : (s.setTb k x).flag g j = s.flag g j := rfl

/-! ### What an update sets -/

@[simp] theorem State.answer_resp (st : Status) : (s.answer st).resp = st := rfl
@[simp] theorem State.emit_sent (m : OutMsg) : (s.emit m).sent = m :: s.sent := rfl
@[simp] theorem State.drawFree_freeCtr : s.drawFree.freeCtr = s.freeCtr + 1 := rfl
@[simp] theorem State.setInput_input (n : Nat) (x : Input) : (s.setInput n x).input n = x := Tbl.get_set_same _ _ _ _
@[simp] theorem State.setSvc_svc (n : Nat) (x : Service) : (s.setSvc n x).svc n = x := Tbl.get_set_same _ _ _ _
@[simp] theorem State.setCtx_ctx (n : Nat) (x : NimCtx) : (s.setCtx n x).ctx n = x := Tbl.get_set_same _ _ _ _
@[simp] theorem State.setTwd_twdCore (n : Nat) (x : TwdCore) : (s.setTwd n x).twdCore n = x := Tbl.get_set_same _ _ _ _
@[simp] theorem State.setPipe_pipe (n : Nat) (x : Pipe10) : (s.setPipe n x).pipe n = x := Tbl.get_set_same _ _ _ _
@[simp] theorem State.setServo_servo (n : Nat) (x : Servo) : (s.setServo n x).servo n = x := Tbl.get_set_same _ _ _ _
@[simp] theorem State.setTrg_trg (n : Nat) (x : Trg) : (s.setTrg n x).trg n = x := Tbl.get_set_same _ _ _ _
@[simp] theorem State.setCap_cap (n : Nat) (x : Cap) : (s.setCap n x).cap n = x := Tbl.get_set_same _ _ _ _
@[simp] theorem State.setLane_lane (n : Nat) (x : Lane) : (s.setLane n x).lane n = x := Tbl.get_set_same _ _ _ _
@[simp] theorem State.setLink_link (n : Nat) (x : Link) : (s.setLink n x).link n = x := Tbl.get_set_same _ _ _ _
@[simp] theorem State.setNetPort_netPort (n : Nat) (x : NetPort) : (s.setNetPort n x).netPort n = x := Tbl.get_set_same _ _ _ _
@[simp] theorem State.setRxr_rxr (n : Nat) (x : HostRing) : (s.setRxr n x).rxr n = x := Tbl.get_set_same _ _ _ _
@[simp] theorem State.setTxr_txr (n : Nat) (x : HostRing) : (s.setTxr n x).txr n = x := Tbl.get_set_same _ _ _ _
@[simp] theorem State.setClk_clk (n : Nat) (x : ClkRun) : (s.setClk n x).clk n = x := Tbl.get_set_same _ _ _ _
@[simp] theorem State.setOut_out (n : Nat) (x : Output) : (s.setOut n x).out n = x := Tbl.get_set_same _ _ _ _
@[simp] theorem State.setOtd_otd (n : Nat) (x : Otd) : (s.setOtd n x).otd n = x := Tbl.get_set_same _ _ _ _
@[simp] theorem State.setJoin_join (n : Nat) (x : Join) : (s.setJoin n x).join n = x := Tbl.get_set_same _ _ _ _
@[simp] theorem State.setPort_port (n : Nat) (x : SlicePort) : (s.setPort n x).port n = x := Tbl.get_set_same _ _ _ _
@[simp] theorem State.setDir_dirEntry (n : Nat) (x : Word128) : (s.setDir n x).dirEntry n = x := Tbl.get_set_same _ _ _ _
@[simp] theorem State.setTb_tbNow (n : Nat) (x : FineTime) : (s.setTb n x).tbNow n = x := Tbl.get_set_same _ _ _ _

/-! ### Fields and flags through register updates -/

theorem State.fld_setReg_ne {r : Reg} {g : Fld} (h : g.reg ≠ r) (i j : Nat) (v : Word) : (s.setReg r i v).fld g j = s.fld g j := by
  rw [State.fld, State.fld, State.reg_setReg_other s h]

theorem State.flag_setReg_ne {r : Reg} {g : Fld} (h : g.reg ≠ r) (i j : Nat) (v : Word) : (s.setReg r i v).flag g j = s.flag g j := by
  rw [State.flag, State.flag, State.fld_setReg_ne s h]

theorem State.reg_setFld_ne {f : Fld} {r : Reg} (h : r ≠ f.reg) (i j v : Nat) : (s.setFld f i v).reg r j = s.reg r j :=
  State.reg_setReg_other s h i j _

theorem State.fld_setFld_ne {f g : Fld} (h : g.reg ≠ f.reg) (i j v : Nat) : (s.setFld f i v).fld g j = s.fld g j :=
  State.fld_setFld_other s v (.inl h)

theorem State.flag_setFld_ne {f g : Fld} (h : g.reg ≠ f.reg) (i j v : Nat) : (s.setFld f i v).flag g j = s.flag g j := by
  rw [State.flag, State.flag, State.fld_setFld_ne s h]

theorem State.reg_setFlag_ne {f : Fld} {r : Reg} (h : r ≠ f.reg) (i j : Nat) (b : Bool) : (s.setFlag f i b).reg r j = s.reg r j :=
  State.reg_setReg_other s h i j _

theorem State.fld_setFlag_ne {f g : Fld} (h : g.reg ≠ f.reg) (i j : Nat) (b : Bool) : (s.setFlag f i b).fld g j = s.fld g j :=
  State.fld_setFld_ne s h i j _

theorem State.flag_setFlag_ne {f g : Fld} (h : g.reg ≠ f.reg) (i j : Nat) (b : Bool) : (s.setFlag f i b).flag g j = s.flag g j :=
  State.flag_setFld_ne s h i j _

theorem State.flag_setFld_disjoint {f g : Fld} (i v : Nat) (hr : g.reg = f.reg) (hd : g.lo + g.len ≤ f.lo ∨ f.lo + f.len ≤ g.lo)
    (h : g.lo + g.len ≤ g.reg.width) : (s.setFld f i v).flag g i = s.flag g i := by
  rw [State.flag, State.flag, State.fld_setFld_disjoint s i v hr hd h]

theorem State.fld_setFlag_disjoint {f g : Fld} (i : Nat) (b : Bool) (hr : g.reg = f.reg) (hd : g.lo + g.len ≤ f.lo ∨ f.lo + f.len ≤ g.lo)
    (h : g.lo + g.len ≤ g.reg.width) : (s.setFlag f i b).fld g i = s.fld g i :=
  State.fld_setFld_disjoint s i _ hr hd h

theorem State.flag_setFlag_disjoint {f g : Fld} (i : Nat) (b : Bool) (hr : g.reg = f.reg) (hd : g.lo + g.len ≤ f.lo ∨ f.lo + f.len ≤ g.lo)
    (h : g.lo + g.len ≤ g.reg.width) : (s.setFlag f i b).flag g i = s.flag g i :=
  State.flag_setFld_disjoint s i _ hr hd h

theorem State.reg_count_ne {r q : Reg} (h : q ≠ r) (i j n : Nat) : (s.count r i n).reg q j = s.reg q j :=
  State.reg_setReg_other s h i j _

theorem State.fld_count_ne {r : Reg} {g : Fld} (h : g.reg ≠ r) (i j n : Nat) : (s.count r i n).fld g j = s.fld g j :=
  State.fld_setReg_ne s h i j _

theorem State.flag_count_ne {r : Reg} {g : Fld} (h : g.reg ≠ r) (i j n : Nat) : (s.count r i n).flag g j = s.flag g j :=
  State.flag_setReg_ne s h i j _

/-- A counter reads its count. -/
theorem State.reg_count_counted (r : Reg) (i n : Nat) : (s.count r i n).reg r i = s.counted r i n := by
  rw [State.count, State.reg_setReg_same]
  rfl

/-- A 32-bit counter adds and saturates (R557). -/
theorem State.reg_count_same {r : Reg} (h : r.info.wide = false) (i n : Nat) :
    ((s.count r i n).reg r i).toNat = satTo 32 ((s.reg r i).toNat + n) := by
  have hs : satTo 32 ((s.reg r i).toNat + n) < 2 ^ 32 := by unfold satTo; split <;> omega
  rw [State.count, State.reg_setReg_same, Reg.fit_toNat h, h]
  simp only [Bool.false_eq_true, if_false, BitVec.toNat_ofNat]
  omega

/-! ### A frame, used -/

theorem Frame.fld {f : Foot} {s t : State} (h : Frame f s t) {g : Fld} (hr : g.reg ∉ f.regs) (i : Nat) : t.fld g i = s.fld g i := by
  rw [State.fld, State.fld, h.2 _ i hr]

theorem Frame.flag {f : Foot} {s t : State} (h : Frame f s t) {g : Fld} (hr : g.reg ∉ f.regs) (i : Nat) : t.flag g i = s.flag g i := by
  rw [State.flag, State.flag, h.fld hr]

end Sys2Proof.Machine
end

