-- ==== Sys2Proof/Laws/Keeps.lean ====
section
/-! SUPPORT. What interrupts, Awl records and alerts leave alone, and what the register updates leave of each object's record. -/

namespace Sys2Proof.Machine

variable (s : State)

/-- The registers that an Awl record changes while it is staged. -/
abbrev awlRegs : List Reg := [.AWL_MERGED, .AWL_STATUS, .INS_RET_STAT, .AWL_LOST, .GLB_INT_SUM, .AWL_INT_STAT]

/-- The registers that an event with its record changes, and an alarm. -/
abbrev Irq.eventRegs (c : Irq) : List Reg := List.append c.blk.irqRegs awlRegs
abbrev Irq.alarmRegs (c : Irq) : List Reg := List.append c.blk.irqRegs (List.cons .GLB_ALERT_STAT (List.cons .GLB_INT_STAT awlRegs))

/-! ### irq -/

/-- All that irq changes. -/
theorem State.irq_keeps (c : Irq) : Frame ⟨[.host, .sent], c.blk.irqRegs⟩ s (s.irq c) := by
  apply State.irq_frame (Frame.refl _ s) <;> simp [Irq.eventRegs, Irq.alarmRegs, awlRegs]

@[simp] theorem State.irq_pending (c : Irq) : (s.irq c).pending = s.pending := (s.irq_keeps c).parts .pending (by decide : Part.pending ∉ ([.host, .sent] : List Part))
@[simp] theorem State.irq_resp (c : Irq) : (s.irq c).resp = s.resp := (s.irq_keeps c).parts .resp (by decide : Part.resp ∉ ([.host, .sent] : List Part))
@[simp] theorem State.irq_rdata (c : Irq) : (s.irq c).rdata = s.rdata := (s.irq_keeps c).parts .rdata (by decide : Part.rdata ∉ ([.host, .sent] : List Part))
@[simp] theorem State.irq_latchHigh (c : Irq) : (s.irq c).latchHigh = s.latchHigh := (s.irq_keeps c).parts .latchHigh (by decide : Part.latchHigh ∉ ([.host, .sent] : List Part))
@[simp] theorem State.irq_latchLow (c : Irq) : (s.irq c).latchLow = s.latchLow := (s.irq_keeps c).parts .latchLow (by decide : Part.latchLow ∉ ([.host, .sent] : List Part))
@[simp] theorem State.irq_freeCtr (c : Irq) : (s.irq c).freeCtr = s.freeCtr := (s.irq_keeps c).parts .freeCtr (by decide : Part.freeCtr ∉ ([.host, .sent] : List Part))
@[simp] theorem State.irq_tick (c : Irq) : (s.irq c).tick = s.tick := (s.irq_keeps c).parts .tick (by decide : Part.tick ∉ ([.host, .sent] : List Part))
@[simp] theorem State.irq_tb (c : Irq) : (s.irq c).tb = s.tb := (s.irq_keeps c).parts .tb (by decide : Part.tb ∉ ([.host, .sent] : List Part))
@[simp] theorem State.irq_awl (c : Irq) : (s.irq c).awl = s.awl := (s.irq_keeps c).parts .awl (by decide : Part.awl ∉ ([.host, .sent] : List Part))
@[simp] theorem State.irq_ing (c : Irq) : (s.irq c).ing = s.ing := (s.irq_keeps c).parts .ing (by decide : Part.ing ∉ ([.host, .sent] : List Part))
@[simp] theorem State.irq_twl (c : Irq) : (s.irq c).twl = s.twl := (s.irq_keeps c).parts .twl (by decide : Part.twl ∉ ([.host, .sent] : List Part))
@[simp] theorem State.irq_nim (c : Irq) : (s.irq c).nim = s.nim := (s.irq_keeps c).parts .nim (by decide : Part.nim ∉ ([.host, .sent] : List Part))
@[simp] theorem State.irq_tks (c : Irq) : (s.irq c).tks = s.tks := (s.irq_keeps c).parts .tks (by decide : Part.tks ∉ ([.host, .sent] : List Part))
@[simp] theorem State.irq_egr (c : Irq) : (s.irq c).egr = s.egr := (s.irq_keeps c).parts .egr (by decide : Part.egr ∉ ([.host, .sent] : List Part))
@[simp] theorem State.irq_twd (c : Irq) : (s.irq c).twd = s.twd := (s.irq_keeps c).parts .twd (by decide : Part.twd ∉ ([.host, .sent] : List Part))
@[simp] theorem State.irq_asp (c : Irq) : (s.irq c).asp = s.asp := (s.irq_keeps c).parts .asp (by decide : Part.asp ∉ ([.host, .sent] : List Part))
@[simp] theorem State.irq_vmp (c : Irq) : (s.irq c).vmp = s.vmp := (s.irq_keeps c).parts .vmp (by decide : Part.vmp ∉ ([.host, .sent] : List Part))
@[simp] theorem State.irq_lst (c : Irq) : (s.irq c).lst = s.lst := (s.irq_keeps c).parts .lst (by decide : Part.lst ∉ ([.host, .sent] : List Part))
@[simp] theorem State.irq_ntm (c : Irq) : (s.irq c).ntm = s.ntm := (s.irq_keeps c).parts .ntm (by decide : Part.ntm ∉ ([.host, .sent] : List Part))
@[simp] theorem State.irq_net (c : Irq) : (s.irq c).net = s.net := (s.irq_keeps c).parts .net (by decide : Part.net ∉ ([.host, .sent] : List Part))
@[simp] theorem State.irq_rsl (c : Irq) : (s.irq c).rsl = s.rsl := (s.irq_keeps c).parts .rsl (by decide : Part.rsl ∉ ([.host, .sent] : List Part))
@[simp] theorem State.irq_keep (c : Irq) : (s.irq c).keep = s.keep := (s.irq_keeps c).parts .keep (by decide : Part.keep ∉ ([.host, .sent] : List Part))
@[simp] theorem State.irq_upd (c : Irq) : (s.irq c).upd = s.upd := (s.irq_keeps c).parts .upd (by decide : Part.upd ∉ ([.host, .sent] : List Part))
@[simp] theorem State.irq_boot (c : Irq) : (s.irq c).boot = s.boot := (s.irq_keeps c).parts .boot (by decide : Part.boot ∉ ([.host, .sent] : List Part))
@[simp] theorem State.irq_frameStore (c : Irq) : (s.irq c).frameStore = s.frameStore := (s.irq_keeps c).parts .frameStore (by decide : Part.frameStore ∉ ([.host, .sent] : List Part))
@[simp] theorem State.irq_dir (c : Irq) : (s.irq c).dir = s.dir := (s.irq_keeps c).parts .dir (by decide : Part.dir ∉ ([.host, .sent] : List Part))
theorem State.irq_reg (c : Irq) {r : Reg} (h : r ∉ c.blk.irqRegs) (i : Nat) : (s.irq c).reg r i = s.reg r i := (s.irq_keeps c).regs r i h
theorem State.irq_fld (c : Irq) {g : Fld} (h : g.reg ∉ c.blk.irqRegs) (i : Nat) : (s.irq c).fld g i = s.fld g i := (s.irq_keeps c).fld h i
theorem State.irq_flag (c : Irq) {g : Fld} (h : g.reg ∉ c.blk.irqRegs) (i : Nat) : (s.irq c).flag g i = s.flag g i := (s.irq_keeps c).flag h i
@[simp] theorem State.irq_input (c : Irq) (n : Nat) : (s.irq c).input n = s.input n := by rw [State.input, State.input, State.irq_ing]
@[simp] theorem State.irq_svc (c : Irq) (n : Nat) : (s.irq c).svc n = s.svc n := by rw [State.svc, State.svc, State.irq_nim]
@[simp] theorem State.irq_ctx (c : Irq) (n : Nat) : (s.irq c).ctx n = s.ctx n := by rw [State.ctx, State.ctx, State.irq_nim]
@[simp] theorem State.irq_twdCore (c : Irq) (n : Nat) : (s.irq c).twdCore n = s.twdCore n := by rw [State.twdCore, State.twdCore, State.irq_twd]
@[simp] theorem State.irq_pipe (c : Irq) (n : Nat) : (s.irq c).pipe n = s.pipe n := by rw [State.pipe, State.pipe, State.irq_vmp]
@[simp] theorem State.irq_servo (c : Irq) (n : Nat) : (s.irq c).servo n = s.servo n := by rw [State.servo, State.servo, State.irq_ntm]
@[simp] theorem State.irq_trg (c : Irq) (n : Nat) : (s.irq c).trg n = s.trg n := by rw [State.trg, State.trg, State.irq_ntm]
@[simp] theorem State.irq_cap (c : Irq) (n : Nat) : (s.irq c).cap n = s.cap n := by rw [State.cap, State.cap, State.irq_ntm]
@[simp] theorem State.irq_lane (c : Irq) (n : Nat) : (s.irq c).lane n = s.lane n := by rw [State.lane, State.lane, State.irq_net]
@[simp] theorem State.irq_link (c : Irq) (n : Nat) : (s.irq c).link n = s.link n := by rw [State.link, State.link, State.irq_net]
@[simp] theorem State.irq_netPort (c : Irq) (n : Nat) : (s.irq c).netPort n = s.netPort n := by rw [State.netPort, State.netPort, State.irq_net]
@[simp] theorem State.irq_rxr (c : Irq) (n : Nat) : (s.irq c).rxr n = s.rxr n := by rw [State.rxr, State.rxr, State.irq_net]
@[simp] theorem State.irq_txr (c : Irq) (n : Nat) : (s.irq c).txr n = s.txr n := by rw [State.txr, State.txr, State.irq_net]
@[simp] theorem State.irq_clk (c : Irq) (n : Nat) : (s.irq c).clk n = s.clk n := by rw [State.clk, State.clk, State.irq_boot]
@[simp] theorem State.irq_out (c : Irq) (n : Nat) : (s.irq c).out n = s.out n := by rw [State.out, State.out, State.irq_egr]
@[simp] theorem State.irq_otd (c : Irq) (n : Nat) : (s.irq c).otd n = s.otd n := by rw [State.otd, State.otd, State.irq_egr]
@[simp] theorem State.irq_join (c : Irq) (n : Nat) : (s.irq c).join n = s.join n := by rw [State.join, State.join, State.irq_egr]
@[simp] theorem State.irq_port (c : Irq) (n : Nat) : (s.irq c).port n = s.port n := by rw [State.port, State.port, State.irq_twl]
@[simp] theorem State.irq_dirEntry (c : Irq) (n : Nat) : (s.irq c).dirEntry n = s.dirEntry n := by rw [State.dirEntry, State.dirEntry, State.irq_dir]
@[simp] theorem State.irq_tbNow (c : Irq) (n : Nat) : (s.irq c).tbNow n = s.tbNow n := by rw [State.tbNow, State.tbNow, State.irq_tb]

/-! ### awlState -/

/-- All that awlState changes. -/
theorem State.awlState_keeps (b : Blk) (sev : Severity) (st obj detail : Nat) : Frame ⟨[.awl, .host, .sent], awlRegs⟩ s (s.awlState b sev st obj detail) := by
  apply State.awlState_frame (Frame.refl _ s) <;> simp [Irq.eventRegs, Irq.alarmRegs, awlRegs]

@[simp] theorem State.awlState_pending (b : Blk) (sev : Severity) (st obj detail : Nat) : (s.awlState b sev st obj detail).pending = s.pending := (s.awlState_keeps b sev st obj detail).parts .pending (by decide : Part.pending ∉ ([.awl, .host, .sent] : List Part))
@[simp] theorem State.awlState_resp (b : Blk) (sev : Severity) (st obj detail : Nat) : (s.awlState b sev st obj detail).resp = s.resp := (s.awlState_keeps b sev st obj detail).parts .resp (by decide : Part.resp ∉ ([.awl, .host, .sent] : List Part))
@[simp] theorem State.awlState_rdata (b : Blk) (sev : Severity) (st obj detail : Nat) : (s.awlState b sev st obj detail).rdata = s.rdata := (s.awlState_keeps b sev st obj detail).parts .rdata (by decide : Part.rdata ∉ ([.awl, .host, .sent] : List Part))
@[simp] theorem State.awlState_latchHigh (b : Blk) (sev : Severity) (st obj detail : Nat) : (s.awlState b sev st obj detail).latchHigh = s.latchHigh := (s.awlState_keeps b sev st obj detail).parts .latchHigh (by decide : Part.latchHigh ∉ ([.awl, .host, .sent] : List Part))
@[simp] theorem State.awlState_latchLow (b : Blk) (sev : Severity) (st obj detail : Nat) : (s.awlState b sev st obj detail).latchLow = s.latchLow := (s.awlState_keeps b sev st obj detail).parts .latchLow (by decide : Part.latchLow ∉ ([.awl, .host, .sent] : List Part))
@[simp] theorem State.awlState_freeCtr (b : Blk) (sev : Severity) (st obj detail : Nat) : (s.awlState b sev st obj detail).freeCtr = s.freeCtr := (s.awlState_keeps b sev st obj detail).parts .freeCtr (by decide : Part.freeCtr ∉ ([.awl, .host, .sent] : List Part))
@[simp] theorem State.awlState_tick (b : Blk) (sev : Severity) (st obj detail : Nat) : (s.awlState b sev st obj detail).tick = s.tick := (s.awlState_keeps b sev st obj detail).parts .tick (by decide : Part.tick ∉ ([.awl, .host, .sent] : List Part))
@[simp] theorem State.awlState_tb (b : Blk) (sev : Severity) (st obj detail : Nat) : (s.awlState b sev st obj detail).tb = s.tb := (s.awlState_keeps b sev st obj detail).parts .tb (by decide : Part.tb ∉ ([.awl, .host, .sent] : List Part))
@[simp] theorem State.awlState_ing (b : Blk) (sev : Severity) (st obj detail : Nat) : (s.awlState b sev st obj detail).ing = s.ing := (s.awlState_keeps b sev st obj detail).parts .ing (by decide : Part.ing ∉ ([.awl, .host, .sent] : List Part))
@[simp] theorem State.awlState_twl (b : Blk) (sev : Severity) (st obj detail : Nat) : (s.awlState b sev st obj detail).twl = s.twl := (s.awlState_keeps b sev st obj detail).parts .twl (by decide : Part.twl ∉ ([.awl, .host, .sent] : List Part))
@[simp] theorem State.awlState_nim (b : Blk) (sev : Severity) (st obj detail : Nat) : (s.awlState b sev st obj detail).nim = s.nim := (s.awlState_keeps b sev st obj detail).parts .nim (by decide : Part.nim ∉ ([.awl, .host, .sent] : List Part))
@[simp] theorem State.awlState_tks (b : Blk) (sev : Severity) (st obj detail : Nat) : (s.awlState b sev st obj detail).tks = s.tks := (s.awlState_keeps b sev st obj detail).parts .tks (by decide : Part.tks ∉ ([.awl, .host, .sent] : List Part))
@[simp] theorem State.awlState_egr (b : Blk) (sev : Severity) (st obj detail : Nat) : (s.awlState b sev st obj detail).egr = s.egr := (s.awlState_keeps b sev st obj detail).parts .egr (by decide : Part.egr ∉ ([.awl, .host, .sent] : List Part))
@[simp] theorem State.awlState_twd (b : Blk) (sev : Severity) (st obj detail : Nat) : (s.awlState b sev st obj detail).twd = s.twd := (s.awlState_keeps b sev st obj detail).parts .twd (by decide : Part.twd ∉ ([.awl, .host, .sent] : List Part))
@[simp] theorem State.awlState_asp (b : Blk) (sev : Severity) (st obj detail : Nat) : (s.awlState b sev st obj detail).asp = s.asp := (s.awlState_keeps b sev st obj detail).parts .asp (by decide : Part.asp ∉ ([.awl, .host, .sent] : List Part))
@[simp] theorem State.awlState_vmp (b : Blk) (sev : Severity) (st obj detail : Nat) : (s.awlState b sev st obj detail).vmp = s.vmp := (s.awlState_keeps b sev st obj detail).parts .vmp (by decide : Part.vmp ∉ ([.awl, .host, .sent] : List Part))
@[simp] theorem State.awlState_lst (b : Blk) (sev : Severity) (st obj detail : Nat) : (s.awlState b sev st obj detail).lst = s.lst := (s.awlState_keeps b sev st obj detail).parts .lst (by decide : Part.lst ∉ ([.awl, .host, .sent] : List Part))
@[simp] theorem State.awlState_ntm (b : Blk) (sev : Severity) (st obj detail : Nat) : (s.awlState b sev st obj detail).ntm = s.ntm := (s.awlState_keeps b sev st obj detail).parts .ntm (by decide : Part.ntm ∉ ([.awl, .host, .sent] : List Part))
@[simp] theorem State.awlState_net (b : Blk) (sev : Severity) (st obj detail : Nat) : (s.awlState b sev st obj detail).net = s.net := (s.awlState_keeps b sev st obj detail).parts .net (by decide : Part.net ∉ ([.awl, .host, .sent] : List Part))
@[simp] theorem State.awlState_rsl (b : Blk) (sev : Severity) (st obj detail : Nat) : (s.awlState b sev st obj detail).rsl = s.rsl := (s.awlState_keeps b sev st obj detail).parts .rsl (by decide : Part.rsl ∉ ([.awl, .host, .sent] : List Part))
@[simp] theorem State.awlState_keep (b : Blk) (sev : Severity) (st obj detail : Nat) : (s.awlState b sev st obj detail).keep = s.keep := (s.awlState_keeps b sev st obj detail).parts .keep (by decide : Part.keep ∉ ([.awl, .host, .sent] : List Part))
@[simp] theorem State.awlState_upd (b : Blk) (sev : Severity) (st obj detail : Nat) : (s.awlState b sev st obj detail).upd = s.upd := (s.awlState_keeps b sev st obj detail).parts .upd (by decide : Part.upd ∉ ([.awl, .host, .sent] : List Part))
@[simp] theorem State.awlState_boot (b : Blk) (sev : Severity) (st obj detail : Nat) : (s.awlState b sev st obj detail).boot = s.boot := (s.awlState_keeps b sev st obj detail).parts .boot (by decide : Part.boot ∉ ([.awl, .host, .sent] : List Part))
@[simp] theorem State.awlState_frameStore (b : Blk) (sev : Severity) (st obj detail : Nat) : (s.awlState b sev st obj detail).frameStore = s.frameStore := (s.awlState_keeps b sev st obj detail).parts .frameStore (by decide : Part.frameStore ∉ ([.awl, .host, .sent] : List Part))
@[simp] theorem State.awlState_dir (b : Blk) (sev : Severity) (st obj detail : Nat) : (s.awlState b sev st obj detail).dir = s.dir := (s.awlState_keeps b sev st obj detail).parts .dir (by decide : Part.dir ∉ ([.awl, .host, .sent] : List Part))
theorem State.awlState_reg (b : Blk) (sev : Severity) (st obj detail : Nat) {r : Reg} (h : r ∉ awlRegs) (i : Nat) : (s.awlState b sev st obj detail).reg r i = s.reg r i := (s.awlState_keeps b sev st obj detail).regs r i h
theorem State.awlState_fld (b : Blk) (sev : Severity) (st obj detail : Nat) {g : Fld} (h : g.reg ∉ awlRegs) (i : Nat) : (s.awlState b sev st obj detail).fld g i = s.fld g i := (s.awlState_keeps b sev st obj detail).fld h i
theorem State.awlState_flag (b : Blk) (sev : Severity) (st obj detail : Nat) {g : Fld} (h : g.reg ∉ awlRegs) (i : Nat) : (s.awlState b sev st obj detail).flag g i = s.flag g i := (s.awlState_keeps b sev st obj detail).flag h i
@[simp] theorem State.awlState_input (b : Blk) (sev : Severity) (st obj detail : Nat) (n : Nat) : (s.awlState b sev st obj detail).input n = s.input n := by rw [State.input, State.input, State.awlState_ing]
@[simp] theorem State.awlState_svc (b : Blk) (sev : Severity) (st obj detail : Nat) (n : Nat) : (s.awlState b sev st obj detail).svc n = s.svc n := by rw [State.svc, State.svc, State.awlState_nim]
@[simp] theorem State.awlState_ctx (b : Blk) (sev : Severity) (st obj detail : Nat) (n : Nat) : (s.awlState b sev st obj detail).ctx n = s.ctx n := by rw [State.ctx, State.ctx, State.awlState_nim]
@[simp] theorem State.awlState_twdCore (b : Blk) (sev : Severity) (st obj detail : Nat) (n : Nat) : (s.awlState b sev st obj detail).twdCore n = s.twdCore n := by rw [State.twdCore, State.twdCore, State.awlState_twd]
@[simp] theorem State.awlState_pipe (b : Blk) (sev : Severity) (st obj detail : Nat) (n : Nat) : (s.awlState b sev st obj detail).pipe n = s.pipe n := by rw [State.pipe, State.pipe, State.awlState_vmp]
@[simp] theorem State.awlState_servo (b : Blk) (sev : Severity) (st obj detail : Nat) (n : Nat) : (s.awlState b sev st obj detail).servo n = s.servo n := by rw [State.servo, State.servo, State.awlState_ntm]
@[simp] theorem State.awlState_trg (b : Blk) (sev : Severity) (st obj detail : Nat) (n : Nat) : (s.awlState b sev st obj detail).trg n = s.trg n := by rw [State.trg, State.trg, State.awlState_ntm]
@[simp] theorem State.awlState_cap (b : Blk) (sev : Severity) (st obj detail : Nat) (n : Nat) : (s.awlState b sev st obj detail).cap n = s.cap n := by rw [State.cap, State.cap, State.awlState_ntm]
@[simp] theorem State.awlState_lane (b : Blk) (sev : Severity) (st obj detail : Nat) (n : Nat) : (s.awlState b sev st obj detail).lane n = s.lane n := by rw [State.lane, State.lane, State.awlState_net]
@[simp] theorem State.awlState_link (b : Blk) (sev : Severity) (st obj detail : Nat) (n : Nat) : (s.awlState b sev st obj detail).link n = s.link n := by rw [State.link, State.link, State.awlState_net]
@[simp] theorem State.awlState_netPort (b : Blk) (sev : Severity) (st obj detail : Nat) (n : Nat) : (s.awlState b sev st obj detail).netPort n = s.netPort n := by rw [State.netPort, State.netPort, State.awlState_net]
@[simp] theorem State.awlState_rxr (b : Blk) (sev : Severity) (st obj detail : Nat) (n : Nat) : (s.awlState b sev st obj detail).rxr n = s.rxr n := by rw [State.rxr, State.rxr, State.awlState_net]
@[simp] theorem State.awlState_txr (b : Blk) (sev : Severity) (st obj detail : Nat) (n : Nat) : (s.awlState b sev st obj detail).txr n = s.txr n := by rw [State.txr, State.txr, State.awlState_net]
@[simp] theorem State.awlState_clk (b : Blk) (sev : Severity) (st obj detail : Nat) (n : Nat) : (s.awlState b sev st obj detail).clk n = s.clk n := by rw [State.clk, State.clk, State.awlState_boot]
@[simp] theorem State.awlState_out (b : Blk) (sev : Severity) (st obj detail : Nat) (n : Nat) : (s.awlState b sev st obj detail).out n = s.out n := by rw [State.out, State.out, State.awlState_egr]
@[simp] theorem State.awlState_otd (b : Blk) (sev : Severity) (st obj detail : Nat) (n : Nat) : (s.awlState b sev st obj detail).otd n = s.otd n := by rw [State.otd, State.otd, State.awlState_egr]
@[simp] theorem State.awlState_join (b : Blk) (sev : Severity) (st obj detail : Nat) (n : Nat) : (s.awlState b sev st obj detail).join n = s.join n := by rw [State.join, State.join, State.awlState_egr]
@[simp] theorem State.awlState_port (b : Blk) (sev : Severity) (st obj detail : Nat) (n : Nat) : (s.awlState b sev st obj detail).port n = s.port n := by rw [State.port, State.port, State.awlState_twl]
@[simp] theorem State.awlState_dirEntry (b : Blk) (sev : Severity) (st obj detail : Nat) (n : Nat) : (s.awlState b sev st obj detail).dirEntry n = s.dirEntry n := by rw [State.dirEntry, State.dirEntry, State.awlState_dir]
@[simp] theorem State.awlState_tbNow (b : Blk) (sev : Severity) (st obj detail : Nat) (n : Nat) : (s.awlState b sev st obj detail).tbNow n = s.tbNow n := by rw [State.tbNow, State.tbNow, State.awlState_tb]

/-! ### awlCause -/

/-- All that awlCause changes. -/
theorem State.awlCause_keeps (c : Irq) (al : Bool) (obj detail : Nat) : Frame ⟨[.awl, .host, .sent], awlRegs⟩ s (s.awlCause c al obj detail) := by
  apply State.awlCause_frame (Frame.refl _ s) <;> simp [Irq.eventRegs, Irq.alarmRegs, awlRegs]

@[simp] theorem State.awlCause_pending (c : Irq) (al : Bool) (obj detail : Nat) : (s.awlCause c al obj detail).pending = s.pending := (s.awlCause_keeps c al obj detail).parts .pending (by decide : Part.pending ∉ ([.awl, .host, .sent] : List Part))
@[simp] theorem State.awlCause_resp (c : Irq) (al : Bool) (obj detail : Nat) : (s.awlCause c al obj detail).resp = s.resp := (s.awlCause_keeps c al obj detail).parts .resp (by decide : Part.resp ∉ ([.awl, .host, .sent] : List Part))
@[simp] theorem State.awlCause_rdata (c : Irq) (al : Bool) (obj detail : Nat) : (s.awlCause c al obj detail).rdata = s.rdata := (s.awlCause_keeps c al obj detail).parts .rdata (by decide : Part.rdata ∉ ([.awl, .host, .sent] : List Part))
@[simp] theorem State.awlCause_latchHigh (c : Irq) (al : Bool) (obj detail : Nat) : (s.awlCause c al obj detail).latchHigh = s.latchHigh := (s.awlCause_keeps c al obj detail).parts .latchHigh (by decide : Part.latchHigh ∉ ([.awl, .host, .sent] : List Part))
@[simp] theorem State.awlCause_latchLow (c : Irq) (al : Bool) (obj detail : Nat) : (s.awlCause c al obj detail).latchLow = s.latchLow := (s.awlCause_keeps c al obj detail).parts .latchLow (by decide : Part.latchLow ∉ ([.awl, .host, .sent] : List Part))
@[simp] theorem State.awlCause_freeCtr (c : Irq) (al : Bool) (obj detail : Nat) : (s.awlCause c al obj detail).freeCtr = s.freeCtr := (s.awlCause_keeps c al obj detail).parts .freeCtr (by decide : Part.freeCtr ∉ ([.awl, .host, .sent] : List Part))
@[simp] theorem State.awlCause_tick (c : Irq) (al : Bool) (obj detail : Nat) : (s.awlCause c al obj detail).tick = s.tick := (s.awlCause_keeps c al obj detail).parts .tick (by decide : Part.tick ∉ ([.awl, .host, .sent] : List Part))
@[simp] theorem State.awlCause_tb (c : Irq) (al : Bool) (obj detail : Nat) : (s.awlCause c al obj detail).tb = s.tb := (s.awlCause_keeps c al obj detail).parts .tb (by decide : Part.tb ∉ ([.awl, .host, .sent] : List Part))
@[simp] theorem State.awlCause_ing (c : Irq) (al : Bool) (obj detail : Nat) : (s.awlCause c al obj detail).ing = s.ing := (s.awlCause_keeps c al obj detail).parts .ing (by decide : Part.ing ∉ ([.awl, .host, .sent] : List Part))
@[simp] theorem State.awlCause_twl (c : Irq) (al : Bool) (obj detail : Nat) : (s.awlCause c al obj detail).twl = s.twl := (s.awlCause_keeps c al obj detail).parts .twl (by decide : Part.twl ∉ ([.awl, .host, .sent] : List Part))
@[simp] theorem State.awlCause_nim (c : Irq) (al : Bool) (obj detail : Nat) : (s.awlCause c al obj detail).nim = s.nim := (s.awlCause_keeps c al obj detail).parts .nim (by decide : Part.nim ∉ ([.awl, .host, .sent] : List Part))
@[simp] theorem State.awlCause_tks (c : Irq) (al : Bool) (obj detail : Nat) : (s.awlCause c al obj detail).tks = s.tks := (s.awlCause_keeps c al obj detail).parts .tks (by decide : Part.tks ∉ ([.awl, .host, .sent] : List Part))
@[simp] theorem State.awlCause_egr (c : Irq) (al : Bool) (obj detail : Nat) : (s.awlCause c al obj detail).egr = s.egr := (s.awlCause_keeps c al obj detail).parts .egr (by decide : Part.egr ∉ ([.awl, .host, .sent] : List Part))
@[simp] theorem State.awlCause_twd (c : Irq) (al : Bool) (obj detail : Nat) : (s.awlCause c al obj detail).twd = s.twd := (s.awlCause_keeps c al obj detail).parts .twd (by decide : Part.twd ∉ ([.awl, .host, .sent] : List Part))
@[simp] theorem State.awlCause_asp (c : Irq) (al : Bool) (obj detail : Nat) : (s.awlCause c al obj detail).asp = s.asp := (s.awlCause_keeps c al obj detail).parts .asp (by decide : Part.asp ∉ ([.awl, .host, .sent] : List Part))
@[simp] theorem State.awlCause_vmp (c : Irq) (al : Bool) (obj detail : Nat) : (s.awlCause c al obj detail).vmp = s.vmp := (s.awlCause_keeps c al obj detail).parts .vmp (by decide : Part.vmp ∉ ([.awl, .host, .sent] : List Part))
@[simp] theorem State.awlCause_lst (c : Irq) (al : Bool) (obj detail : Nat) : (s.awlCause c al obj detail).lst = s.lst := (s.awlCause_keeps c al obj detail).parts .lst (by decide : Part.lst ∉ ([.awl, .host, .sent] : List Part))
@[simp] theorem State.awlCause_ntm (c : Irq) (al : Bool) (obj detail : Nat) : (s.awlCause c al obj detail).ntm = s.ntm := (s.awlCause_keeps c al obj detail).parts .ntm (by decide : Part.ntm ∉ ([.awl, .host, .sent] : List Part))
@[simp] theorem State.awlCause_net (c : Irq) (al : Bool) (obj detail : Nat) : (s.awlCause c al obj detail).net = s.net := (s.awlCause_keeps c al obj detail).parts .net (by decide : Part.net ∉ ([.awl, .host, .sent] : List Part))
@[simp] theorem State.awlCause_rsl (c : Irq) (al : Bool) (obj detail : Nat) : (s.awlCause c al obj detail).rsl = s.rsl := (s.awlCause_keeps c al obj detail).parts .rsl (by decide : Part.rsl ∉ ([.awl, .host, .sent] : List Part))
@[simp] theorem State.awlCause_keep (c : Irq) (al : Bool) (obj detail : Nat) : (s.awlCause c al obj detail).keep = s.keep := (s.awlCause_keeps c al obj detail).parts .keep (by decide : Part.keep ∉ ([.awl, .host, .sent] : List Part))
@[simp] theorem State.awlCause_upd (c : Irq) (al : Bool) (obj detail : Nat) : (s.awlCause c al obj detail).upd = s.upd := (s.awlCause_keeps c al obj detail).parts .upd (by decide : Part.upd ∉ ([.awl, .host, .sent] : List Part))
@[simp] theorem State.awlCause_boot (c : Irq) (al : Bool) (obj detail : Nat) : (s.awlCause c al obj detail).boot = s.boot := (s.awlCause_keeps c al obj detail).parts .boot (by decide : Part.boot ∉ ([.awl, .host, .sent] : List Part))
@[simp] theorem State.awlCause_frameStore (c : Irq) (al : Bool) (obj detail : Nat) : (s.awlCause c al obj detail).frameStore = s.frameStore := (s.awlCause_keeps c al obj detail).parts .frameStore (by decide : Part.frameStore ∉ ([.awl, .host, .sent] : List Part))
@[simp] theorem State.awlCause_dir (c : Irq) (al : Bool) (obj detail : Nat) : (s.awlCause c al obj detail).dir = s.dir := (s.awlCause_keeps c al obj detail).parts .dir (by decide : Part.dir ∉ ([.awl, .host, .sent] : List Part))
theorem State.awlCause_reg (c : Irq) (al : Bool) (obj detail : Nat) {r : Reg} (h : r ∉ awlRegs) (i : Nat) : (s.awlCause c al obj detail).reg r i = s.reg r i := (s.awlCause_keeps c al obj detail).regs r i h
theorem State.awlCause_fld (c : Irq) (al : Bool) (obj detail : Nat) {g : Fld} (h : g.reg ∉ awlRegs) (i : Nat) : (s.awlCause c al obj detail).fld g i = s.fld g i := (s.awlCause_keeps c al obj detail).fld h i
theorem State.awlCause_flag (c : Irq) (al : Bool) (obj detail : Nat) {g : Fld} (h : g.reg ∉ awlRegs) (i : Nat) : (s.awlCause c al obj detail).flag g i = s.flag g i := (s.awlCause_keeps c al obj detail).flag h i
@[simp] theorem State.awlCause_input (c : Irq) (al : Bool) (obj detail : Nat) (n : Nat) : (s.awlCause c al obj detail).input n = s.input n := by rw [State.input, State.input, State.awlCause_ing]
@[simp] theorem State.awlCause_svc (c : Irq) (al : Bool) (obj detail : Nat) (n : Nat) : (s.awlCause c al obj detail).svc n = s.svc n := by rw [State.svc, State.svc, State.awlCause_nim]
@[simp] theorem State.awlCause_ctx (c : Irq) (al : Bool) (obj detail : Nat) (n : Nat) : (s.awlCause c al obj detail).ctx n = s.ctx n := by rw [State.ctx, State.ctx, State.awlCause_nim]
@[simp] theorem State.awlCause_twdCore (c : Irq) (al : Bool) (obj detail : Nat) (n : Nat) : (s.awlCause c al obj detail).twdCore n = s.twdCore n := by rw [State.twdCore, State.twdCore, State.awlCause_twd]
@[simp] theorem State.awlCause_pipe (c : Irq) (al : Bool) (obj detail : Nat) (n : Nat) : (s.awlCause c al obj detail).pipe n = s.pipe n := by rw [State.pipe, State.pipe, State.awlCause_vmp]
@[simp] theorem State.awlCause_servo (c : Irq) (al : Bool) (obj detail : Nat) (n : Nat) : (s.awlCause c al obj detail).servo n = s.servo n := by rw [State.servo, State.servo, State.awlCause_ntm]
@[simp] theorem State.awlCause_trg (c : Irq) (al : Bool) (obj detail : Nat) (n : Nat) : (s.awlCause c al obj detail).trg n = s.trg n := by rw [State.trg, State.trg, State.awlCause_ntm]
@[simp] theorem State.awlCause_cap (c : Irq) (al : Bool) (obj detail : Nat) (n : Nat) : (s.awlCause c al obj detail).cap n = s.cap n := by rw [State.cap, State.cap, State.awlCause_ntm]
@[simp] theorem State.awlCause_lane (c : Irq) (al : Bool) (obj detail : Nat) (n : Nat) : (s.awlCause c al obj detail).lane n = s.lane n := by rw [State.lane, State.lane, State.awlCause_net]
@[simp] theorem State.awlCause_link (c : Irq) (al : Bool) (obj detail : Nat) (n : Nat) : (s.awlCause c al obj detail).link n = s.link n := by rw [State.link, State.link, State.awlCause_net]
@[simp] theorem State.awlCause_netPort (c : Irq) (al : Bool) (obj detail : Nat) (n : Nat) : (s.awlCause c al obj detail).netPort n = s.netPort n := by rw [State.netPort, State.netPort, State.awlCause_net]
@[simp] theorem State.awlCause_rxr (c : Irq) (al : Bool) (obj detail : Nat) (n : Nat) : (s.awlCause c al obj detail).rxr n = s.rxr n := by rw [State.rxr, State.rxr, State.awlCause_net]
@[simp] theorem State.awlCause_txr (c : Irq) (al : Bool) (obj detail : Nat) (n : Nat) : (s.awlCause c al obj detail).txr n = s.txr n := by rw [State.txr, State.txr, State.awlCause_net]
@[simp] theorem State.awlCause_clk (c : Irq) (al : Bool) (obj detail : Nat) (n : Nat) : (s.awlCause c al obj detail).clk n = s.clk n := by rw [State.clk, State.clk, State.awlCause_boot]
@[simp] theorem State.awlCause_out (c : Irq) (al : Bool) (obj detail : Nat) (n : Nat) : (s.awlCause c al obj detail).out n = s.out n := by rw [State.out, State.out, State.awlCause_egr]
@[simp] theorem State.awlCause_otd (c : Irq) (al : Bool) (obj detail : Nat) (n : Nat) : (s.awlCause c al obj detail).otd n = s.otd n := by rw [State.otd, State.otd, State.awlCause_egr]
@[simp] theorem State.awlCause_join (c : Irq) (al : Bool) (obj detail : Nat) (n : Nat) : (s.awlCause c al obj detail).join n = s.join n := by rw [State.join, State.join, State.awlCause_egr]
@[simp] theorem State.awlCause_port (c : Irq) (al : Bool) (obj detail : Nat) (n : Nat) : (s.awlCause c al obj detail).port n = s.port n := by rw [State.port, State.port, State.awlCause_twl]
@[simp] theorem State.awlCause_dirEntry (c : Irq) (al : Bool) (obj detail : Nat) (n : Nat) : (s.awlCause c al obj detail).dirEntry n = s.dirEntry n := by rw [State.dirEntry, State.dirEntry, State.awlCause_dir]
@[simp] theorem State.awlCause_tbNow (c : Irq) (al : Bool) (obj detail : Nat) (n : Nat) : (s.awlCause c al obj detail).tbNow n = s.tbNow n := by rw [State.tbNow, State.tbNow, State.awlCause_tb]

/-! ### awlPersist -/

/-- All that awlPersist changes. -/
theorem State.awlPersist_keeps (b : Blk) (sev : Severity) (ev arg : Nat) : Frame ⟨[.awl, .host, .sent], awlRegs⟩ s (s.awlPersist b sev ev arg) := by
  apply State.awlPersist_frame (Frame.refl _ s) <;> simp [Irq.eventRegs, Irq.alarmRegs, awlRegs]

@[simp] theorem State.awlPersist_pending (b : Blk) (sev : Severity) (ev arg : Nat) : (s.awlPersist b sev ev arg).pending = s.pending := (s.awlPersist_keeps b sev ev arg).parts .pending (by decide : Part.pending ∉ ([.awl, .host, .sent] : List Part))
@[simp] theorem State.awlPersist_resp (b : Blk) (sev : Severity) (ev arg : Nat) : (s.awlPersist b sev ev arg).resp = s.resp := (s.awlPersist_keeps b sev ev arg).parts .resp (by decide : Part.resp ∉ ([.awl, .host, .sent] : List Part))
@[simp] theorem State.awlPersist_rdata (b : Blk) (sev : Severity) (ev arg : Nat) : (s.awlPersist b sev ev arg).rdata = s.rdata := (s.awlPersist_keeps b sev ev arg).parts .rdata (by decide : Part.rdata ∉ ([.awl, .host, .sent] : List Part))
@[simp] theorem State.awlPersist_latchHigh (b : Blk) (sev : Severity) (ev arg : Nat) : (s.awlPersist b sev ev arg).latchHigh = s.latchHigh := (s.awlPersist_keeps b sev ev arg).parts .latchHigh (by decide : Part.latchHigh ∉ ([.awl, .host, .sent] : List Part))
@[simp] theorem State.awlPersist_latchLow (b : Blk) (sev : Severity) (ev arg : Nat) : (s.awlPersist b sev ev arg).latchLow = s.latchLow := (s.awlPersist_keeps b sev ev arg).parts .latchLow (by decide : Part.latchLow ∉ ([.awl, .host, .sent] : List Part))
@[simp] theorem State.awlPersist_freeCtr (b : Blk) (sev : Severity) (ev arg : Nat) : (s.awlPersist b sev ev arg).freeCtr = s.freeCtr := (s.awlPersist_keeps b sev ev arg).parts .freeCtr (by decide : Part.freeCtr ∉ ([.awl, .host, .sent] : List Part))
@[simp] theorem State.awlPersist_tick (b : Blk) (sev : Severity) (ev arg : Nat) : (s.awlPersist b sev ev arg).tick = s.tick := (s.awlPersist_keeps b sev ev arg).parts .tick (by decide : Part.tick ∉ ([.awl, .host, .sent] : List Part))
@[simp] theorem State.awlPersist_tb (b : Blk) (sev : Severity) (ev arg : Nat) : (s.awlPersist b sev ev arg).tb = s.tb := (s.awlPersist_keeps b sev ev arg).parts .tb (by decide : Part.tb ∉ ([.awl, .host, .sent] : List Part))
@[simp] theorem State.awlPersist_ing (b : Blk) (sev : Severity) (ev arg : Nat) : (s.awlPersist b sev ev arg).ing = s.ing := (s.awlPersist_keeps b sev ev arg).parts .ing (by decide : Part.ing ∉ ([.awl, .host, .sent] : List Part))
@[simp] theorem State.awlPersist_twl (b : Blk) (sev : Severity) (ev arg : Nat) : (s.awlPersist b sev ev arg).twl = s.twl := (s.awlPersist_keeps b sev ev arg).parts .twl (by decide : Part.twl ∉ ([.awl, .host, .sent] : List Part))
@[simp] theorem State.awlPersist_nim (b : Blk) (sev : Severity) (ev arg : Nat) : (s.awlPersist b sev ev arg).nim = s.nim := (s.awlPersist_keeps b sev ev arg).parts .nim (by decide : Part.nim ∉ ([.awl, .host, .sent] : List Part))
@[simp] theorem State.awlPersist_tks (b : Blk) (sev : Severity) (ev arg : Nat) : (s.awlPersist b sev ev arg).tks = s.tks := (s.awlPersist_keeps b sev ev arg).parts .tks (by decide : Part.tks ∉ ([.awl, .host, .sent] : List Part))
@[simp] theorem State.awlPersist_egr (b : Blk) (sev : Severity) (ev arg : Nat) : (s.awlPersist b sev ev arg).egr = s.egr := (s.awlPersist_keeps b sev ev arg).parts .egr (by decide : Part.egr ∉ ([.awl, .host, .sent] : List Part))
@[simp] theorem State.awlPersist_twd (b : Blk) (sev : Severity) (ev arg : Nat) : (s.awlPersist b sev ev arg).twd = s.twd := (s.awlPersist_keeps b sev ev arg).parts .twd (by decide : Part.twd ∉ ([.awl, .host, .sent] : List Part))
@[simp] theorem State.awlPersist_asp (b : Blk) (sev : Severity) (ev arg : Nat) : (s.awlPersist b sev ev arg).asp = s.asp := (s.awlPersist_keeps b sev ev arg).parts .asp (by decide : Part.asp ∉ ([.awl, .host, .sent] : List Part))
@[simp] theorem State.awlPersist_vmp (b : Blk) (sev : Severity) (ev arg : Nat) : (s.awlPersist b sev ev arg).vmp = s.vmp := (s.awlPersist_keeps b sev ev arg).parts .vmp (by decide : Part.vmp ∉ ([.awl, .host, .sent] : List Part))
@[simp] theorem State.awlPersist_lst (b : Blk) (sev : Severity) (ev arg : Nat) : (s.awlPersist b sev ev arg).lst = s.lst := (s.awlPersist_keeps b sev ev arg).parts .lst (by decide : Part.lst ∉ ([.awl, .host, .sent] : List Part))
@[simp] theorem State.awlPersist_ntm (b : Blk) (sev : Severity) (ev arg : Nat) : (s.awlPersist b sev ev arg).ntm = s.ntm := (s.awlPersist_keeps b sev ev arg).parts .ntm (by decide : Part.ntm ∉ ([.awl, .host, .sent] : List Part))
@[simp] theorem State.awlPersist_net (b : Blk) (sev : Severity) (ev arg : Nat) : (s.awlPersist b sev ev arg).net = s.net := (s.awlPersist_keeps b sev ev arg).parts .net (by decide : Part.net ∉ ([.awl, .host, .sent] : List Part))
@[simp] theorem State.awlPersist_rsl (b : Blk) (sev : Severity) (ev arg : Nat) : (s.awlPersist b sev ev arg).rsl = s.rsl := (s.awlPersist_keeps b sev ev arg).parts .rsl (by decide : Part.rsl ∉ ([.awl, .host, .sent] : List Part))
@[simp] theorem State.awlPersist_keep (b : Blk) (sev : Severity) (ev arg : Nat) : (s.awlPersist b sev ev arg).keep = s.keep := (s.awlPersist_keeps b sev ev arg).parts .keep (by decide : Part.keep ∉ ([.awl, .host, .sent] : List Part))
@[simp] theorem State.awlPersist_upd (b : Blk) (sev : Severity) (ev arg : Nat) : (s.awlPersist b sev ev arg).upd = s.upd := (s.awlPersist_keeps b sev ev arg).parts .upd (by decide : Part.upd ∉ ([.awl, .host, .sent] : List Part))
@[simp] theorem State.awlPersist_boot (b : Blk) (sev : Severity) (ev arg : Nat) : (s.awlPersist b sev ev arg).boot = s.boot := (s.awlPersist_keeps b sev ev arg).parts .boot (by decide : Part.boot ∉ ([.awl, .host, .sent] : List Part))
@[simp] theorem State.awlPersist_frameStore (b : Blk) (sev : Severity) (ev arg : Nat) : (s.awlPersist b sev ev arg).frameStore = s.frameStore := (s.awlPersist_keeps b sev ev arg).parts .frameStore (by decide : Part.frameStore ∉ ([.awl, .host, .sent] : List Part))
@[simp] theorem State.awlPersist_dir (b : Blk) (sev : Severity) (ev arg : Nat) : (s.awlPersist b sev ev arg).dir = s.dir := (s.awlPersist_keeps b sev ev arg).parts .dir (by decide : Part.dir ∉ ([.awl, .host, .sent] : List Part))
theorem State.awlPersist_reg (b : Blk) (sev : Severity) (ev arg : Nat) {r : Reg} (h : r ∉ awlRegs) (i : Nat) : (s.awlPersist b sev ev arg).reg r i = s.reg r i := (s.awlPersist_keeps b sev ev arg).regs r i h
theorem State.awlPersist_fld (b : Blk) (sev : Severity) (ev arg : Nat) {g : Fld} (h : g.reg ∉ awlRegs) (i : Nat) : (s.awlPersist b sev ev arg).fld g i = s.fld g i := (s.awlPersist_keeps b sev ev arg).fld h i
theorem State.awlPersist_flag (b : Blk) (sev : Severity) (ev arg : Nat) {g : Fld} (h : g.reg ∉ awlRegs) (i : Nat) : (s.awlPersist b sev ev arg).flag g i = s.flag g i := (s.awlPersist_keeps b sev ev arg).flag h i
@[simp] theorem State.awlPersist_input (b : Blk) (sev : Severity) (ev arg : Nat) (n : Nat) : (s.awlPersist b sev ev arg).input n = s.input n := by rw [State.input, State.input, State.awlPersist_ing]
@[simp] theorem State.awlPersist_svc (b : Blk) (sev : Severity) (ev arg : Nat) (n : Nat) : (s.awlPersist b sev ev arg).svc n = s.svc n := by rw [State.svc, State.svc, State.awlPersist_nim]
@[simp] theorem State.awlPersist_ctx (b : Blk) (sev : Severity) (ev arg : Nat) (n : Nat) : (s.awlPersist b sev ev arg).ctx n = s.ctx n := by rw [State.ctx, State.ctx, State.awlPersist_nim]
@[simp] theorem State.awlPersist_twdCore (b : Blk) (sev : Severity) (ev arg : Nat) (n : Nat) : (s.awlPersist b sev ev arg).twdCore n = s.twdCore n := by rw [State.twdCore, State.twdCore, State.awlPersist_twd]
@[simp] theorem State.awlPersist_pipe (b : Blk) (sev : Severity) (ev arg : Nat) (n : Nat) : (s.awlPersist b sev ev arg).pipe n = s.pipe n := by rw [State.pipe, State.pipe, State.awlPersist_vmp]
@[simp] theorem State.awlPersist_servo (b : Blk) (sev : Severity) (ev arg : Nat) (n : Nat) : (s.awlPersist b sev ev arg).servo n = s.servo n := by rw [State.servo, State.servo, State.awlPersist_ntm]
@[simp] theorem State.awlPersist_trg (b : Blk) (sev : Severity) (ev arg : Nat) (n : Nat) : (s.awlPersist b sev ev arg).trg n = s.trg n := by rw [State.trg, State.trg, State.awlPersist_ntm]
@[simp] theorem State.awlPersist_cap (b : Blk) (sev : Severity) (ev arg : Nat) (n : Nat) : (s.awlPersist b sev ev arg).cap n = s.cap n := by rw [State.cap, State.cap, State.awlPersist_ntm]
@[simp] theorem State.awlPersist_lane (b : Blk) (sev : Severity) (ev arg : Nat) (n : Nat) : (s.awlPersist b sev ev arg).lane n = s.lane n := by rw [State.lane, State.lane, State.awlPersist_net]
@[simp] theorem State.awlPersist_link (b : Blk) (sev : Severity) (ev arg : Nat) (n : Nat) : (s.awlPersist b sev ev arg).link n = s.link n := by rw [State.link, State.link, State.awlPersist_net]
@[simp] theorem State.awlPersist_netPort (b : Blk) (sev : Severity) (ev arg : Nat) (n : Nat) : (s.awlPersist b sev ev arg).netPort n = s.netPort n := by rw [State.netPort, State.netPort, State.awlPersist_net]
@[simp] theorem State.awlPersist_rxr (b : Blk) (sev : Severity) (ev arg : Nat) (n : Nat) : (s.awlPersist b sev ev arg).rxr n = s.rxr n := by rw [State.rxr, State.rxr, State.awlPersist_net]
@[simp] theorem State.awlPersist_txr (b : Blk) (sev : Severity) (ev arg : Nat) (n : Nat) : (s.awlPersist b sev ev arg).txr n = s.txr n := by rw [State.txr, State.txr, State.awlPersist_net]
@[simp] theorem State.awlPersist_clk (b : Blk) (sev : Severity) (ev arg : Nat) (n : Nat) : (s.awlPersist b sev ev arg).clk n = s.clk n := by rw [State.clk, State.clk, State.awlPersist_boot]
@[simp] theorem State.awlPersist_out (b : Blk) (sev : Severity) (ev arg : Nat) (n : Nat) : (s.awlPersist b sev ev arg).out n = s.out n := by rw [State.out, State.out, State.awlPersist_egr]
@[simp] theorem State.awlPersist_otd (b : Blk) (sev : Severity) (ev arg : Nat) (n : Nat) : (s.awlPersist b sev ev arg).otd n = s.otd n := by rw [State.otd, State.otd, State.awlPersist_egr]
@[simp] theorem State.awlPersist_join (b : Blk) (sev : Severity) (ev arg : Nat) (n : Nat) : (s.awlPersist b sev ev arg).join n = s.join n := by rw [State.join, State.join, State.awlPersist_egr]
@[simp] theorem State.awlPersist_port (b : Blk) (sev : Severity) (ev arg : Nat) (n : Nat) : (s.awlPersist b sev ev arg).port n = s.port n := by rw [State.port, State.port, State.awlPersist_twl]
@[simp] theorem State.awlPersist_dirEntry (b : Blk) (sev : Severity) (ev arg : Nat) (n : Nat) : (s.awlPersist b sev ev arg).dirEntry n = s.dirEntry n := by rw [State.dirEntry, State.dirEntry, State.awlPersist_dir]
@[simp] theorem State.awlPersist_tbNow (b : Blk) (sev : Severity) (ev arg : Nat) (n : Nat) : (s.awlPersist b sev ev arg).tbNow n = s.tbNow n := by rw [State.tbNow, State.tbNow, State.awlPersist_tb]

/-! ### awlFabric -/

/-- All that awlFabric changes. -/
theorem State.awlFabric_keeps (ev fl obj : Nat) : Frame ⟨[.awl, .host, .sent], awlRegs⟩ s (s.awlFabric ev fl obj) := by
  apply State.awlFabric_frame (Frame.refl _ s) <;> simp [Irq.eventRegs, Irq.alarmRegs, awlRegs]

@[simp] theorem State.awlFabric_pending (ev fl obj : Nat) : (s.awlFabric ev fl obj).pending = s.pending := (s.awlFabric_keeps ev fl obj).parts .pending (by decide : Part.pending ∉ ([.awl, .host, .sent] : List Part))
@[simp] theorem State.awlFabric_resp (ev fl obj : Nat) : (s.awlFabric ev fl obj).resp = s.resp := (s.awlFabric_keeps ev fl obj).parts .resp (by decide : Part.resp ∉ ([.awl, .host, .sent] : List Part))
@[simp] theorem State.awlFabric_rdata (ev fl obj : Nat) : (s.awlFabric ev fl obj).rdata = s.rdata := (s.awlFabric_keeps ev fl obj).parts .rdata (by decide : Part.rdata ∉ ([.awl, .host, .sent] : List Part))
@[simp] theorem State.awlFabric_latchHigh (ev fl obj : Nat) : (s.awlFabric ev fl obj).latchHigh = s.latchHigh := (s.awlFabric_keeps ev fl obj).parts .latchHigh (by decide : Part.latchHigh ∉ ([.awl, .host, .sent] : List Part))
@[simp] theorem State.awlFabric_latchLow (ev fl obj : Nat) : (s.awlFabric ev fl obj).latchLow = s.latchLow := (s.awlFabric_keeps ev fl obj).parts .latchLow (by decide : Part.latchLow ∉ ([.awl, .host, .sent] : List Part))
@[simp] theorem State.awlFabric_freeCtr (ev fl obj : Nat) : (s.awlFabric ev fl obj).freeCtr = s.freeCtr := (s.awlFabric_keeps ev fl obj).parts .freeCtr (by decide : Part.freeCtr ∉ ([.awl, .host, .sent] : List Part))
@[simp] theorem State.awlFabric_tick (ev fl obj : Nat) : (s.awlFabric ev fl obj).tick = s.tick := (s.awlFabric_keeps ev fl obj).parts .tick (by decide : Part.tick ∉ ([.awl, .host, .sent] : List Part))
@[simp] theorem State.awlFabric_tb (ev fl obj : Nat) : (s.awlFabric ev fl obj).tb = s.tb := (s.awlFabric_keeps ev fl obj).parts .tb (by decide : Part.tb ∉ ([.awl, .host, .sent] : List Part))
@[simp] theorem State.awlFabric_ing (ev fl obj : Nat) : (s.awlFabric ev fl obj).ing = s.ing := (s.awlFabric_keeps ev fl obj).parts .ing (by decide : Part.ing ∉ ([.awl, .host, .sent] : List Part))
@[simp] theorem State.awlFabric_twl (ev fl obj : Nat) : (s.awlFabric ev fl obj).twl = s.twl := (s.awlFabric_keeps ev fl obj).parts .twl (by decide : Part.twl ∉ ([.awl, .host, .sent] : List Part))
@[simp] theorem State.awlFabric_nim (ev fl obj : Nat) : (s.awlFabric ev fl obj).nim = s.nim := (s.awlFabric_keeps ev fl obj).parts .nim (by decide : Part.nim ∉ ([.awl, .host, .sent] : List Part))
@[simp] theorem State.awlFabric_tks (ev fl obj : Nat) : (s.awlFabric ev fl obj).tks = s.tks := (s.awlFabric_keeps ev fl obj).parts .tks (by decide : Part.tks ∉ ([.awl, .host, .sent] : List Part))
@[simp] theorem State.awlFabric_egr (ev fl obj : Nat) : (s.awlFabric ev fl obj).egr = s.egr := (s.awlFabric_keeps ev fl obj).parts .egr (by decide : Part.egr ∉ ([.awl, .host, .sent] : List Part))
@[simp] theorem State.awlFabric_twd (ev fl obj : Nat) : (s.awlFabric ev fl obj).twd = s.twd := (s.awlFabric_keeps ev fl obj).parts .twd (by decide : Part.twd ∉ ([.awl, .host, .sent] : List Part))
@[simp] theorem State.awlFabric_asp (ev fl obj : Nat) : (s.awlFabric ev fl obj).asp = s.asp := (s.awlFabric_keeps ev fl obj).parts .asp (by decide : Part.asp ∉ ([.awl, .host, .sent] : List Part))
@[simp] theorem State.awlFabric_vmp (ev fl obj : Nat) : (s.awlFabric ev fl obj).vmp = s.vmp := (s.awlFabric_keeps ev fl obj).parts .vmp (by decide : Part.vmp ∉ ([.awl, .host, .sent] : List Part))
@[simp] theorem State.awlFabric_lst (ev fl obj : Nat) : (s.awlFabric ev fl obj).lst = s.lst := (s.awlFabric_keeps ev fl obj).parts .lst (by decide : Part.lst ∉ ([.awl, .host, .sent] : List Part))
@[simp] theorem State.awlFabric_ntm (ev fl obj : Nat) : (s.awlFabric ev fl obj).ntm = s.ntm := (s.awlFabric_keeps ev fl obj).parts .ntm (by decide : Part.ntm ∉ ([.awl, .host, .sent] : List Part))
@[simp] theorem State.awlFabric_net (ev fl obj : Nat) : (s.awlFabric ev fl obj).net = s.net := (s.awlFabric_keeps ev fl obj).parts .net (by decide : Part.net ∉ ([.awl, .host, .sent] : List Part))
@[simp] theorem State.awlFabric_rsl (ev fl obj : Nat) : (s.awlFabric ev fl obj).rsl = s.rsl := (s.awlFabric_keeps ev fl obj).parts .rsl (by decide : Part.rsl ∉ ([.awl, .host, .sent] : List Part))
@[simp] theorem State.awlFabric_keep (ev fl obj : Nat) : (s.awlFabric ev fl obj).keep = s.keep := (s.awlFabric_keeps ev fl obj).parts .keep (by decide : Part.keep ∉ ([.awl, .host, .sent] : List Part))
@[simp] theorem State.awlFabric_upd (ev fl obj : Nat) : (s.awlFabric ev fl obj).upd = s.upd := (s.awlFabric_keeps ev fl obj).parts .upd (by decide : Part.upd ∉ ([.awl, .host, .sent] : List Part))
@[simp] theorem State.awlFabric_boot (ev fl obj : Nat) : (s.awlFabric ev fl obj).boot = s.boot := (s.awlFabric_keeps ev fl obj).parts .boot (by decide : Part.boot ∉ ([.awl, .host, .sent] : List Part))
@[simp] theorem State.awlFabric_frameStore (ev fl obj : Nat) : (s.awlFabric ev fl obj).frameStore = s.frameStore := (s.awlFabric_keeps ev fl obj).parts .frameStore (by decide : Part.frameStore ∉ ([.awl, .host, .sent] : List Part))
@[simp] theorem State.awlFabric_dir (ev fl obj : Nat) : (s.awlFabric ev fl obj).dir = s.dir := (s.awlFabric_keeps ev fl obj).parts .dir (by decide : Part.dir ∉ ([.awl, .host, .sent] : List Part))
theorem State.awlFabric_reg (ev fl obj : Nat) {r : Reg} (h : r ∉ awlRegs) (i : Nat) : (s.awlFabric ev fl obj).reg r i = s.reg r i := (s.awlFabric_keeps ev fl obj).regs r i h
theorem State.awlFabric_fld (ev fl obj : Nat) {g : Fld} (h : g.reg ∉ awlRegs) (i : Nat) : (s.awlFabric ev fl obj).fld g i = s.fld g i := (s.awlFabric_keeps ev fl obj).fld h i
theorem State.awlFabric_flag (ev fl obj : Nat) {g : Fld} (h : g.reg ∉ awlRegs) (i : Nat) : (s.awlFabric ev fl obj).flag g i = s.flag g i := (s.awlFabric_keeps ev fl obj).flag h i
@[simp] theorem State.awlFabric_input (ev fl obj : Nat) (n : Nat) : (s.awlFabric ev fl obj).input n = s.input n := by rw [State.input, State.input, State.awlFabric_ing]
@[simp] theorem State.awlFabric_svc (ev fl obj : Nat) (n : Nat) : (s.awlFabric ev fl obj).svc n = s.svc n := by rw [State.svc, State.svc, State.awlFabric_nim]
@[simp] theorem State.awlFabric_ctx (ev fl obj : Nat) (n : Nat) : (s.awlFabric ev fl obj).ctx n = s.ctx n := by rw [State.ctx, State.ctx, State.awlFabric_nim]
@[simp] theorem State.awlFabric_twdCore (ev fl obj : Nat) (n : Nat) : (s.awlFabric ev fl obj).twdCore n = s.twdCore n := by rw [State.twdCore, State.twdCore, State.awlFabric_twd]
@[simp] theorem State.awlFabric_pipe (ev fl obj : Nat) (n : Nat) : (s.awlFabric ev fl obj).pipe n = s.pipe n := by rw [State.pipe, State.pipe, State.awlFabric_vmp]
@[simp] theorem State.awlFabric_servo (ev fl obj : Nat) (n : Nat) : (s.awlFabric ev fl obj).servo n = s.servo n := by rw [State.servo, State.servo, State.awlFabric_ntm]
@[simp] theorem State.awlFabric_trg (ev fl obj : Nat) (n : Nat) : (s.awlFabric ev fl obj).trg n = s.trg n := by rw [State.trg, State.trg, State.awlFabric_ntm]
@[simp] theorem State.awlFabric_cap (ev fl obj : Nat) (n : Nat) : (s.awlFabric ev fl obj).cap n = s.cap n := by rw [State.cap, State.cap, State.awlFabric_ntm]
@[simp] theorem State.awlFabric_lane (ev fl obj : Nat) (n : Nat) : (s.awlFabric ev fl obj).lane n = s.lane n := by rw [State.lane, State.lane, State.awlFabric_net]
@[simp] theorem State.awlFabric_link (ev fl obj : Nat) (n : Nat) : (s.awlFabric ev fl obj).link n = s.link n := by rw [State.link, State.link, State.awlFabric_net]
@[simp] theorem State.awlFabric_netPort (ev fl obj : Nat) (n : Nat) : (s.awlFabric ev fl obj).netPort n = s.netPort n := by rw [State.netPort, State.netPort, State.awlFabric_net]
@[simp] theorem State.awlFabric_rxr (ev fl obj : Nat) (n : Nat) : (s.awlFabric ev fl obj).rxr n = s.rxr n := by rw [State.rxr, State.rxr, State.awlFabric_net]
@[simp] theorem State.awlFabric_txr (ev fl obj : Nat) (n : Nat) : (s.awlFabric ev fl obj).txr n = s.txr n := by rw [State.txr, State.txr, State.awlFabric_net]
@[simp] theorem State.awlFabric_clk (ev fl obj : Nat) (n : Nat) : (s.awlFabric ev fl obj).clk n = s.clk n := by rw [State.clk, State.clk, State.awlFabric_boot]
@[simp] theorem State.awlFabric_out (ev fl obj : Nat) (n : Nat) : (s.awlFabric ev fl obj).out n = s.out n := by rw [State.out, State.out, State.awlFabric_egr]
@[simp] theorem State.awlFabric_otd (ev fl obj : Nat) (n : Nat) : (s.awlFabric ev fl obj).otd n = s.otd n := by rw [State.otd, State.otd, State.awlFabric_egr]
@[simp] theorem State.awlFabric_join (ev fl obj : Nat) (n : Nat) : (s.awlFabric ev fl obj).join n = s.join n := by rw [State.join, State.join, State.awlFabric_egr]
@[simp] theorem State.awlFabric_port (ev fl obj : Nat) (n : Nat) : (s.awlFabric ev fl obj).port n = s.port n := by rw [State.port, State.port, State.awlFabric_twl]
@[simp] theorem State.awlFabric_dirEntry (ev fl obj : Nat) (n : Nat) : (s.awlFabric ev fl obj).dirEntry n = s.dirEntry n := by rw [State.dirEntry, State.dirEntry, State.awlFabric_dir]
@[simp] theorem State.awlFabric_tbNow (ev fl obj : Nat) (n : Nat) : (s.awlFabric ev fl obj).tbNow n = s.tbNow n := by rw [State.tbNow, State.tbNow, State.awlFabric_tb]

/-! ### event -/

/-- All that event changes. -/
theorem State.event_keeps (c : Irq) (obj detail : Nat) : Frame ⟨[.awl, .host, .sent], (Irq.eventRegs c)⟩ s (s.event c obj detail) := by
  apply State.event_frame (Frame.refl _ s) <;> simp [Irq.eventRegs, Irq.alarmRegs, awlRegs]

@[simp] theorem State.event_pending (c : Irq) (obj detail : Nat) : (s.event c obj detail).pending = s.pending := (s.event_keeps c obj detail).parts .pending (by decide : Part.pending ∉ ([.awl, .host, .sent] : List Part))
@[simp] theorem State.event_resp (c : Irq) (obj detail : Nat) : (s.event c obj detail).resp = s.resp := (s.event_keeps c obj detail).parts .resp (by decide : Part.resp ∉ ([.awl, .host, .sent] : List Part))
@[simp] theorem State.event_rdata (c : Irq) (obj detail : Nat) : (s.event c obj detail).rdata = s.rdata := (s.event_keeps c obj detail).parts .rdata (by decide : Part.rdata ∉ ([.awl, .host, .sent] : List Part))
@[simp] theorem State.event_latchHigh (c : Irq) (obj detail : Nat) : (s.event c obj detail).latchHigh = s.latchHigh := (s.event_keeps c obj detail).parts .latchHigh (by decide : Part.latchHigh ∉ ([.awl, .host, .sent] : List Part))
@[simp] theorem State.event_latchLow (c : Irq) (obj detail : Nat) : (s.event c obj detail).latchLow = s.latchLow := (s.event_keeps c obj detail).parts .latchLow (by decide : Part.latchLow ∉ ([.awl, .host, .sent] : List Part))
@[simp] theorem State.event_freeCtr (c : Irq) (obj detail : Nat) : (s.event c obj detail).freeCtr = s.freeCtr := (s.event_keeps c obj detail).parts .freeCtr (by decide : Part.freeCtr ∉ ([.awl, .host, .sent] : List Part))
@[simp] theorem State.event_tick (c : Irq) (obj detail : Nat) : (s.event c obj detail).tick = s.tick := (s.event_keeps c obj detail).parts .tick (by decide : Part.tick ∉ ([.awl, .host, .sent] : List Part))
@[simp] theorem State.event_tb (c : Irq) (obj detail : Nat) : (s.event c obj detail).tb = s.tb := (s.event_keeps c obj detail).parts .tb (by decide : Part.tb ∉ ([.awl, .host, .sent] : List Part))
@[simp] theorem State.event_ing (c : Irq) (obj detail : Nat) : (s.event c obj detail).ing = s.ing := (s.event_keeps c obj detail).parts .ing (by decide : Part.ing ∉ ([.awl, .host, .sent] : List Part))
@[simp] theorem State.event_twl (c : Irq) (obj detail : Nat) : (s.event c obj detail).twl = s.twl := (s.event_keeps c obj detail).parts .twl (by decide : Part.twl ∉ ([.awl, .host, .sent] : List Part))
@[simp] theorem State.event_nim (c : Irq) (obj detail : Nat) : (s.event c obj detail).nim = s.nim := (s.event_keeps c obj detail).parts .nim (by decide : Part.nim ∉ ([.awl, .host, .sent] : List Part))
@[simp] theorem State.event_tks (c : Irq) (obj detail : Nat) : (s.event c obj detail).tks = s.tks := (s.event_keeps c obj detail).parts .tks (by decide : Part.tks ∉ ([.awl, .host, .sent] : List Part))
@[simp] theorem State.event_egr (c : Irq) (obj detail : Nat) : (s.event c obj detail).egr = s.egr := (s.event_keeps c obj detail).parts .egr (by decide : Part.egr ∉ ([.awl, .host, .sent] : List Part))
@[simp] theorem State.event_twd (c : Irq) (obj detail : Nat) : (s.event c obj detail).twd = s.twd := (s.event_keeps c obj detail).parts .twd (by decide : Part.twd ∉ ([.awl, .host, .sent] : List Part))
@[simp] theorem State.event_asp (c : Irq) (obj detail : Nat) : (s.event c obj detail).asp = s.asp := (s.event_keeps c obj detail).parts .asp (by decide : Part.asp ∉ ([.awl, .host, .sent] : List Part))
@[simp] theorem State.event_vmp (c : Irq) (obj detail : Nat) : (s.event c obj detail).vmp = s.vmp := (s.event_keeps c obj detail).parts .vmp (by decide : Part.vmp ∉ ([.awl, .host, .sent] : List Part))
@[simp] theorem State.event_lst (c : Irq) (obj detail : Nat) : (s.event c obj detail).lst = s.lst := (s.event_keeps c obj detail).parts .lst (by decide : Part.lst ∉ ([.awl, .host, .sent] : List Part))
@[simp] theorem State.event_ntm (c : Irq) (obj detail : Nat) : (s.event c obj detail).ntm = s.ntm := (s.event_keeps c obj detail).parts .ntm (by decide : Part.ntm ∉ ([.awl, .host, .sent] : List Part))
@[simp] theorem State.event_net (c : Irq) (obj detail : Nat) : (s.event c obj detail).net = s.net := (s.event_keeps c obj detail).parts .net (by decide : Part.net ∉ ([.awl, .host, .sent] : List Part))
@[simp] theorem State.event_rsl (c : Irq) (obj detail : Nat) : (s.event c obj detail).rsl = s.rsl := (s.event_keeps c obj detail).parts .rsl (by decide : Part.rsl ∉ ([.awl, .host, .sent] : List Part))
@[simp] theorem State.event_keep (c : Irq) (obj detail : Nat) : (s.event c obj detail).keep = s.keep := (s.event_keeps c obj detail).parts .keep (by decide : Part.keep ∉ ([.awl, .host, .sent] : List Part))
@[simp] theorem State.event_upd (c : Irq) (obj detail : Nat) : (s.event c obj detail).upd = s.upd := (s.event_keeps c obj detail).parts .upd (by decide : Part.upd ∉ ([.awl, .host, .sent] : List Part))
@[simp] theorem State.event_boot (c : Irq) (obj detail : Nat) : (s.event c obj detail).boot = s.boot := (s.event_keeps c obj detail).parts .boot (by decide : Part.boot ∉ ([.awl, .host, .sent] : List Part))
@[simp] theorem State.event_frameStore (c : Irq) (obj detail : Nat) : (s.event c obj detail).frameStore = s.frameStore := (s.event_keeps c obj detail).parts .frameStore (by decide : Part.frameStore ∉ ([.awl, .host, .sent] : List Part))
@[simp] theorem State.event_dir (c : Irq) (obj detail : Nat) : (s.event c obj detail).dir = s.dir := (s.event_keeps c obj detail).parts .dir (by decide : Part.dir ∉ ([.awl, .host, .sent] : List Part))
theorem State.event_reg (c : Irq) (obj detail : Nat) {r : Reg} (h : r ∉ (Irq.eventRegs c)) (i : Nat) : (s.event c obj detail).reg r i = s.reg r i := (s.event_keeps c obj detail).regs r i h
theorem State.event_fld (c : Irq) (obj detail : Nat) {g : Fld} (h : g.reg ∉ (Irq.eventRegs c)) (i : Nat) : (s.event c obj detail).fld g i = s.fld g i := (s.event_keeps c obj detail).fld h i
theorem State.event_flag (c : Irq) (obj detail : Nat) {g : Fld} (h : g.reg ∉ (Irq.eventRegs c)) (i : Nat) : (s.event c obj detail).flag g i = s.flag g i := (s.event_keeps c obj detail).flag h i
@[simp] theorem State.event_input (c : Irq) (obj detail : Nat) (n : Nat) : (s.event c obj detail).input n = s.input n := by rw [State.input, State.input, State.event_ing]
@[simp] theorem State.event_svc (c : Irq) (obj detail : Nat) (n : Nat) : (s.event c obj detail).svc n = s.svc n := by rw [State.svc, State.svc, State.event_nim]
@[simp] theorem State.event_ctx (c : Irq) (obj detail : Nat) (n : Nat) : (s.event c obj detail).ctx n = s.ctx n := by rw [State.ctx, State.ctx, State.event_nim]
@[simp] theorem State.event_twdCore (c : Irq) (obj detail : Nat) (n : Nat) : (s.event c obj detail).twdCore n = s.twdCore n := by rw [State.twdCore, State.twdCore, State.event_twd]
@[simp] theorem State.event_pipe (c : Irq) (obj detail : Nat) (n : Nat) : (s.event c obj detail).pipe n = s.pipe n := by rw [State.pipe, State.pipe, State.event_vmp]
@[simp] theorem State.event_servo (c : Irq) (obj detail : Nat) (n : Nat) : (s.event c obj detail).servo n = s.servo n := by rw [State.servo, State.servo, State.event_ntm]
@[simp] theorem State.event_trg (c : Irq) (obj detail : Nat) (n : Nat) : (s.event c obj detail).trg n = s.trg n := by rw [State.trg, State.trg, State.event_ntm]
@[simp] theorem State.event_cap (c : Irq) (obj detail : Nat) (n : Nat) : (s.event c obj detail).cap n = s.cap n := by rw [State.cap, State.cap, State.event_ntm]
@[simp] theorem State.event_lane (c : Irq) (obj detail : Nat) (n : Nat) : (s.event c obj detail).lane n = s.lane n := by rw [State.lane, State.lane, State.event_net]
@[simp] theorem State.event_link (c : Irq) (obj detail : Nat) (n : Nat) : (s.event c obj detail).link n = s.link n := by rw [State.link, State.link, State.event_net]
@[simp] theorem State.event_netPort (c : Irq) (obj detail : Nat) (n : Nat) : (s.event c obj detail).netPort n = s.netPort n := by rw [State.netPort, State.netPort, State.event_net]
@[simp] theorem State.event_rxr (c : Irq) (obj detail : Nat) (n : Nat) : (s.event c obj detail).rxr n = s.rxr n := by rw [State.rxr, State.rxr, State.event_net]
@[simp] theorem State.event_txr (c : Irq) (obj detail : Nat) (n : Nat) : (s.event c obj detail).txr n = s.txr n := by rw [State.txr, State.txr, State.event_net]
@[simp] theorem State.event_clk (c : Irq) (obj detail : Nat) (n : Nat) : (s.event c obj detail).clk n = s.clk n := by rw [State.clk, State.clk, State.event_boot]
@[simp] theorem State.event_out (c : Irq) (obj detail : Nat) (n : Nat) : (s.event c obj detail).out n = s.out n := by rw [State.out, State.out, State.event_egr]
@[simp] theorem State.event_otd (c : Irq) (obj detail : Nat) (n : Nat) : (s.event c obj detail).otd n = s.otd n := by rw [State.otd, State.otd, State.event_egr]
@[simp] theorem State.event_join (c : Irq) (obj detail : Nat) (n : Nat) : (s.event c obj detail).join n = s.join n := by rw [State.join, State.join, State.event_egr]
@[simp] theorem State.event_port (c : Irq) (obj detail : Nat) (n : Nat) : (s.event c obj detail).port n = s.port n := by rw [State.port, State.port, State.event_twl]
@[simp] theorem State.event_dirEntry (c : Irq) (obj detail : Nat) (n : Nat) : (s.event c obj detail).dirEntry n = s.dirEntry n := by rw [State.dirEntry, State.dirEntry, State.event_dir]
@[simp] theorem State.event_tbNow (c : Irq) (obj detail : Nat) (n : Nat) : (s.event c obj detail).tbNow n = s.tbNow n := by rw [State.tbNow, State.tbNow, State.event_tb]

/-! ### alert -/

/-- All that alert changes. -/
theorem State.alert_keeps (b : Nat) : Frame ⟨[.host, .sent], [.GLB_ALERT_STAT, .GLB_INT_SUM, .GLB_INT_STAT]⟩ s (s.alert b) := by
  apply State.alert_frame (Frame.refl _ s) <;> simp [Irq.eventRegs, Irq.alarmRegs, awlRegs]

@[simp] theorem State.alert_pending (b : Nat) : (s.alert b).pending = s.pending := (s.alert_keeps b).parts .pending (by decide : Part.pending ∉ ([.host, .sent] : List Part))
@[simp] theorem State.alert_resp (b : Nat) : (s.alert b).resp = s.resp := (s.alert_keeps b).parts .resp (by decide : Part.resp ∉ ([.host, .sent] : List Part))
@[simp] theorem State.alert_rdata (b : Nat) : (s.alert b).rdata = s.rdata := (s.alert_keeps b).parts .rdata (by decide : Part.rdata ∉ ([.host, .sent] : List Part))
@[simp] theorem State.alert_latchHigh (b : Nat) : (s.alert b).latchHigh = s.latchHigh := (s.alert_keeps b).parts .latchHigh (by decide : Part.latchHigh ∉ ([.host, .sent] : List Part))
@[simp] theorem State.alert_latchLow (b : Nat) : (s.alert b).latchLow = s.latchLow := (s.alert_keeps b).parts .latchLow (by decide : Part.latchLow ∉ ([.host, .sent] : List Part))
@[simp] theorem State.alert_freeCtr (b : Nat) : (s.alert b).freeCtr = s.freeCtr := (s.alert_keeps b).parts .freeCtr (by decide : Part.freeCtr ∉ ([.host, .sent] : List Part))
@[simp] theorem State.alert_tick (b : Nat) : (s.alert b).tick = s.tick := (s.alert_keeps b).parts .tick (by decide : Part.tick ∉ ([.host, .sent] : List Part))
@[simp] theorem State.alert_tb (b : Nat) : (s.alert b).tb = s.tb := (s.alert_keeps b).parts .tb (by decide : Part.tb ∉ ([.host, .sent] : List Part))
@[simp] theorem State.alert_awl (b : Nat) : (s.alert b).awl = s.awl := (s.alert_keeps b).parts .awl (by decide : Part.awl ∉ ([.host, .sent] : List Part))
@[simp] theorem State.alert_ing (b : Nat) : (s.alert b).ing = s.ing := (s.alert_keeps b).parts .ing (by decide : Part.ing ∉ ([.host, .sent] : List Part))
@[simp] theorem State.alert_twl (b : Nat) : (s.alert b).twl = s.twl := (s.alert_keeps b).parts .twl (by decide : Part.twl ∉ ([.host, .sent] : List Part))
@[simp] theorem State.alert_nim (b : Nat) : (s.alert b).nim = s.nim := (s.alert_keeps b).parts .nim (by decide : Part.nim ∉ ([.host, .sent] : List Part))
@[simp] theorem State.alert_tks (b : Nat) : (s.alert b).tks = s.tks := (s.alert_keeps b).parts .tks (by decide : Part.tks ∉ ([.host, .sent] : List Part))
@[simp] theorem State.alert_egr (b : Nat) : (s.alert b).egr = s.egr := (s.alert_keeps b).parts .egr (by decide : Part.egr ∉ ([.host, .sent] : List Part))
@[simp] theorem State.alert_twd (b : Nat) : (s.alert b).twd = s.twd := (s.alert_keeps b).parts .twd (by decide : Part.twd ∉ ([.host, .sent] : List Part))
@[simp] theorem State.alert_asp (b : Nat) : (s.alert b).asp = s.asp := (s.alert_keeps b).parts .asp (by decide : Part.asp ∉ ([.host, .sent] : List Part))
@[simp] theorem State.alert_vmp (b : Nat) : (s.alert b).vmp = s.vmp := (s.alert_keeps b).parts .vmp (by decide : Part.vmp ∉ ([.host, .sent] : List Part))
@[simp] theorem State.alert_lst (b : Nat) : (s.alert b).lst = s.lst := (s.alert_keeps b).parts .lst (by decide : Part.lst ∉ ([.host, .sent] : List Part))
@[simp] theorem State.alert_ntm (b : Nat) : (s.alert b).ntm = s.ntm := (s.alert_keeps b).parts .ntm (by decide : Part.ntm ∉ ([.host, .sent] : List Part))
@[simp] theorem State.alert_net (b : Nat) : (s.alert b).net = s.net := (s.alert_keeps b).parts .net (by decide : Part.net ∉ ([.host, .sent] : List Part))
@[simp] theorem State.alert_rsl (b : Nat) : (s.alert b).rsl = s.rsl := (s.alert_keeps b).parts .rsl (by decide : Part.rsl ∉ ([.host, .sent] : List Part))
@[simp] theorem State.alert_keep (b : Nat) : (s.alert b).keep = s.keep := (s.alert_keeps b).parts .keep (by decide : Part.keep ∉ ([.host, .sent] : List Part))
@[simp] theorem State.alert_upd (b : Nat) : (s.alert b).upd = s.upd := (s.alert_keeps b).parts .upd (by decide : Part.upd ∉ ([.host, .sent] : List Part))
@[simp] theorem State.alert_boot (b : Nat) : (s.alert b).boot = s.boot := (s.alert_keeps b).parts .boot (by decide : Part.boot ∉ ([.host, .sent] : List Part))
@[simp] theorem State.alert_frameStore (b : Nat) : (s.alert b).frameStore = s.frameStore := (s.alert_keeps b).parts .frameStore (by decide : Part.frameStore ∉ ([.host, .sent] : List Part))
@[simp] theorem State.alert_dir (b : Nat) : (s.alert b).dir = s.dir := (s.alert_keeps b).parts .dir (by decide : Part.dir ∉ ([.host, .sent] : List Part))
theorem State.alert_reg (b : Nat) {r : Reg} (h : r ∉ [.GLB_ALERT_STAT, .GLB_INT_SUM, .GLB_INT_STAT]) (i : Nat) : (s.alert b).reg r i = s.reg r i := (s.alert_keeps b).regs r i h
theorem State.alert_fld (b : Nat) {g : Fld} (h : g.reg ∉ [.GLB_ALERT_STAT, .GLB_INT_SUM, .GLB_INT_STAT]) (i : Nat) : (s.alert b).fld g i = s.fld g i := (s.alert_keeps b).fld h i
theorem State.alert_flag (b : Nat) {g : Fld} (h : g.reg ∉ [.GLB_ALERT_STAT, .GLB_INT_SUM, .GLB_INT_STAT]) (i : Nat) : (s.alert b).flag g i = s.flag g i := (s.alert_keeps b).flag h i
@[simp] theorem State.alert_input (b : Nat) (n : Nat) : (s.alert b).input n = s.input n := by rw [State.input, State.input, State.alert_ing]
@[simp] theorem State.alert_svc (b : Nat) (n : Nat) : (s.alert b).svc n = s.svc n := by rw [State.svc, State.svc, State.alert_nim]
@[simp] theorem State.alert_ctx (b : Nat) (n : Nat) : (s.alert b).ctx n = s.ctx n := by rw [State.ctx, State.ctx, State.alert_nim]
@[simp] theorem State.alert_twdCore (b : Nat) (n : Nat) : (s.alert b).twdCore n = s.twdCore n := by rw [State.twdCore, State.twdCore, State.alert_twd]
@[simp] theorem State.alert_pipe (b : Nat) (n : Nat) : (s.alert b).pipe n = s.pipe n := by rw [State.pipe, State.pipe, State.alert_vmp]
@[simp] theorem State.alert_servo (b : Nat) (n : Nat) : (s.alert b).servo n = s.servo n := by rw [State.servo, State.servo, State.alert_ntm]
@[simp] theorem State.alert_trg (b : Nat) (n : Nat) : (s.alert b).trg n = s.trg n := by rw [State.trg, State.trg, State.alert_ntm]
@[simp] theorem State.alert_cap (b : Nat) (n : Nat) : (s.alert b).cap n = s.cap n := by rw [State.cap, State.cap, State.alert_ntm]
@[simp] theorem State.alert_lane (b : Nat) (n : Nat) : (s.alert b).lane n = s.lane n := by rw [State.lane, State.lane, State.alert_net]
@[simp] theorem State.alert_link (b : Nat) (n : Nat) : (s.alert b).link n = s.link n := by rw [State.link, State.link, State.alert_net]
@[simp] theorem State.alert_netPort (b : Nat) (n : Nat) : (s.alert b).netPort n = s.netPort n := by rw [State.netPort, State.netPort, State.alert_net]
@[simp] theorem State.alert_rxr (b : Nat) (n : Nat) : (s.alert b).rxr n = s.rxr n := by rw [State.rxr, State.rxr, State.alert_net]
@[simp] theorem State.alert_txr (b : Nat) (n : Nat) : (s.alert b).txr n = s.txr n := by rw [State.txr, State.txr, State.alert_net]
@[simp] theorem State.alert_clk (b : Nat) (n : Nat) : (s.alert b).clk n = s.clk n := by rw [State.clk, State.clk, State.alert_boot]
@[simp] theorem State.alert_out (b : Nat) (n : Nat) : (s.alert b).out n = s.out n := by rw [State.out, State.out, State.alert_egr]
@[simp] theorem State.alert_otd (b : Nat) (n : Nat) : (s.alert b).otd n = s.otd n := by rw [State.otd, State.otd, State.alert_egr]
@[simp] theorem State.alert_join (b : Nat) (n : Nat) : (s.alert b).join n = s.join n := by rw [State.join, State.join, State.alert_egr]
@[simp] theorem State.alert_port (b : Nat) (n : Nat) : (s.alert b).port n = s.port n := by rw [State.port, State.port, State.alert_twl]
@[simp] theorem State.alert_dirEntry (b : Nat) (n : Nat) : (s.alert b).dirEntry n = s.dirEntry n := by rw [State.dirEntry, State.dirEntry, State.alert_dir]
@[simp] theorem State.alert_tbNow (b : Nat) (n : Nat) : (s.alert b).tbNow n = s.tbNow n := by rw [State.tbNow, State.tbNow, State.alert_tb]

/-! ### alarm -/

/-- All that alarm changes. -/
theorem State.alarm_keeps (c : Irq) (b obj detail : Nat) : Frame ⟨[.awl, .host, .sent], (Irq.alarmRegs c)⟩ s (s.alarm c b obj detail) := by
  apply State.alarm_frame (Frame.refl _ s) <;> simp [Irq.eventRegs, Irq.alarmRegs, awlRegs]

@[simp] theorem State.alarm_pending (c : Irq) (b obj detail : Nat) : (s.alarm c b obj detail).pending = s.pending := (s.alarm_keeps c b obj detail).parts .pending (by decide : Part.pending ∉ ([.awl, .host, .sent] : List Part))
@[simp] theorem State.alarm_resp (c : Irq) (b obj detail : Nat) : (s.alarm c b obj detail).resp = s.resp := (s.alarm_keeps c b obj detail).parts .resp (by decide : Part.resp ∉ ([.awl, .host, .sent] : List Part))
@[simp] theorem State.alarm_rdata (c : Irq) (b obj detail : Nat) : (s.alarm c b obj detail).rdata = s.rdata := (s.alarm_keeps c b obj detail).parts .rdata (by decide : Part.rdata ∉ ([.awl, .host, .sent] : List Part))
@[simp] theorem State.alarm_latchHigh (c : Irq) (b obj detail : Nat) : (s.alarm c b obj detail).latchHigh = s.latchHigh := (s.alarm_keeps c b obj detail).parts .latchHigh (by decide : Part.latchHigh ∉ ([.awl, .host, .sent] : List Part))
@[simp] theorem State.alarm_latchLow (c : Irq) (b obj detail : Nat) : (s.alarm c b obj detail).latchLow = s.latchLow := (s.alarm_keeps c b obj detail).parts .latchLow (by decide : Part.latchLow ∉ ([.awl, .host, .sent] : List Part))
@[simp] theorem State.alarm_freeCtr (c : Irq) (b obj detail : Nat) : (s.alarm c b obj detail).freeCtr = s.freeCtr := (s.alarm_keeps c b obj detail).parts .freeCtr (by decide : Part.freeCtr ∉ ([.awl, .host, .sent] : List Part))
@[simp] theorem State.alarm_tick (c : Irq) (b obj detail : Nat) : (s.alarm c b obj detail).tick = s.tick := (s.alarm_keeps c b obj detail).parts .tick (by decide : Part.tick ∉ ([.awl, .host, .sent] : List Part))
@[simp] theorem State.alarm_tb (c : Irq) (b obj detail : Nat) : (s.alarm c b obj detail).tb = s.tb := (s.alarm_keeps c b obj detail).parts .tb (by decide : Part.tb ∉ ([.awl, .host, .sent] : List Part))
@[simp] theorem State.alarm_ing (c : Irq) (b obj detail : Nat) : (s.alarm c b obj detail).ing = s.ing := (s.alarm_keeps c b obj detail).parts .ing (by decide : Part.ing ∉ ([.awl, .host, .sent] : List Part))
@[simp] theorem State.alarm_twl (c : Irq) (b obj detail : Nat) : (s.alarm c b obj detail).twl = s.twl := (s.alarm_keeps c b obj detail).parts .twl (by decide : Part.twl ∉ ([.awl, .host, .sent] : List Part))
@[simp] theorem State.alarm_nim (c : Irq) (b obj detail : Nat) : (s.alarm c b obj detail).nim = s.nim := (s.alarm_keeps c b obj detail).parts .nim (by decide : Part.nim ∉ ([.awl, .host, .sent] : List Part))
@[simp] theorem State.alarm_tks (c : Irq) (b obj detail : Nat) : (s.alarm c b obj detail).tks = s.tks := (s.alarm_keeps c b obj detail).parts .tks (by decide : Part.tks ∉ ([.awl, .host, .sent] : List Part))
@[simp] theorem State.alarm_egr (c : Irq) (b obj detail : Nat) : (s.alarm c b obj detail).egr = s.egr := (s.alarm_keeps c b obj detail).parts .egr (by decide : Part.egr ∉ ([.awl, .host, .sent] : List Part))
@[simp] theorem State.alarm_twd (c : Irq) (b obj detail : Nat) : (s.alarm c b obj detail).twd = s.twd := (s.alarm_keeps c b obj detail).parts .twd (by decide : Part.twd ∉ ([.awl, .host, .sent] : List Part))
@[simp] theorem State.alarm_asp (c : Irq) (b obj detail : Nat) : (s.alarm c b obj detail).asp = s.asp := (s.alarm_keeps c b obj detail).parts .asp (by decide : Part.asp ∉ ([.awl, .host, .sent] : List Part))
@[simp] theorem State.alarm_vmp (c : Irq) (b obj detail : Nat) : (s.alarm c b obj detail).vmp = s.vmp := (s.alarm_keeps c b obj detail).parts .vmp (by decide : Part.vmp ∉ ([.awl, .host, .sent] : List Part))
@[simp] theorem State.alarm_lst (c : Irq) (b obj detail : Nat) : (s.alarm c b obj detail).lst = s.lst := (s.alarm_keeps c b obj detail).parts .lst (by decide : Part.lst ∉ ([.awl, .host, .sent] : List Part))
@[simp] theorem State.alarm_ntm (c : Irq) (b obj detail : Nat) : (s.alarm c b obj detail).ntm = s.ntm := (s.alarm_keeps c b obj detail).parts .ntm (by decide : Part.ntm ∉ ([.awl, .host, .sent] : List Part))
@[simp] theorem State.alarm_net (c : Irq) (b obj detail : Nat) : (s.alarm c b obj detail).net = s.net := (s.alarm_keeps c b obj detail).parts .net (by decide : Part.net ∉ ([.awl, .host, .sent] : List Part))
@[simp] theorem State.alarm_rsl (c : Irq) (b obj detail : Nat) : (s.alarm c b obj detail).rsl = s.rsl := (s.alarm_keeps c b obj detail).parts .rsl (by decide : Part.rsl ∉ ([.awl, .host, .sent] : List Part))
@[simp] theorem State.alarm_keep (c : Irq) (b obj detail : Nat) : (s.alarm c b obj detail).keep = s.keep := (s.alarm_keeps c b obj detail).parts .keep (by decide : Part.keep ∉ ([.awl, .host, .sent] : List Part))
@[simp] theorem State.alarm_upd (c : Irq) (b obj detail : Nat) : (s.alarm c b obj detail).upd = s.upd := (s.alarm_keeps c b obj detail).parts .upd (by decide : Part.upd ∉ ([.awl, .host, .sent] : List Part))
@[simp] theorem State.alarm_boot (c : Irq) (b obj detail : Nat) : (s.alarm c b obj detail).boot = s.boot := (s.alarm_keeps c b obj detail).parts .boot (by decide : Part.boot ∉ ([.awl, .host, .sent] : List Part))
@[simp] theorem State.alarm_frameStore (c : Irq) (b obj detail : Nat) : (s.alarm c b obj detail).frameStore = s.frameStore := (s.alarm_keeps c b obj detail).parts .frameStore (by decide : Part.frameStore ∉ ([.awl, .host, .sent] : List Part))
@[simp] theorem State.alarm_dir (c : Irq) (b obj detail : Nat) : (s.alarm c b obj detail).dir = s.dir := (s.alarm_keeps c b obj detail).parts .dir (by decide : Part.dir ∉ ([.awl, .host, .sent] : List Part))
theorem State.alarm_reg (c : Irq) (b obj detail : Nat) {r : Reg} (h : r ∉ (Irq.alarmRegs c)) (i : Nat) : (s.alarm c b obj detail).reg r i = s.reg r i := (s.alarm_keeps c b obj detail).regs r i h
theorem State.alarm_fld (c : Irq) (b obj detail : Nat) {g : Fld} (h : g.reg ∉ (Irq.alarmRegs c)) (i : Nat) : (s.alarm c b obj detail).fld g i = s.fld g i := (s.alarm_keeps c b obj detail).fld h i
theorem State.alarm_flag (c : Irq) (b obj detail : Nat) {g : Fld} (h : g.reg ∉ (Irq.alarmRegs c)) (i : Nat) : (s.alarm c b obj detail).flag g i = s.flag g i := (s.alarm_keeps c b obj detail).flag h i
@[simp] theorem State.alarm_input (c : Irq) (b obj detail : Nat) (n : Nat) : (s.alarm c b obj detail).input n = s.input n := by rw [State.input, State.input, State.alarm_ing]
@[simp] theorem State.alarm_svc (c : Irq) (b obj detail : Nat) (n : Nat) : (s.alarm c b obj detail).svc n = s.svc n := by rw [State.svc, State.svc, State.alarm_nim]
@[simp] theorem State.alarm_ctx (c : Irq) (b obj detail : Nat) (n : Nat) : (s.alarm c b obj detail).ctx n = s.ctx n := by rw [State.ctx, State.ctx, State.alarm_nim]
@[simp] theorem State.alarm_twdCore (c : Irq) (b obj detail : Nat) (n : Nat) : (s.alarm c b obj detail).twdCore n = s.twdCore n := by rw [State.twdCore, State.twdCore, State.alarm_twd]
@[simp] theorem State.alarm_pipe (c : Irq) (b obj detail : Nat) (n : Nat) : (s.alarm c b obj detail).pipe n = s.pipe n := by rw [State.pipe, State.pipe, State.alarm_vmp]
@[simp] theorem State.alarm_servo (c : Irq) (b obj detail : Nat) (n : Nat) : (s.alarm c b obj detail).servo n = s.servo n := by rw [State.servo, State.servo, State.alarm_ntm]
@[simp] theorem State.alarm_trg (c : Irq) (b obj detail : Nat) (n : Nat) : (s.alarm c b obj detail).trg n = s.trg n := by rw [State.trg, State.trg, State.alarm_ntm]
@[simp] theorem State.alarm_cap (c : Irq) (b obj detail : Nat) (n : Nat) : (s.alarm c b obj detail).cap n = s.cap n := by rw [State.cap, State.cap, State.alarm_ntm]
@[simp] theorem State.alarm_lane (c : Irq) (b obj detail : Nat) (n : Nat) : (s.alarm c b obj detail).lane n = s.lane n := by rw [State.lane, State.lane, State.alarm_net]
@[simp] theorem State.alarm_link (c : Irq) (b obj detail : Nat) (n : Nat) : (s.alarm c b obj detail).link n = s.link n := by rw [State.link, State.link, State.alarm_net]
@[simp] theorem State.alarm_netPort (c : Irq) (b obj detail : Nat) (n : Nat) : (s.alarm c b obj detail).netPort n = s.netPort n := by rw [State.netPort, State.netPort, State.alarm_net]
@[simp] theorem State.alarm_rxr (c : Irq) (b obj detail : Nat) (n : Nat) : (s.alarm c b obj detail).rxr n = s.rxr n := by rw [State.rxr, State.rxr, State.alarm_net]
@[simp] theorem State.alarm_txr (c : Irq) (b obj detail : Nat) (n : Nat) : (s.alarm c b obj detail).txr n = s.txr n := by rw [State.txr, State.txr, State.alarm_net]
@[simp] theorem State.alarm_clk (c : Irq) (b obj detail : Nat) (n : Nat) : (s.alarm c b obj detail).clk n = s.clk n := by rw [State.clk, State.clk, State.alarm_boot]
@[simp] theorem State.alarm_out (c : Irq) (b obj detail : Nat) (n : Nat) : (s.alarm c b obj detail).out n = s.out n := by rw [State.out, State.out, State.alarm_egr]
@[simp] theorem State.alarm_otd (c : Irq) (b obj detail : Nat) (n : Nat) : (s.alarm c b obj detail).otd n = s.otd n := by rw [State.otd, State.otd, State.alarm_egr]
@[simp] theorem State.alarm_join (c : Irq) (b obj detail : Nat) (n : Nat) : (s.alarm c b obj detail).join n = s.join n := by rw [State.join, State.join, State.alarm_egr]
@[simp] theorem State.alarm_port (c : Irq) (b obj detail : Nat) (n : Nat) : (s.alarm c b obj detail).port n = s.port n := by rw [State.port, State.port, State.alarm_twl]
@[simp] theorem State.alarm_dirEntry (c : Irq) (b obj detail : Nat) (n : Nat) : (s.alarm c b obj detail).dirEntry n = s.dirEntry n := by rw [State.dirEntry, State.dirEntry, State.alarm_dir]
@[simp] theorem State.alarm_tbNow (c : Irq) (b obj detail : Nat) (n : Nat) : (s.alarm c b obj detail).tbNow n = s.tbNow n := by rw [State.tbNow, State.tbNow, State.alarm_tb]

/-! ### The records of objects through register updates, answers and messages -/

@[simp] theorem State.setReg_input (r : Reg) (i : Nat) (v : Word) (k : Nat) : (s.setReg r i v).input k = s.input k := rfl
@[simp] theorem State.setReg_svc (r : Reg) (i : Nat) (v : Word) (k : Nat) : (s.setReg r i v).svc k = s.svc k := rfl
@[simp] theorem State.setReg_ctx (r : Reg) (i : Nat) (v : Word) (k : Nat) : (s.setReg r i v).ctx k = s.ctx k := rfl
@[simp] theorem State.setReg_twdCore (r : Reg) (i : Nat) (v : Word) (k : Nat) : (s.setReg r i v).twdCore k = s.twdCore k := rfl
@[simp] theorem State.setReg_pipe (r : Reg) (i : Nat) (v : Word) (k : Nat) : (s.setReg r i v).pipe k = s.pipe k := rfl
@[simp] theorem State.setReg_servo (r : Reg) (i : Nat) (v : Word) (k : Nat) : (s.setReg r i v).servo k = s.servo k := rfl
@[simp] theorem State.setReg_trg (r : Reg) (i : Nat) (v : Word) (k : Nat) : (s.setReg r i v).trg k = s.trg k := rfl
@[simp] theorem State.setReg_cap (r : Reg) (i : Nat) (v : Word) (k : Nat) : (s.setReg r i v).cap k = s.cap k := rfl
@[simp] theorem State.setReg_lane (r : Reg) (i : Nat) (v : Word) (k : Nat) : (s.setReg r i v).lane k = s.lane k := rfl
@[simp] theorem State.setReg_link (r : Reg) (i : Nat) (v : Word) (k : Nat) : (s.setReg r i v).link k = s.link k := rfl
@[simp] theorem State.setReg_netPort (r : Reg) (i : Nat) (v : Word) (k : Nat) : (s.setReg r i v).netPort k = s.netPort k := rfl
@[simp] theorem State.setReg_rxr (r : Reg) (i : Nat) (v : Word) (k : Nat) : (s.setReg r i v).rxr k = s.rxr k := rfl
@[simp] theorem State.setReg_txr (r : Reg) (i : Nat) (v : Word) (k : Nat) : (s.setReg r i v).txr k = s.txr k := rfl
@[simp] theorem State.setReg_clk (r : Reg) (i : Nat) (v : Word) (k : Nat) : (s.setReg r i v).clk k = s.clk k := rfl
@[simp] theorem State.setReg_out (r : Reg) (i : Nat) (v : Word) (k : Nat) : (s.setReg r i v).out k = s.out k := rfl
@[simp] theorem State.setReg_otd (r : Reg) (i : Nat) (v : Word) (k : Nat) : (s.setReg r i v).otd k = s.otd k := rfl
@[simp] theorem State.setReg_join (r : Reg) (i : Nat) (v : Word) (k : Nat) : (s.setReg r i v).join k = s.join k := rfl
@[simp] theorem State.setReg_port (r : Reg) (i : Nat) (v : Word) (k : Nat) : (s.setReg r i v).port k = s.port k := rfl
@[simp] theorem State.setReg_dirEntry (r : Reg) (i : Nat) (v : Word) (k : Nat) : (s.setReg r i v).dirEntry k = s.dirEntry k := rfl
@[simp] theorem State.setReg_tbNow (r : Reg) (i : Nat) (v : Word) (k : Nat) : (s.setReg r i v).tbNow k = s.tbNow k := rfl
@[simp] theorem State.setFld_input (f : Fld) (i v : Nat) (k : Nat) : (s.setFld f i v).input k = s.input k := rfl
@[simp] theorem State.setFld_svc (f : Fld) (i v : Nat) (k : Nat) : (s.setFld f i v).svc k = s.svc k := rfl
@[simp] theorem State.setFld_ctx (f : Fld) (i v : Nat) (k : Nat) : (s.setFld f i v).ctx k = s.ctx k := rfl
@[simp] theorem State.setFld_twdCore (f : Fld) (i v : Nat) (k : Nat) : (s.setFld f i v).twdCore k = s.twdCore k := rfl
@[simp] theorem State.setFld_pipe (f : Fld) (i v : Nat) (k : Nat) : (s.setFld f i v).pipe k = s.pipe k := rfl
@[simp] theorem State.setFld_servo (f : Fld) (i v : Nat) (k : Nat) : (s.setFld f i v).servo k = s.servo k := rfl
@[simp] theorem State.setFld_trg (f : Fld) (i v : Nat) (k : Nat) : (s.setFld f i v).trg k = s.trg k := rfl
@[simp] theorem State.setFld_cap (f : Fld) (i v : Nat) (k : Nat) : (s.setFld f i v).cap k = s.cap k := rfl
@[simp] theorem State.setFld_lane (f : Fld) (i v : Nat) (k : Nat) : (s.setFld f i v).lane k = s.lane k := rfl
@[simp] theorem State.setFld_link (f : Fld) (i v : Nat) (k : Nat) : (s.setFld f i v).link k = s.link k := rfl
@[simp] theorem State.setFld_netPort (f : Fld) (i v : Nat) (k : Nat) : (s.setFld f i v).netPort k = s.netPort k := rfl
@[simp] theorem State.setFld_rxr (f : Fld) (i v : Nat) (k : Nat) : (s.setFld f i v).rxr k = s.rxr k := rfl
@[simp] theorem State.setFld_txr (f : Fld) (i v : Nat) (k : Nat) : (s.setFld f i v).txr k = s.txr k := rfl
@[simp] theorem State.setFld_clk (f : Fld) (i v : Nat) (k : Nat) : (s.setFld f i v).clk k = s.clk k := rfl
@[simp] theorem State.setFld_out (f : Fld) (i v : Nat) (k : Nat) : (s.setFld f i v).out k = s.out k := rfl
@[simp] theorem State.setFld_otd (f : Fld) (i v : Nat) (k : Nat) : (s.setFld f i v).otd k = s.otd k := rfl
@[simp] theorem State.setFld_join (f : Fld) (i v : Nat) (k : Nat) : (s.setFld f i v).join k = s.join k := rfl
@[simp] theorem State.setFld_port (f : Fld) (i v : Nat) (k : Nat) : (s.setFld f i v).port k = s.port k := rfl
@[simp] theorem State.setFld_dirEntry (f : Fld) (i v : Nat) (k : Nat) : (s.setFld f i v).dirEntry k = s.dirEntry k := rfl
@[simp] theorem State.setFld_tbNow (f : Fld) (i v : Nat) (k : Nat) : (s.setFld f i v).tbNow k = s.tbNow k := rfl
@[simp] theorem State.setFlag_input (f : Fld) (i : Nat) (b : Bool) (k : Nat) : (s.setFlag f i b).input k = s.input k := rfl
@[simp] theorem State.setFlag_svc (f : Fld) (i : Nat) (b : Bool) (k : Nat) : (s.setFlag f i b).svc k = s.svc k := rfl
@[simp] theorem State.setFlag_ctx (f : Fld) (i : Nat) (b : Bool) (k : Nat) : (s.setFlag f i b).ctx k = s.ctx k := rfl
@[simp] theorem State.setFlag_twdCore (f : Fld) (i : Nat) (b : Bool) (k : Nat) : (s.setFlag f i b).twdCore k = s.twdCore k := rfl
@[simp] theorem State.setFlag_pipe (f : Fld) (i : Nat) (b : Bool) (k : Nat) : (s.setFlag f i b).pipe k = s.pipe k := rfl
@[simp] theorem State.setFlag_servo (f : Fld) (i : Nat) (b : Bool) (k : Nat) : (s.setFlag f i b).servo k = s.servo k := rfl
@[simp] theorem State.setFlag_trg (f : Fld) (i : Nat) (b : Bool) (k : Nat) : (s.setFlag f i b).trg k = s.trg k := rfl
@[simp] theorem State.setFlag_cap (f : Fld) (i : Nat) (b : Bool) (k : Nat) : (s.setFlag f i b).cap k = s.cap k := rfl
@[simp] theorem State.setFlag_lane (f : Fld) (i : Nat) (b : Bool) (k : Nat) : (s.setFlag f i b).lane k = s.lane k := rfl
@[simp] theorem State.setFlag_link (f : Fld) (i : Nat) (b : Bool) (k : Nat) : (s.setFlag f i b).link k = s.link k := rfl
@[simp] theorem State.setFlag_netPort (f : Fld) (i : Nat) (b : Bool) (k : Nat) : (s.setFlag f i b).netPort k = s.netPort k := rfl
@[simp] theorem State.setFlag_rxr (f : Fld) (i : Nat) (b : Bool) (k : Nat) : (s.setFlag f i b).rxr k = s.rxr k := rfl
@[simp] theorem State.setFlag_txr (f : Fld) (i : Nat) (b : Bool) (k : Nat) : (s.setFlag f i b).txr k = s.txr k := rfl
@[simp] theorem State.setFlag_clk (f : Fld) (i : Nat) (b : Bool) (k : Nat) : (s.setFlag f i b).clk k = s.clk k := rfl
@[simp] theorem State.setFlag_out (f : Fld) (i : Nat) (b : Bool) (k : Nat) : (s.setFlag f i b).out k = s.out k := rfl
@[simp] theorem State.setFlag_otd (f : Fld) (i : Nat) (b : Bool) (k : Nat) : (s.setFlag f i b).otd k = s.otd k := rfl
@[simp] theorem State.setFlag_join (f : Fld) (i : Nat) (b : Bool) (k : Nat) : (s.setFlag f i b).join k = s.join k := rfl
@[simp] theorem State.setFlag_port (f : Fld) (i : Nat) (b : Bool) (k : Nat) : (s.setFlag f i b).port k = s.port k := rfl
@[simp] theorem State.setFlag_dirEntry (f : Fld) (i : Nat) (b : Bool) (k : Nat) : (s.setFlag f i b).dirEntry k = s.dirEntry k := rfl
@[simp] theorem State.setFlag_tbNow (f : Fld) (i : Nat) (b : Bool) (k : Nat) : (s.setFlag f i b).tbNow k = s.tbNow k := rfl
@[simp] theorem State.count_input (r : Reg) (i n : Nat) (k : Nat) : (s.count r i n).input k = s.input k := rfl
@[simp] theorem State.count_svc (r : Reg) (i n : Nat) (k : Nat) : (s.count r i n).svc k = s.svc k := rfl
@[simp] theorem State.count_ctx (r : Reg) (i n : Nat) (k : Nat) : (s.count r i n).ctx k = s.ctx k := rfl
@[simp] theorem State.count_twdCore (r : Reg) (i n : Nat) (k : Nat) : (s.count r i n).twdCore k = s.twdCore k := rfl
@[simp] theorem State.count_pipe (r : Reg) (i n : Nat) (k : Nat) : (s.count r i n).pipe k = s.pipe k := rfl
@[simp] theorem State.count_servo (r : Reg) (i n : Nat) (k : Nat) : (s.count r i n).servo k = s.servo k := rfl
@[simp] theorem State.count_trg (r : Reg) (i n : Nat) (k : Nat) : (s.count r i n).trg k = s.trg k := rfl
@[simp] theorem State.count_cap (r : Reg) (i n : Nat) (k : Nat) : (s.count r i n).cap k = s.cap k := rfl
@[simp] theorem State.count_lane (r : Reg) (i n : Nat) (k : Nat) : (s.count r i n).lane k = s.lane k := rfl
@[simp] theorem State.count_link (r : Reg) (i n : Nat) (k : Nat) : (s.count r i n).link k = s.link k := rfl
@[simp] theorem State.count_netPort (r : Reg) (i n : Nat) (k : Nat) : (s.count r i n).netPort k = s.netPort k := rfl
@[simp] theorem State.count_rxr (r : Reg) (i n : Nat) (k : Nat) : (s.count r i n).rxr k = s.rxr k := rfl
@[simp] theorem State.count_txr (r : Reg) (i n : Nat) (k : Nat) : (s.count r i n).txr k = s.txr k := rfl
@[simp] theorem State.count_clk (r : Reg) (i n : Nat) (k : Nat) : (s.count r i n).clk k = s.clk k := rfl
@[simp] theorem State.count_out (r : Reg) (i n : Nat) (k : Nat) : (s.count r i n).out k = s.out k := rfl
@[simp] theorem State.count_otd (r : Reg) (i n : Nat) (k : Nat) : (s.count r i n).otd k = s.otd k := rfl
@[simp] theorem State.count_join (r : Reg) (i n : Nat) (k : Nat) : (s.count r i n).join k = s.join k := rfl
@[simp] theorem State.count_port (r : Reg) (i n : Nat) (k : Nat) : (s.count r i n).port k = s.port k := rfl
@[simp] theorem State.count_dirEntry (r : Reg) (i n : Nat) (k : Nat) : (s.count r i n).dirEntry k = s.dirEntry k := rfl
@[simp] theorem State.count_tbNow (r : Reg) (i n : Nat) (k : Nat) : (s.count r i n).tbNow k = s.tbNow k := rfl
@[simp] theorem State.answer_input (st : Status) (k : Nat) : (s.answer st).input k = s.input k := rfl
@[simp] theorem State.answer_svc (st : Status) (k : Nat) : (s.answer st).svc k = s.svc k := rfl
@[simp] theorem State.answer_ctx (st : Status) (k : Nat) : (s.answer st).ctx k = s.ctx k := rfl
@[simp] theorem State.answer_twdCore (st : Status) (k : Nat) : (s.answer st).twdCore k = s.twdCore k := rfl
@[simp] theorem State.answer_pipe (st : Status) (k : Nat) : (s.answer st).pipe k = s.pipe k := rfl
@[simp] theorem State.answer_servo (st : Status) (k : Nat) : (s.answer st).servo k = s.servo k := rfl
@[simp] theorem State.answer_trg (st : Status) (k : Nat) : (s.answer st).trg k = s.trg k := rfl
@[simp] theorem State.answer_cap (st : Status) (k : Nat) : (s.answer st).cap k = s.cap k := rfl
@[simp] theorem State.answer_lane (st : Status) (k : Nat) : (s.answer st).lane k = s.lane k := rfl
@[simp] theorem State.answer_link (st : Status) (k : Nat) : (s.answer st).link k = s.link k := rfl
@[simp] theorem State.answer_netPort (st : Status) (k : Nat) : (s.answer st).netPort k = s.netPort k := rfl
@[simp] theorem State.answer_rxr (st : Status) (k : Nat) : (s.answer st).rxr k = s.rxr k := rfl
@[simp] theorem State.answer_txr (st : Status) (k : Nat) : (s.answer st).txr k = s.txr k := rfl
@[simp] theorem State.answer_clk (st : Status) (k : Nat) : (s.answer st).clk k = s.clk k := rfl
@[simp] theorem State.answer_out (st : Status) (k : Nat) : (s.answer st).out k = s.out k := rfl
@[simp] theorem State.answer_otd (st : Status) (k : Nat) : (s.answer st).otd k = s.otd k := rfl
@[simp] theorem State.answer_join (st : Status) (k : Nat) : (s.answer st).join k = s.join k := rfl
@[simp] theorem State.answer_port (st : Status) (k : Nat) : (s.answer st).port k = s.port k := rfl
@[simp] theorem State.answer_dirEntry (st : Status) (k : Nat) : (s.answer st).dirEntry k = s.dirEntry k := rfl
@[simp] theorem State.answer_tbNow (st : Status) (k : Nat) : (s.answer st).tbNow k = s.tbNow k := rfl
@[simp] theorem State.emit_input (m : OutMsg) (k : Nat) : (s.emit m).input k = s.input k := rfl
@[simp] theorem State.emit_svc (m : OutMsg) (k : Nat) : (s.emit m).svc k = s.svc k := rfl
@[simp] theorem State.emit_ctx (m : OutMsg) (k : Nat) : (s.emit m).ctx k = s.ctx k := rfl
@[simp] theorem State.emit_twdCore (m : OutMsg) (k : Nat) : (s.emit m).twdCore k = s.twdCore k := rfl
@[simp] theorem State.emit_pipe (m : OutMsg) (k : Nat) : (s.emit m).pipe k = s.pipe k := rfl
@[simp] theorem State.emit_servo (m : OutMsg) (k : Nat) : (s.emit m).servo k = s.servo k := rfl
@[simp] theorem State.emit_trg (m : OutMsg) (k : Nat) : (s.emit m).trg k = s.trg k := rfl
@[simp] theorem State.emit_cap (m : OutMsg) (k : Nat) : (s.emit m).cap k = s.cap k := rfl
@[simp] theorem State.emit_lane (m : OutMsg) (k : Nat) : (s.emit m).lane k = s.lane k := rfl
@[simp] theorem State.emit_link (m : OutMsg) (k : Nat) : (s.emit m).link k = s.link k := rfl
@[simp] theorem State.emit_netPort (m : OutMsg) (k : Nat) : (s.emit m).netPort k = s.netPort k := rfl
@[simp] theorem State.emit_rxr (m : OutMsg) (k : Nat) : (s.emit m).rxr k = s.rxr k := rfl
@[simp] theorem State.emit_txr (m : OutMsg) (k : Nat) : (s.emit m).txr k = s.txr k := rfl
@[simp] theorem State.emit_clk (m : OutMsg) (k : Nat) : (s.emit m).clk k = s.clk k := rfl
@[simp] theorem State.emit_out (m : OutMsg) (k : Nat) : (s.emit m).out k = s.out k := rfl
@[simp] theorem State.emit_otd (m : OutMsg) (k : Nat) : (s.emit m).otd k = s.otd k := rfl
@[simp] theorem State.emit_join (m : OutMsg) (k : Nat) : (s.emit m).join k = s.join k := rfl
@[simp] theorem State.emit_port (m : OutMsg) (k : Nat) : (s.emit m).port k = s.port k := rfl
@[simp] theorem State.emit_dirEntry (m : OutMsg) (k : Nat) : (s.emit m).dirEntry k = s.dirEntry k := rfl
@[simp] theorem State.emit_tbNow (m : OutMsg) (k : Nat) : (s.emit m).tbNow k = s.tbNow k := rfl
@[simp] theorem State.drawFree_input  (k : Nat) : (s.drawFree ).input k = s.input k := rfl
@[simp] theorem State.drawFree_svc  (k : Nat) : (s.drawFree ).svc k = s.svc k := rfl
@[simp] theorem State.drawFree_ctx  (k : Nat) : (s.drawFree ).ctx k = s.ctx k := rfl
@[simp] theorem State.drawFree_twdCore  (k : Nat) : (s.drawFree ).twdCore k = s.twdCore k := rfl
@[simp] theorem State.drawFree_pipe  (k : Nat) : (s.drawFree ).pipe k = s.pipe k := rfl
@[simp] theorem State.drawFree_servo  (k : Nat) : (s.drawFree ).servo k = s.servo k := rfl
@[simp] theorem State.drawFree_trg  (k : Nat) : (s.drawFree ).trg k = s.trg k := rfl
@[simp] theorem State.drawFree_cap  (k : Nat) : (s.drawFree ).cap k = s.cap k := rfl
@[simp] theorem State.drawFree_lane  (k : Nat) : (s.drawFree ).lane k = s.lane k := rfl
@[simp] theorem State.drawFree_link  (k : Nat) : (s.drawFree ).link k = s.link k := rfl
@[simp] theorem State.drawFree_netPort  (k : Nat) : (s.drawFree ).netPort k = s.netPort k := rfl
@[simp] theorem State.drawFree_rxr  (k : Nat) : (s.drawFree ).rxr k = s.rxr k := rfl
@[simp] theorem State.drawFree_txr  (k : Nat) : (s.drawFree ).txr k = s.txr k := rfl
@[simp] theorem State.drawFree_clk  (k : Nat) : (s.drawFree ).clk k = s.clk k := rfl
@[simp] theorem State.drawFree_out  (k : Nat) : (s.drawFree ).out k = s.out k := rfl
@[simp] theorem State.drawFree_otd  (k : Nat) : (s.drawFree ).otd k = s.otd k := rfl
@[simp] theorem State.drawFree_join  (k : Nat) : (s.drawFree ).join k = s.join k := rfl
@[simp] theorem State.drawFree_port  (k : Nat) : (s.drawFree ).port k = s.port k := rfl
@[simp] theorem State.drawFree_dirEntry  (k : Nat) : (s.drawFree ).dirEntry k = s.dirEntry k := rfl
@[simp] theorem State.drawFree_tbNow  (k : Nat) : (s.drawFree ).tbNow k = s.tbNow k := rfl

/-! ### Stores -/

@[simp] theorem State.store_resp (r : Reg) (i : Nat) (v : Word) : (s.store r i v).resp = .OK := rfl

theorem State.reg_store_same (r : Reg) (i : Nat) (v : Word) : (s.store r i v).reg r i = s.stored r i v := by
  unfold State.store
  rw [State.answer_reg, State.reg_setReg_same]
  rfl

theorem State.reg_store_ne {r q : Reg} (h : q ≠ r) (i j : Nat) (v : Word) : (s.store r i v).reg q j = s.reg q j :=
  State.reg_setReg_other s h i j _

theorem State.fld_store_ne {r : Reg} {g : Fld} (h : g.reg ≠ r) (i j : Nat) (v : Word) : (s.store r i v).fld g j = s.fld g j :=
  State.fld_setReg_ne s h i j _

theorem State.flag_store_ne {r : Reg} {g : Fld} (h : g.reg ≠ r) (i j : Nat) (v : Word) : (s.store r i v).flag g j = s.flag g j :=
  State.flag_setReg_ne s h i j _

/-- A stored field reads as written when all its bits are writable. -/
theorem State.fld_store_same {g : Fld} (i : Nat) (v : Word) (hw : g.lo + g.len ≤ g.reg.width)
    (hm : ∀ k < g.len, (BitVec.ofNat 64 g.reg.info.mask).getLsbD (g.lo + k) = true) : (s.store g.reg i v).fld g i = g.of v := by
  have hw' := g.reg.width_le
  apply Nat.eq_of_testBit_eq
  intro k
  rw [State.fld, State.reg_store_same, State.stored, Fld.of, bits_testBit, bits_testBit]
  by_cases hk : k < g.len
  · rw [Reg.fit_getLsbD _ _ _ (by omega), BitVec.getLsbD_or, BitVec.getLsbD_and, BitVec.getLsbD_and, BitVec.getLsbD_not, hm k hk]
    simp [hk, show g.lo + k < g.reg.width by omega]
  · simp [hk]

@[simp] theorem State.store_input (r : Reg) (i : Nat) (v : Word) (k : Nat) : (s.store r i v).input k = s.input k := rfl
@[simp] theorem State.store_svc (r : Reg) (i : Nat) (v : Word) (k : Nat) : (s.store r i v).svc k = s.svc k := rfl
@[simp] theorem State.store_ctx (r : Reg) (i : Nat) (v : Word) (k : Nat) : (s.store r i v).ctx k = s.ctx k := rfl
@[simp] theorem State.store_twdCore (r : Reg) (i : Nat) (v : Word) (k : Nat) : (s.store r i v).twdCore k = s.twdCore k := rfl
@[simp] theorem State.store_pipe (r : Reg) (i : Nat) (v : Word) (k : Nat) : (s.store r i v).pipe k = s.pipe k := rfl
@[simp] theorem State.store_servo (r : Reg) (i : Nat) (v : Word) (k : Nat) : (s.store r i v).servo k = s.servo k := rfl
@[simp] theorem State.store_trg (r : Reg) (i : Nat) (v : Word) (k : Nat) : (s.store r i v).trg k = s.trg k := rfl
@[simp] theorem State.store_cap (r : Reg) (i : Nat) (v : Word) (k : Nat) : (s.store r i v).cap k = s.cap k := rfl
@[simp] theorem State.store_lane (r : Reg) (i : Nat) (v : Word) (k : Nat) : (s.store r i v).lane k = s.lane k := rfl
@[simp] theorem State.store_link (r : Reg) (i : Nat) (v : Word) (k : Nat) : (s.store r i v).link k = s.link k := rfl
@[simp] theorem State.store_netPort (r : Reg) (i : Nat) (v : Word) (k : Nat) : (s.store r i v).netPort k = s.netPort k := rfl
@[simp] theorem State.store_rxr (r : Reg) (i : Nat) (v : Word) (k : Nat) : (s.store r i v).rxr k = s.rxr k := rfl
@[simp] theorem State.store_txr (r : Reg) (i : Nat) (v : Word) (k : Nat) : (s.store r i v).txr k = s.txr k := rfl
@[simp] theorem State.store_clk (r : Reg) (i : Nat) (v : Word) (k : Nat) : (s.store r i v).clk k = s.clk k := rfl
@[simp] theorem State.store_out (r : Reg) (i : Nat) (v : Word) (k : Nat) : (s.store r i v).out k = s.out k := rfl
@[simp] theorem State.store_otd (r : Reg) (i : Nat) (v : Word) (k : Nat) : (s.store r i v).otd k = s.otd k := rfl
@[simp] theorem State.store_join (r : Reg) (i : Nat) (v : Word) (k : Nat) : (s.store r i v).join k = s.join k := rfl
@[simp] theorem State.store_port (r : Reg) (i : Nat) (v : Word) (k : Nat) : (s.store r i v).port k = s.port k := rfl
@[simp] theorem State.store_dirEntry (r : Reg) (i : Nat) (v : Word) (k : Nat) : (s.store r i v).dirEntry k = s.dirEntry k := rfl
@[simp] theorem State.store_tbNow (r : Reg) (i : Nat) (v : Word) (k : Nat) : (s.store r i v).tbNow k = s.tbNow k := rfl
@[simp] theorem State.store_pending (r : Reg) (i : Nat) (v : Word) : (s.store r i v).pending = s.pending := rfl
@[simp] theorem State.store_rdata (r : Reg) (i : Nat) (v : Word) : (s.store r i v).rdata = s.rdata := rfl
@[simp] theorem State.store_latchHigh (r : Reg) (i : Nat) (v : Word) : (s.store r i v).latchHigh = s.latchHigh := rfl
@[simp] theorem State.store_latchLow (r : Reg) (i : Nat) (v : Word) : (s.store r i v).latchLow = s.latchLow := rfl
@[simp] theorem State.store_freeCtr (r : Reg) (i : Nat) (v : Word) : (s.store r i v).freeCtr = s.freeCtr := rfl
@[simp] theorem State.store_sent (r : Reg) (i : Nat) (v : Word) : (s.store r i v).sent = s.sent := rfl
@[simp] theorem State.store_tick (r : Reg) (i : Nat) (v : Word) : (s.store r i v).tick = s.tick := rfl
@[simp] theorem State.store_tb (r : Reg) (i : Nat) (v : Word) : (s.store r i v).tb = s.tb := rfl
@[simp] theorem State.store_host (r : Reg) (i : Nat) (v : Word) : (s.store r i v).host = s.host := rfl
@[simp] theorem State.store_awl (r : Reg) (i : Nat) (v : Word) : (s.store r i v).awl = s.awl := rfl
@[simp] theorem State.store_ing (r : Reg) (i : Nat) (v : Word) : (s.store r i v).ing = s.ing := rfl
@[simp] theorem State.store_twl (r : Reg) (i : Nat) (v : Word) : (s.store r i v).twl = s.twl := rfl
@[simp] theorem State.store_nim (r : Reg) (i : Nat) (v : Word) : (s.store r i v).nim = s.nim := rfl
@[simp] theorem State.store_tks (r : Reg) (i : Nat) (v : Word) : (s.store r i v).tks = s.tks := rfl
@[simp] theorem State.store_egr (r : Reg) (i : Nat) (v : Word) : (s.store r i v).egr = s.egr := rfl
@[simp] theorem State.store_twd (r : Reg) (i : Nat) (v : Word) : (s.store r i v).twd = s.twd := rfl
@[simp] theorem State.store_asp (r : Reg) (i : Nat) (v : Word) : (s.store r i v).asp = s.asp := rfl
@[simp] theorem State.store_vmp (r : Reg) (i : Nat) (v : Word) : (s.store r i v).vmp = s.vmp := rfl
@[simp] theorem State.store_lst (r : Reg) (i : Nat) (v : Word) : (s.store r i v).lst = s.lst := rfl
@[simp] theorem State.store_ntm (r : Reg) (i : Nat) (v : Word) : (s.store r i v).ntm = s.ntm := rfl
@[simp] theorem State.store_net (r : Reg) (i : Nat) (v : Word) : (s.store r i v).net = s.net := rfl
@[simp] theorem State.store_rsl (r : Reg) (i : Nat) (v : Word) : (s.store r i v).rsl = s.rsl := rfl
@[simp] theorem State.store_keep (r : Reg) (i : Nat) (v : Word) : (s.store r i v).keep = s.keep := rfl
@[simp] theorem State.store_upd (r : Reg) (i : Nat) (v : Word) : (s.store r i v).upd = s.upd := rfl
@[simp] theorem State.store_boot (r : Reg) (i : Nat) (v : Word) : (s.store r i v).boot = s.boot := rfl
@[simp] theorem State.store_frameStore (r : Reg) (i : Nat) (v : Word) : (s.store r i v).frameStore = s.frameStore := rfl
@[simp] theorem State.store_dir (r : Reg) (i : Nat) (v : Word) : (s.store r i v).dir = s.dir := rfl

end Sys2Proof.Machine
end

