-- ==== Sys2Proof/Laws/Nimade.lean ====
section
/-! SUPPORT. What an instruction of a Nimade core does once it issues (R283 to R289). -/

namespace Sys2Proof.Machine

variable {s : State} {c : NimCtx}

@[simp] theorem State.ctx_setCtx_same (x : Nat) (c : NimCtx) : (s.setCtx x c).ctx x = c := by
  simp [State.ctx, State.setCtx]

theorem State.ctx_setCtx_ne {x y : Nat} (c : NimCtx) (h : y ≠ x) : (s.setCtx x c).ctx y = s.ctx y := by
  simp [State.ctx, State.setCtx, Tbl.get_set_other _ _ _ _ _ h]

@[simp] theorem State.setCtx_regs (x : Nat) (c : NimCtx) : (s.setCtx x c).regs = s.regs := rfl

@[simp] theorem NimCtx.issue_g (pg : Nat) (i : Issue) (w lat : Nat) : (c.issue pg i w lat).g = c.g := rfl
@[simp] theorem NimCtx.issue_p (pg : Nat) (i : Issue) (w lat : Nat) : (c.issue pg i w lat).p = c.p := rfl
@[simp] theorem NimCtx.issue_pc (pg : Nat) (i : Issue) (w lat : Nat) : (c.issue pg i w lat).pc = c.pc + 1 := rfl
@[simp] theorem NimCtx.issue_loc (pg : Nat) (i : Issue) (w lat : Nat) : (c.issue pg i w lat).loc = c.loc := rfl
@[simp] theorem NimCtx.issue_reg (pg : Nat) (i : Issue) (w lat r : Nat) : (c.issue pg i w lat).reg r = c.reg r := rfl
@[simp] theorem NimCtx.issue_pred (pg : Nat) (i : Issue) (w lat r : Nat) : (c.issue pg i w lat).pred r = c.pred r := rfl

@[simp] theorem NimCtx.setReg_p (r : Nat) (v : Word) : (c.setReg r v).p = c.p := by unfold NimCtx.setReg; split <;> rfl
@[simp] theorem NimCtx.setReg_pc (r : Nat) (v : Word) : (c.setReg r v).pc = c.pc := by unfold NimCtx.setReg; split <;> rfl
@[simp] theorem NimCtx.setPred_g (r : Nat) (b : Bool) : (c.setPred r b).g = c.g := by unfold NimCtx.setPred; split <;> rfl
@[simp] theorem NimCtx.setPred_pc (r : Nat) (b : Bool) : (c.setPred r b).pc = c.pc := by unfold NimCtx.setPred; split <;> rfl

/-- A general register reads what was written to it, and g0 reads 0 (Table 06.1). -/
theorem NimCtx.reg_setReg_same (r : Nat) (v : Word) : (c.setReg r v).reg r = if r = 0 then 0 else v := by
  unfold NimCtx.setReg NimCtx.reg
  split <;> simp_all

theorem NimCtx.reg_setReg_ne {r q : Nat} (v : Word) (h : q ≠ r) : (c.setReg r v).reg q = c.reg q := by
  unfold NimCtx.setReg NimCtx.reg
  by_cases hr : r = 0
  · simp [hr]
  · simp [hr, Tbl.get_set_other _ _ _ _ _ h]

/-- A predicate reads what was written to it, and p0 reads 1 (Table 06.1). -/
theorem NimCtx.pred_setPred_same {r : Nat} (b : Bool) (h : r < 8) : (c.setPred r b).pred r = if r = 0 then true else b := by
  unfold NimCtx.setPred NimCtx.pred
  by_cases hr : r = 0
  · simp [hr]
  · cases b <;> simp [hr, h, BitVec.getLsbD_twoPow]

theorem NimCtx.pred_setPred_ne {r q : Nat} (b : Bool) (h : q ≠ r) (hq : q < 8) : (c.setPred r b).pred q = c.pred q := by
  unfold NimCtx.setPred NimCtx.pred
  by_cases hr : r = 0
  · simp [hr]
  · cases b <;> simp [hr, BitVec.getLsbD_twoPow, h, hq]

/-- What a core does with an instruction that issues on context x. -/
theorem State.onCore_issues {a : NimAt} {undef : Bool} {i : NimCtx → Issue} {x : Nat} (k : Nat → NimCtx → Except Trap State)
    (h : s.issues a (i (s.ctx x)) x) (hu : undef = false) :
    s.onCore a undef i k = match k x (s.ctx x) with | .ok t => t | .error e => s.trapCtx x e := by
  obtain ⟨h1, h2, h3, h4⟩ := h
  have hn : (a.pg.val == 0 && a.neg) = false := by
    cases hp : a.neg
    · simp
    · have : a.pg.val ≠ 0 := fun h0 => h3 (by simp [hp, NimCtx.pred, h0])
      simp [this]
  unfold State.onCore
  rw [h1]
  simp [Nat.not_le.mpr h2, hn, hu, h3, h4] <;> cases k x (s.ctx x) <;> rfl

/-- An integer instruction that issues writes its register and nothing else (R289). -/
theorem State.alu_issues {a : NimAt} {undef : Bool} {reads : List Nat} {rd lat x : Nat} (f : NimCtx → Word)
    (h : s.issues a ⟨some false, reads, 1⟩ x) (hu : undef = false) : s.writesReg (s.alu a undef reads rd lat f) x rd (f (s.ctx x)) := by
  unfold State.alu
  rw [State.onCore_issues (i := fun _ => ⟨some false, reads, 1⟩) _ h hu]
  refine ⟨?_, fun r _ hr => ?_, ?_, ?_, fun y _ hy => ?_, rfl⟩
  · rw [State.ctx_setCtx_same, NimCtx.reg_setReg_same]
  · rw [State.ctx_setCtx_same, NimCtx.reg_setReg_ne _ hr, NimCtx.issue_reg]
  · rw [State.ctx_setCtx_same, NimCtx.setReg_p, NimCtx.issue_p]
  · rw [State.ctx_setCtx_same, NimCtx.setReg_pc, NimCtx.issue_pc]
  · exact State.ctx_setCtx_ne _ hy

/-- A predicate instruction that issues writes its predicate and nothing else (R289). -/
theorem State.alup_issues {a : NimAt} {undef : Bool} {reads : List Nat} {pd x : Nat} (f : NimCtx → Bool) (hp : pd < 8)
    (h : s.issues a ⟨some false, reads, 1⟩ x) (hu : undef = false) : s.writesPred (s.alup a undef reads pd f) x pd (f (s.ctx x)) := by
  unfold State.alup
  rw [State.onCore_issues (i := fun _ => ⟨some false, reads, 1⟩) _ h hu]
  refine ⟨?_, fun r hr hn => ?_, ?_, ?_, fun y _ hy => ?_, rfl⟩
  · rw [State.ctx_setCtx_same, NimCtx.pred_setPred_same _ hp]
  · rw [State.ctx_setCtx_same, NimCtx.pred_setPred_ne _ hn hr, NimCtx.issue_pred]
  · rw [State.ctx_setCtx_same, NimCtx.setPred_g, NimCtx.issue_g]
  · rw [State.ctx_setCtx_same, NimCtx.setPred_pc, NimCtx.issue_pc]
  · exact State.ctx_setCtx_ne _ hy

end Sys2Proof.Machine
end

