-- ==== Sys2Proof/WellFormed.lean ====
section
/-! DEFINITION. Which commands are well formed: the operands that are numbers or records lie in the ranges that the spec gives
them. The ranges of operands that are registers, ports or lanes are in their types. -/

namespace Sys2Proof.Machine

/-- A journal key: the origin part's domain identifier and a 64-bit SEQ (R245, R254). -/
def Key.wf (k : Key) : Bool := decide (k.origin < 1024 ∧ k.seq < 2 ^ 64)

/-- A picture form: a format code of 8 bits, a sampling and a depth of Table 02.12. -/
def Form.wf (f : Form) : Bool := decide (f.code < 256 ∧ f.sampling < 3 ∧ f.depth < 3)

/-- A measured structure names a format code of 8 bits (R40). -/
def FrameMeas.wf (m : FrameMeas) : Bool := decide (m.code < 256)

/-- An ST 352 payload ID states a code, a sampling, a depth and a link of Table 02.12 (R39). -/
def pidWf : Option Pid → Bool
  | some p => decide (p.code < 256 ∧ p.sampling < 4 ∧ p.depth < 4 ∧ p.link < 4)
  | none => true

/-- A received frame's VLAN identifier has 12 bits (R506). -/
def RxFrame.wf (f : RxFrame) : Bool :=
  match f.vlan with
  | some v => decide (v < 4096)
  | none => true

/-- A route request names a flow of 19 bits, and each stream's ways in and out of the part are logical slice-ports (R91, R122). -/
def RouteHop.wf (h : RouteHop) : Bool :=
  decide (h.flow < 2 ^ 19) && (h.ingress.all fun (l : List Nat) => l.all fun p => decide (p < 168)) && h.egress.all fun p => decide (p < 168)

/-- A directory update names an origin part and a flow of 19 bits (R122, R126). -/
def DirUpdate.wf (u : DirUpdate) : Bool := decide (u.origin < 1024 ∧ u.flow < 2 ^ 19)

/-- A cross-check record names an output (R175). -/
def XchkRec.wf (r : XchkRec) : Bool := decide (r.out < 128)

/-- A submission queue entry: a 64-bit SEQ and a 32-bit TAG (Table 06.4). -/
def Sqe.wf (e : Sqe) : Bool := decide (e.seq < 2 ^ 64 ∧ e.tag < 2 ^ 32)

/-- The widths of an image header's numbers (Table 17.2). -/
def ImgHeader.wf (h : ImgHeader) : Bool :=
  decide (h.version < 2 ^ 32 ∧ h.floorReq < 2 ^ 32 ∧ h.setFormat < 2 ^ 16 ∧ h.mramFmt < 2 ^ 16 ∧
    h.pairLevel < 2 ^ 16 ∧ h.bodyLen < 2 ^ 32)

end Sys2Proof.Machine

namespace Sys2Proof

open Sys2Proof.Machine

/-- Whether a command's operands lie in the ranges of the spec. -/
def Instr.wellFormed : Instr → Bool
  | .registerWrite _ _ _ _ _ => true
  | .readClear _ _ _ => true
  | .latchedRead64 _ _ _ => true
  | .sdiRateHuntDwell _ => true
  | .sdiLock _ => true
  | .sdiLockLossTimeout _ => true
  | .sdiLineReceive _ _ _ => true
  | .trsLoss _ => true
  | .sdiFrameEnd _ m pid _ => m.wf && pidWf pid
  | .networkFrameReceive _ f => f.wf
  | .videoFrameClose _ _ form _ => form.wf
  | .legSilence _ _ => true
  | .packetLossTimeout _ => true
  | .syncReadInterrupt _ => true
  | .inputEnable _ _ _ => true
  | .inputDisable _ _ => true
  | .inputKill _ _ => true
  | .inputDrainDone _ => true
  | .inputModeChange _ _ _ => true
  | .inputDomainChange _ _ _ => true
  | .delayFramesChange _ _ _ => true
  | .videoFlowBinding _ _ _ => true
  | .pdMaxWrite _ _ _ => true
  | .audioContextBinding _ _ _ => true
  | .audioOffsetWrite _ _ _ => true
  | .ancContextBinding _ _ _ => true
  | .sdiCfgWrite _ _ _ => true
  | .poolPagesWrite _ _ => true
  | .ingressDisable _ => true
  | .cellReceive _ _ _ _ _ _ _ view => view.all fun x => decide (x.1 < 1024)
  | .calendarSlot _ _ _ => true
  | .calendarPeriodBoundary => true
  | .routeRequest h => h.wf
  | .routeHoldTimeout _ => true
  | .holdReleaseReport _ => true
  | .routeSettle _ => true
  | .arbitratedQueueOpen _ _ _ _ => true
  | .arbitratedCellEnqueue _ _ _ => true
  | .linkControlCell _ _ lost _ => match lost with | some l => decide (l.2 < 2 ^ 16) | none => true
  | .rerouteStream _ _ h => h.wf
  | .dirRead _ => true
  | .dirWrite _ _ => true
  | .dirWithdraw _ => true
  | .dirUpdateReceive u _ => u.wf
  | .dirMissingRequestReceive part _ => decide (part < 1024)
  | .dirAckReceive part _ _ => decide (part < 1024)
  | .dirAckTimeout _ => true
  | .dirResyncStart origins => origins.all fun o => decide (o < 1024)
  | .dirResyncAnswer origin _ _ updates ovf => decide (origin < 1024) && updates.all DirUpdate.wf && ovf.all fun f => decide (f < 2 ^ 19)
  | .dirResyncOriginTimeout origin => decide (origin < 1024)
  | .slicePortSwap _ _ _ => true
  | .slicePortSwapBack _ _ _ => true
  | .swapSpareFail => true
  | .slicePortFail _ => true
  | .twillDisable _ => true
  | .twillDrainDone => true
  | .twillKill _ _ => true
  | .v6PrefixWrite _ _ _ _ => true
  | .take _ _ _ _ _ _ _ => true
  | .salvo _ _ _ _ _ _ views => decide (views.length ≤ 128)
  | .forwardedTake key salvoId _ time _ => key.wf && decide (salvoId < 2 ^ 64) && decide (time < 2 ^ 64)
  | .partnerAdmissionResult key sig _ _ => key.wf && decide (sig < 24)
  | .takeArmed key sig _ => key.wf && decide (sig < 24)
  | .switchPoint _ => true
  | .takeRouteLost key sig _ _ => key.wf && decide (sig < 24)
  | .routeRetry _ _ => true
  | .xchkRecordReceive r => r.wf
  | .selfCheckDone _ => true
  | .selfCheckResultReceive _ => true
  | .selfCheckResultTimeout => true
  | .partnerSilence => true
  | .otdFrameBoundary _ _ _ => true
  | .otdConfigWrite _ _ _ => true
  | .otdPhaseWrite _ _ _ => true
  | .outputEnable _ _ _ => true
  | .outputDisable _ _ => true
  | .outputKill _ _ => true
  | .outputDrainDone _ => true
  | .outputLine _ _ _ _ => true
  | .overrideWrite _ _ _ _ => true
  | .patternGenConfig _ _ _ => true
  | .identWrite _ _ _ _ => true
  | .outAudioWrite _ _ _ => true
  | .outSdiBond _ _ _ => true
  | .videoSenderBind _ _ _ _ => true
  | .sourceSenderSrc _ _ _ _ => true
  | .audioSenderBind _ _ _ _ => true
  | .ancSenderBind _ _ _ => true
  | .videoPacketSend _ _ _ _ => true
  | .audioPacketSend _ _ => true
  | .ancPacketSend _ _ _ => true
  | .senderStop _ _ _ => true
  | .joinEntrySet _ _ _ _ => true
  | .joinEntryClear _ _ => true
  | .joinRepeatTimer _ => true
  | .joinStallTimeout _ => true
  | .joinQueryReceive _ _ => true
  | .joinQueryReport _ => true
  | .joinOldQuerier _ => true
  | .joinOldQuerierTimeout _ => true
  | .healthRiseTimer _ => true
  | .healthReleaseWrite _ _ _ => true
  | .egressDisable _ => true
  | .sqDoorbell _ _ _ => true
  | .submissionAccept _ e => e.wf
  | .cqDoorbell _ _ _ => true
  | .journalMirrorReceive e => e.key.wf
  | .journalMirrorReply key _ => key.wf
  | .journalResendTimer key => key.wf
  | .frontierSend => true
  | .frontierReceive time done => decide (time < 2 ^ 64) && done.all Key.wf
  | .entryStart key _ => key.wf
  | .budgetTrap _ => true
  | .journalEntryFree => true
  | .journalReplay _ entries => entries.all fun (e : JEntry) => e.key.wf
  | .warmResetAnnounce => true
  | .warmWaitTimeout => true
  | .journalReconcile entries lacks => (entries.all fun (e : JEntry) => e.key.wf) && lacks.all Key.wf
  | .partnerRejoin _ applied entries => (applied.all fun (x : Applied) => x.key.wf) && entries.all fun (e : JEntry) => e.key.wf
  | .nimDisable _ => true
  | .nimKill _ => true
  | .nimDrainDone => true
  | .serviceStart _ => true
  | .serviceRestart _ => true
  | .pairModeWrite _ _ _ _ _ => true
  | .nimAdd _ _ _ _ => true
  | .nimSub _ _ _ _ => true
  | .nimAnd _ _ _ _ => true
  | .nimOr _ _ _ _ => true
  | .nimXor _ _ _ _ => true
  | .nimSll _ _ _ _ => true
  | .nimSrl _ _ _ _ => true
  | .nimSra _ _ _ _ => true
  | .nimMul _ _ _ _ => true
  | .nimMulhu _ _ _ _ => true
  | .nimDivu _ _ _ _ => true
  | .nimRemu _ _ _ _ => true
  | .nimMinu _ _ _ _ => true
  | .nimMaxu _ _ _ _ => true
  | .nimMin _ _ _ _ => true
  | .nimMax _ _ _ _ => true
  | .nimSxb _ _ _ => true
  | .nimSxh _ _ _ => true
  | .nimSxw _ _ _ => true
  | .nimClz _ _ _ => true
  | .nimPopc _ _ _ => true
  | .nimRdst _ _ => true
  | .nimAddi _ _ _ _ => true
  | .nimAndi _ _ _ _ => true
  | .nimOri _ _ _ _ => true
  | .nimXori _ _ _ _ => true
  | .nimSlli _ _ _ _ => true
  | .nimSrli _ _ _ _ => true
  | .nimSrai _ _ _ _ => true
  | .nimLdi _ _ _ => true
  | .nimLdk _ _ _ => true
  | .nimCmp _ _ _ _ _ => true
  | .nimCmpi _ _ _ _ _ => true
  | .nimPand _ _ _ _ => true
  | .nimPor _ _ _ _ => true
  | .nimPxor _ _ _ _ => true
  | .nimPandn _ _ _ _ => true
  | .nimBr _ _ => true
  | .nimCall _ _ => true
  | .nimJr _ _ _ _ _ => true
  | .nimLcall _ _ => true
  | .nimLd _ _ _ _ _ _ => true
  | .nimSt _ _ _ _ _ _ => true
  | .nimAmoAdd _ _ _ _ => true
  | .nimAmoSwap _ _ _ _ => true
  | .nimAmoCas _ _ _ _ => true
  | .nimBld _ _ _ _ _ => true
  | .nimBst _ _ _ _ _ _ => true
  | .nimBfence _ _ => true
  | .nimFlowWrite _ _ _ _ _ _ _ => true
  | .nimFlowWithdraw _ _ _ _ _ _ => true
  | .nimLayer _ _ _ _ _ _ => true
  | .nimCommit _ _ _ _ _ _ => true
  | .nimRdt _ _ _ => true
  | .nimNspSwitchPoint _ _ _ _ => true
  | .nimNspFrameBoundary _ _ _ _ => true
  | .nimJsub _ _ _ _ _ _ => true
  | .nimJinfo _ _ _ => true
  | .nimPost _ _ _ _ => true
  | .nimSend _ _ _ _ _ => true
  | .nimReply _ _ _ _ => true
  | .nimRecvMsg _ _ _ => true
  | .nimRecvTake _ _ _ => true
  | .nimRecvDone _ _ _ => true
  | .nimRecvRing _ _ _ => true
  | .nimXmit _ _ _ _ _ => true
  | .nimWait _ _ _ _ _ => true
  | .nimWaitWake _ => true
  | .nimYield _ _ => true
  | .nimHalt _ => true
  | .nimNop _ => true
  | .nimSignalPlaneResult key sig _ _ => key.wf && decide (sig < 24)
  | .tweedSampleWrite _ _ _ _ _ _ => true
  | .tweedRunStart _ _ _ => true
  | .tweedRunDeadline _ _ => true
  | .tweedBlockPresent _ ramps => ramps.all fun r => decide (r.2.1.length ≤ 16 ∧ r.2.2.length ≤ 16)
  | .tweedApplyArm _ _ _ => true
  | .twdImemWrite _ _ _ _ => true
  | .twdPlaceWrite _ _ _ _ => true
  | .twdFollowWrite _ _ _ => true
  | .bundleSenderWrite _ _ _ _ => true
  | .bundleReceiverWrite _ _ _ _ => true
  | .tweedScrub corrected _ => decide (corrected < 2 ^ 32)
  | .tweedCoreSwap _ _ => true
  | .tweedDisable _ => true
  | .tweedKill _ => true
  | .twdNop _ _ => true
  | .twdMac _ _ _ _ _ _ => true
  | .twdMsu _ _ _ _ _ _ => true
  | .twdMpy _ _ _ _ _ _ => true
  | .twdQmac _ _ _ _ _ _ => true
  | .twdQmsu _ _ _ _ _ _ => true
  | .twdQmpy _ _ _ _ _ _ => true
  | .twdClr _ _ _ => true
  | .twdRnd _ _ _ _ _ _ => true
  | .twdVadd _ _ _ _ _ => true
  | .twdVsub _ _ _ _ _ => true
  | .twdVmov _ _ _ _ => true
  | .twdVbc _ _ _ _ _ => true
  | .twdVtoa _ _ _ _ => true
  | .twdLoop _ _ _ _ => true
  | .twdLpr _ _ _ _ _ => true
  | .twdBr _ _ _ => true
  | .twdSetx _ _ _ _ => true
  | .twdSety _ _ _ _ => true
  | .twdEob _ _ => true
  | .twdVld _ _ _ _ => true
  | .twdVst _ _ _ _ => true
  | .twdVbl _ _ _ _ => true
  | .aspEnable _ _ _ _ => true
  | .aspDisable _ _ _ => true
  | .aspKill _ _ _ => true
  | .aspArm _ _ _ => true
  | .aspMaskWrite _ _ _ _ => true
  | .aspFrameStart _ _ _ frame _ => decide (frame.length ≤ 16)
  | .aspBckMissing _ _ => true
  | .aspWsMissing _ _ => true
  | .aspClockFault _ _ _ => true
  | .aspResync _ _ => true
  | .aspRateChange _ _ _ => true
  | .aspDataStart _ _ => true
  | .aspTailDone _ _ => true
  | .pipeEnable _ _ _ => true
  | .pipeDisable _ _ => true
  | .pipeKill _ _ => true
  | .pipeDrainDone _ => true
  | .surfaceConfigWrite _ _ _ => true
  | .surfGenApply => true
  | .bar2Access off write => match write with | some b => decide (0 < b.length ∧ off.toNat + b.length ≤ 2 ^ 36) | none => true
  | .vampDisable _ => true
  | .lastEvaluation _ => true
  | .refLossDetect _ _ => true
  | .refValid _ => true
  | .refQualify _ => true
  | .slewStep _ => true
  | .lastLock => true
  | .holdoverLost => true
  | .loopOpen _ => true
  | .loopClose _ => true
  | .steerWrite _ _ => true
  | .refCfgWrite _ _ _ => true
  | .oscHoldFail => true
  | .refclkFail _ => true
  | .laneClockUnqual _ => true
  | .ageingRecord _ => true
  | .ageingReplan => true
  | .tbSet _ _ => true
  | .tbStep _ _ => true
  | .tbModeWrite _ _ _ => true
  | .ptpMessageReceive _ m f => f.wf && decide (m.domain < 256 ∧ m.clock < 2 ^ 64 ∧ m.port < 2 ^ 16 ∧ m.seq < 2 ^ 16)
  | .srvFeedWrite _ _ _ => true
  | .ptpAnnounceSend _ _ => true
  | .ptpSyncSend _ _ => true
  | .ptpDelayReqSend _ _ tx => decide (tx < 2 ^ 96)
  | .ptpPdelayReqSend _ _ tx => decide (tx < 2 ^ 96)
  | .announceTimeout _ _ => true
  | .servoSamplesStop _ => true
  | .ptpPortStateWrite _ _ _ _ => true
  | .alignEdge _ => true
  | .triggerArm _ _ _ => true
  | .triggerFire _ => true
  | .triggerPulseEnd _ => true
  | .triggerDrain _ _ => true
  | .triggerKill _ _ => true
  | .captureEdge _ _ => true
  | .captureRead _ => true
  | .ntmDisable _ => true
  | .laneLossOfLock _ => true
  | .eyeMeasure _ _ => true
  | .laneRecal _ _ => true
  | .laneRecalStep _ _ _ => true
  | .laneRetrain _ _ => true
  | .txeqWrite _ _ _ => true
  | .prbsWrite _ _ _ => true
  | .laceLinkEnable _ _ _ => true
  | .laceIdentityReceive _ o => decide (o.domain < 1024 ∧ o.strap < 1024)
  | .laceIdentTimeout _ => true
  | .laceRetry _ => true
  | .laceRateStep _ => true
  | .laceTrainDone _ lanes => decide (lanes.length = 4)
  | .laceQualEnd _ qs _ => decide (qs.length = 4)
  | .laceLinkDisable _ _ => true
  | .laceDrainDone _ => true
  | .laceLinkKill _ _ => true
  | .laceLaneFail _ _ _ => true
  | .laceAllLanesLost _ => true
  | .laceSecondLaneLost _ _ => true
  | .laceReaddAttempt _ _ _ => true
  | .laceReaddRetry _ => true
  | .laceLinkRetrain _ _ => true
  | .laceLinkRecal _ _ _ => true
  | .groupModeWrite _ _ _ => true
  | .portEnable _ _ _ => true
  | .portLinkUp _ => true
  | .portTransmit _ _ _ _ => true
  | .pauseReceive _ pfc _ quanta => decide (quanta.length = if pfc then 8 else 1)
  | .pauseExpire _ => true
  | .lpiEnter _ => true
  | .wakeFrame _ f => f.wf
  | .rxrTailDoorbell _ _ _ => true
  | .rxrCoalesceTimer _ => true
  | .txrTailDoorbell _ _ _ frames => frames.all fun (x : TxFrame) => decide (x.port < 32)
  | .txFrameComplete _ _ => true
  | .portDisable _ _ => true
  | .portDrainDone _ => true
  | .portKill _ _ => true
  | .ringDisable _ _ _ => true
  | .nptDisable _ _ => true
  | .hbmPpr _ row _ _ => decide (row < 2 ^ 32)
  | .unitTest _ _ => true
  | .unitSwap _ _ => true
  | .unitRetest _ _ => true
  | .autoTestTrigger _ _ _ => true
  | .inplaceCheckDone _ _ => true
  | .unitSwapPoint _ => true
  | .spareCheckFail _ => true
  | .offlineTestDone _ _ => true
  | .avsStep _ _ => true
  | .coreAgeingRecord _ _ => true
  | .mramScrub corrected _ => corrected.all fun n => decide (n < 2 ^ 32)
  | .drainBoundExpire _ => true
  | .partnerSilenceTimeout => true
  | .partnerFencedNotice => true
  | .partnerProbeTimeout => true
  | .partnerProbeAnswer => true
  | .partnerReturn => true
  | .spareLossNotice _ => true
  | .spareClaimDelay => true
  | .spareClaimReceive _ _ => true
  | .spareClaimGrant _ _ => true
  | .spareClaimTimeout => true
  | .spareAssume _ _ => true
  | .spareRelease _ => true
  | .fenceCommand _ => true
  | .rejoinCommand _ => true
  | .fenceRepairDone _ => true
  | .counterRecordWrite => true
  | .snapshotAuto => true
  | .snapshotDemand _ => true
  | .snapshotVerifyDone _ => true
  | .demandRefill => true
  | .awlWindowClose => true
  | .awlRecordWrite _ => true
  | .awlFreeze _ => true
  | .awlUnfreeze _ => true
  | .awlFreezeExpire => true
  | .awlReadIndex _ _ => true
  | .awlReadLatchDone _ => true
  | .awlClearGo _ _ => true
  | .awlClearLockoutExpire => true
  | .awlRetryMram _ => true
  | .awlRetryMramDone _ => true
  | .powerFailWarning _ => true
  | .updHeader _ _ _ h => h.wf
  | .updData _ _ _ off _ => decide (off < 2 ^ 32)
  | .updDataProgrammed => true
  | .updEnd _ _ _ => true
  | .updBodyVerified _ => true
  | .updAbortDatagram _ _ _ => true
  | .updQuery _ _ _ => true
  | .updLockIdleTimeout => true
  | .updActivate _ _ => true
  | .updConfirm _ => true
  | .updFallback _ => true
  | .updCtrlAbort _ => true
  | .updConfirmTimeout => true
  | .microcodeLoad _ _ => true
  | .microcodeSwap _ => true
  | .porstFall _ => true
  | .porstRise _ _ => true
  | .stbyPgRise => true
  | .stbyPgFall _ => true
  | .warmRstAssert => true
  | .warmBoot _ _ _ => true
  | .glbWarmReset _ => true
  | .watchdogKick _ _ => true
  | .watchdogTimeout => true
  | .pcieHotReset => true
  | .pciePerst => true
  | .bootRomDone _ => true
  | .imageVerifyDone _ _ => true
  | .hbmTrainDone _ => true
  | .hbmTrainFail _ => true
  | .stateRestoreDone _ => true
  | .lanesReady => true
  | .replayPathTimeout => true
  | .spareExit _ => true
  | .glbRoleWrite _ _ => true
  | .clockDomainRequest _ => true
  | .pllLock _ => true
  | .pllLockTimeout _ => true
  | .clockHoldExpire _ => true
  | .clockStopDone _ => true
  | .thermalAlarm _ _ => true
  | .thermalTrip _ => true
  | .thermalRecover _ => true
  | .xtalFail => true
  | .pmbusPoll rails => decide (rails.length ≤ 32)
  | .portFault _ _ _ => true
  | .oscHoldReturn _ => true
  | .refclkReturn _ => true
  | .xtalReturn => true
  | .partnerCompleteReport key => key.wf
  | .partnerProbeReceive => true
  | .msixVectorUnmask _ => true

end Sys2Proof
end

