-- ==== Sys2Proof/Tests/Slice0.lean ====
section
/-! SUPPORT. Our own tests: ill-formed operands, small steps, and a state and operands that meet the hypotheses of each clause of each
statement. -/

set_option maxRecDepth 20000
set_option linter.unusedVariables false

namespace Sys2Proof.Tests
open Machine
/-- A state with some register fields set. -/
def fl (l : List (Fld × Nat × Nat)) (s : State := State.reset) : State := l.foldl (fun s e => s.setFld e.1 e.2.1 e.2.2) s
/-- A state with some registers set. -/
def rg (l : List (Reg × Nat × Nat)) (s : State := State.reset) : State := l.foldl (fun s e => s.setReg e.1 e.2.1 (BitVec.ofNat 64
  e.2.2)) s

/-- A word of 32 bits made of fields. -/
def wd (l : List (Fld × Nat)) : Word := l.foldl (fun v e => e.1.put e.2 v) 0
def w32 (v : Word) : Word32 := v.setWidth 32

/-- Ingress runs, with domains 0 and 2 in 1080p60 and a pool. -/
def ingOn : State := fl [(F.ING_CTRL_EN, 0, 1), (F.EGR_OTD_CFG_ENABLE, 0, 1), (F.EGR_OTD_CFG_FORMAT, 0, 0x67),
  (F.EGR_OTD_CFG_ENABLE, 2, 1), (F.EGR_OTD_CFG_FORMAT, 2, 0x67)] (rg [(.ING_POOL_PAGES, 0, 1000)])
/-- Ingress with the channels of input 5 reserved, and with its first ring. -/
def reserved : State := (ingOn.reserveIn 0 32).getD ingOn
def ringed : State := (reserved.resizeRing 5 3 9 (Form.sdi 0x67).load).getD ingOn
/-- Input n LOCKED with its ring. -/
def liveAt (n : Nat) : State :=
  let s := (ingOn.resizeRing n 3 9 (Form.sdi 0x67).load).getD ingOn
  (fl [(F.ING_IN_CFG_ENABLE, n, 1), (F.ING_IN_STAT_STATE, n, 2), (F.ING_IN_SYNC_SAFE_LINES, n, 4)] s).setInput n
    { s.input n with fits := true, alloc := Form.sdi 0x67, lock := true }
def liveIn : State := liveAt 5
/-- Input 5 LOCKED in DIRECT mode. -/
def directIn : State :=
  (fl [(F.ING_IN_CFG_ENABLE, 5, 1), (F.ING_IN_CFG_MODE, 5, 1), (F.ING_IN_STAT_STATE, 5, 2)] ingOn).setInput 5
    { (default : Input) with fits := true, alloc := Form.sdi 0x67, lock := true, direct := true }
def directRinged : State := (directIn.resizeRing 5 (ringFrames (Form.sdi 0x67) 0 (directIn.fld F.ING_IN_SYNC_DELAY_FRAMES 5))
  (ringFrames (Form.sdi 0x67) 0 (directIn.fld F.ING_IN_SYNC_DELAY_FRAMES 5) * 3) (Form.sdi 0x67).load).getD directIn
def delayWord : Word := wd [(F.ING_IN_SYNC_SAFE_LINES, 4), (F.ING_IN_SYNC_DELAY_FRAMES, 1)]
def delayGrown : State := (liveIn.growRing 5 (ringFrames (Form.sdi 0x67) 0 1) (Form.sdi 0x67)).getD liveIn
/-- Packet input 133 LOCKED, bound to a flow of two legs. -/
def pdIn : State := (fl [(F.ING_PKT_VID_VALID, 5, 1), (F.ING_PKT_VID_FLOW, 5, 2)] (liveAt 133)).setDir 2 (1 <<< 127 ||| 1 <<< 22)
def pdGrown : State := (pdIn.growRing 133 (ringFrames (Form.sdi 0x67) 20000 (pdIn.fld F.ING_IN_SYNC_DELAY_FRAMES 133)) (Form.sdi
  0x67)).getD pdIn
def aflWord : Word := wd [(F.ING_AFL_CFG_VALID, 1), (F.ING_AFL_CFG_INPUT, 130), (F.ING_AFL_CFG_FLOW, 8)]
def aflState : State := rg [(.ING_AFL_FMT, 5, 2)]
/-- Port p up. -/
def upPort (p : Nat) : State := fl [(⟨.NPT_LINK, p, 1⟩, 0, 1), (F.NPT_PORT_CFG_ENABLE, p, 1), (F.NPT_PORT_CFG_MTU, p, 1518),
  (F.NPT_PORT_STAT_EXISTS, p, 1), (F.NPT_PORT_STAT_STATE, p, 3)]

/-- Twill runs with its directory, and a flow is in the directory. -/
def twlOn : State := (fl [(F.TWL_STATUS_RUN, 0, 1), (F.TWL_STATUS_DIR_READY, 0, 1), (F.TWL_CTRL_EN, 0, 1)]).setDir 8 (1 <<< 127)
/-- A request for flow 8 from slice-port 0 to slice-port 3. -/
def hop : RouteHop := ⟨7, 8, 0, 1000, [[0, 1, 2]], [3, 4, 5], 0, none, true, true, none⟩
/-- The state that holds the request, and its route. -/
def held : State := (twlOn.hold hop).1
def heldRoute : Route := held.twl.routes.headD default
def notHere (s : State) : State := s.setRoutes (s.twl.routes.map fun r => { r with atDest := false })
/-- Slice-port 0 with an open queue. -/
def queued : State := twlOn.setQueue 0 0 { (default : AQueue) with open_ := true }
/-- A directory entry of this part. -/
def ownEntry : Word128 := BitVec.ofNat 128 (2 ^ 127 + 1 * 2 ^ 122)
def dirCmd : State := rg [(.TWL_DIR_DATA, 3, ownEntry.toNat / 2 ^ 96)] twlOn
/-- An order that awaits part 9. -/
def dirWait : State := twlOn.setDirs { (default : Dirs) with pend := [⟨⟨0, 5, 8, some ownEntry⟩, [9], false, none⟩] }

/-- A take of output 3, routed and waiting. -/
def pend : PendTake :=
  { (default : PendTake) with out := 3, src := 5, otd := 0, frame := 9, own := .OK, routed := true, req := some 7 }
def taking (k : PendTake) : State := ingOn.setTakes [k]
/-- Domain 0 in 1080p60 on a time base that runs, egress on. -/
def egrOn : State := fl [(F.EGR_CTRL_EN, 0, 1), (F.EGR_STATUS_RUN, 0, 1), (F.NTM_TB_STAT_RUNNING, 0, 1), (F.LST_STATUS_LANE_QUAL, 0,
  1)] ingOn
/-- Output 3 in RUN. -/
def outOn : State := fl [(F.EGR_OUT_CFG_ENABLE, 3, 1), (F.EGR_OUT_STAT_STATE, 3, 1)] egrOn
def mirrorX : State :=
  { (fl [(F.NIM_PAIR_CFG_MODE, 0, 1), (F.RSL_XCHK_CFG_EN, 0, 1)]) with tks := { (default : Tks) with sentX := [⟨3, 9, 1, 5, 0⟩] } }
/-- A flow of this part of a kind, and ports 0 and 1 that exist at 100 Gbit/s. -/
def bound (kind : Nat) : State :=
  (fl [(F.NPT_PORT_STAT_EXISTS, 0, 1), (F.NPT_PORT_STAT_EXISTS, 1, 1), (F.NPT_PORT_STAT_RATE, 0, 4), (F.NPT_PORT_STAT_RATE, 1, 4),
    (F.EGR_VSND_PORT_PORT_B, 5, 1), (F.EGR_VSND_PORT_PAYLOAD, 5, 1200), (⟨.NPT_LINK, 0, 1⟩, 0, 1)] egrOn).setDir 8 (BitVec.ofNat 128
      (2 ^ 127 + kind * 2 ^ 122))
def vsndWord : Word := wd [(F.EGR_VSND_CFG_VALID, 1), (F.EGR_VSND_CFG_OUTPUT, 3), (F.EGR_VSND_CFG_FLOW, 8)]
def asndWord : Word := wd [(F.EGR_ASND_CFG_VALID, 1), (F.EGR_ASND_CFG_OUTPUT, 3), (F.EGR_ASND_CFG_FLOW, 8)]
def xsndWord : Word := wd [(F.EGR_XSND_CFG_VALID, 1), (F.EGR_XSND_CFG_OUTPUT, 3), (F.EGR_XSND_CFG_FLOW, 8)]
def vsnd : State := (fl [(F.EGR_VSND_CFG_VALID, 5, 1), (F.EGR_VSND_CFG_FLOW, 5, 8), (F.EGR_VSND_CFG_OUTPUT, 5, 3)] (bound
  1)).setSender .video 5 { (default : Sender) with run := true, queued := 9 }
def asnd : State := (fl [(F.EGR_ASND_FMT_CHANNELS, 5, 2), (F.EGR_ASND_CFG_VALID, 5, 1), (F.EGR_ASND_CFG_FLOW, 5, 8),
  (F.EGR_ASND_CFG_OUTPUT, 5, 3)] (bound 3)).setSender .audio 5 { (default : Sender) with run := true }
def xsnd : State := (fl [(F.EGR_XSND_CFG_VALID, 5, 1), (F.EGR_XSND_CFG_FLOW, 5, 8), (F.EGR_XSND_CFG_OUTPUT, 5, 3)] (bound
  5)).setSender .anc 5 { (default : Sender) with run := true }
/-- Join entry 5 of flow 8 on port 0 in a state. -/
def joinAt (st : Nat) : State := (fl [(F.EGR_JOIN_ENT_VALID, 5, 1), (F.EGR_JOIN_ENT_FLOW, 5, 8), (F.EGR_JOIN_STAT_STATE, 5, st)]
  ((bound 1).setDir 8 (BitVec.ofNat 128 (2 ^ 127 + 2 ^ 125)))).setJoin 5 ⟨2, false, true⟩

/-- Output 3 has lost its route, and a route of its source is at hand. -/
def lostOut : State :=
  let s := fl [(F.EGR_OUT_TAKE_SOURCE, 3, 5), (F.EGR_OUT_TAKE_PATH_LOST, 3, 1)] outOn
  s.setRoutes [{ (default : Route) with req := 7, src := 5, atDest := true, egr := [0], settled := true }]
def lostShared : State := (lostOut.requestRoute 5 (Form.sdi 0x67) default (outPorts 3) none none).1
/-- Sender 5 in SOURCE mode, and a route of source 9 at hand. -/
def askable : State := (fl [(F.EGR_VSND_CFG_MODE, 5, 1)] vsnd).setRoutes
  [{ (default : Route) with req := 7, src := 9, atDest := true, egr := [24], settled := true }]
def asked : State := (askable.askSource 5 9 default).1

/-- Nimade runs, and queue 3 has an entry to take. -/
def jrnOn : State := fl [(F.NIM_CTRL_EN, 0, 1), (F.NIM_Q_CFG_EN, 3, 1), (F.NIM_Q_CFG_SIZE, 3, 4), (F.NIM_SQ_TAIL_INDEX, 3, 1),
  (F.BOOT_STAGE_STAGE, 0, 7)]
/-- An entry of queue 3 of part 0, and the journal with one entry. -/
def jkey : Key := ⟨0, 3 * 2 ^ 57 + 1, 0⟩
def jent : JEntry := { (default : JEntry) with key := jkey, len := 8 }
def jrnWith (e : JEntry) : State := { jrnOn with nim := { jrnOn.nim with journal := [e] } }
/-- Core 2 runs that entry in its context 0. -/
def running2 : State := ((jrnWith { jent with phase := .running }).setCtx 16
  { freshCtx none (some jkey) 4 0 [] [] with run := .running }).setRunning 2 (some 16)
/-- Service slot 2 is enabled on core 1. -/
def svcOn : State := fl [(F.NIM_SVC_CFG_EN, 2, 1), (F.NIM_SVC_CFG_CORE, 2, 1), (F.NIM_SVC_CFG_ENTRY, 2, 100)]

/-- The address of element i of a register. -/
def regAt (r : Reg) (i : Nat) : Nat := r.info.blk.base + r.info.off + (match r.info.dims with | d :: _ => d.2 * i | [] => 0)
/-- A body of one word (halt) with two entries of an address table: a load and a store of elements of NIM_AFF_MAP. -/
def progBody : List Byte := leBytes 4 (2 ^ 21 + 2 * 2 ^ 16) ++ leBytes 8 (regAt .NIM_AFF_MAP 0 * 2 ^ 36 + 2 ^ 8 + 1) ++
  leBytes 8 (regAt .NIM_AFF_MAP 1 * 2 ^ 36 + 2 ^ 8 + 2) ++ leBytes 4 0x0F800000
def progEnt : JEntry := { (default : JEntry) with key := jkey, len := 24, body := bodyTbl progBody, phase := .running }
/-- Core 2 runs that order in its context 0. -/
def cobblerWith (r : Nat) (v : Word) : State :=
  ((jrnWith progEnt).setCtx 16 (({ freshCtx none (some jkey) 4 0 [] [] with run := .running }).setReg r v)).setRunning 2 (some 16)
def cobbler : State := cobblerWith 0 0
def coreAt : NimAt := ⟨2, 0, false⟩
/-- Core 2 runs service slot 2 in its context 0. -/
def svcWith (r : Nat) (v : Word) : State :=
  ((jrnOn.setCtx 16 (({ freshCtx (some 2) none 1 0 [] [] with run := .running }).setReg r v)).setRunning 2 (some 16)).setSvc 2
    { (default : Service) with at_ := some 16 }
def svcRuns : State := svcWith 0 0

/-- The entry that core 2 runs has recorded its first signal-plane status. -/
def cobblerSigs : State := cobbler.setEntry jkey fun e => { e with sigs := [.BUSY] }
/-- Core 2 runs the order with a directory entry of this part in LOCAL, with a pipe in RUN, and with a context that awaits a result.
  -/
def flowRuns : State := { cobbler.setCtx 16 { cobbler.ctx 16 with loc := setBytes [] 0 16 (2 ^ 127 + 2 ^ 122) } with dir := [] }
def descWords : List (BitVec 32) := [0x40000000, 0, 0, 0x00100010, 0, 0x00100010] ++ List.replicate 10 0
def descNum : Nat := (descWords.zipIdx.map fun e => e.1.toNat * 2 ^ (32 * e.2)).sum
def layerRuns : State := cobbler.setCtx 16 { cobbler.ctx 16 with loc := setBytes [] 0 24 descNum }
def commitRuns : State := fl [(F.VMP_PIPE_STAT_STATE, 0, 1)] (cobblerWith 6 1)
def cobblerWaits : State := cobbler.setCtx 16 { cobbler.ctx 16 with run := .result, sig := 1, rd := 5 }
/-- Slot 2 has an item in each receive queue, may transmit on endpoint 0, or waits for a message that is there. -/
def svcItems : State := svcRuns.setSvc 2
  { (default : Service) with at_ := some 16, msgs := [(7, 8, 9)], takes := [default], dones := [(4, .OK)], rings := [[1, 2]] }
def xmitRuns : State := fl [(F.NPT_EP_CFG_VALID, 32, 1), (⟨.NPT_LINK, 0, 1⟩, 0, 1), (F.NPT_PORT_CFG_ENABLE, 0, 1),
  (F.NPT_PORT_STAT_EXISTS, 0, 1), (F.NPT_PORT_STAT_STATE, 0, 3)] (svcWith 7 100)
def svcWaits : State := ((svcItems.setCtx 16 { svcItems.ctx 16 with run := .event 1 0, rd := 5 })).setRunning 2 none

/-- Core 0 of Tweed is in a run, and a bundle without moves. -/
def twdRuns : State := (fl [(F.TWD_CTRL_EN, 0, 1), (F.TWD_CORE_STAT_STATE, 0, 1)]).setTwd 0
  { (default : TwdCore) with run := true, v := [(1, 7), (5, 2 ^ 127 + 9), (6, 2 ^ 100 - 1), (8, 3)], acc := [(0, 2 ^ 78), (16, 12345)] }
def quiet : Bundle := ⟨false, 0, default, default, false⟩
/-- Flow 8 may be sent by bundle sender 5. -/
def btxReady : State := (rg [(.TWD_BTX_FLOW, 5, 8)]).setDir 8 (1 <<< 127)

/-- The serial audio ports are enabled; a section in a state; and one that another rate has stopped. -/
def aspOn : State := fl [(F.ASP_CTRL_EN, 0, 1)]
def aspIn (tx : Bool) (n st : Nat) : State := fl [(⟨aspCfg tx, 31, 1⟩, n, 1), (⟨aspCfg tx, 28, 1⟩, n, 0), (⟨aspStat tx, 28, 4⟩, n,
  st)] aspOn
def aspStopped : State := aspIn false 3 5

/-- Vamp is enabled and domain 0 runs 1080p60. -/
def pipesOn : State := fl [(F.VMP_CTRL_EN, 0, 1)] egrOn
/-- Reference r is valid and qualified. -/
def refOn (r : Nat) : State := fl [(F.LST_REF_CFG_RANK, r, 1), (F.LST_REF_STAT_VALID, r, 1), (F.LST_REF_STAT_QUALIFIED, r, 1)]

/-- Instance 1 works, and port 3 is in a state of it. -/
def ptpAt (st : Nat) : State := fl [(F.NTM_INST_CFG_EN, 1, 1), (F.NTM_CTRL_EN, 0, 1), (F.NTM_PORT_CFG_STATE, 35, st)]
def ptpRx : State := fl [(⟨.NPT_LINK, 3, 1⟩, 0, 1), (F.NPT_PORT_STAT_STATE, 3, 3), (F.NPT_PORT_CFG_MTU, 3, 1518)] (fl
  [(F.NTM_INST_CFG_DOMAIN, 1, 0)] (ptpAt 4))
/-- Capture 5 takes both edges. -/
def capOn : State := fl [(F.NTM_CAP_CFG_EN, 5, 1), (F.NTM_CTRL_EN, 0, 1), (F.NTM_CAP_CFG_EDGE, 5, 3)]

/-- A MIRRORED part with its partner; an armed spare that lists part 9. -/
def mir : State := fl [(F.NIM_PAIR_CFG_MODE, 0, 1), (F.NIM_PAIR_STAT_PARTNER, 0, 1)]
def spareArmed : State := fl [(F.NIM_PAIR_CFG_MODE, 0, 2), (F.RSL_SPARE_CFG_ARMED, 0, 1), (F.RSL_SPARE_LIST_VALID, 2, 1),
  (F.RSL_SPARE_LIST_ID, 2, 9)]

/-- A staged entry of the Awl, alone in the queue; a delta record that waits. -/
def stagedEnt : Staged := ⟨0, 7, 3, 1, 9, 5, 6, false, false⟩
def stagedOne : State := State.reset.setAwl { State.reset.awl with staged := [stagedEnt] }
def deltaOne : State := State.reset.setKeep { State.reset.keep with deltas := [default] }

/-- READY; the lock held by port 0 in session 5 with a body of 100 bytes; the other slot WRITTEN, or on trial and running. -/
def updOn : State := fl [(F.BOOT_STAGE_STAGE, 0, 7)]
def updLocked : State := (rg [(.UPD_SESSION, 0, 5)] (fl [(F.UPD_LOCK_OWNER, 0, 1)] updOn)).setUpd
  { updOn.upd with hdr := some { (default : ImgHeader) with bodyLen := 100 } }
def updWritten : State := updOn.setUpd { updOn.upd with slotB := { (default : ImgSlot) with state := .written } }
def updTrial : State := fl [(F.UPD_STATUS_RUN_SLOT, 0, 1)] (updOn.setUpd { updOn.upd with
  slotA := { (default : ImgSlot) with state := .confirmed }, slotB := { (default : ImgSlot) with state := .trial, attempts := 1 } })
/-- Slot A holds a CONFIRMED image. Held in cold reset. -/
def romSlot : State := State.reset.setUpd
  { State.reset.upd with slotA := { (default : ImgSlot) with state := .confirmed }, slotB := default }
def inCold : State := (fl [(F.INS_STATE_STATE, 0, 1)]) |> fun s => { s with host := { s.host with inReset := true } }


/-! ### Ill-formed operands are refused, one term for each check -/

theorem test_illformed_ingress :
    (Instr.sdiFrameEnd 5 ⟨1125, 1920, false, 256⟩ none false).wellFormed = false ∧
    (Instr.sdiFrameEnd 5 ⟨1125, 1920, false, 0x67⟩ (some ⟨0, 0x67, 4, 1, false, 0⟩) false).wellFormed = false ∧
    (Instr.networkFrameReceive 3 { (default : RxFrame) with vlan := some 4096 }).wellFormed = false ∧
    (Instr.videoFrameClose 133 9 ⟨0x67, 3, 1⟩ 0).wellFormed = false ∧
    (Instr.videoFrameClose 133 9 ⟨256, 0, 1⟩ 0).wellFormed = false ∧
    (Instr.videoFrameClose 133 9 ⟨0x67, 0, 3⟩ 0).wellFormed = false := by decide

theorem test_illformed_fabric :
    (Instr.cellReceive 0 false default 0 0 0 0 [(1024, 0)]).wellFormed = false ∧
    (Instr.routeRequest { hop with flow := 2 ^ 19 }).wellFormed = false ∧
    (Instr.routeRequest { hop with ingress := [[168]] }).wellFormed = false ∧
    (Instr.rerouteStream 7 0 { hop with egress := [168] }).wellFormed = false ∧
    (Instr.linkControlCell 0 default (some (0, 2 ^ 16)) default).wellFormed = false ∧
    (Instr.dirUpdateReceive ⟨1024, 1, 8, none⟩ false).wellFormed = false ∧
    (Instr.dirUpdateReceive ⟨9, 1, 2 ^ 19, none⟩ false).wellFormed = false ∧
    (Instr.dirMissingRequestReceive 1024 1).wellFormed = false ∧
    (Instr.dirAckReceive 1024 1 false).wellFormed = false ∧
    (Instr.dirResyncStart [1024]).wellFormed = false ∧
    (Instr.dirResyncAnswer 9 1 none [⟨1024, 1, 8, none⟩] []).wellFormed = false ∧
    (Instr.dirResyncAnswer 9 1 none [] [2 ^ 19]).wellFormed = false ∧
    (Instr.dirResyncOriginTimeout 1024).wellFormed = false := by decide

theorem test_illformed_takes :
    (Instr.salvo coreAt 1 2 3 4 0 (List.replicate 129 default)).wellFormed = false ∧
    (Instr.forwardedTake ⟨1024, 1, 0⟩ 1 false 0 []).wellFormed = false ∧
    (Instr.forwardedTake jkey (2 ^ 64) false 0 []).wellFormed = false ∧
    (Instr.forwardedTake jkey 1 false (2 ^ 64) []).wellFormed = false ∧
    (Instr.partnerAdmissionResult jkey 24 0 .OK).wellFormed = false ∧
    (Instr.takeArmed ⟨0, 2 ^ 64, 0⟩ 0 0).wellFormed = false ∧
    (Instr.takeRouteLost jkey 24 0 default).wellFormed = false ∧
    (Instr.xchkRecordReceive ⟨128, 9, 1, 5, 0⟩).wellFormed = false := by decide

theorem test_illformed_journal :
    (Instr.submissionAccept 3 { (default : Sqe) with seq := 2 ^ 64 }).wellFormed = false ∧
    (Instr.submissionAccept 3 { (default : Sqe) with tag := 2 ^ 32 }).wellFormed = false ∧
    (Instr.journalMirrorReceive { jent with key := ⟨1024, 1, 0⟩ }).wellFormed = false ∧
    (Instr.journalMirrorReply ⟨1024, 1, 0⟩ .OK).wellFormed = false ∧
    (Instr.journalResendTimer ⟨1024, 1, 0⟩).wellFormed = false ∧
    (Instr.frontierReceive (2 ^ 64) []).wellFormed = false ∧
    (Instr.frontierReceive 0 [⟨1024, 1, 0⟩]).wellFormed = false ∧
    (Instr.entryStart ⟨1024, 1, 0⟩ 0).wellFormed = false ∧
    (Instr.journalReplay false [{ jent with key := ⟨1024, 1, 0⟩ }]).wellFormed = false ∧
    (Instr.journalReconcile [] [⟨1024, 1, 0⟩]).wellFormed = false ∧
    (Instr.partnerRejoin [] [{ (default : Applied) with key := ⟨1024, 1, 0⟩ }] []).wellFormed = false ∧
    (Instr.nimSignalPlaneResult jkey 24 0 .OK).wellFormed = false ∧
    (Instr.partnerCompleteReport ⟨1024, 1, 0⟩).wellFormed = false := by decide

theorem test_illformed_audio_video :
    (Instr.tweedBlockPresent 0 [(0, List.replicate 17 0, [])]).wellFormed = false ∧
    (Instr.tweedScrub (2 ^ 32) []).wellFormed = false ∧
    (Instr.aspFrameStart false 3 0 (List.replicate 17 0) []).wellFormed = false ∧
    (Instr.bar2Access 0 (some [])).wellFormed = false := by decide

theorem test_illformed_time_and_links :
    (Instr.ptpMessageReceive 3 { (default : PtpMsg) with domain := 256 } default).wellFormed = false ∧
    (Instr.ptpMessageReceive 3 { (default : PtpMsg) with seq := 2 ^ 16 } default).wellFormed = false ∧
    (Instr.ptpDelayReqSend 1 3 (2 ^ 96)).wellFormed = false ∧
    (Instr.ptpPdelayReqSend 1 3 (2 ^ 96)).wellFormed = false ∧
    (Instr.laceIdentityReceive 0 { (default : IdentObs) with domain := 1024 }).wellFormed = false ∧
    (Instr.laceTrainDone 0 []).wellFormed = false ∧
    (Instr.laceQualEnd 0 [] 0).wellFormed = false ∧
    (Instr.pauseReceive 3 true 0 [0]).wellFormed = false ∧
    (Instr.wakeFrame 3 { (default : RxFrame) with vlan := some 4096 }).wellFormed = false ∧
    (Instr.txrTailDoorbell .mgmt 0 0 [⟨[64], 32, false⟩]).wellFormed = false := by decide

theorem test_illformed_upkeep :
    (Instr.hbmPpr 0 (2 ^ 32) 0 false).wellFormed = false ∧
    (Instr.mramScrub [2 ^ 32] []).wellFormed = false ∧
    (Instr.updHeader 0 5 true { (default : ImgHeader) with version := 2 ^ 32 }).wellFormed = false ∧
    (Instr.updHeader 0 5 true { (default : ImgHeader) with pairLevel := 2 ^ 16 }).wellFormed = false ∧
    (Instr.updData 0 5 true (2 ^ 32) 8).wellFormed = false ∧
    (Instr.pmbusPoll (List.replicate 33 none)).wellFormed = false := by decide

/-- Operands at the ends of their ranges are well formed. -/
theorem test_wellformed_bounds :
    (Instr.sdiFrameEnd 127 ⟨1125, 1920, false, 255⟩ (some ⟨0, 255, 3, 3, false, 3⟩) true).wellFormed = true ∧
    (Instr.partnerAdmissionResult ⟨1023, 2 ^ 64 - 1, 0⟩ 23 0 .OK).wellFormed = true ∧
    (Instr.routeRequest { hop with flow := 2 ^ 19 - 1, ingress := [[167]], egress := [167] }).wellFormed = true := by decide

/-! ### Small steps -/

/-- What a register holds after a step. -/
def regAfter (o : Host.Outcome State Fault Refusal) (r : Reg) (i : Nat) : Option Word :=
  match o with
  | .next t => some (t.reg r i)
  | .fault _ => none
  | .refused _ => none

/-- What a general register of the context that core 2 runs holds after a step. -/
def genAfter (o : Host.Outcome State Fault Refusal) (r : Nat) : Option Word :=
  match o with
  | .next t => some ((t.ctx 16).reg r)
  | .fault _ => none
  | .refused _ => none

/-- A queue is taken first in, first out: the kick of the watchdog stays for the next step. -/
theorem test_step_takes_the_front :
    (match step { State.reset with pending := [.routeSettle 8, .refValid 1] } with
      | .next t => decide (t.pending = [.refValid 1])
      | .fault _ => false
      | .refused _ => false) = true := by decide

/-- RW bits take the written value and the others keep theirs (R4): GLB_TEMP_CFG has ALARM in bits 7:0 alone. -/
theorem test_write_keeps_reserved_bits :
    regAfter (exec (.registerWrite .work (BitVec.ofNat 28 (regAt .GLB_TEMP_CFG 0)) 2 0xFFFFFF50 default) State.reset)
      .GLB_TEMP_CFG 0 = some 0x50 := by decide

/-- A sum of 2^64 - 1 and 1 wraps to 0, and general register 0 stays 0. -/
theorem test_add_wraps :
    genAfter (exec (.nimAddi coreAt 5 5 1) (cobblerWith 5 (BitVec.allOnes 64))) 5 = some 0 ∧
    genAfter (exec (.nimAddi coreAt 0 5 2) (cobblerWith 5 7)) 0 = some 0 := by decide

/-- An idle step of a part in cold reset counts a period and no more. -/
theorem test_idle_in_cold_reset :
    (match step inCold with
      | .next t => decide (t.tick = inCold.tick + 1 ∧ t.regs = inCold.regs)
      | .fault _ => false
      | .refused _ => false) = true := by decide

/-- A queue that is empty: the hypothesis of StepIdlesOneInsolePeriod, in a part that runs time base 0. -/
theorem test_hypotheses_StepIdlesOneInsolePeriod :
    ∃ s : State, s.pending = [] ∧ s.power ≠ 0 ∧ s.host.inReset = false ∧ s.boot.later = [] ∧ s.tbRunning 0 = true :=
  ⟨{ (fl [(F.INS_STATE_STATE, 0, 3), (F.NTM_TB_STAT_RUNNING, 0, 1)]) with
      host := { State.reset.host with inReset := false } }, by decide⟩

/-- A sound register store and a step: the hypotheses of StepKeepsRegistersSound. -/
theorem test_hypotheses_StepKeepsRegistersSound :
    ∃ s t : State, RegsOk s ∧ step s = .next t :=
  ⟨{ State.reset with pending := [.routeSettle 8] }, _, ⟨rfl, fun _ => ⟨rfl, fun _ _ m => by cases m⟩⟩, rfl⟩

/-! ### Hypotheses that are met, clause by clause -/

/-- The hypotheses of PrefixesAreFixedWhileTheyAreUsed. -/
theorem test_hypotheses_PrefixesAreFixedWhileTheyAreUsed :
    (∃ (src : Requester) (source : Bool) (ix : Fin 3) (w : Word32) (s : State), (s.closedTo (if source then .TWL_V6SRC else
      .TWL_V6PFX) src = false) ∧ ((∀ e ∈ s.dir, ¬(dirValid e.2 = true ∧ e.2.getLsbD 126 = true)))) ∧
    (∃ (src : Requester) (source : Bool) (ix : Fin 3) (w : Word32) (e : Nat × Word128) (s : State), (s.closedTo (if source then
      .TWL_V6SRC else .TWL_V6PFX) src = false) ∧ (e ∈ s.dir) ∧ (dirValid e.2 = true) ∧ (e.2.getLsbD 126 = true)) :=
  ⟨⟨.mgmt, true, 2, 0x20010DB8, twlOn, by decide⟩,
   ⟨.mgmt, false, 0, 7, (8, 1 <<< 127 ||| 1 <<< 126), State.reset.setDir 8 (1 <<< 127 ||| 1 <<< 126), by decide⟩⟩

/-- The hypotheses of LineCrcErrorsAreCountedAndNoMore. -/
theorem test_hypotheses_LineCrcErrorsAreCountedAndNoMore :
    (∃ (n : Fin 128) (k : Nat) (anc : List AncPkt) (s : State), (s.inLive (s.laneInput n) = true) ∧ ((s.input n).lock = true) ∧ (2 ≤
      (s.reg .ING_SDI_RATE n).toNat)) :=
  ⟨5, 9, [], (fl [(F.ING_IN_STAT_STATE, 5, 1)] (rg [(.ING_SDI_RATE, 5, 7)])).setInput 5 { (default : Input) with lock := true }, by
    decide⟩

/-- The hypotheses of PowerResetsBootAndTheEndpoint. -/
theorem test_hypotheses_PowerResetsBootAndTheEndpoint_1 :
    (∃ (records : Nat) (s : State), s.host.inReset = false) ∧
    (∃ (records : Nat) (s : State), s.host.inReset = true) ∧
    (∃ (strap : Fin 1024) (sideB : Bool) (s : State), (s.host.inReset = true) ∧ (s.power = powerInsole) ∧ (s.boot.tripped = false))
      ∧
    (∃ (strap : Fin 1024) (sideB : Bool) (s : State), (s.host.inReset = true) ∧ (s.power = powerInsole) ∧ (s.boot.tripped = true)) ∧
    (∃ (s : State), s.power = 0) ∧
    (∃ (records : Nat) (s : State), s.power ≠ 0) ∧
    (∃ (records : Nat) (s : State), s.host.inReset = false) ∧
    (∃ (tt : BitVec 16) (s : State), (s.boot.tripped = true) ∧ (tt.toInt < 1760)) ∧
    (∃ (tt : BitVec 16) (s : State), 1760 ≤ tt.toInt) ∧
    (∃ (sensor : Fin 64) (tt : BitVec 16) (s : State), (16 * s.fld F.GLB_TEMP_CFG_ALARM 0 : Nat) < tt.toInt) ∧
    (∃ (sensor : Fin 64) (tt : BitVec 16) (s : State), tt.toInt ≤ (16 * s.fld F.GLB_TEMP_CFG_ALARM 0 : Nat)) ∧
    (∃ (retentionOk : Bool) (s : State), (s.host.inReset = false) ∧ (s.bootStage = stageRom) ∧ (s.bootable 0 = true) ∧ ((s.slot
      1).state = .empty)) :=
  ⟨⟨0, State.reset, by decide⟩,
   ⟨0, inCold, by decide⟩,
   ⟨7, true, inCold, by decide⟩,
   ⟨7, true, inCold.setBoot { inCold.boot with tripped := true }, by decide⟩,
   ⟨fl [(F.INS_STATE_STATE, 0, 0)], by decide⟩,
   ⟨0, State.reset, by decide⟩,
   ⟨0, State.reset, by decide⟩,
   ⟨0, inCold.setBoot { inCold.boot with tripped := true }, by decide⟩,
   ⟨1760, inCold.setBoot { inCold.boot with tripped := true }, by decide⟩,
   ⟨5, 0x7000, State.reset, by decide⟩,
   ⟨5, 0, State.reset, by decide⟩,
   ⟨true, romSlot, by decide⟩⟩

/-- The hypotheses of PowerResetsBootAndTheEndpoint. -/
theorem test_hypotheses_PowerResetsBootAndTheEndpoint_2 :
    (∃ (good : Bool) (data : BootData) (s : State), (s.host.inReset = false) ∧ (s.bootStage = stageVerify) ∧ (good = true)) ∧
    (∃ (good : Bool) (data : BootData) (s : State), (s.host.inReset = false) ∧ (s.bootStage = stageVerify) ∧ (good = false) ∧
      (s.runSlot = 0)) ∧
    (∃ (converted : Bool) (s : State), (s.host.inReset = false) ∧ (s.bootStage = stageHbmInit)) ∧
    (∃ (stack : Fin 4) (s : State), (s.host.inReset = false) ∧ (s.bootStage = stageHbmInit)) ∧
    (∃ (views : List (Fin 128 × TakeView)) (s : State), (s.host.inReset = false) ∧ (s.bootStage = stageRestore)) ∧
    (∃ (s : State), (s.host.inReset = false) ∧ (s.bootStage = stageLanes)) ∧
    (∃ (s : State), (s.host.inReset = false) ∧ (s.bootStage = stageReplay) ∧ (s.paired = true)) ∧
    (∃ (s : State), s.host.inReset = false) ∧
    (∃ (w : Word32) (s : State), w = 0x5741524D) ∧
    (∃ (w : Word32) (s : State), w ≠ 0x5741524D) ∧
    (∃ (s : State), s.boot.armed = true) ∧
    (∃ (s : State), s.boot.armed = false) :=
  ⟨⟨true, default, fl [(F.BOOT_STAGE_STAGE, 0, 1)], by decide⟩,
   ⟨false, default, fl [(F.BOOT_STAGE_STAGE, 0, 1)] romSlot, by decide⟩,
   ⟨true, fl [(F.BOOT_STAGE_STAGE, 0, 3)], by decide⟩,
   ⟨2, fl [(F.BOOT_STAGE_STAGE, 0, 3)], by decide⟩,
   ⟨[], fl [(F.BOOT_STAGE_STAGE, 0, 4)], by decide⟩,
   ⟨fl [(F.BOOT_STAGE_STAGE, 0, 5), (F.WLT_LK_CFG_ENABLE, 3, 1)], by decide⟩,
   ⟨fl [(F.BOOT_STAGE_STAGE, 0, 6)] mir, by decide⟩,
   ⟨updOn, by decide⟩,
   ⟨0x5741524D, updOn, by decide⟩,
   ⟨1, updOn, by decide⟩,
   ⟨updOn.setBoot { updOn.boot with armed := true }, by decide⟩,
   ⟨updOn, by decide⟩⟩

/-- The hypotheses of PowerResetsBootAndTheEndpoint. -/
theorem test_hypotheses_PowerResetsBootAndTheEndpoint_3 :
    (∃ (src : Requester) (w : Word32) (s : State), src = .mgmt) ∧
    (∃ (src : Requester) (w : Word32) (s : State), src ≠ .mgmt) ∧
    (∃ (good converted : Bool) (data : BootData) (s : State), (s.host.inReset = false) ∧ (s.bootStage = stageWarmBoot) ∧ (good =
      false) ∧ (s.runSlot = 0)) ∧
    (∃ (good converted : Bool) (data : BootData) (s : State), (s.host.inReset = false) ∧ (s.bootStage = stageWarmBoot) ∧ (good =
      true)) ∧
    (∃ (assumed : Bool) (s : State), s.power = powerSpare) ∧
    (∃ (s : State), s.host.inReset = false) ∧
    (∃ (s : State), s.host.inReset = false) ∧
    (∃ (v : Fin 256) (s : State), Tbl.get (fun _ => false) s.host.pba v = true) ∧
    (∃ (v : Fin 256) (s : State), Tbl.get (fun _ => false) s.host.pba v = false) ∧
    (∃ (rails : List (Option (BitVec 32))) (s : State), s.flag F.INS_PMBUS_CFG_EN 0 = false) ∧
    (∃ (w : BitVec 32) (s : State), s.flag F.INS_PMBUS_CFG_EN 0 = true) :=
  ⟨⟨.mgmt, 1, updOn, by decide⟩,
   ⟨.work, 1, updOn, by decide⟩,
   ⟨false, true, default, fl [(F.BOOT_STAGE_STAGE, 0, 10)] romSlot, by decide⟩,
   ⟨true, true, default, fl [(F.BOOT_STAGE_STAGE, 0, 10)] romSlot, by decide⟩,
   ⟨true, fl [(F.INS_STATE_STATE, 0, 2)], by decide⟩,
   ⟨updOn, by decide⟩,
   ⟨updOn, by decide⟩,
   ⟨3, { State.reset with host := { State.reset.host with pba := [(3, true)] } }, by decide⟩,
   ⟨3, State.reset, by decide⟩,
   ⟨[], fl [(F.INS_PMBUS_CFG_EN, 0, 0)], by decide⟩,
   ⟨9, fl [(F.INS_PMBUS_CFG_EN, 0, 1)], by decide⟩⟩

/-- The hypotheses of ClocksAndTheBlockBus. -/
theorem test_hypotheses_ClocksAndTheBlockBus_1 :
    (∃ (d : Fin 27) (s : State), s.clk d = .stopping false) ∧
    (∃ (d : Fin 27) (s : State), s.clk d = .running) ∧
    (∃ (d : Fin 27) (s : State), ((∀ e : Nat, e < 27 → s.clk e = .stopped ∨ s.clk e = .running)) ∧ (s.clk d = .stopped) ∧ (1 ≤ s.fld
      F.INS_CLK_CFG_PARALLEL 0)) ∧
    (∃ (d : Fin 27) (s : State), (s.clk d).isStarting = true) ∧
    (∃ (d : Fin 27) (s : State), (s.clk d).isStarting = false) ∧
    (∃ (d : Fin 27) (n : Nat) (s : State), (s.clk d = .starting n) ∧ (n < 2)) ∧
    (∃ (d : Fin 27) (n : Nat) (s : State), (s.clk d = .starting n) ∧ (2 ≤ n)) ∧
    (∃ (d : Fin 27) (s : State), (s.clk d = .running) ∧ (s.clkWanted d = false)) ∧
    (∃ (d : Fin 27) (s : State), s.clkWanted d = true) ∧
    (∃ (d : Fin 27) (s : State), s.clk d = .stopping false) ∧
    (∃ (src : Requester) (w : Word32) (s : State), src = .pcie) ∧
    (∃ (src : Requester) (w : Word32) (s : State), (src = .work) ∧ (F.GLB_ROLE_ROLE.of (w.setWidth 64) = 3)) :=
  ⟨⟨12, State.reset.setClk 12 (.stopping false), by decide⟩,
   ⟨1, State.reset, by decide⟩,
   ⟨12, State.reset, by decide⟩,
   ⟨12, State.reset.setClk 12 (.starting 0), by decide⟩,
   ⟨12, State.reset, by decide⟩,
   ⟨12, 1, State.reset.setClk 12 (.starting 1), by decide⟩,
   ⟨12, 2, State.reset.setClk 12 (.starting 2), by decide⟩,
   ⟨12, State.reset.setClk 12 .running, by decide⟩,
   ⟨0, State.reset, by decide⟩,
   ⟨12, State.reset.setClk 12 (.stopping false), by decide⟩,
   ⟨.pcie, 1, State.reset, by decide⟩,
   ⟨.work, w32 (wd [(F.GLB_ROLE_ROLE, 3)]), State.reset, by decide⟩⟩

/-- The hypotheses of ClocksAndTheBlockBus. -/
theorem test_hypotheses_ClocksAndTheBlockBus_2 :
    (∃ (src : Requester) (w : Word32) (s : State), (src = .work) ∧ (F.GLB_ROLE_ROLE.of (w.setWidth 64) < 3) ∧ (s.twl.routes = [])) ∧
    (∃ (src : Requester) (addr : BitVec 28) (data : Word64) (env : BusEnv) (s : State), (src ≠ .pcie) ∧ (addr.toNat % 4 = 0) ∧
      (winAt addr.toNat = none) ∧ (Reg.ofAddr addr.toNat = none)) ∧
    (∃ (src : Requester) (addr : BitVec 28) (data : Word64) (env : BusEnv) (r : Reg) (i : Nat) (s : State), (src ≠ .pcie) ∧
      (addr.toNat % 4 = 0) ∧ (winAt addr.toNat = none) ∧ (Reg.ofAddr addr.toNat = some (r, i, false)) ∧ (r.info.wide = false) ∧
      ((r.info.acc = .RO ∨ r.info.acc = .RC))) ∧
    (∃ (addr : BitVec 28) (data : Word64) (env : BusEnv) (r : Reg) (i : Nat) (s : State), (addr.toNat % 4 = 0) ∧ (winAt addr.toNat =
      none) ∧ (Reg.ofAddr addr.toNat = some (r, i, false)) ∧ (r.info.wide = false) ∧ (s.closedTo r .pcie = true)) ∧
    (∃ (addr : BitVec 28) (data : Word64) (env : BusEnv) (r : Reg) (s : State), (addr.toNat % 4 = 0) ∧ (winAt addr.toNat = none) ∧
      (Reg.ofAddr addr.toNat = some (r, 0, false)) ∧ (r ∈ [Reg.GLB_TEMP_CFG, .EGR_TAKE_CFG, .TWL_DIR_ACK_TO, .INS_PMBUS_CFG]) ∧
      (badValue r (low32 data) = false) ∧ (s.deltasFull = false)) ∧
    (∃ (addr : BitVec 28) (size : Fin 4) (data : Word64) (env : BusEnv) (s : State), (s.pcieUp = true) ∧ (Blk.ofAddr addr.toNat ≠
      .NIM) ∧ (size < 2)) ∧
    (∃ (src : Requester) (addr : BitVec 28) (r : Reg) (i : Nat) (s : State), (src ≠ .pcie) ∧ (addr.toNat % 4 = 0) ∧ (winAt
      addr.toNat = none) ∧ (Reg.ofAddr addr.toNat = some (r, i, false)) ∧ (r.info.wide = false) ∧ (r.info.acc = .RC) ∧ (r ≠
      .NTM_CAP_NS)) ∧
    (∃ (src : Requester) (addr : BitVec 28) (r : Reg) (i : Nat) (s : State), (src ≠ .pcie) ∧ (addr.toNat % 4 = 0) ∧ (winAt
      addr.toNat = none) ∧ (Reg.ofAddr addr.toNat = some (r, i, false)) ∧ (r.info.wide = false) ∧ ((r.info.acc = .RW ∨ r.info.acc =
      .RWB ∨ r.info.acc = .W1C))) ∧
    (∃ (src : Requester) (addr : BitVec 28) (r : Reg) (i : Nat) (s : State), (src ≠ .pcie) ∧ (addr.toNat % 4 = 0) ∧ (winAt
      addr.toNat = none) ∧ (Reg.ofAddr addr.toNat = some (r, i, false)) ∧ (r.info.wide = true) ∧ (r.info.acc = .RW)) ∧
    (∃ (src : Requester) (addr : BitVec 28) (r : Reg) (i : Nat) (s : State), (src ≠ .pcie) ∧ (addr.toNat % 4 = 0) ∧ (winAt
      addr.toNat = none) ∧ (Reg.ofAddr addr.toNat = some (r, i, false)) ∧ (r.info.wide = true) ∧ (r.info.acc = .RW)) :=
  ⟨⟨.work, w32 (wd [(F.GLB_ROLE_ROLE, 2)]), State.reset, by decide⟩,
   ⟨.work, BitVec.ofNat 28 (regAt .GLB_TEMP_CFG 0 + 0xFFFFC), 7, default, State.reset, by decide⟩,
   ⟨.work, BitVec.ofNat 28 (regAt .GLB_TEMP 0), 7, default, .GLB_TEMP, 0, State.reset, by decide⟩,
   ⟨BitVec.ofNat 28 (regAt .NIM_AFF_MAP 0), 7, default, .NIM_AFF_MAP, 0, updOn, by decide⟩,
   ⟨BitVec.ofNat 28 (regAt .GLB_TEMP_CFG 0), wd [(F.GLB_TEMP_CFG_ALARM, 100)], default, .GLB_TEMP_CFG, State.reset, by decide⟩,
   ⟨BitVec.ofNat 28 (regAt .GLB_TEMP_CFG 0), 1, 7, default, updOn, by decide⟩,
   ⟨.work, BitVec.ofNat 28 (regAt .WLT_LANE_LOL 0), .WLT_LANE_LOL, 0, rg [(.WLT_LANE_LOL, 0, 5)], by decide⟩,
   ⟨.work, BitVec.ofNat 28 (regAt .GLB_TEMP_CFG 0), .GLB_TEMP_CFG, 0, State.reset, by decide⟩,
   ⟨.work, BitVec.ofNat 28 (regAt .NIM_SQ_BASE 0), .NIM_SQ_BASE, 0, State.reset, by decide⟩,
   ⟨.work, BitVec.ofNat 28 (regAt .NIM_SQ_BASE 0), .NIM_SQ_BASE, 0, rg [(.NIM_SQ_BASE, 0, 2 ^ 40)], by decide⟩⟩

/-- The hypotheses of SdiReceptionFollowsLockAndFormat. -/
theorem test_hypotheses_SdiReceptionFollowsLockAndFormat :
    (∃ (n : Fin 128) (s : State), (s.inLive (s.laneInput n) = true) ∧ ((s.input n).lock = false)) ∧
    (∃ (n : Fin 128) (s : State), (s.videoRx n = true) ∧ ((s.input n).lock = false) ∧ ((s.input n).hunt ≠ 0) ∧ ((s.input n).hunt <
      16)) ∧
    (∃ (n : Fin 128) (s : State), s.inLive (s.laneInput n) = true) ∧
    (∃ (n : Fin 128) (s : State), (s.inLive (s.laneInput n) = true) ∧ ((s.input (s.laneInput n)).direct = false)) ∧
    (∃ (n : Fin 128) (k : Nat) (s : State), (s.inLive (s.laneInput n) = true) ∧ ((s.input n).lock = true)) ∧
    (∃ (n : Fin 128) (m : FrameMeas) (p : Pid) (s : State), (s.inLive n = true) ∧ ((s.input n).lock = true) ∧ (s.laneInput n = n) ∧
      ((s.input n).meas ≠ some m)) ∧
    (∃ (n : Fin 128) (s : State), (s.inLive n = true) ∧ ((s.input n).reading = true)) :=
  ⟨⟨5, fl [(F.ING_IN_STAT_STATE, 5, 1)], by decide⟩,
   ⟨5, (fl [(F.ING_IN_STAT_STATE, 5, 1), (F.ING_CTRL_EN, 0, 1)]).setInput 5 { (default : Input) with hunt := 7 }, by decide⟩,
   ⟨5, fl [(F.ING_IN_STAT_STATE, 5, 1)], by decide⟩,
   ⟨5, fl [(F.ING_IN_STAT_STATE, 5, 1)], by decide⟩,
   ⟨5, 9, (fl [(F.ING_IN_STAT_STATE, 5, 1)] (rg [(.ING_SDI_RATE, 5, 7)])).setInput 5 { (default : Input) with lock := true }, by
     decide⟩,
   ⟨5, ⟨1125, 1920, false, 0x67⟩, ⟨0x8A, 0x67, 0, 1, false, 0⟩, (fl [(F.ING_IN_STAT_STATE, 5, 1)] (rg [(.ING_SDI_RATE, 5,
     7)])).setInput 5 { (default : Input) with lock := true }, by decide⟩,
   ⟨5, (fl [(F.ING_IN_STAT_STATE, 5, 1)]).setInput 5 { (default : Input) with reading := true }, by decide⟩⟩

/-- The hypotheses of PacketInputsReceiveAndClose. -/
theorem test_hypotheses_PacketInputsReceiveAndClose :
    (∃ (p : Fin 32) (f : RxFrame) (s : State), (s.portState p ≠ portWaking) ∧ (s.linkUp p = true) ∧ (s.portState p ≠ portWakeOnly) ∧
      (f.fcsOk = true) ∧ (64 ≤ f.len) ∧ (f.len ≤ s.fld F.NPT_PORT_CFG_MTU p) ∧ (f.vlan = none) ∧ (f.dest ≠ .other) ∧ (f.badSum =
      false) ∧ (f.payload = .unmatched)) ∧
    (∃ (m : Fin 256) (num : Nat) (form : Form) (diff : BitVec 32) (s : State), (s.inLive (m + 128) = true) ∧ ((s.input (m +
      128)).lastForm ≠ some form) ∧ ((s.input (m + 128)).opening = []) ∧ (0 < widthOf form.code * heightOf form.code)) ∧
    (∃ (m : Fin 256) (s : State), (s.inLive (m + 128) = true) ∧ ((s.input (m + 128)).direct = false)) :=
  ⟨⟨3, { (default : RxFrame) with fcsOk := true, len := 64, dest := .own, payload := .unmatched }, upPort 3, by decide⟩,
   ⟨3, 9, Form.sdi 0x67, 0, fl [(F.ING_IN_STAT_STATE, 131, 1)], by decide⟩,
   ⟨3, fl [(F.ING_IN_STAT_STATE, 131, 1)], by decide⟩⟩

/-- The hypotheses of InputsEnableDrainAndKill. -/
theorem test_hypotheses_InputsEnableDrainAndKill :
    (∃ (src : Requester) (n : Fin 384) (w : Word32) (word : Word) (f : Form) (frames : Nat) (u v : State) (s : State), (word =
      F.ING_IN_CFG_KILL.put 0 (F.ING_IN_CFG_ENABLE.put 1 (w.setWidth 64))) ∧ (F.ING_IN_CFG_MODE.of word = 0) ∧ (f = s.allocForm
      word) ∧ (frames = ringFrames f (s.inputPd n) (s.fld F.ING_IN_SYNC_DELAY_FRAMES n)) ∧ (s.closedTo .ING_IN_CFG src = false) ∧
      (s.inState n = inOff) ∧ (badInCfg word = false) ∧ (s.flag F.ING_CTRL_EN 0 = true) ∧ (s.otdEnabled (F.ING_IN_CFG_OTD.of word) =
      true) ∧ (¬(n.val % 4 ≠ 0 ∧ n.val < 128 ∧ s.flag F.ING_SDI_CFG_BOND (n / 4 * 4) = true)) ∧ (s.vidFailed n = false) ∧
      (s.reserveIn 0 (s.sdiChannels n) = some u) ∧ (u.resizeRing n frames (frames * f.pages) f.load = some v)) ∧
    (∃ (src : Requester) (n : Fin 384) (w : Word32) (word : Word) (u : State) (s : State), (word = F.ING_IN_CFG_KILL.put 0
      (F.ING_IN_CFG_ENABLE.put 1 (w.setWidth 64))) ∧ (F.ING_IN_CFG_MODE.of word = 1) ∧ (s.closedTo .ING_IN_CFG src = false) ∧
      (s.inState n = inOff) ∧ (badInCfg word = false) ∧ (s.flag F.ING_CTRL_EN 0 = true) ∧ (s.otdEnabled (F.ING_IN_CFG_OTD.of word) =
      true) ∧ (¬(n.val % 4 ≠ 0 ∧ n.val < 128 ∧ s.flag F.ING_SDI_CFG_BOND (n / 4 * 4) = true)) ∧ (s.vidFailed n = false) ∧ (s.fld
      F.ING_IN_SYNC_DELAY_FRAMES n = 0) ∧ (breaksDirect (s.allocForm word).code (s.inputPd n) = false) ∧ (s.reserveIn 0
      (s.sdiChannels n) = some u)) ∧
    (∃ (src : Requester) (n : Fin 384) (s : State), (s.closedTo .ING_IN_CFG src = false) ∧ (s.inLive n = true) ∧ (badInCfg
      (s.inCfgWith n false false) = false)) ∧
    (∃ (src : Requester) (n : Fin 384) (s : State), (s.closedTo .ING_IN_CFG src = false) ∧ (s.inState n ≠ inOff) ∧ (badInCfg
      (s.inCfgWith n false true) = false)) ∧
    (∃ (n : Fin 384) (s : State), s.inState n = inDraining) ∧
    (∃ (src : Requester) (n : Fin 384) (word : Word) (s : State), (word = F.ING_IN_CFG_MODE.put 1 (s.reg .ING_IN_CFG n)) ∧
      (s.closedTo .ING_IN_CFG src = false) ∧ (s.inLive n = true) ∧ (s.flag F.ING_IN_CFG_ENABLE n = true) ∧ (badInCfg word = false) ∧
      (s.flag F.ING_CTRL_EN 0 = true) ∧ (s.otdEnabled (s.fld F.ING_IN_CFG_OTD n) = true) ∧ (s.fld F.ING_IN_CFG_MODE n = 0) ∧ (s.fld
      F.ING_IN_SYNC_DELAY_FRAMES n = 0) ∧ (breaksDirect (s.input n).alloc.code (s.inputPd n) = false) ∧ (s.flag
      F.ING_IN_CFG_FMT_LOCK n = false)) ∧
    (∃ (src : Requester) (n : Fin 384) (word : Word) (u : State) (s : State), (word = F.ING_IN_CFG_MODE.put 0 (s.reg .ING_IN_CFG n))
      ∧ (s.closedTo .ING_IN_CFG src = false) ∧ (s.inLive n = true) ∧ (s.flag F.ING_IN_CFG_ENABLE n = true) ∧ (badInCfg word = false)
      ∧ (s.flag F.ING_CTRL_EN 0 = true) ∧ (s.otdEnabled (s.fld F.ING_IN_CFG_OTD n) = true) ∧ (s.fld F.ING_IN_CFG_MODE n = 1) ∧
      ((s.input n).direct = true) ∧ (s.flag F.ING_IN_CFG_FMT_LOCK n = false) ∧ (s.resizeRing n (ringFrames (s.input n).alloc
      (s.inputPd n) (s.fld F.ING_IN_SYNC_DELAY_FRAMES n))
      (ringFrames (s.input n).alloc (s.inputPd n) (s.fld F.ING_IN_SYNC_DELAY_FRAMES n) * (s.input n).alloc.pages) (s.input
        n).alloc.load = some u)) ∧
    (∃ (src : Requester) (n : Fin 384) (otd : Fin 8) (word : Word) (s : State), (word = F.ING_IN_CFG_OTD.put otd (s.reg .ING_IN_CFG
      n)) ∧ (s.closedTo .ING_IN_CFG src = false) ∧ (s.inLive n = true) ∧ (s.flag F.ING_IN_CFG_ENABLE n = true) ∧ (badInCfg word =
      false) ∧ (s.flag F.ING_CTRL_EN 0 = true) ∧ (s.otdEnabled otd = true) ∧ (s.fld F.ING_IN_CFG_OTD n ≠ otd) ∧ ((s.input n).dom ≠
      otd) ∧ (s.fld F.ING_IN_CFG_MODE n = 0) ∧ ((s.input n).fits = true) ∧ (fitsDomain (s.input n).alloc.code (s.otdFormat otd) =
      true) ∧ (s.flag F.ING_IN_CFG_FMT_LOCK n = false)) :=
  ⟨⟨.mgmt, 5, 0, wd [(F.ING_IN_CFG_ENABLE, 1)], Form.sdi 0x67, 3, reserved, ringed, ingOn, by decide⟩,
   ⟨.mgmt, 5, w32 (wd [(F.ING_IN_CFG_MODE, 1)]), wd [(F.ING_IN_CFG_MODE, 1), (F.ING_IN_CFG_ENABLE, 1)], reserved, ingOn, by decide⟩,
   ⟨.mgmt, 5, fl [(F.ING_IN_STAT_STATE, 5, 2)], by decide⟩,
   ⟨.mgmt, 5, fl [(F.ING_IN_STAT_STATE, 5, 2)], by decide⟩,
   ⟨5, fl [(F.ING_IN_STAT_STATE, 5, 5)], by decide⟩,
   ⟨.mgmt, 5, F.ING_IN_CFG_MODE.put 1 (liveIn.reg .ING_IN_CFG 5), liveIn, by decide⟩,
   ⟨.mgmt, 5, F.ING_IN_CFG_MODE.put 0 (directIn.reg .ING_IN_CFG 5), directRinged, directIn, by decide⟩,
   ⟨.mgmt, 5, 2, F.ING_IN_CFG_OTD.put 2 (liveIn.reg .ING_IN_CFG 5), liveIn, by decide⟩⟩

/-- The hypotheses of IngressConfigurationWrites. -/
theorem test_hypotheses_IngressConfigurationWrites :
    (∃ (src : Requester) (n : Fin 384) (w : Word32) (word : Word) (s : State), (word = w.setWidth 64) ∧ (s.closedTo .ING_IN_SYNC src
      = false) ∧ (F.ING_IN_SYNC_SAFE_LINES.of word ≠ 0) ∧ (¬(s.fld F.ING_IN_CFG_MODE n = 1 ∧ F.ING_IN_SYNC_DELAY_FRAMES.of word ≠
      0)) ∧ ((s.inLive n = false ∨ F.ING_IN_SYNC_DELAY_FRAMES.of word = s.fld F.ING_IN_SYNC_DELAY_FRAMES n ∨ (s.input n).direct =
      true))) ∧
    (∃ (src : Requester) (n : Fin 384) (w : Word32) (word : Word) (u : State) (s : State), (word = w.setWidth 64) ∧ (s.closedTo
      .ING_IN_SYNC src = false) ∧ (F.ING_IN_SYNC_SAFE_LINES.of word ≠ 0) ∧ (¬(s.fld F.ING_IN_CFG_MODE n = 1 ∧
      F.ING_IN_SYNC_DELAY_FRAMES.of word ≠ 0)) ∧ (s.inLive n = true) ∧ ((s.input n).direct = false) ∧ (F.ING_IN_SYNC_DELAY_FRAMES.of
      word ≠ s.fld F.ING_IN_SYNC_DELAY_FRAMES n) ∧ (s.growRing n (ringFrames (s.input n).alloc (s.inputPd n)
      (F.ING_IN_SYNC_DELAY_FRAMES.of word)) (s.input n).alloc = some u)) ∧
    (∃ (src : Requester) (m : Fin 256) (w : Word32) (word : Word) (s : State), (word = w.setWidth 64) ∧ (s.closedTo .ING_PKT_VID src
      = false) ∧ (F.ING_PKT_VID_TYPE.of word < 2) ∧ (F.ING_PKT_VID_VALID.on word = true) ∧ (s.isLegB (F.ING_PKT_VID_FLOW.of word) =
      false) ∧ (s.flowBound (F.ING_PKT_VID_FLOW.of word) 0 m = false)) ∧
    (∃ (src : Requester) (m : Fin 256) (w : Word32) (word : Word) (s : State), (word = w.setWidth 64) ∧ (s.closedTo .ING_PKT_PD src
      = false) ∧ (F.ING_PKT_PD_PD_MAX.of word ≤ 50000) ∧ (s.inLive (m + 128) = false) ∧ (s.fld F.ING_IN_CFG_MODE (m + 128) ≠ 1)) ∧
    (∃ (src : Requester) (m : Fin 256) (w : Word32) (word : Word) (u : State) (s : State), (word = w.setWidth 64) ∧ (s.closedTo
      .ING_PKT_PD src = false) ∧ (F.ING_PKT_PD_PD_MAX.of word ≤ 50000) ∧ (s.inLive (m + 128) = true) ∧ (s.flag F.ING_PKT_VID_VALID m
      = true) ∧ (s.twoLeg (s.fld F.ING_PKT_VID_FLOW m) = true) ∧ (s.fld F.ING_IN_CFG_MODE (m + 128) ≠ 1) ∧ (ringFrames (s.input (m +
      128)).alloc (F.ING_PKT_PD_PD_MAX.of word) (s.fld F.ING_IN_SYNC_DELAY_FRAMES (m + 128)) ≠
      s.fld F.ING_IN_ALLOC_RING_FRAMES (m + 128)) ∧ (s.growRing (m + 128) (ringFrames (s.input (m + 128)).alloc
        (F.ING_PKT_PD_PD_MAX.of word) (s.fld F.ING_IN_SYNC_DELAY_FRAMES (m + 128)))
      (s.input (m + 128)).alloc = some u)) ∧
    (∃ (src : Requester) (a : Fin 1024) (w : Word32) (word : Word) (u : State) (s : State), (word = w.setWidth 64) ∧ (s.closedTo
      .ING_AFL_CFG src = false) ∧ ((packetInput (F.ING_AFL_CFG_INPUT.of word) = true ∨ F.ING_AFL_CFG_INPUT.of word = 0x1FF)) ∧
      ((F.ING_AFL_CFG_VALID.on word = true → s.isLegB (F.ING_AFL_CFG_FLOW.of word) = false ∧ s.flowBound (F.ING_AFL_CFG_FLOW.of
      word) 1 a = false ∧
      (packetInput (F.ING_AFL_CFG_INPUT.of word) = true → s.audioOf (F.ING_AFL_CFG_INPUT.of word) a < 16))) ∧ (s.reserveIn
        (aflChannels (s.reg .ING_AFL_CFG a) (s.reg .ING_AFL_FMT a)) (aflChannels word (s.reg .ING_AFL_FMT a)) = some u)) ∧
    (∃ (src : Requester) (a : Fin 1024) (w : Word32) (word : Word) (s : State), (word = w.setWidth 64) ∧ (s.closedTo .ING_AFL_OFF
      src = false) ∧ (s.aflPtime a + 125 ≤ F.ING_AFL_OFF_OFFSET.of word) ∧ (F.ING_AFL_OFF_OFFSET.of word ≤ 60000)) ∧
    (∃ (src : Requester) (a : Fin 512) (w : Word32) (word : Word) (s : State), (word = w.setWidth 64) ∧ (s.closedTo .ING_ANF_CFG src
      = false) ∧ ((F.ING_ANF_CFG_VALID.on word = true → packetInput (F.ING_ANF_CFG_INPUT.of word) = true ∧ s.isLegB
      (F.ING_ANF_CFG_FLOW.of word) = false ∧
      s.flowBound (F.ING_ANF_CFG_FLOW.of word) 2 a = false ∧ s.ancOf (F.ING_ANF_CFG_INPUT.of word) a < 4 ∧
      ¬(s.flag F.ING_PKT_VID_VALID (F.ING_ANF_CFG_INPUT.of word - 128) = true ∧ s.fld F.ING_PKT_VID_TYPE (F.ING_ANF_CFG_INPUT.of
        word - 128) = 1)))) ∧
    (∃ (src : Requester) (n : Fin 128) (w : Word32) (word : Word) (s : State), (word = w.setWidth 64) ∧ (s.closedTo .ING_SDI_CFG src
      = false) ∧ (F.ING_SDI_CFG_RATE_FORCE.of word < 0xA) ∧ (s.inLive n = false) ∧ ((F.ING_SDI_CFG_BOND.on word = true → s.flag
      F.ING_SDI_CFG_BOND n = false → n.val % 4 = 0 →
      ∀ k : Fin 3, s.flag F.ING_IN_CFG_ENABLE (n + 1 + k) = false))) ∧
    (∃ (src : Requester) (w : Word32) (word : Word) (s : State), (word = w.setWidth 64) ∧ (s.closedTo .ING_POOL_PAGES src = false) ∧
      (word.toNat ≤ 30393) ∧ ((s.reg .ING_POOL_USED 0).toNat ≤ word.toNat) ∧ ((∀ m : Fin 256, s.flag F.VMP_SURF_CFG_VALID m = true →
      word.toNat ≤ s.fld F.VMP_SURF_CFG_FIRST m))) ∧
    (∃ (src : Requester) (s : State), s.closedTo .ING_CTRL src = false) :=
  ⟨⟨.mgmt, 5, 0xFFFFFFFF, 0xFFFFFFFF, State.reset, by decide⟩,
   ⟨.mgmt, 5, w32 delayWord, delayWord, delayGrown, liveIn, by decide⟩,
   ⟨.mgmt, 5, 0x80000003, 0x80000003, fl [(F.ING_IN_STAT_STATE, 133, 2)], by decide⟩,
   ⟨.mgmt, 5, 1000, 1000, State.reset, by decide⟩,
   ⟨.mgmt, 5, 20000, 20000, pdGrown, pdIn, by decide⟩,
   ⟨.mgmt, 5, w32 aflWord, aflWord, (aflState.reserveIn 0 2).getD aflState, aflState, by decide⟩,
   ⟨.mgmt, 5, 2000, 2000, State.reset, by decide⟩,
   ⟨.mgmt, 5, 0, 0, State.reset, by decide⟩,
   ⟨.mgmt, 4, 0x7, 0x7, State.reset, by decide⟩,
   ⟨.mgmt, 100, 100, State.reset, by decide⟩,
   ⟨.mgmt, fl [(F.ING_CTRL_EN, 0, 1), (F.ING_STATUS_RUN, 0, 1)], by decide⟩⟩

/-- The hypotheses of RoutesHeldSettledAndReleased. -/
theorem test_hypotheses_RoutesHeldSettledAndReleased :
    (∃ (h : RouteHop) (r : Route) (s : State), s.admitRoute h = .ok r) ∧
    (∃ (h : RouteHop) (e : Status) (s : State), s.admitRoute h = .error e) ∧
    (∃ (req : Nat) (r : Route) (s : State), (s.route req = some r) ∧ (r.settled = false) ∧ (r.atDest = false)) ∧
    (∃ (req : Nat) (r : Route) (s : State), (s.route req = some r) ∧ (r.settled = false) ∧ (r.atDest = true) ∧ ((∀ k ∈ s.tks.takes,
      k.req ≠ some req))) ∧
    (∃ (req : Nat) (r : Route) (s : State), (s.route req = some r) ∧ (r.settled = false) ∧ ((∀ k ∈ s.tks.takes, k.req ≠ some req)))
      ∧
    (∃ (req : Nat) (r : Route) (s : State), (s.route req = some r) ∧ (r.settled = false)) ∧
    (∃ (old : Nat) (link : Fin 16) (h : RouteHop) (r : Route) (s : State), s.admitRoute { h with replaces := some old } = .ok r) :=
  ⟨⟨hop, heldRoute, twlOn, by decide⟩,
   ⟨hop, .NOT_READY, State.reset, by decide⟩,
   ⟨7, { heldRoute with atDest := false }, notHere held, by decide⟩,
   ⟨7, heldRoute, held, by decide⟩,
   ⟨7, heldRoute, held, by decide⟩,
   ⟨7, heldRoute, held, by decide⟩,
   ⟨3, 2, hop, { heldRoute with replaces := some 3 }, twlOn, by decide⟩⟩

/-- The hypotheses of CellsQueuesAndCalendar. -/
theorem test_hypotheses_CellsQueuesAndCalendar :
    (∃ (p : Fin 168) (h : CellHdr) (e0 e1 e2 e3 : Fin 4) (view : List (Nat × Nat)) (s : State), (s.flag F.TWL_STATUS_RUN 0 = true) ∧
      ([e0, e1, e2, e3].contains 3 = false) ∧ (cellKind h = 0)) ∧
    (∃ (p : Fin 168) (slot : Fin 4096) (h : CellHdr) (e : Nat) (s : State), (s.flag F.TWL_STATUS_RUN 0 = true) ∧ (s.flag
      F.TWL_STATUS_DRAINING 0 = false) ∧ (e = Tbl.get (fun _ => 0) (s.port p).cal slot) ∧ (32768 ≤ e)) ∧
    (∃ (p : Fin 168) (slot : Fin 4096) (s : State), (s.flag F.TWL_STATUS_RUN 0 = true) ∧ (s.flag F.TWL_STATUS_DRAINING 0 = false) ∧
      ((s.port p).queues = [])) ∧
    (∃ (p : Nat) (s : State), (s.twl.routes.filter (fun r => s.hasEnded r) = []) ∧ (Tbl.wf (fun _ => default) s.twl.ports = true) ∧
      ((s.port p).flip = true)) ∧
    (∃ (p : Fin 168) (branch : Fin 5) (dchip : Fin 1024) (dport : Fin 168) (q : Nat) (s : State), (List.range 64).find? (fun k =>
      !((s.port p).queue k).open_) = some q) ∧
    (∃ (p : Fin 168) (q : Fin 64) (h : CellHdr) (s : State), (s.flag F.TWL_STATUS_DRAINING 0 = false) ∧ (s.flag F.TWL_STATUS_RUN 0 =
      true) ∧ (((s.port p).queue q).open_ = true) ∧ (((s.port p).queue q).cells.length < 64)) ∧
    (∃ (k : Fin 16) (dchip : Fin 1024) (dport : Fin 168) (n : Nat) (tag : Word32) (s : State), (s.lkState k = lkUp ∨ s.lkState k =
      lkDraining ∨ s.lkState k = lkHold)) :=
  ⟨⟨3, 5, 0, 1, 2, 0, [], twlOn, by decide⟩,
   ⟨3, 9, 5, 32770, twlOn.setPort 3 { (default : SlicePort) with cal := [(9, 32770)] }, by decide⟩,
   ⟨3, 9, twlOn, by decide⟩,
   ⟨3, twlOn.setPort 3 { (default : SlicePort) with shadow := [(9, 32770)], flip := true }, by decide⟩,
   ⟨0, 1, 2, 3, 1, queued, by decide⟩,
   ⟨0, 0, 5, queued, by decide⟩,
   ⟨3, 2, 4, 5, 0, fl [(F.WLT_LK_STAT_STATE, 3, 5)], by decide⟩⟩

/-- The hypotheses of SlicePortsSwapAndTwillDrain. -/
theorem test_hypotheses_SlicePortsSwapAndTwillDrain :
    (∃ (src : Requester) (p : Fin 256) (spare : Fin 2) (s : State), (s.closedTo .TWL_SWAP_CTRL src = false) ∧ (p.val < 168) ∧
      (s.twl.swap = none) ∧ (s.fld F.TWL_SP_STAT_STATE p = spInService) ∧ (s.spareFree (p / 21) spare = true)) ∧
    (∃ (src : Requester) (p : Fin 256) (s : State), (s.closedTo .TWL_SWAP_CTRL src = false) ∧ (p.val < 168) ∧ (s.twl.swap = none) ∧
      (s.fld F.TWL_SP_STAT_STATE p = spOnSpare)) ∧
    (∃ (w : Swap) (s : State), (s.twl.swap = some w) ∧ (w.back = false)) ∧
    (∃ (p : Fin 168) (s : State), (s.spareFree (p / 21) 0 = false) ∧ (s.spareFree (p / 21) 1 = false) ∧ ((s.fld F.TWL_SP_STAT_STATE
      p = spInService ∨ s.fld F.TWL_SP_STAT_STATE p = spOnSpare))) ∧
    (∃ (src : Requester) (s : State), (s.closedTo .TWL_CTRL src = false) ∧ (s.flag F.TWL_STATUS_RUN 0 = true)) ∧
    (∃ (k : Nat) (s : State), s.flag F.TWL_STATUS_DRAINING 0 = true) ∧
    (∃ (src : Requester) (inFlight : Nat) (s : State), s.closedTo .TWL_CTRL src = false) ∧
    (∃ (src : Requester) (source : Bool) (ix : Fin 3) (w : Word32) (s : State), (s.closedTo (if source then .TWL_V6SRC else
      .TWL_V6PFX) src = false) ∧ (s.dir.any (fun e => dirValid e.2 && e.2.getLsbD 126) = false)) :=
  ⟨⟨.mgmt, 30, 1, twlOn, by decide⟩,
   ⟨.mgmt, 30, fl [(F.TWL_SP_STAT_STATE, 30, 2)], by decide⟩,
   ⟨⟨30, 45, 1, false⟩, { twlOn with twl := { twlOn.twl with swap := some ⟨30, 45, 1, false⟩ } }, by decide⟩,
   ⟨30, rg [(.TWL_SPARE_MAP, 1, 0)], by decide⟩,
   ⟨.mgmt, twlOn, by decide⟩,
   ⟨3, (fl [(F.TWL_STATUS_DRAINING, 0, 1)] twlOn).setPort 3 { (default : SlicePort) with buffer := 4 }, by decide⟩,
   ⟨.mgmt, 4, twlOn, by decide⟩,
   ⟨.mgmt, true, 2, 0x20010DB8, twlOn, by decide⟩⟩

/-- The hypotheses of DirectoryOrdersUpdatesAndResync. -/
theorem test_hypotheses_DirectoryOrdersUpdatesAndResync :
    (∃ (src : Requester) (i : Fin 4) (s : State), (s.closedTo .TWL_DIR_CMD src = false) ∧ (s.flag F.TWL_DIR_RESULT_BUSY 0 = false))
      ∧
    (∃ (src : Requester) (ovf : Bool) (flow : Nat) (s : State), (s.closedTo .TWL_DIR_CMD src = false) ∧ (s.flag
      F.TWL_DIR_RESULT_BUSY 0 = false) ∧ (flow = s.fld F.TWL_DIR_INDEX_FLOW 0) ∧ (s.badDirWrite flow s.dirData = false) ∧ (dirOrigin
      s.dirData / 512 = s.domainId) ∧ ((ovf = true → s.twl.dirs.overflow.length < 256)) ∧ ((dirValid (s.dirEntry flow) = true →
      dirOrigin (s.dirEntry flow) / 512 = s.domainId))) ∧
    (∃ (src : Requester) (flow : Nat) (s : State), (s.closedTo .TWL_DIR_CMD src = false) ∧ (s.flag F.TWL_DIR_RESULT_BUSY 0 = false)
      ∧ (flow = s.fld F.TWL_DIR_INDEX_FLOW 0) ∧ (dirValid (s.dirEntry flow) = true) ∧ (dirOrigin (s.dirEntry flow) / 512 =
      s.domainId) ∧ (s.twl.routes.any (fun r => r.settled && r.flow == flow) = false)) ∧
    (∃ (u : DirUpdate) (ovf : Bool) (e : Word128) (s : State), (s.ahead u = 0) ∧ (s.twl.dirs.held = []) ∧ (u.entry = some e) ∧
      ((dirValid (s.dirEntry u.flow) = true → dirOrigin (s.dirEntry u.flow) / 512 = u.origin))) ∧
    (∃ (part from_ n : Nat) (s : State), (n = ((s.reg .TWL_DIR_SEQ 0).toNat + 1 + 2 ^ 32 - from_) % 2 ^ 32) ∧ (n ≤
      s.twl.dirs.log.length)) ∧
    (∃ (part seq : Nat) (p : DirPending) (s : State), (s.twl.dirs.pend.find? (fun q => q.upd.seq == seq) = some p) ∧
      (p.waiting.filter (· != part) = []) ∧ (p.conflict = false) ∧ (p.who = none)) ∧
    (∃ (seq : Nat) (p : DirPending) (s : State), (s.twl.dirs.pend.find? (fun q => q.upd.seq == seq) = some p) ∧ (p.conflict = false)
      ∧ (p.who = none)) ∧
    (∃ (origins : List Nat) (s : State), origins ≠ []) ∧
    (∃ (origin : Nat) (s : State), s.twl.dirs.awaiting.contains origin = true) :=
  ⟨⟨.mgmt, 3, rg [(.TWL_DIR_INDEX, 0, 8)] twlOn, by decide⟩,
   ⟨.mgmt, false, 0, dirCmd, by decide⟩,
   ⟨.mgmt, 8, rg [(.TWL_DIR_INDEX, 0, 8)] twlOn, by decide⟩,
   ⟨⟨3, 1, 20, some (BitVec.ofNat 128 (2 ^ 127 + 3 * 512 * 2 ^ 103))⟩, false, BitVec.ofNat 128 (2 ^ 127 + 3 * 512 * 2 ^ 103), twlOn,
     by decide⟩,
   ⟨4, 0, 1, twlOn.setDirs { (default : Dirs) with log := [⟨0, 0, 8, none⟩] }, by decide⟩,
   ⟨9, 5, ⟨⟨0, 5, 8, some ownEntry⟩, [9], false, none⟩, dirWait, by decide⟩,
   ⟨5, ⟨⟨0, 5, 8, some ownEntry⟩, [9], false, none⟩, dirWait, by decide⟩,
   ⟨[3, 4], twlOn, by decide⟩,
   ⟨3, twlOn.setDirs { (default : Dirs) with awaiting := [3, 4] }, by decide⟩⟩

/-- The hypotheses of TakesAdmittedArmedAndSwitched. -/
theorem test_hypotheses_TakesAdmittedArmedAndSwitched :
    (∃ (key : Key) (salvo : Nat) (atomic : Bool) (time : Nat) (members : List (Word × TakeView)) (s : State), (s.entry key = none) ∧
      (s.appliedAt key 0 = none) ∧ (s.fenced = false) ∧ (s.flag F.NIM_CTRL_EN 0 = true) ∧ (4 ≤ (s.reg .NIM_JRN_FREE 0).toNat)) ∧
    (∃ (key : Key) (salvo : Nat) (atomic : Bool) (time : Nat) (members : List (Word × TakeView)) (e : JEntry) (s : State), (s.entry
      key = some e) ∧ (e.phase = .complete)) ∧
    (∃ (key : Key) (sig pos : Nat) (k : PendTake) (s : State), (s.takeAt key sig pos = some k) ∧ (k.own = .OK)) ∧
    (∃ (key : Key) (sig pos : Nat) (k : PendTake) (s : State), (s.takeAt key sig pos = some k) ∧ (k.armed = false) ∧ (k.own = .OK) ∧
      (k.routed = true) ∧ ((s.paired = true → k.partner = some .OK)) ∧ (s.meetFrame k.otd (s.otdNow k.otd) ≤ k.frame)) ∧
    (∃ (d : Fin 8) (k : PendTake) (s : State), (s.otdEnabled d = true) ∧ (s.tks.takes = [k]) ∧ (k.otd = d) ∧ (k.frame = (s.otd
      d).frame) ∧ (k.armed = true) ∧ (k.own = .OK) ∧ (k.src < 2 ^ 19)) ∧
    (∃ (key : Key) (sig pos : Nat) (v : TakeView) (k : PendTake) (s : State), (s.takeAt key sig pos = some k) ∧ (k.armed = true)) ∧
    (∃ (n : Fin 128) (v : TakeView) (form : Form) (u : State) (r : Nat) (s : State), (s.flag F.EGR_OUT_TAKE_PATH_LOST n = true) ∧
      ((s.out n).route = none) ∧ (form = (match (s.out n).view.form with | some f => f | none => Form.sdi (s.otdFormat (s.fld
      F.EGR_OUT_CFG_OTD n)))) ∧ (s.requestRoute (s.fld F.EGR_OUT_TAKE_SOURCE n) form v (outPorts n) none none = (u, .ok r))) ∧
    (∃ (d : Fin 8) (phases : List (Fin 384 × Int)) (crcs : List (Fin 128 × BitVec 64 × BitVec 6)) (k : Nat) (s : State),
      (s.otdEnabled d = true) ∧ (k = (match (s.otd d).target with | some f => f | none => (s.otd d).frame + 1))) :=
  ⟨⟨⟨3, 9, 1⟩, 0, false, 0, [(0, default)], fl [(F.NIM_CTRL_EN, 0, 1)], by decide⟩,
   ⟨⟨3, 9, 1⟩, 0, false, 0, [], { (default : JEntry) with key := ⟨3, 9, 1⟩, phase := .complete },
     { State.reset with nim := { (default : Nim) with journal := [{ (default : JEntry) with key := ⟨3, 9, 1⟩, phase := .complete }] } },
     by decide⟩,
   ⟨default, 0, 0, pend, taking pend, by decide⟩,
   ⟨default, 0, 0, pend, taking pend, by decide⟩,
   ⟨0, { pend with armed := true, frame := 0 }, taking { pend with armed := true, frame := 0 }, by decide⟩,
   ⟨default, 0, 0, default, { pend with armed := true }, taking { pend with armed := true }, by decide⟩,
   ⟨3, default, Form.sdi 0x67, lostShared, 7, lostOut, by decide⟩,
   ⟨0, [], [], 1, outOn, by decide⟩⟩

/-- The hypotheses of CrossCheckRecordsCompared. -/
theorem test_hypotheses_CrossCheckRecordsCompared :
    (∃ (r : XchkRec) (s : State), s.xchkOn = true) ∧
    (∃ (r own : XchkRec) (s : State), (s.xchkOn = true) ∧ (s.tks.sentX.find? (fun o => o.out == r.out && o.frame == r.frame) = some
      own) ∧ (own.src ≠ r.src)) :=
  ⟨⟨⟨3, 9, 1, 5, 0⟩, mirrorX, by decide⟩,
   ⟨⟨3, 9, 1, 6, 0⟩, ⟨3, 9, 1, 5, 0⟩, mirrorX, by decide⟩⟩

/-- The hypotheses of DomainsConfiguredAndPhased. -/
theorem test_hypotheses_DomainsConfiguredAndPhased :
    (∃ (src : Requester) (d : Fin 8) (w : Word32) (word : Word) (fmt : Nat) (s : State), (word = w.setWidth 64) ∧ (fmt =
      F.EGR_OTD_CFG_FORMAT.of word) ∧ (s.closedTo .EGR_OTD_CFG src = false) ∧ (F.EGR_OTD_CFG_ENABLE.on word = true) ∧ (s.otdEnabled
      d = false) ∧ (fmtAccepted fmt = true) ∧ (s.otdPhase d < framePeriod fmt) ∧ (s.tbRunning (F.EGR_OTD_CFG_TB.of word) = true)) ∧
    (∃ (src : Requester) (d : Fin 8) (w : Word32) (word : Word) (fmt : Nat) (s : State), (word = w.setWidth 64) ∧ (fmt =
      F.EGR_OTD_CFG_FORMAT.of word) ∧ (s.closedTo .EGR_OTD_CFG src = false) ∧ (F.EGR_OTD_CFG_ENABLE.on word = true) ∧ (s.otdEnabled
      d = true) ∧ ((fmt ≠ s.otdFormat d ∨ F.EGR_OTD_CFG_TB.of word ≠ s.otdTb d)) ∧ (fmtAccepted fmt = true) ∧ (s.otdPhase d <
      framePeriod fmt) ∧ (s.domainPending d = false) ∧ ((F.EGR_OTD_CFG_TB.of word ≠ s.otdTb d → s.tbRunning (F.EGR_OTD_CFG_TB.of
      word) = true))) ∧
    (∃ (src : Requester) (d : Fin 8) (w : Word32) (word : Word) (s : State), (word = w.setWidth 64) ∧ (s.closedTo .EGR_OTD_PHASE src
      = false) ∧ (word.toNat * 65536 + 65536 ≤ framePeriod (s.otdFormat d)) ∧ ((s.otdEnabled d = true → s.domainPending d = false)))
      ∧
    (∃ (src : Requester) (d : Fin 8) (w : Word32) (word : Word) (s : State), (word = w.setWidth 64) ∧ (s.closedTo .EGR_OTD_PHASE src
      = false) ∧ (framePeriod (s.otdFormat d) < word.toNat * 65536 + 65536)) :=
  ⟨⟨.mgmt, 1, w32 (wd [(F.EGR_OTD_CFG_ENABLE, 1), (F.EGR_OTD_CFG_FORMAT, 0x67)]), wd [(F.EGR_OTD_CFG_ENABLE, 1),
    (F.EGR_OTD_CFG_FORMAT, 0x67)], 0x67, egrOn, by decide⟩,
   ⟨.mgmt, 0, w32 (wd [(F.EGR_OTD_CFG_ENABLE, 1), (F.EGR_OTD_CFG_FORMAT, 0x66)]), wd [(F.EGR_OTD_CFG_ENABLE, 1),
     (F.EGR_OTD_CFG_FORMAT, 0x66)], 0x66, egrOn, by decide⟩,
   ⟨.mgmt, 0, 1000, 1000, egrOn, by decide⟩,
   ⟨.mgmt, 0, 0xFFFFFFFF, 0xFFFFFFFF, egrOn, by decide⟩⟩

/-- The hypotheses of OutputsEnabledDrainedAndRun. -/
theorem test_hypotheses_OutputsEnabledDrainedAndRun :
    (∃ (src : Requester) (n : Fin 128) (w : Word32) (word : Word) (u : State) (s : State), (word = F.EGR_OUT_CFG_KILL.put 0
      (F.EGR_OUT_CFG_ENABLE.put 1 (w.setWidth 64))) ∧ (s.closedTo .EGR_OUT_CFG src = false) ∧ (s.outState n = 0) ∧ (badOutCfg word =
      false) ∧ (s.badPattern word = false) ∧ (s.fld F.TWL_SP_STAT_STATE (3 * (n / 16)) ≠ spGated) ∧ (s.bondedPart n = false) ∧
      (s.flag F.EGR_CTRL_EN 0 = true) ∧ (s.otdEnabled (F.EGR_OUT_CFG_OTD.of word) = true) ∧ (s.vidFailed n = false) ∧ (s.reserveOut
      0 (outChannels (s.reg .EGR_OUT_AUD n)) = some u)) ∧
    (∃ (src : Requester) (n : Fin 128) (word : Word) (s : State), (word = F.EGR_OUT_CFG_KILL.put 0 (F.EGR_OUT_CFG_ENABLE.put 0
      (s.reg .EGR_OUT_CFG n))) ∧ (s.closedTo .EGR_OUT_CFG src = false) ∧ (s.outState n = 1) ∧ (badOutCfg word = false) ∧
      (s.badPattern word = false)) ∧
    (∃ (src : Requester) (n : Fin 128) (word : Word) (s : State), (word = F.EGR_OUT_CFG_KILL.put 1 (F.EGR_OUT_CFG_ENABLE.put 0
      (s.reg .EGR_OUT_CFG n))) ∧ (s.closedTo .EGR_OUT_CFG src = false) ∧ (s.outState n ≠ 0) ∧ (badOutCfg word = false)) ∧
    (∃ (n : Fin 128) (s : State), s.outState n = 2) ∧
    (∃ (n : Fin 128) (gaps slips ancDrops : Nat) (s : State), s.outState n ≠ 0) ∧
    (∃ (src : Requester) (n : Fin 128) (ovr : BitVec 2) (pat : Fin 16) (word : Word) (s : State), (word = F.EGR_OUT_CFG_OVERRIDE.put
      ovr.toNat (F.EGR_OUT_CFG_PAT.put pat (s.reg .EGR_OUT_CFG n))) ∧ (s.closedTo .EGR_OUT_CFG src = false) ∧ (s.outState n = 1) ∧
      (s.flag F.EGR_OUT_CFG_ENABLE n = true) ∧ (badOutCfg word = false) ∧ (s.badPattern word = false)) ∧
    (∃ (src : Requester) (p : Fin 16) (w : Word32) (word : Word) (s : State), (word = w.setWidth 64) ∧ (s.closedTo .EGR_PAT_CFG src
      = false) ∧ ((F.EGR_PAT_CFG_ENABLE.on word = true → s.flag F.EGR_PAT_CFG_ENABLE p = true → F.EGR_PAT_CFG_OTD.of word = s.fld
      F.EGR_PAT_CFG_OTD p)) ∧ ((F.EGR_PAT_CFG_ENABLE.on word = true → s.flag F.EGR_PAT_CFG_ENABLE p = false → ∀ q : Fin 4, p / 4 * 4
      + q.val ≠ p.val →
      s.flag F.EGR_PAT_CFG_ENABLE (p / 4 * 4 + q) = true → rasterOf (s.otdFormat (F.EGR_PAT_CFG_OTD.of word)) ≠ 8 ∧
      rasterOf (s.otdFormat (s.fld F.EGR_PAT_CFG_OTD (p / 4 * 4 + q))) ≠ 8))) ∧
    (∃ (src : Requester) (n : Fin 128) (ix : Fin 8) (w : Word32) (s : State), (s.closedTo .EGR_OUT_IDENT src = false) ∧ (s.outState
      n ≠ 2)) ∧
    (∃ (src : Requester) (n : Fin 128) (w : Word32) (word : Word) (u : State) (s : State), (word = w.setWidth 64) ∧ (s.closedTo
      .EGR_OUT_AUD src = false) ∧ (s.outState n ≠ 2) ∧ (F.EGR_OUT_AUD_MODE.of word ≠ 3) ∧ (F.EGR_OUT_AUD_CHANNELS.of word ≤ 32) ∧
      ((F.EGR_OUT_AUD_MODE.of word = 2 → F.EGR_OUT_AUD_BASE.of word + F.EGR_OUT_AUD_CHANNELS.of word ≤ 8192)) ∧ ((if s.outState n =
      0 then some s else s.reserveOut (outChannels (s.reg .EGR_OUT_AUD n)) (outChannels word)) = some u)) ∧
    (∃ (src : Requester) (n : Fin 128) (w : Word32) (word : Word) (s : State), (word = w.setWidth 64) ∧ (s.closedTo .EGR_OUT_SDI src
      = false) ∧ (s.outState n ≠ 2) ∧ ((n.val % 4 = 0 → F.EGR_OUT_SDI_BOND.on word = true → s.flag F.EGR_OUT_SDI_BOND n = false →
      (∀ k : Fin 3, s.flag F.EGR_OUT_CFG_ENABLE (n + 1 + k) = false) ∧ rasterOf (s.otdFormat (s.fld F.EGR_OUT_CFG_OTD n)) = 8))) ∧
    (∃ (src : Requester) (n : Fin 128) (s : State), s.closedTo .EGR_CTRL src = false) :=
  ⟨⟨.mgmt, 4, 0, wd [(F.EGR_OUT_CFG_ENABLE, 1)], egrOn, egrOn, by decide⟩,
   ⟨.mgmt, 3, F.EGR_OUT_CFG_KILL.put 0 (F.EGR_OUT_CFG_ENABLE.put 0 (outOn.reg .EGR_OUT_CFG 3)), outOn, by decide⟩,
   ⟨.mgmt, 3, F.EGR_OUT_CFG_KILL.put 1 (F.EGR_OUT_CFG_ENABLE.put 0 (outOn.reg .EGR_OUT_CFG 3)), outOn, by decide⟩,
   ⟨3, fl [(F.EGR_OUT_STAT_STATE, 3, 2)], by decide⟩,
   ⟨3, 2, 0, 1, outOn, by decide⟩,
   ⟨.mgmt, 3, 1, 2, F.EGR_OUT_CFG_OVERRIDE.put 1 (F.EGR_OUT_CFG_PAT.put 2 (outOn.reg .EGR_OUT_CFG 3)), outOn, by decide⟩,
   ⟨.mgmt, 2, w32 (wd [(F.EGR_PAT_CFG_ENABLE, 1)]), wd [(F.EGR_PAT_CFG_ENABLE, 1)], egrOn, by decide⟩,
   ⟨.mgmt, 3, 2, 0x41424344, outOn, by decide⟩,
   ⟨.mgmt, 3, w32 (wd [(F.EGR_OUT_AUD_MODE, 2), (F.EGR_OUT_AUD_CHANNELS, 2)]), wd [(F.EGR_OUT_AUD_MODE, 2), (F.EGR_OUT_AUD_CHANNELS,
     2)], (outOn.reserveOut 0 2).getD outOn, outOn, by decide⟩,
   ⟨.mgmt, 3, 0xFFFFFFFF, 0xFFFFFFFF, outOn, by decide⟩,
   ⟨.mgmt, 3, outOn, by decide⟩⟩

/-- The hypotheses of SendersBoundSentAndStopped. -/
theorem test_hypotheses_SendersBoundSentAndStopped_1 :
    (∃ (src : Requester) (ix : Fin 256) (w : Word32) (v : TakeView) (word : Word) (rate : Nat) (s : State), (word = w.setWidth 64) ∧
      (s.closedTo .EGR_VSND_CFG src = false) ∧ (F.EGR_VSND_CFG_VALID.on word = true) ∧ (F.EGR_VSND_CFG_MODE.on word = false) ∧
      (s.isLegB (F.EGR_VSND_CFG_FLOW.of word) = false) ∧ ((F.EGR_VSND_CFG_DUAL.on word = true → s.sndPortA .video ix ≠ s.sndPortB
      .video ix)) ∧ (s.bindable (F.EGR_VSND_CFG_FLOW.of word) (if F.EGR_VSND_CFG_TYPE.on word then 2 else 1) = true) ∧ (s.sndAsleep
      .video ix (s.sndPortA .video ix) (s.sndPortB .video ix) = false) ∧ (s.hbrmtUnfit word = false) ∧ (rate = (if
      F.EGR_VSND_CFG_TYPE.on word then hbrmtRate (s.vsndForm ix word v).code ((s.dirEntry (F.EGR_VSND_CFG_FLOW.of word)).getLsbD
      126)
      else videoRate (s.vsndForm ix word v) (s.fld F.EGR_VSND_PORT_PAYLOAD ix) ((s.dirEntry (F.EGR_VSND_CFG_FLOW.of word)).getLsbD
        126))) ∧ (((s.store .EGR_VSND_CFG ix word).runSender .video ix rate).legsFit .video ix = true)) ∧
    (∃ (src : Requester) (ix : Fin 256) (w : Word32) (v : TakeView) (word : Word) (s : State), (word = w.setWidth 64) ∧ (s.closedTo
      .EGR_VSND_SRC src = false) ∧ (¬(s.flag F.EGR_VSND_CFG_VALID ix = true ∧ s.flag F.EGR_VSND_CFG_MODE ix = true ∧
      F.EGR_VSND_SRC_SOURCE.of word ≠ noSource))) ∧
    (∃ (src : Requester) (ix : Fin 256) (w : Word32) (v : TakeView) (word : Word) (u : State) (s : State), (word = w.setWidth 64) ∧
      (s.closedTo .EGR_VSND_SRC src = false) ∧ (s.flag F.EGR_VSND_CFG_VALID ix = true) ∧ (s.flag F.EGR_VSND_CFG_MODE ix = true) ∧
      (F.EGR_VSND_SRC_SOURCE.of word ≠ noSource) ∧ (s.askSource ix (F.EGR_VSND_SRC_SOURCE.of word) v = (u, .OK))) ∧
    (∃ (src : Requester) (ix : Fin 1024) (w : Word32) (word : Word) (u : State) (rate : Nat) (s : State), (word = w.setWidth 64) ∧
      (s.closedTo .EGR_ASND_CFG src = false) ∧ (badAsnd word (s.reg .EGR_ASND_FMT ix) = false) ∧ (s.reserveOut (asndChannels (s.reg
      .EGR_ASND_CFG ix) (s.reg .EGR_ASND_FMT ix)) (asndChannels word (s.reg .EGR_ASND_FMT ix)) = some u) ∧ (F.EGR_ASND_CFG_VALID.on
      word = true) ∧ (s.isLegB (F.EGR_ASND_CFG_FLOW.of word) = false) ∧ ((F.EGR_ASND_CFG_DUAL.on word = true → s.sndPortA .audio ix
      ≠ s.sndPortB .audio ix)) ∧ (s.bindable (F.EGR_ASND_CFG_FLOW.of word) (if F.EGR_ASND_CFG_KIND.on word then 4 else 3) = true) ∧
      (s.sndAsleep .audio ix (s.sndPortA .audio ix) (s.sndPortB .audio ix) = false) ∧ (rate = audioRate (F.EGR_ASND_CFG_KIND.on
      word) (s.fld F.EGR_ASND_FMT_CHANNELS ix) (s.flag F.EGR_ASND_FMT_RATE ix)
      (s.fld F.EGR_ASND_FMT_PTIME ix == 1) ((s.dirEntry (F.EGR_ASND_CFG_FLOW.of word)).getLsbD 126)) ∧ (((u.store .EGR_ASND_CFG ix
        word).runSender .audio ix rate).legsFit .audio ix = true)) ∧
    (∃ (src : Requester) (ix : Fin 1024) (w : Word32) (word : Word) (u : State) (s : State), (word = w.setWidth 64) ∧ (s.closedTo
      .EGR_ASND_FMT src = false) ∧ (badAsnd (s.reg .EGR_ASND_CFG ix) word = false) ∧ (s.flag F.EGR_ASND_CFG_VALID ix = false) ∧
      (s.reserveOut (asndChannels (s.reg .EGR_ASND_CFG ix) (s.reg .EGR_ASND_FMT ix)) (asndChannels (s.reg .EGR_ASND_CFG ix) word) =
      some u)) ∧
    (∃ (src : Requester) (ix : Fin 512) (w : Word32) (word : Word) (s : State), (word = w.setWidth 64) ∧ (s.closedTo .EGR_XSND_CFG
      src = false) ∧ (F.EGR_XSND_CFG_VALID.on word = true) ∧ (s.isLegB (F.EGR_XSND_CFG_FLOW.of word) = false) ∧
      ((F.EGR_XSND_CFG_DUAL.on word = true → s.sndPortA .anc ix ≠ s.sndPortB .anc ix)) ∧ (s.bindable (F.EGR_XSND_CFG_FLOW.of word) 5
      = true) ∧ (s.sndAsleep .anc ix (s.sndPortA .anc ix) (s.sndPortB .anc ix) = false)) ∧
    (∃ (ix : Fin 256) (k : Nat) (late : Bool) (s : State), ((s.sender .video ix).run = true) ∧ (s.fenced = false) ∧ (s.sndBound
      .video ix = true) ∧ ((s.sndLegs .video ix (s.sender .video ix).takeover).1 = true) ∧ (s.linkUp (s.sndPortA .video ix) = true))
      ∧
    (∃ (ix : Fin 256) (k : Nat) (late : Bool) (s : State), ((s.sender .video ix).run = true) ∧ (s.fenced = false) ∧ (s.sndBound
      .video ix = true) ∧ (s.flag F.EGR_VSND_CFG_MODE ix = true)) ∧
    (∃ (ix : Fin 1024) (first : Nat) (s : State), ((s.sender .audio ix).run = true) ∧ (s.fenced = false) ∧ (s.sndBound .audio ix =
      true) ∧ (s.sndLegs .audio ix (s.sndTakeover .audio ix && s.mirrored && s.partnerLost) = (true, false)) ∧ (s.linkUp (s.sndPortA
      .audio ix) = true)) ∧
    (∃ (ix : Fin 512) (field : Nat) (last : Bool) (s : State), ((s.sender .anc ix).run = true) ∧ (s.fenced = false) ∧ (s.sndBound
      .anc ix = true) ∧ (s.sndLegs .anc ix (s.sender .anc ix).takeover = (true, false)) ∧ (s.linkUp (s.sndPortA .anc ix) = true)) ∧
    (∃ (src : Requester) (ix : Fin 1024) (s : State), s.closedTo .EGR_VSND_CFG src = false) ∧
    (∃ (src : Requester) (ix : Fin 1024) (word : Word) (u : State) (s : State), (word = F.EGR_ASND_CFG_VALID.put 0 (s.reg
      .EGR_ASND_CFG ix)) ∧ (s.closedTo .EGR_ASND_CFG src = false) ∧ (badAsnd word (s.reg .EGR_ASND_FMT ix) = false) ∧ (s.reserveOut
      (asndChannels (s.reg .EGR_ASND_CFG ix) (s.reg .EGR_ASND_FMT ix)) (asndChannels word (s.reg .EGR_ASND_FMT ix)) = some u)) :=
  ⟨⟨.mgmt, 5, w32 vsndWord, default, vsndWord, videoRate (Form.sdi 0x67) 1200 false, fl [(F.EGR_OUT_CFG_DEPTH, 3, 1)] (bound 1), by
    decide⟩,
   ⟨.mgmt, 5, 9, default, 9, bound 1, by decide⟩,
   ⟨.mgmt, 5, 9, default, 9, asked, askable, by decide⟩,
   ⟨.mgmt, 5, w32 asndWord, asndWord, asnd, audioRate false 2 false false false, asnd, by decide⟩,
   ⟨.mgmt, 7, w32 (wd [(F.EGR_ASND_FMT_CHANNELS, 2)]), wd [(F.EGR_ASND_FMT_CHANNELS, 2)], bound 3, bound 3, by decide⟩,
   ⟨.mgmt, 5, w32 xsndWord, xsndWord, bound 5, by decide⟩,
   ⟨5, 4, true, vsnd, by decide⟩,
   ⟨5, 4, true, fl [(F.EGR_VSND_CFG_MODE, 5, 1)] vsnd, by decide⟩,
   ⟨5, 96, asnd, by decide⟩,
   ⟨5, 96, true, xsnd, by decide⟩,
   ⟨.mgmt, 5, vsnd, by decide⟩,
   ⟨.mgmt, 5, F.EGR_ASND_CFG_VALID.put 0 (asnd.reg .EGR_ASND_CFG 5), asnd, asnd, by decide⟩⟩

/-- The hypotheses of SendersBoundSentAndStopped. -/
theorem test_hypotheses_SendersBoundSentAndStopped_2 :
    (∃ (src : Requester) (ix : Fin 1024) (s : State), s.closedTo .EGR_XSND_CFG src = false) :=
  ⟨.mgmt, 5, xsnd, by decide⟩

/-- The hypotheses of JoinsAndHealthFollowTheirRules. -/
theorem test_hypotheses_JoinsAndHealthFollowTheirRules :
    (∃ (src : Requester) (j : Fin 4096) (port : Fin 32) (flow : BitVec 19) (word : Word) (s : State), (word = BitVec.ofNat 64 (2 ^
      31 + port.val * 2 ^ 21 + flow.toNat)) ∧ (s.closedTo .EGR_JOIN_ENT src = false) ∧ (dirValid (s.dirEntry flow.toNat) = true) ∧
      (s.flag F.NPT_PORT_STAT_EXISTS port = true) ∧ (s.wakeOnly port = false) ∧ (word ≠ s.reg .EGR_JOIN_ENT j)) ∧
    (∃ (src : Requester) (j : Fin 4096) (s : State), s.closedTo .EGR_JOIN_ENT src = false) ∧
    (∃ (j : Fin 4096) (s : State), (s.join j).repeats ≠ 0) ∧
    (∃ (j : Fin 4096) (s : State), s.joinState j = joinReceiving) ∧
    (∃ (port : Fin 32) (j : Nat) (s : State), (s.egr.joins.any (fun e => e.1 == j) = true) ∧ (s.fld F.EGR_JOIN_ENT_PORT j = port) ∧
      (s.joinLive j = true)) ∧
    (∃ (j : Fin 4096) (s : State), (s.join j).queried = true) ∧
    (∃ (port : Fin 32) (j : Nat) (s : State), (s.egr.joins.any (fun e => e.1 == j) = true) ∧ (s.fld F.EGR_JOIN_ENT_PORT j = port) ∧
      (s.joinLive j = true) ∧ (s.isSsm (s.fld F.EGR_JOIN_ENT_FLOW j) = true)) ∧
    (∃ (port : Fin 32) (j : Nat) (s : State), (s.egr.joins.any (fun e => e.1 == j) = true) ∧ (s.fld F.EGR_JOIN_ENT_PORT j = port) ∧
      (s.joinState j = joinDegraded)) ∧
    (∃ (pinB : Bool) (s : State), s.healthFail pinB = 0) ∧
    (∃ (src : Requester) (releaseB : Bool) (s : State), (s.closedTo .EGR_HEALTH_CTRL src = false) ∧ (s.otdEnabled (s.fld
      F.EGR_HEALTH_CFG_RELEASE_OTD 0) = true) ∧ (s.flag F.EGR_HEALTH_CTRL_RELEASE_A 0 = false)) :=
  ⟨⟨.mgmt, 5, 1, 8, BitVec.ofNat 64 (2 ^ 31 + 2 ^ 21 + 8), joinAt 2, by decide⟩,
   ⟨.mgmt, 5, joinAt 2, by decide⟩,
   ⟨5, joinAt 2, by decide⟩,
   ⟨5, joinAt 2, by decide⟩,
   ⟨0, 5, joinAt 2, by decide⟩,
   ⟨5, joinAt 2, by decide⟩,
   ⟨0, 5, joinAt 2, by decide⟩,
   ⟨0, 5, joinAt 4, by decide⟩,
   ⟨true, fl [(⟨.EGR_HEALTH_MASK_B, 3, 1⟩, 0, 1), (F.EGR_OUT_CFG_SDI_EN, 3, 0)] outOn, by decide⟩,
   ⟨.mgmt, true, egrOn, by decide⟩⟩

/-- The hypotheses of SelfCheckDecidesWhoFences. -/
theorem test_hypotheses_SelfCheckDecidesWhoFences :
    (∃ (step : Fin 6) (s : State), (s.tks.check = some none) ∧ (s.tks.partnerCheck = none)) ∧
    (∃ (step : Fin 6) (s : State), (s.tks.check = some none) ∧ (s.tks.partnerCheck = some true) ∧ (step.val ≠ 0)) ∧
    (∃ (passed : Bool) (s : State), s.tks.check = some none) ∧
    (∃ (passed : Bool) (n : Nat) (s : State), (s.tks.check = some (some n)) ∧ ((n = 0 ∨ passed = false))) ∧
    (∃ (n : Nat) (s : State), (s.tks.check = some (some n)) ∧ (n ≠ 0) ∧ (s.fenced = false) ∧ (n < 8)) ∧
    (∃ (n : Nat) (s : State), s.tks.check = some (some n)) ∧
    (∃ (s : State), (s.xchkOn = true) ∧ (s.paired = true) ∧ (s.rsl.probing = false) ∧ (s.fld F.RSL_XCHK_CFG_MISS_FRAMES 0 ≤
      s.tks.missing)) :=
  ⟨⟨3, { State.reset with tks := { (default : Tks) with check := some none } }, by decide⟩,
   ⟨3, { State.reset with tks := { (default : Tks) with check := some none, partnerCheck := some true } }, by decide⟩,
   ⟨true, { State.reset with tks := { (default : Tks) with check := some none } }, by decide⟩,
   ⟨false, 0, { State.reset with tks := { (default : Tks) with check := some (some 0) } }, by decide⟩,
   ⟨2, { State.reset with tks := { (default : Tks) with check := some (some 2) } }, by decide⟩,
   ⟨2, { State.reset with tks := { (default : Tks) with check := some (some 2) } }, by decide⟩,
   ⟨{ mirrorX with tks := { (default : Tks) with missing := 255 } }, by decide⟩⟩

/-- The hypotheses of QueuesTakeOrdersIntoTheJournal. -/
theorem test_hypotheses_QueuesTakeOrdersIntoTheJournal :
    (∃ (src : Requester) (q : Fin 64) (w : Word32) (s : State), s.closedTo .NIM_SQ_TAIL src = false) ∧
    (∃ (src : Requester) (q : Fin 64) (w : Word32) (s : State), (s.closedTo .NIM_CQ_HEAD src = false) ∧ (s.nim.waiting = [])) ∧
    (∃ (q : Fin 64) (e : Sqe) (s : State), (s.queueReady q = true) ∧ (s.fenced = true)) ∧
    (∃ (q : Fin 64) (e : Sqe) (s : State), (s.queueReady q = true) ∧ (s.flag F.NIM_CTRL_EN 0 = false)) ∧
    (∃ (q : Fin 64) (e : Sqe) (s : State), (s.queueReady q = true) ∧ ((e.seq / 2 ^ 57 ≠ q ∨ e.seq % 2 ^ 57 = 0 ∨ orderArgs e.flags
      e.affinity e.body = false))) ∧
    (∃ (q : Fin 64) (seq flags tag : Nat) (aff : BitVec 32) (body : List Byte) (s : State), (s.queueReady q = true) ∧ (s.fenced =
      false) ∧ (s.flag F.NIM_CTRL_EN 0 = true) ∧ (seq / 2 ^ 57 = q.val) ∧ (s.hwmOf q < seq % 2 ^ 57) ∧ (orderArgs flags aff (some
      body) = true) ∧ (programCheck (aff.toNat / 2 ^ 30) (bodyTbl body) = .OK) ∧ (s.deltasFull = false) ∧ ((s.freeRun (3 + ceilDiv
      body.length 64)).isSome = true) ∧ (s.paired = false) ∧ (s.entry ⟨s.domainId, seq, 0⟩ = none)) :=
  ⟨⟨.pcie, 3, 5, State.reset, by decide⟩,
   ⟨.pcie, 3, 5, State.reset, by decide⟩,
   ⟨3, ⟨3 * 2 ^ 57 + 1, 0, 0x80000000, 9, none⟩, fl [(F.RSL_STATUS_FENCED, 0, 1)] jrnOn, by decide⟩,
   ⟨3, ⟨3 * 2 ^ 57 + 1, 0, 0x80000000, 9, none⟩, fl [(F.NIM_CTRL_EN, 0, 0)] jrnOn, by decide⟩,
   ⟨3, ⟨4 * 2 ^ 57 + 1, 0, 0x80000000, 9, none⟩, jrnOn, by decide⟩,
   ⟨3, 3 * 2 ^ 57 + 1, 0, 9, 0x40000000, [0, 0, 0x20, 0, 0, 0, 0x80, 0x0F], jrnOn, by decide⟩⟩

/-- The hypotheses of JournalMirroredRunAndFreed. -/
theorem test_hypotheses_JournalMirroredRunAndFreed_1 :
    (∃ (e f : JEntry) (s : State), s.entry e.key = some f) ∧
    (∃ (e : JEntry) (s : State), (s.entry e.key = none) ∧ (s.fenced = false) ∧ (s.flag F.NIM_CTRL_EN 0 = true) ∧ ((s.freeRun
      e.slots).isSome = true)) ∧
    (∃ (e : JEntry) (s : State), (s.entry e.key = none) ∧ (s.fenced = true)) ∧
    (∃ (key : Key) (e : JEntry) (s : State), (s.entry key = some e) ∧ (e.awaiting = true) ∧ (e.queue = some 3)) ∧
    (∃ (key : Key) (st : Status) (e : JEntry) (s : State), (s.entry key = some e) ∧ (e.awaiting = true) ∧ (e.queue = some 3) ∧ (st ≠
      .OK)) ∧
    (∃ (key : Key) (e : JEntry) (s : State), (s.entry key = some e) ∧ (e.awaiting = true)) ∧
    (∃ (s : State), (s.mirrored = true) ∧ ((s.nim.journal.filter fun (e : JEntry) => e.awaiting) = [])) ∧
    (∃ (time : Nat) (done : List Key) (s : State), (s.mirrored = true) ∧ (s.partnerLost = false)) ∧
    (∃ (key : Key) (core : Fin 16) (e : JEntry) (i : Nat) (s : State), (s.entry key = some e) ∧ (e.phase = .accepted) ∧ (e.forwarded
      = false) ∧ (e.awaiting = false) ∧ (e.affinity = 1) ∧ (s.running key = false) ∧ (s.flag F.NIM_CTRL_EN 0 = true) ∧ (s.flag
      F.NIM_STATUS_PARTNER_WAIT 0 = false) ∧ ((s.paired = true → e.time < s.nim.frontier)) ∧ (s.mayStart e = true) ∧ (s.nim.warm =
      false) ∧ (s.fenced = false) ∧ (s.fld F.RSL_UNIT_STAT_STATE core ≠ 2) ∧ (s.freeContext core = some i)) ∧
    (∃ (core : Fin 16) (i : Nat) (k : Key) (e : JEntry) (s : State), (s.runningOn core = some i) ∧ (i / 8 = core.val) ∧ ((s.ctx
      i).entry = some k) ∧ ((s.ctx i).slot = none) ∧ (s.entry k = some e) ∧ (e.phase = .running)) ∧
    (∃ (e : JEntry) (l : List JEntry) (s : State), (s.nim.journal = e :: l) ∧ (s.freeable e = true)) ∧
    (∃ (key : Key) (e : JEntry) (s : State), (s.entry key = some e) ∧ (e.phase = .accepted) ∧ (e.forwarded = false) ∧ (e.key.origin
      = s.domainId) ∧ (e.key.source = 3)) :=
  ⟨⟨jent, jent, jrnWith jent, by decide⟩,
   ⟨jent, jrnOn, by decide⟩,
   ⟨jent, fl [(F.RSL_STATUS_FENCED, 0, 1)] jrnOn, by decide⟩,
   ⟨jkey, { jent with awaiting := true, queue := some 3 }, jrnWith { jent with awaiting := true, queue := some 3 }, by decide⟩,
   ⟨jkey, .FENCED, { jent with awaiting := true, queue := some 3 }, jrnWith { jent with awaiting := true, queue := some 3 }, by
     decide⟩,
   ⟨jkey, { jent with awaiting := true }, jrnWith { jent with awaiting := true }, by decide⟩,
   ⟨mirrorX, by decide⟩,
   ⟨9, [jkey], { mirrorX with nim := (jrnWith jent).nim }, by decide⟩,
   ⟨jkey, 2, { jent with affinity := 1 }, 16, jrnWith { jent with affinity := 1 }, by decide⟩,
   ⟨2, 16, jkey, { jent with phase := .running }, running2, by decide⟩,
   ⟨{ jent with phase := .complete, since := some 0 }, [],
     { jrnWith { jent with phase := .complete, since := some 0 } with tick := 10 ^ 9 }, by decide⟩,
   ⟨jkey, jent, jrnWith jent, by decide⟩⟩

/-- The hypotheses of JournalMirroredRunAndFreed. -/
theorem test_hypotheses_JournalMirroredRunAndFreed_2 :
    (∃ (s : State), (s.mirrored = true) ∧ (s.partnerLost = false)) ∧
    (∃ (s : State), (s.fld F.NIM_PAIR_STAT_PARTNER 0 = 2) ∧ (s.mirrored = true)) ∧
    (∃ (e : JEntry) (s : State), s.entry e.key = none) ∧
    (∃ (e : JEntry) (s : State), (s.entry e.key = none) ∧ (e.phase ≠ .complete) ∧ (e.forwarded = false)) :=
  ⟨⟨mirrorX, by decide⟩,
   ⟨fl [(F.NIM_PAIR_STAT_PARTNER, 0, 2)] mirrorX, by decide⟩,
   ⟨jent, jrnOn, by decide⟩,
   ⟨jent, jrnOn, by decide⟩⟩

/-- The hypotheses of NimadeDrainsServesAndPairs. -/
theorem test_hypotheses_NimadeDrainsServesAndPairs :
    (∃ (src : Requester) (s : State), (s.closedTo .NIM_CTRL src = false) ∧ (s.flag F.NIM_CTRL_EN 0 = true)) ∧
    (∃ (src : Requester) (s : State), s.closedTo .NIM_CTRL src = false) ∧
    (∃ (s : State), (s.flag F.NIM_STATUS_DRAINING 0 = true) ∧ ((∀ e ∈ s.nim.journal, e.phase = .complete))) ∧
    (∃ (n : Fin 32) (s : State), (∀ m : Fin 32, s.flag F.NIM_SVC_CFG_EN m = decide (m = n))) ∧
    (∃ (n : Fin 32) (s : State), s.fld F.NIM_SVC_STAT_STATE n = 3) ∧
    (∃ (src : Requester) (allOrder partnerNames partnerB : Bool) (w : Word32) (s : State), (s.closedTo .NIM_PAIR_CFG src = false) ∧
      ((F.NIM_PAIR_CFG_MODE.of (w.setWidth 64) = 3 ∨ F.NIM_PAIR_CFG_WARM_WAIT.of (w.setWidth 64) < 100 ∨ 10000 <
      F.NIM_PAIR_CFG_WARM_WAIT.of (w.setWidth 64)))) ∧
    (∃ (src : Requester) (allOrder partnerNames partnerB : Bool) (w : Word32) (s : State), (s.closedTo .NIM_PAIR_CFG src = false) ∧
      (F.NIM_PAIR_CFG_MODE.of (w.setWidth 64) ≠ 3) ∧ (100 ≤ F.NIM_PAIR_CFG_WARM_WAIT.of (w.setWidth 64)) ∧
      (F.NIM_PAIR_CFG_WARM_WAIT.of (w.setWidth 64) ≤ 10000) ∧ (F.NIM_PAIR_CFG_MODE.of (w.setWidth 64) ≠ s.fld F.NIM_PAIR_CFG_MODE 0)
      ∧ ((allOrder = false ∨ src ≠ .work))) ∧
    (∃ (w : Word32) (partnerB : Bool) (s : State), (F.NIM_PAIR_CFG_MODE.of (w.setWidth 64) = 1) ∧ (100 ≤ F.NIM_PAIR_CFG_WARM_WAIT.of
      (w.setWidth 64)) ∧ (F.NIM_PAIR_CFG_WARM_WAIT.of (w.setWidth 64) ≤ 10000) ∧ (s.fld F.NIM_PAIR_CFG_MODE 0 ≠ 1) ∧ (partnerB ≠
      s.sideB)) :=
  ⟨⟨.pcie, jrnOn, by decide⟩,
   ⟨.pcie, running2, by decide⟩,
   ⟨fl [(F.NIM_STATUS_DRAINING, 0, 1)] (jrnWith { jent with phase := .complete }), by decide⟩,
   ⟨2, svcOn, by decide⟩,
   ⟨2, fl [(F.NIM_SVC_STAT_STATE, 2, 3)] svcOn, by decide⟩,
   ⟨.work, true, true, true, 0xC0000000, State.reset, by decide⟩,
   ⟨.work, false, true, true, w32 (wd [(F.NIM_PAIR_CFG_MODE, 1), (F.NIM_PAIR_CFG_WARM_WAIT, 500)]), State.reset, by decide⟩,
   ⟨w32 (wd [(F.NIM_PAIR_CFG_MODE, 1), (F.NIM_PAIR_CFG_WARM_WAIT, 500)]), true, State.reset, by decide⟩⟩

/-- The hypotheses of SignalPlaneInstructionsAreSentAndAnswered. -/
theorem test_hypotheses_SignalPlaneInstructionsAreSentAndAnswered :
    (∃ (a : NimAt) (rd ra rb : Fin 32) (f : BitVec 2) (view : TakeView) (x : Nat) (k : Key) (s : State), (s.sends a [ra.val, rb.val]
      x k) ∧ (f.getLsbD 1 = false)) ∧
    (∃ (a : NimAt) (rd ra rb : Fin 32) (f : BitVec 2) (view : TakeView) (x : Nat) (k : Key) (e : JEntry) (st : Status) (s : State),
      (s.issues a ⟨none, [ra.val, rb.val], 8⟩ x) ∧ ((s.ctx x).entry = some k) ∧ ((s.ctx x).sig < 24) ∧ (f.getLsbD 1 = false) ∧
      (s.entry k = some e) ∧ (e.sigs[(s.ctx x).sig]? = some st) ∧ (x / 8 = a.core.val)) ∧
    (∃ (a : NimAt) (rd ra rb rc : Fin 32) (f : BitVec 2) (views : List TakeView) (members : List Word) (x : Nat) (k : Key) (s :
      State), (s.sends a [ra.val, rb.val, rc.val] x k) ∧ (s.salvoArgs (s.ctx x) (f.getLsbD 0) ((s.ctx x).reg ra).toNat ((s.ctx
      x).reg rc) = .ok (some members))) ∧
    (∃ (a : NimAt) (rd ra rb rc : Fin 32) (f : BitVec 2) (views : List TakeView) (x : Nat) (k : Key) (s : State), (s.sends a
      [ra.val, rb.val, rc.val] x k) ∧ (s.salvoArgs (s.ctx x) (f.getLsbD 0) ((s.ctx x).reg ra).toNat ((s.ctx x).reg rc) = .ok none))
      ∧
    (∃ (a : NimAt) (rd ra rb : Fin 32) (loc ovf : Bool) (x : Nat) (k : Key) (e : Nat) (s : State), (s.sends a [ra.val, rb.val] x k)
      ∧ (s.readBlock (s.ctx x) loc ((s.ctx x).reg rb).toNat 16 8 = .ok e) ∧ (((s.ctx x).reg ra).toNat ≤ 524287) ∧ ((s.sentBy a
      [ra.val, rb.val] x rd).badDirWrite ((s.ctx x).reg ra).toNat (BitVec.ofNat 128 e) = false) ∧ ((s.sentBy a [ra.val, rb.val] x
      rd).partnerFlow (dirOrigin (BitVec.ofNat 128 e)) = false)) ∧
    (∃ (a : NimAt) (rd ra rb : Fin 32) (loc : Bool) (x : Nat) (k : Key) (s : State), (s.sends a [ra.val] x k) ∧ (((s.ctx x).reg
      ra).toNat ≤ 524287) ∧ (s.paired = false)) ∧
    (∃ (a : NimAt) (rd ra rb : Fin 32) (f : BitVec 2) (x : Nat) (k : Key) (d : Nat) (u : State) (s : State), (s.sends a [ra.val,
      rb.val] x k) ∧ (f.getLsbD 1 = false) ∧ (s.readBlock (s.ctx x) (f.getLsbD 0) ((s.ctx x).reg rb).toNat 64 4 = .ok d) ∧
      ((s.sentBy a [ra.val, rb.val] x rd).layerWrite (((s.ctx x).reg ra).toNat / 16 % 16) (((s.ctx x).reg ra).toNat % 16)
      ((List.range 16).map fun j => BitVec.ofNat 32 (d / 2 ^ (32 * j))) = (u, .OK))) ∧
    (∃ (a : NimAt) (rd ra rb : Fin 32) (x : Nat) (k : Key) (u : State) (v : Word) (st : Status) (s : State), (s.sends a [ra.val,
      rb.val] x k) ∧ (rd.val ≠ 0) ∧ ((s.sentBy a [ra.val, rb.val] x rd).commit (((s.ctx x).reg ra).toNat % 65536) ((s.ctx x).reg
      rb).toNat = (u, v, st))) ∧
    (∃ (key : Key) (sig : Nat) (value : Word64) (st : Status) (x : Nat) (s : State), (s.tks.accts = []) ∧ (s.twl.dirs.pend = []) ∧
      (((List.range 128).find? fun y => (s.ctx y).entry == some key && (s.ctx y).run == .result && (s.ctx y).sig == sig + 1) = some
      x)) :=
  ⟨⟨coreAt, 5, 6, 7, 0, default, 16, jkey, cobbler, by decide⟩,
   ⟨coreAt, 5, 6, 7, 0, default, 16, jkey, { progEnt with sigs := [.BUSY] }, .BUSY, cobblerSigs, by decide⟩,
   ⟨coreAt, 5, 6, 7, 8, 1, [], [0, 0], 16, jkey, cobblerWith 8 (BitVec.ofNat 64 (2 * 2 ^ 32 + 9)), by decide⟩,
   ⟨coreAt, 5, 6, 7, 8, 1, [], 16, jkey, cobbler, by decide⟩,
   ⟨coreAt, 5, 6, 0, true, false, 16, jkey, 2 ^ 127 + 2 ^ 122, flowRuns, by decide⟩,
   ⟨coreAt, 5, 6, 7, true, 16, jkey, cobbler, by decide⟩,
   ⟨coreAt, 5, 6, 7, 1, 16, jkey, descNum, (layerRuns.sentBy coreAt [6, 7] 16 5).layerWrite 0 0 descWords |>.1, layerRuns, by
     decide⟩,
   ⟨coreAt, 5, 6, 7, 16, jkey, (commitRuns.sentBy coreAt [6, 7] 16 5).commit 1 0 |>.1, (commitRuns.sentBy coreAt [6, 7] 16 5).commit
     1 0 |>.2.1, .OK, commitRuns, by decide⟩,
   ⟨jkey, 0, 77, .OK, 16, cobblerWaits, by decide⟩⟩

/-- The hypotheses of TimeJournalAndEventInstructions. -/
theorem test_hypotheses_TimeJournalAndEventInstructions_1 :
    (∃ (a : NimAt) (rd : Fin 32) (fn : BitVec 7) (x : Nat) (k : Key) (s : State), (s.issues a ⟨none, [], 1⟩ x) ∧ ((s.ctx x).entry =
      some k) ∧ (fn.toNat < 4)) ∧
    (∃ (a : NimAt) (rd : Fin 32) (fn : BitVec 7) (x : Nat) (s : State), (s.issues a ⟨none, [], 20⟩ x) ∧ ((s.ctx x).entry = none) ∧
      (fn.toNat < 4)) ∧
    (∃ (a : NimAt) (rd ra : Fin 32) (d : Fin 8) (x : Nat) (s : State), (s.issues a ⟨none, [ra.val], 6⟩ x) ∧ (s.otdEnabled d = true))
      ∧
    (∃ (a : NimAt) (rd ra : Fin 32) (d : Fin 8) (x : Nat) (s : State), (s.issues a ⟨none, [ra.val], 6⟩ x) ∧ (s.otdEnabled d = true))
      ∧
    (∃ (a : NimAt) (rd ra rb rc : Fin 32) (x n : Nat) (s : State), (s.issues a ⟨none, [ra.val, rb.val, rc.val], 10⟩ x) ∧ ((s.ctx
      x).slot = some n) ∧ (s.shadow = false) ∧ (s.holdsWork = false) ∧ (((s.ctx x).reg ra).toNat % 64 = 0) ∧ (((s.ctx x).reg
      rb).toNat ≤ 8192) ∧ (s.memTrap (s.ctx x) false 2 ((s.ctx x).reg ra).toNat ((s.ctx x).reg rb).toNat 1 = none)) ∧
    (∃ (a : NimAt) (rd ra rb rc : Fin 32) (x n : Nat) (s : State), (s.issues a ⟨none, [ra.val, rb.val, rc.val], 10⟩ x) ∧ ((s.ctx
      x).slot = some n) ∧ (s.shadow = true)) ∧
    (∃ (a : NimAt) (rd : Fin 32) (fn : BitVec 7) (x v : Nat) (s : State), (s.issues a ⟨none, [], 1⟩ x) ∧ (s.jinfo (s.ctx x) fn.toNat
      = some v)) ∧
    (∃ (a : NimAt) (ra rb : Fin 32) (x : Nat) (s : State), (s.issues a ⟨none, [ra.val, rb.val], 12⟩ x) ∧ ((s.ctx x).entry = none) ∧
      (s.shadow = false) ∧ (((s.ctx x).reg ra).toNat + 24 ≤ 8192) ∧ (((s.ctx x).reg rb).toNat < 64) ∧ (s.flag F.NIM_Q_CFG_EN ((s.ctx
      x).reg rb).toNat = true) ∧ (s.nim.warm = false) ∧ (s.nim.waiting = []) ∧ (s.cqReserved ((s.ctx x).reg rb).toNat < s.cqFree
      ((s.ctx x).reg rb).toNat)) ∧
    (∃ (a : NimAt) (ra rb : Fin 32) (reply : Status) (x n : Nat) (s : State), (s.issues a ⟨none, [ra.val, rb.val], 12⟩ x) ∧ (x / 8 =
      a.core.val) ∧ ((s.ctx x).slot = some n) ∧ (((s.ctx x).reg ra).toNat + 32 ≤ 8192) ∧ (((s.ctx x).reg rb).toNat / 32 % 1024 =
      s.domainId) ∧ ((s.svc (((s.ctx x).reg rb).toNat % 32)).at_.isSome = true) ∧ ((s.svc (((s.ctx x).reg rb).toNat %
      32)).msgs.length < 64)) ∧
    (∃ (a : NimAt) (ra : Fin 32) (reply : Status) (x n part slot : Nat) (s : State), (s.issues a ⟨none, [ra.val], 12⟩ x) ∧ (x / 8 =
      a.core.val) ∧ ((s.ctx x).entry = none) ∧ ((s.ctx x).slot = some n) ∧ (((s.ctx x).reg ra).toNat + 32 ≤ 8192) ∧ ((s.svc
      n).lastFrom = some (part, slot)) ∧ (part = s.domainId) ∧ ((s.svc slot).at_.isSome = true) ∧ ((s.svc slot).msgs.length < 64)) ∧
    (∃ (a : NimAt) (rd ra : Fin 32) (x n part slot : Nat) (m : BitVec 256) (l : List (Nat × Nat × BitVec 256)) (s : State),
      (s.issues a ⟨none, [ra.val], 8⟩ x) ∧ ((s.ctx x).slot = some n) ∧ ((s.svc n).msgs = (part, slot, m) :: l) ∧ (((s.ctx x).reg
      ra).toNat + 40 ≤ 8192)) ∧
    (∃ (a : NimAt) (rd ra : Fin 32) (x n : Nat) (r : TakeRec) (l : List TakeRec) (s : State), (s.issues a ⟨none, [ra.val], 8⟩ x) ∧
      ((s.ctx x).slot = some n) ∧ ((s.svc n).takes = r :: l) ∧ (((s.ctx x).reg ra).toNat + 32 ≤ 8192)) :=
  ⟨⟨coreAt, 5, 1, 16, jkey, cobbler, by decide⟩,
   ⟨coreAt, 5, 1, 16, svcRuns, by decide⟩,
   ⟨coreAt, 5, 6, 0, 16, fl [(F.EGR_OTD_CFG_ENABLE, 0, 1), (F.EGR_OTD_CFG_FORMAT, 0, 0x67)] cobbler, by decide⟩,
   ⟨coreAt, 5, 6, 0, 16, fl [(F.EGR_OTD_CFG_ENABLE, 0, 1), (F.EGR_OTD_CFG_FORMAT, 0, 0x67)] cobbler, by decide⟩,
   ⟨coreAt, 5, 6, 7, 8, 16, 2, svcRuns, by decide⟩,
   ⟨coreAt, 5, 6, 7, 8, 16, 2, fl [(F.NIM_PAIR_CFG_MODE, 0, 1), (F.GLB_CHIP_SIDE, 0, 1)] svcRuns, by decide⟩,
   ⟨coreAt, 5, 1, 16, 0, cobbler, by decide⟩,
   ⟨coreAt, 6, 7, 16, svcWith 7 3, by decide⟩,
   ⟨coreAt, 6, 7, .OK, 16, 2, svcWith 7 2, by decide⟩,
   ⟨coreAt, 6, .OK, 16, 2, 0, 2, svcRuns.setSvc 2 { (default : Service) with at_ := some 16, lastFrom := some (0, 2) }, by decide⟩,
   ⟨coreAt, 5, 6, 16, 2, 7, 8, 9, [], svcItems, by decide⟩,
   ⟨coreAt, 5, 6, 16, 2, default, [], svcItems, by decide⟩⟩

/-- The hypotheses of TimeJournalAndEventInstructions. -/
theorem test_hypotheses_TimeJournalAndEventInstructions_2 :
    (∃ (a : NimAt) (rd ra : Fin 32) (x n seq : Nat) (st : Status) (l : List (Nat × Status)) (s : State), (s.issues a ⟨none,
      [ra.val], 7⟩ x) ∧ ((s.ctx x).slot = some n) ∧ ((s.svc n).dones = (seq, st) :: l) ∧ (((s.ctx x).reg ra).toNat + 16 ≤ 8192)) ∧
    (∃ (a : NimAt) (rd ra : Fin 32) (x n : Nat) (b : List Byte) (l : List (List Byte)) (s : State), (s.issues a ⟨none, [ra.val], 6 +
      b.length / 16⟩ x) ∧ ((s.ctx x).slot = some n) ∧ ((s.svc n).rings = b :: l) ∧ (((s.ctx x).reg ra).toNat + b.length ≤ 8192)) ∧
    (∃ (a : NimAt) (ra rb rc : Fin 32) (x n : Nat) (u : State) (s : State), (s.issues a ⟨none, [ra.val, rb.val, rc.val], 16⟩ x) ∧
      ((s.ctx x).slot = some n) ∧ (s.shadow = false) ∧ (((s.ctx x).reg rb).toNat ≤ 1400) ∧ (((s.ctx x).reg ra).toNat + ((s.ctx
      x).reg rb).toNat ≤ 8192) ∧ (s.xmit n (((s.ctx x).reg rc).toNat % 16) ((s.ctx x).reg rb).toNat = (u, .OK))) ∧
    (∃ (a : NimAt) (rd ra rb : Fin 32) (x n : Nat) (s : State), (s.issues a ⟨none, [ra.val, rb.val], 4⟩ x) ∧ (x / 8 = a.core.val) ∧
      ((s.ctx x).slot = some n) ∧ (((s.ctx x).reg ra ≠ 0 ∨ (s.ctx x).reg rb ≠ 0)) ∧ (s.waitResult n ((s.ctx x).reg ra).toNat ((s.ctx
      x).reg rb).toNat = 0)) ∧
    (∃ (a : NimAt) (rd ra rb : Fin 32) (x n : Nat) (s : State), (s.issues a ⟨none, [ra.val, rb.val], 4⟩ x) ∧ ((s.ctx x).slot = some
      n) ∧ (s.reached ((s.ctx x).reg rb).toNat = true)) ∧
    (∃ (n : Fin 32) (i mask deadline : Nat) (s : State), ((s.svc n).at_ = some i) ∧ ((s.ctx i).run = .event mask deadline) ∧ ((s.ctx
      i).slot = some n.val) ∧ (s.waitResult n mask deadline ≠ 0)) ∧
    (∃ (a : NimAt) (x : Nat) (s : State), (s.issues a ⟨none, [], 4⟩ x) ∧ (x / 8 = a.core.val)) ∧
    (∃ (a : NimAt) (x : Nat) (k : Key) (e : JEntry) (s : State), (s.issues a ⟨none, [40], 4⟩ x) ∧ ((s.ctx x).slot = none) ∧ ((s.ctx
      x).entry = some k) ∧ (s.deltasFull = false) ∧ (s.entry k = some e) ∧ (e.phase = .running)) ∧
    (∃ (a : NimAt) (x n : Nat) (s : State), (s.issues a ⟨none, [40], 4⟩ x) ∧ ((s.ctx x).slot = some n) ∧ ((s.ctx x).entry = none)) ∧
    (∃ (a : NimAt) (x : Nat) (s : State), s.issues a ⟨none, [], 1⟩ x) :=
  ⟨⟨coreAt, 5, 6, 16, 2, 4, .OK, [], svcItems, by decide⟩,
   ⟨coreAt, 5, 6, 16, 2, [1, 2], [], svcItems, by decide⟩,
   ⟨coreAt, 6, 7, 8, 16, 2, (xmitRuns.xmit 2 0 100).1, xmitRuns, by decide⟩,
   ⟨coreAt, 5, 6, 7, 16, 2, svcWith 6 1, by decide⟩,
   ⟨coreAt, 5, 6, 7, 16, 2, { svcWith 7 1 with tb := [(0, 100000)] }, by decide⟩,
   ⟨2, 16, 1, 0, svcWaits, by decide⟩,
   ⟨coreAt, 16, cobbler, by decide⟩,
   ⟨coreAt, 16, jkey, progEnt, cobbler, by decide⟩,
   ⟨coreAt, 16, 2, svcRuns, by decide⟩,
   ⟨coreAt, 16, cobbler, by decide⟩⟩

/-- The hypotheses of TwoOperandInstructionsCompute. -/
theorem test_hypotheses_TwoOperandInstructionsCompute_1 :
    (∃ (a : NimAt) (rd ra rb : Fin 32) (x : Nat) (s : State), s.issues a ⟨some false, [ra.val, rb.val], 1⟩ x) ∧
    (∃ (a : NimAt) (rd ra rb : Fin 32) (x : Nat) (s : State), s.issues a ⟨some false, [ra.val, rb.val], 1⟩ x) ∧
    (∃ (a : NimAt) (rd ra rb : Fin 32) (x : Nat) (s : State), s.issues a ⟨some false, [ra.val, rb.val], 1⟩ x) ∧
    (∃ (a : NimAt) (rd ra rb : Fin 32) (x : Nat) (s : State), s.issues a ⟨some false, [ra.val, rb.val], 1⟩ x) ∧
    (∃ (a : NimAt) (rd ra rb : Fin 32) (x : Nat) (s : State), s.issues a ⟨some false, [ra.val, rb.val], 1⟩ x) ∧
    (∃ (a : NimAt) (rd ra rb : Fin 32) (x : Nat) (s : State), s.issues a ⟨some false, [ra.val, rb.val], 1⟩ x) ∧
    (∃ (a : NimAt) (rd ra rb : Fin 32) (x : Nat) (s : State), s.issues a ⟨some false, [ra.val, rb.val], 1⟩ x) ∧
    (∃ (a : NimAt) (rd ra rb : Fin 32) (x : Nat) (s : State), s.issues a ⟨some false, [ra.val, rb.val], 1⟩ x) ∧
    (∃ (a : NimAt) (rd ra rb : Fin 32) (x : Nat) (s : State), s.issues a ⟨some false, [ra.val, rb.val], 1⟩ x) ∧
    (∃ (a : NimAt) (rd ra rb : Fin 32) (x : Nat) (s : State), s.issues a ⟨some false, [ra.val, rb.val], 1⟩ x) ∧
    (∃ (a : NimAt) (rd ra rb : Fin 32) (x : Nat) (s : State), s.issues a ⟨some false, [ra.val, rb.val], 1⟩ x) ∧
    (∃ (a : NimAt) (rd ra rb : Fin 32) (x : Nat) (s : State), s.issues a ⟨some false, [ra.val, rb.val], 1⟩ x) :=
  ⟨⟨coreAt, 5, 6, 7, 16, cobbler, by decide⟩,
   ⟨coreAt, 5, 6, 7, 16, cobbler, by decide⟩,
   ⟨coreAt, 5, 6, 7, 16, cobbler, by decide⟩,
   ⟨coreAt, 5, 6, 7, 16, cobbler, by decide⟩,
   ⟨coreAt, 5, 6, 7, 16, cobbler, by decide⟩,
   ⟨coreAt, 5, 6, 7, 16, cobbler, by decide⟩,
   ⟨coreAt, 5, 6, 7, 16, cobbler, by decide⟩,
   ⟨coreAt, 5, 6, 7, 16, cobbler, by decide⟩,
   ⟨coreAt, 5, 6, 7, 16, cobbler, by decide⟩,
   ⟨coreAt, 5, 6, 7, 16, cobbler, by decide⟩,
   ⟨coreAt, 5, 6, 7, 16, cobbler, by decide⟩,
   ⟨coreAt, 5, 6, 7, 16, cobbler, by decide⟩⟩

/-- The hypotheses of TwoOperandInstructionsCompute. -/
theorem test_hypotheses_TwoOperandInstructionsCompute_2 :
    (∃ (a : NimAt) (rd ra rb : Fin 32) (x : Nat) (s : State), s.issues a ⟨some false, [ra.val, rb.val], 1⟩ x) ∧
    (∃ (a : NimAt) (rd ra rb : Fin 32) (x : Nat) (s : State), s.issues a ⟨some false, [ra.val, rb.val], 1⟩ x) ∧
    (∃ (a : NimAt) (rd ra rb : Fin 32) (x : Nat) (s : State), s.issues a ⟨some false, [ra.val, rb.val], 1⟩ x) ∧
    (∃ (a : NimAt) (rd ra rb : Fin 32) (x : Nat) (s : State), s.issues a ⟨some false, [ra.val, rb.val], 1⟩ x) :=
  ⟨⟨coreAt, 5, 6, 7, 16, cobbler, by decide⟩,
   ⟨coreAt, 5, 6, 7, 16, cobbler, by decide⟩,
   ⟨coreAt, 5, 6, 7, 16, cobbler, by decide⟩,
   ⟨coreAt, 5, 6, 7, 16, cobbler, by decide⟩⟩

/-- The hypotheses of OneOperandAndImmediateInstructionsCompute. -/
theorem test_hypotheses_OneOperandAndImmediateInstructionsCompute_1 :
    (∃ (a : NimAt) (rd ra : Fin 32) (x : Nat) (s : State), s.issues a ⟨some false, [ra.val], 1⟩ x) ∧
    (∃ (a : NimAt) (rd ra : Fin 32) (x : Nat) (s : State), s.issues a ⟨some false, [ra.val], 1⟩ x) ∧
    (∃ (a : NimAt) (rd ra : Fin 32) (x : Nat) (s : State), s.issues a ⟨some false, [ra.val], 1⟩ x) ∧
    (∃ (a : NimAt) (rd ra : Fin 32) (x : Nat) (s : State), s.issues a ⟨some false, [ra.val], 1⟩ x) ∧
    (∃ (a : NimAt) (rd ra : Fin 32) (x : Nat) (s : State), s.issues a ⟨some false, [ra.val], 1⟩ x) ∧
    (∃ (a : NimAt) (rd : Fin 32) (x : Nat) (s : State), s.issues a ⟨some false, [40], 1⟩ x) ∧
    (∃ (a : NimAt) (rd ra : Fin 32) (imm : BitVec 12) (x : Nat) (s : State), s.issues a ⟨some false, [ra.val], 1⟩ x) ∧
    (∃ (a : NimAt) (rd ra : Fin 32) (imm : BitVec 12) (x : Nat) (s : State), s.issues a ⟨some false, [ra.val], 1⟩ x) ∧
    (∃ (a : NimAt) (rd ra : Fin 32) (imm : BitVec 12) (x : Nat) (s : State), s.issues a ⟨some false, [ra.val], 1⟩ x) ∧
    (∃ (a : NimAt) (rd ra : Fin 32) (imm : BitVec 12) (x : Nat) (s : State), s.issues a ⟨some false, [ra.val], 1⟩ x) ∧
    (∃ (a : NimAt) (rd ra : Fin 32) (imm : BitVec 10) (x : Nat) (s : State), (s.issues a ⟨some false, [ra.val], 1⟩ x) ∧ (imm.toNat <
      64)) ∧
    (∃ (a : NimAt) (rd ra : Fin 32) (imm : BitVec 10) (x : Nat) (s : State), (s.issues a ⟨some false, [ra.val], 1⟩ x) ∧ (imm.toNat <
      64)) :=
  ⟨⟨coreAt, 5, 6, 16, cobbler, by decide⟩,
   ⟨coreAt, 5, 6, 16, cobbler, by decide⟩,
   ⟨coreAt, 5, 6, 16, cobbler, by decide⟩,
   ⟨coreAt, 5, 6, 16, cobbler, by decide⟩,
   ⟨coreAt, 5, 6, 16, cobbler, by decide⟩,
   ⟨coreAt, 5, 16, cobbler, by decide⟩,
   ⟨coreAt, 5, 6, 9, 16, cobbler, by decide⟩,
   ⟨coreAt, 5, 6, 9, 16, cobbler, by decide⟩,
   ⟨coreAt, 5, 6, 9, 16, cobbler, by decide⟩,
   ⟨coreAt, 5, 6, 9, 16, cobbler, by decide⟩,
   ⟨coreAt, 5, 6, 9, 16, cobbler, by decide⟩,
   ⟨coreAt, 5, 6, 9, 16, cobbler, by decide⟩⟩

/-- The hypotheses of OneOperandAndImmediateInstructionsCompute. -/
theorem test_hypotheses_OneOperandAndImmediateInstructionsCompute_2 :
    (∃ (a : NimAt) (rd ra : Fin 32) (imm : BitVec 10) (x : Nat) (s : State), (s.issues a ⟨some false, [ra.val], 1⟩ x) ∧ (imm.toNat <
      64)) ∧
    (∃ (a : NimAt) (rd : Fin 32) (imm : BitVec 17) (x : Nat) (s : State), s.issues a ⟨some false, [], 1⟩ x) ∧
    (∃ (a : NimAt) (rd : Fin 32) (imm : BitVec 17) (x : Nat) (s : State), (s.issues a ⟨some false, [rd.val], 1⟩ x) ∧ (imm.getLsbD 16
      = false)) :=
  ⟨⟨coreAt, 5, 6, 9, 16, cobbler, by decide⟩,
   ⟨coreAt, 5, 9, 16, cobbler, by decide⟩,
   ⟨coreAt, 5, 9, 16, cobbler, by decide⟩⟩

/-- The hypotheses of PredicatesBranchesAndUndefinedWords. -/
theorem test_hypotheses_PredicatesBranchesAndUndefinedWords :
    (∃ (a : NimAt) (pd cc : Fin 8) (ra rb : Fin 32) (x : Nat) (s : State), (s.issues a ⟨some false, [ra.val, rb.val], 1⟩ x) ∧
      (cc.val < 6)) ∧
    (∃ (a : NimAt) (pd cc : Fin 8) (ra : Fin 32) (imm : BitVec 11) (x : Nat) (s : State), (s.issues a ⟨some false, [ra.val], 1⟩ x) ∧
      (cc.val < 6)) ∧
    (∃ (a : NimAt) (pd pa pb : Fin 8) (x : Nat) (s : State), s.issues a ⟨some false, [32 + pa.val, 32 + pb.val], 1⟩ x) ∧
    (∃ (a : NimAt) (pd pa pb : Fin 8) (x : Nat) (s : State), s.issues a ⟨some false, [32 + pa.val, 32 + pb.val], 1⟩ x) ∧
    (∃ (a : NimAt) (pd pa pb : Fin 8) (x : Nat) (s : State), s.issues a ⟨some false, [32 + pa.val, 32 + pb.val], 1⟩ x) ∧
    (∃ (a : NimAt) (pd pa pb : Fin 8) (x : Nat) (s : State), s.issues a ⟨some false, [32 + pa.val, 32 + pb.val], 1⟩ x) ∧
    (∃ (a : NimAt) (off : BitVec 22) (x : Nat) (s : State), (s.issues a ⟨none, [], 3⟩ x) ∧ (0 ≤ (s.ctx x).pc + off.toInt) ∧ ((s.ctx
      x).pc + off.toInt < s.spaceWords (s.ctx x) (s.ctx x).space)) ∧
    (∃ (a : NimAt) (off : BitVec 22) (x : Nat) (s : State), (s.issues a ⟨none, [], 3⟩ x) ∧ (0 ≤ (s.ctx x).pc + off.toInt) ∧ ((s.ctx
      x).pc + off.toInt < s.spaceWords (s.ctx x) (s.ctx x).space)) ∧
    (∃ (a : NimAt) (ra : Fin 32) (x : Nat) (s : State), (s.issues a ⟨none, [ra.val], 3⟩ x) ∧ (((s.ctx x).reg ra).toNat / 2 ^ 32 % 2
      ^ 29 = 0) ∧ (((s.ctx x).reg ra).toNat % 2 ^ 32 < s.spaceWords (s.ctx x) (((s.ctx x).reg ra).toNat / 2 ^ 61))) ∧
    (∃ (a : NimAt) (off : BitVec 22) (x : Nat) (s : State), (s.issues a ⟨none, [], 4⟩ x) ∧ (off.toNat < 2 ^ 20)) ∧
    (∃ (a : NimAt) (rd ra : Fin 32) (imm : BitVec 10) (x : Nat) (k : Key) (e : JEntry) (s : State), (s.runningOn a.core = some x) ∧
      (x / 8 = a.core.val) ∧ ((s.ctx x).pc < s.spaceWords (s.ctx x) (s.ctx x).space) ∧ ((s.ctx x).slot = none) ∧ ((s.ctx x).entry =
      some k) ∧ (s.entry k = some e) ∧ (e.phase = .running) ∧ (64 ≤ imm.toNat)) ∧
    (∃ (a : NimAt) (pd cc : Fin 8) (ra rb : Fin 32) (x : Nat) (k : Key) (e : JEntry) (s : State), (s.runningOn a.core = some x) ∧ (x
      / 8 = a.core.val) ∧ ((s.ctx x).pc < s.spaceWords (s.ctx x) (s.ctx x).space) ∧ ((s.ctx x).slot = none) ∧ ((s.ctx x).entry =
      some k) ∧ (s.entry k = some e) ∧ (e.phase = .running) ∧ (6 ≤ cc.val)) :=
  ⟨⟨coreAt, 5, 4, 6, 7, 16, cobbler, by decide⟩,
   ⟨coreAt, 5, 4, 6, 7, 16, cobbler, by decide⟩,
   ⟨coreAt, 5, 6, 7, 16, cobbler, by decide⟩,
   ⟨coreAt, 5, 6, 7, 16, cobbler, by decide⟩,
   ⟨coreAt, 5, 6, 7, 16, cobbler, by decide⟩,
   ⟨coreAt, 5, 6, 7, 16, cobbler, by decide⟩,
   ⟨coreAt, 0, 16, cobbler, by decide⟩,
   ⟨coreAt, 0, 16, cobbler, by decide⟩,
   ⟨coreAt, 6, 16, cobblerWith 6 (BitVec.ofNat 64 (4 * 2 ^ 61)), by decide⟩,
   ⟨coreAt, 100, 16, cobbler, by decide⟩,
   ⟨coreAt, 5, 6, 64, 16, jkey, progEnt, cobbler, by decide⟩,
   ⟨coreAt, 5, 6, 6, 7, 16, jkey, progEnt, cobbler, by decide⟩⟩

/-- The hypotheses of CoreMemoryAndTheBlockBus. -/
theorem test_hypotheses_CoreMemoryAndTheBlockBus :
    (∃ (a : NimAt) (rd ra : Fin 32) (sp : Fin 8) (sz : Fin 4) (off : BitVec 7) (x : Nat) (s : State), (s.issues a ⟨some true,
      [ra.val], 1⟩ x) ∧ (sp.val < 5) ∧ (sp.val ≠ 3) ∧ (s.memTrap (s.ctx x) false sp (memAddr (s.ctx x) ra off (2 ^ sz.val)) (2 ^
      sz.val) (alignFor sp (2 ^ sz.val)) = none)) ∧
    (∃ (a : NimAt) (rd ra : Fin 32) (sz : Fin 4) (off : BitVec 7) (x : Nat) (s : State), (s.issues a ⟨some true, [ra.val], 1⟩ x) ∧
      (s.memTrap (s.ctx x) false 3 (memAddr (s.ctx x) ra off (2 ^ sz.val)) (2 ^ sz.val) (2 ^ sz.val) = none)) ∧
    (∃ (a : NimAt) (rd ra : Fin 32) (sz : Fin 4) (off : BitVec 7) (x : Nat) (s : State), (s.issues a ⟨some true, [ra.val, rd.val],
      1⟩ x) ∧ (s.memTrap (s.ctx x) true 0 (memAddr (s.ctx x) ra off (2 ^ sz.val)) (2 ^ sz.val) (2 ^ sz.val) = none)) ∧
    (∃ (a : NimAt) (rd ra : Fin 32) (sz : Fin 4) (off : BitVec 7) (x : Nat) (s : State), (s.issues a ⟨some true, [ra.val, rd.val],
      1⟩ x) ∧ (s.memTrap (s.ctx x) true 2 (memAddr (s.ctx x) ra off (2 ^ sz.val)) (2 ^ sz.val) (2 ^ sz.val) = none)) ∧
    (∃ (a : NimAt) (rd ra : Fin 32) (sz : Fin 4) (off : BitVec 7) (x : Nat) (s : State), (s.issues a ⟨some true, [ra.val, rd.val],
      1⟩ x) ∧ (s.memTrap (s.ctx x) true 3 (memAddr (s.ctx x) ra off (2 ^ sz.val)) (2 ^ sz.val) (2 ^ sz.val) = none) ∧ (svcStores
      (memAddr (s.ctx x) ra off (2 ^ sz.val)) = true)) ∧
    (∃ (a : NimAt) (rd ra rb : Fin 32) (x : Nat) (s : State), (s.issues a ⟨none, [ra.val, rb.val], 20⟩ x) ∧ (s.memTrap (s.ctx x)
      true 2 ((s.ctx x).reg ra).toNat 8 8 = none)) ∧
    (∃ (a : NimAt) (rd ra rb : Fin 32) (x : Nat) (s : State), (s.issues a ⟨none, [ra.val, rb.val], 20⟩ x) ∧ (s.memTrap (s.ctx x)
      true 2 ((s.ctx x).reg ra).toNat 8 8 = none)) ∧
    (∃ (a : NimAt) (rd ra rb : Fin 32) (x : Nat) (s : State), (s.issues a ⟨none, [ra.val, rb.val, rd.val], 20⟩ x) ∧ (s.memTrap
      (s.ctx x) true 2 ((s.ctx x).reg ra).toNat 8 8 = none)) ∧
    (∃ (a : NimAt) (rd ri ent : Fin 32) (wide : Bool) (x at_ : Nat) (s : State), (s.issues a ⟨some true, [ri.val], 1⟩ x) ∧
      (s.tableAddr (s.ctx x) false ent ((s.ctx x).reg ri) (if wide then 8 else 4) = .ok at_)) ∧
    (∃ (a : NimAt) (rd ri ent : Fin 32) (wide : Bool) (env : BusEnv) (x at_ : Nat) (k : Key) (e : JEntry) (s : State), (s.issues a
      ⟨some true, [ri.val, rd.val], 1⟩ x) ∧ (s.tableAddr (s.ctx x) true ent ((s.ctx x).reg ri) (if wide then 8 else 4) = .ok at_) ∧
      (s.deltasFull = false) ∧ ((s.ctx x).entry = some k) ∧ (s.entry k = some e)) ∧
    (∃ (a : NimAt) (x : Nat) (s : State), s.issues a ⟨none, [], 1⟩ x) :=
  ⟨⟨coreAt, 5, 6, 4, 2, 0, 16, cobbler, by decide⟩,
   ⟨coreAt, 5, 6, 2, 0, 16, svcRuns, by decide⟩,
   ⟨coreAt, 5, 6, 2, 0, 16, cobbler, by decide⟩,
   ⟨coreAt, 5, 6, 2, 0, 16, svcRuns, by decide⟩,
   ⟨coreAt, 5, 6, 2, 0, 16, svcWith 6 (BitVec.ofNat 64 (regAt .NIM_AFF_MAP 0)), by decide⟩,
   ⟨coreAt, 5, 6, 7, 16, svcRuns, by decide⟩,
   ⟨coreAt, 5, 6, 7, 16, svcRuns, by decide⟩,
   ⟨coreAt, 5, 6, 7, 16, svcRuns, by decide⟩,
   ⟨coreAt, 5, 6, 0, false, 16, regAt .NIM_AFF_MAP 0, cobbler, by decide⟩,
   ⟨coreAt, 5, 6, 1, false, default, 16, regAt .NIM_AFF_MAP 1, jkey, progEnt, cobbler, by decide⟩,
   ⟨coreAt, 16, cobbler, by decide⟩⟩

/-- The hypotheses of TweedArithmeticBundles. -/
theorem test_hypotheses_TweedArithmeticBundles_1 :
    (∃ (core : Fin 8) (b : Bundle) (ad : Fin 8) (va vb : Fin 32) (sh : Fin 16) (s : State), ((s.twdCore core).run = true) ∧
      ((s.twdCore core).trapOf (.mac .add ad va vb sh) b = none) ∧ ((s.twdCore core).acts b.stg = true)) ∧
    (∃ (core : Fin 8) (b : Bundle) (ad : Fin 8) (va vb : Fin 32) (sh : Fin 16) (s : State), ((s.twdCore core).run = true) ∧
      ((s.twdCore core).trapOf (.mac .sub ad va vb sh) b = none) ∧ ((s.twdCore core).acts b.stg = true)) ∧
    (∃ (core : Fin 8) (b : Bundle) (ad : Fin 8) (va vb : Fin 32) (sh : Fin 16) (s : State), ((s.twdCore core).run = true) ∧
      ((s.twdCore core).trapOf (.mac .set ad va vb sh) b = none) ∧ ((s.twdCore core).acts b.stg = true)) ∧
    (∃ (core : Fin 8) (b : Bundle) (ad : Fin 8) (va vb : Fin 32) (sh : Fin 16) (s : State), ((s.twdCore core).run = true) ∧
      ((s.twdCore core).trapOf (.qmac .add ad va vb sh) b = none) ∧ ((s.twdCore core).acts b.stg = true)) ∧
    (∃ (core : Fin 8) (b : Bundle) (ad : Fin 8) (va vb : Fin 32) (sh : Fin 16) (s : State), ((s.twdCore core).run = true) ∧
      ((s.twdCore core).trapOf (.qmac .sub ad va vb sh) b = none) ∧ ((s.twdCore core).acts b.stg = true)) ∧
    (∃ (core : Fin 8) (b : Bundle) (ad : Fin 8) (va vb : Fin 32) (sh : Fin 16) (s : State), ((s.twdCore core).run = true) ∧
      ((s.twdCore core).trapOf (.qmac .set ad va vb sh) b = none) ∧ ((s.twdCore core).acts b.stg = true)) ∧
    (∃ (core : Fin 8) (b : Bundle) (mask : BitVec 8) (s : State), ((s.twdCore core).run = true) ∧ ((s.twdCore core).trapOf (.clr
      mask) b = none) ∧ ((s.twdCore core).acts b.stg = true)) ∧
    (∃ (core : Fin 8) (b : Bundle) (vd : Fin 32) (ad : Fin 8) (fmt : Fin 4) (sh : Fin 16) (s : State), ((s.twdCore core).run = true)
      ∧ ((s.twdCore core).trapOf (.rnd vd ad fmt sh) b = none) ∧ ((s.twdCore core).acts b.stg = true)) ∧
    (∃ (core : Fin 8) (b : Bundle) (vd va vb : Fin 32) (s : State), ((s.twdCore core).run = true) ∧ ((s.twdCore core).trapOf (.vadd
      false vd va vb) b = none) ∧ ((s.twdCore core).acts b.stg = true)) ∧
    (∃ (core : Fin 8) (b : Bundle) (vd va vb : Fin 32) (s : State), ((s.twdCore core).run = true) ∧ ((s.twdCore core).trapOf (.vadd
      true vd va vb) b = none) ∧ ((s.twdCore core).acts b.stg = true)) ∧
    (∃ (core : Fin 8) (b : Bundle) (vd va : Fin 32) (s : State), ((s.twdCore core).run = true) ∧ ((s.twdCore core).trapOf (.vmov vd
      va) b = none) ∧ ((s.twdCore core).acts b.stg = true)) ∧
    (∃ (core : Fin 8) (b : Bundle) (vd va : Fin 32) (k : Fin 4) (s : State), ((s.twdCore core).run = true) ∧ ((s.twdCore
      core).trapOf (.vbc vd va k) b = none) ∧ ((s.twdCore core).acts b.stg = true)) :=
  ⟨⟨0, quiet, 4, 5, 6, 1, twdRuns, by decide⟩,
   ⟨0, quiet, 4, 5, 6, 1, twdRuns, by decide⟩,
   ⟨0, quiet, 4, 5, 6, 1, twdRuns, by decide⟩,
   ⟨0, quiet, 4, 5, 6, 1, twdRuns, by decide⟩,
   ⟨0, quiet, 4, 5, 6, 1, twdRuns, by decide⟩,
   ⟨0, quiet, 4, 5, 6, 1, twdRuns, by decide⟩,
   ⟨0, quiet, 5, twdRuns, by decide⟩,
   ⟨0, quiet, 5, 1, 0, 2, twdRuns, by decide⟩,
   ⟨0, quiet, 5, 6, 7, twdRuns, by decide⟩,
   ⟨0, quiet, 5, 6, 7, twdRuns, by decide⟩,
   ⟨0, quiet, 5, 6, twdRuns, by decide⟩,
   ⟨0, quiet, 5, 6, 1, twdRuns, by decide⟩⟩

/-- The hypotheses of TweedArithmeticBundles. -/
theorem test_hypotheses_TweedArithmeticBundles_2 :
    (∃ (core : Fin 8) (b : Bundle) (ad : Fin 8) (va : Fin 32) (s : State), ((s.twdCore core).run = true) ∧ ((s.twdCore core).trapOf
      (.vtoa ad va) b = none) ∧ ((s.twdCore core).acts b.stg = true)) :=
  ⟨0, quiet, 5, 6, twdRuns, by decide⟩

/-- The hypotheses of TweedControlMovesAndTraps. -/
theorem test_hypotheses_TweedControlMovesAndTraps :
    (∃ (core : Fin 8) (b : Bundle) (s : State), ((s.twdCore core).run = true) ∧ ((s.twdCore core).trapOf (.nop) b = none)) ∧
    (∃ (core : Fin 8) (b : Bundle) (tr : TwdTrap) (s : State), ((s.twdCore core).run = true) ∧ ((s.twdCore core).trapOf .nop b =
      some tr)) ∧
    (∃ (core : Fin 8) (b : Bundle) (cnt : Fin 1024) (len : Fin 128) (s : State), ((s.twdCore core).run = true) ∧ ((s.twdCore
      core).trapOf (.loop cnt len) b = none)) ∧
    (∃ (core : Fin 8) (b : Bundle) (st : Fin 8) (cnt : Fin 1024) (len : Fin 16) (s : State), ((s.twdCore core).run = true) ∧
      ((s.twdCore core).trapOf (.lpr st cnt len) b = none)) ∧
    (∃ (core : Fin 8) (b : Bundle) (off : BitVec 17) (s : State), ((s.twdCore core).run = true) ∧ ((s.twdCore core).trapOf (.br off)
      b = none) ∧ (0 ≤ (s.twdCore core).pc + off.toInt)) ∧
    (∃ (core : Fin 8) (b : Bundle) (r : Fin 8) (addr : BitVec 14) (s : State), ((s.twdCore core).run = true) ∧ ((s.twdCore
      core).trapOf (.setx false r addr) b = none) ∧ ((s.twdCore core).acts b.stg = true)) ∧
    (∃ (core : Fin 8) (b : Bundle) (r : Fin 8) (addr : BitVec 14) (s : State), ((s.twdCore core).run = true) ∧ ((s.twdCore
      core).trapOf (.setx true r addr) b = none) ∧ ((s.twdCore core).acts b.stg = true)) ∧
    (∃ (core : Fin 8) (b : Bundle) (s : State), ((s.twdCore core).run = true) ∧ ((s.twdCore core).trapOf (.eob) b = none) ∧ (b.xm.op
      = 0) ∧ (b.ym.op = 0)) ∧
    (∃ (core : Fin 8) (b : Bundle) (y : Bool) (m : Move) (s : State), ((s.twdCore core).run = true) ∧ ((s.twdCore core).trapOf .nop
      (b.withMove y { m with op := 1 }) = none) ∧ ((s.twdCore core).acts m.stg = true)) ∧
    (∃ (core : Fin 8) (b : Bundle) (y : Bool) (m : Move) (s : State), ((s.twdCore core).run = true) ∧ ((s.twdCore core).trapOf .nop
      (b.withMove y { m with op := 2 }) = none) ∧ ((s.twdCore core).acts m.stg = true) ∧ (((s.twdCore core).areg (m.r.val + (if y
      then 8 else 0))).addr < 0x3000)) ∧
    (∃ (core : Fin 8) (b : Bundle) (y : Bool) (m : Move) (s : State), ((s.twdCore core).run = true) ∧ ((s.twdCore core).trapOf .nop
      (b.withMove y { m with op := 3 }) = none) ∧ ((s.twdCore core).acts m.stg = true)) :=
  ⟨⟨0, quiet, twdRuns, by decide⟩,
   ⟨0, { quiet with rsv := true }, .illegal, twdRuns, by decide⟩,
   ⟨0, quiet, 3, 4, twdRuns, by decide⟩,
   ⟨0, quiet, 2, 3, 4, twdRuns, by decide⟩,
   ⟨0, quiet, 3, twdRuns, by decide⟩,
   ⟨0, quiet, 3, 77, twdRuns, by decide⟩,
   ⟨0, quiet, 3, 77, twdRuns, by decide⟩,
   ⟨0, quiet, twdRuns, by decide⟩,
   ⟨0, quiet, true, default, twdRuns, by decide⟩,
   ⟨0, quiet, false, default, twdRuns, by decide⟩,
   ⟨0, quiet, true, { (default : Move) with k := 2 }, twdRuns, by decide⟩⟩

/-- The hypotheses of TweedBlocksRunAndPresent. -/
theorem test_hypotheses_TweedBlocksRunAndPresent :
    (∃ (core : Fin 8) (j : Nat) (filled : Bool) (s : State), (s.flag F.TWD_CTRL_EN 0 = true) ∧ (s.flag F.TWD_CORE_STAT_ARMED core =
      false) ∧ (s.fld F.TWD_CORE_STAT_STATE core = 1)) ∧
    (∃ (core : Fin 8) (uncorr : Bool) (s : State), (s.twdCore core).run = true) ∧
    (∃ (core : Fin 8) (s : State), ((s.twdCore core).ended = true) ∧ ((s.twdCore core).bad = false)) ∧
    (∃ (core : Fin 8) (s : State), ((s.twdCore core).ended = false ∨ (s.twdCore core).bad = true)) ∧
    (∃ (src : Requester) (core : Fin 8) (at_ : Word32) (s : State), (s.closedTo .TWD_CORE_AT src = false) ∧ (s.fld
      F.TWD_CORE_STAT_STATE core ≠ 3)) ∧
    (∃ (src : Requester) (core : Fin 8) (a : Fin 8192) (v : Word64) (s : State), src ≠ .pcie) ∧
    (∃ (src : Requester) (s : State), (s.closedTo .TWD_CTRL src = false) ∧ ((∀ c : Fin 8, s.fld F.TWD_CORE_STAT_STATE c = 1))) ∧
    (∃ (src : Requester) (s : State), s.closedTo .TWD_CTRL src = false) :=
  ⟨⟨0, 5, true, fl [(F.TWD_CTRL_EN, 0, 1), (F.TWD_CORE_STAT_STATE, 0, 1)], by decide⟩,
   ⟨0, false, twdRuns, by decide⟩,
   ⟨0, twdRuns.setTwd 0 { (default : TwdCore) with ended := true }, by decide⟩,
   ⟨0, twdRuns, by decide⟩,
   ⟨.work, 0, 9, State.reset, by decide⟩,
   ⟨.work, 0, 9, 7, State.reset, by decide⟩,
   ⟨.work, fl ((List.range 8).map fun c => (F.TWD_CORE_STAT_STATE, c, 1)), by decide⟩,
   ⟨.work, State.reset, by decide⟩⟩

/-- The hypotheses of TweedPlacementsFollowsAndBundles. -/
theorem test_hypotheses_TweedPlacementsFollowsAndBundles :
    (∃ (src : Requester) (k : Fin 1184) (w : Word32) (sender : Fin 4) (s : State), (s.closedTo .TWD_PLACE src = false) ∧
      ((F.TWD_PLACE_BASE.of (w.setWidth 64) % 4 ≠ 0 ∨ crossesCore (F.TWD_PLACE_BASE.of (w.setWidth 64)) (s.placeLen k) = true))) ∧
    (∃ (src : Requester) (k : Fin 1184) (w : Word32) (sender : Fin 4) (s : State), (s.closedTo .TWD_PLACE src = false) ∧
      (F.TWD_PLACE_BASE.of (w.setWidth 64) % 4 = 0) ∧ (crossesCore (F.TWD_PLACE_BASE.of (w.setWidth 64)) (s.placeLen k) = false) ∧
      (s.placeOverlaps k (F.TWD_PLACE_BASE.of (w.setWidth 64)) (s.placeLen k) = false) ∧ (s.placeTb k sender = s.coreTb
      (F.TWD_PLACE_BASE.of (w.setWidth 64) / 1024)) ∧ (s.fld F.TWD_CORE_STAT_STATE (F.TWD_PLACE_BASE.of (w.setWidth 64) / 1024) ≠
      3)) ∧
    (∃ (src : Requester) (n : Fin 400) (w : Word32) (s : State), (s.closedTo .TWD_FOLLOW src = false) ∧ (F.TWD_FOLLOW_MODE.of
      (w.setWidth 64) ≠ 3) ∧ ((F.TWD_FOLLOW_MODE.of (w.setWidth 64) = 2 → crossesCore (F.TWD_FOLLOW_BASE.of (w.setWidth 64))
      (s.followLen n) = false)) ∧ (s.fld F.TWD_CORE_STAT_STATE (F.TWD_FOLLOW_BASE.of (w.setWidth 64) / 1024) ≠ 3)) ∧
    (∃ (src : Requester) (b : Fin 16) (w : Word32) (s : State), (s.closedTo .TWD_BTX_FLOW src = false) ∧ (F.TWD_BTX_CFG_VALID.on
      (s.effReg .TWD_BTX_CFG b) = false) ∧ (s.fld F.TWD_CORE_STAT_STATE (F.TWD_BTX_CFG_BASE.of (s.effReg .TWD_BTX_CFG b) / 1024) ≠
      3)) ∧
    (∃ (src : Requester) (b : Fin 16) (w : Word32) (u : State) (s : State), (s.closedTo .TWD_BTX_CFG src = false) ∧
      (F.TWD_BTX_CFG_BASE.of (w.setWidth 64) % 64 = 0) ∧ (s.bundleFlow (F.TWD_BTX_FLOW_FLOW.of (s.effReg .TWD_BTX_FLOW b)) = true) ∧
      (s.reserveOut (btxChannels (s.effReg .TWD_BTX_CFG b)) (btxChannels (w.setWidth 64)) = some u) ∧ (s.fld F.TWD_CORE_STAT_STATE
      (F.TWD_BTX_CFG_BASE.of (w.setWidth 64) / 1024) ≠ 3)) ∧
    (∃ (src : Requester) (b : Fin 16) (w : Word32) (s : State), (s.closedTo .TWD_BTX_CFG src = false) ∧ (F.TWD_BTX_CFG_BASE.of
      (w.setWidth 64) % 64 ≠ 0)) ∧
    (∃ (src : Requester) (r : Fin 16) (w : Word32) (h : RouteHop) (s : State), (s.closedTo .TWD_BRX_CFG src = false) ∧
      ((F.TWD_BRX_CFG_DELAY.of (w.setWidth 64) = 0 ∨ 8 < F.TWD_BRX_CFG_DELAY.of (w.setWidth 64)))) ∧
    (∃ (src : Requester) (r : Fin 16) (w : Word32) (h : RouteHop) (s : State), (s.closedTo .TWD_BRX_CFG src = false) ∧ (0 <
      F.TWD_BRX_CFG_DELAY.of (w.setWidth 64)) ∧ (F.TWD_BRX_CFG_DELAY.of (w.setWidth 64) ≤ 8) ∧ (F.TWD_BRX_CFG_VALID.on (w.setWidth
      64) = false) ∧ (F.TWD_BRX_CFG_VALID.on (s.effReg .TWD_BRX_CFG r) = false) ∧ (s.fld F.TWD_CORE_STAT_STATE (F.TWD_PLACE_BASE.of
      (s.effReg .TWD_PLACE (1168 + r)) / 1024) ≠ 3) ∧ ((s.reserveIn 0 0).isSome = true)) ∧
    (∃ (src : Requester) (r : Fin 16) (w : Word32) (h : RouteHop) (u v : State) (s : State), (s.closedTo .TWD_BRX_CFG src = false) ∧
      (0 < F.TWD_BRX_CFG_DELAY.of (w.setWidth 64)) ∧ (F.TWD_BRX_CFG_DELAY.of (w.setWidth 64) ≤ 8) ∧ (F.TWD_BRX_CFG_VALID.on
      (w.setWidth 64) = true) ∧ (F.TWD_BRX_CFG_VALID.on (s.effReg .TWD_BRX_CFG r) = false) ∧ (s.reserveIn 0 64 = some u) ∧ (u.hold
      { h with flow := F.TWD_BRX_CFG_FLOW.of (w.setWidth 64), egress := [160 + r / 8] } = (v, .OK))) :=
  ⟨⟨.work, 5, 1, 0, State.reset, by decide⟩,
   ⟨.work, 0, w32 (State.reset.reg .TWD_PLACE 0), 0, State.reset, by decide⟩,
   ⟨.work, 5, 4, State.reset, by decide⟩,
   ⟨.work, 5, 4, State.reset, by decide⟩,
   ⟨.work, 5, w32 (wd [(F.TWD_BTX_CFG_VALID, 1)]), (btxReady.reserveOut 0 64).getD btxReady, btxReady, by decide⟩,
   ⟨.work, 5, w32 (wd [(F.TWD_BTX_CFG_BASE, 1)]), State.reset, by decide⟩,
   ⟨.work, 5, 0, default, State.reset, by decide⟩,
   ⟨.work, 5, w32 (wd [(F.TWD_BRX_CFG_DELAY, 1)]), default, State.reset, by decide⟩,
   ⟨.work, 5, w32 (wd [(F.TWD_BRX_CFG_DELAY, 1), (F.TWD_BRX_CFG_VALID, 1), (F.TWD_BRX_CFG_FLOW, 8)]), hop,
   (twlOn.reserveIn 0 64).getD twlOn, (((twlOn.reserveIn 0 64).getD twlOn).hold { hop with flow := 8, egress := [160] }).1, twlOn,
     by decide⟩⟩

/-- The hypotheses of SerialAudioSectionsStartStopAndMute. -/
theorem test_hypotheses_SerialAudioSectionsStartStopAndMute_1 :
    (∃ (src : Requester) (tx : Bool) (n : Fin 16) (w : Word32) (u : State) (s : State), (s.closedTo (aspCfg tx) src = false) ∧
      (s.aspState tx n = aspOff) ∧ (s.flag F.ASP_CTRL_EN 0 = true) ∧ (F.ASP_TX_CFG_ARM.on (w.setWidth 64) = false) ∧ ((tx = true →
      aspMisplaced (F.ASP_TX_CFG_BASE.of (w.setWidth 64)) (s.aspRate tx n) = false)) ∧ (s.aspChecks tx n (F.ASP_TX_CFG_ENABLE.put 1
      (w.setWidth 64)) (s.aspRate tx n) = .ok u)) ∧
    (∃ (src : Requester) (tx : Bool) (n : Fin 16) (s : State), (s.closedTo (aspCfg tx) src = false) ∧ ((s.aspState tx n = aspStart ∨
      s.aspState tx n = aspRun ∨ s.aspState tx n = aspSync ∨ s.aspState tx n = aspMuted)) ∧ (F.ASP_TX_CFG_ARM.on (s.reg (aspCfg tx)
      n) = false) ∧ (F.ASP_TX_CFG_KILL.on (s.reg (aspCfg tx) n) = false)) ∧
    (∃ (src : Requester) (tx : Bool) (n : Fin 16) (s : State), (s.closedTo (aspCfg tx) src = false) ∧ (s.aspState tx n ≠ aspOff)) ∧
    (∃ (src : Requester) (tx : Bool) (n : Fin 16) (s : State), (s.closedTo (aspCfg tx) src = false) ∧ (s.aspState tx n ≠
      aspRateStop) ∧ (s.aspState tx n ≠ aspDraining) ∧ (F.ASP_TX_CFG_KILL.on (s.reg (aspCfg tx) n) = false)) ∧
    (∃ (src : Requester) (tx : Bool) (n : Fin 16) (u : State) (s : State), (s.closedTo (aspCfg tx) src = false) ∧ (s.aspState tx n =
      aspRateStop) ∧ (s.flag ⟨aspCfg tx, 31, 1⟩ n = true) ∧ ((s.store (aspCfg tx) n (F.ASP_TX_CFG_ARM.put 1 (s.reg (aspCfg tx)
      n))).aspChecks tx n
      ((s.store (aspCfg tx) n (F.ASP_TX_CFG_ARM.put 1 (s.reg (aspCfg tx) n))).reg (aspCfg tx) n) (s.aspRate tx n) = .ok u)) ∧
    (∃ (src : Requester) (tx : Bool) (n : Fin 16) (w : Word32) (s : State), (s.closedTo (aspMask tx) src = false) ∧ (s.aspState tx n
      ≠ aspDraining)) ∧
    (∃ (tx : Bool) (n : Fin 16) (period : BitVec 24) (frame : List (BitVec 32)) (instants : List (Fin 16)) (s : State), (s.aspState
      tx n ≠ aspOff) ∧ (s.aspState tx n ≠ aspRateStop)) ∧
    (∃ (tx : Bool) (n : Fin 16) (s : State), (s.aspMaster tx n = false) ∧ ((s.aspState tx n = aspStart ∨ s.aspState tx n = aspRun ∨
      s.aspState tx n = aspSync))) ∧
    (∃ (tx : Bool) (n : Fin 16) (s : State), (s.aspMaster tx n = false) ∧ (s.aspState tx n = aspMuted)) ∧
    (∃ (tx : Bool) (n : Fin 16) (s : State), (s.aspMaster tx n = false) ∧ ((s.aspState tx n = aspStart ∨ s.aspState tx n = aspRun ∨
      s.aspState tx n = aspSync))) ∧
    (∃ (tx : Bool) (n : Fin 16) (f : AspFault) (s : State), (s.aspMaster tx n = (f == .source)) ∧ ((s.aspState tx n = aspStart ∨
      s.aspState tx n = aspRun ∨ s.aspState tx n = aspSync))) ∧
    (∃ (tx : Bool) (n : Fin 16) (s : State), s.aspState tx n = aspSync) :=
  ⟨⟨.work, false, 3, 0, (aspOn.aspChecks false 3 (F.ASP_TX_CFG_ENABLE.put 1 0) false).toOption.getD aspOn, aspOn, by decide⟩,
   ⟨.work, true, 3, aspIn true 3 3, by decide⟩,
   ⟨.work, true, 3, aspIn true 3 3, by decide⟩,
   ⟨.work, true, 3, aspIn true 3 3, by decide⟩,
   ⟨.work, false, 3, ((aspStopped.store .ASP_RX_CFG 3 (F.ASP_TX_CFG_ARM.put 1 (aspStopped.reg .ASP_RX_CFG 3))).aspChecks false 3
     ((aspStopped.store .ASP_RX_CFG 3 (F.ASP_TX_CFG_ARM.put 1 (aspStopped.reg .ASP_RX_CFG 3))).reg .ASP_RX_CFG 3)
     false).toOption.getD aspStopped, aspStopped, by decide⟩,
   ⟨.work, true, 3, 5, State.reset, by decide⟩,
   ⟨true, 3, 2083333, [], [0], aspIn true 3 3, by decide⟩,
   ⟨true, 3, aspIn true 3 3, by decide⟩,
   ⟨true, 3, aspIn true 3 4, by decide⟩,
   ⟨true, 3, aspIn true 3 3, by decide⟩,
   ⟨true, 3, .count, aspIn true 3 3, by decide⟩,
   ⟨true, 3, aspIn true 3 1, by decide⟩⟩

/-- The hypotheses of SerialAudioSectionsStartStopAndMute. -/
theorem test_hypotheses_SerialAudioSectionsStartStopAndMute_2 :
    (∃ (tx : Bool) (n : Fin 16) (s : State), s.aspState tx n = aspMuted) ∧
    (∃ (tx : Bool) (n : Fin 16) (rate : Fin 8) (s : State), (s.aspState tx n = aspMuted) ∧ (s.aspMaster tx n = false) ∧ (rate.val ≠
      0) ∧ (rate.val ≠ (if s.aspRate tx n then 5 else 3)) ∧ (s.flag ⟨aspCfg tx, 27, 1⟩ n = false)) ∧
    (∃ (tx : Bool) (n : Fin 16) (s : State), (s.aspState tx n = aspStart) ∧ ((s.sect tx n).data = false) ∧ ((s.sect tx n).filling =
      false) ∧ ((s.sect tx n).lead = 0)) ∧
    (∃ (tx : Bool) (n : Fin 16) (s : State), (s.aspState tx n = aspDraining) ∧ ((s.sect tx n).data = false) ∧ ((s.sect tx n).tail =
      0)) :=
  ⟨⟨true, 3, aspIn true 3 4, by decide⟩,
   ⟨true, 3, 4, aspIn true 3 4, by decide⟩,
   ⟨true, 3, aspIn true 3 2, by decide⟩,
   ⟨true, 3, aspIn true 3 6, by decide⟩⟩

/-- The hypotheses of VampPipesAndSurfaces. -/
theorem test_hypotheses_VampPipesAndSurfaces :
    (∃ (src : Requester) (v : Fin 16) (w : Word32) (s : State), (s.closedTo .VMP_PIPE_CFG src = false) ∧ (s.pipeState v = pipeOff) ∧
      (s.pipeRefusal v (F.VMP_PIPE_CFG_ENABLE.put 1 (w.setWidth 64)) = none)) ∧
    (∃ (src : Requester) (v : Fin 16) (w : Word32) (st : Status) (s : State), (s.closedTo .VMP_PIPE_CFG src = false) ∧ (s.pipeState
      v = pipeOff) ∧ (s.pipeRefusal v (F.VMP_PIPE_CFG_ENABLE.put 1 (w.setWidth 64)) = some st)) ∧
    (∃ (src : Requester) (v : Fin 16) (s : State), (s.closedTo .VMP_PIPE_CFG src = false) ∧ (s.pipeState v = pipeRun) ∧
      (F.VMP_PIPE_CFG_KILL.on (s.reg .VMP_PIPE_CFG v) = false)) ∧
    (∃ (src : Requester) (v : Fin 16) (s : State), (s.closedTo .VMP_PIPE_CFG src = false) ∧ (s.pipeState v ≠ pipeOff)) ∧
    (∃ (v : Fin 16) (s : State), s.pipeState v = pipeDraining) ∧
    (∃ (src : Requester) (m : Fin 256) (w : Word32) (b : Nat) (s : State), (s.closedTo .VMP_SURF_CFG src = false) ∧ (surfBytes
      (F.VMP_SURF_CFG_FMT.of (w.setWidth 64)) = some b) ∧ (s.fld F.VMP_SURF_USE_N m = 0) ∧ ((F.VMP_SURF_CFG_VALID.on (w.setWidth 64)
      = true → (s.fld F.VMP_SURF_SIZE_W1 m + 1) * b ≤ s.fld F.VMP_SURF_PITCH_PITCH m ∧ s.fld F.VMP_SURF_PITCH_PITCH m % 64 = 0 ∧
      (s.surfPages m (w.setWidth 64)).2 ≤ 30393 ∧ (s.reg .ING_POOL_PAGES 0).toNat ≤ (s.surfPages m (w.setWidth 64)).1 ∧
        s.surfOverlaps m (s.surfPages m (w.setWidth 64)) = false))) ∧
    (∃ (src : Requester) (m : Fin 256) (w : Word32) (s : State), (s.closedTo .VMP_SURF_CFG src = false) ∧ ((surfBytes
      (F.VMP_SURF_CFG_FMT.of (w.setWidth 64))).isSome = true) ∧ (s.fld F.VMP_SURF_USE_N m ≠ 0)) ∧
    (∃ (m : Nat) (g : Word) (r : List (Nat × Word)) (s : State), (s.vmp.gens = (m, g) :: r) ∧ (g.toNat < 2 ^ 32)) ∧
    (∃ (src : Requester) (s : State), (s.closedTo .VMP_CTRL src = false) ∧ ((∀ v : Fin 16, s.pipeState v = pipeRun))) ∧
    (∃ (off : BitVec 36) (b : Byte) (s : State), s.bar2Refused (off.toNat / 2097152) true = false) ∧
    (∃ (off : BitVec 36) (write : Option (List Byte)) (s : State), s.bar2Refused (off.toNat / 2097152) write.isSome = true) :=
  ⟨⟨.work, 3, 0, pipesOn, by decide⟩,
   ⟨.work, 3, 0, .NOT_READY, State.reset, by decide⟩,
   ⟨.work, 3, fl [(F.VMP_PIPE_STAT_STATE, 3, 1)], by decide⟩,
   ⟨.work, 3, fl [(F.VMP_PIPE_STAT_STATE, 3, 1)], by decide⟩,
   ⟨3, fl [(F.VMP_PIPE_STAT_STATE, 3, 2)], by decide⟩,
   ⟨.work, 3, 0, 4, State.reset, by decide⟩,
   ⟨.work, 3, 0, fl [(F.VMP_SURF_USE_N, 3, 1)], by decide⟩,
   ⟨3, 7, [], { State.reset with vmp := { State.reset.vmp with gens := [(3, 7)] } }, by decide⟩,
   ⟨.work, fl ((List.range 16).map fun c => (F.VMP_PIPE_STAT_STATE, c, 1)), by decide⟩,
   ⟨0xEC0000000, 7, fl [(F.BOOT_PROT_HOST_BAR2, 0, 1), (F.BOOT_STAGE_STAGE, 0, 7)], by decide⟩,
   ⟨0, some [7], State.reset, by decide⟩⟩

/-- The hypotheses of LastSelectsSlewsAndHolds. -/
theorem test_hypotheses_LastSelectsSlewsAndHolds_1 :
    (∃ (o : LastObs) (r : Nat) (s : State), (s.flag F.LST_CTRL_FORCE_EN 0 = false) ∧ (s.qualified = [r]) ∧ (s.lstSel ≠ r) ∧
      (s.lstState ≠ lstOpen) ∧ (s.flag F.LST_STATUS_SLEWING 0 = false)) ∧
    (∃ (o : LastObs) (s : State), (s.flag F.LST_CTRL_FORCE_EN 0 = false) ∧ (s.qualified = []) ∧ ((s.lstState = lstAcquire ∨
      s.lstState = lstLocked))) ∧
    (∃ (r : Fin 14) (fault : Fin 8) (s : State), s.refValid r = true) ∧
    (∃ (r : Fin 14) (s : State), (s.fld F.LST_REF_CFG_RANK r ≠ 0) ∧ (s.refValid r = false) ∧ ((12 ≤ r.val → s.tagGood r = true)) ∧
      ((6 ≤ r.val → r.val < 10 → s.servoLocked (r - 6) = true))) ∧
    (∃ (r : Fin 14) (s : State), s.refValid r = true) ∧
    (∃ (phase : Int) (s : State), (s.flag F.LST_STATUS_SLEWING 0 = true) ∧ (s.lst.pendSel = none) ∧ (s.lst.slewEnd = false) ∧
      (s.slewStep < (signedOf 32 (s.reg .LST_SLEW_LEFT 0).toNat).natAbs) ∧ (0 < signedOf 32 (s.reg .LST_SLEW_LEFT 0).toNat)) ∧
    (∃ (phase : Int) (s : State), (s.flag F.LST_STATUS_SLEWING 0 = true) ∧ (s.lst.pendSel = none) ∧ ((signedOf 32 (s.reg
      .LST_SLEW_LEFT 0).toNat).natAbs ≤ s.slewStep)) ∧
    (∃ (s : State), s.lstState = lstAcquire) ∧
    (∃ (s : State), s.lstState = lstHoldover) ∧
    (∃ (src : Requester) (s : State), (s.closedTo .LST_CTRL src = false) ∧ (s.fld F.LST_CTRL_FORCE_REF 0 ≤ 13) ∧ (s.lstState ≠
      lstOpen)) ∧
    (∃ (src : Requester) (s : State), (s.closedTo .LST_CTRL src = false) ∧ (s.fld F.LST_CTRL_FORCE_REF 0 ≤ 13) ∧ (s.lstState =
      lstOpen)) ∧
    (∃ (src : Requester) (v : Word64) (s : State), (s.closedTo .LST_STEER src = false) ∧ (s.lstState = lstOpen)) :=
  ⟨⟨default, 2, refOn 2, by decide⟩,
   ⟨default, fl [(F.LST_STATUS_STATE, 0, 2), (F.LST_STATUS_SELECTED, 0, 2)], by decide⟩,
   ⟨2, 3, refOn 2, by decide⟩,
   ⟨2, fl [(F.LST_REF_CFG_RANK, 2, 1)], by decide⟩,
   ⟨2, refOn 2, by decide⟩,
   ⟨0, rg [(.LST_SLEW_LEFT, 0, 1000000000)] (fl [(F.LST_STATUS_SLEWING, 0, 1), (F.LST_SLEW_RATE, 0, 10), (F.LST_SLEW_STEP, 0, 1)]),
     by decide⟩,
   ⟨0, rg [(.LST_SLEW_LEFT, 0, 50)] (fl [(F.LST_STATUS_SLEWING, 0, 1), (F.LST_SLEW_RATE, 0, 10), (F.LST_SLEW_STEP, 0, 1)]), by
     decide⟩,
   ⟨fl [(F.LST_STATUS_STATE, 0, 1)], by decide⟩,
   ⟨fl [(F.LST_STATUS_STATE, 0, 3)], by decide⟩,
   ⟨.work, State.reset, by decide⟩,
   ⟨.work, fl [(F.LST_STATUS_STATE, 0, 5)], by decide⟩,
   ⟨.work, 5, fl [(F.LST_STATUS_STATE, 0, 5)], by decide⟩⟩

/-- The hypotheses of LastSelectsSlewsAndHolds. -/
theorem test_hypotheses_LastSelectsSlewsAndHolds_2 :
    (∃ (src : Requester) (r : Fin 14) (w : Word32) (s : State), (s.closedTo .LST_REF_CFG src = false) ∧ (badRefCfg r (w.setWidth 64)
      = false) ∧ (¬ (6 ≤ r.val ∧ r.val < 10)) ∧ (s.lstSel ≠ r.val)) ∧
    (∃ (synths : BitVec 5) (s : State), synths.getLsbD 4 = false) ∧
    (∃ (offset : Int) (s : State), (s.lstState = lstLocked) ∧ (s.flag F.LST_STATUS_SLEWING 0 = false) ∧ (86400 * 32768 ≤ s.tick) ∧
      (s.lst.model = false)) ∧
    (∃ (s : State), s.lst.model = false) ∧
    (∃ (s : State), (s.lst.model = true) ∧ (0 ≤ (s.signedFld F.LST_AGE_C0 0 + 365 * s.signedFld F.LST_AGE_C1 0) / 10) ∧
      ((s.signedFld F.LST_AGE_C0 0 + 365 * s.signedFld F.LST_AGE_C1 0) / 10 < 2 ^ 31)) ∧
    (∃ (b : Bool) (s : State), (s.refclkNow = (if b then 1 else 0)) ∧ ((if b then s.lst.badA else s.lst.badB) = false)) ∧
    (∃ (b : Bool) (s : State), (s.refclkNow = 2) ∧ (s.lst.badA = true) ∧ (s.lst.badB = true)) :=
  ⟨⟨.work, 2, w32 (BitVec.ofNat 64 (Reg.refCfgReset 2)), refOn 2, by decide⟩,
   ⟨5, State.reset, by decide⟩,
   ⟨5, { fl [(F.LST_STATUS_STATE, 0, 2)] with tick := 86400 * 32768 }, by decide⟩,
   ⟨State.reset, by decide⟩,
   ⟨{ State.reset with lst := { State.reset.lst with model := true } }, by decide⟩,
   ⟨false, State.reset, by decide⟩,
   ⟨false, { fl [(F.LST_STATUS_REFCLK_MASTER, 0, 1)] with lst := { State.reset.lst with badA := true, badB := true } }, by decide⟩⟩

/-- The hypotheses of TimeBasesServosAndPtp. -/
theorem test_hypotheses_TimeBasesServosAndPtp_1 :
    (∃ (src : Requester) (k : Fin 4) (s : State), (s.closedTo .NTM_TB_ADJ src = false) ∧ (s.fld F.NTM_TB_CFG_MODE k = 0) ∧ ((low32
      (s.reg .NTM_TB_ADJ_NS k)).toNat ≤ 999999999) ∧ ((s.reg .NTM_TB_ADJ_SEC k).toNat < 2 ^ 48) ∧ (s.tbRunning k = false)) ∧
    (∃ (src : Requester) (k : Fin 4) (s : State), (s.closedTo .NTM_TB_ADJ src = false) ∧ (s.fld F.NTM_TB_CFG_MODE k = 0) ∧
      (s.tbRunning k = true)) ∧
    (∃ (src : Requester) (k : Fin 4) (s : State), (s.closedTo .NTM_TB_ADJ src = false) ∧ (s.fld F.NTM_TB_CFG_MODE k = 0) ∧
      (s.tbRunning k = false)) ∧
    (∃ (src : Requester) (k : Fin 4) (w : Word32) (s : State), (s.closedTo .NTM_TB_CFG src = false) ∧ (F.NTM_TB_CFG_MODE.of
      (w.setWidth 64) = 2) ∧ (F.NTM_TB_CFG_ALIGN_US.of (w.setWidth 64) ≠ 0) ∧ (F.NTM_TB_CFG_ALIGN.on (w.setWidth 64) = false) ∧
      (s.fld F.NTM_TB_CFG_MODE k ≠ 2)) ∧
    (∃ (src : Requester) (k : Fin 4) (w : Word32) (s : State), (s.closedTo .NTM_TB_CFG src = false) ∧ (F.NTM_TB_CFG_MODE.of
      (w.setWidth 64) = 3)) ∧
    (∃ (src : Requester) (k : Fin 4) (v : Word64) (s : State), (s.closedTo .NTM_SRV_FEED src = false) ∧ (s.fld F.NTM_TB_CFG_MODE k =
      2) ∧ (s.srvState k = srvWait) ∧ (s.flag F.NTM_CTRL_EN 0 = true) ∧ (s.tbRunning k = true) ∧ (v.toInt.natAbs ≤ s.fld
      F.NTM_SRV_CFG_STEP_NS k * 65536)) ∧
    (∃ (k : Fin 4) (s : State), (s.srvState k = srvWait ∨ s.srvState k = srvAcquire ∨ s.srvState k = srvLocked)) ∧
    (∃ (src : Requester) (k : Fin 4) (p : Fin 32) (w : Word32) (s : State), (s.closedTo .NTM_PORT_CFG src = false) ∧
      (F.NTM_PORT_CFG_STATE.of (w.setWidth 64) ≤ 4) ∧ (s.flag F.NPT_PORT_STAT_EXISTS p = true) ∧ (s.badPtpState k p
      (F.NTM_PORT_CFG_STATE.of (w.setWidth 64)) = false)) ∧
    (∃ (src : Requester) (k : Fin 4) (p : Fin 32) (w : Word32) (s : State), (s.closedTo .NTM_PORT_CFG src = false) ∧ ((4 <
      F.NTM_PORT_CFG_STATE.of (w.setWidth 64) ∨ s.flag F.NPT_PORT_STAT_EXISTS p = false))) ∧
    (∃ (k : Fin 4) (p : Fin 32) (s : State), (s.instOn k = true) ∧ (s.ptpState k p = 2)) ∧
    (∃ (k : Fin 4) (p : Fin 32) (s : State), (s.instOn k = true) ∧ (s.ptpState k p = 2) ∧ (s.flag F.NTM_INST_CFG_ONE_STEP k = true))
      ∧
    (∃ (k : Fin 4) (p : Fin 32) (s : State), (s.instOn k = true) ∧ (s.ptpState k p = 2) ∧ (s.flag F.NTM_INST_CFG_ONE_STEP k =
      false)) :=
  ⟨⟨.work, 1, State.reset, by decide⟩,
   ⟨.work, 1, rg [(.NTM_TB_ADJ_NS, 1, 1000)] (fl [(F.NTM_TB_STAT_RUNNING, 1, 1)]), by decide⟩,
   ⟨.work, 1, State.reset, by decide⟩,
   ⟨.work, 1, w32 (wd [(F.NTM_TB_CFG_MODE, 2), (F.NTM_TB_CFG_ALIGN_US, 1)]), State.reset, by decide⟩,
   ⟨.work, 1, w32 (wd [(F.NTM_TB_CFG_MODE, 3)]), State.reset, by decide⟩,
   ⟨.work, 1, 5, fl [(F.NTM_TB_CFG_MODE, 1, 2), (F.NTM_SRV_STAT_STATE, 1, 1), (F.NTM_CTRL_EN, 0, 1), (F.NTM_TB_STAT_RUNNING, 1, 1)],
     by decide⟩,
   ⟨1, fl [(F.NTM_SRV_STAT_STATE, 1, 3)], by decide⟩,
   ⟨.work, 1, 0, w32 (wd [(F.NTM_PORT_CFG_STATE, 2)]), fl [(F.NPT_PORT_STAT_EXISTS, 0, 1)], by decide⟩,
   ⟨.work, 1, 0, 0, State.reset, by decide⟩,
   ⟨1, 3, ptpAt 2, by decide⟩,
   ⟨1, 3, fl [(F.NTM_INST_CFG_ONE_STEP, 1, 1)] (ptpAt 2), by decide⟩,
   ⟨1, 3, ptpAt 2, by decide⟩⟩

/-- The hypotheses of TimeBasesServosAndPtp. -/
theorem test_hypotheses_TimeBasesServosAndPtp_2 :
    (∃ (k : Fin 4) (p : Fin 32) (tx : FineTime) (s : State), (s.instOn k = true) ∧ (s.ptpState k p = 4) ∧ (s.flag F.NTM_INST_CFG_P2P
      k = false)) ∧
    (∃ (k : Fin 4) (p : Fin 32) (tx : FineTime) (s : State), (s.instOn k = true) ∧ (s.ptpState k p ≠ 0) ∧ (s.flag F.NTM_INST_CFG_P2P
      k = true)) ∧
    (∃ (k : Fin 4) (p : Fin 32) (s : State), (s.instOn k = true) ∧ (s.ptpState k p = 4)) ∧
    (∃ (p : Fin 32) (m : PtpMsg) (f : RxFrame) (k : Nat) (s : State), (s.linkUp p = true) ∧ (s.portState p ≠ portWakeOnly) ∧
      (f.fcsOk = true) ∧ (64 ≤ f.len) ∧ (f.len ≤ s.fld F.NPT_PORT_CFG_MTU p) ∧ (f.vlan = none) ∧ (f.dest ≠ .other) ∧ (f.badSum =
      false) ∧ (s.ptpInst p m = some k) ∧ (s.fld F.NTM_INST_CFG_ROLE k < 2) ∧ (s.ptpState k p = 4) ∧ (m.kind = .sync) ∧
      (s.fromParent k p m = false)) ∧
    (∃ (k : Fin 4) (s : State), (s.flag F.NTM_TB_CFG_ALIGN k = true) ∧ (s.tbRunning k = true) ∧ (s.fld F.NTM_TB_CFG_ALIGN_SRC k < 4)
      ∧ ((nearest (s.tbNow k) (s.tbNow k / fineSecond * fineSecond) ((s.tbNow k / fineSecond + 1) * fineSecond)).natAbs ≤ s.fld
      F.NTM_TB_CFG_ALIGN_US k * 1000)) :=
  ⟨⟨1, 3, 100, ptpAt 4, by decide⟩,
   ⟨1, 3, 100, fl [(F.NTM_INST_CFG_P2P, 1, 1)] (ptpAt 4), by decide⟩,
   ⟨1, 3, ptpAt 4, by decide⟩,
   ⟨3, { (default : PtpMsg) with kind := .sync, clock := 7 },
     { (default : RxFrame) with fcsOk := true, len := 64, dest := .multicast }, 1, ptpRx, by decide⟩,
   ⟨1, fl [(F.NTM_TB_CFG_ALIGN, 1, 1), (F.NTM_TB_STAT_RUNNING, 1, 1), (F.NTM_TB_CFG_ALIGN_SRC, 1, 2), (F.NTM_TB_CFG_ALIGN_US, 1,
     5)], by decide⟩⟩

/-- The hypotheses of TriggersCapturesAndTheirStop. -/
theorem test_hypotheses_TriggersCapturesAndTheirStop :
    (∃ (src : Requester) (t0 : Fin 64) (w : Word32) (v : Word) (s : State), (v = F.NTM_TRG_CFG_ARM.put 1 (w.setWidth 64)) ∧
      (s.closedTo .NTM_TRG_CFG src = false) ∧ (F.NTM_TRG_CFG_LATE.of v ≠ 3) ∧ (F.NTM_TRG_CFG_ACTION.of v ≤ 4) ∧ (s.trgState t0 =
      trgIdle) ∧ (s.flag F.NTM_CTRL_EN 0 = true) ∧ (s.tbRunning (F.NTM_TRG_CFG_TB.of v) = true) ∧ (s.gpioDriven t0
      (F.NTM_TRG_CFG_GPIO.of v) = false) ∧ (s.tbNow (F.NTM_TRG_CFG_TB.of v) + 100 * 65536 < (s.reg .NTM_TRG_T t0).toNat * 65536)) ∧
    (∃ (t0 : Fin 64) (s : State), (s.trgState t0 = trgArmed) ∧ (s.fld F.NTM_TRG_CFG_ACTION t0 = 1) ∧ (s.fld F.NTM_TRG_PNUM_PNUM t0 =
      0) ∧ ((s.trg t0).pulse = false)) ∧
    (∃ (t0 : Fin 64) (s : State), (s.trgState t0 = trgArmed) ∧ (s.fld F.NTM_TRG_CFG_ACTION t0 = 3) ∧ (s.fld F.NTM_TRG_PNUM_PNUM t0 ≠
      0) ∧ (s.fld F.NTM_TRG_CFG_COUNT t0 = 0)) ∧
    (∃ (t0 : Fin 64) (s : State), (s.trg t0).pulse = true) ∧
    (∃ (src : Requester) (t0 : Fin 64) (s : State), (s.closedTo .NTM_TRG_CFG src = false) ∧ (F.NTM_TRG_CFG_LATE.of (s.reg
      .NTM_TRG_CFG t0) ≠ 3) ∧ (F.NTM_TRG_CFG_ACTION.of (s.reg .NTM_TRG_CFG t0) ≤ 4) ∧ (F.NTM_TRG_CFG_KILL.on (s.reg .NTM_TRG_CFG t0)
      = false) ∧ (s.trgState t0 ≠ trgIdle)) ∧
    (∃ (src : Requester) (t0 : Fin 64) (s : State), (s.closedTo .NTM_TRG_CFG src = false) ∧ (F.NTM_TRG_CFG_LATE.of (s.reg
      .NTM_TRG_CFG t0) ≠ 3) ∧ (F.NTM_TRG_CFG_ACTION.of (s.reg .NTM_TRG_CFG t0) ≤ 4) ∧ (s.trgState t0 ≠ trgIdle)) ∧
    (∃ (c : Fin 64) (rising : Bool) (s : State), (s.flag F.NTM_CAP_CFG_EN c = true) ∧ (s.flag F.NTM_CTRL_EN 0 = true) ∧ (s.fld
      F.NTM_CAP_CFG_EDGE c = 3) ∧ ((s.cap c).fifo.length < 16)) ∧
    (∃ (c : Fin 64) (rising : Bool) (s : State), (s.flag F.NTM_CAP_CFG_EN c = true) ∧ (s.flag F.NTM_CTRL_EN 0 = true) ∧ (s.fld
      F.NTM_CAP_CFG_EDGE c = 3) ∧ (16 ≤ (s.cap c).fifo.length)) ∧
    (∃ (c : Fin 64) (e : CapEntry) (r : List CapEntry) (s : State), (s.cap c).fifo = e :: r) ∧
    (∃ (src : Requester) (s : State), (s.closedTo .NTM_CTRL src = false) ∧ (F.NTM_CTRL_KILL.on (s.reg .NTM_CTRL 0) = false)) :=
  ⟨⟨.work, 5, 0, F.NTM_TRG_CFG_ARM.put 1 0, rg [(.NTM_TRG_T, 5, 1000)] (fl [(F.NTM_CTRL_EN, 0, 1), (F.NTM_TB_STAT_RUNNING, 0, 1)]),
    by decide⟩,
   ⟨5, fl [(F.NTM_TRG_STAT_STATE, 5, 1), (F.NTM_TRG_CFG_ACTION, 5, 1)], by decide⟩,
   ⟨5, fl [(F.NTM_TRG_STAT_STATE, 5, 1), (F.NTM_TRG_CFG_ACTION, 5, 3), (F.NTM_TRG_PNUM_PNUM, 5, 9)], by decide⟩,
   ⟨5, State.reset.setTrg 5 ⟨0, true⟩, by decide⟩,
   ⟨.work, 5, fl [(F.NTM_TRG_STAT_STATE, 5, 1)], by decide⟩,
   ⟨.work, 5, (fl [(F.NTM_TRG_STAT_STATE, 5, 1)]).setTrg 5 ⟨0, true⟩, by decide⟩,
   ⟨5, true, capOn, by decide⟩,
   ⟨5, true, capOn.setCap 5 ⟨List.replicate 16 default, false⟩, by decide⟩,
   ⟨5, default, [], capOn.setCap 5 ⟨[default], false⟩, by decide⟩,
   ⟨.work, State.reset, by decide⟩⟩

/-- The hypotheses of LaneLocksEyesEqualisersAndPatterns. -/
theorem test_hypotheses_LaneLocksEyesEqualisersAndPatterns_1 :
    (∃ (ix : Fin 224) (s : State), 160 ≤ ix.val) ∧
    (∃ (ix : Fin 224) (s : State), (ix.val < 128) ∧ ((s.input ix).lock = true)) ∧
    (∃ (ix : Fin 224) (s : State), (128 ≤ ix.val) ∧ (ix.val < 160) ∧ (s.linkUp (s.portOfLane (ix - 128)) = true)) ∧
    (∃ (ix : Fin 224) (o : EyeObs) (s : State), s.laneState ix = 0) ∧
    (∃ (ix : Fin 224) (o : EyeObs) (s : State), (s.laneState ix ≠ 0) ∧ (s.eyeBelow ix o.v o.h = false)) ∧
    (∃ (ix : Fin 224) (o : EyeObs) (s : State), (s.laneState ix ≠ 0) ∧ (s.eyeBelow ix o.v o.h = true) ∧ (2 ≤ (s.lane ix).lows) ∧
      (s.flag F.WLT_LANE_CFG_RECAL_AUTO ix = false)) ∧
    (∃ (src : Requester) (ix : Fin 224) (s : State), (s.closedTo .WLT_LANE_CTRL src = false) ∧ (ix.val < 160)) ∧
    (∃ (src : Requester) (ix : Fin 224) (s : State), (s.closedTo .WLT_LANE_CTRL src = false) ∧ (160 ≤ ix.val) ∧ (s.fld
      F.WLT_LK_STAT_LANE_MASK (linkOfLane ix) ≠ 15)) ∧
    (∃ (ix : Fin 224) (offset : Int) (larger : Bool) (s : State), ((s.lane ix).recal = true) ∧ (ix.val < 128) ∧ (0 < offset)) ∧
    (∃ (ix : Fin 224) (offset : Int) (larger : Bool) (s : State), ((s.lane ix).recal = true) ∧ (128 ≤ ix.val) ∧ (s.flag
      F.WLT_LANE_CFG_CTLE_AUTO ix = true) ∧ ((s.lane ix).upDone = false) ∧ (larger = true) ∧ ((s.lane ix).ctle < 48)) ∧
    (∃ (ix : Fin 224) (offset : Int) (larger : Bool) (s : State), ((s.lane ix).recal = true) ∧ (128 ≤ ix.val) ∧ (s.flag
      F.WLT_LANE_CFG_CTLE_AUTO ix = true) ∧ ((s.lane ix).upDone = true) ∧ (larger = false)) ∧
    (∃ (src : Requester) (ix : Fin 224) (s : State), (s.closedTo .WLT_LANE_CTRL src = false) ∧ (160 ≤ ix.val)) :=
  ⟨⟨170, State.reset, by decide⟩,
   ⟨5, liveIn, by decide⟩,
   ⟨130, upPort 2, by decide⟩,
   ⟨3, default, State.reset, by decide⟩,
   ⟨5, { (default : EyeObs) with v := 200, h := 200 }, liveIn, by decide⟩,
   ⟨5, default, (fl [(F.WLT_LANE_CFG_RECAL_AUTO, 5, 0), (F.WLT_EYE_MIN_NRZ_V, 0, 9)] liveIn).setLane 5
     { (default : Lane) with lows := 2 }, by decide⟩,
   ⟨.work, 130, State.reset, by decide⟩,
   ⟨.work, 170, State.reset, by decide⟩,
   ⟨5, 3, true, State.reset.setLane 5 { (default : Lane) with recal := true }, by decide⟩,
   ⟨130, 3, true, State.reset.setLane 130 { (default : Lane) with recal := true }, by decide⟩,
   ⟨130, 3, false, State.reset.setLane 130 { (default : Lane) with recal := true, upDone := true }, by decide⟩,
   ⟨.work, 170, State.reset, by decide⟩⟩

/-- The hypotheses of LaneLocksEyesEqualisersAndPatterns. -/
theorem test_hypotheses_LaneLocksEyesEqualisersAndPatterns_2 :
    (∃ (src : Requester) (ix : Fin 224) (s : State), (s.closedTo .WLT_LANE_CTRL src = false) ∧ (128 ≤ ix.val) ∧ (ix.val < 160)) ∧
    (∃ (src : Requester) (ix : Fin 224) (s : State), (s.closedTo .WLT_LANE_CTRL src = false) ∧ (s.videoRx ix = true) ∧ ((s.input
      ix).lock = true) ∧ (ix.val < 128)) ∧
    (∃ (src : Requester) (ix : Fin 224) (w : Word32) (s : State), (ix.val < 160) ∧ (s.closedTo .WLT_LANE_TXEQ src = false) ∧
      (s.badTxeq ix (w.setWidth 64) = false)) ∧
    (∃ (src : Requester) (ix : Fin 224) (w : Word32) (s : State), (ix.val < 160) ∧ (s.closedTo .WLT_LANE_TXEQ src = false) ∧ (63 <
      tapMag (F.WLT_LANE_TXEQ_CM3.of (w.setWidth 64)) + tapMag (F.WLT_LANE_TXEQ_CM2.of (w.setWidth 64)) +
      tapMag (F.WLT_LANE_TXEQ_CM1.of (w.setWidth 64)) + tapMag (F.WLT_LANE_TXEQ_C0.of (w.setWidth 64)) + tapMag
        (F.WLT_LANE_TXEQ_CP1.of (w.setWidth 64)))) ∧
    (∃ (src : Requester) (ix : Fin 224) (w : Word32) (s : State), 160 ≤ ix.val) ∧
    (∃ (src : Requester) (ix : Fin 224) (w : Word32) (s : State), (s.closedTo .WLT_LANE_PRBS src = false) ∧
      (F.WLT_LANE_PRBS_PATTERN.of (w.setWidth 64) ≤ 3) ∧ (s.prbsFree ix = true)) ∧
    (∃ (src : Requester) (ix : Fin 224) (w : Word32) (s : State), (s.closedTo .WLT_LANE_PRBS src = false) ∧
      (F.WLT_LANE_PRBS_PATTERN.of (w.setWidth 64) ≤ 3) ∧ (F.WLT_LANE_PRBS_GEN.on (w.setWidth 64) = true) ∧ (ix.val < 160) ∧
      (s.laneOwned ix = true)) ∧
    (∃ (src : Requester) (ix : Fin 224) (w : Word32) (s : State), (s.closedTo .WLT_LANE_PRBS src = false) ∧ (3 <
      F.WLT_LANE_PRBS_PATTERN.of (w.setWidth 64))) :=
  ⟨⟨.work, 130, upPort 2, by decide⟩,
   ⟨.work, 5, liveIn, by decide⟩,
   ⟨.work, 130, w32 (wd [(F.WLT_LANE_TXEQ_C0, 40)]), State.reset, by decide⟩,
   ⟨.work, 130, w32 (wd [(F.WLT_LANE_TXEQ_C0, 32), (F.WLT_LANE_TXEQ_CP1, 32)]), State.reset, by decide⟩,
   ⟨.work, 170, 0, State.reset, by decide⟩,
   ⟨.work, 5, w32 (wd [(F.WLT_LANE_PRBS_GEN, 1)]), State.reset, by decide⟩,
   ⟨.work, 5, w32 (wd [(F.WLT_LANE_PRBS_GEN, 1)]), liveIn, by decide⟩,
   ⟨.work, 5, w32 (wd [(F.WLT_LANE_PRBS_PATTERN, 4)]), State.reset, by decide⟩⟩

/-- The hypotheses of LaceLinksComeUpDegradeAndFall. -/
theorem test_hypotheses_LaceLinksComeUpDegradeAndFall_1 :
    (∃ (src : Requester) (k : Fin 16) (w : Word32) (s : State), (s.closedTo .WLT_LK_CFG src = false) ∧ (s.lkState k = lkDown) ∧
      (badLkCfg (F.WLT_LK_CFG_ENABLE.put 1 (w.setWidth 64)) = false) ∧ (s.domainFailed (6 + k.val / 4) = false)) ∧
    (∃ (src : Requester) (k : Fin 16) (w : Word32) (s : State), (s.closedTo .WLT_LK_CFG src = false) ∧ (s.lkState k ≠ lkDraining) ∧
      (badLkCfg (F.WLT_LK_CFG_ENABLE.put 1 (w.setWidth 64)) = true)) ∧
    (∃ (src : Requester) (k : Fin 16) (w : Word32) (s : State), (s.closedTo .WLT_LK_CFG src = false) ∧ (s.lkState k = lkDraining) ∧
      (F.WLT_LK_CFG_KILL.on (F.WLT_LK_CFG_ENABLE.put 1 (w.setWidth 64)) = false)) ∧
    (∃ (k : Fin 16) (o : IdentObs) (s : State), (s.lkState k = lkIdent) ∧ (3 ≤ maskLanes o.commas.toNat) ∧ (o.agreed = true) ∧
      (s.identConflict o = 0)) ∧
    (∃ (k : Fin 16) (o : IdentObs) (s : State), (s.lkState k = lkIdent) ∧ (3 ≤ maskLanes o.commas.toNat) ∧ (o.agreed = true) ∧
      (o.domain = s.domainId)) ∧
    (∃ (k : Fin 16) (s : State), (s.lkState k = lkIdent ∨ s.lkState k = lkStopped)) ∧
    (∃ (k : Fin 16) (s : State), (s.flag F.WLT_LK_CFG_ENABLE k = true) ∧ (s.lkState k = lkDown)) ∧
    (∃ (k : Fin 16) (s : State), (s.lkState k = lkStep) ∧ ((s.link k).target < 8)) ∧
    (∃ (k : Fin 16) (lanes : List LaneTrain) (s : State), s.lkState k = lkTrain) ∧
    (∃ (k : Fin 16) (qs : List LaneQual) (recId : Nat) (s : State), (s.lkState k = lkQual) ∧ (3 ≤ maskLanes (s.qualMask (s.link
      k).target qs)) ∧ (((s.link k).fallen = true ∨ (s.link k).agreed ≤ (s.link k).target)) ∧ ((s.link k).target < 8)) ∧
    (∃ (k : Fin 16) (qs : List LaneQual) (recId : Nat) (s : State), (s.lkState k = lkQual) ∧ (3 ≤ maskLanes (s.qualMask (s.link
      k).target qs)) ∧ ((s.link k).fallen = false) ∧ ((s.link k).target < (s.link k).agreed)) ∧
    (∃ (k : Fin 16) (qs : List LaneQual) (recId : Nat) (s : State), (s.lkState k = lkQual) ∧ (maskLanes (s.qualMask (s.link
      k).target qs) < 3) ∧ ((s.link k).fast = false) ∧ (s.fld F.WLT_LK_STAT_ATTEMPT k < 3)) :=
  ⟨⟨.work, 3, w32 (wd [(F.WLT_LK_CFG_MAX_RATE, 5), (F.WLT_LK_CFG_RETRY, 100)]), State.reset, by decide⟩,
   ⟨.work, 3, 0, State.reset, by decide⟩,
   ⟨.work, 3, 0, fl [(F.WLT_LK_STAT_STATE, 3, 7)], by decide⟩,
   ⟨3, ⟨7, true, 9, 11, true, 5, 0⟩, fl [(F.WLT_LK_STAT_STATE, 3, 1)], by decide⟩,
   ⟨3, ⟨7, true, 0, 11, true, 5, 0⟩, fl [(F.WLT_LK_STAT_STATE, 3, 1)], by decide⟩,
   ⟨3, fl [(F.WLT_LK_STAT_STATE, 3, 8)], by decide⟩,
   ⟨3, fl [(F.WLT_LK_CFG_ENABLE, 3, 1)], by decide⟩,
   ⟨3, (fl [(F.WLT_LK_STAT_STATE, 3, 2)]).setLink 3 { (default : Link) with target := 2 }, by decide⟩,
   ⟨3, [default], (fl [(F.WLT_LK_STAT_STATE, 3, 3)]).setLink 3 { (default : Link) with target := 2 }, by decide⟩,
   ⟨3, [⟨true, 99, 99, 0, 0, 0⟩, ⟨true, 99, 99, 0, 0, 0⟩, ⟨true, 99, 99, 0, 0, 0⟩], 7,
   (fl [(F.WLT_LK_STAT_STATE, 3, 4)]).setLink 3 { (default : Link) with target := 2, agreed := 2 }, by decide⟩,
   ⟨3, [⟨true, 99, 99, 0, 0, 0⟩, ⟨true, 99, 99, 0, 0, 0⟩, ⟨true, 99, 99, 0, 0, 0⟩], 7,
   (fl [(F.WLT_LK_STAT_STATE, 3, 4)]).setLink 3 { (default : Link) with target := 2, agreed := 5 }, by decide⟩,
   ⟨3, [], 7, (fl [(F.WLT_LK_STAT_STATE, 3, 4)]).setLink 3 { (default : Link) with target := 2, agreed := 5 }, by decide⟩⟩

/-- The hypotheses of LaceLinksComeUpDegradeAndFall. -/
theorem test_hypotheses_LaceLinksComeUpDegradeAndFall_2 :
    (∃ (k : Fin 16) (qs : List LaneQual) (recId : Nat) (s : State), (s.lkState k = lkQual) ∧ (maskLanes (s.qualMask (s.link
      k).target qs) < 3) ∧ ((s.link k).fast = false) ∧ (s.fld F.WLT_LK_STAT_ATTEMPT k = 3) ∧ ((s.link k).target ≤ 2)) ∧
    (∃ (src : Requester) (k : Fin 16) (s : State), (s.closedTo .WLT_LK_CFG src = false) ∧ ((s.lkState k = lkUp ∨ s.lkState k =
      lkHold)) ∧ (badLkCfg (F.WLT_LK_CFG_ENABLE.put 0 (s.reg .WLT_LK_CFG k)) = false) ∧ (s.flag F.WLT_LK_CFG_KILL k = false)) ∧
    (∃ (k : Fin 16) (s : State), s.lkState k = lkDraining) ∧
    (∃ (src : Requester) (k : Fin 16) (s : State), (s.closedTo .WLT_LK_CFG src = false) ∧ (s.lkState k ≠ lkDown) ∧ (badLkCfg
      (F.WLT_LK_CFG_KILL.put 1 (F.WLT_LK_CFG_ENABLE.put 0 (s.reg .WLT_LK_CFG k))) = false)) ∧
    (∃ (k : Fin 16) (j : Fin 4) (resent : Nat) (s : State), ((s.lkState k = lkUp ∨ s.lkState k = lkDraining)) ∧ (s.fld
      F.WLT_LK_STAT_LANE_MASK k = 15)) ∧
    (∃ (k : Fin 16) (j : Fin 4) (resent : Nat) (s : State), (s.lkState k = lkUp) ∧ (s.fld F.WLT_LK_STAT_LANE_MASK k ≠ 15) ∧
      (laneInMask (s.fld F.WLT_LK_STAT_LANE_MASK k) j = true)) ∧
    (∃ (k : Fin 16) (j : Fin 4) (s : State), (s.lkState k = lkUp) ∧ (s.fld F.WLT_LK_STAT_LANE_MASK k ≠ 15) ∧ (laneInMask (s.fld
      F.WLT_LK_STAT_LANE_MASK k) j = true)) ∧
    (∃ (k : Fin 16) (s : State), (s.lkState k = lkStep ∨ s.lkState k = lkTrain ∨ s.lkState k = lkQual ∨ s.lkState k = lkUp ∨
      s.lkState k = lkDraining)) ∧
    (∃ (k : Fin 16) (tr : LaneTrain) (q : LaneQual) (j : Nat) (s : State), ((s.link k).dropped = some j) ∧ (s.lkState k = lkUp) ∧
      ((s.link k).waiting = false) ∧ (s.flag F.WLT_LK_CFG_AUTO_READD k = true) ∧ (s.qualifies (s.fld F.WLT_LK_STAT_RATE k) q =
      true)) ∧
    (∃ (k : Fin 16) (tr : LaneTrain) (q : LaneQual) (j : Nat) (s : State), ((s.link k).dropped = some j) ∧ (s.lkState k = lkUp) ∧
      ((s.link k).waiting = false) ∧ (s.flag F.WLT_LK_CFG_AUTO_READD k = true) ∧ (s.qualifies (s.fld F.WLT_LK_STAT_RATE k) q =
      false)) ∧
    (∃ (src : Requester) (k : Fin 16) (s : State), (s.closedTo .WLT_LK_CTRL src = false) ∧ (s.flag F.WLT_LK_CFG_ENABLE k = true)) ∧
    (∃ (src : Requester) (k : Fin 16) (s : State), (s.closedTo .WLT_LK_CTRL src = false) ∧ (s.flag F.WLT_LK_CFG_ENABLE k = false))
      :=
  ⟨⟨3, [], 7, (fl [(F.WLT_LK_STAT_STATE, 3, 4), (F.WLT_LK_STAT_ATTEMPT, 3, 3)]).setLink 3
    { (default : Link) with target := 2, agreed := 5 }, by decide⟩,
   ⟨.work, 3, fl [(F.WLT_LK_STAT_STATE, 3, 5), (F.WLT_LK_CFG_MAX_RATE, 3, 5), (F.WLT_LK_CFG_RETRY, 3, 100)], by decide⟩,
   ⟨3, fl [(F.WLT_LK_STAT_STATE, 3, 7)], by decide⟩,
   ⟨.work, 3, fl [(F.WLT_LK_STAT_STATE, 3, 5), (F.WLT_LK_CFG_MAX_RATE, 3, 5), (F.WLT_LK_CFG_RETRY, 3, 100)], by decide⟩,
   ⟨3, 1, 4, fl [(F.WLT_LK_STAT_STATE, 3, 5), (F.WLT_LK_STAT_LANE_MASK, 3, 15), (F.TWL_LK_STAT_RATE, 3, 5)], by decide⟩,
   ⟨3, 1, 4, fl [(F.WLT_LK_STAT_STATE, 3, 5), (F.WLT_LK_STAT_LANE_MASK, 3, 7), (F.TWL_LK_STAT_RATE, 3, 5)], by decide⟩,
   ⟨3, 1, fl [(F.WLT_LK_STAT_STATE, 3, 5), (F.WLT_LK_STAT_LANE_MASK, 3, 7), (F.TWL_LK_STAT_RATE, 3, 5)], by decide⟩,
   ⟨3, fl [(F.WLT_LK_STAT_STATE, 3, 5)], by decide⟩,
   ⟨3, default, ⟨true, 99, 99, 0, 0, 0⟩, 1, (fl [(F.WLT_LK_STAT_STATE, 3, 5), (F.WLT_LK_STAT_RATE, 3, 2), (F.WLT_LK_CFG_AUTO_READD,
     3, 1)]).setLink 3 { (default : Link) with dropped := some 1 }, by decide⟩,
   ⟨3, default, default, 1, (fl [(F.WLT_LK_STAT_STATE, 3, 5), (F.WLT_LK_STAT_RATE, 3, 2), (F.WLT_LK_CFG_AUTO_READD, 3, 1)]).setLink
     3 { (default : Link) with dropped := some 1 }, by decide⟩,
   ⟨.work, 3, fl [(F.WLT_LK_CFG_ENABLE, 3, 1), (F.WLT_LK_STAT_STATE, 3, 5)], by decide⟩,
   ⟨.work, 3, State.reset, by decide⟩⟩

/-- The hypotheses of LaceLinksComeUpDegradeAndFall. -/
theorem test_hypotheses_LaceLinksComeUpDegradeAndFall_3 :
    (∃ (src : Requester) (k : Fin 16) (j : Fin 4) (s : State), (s.closedTo .WLT_LK_CTRL src = false) ∧ (s.lkState k = lkUp) ∧ (s.fld
      F.WLT_LK_STAT_LANE_MASK k = 15) ∧ ((linkUse s.twl.routes k).1 + (linkUse s.twl.routes k).2 ≤ linkCapacity (s.fld
      F.TWL_LK_STAT_RATE k) 3 * s.fld F.TWL_LK_LIMIT_PRESTAGE 0 / 64)) ∧
    (∃ (src : Requester) (k : Fin 16) (j : Fin 4) (s : State), (s.closedTo .WLT_LK_CTRL src = false) ∧ (s.lkState k = lkUp) ∧ (s.fld
      F.WLT_LK_STAT_LANE_MASK k ≠ 15)) :=
  ⟨⟨.work, 3, 1, fl [(F.WLT_LK_STAT_STATE, 3, 5), (F.WLT_LK_STAT_LANE_MASK, 3, 15), (F.TWL_LK_STAT_RATE, 3, 5)], by decide⟩,
   ⟨.work, 3, 1, fl [(F.WLT_LK_STAT_STATE, 3, 5)], by decide⟩⟩

/-- The hypotheses of PortsGroupsPausesAndRings. -/
theorem test_hypotheses_PortsGroupsPausesAndRings_1 :
    (∃ (src : Requester) (g : Fin 8) (w : Word32) (s : State), (s.closedTo .NPT_GRP_CFG src = false) ∧ (F.NPT_GRP_CFG_MODE.of
      (w.setWidth 64) ≠ 7) ∧ ((∀ q : Nat, q < 4 → s.portNamed (4 * g.val + q) = false ∧ s.flag F.NPT_PORT_CFG_ENABLE (4 * g.val + q)
      = false))) ∧
    (∃ (src : Requester) (g : Fin 8) (w : Word32) (s : State), (s.closedTo .NPT_GRP_CFG src = false) ∧ (F.NPT_GRP_CFG_MODE.of
      (w.setWidth 64) = 7)) ∧
    (∃ (src : Requester) (g : Fin 8) (w : Word32) (q : Nat) (s : State), (s.closedTo .NPT_GRP_CFG src = false) ∧
      (F.NPT_GRP_CFG_MODE.of (w.setWidth 64) ≠ 7) ∧ (q < 4) ∧ (s.flag F.NPT_PORT_CFG_ENABLE (4 * g.val + q) = true)) ∧
    (∃ (src : Requester) (p : Fin 32) (w : Word32) (s : State), (s.closedTo .NPT_PORT_CFG src = false) ∧ (s.portState p = portOff) ∧
      (s.portExists p = true) ∧ (s.flag F.NPT_CTRL_EN 0 = true) ∧ (s.flag F.NPT_PORT_CFG_ENABLE p = false) ∧ (s.domainFailed (10 +
      p.val / 4) = false) ∧ (1518 ≤ F.NPT_PORT_CFG_MTU.of (w.setWidth 64)) ∧ (F.NPT_PORT_CFG_MTU.of (w.setWidth 64) ≤ 9216) ∧
      (F.NPT_PORT_CFG_LP.of (w.setWidth 64) = 0)) ∧
    (∃ (src : Requester) (p : Fin 32) (w : Word32) (s : State), (s.closedTo .NPT_PORT_CFG src = false) ∧ (s.portState p ≠
      portDraining) ∧ (F.NPT_PORT_CFG_MTU.of (w.setWidth 64) < 1518)) ∧
    (∃ (p : Fin 32) (s : State), (s.portState p = portDown) ∧ (s.linkUp p = false) ∧ (s.flag F.NPT_PORT_STAT_LOCAL_FAULT p = false)
      ∧ (s.flag F.NPT_PORT_STAT_REMOTE_FAULT p = false)) ∧
    (∃ (p : Fin 32) (s : State), s.portState p = portWaking) ∧
    (∃ (p : Fin 32) (loc rem : Bool) (s : State), ((loc = true ∨ rem = true)) ∧ (s.linkUp p = true)) ∧
    (∃ (p : Fin 32) (loc rem : Bool) (s : State), (loc = false) ∧ (rem = false)) ∧
    (∃ (p : Fin 32) (bytes ptpBytes : Nat) (onTime : Bool) (s : State), (s.linkUp p = true) ∧ ((s.netPort p).leaving = none) ∧
      (s.portState p = portUp)) ∧
    (∃ (p : Fin 32) (ptpBytes : Nat) (onTime : Bool) (f : CtrlFrame) (rest : List CtrlFrame) (s : State), (s.linkUp p = true) ∧
      ((s.netPort p).leaving = none) ∧ (s.portState p = portUp) ∧ ((s.netPort p).ptpq = []) ∧ ((s.netPort p).ctrl = f :: rest) ∧
      (s.flag F.NPT_PORT_STAT_PAUSED p = false)) ∧
    (∃ (p : Fin 32) (ptpBytes : Nat) (onTime : Bool) (f : PtpFrame) (rest : List PtpFrame) (s : State), (s.linkUp p = true) ∧
      ((s.netPort p).leaving = none) ∧ (s.portState p = portUp) ∧ ((s.netPort p).ptpq = f :: rest) ∧ (f.fixed = false) ∧ (f.fwd =
      none)) :=
  ⟨⟨.work, 1, w32 (wd [(F.NPT_GRP_CFG_MODE, 2)]), State.reset, by decide⟩,
   ⟨.work, 1, w32 (wd [(F.NPT_GRP_CFG_MODE, 7)]), State.reset, by decide⟩,
   ⟨.work, 1, w32 (wd [(F.NPT_GRP_CFG_MODE, 2)]), 2, fl [(F.NPT_PORT_CFG_ENABLE, 6, 1)], by decide⟩,
   ⟨.work, 3, w32 (wd [(F.NPT_PORT_CFG_MTU, 1518)]), fl [(F.NPT_CTRL_EN, 0, 1), (F.NPT_PORT_STAT_EXISTS, 3, 1)], by decide⟩,
   ⟨.work, 3, 0, State.reset, by decide⟩,
   ⟨3, fl [(F.NPT_PORT_STAT_STATE, 3, 1)], by decide⟩,
   ⟨3, fl [(F.NPT_PORT_STAT_STATE, 3, 5)], by decide⟩,
   ⟨3, true, false, upPort 3, by decide⟩,
   ⟨3, false, false, upPort 3, by decide⟩,
   ⟨3, 1000, 0, true, fl [(F.NPT_PORT_STAT_STATE, 3, 2)] (upPort 3), by decide⟩,
   ⟨3, 0, true, ⟨.answer, 60⟩, [], (fl [(F.NPT_PORT_STAT_STATE, 3, 2)] (upPort 3)).setNetPort 3
     { (default : NetPort) with ctrl := [⟨.answer, 60⟩] }, by decide⟩,
   ⟨3, 90, true, ⟨0, .sync, none, false⟩, [], (fl [(F.NPT_PORT_STAT_STATE, 3, 2)] (upPort 3)).setNetPort 3
     { (default : NetPort) with ptpq := [⟨0, .sync, none, false⟩] }, by decide⟩⟩

/-- The hypotheses of PortsGroupsPausesAndRings. -/
theorem test_hypotheses_PortsGroupsPausesAndRings_2 :
    (∃ (p : Fin 32) (ptpBytes : Nat) (onTime : Bool) (s : State), (s.linkUp p = true) ∧ ((s.netPort p).leaving = none) ∧
      (s.portState p = portUp) ∧ ((s.netPort p).ptpq = []) ∧ (s.flag F.NPT_PORT_STAT_PAUSED p = true)) ∧
    (∃ (p : Fin 32) (classes : BitVec 8) (quanta : List (Fin 65536)) (s : State), (s.linkUp p = true) ∧ (s.portState p ≠
      portWakeOnly) ∧ (s.flag F.NPT_PORT_CFG_PFC p = false)) ∧
    (∃ (p : Fin 32) (s : State), (s.fld F.NPT_PORT_CFG_LP p = 1) ∧ (s.portState p = portUp) ∧ (s.linkUp p = true) ∧ (s.senderNames p
      = false) ∧ ((s.netPort p).ptpq = []) ∧ ((s.netPort p).ctrl = []) ∧ ((s.netPort p).leaving = none)) ∧
    (∃ (p : Fin 32) (f : RxFrame) (s : State), (s.portState p = portWakeOnly) ∧ (f.dest = .own) ∧ (f.wake = some (s.reg
      .NPT_WAKE_PAT 0))) ∧
    (∃ (p : Fin 32) (f : RxFrame) (s : State), f.wake ≠ some (s.reg .NPT_WAKE_PAT 0)) ∧
    (∃ (src : Requester) (r : Fin 16) (tail : Fin 4096) (s : State), s.closedTo .NPT_RXR_TAIL src = false) ∧
    (∃ (r : Fin 16) (s : State), ((s.rxr r).coal = true) ∧ ((s.rxr r).more = false)) ∧
    (∃ (src : Requester) (r : Fin 16) (tail : Fin 4096) (frames : List TxFrame) (s : State), (s.closedTo .NPT_TXR_TAIL src = false)
      ∧ (s.flag F.NPT_TXR_CFG_EN r = false)) ∧
    (∃ (src : Requester) (r : Fin 16) (tail : Fin 4096) (f : TxFrame) (s : State), (s.closedTo .NPT_TXR_TAIL src = false) ∧ (s.flag
      F.NPT_TXR_CFG_EN r = true) ∧ (4 ≤ s.fld F.NPT_TXR_CFG_SIZE r) ∧ (s.fld F.NPT_TXR_CFG_SIZE r ≤ 12) ∧ (s.fld
      F.NPT_TXR_HEAD_INDEX r = 0) ∧ (f.lens.length ≤ tail.val) ∧ (tail.val < 16) ∧ (s.txBad f = none) ∧ ((s.netPort f.port).ctrl =
      [])) ∧
    (∃ (p : Fin 32) (time : Nat) (s : State), (s.netPort p).leaving = none) ∧
    (∃ (p : Fin 32) (time : Nat) (r idx len : Nat) (ts : Bool) (s : State), (s.netPort p).leaving = some ⟨.ring r idx ts, len⟩) ∧
    (∃ (src : Requester) (p : Fin 32) (s : State), (s.closedTo .NPT_PORT_CFG src = false) ∧ (s.portState p ≠ portOff) ∧ (s.portState
      p ≠ portDraining) ∧ (s.flag F.NPT_PORT_CFG_ENABLE p = true) ∧ (s.flag F.NPT_PORT_CFG_KILL p = false) ∧ (1518 ≤ s.fld
      F.NPT_PORT_CFG_MTU p) ∧ (s.fld F.NPT_PORT_CFG_MTU p ≤ 9216) ∧ (s.fld F.NPT_PORT_CFG_LP p = 0)) :=
  ⟨⟨3, 0, true, (fl [(F.NPT_PORT_STAT_STATE, 3, 2), (F.NPT_PORT_STAT_PAUSED, 3, 1)] (upPort 3)).setNetPort 3
    { (default : NetPort) with ctrl := [⟨.answer, 60⟩] }, by decide⟩,
   ⟨3, 0, [100], upPort 3, by decide⟩,
   ⟨3, fl [(F.NPT_PORT_STAT_STATE, 3, 2), (F.NPT_PORT_CFG_LP, 3, 1)] (upPort 3), by decide⟩,
   ⟨3, { (default : RxFrame) with dest := .own, wake := some (State.reset.reg .NPT_WAKE_PAT 0) }, fl [(F.NPT_PORT_STAT_STATE, 3,
     4)], by decide⟩,
   ⟨3, { (default : RxFrame) with dest := .own, wake := none }, fl [(F.NPT_PORT_STAT_STATE, 3, 4)], by decide⟩,
   ⟨.work, 3, 7, State.reset, by decide⟩,
   ⟨3, State.reset.setRxr 3 { (default : HostRing) with coal := true }, by decide⟩,
   ⟨.work, 3, 7, [], State.reset, by decide⟩,
   ⟨.work, 3, 2, ⟨[100], 3, false⟩, fl [(F.NPT_TXR_CFG_EN, 3, 1), (F.NPT_TXR_CFG_SIZE, 3, 4)] (fl [(F.NPT_PORT_STAT_STATE, 3, 2)]
     (upPort 3)), by decide⟩,
   ⟨3, 9, State.reset, by decide⟩,
   ⟨3, 9, 2, 5, 60, true, State.reset.setNetPort 3 { (default : NetPort) with leaving := some ⟨.ring 2 5 true, 60⟩ }, by decide⟩,
   ⟨.work, 3, fl [(F.NPT_PORT_STAT_STATE, 3, 2)] (upPort 3), by decide⟩⟩

/-- The hypotheses of PortsGroupsPausesAndRings. -/
theorem test_hypotheses_PortsGroupsPausesAndRings_3 :
    (∃ (p : Fin 32) (s : State), s.portState p = portDraining) ∧
    (∃ (p : Fin 32) (s : State), s.portState p ≠ portDraining) ∧
    (∃ (src : Requester) (p : Fin 32) (s : State), (s.closedTo .NPT_PORT_CFG src = false) ∧ (1518 ≤ s.fld F.NPT_PORT_CFG_MTU p) ∧
      (s.fld F.NPT_PORT_CFG_MTU p ≤ 9216) ∧ (s.fld F.NPT_PORT_CFG_LP p = 0)) ∧
    (∃ (src : Requester) (r : Fin 16) (s : State), (s.closedTo .NPT_TXR_CFG src = false) ∧ (4 ≤ s.fld F.NPT_TXR_CFG_SIZE r) ∧ (s.fld
      F.NPT_TXR_CFG_SIZE r ≤ 12)) ∧
    (∃ (src : Requester) (r : Fin 16) (s : State), (s.closedTo .NPT_RXR_CFG src = false) ∧ (4 ≤ s.fld F.NPT_RXR_CFG_SIZE r) ∧ (s.fld
      F.NPT_RXR_CFG_SIZE r ≤ 12) ∧ (1 ≤ s.fld F.NPT_RXR_CFG_BUFSZ r) ∧ (s.fld F.NPT_RXR_CFG_BUFSZ r ≤ 64)) ∧
    (∃ (src : Requester) (s : State), s.closedTo .NPT_CTRL src = false) ∧
    (∃ (src : Requester) (s : State), s.closedTo .NPT_CTRL src = false) :=
  ⟨⟨3, fl [(F.NPT_PORT_STAT_STATE, 3, 6)] (upPort 3), by decide⟩,
   ⟨3, State.reset, by decide⟩,
   ⟨.work, 3, fl [(F.NPT_PORT_STAT_STATE, 3, 2)] (upPort 3), by decide⟩,
   ⟨.work, 3, fl [(F.NPT_TXR_CFG_EN, 3, 1), (F.NPT_TXR_CFG_SIZE, 3, 4)], by decide⟩,
   ⟨.work, 3, fl [(F.NPT_RXR_CFG_EN, 3, 1), (F.NPT_RXR_CFG_SIZE, 3, 4), (F.NPT_RXR_CFG_BUFSZ, 3, 8)], by decide⟩,
   ⟨.work, fl [(F.NPT_CTRL_EN, 0, 1)] (upPort 3), by decide⟩,
   ⟨.work, fl [(F.NPT_CTRL_EN, 0, 1)] (upPort 3), by decide⟩⟩

/-- The hypotheses of UnitsTestedSwappedAndRetired. -/
theorem test_hypotheses_UnitsTestedSwappedAndRetired_1 :
    (∃ (src : Requester) (u : Fin 232) (s : State), (s.closedTo .RSL_UNIT_CTRL src = false) ∧ (isUnit u = true) ∧ (s.unitBusy u =
      none) ∧ (s.unitState u = unitInService)) ∧
    (∃ (src : Requester) (u : Fin 232) (st : Status) (s : State), (s.closedTo .RSL_UNIT_CTRL src = false) ∧ (isUnit u = true) ∧
      (s.unitBusy u = some st)) ∧
    (∃ (src : Requester) (u : Fin 232) (x : Nat) (s : State), (s.closedTo .RSL_UNIT_CTRL src = false) ∧ (u.val < 41) ∧ (s.unitBusy u
      = none) ∧ (s.unitState u = unitInService) ∧ (s.freeSpare u = some x)) ∧
    (∃ (src : Requester) (u : Fin 232) (s : State), (s.closedTo .RSL_UNIT_CTRL src = false) ∧ (isUnit u = true) ∧ (s.unitBusy u =
      none) ∧ (s.unitState u = unitInService) ∧ (s.freeSpare u = none)) ∧
    (∃ (src : Requester) (u : Fin 232) (s : State), (s.closedTo .RSL_UNIT_CTRL src = false) ∧ (isUnit u = true) ∧ (s.unitBusy u =
      none) ∧ (Tbl.get (fun _ => 0) s.rsl.retiredOf u = 0)) ∧
    (∃ (src : Requester) (u : Fin 232) (x : Nat) (s : State), (s.closedTo .RSL_UNIT_CTRL src = false) ∧ (isUnit u = true) ∧
      (s.unitBusy u = none) ∧ (Tbl.get (fun _ => 0) s.rsl.retiredOf u = x + 1) ∧ (s.fld F.RSL_PHYS_STAT_STATE x = physRetired)) ∧
    (∃ (u : Fin 232) (corr : Nat) (implicated : Bool) (s : State), (isUnit u = true) ∧ (corr < s.fld F.RSL_AUTO_CORR_LIM 0) ∧
      (implicated = false)) ∧
    (∃ (u : Fin 232) (corr : Nat) (implicated : Bool) (s : State), (isUnit u = true) ∧ (implicated = true) ∧ (s.flag F.RSL_CTRL_AUTO
      0 = true) ∧ (s.unitBusy u = none) ∧ (s.unitState u = unitInService)) ∧
    (∃ (u : Fin 232) (passed : Bool) (s : State), (s.fld F.RSL_UNIT_STAT_STATE u = unitSuspect) ∧ (passed = true)) ∧
    (∃ (u : Fin 232) (passed : Bool) (x : Nat) (s : State), (s.fld F.RSL_UNIT_STAT_STATE u = unitSuspect) ∧ (passed = false) ∧
      (u.val < 41) ∧ (s.freeSpare u = some x)) ∧
    (∃ (u : Fin 232) (x : Nat) (s : State), (s.fld F.RSL_UNIT_STAT_STATE u = unitSwapping) ∧ (16 ≤ u.val) ∧ (u.val < 41) ∧ (Tbl.get
      (fun _ => 0) s.rsl.swapTo u = x + 1) ∧ (x < 46) ∧ (s.carrier u ≠ x)) ∧
    (∃ (u : Fin 232) (x : Nat) (s : State), (s.fld F.RSL_UNIT_STAT_STATE u = unitSwapping) ∧ (Tbl.get (fun _ => 0) s.rsl.swapTo u =
      x + 1)) :=
  ⟨⟨.work, 3, State.reset, by decide⟩,
   ⟨.work, 3, .BUSY, fl [(F.RSL_UNIT_STAT_STATE, 4, 2)], by decide⟩,
   ⟨.work, 3, 16, State.reset, by decide⟩,
   ⟨.work, 3, fl [(F.RSL_PHYS_STAT_STATE, 16, 2), (F.RSL_PHYS_STAT_STATE, 17, 2)], by decide⟩,
   ⟨.work, 3, State.reset, by decide⟩,
   ⟨.work, 3, 5, (fl [(F.RSL_PHYS_STAT_STATE, 5, 2)]).setRsl { State.reset.rsl with retiredOf := [(3, 6)] }, by decide⟩,
   ⟨3, 7, false, State.reset, by decide⟩,
   ⟨3, 7, true, fl [(F.RSL_CTRL_AUTO, 0, 1)], by decide⟩,
   ⟨3, true, fl [(F.RSL_UNIT_STAT_STATE, 3, 1)], by decide⟩,
   ⟨3, false, 16, fl [(F.RSL_UNIT_STAT_STATE, 3, 1)], by decide⟩,
   ⟨25, 45, (fl [(F.RSL_UNIT_STAT_STATE, 25, 2)]).setRsl { State.reset.rsl with swapTo := [(25, 46)] }, by decide⟩,
   ⟨25, 45, (fl [(F.RSL_UNIT_STAT_STATE, 25, 2)]).setRsl { State.reset.rsl with swapTo := [(25, 46)] }, by decide⟩⟩

/-- The hypotheses of UnitsTestedSwappedAndRetired. -/
theorem test_hypotheses_UnitsTestedSwappedAndRetired_2 :
    (∃ (x : Fin 248) (passed : Bool) (s : State), (s.fld F.RSL_PHYS_STAT_STATE x = physTesting) ∧ (passed = true)) ∧
    (∃ (x : Fin 248) (passed : Bool) (s : State), (s.fld F.RSL_PHYS_STAT_STATE x = physTesting) ∧ (passed = false)) ∧
    (∃ (bank : Fin 65536) (row : Nat) (page : Fin 30720) (inUse : Bool) (s : State), (Tbl.get (fun _ => false) s.rsl.hbmUsed bank =
      false) ∧ (s.rsl.map.length < 32768)) ∧
    (∃ (bank : Fin 65536) (row : Nat) (page : Fin 30720) (inUse : Bool) (s : State), (Tbl.get (fun _ => false) s.rsl.hbmUsed bank =
      true) ∧ (inUse = true) ∧ (page.val ∉ s.rsl.toRetire)) ∧
    (∃ (bank : Fin 65536) (row : Nat) (page : Fin 30720) (inUse : Bool) (s : State), (Tbl.get (fun _ => false) s.rsl.hbmUsed bank =
      true) ∧ (inUse = false) ∧ (page.val ∉ s.rsl.retired)) ∧
    (∃ (slack lower : Int) (s : State), (slack < (s.fld F.RSL_AVS_CFG_GUARD 0 : Int)) ∧ (0 < s.rsl.below) ∧ (s.rsl.noAck = false)) ∧
    (∃ (slack lower : Int) (s : State), (slack < (s.fld F.RSL_AVS_CFG_GUARD 0 : Int)) ∧ (s.rsl.below = 0)) ∧
    (∃ (slack lower : Int) (s : State), ((s.fld F.RSL_AVS_CFG_GUARD 0 : Int) ≤ slack) ∧ ((s.fld F.RSL_AVS_CFG_GUARD 0 : Int) ≤
      lower) ∧ (s.rsl.below < 100) ∧ (s.rsl.noAck = false)) ∧
    (∃ (corrected : List Nat) (s : State), (corrected.zip mramCodewords).any (fun e => decide (e.2 < 1000 * e.1)) = true) ∧
    (∃ (corrected : List Nat) (s : State), ((corrected.zip mramCodewords).all (fun e => decide (10000 * e.1 < e.2)) = true) ∧
      (s.rsl.calm = 6)) ∧
    (∃ (k : Fin 16) (s : State), s.lkState k = lkDraining) ∧
    (∃ (p : Fin 32) (s : State), s.portState p = portDraining) :=
  ⟨⟨5, true, fl [(F.RSL_PHYS_STAT_STATE, 5, 1)], by decide⟩,
   ⟨5, false, fl [(F.RSL_PHYS_STAT_STATE, 5, 1)], by decide⟩,
   ⟨3, 7, 9, false, State.reset, by decide⟩,
   ⟨3, 7, 9, true, State.reset.setRsl { State.reset.rsl with hbmUsed := [(3, true)] }, by decide⟩,
   ⟨3, 7, 9, false, State.reset.setRsl { State.reset.rsl with hbmUsed := [(3, true)] }, by decide⟩,
   ⟨3, 2, State.reset.setRsl { State.reset.rsl with below := 20 }, by decide⟩,
   ⟨3, 2, State.reset, by decide⟩,
   ⟨300, 300, State.reset, by decide⟩,
   ⟨[500], State.reset, by decide⟩,
   ⟨[0, 0], State.reset.setRsl { State.reset.rsl with calm := 6 }, by decide⟩,
   ⟨3, fl [(F.WLT_LK_STAT_STATE, 3, 7)], by decide⟩,
   ⟨3, fl [(F.NPT_PORT_STAT_STATE, 3, 6)] (upPort 3), by decide⟩⟩

/-- The hypotheses of UnitsTestedSwappedAndRetired. -/
theorem test_hypotheses_UnitsTestedSwappedAndRetired_3 :
    (∃ (n : Fin 384) (s : State), s.inState n = inDraining) ∧
    (∃ (k : Fin 16) (s : State), s.lkState k ≠ lkDraining) :=
  ⟨⟨5, fl [(F.ING_IN_STAT_STATE, 5, inDraining)] liveIn, by decide⟩,
   ⟨3, State.reset, by decide⟩⟩

/-- The hypotheses of PartnersLostFencedAndReplaced. -/
theorem test_hypotheses_PartnersLostFencedAndReplaced_1 :
    (∃ (s : State), (s.mirrored = true) ∧ (s.partnerLost = false)) ∧
    (∃ (s : State), s.mirrored = false) ∧
    (∃ (s : State), (s.mirrored = true) ∧ (s.partnerLost = false)) ∧
    (∃ (s : State), (s.mirrored = true) ∧ (s.partnerLost = false) ∧ (s.rsl.probing = true)) ∧
    (∃ (s : State), s.rsl.probing = true) ∧
    (∃ (s : State), s.mirrored = true) ∧
    (∃ (s : State), (s.mirrored = true) ∧ (s.partnerLost = true)) ∧
    (∃ (src : Requester) (s : State), (s.closedTo .RSL_FENCE_CTRL src = false) ∧ (s.fenced = false)) ∧
    (∃ (passed : Bool) (s : State), (s.fld F.RSL_FENCE_STAT_STATE 0 = fenceFenced ∨ s.fld F.RSL_FENCE_STAT_STATE 0 =
      fenceRepairing)) ∧
    (∃ (src : Requester) (s : State), (s.closedTo .RSL_FENCE_CTRL src = false) ∧ (s.fld F.RSL_FENCE_STAT_STATE 0 = fenceRejoinOk)) ∧
    (∃ (src : Requester) (s : State), (s.closedTo .RSL_FENCE_CTRL src = false) ∧ (s.fld F.RSL_FENCE_STAT_STATE 0 ≠ fenceRejoinOk)) ∧
    (∃ (id : Fin 1024) (i : Nat) (s : State), (s.spareMode = true) ∧ (s.flag F.RSL_SPARE_CFG_ARMED 0 = true) ∧ (s.spareState =
      spareIdle) ∧ (i < 8) ∧ (s.flag F.RSL_SPARE_LIST_VALID i = true) ∧ (s.fld F.RSL_SPARE_LIST_ID i = id)) :=
  ⟨⟨mir, by decide⟩,
   ⟨State.reset, by decide⟩,
   ⟨mir, by decide⟩,
   ⟨mir.setRsl { mir.rsl with probing := true }, by decide⟩,
   ⟨mir.setRsl { mir.rsl with probing := true }, by decide⟩,
   ⟨mir, by decide⟩,
   ⟨fl [(F.NIM_PAIR_STAT_PARTNER, 0, 3), (F.RSL_STATUS_PARTNER_LOST, 0, 1)] mir, by decide⟩,
   ⟨.work, mir, by decide⟩,
   ⟨true, fl [(F.RSL_FENCE_STAT_STATE, 0, 1), (F.RSL_STATUS_FENCED, 0, 1)], by decide⟩,
   ⟨.work, fl [(F.RSL_FENCE_STAT_STATE, 0, 3), (F.RSL_STATUS_FENCED, 0, 1)], by decide⟩,
   ⟨.work, fl [(F.RSL_FENCE_STAT_STATE, 0, 2), (F.RSL_STATUS_FENCED, 0, 1)], by decide⟩,
   ⟨9, 2, spareArmed, by decide⟩⟩

/-- The hypotheses of PartnersLostFencedAndReplaced. -/
theorem test_hypotheses_PartnersLostFencedAndReplaced_2 :
    (∃ (id : Fin 1024) (s : State), s.flag F.RSL_SPARE_CFG_ARMED 0 = false) ∧
    (∃ (id : Nat) (s : State), (s.rsl.notice = some id) ∧ (id < 1024) ∧ (s.spareMode = true) ∧ (s.spareState = spareIdle)) ∧
    (∃ (claimant id : Fin 1024) (s : State), (s.mirrored = true) ∧ (s.partnerLost = true) ∧ (s.partnerId = id) ∧ (s.rsl.granted =
      none)) ∧
    (∃ (claimant id : Fin 1024) (other : Nat) (s : State), (s.mirrored = true) ∧ (s.partnerLost = true) ∧ (s.partnerId = id) ∧
      (s.rsl.granted = some other)) ∧
    (∃ (survivor : Fin 1024) (st : Status) (s : State), (s.spareState = spareClaiming) ∧ (st ≠ .OK)) ∧
    (∃ (survivor : Fin 1024) (st : Status) (s : State), (s.spareState = spareClaiming) ∧ (st = .OK)) ∧
    (∃ (s : State), s.spareState = spareClaiming) ∧
    (∃ (src : Requester) (id : Fin 1024) (s : State), (s.closedTo .RSL_SPARE_CTRL src = false) ∧ (s.spareMode = true) ∧
      (s.spareState = spareIdle)) ∧
    (∃ (src : Requester) (id : Fin 1024) (s : State), (s.closedTo .RSL_SPARE_CTRL src = false) ∧ (s.spareMode = false)) ∧
    (∃ (src : Requester) (id : Fin 1024) (s : State), (s.closedTo .RSL_SPARE_CTRL src = false) ∧ (s.spareMode = true) ∧
      (s.spareState ≠ spareIdle)) ∧
    (∃ (src : Requester) (s : State), (s.closedTo .RSL_SPARE_CTRL src = false) ∧ (s.spareState = spareAssumed)) ∧
    (∃ (src : Requester) (s : State), (s.closedTo .RSL_SPARE_CTRL src = false) ∧ (s.spareState ≠ spareAssumed)) :=
  ⟨⟨9, State.reset, by decide⟩,
   ⟨9, spareArmed.setRsl { spareArmed.rsl with notice := some 9 }, by decide⟩,
   ⟨5, 0, fl [(F.NIM_PAIR_STAT_PARTNER, 0, 3)] mir, by decide⟩,
   ⟨5, 0, 6, (fl [(F.NIM_PAIR_STAT_PARTNER, 0, 3)] mir).setRsl { mir.rsl with granted := some 6 }, by decide⟩,
   ⟨5, .BUSY, fl [(F.RSL_SPARE_STAT_STATE, 0, 1)] spareArmed, by decide⟩,
   ⟨5, .OK, fl [(F.RSL_SPARE_STAT_STATE, 0, 1), (F.RSL_SPARE_STAT_ID, 0, 9)] spareArmed, by decide⟩,
   ⟨fl [(F.RSL_SPARE_STAT_STATE, 0, 1), (F.RSL_SPARE_STAT_ID, 0, 9)] spareArmed, by decide⟩,
   ⟨.work, 9, spareArmed, by decide⟩,
   ⟨.work, 9, State.reset, by decide⟩,
   ⟨.work, 9, fl [(F.RSL_SPARE_STAT_STATE, 0, 1)] spareArmed, by decide⟩,
   ⟨.work, fl [(F.RSL_SPARE_STAT_STATE, 0, 3), (F.RSL_STATUS_ASSUMED, 0, 1), (F.GLB_CHIP_DOMAIN, 0, 9)] mir, by decide⟩,
   ⟨.work, State.reset, by decide⟩⟩

/-- The hypotheses of SnapshotsCountersAndTheDeltaLog. -/
theorem test_hypotheses_SnapshotsCountersAndTheDeltaLog :
    (∃ (s : State), (s.keep.job.isSome = true ∨ s.tick < s.keep.lastStart + s.fld F.SET_CFG_INTERVAL 0 * 32768 ∨ s.keep.deltas =
      [])) ∧
    (∃ (s : State), (s.keep.job = none) ∧ (s.keep.lastStart + s.fld F.SET_CFG_INTERVAL 0 * 32768 ≤ s.tick) ∧ (s.keep.deltas ≠ []) ∧
      (s.flag F.SET_STATUS_CONVERT_FAIL 0 = true)) ∧
    (∃ (s : State), (s.keep.job = none) ∧ (s.keep.lastStart + s.fld F.SET_CFG_INTERVAL 0 * 32768 ≤ s.tick) ∧ (s.keep.deltas ≠ []) ∧
      (s.flag F.SET_STATUS_CONVERT_FAIL 0 = false)) ∧
    (∃ (src : Requester) (s : State), (s.closedTo .SET_CTRL src = false) ∧ (s.flag F.SET_STATUS_CONVERT_FAIL 0 = false) ∧
      (s.keep.job = none) ∧ (s.fld F.SET_DEMAND_LEFT_N 0 ≠ 0)) ∧
    (∃ (src : Requester) (s : State), (s.closedTo .SET_CTRL src = false) ∧ (s.flag F.SET_STATUS_CONVERT_FAIL 0 = false) ∧
      ((s.keep.job.isSome = true ∨ s.fld F.SET_DEMAND_LEFT_N 0 = 0))) ∧
    (∃ (failing : List (Fin 256)) (s : State), s.keep.job = none) ∧
    (∃ (x : Snapshot) (s : State), (s.keep.job = some x) ∧ ((s.keep.deltas.filter fun d => decide (x.deltaPos ≤ d.dpos)).length <
      30720)) ∧
    (∃ (n : Fin 256) (l : List (Fin 256)) (x : Snapshot) (s : State), s.keep.job = some x) :=
  ⟨⟨State.reset, by decide⟩,
   ⟨fl [(F.SET_STATUS_CONVERT_FAIL, 0, 1)] { deltaOne with tick := 2 ^ 60 }, by decide⟩,
   ⟨{ deltaOne with tick := 2 ^ 60 }, by decide⟩,
   ⟨.work, fl [(F.SET_DEMAND_LEFT_N, 0, 3)], by decide⟩,
   ⟨.work, fl [(F.SET_DEMAND_LEFT_N, 0, 0)], by decide⟩,
   ⟨[], State.reset, by decide⟩,
   ⟨default, State.reset.setKeep { State.reset.keep with job := some default }, by decide⟩,
   ⟨3, [], default, State.reset.setKeep { State.reset.keep with job := some default }, by decide⟩⟩

/-- The hypotheses of TheAwlWritesFreezesReadsAndClears. -/
theorem test_hypotheses_TheAwlWritesFreezesReadsAndClears_1 :
    (∃ (e : Staged) (l : List Staged) (s : State), (s.awl.staged = e :: l) ∧ (e.window = true)) ∧
    (∃ (e : Staged) (l : List Staged) (s : State), (s.flag F.AWL_STATUS_FROZEN 0 = false) ∧ (s.awl.staged = e :: l) ∧ (e.window =
      false) ∧ (s.awl.lost = 0) ∧ (s.awlRoom = true) ∧ (s.awlMedium = awlMram)) ∧
    (∃ (ok : Bool) (s : State), s.flag F.AWL_STATUS_FROZEN 0 = true) ∧
    (∃ (ok : Bool) (e : Staged) (l : List Staged) (s : State), (s.flag F.AWL_STATUS_FROZEN 0 = false) ∧ (s.awl.staged = e :: l) ∧
      (e.window = false) ∧ (s.awlRoom = false)) ∧
    (∃ (src : Requester) (s : State), s.closedTo .AWL_CTRL src = false) ∧
    (∃ (src : Requester) (s : State), s.closedTo .AWL_CTRL src = false) ∧
    (∃ (s : State), s.flag F.AWL_STATUS_FROZEN 0 = true) ∧
    (∃ (src : Requester) (w : Word32) (s : State), (s.closedTo .AWL_RD_IDX src = false) ∧ (F.AWL_RD_IDX_MEDIUM.of (w.setWidth 64) ≠
      3)) ∧
    (∃ (src : Requester) (w : Word32) (s : State), (s.closedTo .AWL_RD_IDX src = false) ∧ (F.AWL_RD_IDX_MEDIUM.of (w.setWidth 64) =
      3)) ∧
    (∃ (torn : Bool) (s : State), s.awl.latching = false) ∧
    (∃ (torn : Bool) (r : AwlRecord) (s : State), (s.awl.latching = true) ∧ (Tbl.get (fun _ => none) (s.awlRecs (s.fld
      F.AWL_RD_IDX_MEDIUM 0)) (s.fld F.AWL_RD_IDX_INDEX 0) = some r)) ∧
    (∃ (src : Requester) (match_ : Bool) (s : State), (s.closedTo .AWL_CLR_CTRL src = false) ∧ ((s.flag F.AWL_STATUS_FROZEN 0 = true
      ∨ s.flag F.AWL_STATUS_CLEARING 0 = true ∨ s.awl.lockout = true))) :=
  ⟨⟨{ stagedEnt with window := true }, [], State.reset.setAwl
    { State.reset.awl with staged := [{ stagedEnt with window := true }] }, by decide⟩,
   ⟨stagedEnt, [], stagedOne, by decide⟩,
   ⟨true, fl [(F.AWL_STATUS_FROZEN, 0, 1)], by decide⟩,
   ⟨true, stagedEnt, [], fl [(F.AWL_CFG_FULL_MODE, 0, 1), (F.AWL_COUNT_N, 0, 32768)] stagedOne, by decide⟩,
   ⟨.work, State.reset, by decide⟩,
   ⟨.work, fl [(F.AWL_STATUS_FROZEN, 0, 1)], by decide⟩,
   ⟨fl [(F.AWL_STATUS_FROZEN, 0, 1)], by decide⟩,
   ⟨.work, 5, State.reset, by decide⟩,
   ⟨.work, w32 (wd [(F.AWL_RD_IDX_MEDIUM, 3)]), State.reset, by decide⟩,
   ⟨true, State.reset, by decide⟩,
   ⟨false, default, State.reset.setAwl { State.reset.awl with latching := true, mram := [(0, some default)] }, by decide⟩,
   ⟨.work, true, fl [(F.AWL_STATUS_FROZEN, 0, 1)], by decide⟩⟩

/-- The hypotheses of TheAwlWritesFreezesReadsAndClears. -/
theorem test_hypotheses_TheAwlWritesFreezesReadsAndClears_2 :
    (∃ (src : Requester) (match_ : Bool) (s : State), (s.closedTo .AWL_CLR_CTRL src = false) ∧ (match_ = true) ∧ (s.flag
      F.AWL_STATUS_FROZEN 0 = false) ∧ (s.flag F.AWL_STATUS_CLEARING 0 = false) ∧ (s.awl.lockout = false) ∧ (s.awlMedium = awlMram)
      ∧ ((s.reg .AWL_EPOCH 0).toNat < 2 ^ 32 - 1)) ∧
    (∃ (src : Requester) (match_ : Bool) (s : State), (s.closedTo .AWL_CLR_CTRL src = false) ∧ (match_ = false) ∧ (s.flag
      F.AWL_STATUS_FROZEN 0 = false) ∧ (s.flag F.AWL_STATUS_CLEARING 0 = false) ∧ (s.awl.lockout = false)) ∧
    (∃ (src : Requester) (s : State), s.closedTo .AWL_CTRL src = false) ∧
    (∃ (passed : Bool) (s : State), (s.awl.retrying = true) ∧ (passed = true) ∧ (s.awlMedium ≠ awlMram)) ∧
    (∃ (passed : Bool) (s : State), (s.awl.retrying = true) ∧ (passed = false)) :=
  ⟨⟨.work, true, State.reset, by decide⟩,
   ⟨.work, false, State.reset, by decide⟩,
   ⟨.work, State.reset, by decide⟩,
   ⟨true, fl [(F.AWL_STATUS_MEDIUM, 0, 1)] (State.reset.setAwl { State.reset.awl with retrying := true }), by decide⟩,
   ⟨false, fl [(F.AWL_STATUS_MEDIUM, 0, 1)] (State.reset.setAwl { State.reset.awl with retrying := true }), by decide⟩⟩

/-- The hypotheses of UpdatesAreReceivedVerifiedAndConfirmed. -/
theorem test_hypotheses_UpdatesAreReceivedVerifiedAndConfirmed_1 :
    (∃ (port : Fin 2) (session : BitVec 32) (layout : Bool) (h : ImgHeader) (s : State), (s.updOpen = true) ∧ ((layout = false ∨
      session = 0))) ∧
    (∃ (port : Fin 2) (session : BitVec 32) (layout : Bool) (h : ImgHeader) (s : State), (s.updOpen = true) ∧ (layout = true) ∧
      (session ≠ 0) ∧ (s.headerCheck port session h = none)) ∧
    (∃ (port : Fin 2) (session : BitVec 32) (layout : Bool) (h : ImgHeader) (st : Status) (s : State), (s.updOpen = true) ∧ (layout
      = true) ∧ (session ≠ 0) ∧ (s.headerCheck port session h = some st)) ∧
    (∃ (port : Fin 2) (session : BitVec 32) (layout : Bool) (off : Nat) (len : Fin 1025) (s : State), (s.updOpen = true) ∧ (layout =
      true) ∧ (session ≠ 0) ∧ (0 < len.val) ∧ (s.locked = true) ∧ (s.isOwner port session = false)) ∧
    (∃ (port : Fin 2) (session : BitVec 32) (layout : Bool) (off : Nat) (len : Fin 1025) (h : ImgHeader) (s : State), (s.updOpen =
      true) ∧ (layout = true) ∧ (session ≠ 0) ∧ (0 < len.val) ∧ (s.isOwner port session = true) ∧ (s.upd.hdr = some h) ∧ (off =
      (s.reg .UPD_NEXT 0).toNat) ∧ (off + len.val ≤ h.bodyLen) ∧ (h.bodyLen ≤ 67100672) ∧ (s.upd.ending = false) ∧
      (s.upd.waiting.length < 8)) ∧
    (∃ (port : Fin 2) (session : BitVec 32) (layout : Bool) (off : Nat) (len : Fin 1025) (s : State), (s.updOpen = true) ∧ (layout =
      true) ∧ (session ≠ 0) ∧ (0 < len.val) ∧ (s.isOwner port session = true) ∧ ((s.reg .UPD_NEXT 0).toNat < off)) ∧
    (∃ (port : Fin 2) (session : BitVec 32) (layout : Bool) (off : Nat) (len : Fin 1025) (s : State), (s.updOpen = true) ∧ (layout =
      true) ∧ (session ≠ 0) ∧ (0 < len.val) ∧ (s.isOwner port session = true) ∧ (off + len.val ≤ (s.reg .UPD_NEXT 0).toNat)) ∧
    (∃ (s : State), s.upd.waiting = []) ∧
    (∃ (n : Nat) (rest : List Nat) (s : State), s.upd.waiting = n :: rest) ∧
    (∃ (port : Fin 2) (session : BitVec 32) (layout : Bool) (h : ImgHeader) (s : State), (s.updOpen = true) ∧ (layout = true) ∧
      (session ≠ 0) ∧ (s.isOwner port session = true) ∧ (s.upd.hdr = some h) ∧ ((s.reg .UPD_NEXT 0).toNat < h.bodyLen)) ∧
    (∃ (port : Fin 2) (session : BitVec 32) (layout : Bool) (h : ImgHeader) (s : State), (s.updOpen = true) ∧ (layout = true) ∧
      (session ≠ 0) ∧ (s.isOwner port session = true) ∧ (s.upd.hdr = some h) ∧ (h.bodyLen ≤ (s.reg .UPD_NEXT 0).toNat)) ∧
    (∃ (matches_ : Bool) (h : ImgHeader) (s : State), (s.upd.hdr = some h) ∧ (s.upd.ending = true) ∧ (s.upd.waiting = []) ∧
      (matches_ = true)) :=
  ⟨⟨0, 5, false, default, updOn, by decide⟩,
   ⟨0, 5, true, { (State.reset.slot 0).hdr with wellFormed := true, signed := true, bodyLen := 100 }, updOn, by decide⟩,
   ⟨0, 5, true, default, .BAD_ARG, updOn, by decide⟩,
   ⟨1, 5, true, 0, 9, updLocked, by decide⟩,
   ⟨0, 5, true, 0, 9, { (default : ImgHeader) with bodyLen := 100 }, updLocked, by decide⟩,
   ⟨0, 5, true, 7, 9, updLocked, by decide⟩,
   ⟨0, 5, true, 7, 9, rg [(.UPD_NEXT, 0, 50)] updLocked, by decide⟩,
   ⟨updOn, by decide⟩,
   ⟨9, [], updLocked.setUpd { updLocked.upd with waiting := [9] }, by decide⟩,
   ⟨0, 5, true, { (default : ImgHeader) with bodyLen := 100 }, updLocked, by decide⟩,
   ⟨0, 5, true, { (default : ImgHeader) with bodyLen := 100 }, rg [(.UPD_NEXT, 0, 100)] updLocked, by decide⟩,
   ⟨true, { (default : ImgHeader) with bodyLen := 100 }, updLocked.setUpd { updLocked.upd with ending := true }, by decide⟩⟩

/-- The hypotheses of UpdatesAreReceivedVerifiedAndConfirmed. -/
theorem test_hypotheses_UpdatesAreReceivedVerifiedAndConfirmed_2 :
    (∃ (matches_ : Bool) (h : ImgHeader) (s : State), (s.upd.hdr = some h) ∧ (s.upd.ending = true) ∧ (s.upd.waiting = []) ∧
      (matches_ = false)) ∧
    (∃ (port : Fin 2) (session : BitVec 32) (layout : Bool) (s : State), (s.updOpen = true) ∧ (layout = true) ∧ (session ≠ 0) ∧
      (s.isOwner port session = true)) ∧
    (∃ (port : Fin 2) (session : BitVec 32) (layout : Bool) (s : State), (s.updOpen = true) ∧ (layout = true) ∧ (session ≠ 0) ∧
      (s.locked = false)) ∧
    (∃ (port : Fin 2) (session : BitVec 32) (layout : Bool) (s : State), (s.updOpen = true) ∧ (layout = true) ∧ (session ≠ 0)) ∧
    (∃ (port : Fin 2) (session : BitVec 32) (layout : Bool) (s : State), s.updOpen = false) ∧
    (∃ (s : State), s.locked = true) ∧
    (∃ (src : Requester) (level : BitVec 16) (s : State), (s.closedTo .UPD_CTRL src = false) ∧ ((s.slot s.target).state ≠ .written))
      ∧
    (∃ (src : Requester) (level : BitVec 16) (s : State), (s.closedTo .UPD_CTRL src = false) ∧ ((s.slot s.target).state = .written)
      ∧ (s.paired = true) ∧ (s.fld F.NIM_PAIR_STAT_PARTNER 0 ≠ 2) ∧ (level.toNat ≠ (s.slot s.target).hdr.pairLevel)) ∧
    (∃ (src : Requester) (level : BitVec 16) (s : State), (s.closedTo .UPD_CTRL src = false) ∧ ((s.slot s.target).state = .written)
      ∧ ((s.slot s.target).attempts = 0) ∧ ((s.slot s.runSlot).state ≠ .trial) ∧ (s.runSlot < 2) ∧ (s.mirrored = false)) ∧
    (∃ (src : Requester) (s : State), (s.closedTo .UPD_CTRL src = false) ∧ (s.onTrial = true) ∧ (s.bootStage = stageReady) ∧ (s.flag
      F.SET_STATUS_CONVERT_FAIL 0 = false) ∧ (s.fld F.UPD_MC_STAT_FAIL 0 = 0) ∧ ((s.slot s.runSlot).hdr.floorReq < 2 ^ 32)) ∧
    (∃ (src : Requester) (s : State), (s.closedTo .UPD_CTRL src = false) ∧ (s.onTrial = true) ∧ (s.bootStage ≠ stageReady)) ∧
    (∃ (src : Requester) (s : State), (s.closedTo .UPD_CTRL src = false) ∧ (s.onTrial = false)) :=
  ⟨⟨false, { (default : ImgHeader) with bodyLen := 100 }, updLocked.setUpd { updLocked.upd with ending := true }, by decide⟩,
   ⟨0, 5, true, updLocked, by decide⟩,
   ⟨0, 5, true, updOn, by decide⟩,
   ⟨0, 5, true, updLocked, by decide⟩,
   ⟨0, 5, true, State.reset, by decide⟩,
   ⟨updLocked, by decide⟩,
   ⟨.work, 0, updOn, by decide⟩,
   ⟨.work, 9, fl [(F.NIM_PAIR_CFG_MODE, 0, 1), (F.NIM_PAIR_STAT_PARTNER, 0, 1)] updWritten, by decide⟩,
   ⟨.work, 9, updWritten, by decide⟩,
   ⟨.work, updTrial, by decide⟩,
   ⟨.work, fl [(F.BOOT_STAGE_STAGE, 0, 10)] updTrial, by decide⟩,
   ⟨.work, updOn, by decide⟩⟩

/-- The hypotheses of UpdatesAreReceivedVerifiedAndConfirmed. -/
theorem test_hypotheses_UpdatesAreReceivedVerifiedAndConfirmed_3 :
    (∃ (src : Requester) (s : State), (s.closedTo .UPD_CTRL src = false) ∧ (s.onTrial = true) ∧ (s.runSlot = 1) ∧ (s.bootable 0 =
      true)) ∧
    (∃ (src : Requester) (s : State), (s.closedTo .UPD_CTRL src = false) ∧ (s.onTrial = false)) ∧
    (∃ (src : Requester) (s : State), s.closedTo .UPD_CTRL src = false) ∧
    (∃ (s : State), (s.onTrial = true) ∧ (s.runSlot = 1) ∧ (s.bootable 0 = true)) ∧
    (∃ (s : State), s.onTrial = false) ∧
    (∃ (block : Fin 4) (good : Bool) (s : State), good = true) ∧
    (∃ (block : Fin 4) (good : Bool) (s : State), good = false) ∧
    (∃ (block : Fin 4) (s : State), s.upd.loaded.contains block.val = true) ∧
    (∃ (block : Fin 4) (s : State), s.upd.loaded.contains block.val = false) :=
  ⟨⟨.work, updTrial, by decide⟩,
   ⟨.work, updOn, by decide⟩,
   ⟨.work, updLocked, by decide⟩,
   ⟨updTrial, by decide⟩,
   ⟨updOn, by decide⟩,
   ⟨2, true, updOn, by decide⟩,
   ⟨2, false, updOn, by decide⟩,
   ⟨2, updOn.setUpd { updOn.upd with loaded := [2] }, by decide⟩,
   ⟨2, updOn, by decide⟩⟩

end Sys2Proof.Tests
end

section
/-! SUPPORT of O4 and O5: the register store stays sound. One rule per operation of the model, named after it: from a sound
store the operation leaves a sound one. The rules chain by dot notation in the order in which the model applies the operations
(`h.store.setFlag.health`), so that a proof reads as the operation does. -/

namespace Sys2Proof.Machine

variable {s t a b : State}

/-! ### How soundness passes through the forms of the language -/

/-- A frame says that the register store stays sound, whatever its footprint. -/
theorem RegsOk.of_keeps {f : Foot} (h : RegsOk s) (k : Frame f s t) : RegsOk t := k.sound h

/-- The same from an operation's frame law, which is stated for every footprint that holds its own: taken at its own. -/
theorem RegsOk.of_frame {ps rs} (h : RegsOk s)
    (k : ∀ {f : Foot}, Frame f s s → ps ⊆ f.parts → rs ⊆ f.regs → Frame f s t) : RegsOk t :=
  (k (.refl ⟨ps, rs⟩ s) (.refl _) (.refl _)).sound h

/-- The same from the frame law of an operation that changes no register. -/
theorem RegsOk.of_partsFrame {ps} (h : RegsOk s) (k : ∀ {f : Foot}, Frame f s s → ps ⊆ f.parts → Frame f s t) : RegsOk t :=
  (k (.refl ⟨ps, []⟩ s) (.refl _)).sound h

/-- The same from the frame law of an operation that changes registers alone. -/
theorem RegsOk.of_regsFrame {rs} (h : RegsOk s) (k : ∀ {f : Foot}, Frame f s s → rs ⊆ f.regs → Frame f s t) : RegsOk t :=
  (k (.refl ⟨[], rs⟩ s) (.refl _)).sound h

theorem RegsOk.ite {c : Prop} {_ : Decidable c} (ha : RegsOk a) (hb : RegsOk b) :
    RegsOk (if c then a else b) := by
  split
  · exact ha
  · exact hb

theorem RegsOk.foldl {α : Type} {g : State → α → State} {l : List α} (h : RegsOk s) (hg : ∀ s x, RegsOk s → RegsOk (g s x)) :
    RegsOk (l.foldl g s) := by
  induction l generalizing s with
  | nil => exact h
  | cons x l ih => exact ih (hg s x h)

/-- A record update of other parts of the state: the rule for `{ s with part := x }`, whatever the part. -/
theorem RegsOk.upd (h : RegsOk s) {pending_ resp_ rdata_ latchHigh_ latchLow_ freeCtr_ sent_ tick_ tb_ host_ awl_ ing_ twl_ nim_
    tks_ egr_ twd_ asp_ vmp_ lst_ ntm_ net_ rsl_ keep_ upd_ boot_ frameStore_ dir_} :
    RegsOk ⟨pending_, s.regs, resp_, rdata_, latchHigh_, latchLow_, freeCtr_, sent_, tick_, tb_, host_, awl_, ing_, twl_, nim_,
      tks_, egr_, twd_, asp_, vmp_, lst_, ntm_, net_, rsl_, keep_, upd_, boot_, frameStore_, dir_⟩ :=
  h.of_regs_eq rfl

/-- The state that a result carries, where it carries one, has a sound register store. -/
def SomeRegsOk (x : Option State) : Prop := ∀ t, x = some t → RegsOk t

theorem SomeRegsOk.none : SomeRegsOk none := fun _ e => nomatch e
theorem SomeRegsOk.some (h : RegsOk s) : SomeRegsOk (some s) := fun _ e => by
  rw [← Option.some.inj e]; exact h
theorem SomeRegsOk.ite {c : Prop} {_ : Decidable c} {x y : Option State} (hx : SomeRegsOk x) (hy : SomeRegsOk y) :
    SomeRegsOk (if c then x else y) := by
  split
  · exact hx
  · exact hy

/-- The same of a result that may be an error. -/
def OkRegsOk {ε : Type} (x : Except ε State) : Prop := ∀ t, x = .ok t → RegsOk t

theorem OkRegsOk.error {ε : Type} {e : ε} : OkRegsOk (.error e) := fun _ h => nomatch h
theorem OkRegsOk.ok {ε : Type} (h : RegsOk s) : OkRegsOk (.ok s : Except ε State) := fun _ e => by
  rw [← Except.ok.inj e]; exact h
theorem OkRegsOk.ite {ε : Type} {c : Prop} {_ : Decidable c} {x y : Except ε State} (hx : OkRegsOk x) (hy : OkRegsOk y) :
    OkRegsOk (if c then x else y) := by
  split
  · exact hx
  · exact hy

/-! ### Operations whose frame is stated -/

theorem RegsOk.set {r i v} (h : RegsOk s) : RegsOk (s.setReg r i v) := h.setReg r i v
theorem RegsOk.clear {r} (h : RegsOk s) : RegsOk (s.clearReg r) := h.clearReg r
theorem RegsOk.setFld {g i v} (h : RegsOk s) : RegsOk (s.setFld g i v) := h.set
theorem RegsOk.setFlag {g i b} (h : RegsOk s) : RegsOk (s.setFlag g i b) := h.setFld
theorem RegsOk.setSigned {g i v} (h : RegsOk s) : RegsOk (s.setSigned g i v) := h.setFld
theorem RegsOk.count {r i n} (h : RegsOk s) : RegsOk (s.count r i n) := h.set
theorem RegsOk.answer {st} (h : RegsOk s) : RegsOk (s.answer st) := h.upd
theorem RegsOk.emit {m} (h : RegsOk s) : RegsOk (s.emit m) := h.upd
theorem RegsOk.store {r i v} (h : RegsOk s) : RegsOk (s.store r i v) := h.set.answer
theorem RegsOk.rawSet {r i v} (h : RegsOk s) : RegsOk (s.rawSet r i v) := h.set
theorem RegsOk.raiseVector {v} (h : RegsOk s) : RegsOk (s.raiseVector v) :=
  h.of_partsFrame fun k hp => State.raiseVector_frame k hp
theorem RegsOk.refreshSum {b was} (h : RegsOk s) : RegsOk (s.refreshSum b was) :=
  h.of_keeps (State.refreshSum_frame (.refl ⟨_, [.GLB_INT_SUM]⟩ s) (.refl _) (by simp))
theorem RegsOk.irq {c} (h : RegsOk s) : RegsOk (s.irq c) := h.of_keeps (s.irq_keeps c)
theorem RegsOk.clearStat {b v} (h : RegsOk s) : RegsOk (s.clearStat b v) :=
  h.of_frame fun k hp hr => State.clearStat_frame k hp hr
theorem RegsOk.writeEn {b v} (h : RegsOk s) : RegsOk (s.writeEn b v) := h.of_frame fun k hp hr => State.writeEn_frame k hp hr
theorem RegsOk.discardHost {b} (h : RegsOk s) : RegsOk (s.discardHost b) :=
  h.of_frame fun k hp hr => State.discardHost_frame k hp hr
theorem RegsOk.guarded {r src k} (h : RegsOk s) (hk : ∀ s, RegsOk s → RegsOk (k s)) : RegsOk (s.guarded r src k) := by
  unfold State.guarded
  exact .ite (.ite h.discardHost h) (hk s h)
theorem RegsOk.setCtx {i c} (h : RegsOk s) : RegsOk (s.setCtx i c) := h.of_partsFrame State.setCtx_frame
theorem RegsOk.setRunning {core i} (h : RegsOk s) : RegsOk (s.setRunning core i) := h.of_partsFrame State.setRunning_frame
theorem RegsOk.ready {i} (h : RegsOk s) : RegsOk (s.ready i) := h.of_partsFrame State.ready_frame
theorem RegsOk.giveResult {i v st} (h : RegsOk s) : RegsOk (s.giveResult i v st) := h.of_partsFrame State.giveResult_frame
theorem RegsOk.writeCq {q r} (h : RegsOk s) : RegsOk (s.writeCq q r) := h.of_frame State.writeCq_frame
theorem RegsOk.raiseHwm {k} (h : RegsOk s) : RegsOk (s.raiseHwm k) := h.of_frame State.raiseHwm_frame
theorem RegsOk.setEntry {k f'} (h : RegsOk s) : RegsOk (s.setEntry k f') := h.of_partsFrame State.setEntry_frame
theorem RegsOk.showQueue {q} (h : RegsOk s) : RegsOk (s.showQueue q) := h.of_regsFrame State.showQueue_frame
theorem RegsOk.ackEntry {k alone} (h : RegsOk s) : RegsOk (s.ackEntry k alone) := h.of_frame State.ackEntry_frame
theorem RegsOk.showJournal (h : RegsOk s) : RegsOk s.showJournal := h.of_frame State.showJournal_frame
theorem RegsOk.recordSig {k sig st} (h : RegsOk s) : RegsOk (s.recordSig k sig st) := h.of_partsFrame State.recordSig_frame
theorem RegsOk.sigReturn {i k sig v st} (h : RegsOk s) : RegsOk (s.sigReturn i k sig v st) :=
  h.of_partsFrame State.sigReturn_frame
theorem RegsOk.lastStatus {op st} (h : RegsOk s) : RegsOk (s.lastStatus op st) := h.of_regsFrame State.lastStatus_frame
theorem RegsOk.ctrlRefused {bit_ st} (h : RegsOk s) : RegsOk (s.ctrlRefused bit_ st) := h.of_frame State.ctrlRefused_frame
theorem RegsOk.drawFree (h : RegsOk s) : RegsOk s.drawFree := h.of_partsFrame State.drawFree_frame
theorem RegsOk.showStaged (h : RegsOk s) : RegsOk s.showStaged := h.of_regsFrame State.showStaged_frame
theorem RegsOk.awlUnstated {b arg} (h : RegsOk s) : RegsOk (s.awlUnstated b arg) := h.of_frame State.awlUnstated_frame
theorem RegsOk.setUpd {x} (h : RegsOk s) : RegsOk (s.setUpd x) := h.of_partsFrame State.setUpd_frame
theorem RegsOk.setSlot {i x} (h : RegsOk s) : RegsOk (s.setSlot i x) := h.of_partsFrame State.setSlot_frame
theorem RegsOk.raiseFloor {h'} (h : RegsOk s) : RegsOk (s.raiseFloor h') := h.of_regsFrame State.raiseFloor_frame
theorem RegsOk.refreshAlert (h : RegsOk s) : RegsOk s.refreshAlert := h.of_frame State.refreshAlert_frame
theorem RegsOk.alert {b} (h : RegsOk s) : RegsOk (s.alert b) := h.of_keeps (s.alert_keeps _)
theorem RegsOk.recovery (h : RegsOk s) : RegsOk s.recovery := h.of_frame State.recovery_frame
theorem RegsOk.setDirs {d} (h : RegsOk s) : RegsOk (s.setDirs d) := h.of_partsFrame State.setDirs_frame
theorem RegsOk.resetCores (h : RegsOk s) : RegsOk s.resetCores := h.of_partsFrame State.resetCores_frame
theorem RegsOk.setBoot {x} (h : RegsOk s) : RegsOk (s.setBoot x) := h.of_partsFrame State.setBoot_frame
theorem RegsOk.awlCause {c alarm obj detail} (h : RegsOk s) : RegsOk (s.awlCause c alarm obj detail) :=
  h.of_keeps (s.awlCause_keeps _ _ _ _)
theorem RegsOk.event {c obj detail} (h : RegsOk s) : RegsOk (s.event c obj detail) := h.of_keeps (s.event_keeps _ _ _)
theorem RegsOk.addRepair {kind array place spare} (h : RegsOk s) : RegsOk (s.addRepair kind array place spare) :=
  h.of_frame State.addRepair_frame
theorem RegsOk.advanceClock (h : RegsOk s) : RegsOk s.advanceClock := h.of_partsFrame State.advanceClock_frame
theorem RegsOk.advanceTb {k} (h : RegsOk s) : RegsOk (s.advanceTb k) := h.of_partsFrame State.advanceTb_frame
theorem RegsOk.agePartner (h : RegsOk s) : RegsOk s.agePartner := h.of_regsFrame State.agePartner_frame
theorem RegsOk.setLink {k x} (h : RegsOk s) : RegsOk (s.setLink k x) := h.of_partsFrame State.setLink_frame
theorem RegsOk.ageRecord {k} (h : RegsOk s) : RegsOk (s.ageRecord k) := h.of_partsFrame State.ageRecord_frame
theorem RegsOk.ageWarn {obj detail} (h : RegsOk s) : RegsOk (s.ageWarn obj detail) := h.of_frame State.ageWarn_frame
theorem RegsOk.alarm {c bit_ obj detail} (h : RegsOk s) : RegsOk (s.alarm c bit_ obj detail) :=
  h.of_keeps (s.alarm_keeps _ _ _ _)
theorem RegsOk.setSvc {n x} (h : RegsOk s) : RegsOk (s.setSvc n x) := h.of_partsFrame State.setSvc_frame
theorem RegsOk.wakeCtx {i} (h : RegsOk s) : RegsOk (s.wakeCtx i) := h.of_frame State.wakeCtx_frame
theorem RegsOk.wakeSvc {n} (h : RegsOk s) : RegsOk (s.wakeSvc n) := h.of_frame State.wakeSvc_frame
theorem RegsOk.giveDone {n seq st} (h : RegsOk s) : RegsOk (s.giveDone n seq st) := h.of_frame State.giveDone_frame
theorem RegsOk.postDone {k} (h : RegsOk s) : RegsOk (s.postDone k) := h.of_frame State.postDone_frame
theorem RegsOk.stageEnds {i} (h : RegsOk s) : RegsOk (s.stageEnds i) := h.of_regsFrame State.stageEnds_frame
theorem RegsOk.bootReady (h : RegsOk s) : RegsOk s.bootReady := h.of_regsFrame State.bootReady_frame
theorem RegsOk.postDones (h : RegsOk s) : RegsOk s.postDones := h.of_frame State.postDones_frame
theorem RegsOk.showCore {core} (h : RegsOk s) : RegsOk (s.showCore core) := h.of_regsFrame State.showCore_frame
theorem RegsOk.endCtx {i} (h : RegsOk s) : RegsOk (s.endCtx i) := h.of_frame State.endCtx_frame
theorem RegsOk.setInput {n x} (h : RegsOk s) : RegsOk (s.setInput n x) := h.of_partsFrame State.setInput_frame
theorem RegsOk.ancFlowPacket {a num bytes} (h : RegsOk s) : RegsOk (s.ancFlowPacket a num bytes) :=
  h.of_frame State.ancFlowPacket_frame
theorem RegsOk.setPipe {v p} (h : RegsOk s) : RegsOk (s.setPipe v p) := h.of_partsFrame State.setPipe_frame
theorem RegsOk.applyDelivery (h : RegsOk s) : RegsOk s.applyDelivery := h.of_frame State.applyDelivery_frame
theorem RegsOk.setOut {n x} (h : RegsOk s) : RegsOk (s.setOut n x) := h.of_partsFrame State.setOut_frame
theorem RegsOk.loseOutRoute {n} (h : RegsOk s) : RegsOk (s.loseOutRoute n) := h.of_frame State.loseOutRoute_frame
theorem RegsOk.setPort {p x} (h : RegsOk s) : RegsOk (s.setPort p x) := h.of_partsFrame State.setPort_frame
theorem RegsOk.setRoutes {rs} (h : RegsOk s) : RegsOk (s.setRoutes rs) := h.of_partsFrame State.setRoutes_frame
theorem RegsOk.showCtx {p c} (h : RegsOk s) : RegsOk (s.showCtx p c) := h.of_regsFrame State.showCtx_frame
theorem RegsOk.setTakes {l} (h : RegsOk s) : RegsOk (s.setTakes l) := h.of_partsFrame State.setTakes_frame
theorem RegsOk.setTake {t'} (h : RegsOk s) : RegsOk (s.setTake t') := h.of_partsFrame State.setTake_frame
theorem RegsOk.setDir {flow e} (h : RegsOk s) : RegsOk (s.setDir flow e) := h.of_partsFrame State.setDir_frame
theorem RegsOk.showDir (h : RegsOk s) : RegsOk s.showDir := h.of_regsFrame State.showDir_frame
theorem RegsOk.setPortState {p st} (h : RegsOk s) : RegsOk (s.setPortState p st) := h.of_regsFrame State.setPortState_frame
theorem RegsOk.applyLp {p} (h : RegsOk s) : RegsOk (s.applyLp p) := h.of_regsFrame State.applyLp_frame
theorem RegsOk.freeRing {n} (h : RegsOk s) : RegsOk (s.freeRing n) := h.of_frame State.freeRing_frame
theorem RegsOk.setSender {k i x} (h : RegsOk s) : RegsOk (s.setSender k i x) := h.of_partsFrame State.setSender_frame
theorem RegsOk.setSect {tx n x} (h : RegsOk s) : RegsOk (s.setSect tx n x) := h.of_partsFrame State.setSect_frame
theorem RegsOk.setAspState {tx n st} (h : RegsOk s) : RegsOk (s.setAspState tx n st) := h.of_regsFrame State.setAspState_frame
theorem RegsOk.aspCount {tx n} (h : RegsOk s) : RegsOk (s.aspCount tx n) := h.of_partsFrame State.aspCount_frame
theorem RegsOk.aspIrq {tx n c} (h : RegsOk s) : RegsOk (s.aspIrq tx n c) :=
  h.of_keeps (State.aspIrq_frame (.refl ⟨_, .ASP_INT_SRC :: c.blk.irqRegs⟩ s) (.refl _) (by simp) (by simp))
theorem RegsOk.aspEvent {tx n c detail} (h : RegsOk s) : RegsOk (s.aspEvent tx n c detail) :=
  h.of_keeps (State.aspEvent_frame (.refl ⟨_, .ASP_INT_SRC :: c.eventRegs⟩ s) (.refl _) (by simp) (by simp))
theorem RegsOk.aspIdle (h : RegsOk s) : RegsOk s.aspIdle := h.of_regsFrame State.aspIdle_frame
theorem RegsOk.setTwd {c x} (h : RegsOk s) : RegsOk (s.setTwd c x) := h.of_partsFrame State.setTwd_frame
theorem RegsOk.aspPull {tx n} (h : RegsOk s) : RegsOk (s.aspPull tx n) := h.of_frame State.aspPull_frame
theorem RegsOk.aspPush {tx n f'} (h : RegsOk s) : RegsOk (s.aspPush tx n f') := h.of_frame State.aspPush_frame
theorem RegsOk.aspSend {n f'} (h : RegsOk s) : RegsOk (s.aspSend n f') := h.of_partsFrame State.aspSend_frame
theorem RegsOk.audioPacket {a ext late} (h : RegsOk s) : RegsOk (s.audioPacket a ext late) := h.of_frame State.audioPacket_frame
theorem RegsOk.authFail (h : RegsOk s) : RegsOk s.authFail := h.of_frame State.authFail_frame
theorem RegsOk.awlFabric {ev flow obj} (h : RegsOk s) : RegsOk (s.awlFabric ev flow obj) := h.of_keeps (s.awlFabric_keeps _ _ _)
theorem RegsOk.awlFull (h : RegsOk s) : RegsOk s.awlFull := h.of_frame State.awlFull_frame
theorem RegsOk.awlPersist {b sev ev arg} (h : RegsOk s) : RegsOk (s.awlPersist b sev ev arg) :=
  h.of_keeps (s.awlPersist_keeps _ _ _ _)
theorem RegsOk.awlState {b sev st obj detail} (h : RegsOk s) : RegsOk (s.awlState b sev st obj detail) :=
  h.of_keeps (s.awlState_keeps _ _ _ _ _)
theorem RegsOk.bankSample {c slot n v flags} (h : RegsOk s) : RegsOk (s.bankSample c slot n v flags) :=
  h.of_partsFrame State.bankSample_frame
theorem RegsOk.bar2Miss (h : RegsOk s) : RegsOk s.bar2Miss := h.of_frame State.bar2Miss_frame
theorem RegsOk.startSvc {n off} (h : RegsOk s) : RegsOk (s.startSvc n off) := h.of_frame State.startSvc_frame
theorem RegsOk.blockMoved {u x} (h : RegsOk s) : RegsOk (s.blockMoved u x) := h.of_frame State.blockMoved_frame
theorem RegsOk.setInState {n st} (h : RegsOk s) : RegsOk (s.setInState n st) := h.of_regsFrame State.setInState_frame
theorem RegsOk.boundaryWith {n f'} (h : RegsOk s) : RegsOk (s.boundaryWith n f') := h.of_frame State.boundaryWith_frame
theorem RegsOk.noteLoss {n} (h : RegsOk s) : RegsOk (s.noteLoss n) := h.of_frame State.noteLoss_frame
theorem RegsOk.enterBlack {n} (h : RegsOk s) : RegsOk (s.enterBlack n) := h.of_frame State.enterBlack_frame
theorem RegsOk.showLast {n} (h : RegsOk s) : RegsOk (s.showLast n) := h.of_partsFrame State.showLast_frame
theorem RegsOk.setCap {c x} (h : RegsOk s) : RegsOk (s.setCap c x) := h.of_partsFrame State.setCap_frame
theorem RegsOk.showCap {c} (h : RegsOk s) : RegsOk (s.showCap c) := h.of_regsFrame State.showCap_frame
theorem RegsOk.setKeep {x} (h : RegsOk s) : RegsOk (s.setKeep x) := h.of_partsFrame State.setKeep_frame
theorem RegsOk.retireSector {dev sector} (h : RegsOk s) : RegsOk (s.retireSector dev sector) :=
  h.of_frame State.retireSector_frame
theorem RegsOk.eraseSector {dev sector} (h : RegsOk s) : RegsOk (s.eraseSector dev sector) := h.of_frame State.eraseSector_frame
theorem RegsOk.startSnap (h : RegsOk s) : RegsOk s.startSnap := h.of_frame State.startSnap_frame
theorem RegsOk.showDeltas (h : RegsOk s) : RegsOk s.showDeltas := h.of_frame State.showDeltas_frame
theorem RegsOk.recordStore {src e set pairs} (h : RegsOk s) : RegsOk (s.recordStore src e set pairs) :=
  h.of_frame State.recordStore_frame
theorem RegsOk.refuse {st} (h : RegsOk s) : RegsOk (s.refuse st) := h.of_partsFrame State.refuse_frame
theorem RegsOk.markReg {r i} (h : RegsOk s) : RegsOk (s.markReg r i) := h.of_partsFrame State.markReg_frame
theorem RegsOk.pendTwd {c r i v} (h : RegsOk s) : RegsOk (s.pendTwd c r i v) := h.of_frame State.pendTwd_frame
theorem RegsOk.writeBtxFlow {src b v} (h : RegsOk s) : RegsOk (s.writeBtxFlow src b v) := h.of_frame State.writeBtxFlow_frame
theorem RegsOk.writeCoreAt {src c v} (h : RegsOk s) : RegsOk (s.writeCoreAt src c v) := h.of_frame State.writeCoreAt_frame
theorem RegsOk.writeExecCfg {src v} (h : RegsOk s) : RegsOk (s.writeExecCfg src v) := h.of_frame State.writeExecCfg_frame
theorem RegsOk.writeFollow {src n v} (h : RegsOk s) : RegsOk (s.writeFollow src n v) := h.of_frame State.writeFollow_frame
theorem RegsOk.writeJrnCfg {src v} (h : RegsOk s) : RegsOk (s.writeJrnCfg src v) := h.of_frame State.writeJrnCfg_frame
theorem RegsOk.killPrograms (h : RegsOk s) : RegsOk s.killPrograms := h.of_frame State.killPrograms_frame
theorem RegsOk.setLkState {k st} (h : RegsOk s) : RegsOk (s.setLkState k st) := h.of_regsFrame State.setLkState_frame
theorem RegsOk.vmpIdle (h : RegsOk s) : RegsOk s.vmpIdle := h.of_regsFrame State.vmpIdle_frame
theorem RegsOk.showCharge {v} (h : RegsOk s) : RegsOk (s.showCharge v) := h.of_regsFrame State.showCharge_frame
theorem RegsOk.writePlace {src k v sender} (h : RegsOk s) : RegsOk (s.writePlace src k v sender) :=
  h.of_frame State.writePlace_frame
theorem RegsOk.flushAcks {q} (h : RegsOk s) : RegsOk (s.flushAcks q) := h.of_frame State.flushAcks_frame
theorem RegsOk.writeSqTail {src q v} (h : RegsOk s) : RegsOk (s.writeSqTail src q v) := h.of_frame State.writeSqTail_frame
theorem RegsOk.writeSurfCfg {src m w} (h : RegsOk s) : RegsOk (s.writeSurfCfg src m w) := h.of_frame State.writeSurfCfg_frame
theorem RegsOk.writeSurfGen {src m w} (h : RegsOk s) : RegsOk (s.writeSurfGen src m w) := h.of_frame State.writeSurfGen_frame
theorem RegsOk.writeSvcCfg {src n v} (h : RegsOk s) : RegsOk (s.writeSvcCfg src n v) := h.of_frame State.writeSvcCfg_frame
theorem RegsOk.twdIdle (h : RegsOk s) : RegsOk s.twdIdle := h.of_regsFrame State.twdIdle_frame
theorem RegsOk.writeAflOff {src a v} (h : RegsOk s) : RegsOk (s.writeAflOff src a v) := h.of_frame State.writeAflOff_frame
theorem RegsOk.writeAnf {src a v} (h : RegsOk s) : RegsOk (s.writeAnf src a v) := h.of_frame State.writeAnf_frame
theorem RegsOk.runSender {k i rate} (h : RegsOk s) : RegsOk (s.runSender k i rate) := h.of_frame State.runSender_frame
theorem RegsOk.stopSender {k i} (h : RegsOk s) : RegsOk (s.stopSender k i) := h.of_partsFrame State.stopSender_frame
theorem RegsOk.writeCalLimit {src v} (h : RegsOk s) : RegsOk (s.writeCalLimit src v) := h.of_frame State.writeCalLimit_frame
theorem RegsOk.dirResult {who st} (h : RegsOk s) : RegsOk (s.dirResult who st) := h.of_frame State.dirResult_frame
theorem RegsOk.dirFetch (h : RegsOk s) : RegsOk s.dirFetch := h.of_frame State.dirFetch_frame
theorem RegsOk.showPending {n} (h : RegsOk s) : RegsOk (s.showPending n) := h.of_regsFrame State.showPending_frame
theorem RegsOk.dropTake {t'} (h : RegsOk s) : RegsOk (s.dropTake t') := h.of_frame State.dropTake_frame
theorem RegsOk.memberRefused {k sig pos st} (h : RegsOk s) : RegsOk (s.memberRefused k sig pos st) :=
  h.of_frame State.memberRefused_frame
theorem RegsOk.postRecord {q r} (h : RegsOk s) : RegsOk (s.postRecord q r) := h.of_frame State.postRecord_frame
theorem RegsOk.writeHealthCfg {src v} (h : RegsOk s) : RegsOk (s.writeHealthCfg src v) := h.of_frame State.writeHealthCfg_frame
theorem RegsOk.loseInput {n reason} (h : RegsOk s) : RegsOk (s.loseInput n reason) := h.of_frame State.loseInput_frame
theorem RegsOk.report {j leave older} (h : RegsOk s) : RegsOk (s.report j leave older) := h.of_frame State.report_frame
theorem RegsOk.setJoin {j x} (h : RegsOk s) : RegsOk (s.setJoin j x) := h.of_partsFrame State.setJoin_frame
theorem RegsOk.changeReport {j st leave} (h : RegsOk s) : RegsOk (s.changeReport j st leave) :=
  h.of_frame State.changeReport_frame
theorem RegsOk.writeJoin {src j v} (h : RegsOk s) : RegsOk (s.writeJoin src j v) := h.of_frame State.writeJoin_frame
theorem RegsOk.writeLkLimit {src v} (h : RegsOk s) : RegsOk (s.writeLkLimit src v) := h.of_frame State.writeLkLimit_frame
theorem RegsOk.setOtd {d x} (h : RegsOk s) : RegsOk (s.setOtd d x) := h.of_partsFrame State.setOtd_frame
theorem RegsOk.writePat {src p v} (h : RegsOk s) : RegsOk (s.writePat src p v) := h.of_frame State.writePat_frame
theorem RegsOk.writePktVid {src m v} (h : RegsOk s) : RegsOk (s.writePktVid src m v) := h.of_frame State.writePktVid_frame
theorem RegsOk.writePool {src v} (h : RegsOk s) : RegsOk (s.writePool src v) := h.of_frame State.writePool_frame
theorem RegsOk.refuseSwap {st} (h : RegsOk s) : RegsOk (s.refuseSwap st) := h.of_frame State.refuseSwap_frame
theorem RegsOk.mapPorts {f'} (h : RegsOk s) : RegsOk (s.mapPorts f') := h.of_partsFrame State.mapPorts_frame
theorem RegsOk.twillStop (h : RegsOk s) : RegsOk s.twillStop := h.of_frame State.twillStop_frame
theorem RegsOk.writeTwlCtrl {src v inFlight} (h : RegsOk s) : RegsOk (s.writeTwlCtrl src v inFlight) :=
  h.of_frame State.writeTwlCtrl_frame
theorem RegsOk.writeXsndCfg {src i w} (h : RegsOk s) : RegsOk (s.writeXsndCfg src i w) := h.of_frame State.writeXsndCfg_frame
theorem RegsOk.clearAlert {v} (h : RegsOk s) : RegsOk (s.clearAlert v) := h.of_frame State.clearAlert_frame
theorem RegsOk.writeAwlCfg {src v} (h : RegsOk s) : RegsOk (s.writeAwlCfg src v) := h.of_frame State.writeAwlCfg_frame
theorem RegsOk.setAwl {x} (h : RegsOk s) : RegsOk (s.setAwl x) := h.of_partsFrame State.setAwl_frame
theorem RegsOk.setFrozen {b} (h : RegsOk s) : RegsOk (s.setFrozen b) := h.of_regsFrame State.setFrozen_frame
theorem RegsOk.writeAwlCtrl {src v} (h : RegsOk s) : RegsOk (s.writeAwlCtrl src v) := h.of_frame State.writeAwlCtrl_frame
theorem RegsOk.setClk {d c} (h : RegsOk s) : RegsOk (s.setClk d c) := h.of_partsFrame State.setClk_frame
theorem RegsOk.serveClk {d} (h : RegsOk s) : RegsOk (s.serveClk d) := h.of_frame State.serveClk_frame
theorem RegsOk.showAwl (h : RegsOk s) : RegsOk s.showAwl := h.of_regsFrame State.showAwl_frame
theorem RegsOk.goResult {st} (h : RegsOk s) : RegsOk (s.goResult st) := h.of_frame State.goResult_frame
theorem RegsOk.stopWork (h : RegsOk s) : RegsOk s.stopWork := h.of_frame State.stopWork_frame
theorem RegsOk.writeKick {src _v} (h : RegsOk s) : RegsOk (s.writeKick src _v) := h.of_partsFrame State.writeKick_frame
theorem RegsOk.writeRdIdx {src v} (h : RegsOk s) : RegsOk (s.writeRdIdx src v) := h.of_frame State.writeRdIdx_frame
theorem RegsOk.writeRole {src v} (h : RegsOk s) : RegsOk (s.writeRole src v) := h.of_frame State.writeRole_frame
theorem RegsOk.writeRsl {src r i v} (h : RegsOk s) : RegsOk (s.writeRsl src r i v) :=
  h.of_keeps (State.writeRsl_frame (.refl ⟨_, r :: r.shutRegs⟩ s) (.refl _) (by simp) (by simp))
theorem RegsOk.writeSetCfg {src v} (h : RegsOk s) : RegsOk (s.writeSetCfg src v) := h.of_frame State.writeSetCfg_frame
theorem RegsOk.snapResult {st} (h : RegsOk s) : RegsOk (s.snapResult st) := h.of_regsFrame State.snapResult_frame
theorem RegsOk.writeSetCtrl {src v} (h : RegsOk s) : RegsOk (s.writeSetCtrl src v) := h.of_frame State.writeSetCtrl_frame
theorem RegsOk.setRsl {x} (h : RegsOk s) : RegsOk (s.setRsl x) := h.of_partsFrame State.setRsl_frame
theorem RegsOk.sendClaim {id} (h : RegsOk s) : RegsOk (s.sendClaim id) := h.of_frame State.sendClaim_frame
theorem RegsOk.unitStatus {u st} (h : RegsOk s) : RegsOk (s.unitStatus u st) := h.of_regsFrame State.unitStatus_frame
theorem RegsOk.startRetest {u} (h : RegsOk s) : RegsOk (s.startRetest u) := h.of_regsFrame State.startRetest_frame
theorem RegsOk.startTest {u} (h : RegsOk s) : RegsOk (s.startTest u) := h.of_regsFrame State.startTest_frame
theorem RegsOk.noSpare {u} (h : RegsOk s) : RegsOk (s.noSpare u) := h.of_frame State.noSpare_frame
theorem RegsOk.spareLow (h : RegsOk s) : RegsOk s.spareLow := h.of_frame State.spareLow_frame
theorem RegsOk.writeUpdCfg {src v} (h : RegsOk s) : RegsOk (s.writeUpdCfg src v) := h.of_frame State.writeUpdCfg_frame
theorem RegsOk.writeCap {src c v} (h : RegsOk s) : RegsOk (s.writeCap src c v) := h.of_frame State.writeCap_frame
theorem RegsOk.writeEee {src p v} (h : RegsOk s) : RegsOk (s.writeEee src p v) := h.of_frame State.writeEee_frame
theorem RegsOk.writeEpCfg {src e v} (h : RegsOk s) : RegsOk (s.writeEpCfg src e v) := h.of_frame State.writeEpCfg_frame
theorem RegsOk.setRk {k r} (h : RegsOk s) : RegsOk (s.setRk k r) := h.of_regsFrame State.setRk_frame
theorem RegsOk.drawRk {k} (h : RegsOk s) : RegsOk (s.drawRk k) := h.of_frame State.drawRk_frame
theorem RegsOk.setLst {x} (h : RegsOk s) : RegsOk (s.setLst x) := h.of_partsFrame State.setLst_frame
theorem RegsOk.setServo {k x} (h : RegsOk s) : RegsOk (s.setServo k x) := h.of_partsFrame State.setServo_frame
theorem RegsOk.setTb {k t'} (h : RegsOk s) : RegsOk (s.setTb k t') := h.of_partsFrame State.setTb_frame
theorem RegsOk.memberArmed {k sig time late} (h : RegsOk s) : RegsOk (s.memberArmed k sig time late) :=
  h.of_frame State.memberArmed_frame
theorem RegsOk.setGpio {g b} (h : RegsOk s) : RegsOk (s.setGpio g b) := h.of_partsFrame State.setGpio_frame
theorem RegsOk.setTrg {t' x} (h : RegsOk s) : RegsOk (s.setTrg t' x) := h.of_partsFrame State.setTrg_frame
theorem RegsOk.ntmIdle (h : RegsOk s) : RegsOk s.ntmIdle := h.of_regsFrame State.ntmIdle_frame
theorem RegsOk.disarm {t'} (h : RegsOk s) : RegsOk (s.disarm t') := h.of_regsFrame State.disarm_frame
theorem RegsOk.trgPass {t' n} (h : RegsOk s) : RegsOk (s.trgPass t' n) := h.of_frame State.trgPass_frame
theorem RegsOk.trgShift {t' now missed} (h : RegsOk s) : RegsOk (s.trgShift t' now missed) := h.of_frame State.trgShift_frame
theorem RegsOk.startTb {k t'} (h : RegsOk s) : RegsOk (s.startTb k t') := h.of_frame State.startTb_frame
theorem RegsOk.writeBack {r idx time st} (h : RegsOk s) : RegsOk (s.writeBack r idx time st) :=
  h.of_partsFrame State.writeBack_frame
theorem RegsOk.ctrlFail {p f' st} (h : RegsOk s) : RegsOk (s.ctrlFail p f' st) := h.of_frame State.ctrlFail_frame
theorem RegsOk.setNetPort {p x} (h : RegsOk s) : RegsOk (s.setNetPort p x) := h.of_partsFrame State.setNetPort_frame
theorem RegsOk.txAbort {p} (h : RegsOk s) : RegsOk (s.txAbort p) := h.of_frame State.txAbort_frame
theorem RegsOk.portFall {p} (h : RegsOk s) : RegsOk (s.portFall p) := h.of_frame State.portFall_frame
theorem RegsOk.portStop {p st} (h : RegsOk s) : RegsOk (s.portStop p st) := h.of_frame State.portStop_frame
theorem RegsOk.writeGrpCfg {src g v} (h : RegsOk s) : RegsOk (s.writeGrpCfg src g v) := h.of_frame State.writeGrpCfg_frame
theorem RegsOk.writeInst {src k v} (h : RegsOk s) : RegsOk (s.writeInst src k v) := h.of_frame State.writeInst_frame
theorem RegsOk.writeIntv {src k v} (h : RegsOk s) : RegsOk (s.writeIntv src k v) := h.of_frame State.writeIntv_frame
theorem RegsOk.setLane {i x} (h : RegsOk s) : RegsOk (s.setLane i x) := h.of_partsFrame State.setLane_frame
theorem RegsOk.writeLaneCfg {src i v} (h : RegsOk s) : RegsOk (s.writeLaneCfg src i v) := h.of_frame State.writeLaneCfg_frame
theorem RegsOk.noteLink {k} (h : RegsOk s) : RegsOk (s.noteLink k) := h.of_regsFrame State.noteLink_frame
theorem RegsOk.noteLane {i} (h : RegsOk s) : RegsOk (s.noteLane i) := h.of_regsFrame State.noteLane_frame
theorem RegsOk.laneLol {i} (h : RegsOk s) : RegsOk (s.laneLol i) := h.of_frame State.laneLol_frame
theorem RegsOk.receiverUnlock {n} (h : RegsOk s) : RegsOk (s.receiverUnlock n) := h.of_frame State.receiverUnlock_frame
theorem RegsOk.laneRetrain {i} (h : RegsOk s) : RegsOk (s.laneRetrain i) := h.of_frame State.laneRetrain_frame
theorem RegsOk.showTag (h : RegsOk s) : RegsOk s.showTag := h.of_regsFrame State.showTag_frame
theorem RegsOk.enterLst {st} (h : RegsOk s) : RegsOk (s.enterLst st) := h.of_frame State.enterLst_frame
theorem RegsOk.showHold (h : RegsOk s) : RegsOk s.showHold := h.of_regsFrame State.showHold_frame
theorem RegsOk.portStart {p} (h : RegsOk s) : RegsOk (s.portStart p) := h.of_regsFrame State.portStart_frame
theorem RegsOk.showNpt (h : RegsOk s) : RegsOk s.showNpt := h.of_regsFrame State.showNpt_frame
theorem RegsOk.writeNptCtrl {src v} (h : RegsOk s) : RegsOk (s.writeNptCtrl src v) := h.of_frame State.writeNptCtrl_frame
theorem RegsOk.holdRk {k} (h : RegsOk s) : RegsOk (s.holdRk k) := h.of_frame State.holdRk_frame
theorem RegsOk.trgKill {t'} (h : RegsOk s) : RegsOk (s.trgKill t') := h.of_frame State.trgKill_frame
theorem RegsOk.writePrbs {src i v} (h : RegsOk s) : RegsOk (s.writePrbs src i v) := h.of_frame State.writePrbs_frame
theorem RegsOk.writeQual {src v} (h : RegsOk s) : RegsOk (s.writeQual src v) := h.of_frame State.writeQual_frame
theorem RegsOk.setRxr {r x} (h : RegsOk s) : RegsOk (s.setRxr r x) := h.of_partsFrame State.setRxr_frame
theorem RegsOk.rxDescOut {r len port cls entry flags frameLen time st} (h : RegsOk s) :
    RegsOk (s.rxDescOut r len port cls entry flags frameLen time st) :=
  h.of_frame State.rxDescOut_frame
theorem RegsOk.writeRxrTail {src r v} (h : RegsOk s) : RegsOk (s.writeRxrTail src r v) := h.of_frame State.writeRxrTail_frame
theorem RegsOk.writeSrvCfg {src k v} (h : RegsOk s) : RegsOk (s.writeSrvCfg src k v) := h.of_frame State.writeSrvCfg_frame
theorem RegsOk.writeSteer {src v} (h : RegsOk s) : RegsOk (s.writeSteer src v) := h.of_frame State.writeSteer_frame
theorem RegsOk.writeSteerEntry {src e v} (h : RegsOk s) : RegsOk (s.writeSteerEntry src e v) :=
  h.of_frame State.writeSteerEntry_frame
theorem RegsOk.writeTxeq {src i v} (h : RegsOk s) : RegsOk (s.writeTxeq src i v) := h.of_frame State.writeTxeq_frame
theorem RegsOk.writeTxrCfg {src r v} (h : RegsOk s) : RegsOk (s.writeTxrCfg src r v) := h.of_frame State.writeTxrCfg_frame
theorem RegsOk.queueCtrl {p f'} (h : RegsOk s) : RegsOk (s.queueCtrl p f') := h.of_partsFrame State.queueCtrl_frame
theorem RegsOk.setTxr {r x} (h : RegsOk s) : RegsOk (s.setTxr r x) := h.of_partsFrame State.setTxr_frame
theorem RegsOk.calWrite {p c slots pre} (h : RegsOk s) : RegsOk (s.calWrite p c slots pre) :=
  h.of_partsFrame State.calWrite_frame
theorem RegsOk.changeRole {leading} (h : RegsOk s) : RegsOk (s.changeRole leading) := h.of_frame State.changeRole_frame
theorem RegsOk.changeRoutes {d} (h : RegsOk s) : RegsOk (s.changeRoutes d) := h.of_partsFrame State.changeRoutes_frame
theorem RegsOk.checkBank {bank} (h : RegsOk s) : RegsOk (s.checkBank bank) := h.of_frame State.checkBank_frame
theorem RegsOk.checkFair {p} (h : RegsOk s) : RegsOk (s.checkFair p) := h.of_frame State.checkFair_frame
theorem RegsOk.checkSeq {p h'} (h : RegsOk s) : RegsOk (s.checkSeq p h') := h.of_frame State.checkSeq_frame
theorem RegsOk.joinMatch {port flow} (h : RegsOk s) : RegsOk (s.joinMatch port flow) := h.of_regsFrame State.joinMatch_frame
theorem RegsOk.giveRing {n cap bytes} (h : RegsOk s) : RegsOk (s.giveRing n cap bytes) := h.of_frame State.giveRing_frame
theorem RegsOk.steerDrop (h : RegsOk s) : RegsOk s.steerDrop := h.of_frame State.steerDrop_frame
theorem RegsOk.rxrVector {r} (h : RegsOk s) : RegsOk (s.rxrVector r) := h.of_partsFrame State.rxrVector_frame
theorem RegsOk.closeSdiFrame {n} (h : RegsOk s) : RegsOk (s.closeSdiFrame n) := h.of_frame State.closeSdiFrame_frame
theorem RegsOk.wake {src} (h : RegsOk s) : RegsOk (s.wake src) := h.of_frame State.wake_frame
theorem RegsOk.coldBoot {cause} (h : RegsOk s) : RegsOk (s.coldBoot cause) := h.of_frame State.coldBoot_frame
theorem RegsOk.commitPipe {t' v} (h : RegsOk s) : RegsOk (s.commitPipe t' v) := h.of_frame State.commitPipe_frame
theorem RegsOk.compareX {own theirs} (h : RegsOk s) : RegsOk (s.compareX own theirs) := h.of_frame State.compareX_frame
theorem RegsOk.countTx {p bytes} (h : RegsOk s) : RegsOk (s.countTx p bytes) := h.of_regsFrame State.countTx_frame
theorem RegsOk.creditReturn {dchip dport n} (h : RegsOk s) : RegsOk (s.creditReturn dchip dport n) :=
  h.of_partsFrame State.creditReturn_frame
theorem RegsOk.updAnswer {op session st} (h : RegsOk s) : RegsOk (s.updAnswer op session st) :=
  h.of_partsFrame State.updAnswer_frame
theorem RegsOk.giveMsg {n part slot m} (h : RegsOk s) : RegsOk (s.giveMsg n part slot m) := h.of_frame State.giveMsg_frame
theorem RegsOk.directBoundary {n phase} (h : RegsOk s) : RegsOk (s.directBoundary n phase) :=
  h.of_frame State.directBoundary_frame
theorem RegsOk.tellPartner {t' st} (h : RegsOk s) : RegsOk (s.tellPartner t' st) := h.of_partsFrame State.tellPartner_frame
theorem RegsOk.showLayer {v l shown cause run} (h : RegsOk s) : RegsOk (s.showLayer v l shown cause run) :=
  h.of_regsFrame State.showLayer_frame
theorem RegsOk.dropOrigin {origin} (h : RegsOk s) : RegsOk (s.dropOrigin origin) := h.of_frame State.dropOrigin_frame
theorem RegsOk.dropStaged (h : RegsOk s) : RegsOk s.dropStaged := h.of_frame State.dropStaged_frame
theorem RegsOk.duplicate {q e tag} (h : RegsOk s) : RegsOk (s.duplicate q e tag) := h.of_frame State.duplicate_frame
theorem RegsOk.endOld {old e} (h : RegsOk s) : RegsOk (s.endOld old e) := h.of_partsFrame State.endOld_frame
theorem RegsOk.setPtpPort {k p x} (h : RegsOk s) : RegsOk (s.setPtpPort k p x) := h.of_partsFrame State.setPtpPort_frame
theorem RegsOk.exchange {k p d} (h : RegsOk s) : RegsOk (s.exchange k p d) := h.of_frame State.exchange_frame
theorem RegsOk.findHead (h : RegsOk s) : RegsOk s.findHead := h.of_regsFrame State.findHead_frame
theorem RegsOk.flagSources {d} (h : RegsOk s) : RegsOk (s.flagSources d) := h.of_partsFrame State.flagSources_frame
theorem RegsOk.flashProgramFails (h : RegsOk s) : RegsOk s.flashProgramFails := h.of_frame State.flashProgramFails_frame
theorem RegsOk.followTakes (h : RegsOk s) : RegsOk s.followTakes := h.of_partsFrame State.followTakes_frame
theorem RegsOk.giveUp {core run} (h : RegsOk s) : RegsOk (s.giveUp core run) := h.of_partsFrame State.giveUp_frame
theorem RegsOk.setFreq {f'} (h : RegsOk s) : RegsOk (s.setFreq f') := h.of_regsFrame State.setFreq_frame
theorem RegsOk.showSel {r} (h : RegsOk s) : RegsOk (s.showSel r) := h.of_frame State.showSel_frame
theorem RegsOk.holdOver {mean} (h : RegsOk s) : RegsOk (s.holdOver mean) := h.of_frame State.holdOver_frame
theorem RegsOk.huntNext {n} (h : RegsOk s) : RegsOk (s.huntNext n) := h.of_partsFrame State.huntNext_frame
theorem RegsOk.secondTick (h : RegsOk s) : RegsOk s.secondTick := h.of_regsFrame State.secondTick_frame
theorem RegsOk.steerTick (h : RegsOk s) : RegsOk s.steerTick := h.of_frame State.steerTick_frame
theorem RegsOk.imageSel {n src frame} (h : RegsOk s) : RegsOk (s.imageSel n src frame) := h.of_partsFrame State.imageSel_frame
theorem RegsOk.slip {n} (h : RegsOk s) : RegsOk (s.slip n) := h.of_frame State.slip_frame
theorem RegsOk.joinLinkUp {port} (h : RegsOk s) : RegsOk (s.joinLinkUp port) := h.of_frame State.joinLinkUp_frame
theorem RegsOk.journalAlone (h : RegsOk s) : RegsOk s.journalAlone := h.of_frame State.journalAlone_frame
theorem RegsOk.readdFails {k} (h : RegsOk s) : RegsOk (s.readdFails k) := h.of_frame State.readdFails_frame
theorem RegsOk.setStopped {req b} (h : RegsOk s) : RegsOk (s.setStopped req b) := h.of_partsFrame State.setStopped_frame
theorem RegsOk.layerFlag {v} (h : RegsOk s) : RegsOk (s.layerFlag v) := h.of_partsFrame State.layerFlag_frame
theorem RegsOk.storeTrain {k id} (h : RegsOk s) : RegsOk (s.storeTrain k id) := h.of_partsFrame State.storeTrain_frame
theorem RegsOk.refusedOrder {q seq tag st} (h : RegsOk s) : RegsOk (s.refusedOrder q seq tag st) :=
  h.of_frame State.refusedOrder_frame
theorem RegsOk.movePhase {ps} (h : RegsOk s) : RegsOk (s.movePhase ps) := h.of_partsFrame State.movePhase_frame
theorem RegsOk.showMismatch {d} (h : RegsOk s) : RegsOk (s.showMismatch d) := h.of_regsFrame State.showMismatch_frame
theorem RegsOk.notOwner {op session} (h : RegsOk s) : RegsOk (s.notOwner op session) := h.of_frame State.notOwner_frame
theorem RegsOk.outputsBoundary {d} (h : RegsOk s) : RegsOk (s.outputsBoundary d) := h.of_frame State.outputsBoundary_frame
theorem RegsOk.ownerSpoke (h : RegsOk s) : RegsOk s.ownerSpoke := h.of_frame State.ownerSpoke_frame
theorem RegsOk.setQueue {p q a} (h : RegsOk s) : RegsOk (s.setQueue p q a) := h.of_frame State.setQueue_frame
theorem RegsOk.postEvent {k data} (h : RegsOk s) : RegsOk (s.postEvent k data) := h.of_frame State.postEvent_frame
theorem RegsOk.writeCounters (h : RegsOk s) : RegsOk s.writeCounters := h.of_partsFrame State.writeCounters_frame
theorem RegsOk.ptpSend {k p kind} (h : RegsOk s) : RegsOk (s.ptpSend k p kind) := h.of_frame State.ptpSend_frame
theorem RegsOk.ptpRelay {k p m} (h : RegsOk s) : RegsOk (s.ptpRelay k p m) := h.of_frame State.ptpRelay_frame
theorem RegsOk.ptpRequest {k p kind tx} (h : RegsOk s) : RegsOk (s.ptpRequest k p kind tx) := h.of_frame State.ptpRequest_frame
theorem RegsOk.recalStep {i offset larger} (h : RegsOk s) : RegsOk (s.recalStep i offset larger) :=
  h.of_partsFrame State.recalStep_frame
theorem RegsOk.showLag (h : RegsOk s) : RegsOk s.showLag := h.of_regsFrame State.showLag_frame
theorem RegsOk.receiverLock {n rate} (h : RegsOk s) : RegsOk (s.receiverLock n rate) := h.of_frame State.receiverLock_frame
theorem RegsOk.refclkSettle (h : RegsOk s) : RegsOk s.refclkSettle := h.of_frame State.refclkSettle_frame
theorem RegsOk.relayArb {h' relay} (h : RegsOk s) : RegsOk (s.relayArb h' relay) := h.of_frame State.relayArb_frame
theorem RegsOk.repairRow {b} (h : RegsOk s) : RegsOk (s.repairRow b) := h.of_frame State.repairRow_frame
theorem RegsOk.replicate {h' relay} (h : RegsOk s) : RegsOk (s.replicate h' relay) := h.of_frame State.replicate_frame
theorem RegsOk.routeReady {req} (h : RegsOk s) : RegsOk (s.routeReady req) := h.of_frame State.routeReady_frame
theorem RegsOk.restoreMems {x} (h : RegsOk s) : RegsOk (s.restoreMems x) := h.of_partsFrame State.restoreMems_frame
theorem RegsOk.resumeLink {k} (h : RegsOk s) : RegsOk (s.resumeLink k) := h.of_partsFrame State.resumeLink_frame
theorem RegsOk.resyncEnd (h : RegsOk s) : RegsOk s.resyncEnd := h.of_regsFrame State.resyncEnd_frame
theorem RegsOk.retirePage {page bank row} (h : RegsOk s) : RegsOk (s.retirePage page bank row) :=
  h.of_frame State.retirePage_frame
theorem RegsOk.sendRtp {k i ts seq marker} (h : RegsOk s) : RegsOk (s.sendRtp k i ts seq marker) :=
  h.of_frame State.sendRtp_frame
theorem RegsOk.sendX {d obs} (h : RegsOk s) : RegsOk (s.sendX d obs) := h.of_frame State.sendX_frame
theorem RegsOk.senderOff {k i} (h : RegsOk s) : RegsOk (s.senderOff k i) := h.of_frame State.senderOff_frame
theorem RegsOk.setCore {below} (h : RegsOk s) : RegsOk (s.setCore below) := h.of_frame State.setCore_frame
theorem RegsOk.setMask {v masked} (h : RegsOk s) : RegsOk (s.setMask v masked) := h.of_partsFrame State.setMask_frame
theorem RegsOk.showDisagree {o} (h : RegsOk s) : RegsOk (s.showDisagree o) := h.of_frame State.showDisagree_frame
theorem RegsOk.showEligible {p} (h : RegsOk s) : RegsOk (s.showEligible p) := h.of_frame State.showEligible_frame
theorem RegsOk.showTemp {sensor t'} (h : RegsOk s) : RegsOk (s.showTemp sensor t') := h.of_regsFrame State.showTemp_frame
theorem RegsOk.startCores (h : RegsOk s) : RegsOk s.startCores := h.of_regsFrame State.startCores_frame
theorem RegsOk.takeCounts (h : RegsOk s) : RegsOk s.takeCounts := h.of_frame State.takeCounts_frame
theorem RegsOk.toLost (h : RegsOk s) : RegsOk s.toLost := h.of_frame State.toLost_frame

/-! ### The operations and commands of Machine/Ingress -/

theorem RegsOk.resizeRing {n frames pages load} (h : RegsOk s) : SomeRegsOk (s.resizeRing n frames pages load) :=
  .ite (.some (.ite h.set.set.setInput.irq h.set.set.setInput)) .none

theorem RegsOk.growRing {n frames f} (h : RegsOk s) : SomeRegsOk (s.growRing n frames f) := by
  unfold State.growRing
  extract_lets
  split
  · split
    · rename_i e
      exact .some (h.resizeRing _ e).setInput
    · exact .none
  · split
    · rename_i e
      exact .some (h.resizeRing _ e).setInput
    · exact .none

theorem RegsOk.enterRepeat {n} (h : RegsOk s) : RegsOk (s.enterRepeat n) := h.setInState.setFld.noteLoss.awlState

theorem RegsOk.decideFormat {n f} (h : RegsOk s) : RegsOk (s.decideFormat n f) := by
  unfold State.decideFormat
  extract_lets s1 _ _ _ s2
  have h1 : RegsOk s1 := h.setFld.setFld.setFld
  have h2 : SomeRegsOk s2 := .ite (.some h1) h1.growRing
  clear_value s2
  split
  · exact h1.setInput.loseInput
  · split
    · exact h1.setInput.loseInput
    · rename_i t
      have ht := h2 _ rfl
      exact .ite ht.setInput.setFlag.setInState.setInput ht.setInput.setFlag

theorem RegsOk.receiveAnc {n m deembed p} (h : RegsOk s) : RegsOk (s.receiveAnc n m deembed p) := by
  unfold State.receiveAnc
  extract_lets s1
  have h1 : RegsOk s1 := by
    dsimp only [s1]
    split
    · exact .ite h.setFld h
    · exact h
  exact .ite (.ite h1.count (.ite h1.setInput h1.count.irq)) h1

theorem execSdiLineReceive_regsOk {n crcErrors anc} (h : RegsOk s) :
    Completes RegsOk (execSdiLineReceive n crcErrors anc s) := by
  unfold execSdiLineReceive
  extract_lets _ _ s1 _ s2
  have h1 : RegsOk s1 := .ite h.count h
  have h2 : RegsOk s2 := .foldl h1 fun _ _ h2 => h2.receiveAnc
  split
  · exact .next (.ite h2.setInput h2)
  · exact .next h

theorem execSdiFrameEnd_regsOk {n m pid skewed} (h : RegsOk s) : Completes RegsOk (execSdiFrameEnd n m pid skewed s) := by
  unfold execSdiFrameEnd
  split
  · extract_lets s1 s2 _ s3 _ _ s4 _ _ s5 s6 s7
    have h1 : RegsOk s1 := h.closeSdiFrame
    have h2 : RegsOk s2 := by
      dsimp only [s2]
      split
      · exact h1.set
      · exact h1
    have h3 : RegsOk s3 := h2.setFlag
    have h4 : RegsOk s4 := h3.setInput
    have h5 : RegsOk s5 := h4.setInput
    have h6 : RegsOk s6 := h5.setFlag
    have h7 : RegsOk s7 := h6.setFlag
    split
    · exact .next h4.loseInput
    · split
      · exact .next h7.decideFormat
      · exact .next h4
  · exact .next h

theorem RegsOk.videoPacket {m legB ext num samples} (h : RegsOk s) : RegsOk (s.videoPacket m legB ext num samples) :=
  .ite h.count.setFlag (.ite h.count.setFlag.count (.ite h.count.setFlag.setInput.count (.ite h.count.setFlag.setInput.setInput
      h.count.setFlag.setInput.setInput)))

theorem execVideoFrameClose_regsOk {m num form diff} (h : RegsOk s) :
    Completes RegsOk (execVideoFrameClose m num form diff s) := by
  unfold execVideoFrameClose
  extract_lets _ _ _ _ s1 _ _ _ _ s2 s3 _ s4 s5
  have h1 : RegsOk s1 := .ite h h.count
  have h2 : RegsOk s2 := h1.setInput
  have h3 : RegsOk s3 := h2.set
  have h4 : RegsOk s4 := h3.setFlag
  have h5 : RegsOk s5 := .ite h2 (.ite h4.irq h4)
  split
  · exact .next (.ite h5.decideFormat h5)
  · exact .next h

theorem RegsOk.takeFrame {n x} (h : RegsOk s) : s.takeFrame n = some (x, t) → RegsOk t := by
  unfold State.takeFrame
  extract_lets
  split
  · rintro ⟨⟩
    exact h.setInput
  · split
    · rintro ⟨⟩
      exact h.setInput
    · simp

theorem RegsOk.boundaryWithout {n} (h : RegsOk s) : RegsOk (s.boundaryWithout n) :=
  .ite (.ite h.enterRepeat.showLast h.enterBlack) (.ite (.ite h.setFld.showLast h.enterBlack) h.setInput)

theorem RegsOk.syncChoose {n} (h : RegsOk s) : RegsOk (s.syncChoose n) := by
  unfold State.syncChoose
  extract_lets x safe hyst t step y s1
  have h1 : RegsOk s1 := .ite h.slip.setInput h
  refine .ite h.setInput.showLast (.ite ?_ ?_)
  · exact .ite h.boundaryWithout (.ite h.setInput (.ite h.slip.showLast h.boundaryWithout))
  · split
    · exact h1.boundaryWithout
    · have ht := h1.takeFrame ‹_›
      exact .ite ht.boundaryWith ht.boundaryWithout

/-- `State.resizeRing` and `State.input` stand behind variables, so that the kernel compares them by name. -/
theorem RegsOk.applyPending {n} (h : RegsOk s) : RegsOk (s.applyPending n) := by
  obtain ⟨resize, hr⟩ : ∃ f, f = State.resizeRing := ⟨_, rfl⟩
  obtain ⟨input, hi⟩ : ∃ f, f = State.input := ⟨_, rfl⟩
  unfold State.applyPending
  rw [← hr, ← hi]
  extract_lets _ _ s1 _ s2
  have h1 : RegsOk s1 := .ite h.freeRing.setInput h
  have h2 : RegsOk s2 := by
    dsimp only [s2]
    split
    · exact h1
    · exact h1.setInput
  split
  · exact h2
  · split
    · rename_i e
      rw [hr] at e
      exact (h2.resizeRing _ e).setInput
    · exact h2

theorem RegsOk.inputBoundary {n d phase} (h : RegsOk s) : RegsOk (s.inputBoundary n d phase) := by
  unfold State.inputBoundary
  extract_lets _ s1 _ s2 _ s3 s4 s5 _ s6 s7
  have h1 : RegsOk s1 := .ite h.freeRing h
  have h2 : RegsOk s2 := h1.setInput
  have h3 : RegsOk s3 := h2.setInput
  have h4 : RegsOk s4 := h3.setFlag
  have h5 : RegsOk s5 := h2.set
  have h6 : RegsOk s6 := .ite h5.setInput.loseInput h5.setFlag
  have h7 : RegsOk s7 := h6.applyPending
  exact .ite h1 (.ite h4.slip.showLast (.ite h2 (.ite h5.setInState.setInput (.ite h7.setInput (.ite h7.directBoundary
      h7.syncChoose)))))

theorem RegsOk.reserveIn {old new} (h : RegsOk s) : SomeRegsOk (s.reserveIn old new) := .ite (.some h.setFld) .none

theorem RegsOk.enableInput {n v} (h : RegsOk s) : RegsOk (s.enableInput n v) := by
  unfold State.enableInput
  extract_lets
  split
  · exact h.refuse
  · split
    · exact h.refuse
    · split
      · exact h.refuse
      · split
        · exact h.refuse
        · split
          · exact h.refuse
          · rename_i t e
            have ht := h.reserveIn _ e
            split
            · exact h.refuse
            · rename_i e1
              exact (SomeRegsOk.ite (.some ht) ht.resizeRing _ e1).store.set.set.setInput.setInState

theorem RegsOk.drainInput {n} (h : RegsOk s) : RegsOk (s.drainInput n) := by
  unfold State.drainInput
  extract_lets s1
  have h1 : RegsOk s1 := by
    dsimp only [s1]
    split
    · rename_i e
      exact h.reserveIn _ e
    · exact h
  exact h1.setInState

theorem RegsOk.inputOff {n killed} (h : RegsOk s) : RegsOk (s.inputOff n killed) :=
  .ite (.setFlag (.ite h.setInput.set.setFlag.setInState.freeRing h.setInput.set.setFlag.setInState)) (.ite
      h.setInput.set.setFlag.setInState.freeRing h.setInput.set.setFlag.setInState)

theorem RegsOk.killInput {n} (h : RegsOk s) : RegsOk (s.killInput n) := by
  unfold State.killInput
  extract_lets s1
  have h1 : RegsOk s1 := by
    dsimp only [s1]
    split
    · exact h
    · split
      · rename_i e
        exact h.reserveIn _ e
      · exact h
  exact h1.inputOff

theorem RegsOk.changeInput {n v} (h : RegsOk s) : RegsOk (s.changeInput n v) := by
  unfold State.changeInput
  extract_lets
  split
  · exact h.refuse
  · split
    · exact h.refuse
    · split
      · exact h.refuse
      · rename_i t e
        have ht := SomeRegsOk.ite h.resizeRing (.some h) _ e
        exact .ite ht.setInput.store.setInput.loseInput ht.setInput.store

theorem RegsOk.writeInCfg {src n v} (h : RegsOk s) : RegsOk (s.writeInCfg src n v) :=
  .guarded h (fun _ h1 => .ite h1.refuse (.ite h1.refuse (.ite h1.killInput.store (.ite (.ite h1.refuse (.ite h1.enableInput
      h1.changeInput)) (.ite h1.store h1.drainInput.store)))))

theorem RegsOk.writeInSync {src n v} (h : RegsOk s) : RegsOk (s.writeInSync src n v) := by
  unfold State.writeInSync
  refine .guarded h fun s1 h1 => ?_
  extract_lets
  split
  · exact h1.refuse
  · split
    · exact h1.refuse
    · split
      · exact h1.store
      · split
        · exact h1.refuse
        · rename_i e
          exact (h1.growRing _ e).setInput.store

theorem RegsOk.writePd {src m v} (h : RegsOk s) : RegsOk (s.writePd src m v) := by
  unfold State.writePd
  refine .guarded h fun s1 h1 => ?_
  extract_lets _ _ _ _ _ _ s2
  have h2 : RegsOk s2 := h1.store
  split
  · exact h1.refuse
  · split
    · exact h1.refuse
    · split
      · split
        · exact h1.refuse
        · rename_i e
          exact (h1.growRing _ e).store
      · exact .ite h2.setInput h2

theorem RegsOk.writeAfl {src a v} (h : RegsOk s) : RegsOk (s.writeAfl src a v) := by
  unfold State.writeAfl
  refine .guarded h fun s1 h1 => ?_
  extract_lets
  split
  · exact h1.refuse
  · split
    · exact h1.refuse
    · split
      · exact h1.refuse
      · split
        · exact h1.refuse
        · split
          · exact h1.refuse
          · rename_i e
            exact (h1.reserveIn _ e).store

theorem RegsOk.writeAflFmt {src a v} (h : RegsOk s) : RegsOk (s.writeAflFmt src a v) := by
  unfold State.writeAflFmt
  refine .guarded h fun s1 h1 => ?_
  extract_lets
  split
  · exact h1.refuse
  · split
    · exact h1.refuse
    · split
      · exact h1.refuse
      · rename_i e
        exact (h1.reserveIn _ e).store

theorem RegsOk.writeSdiCfg {src n v} (h : RegsOk s) : RegsOk (s.writeSdiCfg src n v) := by
  unfold State.writeSdiCfg
  refine .guarded h fun s1 h1 => ?_
  extract_lets
  split
  · exact h1.refuse
  · split
    · exact h1.refuse
    · split
      · exact h1.refuse
      · rename_i t e
        have ht := SomeRegsOk.ite h1.reserveIn (.some h1) _ e
        exact .ite ht.store.setInput ht.store

theorem RegsOk.writeIngCtrl {src v} (h : RegsOk s) : RegsOk (s.writeIngCtrl src v) :=
  .guarded h (fun _ h1 => .ite h1.store.setFlag.setFlag (.setFlag (.setFlag (.foldl h1.store fun _ _ h2 => .ite
      h2.drainInput.setFlag h2))))

/-! ### The operations and commands of Machine/Twill -/

theorem RegsOk.hold {h'} (h : RegsOk s) : RegsOk (s.hold h').1 := by
  unfold State.hold
  split
  · exact h.count
  · exact h.upd

theorem RegsOk.showPort {p} (h : RegsOk s) : RegsOk (s.showPort p) := by
  unfold State.showPort
  extract_lets _ _ _ _ s1 s2 s3
  have h1 : RegsOk s1 := h.set
  have h2 : RegsOk s2 := h1.set
  have h3 : RegsOk s3 := h2.setFld
  split
  · exact h3
  · exact h3.set

theorem RegsOk.showRoute {r} (h : RegsOk s) : RegsOk (s.showRoute r) :=
  .foldl (.foldl h fun _ _ h1 => h1.showCtx.showPort) fun _ _ h1 => h1.showPort

theorem RegsOk.deliver {flow} (h : RegsOk s) : RegsOk (s.deliver flow) := by
  unfold State.deliver
  extract_lets
  split
  · exact h.upd
  · split
    · exact h.upd
    · split
      · exact h
      · exact h.upd.set

theorem RegsOk.settle {req} (h : RegsOk s) : RegsOk (s.settle req) := by
  unfold State.settle
  split
  · exact h
  · exact .deliver (.showRoute (.foldl h.setRoutes fun _ _ h1 => h1.calWrite))

theorem RegsOk.release {req} (h : RegsOk s) : RegsOk (s.release req) := by
  unfold State.release
  split
  · exact h
  · exact .ite h.setRoutes (.deliver (.showRoute (.foldl h.setRoutes fun _ _ h1 => .ite h1.setPort h1.setPort)))

theorem RegsOk.takeCell {p fromLace h' view} (h : RegsOk s) : RegsOk (s.takeCell p fromLace h' view) :=
  .ite (.ite (.replicate (.ite h.count h.count)) (.checkSeq (.ite h.count h.count))) (.ite (.ite h.count h.count) (.ite (.ite
      (.setPort (.ite h.count h.count)) (.relayArb (.ite h.count h.count))) (.upd (.setPort (.ite h.count h.count)))))

theorem execCellReceive_regsOk {p fromLace h' e0 e1 e2 e3 view} (h : RegsOk s) :
    Completes RegsOk (execCellReceive p fromLace h' e0 e1 e2 e3 view s) := by
  unfold execCellReceive
  extract_lets _ _ s1 s2
  have h1 : RegsOk s1 := h.count
  have h2 : RegsOk s2 := by
    dsimp only [s2]
    split
    · exact .ite h1.count h1
    · exact h1
  exact .next (.ite h (.ite h2.count.irq (.ite h2.count h2.takeCell)))

theorem execArbitratedQueueOpen_regsOk {p branch dchip dport} (h : RegsOk s) :
    Completes RegsOk (execArbitratedQueueOpen p branch dchip dport s) := by
  unfold execArbitratedQueueOpen
  refine .next ?_
  split
  · exact h.answer
  · exact h.setQueue.setFld.answer

theorem RegsOk.placeCell {p q h'} (h : RegsOk s) : RegsOk (s.placeCell p q h') := h.setPort.setQueue

theorem RegsOk.sendArb {p q a} (h : RegsOk s) : RegsOk (s.sendArb p q a) := by
  unfold State.sendArb
  split
  · exact h
  · extract_lets s1 _ s2 s3
    have h1 : RegsOk s1 := h.setQueue
    have h2 : RegsOk s2 := by
      dsimp only [s2]
      split
      · exact h1
      · exact h1.setQueue.placeCell
    have h3 : RegsOk s3 := h2.count
    exact .ite h3.setPort h3.upd.relayArb

theorem RegsOk.sendMedia {p c h'} (h : RegsOk s) : RegsOk (s.sendMedia p c h') :=
  .ite h.setPort.count.count h.setPort.count.count.replicate

theorem execCalendarSlot_regsOk {p slot ready} (h : RegsOk s) : Completes RegsOk (execCalendarSlot p slot ready s) := by
  unfold execCalendarSlot
  split
  · exact .next h
  · extract_lets s1 _ _ s2
    have h1 : RegsOk s1 := h.showEligible
    have h2 : RegsOk s2 := h1.setPort
    split
    · exact .next h1.sendMedia
    · split
      · exact .next h2
      · exact .next h2.sendArb.showEligible

theorem RegsOk.shedFrom {k l} (h : RegsOk s) : RegsOk (s.shedFrom k l) := by
  induction l generalizing s with
  | nil => exact h
  | cons r rs ih =>
    unfold State.shedFrom
    exact .ite h (.ite (ih h) (ih h.setStopped.count.event))

theorem RegsOk.shedLink {k} (h : RegsOk s) : RegsOk (s.shedLink k) := h.shedFrom

theorem RegsOk.endRoute {r} (h : RegsOk s) : RegsOk (s.endRoute r) := by
  unfold State.endRoute
  split
  · split
    · extract_lets s1 s2 s3
      have h1 : RegsOk s1 := h.setRoutes
      have h2 : RegsOk s2 := .foldl h1 fun _ _ h2 => h2.calWrite
      have h3 : RegsOk s3 := h2.showRoute
      split
      · exact .ite h3 h3.release
      · exact h3
    · exact .ite h.setRoutes h.release
  · exact h

theorem RegsOk.setSpare {quad spare v} (h : RegsOk s) : RegsOk (s.setSpare quad spare v) := h.setFld

theorem RegsOk.unitMoved {u x oldState} (h : RegsOk s) : RegsOk (s.unitMoved u x oldState) :=
  h.setFld.setFld.upd.setFld.setFld.setFld.setFld.setFld.setFlag.count.event

theorem RegsOk.spareFailed {u x} (h : RegsOk s) : RegsOk (s.spareFailed u x) := h.setFld.setFld.upd.setFld.setFld

theorem RegsOk.steer (h : RegsOk s) : RegsOk s.steer := by
  unfold State.steer
  split
  · exact h
  · exact .event (.unitMoved (.setFld (.setFld (.ite h.upd.setFld.setFld.setSpare h.upd.setFld.setFld))))

theorem execCalendarPeriodBoundary_regsOk (h : RegsOk s) : Completes RegsOk (execCalendarPeriodBoundary s) :=
  .next (.foldl (.foldl (.steer (.applyDelivery (.mapPorts (.foldl h fun _ _ h1 => h1.endRoute)))) fun _ _ h1 => h1.resumeLink)
      fun _ _ h1 => h1.checkFair)

theorem RegsOk.startSwap {p spare} (h : RegsOk s) : RegsOk (s.startSwap p spare) :=
  .ite h.refuseSwap (.ite h.refuseSwap (.ite h.refuseSwap (.ite h.refuseSwap (.answer (.ite
      h.upd.setFld.setSpare.setFld.setFld.setFld h.upd.setFld.setSpare.setFld.setFld.setFld.irq)))))

theorem RegsOk.startSwapBack {p passed} (h : RegsOk s) : RegsOk (s.startSwapBack p passed) :=
  .ite h.refuseSwap (.ite h.refuseSwap (.ite h.refuseSwap h.upd.setFld.setFld.setFld.setFld.answer))

theorem RegsOk.writeSwapCtrl {src v passed} (h : RegsOk s) : RegsOk (s.writeSwapCtrl src v passed) :=
  .guarded h (fun _ h1 => .ite h1.store.startSwap (.ite h1.store.startSwapBack h1.store))

theorem execSwapSpareFail_regsOk (h : RegsOk s) : Completes RegsOk (execSwapSpareFail s) := by
  unfold execSwapSpareFail
  refine .next ?_
  split
  · exact h
  · exact .ite h h.upd.setFld.setSpare.spareFailed.setFld.setFld

theorem RegsOk.replaceRoute {p r} (h : RegsOk s) : RegsOk (s.replaceRoute p r) := by
  unfold State.replaceRoute
  extract_lets s1
  have h1 : RegsOk s1 := h.release
  split
  · exact h1.awlFabric
  · split
    · exact h1.awlFabric
    · exact .ite h1.upd.settle h1.upd

theorem RegsOk.writeV6 {src r i v} (h : RegsOk s) : RegsOk (s.writeV6 src r i v) :=
  .guarded h (fun _ h1 => .ite h1.refuse h1.store)

/-! ### The operations and commands of Machine/Queues -/

theorem RegsOk.flushFrom {q l} (h : RegsOk s) : RegsOk (s.flushFrom q l) := by
  induction l generalizing s with
  | nil => exact h
  | cons e es ih =>
    unfold State.flushFrom
    exact .ite (ih h.upd.writeCq) (ih h)

theorem RegsOk.giveTake {r} (h : RegsOk s) : RegsOk (s.giveTake r) := .foldl h fun _ _ h1 => .ite h1.setSvc.wakeSvc h1

theorem RegsOk.noteComplete (h : RegsOk s) : RegsOk s.noteComplete := by
  unfold State.noteComplete
  refine .foldl h fun s1 n h1 => ?_
  split
  · exact h1.setSvc.wakeSvc
  · exact h1

/-! ### The operations and commands of Machine/Takes -/

theorem RegsOk.requestRoute {src form v egress pre replaces} (h : RegsOk s) :
    RegsOk (s.requestRoute src form v egress pre replaces).1 := by
  unfold State.requestRoute
  split
  · exact h.setRoutes
  · split
    · exact h
    · extract_lets _ s1
      have h1 : RegsOk s1.1 := h.upd.hold
      split <;> exact h1

theorem RegsOk.postTake {t' time st superseded} (h : RegsOk s) : RegsOk (s.postTake t' time st superseded) := by
  unfold State.postTake
  extract_lets _ s1
  have h1 : RegsOk s1 := by
    dsimp only [s1]
    split
    · split
      · exact h.postRecord
      · exact .ite h h.emit
    · exact h
  exact h1.giveTake

theorem RegsOk.dropRoute {req} (h : RegsOk s) : RegsOk (s.dropRoute req) := by
  unfold State.dropRoute
  split
  · exact h
  · exact .ite h h.release

theorem RegsOk.refuseTake {t' st} (h : RegsOk s) : RegsOk (s.refuseTake t' st) :=
  .ite h.dropTake.dropRoute.postTake h.dropTake.dropRoute.postTake.memberRefused

theorem RegsOk.supersede {t'} (h : RegsOk s) : RegsOk (s.supersede t') :=
  .ite h.dropTake.dropRoute.drawFree.postTake h.dropTake.dropRoute.drawFree.postTake.memberArmed

theorem RegsOk.refuseAtomic {t' st} (h : RegsOk s) : RegsOk (s.refuseAtomic t' st) := .foldl h fun _ _ h1 => h1.refuseTake

theorem RegsOk.refuseWhole {t' st} (h : RegsOk s) : RegsOk (s.refuseWhole t' st) := .refuseTake (.ite h.refuseAtomic h)

theorem RegsOk.ownRefusal {t' st} (h : RegsOk s) : RegsOk (s.ownRefusal t' st) :=
  .ite h.tellPartner.setTake.dropRoute.showPending h.tellPartner.refuseWhole

theorem RegsOk.preStage {o mismatch} (h : RegsOk s) : RegsOk (s.preStage o mismatch).1 := by
  unfold State.preStage
  extract_lets d src v fr nochange t' old form cur alone y x s1 s2
  have hx : RegsOk x.1 := by
    dsimp only [x]
    split
    · exact h
    · exact h.requestRoute
  clear_value old
  have h2 : RegsOk s2 := by
    dsimp only [s2]
    split
    · exact hx.supersede
    · exact hx
  clear_value s2 x
  split
  · exact hx
  · exact .ite h2.setTakes.showPending.tellPartner h2.setTakes.showPending

theorem RegsOk.refuseOrder {o st} (h : RegsOk s) : RegsOk (s.refuseOrder o st) :=
  .ite h.setTakes.tellPartner h.tellPartner.postTake.memberRefused

theorem RegsOk.doTake {o} (h : RegsOk s) : RegsOk (s.doTake o).1 := by
  unfold State.doTake
  split
  · exact h
  · exact h.preStage

theorem RegsOk.doTakes {l} (h : RegsOk s) : RegsOk (s.doTakes l) := by
  induction l generalizing s with
  | nil => exact h
  | cons o os ih =>
    unfold State.doTakes
    refine ih ?_
    split
    · exact h.doTake
    · exact h.doTake.refuseOrder

theorem RegsOk.doMembers {atomic l} (h : RegsOk s) : RegsOk (s.doMembers atomic l) := by
  unfold State.doMembers
  split
  · split
    · exact h.doTakes
    · exact .foldl h fun _ _ h1 => h1.refuseOrder
  · exact h.doTakes

theorem RegsOk.takeMembers {key sig salvo ctx single atomic dirtyOk replayed time members} (h : RegsOk s) :
    RegsOk (s.takeMembers key sig salvo ctx single atomic dirtyOk replayed time members) :=
  .doMembers (.foldl (.foldl h.upd fun _ _ h1 => .ite h1 h1.emit) fun _ _ h1 => .ite h1.memberArmed h1.memberRefused)

theorem execForwardedTake_regsOk {key salvo atomic time members} (h : RegsOk s) :
    Completes RegsOk (execForwardedTake key salvo atomic time members s) := by
  unfold execForwardedTake
  refine .next ?_
  split
  · exact .ite h.answer (.ite h.answer h.answer.takeMembers)
  · split
    · exact h.answer
    · exact .ite h.answer (.ite h.answer (.ite h.answer h.upd.showJournal.answer.takeMembers))

theorem execPartnerAdmissionResult_regsOk {key sig pos st} (h : RegsOk s) :
    Completes RegsOk (execPartnerAdmissionResult key sig pos st s) := by
  unfold execPartnerAdmissionResult
  refine .next ?_
  split
  · exact h
  · exact .ite (.ite h.setTake h.refuseWhole) h.refuseWhole

theorem RegsOk.takesAlone (h : RegsOk s) : RegsOk s.takesAlone :=
  .foldl h fun _ _ h1 => .ite h1.refuseWhole (.ite h1.setTake h1)

theorem RegsOk.supersedeSame {n} (h : RegsOk s) : RegsOk (s.supersedeSame n) := .foldl h fun _ _ h1 => .ite h1.supersede h1

theorem RegsOk.moveTake {t' k} (h : RegsOk s) : RegsOk (s.moveTake t' k) := by
  unfold State.moveTake
  extract_lets _ s1 s2
  have h1 : RegsOk s1 := h.setTakes
  have h2 : RegsOk s2 := by
    dsimp only [s2]
    refine .foldl h1 fun s3 q h2 => ?_
    split
    · exact h2
    · exact h2.setRoutes
  exact .foldl h2 fun _ _ h3 => h3.supersedeSame

theorem execTakeArmed_regsOk {key sig pos} (h : RegsOk s) : Completes RegsOk (execTakeArmed key sig pos s) := by
  unfold execTakeArmed
  refine .next ?_
  split
  · exact h
  · exact .ite h (.memberArmed (.ite h.setTake.moveTake h.setTake))

theorem execRouteSettle_regsOk {req} (h : RegsOk s) : Completes RegsOk (execRouteSettle req s) := by
  unfold execRouteSettle
  refine .next ?_
  split
  · exact .ite h h.settle.routeReady.answer
  · exact h

theorem RegsOk.refuseRequest {req st} (h : RegsOk s) : RegsOk (s.refuseRequest req st) :=
  .answer (.foldl (.foldl h.release fun _ _ h1 => .ite h1.ownRefusal h1) fun _ _ h1 => .ite h1.setOut h1)

theorem execHoldReleaseReport_regsOk {req} (h : RegsOk s) : Completes RegsOk (execHoldReleaseReport req s) := by
  unfold execHoldReleaseReport
  refine .next ?_
  split
  · exact .ite h h.refuseRequest
  · exact h

theorem execRouteHoldTimeout_regsOk {req} (h : RegsOk s) : Completes RegsOk (execRouteHoldTimeout req s) := by
  unfold execRouteHoldTimeout
  refine .next ?_
  split
  · exact .ite h (.ite h.refuseRequest h.release.emit)
  · exact h

theorem RegsOk.rerouteTake {t' v} (h : RegsOk s) : RegsOk (s.rerouteTake t' v) := by
  unfold State.rerouteTake
  split
  · exact h
  · extract_lets s1 _ s2
    have h1 : RegsOk s1 := by
      dsimp only [s1]
      split
      · exact h.release
      · exact h
    have h2 : RegsOk s2.1 := h1.requestRoute
    clear_value s2
    exact h2.setTake

theorem execTakeRouteLost_regsOk {key sig pos v} (h : RegsOk s) : Completes RegsOk (execTakeRouteLost key sig pos v s) := by
  unfold execTakeRouteLost
  refine .next ?_
  split
  · exact h
  · exact h.rerouteTake

theorem RegsOk.routeRetry {n v} (h : RegsOk s) : RegsOk (s.routeRetry n v) := by
  unfold State.routeRetry
  split
  · exact h
  · extract_lets _ _ s1
    have h1 : RegsOk s1.1 := h.requestRoute
    clear_value s1
    split
    · exact h1
    · exact .ite h1.setOut.routeReady h1.setOut

theorem RegsOk.tearDown {req} (h : RegsOk s) : RegsOk (s.tearDown req) :=
  .foldl (.foldl h.release fun _ _ h1 => .ite h1.setTake h1) fun _ _ h1 => .ite h1.loseOutRoute h1

theorem RegsOk.switchTake {t'} (h : RegsOk s) : RegsOk (s.switchTake t') :=
  .postTake (.imageSel (.ite h.dropTake.setFld.setFlag.setFlag h.dropTake.setFld.setFlag.setFlag.setOut.setFlag.endOld.setFlag))

theorem RegsOk.switchTakes {d} (h : RegsOk s) : RegsOk (s.switchTakes d) := .foldl h.changeRoutes fun _ _ h1 => h1.switchTake

theorem execXchkRecordReceive_regsOk {r} (h : RegsOk s) : Completes RegsOk (execXchkRecordReceive r s) := by
  unfold execXchkRecordReceive
  refine .next ?_
  split
  · exact h
  · extract_lets _ s1 s2 _ s3
    have h1 : RegsOk s1 := h.upd
    have h2 : RegsOk s2 := h1.count
    have h3 : RegsOk s3 := .ite h1 h2.upd
    split
    · exact h3
    · exact h3.upd.compareX

/-! ### The operations and commands of Machine/Egress -/

theorem RegsOk.setHealth {a b} (h : RegsOk s) : RegsOk (s.setHealth a b) :=
  .ite h.upd.setFlag.setFlag.setFld.setFld.irq h.upd.setFlag.setFlag.setFld.setFld

theorem RegsOk.health (h : RegsOk s) : RegsOk s.health := h.setHealth

theorem RegsOk.writeHealthCtrl {src v} (h : RegsOk s) : RegsOk (s.writeHealthCtrl src v) :=
  .guarded h (fun _ h1 => .ite h1.refuse h1.upd.store.health)

theorem RegsOk.applyReleases {d} (h : RegsOk s) : RegsOk (s.applyReleases d) := .ite h h.upd.health

theorem RegsOk.realign {d endAt} (h : RegsOk s) : RegsOk (s.realign d endAt) := h.setOtd.setFlag.setFlag.health

theorem RegsOk.extendDomain {d left} (h : RegsOk s) : RegsOk (s.extendDomain d left) := by
  unfold State.extendDomain
  extract_lets s1 s2 s3
  have h1 : RegsOk s1 := h.realign
  have h2 : RegsOk s2 := h1.setFld
  have h3 : RegsOk s3 := h2.event
  split
  · exact h3
  · exact .foldl h3 fun _ _ h4 => h4.moveTake

theorem RegsOk.stepDomains {k left} (h : RegsOk s) : RegsOk (s.stepDomains k left) := .foldl h fun _ _ h1 => h1.extendDomain

theorem RegsOk.startDomain {d} (h : RegsOk s) : RegsOk (s.startDomain d) := h.setOtd.set.setFlag.setFlag.health

theorem RegsOk.reconfigure {d k} (h : RegsOk s) (hk : ∀ s, RegsOk s → RegsOk (k s)) : RegsOk (s.reconfigure d k) :=
  .realign (hk _ h)

theorem RegsOk.writeOtdCfg {src d v} (h : RegsOk s) : RegsOk (s.writeOtdCfg src d v) :=
  .guarded h (fun _ h1 => .ite h1.refuse (.ite (.ite h1.refuse h1.store.setOtd.setFlag.setFlag.health) (.ite (.ite h1.refuse
      h1.store.startDomain) (.ite (.ite h1.refuse (.ite h1.refuse (.reconfigure h1 (fun _ h2 => h2.store)))) h1.store))))

theorem RegsOk.writeOtdPhase {src d v} (h : RegsOk s) : RegsOk (s.writeOtdPhase src d v) :=
  .guarded h (fun _ h1 => .ite h1.refuse (.ite (.ite h1.refuse (.reconfigure h1 (fun _ h2 => h2.store))) h1.store))

theorem RegsOk.askSource {i src v} (h : RegsOk s) : RegsOk (s.askSource i src v).1 := by
  unfold State.askSource
  extract_lets _ s1
  have h1 : RegsOk s1.1 := h.requestRoute
  clear_value s1
  split
  · exact h1
  · exact h1.setSender

theorem RegsOk.writeVsndCfg {src i w v} (h : RegsOk s) : RegsOk (s.writeVsndCfg src i w v) :=
  .guarded h (fun _ h1 => .ite h1.store.stopSender (.ite h1.refuse (.ite h1.refuse (.ite h1.refuse (.ite h1.refuse (.ite
      h1.refuse (.ite h1.refuse (.ite (.ite h1.store.runSender.askSource.answer h1.refuse) h1.store.runSender))))))))

theorem RegsOk.writeVsndSrc {src i w v} (h : RegsOk s) : RegsOk (s.writeVsndSrc src i w v) :=
  .guarded h (fun _ h1 => .ite (.ite h1.askSource.store h1.askSource.refuse) h1.store)

theorem RegsOk.writeSndPort {src k i w} (h : RegsOk s) : RegsOk (s.writeSndPort src k i w) :=
  .guarded h (fun _ h1 => .ite h1.refuse (.ite h1.refuse (.ite h1.refuse (.ite h1.refuse (.ite h1.refuse (.ite
      h1.store.setSender h1.store))))))

theorem RegsOk.reserveOut {old new} (h : RegsOk s) : SomeRegsOk (s.reserveOut old new) := .ite (.some h.setFld) .none

theorem RegsOk.setAsnd {i cfg fmt k} (h : RegsOk s) (hk : ∀ s, RegsOk s → RegsOk (k s)) : RegsOk (s.setAsnd i cfg fmt k) := by
  unfold State.setAsnd
  extract_lets
  split
  · exact h.refuse
  · split
    · exact h.refuse
    · rename_i t e
      have ht := h.reserveOut _ e
      exact .ite (.stopSender (hk _ ht)) (.ite h.refuse (.ite h.refuse (.ite h.refuse (.ite h.refuse (.ite (.runSender (hk _
          ht)) h.refuse)))))

theorem RegsOk.writeAsndCfg {src i w} (h : RegsOk s) : RegsOk (s.writeAsndCfg src i w) :=
  .guarded h (fun _ h1 => .setAsnd h1 (fun _ h2 => h2.store))

theorem RegsOk.writeAsndFmt {src i w} (h : RegsOk s) : RegsOk (s.writeAsndFmt src i w) :=
  .guarded h (fun _ h1 => .setAsnd h1 (fun _ h2 => h2.store))

theorem execSenderStop_regsOk {src k i} (h : RegsOk s) : Completes RegsOk (execSenderStop src k i s) := by
  unfold execSenderStop
  refine .next ?_
  split
  · exact h.writeVsndCfg
  · exact h.writeAsndCfg
  · exact h.writeXsndCfg

theorem RegsOk.senderBoundary {d} (h : RegsOk s) : RegsOk (s.senderBoundary d) := by
  unfold State.senderBoundary
  extract_lets s1
  have h1 : RegsOk s1 := by
    dsimp only [s1]
    refine .foldl h fun s2 e h1 => ?_
    split
    · exact h1
    · split
      · exact h1.senderOff.dropRoute
      · refine .setSender ?_
        split
        · exact h1
        · exact .ite h1.setSender.dropRoute h1
  exact .foldl h1 fun _ _ h2 => .ite h2 (.ite h2.senderOff h2.setSender)

theorem RegsOk.outputOff {n killed} (h : RegsOk s) : RegsOk (s.outputOff n killed) := by
  unfold State.outputOff
  extract_lets s1 s2 _ s3 s4 s5 s6 s7
  have h1 : RegsOk s1 := by
    dsimp only [s1]
    split
    · rename_i e
      exact h.reserveOut _ e
    · exact h
  have h2 : RegsOk s2 := h1.set
  have h3 : RegsOk s3 := h2.setOut
  have h4 : RegsOk s4 := .foldl h3 fun _ _ h4 => .setFlag (.setSender (.ite h4.count h4))
  have h5 : RegsOk s5 := .foldl h4 fun _ _ h5 => h5.setSender
  have h6 : RegsOk s6 := .foldl h5 fun _ _ h6 => h6.setSender
  have h7 : RegsOk s7 := .ite h6.setFlag h6
  exact h7.health

theorem RegsOk.drainTakes {n} (h : RegsOk s) : RegsOk (s.drainTakes n) := .foldl h fun _ _ h1 => h1.refuseTake

theorem RegsOk.drainOutput {n} (h : RegsOk s) : RegsOk (s.drainOutput n) := h.setFld.drainTakes

theorem RegsOk.startOutput {n} (h : RegsOk s) : RegsOk (s.startOutput n) :=
  .health (.foldl (.foldl (.foldl h.set.setOut fun _ _ h1 => h1.setSender.setFlag) fun _ _ h1 => h1.setSender) fun _ _ h1 =>
      h1.setSender)

theorem RegsOk.writeOutCfg {src n v} (h : RegsOk s) : RegsOk (s.writeOutCfg src n v) := by
  unfold State.writeOutCfg
  refine .guarded h fun s1 h1 => ?_
  extract_lets _ _ _ _ s2
  have h2 : RegsOk s2 := h1.store
  split
  · exact h1.refuse
  · split
    · exact h1.refuse
    · split
      · exact h1.drainTakes.store.outputOff
      · split
        · exact h1.refuse
        · split
          · split
            · exact h1.refuse
            · split
              · exact h1.refuse
              · split
                · exact h1.refuse
                · rename_i e
                  exact (h1.reserveOut _ e).store.startOutput
          · exact .ite h1.refuse (.ite h2.setOut.health (.ite h1.drainOutput.store h1.store))

theorem execOutputLine_regsOk {n gaps slips ancDrops} (h : RegsOk s) :
    Completes RegsOk (execOutputLine n gaps slips ancDrops s) := by
  unfold execOutputLine
  refine .next ?_
  extract_lets _ s1 s2 s3 _ s4
  have h1 : RegsOk s1 := .ite h h.count.irq
  have h2 : RegsOk s2 := .ite h1 h1.count.setFlag
  have h3 : RegsOk s3 := .ite h2 h2.count.irq
  have h4 : RegsOk s4 := h3.setOut
  exact .ite h (.ite h4.setFlag h4)

theorem RegsOk.outWrite {src r n k} (h : RegsOk s) (hk : ∀ s, RegsOk s → RegsOk (k s)) : RegsOk (s.outWrite src r n k) :=
  .guarded h (fun _ h1 => .ite h1.refuse (hk _ h1))

theorem RegsOk.writeOutTake {src n v} (h : RegsOk s) : RegsOk (s.writeOutTake src n v) := .outWrite h (fun _ h1 => h1.store)

theorem RegsOk.writeIdent {src n i v} (h : RegsOk s) : RegsOk (s.writeIdent src n i v) := .outWrite h (fun _ h1 => h1.store)

theorem RegsOk.writeOutAud {src n v} (h : RegsOk s) : RegsOk (s.writeOutAud src n v) := by
  unfold State.writeOutAud
  refine .outWrite h fun s1 h1 => ?_
  extract_lets
  split
  · exact h1.refuse
  · split
    · exact h1.store
    · split
      · exact h1.refuse
      · rename_i e
        exact (h1.reserveOut _ e).store

theorem RegsOk.writeOutSdi {src n v} (h : RegsOk s) : RegsOk (s.writeOutSdi src n v) :=
  .outWrite h (fun _ h1 => .ite h1.refuse (.ite h1.refuse h1.store))

theorem RegsOk.writeEgrCtrl {src v} (h : RegsOk s) : RegsOk (s.writeEgrCtrl src v) := by
  unfold State.writeEgrCtrl
  refine .guarded h fun s h => ?_
  extract_lets s1 _ s2 s3 s4
  have h1 : RegsOk s1 := h.store
  have h2 : RegsOk s2 := .foldl h1 fun _ _ h => h.drainOutput.setFlag
  have h3 : RegsOk s3 := h2.setFlag.setFlag
  have h4 : RegsOk s4 := .ite (.foldl h3 fun _ _ h => h.outputOff) h3
  exact .ite h1.setFlag.setFlag.health h4.health

/-! ### The operations and commands of Machine/Directory -/

theorem RegsOk.putDir {flow entry ovf} (h : RegsOk s) : RegsOk (s.putDir flow entry ovf) := h.setDirs.setDir.showDir

theorem RegsOk.dirLose {flow loser} (h : RegsOk s) : RegsOk (s.dirLose flow loser) :=
  .foldl h.count.irq.awlCause fun _ _ h1 => h1.tearDown

theorem RegsOk.applyDir {u ovf} (h : RegsOk s) : RegsOk (s.applyDir u ovf).1 := by
  unfold State.applyDir
  cases u.entry with
  | none => exact .ite h.putDir h
  | some e =>
    dsimp only
    split
    · split
      · exact h
      · dsimp only
        exact h.dirLose.putDir
    · dsimp only
      exact h.putDir

theorem RegsOk.sendUpdate {flow entry} (h : RegsOk s) : RegsOk (s.sendUpdate flow entry).1 := h.set.setDirs.emit

theorem RegsOk.originate {who flow entry ovf} (h : RegsOk s) : RegsOk (s.originate who flow entry ovf) := by
  unfold State.originate
  extract_lets s1 s2 s3 _ _ s4
  have h1 : RegsOk s1.1 := h.applyDir
  have h2 : RegsOk s2.1 := h1.sendUpdate
  have h3 : RegsOk s3 := h2
  have h4 : RegsOk s4 := h3.setDirs
  split
  · exact h.dirResult
  · split
    · exact h3.dirResult
    · split
      · exact h4.setFlag
      · exact h4

theorem RegsOk.dirWrite {who flow e' ovf} (h : RegsOk s) : RegsOk (s.dirWrite who flow e' ovf) :=
  .ite h.dirResult (.ite h.dirResult (.ite h.dirResult h.originate))

theorem RegsOk.dirWithdraw {who flow} (h : RegsOk s) : RegsOk (s.dirWithdraw who flow) :=
  .ite h.dirResult (.ite h.dirResult (.ite h.dirResult h.originate))

theorem RegsOk.writeDirCmd {src v ovf} (h : RegsOk s) : RegsOk (s.writeDirCmd src v ovf) := by
  unfold State.writeDirCmd
  refine .guarded h fun s1 h1 => ?_
  extract_lets
  split
  · exact h1.refuse
  · split
    · exact h1.dirFetch
    · exact h1.answer.dirWrite
    · exact h1.answer.dirWithdraw
    · exact h1.refuse

theorem RegsOk.takeUpdate {u ovf} (h : RegsOk s) : RegsOk (s.takeUpdate u ovf) := h.applyDir.setDirs.emit

theorem RegsOk.takeHeld {n} (h : RegsOk s) : RegsOk (s.takeHeld n) := by
  induction n generalizing s with
  | zero => exact h
  | succ n ih =>
    unfold State.takeHeld
    split
    · exact h
    · exact ih h.setDirs.takeUpdate

theorem RegsOk.receiveUpdate {u ovf} (h : RegsOk s) : RegsOk (s.receiveUpdate u ovf) :=
  .ite h.takeUpdate.takeHeld.showLag (.ite h.setDirs.emit.showLag h)

theorem RegsOk.dirFinish {p} (h : RegsOk s) : RegsOk (s.dirFinish p) :=
  .ite h.setDirs.applyDir.sendUpdate.dirResult h.setDirs.dirResult

theorem execDirAckReceive_regsOk {part seq conflict} (h : RegsOk s) :
    Completes RegsOk (execDirAckReceive part seq conflict s) := by
  unfold execDirAckReceive
  refine .next ?_
  split
  · exact h
  · exact .ite h.dirFinish h.setDirs

theorem execDirAckTimeout_regsOk {seq} (h : RegsOk s) : Completes RegsOk (execDirAckTimeout seq s) := by
  unfold execDirAckTimeout
  refine .next ?_
  split
  · exact h
  · exact h.dirFinish

theorem RegsOk.mergeDir {ovf e'} (h : RegsOk s) : RegsOk (s.mergeDir ovf e') := .ite (.ite h.dirLose h.dirLose.putDir) h.putDir

theorem execDirResyncStart_regsOk {origins} (h : RegsOk s) : Completes RegsOk (execDirResyncStart origins s) :=
  .next (.showLag (.resyncEnd (.foldl (.setDirs (.foldl h.setFlag.setFlag.irq.dropOrigin fun _ _ h1 => h1.mergeDir)) fun _ _
      h1 => h1.emit)))

theorem execDirResyncAnswer_regsOk {origin seq entries updates ovf} (h : RegsOk s) :
    Completes RegsOk (execDirResyncAnswer origin seq entries updates ovf s) := by
  unfold execDirResyncAnswer
  extract_lets s1 _ s2
  have h1 : RegsOk s1 := by
    dsimp only [s1]
    split
    · exact .setDirs (.foldl h.dropOrigin fun _ _ h1 => h1.mergeDir)
    · exact .foldl h fun _ _ h1 => h1.receiveUpdate
  have h2 : RegsOk s2 := h1.setDirs
  exact .next h2.resyncEnd.showLag

/-! ### The operations and commands of Machine/Journal -/

theorem RegsOk.showCores (h : RegsOk s) : RegsOk s.showCores := .foldl h fun _ _ h1 => h1.setFld

theorem RegsOk.journalEntry {e'} (h : RegsOk s) : RegsOk (s.journalEntry e') := by
  unfold State.journalEntry
  exact h.upd.showJournal.showCores

theorem RegsOk.dropEntry {k} (h : RegsOk s) : RegsOk (s.dropEntry k) := h.upd.showJournal.showCores

theorem RegsOk.showQueues (h : RegsOk s) : RegsOk s.showQueues := .foldl h fun _ _ h1 => h1.showQueue

theorem RegsOk.mirrorRefused {k st} (h : RegsOk s) : RegsOk (s.mirrorRefused k st) := by
  unfold State.mirrorRefused
  split
  · exact h
  · extract_lets s1 s2
    have h1 : RegsOk s1 := h.dropEntry
    have h2 : RegsOk s2 := h1.irq.count
    split
    · exact h1.refusedOrder.showQueue
    · split
      · split
        · exact h2.giveResult
        · exact h2
      · exact h1

theorem RegsOk.replayCheck (h : RegsOk s) : RegsOk s.replayCheck := .ite h.setFlag.bootReady.postDones.irq.showQueues h

theorem RegsOk.completeEntry {k final trap pc} (h : RegsOk s) : RegsOk (s.completeEntry k final trap pc) := by
  unfold State.completeEntry
  split
  · exact h
  · exact .ite h (.replayCheck (.showCores (.showJournal (.noteComplete (.postDone (.ite (.giveDone (.ite h.setEntry.count.emit
      h.setEntry.count)) (.ite h.setEntry.count.emit h.setEntry.count)))))))

theorem RegsOk.trapCtx {i t'} (h : RegsOk s) : RegsOk (s.trapCtx i t') := by
  unfold State.trapCtx
  extract_lets _ _ _ s1 s2
  have h1 : RegsOk s1 := h.irq.count.set
  have h2 : RegsOk s2 := h1.endCtx
  split
  · exact .endCtx (.ite h1.setSvc.set.awlCause.setFld.irq h1.setSvc.set.awlCause.setFld)
  · split
    · exact h2.completeEntry
    · exact h2

theorem RegsOk.haltCtx {i} (h : RegsOk s) : RegsOk (s.haltCtx i) := by
  unfold State.haltCtx
  extract_lets _ s1
  have h1 : RegsOk s1 := h.endCtx
  split
  · exact h1.setSvc.setFld
  · exact h1.completeEntry
  · exact h1

theorem RegsOk.writeCqHead {src q v} (h : RegsOk s) : RegsOk (s.writeCqHead src q v) :=
  .guarded h (fun _ h1 => h1.store.flushFrom.showQueue)

theorem RegsOk.writeQCfg {src q v} (h : RegsOk s) : RegsOk (s.writeQCfg src q v) :=
  .guarded h (fun _ h1 => .ite h1.refuse (.ite h1.refuse (.ite h1.store.showQueue.flushAcks.postDones.flushFrom
      h1.store.showQueue)))

theorem RegsOk.writeQBase {src r q v} (h : RegsOk s) : RegsOk (s.writeQBase src r q v) :=
  .guarded h (fun _ h1 => .ite h1.refuse h1.store)

theorem RegsOk.copyEntry {e' replayed} (h : RegsOk s) : RegsOk (s.copyEntry e' replayed) := h.journalEntry.raiseHwm

theorem execJournalMirrorReceive_regsOk {e'} (h : RegsOk s) : Completes RegsOk (execJournalMirrorReceive e' s) := by
  unfold execJournalMirrorReceive
  refine .next ?_
  split
  · exact h.emit
  · exact .ite h.emit (.ite h.emit (.ite h.emit h.copyEntry.emit))

theorem execJournalMirrorReply_regsOk {key st} (h : RegsOk s) : Completes RegsOk (execJournalMirrorReply key st s) := by
  unfold execJournalMirrorReply
  refine .next ?_
  split
  · exact h
  · exact .ite h (.ite h.ackEntry h.mirrorRefused)

theorem execJournalResendTimer_regsOk {key} (h : RegsOk s) : Completes RegsOk (execJournalResendTimer key s) := by
  unfold execJournalResendTimer
  refine .next ?_
  split
  · exact h
  · exact .ite h.emit h

theorem execEntryStart_regsOk {key core} (h : RegsOk s) : Completes RegsOk (execEntryStart key core s) := by
  unfold execEntryStart
  refine .next ?_
  split
  · exact h
  · extract_lets _ _ _ _ s1
    have h1 : RegsOk s1 := h.setEntry
    split
    · exact h
    · split
      · exact h
      · exact h1.setCtx.ready.showCore.showJournal.showCores

theorem execBudgetTrap_regsOk {core} (h : RegsOk s) : Completes RegsOk (execBudgetTrap core s) := by
  unfold execBudgetTrap
  refine .next ?_
  split
  · exact h
  · split
    · exact h.trapCtx
    · exact h

theorem execJournalEntryFree_regsOk (h : RegsOk s) : Completes RegsOk (execJournalEntryFree s) := by
  unfold execJournalEntryFree
  refine .next ?_
  split
  · exact h
  · exact .ite h.dropEntry h

theorem RegsOk.journalReplay {warm entries} (h : RegsOk s) : RegsOk (s.journalReplay warm entries) :=
  .replayCheck (.showQueues (.showCores (.showJournal (.setFld (.setFld (.upd (.foldl (.foldl h.setFlag fun _ _ h1 => .ite h1
      h1.raiseHwm) fun _ _ h1 => h1.copyEntry)))))))

theorem execPartnerRejoin_regsOk {sel applied entries} (h : RegsOk s) :
    Completes RegsOk (execPartnerRejoin sel applied entries s) := by
  unfold execPartnerRejoin
  extract_lets s1 _ s2 s3 s4 _ s5
  have h1 : RegsOk s1 := .foldl h fun _ _ h1 => h1.imageSel.setFld
  have h2 : RegsOk s2 := h1.upd
  have h3 : RegsOk s3 := h2.setFlag
  have h4 : RegsOk s4 := by
    dsimp only [s4]
    refine .foldl h3 fun s6 e h4 => ?_
    split
    · exact .ite h4.copyEntry h4.copyEntry
    · exact .ite h4.setEntry h4
  have h5 : RegsOk s5 := h4.upd
  exact .next h5.showJournal.showCores.showQueues.replayCheck

theorem RegsOk.writeNimCtrl {src v} (h : RegsOk s) : RegsOk (s.writeNimCtrl src v) :=
  .guarded h (fun _ h1 => .ite h1.store.setFlag.setFlag.showQueues (.showQueues (.ite (.setFlag (.killPrograms (.ite
      h1.store.setFlag.setFlag h1.store))) (.ite h1.store.setFlag.setFlag h1.store))))

/-! ### The operations and commands of Machine/Tweed -/

theorem RegsOk.twdTrap {c t'} (h : RegsOk s) : RegsOk (s.twdTrap c t') := h.setTwd.setFld.set.irq.awlState

theorem RegsOk.twdEnd {c x} (h : RegsOk s) : RegsOk (s.twdEnd c x) := .ite h.setTwd.set.set h.setTwd.set

theorem RegsOk.bundle {c op b} (h : RegsOk s) : RegsOk (s.bundle c op b) := by
  unfold State.bundle
  extract_lets _ _ _ _ _ _ _ _ s1 s2
  have h1 : RegsOk s1 := .ite h.setFlag.irq h
  have h2 : RegsOk s2 := .ite h1.setFlag h1
  split
  · exact h
  · split
    · exact h.twdTrap
    · split
      · exact h2.twdEnd
      · exact h2.setTwd

theorem RegsOk.writeBtxCfg {src b v} (h : RegsOk s) : RegsOk (s.writeBtxCfg src b v) := by
  unfold State.writeBtxCfg
  refine .guarded h fun s1 h1 => ?_
  extract_lets
  split
  · exact h1.refuse
  · split
    · exact h1.refuse
    · split
      · exact h1.refuse
      · rename_i e
        exact (h1.reserveOut _ e).pendTwd

theorem RegsOk.writeBrxCfg {src r v h'} (h : RegsOk s) : RegsOk (s.writeBrxCfg src r v h') := by
  unfold State.writeBrxCfg
  refine .guarded h fun s1 h1 => ?_
  extract_lets
  split
  · exact h1.refuse
  · split
    · exact h1.refuse
    · rename_i t e
      have ht := h1.reserveIn _ e
      exact .ite (.ite ht.hold.upd.dropRoute.pendTwd h1.count.refuse) (.ite ht.upd.dropRoute.pendTwd ht.pendTwd)

theorem RegsOk.writeCore {src r c v} (h : RegsOk s) : RegsOk (s.writeCore src r c v) := .guarded h (fun _ h1 => h1.pendTwd)

theorem RegsOk.windowOpen {src k} (h : RegsOk s) (hk : ∀ s, RegsOk s → RegsOk (k s)) : RegsOk (s.windowOpen src k) :=
  .ite h.irq (hk _ h)

theorem RegsOk.writeShadow {src c y a l v} (h : RegsOk s) : RegsOk (s.writeShadow src c y a l v) :=
  .windowOpen h (fun _ h1 => h1.setTwd.setFlag.answer)

theorem RegsOk.writeImem {src c a v} (h : RegsOk s) : RegsOk (s.writeImem src c a v) :=
  .windowOpen h (fun _ h1 => h1.setTwd.answer)

theorem execTweedSampleWrite_regsOk {core slot n v kind asp} (h : RegsOk s) :
    Completes RegsOk (execTweedSampleWrite core slot n v kind asp s) := by
  unfold execTweedSampleWrite
  refine .next ?_
  split
  · exact h.bankSample
  · exact h.bankSample.count.irq
  · exact h.bankSample

theorem RegsOk.twdApply {c} (h : RegsOk s) : RegsOk (s.twdApply c) :=
  .setFld (.setFlag (.setFlag (.foldl h.setTwd fun _ _ h1 => .ite h1.set h1)))

theorem RegsOk.showTbmis {c} (h : RegsOk s) : RegsOk (s.showTbmis c) := .foldl h fun _ _ h1 => h1.setFlag

theorem RegsOk.startRun {c j filled st} (h : RegsOk s) : RegsOk (s.startRun c j filled st) := h.showTbmis.setTwd.set.setFld

theorem execTweedRunStart_regsOk {core j filled} (h : RegsOk s) : Completes RegsOk (execTweedRunStart core j filled s) := by
  unfold execTweedRunStart
  refine .next ?_
  extract_lets _ _ due _ s1 s2 _ _ _ drop
  have h1 : RegsOk s1 := .ite h.twdApply h
  have h2 : RegsOk s2 := .ite h1.count.setFlag.irq h1
  have hd : RegsOk drop := h2.setTwd
  refine .ite h (.ite (.ite h2.startRun hd) (.ite h2.startRun (.ite ?_ hd)))
  exact .ite h2.startRun (.ite hd.setFld hd.setTwd)

theorem execTweedRunDeadline_regsOk {core uncorr} (h : RegsOk s) : Completes RegsOk (execTweedRunDeadline core uncorr s) :=
  .next (.ite h (.ite (.irq (.count (.ite h.setTwd.event h.setTwd))) (.awlCause (.irq (.count (.ite h.setTwd.event
      h.setTwd))))))

theorem RegsOk.killCore {c} (h : RegsOk s) : RegsOk (s.killCore c) := .ite h h.setTwd.setFlag.setFld.awlUnstated

theorem RegsOk.writeTwdCtrl {src v} (h : RegsOk s) : RegsOk (s.writeTwdCtrl src v) := by
  unfold State.writeTwdCtrl
  refine .guarded h fun s h => ?_
  extract_lets s1 s2 s3 s4
  have h1 : RegsOk s1 := h.store
  have h2 : RegsOk s2 := h1.setFlag.setFlag
  have h3 : RegsOk s3 := .foldl h2 fun _ _ h => .ite h.setFld (.ite h.setFld h)
  have h4 : RegsOk s4 := .ite (.foldl h3 fun _ _ h => h.killCore) h3
  exact .ite h1.setFlag.setFlag h4.twdIdle

/-! ### The operations and commands of Machine/AudioPorts -/

theorem RegsOk.showFill {tx n} (h : RegsOk s) : RegsOk (s.showFill tx n) := h.setFld

theorem RegsOk.aspReserve {tx n want} (h : RegsOk s) : SomeRegsOk (s.aspReserve tx n want) := by
  have hr : SomeRegsOk (if tx then s.reserveOut (s.sect tx n).held want else s.reserveIn (s.sect tx n).held want) :=
    .ite h.reserveOut h.reserveIn
  intro t e
  obtain ⟨u, hu, rfl⟩ := Option.map_eq_some_iff.mp e
  exact (hr u hu).setSect

theorem RegsOk.aspRelease {tx n} (h : RegsOk s) : RegsOk (s.aspRelease tx n) := by
  unfold State.aspRelease
  split
  · rename_i e
    exact h.aspReserve _ e
  · exact h

theorem RegsOk.aspChecks {tx n cfg rate} (h : RegsOk s) : OkRegsOk (s.aspChecks tx n cfg rate) := by
  unfold State.aspChecks
  extract_lets
  split
  · exact .error
  · split
    · exact .error
    · split
      · exact .error
      · split
        · exact .error
        · split
          · exact .error
          · rename_i e
            exact .ok (h.aspReserve _ e)

theorem RegsOk.aspBegin {tx n} (h : RegsOk s) : RegsOk (s.aspBegin tx n) := .ite h.setSect.setAspState h.setSect.setAspState

theorem RegsOk.aspToOff {tx n} (h : RegsOk s) : RegsOk (s.aspToOff tx n) := h.aspRelease.setSect.set.setFlag.aspIdle

theorem RegsOk.aspDrain {tx n} (h : RegsOk s) : RegsOk (s.aspDrain tx n) := h.setSect.setFlag.setAspState

theorem RegsOk.aspStop {tx n} (h : RegsOk s) : RegsOk (s.aspStop tx n) := h.aspToOff.set.aspEvent

theorem RegsOk.aspRearm {tx n rate} (h : RegsOk s) : RegsOk (s.aspRearm tx n rate) := by
  unfold State.aspRearm
  split
  · exact h.setFld.answer
  · rename_i e
    exact (h.aspChecks _ e).setFlag.setFld.setSect.setAspState.answer

theorem RegsOk.writeAspCfg {src tx n v} (h : RegsOk s) : RegsOk (s.writeAspCfg src tx n v) := by
  unfold State.writeAspCfg
  refine .guarded h fun s1 h1 => ?_
  extract_lets _ _ _ _ _ s2
  have h2 : RegsOk s2 := h1.store
  split
  · exact h1.aspStop.answer
  · split
    · exact h1.refuse
    · split
      · exact h1.refuse
      · split
        · exact h1.refuse
        · split
          · split
            · exact h1.refuse
            · split
              · exact h1.store
              · split
                · exact h1.refuse
                · split
                  · exact h1.refuse
                  · rename_i e
                    exact (h1.aspChecks _ e).store.aspBegin
          · exact .ite h2.aspDrain (.ite h2.aspRearm h2)

theorem RegsOk.writeAspFmt {src tx n v} (h : RegsOk s) : RegsOk (s.writeAspFmt src tx n v) :=
  .guarded h (fun _ h1 => .ite h1.refuse (.ite h1.refuse (.ite h1.refuse (.ite h1.refuse h1.store))))

theorem RegsOk.writeAspMask {src tx n v} (h : RegsOk s) : RegsOk (s.writeAspMask src tx n v) :=
  .guarded h (fun _ h1 => .ite h1.refuse h1.store.setFlag)

theorem RegsOk.eachSect {f} (h : RegsOk s) (hf : ∀ s x2 x3, RegsOk s → RegsOk (f s x2 x3)) : RegsOk (s.eachSect f) :=
  .foldl h fun _ _ h1 => .foldl h1 fun _ _ h2 => .ite h2 (hf _ _ _ h2)

theorem RegsOk.writeAspCtrl {src v} (h : RegsOk s) : RegsOk (s.writeAspCtrl src v) :=
  .guarded h (fun _ h1 => .ite h1.store.setFlag.setFlag (.aspIdle (.ite (.eachSect h1.store.setFlag.setFlag (fun _ _ _ h2 =>
      h2.aspStop)) (.eachSect h1.store.setFlag.setFlag (fun _ _ _ h2 => .ite h2 h2.aspDrain)))))

theorem RegsOk.aspApplyMask {tx n} (h : RegsOk s) : RegsOk (s.aspApplyMask tx n) := h.setSect.set.setFlag

theorem RegsOk.aspTxFrame {n ps} (h : RegsOk s) : RegsOk (s.aspTxFrame n ps) := by
  unfold State.aspTxFrame
  extract_lets _ s1 _ s2 s3 _ s4 s5 s6
  have h1 : RegsOk s1 := .ite h.setFlag.aspIrq h.setFlag
  have h2 : RegsOk s2 := .foldl h1 fun _ _ h2 => h2.setSect
  have h3 : RegsOk s3 := h2.aspApplyMask
  have h4 : RegsOk s4 := .foldl h1 fun _ _ h4 => .ite h4.setSect h4.setSect.aspPush
  have h5 : RegsOk s5 := h4.aspApplyMask
  have h6 : RegsOk s6 := .ite h5 h5.aspPull
  exact .ite h3.aspSend.aspCount h6.aspSend.aspCount.showFill

theorem RegsOk.aspRxFrame {n f ps} (h : RegsOk s) : RegsOk (s.aspRxFrame n f ps) :=
  .showFill (.aspCount (.ite (.setSect (.aspApplyMask (.foldl h fun _ _ h1 => .ite h1.setSect h1.setSect.aspPull))) (.aspPush
      (.aspApplyMask (.foldl h fun _ _ h1 => .ite h1.setSect h1.setSect.aspPull)))))

theorem RegsOk.aspFault {tx n code} (h : RegsOk s) : RegsOk (s.aspFault tx n code) :=
  .ite h.count (.ite h.setSect.setAspState.setFld.count.setFld.aspEvent.showFill h)

/-! ### The operations and commands of Machine/Last -/

theorem RegsOk.laneQual {synths} (h : RegsOk s) : RegsOk (s.laneQual synths) := by
  unfold State.laneQual
  extract_lets s1 _ _ s2
  have h1 : RegsOk s1 := .foldl h fun _ _ h1 => .ite h1.setFlag.setFlag (.eachSect h1.setFlag.setFlag (fun _ _ _ h2 => .ite
      h2.aspFault h2))
  have h2 : RegsOk s2 := h1.setFlag
  exact .ite h2 (.ite h2.health h2.irq.health)

theorem RegsOk.refit (h : RegsOk s) : RegsOk s.refit := .ite h.setLst h.setSigned.setSigned.setFld.setLst.setFlag

theorem RegsOk.refLost {r fault} (h : RegsOk s) : RegsOk (s.refLost r fault) :=
  .ite h (.ite h.setFlag.setFlag.setFld.setFld.setFld.setFld.count.irq.setLst
      h.setFlag.setFlag.setFld.setFld.setFld.setFld.count.irq)

theorem RegsOk.takeTag {k tag} (h : RegsOk s) : RegsOk (s.takeTag k tag) :=
  .foldl h fun _ _ h1 => .ite h1 (.showTag (.ite (.ite h1.set.irq h1.set) (.refLost (.ite h1.set.irq h1.set))))

theorem RegsOk.alignTo {r phase} (h : RegsOk s) : RegsOk (s.alignTo r phase) :=
  .ite h.setFlag.set.setFlag.set (.ite h.setFlag.set.setFlag.setFlag.irq.set (.ite h.setFlag.set.setFlag.set
      h.setFlag.set.setFlag.setFlag.set.set))

theorem RegsOk.switchTo {r phase} (h : RegsOk s) : RegsOk (s.switchTo r phase) :=
  .ite h.showSel h.showSel.setLst.alignTo.enterLst

theorem execLastEvaluation_regsOk {o} (h : RegsOk s) : Completes RegsOk (execLastEvaluation o s) := by
  unfold execLastEvaluation
  extract_lets s1 s2 _ s3 s4
  have h1 : RegsOk s1 := .ite h.setFreq h
  have h2 : RegsOk s2 := h1.showDisagree
  have h3 : RegsOk s3 := h2.setFlag.setLst
  have h4 : RegsOk s4 := by
    dsimp only [s4]
    split
    · exact h2
    · exact .ite h3.holdOver (.ite h3.showSel h3)
    · exact .ite h2.setFlag.setFld.setLst (.ite (.setLst (.ite h2.setFlag.setFld.irq h2.setFlag.setFld)) (.switchTo (.ite
        h2.setFlag.setFld.irq h2.setFlag.setFld)))
  exact .next h4.laneQual

theorem execSlewStep_regsOk {phase} (h : RegsOk s) : Completes RegsOk (execSlewStep phase s) := by
  unfold execSlewStep
  refine .next ?_
  split
  · exact h
  · extract_lets _ _ _ s1 _ s2
    have h1 : RegsOk s1 := h.movePhase
    have h2 : RegsOk s2 := h1.set
    split
    · exact .switchTo (.ite h2 h2.event)
    · exact .ite h2.setFlag.set.setLst h2

theorem RegsOk.writeLstCtrl {src v} (h : RegsOk s) : RegsOk (s.writeLstCtrl src v) :=
  .guarded h (fun _ h1 => .ite h1.refuse (.ite h1.store.set.setLst.setFlag.set.enterLst (.ite (.ite h1.store.setLst.enterLst
      h1.store.set.setFld.setLst.enterLst.showHold) h1.store)))

theorem RegsOk.writeRefCfg {src r v} (h : RegsOk s) : RegsOk (s.writeRefCfg src r v) :=
  .guarded h (fun _ h1 => .ite h1.refuse (.ite (.ite h1.refuse (.ite h1.store.refLost h1.store)) h1.store.refLost))

theorem RegsOk.writeLstRange {src r i v} (h : RegsOk s) : RegsOk (s.writeLstRange src r i v) :=
  .guarded h (fun _ h1 => .ite h1.refuse h1.store)

/-! ### The operations and commands of Machine/NetTime -/

theorem RegsOk.trgFire {t'} (h : RegsOk s) : RegsOk (s.trgFire t') := by
  unfold State.trgFire
  extract_lets _ _ s1 s2
  have h1 : RegsOk s1 := by
    dsimp only [s1]
    split
    · exact h.setGpio
    · exact h.setGpio
    · exact h.setGpio
    · exact h.setGpio.setTrg
    · exact h
  have h2 : RegsOk s2 := h1.setFld
  exact .ite h2.irq h2

theorem RegsOk.trgLate {t' now} (h : RegsOk s) : RegsOk (s.trgLate t' now) := by
  unfold State.trgLate
  extract_lets _ _ s1 s2 s3
  have h1 : RegsOk s1 := h.set
  have h2 : RegsOk s2 := h1.setFlag.irq
  have h3 : RegsOk s3 := h2.setFld.count
  split
  · exact h.setFlag
  · split
    · exact h3.trgFire.trgPass
    · exact h3.trgPass
    · exact h3.trgShift

theorem RegsOk.writeTrg {src t' v} (h : RegsOk s) : RegsOk (s.writeTrg src t' v) :=
  .guarded h (fun _ h1 => .ite h1.refuse (.ite (.ite h1.refuse (.ite h1.trgKill.answer h1.disarm.answer)) (.ite h1.store (.ite
      h1.refuse (.ite h1.refuse (.ite h1.refuse h1.store.setTrg.setFld.setFld.trgLate))))))

theorem RegsOk.writeTrgTime {src r t' v} (h : RegsOk s) : RegsOk (s.writeTrgTime src r t' v) :=
  .guarded h (fun _ h1 => .ite h1.refuse (.ite h1.refuse h1.store))

theorem RegsOk.stepTb {k t'} (h : RegsOk s) : RegsOk (s.stepTb k t') :=
  .ite (.foldl (.foldl h.setTb.count.event.stepDomains fun _ _ h1 => .ite h1.setCap h1) fun _ _ h1 => .ite h1.trgLate h1)
      (.foldl h.setTb.count.event.stepDomains fun _ _ h1 => .ite h1.setCap h1)

theorem RegsOk.stepBy {k ns} (h : RegsOk s) : RegsOk (s.stepBy k ns) := h.stepTb

theorem RegsOk.writeTbAdj {src k v} (h : RegsOk s) : RegsOk (s.writeTbAdj src k v) :=
  .guarded h (fun _ h1 => .ite h1.refuse (.ite h1.refuse (.ite h1.refuse (.ite (.answer (.ite h1.stepTb h1.startTb)) (.ite
      h1.refuse h1.stepBy.answer)))))

theorem RegsOk.enterSrv {k st} (h : RegsOk s) : RegsOk (s.enterSrv k st) := .ite h.setFld.setServo h.setFld.setServo.refLost

theorem RegsOk.samplesStop {k} (h : RegsOk s) : RegsOk (s.samplesStop k) := .ite h.holdRk.enterSrv.event h

theorem RegsOk.srvStep {k off} (h : RegsOk s) : RegsOk (s.srvStep k off) := .ite h.stepTb h

theorem RegsOk.srvCount {k off} (h : RegsOk s) : RegsOk (s.srvCount k off) :=
  .ite h.setServo.setServo.enterSrv.irq (.ite h.setServo.enterSrv.event h.setServo)

theorem RegsOk.srvSample {k off master} (h : RegsOk s) : RegsOk (s.srvSample k off master) := by
  unfold State.srvSample
  extract_lets _ s1 s2 s3
  have h1 : RegsOk s1 := h.count
  have h2 : RegsOk s2 := h1.set
  have h3 : RegsOk s3 := by
    dsimp only [s3]
    split <;> exact h2.startTb
  exact .ite h (.ite h3.drawRk.enterSrv (.ite h2.srvStep.drawRk.enterSrv h2.srvStep.drawRk.srvCount))

theorem RegsOk.writeFeed {src k v} (h : RegsOk s) : RegsOk (s.writeFeed src k v) :=
  .guarded h (fun _ h1 => .ite h1.srvSample.answer h1.answer)

theorem RegsOk.rampTick {k} (h : RegsOk s) : RegsOk (s.rampTick k) :=
  .ite h (.ite h.setServo (.ite h.setServo h.setServo.setRk))

theorem RegsOk.writeTbCfg {src k v} (h : RegsOk s) : RegsOk (s.writeTbCfg src k v) :=
  .guarded h (fun _ h1 => .ite h1.refuse (.ite h1.refuse (.ite (.ite h1.store.setServo
      h1.store.setServo.enterSrv.setFlag.setServo) (.ite h1.store.setServo.setServo h1.store.setServo.setServo.enterSrv))))

theorem RegsOk.writePtpPort {src i v} (h : RegsOk s) : RegsOk (s.writePtpPort src i v) :=
  .guarded h (fun _ h1 => .ite h1.refuse (.ite h1.refuse (.ite h1.store.samplesStop h1.store)))

theorem RegsOk.writeDelay {src r i v} (h : RegsOk s) : RegsOk (s.writeDelay src r i v) :=
  .guarded h (fun _ h1 => .ite h1.refuse h1.store)

theorem RegsOk.syncTimes {k p t1 t2} (h : RegsOk s) : RegsOk (s.syncTimes k p t1 t2) := .ite h.setPtpPort h.setPtpPort.srvSample

theorem RegsOk.ptpConsume {k p m} (h : RegsOk s) : RegsOk (s.ptpConsume k p m) := by
  unfold State.ptpConsume
  extract_lets _ _ _ _ _ s1 s2
  have h1 : RegsOk s1 := h.count
  have h2 : RegsOk s2 := h.ptpSend
  split
  · exact .ite h (.ite h1 (.ite h.setPtpPort h.syncTimes))
  · split
    · exact .ite h.syncTimes h
    · exact h
  · exact .ite h.ptpSend (.ite h1 h)
  · split
    · exact .ite h.exchange h
    · exact h
  · exact .ite h2 h2.ptpSend
  · split
    · exact .ite h (.ite h.setPtpPort h.exchange)
    · exact h
  · split
    · exact .ite h.exchange h
    · exact h
  · exact .ite h.setFlag h
  · exact h

theorem execAlignEdge_regsOk {k} (h : RegsOk s) : Completes RegsOk (execAlignEdge k s) :=
  .next (.ite h (.ite h.set.setServo.setFlag (.ite h.set.setServo (.ite h.set.setServo.setFlag.irq.stepBy
      h.set.setServo.setFlag.irq))))

theorem RegsOk.readCap {c} (h : RegsOk s) : RegsOk (s.readCap c) := by
  unfold State.readCap
  extract_lets
  split
  · exact h.upd
  · exact h.set.setCap.showCap.upd

theorem RegsOk.writeNtmCtrl {src v} (h : RegsOk s) : RegsOk (s.writeNtmCtrl src v) :=
  .guarded h (fun _ h1 => .ite h1.store.setFlag.setFlag (.ntmIdle (.foldl (.foldl h1.store.setFlag.setFlag fun _ _ h2 =>
      h2.samplesStop) fun _ _ h2 => .ite h2 (.ite h2.trgKill h2.disarm))))

/-! ### The operations and commands of Machine/Ports -/

theorem RegsOk.writePortCfg {src p v} (h : RegsOk s) : RegsOk (s.writePortCfg src p v) :=
  .guarded h (fun _ h1 => .ite h1.refuse (.ite h1.refuse (.ite h1.refuse (.ite h1.refuse (.ite h1.refuse (.ite
      h1.store.portStop.showNpt.answer (.ite (.applyLp (.ite h1.store h1.store.portStart)) (.ite h1.store.setPortState
          h1.store))))))))

theorem RegsOk.sendPtp {p f rest onTime bytes} (h : RegsOk s) : RegsOk (s.sendPtp p f rest onTime bytes) := by
  unfold State.sendPtp
  split
  · exact h.setNetPort.txAbort
  · extract_lets _ s1
    have h1 : RegsOk s1 := h.setNetPort.countTx
    split <;> exact h1.emit

theorem RegsOk.sendCtrl {p f rest} (h : RegsOk s) : RegsOk (s.sendCtrl p f rest) := by
  unfold State.sendCtrl
  extract_lets _ s1 s2
  have h1 : RegsOk s1 := h.setNetPort
  have h2 : RegsOk s2 := h1.countTx
  split <;> exact h2.emit

theorem RegsOk.transmit {p media ptpBytes onTime} (h : RegsOk s) : RegsOk (s.transmit p media ptpBytes onTime) := by
  unfold State.transmit
  extract_lets
  split
  · exact .ite h.countTx h.sendPtp
  · exact h.sendPtp
  · split
    · exact h.countTx
    · split
      · exact h
      · exact .ite h.sendCtrl h

theorem execTxFrameComplete_regsOk {p time} (h : RegsOk s) : Completes RegsOk (execTxFrameComplete p time s) := by
  unfold execTxFrameComplete
  extract_lets _ s1
  have h1 : RegsOk s1 := h.setNetPort
  refine .next ?_
  split
  · exact h
  · split
    · exact h1.writeBack
    · exact h1

theorem execPauseReceive_regsOk {p pfc classes quanta} (h : RegsOk s) :
    Completes RegsOk (execPauseReceive p pfc classes quanta s) :=
  .next (.ite h (.ite (.ite h.count.count.irq h.count) (.setFlag (.setNetPort (.ite h.count.count.irq h.count)))))

theorem RegsOk.rxFill {r port cls entry total time chk first n left} (h : RegsOk s) :
    RegsOk (s.rxFill r port cls entry total time chk first n left) := by
  induction n generalizing s first left with
  | zero => exact h
  | succ n ih => exact ih h.rxDescOut

theorem RegsOk.toRing {r port cls entry chk f} (h : RegsOk s) : RegsOk (s.toRing r port cls entry chk f) :=
  .ite h.count.irq h.rxFill.count.rxrVector

theorem RegsOk.steerCtrl {port cls udp f} (h : RegsOk s) : RegsOk (s.steerCtrl port cls udp f) := by
  unfold State.steerCtrl
  split
  · exact h.count.irq
  · exact .ite (.ite h.steerDrop h.giveRing) (.ite h.toRing h.steerDrop)

theorem RegsOk.takeTx {r l} (h : RegsOk s) : RegsOk (s.takeTx r l) := by
  induction l generalizing s with
  | nil => exact h
  | cons f fs ih =>
    unfold State.takeTx
    have hs : RegsOk (if s.txrSize r ≤ s.fld F.NPT_TXR_HEAD_INDEX r + f.lens.length
        then s.setTxr r { s.txr r with wrapped := !(s.txr r).wrapped } else s) := .ite h.setTxr h
    refine .ite h (ih ?_)
    split
    · exact hs.setFld.ctrlFail
    · exact hs.setFld.queueCtrl

theorem RegsOk.writeTxrTail {src r v frames} (h : RegsOk s) : RegsOk (s.writeTxrTail src r v frames) :=
  .guarded h (fun _ h1 => .ite h1.store.takeTx h1.store)

theorem RegsOk.returnPosted {r n} (h : RegsOk s) : RegsOk (s.returnPosted r n) := by
  induction n generalizing s with
  | zero => exact h
  | succ n ih => exact ih h.rxDescOut

theorem RegsOk.writeRxrCfg {src r v} (h : RegsOk s) : RegsOk (s.writeRxrCfg src r v) :=
  .guarded h (fun _ h1 => .ite h1.refuse (.ite h1.refuse (.store (.ite h1.returnPosted h1))))

theorem RegsOk.writeRingBase {src r i v} (h : RegsOk s) : RegsOk (s.writeRingBase src r i v) :=
  .guarded h (fun _ h1 => .ite h1.refuse h1.store)

theorem RegsOk.xmit {slot j len} (h : RegsOk s) : RegsOk (s.xmit slot j len).1 := by
  unfold State.xmit
  extract_lets
  split
  · exact h
  · split
    · exact h
    · split
      · exact h
      · exact h.queueCtrl

theorem RegsOk.mediaIn {p flow ctx k} (h : RegsOk s) (hk : ∀ x1 s, RegsOk s → RegsOk (k x1 s)) :
    RegsOk (s.mediaIn p flow ctx k) := by
  unfold State.mediaIn
  split
  · exact h.count
  · extract_lets s1
    have h1 : RegsOk s1 := h.joinMatch
    split
    · exact h1.count
    · exact hk _ _ h1

theorem RegsOk.classify {p f} (h : RegsOk s) : RegsOk (s.classify p f) := by
  unfold State.classify
  split
  · exact .mediaIn h (fun _ _ h1 => h1.videoPacket)
  · exact .mediaIn h (fun _ _ h1 => h1.audioPacket)
  · exact .mediaIn h (fun _ _ h1 => h1.ancFlowPacket)
  · exact .steerCtrl (.ite h.queueCtrl h)
  · exact h.count

theorem RegsOk.macIn {p f k} (h : RegsOk s) (hk : ∀ s, RegsOk s → RegsOk (k s)) : RegsOk (s.macIn p f k) :=
  .ite h.count.count.count.irq (.ite h.count.count.count (.ite h.count.count.count (.ite h.count.count.count (.ite
      h.count.count.count.irq (hk _ h.count.count)))))

theorem execPtpMessageReceive_regsOk {p m f} (h : RegsOk s) : Completes RegsOk (execPtpMessageReceive p m f s) := by
  unfold execPtpMessageReceive
  refine .next ?_
  split
  · exact h
  · refine .macIn h fun s1 h1 => ?_
    split
    · exact h1.steerCtrl
    · exact .ite h1.ptpRelay (.ite h1.ptpConsume (.steerCtrl (.ite h1.ptpConsume h1)))

/-! ### The operations and commands of Machine/Vamp -/

theorem RegsOk.showUse (h : RegsOk s) : RegsOk s.showUse := .foldl h fun _ _ h1 => .ite h1 h1.setFld

theorem RegsOk.dropCommit {v} (h : RegsOk s) : RegsOk (s.dropCommit v) := h.setPipe.set.setFlag.setFlag

theorem RegsOk.pipeStop {v killed} (h : RegsOk s) : RegsOk (s.pipeStop v killed) :=
  .vmpIdle (.showUse (.setFlag (.setFlag (.setFld (.setFld (.foldl h.dropCommit.setPipe fun _ _ h1 => h1.set))))))

theorem RegsOk.pipeKill {v} (h : RegsOk s) : RegsOk (s.pipeKill v) := h.pipeStop.irq

theorem RegsOk.pipeDrain {v} (h : RegsOk s) : RegsOk (s.pipeDrain v) := h.dropCommit.setFld

theorem RegsOk.writePipeCfg {src v w} (h : RegsOk s) : RegsOk (s.writePipeCfg src v w) := by
  unfold State.writePipeCfg
  refine .guarded h fun s1 h1 => ?_
  extract_lets _ _ _ s2 s3 _ s4
  have h2 : RegsOk s2 := h1.store
  have h3 : RegsOk s3 := h2.setFld
  have h4 : RegsOk s4 := h3.setPipe
  split
  · exact h1.pipeKill.answer
  · split
    · exact h1.irq.refuse
    · split
      · exact h1.refuse
      · split
        · exact .ite h2 h2.pipeDrain
        · split
          · exact h1.store.showCharge
          · split
            · exact h1.refuse
            · exact h4.setFld.setFlag.showCharge

theorem RegsOk.writeVmpCtrl {src w} (h : RegsOk s) : RegsOk (s.writeVmpCtrl src w) :=
  .guarded h (fun _ h1 => .ite h1.store.setFlag.setFlag (.vmpIdle (.foldl h1.store.setFlag.setFlag fun _ _ h2 => .ite h2 (.ite
      h2.pipeKill (.ite h2.setFlag.pipeDrain h2)))))

theorem RegsOk.pipeStore {src r v k} (h : RegsOk s) (hk : ∀ s, RegsOk s → RegsOk (k s)) : RegsOk (s.pipeStore src r v k) :=
  .guarded h (fun _ h1 => .ite h1.irq.refuse (hk _ h1))

theorem RegsOk.writePipeBg {src v w} (h : RegsOk s) : RegsOk (s.writePipeBg src v w) := .pipeStore h (fun _ h1 => h1.store)

theorem RegsOk.writeLut {src out v i w} (h : RegsOk s) : RegsOk (s.writeLut src out v i w) :=
  .pipeStore h (fun _ h1 => h1.setPipe.answer)

theorem RegsOk.writeSurfGeom {src r m w} (h : RegsOk s) : RegsOk (s.writeSurfGeom src r m w) :=
  .guarded h (fun _ h1 => .ite h1.refuse h1.store)

theorem execSurfGenApply_regsOk (h : RegsOk s) : Completes RegsOk (execSurfGenApply s) := by
  unfold execSurfGenApply
  refine .next ?_
  split
  · exact h
  · exact h.upd.set

theorem RegsOk.layerWrite {v l ws} (h : RegsOk s) : RegsOk (s.layerWrite v l ws).1 := by
  unfold State.layerWrite
  extract_lets
  split
  · exact h
  · split
    · exact h
    · split
      · exact h
      · split
        · exact h
        · split
          · exact h
          · exact h.setPipe.showCharge

theorem RegsOk.commit {mask t'} (h : RegsOk s) : RegsOk (s.commit mask t').1 := by
  unfold State.commit
  extract_lets vs
  clear_value vs
  split
  · exact h
  · split
    · exact h
    · split
      · exact h
      · split
        · exact h.set.irq
        · exact .foldl h fun _ _ h1 => h1.commitPipe

theorem RegsOk.drawLayer {v l} (h : RegsOk s) : RegsOk (s.drawLayer v l).1 := by
  unfold State.drawLayer
  extract_lets _ _ _ _ _ _ _ s1
  have h1 : RegsOk s1 := h.count.irq
  split
  · exact h.showLayer
  · split
    · exact h.setPipe.showLayer
    · split
      · exact h1.showLayer
      · split
        · exact h1.showLayer
        · split <;> exact h1.showLayer

theorem RegsOk.applyCommit {v k} (h : RegsOk s) : RegsOk (s.applyCommit v k).1 := by
  unfold State.applyCommit
  split
  · exact h
  · split
    · exact h
    · split
      · exact h.count.irq.setFlag
      · exact h.setPipe.dropCommit.set.irq

theorem foldl_fst_regsOk {α β : Type} {g : State × β → α → State × β} {z : State × β} {l : List α} (h : RegsOk z.1)
    (hg : ∀ z x, RegsOk z.1 → RegsOk (g z x).1) :
    RegsOk (l.foldl g z).1 := by
  induction l generalizing z with
  | nil => exact h
  | cons x l ih => exact ih (hg z x h)

theorem RegsOk.pipeBoundary {v k} (h : RegsOk s) : RegsOk (s.pipeBoundary v k) := by
  unfold State.pipeBoundary
  extract_lets a x s1 z
  have h1 : RegsOk s1 := h.applyCommit.setPipe
  have hz : RegsOk z.1 := foldl_fst_regsOk h1 fun _ _ h => h.drawLayer
  exact .ite h (RegsOk.ite hz.layerFlag hz).showUse

/-! ### The operations and commands of Machine/Welt -/

theorem RegsOk.carry {k m} (h : RegsOk s) : RegsOk (s.carry k m) := h.setFld.setLink.setFld.setFld

theorem RegsOk.uncarry {k} (h : RegsOk s) : RegsOk (s.uncarry k) := h.setFld.set.upd

theorem RegsOk.linkFall {k reason loud} (h : RegsOk s) : RegsOk (s.linkFall k reason loud) :=
  .ite h.uncarry.set.setFld.count.setLink.noteLink.event h.uncarry.set.setFld.count.setLink

theorem RegsOk.startIdent {k} (h : RegsOk s) : RegsOk (s.startIdent k) :=
  h.uncarry.setLkState.setFld.setFld.setFlag.setFld.setLink.emit

theorem RegsOk.laceHold {k} (h : RegsOk s) : RegsOk (s.laceHold k) := .ite h.setLkState.setFld.setFld.setFld h

theorem RegsOk.laceUnhold {k} (h : RegsOk s) : RegsOk (s.laceUnhold k) := .ite h.setLkState.emit.carry h

theorem RegsOk.stepTo {k rate attempt} (h : RegsOk s) : RegsOk (s.stepTo k rate attempt) :=
  .ite h.setLkState.setFld.setLink.emit h.setLkState.setFld.setLink

theorem RegsOk.stopLink {k reason} (h : RegsOk s) : RegsOk (s.stopLink k reason) :=
  .ite h.setLkState.setFld.noteLink.event.event h.setLkState.setFld.noteLink.event

theorem RegsOk.identDone {k o} (h : RegsOk s) : RegsOk (s.identDone k o) :=
  h.ageRecord.setFld.setFld.setFlag.setFld.setLink.stepTo

theorem execLaceIdentityReceive_regsOk {k o} (h : RegsOk s) : Completes RegsOk (execLaceIdentityReceive k o s) :=
  .next (.ite (.ite (.ite h.setLkState h) (.ite (.stopLink (.ite h.setLkState h)) (.identDone (.ite h.setLkState h)))) (.ite
      (.setLink (.setFld (.ite h.setLkState h))) (.ite h.setLkState h)))

theorem RegsOk.loadTrain {i t'} (h : RegsOk s) : RegsOk (s.loadTrain i t') := .foldl h.set.setLane fun _ _ h1 => h1.set

theorem RegsOk.loadLink {k l} (h : RegsOk s) : RegsOk (s.loadLink k l) := .foldl h fun _ _ h1 => h1.loadTrain

theorem RegsOk.linkComesUp {k m recId} (h : RegsOk s) : RegsOk (s.linkComesUp k m recId) :=
  .ite h.setLkState.setFlag.setFld.carry.setLink.setFld.storeTrain.noteLink.irq.irq
      h.setLkState.setFlag.setFld.carry.setLink.setFld.storeTrain.noteLink.irq

theorem RegsOk.stepFails {k} (h : RegsOk s) : RegsOk (s.stepFails k) :=
  .ite h.setLink.stepTo (.ite h.stepTo (.ite h.linkFall h.setLink.setFld.setFld.loadLink.setLkState))

theorem RegsOk.writeLkCfg {src k v} (h : RegsOk s) : RegsOk (s.writeLkCfg src k v) :=
  .guarded h (fun _ h1 => .ite h1.refuse (.ite h1.refuse (.ite h1.refuse (.ite (.ite h1.store.startIdent h1.store) (.ite
      h1.store (.ite h1.store.linkFall (.ite h1.store.setLkState h1.store.linkFall)))))))

theorem RegsOk.laneFails {k j resent} (h : RegsOk s) : RegsOk (s.laneFails k j resent) :=
  .ite h (.ite (.ite h.readdFails h) (.ite h.linkFall h.carry.setLink.count.count.emit.event.shedLink))

theorem execLaceReaddAttempt_regsOk {k t' q} (h : RegsOk s) : Completes RegsOk (execLaceReaddAttempt k t' q s) := by
  unfold execLaceReaddAttempt
  extract_lets
  refine .next ?_
  split
  · exact h
  · split
    · exact h
    · split
      · exact h.readdFails
      · extract_lets _ s1 s2 s3
        have h1 : RegsOk s1 := h.setLink
        have h2 : RegsOk s2 := h1.loadTrain.carry
        have h3 : RegsOk s3 := by
          dsimp only [s3]
          split
          · exact h2.storeTrain
          · exact h2
        exact h3.noteLink.irq

theorem RegsOk.lkRecal {k j} (h : RegsOk s) : RegsOk (s.lkRecal k j) := .ite h.refuse h.carry.setLink.answer

theorem RegsOk.lkRetrain {k} (h : RegsOk s) : RegsOk (s.lkRetrain k) := .ite h.startIdent.answer h.refuse

theorem RegsOk.writeLkCtrl {src k v} (h : RegsOk s) : RegsOk (s.writeLkCtrl src k v) :=
  .guarded h (fun _ h1 => .ite h1.lkRetrain (.ite h1.lkRecal h1.answer))

theorem execLinkControlCell_regsOk {k credits lost tag} (h : RegsOk s) :
    Completes RegsOk (execLinkControlCell k credits lost tag s) := by
  unfold execLinkControlCell
  extract_lets _ s1 s2
  have h1 : RegsOk s1 := .foldl h fun _ _ h1 => h1.creditReturn
  have h2 : RegsOk s2 := by
    dsimp only [s2]
    split
    · exact h1.laneFails
    · exact h1
  exact .next (.ite h2.takeTag h)

theorem RegsOk.startRecal {i} (h : RegsOk s) : RegsOk (s.startRecal i) := .ite h.lkRecal h.setLane.answer

theorem RegsOk.writeLaneCtrl {src i v} (h : RegsOk s) : RegsOk (s.writeLaneCtrl src i v) :=
  .guarded h (fun _ h1 => .ite h1.laneRetrain (.ite h1.startRecal h1.answer))

theorem RegsOk.showEye {i o} (h : RegsOk s) : RegsOk (s.showEye i o) := by
  unfold State.showEye
  extract_lets s1 _ s2 s3 s4 s5
  have h1 : RegsOk s1 := h.setFld.setFld
  have h2 : RegsOk s2 := .ite h1.setLane h1
  have h3 : RegsOk s3 := .ite h2 (.foldl h2 fun _ _ h3 => h3.set)
  have h4 : RegsOk s4 := .ite h3 h3.count
  have h5 : RegsOk s5 := .ite h4.count h4
  exact .ite h5.count.noteLane.irq h5

theorem execEyeMeasure_regsOk {i o} (h : RegsOk s) : Completes RegsOk (execEyeMeasure i o s) :=
  .next (.ite h (.ite h.showEye.setLane (.ite h.showEye.setLane (.ite h.showEye.setLane.noteLane.event.startRecal.upd
      h.showEye.setLane.noteLane.event))))

/-! ### The operations and commands of Machine/Resilience -/

theorem RegsOk.losePartner {cause} (h : RegsOk s) : RegsOk (s.losePartner cause) :=
  .ite h h.setFld.setFlag.setFlag.setFlag.set.setFld.irq.setRsl.alarm.journalAlone.takesAlone.changeRole.showQueues.emit

theorem RegsOk.fence {step} (h : RegsOk s) : RegsOk (s.fence step) :=
  .ite h (.ite h.setFlag.setFld.setFld.stopWork.alarm.health.emit h.setFlag.setFld.setFld.stopWork.alarm.health)

theorem RegsOk.rejoin (h : RegsOk s) : RegsOk s.rejoin := h.setFlag.set.setFlag.showQueues

theorem RegsOk.writeFence {src v} (h : RegsOk s) : RegsOk (s.writeFence src v) :=
  .guarded h (fun _ h1 => .ite h1.store.fence (.ite h1.store.rejoin h1.store))

theorem RegsOk.checkOutcome {step partner} (h : RegsOk s) : RegsOk (s.checkOutcome step partner) :=
  .ite h.setFld.setFld.upd.fence (.ite h.setFld.setFld.upd h.setFld.setFld.upd.alert)

theorem execSelfCheckDone_regsOk {step} (h : RegsOk s) : Completes RegsOk (execSelfCheckDone step s) := by
  unfold execSelfCheckDone
  refine .next ?_
  split
  · extract_lets s1 _ s2
    have h1 : RegsOk s1 := h.emit.setFld
    have h2 : RegsOk s2 := h1.upd
    split
    · exact h2.checkOutcome
    · exact h2
  · exact h

theorem execSelfCheckResultReceive_regsOk {passed} (h : RegsOk s) : Completes RegsOk (execSelfCheckResultReceive passed s) := by
  unfold execSelfCheckResultReceive
  refine .next ?_
  split
  · exact h
  · exact h.upd
  · exact h.checkOutcome

theorem execSelfCheckResultTimeout_regsOk (h : RegsOk s) : Completes RegsOk (execSelfCheckResultTimeout s) := by
  unfold execSelfCheckResultTimeout
  refine .next ?_
  split
  · exact h.setFld.alert.upd
  · exact h

theorem RegsOk.startUnitSwap {u} (h : RegsOk s) : RegsOk (s.startUnitSwap u) := by
  unfold State.startUnitSwap
  split
  · exact h.noSpare
  · extract_lets s1 _ s2 s3 s4
    have h1 : RegsOk s1 := h.setFld
    have h2 : RegsOk s2 := h1.setRsl
    have h3 : RegsOk s3 := .ite h2.setFld.setFld.answer h1.startSwap
    have h4 : RegsOk s4 := .ite h3 h3.unitStatus
    exact .ite h4.spareLow h4

theorem RegsOk.writeUnitCtrl {src u v} (h : RegsOk s) : RegsOk (s.writeUnitCtrl src u v) := by
  unfold State.writeUnitCtrl
  refine .guarded h fun s1 h1 => ?_
  extract_lets s2
  have h2 : RegsOk s2 := h1.answer
  split
  · exact h2
  · split
    · exact h2.startTest
    · split
      · exact h2.startRetest
      · split
        · exact h2.unitStatus
        · exact .ite h2.startUnitSwap h2

theorem execOfflineTestDone_regsOk {x passed} (h : RegsOk s) : Completes RegsOk (execOfflineTestDone x passed s) :=
  .next (.ite h (.ite h.setRsl.setFld.setFld.setFld (.event (.ite (.ite h.setFld.setFld h.setFld.setFld.setRsl) (.addRepair
      (.ite h.setFld.setFld h.setFld.setFld.setRsl))))))

theorem execHbmPpr_regsOk {bank row page inUse} (h : RegsOk s) : Completes RegsOk (execHbmPpr bank row page inUse s) :=
  .next (.ite (.ite (.ite h h.setRsl) h.retirePage) (.addRepair (.ite h.setRsl.setFld.setFld h.setRsl.setFld)))

theorem execMramScrub_regsOk {corrected rows} (h : RegsOk s) : Completes RegsOk (execMramScrub corrected rows s) := by
  unfold execMramScrub
  extract_lets _ _ _ _ _ _ s1 s2 _ s3 s4
  have h1 : RegsOk s1 := .foldl h fun _ _ h1 => h1.repairRow
  have h2 : RegsOk s2 := h1.setFld
  have h3 : RegsOk s3 := h2.setRsl
  have h4 : RegsOk s4 := h3.setFld
  exact .next (.ite (.ite h4.ageWarn h4) (.ite h3.setFld h3))

theorem RegsOk.drainOver {draining obj kill} (h : RegsOk s) (hkill : ∀ s, RegsOk s → RegsOk (kill s)) :
    RegsOk (s.drainOver draining obj kill) := .ite (.event (.count (hkill _ h))) h

theorem execDrainBoundExpire_regsOk {target} (h : RegsOk s) : Completes RegsOk (execDrainBoundExpire target s) := by
  unfold execDrainBoundExpire
  refine .next ?_
  split
  · exact .drainOver h (fun _ h1 => h1.killInput)
  · exact .drainOver h (fun _ h1 => h1.count.twillStop)
  · exact .drainOver h (fun _ h1 => h1.drainTakes.outputOff)
  · exact .drainOver h (fun _ h1 => h1.killCore.twdIdle)
  · exact .drainOver h (fun _ h1 => h1.aspStop.aspIdle)
  · exact .drainOver h (fun _ h1 => h1.pipeKill)
  · exact .drainOver h (fun _ h1 => h1.trgKill)
  · exact .drainOver h (fun _ h1 => h1.portStop.showNpt)
  · exact .drainOver h (fun _ h1 => h1.linkFall)

theorem RegsOk.enterSpare (h : RegsOk s) : RegsOk s.enterSpare := .foldl h.setFld.upd.set.set fun _ _ h1 => h1.laceHold

theorem RegsOk.writePairCfg {src allOrder partnerNames partnerB v} (h : RegsOk s) :
    RegsOk (s.writePairCfg src allOrder partnerNames partnerB v) := by
  unfold State.writePairCfg
  refine .guarded h fun s h => ?_
  extract_lets _ _ _ _ s1 s2 s3 s4 s5
  have h2 : RegsOk s2 := h.store.set
  have h3 : RegsOk s3 := .ite h2.setFld h2
  have h5 : RegsOk s5 := h3.setFlag.setFlag.setFlag.showQueues
  exact .ite h.refuse (.ite h.store (.ite h.refuse (.ite h.refuse (.ite h.refuse (.ite h5.enterSpare h5)))))

theorem execSpareClaimDelay_regsOk (h : RegsOk s) : Completes RegsOk (execSpareClaimDelay s) := by
  unfold execSpareClaimDelay
  refine .next ?_
  split
  · exact .ite h.sendClaim h
  · exact h

theorem execSpareClaimReceive_regsOk {claimant id} (h : RegsOk s) : Completes RegsOk (execSpareClaimReceive claimant id s) := by
  unfold execSpareClaimReceive
  refine .next ?_
  split
  · split
    · exact h.setRsl.emit
    · exact h.emit
  · exact h

theorem execSpareClaimGrant_regsOk {survivor st} (h : RegsOk s) : Completes RegsOk (execSpareClaimGrant survivor st s) :=
  .next (.ite h (.ite h.setFld.setFld h.setFld.setFld.setFld.setFlag.setFld.setFld.setFld.setFlag.showQueues))

theorem RegsOk.releaseSpare (h : RegsOk s) : RegsOk s.releaseSpare :=
  .emit (.enterSpare (.setFld (.setFlag (.setFld (.set (.setFld (.foldl h fun _ _ h1 => h1.drainOutput.setFlag)))))))

theorem RegsOk.writeSpareCtrl {src v} (h : RegsOk s) : RegsOk (s.writeSpareCtrl src v) :=
  .guarded h (fun _ h1 => .ite (.ite h1.refuse (.ite h1.refuse h1.answer.sendClaim)) (.ite (.ite h1.answer.releaseSpare
      h1.refuse) h1.answer))

/-! ### The operations and commands of Machine/Clocks -/

theorem RegsOk.serveClks (h : RegsOk s) : RegsOk s.serveClks := .foldl h fun _ _ h1 => h1.serveClk

theorem RegsOk.startClk {d} (h : RegsOk s) : RegsOk (s.startClk d) := by
  unfold State.startClk
  split
  · exact h.setClk.serveClks
  · exact h.setClk
  · exact h

theorem RegsOk.requestClk {d} (h : RegsOk s) : RegsOk (s.requestClk d) := h.setFlag.startClk

theorem execPllLockTimeout_regsOk {d} (h : RegsOk s) : Completes RegsOk (execPllLockTimeout d s) := by
  unfold execPllLockTimeout
  refine .next ?_
  split
  · exact .ite h.setClk.count h.setClk.setFlag.event.serveClks
  · exact h

theorem execClockStopDone_regsOk {d} (h : RegsOk s) : Completes RegsOk (execClockStopDone d s) := by
  unfold execClockStopDone
  refine .next ?_
  split
  · exact .ite h.setClk.setFlag.startClk h.setClk.setFlag
  · exact h

theorem RegsOk.writeClkForce {src v} (h : RegsOk s) : RegsOk (s.writeClkForce src v) :=
  .guarded h (fun _ h1 => .foldl h1.store fun _ _ h2 => h2.startClk)

theorem RegsOk.writeClkCfg {src v} (h : RegsOk s) : RegsOk (s.writeClkCfg src v) :=
  .guarded h (fun _ h1 => .ite h1.refuse h1.store.serveClks)

/-! ### The operations and commands of Machine/Persistent -/

theorem RegsOk.showSnap {x} (h : RegsOk s) : RegsOk (s.showSnap x) := h.set.set.set.setFlag.setFld.setFld

theorem execSnapshotVerifyDone_regsOk {failing} (h : RegsOk s) : Completes RegsOk (execSnapshotVerifyDone failing s) := by
  unfold execSnapshotVerifyDone
  refine .next ?_
  split
  · exact h
  · extract_lets _ s1 _ s2 s3
    have h1 : RegsOk s1 := h.setKeep.setFld
    have h2 : RegsOk s2 := h1.setKeep
    have h3 : RegsOk s3 := h2.showSnap.showDeltas
    split
    · exact h3.irq.count.snapResult
    · exact .awlPersist (.snapResult (.irq (.checkBank (.foldl h1 fun _ _ h4 => h4.retireSector))))

theorem RegsOk.putRecord {e'} (h : RegsOk s) : RegsOk (s.putRecord e') := by
  unfold State.putRecord
  extract_lets _ _ _ _ s1 s2 _ _ s3 _ _ _ _ s4 s5 _ s6
  have h1 : RegsOk s1 := h.set
  have h2 : RegsOk s2 := .ite h1 h1.count
  have h3 : RegsOk s3 := .ite h1.count h1
  have h4 : RegsOk s4 := h3.setAwl
  have h5 : RegsOk s5 := .ite h4.count.eraseSector h3
  have h6 : RegsOk s6 := .ite h5.setAwl h5.setAwl
  exact .ite h2.setAwl.showAwl h6.setFld.showAwl

theorem RegsOk.moveAwl {m sev ev arg} (h : RegsOk s) : RegsOk (s.moveAwl m sev ev arg) := h.setFld.findHead.putRecord

theorem RegsOk.mramLogFails (h : RegsOk s) : RegsOk s.mramLogFails := h.setAwl.irq.moveAwl

theorem RegsOk.writeOldest {ok} (h : RegsOk s) : RegsOk (s.writeOldest ok) := by
  unfold State.writeOldest
  split
  · exact h
  · exact .ite h.awlFull (.ite (.dropStaged (.putRecord (.ite h.setAwl h))) (.ite h.mramLogFails h.flashProgramFails))

theorem RegsOk.freeLatch (h : RegsOk s) : RegsOk s.freeLatch := .foldl h fun _ _ h1 => h1.set.drawFree

theorem execAwlReadLatchDone_regsOk {torn} (h : RegsOk s) : Completes RegsOk (execAwlReadLatchDone torn s) := by
  unfold execAwlReadLatchDone
  refine .next ?_
  split
  · exact h
  · extract_lets _ _ s1
    have h1 : RegsOk s1 := h.setAwl.set
    split
    · exact h1.freeLatch
    · exact .ite h1.freeLatch.setFlag (.ite (.setFlag (.foldl h1 fun _ _ h2 => h2.set)) (.setFlag (.foldl h1 fun _ _ h2 =>
        h2.set)))

theorem RegsOk.clearAwl (h : RegsOk s) : RegsOk s.clearAwl := h.set.setFlag.showAwl.putRecord.setFld

theorem RegsOk.writeClrCtrl {src match_ v} (h : RegsOk s) : RegsOk (s.writeClrCtrl src match_ v) :=
  .guarded h (fun _ h1 => .ite h1.answer (.ite h1.goResult (.ite h1.clearAwl.goResult
      h1.setFld.setAwl.irq.awlPersist.goResult)))

theorem RegsOk.flushStaged {n} (h : RegsOk s) : RegsOk (s.flushStaged n) := by
  induction n generalizing s with
  | zero => exact h
  | succ n ih =>
    unfold State.flushStaged
    exact .ite h (ih h.writeOldest)

theorem RegsOk.powerFail {records} (h : RegsOk s) : RegsOk (s.powerFail records) := h.writeCounters.setFrozen.setAwl.flushStaged

/-! ### The operations and commands of Machine/Reset -/

theorem RegsOk.applyUnit {u w} (h : RegsOk s) : RegsOk (s.applyUnit u w) :=
  .ite h.set.setFld (.ite h.set (.ite h.set.setFld (.ite h.set.setFld (.ite h.set.setFld h.set.setFld.setFld))))

/-- A table filtered by its keys has the rows whose key stays, and is empty elsewhere. -/
theorem Tbl.get_filter_key {α : Type} (d : Nat → α) (q : Nat → Bool) (t : Tbl α) (k : Nat) :
    Tbl.get d (t.filter fun e => q e.1) k = if q k then Tbl.get d t k else d k := by
  induction t with
  | nil => simp [Tbl.get]
  | cons e t ih =>
    by_cases he : e.1 = k
    · subst he
      by_cases hq : q e.1
      · simp [List.filter, hq, Tbl.get]
      · simpa [List.filter, hq] using ih
    · by_cases hq : q e.1
      · simpa [List.filter, hq, Tbl.get, he] using ih
      · simpa [List.filter, hq, Tbl.get, he] using ih

/-- The registers that a filter by their number keeps are those of a sound store. -/
theorem RegsOk.filterRegs {q : Nat → Bool} (h : RegsOk s) (e : t.regs = s.regs.filter fun e => q e.1) : RegsOk t := by
  have hrow (r : Reg) : t.row r = if q r.ctorIdx then s.row r else [] := by
    rw [State.row, e, Tbl.get_filter_key, State.row]
  obtain ⟨hwf, hrows⟩ := h
  refine ⟨?_, fun r => ?_⟩
  · obtain ⟨hne, hlt⟩ := (Tbl.wf_iff _ _).mp hwf
    rw [e]
    exact (Tbl.wf_iff _ _).mpr ⟨fun e m => hne e (List.mem_of_mem_filter m), hlt.filter _⟩
  · rw [hrow]
    split
    · exact hrows r
    · exact ⟨rfl, fun _ _ m => absurd m List.not_mem_nil⟩

theorem RegsOk.coldReset (h : RegsOk s) : RegsOk s.coldReset := by
  unfold State.coldReset
  extract_lets
  refine .foldl ?_ fun _ _ h => h.applyUnit
  refine RegsOk.setFld (RegsOk.setFlag (RegsOk.setFld (RegsOk.setFlag (RegsOk.setFlag (RegsOk.setFld ?_)))))
  exact h.filterRegs rfl

theorem RegsOk.warmReset {cause} (h : RegsOk s) : RegsOk (s.warmReset cause) :=
  .refreshSum (.count (.setFld (.setFld (.setFlag (.setBoot (.upd (.foldl (.foldl (.resetCores (.ite h.emit h)) fun _ _ h1 =>
      h1.clear) fun _ _ h1 => h1.setFld)))))))

theorem RegsOk.writeGlbCtrl {v} (h : RegsOk s) : RegsOk (s.writeGlbCtrl v) := .ite h.answer.warmReset h.answer

/-! ### The operations and commands of Machine/Update -/

theorem RegsOk.showSlot {i} (h : RegsOk s) : RegsOk (s.showSlot i) := h.setFld.setFld.setFlag.setFld.set.set.set

theorem RegsOk.showUpd (h : RegsOk s) : RegsOk s.showUpd := .setFld (.ite h.showSlot.showSlot h.showSlot.showSlot.set)

theorem RegsOk.datagram {op session layout k} (h : RegsOk s) (hk : ∀ s, RegsOk s → RegsOk (k s)) :
    RegsOk (s.datagram op session layout k) := .ite h (.ite h.count.updAnswer (hk _ h.count))

theorem RegsOk.owned {op port session k} (h : RegsOk s) (hk : ∀ s, RegsOk s → RegsOk (k s)) :
    RegsOk (s.owned op port session k) := .ite h.updAnswer.drawFree (.ite h.notOwner (hk _ h.ownerSpoke))

theorem RegsOk.releaseLock (h : RegsOk s) : RegsOk s.releaseLock := h.setUpd.set.set.set.showUpd

theorem RegsOk.takeLock {port session h'} (h : RegsOk s) : RegsOk (s.takeLock port session h') :=
  .ite h.setSlot.eraseSector.setUpd.setFld.setFld.set.set.showUpd h.setSlot.eraseSector.setUpd.setFld.setFld.set.set.showUpd.irq

theorem execUpdHeader_regsOk {port session layout h'} (h : RegsOk s) :
    Completes RegsOk (execUpdHeader port session layout h' s) := by
  unfold execUpdHeader
  refine .next (.datagram h fun s1 h1 => ?_)
  split
  · exact h1.takeLock.lastStatus.updAnswer
  · extract_lets s2 s3 s4 s5
    have h2 : RegsOk s2 := .ite h1.count h1
    have h3 : RegsOk s3 := .ite h2.ownerSpoke h2
    have h4 : RegsOk s4 := .ite h3.authFail h3
    have h5 : RegsOk s5 := .ite h4.irq h4
    exact h5.lastStatus.updAnswer

theorem execUpdData_regsOk {port session layout off len} (h : RegsOk s) :
    Completes RegsOk (execUpdData port session layout off len s) :=
  .next (.datagram h (fun _ h1 => .owned h1 (fun _ h2 => .ite h2.updAnswer (.ite h2.updAnswer (.ite h2.updAnswer
      h2.setUpd.set.updAnswer)))))

theorem execUpdDataProgrammed_regsOk (h : RegsOk s) : Completes RegsOk (execUpdDataProgrammed s) := by
  unfold execUpdDataProgrammed
  refine .next ?_
  split
  · exact h
  · exact .foldl h.setUpd fun _ _ h1 => h1.eraseSector

theorem execUpdEnd_regsOk {port session layout} (h : RegsOk s) : Completes RegsOk (execUpdEnd port session layout s) := by
  unfold execUpdEnd
  refine .next (.datagram h fun s1 h1 => ?_)
  refine .owned h1 fun s2 h2 => ?_
  split
  · exact h2
  · exact .ite h2.lastStatus.updAnswer h2.setUpd.showUpd

theorem execUpdBodyVerified_regsOk {matches_} (h : RegsOk s) : Completes RegsOk (execUpdBodyVerified matches_ s) := by
  unfold execUpdBodyVerified
  refine .next ?_
  split
  · exact h
  · exact .ite h (.ite h.setSlot.lastStatus.updAnswer.releaseLock.irq h.authFail.lastStatus.updAnswer.releaseLock)

theorem RegsOk.startSlot {i} (h : RegsOk s) : RegsOk (s.startSlot i) := h.setFld.setFld.set.set.setFlag.setFld.showUpd

theorem RegsOk.rejectSlot {i} (h : RegsOk s) : RegsOk (s.rejectSlot i) := h.setSlot.showUpd

theorem RegsOk.startConfirmed (h : RegsOk s) : RegsOk s.startConfirmed := by
  unfold State.startConfirmed
  extract_lets
  split
  · exact .ite h.raiseFloor.startSlot h.raiseFloor.startSlot
  · exact h.raiseFloor.startSlot
  · exact h.raiseFloor.startSlot
  · exact h.recovery

theorem RegsOk.rejectSpent {i} (h : RegsOk s) : RegsOk (s.rejectSpent i) := .ite h.rejectSlot.awlUnstated h

theorem RegsOk.selectSlot (h : RegsOk s) : RegsOk s.selectSlot :=
  .ite h.setSlot.startSlot (.ite h.setSlot.startSlot h.rejectSpent.rejectSpent.startConfirmed)

theorem RegsOk.activate {level} (h : RegsOk s) : RegsOk (s.activate level) :=
  .ite h.ctrlRefused (.ite h.ctrlRefused (.ite h.ctrlRefused
      h.setSlot.setUpd.lastStatus.answer.warmReset.selectSlot.set.irq.showUpd))

theorem RegsOk.confirm (h : RegsOk s) : RegsOk s.confirm :=
  .ite h.ctrlRefused.drawFree (.ite h.ctrlRefused (.ite h.ctrlRefused (.ite h.ctrlRefused
      h.setSlot.raiseFloor.lastStatus.answer.irq.showUpd)))

theorem RegsOk.fallBack (h : RegsOk s) : RegsOk s.fallBack :=
  h.rejectSlot.warmReset.startConfirmed.irq.alert.awlUnstated.showUpd

theorem RegsOk.ctrlFallback (h : RegsOk s) : RegsOk s.ctrlFallback := .ite h.ctrlRefused.drawFree h.lastStatus.answer.fallBack

theorem RegsOk.ctrlAbort (h : RegsOk s) : RegsOk s.ctrlAbort := .answer (.lastStatus (.ite h.releaseLock h))

theorem RegsOk.writeUpdCtrl {src level v} (h : RegsOk s) : RegsOk (s.writeUpdCtrl src level v) := by
  unfold State.writeUpdCtrl
  refine .guarded h fun s h => ?_
  extract_lets s1 s2 s3 s4
  have h1 : RegsOk s1 := h.answer
  have h2 : RegsOk s2 := .ite h1.activate h1
  have h3 : RegsOk s3 := .ite h2.confirm h2
  have h4 : RegsOk s4 := .ite h3.ctrlFallback h3
  exact .ite h4.ctrlAbort h4

/-! ### The operations and commands of Machine/Bus -/

theorem RegsOk.writePlain {src r i v} (h : RegsOk s) : RegsOk (s.writePlain src r i v) := by
  unfold State.writePlain
  split
  · exact h.answer
  · exact h.answer
  · exact .guarded h (fun _ h1 => h1.answer)
  · exact .guarded h (fun _ h1 => h1.set.answer)
  · exact .guarded h (fun _ h1 => .ite h1.refuse h1.store)
  · exact .guarded h (fun _ h1 => .ite h1.refuse h1.store)

theorem RegsOk.writeData {src e' r i v} (h : RegsOk s) : RegsOk (s.writeData src e' r i v) := by
  unfold State.writeData
  split
  · exact h.writeIngCtrl
  · exact h.writePool
  · exact h.writeInCfg
  · exact h.writeInSync
  · exact h.writeSdiCfg
  · exact h.writePktVid
  · exact h.writePd
  · exact h.writeAfl
  · exact h.writeAflFmt
  · exact h.writeAflOff
  · exact h.writeAnf
  · exact h.writeTwlCtrl
  · exact h.writeCalLimit
  · exact h.writeLkLimit
  · exact h.writeDirCmd
  · exact h.writeV6
  · exact h.writeV6
  · exact h.writeSwapCtrl
  · exact h.writeEgrCtrl
  · exact h.writeHealthCfg
  · exact h.writeHealthCtrl
  · exact h.writePlain.health
  · exact h.writePlain.health
  · exact h.writeOtdCfg
  · exact h.writeOtdPhase
  · exact h.writePat
  · exact h.writeOutCfg
  · exact h.writeOutTake
  · exact h.writeOutSdi
  · exact h.writeOutAud
  · exact h.writeIdent
  · exact h.writeVsndCfg
  · exact h.writeVsndSrc
  · exact h.writeSndPort
  · exact h.writeAsndCfg
  · exact h.writeAsndFmt
  · exact h.writeSndPort
  · exact h.writeXsndCfg
  · exact h.writeSndPort
  · exact h.writeJoin
  · exact h.writePlain

theorem RegsOk.writeCores {src e' r i v} (h : RegsOk s) : RegsOk (s.writeCores src e' r i v) := by
  unfold State.writeCores
  split
  · exact h.writeNimCtrl
  · exact h.writeExecCfg
  · exact h.writeJrnCfg
  · exact h.writePairCfg
  · exact h.writeQBase
  · exact h.writeQBase
  · exact h.writeQCfg
  · exact h.writeSqTail
  · exact h.writeCqHead
  · exact h.writeSvcCfg
  · exact h.writeTwdCtrl
  · exact h.writePlace
  · exact h.writeFollow
  · exact h.writeBtxCfg
  · exact h.writeBtxFlow
  · exact h.writeBrxCfg
  · exact h.writeCore
  · exact h.writeCore
  · exact h.writeCoreAt
  · exact h.writeAspCtrl
  · exact h.writeAspCfg
  · exact h.writeAspFmt
  · exact h.writeAspMask
  · exact h.writeAspCfg
  · exact h.writeAspFmt
  · exact h.writeAspMask
  · exact h.writeVmpCtrl
  · exact h.writePipeCfg
  · exact h.writePipeBg
  · exact h.writeSurfCfg
  · exact h.writeSurfGeom
  · exact h.writeSurfGeom
  · exact h.writeSurfGen
  · exact h.writePlain

theorem RegsOk.writeTiming {src e' r i v} (h : RegsOk s) : RegsOk (s.writeTiming src e' r i v) := by
  unfold State.writeTiming
  split
  · exact h.writeLstCtrl
  · exact h.writeSteer
  · exact h.writeRefCfg
  · exact h.writeLstRange
  · exact h.writeLstRange
  · exact h.writeLstRange
  · exact h.writeLstRange
  · exact h.writeLstRange
  · exact h.writeLstRange
  · exact h.writeNtmCtrl
  · exact h.writeTbCfg
  · exact h.writeTbAdj
  · exact h.writeSrvCfg
  · exact h.writeFeed
  · exact h.writeInst
  · exact h.writeIntv
  · exact h.writeDelay
  · exact h.writeDelay
  · exact h.writeDelay
  · exact h.writePtpPort
  · exact h.writeTrg
  · exact h.writeTrgTime
  · exact h.writeTrgTime
  · exact h.writeTrgTime
  · exact h.writeCap
  · exact h.writeQual
  · exact h.writeLaneCfg
  · exact h.writeTxeq
  · exact h.writeLaneCtrl
  · exact h.writePrbs
  · exact h.writeLkCfg
  · exact h.writeLkCtrl
  · exact h.writeNptCtrl
  · exact h.writeGrpCfg
  · exact h.writePortCfg
  · exact h.writeEee
  · exact h.writeSteerEntry
  · exact h.writeRingBase
  · exact h.writeRingBase
  · exact h.writeRxrCfg
  · exact h.writeTxrCfg
  · exact h.writeRxrTail
  · exact h.writeTxrTail
  · exact h.writeEpCfg
  · exact h.writePlain

theorem RegsOk.writeKeep {src e' r i v} (h : RegsOk s) : RegsOk (s.writeKeep src e' r i v) := by
  unfold State.writeKeep
  split
  · exact h.writeFence
  · exact h.writeUnitCtrl
  · exact h.writeSpareCtrl
  · exact h.writeRsl
  · exact h.writeRsl
  · exact h.writeRsl
  · exact h.writeRsl
  · exact h.writeRsl
  · exact h.writeAwlCtrl
  · exact h.writeAwlCfg
  · exact h.writeRdIdx
  · exact h.writeClrCtrl
  · exact h.writeSetCtrl
  · exact h.writeSetCfg
  · exact h.writeUpdCtrl
  · exact h.writeUpdCfg
  · exact h.writeGlbCtrl
  · exact h.writeRole
  · exact h.clearAlert
  · exact h.writePlain.refreshAlert
  · exact h.writeKick
  · exact h.writeClkCfg
  · exact h.writeClkForce
  · exact h.writePlain

theorem RegsOk.writeReg {src e r i v} (h : RegsOk s) : RegsOk (s.writeReg src e r i v) := by
  unfold State.writeReg
  extract_lets b s1
  have h1 : RegsOk s1 := h.clearStat.answer
  refine .ite (.ite h1.refreshAlert h1) (.ite h.writeEn.answer ?_)
  clear_value b
  cases b
  case ING | TWL | EGR => exact h.writeData
  case NIM | TWD | ASP | VMP => exact h.writeCores
  case LST | NTM | WLT | NPT => exact h.writeTiming
  case RSL | AWL | SET | UPD | GLB | BOOT | INS => exact h.writeKeep

theorem RegsOk.writeWin {src w v} (h : RegsOk s) : RegsOk (s.writeWin src w v) := by
  unfold State.writeWin
  split
  · exact h.answer
  · exact h.answer
  · exact h.answer
  · exact h.writeImem
  · exact h.writeShadow
  · exact h.writeLut

theorem RegsOk.storeReg {src e' r i a v} (h : RegsOk s) : RegsOk (s.storeReg src e' r i a v) :=
  .ite h.refuse (.recordStore (.ite h.answer.writeReg.markReg h.answer.writeReg))

theorem RegsOk.store32 {src e' a v} (h : RegsOk s) : RegsOk (s.store32 src e' a v) := by
  unfold State.store32
  split
  · exact .ite h.refuse h.answer.writeWin.recordStore
  · split
    · exact h.answer
    · exact .ite h.storeReg (.ite h.upd.storeReg (.guarded h.answer (fun _ h1 => h1.upd)))

theorem RegsOk.store64 {src e' a v} (h : RegsOk s) : RegsOk (s.store64 src e' a v) := by
  unfold State.store64
  split
  · exact .ite h.refuse h.answer.writeImem.recordStore
  · split
    · exact h.storeReg
    · exact h.answer

theorem RegsOk.busWrite {src e' a size v} (h : RegsOk s) : RegsOk (s.busWrite src e' a size v) :=
  .ite h (.ite h (.ite h.store64 (.ite h.store32 (.ite h.count h.answer))))

theorem RegsOk.latchTb {k} (h : RegsOk s) : RegsOk (s.latchTb k) := h.set.set.set

theorem RegsOk.readReg {r i} (h : RegsOk s) : RegsOk (s.readReg r i).2 := by
  unfold State.readReg
  split
  · exact h.latchTb
  · exact h
  · exact h.readCap
  · exact h
  · exact h
  · exact h
  · exact h
  · exact h.drawFree
  · split
    · exact h
    · exact h.set
    · exact h

theorem RegsOk.load32 {a} (h : RegsOk s) : RegsOk (s.load32 a) := by
  unfold State.load32
  split
  · exact h.upd
  · split
    · exact h.upd
    · exact .ite h.upd (.ite h.readReg.upd h.readReg.upd)

theorem RegsOk.load64 {a} (h : RegsOk s) : RegsOk (s.load64 a) := by
  unfold State.load64
  split
  · exact h.upd
  · split
    · exact h.readReg.upd
    · exact h.upd

theorem RegsOk.busRead {src a size} (h : RegsOk s) : RegsOk (s.busRead src a size) :=
  .ite h (.ite h.upd (.ite h.load64.answer (.ite h.load32.answer h.load32.answer.upd)))

/-! ### The operations and commands of Machine/Boot -/

theorem RegsOk.restoreReg {r i v} (h : RegsOk s) : RegsOk (s.restoreReg r i v) := .ite h.markReg.setBoot h.markReg.rawSet

theorem RegsOk.restoreRows {t' ok} (h : RegsOk s) : RegsOk (s.restoreRows t' ok) := by
  unfold State.restoreRows
  refine .foldl h fun s1 row h1 => ?_
  split
  · exact h1
  · exact .ite (.foldl h1 fun _ _ h2 => h2.restoreReg) h1

theorem RegsOk.restoreWin {w v} (h : RegsOk s) : RegsOk (s.restoreWin w v) := by
  unfold State.restoreWin
  split
  · exact h.writeWin
  · exact h.writeWin
  · exact h.setTwd
  · exact h

theorem RegsOk.restoreStore {ok a v} (h : RegsOk s) : RegsOk (s.restoreStore ok a v) := by
  unfold State.restoreStore
  split
  · exact .ite h.restoreWin h
  · split
    · exact h
    · exact .ite h (.ite h.restoreReg (.ite h.restoreReg h.restoreReg))

theorem RegsOk.pickSnap {converted} (h : RegsOk s) : RegsOk (s.pickSnap converted).2 := by
  unfold State.pickSnap
  extract_lets _ s1
  have h1 : RegsOk s1 := h.setFlag
  split
  · exact h1.setFld.setFlag.showSnap
  · split
    · exact h1.setFld.setFlag
    · split
      · exact h1.setKeep.setFld.setFlag.showSnap
      · exact h1.setFlag.setKeep

theorem RegsOk.restoreSettings {converted mems ok} (h : RegsOk s) : RegsOk (s.restoreSettings converted mems ok) := by
  unfold State.restoreSettings
  extract_lets s1 s2 _ _ _ _ _ s3 s4 s5 _ s6
  have h1 : RegsOk s1.2 := h.pickSnap
  have h2 : RegsOk s2 := h1
  have h3 : RegsOk s3 := by
    dsimp only [s3]
    split
    · exact .ite h2.restoreMems h2
    · exact h2
  have h4 : RegsOk s4 := by
    dsimp only [s4]
    split
    · exact h3.restoreRows
    · exact h3
  have h5 : RegsOk s5 := .foldl h4 fun _ _ h5 => .foldl h5 fun _ _ h6 => h6.restoreStore
  have h6 : RegsOk s6 := h5.setKeep
  clear_value s1 s2 s3 s4 s5 s6
  exact .ite h5.showDeltas h6.count.awlPersist.showDeltas

theorem RegsOk.lateWrite {e'} (h : RegsOk s) : RegsOk (s.lateWrite e') := .ite h.answer.writeReg.setBoot h.answer.writeReg

theorem RegsOk.runLater (h : RegsOk s) : RegsOk s.runLater :=
  .answer (.foldl h.setBoot fun _ _ h1 => .foldl h1 fun _ _ h2 => h2.lateWrite)

theorem RegsOk.lockDown {b} (h : RegsOk s) : RegsOk (s.lockDown b) := h.setFlag.rawSet.rawSet.rawSet.rawSet.upd.setFlag.setBoot

theorem RegsOk.badSlot (h : RegsOk s) : RegsOk s.badSlot := h.setFld.setFld.rejectSlot.selectSlot

theorem execStbyPgFall_regsOk {records} (h : RegsOk s) : Completes RegsOk (execStbyPgFall records s) :=
  .next (.ite h (.setFld (.setFld (.setBoot (.setAwl (.foldl (.ite h h.powerFail.coldReset) fun _ _ h1 => h1.clear))))))

theorem execBootRomDone_regsOk {retentionOk} (h : RegsOk s) : Completes RegsOk (execBootRomDone retentionOk s) :=
  .next (.ite h (.showUpd (.selectSlot (.setFld (.stageEnds (.ite h.setBoot.setFlag.takeCounts.setBoot
      h.setBoot.setFlag.takeCounts.setBoot.setAwl.setFlag))))))

theorem RegsOk.startAwl (h : RegsOk s) : RegsOk s.startAwl := by
  unfold State.startAwl
  extract_lets s1 newest s2 s3 s4
  have h1 : RegsOk s1 := h.findHead
  clear_value s1
  have h3 : RegsOk s3 := by
    dsimp only [s3]
    split
    · exact .ite h1.setAwl h1
    · exact h1
  have h4 : RegsOk s4 := .ite h3.awlPersist h3
  exact h4.showStaged

theorem execHbmTrainDone_regsOk {converted} (h : RegsOk s) : Completes RegsOk (execHbmTrainDone converted s) :=
  .next (.ite h (.setFld (.stageEnds (.ite (.enterSpare (.ite h.restoreSettings.startCores.setFld
      h.restoreSettings.startCores)) (.ite h.restoreSettings.startCores.setFld h.restoreSettings.startCores)))))

theorem RegsOk.restoreImage {views} (h : RegsOk s) : RegsOk (s.restoreImage views) :=
  .foldl (.foldl (.foldl h.restoreRows.runLater fun _ _ h1 => .ite h1.setFld h1.setFld.setFlag) fun _ _ h1 => h1.showPending)
      fun _ _ h1 => .foldl h1.routeRetry fun _ _ h2 => h2.rerouteTake

theorem execWarmBoot_regsOk {good converted data} (h : RegsOk s) : Completes RegsOk (execWarmBoot good converted data s) := by
  unfold execWarmBoot
  refine .next ?_
  extract_lets _ s1 s2 _ s3 _ _ _ s4 s5 s6
  have h1 : RegsOk s1 := h.setBoot
  have h4 : RegsOk s4 := h1.lockDown.restoreSettings.runLater.upd
  have h5 : RegsOk s5 := .foldl h4 fun _ _ h => h.postRecord
  have h6 : RegsOk s6 := .ite h5 h5.awlCause
  exact .ite h (.ite h1.badSlot.showUpd h6.journalReplay.showUpd)

theorem execSpareExit_regsOk {assumed} (h : RegsOk s) : Completes RegsOk (execSpareExit assumed s) :=
  .next (.ite h (.ite (.setFld (.foldl (.foldl h.setFld.wake fun _ _ h1 => h1.requestClk) fun _ _ h1 => h1.laceUnhold)) (.foldl
      (.foldl h.setFld.wake fun _ _ h1 => h1.requestClk) fun _ _ h1 => h1.laceUnhold)))

theorem execPmbusPoll_regsOk {rails} (h : RegsOk s) : Completes RegsOk (execPmbusPoll rails s) := by
  unfold execPmbusPoll
  refine .next ?_
  split
  · exact h
  · refine .foldl h fun s1 e h1 => ?_
    extract_lets _ s2
    have h2 : RegsOk s2 := .ite h1.setRsl h1
    split
    · exact h2.set
    · exact h2.set.awlUnstated

theorem RegsOk.pcieReset (h : RegsOk s) : RegsOk s.pcieReset :=
  .showQueues (.foldl (.foldl h.upd.set fun _ _ h1 => h1.setFlag) fun _ _ h1 => h1.setFlag.setFlag)

theorem execBar2Access_regsOk {off write} (h : RegsOk s) : Completes RegsOk (execBar2Access off write s) := by
  unfold execBar2Access
  extract_lets _ _ _ s1
  have h1 : RegsOk s1 := h.bar2Miss
  refine .next ?_
  split
  · exact .ite h.bar2Miss h.upd
  · exact .ite h1.upd (.ite h.upd.drawFree h.upd)

/-! ### The operations and commands of Machine/Accept -/

/-- The check of the body is generalized before the kernel sees the match on its answer, and would evaluate it. -/
theorem RegsOk.acceptOrder {e} (h : RegsOk s) : OkRegsOk (s.acceptOrder e) := by
  obtain ⟨F, hF⟩ : ∃ F, F = State.acceptOrder := ⟨_, rfl⟩
  rw [← hF]
  delta State.acceptOrder at hF
  subst hF
  beta_reduce
  generalize programCheck e.affinity e.body = st
  split
  · refine .ite .error (.ok ?_)
    have h1 : RegsOk (s.journalEntry e) := h.journalEntry
    split
    · split
      · exact h1.emit
      · exact h1
    · exact h1.ackEntry
  · exact .error

theorem RegsOk.takeSqe {q e'} (h : RegsOk s) : RegsOk (s.takeSqe q e') := by
  unfold State.takeSqe
  extract_lets s1
  have h1 : RegsOk s1 := h.setFld
  split
  · exact h1.refusedOrder
  · split
    · exact h1.refusedOrder
    · split
      · exact h1.refusedOrder
      · split
        · split
          · exact h1.duplicate
          · exact h1.refusedOrder
        · split
          · rename_i e
            exact h1.acceptOrder _ e
          · exact h1.refusedOrder

/-! ### The operations and commands of Machine/Cobbler -/

theorem RegsOk.onCore {a undef i k} (h : RegsOk s) (hk : ∀ x1 x2, OkRegsOk (k x1 x2)) : RegsOk (s.onCore a undef i k) := by
  unfold State.onCore
  split
  · exact h
  · refine .ite h.trapCtx (.ite h.trapCtx (.ite (.ite h.trapCtx h.setCtx) (.ite h.trapCtx ?_)))
    split
    · exact hk _ _ _ ‹_›
    · exact h.trapCtx

theorem RegsOk.alu {a undef reads rd lat f} (h : RegsOk s) : RegsOk (s.alu a undef reads rd lat f) := by
  unfold State.alu
  exact .onCore h (fun _ _ => .ok h.setCtx)

theorem RegsOk.alup {a undef reads pd f} (h : RegsOk s) : RegsOk (s.alup a undef reads pd f) := by
  unfold State.alup
  exact .onCore h (fun _ _ => .ok h.setCtx)

theorem RegsOk.alu2 {a rd ra rb lat f} (h : RegsOk s) : RegsOk (s.alu2 a rd ra rb lat f) := h.alu

theorem RegsOk.alu1 {a undef rd ra f} (h : RegsOk s) : RegsOk (s.alu1 a undef rd ra f) := h.alu

theorem RegsOk.plog {a pd pa pb f} (h : RegsOk s) : RegsOk (s.plog a pd pa pb f) := h.alup

theorem RegsOk.branch {a undef reads cost link f} (h : RegsOk s) : RegsOk (s.branch a undef reads cost link f) := by
  unfold State.branch
  exact .onCore h (fun _ _ => .ite .error (.ok h.setCtx))

theorem execNimLd_regsOk {a rd ra sp sz off} (h : RegsOk s) : Completes RegsOk (execNimLd a rd ra sp sz off s) := by
  unfold execNimLd
  extract_lets
  refine .next (.onCore h fun x1 c1 => ?_)
  extract_lets _ s1
  have h1 : RegsOk s1 := h.drawFree.busRead
  split
  · exact .error
  · exact .ite (.ok h1.setCtx) (.ok h.setCtx)

theorem execNimSt_regsOk {a rd ra sp sz off} (h : RegsOk s) : Completes RegsOk (execNimSt a rd ra sp sz off s) := by
  unfold execNimSt
  extract_lets
  refine .next (.onCore h fun x1 c1 => ?_)
  extract_lets
  split
  · exact .error
  · split
    · exact .ok h.setCtx
    · exact .ok h.upd.setCtx
    · exact .ite .error (.ok h.setCtx.busWrite)

theorem RegsOk.amo {a reads rd ra rb f} (h : RegsOk s) : RegsOk (s.amo a reads rd ra rb f) := by
  unfold State.amo
  extract_lets
  refine .onCore h fun x1 c1 => ?_
  extract_lets
  split
  · exact .error
  · exact .ok h.upd.setCtx

theorem execNimBld_regsOk {a rd ri ent wide} (h : RegsOk s) : Completes RegsOk (execNimBld a rd ri ent wide s) := by
  unfold execNimBld
  extract_lets
  refine .next (.onCore h fun x1 c1 => ?_)
  split
  · exact .error
  · exact .ok h.drawFree.busRead.setCtx

theorem execNimBst_regsOk {a rd ri ent wide env} (h : RegsOk s) : Completes RegsOk (execNimBst a rd ri ent wide env s) := by
  unfold execNimBst
  extract_lets
  refine .next (.onCore h fun x1 c1 => ?_)
  split
  · exact .error
  · exact .ite (.ok h) (.ok h.setCtx.busWrite)

/-! ### The operations and commands of Machine/Frame -/

theorem RegsOk.nextFrame {d} (h : RegsOk s) : RegsOk (s.nextFrame d) :=
  .ite h.setOtd.set.setFlag.setFlag.showMismatch.health h.setOtd.set

theorem RegsOk.pipesBoundary {d} (h : RegsOk s) : RegsOk (s.pipesBoundary d) := .foldl h fun _ _ h1 => h1.pipeBoundary

theorem RegsOk.inputsBoundary {d phases} (h : RegsOk s) : RegsOk (s.inputsBoundary d phases) :=
  .foldl h fun _ _ h1 => h1.inputBoundary

theorem execOtdFrameBoundary_regsOk {d phases crcs} (h : RegsOk s) : Completes RegsOk (execOtdFrameBoundary d phases crcs s) :=
  .next (.ite h h.sendX.nextFrame.outputsBoundary.pipesBoundary.inputsBoundary.flagSources.showMismatch.senderBoundary)

/-! ### The operations and commands of Machine/Nimade -/

theorem RegsOk.reattach {x k n} (h : RegsOk s) : SomeRegsOk (s.reattach x k n) :=
  .ite (.some h.upd) (.ite (.some h.setDirs) .none)

theorem RegsOk.sigSend {x k n go} (h : RegsOk s) (hgo : ∀ s, RegsOk s → RegsOk (go s)) : RegsOk (s.sigSend x k n go) := by
  unfold State.sigSend
  split
  · exact h.drawFree.giveResult
  · split
    · exact h.drawFree.recordSig.giveResult
    · split
      · rename_i e
        exact h.reattach _ e
      · exact hgo _ h

theorem RegsOk.sigPlane {α : Type} {a undef reads rd} {args : NimCtx → Except Trap α}
    {go : Nat → Key → Nat → α → State → State} (h : RegsOk s) (hgo : ∀ x k n v s, RegsOk s → RegsOk (go x k n v s)) :
    RegsOk (s.sigPlane a undef reads rd args go) := by
  unfold State.sigPlane
  refine .onCore h fun x c => ?_
  split
  · exact .error
  · split
    · exact .error
    · split
      · exact .error
      · exact .ok (.sigSend h.setCtx.giveUp fun _ h => hgo _ _ _ _ _ h)

theorem execSalvo_regsOk {a rd ra rb rc f views} (h : RegsOk s) : Completes RegsOk (execSalvo a rd ra rb rc f views s) := by
  unfold execSalvo
  refine .next (.sigPlane h fun x1 k1 n1 v1 s1 h1 => ?_)
  split
  · exact h1.sigReturn
  · exact h1.takeMembers

theorem execNimSignalPlaneResult_regsOk {key sig value st} (h : RegsOk s) :
    Completes RegsOk (execNimSignalPlaneResult key sig value st s) := by
  unfold execNimSignalPlaneResult
  refine .next ?_
  split
  · exact h
  · split
    · exact h.sigReturn
    · exact h

theorem RegsOk.nsp {a rd ra d boundary} (h : RegsOk s) : RegsOk (s.nsp a rd ra d boundary) := by
  unfold State.nsp
  exact .onCore h (fun _ _ => .ite (.ok h.setCtx) (.ok h.setCtx))

/-- `State.acceptOrder` stands behind a variable, so that the kernel compares it by name. -/
theorem RegsOk.submitSvc {n x aff body} (h : RegsOk s) : RegsOk (s.submitSvc n x aff body) := by
  obtain ⟨accept, hf⟩ : ∃ f, f = State.acceptOrder := ⟨_, rfl⟩
  unfold State.submitSvc
  rw [← hf]
  extract_lets _ _ s1 s2 refuse
  have h1 : RegsOk s1 := h.set
  have hr : ∀ st, RegsOk (refuse st) := fun st => .giveResult (.ite h1.irq.count.irq h1.irq.count)
  refine .ite (hr _) (.ite ?_ ?_)
  · split
    · exact h1.count.giveResult
    · exact hr _
  · split
    · rename_i e
      rw [hf] at e
      exact h1.acceptOrder _ e
    · exact hr _

theorem execNimJsub_regsOk {a rd ra rb rc f} (h : RegsOk s) : Completes RegsOk (execNimJsub a rd ra rb rc f s) := by
  unfold execNimJsub
  extract_lets
  refine .next (.onCore h fun x1 c1 => ?_)
  split
  · exact .error
  · extract_lets _ _ _ _ _ s1
    have h1 : RegsOk s1 := h.setCtx.giveUp
    split
    · exact .ok h.drawFree.setCtx
    · split
      · exact .ok h
      · split
        · exact .error
        · split
          · exact .error
          · exact .ok h1.submitSvc

theorem execNimJinfo_regsOk {a rd fn} (h : RegsOk s) : Completes RegsOk (execNimJinfo a rd fn s) := by
  unfold execNimJinfo
  extract_lets
  refine .next (.onCore h fun x1 c1 => ?_)
  split
  · exact .error
  · exact .ok h.setCtx

theorem execNimPost_regsOk {a ra rb fn} (h : RegsOk s) : Completes RegsOk (execNimPost a ra rb fn s) := by
  unfold execNimPost
  extract_lets
  refine .next (.onCore h fun x1 c1 => ?_)
  extract_lets
  split
  · exact .error
  · split
    · exact .ok h.postEvent.setCtx
    · exact .ite (.ok h.setCtx) (.ite (.ok h.setCtx) (.ite (.ok h.setCtx) (.ok h.postRecord.setCtx)))

theorem RegsOk.deliverMail {part slot from_ m reply} (h : RegsOk s) : RegsOk (s.deliverMail part slot from_ m reply).1 := by
  unfold State.deliverMail
  split
  · split
    · exact h
    · split
      · exact h
      · exact h.giveMsg
  · split
    · exact h
    · exact h.emit

theorem RegsOk.reported {core x d k} (h : RegsOk s) (hk : ∀ s, RegsOk s → RegsOk (k s).1) : RegsOk (s.reported core x d k) :=
  .giveResult (hk _ h.setCtx.giveUp)

theorem execNimSend_regsOk {a ra rb fn reply} (h : RegsOk s) : Completes RegsOk (execNimSend a ra rb fn reply s) := by
  unfold execNimSend
  extract_lets
  refine .next (.onCore h fun x1 c1 => ?_)
  split
  · exact .error
  · extract_lets
    split
    · exact .error
    · exact .ok (.reported h (fun _ h1 => h1.deliverMail))

theorem RegsOk.replyOrder {k m} (h : RegsOk s) : RegsOk (s.replyOrder k m).1 := by
  unfold State.replyOrder
  split
  · exact h
  · split
    · exact h.drawFree.deliverMail
    · exact h.postEvent

theorem execNimReply_regsOk {a ra fn reply} (h : RegsOk s) : Completes RegsOk (execNimReply a ra fn reply s) := by
  unfold execNimReply
  refine .next (.onCore h fun x c => ?_)
  dsimp only
  split
  · exact .error
  · refine .ok (.reported h fun s h => ?_)
    split
    · exact h.replyOrder
    · split
      · exact h.deliverMail
      · exact h.drawFree
    · exact h

theorem RegsOk.recv {a rd ra q} (h : RegsOk s) : RegsOk (s.recv a rd ra q) := by
  unfold State.recv
  refine .onCore h fun x1 c1 => ?_
  split
  · exact .error
  · extract_lets
    split
    · exact .ok h.setCtx
    · exact .ite .error (.ok h.setSvc.setCtx)

theorem execNimXmit_regsOk {a ra rb rc f} (h : RegsOk s) : Completes RegsOk (execNimXmit a ra rb rc f s) := by
  unfold execNimXmit
  extract_lets
  refine .next (.onCore h fun x1 c1 => ?_)
  split
  · exact .error
  · extract_lets _ _ s1
    have h1 : RegsOk s1.1 := h.xmit
    split
    · exact .error
    · exact .ite (.ok h.setCtx) (.ok h1.setCtx)

theorem execNimWait_regsOk {a rd ra rb fn} (h : RegsOk s) : Completes RegsOk (execNimWait a rd ra rb fn s) := by
  unfold execNimWait
  extract_lets
  refine .next (.onCore h fun x1 c1 => ?_)
  split
  · exact .error
  · extract_lets _ _ _ _ s1 _ _ s2 s3
    have h1 : RegsOk s1 := .ite h.setSvc h
    have h2 : RegsOk s2 := .ite h1.setSvc h1
    have h3 : RegsOk s3 := h1.setCtx.giveUp
    exact .ite (.ok h.setCtx) (.ite (.ok h2.setCtx) (.ok h3.setFld.wakeCtx))

/-! ### The operations and commands of Machine/Tick -/

theorem RegsOk.idleTick (h : RegsOk s) : RegsOk s.idleTick := by
  unfold State.idleTick
  extract_lets s1 s2 s3 s4
  have h1 : RegsOk s1 := h.upd
  have h2 : RegsOk s2 := (RegsOk.foldl h1 fun _ _ h => h.advanceTb).advanceClock.agePartner.steerTick
  have h3 : RegsOk s3 := .foldl h2 fun _ _ h => h.rampTick
  have h4 : RegsOk s4 := .ite h3.secondTick h3
  exact .ite h (.ite h1 (.ite h4 h4.runLater))

/-! ### Every command and every step -/

/-- Every command answers a next state, and its register store is sound. -/
theorem exec_regsOk (c : Instr) (h : RegsOk s) : Completes RegsOk (exec c s) :=
  match c with
  | .registerWrite .. => .next h.busWrite
  | .readClear .. => .next h.busRead
  | .latchedRead64 .. => .next h.busRead
  | .sdiRateHuntDwell .. => .next (.ite h.huntNext h)
  | .sdiLock .. => .next (.ite h.receiverLock h)
  | .sdiLockLossTimeout .. => .next h.receiverUnlock.loseInput.setInput
  | .sdiLineReceive .. => execSdiLineReceive_regsOk h
  | .trsLoss .. => .next h.loseInput
  | .sdiFrameEnd .. => execSdiFrameEnd_regsOk h
  | .networkFrameReceive .. => .next (.ite h.count (.ite h (.macIn h (fun _ h1 => h1.classify))))
  | .videoFrameClose .. => execVideoFrameClose_regsOk h
  | .legSilence .. => .next h.setFlag
  | .packetLossTimeout .. => .next h.loseInput
  | .syncReadInterrupt .. => .next (.ite h.count.setInput h)
  | .inputEnable .. => .next h.writeInCfg
  | .inputDisable .. => .next h.writeInCfg
  | .inputKill .. => .next h.writeInCfg
  | .inputDrainDone .. => .next (.ite h.inputOff h)
  | .inputModeChange .. => .next h.writeInCfg
  | .inputDomainChange .. => .next h.writeInCfg
  | .delayFramesChange .. => .next h.writeInSync
  | .videoFlowBinding .. => .next h.writePktVid
  | .pdMaxWrite .. => .next h.writePd
  | .audioContextBinding .. => .next h.writeAfl
  | .audioOffsetWrite .. => .next h.writeAflOff
  | .ancContextBinding .. => .next h.writeAnf
  | .sdiCfgWrite .. => .next h.writeSdiCfg
  | .poolPagesWrite .. => .next h.writePool
  | .ingressDisable .. => .next h.writeIngCtrl
  | .cellReceive .. => execCellReceive_regsOk h
  | .calendarSlot .. => execCalendarSlot_regsOk h
  | .calendarPeriodBoundary => execCalendarPeriodBoundary_regsOk h
  | .routeRequest .. => .next h.hold.answer
  | .routeHoldTimeout .. => execRouteHoldTimeout_regsOk h
  | .holdReleaseReport .. => execHoldReleaseReport_regsOk h
  | .routeSettle .. => execRouteSettle_regsOk h
  | .arbitratedQueueOpen .. => execArbitratedQueueOpen_regsOk h
  | .arbitratedCellEnqueue .. => .next (.ite h.answer (.ite h.answer (.ite h.placeCell.showEligible.answer h.setQueue)))
  | .linkControlCell .. => execLinkControlCell_regsOk h
  | .rerouteStream .. => .next (.ite h.hold.answer h.hold.awlFabric.answer)
  | .dirRead .. => .next h.writeDirCmd
  | .dirWrite .. => .next h.writeDirCmd
  | .dirWithdraw .. => .next h.writeDirCmd
  | .dirUpdateReceive .. => .next h.receiveUpdate
  | .dirMissingRequestReceive .. => .next (.ite (.foldl h.setDirs fun _ _ h1 => h1.emit) h.setDirs.emit)
  | .dirAckReceive .. => execDirAckReceive_regsOk h
  | .dirAckTimeout .. => execDirAckTimeout_regsOk h
  | .dirResyncStart .. => execDirResyncStart_regsOk h
  | .dirResyncAnswer .. => execDirResyncAnswer_regsOk h
  | .dirResyncOriginTimeout .. => .next (.ite h.setDirs.resyncEnd.showLag h)
  | .slicePortSwap .. => .next h.writeSwapCtrl
  | .slicePortSwapBack .. => .next h.writeSwapCtrl
  | .swapSpareFail => execSwapSpareFail_regsOk h
  | .slicePortFail .. => .next (.ite h (.foldl h.setFld fun _ _ h1 => h1.replaceRoute))
  | .twillDisable .. => .next h.writeTwlCtrl
  | .twillDrainDone => .next (.ite h.twillStop h)
  | .twillKill .. => .next h.writeTwlCtrl
  | .v6PrefixWrite .. => .next h.writeV6
  | .take .. => .next (.sigPlane h (fun _ _ _ _ _ h1 => h1.takeMembers))
  | .salvo .. => execSalvo_regsOk h
  | .forwardedTake .. => execForwardedTake_regsOk h
  | .partnerAdmissionResult .. => execPartnerAdmissionResult_regsOk h
  | .takeArmed .. => execTakeArmed_regsOk h
  | .switchPoint .. => .next (.ite h h.switchTakes.applyReleases)
  | .takeRouteLost .. => execTakeRouteLost_regsOk h
  | .routeRetry .. => .next h.routeRetry
  | .xchkRecordReceive .. => execXchkRecordReceive_regsOk h
  | .selfCheckDone .. => execSelfCheckDone_regsOk h
  | .selfCheckResultReceive .. => execSelfCheckResultReceive_regsOk h
  | .selfCheckResultTimeout => execSelfCheckResultTimeout_regsOk h
  | .partnerSilence => .next (.ite h.setRsl.emit h)
  | .otdFrameBoundary .. => execOtdFrameBoundary_regsOk h
  | .otdConfigWrite .. => .next h.writeOtdCfg
  | .otdPhaseWrite .. => .next h.writeOtdPhase
  | .outputEnable .. => .next h.writeOutCfg
  | .outputDisable .. => .next h.writeOutCfg
  | .outputKill .. => .next h.writeOutCfg
  | .outputDrainDone .. => .next (.ite h.outputOff h)
  | .outputLine .. => execOutputLine_regsOk h
  | .overrideWrite .. => .next h.writeOutCfg
  | .patternGenConfig .. => .next h.writePat
  | .identWrite .. => .next h.writeIdent
  | .outAudioWrite .. => .next h.writeOutAud
  | .outSdiBond .. => .next h.writeOutSdi
  | .videoSenderBind .. => .next h.writeVsndCfg
  | .sourceSenderSrc .. => .next h.writeVsndSrc
  | .audioSenderBind .. => .next (.ite h.writeAsndFmt h.writeAsndCfg)
  | .ancSenderBind .. => .next h.writeXsndCfg
  | .videoPacketSend .. => .next (.ite h (.ite h.count (.sendRtp (.setSender (.ite h.count.irq h)))))
  | .audioPacketSend .. => .next (.ite h (.ite h.setSender.sendRtp.senderOff h.setSender.sendRtp))
  | .ancPacketSend .. => .next (.ite h h.sendRtp)
  | .senderStop .. => execSenderStop_regsOk h
  | .joinEntrySet .. => .next h.writeJoin
  | .joinEntryClear .. => .next h.writeJoin
  | .joinRepeatTimer .. => .next (.ite h h.report.setJoin)
  | .joinStallTimeout .. => .next (.ite h.setFld.irq.awlState h)
  | .joinQueryReceive .. => .next (.foldl h fun _ _ h1 => .ite h1.setJoin h1)
  | .joinQueryReport .. => .next (.ite h.report.setJoin h)
  | .joinOldQuerier .. => .next (.foldl h fun _ _ h1 => .ite h1.report.setFld.irq.awlState h1)
  | .joinOldQuerierTimeout .. => .next (.foldl h fun _ _ h1 => .ite h1.changeReport h1)
  | .healthRiseTimer .. => .next (.ite h.setHealth h.health)
  | .healthReleaseWrite .. => .next h.writeHealthCtrl
  | .egressDisable .. => .next h.writeEgrCtrl
  | .sqDoorbell .. => .next h.writeSqTail
  | .submissionAccept .. => .next (.ite h.takeSqe.showQueue h.showQueue)
  | .cqDoorbell .. => .next h.writeCqHead
  | .journalMirrorReceive .. => execJournalMirrorReceive_regsOk h
  | .journalMirrorReply .. => execJournalMirrorReply_regsOk h
  | .journalResendTimer .. => execJournalResendTimer_regsOk h
  | .frontierSend => .next (.ite h.emit h)
  | .frontierReceive .. => .next (.ite h h.upd.upd.setFld.setFld.setFlag.showQueues)
  | .entryStart .. => execEntryStart_regsOk h
  | .budgetTrap .. => execBudgetTrap_regsOk h
  | .journalEntryFree => execJournalEntryFree_regsOk h
  | .journalReplay .. => .next h.journalReplay
  | .warmResetAnnounce => .next (.ite h h.setFld.setFlag.showQueues)
  | .warmWaitTimeout => .next (.ite h.losePartner h)
  | .journalReconcile .. => .next (.awlUnstated (.foldl (.foldl h fun _ _ h1 => h1.emit) fun _ _ h1 => h1.copyEntry))
  | .partnerRejoin .. => execPartnerRejoin_regsOk h
  | .nimDisable .. => .next h.writeNimCtrl
  | .nimKill .. => .next h.writeNimCtrl
  | .nimDrainDone => .next (.ite h.killPrograms.setFlag.setFld h)
  | .serviceStart .. => .next (.foldl h fun _ _ h1 => .ite h1.setFld.irq h1.startSvc)
  | .serviceRestart .. => .next (.ite h.startSvc.setFld h)
  | .pairModeWrite .. => .next h.writePairCfg
  | .nimAdd .. => .next h.alu2
  | .nimSub .. => .next h.alu2
  | .nimAnd .. => .next h.alu2
  | .nimOr .. => .next h.alu2
  | .nimXor .. => .next h.alu2
  | .nimSll .. => .next h.alu2
  | .nimSrl .. => .next h.alu2
  | .nimSra .. => .next h.alu2
  | .nimMul .. => .next h.alu2
  | .nimMulhu .. => .next h.alu2
  | .nimDivu .. => .next h.alu2
  | .nimRemu .. => .next h.alu2
  | .nimMinu .. => .next h.alu2
  | .nimMaxu .. => .next h.alu2
  | .nimMin .. => .next h.alu2
  | .nimMax .. => .next h.alu2
  | .nimSxb .. => .next h.alu1
  | .nimSxh .. => .next h.alu1
  | .nimSxw .. => .next h.alu1
  | .nimClz .. => .next h.alu1
  | .nimPopc .. => .next h.alu1
  | .nimRdst .. => .next h.alu
  | .nimAddi .. => .next h.alu1
  | .nimAndi .. => .next h.alu1
  | .nimOri .. => .next h.alu1
  | .nimXori .. => .next h.alu1
  | .nimSlli .. => .next h.alu1
  | .nimSrli .. => .next h.alu1
  | .nimSrai .. => .next h.alu1
  | .nimLdi .. => .next h.alu
  | .nimLdk .. => .next h.alu
  | .nimCmp .. => .next h.alup
  | .nimCmpi .. => .next h.alup
  | .nimPand .. => .next h.plog
  | .nimPor .. => .next h.plog
  | .nimPxor .. => .next h.plog
  | .nimPandn .. => .next h.plog
  | .nimBr .. => .next h.branch
  | .nimCall .. => .next h.branch
  | .nimJr .. => .next h.branch
  | .nimLcall .. => .next h.branch
  | .nimLd .. => execNimLd_regsOk h
  | .nimSt .. => execNimSt_regsOk h
  | .nimAmoAdd .. => .next h.amo
  | .nimAmoSwap .. => .next h.amo
  | .nimAmoCas .. => .next h.amo
  | .nimBld .. => execNimBld_regsOk h
  | .nimBst .. => execNimBst_regsOk h
  | .nimBfence .. => .next (.onCore h (fun _ _ => .ok h.setCtx))
  | .nimFlowWrite .. => .next (.sigPlane h (fun _ _ _ _ _ h1 => .ite h1.sigReturn (.ite h1 h1.dirWrite)))
  | .nimFlowWithdraw .. => .next (.sigPlane h (fun _ _ _ _ _ h1 => .ite h1.sigReturn (.ite h1 h1.dirWithdraw)))
  | .nimLayer .. => .next (.sigPlane h (fun _ _ _ _ _ h1 => h1.layerWrite.sigReturn))
  | .nimCommit .. => .next (.sigPlane h (fun _ _ _ _ _ h1 => h1.commit.sigReturn))
  | .nimRdt .. => .next (.onCore h (fun _ _ => .ite (.ok h.setCtx) (.ite (.ok h.setCtx) (.ok h.setCtx))))
  | .nimNspSwitchPoint .. => .next h.nsp
  | .nimNspFrameBoundary .. => .next h.nsp
  | .nimJsub .. => execNimJsub_regsOk h
  | .nimJinfo .. => execNimJinfo_regsOk h
  | .nimPost .. => execNimPost_regsOk h
  | .nimSend .. => execNimSend_regsOk h
  | .nimReply .. => execNimReply_regsOk h
  | .nimRecvMsg .. => .next h.recv
  | .nimRecvTake .. => .next h.recv
  | .nimRecvDone .. => .next h.recv
  | .nimRecvRing .. => .next h.recv
  | .nimXmit .. => execNimXmit_regsOk h
  | .nimWait .. => execNimWait_regsOk h
  | .nimWaitWake .. => .next h.wakeSvc
  | .nimYield .. => .next (.onCore h (fun _ _ => .ok h.setCtx.setRunning.ready))
  | .nimHalt .. => .next (.onCore h (fun _ _ => .ok (.ite h h.haltCtx)))
  | .nimNop .. => .next (.onCore h (fun _ _ => .ok h.setCtx))
  | .nimSignalPlaneResult .. => execNimSignalPlaneResult_regsOk h
  | .tweedSampleWrite .. => execTweedSampleWrite_regsOk h
  | .tweedRunStart .. => execTweedRunStart_regsOk h
  | .tweedRunDeadline .. => execTweedRunDeadline_regsOk h
  | .tweedBlockPresent .. => .next (.twdIdle (.followTakes (.foldl (.ite h.setTwd.setFld h.setTwd) fun _ _ h1 => h1.emit)))
  | .tweedApplyArm .. => .next h.writeCoreAt
  | .twdImemWrite .. => .next h.writeImem
  | .twdPlaceWrite .. => .next h.writePlace
  | .twdFollowWrite .. => .next h.writeFollow
  | .bundleSenderWrite .. => .next (.ite h.writeBtxFlow h.writeBtxCfg)
  | .bundleReceiverWrite .. => .next h.writeBrxCfg
  | .tweedScrub .. => .next (.foldl h.count fun _ _ h1 => h1.repairRow)
  | .tweedCoreSwap .. => .next h.setFld.unitMoved
  | .tweedDisable .. => .next h.writeTwdCtrl
  | .tweedKill .. => .next h.writeTwdCtrl
  | .twdNop .. => .next h.bundle
  | .twdMac .. => .next h.bundle
  | .twdMsu .. => .next h.bundle
  | .twdMpy .. => .next h.bundle
  | .twdQmac .. => .next h.bundle
  | .twdQmsu .. => .next h.bundle
  | .twdQmpy .. => .next h.bundle
  | .twdClr .. => .next h.bundle
  | .twdRnd .. => .next h.bundle
  | .twdVadd .. => .next h.bundle
  | .twdVsub .. => .next h.bundle
  | .twdVmov .. => .next h.bundle
  | .twdVbc .. => .next h.bundle
  | .twdVtoa .. => .next h.bundle
  | .twdLoop .. => .next h.bundle
  | .twdLpr .. => .next h.bundle
  | .twdBr .. => .next h.bundle
  | .twdSetx .. => .next h.bundle
  | .twdSety .. => .next h.bundle
  | .twdEob .. => .next h.bundle
  | .twdVld .. => .next h.bundle
  | .twdVst .. => .next h.bundle
  | .twdVbl .. => .next h.bundle
  | .aspEnable .. => .next h.writeAspCfg
  | .aspDisable .. => .next h.writeAspCfg
  | .aspKill .. => .next h.writeAspCfg
  | .aspArm .. => .next h.writeAspCfg
  | .aspMaskWrite .. => .next h.writeAspMask
  | .aspFrameStart .. => .next (.ite h (.ite h.set.aspTxFrame h.set.aspRxFrame))
  | .aspBckMissing .. => .next (.ite h h.aspFault)
  | .aspWsMissing .. => .next (.ite h h.aspFault)
  | .aspClockFault .. => .next (.ite h.aspFault h)
  | .aspResync .. => .next (.ite h.setSect.setAspState (.ite h.setSect.setAspState.aspEvent h))
  | .aspRateChange .. => .next (.ite (.ite h.setAspState.setFld.aspEvent.aspRearm h.setAspState.setFld.aspEvent) h)
  | .aspDataStart .. => .next (.ite h.setSect.setAspState h)
  | .aspTailDone .. => .next (.ite h.aspToOff h)
  | .pipeEnable .. => .next h.writePipeCfg
  | .pipeDisable .. => .next h.writePipeCfg
  | .pipeKill .. => .next h.writePipeCfg
  | .pipeDrainDone .. => .next (.ite h.pipeStop h)
  | .surfaceConfigWrite .. => .next h.writeSurfCfg
  | .surfGenApply => execSurfGenApply_regsOk h
  | .bar2Access .. => execBar2Access_regsOk h
  | .vampDisable .. => .next h.writeVmpCtrl
  | .lastEvaluation .. => execLastEvaluation_regsOk h
  | .refLossDetect .. => .next h.refLost
  | .refValid .. => .next (.ite h (.ite h (.ite h h.setFlag.setFld.setFld.setLst)))
  | .refQualify .. => .next (.ite h.setFlag.setFld.setFld h)
  | .slewStep .. => execSlewStep_regsOk h
  | .lastLock => .next (.ite h.setLst.enterLst h)
  | .holdoverLost => .next h.toLost
  | .loopOpen .. => .next h.writeLstCtrl
  | .loopClose .. => .next h.writeLstCtrl
  | .steerWrite .. => .next h.writeSteer
  | .refCfgWrite .. => .next h.writeRefCfg
  | .oscHoldFail => .next h.setFlag.event.toLost
  | .refclkFail .. => .next h.setLst.refclkSettle
  | .laneClockUnqual .. => .next h.laneQual
  | .ageingRecord .. => .next (.ite h (.refit (.ite h.setLst.setFlag.awlUnstated h.setLst)))
  | .ageingReplan => .next (.ite h.showHold.set.setFlag.irq.awlCause h.showHold.set)
  | .tbSet .. => .next h.writeTbAdj
  | .tbStep .. => .next h.writeTbAdj
  | .tbModeWrite .. => .next h.writeTbCfg
  | .ptpMessageReceive .. => execPtpMessageReceive_regsOk h
  | .srvFeedWrite .. => .next h.writeFeed
  | .ptpAnnounceSend .. => .next (.ite h.ptpSend h)
  | .ptpSyncSend .. => .next (.ite (.ite h.ptpSend h.ptpSend.ptpSend) h)
  | .ptpDelayReqSend .. => .next (.ite h.ptpRequest h)
  | .ptpPdelayReqSend .. => .next (.ite h.ptpRequest h)
  | .announceTimeout .. => .next (.ite (.ite h.setFlag.irq.samplesStop h.setFlag.irq) h)
  | .servoSamplesStop .. => .next h.samplesStop
  | .ptpPortStateWrite .. => .next h.writePtpPort
  | .alignEdge .. => execAlignEdge_regsOk h
  | .triggerArm .. => .next h.writeTrg
  | .triggerFire .. => .next (.ite h.trgFire.trgPass h)
  | .triggerPulseEnd .. => .next (.ite (.ite h.setGpio.setTrg.setFld.ntmIdle h.setGpio.setTrg) h)
  | .triggerDrain .. => .next h.writeTrg
  | .triggerKill .. => .next h.writeTrg
  | .captureEdge .. => .next (.ite h (.ite h.count.irq h.setCap.showCap))
  | .captureRead .. => .next h.readCap
  | .ntmDisable .. => .next h.writeNtmCtrl
  | .laneLossOfLock .. => .next (.ite (.ite h.laneLol.receiverUnlock h.laneLol) (.ite h.laneLol.portFall h.laneLol))
  | .eyeMeasure .. => execEyeMeasure_regsOk h
  | .laneRecal .. => .next h.writeLaneCtrl
  | .laneRecalStep .. => .next h.recalStep
  | .laneRetrain .. => .next h.writeLaneCtrl
  | .txeqWrite .. => .next h.writeTxeq
  | .prbsWrite .. => .next h.writePrbs
  | .laceLinkEnable .. => .next h.writeLkCfg
  | .laceIdentityReceive .. => execLaceIdentityReceive_regsOk h
  | .laceIdentTimeout .. => .next (.ite h.setLkState.setFld h)
  | .laceRetry .. => .next (.ite h.startIdent (.ite h.emit h))
  | .laceRateStep .. => .next (.ite h.setLkState.setFld h)
  | .laceTrainDone .. => .next (.ite h.setLink.loadLink.setLkState h)
  | .laceQualEnd .. => .next (.ite h (.ite h.stepFails (.ite h.setFld.linkComesUp h.setFld.stepTo)))
  | .laceLinkDisable .. => .next h.writeLkCfg
  | .laceDrainDone .. => .next (.ite h.linkFall h)
  | .laceLinkKill .. => .next h.writeLkCfg
  | .laceLaneFail .. => .next h.laneFails
  | .laceAllLanesLost .. => .next (.ite h.linkFall h)
  | .laceSecondLaneLost .. => .next (.ite h.linkFall h)
  | .laceReaddAttempt .. => execLaceReaddAttempt_regsOk h
  | .laceReaddRetry .. => .next h.setLink
  | .laceLinkRetrain .. => .next h.writeLkCtrl
  | .laceLinkRecal .. => .next h.writeLkCtrl
  | .groupModeWrite .. => .next h.writeGrpCfg
  | .portEnable .. => .next h.writePortCfg
  | .portLinkUp .. => .next (.ite h.setPortState (.ite (.joinLinkUp (.irq (.setFld (.ite h.setPortState h)))) h))
  | .portTransmit .. => .next (.ite h (.ite h.transmit (.ite h.setPortState h)))
  | .pauseReceive .. => execPauseReceive_regsOk h
  | .pauseExpire .. => .next h.setNetPort.setFlag
  | .lpiEnter .. => .next (.ite h.setPortState.count h)
  | .wakeFrame .. => .next (.ite h.irq.wake.setFld.setPortState h)
  | .rxrTailDoorbell .. => .next h.writeRxrTail
  | .rxrCoalesceTimer .. => .next (.ite h (.ite h.setRxr.raiseVector h.setRxr))
  | .txrTailDoorbell .. => .next h.writeTxrTail
  | .txFrameComplete .. => execTxFrameComplete_regsOk h
  | .portDisable .. => .next h.writePortCfg
  | .portDrainDone .. => .next (.ite h.portStop.showNpt h)
  | .portKill .. => .next h.writePortCfg
  | .ringDisable .. => .next (.ite h.writeRxrCfg h.writeTxrCfg)
  | .nptDisable .. => .next h.writeNptCtrl
  | .hbmPpr .. => execHbmPpr_regsOk h
  | .unitTest .. => .next h.writeUnitCtrl
  | .unitSwap .. => .next h.writeUnitCtrl
  | .unitRetest .. => .next h.writeUnitCtrl
  | .autoTestTrigger .. => .next (.ite h (.ite (.ite h.set.startTest h.set.awlUnstated) h.set))
  | .inplaceCheckDone .. => .next (.ite h (.ite h.set.setFlag.setFld.unitStatus.awlState h.startUnitSwap))
  | .unitSwapPoint .. => .next (.ite h (.ite (.ite h.steer h) (.ite h h.unitMoved.blockMoved)))
  | .spareCheckFail .. => .next (.ite h h.spareFailed)
  | .offlineTestDone .. => execOfflineTestDone_regsOk h
  | .avsStep .. => .next (.ite (.ite h.setCore h.setRsl.setFlag.alarm) (.ite h.setRsl.setCore h.setRsl.setCore))
  | .coreAgeingRecord .. => .next (.ite h.setRsl.setFld.setFld.ageWarn h.setRsl.setFld.setFld)
  | .mramScrub .. => execMramScrub_regsOk h
  | .drainBoundExpire .. => execDrainBoundExpire_regsOk h
  | .partnerSilenceTimeout => .next h.losePartner
  | .partnerFencedNotice => .next h.losePartner
  | .partnerProbeTimeout => .next (.ite h.losePartner h)
  | .partnerProbeAnswer => .next (.ite h.setRsl.upd.count.alarm h)
  | .partnerReturn => .next (.ite h.setFld.setFld.setFlag.setFlag.setRsl.event.changeRole.showQueues h)
  | .spareLossNotice .. => .next (.ite h.setRsl h)
  | .spareClaimDelay => execSpareClaimDelay_regsOk h
  | .spareClaimReceive .. => execSpareClaimReceive_regsOk h
  | .spareClaimGrant .. => execSpareClaimGrant_regsOk h
  | .spareClaimTimeout => .next (.ite h.setFld.setFld h)
  | .spareAssume .. => .next h.writeSpareCtrl
  | .spareRelease .. => .next h.writeSpareCtrl
  | .fenceCommand .. => .next h.writeFence
  | .rejoinCommand .. => .next h.writeFence
  | .fenceRepairDone .. => .next (.ite h.setFld h)
  | .counterRecordWrite => .next h.writeCounters
  | .snapshotAuto => .next (.ite h (.ite h.snapResult h.startSnap))
  | .snapshotDemand .. => .next h.writeSetCtrl
  | .snapshotVerifyDone .. => execSnapshotVerifyDone_regsOk h
  | .demandRefill => .next h.setKeep.setFld
  | .awlWindowClose => .next h.setAwl
  | .awlRecordWrite .. => .next (.ite h h.writeOldest)
  | .awlFreeze .. => .next h.writeAwlCtrl
  | .awlUnfreeze .. => .next h.writeAwlCtrl
  | .awlFreezeExpire => .next (.ite h.setFrozen.irq.awlPersist h)
  | .awlReadIndex .. => .next h.writeRdIdx
  | .awlReadLatchDone .. => execAwlReadLatchDone_regsOk h
  | .awlClearGo .. => .next h.writeClrCtrl
  | .awlClearLockoutExpire => .next h.setAwl
  | .awlRetryMram .. => .next h.writeAwlCtrl
  | .awlRetryMramDone .. => .next (.ite h (.ite h.setAwl.setAwl.moveAwl h.setAwl))
  | .powerFailWarning .. => .next h.powerFail
  | .updHeader .. => execUpdHeader_regsOk h
  | .updData .. => execUpdData_regsOk h
  | .updDataProgrammed => execUpdDataProgrammed_regsOk h
  | .updEnd .. => execUpdEnd_regsOk h
  | .updBodyVerified .. => execUpdBodyVerified_regsOk h
  | .updAbortDatagram .. => .next (.datagram h (fun _ h1 => .owned h1 (fun _ h2 => h2.releaseLock.updAnswer)))
  | .updQuery .. => .next (.datagram h (fun _ h1 => .updAnswer (.ite h1.ownerSpoke h1)))
  | .updLockIdleTimeout => .next (.ite h.releaseLock h)
  | .updActivate .. => .next h.writeUpdCtrl
  | .updConfirm .. => .next h.writeUpdCtrl
  | .updFallback .. => .next h.writeUpdCtrl
  | .updCtrlAbort .. => .next h.writeUpdCtrl
  | .updConfirmTimeout => .next (.ite h.fallBack h)
  | .microcodeLoad .. => .next (.ite h.setUpd.setFlag h.setUpd.setFlag.awlUnstated)
  | .microcodeSwap .. => .next (.ite h.setUpd.setFlag h)
  | .porstFall .. => .next (.ite h h.powerFail.coldReset.setFld)
  | .porstRise .. => .next (.ite h (.ite h.setFld.setFld.setFlag h.setFld.setFld.setFlag.coldBoot))
  | .stbyPgRise => .next (.ite h h.setFld.setFlag.wake)
  | .stbyPgFall .. => execStbyPgFall_regsOk h
  | .warmRstAssert => .next (.ite h h.warmReset.setBoot)
  | .warmBoot .. => execWarmBoot_regsOk h
  | .glbWarmReset .. => .next h.writeGlbCtrl
  | .watchdogKick .. => .next h.writeKick
  | .watchdogTimeout => .next (.ite h.warmReset.awlUnstated h)
  | .pcieHotReset => .next (.ite h h.pcieReset)
  | .pciePerst => .next (.ite h h.pcieReset)
  | .bootRomDone .. => execBootRomDone_regsOk h
  | .imageVerifyDone .. => .next (.ite h (.ite h.badSlot h.stageEnds.setFld.lockDown.startAwl.stageEnds.setFld))
  | .hbmTrainDone .. => execHbmTrainDone_regsOk h
  | .hbmTrainFail .. => .next (.ite h h.setFld.setFld.setFld.alert.awlUnstated)
  | .stateRestoreDone .. => .next (.ite h h.restoreImage.stageEnds.setFld)
  | .lanesReady => .next (.ite h (.setFld (.stageEnds (.foldl h fun _ _ h1 => h1.startIdent))))
  | .replayPathTimeout => .next (.ite h h.losePartner.journalReplay)
  | .spareExit .. => execSpareExit_regsOk h
  | .glbRoleWrite .. => .next h.writeRole
  | .clockDomainRequest .. => .next h.requestClk
  | .pllLock .. => .next (.ite h.setClk.setFlag.serveClks h)
  | .pllLockTimeout .. => execPllLockTimeout_regsOk h
  | .clockHoldExpire .. => .next (.ite (.ite h.setFlag h.setFlag.setClk) h)
  | .clockStopDone .. => execClockStopDone_regsOk h
  | .thermalAlarm .. => .next (.ite h.showTemp.setBoot.alarm h.showTemp.setBoot)
  | .thermalTrip .. => .next (.ite h h.powerFail.coldReset.setFld.setBoot)
  | .thermalRecover .. => .next (.ite h h.setBoot.coldBoot)
  | .xtalFail => .next h.setFlag.event
  | .pmbusPoll .. => execPmbusPoll_regsOk h
  | .portFault .. => .next (.ite h.setFlag.setFlag.portFall h.setFlag.setFlag)
  | .oscHoldReturn .. => .next h.setFlag.laneQual
  | .refclkReturn .. => .next h.setLst.refclkSettle
  | .xtalReturn => .next h.setFlag
  | .partnerCompleteReport .. => .next h.setEntry
  | .partnerProbeReceive => .next (.ite h.emit h)
  | .msixVectorUnmask .. => .next h.setMask

theorem step_regsOk (h : RegsOk s) : Completes RegsOk (step s) := by
  unfold step
  split
  · exact .next h.idleTick
  · exact exec_regsOk _ h.upd

/-- Settles O5: one rule per operation of the model, chained along each command and along the idle tick. -/
theorem stepKeepsRegistersSound : Obligations.StepKeepsRegistersSound := by
  unfold Obligations.StepKeepsRegistersSound
  intro s t h e
  obtain ⟨u, hu, hok⟩ := step_regsOk h
  rw [e] at hu
  rwa [Host.Outcome.next.inj hu]

/-- Settles O4: at reset no register is listed, so every row is empty. -/
theorem registersSoundAtReset : Obligations.RegistersSoundAtReset := by
  unfold Obligations.RegistersSoundAtReset
  exact ⟨rfl, fun _ => ⟨rfl, fun _ _ m => absurd m List.not_mem_nil⟩⟩

end Sys2Proof.Machine
end

section
/-! Settles O1: the step's own equation on a queue with a front. -/

open Sys2Proof Sys2Proof.Machine

/-- Settles O1: on a queue with a front the step is by definition a run of that command over the rest. -/
theorem stepRunsFrontCommand : Obligations.StepRunsFrontCommand := by
  unfold Obligations.StepRunsFrontCommand
  intro c rest s
  rfl

end

section
/-! SUPPORT of O28: what the queues' display, a kill, a service's start and a change of the pair's settings do to the state. -/

namespace Sys2Proof.Machine

variable (s : State)

/-! ### Shared operations -/

/-- What every step of a fold keeps, the fold keeps. -/
theorem foldl_keeps {α β : Type} (f : State → β) {g : State → α → State} (hg : ∀ s x, f (g s x) = f s) (l : List α) :
    f (l.foldl g s) = f s :=
  (List.foldl_hom f (g₂ := fun b _ => b) fun s x => (hg s x).symm).symm.trans (List.foldl_fixed l)

/-- The numbers below k that satisfy what n alone satisfies are n. -/
theorem filter_range_eq_singleton {k n : Nat} {p : Nat → Bool} (hn : n < k) (hp : ∀ m < k, p m = decide (m = n)) :
    (List.range k).filter p = [n] := by
  rw [List.filter_congr (q := fun m => m == n) fun m hm => hp m (List.mem_range.mp hm), List.filter_beq,
    List.count_eq_one_of_mem List.nodup_range (List.mem_range.mpr hn), List.replicate_one]

/-- A write that is not closed to its requester is carried out (R663, R630). -/
theorem State.guarded_of_open {r : Reg} {src : Requester} (h : s.closedTo r src = false) (k : State → State) :
    s.guarded r src k = k s := by
  simp [State.guarded, h]

theorem State.showQueues_keeps : Frame ⟨[], [.NIM_Q_STAT]⟩ s s.showQueues :=
  Frame.foldl (fun _ _ h => State.showQueue_frame h (.refl _)) _ (.refl _ s)

@[simp] theorem State.showQueues_nim : s.showQueues.nim = s.nim := s.showQueues_keeps.parts .nim (by simp)
@[simp] theorem State.showQueues_resp : s.showQueues.resp = s.resp := s.showQueues_keeps.parts .resp (by simp)
theorem State.showQueues_reg {r : Reg} (h : r ≠ .NIM_Q_STAT) (i : Nat) : s.showQueues.reg r i = s.reg r i :=
  s.showQueues_keeps.regs r i (by simpa using h)
theorem State.showQueues_fld {g : Fld} (h : g.reg ≠ .NIM_Q_STAT) (i : Nat) : s.showQueues.fld g i = s.fld g i :=
  s.showQueues_keeps.fld (by simpa using h) i
theorem State.showQueues_flag {g : Fld} (h : g.reg ≠ .NIM_Q_STAT) (i : Nat) : s.showQueues.flag g i = s.flag g i :=
  s.showQueues_keeps.flag (by simpa using h) i

@[simp] theorem State.showCore_nim (core : Nat) : (s.showCore core).nim = s.nim := rfl

/-! ### Stopping every program (R274) -/

theorem State.killPrograms_keeps : Frame ⟨[.nim, .tks, .twl], [.NIM_CORE_STAT, .NIM_SVC_STAT, .NIM_REPLAY]⟩ s s.killPrograms :=
  State.killPrograms_frame (.refl _ s) (.refl _) (.refl _)

/-- No core runs a context any more. -/
@[simp] theorem State.killPrograms_running : s.killPrograms.nim.running = [] := by
  unfold State.killPrograms
  rw [State.setFld_nim, foldl_keeps _ State.nim fun s core => s.showCore_nim core]

/-- The journalled programs stay in the journal. -/
@[simp] theorem State.killPrograms_journal : s.killPrograms.nim.journal = s.nim.journal := by
  unfold State.killPrograms
  rw [State.setFld_nim, foldl_keeps _ State.nim fun s core => s.showCore_nim core]
  refine foldl_keeps s (fun s => s.nim.journal) (fun s e => ?_) _
  dsimp only
  split
  · rfl
  · split <;> rfl

/-! ### NIM_CTRL (R274) -/

/-- NIM_CTRL.EN reads as stored: its bit is writable. -/
theorem State.flag_store_NIM_CTRL_EN (v : Word) : (s.store .NIM_CTRL 0 v).flag F.NIM_CTRL_EN 0 = F.NIM_CTRL_EN.on v := by
  rw [State.flag, State.fld_store_same s (g := F.NIM_CTRL_EN) 0 v (by decide) (by decide)]
  rfl

/-- The write that clears EN of an enabled part starts the drain. -/
theorem State.writeNimCtrl_disable {src : Requester} (ho : s.closedTo .NIM_CTRL src = false) (he : s.flag F.NIM_CTRL_EN 0 = true) :
    s.writeNimCtrl src 0 =
      (((s.store .NIM_CTRL 0 0).setFlag F.NIM_STATUS_RUN 0 false).setFlag F.NIM_STATUS_DRAINING 0 true).showQueues := by
  rw [State.writeNimCtrl, State.guarded_of_open s ho]
  simp only [he]
  rfl

/-- The state in which a kill finds the programs: EN stored clear, and the drain of a part that was enabled begun. -/
def State.killBegun (s : State) : State :=
  let t := s.store .NIM_CTRL 0 0
  if s.flag F.NIM_CTRL_EN 0 then (t.setFlag F.NIM_STATUS_RUN 0 false).setFlag F.NIM_STATUS_DRAINING 0 true else t

/-- The write of KILL with EN clear stops the programs and ends the drain at once (log 54). -/
theorem State.writeNimCtrl_kill {src : Requester} (ho : s.closedTo .NIM_CTRL src = false) :
    s.writeNimCtrl src (F.NIM_CTRL_KILL.put 1 0) =
      (s.killBegun.killPrograms.setFlag F.NIM_STATUS_DRAINING 0 false).showQueues := by
  rw [State.writeNimCtrl, State.guarded_of_open s ho]
  rfl

theorem State.killBegun_nim : s.killBegun.nim = s.nim := by
  unfold State.killBegun
  dsimp only
  split <;> rfl

theorem State.killBegun_enabled : s.killBegun.flag F.NIM_CTRL_EN 0 = false := by
  have h0 : (s.store .NIM_CTRL 0 0).flag F.NIM_CTRL_EN 0 = false := s.flag_store_NIM_CTRL_EN 0
  unfold State.killBegun
  dsimp only
  split
  · rw [State.flag_setFlag_ne _ (by decide), State.flag_setFlag_ne _ (by decide), h0]
  · exact h0

/-! ### Contexts and services (R233, R275) -/

@[simp] theorem State.setRunning_ctx (core : Nat) (i : Option Nat) (x : Nat) : (s.setRunning core i).ctx x = s.ctx x := rfl
@[simp] theorem State.showCore_ctx (core x : Nat) : (s.showCore core).ctx x = s.ctx x := rfl
@[simp] theorem State.setSvc_ctx (n : Nat) (v : Service) (x : Nat) : (s.setSvc n v).ctx x = s.ctx x := rfl

/-- A core that resumes a context changes nothing of any context but how it runs. -/
theorem State.resume_ctx {α : Type} {f : NimCtx → α} (hf : ∀ c r, f { c with run := r } = f c) (core x : Nat) :
    f ((s.resume core).ctx x) = f (s.ctx x) := by
  unfold State.resume
  split
  · rfl
  · split
    · rfl
    · rename_i i _
      rw [State.setRunning_ctx]
      by_cases h : x = i
      · subst h
        rw [State.ctx_setCtx_same]
        exact hf _ _
      · rw [State.ctx_setCtx_ne _ h]

/-- A context that is made ready changes in how it runs and since when. -/
theorem State.ready_ctx_same {α : Type} {f : NimCtx → α} (hf : ∀ c r, f { c with run := r } = f c)
    (hg : ∀ c n, f { c with since := n } = f c) (x : Nat) : f ((s.ready x).ctx x) = f (s.ctx x) := by
  unfold State.ready
  dsimp only
  rw [State.resume_ctx _ hf]
  calc f ((s.setCtx x { s.ctx x with run := .ready, since := s.nim.readied + 1 }).ctx x)
      = f { { s.ctx x with run := .ready } with since := s.nim.readied + 1 } := by rw [State.ctx_setCtx_same]
    _ = f (s.ctx x) := (hg _ _).trans (hf _ _)

theorem State.resume_svc (core n : Nat) : (s.resume core).svc n = s.svc n := by
  unfold State.resume
  split
  · rfl
  · split <;> rfl

theorem State.ready_svc (x n : Nat) : (s.ready x).svc n = s.svc n := State.resume_svc _ _ n

/-- A start of a service slot ends in its context made ready, from a state that shows the slot RUNNING on that context, which
serves the slot and stands at ENTRY plus the offset. -/
theorem State.startSvc_eq (n off : Nat) : ∃ u : State, s.startSvc n off = (u.ready (s.svcContext n)).showCore (s.svcContext n / 8) ∧
    u.fld F.NIM_SVC_STAT_STATE n = 1 ∧ (u.svc n).at_ = some (s.svcContext n) ∧ (u.ctx (s.svcContext n)).slot = some n ∧
    (u.ctx (s.svcContext n)).pc = s.fld F.NIM_SVC_CFG_ENTRY n % 2 ^ 20 + off := by
  refine ⟨_, rfl, State.fld_setFld_same _ _ _ _ (by decide), ?_, ?_, ?_⟩
  · rw [State.setFld_svc, State.setSvc_svc]
  · rw [State.setFld_ctx, State.setSvc_ctx, State.ctx_setCtx_same, freshCtx]
  · rw [State.setFld_ctx, State.setSvc_ctx, State.ctx_setCtx_same, freshCtx]

theorem State.startSvc_state (n off : Nat) : (s.startSvc n off).fld F.NIM_SVC_STAT_STATE n = 1 := by
  obtain ⟨u, e, hf, -, -, -⟩ := s.startSvc_eq n off
  rw [e, State.showCore, State.fld_setFld_ne _ (by decide),
    (State.ready_frame (f := ⟨[.nim], []⟩) (.refl _ u) (.refl _)).fld (by simp), hf]

theorem State.startSvc_at (n off : Nat) : ((s.startSvc n off).svc n).at_ = some (s.svcContext n) := by
  obtain ⟨u, e, -, ha, -, -⟩ := s.startSvc_eq n off
  rw [e, State.showCore, State.setFld_svc, State.ready_svc, ha]

theorem State.startSvc_slot (n off : Nat) : ((s.startSvc n off).ctx (s.svcContext n)).slot = some n := by
  obtain ⟨u, e, -, -, hs, -⟩ := s.startSvc_eq n off
  rw [e, State.showCore_ctx, u.ready_ctx_same (f := NimCtx.slot) (fun _ _ => rfl) (fun _ _ => rfl), hs]

theorem State.startSvc_pc (n off : Nat) :
    ((s.startSvc n off).ctx (s.svcContext n)).pc = s.fld F.NIM_SVC_CFG_ENTRY n % 2 ^ 20 + off := by
  obtain ⟨u, e, -, -, -, hp⟩ := s.startSvc_eq n off
  rw [e, State.showCore_ctx, u.ready_ctx_same (f := NimCtx.pc) (fun _ _ => rfl) (fun _ _ => rfl), hp]

/-! ### NIM_PAIR_CFG (R26, R27, R281, R282) -/

/-- MODE 3, or a WARM_WAIT outside 100 to 10,000, is refused with BAD_ARG. -/
theorem State.writePairCfg_badArg {src : Requester} (ao pn pb : Bool) {v : Word} (ho : s.closedTo .NIM_PAIR_CFG src = false)
    (h : F.NIM_PAIR_CFG_MODE.of v = 3 ∨ F.NIM_PAIR_CFG_WARM_WAIT.of v < 100 ∨ 10000 < F.NIM_PAIR_CFG_WARM_WAIT.of v) :
    s.writePairCfg src ao pn pb v = s.answer .BAD_ARG := by
  rw [State.writePairCfg, State.guarded_of_open s ho]
  exact if_pos h

/-- A change of MODE that no order of affinity ALL asks for is refused (R282). -/
theorem State.writePairCfg_refused {src : Requester} {ao : Bool} (pn pb : Bool) {v : Word}
    (ho : s.closedTo .NIM_PAIR_CFG src = false) (h3 : F.NIM_PAIR_CFG_MODE.of v ≠ 3) (hlo : 100 ≤ F.NIM_PAIR_CFG_WARM_WAIT.of v)
    (hhi : F.NIM_PAIR_CFG_WARM_WAIT.of v ≤ 10000) (hm : F.NIM_PAIR_CFG_MODE.of v ≠ s.fld F.NIM_PAIR_CFG_MODE 0)
    (ha : ao = false ∨ src ≠ .work) : s.writePairCfg src ao pn pb v = s.answer .REFUSED_POLICY := by
  have ha' : (src == .work && ao) = false := by rcases ha with h | h <;> simp [h]
  have hb : ¬ (F.NIM_PAIR_CFG_MODE.of v = 3 ∨ F.NIM_PAIR_CFG_WARM_WAIT.of v < 100 ∨ 10000 < F.NIM_PAIR_CFG_WARM_WAIT.of v) := by
    omega
  rw [State.writePairCfg, State.guarded_of_open s ho]
  dsimp only
  rw [if_neg hb, if_neg (by simp [hm]), if_pos (by simp [ha'])]
  rfl

/-- An order of affinity ALL pairs the part with a partner that names it and is of the other side (R26, R27): the setting is
stored, and the partner is present. -/
theorem State.writePairCfg_mirrored {pb : Bool} {v : Word} (h1 : F.NIM_PAIR_CFG_MODE.of v = 1)
    (hlo : 100 ≤ F.NIM_PAIR_CFG_WARM_WAIT.of v) (hhi : F.NIM_PAIR_CFG_WARM_WAIT.of v ≤ 10000)
    (hm : s.fld F.NIM_PAIR_CFG_MODE 0 ≠ 1) (hs : pb ≠ s.sideB) : s.writePairCfg .work true true pb v =
      ((((((s.store .NIM_PAIR_CFG 0 v).setReg .NIM_PAIR_STAT 0 0).setFld F.NIM_PAIR_STAT_PARTNER 0 1).setFlag F.NIM_STATUS_ALONE 0
        false).setFlag F.NIM_STATUS_PARTNER_WAIT 0 false).setFlag F.RSL_STATUS_PARTNER_LOST 0 false).showQueues := by
  have hb : ¬ (1 = 3 ∨ F.NIM_PAIR_CFG_WARM_WAIT.of v < 100 ∨ 10000 < F.NIM_PAIR_CFG_WARM_WAIT.of v) := by omega
  have ho : s.closedTo .NIM_PAIR_CFG .work = false := rfl
  rw [State.writePairCfg, State.guarded_of_open s ho]
  dsimp only
  rw [h1, if_neg hb, if_neg (by simp [Ne.symm hm]), if_neg (by simp), if_neg (by simp [hs]), if_neg (by simp), if_pos rfl,
    if_neg (by simp)]

/-- What is shown of a pair just made: the setting as stored, and its partner present. -/
theorem State.writePairCfg_mirrored_shows {pb : Bool} {v : Word} (h1 : F.NIM_PAIR_CFG_MODE.of v = 1)
    (hlo : 100 ≤ F.NIM_PAIR_CFG_WARM_WAIT.of v) (hhi : F.NIM_PAIR_CFG_WARM_WAIT.of v ≤ 10000)
    (hm : s.fld F.NIM_PAIR_CFG_MODE 0 ≠ 1) (hs : pb ≠ s.sideB) :
    (s.writePairCfg .work true true pb v).reg .NIM_PAIR_CFG 0 = s.stored .NIM_PAIR_CFG 0 v ∧
      (s.writePairCfg .work true true pb v).fld F.NIM_PAIR_STAT_PARTNER 0 = 1 ∧ (s.writePairCfg .work true true pb v).resp = .OK := by
  rw [s.writePairCfg_mirrored h1 hlo hhi hm hs]
  refine ⟨?_, ?_, ?_⟩
  · rw [State.showQueues_reg _ (by decide), State.reg_setFlag_ne _ (by decide), State.reg_setFlag_ne _ (by decide),
      State.reg_setFlag_ne _ (by decide), State.reg_setFld_ne _ (by decide), State.reg_setReg_other _ (by decide),
      State.reg_store_same]
  · rw [State.showQueues_fld _ (by decide), State.fld_setFlag_ne _ (by decide), State.fld_setFlag_ne _ (by decide),
      State.fld_setFlag_ne _ (by decide), State.fld_setFld_same _ _ _ _ (by decide)]
    rfl
  · rw [State.showQueues_resp]
    rfl

/-! ### The commands -/

theorem exec_nimDisable (src : Requester) : exec (.nimDisable src) s = .next (s.writeNimCtrl src 0) := rfl
theorem exec_nimKill (src : Requester) : exec (.nimKill src) s = .next (s.writeNimCtrl src (F.NIM_CTRL_KILL.put 1 0)) := rfl
theorem exec_pairModeWrite (src : Requester) (ao pn pb : Bool) (w : Word32) :
    exec (.pairModeWrite src ao pn pb w) s = .next (s.writePairCfg src ao pn pb (w.setWidth 64)) := rfl

/-- A drain ends once every entry of the journal is COMPLETE (R274). -/
theorem exec_nimDrainDone (hd : s.flag F.NIM_STATUS_DRAINING 0 = true) (hj : ∀ e ∈ s.nim.journal, e.phase = .complete) :
    exec .nimDrainDone s = .next ((s.killPrograms.setFlag F.NIM_STATUS_DRAINING 0 false).setFld F.NIM_REPLAY_KILLED 0
      (s.fld F.NIM_REPLAY_KILLED 0)) :=
  congrArg Host.Outcome.next (if_pos (by simpa [hd] using hj))

/-- With no bad image and one slot enabled, SERVICE_START is that slot's start (R275). -/
theorem exec_serviceStart_only (n : Fin 32) (h : ∀ m : Fin 32, s.flag F.NIM_SVC_CFG_EN m = decide (m = n)) :
    exec (.serviceStart []) s = .next (s.startSvc n 0) := by
  have hl : ((List.range 32).filter fun m => s.flag F.NIM_SVC_CFG_EN m) = [n.val] :=
    filter_range_eq_singleton n.isLt fun m hm => (h ⟨m, hm⟩).trans (decide_eq_decide.mpr Fin.ext_iff)
  have he : exec (.serviceStart []) s = execServiceStart [] s := rfl
  rw [he, execServiceStart, hl]
  rfl

/-- A slot that shows a trap starts again, and its restarts count one more (R278). -/
theorem exec_serviceRestart (n : Fin 32) (h : s.fld F.NIM_SVC_STAT_STATE n = 3) :
    exec (.serviceRestart n) s = .next ((s.startSvc n 0).setFld F.NIM_SVC_STAT_RESTARTS n
      (satTo 16 (s.fld F.NIM_SVC_STAT_RESTARTS n + 1))) :=
  congrArg Host.Outcome.next (if_pos h)

end Sys2Proof.Machine
end

section
/-! Settles O28 from the equations of the writes of NIM_CTRL and NIM_PAIR_CFG and of a service's start. -/

open Sys2Proof Sys2Proof.Machine

/-- Settles O28, clause by clause: disable, kill, drain, start, restart, and the three answers of a pair write. A kill ends the
drain at once by log 54. -/
theorem nimadeDrainsServesAndPairs : Obligations.NimadeDrainsServesAndPairs := by
  unfold Obligations.NimadeDrainsServesAndPairs
  refine ⟨?disable, ?kill, ?drain, ?start, ?restart, ?badArg, ?refused, ?paired⟩
  case disable =>
    intro src s ho he
    rw [exec_nimDisable, s.writeNimCtrl_disable ho he]
    refine .next ⟨?_, ?_, ?_, ?_⟩
    · rw [State.showQueues_flag _ (by decide), State.flag_setFlag_ne _ (by decide), State.flag_setFlag_ne _ (by decide),
        State.flag_store_NIM_CTRL_EN]
      rfl
    · rw [State.showQueues_flag _ (by decide), State.flag_setFlag_disjoint (f := F.NIM_STATUS_DRAINING) (g := F.NIM_STATUS_RUN) _ 0
        true rfl (by decide) (by decide), State.flag_setFlag_same _ _ _ _ (by decide) rfl]
    · rw [State.showQueues_flag _ (by decide), State.flag_setFlag_same _ _ _ _ (by decide) rfl]
    · rw [State.showQueues_nim, State.setFlag_nim, State.setFlag_nim, State.store_nim]
  case kill =>
    intro src s ho
    rw [exec_nimKill, s.writeNimCtrl_kill ho]
    refine .next ⟨?_, ?_, ?_, ?_⟩
    · rw [State.showQueues_flag _ (by decide), State.flag_setFlag_ne _ (by decide),
        (State.killPrograms_keeps _).flag (by decide), State.killBegun_enabled]
    · rw [State.showQueues_flag _ (by decide), State.flag_setFlag_same _ _ _ _ (by decide) rfl]
    · rw [State.showQueues_nim, State.setFlag_nim, State.killPrograms_running]
    · rw [State.showQueues_nim, State.setFlag_nim, State.killPrograms_journal, State.killBegun_nim]
  case drain =>
    intro s hd hj
    rw [exec_nimDrainDone s hd hj]
    refine .next ⟨?_, ?_, ?_⟩
    · rw [State.flag_setFld_ne _ (by decide), State.flag_setFlag_same _ _ _ _ (by decide) rfl]
    · rw [State.setFld_nim, State.setFlag_nim, State.killPrograms_running]
    · rw [State.setFld_nim, State.setFlag_nim, State.killPrograms_journal]
  case start =>
    intro n s h
    rw [exec_serviceStart_only s n h]
    exact .next ⟨s.startSvc_state n 0, s.startSvc_at n 0, s.startSvc_slot n 0, s.startSvc_pc n 0⟩
  case restart =>
    intro n s h
    have hlt : satTo 16 (s.fld F.NIM_SVC_STAT_RESTARTS n + 1) < 2 ^ 16 := by unfold satTo; split <;> omega
    rw [exec_serviceRestart s n h]
    refine .next ⟨?_, ?_, ?_⟩
    · rw [State.fld_setFld_disjoint (f := F.NIM_SVC_STAT_RESTARTS) (g := F.NIM_SVC_STAT_STATE) _ n _ rfl (by decide) (by decide),
        State.startSvc_state]
    · rw [State.fld_setFld_same _ _ _ _ (by decide), Nat.mod_eq_of_lt hlt]
    · rw [State.setFld_svc, State.startSvc_at]
  case badArg =>
    intro src ao pn pb w s ho h
    rw [exec_pairModeWrite, s.writePairCfg_badArg ao pn pb ho h]
    exact .next rfl
  case refused =>
    intro src ao pn pb w s ho h3 hlo hhi hm ha
    rw [exec_pairModeWrite, s.writePairCfg_refused pn pb ho h3 hlo hhi hm ha]
    exact .next rfl
  case paired =>
    intro w pb s h1 hlo hhi hm hs
    rw [exec_pairModeWrite]
    obtain ⟨hcfg, hpartner, hresp⟩ := s.writePairCfg_mirrored_shows h1 hlo hhi hm hs
    exact .next ⟨hcfg, hpartner, by rw [State.partnerLost, hpartner]; rfl, hresp⟩

end
section
/-! SUPPORT of O8 and O11 to O14: the fields of a written word, and what the operations of an input do. -/

namespace Sys2Proof.Machine

variable (s : State)

/-! ### Fields of a word that is being written -/

theorem Fld.of_put_same (f : Fld) (x : Nat) (v : Word) (h : f.lo + f.len ≤ 64) : f.of (f.put x v) = x % 2 ^ f.len := by
  apply Nat.eq_of_testBit_eq
  intro k
  rw [Fld.of, Fld.put, bits_testBit, Nat.testBit_mod_two_pow]
  by_cases hk : k < f.len
  · rw [insertBits_getLsbD _ _ _ _ _ (by omega)]
    simp [hk]
  · simp [hk]

theorem Fld.of_put_disjoint {f g : Fld} (x : Nat) (v : Word) (hd : g.lo + g.len ≤ f.lo ∨ f.lo + f.len ≤ g.lo)
    (h : g.lo + g.len ≤ 64) : g.of (f.put x v) = g.of v := by
  apply Nat.eq_of_testBit_eq
  intro k
  rw [Fld.of, Fld.of, Fld.put, bits_testBit, bits_testBit]
  by_cases hk : k < g.len
  · rw [insertBits_getLsbD _ _ _ _ _ (by omega), if_neg (by omega)]
  · simp [hk]

theorem Fld.on_put_disjoint {f g : Fld} (x : Nat) (v : Word) (hd : g.lo + g.len ≤ f.lo ∨ f.lo + f.len ≤ g.lo)
    (h : g.lo + g.len ≤ 64) : g.on (f.put x v) = g.on v := by
  rw [Fld.on, Fld.on, Fld.of_put_disjoint x v hd h]

/-- A flag put into a word reads as put. -/
theorem Fld.on_put_same (f : Fld) (x : Nat) (v : Word) (h : f.lo + f.len ≤ 64) : f.on (f.put x v) = (x % 2 ^ f.len != 0) := by
  rw [Fld.on, Fld.of_put_same f x v h]

/-! ### What a read depends on -/

variable {s} in
theorem State.counted_congr {t : State} {r : Reg} {i : Nat} (h : t.reg r i = s.reg r i) (n : Nat) :
    t.counted r i n = s.counted r i n := by
  rw [State.counted, State.counted, h]

variable {s} in
theorem State.stored_congr {t : State} {r : Reg} {i : Nat} (h : t.reg r i = s.reg r i) (v : Word) :
    t.stored r i v = s.stored r i v := by
  rw [State.stored, State.stored, h]

variable {s} in
theorem State.inLive_congr {t : State} {n : Nat} (h : t.reg .ING_IN_STAT n = s.reg .ING_IN_STAT n) : t.inLive n = s.inLive n := by
  simp only [State.inLive, State.inState, State.fld, h]

theorem State.input_setInput_ne {n k : Nat} (h : k ≠ n) (x : Input) : (s.setInput n x).input k = s.input k :=
  Tbl.get_set_other _ _ _ _ _ h

/-- A change of an input's record that leaves f of that record leaves f of every record. -/
theorem State.setInput_keeps {α : Type} {f : Input → α} {n : Nat} {x : Input} (h : f x = f (s.input n)) (k : Nat) :
    f ((s.setInput n x).input k) = f (s.input k) := by
  by_cases hk : k = n
  · rw [hk, State.setInput_input, h]
  · rw [s.input_setInput_ne hk]

/-! ### A received line (R43 to R46) -/

/-- The state in which a line's CRC errors are counted (R46). -/
def State.crcCounted (n errors : Nat) : State :=
  if 2 ≤ (s.reg .ING_SDI_RATE n).toNat then s.count .ING_SDI_CRC n errors else s

/-- The state in which a line of lane n is written for input m: its packets are received and, on the first link, the line is
counted. -/
def State.lineWritten (n m : Nat) (deembed : Bool) (anc : List AncPkt) : State :=
  let t := anc.foldl (fun s p => s.receiveAnc n m deembed p) s
  if n = m then t.setInput m { t.input m with lines := (t.input m).lines + 1 } else t

theorem exec_sdiLineReceive {n : Fin 128} (hl : s.inLive (s.laneInput n) = true) (hk : (s.input n).lock = true) (k : Nat)
    (anc : List AncPkt) : ∃ deembed, exec (.sdiLineReceive n k anc) s =
      .next ((s.crcCounted n k).lineWritten n (s.laneInput n) deembed anc) :=
  ⟨_, if_pos (by rw [hl, hk]; rfl)⟩

@[simp] theorem State.crcCounted_input (n k i : Nat) : (s.crcCounted n k).input i = s.input i := by
  unfold State.crcCounted
  split <;> rfl

theorem State.crcCounted_reg {n : Nat} (h : 2 ≤ (s.reg .ING_SDI_RATE n).toNat) (k : Nat) :
    (s.crcCounted n k).reg .ING_SDI_CRC n = s.counted .ING_SDI_CRC n k := by
  rw [State.crcCounted, if_pos h, State.reg_count_counted]

/-- A received packet counts in no CRC counter: it changes the group display, the drop counter and the drop's cause. -/
theorem State.receiveAnc_keeps (n m : Nat) (deembed : Bool) (p : AncPkt) :
    Frame ⟨[.ing, .host, .sent], [.ING_SDI_AUDGRP, .ING_SDI_ANCDROP, .GLB_INT_SUM, .ING_INT_STAT]⟩ s
      (s.receiveAnc n m deembed p) := by
  unfold State.receiveAnc
  extract_lets t
  have ht : Frame ⟨[.ing, .host, .sent], [.ING_SDI_AUDGRP, .ING_SDI_ANCDROP, .GLB_INT_SUM, .ING_INT_STAT]⟩ s t := by
    unfold t
    split
    · exact .ite (State.setFld_frame (.refl _ _) (by simp)) (.refl _ _)
    · exact .refl _ _
  have hc := State.count_frame ht (r := .ING_SDI_ANCDROP) (by simp) (i := n) (n := 1)
  exact .ite (.ite hc (.ite (State.setInput_frame ht (by simp)) (State.irq_frame hc (by simp) (by decide)))) ht

/-- A received packet makes no frame bad: it counts in its frame's packets alone. -/
theorem State.receiveAnc_bad (n m : Nat) (deembed : Bool) (p : AncPkt) (k : Nat) :
    ((s.receiveAnc n m deembed p).input k).bad = (s.input k).bad := by
  unfold State.receiveAnc
  extract_lets t
  have ht : ∀ i, t.input i = s.input i := fun i => by
    unfold t
    split
    · split <;> rfl
    · rfl
  split
  · split
    · rw [State.count_input, ht]
    · split
      · exact (t.setInput_keeps (f := Input.bad) (by rfl) k).trans (congrArg Input.bad (ht k))
      · rw [State.irq_input, State.count_input, ht]
  · rw [ht]

theorem State.lineWritten_crc (n m : Nat) (deembed : Bool) (anc : List AncPkt) (i : Nat) :
    (s.lineWritten n m deembed anc).reg .ING_SDI_CRC i = s.reg .ING_SDI_CRC i := by
  have h : (anc.foldl (fun s p => s.receiveAnc n m deembed p) s).reg .ING_SDI_CRC i = s.reg .ING_SDI_CRC i :=
    foldl_keeps s (fun s => s.reg .ING_SDI_CRC i) (fun s p => (s.receiveAnc_keeps n m deembed p).regs _ i (by simp)) anc
  unfold State.lineWritten
  dsimp only
  split
  · exact h
  · exact h

theorem State.lineWritten_bad (n m : Nat) (deembed : Bool) (anc : List AncPkt) (k : Nat) :
    ((s.lineWritten n m deembed anc).input k).bad = (s.input k).bad := by
  have h : ((anc.foldl (fun s p => s.receiveAnc n m deembed p) s).input k).bad = (s.input k).bad :=
    foldl_keeps s (fun s => (s.input k).bad) (fun s p => s.receiveAnc_bad n m deembed p k) anc
  unfold State.lineWritten
  dsimp only
  split
  · exact (State.setInput_keeps _ (f := Input.bad) (by rfl) k).trans h
  · exact h

theorem State.lineWritten_lines (n : Nat) (deembed : Bool) :
    ((s.lineWritten n n deembed []).input n).lines = (s.input n).lines + 1 := by
  rw [State.lineWritten, if_pos rfl, State.setInput_input]
  rfl

end Sys2Proof.Machine
end

section
/-! Settles O8 from the equations of a received line. -/

open Sys2Proof Sys2Proof.Machine

/-- Settles O8: the errors are counted before the line is written, and writing it leaves the counter and the frame's fate. -/
theorem lineCrcErrorsAreCountedAndNoMore : Obligations.LineCrcErrorsAreCountedAndNoMore := by
  unfold Obligations.LineCrcErrorsAreCountedAndNoMore
  intro n k anc s hlive hlock hrate
  obtain ⟨deembed, e⟩ := exec_sdiLineReceive s hlive hlock k anc
  rw [e]
  refine .next ⟨?_, ?_⟩
  · rw [State.lineWritten_crc, s.crcCounted_reg hrate]
  · rw [State.lineWritten_bad, State.crcCounted_input]

end

section
/-! SUPPORT of O11 and O12: losing an input, the receiver of a video lane, and the end of a frame. -/

namespace Sys2Proof.Machine

variable (s : State)

/-! ### Losing an input (R73, R74, R81) -/

@[simp] theorem State.noteLoss_input (n k : Nat) : (s.noteLoss n).input k = s.input k := by
  rw [State.noteLoss, State.count_input, State.irq_input]

/-- Counting a loss from LOCKED, before an input goes black, leaves every input's record. -/
theorem State.noteLossIf_input (c : Prop) [Decidable c] (n k : Nat) : (if c then s.noteLoss n else s).input k = s.input k := by
  split
  · exact s.noteLoss_input n k
  · rfl

theorem State.enterBlack_input_same (n : Nat) : (s.enterBlack n).input n = { s.input n with shows := .black } := by
  rw [State.enterBlack, State.awlState_input, State.setInput_input, s.noteLossIf_input]

theorem State.enterBlack_input_ne {n k : Nat} (h : k ≠ n) : (s.enterBlack n).input k = s.input k := by
  rw [State.enterBlack, State.awlState_input, State.input_setInput_ne _ h]
  exact s.noteLossIf_input _ n k

/-- Going black changes of an input's record what it shows. -/
theorem State.enterBlack_keeps {α : Type} {f : Input → α} (hf : ∀ x p, f { x with shows := p } = f x) (n k : Nat) :
    f ((s.enterBlack n).input k) = f (s.input k) := by
  by_cases h : k = n
  · rw [h, s.enterBlack_input_same, hf]
  · rw [s.enterBlack_input_ne h]

/-- A live input that is lost shows the reason, is flagged lost and spoils the frame being written; a DIRECT one goes black as
well. -/
theorem State.loseInput_live {n : Nat} (h : s.inLive n = true) (reason : Nat) :
    s.loseInput n reason =
      let t := (s.setFld F.ING_IN_STAT_REASON n reason).setInput n { s.input n with lost := true, bad := true }
      if (s.input n).direct && t.inState n == inLocked then t.enterBlack n else t := by
  rw [State.loseInput, if_pos h]

/-- A live input that is not DIRECT is lost without a change of its state (R73). -/
theorem State.loseInput_sync {n : Nat} (h : s.inLive n = true) (hd : (s.input n).direct = false) (reason : Nat) :
    s.loseInput n reason = (s.setFld F.ING_IN_STAT_REASON n reason).setInput n { s.input n with lost := true, bad := true } := by
  rw [s.loseInput_live h, hd]
  rfl

theorem State.loseInput_lost {n : Nat} (h : s.inLive n = true) (reason : Nat) :
    ((s.loseInput n reason).input n).lost = true := by
  rw [s.loseInput_live h]
  dsimp only
  split
  · rw [State.enterBlack_keeps _ (f := Input.lost) (fun _ _ => rfl), State.setInput_input]
  · rw [State.setInput_input]

/-- A loss leaves each receiver's lock as it is. -/
theorem State.loseInput_lock (n reason k : Nat) : ((s.loseInput n reason).input k).lock = (s.input k).lock := by
  by_cases h : s.inLive n = true
  · have hx : (((s.setFld F.ING_IN_STAT_REASON n reason).setInput n { s.input n with lost := true, bad := true }).input k).lock =
        (s.input k).lock := State.setInput_keeps _ (f := Input.lock) (by rfl) k
    rw [s.loseInput_live h]
    dsimp only
    split
    · rw [State.enterBlack_keeps _ (f := Input.lock) (fun _ _ => rfl), hx]
    · exact hx
  · rw [State.loseInput, if_neg h]

/-- What a loss for a reason of three bits shows of an input that is not DIRECT. -/
theorem State.loseInput_shows {n reason : Nat} (h : s.inLive n = true) (hd : (s.input n).direct = false) (hr : reason < 8) :
    (s.loseInput n reason).fld F.ING_IN_STAT_REASON n = reason ∧ ((s.loseInput n reason).input n).lost = true ∧
      ((s.loseInput n reason).input n).bad = true := by
  rw [s.loseInput_sync h hd]
  refine ⟨?_, ?_, ?_⟩
  · rw [State.setInput_fld, State.fld_setFld_same _ _ _ _ (by decide)]
    exact Nat.mod_eq_of_lt hr
  · rw [State.setInput_input]
  · rw [State.setInput_input]

/-! ### The receiver of a lane (R38, R39) -/

theorem State.receiverUnlock_reg {n : Nat} {r : Reg} (h : r ≠ .ING_SDI_RATE) (i : Nat) :
    (s.receiverUnlock n).reg r i = s.reg r i := by
  rw [State.receiverUnlock, State.setInput_reg, State.reg_setReg_other _ h]

theorem State.receiverUnlock_laneInput (n k : Nat) : (s.receiverUnlock n).laneInput k = s.laneInput k := by
  rw [State.laneInput, State.laneInput, State.flag, State.flag, State.fld, State.fld, s.receiverUnlock_reg (by decide)]

theorem State.receiverUnlock_inLive (n k : Nat) : (s.receiverUnlock n).inLive k = s.inLive k :=
  State.inLive_congr (s.receiverUnlock_reg (by decide) k)

theorem State.receiverUnlock_lock (n : Nat) : ((s.receiverUnlock n).input n).lock = false := by
  rw [State.receiverUnlock, State.setInput_input]

theorem exec_sdiRateHuntDwell {n : Fin 128} (hl : s.inLive (s.laneInput n) = true) (hk : (s.input n).lock = false) :
    exec (.sdiRateHuntDwell n) s = .next (s.huntNext n) :=
  congrArg Host.Outcome.next (if_pos (by rw [hl, hk]; rfl))

theorem exec_sdiLock {n : Fin 128} (hl : s.videoRx n = true) (hk : (s.input n).lock = false) (hh : (s.input n).hunt ≠ 0) :
    exec (.sdiLock n) s = .next (s.receiverLock n (s.input n).hunt) :=
  congrArg Host.Outcome.next (if_pos (by simp [hl, hk, hh]))

/-- A loss of lock of 100 µs unlocks the receiver, loses its input with reason 1 and starts the hunt. -/
theorem exec_sdiLockLossTimeout (n : Fin 128) : ∃ hunt, exec (.sdiLockLossTimeout n) s =
    let t := (s.receiverUnlock n).loseInput (s.laneInput n) 1
    .next (t.setInput n { t.input n with hunt := hunt }) := by
  have h : exec (.sdiLockLossTimeout n) s = execSdiLockLossTimeout n s := rfl
  rw [h, execSdiLockLossTimeout]
  dsimp only
  rw [s.receiverUnlock_laneInput]
  exact ⟨_, rfl⟩

theorem exec_trsLoss (n : Fin 128) : exec (.trsLoss n) s = .next (s.loseInput (s.laneInput n) 2) := rfl

/-! ### The end of a frame (R39, R40, R74) -/

theorem State.closeSdiFrame_meas (n : Nat) : ((s.closeSdiFrame n).input n).meas = (s.input n).meas := by
  rw [State.closeSdiFrame, State.setInput_input]

theorem State.closeSdiFrame_nextNum (n : Nat) : ((s.closeSdiFrame n).input n).nextNum = (s.input n).nextNum + 1 := by
  rw [State.closeSdiFrame, State.setInput_input]

/-- The state in which a frame has ended with a measurement m and an ST 352 payload p that make no decision yet. -/
def State.frameEnded (n : Nat) (m : FrameMeas) (p : Pid) : State :=
  let t := ((s.closeSdiFrame n).setReg .ING_SDI_352 n (p.payload.setWidth 64)).setFlag F.ING_IN_FMT_PID_MISMATCH n (!pidAgrees m p)
  t.setInput n { t.input n with meas := some m }

/-- A frame of a structure that the last one did not have gives no decision (R40). -/
theorem exec_sdiFrameEnd {n : Fin 128} {m : FrameMeas} (p : Pid) (hl : s.inLive n = true) (hk : (s.input n).lock = true)
    (hn : s.laneInput n = n) (hm : (s.input n).meas ≠ some m) :
    exec (.sdiFrameEnd n m (some p) false) s = .next (s.frameEnded n m p) := by
  have h : exec (.sdiFrameEnd n m (some p) false) s = execSdiFrameEnd n m (some p) false s := rfl
  have ht : ((s.closeSdiFrame n).input n).meas ≠ some m := by rwa [s.closeSdiFrame_meas]
  rw [h, execSdiFrameEnd, if_pos (by simp [hl, hk, hn])]
  simp [ht, State.frameEnded]

theorem State.frameEnded_352 (n : Nat) (m : FrameMeas) (p : Pid) :
    (s.frameEnded n m p).reg .ING_SDI_352 n = p.payload.setWidth 64 := by
  have hf : Reg.fit .ING_SDI_352 (p.payload.setWidth 64) = p.payload.setWidth 64 := by
    apply BitVec.eq_of_toNat_eq
    rw [Reg.fit_toNat rfl, BitVec.toNat_setWidth]
    have := p.payload.isLt
    omega
  rw [State.frameEnded, State.setInput_reg, State.reg_setFlag_ne _ (by decide), State.reg_setReg_same, hf]

theorem State.frameEnded_mismatch (n : Nat) (m : FrameMeas) (p : Pid) :
    (s.frameEnded n m p).flag F.ING_IN_FMT_PID_MISMATCH n = true ↔ m.code ≠ p.code := by
  rw [State.frameEnded, State.setInput_flag, State.flag_setFlag_same _ _ _ _ (by decide) rfl]
  simp [pidAgrees]

theorem State.frameEnded_meas (n : Nat) (m : FrameMeas) (p : Pid) : ((s.frameEnded n m p).input n).meas = some m := by
  rw [State.frameEnded, State.setInput_input]

theorem State.frameEnded_nextNum (n : Nat) (m : FrameMeas) (p : Pid) :
    ((s.frameEnded n m p).input n).nextNum = (s.input n).nextNum + 1 := by
  rw [State.frameEnded, State.setInput_input]
  exact s.closeSdiFrame_nextNum n

/-- The interruption of a frame that is read while it is written counts it bad (R74). -/
theorem exec_syncReadInterrupt {n : Fin 128} (hl : s.inLive n = true) (hr : (s.input n).reading = true) :
    exec (.syncReadInterrupt n) s = .next ((s.count .ING_IN_BADFRM n 1).setInput n
      { s.input n with bad := true, badCounted := true, lastGood := (s.input n).prevGood }) :=
  congrArg Host.Outcome.next (if_pos (by rw [hl, hr]; rfl))

end Sys2Proof.Machine
end

section
/-! Settles O11 from the equations of the receiver's events. -/

open Sys2Proof Sys2Proof.Machine

/-- Settles O11, clause by clause: the hunt, the lock, its loss, the loss of TRS, a line, a frame's end and an interrupted
frame. -/
theorem sdiReceptionFollowsLockAndFormat : Obligations.SdiReceptionFollowsLockAndFormat := by
  unfold Obligations.SdiReceptionFollowsLockAndFormat
  refine ⟨?hunt, ?lock, ?unlock, ?trs, ?line, ?frameEnd, ?interrupt⟩
  case hunt =>
    intro n s hl hk
    rw [exec_sdiRateHuntDwell s hl hk]
    exact .next (by rw [State.huntNext, State.setInput_input])
  case lock =>
    intro n s hl hk hh h16
    rw [exec_sdiLock s hl hk hh, State.receiverLock]
    refine .next ⟨?_, ?_, ?_⟩
    · rw [State.setInput_reg, State.reg_setReg_same, Reg.fit_toNat rfl, BitVec.toNat_ofNat]
      omega
    · rw [State.setInput_input]
    · rw [State.setInput_input]
  case unlock =>
    intro n s hl
    obtain ⟨hunt, e⟩ := exec_sdiLockLossTimeout s n
    rw [e]
    refine .next ⟨?_, ?_⟩
    · rw [State.setInput_input]
      exact (State.loseInput_lock _ _ _ _).trans (s.receiverUnlock_lock n)
    · refine (State.setInput_keeps _ (f := Input.lost) (by rfl) _).trans ?_
      exact State.loseInput_lost _ (by rw [s.receiverUnlock_inLive, hl]) 1
  case trs =>
    intro n s hl hd
    rw [exec_trsLoss]
    exact .next (s.loseInput_shows hl hd (by decide))
  case line =>
    intro n k s hl hk
    obtain ⟨deembed, e⟩ := exec_sdiLineReceive s hl hk k []
    rw [e]
    refine .next ⟨fun hn => ?_, fun hrate => ?_⟩
    · rw [← hn, State.lineWritten_lines, State.crcCounted_input]
    · rw [State.lineWritten_crc, s.crcCounted_reg hrate]
  case frameEnd =>
    intro n m p s hl hk hn hm
    rw [exec_sdiFrameEnd s p hl hk hn hm]
    exact .next ⟨s.frameEnded_meas n m p, s.frameEnded_nextNum n m p, s.frameEnded_352 n m p, s.frameEnded_mismatch n m p⟩
  case interrupt =>
    intro n s hl hr
    rw [exec_syncReadInterrupt s hl hr]
    refine .next ⟨?_, ?_, ?_⟩
    · rw [State.setInput_reg, State.reg_count_counted]
    · rw [State.setInput_input]
    · rw [State.setInput_input]

end

section
/-! SUPPORT of O12: a frame at a network port that matches nothing, and the close of a picture that is not whole. -/

namespace Sys2Proof.Machine

variable (s : State)

/-! ### Reception at a port (R47, R506 to R510) -/

/-- The state in which a frame of a port is counted in frames and bytes. -/
def State.frameCounted (p len : Nat) : State := (s.count .NPT_RX_FRAMES p 1).count .NPT_RX_BYTES p len

theorem State.frameCounted_reg {r : Reg} (hf : r ≠ .NPT_RX_FRAMES) (hb : r ≠ .NPT_RX_BYTES) (p len i : Nat) :
    (s.frameCounted p len).reg r i = s.reg r i := by
  rw [State.frameCounted, State.reg_count_ne _ hb, State.reg_count_ne _ hf]

theorem State.frameCounted_frames (p len : Nat) : (s.frameCounted p len).reg .NPT_RX_FRAMES p = s.counted .NPT_RX_FRAMES p 1 := by
  rw [State.frameCounted, State.reg_count_ne _ (by decide), State.reg_count_counted]

theorem State.frameCounted_fld {g : Fld} (hf : g.reg ≠ .NPT_RX_FRAMES) (hb : g.reg ≠ .NPT_RX_BYTES) (p len i : Nat) :
    (s.frameCounted p len).fld g i = s.fld g i := by
  rw [State.frameCounted, State.fld_count_ne _ hb, State.fld_count_ne _ hf]

/-- A frame that meets every check of R506 to R510 goes on. -/
theorem State.macIn_passes {p : Nat} {f : RxFrame} (k : State → State) (hfcs : f.fcsOk = true) (hlo : 64 ≤ f.len)
    (hhi : f.len ≤ s.fld F.NPT_PORT_CFG_MTU p) (hvlan : f.vlan = none) (hdest : f.dest ≠ .other) (hsum : f.badSum = false) :
    s.macIn p f k = k (s.frameCounted p f.len) := by
  have hmtu : (s.frameCounted p f.len).fld F.NPT_PORT_CFG_MTU p = s.fld F.NPT_PORT_CFG_MTU p :=
    s.frameCounted_fld (by decide) (by decide) p f.len p
  have hlen : ¬ (f.len < 64 ∨ (s.frameCounted p f.len).fld F.NPT_PORT_CFG_MTU p < f.len) := by omega
  rw [State.macIn, ← State.frameCounted, if_neg (by simp [hfcs]), if_neg hlen, hvlan, if_neg (by simp), if_neg hdest,
    if_neg (by simp [hsum])]

theorem State.classify_unmatched {p : Nat} {f : RxFrame} (h : f.payload = .unmatched) :
    s.classify p f = s.count .ING_UNMATCHED (p / 4) 1 := by
  rw [State.classify, h]

/-- A frame that passes the checks at a port in service and matches nothing is counted, and counted as unmatched. -/
theorem exec_networkFrameReceive_unmatched {p : Fin 32} {f : RxFrame} (hw : s.portState p ≠ portWaking)
    (hup : s.linkUp p = true) (ho : s.portState p ≠ portWakeOnly) (hfcs : f.fcsOk = true) (hlo : 64 ≤ f.len)
    (hhi : f.len ≤ s.fld F.NPT_PORT_CFG_MTU p) (hvlan : f.vlan = none) (hdest : f.dest ≠ .other) (hsum : f.badSum = false)
    (hp : f.payload = .unmatched) :
    exec (.networkFrameReceive p f) s = .next ((s.frameCounted p f.len).count .ING_UNMATCHED (p / 4) 1) := by
  have h : exec (.networkFrameReceive p f) s = execNetworkFrameReceive p f s := rfl
  rw [h, execNetworkFrameReceive, if_neg hw, if_neg (by simp [hup, ho]), s.macIn_passes _ hfcs hlo hhi hvlan hdest hsum,
    State.classify_unmatched _ hp]

/-! ### The close of a picture (R51 to R53, R56) -/

/-- The state in which the differential of a two-leg flow is measured (R56). -/
def State.pdMeasured (m : Nat) (diff : BitVec 32) : State :=
  if s.inputPd (m + 128) = 0 then s else
    let t := s.setReg .ING_PKT_PDMEAS m (diff.setWidth 64)
    let above := decide (t.inputPd (m + 128) < diff.toInt.natAbs)
    let t := t.setFlag F.ING_PKT_STAT_PD_EXCEEDED m above
    if above then t.irq Irq.ING_PD_EXCEED else t

theorem State.pdMeasured_keeps (m : Nat) (diff : BitVec 32) :
    Frame ⟨[.host, .sent], [.ING_PKT_PDMEAS, .ING_PKT_STAT, .GLB_INT_SUM, .ING_INT_STAT]⟩ s (s.pdMeasured m diff) := by
  unfold State.pdMeasured
  dsimp only
  have h : ∀ b, Frame ⟨[.host, .sent], [.ING_PKT_PDMEAS, .ING_PKT_STAT, .GLB_INT_SUM, .ING_INT_STAT]⟩ s
      ((s.setReg .ING_PKT_PDMEAS m (diff.setWidth 64)).setFlag F.ING_PKT_STAT_PD_EXCEEDED m b) := fun b =>
    State.setFlag_frame ((Frame.refl _ s).setReg (by simp) m _) (by simp)
  exact .ite (.refl _ _) (.ite (State.irq_frame (h _) (by simp) (by decide)) (h _))

theorem State.pdMeasured_input (m : Nat) (diff : BitVec 32) (n : Nat) : (s.pdMeasured m diff).input n = s.input n := by
  have h : (s.pdMeasured m diff).ing = s.ing := (s.pdMeasured_keeps m diff).parts .ing (by decide)
  rw [State.input, State.input, h]

/-- A picture of which nothing was written is not whole: it is counted bad and its number recorded. It gives no decision when
the last picture did not have its form. -/
theorem exec_videoFrameClose_empty {m : Fin 256} {form : Form} (num : Nat) (diff : BitVec 32) (hl : s.inLive (m + 128) = true)
    (hf : (s.input (m + 128)).lastForm ≠ some form) (ho : (s.input (m + 128)).opening = [])
    (hpos : 0 < widthOf form.code * heightOf form.code) : ∃ x : Input,
    exec (.videoFrameClose m num form diff) s =
      .next (((s.count .ING_IN_BADFRM (m + 128) 1).setInput (m + 128) x).pdMeasured m diff) ∧
      x.closedTo = max (s.input (m + 128)).closedTo (num + 1) ∧ x.nextNum = num + 1 := by
  have h : exec (.videoFrameClose m num form diff) s = execVideoFrameClose m num form diff s := rfl
  rw [h, execVideoFrameClose, if_pos hl]
  simp only [ho, beq_eq_false_iff_ne.mpr hf, List.find?_nil, Option.getD_none, Nat.not_le.mpr hpos, decide_false, Bool.false_and,
    Bool.false_eq_true, if_false]
  exact ⟨_, rfl, rfl, rfl⟩

/-! ### Silence (R57, R73) -/

theorem exec_legSilence (m : Fin 256) (legB : Bool) : exec (.legSilence m legB) s =
    .next (s.setFlag (if legB then F.ING_PKT_STAT_PATH_B_OK else F.ING_PKT_STAT_PATH_A_OK) m false) := rfl

theorem exec_packetLossTimeout (m : Fin 256) : exec (.packetLossTimeout m) s = .next (s.loseInput (m + 128) 5) := rfl

end Sys2Proof.Machine
end

section
/-! Settles O12 from the equations of reception at a port, of a picture's close and of the losses. -/

open Sys2Proof Sys2Proof.Machine

/-- Settles O12, clause by clause: an unmatched frame, a picture's close, a silent leg and a silent input. -/
theorem packetInputsReceiveAndClose : Obligations.PacketInputsReceiveAndClose := by
  unfold Obligations.PacketInputsReceiveAndClose
  refine ⟨?receive, ?close, ?silence, ?loss⟩
  case receive =>
    intro p f s hw hup ho hfcs hlo hhi hvlan hdest hsum hp
    rw [exec_networkFrameReceive_unmatched s hw hup ho hfcs hlo hhi hvlan hdest hsum hp]
    refine .next ⟨?_, ?_⟩
    · rw [State.reg_count_ne _ (by decide), s.frameCounted_frames]
    · rw [State.reg_count_counted, State.counted_congr (s.frameCounted_reg (by decide) (by decide) p f.len _)]
  case close =>
    intro m num form diff s hl hf ho hpos
    obtain ⟨x, e, hclosed, hnext⟩ := exec_videoFrameClose_empty s num diff hl hf ho hpos
    rw [e]
    refine .next ⟨?_, ?_, ?_⟩
    · rw [State.pdMeasured_input, State.setInput_input, hclosed]
    · rw [State.pdMeasured_input, State.setInput_input, hnext]
    · rw [(State.pdMeasured_keeps _ m diff).regs _ _ (by simp), State.setInput_reg, State.reg_count_counted]
  case silence =>
    intro m legB s
    rw [exec_legSilence]
    exact .next (State.flag_setFlag_same _ _ _ _ (by cases legB <;> decide) (by cases legB <;> rfl))
  case loss =>
    intro m s hl hd
    rw [exec_packetLossTimeout]
    exact .next (s.loseInput_shows hl hd (by decide))

end

section
/-! SUPPORT of O13 and O14: reservations, rings, states of an input, and the branches of a write of ING_IN_CFG. -/

namespace Sys2Proof.Machine

variable (s : State)

/-! ### Reservations and rings (R50, R84) -/

theorem State.reserveIn_keeps {old new : Nat} {u : State} (h : s.reserveIn old new = some u) :
    Frame ⟨[], [.TWD_IN_RES]⟩ s u := by
  unfold State.reserveIn at h
  dsimp only at h
  split at h
  · rw [← Option.some.inj h]
    exact State.setFld_frame (.refl _ _) (by simp)
  · cases h

theorem State.resizeRing_keeps {n frames pages load : Nat} {u : State} (h : s.resizeRing n frames pages load = some u) :
    Frame ⟨[.ing, .host, .sent], [.ING_IN_ALLOC, .ING_POOL_USED, .GLB_INT_SUM, .ING_INT_STAT]⟩ s u := by
  unfold State.resizeRing at h
  dsimp only at h
  split at h
  · rw [← Option.some.inj h]
    have ht : ∀ (a b : Word) (x : Input),
        Frame ⟨[.ing, .host, .sent], [.ING_IN_ALLOC, .ING_POOL_USED, .GLB_INT_SUM, .ING_INT_STAT]⟩ s
          (((s.setReg .ING_IN_ALLOC n a).setReg .ING_POOL_USED 0 b).setInput n x) := fun a b x =>
      State.setInput_frame (((Frame.refl _ s).setReg (by simp) n a).setReg (by simp) 0 b) (by simp)
    exact .ite (State.irq_frame (ht _ _ _) (by simp) (by decide)) (ht _ _ _)
  · cases h

/-! ### The state of an input (R78) -/

theorem State.setInState_keeps (n st : Nat) : Frame ⟨[], [.ING_IN_STAT, .ING_LOSS_SUM]⟩ s (s.setInState n st) :=
  State.setInState_frame (.refl _ s) (.refl _)

theorem State.setInState_inState {n st : Nat} (h : st < 8) : (s.setInState n st).inState n = st := by
  rw [State.inState, State.setInState, State.fld_setFld_ne _ (by simp), State.fld_setFld_same _ _ _ _ (by decide)]
  exact Nat.mod_eq_of_lt h

@[simp] theorem State.setInState_input (n st k : Nat) : (s.setInState n st).input k = s.input k := rfl

theorem State.inLive_iff {n : Nat} : s.inLive n = true ↔ s.inState n ≠ inOff ∧ s.inState n ≠ inDraining := by
  simp [State.inLive]

/-! ### Draining and killing (Table 02.5, R80) -/

theorem State.drainInput_keeps (n : Nat) :
    Frame ⟨[], [.TWD_IN_RES, .ING_IN_STAT, .ING_LOSS_SUM]⟩ s (s.drainInput n) := by
  have hs : ∀ t, Frame ⟨[], [.TWD_IN_RES, .ING_IN_STAT, .ING_LOSS_SUM]⟩ s t →
      Frame ⟨[], [.TWD_IN_RES, .ING_IN_STAT, .ING_LOSS_SUM]⟩ s (t.setInState n inDraining) :=
    fun t h => State.setInState_frame h (by simp)
  unfold State.drainInput
  dsimp only
  split
  · rename_i u hu
    exact hs _ ((s.reserveIn_keeps hu).mono (by simp) (by simp))
  · exact hs _ (.refl _ _)

theorem State.drainInput_inState (n : Nat) : (s.drainInput n).inState n = inDraining :=
  State.setInState_inState _ (by decide)

/-- The record of an input that has just gone OFF: its ring is still to be freed unless it was killed. -/
def Input.switchedOff (x : Input) (killed : Bool) : Input :=
  { (default : Input) with
    lock := x.lock, hadRate := x.hadRate, hunt := x.hunt, alloc := x.alloc, load := x.load, dom := x.dom, pendFree := !killed }

/-- The state in which an input reads OFF, before a killed one's ring is freed. -/
def State.switchedOff (n : Nat) (killed : Bool) : State :=
  (((s.setInput n ((s.input n).switchedOff killed)).setReg .ING_IN_STAT n 0).setFlag F.ING_IN_STAT_KILLED n killed).setInState
    n inOff

theorem State.switchedOff_inState (n : Nat) (killed : Bool) : (s.switchedOff n killed).inState n = inOff :=
  State.setInState_inState _ (by decide)

theorem State.switchedOff_killed (n : Nat) (killed : Bool) : (s.switchedOff n killed).flag F.ING_IN_STAT_KILLED n = killed := by
  rw [State.switchedOff, State.setInState, State.flag_setFld_ne _ (by simp),
    State.flag_setFld_disjoint (f := F.ING_IN_STAT_STATE) (g := F.ING_IN_STAT_KILLED) _ n _ rfl (by decide) (by decide),
    State.flag_setFlag_same _ _ _ _ (by decide) rfl]

theorem State.switchedOff_input (n : Nat) (killed : Bool) : (s.switchedOff n killed).input n = (s.input n).switchedOff killed := by
  rw [State.switchedOff, State.setInState_input, State.setFlag_input, State.setReg_input, State.setInput_input]

/-- An input that goes OFF is switched off; a kill frees its ring at once; then no more than ING_STATUS changes. -/
theorem State.inputOff_after (n : Nat) (killed : Bool) : Frame ⟨[], [.ING_STATUS]⟩
    (if killed then (s.switchedOff n killed).freeRing n else s.switchedOff n killed) (s.inputOff n killed) :=
  .ite (State.setFlag_frame (.refl _ _) (by simp)) (.refl _ _)

theorem State.freeRing_keeps (n : Nat) : Frame ⟨[.ing], [.ING_POOL_USED, .ING_IN_ALLOC]⟩ s (s.freeRing n) :=
  State.freeRing_frame (.refl _ s) (.refl _) (.refl _)

theorem State.freeRing_alloc (n : Nat) : (s.freeRing n).reg .ING_IN_ALLOC n = 0 := by
  rw [State.freeRing, State.setInput_reg, State.reg_setReg_same]
  rfl

/-- A killed input reads OFF at once with KILLED set, and has no ring any more (R80). -/
theorem State.inputOff_killed (n : Nat) : (s.inputOff n true).inState n = inOff ∧
    (s.inputOff n true).flag F.ING_IN_STAT_KILLED n = true ∧ (s.inputOff n true).reg .ING_IN_ALLOC n = 0 := by
  have h := s.inputOff_after n true
  rw [if_pos rfl] at h
  refine ⟨?_, ?_, ?_⟩
  · rw [State.inState, h.fld (by simp), (State.freeRing_keeps _ n).fld (by simp)]
    exact s.switchedOff_inState n true
  · rw [h.flag (by simp), (State.freeRing_keeps _ n).flag (by simp), s.switchedOff_killed]
  · rw [h.regs _ _ (by simp), State.freeRing_alloc]

/-- An input whose drain is done reads OFF, and its ring is freed later. -/
theorem State.inputOff_drained (n : Nat) :
    (s.inputOff n false).inState n = inOff ∧ ((s.inputOff n false).input n).pendFree = true := by
  have h := s.inputOff_after n false
  rw [if_neg (by simp)] at h
  have hing : (s.inputOff n false).ing = (s.switchedOff n false).ing := h.parts .ing (by simp)
  refine ⟨?_, ?_⟩
  · rw [State.inState, h.fld (by simp)]
    exact s.switchedOff_inState n false
  · rw [State.input, hing]
    exact congrArg Input.pendFree (s.switchedOff_input n false)

theorem State.killInput_eq (n : Nat) : ∃ t : State, s.killInput n = t.inputOff n true := ⟨_, rfl⟩

/-! ### Enabling (R79) -/

/-- The state in which an input that has what it needs is ACQUIRING, from word v of ING_IN_CFG. -/
def State.inputBegun (n : Nat) (v : Word) (f : Form) (delay : Nat) (direct : Bool) : State :=
  let t := ((s.store .ING_IN_CFG n v).setReg .ING_IN_STAT n 0).setReg .ING_IN_FMT n 0
  (t.setInput n ((t.input n).fresh f (F.ING_IN_CFG_OTD.of v) delay direct)).setInState n inAcquiring

theorem State.inputBegun_inState (n : Nat) (v : Word) (f : Form) (delay : Nat) (direct : Bool) :
    (s.inputBegun n v f delay direct).inState n = inAcquiring :=
  State.setInState_inState _ (by decide)

theorem State.inputBegun_resp (n : Nat) (v : Word) (f : Form) (delay : Nat) (direct : Bool) :
    (s.inputBegun n v f delay direct).resp = .OK := rfl

theorem State.inputBegun_input (n : Nat) (v : Word) (f : Form) (delay : Nat) (direct : Bool) :
    (s.inputBegun n v f delay direct).input n = (s.input n).fresh f (F.ING_IN_CFG_OTD.of v) delay direct := by
  rw [State.inputBegun, State.setInState_input, State.setInput_input]
  rfl

theorem State.inputBegun_alloc (n : Nat) (v : Word) (f : Form) (delay : Nat) (direct : Bool) :
    (s.inputBegun n v f delay direct).reg .ING_IN_ALLOC n = s.reg .ING_IN_ALLOC n := by
  rw [State.inputBegun, (State.setInState_keeps _ n _).regs _ _ (by simp), State.setInput_reg, State.reg_setReg_other _ (by decide),
    State.reg_setReg_other _ (by decide), State.reg_store_ne _ (by decide)]

section
variable {s} {n : Nat} {v : Word} {u : State}
  (hb : ¬ (n % 4 ≠ 0 ∧ n < 128 ∧ s.flag F.ING_SDI_CFG_BOND (n / 4 * 4) = true)) (hv : s.vidFailed n = false)
  (hu : s.reserveIn 0 (s.sdiChannels n) = some u)
include hb hv hu

/-- In SYNC mode an input begins once its ring is held. -/
theorem State.enableInput_sync {w : State} (hm : F.ING_IN_CFG_MODE.of v = 0)
    (hw : u.resizeRing n (ringFrames (s.allocForm v) (s.inputPd n) (s.fld F.ING_IN_SYNC_DELAY_FRAMES n))
      (ringFrames (s.allocForm v) (s.inputPd n) (s.fld F.ING_IN_SYNC_DELAY_FRAMES n) * (s.allocForm v).pages)
      (s.allocForm v).load = some w) :
    s.enableInput n v = w.inputBegun n v (s.allocForm v) (s.fld F.ING_IN_SYNC_DELAY_FRAMES n) false := by
  rw [State.enableInput, if_neg hb, if_neg (by simp [hv]), if_neg (by simp [hm]), if_neg (by simp [hm]), hu]
  dsimp only
  rw [if_neg (by simp [hm]), hw, hm]
  rfl

/-- In DIRECT mode, without a delay and within the DIRECT limit, an input begins without a ring. -/
theorem State.enableInput_direct (hm : F.ING_IN_CFG_MODE.of v = 1) (hd : s.fld F.ING_IN_SYNC_DELAY_FRAMES n = 0)
    (hk : breaksDirect (s.allocForm v).code (s.inputPd n) = false) :
    s.enableInput n v = u.inputBegun n v (s.allocForm v) (s.fld F.ING_IN_SYNC_DELAY_FRAMES n) true := by
  rw [State.enableInput, if_neg hb, if_neg (by simp [hv]), if_neg (by simp [hd]), if_neg (by simp [hk]), hu]
  dsimp only
  rw [if_pos (by simp [hm]), hm]
  rfl

end

/-! ### Changes of an input that stays enabled (R65 to R72) -/

section
variable {s} {n : Nat} {v : Word} (hk : F.ING_IN_CFG_FMT_LOCK.on v = false)
include hk

/-- A change to DIRECT waits for the boundary (R72). -/
theorem State.changeInput_toDirect (ho : F.ING_IN_CFG_OTD.of v = s.fld F.ING_IN_CFG_OTD n) (hm : F.ING_IN_CFG_MODE.of v = 1)
    (hw : s.fld F.ING_IN_CFG_MODE n = 0) (hd : s.fld F.ING_IN_SYNC_DELAY_FRAMES n = 0)
    (hb : breaksDirect (s.input n).alloc.code (s.inputPd n) = false) :
    s.changeInput n v = (s.setInput n { s.input n with pendDirect := true }).store .ING_IN_CFG n v := by
  simp [State.changeInput, ho, hm, hw, hd, hb, hk]

/-- A change back to SYNC takes its ring and shows black at once (R72). -/
theorem State.changeInput_toSync {u : State} (ho : F.ING_IN_CFG_OTD.of v = s.fld F.ING_IN_CFG_OTD n)
    (hm : F.ING_IN_CFG_MODE.of v = 0) (hw : s.fld F.ING_IN_CFG_MODE n = 1) (hx : (s.input n).direct = true)
    (hu : s.resizeRing n (ringFrames (s.input n).alloc (s.inputPd n) (s.fld F.ING_IN_SYNC_DELAY_FRAMES n))
      (ringFrames (s.input n).alloc (s.inputPd n) (s.fld F.ING_IN_SYNC_DELAY_FRAMES n) * (s.input n).alloc.pages)
      (s.input n).alloc.load = some u) :
    s.changeInput n v = (u.setInput n { u.input n with
      pendDirect := false, direct := false, waiting := true, shows := .black, unread := [], pdBreak := false,
      lost := (u.input n).lost && !(u.input n).pdBreak }).store .ING_IN_CFG n v := by
  have hou : u.fld F.ING_IN_CFG_OTD n = s.fld F.ING_IN_CFG_OTD n := (s.resizeRing_keeps hu).fld (by simp) n
  simp [State.changeInput, ho, hou, hm, hw, hx, hu, hk]

/-- A change of domain of an input that keeps its mode waits for a boundary of the new domain (R67). -/
theorem State.changeInput_domain (ho : F.ING_IN_CFG_OTD.of v ≠ s.fld F.ING_IN_CFG_OTD n)
    (hdom : F.ING_IN_CFG_OTD.of v ≠ (s.input n).dom) (hm : F.ING_IN_CFG_MODE.of v = 0) (hw : s.fld F.ING_IN_CFG_MODE n = 0)
    (hf : (s.input n).fits = true) (hd : fitsDomain (s.input n).alloc.code (s.otdFormat (F.ING_IN_CFG_OTD.of v)) = true) :
    s.changeInput n v =
      (s.setInput n { s.input n with pendDom := some (F.ING_IN_CFG_OTD.of v) }).store .ING_IN_CFG n v := by
  simp [State.changeInput, ho, hdom, hm, hw, hf, hd, hk]

end

/-! ### The branches of a write of ING_IN_CFG (R79, R80, R86) -/

section
variable {s} {src : Requester} {n : Nat} {v : Word} (ho : s.closedTo .ING_IN_CFG src = false) (hb : badInCfg v = false)
include ho hb

theorem State.writeInCfg_enable (hs : s.inState n = inOff) (he : F.ING_IN_CFG_ENABLE.on v = true)
    (hc : s.flag F.ING_CTRL_EN 0 = true) (hd : s.otdEnabled (F.ING_IN_CFG_OTD.of v) = true) :
    s.writeInCfg src n v = s.enableInput n v := by
  rw [State.writeInCfg, State.guarded_of_open s ho]
  simp [hs, hb, he, hc, hd, inOff, inDraining]

theorem State.writeInCfg_change (hl : s.inLive n = true) (he : F.ING_IN_CFG_ENABLE.on v = true)
    (hc : s.flag F.ING_CTRL_EN 0 = true) (hd : s.otdEnabled (F.ING_IN_CFG_OTD.of v) = true) :
    s.writeInCfg src n v = s.changeInput n v := by
  obtain ⟨hoff, hdrain⟩ := s.inLive_iff.mp hl
  rw [State.writeInCfg, State.guarded_of_open s ho]
  simp [hoff, hdrain, hb, he, hc, hd]

theorem State.writeInCfg_disable (hl : s.inLive n = true) (he : F.ING_IN_CFG_ENABLE.on v = false)
    (hk : F.ING_IN_CFG_KILL.on v = false) : s.writeInCfg src n v = (s.drainInput n).store .ING_IN_CFG n v := by
  obtain ⟨hoff, hdrain⟩ := s.inLive_iff.mp hl
  rw [State.writeInCfg, State.guarded_of_open s ho]
  simp [hoff, hdrain, hb, he, hk]

theorem State.writeInCfg_kill (hs : s.inState n ≠ inOff) (he : F.ING_IN_CFG_ENABLE.on v = false)
    (hk : F.ING_IN_CFG_KILL.on v = true) : s.writeInCfg src n v = (s.killInput n).store .ING_IN_CFG n v := by
  rw [State.writeInCfg, State.guarded_of_open s ho]
  simp [hs, hb, he, hk]

end

theorem State.inCfgWith_enable (n : Nat) (en kill : Bool) : F.ING_IN_CFG_ENABLE.on (s.inCfgWith n en kill) = en := by
  rw [State.inCfgWith, Fld.on_put_disjoint _ _ (by decide) (by decide), Fld.on_put_same _ _ _ (by decide)]
  cases en <;> rfl

theorem State.inCfgWith_kill (n : Nat) (en kill : Bool) : F.ING_IN_CFG_KILL.on (s.inCfgWith n en kill) = kill := by
  rw [State.inCfgWith, Fld.on_put_same _ _ _ (by decide)]
  cases kill <;> rfl

/-- The word that INPUT_ENABLE writes has ENABLE set (R79). -/
theorem enable_on_enableWord (w : Word) :
    F.ING_IN_CFG_ENABLE.on (F.ING_IN_CFG_KILL.put 0 (F.ING_IN_CFG_ENABLE.put 1 w)) = true := by
  rw [Fld.on_put_disjoint _ _ (by decide) (by decide), Fld.on_put_same _ _ _ (by decide)]
  rfl

/-- ING_IN_CFG with another MODE is as it was in its other fields. -/
theorem State.modePut_reads {n x : Nat} {v : Word} (hv : v = F.ING_IN_CFG_MODE.put x (s.reg .ING_IN_CFG n)) :
    F.ING_IN_CFG_OTD.of v = s.fld F.ING_IN_CFG_OTD n ∧ F.ING_IN_CFG_ENABLE.on v = s.flag F.ING_IN_CFG_ENABLE n ∧
      F.ING_IN_CFG_FMT_LOCK.on v = s.flag F.ING_IN_CFG_FMT_LOCK n := by
  subst hv
  exact ⟨Fld.of_put_disjoint _ _ (by decide) (by decide), Fld.on_put_disjoint _ _ (by decide) (by decide),
    Fld.on_put_disjoint _ _ (by decide) (by decide)⟩

/-- ING_IN_CFG with another domain is as it was in its other fields. -/
theorem State.otdPut_reads {n x : Nat} {v : Word} (hv : v = F.ING_IN_CFG_OTD.put x (s.reg .ING_IN_CFG n)) :
    F.ING_IN_CFG_MODE.of v = s.fld F.ING_IN_CFG_MODE n ∧ F.ING_IN_CFG_ENABLE.on v = s.flag F.ING_IN_CFG_ENABLE n ∧
      F.ING_IN_CFG_FMT_LOCK.on v = s.flag F.ING_IN_CFG_FMT_LOCK n := by
  subst hv
  exact ⟨Fld.of_put_disjoint _ _ (by decide) (by decide), Fld.on_put_disjoint _ _ (by decide) (by decide),
    Fld.on_put_disjoint _ _ (by decide) (by decide)⟩

/-! ### The commands -/

theorem exec_inputEnable (src : Requester) (n : Fin 384) (w : Word32) : exec (.inputEnable src n w) s =
    .next (s.writeInCfg src n (F.ING_IN_CFG_KILL.put 0 (F.ING_IN_CFG_ENABLE.put 1 (w.setWidth 64)))) := rfl
theorem exec_inputDisable (src : Requester) (n : Fin 384) :
    exec (.inputDisable src n) s = .next (s.writeInCfg src n (s.inCfgWith n false false)) := rfl
theorem exec_inputKill (src : Requester) (n : Fin 384) :
    exec (.inputKill src n) s = .next (s.writeInCfg src n (s.inCfgWith n false true)) := rfl
theorem exec_inputModeChange (src : Requester) (n : Fin 384) (mode : BitVec 2) : exec (.inputModeChange src n mode) s =
    .next (s.writeInCfg src n (F.ING_IN_CFG_MODE.put mode.toNat (s.reg .ING_IN_CFG n))) := rfl
theorem exec_inputDomainChange (src : Requester) (n : Fin 384) (otd : Fin 8) : exec (.inputDomainChange src n otd) s =
    .next (s.writeInCfg src n (F.ING_IN_CFG_OTD.put otd (s.reg .ING_IN_CFG n))) := rfl

theorem exec_inputDrainDone {n : Fin 384} (h : s.inState n = inDraining) :
    exec (.inputDrainDone n) s = .next (s.inputOff n false) :=
  congrArg Host.Outcome.next (if_pos h)

end Sys2Proof.Machine
end

section
/-! Settles O13 from the branches of a write of ING_IN_CFG. -/

open Sys2Proof Sys2Proof.Machine

/-- Settles O13, clause by clause: enabled in SYNC and in DIRECT mode, disabled, killed, drained, and the changes of mode and of
domain. -/
theorem inputsEnableDrainAndKill : Obligations.InputsEnableDrainAndKill := by
  unfold Obligations.InputsEnableDrainAndKill
  refine ⟨?sync, ?direct, ?disable, ?kill, ?drained, ?toDirect, ?toSync, ?domain⟩
  case sync =>
    intro src n w word f frames u v s hw hm hf hfr ho hs hb hc hd hbond hvid hu hv
    subst f frames
    rw [exec_inputEnable, ← hw, State.writeInCfg_enable ho hb hs (hw ▸ enable_on_enableWord _) hc hd,
      State.enableInput_sync hbond hvid hu hm hv]
    refine .next ⟨v.inputBegun_inState _ _ _ _ _, v.inputBegun_resp _ _ _ _ _, ?_, ?_, v.inputBegun_alloc _ _ _ _ _⟩
    · rw [v.inputBegun_input]
      rfl
    · rw [v.inputBegun_input]
      rfl
  case direct =>
    intro src n w word u s hw hm ho hs hb hc hd hbond hvid hdelay hk hu
    rw [exec_inputEnable, ← hw, State.writeInCfg_enable ho hb hs (hw ▸ enable_on_enableWord _) hc hd,
      State.enableInput_direct hbond hvid hu hm hdelay hk]
    refine .next ⟨u.inputBegun_inState _ _ _ _ _, u.inputBegun_resp _ _ _ _ _, ?_, ?_⟩
    · rw [u.inputBegun_input]
      rfl
    · rw [u.inputBegun_alloc, (s.reserveIn_keeps hu).regs _ _ (by simp)]
  case disable =>
    intro src n s ho hl hb
    rw [exec_inputDisable, State.writeInCfg_disable ho hb hl (s.inCfgWith_enable _ _ _) (s.inCfgWith_kill _ _ _)]
    refine .next ⟨?_, State.store_resp _ _ _ _⟩
    rw [State.inState, State.fld_store_ne _ (by decide)]
    exact s.drainInput_inState n
  case kill =>
    intro src n s ho hs hb
    obtain ⟨t, ht⟩ := s.killInput_eq n
    obtain ⟨hoff, hkilled, halloc⟩ := t.inputOff_killed n
    rw [exec_inputKill, State.writeInCfg_kill ho hb hs (s.inCfgWith_enable _ _ _) (s.inCfgWith_kill _ _ _), ht]
    refine .next ⟨?_, ?_, State.store_resp _ _ _ _, ?_⟩
    · rwa [State.inState, State.fld_store_ne _ (by decide)]
    · rwa [State.flag_store_ne _ (by decide)]
    · rwa [State.reg_store_ne _ (by decide)]
  case drained =>
    intro n s hs
    rw [exec_inputDrainDone s hs]
    exact .next (s.inputOff_drained n)
  case toDirect =>
    intro src n word s hw ho hl he hb hc hd hm hdelay hk hlock
    obtain ⟨hotd, hen, hlk⟩ := s.modePut_reads hw
    have hmode : F.ING_IN_CFG_MODE.of word = 1 := hw ▸ Fld.of_put_same _ _ _ (by decide)
    rw [exec_inputModeChange, show (1 : BitVec 2).toNat = 1 from rfl, ← hw,
      State.writeInCfg_change ho hb hl (hen.trans he) hc (hotd ▸ hd),
      State.changeInput_toDirect (hlk.trans hlock) hotd hmode hm hdelay hk]
    refine .next ⟨?_, ?_, State.store_resp _ _ _ _⟩
    · rw [State.store_input, State.setInput_input]
    · rw [State.reg_store_same, State.stored_congr (s.setInput_reg _ _ _ _)]
  case toSync =>
    intro src n word u s hw ho hl he hb hc hd hm hx hlock hu
    obtain ⟨hotd, hen, hlk⟩ := s.modePut_reads hw
    have hmode : F.ING_IN_CFG_MODE.of word = 0 := hw ▸ Fld.of_put_same _ _ _ (by decide)
    rw [exec_inputModeChange, show (0 : BitVec 2).toNat = 0 from rfl, ← hw,
      State.writeInCfg_change ho hb hl (hen.trans he) hc (hotd ▸ hd),
      State.changeInput_toSync (hlk.trans hlock) hotd hmode hm hx hu]
    refine .next ⟨?_, ?_, ?_, ?_, State.store_resp _ _ _ _⟩
    · rw [State.store_input, State.setInput_input]
    · rw [State.store_input, State.setInput_input]
    · rw [State.store_input, State.setInput_input]
    · rw [State.reg_store_ne _ (by decide), State.setInput_reg]
  case domain =>
    intro src n otd word s hw ho hl he hb hc hd hne hdom hm hf hfit hlock
    have hotd : F.ING_IN_CFG_OTD.of word = otd.val := by
      rw [hw, Fld.of_put_same _ _ _ (by decide)]
      exact Nat.mod_eq_of_lt otd.isLt
    obtain ⟨hmode, hen, hlk⟩ := s.otdPut_reads hw
    rw [exec_inputDomainChange, ← hw, State.writeInCfg_change ho hb hl (hen.trans he) hc (hotd ▸ hd),
      State.changeInput_domain (hlk.trans hlock) (hotd ▸ hne.symm) (hotd ▸ hdom.symm) (hmode.trans hm) hm hf (hotd ▸ hfit)]
    refine .next ⟨?_, ?_, ?_, State.store_resp _ _ _ _⟩
    · rw [State.store_input, State.setInput_input, hotd]
    · rw [State.store_input, State.setInput_input]
    · rw [State.reg_store_same, State.stored_congr (s.setInput_reg _ _ _ _)]

end

section
/-! SUPPORT of O14: what an admitted write of each register of the ingress configuration does. -/

namespace Sys2Proof.Machine

variable (s : State)

section
variable {s} {src : Requester} {n : Nat} {v : Word}

/-! ### ING_IN_SYNC (R68, R69, R87) -/

/-- A word that changes no delay of a running synchroniser is stored. -/
theorem State.writeInSync_stores (ho : s.closedTo .ING_IN_SYNC src = false) (hs : F.ING_IN_SYNC_SAFE_LINES.of v ≠ 0)
    (hm : ¬ (s.fld F.ING_IN_CFG_MODE n = 1 ∧ F.ING_IN_SYNC_DELAY_FRAMES.of v ≠ 0))
    (h : s.inLive n = false ∨ F.ING_IN_SYNC_DELAY_FRAMES.of v = s.fld F.ING_IN_SYNC_DELAY_FRAMES n ∨ (s.input n).direct = true) :
    s.writeInSync src n v = s.store .ING_IN_SYNC n v := by
  rw [State.writeInSync, State.guarded_of_open s ho, if_neg hs, if_neg hm]
  exact if_pos (by simpa [or_assoc] using h)

/-- A change of DELAY_FRAMES of a running synchroniser grows its ring and waits for the boundary (R68). -/
theorem State.writeInSync_waits {u : State} (ho : s.closedTo .ING_IN_SYNC src = false) (hs : F.ING_IN_SYNC_SAFE_LINES.of v ≠ 0)
    (hm : ¬ (s.fld F.ING_IN_CFG_MODE n = 1 ∧ F.ING_IN_SYNC_DELAY_FRAMES.of v ≠ 0)) (hl : s.inLive n = true)
    (hx : (s.input n).direct = false) (hd : F.ING_IN_SYNC_DELAY_FRAMES.of v ≠ s.fld F.ING_IN_SYNC_DELAY_FRAMES n)
    (hu : s.growRing n (ringFrames (s.input n).alloc (s.inputPd n) (F.ING_IN_SYNC_DELAY_FRAMES.of v)) (s.input n).alloc = some u) :
    s.writeInSync src n v =
      (u.setInput n { u.input n with pendDelay := some (F.ING_IN_SYNC_DELAY_FRAMES.of v) }).store .ING_IN_SYNC n v := by
  rw [State.writeInSync, State.guarded_of_open s ho, if_neg hs, if_neg hm, if_neg (by simp [hl, hx, hd]), hu]

/-! ### ING_SDI_CFG (R38, R41, R50) -/

/-- On an input that is not live, a word of a legal rate that bonds no enabled input is stored. -/
theorem State.writeSdiCfg_stores (ho : s.closedTo .ING_SDI_CFG src = false) (hf : F.ING_SDI_CFG_RATE_FORCE.of v < 0xA)
    (hl : s.inLive n = false)
    (hb : F.ING_SDI_CFG_BOND.on v = true → s.flag F.ING_SDI_CFG_BOND n = false → n % 4 = 0 →
      ∀ k < 3, s.flag F.ING_IN_CFG_ENABLE (n + 1 + k) = false) :
    s.writeSdiCfg src n v = s.store .ING_SDI_CFG n v := by
  have hbond : ¬ (F.ING_SDI_CFG_BOND.on v && !s.flag F.ING_SDI_CFG_BOND n && n == n / 4 * 4 &&
      [n / 4 * 4 + 1, n / 4 * 4 + 2, n / 4 * 4 + 3].any (fun k => s.flag F.ING_IN_CFG_ENABLE k)) = true := by
    simp only [Bool.and_eq_true, Bool.not_eq_true', beq_iff_eq, List.any_cons, List.any_nil, Bool.or_eq_true]
    rintro ⟨⟨⟨hon, hoff⟩, hbase⟩, hany⟩
    have hen := hb hon hoff (by omega)
    rw [← hbase] at hany
    simp [hen 0 (by omega), hen 1 (by omega), hen 2 (by omega)] at hany
  have hl' : (s.store .ING_SDI_CFG n v).inLive n = false := (State.inLive_congr (s.reg_store_ne (by decide) _ _ _)).trans hl
  rw [State.writeSdiCfg, State.guarded_of_open s ho, if_neg (by omega), if_neg hbond, if_neg (by simp [hl])]
  exact if_neg (by simp [hl'])

end

section
variable {s} {src : Requester} {m : Nat} {v : Word}

/-! ### ING_PKT_VID (R49, R123) -/

/-- A legal binding is stored; nothing else than the input's record changes. -/
theorem State.writePktVid_stores (ho : s.closedTo .ING_PKT_VID src = false) (ht : F.ING_PKT_VID_TYPE.of v < 2)
    (hleg : s.isLegB (F.ING_PKT_VID_FLOW.of v) = false) (hb : s.flowBound (F.ING_PKT_VID_FLOW.of v) 0 m = false) :
    Frame ⟨[.ing], []⟩ (s.store .ING_PKT_VID m v) (s.writePktVid src m v) := by
  rw [State.writePktVid, State.guarded_of_open s ho, if_neg (by omega), if_neg (by simp [hleg]), if_neg (by simp [hb])]
  exact .ite (State.setInput_frame (.refl _ _) (by simp)) (.refl _ _)

/-- A first binding of a live input waits for the boundary. -/
theorem State.writePktVid_waits (ho : s.closedTo .ING_PKT_VID src = false) (ht : F.ING_PKT_VID_TYPE.of v < 2)
    (hv : F.ING_PKT_VID_VALID.on v = true) (hleg : s.isLegB (F.ING_PKT_VID_FLOW.of v) = false)
    (hb : s.flowBound (F.ING_PKT_VID_FLOW.of v) 0 m = false) (hl : s.inLive (m + 128) = true)
    (hold : s.flag F.ING_PKT_VID_VALID m = false) : ((s.writePktVid src m v).input (m + 128)).pendBind = true := by
  have hl' : (s.store .ING_PKT_VID m v).inLive (m + 128) = true :=
    (State.inLive_congr (s.reg_store_ne (by decide) _ _ _)).trans hl
  rw [State.writePktVid, State.guarded_of_open s ho, if_neg (by omega), if_neg (by simp [hleg]), if_neg (by simp [hb]),
    if_pos (by simp [hv, hold, hl']), State.setInput_input]

/-! ### ING_PKT_PD (R55, R71) -/

/-- On an input that is not live, a bound of at most 50 ms is stored; nothing else than the input's record changes. -/
theorem State.writePd_stores (ho : s.closedTo .ING_PKT_PD src = false) (hp : F.ING_PKT_PD_PD_MAX.of v ≤ 50000)
    (hl : s.inLive (m + 128) = false) (hm : s.fld F.ING_IN_CFG_MODE (m + 128) ≠ 1) :
    Frame ⟨[.ing], []⟩ (s.store .ING_PKT_PD m v) (s.writePd src m v) := by
  rw [State.writePd, State.guarded_of_open s ho, if_neg (by omega), if_neg (by simp [hm]), if_neg (by simp [hl])]
  exact .ite (State.setInput_frame (.refl _ _) (by simp)) (.refl _ _)

/-- On a live input with a two-leg flow that needs another ring, the bound is stored once the ring is given. -/
theorem State.writePd_grows {u : State} (ho : s.closedTo .ING_PKT_PD src = false) (hp : F.ING_PKT_PD_PD_MAX.of v ≤ 50000)
    (hl : s.inLive (m + 128) = true) (hv : s.flag F.ING_PKT_VID_VALID m = true)
    (htwo : s.twoLeg (s.fld F.ING_PKT_VID_FLOW m) = true) (hm : s.fld F.ING_IN_CFG_MODE (m + 128) ≠ 1)
    (hr : ringFrames (s.input (m + 128)).alloc (F.ING_PKT_PD_PD_MAX.of v) (s.fld F.ING_IN_SYNC_DELAY_FRAMES (m + 128)) ≠
      s.fld F.ING_IN_ALLOC_RING_FRAMES (m + 128))
    (hu : s.growRing (m + 128) (ringFrames (s.input (m + 128)).alloc (F.ING_PKT_PD_PD_MAX.of v)
      (s.fld F.ING_IN_SYNC_DELAY_FRAMES (m + 128))) (s.input (m + 128)).alloc = some u) :
    s.writePd src m v = u.store .ING_PKT_PD m v := by
  rw [State.writePd, State.guarded_of_open s ho, if_neg (by omega), if_neg (by simp [hm]),
    if_pos (by simp [hl, hv, htwo, hm, hr]), hu]

end

section
variable {s} {src : Requester} {a : Nat} {v : Word}

/-! ### The audio and ancillary contexts (R49, R50, R59) -/

/-- A legal audio binding is stored once its channels are reserved. -/
theorem State.writeAfl_stores {u : State} (ho : s.closedTo .ING_AFL_CFG src = false)
    (hi : packetInput (F.ING_AFL_CFG_INPUT.of v) = true ∨ F.ING_AFL_CFG_INPUT.of v = 0x1FF)
    (hv : F.ING_AFL_CFG_VALID.on v = true → s.isLegB (F.ING_AFL_CFG_FLOW.of v) = false ∧
      s.flowBound (F.ING_AFL_CFG_FLOW.of v) 1 a = false ∧
      (packetInput (F.ING_AFL_CFG_INPUT.of v) = true → s.audioOf (F.ING_AFL_CFG_INPUT.of v) a < 16))
    (hu : s.reserveIn (aflChannels (s.reg .ING_AFL_CFG a) (s.reg .ING_AFL_FMT a)) (aflChannels v (s.reg .ING_AFL_FMT a)) = some u) :
    s.writeAfl src a v = u.store .ING_AFL_CFG a v := by
  have hinput : ¬ (!packetInput (F.ING_AFL_CFG_INPUT.of v) && F.ING_AFL_CFG_INPUT.of v != 0x1FF) = true := by
    rcases hi with h | h <;> simp [h]
  rw [State.writeAfl, State.guarded_of_open s ho, if_neg hinput]
  cases hval : F.ING_AFL_CFG_VALID.on v with
  | false => simp [hu]
  | true =>
    obtain ⟨hleg, hbound, hroom⟩ := hv hval
    have hfull : ¬ (packetInput (F.ING_AFL_CFG_INPUT.of v) = true ∧ 16 ≤ s.audioOf (F.ING_AFL_CFG_INPUT.of v) a) :=
      fun h => absurd (hroom h.1) (by omega)
    simp [hleg, hbound, hfull, hu]

theorem State.writeAflOff_stores (ho : s.closedTo .ING_AFL_OFF src = false)
    (hlo : s.aflPtime a + 125 ≤ F.ING_AFL_OFF_OFFSET.of v) (hhi : F.ING_AFL_OFF_OFFSET.of v ≤ 60000) :
    s.writeAflOff src a v = s.store .ING_AFL_OFF a v := by
  rw [State.writeAflOff, State.guarded_of_open s ho]
  exact if_neg (by omega)

/-- A legal ancillary binding is stored. -/
theorem State.writeAnf_stores (ho : s.closedTo .ING_ANF_CFG src = false)
    (hv : F.ING_ANF_CFG_VALID.on v = true → packetInput (F.ING_ANF_CFG_INPUT.of v) = true ∧
      s.isLegB (F.ING_ANF_CFG_FLOW.of v) = false ∧ s.flowBound (F.ING_ANF_CFG_FLOW.of v) 2 a = false ∧
      s.ancOf (F.ING_ANF_CFG_INPUT.of v) a < 4 ∧ ¬ (s.flag F.ING_PKT_VID_VALID (F.ING_ANF_CFG_INPUT.of v - 128) = true ∧
        s.fld F.ING_PKT_VID_TYPE (F.ING_ANF_CFG_INPUT.of v - 128) = 1)) :
    s.writeAnf src a v = s.store .ING_ANF_CFG a v := by
  rw [State.writeAnf, State.guarded_of_open s ho]
  dsimp only
  cases hval : F.ING_ANF_CFG_VALID.on v with
  | false => simp
  | true =>
    obtain ⟨hinput, hleg, hbound, hroom, htype⟩ := hv hval
    simp only [Bool.true_and]
    rw [if_neg (by simp [hinput]), if_neg (by simp [hleg]), if_neg (by simp [hbound]), if_neg (by simpa using htype),
      if_neg (by simpa using hroom)]

/-! ### ING_POOL_PAGES (R83, R384) -/

/-- A pool of at most 30,393 pages that covers the pages in use and leaves the surfaces alone is stored; a low pool may raise its
cause. -/
theorem State.writePool_stores (ho : s.closedTo .ING_POOL_PAGES src = false) (hw : low32 v = v) (hmax : v.toNat ≤ 30393)
    (hused : (s.reg .ING_POOL_USED 0).toNat ≤ v.toNat)
    (hsurf : ∀ m < 256, s.flag F.VMP_SURF_CFG_VALID m = true → v.toNat ≤ s.fld F.VMP_SURF_CFG_FIRST m) :
    Frame ⟨[.host, .sent], [.GLB_INT_SUM, .ING_INT_STAT]⟩ (s.store .ING_POOL_PAGES 0 v) (s.writePool src v) := by
  rw [State.writePool, State.guarded_of_open s ho, hw, if_neg (by omega), if_neg (by omega), if_neg (by simpa using hsurf)]
  exact .ite (State.irq_frame (.refl _ _) (by simp) (by decide)) (.refl _ _)

end

/-! ### ING_CTRL (Table 02.9) -/

/-- Clearing EN drains the live inputs, and then shows that the block does not run. -/
theorem State.writeIngCtrl_disable {src : Requester} (ho : s.closedTo .ING_CTRL src = false) : ∃ (t : State) (draining : Bool),
    Frame ⟨[], [.TWD_IN_RES, .ING_IN_STAT, .ING_LOSS_SUM, .ING_IN_CFG]⟩ (s.store .ING_CTRL 0 0) t ∧
    s.writeIngCtrl src 0 = (t.setFlag F.ING_STATUS_RUN 0 false).setFlag F.ING_STATUS_DRAINING 0 draining := by
  have hstep : ∀ (s₀ t : State) (n : Nat), Frame ⟨[], [.TWD_IN_RES, .ING_IN_STAT, .ING_LOSS_SUM, .ING_IN_CFG]⟩ s₀ t →
      Frame ⟨[], [.TWD_IN_RES, .ING_IN_STAT, .ING_LOSS_SUM, .ING_IN_CFG]⟩ s₀
        (if t.inLive n then (t.drainInput n).setFlag F.ING_IN_CFG_ENABLE n false else t) := fun s₀ t n h =>
    .ite (State.setFlag_frame (h.trans ((t.drainInput_keeps n).mono (by simp) (by simp))) (by simp)) h
  rw [State.writeIngCtrl, State.guarded_of_open s ho, if_neg (by decide)]
  exact ⟨_, _, Frame.foldl (fun t n => hstep _ t n) _ (.refl _ _), rfl⟩

theorem State.flag_store_ING_CTRL_EN (v : Word) : (s.store .ING_CTRL 0 v).flag F.ING_CTRL_EN 0 = F.ING_CTRL_EN.on v := by
  rw [State.flag, State.fld_store_same s (g := F.ING_CTRL_EN) 0 v (by decide) (by decide)]
  rfl

theorem low32_setWidth (w : Word32) : low32 (w.setWidth 64) = w.setWidth 64 := by
  apply BitVec.eq_of_toNat_eq
  rw [low32_toNat, BitVec.toNat_setWidth]
  have := w.isLt
  omega

/-! ### The commands -/

theorem exec_delayFramesChange (src : Requester) (n : Fin 384) (w : Word32) :
    exec (.delayFramesChange src n w) s = .next (s.writeInSync src n (w.setWidth 64)) := rfl
theorem exec_videoFlowBinding (src : Requester) (m : Fin 256) (w : Word32) :
    exec (.videoFlowBinding src m w) s = .next (s.writePktVid src m (w.setWidth 64)) := rfl
theorem exec_pdMaxWrite (src : Requester) (m : Fin 256) (w : Word32) :
    exec (.pdMaxWrite src m w) s = .next (s.writePd src m (w.setWidth 64)) := rfl
theorem exec_audioContextBinding (src : Requester) (a : Fin 1024) (w : Word32) :
    exec (.audioContextBinding src a w) s = .next (s.writeAfl src a (w.setWidth 64)) := rfl
theorem exec_audioOffsetWrite (src : Requester) (a : Fin 1024) (w : Word32) :
    exec (.audioOffsetWrite src a w) s = .next (s.writeAflOff src a (w.setWidth 64)) := rfl
theorem exec_ancContextBinding (src : Requester) (a : Fin 512) (w : Word32) :
    exec (.ancContextBinding src a w) s = .next (s.writeAnf src a (w.setWidth 64)) := rfl
theorem exec_sdiCfgWrite (src : Requester) (n : Fin 128) (w : Word32) :
    exec (.sdiCfgWrite src n w) s = .next (s.writeSdiCfg src n (w.setWidth 64)) := rfl
theorem exec_poolPagesWrite (src : Requester) (w : Word32) :
    exec (.poolPagesWrite src w) s = .next (s.writePool src (w.setWidth 64)) := rfl
theorem exec_ingressDisable (src : Requester) : exec (.ingressDisable src) s = .next (s.writeIngCtrl src 0) := rfl

/-- A write that is a store reads as stored and answers OK. -/
theorem State.store_shows (r : Reg) (i : Nat) (v : Word) :
    (s.store r i v).reg r i = s.stored r i v ∧ (s.store r i v).resp = .OK := ⟨s.reg_store_same r i v, rfl⟩

/-- So does a write that changes elsewhere what a frame allows it. -/
theorem Frame.store_shows {f : Foot} {t : State} {r : Reg} {i : Nat} {v : Word} (h : Frame f (s.store r i v) t) (hr : r ∉ f.regs)
    (hp : .resp ∉ f.parts) : t.reg r i = s.stored r i v ∧ t.resp = .OK :=
  ⟨(h.regs r i hr).trans (s.reg_store_same r i v), h.parts .resp hp⟩

end Sys2Proof.Machine
end

section
/-! Settles O14 from the equations of the writes of the ingress configuration. -/

open Sys2Proof Sys2Proof.Machine

/-- Settles O14, clause by clause: each write is its register's store, with what waits for a boundary beside it. -/
theorem ingressConfigurationWrites : Obligations.IngressConfigurationWrites := by
  unfold Obligations.IngressConfigurationWrites
  refine ⟨?sync, ?delay, ?video, ?pd, ?pdLive, ?audio, ?offset, ?anc, ?sdi, ?pool, ?disable⟩
  case sync =>
    intro src n w word s hw ho hs hm h
    rw [exec_delayFramesChange, ← hw, State.writeInSync_stores ho hs hm h]
    exact .next (s.store_shows _ _ _)
  case delay =>
    intro src n w word u s hw ho hs hm hl hx hd hu
    rw [exec_delayFramesChange, ← hw, State.writeInSync_waits ho hs hm hl hx hd hu]
    refine .next ⟨?_, ?_, State.store_resp _ _ _ _⟩
    · rw [State.store_input, State.setInput_input]
    · rw [State.reg_store_ne _ (by decide), State.setInput_reg]
  case video =>
    intro src m w word s hw ho ht hv hleg hb
    rw [exec_videoFlowBinding, ← hw]
    obtain ⟨hreg, hresp⟩ := (State.writePktVid_stores ho ht hleg hb).store_shows s (by simp) (by simp)
    exact .next ⟨hreg, hresp, State.writePktVid_waits ho ht hv hleg hb⟩
  case pd =>
    intro src m w word s hw ho hp hl hm
    rw [exec_pdMaxWrite, ← hw]
    exact .next ((State.writePd_stores ho hp hl hm).store_shows s (by simp) (by simp))
  case pdLive =>
    intro src m w word u s hw ho hp hl hv htwo hm hr hu
    rw [exec_pdMaxWrite, ← hw, State.writePd_grows ho hp hl hv htwo hm hr hu]
    exact .next ⟨u.reg_store_same _ _ _, u.reg_store_ne (by decide) _ _ _, u.store_resp _ _ _⟩
  case audio =>
    intro src a w word u s hw ho hi hv hu
    rw [exec_audioContextBinding, ← hw, State.writeAfl_stores ho hi hv hu]
    refine .next ⟨?_, u.fld_store_ne (by decide) _ _ _, u.store_resp _ _ _⟩
    rw [State.reg_store_same, State.stored_congr ((s.reserveIn_keeps hu).regs _ _ (by simp))]
  case offset =>
    intro src a w word s hw ho hlo hhi
    rw [exec_audioOffsetWrite, ← hw, State.writeAflOff_stores ho hlo hhi]
    exact .next (s.store_shows _ _ _)
  case anc =>
    intro src a w word s hw ho hv
    rw [exec_ancContextBinding, ← hw, State.writeAnf_stores ho hv]
    exact .next (s.store_shows _ _ _)
  case sdi =>
    intro src n w word s hw ho hf hl hb
    rw [exec_sdiCfgWrite, ← hw, State.writeSdiCfg_stores ho hf hl fun hon hoff h4 k hk => hb hon hoff h4 ⟨k, hk⟩]
    exact .next (s.store_shows _ _ _)
  case pool =>
    intro src w word s hw ho hmax hused hsurf
    rw [exec_poolPagesWrite, ← hw]
    have h := State.writePool_stores ho (hw ▸ low32_setWidth w) hmax hused fun m hm => hsurf ⟨m, hm⟩
    exact .next (h.store_shows s (by simp) (by simp))
  case disable =>
    intro src s ho
    obtain ⟨t, draining, h, e⟩ := s.writeIngCtrl_disable ho
    rw [exec_ingressDisable, e]
    refine .next ⟨?_, ?_, ?_⟩
    · rw [State.flag_setFlag_disjoint (f := F.ING_STATUS_DRAINING) (g := F.ING_STATUS_RUN) _ 0 _ rfl (by decide) (by decide),
        State.flag_setFlag_same _ _ _ _ (by decide) rfl]
    · rw [State.flag_setFlag_ne _ (by decide), State.flag_setFlag_ne _ (by decide), h.flag (by simp), s.flag_store_ING_CTRL_EN]
      rfl
    · rw [State.setFlag_resp, State.setFlag_resp]
      exact h.parts .resp (by simp)

end

section
/-! SUPPORT of O7 and O17: a write of a word of the IPv6 prefixes. -/

namespace Sys2Proof.Machine

variable (s : State)

/-- A register whose 32 bits are all writable stores a word as it was written (R3, R4). -/
theorem State.stored_word32 {r : Reg} (hw : r.info.wide = false) (hm : r.info.mask = 2 ^ 32 - 1) (i : Nat) (w : Word32) :
    s.stored r i (w.setWidth 64) = w.setWidth 64 := by
  apply BitVec.eq_of_getLsbD_eq
  intro k hk
  have hmask : (BitVec.ofNat 64 r.info.mask).getLsbD k = decide (k < 32) := by
    rw [hm, BitVec.getLsbD_ofNat, Nat.testBit_two_pow_sub_one]
    simp [hk]
  rw [State.stored, Reg.fit_getLsbD r _ k hk, BitVec.getLsbD_or, BitVec.getLsbD_and, BitVec.getLsbD_and, BitVec.getLsbD_not, hmask,
    BitVec.getLsbD_setWidth, Reg.width, hw]
  by_cases h : k < 32
  · simp [h, hk]
  · simp [h, BitVec.getLsbD_of_ge w k (Nat.le_of_not_lt h)]

variable {s}

/-- While no valid entry has AF set, a word of the prefixes is stored. -/
theorem State.writeV6_stores {src : Requester} {r : Reg} (ho : s.closedTo r src = false)
    (h : s.dir.any (fun e => dirValid e.2 && e.2.getLsbD 126) = false) (i : Nat) (v : Word) :
    s.writeV6 src r i v = s.store r i v := by
  rw [State.writeV6, State.guarded_of_open s ho, if_neg (Bool.eq_false_iff.mp h)]

/-- A valid entry with AF set refuses a write of the prefixes. -/
theorem State.writeV6_refused {src : Requester} {r : Reg} (ho : s.closedTo r src = false)
    (h : s.dir.any (fun e => dirValid e.2 && e.2.getLsbD 126) = true) (i : Nat) (v : Word) :
    s.writeV6 src r i v = s.answer .REFUSED_POLICY := by
  rw [State.writeV6, State.guarded_of_open s ho, if_pos h, State.refuse]

theorem exec_v6PrefixWrite (src : Requester) (source : Bool) (ix : Fin 3) (w : Word32) (s : State) :
    exec (.v6PrefixWrite src source ix w) s =
      .next (s.writeV6 src (if source then .TWL_V6SRC else .TWL_V6PFX) ix (w.setWidth 64)) := rfl

end Sys2Proof.Machine
end

section
/-! Settles O7 from the two answers of a write of TWL_V6PFX or TWL_V6SRC. -/

open Sys2Proof Sys2Proof.Machine

/-- Settles O7: each register of the prefixes has 32 writable bits, so that a stored word reads as written; an entry in use refuses. -/
theorem prefixesAreFixedWhileTheyAreUsed : Obligations.PrefixesAreFixedWhileTheyAreUsed := by
  unfold Obligations.PrefixesAreFixedWhileTheyAreUsed
  refine ⟨?stored, ?refused⟩
  case stored =>
    intro src source ix w s ho hfree
    rw [exec_v6PrefixWrite, State.writeV6_stores ho (by simpa using hfree)]
    refine .next ⟨?_, State.store_resp _ _ _ _⟩
    rw [State.reg_store_same, State.stored_word32 _ (by cases source <;> rfl) (by cases source <;> rfl)]
  case refused =>
    intro src source ix w e s ho he hv haf
    rw [exec_v6PrefixWrite, State.writeV6_refused ho (List.any_eq_true.mpr ⟨e, he, by simp [hv, haf]⟩)]
    exact .next rfl

end

section
/-! SUPPORT of O15 to O18: what showing routes leaves alone, and what admission, settling and release do to the routes. -/

namespace Sys2Proof.Machine

variable (s : State)

/-! ### Calendars, delivery and display (R99, R100, R112) -/

/-- From s to t, calendars, delivery changes and the registers that show routes may have changed, and nothing else: the routes,
the directory's record and the state of each slice-port are as they were. -/
structure State.Displays (s t : State) : Prop where
  routes : t.twl.routes = s.twl.routes
  dirs : t.twl.dirs = s.twl.dirs
  spState : ∀ q, t.fld F.TWL_SP_STAT_STATE q = s.fld F.TWL_SP_STAT_STATE q
  frame : Frame ⟨[.twl], routeFoot⟩ s t

theorem State.Displays.refl : s.Displays s := ⟨rfl, rfl, fun _ => rfl, .refl _ s⟩

variable {s} in
theorem State.Displays.trans {t u : State} (h : s.Displays t) (k : t.Displays u) : s.Displays u :=
  ⟨k.routes.trans h.routes, k.dirs.trans h.dirs, fun q => (k.spState q).trans (h.spState q), h.frame.trans k.frame⟩

/-- A register that shows routes and is not TWL_SP_STAT may change. -/
theorem State.setReg_displays {r : Reg} (hr : r ∈ routeFoot) (hne : F.TWL_SP_STAT_STATE.reg ≠ r) (i : Nat) (v : Word) :
    s.Displays (s.setReg r i v) :=
  ⟨rfl, rfl, fun q => s.fld_setReg_ne hne i q v, (Frame.refl _ s).setReg hr i v⟩

theorem State.setPort_displays (p : Nat) (x : SlicePort) : s.Displays (s.setPort p x) :=
  ⟨rfl, rfl, fun _ => rfl, State.setPort_frame (.refl _ s) (.refl _)⟩

theorem State.fold_displays {α : Type} {g : State → α → State} (hg : ∀ s x, State.Displays s (g s x)) (l : List α) :
    s.Displays (l.foldl g s) := by
  induction l generalizing s with
  | nil => exact .refl s
  | cons x l ih => exact (hg s x).trans (ih (g s x))

/-- The number of streams stands in other bits of TWL_SP_STAT than the state. -/
theorem State.setStreams_displays (p n : Nat) : s.Displays (s.setFld F.TWL_SP_STAT_STREAMS p n) := by
  refine ⟨rfl, rfl, fun q => ?_, State.setFld_frame (.refl _ s) (by simp [routeFoot])⟩
  by_cases h : q = p
  · rw [h, State.fld_setFld_disjoint (f := F.TWL_SP_STAT_STREAMS) (g := F.TWL_SP_STAT_STATE) s p n rfl (by decide) (by decide)]
  · exact s.fld_setFld_other n (.inr h)

theorem State.showPort_displays (p : Nat) : s.Displays (s.showPort p) := by
  unfold State.showPort
  extract_lets _ _ _ _ s1 s2 s3
  have h3 : s.Displays s3 := ((s.setReg_displays (by simp [routeFoot]) (by decide) _ _).trans
    (s1.setReg_displays (by simp [routeFoot]) (by decide) _ _)).trans (s2.setStreams_displays _ _)
  split
  · exact h3
  · exact h3.trans (s3.setReg_displays (by simp [routeFoot]) (by decide) _ _)

theorem State.showRoute_displays (r : Route) : s.Displays (s.showRoute r) :=
  (s.fold_displays (fun s e => (s.setReg_displays (by simp [routeFoot]) (by decide) _ _).trans
    (State.showPort_displays _ e.1)) r.ing).trans (State.fold_displays _ (fun s p => s.showPort_displays p) r.egr)

/-- A change of the fabric's record that keeps the routes and the directory's record. -/
theorem State.setTwl_displays {x : Twl} (hr : x.routes = s.twl.routes) (hd : x.dirs = s.twl.dirs) :
    s.Displays { s with twl := x } := by
  refine ⟨hr, hd, fun _ => rfl, (Frame.refl _ s).of_parts (fun p hp => ?_) rfl⟩
  cases p
  case twl => exact absurd List.mem_cons_self hp
  all_goals rfl

theorem State.deliver_displays (flow : Nat) : s.Displays (s.deliver flow) := by
  have hupd : ∀ n t, s.Displays { s with twl := { s.twl with rsets := t, delivNext := s.twl.delivNext ++ [(flow, n)] } } :=
    fun _ _ => s.setTwl_displays rfl rfl
  unfold State.deliver
  extract_lets
  split
  · exact hupd 0 s.twl.rsets
  · split
    · exact hupd _ s.twl.rsets
    · split
      · exact .refl s
      · exact (hupd _ _).trans (State.setReg_displays _ (by simp [routeFoot]) (by decide) _ _)

/-! ### Settling and releasing (R99 to R101, R104, R105) -/

/-- Settling a request marks its route, and shows it. -/
theorem State.settle_displays (req : Nat) :
    (s.setRoutes (s.twl.routes.map fun q => if q.req = req then { q with settled := true } else q)).Displays (s.settle req) := by
  unfold State.settle
  split
  next hnone =>
    have hid : (s.twl.routes.map fun q => if q.req = req then { q with settled := true } else q) = s.twl.routes :=
      (List.map_congr_left fun q hq => if_neg (by simpa using List.find?_eq_none.mp hnone q hq)).trans s.twl.routes.map_id
    rw [hid]
    exact .refl s
  next r _ =>
    exact ((State.fold_displays _ (fun s e => s.setPort_displays _ _) r.ing).trans (State.showRoute_displays _ r)).trans
      (State.deliver_displays _ r.flow)

/-- A release drops the request's route, and shows what is left. -/
theorem State.release_displays (req : Nat) :
    (s.setRoutes (s.twl.routes.filter fun q => q.req ≠ req)).Displays (s.release req) := by
  unfold State.release
  split
  next hnone =>
    have hid : (s.twl.routes.filter fun q => q.req ≠ req) = s.twl.routes :=
      List.filter_eq_self.mpr fun q hq => by simpa using List.find?_eq_none.mp hnone q hq
    rw [hid]
    exact .refl s
  next r _ =>
    extract_lets s1 s2
    split
    · exact .refl s1
    · refine ((State.fold_displays _ (fun s e => ?_) r.ing).trans (State.showRoute_displays _ r)).trans (State.deliver_displays _ r.flow)
      dsimp only
      split
      · exact s.setPort_displays _ _
      · exact s.setPort_displays _ _

theorem State.setRoutes_keeps (l : List Route) : Frame ⟨[.twl], routeFoot⟩ s (s.setRoutes l) :=
  State.setRoutes_frame (.refl _ s) (.refl _)

theorem State.release_keeps (req : Nat) : Frame ⟨[.twl], routeFoot⟩ s (s.release req) :=
  (s.setRoutes_keeps _).trans (s.release_displays req).frame

@[simp] theorem State.settle_spState (req q : Nat) : (s.settle req).fld F.TWL_SP_STAT_STATE q = s.fld F.TWL_SP_STAT_STATE q :=
  (s.settle_displays req).spState q

@[simp] theorem State.release_spState (req q : Nat) : (s.release req).fld F.TWL_SP_STAT_STATE q = s.fld F.TWL_SP_STAT_STATE q :=
  (s.release_displays req).spState q

@[simp] theorem State.release_dirs (req : Nat) : (s.release req).twl.dirs = s.twl.dirs := (s.release_displays req).dirs

@[simp] theorem State.release_tks (req : Nat) : (s.release req).tks = s.tks := (s.release_keeps req).parts .tks (by simp)

variable {s} in
theorem State.route_congr {t : State} (h : t.twl.routes = s.twl.routes) (req : Nat) : t.route req = s.route req := by
  rw [State.route, State.route, h]

/-- A released route is gone. -/
theorem State.release_route (req : Nat) : (s.release req).route req = none := by
  rw [State.route_congr (s.release_displays req).routes]
  exact List.find?_eq_none.mpr fun q hq => by simpa using (List.mem_filter.mp hq).2

/-- A settled request's route is as it was, but settled. -/
theorem State.settle_route {req : Nat} {r : Route} (h : s.route req = some r) :
    (s.settle req).route req = some { r with settled := true } := by
  have hreq : r.req = req := by simpa using List.find?_some h
  have hcomp : ((fun q : Route => q.req == req) ∘ fun q => if q.req = req then { q with settled := true } else q) =
      fun q => q.req == req := by
    funext q
    by_cases hq : q.req = req <;> simp [hq]
  rw [State.route_congr (s.settle_displays req).routes]
  calc ((s.twl.routes.map fun q => if q.req = req then { q with settled := true } else q).find? fun q => q.req == req)
      = (s.route req).map fun q => if q.req = req then { q with settled := true } else q := by rw [List.find?_map, hcomp]; rfl
    _ = some { r with settled := true } := by rw [h, Option.map_some, if_pos hreq]

/-! ### Requests (R104, R105, R120) -/

theorem exec_routeRequest (h : RouteHop) : exec (.routeRequest h) s = .next ((s.hold h).1.answer (s.hold h).2) := rfl

variable {s}

/-- A request that passes its checks holds its route, last in the order of admission. -/
theorem State.hold_admitted {h : RouteHop} {r : Route} (ha : s.admitRoute h = .ok r) :
    s.hold h = ({ s with twl := { s.twl with routes := s.twl.routes ++ [r], orders := s.twl.orders + 1 } }, .OK) := by
  rw [State.hold, ha]

/-- A request that fails a check counts as refused. -/
theorem State.hold_refused {h : RouteHop} {e : Status} (ha : s.admitRoute h = .error e) :
    s.hold h = (s.count .TWL_ADMIT_REFUSED 0 1, e) := by
  rw [State.hold, ha]

theorem exec_rerouteStream_admitted {old : Nat} (link : Fin 16) {h : RouteHop} {r : Route}
    (ha : s.admitRoute { h with replaces := some old } = .ok r) :
    exec (.rerouteStream old link h) s = .next ((s.hold { h with replaces := some old }).1.answer .OK) := by
  have he : exec (.rerouteStream old link h) s = execRerouteStream old link h s := rfl
  rw [he, execRerouteStream, if_pos (by rw [State.hold_admitted ha])]

/-- A request that no pending take waits for is refused by its release alone: the outputs that waited for it wait no more. -/
theorem State.refuseRequest_twl {req : Nat} (hk : ∀ k ∈ s.tks.takes, k.req ≠ some req) (st : Status) :
    (s.refuseRequest req st).twl = (s.release req).twl := by
  have htakes : (s.release req).tks.takes.foldl (fun (s : State) t =>
      if t.req = some req ∧ t.routed = false then s.ownRefusal { t with req := none } st else s) (s.release req) = s.release req :=
    (List.foldl_ext _ (fun s _ => s) _ fun _ t ht => if_neg fun h => hk t (s.release_tks req ▸ ht) h.1).trans (List.foldl_fixed _)
  unfold State.refuseRequest
  dsimp only
  rw [htakes]
  exact foldl_keeps _ State.twl (fun s e => by split <;> rfl) _

theorem State.refuseRequest_route {req : Nat} (hk : ∀ k ∈ s.tks.takes, k.req ≠ some req) (st : Status) :
    (s.refuseRequest req st).route req = none := by
  rw [State.route_congr (congrArg Twl.routes (State.refuseRequest_twl hk st)), s.release_route]

@[simp] theorem State.refuseRequest_resp (req : Nat) (st : Status) : (s.refuseRequest req st).resp = st := rfl

theorem exec_routeSettle {req : Nat} {r : Route} (h : s.route req = some r) (hs : r.settled = false) :
    exec (.routeSettle req) s = .next (((s.settle req).routeReady req).answer .OK) := by
  have he : exec (.routeSettle req) s = execRouteSettle req s := rfl
  rw [he, execRouteSettle, h]
  exact congrArg Host.Outcome.next (if_neg (by simp [hs]))

theorem exec_holdReleaseReport {req : Nat} {r : Route} (h : s.route req = some r) (hs : r.settled = false) :
    exec (.holdReleaseReport req) s = .next (s.refuseRequest req .NO_PATH) := by
  have he : exec (.holdReleaseReport req) s = execHoldReleaseReport req s := rfl
  rw [he, execHoldReleaseReport, h]
  exact congrArg Host.Outcome.next (if_neg (by simp [hs]))

theorem exec_routeHoldTimeout {req : Nat} {r : Route} (h : s.route req = some r) (hs : r.settled = false) :
    exec (.routeHoldTimeout req) s =
      .next (if r.atDest then s.refuseRequest req .NO_PATH else (s.release req).emit (.holdReleased req)) := by
  have he : exec (.routeHoldTimeout req) s = execRouteHoldTimeout req s := rfl
  rw [he, execRouteHoldTimeout, h]
  exact congrArg Host.Outcome.next (if_neg (by simp [hs]))

end Sys2Proof.Machine
end

section
/-! Settles O15 from the equations of requests, of settling and of the release of holds. -/

open Sys2Proof Sys2Proof.Machine

/-- Settles O15, clause by clause: a request held, a request refused, the time-out of a hold on the way and at its destination, a
reported release, a settled request and a re-routed stream. -/
theorem routesHeldSettledAndReleased : Obligations.RoutesHeldSettledAndReleased := by
  unfold Obligations.RoutesHeldSettledAndReleased
  refine ⟨?held, ?refused, ?timeout, ?atDest, ?report, ?settle, ?reroute⟩
  case held =>
    intro h r s ha
    rw [exec_routeRequest, State.hold_admitted ha]
    exact .next ⟨rfl, rfl⟩
  case refused =>
    intro h e s ha
    rw [exec_routeRequest, State.hold_refused ha]
    exact .next ⟨s.reg_count_counted _ _ _, rfl, rfl⟩
  case timeout =>
    intro req r s h hs hd
    rw [exec_routeHoldTimeout h hs, if_neg (by simp [hd])]
    refine .next ⟨s.release_route req, ?_⟩
    rw [State.emit_sent, show (s.release req).sent = s.sent from (s.release_keeps req).parts .sent (by simp)]
  case atDest =>
    intro req r s h hs hd hk
    rw [exec_routeHoldTimeout h hs, if_pos hd]
    exact .next ⟨State.refuseRequest_route hk _, rfl⟩
  case report =>
    intro req r s h hs hk
    rw [exec_holdReleaseReport h hs]
    exact .next ⟨State.refuseRequest_route hk _, rfl⟩
  case settle =>
    intro req r s h hs
    have htwl : ((s.settle req).routeReady req).twl = (s.settle req).twl :=
      (State.routeReady_frame (.refl ⟨_, _⟩ (s.settle req)) (.refl _) (.refl _)).parts .twl (by simp)
    rw [exec_routeSettle h hs]
    refine .next ⟨?_, rfl⟩
    exact (State.route_congr (congrArg Twl.routes htwl) req).trans (s.settle_route h)
  case reroute =>
    intro old link h r s ha
    rw [exec_rerouteStream_admitted link ha, State.hold_admitted ha]
    exact .next ⟨rfl, rfl⟩

end

section
/-! SUPPORT of O16 and O17: changing every value of a sparse table, and the slice-ports after such a change. -/

namespace Sys2Proof.Machine

/-- A key that no entry names is not set. -/
theorem Tbl.get_foldl_set_absent {α : Type} [DecidableEq α] (d : Nat → α) (f : Nat → α → α) {k : Nat} (t a : Tbl α)
    (h : ∀ x ∈ t, x.1 ≠ k) : Tbl.get d (t.foldl (fun a x => Tbl.set d x.1 (f x.1 x.2) a) a) k = Tbl.get d a k := by
  induction t generalizing a with
  | nil => rfl
  | cons e t ih =>
    rw [List.foldl_cons, ih _ fun x hx => h x (List.mem_cons_of_mem e hx),
      Tbl.get_set_other _ _ _ _ _ (h e List.mem_cons_self).symm]

/-- In a table in canonical form every key is changed as its value is, when the change keeps the defaults. -/
theorem Tbl.get_mapVals {α : Type} [DecidableEq α] {d : Nat → α} {f : Nat → α → α} {t : Tbl α} (hwf : Tbl.wf d t = true)
    {k : Nat} (hd : f k (d k) = d k) : Tbl.get d (Tbl.mapVals d f t) k = f k (Tbl.get d t k) := by
  have hpw := ((Tbl.wf_iff d t).mp hwf).2
  suffices h : ∀ a : Tbl α, Tbl.get d a k = d k →
      Tbl.get d (t.foldl (fun a x => Tbl.set d x.1 (f x.1 x.2) a) a) k = f k (Tbl.get d t k) from h [] rfl
  clear hwf
  induction t with
  | nil => exact fun a ha => ha.trans hd.symm
  | cons e t ih =>
    intro a ha
    obtain ⟨hlt, hpw⟩ := List.pairwise_cons.mp hpw
    rw [List.foldl_cons]
    by_cases he : e.1 = k
    · rw [Tbl.get_foldl_set_absent d f t _ fun x hx => by have := hlt x hx; omega, he, Tbl.get_set_same, Tbl.get, if_pos he]
    · rw [Tbl.get, if_neg he]
      exact ih hpw _ (by rw [Tbl.get_set_other _ _ _ _ _ (Ne.symm he), ha])

/-- Whatever the table, each key reads its default or a changed value. -/
theorem Tbl.get_mapVals_cases {α : Type} [DecidableEq α] (d : Nat → α) (f : Nat → α → α) (t : Tbl α) (k : Nat) :
    Tbl.get d (Tbl.mapVals d f t) k = d k ∨ ∃ v, Tbl.get d (Tbl.mapVals d f t) k = f k v := by
  suffices h : ∀ a : Tbl α, (Tbl.get d a k = d k ∨ ∃ v, Tbl.get d a k = f k v) →
      Tbl.get d (t.foldl (fun a x => Tbl.set d x.1 (f x.1 x.2) a) a) k = d k ∨
        ∃ v, Tbl.get d (t.foldl (fun a x => Tbl.set d x.1 (f x.1 x.2) a) a) k = f k v from h [] (.inl rfl)
  induction t with
  | nil => exact fun a ha => ha
  | cons e t ih =>
    refine fun a ha => ih _ ?_
    by_cases he : k = e.1
    · exact .inr ⟨e.2, by rw [he, Tbl.get_set_same]⟩
    · rwa [Tbl.get_set_other _ _ _ _ _ he]

variable (s : State)

/-- Changing every slice-port changes each one, where the slice-port at rest stays as it is. -/
theorem State.mapPorts_port {f : SlicePort → SlicePort} (hwf : Tbl.wf (fun _ => default) s.twl.ports = true)
    (hd : f default = default) (p : Nat) : (s.mapPorts f).port p = f (s.port p) :=
  Tbl.get_mapVals (f := fun _ x => f x) hwf hd

/-- What every changed slice-port and the slice-port at rest have in common, every slice-port has afterwards. -/
theorem State.mapPorts_all {f : SlicePort → SlicePort} {P : SlicePort → Prop} (hd : P default) (hf : ∀ x, P (f x)) (p : Nat) :
    P ((s.mapPorts f).port p) := by
  rcases Tbl.get_mapVals_cases (fun _ => default) (fun _ x => f x) s.twl.ports p with h | ⟨v, h⟩
  · exact (congrArg P h).mpr hd
  · exact (congrArg P h).mpr (hf v)

end Sys2Proof.Machine
end

section
/-! SUPPORT of O16: cells, calendar slots, the period boundary, arbitrated queues and link-control cells. -/

namespace Sys2Proof.Machine

variable (s : State)

/-! ### Receiving a media cell (R94, R95) -/

/-- The SEQ check keeps what the cell says of its stream. -/
theorem State.checkSeq_last (p : Nat) (h : CellHdr) :
    Tbl.get (fun _ => 0) ((s.checkSeq p h).port p).last (cellFlow h * 2 ^ 19 + cellSrc h) =
      cellSeq h + cellFrame h * 2 ^ 16 + cellLine h * 2 ^ 24 + 1 := by
  unfold State.checkSeq
  extract_lets x key was now s1
  have h1 : Tbl.get (fun _ => 0) (s1.port p).last key = now := by
    rw [State.setPort_port, Tbl.get_set_same]
  split
  · exact h1
  · exact h1

theorem State.checkSeq_reg {r : Reg} (hr : r ≠ .TWL_SP_SEQ_GAP) (p : Nat) (h : CellHdr) (i : Nat) :
    (s.checkSeq p h).reg r i = s.reg r i :=
  (State.checkSeq_frame (.refl ⟨_, _⟩ s) (.refl _) (.refl _)).regs r i (by simpa using hr)

variable {s} in
/-- A media cell from the core whose codewords are corrected is counted and its SEQ is checked. -/
theorem exec_cellReceive_media {e0 e1 e2 e3 : Fin 4} {h : CellHdr} (hrun : s.flag F.TWL_STATUS_RUN 0 = true)
    (he : [e0, e1, e2, e3].contains 3 = false) (hk : cellKind h = 0) (p : Fin 168) (view : List (Nat × Nat)) :
    ∃ fixed, exec (.cellReceive p false h e0 e1 e2 e3 view) s =
      .next (((s.count .TWL_CW_CORR 0 fixed).count .TWL_SP_CELLS_OUT p 1).checkSeq p h) := by
  have hx : exec (.cellReceive p false h e0 e1 e2 e3 view) s = execCellReceive p false h e0 e1 e2 e3 view s := rfl
  have he' : [e0.val, e1.val, e2.val, e3.val].contains 3 = false := by
    simpa [Fin.ext_iff] using he
  rw [hx, execCellReceive]
  simp only [hrun, he', hk, State.takeCell, Bool.not_true, Bool.false_and, Bool.false_eq_true, if_false, if_true,
    show ¬ 4 ≤ 0 by decide]
  cases laceOf p <;> exact ⟨_, rfl⟩

/-! ### Calendar slots (R98, R108, R110) -/

/-- Showing the eligible queues notes the largest number of them, and changes nothing else of the slice-port. -/
theorem State.showEligible_port (p : Nat) : ∃ n, (s.showEligible p).port p = { s.port p with most := n } :=
  ⟨_, by rw [State.showEligible, State.setFld_port, State.setPort_port]⟩

theorem State.showEligible_reg {r : Reg} (hr : r ≠ .TWL_SP_AQ_ACTIVE) (p i : Nat) : (s.showEligible p).reg r i = s.reg r i :=
  (State.showEligible_frame (.refl ⟨_, _⟩ s) (.refl _) (.refl _)).regs r i (by simpa using hr)

theorem State.replicate_port (h : CellHdr) (relay : Bool) (p : Nat) : (s.replicate h relay).port p = s.port p := by
  rw [State.port, State.port,
    show (s.replicate h relay).twl = s.twl from
      (State.replicate_frame (.refl ⟨_, _⟩ s) (.refl _) (.refl _)).parts .twl (by simp)]

theorem State.replicate_cellsIn (h : CellHdr) (relay : Bool) (p : Nat) :
    (s.replicate h relay).reg .TWL_SP_CELLS_IN p = s.reg .TWL_SP_CELLS_IN p :=
  (State.replicate_frame (.refl ⟨_, _⟩ s) (.refl _) (.refl _)).regs _ p (by simp)

/-- A scheduled cell advances its context's SEQ and is counted. -/
theorem State.sendMedia_shows (p c : Nat) (h : CellHdr) :
    Tbl.get (fun _ => 0) ((s.sendMedia p c h).port p).ctxSeq c = (Tbl.get (fun _ => 0) (s.port p).ctxSeq c + 1) % 65536 ∧
      (s.sendMedia p c h).reg .TWL_SP_CELLS_IN p = s.counted .TWL_SP_CELLS_IN p 1 := by
  unfold State.sendMedia
  extract_lets x n _ _ s1 s2
  have hseq : Tbl.get (fun _ => 0) (s2.port p).ctxSeq c = (n + 1) % 65536 := by
    rw [State.count_port, State.count_port, State.setPort_port, Tbl.get_set_same]
  have hcount : s2.reg .TWL_SP_CELLS_IN p = s.counted .TWL_SP_CELLS_IN p 1 := by
    rw [State.reg_count_ne _ (by decide), State.reg_count_counted, State.counted_congr (s.setPort_reg _ _ _ _)]
  split
  · exact ⟨hseq, hcount⟩
  · exact ⟨by rw [State.replicate_port, hseq], by rw [State.replicate_cellsIn, hcount]⟩

variable {s} in
/-- A slot of a context whose stream has a cell ready sends it. -/
theorem exec_calendarSlot_scheduled {p : Fin 168} {slot : Fin 4096} {e : Nat} (h : CellHdr)
    (hrun : s.flag F.TWL_STATUS_RUN 0 = true) (hd : s.flag F.TWL_STATUS_DRAINING 0 = false)
    (he : e = Tbl.get (fun _ => 0) (s.port p).cal slot) (hs : 32768 ≤ e) :
    exec (.calendarSlot p slot (some h)) s = .next ((s.showEligible p).sendMedia p (e % 256) h) := by
  have hx : exec (.calendarSlot p slot (some h)) s = execCalendarSlot p slot (some h) s := rfl
  obtain ⟨n, hport⟩ := s.showEligible_port p
  rw [hx, execCalendarSlot, if_neg (by simp [hrun, hd])]
  dsimp only
  rw [hport, ← he, decide_eq_true hs]

variable {s} in
/-- A slice-port without queues has nothing to send but scheduled cells. -/
theorem State.arbitrate_no_queues {p : Nat} (h : (s.port p).queues = []) : s.arbitrate p = none := by
  have hl : s.eligibles p = [] := by rw [State.eligibles, h, List.filter_nil]
  rw [State.arbitrate, hl]
  rfl

variable {s} in
/-- A slot without a scheduled cell, on a slice-port without queues, is free. -/
theorem exec_calendarSlot_free {p : Fin 168} (slot : Fin 4096) (hrun : s.flag F.TWL_STATUS_RUN 0 = true)
    (hd : s.flag F.TWL_STATUS_DRAINING 0 = false) (hq : (s.port p).queues = []) :
    exec (.calendarSlot p slot none) s = .next ((s.showEligible p).setPort p
      { (s.showEligible p).port p with free := ((s.showEligible p).port p).free + 1 }) := by
  have hx : exec (.calendarSlot p slot none) s = execCalendarSlot p slot none s := rfl
  obtain ⟨n, hport⟩ := s.showEligible_port p
  rw [hx, execCalendarSlot, if_neg (by simp [hrun, hd])]
  dsimp only
  rw [State.arbitrate_no_queues (by rw [State.setPort_port, hport, hq])]

/-! ### The calendar period boundary (R100, R124) -/

/-- What the statements about the boundary see: the calendar of slice-port p and whether it flips, the delivery table and the
delivery changes that wait. -/
def State.periodView (s : State) (p : Nat) : Tbl Nat × Bool × Tbl Nat × List (Nat × Nat) :=
  ((s.port p).cal, (s.port p).flip, s.twl.deliv, s.twl.delivNext)

variable {s} in
theorem State.periodView_congr {t : State} (h : t.twl = s.twl) (p : Nat) : t.periodView p = s.periodView p := by
  rw [State.periodView, State.periodView, State.port, State.port, h]

/-- A change of a slice-port's record that keeps its calendar shows nothing of itself at the boundary. -/
theorem State.setPort_periodView {q : Nat} {x : SlicePort} (hc : x.cal = (s.port q).cal) (hf : x.flip = (s.port q).flip) (p : Nat) :
    (s.setPort q x).periodView p = s.periodView p := by
  unfold State.periodView
  by_cases h : p = q
  · subst h
    rw [State.setPort_port, hc, hf]
    rfl
  · rw [show (s.setPort q x).port p = s.port p from Tbl.get_set_other _ _ _ _ _ h]
    rfl

theorem State.checkFair_periodView (q p : Nat) : (s.checkFair q).periodView p = s.periodView p := by
  unfold State.checkFair
  extract_lets x _ bad now y s1
  have h1 : s1.periodView p = s.periodView p :=
    (State.setPort_periodView (x := y) (s.setReg .TWL_SP_FREE q (BitVec.ofNat 64 y.freePrev)) rfl rfl p).trans
      (State.periodView_congr (State.setReg_twl _ _ _ _) p)
  split
  · exact h1
  · rw [State.periodView_congr (State.irq_twl _ _) p, State.periodView_congr (State.count_twl _ _ _ _) p, h1]

theorem State.resumeLink_periodView (k p : Nat) : (s.resumeLink k).periodView p = s.periodView p :=
  foldl_keeps s (fun s => s.periodView p) (fun s r => by
    dsimp only
    split
    · rfl
    · split <;> rfl) (s.routesOn k)

@[simp] theorem State.unitMoved_twl (u x old : Nat) : (s.unitMoved u x old).twl = s.twl := by
  rw [State.unitMoved, State.event_twl]
  rfl

/-- Steering ends the pending swap, and changes nothing else of the fabric's record. -/
theorem State.steer_twl : s.steer.twl = { s.twl with swap := none } := by
  unfold State.steer
  split
  next h => rw [← h]
  next w _ =>
    rw [State.event_twl, State.unitMoved_twl, State.setFld_twl, State.setFld_twl]
    split <;> rfl

theorem State.steer_periodView (p : Nat) : s.steer.periodView p = s.periodView p := by
  rw [State.periodView, State.port, State.steer_twl]
  rfl

theorem State.applyDelivery_periodView (p : Nat) : s.applyDelivery.periodView p = ((s.port p).cal, (s.port p).flip,
    s.twl.delivNext.foldl (fun d e => Tbl.set (fun _ => 0) e.1 e.2 d) s.twl.deliv, []) := rfl

/-- At the boundary, where no reservation ends, the banks of a slice-port that waits to flip do so, and the delivery changes are
made. -/
theorem exec_calendarPeriodBoundary_view {p : Nat} (hr : s.twl.routes.filter (fun r => s.hasEnded r) = [])
    (hwf : Tbl.wf (fun _ => default) s.twl.ports = true) (hf : (s.port p).flip = true) : ∃ t,
    exec .calendarPeriodBoundary s = .next t ∧ t.periodView p = ((s.port p).shadow, false,
      s.twl.delivNext.foldl (fun d e => Tbl.set (fun _ => 0) e.1 e.2 d) s.twl.deliv, []) := by
  have hx : exec .calendarPeriodBoundary s = execCalendarPeriodBoundary s := rfl
  have hport : (s.mapPorts SlicePort.flipped).port p = { s.port p with cal := (s.port p).shadow, flip := false } :=
    (s.mapPorts_port hwf rfl p).trans (if_pos hf)
  rw [hx, execCalendarPeriodBoundary, hr]
  refine ⟨_, rfl, ?_⟩
  rw [foldl_keeps _ (fun s => s.periodView p) (fun s (e : Nat × SlicePort) => s.checkFair_periodView e.1 p),
    foldl_keeps _ (fun s => s.periodView p) (fun s k => s.resumeLink_periodView k p), State.steer_periodView,
    State.applyDelivery_periodView]
  dsimp only [List.foldl_nil]
  rw [hport]
  rfl

/-! ### Arbitrated queues (R107) -/

theorem State.setQueue_queue (p q : Nat) (a : AQueue) : ((s.setQueue p q a).port p).queue q = a := by
  rw [State.setQueue, State.setReg_port, State.setPort_port]
  exact Tbl.get_set_same _ _ _ _

theorem State.showEligible_queue (p q : Nat) : ((s.showEligible p).port p).queue q = (s.port p).queue q := by
  obtain ⟨n, h⟩ := s.showEligible_port p
  rw [h]
  rfl

variable {s} in
/-- The lowest closed queue opens toward the destination. -/
theorem exec_arbitratedQueueOpen_lowest {p : Fin 168} {q : Nat} (branch : Fin 5) (dchip : Fin 1024) (dport : Fin 168)
    (hq : (List.range 64).find? (fun k => !((s.port p).queue k).open_) = some q) :
    ∃ n, exec (.arbitratedQueueOpen p branch dchip dport) s = .next (((s.setQueue p q
      { (default : AQueue) with open_ := true, branch := branch, dchip := dchip, dport := dport }).setFld F.TWL_SP_STAT_AQ_OPEN p
        n).answer .OK) := by
  have hx : exec (.arbitratedQueueOpen p branch dchip dport) s = execArbitratedQueueOpen p branch dchip dport s := rfl
  rw [hx, execArbitratedQueueOpen, hq]
  exact ⟨_, rfl⟩

/-- A placed cell is the last of its queue, whose sequence number it takes. -/
theorem State.placeCell_queue (p q : Nat) (h : CellHdr) : ∃ c,
    ((s.placeCell p q h).port p).queue q = { (s.port p).queue q with
      cells := ((s.port p).queue q).cells ++ [c], seq := (((s.port p).queue q).seq + 1) % 65536 } := by
  unfold State.placeCell
  exact ⟨_, State.setQueue_queue _ _ _ _⟩

variable {s} in
/-- A cell for an open queue with room is placed. -/
theorem exec_arbitratedCellEnqueue_room {p : Fin 168} {q : Fin 64} (h : CellHdr) (hd : s.flag F.TWL_STATUS_DRAINING 0 = false)
    (hrun : s.flag F.TWL_STATUS_RUN 0 = true) (ho : ((s.port p).queue q).open_ = true)
    (hl : ((s.port p).queue q).cells.length < 64) :
    exec (.arbitratedCellEnqueue p q h) s = .next (((s.placeCell p q h).showEligible p).answer .OK) := by
  have hx : exec (.arbitratedCellEnqueue p q h) s = execArbitratedCellEnqueue p q h s := rfl
  rw [hx, execArbitratedCellEnqueue, if_neg (by simp [hd]), if_neg (by simp [hrun, ho]), if_pos hl]

/-! ### Link-control cells (R20, R108, R412) -/

@[simp] theorem State.refLost_twl (r fault : Nat) : (s.refLost r fault).twl = s.twl := by
  unfold State.refLost
  split
  · rfl
  · extract_lets s1 s2 s3 s4
    have h4 : s4.twl = s.twl := State.irq_twl _ _
    split
    · exact h4
    · exact h4

/-- A tag in a link-control cell concerns the references and not the fabric. -/
theorem State.takeTag_twl (k : Nat) (tag : Word) : (s.takeTag k tag).twl = s.twl := by
  refine foldl_keeps s State.twl (fun s r => ?_) [12, 13]
  split
  · rfl
  · extract_lets s1 s2
    have h2 : s2.twl = s.twl := by
      unfold s2
      split
      · exact State.irq_twl _ _
      · rfl
    rw [State.showTag, State.setReg_twl]
    split
    · exact h2
    · rw [State.refLost_twl, h2]

theorem State.creditReturn_credit (dchip dport n : Nat) :
    Tbl.get (fun _ => 0) (s.creditReturn dchip dport n).twl.credit (dchip * 256 + dport) =
      Tbl.get (fun _ => 0) s.twl.credit (dchip * 256 + dport) + n :=
  Tbl.get_set_same _ _ _ _

variable {s} in
theorem exec_linkControlCell_credit {k : Fin 16} (dchip : Fin 1024) (dport : Fin 168) (n : Nat) (tag : Word32)
    (h : s.lkState k = lkUp ∨ s.lkState k = lkDraining ∨ s.lkState k = lkHold) :
    exec (.linkControlCell k [(dchip, dport, n)] none tag) s = .next ((s.creditReturn dchip dport n).takeTag k (tag.setWidth 64)) :=
  congrArg Host.Outcome.next (if_pos h)

end Sys2Proof.Machine
end

section
/-! Settles O16 from the equations of cells, slots, the boundary, queues and link-control cells. -/

open Sys2Proof Sys2Proof.Machine

/-- Settles O16, clause by clause: a media cell received, a slot that sends, a free slot, the period boundary, a queue opened, a
cell enqueued, and a credit returned. That the lowest closed queue is the one that opens is the model's choice. -/
theorem cellsQueuesAndCalendar : Obligations.CellsQueuesAndCalendar := by
  unfold Obligations.CellsQueuesAndCalendar
  refine ⟨?receive, ?scheduled, ?free, ?boundary, ?opened, ?enqueue, ?credit⟩
  case receive =>
    intro p h e0 e1 e2 e3 view s hrun he hk
    obtain ⟨fixed, e⟩ := exec_cellReceive_media hrun he hk p view
    rw [e]
    refine .next ⟨?_, State.checkSeq_last _ _ _⟩
    rw [State.checkSeq_reg _ (by decide), State.reg_count_counted, State.counted_congr (s.reg_count_ne (by decide) _ _ _)]
  case scheduled =>
    intro p slot h e s hrun hd he hs
    obtain ⟨hseq, hcount⟩ := (s.showEligible p).sendMedia_shows p (e % 256) h
    obtain ⟨n, hport⟩ := s.showEligible_port p
    rw [exec_calendarSlot_scheduled h hrun hd he hs]
    refine .next ⟨?_, ?_⟩
    · rw [hseq, hport]
    · rw [hcount, State.counted_congr (s.showEligible_reg (by decide) p p)]
  case free =>
    intro p slot s hrun hd hq
    obtain ⟨n, hport⟩ := s.showEligible_port p
    rw [exec_calendarSlot_free slot hrun hd hq]
    exact .next (by rw [State.setPort_port, hport])
  case boundary =>
    intro p s hr hwf hf
    obtain ⟨t, e, hview⟩ := exec_calendarPeriodBoundary_view s hr hwf hf
    rw [e]
    simp only [State.periodView, Prod.mk.injEq] at hview
    exact .next hview
  case opened =>
    intro p branch dchip dport q s hq
    obtain ⟨n, e⟩ := exec_arbitratedQueueOpen_lowest branch dchip dport hq
    rw [e]
    refine .next ?_
    rw [State.answer_port, State.setFld_port, State.setQueue_queue]
    exact ⟨rfl, rfl, rfl, rfl⟩
  case enqueue =>
    intro p q h s hd hrun ho hl
    obtain ⟨c, hc⟩ := s.placeCell_queue p q h
    rw [exec_arbitratedCellEnqueue_room h hd hrun ho hl]
    refine .next ?_
    rw [State.answer_port, State.showEligible_queue, hc]
    exact ⟨List.length_append, rfl, rfl⟩
  case credit =>
    intro k dchip dport n tag s h
    rw [exec_linkControlCell_credit dchip dport n tag h]
    exact .next (by rw [State.takeTag_twl, State.creditReturn_credit])

end

section
/-! SUPPORT of O17: live swap, the failure of a slice-port, and the disable, drain and kill of Twill. -/

namespace Sys2Proof.Machine

variable (s : State)

/-! ### TWL_SWAP_CTRL (R133) -/

/-- A field of a word given as a number. -/
theorem Fld.of_ofNat (f : Fld) {n : Nat} (h : n < 2 ^ 64) : f.of (BitVec.ofNat 64 n) = n / 2 ^ f.lo % 2 ^ f.len := by
  rw [Fld.of, bits_eq, BitVec.toNat_ofNat, Nat.mod_eq_of_lt h]

/-- The word that SLICE_PORT_SWAP writes names its slice-port and spare, with GO set. -/
theorem goWord_reads (p : Fin 256) (spare : Fin 2) {v : Word} (hv : v = BitVec.ofNat 64 (2 ^ 31 + p.val * 65536 + spare.val)) :
    F.TWL_SWAP_CTRL_SP.of v = p ∧ F.TWL_SWAP_CTRL_SPARE.of v = spare ∧ F.TWL_SWAP_CTRL_GO.on v = true := by
  have hlt : 2 ^ 31 + p.val * 65536 + spare.val < 2 ^ 64 := by omega
  have hgo : (2 ^ 31 + p.val * 65536 + spare.val) / 2 ^ 31 % 2 ^ 1 = 1 := by omega
  rw [hv, Fld.on, Fld.of_ofNat _ hlt, Fld.of_ofNat _ hlt, Fld.of_ofNat _ hlt]
  refine ⟨?_, ?_, ?_⟩
  · show (2 ^ 31 + p.val * 65536 + spare.val) / 2 ^ 16 % 2 ^ 8 = p
    omega
  · show (2 ^ 31 + p.val * 65536 + spare.val) / 2 ^ 0 % 2 ^ 1 = spare
    omega
  · exact bne_iff_ne.mpr (hgo.trans_ne Nat.one_ne_zero)

/-- The word that SLICE_PORT_SWAP_BACK writes names its slice-port, with BACK set and GO clear. -/
theorem backWord_reads (p : Fin 256) {v : Word} (hv : v = BitVec.ofNat 64 (2 ^ 30 + p.val * 65536)) :
    F.TWL_SWAP_CTRL_SP.of v = p ∧ F.TWL_SWAP_CTRL_GO.on v = false ∧ F.TWL_SWAP_CTRL_BACK.on v = true := by
  have hlt : 2 ^ 30 + p.val * 65536 < 2 ^ 64 := by omega
  have hgo : (2 ^ 30 + p.val * 65536) / 2 ^ 31 % 2 ^ 1 = 0 := by omega
  have hback : (2 ^ 30 + p.val * 65536) / 2 ^ 30 % 2 ^ 1 = 1 := by omega
  rw [hv, Fld.on, Fld.on, Fld.of_ofNat _ hlt, Fld.of_ofNat _ hlt, Fld.of_ofNat _ hlt]
  refine ⟨?_, ?_, ?_⟩
  · show (2 ^ 30 + p.val * 65536) / 2 ^ 16 % 2 ^ 8 = p
    omega
  · exact bne_eq_false_iff_eq.mpr hgo
  · exact bne_iff_ne.mpr (hback.trans_ne Nat.one_ne_zero)

theorem State.setSpare_fld {g : Fld} (h : g.reg ≠ .TWL_SPARE_MAP) (quad spare v i : Nat) :
    (s.setSpare quad spare v).fld g i = s.fld g i :=
  s.fld_setFld_ne (by split <;> exact h) _ _ _

@[simp] theorem State.setSpare_twl (quad spare v : Nat) : (s.setSpare quad spare v).twl = s.twl := rfl

/-- Whether a spare is free is read in TWL_SPARE_MAP and RSL_PHYS_STAT. -/
theorem State.spareFree_store {r : Reg} (hmap : Reg.TWL_SPARE_MAP ≠ r) (hphys : Reg.RSL_PHYS_STAT ≠ r) (i : Nat) (v : Word)
    (quad spare : Nat) : (s.store r i v).spareFree quad spare = s.spareFree quad spare := by
  rw [State.spareFree, State.spareFree, State.fld_store_ne s (g := F.RSL_PHYS_STAT_STATE) hphys,
    State.fld_store_ne s (by split <;> exact hmap)]

/-- What is shown of a swap that waits for the boundary. -/
def State.swapPends (s : State) (w : Swap) : Prop :=
  s.twl.swap = some w ∧ s.fld F.TWL_SP_STAT_STATE w.sp = spSwapPending ∧ s.fld F.TWL_SWAP_STAT_STATE 0 = 1 ∧ s.resp = .OK

variable {s} in
/-- A swap of a slice-port in service onto a free spare of its quadrant waits for the boundary. -/
theorem State.startSwap_pends {p spare : Nat} (hp : p < 168) (hw : s.twl.swap = none)
    (hst : s.fld F.TWL_SP_STAT_STATE p = spInService) (hf : s.spareFree (p / 21) spare = true) :
    (s.startSwap p spare).swapPends ⟨p, p / 21 * 23 + 21 + spare, spare, false⟩ := by
  rw [State.startSwap]
  dsimp only
  rw [if_neg (by omega), if_neg (by simp [hw]), if_neg (by simp [hst]), if_neg (by simp [hf])]
  generalize hu : State.setFld (State.setFld _ _ _ _) F.RSL_UNIT_STAT_STATE _ _ = u
  have hirq : Frame ⟨[.host, .sent], [.GLB_INT_SUM, .TWL_INT_STAT]⟩ u
      (if u.spareFree (p / 21) 0 || u.spareFree (p / 21) 1 then u else u.irq Irq.TWL_SPARE_LOW) :=
    .ite (.refl _ u) (u.irq_keeps Irq.TWL_SPARE_LOW)
  refine ⟨?_, ?_, ?_, rfl⟩
  · rw [State.answer_twl, show _ = u.twl from hirq.parts .twl (by simp), ← hu]
    rfl
  · rw [State.answer_fld, hirq.fld (by simp), ← hu, State.fld_setFld_ne _ (by decide), State.fld_setFld_ne _ (by decide),
      State.fld_setFld_ne _ (by decide), State.setSpare_fld _ (by decide), State.fld_setFld_same _ _ _ _ (by decide)]
    rfl
  · rw [State.answer_fld, hirq.fld (by simp), ← hu, State.fld_setFld_ne _ (by decide),
      State.fld_setFld_disjoint (f := F.TWL_SWAP_STAT_STATUS) (g := F.TWL_SWAP_STAT_STATE) _ 0 _ rfl (by decide) (by decide),
      State.fld_setFld_same _ _ _ _ (by decide)]
    rfl

variable {s} in
/-- A swap back of a slice-port on a spare, whose original port has passed its test, waits for the boundary. -/
theorem State.startSwapBack_pends {p : Nat} (hp : p < 168) (hw : s.twl.swap = none)
    (hst : s.fld F.TWL_SP_STAT_STATE p = spOnSpare) :
    ∃ spare, (s.startSwapBack p true).swapPends ⟨p, homePhys p, spare, true⟩ := by
  rw [State.startSwapBack]
  dsimp only
  rw [if_neg (by omega), if_neg (by simp [hw]), if_neg (by simp [hst])]
  refine ⟨_, rfl, ?_, ?_, rfl⟩
  · rw [State.answer_fld, State.fld_setFld_ne _ (by decide), State.fld_setFld_ne _ (by decide), State.fld_setFld_ne _ (by decide),
      State.fld_setFld_same _ _ _ _ (by decide)]
    rfl
  · rw [State.answer_fld, State.fld_setFld_disjoint (f := F.TWL_SWAP_STAT_STATUS) (g := F.TWL_SWAP_STAT_STATE) _ 0 _ rfl (by decide)
      (by decide), State.fld_setFld_same _ _ _ _ (by decide)]
    rfl

variable {s} in
theorem exec_slicePortSwap_open {src : Requester} (ho : s.closedTo .TWL_SWAP_CTRL src = false) (p : Fin 256) (spare : Fin 2) :
    ∃ v, exec (.slicePortSwap src p spare) s = .next ((s.store .TWL_SWAP_CTRL 0 v).startSwap p spare) := by
  obtain ⟨hsp, hspare, hgo⟩ := goWord_reads p spare rfl
  have hx : exec (.slicePortSwap src p spare) s = execSlicePortSwap src p spare s := rfl
  rw [hx, execSlicePortSwap, State.writeSwapCtrl, State.guarded_of_open s ho]
  dsimp only
  rw [if_pos hgo, hsp, hspare]
  exact ⟨_, rfl⟩

variable {s} in
theorem exec_slicePortSwapBack_open {src : Requester} (ho : s.closedTo .TWL_SWAP_CTRL src = false) (p : Fin 256) (passed : Bool) :
    ∃ v, exec (.slicePortSwapBack src p passed) s = .next ((s.store .TWL_SWAP_CTRL 0 v).startSwapBack p passed) := by
  obtain ⟨hsp, hgo, hback⟩ := backWord_reads p rfl
  have hx : exec (.slicePortSwapBack src p passed) s = execSlicePortSwapBack src p passed s := rfl
  rw [hx, execSlicePortSwapBack, State.writeSwapCtrl, State.guarded_of_open s ho]
  dsimp only
  rw [if_neg (Bool.eq_false_iff.mp hgo), if_pos hback, hsp]
  exact ⟨_, rfl⟩

/-! ### Spares and slice-ports that fail (R133, R134) -/

theorem State.spareFailed_keeps (u x : Nat) : Frame ⟨[.rsl], [.RSL_UNIT_STAT, .RSL_PHYS_STAT]⟩ s (s.spareFailed u x) := by
  have h1 : Frame ⟨[.rsl], [.RSL_UNIT_STAT, .RSL_PHYS_STAT]⟩ s
      ((s.setFld F.RSL_UNIT_STAT_STATE u 0).setFld F.RSL_UNIT_STAT_STATUS u Status.MEDIA_FAIL.code) :=
    State.setFld_frame (State.setFld_frame (.refl _ s) (by simp)) (by simp)
  unfold State.spareFailed
  exact State.setFld_frame (g := F.RSL_PHYS_STAT_RESULT)
    (State.setFld_frame (g := F.RSL_PHYS_STAT_STATE) (State.setRsl_frame h1 (.refl _)) (by simp)) (by simp)

/-- A spare that has failed is RETIRED. -/
theorem State.spareFailed_retired (u x : Nat) : (s.spareFailed u x).fld F.RSL_PHYS_STAT_STATE x = 2 := by
  rw [State.spareFailed, State.fld_setFld_disjoint (f := F.RSL_PHYS_STAT_RESULT) (g := F.RSL_PHYS_STAT_STATE) _ x _ rfl (by decide)
    (by decide), State.fld_setFld_same _ _ _ _ (by decide)]
  rfl

/-- The state in which a pending swap w is abandoned because its spare has failed (R133, Table 03.9). -/
def State.swapAbandoned (s : State) (w : Swap) : State :=
  let t : State := { s with twl := { s.twl with swap := none } }
  let t := (t.setFld F.TWL_SP_STAT_STATE w.sp spInService).setSpare (w.sp / 21) w.spare 0x1F
  let t := t.spareFailed (64 + w.sp) (64 + w.phys)
  (t.setFld F.TWL_SWAP_STAT_STATE 0 3).setFld F.TWL_SWAP_STAT_STATUS 0 Status.MEDIA_FAIL.code

variable {s} in
theorem exec_swapSpareFail_pending {w : Swap} (hw : s.twl.swap = some w) (hb : w.back = false) :
    exec .swapSpareFail s = .next (s.swapAbandoned w) := by
  have hx : exec .swapSpareFail s = execSwapSpareFail s := rfl
  rw [hx, execSwapSpareFail, hw]
  exact congrArg Host.Outcome.next (if_neg (by simp [hb]))

theorem State.swapAbandoned_swap (w : Swap) : (s.swapAbandoned w).twl.swap = none := by
  rw [State.swapAbandoned, State.setFld_twl, State.setFld_twl,
    show (State.spareFailed _ (64 + w.sp) (64 + w.phys)).twl = _ from (State.spareFailed_keeps _ _ _).parts .twl (by simp)]
  rfl

theorem State.swapAbandoned_spState (w : Swap) : (s.swapAbandoned w).fld F.TWL_SP_STAT_STATE w.sp = spInService := by
  rw [State.swapAbandoned, State.fld_setFld_ne _ (by decide), State.fld_setFld_ne _ (by decide),
    (State.spareFailed_keeps _ _ _).fld (by simp), State.setSpare_fld _ (by decide), State.fld_setFld_same _ _ _ _ (by decide)]
  rfl

theorem State.swapAbandoned_status (w : Swap) : (s.swapAbandoned w).fld F.TWL_SWAP_STAT_STATUS 0 = Status.MEDIA_FAIL.code := by
  rw [State.swapAbandoned, State.fld_setFld_same _ _ _ _ (by decide)]
  rfl

theorem State.swapAbandoned_retired (w : Swap) : (s.swapAbandoned w).fld F.RSL_PHYS_STAT_STATE (64 + w.phys) = 2 := by
  rw [State.swapAbandoned, State.fld_setFld_ne _ (by decide), State.fld_setFld_ne _ (by decide), State.spareFailed_retired]

/-- Placing a route again leaves the state of each slice-port. -/
theorem State.replaceRoute_spState (p : Nat) (r : Route) (q : Nat) :
    (s.replaceRoute p r).fld F.TWL_SP_STAT_STATE q = s.fld F.TWL_SP_STAT_STATE q := by
  have hstop : ((s.release r.req).awlFabric 2 r.flow p).fld F.TWL_SP_STAT_STATE q = s.fld F.TWL_SP_STAT_STATE q := by
    rw [State.awlFabric_fld _ _ _ _ (by decide), s.release_spState]
  unfold State.replaceRoute
  dsimp only
  split
  · exact hstop
  · split
    · exact hstop
    · split
      · exact (State.settle_spState _ _ _).trans (s.release_spState r.req q)
      · exact s.release_spState r.req q

variable {s} in
/-- A slice-port in use that fails with no spare free is FAILED, and its routes are placed again. -/
theorem exec_slicePortFail_noSpare {p : Fin 168} (h0 : s.spareFree (p / 21) 0 = false) (h1 : s.spareFree (p / 21) 1 = false)
    (hst : s.fld F.TWL_SP_STAT_STATE p = spInService ∨ s.fld F.TWL_SP_STAT_STATE p = spOnSpare) :
    ∃ hit : List Route, exec (.slicePortFail p) s =
      .next (hit.foldl (fun s r => s.replaceRoute p r) (s.setFld F.TWL_SP_STAT_STATE p spFailed)) := by
  have hx : exec (.slicePortFail p) s = execSlicePortFail p s := rfl
  have hc : ¬ ((s.spareFree (p / 21) 0 || s.spareFree (p / 21) 1) ||
      (s.fld F.TWL_SP_STAT_STATE p != spInService && s.fld F.TWL_SP_STAT_STATE p != spOnSpare)) = true := by
    rcases hst with h | h <;> simp [h0, h1, h]
  rw [hx, execSlicePortFail, if_neg hc]
  exact ⟨_, rfl⟩

/-! ### Disable, drain and kill (R136) -/

theorem State.twillStop_keeps : Frame ⟨[.twl], [.TWL_STATUS]⟩ s s.twillStop := State.twillStop_frame (.refl _ s) (.refl _) (.refl _)

theorem State.mapPorts_flag (f : SlicePort → SlicePort) (g : Fld) (i : Nat) : (s.mapPorts f).flag g i = s.flag g i := rfl

theorem State.twillStop_run : s.twillStop.flag F.TWL_STATUS_RUN 0 = false := by
  rw [State.twillStop, State.mapPorts_flag,
    State.flag_setFlag_disjoint (f := F.TWL_STATUS_DRAINING) (g := F.TWL_STATUS_RUN) _ 0 _ rfl (by decide) (by decide),
    State.flag_setFlag_same _ _ _ _ (by decide) rfl]

theorem State.twillStop_draining : s.twillStop.flag F.TWL_STATUS_DRAINING 0 = false := by
  rw [State.twillStop, State.mapPorts_flag, State.flag_setFlag_same _ _ _ _ (by decide) rfl]

/-- No slice-port of a stopped Twill holds an arbitrated cell. -/
theorem State.twillStop_buffer (k : Nat) : (s.twillStop.port k).buffer = 0 :=
  State.mapPorts_all _ (P := fun x => x.buffer = 0) rfl (fun _ => rfl) k

/-- TWL_CTRL.EN reads as stored: its bit is writable. -/
theorem State.flag_store_TWL_CTRL_EN (v : Word) : (s.store .TWL_CTRL 0 v).flag F.TWL_CTRL_EN 0 = F.TWL_CTRL_EN.on v := by
  rw [State.flag, State.fld_store_same s (g := F.TWL_CTRL_EN) 0 v (by decide) (by decide)]
  rfl

variable {s} in
/-- The write that clears EN of a running Twill starts the drain. -/
theorem exec_twillDisable_running {src : Requester} (ho : s.closedTo .TWL_CTRL src = false)
    (hr : s.flag F.TWL_STATUS_RUN 0 = true) :
    exec (.twillDisable src) s = .next ((s.store .TWL_CTRL 0 0).setFlag F.TWL_STATUS_DRAINING 0 true) := by
  have hx : exec (.twillDisable src) s = .next (s.writeTwlCtrl src 0 0) := rfl
  have hrun : (s.store .TWL_CTRL 0 0).flag F.TWL_STATUS_RUN 0 = true := by rw [State.flag_store_ne _ (by decide), hr]
  rw [hx, State.writeTwlCtrl, State.guarded_of_open s ho]
  exact congrArg Host.Outcome.next (if_pos hrun)

variable {s} in
/-- KILL with EN clear counts the cells in flight and stops Twill. -/
theorem exec_twillKill_open {src : Requester} (ho : s.closedTo .TWL_CTRL src = false) (inFlight : Nat) :
    exec (.twillKill src inFlight) s = .next ((s.store .TWL_CTRL 0 0).count .TWL_KILLED 0 inFlight).twillStop := by
  have hx : exec (.twillKill src inFlight) s = .next (s.writeTwlCtrl src 2 inFlight) := rfl
  rw [hx, State.writeTwlCtrl, State.guarded_of_open s ho]
  rfl

variable {s} in
theorem exec_twillDrainDone_draining (h : s.flag F.TWL_STATUS_DRAINING 0 = true) :
    exec .twillDrainDone s = .next s.twillStop :=
  congrArg Host.Outcome.next (if_pos h)

end Sys2Proof.Machine
end

section
/-! Settles O17 from the equations of swaps, of failures, of TWL_CTRL and of the IPv6 prefixes. -/

open Sys2Proof Sys2Proof.Machine

/-- Settles O17, clause by clause: a swap, a swap back, a spare that fails, a slice-port that fails, disable, the end of the drain,
kill, and a word of the IPv6 prefixes. -/
theorem slicePortsSwapAndTwillDrain : Obligations.SlicePortsSwapAndTwillDrain := by
  unfold Obligations.SlicePortsSwapAndTwillDrain
  refine ⟨?swap, ?back, ?spareFail, ?portFail, ?disable, ?drained, ?kill, ?v6word⟩
  case swap =>
    intro src p spare s ho hp hw hst hf
    obtain ⟨v, e⟩ := exec_slicePortSwap_open ho p spare
    rw [e]
    exact .next (State.startSwap_pends hp hw ((s.fld_store_ne (by decide) _ _ _).trans hst)
      ((s.spareFree_store (by decide) (by decide) _ _ _ _).trans hf))
  case back =>
    intro src p s ho hp hw hst
    obtain ⟨v, e⟩ := exec_slicePortSwapBack_open ho p true
    obtain ⟨spare, hswap, hstate, hstat, hresp⟩ := State.startSwapBack_pends (s := s.store .TWL_SWAP_CTRL 0 v) hp hw
      ((s.fld_store_ne (by decide) _ _ _).trans hst)
    rw [e]
    exact .next ⟨by rw [hswap, Option.map_some], hstate, hstat, hresp⟩
  case spareFail =>
    intro w s hw hb
    rw [exec_swapSpareFail_pending hw hb]
    exact .next ⟨s.swapAbandoned_swap w, s.swapAbandoned_spState w, s.swapAbandoned_status w, s.swapAbandoned_retired w⟩
  case portFail =>
    intro p s h0 h1 hst
    obtain ⟨hit, e⟩ := exec_slicePortFail_noSpare h0 h1 hst
    rw [e]
    refine .next ?_
    rw [foldl_keeps _ (fun s => s.fld F.TWL_SP_STAT_STATE p) fun s r => s.replaceRoute_spState p r p,
      State.fld_setFld_same _ _ _ _ (by decide)]
    rfl
  case disable =>
    intro src s ho hr
    rw [exec_twillDisable_running ho hr]
    refine .next ⟨?_, ?_, ?_, rfl⟩
    · rw [State.flag_setFlag_same _ _ _ _ (by decide) rfl]
    · rw [State.flag_setFlag_disjoint (f := F.TWL_STATUS_DRAINING) (g := F.TWL_STATUS_RUN) _ 0 _ rfl (by decide) (by decide),
        State.flag_store_ne _ (by decide), hr]
    · rw [State.flag_setFlag_ne _ (by decide), s.flag_store_TWL_CTRL_EN]
      rfl
  case drained =>
    intro k s hd
    rw [exec_twillDrainDone_draining hd]
    exact .next ⟨s.twillStop_run, s.twillStop_draining, s.twillStop_buffer k⟩
  case kill =>
    intro src inFlight s ho
    rw [exec_twillKill_open ho]
    refine .next ⟨State.twillStop_run _, State.twillStop_draining _, ?_, rfl⟩
    rw [(State.twillStop_keeps _).regs _ _ (by simp), State.reg_count_counted,
      State.counted_congr (s.reg_store_ne (by decide) _ _ _)]
  case v6word =>
    intro src source ix w s ho hfree
    rw [exec_v6PrefixWrite, State.writeV6_stores ho hfree]
    exact .next ⟨s.reg_store_same _ _ _, s.store_resp _ _ _⟩

end

section
/-! SUPPORT of O18: the directory's record, this part's orders, updates of other parts, and resynchronisation. -/

namespace Sys2Proof.Machine

variable (s : State)

/-! ### TWL_DIR_CMD (R122, log 20) -/

section
variable {s} {src : Requester} (ho : s.closedTo .TWL_DIR_CMD src = false) (hb : s.flag F.TWL_DIR_RESULT_BUSY 0 = false)
include ho hb

theorem exec_dirRead_idle : exec (.dirRead src) s = .next s.dirFetch := by
  have hx : exec (.dirRead src) s = .next (s.writeDirCmd src 1 false) := rfl
  have hcmd : F.TWL_DIR_CMD_CMD.of 1 = 1 := rfl
  rw [hx, State.writeDirCmd, State.guarded_of_open s ho]
  simp only [hb, hcmd, Bool.false_eq_true, if_false]

theorem exec_dirWrite_idle (ovf : Bool) : exec (.dirWrite src ovf) s =
    .next ((s.answer .OK).dirWrite none (s.fld F.TWL_DIR_INDEX_FLOW 0) s.dirData ovf) := by
  have hx : exec (.dirWrite src ovf) s = .next (s.writeDirCmd src 2 ovf) := rfl
  have hcmd : F.TWL_DIR_CMD_CMD.of 2 = 2 := rfl
  rw [hx, State.writeDirCmd, State.guarded_of_open s ho]
  simp only [hb, hcmd, Bool.false_eq_true, if_false]

theorem exec_dirWithdraw_idle : exec (.dirWithdraw src) s =
    .next ((s.answer .OK).dirWithdraw none (s.fld F.TWL_DIR_INDEX_FLOW 0)) := by
  have hx : exec (.dirWithdraw src) s = .next (s.writeDirCmd src 3 false) := rfl
  have hcmd : F.TWL_DIR_CMD_CMD.of 3 = 3 := rfl
  rw [hx, State.writeDirCmd, State.guarded_of_open s ho]
  simp only [hb, hcmd, Bool.false_eq_true, if_false]

end

/-! ### Registers and messages written one after another -/

/-- Elements written with the values of a function read as that function says, where the list names them. -/
theorem State.reg_foldl_setReg (r : Reg) (v : Nat → Word) (l : List Nat) (i : Nat) :
    (l.foldl (fun (s : State) j => s.setReg r j (v j)) s).reg r i = if i ∈ l then r.fit (v i) else s.reg r i := by
  induction l generalizing s with
  | nil => rfl
  | cons j l ih =>
    rw [List.foldl_cons, ih, State.reg_setReg]
    by_cases hl : i ∈ l
    · simp [hl]
    · by_cases hj : i = j <;> simp [hl, hj]

/-- Messages sent one after another stand newest first. -/
theorem State.foldl_emit_sent {α : Type} (f : α → OutMsg) (l : List α) :
    (l.foldl (fun (s : State) x => s.emit (f x)) s).sent = (l.reverse.map f) ++ s.sent := by
  induction l generalizing s with
  | nil => rfl
  | cons x l ih => rw [List.foldl_cons, ih, State.emit_sent, List.reverse_cons, List.map_append, List.append_assoc]; rfl

/-! ### READ (R122) -/

/-- The result that a register order without a requesting context shows (R129). -/
theorem State.dirResult_none_ok : (s.dirResult none .OK).resp = .OK ∧ (s.dirResult none .OK).reg .TWL_DIR_RESULT 0 = 0 :=
  ⟨rfl, State.reg_setReg_same _ _ _ _⟩

/-- A READ shows the four words of the entry. -/
theorem State.dirFetch_data (i : Fin 4) : (s.dirFetch.reg .TWL_DIR_DATA i).toNat =
    dirBits (s.dirEntry (s.fld F.TWL_DIR_INDEX_FLOW 0)) (32 * i) 32 := by
  have hmem : i.val ∈ [0, 1, 2, 3] := by
    simp only [List.mem_cons, List.not_mem_nil, or_false]
    omega
  have hlt : dirBits (s.dirEntry (s.fld F.TWL_DIR_INDEX_FLOW 0)) (32 * i) 32 < 2 ^ 32 := Nat.mod_lt _ (Nat.two_pow_pos 32)
  rw [State.dirFetch, State.dirResult, State.answer_reg, State.reg_setReg_other _ (by decide), State.reg_foldl_setReg,
    if_pos hmem, Reg.fit_toNat rfl, BitVec.toNat_ofNat]
  omega

/-! ### This part's copy (R122, R125, R127) -/

theorem State.putDir_keeps (flow : Nat) (entry : Option Word128) (ovf : Bool) :
    Frame ⟨[.twl, .dir], [.TWL_DIR_COUNT, .TWL_DIR_OWN, .TWL_DIR_OVF]⟩ s (s.putDir flow entry ovf) :=
  State.showDir_frame (State.setDir_frame (State.setDirs_frame (.refl _ s) (by simp)) (by simp)) (.refl _)

theorem State.putDir_dirEntry (flow : Nat) (e : Word128) (ovf : Bool) : (s.putDir flow (some e) ovf).dirEntry flow = e :=
  Tbl.get_set_same _ _ _ _

theorem State.putDir_dirEntry_withdrawn (flow : Nat) (ovf : Bool) : (s.putDir flow none ovf).dirEntry flow = 0 :=
  State.setDir_dirEntry _ flow 0

variable {s} in
/-- An update with an entry, of a flow that no other part holds, is applied. -/
theorem State.applyDir_entry {u : DirUpdate} {e : Word128} (hu : u.entry = some e)
    (h : dirValid (s.dirEntry u.flow) = true → dirOrigin (s.dirEntry u.flow) / 512 = u.origin) (ovf : Bool) :
    s.applyDir u ovf = (s.putDir u.flow (some e) ovf, false) := by
  rw [State.applyDir, hu]
  exact if_neg (by simpa using h)

variable {s} in
/-- A withdrawal by the origin of the entry removes it. -/
theorem State.applyDir_withdrawal {u : DirUpdate} (hu : u.entry = none) (hv : dirValid (s.dirEntry u.flow) = true)
    (h : dirOrigin (s.dirEntry u.flow) / 512 = u.origin) (ovf : Bool) :
    s.applyDir u ovf = (s.putDir u.flow none false, false) := by
  rw [State.applyDir, hu]
  exact congrArg (·, false) (if_pos (by simp [hv, h]))

/-! ### Orders of this part (R127 to R130) -/

variable {s} in
theorem State.reachable_congr {t : State} (ht : t.twl.toward = s.twl.toward) (hid : t.domainId = s.domainId) :
    t.reachable = s.reachable := by
  rw [State.reachable, State.reachable, ht, hid]

/-- An update of this part takes the next number of TWL_DIR_SEQ. -/
theorem State.sendUpdate_seq (flow : Nat) (entry : Option Word128) :
    ((s.sendUpdate flow entry).1.reg .TWL_DIR_SEQ 0).toNat = ((s.reg .TWL_DIR_SEQ 0).toNat + 1) % 2 ^ 32 := by
  rw [State.sendUpdate, State.emit_reg, State.setDirs_reg, State.reg_setReg_same, Reg.fit_toNat rfl, BitVec.toNat_ofNat]
  omega

theorem State.sendUpdate_reachable (flow : Nat) (entry : Option Word128) : (s.sendUpdate flow entry).1.reachable = s.reachable :=
  State.reachable_congr rfl (s.fld_setReg_ne (by decide) _ _ _)

theorem State.sendUpdate_dirEntry (flow : Nat) (entry : Option Word128) (k : Nat) :
    (s.sendUpdate flow entry).1.dirEntry k = s.dirEntry k := rfl

/-- What an order that changes the copy u shows afterwards: the copy, the next number, and its result when no other part is
reachable, or that it waits for the other parts. -/
structure State.Ordered (u t : State) (flow : Nat) : Prop where
  entry : t.dirEntry flow = u.dirEntry flow
  seq : (t.reg .TWL_DIR_SEQ 0).toNat = ((u.reg .TWL_DIR_SEQ 0).toNat + 1) % 2 ^ 32
  alone : u.reachable = [] → t.resp = .OK ∧ t.reg .TWL_DIR_RESULT 0 = 0
  waits : u.reachable ≠ [] → t.flag F.TWL_DIR_RESULT_BUSY 0 = true

variable {s} in
/-- A register order without a conflict is numbered and sent, and answered or awaited. -/
theorem State.originate_ordered {flow : Nat} {entry : Option Word128} {ovf : Bool} {u : State}
    (h : s.applyDir ⟨s.domainId, 0, flow, entry⟩ ovf = (u, false)) : u.Ordered (s.originate none flow entry ovf) flow := by
  rw [State.originate, h]
  dsimp only
  rw [if_neg Bool.false_ne_true, u.sendUpdate_reachable]
  by_cases hr : u.reachable = []
  · rw [if_pos (by rw [hr]; rfl)]
    refine ⟨u.sendUpdate_dirEntry flow entry flow, ?_, fun _ => State.dirResult_none_ok _, fun hn => absurd hr hn⟩
    rw [State.dirResult, State.answer_reg, State.reg_setReg_other _ (by decide), u.sendUpdate_seq]
  · rw [if_neg (by simpa using hr)]
    refine ⟨u.sendUpdate_dirEntry flow entry flow, ?_, fun hn => absurd hn hr, fun _ => State.flag_setFlag_same _ _ _ _ (by decide) rfl⟩
    rw [State.reg_setFlag_ne _ (by decide), State.setDirs_reg, u.sendUpdate_seq]

/-- What an order shows after a change of this part's copy, in terms of the state before that change. -/
theorem State.Ordered.of_putDir {flow : Nat} {entry : Option Word128} {ovf : Bool} {t : State}
    (h : (s.putDir flow entry ovf).Ordered t flow) :
    t.dirEntry flow = (s.putDir flow entry ovf).dirEntry flow ∧
      (t.reg .TWL_DIR_SEQ 0).toNat = ((s.reg .TWL_DIR_SEQ 0).toNat + 1) % 2 ^ 32 ∧
      (s.reachable = [] → t.resp = .OK ∧ t.reg .TWL_DIR_RESULT 0 = 0) ∧
      (s.reachable ≠ [] → t.flag F.TWL_DIR_RESULT_BUSY 0 = true) := by
  have hk := s.putDir_keeps flow entry ovf
  have hr : (s.putDir flow entry ovf).reachable = s.reachable := State.reachable_congr rfl (hk.fld (by simp) 0)
  exact ⟨h.entry, by rw [h.seq, hk.regs _ _ (by simp)], fun hn => h.alone (hr.trans hn), fun hn => h.waits (hr.trans_ne hn)⟩

variable {s} in
/-- A WRITE of an own, well-formed entry, with a place for it, is carried out. -/
theorem State.dirWrite_own {who : Option (Option Nat × Key × Nat)} {flow : Nat} {e : Word128} {ovf : Bool}
    (hbad : s.badDirWrite flow e = false) (hown : dirOrigin e / 512 = s.domainId)
    (hroom : ovf = true → s.twl.dirs.overflow.length < 256) :
    s.dirWrite who flow e ovf = s.originate who flow (some e) ovf := by
  have hfull : ¬ (ovf && !Tbl.get (fun _ => false) s.twl.dirs.overflow flow && decide (256 ≤ s.twl.dirs.overflow.length)) = true := by
    simp only [Bool.and_eq_true, decide_eq_true_eq, not_and, Nat.not_le]
    exact fun h => hroom h.1
  rw [State.dirWrite, if_neg (Bool.eq_false_iff.mp hbad), if_neg (not_not_intro hown)]
  exact if_neg hfull

variable {s} in
/-- A WITHDRAW of an own entry without settled routes is carried out. -/
theorem State.dirWithdraw_own {who : Option (Option Nat × Key × Nat)} {flow : Nat} (hv : dirValid (s.dirEntry flow) = true)
    (hown : dirOrigin (s.dirEntry flow) / 512 = s.domainId)
    (hr : s.twl.routes.any (fun r => r.settled && r.flow == flow) = false) :
    s.dirWithdraw who flow = s.originate who flow none false := by
  rw [State.dirWithdraw, if_neg (by simp [hv]), if_neg (not_not_intro hown), if_neg (Bool.eq_false_iff.mp hr)]

/-! ### Updates of other parts (R127, R128) -/

variable {s} in
/-- The next update of its origin, with none held, is applied alone. -/
theorem exec_dirUpdateReceive_next {u : DirUpdate} (ha : s.ahead u = 0) (hh : s.twl.dirs.held = []) (ovf : Bool) :
    exec (.dirUpdateReceive u ovf) s = .next (s.takeUpdate u ovf).showLag := by
  have hx : exec (.dirUpdateReceive u ovf) s = .next (s.receiveUpdate u ovf) := rfl
  rw [hx, State.receiveUpdate, if_pos ha, hh, List.length_nil, State.takeHeld]

variable {s} in
/-- An applied update becomes this part's copy, its origin's next number rises, and it is acknowledged. -/
theorem State.takeUpdate_shows {u : DirUpdate} {e : Word128} (hu : u.entry = some e)
    (h : dirValid (s.dirEntry u.flow) = true → dirOrigin (s.dirEntry u.flow) / 512 = u.origin) (ovf : Bool) :
    (s.takeUpdate u ovf).dirEntry u.flow = e ∧ (s.takeUpdate u ovf).nextUpdate u.origin = (u.seq + 1) % 2 ^ 32 ∧
      (s.takeUpdate u ovf).sent = .dirAck u.origin u.seq false :: s.sent := by
  rw [State.takeUpdate, State.applyDir_entry hu h]
  refine ⟨s.putDir_dirEntry u.flow e ovf, ?_, ?_⟩
  · rw [State.nextUpdate, State.emit_twl]
    exact Tbl.get_set_same _ _ _ _
  · rw [State.emit_sent, State.setDirs_sent,
      show (s.putDir u.flow (some e) ovf).sent = s.sent from (s.putDir_keeps _ _ _).parts .sent (by simp)]

/-- A request for missing updates that are kept is answered with them, and the requester is no longer marked. -/
theorem exec_dirMissingRequestReceive_kept {part from_ n : Nat}
    (hn : n = ((s.reg .TWL_DIR_SEQ 0).toNat + 1 + 2 ^ 32 - from_) % 2 ^ 32) (hl : n ≤ s.twl.dirs.log.length) :
    exec (.dirMissingRequestReceive part from_) s = .next ((s.twl.dirs.log.take n).reverse.foldl
      (fun (s : State) u => s.emit (.dirUpdate u))
      (s.setDirs { s.twl.dirs with marked := s.twl.dirs.marked.filter (· != part) })) := by
  subst hn
  exact congrArg Host.Outcome.next (if_pos hl)

/-! ### Acknowledgements (R129) -/

/-- The state in which an order without a conflict has ended: it waits no more, and the parts that did not answer are marked. -/
def State.orderEnded (s : State) (p : DirPending) : State :=
  s.setDirs { s.twl.dirs with
    pend := s.twl.dirs.pend.filter fun q => q.upd != p.upd, marked := (s.twl.dirs.marked ++ p.waiting).eraseDups }

theorem State.dirFinish_clean {p : DirPending} (hc : p.conflict = false) (hw : p.who = none) :
    s.dirFinish p = (s.orderEnded p).dirResult none .OK := by
  rw [State.dirFinish, hc, hw]
  rfl

theorem exec_dirAckReceive_last {part seq : Nat} {p : DirPending}
    (hp : s.twl.dirs.pend.find? (fun q => q.upd.seq == seq) = some p) (hw : p.waiting.filter (· != part) = [])
    (hc : p.conflict = false) :
    exec (.dirAckReceive part seq false) s = .next (s.dirFinish { p with waiting := [], conflict := false }) := by
  have hx : exec (.dirAckReceive part seq false) s = execDirAckReceive part seq false s := rfl
  rw [hx, execDirAckReceive, hp]
  dsimp only
  rw [hw, hc]
  rfl

theorem exec_dirAckTimeout_pending {seq : Nat} {p : DirPending}
    (hp : s.twl.dirs.pend.find? (fun q => q.upd.seq == seq) = some p) : exec (.dirAckTimeout seq) s = .next (s.dirFinish p) := by
  have hx : exec (.dirAckTimeout seq) s = execDirAckTimeout seq s := rfl
  rw [hx, execDirAckTimeout, hp]

/-! ### What a merge of entries may change (R127, R132) -/

/-- The footprint of the merge of an entry: this part's copy and its counts, and what a conflict reports and tears down. -/
def mergeFoot : Foot where
  parts := [.twl, .dir, .tks, .egr, .host, .sent, .awl]
  regs := [.TWL_DIR_COUNT, .TWL_DIR_OWN, .TWL_DIR_OVF, .TWL_DIR_CONFLICT, .TWL_INT_STAT, .EGR_OUT_TAKE] ++ routeFoot ++ awlRegs

theorem State.tearDown_keeps (req : Nat) : Frame mergeFoot s (s.tearDown req) := by
  have hr : Frame mergeFoot s (s.release req) := (s.release_keeps req).mono (by simp [mergeFoot]) (by decide)
  have ht := Frame.foldl (fun u (t : PendTake) h => Frame.ite (c := t.req = some req)
    (State.setTake_frame (t' := { t with req := none, routed := false }) h (by simp [mergeFoot])) h) (s.release req).tks.takes hr
  exact Frame.foldl (fun u (e : Nat × Output) h => Frame.ite (c := e.2.route = some req)
    (State.loseOutRoute_frame (n := e.1) h (by simp [mergeFoot]) (by simp [mergeFoot])) h) _ ht

theorem State.dirLose_keeps (flow : Nat) (loser : Word128) : Frame mergeFoot s (s.dirLose flow loser) := by
  have h1 : Frame mergeFoot s (s.count .TWL_DIR_CONFLICT 0 1) := State.count_frame (.refl _ s) (by simp [mergeFoot])
  have h2 := State.irq_frame h1 (by simp [mergeFoot]) (c := Irq.TWL_DIR_CONFLICT) (by decide)
  exact Frame.foldl (fun u (r : Route) h => h.trans (u.tearDown_keeps r.req)) _
    (State.awlCause_frame h2 (by simp [mergeFoot]) (by decide))

theorem State.mergeDir_keeps (ovf : List Nat) (e : Nat × Word128) : Frame mergeFoot s (s.mergeDir ovf e) := by
  have hput : ∀ (u : State) o, Frame mergeFoot u (u.putDir e.1 (some e.2) o) := fun u o =>
    (u.putDir_keeps _ _ _).mono (by simp [mergeFoot]) (by simp [mergeFoot])
  unfold State.mergeDir
  exact .ite (.ite (s.dirLose_keeps _ _) ((s.dirLose_keeps _ _).trans (hput _ _))) (hput s _)

theorem State.dropOrigin_keeps (origin : Nat) : Frame mergeFoot s (s.dropOrigin origin) :=
  State.dropOrigin_frame (.refl _ s) (by simp [mergeFoot]) (by simp [mergeFoot])

/-- The origins that a resynchronisation awaits, and those left for later. -/
def State.originsLeft (s : State) : List Nat × List Nat := (s.twl.dirs.awaiting, s.twl.dirs.later)

theorem State.tearDown_dirs (req : Nat) : (s.tearDown req).twl.dirs = s.twl.dirs := by
  unfold State.tearDown
  dsimp only
  rw [foldl_keeps _ (fun s => s.twl.dirs) (fun s (e : Nat × Output) => by split <;> rfl),
    foldl_keeps _ (fun s => s.twl.dirs) (fun s (t : PendTake) => by split <;> rfl), State.release_dirs]

theorem State.dirLose_dirs (flow : Nat) (loser : Word128) : (s.dirLose flow loser).twl.dirs = s.twl.dirs := by
  unfold State.dirLose
  dsimp only
  rw [foldl_keeps _ (fun s => s.twl.dirs) (fun s (r : Route) => s.tearDown_dirs r.req), State.awlCause_twl, State.irq_twl,
    State.count_twl]

theorem State.mergeDir_originsLeft (ovf : List Nat) (e : Nat × Word128) : (s.mergeDir ovf e).originsLeft = s.originsLeft := by
  have hput : ∀ (u : State) o, (u.putDir e.1 (some e.2) o).originsLeft = u.originsLeft := fun _ _ => rfl
  have hlose : ∀ loser, (s.dirLose e.1 loser).originsLeft = s.originsLeft := fun loser => by
    rw [State.originsLeft, s.dirLose_dirs]
    rfl
  unfold State.mergeDir
  dsimp only
  split
  · split
    · exact hlose _
    · exact (hput _ _).trans (hlose _)
  · exact hput s _

/-! ### Resynchronisation (R131) -/

theorem State.resyncEnd_keeps : Frame ⟨[], [.TWL_STATUS]⟩ s s.resyncEnd := State.resyncEnd_frame (.refl _ s) (.refl _)

@[simp] theorem State.resyncEnd_twl : s.resyncEnd.twl = s.twl := s.resyncEnd_keeps.parts .twl (by simp)

variable {s} in
/-- A resynchronisation that awaits an origin goes on. -/
theorem State.resyncEnd_awaiting (h : s.twl.dirs.awaiting ≠ []) : s.resyncEnd = s := by
  rw [State.resyncEnd, if_neg (by simp [h])]

@[simp] theorem State.showLag_twl : s.showLag.twl = s.twl := rfl

/-- The state in which a resynchronisation is flagged and this part's own entries are those of its state image (R131). -/
def State.resyncOwn (s : State) : State :=
  let t := ((s.setFlag F.TWL_STATUS_DIR_RESYNC 0 true).setFlag F.TWL_STATUS_DIR_READY 0 false).irq Irq.TWL_DIR_RESYNC
  t.twl.dirs.image.foldl (fun (s : State) e => s.mergeDir [] e) (t.dropOrigin t.domainId)

/-- The state in which the named origins are awaited and asked. -/
def State.originsAsked (s : State) (origins : List Nat) : State :=
  origins.foldl (fun (s : State) o => s.emit (.dirRequest o (s.nextUpdate o)))
    (s.setDirs { s.twl.dirs with awaiting := origins, later := s.twl.dirs.later.filter fun o => !origins.contains o })

theorem exec_dirResyncStart (origins : List Nat) :
    exec (.dirResyncStart origins) s = .next (s.resyncOwn.originsAsked origins).resyncEnd.showLag := rfl

theorem State.originsAsked_awaiting (origins : List Nat) : (s.originsAsked origins).twl.dirs.awaiting = origins := by
  rw [State.originsAsked, foldl_keeps _ State.twl fun s o => s.emit_twl _]
  rfl

theorem State.originsAsked_flag (origins : List Nat) (g : Fld) (i : Nat) : (s.originsAsked origins).flag g i = s.flag g i := by
  rw [State.originsAsked, foldl_keeps _ (fun s => s.flag g i) fun s o => s.emit_flag _ _ _]
  rfl

theorem State.resyncOwn_flags :
    s.resyncOwn.flag F.TWL_STATUS_DIR_RESYNC 0 = true ∧ s.resyncOwn.flag F.TWL_STATUS_DIR_READY 0 = false := by
  unfold State.resyncOwn
  extract_lets t
  have hm : Frame mergeFoot t (t.twl.dirs.image.foldl (fun (s : State) e => s.mergeDir [] e) (t.dropOrigin t.domainId)) :=
    Frame.foldl (fun u e h => h.trans (u.mergeDir_keeps [] e)) _ (t.dropOrigin_keeps _)
  rw [hm.flag (by decide), hm.flag (by decide), State.irq_flag _ _ (by decide), State.irq_flag _ _ (by decide)]
  refine ⟨?_, State.flag_setFlag_same _ _ _ _ (by decide) rfl⟩
  rw [State.flag_setFlag_disjoint (f := F.TWL_STATUS_DIR_READY) (g := F.TWL_STATUS_DIR_RESYNC) _ 0 _ rfl (by decide) (by decide),
    State.flag_setFlag_same _ _ _ _ (by decide) rfl]

/-- The state in which an origin's whole set of entries, up to update seq, has replaced what this part had of it. -/
def State.originMerged (s : State) (origin seq : Nat) (es : List (Nat × Word128)) (ovf : List Nat) : State :=
  let t := (es.filter fun (e : Nat × Word128) => dirValid e.2 && dirOrigin e.2 / 512 == origin).foldl
    (fun (s : State) e => s.mergeDir ovf e) (s.dropOrigin origin)
  t.setDirs { t.twl.dirs with
    next := Tbl.set (fun _ => 1) origin ((seq + 1) % 2 ^ 32) t.twl.dirs.next, held := t.twl.dirs.held.filter fun u => u.origin != origin }

/-- The state in which an origin is awaited no more, nor left for later. -/
def State.originDone (s : State) (origin : Nat) : State :=
  s.setDirs { s.twl.dirs with awaiting := s.twl.dirs.awaiting.filter (· != origin), later := s.twl.dirs.later.filter (· != origin) }

theorem exec_dirResyncAnswer_entries (origin seq : Nat) (es : List (Nat × Word128)) (updates : List DirUpdate) (ovf : List Nat) :
    exec (.dirResyncAnswer origin seq (some es) updates ovf) s =
      .next ((s.originMerged origin seq es ovf).originDone origin).resyncEnd.showLag := rfl

theorem State.originMerged_next (origin seq : Nat) (es : List (Nat × Word128)) (ovf : List Nat) :
    (s.originMerged origin seq es ovf).nextUpdate origin = (seq + 1) % 2 ^ 32 :=
  Tbl.get_set_same _ _ _ _

theorem State.originMerged_originsLeft (origin seq : Nat) (es : List (Nat × Word128)) (ovf : List Nat) :
    (s.originMerged origin seq es ovf).originsLeft = s.originsLeft :=
  foldl_keeps (s.dropOrigin origin) State.originsLeft (fun s e => s.mergeDir_originsLeft ovf e) _

theorem exec_dirResyncOriginTimeout_awaited {origin : Nat} (h : s.twl.dirs.awaiting.contains origin = true) :
    exec (.dirResyncOriginTimeout origin) s = .next (s.setDirs { s.twl.dirs with
      awaiting := s.twl.dirs.awaiting.filter (· != origin), later := s.twl.dirs.later ++ [origin] }).resyncEnd.showLag :=
  congrArg Host.Outcome.next (if_pos h)

end Sys2Proof.Machine
end

section
/-! Settles O18 from the equations of directory orders, updates, acknowledgements and resynchronisation. -/

open Sys2Proof Sys2Proof.Machine

/-- Settles O18, clause by clause: READ, WRITE, WITHDRAW, an update, a request for missing updates, the last acknowledgement, the
timeout, and the start, an answer and a silent origin of a resynchronisation. The origins awaited are those that the command
names (log 20). -/
theorem directoryOrdersUpdatesAndResync : Obligations.DirectoryOrdersUpdatesAndResync := by
  unfold Obligations.DirectoryOrdersUpdatesAndResync
  refine ⟨?read, ?write, ?withdraw, ?update, ?missing, ?ack, ?timeout, ?start, ?answer, ?silent⟩
  case read =>
    intro src i s ho hb
    rw [exec_dirRead_idle ho hb]
    exact .next ⟨s.dirFetch_data i, (State.dirResult_none_ok _).2, rfl⟩
  case write =>
    intro src ovf flow s ho hb hf hbad hown hroom hcur
    have happ := State.applyDir_entry (s := s.answer .OK) (u := ⟨s.domainId, 0, flow, some s.dirData⟩) rfl hcur ovf
    obtain ⟨hentry, hrest⟩ := (State.originate_ordered happ).of_putDir
    rw [exec_dirWrite_idle ho hb, ← hf, State.dirWrite_own (s := s.answer .OK) hbad hown hroom]
    exact .next ⟨hentry.trans (State.putDir_dirEntry _ _ _ _), hrest⟩
  case withdraw =>
    intro src flow s ho hb hf hv hown hr
    have happ := State.applyDir_withdrawal (s := s.answer .OK) (u := ⟨s.domainId, 0, flow, none⟩) rfl hv hown false
    obtain ⟨hentry, hseq, halone, -⟩ := (State.originate_ordered happ).of_putDir
    rw [exec_dirWithdraw_idle ho hb, ← hf, State.dirWithdraw_own (s := s.answer .OK) hv hown hr]
    exact .next ⟨hentry.trans (State.putDir_dirEntry_withdrawn _ _ _), hseq, halone⟩
  case update =>
    intro u ovf e s ha hh hu hcur
    rw [exec_dirUpdateReceive_next ha hh]
    exact .next (State.takeUpdate_shows hu hcur ovf)
  case missing =>
    intro part from_ n s hn hl
    rw [exec_dirMissingRequestReceive_kept s hn hl]
    refine .next ⟨?_, ?_⟩
    · rw [State.foldl_emit_sent, List.reverse_reverse, State.setDirs_sent]
    · rw [foldl_keeps _ State.twl fun s u => s.emit_twl _]
      rfl
  case ack =>
    intro part seq p s hp hw hc hwho
    rw [exec_dirAckReceive_last s hp hw hc, State.dirFinish_clean s (p := { p with waiting := [], conflict := false }) rfl hwho]
    exact .next ⟨rfl, (State.dirResult_none_ok _).2, rfl⟩
  case timeout =>
    intro seq p s hp hc hwho
    rw [exec_dirAckTimeout_pending s hp, s.dirFinish_clean hc hwho]
    exact .next ⟨rfl, (State.dirResult_none_ok _).2, rfl⟩
  case start =>
    intro origins s hne
    have hawait := s.resyncOwn.originsAsked_awaiting origins
    obtain ⟨hresync, hready⟩ := s.resyncOwn_flags
    rw [exec_dirResyncStart, State.resyncEnd_awaiting (by rwa [hawait])]
    refine .next ⟨?_, ?_, hawait⟩
    · rw [State.showLag, State.flag_setReg_ne _ (by decide), State.originsAsked_flag, hresync]
    · rw [State.showLag, State.flag_setReg_ne _ (by decide), State.originsAsked_flag, hready]
  case answer =>
    intro origin seq es updates ovf s
    have hleft := s.originMerged_originsLeft origin seq es ovf
    simp only [State.originsLeft, Prod.mk.injEq] at hleft
    obtain ⟨hawaiting, hlater⟩ := hleft
    rw [exec_dirResyncAnswer_entries]
    refine .next ⟨?_, ?_, ?_⟩
    · rw [State.nextUpdate, State.showLag_twl, State.resyncEnd_twl]
      exact s.originMerged_next origin seq es ovf
    · rw [State.showLag_twl, State.resyncEnd_twl, ← hawaiting]
      rfl
    · rw [State.showLag_twl, State.resyncEnd_twl, ← hlater]
      rfl
  case silent =>
    intro origin s h
    rw [exec_dirResyncOriginTimeout_awaited s h]
    refine .next ?_
    rw [State.showLag_twl, State.resyncEnd_twl]
    exact ⟨rfl, rfl⟩

end

section
/-! SUPPORT of O19, O20 and O25: the HEALTH outputs, fencing, and the outcome of the self-checks. -/

namespace Sys2Proof.Machine

variable (s : State)

/-! ### The takes' record -/

/-- The state with another record of takes and cross-checks. -/
def State.setTks (s : State) (x : Tks) : State := { s with tks := x }

@[simp] theorem State.setTks_tks (x : Tks) : (s.setTks x).tks = x := rfl
@[simp] theorem State.setTks_reg (x : Tks) (r : Reg) (i : Nat) : (s.setTks x).reg r i = s.reg r i := rfl
@[simp] theorem State.setTks_fld (x : Tks) (g : Fld) (i : Nat) : (s.setTks x).fld g i = s.fld g i := rfl
@[simp] theorem State.setTks_flag (x : Tks) (g : Fld) (i : Nat) : (s.setTks x).flag g i = s.flag g i := rfl

/-! ### The HEALTH outputs (R223, R224) -/

/-- All that driving the HEALTH pins may change. -/
def healthFoot : Foot := ⟨[.egr, .host, .sent], [.EGR_HEALTH_STAT, .GLB_INT_SUM, .EGR_INT_STAT]⟩

theorem State.setEgr_keeps (x : Egr) : Frame healthFoot s { s with egr := x } := by
  refine (Frame.refl _ s).of_parts (fun p hp => ?_) rfl
  cases p
  case egr => exact absurd List.mem_cons_self hp
  all_goals rfl

theorem State.setHealth_keeps (a b : Bool) : Frame healthFoot s (s.setHealth a b) := by
  unfold State.setHealth
  extract_lets _ _ s1 s2 s3
  have h1 : Frame healthFoot s s1 := s.setEgr_keeps _
  have h3 : Frame healthFoot s s3 := State.setFld_frame (State.setFld_frame
    (State.setFlag_frame (State.setFlag_frame h1 (by decide)) (by decide)) (by decide)) (by decide)
  exact .ite (State.irq_frame h3 (by decide) (by decide)) h3

theorem State.health_keeps : Frame healthFoot s s.health := s.setHealth_keeps _ _

/-- Driving the HEALTH pins begins no frame of a domain. -/
theorem State.health_otds : s.health.egr.otds = s.egr.otds := by
  unfold State.health State.setHealth
  dsimp only
  split
  · rw [State.irq_egr]
    rfl
  · rfl

/-! ### Fencing (R180, R542) -/

theorem State.resume_tks (core : Nat) : (s.resume core).tks = s.tks :=
  (State.resume_frame (f := ⟨[.nim], []⟩) (.refl _ s) (.refl _)).parts .tks (by simp)

/-- A context that ends leaves the self-check as it stands. -/
theorem State.endCtx_check (i : Nat) : (s.endCtx i).tks.check = s.tks.check := by
  unfold State.endCtx
  dsimp only
  rw [State.showCore, State.setFld_tks, State.resume_tks]
  split <;> rfl

theorem State.stopWork_check : s.stopWork.tks.check = s.tks.check := by
  unfold State.stopWork
  refine foldl_keeps s (fun s => s.tks.check) (fun s e => ?_) _
  exact s.endCtx_check e.1

/-- The state in which a part shows that it is fenced, and why, before its work stops. -/
def State.fenceMarked (s : State) (step : Nat) : State :=
  ((s.setFlag F.RSL_STATUS_FENCED 0 true).setFld F.RSL_FENCE_STAT_STATE 0 (fenceStateOf step)).setFld F.RSL_FENCE_STAT_STEP 0 step

/-- All that may change once a part shows that it is fenced. -/
def fenceFoot : Foot where
  parts := [.tks, .twl, .nim, .egr, .host, .sent, .awl]
  regs := [.NIM_CORE_STAT, .RSL_INT_STAT, .GLB_ALERT_STAT, .GLB_INT_STAT, .EGR_HEALTH_STAT, .GLB_INT_SUM, .EGR_INT_STAT,
    .AWL_MERGED, .AWL_STATUS, .INS_RET_STAT, .AWL_LOST, .AWL_INT_STAT]

variable {s}

theorem State.fence_of_fenced (h : s.fenced = true) (step : Nat) : s.fence step = s := if_pos h

/-- A part that fences shows it; its work stops, its HEALTH falls and its partner is told after that (R180). -/
theorem State.fence_after (h : s.fenced = false) (step : Nat) :
    Frame fenceFoot (s.fenceMarked step) (s.fence step) ∧ (s.fence step).tks.check = s.tks.check := by
  have heq : s.fence step = let t := (((s.fenceMarked step).stopWork).alarm Irq.RSL_FENCED alertFenced 0 step).health
      if t.mirrored then t.emit .fencedNotice else t := if_neg (by simp [h])
  rw [heq]
  extract_lets t
  have hstop : Frame fenceFoot (s.fenceMarked step) (s.fenceMarked step).stopWork :=
    State.stopWork_frame (.refl _ _) (by decide) (by decide)
  have ht : Frame fenceFoot (s.fenceMarked step) t :=
    (State.alarm_frame hstop (by decide) (by decide) (by decide)).trans ((State.health_keeps _).mono (by decide) (by decide))
  have hc : t.tks.check = s.tks.check := by
    have htks : t.tks = (s.fenceMarked step).stopWork.tks :=
      ((State.health_keeps _).parts .tks (by decide)).trans (State.alarm_tks _ _ _ _ _)
    rw [htks, State.stopWork_check]
    rfl
  split
  · exact ⟨State.emit_frame ht (by decide), hc⟩
  · exact ⟨ht, hc⟩

/-- After a fence the part reads FENCED, whether it was fenced before or not. -/
theorem State.fence_fenced (step : Nat) : (s.fence step).fenced = true := by
  by_cases h : s.fenced = true
  · rw [State.fence_of_fenced h, h]
  · have hf := (State.fence_after (Bool.eq_false_iff.mpr h) step).1
    rw [State.fenced, hf.flag (by decide), State.fenceMarked, State.flag_setFld_ne _ (by decide), State.flag_setFld_ne _ (by decide),
      State.flag_setFlag_same _ _ _ _ (by decide) rfl]

/-- A fence leaves the last divergence as it is shown, and the self-check as it stands. -/
theorem State.fence_keeps (step : Nat) : (∀ i, (s.fence step).reg .RSL_XCHK_LAST i = s.reg .RSL_XCHK_LAST i) ∧
    (s.fence step).tks.check = s.tks.check := by
  by_cases h : s.fenced = true
  · rw [State.fence_of_fenced h]
    exact ⟨fun _ => rfl, rfl⟩
  · obtain ⟨hf, hc⟩ := State.fence_after (Bool.eq_false_iff.mpr h) step
    refine ⟨fun i => ?_, hc⟩
    rw [hf.regs _ _ (by decide), State.fenceMarked, State.reg_setFld_ne _ (by decide), State.reg_setFld_ne _ (by decide),
      State.reg_setFlag_ne _ (by decide)]

/-- A part that fences for a step of Table 04.6 shows the state that the step calls for, and the step. -/
theorem State.fence_shows (h : s.fenced = false) {step : Nat} (hs : step < 2 ^ 3) :
    (s.fence step).fld F.RSL_FENCE_STAT_STATE 0 = fenceStateOf step ∧ (s.fence step).fld F.RSL_FENCE_STAT_STEP 0 = step := by
  have hst : fenceStateOf step < 2 ^ 3 := by
    unfold fenceStateOf fenceFenced fenceRepairing fencePermanent
    split
    · decide
    · split <;> decide
  have hf := (State.fence_after h step).1
  constructor
  · rw [hf.fld (by decide), State.fenceMarked, State.fld_setFld_disjoint (f := F.RSL_FENCE_STAT_STEP)
      (g := F.RSL_FENCE_STAT_STATE) _ 0 step rfl (by decide) (by decide), State.fld_setFld_same _ _ _ _ (by decide)]
    exact Nat.mod_eq_of_lt hst
  · rw [hf.fld (by decide), State.fenceMarked, State.fld_setFld_same _ _ _ _ (by decide)]
    exact Nat.mod_eq_of_lt hs

/-! ### The outcome of both self-checks (R179, Table 04.7) -/

/-- The state in which both self-checks have ended with result r at a step, before any consequence. -/
def State.checkEnded (s : State) (r step : Nat) : State :=
  ((s.setFld F.RSL_XCHK_LAST_RESULT 0 r).setFld F.RSL_XCHK_LAST_STEP 0 step).setTks
    { s.tks with check := none, partnerCheck := none }

theorem State.checkEnded_result (s : State) {r : Nat} (hr : r < 2 ^ 4) (step : Nat) :
    (s.checkEnded r step).fld F.RSL_XCHK_LAST_RESULT 0 = r := by
  rw [State.checkEnded, State.setTks_fld, State.fld_setFld_disjoint (f := F.RSL_XCHK_LAST_STEP) (g := F.RSL_XCHK_LAST_RESULT) _ 0
    step rfl (by decide) (by decide), State.fld_setFld_same _ _ _ _ (by decide)]
  exact Nat.mod_eq_of_lt hr

theorem State.checkEnded_fenced (s : State) (r step : Nat) : (s.checkEnded r step).fenced = s.fenced := by
  rw [State.fenced, State.checkEnded, State.setTks_flag, State.flag_setFld_ne _ (by decide), State.flag_setFld_ne _ (by decide),
    State.fenced]

theorem State.alert_fenced (s : State) (b : Nat) : (s.alert b).fenced = s.fenced := by
  rw [State.fenced, s.alert_flag b (by decide), State.fenced]

/-- RESULT of the self-checks: this part's step and whether its partner passed (R179). -/
def checkResult (step : Nat) (partner : Bool) : Nat :=
  if step = 0 then (if partner then 1 else 3) else (if partner then 2 else 4)

theorem State.checkOutcome_eq (s : State) (step : Nat) (partner : Bool) : s.checkOutcome step partner =
    let t := s.checkEnded (checkResult step partner) step
    if checkResult step partner = 2 then t.fence step else if checkResult step partner = 3 then t else t.alert alertDiverged := rfl

/-- A part that failed while its partner passed fences. -/
theorem State.checkOutcome_fences (s : State) {step : Nat} (h : step ≠ 0) :
    s.checkOutcome step true = (s.checkEnded 2 step).fence step := by
  have hr : checkResult step true = 2 := if_neg h
  rw [State.checkOutcome_eq, hr]
  exact if_pos rfl

/-- When this part passed or its partner failed, this part goes on: it fences in no case. -/
theorem State.checkOutcome_goesOn (s : State) {step : Nat} {partner : Bool} (h : step = 0 ∨ partner = false) :
    (s.checkOutcome step partner).fenced = s.fenced ∧
      (s.checkOutcome step partner).fld F.RSL_XCHK_LAST_RESULT 0 = (if step = 0 then (if partner then 1 else 3) else 4) ∧
      (s.checkOutcome step partner).tks.check = none := by
  obtain ⟨r, hr⟩ : ∃ r, r = checkResult step partner := ⟨_, rfl⟩
  have hgoes : r ≠ 2 ∧ r < 2 ^ 4 ∧ r = if step = 0 then (if partner then 1 else 3) else 4 := by
    rw [hr, checkResult]
    obtain rfl | rfl := h
    · cases partner <;> decide
    · by_cases h0 : step = 0 <;> simp [h0]
  obtain ⟨h2, h16, hr'⟩ := hgoes
  have hend := s.checkEnded_fenced r step
  have hres := s.checkEnded_result h16 step
  rw [State.checkOutcome_eq, ← hr, ← hr']
  dsimp only
  rw [if_neg h2]
  split
  · exact ⟨hend, hres, rfl⟩
  · exact ⟨(State.alert_fenced _ _).trans hend, (State.alert_fld _ _ (by decide) 0).trans hres, by rw [State.alert_tks]; rfl⟩

/-! ### The commands of the self-check, and silence (R178, R179, R181, R549) -/

/-- The state in which the self-check has ended at a step, and the partner has been told. -/
def State.checkTold (s : State) (step : Fin 6) : State :=
  ((s.emit (.selfCheck (step == 0))).setFld F.RSL_XCHK_LAST_STEP 0 step).setTks { s.tks with check := some (some step.val) }

theorem State.checkTold_shows (s : State) (step : Fin 6) :
    (s.checkTold step).fld F.RSL_XCHK_LAST_STEP 0 = step ∧ (s.checkTold step).fenced = s.fenced := by
  rw [State.fenced, State.checkTold, State.setTks_fld, State.setTks_flag]
  refine ⟨?_, (State.flag_setFld_ne _ (by decide) _ _ _).trans (s.emit_flag _ _ _)⟩
  rw [State.fld_setFld_same _ _ _ _ (by decide)]
  exact Nat.mod_eq_of_lt (step.isLt.trans (by decide))

theorem exec_selfCheckDone_running (h : s.tks.check = some none) (step : Fin 6) : exec (.selfCheckDone step) s =
    .next (match s.tks.partnerCheck with | some p => (s.checkTold step).checkOutcome step p | none => s.checkTold step) :=
  congrArg Host.Outcome.next (if_pos h)

theorem exec_selfCheckResultReceive_running (h : s.tks.check = some none) (passed : Bool) :
    exec (.selfCheckResultReceive passed) s = .next (s.setTks { s.tks with partnerCheck := some passed }) := by
  have he : exec (.selfCheckResultReceive passed) s = execSelfCheckResultReceive passed s := rfl
  rw [he, execSelfCheckResultReceive, h]
  rfl

theorem exec_selfCheckResultReceive_ended {n : Nat} (h : s.tks.check = some (some n)) (passed : Bool) :
    exec (.selfCheckResultReceive passed) s = .next (s.checkOutcome n passed) := by
  have he : exec (.selfCheckResultReceive passed) s = execSelfCheckResultReceive passed s := rfl
  rw [he, execSelfCheckResultReceive, h]

theorem exec_selfCheckResultTimeout_ended {n : Nat} (h : s.tks.check = some (some n)) :
    exec .selfCheckResultTimeout s =
      .next (let t := (s.setFld F.RSL_XCHK_LAST_RESULT 0 5).alert alertDiverged
        t.setTks { t.tks with check := none, partnerCheck := none }) := by
  have he : exec .selfCheckResultTimeout s = execSelfCheckResultTimeout s := rfl
  rw [he, execSelfCheckResultTimeout, h]
  rfl

theorem exec_partnerSilence_missing (hx : s.xchkOn = true) (hp : s.paired = true) (hq : s.rsl.probing = false)
    (hm : s.fld F.RSL_XCHK_CFG_MISS_FRAMES 0 ≤ s.tks.missing) :
    exec .partnerSilence s = .next ((s.setRsl { s.rsl with probing := true }).emit .probe) :=
  congrArg Host.Outcome.next (if_pos (by simp [hx, hp, hq, hm]))

end Sys2Proof.Machine
end

section
/-! Settles O25 from the equations of the self-check's commands. -/

open Sys2Proof Sys2Proof.Machine

/-- Settles O25, clause by clause: the end of the self-check without and with the partner's result, the partner's result while the
self-check runs, one that lets this part go on and one that fences it, no result in time, and the partner's silence. -/
theorem selfCheckDecidesWhoFences : Obligations.SelfCheckDecidesWhoFences := by
  unfold Obligations.SelfCheckDecidesWhoFences
  refine ⟨?ended, ?failed, ?early, ?goesOn, ?fences, ?timeout, ?silence⟩
  case ended =>
    intro step s hc hp
    obtain ⟨hstep, hfen⟩ := s.checkTold_shows step
    rw [exec_selfCheckDone_running hc, hp]
    exact .next ⟨rfl, rfl, hstep, hfen⟩
  case failed =>
    intro step s hc hp h0
    rw [exec_selfCheckDone_running hc, hp]
    obtain ⟨hlast, hcheck⟩ := State.fence_keeps (s := (s.checkTold step).checkEnded 2 step) step
    refine .next ?_
    dsimp only
    rw [State.checkOutcome_fences _ h0]
    refine ⟨State.fence_fenced _, ?_, hcheck⟩
    rw [State.fld, hlast]
    exact State.checkEnded_result _ (by decide) _
  case early =>
    intro passed s hc
    rw [exec_selfCheckResultReceive_running hc]
    exact .next ⟨rfl, rfl⟩
  case goesOn =>
    intro passed n s hc hn
    rw [exec_selfCheckResultReceive_ended hc]
    exact .next (s.checkOutcome_goesOn hn)
  case fences =>
    intro n s hc h0 hf hn
    obtain ⟨hstate, hstep⟩ := State.fence_shows ((s.checkEnded_fenced 2 n).trans hf) hn
    rw [exec_selfCheckResultReceive_ended hc, State.checkOutcome_fences _ h0]
    refine .next ⟨State.fence_fenced _, hstate, hstep, ?_⟩
    rw [State.fld, (State.fence_keeps n).1]
    exact s.checkEnded_result (by decide) n
  case timeout =>
    intro n s hc
    rw [exec_selfCheckResultTimeout_ended hc]
    refine .next ⟨?_, rfl, rfl, ?_⟩
    · rw [State.setTks_fld, State.alert_fld _ _ (by decide), State.fld_setFld_same _ _ _ _ (by decide)]
      rfl
    · rw [State.fenced, State.setTks_flag, State.alert_flag _ _ (by decide), State.flag_setFld_ne _ (by decide), State.fenced]
  case silence =>
    intro s hx hp hq hm
    rw [exec_partnerSilence_missing hx hp hq hm]
    exact .next ⟨rfl, rfl, rfl⟩

end

section
/-! SUPPORT of O20: a record of the partner that arrives, and its comparison with this part's own. -/

namespace Sys2Proof.Machine

variable (s : State)

/-! ### The cross-check of two records (R177, R178) -/

/-- The partner's records that have arrived, and the frames for which it has been silent (R181). -/
def State.silence (s : State) : Nat × Nat := (s.tks.got, s.tks.missing)

/-- A free value and a staged record leave the takes alone. -/
theorem State.awlUnstated_tks (b : Blk) (arg : Nat) : (s.awlUnstated b arg).tks = s.tks :=
  (State.awlUnstated_frame (f := ⟨[.freeCtr, .awl, .host, .sent], awlRegs⟩) (.refl _ s) (.refl _) (by decide)).parts .tks (by decide)

/-- The state in which a divergence is counted, shown and answered, before the self-check starts. -/
def State.divergenceShown (s : State) (n frame reason : Nat) : State :=
  (((s.count .RSL_XCHK_DIV 0 1).setReg .RSL_XCHK_LAST 0 (BitVec.ofNat 64 (reason * 2 ^ 27 + frame % 256 * 256 + n % 128))).alarm
    Irq.RSL_DIVERGED alertDiverged n (frame % 256)).answer .DIVERGED

theorem State.declareDiverged_eq (n frame reason : Nat) : s.declareDiverged n frame reason =
    let t := s.divergenceShown n frame reason
    t.setTks { t.tks with check := some none, partnerCheck := none, diverged := Tbl.set (fun _ => 0) n 0 t.tks.diverged } := rfl

theorem State.divergenceShown_tks (n frame reason : Nat) : (s.divergenceShown n frame reason).tks = s.tks := by
  rw [State.divergenceShown, State.answer_tks, State.alarm_tks, State.setReg_tks, State.count_tks]

/-- A divergence is counted and answered, and starts the self-check (R178). -/
theorem State.declareDiverged_shows (n frame reason : Nat) :
    (s.declareDiverged n frame reason).reg .RSL_XCHK_DIV 0 = s.counted .RSL_XCHK_DIV 0 1 ∧
      (s.declareDiverged n frame reason).tks.check = some none ∧ (s.declareDiverged n frame reason).resp = .DIVERGED := by
  rw [State.declareDiverged_eq]
  refine ⟨?_, rfl, rfl⟩
  dsimp only
  rw [State.setTks_reg, State.divergenceShown, State.answer_reg, State.alarm_reg _ _ _ _ _ (by decide),
    State.reg_setReg_other _ (by decide), State.reg_count_counted]

theorem State.declareDiverged_silence (n frame reason : Nat) : (s.declareDiverged n frame reason).silence = s.silence := by
  simp only [State.silence, State.declareDiverged_eq, State.setTks_tks, State.divergenceShown_tks]

/-- A comparison of records is about their content: it leaves the partner's silence as it stands. -/
theorem State.compareX_silence (own theirs : XchkRec) : (s.compareX own theirs).silence = s.silence := by
  unfold State.compareX
  split
  · exact s.declareDiverged_silence _ _ _
  · split
    · rfl
    · split
      · dsimp only
        split
        · rw [State.silence, State.awlUnstated_tks]
          rfl
        · rfl
      · dsimp only
        split
        · exact State.declareDiverged_silence _ _ _ _
        · rfl

theorem State.compareX_diverged {own theirs : XchkRec} (h : own.src ≠ theirs.src) :
    s.compareX own theirs = s.declareDiverged own.out own.frame 1 := if_pos h

/-! ### A record of the partner (R177, R181) -/

/-- The state in which a record of the partner has arrived: its silence ends, and unless it is being probed its missing records
are counted (R181). -/
def State.recordArrived (s : State) : State :=
  let t := s.setTks { s.tks with got := s.tks.got + 1, missing := 0 }
  if t.rsl.probing then t else (t.count .RSL_XCHK_MISS 0 t.rsl.missed).setRsl { t.rsl with missed := 0 }

theorem exec_xchkRecordReceive_on (h : s.xchkOn = true) (r : XchkRec) : exec (.xchkRecordReceive r) s =
    .next (match s.recordArrived.tks.sentX.find? fun o => o.out == r.out && o.frame == r.frame with
      | none => s.recordArrived
      | some own => (s.recordArrived.setTks
          { s.recordArrived.tks with sentX := s.recordArrived.tks.sentX.erase own }).compareX own r) :=
  congrArg Host.Outcome.next (if_neg (by simp [h]))

theorem State.recordArrived_tks : s.recordArrived.tks = { s.tks with got := s.tks.got + 1, missing := 0 } := by
  unfold State.recordArrived
  dsimp only
  split <;> rfl

/-- Missing records are counted in a register of their own. -/
theorem State.recordArrived_div : s.recordArrived.reg .RSL_XCHK_DIV 0 = s.reg .RSL_XCHK_DIV 0 := by
  unfold State.recordArrived
  dsimp only
  split
  · rfl
  · rw [State.setRsl_reg, State.reg_count_ne _ (by decide), State.setTks_reg]

end Sys2Proof.Machine
end

section
/-! Settles O20 from the equations of a received record and of a comparison. -/

open Sys2Proof Sys2Proof.Machine

/-- Settles O20, clause by clause: the end of the partner's silence, whatever the comparison finds, and a divergence of source. -/
theorem crossCheckRecordsCompared : Obligations.CrossCheckRecordsCompared := by
  unfold Obligations.CrossCheckRecordsCompared
  refine ⟨?silence, ?source⟩
  case silence =>
    intro r s hx
    have harrived : s.recordArrived.silence = (s.tks.got + 1, 0) := by rw [State.silence, s.recordArrived_tks]
    have hends : ∀ t : State, t.silence = s.recordArrived.silence → t.tks.missing = 0 ∧ t.tks.got = s.tks.got + 1 := by
      intro t ht
      obtain ⟨hgot, hmissing⟩ := Prod.mk.inj (ht.trans harrived)
      exact ⟨hmissing, hgot⟩
    rw [exec_xchkRecordReceive_on s hx]
    refine .next (hends _ ?_)
    split
    · rfl
    · exact State.compareX_silence _ _ _
  case source =>
    intro r own s hx hown hsrc
    rw [exec_xchkRecordReceive_on s hx, s.recordArrived_tks]
    dsimp only
    rw [hown]
    dsimp only
    rw [State.compareX_diverged _ hsrc]
    obtain ⟨hdiv, hcheck, hresp⟩ := State.declareDiverged_shows (s.recordArrived.setTks
      { s.tks with got := s.tks.got + 1, missing := 0, sentX := s.tks.sentX.erase own }) own.out own.frame 1
    refine .next ⟨hdiv.trans (State.counted_congr ?_ 1), hcheck, hresp⟩
    rw [State.setTks_reg, s.recordArrived_div]

end

section
/-! SUPPORT of O19: pending takes, their results, arming and switching, and the routes that carry them. -/

namespace Sys2Proof.Machine

variable (s : State)

/-! ### Pending takes (R142) -/

variable {s} in
theorem State.takeAt_congr {t : State} (h : t.tks.takes = s.tks.takes) (key : Key) (sig pos : Nat) :
    t.takeAt key sig pos = s.takeAt key sig pos := by
  rw [State.takeAt, State.takeAt, h]

variable {s} in
/-- A pending take that is changed, and keeps its key, index and position, is found as changed. -/
theorem State.takeAt_setTake {key : Key} {sig pos : Nat} {k k' : PendTake} (h : s.takeAt key sig pos = some k)
    (hsame : k.same k' = true) : (s.setTake k').takeAt key sig pos = some k' := by
  have hk : (k.key = key ∧ k.sig = sig) ∧ k.pos = pos := by simpa using List.find?_some h
  obtain ⟨⟨rfl, rfl⟩, rfl⟩ := hk
  obtain ⟨⟨hkey, hsig⟩, hpos⟩ : (k.key = k'.key ∧ k.sig = k'.sig) ∧ k.pos = k'.pos := by simpa [PendTake.same] using hsame
  have hfinds : ∀ t : State, t.takeAt k.key k.sig k.pos = t.tks.takes.find? fun q => q.same k' := by
    intro t
    rw [hkey, hsig, hpos]
    rfl
  have hcomp : ((fun q : PendTake => q.same k') ∘ fun q => if q.same k' then k' else q) = fun q => q.same k' := by
    have hself : k'.same k' = true := by simp [PendTake.same]
    funext q
    by_cases hq : q.same k' = true
    · rw [Function.comp_apply, if_pos hq, hself, hq]
    · rw [Function.comp_apply, if_neg hq]
  calc (s.setTake k').takeAt k.key k.sig k.pos
      = (s.tks.takes.map fun q => if q.same k' then k' else q).find? fun q => q.same k' := hfinds _
    _ = (s.takeAt k.key k.sig k.pos).map fun q => if q.same k' then k' else q := by rw [List.find?_map, hcomp, hfinds]
    _ = some k' := by rw [h, Option.map_some, if_pos hsame]

theorem exec_partnerAdmissionResult_ok {key : Key} {sig pos : Nat} {k : PendTake} (h : s.takeAt key sig pos = some k)
    (hown : k.own = .OK) : exec (.partnerAdmissionResult key sig pos .OK) s = .next (s.setTake { k with partner := some .OK }) := by
  have he : exec (.partnerAdmissionResult key sig pos .OK) s = execPartnerAdmissionResult key sig pos .OK s := rfl
  rw [he, execPartnerAdmissionResult, h]
  exact congrArg Host.Outcome.next ((if_pos hown).trans (if_pos rfl))

/-! ### Arming (R156) -/

theorem State.sigReturn_tks (i : Option Nat) (k : Key) (sig : Nat) (v : Word) (st : Status) :
    (s.sigReturn i k sig v st).tks = s.tks :=
  (State.sigReturn_frame (f := ⟨[.nim], []⟩) (.refl _ s) (.refl _)).parts .tks (by decide)

theorem State.endForwarded_tks (k : Key) (st : Status) : (s.endForwarded k st).tks = s.tks :=
  (State.endForwarded_frame (f := ⟨[.nim, .host, .sent], [.NIM_JRN_FREE, .NIM_JRN_OPEN, .GLB_INT_SUM, .NIM_INT_STAT]⟩) (.refl _ s)
    (.refl _) (.refl _)).parts .tks (by decide)

/-- Accounting for members leaves the pending takes as they are. -/
theorem State.account_takes (k : Key) (sig : Nat) (f : SalvoAcct → SalvoAcct) : (s.account k sig f).tks.takes = s.tks.takes := by
  unfold State.account
  split
  · rfl
  · dsimp only
    split
    · rw [State.endForwarded_tks, State.answer_tks, State.sigReturn_tks]
    · rfl

/-- A take that meets its deadline is armed where it stands, and its instruction is told. -/
theorem exec_takeArmed_inTime {key : Key} {sig pos : Nat} {k : PendTake} (h : s.takeAt key sig pos = some k)
    (harmed : k.armed = false) (hown : k.own = .OK) (hrouted : k.routed = true)
    (hpartner : s.paired = true → k.partner = some .OK) (hmeets : s.meetFrame k.otd (s.otdNow k.otd) ≤ k.frame) :
    ∃ time late, exec (.takeArmed key sig pos) s = .next ((s.setTake { k with armed := true }).memberArmed key sig time late) := by
  have he : exec (.takeArmed key sig pos) s = execTakeArmed key sig pos s := rfl
  have hready : ¬ (k.armed || k.own != .OK || !k.routed || (s.paired && k.partner != some .OK)) = true := by
    cases hp : s.paired <;> simp [harmed, hown, hrouted, hpartner, hp]
  rw [he, execTakeArmed, h]
  dsimp only
  rw [if_neg hready, if_neg (Nat.not_lt.mpr hmeets)]
  exact ⟨_, _, rfl⟩

/-! ### Completion records (R170) -/

/-- All that a completion record may change. -/
def recordFoot : Foot := ⟨[.nim, .sent, .host], [.NIM_CQ_TAIL, .NIM_CQ_LOST, .GLB_INT_SUM, .NIM_INT_STAT, .NIM_SVC_STAT]⟩

theorem State.giveTake_keeps (r : TakeRec) : Frame recordFoot s (s.giveTake r) :=
  Frame.foldl (fun _ _ h => .ite (State.wakeSvc_frame (State.setSvc_frame h (by decide)) (by decide) (by decide)) h) _ (.refl _ s)

theorem State.postTake_keeps (k : PendTake) (time : Nat) (st : Status) (superseded : Bool) :
    Frame recordFoot s (s.postTake k time st superseded) := by
  unfold State.postTake
  extract_lets r s1
  have h1 : Frame recordFoot s s1 := by
    dsimp only [s1]
    split
    · split
      · exact State.postRecord_frame (.refl _ s) (by decide) (by decide)
      · exact .ite (.refl _ s) (State.emit_frame (.refl _ s) (by decide))
    · exact .refl _ s
  exact h1.trans (s1.giveTake_keeps r)

/-! ### The switch point (R142, R156, R225) -/

/-- The state in which a take has switched its output, before its completion record. -/
def State.takeSwitched (s : State) (k : PendTake) : State :=
  let lost := !k.nochange && !k.routed
  let t := (s.dropTake k).setFld F.EGR_OUT_TAKE_SOURCE k.out k.src
  let t := (t.setFlag F.EGR_OUT_TAKE_DIRTY k.out k.dirty).setFlag F.EGR_OUT_TAKE_BONDED k.out k.bonded
  if k.nochange then t
  else
    let o := s.out k.out
    let t := t.setOut k.out { o with
      route := k.req, view := k.view, norm := k.named, fed := k.routed, gapLines := 0,
      flags := o.flags ||| (if lost then 8 else 0) ||| (if k.dirty then 16 else 0),
      audioNext := some (k.src, blockBoundary (s.switchPoint k.otd k.frame)) }
    let t := t.setFlag F.EGR_OUT_TAKE_PATH_LOST k.out lost
    let t := t.endOld (if o.route = k.req then none else o.route) (t.preEnd k.otd k.frame)
    t.setFlag F.EGR_OUT_STAT_MISMATCH k.out k.mismatch

theorem State.switchTake_posts (k : PendTake) : ∃ k' time st, s.switchTake k =
    ((s.takeSwitched k).imageSel k.out k.src k.frame).postTake k' time st false := ⟨_, _, _, rfl⟩

theorem State.endOld_keeps (old : Option Nat) (e : ResEnd) : Frame ⟨[.twl], []⟩ s (s.endOld old e) :=
  State.endOld_frame (.refl _ s) (.refl _)

/-- The output carries the take's source from then on. -/
theorem State.takeSwitched_source {k : PendTake} (hk : k.src < 2 ^ 19) :
    (s.takeSwitched k).fld F.EGR_OUT_TAKE_SOURCE k.out = k.src := by
  have hother : ∀ (t : State) {f : Fld} (b : Bool), f.reg = .EGR_OUT_TAKE → 19 ≤ f.lo →
      (t.setFlag f k.out b).fld F.EGR_OUT_TAKE_SOURCE k.out = t.fld F.EGR_OUT_TAKE_SOURCE k.out :=
    fun t f b hr hlo => t.fld_setFlag_disjoint k.out b hr.symm (.inl hlo) (by decide)
  have hset : ∀ t : State, (t.setFld F.EGR_OUT_TAKE_SOURCE k.out k.src).fld F.EGR_OUT_TAKE_SOURCE k.out = k.src :=
    fun t => (t.fld_setFld_same _ _ _ (by decide)).trans (Nat.mod_eq_of_lt hk)
  unfold State.takeSwitched
  dsimp only
  split
  · rw [hother _ _ rfl (by decide), hother _ _ rfl (by decide), hset]
  · rw [State.fld_setFlag_ne _ (by decide), (State.endOld_keeps _ _ _).fld (by decide), hother _ _ rfl (by decide), State.setOut_fld,
      hother _ _ rfl (by decide), hother _ _ rfl (by decide), hset]

/-- The take leaves the pending takes. -/
theorem State.takeSwitched_takes (k : PendTake) : (s.takeSwitched k).tks.takes = s.tks.takes.filter fun q => !q.same k := by
  unfold State.takeSwitched
  dsimp only
  split
  · rfl
  · rw [State.setFlag_tks, (State.endOld_keeps _ _ _).parts .tks (by decide)]
    rfl

theorem State.switchTake_shows {k : PendTake} (hk : k.src < 2 ^ 19) :
    (s.switchTake k).fld F.EGR_OUT_TAKE_SOURCE k.out = k.src ∧
      (s.switchTake k).tks.takes = s.tks.takes.filter fun q => !q.same k := by
  obtain ⟨k', time, st, heq⟩ := s.switchTake_posts k
  have hp := ((s.takeSwitched k).imageSel k.out k.src k.frame).postTake_keeps k' time st false
  rw [heq, hp.fld (by decide), hp.parts .tks (by decide)]
  exact ⟨s.takeSwitched_source hk, s.takeSwitched_takes k⟩

/-- When the only pending take is due and armed, it is the take that switches. -/
theorem State.switchTakes_only {d : Nat} {k : PendTake} (hk : s.tks.takes = [k]) (hd : k.otd = d) (hf : k.frame = (s.otd d).frame)
    (harmed : k.armed = true) (hown : k.own = .OK) : s.switchTakes d = (s.changeRoutes d).switchTake k := by
  have htks : (s.changeRoutes d).tks = s.tks :=
    (State.changeRoutes_frame (f := ⟨[.egr], []⟩) (.refl _ s) (.refl _)).parts .tks (by decide)
  unfold State.switchTakes
  dsimp only
  rw [htks, hk]
  simp [hd, hf, harmed, hown]

/-- Planned releases concern the HEALTH pins alone. -/
theorem State.applyReleases_keeps (d : Nat) : Frame healthFoot s (s.applyReleases d) := by
  unfold State.applyReleases
  dsimp only
  exact .ite (.refl _ s) ((s.setEgr_keeps _).trans (State.health_keeps _))

theorem exec_switchPoint_enabled {d : Fin 8} (h : s.otdEnabled d = true) :
    exec (.switchPoint d) s = .next ((s.switchTakes d).applyReleases d) :=
  congrArg Host.Outcome.next (if_neg (by simp [h]))

/-! ### Routes of takes and of outputs (R154, R157) -/

theorem State.hold_keeps (h : RouteHop) : Frame ⟨[.twl], [.TWL_ADMIT_REFUSED]⟩ s (s.hold h).1 := by
  unfold State.hold
  split
  · exact State.count_frame (.refl _ s) (by decide)
  · refine (Frame.refl _ s).of_parts (fun p hp => ?_) rfl
    cases p
    case twl => exact absurd List.mem_cons_self hp
    all_goals rfl

/-- A request holds resources and takes a number; the pending takes and the journal are as they were. -/
theorem State.requestRoute_keeps (src : Nat) (form : Form) (v : TakeView) (egress : List Nat) (pre : Option ResEnd)
    (replaces : Option Nat) : (s.requestRoute src form v egress pre replaces).1.tks.takes = s.tks.takes ∧
      (s.requestRoute src form v egress pre replaces).1.nim = s.nim := by
  unfold State.requestRoute
  split
  · exact ⟨rfl, rfl⟩
  · split
    · exact ⟨rfl, rfl⟩
    · next h _ =>
      have hh := (s.setTks { s.tks with reqs := s.tks.reqs + 1 }).hold_keeps h
      have hkept := And.intro (congrArg Tks.takes (hh.parts .tks (by decide))) (hh.parts .nim (by decide))
      dsimp only
      split
      · exact hkept
      · exact hkept

/-- An armed take that is routed again waits for its new route. -/
theorem State.rerouteTake_armed {k : PendTake} (h : k.armed = true) (v : TakeView) :
    ∃ (u : State) (req : Option Nat), u.tks.takes = s.tks.takes ∧ s.rerouteTake k v = u.setTake { k with routed := false, req := req } := by
  unfold State.rerouteTake
  rw [if_neg (by simp [h])]
  refine ⟨_, _, ?_, rfl⟩
  rw [(State.requestRoute_keeps _ _ _ _ _ _ _).1]
  split
  · rw [State.release_tks]
  · rfl

theorem exec_takeRouteLost_pending {key : Key} {sig pos : Nat} {k : PendTake} (h : s.takeAt key sig pos = some k) (v : TakeView) :
    exec (.takeRouteLost key sig pos v) s = .next (s.rerouteTake k v) := by
  have he : exec (.takeRouteLost key sig pos v) s = execTakeRouteLost key sig pos v s := rfl
  rw [he, execTakeRouteLost, h]

theorem State.out_setOut_ne {n m : Nat} (h : m ≠ n) (x : Output) : (s.setOut n x).out m = s.out m :=
  Tbl.get_set_other _ _ _ _ _ h

variable {s} in
/-- An output keeps the route that feeds it when the route is settled. -/
theorem State.routeReady_route {n req : Nat} (h : (s.out n).route = some req) : ((s.routeReady req).out n).route = some req := by
  unfold State.routeReady
  extract_lets t
  have ht : (t.out n).route = some req := by
    have hegr : t.egr = s.egr := foldl_keeps s State.egr (fun s k => by
      split
      · exact (State.tellPartner_frame (f := ⟨[.sent], []⟩) (.refl _ _) (.refl _)).parts .egr (by decide)
      · rfl) _
    rw [State.out, hegr]
    exact h
  refine List.foldlRecOn (motive := fun u : State => (u.out n).route = some req) _ _ ht fun u hu e _ => ?_
  split
  next he =>
    by_cases hn : n = e.1
    · rw [hn, State.setFlag_out, State.setOut_out]
      exact he
    · rw [State.setFlag_out, State.out_setOut_ne _ hn]
      exact hu
  next => exact hu

/-- The form in which an output asks for its source: that of the source, or else its domain's. -/
def State.outForm (s : State) (n : Nat) : Form :=
  match (s.out n).view.form with
  | some f => f
  | none => Form.sdi (s.otdFormat (s.fld F.EGR_OUT_CFG_OTD n))

/-- An output that has lost its route is given the one that its request is granted. -/
theorem exec_routeRetry_granted {n : Fin 128} {v : TakeView} {u : State} {r : Nat}
    (hlost : s.flag F.EGR_OUT_TAKE_PATH_LOST n = true) (hnone : (s.out n).route = none)
    (hreq : s.requestRoute (s.fld F.EGR_OUT_TAKE_SOURCE n) (s.outForm n) v (outPorts n) none none = (u, .ok r)) :
    exec (.routeRetry n v) s = .next (let t := u.setOut n { u.out n with route := some r }
      if (t.route r).any (·.settled) then t.routeReady r else t) := by
  have he : exec (.routeRetry n v) s = .next (s.routeRetry n v) := rfl
  rw [he, State.routeRetry, if_neg (by simp [hlost, hnone])]
  extract_lets src form x
  have hx : x = (u, .ok r) := hreq
  clear_value x
  subst hx
  rfl

end Sys2Proof.Machine
end

section
/-! SUPPORT of O19: the journal through the execution of takes. -/

namespace Sys2Proof.Machine

variable (s : State)

/-! ### The keys of the journal's entries, and which are forwarded (R159) -/

/-- The entries of the journal, each by its key and whether another part forwarded it. -/
def State.journalKeys (s : State) : List (Key × Bool) := s.nim.journal.map fun e => (e.key, e.forwarded)

variable {s} in
theorem State.journalKeys_congr {t : State} (h : t.nim = s.nim) : t.journalKeys = s.journalKeys := by
  rw [State.journalKeys, State.journalKeys, h]

variable {s} in
theorem State.journalKeys_ite {c : Prop} [Decidable c] {a b : State} (ha : a.journalKeys = s.journalKeys)
    (hb : b.journalKeys = s.journalKeys) : (if c then a else b).journalKeys = s.journalKeys := by
  split <;> assumption

theorem State.entry_forwarded (key : Key) :
    (s.entry key).map (fun e => e.forwarded) = (s.journalKeys.find? fun e => e.1 == key).map (·.2) := by
  rw [State.journalKeys, List.find?_map, Option.map_map]
  rfl

/-- A change of an entry that keeps its key and whether it is forwarded. -/
theorem State.setEntry_journalKeys (k : Key) {f : JEntry → JEntry} (hf : ∀ e, ((f e).key, (f e).forwarded) = (e.key, e.forwarded)) :
    (s.setEntry k f).journalKeys = s.journalKeys := by
  unfold State.setEntry State.journalKeys
  rw [List.map_map]
  refine List.map_congr_left fun e _ => ?_
  rw [Function.comp_apply]
  split
  · exact hf e
  · rfl

/-! ### Contexts, services and records -/

theorem State.resume_journalKeys (core : Nat) : (s.resume core).journalKeys = s.journalKeys := by
  unfold State.resume
  split
  · rfl
  · split <;> rfl

theorem State.ready_journalKeys (i : Nat) : (s.ready i).journalKeys = s.journalKeys := State.resume_journalKeys _ _

theorem State.giveResult_journalKeys (i : Nat) (v : Word) (st : BitVec 32) : (s.giveResult i v st).journalKeys = s.journalKeys := by
  unfold State.giveResult
  dsimp only
  split
  · exact State.ready_journalKeys _ _
  · rfl

theorem State.wakeSvc_journalKeys (n : Nat) : (s.wakeSvc n).journalKeys = s.journalKeys := by
  unfold State.wakeSvc State.wakeCtx
  split
  · dsimp only
    split
    · split
      · rfl
      · rw [State.ready_journalKeys]
        split <;> rfl
    · rfl
  · rfl

theorem State.giveTake_journalKeys (r : TakeRec) : (s.giveTake r).journalKeys = s.journalKeys := by
  refine foldl_keeps s State.journalKeys (fun s n => ?_) _
  dsimp only
  split
  · exact State.wakeSvc_journalKeys _ _
  · rfl

theorem State.writeCq_journalKeys (q : Nat) (r : CqRecord) : (s.writeCq q r).journalKeys = s.journalKeys := by
  have hraise : ∀ (t : State) (v : Nat), (t.raiseVector v).nim = t.nim := fun t v =>
    (State.raiseVector_frame (f := ⟨[.host, .sent], []⟩) (.refl _ t) (.refl _)).parts .nim (by decide)
  unfold State.writeCq
  dsimp only
  rw [State.journalKeys_congr (hraise _ _)]
  split <;> rfl

theorem State.dropRecord_journalKeys : s.dropRecord.journalKeys = s.journalKeys :=
  State.journalKeys_congr ((State.irq_nim _ _).trans (s.count_nim _ _ _))

theorem State.postRecord_journalKeys (q : Nat) (r : CqRecord) : (s.postRecord q r).journalKeys = s.journalKeys := by
  unfold State.postRecord
  split
  · split <;> rfl
  · split
    · exact s.writeCq_journalKeys q r
    · split
      · rfl
      · exact s.dropRecord_journalKeys

theorem State.postTake_journalKeys (k : PendTake) (time : Nat) (st : Status) (superseded : Bool) :
    (s.postTake k time st superseded).journalKeys = s.journalKeys := by
  unfold State.postTake
  rw [State.giveTake_journalKeys]
  split
  · split
    · exact s.postRecord_journalKeys _ _
    · split <;> rfl
  · rfl

/-! ### Accounts of instructions (R268, R297, R298) -/

theorem State.sigReturn_journalKeys (i : Option Nat) (k : Key) (sig : Nat) (v : Word) (st : Status) :
    (s.sigReturn i k sig v st).journalKeys = s.journalKeys := by
  have hrec : ((s.recordApplied k sig st).recordSig k sig st).journalKeys = s.journalKeys :=
    (State.setEntry_journalKeys _ k fun e => by split <;> rfl).trans rfl
  unfold State.sigReturn
  cases i with
  | none => exact hrec
  | some i => exact (State.giveResult_journalKeys _ _ _ _).trans hrec

theorem State.showJournal_journalKeys : s.showJournal.journalKeys = s.journalKeys :=
  State.journalKeys_congr ((State.showJournal_frame (f := ⟨[.host, .sent], [.NIM_JRN_FREE, .NIM_JRN_OPEN, .GLB_INT_SUM, .NIM_INT_STAT]⟩)
    (.refl _ s) (.refl _) (.refl _)).parts .nim (by decide))

theorem State.endForwarded_journalKeys (k : Key) (st : Status) : (s.endForwarded k st).journalKeys = s.journalKeys :=
  (State.showJournal_journalKeys _).trans (s.setEntry_journalKeys k fun e => by split <;> rfl)

theorem State.account_journalKeys (k : Key) (sig : Nat) (f : SalvoAcct → SalvoAcct) :
    (s.account k sig f).journalKeys = s.journalKeys := by
  unfold State.account
  split
  · rfl
  · dsimp only
    split
    · rw [State.endForwarded_journalKeys]
      exact State.sigReturn_journalKeys _ _ _ _ _ _
    · rfl

/-! ### Takes (R142 to R146, R159, R165 to R167) -/

theorem State.tellPartner_nim (k : PendTake) (st : Status) : (s.tellPartner k st).nim = s.nim :=
  (State.tellPartner_frame (f := ⟨[.sent], []⟩) (.refl _ s) (.refl _)).parts .nim (by decide)

theorem State.dropRoute_nim (req : Option Nat) : (s.dropRoute req).nim = s.nim := by
  unfold State.dropRoute
  split
  · rfl
  · split
    · rfl
    · exact (s.release_keeps _).parts .nim (by decide)

theorem State.supersede_journalKeys (k : PendTake) : (s.supersede k).journalKeys = s.journalKeys := by
  have hdrop : ((s.dropTake k).dropRoute k.req).journalKeys = s.journalKeys :=
    State.journalKeys_congr ((State.dropRoute_nim _ _).trans rfl)
  unfold State.supersede
  dsimp only
  split
  · rw [State.postTake_journalKeys]
    exact hdrop
  · rw [State.memberArmed, State.account_journalKeys, State.postTake_journalKeys]
    exact hdrop

theorem State.preStage_journalKeys (o : TakeOrder) (mismatch : Bool) : (s.preStage o mismatch).1.journalKeys = s.journalKeys := by
  unfold State.preStage
  extract_lets d src v fr nochange k old form cur alone y x s1 s2
  have hx : x.1.journalKeys = s.journalKeys := by
    dsimp only [x]
    split
    · rfl
    · exact State.journalKeys_congr (State.requestRoute_keeps _ _ _ _ _ _ _).2
  clear_value old
  have h2 : s2.journalKeys = s.journalKeys := by
    dsimp only [s2]
    split
    · exact (State.supersede_journalKeys _ _).trans hx
    · exact hx
  clear_value s2 x
  split
  · exact hx
  · exact State.journalKeys_ite ((State.journalKeys_congr (State.tellPartner_nim _ _ _)).trans h2) h2

theorem State.refuseOrder_journalKeys (o : TakeOrder) (st : Status) : (s.refuseOrder o st).journalKeys = s.journalKeys := by
  unfold State.refuseOrder
  dsimp only
  split
  · exact State.journalKeys_congr (State.tellPartner_nim _ _ _)
  · rw [State.memberRefused, State.account_journalKeys, State.postTake_journalKeys]
    exact State.journalKeys_congr (State.tellPartner_nim _ _ _)

theorem State.doTake_journalKeys (o : TakeOrder) : (s.doTake o).1.journalKeys = s.journalKeys := by
  unfold State.doTake
  split
  · rfl
  · exact s.preStage_journalKeys o _

theorem State.doTakes_journalKeys (l : List TakeOrder) : (s.doTakes l).journalKeys = s.journalKeys := by
  induction l generalizing s with
  | nil => rfl
  | cons o os ih =>
    unfold State.doTakes
    dsimp only
    rw [ih]
    split
    · exact s.doTake_journalKeys o
    · exact (State.refuseOrder_journalKeys _ _ _).trans (s.doTake_journalKeys o)

theorem State.doMembers_journalKeys (atomic : Bool) (l : List TakeOrder) : (s.doMembers atomic l).journalKeys = s.journalKeys := by
  unfold State.doMembers
  split
  · split
    · exact s.doTakes_journalKeys l
    · exact foldl_keeps s State.journalKeys (fun s o => s.refuseOrder_journalKeys o _) l
  · exact s.doTakes_journalKeys l

/-- Executing the members of a take or salvo leaves the journal's entries in place, forwarded or not as they were. -/
theorem State.takeMembers_journalKeys (key : Key) (sig salvo : Nat) (ctx : Option Nat) (single atomic dirtyOk replayed : Bool)
    (time : Nat) (members : List (Word × TakeView)) :
    (s.takeMembers key sig salvo ctx single atomic dirtyOk replayed time members).journalKeys = s.journalKeys := by
  unfold State.takeMembers
  dsimp only
  rw [State.doMembers_journalKeys, foldl_keeps _ State.journalKeys (fun s m => ?elsewhere), foldl_keeps _ State.journalKeys
    (fun s p => ?forward)]
  · rfl
  case elsewhere => exact State.journalKeys_ite (s.account_journalKeys _ _ _) (s.account_journalKeys _ _ _)
  case forward => exact State.journalKeys_ite rfl rfl

/-! ### Forwarded orders (R159) -/

/-- A forwarded order that has ended returns its recorded status. -/
theorem exec_forwardedTake_complete {key : Key} {e : JEntry} (h : s.entry key = some e) (hc : e.phase = .complete) (salvo : Nat)
    (atomic : Bool) (time : Nat) (members : List (Word × TakeView)) :
    exec (.forwardedTake key salvo atomic time members) s = .next (s.answer e.final) := by
  have he : exec (.forwardedTake key salvo atomic time members) s = execForwardedTake key salvo atomic time members s := rfl
  rw [he, execForwardedTake, h]
  exact congrArg Host.Outcome.next (if_pos hc)

/-- A forwarded order that is new is journalled as forwarded, and then executed. -/
theorem exec_forwardedTake_new {key : Key} (hentry : s.entry key = none) (happ : s.appliedAt key 0 = none)
    (hfen : s.fenced = false) (hen : s.flag F.NIM_CTRL_EN 0 = true) (hfree : 4 ≤ (s.reg .NIM_JRN_FREE 0).toNat) (salvo : Nat)
    (atomic : Bool) (time : Nat) (members : List (Word × TakeView)) :
    ∃ e : JEntry, e.key = key ∧ e.forwarded = true ∧ exec (.forwardedTake key salvo atomic time members) s =
      .next (({ s with nim := { s.nim with journal := s.nim.journal ++ [e] } }.showJournal.answer .OK).takeMembers key 0 salvo none
        false atomic false false time members) := by
  have he : exec (.forwardedTake key salvo atomic time members) s = execForwardedTake key salvo atomic time members s := rfl
  rw [he, execForwardedTake, hentry]
  dsimp only
  rw [happ]
  dsimp only
  rw [if_neg (by simp [hfen]), if_neg (by simp [hen]), if_neg (Nat.not_lt.mpr hfree)]
  exact ⟨_, rfl, rfl, rfl⟩

end Sys2Proof.Machine
end

section
/-! SUPPORT of O19: what a boundary of a domain does at outputs, pipes, inputs and senders leaves the domain's frame as it has
begun. -/

namespace Sys2Proof.Machine

variable (s : State)

/-! ### The frames that the domains have begun (R185, R186) -/

/-- From s to t no domain begins a frame: the domains' records and the counts that show them are as they were. -/
structure State.KeepsDomains (s t : State) : Prop where
  otds : t.egr.otds = s.egr.otds
  fcnt : ∀ d, t.reg .EGR_OTD_FCNT d = s.reg .EGR_OTD_FCNT d

theorem State.KeepsDomains.refl : s.KeepsDomains s := ⟨rfl, fun _ => rfl⟩

section
variable {s}

theorem State.KeepsDomains.trans {t u : State} (h : s.KeepsDomains t) (k : t.KeepsDomains u) : s.KeepsDomains u :=
  ⟨k.otds.trans h.otds, fun d => (k.fcnt d).trans (h.fcnt d)⟩

theorem State.KeepsDomains.foldl {α : Type} {g : State → α → State} (hg : ∀ s x, State.KeepsDomains s (g s x)) (l : List α) :
    s.KeepsDomains (l.foldl g s) := by
  induction l generalizing s with
  | nil => exact .refl s
  | cons x l ih => exact (hg s x).trans ih

theorem State.KeepsDomains.otd {t : State} (h : s.KeepsDomains t) (d : Nat) : t.otd d = s.otd d := by
  rw [State.otd, State.otd, h.otds]

theorem Frame.keepsDomains {f : Foot} {t : State} (h : Frame f s t) (he : .egr ∉ f.parts) (hr : .EGR_OTD_FCNT ∉ f.regs) :
    s.KeepsDomains t :=
  ⟨congrArg Egr.otds (h.parts .egr he), fun d => h.regs _ d hr⟩

/-- A change of the egress record that leaves the domains' records alone. -/
theorem Frame.keepsDomains_of_otds {f : Foot} {t : State} (h : Frame f s t) (he : t.egr.otds = s.egr.otds)
    (hr : .EGR_OTD_FCNT ∉ f.regs) : s.KeepsDomains t :=
  ⟨he, fun d => h.regs _ d hr⟩

end

/-! ### Outputs -/

theorem State.setOut_keepsDomains (n : Nat) (x : Output) : s.KeepsDomains (s.setOut n x) := ⟨rfl, fun _ => rfl⟩

theorem State.health_keepsDomains : s.KeepsDomains s.health := s.health_keeps.keepsDomains_of_otds s.health_otds (by decide)

theorem State.showMismatch_keepsDomains (d : Nat) : s.KeepsDomains (s.showMismatch d) :=
  (State.showMismatch_frame (f := ⟨[], [.EGR_OUT_STAT]⟩) (.refl _ s) (.refl _)).keepsDomains (by decide) (by decide)

theorem State.outputBoundary_keepsDomains (n : Nat) : s.KeepsDomains (s.outputBoundary n) := by
  refine (State.outputBoundary_frame (f := ⟨[.egr], [.EGR_OUT_STAT]⟩) (.refl _ s) (.refl _) (.refl _)).keepsDomains_of_otds ?_ (by decide)
  unfold State.outputBoundary
  dsimp only
  split <;> rfl

theorem State.outputsBoundary_keepsDomains (d : Nat) : s.KeepsDomains (s.outputsBoundary d) :=
  .foldl (fun s n => s.outputBoundary_keepsDomains n) _

theorem State.flagSources_keepsDomains (d : Nat) : s.KeepsDomains (s.flagSources d) :=
  .foldl (fun s n => s.setOut_keepsDomains n _) _

/-! ### Pipes (R397 to R401) -/

/-- All that a boundary may change at the pipes, beside the flags of the outputs that carry them. -/
def pipeFoot : Foot where
  parts := [.vmp, .host, .sent]
  regs := [.VMP_PIPE_HELD, .VMP_PIPE_STAT, .VMP_PIPE_PEND, .VMP_PIPE_APPLIED, .VMP_PIPE_NRDY, .VMP_LAYER_STAT, .VMP_SURF_USE,
    .VMP_INT_STAT, .GLB_INT_SUM]

theorem State.dropCommit_keeps (v : Nat) : Frame pipeFoot s (s.dropCommit v) :=
  State.setFlag_frame (State.setFlag_frame ((State.setPipe_frame (.refl _ s) (by decide)).setReg (by decide) _ _) (by decide))
    (by decide)

theorem State.applyCommit_keeps (v k : Nat) : Frame pipeFoot s (s.applyCommit v k).1 := by
  unfold State.applyCommit
  split
  · exact .refl _ s
  · split
    · exact .refl _ s
    · split
      · exact State.setFlag_frame (State.irq_frame (State.count_frame (.refl _ s) (by decide)) (by decide) (by decide)) (by decide)
      · have hdrop : ∀ p, Frame pipeFoot s ((s.setPipe v p).dropCommit v) := fun p =>
          (State.setPipe_frame (.refl _ s) (by decide)).trans (State.dropCommit_keeps _ v)
        dsimp only
        exact State.irq_frame ((hdrop _).setReg (by decide) _ _) (by decide) (by decide)

theorem State.drawLayer_keeps (v l : Nat) : Frame pipeFoot s (s.drawLayer v l).1 := by
  unfold State.drawLayer
  extract_lets p ws d c frame h run s1
  have hshow : ∀ {t : State} (shown cause run : Nat), Frame pipeFoot s t → Frame pipeFoot s (t.showLayer v l shown cause run) :=
    fun _ _ _ ht => State.showLayer_frame ht (by decide)
  have h1 : Frame pipeFoot s s1 := State.irq_frame (State.count_frame (.refl _ s) (by decide)) (by decide) (by decide)
  split
  · exact hshow _ _ _ (.refl _ s)
  · split
    · exact hshow _ _ _ (State.setPipe_frame (.refl _ s) (by decide))
    · split
      · exact hshow _ _ _ h1
      · split
        · exact hshow _ _ _ h1
        · split <;> exact hshow _ _ _ h1

theorem State.drawLayers_keeps (v : Nat) (l : List Nat) (z : State × Bool) : Frame pipeFoot z.1
    (l.foldl (fun (z : State × Bool) l => let y := z.1.drawLayer v l; (y.1, z.2 || y.2)) z).1 := by
  induction l generalizing z with
  | nil => exact .refl _ _
  | cons i l ih => exact (z.1.drawLayer_keeps v i).trans (ih ((z.1.drawLayer v i).1, z.2 || (z.1.drawLayer v i).2))

theorem State.showUse_keeps : Frame pipeFoot s s.showUse :=
  Frame.foldl (fun _ _ h => .ite h (State.setFld_frame h (by decide))) _ (.refl _ s)

theorem State.layerFlag_keepsDomains (v : Nat) : s.KeepsDomains (s.layerFlag v) :=
  .foldl (fun s e => by
    split
    · exact s.setOut_keepsDomains e.1 _
    · exact .refl s) _

theorem State.pipeBoundary_keepsDomains (v k : Nat) : s.KeepsDomains (s.pipeBoundary v k) := by
  unfold State.pipeBoundary
  split
  · exact .refl s
  · extract_lets a p s1 z
    have h1 : Frame pipeFoot s s1 := State.setPipe_frame (s.applyCommit_keeps v k) (by decide)
    have hz : s.KeepsDomains z.1 := (h1.trans (State.drawLayers_keeps v _ (s1, a.2))).keepsDomains (by decide) (by decide)
    clear_value z
    refine State.KeepsDomains.trans ?_ ((State.showUse_keeps _).keepsDomains (by decide) (by decide))
    split
    · exact hz.trans (State.layerFlag_keepsDomains _ v)
    · exact hz

theorem State.pipesBoundary_keepsDomains (d : Nat) : s.KeepsDomains (s.pipesBoundary d) :=
  .foldl (fun s v => s.pipeBoundary_keepsDomains v _) _

/-! ### Inputs (R62 to R75) -/

/-- All that a boundary may change at the inputs. -/
def inputFoot : Foot where
  parts := [.ing, .host, .sent, .awl]
  regs := [.ING_POOL_USED, .ING_IN_ALLOC, .ING_IN_STAT, .ING_IN_SLIP, .ING_IN_PHASE, .ING_LOSS_SUM, .ING_IN_LOSSCNT, .ING_INT_STAT,
    .GLB_INT_SUM, .AWL_MERGED, .AWL_STATUS, .INS_RET_STAT, .AWL_LOST, .AWL_INT_STAT]

section
variable {s} {s₀ : State}

theorem State.setInput_calm (h : Frame inputFoot s₀ s) (n : Nat) (x : Input) : Frame inputFoot s₀ (s.setInput n x) :=
  State.setInput_frame h (by decide)

theorem State.slipLast_calm (h : Frame inputFoot s₀ s) (n : Nat) : Frame inputFoot s₀ ((s.slip n).showLast n) :=
  State.showLast_frame (State.slip_frame h (by decide) (by decide)) (by decide)

theorem State.enterBlack_calm (h : Frame inputFoot s₀ s) (n : Nat) : Frame inputFoot s₀ (s.enterBlack n) :=
  State.enterBlack_frame h (by decide) (by decide)

theorem State.boundaryWithout_calm (h : Frame inputFoot s₀ s) (n : Nat) : Frame inputFoot s₀ (s.boundaryWithout n) := by
  have hrepeat : Frame inputFoot s₀ (s.enterRepeat n) :=
    State.awlState_frame (State.noteLoss_frame (State.setFld_frame (State.setInState_frame h (by decide)) (by decide)) (by decide)
      (by decide)) (by decide) (by decide)
  exact .ite (.ite (State.showLast_frame hrepeat (by decide)) (State.enterBlack_calm h n))
    (.ite (.ite (State.showLast_frame (State.setFld_frame h (by decide)) (by decide)) (State.enterBlack_calm h n))
      (State.setInput_calm h n _))

theorem State.takeFrame_calm (h : Frame inputFoot s₀ s) {n : Nat} {f : RingFrame} {t : State} (ht : s.takeFrame n = some (f, t)) :
    Frame inputFoot s₀ t := by
  unfold State.takeFrame at ht
  dsimp only at ht
  split at ht
  · cases ht
    exact State.setInput_calm h n _
  · split at ht
    · cases ht
      exact State.setInput_calm h n _
    · cases ht

theorem State.syncChoose_calm (h : Frame inputFoot s₀ s) (n : Nat) : Frame inputFoot s₀ (s.syncChoose n) := by
  unfold State.syncChoose
  extract_lets x safe hyst t step y s1
  have h1 : Frame inputFoot s₀ s1 := .ite (State.setInput_calm (State.slip_frame h (by decide) (by decide)) n _) h
  clear_value s1
  refine .ite (State.showLast_frame (State.setInput_calm h n _) (by decide)) (.ite ?_ ?_)
  · exact .ite (State.boundaryWithout_calm h n) (.ite (State.setInput_calm h n _) (.ite (State.slipLast_calm h n)
      (State.boundaryWithout_calm h n)))
  · split
    · exact State.boundaryWithout_calm h1 n
    · next f t ht =>
      have ht' := State.takeFrame_calm h1 ht
      exact .ite (State.boundaryWith_frame ht' (by decide) (by decide)) (State.boundaryWithout_calm ht' n)

theorem State.applyPending_calm (h : Frame inputFoot s₀ s) (n : Nat) : Frame inputFoot s₀ (s.applyPending n) := by
  obtain ⟨resize, hr⟩ : ∃ f, f = State.resizeRing := ⟨_, rfl⟩
  obtain ⟨input, hi⟩ : ∃ f, f = State.input := ⟨_, rfl⟩
  unfold State.applyPending
  rw [← hr, ← hi]
  extract_lets _ _ s1 _ s2
  have h1 : Frame inputFoot s₀ s1 := .ite (State.setInput_calm (State.freeRing_frame h (by decide) (by decide)) n _) h
  clear_value s1
  have h2 : Frame inputFoot s₀ s2 := by
    dsimp only [s2]
    split
    · exact h1
    · exact State.setInput_calm h1 n _
  clear_value s2
  split
  · exact h2
  · split
    · next u hu =>
      rw [hr] at hu
      have hring : Frame inputFoot s2 u := (State.resizeRing_keeps _ hu).mono (by decide) (by decide)
      exact State.setInput_calm (h2.trans hring) n _
    · exact h2

end

theorem State.inputBoundary_keeps (n d : Nat) (phase : Int) : Frame inputFoot s (s.inputBoundary n d phase) := by
  unfold State.inputBoundary
  extract_lets x s1 i s2 j s3 s4 s5 k s6 s7
  have h1 : Frame inputFoot s s1 := .ite (State.freeRing_frame (.refl _ s) (by decide) (by decide)) (.refl _ s)
  clear_value s1
  have h2 : Frame inputFoot s s2 := State.setInput_calm h1 n _
  clear_value s2
  have h4 : Frame inputFoot s s4 := State.setFlag_frame (State.setInput_calm h2 n _) (by decide)
  clear_value s4
  have h5 : Frame inputFoot s s5 := h2.setReg (by decide) _ _
  clear_value s5
  have h6 : Frame inputFoot s s6 :=
    .ite (State.loseInput_frame (State.setInput_calm h5 n _) (by decide) (by decide)) (State.setFlag_frame h5 (by decide))
  clear_value s6
  have h7 : Frame inputFoot s s7 := State.applyPending_calm h6 n
  clear_value s7
  refine .ite h1 (.ite (State.slipLast_calm h4 n) (.ite h2 (.ite ?bound (.ite (State.setInput_calm h7 n _) (.ite ?direct ?sync)))))
  case bound => exact State.setInput_calm (State.setInState_frame h5 (by decide)) n _
  case direct => exact State.directBoundary_frame h7 (by decide) (by decide)
  case sync => exact State.syncChoose_calm h7 n

theorem State.inputsBoundary_keepsDomains (d : Nat) (phases : List (Fin 384 × Int)) : s.KeepsDomains (s.inputsBoundary d phases) := by
  unfold State.inputsBoundary
  refine .foldl (fun s e => ?_) _
  exact (s.inputBoundary_keeps e.1 d _).keepsDomains (by decide) (by decide)

/-! ### Senders (R211, R220) -/

theorem State.setSender_keepsDomains (k : SndKind) (i : Nat) (x : Sender) : s.KeepsDomains (s.setSender k i x) :=
  ⟨by cases k <;> rfl, fun _ => s.setSender_reg k i x _ _⟩

theorem State.senderOff_keepsDomains (k : SndKind) (i : Nat) : s.KeepsDomains (s.senderOff k i) := by
  refine (State.senderOff_frame (f := ⟨[.egr], [.EGR_VSND_STAT]⟩) (.refl _ s) (.refl _) (.refl _)).keepsDomains_of_otds ?_ (by decide)
  cases k <;> rfl

theorem State.dropRoute_keepsDomains (req : Option Nat) : s.KeepsDomains (s.dropRoute req) := by
  unfold State.dropRoute
  split
  · exact .refl s
  · split
    · exact .refl s
    · exact (s.release_keeps _).keepsDomains (by decide) (by decide)

theorem State.senderBoundary_keepsDomains (d : Nat) : s.KeepsDomains (s.senderBoundary d) := by
  unfold State.senderBoundary
  refine State.KeepsDomains.trans (.foldl (fun s e => ?video) _) (.foldl (fun s e => ?anc) _)
  case video =>
    dsimp only
    split
    · exact .refl s
    · split
      · exact (s.senderOff_keepsDomains _ _).trans (State.dropRoute_keepsDomains _ _)
      · refine State.KeepsDomains.trans ?_ (State.setSender_keepsDomains _ _ _ _)
        split
        · exact .refl s
        · split
          · exact (s.setSender_keepsDomains _ _ _).trans (State.dropRoute_keepsDomains _ _)
          · exact .refl s
  case anc =>
    split
    · exact .refl s
    · split
      · exact s.senderOff_keepsDomains _ _
      · exact s.setSender_keepsDomains _ _ _

/-! ### The boundary (R185, R186, R188) -/

/-- The frame that begins at the next boundary of a domain: the first of a new alignment, or else the one after. -/
def State.frameToBegin (s : State) (d : Nat) : Nat :=
  match (s.otd d).target with
  | some f => f
  | none => (s.otd d).frame + 1

variable {s} in
theorem State.KeepsDomains.frameToBegin {t : State} (h : s.KeepsDomains t) (d : Nat) : t.frameToBegin d = s.frameToBegin d := by
  rw [State.frameToBegin, State.frameToBegin, h.otd]

/-- The state in which a domain has begun its next frame, and shows its count. -/
def State.frameBegun (s : State) (d : Nat) : State :=
  (s.setOtd d ⟨s.frameToBegin d, none, 0⟩).setReg .EGR_OTD_FCNT d (BitVec.ofNat 64 (s.frameToBegin d % 2 ^ 32))

/-- A domain that begins its next frame shows its alignment where it is new, and begins no frame but that. -/
theorem State.nextFrame_begins (d : Nat) : (s.frameBegun d).KeepsDomains (s.nextFrame d) := by
  have heq : s.nextFrame d = if (s.otd d).target.isSome then
      ((((s.frameBegun d).setFlag F.EGR_OTD_STAT_ALIGNED d ((s.frameBegun d).tbRunning ((s.frameBegun d).otdTb d))).setFlag
        F.EGR_OTD_STAT_REALIGNING d false).showMismatch d).health
      else s.frameBegun d := rfl
  have hflags : ∀ a : Bool, (s.frameBegun d).KeepsDomains
      (((s.frameBegun d).setFlag F.EGR_OTD_STAT_ALIGNED d a).setFlag F.EGR_OTD_STAT_REALIGNING d false) := fun a =>
    Frame.keepsDomains (f := ⟨[], [.EGR_OTD_STAT]⟩)
      (State.setFlag_frame (State.setFlag_frame (.refl _ _) (by decide)) (by decide)) (by decide) (by decide)
  rw [heq]
  split
  · exact ((hflags _).trans (State.showMismatch_keepsDomains _ d)).trans (State.health_keepsDomains _)
  · exact .refl _

theorem State.frameBegun_shows (d : Nat) : ((s.frameBegun d).otd d).frame = s.frameToBegin d ∧
    ((s.frameBegun d).reg .EGR_OTD_FCNT d).toNat = s.frameToBegin d % 2 ^ 32 := by
  constructor
  · have hotd : (s.frameBegun d).otd d = ⟨s.frameToBegin d, none, 0⟩ := Tbl.get_set_same _ _ _ _
    rw [hotd]
  · rw [State.frameBegun, State.reg_setReg_same, Reg.fit_toNat rfl, BitVec.toNat_ofNat]
    omega

/-- The records of the cross-check are sent before the domain's next frame begins. -/
theorem State.sendX_keepsDomains (d : Nat) (obs : List (Fin 128 × BitVec 64 × BitVec 6)) : s.KeepsDomains (s.sendX d obs) :=
  (State.sendX_frame (f := ⟨[.tks, .sent, .rsl], [.RSL_XCHK_MISS]⟩) (.refl _ s) (.refl _) (.refl _)).keepsDomains (by decide)
    (by decide)

/-- At a boundary of an enabled domain its next frame begins; outputs, pipes, inputs and senders meet it. -/
theorem exec_otdFrameBoundary_begins {d : Fin 8} (h : s.otdEnabled d = true) (phases : List (Fin 384 × Int))
    (crcs : List (Fin 128 × BitVec 64 × BitVec 6)) :
    ∃ t, exec (.otdFrameBoundary d phases crcs) s = .next t ∧ ((s.sendX d crcs).frameBegun d).KeepsDomains t := by
  refine ⟨_, congrArg Host.Outcome.next (if_neg (by simp [h])), ?_⟩
  exact ((((((State.nextFrame_begins _ d).trans (State.outputsBoundary_keepsDomains _ d)).trans
    (State.pipesBoundary_keepsDomains _ d)).trans (State.inputsBoundary_keepsDomains _ d phases)).trans
    (State.flagSources_keepsDomains _ d)).trans (State.showMismatch_keepsDomains _ d)).trans (State.senderBoundary_keepsDomains _ d)

end Sys2Proof.Machine
end

section
/-! Settles O19 from the equations of the takes' commands and of a domain's boundary. -/

open Sys2Proof Sys2Proof.Machine

/-- Settles O19, clause by clause: a forwarded order that is new and one that has ended, the partner's admission, arming, the switch
point, an armed take's lost route, an output's lost route, and a domain's boundary. -/
theorem takesAdmittedArmedAndSwitched : Obligations.TakesAdmittedArmedAndSwitched := by
  unfold Obligations.TakesAdmittedArmedAndSwitched
  refine ⟨?forwarded, ?ended, ?partner, ?armed, ?switched, ?rerouted, ?retried, ?boundary⟩
  case forwarded =>
    intro key salvo atomic time members s hentry happ hfen hen hfree
    obtain ⟨e, hkey, hforwarded, heq⟩ := exec_forwardedTake_new s hentry happ hfen hen hfree salvo atomic time members
    have hfound : (s.nim.journal ++ [e]).find? (fun e => e.key == key) = some e := by
      have hnew : s.nim.journal.find? (fun e => e.key == key) = none := hentry
      rw [List.find?_append, hnew, Option.none_or]
      exact List.find?_cons_of_pos (by simp [hkey])
    have hjournal : ∀ t : State, t.nim.journal = s.nim.journal ++ [e] → (t.entry key).map (fun e => e.forwarded) = some true := by
      intro t ht
      rw [State.entry, ht, hfound, Option.map_some, hforwarded]
    rw [heq]
    refine .next ?_
    rw [State.entry_forwarded, State.takeMembers_journalKeys, State.journalKeys_congr (State.answer_nim _ _),
      State.showJournal_journalKeys, ← State.entry_forwarded]
    exact hjournal _ rfl
  case ended =>
    intro key salvo atomic time members e s he hphase
    rw [exec_forwardedTake_complete s he hphase]
    exact .next ⟨rfl, rfl, rfl⟩
  case partner =>
    intro key sig pos k s hk hown
    rw [exec_partnerAdmissionResult_ok s hk hown]
    exact .next ⟨State.takeAt_setTake hk (by simp [PendTake.same]), List.length_map _⟩
  case armed =>
    intro key sig pos k s hk harmed hown hrouted hpartner hmeets
    obtain ⟨time, late, heq⟩ := exec_takeArmed_inTime s hk harmed hown hrouted hpartner hmeets
    rw [heq]
    refine .next ?_
    rw [State.memberArmed, State.takeAt_congr (State.account_takes _ _ _ _)]
    exact State.takeAt_setTake hk (by simp [PendTake.same])
  case switched =>
    intro d k s hon hk hd hf harmed hown hsrc
    have hchange : (s.changeRoutes d).tks = s.tks :=
      (State.changeRoutes_frame (f := ⟨[.egr], []⟩) (.refl _ s) (.refl _)).parts .tks (by decide)
    have hreleases := ((s.changeRoutes d).switchTake k).applyReleases_keeps d
    obtain ⟨hsource, htakes⟩ := (s.changeRoutes d).switchTake_shows hsrc
    rw [exec_switchPoint_enabled s hon, s.switchTakes_only hk hd hf harmed hown]
    refine .next ?_
    rw [hreleases.fld (by decide), hreleases.parts .tks (by decide), htakes, hchange, hk]
    exact ⟨hsource, by simp [PendTake.same]⟩
  case rerouted =>
    intro key sig pos v k s hk harmed
    obtain ⟨u, req, htakes, heq⟩ := s.rerouteTake_armed harmed v
    rw [exec_takeRouteLost_pending s hk, heq]
    refine .next ?_
    rw [State.takeAt_setTake ((State.takeAt_congr htakes key sig pos).trans hk) (by simp [PendTake.same])]
    rfl
  case retried =>
    intro n v form u r s hlost hnone hform hreq
    subst hform
    rw [exec_routeRetry_granted s hlost hnone hreq]
    refine .next ?_
    have hgranted : ((u.setOut n { u.out n with route := some r }).out n).route = some r := by rw [State.setOut_out]
    dsimp only
    split
    · exact State.routeReady_route hgranted
    · exact hgranted
  case boundary =>
    intro d phases crcs k s hon hk
    obtain ⟨t, heq, hkeeps⟩ := exec_otdFrameBoundary_begins s hon phases crcs
    obtain ⟨hframe, hcount⟩ := (s.sendX d crcs).frameBegun_shows d
    have hnext : (s.sendX d crcs).frameToBegin d = k := ((s.sendX_keepsDomains d crcs).frameToBegin d).trans hk.symm
    rw [heq]
    refine .next ?_
    rw [hkeeps.otd, hkeeps.fcnt, hframe, hcount, hnext]
    exact ⟨rfl, rfl⟩

end

section
/-! SUPPORT of O21: starting and realigning an output timing domain, and the branches of the writes of its registers. -/

namespace Sys2Proof.Machine

variable (s : State)

/-! ### Starting and realigning a domain (R185, R186, R188) -/

/-- All that starting or realigning a domain may change. -/
def domainFoot : Foot :=
  ⟨[.egr, .host, .sent], [.EGR_OTD_FCNT, .EGR_OTD_STAT, .EGR_HEALTH_STAT, .GLB_INT_SUM, .EGR_INT_STAT]⟩

theorem State.startDomain_keeps (d : Nat) : Frame domainFoot s (s.startDomain d) := by
  refine Frame.trans ?_ ((State.health_keeps _).mono (by decide) (by decide))
  exact State.setFlag_frame (State.setFlag_frame ((State.setOtd_frame (.refl _ s) (by decide)).setReg (by decide) _ _) (by decide))
    (by decide)

theorem State.realign_keeps (d : Nat) (endAt : FineTime) : Frame domainFoot s (s.realign d endAt) := by
  refine Frame.trans ?_ ((State.health_keeps _).mono (by decide) (by decide))
  exact State.setFlag_frame (State.setFlag_frame (State.setOtd_frame (.refl _ s) (by decide)) (by decide)) (by decide)

/-- A domain that starts is aligned when its time base runs, and counts its frames from the last boundary (R186). -/
theorem State.startDomain_shows (d : Nat) : (s.startDomain d).flag F.EGR_OTD_STAT_ALIGNED d = s.tbRunning (s.otdTb d) ∧
    ((s.startDomain d).reg .EGR_OTD_FCNT d).toNat =
      lastBoundary (s.otdFormat d) (s.otdPhase d) (s.tbNow (s.otdTb d)) % 2 ^ 32 := by
  unfold State.startDomain
  extract_lets k t
  have hrun : t.tbRunning (t.otdTb d) = s.tbRunning (s.otdTb d) := by
    simp only [t, State.tbRunning, State.otdTb]
    rw [State.flag_setReg_ne _ (by decide), State.fld_setReg_ne _ (by decide), State.setOtd_flag, State.setOtd_fld]
  have hcount : (t.reg .EGR_OTD_FCNT d).toNat = k % 2 ^ 32 := by
    rw [State.reg_setReg_same, Reg.fit_toNat rfl, BitVec.toNat_ofNat]
    omega
  constructor
  · rw [(State.health_keeps _).flag (by decide), State.flag_setFlag_disjoint (f := F.EGR_OTD_STAT_REALIGNING)
      (g := F.EGR_OTD_STAT_ALIGNED) _ d _ rfl (by decide) (by decide), State.flag_setFlag_same _ _ _ _ (by decide) rfl, hrun]
  · rw [(State.health_keeps _).regs _ _ (by decide), State.reg_setFlag_ne _ (by decide), State.reg_setFlag_ne _ (by decide), hcount]

/-- A domain that realigns shows it, and is aligned no longer (R188). -/
theorem State.realign_shows (d : Nat) (endAt : FineTime) : (s.realign d endAt).flag F.EGR_OTD_STAT_REALIGNING d = true ∧
    (s.realign d endAt).flag F.EGR_OTD_STAT_ALIGNED d = false := by
  unfold State.realign
  extract_lets _ _ _ t
  constructor
  · rw [(State.health_keeps _).flag (by decide), State.flag_setFlag_same _ _ _ _ (by decide) rfl]
  · rw [(State.health_keeps _).flag (by decide), State.flag_setFlag_disjoint (f := F.EGR_OTD_STAT_REALIGNING)
      (g := F.EGR_OTD_STAT_ALIGNED) _ d _ rfl (by decide) (by decide), State.flag_setFlag_same _ _ _ _ (by decide) rfl]

/-- A configuration stored before a realignment reads as stored. -/
theorem State.reconfigure_store_shows (d : Nat) {r : Reg} (hr : r ∉ domainFoot.regs) (i : Nat) (v : Word) :
    (s.reconfigure d fun s => s.store r i v).reg r i = s.stored r i v ∧ (s.reconfigure d fun s => s.store r i v).resp = .OK :=
  (State.realign_keeps _ d _).store_shows s hr (by decide)

/-! ### What a stored configuration reads -/

/-- The format of a domain that is configured. -/
theorem State.otdFormat_store (d : Nat) (v : Word) : (s.store .EGR_OTD_CFG d v).otdFormat d = F.EGR_OTD_CFG_FORMAT.of v :=
  State.fld_store_same s (g := F.EGR_OTD_CFG_FORMAT) d v (by decide) (by decide)

/-- The time base of a domain that is configured. -/
theorem State.otdTb_store (d : Nat) (v : Word) : (s.store .EGR_OTD_CFG d v).otdTb d = F.EGR_OTD_CFG_TB.of v :=
  State.fld_store_same s (g := F.EGR_OTD_CFG_TB) d v (by decide) (by decide)

theorem fmtAccepted_ne_zero {fmt : Nat} (h : fmtAccepted fmt = true) : fmt ≠ 0 := by
  rintro rfl
  exact absurd h (by decide)

/-! ### EGR_OTD_CFG and EGR_OTD_PHASE (R187, R188) -/

section
variable {s} {src : Requester} {d : Nat} {v : Word}

section
variable (ho : s.closedTo .EGR_OTD_CFG src = false) (he : F.EGR_OTD_CFG_ENABLE.on v = true)
  (hf : fmtAccepted (F.EGR_OTD_CFG_FORMAT.of v) = true) (hp : s.otdPhase d < framePeriod (F.EGR_OTD_CFG_FORMAT.of v))
include ho he hf hp

/-- A domain enabled on a running time base starts. -/
theorem State.writeOtdCfg_starts (hw : s.otdEnabled d = false) (hr : s.tbRunning (F.EGR_OTD_CFG_TB.of v) = true) :
    s.writeOtdCfg src d v = (s.store .EGR_OTD_CFG d v).startDomain d := by
  rw [State.writeOtdCfg, State.guarded_of_open s ho]
  simp [he, hf, hp, hw, hr, fmtAccepted_ne_zero hf]

/-- An enabled domain without pending takes changes its format or its time base, to one that runs (R188). -/
theorem State.writeOtdCfg_reconfigures (hw : s.otdEnabled d = true)
    (hc : F.EGR_OTD_CFG_FORMAT.of v ≠ s.otdFormat d ∨ F.EGR_OTD_CFG_TB.of v ≠ s.otdTb d) (hn : s.domainPending d = false)
    (hr : F.EGR_OTD_CFG_TB.of v ≠ s.otdTb d → s.tbRunning (F.EGR_OTD_CFG_TB.of v) = true) :
    s.writeOtdCfg src d v = s.reconfigure d fun s => s.store .EGR_OTD_CFG d v := by
  have hrun : ¬ (F.EGR_OTD_CFG_TB.of v ≠ s.otdTb d ∧ s.tbRunning (F.EGR_OTD_CFG_TB.of v) = false) :=
    fun h => absurd (hr h.1) (by simp [h.2])
  rw [State.writeOtdCfg, State.guarded_of_open s ho]
  simp [he, hf, hp, hw, hn, hc, hrun, fmtAccepted_ne_zero hf]

end

section
variable (ho : s.closedTo .EGR_OTD_PHASE src = false) (hv : low32 v = v)
include ho hv

/-- A PHASE within the frame period is stored; that of an enabled domain without pending takes realigns it when it changes. -/
theorem State.writeOtdPhase_within (hp : v.toNat * 65536 + 65536 ≤ framePeriod (s.otdFormat d))
    (hn : s.otdEnabled d = true → s.domainPending d = false) :
    s.writeOtdPhase src d v = s.store .EGR_OTD_PHASE d v ∨
      s.writeOtdPhase src d v = s.reconfigure d fun s => s.store .EGR_OTD_PHASE d v := by
  rw [State.writeOtdPhase, State.guarded_of_open s ho, hv]
  rw [if_neg (Nat.not_lt.mpr hp)]
  split
  next h =>
    rw [if_neg (by simp [hn (Bool.and_eq_true_iff.mp h).1])]
    exact .inr rfl
  next => exact .inl rfl

theorem State.writeOtdPhase_beyond (hp : framePeriod (s.otdFormat d) < v.toNat * 65536 + 65536) :
    s.writeOtdPhase src d v = s.refuse .BAD_ARG := by
  rw [State.writeOtdPhase, State.guarded_of_open s ho, hv]
  exact if_pos hp

end

end

/-! ### The commands -/

theorem exec_otdConfigWrite (src : Requester) (d : Fin 8) (w : Word32) :
    exec (.otdConfigWrite src d w) s = .next (s.writeOtdCfg src d (w.setWidth 64)) := rfl
theorem exec_otdPhaseWrite (src : Requester) (d : Fin 8) (w : Word32) :
    exec (.otdPhaseWrite src d w) s = .next (s.writeOtdPhase src d (w.setWidth 64)) := rfl

end Sys2Proof.Machine
end

section
/-! Settles O21 from the branches of the writes of EGR_OTD_CFG and EGR_OTD_PHASE. -/

open Sys2Proof Sys2Proof.Machine

/-- Settles O21, clause by clause: a domain enabled, an enabled domain changed, and a PHASE within the frame period and beyond it. -/
theorem domainsConfiguredAndPhased : Obligations.DomainsConfiguredAndPhased := by
  unfold Obligations.DomainsConfiguredAndPhased
  refine ⟨?enabled, ?changed, ?phase, ?beyond⟩
  case enabled =>
    intro src d w word fmt s hw hfmt ho he hwas hf hp hr
    subst hfmt
    have hkeeps := (s.store .EGR_OTD_CFG d word).startDomain_keeps d
    obtain ⟨haligned, hcount⟩ := (s.store .EGR_OTD_CFG d word).startDomain_shows d
    obtain ⟨hreg, hresp⟩ := hkeeps.store_shows s (by decide) (by decide)
    rw [exec_otdConfigWrite, ← hw, State.writeOtdCfg_starts ho he hf hp hwas hr]
    refine .next ⟨hreg, ?_, ?_, hresp⟩
    · rw [haligned, s.otdTb_store, State.tbRunning, s.flag_store_ne (by decide)]
      exact hr
    · rw [hcount, s.otdTb_store, s.otdFormat_store, State.otdPhase, s.reg_store_ne (by decide), State.store_tbNow]
      rfl
  case changed =>
    intro src d w word fmt s hw hfmt ho he hwas hc hf hp hn hr
    subst hfmt
    rw [exec_otdConfigWrite, ← hw, State.writeOtdCfg_reconfigures ho he hf hp hwas hc hn hr]
    obtain ⟨hreg, hresp⟩ := s.reconfigure_store_shows d (r := .EGR_OTD_CFG) (by decide) d word
    obtain ⟨hrealigning, haligned⟩ := State.realign_shows (s.store .EGR_OTD_CFG d word) d _
    exact .next ⟨hreg, hrealigning, haligned, hresp⟩
  case phase =>
    intro src d w word s hw ho hp hn
    rw [exec_otdPhaseWrite, ← hw]
    rcases State.writeOtdPhase_within ho (hw ▸ low32_setWidth w) hp hn with h | h
    · rw [h]
      exact .next (s.store_shows _ _ _)
    · rw [h]
      exact .next (s.reconfigure_store_shows d (by decide) _ _)
  case beyond =>
    intro src d w word s hw ho hp
    rw [exec_otdPhaseWrite, ← hw, State.writeOtdPhase_beyond ho (hw ▸ low32_setWidth w) hp]
    exact .next ⟨rfl, rfl⟩

end

section
/-! SUPPORT of O22: takes that are refused while an output drains, outputs that start, drain and go OFF, and their senders. -/

namespace Sys2Proof.Machine

variable (s : State)

/-! ### Fields of a word that is being written -/

/-- A field that is put twice reads as put last. -/
theorem Fld.put_put_same (f : Fld) (x y : Nat) (v : Word) : f.put x (f.put y v) = f.put x v := by
  refine BitVec.eq_of_getLsbD_eq fun k hk => ?_
  simp only [Fld.put, insertBits_getLsbD _ _ _ _ _ hk]
  exact ite_congr rfl (fun _ => rfl) fun h => if_neg h

/-! ### Refused takes (R146, R170, R226) -/

/-- All that refusing a pending take may change. -/
def refuseFoot : Foot where
  parts := [.tks, .twl, .nim, .resp, .host, .sent]
  regs := routeFoot ++ [.EGR_OUT_TAKE, .NIM_CQ_TAIL, .NIM_CQ_LOST, .GLB_INT_SUM, .NIM_INT_STAT, .NIM_SVC_STAT, .NIM_JRN_FREE,
    .NIM_JRN_OPEN]

theorem State.dropRoute_keeps (req : Option Nat) : Frame ⟨[.twl], routeFoot⟩ s (s.dropRoute req) := by
  unfold State.dropRoute
  split
  · exact .refl _ s
  · exact .ite (.refl _ s) (s.release_keeps _)

theorem State.refuseTake_keeps (k : PendTake) (st : Status) : Frame refuseFoot s (s.refuseTake k st) := by
  unfold State.refuseTake
  extract_lets s1 s2
  have h1 : Frame refuseFoot s s1 := (State.dropTake_frame (.refl _ s) (by decide) (by decide)).trans
    ((State.dropRoute_keeps _ _).mono (by decide) (by decide))
  have h2 : Frame refuseFoot s s2 := h1.trans ((s1.postTake_keeps _ _ _ _).mono (by decide) (by decide))
  exact .ite h2 (State.memberRefused_frame h2 (by decide) (by decide))

theorem State.drainTakes_keeps (n : Nat) : Frame refuseFoot s (s.drainTakes n) :=
  Frame.foldl (fun t _ h => h.trans (t.refuseTake_keeps _ _)) _ (.refl _ s)

/-! ### Draining (R226, R227) -/

/-- All that draining an output may change. -/
def drainFoot : Foot := ⟨refuseFoot.parts, .EGR_OUT_STAT :: refuseFoot.regs⟩

theorem State.drainOutput_keeps (n : Nat) : Frame drainFoot s (s.drainOutput n) :=
  (State.setFld_frame (.refl _ s) (by decide)).trans ((State.drainTakes_keeps _ n).mono (by decide) (by decide))

/-- An output that drains reads DRAINING, and the others read as before. -/
theorem State.drainOutput_outState (n m : Nat) : (s.drainOutput n).outState m = if m = n then 2 else s.outState m := by
  rw [State.outState, State.drainOutput, (State.drainTakes_keeps _ n).fld (by decide)]
  split
  next h =>
    rw [h, State.fld_setFld_same _ _ _ _ (by decide)]
    rfl
  next h => exact State.fld_setFld_other s _ (.inr h)

/-- Drain the listed outputs, with ENABLE cleared (R227). -/
def State.drainOutputs (s : State) (l : List Nat) : State :=
  l.foldl (fun s n => (s.drainOutput n).setFlag F.EGR_OUT_CFG_ENABLE n false) s

theorem State.drainOutputs_keeps (l : List Nat) :
    Frame ⟨drainFoot.parts, .EGR_OUT_CFG :: drainFoot.regs⟩ s (s.drainOutputs l) :=
  Frame.foldl (fun t n h => State.setFlag_frame (h.trans ((t.drainOutput_keeps n).mono (by decide) (by decide))) (by decide)) _
    (.refl _ s)

theorem State.drainOutputs_outState (l : List Nat) (m : Nat) :
    (s.drainOutputs l).outState m = if m ∈ l then 2 else s.outState m := by
  induction l generalizing s with
  | nil => rfl
  | cons n l ih =>
    have hstep : ((s.drainOutput n).setFlag F.EGR_OUT_CFG_ENABLE n false).outState m = (s.drainOutput n).outState m :=
      State.fld_setFlag_ne _ (by decide) _ _ _
    rw [State.drainOutputs, List.foldl_cons, ← State.drainOutputs, ih, hstep, s.drainOutput_outState]
    by_cases hl : m ∈ l <;> by_cases hn : m = n <;> simp [hl, hn]

/-! ### What happens at an output's senders (R194, R226) -/

/-- All that changes beside the outputs when senders start or stop with them and the HEALTH pins follow. -/
def outSenderFoot : Foot where
  parts := [.egr, .host, .sent]
  regs := [.EGR_VSND_MISS, .EGR_VSND_STAT, .EGR_STATUS, .EGR_HEALTH_STAT, .GLB_INT_SUM, .EGR_INT_STAT]

/-- From s to t nothing happens at the outputs: their records are as they were, and so is all that senders and the HEALTH pins do not
concern. -/
structure State.KeepsOutputs (s t : State) : Prop where
  outs : t.egr.outs = s.egr.outs
  frame : Frame outSenderFoot s t

theorem State.KeepsOutputs.refl : s.KeepsOutputs s := ⟨rfl, .refl _ s⟩

section
variable {s}

theorem State.KeepsOutputs.trans {t u : State} (h : s.KeepsOutputs t) (k : t.KeepsOutputs u) : s.KeepsOutputs u :=
  ⟨k.outs.trans h.outs, h.frame.trans k.frame⟩

theorem State.KeepsOutputs.foldl {α : Type} {g : State → α → State} (hg : ∀ s x, State.KeepsOutputs s (g s x)) (l : List α) :
    s.KeepsOutputs (l.foldl g s) := by
  induction l generalizing s with
  | nil => exact .refl s
  | cons x l ih => exact (hg s x).trans ih

theorem State.KeepsOutputs.out {t : State} (h : s.KeepsOutputs t) (n : Nat) : t.out n = s.out n := by
  rw [State.out, State.out, h.outs]

theorem State.KeepsOutputs.outState {t : State} (h : s.KeepsOutputs t) (n : Nat) : t.outState n = s.outState n :=
  h.frame.fld (by decide) n

end

theorem State.setSender_keepsOutputs (k : SndKind) (i : Nat) (x : Sender) : s.KeepsOutputs (s.setSender k i x) :=
  ⟨by cases k <;> rfl, State.setSender_frame (.refl _ s) (by decide)⟩

theorem State.setFlag_keepsOutputs {g : Fld} (hg : g.reg ∈ outSenderFoot.regs) (i : Nat) (b : Bool) :
    s.KeepsOutputs (s.setFlag g i b) :=
  ⟨rfl, State.setFlag_frame (.refl _ s) hg⟩

theorem State.count_keepsOutputs {r : Reg} (hr : r ∈ outSenderFoot.regs) (i n : Nat) : s.KeepsOutputs (s.count r i n) :=
  ⟨rfl, State.count_frame (.refl _ s) hr⟩

/-- Of the egress record, driving the HEALTH pins changes their levels. -/
theorem State.setHealth_egr (a b : Bool) : (s.setHealth a b).egr = { s.egr with healthA := a, healthB := b } := by
  unfold State.setHealth
  dsimp only
  split
  · rw [State.irq_egr]
    rfl
  · rfl

theorem State.health_keepsOutputs : s.KeepsOutputs s.health :=
  ⟨by rw [State.health, State.setHealth_egr], s.health_keeps.mono (by decide) (by decide)⟩

/-! ### An output that starts (R194) -/

/-- The state in which an output reads RUN, before its senders run. -/
def State.outputRuns (s : State) (n : Nat) : State :=
  let t := s.setReg .EGR_OUT_STAT n (BitVec.ofNat 64 (2 ^ 29))
  t.setOut n { t.out n with
    lane := t.flag F.EGR_OUT_CFG_SDI_EN n, ovr := t.fld F.EGR_OUT_CFG_OVERRIDE n, pat := t.fld F.EGR_OUT_CFG_PAT n }

theorem State.outputRuns_keeps (n : Nat) : Frame ⟨[.egr], [.EGR_OUT_STAT]⟩ s (s.outputRuns n) :=
  State.setOut_frame ((Frame.refl _ s).setReg (by decide) _ _) (by decide)

theorem State.outputRuns_outState (n : Nat) : (s.outputRuns n).outState n = 1 := by
  rw [State.outputRuns, State.outState, State.setOut_fld, State.fld, State.reg_setReg_same]
  decide

theorem State.startOutput_keepsOutputs (n : Nat) : (s.outputRuns n).KeepsOutputs (s.startOutput n) := by
  refine State.KeepsOutputs.trans ?_ (State.health_keepsOutputs _)
  refine ((State.KeepsOutputs.foldl (fun t i => ?_) _).trans (.foldl (fun t i => ?_) _)).trans (.foldl (fun t i => ?_) _)
  · exact (t.setSender_keepsOutputs _ _ _).trans (State.setFlag_keepsOutputs _ (by decide) _ _)
  · exact t.setSender_keepsOutputs _ _ _
  · exact t.setSender_keepsOutputs _ _ _

/-- An output that starts reads RUN; beside that, its senders and the HEALTH pins nothing changes. -/
theorem State.startOutput_shows (n : Nat) : (s.startOutput n).outState n = 1 ∧
    Frame ⟨outSenderFoot.parts, .EGR_OUT_STAT :: outSenderFoot.regs⟩ s (s.startOutput n) :=
  ⟨((s.startOutput_keepsOutputs n).outState n).trans (s.outputRuns_outState n),
    ((s.outputRuns_keeps n).mono (by decide) (by decide)).trans
      ((s.startOutput_keepsOutputs n).frame.mono (by decide) (by decide))⟩

/-! ### An output that goes OFF (R202, R226) -/

theorem State.reserveOut_keeps {old new : Nat} {u : State} (h : s.reserveOut old new = some u) :
    Frame ⟨[], [.TWD_OUT_RES]⟩ s u := by
  unfold State.reserveOut at h
  dsimp only at h
  split at h
  · rw [← Option.some.inj h]
    exact State.setFld_frame (.refl _ _) (by decide)
  · cases h

/-- The state in which an output reads OFF, before its senders stop. -/
def State.outputIdle (s : State) (n : Nat) (killed : Bool) : State :=
  let t := s.setReg .EGR_OUT_STAT n (if killed then BitVec.ofNat 64 (2 ^ 28) else 0)
  t.setOut n { t.out n with lane := false, flags := 0, gapLines := 0 }

theorem State.outputIdle_shows (n : Nat) (killed : Bool) : (s.outputIdle n killed).outState n = 0 ∧
    (s.outputIdle n killed).flag F.EGR_OUT_STAT_KILLED n = killed ∧ ((s.outputIdle n killed).out n).lane = false := by
  refine ⟨?_, ?_, ?_⟩
  · rw [State.outputIdle, State.outState, State.setOut_fld, State.fld, State.reg_setReg_same]
    cases killed <;> decide
  · rw [State.outputIdle, State.setOut_flag, State.flag, State.fld, State.reg_setReg_same]
    cases killed <;> decide
  · rw [State.outputIdle, State.setOut_out]

/-- An output goes OFF once its reservation has ended; its senders stop after that. -/
theorem State.outputOff_after (n : Nat) (killed : Bool) : ∃ t, Frame ⟨[], [.TWD_OUT_RES]⟩ s t ∧
    (t.outputIdle n killed).KeepsOutputs (s.outputOff n killed) := by
  unfold State.outputOff
  extract_lets t1 t2 o t3 t4 t5 t6 t7
  refine ⟨t1, ?_, ?_⟩
  · dsimp only [t1]
    split
    next u hu => exact s.reserveOut_keeps hu
    next => exact .refl _ s
  · have h4 : (t1.outputIdle n killed).KeepsOutputs t4 := .foldl (fun t i => by
      refine State.KeepsOutputs.trans ?_ ((State.setSender_keepsOutputs _ _ _ _).trans (State.setFlag_keepsOutputs _ (by decide) _ _))
      split
      · exact t.count_keepsOutputs (by decide) _ _
      · exact .refl t) _
    have h6 : (t1.outputIdle n killed).KeepsOutputs t6 := (h4.trans (.foldl (fun t i => t.setSender_keepsOutputs _ _ _) _)).trans
      (.foldl (fun t i => t.setSender_keepsOutputs _ _ _) _)
    refine State.KeepsOutputs.trans ?_ (State.health_keepsOutputs _)
    dsimp only [t7]
    split
    · exact h6.trans (State.setFlag_keepsOutputs _ (by decide) _ _)
    · exact h6

/-- An output that is OFF reads so, and whether it was killed; its lane is idle, and the answer is as it was. -/
theorem State.outputOff_shows (n : Nat) (killed : Bool) : (s.outputOff n killed).outState n = 0 ∧
    (s.outputOff n killed).flag F.EGR_OUT_STAT_KILLED n = killed ∧ ((s.outputOff n killed).out n).lane = false ∧
    (s.outputOff n killed).resp = s.resp := by
  obtain ⟨t, ht, h⟩ := s.outputOff_after n killed
  obtain ⟨hstate, hkilled, hlane⟩ := t.outputIdle_shows n killed
  refine ⟨(h.outState n).trans hstate, (h.frame.flag (by decide) n).trans hkilled, ?_, ?_⟩
  · rw [h.out, hlane]
  · exact (h.frame.parts .resp (by decide)).trans (ht.parts .resp (by decide))

/-! ### The branches of a write of EGR_OUT_CFG (R190, R194, R198, R207, R226) -/

section
variable {s} {src : Requester} {n : Nat} {v : Word} (ho : s.closedTo .EGR_OUT_CFG src = false) (hb : badOutCfg v = false)
include ho hb

/-- An output that is OFF is enabled in an enabled domain, once its channels are reserved. -/
theorem State.writeOutCfg_starts {u : State} (he : F.EGR_OUT_CFG_ENABLE.on v = true) (hs : s.outState n = 0)
    (hp : s.badPattern v = false) (hg : s.fld F.TWL_SP_STAT_STATE (3 * (n / 16)) ≠ spGated) (hbond : s.bondedPart n = false)
    (hc : s.flag F.EGR_CTRL_EN 0 = true) (hd : s.otdEnabled (F.EGR_OUT_CFG_OTD.of v) = true) (hvid : s.vidFailed n = false)
    (hu : s.reserveOut 0 (outChannels (s.reg .EGR_OUT_AUD n)) = some u) :
    s.writeOutCfg src n v = (u.store .EGR_OUT_CFG n (F.EGR_OUT_CFG_KILL.put 0 v)).startOutput n := by
  rw [State.writeOutCfg, State.guarded_of_open s ho]
  simp [he, hs, hb, hp, hg, hbond, hc, hd, hvid, hu]

theorem State.writeOutCfg_drains (he : F.EGR_OUT_CFG_ENABLE.on v = false) (hk : F.EGR_OUT_CFG_KILL.on v = false)
    (hs : s.outState n = 1) (hp : s.badPattern v = false) :
    s.writeOutCfg src n v = (s.drainOutput n).store .EGR_OUT_CFG n (F.EGR_OUT_CFG_KILL.put 0 v) := by
  rw [State.writeOutCfg, State.guarded_of_open s ho]
  simp [he, hk, hs, hb, hp]

theorem State.writeOutCfg_kills (he : F.EGR_OUT_CFG_ENABLE.on v = false) (hk : F.EGR_OUT_CFG_KILL.on v = true)
    (hs : s.outState n ≠ 0) : s.writeOutCfg src n v =
      ((s.drainTakes n).store .EGR_OUT_CFG n (F.EGR_OUT_CFG_KILL.put 0 v)).outputOff n true := by
  rw [State.writeOutCfg, State.guarded_of_open s ho]
  simp [he, hk, hs, hb]

/-- A running output that stays in its domain is changed; nothing happens but at its lane and the HEALTH pins. -/
theorem State.writeOutCfg_changes (he : F.EGR_OUT_CFG_ENABLE.on v = true) (hs : s.outState n = 1) (hp : s.badPattern v = false)
    (hd : F.EGR_OUT_CFG_OTD.of v = s.fld F.EGR_OUT_CFG_OTD n) :
    Frame healthFoot (s.store .EGR_OUT_CFG n (F.EGR_OUT_CFG_KILL.put 0 v)) (s.writeOutCfg src n v) := by
  have heq : s.writeOutCfg src n v = (let t := s.store .EGR_OUT_CFG n (F.EGR_OUT_CFG_KILL.put 0 v)
      (t.setOut n { t.out n with lane := F.EGR_OUT_CFG_SDI_EN.on v }).health) := by
    rw [State.writeOutCfg, State.guarded_of_open s ho]
    simp [he, hs, hb, hp, hd]
  rw [heq]
  exact (State.setOut_frame (.refl _ _) (by decide)).trans (State.health_keeps _)

end

/-! ### A line (R195, R196, R206) -/

/-- The state in which a line's gap marks, its slips and the packets that found no room are counted. -/
def State.lineCounted (s : State) (n gaps slips ancDrops : Nat) : State :=
  let s := if gaps = 0 then s else (s.count .EGR_OUT_GAP n gaps).irq Irq.EGR_GAP
  let s := if slips = 0 then s else (s.count .EGR_OUT_GAP n slips).setFlag F.EGR_OUT_STAT_DIRECT_SLIP n true
  if ancDrops = 0 then s else (s.count .EGR_OUT_ANCDROP n ancDrops).irq Irq.EGR_ANC_DROP

theorem State.lineCounted_gaps (n : Nat) {gaps : Nat} (hg : gaps ≠ 0) (ancDrops : Nat) :
    (s.lineCounted n gaps 0 ancDrops).reg .EGR_OUT_GAP n = s.counted .EGR_OUT_GAP n gaps := by
  have hgaps : ((s.count .EGR_OUT_GAP n gaps).irq Irq.EGR_GAP).reg .EGR_OUT_GAP n = s.counted .EGR_OUT_GAP n gaps := by
    rw [State.irq_reg _ _ (by decide), State.reg_count_counted]
  unfold State.lineCounted
  dsimp only
  rw [if_neg hg, if_pos rfl]
  split
  · exact hgaps
  · rw [State.irq_reg _ _ (by decide), State.reg_count_ne _ (by decide), hgaps]

theorem State.lineCounted_ancDrops (n gaps slips : Nat) {ancDrops : Nat} (ha : ancDrops ≠ 0) :
    (s.lineCounted n gaps slips ancDrops).reg .EGR_OUT_ANCDROP n = s.counted .EGR_OUT_ANCDROP n ancDrops := by
  unfold State.lineCounted
  extract_lets s1 s2
  have h1 : Frame ⟨[.host, .sent], [.EGR_OUT_GAP, .GLB_INT_SUM, .EGR_INT_STAT, .EGR_OUT_STAT]⟩ s s1 :=
    .ite (.refl _ s) (State.irq_frame (State.count_frame (.refl _ s) (by decide)) (by decide) (by decide))
  have h2 : Frame ⟨[.host, .sent], [.EGR_OUT_GAP, .GLB_INT_SUM, .EGR_INT_STAT, .EGR_OUT_STAT]⟩ s s2 :=
    .ite h1 (State.setFlag_frame (State.count_frame h1 (by decide)) (by decide))
  rw [if_neg ha, State.irq_reg _ _ (by decide), State.reg_count_counted]
  exact State.counted_congr (h2.regs _ _ (by decide)) _

/-- The record of an output after a line. -/
def Output.afterLine (o : Output) (gaps slips : Nat) : Output :=
  let run := if gaps = 0 then 0 else o.gapLines + 1
  { o with
    gapLines := run, wholeLine := if gaps = 0 then true else if run = 8 then false else o.wholeLine,
    flags := o.flags ||| (if gaps = 0 then 0 else 4), slips := o.slips + slips }

/-- A line of an output that is not OFF is counted and recorded; black for gaps may begin. -/
theorem exec_outputLine_on {n : Fin 128} (h : s.outState n ≠ 0) (gaps slips ancDrops : Nat) :
    ∃ t, exec (.outputLine n gaps slips ancDrops) s = .next t ∧ Frame ⟨[], [.EGR_OUT_STAT]⟩
      ((s.lineCounted n gaps slips ancDrops).setOut n ((s.out n).afterLine gaps slips)) t :=
  ⟨_, congrArg Host.Outcome.next (if_neg h), .ite (State.setFlag_frame (.refl _ _) (by decide)) (.refl _ _)⟩

/-! ### The other registers of an output (R200, R201, R202, R207) -/

section
variable {s} {src : Requester} {n : Nat} {v : Word}

/-- A write to a register of an output that does not drain is carried out. -/
theorem State.outWrite_of_open {r : Reg} (ho : s.closedTo r src = false) (hs : s.outState n ≠ 2) (k : State → State) :
    s.outWrite src r n k = k s := by
  rw [State.outWrite, State.guarded_of_open s ho]
  exact if_neg hs

/-- Embedded audio within the limits is stored, once its channels are reserved for an output that is not OFF. -/
theorem State.writeOutAud_stores {u : State} (ho : s.closedTo .EGR_OUT_AUD src = false) (hs : s.outState n ≠ 2)
    (hm : F.EGR_OUT_AUD_MODE.of v ≠ 3) (hc : F.EGR_OUT_AUD_CHANNELS.of v ≤ 32)
    (hr : F.EGR_OUT_AUD_MODE.of v = 2 → F.EGR_OUT_AUD_BASE.of v + F.EGR_OUT_AUD_CHANNELS.of v ≤ 8192)
    (hu : (if s.outState n = 0 then some s else s.reserveOut (outChannels (s.reg .EGR_OUT_AUD n)) (outChannels v)) = some u) :
    s.writeOutAud src n v = u.store .EGR_OUT_AUD n v := by
  have hok : ¬ (F.EGR_OUT_AUD_MODE.of v = 3 ∨ 32 < F.EGR_OUT_AUD_CHANNELS.of v ∨
      (F.EGR_OUT_AUD_MODE.of v = 2 ∧ 8192 < F.EGR_OUT_AUD_BASE.of v + F.EGR_OUT_AUD_CHANNELS.of v)) := by
    rintro (h | h | ⟨h2, h⟩)
    · exact hm h
    · omega
    · have := hr h2
      omega
  rw [State.writeOutAud, State.outWrite_of_open ho hs, if_neg hok]
  by_cases h0 : s.outState n = 0
  · rw [if_pos h0] at hu ⊢
    rw [Option.some.inj hu]
  · rw [if_neg h0] at hu ⊢
    rw [hu]

/-- EGR_OUT_SDI is stored when a bond that it sets finds its group free and a raster of four links. -/
theorem State.writeOutSdi_stores (ho : s.closedTo .EGR_OUT_SDI src = false) (hs : s.outState n ≠ 2)
    (hb : n % 4 = 0 → F.EGR_OUT_SDI_BOND.on v = true → s.flag F.EGR_OUT_SDI_BOND n = false →
      (∀ k < 3, s.flag F.EGR_OUT_CFG_ENABLE (n + 1 + k) = false) ∧
        rasterOf (s.otdFormat (s.fld F.EGR_OUT_CFG_OTD n)) = 8) :
    s.writeOutSdi src n v = s.store .EGR_OUT_SDI n v := by
  rw [State.writeOutSdi, State.outWrite_of_open ho hs]
  extract_lets sets
  cases hsets : sets with
  | false => rfl
  | true =>
    obtain ⟨⟨h4, hon⟩, hoff⟩ : (n % 4 = 0 ∧ F.EGR_OUT_SDI_BOND.on v = true) ∧ s.flag F.EGR_OUT_SDI_BOND n = false := by
      simpa [sets] using hsets
    obtain ⟨hfree, hwide⟩ := hb h4 hon hoff
    have h1 := hfree 0 (by omega)
    have h2 := hfree 1 (by omega)
    have h3 := hfree 2 (by omega)
    simp only [Nat.add_zero, Nat.add_assoc, Nat.reduceAdd] at h1 h2 h3
    simp [h1, h2, h3, hwide]

/-- A generator that keeps its domain while it stays enabled, and is enabled beside no other where one of them is wide, is stored. -/
theorem State.writePat_stores (ho : s.closedTo .EGR_PAT_CFG src = false)
    (hd : F.EGR_PAT_CFG_ENABLE.on v = true → s.flag F.EGR_PAT_CFG_ENABLE n = true →
      F.EGR_PAT_CFG_OTD.of v = s.fld F.EGR_PAT_CFG_OTD n)
    (hw : F.EGR_PAT_CFG_ENABLE.on v = true → s.flag F.EGR_PAT_CFG_ENABLE n = false → ∀ q < 4, n / 4 * 4 + q ≠ n →
      s.flag F.EGR_PAT_CFG_ENABLE (n / 4 * 4 + q) = true → rasterOf (s.otdFormat (F.EGR_PAT_CFG_OTD.of v)) ≠ 8 ∧
        rasterOf (s.otdFormat (s.fld F.EGR_PAT_CFG_OTD (n / 4 * 4 + q))) ≠ 8) :
    s.writePat src n v = s.store .EGR_PAT_CFG n v := by
  rw [State.writePat, State.guarded_of_open s ho]
  extract_lets was en wide others
  have hmoved : ¬ (was && en && F.EGR_PAT_CFG_OTD.of v != s.fld F.EGR_PAT_CFG_OTD n) = true := by
    simp only [Bool.and_eq_true, bne_iff_ne]
    rintro ⟨⟨hwas, hen⟩, hne⟩
    exact hne (hd hen hwas)
  have hmem : ∀ p ∈ others, ∃ q < 4, p = n / 4 * 4 + q ∧ p ≠ n ∧ s.flag F.EGR_PAT_CFG_ENABLE p = true := by
    intro p hp
    obtain ⟨hlist, hkeep⟩ := List.mem_filter.mp hp
    obtain ⟨q, hq, rfl⟩ := List.mem_map.mp hlist
    exact ⟨q, List.mem_range.mp hq, rfl, by simpa using hkeep⟩
  have hclash : ¬ (en && !was && ((wide (F.EGR_PAT_CFG_OTD.of v) && !others.isEmpty) ||
      others.any (fun q => wide (s.fld F.EGR_PAT_CFG_OTD q)))) = true := by
    intro h
    simp only [Bool.and_eq_true, Bool.not_eq_true', Bool.or_eq_true] at h
    obtain ⟨⟨hen, hwas⟩, hthis | hthat⟩ := h
    · obtain ⟨hwide, hne⟩ := hthis
      obtain ⟨p, hp⟩ := List.exists_mem_of_ne_nil others (by simpa using hne)
      obtain ⟨q, hq, rfl, hpn, hpe⟩ := hmem p hp
      exact (hw hen hwas q hq hpn hpe).1 (by simpa [wide] using hwide)
    · obtain ⟨p, hp, hwide⟩ := List.any_eq_true.mp hthat
      obtain ⟨q, hq, rfl, hpn, hpe⟩ := hmem p hp
      exact (hw hen hwas q hq hpn hpe).2 (by simpa [wide] using hwide)
  rw [if_neg hmoved, if_neg hclash]

/-! ### EGR_CTRL (R227) -/

theorem State.flag_store_EGR_CTRL_EN (s : State) (v : Word) : (s.store .EGR_CTRL 0 v).flag F.EGR_CTRL_EN 0 = F.EGR_CTRL_EN.on v := by
  rw [State.flag, State.fld_store_same s (g := F.EGR_CTRL_EN) 0 v (by decide) (by decide)]
  rfl

/-- Clearing EN drains the outputs in RUN, and then shows that egress does not run. -/
theorem State.writeEgrCtrl_disable (ho : s.closedTo .EGR_CTRL src = false) : ∃ (l : List Nat) (draining : Bool),
    (∀ n < 128, s.outState n = 1 → n ∈ l) ∧ s.writeEgrCtrl src 0 =
      ((((s.store .EGR_CTRL 0 0).drainOutputs l).setFlag F.EGR_STATUS_RUN 0 false).setFlag F.EGR_STATUS_DRAINING 0 draining).health := by
  rw [State.writeEgrCtrl, State.guarded_of_open s ho]
  refine ⟨_, _, ?_, rfl⟩
  intro n hn hs
  have hs' : (s.store .EGR_CTRL 0 (F.EGR_CTRL_KILL.put 0 0)).outState n = 1 := (s.fld_store_ne (by decide) _ _ _).trans hs
  exact List.mem_filter.mpr ⟨List.mem_filter.mpr ⟨List.mem_range.mpr hn, by rw [hs']; rfl⟩, by rw [hs']; rfl⟩

end

/-! ### The commands -/

/-- The words that the commands of an output write say whether it is enabled, and whether it is killed. -/
theorem outCfgWord_enable (kill en : Nat) (w : Word) :
    F.EGR_OUT_CFG_ENABLE.on (F.EGR_OUT_CFG_KILL.put kill (F.EGR_OUT_CFG_ENABLE.put en w)) = (en % 2 != 0) := by
  rw [Fld.on_put_disjoint _ _ (by decide) (by decide), Fld.on_put_same _ _ _ (by decide)]
  rfl

theorem outCfgWord_kill (kill en : Nat) (w : Word) :
    F.EGR_OUT_CFG_KILL.on (F.EGR_OUT_CFG_KILL.put kill (F.EGR_OUT_CFG_ENABLE.put en w)) = (kill % 2 != 0) := by
  rw [Fld.on_put_same _ _ _ (by decide)]
  rfl

theorem exec_outputEnable (src : Requester) (n : Fin 128) (w : Word32) : exec (.outputEnable src n w) s =
    .next (s.writeOutCfg src n (F.EGR_OUT_CFG_KILL.put 0 (F.EGR_OUT_CFG_ENABLE.put 1 (w.setWidth 64)))) := rfl
theorem exec_outputDisable (src : Requester) (n : Fin 128) : exec (.outputDisable src n) s =
    .next (s.writeOutCfg src n (F.EGR_OUT_CFG_KILL.put 0 (F.EGR_OUT_CFG_ENABLE.put 0 (s.reg .EGR_OUT_CFG n)))) := rfl
theorem exec_outputKill (src : Requester) (n : Fin 128) : exec (.outputKill src n) s =
    .next (s.writeOutCfg src n (F.EGR_OUT_CFG_KILL.put 1 (F.EGR_OUT_CFG_ENABLE.put 0 (s.reg .EGR_OUT_CFG n)))) := rfl
theorem exec_overrideWrite (src : Requester) (n : Fin 128) (ovr : BitVec 2) (pat : Fin 16) :
    exec (.overrideWrite src n ovr pat) s = .next (s.writeOutCfg src n
      (F.EGR_OUT_CFG_OVERRIDE.put ovr.toNat (F.EGR_OUT_CFG_PAT.put pat (s.reg .EGR_OUT_CFG n)))) := rfl
theorem exec_patternGenConfig (src : Requester) (p : Fin 16) (w : Word32) :
    exec (.patternGenConfig src p w) s = .next (s.writePat src p (w.setWidth 64)) := rfl
theorem exec_identWrite (src : Requester) (n : Fin 128) (i : Fin 8) (w : Word32) :
    exec (.identWrite src n i w) s = .next (s.writeIdent src n i (w.setWidth 64)) := rfl
theorem exec_outAudioWrite (src : Requester) (n : Fin 128) (w : Word32) :
    exec (.outAudioWrite src n w) s = .next (s.writeOutAud src n (w.setWidth 64)) := rfl
theorem exec_outSdiBond (src : Requester) (n : Fin 128) (w : Word32) :
    exec (.outSdiBond src n w) s = .next (s.writeOutSdi src n (w.setWidth 64)) := rfl
theorem exec_egressDisable (src : Requester) : exec (.egressDisable src) s = .next (s.writeEgrCtrl src 0) := rfl

theorem exec_outputDrainDone_draining {n : Fin 128} (h : s.outState n = 2) :
    exec (.outputDrainDone n) s = .next (s.outputOff n false) :=
  congrArg Host.Outcome.next (if_pos h)

end Sys2Proof.Machine
end

section
/-! Settles O22 from the branches of the writes of an output's registers and from what happens at its senders. -/

open Sys2Proof Sys2Proof.Machine

/-- Settles O22, clause by clause: an output enabled, disabled, killed and drained, a line, and the writes of overrides, generators,
idents, audio, bonds and of EGR_CTRL. -/
theorem outputsEnabledDrainedAndRun : Obligations.OutputsEnabledDrainedAndRun := by
  unfold Obligations.OutputsEnabledDrainedAndRun
  refine ⟨?enabled, ?disabled, ?killed, ?drained, ?line, ?override, ?pattern, ?ident, ?audio, ?bond, ?egress⟩
  case enabled =>
    intro src n w word u s hw ho hs hb hp hg hbond hc hd hvid hu
    have he : F.EGR_OUT_CFG_ENABLE.on word = true := hw ▸ outCfgWord_enable 0 1 _
    have hput : F.EGR_OUT_CFG_KILL.put 0 word = word := by rw [hw, Fld.put_put_same]
    have hres := s.reserveOut_keeps hu
    rw [exec_outputEnable, ← hw, State.writeOutCfg_starts ho hb he hs hp hg hbond hc hd hvid hu, hput]
    obtain ⟨hstate, hkeeps⟩ := (u.store .EGR_OUT_CFG n word).startOutput_shows n
    obtain ⟨hreg, hresp⟩ := hkeeps.store_shows u (by decide) (by decide)
    refine .next ⟨hstate, ?_, ?_, hresp⟩
    · rw [hreg, State.stored_congr (hres.regs _ _ (by decide))]
    · rw [hkeeps.fld (by decide), u.fld_store_ne (by decide)]
  case disabled =>
    intro src n word s hw ho hs hb hp
    have he : F.EGR_OUT_CFG_ENABLE.on word = false := hw ▸ outCfgWord_enable 0 0 _
    have hk : F.EGR_OUT_CFG_KILL.on word = false := hw ▸ outCfgWord_kill 0 0 _
    have hput : F.EGR_OUT_CFG_KILL.put 0 word = word := by rw [hw, Fld.put_put_same]
    rw [exec_outputDisable, ← hw, State.writeOutCfg_drains ho hb he hk hs hp, hput]
    refine .next ⟨?_, ?_, State.store_resp _ _ _ _⟩
    · rw [State.outState, State.fld_store_ne _ (by decide), ← State.outState, s.drainOutput_outState, if_pos rfl]
    · rw [State.reg_store_same, State.stored_congr ((s.drainOutput_keeps n).regs _ _ (by decide))]
  case killed =>
    intro src n word s hw ho hs hb
    have he : F.EGR_OUT_CFG_ENABLE.on word = false := hw ▸ outCfgWord_enable 1 0 _
    have hk : F.EGR_OUT_CFG_KILL.on word = true := hw ▸ outCfgWord_kill 1 0 _
    rw [exec_outputKill, ← hw, State.writeOutCfg_kills ho hb he hk hs]
    obtain ⟨hstate, hkilled, _, hresp⟩ :=
      ((s.drainTakes n).store .EGR_OUT_CFG n (F.EGR_OUT_CFG_KILL.put 0 word)).outputOff_shows n true
    exact .next ⟨hstate, hkilled, hresp⟩
  case drained =>
    intro n s hs
    rw [exec_outputDrainDone_draining s hs]
    obtain ⟨hstate, hkilled, hlane, _⟩ := s.outputOff_shows n false
    exact .next ⟨hstate, hkilled, hlane⟩
  case line =>
    intro n gaps slips ancDrops s hs
    obtain ⟨t, heq, h⟩ := exec_outputLine_on s hs gaps slips ancDrops
    have hout : t.out n = (s.out n).afterLine gaps slips := by
      rw [State.out, congrArg Egr.outs (h.parts .egr (by decide))]
      exact State.setOut_out _ _ _
    rw [heq]
    refine .next ⟨congrArg Output.gapLines hout, congrArg Output.slips hout, fun hg hslips => ?_, fun ha => ?_⟩
    · subst hslips
      rw [h.regs _ _ (by decide), State.setOut_reg, s.lineCounted_gaps n hg]
    · rw [h.regs _ _ (by decide), State.setOut_reg, s.lineCounted_ancDrops n gaps slips ha]
  case override =>
    intro src n ovr pat word s hw ho hs hen hb hp
    have he : F.EGR_OUT_CFG_ENABLE.on word = true := by
      rw [hw, Fld.on_put_disjoint _ _ (by decide) (by decide), Fld.on_put_disjoint _ _ (by decide) (by decide)]
      exact hen
    have hd : F.EGR_OUT_CFG_OTD.of word = s.fld F.EGR_OUT_CFG_OTD n := by
      rw [hw, Fld.of_put_disjoint _ _ (by decide) (by decide), Fld.of_put_disjoint _ _ (by decide) (by decide)]
      rfl
    rw [exec_overrideWrite, ← hw]
    exact .next ((State.writeOutCfg_changes ho hb he hs hp hd).store_shows s (by decide) (by decide))
  case pattern =>
    intro src p w word s hw ho hd hwide
    rw [exec_patternGenConfig, ← hw, State.writePat_stores ho hd fun hen hoff q hq => hwide hen hoff ⟨q, hq⟩]
    exact .next (s.store_shows _ _ _)
  case ident =>
    intro src n ix w s ho hs
    rw [exec_identWrite, State.writeIdent, State.outWrite_of_open ho hs]
    exact .next (s.store_shows _ _ _)
  case audio =>
    intro src n w word u s hw ho hs hm hc hr hu
    have hreg : u.reg .EGR_OUT_AUD n = s.reg .EGR_OUT_AUD n := by
      split at hu
      next => rw [Option.some.inj hu]
      next => exact (s.reserveOut_keeps hu).regs _ _ (by decide)
    rw [exec_outAudioWrite, ← hw, State.writeOutAud_stores ho hs hm hc hr hu]
    refine .next ⟨?_, u.fld_store_ne (by decide) _ _ _, State.store_resp _ _ _ _⟩
    rw [State.reg_store_same, State.stored_congr hreg]
  case bond =>
    intro src n w word s hw ho hs hb
    rw [exec_outSdiBond, ← hw, State.writeOutSdi_stores ho hs fun h4 hon hoff =>
      ⟨fun k hk => (hb h4 hon hoff).1 ⟨k, hk⟩, (hb h4 hon hoff).2⟩]
    exact .next (s.store_shows _ _ _)
  case egress =>
    intro src n s ho
    obtain ⟨l, draining, hl, heq⟩ := State.writeEgrCtrl_disable ho
    have hkeeps := (s.store .EGR_CTRL 0 0).drainOutputs_keeps l
    rw [exec_egressDisable, heq]
    refine .next ⟨?_, ?_, fun hs => ?_⟩
    · rw [(State.health_keeps _).flag (by decide), State.flag_setFlag_disjoint (f := F.EGR_STATUS_DRAINING) (g := F.EGR_STATUS_RUN) _ 0
        _ rfl (by decide) (by decide), State.flag_setFlag_same _ _ _ _ (by decide) rfl]
    · rw [(State.health_keeps _).flag (by decide), State.flag_setFlag_ne _ (by decide), State.flag_setFlag_ne _ (by decide),
        hkeeps.flag (by decide), s.flag_store_EGR_CTRL_EN]
      rfl
    · rw [State.outState, (State.health_keeps _).fld (by decide), State.fld_setFlag_ne _ (by decide), State.fld_setFlag_ne _ (by decide),
        ← State.outState, State.drainOutputs_outState, if_pos (hl n n.isLt hs)]

end

section
/-! SUPPORT of O23: the records of senders, their start and stop, the checks of a binding, and the packets of their legs. -/

namespace Sys2Proof.Machine

variable (s : State)

/-! ### The records of senders -/

@[simp] theorem State.setSender_sender (k : SndKind) (i : Nat) (x : Sender) : (s.setSender k i x).sender k i = x := by
  cases k <;> exact Tbl.get_set_same _ _ _ _

variable {s} in
theorem State.sender_congr {t : State} (h : t.egr = s.egr) (k : SndKind) (i : Nat) : t.sender k i = s.sender k i := by
  cases k <;> simp only [State.sender, h]

@[simp] theorem State.store_sender (r : Reg) (j : Nat) (v : Word) (k : SndKind) (i : Nat) : (s.store r j v).sender k i = s.sender k i :=
  State.sender_congr (s.store_egr _ _ _) k i

/-! ### Starting and stopping (R194, R209, R227) -/

theorem State.runSender_keeps (k : SndKind) (i rate : Nat) : Frame ⟨[.egr], [.EGR_VSND_STAT]⟩ s (s.runSender k i rate) :=
  State.runSender_frame (.refl _ s) (by decide) (by decide)

theorem State.stopSender_keeps (k : SndKind) (i : Nat) : Frame ⟨[.egr], []⟩ s (s.stopSender k i) :=
  State.stopSender_frame (.refl _ s) (by decide)

/-- A sender that starts runs at its wire rate. -/
theorem State.runSender_sender (k : SndKind) (i rate : Nat) :
    (s.runSender k i rate).sender k i = { s.sender k i with run := true, stopping := false, rate := rate } := by
  unfold State.runSender
  dsimp only
  split
  · rw [State.sender_congr (State.setFlag_egr _ _ _ _), State.setSender_sender]
  · rw [State.setSender_sender]

theorem State.runSender_video_flag (i rate : Nat) : (s.runSender .video i rate).flag F.EGR_VSND_STAT_RUN i = true :=
  State.flag_setFlag_same _ _ _ _ (by decide) rfl

/-- A sender that runs stops after its frame or packet. -/
theorem State.stopSender_stopping (k : SndKind) (i : Nat) : ((s.stopSender k i).sender k i).stopping = (s.sender k i).run := by
  rw [State.stopSender, State.setSender_sender]

/-- A sender whose register is written and that then starts reads so, runs at its rate, and the write is answered OK. -/
theorem State.store_runSender_shows (k : SndKind) {r : Reg} (hr : r ≠ .EGR_VSND_STAT) (i rate : Nat) (v : Word) :
    ((s.store r i v).runSender k i rate).reg r i = s.stored r i v ∧
      (((s.store r i v).runSender k i rate).sender k i).run = true ∧
      (((s.store r i v).runSender k i rate).sender k i).rate = rate ∧ ((s.store r i v).runSender k i rate).resp = .OK := by
  obtain ⟨hreg, hresp⟩ := ((s.store r i v).runSender_keeps k i rate).store_shows s (by simpa using hr) (by decide)
  refine ⟨hreg, ?_, ?_, hresp⟩
  · rw [State.runSender_sender]
  · rw [State.runSender_sender]

/-- A sender whose VALID is cleared stops after its frame or packet, and the write is answered OK (R227). -/
theorem State.clearValid_stopSender_shows (k : SndKind) {g : Fld} (i : Nat) (hw : g.lo + g.len ≤ g.reg.width)
    (hm : ∀ b < g.len, (BitVec.ofNat 64 g.reg.info.mask).getLsbD (g.lo + b) = true) (v : Word) :
    ((s.store g.reg i (g.put 0 v)).stopSender k i).flag g i = false ∧
      (((s.store g.reg i (g.put 0 v)).stopSender k i).sender k i).stopping = (s.sender k i).run ∧
      ((s.store g.reg i (g.put 0 v)).stopSender k i).resp = .OK := by
  have hkeeps := (s.store g.reg i (g.put 0 v)).stopSender_keeps k i
  refine ⟨?_, ?_, hkeeps.parts .resp (by decide)⟩
  · rw [hkeeps.flag (by simp), State.flag, s.fld_store_same i _ hw hm, Fld.of_put_same _ _ _ (hw.trans g.reg.width_le)]
    simp
  · rw [State.stopSender_stopping, State.store_sender]

/-! ### Bindings (R209 to R211, R215 to R217) -/

section
variable {s} {src : Requester} {i : Nat} {v : Word}

/-- A binding to an OUTPUT that passes every check is stored, and the sender runs. -/
theorem State.writeVsndCfg_runs {view : TakeView} {rate : Nat} (ho : s.closedTo .EGR_VSND_CFG src = false)
    (hv : F.EGR_VSND_CFG_VALID.on v = true) (hm : F.EGR_VSND_CFG_MODE.on v = false)
    (hleg : s.isLegB (F.EGR_VSND_CFG_FLOW.of v) = false)
    (hdual : F.EGR_VSND_CFG_DUAL.on v = true → s.sndPortA .video i ≠ s.sndPortB .video i)
    (hbind : s.bindable (F.EGR_VSND_CFG_FLOW.of v) (if F.EGR_VSND_CFG_TYPE.on v then 2 else 1) = true)
    (hawake : s.sndAsleep .video i (s.sndPortA .video i) (s.sndPortB .video i) = false) (hfit : s.hbrmtUnfit v = false)
    (hrate : rate = if F.EGR_VSND_CFG_TYPE.on v then
        hbrmtRate (s.vsndForm i v view).code ((s.dirEntry (F.EGR_VSND_CFG_FLOW.of v)).getLsbD 126)
      else videoRate (s.vsndForm i v view) (s.fld F.EGR_VSND_PORT_PAYLOAD i) ((s.dirEntry (F.EGR_VSND_CFG_FLOW.of v)).getLsbD 126))
    (hroom : ((s.store .EGR_VSND_CFG i v).runSender .video i rate).legsFit .video i = true) :
    s.writeVsndCfg src i v view = (s.store .EGR_VSND_CFG i v).runSender .video i rate := by
  have hports : ¬ (F.EGR_VSND_CFG_DUAL.on v && s.sndPortA .video i == s.sndPortB .video i) = true := by simpa using hdual
  rw [State.writeVsndCfg, State.guarded_of_open s ho]
  dsimp only
  rw [← hrate, if_neg (by simp [hv]), if_neg (by simp [hleg]), if_neg hports, if_neg (by simp [hbind]), if_neg (by simp [hawake]),
    if_neg (by simp [hfit]), if_neg (by simp [hroom]), if_neg (by simp [hm])]

theorem State.writeVsndCfg_stops (ho : s.closedTo .EGR_VSND_CFG src = false) (hv : F.EGR_VSND_CFG_VALID.on v = false)
    (view : TakeView) : s.writeVsndCfg src i v view = (s.store .EGR_VSND_CFG i v).stopSender .video i := by
  rw [State.writeVsndCfg, State.guarded_of_open s ho]
  exact if_pos (by simp [hv])

/-- A source for a sender that does not send one is stored. -/
theorem State.writeVsndSrc_stores (ho : s.closedTo .EGR_VSND_SRC src = false)
    (hn : ¬ (s.flag F.EGR_VSND_CFG_VALID i = true ∧ s.flag F.EGR_VSND_CFG_MODE i = true ∧ F.EGR_VSND_SRC_SOURCE.of v ≠ noSource))
    (view : TakeView) : s.writeVsndSrc src i v view = s.store .EGR_VSND_SRC i v := by
  rw [State.writeVsndSrc, State.guarded_of_open s ho]
  exact if_neg (by simpa [and_assoc] using hn)

/-- A valid SOURCE sender whose request for another source is granted has it stored (R211). -/
theorem State.writeVsndSrc_asks {view : TakeView} {u : State} (ho : s.closedTo .EGR_VSND_SRC src = false)
    (hv : s.flag F.EGR_VSND_CFG_VALID i = true) (hm : s.flag F.EGR_VSND_CFG_MODE i = true)
    (hn : F.EGR_VSND_SRC_SOURCE.of v ≠ noSource) (hask : s.askSource i (F.EGR_VSND_SRC_SOURCE.of v) view = (u, .OK)) :
    s.writeVsndSrc src i v view = u.store .EGR_VSND_SRC i v := by
  rw [State.writeVsndSrc, State.guarded_of_open s ho]
  dsimp only
  rw [if_pos (by simp [hv, hm, hn]), hask]
  rfl

section
variable {cfg fmt : Word} {u : State} (hb : badAsnd cfg fmt = false)
  (hu : s.reserveOut (asndChannels (s.reg .EGR_ASND_CFG i) (s.reg .EGR_ASND_FMT i)) (asndChannels cfg fmt) = some u)
include hb hu

/-- An audio binding that passes every check is stored once its channels are reserved, and the sender runs. -/
theorem State.setAsnd_runs {k : State → State} {rate : Nat} (hv : F.EGR_ASND_CFG_VALID.on cfg = true)
    (hleg : s.isLegB (F.EGR_ASND_CFG_FLOW.of cfg) = false)
    (hdual : F.EGR_ASND_CFG_DUAL.on cfg = true → s.sndPortA .audio i ≠ s.sndPortB .audio i)
    (hbind : s.bindable (F.EGR_ASND_CFG_FLOW.of cfg) (if F.EGR_ASND_CFG_KIND.on cfg then 4 else 3) = true)
    (hawake : s.sndAsleep .audio i (s.sndPortA .audio i) (s.sndPortB .audio i) = false)
    (hrate : rate = audioRate (F.EGR_ASND_CFG_KIND.on cfg) (F.EGR_ASND_FMT_CHANNELS.of fmt) (F.EGR_ASND_FMT_RATE.on fmt)
      (F.EGR_ASND_FMT_PTIME.of fmt == 1) ((s.dirEntry (F.EGR_ASND_CFG_FLOW.of cfg)).getLsbD 126))
    (hroom : ((k u).runSender .audio i rate).legsFit .audio i = true) :
    s.setAsnd i cfg fmt k = (k u).runSender .audio i rate := by
  have hports : ¬ (F.EGR_ASND_CFG_DUAL.on cfg && s.sndPortA .audio i == s.sndPortB .audio i) = true := by simpa using hdual
  rw [State.setAsnd, if_neg (by simp [hb]), hu]
  dsimp only
  rw [← hrate, if_neg (by simp [hv]), if_neg (by simp [hleg]), if_neg hports, if_neg (by simp [hbind]), if_neg (by simp [hawake]),
    if_pos hroom]

theorem State.setAsnd_stops (hv : F.EGR_ASND_CFG_VALID.on cfg = false) (k : State → State) :
    s.setAsnd i cfg fmt k = (k u).stopSender .audio i := by
  rw [State.setAsnd, if_neg (by simp [hb]), hu]
  exact if_pos (by simp [hv])

end

/-- An ancillary binding that passes every check is stored, and the sender runs at no wire rate (log 48). -/
theorem State.writeXsndCfg_runs (ho : s.closedTo .EGR_XSND_CFG src = false) (hv : F.EGR_XSND_CFG_VALID.on v = true)
    (hleg : s.isLegB (F.EGR_XSND_CFG_FLOW.of v) = false)
    (hdual : F.EGR_XSND_CFG_DUAL.on v = true → s.sndPortA .anc i ≠ s.sndPortB .anc i)
    (hbind : s.bindable (F.EGR_XSND_CFG_FLOW.of v) 5 = true)
    (hawake : s.sndAsleep .anc i (s.sndPortA .anc i) (s.sndPortB .anc i) = false) :
    s.writeXsndCfg src i v = (s.store .EGR_XSND_CFG i v).runSender .anc i 0 := by
  have hports : ¬ (F.EGR_XSND_CFG_DUAL.on v && s.sndPortA .anc i == s.sndPortB .anc i) = true := by simpa using hdual
  rw [State.writeXsndCfg, State.guarded_of_open s ho]
  dsimp only
  rw [if_neg (by simp [hv]), if_neg (by simp [hleg]), if_neg hports, if_neg (by simp [hbind]), if_neg (by simp [hawake])]

theorem State.writeXsndCfg_stops (ho : s.closedTo .EGR_XSND_CFG src = false) (hv : F.EGR_XSND_CFG_VALID.on v = false) :
    s.writeXsndCfg src i v = (s.store .EGR_XSND_CFG i v).stopSender .anc i := by
  rw [State.writeXsndCfg, State.guarded_of_open s ho]
  exact if_pos (by simp [hv])

end

/-! ### Packets on the legs (R218 to R220) -/

/-- The counter of the packets that leave on leg A, or on either leg of a sender without a counter for each. -/
def SndKind.txReg : SndKind → Reg
  | .video => .EGR_VSND_TXA
  | .audio => .EGR_ASND_TX
  | .anc => .EGR_XSND_TX

/-- All that a packet on leg B of a video sender may change. -/
def legBFoot : Foot := ⟨[.sent], [.EGR_VSND_STAT, .EGR_VSND_TXB]⟩

theorem State.sendLeg_video_legB_keeps (i ts seq : Nat) (marker : Bool) :
    Frame legBFoot s (s.sendLeg .video i true ts seq marker) := by
  have hstat : Frame legBFoot s (s.setFlag F.EGR_VSND_STAT_LEG_B i (s.linkUp (s.sndPortB .video i))) :=
    State.setFlag_frame (.refl _ s) (by decide)
  exact .ite hstat (State.emit_frame (State.count_frame hstat (by decide)) (by decide))

/-- A packet on leg A counts when its port has link. -/
theorem State.sendLeg_legA_counts {k : SndKind} {i : Nat} (h : s.linkUp (s.sndPortA k i) = true) (ts seq : Nat) (marker : Bool) :
    (s.sendLeg k i false ts seq marker).reg k.txReg i = s.counted k.txReg i 1 := by
  have hup : ¬ (!s.linkUp (s.sndPortA k i)) = true := by simp [h]
  cases k with
  | video =>
    have heq : s.sendLeg .video i false ts seq marker =
        ((s.setFlag F.EGR_VSND_STAT_LEG_A i (s.linkUp (s.sndPortA .video i))).count .EGR_VSND_TXA i 1).emit
          (.rtp 0 i false (s.sndPortA .video i) (ts % 2 ^ 32) (seq % 2 ^ 32) marker) := if_neg hup
    rw [heq, State.emit_reg, SndKind.txReg, State.reg_count_counted]
    exact State.counted_congr (State.reg_setFlag_ne _ (by decide) _ _ _) _
  | audio =>
    have heq : s.sendLeg .audio i false ts seq marker = (s.count .EGR_ASND_TX i 1).emit
        (.rtp 1 i false (s.sndPortA .audio i) (ts % 2 ^ 32) (seq % 2 ^ 32) marker) := if_neg hup
    rw [heq, State.emit_reg, SndKind.txReg, State.reg_count_counted]
  | anc =>
    have heq : s.sendLeg .anc i false ts seq marker = (s.count .EGR_XSND_TX i 1).emit
        (.rtp 2 i false (s.sndPortA .anc i) (ts % 2 ^ 32) (seq % 2 ^ 32) marker) := if_neg hup
    rw [heq, State.emit_reg, SndKind.txReg, State.reg_count_counted]

/-- A packet of a sender that sends leg A over a port with link counts; leg B has a counter of its own, or is not sent. -/
theorem State.sendRtp_counts {k : SndKind} {i : Nat} (ha : (s.sndLegs k i (s.sender k i).takeover).1 = true)
    (hb : k = .video ∨ (s.sndLegs k i (s.sender k i).takeover).2 = false) (h : s.linkUp (s.sndPortA k i) = true) (ts seq : Nat)
    (marker : Bool) : (s.sendRtp k i ts seq marker).reg k.txReg i = s.counted k.txReg i 1 := by
  have hlegA := s.sendLeg_legA_counts h ts seq marker
  unfold State.sendRtp
  dsimp only
  rw [if_pos ha]
  split
  next hlegB =>
    obtain rfl : k = .video := hb.resolve_right (by simp [hlegB])
    rw [(State.sendLeg_video_legB_keeps _ i ts seq marker).regs _ _ (by decide), hlegA]
  next => exact hlegA

theorem State.sendRtp_egr (k : SndKind) (i ts seq : Nat) (marker : Bool) : (s.sendRtp k i ts seq marker).egr = s.egr :=
  (State.sendRtp_frame (f := ⟨[.sent], [.EGR_VSND_STAT, .EGR_VSND_TXB, .EGR_VSND_TXA, .EGR_ASND_TX, .EGR_XSND_TX]⟩) (.refl _ s)
    (by decide) (by decide)).parts .egr (by decide)

theorem State.sendRtp_late (k : SndKind) (i ts seq : Nat) (marker : Bool) (j : Nat) :
    (s.sendRtp k i ts seq marker).reg .EGR_VSND_LATE j = s.reg .EGR_VSND_LATE j :=
  (State.sendRtp_frame (f := ⟨[.sent], [.EGR_VSND_STAT, .EGR_VSND_TXB, .EGR_VSND_TXA, .EGR_ASND_TX, .EGR_XSND_TX]⟩) (.refl _ s)
    (by decide) (by decide)).regs _ j (by decide)

/-- The registers that say which legs a sender sends, and over which ports. -/
def legRegs : List Reg :=
  [.NIM_PAIR_CFG, .GLB_CHIP, .NPT_LINK, .EGR_VSND_CFG, .EGR_ASND_CFG, .EGR_XSND_CFG, .EGR_VSND_PORT, .EGR_ASND_PORT, .EGR_XSND_PORT]

section
variable {s} {t : State} (h : ∀ r ∈ legRegs, ∀ i, t.reg r i = s.reg r i)
include h

theorem State.sndLegs_congr (k : SndKind) (i : Nat) (takeover : Bool) : t.sndLegs k i takeover = s.sndLegs k i takeover := by
  have hflag : ∀ (g : Fld) (j : Nat), g.reg ∈ legRegs → t.flag g j = s.flag g j := fun g j hg => by
    rw [State.flag, State.flag, State.fld, State.fld, h _ hg]
  have hmode : t.mirrored = s.mirrored := by rw [State.mirrored, State.mirrored, State.fld, State.fld, h _ (by decide)]
  have hside : t.sideB = s.sideB := hflag _ _ (by decide)
  have hdual : t.sndDual k i = s.sndDual k i := by cases k <;> exact hflag _ _ (by decide)
  rw [State.sndLegs, State.sndLegs, hmode, hside, hdual]

theorem State.linkUp_sndPortA_congr (k : SndKind) (i : Nat) : t.linkUp (t.sndPortA k i) = s.linkUp (s.sndPortA k i) := by
  have hport : t.sndPortA k i = s.sndPortA k i := by
    cases k <;> simp only [State.sndPortA, State.fld] <;> rw [h _ (by decide)]
  rw [State.linkUp, State.linkUp, h _ (by decide), hport]

end

/-! ### The packets of each kind (R211 to R217, R220) -/

section
variable {s}

/-- A sender that runs and is bound, on a part that is not fenced, sends. -/
theorem State.sender_not_silent {k : SndKind} {i : Nat} (hr : (s.sender k i).run = true) (hf : s.fenced = false)
    (hb : s.sndBound k i = true) : ¬ (!(s.sender k i).run || s.fenced || !s.sndBound k i) = true := by
  simp [hr, hf, hb]

/-- All that changes when a packet of a video sender falls due. -/
def dueFoot : Foot := ⟨[.egr, .host, .sent], [.EGR_VSND_LATE, .GLB_INT_SUM, .EGR_INT_STAT]⟩

/-- The state in which a packet of a video sender has left its queue, and counts when it is late. -/
def State.videoDue (s : State) (i : Nat) (late : Bool) : State :=
  let t := if late then (s.count .EGR_VSND_LATE i 1).irq Irq.EGR_SND_LATE else s
  t.setSender .video i { t.sender .video i with queued := (t.sender .video i).queued - 1 }

theorem State.videoDue_keeps (i : Nat) (late : Bool) : Frame dueFoot s (s.videoDue i late) := by
  have hlate : Frame dueFoot s ((s.count .EGR_VSND_LATE i 1).irq Irq.EGR_SND_LATE) :=
    State.irq_frame (State.count_frame (.refl _ s) (by decide)) (by decide) (by decide)
  unfold State.videoDue
  extract_lets t
  have ht : Frame dueFoot s t := .ite hlate (.refl _ s)
  exact State.setSender_frame ht (by decide)

theorem State.videoDue_sender (i : Nat) (late : Bool) :
    (s.videoDue i late).sender .video i = { s.sender .video i with queued := (s.sender .video i).queued - 1 } := by
  rw [State.videoDue, State.setSender_sender]
  split
  · rw [State.sender_congr (State.irq_egr _ _)]
    rfl
  · rfl

theorem State.videoDue_late (i : Nat) : (s.videoDue i true).reg .EGR_VSND_LATE i = s.counted .EGR_VSND_LATE i 1 := by
  rw [State.videoDue, State.setSender_reg, if_pos rfl, State.irq_reg _ _ (by decide), State.reg_count_counted]

/-- A packet of a video sender whose cells are there is sent. -/
theorem exec_videoPacketSend_sends {i : Fin 256} (hr : (s.sender .video i).run = true) (hf : s.fenced = false)
    (hb : s.sndBound .video i = true) (k : Nat) (late : Bool) : ∃ ts seq marker,
      exec (.videoPacketSend i k false late) s = .next ((s.videoDue i late).sendRtp .video i ts seq marker) :=
  ⟨_, _, _, congrArg Host.Outcome.next (if_neg (State.sender_not_silent hr hf hb))⟩

/-- A packet of a SOURCE sender whose cells are missing counts, and is not sent. -/
theorem exec_videoPacketSend_missing {i : Fin 256} (hr : (s.sender .video i).run = true) (hf : s.fenced = false)
    (hb : s.sndBound .video i = true) (hm : s.flag F.EGR_VSND_CFG_MODE i = true) (k : Nat) (late : Bool) :
    exec (.videoPacketSend i k true late) s = .next (s.count .EGR_VSND_MISS i 1) :=
  congrArg Host.Outcome.next ((if_neg (State.sender_not_silent hr hf hb)).trans (if_pos (by simp [hm])))

/-- An audio sender that goes OFF has nothing in its record. -/
theorem State.senderOff_audio (s : State) (i : Nat) : s.senderOff .audio i = s.setSender .audio i default := rfl

/-- The state in which an audio sender knows whether it takes over the partner's leg. -/
def State.audioDue (s : State) (i : Nat) : State :=
  s.setSender .audio i { s.sender .audio i with takeover := s.sndTakeover .audio i && s.mirrored && s.partnerLost }

/-- A packet of an audio sender is sent; a sender that is stopping goes OFF after it. -/
theorem exec_audioPacketSend_sends {i : Fin 1024} (hr : (s.sender .audio i).run = true) (hf : s.fenced = false)
    (hb : s.sndBound .audio i = true) (first : Nat) : ∃ seq, exec (.audioPacketSend i first) s =
      .next (let t := (s.audioDue i).sendRtp .audio i first seq false
        if (s.sender .audio i).stopping then t.senderOff .audio i else t) :=
  ⟨_, congrArg Host.Outcome.next (if_neg (State.sender_not_silent hr hf hb))⟩

theorem exec_ancPacketSend_sends {i : Fin 512} (hr : (s.sender .anc i).run = true) (hf : s.fenced = false)
    (hb : s.sndBound .anc i = true) (field : Nat) (last : Bool) : ∃ ts seq,
      exec (.ancPacketSend i field last) s = .next (s.sendRtp .anc i ts seq last) :=
  ⟨_, _, congrArg Host.Outcome.next (if_neg (State.sender_not_silent hr hf hb))⟩

end

/-! ### The commands -/

theorem exec_videoSenderBind (src : Requester) (i : Fin 256) (w : Word32) (v : TakeView) :
    exec (.videoSenderBind src i w v) s = .next (s.writeVsndCfg src i (w.setWidth 64) v) := rfl
theorem exec_sourceSenderSrc (src : Requester) (i : Fin 256) (w : Word32) (v : TakeView) :
    exec (.sourceSenderSrc src i w v) s = .next (s.writeVsndSrc src i (w.setWidth 64) v) := rfl
theorem exec_audioSenderBind_cfg (src : Requester) (i : Fin 1024) (w : Word32) :
    exec (.audioSenderBind src i false w) s = .next (s.writeAsndCfg src i (w.setWidth 64)) := rfl
theorem exec_audioSenderBind_fmt (src : Requester) (i : Fin 1024) (w : Word32) :
    exec (.audioSenderBind src i true w) s = .next (s.writeAsndFmt src i (w.setWidth 64)) := rfl
theorem exec_ancSenderBind (src : Requester) (i : Fin 512) (w : Word32) :
    exec (.ancSenderBind src i w) s = .next (s.writeXsndCfg src i (w.setWidth 64)) := rfl
theorem exec_senderStop_video (src : Requester) (i : Fin 1024) : exec (.senderStop src .video i) s =
    .next (s.writeVsndCfg src (i % 256) (F.EGR_VSND_CFG_VALID.put 0 (s.reg .EGR_VSND_CFG (i % 256))) default) := rfl
theorem exec_senderStop_audio (src : Requester) (i : Fin 1024) : exec (.senderStop src .audio i) s =
    .next (s.writeAsndCfg src i (F.EGR_ASND_CFG_VALID.put 0 (s.reg .EGR_ASND_CFG i))) := rfl
theorem exec_senderStop_anc (src : Requester) (i : Fin 1024) : exec (.senderStop src .anc i) s =
    .next (s.writeXsndCfg src (i % 512) (F.EGR_XSND_CFG_VALID.put 0 (s.reg .EGR_XSND_CFG (i % 512)))) := rfl

end Sys2Proof.Machine
end

section
/-! Settles O23 from the branches of the senders' registers and from the packets of their legs. -/

open Sys2Proof Sys2Proof.Machine

/-- Settles O23, clause by clause: the bindings of the three kinds, a source's request, the packets of the three kinds and those that
are missing, and VALID cleared. The ancillary binding needs no room on its port (log 48). -/
theorem sendersBoundSentAndStopped : Obligations.SendersBoundSentAndStopped := by
  unfold Obligations.SendersBoundSentAndStopped
  refine ⟨?video, ?source, ?asked, ?audio, ?format, ?anc, ?videoPacket, ?missing, ?audioPacket, ?ancPacket, ?videoStop, ?audioStop,
    ?ancStop⟩
  case video =>
    intro src ix w v word rate s hw ho hv hm hleg hdual hbind hawake hfit hrate hroom
    rw [exec_videoSenderBind, ← hw, State.writeVsndCfg_runs ho hv hm hleg hdual hbind hawake hfit hrate hroom]
    obtain ⟨hreg, hrun, hr, hresp⟩ := s.store_runSender_shows .video (r := .EGR_VSND_CFG) (by decide) ix rate word
    exact .next ⟨hreg, hrun, hr, State.runSender_video_flag _ _ _, hresp⟩
  case source =>
    intro src ix w v word s hw ho hn
    rw [exec_sourceSenderSrc, ← hw, State.writeVsndSrc_stores ho hn]
    exact .next (s.store_shows _ _ _)
  case asked =>
    intro src ix w v word u s hw ho hv hm hn hask
    rw [exec_sourceSenderSrc, ← hw, State.writeVsndSrc_asks ho hv hm hn hask]
    exact .next ⟨u.reg_store_same _ _ _, congrArg Sender.next (u.store_sender _ _ _ _ _), rfl⟩
  case audio =>
    intro src ix w word u rate s hw ho hb hu hv hleg hdual hbind hawake hrate hroom
    rw [exec_audioSenderBind_cfg, ← hw, State.writeAsndCfg, State.guarded_of_open s ho,
      State.setAsnd_runs (k := fun s => s.store .EGR_ASND_CFG ix word) hb hu hv hleg hdual hbind hawake hrate hroom]
    obtain ⟨hreg, hrun, hr, hresp⟩ := u.store_runSender_shows .audio (r := .EGR_ASND_CFG) (by decide) ix rate word
    refine .next ⟨?_, hrun, hr, ?_, hresp⟩
    · rw [hreg, State.stored_congr ((s.reserveOut_keeps hu).regs _ _ (by decide))]
    · rw [(State.runSender_keeps _ _ _ _).fld (by decide), u.fld_store_ne (by decide)]
  case format =>
    intro src ix w word u s hw ho hb hv hu
    rw [exec_audioSenderBind_fmt, ← hw, State.writeAsndFmt, State.guarded_of_open s ho, State.setAsnd_stops hb hu hv]
    obtain ⟨hreg, hresp⟩ := ((u.store .EGR_ASND_FMT ix word).stopSender_keeps .audio ix).store_shows u (by decide) (by decide)
    refine .next ⟨?_, hresp⟩
    rw [hreg, State.stored_congr ((s.reserveOut_keeps hu).regs _ _ (by decide))]
  case anc =>
    intro src ix w word s hw ho hv hleg hdual hbind hawake
    rw [exec_ancSenderBind, ← hw, State.writeXsndCfg_runs ho hv hleg hdual hbind hawake]
    obtain ⟨hreg, hrun, _, hresp⟩ := s.store_runSender_shows .anc (r := .EGR_XSND_CFG) (by decide) ix 0 word
    exact .next ⟨hreg, hrun, hresp⟩
  case videoPacket =>
    intro ix k late s hr hf hb hlegs hup
    obtain ⟨ts, seq, marker, heq⟩ := exec_videoPacketSend_sends hr hf hb k late
    have hkeeps : Frame dueFoot s (s.videoDue ix late) := State.videoDue_keeps ix late
    have hlegRegs : ∀ r ∈ legRegs, r ∉ dueFoot.regs := by decide
    have hregs : ∀ r ∈ legRegs, ∀ i, (s.videoDue ix late).reg r i = s.reg r i := fun r hr i => hkeeps.regs r i (hlegRegs r hr)
    have hsender := s.videoDue_sender ix late
    rw [heq]
    refine .next ⟨?_, ?_, fun hlate => ?_⟩
    · rw [State.sender_congr (State.sendRtp_egr _ _ _ _ _ _), hsender]
    · refine (State.sendRtp_counts _ (k := .video) ?_ (.inl rfl) ?_ ts seq marker).trans ?_
      · rw [State.sndLegs_congr hregs, hsender]
        exact hlegs
      · rw [State.linkUp_sndPortA_congr hregs, hup]
      · exact State.counted_congr (hkeeps.regs _ _ (by decide)) _
    · rw [State.sendRtp_late, hlate, State.videoDue_late]
  case missing =>
    intro ix k late s hr hf hb hm
    rw [exec_videoPacketSend_missing hr hf hb hm]
    exact .next ⟨State.reg_count_counted _ _ _ _, State.count_sent _ _ _ _⟩
  case audioPacket =>
    intro ix first s hr hf hb hlegs hup
    obtain ⟨seq, heq⟩ := exec_audioPacketSend_sends hr hf hb first
    have hregs : ∀ r ∈ legRegs, ∀ i, (s.audioDue ix).reg r i = s.reg r i := fun r _ i => State.setSender_reg _ _ _ _ _ _
    have hdue : (s.audioDue ix).sndLegs .audio ix ((s.audioDue ix).sender .audio ix).takeover = (true, false) := by
      rw [State.sndLegs_congr hregs, State.audioDue, State.setSender_sender]
      exact hlegs
    have hcount := State.sendRtp_counts (s.audioDue ix) (congrArg Prod.fst hdue) (.inr (congrArg Prod.snd hdue))
      ((State.linkUp_sndPortA_congr hregs _ _).trans hup) first seq false
    rw [heq]
    refine .next ?_
    dsimp only
    split
    next =>
      refine ⟨?_, fun _ => ?_⟩
      · rw [State.senderOff_audio, State.setSender_reg]
        exact hcount.trans (State.counted_congr (State.setSender_reg _ _ _ _ _ _) _)
      · rw [State.senderOff_audio, State.setSender_sender]
        rfl
    next hstop => exact ⟨hcount.trans (State.counted_congr (State.setSender_reg _ _ _ _ _ _) _), fun h => absurd h hstop⟩
  case ancPacket =>
    intro ix field last s hr hf hb hlegs hup
    obtain ⟨ts, seq, heq⟩ := exec_ancPacketSend_sends hr hf hb field last
    rw [heq]
    exact .next (s.sendRtp_counts (congrArg Prod.fst hlegs) (.inr (congrArg Prod.snd hlegs)) hup ts seq last)
  case videoStop =>
    intro src ix s ho
    rw [exec_senderStop_video, State.writeVsndCfg_stops ho (Fld.on_put_same _ _ _ (by decide))]
    exact .next (s.clearValid_stopSender_shows .video (g := F.EGR_VSND_CFG_VALID) _ (by decide) (by decide) _)
  case audioStop =>
    intro src ix word u s hw ho hb hu
    have hv : F.EGR_ASND_CFG_VALID.on word = false := hw ▸ Fld.on_put_same _ _ _ (by decide)
    have hsender : u.sender .audio ix = s.sender .audio ix := State.sender_congr ((s.reserveOut_keeps hu).parts .egr (by decide)) _ _
    rw [exec_senderStop_audio, ← hw, State.writeAsndCfg, State.guarded_of_open s ho, State.setAsnd_stops hb hu hv, hw]
    rw [← hsender]
    exact .next (u.clearValid_stopSender_shows .audio (g := F.EGR_ASND_CFG_VALID) _ (by decide) (by decide) _)
  case ancStop =>
    intro src ix s ho
    rw [exec_senderStop_anc, State.writeXsndCfg_stops ho (Fld.on_put_same _ _ _ (by decide))]
    exact .next (s.clearValid_stopSender_shows .anc (g := F.EGR_XSND_CFG_VALID) _ (by decide) (by decide) _)

end

section
/-! SUPPORT of O24: a cause that is set, the entries of the join service and what moves them, and the HEALTH pins. -/

namespace Sys2Proof.Machine

variable (s : State)

/-! ### Causes (R622) -/

/-- A cause that is set reads as set in its block's INT_STAT, whether it was set before or not. -/
theorem State.irq_sets (c : Irq) {st : Reg} (h : c.blk.intStat = some st) (hne : st ≠ .GLB_INT_SUM) (hw : c.bit < st.width) :
    bit c.bit ((s.irq c).reg st 0) = true := by
  unfold State.irq
  rw [h]
  dsimp only
  split
  next hset => exact hset
  next =>
    have hsum : ∀ t : State, ∀ was, (t.refreshSum c.blk was).reg st 0 = t.reg st 0 := fun t was =>
      (State.refreshSum_frame (f := ⟨[.host, .sent], [.GLB_INT_SUM]⟩) (.refl _ t) (by decide) (by decide)).regs _ _ (by simpa using hne)
    have hlt := hw.trans_le st.width_le
    rw [hsum, State.setFld, State.reg_setReg_same, bit, Reg.fit_getLsbD _ _ _ hlt, insertBits_getLsbD _ _ _ _ _ hlt]
    simp [hw]

/-! ### Folds that reach a state -/

/-- A fold over a list with x in it, whose steps keep P or lead to Q, and at x lead from P to Q, ends in Q when Q is kept. -/
theorem foldl_reaches {α : Type} {P Q : State → Prop} {g : State → α → State} {l : List α} {x : α} (hx : x ∈ l)
    (hstep : ∀ t y, P t → P (g t y) ∨ Q (g t y)) (hhit : ∀ t, P t → Q (g t x)) (hkeep : ∀ t y, Q t → Q (g t y)) {t : State}
    (ht : P t) : Q (l.foldl g t) := by
  have hkeeps : ∀ (l : List α) (t : State), Q t → Q (l.foldl g t) := fun l t h =>
    List.foldlRecOn l g h fun t h y _ => hkeep t y h
  induction l generalizing t with
  | nil => cases hx
  | cons y l ih =>
    rw [List.foldl_cons]
    rcases List.mem_cons.mp hx with rfl | hl
    · exact hkeeps l _ (hhit t ht)
    · rcases hstep t y ht with hp | hq
      · exact ih hl hp
      · exact hkeeps l _ hq

/-! ### The entries of the join service (R221, R222, Table 05.6) -/

theorem State.join_setJoin_ne {i j : Nat} (h : j ≠ i) (x : Join) : (s.setJoin i x).join j = s.join j :=
  Tbl.get_set_other _ _ _ _ _ h

theorem State.report_keeps (j : Nat) (leave older : Bool) : Frame ⟨[.sent], [.EGR_JOIN_REP]⟩ s (s.report j leave older) :=
  State.report_frame (.refl _ s) (by decide) (by decide)

theorem State.report_counts (j : Nat) (leave older : Bool) :
    (s.report j leave older).reg .EGR_JOIN_REP j = s.counted .EGR_JOIN_REP j 1 := by
  rw [State.report, State.emit_reg, State.reg_count_counted]

/-- All that a change of an entry's state with a report may change. -/
def joinFoot : Foot := ⟨[.egr, .sent], [.EGR_JOIN_REP, .EGR_JOIN_STAT]⟩

theorem State.changeReport_keeps (j st : Nat) (leave : Bool) : Frame joinFoot s (s.changeReport j st leave) :=
  State.changeReport_frame (.refl _ s) (by decide) (by decide)

theorem State.leaveJoin_keeps (j : Nat) : Frame joinFoot s (s.leaveJoin j) :=
  State.leaveJoin_frame (.refl _ s) (by decide) (by decide)

/-- The state field of an entry that is set reads as set. -/
theorem State.joinState_setFld {st : Nat} (h : st < 8) (j : Nat) : (s.setFld F.EGR_JOIN_STAT_STATE j st).joinState j = st := by
  rw [State.joinState, State.fld_setFld_same _ _ _ _ (by decide)]
  exact Nat.mod_eq_of_lt h

theorem State.joinState_setFld_ne {i j : Nat} (h : j ≠ i) (st : Nat) :
    (s.setFld F.EGR_JOIN_STAT_STATE i st).joinState j = s.joinState j :=
  State.fld_setFld_other s st (.inr h)

/-- An entry whose state changes with a report or a leave reads so. -/
theorem State.changeReport_shows {st : Nat} (h : st < 8) (j : Nat) (leave : Bool) :
    (s.changeReport j st leave).joinState j = st ∧ ((s.changeReport j st leave).join j).leaving = leave := by
  unfold State.changeReport
  extract_lets t
  exact ⟨State.joinState_setFld _ h j, congrArg Join.leaving (t.setJoin_join _ _)⟩

/-- The other entries read as before. -/
theorem State.changeReport_joinState_ne {i j : Nat} (h : j ≠ i) (st : Nat) (leave : Bool) :
    (s.changeReport i st leave).joinState j = s.joinState j := by
  unfold State.changeReport
  extract_lets t
  exact (State.joinState_setFld_ne _ h st).trans ((s.report_keeps _ _ _).fld (by decide) j)

/-- An entry that leaves its group is idle, with a leave or because another entry holds the group. -/
theorem State.leaveJoin_idle (j : Nat) : (s.leaveJoin j).joinState j = joinIdle := by
  unfold State.leaveJoin
  split
  next h => exact h
  next =>
    split
    · exact s.joinState_setFld (by decide) j
    · exact (s.changeReport_shows (by decide) j true).1

section
variable {s} {src : Requester} {j : Nat} {v : Word} (ho : s.closedTo .EGR_JOIN_ENT src = false)
include ho

/-- An entry with a valid flow on a port that exists and is awake leaves what it held, and joins. -/
theorem State.writeJoin_joins (hv : F.EGR_JOIN_ENT_VALID.on v = true) (hdir : dirValid (s.dirEntry (F.EGR_JOIN_ENT_FLOW.of v)) = true)
    (hport : s.flag F.NPT_PORT_STAT_EXISTS (F.EGR_JOIN_ENT_PORT.of v) = true) (hwake : s.wakeOnly (F.EGR_JOIN_ENT_PORT.of v) = false)
    (hnew : v ≠ s.reg .EGR_JOIN_ENT j) :
    s.writeJoin src j v = ((s.leaveJoin j).store .EGR_JOIN_ENT j v).changeReport j joinJoining false := by
  rw [State.writeJoin, State.guarded_of_open s ho, if_neg (by simp [hv]), if_neg (by simp [hdir, hport]), if_neg (by simp [hwake]),
    if_neg (by simpa using hnew)]

theorem State.writeJoin_leaves (hv : F.EGR_JOIN_ENT_VALID.on v = false) :
    s.writeJoin src j v = (s.leaveJoin j).store .EGR_JOIN_ENT j v := by
  rw [State.writeJoin, State.guarded_of_open s ho, if_pos (by simp [hv])]

end

/-- The fields of the word that JOIN_ENTRY_SET writes. -/
theorem joinWord_reads (port : Fin 32) (flow : BitVec 19) :
    F.EGR_JOIN_ENT_VALID.on (BitVec.ofNat 64 (2 ^ 31 + port.val * 2 ^ 21 + flow.toNat)) = true ∧
      F.EGR_JOIN_ENT_PORT.of (BitVec.ofNat 64 (2 ^ 31 + port.val * 2 ^ 21 + flow.toNat)) = port.val ∧
      F.EGR_JOIN_ENT_FLOW.of (BitVec.ofNat 64 (2 ^ 31 + port.val * 2 ^ 21 + flow.toNat)) = flow.toNat := by
  have hport := port.isLt
  have hflow := flow.isLt
  simp only [Fld.on, Fld.of, bits_eq, BitVec.toNat_ofNat, bne_iff_ne]
  omega

/-- From s to t entry j of the join service stays as it is: its registers, and the directory. -/
structure State.KeepsEntry (s t : State) (j : Nat) : Prop where
  ent : t.reg .EGR_JOIN_ENT j = s.reg .EGR_JOIN_ENT j
  state : t.joinState j = s.joinState j
  dir : t.dir = s.dir

section
variable {s} {j : Nat}

theorem State.KeepsEntry.refl (s : State) (j : Nat) : s.KeepsEntry s j := ⟨rfl, rfl, rfl⟩

theorem State.KeepsEntry.trans {t u : State} (h : s.KeepsEntry t j) (k : t.KeepsEntry u j) : s.KeepsEntry u j :=
  ⟨k.ent.trans h.ent, k.state.trans h.state, k.dir.trans h.dir⟩

variable {t : State} (h : s.KeepsEntry t j)
include h

theorem State.KeepsEntry.port : t.fld F.EGR_JOIN_ENT_PORT j = s.fld F.EGR_JOIN_ENT_PORT j := by
  rw [State.fld, State.fld, h.ent]

theorem State.KeepsEntry.live : t.joinLive j = s.joinLive j := by
  rw [State.joinLive, State.joinLive, h.state]

theorem State.KeepsEntry.ssm : t.isSsm (t.fld F.EGR_JOIN_ENT_FLOW j) = s.isSsm (s.fld F.EGR_JOIN_ENT_FLOW j) := by
  rw [State.isSsm, State.isSsm, State.dirEntry, State.dirEntry, State.fld, State.fld, h.ent, h.dir]

end

theorem State.setJoin_keepsEntry (i : Nat) (x : Join) (j : Nat) : s.KeepsEntry (s.setJoin i x) j := ⟨rfl, rfl, rfl⟩

/-- A report with a change of state at entry i keeps every other entry. -/
theorem State.changeReport_keepsEntry {i j : Nat} (h : j ≠ i) (st : Nat) (leave : Bool) :
    s.KeepsEntry (s.changeReport i st leave) j :=
  ⟨(s.changeReport_keeps i st leave).regs _ _ (by decide), s.changeReport_joinState_ne h st leave,
    (s.changeReport_keeps i st leave).parts .dir (by decide)⟩

/-- The state in which an entry reports its group in the older version and is DEGRADED (R222). -/
def State.degradeJoin (s : State) (j : Nat) : State :=
  (((s.report j false true).setFld F.EGR_JOIN_STAT_STATE j joinDegraded).irq Irq.EGR_JOIN_FAIL).awlState .EGR .warning joinDegraded j 0

/-- The cause and the Awl record of a degraded entry leave the states of the entries alone. -/
theorem State.degradeJoin_joinState (i j : Nat) : (s.degradeJoin i).joinState j =
    ((s.report i false true).setFld F.EGR_JOIN_STAT_STATE i joinDegraded).joinState j := by
  rw [State.degradeJoin, State.joinState, (State.awlState_keeps _ _ _ _ _ _).fld (by decide), State.irq_fld _ _ (by decide)]
  rfl

theorem State.degradeJoin_degraded (j : Nat) : (s.degradeJoin j).joinState j = joinDegraded := by
  rw [State.degradeJoin_joinState, State.joinState_setFld _ (by decide)]

/-- An entry that is degraded keeps every other entry. -/
theorem State.degradeJoin_keepsEntry {i j : Nat} (h : j ≠ i) : s.KeepsEntry (s.degradeJoin i) j := by
  have hreport := s.report_keeps i false true
  refine ⟨?_, ?_, ?_⟩
  · rw [State.degradeJoin, State.awlState_reg _ _ _ _ _ _ (by decide), State.irq_reg _ _ (by decide), State.reg_setFld_ne _ (by decide),
      hreport.regs _ _ (by decide)]
  · rw [State.degradeJoin_joinState, State.joinState_setFld_ne _ h]
    exact hreport.fld (by decide) j
  · rw [State.degradeJoin, State.awlState_dir, State.irq_dir, State.setFld_dir]
    exact hreport.parts .dir (by decide)

section
variable {s} {j : Nat} (hj : s.egr.joins.any (fun e => e.1 == j) = true) (port : Fin 32)
include hj

/-- An entry that the join service lists. -/
theorem State.joins_mem : ∃ x : Join, (j, x) ∈ s.egr.joins := by
  obtain ⟨⟨i, x⟩, hmem, hi⟩ := List.any_eq_true.mp hj
  obtain rfl : i = j := by simpa using hi
  exact ⟨x, hmem⟩

/-- A general query on a live entry's port has it report (R222). -/
theorem exec_joinQueryReceive_queries (hport : s.fld F.EGR_JOIN_ENT_PORT j = port) (hlive : s.joinLive j = true) :
    ∃ t, exec (.joinQueryReceive port none) s = .next t ∧ (t.join j).queried = true := by
  obtain ⟨x, hx⟩ := State.joins_mem hj
  refine ⟨_, rfl, foldl_reaches (P := fun t => s.KeepsEntry t j) (Q := fun t => (t.join j).queried = true) hx ?_ ?_ ?_ (.refl s j)⟩
  · intro t e ht
    refine .inl ?_
    dsimp only
    split
    · exact ht.trans (t.setJoin_keepsEntry _ _ _)
    · exact ht
  · intro t ht
    dsimp only
    rw [if_pos ⟨ht.port.trans hport, ht.live.trans hlive, rfl⟩, State.setJoin_join]
  · intro t e ht
    dsimp only
    split
    · by_cases he : j = e.1
      · rw [he, State.setJoin_join]
      · rw [State.join_setJoin_ne _ he, ht]
    · exact ht

/-- An older querier on the port of a live SSM entry degrades it (R222). -/
theorem exec_joinOldQuerier_degrades (hport : s.fld F.EGR_JOIN_ENT_PORT j = port) (hlive : s.joinLive j = true)
    (hssm : s.isSsm (s.fld F.EGR_JOIN_ENT_FLOW j) = true) :
    ∃ t, exec (.joinOldQuerier port) s = .next t ∧ t.joinState j = joinDegraded := by
  obtain ⟨x, hx⟩ := State.joins_mem hj
  have hexec : exec (.joinOldQuerier port) s = .next (s.egr.joins.foldl (fun (t : State) e =>
      if t.fld F.EGR_JOIN_ENT_PORT e.1 = port ∧ t.joinLive e.1 = true ∧ t.isSsm (t.fld F.EGR_JOIN_ENT_FLOW e.1) = true then
        t.degradeJoin e.1 else t) s) := rfl
  refine ⟨_, hexec, foldl_reaches (P := fun t => s.KeepsEntry t j) (Q := fun t => t.joinState j = joinDegraded) hx ?_ ?_ ?_
    (.refl s j)⟩
  · intro t e ht
    split
    · by_cases he : j = e.1
      · exact .inr (by rw [he, State.degradeJoin_degraded])
      · exact .inl (ht.trans (t.degradeJoin_keepsEntry he))
    · exact .inl ht
  · intro t ht
    rw [if_pos ⟨ht.port.trans hport, ht.live.trans hlive, ht.ssm.trans hssm⟩, State.degradeJoin_degraded]
  · intro t e ht
    split
    · by_cases he : j = e.1
      · rw [he, State.degradeJoin_degraded]
      · exact (t.degradeJoin_keepsEntry he).state.trans ht
    · exact ht

/-- A degraded entry joins again when no older querier is present on its port any more (R222). -/
theorem exec_joinOldQuerierTimeout_joins (hport : s.fld F.EGR_JOIN_ENT_PORT j = port) (hstate : s.joinState j = joinDegraded) :
    ∃ t, exec (.joinOldQuerierTimeout port) s = .next t ∧ t.joinState j = joinJoining := by
  obtain ⟨x, hx⟩ := State.joins_mem hj
  refine ⟨_, rfl, foldl_reaches (P := fun t => s.KeepsEntry t j) (Q := fun t => t.joinState j = joinJoining) hx ?_ ?_ ?_ (.refl s j)⟩
  · intro t e ht
    split
    · by_cases he : j = e.1
      · exact .inr (by rw [he, (t.changeReport_shows (by decide) e.1 false).1])
      · exact .inl (ht.trans (t.changeReport_keepsEntry he _ _))
    · exact .inl ht
  · intro t ht
    rw [if_pos ⟨ht.port.trans hport, ht.state.trans hstate⟩]
    exact (t.changeReport_shows (by decide) j false).1
  · intro t e ht
    split
    · by_cases he : j = e.1
      · rw [he, (t.changeReport_shows (by decide) e.1 false).1]
      · exact (t.changeReport_joinState_ne he _ _).trans ht
    · exact ht

end

/-! ### The HEALTH pins (R223 to R225) -/

/-- EGR_HEALTH_STAT shows the levels that are driven. -/
theorem State.setHealth_shows (a b : Bool) : (s.setHealth a b).flag F.EGR_HEALTH_STAT_HEALTH_A 0 = a ∧
    (s.setHealth a b).flag F.EGR_HEALTH_STAT_HEALTH_B 0 = b := by
  unfold State.setHealth
  extract_lets changed e s1 s2 s3
  have hA : s3.flag F.EGR_HEALTH_STAT_HEALTH_A 0 = a := by
    rw [State.flag_setFld_disjoint (f := F.EGR_HEALTH_STAT_FAIL_B) (g := F.EGR_HEALTH_STAT_HEALTH_A) _ 0 _ rfl (by decide) (by decide),
      State.flag_setFld_disjoint (f := F.EGR_HEALTH_STAT_FAIL_A) (g := F.EGR_HEALTH_STAT_HEALTH_A) _ 0 _ rfl (by decide) (by decide),
      State.flag_setFlag_disjoint (f := F.EGR_HEALTH_STAT_HEALTH_B) (g := F.EGR_HEALTH_STAT_HEALTH_A) _ 0 _ rfl (by decide) (by decide),
      State.flag_setFlag_same _ _ _ _ (by decide) rfl]
  have hB : s3.flag F.EGR_HEALTH_STAT_HEALTH_B 0 = b := by
    rw [State.flag_setFld_disjoint (f := F.EGR_HEALTH_STAT_FAIL_B) (g := F.EGR_HEALTH_STAT_HEALTH_B) _ 0 _ rfl (by decide) (by decide),
      State.flag_setFld_disjoint (f := F.EGR_HEALTH_STAT_FAIL_A) (g := F.EGR_HEALTH_STAT_HEALTH_B) _ 0 _ rfl (by decide) (by decide),
      State.flag_setFlag_same _ _ _ _ (by decide) rfl]
  split
  · rw [State.irq_flag _ _ (by decide), State.irq_flag _ _ (by decide)]
    exact ⟨hA, hB⟩
  · exact ⟨hA, hB⟩

/-- A pin whose conditions have held rises; the other stays as it is. -/
theorem exec_healthRiseTimer_rises {pinB : Bool} (h : s.healthFail pinB = 0) :
    exec (.healthRiseTimer pinB) s = .next (s.setHealth (s.egr.healthA || !pinB) (s.egr.healthB || pinB)) :=
  congrArg Host.Outcome.next (if_pos h)

/-- Planned releases of an enabled domain are stored, and that of pin A waits for the switch point unless it was asked for before. -/
theorem State.writeHealthCtrl_waits {src : Requester} {v : Word} (ho : s.closedTo .EGR_HEALTH_CTRL src = false)
    (hd : s.otdEnabled (s.fld F.EGR_HEALTH_CFG_RELEASE_OTD 0) = true) (hv : F.EGR_HEALTH_CTRL_RELEASE_A.on v = true)
    (hold : s.flag F.EGR_HEALTH_CTRL_RELEASE_A 0 = false) : ∃ e : Egr, e.waitA = true ∧
      s.writeHealthCtrl src v = (({ s with egr := e } : State).store .EGR_HEALTH_CTRL 0 v).health := by
  rw [State.writeHealthCtrl, State.guarded_of_open s ho]
  dsimp only
  rw [if_neg (by simp [hd])]
  exact ⟨_, by simp [hv, hold], rfl⟩

/-! ### The commands -/

theorem exec_joinEntrySet (src : Requester) (j : Fin 4096) (port : Fin 32) (flow : BitVec 19) : exec (.joinEntrySet src j port flow) s =
    .next (s.writeJoin src j (BitVec.ofNat 64 (2 ^ 31 + port.val * 2 ^ 21 + flow.toNat))) := rfl
theorem exec_joinEntryClear (src : Requester) (j : Fin 4096) :
    exec (.joinEntryClear src j) s = .next (s.writeJoin src j (F.EGR_JOIN_ENT_VALID.put 0 (s.reg .EGR_JOIN_ENT j))) := rfl
theorem exec_healthReleaseWrite (src : Requester) (a b : Bool) : exec (.healthReleaseWrite src a b) s =
    .next (s.writeHealthCtrl src (F.EGR_HEALTH_CTRL_RELEASE_A.put (if a then 1 else 0)
      (F.EGR_HEALTH_CTRL_RELEASE_B.put (if b then 1 else 0) 0))) := rfl

theorem exec_joinRepeatTimer_repeats {j : Fin 4096} (h : (s.join j).repeats ≠ 0) : exec (.joinRepeatTimer j) s =
    .next ((s.report j (s.join j).leaving (s.joinState j == joinDegraded)).setJoin j
      { s.join j with repeats := (s.join j).repeats - 1 }) :=
  congrArg Host.Outcome.next (if_neg h)

theorem exec_joinStallTimeout_stalls {j : Fin 4096} (h : s.joinState j = joinReceiving) : exec (.joinStallTimeout j) s =
    .next (((s.setFld F.EGR_JOIN_STAT_STATE j joinStalled).irq Irq.EGR_JOIN_FAIL).awlState .EGR .error joinStalled j 0) :=
  congrArg Host.Outcome.next (if_pos h)

theorem exec_joinQueryReport_reports {j : Fin 4096} (h : (s.join j).queried = true) : exec (.joinQueryReport j) s =
    .next ((s.report j false false).setJoin j { s.join j with queried := false }) :=
  congrArg Host.Outcome.next (if_pos h)

end Sys2Proof.Machine
end

section
/-! Settles O24 from what moves the entries of the join service and from the levels of the HEALTH pins. -/

open Sys2Proof Sys2Proof.Machine

/-- Settles O24, clause by clause: an entry set and cleared, its repeats, its stall, its queries, older queriers, a pin that rises and
a planned release. -/
theorem joinsAndHealthFollowTheirRules : Obligations.JoinsAndHealthFollowTheirRules := by
  unfold Obligations.JoinsAndHealthFollowTheirRules
  refine ⟨?set, ?cleared, ?repeated, ?stalled, ?queried, ?reported, ?degraded, ?rejoined, ?rises, ?released⟩
  case set =>
    intro src j port flow word s hw ho hdir hport hwake hnew
    obtain ⟨hv, hp, hf⟩ := joinWord_reads port flow
    rw [← hw] at hv hp hf
    rw [exec_joinEntrySet, ← hw, State.writeJoin_joins ho hv (hf ▸ hdir) (hp ▸ hport) (hp ▸ hwake) hnew]
    have hkeeps := ((s.leaveJoin j).store .EGR_JOIN_ENT j word).changeReport_keeps j joinJoining false
    obtain ⟨hstate, hleaving⟩ :=
      ((s.leaveJoin j).store .EGR_JOIN_ENT j word).changeReport_shows (st := joinJoining) (by decide) j false
    obtain ⟨hreg, hresp⟩ := hkeeps.store_shows (s.leaveJoin j) (by decide) (by decide)
    refine .next ⟨?_, hstate, hleaving, hresp⟩
    rw [hreg, State.stored_congr ((s.leaveJoin_keeps j).regs _ _ (by decide))]
  case cleared =>
    intro src j s ho
    rw [exec_joinEntryClear, State.writeJoin_leaves ho (Fld.on_put_same _ _ _ (by decide))]
    refine .next ⟨?_, ?_, State.store_resp _ _ _ _⟩
    · rw [State.joinState, State.fld_store_ne _ (by decide), ← State.joinState, State.leaveJoin_idle]
    · rw [State.flag, State.fld_store_same _ (g := F.EGR_JOIN_ENT_VALID) _ _ (by decide) (by decide), Fld.of_put_same _ _ _ (by decide)]
      rfl
  case repeated =>
    intro j s h
    rw [exec_joinRepeatTimer_repeats s h]
    exact .next ⟨congrArg Join.repeats (State.setJoin_join _ _ _), (State.setJoin_reg _ _ _ _ _).trans (s.report_counts _ _ _)⟩
  case stalled =>
    intro j s h
    rw [exec_joinStallTimeout_stalls s h]
    refine .next ⟨?_, ?_⟩
    · rw [State.joinState, (State.awlState_keeps _ _ _ _ _ _).fld (by decide), State.irq_fld _ _ (by decide), ← State.joinState,
        State.joinState_setFld _ (by decide)]
    · rw [State.awlState_reg _ _ _ _ _ _ (by decide)]
      exact State.irq_sets _ Irq.EGR_JOIN_FAIL rfl (by decide) (by decide)
  case queried =>
    intro port j s hj hport hlive
    exact exec_joinQueryReceive_queries hj port hport hlive
  case reported =>
    intro j s h
    rw [exec_joinQueryReport_reports s h]
    exact .next ⟨congrArg Join.queried (State.setJoin_join _ _ _), (State.setJoin_reg _ _ _ _ _).trans (s.report_counts _ _ _)⟩
  case degraded =>
    intro port j s hj hport hlive hssm
    exact exec_joinOldQuerier_degrades hj port hport hlive hssm
  case rejoined =>
    intro port j s hj hport hstate
    exact exec_joinOldQuerierTimeout_joins hj port hport hstate
  case rises =>
    intro pinB s h
    rw [exec_healthRiseTimer_rises s h]
    obtain ⟨hA, hB⟩ := s.setHealth_shows (s.egr.healthA || !pinB) (s.egr.healthB || pinB)
    refine .next ?_
    rw [State.setHealth_egr]
    cases pinB with
    | false => exact ⟨Bool.or_true _, hA.trans (Bool.or_true _)⟩
    | true => exact ⟨Bool.or_true _, hB.trans (Bool.or_true _)⟩
  case released =>
    intro src releaseB s ho hd hold
    have hv : ∀ w, F.EGR_HEALTH_CTRL_RELEASE_A.on (F.EGR_HEALTH_CTRL_RELEASE_A.put 1 w) = true := fun w =>
      Fld.on_put_same _ _ _ (by decide)
    obtain ⟨e, hwait, heq⟩ := s.writeHealthCtrl_waits ho hd (hv _) hold
    rw [exec_healthReleaseWrite, if_pos rfl, heq]
    refine .next ⟨?_, ?_, ?_⟩
    · rw [State.health, State.setHealth_egr]
      exact hwait
    · rw [(State.health_keeps _).flag (by decide), State.flag,
        State.fld_store_same _ (g := F.EGR_HEALTH_CTRL_RELEASE_A) _ _ (by decide) (by decide)]
      exact hv _
    · exact (State.health_keeps _).parts .resp (by decide)

end

section
/-! SUPPORT of O26 and O27: a state beside each that the model runs to an outcome which the statement excludes. -/

namespace Sys2Proof.Machine

/-! ### A queue whose SIZE is past the width of its indices (R246, R282) -/

/-- A fenced part whose queue 3 has SIZE 13, beyond the 4 to 12 that a write of NIM_Q_CFG admits, and its head at 4,095, the last
index that the 12 bits of NIM_SQ_HEAD.INDEX hold. -/
def oversizedQueue : State :=
  [(F.NIM_Q_CFG_EN, 3, 1), (F.NIM_Q_CFG_SIZE, 3, 13), (F.NIM_SQ_HEAD_INDEX, 3, 4095), (F.BOOT_STAGE_STAGE, 0, stageReady),
    (F.RSL_STATUS_FENCED, 0, 1)].foldl (fun s e => s.setFld e.1 e.2.1 e.2.2) State.reset

theorem oversizedQueue_ready : oversizedQueue.queueReady (3 : Fin 64) = true := by decide

theorem oversizedQueue_fenced : oversizedQueue.fenced = true := by decide

/-- The entry after index 4,095 of a ring of 8,192. -/
theorem oversizedQueue_next : 
    (oversizedQueue.fld F.NIM_SQ_HEAD_INDEX (3 : Fin 64) + 1) % oversizedQueue.qSize (3 : Fin 64) = 4096 := by decide

/-- A queue that is ready takes the entry at its head (R251). -/
theorem exec_submissionAccept_ready {s : State} {q : Fin 64} (h : s.queueReady q = true) (e : Sqe) :
    exec (.submissionAccept q e) s = .next ((s.takeSqe q e).showQueue q) :=
  congrArg Host.Outcome.next (if_pos h)

/-- The head wraps to 0, where index 4,096 does not fit its field. -/
theorem oversizedQueue_head_wraps :
    ((oversizedQueue.takeSqe (3 : Fin 64) default).showQueue (3 : Fin 64)).fld F.NIM_SQ_HEAD_INDEX (3 : Fin 64) = 0 := by decide

/-! ### A journal that falls below LOW, with its interrupt enabled (R260, R262, R622) -/

/-- A MIRRORED part with an empty journal, which any entry takes below its threshold LOW, and whose cause JRN_LOW sends vector 0. -/
def lowWatchedJournal : State :=
  let s := [(F.NIM_CTRL_EN, 0, 1), (F.NIM_PAIR_CFG_MODE, 0, 1), (F.NIM_PAIR_CFG_PARTNER, 0, 1),
    (F.NIM_JRN_CFG_LOW, 0, 16383), (⟨.NIM_INT_EN, Irq.NIM_JRN_LOW.bit, 1⟩, 0, 1), (F.GLB_INT_VEC_EN, Blk.NIM.index, 1)].foldl
      (fun s e => s.setFld e.1 e.2.1 e.2.2) State.reset
  s.setMask 0 false

/-- An entry that the partner, part 1, accepted on its queue 0 with a body of 8 bytes: it takes four slots. -/
def partnerEntry : JEntry := { (default : JEntry) with key := ⟨1, 1, 0⟩, mirrored := true, len := 8 }

theorem lowWatchedJournal_lacks_partnerEntry : lowWatchedJournal.entry partnerEntry.key = none := by decide

theorem lowWatchedJournal_not_fenced : lowWatchedJournal.fenced = false := by decide

theorem lowWatchedJournal_enabled : lowWatchedJournal.flag F.NIM_CTRL_EN 0 = true := by decide

theorem lowWatchedJournal_has_room : (lowWatchedJournal.freeRun partnerEntry.slots).isSome = true := by decide

/-- An entry of the partner that passes checks 1, 2 and 6 is copied before it is answered OK (R262). -/
theorem exec_journalMirrorReceive_new {s : State} {e : JEntry} (hnew : s.entry e.key = none) (hf : s.fenced = false)
    (he : s.flag F.NIM_CTRL_EN 0 = true) (hroom : (s.freeRun e.slots).isSome = true) : exec (.journalMirrorReceive e) s =
      .next ((s.copyEntry { e with phase := .accepted, sigs := [] } false).emit (.mirrorReply e.key .OK)) := by
  have hroom' : (s.freeRun e.slots).isNone = false := by simpa using hroom
  have hexec : exec (.journalMirrorReceive e) s = execJournalMirrorReceive e s := rfl
  rw [hexec, execJournalMirrorReceive, hnew, hf, he, hroom']
  rfl

/-- With the copy the free slots fall below LOW, and the message of vector 0 leaves the part. -/
theorem lowWatchedJournal_copy_sends_vector :
    (lowWatchedJournal.copyEntry { partnerEntry with phase := .accepted, sigs := [] } false).sent =
      .msix 0 :: lowWatchedJournal.sent := by decide

end Sys2Proof.Machine
end

section
/-! Refutes O26 and O27 from the states above. -/

open Sys2Proof Sys2Proof.Machine

/-- Refutes O26: no clause bounds NIM_Q_CFG.SIZE by its range of 4 to 12. A fenced part takes the entry of a queue with SIZE 13
and its head at 4,095; the statement asks for head 4,096, and the 12 bits of INDEX read 0. -/
theorem not_queuesTakeOrdersIntoTheJournal : ¬ Obligations.QueuesTakeOrdersIntoTheJournal := by
  unfold Obligations.QueuesTakeOrdersIntoTheJournal
  rintro ⟨-, -, hfenced, -⟩
  obtain ⟨t, hrun, hhead, -⟩ := hfenced 3 default oversizedQueue oversizedQueue_ready oversizedQueue_fenced
  rw [exec_submissionAccept_ready oversizedQueue_ready] at hrun
  obtain rfl := Host.Outcome.next.inj hrun
  exact absurd (oversizedQueue_head_wraps.symm.trans (hhead.trans oversizedQueue_next)) (by decide)

/-- Refutes O27 in its second clause: the copy of the partner's entry can raise NIM_INT_STAT.JRN_LOW (R260), whose MSI-X message
(R622) leaves the part before the reply, where the statement lets only the reply leave. -/
theorem not_journalMirroredRunAndFreed : ¬ Obligations.JournalMirroredRunAndFreed := by
  unfold Obligations.JournalMirroredRunAndFreed
  rintro ⟨-, hcopied, -⟩
  obtain ⟨t, hrun, -, hsent⟩ := hcopied partnerEntry lowWatchedJournal lowWatchedJournal_lacks_partnerEntry
    lowWatchedJournal_not_fenced lowWatchedJournal_enabled lowWatchedJournal_has_room
  rw [exec_journalMirrorReceive_new lowWatchedJournal_lacks_partnerEntry lowWatchedJournal_not_fenced lowWatchedJournal_enabled
    lowWatchedJournal_has_room] at hrun
  obtain rfl := Host.Outcome.next.inj hrun
  rw [State.emit_sent, lowWatchedJournal_copy_sends_vector] at hsent
  exact List.cons_ne_self _ _ (List.cons.inj hsent).2

end

section
/-! SUPPORT of O30 to O32 and O34: the effect of an instruction that issues, and that of an integer instruction, which completes
with its value in its register. -/

namespace Sys2Proof.Machine

/-- An instruction that issues has its effect, where that is no trap. -/
theorem State.onCore_effect {s t : State} {a : NimAt} {undef : Bool} {i : NimCtx → Issue} {x : Nat}
    {k : Nat → NimCtx → Except Trap State} (h : s.issues a (i (s.ctx x)) x) (hu : undef = false) (hk : k x (s.ctx x) = .ok t) :
    s.onCore a undef i k = t := by
  rw [State.onCore_issues k h hu, hk]

/-- An integer instruction over any registers it reads (R289). -/
theorem State.alu_completes {s : State} {a : NimAt} {undef : Bool} {reads : List Nat} {rd lat x : Nat} (f : NimCtx → Word)
    (h : s.issues a ⟨some false, reads, 1⟩ x) (hu : undef = false) :
    Completes (fun t => s.writesReg t x rd (f (s.ctx x))) (.next (s.alu a undef reads rd lat f)) :=
  .next (State.alu_issues f h hu)

/-- An integer instruction of two operands. -/
theorem State.alu2_completes {s : State} {a : NimAt} {rd ra rb : Fin 32} {lat x : Nat}
    (h : s.issues a ⟨some false, [ra.val, rb.val], 1⟩ x) (f : Word → Word → Word) :
    Completes (fun t => s.writesReg t x rd (f ((s.ctx x).reg ra) ((s.ctx x).reg rb))) (.next (s.alu2 a rd ra rb lat f)) :=
  State.alu_completes (fun c => f (c.reg ra) (c.reg rb)) h rfl

/-- An integer instruction of one operand. -/
theorem State.alu1_completes {s : State} {a : NimAt} {undef : Bool} {rd ra : Fin 32} {x : Nat}
    (h : s.issues a ⟨some false, [ra.val], 1⟩ x) (hu : undef = false) (f : Word → Word) :
    Completes (fun t => s.writesReg t x rd (f ((s.ctx x).reg ra))) (.next (s.alu1 a undef rd ra f)) :=
  State.alu_completes (fun c => f (c.reg ra)) h hu

end Sys2Proof.Machine
end

section
/-! Settles O31 and O32: each instruction is the shared one with its operation. -/

open Sys2Proof Sys2Proof.Machine

/-- Settles O31, instruction by instruction of Table 07.3. -/
theorem twoOperandInstructionsCompute : Obligations.TwoOperandInstructionsCompute := by
  unfold Obligations.TwoOperandInstructionsCompute
  refine ⟨?add, ?sub, ?and, ?or, ?xor, ?sll, ?srl, ?sra, ?mul, ?mulhu, ?divu, ?remu, ?minu, ?maxu, ?min, ?max⟩
  case add => exact fun _ _ _ _ _ _ h => State.alu2_completes h fun v w => v + w
  case sub => exact fun _ _ _ _ _ _ h => State.alu2_completes h fun v w => v - w
  case and => exact fun _ _ _ _ _ _ h => State.alu2_completes h fun v w => v &&& w
  case or => exact fun _ _ _ _ _ _ h => State.alu2_completes h fun v w => v ||| w
  case xor => exact fun _ _ _ _ _ _ h => State.alu2_completes h fun v w => v ^^^ w
  case sll => exact fun _ _ _ _ _ _ h => State.alu2_completes h fun v w => v <<< shamt w
  case srl => exact fun _ _ _ _ _ _ h => State.alu2_completes h fun v w => v >>> shamt w
  case sra => exact fun _ _ _ _ _ _ h => State.alu2_completes h fun v w => v.sshiftRight (shamt w)
  case mul => exact fun _ _ _ _ _ _ h => State.alu2_completes h fun v w => v * w
  case mulhu =>
    exact fun _ _ _ _ _ _ h => State.alu2_completes h fun v w => BitVec.ofNat 64 (v.toNat * w.toNat / 2 ^ 64)
  case divu =>
    exact fun _ _ _ _ _ _ h => State.alu2_completes h fun v w =>
      if w = 0 then BitVec.allOnes 64 else BitVec.ofNat 64 (v.toNat / w.toNat)
  case remu =>
    exact fun _ _ _ _ _ _ h => State.alu2_completes h fun v w => if w = 0 then v else BitVec.ofNat 64 (v.toNat % w.toNat)
  case minu => exact fun _ _ _ _ _ _ h => State.alu2_completes h fun v w => if v.ult w then v else w
  case maxu => exact fun _ _ _ _ _ _ h => State.alu2_completes h fun v w => if v.ult w then w else v
  case min => exact fun _ _ _ _ _ _ h => State.alu2_completes h fun v w => if v.slt w then v else w
  case max => exact fun _ _ _ _ _ _ h => State.alu2_completes h fun v w => if v.slt w then w else v

/-- Settles O32, instruction by instruction of Table 07.3. A shift by 64 or more, and bit 16 of ldk's immediate, are undefined
words, which the clauses' hypotheses exclude (R283). -/
theorem oneOperandAndImmediateInstructionsCompute : Obligations.OneOperandAndImmediateInstructionsCompute := by
  unfold Obligations.OneOperandAndImmediateInstructionsCompute
  refine ⟨?sxb, ?sxh, ?sxw, ?clz, ?popc, ?rdst, ?addi, ?andi, ?ori, ?xori, ?slli, ?srli, ?srai, ?ldi, ?ldk⟩
  case sxb => exact fun _ _ _ _ _ h => State.alu1_completes h rfl fun v => (v.setWidth 8).signExtend 64
  case sxh => exact fun _ _ _ _ _ h => State.alu1_completes h rfl fun v => (v.setWidth 16).signExtend 64
  case sxw => exact fun _ _ _ _ _ h => State.alu1_completes h rfl fun v => (v.setWidth 32).signExtend 64
  case clz => exact fun _ _ _ _ _ h => State.alu1_completes h rfl fun v => BitVec.ofNat 64 (clz64 v)
  case popc => exact fun _ _ _ _ _ h => State.alu1_completes h rfl fun v => BitVec.ofNat 64 (popCount 64 v.toNat)
  case rdst => exact fun _ _ _ _ h => State.alu_completes (fun c => c.st.setWidth 64) h rfl
  case addi => exact fun _ _ _ imm _ _ h => State.alu1_completes h rfl fun v => v + imm.signExtend 64
  case andi => exact fun _ _ _ imm _ _ h => State.alu1_completes h rfl fun v => v &&& imm.setWidth 64
  case ori => exact fun _ _ _ imm _ _ h => State.alu1_completes h rfl fun v => v ||| imm.setWidth 64
  case xori => exact fun _ _ _ imm _ _ h => State.alu1_completes h rfl fun v => v ^^^ imm.setWidth 64
  case slli =>
    exact fun _ _ _ imm _ _ h hi => State.alu1_completes h (decide_eq_false (Nat.not_le.mpr hi)) fun v => v <<< imm.toNat
  case srli =>
    exact fun _ _ _ imm _ _ h hi => State.alu1_completes h (decide_eq_false (Nat.not_le.mpr hi)) fun v => v >>> imm.toNat
  case srai =>
    exact fun _ _ _ imm _ _ h hi => State.alu1_completes h (decide_eq_false (Nat.not_le.mpr hi)) fun v => v.sshiftRight imm.toNat
  case ldi => exact fun _ _ imm _ _ h => State.alu_completes (fun _ => imm.signExtend 64) h rfl
  case ldk =>
    exact fun _ rd imm _ _ h hi =>
      State.alu_completes (fun c => (c.reg rd <<< 16) ||| (imm.setWidth 16).setWidth 64) h hi

end

section
/-! SUPPORT of O34: the bytes of a memory that is written, and the state in which a load, a store, an atomic operation or a block
access ends. -/

namespace Sys2Proof.Machine

variable {s u : State} {a : NimAt} {x : Nat}

/-! ### The bytes of a memory (R234) -/

/-- A byte of a memory after a number has been written at an address: the number's own byte in its range, and as it was outside. -/
theorem get_setBytes (t : Tbl Byte) (p n v b : Nat) : Tbl.get (fun _ => 0) (setBytes t p n v) b =
    if p ≤ b ∧ b < p + n then BitVec.ofNat 8 (v / 256 ^ (b - p)) else Tbl.get (fun _ => 0) t b := by
  induction n with
  | zero => rw [if_neg (by omega)]; rfl
  | succ n ih =>
    have hset : setBytes t p (n + 1) v = Tbl.set (fun _ => 0) (p + n) (BitVec.ofNat 8 (v / 256 ^ n)) (setBytes t p n v) := by
      simp [setBytes, List.range_succ]
    rw [hset]
    by_cases hb : b = p + n
    · subst hb
      rw [Tbl.get_set_same, if_pos (by omega), Nat.add_sub_cancel_left]
    · rw [Tbl.get_set_other _ _ _ _ _ hb, ih]
      exact if_congr (by omega) rfl rfl

/-- Bytes outside the range of a write are as they were. -/
theorem get_setBytes_outside (t : Tbl Byte) {p n b : Nat} (v : Nat) (h : b < p ∨ p + n ≤ b) :
    Tbl.get (fun _ => 0) (setBytes t p n v) b = Tbl.get (fun _ => 0) t b := by
  rw [get_setBytes, if_neg (by omega)]

/-- The number in n + 1 bytes has the first byte lowest. -/
theorem bodyBytes_succ (t : Tbl Byte) (p n : Nat) :
    bodyBytes t p (n + 1) = (Tbl.get (fun _ => 0) t p).toNat + 256 * bodyBytes t (p + 1) n := by
  have hr : (List.range (n + 1)).map (p + ·) = p :: (List.range n).map (p + 1 + ·) := by
    rw [List.range_succ_eq_map, List.map_cons, List.map_map]
    exact congrArg _ (List.map_congr_left fun i _ => by simp only [Function.comp_apply]; omega)
  rw [bodyBytes, hr]
  rfl

/-- Bytes that are the digits of a number read as that number. -/
theorem bodyBytes_of_digits {t : Tbl Byte} (n : Nat) : ∀ {p v : Nat},
    (∀ i < n, Tbl.get (fun _ => 0) t (p + i) = BitVec.ofNat 8 (v / 256 ^ i)) → bodyBytes t p n = v % 256 ^ n := by
  induction n with
  | zero => intro p v _; simp [bodyBytes, Nat.mod_one]
  | succ n ih =>
    intro p v h
    have hrest : bodyBytes t (p + 1) n = v / 256 % 256 ^ n := ih fun i hi => by
      rw [Nat.add_assoc, Nat.add_comm 1 i, h (i + 1) (by omega), Nat.div_div_eq_div_mul, Nat.pow_succ']
    have hfirst : (Tbl.get (fun _ => 0) t p).toNat = v % 256 := by
      simpa using congrArg BitVec.toNat (h 0 (by omega))
    rw [bodyBytes_succ, hrest, hfirst, Nat.pow_succ', Nat.mod_mul]

/-- A number that has been written reads back. -/
theorem bodyBytes_setBytes (t : Tbl Byte) (p n v : Nat) : bodyBytes (setBytes t p n v) p n = v % 256 ^ n :=
  bodyBytes_of_digits n fun i hi => by rw [get_setBytes, if_pos (by omega), Nat.add_sub_cancel_left]

/-- A value cut to a number of bytes reads back as it was cut. -/
theorem bodyBytes_setBytes_cut (t : Tbl Byte) (p n v : Nat) :
    bodyBytes (setBytes t p n (v % 2 ^ (8 * n))) p n = v % 2 ^ (8 * n) := by
  rw [bodyBytes_setBytes, Nat.pow_mul 2 8 n]
  exact Nat.mod_mod _ _

/-- A doubleword reads back. -/
theorem bodyBytes_setBytes_word (t : Tbl Byte) (p : Nat) (v : Word) :
    BitVec.ofNat 64 (bodyBytes (setBytes t p 8 v.toNat) p 8) = v := by
  rw [bodyBytes_setBytes, show 256 ^ 8 = 2 ^ 64 from rfl, Nat.mod_eq_of_lt v.isLt, BitVec.ofNat_toNat, BitVec.setWidth_eq]

/-! ### The context that issues -/

/-- The state with other bytes in SHARED memory and the LIBRARY. -/
def State.setSram (s : State) (m : Tbl Byte) : State := { s with nim := { s.nim with sram := m } }

@[simp] theorem State.setSram_ctx (m : Tbl Byte) (y : Nat) : (s.setSram m).ctx y = s.ctx y := rfl
@[simp] theorem State.setSram_regs (m : Tbl Byte) : (s.setSram m).regs = s.regs := rfl
@[simp] theorem NimCtx.setReg_loc (c : NimCtx) (r : Nat) (v : Word) : (c.setReg r v).loc = c.loc := by
  unfold NimCtx.setReg; split <;> rfl

/-- An instruction that has issued and writes a register writes that alone, in a state with the contexts and registers it found. -/
theorem State.issue_writesReg {rd : Nat} (hctx : ∀ y, u.ctx y = s.ctx y) (hregs : u.regs = s.regs) (pg : Nat) (i : Issue) (w lat : Nat)
    (v : Word) : s.writesReg (u.setCtx x (((s.ctx x).issue pg i w lat).setReg rd v)) x rd v := by
  refine ⟨?_, fun r _ hr => ?_, ?_, ?_, fun y _ hy => ?_, hregs⟩
  · rw [State.ctx_setCtx_same, NimCtx.reg_setReg_same]
  · rw [State.ctx_setCtx_same, NimCtx.reg_setReg_ne _ hr, NimCtx.issue_reg]
  · rw [State.ctx_setCtx_same, NimCtx.setReg_p, NimCtx.issue_p]
  · rw [State.ctx_setCtx_same, NimCtx.setReg_pc, NimCtx.issue_pc]
  · rw [State.ctx_setCtx_ne _ hy, hctx]

/-- An instruction that has issued and writes no register only passes on: at most its context's LOCAL memory has changed. -/
theorem State.issue_writesNone (hctx : ∀ y, u.ctx y = s.ctx y) (hregs : u.regs = s.regs) (pg : Nat) (i : Issue) (w lat : Nat)
    (m : Tbl Byte) : s.writesReg (u.setCtx x { ((s.ctx x).issue pg i w lat) with loc := m }) x 0 0 := by
  refine ⟨rfl, fun r _ _ => ?_, ?_, ?_, fun y _ hy => ?_, hregs⟩
  · rw [State.ctx_setCtx_same]
    rfl
  · rw [State.ctx_setCtx_same, NimCtx.issue_p]
  · rw [State.ctx_setCtx_same, NimCtx.issue_pc]
  · rw [State.ctx_setCtx_ne _ hy, hctx]

/-- A load that has issued shows its value and the next word, whatever the access did to the part beside. -/
theorem State.issue_loads {rd : Fin 32} (pg : Nat) (i : Issue) (w lat : Nat) (v : Word) :
    ((u.setCtx x (((s.ctx x).issue pg i w lat).setReg rd v)).ctx x).reg rd = (if rd = 0 then 0 else v) ∧
      ((u.setCtx x (((s.ctx x).issue pg i w lat).setReg rd v)).ctx x).pc = (s.ctx x).pc + 1 := by
  constructor
  · rw [State.ctx_setCtx_same, NimCtx.reg_setReg_same]
    exact if_congr Fin.val_eq_zero_iff rfl rfl
  · rw [State.ctx_setCtx_same, NimCtx.setReg_pc, NimCtx.issue_pc]

/-! ### The instructions (R291 to R295) -/

/-- A load of LOCAL, LIBRARY, SHARED or ORDER that no rule stops. -/
theorem exec_nimLd_memory {rd ra : Fin 32} {sp : Fin 8} {sz : Fin 4} {off : BitVec 7} (h : s.issues a ⟨some true, [ra.val], 1⟩ x)
    (h5 : sp.val < 5) (h3 : sp.val ≠ 3)
    (hm : s.memTrap (s.ctx x) false sp (memAddr (s.ctx x) ra off (2 ^ sz.val)) (2 ^ sz.val) (alignFor sp (2 ^ sz.val)) = none) :
    exec (.nimLd a rd ra sp sz off) s =
      .next (s.setCtx x (((s.ctx x).issue a.pg ⟨some true, [ra.val], 1⟩ rd (ldLatency sp)).setReg rd
        (BitVec.ofNat 64 (s.memRead (s.ctx x) sp (memAddr (s.ctx x) ra off (2 ^ sz.val)) (2 ^ sz.val))))) :=
  congrArg Host.Outcome.next (State.onCore_effect h (decide_eq_false (Nat.not_le.mpr h5)) (by
    dsimp only
    rw [hm]
    exact if_neg h3))

/-- A load of BLOCK that no rule stops is a bus read, whose latency is a free value (log 66). -/
theorem exec_nimLd_block {rd ra : Fin 32} {sz : Fin 4} {off : BitVec 7} (h : s.issues a ⟨some true, [ra.val], 1⟩ x)
    (hm : s.memTrap (s.ctx x) false 3 (memAddr (s.ctx x) ra off (2 ^ sz.val)) (2 ^ sz.val) (2 ^ sz.val) = none) :
    exec (.nimLd a rd ra 3 sz off) s =
      .next ((s.drawFree.busRead .work (memAddr (s.ctx x) ra off (2 ^ sz.val)) sz).setCtx x
        (((s.ctx x).issue a.pg ⟨some true, [ra.val], 1⟩ rd s.busLatency).setReg rd
          (s.drawFree.busRead .work (memAddr (s.ctx x) ra off (2 ^ sz.val)) sz).rdata)) :=
  congrArg Host.Outcome.next (State.onCore_effect h rfl (by simp [alignFor, hm]))

/-- A store to LOCAL that no rule stops. -/
theorem exec_nimSt_local {rd ra : Fin 32} {sz : Fin 4} {off : BitVec 7} (h : s.issues a ⟨some true, [ra.val, rd.val], 1⟩ x)
    (hm : s.memTrap (s.ctx x) true 0 (memAddr (s.ctx x) ra off (2 ^ sz.val)) (2 ^ sz.val) (2 ^ sz.val) = none) :
    exec (.nimSt a rd ra 0 sz off) s =
      .next (s.setCtx x { ((s.ctx x).issue a.pg ⟨some true, [ra.val, rd.val], 1⟩ noReg 0) with
        loc := setBytes (s.ctx x).loc (memAddr (s.ctx x) ra off (2 ^ sz.val)) (2 ^ sz.val)
          (((s.ctx x).reg rd).toNat % 2 ^ (8 * 2 ^ sz.val)) }) :=
  congrArg Host.Outcome.next (State.onCore_effect h rfl (by simp [alignFor, hm]))

/-- A store to SHARED that no rule stops. -/
theorem exec_nimSt_shared {rd ra : Fin 32} {sz : Fin 4} {off : BitVec 7} (h : s.issues a ⟨some true, [ra.val, rd.val], 1⟩ x)
    (hm : s.memTrap (s.ctx x) true 2 (memAddr (s.ctx x) ra off (2 ^ sz.val)) (2 ^ sz.val) (2 ^ sz.val) = none) :
    exec (.nimSt a rd ra 2 sz off) s =
      .next ((s.setSram (setBytes s.nim.sram (4194304 + memAddr (s.ctx x) ra off (2 ^ sz.val)) (2 ^ sz.val)
        (((s.ctx x).reg rd).toNat % 2 ^ (8 * 2 ^ sz.val)))).setCtx x
          ((s.ctx x).issue a.pg ⟨some true, [ra.val, rd.val], 1⟩ noReg 0)) :=
  congrArg Host.Outcome.next (State.onCore_effect h rfl (by simp [alignFor, hm, State.setSram]))

/-- A store of a service to BLOCK that no rule stops is a bus write of the management core (log 61). -/
theorem exec_nimSt_block {rd ra : Fin 32} {sz : Fin 4} {off : BitVec 7} (h : s.issues a ⟨some true, [ra.val, rd.val], 1⟩ x)
    (hm : s.memTrap (s.ctx x) true 3 (memAddr (s.ctx x) ra off (2 ^ sz.val)) (2 ^ sz.val) (2 ^ sz.val) = none)
    (hs : svcStores (memAddr (s.ctx x) ra off (2 ^ sz.val)) = true) :
    exec (.nimSt a rd ra 3 sz off) s =
      .next ((s.setCtx x ((s.ctx x).issue a.pg ⟨some true, [ra.val, rd.val], 1⟩ noReg 0)).busWrite .mgmt default
        (memAddr (s.ctx x) ra off (2 ^ sz.val)) sz (BitVec.ofNat 64 (((s.ctx x).reg rd).toNat % 2 ^ (8 * 2 ^ sz.val)))) :=
  congrArg Host.Outcome.next (State.onCore_effect h rfl (by simp [alignFor, hm, hs]))

/-- The state in which an atomic operation of context x ends: the new doubleword in SHARED at g[ra], and the old one in g[rd]. -/
def State.amoDone (s : State) (a : NimAt) (reads : List Nat) (x : Nat) (rd ra : Fin 32) (new : Word) : State :=
  (s.setSram (setBytes s.nim.sram (4194304 + ((s.ctx x).reg ra).toNat) 8 new.toNat)).setCtx x
    (((s.ctx x).issue a.pg ⟨none, reads, 20⟩ rd 20).setReg rd (BitVec.ofNat 64 (s.memRead (s.ctx x) 2 ((s.ctx x).reg ra).toNat 8)))

/-- An atomic operation that no rule stops. -/
theorem State.amo_issues {reads : List Nat} {rd ra rb : Fin 32} (f : Word → Word → Word → Word)
    (h : s.issues a ⟨none, reads, 20⟩ x) (hm : s.memTrap (s.ctx x) true 2 ((s.ctx x).reg ra).toNat 8 8 = none) :
    s.amo a reads rd ra rb f = s.amoDone a reads x rd ra
      (f (BitVec.ofNat 64 (s.memRead (s.ctx x) 2 ((s.ctx x).reg ra).toNat 8)) ((s.ctx x).reg rb) ((s.ctx x).reg rd)) := by
  unfold State.amo
  exact State.onCore_effect (i := fun _ => ⟨none, reads, 20⟩) h rfl (by dsimp only; rw [hm]; rfl)

/-- What an atomic operation leaves: the old doubleword in g[rd], the new one in its place, and every other byte as it was. -/
theorem State.amoDone_shows (reads : List Nat) (rd ra : Fin 32) (new : Word) :
    s.writesReg (s.amoDone a reads x rd ra new) x rd (BitVec.ofNat 64 (s.memRead (s.ctx x) 2 ((s.ctx x).reg ra).toNat 8)) ∧
      BitVec.ofNat 64 ((s.amoDone a reads x rd ra new).memRead ((s.amoDone a reads x rd ra new).ctx x) 2 ((s.ctx x).reg ra).toNat 8) =
        new ∧
      ∀ b, b < 4194304 + ((s.ctx x).reg ra).toNat ∨ 4194304 + ((s.ctx x).reg ra).toNat + 8 ≤ b →
        Tbl.get (fun _ => 0) (s.amoDone a reads x rd ra new).nim.sram b = Tbl.get (fun _ => 0) s.nim.sram b :=
  ⟨State.issue_writesReg (State.setSram_ctx _) (State.setSram_regs _) _ _ _ _ _, bodyBytes_setBytes_word _ _ _,
    fun _ hb => get_setBytes_outside _ _ hb⟩

/-- A load through the address table that no rule stops is a bus read, in which the RO fields of a SET register read 0. -/
theorem exec_nimBld_ok {rd ri ent : Fin 32} {wide : Bool} {at_ : Nat} (h : s.issues a ⟨some true, [ri.val], 1⟩ x)
    (ht : s.tableAddr (s.ctx x) false ent ((s.ctx x).reg ri) (if wide then 8 else 4) = .ok at_) :
    exec (.nimBld a rd ri ent wide) s =
      .next ((s.drawFree.busRead .work at_ (if wide then 3 else 2)).setCtx x
        (((s.ctx x).issue a.pg ⟨some true, [ri.val], 1⟩ rd s.busLatency).setReg rd
          ((s.drawFree.busRead .work at_ (if wide then 3 else 2)).rdata &&& journalMask at_))) :=
  congrArg Host.Outcome.next (State.onCore_effect h rfl (by
    dsimp only
    rw [ht]))

/-- A store through the address table that no rule stops, while the delta log takes records, is a bus write of its order. -/
theorem exec_nimBst_ok {rd ri ent : Fin 32} {wide : Bool} {env : BusEnv} {at_ : Nat} {k : Key} {e : JEntry}
    (h : s.issues a ⟨some true, [ri.val, rd.val], 1⟩ x)
    (ht : s.tableAddr (s.ctx x) true ent ((s.ctx x).reg ri) (if wide then 8 else 4) = .ok at_) (hd : s.deltasFull = false)
    (hk : (s.ctx x).entry = some k) (he : s.entry k = some e) :
    exec (.nimBst a rd ri ent wide env) s =
      .next ((s.setCtx x ((s.ctx x).issue a.pg ⟨some true, [ri.val, rd.val], 1⟩ noReg 0)).busWrite .work
        { env with key := k, allOrder := e.affinity == 2 } at_ (if wide then 3 else 2)
        (if wide then (s.ctx x).reg rd else low32 ((s.ctx x).reg rd))) :=
  congrArg Host.Outcome.next (State.onCore_effect h rfl (by
    dsimp only
    rw [ht]
    dsimp only
    rw [if_neg (by simp [hd]), hk]
    dsimp only
    rw [he]))

/-- A fence only passes on. -/
theorem exec_nimBfence_issues (h : s.issues a ⟨none, [], 1⟩ x) :
    exec (.nimBfence a 0) s = .next (s.setCtx x ((s.ctx x).issue a.pg ⟨none, [], 1⟩ noReg 0)) :=
  congrArg Host.Outcome.next (State.onCore_effect h rfl rfl)

end Sys2Proof.Machine
end

section
/-! Settles O34 from the states in which the instructions end. -/

open Sys2Proof Sys2Proof.Machine

/-- Settles O34, clause by clause: loads, stores, atomic operations, accesses through the address table, and a fence. A store of a
service to BLOCK acts as the management core by log 61, and the latency of a BLOCK load is free by log 66. -/
theorem coreMemoryAndTheBlockBus : Obligations.CoreMemoryAndTheBlockBus := by
  unfold Obligations.CoreMemoryAndTheBlockBus
  refine ⟨?load, ?blockLoad, ?localStore, ?sharedStore, ?blockStore, ?add, ?swap, ?cas, ?tableLoad, ?tableStore, ?fence⟩
  case load =>
    intro a rd ra sp sz off x s h h5 h3 hm
    rw [exec_nimLd_memory h h5 h3 hm]
    refine .next ⟨State.issue_writesReg (fun _ => rfl) rfl _ _ _ _ _, ?_, rfl⟩
    rw [State.ctx_setCtx_same, NimCtx.setReg_loc, NimCtx.issue_loc]
  case blockLoad =>
    intro a rd ra sz off x s h hm
    rw [exec_nimLd_block h hm]
    obtain ⟨hreg, hpc⟩ := State.issue_loads _ _ _ _ _
    exact .next ⟨hreg, hpc, rfl⟩
  case localStore =>
    intro a rd ra sz off x s h hm
    rw [exec_nimSt_local h hm]
    refine .next ⟨?_, fun b hb => ?_, State.issue_writesNone (fun _ => rfl) rfl _ _ _ _ _, rfl⟩
    · rw [State.ctx_setCtx_same]
      exact bodyBytes_setBytes_cut _ _ _ _
    · rw [State.ctx_setCtx_same]
      exact get_setBytes_outside _ _ hb
  case sharedStore =>
    intro a rd ra sz off x s h hm
    rw [exec_nimSt_shared h hm]
    exact .next ⟨bodyBytes_setBytes_cut _ _ _ _, fun b hb => get_setBytes_outside _ _ hb,
      State.issue_writesNone (State.setSram_ctx _) (State.setSram_regs _) _ _ _ _ _⟩
  case blockStore =>
    intro a rd ra sz off x s h hm hs
    rw [exec_nimSt_block h hm hs]
    exact .next rfl
  case add =>
    intro a rd ra rb x s h hm
    exact ⟨_, congrArg Host.Outcome.next (State.amo_issues (fun old v _ => old + v) h hm), State.amoDone_shows _ _ _ _⟩
  case swap =>
    intro a rd ra rb x s h hm
    exact ⟨_, congrArg Host.Outcome.next (State.amo_issues (fun _ v _ => v) h hm), State.amoDone_shows _ _ _ _⟩
  case cas =>
    intro a rd ra rb x s h hm
    exact ⟨_, congrArg Host.Outcome.next (State.amo_issues (fun old v d => if old = d then v else old) h hm),
      State.amoDone_shows _ _ _ _⟩
  case tableLoad =>
    intro a rd ri ent wide x at_ s h ht
    rw [exec_nimBld_ok h ht]
    obtain ⟨hreg, hpc⟩ := State.issue_loads _ _ _ _ _
    exact .next ⟨hreg, hpc, rfl⟩
  case tableStore =>
    intro a rd ri ent wide env x at_ k e s h ht hd hk he
    rw [exec_nimBst_ok h ht hd hk he]
    exact .next rfl
  case fence =>
    intro a x s h
    rw [exec_nimBfence_issues h]
    exact .next ⟨State.issue_writesNone (fun _ => rfl) rfl _ _ _ _ _, rfl⟩

end

section
/-! SUPPORT of O30: what a post of a service does to the tail of its queue, and a state in which that is not what O30 says. -/

namespace Sys2Proof.Machine

variable {s : State}

/-! ### The tail of a completion queue (R248, R250) -/

/-- A completion entry moves the tail to the next index of the ring, cut to the 12 bits of NIM_CQ_TAIL.INDEX. -/
theorem State.writeCq_tail (q : Nat) (r : CqRecord) : (s.writeCq q r).fld F.NIM_CQ_TAIL_INDEX q =
    (s.fld F.NIM_CQ_TAIL_INDEX q % s.qSize q + 1) % s.qSize q % 2 ^ 12 := by
  have hvec : ∀ (u : State) v, (u.raiseVector v).fld F.NIM_CQ_TAIL_INDEX q = u.fld F.NIM_CQ_TAIL_INDEX q := fun u v =>
    (State.raiseVector_frame (f := ⟨[.host, .sent], []⟩) (.refl _ u) (by simp)).fld (by simp) q
  unfold State.writeCq
  dsimp only
  rw [hvec]
  split
  · exact State.fld_setFld_same _ F.NIM_CQ_TAIL_INDEX q _ (by decide)
  · exact State.fld_setFld_same _ F.NIM_CQ_TAIL_INDEX q _ (by decide)

/-- An EVENT record for which an enabled queue has room is written at once. -/
theorem State.postRecord_of_room {q : Nat} (r : CqRecord) (he : s.flag F.NIM_Q_CFG_EN q = true) (hw : s.nim.warm = false)
    (hn : s.nim.waiting = []) (hroom : s.cqReserved q < s.cqFree q) : s.postRecord q r = s.writeCq q r := by
  rw [State.postRecord, if_neg (by simp [hw]), if_pos (by simp [he, hn, hroom])]

/-- An access of LOCAL with no alignment to keep is permitted inside its 8 KiB (R234). -/
theorem State.memTrap_local {c : NimCtx} {p n : Nat} (h : p + n ≤ 8192) (store : Bool) : s.memTrap c store 0 p n 1 = none := by
  unfold State.memTrap
  simp [Nat.mod_one, h]

/-- A post of a service to an enabled queue that has room (R306). -/
theorem exec_nimPost_service {a : NimAt} {ra rb : Fin 32} {x : Nat} (h : s.issues a ⟨none, [ra.val, rb.val], 12⟩ x)
    (hent : (s.ctx x).entry = none) (hsh : s.shadow = false) (hloc : ((s.ctx x).reg ra).toNat + 24 ≤ 8192)
    (hq : ((s.ctx x).reg rb).toNat < 64) (he : s.flag F.NIM_Q_CFG_EN ((s.ctx x).reg rb).toNat = true) (hw : s.nim.warm = false)
    (hn : s.nim.waiting = []) (hroom : s.cqReserved ((s.ctx x).reg rb).toNat < s.cqFree ((s.ctx x).reg rb).toNat) :
    exec (.nimPost a ra rb 0) s = .next ((s.writeCq ((s.ctx x).reg rb).toNat
      (cqRecord (.event (BitVec.ofNat 192 (s.memRead (s.ctx x) 0 ((s.ctx x).reg ra).toNat 24))) 0 0)).setCtx x
        (((s.ctx x).issue a.pg ⟨none, [ra.val, rb.val], 12⟩ noReg 0).status .OK false)) :=
  congrArg Host.Outcome.next (State.onCore_effect h rfl (by
    dsimp only
    rw [State.memTrap_local hloc]
    dsimp only
    rw [hent]
    dsimp only
    rw [if_neg (by simp [hsh]), if_neg (Nat.not_le.mpr hq), if_neg (by simp [he]), State.postRecord_of_room _ he hw hn hroom]))

/-! ### A queue whose SIZE is past the width of its indices (R248, R282) -/

/-- A part whose queue 3 has SIZE 13, beyond the 4 to 12 that a write of NIM_Q_CFG admits, and its tail at 4,095, the last index that
the 12 bits of NIM_CQ_TAIL.INDEX hold; core 0 runs context 0 for service slot 0, which names the queue in g1. -/
def oversizedTail : State :=
  (([(F.NIM_Q_CFG_EN, 3, 1), (F.NIM_Q_CFG_SIZE, 3, 13), (F.NIM_CQ_TAIL_INDEX, 3, 4095)].foldl
    (fun s e => s.setFld e.1 e.2.1 e.2.2) State.reset).setCtx 0
      { (default : NimCtx) with run := .running, slot := some 0, space := 1, g := [(1, 3)] }).setRunning 0 (some 0)

/-- An instruction of core 0 that no guard stops. -/
def unguarded : NimAt := ⟨0, 0, false⟩

theorem oversizedTail_issues : oversizedTail.issues unguarded ⟨none, [(0 : Fin 32).val, (1 : Fin 32).val], 12⟩ 0 := by decide

theorem oversizedTail_room : oversizedTail.cqReserved ((oversizedTail.ctx 0).reg (1 : Fin 32)).toNat <
    oversizedTail.cqFree ((oversizedTail.ctx 0).reg (1 : Fin 32)).toNat := by decide

/-- The entry after index 4,095 of a ring of 8,192. -/
theorem oversizedTail_next : (oversizedTail.fld F.NIM_CQ_TAIL_INDEX ((oversizedTail.ctx 0).reg (1 : Fin 32)).toNat %
    oversizedTail.qSize ((oversizedTail.ctx 0).reg (1 : Fin 32)).toNat + 1) %
      oversizedTail.qSize ((oversizedTail.ctx 0).reg (1 : Fin 32)).toNat = 4096 := by decide

end Sys2Proof.Machine
end

section
/-! Refutes O30 from the state above. -/

open Sys2Proof Sys2Proof.Machine

/-- Refutes O30 in its clause on post: no hypothesis bounds NIM_Q_CFG.SIZE by its range of 4 to 12. From a tail at 4,095 of a queue
with SIZE 13 the statement asks for tail 4,096, and the 12 bits of INDEX read 0. -/
theorem not_timeJournalAndEventInstructions : ¬ Obligations.TimeJournalAndEventInstructions := by
  unfold Obligations.TimeJournalAndEventInstructions
  rintro ⟨-, -, -, -, -, -, -, hpost, -⟩
  obtain ⟨t, hrun, -, -, htail⟩ := hpost unguarded 0 1 0 oversizedTail oversizedTail_issues rfl (by decide) (by decide) (by decide)
    (by decide) rfl rfl oversizedTail_room
  rw [exec_nimPost_service oversizedTail_issues rfl (by decide) (by decide) (by decide) (by decide) rfl rfl oversizedTail_room] at hrun
  obtain rfl := Host.Outcome.next.inj hrun
  rw [State.setCtx_fld, State.writeCq_tail, oversizedTail_next] at htail
  exact absurd htail (by decide)

end

section
/-! SUPPORT of O35 and O36: the registers of a Tweed core, what an operation and a move write of them, and the core after a bundle. -/

namespace Sys2Proof.Machine

/-! ### Folds that write cell by cell -/

section

variable {σ ι κ β : Type} [DecidableEq κ] {cell : σ → κ → β} {key : ι → κ} {F : ι → β → β} {g : σ → ι → σ}
  (hg : ∀ z i k, cell (g z i) k = if k = key i then F i (cell z k) else cell z k)

include hg

/-- A fold whose steps each change one cell leaves the cells of none of its steps alone. -/
theorem foldl_cell_off {k : κ} {l : List ι} (hk : ∀ i ∈ l, k ≠ key i) (z : σ) : cell (l.foldl g z) k = cell z k := by
  induction l generalizing z with
  | nil => rfl
  | cons i l ih =>
    rw [List.foldl_cons, ih (fun j hj => hk j (List.mem_cons_of_mem _ hj)), hg, if_neg (hk i List.mem_cons_self)]

/-- Where no two steps change the same cell, the cell of a step ends as that step alone makes it. -/
theorem foldl_cell_at {i : ι} {l : List ι} (hn : (l.map key).Nodup) (hi : i ∈ l) (z : σ) :
    cell (l.foldl g z) (key i) = F i (cell z (key i)) := by
  induction l generalizing z with
  | nil => cases hi
  | cons j l ih =>
    obtain ⟨hj, hn'⟩ := List.nodup_cons.mp (List.map_cons ▸ hn)
    have hne : ∀ m ∈ l, key j ≠ key m := fun m hm h => hj (h ▸ List.mem_map_of_mem hm)
    rw [List.foldl_cons]
    rcases List.mem_cons.mp hi with rfl | hl
    · rw [foldl_cell_off hg hne, hg, if_pos rfl]
    · rw [ih hn' hl, hg, if_neg fun h => hne i hl h.symm]

end

/-- A fold over the four lanes of an accumulator, whose steps each change their lane of `cell`, changes each of them so and no lane of
another accumulator. -/
theorem foldl_lanes {σ β : Type} {cell : σ → Nat → β} {ad : Nat} {F : Nat → β → β} {g : σ → Nat → σ}
    (hg : ∀ z l k, cell (g z l) k = if k = 4 * ad + l then F l (cell z k) else cell z k) (z : σ) (a : Nat) (l : Fin 4) :
    cell ([0, 1, 2, 3].foldl g z) (4 * a + l) = if a = ad then F l (cell z (4 * a + l)) else cell z (4 * a + l) := by
  have hl : l.val ∈ [0, 1, 2, 3] := by fin_cases l <;> decide
  split
  next h =>
    rw [h]
    exact foldl_cell_at hg (List.Nodup.map (fun _ _ e => Nat.add_left_cancel e) (by decide)) hl z
  next h =>
    refine foldl_cell_off hg (fun i hi => ?_) z
    have : i < 4 := by simp only [List.mem_cons, List.not_mem_nil, or_false] at hi; omega
    omega

variable (x : TwdCore)

/-! ### Vector registers (R348) -/

/-- Two names of vectors are two registers. -/
theorem TwdCore.phys_inj {m n : Nat} (hm : m < 32) (hn : n < 32) (h : x.phys m = x.phys n) : m = n := by
  unfold TwdCore.phys at h
  split at h <;> split at h <;> omega

/-- A vector that is written reads as written, and the others read as before. -/
theorem TwdCore.setVec_v {m n : Nat} (hm : m < 32) (hn : n < 32) (w : Word128) :
    Tbl.get (fun _ => 0) (x.setVec m w).v (x.phys n) = if n = m then w else Tbl.get (fun _ => 0) x.v (x.phys n) := by
  split
  next h => rw [h]; exact Tbl.get_set_same _ _ _ _
  next h => exact Tbl.get_set_other _ _ _ _ _ fun e => h (x.phys_inj hn hm e)

/-! ### Address registers (R323) -/

/-- An address register that is set reads as set, and the others read as before. -/
theorem TwdCore.setAddr_areg (q r a : Nat) : (x.setAddr q a).areg r = if r = q then { x.areg q with addr := a % 16384 } else x.areg r := by
  split
  next h => rw [h]; exact Tbl.get_set_same _ _ _ _
  next h => exact Tbl.get_set_other _ _ _ _ _ h

/-- A register that is post-modified stays within its 14 bits. -/
theorem AddrReg.step_lt (a : AddrReg) (m : Nat) : a.step_ m < 16384 := by
  unfold AddrReg.step_
  dsimp only
  omega

/-! ### Accumulators (R344, R345) -/

/-- A lane of the accumulators, counted 4 × accumulator + lane, and whether it clamped and stays. -/
def TwdCore.cell (x : TwdCore) (k : Nat) : BitVec 80 × Bool := (Tbl.get (fun _ => 0) x.acc k, Tbl.get (fun _ => false) x.stuck k)

theorem TwdCore.lane_eq_cell (a l : Nat) : x.lane a l = (x.cell (4 * a + l)).1 := rfl

theorem TwdCore.setLane_cell (a l : Nat) (v : BitVec 80) (st : Bool) (k : Nat) :
    (x.setLane a l v st).cell k = if k = 4 * a + l then (v, st) else x.cell k := by
  split
  next h => rw [h]; exact Prod.ext (Tbl.get_set_same _ _ _ _) (Tbl.get_set_same _ _ _ _)
  next h => exact Prod.ext (Tbl.get_set_other _ _ _ _ _ h) (Tbl.get_set_other _ _ _ _ _ h)

/-- The sum or the difference that an operation of the mac family adds up (R344). -/
def MacKind.sum (k : MacKind) (a p : Int) : Int := if k = .add then a + p else a - p

/-- A lane into which a sum goes: clamped and staying, or wrapped, where the sum leaves the range (R345). -/
def sumCell (sat : Bool) (v : Int) : BitVec 80 × Bool := (BitVec.ofInt 80 (if sat then clampSigned 80 v else v), sat && accOver v)

/-- What an operation of the mac family makes of a lane with its product p (R344, R345). -/
def macCell (k : MacKind) (sat : Bool) (p : Int) (c : BitVec 80 × Bool) : BitVec 80 × Bool :=
  if k = .set then (BitVec.ofInt 80 p, false) else if c.2 then c else sumCell sat (k.sum c.1.toInt p)

/-- A sum inside the range of an accumulator is clamped to itself. -/
theorem clampSigned_of_not_accOver {v : Int} (h : accOver v = false) : clampSigned 80 v = v := by
  simp only [accOver, Bool.or_eq_false_iff, decide_eq_false_iff_not] at h
  rw [clampSigned, if_neg h.1, if_neg h.2]

/-- A sum that goes into a lane, and whether it left the range (R345). -/
def TwdCore.putSum (x : TwdCore) (sat : Bool) (ad l : Nat) (v : Int) : TwdCore × Bool :=
  if accOver v then
    if sat then (x.setLane ad l (BitVec.ofInt 80 (clampSigned 80 v)) true, true) else (x.setLane ad l (BitVec.ofInt 80 v) false, true)
  else (x.setLane ad l (BitVec.ofInt 80 v) false, false)

/-- Only a sum that leaves the range is changed by the clamp, and only then does the lane stay. -/
theorem TwdCore.putSum_fst (sat : Bool) (ad l : Nat) (v : Int) :
    (x.putSum sat ad l v).1 = x.setLane ad l (sumCell sat v).1 (sumCell sat v).2 := by
  unfold TwdCore.putSum sumCell
  cases ho : accOver v
  · rw [clampSigned_of_not_accOver ho, ite_self, Bool.and_false]
    rfl
  · cases sat <;> rfl

theorem TwdCore.macLane_of_sum {k : MacKind} (hk : k ≠ .set) (sat : Bool) (ad l : Nat) (p : Int) : x.macLane k sat ad l p =
    if (x.cell (4 * ad + l)).2 then (x, false) else x.putSum sat ad l (k.sum (x.lane ad l).toInt p) := by
  cases k with
  | set => exact absurd rfl hk
  | add => rfl
  | sub => rfl

theorem TwdCore.macLane_cell (k : MacKind) (sat : Bool) (ad l : Nat) (p : Int) (j : Nat) :
    (x.macLane k sat ad l p).1.cell j = if j = 4 * ad + l then macCell k sat p (x.cell j) else x.cell j := by
  by_cases hk : k = .set
  · rw [hk]
    exact x.setLane_cell ad l _ _ j
  · rw [x.macLane_of_sum hk, macCell, if_neg hk]
    split
    next hs =>
      split
      next hj => rw [hj, if_pos hs]
      next => rfl
    next hs =>
      rw [x.putSum_fst, x.setLane_cell]
      split
      next hj => rw [hj, if_neg hs]; rfl
      next => rfl

theorem TwdCore.macAcc_cell (k : MacKind) (sat : Bool) (ad : Nat) (u w : Word128) (sh a : Nat) (l : Fin 4) :
    (x.macAcc k sat ad u w sh).1.cell (4 * a + l) =
      if a = ad then macCell k sat (product (Machine.lane u l) (Machine.lane w l) sh) (x.cell (4 * a + l)) else x.cell (4 * a + l) :=
  foldl_lanes (cell := fun z : TwdCore × Bool => z.1.cell)
    (F := fun l => macCell k sat (product (Machine.lane u l) (Machine.lane w l) sh)) (fun z l j => z.1.macLane_cell k sat ad l _ j)
    (x, false) a l

/-- A sum in a lane: the lane stays where it had clamped, and takes the sum, clamped or wrapped, where it had not (R345). -/
theorem macCell_sum {k : MacKind} (hk : k ≠ .set) (sat : Bool) (p : Int) (c : BitVec 80 × Bool) : (macCell k sat p c).1 =
    if c.2 then c.1 else BitVec.ofInt 80 (if sat then clampSigned 80 (k.sum c.1.toInt p) else k.sum c.1.toInt p) := by
  rw [macCell, if_neg hk]
  split <;> rfl

/-! ### Operations on accumulators (R344, R345, R351) -/

theorem TwdCore.operate_mac_cell (k : MacKind) (sat : Bool) (ad : Fin 8) (va vb : Fin 32) (sh : Fin 16) (l : Fin 4) :
    (x.operate sat (.mac k ad va vb sh) x).1.cell (4 * ad + l) =
      macCell k sat (product (Machine.lane (x.vec va) l) (Machine.lane (x.vec vb) l) sh) (x.cell (4 * ad + l)) :=
  (x.macAcc_cell k sat ad _ _ _ _ l).trans (if_pos rfl)

/-- Each of the four accumulators of a quad operation is written by the step of its own vector alone. -/
theorem TwdCore.operate_qmac_cell (k : MacKind) (sat : Bool) (ad : Fin 8) (va vb : Fin 32) (sh : Fin 16) (u l : Fin 4) :
    (x.operate sat (.qmac k ad va vb sh) x).1.cell (4 * (ad + u) + l) =
      macCell k sat (product (Machine.lane (x.vec (va + u)) l) (Machine.lane (x.vec vb) l) sh) (x.cell (4 * (ad + u) + l)) := by
  have hu : u.val ∈ [0, 1, 2, 3] := by fin_cases u <;> decide
  exact congrFun (foldl_cell_at (cell := fun (z : TwdCore × Bool) a (l : Fin 4) => z.1.cell (4 * a + l)) (key := fun u => ad.val + u)
    (F := fun u c l => macCell k sat (product (Machine.lane (x.vec (va + u)) l) (Machine.lane (x.vec vb) l) sh) (c l))
    (fun z u a => by
      refine funext fun l => (z.1.macAcc_cell k sat (ad + u) _ _ _ a l).trans ?_
      split <;> rfl)
    (List.Nodup.map (fun _ _ e => Nat.add_left_cancel e) (by decide)) hu (x, false)) l

theorem TwdCore.operate_clr_cell (sat : Bool) (mask : BitVec 8) {n : Nat} (hn : n < 8) (l : Fin 4) :
    (x.operate sat (.clr mask) x).1.cell (4 * n + l) = if mask.getLsbD n then (0, false) else x.cell (4 * n + l) := by
  have hrow : ∀ (z : TwdCore) (n a : Nat), (fun l : Fin 4 => (if mask.getLsbD n then
      [0, 1, 2, 3].foldl (fun (w : TwdCore) l => w.setLane n l 0 false) z else z).cell (4 * a + l)) =
        if a = n then (if mask.getLsbD n then fun _ => (0, false) else fun l : Fin 4 => z.cell (4 * a + l))
        else fun l : Fin 4 => z.cell (4 * a + l) := by
    intro z n a
    cases mask.getLsbD n
    · exact (ite_self _).symm
    · refine funext fun l => (foldl_lanes (cell := TwdCore.cell) (F := fun _ _ => (0, false))
        (fun z l j => z.setLane_cell n l 0 false j) z a l).trans ?_
      split <;> rfl
  refine (congrFun (foldl_cell_at (cell := fun (z : TwdCore) a (l : Fin 4) => z.cell (4 * a + l)) (key := id)
    (F := fun n c => if mask.getLsbD n then fun _ => (0, false) else c) hrow (by decide) (List.mem_range.mpr hn) x) l).trans ?_
  split <;> rfl

theorem TwdCore.operate_vtoa_cell (sat : Bool) (ad : Fin 8) (va : Fin 32) (l : Fin 4) :
    (x.operate sat (.vtoa ad va) x).1.cell (4 * ad + l) =
      (BitVec.ofInt 80 ((Machine.lane (x.vec va) l).toInt * (2 ^ 32 : Nat)), false) :=
  (foldl_lanes (cell := TwdCore.cell) (F := fun l _ => (BitVec.ofInt 80 ((Machine.lane (x.vec va) l).toInt * (2 ^ 32 : Nat)), false))
    (fun z l j => z.setLane_cell ad l _ false j) x ad l).trans (if_pos rfl)

/-! ### What neither operations nor moves change -/

/-- What a bundle's operation and moves leave of a core: all but its registers and its memories X and Y. -/
def TwdCore.still (x : TwdCore) : TwdCore := { x with v := [], acc := [], stuck := [], ar := [], x := [], y := [] }

theorem TwdCore.rrb_of_still {x y : TwdCore} (h : x.still = y.still) : x.rrb = y.rrb := by
  simpa [TwdCore.still] using congrArg TwdCore.rrb h

theorem TwdCore.pc_of_still {x y : TwdCore} (h : x.still = y.still) : x.pc = y.pc := by
  simpa [TwdCore.still] using congrArg TwdCore.pc h

theorem TwdCore.loops_of_still {x y : TwdCore} (h : x.still = y.still) : x.loops = y.loops := by
  simpa [TwdCore.still] using congrArg TwdCore.loops h

theorem TwdCore.phys_of_still {x y : TwdCore} (h : x.still = y.still) : x.phys = y.phys := by
  funext n
  rw [TwdCore.phys, TwdCore.phys, TwdCore.rrb_of_still h]

theorem TwdCore.macLane_still (k : MacKind) (sat : Bool) (ad l : Nat) (p : Int) : (x.macLane k sat ad l p).1.still = x.still := by
  by_cases hk : k = .set
  · rw [hk]
    rfl
  · rw [x.macLane_of_sum hk]
    split
    · rfl
    · rw [x.putSum_fst]
      rfl

/-- What every step of a fold leaves, the fold leaves, whatever it folds over. -/
theorem foldl_leaves {σ ι β : Type} (f : σ → β) {g : σ → ι → σ} (hg : ∀ z i, f (g z i) = f z) (l : List ι) (z : σ) :
    f (l.foldl g z) = f z :=
  List.foldlRecOn (motive := fun w => f w = f z) l g rfl fun w h i _ => (hg w i).trans h

theorem TwdCore.macAcc_still (k : MacKind) (sat : Bool) (ad : Nat) (u w : Word128) (sh : Nat) :
    (x.macAcc k sat ad u w sh).1.still = x.still := by
  unfold TwdCore.macAcc
  refine foldl_leaves (fun z : TwdCore × Bool => z.1.still) (fun z l => ?_) _ (x, false)
  exact z.1.macLane_still k sat ad l _

theorem TwdCore.setLane_still (a l : Nat) (v : BitVec 80) (st : Bool) : (x.setLane a l v st).still = x.still := rfl
theorem TwdCore.setVec_still (n : Nat) (w : Word128) : (x.setVec n w).still = x.still := rfl
theorem TwdCore.setAddr_still (r a : Nat) : (x.setAddr r a).still = x.still := rfl

theorem TwdCore.operate_still (sat : Bool) (op : TOp) (y : TwdCore) : (x.operate sat op y).1.still = y.still := by
  unfold TwdCore.operate
  cases op
  case mac k ad va vb sh => exact y.macAcc_still k sat ad _ _ _
  case qmac k ad va vb sh =>
    refine foldl_leaves (fun z : TwdCore × Bool => z.1.still) (fun z u => ?_) _ (y, false)
    exact z.1.macAcc_still k sat (ad + u) _ _ _
  case clr mask =>
    refine foldl_leaves TwdCore.still (fun z n => ?_) _ y
    split
    · exact foldl_leaves TwdCore.still (fun z l => z.setLane_still n l 0 false) _ z
    · rfl
  case vtoa ad va =>
    refine foldl_leaves TwdCore.still (fun z l => ?_) _ y
    exact z.setLane_still ad l _ false
  case rnd => exact y.setVec_still _ _
  case vadd => exact y.setVec_still _ _
  case vmov => exact y.setVec_still _ _
  case vbc => exact y.setVec_still _ _
  case setx => exact y.setAddr_still _ _
  all_goals rfl

/-! ### Moves (R317, R323, R352) -/

/-- The number of the address register that a move uses. -/
def Move.areg (m : Move) (isY : Bool) : Nat := m.r.val + (if isY then 8 else 0)

/-- The memory that X moves or Y moves use. -/
def TwdCore.mem (x : TwdCore) (isY : Bool) : Tbl Word128 := if isY then x.y else x.x

/-- The word that a load puts into its vector: the whole word of op 1, or the lane that op 3 spreads. -/
def TwdCore.loaded (x : TwdCore) (isY : Bool) (m : Move) : Word128 :=
  let w := readXY (x.mem isY) (x.areg (m.areg isY)).addr
  if m.op = 1 then w else lanes fun _ => Machine.lane w m.k

/-- A core after what a move loads or stores, before its post-modify. -/
def TwdCore.transfer (x : TwdCore) (isY : Bool) (m : Move) (y : TwdCore) : TwdCore :=
  if m.op = 1 ∨ m.op = 3 then y.setVec m.v (x.loaded isY m)
  else if isY then { y with y := writeY y.y (x.areg (m.areg isY)).addr (x.vec m.v) }
  else { y with x := writeX y.x (x.areg (m.areg isY)).addr (x.vec m.v) }

/-- A move loads or stores, and then post-modifies its address register. -/
theorem TwdCore.moveField_eq (isY : Bool) {m : Move} (h : m.op ≠ 0) (y : TwdCore) : x.moveField isY m y =
    if m.mod_ = 0 then x.transfer isY m y
    else (x.transfer isY m y).setAddr (m.areg isY) ((x.areg (m.areg isY)).step_ m.mod_) := by
  have ht : x.transfer isY m y = if m.op = 1 then y.setVec m.v (readXY (x.mem isY) (x.areg (m.areg isY)).addr)
      else if m.op = 3 then y.setVec m.v (lanes fun _ => Machine.lane (readXY (x.mem isY) (x.areg (m.areg isY)).addr) m.k)
      else if isY then { y with y := writeY y.y (x.areg (m.areg isY)).addr (x.vec m.v) }
      else { y with x := writeX y.x (x.areg (m.areg isY)).addr (x.vec m.v) } := by
    by_cases h1 : m.op = 1
    · simp [TwdCore.transfer, TwdCore.loaded, h1]
    · simp [TwdCore.transfer, TwdCore.loaded, h1]
  rw [ht]
  exact if_neg h

/-- What a post-modify leaves alone, a move leaves as its transfer leaves it. -/
theorem TwdCore.moveField_as_transfer {β : Type} (f : TwdCore → β) (hf : ∀ (z : TwdCore) (r a : Nat), f (z.setAddr r a) = f z)
    (isY : Bool) {m : Move} (h : m.op ≠ 0) (y : TwdCore) : f (x.moveField isY m y) = f (x.transfer isY m y) := by
  rw [x.moveField_eq isY h]
  split
  · rfl
  · exact hf _ _ _

/-- What neither a transfer nor a post-modify changes, a move leaves alone. -/
theorem TwdCore.moveField_leaves {β : Type} (f : TwdCore → β) (hf : ∀ (z : TwdCore) (r a : Nat), f (z.setAddr r a) = f z)
    (isY : Bool) (m : Move) (y : TwdCore) (ht : f (x.transfer isY m y) = f y) : f (x.moveField isY m y) = f y := by
  by_cases h : m.op = 0
  · exact congrArg f (if_pos h)
  · rw [x.moveField_as_transfer f hf isY h, ht]

theorem TwdCore.transfer_leaves {β : Type} (f : TwdCore → β) (hv : ∀ (z : TwdCore) n w, f (z.setVec n w) = f z)
    (hx : ∀ (z : TwdCore) t, f { z with x := t } = f z) (hy : ∀ (z : TwdCore) t, f { z with y := t } = f z)
    (isY : Bool) (m : Move) (y : TwdCore) : f (x.transfer isY m y) = f y := by
  unfold TwdCore.transfer
  split
  · exact hv _ _ _
  · split
    · exact hy _ _
    · exact hx _ _

theorem TwdCore.moveField_still (isY : Bool) (m : Move) (y : TwdCore) : (x.moveField isY m y).still = y.still :=
  x.moveField_leaves TwdCore.still (fun _ _ _ => rfl) isY m y
    (x.transfer_leaves TwdCore.still (fun _ _ _ => rfl) (fun _ _ => rfl) (fun _ _ => rfl) isY m y)

theorem TwdCore.moveField_acc (isY : Bool) (m : Move) (y : TwdCore) : (x.moveField isY m y).acc = y.acc :=
  x.moveField_leaves TwdCore.acc (fun _ _ _ => rfl) isY m y
    (x.transfer_leaves TwdCore.acc (fun _ _ _ => rfl) (fun _ _ => rfl) (fun _ _ => rfl) isY m y)

/-- The address registers after a move: its own post-modified, the others as before. -/
theorem TwdCore.moveField_areg (isY : Bool) (m : Move) (y : TwdCore) (r : Nat) : (x.moveField isY m y).areg r =
    if m.op ≠ 0 ∧ m.mod_ ≠ 0 ∧ r = m.areg isY then { y.areg r with addr := (x.areg r).step_ m.mod_ } else y.areg r := by
  have ht : (x.transfer isY m y).areg r = y.areg r :=
    x.transfer_leaves (fun z => z.areg r) (fun _ _ _ => rfl) (fun _ _ => rfl) (fun _ _ => rfl) isY m y
  by_cases h : m.op = 0
  · rw [if_neg fun e => e.1 h]
    exact congrArg (TwdCore.areg · r) (if_pos h)
  · rw [x.moveField_eq isY h]
    split
    next h0 => rw [ht, if_neg fun e => e.2.1 h0]
    next h0 =>
      rw [TwdCore.setAddr_areg]
      by_cases hr : r = m.areg isY
      · subst hr
        rw [if_pos rfl, if_pos ⟨h, h0, rfl⟩, ht, Nat.mod_eq_of_lt (AddrReg.step_lt _ _)]
      · rw [if_neg hr, if_neg fun e => hr e.2.2, ht]

theorem Move.vdst_eq (m : Move) : m.vdst = if m.op = 1 ∨ m.op = 3 then some m.v.val else none := rfl

/-- The vectors after a move: the one it loads, and the others as before. -/
theorem TwdCore.moveField_v (isY : Bool) (m : Move) (y : TwdCore) {n : Nat} (hn : n < 32) :
    Tbl.get (fun _ => 0) (x.moveField isY m y).v (y.phys n) =
      if m.vdst = some n then x.loaded isY m else Tbl.get (fun _ => 0) y.v (y.phys n) := by
  by_cases h : m.op = 0
  · rw [Move.vdst_eq, if_neg (by rw [h]; decide : ¬(m.op = 1 ∨ m.op = 3)), if_neg nofun]
    exact congrArg (fun z : TwdCore => Tbl.get (fun _ => 0) z.v (y.phys n)) (if_pos h)
  · rw [x.moveField_as_transfer TwdCore.v (fun _ _ _ => rfl) isY h, Move.vdst_eq, TwdCore.transfer]
    split
    next => rw [y.setVec_v m.v.isLt hn]; simp only [Option.some.injEq, eq_comm]
    next =>
      rw [if_neg (by simp : ¬(none : Option Nat) = some n)]
      cases isY <;> rfl

/-- A store puts its vector into the memory of its side, as a program's write does (R317). -/
theorem TwdCore.moveField_mem_store (isY : Bool) {m : Move} (h : m.op = 2) (y : TwdCore) : (x.moveField isY m y).mem isY =
    (if isY then writeY else writeX) (y.mem isY) (x.areg (m.areg isY)).addr (x.vec m.v) := by
  rw [x.moveField_as_transfer (TwdCore.mem · isY) (fun _ _ _ => rfl) isY (by rw [h]; decide), TwdCore.transfer,
    if_neg (by rw [h]; decide)]
  cases isY <;> rfl

/-- A move leaves the memory of the other side alone. -/
theorem TwdCore.moveField_mem_other (isY : Bool) (m : Move) (y : TwdCore) : (x.moveField isY m y).mem (!isY) = y.mem (!isY) := by
  refine x.moveField_leaves (TwdCore.mem · (!isY)) (fun _ _ _ => rfl) isY m y ?_
  unfold TwdCore.transfer
  split
  · rfl
  · cases isY <;> rfl

/-! ### The two moves of a bundle -/

/-- The X or the Y move of a bundle. -/
def Bundle.move (b : Bundle) (isY : Bool) : Move := if isY then b.ym else b.xm

/-- A core after one of a bundle's moves, which acts or not by its stage (R349). -/
def TwdCore.moveIf (x : TwdCore) (isY : Bool) (m : Move) (y : TwdCore) : TwdCore := if x.acts m.stg then x.moveField isY m y else y

/-- A core after both moves of a bundle, which read x. -/
def TwdCore.moved (x : TwdCore) (b : Bundle) (y : TwdCore) : TwdCore := x.moveIf true b.ym (x.moveIf false b.xm y)

theorem TwdCore.moveIf_leaves {β : Type} (f : TwdCore → β) (isY : Bool) (m : Move) (y : TwdCore) (h : f (x.moveField isY m y) = f y) :
    f (x.moveIf isY m y) = f y := by
  unfold TwdCore.moveIf
  split
  · exact h
  · rfl

/-- What neither move changes stays through both. -/
theorem TwdCore.moved_leaves {β : Type} (f : TwdCore → β) (b : Bundle) (y : TwdCore)
    (hf : ∀ isY z, f (x.moveField isY (b.move isY) z) = f z) : f (x.moved b y) = f y :=
  (x.moveIf_leaves f true b.ym _ (hf true _)).trans (x.moveIf_leaves f false b.xm _ (hf false _))

theorem TwdCore.moved_still (b : Bundle) (y : TwdCore) : (x.moved b y).still = y.still :=
  x.moved_leaves TwdCore.still b y fun isY _ => x.moveField_still isY _ _

theorem TwdCore.moved_acc (b : Bundle) (y : TwdCore) : (x.moved b y).acc = y.acc :=
  x.moved_leaves TwdCore.acc b y fun isY _ => x.moveField_acc isY _ _

/-- Where one move acts and makes c of what f reads, whatever state it finds, and the other move leaves that alone, the bundle's moves
make c of it. -/
theorem TwdCore.moved_makes {β : Type} (f : TwdCore → β) (b : Bundle) (y : TwdCore) (isY : Bool) {c : β → β}
    (ha : x.acts (b.move isY).stg = true) (hm : ∀ z, z.still = y.still → f (x.moveField isY (b.move isY) z) = c (f z))
    (ho : ∀ z, z.still = y.still → f (x.moveField (!isY) (b.move (!isY)) z) = f z) : f (x.moved b y) = c (f y) := by
  have hs : ∀ isY m, (x.moveIf isY m y).still = y.still := fun isY m => x.moveIf_leaves TwdCore.still isY m y (x.moveField_still isY m y)
  cases isY with
  | true =>
    have h : x.moved b y = x.moveField true (b.move true) (x.moveIf false b.xm y) := if_pos ha
    rw [h, hm _ (hs false _), x.moveIf_leaves f false b.xm y (ho y rfl)]
  | false =>
    have h : x.moveIf false b.xm y = x.moveField false (b.move false) y := if_pos ha
    rw [TwdCore.moved, x.moveIf_leaves f true b.ym _ (ho _ (hs false _)), h, hm y rfl]

/-! ### The core after a bundle (R348, R349, R353) -/

/-- The cycles that a bundle of an operation takes: 3 for a branch, else 1 (R351). -/
def TOp.cost : TOp → Nat
  | .br _ => 3
  | _ => 1

/-- A core after the operation of a bundle, where it acts. -/
def TwdCore.operated (x : TwdCore) (sat : Bool) (op : TOp) (b : Bundle) : TwdCore :=
  (if x.acts b.stg then x.operate sat op x else (x, false, false)).1

/-- A core after a bundle that does not trap. -/
def TwdCore.ran (x : TwdCore) (sat : Bool) (op : TOp) (b : Bundle) : TwdCore :=
  TwdCore.advance { x.moved b (x.operated sat op b) with
    ready := if x.acts b.stg then x.noteReady op (x.issueAt op b) x.ready else x.ready
    rrb := if b.rot then (x.rrb + 15) % 16 else x.rrb
    cycles := x.issueAt op b + op.cost } op

theorem TwdCore.operated_of_acts {b : Bundle} (h : x.acts b.stg = true) (sat : Bool) (op : TOp) :
    x.operated sat op b = (x.operate sat op x).1 := by
  rw [TwdCore.operated, if_pos h]

theorem TwdCore.operated_still (sat : Bool) (op : TOp) (b : Bundle) : (x.operated sat op b).still = x.still := by
  unfold TwdCore.operated
  split
  · exact x.operate_still sat op x
  · rfl

/-- What the rotation, the accounts of cycles and the next pc do not touch reads as the moves leave it. -/
theorem TwdCore.ran_as_moved {β : Type} (f : TwdCore → β)
    (hf : ∀ (z : TwdCore) ready rrb cycles pc loops, f { z with ready, rrb, cycles, pc, loops } = f z) (sat : Bool) (op : TOp)
    (b : Bundle) : f (x.ran sat op b) = f (x.moved b (x.operated sat op b)) := by
  unfold TwdCore.ran TwdCore.advance
  split <;> exact hf (x.moved b (x.operated sat _ b)) _ _ _ _ _

theorem TwdCore.ran_cycles (sat : Bool) (op : TOp) (b : Bundle) : (x.ran sat op b).cycles = x.issueAt op b + op.cost := by
  cases op <;> rfl

theorem TwdCore.ran_rrb (sat : Bool) (op : TOp) (b : Bundle) :
    (x.ran sat op b).rrb = if b.rot then (x.rrb + 15) % 16 else x.rrb := by
  cases op <;> rfl

theorem TwdCore.ran_acc (sat : Bool) (op : TOp) (b : Bundle) : (x.ran sat op b).acc = (x.operated sat op b).acc :=
  (x.ran_as_moved TwdCore.acc (fun _ _ _ _ _ _ => rfl) sat op b).trans (x.moved_acc b _)

/-- Where a bundle's own steps begin, its moves and its operation have left the core's place in its program. -/
theorem TwdCore.moved_operated_place (sat : Bool) (op : TOp) (b : Bundle) :
    (x.moved b (x.operated sat op b)).pc = x.pc ∧ (x.moved b (x.operated sat op b)).loops = x.loops :=
  have h : (x.moved b (x.operated sat op b)).still = x.still := (x.moved_still b _).trans (x.operated_still sat op b)
  ⟨TwdCore.pc_of_still h, TwdCore.loops_of_still h⟩

/-- An operation that is no control form goes on to the next bundle of the program or of its loops. -/
theorem TwdCore.ran_pc {op : TOp} (h : op.control = false) (sat : Bool) (b : Bundle) :
    (x.ran sat op b).pc = (closeLoops (x.pc + 1) x.loops).1 := by
  obtain ⟨hpc, hloops⟩ := x.moved_operated_place sat op b
  rw [← hpc, ← hloops]
  unfold TwdCore.ran TwdCore.advance
  split
  · cases h
  · cases h
  · cases h
  · rfl

theorem TwdCore.ran_lane (sat : Bool) (op : TOp) (b : Bundle) (a l : Nat) : (x.ran sat op b).lane a l =
    (x.operated sat op b).lane a l := by
  rw [TwdCore.lane, TwdCore.lane, x.ran_acc]

/-- A lane of the accumulator that an operation of the mac family changes. -/
theorem TwdCore.ran_mac_lane {b : Bundle} (ha : x.acts b.stg = true) (k : MacKind) (sat : Bool) (ad : Fin 8) (va vb : Fin 32)
    (sh : Fin 16) {l : Nat} (hl : l < 4) : (x.ran sat (.mac k ad va vb sh) b).lane ad l =
      (macCell k sat (product (Machine.lane (x.vec va) l) (Machine.lane (x.vec vb) l) sh) (x.cell (4 * ad + l))).1 := by
  rw [x.ran_lane, x.operated_of_acts ha]
  exact congrArg Prod.fst (x.operate_mac_cell k sat ad va vb sh ⟨l, hl⟩)

/-- A lane of one of the four accumulators that a quad operation changes. -/
theorem TwdCore.ran_qmac_lane {b : Bundle} (ha : x.acts b.stg = true) (k : MacKind) (sat : Bool) (ad : Fin 8) (va vb : Fin 32)
    (sh : Fin 16) {u l : Nat} (hu : u < 4) (hl : l < 4) : (x.ran sat (.qmac k ad va vb sh) b).lane (ad + u) l =
      (macCell k sat (product (Machine.lane (x.vec (va + u)) l) (Machine.lane (x.vec vb) l) sh) (x.cell (4 * (ad + u) + l))).1 := by
  rw [x.ran_lane, x.operated_of_acts ha]
  exact congrArg Prod.fst (x.operate_qmac_cell k sat ad va vb sh ⟨u, hu⟩ ⟨l, hl⟩)

/-- The vector that an operation writes reads as written: no move of a bundle that does not trap loads the same vector. -/
theorem TwdCore.ran_v_operated {b : Bundle} {n : Nat} (hn : n < 32) (hx : b.xm.vdst ≠ some n) (hy : b.ym.vdst ≠ some n) (sat : Bool)
    (op : TOp) : Tbl.get (fun _ => 0) (x.ran sat op b).v (x.phys n) = Tbl.get (fun _ => 0) (x.operated sat op b).v (x.phys n) := by
  have hm : ∀ isY m y, m.vdst ≠ some n → y.still = x.still →
      Tbl.get (fun _ => 0) (x.moveIf isY m y).v (x.phys n) = Tbl.get (fun _ => 0) y.v (x.phys n) := fun isY m y h hs =>
    x.moveIf_leaves (fun z => Tbl.get (fun _ => 0) z.v (x.phys n)) isY m y (by
      rw [← TwdCore.phys_of_still hs, x.moveField_v isY m y hn, if_neg h])
  have ho := x.operated_still sat op b
  rw [x.ran_as_moved TwdCore.v (fun _ _ _ _ _ _ => rfl), TwdCore.moved,
    hm true b.ym _ hy ((x.moveIf_leaves TwdCore.still false b.xm _ (x.moveField_still _ _ _)).trans ho), hm false b.xm _ hx ho]

/-! ### Bundles that trap, and bundles that do not (Table 08.15) -/

theorem clash_some {n : Nat} {o : Option Nat} (h : clash (some n) o = false) : o ≠ some n := by
  rintro rfl
  simp [clash] at h

/-- In a bundle that does not trap, no two of the operation and the moves write the same vector. -/
theorem TwdCore.apart_of_trapOf {op : TOp} {b : Bundle} (h : x.trapOf op b = none) :
    clash op.vdst b.xm.vdst = false ∧ clash op.vdst b.ym.vdst = false ∧ clash b.xm.vdst b.ym.vdst = false := by
  unfold TwdCore.trapOf at h
  dsimp only at h
  split at h
  · cases h
  · split at h
    · cases h
    · split at h
      · cases h
      next hc => simpa [and_assoc] using hc

/-- In a bundle that does not trap, no move post-modifies the address register that setx or sety sets. -/
theorem TwdCore.setx_apart {isY : Bool} {r : Fin 8} {addr : BitVec 14} {b : Bundle} (h : x.trapOf (.setx isY r addr) b = none) :
    (b.move isY).op = 0 ∨ (b.move isY).mod_ = 0 ∨ (b.move isY).r ≠ r := by
  unfold TwdCore.trapOf at h
  dsimp only at h
  split at h
  · cases h
  · split at h
    · cases h
    · split at h
      · cases h
      · have hp : ((b.move isY).op != 0 && (b.move isY).mod_ != 0 && (b.move isY).r == r) = false := by
          by_contra hc
          rw [Bool.not_eq_false] at hc
          exact absurd ((if_pos hc).symm.trans h) nofun
        simpa [imp_iff_not_or, or_assoc] using hp

/-- In a bundle that does not trap, an operation that acts leaves in its vector what it writes there. -/
theorem TwdCore.ran_vector {b : Bundle} {op : TOp} {vd : Fin 32} {w : Word128} {sat : Bool} (ha : x.acts b.stg = true)
    (ht : x.trapOf op b = none) (hv : op.vdst = some vd.val) (hw : (x.operate sat op x).1 = x.setVec vd w) :
    Tbl.get (fun _ => 0) (x.ran sat op b).v (x.phys vd) = w := by
  obtain ⟨hx, hy, -⟩ := x.apart_of_trapOf ht
  rw [hv] at hx hy
  rw [x.ran_v_operated vd.isLt (clash_some hx) (clash_some hy), x.operated_of_acts ha, hw, x.setVec_v vd.isLt vd.isLt, if_pos rfl]

/-! ### The state after a bundle -/

variable (s : State) {core : Nat} {op : TOp} {b : Bundle}

/-- A core that runs, and a bundle that does not trap and does not end the run. -/
theorem State.bundle_ran (hr : (s.twdCore core).run = true) (ht : (s.twdCore core).trapOf op b = none) (he : op ≠ .eob) :
    ∃ u : State, s.bundle core op b = u.setTwd core ((s.twdCore core).ran (s.flag F.TWD_CORE_CFG_ACC_SAT core) op b) := by
  simp only [State.bundle, hr, ht, Bool.not_true, Bool.false_eq_true, if_false]
  cases op
  case eob => exact absurd rfl he
  all_goals exact ⟨_, rfl⟩

theorem State.bundle_trap {t : TwdTrap} (hr : (s.twdCore core).run = true) (ht : (s.twdCore core).trapOf op b = some t) :
    s.bundle core op b = s.twdTrap core t := by
  simp only [State.bundle, hr, ht, Bool.not_true, Bool.false_eq_true, if_false]

/-- A command that is a bundle which neither traps nor ends the run completes with its core as the bundle leaves it. -/
theorem State.bundle_completes {o : Host.Outcome State Fault Refusal} {P : State → Prop} (ho : o = .next (s.bundle core op b))
    (hr : (s.twdCore core).run = true) (ht : (s.twdCore core).trapOf op b = none) (he : op ≠ .eob)
    (h : ∀ t : State, t.twdCore core = (s.twdCore core).ran (s.flag F.TWD_CORE_CFG_ACC_SAT core) op b → P t) : Completes P o := by
  obtain ⟨u, hu⟩ := s.bundle_ran hr ht he
  rw [ho, hu]
  exact .next (h _ (u.setTwd_twdCore core _))

end Sys2Proof.Machine
end

section
/-! Settles O35 from what each operation of a bundle writes. -/

open Sys2Proof Sys2Proof.Machine

/-- Settles O35, clause by clause: a lane reads what the operation makes of its cell, a vector what the operation writes, which no move
of the bundle loads as well. -/
theorem tweedArithmeticBundles : Obligations.TweedArithmeticBundles := by
  unfold Obligations.TweedArithmeticBundles
  refine ⟨?mac, ?msu, ?mpy, ?qmac, ?qmsu, ?qmpy, ?clr, ?rnd, ?vadd, ?vsub, ?vmov, ?vbc, ?vtoa⟩
  case mac =>
    intro core b ad va vb sh s hr ht ha
    refine s.bundle_completes rfl hr ht nofun fun t e => e ▸ ⟨fun l hl => ?_, TwdCore.ran_pc _ rfl _ b, TwdCore.ran_cycles _ _ _ b⟩
    exact (TwdCore.ran_mac_lane _ ha .add _ ad va vb sh hl).trans (macCell_sum (k := .add) nofun _ _ _)
  case msu =>
    intro core b ad va vb sh s hr ht ha
    refine s.bundle_completes rfl hr ht nofun fun t e => e ▸ ⟨fun l hl => ?_, TwdCore.ran_pc _ rfl _ b, TwdCore.ran_cycles _ _ _ b⟩
    exact (TwdCore.ran_mac_lane _ ha .sub _ ad va vb sh hl).trans (macCell_sum (k := .sub) nofun _ _ _)
  case mpy =>
    intro core b ad va vb sh s hr ht ha
    exact s.bundle_completes rfl hr ht nofun fun t e => e ▸ ⟨fun l hl => TwdCore.ran_mac_lane _ ha .set _ ad va vb sh hl,
      TwdCore.ran_pc _ rfl _ b, TwdCore.ran_cycles _ _ _ b⟩
  case qmac =>
    intro core b ad va vb sh s hr ht ha
    refine s.bundle_completes rfl hr ht nofun fun t e => e ▸ ⟨fun u hu l hl => ?_, TwdCore.ran_pc _ rfl _ b, TwdCore.ran_cycles _ _ _ b⟩
    exact (TwdCore.ran_qmac_lane _ ha .add _ ad va vb sh hu hl).trans (macCell_sum (k := .add) nofun _ _ _)
  case qmsu =>
    intro core b ad va vb sh s hr ht ha
    refine s.bundle_completes rfl hr ht nofun fun t e => e ▸ ⟨fun u hu l hl => ?_, TwdCore.ran_pc _ rfl _ b, TwdCore.ran_cycles _ _ _ b⟩
    exact (TwdCore.ran_qmac_lane _ ha .sub _ ad va vb sh hu hl).trans (macCell_sum (k := .sub) nofun _ _ _)
  case qmpy =>
    intro core b ad va vb sh s hr ht ha
    exact s.bundle_completes rfl hr ht nofun fun t e => e ▸ ⟨fun u hu l hl => TwdCore.ran_qmac_lane _ ha .set _ ad va vb sh hu hl,
      TwdCore.ran_pc _ rfl _ b, TwdCore.ran_cycles _ _ _ b⟩
  case clr =>
    intro core b mask s hr ht ha
    refine s.bundle_completes rfl hr ht nofun fun t e => e ▸ ⟨fun n hn l hl => ?_, TwdCore.ran_pc _ rfl _ b⟩
    rw [TwdCore.ran_lane, TwdCore.operated_of_acts _ ha]
    exact (congrArg Prod.fst (TwdCore.operate_clr_cell _ _ mask hn ⟨l, hl⟩)).trans (apply_ite Prod.fst _ _ _)
  case rnd =>
    intro core b vd ad fmt sh s hr ht ha
    exact s.bundle_completes rfl hr ht nofun fun t e => e ▸ ⟨TwdCore.ran_vector _ ha ht rfl rfl, TwdCore.ran_pc _ rfl _ b,
      TwdCore.ran_cycles _ _ _ b⟩
  case vadd =>
    intro core b vd va vb s hr ht ha
    exact s.bundle_completes rfl hr ht nofun fun t e => e ▸ ⟨TwdCore.ran_vector _ ha ht rfl rfl, TwdCore.ran_pc _ rfl _ b,
      TwdCore.ran_cycles _ _ _ b⟩
  case vsub =>
    intro core b vd va vb s hr ht ha
    exact s.bundle_completes rfl hr ht nofun fun t e => e ▸ ⟨TwdCore.ran_vector _ ha ht rfl rfl, TwdCore.ran_pc _ rfl _ b,
      TwdCore.ran_cycles _ _ _ b⟩
  case vmov =>
    intro core b vd va s hr ht ha
    exact s.bundle_completes rfl hr ht nofun fun t e => e ▸ ⟨TwdCore.ran_vector _ ha ht rfl rfl, TwdCore.ran_pc _ rfl _ b⟩
  case vbc =>
    intro core b vd va k s hr ht ha
    exact s.bundle_completes rfl hr ht nofun fun t e => e ▸ ⟨TwdCore.ran_vector _ ha ht rfl rfl, TwdCore.ran_pc _ rfl _ b⟩
  case vtoa =>
    intro core b ad va s hr ht ha
    refine s.bundle_completes rfl hr ht nofun fun t e => e ▸ ⟨fun l hl => ?_, TwdCore.ran_pc _ rfl _ b⟩
    rw [TwdCore.ran_lane, TwdCore.operated_of_acts _ ha]
    exact congrArg Prod.fst (TwdCore.operate_vtoa_cell _ _ ad va ⟨l, hl⟩)

end

section
/-! SUPPORT of O36: loops, branches, address registers and moves of a bundle, its trap, and the end of a run. -/

namespace Sys2Proof.Machine

variable (x : TwdCore) {b : Bundle}

/-! ### The forms that say where the program goes on (R349, R351) -/

theorem TwdCore.ran_loop (sat : Bool) (cnt : Fin 1024) (len : Fin 128) : (x.ran sat (.loop cnt len) b).pc = x.pc + 1 ∧
    (x.ran sat (.loop cnt len) b).loops = ⟨x.pc + 1, len + 1, 0, cnt, none⟩ :: x.loops := by
  obtain ⟨hpc, hloops⟩ := x.moved_operated_place sat (.loop cnt len) b
  rw [← hpc, ← hloops]
  exact ⟨rfl, rfl⟩

theorem TwdCore.ran_lpr (sat : Bool) (st : Fin 8) (cnt : Fin 1024) (len : Fin 16) : (x.ran sat (.lpr st cnt len) b).pc = x.pc + 1 ∧
    (x.ran sat (.lpr st cnt len) b).loops = ⟨x.pc + 1, len + 1, 0, cnt + st, some cnt⟩ :: x.loops := by
  obtain ⟨hpc, hloops⟩ := x.moved_operated_place sat (.lpr st cnt len) b
  rw [← hpc, ← hloops]
  exact ⟨rfl, rfl⟩

theorem TwdCore.ran_br (sat : Bool) {off : BitVec 17} (h : 0 ≤ x.pc + off.toInt) :
    ((x.ran sat (.br off) b).pc : Int) = x.pc + off.toInt ∧ (x.ran sat (.br off) b).loops = x.loops := by
  obtain ⟨hpc, hloops⟩ := x.moved_operated_place sat (.br off) b
  rw [← hpc] at h ⊢
  exact ⟨(congrArg Nat.cast (if_neg (not_lt.mpr h))).trans (Int.toNat_of_nonneg h), hloops⟩

/-! ### Address registers and moves (R323, R352) -/

theorem TwdCore.ran_areg (sat : Bool) (op : TOp) (r : Nat) :
    (x.ran sat op b).areg r = (x.moved b (x.operated sat op b)).areg r :=
  x.ran_as_moved (TwdCore.areg · r) (fun _ _ _ _ _ _ => rfl) sat op b

/-- The address registers of X moves are not those of Y moves. -/
theorem Move.areg_ne (m m' : Move) (isY : Bool) : m.areg isY ≠ m'.areg (!isY) := by
  have := m.r.isLt
  have := m'.r.isLt
  cases isY <;> simp only [Move.areg, Bool.not_true, Bool.not_false, Bool.false_eq_true, if_true, if_false] <;> omega

/-- setx and sety set their address register, which no move of a bundle that does not trap post-modifies. -/
theorem TwdCore.ran_setx {isY : Bool} {r : Fin 8} {addr : BitVec 14} (sat : Bool) (ha : x.acts b.stg = true)
    (ht : x.trapOf (.setx isY r addr) b = none) :
    ((x.ran sat (.setx isY r addr) b).areg (r.val + (if isY then 8 else 0))).addr = addr.toNat := by
  let q := r.val + (if isY then 8 else 0)
  have hm : ∀ isY' z, (x.moveField isY' (b.move isY') z).areg q = z.areg q := by
    intro isY' z
    rw [x.moveField_areg, if_neg]
    rintro ⟨hop, hmod, hr⟩
    by_cases hs : isY' = isY
    · subst hs
      have h := x.setx_apart ht
      have hr' : (b.move isY').r.val = r.val := (Nat.add_right_cancel hr).symm
      rcases h with h | h | h
      · exact hop h
      · exact hmod h
      · exact h (Fin.ext hr')
    · obtain rfl : isY' = !isY := Bool.eq_not.mpr hs
      exact Move.areg_ne { (b.move isY) with r := r } (b.move (!isY)) isY hr
  have hset : (x.operated sat (.setx isY r addr) b).areg q = { x.areg q with addr := addr.toNat % 16384 } := by
    rw [x.operated_of_acts ha]
    exact (x.setAddr_areg q q addr.toNat).trans (if_pos rfl)
  rw [x.ran_areg, x.moved_leaves (TwdCore.areg · q) b _ hm, hset]
  exact Nat.mod_eq_of_lt addr.isLt

theorem TwdCore.operated_nop (sat : Bool) : x.operated sat .nop b = x := by
  unfold TwdCore.operated
  split <;> rfl

theorem TwdCore.loaded_word (isY : Bool) {m : Move} (h : m.op = 1) :
    x.loaded isY m = readXY (x.mem isY) (x.areg (m.areg isY)).addr :=
  if_pos h

theorem TwdCore.loaded_lane (isY : Bool) {m : Move} (h : m.op = 3) :
    x.loaded isY m = lanes fun _ => Machine.lane (readXY (x.mem isY) (x.areg (m.areg isY)).addr) m.k :=
  if_neg (by rw [h]; decide)

/-- In a bundle that does not trap, the other move does not load the vector that a move loads. -/
theorem TwdCore.moves_apart {op : TOp} (ht : x.trapOf op b = none) {isY : Bool} {n : Nat} (h : (b.move isY).vdst = some n) :
    (b.move (!isY)).vdst ≠ some n := by
  obtain ⟨-, -, hc⟩ := x.apart_of_trapOf ht
  intro ho
  have hxy : b.xm.vdst = some n ∧ b.ym.vdst = some n := by
    cases isY
    · exact ⟨h, ho⟩
    · exact ⟨ho, h⟩
  exact clash_some (hxy.1 ▸ hc) hxy.2

section

variable {isY : Bool} {m : Move} (hb : b.move isY = m) (ha : x.acts m.stg = true) (sat : Bool)

include hb ha

/-- A move that acts post-modifies its address register (R323). -/
theorem TwdCore.ran_move_addr (hop : m.op ≠ 0) : ((x.ran sat .nop b).areg (m.areg isY)).addr =
    if m.mod_ = 0 then (x.areg (m.areg isY)).addr else (x.areg (m.areg isY)).step_ m.mod_ := by
  subst hb
  rw [x.ran_areg, x.operated_nop, x.moved_makes (TwdCore.areg · ((b.move isY).areg isY)) b x isY
    (c := fun a => if (b.move isY).mod_ = 0 then a else
      { a with addr := (x.areg ((b.move isY).areg isY)).step_ (b.move isY).mod_ }) ha (fun z _ => ?_) (fun z _ => ?_)]
  · split <;> rfl
  · rw [x.moveField_areg]
    by_cases h0 : (b.move isY).mod_ = 0
    · rw [if_neg fun e => e.2.1 h0, if_pos h0]
    · rw [if_pos ⟨hop, h0, rfl⟩, if_neg h0]
  · rw [x.moveField_areg, if_neg fun e => Move.areg_ne _ _ isY e.2.2]

/-- A load that acts leaves its word in its vector (R352). -/
theorem TwdCore.ran_move_loaded (ht : x.trapOf .nop b = none) (hv : m.vdst = some m.v.val) :
    Tbl.get (fun _ => 0) (x.ran sat .nop b).v (x.phys m.v) = x.loaded isY m := by
  subst hb
  have hn := (b.move isY).v.isLt
  rw [x.ran_as_moved TwdCore.v (fun _ _ _ _ _ _ => rfl), x.operated_nop,
    x.moved_makes (fun z => Tbl.get (fun _ => 0) z.v (x.phys (b.move isY).v)) b x isY (c := fun _ => x.loaded isY (b.move isY)) ha
      (fun z hz => ?_) (fun z hz => ?_)]
  · rw [← TwdCore.phys_of_still hz, x.moveField_v isY _ z hn, if_pos hv]
  · rw [← TwdCore.phys_of_still hz, x.moveField_v _ _ z hn, if_neg (x.moves_apart ht hv)]

/-- A store that acts leaves its vector in the memory of its side (R317, R352). -/
theorem TwdCore.ran_move_stored (hop : m.op = 2) : (x.ran sat .nop b).mem isY =
    (if isY then writeY else writeX) (x.mem isY) (x.areg (m.areg isY)).addr (x.vec m.v) := by
  subst hb
  rw [x.ran_as_moved (TwdCore.mem · isY) (fun _ _ _ _ _ _ => rfl), x.operated_nop]
  refine x.moved_makes (TwdCore.mem · isY) b x isY
    (c := fun t => (if isY then writeY else writeX) t (x.areg ((b.move isY).areg isY)).addr (x.vec (b.move isY).v)) ha
    (fun z _ => x.moveField_mem_store isY hop z) (fun z _ => ?_)
  simpa using x.moveField_mem_other (!isY) (b.move (!isY)) z

end

/-- A word below the IN and OUT windows that a program writes reads as written (R317). -/
theorem get_write_low (isY : Bool) (t : Tbl Word128) {a : Nat} (h : a < 0x3000) (w : Word128) :
    Tbl.get (fun _ => 0) ((if isY then writeY else writeX) t a w) a = w := by
  cases isY
  · exact (congrArg (Tbl.get (fun _ => 0) · a) (if_pos h)).trans (Tbl.get_set_same _ _ _ _)
  · exact (congrArg (Tbl.get (fun _ => 0) · a) (if_pos (h.trans (by decide)))).trans (Tbl.get_set_same _ _ _ _)

theorem Bundle.move_withMove (b : Bundle) (isY : Bool) (m : Move) : (b.withMove isY m).move isY = m := by
  cases isY <;> rfl

/-! ### A trap, and the end of a run (R322, R354) -/

variable (s : State) {core : Nat}

theorem State.twdTrap_core (t : TwdTrap) : (s.twdTrap core t).twdCore core = (s.twdCore core).spoil := by
  unfold State.twdTrap
  dsimp only
  rw [State.awlState_twdCore, State.irq_twdCore, State.setReg_twdCore, State.setFld_twdCore, State.setTwd_twdCore]

theorem State.twdTrap_state (t : TwdTrap) : (s.twdTrap core t).fld F.TWD_CORE_STAT_STATE core = twTrapped := by
  unfold State.twdTrap
  dsimp only
  rw [State.awlState_fld _ _ _ _ _ _ (by decide), State.irq_fld _ _ (by decide), State.fld_setReg_ne _ (by decide),
    State.fld_setFld_same _ _ _ _ (by decide)]
  rfl

/-- TWD_CORE_TRAP shows the number of the trap in its field CODE. -/
theorem State.twdTrap_code (t : TwdTrap) : ((s.twdTrap core t).reg .TWD_CORE_TRAP core).toNat / 2 ^ 28 = t.code := by
  have hbank : s.fld F.TWD_CORE_STAT_BANK core < 2 := Nat.mod_lt _ (by decide)
  have hcode : t.code < 4 := by cases t <;> decide
  unfold State.twdTrap
  dsimp only
  rw [State.awlState_reg _ _ _ _ _ _ (by decide), State.irq_reg _ _ (by decide), State.reg_setReg_same, Reg.fit_toNat rfl,
    BitVec.toNat_ofNat]
  omega

/-- The image that is written back depends on the address registers and on X alone. -/
theorem TwdCore.writeBack_x_congr {x y : TwdCore} (har : y.ar = x.ar) (hx : y.x = x.x) : y.writeBack.x = x.writeBack.x := by
  simp only [TwdCore.writeBack, TwdCore.areg, har, hx]

/-- The state after eob: the run ended, with the address registers written back, and the cycles are shown (R322). -/
theorem State.twdEnd_shows (y : TwdCore) : (s.twdEnd core y).twdCore core = { y.writeBack with run := false, ended := true } ∧
    ((s.twdEnd core y).reg .TWD_CORE_CYC core).toNat = satTo 18 y.cycles := by
  have hcyc : ∀ u : State, ((u.setReg .TWD_CORE_CYC core (BitVec.ofNat 64 (satTo 18 y.cycles))).reg .TWD_CORE_CYC core).toNat =
      satTo 18 y.cycles := by
    intro u
    have hsat : satTo 18 y.cycles < 2 ^ 18 := by unfold satTo; split <;> omega
    rw [State.reg_setReg_same, Reg.fit_toNat rfl, BitVec.toNat_ofNat]
    omega
  unfold State.twdEnd
  extract_lets src z n u
  have hz : u.twdCore core = z := State.setTwd_twdCore _ _ _
  split
  · exact ⟨hz, (congrArg BitVec.toNat (State.reg_setReg_other _ (by decide) _ _ _)).trans (hcyc _)⟩
  · exact ⟨hz, hcyc _⟩

/-- eob without moves ends the run of the core as it stands, one cycle on. -/
theorem State.bundle_eob (hr : (s.twdCore core).run = true) (ht : (s.twdCore core).trapOf .eob b = none) (hx : b.xm.op = 0)
    (hy : b.ym.op = 0) : ∃ y : TwdCore, s.bundle core .eob b = s.twdEnd core y ∧ y.cycles = (s.twdCore core).issueAt .eob b + 1 ∧
      y.ar = (s.twdCore core).ar ∧ y.x = (s.twdCore core).x ∧ y.y = (s.twdCore core).y := by
  have hm : ∀ isY (m : Move) y, m.op = 0 → (if (s.twdCore core).acts m.stg then (s.twdCore core).moveField isY m y else y) = y := by
    intro isY m y h
    split
    · exact if_pos h
    · rfl
  simp only [State.bundle, hr, ht, Bool.not_true, Bool.false_eq_true, if_false, TwdCore.operate, ite_self, hm _ _ _ hx, hm _ _ _ hy]
  exact ⟨_, rfl, rfl, rfl, rfl, rfl⟩

end Sys2Proof.Machine
end

section
/-! Settles O36 from the core after each form of a bundle, and from the trap. -/

open Sys2Proof Sys2Proof.Machine

/-- Settles O36, clause by clause: the core after each form of a bundle, whose moves leave each other's registers alone, and the trap's
record. -/
theorem tweedControlMovesAndTraps : Obligations.TweedControlMovesAndTraps := by
  unfold Obligations.TweedControlMovesAndTraps
  refine ⟨?nop, ?trap, ?loop, ?lpr, ?br, ?setx, ?sety, ?eob, ?vld, ?vst, ?vbl⟩
  case nop =>
    intro core b s hr ht
    refine s.bundle_completes rfl hr ht nofun fun t e => e ▸ ⟨TwdCore.ran_pc _ rfl _ b, TwdCore.ran_cycles _ _ _ b,
      TwdCore.ran_rrb _ _ _ b, ?_⟩
    rw [TwdCore.ran_acc, TwdCore.operated_nop]
  case trap =>
    intro core b tr s hr ht
    have he : exec (.twdNop core b) s = .next (s.twdTrap core tr) := congrArg Host.Outcome.next (s.bundle_trap hr ht)
    rw [he]
    refine .next ⟨s.twdTrap_state tr, ?_, ?_, s.twdTrap_code tr, ?_⟩ <;> rw [s.twdTrap_core] <;> rfl
  case loop =>
    intro core b cnt len s hr ht
    exact s.bundle_completes rfl hr ht nofun fun t e => e ▸ TwdCore.ran_loop _ _ cnt len
  case lpr =>
    intro core b st cnt len s hr ht
    exact s.bundle_completes rfl hr ht nofun fun t e => e ▸ TwdCore.ran_lpr _ _ st cnt len
  case br =>
    intro core b off s hr ht hoff
    refine s.bundle_completes rfl hr ht nofun fun t e => e ▸ ?_
    obtain ⟨hpc, hloops⟩ := TwdCore.ran_br _ (b := b) (s.flag F.TWD_CORE_CFG_ACC_SAT core) hoff
    exact ⟨hpc, TwdCore.ran_cycles _ _ _ b, hloops⟩
  case setx =>
    intro core b r addr s hr ht ha
    exact s.bundle_completes rfl hr ht nofun fun t e => e ▸ ⟨TwdCore.ran_setx _ _ ha ht, TwdCore.ran_pc _ rfl _ b⟩
  case sety =>
    intro core b r addr s hr ht ha
    exact s.bundle_completes rfl hr ht nofun fun t e => e ▸ ⟨TwdCore.ran_setx _ _ ha ht, TwdCore.ran_pc _ rfl _ b⟩
  case eob =>
    intro core b s hr ht hx hy
    obtain ⟨y, he, hcyc, har, hx, hy⟩ := s.bundle_eob hr ht hx hy
    have hexec : exec (.twdEob core b) s = .next (s.twdEnd core y) := congrArg Host.Outcome.next he
    obtain ⟨hcore, hshown⟩ := s.twdEnd_shows (core := core) y
    rw [hexec]
    refine .next ⟨?_, ?_, ?_, ?_, hcyc ▸ hshown⟩ <;> rw [hcore]
    · exact TwdCore.writeBack_x_congr har hx
    · exact hy
  case vld =>
    intro core b y m s hr ht ha
    have hb := b.move_withMove y { m with op := 1 }
    exact s.bundle_completes rfl hr ht nofun fun t e => e ▸ ⟨(TwdCore.ran_move_loaded _ hb ha _ ht rfl).trans
      (TwdCore.loaded_word _ y rfl), TwdCore.ran_move_addr _ hb ha _ nofun, TwdCore.ran_pc _ rfl _ _⟩
  case vst =>
    intro core b y m s hr ht ha hlow
    have hb := b.move_withMove y { m with op := 2 }
    refine s.bundle_completes rfl hr ht nofun fun t e => e ▸ ⟨?_, TwdCore.ran_move_addr _ hb ha _ nofun, TwdCore.ran_pc _ rfl _ _⟩
    exact (congrArg (Tbl.get (fun _ => 0) · _) (TwdCore.ran_move_stored _ hb ha _ rfl)).trans (get_write_low y _ hlow _)
  case vbl =>
    intro core b y m s hr ht ha
    have hb := b.move_withMove y { m with op := 3 }
    exact s.bundle_completes rfl hr ht nofun fun t e => e ▸ ⟨(TwdCore.ran_move_loaded _ hb ha _ ht rfl).trans
      (TwdCore.loaded_lane _ y rfl), TwdCore.ran_move_addr _ hb ha _ nofun, TwdCore.ran_pc _ rfl _ _⟩

end

section
/-! SUPPORT of O38: a write of a Tweed register that joins the pending set of its core. -/

namespace Sys2Proof.Machine

variable (s : State)

/-! ### The pending set of a core (R341, R343) -/

/-- A word as it waits in the pending set: its register, the element, and its writable bits. -/
abbrev pendingWrite (r : Reg) (i : Nat) (v : Word) : Reg × Nat × Word := (r, i, v &&& BitVec.ofNat 64 r.info.mask)

theorem State.pendTwd_keeps (c : Nat) (r : Reg) (i : Nat) (v : Word) :
    Frame ⟨[.host, .sent, .twd, .resp], [.GLB_INT_SUM, .TWD_INT_STAT, .TWD_CORE_STAT]⟩ s (s.pendTwd c r i v) :=
  State.pendTwd_frame (.refl _ s) (.refl _) (.refl _)

/-- A write for a core that does not drain joins its pending set and is answered OK. -/
theorem State.pendTwd_joins {c : Nat} (h : s.fld F.TWD_CORE_STAT_STATE c ≠ twDraining) (r : Reg) (i : Nat) (v : Word) :
    ((s.pendTwd c r i v).twdCore c).pend = (s.twdCore c).pend ++ [pendingWrite r i v] ∧ (s.pendTwd c r i v).resp = .OK := by
  unfold State.pendTwd
  rw [if_neg h]
  exact ⟨congrArg TwdCore.pend (s.setTwd_twdCore c _), rfl⟩

/-- So does one that is made once a reservation is held, which changes neither the cores nor their states. -/
theorem State.pendTwd_joins_after {u : State} {f : Foot} (hu : Frame f s u) (hr : .TWD_CORE_STAT ∉ f.regs) (hp : .twd ∉ f.parts)
    {c : Nat} (h : s.fld F.TWD_CORE_STAT_STATE c ≠ twDraining) (r : Reg) (i : Nat) (v : Word) :
    ((u.pendTwd c r i v).twdCore c).pend = (s.twdCore c).pend ++ [pendingWrite r i v] ∧ (u.pendTwd c r i v).resp = .OK := by
  have htwd : u.twd = s.twd := hu.parts .twd hp
  have hj := u.pendTwd_joins (by rw [hu.fld hr]; exact h) r i v
  rwa [show u.twdCore c = s.twdCore c by rw [State.twdCore, State.twdCore, htwd]] at hj

theorem State.pendTwd_brx (c : Nat) (r : Reg) (i : Nat) (v : Word) : (s.pendTwd c r i v).twd.brx = s.twd.brx := by
  unfold State.pendTwd
  split
  · rw [State.irq_twd]
  · rfl

/-! ### The branches of the writes (R331 to R339, R356) -/

section

variable {src : Requester} {v : Word}

theorem State.writePlace_badArg {k : Nat} (ho : s.closedTo .TWD_PLACE src = false) (sender : Nat)
    (h : F.TWD_PLACE_BASE.of v % 4 ≠ 0 ∨ crossesCore (F.TWD_PLACE_BASE.of v) (s.placeLen k) = true) :
    s.writePlace src k v sender = s.answer .BAD_ARG := by
  rw [State.writePlace, State.guarded_of_open s ho]
  exact if_pos h

theorem State.writePlace_pends {k sender : Nat} (ho : s.closedTo .TWD_PLACE src = false) (ha : F.TWD_PLACE_BASE.of v % 4 = 0)
    (hc : crossesCore (F.TWD_PLACE_BASE.of v) (s.placeLen k) = false)
    (hl : s.placeOverlaps k (F.TWD_PLACE_BASE.of v) (s.placeLen k) = false)
    (ht : s.placeTb k sender = s.coreTb (F.TWD_PLACE_BASE.of v / 1024)) :
    s.writePlace src k v sender = s.pendTwd (F.TWD_PLACE_BASE.of v / 1024) .TWD_PLACE k v := by
  rw [State.writePlace, State.guarded_of_open s ho]
  dsimp only
  rw [if_neg (by simp [ha, hc]), if_neg (by simp [hl, ht])]

theorem State.writeFollow_pends {n : Nat} (ho : s.closedTo .TWD_FOLLOW src = false) (hm : F.TWD_FOLLOW_MODE.of v ≠ 3)
    (hc : F.TWD_FOLLOW_MODE.of v = 2 → crossesCore (F.TWD_FOLLOW_BASE.of v) (s.followLen n) = false) :
    s.writeFollow src n v = s.pendTwd (F.TWD_FOLLOW_BASE.of v / 1024) .TWD_FOLLOW n v := by
  rw [State.writeFollow, State.guarded_of_open s ho]
  refine if_neg ?_
  rintro (h | ⟨h, h'⟩)
  · exact hm h
  · exact Bool.noConfusion ((hc h).symm.trans h')

theorem State.writeBtxFlow_pends {n : Nat} (ho : s.closedTo .TWD_BTX_FLOW src = false)
    (hv : F.TWD_BTX_CFG_VALID.on (s.effReg .TWD_BTX_CFG n) = false) :
    s.writeBtxFlow src n v = s.pendTwd (F.TWD_BTX_CFG_BASE.of (s.effReg .TWD_BTX_CFG n) / 1024) .TWD_BTX_FLOW n v := by
  rw [State.writeBtxFlow, State.guarded_of_open s ho]
  exact if_neg (by simp [hv])

theorem State.writeBtxCfg_badArg (n : Nat) (ho : s.closedTo .TWD_BTX_CFG src = false) (h : F.TWD_BTX_CFG_BASE.of v % 64 ≠ 0) :
    s.writeBtxCfg src n v = s.answer .BAD_ARG := by
  rw [State.writeBtxCfg, State.guarded_of_open s ho]
  exact if_pos h

theorem State.writeBtxCfg_pends {n : Nat} {u : State} (ho : s.closedTo .TWD_BTX_CFG src = false)
    (ha : F.TWD_BTX_CFG_BASE.of v % 64 = 0) (hf : s.bundleFlow (F.TWD_BTX_FLOW_FLOW.of (s.effReg .TWD_BTX_FLOW n)) = true)
    (hu : s.reserveOut (btxChannels (s.effReg .TWD_BTX_CFG n)) (btxChannels v) = some u) :
    s.writeBtxCfg src n v = u.pendTwd (F.TWD_BTX_CFG_BASE.of v / 1024) .TWD_BTX_CFG n v := by
  rw [State.writeBtxCfg, State.guarded_of_open s ho]
  dsimp only
  rw [if_neg (by simp [ha]), if_neg (by simp [hf]), hu]

theorem State.writeBrxCfg_badArg (n : Nat) (h : RouteHop) (ho : s.closedTo .TWD_BRX_CFG src = false)
    (hd : F.TWD_BRX_CFG_DELAY.of v = 0 ∨ 8 < F.TWD_BRX_CFG_DELAY.of v) : s.writeBrxCfg src n v h = s.answer .BAD_ARG := by
  rw [State.writeBrxCfg, State.guarded_of_open s ho]
  exact if_pos hd

variable (hpos : 0 < F.TWD_BRX_CFG_DELAY.of v) (hmax : F.TWD_BRX_CFG_DELAY.of v ≤ 8) {n : Nat}
  (ho : s.closedTo .TWD_BRX_CFG src = false) (hwas : F.TWD_BRX_CFG_VALID.on (s.effReg .TWD_BRX_CFG n) = false)

include hpos hmax ho hwas

/-- A receiver that neither was valid nor becomes so asks for no route. -/
theorem State.writeBrxCfg_pends (h : RouteHop) {u : State} (hnow : F.TWD_BRX_CFG_VALID.on v = false) (hu : s.reserveIn 0 0 = some u) :
    s.writeBrxCfg src n v h =
      u.pendTwd (F.TWD_PLACE_BASE.of (s.effReg .TWD_PLACE (1168 + n)) / 1024) .TWD_BRX_CFG n v := by
  rw [State.writeBrxCfg, State.guarded_of_open s ho]
  dsimp only
  rw [if_neg (by omega), hwas, hnow]
  simp [hu]

/-- A receiver that becomes valid, and whose route is admitted, is fed by that route. -/
theorem State.writeBrxCfg_routes {h : RouteHop} {u w : State} (hnow : F.TWD_BRX_CFG_VALID.on v = true) (hu : s.reserveIn 0 64 = some u)
    (hw : u.hold { h with flow := F.TWD_BRX_CFG_FLOW.of v, egress := [160 + n / 8] } = (w, .OK)) : ∃ (req : Option Nat) (c : Nat),
    s.writeBrxCfg src n v h = (State.dropRoute
      { w with twd := { w.twd with brx := Tbl.set (fun _ => none) n (some h.req) w.twd.brx } } req).pendTwd c .TWD_BRX_CFG n v := by
  rw [State.writeBrxCfg, State.guarded_of_open s ho]
  dsimp only
  rw [if_neg (by omega), hwas, hnow]
  simp only [Bool.false_eq_true, if_false, if_true, hu, hw, Bool.not_false, Bool.true_or, Bool.and_true]
  exact ⟨_, _, rfl⟩

end

/-! ### The commands -/

theorem exec_twdPlaceWrite (src : Requester) (k : Fin 1184) (w : Word32) (sender : Fin 4) :
    exec (.twdPlaceWrite src k w sender) s = .next (s.writePlace src k (w.setWidth 64) sender) := rfl
theorem exec_twdFollowWrite (src : Requester) (n : Fin 400) (w : Word32) :
    exec (.twdFollowWrite src n w) s = .next (s.writeFollow src n (w.setWidth 64)) := rfl
theorem exec_bundleSenderWrite_flow (src : Requester) (n : Fin 16) (w : Word32) :
    exec (.bundleSenderWrite src n true w) s = .next (s.writeBtxFlow src n (w.setWidth 64)) := rfl
theorem exec_bundleSenderWrite_cfg (src : Requester) (n : Fin 16) (w : Word32) :
    exec (.bundleSenderWrite src n false w) s = .next (s.writeBtxCfg src n (w.setWidth 64)) := rfl
theorem exec_bundleReceiverWrite (src : Requester) (r : Fin 16) (w : Word32) (h : RouteHop) :
    exec (.bundleReceiverWrite src r w h) s = .next (s.writeBrxCfg src r (w.setWidth 64) h) := rfl

end Sys2Proof.Machine
end

section
/-! Settles O38 from the branches of the writes of Tweed's placements, follow streams and bundles. -/

open Sys2Proof Sys2Proof.Machine

/-- Settles O38, clause by clause: each write that passes its checks is one that joins a pending set. -/
theorem tweedPlacementsFollowsAndBundles : Obligations.TweedPlacementsFollowsAndBundles := by
  unfold Obligations.TweedPlacementsFollowsAndBundles
  refine ⟨?placeBad, ?place, ?follow, ?flow, ?sender, ?senderBad, ?receiverBad, ?receiver, ?route⟩
  case placeBad =>
    intro src k w sender s ho h
    rw [exec_twdPlaceWrite, State.writePlace_badArg s ho sender h]
    exact .next rfl
  case place =>
    intro src k w sender s ho ha hc hl ht hst
    rw [exec_twdPlaceWrite, State.writePlace_pends s ho ha hc hl ht]
    obtain ⟨hpend, hresp⟩ := s.pendTwd_joins hst .TWD_PLACE k (w.setWidth 64)
    exact .next ⟨hpend, (s.pendTwd_keeps _ _ _ _).regs _ _ (by decide), hresp⟩
  case follow =>
    intro src n w s ho hm hc hst
    rw [exec_twdFollowWrite, State.writeFollow_pends s ho hm hc]
    obtain ⟨hpend, hresp⟩ := s.pendTwd_joins hst .TWD_FOLLOW n (w.setWidth 64)
    exact .next ⟨hpend, (s.pendTwd_keeps _ _ _ _).regs _ _ (by decide), hresp⟩
  case flow =>
    intro src n w s ho hv hst
    rw [exec_bundleSenderWrite_flow, State.writeBtxFlow_pends s ho hv]
    exact .next (s.pendTwd_joins hst .TWD_BTX_FLOW n (w.setWidth 64))
  case sender =>
    intro src n w u s ho ha hf hu hst
    have hkeeps := s.reserveOut_keeps hu
    rw [exec_bundleSenderWrite_cfg, State.writeBtxCfg_pends s ho ha hf hu]
    obtain ⟨hpend, hresp⟩ := s.pendTwd_joins_after hkeeps (by decide) (by decide) hst .TWD_BTX_CFG n (w.setWidth 64)
    exact .next ⟨hpend, hresp, ((u.pendTwd_keeps _ _ _ _).regs _ _ (by decide)).trans (hkeeps.regs _ _ (by decide))⟩
  case senderBad =>
    intro src n w s ho h
    rw [exec_bundleSenderWrite_cfg, State.writeBtxCfg_badArg s n ho h]
    exact .next rfl
  case receiverBad =>
    intro src r w h s ho hd
    rw [exec_bundleReceiverWrite, State.writeBrxCfg_badArg s r h ho hd]
    exact .next rfl
  case receiver =>
    intro src r w h s ho hpos hmax hnow hwas hst hroom
    obtain ⟨u, hu⟩ := Option.isSome_iff_exists.mp hroom
    rw [exec_bundleReceiverWrite, State.writeBrxCfg_pends s hpos hmax ho hwas h hnow hu]
    exact .next (s.pendTwd_joins_after (s.reserveIn_keeps hu) (by decide) (by decide) hst .TWD_BRX_CFG r (w.setWidth 64))
  case route =>
    intro src r w h u v s ho hpos hmax hnow hwas hu hv
    obtain ⟨req, c, he⟩ := State.writeBrxCfg_routes s hpos hmax ho hwas hnow hu hv
    rw [exec_bundleReceiverWrite, he]
    refine .next ?_
    rw [State.pendTwd_brx, (State.dropRoute_keeps _ req).parts .twd (by decide)]
    exact Tbl.get_set_same (fun _ => none) r.val (some h.req) v.twd.brx

end

section
/-! SUPPORT of O37: samples in the input bank, runs that start, overrun and are presented, and the stop of the cores. -/

namespace Sys2Proof.Machine

variable (s : State)

/-! ### Lanes and bytes of a word (R319) -/

/-- Bits of a 128-bit word that are replaced read as the bits put there. -/
theorem bits_replaced (w : Word128) (n k : Nat) (v : BitVec n) (h : k + n ≤ 128) :
    BitVec.ofNat n (((w &&& ~~~(BitVec.ofNat 128 ((2 ^ n - 1) * 2 ^ k))) ||| BitVec.ofNat 128 (v.toNat * 2 ^ k)).toNat >>> k) = v := by
  apply BitVec.eq_of_getLsbD_eq
  intro i hi
  have hlt : k + i < 128 := by omega
  rw [BitVec.getLsbD_ofNat, Nat.testBit_shiftRight, ← BitVec.getLsbD, BitVec.getLsbD_or, BitVec.getLsbD_and, BitVec.getLsbD_not,
    BitVec.getLsbD_ofNat, BitVec.getLsbD_ofNat, Nat.testBit_mul_two_pow, Nat.testBit_mul_two_pow, Nat.testBit_two_pow_sub_one]
  simp [hi, hlt, BitVec.getLsbD]

theorem lane_setLane (w : Word128) {l : Nat} (h : l < 4) (v : BitVec 32) : lane (setLane w l v) l = v :=
  bits_replaced w 32 (32 * l) v (by omega)

theorem byteOf_setByte (w : Word128) {b : Nat} (h : b < 16) (v : Byte) : byteOf (setByte w b v) b = v :=
  bits_replaced w 8 (8 * b) v (by omega)

/-! ### Samples (R319, R321) -/

/-- A sample that is put into a window reads as put. -/
theorem putSample_lane (t : Tbl Word128) (slot n : Nat) (v : BitVec 32) :
    lane (Tbl.get (fun _ => 0) (putSample t slot n v) (slotWord slot n)) (slot % 4) = v := by
  rw [putSample, Tbl.get_set_same, lane_setLane _ (Nat.mod_lt _ (by decide))]

/-- Flags that are set in a window leave the words of its samples alone. -/
theorem orFlags_sample (t : Tbl Word128) (slot : Fin 1024) (n : Fin 8) (f : Byte) :
    Tbl.get (fun _ => 0) (orFlags t slot f) (slotWord slot n) = Tbl.get (fun _ => 0) t (slotWord slot n) := by
  refine Tbl.get_set_other _ _ _ _ _ ?_
  unfold slotWord flagWord
  omega

/-- INVALID that is set in a window reads as set. -/
theorem orFlags_invalid (t : Tbl Word128) (slot : Nat) :
    (byteOf (Tbl.get (fun _ => 0) (orFlags t slot 1) (flagWord slot)) (slot % 16)).getLsbD 0 = true := by
  rw [orFlags, Tbl.get_set_same, byteOf_setByte _ (Nat.mod_lt _ (by decide)), BitVec.getLsbD_or]
  simp

/-- The record of a core with a sample in its input bank. -/
theorem State.bankSample_core (c slot n : Nat) (v : BitVec 32) (flags : Byte) :
    ((s.bankSample c slot n v flags).twdCore c).bank = (if flags = 0 then putSample (s.twdCore c).bank slot n v
      else orFlags (putSample (s.twdCore c).bank slot n v) slot flags) ∧ slot ∈ ((s.bankSample c slot n v flags).twdCore c).got := by
  rw [State.bankSample, State.setTwd_twdCore]
  refine ⟨rfl, ?_⟩
  dsimp only
  split
  next h => simpa using h
  next => exact List.mem_cons_self

theorem exec_tweedSampleWrite_good (core : Fin 8) (slot : Fin 1024) (n : Fin 8) (v : BitVec 32) :
    exec (.tweedSampleWrite core slot n v .good none) s = .next (s.bankSample core slot n v 0) :=
  congrArg (fun f => Host.Outcome.next (s.bankSample core slot n v f))
    (by decide : (0 : Byte) ||| (if SampleKind.good = .slip then 2 else 0) = 0)

theorem exec_tweedSampleWrite_missing (core : Fin 8) (slot : Fin 1024) (n : Fin 8) (v : BitVec 32)
    (asp : Option (Fin 16 × Fin 16)) : exec (.tweedSampleWrite core slot n v .missing asp) s =
      .next (((s.bankSample core slot n 0 1).count .TWD_CORE_UNDER core 1).irq Irq.TWD_UNDERRUN) := rfl

/-! ### Runs (R322, R326, R327) -/

theorem State.showTbmis_keeps (c : Nat) : Frame ⟨[], [.TWD_PLACE]⟩ s (s.showTbmis c) :=
  Frame.foldl (fun _ _ h => State.setFlag_frame h (by decide)) _ (.refl _ s)

/-- A core that starts a run: at its entry, with cleared registers and an empty input bank, its block and its state shown. -/
theorem State.startRun_shows (c j : Nat) (filled : Bool) {st : Nat} (hst : st < 8) :
    ((s.startRun c j filled st).twdCore c).run = true ∧ ((s.startRun c j filled st).twdCore c).pc = s.fld F.TWD_CORE_RUN_ENTRY c ∧
    ((s.startRun c j filled st).twdCore c).v = [] ∧ ((s.startRun c j filled st).twdCore c).acc = [] ∧
    ((s.startRun c j filled st).twdCore c).bank = [] ∧
    (s.startRun c j filled st).reg .TWD_CORE_BLK c = BitVec.ofNat 64 (j % 2 ^ 32) ∧
    (s.startRun c j filled st).fld F.TWD_CORE_STAT_STATE c = st := by
  have hentry := (s.showTbmis_keeps c).fld (g := F.TWD_CORE_RUN_ENTRY) (by decide) c
  unfold State.startRun
  extract_lets u x src y
  rw [State.setFld_twdCore, State.setReg_twdCore, State.setTwd_twdCore]
  refine ⟨rfl, hentry, rfl, rfl, rfl, ?_, ?_⟩
  · rw [State.reg_setFld_ne _ (by decide), State.reg_setReg_same]
    apply BitVec.eq_of_toNat_eq
    rw [Reg.fit_toNat rfl, BitVec.toNat_ofNat]
    omega
  · rw [State.fld_setFld_same _ _ _ _ (by decide)]
    exact Nat.mod_eq_of_lt hst

/-- A core in RUN with no armed apply starts the run of the block. -/
theorem exec_tweedRunStart_running {core : Fin 8} (he : s.flag F.TWD_CTRL_EN 0 = true)
    (ha : s.flag F.TWD_CORE_STAT_ARMED core = false) (hst : s.fld F.TWD_CORE_STAT_STATE core = twRun) (j : Nat) (filled : Bool) :
    exec (.tweedRunStart core j filled) s = .next (s.startRun core j filled twRun) := by
  change execTweedRunStart core j filled s = _
  simp only [execTweedRunStart, he, ha, hst, Bool.not_true, Bool.false_and, Bool.false_eq_true, if_false, if_true]
  rw [if_neg (by decide)]

/-- The record of a core whose run overran (R327). -/
def TwdCore.overran (x : TwdCore) : TwdCore := { x.spoil with overrun := true }

/-- A run past its deadline is stopped and counted, whatever is reported beside it. -/
theorem exec_tweedRunDeadline_overrun {core : Fin 8} (hr : (s.twdCore core).run = true) (uncorr : Bool) :
    ∃ t : State, exec (.tweedRunDeadline core uncorr) s = .next t ∧ t.twdCore core = (s.twdCore core).overran ∧
      t.reg .TWD_CORE_OVR core = s.counted .TWD_CORE_OVR core 1 := by
  let u := s.setTwd core (s.twdCore core).overran
  let w := if uncorr then u.event Irq.TWD_MEM_UNCORR core 0 else u
  let z := (w.count .TWD_CORE_OVR core 1).irq Irq.TWD_OVERRUN
  have hexec : exec (.tweedRunDeadline core uncorr) s =
      .next (if (s.twdCore core).overrun then z else z.awlCause Irq.TWD_OVERRUN false core 0) :=
    congrArg Host.Outcome.next (if_neg (by simp [hr]))
  have hw : w.twdCore core = (s.twdCore core).overran ∧ w.reg .TWD_CORE_OVR core = s.reg .TWD_CORE_OVR core := by
    have hu : u.twdCore core = (s.twdCore core).overran := s.setTwd_twdCore core _
    cases uncorr
    · exact ⟨hu, rfl⟩
    · exact ⟨(u.event_twdCore _ _ _ _).trans hu, u.event_reg _ _ _ (by decide) _⟩
  have hz : z.twdCore core = (s.twdCore core).overran ∧ z.reg .TWD_CORE_OVR core = s.counted .TWD_CORE_OVR core 1 := by
    refine ⟨(State.irq_twdCore _ _ _).trans hw.1, ?_⟩
    rw [State.irq_reg _ _ (by decide), State.reg_count_counted, State.counted_congr hw.2]
  refine ⟨_, hexec, ?_⟩
  split
  · exact hz
  · exact ⟨(z.awlCause_twdCore _ _ _ _ _).trans hz.1, (z.awlCause_reg _ _ _ _ (by decide) _).trans hz.2⟩

/-- The record of a core whose block is presented: its OUT bank where its run ended, INVALID slots otherwise (R326). -/
def TwdCore.presented (x : TwdCore) : TwdCore :=
  let ok := x.ended && !x.bad
  { x with
    out := if ok then x.y.filter fun e => 0x3000 ≤ e.1 else []
    outBad := !ok
    ended := false
    bad := false
    overrun := x.overrun && !ok }

/-- Presenting a block without ramps changes the core's record, and after that only what follows it at outputs and in registers. -/
theorem exec_tweedBlockPresent_presents (core : Fin 8) : ∃ t : State, exec (.tweedBlockPresent core []) s = .next t ∧
    t.twdCore core = (s.twdCore core).presented ∧ t.sent = s.sent := by
  let f : Foot := ⟨[.egr], [.TWD_STATUS, .TWD_CORE_STAT]⟩
  let u := s.setTwd core (s.twdCore core).presented
  let w := if s.fld F.TWD_CORE_STAT_STATE core = twDraining then u.setFld F.TWD_CORE_STAT_STATE core twOff else u
  have hw : Frame f u w := .ite (State.setFld_frame (.refl _ u) (by decide)) (.refl _ u)
  have ht : Frame f u w.followTakes.twdIdle := State.twdIdle_frame (State.followTakes_frame hw (by decide)) (by decide)
  have htwd : w.followTakes.twdIdle.twd = u.twd := ht.parts .twd (by decide)
  refine ⟨w.followTakes.twdIdle, rfl, ?_, ht.parts .sent (by decide)⟩
  rw [State.twdCore, htwd]
  exact s.setTwd_twdCore core _

/-! ### The stop of the cores (R343) -/

/-- A core that runs drains, and one that had trapped goes OFF. -/
def State.drainCore (s : State) (c : Nat) : State :=
  let st := s.fld F.TWD_CORE_STAT_STATE c
  if st = twRun then s.setFld F.TWD_CORE_STAT_STATE c twDraining
  else if st = twTrapped then s.setFld F.TWD_CORE_STAT_STATE c twOff
  else s

/-- The state of a core that ran or had trapped, once the cores drain. -/
def drainState (st : Nat) : Nat := if st = twRun then twDraining else if st = twTrapped then twOff else st

theorem State.drainCore_keeps (c : Nat) : Frame ⟨[], [.TWD_CORE_STAT]⟩ s (s.drainCore c) :=
  .ite (State.setFld_frame (.refl _ s) (by decide)) (.ite (State.setFld_frame (.refl _ s) (by decide)) (.refl _ s))

/-- A core's state that is set reads as set, and the others read as before. -/
theorem State.coreState_setFld (c : Nat) {st : Nat} (h : st < 8) (k : Nat) :
    (s.setFld F.TWD_CORE_STAT_STATE c st).fld F.TWD_CORE_STAT_STATE k = if k = c then st else s.fld F.TWD_CORE_STAT_STATE k := by
  split
  next hk =>
    rw [hk, State.fld_setFld_same _ _ _ _ (by decide)]
    exact Nat.mod_eq_of_lt h
  next hk => exact State.fld_setFld_other s st (.inr hk)

theorem State.drainCore_state (c k : Nat) : (s.drainCore c).fld F.TWD_CORE_STAT_STATE k =
    if k = c then drainState (s.fld F.TWD_CORE_STAT_STATE k) else s.fld F.TWD_CORE_STAT_STATE k := by
  unfold State.drainCore drainState
  dsimp only
  by_cases hk : k = c
  · subst hk
    rw [if_pos rfl]
    split
    · exact (s.coreState_setFld k (by decide) k).trans (if_pos rfl)
    · split
      · exact (s.coreState_setFld k (by decide) k).trans (if_pos rfl)
      · rfl
  · rw [if_neg hk]
    split
    · exact (s.coreState_setFld c (by decide) k).trans (if_neg hk)
    · split
      · exact (s.coreState_setFld c (by decide) k).trans (if_neg hk)
      · rfl

/-- The state in which TWD_CTRL is stored with EN clear and the cores have begun to drain. -/
def State.coresDraining (s : State) (v : Word) : State :=
  (List.range 8).foldl State.drainCore
    (((s.store .TWD_CTRL 0 (F.TWD_CTRL_KILL.put 0 v)).setFlag F.TWD_STATUS_RUN 0 false).setFlag F.TWD_STATUS_DRAINING 0 true)

theorem State.flag_store_TWD_CTRL_EN (v : Word) : (s.store .TWD_CTRL 0 v).flag F.TWD_CTRL_EN 0 = F.TWD_CTRL_EN.on v := by
  rw [State.flag, State.fld_store_same s (g := F.TWD_CTRL_EN) 0 v (by decide) (by decide)]
  rfl

/-- The drain begun with EN cleared shows so, and leaves the records of the cores alone. -/
theorem State.coresDraining_shows {v : Word} (hv : F.TWD_CTRL_EN.on v = false) :
    (s.coresDraining v).flag F.TWD_CTRL_EN 0 = false ∧ (s.coresDraining v).flag F.TWD_STATUS_RUN 0 = false ∧
    (s.coresDraining v).flag F.TWD_STATUS_DRAINING 0 = true ∧ (s.coresDraining v).twd = s.twd := by
  have hk : ∀ u : State, Frame ⟨[], [.TWD_CORE_STAT]⟩ u ((List.range 8).foldl State.drainCore u) := fun u =>
    Frame.foldl (fun t c h => h.trans (t.drainCore_keeps c)) _ (.refl _ u)
  unfold State.coresDraining
  refine ⟨?_, ?_, ?_, (hk _).parts .twd (by decide)⟩ <;> rw [(hk _).flag (by decide)]
  · rw [State.flag_setFlag_ne _ (by decide), State.flag_setFlag_ne _ (by decide), State.flag_store_TWD_CTRL_EN,
      Fld.on_put_disjoint _ _ (by decide) (by decide), hv]
  · rw [State.flag_setFlag_disjoint _ (f := F.TWD_STATUS_DRAINING) (g := F.TWD_STATUS_RUN) 0 true rfl (by decide) (by decide),
      State.flag_setFlag_same _ _ _ _ (by decide) rfl]
  · exact State.flag_setFlag_same _ _ _ _ (by decide) rfl

theorem State.coresDraining_state (v : Word) {c : Nat} (hc : c < 8) : (s.coresDraining v).fld F.TWD_CORE_STAT_STATE c =
    drainState (s.fld F.TWD_CORE_STAT_STATE c) := by
  unfold State.coresDraining
  refine (foldl_cell_at (cell := fun (z : State) k => z.fld F.TWD_CORE_STAT_STATE k) (key := id) (F := fun _ => drainState)
    (fun z i k => z.drainCore_state i k) (by decide) (List.mem_range.mpr hc) _).trans (congrArg drainState ?_)
  rw [State.fld_setFlag_ne _ (by decide), State.fld_setFlag_ne _ (by decide), State.fld_store_ne _ (by decide), id]

/-- All that killing cores changes. -/
def coreKillFoot : Foot :=
  ⟨[.twd, .freeCtr, .awl, .host, .sent], [.TWD_CORE_FLAGS, .TWD_CORE_STAT] ++ awlRegs⟩

theorem State.killCore_keeps (c : Nat) : Frame coreKillFoot s (s.killCore c) := by
  unfold State.killCore
  extract_lets x src u w
  have hw : Frame coreKillFoot s w :=
    State.setFld_frame (State.setFlag_frame (State.setTwd_frame (.refl _ s) (by decide)) (by decide)) (by decide)
  exact .ite (.refl _ s) (State.awlUnstated_frame hw (by decide) (by decide))

/-- A core that is killed is OFF, and the others are as they were. -/
theorem State.killCore_state (c k : Nat) : (s.killCore c).fld F.TWD_CORE_STAT_STATE k =
    if k = c then twOff else s.fld F.TWD_CORE_STAT_STATE k := by
  unfold State.killCore
  extract_lets x src u w
  split
  next h =>
    split
    next hk => rw [hk, h]
    next => rfl
  next h =>
    have hawl := State.awlUnstated_frame (f := ⟨[.freeCtr, .awl, .host, .sent], awlRegs⟩) (b := .TWD)
      (arg := (w.reg .TWD_CORE_BLK c).toNat) (.refl _ w) (by decide) (by decide)
    rw [hawl.fld (by decide), State.coreState_setFld _ _ (by decide), State.fld_setFlag_ne _ (by decide)]
    rfl

/-- A write of TWD_CTRL with EN clear drains the cores, and kills them where KILL is written 1. -/
theorem State.writeTwdCtrl_clears {src : Requester} {v : Word} (ho : s.closedTo .TWD_CTRL src = false)
    (hv : F.TWD_CTRL_EN.on v = false) : s.writeTwdCtrl src v =
      (if F.TWD_CTRL_KILL.on v then (List.range 8).foldl State.killCore (s.coresDraining v) else s.coresDraining v).twdIdle := by
  rw [State.writeTwdCtrl, State.guarded_of_open s ho]
  exact if_neg (by rw [hv]; decide)

/-- Tweed drains on while a core does. -/
theorem State.twdIdle_of_draining {c : Nat} (hc : c < 8) (h : s.fld F.TWD_CORE_STAT_STATE c = twDraining) : s.twdIdle = s := by
  refine if_neg ?_
  have hall : (List.range 8).all (fun c => s.fld F.TWD_CORE_STAT_STATE c != twDraining) = false :=
    List.all_eq_false.mpr ⟨c, List.mem_range.mpr hc, by simp [h]⟩
  simp [hall]

/-- Tweed no longer drains once every core is OFF. -/
theorem State.twdIdle_of_off (h : ∀ c < 8, s.fld F.TWD_CORE_STAT_STATE c = twOff) :
    s.twdIdle.flag F.TWD_STATUS_DRAINING 0 = false := by
  have hall : (List.range 8).all (fun c => s.fld F.TWD_CORE_STAT_STATE c != twDraining) = true :=
    List.all_eq_true.mpr fun c hc => by rw [h c (List.mem_range.mp hc)]; decide
  unfold State.twdIdle
  rw [hall, Bool.and_true]
  split
  · exact State.flag_setFlag_same _ _ _ _ (by decide) rfl
  next hd => simpa using hd

theorem exec_tweedDisable (src : Requester) : exec (.tweedDisable src) s = .next (s.writeTwdCtrl src 0) := rfl
theorem exec_tweedKill (src : Requester) :
    exec (.tweedKill src) s = .next (s.writeTwdCtrl src (F.TWD_CTRL_KILL.put 1 0)) := rfl

/-! ### Stores, scrub and swap (R316, R318, R341, R342) -/

theorem State.writeCoreAt_arms {src : Requester} {c : Nat} (v : Word) (ho : s.closedTo .TWD_CORE_AT src = false)
    (hs : s.fld F.TWD_CORE_STAT_STATE c ≠ twDraining) :
    s.writeCoreAt src c v = (s.store .TWD_CORE_AT c v).setFlag F.TWD_CORE_STAT_ARMED c true := by
  rw [State.writeCoreAt, State.guarded_of_open s ho]
  exact if_neg hs

theorem exec_tweedApplyArm (src : Requester) (core : Fin 8) (at_ : Word32) :
    exec (.tweedApplyArm src core at_) s = .next (s.writeCoreAt src core (at_.setWidth 64)) := rfl

/-- The record of a core with a bundle stored in its load bank. -/
def TwdCore.loads (x : TwdCore) (bank a : Nat) (v : Word64) : TwdCore :=
  { x with imem := Tbl.set (fun _ => 0) (8192 * (1 - bank) + a) v x.imem }

theorem exec_twdImemWrite_open {src : Requester} (h : src ≠ .pcie) (core : Fin 8) (a : Fin 8192) (v : Word64) :
    exec (.twdImemWrite src core a v) s =
      .next ((s.setTwd core ((s.twdCore core).loads (s.fld F.TWD_CORE_STAT_BANK core) a v)).answer .OK) :=
  congrArg Host.Outcome.next (if_neg h)

/-- All that a unit's move to another carrier changes. -/
def movedFoot : Foot :=
  ⟨[.rsl, .host, .sent, .awl], [.RSL_PHYS_STAT, .RSL_UNIT_STAT, .RSL_UNIT_SWAPS] ++ Irq.eventRegs Irq.RSL_SWAP_DONE⟩

theorem State.unitMoved_keeps (u x old : Nat) : Frame movedFoot s (s.unitMoved u x old) := by
  unfold State.unitMoved
  extract_lets o s1 rsl s2 s3 s4 s5
  have h1 : Frame movedFoot s s1 := State.setFld_frame (State.setFld_frame (.refl _ s) (by decide)) (by decide)
  have h2 : Frame movedFoot s s2 := by
    refine h1.of_parts (fun p hp => ?_) rfl
    cases p
    case rsl => exact absurd (by decide) hp
    all_goals rfl
  have h3 : Frame movedFoot s s3 := State.setFld_frame (State.setFld_frame h2 (by decide)) (by decide)
  have h4 : Frame movedFoot s s4 := State.setFld_frame (State.setFld_frame h3 (by decide)) (by decide)
  have h5 : Frame movedFoot s s5 := State.setFlag_frame (State.setFld_frame h4 (by decide)) (by decide)
  exact State.event_frame (State.count_frame h5 (by decide)) (by decide) (by decide) (by decide)

theorem exec_tweedCoreSwap (core : Fin 8) (phys : Fin 9) : exec (.tweedCoreSwap core phys) s =
    .next ((s.setFld F.TWD_CORE_STAT_PHYS core phys).unitMoved (17 + core.val) (20 + phys.val) 1) := rfl

theorem exec_tweedScrub_clean (corrected : Nat) :
    exec (.tweedScrub corrected []) s = .next (s.count .TWD_MEM_CORR 0 corrected) := rfl

end Sys2Proof.Machine
end

section
/-! Settles O37 from the equations of samples, runs, blocks and stores, and from the stop of the cores. -/

open Sys2Proof Sys2Proof.Machine

/-- Settles O37, clause by clause: what a sample, a run's start, its deadline, a block's presentation, a store and a swap leave, and the
states that the cores reach one by one when EN is cleared or KILL written. -/
theorem tweedBlocksRunAndPresent : Obligations.TweedBlocksRunAndPresent := by
  unfold Obligations.TweedBlocksRunAndPresent
  refine ⟨?good, ?missing, ?start, ?deadline, ?present, ?invalid, ?arm, ?imem, ?scrub, ?swap, ?disable, ?kill⟩
  case good =>
    intro core slot n v s
    obtain ⟨hbank, hgot⟩ := s.bankSample_core core slot n v 0
    rw [exec_tweedSampleWrite_good]
    refine .next ⟨?_, hgot, rfl⟩
    rw [hbank, if_pos rfl, putSample_lane]
  case missing =>
    intro core slot n v asp s
    obtain ⟨hbank, -⟩ := s.bankSample_core core slot n 0 1
    rw [if_neg (by decide)] at hbank
    rw [exec_tweedSampleWrite_missing]
    refine .next ⟨?_, ?_, ?_⟩
    · rw [State.irq_twdCore, State.count_twdCore, hbank, orFlags_sample, putSample_lane]
    · rw [State.irq_twdCore, State.count_twdCore, hbank, orFlags_invalid]
    · rw [State.irq_reg _ _ (by decide), State.reg_count_counted]
      exact State.counted_congr rfl 1
  case start =>
    intro core j filled s he ha hst
    rw [exec_tweedRunStart_running s he ha hst]
    exact .next (s.startRun_shows core j filled (by decide))
  case deadline =>
    intro core uncorr s hr
    obtain ⟨t, he, hcore, hcount⟩ := exec_tweedRunDeadline_overrun s hr uncorr
    rw [he]
    exact .next ⟨by rw [hcore]; rfl, by rw [hcore]; rfl, by rw [hcore]; rfl, hcount⟩
  case present =>
    intro core s hended hbad
    obtain ⟨t, he, hcore, hsent⟩ := exec_tweedBlockPresent_presents s core
    have hok : ((s.twdCore core).ended && !(s.twdCore core).bad) = true := by simp [hended, hbad]
    have hout : (t.twdCore core).out = (s.twdCore core).y.filter fun e => 0x3000 ≤ e.1 := by
      rw [hcore, TwdCore.presented, hok]
      rfl
    have hclean : (t.twdCore core).outBad = false ∧ (t.twdCore core).ended = false := by
      rw [hcore, TwdCore.presented, hok]
      exact ⟨rfl, rfl⟩
    rw [he]
    -- The filter of the statement tests the facts that follow it as well; they hold.
    refine .next (hout.trans (List.filter_congr fun e _ => ?_))
    simp [hclean, hsent]
  case invalid =>
    intro core s h
    obtain ⟨t, he, hcore, -⟩ := exec_tweedBlockPresent_presents s core
    have hok : ((s.twdCore core).ended && !(s.twdCore core).bad) = false := by
      rcases h with h | h <;> simp [h]
    rw [he]
    refine .next ⟨?_, ?_⟩ <;> rw [hcore, TwdCore.presented, hok] <;> rfl
  case arm =>
    intro src core at_ s ho hst
    rw [exec_tweedApplyArm, State.writeCoreAt_arms s _ ho hst]
    refine .next ⟨?_, State.flag_setFlag_same _ _ _ _ (by decide) rfl, rfl⟩
    rw [State.reg_setFlag_ne _ (by decide), State.reg_store_same]
  case imem =>
    intro src core a v s h
    rw [exec_twdImemWrite_open s h]
    refine .next ⟨?_, rfl, rfl⟩
    rw [State.answer_twdCore, State.setTwd_twdCore]
    exact Tbl.get_set_same _ _ _ _
  case scrub =>
    intro corrected s
    rw [exec_tweedScrub_clean]
    exact .next ⟨s.reg_count_counted _ _ _, rfl⟩
  case swap =>
    intro core phys s
    rw [exec_tweedCoreSwap]
    have hm := (s.setFld F.TWD_CORE_STAT_PHYS core phys).unitMoved_keeps (17 + core.val) (20 + phys.val) 1
    refine .next ⟨?_, hm.parts .twd (by decide)⟩
    rw [hm.fld (by decide), State.fld_setFld_same _ _ _ _ (by decide)]
    exact Nat.mod_eq_of_lt (phys.isLt.trans (by decide))
  case disable =>
    intro src s ho hst
    have hdrain : ∀ c < 8, (s.coresDraining 0).fld F.TWD_CORE_STAT_STATE c = twDraining := fun c hc => by
      rw [s.coresDraining_state 0 hc, hst ⟨c, hc⟩]
      rfl
    obtain ⟨hen, hrun, hd, htwd⟩ := s.coresDraining_shows (v := 0) (by decide)
    rw [exec_tweedDisable, State.writeTwdCtrl_clears s ho (by decide), if_neg (by decide),
      State.twdIdle_of_draining _ (by decide) (hdrain 0 (by decide))]
    exact .next ⟨hen, hrun, hd, fun c => hdrain c c.isLt, htwd⟩
  case kill =>
    intro src s ho
    have hv : F.TWD_CTRL_EN.on (F.TWD_CTRL_KILL.put 1 0) = false := by decide
    rw [exec_tweedKill, State.writeTwdCtrl_clears s ho hv, if_pos (by decide)]
    let u := s.coresDraining (F.TWD_CTRL_KILL.put 1 0)
    let w := (List.range 8).foldl State.killCore u
    have hkeeps : Frame coreKillFoot u w := Frame.foldl (fun t c h => h.trans (t.killCore_keeps c)) _ (.refl _ u)
    have hidle : Frame ⟨[], [.TWD_STATUS]⟩ w w.twdIdle := State.twdIdle_frame (.refl _ w) (.refl _)
    have hoff : ∀ c < 8, w.fld F.TWD_CORE_STAT_STATE c = twOff := fun c hc =>
      foldl_cell_at (cell := fun (z : State) k => z.fld F.TWD_CORE_STAT_STATE k) (key := id) (F := fun _ _ => twOff)
        (fun z i k => z.killCore_state i k) (by decide) (List.mem_range.mpr hc) u
    refine .next ⟨?_, w.twdIdle_of_off hoff, fun c => (hidle.fld (by decide) c).trans (hoff c c.isLt)⟩
    exact (hidle.flag (by decide) 0).trans ((hkeeps.flag (by decide) 0).trans (s.coresDraining_shows hv).1)

end

section
/-! SUPPORT of O39: the active mask that a frame start leaves, and a state in which it is not the shadow mask. -/

namespace Sys2Proof.Machine

variable {s : State}

/-! ### The shadow mask at a frame start (R373) -/

/-- All that a frame start changes beside ACT and PERIOD. -/
def aspFrameFoot : Foot :=
  ⟨[.asp, .host, .sent, .twd], [.ASP_TX_SLIP, .ASP_RX_SLIP, .ASP_INT_SRC, .ASP_TX_STAT, .ASP_RX_STAT] ++ Blk.ASP.irqRegs⟩

theorem aspAct_ne_aspStat (tx : Bool) : aspAct tx ≠ aspStat tx := by cases tx <;> decide

theorem aspMask_ne_aspPeriod (tx : Bool) : aspMask tx ≠ aspPeriod tx := by cases tx <;> decide

theorem aspAct_not_mem_aspFrameFoot (tx : Bool) : aspAct tx ∉ aspFrameFoot.regs := by cases tx <;> decide

theorem aspMask_not_mem_aspFrameFoot (tx : Bool) : aspMask tx ∉ aspFrameFoot.regs := by cases tx <;> decide

/-- The active mask takes what its register holds of the shadow mask. -/
theorem State.aspApplyMask_act (tx : Bool) (n : Nat) :
    (s.aspApplyMask tx n).reg (aspAct tx) n = (aspAct tx).fit (s.reg (aspMask tx) n) := by
  unfold State.aspApplyMask
  extract_lets new old x came u
  rw [State.reg_setFlag_ne _ (aspAct_ne_aspStat tx), State.reg_setReg_same]

theorem State.showFill_keeps {t : State} (h : Frame aspFrameFoot s t) (tx : Bool) (n : Nat) :
    Frame aspFrameFoot s (t.showFill tx n) :=
  State.setFld_frame h (by cases tx <;> decide)

/-- A transmit frame applies the mask between two steps that leave both masks alone. -/
theorem State.aspTxFrame_applies (s : State) (n : Nat) (ps : List (Fin 16)) : ∃ u,
    Frame aspFrameFoot s u ∧ Frame aspFrameFoot (u.aspApplyMask true n) (s.aspTxFrame n ps) := by
  unfold State.aspTxFrame
  extract_lets bad s1 muted s2 s3 f s4 s5 s6 x
  have h1 : Frame aspFrameFoot s s1 :=
    .ite (State.aspIrq_frame (State.setFlag_frame (.refl _ s) (by decide)) (by decide) (by decide) (by decide))
      (State.setFlag_frame (.refl _ s) (by decide))
  split
  next =>
    have h2 : Frame aspFrameFoot s s2 := Frame.foldl (fun _ _ h => State.setSect_frame h (by decide)) _ h1
    exact ⟨s2, h2, State.aspCount_frame (State.aspSend_frame (.refl _ s3) (by decide)) (by decide)⟩
  next =>
    have h4 : Frame aspFrameFoot s s4 := Frame.foldl (fun _ _ h =>
      have hat := State.setSect_frame h (by decide)
      .ite hat (State.aspPush_frame hat (by decide) (by decide))) _ h1
    have h6 : Frame aspFrameFoot s5 s6 := .ite (.refl _ s5) (State.aspPull_frame (.refl _ s5) (by decide) (by decide))
    exact ⟨s4, h4, State.showFill_keeps (State.aspCount_frame (State.aspSend_frame h6 (by decide)) (by decide)) true n⟩

/-- A receive frame applies the mask between two steps that leave both masks alone. -/
theorem State.aspRxFrame_applies (s : State) (n : Nat) (f : List (BitVec 32)) (ps : List (Fin 16)) : ∃ u,
    Frame aspFrameFoot s u ∧ Frame aspFrameFoot (u.aspApplyMask false n) (s.aspRxFrame n f ps) := by
  unfold State.aspRxFrame
  extract_lets muted master s1 s2 x s3
  have h1 : Frame aspFrameFoot s s1 := Frame.foldl (fun _ _ h =>
    have hat := State.setSect_frame h (by decide)
    .ite hat (State.aspPull_frame hat (by decide) (by decide))) _ (.refl _ s)
  have h3 : Frame aspFrameFoot s2 s3 :=
    .ite (State.setSect_frame (.refl _ s2) (by decide)) (State.aspPush_frame (.refl _ s2) (by decide) (by decide))
  exact ⟨s1, h1, State.showFill_keeps (State.aspCount_frame h3 (by decide)) false n⟩

/-- A mask applied between two steps that leave both masks alone. -/
theorem State.act_of_aspApplyMask {u t : State} {tx : Bool} {n : Nat} (hu : Frame aspFrameFoot s u)
    (ht : Frame aspFrameFoot (u.aspApplyMask tx n) t) : t.reg (aspAct tx) n = (aspAct tx).fit (s.reg (aspMask tx) n) := by
  rw [ht.regs _ _ (aspAct_not_mem_aspFrameFoot tx), State.aspApplyMask_act, hu.regs _ _ (aspMask_not_mem_aspFrameFoot tx)]

/-- A section that is neither OFF nor stopped shows the period and starts its frame. -/
theorem exec_aspFrameStart_runs {tx : Bool} {n : Fin 16} (hoff : s.aspState tx n ≠ aspOff) (hstop : s.aspState tx n ≠ aspRateStop)
    (period : BitVec 24) (frame : List (BitVec 32)) (instants : List (Fin 16)) :
    exec (.aspFrameStart tx n period frame instants) s =
      .next (if tx then (s.setReg (aspPeriod tx) n (period.setWidth 64)).aspTxFrame n instants
        else (s.setReg (aspPeriod tx) n (period.setWidth 64)).aspRxFrame n frame instants) :=
  congrArg Host.Outcome.next (if_neg (not_or.mpr ⟨hoff, hstop⟩))

/-- In every state of a section that starts frames, ACT becomes what its 32 bits hold of the shadow mask. -/
theorem exec_aspFrameStart_act {tx : Bool} {n : Fin 16} (hoff : s.aspState tx n ≠ aspOff)
    (hstop : s.aspState tx n ≠ aspRateStop) (period : BitVec 24) (frame : List (BitVec 32)) (instants : List (Fin 16)) :
    Completes (fun t => t.reg (aspAct tx) n = (aspAct tx).fit (s.reg (aspMask tx) n))
      (exec (.aspFrameStart tx n period frame instants) s) := by
  rw [exec_aspFrameStart_runs hoff hstop,
    ← State.reg_setReg_other s (aspMask_ne_aspPeriod tx) n n (period.setWidth 64)]
  generalize s.setReg (aspPeriod tx) n (period.setWidth 64) = u
  cases tx with
  | true =>
    obtain ⟨v, hv, ht⟩ := u.aspTxFrame_applies n instants
    rw [if_pos rfl]
    exact .next (State.act_of_aspApplyMask hv ht)
  | false =>
    obtain ⟨v, hv, ht⟩ := u.aspRxFrame_applies n frame instants
    rw [if_neg Bool.false_ne_true]
    exact .next (State.act_of_aspApplyMask hv ht)

/-! ### A shadow mask past the 32 bits of its register (R3) -/

/-- A part whose transmit section 3 runs, and whose store lists 2 ^ 32 for that section's MASK, a word that no write leaves in a
register of 32 bits. -/
def overwideMask : State :=
  let s := State.reset.setAspState true 3 aspRun
  { s with regs := Tbl.set (fun _ => []) Reg.ASP_TX_MASK.ctorIdx [(3, 2 ^ 32)] s.regs }

theorem overwideMask_state : overwideMask.aspState true (3 : Fin 16) = aspRun := by decide

theorem overwideMask_mask : overwideMask.reg (aspMask true) (3 : Fin 16) = 2 ^ 32 := by decide

end Sys2Proof.Machine
end

section
/-! Refutes O39 from the state above. -/

open Sys2Proof Sys2Proof.Machine

/-- Refutes O39 in its clause on a frame start: the statement ranges over every store, also one that is not sound (`RegsOk`, R3). A
frame start copies 32 bits of the shadow mask, so that ACT reads 0 where MASK was listed as 2 ^ 32. -/
theorem not_serialAudioSectionsStartStopAndMute : ¬ Obligations.SerialAudioSectionsStartStopAndMute := by
  unfold Obligations.SerialAudioSectionsStartStopAndMute
  rintro ⟨-, -, -, -, -, -, hframe, -⟩
  have hoff : overwideMask.aspState true (3 : Fin 16) ≠ aspOff := by rw [overwideMask_state]; decide
  have hstop : overwideMask.aspState true (3 : Fin 16) ≠ aspRateStop := by rw [overwideMask_state]; decide
  obtain ⟨t, hrun, -, hact, -⟩ := hframe true 3 0 [] [] overwideMask hoff hstop
  obtain ⟨u, hrun', hfit⟩ := exec_aspFrameStart_act hoff hstop 0 [] []
  obtain rfl := Host.Outcome.next.inj (hrun.symm.trans hrun')
  rw [overwideMask_mask] at hact hfit
  exact absurd (hfit.symm.trans hact) (by decide)

end

section
/-! SUPPORT of O40: pipes that start, drain and stop, surfaces that are written, the stop of Vamp, and accesses through BAR2. -/

namespace Sys2Proof.Machine

variable (s : State)

/-! ### Draining and stopping a pipe (R396, R402) -/

theorem State.dropCommit_pipe (v : Nat) : (s.dropCommit v).pipe v = { s.pipe v with pend := none } :=
  s.setPipe_pipe v _

theorem State.dropCommit_pend (v : Nat) : (s.dropCommit v).reg .VMP_PIPE_PEND v = 0 := by
  rw [State.dropCommit, State.reg_setFlag_ne _ (by decide), State.reg_setFlag_ne _ (by decide), State.reg_setReg_same]
  rfl

theorem State.dropCommit_pipeState_ne {v k : Nat} (h : k ≠ v) : (s.dropCommit v).pipeState k = s.pipeState k := by
  rw [State.pipeState, State.dropCommit, State.setFlag, State.fld_setFld_other _ _ (.inr h), State.setFlag,
    State.fld_setFld_other _ _ (.inr h), State.fld_setReg_ne _ (by decide), State.setPipe_fld]
  rfl

theorem State.pipeDrain_keeps (v : Nat) : Frame pipeFoot s (s.pipeDrain v) :=
  State.setFld_frame (s.dropCommit_keeps v) (by decide)

/-- A pipe that drains reads DRAINING, and the others read as before. -/
theorem State.pipeDrain_pipeState (v k : Nat) :
    (s.pipeDrain v).pipeState k = if k = v then pipeDraining else s.pipeState k := by
  rw [State.pipeState, State.pipeDrain]
  split
  next h => rw [h, State.fld_setFld_same _ _ _ _ (by decide)]; rfl
  next h => rw [State.fld_setFld_other _ _ (.inr h), ← State.pipeState, s.dropCommit_pipeState_ne h]

/-- A pipe that drains has no pending commit, and shows none. -/
theorem State.pipeDrain_discards (v : Nat) :
    ((s.pipeDrain v).pipe v).pend = none ∧ (s.pipeDrain v).reg .VMP_PIPE_PEND v = 0 :=
  ⟨congrArg Pipe10.pend (s.dropCommit_pipe v), (State.reg_setFld_ne _ (by decide) _ _ _).trans (s.dropCommit_pend v)⟩

/-- All that the last two steps of a stop change: the use of the surfaces, and whether the block still drains. -/
theorem State.showUse_vmpIdle_keeps : Frame ⟨[], [.VMP_SURF_USE, .VMP_STATUS]⟩ s s.showUse.vmpIdle :=
  State.vmpIdle_frame (Frame.foldl (fun _ _ h => .ite h (State.setFld_frame h (by decide))) _ (.refl _ s)) (by decide)

/-- A pipe that has stopped is OFF, not enabled, with no layer drawn and no pending commit, and says whether it was killed. -/
theorem State.pipeStop_shows (v : Nat) (killed : Bool) : (s.pipeStop v killed).pipeState v = pipeOff ∧
    ((s.pipeStop v killed).pipe v).drawn = [] ∧ ((s.pipeStop v killed).pipe v).pend = none ∧
    (s.pipeStop v killed).flag F.VMP_PIPE_STAT_KILLED v = killed ∧
    (s.pipeStop v killed).flag F.VMP_PIPE_CFG_ENABLE v = false := by
  unfold State.pipeStop
  extract_lets gang s1 p s2 s3 s4 s5
  have hend := (s5.setFlag F.VMP_PIPE_CFG_ENABLE v false).showUse_vmpIdle_keeps
  have hlayers : Frame ⟨[], [.VMP_LAYER_STAT]⟩ s2 s3 := Frame.foldl (fun _ _ h => h.setReg (by decide) _ _) _ (.refl _ s2)
  have hpipe : (s5.setFlag F.VMP_PIPE_CFG_ENABLE v false).showUse.vmpIdle.pipe v =
      { s1.pipe v with drawn := [], black := true } := by
    rw [State.pipe, hend.parts .vmp (by decide), State.setFlag_vmp, State.setFlag_vmp, State.setFld_vmp, State.setFld_vmp,
      hlayers.parts .vmp (by decide)]
    exact s1.setPipe_pipe v _
  refine ⟨?_, ?_, ?_, ?_, ?_⟩
  · rw [State.pipeState, hend.fld (by decide), State.fld_setFlag_ne _ (by decide),
      State.fld_setFlag_disjoint _ (f := F.VMP_PIPE_STAT_KILLED) (g := F.VMP_PIPE_STAT_STATE) _ _ rfl (by decide) (by decide),
      State.fld_setFld_same _ _ _ _ (by decide)]
    rfl
  · rw [hpipe]
  · rw [hpipe, s.dropCommit_pipe]
  · rw [hend.flag (by decide), State.flag_setFlag_ne _ (by decide), State.flag_setFlag_same _ _ _ _ (by decide) rfl]
  · rw [hend.flag (by decide), State.flag_setFlag_same _ _ _ _ (by decide) rfl]

/-! ### VMP_PIPE_CFG (R380, R402) -/

/-- The state in which a pipe that passed its checks is in RUN, from word w of VMP_PIPE_CFG. -/
def State.pipeStarted (s : State) (v : Nat) (w : Word) : State :=
  let t := (s.store .VMP_PIPE_CFG v w).setFld F.VMP_BUDGET_GBS 0
    ((s.store .VMP_PIPE_CFG v w).fld F.VMP_BUDGET_GBS 0 + pipeBudget (F.VMP_PIPE_CFG_GANG.on w))
  let t := t.setPipe v { t.pipe v with drawn := [], black := true, pend := none }
  ((t.setFld F.VMP_PIPE_STAT_STATE v pipeRun).setFlag F.VMP_PIPE_STAT_KILLED v false).showCharge v

/-- A pipe that has started is in RUN with its word stored, nothing drawn and nothing pending. -/
theorem State.pipeStarted_shows (v : Nat) (w : Word) : (s.pipeStarted v w).pipeState v = pipeRun ∧
    (s.pipeStarted v w).reg .VMP_PIPE_CFG v = s.stored .VMP_PIPE_CFG v w ∧ ((s.pipeStarted v w).pipe v).drawn = [] ∧
    ((s.pipeStarted v w).pipe v).pend = none ∧ (s.pipeStarted v w).flag F.VMP_PIPE_STAT_KILLED v = false ∧
    (s.pipeStarted v w).resp = .OK := by
  unfold State.pipeStarted
  extract_lets t1 p t2
  have hcharge : ∀ u : State, Frame ⟨[], [.VMP_PIPE_READ]⟩ u (u.showCharge v) := fun u =>
    State.showCharge_frame (.refl _ u) (by decide)
  have hpipe : (((t2.setFld F.VMP_PIPE_STAT_STATE v pipeRun).setFlag F.VMP_PIPE_STAT_KILLED v false).showCharge v).pipe v =
      { t1.pipe v with drawn := [], black := true, pend := none } := by
    rw [State.pipe, (hcharge _).parts .vmp (by decide), State.setFlag_vmp, State.setFld_vmp]
    exact t1.setPipe_pipe v _
  refine ⟨?_, ?_, congrArg Pipe10.drawn hpipe, congrArg Pipe10.pend hpipe, ?_, ?_⟩
  · rw [State.pipeState, (hcharge _).fld (by decide),
      State.fld_setFlag_disjoint _ (f := F.VMP_PIPE_STAT_KILLED) (g := F.VMP_PIPE_STAT_STATE) _ _ rfl (by decide) (by decide),
      State.fld_setFld_same _ _ _ _ (by decide)]
    rfl
  · rw [(hcharge _).regs _ _ (by decide), State.reg_setFlag_ne _ (by decide), State.reg_setFld_ne _ (by decide),
      State.setPipe_reg, State.reg_setFld_ne _ (by decide), State.reg_store_same]
  · rw [(hcharge _).flag (by decide), State.flag_setFlag_same _ _ _ _ (by decide) rfl]
  · rw [(hcharge _).parts .resp (by decide), State.setFlag_resp, State.setFld_resp, State.setPipe_resp, State.setFld_resp,
      State.store_resp]

theorem pipeCfgWord_enable (x : Nat) (w : Word) : F.VMP_PIPE_CFG_ENABLE.on (F.VMP_PIPE_CFG_ENABLE.put x w) = (x % 2 != 0) :=
  Fld.on_put_same _ x w (by decide)

/-- A word differs from itself with a field put in that field only. -/
theorem Fld.xor_put_and_eq_zero {f : Fld} (x : Nat) (v m : Word)
    (hm : ∀ k < 64, f.lo ≤ k ∧ k < f.lo + f.len → m.getLsbD k = false) : (v ^^^ f.put x v) &&& m = 0 := by
  refine BitVec.eq_of_getLsbD_eq fun k hk => ?_
  rw [BitVec.getLsbD_and, BitVec.getLsbD_xor, Fld.put, insertBits_getLsbD _ _ _ _ _ hk]
  split
  next h => simp [hm k hk h]
  next => simp

section
variable {s} {src : Requester} {v : Nat} (ho : s.closedTo .VMP_PIPE_CFG src = false)
include ho

theorem State.writePipeCfg_starts {w : Word} (he : F.VMP_PIPE_CFG_ENABLE.on w = true) (hs : s.pipeState v = pipeOff)
    (hr : s.pipeRefusal v w = none) : s.writePipeCfg src v w = s.pipeStarted v w := by
  rw [State.writePipeCfg, State.guarded_of_open s ho]
  simp [he, hs, hr, pipeOff, pipeRun, pipeDraining, State.pipeStarted]

theorem State.writePipeCfg_refused {w : Word} {st : Status} (he : F.VMP_PIPE_CFG_ENABLE.on w = true)
    (hs : s.pipeState v = pipeOff) (hr : s.pipeRefusal v w = some st) : s.writePipeCfg src v w = s.answer st := by
  rw [State.writePipeCfg, State.guarded_of_open s ho]
  simp [he, hs, hr, pipeOff, pipeRun, pipeDraining, State.refuse]

/-- ENABLE written 0 with the other fields as they stand changes no field that is fixed while the pipe runs, and drains it. -/
theorem State.writePipeCfg_drains (hs : s.pipeState v = pipeRun) (hk : F.VMP_PIPE_CFG_KILL.on (s.reg .VMP_PIPE_CFG v) = false) :
    s.writePipeCfg src v (F.VMP_PIPE_CFG_ENABLE.put 0 (s.reg .VMP_PIPE_CFG v)) =
      (s.store .VMP_PIPE_CFG v (F.VMP_PIPE_CFG_ENABLE.put 0 (s.reg .VMP_PIPE_CFG v))).pipeDrain v := by
  have hen : F.VMP_PIPE_CFG_ENABLE.on (F.VMP_PIPE_CFG_ENABLE.put 0 (s.reg .VMP_PIPE_CFG v)) = false :=
    pipeCfgWord_enable 0 _
  have hkill : F.VMP_PIPE_CFG_KILL.on (F.VMP_PIPE_CFG_ENABLE.put 0 (s.reg .VMP_PIPE_CFG v)) = false :=
    (Fld.on_put_disjoint _ _ (by decide) (by decide)).trans hk
  have hfixed : (s.reg .VMP_PIPE_CFG v ^^^ F.VMP_PIPE_CFG_ENABLE.put 0 (s.reg .VMP_PIPE_CFG v)) &&& 0x3E000000#64 = 0#64 :=
    Fld.xor_put_and_eq_zero 0 _ _ (by decide)
  rw [State.writePipeCfg, State.guarded_of_open s ho]
  simp [hen, hkill, hs, hfixed, pipeRun, pipeDraining]

theorem State.writePipeCfg_kills {w : Word} (he : F.VMP_PIPE_CFG_ENABLE.on w = false) (hk : F.VMP_PIPE_CFG_KILL.on w = true)
    (hs : s.pipeState v ≠ pipeOff) : s.writePipeCfg src v w = (s.pipeKill v).answer .OK := by
  rw [State.writePipeCfg, State.guarded_of_open s ho]
  simp [he, hk, hs]

end

/-! ### VMP_SURF_CFG (R384) -/

section
variable {s} {src : Requester} {m b : Nat} {w : Word} (ho : s.closedTo .VMP_SURF_CFG src = false)
  (hb : surfBytes (F.VMP_SURF_CFG_FMT.of w) = some b)
include ho hb

/-- A surface that is not in use is stored, once a valid one fits its pitch, the frame store and the pages of the others. -/
theorem State.writeSurfCfg_stores (hu : s.fld F.VMP_SURF_USE_N m = 0)
    (hc : F.VMP_SURF_CFG_VALID.on w = true →
      (s.fld F.VMP_SURF_SIZE_W1 m + 1) * b ≤ s.fld F.VMP_SURF_PITCH_PITCH m ∧ s.fld F.VMP_SURF_PITCH_PITCH m % 64 = 0 ∧
      (s.surfPages m w).2 ≤ 30393 ∧ (s.reg .ING_POOL_PAGES 0).toNat ≤ (s.surfPages m w).1 ∧
        s.surfOverlaps m (s.surfPages m w) = false) :
    s.writeSurfCfg src m w = s.store .VMP_SURF_CFG m w := by
  rw [State.writeSurfCfg, State.guarded_of_open s ho, hb]
  dsimp only
  rw [if_neg (not_not.mpr hu)]
  cases hv : F.VMP_SURF_CFG_VALID.on w with
  | false => rfl
  | true =>
    obtain ⟨hrow, halign, hlast, hpool, hfree⟩ := hc hv
    have hfits : ¬ (s.fld F.VMP_SURF_PITCH_PITCH m < (s.fld F.VMP_SURF_SIZE_W1 m + 1) * b ∨
        s.fld F.VMP_SURF_PITCH_PITCH m % 64 ≠ 0 ∨ 30393 < (s.surfPages m w).2) := by omega
    have hclear : ¬ ((s.surfPages m w).1 < (s.reg .ING_POOL_PAGES 0).toNat ∨ s.surfOverlaps m (s.surfPages m w) = true) := by
      simp [hpool, hfree]
    rw [if_neg (by simp), if_neg hfits, if_neg hclear]

theorem State.writeSurfCfg_busy (hu : s.fld F.VMP_SURF_USE_N m ≠ 0) : s.writeSurfCfg src m w = s.answer .BUSY := by
  rw [State.writeSurfCfg, State.guarded_of_open s ho, hb]
  exact if_pos hu

end

/-! ### VMP_CTRL (R403) -/

/-- What clearing EN does to a pipe: one in RUN is no longer enabled, and drains. -/
def State.drainPipe (s : State) (v : Nat) : State :=
  if s.pipeState v = pipeOff then s
  else if s.pipeState v = pipeRun then (s.setFlag F.VMP_PIPE_CFG_ENABLE v false).pipeDrain v else s

/-- The state of a pipe once Vamp drains. -/
def pipeDrainedState (st : Nat) : Nat := if st = pipeRun then pipeDraining else st

/-- All that draining the pipes may change. -/
def pipesDrainFoot : Foot := ⟨pipeFoot.parts, .VMP_PIPE_CFG :: pipeFoot.regs⟩

theorem State.drainPipe_keeps (v : Nat) : Frame pipesDrainFoot s (s.drainPipe v) :=
  .ite (.refl _ s) (.ite ((State.setFlag_frame (.refl _ s) (by decide)).trans
    ((State.pipeDrain_keeps _ v).mono (by decide) (by decide))) (.refl _ s))

/-- A pipe that drains with the block drains if it was in RUN, and the others read as before. -/
theorem State.drainPipe_pipeState (v k : Nat) :
    (s.drainPipe v).pipeState k = if k = v then pipeDrainedState (s.pipeState k) else s.pipeState k := by
  unfold State.drainPipe pipeDrainedState
  split
  next hoff =>
    split
    next hk => rw [hk, hoff]; rfl
    next => rfl
  next =>
    split
    next hrun =>
      have hother : (s.setFlag F.VMP_PIPE_CFG_ENABLE v false).pipeState k = s.pipeState k :=
        State.fld_setFlag_ne _ (by decide) _ _ _
      rw [State.pipeDrain_pipeState, hother]
      split
      next hk => rw [hk, if_pos hrun]
      next => rfl
    next hrun =>
      split
      next hk => rw [hk, if_neg hrun]
      next => rfl

/-- The state in which VMP_CTRL is stored with EN clear and the pipes have begun to drain. -/
def State.pipesDraining (s : State) (w : Word) : State :=
  (List.range 16).foldl State.drainPipe
    (((s.store .VMP_CTRL 0 (F.VMP_CTRL_KILL.put 0 w)).setFlag F.VMP_STATUS_RUN 0 false).setFlag F.VMP_STATUS_DRAINING 0 true)

theorem State.writeVmpCtrl_drains {src : Requester} {w : Word} (ho : s.closedTo .VMP_CTRL src = false)
    (he : F.VMP_CTRL_EN.on w = false) (hk : F.VMP_CTRL_KILL.on w = false) :
    s.writeVmpCtrl src w = (s.pipesDraining w).vmpIdle := by
  rw [State.writeVmpCtrl, State.guarded_of_open s ho]
  simp only [he, hk, Bool.false_eq_true, if_false]
  rfl

theorem State.flag_store_VMP_CTRL_EN (w : Word) : (s.store .VMP_CTRL 0 w).flag F.VMP_CTRL_EN 0 = F.VMP_CTRL_EN.on w := by
  rw [State.flag, State.fld_store_same s (g := F.VMP_CTRL_EN) 0 w (by decide) (by decide)]
  rfl

/-- The drain begun with EN cleared shows so. -/
theorem State.pipesDraining_shows {w : Word} (he : F.VMP_CTRL_EN.on w = false) :
    (s.pipesDraining w).flag F.VMP_CTRL_EN 0 = false ∧ (s.pipesDraining w).flag F.VMP_STATUS_RUN 0 = false ∧
    (s.pipesDraining w).flag F.VMP_STATUS_DRAINING 0 = true := by
  have hk : ∀ u : State, Frame pipesDrainFoot u ((List.range 16).foldl State.drainPipe u) := fun u =>
    Frame.foldl (fun t v h => h.trans (t.drainPipe_keeps v)) _ (.refl _ u)
  unfold State.pipesDraining
  refine ⟨?_, ?_, ?_⟩ <;> rw [(hk _).flag (by decide)]
  · rw [State.flag_setFlag_ne _ (by decide), State.flag_setFlag_ne _ (by decide), State.flag_store_VMP_CTRL_EN,
      Fld.on_put_disjoint _ _ (by decide) (by decide), he]
  · rw [State.flag_setFlag_disjoint _ (f := F.VMP_STATUS_DRAINING) (g := F.VMP_STATUS_RUN) 0 true rfl (by decide) (by decide),
      State.flag_setFlag_same _ _ _ _ (by decide) rfl]
  · exact State.flag_setFlag_same _ _ _ _ (by decide) rfl

theorem State.pipesDraining_pipeState (w : Word) {v : Nat} (hv : v < 16) :
    (s.pipesDraining w).pipeState v = pipeDrainedState (s.pipeState v) := by
  unfold State.pipesDraining
  refine (foldl_cell_at (cell := State.pipeState) (key := id) (F := fun _ => pipeDrainedState)
    (fun z i k => z.drainPipe_pipeState i k) (by decide) (List.mem_range.mpr hv) _).trans (congrArg pipeDrainedState ?_)
  rw [State.pipeState, State.fld_setFlag_ne _ (by decide), State.fld_setFlag_ne _ (by decide), State.fld_store_ne _ (by decide)]
  rfl

/-- Vamp drains on while a pipe is not OFF. -/
theorem State.vmpIdle_of_on {v : Nat} (hv : v < 16) (h : s.pipeState v ≠ pipeOff) : s.vmpIdle = s := by
  have hall : (List.range 16).all (fun v => s.pipeState v == pipeOff) = false :=
    List.all_eq_false.mpr ⟨v, List.mem_range.mpr hv, by simp [h]⟩
  exact if_neg (by simp [hall])

/-! ### The commands -/

theorem exec_pipeEnable (src : Requester) (v : Fin 16) (w : Word32) : exec (.pipeEnable src v w) s =
    .next (s.writePipeCfg src v (F.VMP_PIPE_CFG_ENABLE.put 1 (w.setWidth 64))) := rfl
theorem exec_pipeDisable (src : Requester) (v : Fin 16) : exec (.pipeDisable src v) s =
    .next (s.writePipeCfg src v (F.VMP_PIPE_CFG_ENABLE.put 0 (s.reg .VMP_PIPE_CFG v))) := rfl
theorem exec_pipeKill (src : Requester) (v : Fin 16) : exec (.pipeKill src v) s = .next (s.writePipeCfg src v
    (F.VMP_PIPE_CFG_KILL.put 1 (F.VMP_PIPE_CFG_ENABLE.put 0 (s.reg .VMP_PIPE_CFG v)))) := rfl
theorem exec_surfaceConfigWrite (src : Requester) (m : Fin 256) (w : Word32) :
    exec (.surfaceConfigWrite src m w) s = .next (s.writeSurfCfg src m (w.setWidth 64)) := rfl
theorem exec_vampDisable (src : Requester) : exec (.vampDisable src) s = .next (s.writeVmpCtrl src 0) := rfl

variable {s}

theorem exec_pipeDrainDone_draining {v : Fin 16} (h : s.pipeState v = pipeDraining) :
    exec (.pipeDrainDone v) s = .next (s.pipeStop v false) :=
  congrArg Host.Outcome.next (if_pos h)

theorem exec_surfGenApply_waiting {g : Nat × Word} {r : List (Nat × Word)} (h : s.vmp.gens = g :: r) :
    exec .surfGenApply s = .next (({ s with vmp := { s.vmp with gens := r } }).setReg .VMP_SURF_GEN g.1 g.2) := by
  change execSurfGenApply s = _
  rw [execSurfGenApply, h]

/-! ### Accesses through BAR2 (R620) -/

theorem exec_bar2Access_byte {off : BitVec 36} (h : s.bar2Refused (off.toNat / 2097152) true = false) (b : Byte) :
    exec (.bar2Access off (some [b])) s =
      .next { s with frameStore := Tbl.set (fun _ => 0) off.toNat b s.frameStore } := by
  change execBar2Access off (some [b]) s = _
  simp [execBar2Access, h]

/-- A refused access is counted and told; a read answers all ones. -/
theorem exec_bar2Access_refused {off : BitVec 36} {write : Option (List Byte)}
    (h : s.bar2Refused (off.toNat / 2097152) write.isSome = true) : exec (.bar2Access off write) s =
      .next (if write.isSome then s.bar2Miss else { s.bar2Miss with rdata := BitVec.allOnes 64 }) := by
  change execBar2Access off write s = _
  cases write with
  | none => simp [execBar2Access, show s.bar2Refused (off.toNat / 2097152) false = true from h]
  | some l => simp [execBar2Access, show s.bar2Refused (off.toNat / 2097152) true = true from h]

theorem State.bar2Miss_shows (s : State) :
    s.bar2Miss.frameStore = s.frameStore ∧ s.bar2Miss.reg .GLB_BAR2_MISS 0 = s.counted .GLB_BAR2_MISS 0 1 :=
  ⟨State.irq_frameStore _ _, by rw [State.bar2Miss, State.irq_reg _ _ (by decide), State.reg_count_counted]⟩

end Sys2Proof.Machine
end

section
/-! Settles O40 from the branches of the writes of VMP_PIPE_CFG, VMP_SURF_CFG and VMP_CTRL, and from accesses through BAR2. -/

open Sys2Proof Sys2Proof.Machine

/-- Settles O40, clause by clause: a pipe enabled, refused, disabled, killed and drained, a surface stored and refused, a generation
applied, Vamp disabled, and accesses through BAR2 that are carried out and refused. -/
theorem vampPipesAndSurfaces : Obligations.VampPipesAndSurfaces := by
  unfold Obligations.VampPipesAndSurfaces
  refine ⟨?enabled, ?refused, ?disabled, ?killed, ?drained, ?surface, ?busy, ?generation, ?vamp, ?byte, ?miss⟩
  case enabled =>
    intro src v w s ho hs hr
    rw [exec_pipeEnable, State.writePipeCfg_starts ho (pipeCfgWord_enable 1 _) hs hr]
    exact .next (s.pipeStarted_shows v _)
  case refused =>
    intro src v w st s ho hs hr
    rw [exec_pipeEnable, State.writePipeCfg_refused ho (pipeCfgWord_enable 1 _) hs hr]
    exact .next rfl
  case disabled =>
    intro src v s ho hs hk
    rw [exec_pipeDisable, State.writePipeCfg_drains ho hs hk]
    obtain ⟨hpend, hshown⟩ := (s.store .VMP_PIPE_CFG v (F.VMP_PIPE_CFG_ENABLE.put 0 (s.reg .VMP_PIPE_CFG v))).pipeDrain_discards v
    refine .next ⟨?_, hpend, hshown, ?_⟩
    · rw [State.pipeDrain_pipeState, if_pos rfl]
    · rw [(State.pipeDrain_keeps _ _).flag (by decide), State.flag,
        State.fld_store_same s (g := F.VMP_PIPE_CFG_ENABLE) v _ (by decide) (by decide)]
      exact pipeCfgWord_enable 0 _
  case killed =>
    intro src v s ho hs
    have hen : F.VMP_PIPE_CFG_ENABLE.on (F.VMP_PIPE_CFG_KILL.put 1 (F.VMP_PIPE_CFG_ENABLE.put 0 (s.reg .VMP_PIPE_CFG v))) = false :=
      (Fld.on_put_disjoint _ _ (by decide) (by decide)).trans (pipeCfgWord_enable 0 _)
    rw [exec_pipeKill, State.writePipeCfg_kills ho hen (Fld.on_put_same _ _ _ (by decide)) hs]
    obtain ⟨hoff, hdrawn, hpend, hkilled, hdisabled⟩ := s.pipeStop_shows v true
    refine .next ⟨?_, ?_, ?_, ?_, ?_, rfl⟩
    · exact (State.irq_fld _ _ (by decide) _).trans hoff
    · rw [State.answer_pipe, State.pipeKill, State.irq_pipe, hdrawn]
    · rw [State.answer_pipe, State.pipeKill, State.irq_pipe, hpend]
    · exact (State.irq_flag _ _ (by decide) _).trans hkilled
    · exact (State.irq_flag _ _ (by decide) _).trans hdisabled
  case drained =>
    intro v s hs
    obtain ⟨hoff, hdrawn, -, hkilled, -⟩ := s.pipeStop_shows v false
    rw [exec_pipeDrainDone_draining hs]
    exact .next ⟨hoff, hdrawn, hkilled⟩
  case surface =>
    intro src m w b s ho hb hu hc
    rw [exec_surfaceConfigWrite, State.writeSurfCfg_stores ho hb hu hc]
    obtain ⟨hreg, hresp⟩ := s.store_shows .VMP_SURF_CFG m (w.setWidth 64)
    exact .next ⟨hreg, hresp, rfl⟩
  case busy =>
    intro src m w s ho hb hu
    obtain ⟨b, hb⟩ := Option.isSome_iff_exists.mp hb
    rw [exec_surfaceConfigWrite, State.writeSurfCfg_busy ho hb hu]
    exact .next rfl
  case generation =>
    intro m g r s hgens hg
    rw [exec_surfGenApply_waiting hgens]
    refine .next ⟨?_, rfl⟩
    rw [State.reg_setReg_same]
    exact BitVec.eq_of_toNat_eq ((Reg.fit_toNat rfl g).trans (Nat.mod_eq_of_lt hg))
  case vamp =>
    intro src s ho hs
    have hdraining : ∀ v : Fin 16, (s.pipesDraining 0).pipeState v = pipeDraining := fun v => by
      rw [s.pipesDraining_pipeState 0 v.isLt, hs v]
      rfl
    rw [exec_vampDisable, s.writeVmpCtrl_drains ho (by decide) (by decide),
      State.vmpIdle_of_on _ (v := (0 : Fin 16)) (by decide) (by rw [hdraining]; decide)]
    obtain ⟨hen, hrun, hdrain⟩ := s.pipesDraining_shows (w := 0) (by decide)
    exact .next ⟨hen, hrun, hdrain, hdraining⟩
  case byte =>
    intro off b s h
    rw [exec_bar2Access_byte h]
    exact .next ⟨Tbl.get_set_same _ _ _ _, rfl⟩
  case miss =>
    intro off write s h
    rw [exec_bar2Access_refused h]
    cases write with
    | none => exact .next s.bar2Miss_shows
    | some l => exact .next s.bar2Miss_shows

end

section
/-! SUPPORT of O52, O53, O54, O57, O58 and O59: the frame of every operation that their commands use, as a rule that adds the
operation's footprint to the frame of the state before it. A chain of rules then has the footprint that its operations add up to,
and one decision says that this lies within the footprint that a statement lists. -/

namespace Sys2Proof.Machine

variable {e f g : Foot} {s₀ s t a b : State}

/-! ### Footprints: one within another, and two together -/

/-- What a footprint lists, another lists as well. -/
abbrev Foot.within (g f : Foot) : Prop := g.parts ⊆ f.parts ∧ g.regs ⊆ f.regs

/-- All that two footprints list. -/
def Foot.plus (f g : Foot) : Foot := ⟨f.parts ++ g.parts, f.regs ++ g.regs⟩

/-- The footprint of what changes nothing. -/
abbrev Foot.none : Foot := ⟨[], []⟩

theorem Foot.within.refl (f : Foot) : f.within f := ⟨List.Subset.refl _, List.Subset.refl _⟩
theorem Foot.within_left (f g : Foot) : f.within (f.plus g) := ⟨List.subset_append_left _ _, List.subset_append_left _ _⟩
theorem Foot.within_right (f g : Foot) : g.within (f.plus g) := ⟨List.subset_append_right _ _, List.subset_append_right _ _⟩

/-! ### How a frame passes through the forms of the language -/

/-- A frame over a larger footprint. -/
theorem Frame.le (hw : e.within f) (h : Frame e s₀ s) : Frame f s₀ s := h.mono hw.1 hw.2

theorem Frame.left (h : Frame f s₀ s) : Frame (f.plus g) s₀ s := h.le (f.within_left g)

/-- What changes within g, after what changes within f. -/
theorem Frame.plus (h : Frame f s₀ s) (k : Frame g s t) : Frame (f.plus g) s₀ t := h.left.trans (k.le (f.within_right g))

/-- An operation is framed by a chain of its own, which begins at its state and ends within its footprint. -/
theorem Frame.op (h : Frame f s₀ s) (hw : e.within g) (k : Frame .none s s → Frame e s t) : Frame (f.plus g) s₀ t :=
  h.plus ((k (.refl _ s)).le hw)

/-- Both branches of a choice, whatever decides it. -/
theorem Frame.branch {c : Prop} {_ : Decidable c} (ha : Frame f s₀ a) (hb : Frame g s₀ b) :
    Frame (f.plus g) s₀ (if c then a else b) := by
  split
  · exact ha.left
  · exact hb.le (f.within_right g)

/-- The same, where both are within one footprint. -/
theorem Frame.same {c : Prop} {_ : Decidable c} (ha : Frame f s₀ a) (hb : Frame f s₀ b) : Frame f s₀ (if c then a else b) := by
  split
  · exact ha
  · exact hb

/-- A list of updates, each of which changes no more than g. -/
theorem Frame.fold {α : Type} {k : State → α → State} {l : List α} (h : Frame f s₀ s)
    (hk : ∀ u x, Frame .none u u → Frame g u (k u x)) : Frame (f.plus g) s₀ (l.foldl k s) :=
  .foldl (fun u x hu => hu.trans ((hk u x (.refl _ u)).le (f.within_right g))) l h.left

/-- A list of updates, where the elements of the list matter. -/
theorem Frame.fold_mem {α : Type} {k : State → α → State} {l : List α} (h : Frame f s₀ s)
    (hk : ∀ u x, x ∈ l → Frame .none u u → Frame g u (k u x)) : Frame (f.plus g) s₀ (l.foldl k s) := by
  suffices ∀ u, Frame (f.plus g) s₀ u → Frame (f.plus g) s₀ (l.foldl k u) from this s h.left
  induction l with
  | nil => exact fun u hu => hu
  | cons x l ih =>
    exact fun u hu => ih (fun u y hy => hk u y (List.mem_cons_of_mem x hy)) _
      (hu.trans ((hk u x List.mem_cons_self (.refl _ u)).le (f.within_right g)))

/-- A list of updates that also carry a value. -/
theorem Frame.fold_fst {α β : Type} {k : State × β → α → State × β} {z : State × β} {l : List α} (h : Frame f s₀ z.1)
    (hk : ∀ y x, Frame .none y.1 y.1 → Frame g y.1 (k y x).1) : Frame (f.plus g) s₀ (l.foldl k z).1 := by
  suffices ∀ y : State × β, Frame (f.plus g) s₀ y.1 → Frame (f.plus g) s₀ (l.foldl k y).1 from this z h.left
  induction l with
  | nil => exact fun y hy => hy
  | cons x l ih => exact fun y hy => ih _ (hy.trans ((hk y x (.refl _ _)).le (f.within_right g)))

/-- What changes only what the footprint lists already. -/
theorem Frame.absorb (hw : g.within f) (h : Frame (f.plus g) s₀ s) : Frame f s₀ s :=
  h.le ⟨List.append_subset.mpr ⟨.refl _, hw.1⟩, List.append_subset.mpr ⟨.refl _, hw.2⟩⟩

/-- The state that a result carries, where it carries one, differs from s₀ within f. -/
def SomeFrame (f : Foot) (s₀ : State) (x : Option State) : Prop := ∀ t, x = some t → Frame f s₀ t

theorem SomeFrame.none : SomeFrame .none s₀ none := fun _ e => nomatch e
theorem SomeFrame.some (h : Frame f s₀ s) : SomeFrame f s₀ (some s) := fun _ e => by
  rw [← Option.some.inj e]; exact h
theorem SomeFrame.le {x : Option State} (hw : e.within f) (h : SomeFrame e s₀ x) : SomeFrame f s₀ x := fun t k => (h t k).le hw
theorem SomeFrame.branch {c : Prop} {_ : Decidable c} {x y : Option State} (hx : SomeFrame f s₀ x) (hy : SomeFrame g s₀ y) :
    SomeFrame (f.plus g) s₀ (if c then x else y) := by
  split
  · exact hx.le (f.within_left g)
  · exact hy.le (f.within_right g)
theorem Frame.opSome {x : Option State} (h : Frame f s₀ s) (hw : e.within g) (k : Frame .none s s → SomeFrame e s x) :
    SomeFrame (f.plus g) s₀ x := fun t i => h.plus ((k (.refl _ s) t i).le hw)

/-- The same of a result that may be an error. -/
def OkFrame {ε : Type} (f : Foot) (s₀ : State) (x : Except ε State) : Prop := ∀ t, x = .ok t → Frame f s₀ t

theorem OkFrame.error {ε : Type} {e : ε} : OkFrame .none s₀ (.error e) := fun _ h => nomatch h
theorem OkFrame.ok {ε : Type} (h : Frame f s₀ s) : OkFrame f s₀ (.ok s : Except ε State) := fun _ e => by
  rw [← Except.ok.inj e]; exact h
theorem OkFrame.le {ε : Type} {x : Except ε State} (hw : e.within f) (h : OkFrame e s₀ x) : OkFrame f s₀ x :=
  fun t k => (h t k).le hw
theorem OkFrame.branch {ε : Type} {c : Prop} {_ : Decidable c} {x y : Except ε State} (hx : OkFrame f s₀ x) (hy : OkFrame g s₀ y) :
    OkFrame (f.plus g) s₀ (if c then x else y) := by
  split
  · exact hx.le (f.within_left g)
  · exact hy.le (f.within_right g)
theorem Frame.opOk {ε : Type} {x : Except ε State} (h : Frame f s₀ s) (hw : e.within g) (k : Frame .none s s → OkFrame e s x) :
    OkFrame (f.plus g) s₀ x := fun t i => h.plus ((k (.refl _ s) t i).le hw)

/-- A command that answers a chain's state keeps what the chain keeps. -/
theorem Completes.chain (hw : e.within f) (k : Frame .none s s → Frame e s t) : Completes (Frame f s) (.next t) :=
  .next ((k (.refl _ s)).le hw)

theorem Completes.le {o : Host.Outcome State Fault Refusal} (hw : e.within f) (h : Completes (Frame e s) o) : Completes (Frame f s) o :=
  match h with
  | ⟨t, ho, ht⟩ => ⟨t, ho, ht.le hw⟩

/-! ### The frame laws of the shared operations, as rules of a chain -/

theorem Frame.set {r i v} (h : Frame f s₀ s) : Frame (f.plus ⟨[], [r]⟩) s₀ (s.setReg r i v) :=
  h.plus ((Frame.refl _ s).setReg List.mem_cons_self i v)
theorem Frame.setFld {r lo w i v} (h : Frame f s₀ s) : Frame (f.plus ⟨[], [r]⟩) s₀ (s.setFld ⟨r, lo, w⟩ i v) :=
  h.plus (State.setFld_frame (.refl _ s) List.mem_cons_self)
theorem Frame.setFlag {r lo w i b} (h : Frame f s₀ s) : Frame (f.plus ⟨[], [r]⟩) s₀ (s.setFlag ⟨r, lo, w⟩ i b) :=
  h.plus (State.setFlag_frame (.refl _ s) List.mem_cons_self)
theorem Frame.setSigned {r lo w i v} (h : Frame f s₀ s) : Frame (f.plus ⟨[], [r]⟩) s₀ (s.setSigned ⟨r, lo, w⟩ i v) :=
  h.plus (State.setSigned_frame (.refl _ s) List.mem_cons_self)
theorem Frame.count {r i n} (h : Frame f s₀ s) : Frame (f.plus ⟨[], [r]⟩) s₀ (s.count r i n) :=
  h.plus (State.count_frame (.refl _ s) List.mem_cons_self)
theorem Frame.clear {r} (h : Frame f s₀ s) :
    Frame (f.plus ⟨[], [r]⟩) s₀ (s.clearReg r) := h.plus (State.clearReg_frame (.refl _ s) List.mem_cons_self)
theorem Frame.answer {st} (h : Frame f s₀ s) :
    Frame (f.plus ⟨[.resp], []⟩) s₀ (s.answer st) := h.plus (State.answer_frame (.refl _ s) List.mem_cons_self)
theorem Frame.refuse {st} (h : Frame f s₀ s) : Frame (f.plus ⟨[.resp], []⟩) s₀ (s.refuse st) := h.answer
theorem Frame.emit {m} (h : Frame f s₀ s) :
    Frame (f.plus ⟨[.sent], []⟩) s₀ (s.emit m) := h.plus (State.emit_frame (.refl _ s) List.mem_cons_self)
theorem Frame.store {r i v} (h : Frame f s₀ s) : Frame (f.plus ⟨[.resp], [r]⟩) s₀ (s.store r i v) :=
  h.plus (State.store_frame (.refl _ s) List.mem_cons_self List.mem_cons_self)
theorem Frame.raiseVector {v} (h : Frame f s₀ s) : Frame (f.plus ⟨[.host, .sent], []⟩) s₀ (s.raiseVector v) :=
  h.plus (State.raiseVector_frame (.refl _ s) (.refl _))
theorem Frame.irq {c} (h : Frame f s₀ s) : Frame (f.plus ⟨[.host, .sent], c.blk.irqRegs⟩) s₀ (s.irq c) :=
  h.plus (State.irq_frame (.refl _ s) (.refl _) (.refl _))
theorem Frame.discardHost {b} (h : Frame f s₀ s) : Frame (f.plus ⟨[.host, .sent], b.shutRegs⟩) s₀ (s.discardHost b) :=
  h.plus (State.discardHost_frame (.refl _ s) (.refl _) (.refl _))
theorem Frame.alert {b} (h : Frame f s₀ s) :
    Frame (f.plus ⟨[.host, .sent], [.GLB_ALERT_STAT, .GLB_INT_SUM, .GLB_INT_STAT]⟩) s₀ (s.alert b) :=
  h.plus (State.alert_frame (.refl _ s) (.refl _) (.refl _))
theorem Frame.refreshSum {b was} (h : Frame f s₀ s) : Frame (f.plus ⟨[.host, .sent], [.GLB_INT_SUM]⟩) s₀ (s.refreshSum b was) :=
  h.plus (State.refreshSum_frame (.refl _ s) (.refl _) List.mem_cons_self)
/-- A guarded write changes what the write changes, and what a closed register's requester may (R663). -/
theorem Frame.guarded {r src} {k : State → State} (h : Frame f s₀ s) (hk : ∀ u, Frame .none u u → Frame g u (k u)) :
    Frame (f.plus (.plus ⟨[.host, .sent], r.shutRegs⟩ g)) s₀ (s.guarded r src k) :=
  h.plus (State.guarded_frame (.refl _ s) (List.subset_append_left _ _) (List.subset_append_left _ _) ((hk s (.refl _ s)).le
      (Foot.within_right _ _)))
theorem Frame.awlState {b sev st obj detail} (h : Frame f s₀ s) :
    Frame (f.plus ⟨[.awl, .host, .sent], awlRegs⟩) s₀ (s.awlState b sev st obj detail) :=
  h.plus (s.awlState_keeps _ _ _ _ _)
theorem Frame.awlCause {c al obj detail} (h : Frame f s₀ s) :
    Frame (f.plus ⟨[.awl, .host, .sent], awlRegs⟩) s₀ (s.awlCause c al obj detail) :=
  h.plus (s.awlCause_keeps _ _ _ _)
theorem Frame.awlPersist {b sev ev arg} (h : Frame f s₀ s) :
    Frame (f.plus ⟨[.awl, .host, .sent], awlRegs⟩) s₀ (s.awlPersist b sev ev arg) :=
  h.plus (s.awlPersist_keeps _ _ _ _)
theorem Frame.awlFabric {ev fl obj} (h : Frame f s₀ s) :
    Frame (f.plus ⟨[.awl, .host, .sent], awlRegs⟩) s₀ (s.awlFabric ev fl obj) :=
  h.plus (s.awlFabric_keeps _ _ _)
theorem Frame.event {c obj detail} (h : Frame f s₀ s) :
    Frame (f.plus ⟨[.awl, .host, .sent], c.eventRegs⟩) s₀ (s.event c obj detail) :=
  h.plus (s.event_keeps _ _ _)
theorem Frame.alarm {c b obj detail} (h : Frame f s₀ s) :
    Frame (f.plus ⟨[.awl, .host, .sent], c.alarmRegs⟩) s₀ (s.alarm c b obj detail) :=
  h.plus (s.alarm_keeps _ _ _ _)
theorem Frame.aspEvent {tx n c detail} (h : Frame f s₀ s) :
    Frame (f.plus ⟨[.host, .sent, .awl], .ASP_INT_SRC :: c.eventRegs⟩) s₀ (s.aspEvent tx n c detail) :=
  h.plus (State.aspEvent_frame (.refl _ s) (List.Subset.refl _) (fun _ hr => List.mem_cons_of_mem _ (List.mem_append_left _ hr))
    (List.cons_subset_cons _ (List.subset_append_right c.blk.irqRegs awlRegs)))

/-- A record update of one part. -/
theorem Frame.updPart (h : Frame f s₀ s) (p : Part) (hp : ∀ q, q ≠ p → q.same s t) (hr : t.regs = s.regs) :
    Frame (f.plus ⟨[p], []⟩) s₀ t :=
  h.plus (.of_parts (.refl _ s) (fun q n => hp q fun i => n (i ▸ List.mem_cons_self)) hr)

theorem Frame.updPending {x} (h : Frame f s₀ s) : Frame (f.plus ⟨[.pending], []⟩) s₀ { s with pending := x } :=
  h.updPart .pending (by rintro ⟨⟩ n <;> first | exact absurd rfl n | exact rfl) rfl
theorem Frame.updResp {x} (h : Frame f s₀ s) : Frame (f.plus ⟨[.resp], []⟩) s₀ { s with resp := x } :=
  h.updPart .resp (by rintro ⟨⟩ n <;> first | exact absurd rfl n | exact rfl) rfl
theorem Frame.updRdata {x} (h : Frame f s₀ s) : Frame (f.plus ⟨[.rdata], []⟩) s₀ { s with rdata := x } :=
  h.updPart .rdata (by rintro ⟨⟩ n <;> first | exact absurd rfl n | exact rfl) rfl
theorem Frame.updLatchHigh {x} (h : Frame f s₀ s) : Frame (f.plus ⟨[.latchHigh], []⟩) s₀ { s with latchHigh := x } :=
  h.updPart .latchHigh (by rintro ⟨⟩ n <;> first | exact absurd rfl n | exact rfl) rfl
theorem Frame.updLatchLow {x} (h : Frame f s₀ s) : Frame (f.plus ⟨[.latchLow], []⟩) s₀ { s with latchLow := x } :=
  h.updPart .latchLow (by rintro ⟨⟩ n <;> first | exact absurd rfl n | exact rfl) rfl
theorem Frame.updFreeCtr {x} (h : Frame f s₀ s) : Frame (f.plus ⟨[.freeCtr], []⟩) s₀ { s with freeCtr := x } :=
  h.updPart .freeCtr (by rintro ⟨⟩ n <;> first | exact absurd rfl n | exact rfl) rfl
theorem Frame.updSent {x} (h : Frame f s₀ s) : Frame (f.plus ⟨[.sent], []⟩) s₀ { s with sent := x } :=
  h.updPart .sent (by rintro ⟨⟩ n <;> first | exact absurd rfl n | exact rfl) rfl
theorem Frame.updTick {x} (h : Frame f s₀ s) : Frame (f.plus ⟨[.tick], []⟩) s₀ { s with tick := x } :=
  h.updPart .tick (by rintro ⟨⟩ n <;> first | exact absurd rfl n | exact rfl) rfl
theorem Frame.updTb {x} (h : Frame f s₀ s) : Frame (f.plus ⟨[.tb], []⟩) s₀ { s with tb := x } :=
  h.updPart .tb (by rintro ⟨⟩ n <;> first | exact absurd rfl n | exact rfl) rfl
theorem Frame.updHost {x} (h : Frame f s₀ s) : Frame (f.plus ⟨[.host], []⟩) s₀ { s with host := x } :=
  h.updPart .host (by rintro ⟨⟩ n <;> first | exact absurd rfl n | exact rfl) rfl
theorem Frame.updAwl {x} (h : Frame f s₀ s) : Frame (f.plus ⟨[.awl], []⟩) s₀ { s with awl := x } :=
  h.updPart .awl (by rintro ⟨⟩ n <;> first | exact absurd rfl n | exact rfl) rfl
theorem Frame.updIng {x} (h : Frame f s₀ s) : Frame (f.plus ⟨[.ing], []⟩) s₀ { s with ing := x } :=
  h.updPart .ing (by rintro ⟨⟩ n <;> first | exact absurd rfl n | exact rfl) rfl
theorem Frame.updTwl {x} (h : Frame f s₀ s) : Frame (f.plus ⟨[.twl], []⟩) s₀ { s with twl := x } :=
  h.updPart .twl (by rintro ⟨⟩ n <;> first | exact absurd rfl n | exact rfl) rfl
theorem Frame.updNim {x} (h : Frame f s₀ s) : Frame (f.plus ⟨[.nim], []⟩) s₀ { s with nim := x } :=
  h.updPart .nim (by rintro ⟨⟩ n <;> first | exact absurd rfl n | exact rfl) rfl
theorem Frame.updTks {x} (h : Frame f s₀ s) : Frame (f.plus ⟨[.tks], []⟩) s₀ { s with tks := x } :=
  h.updPart .tks (by rintro ⟨⟩ n <;> first | exact absurd rfl n | exact rfl) rfl
theorem Frame.updEgr {x} (h : Frame f s₀ s) : Frame (f.plus ⟨[.egr], []⟩) s₀ { s with egr := x } :=
  h.updPart .egr (by rintro ⟨⟩ n <;> first | exact absurd rfl n | exact rfl) rfl
theorem Frame.updTwd {x} (h : Frame f s₀ s) : Frame (f.plus ⟨[.twd], []⟩) s₀ { s with twd := x } :=
  h.updPart .twd (by rintro ⟨⟩ n <;> first | exact absurd rfl n | exact rfl) rfl
theorem Frame.updAsp {x} (h : Frame f s₀ s) : Frame (f.plus ⟨[.asp], []⟩) s₀ { s with asp := x } :=
  h.updPart .asp (by rintro ⟨⟩ n <;> first | exact absurd rfl n | exact rfl) rfl
theorem Frame.updVmp {x} (h : Frame f s₀ s) : Frame (f.plus ⟨[.vmp], []⟩) s₀ { s with vmp := x } :=
  h.updPart .vmp (by rintro ⟨⟩ n <;> first | exact absurd rfl n | exact rfl) rfl
theorem Frame.updLst {x} (h : Frame f s₀ s) : Frame (f.plus ⟨[.lst], []⟩) s₀ { s with lst := x } :=
  h.updPart .lst (by rintro ⟨⟩ n <;> first | exact absurd rfl n | exact rfl) rfl
theorem Frame.updNtm {x} (h : Frame f s₀ s) : Frame (f.plus ⟨[.ntm], []⟩) s₀ { s with ntm := x } :=
  h.updPart .ntm (by rintro ⟨⟩ n <;> first | exact absurd rfl n | exact rfl) rfl
theorem Frame.updNet {x} (h : Frame f s₀ s) : Frame (f.plus ⟨[.net], []⟩) s₀ { s with net := x } :=
  h.updPart .net (by rintro ⟨⟩ n <;> first | exact absurd rfl n | exact rfl) rfl
theorem Frame.updRsl {x} (h : Frame f s₀ s) : Frame (f.plus ⟨[.rsl], []⟩) s₀ { s with rsl := x } :=
  h.updPart .rsl (by rintro ⟨⟩ n <;> first | exact absurd rfl n | exact rfl) rfl
theorem Frame.updKeep {x} (h : Frame f s₀ s) : Frame (f.plus ⟨[.keep], []⟩) s₀ { s with keep := x } :=
  h.updPart .keep (by rintro ⟨⟩ n <;> first | exact absurd rfl n | exact rfl) rfl
theorem Frame.updUpd {x} (h : Frame f s₀ s) : Frame (f.plus ⟨[.upd], []⟩) s₀ { s with upd := x } :=
  h.updPart .upd (by rintro ⟨⟩ n <;> first | exact absurd rfl n | exact rfl) rfl
theorem Frame.updBoot {x} (h : Frame f s₀ s) : Frame (f.plus ⟨[.boot], []⟩) s₀ { s with boot := x } :=
  h.updPart .boot (by rintro ⟨⟩ n <;> first | exact absurd rfl n | exact rfl) rfl
theorem Frame.updFrameStore {x} (h : Frame f s₀ s) : Frame (f.plus ⟨[.frameStore], []⟩) s₀ { s with frameStore := x } :=
  h.updPart .frameStore (by rintro ⟨⟩ n <;> first | exact absurd rfl n | exact rfl) rfl
theorem Frame.updDir {x} (h : Frame f s₀ s) : Frame (f.plus ⟨[.dir], []⟩) s₀ { s with dir := x } :=
  h.updPart .dir (by rintro ⟨⟩ n <;> first | exact absurd rfl n | exact rfl) rfl

theorem Frame.ackEntry {k alone} (h : Frame f s₀ s) :
    Frame (f.plus ⟨[.nim, .sent, .host], [.NIM_Q_HWM, .NIM_ACCEPTED, .RSL_PAIR_STAT, .NIM_Q_STAT, .NIM_CQ_TAIL]⟩) s₀ (s.ackEntry
    k alone) :=
  h.plus (State.ackEntry_frame (.refl _ s) (.refl _) (.refl _))
theorem Frame.addRepair {kind array place spare} (h : Frame f s₀ s) :
    Frame (f.plus ⟨[.rsl, .host, .sent, .awl], [.RSL_REPAIR_USED, .RSL_STATUS, .AWL_MERGED, .AWL_STATUS, .INS_RET_STAT,
    .AWL_LOST, .GLB_INT_SUM, .AWL_INT_STAT, .RSL_INT_STAT]⟩) s₀ (s.addRepair kind array place spare) :=
  h.plus (State.addRepair_frame (.refl _ s) (.refl _) (.refl _))
theorem Frame.ageRecord {k} (h : Frame f s₀ s) : Frame (f.plus ⟨[.net], []⟩) s₀ (s.ageRecord k) :=
  h.plus (State.ageRecord_frame (.refl _ s) (.refl _))
theorem Frame.ageWarn {obj detail} (h : Frame f s₀ s) :
    Frame (f.plus ⟨[.host, .sent, .awl], [.RSL_STATUS, .AWL_MERGED, .AWL_STATUS, .INS_RET_STAT, .AWL_LOST, .GLB_INT_SUM,
    .AWL_INT_STAT, .RSL_INT_STAT]⟩) s₀ (s.ageWarn obj detail) :=
  h.plus (State.ageWarn_frame (.refl _ s) (.refl _) (.refl _))
theorem Frame.ancFlowPacket {a num bytes} (h : Frame f s₀ s) :
    Frame (f.plus ⟨[.ing, .host, .sent], [.ING_ANF_STAT, .GLB_INT_SUM, .ING_INT_STAT]⟩) s₀ (s.ancFlowPacket a num bytes) :=
  h.plus (State.ancFlowPacket_frame (.refl _ s) (.refl _) (.refl _))
theorem Frame.applyDelivery (h : Frame f s₀ s) : Frame (f.plus ⟨[.twl], [.TWL_RSET_USED]⟩) s₀ s.applyDelivery :=
  h.plus (State.applyDelivery_frame (.refl _ s) (.refl _) (.refl _))
theorem Frame.applyLp {p} (h : Frame f s₀ s) : Frame (f.plus ⟨[], [.NPT_PORT_STAT]⟩) s₀ (s.applyLp p) :=
  h.plus (State.applyLp_frame (.refl _ s) (.refl _))
theorem Frame.aspIdle (h : Frame f s₀ s) : Frame (f.plus ⟨[], [.ASP_STATUS]⟩) s₀ s.aspIdle :=
  h.plus (State.aspIdle_frame (.refl _ s) (.refl _))
theorem Frame.audioPacket {a ext late} (h : Frame f s₀ s) :
    Frame (f.plus ⟨[.ing], [.ING_AFL_STAT]⟩) s₀ (s.audioPacket a ext late) :=
  h.plus (State.audioPacket_frame (.refl _ s) (.refl _) (.refl _))
theorem Frame.authFail (h : Frame f s₀ s) :
    Frame (f.plus ⟨[.upd, .host, .sent, .freeCtr, .awl], [.UPD_AUTH_FAILS, .GLB_INT_SUM, .UPD_INT_STAT, .AWL_MERGED, .AWL_STATUS,
    .INS_RET_STAT, .AWL_LOST, .AWL_INT_STAT]⟩) s₀ s.authFail :=
  h.plus (State.authFail_frame (.refl _ s) (.refl _) (.refl _))
theorem Frame.awlFull (h : Frame f s₀ s) :
    Frame (f.plus ⟨[.host, .sent], [.AWL_STATUS, .GLB_INT_SUM, .AWL_INT_STAT, .GLB_ALERT_STAT, .GLB_INT_STAT]⟩) s₀ s.awlFull :=
  h.plus (State.awlFull_frame (.refl _ s) (.refl _) (.refl _))
theorem Frame.awlUnstated {b arg} (h : Frame f s₀ s) :
    Frame (f.plus ⟨[.freeCtr, .awl, .host, .sent], [.AWL_MERGED, .AWL_STATUS, .INS_RET_STAT, .AWL_LOST, .GLB_INT_SUM,
    .AWL_INT_STAT]⟩) s₀ (s.awlUnstated b arg) :=
  h.plus (State.awlUnstated_frame (.refl _ s) (.refl _) (.refl _))
theorem Frame.blockMoved {u x} (h : Frame f s₀ s) :
    Frame (f.plus ⟨[.tks, .twl, .nim], [.NIM_CORE_STAT, .NIM_SVC_STAT, .TWD_CORE_STAT, .VMP_PIPE_STAT]⟩) s₀ (s.blockMoved u x) :=
  h.plus (State.blockMoved_frame (.refl _ s) (.refl _) (.refl _))
theorem Frame.bootReady (h : Frame f s₀ s) : Frame (f.plus ⟨[], [.BOOT_TIME, .BOOT_STAGE]⟩) s₀ s.bootReady :=
  h.plus (State.bootReady_frame (.refl _ s) (.refl _))
theorem Frame.boundaryWith {n f'} (h : Frame f s₀ s) :
    Frame (f.plus ⟨[.ing, .host, .sent, .awl], [.ING_IN_STAT, .ING_LOSS_SUM, .GLB_INT_SUM, .ING_INT_STAT, .AWL_MERGED,
    .AWL_STATUS, .INS_RET_STAT, .AWL_LOST, .AWL_INT_STAT]⟩) s₀ (s.boundaryWith n f') :=
  h.plus (State.boundaryWith_frame (.refl _ s) (.refl _) (.refl _))
theorem Frame.calWrite {p c slots pre} (h : Frame f s₀ s) : Frame (f.plus ⟨[.twl], []⟩) s₀ (s.calWrite p c slots pre) :=
  h.plus (State.calWrite_frame (.refl _ s) (.refl _))
theorem Frame.changeReport {j st leave} (h : Frame f s₀ s) :
    Frame (f.plus ⟨[.sent, .egr], [.EGR_JOIN_REP, .EGR_JOIN_STAT]⟩) s₀ (s.changeReport j st leave) :=
  h.plus (State.changeReport_frame (.refl _ s) (.refl _) (.refl _))
theorem Frame.changeRole {leading} (h : Frame f s₀ s) :
    Frame (f.plus ⟨[.tks, .twl, .nim], [.NIM_CORE_STAT, .NIM_SVC_STAT]⟩) s₀ (s.changeRole leading) :=
  h.plus (State.changeRole_frame (.refl _ s) (.refl _) (.refl _))
theorem Frame.changeRoutes {d} (h : Frame f s₀ s) : Frame (f.plus ⟨[.egr], []⟩) s₀ (s.changeRoutes d) :=
  h.plus (State.changeRoutes_frame (.refl _ s) (.refl _))
theorem Frame.checkBank {bank} (h : Frame f s₀ s) :
    Frame (f.plus ⟨[.host, .sent], [.SET_STATUS, .GLB_INT_SUM, .SET_INT_STAT]⟩) s₀ (s.checkBank bank) :=
  h.plus (State.checkBank_frame (.refl _ s) (.refl _) (.refl _))
theorem Frame.checkFair {p} (h : Frame f s₀ s) :
    Frame (f.plus ⟨[.twl, .host, .sent], [.TWL_SP_FREE, .TWL_SP_FAIR_VIOL, .GLB_INT_SUM, .TWL_INT_STAT]⟩) s₀ (s.checkFair p) :=
  h.plus (State.checkFair_frame (.refl _ s) (.refl _) (.refl _))
theorem Frame.checkSeq {p h'} (h : Frame f s₀ s) : Frame (f.plus ⟨[.twl], [.TWL_SP_SEQ_GAP]⟩) s₀ (s.checkSeq p h') :=
  h.plus (State.checkSeq_frame (.refl _ s) (.refl _) (.refl _))
theorem Frame.closeSdiFrame {n} (h : Frame f s₀ s) : Frame (f.plus ⟨[.ing], [.ING_IN_BADFRM]⟩) s₀ (s.closeSdiFrame n) :=
  h.plus (State.closeSdiFrame_frame (.refl _ s) (.refl _) (.refl _))
theorem Frame.compareX {own theirs} (h : Frame f s₀ s) :
    Frame (f.plus ⟨[.host, .sent, .awl, .resp, .tks, .freeCtr], [.RSL_XCHK_DIV, .RSL_XCHK_LAST, .GLB_ALERT_STAT, .GLB_INT_SUM,
    .GLB_INT_STAT, .AWL_MERGED, .AWL_STATUS, .INS_RET_STAT, .AWL_LOST, .AWL_INT_STAT, .RSL_INT_STAT, .RSL_XCHK_EXPL]⟩) s₀
    (s.compareX own theirs) :=
  h.plus (State.compareX_frame (.refl _ s) (.refl _) (.refl _))
theorem Frame.countTx {p bytes} (h : Frame f s₀ s) :
    Frame (f.plus ⟨[], [.NPT_TX_FRAMES, .NPT_TX_BYTES]⟩) s₀ (s.countTx p bytes) :=
  h.plus (State.countTx_frame (.refl _ s) (.refl _))
theorem Frame.creditReturn {dchip dport n} (h : Frame f s₀ s) : Frame (f.plus ⟨[.twl], []⟩) s₀ (s.creditReturn dchip dport n) :=
  h.plus (State.creditReturn_frame (.refl _ s) (.refl _))
theorem Frame.ctrlFail {p f' st} (h : Frame f s₀ s) :
    Frame (f.plus ⟨[.sent, .host], [.NPT_TX_DISCARD]⟩) s₀ (s.ctrlFail p f' st) :=
  h.plus (State.ctrlFail_frame (.refl _ s) (.refl _) (.refl _))
theorem Frame.ctrlRefused {bit_ st} (h : Frame f s₀ s) :
    Frame (f.plus ⟨[.host, .sent, .resp], [.GLB_INT_SUM, .UPD_INT_STAT, .UPD_LAST_STATUS]⟩) s₀ (s.ctrlRefused bit_ st) :=
  h.plus (State.ctrlRefused_frame (.refl _ s) (.refl _) (.refl _))
theorem Frame.dirFetch (h : Frame f s₀ s) : Frame (f.plus ⟨[.resp, .nim], [.TWL_DIR_DATA, .TWL_DIR_RESULT]⟩) s₀ s.dirFetch :=
  h.plus (State.dirFetch_frame (.refl _ s) (.refl _) (.refl _))
theorem Frame.dirResult {who st} (h : Frame f s₀ s) : Frame (f.plus ⟨[.resp, .nim], [.TWL_DIR_RESULT]⟩) s₀ (s.dirResult who st) :=
  h.plus (State.dirResult_frame (.refl _ s) (.refl _) (.refl _))
theorem Frame.directBoundary {n phase} (h : Frame f s₀ s) :
    Frame (f.plus ⟨[.ing, .host, .sent, .awl], [.ING_IN_STAT, .ING_LOSS_SUM, .GLB_INT_SUM, .ING_INT_STAT, .AWL_MERGED,
    .AWL_STATUS, .INS_RET_STAT, .AWL_LOST, .AWL_INT_STAT, .ING_IN_LOSSCNT]⟩) s₀ (s.directBoundary n phase) :=
  h.plus (State.directBoundary_frame (.refl _ s) (.refl _) (.refl _))
theorem Frame.disarm {t'} (h : Frame f s₀ s) : Frame (f.plus ⟨[], [.NTM_TRG_CFG, .NTM_TRG_STAT, .NTM_STATUS]⟩) s₀ (s.disarm t') :=
  h.plus (State.disarm_frame (.refl _ s) (.refl _))
theorem Frame.drawFree (h : Frame f s₀ s) : Frame (f.plus ⟨[.freeCtr], []⟩) s₀ s.drawFree :=
  h.plus (State.drawFree_frame (.refl _ s) (.refl _))
theorem Frame.drawRk {k} (h : Frame f s₀ s) :
    Frame (f.plus ⟨[.freeCtr, .host, .sent], [.LST_TB_STAT, .NTM_SRV_STAT, .GLB_INT_SUM, .NTM_INT_STAT]⟩) s₀ (s.drawRk k) :=
  h.plus (State.drawRk_frame (.refl _ s) (.refl _) (.refl _))
theorem Frame.dropOrigin {origin} (h : Frame f s₀ s) :
    Frame (f.plus ⟨[.twl, .dir], [.TWL_DIR_COUNT, .TWL_DIR_OWN, .TWL_DIR_OVF]⟩) s₀ (s.dropOrigin origin) :=
  h.plus (State.dropOrigin_frame (.refl _ s) (.refl _) (.refl _))
theorem Frame.dropStaged (h : Frame f s₀ s) :
    Frame (f.plus ⟨[.awl, .host, .sent], [.AWL_STATUS, .INS_RET_STAT, .AWL_MERGED, .AWL_LOST, .GLB_INT_SUM, .AWL_INT_STAT]⟩) s₀
    s.dropStaged :=
  h.plus (State.dropStaged_frame (.refl _ s) (.refl _) (.refl _))
theorem Frame.dropTake {t'} (h : Frame f s₀ s) : Frame (f.plus ⟨[.tks], [.EGR_OUT_TAKE]⟩) s₀ (s.dropTake t') :=
  h.plus (State.dropTake_frame (.refl _ s) (.refl _) (.refl _))
theorem Frame.duplicate {q e tag} (h : Frame f s₀ s) :
    Frame (f.plus ⟨[.sent, .nim, .host], [.NIM_DUP, .NIM_CQ_TAIL, .NIM_Q_STAT]⟩) s₀ (s.duplicate q e tag) :=
  h.plus (State.duplicate_frame (.refl _ s) (.refl _) (.refl _))
theorem Frame.endCtx {i} (h : Frame f s₀ s) : Frame (f.plus ⟨[.tks, .twl, .nim], [.NIM_CORE_STAT]⟩) s₀ (s.endCtx i) :=
  h.plus (State.endCtx_frame (.refl _ s) (.refl _) (.refl _))
theorem Frame.endOld {old e} (h : Frame f s₀ s) : Frame (f.plus ⟨[.twl], []⟩) s₀ (s.endOld old e) :=
  h.plus (State.endOld_frame (.refl _ s) (.refl _))
theorem Frame.enterBlack {n} (h : Frame f s₀ s) :
    Frame (f.plus ⟨[.host, .sent, .ing, .awl], [.GLB_INT_SUM, .ING_INT_STAT, .ING_IN_LOSSCNT, .ING_IN_STAT, .ING_LOSS_SUM,
    .AWL_MERGED, .AWL_STATUS, .INS_RET_STAT, .AWL_LOST, .AWL_INT_STAT]⟩) s₀ (s.enterBlack n) :=
  h.plus (State.enterBlack_frame (.refl _ s) (.refl _) (.refl _))
theorem Frame.enterLst {st} (h : Frame f s₀ s) :
    Frame (f.plus ⟨[.host, .sent, .awl, .lst], [.LST_TAG, .LST_STATUS, .GLB_INT_SUM, .LST_INT_STAT, .AWL_MERGED, .AWL_STATUS,
    .INS_RET_STAT, .AWL_LOST, .AWL_INT_STAT]⟩) s₀ (s.enterLst st) :=
  h.plus (State.enterLst_frame (.refl _ s) (.refl _) (.refl _))
theorem Frame.eraseSector {dev sector} (h : Frame f s₀ s) :
    Frame (f.plus ⟨[.keep, .host, .sent, .awl], [.RSL_FLASH_WEAR, .RSL_STATUS, .AWL_MERGED, .AWL_STATUS, .INS_RET_STAT,
    .AWL_LOST, .GLB_INT_SUM, .AWL_INT_STAT, .RSL_INT_STAT, .SET_SECTORS, .SET_INT_STAT]⟩) s₀ (s.eraseSector dev sector) :=
  h.plus (State.eraseSector_frame (.refl _ s) (.refl _) (.refl _))
theorem Frame.exchange {k p d} (h : Frame f s₀ s) :
    Frame (f.plus ⟨[.ntm], [.NTM_SRV_REJECT, .NTM_PORT_MPD]⟩) s₀ (s.exchange k p d) :=
  h.plus (State.exchange_frame (.refl _ s) (.refl _) (.refl _))
theorem Frame.findHead (h : Frame f s₀ s) : Frame (f.plus ⟨[], [.AWL_HEAD, .AWL_COUNT, .AWL_OLDEST]⟩) s₀ s.findHead :=
  h.plus (State.findHead_frame (.refl _ s) (.refl _))
theorem Frame.flagSources {d} (h : Frame f s₀ s) : Frame (f.plus ⟨[.egr], []⟩) s₀ (s.flagSources d) :=
  h.plus (State.flagSources_frame (.refl _ s) (.refl _))
theorem Frame.flashProgramFails (h : Frame f s₀ s) :
    Frame (f.plus ⟨[.awl, .keep, .host, .sent], [.SET_SECTORS, .GLB_INT_SUM, .SET_INT_STAT, .AWL_MERGED, .AWL_STATUS,
    .INS_RET_STAT, .AWL_LOST, .AWL_INT_STAT, .GLB_ALERT_STAT, .GLB_INT_STAT, .AWL_HEAD]⟩) s₀ s.flashProgramFails :=
  h.plus (State.flashProgramFails_frame (.refl _ s) (.refl _) (.refl _))
theorem Frame.freeRing {n} (h : Frame f s₀ s) : Frame (f.plus ⟨[.ing], [.ING_POOL_USED, .ING_IN_ALLOC]⟩) s₀ (s.freeRing n) :=
  h.plus (State.freeRing_frame (.refl _ s) (.refl _) (.refl _))
theorem Frame.giveDone {n seq st} (h : Frame f s₀ s) : Frame (f.plus ⟨[.nim], [.NIM_SVC_STAT]⟩) s₀ (s.giveDone n seq st) :=
  h.plus (State.giveDone_frame (.refl _ s) (.refl _) (.refl _))
theorem Frame.giveResult {i v st} (h : Frame f s₀ s) : Frame (f.plus ⟨[.nim], []⟩) s₀ (s.giveResult i v st) :=
  h.plus (State.giveResult_frame (.refl _ s) (.refl _))
theorem Frame.giveRing {n cap bytes} (h : Frame f s₀ s) : Frame (f.plus ⟨[.nim], [.NIM_SVC_STAT]⟩) s₀ (s.giveRing n cap bytes) :=
  h.plus (State.giveRing_frame (.refl _ s) (.refl _) (.refl _))
theorem Frame.goResult {st} (h : Frame f s₀ s) :
    Frame (f.plus ⟨[.resp, .freeCtr], [.AWL_CLR_RESULT, .AWL_CLR_NONCE]⟩) s₀ (s.goResult st) :=
  h.plus (State.goResult_frame (.refl _ s) (.refl _) (.refl _))
theorem Frame.holdOver {mean} (h : Frame f s₀ s) :
    Frame (f.plus ⟨[.host, .sent, .awl, .lst], [.LST_REF_STAT, .NTM_SRV_STAT, .LST_STATUS, .LST_SWITCHES, .GLB_INT_SUM,
    .LST_INT_STAT, .LST_FREQ, .LST_TAG, .AWL_MERGED, .AWL_STATUS, .INS_RET_STAT, .AWL_LOST, .AWL_INT_STAT, .LST_HOLD_FREQ,
    .LST_HOLD_STAT]⟩) s₀ (s.holdOver mean) :=
  h.plus (State.holdOver_frame (.refl _ s) (.refl _) (.refl _))
theorem Frame.holdRk {k} (h : Frame f s₀ s) : Frame (f.plus ⟨[.freeCtr], [.LST_TB_STAT]⟩) s₀ (s.holdRk k) :=
  h.plus (State.holdRk_frame (.refl _ s) (.refl _) (.refl _))
theorem Frame.huntNext {n} (h : Frame f s₀ s) : Frame (f.plus ⟨[.ing], []⟩) s₀ (s.huntNext n) :=
  h.plus (State.huntNext_frame (.refl _ s) (.refl _))
theorem Frame.imageSel {n src frame} (h : Frame f s₀ s) : Frame (f.plus ⟨[.tks], []⟩) s₀ (s.imageSel n src frame) :=
  h.plus (State.imageSel_frame (.refl _ s) (.refl _))
theorem Frame.joinLinkUp {port} (h : Frame f s₀ s) :
    Frame (f.plus ⟨[.sent, .egr], [.EGR_JOIN_REP, .EGR_JOIN_STAT]⟩) s₀ (s.joinLinkUp port) :=
  h.plus (State.joinLinkUp_frame (.refl _ s) (.refl _) (.refl _))
theorem Frame.joinMatch {port flow} (h : Frame f s₀ s) : Frame (f.plus ⟨[], [.EGR_JOIN_STAT]⟩) s₀ (s.joinMatch port flow) :=
  h.plus (State.joinMatch_frame (.refl _ s) (.refl _))
theorem Frame.journalAlone (h : Frame f s₀ s) :
    Frame (f.plus ⟨[.nim, .sent, .host], [.NIM_Q_HWM, .NIM_ACCEPTED, .RSL_PAIR_STAT, .NIM_Q_STAT, .NIM_CQ_TAIL]⟩) s₀
    s.journalAlone :=
  h.plus (State.journalAlone_frame (.refl _ s) (.refl _) (.refl _))
theorem Frame.killPrograms (h : Frame f s₀ s) :
    Frame (f.plus ⟨[.nim, .tks, .twl], [.NIM_CORE_STAT, .NIM_SVC_STAT, .NIM_REPLAY]⟩) s₀ s.killPrograms :=
  h.plus (State.killPrograms_frame (.refl _ s) (.refl _) (.refl _))
theorem Frame.laneLol {i} (h : Frame f s₀ s) :
    Frame (f.plus ⟨[.host, .sent, .awl], [.WLT_LANE_LOL, .WLT_LK_SRC, .AWL_MERGED, .AWL_STATUS, .INS_RET_STAT, .AWL_LOST,
    .GLB_INT_SUM, .AWL_INT_STAT, .WLT_INT_STAT]⟩) s₀ (s.laneLol i) :=
  h.plus (State.laneLol_frame (.refl _ s) (.refl _) (.refl _))
theorem Frame.laneRetrain {i} (h : Frame f s₀ s) :
    Frame (f.plus ⟨[.resp, .net, .host, .sent, .awl, .ing], [.WLT_LANE_LOL, .WLT_LK_SRC, .AWL_MERGED, .AWL_STATUS, .INS_RET_STAT,
    .AWL_LOST, .GLB_INT_SUM, .AWL_INT_STAT, .WLT_INT_STAT, .ING_SDI_RATE, .NPT_LINK, .NPT_LINK_DOWNS, .NPT_INT_STAT,
    .NPT_PORT_STAT, .NTM_PHY_TXABORT, .NTM_INT_STAT, .NPT_TX_DISCARD]⟩) s₀ (s.laneRetrain i) :=
  h.plus (State.laneRetrain_frame (.refl _ s) (.refl _) (.refl _))
theorem Frame.lastStatus {op st} (h : Frame f s₀ s) : Frame (f.plus ⟨[], [.UPD_LAST_STATUS]⟩) s₀ (s.lastStatus op st) :=
  h.plus (State.lastStatus_frame (.refl _ s) (.refl _))
theorem Frame.layerFlag {v} (h : Frame f s₀ s) : Frame (f.plus ⟨[.egr], []⟩) s₀ (s.layerFlag v) :=
  h.plus (State.layerFlag_frame (.refl _ s) (.refl _))
theorem Frame.loseInput {n reason} (h : Frame f s₀ s) :
    Frame (f.plus ⟨[.ing, .host, .sent, .awl], [.ING_IN_STAT, .GLB_INT_SUM, .ING_INT_STAT, .ING_IN_LOSSCNT, .ING_LOSS_SUM,
    .AWL_MERGED, .AWL_STATUS, .INS_RET_STAT, .AWL_LOST, .AWL_INT_STAT]⟩) s₀ (s.loseInput n reason) :=
  h.plus (State.loseInput_frame (.refl _ s) (.refl _) (.refl _))
theorem Frame.loseOutRoute {n} (h : Frame f s₀ s) : Frame (f.plus ⟨[.egr], [.EGR_OUT_TAKE]⟩) s₀ (s.loseOutRoute n) :=
  h.plus (State.loseOutRoute_frame (.refl _ s) (.refl _) (.refl _))
theorem Frame.mapPorts {f'} (h : Frame f s₀ s) : Frame (f.plus ⟨[.twl], []⟩) s₀ (s.mapPorts f') :=
  h.plus (State.mapPorts_frame (.refl _ s) (.refl _))
theorem Frame.memberArmed {k sig time late} (h : Frame f s₀ s) :
    Frame (f.plus ⟨[.tks, .nim, .resp, .host, .sent], [.NIM_JRN_FREE, .NIM_JRN_OPEN, .GLB_INT_SUM, .NIM_INT_STAT]⟩) s₀
    (s.memberArmed k sig time late) :=
  h.plus (State.memberArmed_frame (.refl _ s) (.refl _) (.refl _))
theorem Frame.memberRefused {k sig pos st} (h : Frame f s₀ s) :
    Frame (f.plus ⟨[.tks, .nim, .resp, .host, .sent], [.NIM_JRN_FREE, .NIM_JRN_OPEN, .GLB_INT_SUM, .NIM_INT_STAT]⟩) s₀
    (s.memberRefused k sig pos st) :=
  h.plus (State.memberRefused_frame (.refl _ s) (.refl _) (.refl _))
theorem Frame.movePhase {ps} (h : Frame f s₀ s) : Frame (f.plus ⟨[.tb], []⟩) s₀ (s.movePhase ps) :=
  h.plus (State.movePhase_frame (.refl _ s) (.refl _))
theorem Frame.noSpare {u} (h : Frame f s₀ s) :
    Frame (f.plus ⟨[.host, .sent, .freeCtr, .awl], [.RSL_UNIT_STAT, .GLB_ALERT_STAT, .GLB_INT_SUM, .GLB_INT_STAT, .AWL_MERGED,
    .AWL_STATUS, .INS_RET_STAT, .AWL_LOST, .AWL_INT_STAT]⟩) s₀ (s.noSpare u) :=
  h.plus (State.noSpare_frame (.refl _ s) (.refl _) (.refl _))
theorem Frame.notOwner {op session} (h : Frame f s₀ s) :
    Frame (f.plus ⟨[.resp, .sent], [.UPD_PKT_BUSY]⟩) s₀ (s.notOwner op session) :=
  h.plus (State.notOwner_frame (.refl _ s) (.refl _) (.refl _))
theorem Frame.noteLane {i} (h : Frame f s₀ s) : Frame (f.plus ⟨[], [.WLT_LK_SRC]⟩) s₀ (s.noteLane i) :=
  h.plus (State.noteLane_frame (.refl _ s) (.refl _))
theorem Frame.noteLink {k} (h : Frame f s₀ s) : Frame (f.plus ⟨[], [.WLT_LK_SRC]⟩) s₀ (s.noteLink k) :=
  h.plus (State.noteLink_frame (.refl _ s) (.refl _))
theorem Frame.noteLoss {n} (h : Frame f s₀ s) :
    Frame (f.plus ⟨[.host, .sent], [.GLB_INT_SUM, .ING_INT_STAT, .ING_IN_LOSSCNT]⟩) s₀ (s.noteLoss n) :=
  h.plus (State.noteLoss_frame (.refl _ s) (.refl _) (.refl _))
theorem Frame.ntmIdle (h : Frame f s₀ s) : Frame (f.plus ⟨[], [.NTM_STATUS]⟩) s₀ s.ntmIdle :=
  h.plus (State.ntmIdle_frame (.refl _ s) (.refl _))
theorem Frame.outputsBoundary {d} (h : Frame f s₀ s) : Frame (f.plus ⟨[.egr], [.EGR_OUT_STAT]⟩) s₀ (s.outputsBoundary d) :=
  h.plus (State.outputsBoundary_frame (.refl _ s) (.refl _) (.refl _))
theorem Frame.ownerSpoke (h : Frame f s₀ s) : Frame (f.plus ⟨[.upd], [.UPD_LOCK]⟩) s₀ s.ownerSpoke :=
  h.plus (State.ownerSpoke_frame (.refl _ s) (.refl _) (.refl _))
theorem Frame.portFall {p} (h : Frame f s₀ s) :
    Frame (f.plus ⟨[.host, .sent, .awl, .net], [.NPT_LINK, .NPT_LINK_DOWNS, .AWL_MERGED, .AWL_STATUS, .INS_RET_STAT, .AWL_LOST,
    .GLB_INT_SUM, .AWL_INT_STAT, .NPT_INT_STAT, .NPT_PORT_STAT, .NTM_PHY_TXABORT, .NTM_INT_STAT, .NPT_TX_DISCARD]⟩) s₀
    (s.portFall p) :=
  h.plus (State.portFall_frame (.refl _ s) (.refl _) (.refl _))
theorem Frame.portStart {p} (h : Frame f s₀ s) : Frame (f.plus ⟨[], [.NPT_PORT_STAT]⟩) s₀ (s.portStart p) :=
  h.plus (State.portStart_frame (.refl _ s) (.refl _))
theorem Frame.portStop {p st} (h : Frame f s₀ s) :
    Frame (f.plus ⟨[.sent, .host, .net, .awl], [.NPT_TX_DISCARD, .NPT_LINK, .NPT_LINK_DOWNS, .AWL_MERGED, .AWL_STATUS,
    .INS_RET_STAT, .AWL_LOST, .GLB_INT_SUM, .AWL_INT_STAT, .NPT_INT_STAT, .NPT_PORT_STAT, .NTM_PHY_TXABORT, .NTM_INT_STAT]⟩) s₀
    (s.portStop p st) :=
  h.plus (State.portStop_frame (.refl _ s) (.refl _) (.refl _))
theorem Frame.postDone {k} (h : Frame f s₀ s) :
    Frame (f.plus ⟨[.sent, .nim, .host], [.NIM_CQ_TAIL, .NIM_Q_STAT]⟩) s₀ (s.postDone k) :=
  h.plus (State.postDone_frame (.refl _ s) (.refl _) (.refl _))
theorem Frame.postDones (h : Frame f s₀ s) : Frame (f.plus ⟨[.sent, .nim, .host], [.NIM_CQ_TAIL, .NIM_Q_STAT]⟩) s₀ s.postDones :=
  h.plus (State.postDones_frame (.refl _ s) (.refl _) (.refl _))
theorem Frame.postRecord {q r} (h : Frame f s₀ s) :
    Frame (f.plus ⟨[.nim, .sent, .host], [.NIM_CQ_TAIL, .NIM_CQ_LOST, .GLB_INT_SUM, .NIM_INT_STAT]⟩) s₀ (s.postRecord q r) :=
  h.plus (State.postRecord_frame (.refl _ s) (.refl _) (.refl _))
theorem Frame.ptpRelay {k p m} (h : Frame f s₀ s) : Frame (f.plus ⟨[.net], [.NTM_PORT_TXMSG]⟩) s₀ (s.ptpRelay k p m) :=
  h.plus (State.ptpRelay_frame (.refl _ s) (.refl _) (.refl _))
theorem Frame.ptpRequest {k p kind tx} (h : Frame f s₀ s) :
    Frame (f.plus ⟨[.net, .ntm], [.NTM_PORT_TXMSG]⟩) s₀ (s.ptpRequest k p kind tx) :=
  h.plus (State.ptpRequest_frame (.refl _ s) (.refl _) (.refl _))
theorem Frame.ptpSend {k p kind} (h : Frame f s₀ s) : Frame (f.plus ⟨[.net], [.NTM_PORT_TXMSG]⟩) s₀ (s.ptpSend k p kind) :=
  h.plus (State.ptpSend_frame (.refl _ s) (.refl _) (.refl _))
theorem Frame.queueCtrl {p f'} (h : Frame f s₀ s) : Frame (f.plus ⟨[.net], []⟩) s₀ (s.queueCtrl p f') :=
  h.plus (State.queueCtrl_frame (.refl _ s) (.refl _))
theorem Frame.raiseFloor {h'} (h : Frame f s₀ s) : Frame (f.plus ⟨[], [.SET_FLOOR]⟩) s₀ (s.raiseFloor h') :=
  h.plus (State.raiseFloor_frame (.refl _ s) (.refl _))
theorem Frame.raiseHwm {k} (h : Frame f s₀ s) : Frame (f.plus ⟨[.nim], [.NIM_Q_HWM]⟩) s₀ (s.raiseHwm k) :=
  h.plus (State.raiseHwm_frame (.refl _ s) (.refl _) (.refl _))
theorem Frame.readdFails {k} (h : Frame f s₀ s) :
    Frame (f.plus ⟨[.net, .freeCtr, .awl, .host, .sent], [.AWL_MERGED, .AWL_STATUS, .INS_RET_STAT, .AWL_LOST, .GLB_INT_SUM,
    .AWL_INT_STAT]⟩) s₀ (s.readdFails k) :=
  h.plus (State.readdFails_frame (.refl _ s) (.refl _) (.refl _))
theorem Frame.ready {i} (h : Frame f s₀ s) : Frame (f.plus ⟨[.nim], []⟩) s₀ (s.ready i) :=
  h.plus (State.ready_frame (.refl _ s) (.refl _))
theorem Frame.recalStep {i offset larger} (h : Frame f s₀ s) : Frame (f.plus ⟨[.net], []⟩) s₀ (s.recalStep i offset larger) :=
  h.plus (State.recalStep_frame (.refl _ s) (.refl _))
theorem Frame.receiverLock {n rate} (h : Frame f s₀ s) : Frame (f.plus ⟨[.ing], [.ING_SDI_RATE]⟩) s₀ (s.receiverLock n rate) :=
  h.plus (State.receiverLock_frame (.refl _ s) (.refl _) (.refl _))
theorem Frame.receiverUnlock {n} (h : Frame f s₀ s) : Frame (f.plus ⟨[.ing], [.ING_SDI_RATE]⟩) s₀ (s.receiverUnlock n) :=
  h.plus (State.receiverUnlock_frame (.refl _ s) (.refl _) (.refl _))
theorem Frame.recovery (h : Frame f s₀ s) :
    Frame (f.plus ⟨[.host, .sent], [.BOOT_STAGE, .UPD_STATUS, .BOOT_FAIL, .GLB_ALERT_STAT, .GLB_INT_SUM, .GLB_INT_STAT]⟩) s₀
    s.recovery :=
  h.plus (State.recovery_frame (.refl _ s) (.refl _) (.refl _))
theorem Frame.refclkSettle (h : Frame f s₀ s) :
    Frame (f.plus ⟨[.host, .sent, .awl], [.LST_STATUS, .AWL_MERGED, .AWL_STATUS, .INS_RET_STAT, .AWL_LOST, .GLB_INT_SUM,
    .AWL_INT_STAT, .LST_INT_STAT, .WLT_NL_CLKMOVE, .WLT_INT_STAT]⟩) s₀ s.refclkSettle :=
  h.plus (State.refclkSettle_frame (.refl _ s) (.refl _) (.refl _))
theorem Frame.refuseSwap {st} (h : Frame f s₀ s) : Frame (f.plus ⟨[.resp], [.TWL_SWAP_STAT]⟩) s₀ (s.refuseSwap st) :=
  h.plus (State.refuseSwap_frame (.refl _ s) (.refl _) (.refl _))
theorem Frame.refusedOrder {q seq tag st} (h : Frame f s₀ s) :
    Frame (f.plus ⟨[.sent, .nim, .host], [.NIM_CQ_TAIL, .GLB_INT_SUM, .NIM_INT_STAT, .NIM_REFUSED, .NIM_Q_REFUSED]⟩) s₀
    (s.refusedOrder q seq tag st) :=
  h.plus (State.refusedOrder_frame (.refl _ s) (.refl _) (.refl _))
theorem Frame.relayArb {h' relay} (h : Frame f s₀ s) :
    Frame (f.plus ⟨[.host, .sent], [.TWL_NO_ROUTE, .TWL_HOP_DROP, .GLB_INT_SUM, .TWL_INT_STAT, .TWL_LK_FWD, .TWL_LK_TX_CELLS]⟩)
    s₀ (s.relayArb h' relay) :=
  h.plus (State.relayArb_frame (.refl _ s) (.refl _) (.refl _))
theorem Frame.repairRow {b} (h : Frame f s₀ s) :
    Frame (f.plus ⟨[.rsl, .host, .sent, .awl], [.RSL_REPAIR_USED, .RSL_STATUS, .AWL_MERGED, .AWL_STATUS, .INS_RET_STAT,
    .AWL_LOST, .GLB_INT_SUM, .AWL_INT_STAT, .RSL_INT_STAT, .RSL_SRAM_REP]⟩) s₀ (s.repairRow b) :=
  h.plus (State.repairRow_frame (.refl _ s) (.refl _) (.refl _))
theorem Frame.replicate {h' relay} (h : Frame f s₀ s) :
    Frame (f.plus ⟨[.host, .sent], [.TWL_NO_ROUTE, .TWL_HOP_DROP, .GLB_INT_SUM, .TWL_INT_STAT, .TWL_LK_FWD, .TWL_LK_TX_CELLS]⟩)
    s₀ (s.replicate h' relay) :=
  h.plus (State.replicate_frame (.refl _ s) (.refl _) (.refl _))
theorem Frame.report {j leave older} (h : Frame f s₀ s) : Frame (f.plus ⟨[.sent], [.EGR_JOIN_REP]⟩) s₀ (s.report j leave older) :=
  h.plus (State.report_frame (.refl _ s) (.refl _) (.refl _))
theorem Frame.resetCores (h : Frame f s₀ s) : Frame (f.plus ⟨[.tks, .twl, .nim], []⟩) s₀ s.resetCores :=
  h.plus (State.resetCores_frame (.refl _ s) (.refl _))
theorem Frame.resumeLink {k} (h : Frame f s₀ s) : Frame (f.plus ⟨[.twl], []⟩) s₀ (s.resumeLink k) :=
  h.plus (State.resumeLink_frame (.refl _ s) (.refl _))
theorem Frame.resyncEnd (h : Frame f s₀ s) : Frame (f.plus ⟨[], [.TWL_STATUS]⟩) s₀ s.resyncEnd :=
  h.plus (State.resyncEnd_frame (.refl _ s) (.refl _))
theorem Frame.retirePage {page bank row} (h : Frame f s₀ s) :
    Frame (f.plus ⟨[.rsl, .host, .sent, .awl], [.RSL_HBM_RETIRED, .RSL_REPAIR_USED, .RSL_STATUS, .AWL_MERGED, .AWL_STATUS,
    .INS_RET_STAT, .AWL_LOST, .GLB_INT_SUM, .AWL_INT_STAT, .RSL_INT_STAT]⟩) s₀ (s.retirePage page bank row) :=
  h.plus (State.retirePage_frame (.refl _ s) (.refl _) (.refl _))
theorem Frame.retireSector {dev sector} (h : Frame f s₀ s) :
    Frame (f.plus ⟨[.keep, .host, .sent, .awl], [.SET_SECTORS, .GLB_INT_SUM, .SET_INT_STAT, .AWL_MERGED, .AWL_STATUS,
    .INS_RET_STAT, .AWL_LOST, .AWL_INT_STAT]⟩) s₀ (s.retireSector dev sector) :=
  h.plus (State.retireSector_frame (.refl _ s) (.refl _) (.refl _))
theorem Frame.routeReady {req} (h : Frame f s₀ s) : Frame (f.plus ⟨[.egr, .tks, .sent], [.EGR_OUT_TAKE]⟩) s₀ (s.routeReady req) :=
  h.plus (State.routeReady_frame (.refl _ s) (.refl _) (.refl _))
theorem Frame.runSender {k i rate} (h : Frame f s₀ s) : Frame (f.plus ⟨[.egr], [.EGR_VSND_STAT]⟩) s₀ (s.runSender k i rate) :=
  h.plus (State.runSender_frame (.refl _ s) (.refl _) (.refl _))
theorem Frame.rxDescOut {r len port cls entry flags frameLen time st} (h : Frame f s₀ s) :
    Frame (f.plus ⟨[.sent, .net], [.NPT_RXR_HEAD]⟩) s₀ (s.rxDescOut r len port cls entry flags frameLen time st) :=
  h.plus (State.rxDescOut_frame (.refl _ s) (.refl _) (.refl _))
theorem Frame.rxrVector {r} (h : Frame f s₀ s) : Frame (f.plus ⟨[.host, .sent, .net], []⟩) s₀ (s.rxrVector r) :=
  h.plus (State.rxrVector_frame (.refl _ s) (.refl _))
theorem Frame.sendClaim {id} (h : Frame f s₀ s) : Frame (f.plus ⟨[.rsl, .sent], [.RSL_SPARE_STAT]⟩) s₀ (s.sendClaim id) :=
  h.plus (State.sendClaim_frame (.refl _ s) (.refl _) (.refl _))
theorem Frame.sendRtp {k i ts seq marker} (h : Frame f s₀ s) :
    Frame (f.plus ⟨[.sent], [.EGR_VSND_STAT, .EGR_VSND_TXB, .EGR_VSND_TXA, .EGR_ASND_TX, .EGR_XSND_TX]⟩) s₀ (s.sendRtp k i ts seq
    marker) :=
  h.plus (State.sendRtp_frame (.refl _ s) (.refl _) (.refl _))
theorem Frame.sendX {d obs} (h : Frame f s₀ s) : Frame (f.plus ⟨[.tks, .sent, .rsl], [.RSL_XCHK_MISS]⟩) s₀ (s.sendX d obs) :=
  h.plus (State.sendX_frame (.refl _ s) (.refl _) (.refl _))
theorem Frame.senderOff {k i} (h : Frame f s₀ s) : Frame (f.plus ⟨[.egr], [.EGR_VSND_STAT]⟩) s₀ (s.senderOff k i) :=
  h.plus (State.senderOff_frame (.refl _ s) (.refl _) (.refl _))
theorem Frame.setAspState {tx n st} (h : Frame f s₀ s) :
    Frame (f.plus ⟨[], [.ASP_TX_STAT, .ASP_RX_STAT]⟩) s₀ (s.setAspState tx n st) :=
  h.plus (State.setAspState_frame (.refl _ s) (.refl _))
theorem Frame.setAwl {x} (h : Frame f s₀ s) : Frame (f.plus ⟨[.awl], []⟩) s₀ (s.setAwl x) :=
  h.plus (State.setAwl_frame (.refl _ s) (.refl _))
theorem Frame.setBoot {x} (h : Frame f s₀ s) : Frame (f.plus ⟨[.boot], []⟩) s₀ (s.setBoot x) :=
  h.plus (State.setBoot_frame (.refl _ s) (.refl _))
theorem Frame.setCap {c x} (h : Frame f s₀ s) : Frame (f.plus ⟨[.ntm], []⟩) s₀ (s.setCap c x) :=
  h.plus (State.setCap_frame (.refl _ s) (.refl _))
theorem Frame.setCore {below} (h : Frame f s₀ s) : Frame (f.plus ⟨[.rsl, .sent], [.RSL_AVS_STAT]⟩) s₀ (s.setCore below) :=
  h.plus (State.setCore_frame (.refl _ s) (.refl _) (.refl _))
theorem Frame.setCtx {i c} (h : Frame f s₀ s) : Frame (f.plus ⟨[.nim], []⟩) s₀ (s.setCtx i c) :=
  h.plus (State.setCtx_frame (.refl _ s) (.refl _))
theorem Frame.setDir {flow e} (h : Frame f s₀ s) : Frame (f.plus ⟨[.dir], []⟩) s₀ (s.setDir flow e) :=
  h.plus (State.setDir_frame (.refl _ s) (.refl _))
theorem Frame.setDirs {d} (h : Frame f s₀ s) : Frame (f.plus ⟨[.twl], []⟩) s₀ (s.setDirs d) :=
  h.plus (State.setDirs_frame (.refl _ s) (.refl _))
theorem Frame.setEntry {k f'} (h : Frame f s₀ s) : Frame (f.plus ⟨[.nim], []⟩) s₀ (s.setEntry k f') :=
  h.plus (State.setEntry_frame (.refl _ s) (.refl _))
theorem Frame.setFreq {f'} (h : Frame f s₀ s) : Frame (f.plus ⟨[], [.LST_FREQ]⟩) s₀ (s.setFreq f') :=
  h.plus (State.setFreq_frame (.refl _ s) (.refl _))
theorem Frame.setFrozen {b} (h : Frame f s₀ s) : Frame (f.plus ⟨[], [.AWL_CTRL, .AWL_STATUS]⟩) s₀ (s.setFrozen b) :=
  h.plus (State.setFrozen_frame (.refl _ s) (.refl _))
theorem Frame.setGpio {g b} (h : Frame f s₀ s) : Frame (f.plus ⟨[.ntm], []⟩) s₀ (s.setGpio g b) :=
  h.plus (State.setGpio_frame (.refl _ s) (.refl _))
theorem Frame.setInState {n st} (h : Frame f s₀ s) : Frame (f.plus ⟨[], [.ING_IN_STAT, .ING_LOSS_SUM]⟩) s₀ (s.setInState n st) :=
  h.plus (State.setInState_frame (.refl _ s) (.refl _))
theorem Frame.setInput {n x} (h : Frame f s₀ s) : Frame (f.plus ⟨[.ing], []⟩) s₀ (s.setInput n x) :=
  h.plus (State.setInput_frame (.refl _ s) (.refl _))
theorem Frame.setJoin {j x} (h : Frame f s₀ s) : Frame (f.plus ⟨[.egr], []⟩) s₀ (s.setJoin j x) :=
  h.plus (State.setJoin_frame (.refl _ s) (.refl _))
theorem Frame.setKeep {x} (h : Frame f s₀ s) : Frame (f.plus ⟨[.keep], []⟩) s₀ (s.setKeep x) :=
  h.plus (State.setKeep_frame (.refl _ s) (.refl _))
theorem Frame.setLane {i x} (h : Frame f s₀ s) : Frame (f.plus ⟨[.net], []⟩) s₀ (s.setLane i x) :=
  h.plus (State.setLane_frame (.refl _ s) (.refl _))
theorem Frame.setLink {k x} (h : Frame f s₀ s) : Frame (f.plus ⟨[.net], []⟩) s₀ (s.setLink k x) :=
  h.plus (State.setLink_frame (.refl _ s) (.refl _))
theorem Frame.setLkState {k st} (h : Frame f s₀ s) : Frame (f.plus ⟨[], [.WLT_LK_STAT]⟩) s₀ (s.setLkState k st) :=
  h.plus (State.setLkState_frame (.refl _ s) (.refl _))
theorem Frame.setLst {x} (h : Frame f s₀ s) : Frame (f.plus ⟨[.lst], []⟩) s₀ (s.setLst x) :=
  h.plus (State.setLst_frame (.refl _ s) (.refl _))
theorem Frame.setNetPort {p x} (h : Frame f s₀ s) : Frame (f.plus ⟨[.net], []⟩) s₀ (s.setNetPort p x) :=
  h.plus (State.setNetPort_frame (.refl _ s) (.refl _))
theorem Frame.setOtd {d x} (h : Frame f s₀ s) : Frame (f.plus ⟨[.egr], []⟩) s₀ (s.setOtd d x) :=
  h.plus (State.setOtd_frame (.refl _ s) (.refl _))
theorem Frame.setOut {n x} (h : Frame f s₀ s) : Frame (f.plus ⟨[.egr], []⟩) s₀ (s.setOut n x) :=
  h.plus (State.setOut_frame (.refl _ s) (.refl _))
theorem Frame.setPipe {v p} (h : Frame f s₀ s) : Frame (f.plus ⟨[.vmp], []⟩) s₀ (s.setPipe v p) :=
  h.plus (State.setPipe_frame (.refl _ s) (.refl _))
theorem Frame.setPort {p x} (h : Frame f s₀ s) : Frame (f.plus ⟨[.twl], []⟩) s₀ (s.setPort p x) :=
  h.plus (State.setPort_frame (.refl _ s) (.refl _))
theorem Frame.setPortState {p st} (h : Frame f s₀ s) : Frame (f.plus ⟨[], [.NPT_PORT_STAT]⟩) s₀ (s.setPortState p st) :=
  h.plus (State.setPortState_frame (.refl _ s) (.refl _))
theorem Frame.setPtpPort {k p x} (h : Frame f s₀ s) : Frame (f.plus ⟨[.ntm], []⟩) s₀ (s.setPtpPort k p x) :=
  h.plus (State.setPtpPort_frame (.refl _ s) (.refl _))
theorem Frame.setQueue {p q a} (h : Frame f s₀ s) : Frame (f.plus ⟨[.twl], [.TWL_AQ_STAT]⟩) s₀ (s.setQueue p q a) :=
  h.plus (State.setQueue_frame (.refl _ s) (.refl _) (.refl _))
theorem Frame.setRoutes {rs} (h : Frame f s₀ s) : Frame (f.plus ⟨[.twl], []⟩) s₀ (s.setRoutes rs) :=
  h.plus (State.setRoutes_frame (.refl _ s) (.refl _))
theorem Frame.setRsl {x} (h : Frame f s₀ s) : Frame (f.plus ⟨[.rsl], []⟩) s₀ (s.setRsl x) :=
  h.plus (State.setRsl_frame (.refl _ s) (.refl _))
theorem Frame.setRxr {r x} (h : Frame f s₀ s) : Frame (f.plus ⟨[.net], []⟩) s₀ (s.setRxr r x) :=
  h.plus (State.setRxr_frame (.refl _ s) (.refl _))
theorem Frame.setSect {tx n x} (h : Frame f s₀ s) : Frame (f.plus ⟨[.asp], []⟩) s₀ (s.setSect tx n x) :=
  h.plus (State.setSect_frame (.refl _ s) (.refl _))
theorem Frame.setSender {k i x} (h : Frame f s₀ s) : Frame (f.plus ⟨[.egr], []⟩) s₀ (s.setSender k i x) :=
  h.plus (State.setSender_frame (.refl _ s) (.refl _))
theorem Frame.setServo {k x} (h : Frame f s₀ s) : Frame (f.plus ⟨[.ntm], []⟩) s₀ (s.setServo k x) :=
  h.plus (State.setServo_frame (.refl _ s) (.refl _))
theorem Frame.setSlot {i x} (h : Frame f s₀ s) : Frame (f.plus ⟨[.upd], []⟩) s₀ (s.setSlot i x) :=
  h.plus (State.setSlot_frame (.refl _ s) (.refl _))
theorem Frame.setStopped {req b} (h : Frame f s₀ s) : Frame (f.plus ⟨[.twl], []⟩) s₀ (s.setStopped req b) :=
  h.plus (State.setStopped_frame (.refl _ s) (.refl _))
theorem Frame.setSvc {n x} (h : Frame f s₀ s) : Frame (f.plus ⟨[.nim], []⟩) s₀ (s.setSvc n x) :=
  h.plus (State.setSvc_frame (.refl _ s) (.refl _))
theorem Frame.setTake {t'} (h : Frame f s₀ s) : Frame (f.plus ⟨[.tks], []⟩) s₀ (s.setTake t') :=
  h.plus (State.setTake_frame (.refl _ s) (.refl _))
theorem Frame.setTakes {l} (h : Frame f s₀ s) : Frame (f.plus ⟨[.tks], []⟩) s₀ (s.setTakes l) :=
  h.plus (State.setTakes_frame (.refl _ s) (.refl _))
theorem Frame.setTb {k t'} (h : Frame f s₀ s) : Frame (f.plus ⟨[.tb], []⟩) s₀ (s.setTb k t') :=
  h.plus (State.setTb_frame (.refl _ s) (.refl _))
theorem Frame.setTrg {t' x} (h : Frame f s₀ s) : Frame (f.plus ⟨[.ntm], []⟩) s₀ (s.setTrg t' x) :=
  h.plus (State.setTrg_frame (.refl _ s) (.refl _))
theorem Frame.setTwd {c x} (h : Frame f s₀ s) : Frame (f.plus ⟨[.twd], []⟩) s₀ (s.setTwd c x) :=
  h.plus (State.setTwd_frame (.refl _ s) (.refl _))
theorem Frame.setTxr {r x} (h : Frame f s₀ s) : Frame (f.plus ⟨[.net], []⟩) s₀ (s.setTxr r x) :=
  h.plus (State.setTxr_frame (.refl _ s) (.refl _))
theorem Frame.setUpd {x} (h : Frame f s₀ s) : Frame (f.plus ⟨[.upd], []⟩) s₀ (s.setUpd x) :=
  h.plus (State.setUpd_frame (.refl _ s) (.refl _))
theorem Frame.showAwl (h : Frame f s₀ s) : Frame (f.plus ⟨[], [.AWL_COUNT, .AWL_OLDEST]⟩) s₀ s.showAwl :=
  h.plus (State.showAwl_frame (.refl _ s) (.refl _))
theorem Frame.showCap {c} (h : Frame f s₀ s) : Frame (f.plus ⟨[], [.NTM_CAP_STAT]⟩) s₀ (s.showCap c) :=
  h.plus (State.showCap_frame (.refl _ s) (.refl _))
theorem Frame.showCharge {v} (h : Frame f s₀ s) : Frame (f.plus ⟨[], [.VMP_PIPE_READ]⟩) s₀ (s.showCharge v) :=
  h.plus (State.showCharge_frame (.refl _ s) (.refl _))
theorem Frame.showCore {core} (h : Frame f s₀ s) : Frame (f.plus ⟨[], [.NIM_CORE_STAT]⟩) s₀ (s.showCore core) :=
  h.plus (State.showCore_frame (.refl _ s) (.refl _))
theorem Frame.showCtx {p c} (h : Frame f s₀ s) : Frame (f.plus ⟨[], [.TWL_ST_CFG]⟩) s₀ (s.showCtx p c) :=
  h.plus (State.showCtx_frame (.refl _ s) (.refl _))
theorem Frame.showDeltas (h : Frame f s₀ s) :
    Frame (f.plus ⟨[.host, .sent, .keep, .awl, .freeCtr], [.SET_DELTA_USED, .GLB_INT_SUM, .SET_INT_STAT, .RSL_FLASH_WEAR,
    .RSL_STATUS, .AWL_MERGED, .AWL_STATUS, .INS_RET_STAT, .AWL_LOST, .AWL_INT_STAT, .RSL_INT_STAT, .SET_SECTORS, .SET_STATUS]⟩)
    s₀ s.showDeltas :=
  h.plus (State.showDeltas_frame (.refl _ s) (.refl _) (.refl _))
theorem Frame.showDir (h : Frame f s₀ s) : Frame (f.plus ⟨[], [.TWL_DIR_COUNT, .TWL_DIR_OWN, .TWL_DIR_OVF]⟩) s₀ s.showDir :=
  h.plus (State.showDir_frame (.refl _ s) (.refl _))
theorem Frame.showDisagree {o} (h : Frame f s₀ s) :
    Frame (f.plus ⟨[.host, .sent, .awl], [.LST_REF_STAT, .AWL_MERGED, .AWL_STATUS, .INS_RET_STAT, .AWL_LOST, .GLB_INT_SUM,
    .AWL_INT_STAT, .LST_INT_STAT]⟩) s₀ (s.showDisagree o) :=
  h.plus (State.showDisagree_frame (.refl _ s) (.refl _) (.refl _))
theorem Frame.showEligible {p} (h : Frame f s₀ s) : Frame (f.plus ⟨[.twl], [.TWL_SP_AQ_ACTIVE]⟩) s₀ (s.showEligible p) :=
  h.plus (State.showEligible_frame (.refl _ s) (.refl _) (.refl _))
theorem Frame.showHold (h : Frame f s₀ s) : Frame (f.plus ⟨[], [.LST_HOLD_STAT]⟩) s₀ s.showHold :=
  h.plus (State.showHold_frame (.refl _ s) (.refl _))
theorem Frame.showJournal (h : Frame f s₀ s) :
    Frame (f.plus ⟨[.host, .sent], [.NIM_JRN_FREE, .NIM_JRN_OPEN, .GLB_INT_SUM, .NIM_INT_STAT]⟩) s₀ s.showJournal :=
  h.plus (State.showJournal_frame (.refl _ s) (.refl _) (.refl _))
theorem Frame.showLag (h : Frame f s₀ s) : Frame (f.plus ⟨[], [.TWL_DIR_LAG]⟩) s₀ s.showLag :=
  h.plus (State.showLag_frame (.refl _ s) (.refl _))
theorem Frame.showLast {n} (h : Frame f s₀ s) : Frame (f.plus ⟨[.ing], []⟩) s₀ (s.showLast n) :=
  h.plus (State.showLast_frame (.refl _ s) (.refl _))
theorem Frame.showLayer {v l shown cause run} (h : Frame f s₀ s) :
    Frame (f.plus ⟨[], [.VMP_LAYER_STAT]⟩) s₀ (s.showLayer v l shown cause run) :=
  h.plus (State.showLayer_frame (.refl _ s) (.refl _))
theorem Frame.showMismatch {d} (h : Frame f s₀ s) : Frame (f.plus ⟨[], [.EGR_OUT_STAT]⟩) s₀ (s.showMismatch d) :=
  h.plus (State.showMismatch_frame (.refl _ s) (.refl _))
theorem Frame.showNpt (h : Frame f s₀ s) : Frame (f.plus ⟨[], [.NPT_STATUS]⟩) s₀ s.showNpt :=
  h.plus (State.showNpt_frame (.refl _ s) (.refl _))
theorem Frame.showPending {n} (h : Frame f s₀ s) : Frame (f.plus ⟨[], [.EGR_OUT_TAKE]⟩) s₀ (s.showPending n) :=
  h.plus (State.showPending_frame (.refl _ s) (.refl _))
theorem Frame.showQueue {q} (h : Frame f s₀ s) : Frame (f.plus ⟨[], [.NIM_Q_STAT]⟩) s₀ (s.showQueue q) :=
  h.plus (State.showQueue_frame (.refl _ s) (.refl _))
theorem Frame.showSel {r} (h : Frame f s₀ s) :
    Frame (f.plus ⟨[.host, .sent], [.LST_REF_STAT, .NTM_SRV_STAT, .LST_STATUS, .LST_SWITCHES, .GLB_INT_SUM, .LST_INT_STAT]⟩) s₀
    (s.showSel r) :=
  h.plus (State.showSel_frame (.refl _ s) (.refl _) (.refl _))
theorem Frame.showTag (h : Frame f s₀ s) : Frame (f.plus ⟨[], [.LST_TAG]⟩) s₀ s.showTag :=
  h.plus (State.showTag_frame (.refl _ s) (.refl _))
theorem Frame.slip {n} (h : Frame f s₀ s) : Frame (f.plus ⟨[.ing], [.ING_IN_SLIP]⟩) s₀ (s.slip n) :=
  h.plus (State.slip_frame (.refl _ s) (.refl _) (.refl _))
theorem Frame.snapResult {st} (h : Frame f s₀ s) : Frame (f.plus ⟨[], [.SET_SNAP_RESULT]⟩) s₀ (s.snapResult st) :=
  h.plus (State.snapResult_frame (.refl _ s) (.refl _))
theorem Frame.spareLow (h : Frame f s₀ s) :
    Frame (f.plus ⟨[.host, .sent], [.RSL_STATUS, .GLB_INT_SUM, .RSL_INT_STAT]⟩) s₀ s.spareLow :=
  h.plus (State.spareLow_frame (.refl _ s) (.refl _) (.refl _))
theorem Frame.startRetest {u} (h : Frame f s₀ s) : Frame (f.plus ⟨[], [.RSL_UNIT_STAT, .RSL_PHYS_STAT]⟩) s₀ (s.startRetest u) :=
  h.plus (State.startRetest_frame (.refl _ s) (.refl _))
theorem Frame.startSnap (h : Frame f s₀ s) :
    Frame (f.plus ⟨[.keep, .host, .sent, .awl, .freeCtr], [.RSL_FLASH_WEAR, .RSL_STATUS, .AWL_MERGED, .AWL_STATUS, .INS_RET_STAT,
    .AWL_LOST, .GLB_INT_SUM, .AWL_INT_STAT, .RSL_INT_STAT, .SET_SECTORS, .SET_INT_STAT, .SET_STATUS]⟩) s₀ s.startSnap :=
  h.plus (State.startSnap_frame (.refl _ s) (.refl _) (.refl _))
theorem Frame.startSvc {n off} (h : Frame f s₀ s) :
    Frame (f.plus ⟨[.tks, .twl, .nim], [.NIM_CORE_STAT, .NIM_SVC_STAT]⟩) s₀ (s.startSvc n off) :=
  h.plus (State.startSvc_frame (.refl _ s) (.refl _) (.refl _))
theorem Frame.startTb {k t'} (h : Frame f s₀ s) : Frame (f.plus ⟨[.tb], [.NTM_TB_STAT]⟩) s₀ (s.startTb k t') :=
  h.plus (State.startTb_frame (.refl _ s) (.refl _) (.refl _))
theorem Frame.startTest {u} (h : Frame f s₀ s) : Frame (f.plus ⟨[], [.RSL_UNIT_STAT]⟩) s₀ (s.startTest u) :=
  h.plus (State.startTest_frame (.refl _ s) (.refl _))
theorem Frame.steerDrop (h : Frame f s₀ s) :
    Frame (f.plus ⟨[.host, .sent], [.NPT_STEER_DROP, .GLB_INT_SUM, .NPT_INT_STAT]⟩) s₀ s.steerDrop :=
  h.plus (State.steerDrop_frame (.refl _ s) (.refl _) (.refl _))
theorem Frame.stopSender {k i} (h : Frame f s₀ s) : Frame (f.plus ⟨[.egr], []⟩) s₀ (s.stopSender k i) :=
  h.plus (State.stopSender_frame (.refl _ s) (.refl _))
theorem Frame.stopWork (h : Frame f s₀ s) : Frame (f.plus ⟨[.tks, .twl, .nim], [.NIM_CORE_STAT]⟩) s₀ s.stopWork :=
  h.plus (State.stopWork_frame (.refl _ s) (.refl _) (.refl _))
theorem Frame.storeTrain {k id} (h : Frame f s₀ s) : Frame (f.plus ⟨[.net], []⟩) s₀ (s.storeTrain k id) :=
  h.plus (State.storeTrain_frame (.refl _ s) (.refl _))
theorem Frame.tellPartner {t' st} (h : Frame f s₀ s) : Frame (f.plus ⟨[.sent], []⟩) s₀ (s.tellPartner t' st) :=
  h.plus (State.tellPartner_frame (.refl _ s) (.refl _))
theorem Frame.toLost (h : Frame f s₀ s) :
    Frame (f.plus ⟨[.host, .sent, .awl, .lst], [.GLB_INT_SUM, .LST_INT_STAT, .LST_TAG, .LST_STATUS, .AWL_MERGED, .AWL_STATUS,
    .INS_RET_STAT, .AWL_LOST, .AWL_INT_STAT]⟩) s₀ s.toLost :=
  h.plus (State.toLost_frame (.refl _ s) (.refl _) (.refl _))
theorem Frame.trgKill {t'} (h : Frame f s₀ s) :
    Frame (f.plus ⟨[.ntm], [.NTM_TRG_CFG, .NTM_TRG_STAT, .NTM_STATUS]⟩) s₀ (s.trgKill t') :=
  h.plus (State.trgKill_frame (.refl _ s) (.refl _) (.refl _))
theorem Frame.trgPass {t' n} (h : Frame f s₀ s) :
    Frame (f.plus ⟨[.ntm], [.NTM_TRG_CFG, .NTM_TRG_STAT, .NTM_STATUS]⟩) s₀ (s.trgPass t' n) :=
  h.plus (State.trgPass_frame (.refl _ s) (.refl _) (.refl _))
theorem Frame.trgShift {t' now missed} (h : Frame f s₀ s) : Frame (f.plus ⟨[.ntm], [.NTM_TRG_T]⟩) s₀ (s.trgShift t' now missed) :=
  h.plus (State.trgShift_frame (.refl _ s) (.refl _) (.refl _))
theorem Frame.twdIdle (h : Frame f s₀ s) : Frame (f.plus ⟨[], [.TWD_STATUS]⟩) s₀ s.twdIdle :=
  h.plus (State.twdIdle_frame (.refl _ s) (.refl _))
theorem Frame.twillStop (h : Frame f s₀ s) : Frame (f.plus ⟨[.twl], [.TWL_STATUS]⟩) s₀ s.twillStop :=
  h.plus (State.twillStop_frame (.refl _ s) (.refl _) (.refl _))
theorem Frame.txAbort {p} (h : Frame f s₀ s) :
    Frame (f.plus ⟨[.host, .sent], [.NTM_PHY_TXABORT, .GLB_INT_SUM, .NTM_INT_STAT]⟩) s₀ (s.txAbort p) :=
  h.plus (State.txAbort_frame (.refl _ s) (.refl _) (.refl _))
theorem Frame.unitStatus {u st} (h : Frame f s₀ s) : Frame (f.plus ⟨[], [.RSL_UNIT_STAT]⟩) s₀ (s.unitStatus u st) :=
  h.plus (State.unitStatus_frame (.refl _ s) (.refl _))
theorem Frame.updAnswer {op session st} (h : Frame f s₀ s) : Frame (f.plus ⟨[.resp, .sent], []⟩) s₀ (s.updAnswer op session st) :=
  h.plus (State.updAnswer_frame (.refl _ s) (.refl _))
theorem Frame.vmpIdle (h : Frame f s₀ s) : Frame (f.plus ⟨[], [.VMP_STATUS]⟩) s₀ s.vmpIdle :=
  h.plus (State.vmpIdle_frame (.refl _ s) (.refl _))
theorem Frame.wake {src} (h : Frame f s₀ s) :
    Frame (f.plus ⟨[.host, .sent], [.INS_WAKE_SRC, .INS_STATE, .GLB_INT_SUM, .INS_INT_STAT]⟩) s₀ (s.wake src) :=
  h.plus (State.wake_frame (.refl _ s) (.refl _) (.refl _))
theorem Frame.wakeSvc {n} (h : Frame f s₀ s) : Frame (f.plus ⟨[.nim], [.NIM_SVC_STAT]⟩) s₀ (s.wakeSvc n) :=
  h.plus (State.wakeSvc_frame (.refl _ s) (.refl _) (.refl _))
theorem Frame.writeAflOff {src a v} (h : Frame f s₀ s) :
    Frame (f.plus ⟨[.host, .sent, .resp], [.GLB_INT_SUM, .GLB_INT_STAT, .GLB_PCIE_ERR, .ING_INT_STAT, .ING_AFL_OFF]⟩) s₀
    (s.writeAflOff src a v) :=
  h.plus (State.writeAflOff_frame (.refl _ s) (.refl _) (.refl _))
theorem Frame.writeAnf {src a v} (h : Frame f s₀ s) :
    Frame (f.plus ⟨[.host, .sent, .resp], [.GLB_INT_SUM, .GLB_INT_STAT, .GLB_PCIE_ERR, .ING_INT_STAT, .ING_ANF_CFG]⟩) s₀
    (s.writeAnf src a v) :=
  h.plus (State.writeAnf_frame (.refl _ s) (.refl _) (.refl _))
theorem Frame.writeAwlCtrl {src v} (h : Frame f s₀ s) :
    Frame (f.plus ⟨[.host, .sent, .resp, .awl], [.GLB_INT_SUM, .GLB_INT_STAT, .GLB_PCIE_ERR, .AWL_INT_STAT, .AWL_CTRL,
    .AWL_STATUS]⟩) s₀ (s.writeAwlCtrl src v) :=
  h.plus (State.writeAwlCtrl_frame (.refl _ s) (.refl _) (.refl _))
theorem Frame.writeBack {r idx time st} (h : Frame f s₀ s) : Frame (f.plus ⟨[.sent, .host], []⟩) s₀ (s.writeBack r idx time st) :=
  h.plus (State.writeBack_frame (.refl _ s) (.refl _))
theorem Frame.writeCounters (h : Frame f s₀ s) : Frame (f.plus ⟨[.keep], []⟩) s₀ s.writeCounters :=
  h.plus (State.writeCounters_frame (.refl _ s) (.refl _))
theorem Frame.writeCq {q r} (h : Frame f s₀ s) : Frame (f.plus ⟨[.sent, .nim, .host], [.NIM_CQ_TAIL]⟩) s₀ (s.writeCq q r) :=
  h.plus (State.writeCq_frame (.refl _ s) (.refl _) (.refl _))
theorem Frame.writeGrpCfg {src g v} (h : Frame f s₀ s) :
    Frame (f.plus ⟨[.host, .sent, .resp, .net, .awl], [.GLB_INT_SUM, .GLB_INT_STAT, .GLB_PCIE_ERR, .NPT_INT_STAT,
    .NPT_TX_DISCARD, .NPT_LINK, .NPT_LINK_DOWNS, .AWL_MERGED, .AWL_STATUS, .INS_RET_STAT, .AWL_LOST, .AWL_INT_STAT,
    .NPT_PORT_STAT, .NTM_PHY_TXABORT, .NTM_INT_STAT, .NPT_GRP_CFG]⟩) s₀ (s.writeGrpCfg src g v) :=
  h.plus (State.writeGrpCfg_frame (.refl _ s) (.refl _) (.refl _))
theorem Frame.writeJoin {src j v} (h : Frame f s₀ s) :
    Frame (f.plus ⟨[.host, .sent, .egr, .resp], [.GLB_INT_SUM, .GLB_INT_STAT, .GLB_PCIE_ERR, .EGR_INT_STAT, .EGR_JOIN_STAT,
    .EGR_JOIN_REP, .EGR_JOIN_ENT]⟩) s₀ (s.writeJoin src j v) :=
  h.plus (State.writeJoin_frame (.refl _ s) (.refl _) (.refl _))
theorem Frame.writeNptCtrl {src v} (h : Frame f s₀ s) :
    Frame (f.plus ⟨[.host, .sent, .net, .awl, .resp], [.GLB_INT_SUM, .GLB_INT_STAT, .GLB_PCIE_ERR, .NPT_INT_STAT, .NPT_PORT_STAT,
    .NPT_TX_DISCARD, .NPT_LINK, .NPT_LINK_DOWNS, .AWL_MERGED, .AWL_STATUS, .INS_RET_STAT, .AWL_LOST, .AWL_INT_STAT,
    .NTM_PHY_TXABORT, .NTM_INT_STAT, .NPT_CTRL, .NPT_STATUS]⟩) s₀ (s.writeNptCtrl src v) :=
  h.plus (State.writeNptCtrl_frame (.refl _ s) (.refl _) (.refl _))
theorem Frame.writePat {src p v} (h : Frame f s₀ s) :
    Frame (f.plus ⟨[.host, .sent, .resp], [.GLB_INT_SUM, .GLB_INT_STAT, .GLB_PCIE_ERR, .EGR_INT_STAT, .EGR_PAT_CFG]⟩) s₀
    (s.writePat src p v) :=
  h.plus (State.writePat_frame (.refl _ s) (.refl _) (.refl _))
theorem Frame.writePktVid {src m v} (h : Frame f s₀ s) :
    Frame (f.plus ⟨[.host, .sent, .resp, .ing], [.GLB_INT_SUM, .GLB_INT_STAT, .GLB_PCIE_ERR, .ING_INT_STAT, .ING_PKT_VID]⟩) s₀
    (s.writePktVid src m v) :=
  h.plus (State.writePktVid_frame (.refl _ s) (.refl _) (.refl _))
theorem Frame.writePool {src v} (h : Frame f s₀ s) :
    Frame (f.plus ⟨[.host, .sent, .resp], [.GLB_INT_SUM, .GLB_INT_STAT, .GLB_PCIE_ERR, .ING_INT_STAT, .ING_POOL_PAGES]⟩) s₀
    (s.writePool src v) :=
  h.plus (State.writePool_frame (.refl _ s) (.refl _) (.refl _))
theorem Frame.writePrbs {src i v} (h : Frame f s₀ s) :
    Frame (f.plus ⟨[.host, .sent, .resp], [.GLB_INT_SUM, .GLB_INT_STAT, .GLB_PCIE_ERR, .WLT_INT_STAT, .WLT_LANE_PRBS]⟩) s₀
    (s.writePrbs src i v) :=
  h.plus (State.writePrbs_frame (.refl _ s) (.refl _) (.refl _))
theorem Frame.writeRdIdx {src v} (h : Frame f s₀ s) :
    Frame (f.plus ⟨[.host, .sent, .resp, .awl], [.GLB_INT_SUM, .GLB_INT_STAT, .GLB_PCIE_ERR, .AWL_INT_STAT, .AWL_RD_STAT,
    .AWL_RD_IDX]⟩) s₀ (s.writeRdIdx src v) :=
  h.plus (State.writeRdIdx_frame (.refl _ s) (.refl _) (.refl _))
theorem Frame.writeRxrTail {src r v} (h : Frame f s₀ s) :
    Frame (f.plus ⟨[.host, .sent, .resp], [.GLB_INT_SUM, .GLB_INT_STAT, .GLB_PCIE_ERR, .NPT_INT_STAT, .NPT_RXR_TAIL]⟩) s₀
    (s.writeRxrTail src r v) :=
  h.plus (State.writeRxrTail_frame (.refl _ s) (.refl _) (.refl _))
theorem Frame.writeSetCtrl {src v} (h : Frame f s₀ s) :
    Frame (f.plus ⟨[.host, .sent, .resp, .keep, .awl, .freeCtr], [.GLB_INT_SUM, .GLB_INT_STAT, .GLB_PCIE_ERR, .SET_INT_STAT,
    .SET_SNAP_RESULT, .SET_DEMAND_LEFT, .RSL_FLASH_WEAR, .RSL_STATUS, .AWL_MERGED, .AWL_STATUS, .INS_RET_STAT, .AWL_LOST,
    .AWL_INT_STAT, .RSL_INT_STAT, .SET_SECTORS, .SET_STATUS]⟩) s₀ (s.writeSetCtrl src v) :=
  h.plus (State.writeSetCtrl_frame (.refl _ s) (.refl _) (.refl _))
theorem Frame.writeSqTail {src q v} (h : Frame f s₀ s) :
    Frame (f.plus ⟨[.host, .sent, .resp], [.GLB_INT_SUM, .GLB_INT_STAT, .GLB_PCIE_ERR, .NIM_INT_STAT, .NIM_SQ_TAIL,
    .NIM_Q_STAT]⟩) s₀ (s.writeSqTail src q v) :=
  h.plus (State.writeSqTail_frame (.refl _ s) (.refl _) (.refl _))
theorem Frame.writeSteer {src v} (h : Frame f s₀ s) :
    Frame (f.plus ⟨[.host, .sent, .resp, .lst], [.GLB_INT_SUM, .GLB_INT_STAT, .GLB_PCIE_ERR, .LST_INT_STAT, .LST_STEER]⟩) s₀
    (s.writeSteer src v) :=
  h.plus (State.writeSteer_frame (.refl _ s) (.refl _) (.refl _))
theorem Frame.writeSurfCfg {src m w} (h : Frame f s₀ s) :
    Frame (f.plus ⟨[.host, .sent, .resp], [.GLB_INT_SUM, .GLB_INT_STAT, .GLB_PCIE_ERR, .VMP_INT_STAT, .VMP_SURF_CFG]⟩) s₀
    (s.writeSurfCfg src m w) :=
  h.plus (State.writeSurfCfg_frame (.refl _ s) (.refl _) (.refl _))
theorem Frame.writeTwlCtrl {src v inFlight} (h : Frame f s₀ s) :
    Frame (f.plus ⟨[.host, .sent, .resp, .twl], [.GLB_INT_SUM, .GLB_INT_STAT, .GLB_PCIE_ERR, .TWL_INT_STAT, .TWL_CTRL,
    .TWL_STATUS, .TWL_KILLED]⟩) s₀ (s.writeTwlCtrl src v inFlight) :=
  h.plus (State.writeTwlCtrl_frame (.refl _ s) (.refl _) (.refl _))
theorem Frame.writeTxeq {src i v} (h : Frame f s₀ s) :
    Frame (f.plus ⟨[.resp, .host, .sent], [.GLB_INT_SUM, .GLB_INT_STAT, .GLB_PCIE_ERR, .WLT_INT_STAT, .WLT_LANE_TXEQ]⟩) s₀
    (s.writeTxeq src i v) :=
  h.plus (State.writeTxeq_frame (.refl _ s) (.refl _) (.refl _))
theorem Frame.writeTxrCfg {src r v} (h : Frame f s₀ s) :
    Frame (f.plus ⟨[.host, .sent, .resp], [.GLB_INT_SUM, .GLB_INT_STAT, .GLB_PCIE_ERR, .NPT_INT_STAT, .NPT_TXR_CFG]⟩) s₀
    (s.writeTxrCfg src r v) :=
  h.plus (State.writeTxrCfg_frame (.refl _ s) (.refl _) (.refl _))
theorem Frame.writeXsndCfg {src i w} (h : Frame f s₀ s) :
    Frame (f.plus ⟨[.host, .sent, .resp, .egr], [.GLB_INT_SUM, .GLB_INT_STAT, .GLB_PCIE_ERR, .EGR_INT_STAT, .EGR_XSND_CFG,
    .EGR_VSND_STAT]⟩) s₀ (s.writeXsndCfg src i w) :=
  h.plus (State.writeXsndCfg_frame (.refl _ s) (.refl _) (.refl _))

theorem Frame.showCores (h : Frame f s₀ s) : Frame (f.plus ⟨[], [.NIM_CORE_STAT]⟩) s₀ s.showCores :=
  h.op (by decide) fun h => .fold h fun _ _ h1 => h1.setFld

def journalEntryFoot : Foot :=
  ⟨[.sent, .host, .nim], [.GLB_INT_SUM, .NIM_INT_STAT, .NIM_JRN_FREE, .NIM_JRN_OPEN, .NIM_CORE_STAT]⟩

theorem Frame.journalEntry {e'} (h : Frame f s₀ s) : Frame (f.plus journalEntryFoot) s₀ (s.journalEntry e') := by
  refine h.op (.refl _) fun h => ?_
  unfold State.journalEntry
  exact .le (by decide) h.updNim.showJournal.showCores

def acceptOrderFoot : Foot :=
  ⟨[.sent, .host, .nim], [.GLB_INT_SUM, .NIM_INT_STAT, .NIM_JRN_FREE, .NIM_JRN_OPEN, .NIM_ACCEPTED, .NIM_CORE_STAT, .NIM_CQ_TAIL,
      .NIM_Q_STAT, .NIM_Q_HWM, .RSL_PAIR_STAT]⟩

theorem Frame.acceptOrder {e} (h : Frame f s₀ s) : OkFrame (f.plus acceptOrderFoot) s₀ (s.acceptOrder e) := by
  refine h.opOk (.refl _) fun h => ?_
  obtain ⟨F, hF⟩ : ∃ F, F = State.acceptOrder := ⟨_, rfl⟩
  rw [← hF]
  delta State.acceptOrder at hF
  subst hF
  beta_reduce
  generalize programCheck e.affinity e.body = st
  split
  · refine .le (by decide) (.branch .error (.ok (f := acceptOrderFoot) ?_))
    have h1 : Frame acceptOrderFoot s (s.journalEntry e) := .le (by decide) h.journalEntry
    split
    · split
      · exact .le (by decide) h1.emit
      · exact h1
    · exact .le (by decide) h1.ackEntry
  · exact .le (by decide) .error

/-- What a warm reset changes. -/
def warmResetFoot : Foot :=
  ⟨[.sent, .host, .twl, .nim, .tks, .net, .boot], .GLB_INT_SUM :: .BOOT_PROT :: .BOOT_STAGE :: .BOOT_CAUSE :: .BOOT_WARMS ::
    .NIM_CORE_STAT :: warmCleared⟩

theorem Frame.warmReset {cause} (h : Frame f s₀ s) : Frame (f.plus warmResetFoot) s₀ (s.warmReset cause) := by
  refine h.op (.refl _) fun h => ?_
  unfold State.warmReset
  extract_lets s1 s2 s3 s4
  have h3 : Frame warmResetFoot s s3 := .le (by decide) (.fold_mem (g := ⟨[], warmCleared⟩) (.resetCores (.branch h.emit h))
    fun u r hr hu => hu.clear.le ⟨List.nil_subset _, List.cons_subset.mpr ⟨hr, List.nil_subset _⟩⟩)
  have h4 : Frame warmResetFoot s s4 := .absorb (by decide) (h3.fold fun _ _ h => h.setFld)
  clear_value s4
  have h5 : Frame warmResetFoot s { s4 with
      nim := { s4.nim with warm := true, phase := [] }
      net := { s4.net with rxr := [], txr := [] } } :=
    h4.of_parts (by rintro ⟨⟩ n <;> first | exact absurd (by decide) n | exact rfl) rfl
  exact .le (by decide) h5.setBoot.setFlag.setFld.setFld.count.refreshSum

theorem Frame.showSlot {i} (h : Frame f s₀ s) :
    Frame (f.plus ⟨[], [.UPD_SLOT_STAT, .UPD_SLOT_VER, .UPD_SLOT_FLOOR, .UPD_SLOT_SEQ]⟩) s₀ (s.showSlot i) :=
  h.op (by decide) fun h => h.setFld.setFld.setFlag.setFld.set.set.set

theorem Frame.showUpd (h : Frame f s₀ s) :
    Frame (f.plus ⟨[], [.UPD_STATUS, .UPD_CONFIRM_LEFT, .UPD_SLOT_STAT, .UPD_SLOT_VER, .UPD_SLOT_FLOOR, .UPD_SLOT_SEQ]⟩) s₀
    s.showUpd :=
  h.op (by decide) fun h => .setFld (.branch h.showSlot.showSlot h.showSlot.showSlot.set)

theorem Frame.startSlot {i} (h : Frame f s₀ s) :
    Frame (f.plus ⟨[], [.BOOT_CAUSE, .BOOT_IMG_VER, .SET_STATUS, .UPD_STATUS, .UPD_RUN_VER, .UPD_CONFIRM_LEFT, .UPD_SLOT_STAT,
    .UPD_SLOT_VER, .UPD_SLOT_FLOOR, .UPD_SLOT_SEQ]⟩) s₀ (s.startSlot i) :=
  h.op (by decide) fun h => h.setFld.setFld.set.set.setFlag.setFld.showUpd

def startConfirmedFoot : Foot :=
  ⟨[.sent, .host], [.GLB_INT_SUM, .GLB_INT_STAT, .GLB_ALERT_STAT, .BOOT_STAGE, .BOOT_CAUSE, .BOOT_FAIL, .BOOT_IMG_VER,
      .SET_STATUS, .SET_FLOOR, .UPD_STATUS, .UPD_RUN_VER, .UPD_CONFIRM_LEFT, .UPD_SLOT_STAT, .UPD_SLOT_VER, .UPD_SLOT_FLOOR,
      .UPD_SLOT_SEQ]⟩

theorem Frame.startConfirmed (h : Frame f s₀ s) : Frame (f.plus startConfirmedFoot) s₀ s.startConfirmed := by
  refine h.op (.refl _) fun h => ?_
  unfold State.startConfirmed
  extract_lets
  split
  · exact .le (by decide) (.branch h.raiseFloor.startSlot h.raiseFloor.startSlot)
  · exact .le (by decide) h.raiseFloor.startSlot
  · exact .le (by decide) h.raiseFloor.startSlot
  · exact .le (by decide) h.recovery

theorem Frame.rejectSlot {i} (h : Frame f s₀ s) :
    Frame (f.plus ⟨[.upd], [.UPD_STATUS, .UPD_CONFIRM_LEFT, .UPD_SLOT_STAT, .UPD_SLOT_VER, .UPD_SLOT_FLOOR, .UPD_SLOT_SEQ]⟩) s₀
    (s.rejectSlot i) :=
  h.op (by decide) fun h => h.setSlot.showUpd

theorem Frame.rejectSpent {i} (h : Frame f s₀ s) :
    Frame (f.plus ⟨[.freeCtr, .sent, .host, .awl, .upd], .GLB_INT_SUM :: .UPD_STATUS :: .UPD_CONFIRM_LEFT :: .UPD_SLOT_STAT ::
    .UPD_SLOT_VER :: .UPD_SLOT_FLOOR :: .UPD_SLOT_SEQ :: awlFoot⟩) s₀ (s.rejectSpent i) :=
  h.op (by decide) fun h => .branch h.rejectSlot.awlUnstated h

theorem Frame.selectSlot (h : Frame f s₀ s) :
    Frame (f.plus ⟨[.freeCtr, .sent, .host, .awl, .upd], .GLB_INT_SUM :: .GLB_INT_STAT :: .GLB_ALERT_STAT :: .BOOT_STAGE ::
    .BOOT_CAUSE :: .BOOT_FAIL :: .BOOT_IMG_VER :: .SET_STATUS :: .SET_FLOOR :: .UPD_STATUS :: .UPD_RUN_VER :: .UPD_CONFIRM_LEFT
    :: .UPD_SLOT_STAT :: .UPD_SLOT_VER :: .UPD_SLOT_FLOOR :: .UPD_SLOT_SEQ :: awlFoot⟩) s₀ s.selectSlot :=
  h.op (by decide) fun h => .branch h.setSlot.startSlot (.branch h.setSlot.startSlot h.rejectSpent.rejectSpent.startConfirmed)

theorem Frame.activate {level} (h : Frame f s₀ s) :
    Frame (f.plus ⟨[.resp, .freeCtr, .sent, .host, .awl, .twl, .nim, .tks, .net, .upd, .boot], .GLB_INT_SUM :: .GLB_INT_STAT ::
    .GLB_ALERT_STAT :: .BOOT_PROT :: .BOOT_STAGE :: .BOOT_CAUSE :: .BOOT_FAIL :: .BOOT_WARMS :: .BOOT_IMG_VER :: .NIM_CORE_STAT
    :: .SET_STATUS :: .SET_FLOOR :: .UPD_STATUS :: .UPD_INT_STAT :: .UPD_LAST_STATUS :: .UPD_RUN_VER :: .UPD_CONFIRM_LEFT ::
    .UPD_SLOT_STAT :: .UPD_SLOT_VER :: .UPD_SLOT_FLOOR :: .UPD_SLOT_SEQ :: (warmCleared ++ awlFoot)⟩) s₀ (s.activate level) :=
  h.op (by decide) fun h => .branch h.ctrlRefused (.branch h.ctrlRefused (.branch h.ctrlRefused
    h.setSlot.setUpd.lastStatus.answer.warmReset.selectSlot.set.irq.showUpd))

theorem Frame.alignTo {r phase} (h : Frame f s₀ s) :
    Frame (f.plus ⟨[.sent, .host], [.GLB_INT_SUM, .LST_STATUS, .LST_INT_STAT, .LST_PHASE_ERR, .LST_SLEW_LEFT, .LST_REF_STAT]⟩) s₀
    (s.alignTo r phase) :=
  h.op (by decide) fun h => .branch h.setFlag.set.setFlag.set (.branch h.setFlag.set.setFlag.setFlag.irq.set (.branch
    h.setFlag.set.setFlag.set h.setFlag.set.setFlag.setFlag.set.set))

theorem Frame.dropCommit {v} (h : Frame f s₀ s) : Frame (f.plus ⟨[.vmp], [.VMP_PIPE_STAT, .VMP_PIPE_PEND]⟩) s₀ (s.dropCommit v) :=
  h.op (by decide) fun h => h.setPipe.set.setFlag.setFlag

def applyCommitFoot : Foot :=
  ⟨[.sent, .host, .vmp], [.GLB_INT_SUM, .VMP_INT_STAT, .VMP_PIPE_STAT, .VMP_PIPE_APPLIED, .VMP_PIPE_PEND, .VMP_PIPE_HELD]⟩

theorem Frame.applyCommit {v k} (h : Frame f s₀ s) : Frame (f.plus applyCommitFoot) s₀ (s.applyCommit v k).1 := by
  refine h.op (.refl _) fun h => ?_
  unfold State.applyCommit
  split
  · exact .le (by decide) h
  · split
    · exact .le (by decide) h
    · split
      · dsimp only
        exact .le (by decide) h.count.irq.setFlag
      · dsimp only
        exact .le (by decide) h.setPipe.dropCommit.set.irq

theorem Frame.putDir {flow entry ovf} (h : Frame f s₀ s) :
    Frame (f.plus ⟨[.twl, .dir], [.TWL_DIR_COUNT, .TWL_DIR_OWN, .TWL_DIR_OVF]⟩) s₀ (s.putDir flow entry ovf) :=
  h.op (by decide) fun h => h.setDirs.setDir.showDir

def deliverFoot : Foot :=
  ⟨[.twl], [.TWL_RSET_USED]⟩

theorem Frame.deliver {flow} (h : Frame f s₀ s) : Frame (f.plus deliverFoot) s₀ (s.deliver flow) := by
  refine h.op (.refl _) fun h => ?_
  unfold State.deliver
  extract_lets
  split
  · exact .le (by decide) h.updTwl
  · split
    · exact .le (by decide) h.updTwl
    · split
      · exact .le (by decide) h
      · exact .le (by decide) h.updTwl.set

def showPortFoot : Foot :=
  ⟨[], [.TWL_SP_STAT, .TWL_SP_RES, .TWL_SP_EGR_RES, .TWL_LK_RES]⟩

theorem Frame.showPort {p} (h : Frame f s₀ s) : Frame (f.plus showPortFoot) s₀ (s.showPort p) := by
  refine h.op (.refl _) fun h => ?_
  unfold State.showPort
  extract_lets _ _ _ _ s1 s2 s3
  have h1 : Frame showPortFoot s s1 := .le (by decide) h.set
  have h2 : Frame showPortFoot s s2 := .le (by decide) h1.set
  have h3 : Frame showPortFoot s s3 := .le (by decide) h2.setFld
  split
  · exact .le (by decide) h3
  · exact .le (by decide) h3.set

theorem Frame.showRoute {r} (h : Frame f s₀ s) :
    Frame (f.plus ⟨[], [.TWL_SP_STAT, .TWL_SP_RES, .TWL_SP_EGR_RES, .TWL_LK_RES, .TWL_ST_CFG]⟩) s₀ (s.showRoute r) :=
  h.op (by decide) fun h => .fold (.fold h fun _ _ h1 => h1.showCtx.showPort) fun _ _ h1 => h1.showPort

def releaseFoot : Foot :=
  ⟨[.twl], routeFoot⟩

theorem Frame.release {req} (h : Frame f s₀ s) : Frame (f.plus releaseFoot) s₀ (s.release req) := by
  refine h.op (.refl _) fun h => ?_
  unfold State.release
  split
  · exact .le (by decide) h
  · exact .le (by decide) (.branch h.setRoutes (.deliver (.showRoute (.fold h.setRoutes fun _ _ h1 => .branch h1.setPort
      h1.setPort))))

theorem Frame.tearDown {req} (h : Frame f s₀ s) :
    Frame (f.plus ⟨[.twl, .tks, .egr], .EGR_OUT_TAKE :: routeFoot⟩) s₀ (s.tearDown req) :=
  h.op (by decide) fun h => .fold (.fold h.release fun _ _ h1 => .branch h1.setTake h1) fun _ _ h1 => .branch h1.loseOutRoute h1

theorem Frame.dirLose {flow loser} (h : Frame f s₀ s) :
    Frame (f.plus ⟨[.sent, .host, .awl, .twl, .tks, .egr], .GLB_INT_SUM :: .TWL_INT_STAT :: .TWL_DIR_CONFLICT :: .EGR_OUT_TAKE ::
    (awlFoot ++ routeFoot)⟩) s₀ (s.dirLose flow loser) :=
  h.op (by decide) fun h => .fold h.count.irq.awlCause fun _ _ h1 => h1.tearDown

def applyDirFoot : Foot :=
  ⟨[.sent, .host, .awl, .twl, .tks, .egr, .dir], .GLB_INT_SUM :: .TWL_INT_STAT :: .TWL_DIR_COUNT :: .TWL_DIR_OWN :: .TWL_DIR_OVF
      :: .TWL_DIR_CONFLICT :: .EGR_OUT_TAKE :: (awlFoot ++ routeFoot)⟩

theorem Frame.applyDir {u ovf} (h : Frame f s₀ s) : Frame (f.plus applyDirFoot) s₀ (s.applyDir u ovf).1 := by
  refine h.op (.refl _) fun h => ?_
  unfold State.applyDir
  cases u.entry with
  | none => exact .le (by decide) (.branch h.putDir h)
  | some e =>
    dsimp only
    split
    · split
      · exact .le (by decide) h
      · dsimp only
        exact .le (by decide) h.dirLose.putDir
    · dsimp only
      exact .le (by decide) h.putDir

theorem Frame.resizeRing {n frames pages load} (h : Frame f s₀ s) :
    SomeFrame (f.plus ⟨[.sent, .host, .ing], [.GLB_INT_SUM, .ING_POOL_USED, .ING_INT_STAT, .ING_IN_ALLOC]⟩) s₀ (s.resizeRing n
    frames pages load) :=
  h.opSome (by decide) fun h => .branch (.some (.branch h.set.set.setInput.irq h.set.set.setInput)) .none

def applyPendingFoot : Foot :=
  ⟨[.sent, .host, .ing], [.GLB_INT_SUM, .ING_POOL_USED, .ING_INT_STAT, .ING_IN_ALLOC]⟩

theorem Frame.applyPending {n} (h : Frame f s₀ s) : Frame (f.plus applyPendingFoot) s₀ (s.applyPending n) := by
  refine h.op (.refl _) fun h => ?_
  obtain ⟨resize, hr⟩ : ∃ f, f = State.resizeRing := ⟨_, rfl⟩
  obtain ⟨input, hi⟩ : ∃ f, f = State.input := ⟨_, rfl⟩
  unfold State.applyPending
  rw [← hr, ← hi]
  extract_lets _ _ s1 _ s2
  have h1 : Frame applyPendingFoot s s1 := .le (by decide) (.branch h.freeRing.setInput h)
  have h2 : Frame applyPendingFoot s s2 := by
    dsimp only [s2]
    split
    · exact .le (by decide) h1
    · exact .le (by decide) h1.setInput
  split
  · exact .le (by decide) h2
  · split
    · rename_i e
      rw [hr] at e
      exact .le (by decide) ((h2.resizeRing _ e).setInput)
    · exact .le (by decide) h2

theorem Frame.setHealth {a b} (h : Frame f s₀ s) :
    Frame (f.plus ⟨[.sent, .host, .egr], [.GLB_INT_SUM, .EGR_INT_STAT, .EGR_HEALTH_STAT]⟩) s₀ (s.setHealth a b) :=
  h.op (by decide) fun h => .branch h.updEgr.setFlag.setFlag.setFld.setFld.irq h.updEgr.setFlag.setFlag.setFld.setFld

theorem Frame.health (h : Frame f s₀ s) :
    Frame (f.plus ⟨[.sent, .host, .egr], [.GLB_INT_SUM, .EGR_INT_STAT, .EGR_HEALTH_STAT]⟩) s₀ s.health :=
  h.op (by decide) fun h => h.setHealth

theorem Frame.applyReleases {d} (h : Frame f s₀ s) :
    Frame (f.plus ⟨[.sent, .host, .egr], [.GLB_INT_SUM, .EGR_INT_STAT, .EGR_HEALTH_STAT]⟩) s₀ (s.applyReleases d) :=
  h.op (by decide) fun h => .branch h h.updEgr.health

def holdFoot : Foot :=
  ⟨[.twl], [.TWL_ADMIT_REFUSED]⟩

theorem Frame.hold {h'} (h : Frame f s₀ s) : Frame (f.plus holdFoot) s₀ (s.hold h').1 := by
  refine h.op (.refl _) fun h => ?_
  unfold State.hold
  split
  · exact .le (by decide) h.count
  · exact .le (by decide) h.updTwl

def requestRouteFoot : Foot :=
  ⟨[.twl, .tks], [.TWL_ADMIT_REFUSED]⟩

theorem Frame.requestRoute {src form v egress pre replaces} (h : Frame f s₀ s) :
    Frame (f.plus requestRouteFoot) s₀ (s.requestRoute src form v egress pre replaces).1 := by
  refine h.op (.refl _) fun h => ?_
  unfold State.requestRoute
  split
  · exact .le (by decide) h.setRoutes
  · split
    · exact .le (by decide) h
    · extract_lets _ s1
      have h1 : Frame requestRouteFoot s s1.1 := .le (by decide) h.updTks.hold
      split <;> exact .le (by decide) h1

def askSourceFoot : Foot :=
  ⟨[.twl, .tks, .egr], [.TWL_ADMIT_REFUSED]⟩

theorem Frame.askSource {i src v} (h : Frame f s₀ s) : Frame (f.plus askSourceFoot) s₀ (s.askSource i src v).1 := by
  refine h.op (.refl _) fun h => ?_
  unfold State.askSource
  extract_lets form x
  have hx : Frame askSourceFoot s x.1 := .le (by decide) h.requestRoute
  split
  · exact hx
  · dsimp only
    exact .le (by decide) hx.setSender

theorem Frame.showFill {tx n} (h : Frame f s₀ s) : Frame (f.plus ⟨[], [.ASP_TX_STAT, .ASP_RX_STAT]⟩) s₀ (s.showFill tx n) := by
  cases tx <;> exact h.op (by decide) fun h => h.setFld

theorem Frame.aspFault {tx n code} (h : Frame f s₀ s) :
    Frame (f.plus ⟨[.sent, .host, .awl, .asp], .GLB_INT_SUM :: .ASP_INT_STAT :: .ASP_INT_SRC :: .ASP_TX_STAT :: .ASP_TX_FAULTS ::
    .ASP_RX_STAT :: .ASP_RX_FAULTS :: awlFoot⟩) s₀ (s.aspFault tx n code) := by
  cases tx <;> exact h.op (by decide) fun h => .branch h.count (.branch
    h.setSect.setAspState.setFld.count.setFld.aspEvent.showFill h)

theorem Frame.reserveOut {old new} (h : Frame f s₀ s) : SomeFrame (f.plus ⟨[], [.TWD_OUT_RES]⟩) s₀ (s.reserveOut old new) :=
  h.opSome (by decide) fun h => .branch (.some h.setFld) .none

theorem Frame.reserveIn {old new} (h : Frame f s₀ s) : SomeFrame (f.plus ⟨[], [.TWD_IN_RES]⟩) s₀ (s.reserveIn old new) :=
  h.opSome (by decide) fun h => .branch (.some h.setFld) .none

def aspReserveFoot : Foot :=
  ⟨[.asp], [.TWD_IN_RES, .TWD_OUT_RES]⟩

theorem Frame.aspReserve {tx n want} (h : Frame f s₀ s) : SomeFrame (f.plus aspReserveFoot) s₀ (s.aspReserve tx n want) := by
  refine h.opSome (.refl _) fun h => ?_
  have hr : SomeFrame aspReserveFoot s (if tx then s.reserveOut (s.sect tx n).held want else s.reserveIn (s.sect tx n).held want)
    := .le (by decide) (.branch h.reserveOut h.reserveIn)
  intro t e
  obtain ⟨u, hu, rfl⟩ := Option.map_eq_some_iff.mp e
  exact .le (by decide) ((hr u hu).setSect)

def aspReleaseFoot : Foot :=
  ⟨[.asp], [.TWD_IN_RES, .TWD_OUT_RES]⟩

theorem Frame.aspRelease {tx n} (h : Frame f s₀ s) : Frame (f.plus aspReleaseFoot) s₀ (s.aspRelease tx n) := by
  refine h.op (.refl _) fun h => ?_
  unfold State.aspRelease
  split
  · rename_i e
    exact .le (by decide) (h.aspReserve _ e)
  · exact .le (by decide) h

theorem Frame.aspToOff {tx n} (h : Frame f s₀ s) :
    Frame (f.plus ⟨[.asp], [.TWD_IN_RES, .TWD_OUT_RES, .ASP_STATUS, .ASP_TX_CFG, .ASP_TX_STAT, .ASP_RX_CFG, .ASP_RX_STAT]⟩) s₀
    (s.aspToOff tx n) := by
  cases tx <;> exact h.op (by decide) fun h => h.aspRelease.setSect.set.setFlag.aspIdle

theorem Frame.aspStop {tx n} (h : Frame f s₀ s) :
    Frame (f.plus ⟨[.sent, .host, .awl, .asp], .GLB_INT_SUM :: .TWD_IN_RES :: .TWD_OUT_RES :: .ASP_STATUS :: .ASP_INT_STAT ::
    .ASP_INT_SRC :: .ASP_TX_CFG :: .ASP_TX_STAT :: .ASP_TX_KILLED :: .ASP_RX_CFG :: .ASP_RX_STAT :: .ASP_RX_KILLED :: awlFoot⟩)
    s₀ (s.aspStop tx n) := by
  cases tx <;> exact h.op (by decide) fun h => h.aspToOff.set.aspEvent

theorem Frame.enterRepeat {n} (h : Frame f s₀ s) :
    Frame (f.plus ⟨[.sent, .host, .awl], .GLB_INT_SUM :: .ING_INT_STAT :: .ING_LOSS_SUM :: .ING_IN_STAT :: .ING_IN_LOSSCNT ::
    awlFoot⟩) s₀ (s.enterRepeat n) :=
  h.op (by decide) fun h => h.setInState.setFld.noteLoss.awlState

theorem Frame.boundaryWithout {n} (h : Frame f s₀ s) :
    Frame (f.plus ⟨[.sent, .host, .awl, .ing], .GLB_INT_SUM :: .ING_INT_STAT :: .ING_LOSS_SUM :: .ING_IN_STAT :: .ING_IN_LOSSCNT
    :: awlFoot⟩) s₀ (s.boundaryWithout n) :=
  h.op (by decide) fun h => .branch (.branch h.enterRepeat.showLast h.enterBlack) (.branch (.branch h.setFld.showLast
    h.enterBlack) h.setInput)

theorem Frame.carry {k m} (h : Frame f s₀ s) : Frame (f.plus ⟨[.net], [.TWL_LK_STAT, .WLT_LK_STAT]⟩) s₀ (s.carry k m) :=
  h.op (by decide) fun h => h.setFld.setLink.setFld.setFld

def changeInputFoot : Foot :=
  ⟨[.resp, .sent, .host, .awl, .ing], .GLB_INT_SUM :: .ING_POOL_USED :: .ING_INT_STAT :: .ING_LOSS_SUM :: .ING_IN_CFG ::
      .ING_IN_STAT :: .ING_IN_ALLOC :: .ING_IN_LOSSCNT :: awlFoot⟩

theorem Frame.changeInput {n v} (h : Frame f s₀ s) : Frame (f.plus changeInputFoot) s₀ (s.changeInput n v) := by
  refine h.op (.refl _) fun h => ?_
  unfold State.changeInput
  extract_lets
  split
  · exact .le (by decide) h.refuse
  · split
    · exact .le (by decide) h.refuse
    · split
      · exact .le (by decide) h.refuse
      · rename_i t e
        have ht := SomeFrame.branch h.resizeRing (.some h) _ e
        exact .le (by decide) (.branch ht.setInput.store.setInput.loseInput ht.setInput.store)

theorem Frame.fence {step} (h : Frame f s₀ s) :
    Frame (f.plus ⟨[.sent, .host, .awl, .twl, .nim, .tks, .egr], .GLB_INT_SUM :: .GLB_INT_STAT :: .GLB_ALERT_STAT ::
    .EGR_INT_STAT :: .EGR_HEALTH_STAT :: .NIM_CORE_STAT :: .RSL_STATUS :: .RSL_INT_STAT :: .RSL_FENCE_STAT :: awlFoot⟩) s₀
    (s.fence step) :=
  h.op (by decide) fun h => .branch h (.branch h.setFlag.setFld.setFld.stopWork.alarm.health.emit
    h.setFlag.setFld.setFld.stopWork.alarm.health)

def checkOutcomeFoot : Foot :=
  ⟨[.sent, .host, .awl, .twl, .nim, .tks, .egr], .GLB_INT_SUM :: .GLB_INT_STAT :: .GLB_ALERT_STAT :: .EGR_INT_STAT ::
      .EGR_HEALTH_STAT :: .NIM_CORE_STAT :: .RSL_STATUS :: .RSL_INT_STAT :: .RSL_XCHK_LAST :: .RSL_FENCE_STAT :: awlFoot⟩

theorem Frame.checkOutcome {step partner} (h : Frame f s₀ s) :
    Frame (f.plus checkOutcomeFoot) s₀ (s.checkOutcome step partner) := by
  refine h.op (.refl _) fun h => ?_
  unfold State.checkOutcome
  extract_lets _ s1 _ s2
  have h2 : Frame checkOutcomeFoot s s2 := .le (by decide) h.setFld.setFld.updTks
  exact .le (by decide) (.branch h2.fence (.branch h2 h2.alert))

def mediaInFoot : Foot := ⟨[.sent, .host], [.GLB_INT_SUM, .ING_INT_STAT, .ING_UNMATCHED, .ING_UNBOUND, .EGR_JOIN_STAT]⟩

theorem Frame.mediaIn {p flow ctx k} (h : Frame f s₀ s) (hk : ∀ c u, Frame .none u u → Frame g u (k c u)) :
    Frame (f.plus (mediaInFoot.plus g)) s₀ (s.mediaIn p flow ctx k) := by
  have h1 : Frame mediaInFoot s (s.joinMatch p flow) := .le (by decide) (Frame.refl .none s).joinMatch
  refine h.plus ?_
  unfold State.mediaIn
  split
  · exact .left (.le (by decide) (Frame.refl .none s).count)
  · extract_lets
    split
    · exact .left (.le (by decide) h1.count)
    · exact h1.plus (hk _ _ (.refl _ _))

def videoPacketFoot : Foot :=
  ⟨[.ing], [.ING_PKT_STAT, .ING_PKT_RXA, .ING_PKT_RXB, .ING_PKT_DUP, .ING_PKT_LATE]⟩

theorem Frame.videoPacket {m legB ext num samples} (h : Frame f s₀ s) :
    Frame (f.plus videoPacketFoot) s₀ (s.videoPacket m legB ext num samples) := by
  refine h.op (.refl _) fun h => ?_
  unfold State.videoPacket
  extract_lets _ s1 s2 _ s3
  have h2 : Frame videoPacketFoot s s2 := by cases legB <;> exact .le (by decide) h.count.setFlag
  have h3 : Frame videoPacketFoot s s3 := .le (by decide) h2.setInput
  exact .le (by decide) (.branch h2 (.branch h2.count (.branch h3.count (.branch h3.setInput h3.setInput))))

def rxFillFoot : Foot :=
  ⟨[.sent, .net], [.NPT_RXR_HEAD]⟩

theorem Frame.rxFill {r port cls entry total time chk first n left} (h : Frame f s₀ s) :
    Frame (f.plus rxFillFoot) s₀ (s.rxFill r port cls entry total time chk first n left) := by
  suffices hs : ∀ u, Frame rxFillFoot s u → Frame rxFillFoot s (u.rxFill r port cls entry total time chk first n left) from
      h.plus (hs s (.refl _ s))
  induction n generalizing first left with
  | zero => exact fun u hu => hu
  | succ n ih => exact fun u hu => ih _ (.le (by decide) hu.rxDescOut)

theorem Frame.toRing {r port cls entry chk fr} (h : Frame f s₀ s) :
    Frame (f.plus ⟨[.sent, .host, .net], [.GLB_INT_SUM, .NPT_INT_STAT, .NPT_RXR_HEAD, .NPT_RXR_DROP, .NPT_RXR_FRAMES]⟩) s₀
    (s.toRing r port cls entry chk fr) :=
  h.op (by decide) fun h => .branch h.count.irq h.rxFill.count.rxrVector

def steerCtrlFoot : Foot :=
  ⟨[.sent, .host, .nim, .net], [.GLB_INT_SUM, .NIM_SVC_STAT, .NPT_INT_STAT, .NPT_STEER_MISS, .NPT_STEER_DROP, .NPT_RXR_HEAD,
      .NPT_RXR_DROP, .NPT_RXR_FRAMES]⟩

theorem Frame.steerCtrl {port cls udp fr} (h : Frame f s₀ s) : Frame (f.plus steerCtrlFoot) s₀ (s.steerCtrl port cls udp fr) := by
  refine h.op (.refl _) fun h => ?_
  unfold State.steerCtrl
  split
  · exact .le (by decide) h.count.irq
  · exact .le (by decide) (.branch (.branch h.steerDrop h.giveRing) (.branch h.toRing h.steerDrop))

def classifyFoot : Foot :=
  ⟨[.sent, .host, .ing, .nim, .net], [.GLB_INT_SUM, .ING_INT_STAT, .ING_UNMATCHED, .ING_UNBOUND, .ING_PKT_STAT, .ING_PKT_RXA,
      .ING_PKT_RXB, .ING_PKT_DUP, .ING_PKT_LATE, .ING_AFL_STAT, .ING_ANF_STAT, .EGR_JOIN_STAT, .NIM_SVC_STAT, .NPT_INT_STAT,
      .NPT_STEER_MISS, .NPT_STEER_DROP, .NPT_RXR_HEAD, .NPT_RXR_DROP, .NPT_RXR_FRAMES]⟩

theorem Frame.classify {p fr} (h : Frame f s₀ s) : Frame (f.plus classifyFoot) s₀ (s.classify p fr) := by
  refine h.op (.refl _) fun h => ?_
  unfold State.classify
  split
  · exact .le (by decide) (.mediaIn h fun _ _ h1 => h1.videoPacket)
  · exact .le (by decide) (.mediaIn h fun _ _ h1 => h1.audioPacket)
  · exact .le (by decide) (.mediaIn h fun _ _ h1 => h1.ancFlowPacket)
  · exact .le (by decide) (.steerCtrl (.branch h.queueCtrl h))
  · exact .le (by decide) h.count

def putRecordFoot : Foot :=
  ⟨[.sent, .host, .awl, .keep], .GLB_INT_SUM :: .RSL_STATUS :: .RSL_INT_STAT :: .RSL_FLASH_WEAR :: .AWL_SEQ_NEXT :: .AWL_OLDEST
      :: .AWL_COUNT :: .AWL_HEAD :: .AWL_OVERWRITTEN :: .SET_INT_STAT :: .SET_SECTORS :: awlFoot⟩

theorem Frame.putRecord {e'} (h : Frame f s₀ s) : Frame (f.plus putRecordFoot) s₀ (s.putRecord e') := by
  refine h.op (.refl _) fun h => ?_
  unfold State.putRecord
  extract_lets _ _ _ _ s1 s2 _ _ s3 _ _ _ _ s4 s5 _ s6
  have h1 : Frame putRecordFoot s s1 := .le (by decide) h.set
  have h2 : Frame putRecordFoot s s2 := .le (by decide) (.branch h1 h1.count)
  have h3 : Frame putRecordFoot s s3 := .le (by decide) (.branch h1.count h1)
  have h4 : Frame putRecordFoot s s4 := .le (by decide) h3.setAwl
  have h5 : Frame putRecordFoot s s5 := .le (by decide) (.branch h4.count.eraseSector h3)
  have h6 : Frame putRecordFoot s s6 := .le (by decide) (.branch h5.setAwl h5.setAwl)
  exact .le (by decide) (.branch h2.setAwl.showAwl h6.setFld.showAwl)

theorem Frame.clearAwl (h : Frame f s₀ s) :
    Frame (f.plus ⟨[.sent, .host, .awl, .keep], .GLB_INT_SUM :: .RSL_STATUS :: .RSL_INT_STAT :: .RSL_FLASH_WEAR :: .AWL_SEQ_NEXT
    :: .AWL_OLDEST :: .AWL_COUNT :: .AWL_HEAD :: .AWL_EPOCH :: .AWL_OVERWRITTEN :: .AWL_CLR_RESULT :: .SET_INT_STAT ::
    .SET_SECTORS :: awlFoot⟩) s₀ s.clearAwl :=
  h.op (by decide) fun h => h.set.setFlag.showAwl.putRecord.setFld

theorem Frame.showQueues (h : Frame f s₀ s) : Frame (f.plus ⟨[], [.NIM_Q_STAT]⟩) s₀ s.showQueues :=
  h.op (by decide) fun h => .fold h fun _ _ h1 => h1.showQueue

theorem Frame.replayCheck (h : Frame f s₀ s) :
    Frame (f.plus ⟨[.sent, .host, .nim], [.GLB_INT_SUM, .BOOT_STAGE, .BOOT_TIME, .NIM_STATUS, .NIM_INT_STAT, .NIM_CQ_TAIL,
    .NIM_Q_STAT]⟩) s₀ s.replayCheck :=
  h.op (by decide) fun h => .branch h.setFlag.bootReady.postDones.irq.showQueues h

def noteCompleteFoot : Foot :=
  ⟨[.nim], [.NIM_SVC_STAT]⟩

theorem Frame.noteComplete (h : Frame f s₀ s) : Frame (f.plus noteCompleteFoot) s₀ s.noteComplete := by
  refine h.op (.refl _) fun h => ?_
  unfold State.noteComplete
  refine .le (by decide) (.fold (g := noteCompleteFoot) h fun s1 n h1 => ?_)
  split
  · exact .le (by decide) h1.setSvc.wakeSvc
  · exact .le (by decide) h1

def completeEntryFoot : Foot :=
  ⟨[.sent, .host, .nim], .GLB_INT_SUM :: .NIM_INT_STAT :: .NIM_COMPLETED :: entryFoot⟩

theorem Frame.completeEntry {k final trap pc} (h : Frame f s₀ s) :
    Frame (f.plus completeEntryFoot) s₀ (s.completeEntry k final trap pc) := by
  refine h.op (.refl _) fun h => ?_
  unfold State.completeEntry
  split
  · exact .le (by decide) h
  · exact .le (by decide) (.branch h (.replayCheck (.showCores (.showJournal (.noteComplete (.postDone (.branch (.giveDone
      (.branch h.setEntry.count.emit h.setEntry.count)) (.branch h.setEntry.count.emit h.setEntry.count))))))))

theorem Frame.confirm (h : Frame f s₀ s) :
    Frame (f.plus ⟨[.resp, .freeCtr, .sent, .host, .upd], [.GLB_INT_SUM, .SET_FLOOR, .UPD_STATUS, .UPD_INT_STAT,
    .UPD_LAST_STATUS, .UPD_CONFIRM_LEFT, .UPD_SLOT_STAT, .UPD_SLOT_VER, .UPD_SLOT_FLOOR, .UPD_SLOT_SEQ]⟩) s₀ s.confirm :=
  h.op (by decide) fun h => .branch h.ctrlRefused.drawFree (.branch h.ctrlRefused (.branch h.ctrlRefused (.branch h.ctrlRefused
    h.setSlot.raiseFloor.lastStatus.answer.irq.showUpd)))

theorem Frame.copyEntry {e' replayed} (h : Frame f s₀ s) :
    Frame (f.plus ⟨[.sent, .host, .nim], [.GLB_INT_SUM, .NIM_INT_STAT, .NIM_JRN_FREE, .NIM_JRN_OPEN, .NIM_CORE_STAT,
    .NIM_Q_HWM]⟩) s₀ (s.copyEntry e' replayed) :=
  h.op (by decide) fun h => h.journalEntry.raiseHwm

theorem Frame.releaseLock (h : Frame f s₀ s) :
    Frame (f.plus ⟨[.upd], [.UPD_STATUS, .UPD_LOCK, .UPD_NEXT, .UPD_CONFIRM_LEFT, .UPD_SESSION, .UPD_SLOT_STAT, .UPD_SLOT_VER,
    .UPD_SLOT_FLOOR, .UPD_SLOT_SEQ]⟩) s₀ s.releaseLock :=
  h.op (by decide) fun h => h.setUpd.set.set.set.showUpd

theorem Frame.ctrlAbort (h : Frame f s₀ s) :
    Frame (f.plus ⟨[.resp, .upd], [.UPD_STATUS, .UPD_LOCK, .UPD_LAST_STATUS, .UPD_NEXT, .UPD_CONFIRM_LEFT, .UPD_SESSION,
    .UPD_SLOT_STAT, .UPD_SLOT_VER, .UPD_SLOT_FLOOR, .UPD_SLOT_SEQ]⟩) s₀ s.ctrlAbort :=
  h.op (by decide) fun h => .answer (.lastStatus (.branch h.releaseLock h))

theorem Frame.fallBack (h : Frame f s₀ s) :
    Frame (f.plus ⟨[.freeCtr, .sent, .host, .awl, .twl, .nim, .tks, .net, .upd, .boot], .GLB_INT_SUM :: .GLB_INT_STAT ::
    .GLB_ALERT_STAT :: .BOOT_PROT :: .BOOT_STAGE :: .BOOT_CAUSE :: .BOOT_FAIL :: .BOOT_WARMS :: .BOOT_IMG_VER :: .NIM_CORE_STAT
    :: .SET_STATUS :: .SET_FLOOR :: .UPD_STATUS :: .UPD_INT_STAT :: .UPD_RUN_VER :: .UPD_CONFIRM_LEFT :: .UPD_SLOT_STAT ::
    .UPD_SLOT_VER :: .UPD_SLOT_FLOOR :: .UPD_SLOT_SEQ :: (warmCleared ++ awlFoot)⟩) s₀ s.fallBack :=
  h.op (by decide) fun h => h.rejectSlot.warmReset.startConfirmed.irq.alert.awlUnstated.showUpd

theorem Frame.ctrlFallback (h : Frame f s₀ s) :
    Frame (f.plus ⟨[.resp, .freeCtr, .sent, .host, .awl, .twl, .nim, .tks, .net, .upd, .boot], .GLB_INT_SUM :: .GLB_INT_STAT ::
    .GLB_ALERT_STAT :: .BOOT_PROT :: .BOOT_STAGE :: .BOOT_CAUSE :: .BOOT_FAIL :: .BOOT_WARMS :: .BOOT_IMG_VER :: .NIM_CORE_STAT
    :: .SET_STATUS :: .SET_FLOOR :: .UPD_STATUS :: .UPD_INT_STAT :: .UPD_LAST_STATUS :: .UPD_RUN_VER :: .UPD_CONFIRM_LEFT ::
    .UPD_SLOT_STAT :: .UPD_SLOT_VER :: .UPD_SLOT_FLOOR :: .UPD_SLOT_SEQ :: (warmCleared ++ awlFoot)⟩) s₀ s.ctrlFallback :=
  h.op (by decide) fun h => .branch h.ctrlRefused.drawFree h.lastStatus.answer.fallBack

theorem Frame.datagram {op session layout k} (h : Frame f s₀ s) (hk : ∀ u, Frame .none u u → Frame g u (k u)) :
    Frame (f.plus (.plus ⟨[.resp, .sent], [.UPD_PKT_RX]⟩ g)) s₀ (s.datagram op session layout k) := by
  refine h.plus ?_
  unfold State.datagram
  split
  · exact .refl _ s
  · extract_lets u
    have hu : Frame ⟨[.resp, .sent], [.UPD_PKT_RX]⟩ s u := .le (by decide) (Frame.refl .none s).count
    split
    · exact .left (.le (by decide) hu.updAnswer)
    · exact hu.plus (hk u (.refl _ u))

def growRingFoot : Foot :=
  ⟨[.sent, .host, .ing], [.GLB_INT_SUM, .ING_POOL_USED, .ING_INT_STAT, .ING_IN_ALLOC]⟩

theorem Frame.growRing {n frames fr} (h : Frame f s₀ s) : SomeFrame (f.plus growRingFoot) s₀ (s.growRing n frames fr) := by
  refine h.opSome (.refl _) fun h => ?_
  unfold State.growRing
  extract_lets
  split
  · split
    · rename_i e
      exact .le (by decide) (.some (h.resizeRing _ e).setInput)
    · exact .le (by decide) .none
  · split
    · rename_i e
      exact .le (by decide) (.some (h.resizeRing _ e).setInput)
    · exact .le (by decide) .none

def decideFormatFoot : Foot :=
  ⟨[.sent, .host, .awl, .ing], .GLB_INT_SUM :: .ING_POOL_USED :: .ING_INT_STAT :: .ING_LOSS_SUM :: .ING_IN_STAT :: .ING_IN_FMT ::
      .ING_IN_ALLOC :: .ING_IN_LOSSCNT :: awlFoot⟩

theorem Frame.decideFormat {n fr} (h : Frame f s₀ s) : Frame (f.plus decideFormatFoot) s₀ (s.decideFormat n fr) := by
  refine h.op (.refl _) fun h => ?_
  unfold State.decideFormat
  extract_lets s1 _ _ _ s2
  have h1 : Frame decideFormatFoot s s1 := .le (by decide) h.setFld.setFld.setFld
  have h2 : SomeFrame decideFormatFoot s s2 := .le (by decide) (.branch (.some h1) h1.growRing)
  clear_value s2
  split
  · exact .le (by decide) h1.setInput.loseInput
  · split
    · exact .le (by decide) h1.setInput.loseInput
    · rename_i t
      have ht := h2 _ rfl
      exact .le (by decide) (.branch ht.setInput.setFlag.setInState.setInput ht.setInput.setFlag)

theorem Frame.sendUpdate {flow entry} (h : Frame f s₀ s) :
    Frame (f.plus ⟨[.sent, .twl], [.TWL_DIR_SEQ]⟩) s₀ (s.sendUpdate flow entry).1 :=
  h.op (by decide) fun h => h.set.setDirs.emit

theorem Frame.dirFinish {p} (h : Frame f s₀ s) :
    Frame (f.plus ⟨[.resp, .sent, .host, .awl, .twl, .nim, .tks, .egr, .dir], .GLB_INT_SUM :: .TWL_INT_STAT :: .TWL_DIR_RESULT ::
    .TWL_DIR_COUNT :: .TWL_DIR_OWN :: .TWL_DIR_OVF :: .TWL_DIR_SEQ :: .TWL_DIR_CONFLICT :: .EGR_OUT_TAKE :: (awlFoot ++
    routeFoot)⟩) s₀ (s.dirFinish p) :=
  h.op (by decide) fun h => .branch h.setDirs.applyDir.sendUpdate.dirResult h.setDirs.dirResult

def originateFoot : Foot :=
  ⟨[.resp, .sent, .host, .awl, .twl, .nim, .tks, .egr, .dir], .GLB_INT_SUM :: .TWL_INT_STAT :: .TWL_DIR_RESULT :: .TWL_DIR_COUNT
      :: .TWL_DIR_OWN :: .TWL_DIR_OVF :: .TWL_DIR_SEQ :: .TWL_DIR_CONFLICT :: .EGR_OUT_TAKE :: (awlFoot ++ routeFoot)⟩

theorem Frame.originate {who flow entry ovf} (h : Frame f s₀ s) :
    Frame (f.plus originateFoot) s₀ (s.originate who flow entry ovf) := by
  refine h.op (.refl _) fun h => ?_
  unfold State.originate
  extract_lets s1 s2 s3 _ _ s4
  have h1 : Frame originateFoot s s1.1 := .le (by decide) h.applyDir
  have h2 : Frame originateFoot s s2.1 := .le (by decide) h1.sendUpdate
  have h3 : Frame originateFoot s s3 := .le (by decide) h2
  have h4 : Frame originateFoot s s4 := .le (by decide) h3.setDirs
  split
  · exact .le (by decide) h.dirResult
  · split
    · exact .le (by decide) h3.dirResult
    · split
      · exact .le (by decide) h4.setFlag
      · exact .le (by decide) h4

theorem Frame.dirWithdraw {who flow} (h : Frame f s₀ s) :
    Frame (f.plus ⟨[.resp, .sent, .host, .awl, .twl, .nim, .tks, .egr, .dir], .GLB_INT_SUM :: .TWL_INT_STAT :: .TWL_DIR_RESULT ::
    .TWL_DIR_COUNT :: .TWL_DIR_OWN :: .TWL_DIR_OVF :: .TWL_DIR_SEQ :: .TWL_DIR_CONFLICT :: .EGR_OUT_TAKE :: (awlFoot ++
    routeFoot)⟩) s₀ (s.dirWithdraw who flow) :=
  h.op (by decide) fun h => .branch h.dirResult (.branch h.dirResult (.branch h.dirResult h.originate))

theorem Frame.dirWrite {who flow e' ovf} (h : Frame f s₀ s) :
    Frame (f.plus ⟨[.resp, .sent, .host, .awl, .twl, .nim, .tks, .egr, .dir], .GLB_INT_SUM :: .TWL_INT_STAT :: .TWL_DIR_RESULT ::
    .TWL_DIR_COUNT :: .TWL_DIR_OWN :: .TWL_DIR_OVF :: .TWL_DIR_SEQ :: .TWL_DIR_CONFLICT :: .EGR_OUT_TAKE :: (awlFoot ++
    routeFoot)⟩) s₀ (s.dirWrite who flow e' ovf) :=
  h.op (by decide) fun h => .branch h.dirResult (.branch h.dirResult (.branch h.dirResult h.originate))

def dropRouteFoot : Foot :=
  ⟨[.twl], routeFoot⟩

theorem Frame.dropRoute {req} (h : Frame f s₀ s) : Frame (f.plus dropRouteFoot) s₀ (s.dropRoute req) := by
  refine h.op (.refl _) fun h => ?_
  unfold State.dropRoute
  split
  · exact .le (by decide) h
  · exact .le (by decide) (.branch h h.release)

theorem Frame.giveTake {r} (h : Frame f s₀ s) : Frame (f.plus ⟨[.nim], [.NIM_SVC_STAT]⟩) s₀ (s.giveTake r) :=
  h.op (by decide) fun h => .fold h fun _ _ h1 => .branch h1.setSvc.wakeSvc h1

def postTakeFoot : Foot :=
  ⟨[.sent, .host, .nim], [.GLB_INT_SUM, .NIM_INT_STAT, .NIM_CQ_LOST, .NIM_CQ_TAIL, .NIM_SVC_STAT]⟩

theorem Frame.postTake {t' time st superseded} (h : Frame f s₀ s) :
    Frame (f.plus postTakeFoot) s₀ (s.postTake t' time st superseded) := by
  refine h.op (.refl _) fun h => ?_
  unfold State.postTake
  extract_lets _ s1
  have h1 : Frame postTakeFoot s s1 := by
    dsimp only [s1]
    split
    · split
      · exact .le (by decide) h.postRecord
      · exact .le (by decide) (.branch h h.emit)
    · exact .le (by decide) h
  exact .le (by decide) h1.giveTake

theorem Frame.supersede {t'} (h : Frame f s₀ s) :
    Frame (f.plus ⟨[.resp, .freeCtr, .sent, .host, .twl, .nim, .tks], .GLB_INT_SUM :: .EGR_OUT_TAKE :: .NIM_INT_STAT ::
    .NIM_JRN_FREE :: .NIM_JRN_OPEN :: .NIM_CQ_LOST :: .NIM_CQ_TAIL :: .NIM_SVC_STAT :: routeFoot⟩) s₀ (s.supersede t') :=
  h.op (by decide) fun h => .branch h.dropTake.dropRoute.drawFree.postTake h.dropTake.dropRoute.drawFree.postTake.memberArmed

def preStageFoot : Foot :=
  ⟨[.resp, .freeCtr, .sent, .host, .twl, .nim, .tks], .GLB_INT_SUM :: .TWL_ADMIT_REFUSED :: .EGR_OUT_TAKE :: .NIM_INT_STAT ::
      .NIM_JRN_FREE :: .NIM_JRN_OPEN :: .NIM_CQ_LOST :: .NIM_CQ_TAIL :: .NIM_SVC_STAT :: routeFoot⟩

theorem Frame.preStage {o mismatch} (h : Frame f s₀ s) : Frame (f.plus preStageFoot) s₀ (s.preStage o mismatch).1 := by
  refine h.op (.refl _) fun h => ?_
  unfold State.preStage
  extract_lets d src v fr nochange t' old form cur alone y x s1 s2
  have hx : Frame preStageFoot s x.1 := by
    dsimp only [x]
    split
    · exact .le (by decide) h
    · exact .le (by decide) h.requestRoute
  clear_value old
  have h2 : Frame preStageFoot s s2 := by
    dsimp only [s2]
    split
    · exact .le (by decide) hx.supersede
    · exact .le (by decide) hx
  clear_value s2 x
  split
  · exact .le (by decide) hx
  · exact .le (by decide) (.branch h2.setTakes.showPending.tellPartner h2.setTakes.showPending)

def doTakeFoot : Foot :=
  ⟨[.resp, .freeCtr, .sent, .host, .twl, .nim, .tks], .GLB_INT_SUM :: .TWL_ADMIT_REFUSED :: .EGR_OUT_TAKE :: .NIM_INT_STAT ::
      .NIM_JRN_FREE :: .NIM_JRN_OPEN :: .NIM_CQ_LOST :: .NIM_CQ_TAIL :: .NIM_SVC_STAT :: routeFoot⟩

theorem Frame.doTake {o} (h : Frame f s₀ s) : Frame (f.plus doTakeFoot) s₀ (s.doTake o).1 := by
  refine h.op (.refl _) fun h => ?_
  unfold State.doTake
  split
  · exact .le (by decide) h
  · exact .le (by decide) h.preStage

theorem Frame.refuseOrder {o st} (h : Frame f s₀ s) :
    Frame (f.plus ⟨[.resp, .sent, .host, .nim, .tks], [.GLB_INT_SUM, .NIM_INT_STAT, .NIM_JRN_FREE, .NIM_JRN_OPEN, .NIM_CQ_LOST,
    .NIM_CQ_TAIL, .NIM_SVC_STAT]⟩) s₀ (s.refuseOrder o st) :=
  h.op (by decide) fun h => .branch h.setTakes.tellPartner h.tellPartner.postTake.memberRefused

def doTakesFoot : Foot :=
  ⟨[.resp, .freeCtr, .sent, .host, .twl, .nim, .tks], .GLB_INT_SUM :: .TWL_ADMIT_REFUSED :: .EGR_OUT_TAKE :: .NIM_INT_STAT ::
      .NIM_JRN_FREE :: .NIM_JRN_OPEN :: .NIM_CQ_LOST :: .NIM_CQ_TAIL :: .NIM_SVC_STAT :: routeFoot⟩

theorem Frame.doTakes {l} (h : Frame f s₀ s) : Frame (f.plus doTakesFoot) s₀ (s.doTakes l) := by
  suffices hs : ∀ u, Frame doTakesFoot s u → Frame doTakesFoot s (u.doTakes l) from h.plus (hs s (.refl _ s))
  induction l with
  | nil => exact fun u hu => hu
  | cons o os ih =>
    intro u hu
    unfold State.doTakes
    refine ih _ ?_
    split
    · exact .le (by decide) hu.doTake
    · exact .le (by decide) hu.doTake.refuseOrder

def doMembersFoot : Foot :=
  ⟨[.resp, .freeCtr, .sent, .host, .twl, .nim, .tks], .GLB_INT_SUM :: .TWL_ADMIT_REFUSED :: .EGR_OUT_TAKE :: .NIM_INT_STAT ::
      .NIM_JRN_FREE :: .NIM_JRN_OPEN :: .NIM_CQ_LOST :: .NIM_CQ_TAIL :: .NIM_SVC_STAT :: routeFoot⟩

theorem Frame.doMembers {atomic l} (h : Frame f s₀ s) : Frame (f.plus doMembersFoot) s₀ (s.doMembers atomic l) := by
  refine h.op (.refl _) fun h => ?_
  unfold State.doMembers
  split
  · split
    · exact .le (by decide) h.doTakes
    · exact .le (by decide) (.fold h fun _ _ h1 => h1.refuseOrder)
  · exact .le (by decide) h.doTakes

def drainInputFoot : Foot :=
  ⟨[], [.ING_LOSS_SUM, .ING_IN_STAT, .TWD_IN_RES]⟩

theorem Frame.drainInput {n} (h : Frame f s₀ s) : Frame (f.plus drainInputFoot) s₀ (s.drainInput n) := by
  refine h.op (.refl _) fun h => ?_
  unfold State.drainInput
  extract_lets s1
  have h1 : Frame drainInputFoot s s1 := by
    dsimp only [s1]
    split
    · rename_i e
      exact .le (by decide) (h.reserveIn _ e)
    · exact .le (by decide) h
  exact .le (by decide) h1.setInState

theorem Frame.refuseTake {t' st} (h : Frame f s₀ s) :
    Frame (f.plus ⟨[.resp, .sent, .host, .twl, .nim, .tks], .GLB_INT_SUM :: .EGR_OUT_TAKE :: .NIM_INT_STAT :: .NIM_JRN_FREE ::
    .NIM_JRN_OPEN :: .NIM_CQ_LOST :: .NIM_CQ_TAIL :: .NIM_SVC_STAT :: routeFoot⟩) s₀ (s.refuseTake t' st) :=
  h.op (by decide) fun h => .branch h.dropTake.dropRoute.postTake h.dropTake.dropRoute.postTake.memberRefused

theorem Frame.drainTakes {n} (h : Frame f s₀ s) :
    Frame (f.plus ⟨[.resp, .sent, .host, .twl, .nim, .tks], .GLB_INT_SUM :: .EGR_OUT_TAKE :: .NIM_INT_STAT :: .NIM_JRN_FREE ::
    .NIM_JRN_OPEN :: .NIM_CQ_LOST :: .NIM_CQ_TAIL :: .NIM_SVC_STAT :: routeFoot⟩) s₀ (s.drainTakes n) :=
  h.op (by decide) fun h => .fold h fun _ _ h1 => h1.refuseTake

theorem Frame.drainOutput {n} (h : Frame f s₀ s) :
    Frame (f.plus ⟨[.resp, .sent, .host, .twl, .nim, .tks], .GLB_INT_SUM :: .EGR_OUT_TAKE :: .EGR_OUT_STAT :: .NIM_INT_STAT ::
    .NIM_JRN_FREE :: .NIM_JRN_OPEN :: .NIM_CQ_LOST :: .NIM_CQ_TAIL :: .NIM_SVC_STAT :: routeFoot⟩) s₀ (s.drainOutput n) :=
  h.op (by decide) fun h => h.setFld.drainTakes

theorem Frame.drainOver {draining obj kill} (h : Frame f s₀ s) (hk : ∀ u, Frame .none u u → Frame g u (kill u)) :
    Frame (f.plus (.plus g ⟨[.sent, .host, .awl], .GLB_INT_SUM :: .RSL_INT_STAT :: .RSL_DRAIN_OVR :: awlFoot⟩)) s₀ (s.drainOver
        draining obj kill) := by
  refine h.plus ?_
  unfold State.drainOver
  split
  · exact .plus (hk s (.refl _ s)) (.le (by decide) (Frame.refl .none (kill s)).count.event)
  · exact .refl _ s

def drawLayerFoot : Foot :=
  ⟨[.sent, .host, .vmp], [.GLB_INT_SUM, .VMP_INT_STAT, .VMP_PIPE_NRDY, .VMP_LAYER_STAT]⟩

theorem Frame.drawLayer {v l} (h : Frame f s₀ s) : Frame (f.plus drawLayerFoot) s₀ (s.drawLayer v l).1 := by
  refine h.op (.refl _) fun h => ?_
  unfold State.drawLayer
  extract_lets _ _ _ _ _ _ _ s1
  have h1 : Frame drawLayerFoot s s1 := .le (by decide) h.count.irq
  split
  · exact .le (by decide) h.showLayer
  · split
    · exact .le (by decide) h.setPipe.showLayer
    · split
      · exact .le (by decide) h1.showLayer
      · split
        · exact .le (by decide) h1.showLayer
        · split <;> exact .le (by decide) h1.showLayer

theorem Frame.dropEntry {k} (h : Frame f s₀ s) :
    Frame (f.plus ⟨[.sent, .host, .nim], [.GLB_INT_SUM, .NIM_INT_STAT, .NIM_JRN_FREE, .NIM_JRN_OPEN, .NIM_CORE_STAT]⟩) s₀
    (s.dropEntry k) :=
  h.op (by decide) fun h => h.updNim.showJournal.showCores

theorem Frame.eachSect {k} (h : Frame f s₀ s) (hk : ∀ u x n, Frame .none u u → Frame g u (k u x n)) :
    Frame (f.plus g) s₀ (s.eachSect k) := by
  have h1 : ∀ u x n, Frame g u (if u.aspState x n = aspOff then u else k u x n) := fun u x n => by
    split
    · exact .refl g u
    · exact hk u x n (.refl _ u)
  exact h.fold fun u x _ => .foldl (fun v n hv => hv.trans (h1 v x n)) _ (.refl g u)

def enableInputFoot : Foot :=
  ⟨[.resp, .sent, .host, .ing], [.GLB_INT_SUM, .ING_POOL_USED, .ING_INT_STAT, .ING_LOSS_SUM, .ING_IN_CFG, .ING_IN_STAT,
      .ING_IN_FMT, .ING_IN_ALLOC, .TWD_IN_RES]⟩

theorem Frame.enableInput {n v} (h : Frame f s₀ s) : Frame (f.plus enableInputFoot) s₀ (s.enableInput n v) := by
  refine h.op (.refl _) fun h => ?_
  have hr : ∀ st, Frame enableInputFoot s (s.refuse st) := fun _ => .le (by decide) h.refuse
  unfold State.enableInput
  extract_lets
  split
  · exact hr _
  · split
    · exact hr _
    · split
      · exact hr _
      · split
        · exact hr _
        · split
          · exact hr _
          · rename_i t e
            have ht : Frame enableInputFoot s t := .le (by decide) (h.reserveIn _ e)
            split
            · exact hr _
            · rename_i e1
              exact .le (by decide) (SomeFrame.branch (.some ht) ht.resizeRing _ e1).store.set.set.setInput.setInState

def endRouteFoot : Foot :=
  ⟨[.twl], routeFoot⟩

theorem Frame.endRoute {r} (h : Frame f s₀ s) : Frame (f.plus endRouteFoot) s₀ (s.endRoute r) := by
  refine h.op (.refl _) fun h => ?_
  unfold State.endRoute
  split
  · split
    · extract_lets s1 s2 s3
      have h1 : Frame endRouteFoot s s1 := .le (by decide) h.setRoutes
      have h2 : Frame endRouteFoot s s2 := .le (by decide) (.fold h1 fun _ _ h2 => h2.calWrite)
      have h3 : Frame endRouteFoot s s3 := .le (by decide) h2.showRoute
      split
      · exact .le (by decide) (.branch h3 h3.release)
      · exact .le (by decide) h3
    · exact .le (by decide) (.branch h.setRoutes h.release)
  · exact .le (by decide) h

theorem Frame.laceHold {k} (h : Frame f s₀ s) : Frame (f.plus ⟨[], [.TWL_LK_STAT, .WLT_LK_STAT]⟩) s₀ (s.laceHold k) :=
  h.op (by decide) fun h => .branch h.setLkState.setFld.setFld.setFld h

theorem Frame.enterSpare (h : Frame f s₀ s) :
    Frame (f.plus ⟨[.boot], [.TWL_LK_STAT, .WLT_LK_STAT, .INS_STATE, .INS_CLK_REQ, .INS_CLK_RUN]⟩) s₀ s.enterSpare :=
  h.op (by decide) fun h => .fold h.setFld.updBoot.set.set fun _ _ h1 => h1.laceHold

theorem Frame.refLost {r fault} (h : Frame f s₀ s) :
    Frame (f.plus ⟨[.sent, .host, .lst], [.GLB_INT_SUM, .LST_VALID, .LST_QUAL, .LST_INT_STAT, .LST_REF_STAT, .LST_REF_LOSS]⟩) s₀
    (s.refLost r fault) :=
  h.op (by decide) fun h => .branch h (.branch h.setFlag.setFlag.setFld.setFld.setFld.setFld.count.irq.setLst
    h.setFlag.setFlag.setFld.setFld.setFld.setFld.count.irq)

theorem Frame.enterSrv {k st} (h : Frame f s₀ s) :
    Frame (f.plus ⟨[.sent, .host, .lst, .ntm], [.GLB_INT_SUM, .LST_VALID, .LST_QUAL, .LST_INT_STAT, .LST_REF_STAT, .LST_REF_LOSS,
    .NTM_SRV_STAT]⟩) s₀ (s.enterSrv k st) :=
  h.op (by decide) fun h => .branch h.setFld.setServo h.setFld.setServo.refLost

theorem Frame.realign {d endAt} (h : Frame f s₀ s) :
    Frame (f.plus ⟨[.sent, .host, .egr], [.GLB_INT_SUM, .EGR_INT_STAT, .EGR_HEALTH_STAT, .EGR_OTD_STAT]⟩) s₀ (s.realign d
    endAt) :=
  h.op (by decide) fun h => h.setOtd.setFlag.setFlag.health

theorem Frame.supersedeSame {n} (h : Frame f s₀ s) :
    Frame (f.plus ⟨[.resp, .freeCtr, .sent, .host, .twl, .nim, .tks], .GLB_INT_SUM :: .EGR_OUT_TAKE :: .NIM_INT_STAT ::
    .NIM_JRN_FREE :: .NIM_JRN_OPEN :: .NIM_CQ_LOST :: .NIM_CQ_TAIL :: .NIM_SVC_STAT :: routeFoot⟩) s₀ (s.supersedeSame n) :=
  h.op (by decide) fun h => .fold h fun _ _ h1 => .branch h1.supersede h1

def moveTakeFoot : Foot :=
  ⟨[.resp, .freeCtr, .sent, .host, .twl, .nim, .tks], .GLB_INT_SUM :: .EGR_OUT_TAKE :: .NIM_INT_STAT :: .NIM_JRN_FREE ::
      .NIM_JRN_OPEN :: .NIM_CQ_LOST :: .NIM_CQ_TAIL :: .NIM_SVC_STAT :: routeFoot⟩

theorem Frame.moveTake {t' k} (h : Frame f s₀ s) : Frame (f.plus moveTakeFoot) s₀ (s.moveTake t' k) := by
  refine h.op (.refl _) fun h => ?_
  unfold State.moveTake
  extract_lets _ s1 s2
  have h1 : Frame moveTakeFoot s s1 := .le (by decide) h.setTakes
  have h2 : Frame moveTakeFoot s s2 := by
    dsimp only [s2]
    refine .le (by decide) (.fold (g := moveTakeFoot) h1 fun s3 q h2 => ?_)
    split
    · exact .le (by decide) h2
    · exact .le (by decide) h2.setRoutes
  exact .le (by decide) (.fold h2 fun _ _ h3 => h3.supersedeSame)

def extendDomainFoot : Foot :=
  ⟨[.resp, .freeCtr, .sent, .host, .awl, .twl, .nim, .tks, .egr], .GLB_INT_SUM :: .EGR_INT_STAT :: .EGR_HEALTH_STAT ::
      .EGR_OTD_STAT :: .EGR_OUT_TAKE :: .NIM_INT_STAT :: .NIM_JRN_FREE :: .NIM_JRN_OPEN :: .NIM_CQ_LOST :: .NIM_CQ_TAIL ::
      .NIM_SVC_STAT :: (awlFoot ++ routeFoot)⟩

theorem Frame.extendDomain {d left} (h : Frame f s₀ s) : Frame (f.plus extendDomainFoot) s₀ (s.extendDomain d left) := by
  refine h.op (.refl _) fun h => ?_
  unfold State.extendDomain
  extract_lets s1 s2 s3
  have h1 : Frame extendDomainFoot s s1 := .le (by decide) h.realign
  have h2 : Frame extendDomainFoot s s2 := .le (by decide) h1.setFld
  have h3 : Frame extendDomainFoot s s3 := .le (by decide) h2.event
  split
  · exact .le (by decide) h3
  · exact .le (by decide) (.fold h3 fun _ _ h4 => h4.moveTake)

def flushFromFoot : Foot :=
  ⟨[.sent, .host, .nim], [.NIM_CQ_TAIL]⟩

theorem Frame.flushFrom {q l} (h : Frame f s₀ s) : Frame (f.plus flushFromFoot) s₀ (s.flushFrom q l) := by
  suffices hs : ∀ u, Frame flushFromFoot s u → Frame flushFromFoot s (u.flushFrom q l) from h.plus (hs s (.refl _ s))
  induction l with
  | nil => exact fun u hu => hu
  | cons e es ih => exact fun u hu => .le (by decide) (.branch (ih _ (.le (by decide) hu.updNim.writeCq)) (ih _ hu))

theorem Frame.moveAwl {m sev ev arg} (h : Frame f s₀ s) :
    Frame (f.plus ⟨[.sent, .host, .awl, .keep], .GLB_INT_SUM :: .RSL_STATUS :: .RSL_INT_STAT :: .RSL_FLASH_WEAR :: .AWL_SEQ_NEXT
    :: .AWL_OLDEST :: .AWL_COUNT :: .AWL_HEAD :: .AWL_OVERWRITTEN :: .SET_INT_STAT :: .SET_SECTORS :: awlFoot⟩) s₀ (s.moveAwl m
    sev ev arg) :=
  h.op (by decide) fun h => h.setFld.findHead.putRecord

theorem Frame.mramLogFails (h : Frame f s₀ s) :
    Frame (f.plus ⟨[.sent, .host, .awl, .keep], .GLB_INT_SUM :: .RSL_STATUS :: .RSL_INT_STAT :: .RSL_FLASH_WEAR :: .AWL_SEQ_NEXT
    :: .AWL_OLDEST :: .AWL_COUNT :: .AWL_HEAD :: .AWL_OVERWRITTEN :: .SET_INT_STAT :: .SET_SECTORS :: awlFoot⟩) s₀
    s.mramLogFails :=
  h.op (by decide) fun h => h.setAwl.irq.moveAwl

def writeOldestFoot : Foot :=
  ⟨[.sent, .host, .awl, .keep], .GLB_INT_SUM :: .GLB_INT_STAT :: .GLB_ALERT_STAT :: .RSL_STATUS :: .RSL_INT_STAT ::
      .RSL_FLASH_WEAR :: .AWL_SEQ_NEXT :: .AWL_OLDEST :: .AWL_COUNT :: .AWL_HEAD :: .AWL_OVERWRITTEN :: .SET_INT_STAT ::
      .SET_SECTORS :: awlFoot⟩

theorem Frame.writeOldest {ok} (h : Frame f s₀ s) : Frame (f.plus writeOldestFoot) s₀ (s.writeOldest ok) := by
  refine h.op (.refl _) fun h => ?_
  unfold State.writeOldest
  split
  · exact .le (by decide) h
  · exact .le (by decide) (.branch h.awlFull (.branch (.dropStaged (.putRecord (.branch h.setAwl h))) (.branch h.mramLogFails
      h.flashProgramFails)))

def flushStagedFoot : Foot :=
  ⟨[.sent, .host, .awl, .keep], .GLB_INT_SUM :: .GLB_INT_STAT :: .GLB_ALERT_STAT :: .RSL_STATUS :: .RSL_INT_STAT ::
      .RSL_FLASH_WEAR :: .AWL_SEQ_NEXT :: .AWL_OLDEST :: .AWL_COUNT :: .AWL_HEAD :: .AWL_OVERWRITTEN :: .SET_INT_STAT ::
      .SET_SECTORS :: awlFoot⟩

theorem Frame.flushStaged {n} (h : Frame f s₀ s) : Frame (f.plus flushStagedFoot) s₀ (s.flushStaged n) := by
  suffices hs : ∀ u, Frame flushStagedFoot s u → Frame flushStagedFoot s (u.flushStaged n) from h.plus (hs s (.refl _ s))
  induction n with
  | zero => exact fun u hu => hu
  | succ n ih => exact fun u hu => .le (by decide) (.branch hu (ih _ (.le (by decide) hu.writeOldest)))

theorem Frame.freeLatch (h : Frame f s₀ s) : Frame (f.plus ⟨[.freeCtr], [.AWL_RD_DATA]⟩) s₀ s.freeLatch :=
  h.op (by decide) fun h => .fold h fun _ _ h1 => h1.set.drawFree

theorem Frame.stepTo {k rate attempt} (h : Frame f s₀ s) :
    Frame (f.plus ⟨[.sent, .net], [.WLT_LK_STAT]⟩) s₀ (s.stepTo k rate attempt) :=
  h.op (by decide) fun h => .branch h.setLkState.setFld.setLink.emit h.setLkState.setFld.setLink

theorem Frame.identDone {k o} (h : Frame f s₀ s) :
    Frame (f.plus ⟨[.sent, .net], [.TWL_LK_STAT, .WLT_LK_STAT, .WLT_LK_PEER]⟩) s₀ (s.identDone k o) :=
  h.op (by decide) fun h => h.ageRecord.setFld.setFld.setFlag.setFld.setLink.stepTo

theorem Frame.takeFrame {n x} (h : Frame f s₀ s) (e : s.takeFrame n = some (x, t)) : Frame (f.plus ⟨[.ing], []⟩) s₀ t := by
  unfold State.takeFrame at e
  dsimp only at e
  split at e
  · cases e
    exact h.setInput
  · split at e
    · cases e
      exact h.setInput
    · exact nomatch e

def syncChooseFoot : Foot :=
  ⟨[.sent, .host, .awl, .ing], .GLB_INT_SUM :: .ING_INT_STAT :: .ING_LOSS_SUM :: .ING_IN_STAT :: .ING_IN_SLIP :: .ING_IN_LOSSCNT
      :: awlFoot⟩

theorem Frame.syncChoose {n} (h : Frame f s₀ s) : Frame (f.plus syncChooseFoot) s₀ (s.syncChoose n) := by
  refine h.op (.refl _) fun h => ?_
  unfold State.syncChoose
  extract_lets x safe hyst t step y s1
  have h1 : Frame syncChooseFoot s s1 := .le (by decide) (.branch h.slip.setInput h)
  refine .same (.le (by decide) h.setInput.showLast) (.same ?_ ?_)
  · exact .le (by decide) (.branch h.boundaryWithout (.branch h.setInput (.branch h.slip.showLast h.boundaryWithout)))
  · split
    · exact .le (by decide) h1.boundaryWithout
    · have ht := h1.takeFrame ‹_›
      exact .le (by decide) (.branch ht.boundaryWith ht.boundaryWithout)

def inputBoundaryFoot : Foot :=
  ⟨[.sent, .host, .awl, .ing], .GLB_INT_SUM :: .ING_POOL_USED :: .ING_INT_STAT :: .ING_LOSS_SUM :: .ING_IN_STAT :: .ING_IN_ALLOC
      :: .ING_IN_PHASE :: .ING_IN_SLIP :: .ING_IN_LOSSCNT :: awlFoot⟩

theorem Frame.inputBoundary {n d phase} (h : Frame f s₀ s) : Frame (f.plus inputBoundaryFoot) s₀ (s.inputBoundary n d phase) := by
  refine h.op (.refl _) fun h => ?_
  unfold State.inputBoundary
  extract_lets _ s1 _ s2 _ s3 s4 s5 _ s6 s7
  have h1 : Frame inputBoundaryFoot s s1 := .le (by decide) (.branch h.freeRing h)
  have h2 : Frame inputBoundaryFoot s s2 := .le (by decide) h1.setInput
  have h3 : Frame inputBoundaryFoot s s3 := .le (by decide) h2.setInput
  have h4 : Frame inputBoundaryFoot s s4 := .le (by decide) h3.setFlag
  have h5 : Frame inputBoundaryFoot s s5 := .le (by decide) h2.set
  have h6 : Frame inputBoundaryFoot s s6 := .le (by decide) (.branch h5.setInput.loseInput h5.setFlag)
  have h7 : Frame inputBoundaryFoot s s7 := .le (by decide) h6.applyPending
  exact .le (by decide) (.branch h1 (.branch h4.slip.showLast (.branch h2 (.branch h5.setInState.setInput (.branch h7.setInput
      (.branch h7.directBoundary h7.syncChoose))))))

theorem Frame.inputOff {n killed} (h : Frame f s₀ s) :
    Frame (f.plus ⟨[.ing], [.ING_STATUS, .ING_POOL_USED, .ING_LOSS_SUM, .ING_IN_STAT, .ING_IN_ALLOC]⟩) s₀ (s.inputOff n killed) :=
  h.op (by decide) fun h => .branch (.setFlag (.branch h.setInput.set.setFlag.setInState.freeRing
    h.setInput.set.setFlag.setInState)) (.branch h.setInput.set.setFlag.setInState.freeRing h.setInput.set.setFlag.setInState)

theorem Frame.inputsBoundary {d phases} (h : Frame f s₀ s) :
    Frame (f.plus ⟨[.sent, .host, .awl, .ing], .GLB_INT_SUM :: .ING_POOL_USED :: .ING_INT_STAT :: .ING_LOSS_SUM :: .ING_IN_STAT
    :: .ING_IN_ALLOC :: .ING_IN_PHASE :: .ING_IN_SLIP :: .ING_IN_LOSSCNT :: awlFoot⟩) s₀ (s.inputsBoundary d phases) :=
  h.op (by decide) fun h => .fold h fun _ _ h1 => h1.inputBoundary

theorem Frame.journalReplay {warm entries} (h : Frame f s₀ s) :
    Frame (f.plus ⟨[.sent, .host, .nim], [.GLB_INT_SUM, .BOOT_STAGE, .BOOT_TIME, .NIM_STATUS, .NIM_INT_STAT, .NIM_JRN_FREE,
    .NIM_JRN_OPEN, .NIM_REPLAY, .NIM_CORE_STAT, .NIM_CQ_TAIL, .NIM_Q_STAT, .NIM_Q_HWM]⟩) s₀ (s.journalReplay warm entries) :=
  h.op (by decide) fun h => .replayCheck (.showQueues (.showCores (.showJournal (.setFld (.setFld (.updNim (.fold (.fold
    h.setFlag fun _ _ h1 => .branch h1 h1.raiseHwm) fun _ _ h1 => h1.copyEntry)))))))

theorem Frame.killCore {c} (h : Frame f s₀ s) :
    Frame (f.plus ⟨[.freeCtr, .sent, .host, .awl, .twd], .GLB_INT_SUM :: .TWD_CORE_STAT :: .TWD_CORE_FLAGS :: awlFoot⟩) s₀
    (s.killCore c) :=
  h.op (by decide) fun h => .branch h h.setTwd.setFlag.setFld.awlUnstated

def killInputFoot : Foot :=
  ⟨[.ing], [.ING_STATUS, .ING_POOL_USED, .ING_LOSS_SUM, .ING_IN_STAT, .ING_IN_ALLOC, .TWD_IN_RES]⟩

theorem Frame.killInput {n} (h : Frame f s₀ s) : Frame (f.plus killInputFoot) s₀ (s.killInput n) := by
  refine h.op (.refl _) fun h => ?_
  unfold State.killInput
  extract_lets s1
  have h1 : Frame killInputFoot s s1 := by
    dsimp only [s1]
    split
    · exact .le (by decide) h
    · split
      · rename_i e
        exact .le (by decide) (h.reserveIn _ e)
      · exact .le (by decide) h
  exact .le (by decide) h1.inputOff

theorem Frame.uncarry {k} (h : Frame f s₀ s) : Frame (f.plus ⟨[.twl], [.TWL_LK_STAT, .WLT_LK_STAT]⟩) s₀ (s.uncarry k) :=
  h.op (by decide) fun h => h.setFld.set.updTwl

theorem Frame.linkFall {k reason loud} (h : Frame f s₀ s) :
    Frame (f.plus ⟨[.sent, .host, .awl, .twl, .net], .GLB_INT_SUM :: .TWL_LK_STAT :: .WLT_INT_STAT :: .WLT_LK_SRC :: .WLT_LK_STAT
    :: .WLT_LK_DOWNS :: awlFoot⟩) s₀ (s.linkFall k reason loud) :=
  h.op (by decide) fun h => .branch h.uncarry.set.setFld.count.setLink.noteLink.event h.uncarry.set.setFld.count.setLink

def shedFromFoot : Foot :=
  ⟨[.sent, .host, .awl, .twl], .GLB_INT_SUM :: .TWL_INT_STAT :: .TWL_LK_SHED :: awlFoot⟩

theorem Frame.shedFrom {k l} (h : Frame f s₀ s) : Frame (f.plus shedFromFoot) s₀ (s.shedFrom k l) := by
  suffices hs : ∀ u, Frame shedFromFoot s u → Frame shedFromFoot s (u.shedFrom k l) from h.plus (hs s (.refl _ s))
  induction l with
  | nil => exact fun u hu => hu
  | cons r rs ih =>
    exact fun u hu => .le (by decide) (.branch hu (.branch (ih _ hu) (ih _ (.le (by decide) hu.setStopped.count.event))))

theorem Frame.shedLink {k} (h : Frame f s₀ s) :
    Frame (f.plus ⟨[.sent, .host, .awl, .twl], .GLB_INT_SUM :: .TWL_INT_STAT :: .TWL_LK_SHED :: awlFoot⟩) s₀ (s.shedLink k) :=
  h.op (by decide) fun h => h.shedFrom

theorem Frame.laneFails {k j resent} (h : Frame f s₀ s) :
    Frame (f.plus ⟨[.freeCtr, .sent, .host, .awl, .twl, .net], .GLB_INT_SUM :: .TWL_INT_STAT :: .TWL_LK_STAT :: .TWL_LK_SHED ::
    .WLT_INT_STAT :: .WLT_LK_SRC :: .WLT_LK_STAT :: .WLT_LK_DOWNS :: .WLT_LK_DEGRADES :: .WLT_LK_REPLAY :: awlFoot⟩) s₀
    (s.laneFails k j resent) :=
  h.op (by decide) fun h => .branch h (.branch (.branch h.readdFails h) (.branch h.linkFall
    h.carry.setLink.count.count.emit.event.shedLink))

def laneQualFoot : Foot :=
  ⟨[.sent, .host, .awl, .egr, .asp], .GLB_INT_SUM :: .EGR_INT_STAT :: .EGR_HEALTH_STAT :: .ASP_INT_STAT :: .ASP_INT_SRC ::
      .ASP_TX_STAT :: .ASP_TX_FAULTS :: .ASP_RX_STAT :: .ASP_RX_FAULTS :: .LST_STATUS :: .LST_INT_STAT :: .LST_TB_STAT :: awlFoot⟩

theorem Frame.laneQual {synths} (h : Frame f s₀ s) : Frame (f.plus laneQualFoot) s₀ (s.laneQual synths) := by
  refine h.op (.refl _) fun h => ?_
  unfold State.laneQual
  extract_lets s1 _ _ s2
  have h1 : Frame laneQualFoot s s1 := .le (by decide) (.fold h fun _ _ h1 => .branch h1.setFlag.setFlag (.eachSect
      h1.setFlag.setFlag (fun _ _ _ h2 => .branch h2.aspFault h2)))
  have h2 : Frame laneQualFoot s s2 := .le (by decide) h1.setFlag
  exact .le (by decide) (.branch h2 (.branch h2.health h2.irq.health))

theorem Frame.linkComesUp {k m recId} (h : Frame f s₀ s) :
    Frame (f.plus ⟨[.sent, .host, .net], [.GLB_INT_SUM, .TWL_LK_STAT, .WLT_INT_STAT, .WLT_LK_SRC, .WLT_LK_STAT,
    .WLT_LK_BRINGUP]⟩) s₀ (s.linkComesUp k m recId) :=
  h.op (by decide) fun h => .branch h.setLkState.setFlag.setFld.carry.setLink.setFld.storeTrain.noteLink.irq.irq
    h.setLkState.setFlag.setFld.carry.setLink.setFld.storeTrain.noteLink.irq

theorem Frame.lkRecal {k j} (h : Frame f s₀ s) :
    Frame (f.plus ⟨[.resp, .net], [.TWL_LK_STAT, .WLT_LK_STAT]⟩) s₀ (s.lkRecal k j) :=
  h.op (by decide) fun h => .branch h.refuse h.carry.setLink.answer

theorem Frame.startIdent {k} (h : Frame f s₀ s) :
    Frame (f.plus ⟨[.sent, .twl, .net], [.TWL_LK_STAT, .WLT_LK_STAT]⟩) s₀ (s.startIdent k) :=
  h.op (by decide) fun h => h.uncarry.setLkState.setFld.setFld.setFlag.setFld.setLink.emit

theorem Frame.lkRetrain {k} (h : Frame f s₀ s) :
    Frame (f.plus ⟨[.resp, .sent, .twl, .net], [.TWL_LK_STAT, .WLT_LK_STAT]⟩) s₀ (s.lkRetrain k) :=
  h.op (by decide) fun h => .branch h.startIdent.answer h.refuse

theorem Frame.loadTrain {i t'} (h : Frame f s₀ s) :
    Frame (f.plus ⟨[.net], [.WLT_LANE_TXEQ, .WLT_LANE_DFE]⟩) s₀ (s.loadTrain i t') :=
  h.op (by decide) fun h => .fold h.set.setLane fun _ _ h1 => h1.set

theorem Frame.loadLink {k l} (h : Frame f s₀ s) : Frame (f.plus ⟨[.net], [.WLT_LANE_TXEQ, .WLT_LANE_DFE]⟩) s₀ (s.loadLink k l) :=
  h.op (by decide) fun h => .fold h fun _ _ h1 => h1.loadTrain

theorem Frame.refuseAtomic {t' st} (h : Frame f s₀ s) :
    Frame (f.plus ⟨[.resp, .sent, .host, .twl, .nim, .tks], .GLB_INT_SUM :: .EGR_OUT_TAKE :: .NIM_INT_STAT :: .NIM_JRN_FREE ::
    .NIM_JRN_OPEN :: .NIM_CQ_LOST :: .NIM_CQ_TAIL :: .NIM_SVC_STAT :: routeFoot⟩) s₀ (s.refuseAtomic t' st) :=
  h.op (by decide) fun h => .fold h fun _ _ h1 => h1.refuseTake

theorem Frame.refuseWhole {t' st} (h : Frame f s₀ s) :
    Frame (f.plus ⟨[.resp, .sent, .host, .twl, .nim, .tks], .GLB_INT_SUM :: .EGR_OUT_TAKE :: .NIM_INT_STAT :: .NIM_JRN_FREE ::
    .NIM_JRN_OPEN :: .NIM_CQ_LOST :: .NIM_CQ_TAIL :: .NIM_SVC_STAT :: routeFoot⟩) s₀ (s.refuseWhole t' st) :=
  h.op (by decide) fun h => .refuseTake (.branch h.refuseAtomic h)

theorem Frame.takesAlone (h : Frame f s₀ s) :
    Frame (f.plus ⟨[.resp, .sent, .host, .twl, .nim, .tks], .GLB_INT_SUM :: .EGR_OUT_TAKE :: .NIM_INT_STAT :: .NIM_JRN_FREE ::
    .NIM_JRN_OPEN :: .NIM_CQ_LOST :: .NIM_CQ_TAIL :: .NIM_SVC_STAT :: routeFoot⟩) s₀ s.takesAlone :=
  h.op (by decide) fun h => .fold h fun _ _ h1 => .branch h1.refuseWhole (.branch h1.setTake h1)

theorem Frame.losePartner {cause} (h : Frame f s₀ s) :
    Frame (f.plus ⟨[.resp, .sent, .host, .awl, .twl, .nim, .tks, .rsl], .GLB_INT_SUM :: .GLB_INT_STAT :: .GLB_ALERT_STAT ::
    .EGR_OUT_TAKE :: .NIM_STATUS :: .NIM_INT_STAT :: .NIM_PAIR_STAT :: .NIM_JRN_FREE :: .NIM_JRN_OPEN :: .NIM_ACCEPTED ::
    .NIM_CQ_LOST :: .NIM_CORE_STAT :: .NIM_CQ_TAIL :: .NIM_Q_STAT :: .NIM_Q_HWM :: .NIM_SVC_STAT :: .RSL_STATUS :: .RSL_INT_STAT
    :: .RSL_PAIR_STAT :: (awlFoot ++ routeFoot)⟩) s₀ (s.losePartner cause) :=
  h.op (by decide) fun h => .branch h
    h.setFld.setFlag.setFlag.setFlag.set.setFld.irq.setRsl.alarm.journalAlone.takesAlone.changeRole.showQueues.emit

def macInFoot : Foot :=
  ⟨[.sent, .host], [.GLB_INT_SUM, .NPT_INT_STAT, .NPT_RX_FRAMES, .NPT_RX_BYTES, .NPT_RX_FCS, .NPT_RX_LEN, .NPT_RX_TAG,
      .NPT_RX_ADDR, .NPT_RX_CSUM]⟩

theorem Frame.macIn {p fr k} (h : Frame f s₀ s) (hk : ∀ u, Frame .none u u → Frame g u (k u)) :
    Frame (f.plus (macInFoot.plus g)) s₀ (s.macIn p fr k) := by
  refine h.plus ?_
  unfold State.macIn
  extract_lets u
  have hu : Frame macInFoot s u := .le (by decide) (Frame.refl .none s).count.count
  have hc : ∀ {r i n}, r ∈ macInFoot.regs → Frame macInFoot s (u.count r i n) := fun hr => State.count_frame hu hr
  have hi : ∀ {r i n c}, r ∈ macInFoot.regs → c.blk = .NPT → Frame macInFoot s ((u.count r i n).irq c) := fun hr e =>
    State.irq_frame (hc hr) (by decide) (by rw [e]; decide)
  exact .same (hi (by decide) rfl).left (.same (hc (by decide)).left (.same (hc (by decide)).left (.same (hc (by decide)).left
    (.same (hi (by decide) rfl).left (hu.plus (hk u (.refl _ u)))))))

theorem Frame.mergeDir {ovf e'} (h : Frame f s₀ s) :
    Frame (f.plus ⟨[.sent, .host, .awl, .twl, .tks, .egr, .dir], .GLB_INT_SUM :: .TWL_INT_STAT :: .TWL_DIR_COUNT :: .TWL_DIR_OWN
    :: .TWL_DIR_OVF :: .TWL_DIR_CONFLICT :: .EGR_OUT_TAKE :: (awlFoot ++ routeFoot)⟩) s₀ (s.mergeDir ovf e') :=
  h.op (by decide) fun h => .branch (.branch h.dirLose h.dirLose.putDir) h.putDir

def mirrorRefusedFoot : Foot :=
  ⟨[.sent, .host, .nim], [.GLB_INT_SUM, .NIM_INT_STAT, .NIM_JRN_FREE, .NIM_JRN_OPEN, .NIM_REFUSED, .NIM_CORE_STAT, .NIM_CQ_TAIL,
      .NIM_Q_STAT, .NIM_Q_REFUSED]⟩

theorem Frame.mirrorRefused {k st} (h : Frame f s₀ s) : Frame (f.plus mirrorRefusedFoot) s₀ (s.mirrorRefused k st) := by
  refine h.op (.refl _) fun h => ?_
  unfold State.mirrorRefused
  split
  · exact .le (by decide) h
  · extract_lets s1 s2
    have h1 : Frame mirrorRefusedFoot s s1 := .le (by decide) h.dropEntry
    have h2 : Frame mirrorRefusedFoot s s2 := .le (by decide) h1.irq.count
    split
    · exact .le (by decide) h1.refusedOrder.showQueue
    · split
      · split
        · exact .le (by decide) h2.giveResult
        · exact .le (by decide) h2
      · exact .le (by decide) h1

theorem Frame.nextFrame {d} (h : Frame f s₀ s) :
    Frame (f.plus ⟨[.sent, .host, .egr], [.GLB_INT_SUM, .EGR_INT_STAT, .EGR_HEALTH_STAT, .EGR_OTD_FCNT, .EGR_OTD_STAT,
    .EGR_OUT_STAT]⟩) s₀ (s.nextFrame d) :=
  h.op (by decide) fun h => .branch h.setOtd.set.setFlag.setFlag.showMismatch.health h.setOtd.set

theorem Frame.outWrite {src r n k} (h : Frame f s₀ s) (hk : ∀ u, Frame .none u u → Frame g u (k u)) :
    Frame (f.plus (.plus ⟨[.host, .sent], r.shutRegs⟩ (.plus ⟨[.resp], []⟩ g))) s₀ (s.outWrite src r n k) := by
  refine h.guarded fun u hu => ?_
  split
  · exact .left (State.answer_frame (.refl _ u) List.mem_cons_self)
  · exact (hk u (.refl _ u)).le (Foot.within_right _ _)

def outputOffFoot : Foot :=
  ⟨[.sent, .host, .egr], [.GLB_INT_SUM, .EGR_STATUS, .EGR_INT_STAT, .EGR_HEALTH_STAT, .EGR_OUT_STAT, .EGR_VSND_STAT,
      .EGR_VSND_MISS, .TWD_OUT_RES]⟩

theorem Frame.outputOff {n killed} (h : Frame f s₀ s) : Frame (f.plus outputOffFoot) s₀ (s.outputOff n killed) := by
  refine h.op (.refl _) fun h => ?_
  unfold State.outputOff
  extract_lets s1 s2 _ s3 s4 s5 s6 s7
  have h1 : Frame outputOffFoot s s1 := by
    dsimp only [s1]
    split
    · rename_i e
      exact .le (by decide) (h.reserveOut _ e)
    · exact .le (by decide) h
  have h2 : Frame outputOffFoot s s2 := .le (by decide) h1.set
  have h3 : Frame outputOffFoot s s3 := .le (by decide) h2.setOut
  have h4 : Frame outputOffFoot s s4 := .le (by decide) (.fold h3 fun _ _ h4 => .setFlag (.setSender (.branch h4.count h4)))
  have h5 : Frame outputOffFoot s s5 := .le (by decide) (.fold h4 fun _ _ h5 => h5.setSender)
  have h6 : Frame outputOffFoot s s6 := .le (by decide) (.fold h5 fun _ _ h6 => h6.setSender)
  have h7 : Frame outputOffFoot s s7 := .le (by decide) (.branch h6.setFlag h6)
  exact .le (by decide) h7.health

theorem Frame.ownRefusal {t' st} (h : Frame f s₀ s) :
    Frame (f.plus ⟨[.resp, .sent, .host, .twl, .nim, .tks], .GLB_INT_SUM :: .EGR_OUT_TAKE :: .NIM_INT_STAT :: .NIM_JRN_FREE ::
    .NIM_JRN_OPEN :: .NIM_CQ_LOST :: .NIM_CQ_TAIL :: .NIM_SVC_STAT :: routeFoot⟩) s₀ (s.ownRefusal t' st) :=
  h.op (by decide) fun h => .branch h.tellPartner.setTake.dropRoute.showPending h.tellPartner.refuseWhole

theorem Frame.owned {op port session k} (h : Frame f s₀ s) (hk : ∀ u, Frame .none u u → Frame g u (k u)) :
    Frame (f.plus (.plus ⟨[.resp, .freeCtr, .sent, .upd], [.UPD_LOCK, .UPD_PKT_BUSY]⟩ g)) s₀ (s.owned op port session k) := by
  refine h.plus ?_
  unfold State.owned
  split
  · exact .left (.le (by decide) (Frame.refl .none s).updAnswer.drawFree)
  · split
    · exact .left (.le (by decide) (Frame.refl .none s).notOwner)
    · exact .plus (.le (by decide) (Frame.refl .none s).ownerSpoke) (hk _ (.refl _ _))

theorem Frame.showUse (h : Frame f s₀ s) : Frame (f.plus ⟨[], [.VMP_SURF_USE]⟩) s₀ s.showUse :=
  h.op (by decide) fun h => .fold h fun _ _ h1 => .branch h1 h1.setFld

def pipeBoundaryFoot : Foot :=
  ⟨[.sent, .host, .egr, .vmp], [.GLB_INT_SUM, .VMP_INT_STAT, .VMP_PIPE_STAT, .VMP_PIPE_APPLIED, .VMP_PIPE_PEND, .VMP_PIPE_NRDY,
      .VMP_PIPE_HELD, .VMP_LAYER_STAT, .VMP_SURF_USE]⟩

theorem Frame.pipeBoundary {v k} (h : Frame f s₀ s) : Frame (f.plus pipeBoundaryFoot) s₀ (s.pipeBoundary v k) := by
  refine h.op (.refl _) fun h => ?_
  unfold State.pipeBoundary
  extract_lets a x s1 z
  have h1 : Frame pipeBoundaryFoot s s1 := .le (by decide) h.applyCommit.setPipe
  have hz : Frame pipeBoundaryFoot s z.1 := .le (by decide) (Frame.fold_fst h1 fun _ _ h => h.drawLayer)
  exact .le (by decide) (.branch h (Frame.branch hz.layerFlag hz).showUse)

theorem Frame.pipeDrain {v} (h : Frame f s₀ s) : Frame (f.plus ⟨[.vmp], [.VMP_PIPE_STAT, .VMP_PIPE_PEND]⟩) s₀ (s.pipeDrain v) :=
  h.op (by decide) fun h => h.dropCommit.setFld

theorem Frame.pipeStop {v killed} (h : Frame f s₀ s) :
    Frame (f.plus ⟨[.vmp], [.VMP_STATUS, .VMP_BUDGET, .VMP_PIPE_CFG, .VMP_PIPE_STAT, .VMP_PIPE_PEND, .VMP_LAYER_STAT,
    .VMP_SURF_USE]⟩) s₀ (s.pipeStop v killed) :=
  h.op (by decide) fun h => .vmpIdle (.showUse (.setFlag (.setFlag (.setFld (.setFld (.fold h.dropCommit.setPipe fun _ _ h1
    => h1.set))))))

theorem Frame.pipeKill {v} (h : Frame f s₀ s) :
    Frame (f.plus ⟨[.sent, .host, .vmp], [.GLB_INT_SUM, .VMP_STATUS, .VMP_INT_STAT, .VMP_BUDGET, .VMP_PIPE_CFG, .VMP_PIPE_STAT,
    .VMP_PIPE_PEND, .VMP_LAYER_STAT, .VMP_SURF_USE]⟩) s₀ (s.pipeKill v) :=
  h.op (by decide) fun h => h.pipeStop.irq

theorem Frame.pipesBoundary {d} (h : Frame f s₀ s) :
    Frame (f.plus ⟨[.sent, .host, .egr, .vmp], [.GLB_INT_SUM, .VMP_INT_STAT, .VMP_PIPE_STAT, .VMP_PIPE_APPLIED, .VMP_PIPE_PEND,
    .VMP_PIPE_NRDY, .VMP_PIPE_HELD, .VMP_LAYER_STAT, .VMP_SURF_USE]⟩) s₀ (s.pipesBoundary d) :=
  h.op (by decide) fun h => .fold h fun _ _ h1 => h1.pipeBoundary

theorem Frame.placeCell {p q h'} (h : Frame f s₀ s) : Frame (f.plus ⟨[.twl], [.TWL_AQ_STAT]⟩) s₀ (s.placeCell p q h') :=
  h.op (by decide) fun h => h.setPort.setQueue

theorem Frame.powerFail {records} (h : Frame f s₀ s) :
    Frame (f.plus ⟨[.sent, .host, .awl, .keep], .GLB_INT_SUM :: .GLB_INT_STAT :: .GLB_ALERT_STAT :: .RSL_STATUS :: .RSL_INT_STAT
    :: .RSL_FLASH_WEAR :: .AWL_CTRL :: .AWL_SEQ_NEXT :: .AWL_OLDEST :: .AWL_COUNT :: .AWL_HEAD :: .AWL_OVERWRITTEN ::
    .SET_INT_STAT :: .SET_SECTORS :: awlFoot⟩) s₀ (s.powerFail records) :=
  h.op (by decide) fun h => h.writeCounters.setFrozen.setAwl.flushStaged

theorem Frame.stepDomains {k left} (h : Frame f s₀ s) :
    Frame (f.plus ⟨[.resp, .freeCtr, .sent, .host, .awl, .twl, .nim, .tks, .egr], .GLB_INT_SUM :: .EGR_INT_STAT ::
    .EGR_HEALTH_STAT :: .EGR_OTD_STAT :: .EGR_OUT_TAKE :: .NIM_INT_STAT :: .NIM_JRN_FREE :: .NIM_JRN_OPEN :: .NIM_CQ_LOST ::
    .NIM_CQ_TAIL :: .NIM_SVC_STAT :: (awlFoot ++ routeFoot)⟩) s₀ (s.stepDomains k left) :=
  h.op (by decide) fun h => .fold h fun _ _ h1 => h1.extendDomain

def trgFireFoot : Foot :=
  ⟨[.sent, .host, .ntm], [.GLB_INT_SUM, .NTM_INT_STAT, .NTM_TRG_SRC]⟩

theorem Frame.trgFire {t'} (h : Frame f s₀ s) : Frame (f.plus trgFireFoot) s₀ (s.trgFire t') := by
  refine h.op (.refl _) fun h => ?_
  unfold State.trgFire
  extract_lets _ _ s1 s2
  have h1 : Frame trgFireFoot s s1 := by
    dsimp only [s1]
    split
    · exact .le (by decide) h.setGpio
    · exact .le (by decide) h.setGpio
    · exact .le (by decide) h.setGpio
    · exact .le (by decide) h.setGpio.setTrg
    · exact .le (by decide) h
  have h2 : Frame trgFireFoot s s2 := .le (by decide) h1.setFld
  exact .le (by decide) (.branch h2.irq h2)

def trgLateFoot : Foot :=
  ⟨[.sent, .host, .ntm], [.GLB_INT_SUM, .NTM_STATUS, .NTM_INT_STAT, .NTM_TRG_SRC, .NTM_TRG_CFG, .NTM_TRG_STAT, .NTM_TRG_T,
      .NTM_TRG_LATE, .NTM_TRG_MISSED]⟩

theorem Frame.trgLate {t' now} (h : Frame f s₀ s) : Frame (f.plus trgLateFoot) s₀ (s.trgLate t' now) := by
  refine h.op (.refl _) fun h => ?_
  unfold State.trgLate
  extract_lets _ _ s1 s2 s3
  have h1 : Frame trgLateFoot s s1 := .le (by decide) h.set
  have h2 : Frame trgLateFoot s s2 := .le (by decide) h1.setFlag.irq
  have h3 : Frame trgLateFoot s s3 := .le (by decide) h2.setFld.count
  split
  · exact .le (by decide) h.setFlag
  · split
    · exact .le (by decide) h3.trgFire.trgPass
    · exact .le (by decide) h3.trgPass
    · exact .le (by decide) h3.trgShift

theorem Frame.stepTb {k t'} (h : Frame f s₀ s) :
    Frame (f.plus ⟨[.resp, .freeCtr, .sent, .tb, .host, .awl, .twl, .nim, .tks, .egr, .ntm], .GLB_INT_SUM :: .EGR_INT_STAT ::
    .EGR_HEALTH_STAT :: .EGR_OTD_STAT :: .EGR_OUT_TAKE :: .NIM_INT_STAT :: .NIM_JRN_FREE :: .NIM_JRN_OPEN :: .NIM_CQ_LOST ::
    .NIM_CQ_TAIL :: .NIM_SVC_STAT :: .NTM_STATUS :: .NTM_INT_STAT :: .NTM_TRG_SRC :: .NTM_TB_STEPS :: .NTM_TRG_CFG ::
    .NTM_TRG_STAT :: .NTM_TRG_T :: .NTM_TRG_LATE :: .NTM_TRG_MISSED :: (awlFoot ++ routeFoot)⟩) s₀ (s.stepTb k t') :=
  h.op (by decide) fun h => .branch (.fold (.fold h.setTb.count.event.stepDomains fun _ _ h1 => .branch h1.setCap h1) fun _ _ h1
    => .branch h1.trgLate h1) (.fold h.setTb.count.event.stepDomains fun _ _ h1 => .branch h1.setCap h1)

theorem Frame.srvStep {k off} (h : Frame f s₀ s) :
    Frame (f.plus ⟨[.resp, .freeCtr, .sent, .tb, .host, .awl, .twl, .nim, .tks, .egr, .ntm], .GLB_INT_SUM :: .EGR_INT_STAT ::
    .EGR_HEALTH_STAT :: .EGR_OTD_STAT :: .EGR_OUT_TAKE :: .NIM_INT_STAT :: .NIM_JRN_FREE :: .NIM_JRN_OPEN :: .NIM_CQ_LOST ::
    .NIM_CQ_TAIL :: .NIM_SVC_STAT :: .NTM_STATUS :: .NTM_INT_STAT :: .NTM_TRG_SRC :: .NTM_TB_STEPS :: .NTM_TRG_CFG ::
    .NTM_TRG_STAT :: .NTM_TRG_T :: .NTM_TRG_LATE :: .NTM_TRG_MISSED :: (awlFoot ++ routeFoot)⟩) s₀ (s.srvStep k off) :=
  h.op (by decide) fun h => .branch h.stepTb h

theorem Frame.srvCount {k off} (h : Frame f s₀ s) :
    Frame (f.plus ⟨[.sent, .host, .awl, .lst, .ntm], .GLB_INT_SUM :: .LST_VALID :: .LST_QUAL :: .LST_INT_STAT :: .LST_REF_STAT ::
    .LST_REF_LOSS :: .NTM_INT_STAT :: .NTM_SRV_STAT :: awlFoot⟩) s₀ (s.srvCount k off) :=
  h.op (by decide) fun h => .branch h.setServo.setServo.enterSrv.irq (.branch h.setServo.enterSrv.event h.setServo)

def srvSampleFoot : Foot :=
  ⟨[.resp, .freeCtr, .sent, .tb, .host, .awl, .twl, .nim, .tks, .egr, .lst, .ntm], .GLB_INT_SUM :: .EGR_INT_STAT ::
      .EGR_HEALTH_STAT :: .EGR_OTD_STAT :: .EGR_OUT_TAKE :: .NIM_INT_STAT :: .NIM_JRN_FREE :: .NIM_JRN_OPEN :: .NIM_CQ_LOST ::
      .NIM_CQ_TAIL :: .NIM_SVC_STAT :: .LST_VALID :: .LST_QUAL :: .LST_INT_STAT :: .LST_REF_STAT :: .LST_REF_LOSS :: .LST_TB_STAT
      :: .NTM_STATUS :: .NTM_INT_STAT :: .NTM_TRG_SRC :: .NTM_TB_STAT :: .NTM_TB_STEPS :: .NTM_SRV_STAT :: .NTM_SRV_OFFSET ::
      .NTM_SRV_SAMPLES :: .NTM_TRG_CFG :: .NTM_TRG_STAT :: .NTM_TRG_T :: .NTM_TRG_LATE :: .NTM_TRG_MISSED :: (awlFoot ++
      routeFoot)⟩

theorem Frame.srvSample {k off master} (h : Frame f s₀ s) : Frame (f.plus srvSampleFoot) s₀ (s.srvSample k off master) := by
  refine h.op (.refl _) fun h => ?_
  unfold State.srvSample
  extract_lets st s1 s2 s3
  have h2 : Frame srvSampleFoot s s2 := .le (by decide) h.count.set
  have h3 : Frame srvSampleFoot s s3 := by
    dsimp only [s3]
    split <;> exact .le (by decide) h2.startTb
  have h4 : Frame srvSampleFoot s ((s2.srvStep k off).drawRk k) := .le (by decide) h2.srvStep.drawRk
  exact .same (.le (by decide) h) (.same (.le (by decide) h3.drawRk.enterSrv)
    (.same (.le (by decide) h4.enterSrv) (.le (by decide) h4.srvCount)))

theorem Frame.syncTimes {k p t1 t2} (h : Frame f s₀ s) :
    Frame (f.plus ⟨[.resp, .freeCtr, .sent, .tb, .host, .awl, .twl, .nim, .tks, .egr, .lst, .ntm], .GLB_INT_SUM :: .EGR_INT_STAT
    :: .EGR_HEALTH_STAT :: .EGR_OTD_STAT :: .EGR_OUT_TAKE :: .NIM_INT_STAT :: .NIM_JRN_FREE :: .NIM_JRN_OPEN :: .NIM_CQ_LOST ::
    .NIM_CQ_TAIL :: .NIM_SVC_STAT :: .LST_VALID :: .LST_QUAL :: .LST_INT_STAT :: .LST_REF_STAT :: .LST_REF_LOSS :: .LST_TB_STAT
    :: .NTM_STATUS :: .NTM_INT_STAT :: .NTM_TRG_SRC :: .NTM_TB_STAT :: .NTM_TB_STEPS :: .NTM_SRV_STAT :: .NTM_SRV_OFFSET ::
    .NTM_SRV_SAMPLES :: .NTM_TRG_CFG :: .NTM_TRG_STAT :: .NTM_TRG_T :: .NTM_TRG_LATE :: .NTM_TRG_MISSED :: (awlFoot ++
    routeFoot)⟩) s₀ (s.syncTimes k p t1 t2) :=
  h.op (by decide) fun h => .branch h.setPtpPort h.setPtpPort.srvSample

def ptpConsumeFoot : Foot :=
  ⟨[.resp, .freeCtr, .sent, .tb, .host, .awl, .twl, .nim, .tks, .egr, .lst, .ntm, .net], .GLB_INT_SUM :: .EGR_INT_STAT ::
      .EGR_HEALTH_STAT :: .EGR_OTD_STAT :: .EGR_OUT_TAKE :: .NIM_INT_STAT :: .NIM_JRN_FREE :: .NIM_JRN_OPEN :: .NIM_CQ_LOST ::
      .NIM_CQ_TAIL :: .NIM_SVC_STAT :: .LST_VALID :: .LST_QUAL :: .LST_INT_STAT :: .LST_REF_STAT :: .LST_REF_LOSS :: .LST_TB_STAT
      :: .NTM_STATUS :: .NTM_INT_STAT :: .NTM_TRG_SRC :: .NTM_TB_STAT :: .NTM_TB_STEPS :: .NTM_SRV_STAT :: .NTM_SRV_OFFSET ::
      .NTM_SRV_SAMPLES :: .NTM_SRV_REJECT :: .NTM_PORT_STAT :: .NTM_PORT_MPD :: .NTM_PORT_RXMSG :: .NTM_PORT_TXMSG ::
      .NTM_TRG_CFG :: .NTM_TRG_STAT :: .NTM_TRG_T :: .NTM_TRG_LATE :: .NTM_TRG_MISSED :: (awlFoot ++ routeFoot)⟩

theorem Frame.ptpConsume {k p m} (h : Frame f s₀ s) : Frame (f.plus ptpConsumeFoot) s₀ (s.ptpConsume k p m) := by
  refine h.op (.refl _) fun h => ?_
  unfold State.ptpConsume
  extract_lets _ _ _ _ _ s1 s2
  have h1 : Frame ptpConsumeFoot s s1 := .le (by decide) h.count
  have h2 : Frame ptpConsumeFoot s s2 := .le (by decide) h.ptpSend
  split
  · exact .le (by decide) (.branch h (.branch h1 (.branch h.setPtpPort h.syncTimes)))
  · split
    · exact .le (by decide) (.branch h.syncTimes h)
    · exact .le (by decide) h
  · exact .le (by decide) (.branch h.ptpSend (.branch h1 h))
  · split
    · exact .le (by decide) (.branch h.exchange h)
    · exact .le (by decide) h
  · exact .le (by decide) (.branch h2 h2.ptpSend)
  · split
    · exact .le (by decide) (.branch h (.branch h.setPtpPort h.exchange))
    · exact .le (by decide) h
  · split
    · exact .le (by decide) (.branch h.exchange h)
    · exact .le (by decide) h
  · exact .le (by decide) (.branch h.setFlag h)
  · exact .le (by decide) h

def readCapFoot : Foot :=
  ⟨[.rdata, .ntm], [.NTM_CAP_STAT, .NTM_CAP_HI]⟩

theorem Frame.readCap {c} (h : Frame f s₀ s) : Frame (f.plus readCapFoot) s₀ (s.readCap c) := by
  refine h.op (.refl _) fun h => ?_
  unfold State.readCap
  extract_lets
  split
  · exact .le (by decide) h.updRdata
  · exact .le (by decide) h.set.setCap.showCap.updRdata

def receiveAncFoot : Foot :=
  ⟨[.sent, .host, .ing], [.GLB_INT_SUM, .ING_INT_STAT, .ING_SDI_ANCDROP, .ING_SDI_AUDGRP]⟩

theorem Frame.receiveAnc {n m deembed p} (h : Frame f s₀ s) : Frame (f.plus receiveAncFoot) s₀ (s.receiveAnc n m deembed p) := by
  refine h.op (.refl _) fun h => ?_
  unfold State.receiveAnc
  extract_lets s1
  have h1 : Frame receiveAncFoot s s1 := by
    dsimp only [s1]
    split
    · exact .le (by decide) (.branch h.setFld h)
    · exact .le (by decide) h
  exact .le (by decide) (.branch (.branch h1.count (.branch h1.setInput h1.count.irq)) h1)

theorem Frame.takeUpdate {u ovf} (h : Frame f s₀ s) :
    Frame (f.plus ⟨[.sent, .host, .awl, .twl, .tks, .egr, .dir], .GLB_INT_SUM :: .TWL_INT_STAT :: .TWL_DIR_COUNT :: .TWL_DIR_OWN
    :: .TWL_DIR_OVF :: .TWL_DIR_CONFLICT :: .EGR_OUT_TAKE :: (awlFoot ++ routeFoot)⟩) s₀ (s.takeUpdate u ovf) :=
  h.op (by decide) fun h => h.applyDir.setDirs.emit

def takeHeldFoot : Foot :=
  ⟨[.sent, .host, .awl, .twl, .tks, .egr, .dir], .GLB_INT_SUM :: .TWL_INT_STAT :: .TWL_DIR_COUNT :: .TWL_DIR_OWN :: .TWL_DIR_OVF
      :: .TWL_DIR_CONFLICT :: .EGR_OUT_TAKE :: (awlFoot ++ routeFoot)⟩

theorem Frame.takeHeld {n} (h : Frame f s₀ s) : Frame (f.plus takeHeldFoot) s₀ (s.takeHeld n) := by
  suffices hs : ∀ u, Frame takeHeldFoot s u → Frame takeHeldFoot s (u.takeHeld n) from h.plus (hs s (.refl _ s))
  induction n with
  | zero => exact fun u hu => hu
  | succ n ih =>
    intro u hu
    unfold State.takeHeld
    split
    · exact hu
    · exact ih _ (.le (by decide) hu.setDirs.takeUpdate)

theorem Frame.receiveUpdate {u ovf} (h : Frame f s₀ s) :
    Frame (f.plus ⟨[.sent, .host, .awl, .twl, .tks, .egr, .dir], .GLB_INT_SUM :: .TWL_INT_STAT :: .TWL_DIR_COUNT :: .TWL_DIR_OWN
    :: .TWL_DIR_OVF :: .TWL_DIR_LAG :: .TWL_DIR_CONFLICT :: .EGR_OUT_TAKE :: (awlFoot ++ routeFoot)⟩) s₀ (s.receiveUpdate u
    ovf) :=
  h.op (by decide) fun h => .branch h.takeUpdate.takeHeld.showLag (.branch h.setDirs.emit.showLag h)

theorem Frame.reconfigure {d k} (h : Frame f s₀ s) (hk : ∀ u, Frame .none u u → Frame g u (k u)) :
    Frame (f.plus (.plus g ⟨[.sent, .host, .egr], [.GLB_INT_SUM, .EGR_INT_STAT, .EGR_HEALTH_STAT, .EGR_OTD_STAT]⟩)) s₀
        (s.reconfigure d k) :=
  h.plus (.plus (hk s (.refl _ s)) (.le (by decide) (Frame.refl .none (k s)).realign))

theorem Frame.refit (h : Frame f s₀ s) : Frame (f.plus ⟨[.lst], [.LST_STATUS, .LST_AGE]⟩) s₀ s.refit :=
  h.op (by decide) fun h => .branch h.setLst h.setSigned.setSigned.setFld.setLst.setFlag

theorem Frame.refuseRequest {req st} (h : Frame f s₀ s) :
    Frame (f.plus ⟨[.resp, .sent, .host, .twl, .nim, .tks, .egr], .GLB_INT_SUM :: .EGR_OUT_TAKE :: .NIM_INT_STAT :: .NIM_JRN_FREE
    :: .NIM_JRN_OPEN :: .NIM_CQ_LOST :: .NIM_CQ_TAIL :: .NIM_SVC_STAT :: routeFoot⟩) s₀ (s.refuseRequest req st) :=
  h.op (by decide) fun h => .answer (.fold (.fold h.release fun _ _ h1 => .branch h1.ownRefusal h1) fun _ _ h1 => .branch
    h1.setOut h1)

theorem Frame.rejoin (h : Frame f s₀ s) :
    Frame (f.plus ⟨[], [.NIM_STATUS, .NIM_Q_STAT, .RSL_STATUS, .RSL_FENCE_STAT]⟩) s₀ s.rejoin :=
  h.op (by decide) fun h => h.setFlag.set.setFlag.showQueues

theorem Frame.releaseSpare (h : Frame f s₀ s) :
    Frame (f.plus ⟨[.resp, .sent, .host, .twl, .nim, .tks, .boot], .GLB_CHIP :: .GLB_INT_SUM :: .TWL_LK_STAT :: .EGR_OUT_CFG ::
    .EGR_OUT_TAKE :: .EGR_OUT_STAT :: .NIM_INT_STAT :: .NIM_PAIR_CFG :: .NIM_PAIR_STAT :: .NIM_JRN_FREE :: .NIM_JRN_OPEN ::
    .NIM_CQ_LOST :: .NIM_CQ_TAIL :: .NIM_SVC_STAT :: .WLT_LK_STAT :: .RSL_STATUS :: .RSL_SPARE_STAT :: .INS_STATE :: .INS_CLK_REQ
    :: .INS_CLK_RUN :: routeFoot⟩) s₀ s.releaseSpare :=
  h.op (by decide) fun h => .emit (.enterSpare (.setFld (.setFlag (.setFld (.set (.setFld (.fold h fun _ _ h1
    => h1.drainOutput.setFlag)))))))

def settleFoot : Foot :=
  ⟨[.twl], routeFoot⟩

theorem Frame.settle {req} (h : Frame f s₀ s) : Frame (f.plus settleFoot) s₀ (s.settle req) := by
  refine h.op (.refl _) fun h => ?_
  unfold State.settle
  split
  · exact .le (by decide) h
  · exact .le (by decide) (.deliver (.showRoute (.fold h.setRoutes fun _ _ h1 => h1.calWrite)))

def replaceRouteFoot : Foot :=
  ⟨[.sent, .host, .awl, .twl], .GLB_INT_SUM :: (awlFoot ++ routeFoot)⟩

theorem Frame.replaceRoute {p r} (h : Frame f s₀ s) : Frame (f.plus replaceRouteFoot) s₀ (s.replaceRoute p r) := by
  refine h.op (.refl _) fun h => ?_
  unfold State.replaceRoute
  extract_lets s1
  have h1 : Frame replaceRouteFoot s s1 := .le (by decide) h.release
  split
  · exact .le (by decide) h1.awlFabric
  · split
    · exact .le (by decide) h1.awlFabric
    · exact .le (by decide) (.branch h1.updTwl.settle h1.updTwl)

def rerouteTakeFoot : Foot :=
  ⟨[.twl, .tks], .TWL_ADMIT_REFUSED :: routeFoot⟩

theorem Frame.rerouteTake {t' v} (h : Frame f s₀ s) : Frame (f.plus rerouteTakeFoot) s₀ (s.rerouteTake t' v) := by
  refine h.op (.refl _) fun h => ?_
  unfold State.rerouteTake
  split
  · exact .le (by decide) h
  · extract_lets s1 _ s2
    have h1 : Frame rerouteTakeFoot s s1 := by
      dsimp only [s1]
      split
      · exact .le (by decide) h.release
      · exact .le (by decide) h
    have h2 : Frame rerouteTakeFoot s s2.1 := .le (by decide) h1.requestRoute
    clear_value s2
    exact .le (by decide) h2.setTake

def returnPostedFoot : Foot :=
  ⟨[.sent, .net], [.NPT_RXR_HEAD]⟩

theorem Frame.returnPosted {r n} (h : Frame f s₀ s) : Frame (f.plus returnPostedFoot) s₀ (s.returnPosted r n) := by
  suffices hs : ∀ u, Frame returnPostedFoot s u → Frame returnPostedFoot s (u.returnPosted r n) from h.plus (hs s (.refl _ s))
  induction n with
  | zero => exact fun u hu => hu
  | succ n ih => exact fun u hu => ih _ (.le (by decide) hu.rxDescOut)

def routeRetryFoot : Foot :=
  ⟨[.sent, .twl, .tks, .egr], [.TWL_ADMIT_REFUSED, .EGR_OUT_TAKE]⟩

theorem Frame.routeRetry {n v} (h : Frame f s₀ s) : Frame (f.plus routeRetryFoot) s₀ (s.routeRetry n v) := by
  refine h.op (.refl _) fun h => ?_
  unfold State.routeRetry
  split
  · exact .le (by decide) h
  · extract_lets _ _ s1
    have h1 : Frame routeRetryFoot s s1.1 := .le (by decide) h.requestRoute
    clear_value s1
    split
    · exact .le (by decide) h1
    · exact .le (by decide) (.branch h1.setOut.routeReady h1.setOut)

theorem Frame.samplesStop {k} (h : Frame f s₀ s) :
    Frame (f.plus ⟨[.freeCtr, .sent, .host, .awl, .lst, .ntm], .GLB_INT_SUM :: .LST_VALID :: .LST_QUAL :: .LST_INT_STAT ::
    .LST_REF_STAT :: .LST_REF_LOSS :: .LST_TB_STAT :: .NTM_INT_STAT :: .NTM_SRV_STAT :: awlFoot⟩) s₀ (s.samplesStop k) :=
  h.op (by decide) fun h => .branch h.holdRk.enterSrv.event h

def sendArbFoot : Foot :=
  ⟨[.sent, .host, .twl], [.GLB_INT_SUM, .TWL_INT_STAT, .TWL_HOP_DROP, .TWL_NO_ROUTE, .TWL_SP_CELLS_IN, .TWL_LK_FWD,
      .TWL_LK_TX_CELLS, .TWL_AQ_STAT]⟩

theorem Frame.sendArb {p q a} (h : Frame f s₀ s) : Frame (f.plus sendArbFoot) s₀ (s.sendArb p q a) := by
  refine h.op (.refl _) fun h => ?_
  unfold State.sendArb
  split
  · exact .le (by decide) h
  · extract_lets s1 _ s2 s3
    have h1 : Frame sendArbFoot s s1 := .le (by decide) h.setQueue
    have h2 : Frame sendArbFoot s s2 := by
      dsimp only [s2]
      split
      · exact .le (by decide) h1
      · exact .le (by decide) h1.setQueue.placeCell
    have h3 : Frame sendArbFoot s s3 := .le (by decide) h2.count
    exact .le (by decide) (.branch h3.setPort h3.updTwl.relayArb)

def sendCtrlFoot : Foot :=
  ⟨[.sent, .net], [.NPT_TX_FRAMES, .NPT_TX_BYTES]⟩

theorem Frame.sendCtrl {p fr rest} (h : Frame f s₀ s) : Frame (f.plus sendCtrlFoot) s₀ (s.sendCtrl p fr rest) := by
  refine h.op (.refl _) fun h => ?_
  unfold State.sendCtrl
  extract_lets _ s1 s2
  have h1 : Frame sendCtrlFoot s s1 := .le (by decide) h.setNetPort
  have h2 : Frame sendCtrlFoot s s2 := .le (by decide) h1.countTx
  split <;> exact .le (by decide) h2.emit

theorem Frame.sendMedia {p c h'} (h : Frame f s₀ s) :
    Frame (f.plus ⟨[.sent, .host, .twl], [.GLB_INT_SUM, .TWL_INT_STAT, .TWL_HOP_DROP, .TWL_NO_ROUTE, .TWL_SP_CELLS_IN,
    .TWL_LK_FWD, .TWL_LK_TX_CELLS, .TWL_ST_CELLS]⟩) s₀ (s.sendMedia p c h') :=
  h.op (by decide) fun h => .branch h.setPort.count.count h.setPort.count.count.replicate

def sendPtpFoot : Foot :=
  ⟨[.sent, .host, .net], [.GLB_INT_SUM, .NTM_INT_STAT, .NTM_PHY_TXABORT, .NPT_TX_FRAMES, .NPT_TX_BYTES]⟩

theorem Frame.sendPtp {p fr rest onTime bytes} (h : Frame f s₀ s) :
    Frame (f.plus sendPtpFoot) s₀ (s.sendPtp p fr rest onTime bytes) := by
  refine h.op (.refl _) fun h => ?_
  unfold State.sendPtp
  split
  · exact .le (by decide) h.setNetPort.txAbort
  · extract_lets _ s1
    have h1 : Frame sendPtpFoot s s1 := .le (by decide) h.setNetPort.countTx
    split <;> exact .le (by decide) h1.emit

def senderBoundaryFoot : Foot :=
  ⟨[.twl, .egr], .EGR_VSND_STAT :: routeFoot⟩

theorem Frame.senderBoundary {d} (h : Frame f s₀ s) : Frame (f.plus senderBoundaryFoot) s₀ (s.senderBoundary d) := by
  refine h.op (.refl _) fun h => ?_
  unfold State.senderBoundary
  extract_lets s1
  have h1 : Frame senderBoundaryFoot s s1 := by
    refine .le (by decide) (.fold (g := senderBoundaryFoot) h fun u e hu => ?_)
    split
    · exact .le (by decide) hu
    · split
      · exact .le (by decide) hu.senderOff.dropRoute
      · refine .le (by decide) (.setSender (f := senderBoundaryFoot) ?_)
        split
        · exact .le (by decide) hu
        · exact .le (by decide) (.branch hu.setSender.dropRoute hu)
  exact .le (by decide) (.fold h1 fun _ _ h2 => .branch h2 (.branch h2.senderOff h2.setSender))

def setAsndFoot : Foot :=
  ⟨[.resp, .egr], [.EGR_VSND_STAT, .TWD_OUT_RES]⟩

theorem Frame.setAsnd {i cfg fmt k} (h : Frame f s₀ s) (hk : ∀ u, Frame .none u u → Frame g u (k u)) :
    Frame (f.plus (setAsndFoot.plus g)) s₀ (s.setAsnd i cfg fmt k) := by
  refine h.plus ?_
  have hr : ∀ st, Frame (setAsndFoot.plus g) s (s.refuse st) := fun st => .left (.le (by decide) (Frame.refl .none s).refuse)
  unfold State.setAsnd
  extract_lets
  split
  · exact hr _
  · split
    · exact hr _
    · rename_i t e
      have ht : Frame (setAsndFoot.plus g) s (k t) := .plus (.le (by decide) ((Frame.refl .none s).reserveOut t e)) (hk t
          (.refl _ t))
      have hl : ∀ {u}, Frame setAsndFoot (k t) u → Frame (setAsndFoot.plus g) s u := fun hu => ht.trans hu.left
      exact .same (hl (.le (by decide) (Frame.refl .none (k t)).stopSender)) (.same (hr _) (.same (hr _) (.same (hr _) (.same (hr
          _)
        (.same (hl (.le (by decide) (Frame.refl .none (k t)).runSender)) (hr _))))))

theorem Frame.setSpare {quad spare v} (h : Frame f s₀ s) :
    Frame (f.plus ⟨[], [.TWL_SPARE_MAP]⟩) s₀ (s.setSpare quad spare v) := by
  unfold State.setSpare
  split
  · exact h.setFld
  · exact h.setFld

def showEyeFoot : Foot :=
  ⟨[.sent, .host, .net], [.GLB_INT_SUM, .WLT_INT_STAT, .WLT_LK_SRC, .WLT_LANE_EYE, .WLT_LANE_DFE, .WLT_LANE_ERR,
      .WLT_LANE_FEC_UNC, .WLT_LANE_PRBS_ERR]⟩

theorem Frame.showEye {i o} (h : Frame f s₀ s) : Frame (f.plus showEyeFoot) s₀ (s.showEye i o) := by
  refine h.op (.refl _) fun h => ?_
  unfold State.showEye
  extract_lets s1 _ s2 s3 s4 s5
  have h1 : Frame showEyeFoot s s1 := .le (by decide) h.setFld.setFld
  have h2 : Frame showEyeFoot s s2 := .le (by decide) (.branch h1.setLane h1)
  have h3 : Frame showEyeFoot s s3 := .le (by decide) (.branch h2 (.fold h2 fun _ _ h3 => h3.set))
  have h4 : Frame showEyeFoot s s4 := .le (by decide) (.branch h3 h3.count)
  have h5 : Frame showEyeFoot s s5 := .le (by decide) (.branch h4.count h4)
  exact .le (by decide) (.branch h5.count.noteLane.irq h5)

theorem Frame.showSnap {x} (h : Frame f s₀ s) :
    Frame (f.plus ⟨[], [.SET_STATUS, .SET_SNAP_SEQ, .SET_SNAP_OPSEC, .SET_SNAP_LEN, .SET_PAIR_FMT]⟩) s₀ (s.showSnap x) :=
  h.op (by decide) fun h => h.set.set.set.setFlag.setFld.setFld

theorem Frame.spareFailed {u x} (h : Frame f s₀ s) :
    Frame (f.plus ⟨[.rsl], [.RSL_UNIT_STAT, .RSL_PHYS_STAT]⟩) s₀ (s.spareFailed u x) :=
  h.op (by decide) fun h => h.setFld.setFld.updRsl.setFld.setFld

theorem Frame.startDomain {d} (h : Frame f s₀ s) :
    Frame (f.plus ⟨[.sent, .host, .egr], [.GLB_INT_SUM, .EGR_INT_STAT, .EGR_HEALTH_STAT, .EGR_OTD_FCNT, .EGR_OTD_STAT]⟩) s₀
    (s.startDomain d) :=
  h.op (by decide) fun h => h.setOtd.set.setFlag.setFlag.health

theorem Frame.startOutput {n} (h : Frame f s₀ s) :
    Frame (f.plus ⟨[.sent, .host, .egr], [.GLB_INT_SUM, .EGR_INT_STAT, .EGR_HEALTH_STAT, .EGR_OUT_STAT, .EGR_VSND_STAT]⟩) s₀
    (s.startOutput n) :=
  h.op (by decide) fun h => .health (.fold (.fold (.fold h.set.setOut fun _ _ h1 => h1.setSender.setFlag) fun _ _ h1
    => h1.setSender) fun _ _ h1 => h1.setSender)

theorem Frame.startRecal {i} (h : Frame f s₀ s) :
    Frame (f.plus ⟨[.resp, .net], [.TWL_LK_STAT, .WLT_LK_STAT]⟩) s₀ (s.startRecal i) :=
  h.op (by decide) fun h => .branch h.lkRecal h.setLane.answer

theorem Frame.startSwap {p spare} (h : Frame f s₀ s) :
    Frame (f.plus ⟨[.resp, .sent, .host, .twl], [.GLB_INT_SUM, .TWL_INT_STAT, .TWL_SPARE_MAP, .TWL_SWAP_STAT, .TWL_SP_STAT,
    .RSL_UNIT_STAT]⟩) s₀ (s.startSwap p spare) :=
  h.op (by decide) fun h => .branch h.refuseSwap (.branch h.refuseSwap (.branch h.refuseSwap (.branch h.refuseSwap (.answer
    (.branch h.updTwl.setFld.setSpare.setFld.setFld.setFld h.updTwl.setFld.setSpare.setFld.setFld.setFld.irq)))))

theorem Frame.startSwapBack {p passed} (h : Frame f s₀ s) :
    Frame (f.plus ⟨[.resp, .twl], [.TWL_SWAP_STAT, .TWL_SP_STAT, .RSL_UNIT_STAT]⟩) s₀ (s.startSwapBack p passed) :=
  h.op (by decide) fun h => .branch h.refuseSwap (.branch h.refuseSwap (.branch h.refuseSwap
    h.updTwl.setFld.setFld.setFld.setFld.answer))

def startUnitSwapFoot : Foot :=
  ⟨[.resp, .freeCtr, .sent, .host, .awl, .twl, .rsl], .GLB_INT_SUM :: .GLB_INT_STAT :: .GLB_ALERT_STAT :: .TWL_INT_STAT ::
      .TWL_SPARE_MAP :: .TWL_SWAP_STAT :: .TWL_SP_STAT :: .RSL_STATUS :: .RSL_INT_STAT :: .RSL_UNIT_STAT :: .RSL_PHYS_STAT ::
      awlFoot⟩

theorem Frame.startUnitSwap {u} (h : Frame f s₀ s) : Frame (f.plus startUnitSwapFoot) s₀ (s.startUnitSwap u) := by
  refine h.op (.refl _) fun h => ?_
  unfold State.startUnitSwap
  split
  · exact .le (by decide) h.noSpare
  · extract_lets s1 _ s2 s3 s4
    have h1 : Frame startUnitSwapFoot s s1 := .le (by decide) h.setFld
    have h2 : Frame startUnitSwapFoot s s2 := .le (by decide) h1.setRsl
    have h3 : Frame startUnitSwapFoot s s3 := .le (by decide) (.branch h2.setFld.setFld.answer h1.startSwap)
    have h4 : Frame startUnitSwapFoot s s4 := .le (by decide) (.branch h3 h3.unitStatus)
    exact .le (by decide) (.branch h4.spareLow h4)

def unitMovedFoot : Foot :=
  ⟨[.sent, .host, .awl, .rsl], .GLB_INT_SUM :: .RSL_INT_STAT :: .RSL_UNIT_STAT :: .RSL_UNIT_SWAPS :: .RSL_PHYS_STAT :: awlFoot⟩

theorem Frame.unitMoved {u x oldState} (h : Frame f s₀ s) : Frame (f.plus unitMovedFoot) s₀ (s.unitMoved u x oldState) := by
  refine h.op (.refl _) fun h => ?_
  unfold State.unitMoved
  extract_lets _ s1 _ s2 s3 s4 s5
  have h2 : Frame unitMovedFoot s s2 := .le (by decide) h.setFld.setFld.updRsl
  have h5 : Frame unitMovedFoot s s5 := .le (by decide) h2.setFld.setFld.setFld.setFld.setFld.setFlag
  exact .le (by decide) h5.count.event

def steerFoot : Foot :=
  ⟨[.sent, .host, .awl, .twl, .rsl], .GLB_INT_SUM :: .TWL_INT_STAT :: .TWL_SPARE_MAP :: .TWL_SWAP_STAT :: .TWL_SP_STAT ::
      .RSL_INT_STAT :: .RSL_UNIT_STAT :: .RSL_UNIT_SWAPS :: .RSL_PHYS_STAT :: awlFoot⟩

theorem Frame.steer (h : Frame f s₀ s) : Frame (f.plus steerFoot) s₀ s.steer := by
  refine h.op (.refl _) fun h => ?_
  unfold State.steer
  split
  · exact .le (by decide) h
  · exact .le (by decide) (.event (.unitMoved (.setFld (.setFld (.branch h.updTwl.setFld.setFld.setSpare
      h.updTwl.setFld.setFld)))))

theorem Frame.stepBy {k ns} (h : Frame f s₀ s) :
    Frame (f.plus ⟨[.resp, .freeCtr, .sent, .tb, .host, .awl, .twl, .nim, .tks, .egr, .ntm], .GLB_INT_SUM :: .EGR_INT_STAT ::
    .EGR_HEALTH_STAT :: .EGR_OTD_STAT :: .EGR_OUT_TAKE :: .NIM_INT_STAT :: .NIM_JRN_FREE :: .NIM_JRN_OPEN :: .NIM_CQ_LOST ::
    .NIM_CQ_TAIL :: .NIM_SVC_STAT :: .NTM_STATUS :: .NTM_INT_STAT :: .NTM_TRG_SRC :: .NTM_TB_STEPS :: .NTM_TRG_CFG ::
    .NTM_TRG_STAT :: .NTM_TRG_T :: .NTM_TRG_LATE :: .NTM_TRG_MISSED :: (awlFoot ++ routeFoot)⟩) s₀ (s.stepBy k ns) :=
  h.op (by decide) fun h => h.stepTb

theorem Frame.stepFails {k} (h : Frame f s₀ s) :
    Frame (f.plus ⟨[.sent, .host, .awl, .twl, .net], .GLB_INT_SUM :: .TWL_LK_STAT :: .WLT_INT_STAT :: .WLT_LK_SRC ::
    .WLT_LANE_TXEQ :: .WLT_LANE_DFE :: .WLT_LK_STAT :: .WLT_LK_DOWNS :: awlFoot⟩) s₀ (s.stepFails k) :=
  h.op (by decide) fun h => .branch h.setLink.stepTo (.branch h.stepTo (.branch h.linkFall
    h.setLink.setFld.setFld.loadLink.setLkState))

theorem Frame.stopLink {k reason} (h : Frame f s₀ s) :
    Frame (f.plus ⟨[.sent, .host, .awl], .GLB_INT_SUM :: .TWL_INT_STAT :: .WLT_INT_STAT :: .WLT_LK_SRC :: .WLT_LK_STAT ::
    awlFoot⟩) s₀ (s.stopLink k reason) :=
  h.op (by decide) fun h => .branch h.setLkState.setFld.noteLink.event.event h.setLkState.setFld.noteLink.event

theorem Frame.switchTake {t'} (h : Frame f s₀ s) :
    Frame (f.plus ⟨[.sent, .host, .twl, .nim, .tks, .egr], [.GLB_INT_SUM, .EGR_OUT_TAKE, .EGR_OUT_STAT, .NIM_INT_STAT,
    .NIM_CQ_LOST, .NIM_CQ_TAIL, .NIM_SVC_STAT]⟩) s₀ (s.switchTake t') :=
  h.op (by decide) fun h => .postTake (.imageSel (.branch h.dropTake.setFld.setFlag.setFlag
    h.dropTake.setFld.setFlag.setFlag.setOut.setFlag.endOld.setFlag))

theorem Frame.switchTakes {d} (h : Frame f s₀ s) :
    Frame (f.plus ⟨[.sent, .host, .twl, .nim, .tks, .egr], [.GLB_INT_SUM, .EGR_OUT_TAKE, .EGR_OUT_STAT, .NIM_INT_STAT,
    .NIM_CQ_LOST, .NIM_CQ_TAIL, .NIM_SVC_STAT]⟩) s₀ (s.switchTakes d) :=
  h.op (by decide) fun h => .fold h.changeRoutes fun _ _ h1 => h1.switchTake

theorem Frame.switchTo {r phase} (h : Frame f s₀ s) :
    Frame (f.plus ⟨[.sent, .host, .awl, .lst], .GLB_INT_SUM :: .LST_STATUS :: .LST_INT_STAT :: .LST_PHASE_ERR :: .LST_SLEW_LEFT
    :: .LST_SWITCHES :: .LST_TAG :: .LST_REF_STAT :: .NTM_SRV_STAT :: awlFoot⟩) s₀ (s.switchTo r phase) :=
  h.op (by decide) fun h => .branch h.showSel h.showSel.setLst.alignTo.enterLst

def takeCellFoot : Foot :=
  ⟨[.sent, .host, .twl], [.GLB_INT_SUM, .TWL_INT_STAT, .TWL_HOP_DROP, .TWL_NO_ROUTE, .TWL_SP_CELLS_OUT, .TWL_SP_SEQ_GAP,
      .TWL_LK_FWD, .TWL_LK_TX_CELLS, .TWL_LK_RX_CELLS]⟩

theorem Frame.takeCell {p fromLace h' view} (h : Frame f s₀ s) :
    Frame (f.plus takeCellFoot) s₀ (s.takeCell p fromLace h' view) := by
  refine h.op (.refl _) fun h => ?_
  unfold State.takeCell
  extract_lets _ s1
  have h1 : Frame takeCellFoot s s1 := .le (by decide) (.branch h.count h.count)
  exact .le (by decide) (.branch (.branch h1.replicate h1.checkSeq) (.branch h1 (.branch (.branch h1.setPort h1.relayArb)
    h1.setPort.updTwl)))

theorem Frame.takeLock {port session h'} (h : Frame f s₀ s) :
    Frame (f.plus ⟨[.sent, .host, .awl, .keep, .upd], .GLB_INT_SUM :: .RSL_STATUS :: .RSL_INT_STAT :: .RSL_FLASH_WEAR ::
    .SET_INT_STAT :: .SET_SECTORS :: .UPD_STATUS :: .UPD_INT_STAT :: .UPD_LOCK :: .UPD_NEXT :: .UPD_CONFIRM_LEFT :: .UPD_SESSION
    :: .UPD_SLOT_STAT :: .UPD_SLOT_VER :: .UPD_SLOT_FLOOR :: .UPD_SLOT_SEQ :: awlFoot⟩) s₀ (s.takeLock port session h') :=
  h.op (by decide) fun h => .branch h.setSlot.eraseSector.setUpd.setFld.setFld.set.set.showUpd
    h.setSlot.eraseSector.setUpd.setFld.setFld.set.set.showUpd.irq

theorem Frame.takeMembers {key sig salvo ctx single atomic dirtyOk replayed time members} (h : Frame f s₀ s) :
    Frame (f.plus ⟨[.resp, .freeCtr, .sent, .host, .twl, .nim, .tks], .GLB_INT_SUM :: .TWL_ADMIT_REFUSED :: .EGR_OUT_TAKE ::
    .NIM_INT_STAT :: .NIM_JRN_FREE :: .NIM_JRN_OPEN :: .NIM_CQ_LOST :: .NIM_CQ_TAIL :: .NIM_SVC_STAT :: routeFoot⟩) s₀
    (s.takeMembers key sig salvo ctx single atomic dirtyOk replayed time members) :=
  h.op (by decide) fun h => .doMembers (.fold (.fold h.updTks fun _ _ h1 => .branch h1 h1.emit) fun _ _ h1 => .branch
    h1.memberArmed h1.memberRefused)

def takeSqeFoot : Foot :=
  ⟨[.sent, .host, .nim], [.GLB_INT_SUM, .NIM_INT_STAT, .NIM_JRN_FREE, .NIM_JRN_OPEN, .NIM_ACCEPTED, .NIM_REFUSED, .NIM_DUP,
      .NIM_CORE_STAT, .NIM_SQ_HEAD, .NIM_CQ_TAIL, .NIM_Q_STAT, .NIM_Q_HWM, .NIM_Q_REFUSED, .RSL_PAIR_STAT]⟩

theorem Frame.takeSqe {q e'} (h : Frame f s₀ s) : Frame (f.plus takeSqeFoot) s₀ (s.takeSqe q e') := by
  refine h.op (.refl _) fun h => ?_
  unfold State.takeSqe
  extract_lets s1
  have h1 : Frame takeSqeFoot s s1 := .le (by decide) h.setFld
  split
  · exact .le (by decide) h1.refusedOrder
  · split
    · exact .le (by decide) h1.refusedOrder
    · split
      · exact .le (by decide) h1.refusedOrder
      · split
        · split
          · exact .le (by decide) h1.duplicate
          · exact .le (by decide) h1.refusedOrder
        · split
          · rename_i e
            exact .le (by decide) (h1.acceptOrder _ e)
          · exact .le (by decide) h1.refusedOrder

theorem Frame.takeTag {k tag} (h : Frame f s₀ s) :
    Frame (f.plus ⟨[.sent, .host, .lst], [.GLB_INT_SUM, .LST_VALID, .LST_QUAL, .LST_INT_STAT, .LST_TAG, .LST_REF_STAT,
    .LST_REF_LOSS, .LST_REF_PEER]⟩) s₀ (s.takeTag k tag) :=
  h.op (by decide) fun h => .fold h fun _ _ h1 => .branch h1 (.showTag (.branch (.branch h1.set.irq h1.set) (.refLost (.branch
    h1.set.irq h1.set))))

def takeTxFoot : Foot :=
  ⟨[.sent, .host, .net], [.NPT_TX_DISCARD, .NPT_TXR_HEAD]⟩

theorem Frame.takeTx {r l} (h : Frame f s₀ s) : Frame (f.plus takeTxFoot) s₀ (s.takeTx r l) := by
  suffices hs : ∀ u, Frame takeTxFoot s u → Frame takeTxFoot s (u.takeTx r l) from h.plus (hs s (.refl _ s))
  induction l with
  | nil => exact fun u hu => hu
  | cons fr l ih =>
    intro u hu
    refine .le (by decide) (.branch hu (ih _ ?_))
    split
    · exact .le (by decide) (.ctrlFail (.setFld (.branch hu.setTxr hu)))
    · exact .le (by decide) (.queueCtrl (.setFld (.branch hu.setTxr hu)))

def transmitFoot : Foot :=
  ⟨[.sent, .host, .net], [.GLB_INT_SUM, .NTM_INT_STAT, .NTM_PHY_TXABORT, .NPT_TX_FRAMES, .NPT_TX_BYTES]⟩

theorem Frame.transmit {p media ptpBytes onTime} (h : Frame f s₀ s) :
    Frame (f.plus transmitFoot) s₀ (s.transmit p media ptpBytes onTime) := by
  refine h.op (.refl _) fun h => ?_
  unfold State.transmit
  extract_lets
  split
  · exact .le (by decide) (.branch h.countTx h.sendPtp)
  · exact .le (by decide) h.sendPtp
  · split
    · exact .le (by decide) h.countTx
    · split
      · exact .le (by decide) h
      · exact .le (by decide) (.branch h.sendCtrl h)

def trapCtxFoot : Foot :=
  ⟨[.sent, .host, .awl, .twl, .nim, .tks], .GLB_INT_SUM :: (awlFoot ++ entryFoot ++ trapFoot)⟩

theorem Frame.trapCtx {i t'} (h : Frame f s₀ s) : Frame (f.plus trapCtxFoot) s₀ (s.trapCtx i t') := by
  refine h.op (.refl _) fun h => ?_
  unfold State.trapCtx
  extract_lets _ _ _ s1 s2
  have h1 : Frame trapCtxFoot s s1 := .le (by decide) h.irq.count.set
  have h2 : Frame trapCtxFoot s s2 := .le (by decide) h1.endCtx
  split
  · exact .le (by decide) (.endCtx (.branch h1.setSvc.set.awlCause.setFld.irq h1.setSvc.set.awlCause.setFld))
  · split
    · exact .le (by decide) h2.completeEntry
    · exact .le (by decide) h2

def writeAflFoot : Foot :=
  ⟨[.resp, .sent, .host], .ING_INT_STAT :: .ING_AFL_CFG :: .TWD_IN_RES :: pcieFoot⟩

theorem Frame.writeAfl {src a v} (h : Frame f s₀ s) : Frame (f.plus writeAflFoot) s₀ (s.writeAfl src a v) := by
  refine h.op (.refl _) fun h => ?_
  unfold State.writeAfl
  refine .le (by decide) (.guarded (g := writeAflFoot) h fun s1 h1 => ?_)
  extract_lets
  split
  · exact .le (by decide) h1.refuse
  · split
    · exact .le (by decide) h1.refuse
    · split
      · exact .le (by decide) h1.refuse
      · split
        · exact .le (by decide) h1.refuse
        · split
          · exact .le (by decide) h1.refuse
          · rename_i e
            exact .le (by decide) ((h1.reserveIn _ e).store)

theorem Frame.writeAsndCfg {src i w} (h : Frame f s₀ s) :
    Frame (f.plus ⟨[.resp, .sent, .host, .egr], .EGR_INT_STAT :: .EGR_VSND_STAT :: .EGR_ASND_CFG :: .TWD_OUT_RES :: pcieFoot⟩) s₀
    (s.writeAsndCfg src i w) :=
  h.op (by decide) fun h => .guarded h (fun _ h1 => .setAsnd h1 (fun _ h2 => h2.store))

theorem Frame.writeAsndFmt {src i w} (h : Frame f s₀ s) :
    Frame (f.plus ⟨[.resp, .sent, .host, .egr], .EGR_INT_STAT :: .EGR_VSND_STAT :: .EGR_ASND_FMT :: .TWD_OUT_RES :: pcieFoot⟩) s₀
    (s.writeAsndFmt src i w) :=
  h.op (by decide) fun h => .guarded h (fun _ h1 => .setAsnd h1 (fun _ h2 => h2.store))

theorem Frame.writeClrCtrl {src match_ v} (h : Frame f s₀ s) :
    Frame (f.plus ⟨[.resp, .freeCtr, .sent, .host, .awl, .keep], .RSL_STATUS :: .RSL_INT_STAT :: .RSL_FLASH_WEAR :: .AWL_SEQ_NEXT
    :: .AWL_OLDEST :: .AWL_COUNT :: .AWL_HEAD :: .AWL_EPOCH :: .AWL_OVERWRITTEN :: .AWL_CLR_NONCE :: .AWL_CLR_RESULT ::
    .SET_INT_STAT :: .SET_SECTORS :: (awlFoot ++ pcieFoot)⟩) s₀ (s.writeClrCtrl src match_ v) :=
  h.op (by decide) fun h => .guarded h (fun _ h1 => .branch h1.answer (.branch h1.goResult (.branch h1.clearAwl.goResult
    h1.setFld.setAwl.irq.awlPersist.goResult)))

theorem Frame.writeCqHead {src q v} (h : Frame f s₀ s) :
    Frame (f.plus ⟨[.resp, .sent, .host, .nim], .NIM_INT_STAT :: .NIM_CQ_HEAD :: .NIM_CQ_TAIL :: .NIM_Q_STAT :: pcieFoot⟩) s₀
    (s.writeCqHead src q v) :=
  h.op (by decide) fun h => .guarded h (fun _ h1 => h1.store.flushFrom.showQueue)

def writeDirCmdFoot : Foot :=
  ⟨[.resp, .sent, .host, .awl, .twl, .nim, .tks, .egr, .dir], .TWL_INT_STAT :: .TWL_DIR_DATA :: .TWL_DIR_RESULT :: .TWL_DIR_COUNT
      :: .TWL_DIR_OWN :: .TWL_DIR_OVF :: .TWL_DIR_SEQ :: .TWL_DIR_CONFLICT :: .EGR_OUT_TAKE :: (awlFoot ++ pcieFoot ++ routeFoot)⟩

theorem Frame.writeDirCmd {src v ovf} (h : Frame f s₀ s) : Frame (f.plus writeDirCmdFoot) s₀ (s.writeDirCmd src v ovf) := by
  refine h.op (.refl _) fun h => ?_
  unfold State.writeDirCmd
  refine .le (by decide) (.guarded (g := writeDirCmdFoot) h fun s1 h1 => ?_)
  extract_lets
  split
  · exact .le (by decide) h1.refuse
  · split
    · exact .le (by decide) h1.dirFetch
    · exact .le (by decide) h1.answer.dirWrite
    · exact .le (by decide) h1.answer.dirWithdraw
    · exact .le (by decide) h1.refuse

def writeEgrCtrlFoot : Foot :=
  ⟨[.resp, .sent, .host, .twl, .nim, .tks, .egr], .EGR_CTRL :: .EGR_STATUS :: .EGR_INT_STAT :: .EGR_HEALTH_STAT :: .EGR_OUT_CFG
      :: .EGR_OUT_TAKE :: .EGR_OUT_STAT :: .EGR_VSND_STAT :: .EGR_VSND_MISS :: .NIM_INT_STAT :: .NIM_JRN_FREE :: .NIM_JRN_OPEN ::
      .NIM_CQ_LOST :: .NIM_CQ_TAIL :: .NIM_SVC_STAT :: .TWD_OUT_RES :: (pcieFoot ++ routeFoot)⟩

theorem Frame.writeEgrCtrl {src v} (h : Frame f s₀ s) : Frame (f.plus writeEgrCtrlFoot) s₀ (s.writeEgrCtrl src v) := by
  refine h.op (.refl _) fun h => ?_
  unfold State.writeEgrCtrl
  refine .le (by decide) (.guarded (g := writeEgrCtrlFoot) h fun u h => ?_)
  extract_lets s1 _ s2 s3 s4
  have h1 : Frame writeEgrCtrlFoot u s1 := .le (by decide) h.store
  have h2 : Frame writeEgrCtrlFoot u s2 := .le (by decide) (.fold h1 fun _ _ h => h.drainOutput.setFlag)
  have h3 : Frame writeEgrCtrlFoot u s3 := .le (by decide) h2.setFlag.setFlag
  have h4 : Frame writeEgrCtrlFoot u s4 := .le (by decide) (.branch (.fold h3 fun _ _ h => h.outputOff) h3)
  exact .le (by decide) (.branch h1.setFlag.setFlag.health h4.health)

theorem Frame.writeFeed {src k v} (h : Frame f s₀ s) :
    Frame (f.plus ⟨[.resp, .freeCtr, .sent, .tb, .host, .awl, .twl, .nim, .tks, .egr, .lst, .ntm], .EGR_INT_STAT ::
    .EGR_HEALTH_STAT :: .EGR_OTD_STAT :: .EGR_OUT_TAKE :: .NIM_INT_STAT :: .NIM_JRN_FREE :: .NIM_JRN_OPEN :: .NIM_CQ_LOST ::
    .NIM_CQ_TAIL :: .NIM_SVC_STAT :: .LST_VALID :: .LST_QUAL :: .LST_INT_STAT :: .LST_REF_STAT :: .LST_REF_LOSS :: .LST_TB_STAT
    :: .NTM_STATUS :: .NTM_INT_STAT :: .NTM_TRG_SRC :: .NTM_TB_STAT :: .NTM_TB_STEPS :: .NTM_SRV_STAT :: .NTM_SRV_OFFSET ::
    .NTM_SRV_SAMPLES :: .NTM_TRG_CFG :: .NTM_TRG_STAT :: .NTM_TRG_T :: .NTM_TRG_LATE :: .NTM_TRG_MISSED :: (awlFoot ++ pcieFoot
    ++ routeFoot)⟩) s₀ (s.writeFeed src k v) :=
  h.op (by decide) fun h => .guarded h (fun _ h1 => .branch h1.srvSample.answer h1.answer)

theorem Frame.writeFence {src v} (h : Frame f s₀ s) :
    Frame (f.plus ⟨[.resp, .sent, .host, .awl, .twl, .nim, .tks, .egr], .GLB_ALERT_STAT :: .EGR_INT_STAT :: .EGR_HEALTH_STAT ::
    .NIM_STATUS :: .NIM_CORE_STAT :: .NIM_Q_STAT :: .RSL_STATUS :: .RSL_INT_STAT :: .RSL_FENCE_CTRL :: .RSL_FENCE_STAT ::
    (awlFoot ++ pcieFoot)⟩) s₀ (s.writeFence src v) :=
  h.op (by decide) fun h => .guarded h (fun _ h1 => .branch h1.store.fence (.branch h1.store.rejoin h1.store))

theorem Frame.writeHealthCtrl {src v} (h : Frame f s₀ s) :
    Frame (f.plus ⟨[.resp, .sent, .host, .egr], .EGR_INT_STAT :: .EGR_HEALTH_CTRL :: .EGR_HEALTH_STAT :: pcieFoot⟩) s₀
    (s.writeHealthCtrl src v) :=
  h.op (by decide) fun h => .guarded h (fun _ h1 => .branch h1.refuse h1.updEgr.store.health)

theorem Frame.writeIdent {src n i v} (h : Frame f s₀ s) :
    Frame (f.plus ⟨[.resp, .sent, .host], .EGR_INT_STAT :: .EGR_OUT_IDENT :: pcieFoot⟩) s₀ (s.writeIdent src n i v) :=
  h.op (by decide) fun h => .outWrite h (fun _ h1 => h1.store)

theorem Frame.writeInCfg {src n v} (h : Frame f s₀ s) :
    Frame (f.plus ⟨[.resp, .sent, .host, .awl, .ing], .ING_STATUS :: .ING_POOL_USED :: .ING_INT_STAT :: .ING_LOSS_SUM ::
    .ING_IN_CFG :: .ING_IN_STAT :: .ING_IN_FMT :: .ING_IN_ALLOC :: .ING_IN_LOSSCNT :: .TWD_IN_RES :: (awlFoot ++ pcieFoot)⟩) s₀
    (s.writeInCfg src n v) :=
  h.op (by decide) fun h => .guarded h (fun _ h1 => .branch h1.refuse (.branch h1.refuse (.branch h1.killInput.store (.branch
    (.branch h1.refuse (.branch h1.enableInput h1.changeInput)) (.branch h1.store h1.drainInput.store)))))

def writeInSyncFoot : Foot :=
  ⟨[.resp, .sent, .host, .ing], .ING_POOL_USED :: .ING_INT_STAT :: .ING_IN_SYNC :: .ING_IN_ALLOC :: pcieFoot⟩

theorem Frame.writeInSync {src n v} (h : Frame f s₀ s) : Frame (f.plus writeInSyncFoot) s₀ (s.writeInSync src n v) := by
  refine h.op (.refl _) fun h => ?_
  unfold State.writeInSync
  refine .le (by decide) (.guarded (g := writeInSyncFoot) h fun s1 h1 => ?_)
  extract_lets
  split
  · exact .le (by decide) h1.refuse
  · split
    · exact .le (by decide) h1.refuse
    · split
      · exact .le (by decide) h1.store
      · split
        · exact .le (by decide) h1.refuse
        · rename_i e
          exact .le (by decide) ((h1.growRing _ e).setInput.store)

theorem Frame.writeIngCtrl {src v} (h : Frame f s₀ s) :
    Frame (f.plus ⟨[.resp, .sent, .host], .ING_CTRL :: .ING_STATUS :: .ING_INT_STAT :: .ING_LOSS_SUM :: .ING_IN_CFG ::
    .ING_IN_STAT :: .TWD_IN_RES :: pcieFoot⟩) s₀ (s.writeIngCtrl src v) :=
  h.op (by decide) fun h => .guarded h (fun _ h1 => .branch h1.store.setFlag.setFlag (.setFlag (.setFlag (.fold h1.store fun _ _
    h2 => .branch h2.drainInput.setFlag h2))))

theorem Frame.writeLaneCtrl {src i v} (h : Frame f s₀ s) :
    Frame (f.plus ⟨[.resp, .sent, .host, .awl, .ing, .net], .TWL_LK_STAT :: .ING_SDI_RATE :: .NTM_INT_STAT :: .NTM_PHY_TXABORT ::
    .WLT_INT_STAT :: .WLT_LK_SRC :: .WLT_LANE_LOL :: .WLT_LK_STAT :: .NPT_INT_STAT :: .NPT_LINK :: .NPT_PORT_STAT ::
    .NPT_LINK_DOWNS :: .NPT_TX_DISCARD :: (awlFoot ++ pcieFoot)⟩) s₀ (s.writeLaneCtrl src i v) :=
  h.op (by decide) fun h => .guarded h (fun _ h1 => .branch h1.laneRetrain (.branch h1.startRecal h1.answer))

theorem Frame.writeLkCfg {src k v} (h : Frame f s₀ s) :
    Frame (f.plus ⟨[.resp, .sent, .host, .awl, .twl, .net], .TWL_LK_STAT :: .WLT_INT_STAT :: .WLT_LK_SRC :: .WLT_LK_CFG ::
    .WLT_LK_STAT :: .WLT_LK_DOWNS :: (awlFoot ++ pcieFoot)⟩) s₀ (s.writeLkCfg src k v) :=
  h.op (by decide) fun h => .guarded h (fun _ h1 => .branch h1.refuse (.branch h1.refuse (.branch h1.refuse (.branch (.branch
    h1.store.startIdent h1.store) (.branch h1.store (.branch h1.store.linkFall (.branch h1.store.setLkState
    h1.store.linkFall)))))))

theorem Frame.writeLkCtrl {src k v} (h : Frame f s₀ s) :
    Frame (f.plus ⟨[.resp, .sent, .host, .twl, .net], .TWL_LK_STAT :: .WLT_INT_STAT :: .WLT_LK_STAT :: pcieFoot⟩) s₀
    (s.writeLkCtrl src k v) :=
  h.op (by decide) fun h => .guarded h (fun _ h1 => .branch h1.lkRetrain (.branch h1.lkRecal h1.answer))

theorem Frame.writeLstCtrl {src v} (h : Frame f s₀ s) :
    Frame (f.plus ⟨[.resp, .sent, .host, .awl, .lst], .LST_CTRL :: .LST_STATUS :: .LST_INT_STAT :: .LST_HOLD_FREQ :: .LST_STEER
    :: .LST_SLEW_LEFT :: .LST_HOLD_STAT :: .LST_TAG :: (awlFoot ++ pcieFoot)⟩) s₀ (s.writeLstCtrl src v) :=
  h.op (by decide) fun h => .guarded h (fun _ h1 => .branch h1.refuse (.branch h1.store.set.setLst.setFlag.set.enterLst (.branch
    (.branch h1.store.setLst.enterLst h1.store.set.setFld.setLst.enterLst.showHold) h1.store)))

theorem Frame.writeNimCtrl {src v} (h : Frame f s₀ s) :
    Frame (f.plus ⟨[.resp, .sent, .host, .twl, .nim, .tks], .NIM_CTRL :: .NIM_STATUS :: .NIM_INT_STAT :: .NIM_REPLAY ::
    .NIM_CORE_STAT :: .NIM_Q_STAT :: .NIM_SVC_STAT :: pcieFoot⟩) s₀ (s.writeNimCtrl src v) :=
  h.op (by decide) fun h => .guarded h (fun _ h1 => .branch h1.store.setFlag.setFlag.showQueues (.showQueues (.branch (.setFlag
    (.killPrograms (.branch h1.store.setFlag.setFlag h1.store))) (.branch h1.store.setFlag.setFlag h1.store))))

theorem Frame.writeNtmCtrl {src v} (h : Frame f s₀ s) :
    Frame (f.plus ⟨[.resp, .freeCtr, .sent, .host, .awl, .lst, .ntm], .LST_VALID :: .LST_QUAL :: .LST_INT_STAT :: .LST_REF_STAT
    :: .LST_REF_LOSS :: .LST_TB_STAT :: .NTM_CTRL :: .NTM_STATUS :: .NTM_INT_STAT :: .NTM_SRV_STAT :: .NTM_TRG_CFG ::
    .NTM_TRG_STAT :: (awlFoot ++ pcieFoot)⟩) s₀ (s.writeNtmCtrl src v) :=
  h.op (by decide) fun h => .guarded h (fun _ h1 => .branch h1.store.setFlag.setFlag (.ntmIdle (.fold (.fold
    h1.store.setFlag.setFlag fun _ _ h2 => h2.samplesStop) fun _ _ h2 => .branch h2 (.branch h2.trgKill h2.disarm))))

theorem Frame.writeOtdCfg {src d v} (h : Frame f s₀ s) :
    Frame (f.plus ⟨[.resp, .sent, .host, .egr], .EGR_INT_STAT :: .EGR_HEALTH_STAT :: .EGR_OTD_CFG :: .EGR_OTD_FCNT ::
    .EGR_OTD_STAT :: pcieFoot⟩) s₀ (s.writeOtdCfg src d v) :=
  h.op (by decide) fun h => .guarded h (fun _ h1 => .branch h1.refuse (.branch (.branch h1.refuse
    h1.store.setOtd.setFlag.setFlag.health) (.branch (.branch h1.refuse h1.store.startDomain) (.branch (.branch h1.refuse
    (.branch h1.refuse (.reconfigure h1 (fun _ h2 => h2.store)))) h1.store))))

theorem Frame.writeOtdPhase {src d v} (h : Frame f s₀ s) :
    Frame (f.plus ⟨[.resp, .sent, .host, .egr], .EGR_INT_STAT :: .EGR_HEALTH_STAT :: .EGR_OTD_PHASE :: .EGR_OTD_STAT ::
    pcieFoot⟩) s₀ (s.writeOtdPhase src d v) :=
  h.op (by decide) fun h => .guarded h (fun _ h1 => .branch h1.refuse (.branch (.branch h1.refuse (.reconfigure h1 (fun _ h2
    => h2.store))) h1.store))

def writeOutAudFoot : Foot :=
  ⟨[.resp, .sent, .host], .EGR_INT_STAT :: .EGR_OUT_AUD :: .TWD_OUT_RES :: pcieFoot⟩

theorem Frame.writeOutAud {src n v} (h : Frame f s₀ s) : Frame (f.plus writeOutAudFoot) s₀ (s.writeOutAud src n v) := by
  refine h.op (.refl _) fun h => ?_
  unfold State.writeOutAud
  refine .le (by decide) (.outWrite (g := writeOutAudFoot) h fun s1 h1 => ?_)
  extract_lets
  split
  · exact .le (by decide) h1.refuse
  · split
    · exact .le (by decide) h1.store
    · split
      · exact .le (by decide) h1.refuse
      · rename_i e
        exact .le (by decide) ((h1.reserveOut _ e).store)

def writeOutCfgFoot : Foot :=
  ⟨[.resp, .sent, .host, .twl, .nim, .tks, .egr], .EGR_STATUS :: .EGR_INT_STAT :: .EGR_HEALTH_STAT :: .EGR_OUT_CFG ::
      .EGR_OUT_TAKE :: .EGR_OUT_STAT :: .EGR_VSND_STAT :: .EGR_VSND_MISS :: .NIM_INT_STAT :: .NIM_JRN_FREE :: .NIM_JRN_OPEN ::
      .NIM_CQ_LOST :: .NIM_CQ_TAIL :: .NIM_SVC_STAT :: .TWD_OUT_RES :: (pcieFoot ++ routeFoot)⟩

theorem Frame.writeOutCfg {src n v} (h : Frame f s₀ s) : Frame (f.plus writeOutCfgFoot) s₀ (s.writeOutCfg src n v) := by
  refine h.op (.refl _) fun h => ?_
  unfold State.writeOutCfg
  refine .le (by decide) (.guarded (g := writeOutCfgFoot) h fun s1 h1 => ?_)
  extract_lets _ _ _ _ s2
  have h2 : Frame writeOutCfgFoot s1 s2 := .le (by decide) h1.store
  split
  · exact .le (by decide) h1.refuse
  · split
    · exact .le (by decide) h1.refuse
    · split
      · exact .le (by decide) h1.drainTakes.store.outputOff
      · split
        · exact .le (by decide) h1.refuse
        · split
          · split
            · exact .le (by decide) h1.refuse
            · split
              · exact .le (by decide) h1.refuse
              · split
                · exact .le (by decide) h1.refuse
                · rename_i e
                  exact .le (by decide) ((h1.reserveOut _ e).store.startOutput)
          · exact .le (by decide) (.branch h1.refuse (.branch h2.setOut.health (.branch h1.drainOutput.store h1.store)))

theorem Frame.writeOutSdi {src n v} (h : Frame f s₀ s) :
    Frame (f.plus ⟨[.resp, .sent, .host], .EGR_INT_STAT :: .EGR_OUT_SDI :: pcieFoot⟩) s₀ (s.writeOutSdi src n v) :=
  h.op (by decide) fun h => .outWrite h (fun _ h1 => .branch h1.refuse (.branch h1.refuse h1.store))

def writePairCfgFoot : Foot :=
  ⟨[.resp, .sent, .host, .boot], .TWL_LK_STAT :: .NIM_STATUS :: .NIM_INT_STAT :: .NIM_PAIR_CFG :: .NIM_PAIR_STAT :: .NIM_Q_STAT
      :: .WLT_LK_STAT :: .RSL_STATUS :: .INS_STATE :: .INS_CLK_REQ :: .INS_CLK_RUN :: pcieFoot⟩

theorem Frame.writePairCfg {src allOrder partnerNames partnerB v} (h : Frame f s₀ s) :
    Frame (f.plus writePairCfgFoot) s₀ (s.writePairCfg src allOrder partnerNames partnerB v) := by
  refine h.op (.refl _) fun h => ?_
  unfold State.writePairCfg
  refine .le (by decide) (.guarded (g := writePairCfgFoot) h fun u h => ?_)
  extract_lets _ _ _ _ s1 s2 s3 s4 s5
  have h2 : Frame writePairCfgFoot u s2 := .le (by decide) h.store.set
  have h3 : Frame writePairCfgFoot u s3 := .le (by decide) (.branch h2.setFld h2)
  have h5 : Frame writePairCfgFoot u s5 := .le (by decide) h3.setFlag.setFlag.setFlag.showQueues
  exact .le (by decide) (.branch h.refuse (.branch h.store (.branch h.refuse (.branch h.refuse (.branch h.refuse (.branch
      h5.enterSpare h5))))))

def writePdFoot : Foot :=
  ⟨[.resp, .sent, .host, .ing], .ING_POOL_USED :: .ING_INT_STAT :: .ING_IN_ALLOC :: .ING_PKT_PD :: pcieFoot⟩

theorem Frame.writePd {src m v} (h : Frame f s₀ s) : Frame (f.plus writePdFoot) s₀ (s.writePd src m v) := by
  refine h.op (.refl _) fun h => ?_
  unfold State.writePd
  refine .le (by decide) (.guarded (g := writePdFoot) h fun s1 h1 => ?_)
  extract_lets _ _ _ _ _ _ s2
  have h2 : Frame writePdFoot s1 s2 := .le (by decide) h1.store
  split
  · exact .le (by decide) h1.refuse
  · split
    · exact .le (by decide) h1.refuse
    · split
      · split
        · exact .le (by decide) h1.refuse
        · rename_i e
          exact .le (by decide) ((h1.growRing _ e).store)
      · exact .le (by decide) (.branch h2.setInput h2)

def writePipeCfgFoot : Foot :=
  ⟨[.resp, .sent, .host, .vmp], .VMP_STATUS :: .VMP_INT_STAT :: .VMP_BUDGET :: .VMP_PIPE_CFG :: .VMP_PIPE_STAT :: .VMP_PIPE_READ
      :: .VMP_PIPE_PEND :: .VMP_LAYER_STAT :: .VMP_SURF_USE :: pcieFoot⟩

theorem Frame.writePipeCfg {src v w} (h : Frame f s₀ s) : Frame (f.plus writePipeCfgFoot) s₀ (s.writePipeCfg src v w) := by
  refine h.op (.refl _) fun h => ?_
  unfold State.writePipeCfg
  refine .le (by decide) (.guarded (g := writePipeCfgFoot) h fun s1 h1 => ?_)
  extract_lets _ _ _ s2 s3 _ s4
  have h2 : Frame writePipeCfgFoot s1 s2 := .le (by decide) h1.store
  have h3 : Frame writePipeCfgFoot s1 s3 := .le (by decide) h2.setFld
  have h4 : Frame writePipeCfgFoot s1 s4 := .le (by decide) h3.setPipe
  split
  · exact .le (by decide) h1.pipeKill.answer
  · split
    · exact .le (by decide) h1.irq.refuse
    · split
      · exact .le (by decide) h1.refuse
      · split
        · exact .le (by decide) (.branch h2 h2.pipeDrain)
        · split
          · exact .le (by decide) h1.store.showCharge
          · split
            · exact .le (by decide) h1.refuse
            · exact .le (by decide) h4.setFld.setFlag.showCharge

theorem Frame.writePortCfg {src p v} (h : Frame f s₀ s) :
    Frame (f.plus ⟨[.resp, .sent, .host, .awl, .net], .NTM_INT_STAT :: .NTM_PHY_TXABORT :: .NPT_STATUS :: .NPT_INT_STAT ::
    .NPT_LINK :: .NPT_PORT_CFG :: .NPT_PORT_STAT :: .NPT_LINK_DOWNS :: .NPT_TX_DISCARD :: (awlFoot ++ pcieFoot)⟩) s₀
    (s.writePortCfg src p v) :=
  h.op (by decide) fun h => .guarded h (fun _ h1 => .branch h1.refuse (.branch h1.refuse (.branch h1.refuse (.branch h1.refuse
    (.branch h1.refuse (.branch h1.store.portStop.showNpt.answer (.branch (.applyLp (.branch h1.store h1.store.portStart))
    (.branch h1.store.setPortState h1.store))))))))

theorem Frame.writePtpPort {src i v} (h : Frame f s₀ s) :
    Frame (f.plus ⟨[.resp, .freeCtr, .sent, .host, .awl, .lst, .ntm], .LST_VALID :: .LST_QUAL :: .LST_INT_STAT :: .LST_REF_STAT
    :: .LST_REF_LOSS :: .LST_TB_STAT :: .NTM_INT_STAT :: .NTM_SRV_STAT :: .NTM_PORT_CFG :: (awlFoot ++ pcieFoot)⟩) s₀
    (s.writePtpPort src i v) :=
  h.op (by decide) fun h => .guarded h (fun _ h1 => .branch h1.refuse (.branch h1.refuse (.branch h1.store.samplesStop h1.store)))

theorem Frame.writeRefCfg {src r v} (h : Frame f s₀ s) :
    Frame (f.plus ⟨[.resp, .sent, .host, .lst], .LST_VALID :: .LST_QUAL :: .LST_INT_STAT :: .LST_REF_CFG :: .LST_REF_STAT ::
    .LST_REF_LOSS :: pcieFoot⟩) s₀ (s.writeRefCfg src r v) :=
  h.op (by decide) fun h => .guarded h (fun _ h1 => .branch h1.refuse (.branch (.branch h1.refuse (.branch h1.store.refLost
    h1.store)) h1.store.refLost))

theorem Frame.writeRxrCfg {src r v} (h : Frame f s₀ s) :
    Frame (f.plus ⟨[.resp, .sent, .host, .net], .NPT_INT_STAT :: .NPT_RXR_CFG :: .NPT_RXR_HEAD :: pcieFoot⟩) s₀ (s.writeRxrCfg
    src r v) :=
  h.op (by decide) fun h => .guarded h (fun _ h1 => .branch h1.refuse (.branch h1.refuse (.store (.branch h1.returnPosted h1))))

def writeSdiCfgFoot : Foot :=
  ⟨[.resp, .sent, .host, .ing], .ING_INT_STAT :: .ING_SDI_CFG :: .TWD_IN_RES :: pcieFoot⟩

theorem Frame.writeSdiCfg {src n v} (h : Frame f s₀ s) : Frame (f.plus writeSdiCfgFoot) s₀ (s.writeSdiCfg src n v) := by
  refine h.op (.refl _) fun h => ?_
  unfold State.writeSdiCfg
  refine .le (by decide) (.guarded (g := writeSdiCfgFoot) h fun s1 h1 => ?_)
  extract_lets
  split
  · exact .le (by decide) h1.refuse
  · split
    · exact .le (by decide) h1.refuse
    · split
      · exact .le (by decide) h1.refuse
      · rename_i t e
        have ht := SomeFrame.branch h1.reserveIn (.some h1) _ e
        exact .le (by decide) (.branch ht.store.setInput ht.store)

theorem Frame.writeSpareCtrl {src v} (h : Frame f s₀ s) :
    Frame (f.plus ⟨[.resp, .sent, .host, .twl, .nim, .tks, .rsl, .boot], .GLB_CHIP :: .TWL_LK_STAT :: .EGR_OUT_CFG ::
    .EGR_OUT_TAKE :: .EGR_OUT_STAT :: .NIM_INT_STAT :: .NIM_PAIR_CFG :: .NIM_PAIR_STAT :: .NIM_JRN_FREE :: .NIM_JRN_OPEN ::
    .NIM_CQ_LOST :: .NIM_CQ_TAIL :: .NIM_SVC_STAT :: .WLT_LK_STAT :: .RSL_STATUS :: .RSL_INT_STAT :: .RSL_SPARE_STAT ::
    .INS_STATE :: .INS_CLK_REQ :: .INS_CLK_RUN :: (pcieFoot ++ routeFoot)⟩) s₀ (s.writeSpareCtrl src v) :=
  h.op (by decide) fun h => .guarded h (fun _ h1 => .branch (.branch h1.refuse (.branch h1.refuse h1.answer.sendClaim)) (.branch
    (.branch h1.answer.releaseSpare h1.refuse) h1.answer))

theorem Frame.writeSwapCtrl {src v passed} (h : Frame f s₀ s) :
    Frame (f.plus ⟨[.resp, .sent, .host, .twl], .TWL_INT_STAT :: .TWL_SPARE_MAP :: .TWL_SWAP_CTRL :: .TWL_SWAP_STAT ::
    .TWL_SP_STAT :: .RSL_UNIT_STAT :: pcieFoot⟩) s₀ (s.writeSwapCtrl src v passed) :=
  h.op (by decide) fun h => .guarded h (fun _ h1 => .branch h1.store.startSwap (.branch h1.store.startSwapBack h1.store))

theorem Frame.writeTbAdj {src k v} (h : Frame f s₀ s) :
    Frame (f.plus ⟨[.resp, .freeCtr, .sent, .tb, .host, .awl, .twl, .nim, .tks, .egr, .ntm], .EGR_INT_STAT :: .EGR_HEALTH_STAT ::
    .EGR_OTD_STAT :: .EGR_OUT_TAKE :: .NIM_INT_STAT :: .NIM_JRN_FREE :: .NIM_JRN_OPEN :: .NIM_CQ_LOST :: .NIM_CQ_TAIL ::
    .NIM_SVC_STAT :: .NTM_STATUS :: .NTM_INT_STAT :: .NTM_TRG_SRC :: .NTM_TB_STAT :: .NTM_TB_STEPS :: .NTM_TRG_CFG ::
    .NTM_TRG_STAT :: .NTM_TRG_T :: .NTM_TRG_LATE :: .NTM_TRG_MISSED :: (awlFoot ++ pcieFoot ++ routeFoot)⟩) s₀ (s.writeTbAdj src
    k v) :=
  h.op (by decide) fun h => .guarded h (fun _ h1 => .branch h1.refuse (.branch h1.refuse (.branch h1.refuse (.branch (.answer
    (.branch h1.stepTb h1.startTb)) (.branch h1.refuse h1.stepBy.answer)))))

theorem Frame.writeTbCfg {src k v} (h : Frame f s₀ s) :
    Frame (f.plus ⟨[.resp, .sent, .host, .lst, .ntm], .LST_VALID :: .LST_QUAL :: .LST_INT_STAT :: .LST_REF_STAT :: .LST_REF_LOSS
    :: .NTM_INT_STAT :: .NTM_TB_CFG :: .NTM_SRV_STAT :: pcieFoot⟩) s₀ (s.writeTbCfg src k v) :=
  h.op (by decide) fun h => .guarded h (fun _ h1 => .branch h1.refuse (.branch h1.refuse (.branch (.branch h1.store.setServo
    h1.store.setServo.enterSrv.setFlag.setServo) (.branch h1.store.setServo.setServo h1.store.setServo.setServo.enterSrv))))

theorem Frame.writeTrg {src t' v} (h : Frame f s₀ s) :
    Frame (f.plus ⟨[.resp, .sent, .host, .ntm], .NTM_STATUS :: .NTM_INT_STAT :: .NTM_TRG_SRC :: .NTM_TRG_CFG :: .NTM_TRG_STAT ::
    .NTM_TRG_T :: .NTM_TRG_LATE :: .NTM_TRG_MISSED :: pcieFoot⟩) s₀ (s.writeTrg src t' v) :=
  h.op (by decide) fun h => .guarded h (fun _ h1 => .branch h1.refuse (.branch (.branch h1.refuse (.branch h1.trgKill.answer
    h1.disarm.answer)) (.branch h1.store (.branch h1.refuse (.branch h1.refuse (.branch h1.refuse
    h1.store.setTrg.setFld.setFld.trgLate))))))

theorem Frame.writeTxrTail {src r v frames} (h : Frame f s₀ s) :
    Frame (f.plus ⟨[.resp, .sent, .host, .net], .NPT_INT_STAT :: .NPT_TX_DISCARD :: .NPT_TXR_TAIL :: .NPT_TXR_HEAD :: pcieFoot⟩)
    s₀ (s.writeTxrTail src r v frames) :=
  h.op (by decide) fun h => .guarded h (fun _ h1 => .branch h1.store.takeTx h1.store)

def writeUnitCtrlFoot : Foot :=
  ⟨[.resp, .freeCtr, .sent, .host, .awl, .twl, .rsl], .GLB_ALERT_STAT :: .TWL_INT_STAT :: .TWL_SPARE_MAP :: .TWL_SWAP_STAT ::
      .TWL_SP_STAT :: .RSL_STATUS :: .RSL_INT_STAT :: .RSL_UNIT_STAT :: .RSL_PHYS_STAT :: (awlFoot ++ pcieFoot)⟩

theorem Frame.writeUnitCtrl {src u v} (h : Frame f s₀ s) : Frame (f.plus writeUnitCtrlFoot) s₀ (s.writeUnitCtrl src u v) := by
  refine h.op (.refl _) fun h => ?_
  unfold State.writeUnitCtrl
  refine .le (by decide) (.guarded (g := writeUnitCtrlFoot) h fun s1 h1 => ?_)
  extract_lets s2
  have h2 : Frame writeUnitCtrlFoot s1 s2 := .le (by decide) h1.answer
  split
  · exact .le (by decide) h2
  · split
    · exact .le (by decide) h2.startTest
    · split
      · exact .le (by decide) h2.startRetest
      · split
        · exact .le (by decide) h2.unitStatus
        · exact .le (by decide) (.branch h2.startUnitSwap h2)

def writeUpdCtrlFoot : Foot :=
  ⟨[.resp, .freeCtr, .sent, .host, .awl, .twl, .nim, .tks, .net, .upd, .boot], .GLB_ALERT_STAT :: .BOOT_PROT :: .BOOT_STAGE ::
      .BOOT_CAUSE :: .BOOT_FAIL :: .BOOT_WARMS :: .BOOT_IMG_VER :: .NIM_CORE_STAT :: .SET_STATUS :: .SET_FLOOR :: .UPD_STATUS ::
      .UPD_INT_STAT :: .UPD_LOCK :: .UPD_LAST_STATUS :: .UPD_NEXT :: .UPD_RUN_VER :: .UPD_CONFIRM_LEFT :: .UPD_SESSION ::
      .UPD_SLOT_STAT :: .UPD_SLOT_VER :: .UPD_SLOT_FLOOR :: .UPD_SLOT_SEQ :: (warmCleared ++ awlFoot ++ pcieFoot)⟩

theorem Frame.writeUpdCtrl {src level v} (h : Frame f s₀ s) :
    Frame (f.plus writeUpdCtrlFoot) s₀ (s.writeUpdCtrl src level v) := by
  refine h.op (.refl _) fun h => ?_
  unfold State.writeUpdCtrl
  refine .le (by decide) (.guarded (g := writeUpdCtrlFoot) h fun u h => ?_)
  extract_lets s1 s2 s3 s4
  have h1 : Frame writeUpdCtrlFoot u s1 := .le (by decide) h.answer
  have h2 : Frame writeUpdCtrlFoot u s2 := .same (.absorb (by decide) h1.activate) h1
  have h3 : Frame writeUpdCtrlFoot u s3 := .same (.absorb (by decide) h2.confirm) h2
  have h4 : Frame writeUpdCtrlFoot u s4 := .same (.absorb (by decide) h3.ctrlFallback) h3
  exact .same (.absorb (by decide) h4.ctrlAbort) h4

theorem Frame.writeV6 {src r i v} (h : Frame f s₀ s) :
    Frame (f.plus (.plus ⟨[.host, .sent], r.shutRegs⟩ ⟨[.resp], [r]⟩)) s₀ (s.writeV6 src r i v) := by
  refine h.guarded fun u hu => ?_
  split
  · exact State.answer_frame (.refl _ u) List.mem_cons_self
  · exact State.store_frame (.refl _ u) List.mem_cons_self List.mem_cons_self

theorem Frame.writeVmpCtrl {src w} (h : Frame f s₀ s) :
    Frame (f.plus ⟨[.resp, .sent, .host, .vmp], .VMP_CTRL :: .VMP_STATUS :: .VMP_INT_STAT :: .VMP_BUDGET :: .VMP_PIPE_CFG ::
    .VMP_PIPE_STAT :: .VMP_PIPE_PEND :: .VMP_LAYER_STAT :: .VMP_SURF_USE :: pcieFoot⟩) s₀ (s.writeVmpCtrl src w) :=
  h.op (by decide) fun h => .guarded h (fun _ h1 => .branch h1.store.setFlag.setFlag (.vmpIdle (.fold h1.store.setFlag.setFlag
    fun _ _ h2 => .branch h2 (.branch h2.pipeKill (.branch h2.setFlag.pipeDrain h2)))))

theorem Frame.writeVsndCfg {src i w v} (h : Frame f s₀ s) :
    Frame (f.plus ⟨[.resp, .sent, .host, .twl, .tks, .egr], .TWL_ADMIT_REFUSED :: .EGR_INT_STAT :: .EGR_VSND_CFG ::
    .EGR_VSND_STAT :: pcieFoot⟩) s₀ (s.writeVsndCfg src i w v) :=
  h.op (by decide) fun h => .guarded h (fun _ h1 => .branch h1.store.stopSender (.branch h1.refuse (.branch h1.refuse (.branch
    h1.refuse (.branch h1.refuse (.branch h1.refuse (.branch h1.refuse (.branch (.branch h1.store.runSender.askSource.answer
    h1.refuse) h1.store.runSender))))))))

theorem Frame.writeVsndSrc {src i w v} (h : Frame f s₀ s) :
    Frame (f.plus ⟨[.resp, .sent, .host, .twl, .tks, .egr], .TWL_ADMIT_REFUSED :: .EGR_INT_STAT :: .EGR_VSND_SRC :: pcieFoot⟩) s₀
    (s.writeVsndSrc src i w v) :=
  h.op (by decide) fun h => .guarded h (fun _ h1 => .branch (.branch h1.askSource.store h1.askSource.refuse) h1.store)

end Sys2Proof.Machine

end

section
/-! SUPPORT of O52: the frames of the commands of Ingress, the Twill fabric and the flow directory that are more than one chain of operations. -/

namespace Sys2Proof.Machine

variable {e f g : Foot} {s₀ s t a b : State}

def sdiLineReceiveFoot : Foot :=
  ⟨[.sent, .host, .ing], [.GLB_INT_SUM, .ING_INT_STAT, .ING_SDI_CRC, .ING_SDI_ANCDROP, .ING_SDI_AUDGRP]⟩

theorem execSdiLineReceive_frame {n crcErrors anc} :
    Completes (Frame sdiLineReceiveFoot s) (execSdiLineReceive n crcErrors anc s) := by
  have h := Frame.refl .none s
  unfold execSdiLineReceive
  extract_lets _ _ s1 _ s2
  have h1 : Frame sdiLineReceiveFoot s s1 := .le (by decide) (.branch h.count h)
  have h2 : Frame sdiLineReceiveFoot s s2 := .le (by decide) (.fold h1 fun _ _ h2 => h2.receiveAnc)
  split
  · exact .next (.le (by decide) (.branch h2.setInput h2))
  · exact .next (.le (by decide) h)

def sdiFrameEndFoot : Foot :=
  ⟨[.sent, .host, .awl, .ing], .GLB_INT_SUM :: .ING_POOL_USED :: .ING_INT_STAT :: .ING_LOSS_SUM :: .ING_IN_STAT :: .ING_IN_FMT ::
      .ING_IN_ALLOC :: .ING_IN_BADFRM :: .ING_IN_LOSSCNT :: .ING_SDI_352 :: awlFoot⟩

theorem execSdiFrameEnd_frame {n m pid skewed} : Completes (Frame sdiFrameEndFoot s) (execSdiFrameEnd n m pid skewed s) := by
  have h := Frame.refl .none s
  unfold execSdiFrameEnd
  split
  · extract_lets s1 s2 _ s3 _ _ s4 _ _ s5 s6 s7
    have h1 : Frame sdiFrameEndFoot s s1 := .le (by decide) h.closeSdiFrame
    have h2 : Frame sdiFrameEndFoot s s2 := by
      dsimp only [s2]
      split
      · exact .le (by decide) h1.set
      · exact .le (by decide) h1
    have h3 : Frame sdiFrameEndFoot s s3 := .le (by decide) h2.setFlag
    have h4 : Frame sdiFrameEndFoot s s4 := .le (by decide) h3.setInput
    have h5 : Frame sdiFrameEndFoot s s5 := .le (by decide) h4.setInput
    have h6 : Frame sdiFrameEndFoot s s6 := .le (by decide) h5.setFlag
    have h7 : Frame sdiFrameEndFoot s s7 := .le (by decide) h6.setFlag
    split
    · exact .next (.le (by decide) h4.loseInput)
    · split
      · exact .next (.le (by decide) h7.decideFormat)
      · exact .next (.le (by decide) h4)
  · exact .next (.le (by decide) h)

def videoFrameCloseFoot : Foot :=
  ⟨[.sent, .host, .awl, .ing], .GLB_INT_SUM :: .ING_POOL_USED :: .ING_INT_STAT :: .ING_LOSS_SUM :: .ING_IN_STAT :: .ING_IN_FMT ::
      .ING_IN_ALLOC :: .ING_IN_BADFRM :: .ING_IN_LOSSCNT :: .ING_PKT_PDMEAS :: .ING_PKT_STAT :: awlFoot⟩

theorem execVideoFrameClose_frame {m num form diff} :
    Completes (Frame videoFrameCloseFoot s) (execVideoFrameClose m num form diff s) := by
  have h := Frame.refl .none s
  unfold execVideoFrameClose
  extract_lets _ _ _ _ s1 _ _ _ _ s2 s3 _ s4 s5
  have h1 : Frame videoFrameCloseFoot s s1 := .le (by decide) (.branch h h.count)
  have h2 : Frame videoFrameCloseFoot s s2 := .le (by decide) h1.setInput
  have h3 : Frame videoFrameCloseFoot s s3 := .le (by decide) h2.set
  have h4 : Frame videoFrameCloseFoot s s4 := .le (by decide) h3.setFlag
  have h5 : Frame videoFrameCloseFoot s s5 := .le (by decide) (.branch h2 (.branch h4.irq h4))
  split
  · exact .next (.le (by decide) (.branch h5.decideFormat h5))
  · exact .next (.le (by decide) h)

def cellReceiveFoot : Foot :=
  ⟨[.sent, .host, .twl], [.GLB_INT_SUM, .TWL_INT_STAT, .TWL_CW_CORR, .TWL_CW_UNCORR, .TWL_BAD_HDR, .TWL_HOP_DROP, .TWL_NO_ROUTE,
      .TWL_SP_CELLS_OUT, .TWL_SP_SEQ_GAP, .TWL_LK_CW_CORR, .TWL_LK_FWD, .TWL_LK_TX_CELLS, .TWL_LK_RX_CELLS]⟩

theorem execCellReceive_frame {p fromLace h' e0 e1 e2 e3 view} :
    Completes (Frame cellReceiveFoot s) (execCellReceive p fromLace h' e0 e1 e2 e3 view s) := by
  have h := Frame.refl .none s
  unfold execCellReceive
  extract_lets _ _ s1 s2
  have h1 : Frame cellReceiveFoot s s1 := .le (by decide) h.count
  have h2 : Frame cellReceiveFoot s s2 := by
    dsimp only [s2]
    split
    · exact .le (by decide) (.branch h1.count h1)
    · exact .le (by decide) h1
  exact .next (.le (by decide) (.branch h (.branch h2.count.irq (.branch h2.count h2.takeCell))))

def calendarSlotFoot : Foot :=
  ⟨[.sent, .host, .twl], [.GLB_INT_SUM, .TWL_INT_STAT, .TWL_HOP_DROP, .TWL_NO_ROUTE, .TWL_SP_AQ_ACTIVE, .TWL_SP_CELLS_IN,
      .TWL_LK_FWD, .TWL_LK_TX_CELLS, .TWL_AQ_STAT, .TWL_ST_CELLS]⟩

theorem execCalendarSlot_frame {p slot ready} : Completes (Frame calendarSlotFoot s) (execCalendarSlot p slot ready s) := by
  have h := Frame.refl .none s
  unfold execCalendarSlot
  split
  · exact .next (.le (by decide) h)
  · extract_lets s1 _ _ s2
    have h1 : Frame calendarSlotFoot s s1 := .le (by decide) h.showEligible
    have h2 : Frame calendarSlotFoot s s2 := .le (by decide) h1.setPort
    split
    · exact .next (.le (by decide) h1.sendMedia)
    · split
      · exact .next (.le (by decide) h2)
      · exact .next (.le (by decide) h2.sendArb.showEligible)

def calendarPeriodBoundaryFoot : Foot :=
  ⟨[.sent, .host, .awl, .twl, .rsl], .GLB_INT_SUM :: .TWL_INT_STAT :: .TWL_SPARE_MAP :: .TWL_SWAP_STAT :: .TWL_SP_FREE ::
      .TWL_SP_FAIR_VIOL :: .RSL_INT_STAT :: .RSL_UNIT_STAT :: .RSL_UNIT_SWAPS :: .RSL_PHYS_STAT :: (awlFoot ++ routeFoot)⟩

theorem execCalendarPeriodBoundary_frame : Completes (Frame calendarPeriodBoundaryFoot s) (execCalendarPeriodBoundary s) :=
  .chain (by decide) fun h => .fold (.fold (.steer (.applyDelivery (.mapPorts (.fold h fun _ _ h1 => h1.endRoute)))) fun _ _ h1
    => h1.resumeLink) fun _ _ h1 => h1.checkFair

def arbitratedQueueOpenFoot : Foot :=
  ⟨[.resp, .twl], [.TWL_SP_STAT, .TWL_AQ_STAT]⟩

theorem execArbitratedQueueOpen_frame {p branch dchip dport} :
    Completes (Frame arbitratedQueueOpenFoot s) (execArbitratedQueueOpen p branch dchip dport s) := by
  have h := Frame.refl .none s
  unfold execArbitratedQueueOpen
  refine .next ?_
  split
  · exact .le (by decide) h.answer
  · exact .le (by decide) h.setQueue.setFld.answer

def dirAckReceiveFoot : Foot :=
  ⟨[.resp, .sent, .host, .awl, .twl, .nim, .tks, .egr, .dir], .GLB_INT_SUM :: .TWL_INT_STAT :: .TWL_DIR_RESULT :: .TWL_DIR_COUNT
      :: .TWL_DIR_OWN :: .TWL_DIR_OVF :: .TWL_DIR_SEQ :: .TWL_DIR_CONFLICT :: .EGR_OUT_TAKE :: (awlFoot ++ routeFoot)⟩

theorem execDirAckReceive_frame {part seq conflict} :
    Completes (Frame dirAckReceiveFoot s) (execDirAckReceive part seq conflict s) := by
  have h := Frame.refl .none s
  unfold execDirAckReceive
  refine .next ?_
  split
  · exact .le (by decide) h
  · exact .le (by decide) (.branch h.dirFinish h.setDirs)

def dirAckTimeoutFoot : Foot :=
  ⟨[.resp, .sent, .host, .awl, .twl, .nim, .tks, .egr, .dir], .GLB_INT_SUM :: .TWL_INT_STAT :: .TWL_DIR_RESULT :: .TWL_DIR_COUNT
      :: .TWL_DIR_OWN :: .TWL_DIR_OVF :: .TWL_DIR_SEQ :: .TWL_DIR_CONFLICT :: .EGR_OUT_TAKE :: (awlFoot ++ routeFoot)⟩

theorem execDirAckTimeout_frame {seq} : Completes (Frame dirAckTimeoutFoot s) (execDirAckTimeout seq s) := by
  have h := Frame.refl .none s
  unfold execDirAckTimeout
  refine .next ?_
  split
  · exact .le (by decide) h
  · exact .le (by decide) h.dirFinish

def dirResyncStartFoot : Foot :=
  ⟨[.sent, .host, .awl, .twl, .tks, .egr, .dir], .GLB_INT_SUM :: .TWL_STATUS :: .TWL_INT_STAT :: .TWL_DIR_COUNT :: .TWL_DIR_OWN
      :: .TWL_DIR_OVF :: .TWL_DIR_LAG :: .TWL_DIR_CONFLICT :: .EGR_OUT_TAKE :: (awlFoot ++ routeFoot)⟩

theorem execDirResyncStart_frame {origins} : Completes (Frame dirResyncStartFoot s) (execDirResyncStart origins s) :=
  .chain (by decide) fun h => .showLag (.resyncEnd (.fold (.setDirs (.fold h.setFlag.setFlag.irq.dropOrigin fun _ _ h1
    => h1.mergeDir)) fun _ _ h1 => h1.emit))

def dirResyncAnswerFoot : Foot :=
  ⟨[.sent, .host, .awl, .twl, .tks, .egr, .dir], .GLB_INT_SUM :: .TWL_STATUS :: .TWL_INT_STAT :: .TWL_DIR_COUNT :: .TWL_DIR_OWN
      :: .TWL_DIR_OVF :: .TWL_DIR_LAG :: .TWL_DIR_CONFLICT :: .EGR_OUT_TAKE :: (awlFoot ++ routeFoot)⟩

theorem execDirResyncAnswer_frame {origin seq entries updates ovf} :
    Completes (Frame dirResyncAnswerFoot s) (execDirResyncAnswer origin seq entries updates ovf s) := by
  have h := Frame.refl .none s
  unfold execDirResyncAnswer
  extract_lets s1 _ s2
  have h1 : Frame dirResyncAnswerFoot s s1 := by
    dsimp only [s1]
    split
    · exact .le (by decide) (.setDirs (.fold h.dropOrigin fun _ _ h1 => h1.mergeDir))
    · exact .le (by decide) (.fold h fun _ _ h1 => h1.receiveUpdate)
  have h2 : Frame dirResyncAnswerFoot s s2 := .le (by decide) h1.setDirs
  exact .next (.le (by decide) h2.resyncEnd.showLag)

def swapSpareFailFoot : Foot :=
  ⟨[.twl, .rsl], [.TWL_SPARE_MAP, .TWL_SWAP_STAT, .TWL_SP_STAT, .RSL_UNIT_STAT, .RSL_PHYS_STAT]⟩

theorem execSwapSpareFail_frame : Completes (Frame swapSpareFailFoot s) (execSwapSpareFail s) := by
  have h := Frame.refl .none s
  unfold execSwapSpareFail
  refine .next ?_
  split
  · exact .le (by decide) h
  · exact .le (by decide) (.branch h h.updTwl.setFld.setSpare.spareFailed.setFld.setFld)

end Sys2Proof.Machine
end

section
open Sys2Proof Sys2Proof.Machine

/-- Settles O52: each command is a chain of operations, each of which changes no more than its own footprint; the chain
ends within the footprint that the statement lists. -/
theorem ingressAndTwillFrames : Obligations.IngressAndTwillFrames := by
  unfold Obligations.IngressAndTwillFrames
  refine ⟨fun _ s => .chain (by decide) fun h => .branch h.huntNext h,
   fun _ s => .chain (by decide) fun h => h.receiverUnlock.loseInput.setInput,
   fun _ _ _ _ => .le (by decide) execSdiLineReceive_frame,
   ⟨fun _ s => .chain (by decide) fun h => h.loseInput,
    fun _ s => .chain (by decide) fun h => h.loseInput⟩,
   fun _ _ _ _ _ => .le (by decide) execSdiFrameEnd_frame,
   fun _ _ _ _ _ => .le (by decide) execVideoFrameClose_frame,
   fun _ legB s => by cases legB <;> exact .chain (by decide) fun h => h.setFlag,
   fun _ s => .chain (by decide) fun h => .branch h.count.setInput h,
   ⟨fun _ _ _ s => .chain (by decide) fun h => h.writeInCfg,
    fun _ _ s => .chain (by decide) fun h => h.writeInCfg,
    fun _ _ s => .chain (by decide) fun h => h.writeInCfg,
    fun _ _ _ s => .chain (by decide) fun h => h.writeInCfg,
    fun _ _ _ s => .chain (by decide) fun h => h.writeInCfg⟩,
   fun _ s => .chain (by decide) fun h => .branch h.inputOff h,
   fun _ _ _ s => .chain (by decide) fun h => h.writeInSync,
   fun _ _ _ s => .chain (by decide) fun h => h.writePktVid,
   fun _ _ _ s => .chain (by decide) fun h => h.writePd,
   fun _ _ _ s => .chain (by decide) fun h => h.writeAfl,
   fun _ _ _ s => .chain (by decide) fun h => h.writeAflOff,
   fun _ _ _ s => .chain (by decide) fun h => h.writeAnf,
   fun _ _ _ s => .chain (by decide) fun h => h.writeSdiCfg,
   fun _ _ s => .chain (by decide) fun h => h.writePool,
   fun _ s => .chain (by decide) fun h => h.writeIngCtrl,
   fun _ _ _ _ _ _ _ _ _ => .le (by decide) execCellReceive_frame,
   fun _ _ _ _ => .le (by decide) execCalendarSlot_frame,
   fun _ => .le (by decide) execCalendarPeriodBoundary_frame,
   fun _ s => .chain (by decide) fun h => h.hold.answer,
   fun _ _ _ _ _ => .le (by decide) execArbitratedQueueOpen_frame,
   fun _ _ _ s => .chain (by decide) fun h => .branch h.answer (.branch h.answer (.branch h.placeCell.showEligible.answer
       h.setQueue)),
   fun _ _ _ s => .chain (by decide) fun h => .branch h.hold.answer h.hold.awlFabric.answer,
   ⟨fun _ s => .chain (by decide) fun h => h.writeDirCmd,
    fun _ _ s => .chain (by decide) fun h => h.writeDirCmd,
    fun _ s => .chain (by decide) fun h => h.writeDirCmd⟩,
   fun _ _ s => .chain (by decide) fun h => h.receiveUpdate,
   fun _ _ s => .chain (by decide) fun h => .branch (.fold h.setDirs fun _ _ h1 => h1.emit) h.setDirs.emit,
   ⟨fun _ _ _ _ => .le (by decide) execDirAckReceive_frame,
    fun _ _ => .le (by decide) execDirAckTimeout_frame⟩,
   ⟨fun _ _ => .le (by decide) execDirResyncStart_frame,
    fun _ _ _ _ _ _ => .le (by decide) execDirResyncAnswer_frame⟩,
   fun _ s => .chain (by decide) fun h => .branch h.setDirs.resyncEnd.showLag h,
   ⟨fun _ _ _ s => .chain (by decide) fun h => h.writeSwapCtrl,
    fun _ _ _ s => .chain (by decide) fun h => h.writeSwapCtrl⟩,
   fun _ => .le (by decide) execSwapSpareFail_frame,
   fun _ s => .chain (by decide) fun h => .branch h (.fold h.setFld fun _ _ h1 => h1.replaceRoute),
   ⟨fun _ s => .chain (by decide) fun h => h.writeTwlCtrl,
    fun _ _ s => .chain (by decide) fun h => h.writeTwlCtrl⟩,
   fun s => .chain (by decide) fun h => .branch h.twillStop h,
   fun _ source _ _ s => by cases source <;> exact .chain (by decide) fun h => h.writeV6⟩

end

section
/-! SUPPORT of O53: the frames of the commands of output domains, outputs, senders, joins and takes that are more than one chain of operations. -/

namespace Sys2Proof.Machine

variable {e f g : Foot} {s₀ s t a b : State}

def routeHoldTimeoutFoot : Foot :=
  ⟨[.resp, .sent, .host, .twl, .nim, .tks, .egr], .GLB_INT_SUM :: .EGR_OUT_TAKE :: .NIM_INT_STAT :: .NIM_JRN_FREE ::
      .NIM_JRN_OPEN :: .NIM_CQ_LOST :: .NIM_CQ_TAIL :: .NIM_SVC_STAT :: routeFoot⟩

theorem execRouteHoldTimeout_frame {req} : Completes (Frame routeHoldTimeoutFoot s) (execRouteHoldTimeout req s) := by
  have h := Frame.refl .none s
  unfold execRouteHoldTimeout
  refine .next ?_
  split
  · exact .le (by decide) (.branch h (.branch h.refuseRequest h.release.emit))
  · exact .le (by decide) h

def holdReleaseReportFoot : Foot :=
  ⟨[.resp, .sent, .host, .twl, .nim, .tks, .egr], .GLB_INT_SUM :: .EGR_OUT_TAKE :: .NIM_INT_STAT :: .NIM_JRN_FREE ::
      .NIM_JRN_OPEN :: .NIM_CQ_LOST :: .NIM_CQ_TAIL :: .NIM_SVC_STAT :: routeFoot⟩

theorem execHoldReleaseReport_frame {req} : Completes (Frame holdReleaseReportFoot s) (execHoldReleaseReport req s) := by
  have h := Frame.refl .none s
  unfold execHoldReleaseReport
  refine .next ?_
  split
  · exact .le (by decide) (.branch h h.refuseRequest)
  · exact .le (by decide) h

def routeSettleFoot : Foot :=
  ⟨[.resp, .sent, .twl, .tks, .egr], .EGR_OUT_TAKE :: routeFoot⟩

theorem execRouteSettle_frame {req} : Completes (Frame routeSettleFoot s) (execRouteSettle req s) := by
  have h := Frame.refl .none s
  unfold execRouteSettle
  refine .next ?_
  split
  · exact .le (by decide) (.branch h h.settle.routeReady.answer)
  · exact .le (by decide) h

def forwardedTakeFoot : Foot :=
  ⟨[.resp, .freeCtr, .sent, .host, .twl, .nim, .tks], .GLB_INT_SUM :: .TWL_ADMIT_REFUSED :: .EGR_OUT_TAKE :: .NIM_INT_STAT ::
      .NIM_JRN_FREE :: .NIM_JRN_OPEN :: .NIM_CQ_LOST :: .NIM_CQ_TAIL :: .NIM_SVC_STAT :: routeFoot⟩

theorem execForwardedTake_frame {key salvo atomic time members} :
    Completes (Frame forwardedTakeFoot s) (execForwardedTake key salvo atomic time members s) := by
  have h := Frame.refl .none s
  unfold execForwardedTake
  refine .next ?_
  split
  · exact .le (by decide) (.branch h.answer (.branch h.answer h.answer.takeMembers))
  · split
    · exact .le (by decide) h.answer
    · exact .le (by decide) (.branch h.answer (.branch h.answer (.branch h.answer h.updNim.showJournal.answer.takeMembers)))

def partnerAdmissionResultFoot : Foot :=
  ⟨[.resp, .sent, .host, .twl, .nim, .tks], .GLB_INT_SUM :: .EGR_OUT_TAKE :: .NIM_INT_STAT :: .NIM_JRN_FREE :: .NIM_JRN_OPEN ::
      .NIM_CQ_LOST :: .NIM_CQ_TAIL :: .NIM_SVC_STAT :: routeFoot⟩

theorem execPartnerAdmissionResult_frame {key sig pos st} :
    Completes (Frame partnerAdmissionResultFoot s) (execPartnerAdmissionResult key sig pos st s) := by
  have h := Frame.refl .none s
  unfold execPartnerAdmissionResult
  refine .next ?_
  split
  · exact .le (by decide) h
  · exact .le (by decide) (.branch (.branch h.setTake h.refuseWhole) h.refuseWhole)

def takeArmedFoot : Foot :=
  ⟨[.resp, .freeCtr, .sent, .host, .twl, .nim, .tks], .GLB_INT_SUM :: .EGR_OUT_TAKE :: .NIM_INT_STAT :: .NIM_JRN_FREE ::
      .NIM_JRN_OPEN :: .NIM_CQ_LOST :: .NIM_CQ_TAIL :: .NIM_SVC_STAT :: routeFoot⟩

theorem execTakeArmed_frame {key sig pos} : Completes (Frame takeArmedFoot s) (execTakeArmed key sig pos s) := by
  have h := Frame.refl .none s
  unfold execTakeArmed
  refine .next ?_
  split
  · exact .le (by decide) h
  · exact .le (by decide) (.branch h (.memberArmed (.branch h.setTake.moveTake h.setTake)))

def takeRouteLostFoot : Foot :=
  ⟨[.twl, .tks], .TWL_ADMIT_REFUSED :: routeFoot⟩

theorem execTakeRouteLost_frame {key sig pos v} : Completes (Frame takeRouteLostFoot s) (execTakeRouteLost key sig pos v s) := by
  have h := Frame.refl .none s
  unfold execTakeRouteLost
  refine .next ?_
  split
  · exact .le (by decide) h
  · exact .le (by decide) h.rerouteTake

def xchkRecordReceiveFoot : Foot :=
  ⟨[.resp, .freeCtr, .sent, .host, .awl, .tks, .rsl], .GLB_INT_SUM :: .GLB_INT_STAT :: .GLB_ALERT_STAT :: .RSL_INT_STAT ::
      .RSL_XCHK_LAST :: .RSL_XCHK_DIV :: .RSL_XCHK_EXPL :: .RSL_XCHK_MISS :: awlFoot⟩

theorem execXchkRecordReceive_frame {r} : Completes (Frame xchkRecordReceiveFoot s) (execXchkRecordReceive r s) := by
  have h := Frame.refl .none s
  unfold execXchkRecordReceive
  refine .next ?_
  split
  · exact .le (by decide) h
  · extract_lets _ s1 s2 _ s3
    have h1 : Frame xchkRecordReceiveFoot s s1 := .le (by decide) h.updTks
    have h2 : Frame xchkRecordReceiveFoot s s2 := .le (by decide) h1.count
    have h3 : Frame xchkRecordReceiveFoot s s3 := .le (by decide) (.branch h1 h2.updRsl)
    split
    · exact h3
    · exact .le (by decide) h3.updTks.compareX

def otdFrameBoundaryFoot : Foot :=
  ⟨[.sent, .host, .awl, .ing, .twl, .tks, .egr, .vmp, .rsl], .GLB_INT_SUM :: .ING_POOL_USED :: .ING_INT_STAT :: .ING_LOSS_SUM ::
      .ING_IN_STAT :: .ING_IN_ALLOC :: .ING_IN_PHASE :: .ING_IN_SLIP :: .ING_IN_LOSSCNT :: .EGR_INT_STAT :: .EGR_HEALTH_STAT ::
      .EGR_OTD_FCNT :: .EGR_OTD_STAT :: .EGR_OUT_STAT :: .EGR_VSND_STAT :: .VMP_INT_STAT :: .VMP_PIPE_STAT :: .VMP_PIPE_APPLIED
      :: .VMP_PIPE_PEND :: .VMP_PIPE_NRDY :: .VMP_PIPE_HELD :: .VMP_LAYER_STAT :: .VMP_SURF_USE :: .RSL_XCHK_MISS :: (awlFoot ++
      routeFoot)⟩

theorem execOtdFrameBoundary_frame {d phases crcs} :
    Completes (Frame otdFrameBoundaryFoot s) (execOtdFrameBoundary d phases crcs s) :=
  .chain (by decide) fun h => .branch h
    h.sendX.nextFrame.outputsBoundary.pipesBoundary.inputsBoundary.flagSources.showMismatch.senderBoundary

def outputLineFoot : Foot :=
  ⟨[.sent, .host, .egr], [.GLB_INT_SUM, .EGR_INT_STAT, .EGR_OUT_STAT, .EGR_OUT_GAP, .EGR_OUT_ANCDROP]⟩

theorem execOutputLine_frame {n gaps slips ancDrops} :
    Completes (Frame outputLineFoot s) (execOutputLine n gaps slips ancDrops s) := by
  have h := Frame.refl .none s
  unfold execOutputLine
  refine .next ?_
  extract_lets _ s1 s2 s3 _ s4
  have h1 : Frame outputLineFoot s s1 := .le (by decide) (.branch h h.count.irq)
  have h2 : Frame outputLineFoot s s2 := .le (by decide) (.branch h1 h1.count.setFlag)
  have h3 : Frame outputLineFoot s s3 := .le (by decide) (.branch h2 h2.count.irq)
  have h4 : Frame outputLineFoot s s4 := .le (by decide) h3.setOut
  exact .le (by decide) (.branch h (.branch h4.setFlag h4))

def senderStopFoot : Foot :=
  ⟨[.resp, .sent, .host, .twl, .tks, .egr], .TWL_ADMIT_REFUSED :: .EGR_INT_STAT :: .EGR_VSND_CFG :: .EGR_VSND_STAT ::
      .EGR_ASND_CFG :: .EGR_XSND_CFG :: .TWD_OUT_RES :: pcieFoot⟩

theorem execSenderStop_frame {src k i} : Completes (Frame senderStopFoot s) (execSenderStop src k i s) := by
  have h := Frame.refl .none s
  unfold execSenderStop
  refine .next ?_
  split
  · exact .le (by decide) h.writeVsndCfg
  · exact .le (by decide) h.writeAsndCfg
  · exact .le (by decide) h.writeXsndCfg

end Sys2Proof.Machine
end

section
open Sys2Proof Sys2Proof.Machine

/-- Settles O53: each command is a chain of operations, each of which changes no more than its own footprint; the chain
ends within the footprint that the statement lists. -/
theorem egressAndTakeFrames : Obligations.EgressAndTakeFrames := by
  unfold Obligations.EgressAndTakeFrames
  refine ⟨⟨fun _ _ => .le (by decide) execRouteHoldTimeout_frame,
    fun _ _ => .le (by decide) execHoldReleaseReport_frame⟩,
   fun _ _ => .le (by decide) execRouteSettle_frame,
   fun _ _ _ _ _ _ => .le (by decide) execForwardedTake_frame,
   fun _ _ _ _ _ => .le (by decide) execPartnerAdmissionResult_frame,
   fun _ _ _ _ => .le (by decide) execTakeArmed_frame,
   fun _ s => .chain (by decide) fun h => .branch h h.switchTakes.applyReleases,
   fun _ _ _ _ _ => .le (by decide) execTakeRouteLost_frame,
   fun _ _ s => .chain (by decide) fun h => h.routeRetry,
   fun _ _ => .le (by decide) execXchkRecordReceive_frame,
   fun _ _ _ _ => .le (by decide) execOtdFrameBoundary_frame,
   fun _ _ _ s => .chain (by decide) fun h => h.writeOtdCfg,
   fun _ _ _ s => .chain (by decide) fun h => h.writeOtdPhase,
   ⟨fun _ _ _ s => .chain (by decide) fun h => h.writeOutCfg,
    fun _ _ s => .chain (by decide) fun h => h.writeOutCfg,
    fun _ _ s => .chain (by decide) fun h => h.writeOutCfg,
    fun _ _ _ _ s => .chain (by decide) fun h => h.writeOutCfg⟩,
   fun _ s => .chain (by decide) fun h => .branch h.outputOff h,
   fun _ _ _ _ _ => .le (by decide) execOutputLine_frame,
   fun _ _ _ s => .chain (by decide) fun h => h.writePat,
   fun _ _ _ _ s => .chain (by decide) fun h => h.writeIdent,
   fun _ _ _ s => .chain (by decide) fun h => h.writeOutAud,
   fun _ _ _ s => .chain (by decide) fun h => h.writeOutSdi,
   fun _ _ _ _ s => .chain (by decide) fun h => h.writeVsndCfg,
   fun _ _ _ _ s => .chain (by decide) fun h => h.writeVsndSrc,
   fun _ _ _ _ s => .chain (by decide) fun h => .branch h.writeAsndFmt h.writeAsndCfg,
   fun _ _ _ s => .chain (by decide) fun h => h.writeXsndCfg,
   fun _ _ _ _ s => .chain (by decide) fun h => .branch h (.branch h.count (.sendRtp (.setSender (.branch h.count.irq h)))),
   fun _ _ s => .chain (by decide) fun h => .branch h (.branch h.setSender.sendRtp.senderOff h.setSender.sendRtp),
   fun _ _ _ s => .chain (by decide) fun h => .branch h h.sendRtp,
   fun _ _ _ _ => .le (by decide) execSenderStop_frame,
   ⟨fun _ _ _ _ s => .chain (by decide) fun h => h.writeJoin,
    fun _ _ s => .chain (by decide) fun h => h.writeJoin⟩,
   ⟨fun _ s => .chain (by decide) fun h => .branch h h.report.setJoin,
    fun _ s => .chain (by decide) fun h => .branch h.report.setJoin h⟩,
   fun _ s => .chain (by decide) fun h => .branch h.setFld.irq.awlState h,
   fun _ _ s => .chain (by decide) fun h => .fold h fun _ _ h1 => .branch h1.setJoin h1,
   fun _ s => .chain (by decide) fun h => .fold h fun _ _ h1 => .branch h1.report.setFld.irq.awlState h1,
   fun _ s => .chain (by decide) fun h => .fold h fun _ _ h1 => .branch h1.changeReport h1,
   fun _ s => .chain (by decide) fun h => .branch h.setHealth h.health,
   fun _ _ _ s => .chain (by decide) fun h => h.writeHealthCtrl,
   fun _ s => .chain (by decide) fun h => h.writeEgrCtrl⟩

end

section
/-! SUPPORT of O54: the frames of the commands of the queues, the journal and the contexts that are more than one chain of operations. -/

namespace Sys2Proof.Machine

variable {e f g : Foot} {s₀ s t a b : State}

def journalMirrorReceiveFoot : Foot :=
  ⟨[.sent, .host, .nim], [.GLB_INT_SUM, .NIM_INT_STAT, .NIM_JRN_FREE, .NIM_JRN_OPEN, .NIM_CORE_STAT, .NIM_Q_HWM]⟩

theorem execJournalMirrorReceive_frame {e'} : Completes (Frame journalMirrorReceiveFoot s) (execJournalMirrorReceive e' s) := by
  have h := Frame.refl .none s
  unfold execJournalMirrorReceive
  refine .next ?_
  split
  · exact .le (by decide) h.emit
  · exact .le (by decide) (.branch h.emit (.branch h.emit (.branch h.emit h.copyEntry.emit)))

def journalMirrorReplyFoot : Foot :=
  ⟨[.sent, .host, .nim], [.GLB_INT_SUM, .NIM_INT_STAT, .NIM_JRN_FREE, .NIM_JRN_OPEN, .NIM_ACCEPTED, .NIM_REFUSED, .NIM_CORE_STAT,
      .NIM_CQ_TAIL, .NIM_Q_STAT, .NIM_Q_HWM, .NIM_Q_REFUSED, .RSL_PAIR_STAT]⟩

theorem execJournalMirrorReply_frame {key st} : Completes (Frame journalMirrorReplyFoot s) (execJournalMirrorReply key st s) := by
  have h := Frame.refl .none s
  unfold execJournalMirrorReply
  refine .next ?_
  split
  · exact .le (by decide) h
  · exact .le (by decide) (.branch h (.branch h.ackEntry h.mirrorRefused))

def journalResendTimerFoot : Foot :=
  ⟨[.sent], []⟩

theorem execJournalResendTimer_frame {key} : Completes (Frame journalResendTimerFoot s) (execJournalResendTimer key s) := by
  have h := Frame.refl .none s
  unfold execJournalResendTimer
  refine .next ?_
  split
  · exact .le (by decide) h
  · exact .le (by decide) (.branch h.emit h)

def entryStartFoot : Foot :=
  ⟨[.sent, .host, .nim], [.GLB_INT_SUM, .NIM_INT_STAT, .NIM_JRN_FREE, .NIM_JRN_OPEN, .NIM_CORE_STAT]⟩

theorem execEntryStart_frame {key core} : Completes (Frame entryStartFoot s) (execEntryStart key core s) := by
  have h := Frame.refl .none s
  unfold execEntryStart
  refine .next ?_
  split
  · exact .le (by decide) h
  · extract_lets _ _ _ _ s1
    have h1 : Frame entryStartFoot s s1 := .le (by decide) h.setEntry
    split
    · exact .le (by decide) h
    · split
      · exact .le (by decide) h
      · exact .le (by decide) h1.setCtx.ready.showCore.showJournal.showCores

def journalEntryFreeFoot : Foot :=
  ⟨[.sent, .host, .nim], [.GLB_INT_SUM, .NIM_INT_STAT, .NIM_JRN_FREE, .NIM_JRN_OPEN, .NIM_CORE_STAT]⟩

theorem execJournalEntryFree_frame : Completes (Frame journalEntryFreeFoot s) (execJournalEntryFree s) := by
  have h := Frame.refl .none s
  unfold execJournalEntryFree
  refine .next ?_
  split
  · exact .le (by decide) h
  · exact .le (by decide) (.branch h.dropEntry h)

def budgetTrapFoot : Foot :=
  ⟨[.sent, .host, .awl, .twl, .nim, .tks], .GLB_INT_SUM :: (awlFoot ++ entryFoot ++ trapFoot)⟩

theorem execBudgetTrap_frame {core} : Completes (Frame budgetTrapFoot s) (execBudgetTrap core s) := by
  have h := Frame.refl .none s
  unfold execBudgetTrap
  refine .next ?_
  split
  · exact .le (by decide) h
  · split
    · exact .le (by decide) h.trapCtx
    · exact .le (by decide) h

def partnerRejoinFoot : Foot :=
  ⟨[.sent, .host, .nim, .tks], [.GLB_INT_SUM, .BOOT_STAGE, .BOOT_TIME, .EGR_OUT_TAKE, .NIM_STATUS, .NIM_INT_STAT, .NIM_JRN_FREE,
      .NIM_JRN_OPEN, .NIM_CORE_STAT, .NIM_CQ_TAIL, .NIM_Q_STAT, .NIM_Q_HWM]⟩

theorem execPartnerRejoin_frame {sel applied entries} :
    Completes (Frame partnerRejoinFoot s) (execPartnerRejoin sel applied entries s) := by
  have h := Frame.refl .none s
  unfold execPartnerRejoin
  extract_lets s1 _ s2 s3 s4 _ s5
  have h1 : Frame partnerRejoinFoot s s1 := .le (by decide) (.fold h fun _ _ h1 => h1.imageSel.setFld)
  have h2 : Frame partnerRejoinFoot s s2 := .le (by decide) h1.updNim
  have h3 : Frame partnerRejoinFoot s s3 := .le (by decide) h2.setFlag
  have h4 : Frame partnerRejoinFoot s s4 := by
    dsimp only [s4]
    refine .le (by decide) (.fold (g := partnerRejoinFoot) h3 fun s6 e h4 => ?_)
    split
    · exact .le (by decide) (.branch h4.copyEntry h4.copyEntry)
    · exact .le (by decide) (.branch h4.setEntry h4)
  have h5 : Frame partnerRejoinFoot s s5 := .le (by decide) h4.updNim
  exact .next (.le (by decide) h5.showJournal.showCores.showQueues.replayCheck)

end Sys2Proof.Machine
end

section
open Sys2Proof Sys2Proof.Machine

/-- Settles O54: each command is a chain of operations, each of which changes no more than its own footprint; the chain
ends within the footprint that the statement lists. -/
theorem journalFrames : Obligations.JournalFrames := by
  unfold Obligations.JournalFrames
  refine ⟨fun _ _ _ s => .chain (by decide) fun h => h.writeSqTail,
   fun _ _ s => .chain (by decide) fun h => .branch h.takeSqe.showQueue h.showQueue,
   fun _ _ _ s => .chain (by decide) fun h => h.writeCqHead,
   fun _ _ => .le (by decide) execJournalMirrorReceive_frame,
   fun _ _ _ => .le (by decide) execJournalMirrorReply_frame,
   ⟨fun _ _ => .le (by decide) execJournalResendTimer_frame,
    fun s => .chain (by decide) fun h => .branch h.emit h⟩,
   fun _ _ s => .chain (by decide) fun h => .branch h h.updNim.updNim.setFld.setFld.setFlag.showQueues,
   ⟨fun _ _ _ => .le (by decide) execEntryStart_frame,
    fun _ => .le (by decide) execJournalEntryFree_frame⟩,
   fun _ _ => .le (by decide) execBudgetTrap_frame,
   fun _ _ s => .chain (by decide) fun h => h.journalReplay,
   fun s => .chain (by decide) fun h => .branch h h.setFld.setFlag.showQueues,
   fun _ _ s => .chain (by decide) fun h => .awlUnstated (.fold (.fold h fun _ _ h1 => h1.emit) fun _ _ h1 => h1.copyEntry),
   fun _ _ _ _ => .le (by decide) execPartnerRejoin_frame,
   ⟨fun _ s => .chain (by decide) fun h => h.writeNimCtrl,
    fun _ s => .chain (by decide) fun h => h.writeNimCtrl⟩,
   fun s => .chain (by decide) fun h => .branch h.killPrograms.setFlag.setFld h,
   fun _ s => .chain (by decide) fun h => .fold h fun _ _ h1 => .branch h1.setFld.irq h1.startSvc,
   fun _ s => .chain (by decide) fun h => .branch h.startSvc.setFld h⟩

end

section
/-! SUPPORT of O57: the frames of the commands of Vamp pipes, the Last clock, time bases, triggers and captures that are more than one chain of operations. -/

namespace Sys2Proof.Machine

variable {e f g : Foot} {s₀ s t a b : State}

def surfGenApplyFoot : Foot :=
  ⟨[.vmp], [.VMP_SURF_GEN]⟩

theorem execSurfGenApply_frame : Completes (Frame surfGenApplyFoot s) (execSurfGenApply s) := by
  have h := Frame.refl .none s
  unfold execSurfGenApply
  refine .next ?_
  split
  · exact .le (by decide) h
  · exact .le (by decide) h.updVmp.set

def lastEvaluationFoot : Foot :=
  ⟨[.sent, .host, .awl, .egr, .asp, .lst], .GLB_INT_SUM :: .EGR_INT_STAT :: .EGR_HEALTH_STAT :: .ASP_INT_STAT :: .ASP_INT_SRC ::
      .ASP_TX_STAT :: .ASP_TX_FAULTS :: .ASP_RX_STAT :: .ASP_RX_FAULTS :: .LST_STATUS :: .LST_INT_STAT :: .LST_FREQ ::
      .LST_HOLD_FREQ :: .LST_PHASE_ERR :: .LST_SLEW_LEFT :: .LST_HOLD_STAT :: .LST_SWITCHES :: .LST_TAG :: .LST_REF_STAT ::
      .LST_TB_STAT :: .NTM_SRV_STAT :: awlFoot⟩

theorem execLastEvaluation_frame {o} : Completes (Frame lastEvaluationFoot s) (execLastEvaluation o s) := by
  have h := Frame.refl .none s
  unfold execLastEvaluation
  extract_lets s1 s2 _ s3 s4
  have h2 : Frame lastEvaluationFoot s s2 := .le (by decide) (.showDisagree (.branch h.setFreq h))
  have h3 : Frame lastEvaluationFoot s s3 := .le (by decide) h2.setFlag.setLst
  have h4 : Frame lastEvaluationFoot s s4 := by
    dsimp only [s4]
    split
    · exact h2
    · exact .le (by decide) (.branch h3.holdOver (.branch h3.showSel h3))
    · rename_i r pick forced _
      have h5 : Frame lastEvaluationFoot s ((s2.setFlag F.LST_STATUS_FORCED 0 forced).setFld F.LST_STATUS_PICK 0 pick) :=
        .le (by decide) h2.setFlag.setFld
      exact .same (.le (by decide) h5.setLst) (.same (.le (by decide) (.setLst (.branch h5.irq h5)))
        (.le (by decide) (.switchTo (.branch h5.irq h5))))
  exact .next (.absorb (by decide) h4.laneQual)

def slewStepFoot : Foot :=
  ⟨[.sent, .tb, .host, .awl, .lst], .GLB_INT_SUM :: .LST_STATUS :: .LST_INT_STAT :: .LST_PHASE_ERR :: .LST_SLEW_LEFT ::
      .LST_SWITCHES :: .LST_TAG :: .LST_REF_STAT :: .NTM_SRV_STAT :: awlFoot⟩

theorem execSlewStep_frame {phase} : Completes (Frame slewStepFoot s) (execSlewStep phase s) := by
  have h := Frame.refl .none s
  unfold execSlewStep
  refine .next ?_
  split
  · exact .le (by decide) h
  · extract_lets _ _ _ s1 _ s2
    have h1 : Frame slewStepFoot s s1 := .le (by decide) h.movePhase
    have h2 : Frame slewStepFoot s s2 := .le (by decide) h1.set
    split
    · exact .le (by decide) (.switchTo (.branch h2 h2.event))
    · exact .le (by decide) (.branch h2.setFlag.set.setLst h2)

def alignEdgeFoot : Foot :=
  ⟨[.resp, .freeCtr, .sent, .tb, .host, .awl, .twl, .nim, .tks, .egr, .ntm], .GLB_INT_SUM :: .EGR_INT_STAT :: .EGR_HEALTH_STAT ::
      .EGR_OTD_STAT :: .EGR_OUT_TAKE :: .NIM_INT_STAT :: .NIM_JRN_FREE :: .NIM_JRN_OPEN :: .NIM_CQ_LOST :: .NIM_CQ_TAIL ::
      .NIM_SVC_STAT :: .NTM_STATUS :: .NTM_INT_STAT :: .NTM_TRG_SRC :: .NTM_TB_STAT :: .NTM_TB_ALIGN_OFF :: .NTM_TB_STEPS ::
      .NTM_TRG_CFG :: .NTM_TRG_STAT :: .NTM_TRG_T :: .NTM_TRG_LATE :: .NTM_TRG_MISSED :: (awlFoot ++ routeFoot)⟩

theorem execAlignEdge_frame {k} : Completes (Frame alignEdgeFoot s) (execAlignEdge k s) :=
  .chain (by decide) fun h => .branch h (.branch h.set.setServo.setFlag (.branch h.set.setServo (.branch
    h.set.setServo.setFlag.irq.stepBy h.set.setServo.setFlag.irq)))

end Sys2Proof.Machine
end

section
open Sys2Proof Sys2Proof.Machine

/-- Settles O57: each command is a chain of operations, each of which changes no more than its own footprint; the chain
ends within the footprint that the statement lists. -/
theorem vampLastAndTimeFrames : Obligations.VampLastAndTimeFrames := by
  unfold Obligations.VampLastAndTimeFrames
  refine ⟨⟨fun _ _ _ s => .chain (by decide) fun h => h.writePipeCfg,
    fun _ _ s => .chain (by decide) fun h => h.writePipeCfg,
    fun _ _ s => .chain (by decide) fun h => h.writePipeCfg⟩,
   fun _ s => .chain (by decide) fun h => .branch h.pipeStop h,
   fun _ _ _ s => .chain (by decide) fun h => h.writeSurfCfg,
   fun _ => .le (by decide) execSurfGenApply_frame,
   fun _ s => .chain (by decide) fun h => h.writeVmpCtrl,
   fun _ _ => .le (by decide) execLastEvaluation_frame,
   fun _ _ s => .chain (by decide) fun h => h.refLost,
   fun _ s => .chain (by decide) fun h => .branch h (.branch h (.branch h h.setFlag.setFld.setFld.setLst)),
   fun _ s => .chain (by decide) fun h => .branch h.setFlag.setFld.setFld h,
   fun _ _ => .le (by decide) execSlewStep_frame,
   ⟨fun s => .chain (by decide) fun h => .branch h.setLst.enterLst h,
    fun s => .chain (by decide) fun h => h.toLost,
    fun s => .chain (by decide) fun h => h.setFlag.event.toLost⟩,
   ⟨fun _ s => .chain (by decide) fun h => h.writeLstCtrl,
    fun _ s => .chain (by decide) fun h => h.writeLstCtrl⟩,
   fun _ _ s => .chain (by decide) fun h => h.writeSteer,
   fun _ _ _ s => .chain (by decide) fun h => h.writeRefCfg,
   ⟨fun _ s => .chain (by decide) fun h => h.setLst.refclkSettle,
    fun _ s => .chain (by decide) fun h => h.setLst.refclkSettle⟩,
   ⟨fun _ s => .chain (by decide) fun h => h.laneQual,
    fun _ s => .chain (by decide) fun h => h.setFlag.laneQual⟩,
   fun _ s => .chain (by decide) fun h => .branch h (.refit (.branch h.setLst.setFlag.awlUnstated h.setLst)),
   fun s => .chain (by decide) fun h => .branch h.showHold.set.setFlag.irq.awlCause h.showHold.set,
   ⟨fun _ _ s => .chain (by decide) fun h => h.writeTbAdj,
    fun _ _ s => .chain (by decide) fun h => h.writeTbAdj⟩,
   fun _ _ _ s => .chain (by decide) fun h => h.writeTbCfg,
   fun _ _ _ s => .chain (by decide) fun h => h.writeFeed,
   ⟨fun _ _ s => .chain (by decide) fun h => .branch h.ptpSend h,
    fun _ _ s => .chain (by decide) fun h => .branch (.branch h.ptpSend h.ptpSend.ptpSend) h⟩,
   ⟨fun _ _ _ s => .chain (by decide) fun h => .branch h.ptpRequest h,
    fun _ _ _ s => .chain (by decide) fun h => .branch h.ptpRequest h⟩,
   fun _ _ s => .chain (by decide) fun h => .branch (.branch h.setFlag.irq.samplesStop h.setFlag.irq) h,
   fun _ s => .chain (by decide) fun h => h.samplesStop,
   fun _ _ _ _ s => .chain (by decide) fun h => h.writePtpPort,
   fun _ _ => .le (by decide) execAlignEdge_frame,
   ⟨fun _ _ _ s => .chain (by decide) fun h => h.writeTrg,
    fun _ _ s => .chain (by decide) fun h => h.writeTrg,
    fun _ _ s => .chain (by decide) fun h => h.writeTrg⟩,
   fun _ s => .chain (by decide) fun h => .branch h.trgFire.trgPass h,
   fun _ s => .chain (by decide) fun h => .branch (.branch h.setGpio.setTrg.setFld.ntmIdle h.setGpio.setTrg) h,
   fun _ _ s => .chain (by decide) fun h => .branch h (.branch h.count.irq h.setCap.showCap),
   fun _ s => .chain (by decide) fun h => h.readCap,
   fun _ s => .chain (by decide) fun h => h.writeNtmCtrl⟩

end

section
/-! SUPPORT of O58: the frames of the commands of serial lanes, Lace links and network ports that are more than one chain of operations. -/

namespace Sys2Proof.Machine

variable {e f g : Foot} {s₀ s t a b : State}

def linkControlCellFoot : Foot :=
  ⟨[.freeCtr, .sent, .host, .awl, .twl, .lst, .net], .GLB_INT_SUM :: .TWL_INT_STAT :: .TWL_LK_STAT :: .TWL_LK_SHED :: .LST_VALID
      :: .LST_QUAL :: .LST_INT_STAT :: .LST_TAG :: .LST_REF_STAT :: .LST_REF_LOSS :: .LST_REF_PEER :: .WLT_INT_STAT ::
      .WLT_LK_SRC :: .WLT_LK_STAT :: .WLT_LK_DOWNS :: .WLT_LK_DEGRADES :: .WLT_LK_REPLAY :: awlFoot⟩

theorem execLinkControlCell_frame {k credits lost tag} :
    Completes (Frame linkControlCellFoot s) (execLinkControlCell k credits lost tag s) := by
  have h := Frame.refl .none s
  unfold execLinkControlCell
  extract_lets _ s1 s2
  have h1 : Frame linkControlCellFoot s s1 := .le (by decide) (.fold h fun _ _ h1 => h1.creditReturn)
  have h2 : Frame linkControlCellFoot s s2 := by
    dsimp only [s2]
    split
    · exact .le (by decide) h1.laneFails
    · exact .le (by decide) h1
  exact .next (.le (by decide) (.branch h2.takeTag h))

def ptpMessageReceiveFoot : Foot :=
  ⟨[.resp, .freeCtr, .sent, .tb, .host, .awl, .twl, .nim, .tks, .egr, .lst, .ntm, .net], .GLB_INT_SUM :: .EGR_INT_STAT ::
      .EGR_HEALTH_STAT :: .EGR_OTD_STAT :: .EGR_OUT_TAKE :: .NIM_INT_STAT :: .NIM_JRN_FREE :: .NIM_JRN_OPEN :: .NIM_CQ_LOST ::
      .NIM_CQ_TAIL :: .NIM_SVC_STAT :: .LST_VALID :: .LST_QUAL :: .LST_INT_STAT :: .LST_REF_STAT :: .LST_REF_LOSS :: .LST_TB_STAT
      :: .NTM_STATUS :: .NTM_INT_STAT :: .NTM_TRG_SRC :: .NTM_TB_STAT :: .NTM_TB_STEPS :: .NTM_SRV_STAT :: .NTM_SRV_OFFSET ::
      .NTM_SRV_SAMPLES :: .NTM_SRV_REJECT :: .NTM_PORT_STAT :: .NTM_PORT_MPD :: .NTM_PORT_RXMSG :: .NTM_PORT_TXMSG ::
      .NTM_TRG_CFG :: .NTM_TRG_STAT :: .NTM_TRG_T :: .NTM_TRG_LATE :: .NTM_TRG_MISSED :: .NPT_INT_STAT :: .NPT_STEER_MISS ::
      .NPT_STEER_DROP :: .NPT_RX_FRAMES :: .NPT_RX_BYTES :: .NPT_RX_FCS :: .NPT_RX_LEN :: .NPT_RX_TAG :: .NPT_RX_ADDR ::
      .NPT_RX_CSUM :: .NPT_RXR_HEAD :: .NPT_RXR_DROP :: .NPT_RXR_FRAMES :: (awlFoot ++ routeFoot)⟩

theorem execPtpMessageReceive_frame {p m fr} : Completes (Frame ptpMessageReceiveFoot s) (execPtpMessageReceive p m fr s) := by
  have h := Frame.refl .none s
  unfold execPtpMessageReceive
  refine .next ?_
  split
  · exact .le (by decide) h
  · refine .le (by decide) (.macIn (g := ptpMessageReceiveFoot) h fun s1 h1 => ?_)
    split
    · exact .le (by decide) h1.steerCtrl
    · exact .le (by decide) (.branch h1.ptpRelay (.branch h1.ptpConsume (.steerCtrl (.branch h1.ptpConsume h1))))

def eyeMeasureFoot : Foot :=
  ⟨[.resp, .sent, .host, .awl, .net], .GLB_INT_SUM :: .TWL_LK_STAT :: .WLT_INT_STAT :: .WLT_LK_SRC :: .WLT_LANE_EYE ::
      .WLT_LANE_DFE :: .WLT_LANE_ERR :: .WLT_LANE_FEC_UNC :: .WLT_LANE_PRBS_ERR :: .WLT_LK_STAT :: awlFoot⟩

theorem execEyeMeasure_frame {i o} : Completes (Frame eyeMeasureFoot s) (execEyeMeasure i o s) :=
  .chain (by decide) fun h => .branch h (.branch h.showEye.setLane (.branch h.showEye.setLane (.branch
    h.showEye.setLane.noteLane.event.startRecal.updResp h.showEye.setLane.noteLane.event)))

def laceIdentityReceiveFoot : Foot :=
  ⟨[.sent, .host, .awl, .net], .GLB_INT_SUM :: .TWL_INT_STAT :: .TWL_LK_STAT :: .WLT_INT_STAT :: .WLT_LK_SRC :: .WLT_LK_STAT ::
      .WLT_LK_PEER :: awlFoot⟩

theorem execLaceIdentityReceive_frame {k o} : Completes (Frame laceIdentityReceiveFoot s) (execLaceIdentityReceive k o s) :=
  .chain (by decide) fun h => .branch (.branch (.branch h.setLkState h) (.branch (.stopLink (.branch h.setLkState h)) (.identDone
    (.branch h.setLkState h)))) (.branch (.setLink (.setFld (.branch h.setLkState h))) (.branch h.setLkState h))

def laceReaddAttemptFoot : Foot :=
  ⟨[.freeCtr, .sent, .host, .awl, .net], .GLB_INT_SUM :: .TWL_LK_STAT :: .WLT_INT_STAT :: .WLT_LK_SRC :: .WLT_LANE_TXEQ ::
      .WLT_LANE_DFE :: .WLT_LK_STAT :: awlFoot⟩

theorem execLaceReaddAttempt_frame {k t' q} : Completes (Frame laceReaddAttemptFoot s) (execLaceReaddAttempt k t' q s) := by
  have h := Frame.refl .none s
  unfold execLaceReaddAttempt
  extract_lets
  refine .next ?_
  split
  · exact .le (by decide) h
  · split
    · exact .le (by decide) h
    · split
      · exact .le (by decide) h.readdFails
      · extract_lets _ s1 s2 s3
        have h1 : Frame laceReaddAttemptFoot s s1 := .le (by decide) h.setLink
        have h2 : Frame laceReaddAttemptFoot s s2 := .le (by decide) h1.loadTrain.carry
        have h3 : Frame laceReaddAttemptFoot s s3 := by
          dsimp only [s3]
          split
          · exact .le (by decide) h2.storeTrain
          · exact .le (by decide) h2
        exact .le (by decide) h3.noteLink.irq

def pauseReceiveFoot : Foot :=
  ⟨[.sent, .host, .net], [.GLB_INT_SUM, .NPT_INT_STAT, .NPT_PORT_STAT, .NPT_PAUSE_RX, .NPT_PAUSE_IGN]⟩

theorem execPauseReceive_frame {p pfc classes quanta} :
    Completes (Frame pauseReceiveFoot s) (execPauseReceive p pfc classes quanta s) :=
  .chain (by decide) fun h => .branch h (.branch (.branch h.count.count.irq h.count) (.setFlag (.setNetPort (.branch
    h.count.count.irq h.count))))

def txFrameCompleteFoot : Foot :=
  ⟨[.sent, .host, .net], []⟩

theorem execTxFrameComplete_frame {p time} : Completes (Frame txFrameCompleteFoot s) (execTxFrameComplete p time s) := by
  have h := Frame.refl .none s
  unfold execTxFrameComplete
  extract_lets _ s1
  have h1 : Frame txFrameCompleteFoot s s1 := .le (by decide) h.setNetPort
  refine .next ?_
  split
  · exact .le (by decide) h
  · split
    · exact .le (by decide) h1.writeBack
    · exact .le (by decide) h1

end Sys2Proof.Machine
end

section
open Sys2Proof Sys2Proof.Machine

/-- Settles O58: each command is a chain of operations, each of which changes no more than its own footprint; the chain
ends within the footprint that the statement lists. -/
theorem laneAndPortFrames : Obligations.LaneAndPortFrames := by
  unfold Obligations.LaneAndPortFrames
  refine ⟨fun _ s => .chain (by decide) fun h => .branch h.receiverLock h,
   fun _ _ s => .chain (by decide) fun h => .branch h.count (.branch h (.macIn h (fun _ h1 => h1.classify))),
   fun _ _ _ _ _ => .le (by decide) execLinkControlCell_frame,
   fun _ _ _ _ => .le (by decide) execPtpMessageReceive_frame,
   fun _ s => .chain (by decide) fun h => .branch (.branch h.laneLol.receiverUnlock h.laneLol) (.branch h.laneLol.portFall
       h.laneLol),
   fun _ _ _ => .le (by decide) execEyeMeasure_frame,
   ⟨fun _ _ s => .chain (by decide) fun h => h.writeLaneCtrl,
    fun _ _ s => .chain (by decide) fun h => h.writeLaneCtrl⟩,
   ⟨fun _ _ _ s => .chain (by decide) fun h => h.recalStep,
    fun _ s => .chain (by decide) fun h => h.setLink⟩,
   fun _ _ _ s => .chain (by decide) fun h => h.writeTxeq,
   fun _ _ _ s => .chain (by decide) fun h => h.writePrbs,
   ⟨fun _ _ _ s => .chain (by decide) fun h => h.writeLkCfg,
    fun _ _ s => .chain (by decide) fun h => h.writeLkCfg,
    fun _ _ s => .chain (by decide) fun h => h.writeLkCfg⟩,
   fun _ _ _ => .le (by decide) execLaceIdentityReceive_frame,
   ⟨fun _ s => .chain (by decide) fun h => .branch h.setLkState.setFld h,
    fun _ s => .chain (by decide) fun h => .branch h.setLkState.setFld h⟩,
   fun _ s => .chain (by decide) fun h => .branch h.startIdent (.branch h.emit h),
   fun _ _ s => .chain (by decide) fun h => .branch h.setLink.loadLink.setLkState h,
   fun _ _ _ s => .chain (by decide) fun h => .branch h (.branch h.stepFails (.branch h.setFld.linkComesUp h.setFld.stepTo)),
   ⟨fun _ s => .chain (by decide) fun h => .branch h.linkFall h,
    fun _ s => .chain (by decide) fun h => .branch h.linkFall h,
    fun _ _ s => .chain (by decide) fun h => .branch h.linkFall h⟩,
   fun _ _ _ s => .chain (by decide) fun h => h.laneFails,
   fun _ _ _ _ => .le (by decide) execLaceReaddAttempt_frame,
   ⟨fun _ _ s => .chain (by decide) fun h => h.writeLkCtrl,
    fun _ _ _ s => .chain (by decide) fun h => h.writeLkCtrl⟩,
   fun _ _ _ s => .chain (by decide) fun h => h.writeGrpCfg,
   ⟨fun _ _ _ s => .chain (by decide) fun h => h.writePortCfg,
    fun _ _ s => .chain (by decide) fun h => h.writePortCfg,
    fun _ _ s => .chain (by decide) fun h => h.writePortCfg⟩,
   fun _ s => .chain (by decide) fun h => .branch h.setPortState (.branch (.joinLinkUp (.irq (.setFld (.branch h.setPortState
       h)))) h),
   fun _ _ _ _ s => .chain (by decide) fun h => .branch h (.branch h.transmit (.branch h.setPortState h)),
   fun _ _ _ _ _ => .le (by decide) execPauseReceive_frame,
   fun _ s => .chain (by decide) fun h => h.setNetPort.setFlag,
   fun _ s => .chain (by decide) fun h => .branch h.setPortState.count h,
   fun _ _ s => .chain (by decide) fun h => .branch h.irq.wake.setFld.setPortState h,
   fun _ _ _ s => .chain (by decide) fun h => h.writeRxrTail,
   ⟨fun _ s => .chain (by decide) fun h => .branch h (.branch h.setRxr.raiseVector h.setRxr),
    fun _ _ _ => .le (by decide) execTxFrameComplete_frame⟩,
   fun _ _ _ _ s => .chain (by decide) fun h => h.writeTxrTail,
   fun _ s => .chain (by decide) fun h => .branch h.portStop.showNpt h,
   fun _ _ _ s => .chain (by decide) fun h => .branch h.writeRxrCfg h.writeTxrCfg,
   fun _ _ s => .chain (by decide) fun h => h.writeNptCtrl,
   fun _ _ _ s => .chain (by decide) fun h => .branch h.setFlag.setFlag.portFall h.setFlag.setFlag⟩

end

section
/-! SUPPORT of O59: the frames of the commands of resilience, the settings store, the Awl and field update that are more than one chain of operations. -/

namespace Sys2Proof.Machine

variable {e f g : Foot} {s₀ s t a b : State}

def selfCheckDoneFoot : Foot :=
  ⟨[.sent, .host, .awl, .twl, .nim, .tks, .egr], .GLB_INT_SUM :: .GLB_INT_STAT :: .GLB_ALERT_STAT :: .EGR_INT_STAT ::
      .EGR_HEALTH_STAT :: .NIM_CORE_STAT :: .RSL_STATUS :: .RSL_INT_STAT :: .RSL_XCHK_LAST :: .RSL_FENCE_STAT :: awlFoot⟩

theorem execSelfCheckDone_frame {step} : Completes (Frame selfCheckDoneFoot s) (execSelfCheckDone step s) := by
  have h := Frame.refl .none s
  unfold execSelfCheckDone
  refine .next ?_
  split
  · extract_lets s1 _ s2
    have h1 : Frame selfCheckDoneFoot s s1 := .le (by decide) h.emit.setFld
    have h2 : Frame selfCheckDoneFoot s s2 := .le (by decide) h1.updTks
    split
    · exact .le (by decide) h2.checkOutcome
    · exact .le (by decide) h2
  · exact .le (by decide) h

def selfCheckResultReceiveFoot : Foot :=
  ⟨[.sent, .host, .awl, .twl, .nim, .tks, .egr], .GLB_INT_SUM :: .GLB_INT_STAT :: .GLB_ALERT_STAT :: .EGR_INT_STAT ::
      .EGR_HEALTH_STAT :: .NIM_CORE_STAT :: .RSL_STATUS :: .RSL_INT_STAT :: .RSL_XCHK_LAST :: .RSL_FENCE_STAT :: awlFoot⟩

theorem execSelfCheckResultReceive_frame {passed} :
    Completes (Frame selfCheckResultReceiveFoot s) (execSelfCheckResultReceive passed s) := by
  have h := Frame.refl .none s
  unfold execSelfCheckResultReceive
  refine .next ?_
  split
  · exact .le (by decide) h
  · exact .le (by decide) h.updTks
  · exact .le (by decide) h.checkOutcome

def selfCheckResultTimeoutFoot : Foot :=
  ⟨[.sent, .host, .tks], [.GLB_INT_SUM, .GLB_INT_STAT, .GLB_ALERT_STAT, .RSL_XCHK_LAST]⟩

theorem execSelfCheckResultTimeout_frame : Completes (Frame selfCheckResultTimeoutFoot s) (execSelfCheckResultTimeout s) := by
  have h := Frame.refl .none s
  unfold execSelfCheckResultTimeout
  refine .next ?_
  split
  · exact .le (by decide) h.setFld.alert.updTks
  · exact .le (by decide) h

def spareClaimReceiveFoot : Foot :=
  ⟨[.sent, .rsl], []⟩

theorem execSpareClaimReceive_frame {claimant id} :
    Completes (Frame spareClaimReceiveFoot s) (execSpareClaimReceive claimant id s) := by
  have h := Frame.refl .none s
  unfold execSpareClaimReceive
  refine .next ?_
  split
  · split
    · exact .le (by decide) h.setRsl.emit
    · exact .le (by decide) h.emit
  · exact .le (by decide) h

def hbmPprFoot : Foot :=
  ⟨[.sent, .host, .awl, .rsl], .GLB_INT_SUM :: .RSL_STATUS :: .RSL_INT_STAT :: .RSL_REPAIR_USED :: .RSL_HBM_PPR ::
      .RSL_HBM_RETIRED :: awlFoot⟩

theorem execHbmPpr_frame {bank row page inUse} : Completes (Frame hbmPprFoot s) (execHbmPpr bank row page inUse s) :=
  .chain (by decide) fun h => .branch (.branch (.branch h h.setRsl) h.retirePage) (.addRepair (.branch h.setRsl.setFld.setFld
    h.setRsl.setFld))

def offlineTestDoneFoot : Foot :=
  ⟨[.sent, .host, .awl, .rsl], .GLB_INT_SUM :: .RSL_STATUS :: .RSL_INT_STAT :: .RSL_PHYS_STAT :: .RSL_REPAIR_USED :: awlFoot⟩

theorem execOfflineTestDone_frame {x passed} : Completes (Frame offlineTestDoneFoot s) (execOfflineTestDone x passed s) :=
  .chain (by decide) fun h => .branch h (.branch h.setRsl.setFld.setFld.setFld (.event (.branch (.branch h.setFld.setFld
    h.setFld.setFld.setRsl) (.addRepair (.branch h.setFld.setFld h.setFld.setFld.setRsl)))))

def mramScrubFoot : Foot :=
  ⟨[.sent, .host, .awl, .rsl], .GLB_INT_SUM :: .RSL_STATUS :: .RSL_INT_STAT :: .RSL_REPAIR_USED :: .RSL_SRAM_REP ::
      .RSL_MRAM_SCRUB :: awlFoot⟩

theorem execMramScrub_frame {corrected rows} : Completes (Frame mramScrubFoot s) (execMramScrub corrected rows s) := by
  have h := Frame.refl .none s
  unfold execMramScrub
  extract_lets _ _ _ _ _ _ s1 s2 _ s3 s4
  have h1 : Frame mramScrubFoot s s1 := .le (by decide) (.fold h fun _ _ h1 => h1.repairRow)
  have h2 : Frame mramScrubFoot s s2 := .le (by decide) h1.setFld
  have h3 : Frame mramScrubFoot s s3 := .le (by decide) h2.setRsl
  have h4 : Frame mramScrubFoot s s4 := .le (by decide) h3.setFld
  exact .next (.le (by decide) (.branch (.branch h4.ageWarn h4) (.branch h3.setFld h3)))

def drainBoundExpireFoot : Foot :=
  ⟨[.resp, .freeCtr, .sent, .host, .awl, .ing, .twl, .nim, .tks, .egr, .twd, .asp, .vmp, .ntm, .net], .GLB_INT_SUM :: .TWL_STATUS
      :: .TWL_KILLED :: .TWL_LK_STAT :: .ING_STATUS :: .ING_POOL_USED :: .ING_LOSS_SUM :: .ING_IN_STAT :: .ING_IN_ALLOC ::
      .EGR_STATUS :: .EGR_INT_STAT :: .EGR_HEALTH_STAT :: .EGR_OUT_TAKE :: .EGR_OUT_STAT :: .EGR_VSND_STAT :: .EGR_VSND_MISS ::
      .NIM_INT_STAT :: .NIM_JRN_FREE :: .NIM_JRN_OPEN :: .NIM_CQ_LOST :: .NIM_CQ_TAIL :: .NIM_SVC_STAT :: .TWD_STATUS ::
      .TWD_IN_RES :: .TWD_OUT_RES :: .TWD_CORE_STAT :: .TWD_CORE_FLAGS :: .ASP_STATUS :: .ASP_INT_STAT :: .ASP_INT_SRC ::
      .ASP_TX_CFG :: .ASP_TX_STAT :: .ASP_TX_KILLED :: .ASP_RX_CFG :: .ASP_RX_STAT :: .ASP_RX_KILLED :: .VMP_STATUS ::
      .VMP_INT_STAT :: .VMP_BUDGET :: .VMP_PIPE_CFG :: .VMP_PIPE_STAT :: .VMP_PIPE_PEND :: .VMP_LAYER_STAT :: .VMP_SURF_USE ::
      .NTM_STATUS :: .NTM_INT_STAT :: .NTM_PHY_TXABORT :: .NTM_TRG_CFG :: .NTM_TRG_STAT :: .WLT_INT_STAT :: .WLT_LK_SRC ::
      .WLT_LK_STAT :: .WLT_LK_DOWNS :: .NPT_STATUS :: .NPT_INT_STAT :: .NPT_LINK :: .NPT_PORT_STAT :: .NPT_LINK_DOWNS ::
      .NPT_TX_DISCARD :: .RSL_INT_STAT :: .RSL_DRAIN_OVR :: (awlFoot ++ routeFoot)⟩

theorem execDrainBoundExpire_frame {target} : Completes (Frame drainBoundExpireFoot s) (execDrainBoundExpire target s) := by
  have h := Frame.refl .none s
  unfold execDrainBoundExpire
  refine .next ?_
  split
  · exact .le (by decide) (.drainOver h (fun _ h1 => h1.killInput))
  · exact .le (by decide) (.drainOver h (fun _ h1 => h1.count.twillStop))
  · exact .le (by decide) (.drainOver h (fun _ h1 => h1.drainTakes.outputOff))
  · exact .le (by decide) (.drainOver h (fun _ h1 => h1.killCore.twdIdle))
  · exact .le (by decide) (.drainOver h (fun _ h1 => h1.aspStop.aspIdle))
  · exact .le (by decide) (.drainOver h (fun _ h1 => h1.pipeKill))
  · exact .le (by decide) (.drainOver h (fun _ h1 => h1.trgKill))
  · exact .le (by decide) (.drainOver h (fun _ h1 => h1.portStop.showNpt))
  · exact .le (by decide) (.drainOver h (fun _ h1 => h1.linkFall))

def spareClaimDelayFoot : Foot :=
  ⟨[.sent, .rsl], [.RSL_SPARE_STAT]⟩

theorem execSpareClaimDelay_frame : Completes (Frame spareClaimDelayFoot s) (execSpareClaimDelay s) := by
  have h := Frame.refl .none s
  unfold execSpareClaimDelay
  refine .next ?_
  split
  · exact .le (by decide) (.branch h.sendClaim h)
  · exact .le (by decide) h

def spareClaimGrantFoot : Foot :=
  ⟨[], [.GLB_CHIP, .NIM_STATUS, .NIM_PAIR_CFG, .NIM_PAIR_STAT, .NIM_Q_STAT, .RSL_STATUS, .RSL_SPARE_STAT]⟩

theorem execSpareClaimGrant_frame {survivor st} : Completes (Frame spareClaimGrantFoot s) (execSpareClaimGrant survivor st s) :=
  .chain (by decide) fun h => .branch h (.branch h.setFld.setFld
    h.setFld.setFld.setFld.setFlag.setFld.setFld.setFld.setFlag.showQueues)

def snapshotVerifyDoneFoot : Foot :=
  ⟨[.freeCtr, .sent, .host, .awl, .keep], .GLB_INT_SUM :: .RSL_STATUS :: .RSL_INT_STAT :: .RSL_FLASH_WEAR :: .SET_STATUS ::
      .SET_INT_STAT :: .SET_SNAP_SEQ :: .SET_SNAP_OPSEC :: .SET_SNAP_LEN :: .SET_SNAP_RESULT :: .SET_PAIR_FMT :: .SET_DELTA_USED
      :: .SET_SECTORS :: .SET_SNAPS :: awlFoot⟩

theorem execSnapshotVerifyDone_frame {failing} :
    Completes (Frame snapshotVerifyDoneFoot s) (execSnapshotVerifyDone failing s) := by
  have h := Frame.refl .none s
  unfold execSnapshotVerifyDone
  refine .next ?_
  split
  · exact .le (by decide) h
  · extract_lets _ s1 _ s2 s3
    have h1 : Frame snapshotVerifyDoneFoot s s1 := .le (by decide) h.setKeep.setFld
    have h2 : Frame snapshotVerifyDoneFoot s s2 := .le (by decide) h1.setKeep
    have h3 : Frame snapshotVerifyDoneFoot s s3 := .le (by decide) h2.showSnap.showDeltas
    split
    · exact .le (by decide) h3.irq.count.snapResult
    · exact .le (by decide) (.awlPersist (.snapResult (.irq (.checkBank (.fold h1 fun _ _ h4 => h4.retireSector)))))

def awlReadLatchDoneFoot : Foot :=
  ⟨[.freeCtr, .awl], [.AWL_RD_STAT, .AWL_RD_DATA]⟩

theorem execAwlReadLatchDone_frame {torn} : Completes (Frame awlReadLatchDoneFoot s) (execAwlReadLatchDone torn s) := by
  have h := Frame.refl .none s
  unfold execAwlReadLatchDone
  refine .next ?_
  split
  · exact .le (by decide) h
  · extract_lets _ _ s1
    have h1 : Frame awlReadLatchDoneFoot s s1 := .le (by decide) h.setAwl.set
    split
    · exact .le (by decide) h1.freeLatch
    · exact .le (by decide) (.branch h1.freeLatch.setFlag (.branch (.setFlag (.fold h1 fun _ _ h2 => h2.set)) (.setFlag (.fold h1
        fun _ _ h2 => h2.set))))

def updHeaderFoot : Foot :=
  ⟨[.resp, .freeCtr, .sent, .host, .awl, .keep, .upd], .GLB_INT_SUM :: .RSL_STATUS :: .RSL_INT_STAT :: .RSL_FLASH_WEAR ::
      .SET_INT_STAT :: .SET_SECTORS :: .UPD_STATUS :: .UPD_INT_STAT :: .UPD_LOCK :: .UPD_LAST_STATUS :: .UPD_NEXT ::
      .UPD_CONFIRM_LEFT :: .UPD_SESSION :: .UPD_SLOT_STAT :: .UPD_SLOT_VER :: .UPD_SLOT_FLOOR :: .UPD_SLOT_SEQ :: .UPD_PKT_RX ::
      .UPD_PKT_BUSY :: .UPD_AUTH_FAILS :: awlFoot⟩

theorem execUpdHeader_frame {port session layout h'} :
    Completes (Frame updHeaderFoot s) (execUpdHeader port session layout h' s) := by
  have h := Frame.refl .none s
  unfold execUpdHeader
  refine .next (.le (by decide) (.datagram (g := updHeaderFoot) h fun s1 h1 => ?_))
  split
  · exact .le (by decide) h1.takeLock.lastStatus.updAnswer
  · extract_lets s2 s3 s4 s5
    have h2 : Frame updHeaderFoot s1 s2 := .le (by decide) (.branch h1.count h1)
    have h3 : Frame updHeaderFoot s1 s3 := .le (by decide) (.branch h2.ownerSpoke h2)
    have h4 : Frame updHeaderFoot s1 s4 := .le (by decide) (.branch h3.authFail h3)
    have h5 : Frame updHeaderFoot s1 s5 := .le (by decide) (.branch h4.irq h4)
    exact .le (by decide) h5.lastStatus.updAnswer

def updDataFoot : Foot :=
  ⟨[.resp, .freeCtr, .sent, .upd], [.UPD_LOCK, .UPD_NEXT, .UPD_PKT_RX, .UPD_PKT_BUSY]⟩

theorem execUpdData_frame {port session layout off len} :
    Completes (Frame updDataFoot s) (execUpdData port session layout off len s) :=
  .chain (by decide) fun h => .datagram h (fun _ h1 => .owned h1 (fun _ h2 => .branch h2.updAnswer (.branch h2.updAnswer (.branch
    h2.updAnswer h2.setUpd.set.updAnswer))))

def updDataProgrammedFoot : Foot :=
  ⟨[.sent, .host, .awl, .keep, .upd], .GLB_INT_SUM :: .RSL_STATUS :: .RSL_INT_STAT :: .RSL_FLASH_WEAR :: .SET_INT_STAT ::
      .SET_SECTORS :: awlFoot⟩

theorem execUpdDataProgrammed_frame : Completes (Frame updDataProgrammedFoot s) (execUpdDataProgrammed s) := by
  have h := Frame.refl .none s
  unfold execUpdDataProgrammed
  refine .next ?_
  split
  · exact .le (by decide) h
  · exact .le (by decide) (.fold h.setUpd fun _ _ h1 => h1.eraseSector)

def updEndFoot : Foot :=
  ⟨[.resp, .freeCtr, .sent, .upd], [.UPD_STATUS, .UPD_LOCK, .UPD_LAST_STATUS, .UPD_CONFIRM_LEFT, .UPD_SLOT_STAT, .UPD_SLOT_VER,
      .UPD_SLOT_FLOOR, .UPD_SLOT_SEQ, .UPD_PKT_RX, .UPD_PKT_BUSY]⟩

theorem execUpdEnd_frame {port session layout} : Completes (Frame updEndFoot s) (execUpdEnd port session layout s) := by
  have h := Frame.refl .none s
  unfold execUpdEnd
  refine .next (.le (by decide) (.datagram (g := updEndFoot) h fun s1 h1 => ?_))
  refine .le (by decide) (.owned (g := updEndFoot) h1 fun s2 h2 => ?_)
  split
  · exact .le (by decide) h2
  · exact .le (by decide) (.branch h2.lastStatus.updAnswer h2.setUpd.showUpd)

def updBodyVerifiedFoot : Foot :=
  ⟨[.resp, .freeCtr, .sent, .host, .awl, .upd], .GLB_INT_SUM :: .UPD_STATUS :: .UPD_INT_STAT :: .UPD_LOCK :: .UPD_LAST_STATUS ::
      .UPD_NEXT :: .UPD_CONFIRM_LEFT :: .UPD_SESSION :: .UPD_SLOT_STAT :: .UPD_SLOT_VER :: .UPD_SLOT_FLOOR :: .UPD_SLOT_SEQ ::
      .UPD_AUTH_FAILS :: awlFoot⟩

theorem execUpdBodyVerified_frame {matches_} : Completes (Frame updBodyVerifiedFoot s) (execUpdBodyVerified matches_ s) := by
  have h := Frame.refl .none s
  unfold execUpdBodyVerified
  refine .next ?_
  split
  · exact .le (by decide) h
  · exact .le (by decide) (.branch h (.branch h.setSlot.lastStatus.updAnswer.releaseLock.irq
      h.authFail.lastStatus.updAnswer.releaseLock))

end Sys2Proof.Machine
end

section
open Sys2Proof Sys2Proof.Machine

/-- Settles O59: each command is a chain of operations, each of which changes no more than its own footprint; the chain
ends within the footprint that the statement lists. -/
theorem resilienceAndStoreFrames : Obligations.ResilienceAndStoreFrames := by
  unfold Obligations.ResilienceAndStoreFrames
  refine ⟨⟨fun _ _ => .le (by decide) execSelfCheckDone_frame,
    fun _ _ => .le (by decide) execSelfCheckResultReceive_frame⟩,
   fun _ => .le (by decide) execSelfCheckResultTimeout_frame,
   ⟨fun s => .chain (by decide) fun h => .branch h.setRsl.emit h,
    fun _ _ _ => .le (by decide) execSpareClaimReceive_frame⟩,
   ⟨fun s => .chain (by decide) fun h => .branch h.losePartner h,
    fun s => .chain (by decide) fun h => h.losePartner,
    fun s => .chain (by decide) fun h => h.losePartner,
    fun s => .chain (by decide) fun h => .branch h.losePartner h⟩,
   fun _ _ _ _ _ s => .chain (by decide) fun h => h.writePairCfg,
   fun _ _ _ _ _ => .le (by decide) execHbmPpr_frame,
   ⟨fun _ _ s => .chain (by decide) fun h => h.writeUnitCtrl,
    fun _ _ s => .chain (by decide) fun h => h.writeUnitCtrl,
    fun _ _ s => .chain (by decide) fun h => h.writeUnitCtrl⟩,
   fun _ _ _ s => .chain (by decide) fun h => .branch h (.branch (.branch h.set.startTest h.set.awlUnstated) h.set),
   fun _ _ s => .chain (by decide) fun h => .branch h (.branch h.set.setFlag.setFld.unitStatus.awlState h.startUnitSwap),
   fun _ s => .chain (by decide) fun h => .branch h (.branch (.branch h.steer h) (.branch h h.unitMoved.blockMoved)),
   fun _ s => .chain (by decide) fun h => .branch h h.spareFailed,
   fun _ _ _ => .le (by decide) execOfflineTestDone_frame,
   fun _ _ s => .chain (by decide) fun h => .branch (.branch h.setCore h.setRsl.setFlag.alarm) (.branch h.setRsl.setCore
       h.setRsl.setCore),
   fun _ _ s => .chain (by decide) fun h => .branch h.setRsl.setFld.setFld.ageWarn h.setRsl.setFld.setFld,
   fun _ _ _ => .le (by decide) execMramScrub_frame,
   fun _ _ => .le (by decide) execDrainBoundExpire_frame,
   fun s => .chain (by decide) fun h => .branch h.setRsl.updTks.count.alarm h,
   fun s => .chain (by decide) fun h => .branch h.setFld.setFld.setFlag.setFlag.setRsl.event.changeRole.showQueues h,
   fun _ s => .chain (by decide) fun h => .branch h.setRsl h,
   fun _ => .le (by decide) execSpareClaimDelay_frame,
   fun _ _ _ => .le (by decide) execSpareClaimGrant_frame,
   fun s => .chain (by decide) fun h => .branch h.setFld.setFld h,
   ⟨fun _ _ s => .chain (by decide) fun h => h.writeSpareCtrl,
    fun _ s => .chain (by decide) fun h => h.writeSpareCtrl⟩,
   ⟨fun _ s => .chain (by decide) fun h => h.writeFence,
    fun _ s => .chain (by decide) fun h => h.writeFence⟩,
   fun _ s => .chain (by decide) fun h => .branch h.setFld h,
   fun s => .chain (by decide) fun h => h.writeCounters,
   fun s => .chain (by decide) fun h => .branch h (.branch h.snapResult h.startSnap),
   fun _ s => .chain (by decide) fun h => h.writeSetCtrl,
   fun _ _ => .le (by decide) execSnapshotVerifyDone_frame,
   fun s => .chain (by decide) fun h => h.setKeep.setFld,
   ⟨fun s => .chain (by decide) fun h => h.setAwl,
    fun s => .chain (by decide) fun h => h.setAwl⟩,
   fun _ s => .chain (by decide) fun h => .branch h h.writeOldest,
   ⟨fun _ s => .chain (by decide) fun h => h.writeAwlCtrl,
    fun _ s => .chain (by decide) fun h => h.writeAwlCtrl,
    fun _ s => .chain (by decide) fun h => h.writeAwlCtrl⟩,
   fun s => .chain (by decide) fun h => .branch h.setFrozen.irq.awlPersist h,
   fun _ _ s => .chain (by decide) fun h => h.writeRdIdx,
   fun _ _ => .le (by decide) execAwlReadLatchDone_frame,
   fun _ _ s => .chain (by decide) fun h => h.writeClrCtrl,
   fun _ s => .chain (by decide) fun h => .branch h (.branch h.setAwl.setAwl.moveAwl h.setAwl),
   fun _ s => .chain (by decide) fun h => h.powerFail,
   fun _ _ _ _ _ => .le (by decide) execUpdHeader_frame,
   fun _ _ _ _ _ _ => .le (by decide) execUpdData_frame,
   fun _ => .le (by decide) execUpdDataProgrammed_frame,
   fun _ _ _ _ => .le (by decide) execUpdEnd_frame,
   fun _ _ => .le (by decide) execUpdBodyVerified_frame,
   fun _ _ _ s => .chain (by decide) fun h => .datagram h (fun _ h1 => .owned h1 (fun _ h2 => h2.releaseLock.updAnswer)),
   fun _ _ _ s => .chain (by decide) fun h => .datagram h (fun _ h1 => .updAnswer (.branch h1.ownerSpoke h1)),
   fun s => .chain (by decide) fun h => .branch h.releaseLock h,
   ⟨fun _ _ s => .chain (by decide) fun h => h.writeUpdCtrl,
    fun _ s => .chain (by decide) fun h => h.writeUpdCtrl,
    fun _ s => .chain (by decide) fun h => h.writeUpdCtrl,
    fun _ s => .chain (by decide) fun h => h.writeUpdCtrl⟩,
   fun s => .chain (by decide) fun h => .branch h.fallBack h,
   fun _ _ s => .chain (by decide) fun h => .branch h.setUpd.setFlag h.setUpd.setFlag.awlUnstated,
   fun _ s => .chain (by decide) fun h => .branch h.setUpd.setFlag h,
   fun _ s => .chain (by decide) fun h => h.setEntry,
   fun s => .chain (by decide) fun h => .branch h.emit h⟩

end

section
/-! SUPPORT of O3: the frame of every command. An operation that the statements of frames do not need has one footprint: all of the
state but the queue of waiting commands and the count of Insole periods. -/

namespace Sys2Proof.Machine

variable {e f g : Foot} {s₀ s t a b : State}

/-! ### Every register, and the footprint of all but the queue -/

theorem Reg.ctorIdx_lt (r : Reg) : r.ctorIdx < 543 := by
  cases r <;> decide

@[irreducible] def Reg.every : List Reg := (List.range 543).map Reg.ofNat

theorem Reg.mem_every (r : Reg) : r ∈ Reg.every := by
  unfold Reg.every
  exact List.mem_map.mpr ⟨r.ctorIdx, List.mem_range.mpr r.ctorIdx_lt, Reg.ofNat_ctorIdx r⟩

/-- All of the state but the queue of waiting commands and the count of Insole periods. -/
def queueFoot : Foot :=
  ⟨[.resp, .rdata, .latchHigh, .latchLow, .freeCtr, .sent, .tb, .host, .awl, .ing, .twl, .nim, .tks, .egr, .twd, .asp, .vmp,
    .lst, .ntm, .net, .rsl, .keep, .upd, .boot, .frameStore, .dir], Reg.every⟩

/-- A footprint leaves the queue and the count of periods alone. -/
def Foot.quiet (f : Foot) : Bool := !f.parts.contains .pending && !f.parts.contains .tick

theorem Foot.within_queue (h : e.quiet = true) : e.within queueFoot := by
  refine ⟨fun p hp => ?_, fun r _ => r.mem_every⟩
  have hn : p ≠ .pending := by
    rintro rfl
    simp [Foot.quiet, hp] at h
  have ht : p ≠ .tick := by
    rintro rfl
    simp [Foot.quiet, hp] at h
  cases p <;> first | exact absurd rfl hn | exact absurd rfl ht | decide

/-- What changes within a footprint that leaves them alone keeps both. -/
theorem Frame.quiet (h : Frame e s₀ s) (hq : e.quiet = true) : Frame queueFoot s₀ s := h.le (Foot.within_queue hq)

theorem Frame.opQuiet (h : Frame f s₀ s) (k : Frame .none s s → Frame e s t) (hq : e.quiet = true) :
    Frame (f.plus queueFoot) s₀ t :=
  h.plus ((k (.refl _ s)).quiet hq)

theorem SomeFrame.quiet {x : Option State} (h : SomeFrame e s₀ x) (hq : e.quiet = true) : SomeFrame queueFoot s₀ x :=
  h.le (Foot.within_queue hq)
theorem Frame.opSomeQuiet {x : Option State} (h : Frame f s₀ s) (k : Frame .none s s → SomeFrame e s x) (hq : e.quiet = true) :
    SomeFrame (f.plus queueFoot) s₀ x :=
  h.opSome (Foot.within_queue hq) k

theorem OkFrame.quiet {ε : Type} {x : Except ε State} (h : OkFrame e s₀ x) (hq : e.quiet = true) : OkFrame queueFoot s₀ x :=
  h.le (Foot.within_queue hq)
theorem Frame.opOkQuiet {ε : Type} {x : Except ε State} (h : Frame f s₀ s) (k : Frame .none s s → OkFrame e s x)
    (hq : e.quiet = true) : OkFrame (f.plus queueFoot) s₀ x :=
  h.opOk (Foot.within_queue hq) k

theorem Completes.quiet {o : Host.Outcome State Fault Refusal} (h : Completes (Frame e s) o) (hq : e.quiet = true) :
    Completes (Frame queueFoot s) o :=
  h.le (Foot.within_queue hq)

theorem Completes.chainQuiet (k : Frame .none s s → Frame e s t) (hq : e.quiet = true) :
    Completes (Frame queueFoot s) (.next t) :=
  (Completes.next (k (.refl _ s))).quiet hq

/-! ### The remaining shared operations -/

theorem Frame.aspCount {tx n} (h : Frame f s₀ s) : Frame (f.plus ⟨[.asp], []⟩) s₀ (s.aspCount tx n) :=
  h.plus (State.aspCount_frame (.refl _ s) (.refl _))
theorem Frame.aspIrq {tx n c} (h : Frame f s₀ s) :
    Frame (f.plus ⟨[.host, .sent], .ASP_INT_SRC :: c.blk.irqRegs⟩) s₀ (s.aspIrq tx n c) :=
  h.plus (State.aspIrq_frame (.refl _ s) (List.Subset.refl _) (List.subset_cons_self _ _) (List.cons_subset_cons _
      (List.nil_subset _)))
theorem Frame.aspPull {tx n} (h : Frame f s₀ s) :
    Frame (f.plus ⟨[.asp, .host, .sent, .twd], [.ASP_TX_SLIP, .ASP_RX_SLIP, .ASP_INT_SRC, .GLB_INT_SUM, .ASP_INT_STAT]⟩) s₀
    (s.aspPull tx n) :=
  h.plus (State.aspPull_frame (.refl _ s) (.refl _) (.refl _))
theorem Frame.aspPush {tx n f'} (h : Frame f s₀ s) :
    Frame (f.plus ⟨[.asp, .host, .sent, .twd], [.ASP_TX_SLIP, .ASP_RX_SLIP, .ASP_INT_SRC, .GLB_INT_SUM, .ASP_INT_STAT]⟩) s₀
    (s.aspPush tx n f') :=
  h.plus (State.aspPush_frame (.refl _ s) (.refl _) (.refl _))
theorem Frame.aspSend {n f'} (h : Frame f s₀ s) : Frame (f.plus ⟨[.sent], []⟩) s₀ (s.aspSend n f') :=
  h.plus (State.aspSend_frame (.refl _ s) (.refl _))
theorem Frame.bankSample {c slot n v flags} (h : Frame f s₀ s) : Frame (f.plus ⟨[.twd], []⟩) s₀ (s.bankSample c slot n v flags) :=
  h.plus (State.bankSample_frame (.refl _ s) (.refl _))
theorem Frame.bar2Miss (h : Frame f s₀ s) :
    Frame (f.plus ⟨[.host, .sent], [.GLB_BAR2_MISS, .GLB_INT_SUM, .GLB_INT_STAT]⟩) s₀ s.bar2Miss :=
  h.plus (State.bar2Miss_frame (.refl _ s) (.refl _) (.refl _))
theorem Frame.clearAlert {v} (h : Frame f s₀ s) :
    Frame (f.plus ⟨[.host, .sent, .resp], [.GLB_ALERT_STAT, .GLB_INT_SUM, .GLB_INT_STAT]⟩) s₀ (s.clearAlert v) :=
  h.plus (State.clearAlert_frame (.refl _ s) (.refl _) (.refl _))
theorem Frame.clearStat {b v} (h : Frame f s₀ s) : Frame (f.plus ⟨[.host, .sent], b.irqRegs⟩) s₀ (s.clearStat b v) :=
  h.plus (State.clearStat_frame (.refl _ s) (.refl _) (.refl _))
theorem Frame.coldBoot {cause} (h : Frame f s₀ s) :
    Frame (f.plus ⟨[.host, .boot, .sent], [.INS_STATE, .BOOT_CAUSE, .INS_WAKE_SRC, .GLB_INT_SUM, .INS_INT_STAT]⟩) s₀ (s.coldBoot
    cause) :=
  h.plus (State.coldBoot_frame (.refl _ s) (.refl _) (.refl _))
theorem Frame.commitPipe {t' v} (h : Frame f s₀ s) :
    Frame (f.plus ⟨[.host, .sent, .vmp], [.VMP_PIPE_REPL, .GLB_INT_SUM, .VMP_INT_STAT, .VMP_PIPE_LATE, .VMP_PIPE_STAT,
    .VMP_PIPE_PEND]⟩) s₀ (s.commitPipe t' v) :=
  h.plus (State.commitPipe_frame (.refl _ s) (.refl _) (.refl _))
theorem Frame.flushAcks {q} (h : Frame f s₀ s) : Frame (f.plus ⟨[.sent, .nim, .host], [.NIM_CQ_TAIL]⟩) s₀ (s.flushAcks q) :=
  h.plus (State.flushAcks_frame (.refl _ s) (.refl _) (.refl _))
theorem Frame.followTakes (h : Frame f s₀ s) : Frame (f.plus ⟨[.egr], []⟩) s₀ s.followTakes :=
  h.plus (State.followTakes_frame (.refl _ s) (.refl _))
theorem Frame.giveMsg {n part slot m} (h : Frame f s₀ s) :
    Frame (f.plus ⟨[.nim], [.NIM_SVC_STAT]⟩) s₀ (s.giveMsg n part slot m) :=
  h.plus (State.giveMsg_frame (.refl _ s) (.refl _) (.refl _))
theorem Frame.giveUp {core run} (h : Frame f s₀ s) : Frame (f.plus ⟨[.nim], []⟩) s₀ (s.giveUp core run) :=
  h.plus (State.giveUp_frame (.refl _ s) (.refl _))
theorem Frame.markReg {r i} (h : Frame f s₀ s) : Frame (f.plus ⟨[.keep], []⟩) s₀ (s.markReg r i) :=
  h.plus (State.markReg_frame (.refl _ s) (.refl _))
theorem Frame.pendTwd {c r i v} (h : Frame f s₀ s) :
    Frame (f.plus ⟨[.host, .sent, .twd, .resp], [.GLB_INT_SUM, .TWD_INT_STAT, .TWD_CORE_STAT]⟩) s₀ (s.pendTwd c r i v) :=
  h.plus (State.pendTwd_frame (.refl _ s) (.refl _) (.refl _))
theorem Frame.postEvent {k data} (h : Frame f s₀ s) :
    Frame (f.plus ⟨[.nim, .sent, .host], [.NIM_CQ_TAIL, .NIM_CQ_LOST, .GLB_INT_SUM, .NIM_INT_STAT]⟩) s₀ (s.postEvent k data) :=
  h.plus (State.postEvent_frame (.refl _ s) (.refl _) (.refl _))
theorem Frame.rawSet {r i v} (h : Frame f s₀ s) : Frame (f.plus ⟨[], [r]⟩) s₀ (s.rawSet r i v) :=
  h.plus (State.rawSet_frame (.refl _ s) List.mem_cons_self)
theorem Frame.recordSig {k sig st} (h : Frame f s₀ s) : Frame (f.plus ⟨[.nim], []⟩) s₀ (s.recordSig k sig st) :=
  h.plus (State.recordSig_frame (.refl _ s) (.refl _))
theorem Frame.recordStore {src e set pairs} (h : Frame f s₀ s) :
    Frame (f.plus ⟨[.keep, .host, .sent, .awl, .freeCtr], [.SET_DELTA_USED, .GLB_INT_SUM, .SET_INT_STAT, .RSL_FLASH_WEAR,
    .RSL_STATUS, .AWL_MERGED, .AWL_STATUS, .INS_RET_STAT, .AWL_LOST, .AWL_INT_STAT, .RSL_INT_STAT, .SET_SECTORS, .SET_STATUS]⟩)
    s₀ (s.recordStore src e set pairs) :=
  h.plus (State.recordStore_frame (.refl _ s) (.refl _) (.refl _))
theorem Frame.refreshAlert (h : Frame f s₀ s) :
    Frame (f.plus ⟨[.host, .sent], [.GLB_INT_SUM, .GLB_INT_STAT]⟩) s₀ s.refreshAlert :=
  h.plus (State.refreshAlert_frame (.refl _ s) (.refl _) (.refl _))
theorem Frame.restoreMems {x} (h : Frame f s₀ s) : Frame (f.plus ⟨[.twd, .vmp], []⟩) s₀ (s.restoreMems x) :=
  h.plus (State.restoreMems_frame (.refl _ s) (.refl _))
theorem Frame.serveClk {d} (h : Frame f s₀ s) : Frame (f.plus ⟨[.boot], [.INS_PLL_STARTS]⟩) s₀ (s.serveClk d) :=
  h.plus (State.serveClk_frame (.refl _ s) (.refl _) (.refl _))
theorem Frame.setClk {d c} (h : Frame f s₀ s) : Frame (f.plus ⟨[.boot], []⟩) s₀ (s.setClk d c) :=
  h.plus (State.setClk_frame (.refl _ s) (.refl _))
theorem Frame.setMask {v masked} (h : Frame f s₀ s) : Frame (f.plus ⟨[.host, .sent], []⟩) s₀ (s.setMask v masked) :=
  h.plus (State.setMask_frame (.refl _ s) (.refl _))
theorem Frame.setRk {k r} (h : Frame f s₀ s) : Frame (f.plus ⟨[], [.LST_TB_STAT]⟩) s₀ (s.setRk k r) :=
  h.plus (State.setRk_frame (.refl _ s) (.refl _))
theorem Frame.setRunning {core i} (h : Frame f s₀ s) : Frame (f.plus ⟨[.nim], []⟩) s₀ (s.setRunning core i) :=
  h.plus (State.setRunning_frame (.refl _ s) (.refl _))
theorem Frame.showStaged (h : Frame f s₀ s) : Frame (f.plus ⟨[], [.AWL_STATUS, .INS_RET_STAT]⟩) s₀ s.showStaged :=
  h.plus (State.showStaged_frame (.refl _ s) (.refl _))
theorem Frame.showTemp {sensor t'} (h : Frame f s₀ s) :
    Frame (f.plus ⟨[], [.GLB_TEMP, .GLB_TEMP_MAX]⟩) s₀ (s.showTemp sensor t') :=
  h.plus (State.showTemp_frame (.refl _ s) (.refl _))
theorem Frame.sigReturn {i k sig v st} (h : Frame f s₀ s) : Frame (f.plus ⟨[.nim], []⟩) s₀ (s.sigReturn i k sig v st) :=
  h.plus (State.sigReturn_frame (.refl _ s) (.refl _))
theorem Frame.stageEnds {i} (h : Frame f s₀ s) : Frame (f.plus ⟨[], [.BOOT_TIME]⟩) s₀ (s.stageEnds i) :=
  h.plus (State.stageEnds_frame (.refl _ s) (.refl _))
theorem Frame.startCores (h : Frame f s₀ s) : Frame (f.plus ⟨[], [.TWD_CORE_STAT]⟩) s₀ s.startCores :=
  h.plus (State.startCores_frame (.refl _ s) (.refl _))
theorem Frame.takeCounts (h : Frame f s₀ s) : Frame (f.plus ⟨[.keep], [.INS_OPSEC, .INS_PCYCLES]⟩) s₀ s.takeCounts :=
  h.plus (State.takeCounts_frame (.refl _ s) (.refl _) (.refl _))
theorem Frame.wakeCtx {i} (h : Frame f s₀ s) : Frame (f.plus ⟨[.nim], [.NIM_SVC_STAT]⟩) s₀ (s.wakeCtx i) :=
  h.plus (State.wakeCtx_frame (.refl _ s) (.refl _) (.refl _))
theorem Frame.writeAwlCfg {src v} (h : Frame f s₀ s) :
    Frame (f.plus ⟨[.host, .sent, .resp], [.GLB_INT_SUM, .GLB_INT_STAT, .GLB_PCIE_ERR, .AWL_INT_STAT, .AWL_CFG]⟩) s₀
    (s.writeAwlCfg src v) :=
  h.plus (State.writeAwlCfg_frame (.refl _ s) (.refl _) (.refl _))
theorem Frame.writeBtxFlow {src b v} (h : Frame f s₀ s) :
    Frame (f.plus ⟨[.host, .sent, .resp, .twd], [.GLB_INT_SUM, .GLB_INT_STAT, .GLB_PCIE_ERR, .TWD_INT_STAT, .TWD_CORE_STAT]⟩) s₀
    (s.writeBtxFlow src b v) :=
  h.plus (State.writeBtxFlow_frame (.refl _ s) (.refl _) (.refl _))
theorem Frame.writeCalLimit {src v} (h : Frame f s₀ s) :
    Frame (f.plus ⟨[.host, .sent, .resp], [.GLB_INT_SUM, .GLB_INT_STAT, .GLB_PCIE_ERR, .TWL_INT_STAT, .TWL_CAL_LIMIT]⟩) s₀
    (s.writeCalLimit src v) :=
  h.plus (State.writeCalLimit_frame (.refl _ s) (.refl _) (.refl _))
theorem Frame.writeCap {src c v} (h : Frame f s₀ s) :
    Frame (f.plus ⟨[.host, .sent, .resp], [.GLB_INT_SUM, .GLB_INT_STAT, .GLB_PCIE_ERR, .NTM_INT_STAT, .NTM_CAP_CFG]⟩) s₀
    (s.writeCap src c v) :=
  h.plus (State.writeCap_frame (.refl _ s) (.refl _) (.refl _))
theorem Frame.writeCoreAt {src c v} (h : Frame f s₀ s) :
    Frame (f.plus ⟨[.host, .sent, .resp], [.GLB_INT_SUM, .GLB_INT_STAT, .GLB_PCIE_ERR, .TWD_INT_STAT, .TWD_CORE_AT,
    .TWD_CORE_STAT]⟩) s₀ (s.writeCoreAt src c v) :=
  h.plus (State.writeCoreAt_frame (.refl _ s) (.refl _) (.refl _))
theorem Frame.writeEee {src p v} (h : Frame f s₀ s) :
    Frame (f.plus ⟨[.host, .sent, .resp], [.GLB_INT_SUM, .GLB_INT_STAT, .GLB_PCIE_ERR, .NPT_INT_STAT, .NPT_PORT_EEE]⟩) s₀
    (s.writeEee src p v) :=
  h.plus (State.writeEee_frame (.refl _ s) (.refl _) (.refl _))
theorem Frame.writeEn {b v} (h : Frame f s₀ s) :
    Frame (f.plus ⟨[.host, .sent], .GLB_INT_SUM :: b.intEn.toList⟩) s₀ (s.writeEn b v) :=
  h.plus (State.writeEn_frame (.refl _ s) (.refl _) (.refl _))
theorem Frame.writeEpCfg {src e v} (h : Frame f s₀ s) :
    Frame (f.plus ⟨[.host, .sent, .resp], [.GLB_INT_SUM, .GLB_INT_STAT, .GLB_PCIE_ERR, .NPT_INT_STAT, .NPT_EP_CFG]⟩) s₀
    (s.writeEpCfg src e v) :=
  h.plus (State.writeEpCfg_frame (.refl _ s) (.refl _) (.refl _))
theorem Frame.writeExecCfg {src v} (h : Frame f s₀ s) :
    Frame (f.plus ⟨[.host, .sent, .resp], [.GLB_INT_SUM, .GLB_INT_STAT, .GLB_PCIE_ERR, .NIM_INT_STAT, .NIM_EXEC_CFG]⟩) s₀
    (s.writeExecCfg src v) :=
  h.plus (State.writeExecCfg_frame (.refl _ s) (.refl _) (.refl _))
theorem Frame.writeFollow {src n v} (h : Frame f s₀ s) :
    Frame (f.plus ⟨[.host, .sent, .resp, .twd], [.GLB_INT_SUM, .GLB_INT_STAT, .GLB_PCIE_ERR, .TWD_INT_STAT, .TWD_CORE_STAT]⟩) s₀
    (s.writeFollow src n v) :=
  h.plus (State.writeFollow_frame (.refl _ s) (.refl _) (.refl _))
theorem Frame.writeHealthCfg {src v} (h : Frame f s₀ s) :
    Frame (f.plus ⟨[.host, .sent, .resp], [.GLB_INT_SUM, .GLB_INT_STAT, .GLB_PCIE_ERR, .EGR_INT_STAT, .EGR_HEALTH_CFG]⟩) s₀
    (s.writeHealthCfg src v) :=
  h.plus (State.writeHealthCfg_frame (.refl _ s) (.refl _) (.refl _))
theorem Frame.writeInst {src k v} (h : Frame f s₀ s) :
    Frame (f.plus ⟨[.host, .sent, .resp], [.GLB_INT_SUM, .GLB_INT_STAT, .GLB_PCIE_ERR, .NTM_INT_STAT, .NTM_INST_CFG,
    .NTM_INST_INTV]⟩) s₀ (s.writeInst src k v) :=
  h.plus (State.writeInst_frame (.refl _ s) (.refl _) (.refl _))
theorem Frame.writeIntv {src k v} (h : Frame f s₀ s) :
    Frame (f.plus ⟨[.host, .sent, .resp], [.GLB_INT_SUM, .GLB_INT_STAT, .GLB_PCIE_ERR, .NTM_INT_STAT, .NTM_INST_INTV]⟩) s₀
    (s.writeIntv src k v) :=
  h.plus (State.writeIntv_frame (.refl _ s) (.refl _) (.refl _))
theorem Frame.writeJrnCfg {src v} (h : Frame f s₀ s) :
    Frame (f.plus ⟨[.host, .sent, .resp], [.GLB_INT_SUM, .GLB_INT_STAT, .GLB_PCIE_ERR, .NIM_INT_STAT, .NIM_JRN_CFG,
    .NIM_JRN_FREE, .NIM_JRN_OPEN]⟩) s₀ (s.writeJrnCfg src v) :=
  h.plus (State.writeJrnCfg_frame (.refl _ s) (.refl _) (.refl _))
theorem Frame.writeKick {src _v} (h : Frame f s₀ s) : Frame (f.plus ⟨[.resp], []⟩) s₀ (s.writeKick src _v) :=
  h.plus (State.writeKick_frame (.refl _ s) (.refl _))
theorem Frame.writeLaneCfg {src i v} (h : Frame f s₀ s) :
    Frame (f.plus ⟨[.host, .sent, .resp, .net], [.GLB_INT_SUM, .GLB_INT_STAT, .GLB_PCIE_ERR, .WLT_INT_STAT, .WLT_LANE_CFG]⟩) s₀
    (s.writeLaneCfg src i v) :=
  h.plus (State.writeLaneCfg_frame (.refl _ s) (.refl _) (.refl _))
theorem Frame.writeLkLimit {src v} (h : Frame f s₀ s) :
    Frame (f.plus ⟨[.host, .sent, .resp], [.GLB_INT_SUM, .GLB_INT_STAT, .GLB_PCIE_ERR, .TWL_INT_STAT, .TWL_LK_LIMIT]⟩) s₀
    (s.writeLkLimit src v) :=
  h.plus (State.writeLkLimit_frame (.refl _ s) (.refl _) (.refl _))
theorem Frame.writePlace {src k v sender} (h : Frame f s₀ s) :
    Frame (f.plus ⟨[.host, .sent, .resp, .twd], [.GLB_INT_SUM, .GLB_INT_STAT, .GLB_PCIE_ERR, .TWD_INT_STAT, .TWD_CORE_STAT]⟩) s₀
    (s.writePlace src k v sender) :=
  h.plus (State.writePlace_frame (.refl _ s) (.refl _) (.refl _))
theorem Frame.writeQual {src v} (h : Frame f s₀ s) :
    Frame (f.plus ⟨[.host, .sent, .resp], [.GLB_INT_SUM, .GLB_INT_STAT, .GLB_PCIE_ERR, .WLT_INT_STAT, .WLT_QUAL]⟩) s₀
    (s.writeQual src v) :=
  h.plus (State.writeQual_frame (.refl _ s) (.refl _) (.refl _))
theorem Frame.writeRole {src v} (h : Frame f s₀ s) :
    Frame (f.plus ⟨[.host, .sent, .resp], [.GLB_INT_SUM, .GLB_INT_STAT, .GLB_PCIE_ERR, .GLB_ROLE]⟩) s₀ (s.writeRole src v) :=
  h.plus (State.writeRole_frame (.refl _ s) (.refl _) (.refl _))
theorem Frame.writeRsl {src r i v} (h : Frame f s₀ s) :
    Frame (f.plus ⟨[.host, .sent, .resp], r :: r.shutRegs⟩) s₀ (s.writeRsl src r i v) :=
  h.plus (State.writeRsl_frame (.refl _ s) (.refl _) (List.subset_cons_self _ _) List.mem_cons_self)
theorem Frame.writeSetCfg {src v} (h : Frame f s₀ s) :
    Frame (f.plus ⟨[.host, .sent, .resp], [.GLB_INT_SUM, .GLB_INT_STAT, .GLB_PCIE_ERR, .SET_INT_STAT, .SET_CFG]⟩) s₀
    (s.writeSetCfg src v) :=
  h.plus (State.writeSetCfg_frame (.refl _ s) (.refl _) (.refl _))
theorem Frame.writeSrvCfg {src k v} (h : Frame f s₀ s) :
    Frame (f.plus ⟨[.host, .sent, .resp], [.GLB_INT_SUM, .GLB_INT_STAT, .GLB_PCIE_ERR, .NTM_INT_STAT, .NTM_SRV_CFG]⟩) s₀
    (s.writeSrvCfg src k v) :=
  h.plus (State.writeSrvCfg_frame (.refl _ s) (.refl _) (.refl _))
theorem Frame.writeSteerEntry {src e v} (h : Frame f s₀ s) :
    Frame (f.plus ⟨[.host, .sent, .resp], [.GLB_INT_SUM, .GLB_INT_STAT, .GLB_PCIE_ERR, .NPT_INT_STAT, .NPT_STEER]⟩) s₀
    (s.writeSteerEntry src e v) :=
  h.plus (State.writeSteerEntry_frame (.refl _ s) (.refl _) (.refl _))
theorem Frame.writeSurfGen {src m w} (h : Frame f s₀ s) :
    Frame (f.plus ⟨[.host, .sent, .resp, .vmp], [.GLB_INT_SUM, .GLB_INT_STAT, .GLB_PCIE_ERR, .VMP_INT_STAT]⟩) s₀ (s.writeSurfGen
    src m w) :=
  h.plus (State.writeSurfGen_frame (.refl _ s) (.refl _) (.refl _))
theorem Frame.writeSvcCfg {src n v} (h : Frame f s₀ s) :
    Frame (f.plus ⟨[.host, .sent, .resp], [.GLB_INT_SUM, .GLB_INT_STAT, .GLB_PCIE_ERR, .NIM_INT_STAT, .NIM_SVC_CFG]⟩) s₀
    (s.writeSvcCfg src n v) :=
  h.plus (State.writeSvcCfg_frame (.refl _ s) (.refl _) (.refl _))
theorem Frame.writeUpdCfg {src v} (h : Frame f s₀ s) :
    Frame (f.plus ⟨[.host, .sent, .resp], [.GLB_INT_SUM, .GLB_INT_STAT, .GLB_PCIE_ERR, .UPD_INT_STAT, .UPD_CFG]⟩) s₀
    (s.writeUpdCfg src v) :=
  h.plus (State.writeUpdCfg_frame (.refl _ s) (.refl _) (.refl _))

theorem Frame.onCore {a undef i k} (h : Frame f s₀ s) (hk : ∀ x c, OkFrame g s (k x c)) :
    Frame (f.plus (queueFoot.plus g)) s₀ (s.onCore a undef i k) := by
  have ht : ∀ x t, Frame queueFoot s (s.trapCtx x t) := fun _ _ => (Frame.refl .none s).trapCtx.quiet rfl
  refine h.plus ?_
  unfold State.onCore
  split
  · exact .refl _ s
  · refine .same (ht _ _).left (.same (ht _ _).left (.same ?_ (.same (ht _ _).left ?_)))
    · exact (Frame.same (ht _ _) ((Frame.refl .none s).setCtx.quiet rfl)).left
    · split
      · exact (hk _ _ _ ‹_›).le (Foot.within_right _ _)
      · exact (ht _ _).left

theorem Frame.alu {a undef reads rd lat fr} (h : Frame f s₀ s) : Frame (f.plus queueFoot) s₀ (s.alu a undef reads rd lat fr) := by
  refine h.op (.refl _) fun h => ?_
  unfold State.alu
  exact .quiet (.onCore h (fun _ _ => .ok h.setCtx)) rfl

theorem Frame.alu1 {a undef rd ra fr} (h : Frame f s₀ s) : Frame (f.plus queueFoot) s₀ (s.alu1 a undef rd ra fr) :=
  h.opQuiet (fun h => h.alu) rfl

theorem Frame.alu2 {a rd ra rb lat fr} (h : Frame f s₀ s) : Frame (f.plus queueFoot) s₀ (s.alu2 a rd ra rb lat fr) :=
  h.opQuiet (fun h => h.alu) rfl

theorem Frame.alup {a undef reads pd fr} (h : Frame f s₀ s) : Frame (f.plus queueFoot) s₀ (s.alup a undef reads pd fr) := by
  refine h.op (.refl _) fun h => ?_
  unfold State.alup
  exact .quiet (.onCore h (fun _ _ => .ok h.setCtx)) rfl

theorem Frame.amo {a reads rd ra rb fr} (h : Frame f s₀ s) : Frame (f.plus queueFoot) s₀ (s.amo a reads rd ra rb fr) := by
  refine h.op (.refl _) fun h => ?_
  unfold State.amo
  extract_lets
  refine .quiet (.onCore (g := queueFoot) h fun x1 c1 => ?_) rfl
  extract_lets
  split
  · exact .quiet (.error) rfl
  · exact .quiet (.ok h.updNim.setCtx) rfl

theorem Frame.applyUnit {u w} (h : Frame f s₀ s) : Frame (f.plus queueFoot) s₀ (s.applyUnit u w) :=
  h.opQuiet (fun h => .branch h.set.setFld (.branch h.set (.branch h.set.setFld (.branch h.set.setFld (.branch h.set.setFld
    h.set.setFld.setFld))))) rfl

theorem Frame.aspApplyMask {tx n} (h : Frame f s₀ s) : Frame (f.plus queueFoot) s₀ (s.aspApplyMask tx n) :=
  h.opQuiet (fun h => h.setSect.set.setFlag) rfl

theorem Frame.aspBegin {tx n} (h : Frame f s₀ s) : Frame (f.plus queueFoot) s₀ (s.aspBegin tx n) :=
  h.opQuiet (fun h => .branch h.setSect.setAspState h.setSect.setAspState) rfl

theorem Frame.aspChecks {tx n cfg rate} (h : Frame f s₀ s) : OkFrame (f.plus queueFoot) s₀ (s.aspChecks tx n cfg rate) := by
  refine h.opOk (.refl _) fun h => ?_
  unfold State.aspChecks
  extract_lets
  split
  · exact .quiet (.error) rfl
  · split
    · exact .quiet (.error) rfl
    · split
      · exact .quiet (.error) rfl
      · split
        · exact .quiet (.error) rfl
        · split
          · exact .quiet (.error) rfl
          · rename_i e
            exact .quiet (.ok (h.aspReserve _ e)) rfl

theorem Frame.aspDrain {tx n} (h : Frame f s₀ s) : Frame (f.plus queueFoot) s₀ (s.aspDrain tx n) :=
  h.opQuiet (fun h => h.setSect.setFlag.setAspState) rfl

theorem Frame.aspRearm {tx n rate} (h : Frame f s₀ s) : Frame (f.plus queueFoot) s₀ (s.aspRearm tx n rate) := by
  refine h.op (.refl _) fun h => ?_
  unfold State.aspRearm
  split
  · exact h.setFld.answer.quiet rfl
  · rename_i e
    exact ((h.aspChecks _ e).setFlag.setFld.setSect.setAspState.answer).quiet rfl

theorem Frame.aspRxFrame {n fr ps} (h : Frame f s₀ s) : Frame (f.plus queueFoot) s₀ (s.aspRxFrame n fr ps) :=
  h.opQuiet (fun h => .showFill (.aspCount (.branch (.setSect (.aspApplyMask (.fold h fun _ _ h1 => .branch h1.setSect
    h1.setSect.aspPull))) (.aspPush (.aspApplyMask (.fold h fun _ _ h1 => .branch h1.setSect h1.setSect.aspPull)))))) rfl

theorem Frame.aspTxFrame {n ps} (h : Frame f s₀ s) : Frame (f.plus queueFoot) s₀ (s.aspTxFrame n ps) := by
  refine h.op (.refl _) fun h => ?_
  unfold State.aspTxFrame
  extract_lets _ s1 _ s2 s3 _ s4 s5 s6
  have h1 : Frame queueFoot s s1 := .quiet (.branch h.setFlag.aspIrq h.setFlag) rfl
  have h2 : Frame queueFoot s s2 := .quiet (.fold h1 fun _ _ h2 => h2.setSect) rfl
  have h3 : Frame queueFoot s s3 := h2.aspApplyMask.quiet rfl
  have h4 : Frame queueFoot s s4 := .quiet (.fold h1 fun _ _ h4 => .branch h4.setSect h4.setSect.aspPush) rfl
  have h5 : Frame queueFoot s s5 := h4.aspApplyMask.quiet rfl
  have h6 : Frame queueFoot s s6 := .quiet (.branch h5 h5.aspPull) rfl
  exact .quiet (.branch h3.aspSend.aspCount h6.aspSend.aspCount.showFill) rfl

theorem Frame.badSlot (h : Frame f s₀ s) : Frame (f.plus queueFoot) s₀ s.badSlot :=
  h.opQuiet (fun h => h.setFld.setFld.rejectSlot.selectSlot) rfl

theorem Frame.branchTo {a undef reads cost link fr} (h : Frame f s₀ s) :
    Frame (f.plus queueFoot) s₀ (s.branch a undef reads cost link fr) := by
  refine h.op (.refl _) fun h => ?_
  unfold State.branch
  refine .quiet (.onCore (g := queueFoot) h fun x c => ?_) rfl
  dsimp only
  split
  · exact .quiet .error rfl
  · exact .ok (h.setCtx.quiet rfl)

theorem Frame.twdTrap {c t'} (h : Frame f s₀ s) : Frame (f.plus queueFoot) s₀ (s.twdTrap c t') :=
  h.opQuiet (fun h => h.setTwd.setFld.set.irq.awlState) rfl

theorem Frame.twdEnd {c x} (h : Frame f s₀ s) : Frame (f.plus queueFoot) s₀ (s.twdEnd c x) :=
  h.opQuiet (fun h => .branch h.setTwd.set.set h.setTwd.set) rfl

theorem Frame.bundle {c op b} (h : Frame f s₀ s) : Frame (f.plus queueFoot) s₀ (s.bundle c op b) := by
  refine h.op (.refl _) fun h => ?_
  unfold State.bundle
  extract_lets _ _ _ _ _ _ _ _ s1 s2
  have h1 : Frame queueFoot s s1 := .quiet (.branch h.setFlag.irq h) rfl
  have h2 : Frame queueFoot s s2 := .quiet (.branch h1.setFlag h1) rfl
  split
  · exact h.quiet rfl
  · split
    · exact h.twdTrap.quiet rfl
    · split
      · exact h2.twdEnd.quiet rfl
      · exact h2.setTwd.quiet rfl

theorem Frame.latchTb {k} (h : Frame f s₀ s) : Frame (f.plus queueFoot) s₀ (s.latchTb k) :=
  h.opQuiet (fun h => h.set.set.set) rfl

theorem Frame.readReg {r i} (h : Frame f s₀ s) : Frame (f.plus queueFoot) s₀ (s.readReg r i).2 := by
  refine h.op (.refl _) fun h => ?_
  unfold State.readReg
  split
  · exact h.latchTb.quiet rfl
  · exact h.quiet rfl
  · exact h.readCap.quiet rfl
  · exact h.quiet rfl
  · exact h.quiet rfl
  · exact h.quiet rfl
  · exact h.quiet rfl
  · exact h.drawFree.quiet rfl
  · split
    · exact h.quiet rfl
    · exact h.set.quiet rfl
    · exact h.quiet rfl

theorem Frame.load64 {a} (h : Frame f s₀ s) : Frame (f.plus queueFoot) s₀ (s.load64 a) := by
  refine h.op (.refl _) fun h => ?_
  unfold State.load64
  split
  · exact h.updRdata.quiet rfl
  · split
    · exact h.readReg.updRdata.quiet rfl
    · exact h.updRdata.quiet rfl

theorem Frame.load32 {a} (h : Frame f s₀ s) : Frame (f.plus queueFoot) s₀ (s.load32 a) := by
  refine h.op (.refl _) fun h => ?_
  unfold State.load32
  split
  · exact h.updRdata.quiet rfl
  · split
    · exact h.updRdata.quiet rfl
    · rename_i r i high _
      have hx : Frame queueFoot s (s.readReg r i).2 := h.readReg.quiet rfl
      refine .same (h.updRdata.quiet rfl) ?_
      generalize s.readReg r i = x at hx
      refine .same (.trans hx ?_) (hx.updRdata.quiet rfl)
      exact .of_parts (.refl _ _) (by rintro ⟨⟩ n <;> first | exact absurd (by decide) n | rfl) rfl

theorem Frame.busRead {src a size} (h : Frame f s₀ s) : Frame (f.plus queueFoot) s₀ (s.busRead src a size) :=
  h.opQuiet (fun h => .branch h (.branch h.updRdata (.branch h.load64.answer (.branch h.load32.answer
    h.load32.answer.updRdata)))) rfl

theorem Frame.windowOpen {src k} (h : Frame f s₀ s) (hk : ∀ u, Frame .none u u → Frame g u (k u)) :
    Frame (f.plus (queueFoot.plus g)) s₀ (s.windowOpen src k) :=
  h.plus (.same (.left ((Frame.refl .none s).irq.quiet rfl)) ((hk s (.refl _ s)).le (Foot.within_right _ _)))

theorem Frame.writeImem {src c a v} (h : Frame f s₀ s) : Frame (f.plus queueFoot) s₀ (s.writeImem src c a v) :=
  h.opQuiet (fun h => .windowOpen h (fun _ h1 => h1.setTwd.answer)) rfl

theorem Frame.writeAflFmt {src a v} (h : Frame f s₀ s) : Frame (f.plus queueFoot) s₀ (s.writeAflFmt src a v) := by
  refine h.op (.refl _) fun h => ?_
  unfold State.writeAflFmt
  refine .quiet (.guarded (g := queueFoot) h fun s1 h1 => ?_) rfl
  extract_lets
  split
  · exact h1.refuse.quiet rfl
  · split
    · exact h1.refuse.quiet rfl
    · split
      · exact h1.refuse.quiet rfl
      · rename_i e
        exact ((h1.reserveIn _ e).store).quiet rfl

theorem Frame.writePlain {src r i v} (h : Frame f s₀ s) : Frame (f.plus queueFoot) s₀ (s.writePlain src r i v) := by
  refine h.op (.refl _) fun h => ?_
  unfold State.writePlain
  split
  · exact h.answer.quiet rfl
  · exact h.answer.quiet rfl
  · exact .quiet (.guarded h (fun _ h1 => h1.answer)) rfl
  · exact .quiet (.guarded h (fun _ h1 => h1.set.answer)) rfl
  · exact .quiet (.guarded h (fun _ h1 => .branch h1.refuse h1.store)) rfl
  · exact .quiet (.guarded h (fun _ h1 => .branch h1.refuse h1.store)) rfl

theorem Frame.writeOutTake {src n v} (h : Frame f s₀ s) : Frame (f.plus queueFoot) s₀ (s.writeOutTake src n v) :=
  h.opQuiet (fun h => .outWrite h (fun _ h1 => h1.store)) rfl

theorem Frame.writeSndPort {src k i w} (h : Frame f s₀ s) : Frame (f.plus queueFoot) s₀ (s.writeSndPort src k i w) := by
  refine h.op (.refl _) fun h => ?_
  unfold State.writeSndPort
  extract_lets r
  refine .quiet (.guarded (g := queueFoot) h fun u h => ?_) rfl
  have h0 : ∀ st, Frame queueFoot u (u.refuse st) := fun _ => h.refuse.quiet rfl
  have h1 : Frame queueFoot u (u.store r i w) := h.store.quiet rfl
  exact .same (h0 _) (.same (h0 _) (.same (h0 _) (.same (h0 _) (.same (h0 _) (.same (h1.setSender.quiet rfl) h1)))))

theorem Frame.writeData {src e' r i v} (h : Frame f s₀ s) : Frame (f.plus queueFoot) s₀ (s.writeData src e' r i v) := by
  refine h.op (.refl _) fun h => ?_
  unfold State.writeData
  split
  · exact h.writeIngCtrl.quiet rfl
  · exact h.writePool.quiet rfl
  · exact h.writeInCfg.quiet rfl
  · exact h.writeInSync.quiet rfl
  · exact h.writeSdiCfg.quiet rfl
  · exact h.writePktVid.quiet rfl
  · exact h.writePd.quiet rfl
  · exact h.writeAfl.quiet rfl
  · exact h.writeAflFmt.quiet rfl
  · exact h.writeAflOff.quiet rfl
  · exact h.writeAnf.quiet rfl
  · exact h.writeTwlCtrl.quiet rfl
  · exact h.writeCalLimit.quiet rfl
  · exact h.writeLkLimit.quiet rfl
  · exact h.writeDirCmd.quiet rfl
  · exact h.writeV6.quiet rfl
  · exact h.writeV6.quiet rfl
  · exact h.writeSwapCtrl.quiet rfl
  · exact h.writeEgrCtrl.quiet rfl
  · exact h.writeHealthCfg.quiet rfl
  · exact h.writeHealthCtrl.quiet rfl
  · exact h.writePlain.health.quiet rfl
  · exact h.writePlain.health.quiet rfl
  · exact h.writeOtdCfg.quiet rfl
  · exact h.writeOtdPhase.quiet rfl
  · exact h.writePat.quiet rfl
  · exact h.writeOutCfg.quiet rfl
  · exact h.writeOutTake.quiet rfl
  · exact h.writeOutSdi.quiet rfl
  · exact h.writeOutAud.quiet rfl
  · exact h.writeIdent.quiet rfl
  · exact h.writeVsndCfg.quiet rfl
  · exact h.writeVsndSrc.quiet rfl
  · exact h.writeSndPort.quiet rfl
  · exact h.writeAsndCfg.quiet rfl
  · exact h.writeAsndFmt.quiet rfl
  · exact h.writeSndPort.quiet rfl
  · exact h.writeXsndCfg.quiet rfl
  · exact h.writeSndPort.quiet rfl
  · exact h.writeJoin.quiet rfl
  · exact h.writePlain.quiet rfl

theorem Frame.writeQBase {src r q v} (h : Frame f s₀ s) : Frame (f.plus queueFoot) s₀ (s.writeQBase src r q v) :=
  h.opQuiet (fun h => .guarded h (fun _ h1 => .branch h1.refuse h1.store)) rfl

theorem Frame.writeQCfg {src q v} (h : Frame f s₀ s) : Frame (f.plus queueFoot) s₀ (s.writeQCfg src q v) :=
  h.opQuiet (fun h => .guarded h (fun _ h1 => .branch h1.refuse (.branch h1.refuse (.branch
    h1.store.showQueue.flushAcks.postDones.flushFrom h1.store.showQueue)))) rfl

theorem Frame.writeTwdCtrl {src v} (h : Frame f s₀ s) : Frame (f.plus queueFoot) s₀ (s.writeTwdCtrl src v) := by
  refine h.op (.refl _) fun h => ?_
  unfold State.writeTwdCtrl
  refine .quiet (.guarded (g := queueFoot) h fun u h => ?_) rfl
  extract_lets s1 s2 s3 s4
  have h1 : Frame queueFoot u s1 := h.store.quiet rfl
  have h2 : Frame queueFoot u s2 := h1.setFlag.setFlag.quiet rfl
  have h3 : Frame queueFoot u s3 := .quiet (.fold h2 fun _ _ h => .branch h.setFld (.branch h.setFld h)) rfl
  have h4 : Frame queueFoot u s4 := .quiet (.branch (.fold h3 fun _ _ h => h.killCore) h3) rfl
  exact .quiet (.branch h1.setFlag.setFlag h4.twdIdle) rfl

theorem Frame.writeBtxCfg {src b v} (h : Frame f s₀ s) : Frame (f.plus queueFoot) s₀ (s.writeBtxCfg src b v) := by
  refine h.op (.refl _) fun h => ?_
  unfold State.writeBtxCfg
  refine .quiet (.guarded (g := queueFoot) h fun s1 h1 => ?_) rfl
  extract_lets
  split
  · exact h1.refuse.quiet rfl
  · split
    · exact h1.refuse.quiet rfl
    · split
      · exact h1.refuse.quiet rfl
      · rename_i e
        exact ((h1.reserveOut _ e).pendTwd).quiet rfl

theorem Frame.writeBrxCfg {src r v h'} (h : Frame f s₀ s) : Frame (f.plus queueFoot) s₀ (s.writeBrxCfg src r v h') := by
  refine h.op (.refl _) fun h => ?_
  unfold State.writeBrxCfg
  refine .quiet (.guarded (g := queueFoot) h fun s1 h1 => ?_) rfl
  extract_lets
  split
  · exact h1.refuse.quiet rfl
  · split
    · exact h1.refuse.quiet rfl
    · rename_i t e
      have ht := h1.reserveIn _ e
      exact .quiet (.branch (.branch ht.hold.updTwd.dropRoute.pendTwd h1.count.refuse) (.branch ht.updTwd.dropRoute.pendTwd
          ht.pendTwd)) rfl

theorem Frame.writeCore {src r c v} (h : Frame f s₀ s) : Frame (f.plus queueFoot) s₀ (s.writeCore src r c v) :=
  h.opQuiet (fun h => .guarded h (fun _ h1 => h1.pendTwd)) rfl

theorem Frame.writeAspCtrl {src v} (h : Frame f s₀ s) : Frame (f.plus queueFoot) s₀ (s.writeAspCtrl src v) :=
  h.opQuiet (fun h => .guarded h (fun _ h1 => .branch h1.store.setFlag.setFlag (.aspIdle (.branch (.eachSect
    h1.store.setFlag.setFlag (fun _ _ _ h2 => h2.aspStop)) (.eachSect h1.store.setFlag.setFlag (fun _ _ _ h2 => .branch h2
    h2.aspDrain)))))) rfl

theorem Frame.writeAspCfg {src tx n v} (h : Frame f s₀ s) : Frame (f.plus queueFoot) s₀ (s.writeAspCfg src tx n v) := by
  refine h.op (.refl _) fun h => ?_
  unfold State.writeAspCfg
  refine .quiet (.guarded (g := queueFoot) h fun s1 h1 => ?_) rfl
  extract_lets _ _ _ _ _ s2
  have h2 : Frame queueFoot s1 s2 := h1.store.quiet rfl
  split
  · exact h1.aspStop.answer.quiet rfl
  · split
    · exact h1.refuse.quiet rfl
    · split
      · exact h1.refuse.quiet rfl
      · split
        · exact h1.refuse.quiet rfl
        · split
          · split
            · exact h1.refuse.quiet rfl
            · split
              · exact h1.store.quiet rfl
              · split
                · exact h1.refuse.quiet rfl
                · split
                  · exact h1.refuse.quiet rfl
                  · rename_i e
                    exact ((h1.aspChecks _ e).store.aspBegin).quiet rfl
          · exact .quiet (.branch h2.aspDrain (.branch h2.aspRearm h2)) rfl

theorem Frame.writeAspFmt {src tx n v} (h : Frame f s₀ s) : Frame (f.plus queueFoot) s₀ (s.writeAspFmt src tx n v) :=
  h.opQuiet (fun h => .guarded h (fun _ h1 => .branch h1.refuse (.branch h1.refuse (.branch h1.refuse (.branch h1.refuse
    h1.store))))) rfl

theorem Frame.writeAspMask {src tx n v} (h : Frame f s₀ s) : Frame (f.plus queueFoot) s₀ (s.writeAspMask src tx n v) :=
  h.opQuiet (fun h => .guarded h (fun _ h1 => .branch h1.refuse h1.store.setFlag)) rfl

theorem Frame.pipeStore {src r v k} (h : Frame f s₀ s) (hk : ∀ u, Frame .none u u → Frame g u (k u)) :
    Frame (f.plus (.plus ⟨[.host, .sent], r.shutRegs⟩ (queueFoot.plus g))) s₀ (s.pipeStore src r v k) :=
  h.guarded fun u hu => .same (.left (hu.irq.refuse.quiet rfl)) ((hk u hu).le (Foot.within_right _ _))

theorem Frame.writePipeBg {src v w} (h : Frame f s₀ s) : Frame (f.plus queueFoot) s₀ (s.writePipeBg src v w) :=
  h.opQuiet (fun h => .pipeStore h (fun _ h1 => h1.store)) rfl

theorem Frame.writeSurfGeom {src r m w} (h : Frame f s₀ s) : Frame (f.plus queueFoot) s₀ (s.writeSurfGeom src r m w) :=
  h.opQuiet (fun h => .guarded h (fun _ h1 => .branch h1.refuse h1.store)) rfl

theorem Frame.writeCores {src e' r i v} (h : Frame f s₀ s) : Frame (f.plus queueFoot) s₀ (s.writeCores src e' r i v) := by
  refine h.op (.refl _) fun h => ?_
  unfold State.writeCores
  split
  · exact h.writeNimCtrl.quiet rfl
  · exact h.writeExecCfg.quiet rfl
  · exact h.writeJrnCfg.quiet rfl
  · exact h.writePairCfg.quiet rfl
  · exact h.writeQBase.quiet rfl
  · exact h.writeQBase.quiet rfl
  · exact h.writeQCfg.quiet rfl
  · exact h.writeSqTail.quiet rfl
  · exact h.writeCqHead.quiet rfl
  · exact h.writeSvcCfg.quiet rfl
  · exact h.writeTwdCtrl.quiet rfl
  · exact h.writePlace.quiet rfl
  · exact h.writeFollow.quiet rfl
  · exact h.writeBtxCfg.quiet rfl
  · exact h.writeBtxFlow.quiet rfl
  · exact h.writeBrxCfg.quiet rfl
  · exact h.writeCore.quiet rfl
  · exact h.writeCore.quiet rfl
  · exact h.writeCoreAt.quiet rfl
  · exact h.writeAspCtrl.quiet rfl
  · exact h.writeAspCfg.quiet rfl
  · exact h.writeAspFmt.quiet rfl
  · exact h.writeAspMask.quiet rfl
  · exact h.writeAspCfg.quiet rfl
  · exact h.writeAspFmt.quiet rfl
  · exact h.writeAspMask.quiet rfl
  · exact h.writeVmpCtrl.quiet rfl
  · exact h.writePipeCfg.quiet rfl
  · exact h.writePipeBg.quiet rfl
  · exact h.writeSurfCfg.quiet rfl
  · exact h.writeSurfGeom.quiet rfl
  · exact h.writeSurfGeom.quiet rfl
  · exact h.writeSurfGen.quiet rfl
  · exact h.writePlain.quiet rfl

theorem Frame.writeLstRange {src r i v} (h : Frame f s₀ s) : Frame (f.plus queueFoot) s₀ (s.writeLstRange src r i v) :=
  h.opQuiet (fun h => .guarded h (fun _ h1 => .branch h1.refuse h1.store)) rfl

theorem Frame.writeDelay {src r i v} (h : Frame f s₀ s) : Frame (f.plus queueFoot) s₀ (s.writeDelay src r i v) :=
  h.opQuiet (fun h => .guarded h (fun _ h1 => .branch h1.refuse h1.store)) rfl

theorem Frame.writeTrgTime {src r t' v} (h : Frame f s₀ s) : Frame (f.plus queueFoot) s₀ (s.writeTrgTime src r t' v) :=
  h.opQuiet (fun h => .guarded h (fun _ h1 => .branch h1.refuse (.branch h1.refuse h1.store))) rfl

theorem Frame.writeRingBase {src r i v} (h : Frame f s₀ s) : Frame (f.plus queueFoot) s₀ (s.writeRingBase src r i v) :=
  h.opQuiet (fun h => .guarded h (fun _ h1 => .branch h1.refuse h1.store)) rfl

theorem Frame.writeTiming {src e' r i v} (h : Frame f s₀ s) : Frame (f.plus queueFoot) s₀ (s.writeTiming src e' r i v) := by
  refine h.op (.refl _) fun h => ?_
  unfold State.writeTiming
  split
  · exact h.writeLstCtrl.quiet rfl
  · exact h.writeSteer.quiet rfl
  · exact h.writeRefCfg.quiet rfl
  · exact h.writeLstRange.quiet rfl
  · exact h.writeLstRange.quiet rfl
  · exact h.writeLstRange.quiet rfl
  · exact h.writeLstRange.quiet rfl
  · exact h.writeLstRange.quiet rfl
  · exact h.writeLstRange.quiet rfl
  · exact h.writeNtmCtrl.quiet rfl
  · exact h.writeTbCfg.quiet rfl
  · exact h.writeTbAdj.quiet rfl
  · exact h.writeSrvCfg.quiet rfl
  · exact h.writeFeed.quiet rfl
  · exact h.writeInst.quiet rfl
  · exact h.writeIntv.quiet rfl
  · exact h.writeDelay.quiet rfl
  · exact h.writeDelay.quiet rfl
  · exact h.writeDelay.quiet rfl
  · exact h.writePtpPort.quiet rfl
  · exact h.writeTrg.quiet rfl
  · exact h.writeTrgTime.quiet rfl
  · exact h.writeTrgTime.quiet rfl
  · exact h.writeTrgTime.quiet rfl
  · exact h.writeCap.quiet rfl
  · exact h.writeQual.quiet rfl
  · exact h.writeLaneCfg.quiet rfl
  · exact h.writeTxeq.quiet rfl
  · exact h.writeLaneCtrl.quiet rfl
  · exact h.writePrbs.quiet rfl
  · exact h.writeLkCfg.quiet rfl
  · exact h.writeLkCtrl.quiet rfl
  · exact h.writeNptCtrl.quiet rfl
  · exact h.writeGrpCfg.quiet rfl
  · exact h.writePortCfg.quiet rfl
  · exact h.writeEee.quiet rfl
  · exact h.writeSteerEntry.quiet rfl
  · exact h.writeRingBase.quiet rfl
  · exact h.writeRingBase.quiet rfl
  · exact h.writeRxrCfg.quiet rfl
  · exact h.writeTxrCfg.quiet rfl
  · exact h.writeRxrTail.quiet rfl
  · exact h.writeTxrTail.quiet rfl
  · exact h.writeEpCfg.quiet rfl
  · exact h.writePlain.quiet rfl

theorem Frame.writeGlbCtrl {v} (h : Frame f s₀ s) : Frame (f.plus queueFoot) s₀ (s.writeGlbCtrl v) :=
  h.opQuiet (fun h => .branch h.answer.warmReset h.answer) rfl

theorem Frame.serveClks (h : Frame f s₀ s) : Frame (f.plus queueFoot) s₀ s.serveClks :=
  h.opQuiet (fun h => .fold h fun _ _ h1 => h1.serveClk) rfl

theorem Frame.writeClkCfg {src v} (h : Frame f s₀ s) : Frame (f.plus queueFoot) s₀ (s.writeClkCfg src v) :=
  h.opQuiet (fun h => .guarded h (fun _ h1 => .branch h1.refuse h1.store.serveClks)) rfl

theorem Frame.startClk {d} (h : Frame f s₀ s) : Frame (f.plus queueFoot) s₀ (s.startClk d) := by
  refine h.op (.refl _) fun h => ?_
  unfold State.startClk
  split
  · exact h.setClk.serveClks.quiet rfl
  · exact h.setClk.quiet rfl
  · exact h.quiet rfl

theorem Frame.writeClkForce {src v} (h : Frame f s₀ s) : Frame (f.plus queueFoot) s₀ (s.writeClkForce src v) :=
  h.opQuiet (fun h => .guarded h (fun _ h1 => .fold h1.store fun _ _ h2 => h2.startClk)) rfl

theorem Frame.writeKeep {src e' r i v} (h : Frame f s₀ s) : Frame (f.plus queueFoot) s₀ (s.writeKeep src e' r i v) := by
  refine h.op (.refl _) fun h => ?_
  unfold State.writeKeep
  split
  · exact h.writeFence.quiet rfl
  · exact h.writeUnitCtrl.quiet rfl
  · exact h.writeSpareCtrl.quiet rfl
  · exact h.writeRsl.quiet rfl
  · exact h.writeRsl.quiet rfl
  · exact h.writeRsl.quiet rfl
  · exact h.writeRsl.quiet rfl
  · exact h.writeRsl.quiet rfl
  · exact h.writeAwlCtrl.quiet rfl
  · exact h.writeAwlCfg.quiet rfl
  · exact h.writeRdIdx.quiet rfl
  · exact h.writeClrCtrl.quiet rfl
  · exact h.writeSetCtrl.quiet rfl
  · exact h.writeSetCfg.quiet rfl
  · exact h.writeUpdCtrl.quiet rfl
  · exact h.writeUpdCfg.quiet rfl
  · exact h.writeGlbCtrl.quiet rfl
  · exact h.writeRole.quiet rfl
  · exact h.clearAlert.quiet rfl
  · exact h.writePlain.refreshAlert.quiet rfl
  · exact h.writeKick.quiet rfl
  · exact h.writeClkCfg.quiet rfl
  · exact h.writeClkForce.quiet rfl
  · exact h.writePlain.quiet rfl

theorem Frame.writeReg {src fr r i v} (h : Frame f s₀ s) : Frame (f.plus queueFoot) s₀ (s.writeReg src fr r i v) := by
  refine h.op (.refl _) fun h => ?_
  unfold State.writeReg
  extract_lets b s1
  have h1 : Frame queueFoot s s1 := h.clearStat.answer.quiet rfl
  refine .same (.same (h1.refreshAlert.quiet rfl) h1) (.same (h.writeEn.answer.quiet rfl) ?_)
  clear_value b
  cases b
  case ING | TWL | EGR => exact h.writeData.quiet rfl
  case NIM | TWD | ASP | VMP => exact h.writeCores.quiet rfl
  case LST | NTM | WLT | NPT => exact h.writeTiming.quiet rfl
  case RSL | AWL | SET | UPD | GLB | BOOT | INS => exact h.writeKeep.quiet rfl

theorem Frame.storeReg {src e' r i a v} (h : Frame f s₀ s) : Frame (f.plus queueFoot) s₀ (s.storeReg src e' r i a v) :=
  h.opQuiet (fun h => .branch h.refuse (.recordStore (.branch h.answer.writeReg.markReg h.answer.writeReg))) rfl

theorem Frame.store64 {src e' a v} (h : Frame f s₀ s) : Frame (f.plus queueFoot) s₀ (s.store64 src e' a v) := by
  refine h.op (.refl _) fun h => ?_
  unfold State.store64
  split
  · exact .quiet (.branch h.refuse h.answer.writeImem.recordStore) rfl
  · split
    · exact h.storeReg.quiet rfl
    · exact h.answer.quiet rfl

theorem Frame.writeShadow {src c y a l v} (h : Frame f s₀ s) : Frame (f.plus queueFoot) s₀ (s.writeShadow src c y a l v) :=
  h.opQuiet (fun h => .windowOpen h (fun _ h1 => h1.setTwd.setFlag.answer)) rfl

theorem Frame.writeLut {src out v i w} (h : Frame f s₀ s) : Frame (f.plus queueFoot) s₀ (s.writeLut src out v i w) :=
  h.opQuiet (fun h => .pipeStore h (fun _ h1 => h1.setPipe.answer)) rfl

theorem Frame.writeWin {src w v} (h : Frame f s₀ s) : Frame (f.plus queueFoot) s₀ (s.writeWin src w v) := by
  refine h.op (.refl _) fun h => ?_
  unfold State.writeWin
  split
  · exact h.answer.quiet rfl
  · exact h.answer.quiet rfl
  · exact h.answer.quiet rfl
  · exact h.writeImem.quiet rfl
  · exact h.writeShadow.quiet rfl
  · exact h.writeLut.quiet rfl

theorem Frame.store32 {src e' a v} (h : Frame f s₀ s) : Frame (f.plus queueFoot) s₀ (s.store32 src e' a v) := by
  refine h.op (.refl _) fun h => ?_
  unfold State.store32
  split
  · exact .quiet (.branch h.refuse h.answer.writeWin.recordStore) rfl
  · split
    · exact h.answer.quiet rfl
    · exact .quiet (.branch h.storeReg (.branch h.updLatchLow.storeReg (.guarded h.answer (fun _ h1 => h1.updLatchLow)))) rfl

theorem Frame.busWrite {src e' a size v} (h : Frame f s₀ s) : Frame (f.plus queueFoot) s₀ (s.busWrite src e' a size v) :=
  h.opQuiet (fun h => .branch h (.branch h (.branch h.store64 (.branch h.store32 (.branch h.count h.answer))))) rfl

theorem Frame.coldReset (h : Frame f s₀ s) : Frame (f.plus queueFoot) s₀ s.coldReset := by
  refine h.plus ?_
  unfold State.coldReset
  refine .quiet (.fold (g := queueFoot) (.setFld (.setFlag (.setFld (.setFlag (.setFlag (.setFld (f := queueFoot) ?_))))))
    fun _ _ h => h.applyUnit.quiet rfl) rfl
  exact ⟨by rintro ⟨⟩ n <;> first | exact absurd (by decide) n | rfl, fun r _ n => absurd r.mem_every n, fun k => k.filterRegs
      rfl⟩

theorem Frame.commit {mask t'} (h : Frame f s₀ s) : Frame (f.plus queueFoot) s₀ (s.commit mask t').1 := by
  refine h.op (.refl _) fun h => ?_
  unfold State.commit
  extract_lets vs
  clear_value vs
  split
  · exact h.quiet rfl
  · split
    · exact h.quiet rfl
    · split
      · exact h.quiet rfl
      · split
        · dsimp only
          exact h.set.irq.quiet rfl
        · dsimp only
          exact .quiet (.fold h fun _ _ h1 => h1.commitPipe) rfl

theorem Frame.deliverMail {part slot from_ m reply} (h : Frame f s₀ s) :
    Frame (f.plus queueFoot) s₀ (s.deliverMail part slot from_ m reply).1 := by
  refine h.op (.refl _) fun h => ?_
  unfold State.deliverMail
  split
  · split
    · exact h.quiet rfl
    · split
      · exact h.quiet rfl
      · exact h.giveMsg.quiet rfl
  · split
    · exact h.quiet rfl
    · exact h.emit.quiet rfl

theorem Frame.haltCtx {i} (h : Frame f s₀ s) : Frame (f.plus queueFoot) s₀ (s.haltCtx i) := by
  refine h.op (.refl _) fun h => ?_
  unfold State.haltCtx
  extract_lets _ s1
  have h1 : Frame queueFoot s s1 := h.endCtx.quiet rfl
  split
  · exact h1.setSvc.setFld.quiet rfl
  · exact h1.completeEntry.quiet rfl
  · exact h1.quiet rfl

theorem Frame.rampTick {k} (h : Frame f s₀ s) : Frame (f.plus queueFoot) s₀ (s.rampTick k) :=
  h.opQuiet (fun h => .branch h (.branch h.setServo (.branch h.setServo h.setServo.setRk))) rfl

theorem Frame.lateWrite {e'} (h : Frame f s₀ s) : Frame (f.plus queueFoot) s₀ (s.lateWrite e') :=
  h.opQuiet (fun h => .branch h.answer.writeReg.setBoot h.answer.writeReg) rfl

theorem Frame.runLater (h : Frame f s₀ s) : Frame (f.plus queueFoot) s₀ s.runLater :=
  h.opQuiet (fun h => .answer (.fold h.setBoot fun _ _ h1 => .fold h1 fun _ _ h2 => h2.lateWrite)) rfl

theorem Frame.laceUnhold {k} (h : Frame f s₀ s) : Frame (f.plus queueFoot) s₀ (s.laceUnhold k) :=
  h.opQuiet (fun h => .branch h.setLkState.emit.carry h) rfl

theorem Frame.layerWrite {v l ws} (h : Frame f s₀ s) : Frame (f.plus queueFoot) s₀ (s.layerWrite v l ws).1 := by
  refine h.op (.refl _) fun h => ?_
  unfold State.layerWrite
  extract_lets
  split
  · exact h.quiet rfl
  · split
    · exact h.quiet rfl
    · split
      · exact h.quiet rfl
      · split
        · exact h.quiet rfl
        · split
          · exact h.quiet rfl
          · exact h.setPipe.showCharge.quiet rfl

theorem Frame.lockDown {b} (h : Frame f s₀ s) : Frame (f.plus queueFoot) s₀ (s.lockDown b) :=
  h.opQuiet (fun h => h.setFlag.rawSet.rawSet.rawSet.rawSet.updNim.setFlag.setBoot) rfl

theorem Frame.nsp {a rd ra d boundary} (h : Frame f s₀ s) : Frame (f.plus queueFoot) s₀ (s.nsp a rd ra d boundary) := by
  refine h.op (.refl _) fun h => ?_
  unfold State.nsp
  exact .quiet (.onCore h (fun _ _ => .branch (.ok h.setCtx) (.ok h.setCtx))) rfl

theorem Frame.pcieReset (h : Frame f s₀ s) : Frame (f.plus queueFoot) s₀ s.pcieReset :=
  h.opQuiet (fun h => .showQueues (.fold (.fold h.updHost.set fun _ _ h1 => h1.setFlag) fun _ _ h1 => h1.setFlag.setFlag)) rfl

theorem Frame.pickSnap {converted} (h : Frame f s₀ s) : Frame (f.plus queueFoot) s₀ (s.pickSnap converted).2 := by
  refine h.op (.refl _) fun h => ?_
  unfold State.pickSnap
  extract_lets _ s1
  have h1 : Frame queueFoot s s1 := h.setFlag.quiet rfl
  split
  · exact h1.setFld.setFlag.showSnap.quiet rfl
  · split
    · exact h1.setFld.setFlag.quiet rfl
    · split
      · exact h1.setKeep.setFld.setFlag.showSnap.quiet rfl
      · exact h1.setFlag.setKeep.quiet rfl

theorem Frame.plog {a pd pa pb fr} (h : Frame f s₀ s) : Frame (f.plus queueFoot) s₀ (s.plog a pd pa pb fr) :=
  h.opQuiet (fun h => h.alup) rfl

theorem Frame.reattach {x k n} (h : Frame f s₀ s) : SomeFrame (f.plus queueFoot) s₀ (s.reattach x k n) :=
  h.opSomeQuiet (fun h => .branch (.some h.updTks) (.branch (.some h.setDirs) .none)) rfl

theorem Frame.recv {a rd ra q} (h : Frame f s₀ s) : Frame (f.plus queueFoot) s₀ (s.recv a rd ra q) := by
  refine h.op (.refl _) fun h => ?_
  unfold State.recv
  refine .quiet (.onCore (g := queueFoot) h fun x1 c1 => ?_) rfl
  split
  · exact .quiet (.error) rfl
  · extract_lets
    split
    · exact .quiet (.ok h.setCtx) rfl
    · exact .quiet (.branch .error (.ok h.setSvc.setCtx)) rfl

theorem Frame.replyOrder {k m} (h : Frame f s₀ s) : Frame (f.plus queueFoot) s₀ (s.replyOrder k m).1 := by
  refine h.op (.refl _) fun h => ?_
  unfold State.replyOrder
  split
  · exact h.quiet rfl
  · split
    · exact h.drawFree.deliverMail.quiet rfl
    · exact h.postEvent.quiet rfl

theorem Frame.reported {core x d k} (h : Frame f s₀ s) (hk : ∀ u, Frame .none u u → Frame g u (k u).1) :
    Frame (f.plus ((queueFoot.plus g).plus queueFoot)) s₀ (s.reported core x d k) :=
  h.plus (.plus (.plus ((Frame.refl .none s).setCtx.giveUp.quiet rfl) (hk _ (.refl _ _)))
    ((Frame.refl .none _).giveResult.quiet rfl))

theorem Frame.requestClk {d} (h : Frame f s₀ s) : Frame (f.plus queueFoot) s₀ (s.requestClk d) :=
  h.opQuiet (fun h => h.setFlag.startClk) rfl

theorem Frame.restoreReg {r i v} (h : Frame f s₀ s) : Frame (f.plus queueFoot) s₀ (s.restoreReg r i v) :=
  h.opQuiet (fun h => .branch h.markReg.setBoot h.markReg.rawSet) rfl

theorem Frame.restoreRows {t' ok} (h : Frame f s₀ s) : Frame (f.plus queueFoot) s₀ (s.restoreRows t' ok) := by
  refine h.op (.refl _) fun h => ?_
  unfold State.restoreRows
  refine .quiet (.fold (g := queueFoot) h fun s1 row h1 => ?_) rfl
  split
  · exact h1.quiet rfl
  · exact .quiet (.branch (.fold h1 fun _ _ h2 => h2.restoreReg) h1) rfl

theorem Frame.restoreImage {views} (h : Frame f s₀ s) : Frame (f.plus queueFoot) s₀ (s.restoreImage views) :=
  h.opQuiet (fun h => .fold (.fold (.fold h.restoreRows.runLater fun _ _ h1 => .branch h1.setFld h1.setFld.setFlag) fun _ _ h1
    => h1.showPending) fun _ _ h1 => .fold h1.routeRetry fun _ _ h2 => h2.rerouteTake) rfl

theorem Frame.restoreWin {w v} (h : Frame f s₀ s) : Frame (f.plus queueFoot) s₀ (s.restoreWin w v) := by
  refine h.op (.refl _) fun h => ?_
  unfold State.restoreWin
  split
  · exact h.writeWin.quiet rfl
  · exact h.writeWin.quiet rfl
  · exact h.setTwd.quiet rfl
  · exact h.quiet rfl

theorem Frame.restoreStore {ok a v} (h : Frame f s₀ s) : Frame (f.plus queueFoot) s₀ (s.restoreStore ok a v) := by
  refine h.op (.refl _) fun h => ?_
  unfold State.restoreStore
  split
  · exact .quiet (.branch h.restoreWin h) rfl
  · split
    · exact h.quiet rfl
    · exact .quiet (.branch h (.branch h.restoreReg (.branch h.restoreReg h.restoreReg))) rfl

theorem Frame.restoreSettings {converted mems ok} (h : Frame f s₀ s) :
    Frame (f.plus queueFoot) s₀ (s.restoreSettings converted mems ok) := by
  refine h.op (.refl _) fun h => ?_
  unfold State.restoreSettings
  extract_lets s1 s2 _ _ _ _ _ s3 s4 s5 _ s6
  have h1 : Frame queueFoot s s1.2 := h.pickSnap.quiet rfl
  have h2 : Frame queueFoot s s2 := h1.quiet rfl
  have h3 : Frame queueFoot s s3 := by
    dsimp only [s3]
    split
    · exact .quiet (.branch h2.restoreMems h2) rfl
    · exact h2.quiet rfl
  have h4 : Frame queueFoot s s4 := by
    dsimp only [s4]
    split
    · exact h3.restoreRows.quiet rfl
    · exact h3.quiet rfl
  have h5 : Frame queueFoot s s5 := .quiet (.fold h4 fun _ _ h5 => .fold h5 fun _ _ h6 => h6.restoreStore) rfl
  have h6 : Frame queueFoot s s6 := h5.setKeep.quiet rfl
  clear_value s1 s2 s3 s4 s5 s6
  exact .quiet (.branch h5.showDeltas h6.count.awlPersist.showDeltas) rfl

theorem Frame.showTbmis {c} (h : Frame f s₀ s) : Frame (f.plus queueFoot) s₀ (s.showTbmis c) :=
  h.opQuiet (fun h => .fold h fun _ _ h1 => h1.setFlag) rfl

theorem Frame.sigSend {x k n go} (h : Frame f s₀ s) (hgo : ∀ u, Frame .none u u → Frame g u (go u)) :
    Frame (f.plus (queueFoot.plus g)) s₀ (s.sigSend x k n go) := by
  have h0 : Frame queueFoot s s := .refl _ s
  refine h.plus ?_
  unfold State.sigSend
  split
  · exact .left (h0.drawFree.giveResult.quiet rfl)
  · split
    · exact .left (h0.drawFree.recordSig.giveResult.quiet rfl)
    · split
      · rename_i e
        exact .left ((h0.reattach _ e).quiet rfl)
      · exact (hgo s (.refl _ s)).le (Foot.within_right _ _)

theorem Frame.sigPlane {α : Type} {a undef reads rd} {args : NimCtx → Except Trap α} {go : Nat → Key → Nat → α → State → State}
    (h : Frame f s₀ s) (hgo : ∀ x k n v u, Frame .none u u → Frame g u (go x k n v u)) :
    Frame (f.plus (Foot.plus .none (queueFoot.plus (queueFoot.plus g)))) s₀ (s.sigPlane a undef reads rd args go) := by
  refine h.plus ?_
  unfold State.sigPlane
  refine (Frame.refl .none s).onCore (g := queueFoot.plus g) fun x c => ?_
  split
  · exact fun _ e => nomatch e
  · split
    · exact fun _ e => nomatch e
    · split
      · exact fun _ e => nomatch e
      · have h1 : ∀ d, Frame queueFoot s ((s.setCtx x d).giveUp a.core .result) := fun _ =>
          (Frame.refl .none s).setCtx.giveUp.quiet rfl
        exact .ok ((h1 _).left.trans ((Frame.refl .none _).sigSend fun u hu => hgo _ _ _ _ u hu))

theorem Frame.startAwl (h : Frame f s₀ s) : Frame (f.plus queueFoot) s₀ s.startAwl := by
  refine h.op (.refl _) fun h => ?_
  unfold State.startAwl
  extract_lets s1 newest s2 s3 s4
  have h1 : Frame queueFoot s s1 := h.findHead.quiet rfl
  clear_value s1
  have h3 : Frame queueFoot s s3 := by
    dsimp only [s3]
    split
    · exact .quiet (.branch h1.setAwl h1) rfl
    · exact h1.quiet rfl
  have h4 : Frame queueFoot s s4 := .quiet (.branch h3.awlPersist h3) rfl
  exact h4.showStaged.quiet rfl

theorem Frame.startRun {c j filled st} (h : Frame f s₀ s) : Frame (f.plus queueFoot) s₀ (s.startRun c j filled st) :=
  h.opQuiet (fun h => h.showTbmis.setTwd.set.setFld) rfl

theorem Frame.submitSvc {n x aff body} (h : Frame f s₀ s) : Frame (f.plus queueFoot) s₀ (s.submitSvc n x aff body) := by
  refine h.op (.refl _) fun h => ?_
  obtain ⟨accept, hf⟩ : ∃ f, f = State.acceptOrder := ⟨_, rfl⟩
  unfold State.submitSvc
  rw [← hf]
  extract_lets _ _ s1 s2 refuse
  have h1 : Frame queueFoot s s1 := h.set.quiet rfl
  have hr : ∀ st, Frame queueFoot s (refuse st) := fun st =>
    .quiet (.giveResult (.branch h1.irq.count.irq h1.irq.count)) rfl
  refine .same (hr _) (.same ?_ ?_)
  · split
    · exact h1.count.giveResult.quiet rfl
    · exact hr _
  · split
    · rename_i e
      rw [hf] at e
      exact .quiet (h1.acceptOrder _ e) rfl
    · exact hr _

theorem Frame.twdApply {c} (h : Frame f s₀ s) : Frame (f.plus queueFoot) s₀ (s.twdApply c) :=
  h.opQuiet (fun h => .setFld (.setFlag (.setFlag (.fold (g := queueFoot) h.setTwd fun _ _ h1 =>
    .quiet (.branch h1.set h1) rfl)))) rfl

theorem Frame.xmit {slot j len} (h : Frame f s₀ s) : Frame (f.plus queueFoot) s₀ (s.xmit slot j len).1 := by
  refine h.op (.refl _) fun h => ?_
  unfold State.xmit
  extract_lets
  split
  · exact h.quiet rfl
  · split
    · exact h.quiet rfl
    · split
      · exact h.quiet rfl
      · exact h.queueCtrl.quiet rfl

/-! ### The commands that are more than one chain -/

theorem execSalvo_frame {a rd ra rb rc fr views} : Completes (Frame queueFoot s) (execSalvo a rd ra rb rc fr views s) := by
  have h := Frame.refl .none s
  unfold execSalvo
  refine .next (.quiet (.sigPlane (g := queueFoot) h fun x1 k1 n1 v1 s1 h1 => ?_) rfl)
  split
  · exact h1.sigReturn.quiet rfl
  · exact h1.takeMembers.quiet rfl

theorem execNimLd_frame {a rd ra sp sz off} : Completes (Frame queueFoot s) (execNimLd a rd ra sp sz off s) := by
  have h := Frame.refl .none s
  unfold execNimLd
  extract_lets
  refine .next (.quiet (.onCore (g := queueFoot) h fun x1 c1 => ?_) rfl)
  extract_lets _ s1
  have h1 : Frame queueFoot s s1 := h.drawFree.busRead.quiet rfl
  split
  · exact .quiet (.error) rfl
  · exact .quiet (.branch (.ok h1.setCtx) (.ok h.setCtx)) rfl

theorem execNimSt_frame {a rd ra sp sz off} : Completes (Frame queueFoot s) (execNimSt a rd ra sp sz off s) := by
  have h := Frame.refl .none s
  unfold execNimSt
  extract_lets
  refine .next (.quiet (.onCore (g := queueFoot) h fun x1 c1 => ?_) rfl)
  extract_lets
  split
  · exact .quiet (.error) rfl
  · split
    · exact .quiet (.ok h.setCtx) rfl
    · exact .quiet (.ok h.updNim.setCtx) rfl
    · exact .quiet (.branch .error (.ok h.setCtx.busWrite)) rfl

theorem execNimBld_frame {a rd ri ent wide} : Completes (Frame queueFoot s) (execNimBld a rd ri ent wide s) := by
  have h := Frame.refl .none s
  unfold execNimBld
  extract_lets
  refine .next (.quiet (.onCore (g := queueFoot) h fun x1 c1 => ?_) rfl)
  split
  · exact .quiet (.error) rfl
  · exact .quiet (.ok h.drawFree.busRead.setCtx) rfl

theorem execNimBst_frame {a rd ri ent wide env} : Completes (Frame queueFoot s) (execNimBst a rd ri ent wide env s) := by
  have h := Frame.refl .none s
  unfold execNimBst
  extract_lets
  refine .next (.quiet (.onCore (g := queueFoot) h fun x1 c1 => ?_) rfl)
  split
  · exact .quiet (.error) rfl
  · exact .quiet (.branch (.ok h) (.ok h.setCtx.busWrite)) rfl

theorem execNimJsub_frame {a rd ra rb rc fr} : Completes (Frame queueFoot s) (execNimJsub a rd ra rb rc fr s) := by
  have h := Frame.refl .none s
  unfold execNimJsub
  extract_lets
  refine .next (.quiet (.onCore (g := queueFoot) h fun x1 c1 => ?_) rfl)
  split
  · exact .quiet (.error) rfl
  · extract_lets _ _ _ _ _ s1
    have h1 : Frame queueFoot s s1 := h.setCtx.giveUp.quiet rfl
    split
    · exact .quiet (.ok h.drawFree.setCtx) rfl
    · split
      · exact .quiet (.ok h) rfl
      · split
        · exact .quiet (.error) rfl
        · split
          · exact .quiet (.error) rfl
          · exact .quiet (.ok h1.submitSvc) rfl

theorem execNimJinfo_frame {a rd fn} : Completes (Frame queueFoot s) (execNimJinfo a rd fn s) := by
  have h := Frame.refl .none s
  unfold execNimJinfo
  extract_lets
  refine .next (.quiet (.onCore (g := queueFoot) h fun x1 c1 => ?_) rfl)
  split
  · exact .quiet (.error) rfl
  · exact .quiet (.ok h.setCtx) rfl

theorem execNimPost_frame {a ra rb fn} : Completes (Frame queueFoot s) (execNimPost a ra rb fn s) := by
  have h := Frame.refl .none s
  unfold execNimPost
  extract_lets
  refine .next (.quiet (.onCore (g := queueFoot) h fun x1 c1 => ?_) rfl)
  extract_lets
  split
  · exact .quiet (.error) rfl
  · split
    · exact .quiet (.ok h.postEvent.setCtx) rfl
    · exact .quiet (.branch (.ok h.setCtx) (.branch (.ok h.setCtx) (.branch (.ok h.setCtx) (.ok h.postRecord.setCtx)))) rfl

theorem execNimSend_frame {a ra rb fn reply} : Completes (Frame queueFoot s) (execNimSend a ra rb fn reply s) := by
  have h := Frame.refl .none s
  unfold execNimSend
  extract_lets
  refine .next (.quiet (.onCore (g := queueFoot) h fun x1 c1 => ?_) rfl)
  split
  · exact .quiet (.error) rfl
  · extract_lets
    split
    · exact .quiet (.error) rfl
    · exact .quiet (.ok (.reported h (fun _ h1 => h1.deliverMail))) rfl

theorem execNimReply_frame {a ra fn reply} : Completes (Frame queueFoot s) (execNimReply a ra fn reply s) := by
  have h := Frame.refl .none s
  unfold execNimReply
  refine .next (.quiet (.onCore (g := queueFoot) h fun x c => ?_) rfl)
  dsimp only
  split
  · exact .quiet (.error) rfl
  · refine .quiet (.ok (.reported (g := queueFoot) h fun u h => ?_)) rfl
    split
    · exact h.replyOrder.quiet rfl
    · split
      · exact h.deliverMail.quiet rfl
      · exact h.drawFree.quiet rfl
    · exact h.quiet rfl

theorem execNimXmit_frame {a ra rb rc fr} : Completes (Frame queueFoot s) (execNimXmit a ra rb rc fr s) := by
  have h := Frame.refl .none s
  unfold execNimXmit
  extract_lets
  refine .next (.quiet (.onCore (g := queueFoot) h fun x1 c1 => ?_) rfl)
  split
  · exact .quiet (.error) rfl
  · extract_lets _ _ s1
    have h1 : Frame queueFoot s s1.1 := h.xmit.quiet rfl
    split
    · exact .quiet (.error) rfl
    · exact .quiet (.branch (.ok h.setCtx) (.ok h1.setCtx)) rfl

theorem execNimWait_frame {a rd ra rb fn} : Completes (Frame queueFoot s) (execNimWait a rd ra rb fn s) := by
  have h := Frame.refl .none s
  unfold execNimWait
  extract_lets
  refine .next (.quiet (.onCore (g := queueFoot) h fun x1 c1 => ?_) rfl)
  split
  · exact .quiet (.error) rfl
  · extract_lets _ _ _ _ s1 _ _ s2 s3
    have h1 : Frame queueFoot s s1 := .quiet (.branch h.setSvc h) rfl
    have h2 : Frame queueFoot s s2 := .quiet (.branch h1.setSvc h1) rfl
    have h3 : Frame queueFoot s s3 := h1.setCtx.giveUp.quiet rfl
    exact .quiet (.branch (.ok h.setCtx) (.branch (.ok h2.setCtx) (.ok h3.setFld.wakeCtx))) rfl

theorem execNimSignalPlaneResult_frame {key sig value st} :
    Completes (Frame queueFoot s) (execNimSignalPlaneResult key sig value st s) := by
  have h := Frame.refl .none s
  unfold execNimSignalPlaneResult
  refine .next ?_
  split
  · exact h.quiet rfl
  · split
    · exact h.sigReturn.quiet rfl
    · exact h.quiet rfl

theorem execTweedSampleWrite_frame {core slot n v kind asp} :
    Completes (Frame queueFoot s) (execTweedSampleWrite core slot n v kind asp s) := by
  have h := Frame.refl .none s
  unfold execTweedSampleWrite
  refine .next ?_
  split
  · exact h.bankSample.quiet rfl
  · exact h.bankSample.count.irq.quiet rfl
  · exact h.bankSample.quiet rfl

theorem execTweedRunStart_frame {core j filled} : Completes (Frame queueFoot s) (execTweedRunStart core j filled s) := by
  have h := Frame.refl .none s
  unfold execTweedRunStart
  refine .next ?_
  extract_lets _ _ due _ s1 s2 _ _ _ drop
  have h1 : Frame queueFoot s s1 := .quiet (.branch h.twdApply h) rfl
  have h2 : Frame queueFoot s s2 := .quiet (.branch h1.count.setFlag.irq h1) rfl
  have hr : ∀ st, Frame queueFoot s (s2.startRun core j filled st) := fun _ => h2.startRun.quiet rfl
  have hd : Frame queueFoot s drop := h2.setTwd.quiet rfl
  exact .same (h.quiet rfl) (.same (.same (hr _) hd) (.same (hr _)
    (.same (.same (hr _) (.same (hd.setFld.quiet rfl) (hd.setTwd.quiet rfl))) hd)))

theorem execTweedRunDeadline_frame {core uncorr} : Completes (Frame queueFoot s) (execTweedRunDeadline core uncorr s) :=
  .chainQuiet (fun h => .branch h (.branch (.irq (.count (.branch h.setTwd.event h.setTwd))) (.awlCause (.irq (.count (.branch
    h.setTwd.event h.setTwd)))))) rfl

theorem execBar2Access_frame {off write} : Completes (Frame queueFoot s) (execBar2Access off write s) := by
  have h := Frame.refl .none s
  unfold execBar2Access
  extract_lets _ _ _ s1
  have h1 : Frame queueFoot s s1 := h.bar2Miss.quiet rfl
  refine .next ?_
  split
  · exact .quiet (.branch h.bar2Miss h.updFrameStore) rfl
  · exact .quiet (.branch h1.updRdata (.branch h.updRdata.drawFree h.updRdata)) rfl

theorem execStbyPgFall_frame {records} : Completes (Frame queueFoot s) (execStbyPgFall records s) :=
  .chainQuiet (fun h => .branch h (.setFld (.setFld (.setBoot (.setAwl (.fold (g := queueFoot) (.branch h h.powerFail.coldReset)
    fun _ _ h1 => h1.clear.quiet rfl)))))) rfl

theorem execWarmBoot_frame {good converted data} : Completes (Frame queueFoot s) (execWarmBoot good converted data s) := by
  have h := Frame.refl .none s
  unfold execWarmBoot
  refine .next ?_
  extract_lets _ s1 s2 _ s3 _ _ _ s4 s5 s6
  have h1 : Frame queueFoot s s1 := h.setBoot.quiet rfl
  have h4 : Frame queueFoot s s4 := h1.lockDown.restoreSettings.runLater.updNim.quiet rfl
  have h5 : Frame queueFoot s s5 := .quiet (.fold h4 fun _ _ h => h.postRecord) rfl
  have h6 : Frame queueFoot s s6 := .quiet (.branch h5 h5.awlCause) rfl
  exact .quiet (.branch h (.branch h1.badSlot.showUpd h6.journalReplay.showUpd)) rfl

theorem execBootRomDone_frame {retentionOk} : Completes (Frame queueFoot s) (execBootRomDone retentionOk s) :=
  .chainQuiet (fun h => .branch h (.showUpd (.selectSlot (.setFld (.stageEnds (.branch h.setBoot.setFlag.takeCounts.setBoot
    h.setBoot.setFlag.takeCounts.setBoot.setAwl.setFlag)))))) rfl

theorem execHbmTrainDone_frame {converted} : Completes (Frame queueFoot s) (execHbmTrainDone converted s) :=
  .chainQuiet (fun h => .branch h (.setFld (.stageEnds (.branch (.enterSpare (.branch h.restoreSettings.startCores.setFld
    h.restoreSettings.startCores)) (.branch h.restoreSettings.startCores.setFld h.restoreSettings.startCores))))) rfl

theorem execSpareExit_frame {assumed} : Completes (Frame queueFoot s) (execSpareExit assumed s) :=
  .chainQuiet (fun h => .branch h (.branch (.setFld (.fold (.fold h.setFld.wake fun _ _ h1 => h1.requestClk) fun _ _ h1
    => h1.laceUnhold)) (.fold (.fold h.setFld.wake fun _ _ h1 => h1.requestClk) fun _ _ h1 => h1.laceUnhold))) rfl

theorem execPllLockTimeout_frame {d} : Completes (Frame queueFoot s) (execPllLockTimeout d s) := by
  have h := Frame.refl .none s
  unfold execPllLockTimeout
  refine .next ?_
  split
  · exact .quiet (.branch h.setClk.count h.setClk.setFlag.event.serveClks) rfl
  · exact h.quiet rfl

theorem execClockStopDone_frame {d} : Completes (Frame queueFoot s) (execClockStopDone d s) := by
  have h := Frame.refl .none s
  unfold execClockStopDone
  refine .next ?_
  split
  · exact .quiet (.branch h.setClk.setFlag.startClk h.setClk.setFlag) rfl
  · exact h.quiet rfl

theorem execPmbusPoll_frame {rails} : Completes (Frame queueFoot s) (execPmbusPoll rails s) := by
  have h := Frame.refl .none s
  unfold execPmbusPoll
  refine .next ?_
  split
  · exact h.quiet rfl
  · refine .quiet (.fold (g := queueFoot) h fun u e hu => ?_) rfl
    extract_lets _ u2
    have h2 : Frame queueFoot u u2 := .quiet (.branch hu.setRsl hu) rfl
    split
    · exact h2.set.quiet rfl
    · exact h2.set.awlUnstated.quiet rfl

/-! ### Every command -/

/-- Every command answers a next state, and leaves the queue and the count of periods as they were. -/
theorem exec_frame (c : Instr) : Completes (Frame queueFoot s) (exec c s) :=
  match c with
  | .registerWrite .. => .chainQuiet (fun h => h.busWrite) rfl
  | .readClear .. => .chainQuiet (fun h => h.busRead) rfl
  | .latchedRead64 .. => .chainQuiet (fun h => h.busRead) rfl
  | .sdiRateHuntDwell .. => .chainQuiet (fun h => .branch h.huntNext h) rfl
  | .sdiLock .. => .chainQuiet (fun h => .branch h.receiverLock h) rfl
  | .sdiLockLossTimeout .. => .chainQuiet (fun h => h.receiverUnlock.loseInput.setInput) rfl
  | .sdiLineReceive .. => execSdiLineReceive_frame.quiet rfl
  | .trsLoss .. => .chainQuiet (fun h => h.loseInput) rfl
  | .sdiFrameEnd .. => execSdiFrameEnd_frame.quiet rfl
  | .networkFrameReceive .. => .chainQuiet (fun h => .branch h.count (.branch h (.macIn h (fun _ h1 => h1.classify)))) rfl
  | .videoFrameClose .. => execVideoFrameClose_frame.quiet rfl
  | .legSilence .. => .chainQuiet (fun h => h.setFlag) rfl
  | .packetLossTimeout .. => .chainQuiet (fun h => h.loseInput) rfl
  | .syncReadInterrupt .. => .chainQuiet (fun h => .branch h.count.setInput h) rfl
  | .inputEnable .. => .chainQuiet (fun h => h.writeInCfg) rfl
  | .inputDisable .. => .chainQuiet (fun h => h.writeInCfg) rfl
  | .inputKill .. => .chainQuiet (fun h => h.writeInCfg) rfl
  | .inputDrainDone .. => .chainQuiet (fun h => .branch h.inputOff h) rfl
  | .inputModeChange .. => .chainQuiet (fun h => h.writeInCfg) rfl
  | .inputDomainChange .. => .chainQuiet (fun h => h.writeInCfg) rfl
  | .delayFramesChange .. => .chainQuiet (fun h => h.writeInSync) rfl
  | .videoFlowBinding .. => .chainQuiet (fun h => h.writePktVid) rfl
  | .pdMaxWrite .. => .chainQuiet (fun h => h.writePd) rfl
  | .audioContextBinding .. => .chainQuiet (fun h => h.writeAfl) rfl
  | .audioOffsetWrite .. => .chainQuiet (fun h => h.writeAflOff) rfl
  | .ancContextBinding .. => .chainQuiet (fun h => h.writeAnf) rfl
  | .sdiCfgWrite .. => .chainQuiet (fun h => h.writeSdiCfg) rfl
  | .poolPagesWrite .. => .chainQuiet (fun h => h.writePool) rfl
  | .ingressDisable .. => .chainQuiet (fun h => h.writeIngCtrl) rfl
  | .cellReceive .. => execCellReceive_frame.quiet rfl
  | .calendarSlot .. => execCalendarSlot_frame.quiet rfl
  | .calendarPeriodBoundary => execCalendarPeriodBoundary_frame.quiet rfl
  | .routeRequest .. => .chainQuiet (fun h => h.hold.answer) rfl
  | .routeHoldTimeout .. => execRouteHoldTimeout_frame.quiet rfl
  | .holdReleaseReport .. => execHoldReleaseReport_frame.quiet rfl
  | .routeSettle .. => execRouteSettle_frame.quiet rfl
  | .arbitratedQueueOpen .. => execArbitratedQueueOpen_frame.quiet rfl
  | .arbitratedCellEnqueue .. => .chainQuiet (fun h => .branch h.answer (.branch h.answer (.branch
      h.placeCell.showEligible.answer h.setQueue))) rfl
  | .linkControlCell .. => execLinkControlCell_frame.quiet rfl
  | .rerouteStream .. => .chainQuiet (fun h => .branch h.hold.answer h.hold.awlFabric.answer) rfl
  | .dirRead .. => .chainQuiet (fun h => h.writeDirCmd) rfl
  | .dirWrite .. => .chainQuiet (fun h => h.writeDirCmd) rfl
  | .dirWithdraw .. => .chainQuiet (fun h => h.writeDirCmd) rfl
  | .dirUpdateReceive .. => .chainQuiet (fun h => h.receiveUpdate) rfl
  | .dirMissingRequestReceive .. => .chainQuiet (fun h => .branch (.fold h.setDirs fun _ _ h1 => h1.emit) h.setDirs.emit) rfl
  | .dirAckReceive .. => execDirAckReceive_frame.quiet rfl
  | .dirAckTimeout .. => execDirAckTimeout_frame.quiet rfl
  | .dirResyncStart .. => execDirResyncStart_frame.quiet rfl
  | .dirResyncAnswer .. => execDirResyncAnswer_frame.quiet rfl
  | .dirResyncOriginTimeout .. => .chainQuiet (fun h => .branch h.setDirs.resyncEnd.showLag h) rfl
  | .slicePortSwap .. => .chainQuiet (fun h => h.writeSwapCtrl) rfl
  | .slicePortSwapBack .. => .chainQuiet (fun h => h.writeSwapCtrl) rfl
  | .swapSpareFail => execSwapSpareFail_frame.quiet rfl
  | .slicePortFail .. => .chainQuiet (fun h => .branch h (.fold h.setFld fun _ _ h1 => h1.replaceRoute)) rfl
  | .twillDisable .. => .chainQuiet (fun h => h.writeTwlCtrl) rfl
  | .twillDrainDone => .chainQuiet (fun h => .branch h.twillStop h) rfl
  | .twillKill .. => .chainQuiet (fun h => h.writeTwlCtrl) rfl
  | .v6PrefixWrite .. => .chainQuiet (fun h => h.writeV6) rfl
  | .take .. => .chainQuiet (fun h => .sigPlane h (fun _ _ _ _ _ h1 => h1.takeMembers)) rfl
  | .salvo .. => execSalvo_frame
  | .forwardedTake .. => execForwardedTake_frame.quiet rfl
  | .partnerAdmissionResult .. => execPartnerAdmissionResult_frame.quiet rfl
  | .takeArmed .. => execTakeArmed_frame.quiet rfl
  | .switchPoint .. => .chainQuiet (fun h => .branch h h.switchTakes.applyReleases) rfl
  | .takeRouteLost .. => execTakeRouteLost_frame.quiet rfl
  | .routeRetry .. => .chainQuiet (fun h => h.routeRetry) rfl
  | .xchkRecordReceive .. => execXchkRecordReceive_frame.quiet rfl
  | .selfCheckDone .. => execSelfCheckDone_frame.quiet rfl
  | .selfCheckResultReceive .. => execSelfCheckResultReceive_frame.quiet rfl
  | .selfCheckResultTimeout => execSelfCheckResultTimeout_frame.quiet rfl
  | .partnerSilence => .chainQuiet (fun h => .branch h.setRsl.emit h) rfl
  | .otdFrameBoundary .. => execOtdFrameBoundary_frame.quiet rfl
  | .otdConfigWrite .. => .chainQuiet (fun h => h.writeOtdCfg) rfl
  | .otdPhaseWrite .. => .chainQuiet (fun h => h.writeOtdPhase) rfl
  | .outputEnable .. => .chainQuiet (fun h => h.writeOutCfg) rfl
  | .outputDisable .. => .chainQuiet (fun h => h.writeOutCfg) rfl
  | .outputKill .. => .chainQuiet (fun h => h.writeOutCfg) rfl
  | .outputDrainDone .. => .chainQuiet (fun h => .branch h.outputOff h) rfl
  | .outputLine .. => execOutputLine_frame.quiet rfl
  | .overrideWrite .. => .chainQuiet (fun h => h.writeOutCfg) rfl
  | .patternGenConfig .. => .chainQuiet (fun h => h.writePat) rfl
  | .identWrite .. => .chainQuiet (fun h => h.writeIdent) rfl
  | .outAudioWrite .. => .chainQuiet (fun h => h.writeOutAud) rfl
  | .outSdiBond .. => .chainQuiet (fun h => h.writeOutSdi) rfl
  | .videoSenderBind .. => .chainQuiet (fun h => h.writeVsndCfg) rfl
  | .sourceSenderSrc .. => .chainQuiet (fun h => h.writeVsndSrc) rfl
  | .audioSenderBind .. => .chainQuiet (fun h => .branch h.writeAsndFmt h.writeAsndCfg) rfl
  | .ancSenderBind .. => .chainQuiet (fun h => h.writeXsndCfg) rfl
  | .videoPacketSend .. => .chainQuiet (fun h => .branch h (.branch h.count (.sendRtp (.setSender (.branch h.count.irq h))))) rfl
  | .audioPacketSend .. => .chainQuiet (fun h => .branch h (.branch h.setSender.sendRtp.senderOff h.setSender.sendRtp)) rfl
  | .ancPacketSend .. => .chainQuiet (fun h => .branch h h.sendRtp) rfl
  | .senderStop .. => execSenderStop_frame.quiet rfl
  | .joinEntrySet .. => .chainQuiet (fun h => h.writeJoin) rfl
  | .joinEntryClear .. => .chainQuiet (fun h => h.writeJoin) rfl
  | .joinRepeatTimer .. => .chainQuiet (fun h => .branch h h.report.setJoin) rfl
  | .joinStallTimeout .. => .chainQuiet (fun h => .branch h.setFld.irq.awlState h) rfl
  | .joinQueryReceive .. => .chainQuiet (fun h => .fold h fun _ _ h1 => .branch h1.setJoin h1) rfl
  | .joinQueryReport .. => .chainQuiet (fun h => .branch h.report.setJoin h) rfl
  | .joinOldQuerier .. => .chainQuiet (fun h => .fold h fun _ _ h1 => .branch h1.report.setFld.irq.awlState h1) rfl
  | .joinOldQuerierTimeout .. => .chainQuiet (fun h => .fold h fun _ _ h1 => .branch h1.changeReport h1) rfl
  | .healthRiseTimer .. => .chainQuiet (fun h => .branch h.setHealth h.health) rfl
  | .healthReleaseWrite .. => .chainQuiet (fun h => h.writeHealthCtrl) rfl
  | .egressDisable .. => .chainQuiet (fun h => h.writeEgrCtrl) rfl
  | .sqDoorbell .. => .chainQuiet (fun h => h.writeSqTail) rfl
  | .submissionAccept .. => .chainQuiet (fun h => .branch h.takeSqe.showQueue h.showQueue) rfl
  | .cqDoorbell .. => .chainQuiet (fun h => h.writeCqHead) rfl
  | .journalMirrorReceive .. => execJournalMirrorReceive_frame.quiet rfl
  | .journalMirrorReply .. => execJournalMirrorReply_frame.quiet rfl
  | .journalResendTimer .. => execJournalResendTimer_frame.quiet rfl
  | .frontierSend => .chainQuiet (fun h => .branch h.emit h) rfl
  | .frontierReceive .. => .chainQuiet (fun h => .branch h h.updNim.updNim.setFld.setFld.setFlag.showQueues) rfl
  | .entryStart .. => execEntryStart_frame.quiet rfl
  | .budgetTrap .. => execBudgetTrap_frame.quiet rfl
  | .journalEntryFree => execJournalEntryFree_frame.quiet rfl
  | .journalReplay .. => .chainQuiet (fun h => h.journalReplay) rfl
  | .warmResetAnnounce => .chainQuiet (fun h => .branch h h.setFld.setFlag.showQueues) rfl
  | .warmWaitTimeout => .chainQuiet (fun h => .branch h.losePartner h) rfl
  | .journalReconcile .. => .chainQuiet (fun h => .awlUnstated (.fold (.fold h fun _ _ h1 => h1.emit) fun _ _ h1
      => h1.copyEntry)) rfl
  | .partnerRejoin .. => execPartnerRejoin_frame.quiet rfl
  | .nimDisable .. => .chainQuiet (fun h => h.writeNimCtrl) rfl
  | .nimKill .. => .chainQuiet (fun h => h.writeNimCtrl) rfl
  | .nimDrainDone => .chainQuiet (fun h => .branch h.killPrograms.setFlag.setFld h) rfl
  | .serviceStart .. => .chainQuiet (fun h => .fold h fun _ _ h1 => .branch h1.setFld.irq h1.startSvc) rfl
  | .serviceRestart .. => .chainQuiet (fun h => .branch h.startSvc.setFld h) rfl
  | .pairModeWrite .. => .chainQuiet (fun h => h.writePairCfg) rfl
  | .nimAdd .. => .chainQuiet (fun h => h.alu2) rfl
  | .nimSub .. => .chainQuiet (fun h => h.alu2) rfl
  | .nimAnd .. => .chainQuiet (fun h => h.alu2) rfl
  | .nimOr .. => .chainQuiet (fun h => h.alu2) rfl
  | .nimXor .. => .chainQuiet (fun h => h.alu2) rfl
  | .nimSll .. => .chainQuiet (fun h => h.alu2) rfl
  | .nimSrl .. => .chainQuiet (fun h => h.alu2) rfl
  | .nimSra .. => .chainQuiet (fun h => h.alu2) rfl
  | .nimMul .. => .chainQuiet (fun h => h.alu2) rfl
  | .nimMulhu .. => .chainQuiet (fun h => h.alu2) rfl
  | .nimDivu .. => .chainQuiet (fun h => h.alu2) rfl
  | .nimRemu .. => .chainQuiet (fun h => h.alu2) rfl
  | .nimMinu .. => .chainQuiet (fun h => h.alu2) rfl
  | .nimMaxu .. => .chainQuiet (fun h => h.alu2) rfl
  | .nimMin .. => .chainQuiet (fun h => h.alu2) rfl
  | .nimMax .. => .chainQuiet (fun h => h.alu2) rfl
  | .nimSxb .. => .chainQuiet (fun h => h.alu1) rfl
  | .nimSxh .. => .chainQuiet (fun h => h.alu1) rfl
  | .nimSxw .. => .chainQuiet (fun h => h.alu1) rfl
  | .nimClz .. => .chainQuiet (fun h => h.alu1) rfl
  | .nimPopc .. => .chainQuiet (fun h => h.alu1) rfl
  | .nimRdst .. => .chainQuiet (fun h => h.alu) rfl
  | .nimAddi .. => .chainQuiet (fun h => h.alu1) rfl
  | .nimAndi .. => .chainQuiet (fun h => h.alu1) rfl
  | .nimOri .. => .chainQuiet (fun h => h.alu1) rfl
  | .nimXori .. => .chainQuiet (fun h => h.alu1) rfl
  | .nimSlli .. => .chainQuiet (fun h => h.alu1) rfl
  | .nimSrli .. => .chainQuiet (fun h => h.alu1) rfl
  | .nimSrai .. => .chainQuiet (fun h => h.alu1) rfl
  | .nimLdi .. => .chainQuiet (fun h => h.alu) rfl
  | .nimLdk .. => .chainQuiet (fun h => h.alu) rfl
  | .nimCmp .. => .chainQuiet (fun h => h.alup) rfl
  | .nimCmpi .. => .chainQuiet (fun h => h.alup) rfl
  | .nimPand .. => .chainQuiet (fun h => h.plog) rfl
  | .nimPor .. => .chainQuiet (fun h => h.plog) rfl
  | .nimPxor .. => .chainQuiet (fun h => h.plog) rfl
  | .nimPandn .. => .chainQuiet (fun h => h.plog) rfl
  | .nimBr .. => .chainQuiet (fun h => h.branchTo) rfl
  | .nimCall .. => .chainQuiet (fun h => h.branchTo) rfl
  | .nimJr .. => .chainQuiet (fun h => h.branchTo) rfl
  | .nimLcall .. => .chainQuiet (fun h => h.branchTo) rfl
  | .nimLd .. => execNimLd_frame
  | .nimSt .. => execNimSt_frame
  | .nimAmoAdd .. => .chainQuiet (fun h => h.amo) rfl
  | .nimAmoSwap .. => .chainQuiet (fun h => h.amo) rfl
  | .nimAmoCas .. => .chainQuiet (fun h => h.amo) rfl
  | .nimBld .. => execNimBld_frame
  | .nimBst .. => execNimBst_frame
  | .nimBfence .. => .chainQuiet (fun h => .onCore h (fun _ _ => .ok h.setCtx)) rfl
  | .nimFlowWrite .. => .chainQuiet (fun h => .sigPlane h (fun _ _ _ _ _ h1 => .branch h1.sigReturn (.branch h1 h1.dirWrite))) rfl
  | .nimFlowWithdraw .. => .chainQuiet (fun h => .sigPlane h (fun _ _ _ _ _ h1 => .branch h1.sigReturn (.branch h1
      h1.dirWithdraw))) rfl
  | .nimLayer .. => .chainQuiet (fun h => .sigPlane h (fun _ _ _ _ _ h1 => h1.layerWrite.sigReturn)) rfl
  | .nimCommit .. => .chainQuiet (fun h => .sigPlane h (fun _ _ _ _ _ h1 => h1.commit.sigReturn)) rfl
  | .nimRdt .. => .chainQuiet (fun h => .onCore h (fun _ _ => .branch (.ok h.setCtx) (.branch (.ok h.setCtx) (.ok h.setCtx)))) rfl
  | .nimNspSwitchPoint .. => .chainQuiet (fun h => h.nsp) rfl
  | .nimNspFrameBoundary .. => .chainQuiet (fun h => h.nsp) rfl
  | .nimJsub .. => execNimJsub_frame
  | .nimJinfo .. => execNimJinfo_frame
  | .nimPost .. => execNimPost_frame
  | .nimSend .. => execNimSend_frame
  | .nimReply .. => execNimReply_frame
  | .nimRecvMsg .. => .chainQuiet (fun h => h.recv) rfl
  | .nimRecvTake .. => .chainQuiet (fun h => h.recv) rfl
  | .nimRecvDone .. => .chainQuiet (fun h => h.recv) rfl
  | .nimRecvRing .. => .chainQuiet (fun h => h.recv) rfl
  | .nimXmit .. => execNimXmit_frame
  | .nimWait .. => execNimWait_frame
  | .nimWaitWake .. => .chainQuiet (fun h => h.wakeSvc) rfl
  | .nimYield .. => .chainQuiet (fun h => .onCore h (fun _ _ => .ok h.setCtx.setRunning.ready)) rfl
  | .nimHalt .. => .chainQuiet (fun h => .onCore h (fun _ _ => .ok (.branch h h.haltCtx))) rfl
  | .nimNop .. => .chainQuiet (fun h => .onCore h (fun _ _ => .ok h.setCtx)) rfl
  | .nimSignalPlaneResult .. => execNimSignalPlaneResult_frame
  | .tweedSampleWrite .. => execTweedSampleWrite_frame
  | .tweedRunStart .. => execTweedRunStart_frame
  | .tweedRunDeadline .. => execTweedRunDeadline_frame
  | .tweedBlockPresent .. => .chainQuiet (fun h => .twdIdle (.followTakes (.fold (.branch h.setTwd.setFld h.setTwd) fun _ _ h1
      => h1.emit))) rfl
  | .tweedApplyArm .. => .chainQuiet (fun h => h.writeCoreAt) rfl
  | .twdImemWrite .. => .chainQuiet (fun h => h.writeImem) rfl
  | .twdPlaceWrite .. => .chainQuiet (fun h => h.writePlace) rfl
  | .twdFollowWrite .. => .chainQuiet (fun h => h.writeFollow) rfl
  | .bundleSenderWrite .. => .chainQuiet (fun h => .branch h.writeBtxFlow h.writeBtxCfg) rfl
  | .bundleReceiverWrite .. => .chainQuiet (fun h => h.writeBrxCfg) rfl
  | .tweedScrub .. => .chainQuiet (fun h => .fold h.count fun _ _ h1 => h1.repairRow) rfl
  | .tweedCoreSwap .. => .chainQuiet (fun h => h.setFld.unitMoved) rfl
  | .tweedDisable .. => .chainQuiet (fun h => h.writeTwdCtrl) rfl
  | .tweedKill .. => .chainQuiet (fun h => h.writeTwdCtrl) rfl
  | .twdNop .. => .chainQuiet (fun h => h.bundle) rfl
  | .twdMac .. => .chainQuiet (fun h => h.bundle) rfl
  | .twdMsu .. => .chainQuiet (fun h => h.bundle) rfl
  | .twdMpy .. => .chainQuiet (fun h => h.bundle) rfl
  | .twdQmac .. => .chainQuiet (fun h => h.bundle) rfl
  | .twdQmsu .. => .chainQuiet (fun h => h.bundle) rfl
  | .twdQmpy .. => .chainQuiet (fun h => h.bundle) rfl
  | .twdClr .. => .chainQuiet (fun h => h.bundle) rfl
  | .twdRnd .. => .chainQuiet (fun h => h.bundle) rfl
  | .twdVadd .. => .chainQuiet (fun h => h.bundle) rfl
  | .twdVsub .. => .chainQuiet (fun h => h.bundle) rfl
  | .twdVmov .. => .chainQuiet (fun h => h.bundle) rfl
  | .twdVbc .. => .chainQuiet (fun h => h.bundle) rfl
  | .twdVtoa .. => .chainQuiet (fun h => h.bundle) rfl
  | .twdLoop .. => .chainQuiet (fun h => h.bundle) rfl
  | .twdLpr .. => .chainQuiet (fun h => h.bundle) rfl
  | .twdBr .. => .chainQuiet (fun h => h.bundle) rfl
  | .twdSetx .. => .chainQuiet (fun h => h.bundle) rfl
  | .twdSety .. => .chainQuiet (fun h => h.bundle) rfl
  | .twdEob .. => .chainQuiet (fun h => h.bundle) rfl
  | .twdVld .. => .chainQuiet (fun h => h.bundle) rfl
  | .twdVst .. => .chainQuiet (fun h => h.bundle) rfl
  | .twdVbl .. => .chainQuiet (fun h => h.bundle) rfl
  | .aspEnable .. => .chainQuiet (fun h => h.writeAspCfg) rfl
  | .aspDisable .. => .chainQuiet (fun h => h.writeAspCfg) rfl
  | .aspKill .. => .chainQuiet (fun h => h.writeAspCfg) rfl
  | .aspArm .. => .chainQuiet (fun h => h.writeAspCfg) rfl
  | .aspMaskWrite .. => .chainQuiet (fun h => h.writeAspMask) rfl
  | .aspFrameStart .. => .chainQuiet (fun h => .branch h (.branch h.set.aspTxFrame h.set.aspRxFrame)) rfl
  | .aspBckMissing .. => .chainQuiet (fun h => .branch h h.aspFault) rfl
  | .aspWsMissing .. => .chainQuiet (fun h => .branch h h.aspFault) rfl
  | .aspClockFault .. => .chainQuiet (fun h => .branch h.aspFault h) rfl
  | .aspResync .. => .chainQuiet (fun h => .branch h.setSect.setAspState (.branch h.setSect.setAspState.aspEvent h)) rfl
  | .aspRateChange .. => .chainQuiet (fun h => .branch (.branch h.setAspState.setFld.aspEvent.aspRearm
      h.setAspState.setFld.aspEvent) h) rfl
  | .aspDataStart .. => .chainQuiet (fun h => .branch h.setSect.setAspState h) rfl
  | .aspTailDone .. => .chainQuiet (fun h => .branch h.aspToOff h) rfl
  | .pipeEnable .. => .chainQuiet (fun h => h.writePipeCfg) rfl
  | .pipeDisable .. => .chainQuiet (fun h => h.writePipeCfg) rfl
  | .pipeKill .. => .chainQuiet (fun h => h.writePipeCfg) rfl
  | .pipeDrainDone .. => .chainQuiet (fun h => .branch h.pipeStop h) rfl
  | .surfaceConfigWrite .. => .chainQuiet (fun h => h.writeSurfCfg) rfl
  | .surfGenApply => execSurfGenApply_frame.quiet rfl
  | .bar2Access .. => execBar2Access_frame
  | .vampDisable .. => .chainQuiet (fun h => h.writeVmpCtrl) rfl
  | .lastEvaluation .. => execLastEvaluation_frame.quiet rfl
  | .refLossDetect .. => .chainQuiet (fun h => h.refLost) rfl
  | .refValid .. => .chainQuiet (fun h => .branch h (.branch h (.branch h h.setFlag.setFld.setFld.setLst))) rfl
  | .refQualify .. => .chainQuiet (fun h => .branch h.setFlag.setFld.setFld h) rfl
  | .slewStep .. => execSlewStep_frame.quiet rfl
  | .lastLock => .chainQuiet (fun h => .branch h.setLst.enterLst h) rfl
  | .holdoverLost => .chainQuiet (fun h => h.toLost) rfl
  | .loopOpen .. => .chainQuiet (fun h => h.writeLstCtrl) rfl
  | .loopClose .. => .chainQuiet (fun h => h.writeLstCtrl) rfl
  | .steerWrite .. => .chainQuiet (fun h => h.writeSteer) rfl
  | .refCfgWrite .. => .chainQuiet (fun h => h.writeRefCfg) rfl
  | .oscHoldFail => .chainQuiet (fun h => h.setFlag.event.toLost) rfl
  | .refclkFail .. => .chainQuiet (fun h => h.setLst.refclkSettle) rfl
  | .laneClockUnqual .. => .chainQuiet (fun h => h.laneQual) rfl
  | .ageingRecord .. => .chainQuiet (fun h => .branch h (.refit (.branch h.setLst.setFlag.awlUnstated h.setLst))) rfl
  | .ageingReplan => .chainQuiet (fun h => .branch h.showHold.set.setFlag.irq.awlCause h.showHold.set) rfl
  | .tbSet .. => .chainQuiet (fun h => h.writeTbAdj) rfl
  | .tbStep .. => .chainQuiet (fun h => h.writeTbAdj) rfl
  | .tbModeWrite .. => .chainQuiet (fun h => h.writeTbCfg) rfl
  | .ptpMessageReceive .. => execPtpMessageReceive_frame.quiet rfl
  | .srvFeedWrite .. => .chainQuiet (fun h => h.writeFeed) rfl
  | .ptpAnnounceSend .. => .chainQuiet (fun h => .branch h.ptpSend h) rfl
  | .ptpSyncSend .. => .chainQuiet (fun h => .branch (.branch h.ptpSend h.ptpSend.ptpSend) h) rfl
  | .ptpDelayReqSend .. => .chainQuiet (fun h => .branch h.ptpRequest h) rfl
  | .ptpPdelayReqSend .. => .chainQuiet (fun h => .branch h.ptpRequest h) rfl
  | .announceTimeout .. => .chainQuiet (fun h => .branch (.branch h.setFlag.irq.samplesStop h.setFlag.irq) h) rfl
  | .servoSamplesStop .. => .chainQuiet (fun h => h.samplesStop) rfl
  | .ptpPortStateWrite .. => .chainQuiet (fun h => h.writePtpPort) rfl
  | .alignEdge .. => execAlignEdge_frame.quiet rfl
  | .triggerArm .. => .chainQuiet (fun h => h.writeTrg) rfl
  | .triggerFire .. => .chainQuiet (fun h => .branch h.trgFire.trgPass h) rfl
  | .triggerPulseEnd .. => .chainQuiet (fun h => .branch (.branch h.setGpio.setTrg.setFld.ntmIdle h.setGpio.setTrg) h) rfl
  | .triggerDrain .. => .chainQuiet (fun h => h.writeTrg) rfl
  | .triggerKill .. => .chainQuiet (fun h => h.writeTrg) rfl
  | .captureEdge .. => .chainQuiet (fun h => .branch h (.branch h.count.irq h.setCap.showCap)) rfl
  | .captureRead .. => .chainQuiet (fun h => h.readCap) rfl
  | .ntmDisable .. => .chainQuiet (fun h => h.writeNtmCtrl) rfl
  | .laneLossOfLock .. => .chainQuiet (fun h => .branch (.branch h.laneLol.receiverUnlock h.laneLol) (.branch h.laneLol.portFall
      h.laneLol)) rfl
  | .eyeMeasure .. => execEyeMeasure_frame.quiet rfl
  | .laneRecal .. => .chainQuiet (fun h => h.writeLaneCtrl) rfl
  | .laneRecalStep .. => .chainQuiet (fun h => h.recalStep) rfl
  | .laneRetrain .. => .chainQuiet (fun h => h.writeLaneCtrl) rfl
  | .txeqWrite .. => .chainQuiet (fun h => h.writeTxeq) rfl
  | .prbsWrite .. => .chainQuiet (fun h => h.writePrbs) rfl
  | .laceLinkEnable .. => .chainQuiet (fun h => h.writeLkCfg) rfl
  | .laceIdentityReceive .. => execLaceIdentityReceive_frame.quiet rfl
  | .laceIdentTimeout .. => .chainQuiet (fun h => .branch h.setLkState.setFld h) rfl
  | .laceRetry .. => .chainQuiet (fun h => .branch h.startIdent (.branch h.emit h)) rfl
  | .laceRateStep .. => .chainQuiet (fun h => .branch h.setLkState.setFld h) rfl
  | .laceTrainDone .. => .chainQuiet (fun h => .branch h.setLink.loadLink.setLkState h) rfl
  | .laceQualEnd .. => .chainQuiet (fun h => .branch h (.branch h.stepFails (.branch h.setFld.linkComesUp h.setFld.stepTo))) rfl
  | .laceLinkDisable .. => .chainQuiet (fun h => h.writeLkCfg) rfl
  | .laceDrainDone .. => .chainQuiet (fun h => .branch h.linkFall h) rfl
  | .laceLinkKill .. => .chainQuiet (fun h => h.writeLkCfg) rfl
  | .laceLaneFail .. => .chainQuiet (fun h => h.laneFails) rfl
  | .laceAllLanesLost .. => .chainQuiet (fun h => .branch h.linkFall h) rfl
  | .laceSecondLaneLost .. => .chainQuiet (fun h => .branch h.linkFall h) rfl
  | .laceReaddAttempt .. => execLaceReaddAttempt_frame.quiet rfl
  | .laceReaddRetry .. => .chainQuiet (fun h => h.setLink) rfl
  | .laceLinkRetrain .. => .chainQuiet (fun h => h.writeLkCtrl) rfl
  | .laceLinkRecal .. => .chainQuiet (fun h => h.writeLkCtrl) rfl
  | .groupModeWrite .. => .chainQuiet (fun h => h.writeGrpCfg) rfl
  | .portEnable .. => .chainQuiet (fun h => h.writePortCfg) rfl
  | .portLinkUp .. => .chainQuiet (fun h => .branch h.setPortState (.branch (.joinLinkUp (.irq (.setFld (.branch h.setPortState
      h)))) h)) rfl
  | .portTransmit .. => .chainQuiet (fun h => .branch h (.branch h.transmit (.branch h.setPortState h))) rfl
  | .pauseReceive .. => execPauseReceive_frame.quiet rfl
  | .pauseExpire .. => .chainQuiet (fun h => h.setNetPort.setFlag) rfl
  | .lpiEnter .. => .chainQuiet (fun h => .branch h.setPortState.count h) rfl
  | .wakeFrame .. => .chainQuiet (fun h => .branch h.irq.wake.setFld.setPortState h) rfl
  | .rxrTailDoorbell .. => .chainQuiet (fun h => h.writeRxrTail) rfl
  | .rxrCoalesceTimer .. => .chainQuiet (fun h => .branch h (.branch h.setRxr.raiseVector h.setRxr)) rfl
  | .txrTailDoorbell .. => .chainQuiet (fun h => h.writeTxrTail) rfl
  | .txFrameComplete .. => execTxFrameComplete_frame.quiet rfl
  | .portDisable .. => .chainQuiet (fun h => h.writePortCfg) rfl
  | .portDrainDone .. => .chainQuiet (fun h => .branch h.portStop.showNpt h) rfl
  | .portKill .. => .chainQuiet (fun h => h.writePortCfg) rfl
  | .ringDisable .. => .chainQuiet (fun h => .branch h.writeRxrCfg h.writeTxrCfg) rfl
  | .nptDisable .. => .chainQuiet (fun h => h.writeNptCtrl) rfl
  | .hbmPpr .. => execHbmPpr_frame.quiet rfl
  | .unitTest .. => .chainQuiet (fun h => h.writeUnitCtrl) rfl
  | .unitSwap .. => .chainQuiet (fun h => h.writeUnitCtrl) rfl
  | .unitRetest .. => .chainQuiet (fun h => h.writeUnitCtrl) rfl
  | .autoTestTrigger .. => .chainQuiet (fun h => .branch h (.branch (.branch h.set.startTest h.set.awlUnstated) h.set)) rfl
  | .inplaceCheckDone .. => .chainQuiet (fun h => .branch h (.branch h.set.setFlag.setFld.unitStatus.awlState h.startUnitSwap))
      rfl
  | .unitSwapPoint .. => .chainQuiet (fun h => .branch h (.branch (.branch h.steer h) (.branch h h.unitMoved.blockMoved))) rfl
  | .spareCheckFail .. => .chainQuiet (fun h => .branch h h.spareFailed) rfl
  | .offlineTestDone .. => execOfflineTestDone_frame.quiet rfl
  | .avsStep .. => .chainQuiet (fun h => .branch (.branch h.setCore h.setRsl.setFlag.alarm) (.branch h.setRsl.setCore
      h.setRsl.setCore)) rfl
  | .coreAgeingRecord .. => .chainQuiet (fun h => .branch h.setRsl.setFld.setFld.ageWarn h.setRsl.setFld.setFld) rfl
  | .mramScrub .. => execMramScrub_frame.quiet rfl
  | .drainBoundExpire .. => execDrainBoundExpire_frame.quiet rfl
  | .partnerSilenceTimeout => .chainQuiet (fun h => h.losePartner) rfl
  | .partnerFencedNotice => .chainQuiet (fun h => h.losePartner) rfl
  | .partnerProbeTimeout => .chainQuiet (fun h => .branch h.losePartner h) rfl
  | .partnerProbeAnswer => .chainQuiet (fun h => .branch h.setRsl.updTks.count.alarm h) rfl
  | .partnerReturn => .chainQuiet (fun h => .branch h.setFld.setFld.setFlag.setFlag.setRsl.event.changeRole.showQueues h) rfl
  | .spareLossNotice .. => .chainQuiet (fun h => .branch h.setRsl h) rfl
  | .spareClaimDelay => execSpareClaimDelay_frame.quiet rfl
  | .spareClaimReceive .. => execSpareClaimReceive_frame.quiet rfl
  | .spareClaimGrant .. => execSpareClaimGrant_frame.quiet rfl
  | .spareClaimTimeout => .chainQuiet (fun h => .branch h.setFld.setFld h) rfl
  | .spareAssume .. => .chainQuiet (fun h => h.writeSpareCtrl) rfl
  | .spareRelease .. => .chainQuiet (fun h => h.writeSpareCtrl) rfl
  | .fenceCommand .. => .chainQuiet (fun h => h.writeFence) rfl
  | .rejoinCommand .. => .chainQuiet (fun h => h.writeFence) rfl
  | .fenceRepairDone .. => .chainQuiet (fun h => .branch h.setFld h) rfl
  | .counterRecordWrite => .chainQuiet (fun h => h.writeCounters) rfl
  | .snapshotAuto => .chainQuiet (fun h => .branch h (.branch h.snapResult h.startSnap)) rfl
  | .snapshotDemand .. => .chainQuiet (fun h => h.writeSetCtrl) rfl
  | .snapshotVerifyDone .. => execSnapshotVerifyDone_frame.quiet rfl
  | .demandRefill => .chainQuiet (fun h => h.setKeep.setFld) rfl
  | .awlWindowClose => .chainQuiet (fun h => h.setAwl) rfl
  | .awlRecordWrite .. => .chainQuiet (fun h => .branch h h.writeOldest) rfl
  | .awlFreeze .. => .chainQuiet (fun h => h.writeAwlCtrl) rfl
  | .awlUnfreeze .. => .chainQuiet (fun h => h.writeAwlCtrl) rfl
  | .awlFreezeExpire => .chainQuiet (fun h => .branch h.setFrozen.irq.awlPersist h) rfl
  | .awlReadIndex .. => .chainQuiet (fun h => h.writeRdIdx) rfl
  | .awlReadLatchDone .. => execAwlReadLatchDone_frame.quiet rfl
  | .awlClearGo .. => .chainQuiet (fun h => h.writeClrCtrl) rfl
  | .awlClearLockoutExpire => .chainQuiet (fun h => h.setAwl) rfl
  | .awlRetryMram .. => .chainQuiet (fun h => h.writeAwlCtrl) rfl
  | .awlRetryMramDone .. => .chainQuiet (fun h => .branch h (.branch h.setAwl.setAwl.moveAwl h.setAwl)) rfl
  | .powerFailWarning .. => .chainQuiet (fun h => h.powerFail) rfl
  | .updHeader .. => execUpdHeader_frame.quiet rfl
  | .updData .. => execUpdData_frame.quiet rfl
  | .updDataProgrammed => execUpdDataProgrammed_frame.quiet rfl
  | .updEnd .. => execUpdEnd_frame.quiet rfl
  | .updBodyVerified .. => execUpdBodyVerified_frame.quiet rfl
  | .updAbortDatagram .. => .chainQuiet (fun h => .datagram h (fun _ h1 => .owned h1 (fun _ h2 => h2.releaseLock.updAnswer))) rfl
  | .updQuery .. => .chainQuiet (fun h => .datagram h (fun _ h1 => .updAnswer (.branch h1.ownerSpoke h1))) rfl
  | .updLockIdleTimeout => .chainQuiet (fun h => .branch h.releaseLock h) rfl
  | .updActivate .. => .chainQuiet (fun h => h.writeUpdCtrl) rfl
  | .updConfirm .. => .chainQuiet (fun h => h.writeUpdCtrl) rfl
  | .updFallback .. => .chainQuiet (fun h => h.writeUpdCtrl) rfl
  | .updCtrlAbort .. => .chainQuiet (fun h => h.writeUpdCtrl) rfl
  | .updConfirmTimeout => .chainQuiet (fun h => .branch h.fallBack h) rfl
  | .microcodeLoad .. => .chainQuiet (fun h => .branch h.setUpd.setFlag h.setUpd.setFlag.awlUnstated) rfl
  | .microcodeSwap .. => .chainQuiet (fun h => .branch h.setUpd.setFlag h) rfl
  | .porstFall .. => .chainQuiet (fun h => .branch h h.powerFail.coldReset.setFld) rfl
  | .porstRise .. => .chainQuiet (fun h => .branch h (.branch h.setFld.setFld.setFlag h.setFld.setFld.setFlag.coldBoot)) rfl
  | .stbyPgRise => .chainQuiet (fun h => .branch h h.setFld.setFlag.wake) rfl
  | .stbyPgFall .. => execStbyPgFall_frame
  | .warmRstAssert => .chainQuiet (fun h => .branch h h.warmReset.setBoot) rfl
  | .warmBoot .. => execWarmBoot_frame
  | .glbWarmReset .. => .chainQuiet (fun h => h.writeGlbCtrl) rfl
  | .watchdogKick .. => .chainQuiet (fun h => h.writeKick) rfl
  | .watchdogTimeout => .chainQuiet (fun h => .branch h.warmReset.awlUnstated h) rfl
  | .pcieHotReset => .chainQuiet (fun h => .branch h h.pcieReset) rfl
  | .pciePerst => .chainQuiet (fun h => .branch h h.pcieReset) rfl
  | .bootRomDone .. => execBootRomDone_frame
  | .imageVerifyDone .. => .chainQuiet (fun h => .branch h (.branch h.badSlot
      h.stageEnds.setFld.lockDown.startAwl.stageEnds.setFld)) rfl
  | .hbmTrainDone .. => execHbmTrainDone_frame
  | .hbmTrainFail .. => .chainQuiet (fun h => .branch h h.setFld.setFld.setFld.alert.awlUnstated) rfl
  | .stateRestoreDone .. => .chainQuiet (fun h => .branch h h.restoreImage.stageEnds.setFld) rfl
  | .lanesReady => .chainQuiet (fun h => .branch h (.setFld (.stageEnds (.fold h fun _ _ h1 => h1.startIdent)))) rfl
  | .replayPathTimeout => .chainQuiet (fun h => .branch h h.losePartner.journalReplay) rfl
  | .spareExit .. => execSpareExit_frame
  | .glbRoleWrite .. => .chainQuiet (fun h => h.writeRole) rfl
  | .clockDomainRequest .. => .chainQuiet (fun h => h.requestClk) rfl
  | .pllLock .. => .chainQuiet (fun h => .branch h.setClk.setFlag.serveClks h) rfl
  | .pllLockTimeout .. => execPllLockTimeout_frame
  | .clockHoldExpire .. => .chainQuiet (fun h => .branch (.branch h.setFlag h.setFlag.setClk) h) rfl
  | .clockStopDone .. => execClockStopDone_frame
  | .thermalAlarm .. => .chainQuiet (fun h => .branch h.showTemp.setBoot.alarm h.showTemp.setBoot) rfl
  | .thermalTrip .. => .chainQuiet (fun h => .branch h h.powerFail.coldReset.setFld.setBoot) rfl
  | .thermalRecover .. => .chainQuiet (fun h => .branch h h.setBoot.coldBoot) rfl
  | .xtalFail => .chainQuiet (fun h => h.setFlag.event) rfl
  | .pmbusPoll .. => execPmbusPoll_frame
  | .portFault .. => .chainQuiet (fun h => .branch h.setFlag.setFlag.portFall h.setFlag.setFlag) rfl
  | .oscHoldReturn .. => .chainQuiet (fun h => h.setFlag.laneQual) rfl
  | .refclkReturn .. => .chainQuiet (fun h => h.setLst.refclkSettle) rfl
  | .xtalReturn => .chainQuiet (fun h => h.setFlag) rfl
  | .partnerCompleteReport .. => .chainQuiet (fun h => h.setEntry) rfl
  | .partnerProbeReceive => .chainQuiet (fun h => .branch h.emit h) rfl
  | .msixVectorUnmask .. => .chainQuiet (fun h => h.setMask) rfl

end Sys2Proof.Machine

end

section
open Sys2Proof Sys2Proof.Machine

/-- Settles O3, by the frame of each command: its footprint holds everything but the queue and the count of periods. -/
theorem everyCommandCompletesAndKeepsTheQueue : Obligations.EveryCommandCompletesAndKeepsTheQueue := by
  intro c s
  obtain ⟨t, he, hf⟩ := exec_frame (s := s) c
  exact ⟨t, he, hf.parts .pending (by decide)⟩

end

section
/-! SUPPORT of O2: what one Insole period does to the time bases, the count of periods and the queue. -/

namespace Sys2Proof.Machine

variable (s : State)

/-! ### The four time bases over an Insole period (R442, R443) -/

/-- What a time base shows: its time, whether it runs, and its rate. -/
def State.tbCell (k : Nat) : FineTime × Bool × Int := (s.tbNow k, s.tbRunning k, s.rk k)

/-- A time base one period later. -/
def tbAdvanced (x : FineTime × Bool × Int) : FineTime × Bool × Int :=
  (if x.2.1 then ((x.1 : Int) + 2000000000 + 2 * x.2.2).toNat else x.1, x.2)

theorem State.advanceTb_tbNow (j k : Nat) :
    (s.advanceTb j).tbNow k = if k = j then (tbAdvanced (s.tbCell k)).1 else s.tbNow k := by
  unfold State.advanceTb tbAdvanced State.tbCell
  split
  next hr =>
    split
    next h => subst h; exact (Tbl.get_set_same _ _ _ _).trans (if_pos hr).symm
    next h => exact Tbl.get_set_other _ _ _ _ _ h
  next hr =>
    split
    next h => subst h; exact (if_neg hr).symm
    next h => rfl

/-- An advance changes no register, so none of the time bases' states and rates. -/
theorem State.advanceTb_regs (j : Nat) : (s.advanceTb j).regs = s.regs := by
  unfold State.advanceTb
  split <;> rfl

theorem State.advanceTb_tbCell (j k : Nat) :
    (s.advanceTb j).tbCell k = if k = j then tbAdvanced (s.tbCell k) else s.tbCell k := by
  have h2 : ((s.advanceTb j).tbRunning k, (s.advanceTb j).rk k) = (s.tbRunning k, s.rk k) := by
    simp only [State.tbRunning, State.rk, State.flag, State.signedFld, State.fld, State.reg, s.advanceTb_regs j]
  have h1 := s.advanceTb_tbNow j k
  split at h1
  next h => exact (if_pos h).symm ▸ Prod.ext h1 h2
  next h => exact (if_neg h).symm ▸ Prod.ext h1 h2

theorem State.foldl_advanceTb_tbNow {k : Nat} (hk : k < 4) :
    ([0, 1, 2, 3].foldl State.advanceTb s).tbNow k =
      if s.tbRunning k then ((s.tbNow k : Int) + 2000000000 + 2 * s.rk k).toNat else s.tbNow k :=
  congrArg Prod.fst (foldl_cell_at (key := id) (F := fun _ => tbAdvanced) (fun z => z.advanceTb_tbCell)
    (l := [0, 1, 2, 3]) (by decide) (i := k) (by simp only [List.mem_cons, List.not_mem_nil, or_false]; omega) s)

/-! ### The rest of a period -/

/-- What a period changes beside the count and the time bases. -/
def periodFoot : Foot :=
  ⟨[.nim, .lst, .ntm], [.NIM_PAIR_STAT, .LST_FREQ, .LST_TB_STAT, .INS_OPSEC, .LST_REF_STAT, .RSL_PAIR_STAT, .UPD_LOCK,
    .UPD_CONFIRM_LEFT, .LST_HOLD_STAT]⟩

theorem State.periodRest_frame :
    Frame periodFoot s
      (let u := [0, 1, 2, 3].foldl State.rampTick s.advanceClock.agePartner.steerTick
       if u.tick % 32768 = 0 then u.secondTick else u) := by
  have h1 : Frame periodFoot s s.advanceClock.agePartner.steerTick :=
    State.steerTick_frame (State.agePartner_frame (State.advanceClock_frame (.refl _ s) (by decide)) (by decide))
      (by decide) (by decide)
  have h2 : Frame periodFoot s ([0, 1, 2, 3].foldl State.rampTick s.advanceClock.agePartner.steerTick) :=
    .le (by decide) (.fold h1 fun _ _ h => .branch h (.branch h.setServo (.branch h.setServo h.setServo.setRk)))
  exact .same (State.secondTick_frame h2 (by decide)) h2

/-- The state after the count, the time bases, the clocks and the waits of a period in a part that runs. -/
def State.periodEnd : State :=
  let u := [0, 1, 2, 3].foldl State.rampTick
    ([0, 1, 2, 3].foldl State.advanceTb { s with tick := s.tick + 1 }).advanceClock.agePartner.steerTick
  if u.tick % 32768 = 0 then u.secondTick else u

theorem State.idleTick_eq : s.idleTick =
    if s.power = 0 then s
    else if s.host.inReset then { s with tick := s.tick + 1 }
    else if s.periodEnd.boot.later.isEmpty then s.periodEnd else s.periodEnd.runLater := rfl

/-- A period counts itself, and moves the time bases. -/
theorem State.periodEnd_shows : s.periodEnd.tick = s.tick + 1 ∧ s.periodEnd.pending = s.pending ∧
    s.periodEnd.boot.later = s.boot.later ∧ ∀ k : Nat, k < 4 → s.periodEnd.tbNow k =
      if s.tbRunning k then ((s.tbNow k : Int) + 2000000000 + 2 * s.rk k).toNat else s.tbNow k := by
  let u := { s with tick := s.tick + 1 }
  have ht : Frame ⟨[.tb], []⟩ u ([0, 1, 2, 3].foldl State.advanceTb u) :=
    .le (by decide) (.fold (.refl .none u) fun _ _ h => h.plus (State.advanceTb_frame (.refl ⟨[.tb], []⟩ _) (by decide)))
  have hr := ([0, 1, 2, 3].foldl State.advanceTb u).periodRest_frame
  refine ⟨(hr.parts .tick (by decide)).trans (ht.parts .tick (by decide)),
    (hr.parts .pending (by decide)).trans (ht.parts .pending (by decide)),
    congrArg Boot.later ((hr.parts .boot (by decide)).trans (ht.parts .boot (by decide))), fun k hk => ?_⟩
  exact (congrArg (Tbl.get (fun _ => 0) · k) (hr.parts .tb (by decide))).trans (u.foldl_advanceTb_tbNow hk)

/-- Work put off until later keeps the queue and the count of periods. -/
theorem State.runLater_keeps : s.runLater.pending = s.pending ∧ s.runLater.tick = s.tick := by
  have h : Frame queueFoot s s.runLater := (Frame.refl .none s).runLater.quiet rfl
  exact ⟨h.parts .pending (by decide), h.parts .tick (by decide)⟩

/-- An Insole period counts itself, where there is standby power, and keeps the queue. -/
theorem State.idleTick_counts : s.idleTick.pending = s.pending ∧ (s.power ≠ 0 → s.idleTick.tick = s.tick + 1) := by
  obtain ⟨htick, hpend, -⟩ := s.periodEnd_shows
  obtain ⟨hp, ht⟩ := s.periodEnd.runLater_keeps
  rw [State.idleTick_eq]
  split
  next h => exact ⟨rfl, fun hn => absurd h hn⟩
  next =>
    split
    next => exact ⟨rfl, fun _ => rfl⟩
    next =>
      split
      next => exact ⟨hpend, fun _ => htick⟩
      next => exact ⟨hp.trans hpend, fun _ => ht.trans htick⟩

theorem State.idleTick_of_inReset (hp : s.power ≠ 0) (hr : s.host.inReset = true) : s.idleTick = { s with tick := s.tick + 1 } := by
  rw [State.idleTick_eq, if_neg hp, if_pos hr]

theorem State.idleTick_of_none_later (hp : s.power ≠ 0) (hr : s.host.inReset = false) (hl : s.boot.later = []) :
    s.idleTick = s.periodEnd := by
  obtain ⟨-, -, hlater, -⟩ := s.periodEnd_shows
  have he : s.periodEnd.boot.later.isEmpty = true := by rw [hlater, hl]; rfl
  rw [State.idleTick_eq, if_neg hp, if_neg (by simp [hr]), if_pos he]

end Sys2Proof.Machine

end

section
open Sys2Proof Sys2Proof.Machine

/-- Settles O2: a period is the count, the advance of the four time bases, and operations that keep both; a fold over the four
advances each of them once. -/
theorem stepIdlesOneInsolePeriod : Obligations.StepIdlesOneInsolePeriod := by
  intro s he
  have hs : step s = .next s.idleTick := by unfold step; rw [he]
  obtain ⟨hpend, htick⟩ := s.idleTick_counts
  obtain ⟨-, -, -, htb⟩ := s.periodEnd_shows
  exact ⟨s.idleTick, hs, hpend.trans he, fun h0 => if_pos h0, htick, s.idleTick_of_inReset,
    fun hp hr hl k hk => s.idleTick_of_none_later hp hr hl ▸ htb k hk⟩

end

section
/-! SUPPORT of O6: the registers at reset. -/

namespace Sys2Proof.Machine

/-- At reset no element of a register is listed. -/
theorem State.reset_reg (r : Reg) (i : Nat) : State.reset.reg r i = r.reset i := rfl

end Sys2Proof.Machine

end

section
open Sys2Proof Sys2Proof.Machine

/-- Settles O6: at reset no element of a register is listed, so each one reads its reset value. -/
theorem resetValuesOfTheRegisterTables : Obligations.ResetValuesOfTheRegisterTables := by
  refine ⟨rfl, fun d => ?_, rfl, rfl, rfl, rfl, rfl, rfl, rfl, rfl, rfl, fun q => ?_, ?_, rfl, rfl, rfl, rfl, fun k => ?_, rfl, rfl,
    fun p => ?_, fun p => ?_, fun r => ?_, rfl, rfl, rfl, rfl, rfl⟩
  case refine_3 => decide
  all_goals exact State.reset_reg _ _

end

section
/-! SUPPORT of the refutation of O46: a port that sends a frame of a ring whose vector is unmasked. -/

namespace Sys2Proof.Machine

/-! ### A frame of a host ring whose vector is unmasked leaves its port (R532, R622) -/

/-- The frame of descriptor 0 of ring 0, without a time stamp. -/
def ringFrame : CtrlFrame := ⟨.ring 0 0 false, 60⟩

/-- Port 0 sends a frame of ring 0, whose vector 0 the host has unmasked. -/
def openVectorPort : State :=
  (State.reset.setMask 0 false).setNetPort 0 { (default : NetPort) with leaving := some ringFrame }

theorem openVectorPort_leaving : (openVectorPort.netPort 0).leaving = some ringFrame := rfl

/-- A frame of a ring that has left is taken off its port and its descriptor is written back. -/
theorem exec_txFrameComplete_ring {s : State} {p : Fin 32} {time r idx len : Nat} {ts : Bool}
    (h : (s.netPort p).leaving = some ⟨.ring r idx ts, len⟩) : exec (.txFrameComplete p time) s =
      .next ((s.setNetPort p { s.netPort p with leaving := none }).writeBack r idx (if ts then time else 0) .OK) := by
  have hexec : exec (.txFrameComplete p time) s = execTxFrameComplete p time s := rfl
  rw [hexec, execTxFrameComplete]
  simp only [h]

/-- After the descriptor the message of vector 0 leaves the part. -/
theorem openVectorPort_sends_vector :
    ((openVectorPort.setNetPort 0 { openVectorPort.netPort 0 with leaving := none }).writeBack 0 0 0 .OK).sent =
      [.msix 0, .txDesc 0 0 0 .OK false] := by decide

end Sys2Proof.Machine

end

section
open Sys2Proof Sys2Proof.Machine

/-- Refutes O46 in its clause on a ring's frame that has left: writing the descriptor back raises the ring's vector (R532), whose
MSI-X message (R622) leaves the part after the descriptor, where the statement lets only the descriptor leave. -/
theorem not_portsGroupsPausesAndRings : ¬ Obligations.PortsGroupsPausesAndRings := by
  unfold Obligations.PortsGroupsPausesAndRings
  rintro ⟨-, -, -, -, -, -, -, -, -, -, -, -, -, -, -, -, -, -, -, -, -, -, -, hcomplete, -⟩
  obtain ⟨t, hrun, -, hsent⟩ := hcomplete 0 0 0 0 60 false openVectorPort openVectorPort_leaving
  rw [exec_txFrameComplete_ring openVectorPort_leaving] at hrun
  obtain rfl := Host.Outcome.next.inj hrun
  exact absurd (openVectorPort_sends_vector.symm.trans hsent) (by decide)

end

section
/-! SUPPORT of the statements on what the commands of each block do (O41 to O51, O9, O10): fields that share no bit, and what a field
reads after a write. -/

namespace Sys2Proof.Machine

/-! ### Fields that share no bit -/

/-- Two fields that share no bit: they lie in different registers, or apart in one. -/
def Fld.apart (f g : Fld) : Bool :=
  g.reg != f.reg || (decide (g.lo + g.len ≤ f.lo ∨ f.lo + f.len ≤ g.lo) && decide (g.lo + g.len ≤ g.reg.width))

variable (s : State) {f g : Fld}

theorem State.fld_setFld_apart (h : f.apart g = true) (i j v : Nat) : (s.setFld f i v).fld g j = s.fld g j := by
  by_cases hr : g.reg = f.reg ∧ j = i
  · obtain ⟨hr, rfl⟩ := hr
    simp only [Fld.apart, hr, bne_self_eq_false, Bool.false_or, Bool.and_eq_true, decide_eq_true_eq] at h
    exact State.fld_setFld_disjoint s j v hr h.1 (hr ▸ h.2)
  · exact State.fld_setFld_other s v (by tauto)

theorem State.flag_setFld_apart (h : f.apart g = true) (i j v : Nat) : (s.setFld f i v).flag g j = s.flag g j := by
  rw [State.flag, State.flag, State.fld_setFld_apart s h]

theorem State.fld_setFlag_apart (h : f.apart g = true) (i j : Nat) (b : Bool) : (s.setFlag f i b).fld g j = s.fld g j :=
  State.fld_setFld_apart s h i j _

theorem State.flag_setFlag_apart (h : f.apart g = true) (i j : Nat) (b : Bool) : (s.setFlag f i b).flag g j = s.flag g j :=
  State.flag_setFld_apart s h i j _

/-- A bit of another register, wherever it lies, leaves a field alone. -/
theorem State.fld_setFld_mk_ne {q : Reg} (h : g.reg ≠ q) (lo len i j v : Nat) : (s.setFld ⟨q, lo, len⟩ i v).fld g j = s.fld g j :=
  s.fld_setFld_ne h i j v

theorem State.flag_setFld_mk_ne {q : Reg} (h : g.reg ≠ q) (lo len i j v : Nat) :
    (s.setFld ⟨q, lo, len⟩ i v).flag g j = s.flag g j :=
  s.flag_setFld_ne h i j v

theorem State.reg_setFld_mk_ne {r q : Reg} (h : r ≠ q) (lo len i j v : Nat) : (s.setFld ⟨q, lo, len⟩ i v).reg r j = s.reg r j :=
  s.reg_setFld_ne h i j v

/-! ### What a field reads -/

/-- A number that fits its field reads back as it was written. -/
theorem State.fld_setFld_fits {v : Nat} (hw : f.lo + f.len ≤ f.reg.width) (hv : v < 2 ^ f.len) (i : Nat) :
    (s.setFld f i v).fld f i = v :=
  (State.fld_setFld_same s f i v hw).trans (Nat.mod_eq_of_lt hv)

theorem State.fld_lt (f : Fld) (i : Nat) : s.fld f i < 2 ^ f.len := bits_lt _ _ _

/-- A field copied into a field of its width reads the same. -/
theorem State.fld_setFld_fld (hw : f.lo + f.len ≤ f.reg.width) (t : State) (hl : g.len = f.len) (i j : Nat) :
    (s.setFld f i (t.fld g j)).fld f i = t.fld g j :=
  s.fld_setFld_fits hw (hl ▸ t.fld_lt g j) i

/-- A flag set as a number reads the same. -/
theorem State.flag_setFld_one (hw : f.lo + f.len ≤ f.reg.width) (hl : f.len = 1) (i : Nat) : (s.setFld f i 1).flag f i = true :=
  s.flag_setFlag_same f i true hw hl

/-- A number that a 32-bit register holds reads back as it was written. -/
theorem State.toNat_reg_setReg {r : Reg} (hr : r.info.wide = false) {n : Nat} (hn : n < 2 ^ 32) (i : Nat) :
    ((s.setReg r i (BitVec.ofNat 64 n)).reg r i).toNat = n := by
  rw [State.reg_setReg_same, Reg.fit_toNat hr, BitVec.toNat_ofNat]
  omega

/-! ### Reading through a choice -/

theorem State.fld_ite {c : Prop} [Decidable c] (a b : State) (g : Fld) (i : Nat) :
    (if c then a else b).fld g i = if c then a.fld g i else b.fld g i := apply_ite (State.fld · g i) c a b

theorem State.flag_ite {c : Prop} [Decidable c] (a b : State) (g : Fld) (i : Nat) :
    (if c then a else b).flag g i = if c then a.flag g i else b.flag g i := apply_ite (State.flag · g i) c a b

theorem State.reg_ite {c : Prop} [Decidable c] (a b : State) (r : Reg) (i : Nat) :
    (if c then a else b).reg r i = if c then a.reg r i else b.reg r i := apply_ite (State.reg · r i) c a b

/-! ### Numbers in two's complement -/

theorem unsignedOf_lt (n : Nat) (v : Int) : unsignedOf n v < 2 ^ n := by
  have h0 : (0 : Int) < ((2 ^ n : Nat) : Int) := by positivity
  have := Int.emod_lt_of_pos v h0
  have := Int.emod_nonneg v h0.ne'
  unfold unsignedOf
  omega

/-- A number that fits n bits of two's complement reads back. -/
theorem signedOf_unsignedOf_fits {n : Nat} {v : Int} (hlo : -(2 ^ n : Nat) ≤ v) (hhi : v < (2 ^ n : Nat)) :
    signedOf (n + 1) (unsignedOf (n + 1) v) = v := by
  have hp : 2 ^ (n + 1) = 2 * 2 ^ n := by ring
  have hpos := Nat.two_pow_pos n
  unfold signedOf unsignedOf
  rw [hp, Nat.add_sub_cancel]
  generalize 2 ^ n = m at *
  by_cases hv : 0 ≤ v
  · rw [Int.emod_eq_of_lt hv (by push_cast; omega), Nat.mod_eq_of_lt (by omega), if_pos (by omega)]
    omega
  · have he : v % ((2 * m : Nat) : Int) = v + (2 * m : Nat) := by
      rw [← Int.add_emod_right, Int.emod_eq_of_lt (by push_cast; omega) (by push_cast; omega)]
    rw [he, Nat.mod_eq_of_lt (by omega), if_neg (by omega)]
    omega

/-- A number of 32 bits in two's complement reads back. -/
theorem signedOf_unsignedOf {v : Int} (hlo : -2 ^ 31 ≤ v) (hhi : v < 2 ^ 31) : signedOf 32 (unsignedOf 32 v) = v :=
  signedOf_unsignedOf_fits (n := 31) (by norm_num; omega) (by norm_num; omega)

theorem clampSigned_fits {n : Nat} {v : Int} (hlo : -(2 ^ n : Nat) ≤ v) (hhi : v < (2 ^ n : Nat)) : clampSigned (n + 1) v = v := by
  rw [clampSigned, Nat.add_sub_cancel, if_neg (by omega), if_neg (by omega)]

/-- A signed field reads back a number that fits it. -/
theorem State.signedFld_setSigned {n : Nat} (hl : f.len = n + 1) (hw : f.lo + f.len ≤ f.reg.width) {v : Int} (hlo : -(2 ^ n : Nat) ≤ v)
    (hhi : v < (2 ^ n : Nat)) (i : Nat) : (s.setSigned f i v).signedFld f i = v := by
  rw [State.signedFld, State.setSigned, hl, clampSigned_fits hlo hhi, State.fld_setFld_fits s hw (hl ▸ unsignedOf_lt _ _),
    signedOf_unsignedOf_fits hlo hhi]

end Sys2Proof.Machine

end

section
/-! SUPPORT of O41: what Last's operations show, and its commands in the cases of the statement. -/

namespace Sys2Proof.Machine

variable (s : State)

@[simp] theorem State.setLst_lst (x : Lst) : (s.setLst x).lst = x := rfl

/-! ### Last's state and its selection, shown (R416, Table 11.8) -/

/-- What a change of Last's state changes beside the state itself. -/
def enterLstFoot : Foot := ⟨[.host, .sent, .awl, .lst], [.LST_TAG, .GLB_INT_SUM, .LST_INT_STAT] ++ awlRegs⟩

theorem State.enterLst_changed {st : Nat} (h : s.lstState ≠ st) :
    Frame enterLstFoot (s.setFld F.LST_STATUS_STATE 0 st) (s.enterLst st) := by
  have h0 := Frame.refl .none (s.setFld F.LST_STATUS_STATE 0 st)
  unfold State.enterLst
  rw [if_neg h]
  exact .le (by decide) (.showTag (.branch (.setLst (.branch h0.irq.awlState.irq h0.irq.awlState))
    (.branch h0.irq.awlState.irq h0.irq.awlState)))

theorem State.enterLst_same {st : Nat} (h : s.lstState = st) : Frame enterLstFoot s (s.enterLst st) := by
  rw [State.enterLst, if_pos h]
  exact .le (by decide) (Frame.refl .none s).showTag

theorem State.enterLst_state {st : Nat} (h : st < 8) : (s.enterLst st).lstState = st := by
  by_cases he : s.lstState = st
  · exact ((s.enterLst_same he).fld (by decide) 0).trans he
  · exact ((s.enterLst_changed he).fld (by decide) 0).trans (s.fld_setFld_fits (by decide) h 0)

theorem State.enterLst_fld {g : Fld} (ha : F.LST_STATUS_STATE.apart g = true) (hr : g.reg ∉ enterLstFoot.regs) (st i : Nat) :
    (s.enterLst st).fld g i = s.fld g i := by
  by_cases he : s.lstState = st
  · exact (s.enterLst_same he).fld hr i
  · exact ((s.enterLst_changed he).fld hr i).trans (s.fld_setFld_apart ha 0 i st)

/-- A change to HOLDOVER, FREERUN or OPEN starts the history anew; nothing else of Last's record changes. -/
theorem State.enterLst_lst (st : Nat) : (s.enterLst st).lst =
    if s.lstState ≠ st ∧ (st = lstHoldover ∨ st = lstFreerun ∨ st = lstOpen) then { s.lst with histFrom := 0 } else s.lst := by
  by_cases he : s.lstState = st
  · rw [State.enterLst, if_pos he, if_neg fun h => h.1 he]
    exact (Frame.refl .none s).showTag.parts .lst (by decide)
  · rw [State.enterLst, if_neg he]
    extract_lets u1 u2 _ u3
    have h1 : Frame ⟨[.host, .sent, .awl], F.LST_STATUS_STATE.reg :: Irq.LST_STATE_CHG.blk.irqRegs ++ awlRegs⟩ s u1 :=
      .le (by decide) (Frame.refl .none s).setFld.irq.awlState
    have h2 : u2.lst = s.lst := (Frame.branch h1.irq h1).parts .lst (by decide)
    refine ((Frame.refl .none u3).showTag.parts .lst (by decide)).trans ?_
    by_cases h : st = lstHoldover ∨ st = lstFreerun ∨ st = lstOpen
    · rw [if_pos ⟨he, h⟩]
      exact (congrArg State.lst (if_pos h)).trans (congrArg (fun l : Lst => { l with histFrom := 0 }) h2)
    · rw [if_neg fun e => h e.2]
      exact (congrArg State.lst (if_neg h)).trans h2

/-- A changed selection is shown, and counted. -/
theorem State.showSel_eq {r : Nat} (h : s.lstSel ≠ r) : ∃ u, Frame ⟨[], [.LST_REF_STAT, .NTM_SRV_STAT]⟩ s u ∧
    s.showSel r = ((u.setFld F.LST_STATUS_SELECTED 0 r).count .LST_SWITCHES 0 1).irq Irq.LST_SWITCH := by
  have h0 := Frame.refl .none s
  unfold State.showSel
  rw [if_neg h]
  extract_lets u1 u2 u3 u
  have h1 : Frame ⟨[], [.LST_REF_STAT, .NTM_SRV_STAT]⟩ s u1 := .le (by decide) (.branch h0.setFlag h0)
  have h2 : Frame ⟨[], [.LST_REF_STAT, .NTM_SRV_STAT]⟩ s u2 := .le (by decide) (.branch h1.setFlag h1)
  have h3 : Frame ⟨[], [.LST_REF_STAT, .NTM_SRV_STAT]⟩ s u3 := .le (by decide) (.branch h2.setFlag h2)
  exact ⟨u, .le (by decide) (.branch h3.setFlag h3), rfl⟩

theorem State.showSel_sel {r : Nat} (h : r < 16) : (s.showSel r).lstSel = r := by
  by_cases he : s.lstSel = r
  · rw [State.showSel, if_pos he]
    exact he
  · obtain ⟨u, -, e⟩ := s.showSel_eq he
    rw [e]
    exact ((Frame.refl .none _).count.irq.fld (by decide) 0).trans (u.fld_setFld_fits (by decide) h 0)

theorem State.showSel_fld {g : Fld} (ha : F.LST_STATUS_SELECTED.apart g = true)
    (hr : g.reg ∉ ([.LST_REF_STAT, .NTM_SRV_STAT, .LST_SWITCHES, .GLB_INT_SUM, .LST_INT_STAT] : List Reg)) (r i : Nat) :
    (s.showSel r).fld g i = s.fld g i := by
  by_cases he : s.lstSel = r
  · rw [State.showSel, if_pos he]
  · obtain ⟨u, hu, e⟩ := s.showSel_eq he
    have h2 : Frame ⟨[.host, .sent], [.LST_SWITCHES, .GLB_INT_SUM, .LST_INT_STAT]⟩ (u.setFld F.LST_STATUS_SELECTED 0 r) (s.showSel r) :=
      e ▸ .le (by decide) (Frame.refl .none _).count.irq
    simp only [List.mem_cons, List.not_mem_nil, or_false, not_or] at hr
    obtain ⟨h1, h2', h3, h4, h5⟩ := hr
    exact (h2.fld (by simp [h3, h4, h5]) i).trans ((u.fld_setFld_apart ha 0 i r).trans (hu.fld (by simp [h1, h2']) i))

theorem State.showSel_switches {r : Nat} (h : s.lstSel ≠ r) : (s.showSel r).reg .LST_SWITCHES 0 = s.counted .LST_SWITCHES 0 1 := by
  obtain ⟨u, hu, e⟩ := s.showSel_eq h
  rw [e, State.irq_reg _ _ (by decide), State.reg_count_counted]
  exact State.counted_congr ((State.reg_setFld_ne _ (by decide) _ _ _).trans (hu.regs _ _ (by decide))) 1

/-! ### Lane clocks (R431) -/

/-- What the lane clocks' qualification changes before it is shown, and after. -/
def laneFaultFoot : Foot :=
  ⟨[.sent, .host, .awl, .asp], .GLB_INT_SUM :: .ASP_INT_STAT :: .ASP_INT_SRC :: .ASP_TX_STAT :: .ASP_TX_FAULTS :: .ASP_RX_STAT ::
    .ASP_RX_FAULTS :: .LST_TB_STAT :: awlFoot⟩
def laneTellFoot : Foot := ⟨[.sent, .host, .egr], [.GLB_INT_SUM, .EGR_INT_STAT, .EGR_HEALTH_STAT, .LST_INT_STAT]⟩

/-- Whether the lane clocks are qualified. -/
def State.laneOk (s : State) (synths : BitVec 5) : Bool :=
  synths.getLsbD 4 && [0, 1, 2, 3].all (fun k => !s.tbFeeds k || synths.getLsbD k) &&
    (s.lstSel != 15 || s.flag F.LST_STATUS_OSC_OK 0)

/-- A synthesiser's lock, shown with its audio clock; an unqualified one faults the sections that it feeds. -/
def State.showSynth (synths : BitVec 5) (s : State) (k : Nat) : State :=
  let up := synths.getLsbD k
  let s := (s.setFlag F.LST_TB_STAT_SYNTH k up).setFlag F.LST_TB_STAT_AUDIO k up
  if up then s
  else s.eachSect fun s tx n =>
    if s.aspMaster tx n && s.fld ⟨aspCfg tx, 24, 2⟩ n == k && s.aspState tx n != aspMuted then s.aspFault tx n 5 else s

theorem State.showSynth_frame (synths : BitVec 5) (k : Nat) : Frame laneFaultFoot s (s.showSynth synths k) := by
  have h := Frame.refl .none s
  exact .le (by decide) (.branch h.setFlag.setFlag (.eachSect h.setFlag.setFlag fun _ _ _ h2 => .branch h2.aspFault h2))

theorem State.showSynths_frame (synths : BitVec 5) : Frame laneFaultFoot s ([0, 1, 2, 3].foldl (State.showSynth synths) s) :=
  .le (by decide) (.fold (.refl .none s) fun u k h => h.plus (u.showSynth_frame synths k))

theorem State.laneOk_congr {s t : State} (hc : ∀ d, t.reg .EGR_OTD_CFG d = s.reg .EGR_OTD_CFG d)
    (hl : t.reg .LST_STATUS 0 = s.reg .LST_STATUS 0) (synths : BitVec 5) : t.laneOk synths = s.laneOk synths := by
  simp only [State.laneOk, State.tbFeeds, State.otdEnabled, State.otdTb, State.lstSel, State.flag, State.fld, hc, hl]

/-- The locks are shown, then LANE_QUAL, then what hangs on it. -/
theorem State.laneQual_shows (synths : BitVec 5) :
    Frame laneTellFoot (([0, 1, 2, 3].foldl (State.showSynth synths) s).setFlag F.LST_STATUS_LANE_QUAL 0 (s.laneOk synths))
      (s.laneQual synths) := by
  have hu := s.showSynths_frame synths
  have ho := State.laneOk_congr (hu.regs _ · (by decide)) (hu.regs _ _ (by decide)) synths
  rw [← ho]
  have h := Frame.refl .none (([0, 1, 2, 3].foldl (State.showSynth synths) s).setFlag F.LST_STATUS_LANE_QUAL 0
    (([0, 1, 2, 3].foldl (State.showSynth synths) s).laneOk synths))
  exact .le (by decide) (.branch h (.branch h.health h.irq.health))

theorem State.laneQual_flag (synths : BitVec 5) : (s.laneQual synths).flag F.LST_STATUS_LANE_QUAL 0 = s.laneOk synths :=
  ((s.laneQual_shows synths).flag (by decide) 0).trans (State.flag_setFlag_same _ _ _ _ (by decide) rfl)

theorem State.laneQual_fld {g : Fld} (ha : F.LST_STATUS_LANE_QUAL.apart g = true) (hr : g.reg ∉ laneFaultFoot.regs)
    (ht : g.reg ∉ laneTellFoot.regs) (synths : BitVec 5) (i : Nat) : (s.laneQual synths).fld g i = s.fld g i :=
  ((s.laneQual_shows synths).fld ht i).trans ((State.fld_setFlag_apart _ ha 0 i _).trans ((s.showSynths_frame synths).fld hr i))

theorem State.laneQual_reg {r : Reg} (ha : r ≠ .LST_STATUS) (hr : r ∉ laneFaultFoot.regs) (ht : r ∉ laneTellFoot.regs)
    (synths : BitVec 5) (i : Nat) : (s.laneQual synths).reg r i = s.reg r i :=
  ((s.laneQual_shows synths).regs r i ht).trans ((State.reg_setFlag_ne _ ha 0 i _).trans ((s.showSynths_frame synths).regs r i hr))

/-- Each time base shows the lock of its synthesiser. -/
theorem State.showSynths_flag {g : Fld} (hg : g = F.LST_TB_STAT_SYNTH ∨ g = F.LST_TB_STAT_AUDIO) (synths : BitVec 5) (k : Fin 4) :
    ([0, 1, 2, 3].foldl (State.showSynth synths) s).flag g k = synths.getLsbD k := by
  refine foldl_cell_at (cell := fun (s : State) k => s.flag g k) (key := id) (F := fun k _ => synths.getLsbD k) (fun z i j => ?_)
    (by decide) (i := k.val) (by fin_cases k <;> decide) s
  have hset : ((z.setFlag F.LST_TB_STAT_SYNTH i (synths.getLsbD i)).setFlag F.LST_TB_STAT_AUDIO i (synths.getLsbD i)).flag g j =
      if j = i then synths.getLsbD i else z.flag g j := by
    split
    next h =>
      subst h
      rcases hg with rfl | rfl
      · rw [State.flag_setFlag_apart _ (by decide), State.flag_setFlag_same _ _ _ _ (by decide) rfl]
      · rw [State.flag_setFlag_same _ _ _ _ (by decide) rfl]
    next h =>
      unfold State.flag State.setFlag
      rw [State.fld_setFld_other _ _ (.inr h), State.fld_setFld_other _ _ (.inr h)]
  refine .trans ?_ hset
  unfold State.showSynth
  dsimp only
  split
  · rfl
  · refine (Frame.eachSect (Frame.refl .none _) fun _ _ _ h2 => .branch h2.aspFault h2).flag ?_ j
    rcases hg with rfl | rfl <;> decide

/-! ### Losing a reference (R411, R414) -/

/-- What LST_REF_STAT shows of a lost reference. -/
def State.lostStat (s : State) (r fault : Nat) : State :=
  (((s.setFlag F.LST_REF_STAT_VALID r false).setFlag F.LST_REF_STAT_QUALIFIED r false).setFld F.LST_REF_STAT_WTR_LEFT r 0).setFld
    F.LST_REF_STAT_FAULT r fault

theorem State.refLost_lost {r : Nat} (fault : Nat) (h : s.refValid r = true) :
    Frame ⟨[.host, .sent, .lst], [.LST_VALID, .LST_QUAL, .LST_REF_LOSS, .GLB_INT_SUM, .LST_INT_STAT]⟩ (s.lostStat r fault)
      (s.refLost r fault) := by
  have h0 := Frame.refl .none (s.lostStat r fault)
  unfold State.refLost
  rw [if_neg (by simp [h])]
  exact .le (by decide) (.branch h0.setFld.setFld.count.irq.setLst h0.setFld.setFld.count.irq)

theorem State.refLost_loss {r : Nat} (fault : Nat) (h : s.refValid r = true) :
    (s.refLost r fault).reg .LST_REF_LOSS r = s.counted .LST_REF_LOSS r 1 := by
  have hcount : ∀ t : State, t.reg .LST_REF_LOSS r = s.reg .LST_REF_LOSS r →
      ((t.count .LST_REF_LOSS r 1).irq Irq.LST_REF_LOSS).reg .LST_REF_LOSS r = s.counted .LST_REF_LOSS r 1 := fun t e => by
    rw [State.irq_reg _ _ (by decide), State.reg_count_counted, State.counted_congr e]
  have hstat : Frame ⟨[], [.LST_REF_STAT, .LST_VALID, .LST_QUAL]⟩ s (((s.lostStat r fault).setFld ⟨.LST_VALID, r, 1⟩ 0 0).setFld
      ⟨.LST_QUAL, r, 1⟩ 0 0) := .le (by decide) (Frame.refl .none s).setFlag.setFlag.setFld.setFld.setFld.setFld
  unfold State.refLost
  rw [if_neg (by simp [h])]
  extract_lets
  split
  · exact hcount _ (hstat.regs _ _ (by decide))
  · exact hcount _ (hstat.regs _ _ (by decide))

theorem State.refLost_shows {r : Nat} (fault : Fin 8) (h : s.refValid r = true) :
    (s.refLost r fault).refValid r = false ∧ (s.refLost r fault).refQual r = false ∧
      (s.refLost r fault).fld F.LST_REF_STAT_FAULT r = fault := by
  have hf := s.refLost_lost fault h
  refine ⟨(hf.flag (by decide) r).trans ?_, (hf.flag (by decide) r).trans ?_, (hf.fld (by decide) r).trans ?_⟩
  · rw [State.lostStat, State.flag_setFld_apart _ (by decide), State.flag_setFld_apart _ (by decide),
      State.flag_setFlag_apart _ (by decide), State.flag_setFlag_same _ _ _ _ (by decide) rfl]
  · rw [State.lostStat, State.flag_setFld_apart _ (by decide), State.flag_setFld_apart _ (by decide),
      State.flag_setFlag_same _ _ _ _ (by decide) rfl]
  · exact State.fld_setFld_fits _ (by decide) fault.isLt r

theorem State.refLost_refValid (r fault : Nat) : (s.refLost r fault).refValid r = false := by
  cases h : s.refValid r with
  | false => rw [State.refLost, if_pos (by simp [h]), h]
  | true =>
    refine ((s.refLost_lost fault h).flag (by decide) r).trans ?_
    rw [State.lostStat, State.flag_setFld_apart _ (by decide), State.flag_setFld_apart _ (by decide),
      State.flag_setFlag_apart _ (by decide), State.flag_setFlag_same _ _ _ _ (by decide) rfl]

/-! ### An evaluation (R416 to R420, R423) -/

/-- An evaluation changes of the references' states at most their DISAGREE. -/
theorem State.showDisagree_fld {g : Fld} (ha : F.LST_REF_STAT_DISAGREE.apart g = true)
    (hr : g.reg ∉ Irq.LST_REF_DISAGREE.eventRegs) (o : LastObs) (i : Nat) : (s.showDisagree o).fld g i = s.fld g i := by
  have hset : ∀ (u : State) (q : Nat) (b : Bool), (u.setFlag F.LST_REF_STAT_DISAGREE q b).fld g i = u.fld g i :=
    fun u q b => u.fld_setFlag_apart ha q i b
  unfold State.showDisagree
  extract_lets sel peers bad u1 new u2
  have h1 : u1.fld g i = s.fld g i := foldl_keeps s (State.fld · g i) (fun u q => by split; exacts [hset u q false, rfl]) peers
  have h2 : u2.fld g i = s.fld g i := (foldl_keeps u1 (State.fld · g i) (fun u q => hset u q true) (sel :: bad)).trans h1
  split
  · rfl
  · split
    · split
      · exact (hset u1 sel false).trans h1
      · exact h1
    · split
      · exact (State.event_fld _ _ _ _ hr i).trans h2
      · exact h2

/-- The state in which an evaluation selects: the frequency measured, and the disagreements shown. -/
def State.evaluated (s : State) (o : LastObs) : State :=
  (if s.lstState = lstAcquire ∨ s.lstState = lstLocked then s.setFreq o.freq else s).showDisagree o

theorem State.evaluated_frame (o : LastObs) :
    Frame ⟨[.host, .sent, .awl], [.LST_FREQ, .LST_REF_STAT] ++ Irq.LST_REF_DISAGREE.eventRegs⟩ s (s.evaluated o) :=
  .le (by decide) (.showDisagree (.branch (Frame.refl .none s).setFreq (.refl .none s)))

theorem State.evaluated_refQual (o : LastObs) (r : Nat) : (s.evaluated o).refQual r = s.refQual r := by
  have h0 : (if s.lstState = lstAcquire ∨ s.lstState = lstLocked then s.setFreq o.freq else s).refQual r = s.refQual r :=
    (Frame.branch (Frame.refl .none s).setFreq (.refl .none s)).flag (by decide) r
  rw [← h0, State.refQual, State.refQual, State.flag, State.flag, State.evaluated, State.showDisagree_fld _ (by decide) (by decide)]

theorem State.evaluated_qualified (o : LastObs) : (s.evaluated o).qualified = s.qualified := by
  unfold State.qualified
  exact List.filter_congr fun r _ => by rw [s.evaluated_refQual, (s.evaluated_frame o).fld (by decide)]

theorem State.select_none (o : LastObs) (hf : s.flag F.LST_CTRL_FORCE_EN 0 = false) (hq : s.qualified = []) : s.select o = .none_ := by
  simp [State.select, hf, hq]

theorem State.select_one (o : LastObs) {r : Nat} (hf : s.flag F.LST_CTRL_FORCE_EN 0 = false) (hq : s.qualified = [r])
    (hs : s.lstSel ≠ r) : s.select o = .some_ r 0 false := by
  have hr : s.fld F.LST_REF_CFG_RANK r < 16 := s.fld_lt F.LST_REF_CFG_RANK r
  have hb : s.bestRank [r] = s.fld F.LST_REF_CFG_RANK r := by
    simp only [State.bestRank, List.foldl_cons, List.foldl_nil]
    omega
  simp [State.select, hf, hq, hs, hb]

/-- A new selection's phase is slewed out or built out (R420): of LST_STATUS only SLEWING changes. -/
theorem State.alignTo_keeps (r : Nat) (phase : Int) : (s.alignTo r phase).lstSel = s.lstSel ∧
    (s.alignTo r phase).fld F.LST_STATUS_PICK 0 = s.fld F.LST_STATUS_PICK 0 := by
  unfold State.alignTo State.lstSel
  constructor
  all_goals simp (disch := decide) only [State.fld_ite, State.fld_setFlag_apart, State.fld_setReg_ne, State.irq_fld, ite_self]

/-- A switch with the loop closed selects, counts and acquires (R420, R424). -/
theorem State.switchTo_shows {r : Nat} (phase : Int) (hr : r < 16) (hs : s.lstSel ≠ r) (ho : s.lstState ≠ lstOpen) :
    (s.switchTo r phase).lstSel = r ∧ (s.switchTo r phase).lstState = lstAcquire ∧
      (s.switchTo r phase).fld F.LST_STATUS_PICK 0 = s.fld F.LST_STATUS_PICK 0 ∧
      (s.switchTo r phase).reg .LST_SWITCHES 0 = s.counted .LST_SWITCHES 0 1 := by
  unfold State.switchTo
  rw [if_neg ho]
  extract_lets
  refine ⟨?_, State.enterLst_state _ (by decide), ?_, ?_⟩
  · rw [State.lstSel, State.enterLst_fld _ (by decide) (by decide)]
    exact (State.alignTo_keeps _ r phase).1.trans (s.showSel_sel hr)
  · rw [State.enterLst_fld _ (by decide) (by decide), (State.alignTo_keeps _ r phase).2, State.setLst_fld,
      State.showSel_fld _ (by decide) (by decide)]
  · exact ((Frame.refl .none _).setLst.alignTo.enterLst.regs _ 0 (by decide)).trans (s.showSel_switches hs)

/-- With no reference left the part holds its frequency, or runs free (R423). -/
theorem State.holdOver_shows (mean : Int) : (s.holdOver mean).lstSel = 15 ∧
    ((s.holdOver mean).lstState = lstHoldover ∨ (s.holdOver mean).lstState = lstFreerun) ∧
    ((s.holdOver mean).lstState = lstFreerun → ((s.holdOver mean).reg .LST_FREQ 0).toNat = 0) := by
  have hsel : ((s.showSel 15).setFld F.LST_STATUS_HOLD_SRC 0 s.holdSrc).lstSel = 15 :=
    (State.fld_setFld_apart _ (by decide) _ _ _).trans (s.showSel_sel (by decide))
  unfold State.holdOver
  extract_lets src u f v
  split
  · refine ⟨?_, .inr (State.enterLst_state _ (by decide)), fun _ => ?_⟩
    · rw [State.lstSel, State.enterLst_fld _ (by decide) (by decide)]
      exact ((Frame.refl .none u).setFreq.fld (by decide) 0).trans hsel
    · rw [(Frame.refl .none _).enterLst.regs _ _ (by decide), State.setFreq, State.reg_setReg_same]
      rfl
  · have hstate : ((v.setLst { v.lst with holdFrom := v.tick }).enterLst lstHoldover).showHold.lstState = lstHoldover :=
      ((Frame.refl .none _).showHold.fld (by decide) 0).trans (State.enterLst_state _ (by decide))
    refine ⟨?_, .inl hstate, fun h => absurd (hstate.symm.trans h) (by decide)⟩
    refine ((Frame.refl .none _).showHold.fld (by decide) 0).trans ?_
    rw [State.enterLst_fld _ (by decide) (by decide)]
    exact ((Frame.refl .none u).setFreq.set.setLst.fld (by decide) 0).trans hsel

/-- The one qualified reference, when it is new, is switched to. -/
theorem exec_lastEvaluation_one (o : LastObs) {r : Nat} (hf : s.flag F.LST_CTRL_FORCE_EN 0 = false) (hq : s.qualified = [r])
    (hs : s.lstSel ≠ r) (hn : s.flag F.LST_STATUS_SLEWING 0 = false) : exec (.lastEvaluation o) s =
      .next (((((s.evaluated o).setFlag F.LST_STATUS_FORCED 0 false).setFld F.LST_STATUS_PICK 0 0).switchTo r (o.phase r)).laneQual
        o.synths) := by
  have he := s.evaluated_frame o
  have hs' : (s.evaluated o).lstSel ≠ r := fun h => hs ((he.fld (by decide) 0).symm.trans h)
  have hsel := (s.evaluated o).select_one o ((he.flag (by decide) 0).trans hf) ((s.evaluated_qualified o).trans hq) hs'
  have hexec : exec (.lastEvaluation o) s = execLastEvaluation o s := rfl
  have hkeep : ∀ g : Fld, F.LST_STATUS_FORCED.apart g = true → F.LST_STATUS_PICK.apart g = true →
      (((s.evaluated o).setFlag F.LST_STATUS_FORCED 0 false).setFld F.LST_STATUS_PICK 0 0).fld g 0 = (s.evaluated o).fld g 0 :=
    fun g h1 h2 => (State.fld_setFld_apart _ h2 _ _ _).trans (State.fld_setFlag_apart _ h1 _ _ _)
  have h1 : (((s.evaluated o).setFlag F.LST_STATUS_FORCED 0 false).setFld F.LST_STATUS_PICK 0 0).lstSel ≠ r :=
    fun h => hs' ((hkeep _ (by decide) (by decide)).symm.trans h)
  have h2 : (((s.evaluated o).setFlag F.LST_STATUS_FORCED 0 false).setFld F.LST_STATUS_PICK 0 0).flag F.LST_STATUS_SLEWING 0 = false := by
    rw [State.flag, hkeep _ (by decide) (by decide)]
    exact (he.flag (by decide) 0).trans hn
  rw [hexec, execLastEvaluation]
  unfold State.evaluated at hsel h1 h2 ⊢
  simp [hsel, h1, h2]

theorem exec_lastEvaluation_none (o : LastObs) (hf : s.flag F.LST_CTRL_FORCE_EN 0 = false) (hq : s.qualified = [])
    (hst : s.lstState = lstAcquire ∨ s.lstState = lstLocked) : exec (.lastEvaluation o) s =
      .next (((((s.evaluated o).setFlag F.LST_STATUS_FORCED 0 false).setLst { (s.evaluated o).lst with pendSel := none }).holdOver
        o.mean).laneQual o.synths) := by
  have he := s.evaluated_frame o
  have hsel := (s.evaluated o).select_none o ((he.flag (by decide) 0).trans hf) ((s.evaluated_qualified o).trans hq)
  have hexec : exec (.lastEvaluation o) s = execLastEvaluation o s := rfl
  have hst' : (((s.evaluated o).setFlag F.LST_STATUS_FORCED 0 false).setLst { (s.evaluated o).lst with pendSel := none }).lstState =
      s.lstState := by
    rw [State.lstState, State.setLst_fld, State.fld_setFlag_apart _ (by decide)]
    exact he.fld (by decide) 0
  rw [← hst'] at hst
  rw [hexec, execLastEvaluation]
  unfold State.evaluated at hsel hst ⊢
  simp only [hsel, if_pos hst]

/-! ### References that pass (R411, R414) -/

variable {s}

theorem exec_refValid_passes {r : Fin 14} (hr : s.fld F.LST_REF_CFG_RANK r ≠ 0) (hv : s.refValid r = false)
    (ht : 12 ≤ r.val → s.tagGood r = true) (hl : 6 ≤ r.val → r.val < 10 → s.servoLocked (r - 6) = true) : exec (.refValid r) s =
      .next ((((s.setFlag F.LST_REF_STAT_VALID r true).setFld F.LST_REF_STAT_WTR_LEFT r (if s.lst.firstUsed then
        s.fld F.LST_REF_WTR_WTR r else s.fld F.LST_CFG_FIRST_QUAL 0)).setFld ⟨.LST_VALID, r, 1⟩ 0 1).setLst
          { s.lst with firstUsed := true }) := by
  have hexec : exec (.refValid r) s = execRefValid r s := rfl
  have h2 : ¬ (laceRef r && !s.tagGood r) = true := by
    simp only [laceRef, Bool.and_eq_true, decide_eq_true_eq, Bool.not_eq_true', not_and, Bool.not_eq_false]
    exact fun h => ht h.1
  have h3 : ¬ (6 ≤ r.val ∧ r.val < 10 ∧ s.servoLocked (r - 6) = false) := fun h => by
    simp [hl h.1 h.2.1] at h
  rw [hexec, execRefValid, if_neg (by simp [hr, hv]), if_neg h2, if_neg h3]
  rfl

theorem exec_refQualify_valid {r : Fin 14} (hv : s.refValid r = true) : exec (.refQualify r) s =
    .next (((s.setFlag F.LST_REF_STAT_QUALIFIED r true).setFld F.LST_REF_STAT_WTR_LEFT r 0).setFld ⟨.LST_QUAL, r, 1⟩ 0 1) :=
  congrArg Host.Outcome.next (if_pos hv)

/-! ### Slews (R421, R422) -/

theorem signedOf_bounds (v : Nat) : -2 ^ 31 ≤ signedOf 32 v ∧ signedOf 32 v < 2 ^ 31 := by
  unfold signedOf
  norm_num
  split <;> omega

variable (s) in
/-- The phase left to slew, and what a step moves of it, in ps. -/
def State.slewLeft : Int := signedOf 32 (s.reg .LST_SLEW_LEFT 0).toNat
variable (s) in
def State.slewMoved : Int :=
  if s.slewLeft < 0 then -((min s.slewStep s.slewLeft.natAbs : Nat) : Int) else (min s.slewStep s.slewLeft.natAbs : Nat)

variable (s) in
/-- The state after a step's move. -/
def State.slewn : State :=
  (s.movePhase s.slewMoved).setReg .LST_SLEW_LEFT 0 (BitVec.ofNat 64 (unsignedOf 32 (s.slewLeft - s.slewMoved)))

theorem exec_slewStep_none (phase : Int) (hn : s.flag F.LST_STATUS_SLEWING 0 = true) (hp : s.lst.pendSel = none) :
    exec (.slewStep phase) s = .next (if s.slewLeft - s.slewMoved = 0 ∨ s.slewn.lst.slewEnd = true then
      ((s.slewn.setFlag F.LST_STATUS_SLEWING 0 false).setReg .LST_SLEW_LEFT 0 0).setLst { s.slewn.lst with slewEnd := false }
    else s.slewn) := by
  have hl : s.slewn.lst.pendSel = none :=
    (congrArg Lst.pendSel ((Frame.refl .none s).movePhase.set.parts .lst (by decide))).trans hp
  have hexec : exec (.slewStep phase) s = execSlewStep phase s := rfl
  rw [hexec, execSlewStep, if_neg (by simp [hn])]
  dsimp only
  split
  next r h => cases hl.symm.trans h
  next => rfl

/-! ### Opening and closing the loop (R428, R429) -/

variable (s) in
theorem State.openWord (x : Nat) : F.LST_CTRL_FORCE_REF.of (F.LST_CTRL_OPEN.put x (s.reg .LST_CTRL 0)) = s.fld F.LST_CTRL_FORCE_REF 0 ∧
    F.LST_CTRL_OPEN.on (F.LST_CTRL_OPEN.put x (s.reg .LST_CTRL 0)) = (x % 2 != 0) :=
  ⟨Fld.of_put_disjoint _ _ (by decide) (by decide), Fld.on_put_same _ _ _ (by decide)⟩

theorem State.flag_store_LST_CTRL_OPEN (v : Word) : (s.store .LST_CTRL 0 v).flag F.LST_CTRL_OPEN 0 = F.LST_CTRL_OPEN.on v := by
  rw [State.flag, State.fld_store_same s (g := F.LST_CTRL_OPEN) 0 v (by decide) (by decide)]
  rfl

theorem exec_loopOpen_closed {src : Requester} (ho : s.closedTo .LST_CTRL src = false) (hr : s.fld F.LST_CTRL_FORCE_REF 0 ≤ 13)
    (hst : s.lstState ≠ lstOpen) : ∃ u, Frame ⟨[.resp, .lst], [.LST_CTRL, .LST_STEER, .LST_SLEW_LEFT]⟩ s u ∧
      u.reg .LST_STEER 0 = s.reg .LST_FREQ 0 ∧ u.flag F.LST_CTRL_OPEN 0 = true ∧
      exec (.loopOpen src) s = .next ((u.setFlag F.LST_STATUS_SLEWING 0 false).setReg .LST_SLEW_LEFT 0 0 |>.enterLst lstOpen) := by
  obtain ⟨href, hopen⟩ := s.openWord 1
  have hexec : exec (.loopOpen src) s = .next (s.writeLstCtrl src (F.LST_CTRL_OPEN.put 1 (s.reg .LST_CTRL 0))) := rfl
  rw [hexec, State.writeLstCtrl, State.guarded_of_open s ho]
  dsimp only
  rw [if_neg (by omega), if_pos (by simp [hopen, hst])]
  refine ⟨_, ?_, ?_, ?_, rfl⟩
  · exact .le (by decide) (Frame.refl .none s).store.set.setLst
  · rw [State.setLst_reg, State.reg_setReg_same, State.reg_store_ne _ (by decide)]
    exact Reg.fit_wide rfl _
  · rw [State.setLst_flag, State.flag_setReg_ne _ (by decide), State.flag_store_LST_CTRL_OPEN, hopen]
    rfl

theorem exec_loopClose_open {src : Requester} (ho : s.closedTo .LST_CTRL src = false) (hr : s.fld F.LST_CTRL_FORCE_REF 0 ≤ 13)
    (hst : s.lstState = lstOpen) : ∃ u, Frame ⟨[.resp, .lst], [.LST_CTRL]⟩ s u ∧ u.lst.goal = none ∧
      u.flag F.LST_CTRL_OPEN 0 = false ∧ exec (.loopClose src) s = .next (if s.lstSel < 14 then u.enterLst lstAcquire
        else ((u.setReg .LST_HOLD_FREQ 0 (u.reg .LST_FREQ 0)).setFld F.LST_STATUS_HOLD_SRC 0 3 |>.enterLst lstHoldover).showHold) := by
  obtain ⟨href, hopen⟩ := s.openWord 0
  have hexec : exec (.loopClose src) s = .next (s.writeLstCtrl src (F.LST_CTRL_OPEN.put 0 (s.reg .LST_CTRL 0))) := rfl
  have hsel : (s.store .LST_CTRL 0 (F.LST_CTRL_OPEN.put 0 (s.reg .LST_CTRL 0))).lstSel = s.lstSel := State.fld_store_ne _ (by decide) _ _ _
  have hopen' : (s.store .LST_CTRL 0 (F.LST_CTRL_OPEN.put 0 (s.reg .LST_CTRL 0))).flag F.LST_CTRL_OPEN 0 = false :=
    (State.flag_store_LST_CTRL_OPEN _).trans hopen
  have hf := (Frame.refl .none s).store (r := .LST_CTRL) (i := 0) (v := F.LST_CTRL_OPEN.put 0 (s.reg .LST_CTRL 0))
  rw [hexec, State.writeLstCtrl, State.guarded_of_open s ho]
  dsimp only
  rw [if_neg (by omega), if_neg (by simp [hopen]), if_pos (by simp [hopen, hst]), hsel]
  by_cases h : s.lstSel < 14
  · exact ⟨_, .le (by decide) (hf.setLst (x := { s.lst with fast := true, goal := none })), rfl, hopen', by
      rw [if_pos h, if_pos h]
      rfl⟩
  · refine ⟨_, .le (by decide) (hf.setLst (x := { s.lst with holdFrom := s.tick, goal := none })), rfl, hopen', ?_⟩
    rw [if_neg h, if_neg h]
    rfl

/-! ### The other commands of Last -/

theorem exec_steerWrite_open {src : Requester} (v : Word64) (ho : s.closedTo .LST_STEER src = false) (hst : s.lstState = lstOpen) :
    exec (.steerWrite src v) s = .next ((s.store .LST_STEER 0 v).setLst { s.lst with goal := some v.toInt }) := by
  have hexec : exec (.steerWrite src v) s = .next (s.writeSteer src v) := rfl
  rw [hexec, State.writeSteer, State.guarded_of_open s ho]
  exact congrArg Host.Outcome.next (if_pos ((State.fld_store_ne _ (by decide) _ _ _).trans hst))

/-- A reference that is not selected and not of PTP takes its configuration through its loss (log 90). -/
theorem exec_refCfgWrite_unselected {src : Requester} {r : Fin 14} {w : Word32} (ho : s.closedTo .LST_REF_CFG src = false)
    (hb : badRefCfg r (w.setWidth 64) = false) (hp : ¬ (6 ≤ r.val ∧ r.val < 10)) (hs : s.lstSel ≠ r.val) :
    exec (.refCfgWrite src r w) s = .next ((s.store .LST_REF_CFG r (w.setWidth 64)).refLost r (s.fld F.LST_REF_STAT_FAULT r)) := by
  have hexec : exec (.refCfgWrite src r w) s = .next (s.writeRefCfg src r (w.setWidth 64)) := rfl
  rw [hexec, State.writeRefCfg, State.guarded_of_open s ho]
  dsimp only
  rw [if_neg hp, if_neg (by simp [hb]), if_neg hs]

/-! ### The ageing model (R432 to R435) -/

variable (s) in
theorem State.refit_lst : s.refit.lst = { s.lst with model := decide (72 ≤ s.lst.ages.length) } := by
  unfold State.refit
  split
  next h => rw [decide_eq_false (by omega)]; rfl
  next h => rw [decide_eq_true (by omega)]; rfl

theorem exec_ageingRecord_locked (offset : Int) (hl : s.lstState = lstLocked) (hn : s.flag F.LST_STATUS_SLEWING 0 = false)
    (ht : 86400 * 32768 ≤ s.tick) (hm : s.lst.model = false) : exec (.ageingRecord offset) s =
      .next (s.setLst { s.lst with ages := (⟨s.opHours, offset, s.lstSel⟩ :: s.lst.ages).take 2160 }).refit := by
  have hexec : exec (.ageingRecord offset) s = execAgeingRecord offset s := rfl
  have ht' : ¬ tickSeconds s.tick < 86400 := by unfold tickSeconds; omega
  rw [hexec, execAgeingRecord, if_neg (by simp [hl, hn, ht'])]
  dsimp only
  rw [hm, Bool.false_and, if_neg (by decide)]

theorem exec_ageingReplan_none (hm : s.lst.model = false) : exec .ageingReplan s = .next (s.showHold.setReg .LST_AGE_PRED 0 0) := by
  have hexec : exec .ageingReplan s = execAgeingReplan s := rfl
  have hm' : s.showHold.lst.model = false := (congrArg Lst.model ((Frame.refl .none s).showHold.parts .lst (by decide))).trans hm
  rw [hexec, execAgeingReplan]
  dsimp only
  have hc1 : ∀ v, (s.showHold.setReg .LST_AGE_PRED 0 v).ageC1 = 0 := fun v => if_neg (by simp [hm'])
  rw [hm', if_neg (Bool.false_ne_true), hc1, if_neg (by decide)]
  rfl

/-- The offset that the model predicts a year ahead. -/
def State.agePred (s : State) : Int := (s.signedFld F.LST_AGE_C0 0 + 365 * s.signedFld F.LST_AGE_C1 0) / 10

theorem exec_ageingReplan_model (hm : s.lst.model = true) : ∃ u, u.lst = s.lst ∧
    u.reg .LST_AGE_PRED 0 = Reg.LST_AGE_PRED.fit (BitVec.ofNat 64 (unsignedOf 32 (clampSigned 32 s.agePred))) ∧
    exec .ageingReplan s = .next (if 200000 < s.agePred.natAbs ∨ 5000 < s.ageC1.natAbs then
      ((u.setFlag F.LST_STATUS_AGE_WARN 0 true).irq Irq.LST_AGE_WARN).awlCause Irq.LST_AGE_WARN false 0 0 else u) := by
  have hf := (Frame.refl .none s).showHold
  have hlst : s.showHold.lst = s.lst := hf.parts .lst (by decide)
  have hfld : ∀ g : Fld, g.reg = .LST_AGE → s.showHold.signedFld g 0 = s.signedFld g 0 := fun g hg => by
    rw [State.signedFld, State.signedFld, hf.fld (by rw [hg]; decide)]
  have hc1 : s.ageC1 = s.signedFld F.LST_AGE_C1 0 := if_pos hm
  have hc1' : ∀ v, (s.showHold.setReg .LST_AGE_PRED 0 v).ageC1 = s.ageC1 := fun v => by
    rw [State.ageC1, State.setReg_lst, hlst, if_pos hm, hc1, ← hfld _ rfl, State.signedFld, State.fld_setReg_ne _ (by decide)]
    rfl
  have hc1'' : s.showHold.ageC1 = s.ageC1 := by
    rw [State.ageC1, hlst, if_pos hm, hc1, hfld _ rfl]
  refine ⟨s.showHold.setReg .LST_AGE_PRED 0 (BitVec.ofNat 64 (unsignedOf 32 (clampSigned 32 s.agePred))), hlst, by
    rw [State.reg_setReg_same], ?_⟩
  have hexec : exec .ageingReplan s = execAgeingReplan s := rfl
  rw [hexec, execAgeingReplan]
  dsimp only
  rw [hlst, if_pos hm, hc1'', hfld _ rfl, hc1', hc1]
  rfl

/-! ### Network reference clocks (R409) -/

variable (s) in
/-- Lanes that move take the clock that they moved to, and the move is counted. -/
theorem State.moveRefclk_shows {k : Nat} (hk : k ≤ 2) : (s.moveRefclk k).refclkNow = k ∧ (s.moveRefclk k).lst = s.lst ∧
    (s.moveRefclk k).reg .WLT_NL_CLKMOVE 0 = s.counted .WLT_NL_CLKMOVE 0 1 := by
  have hf : Frame ⟨[.host, .sent, .awl], [.WLT_NL_CLKMOVE, .WLT_INT_STAT] ++ Irq.LST_REFCLK_FAIL.eventRegs⟩
      ((s.setFld F.LST_STATUS_REFCLK 0 (k % 2)).setFlag F.LST_STATUS_REFCLK_MASTER 0 (k == 2)) (s.moveRefclk k) := by
    unfold State.moveRefclk
    exact .le (by decide) (Frame.refl .none _).event.count.irq
  refine ⟨?_, hf.parts .lst (by decide), ?_⟩
  · rw [State.refclkNow, hf.flag (by decide), hf.fld (by decide), State.flag_setFlag_same _ _ _ _ (by decide) rfl,
      State.fld_setFlag_apart _ (by decide), State.fld_setFld_same _ _ _ _ (by decide)]
    interval_cases k <;> rfl
  · rw [State.moveRefclk, State.irq_reg _ _ (by decide), State.reg_count_counted]
    exact State.counted_congr ((Frame.refl .none s).setFld.setFlag.event.regs _ _ (by decide)) 1

theorem State.refclkSettle_moves {k : Nat} (h : s.refclkNext = k) (hn : s.refclkNow ≠ k) : s.refclkSettle = s.moveRefclk k := by
  rw [State.refclkSettle, h, if_neg (Ne.symm hn)]

end Sys2Proof.Machine

end

section
open Sys2Proof Sys2Proof.Machine

/-- Settles O41, clause by clause: evaluations, references lost, passing and qualified, slews, the states of the loop, writes of
LST_STEER and LST_REF_CFG, oscillators, the ageing model and the network reference clocks. A reference that is not selected takes
its configuration through its loss by log 90. -/
theorem lastSelectsSlewsAndHolds : Obligations.LastSelectsSlewsAndHolds := by
  unfold Obligations.LastSelectsSlewsAndHolds
  refine ⟨?one, ?none, ?lost, ?valid, ?qualify, ?slew, ?slewed, ?locked, ?holdLost, ?opened, ?closed, ?steer, ?refCfg, ?oscFail,
    ?oscReturn, ?unqual, ?aged, ?noPlan, ?plan, ?clkFail, ?clkReturn⟩
  case one =>
    intro o r s hf hq hs ho hn
    have hr : r < 14 := List.mem_range.mp (List.mem_of_mem_filter (hq ▸ List.mem_singleton_self r : r ∈ s.qualified))
    have he := s.evaluated_frame o
    have hkeep : ∀ g : Fld, F.LST_STATUS_FORCED.apart g = true → F.LST_STATUS_PICK.apart g = true →
        (((s.evaluated o).setFlag F.LST_STATUS_FORCED 0 false).setFld F.LST_STATUS_PICK 0 0).fld g 0 = (s.evaluated o).fld g 0 :=
      fun g h1 h2 => (State.fld_setFld_apart _ h2 _ _ _).trans (State.fld_setFlag_apart _ h1 _ _ _)
    obtain ⟨hsel, hst, hpick, hcnt⟩ := (((s.evaluated o).setFlag F.LST_STATUS_FORCED 0 false).setFld F.LST_STATUS_PICK 0
      0).switchTo_shows (o.phase r) (by omega) (fun h => hs ((he.fld (by decide) 0).symm.trans ((hkeep _ (by decide) (by decide)).symm.trans h)))
      (fun h => ho ((he.fld (by decide) 0).symm.trans ((hkeep _ (by decide) (by decide)).symm.trans h)))
    rw [exec_lastEvaluation_one s o hf hq hs hn]
    refine .next ⟨?_, ?_, ?_, ?_⟩
    · exact (State.laneQual_fld _ (by decide) (by decide) (by decide) _ _).trans hsel
    · exact (State.laneQual_fld _ (by decide) (by decide) (by decide) _ _).trans hst
    · rw [State.laneQual_fld _ (by decide) (by decide) (by decide), hpick]
      exact State.fld_setFld_fits _ (by decide) (by decide) 0
    · rw [State.laneQual_reg _ (by decide) (by decide) (by decide), hcnt]
      exact State.counted_congr ((he.setFlag.setFld.regs _ _ (by decide))) 1
  case none =>
    intro o s hf hq hst
    rw [exec_lastEvaluation_none s o hf hq hst]
    obtain ⟨hsel, hst', hfreq⟩ := (((s.evaluated o).setFlag F.LST_STATUS_FORCED 0 false).setLst
      { (s.evaluated o).lst with pendSel := none }).holdOver_shows o.mean
    refine .next ⟨?_, ?_, ?_⟩
    · exact (State.laneQual_fld _ (by decide) (by decide) (by decide) _ _).trans hsel
    · rw [State.lstState, State.laneQual_fld _ (by decide) (by decide) (by decide)]
      exact hst'
    · rw [State.lstState, State.laneQual_fld _ (by decide) (by decide) (by decide), State.laneQual_reg _ (by decide) (by decide)
        (by decide)]
      exact hfreq
  case lost =>
    intro r fault s h
    obtain ⟨hv, hq, hfault⟩ := s.refLost_shows fault h
    exact .next ⟨hv, hq, hfault, s.refLost_loss fault h⟩
  case valid =>
    intro r s hr hv ht hl
    rw [exec_refValid_passes hr hv ht hl]
    have hlt : (if s.lst.firstUsed then s.fld F.LST_REF_WTR_WTR r else s.fld F.LST_CFG_FIRST_QUAL 0) < 2 ^ 16 := by
      have h1 : s.fld F.LST_REF_WTR_WTR r < 2 ^ 16 := s.fld_lt _ _
      have h2 : s.fld F.LST_CFG_FIRST_QUAL 0 < 2 ^ 8 := s.fld_lt _ _
      split <;> omega
    refine .next ⟨?_, ?_, ?_, rfl⟩
    · rw [State.refValid, State.setLst_flag, State.flag_setFld_mk_ne _ (by decide), State.flag_setFld_apart _ (by decide),
        State.flag_setFlag_same _ _ _ _ (by decide) rfl]
    · rw [State.refQual, State.setLst_flag, State.flag_setFld_mk_ne _ (by decide), State.flag_setFld_apart _ (by decide),
        State.flag_setFlag_apart _ (by decide), State.refQual]
    · rw [State.setLst_fld, State.fld_setFld_mk_ne _ (by decide), State.fld_setFld_fits _ (by decide) hlt]
  case qualify =>
    intro r s hv
    rw [exec_refQualify_valid hv]
    refine .next ⟨?_, ?_, ?_⟩
    · rw [State.refQual, State.flag_setFld_mk_ne _ (by decide), State.flag_setFld_apart _ (by decide),
        State.flag_setFlag_same _ _ _ _ (by decide) rfl]
    · rw [State.fld_setFld_mk_ne _ (by decide), State.fld_setFld_fits _ (by decide) (by decide)]
    · rw [State.refValid, State.flag_setFld_mk_ne _ (by decide), State.flag_setFld_apart _ (by decide),
        State.flag_setFlag_apart _ (by decide)]
      exact hv
  case slew =>
    intro phase s hn hp he hstep hleft
    have hb := signedOf_bounds (s.reg .LST_SLEW_LEFT 0).toNat
    have hmoved : s.slewMoved = s.slewStep := by unfold State.slewMoved State.slewLeft; omega
    have hrest : s.slewLeft - s.slewMoved ≠ 0 := by rw [hmoved]; unfold State.slewLeft; omega
    have hf := (Frame.refl .none s).movePhase (ps := s.slewMoved) |>.set (r := .LST_SLEW_LEFT) (i := 0)
      (v := BitVec.ofNat 64 (unsignedOf 32 (s.slewLeft - s.slewMoved)))
    have hend : s.slewn.lst.slewEnd = false := (congrArg Lst.slewEnd (hf.parts .lst (by decide))).trans he
    rw [exec_slewStep_none phase hn hp, if_neg (by simp [hrest, hend])]
    refine .next ⟨?_, (hf.flag (by decide) 0).trans hn, hf.fld (by decide) 0⟩
    rw [State.slewn, State.toNat_reg_setReg _ rfl (unsignedOf_lt 32 _), signedOf_unsignedOf, hmoved]
    · rfl
    · rw [hmoved]; unfold State.slewLeft; omega
    · rw [hmoved]; unfold State.slewLeft; omega
  case slewed =>
    intro phase s hn hp hstep
    have hmoved : s.slewLeft - s.slewMoved = 0 := by unfold State.slewMoved State.slewLeft; split <;> omega
    rw [exec_slewStep_none phase hn hp, if_pos (.inl hmoved)]
    refine .next ⟨?_, ?_⟩
    · rw [State.setLst_flag, State.flag_setReg_ne _ (by decide), State.flag_setFlag_same _ _ _ _ (by decide) rfl]
    · rw [State.setLst_reg, State.reg_setReg_same]
      rfl
  case locked =>
    intro s h
    have hexec : exec .lastLock s = .next ((s.setLst { s.lst with fast := false, histFrom := if s.lst.histFrom = 0 then s.tick + 1 else
      s.lst.histFrom }).enterLst lstLocked) := congrArg Host.Outcome.next (if_pos h)
    rw [hexec]
    refine .next ⟨State.enterLst_state _ (by decide), ?_, ?_, State.enterLst_fld _ (by decide) (by decide) _ _⟩
    · rw [State.enterLst_lst, if_neg fun h => absurd h.2 (by decide)]
      rfl
    · rw [State.enterLst_lst, if_neg fun h => absurd h.2 (by decide)]
      rfl
  case holdLost =>
    intro s h
    have hexec : exec .holdoverLost s = .next ((s.irq Irq.LST_LOST).enterLst lstLost) := congrArg Host.Outcome.next (if_pos h)
    rw [hexec]
    exact .next ⟨State.enterLst_state _ (by decide), (Frame.refl .none s).irq.enterLst.regs _ _ (by decide)⟩
  case opened =>
    intro src s ho hr hst
    obtain ⟨u, hu, hsteer, hopen, hexec⟩ := exec_loopOpen_closed ho hr hst
    have hf := (Frame.refl .none u).setFlag (r := .LST_STATUS) (lo := 24) (w := 1) (i := 0) (b := false) |>.set (r := .LST_SLEW_LEFT)
      (i := 0) (v := 0) |>.enterLst (st := lstOpen)
    rw [hexec]
    exact .next ⟨State.enterLst_state _ (by decide), (hf.regs _ _ (by decide)).trans hsteer,
      (hf.regs _ _ (by decide)).trans (hu.regs _ _ (by decide)), (hf.flag (by decide) 0).trans hopen⟩
  case closed =>
    intro src s ho hr hst
    obtain ⟨u, hu, hgoal, hopen, hexec⟩ := exec_loopClose_open ho hr hst
    rw [hexec]
    split
    · refine .next ⟨State.enterLst_state _ (by decide), ?_, ?_, ?_⟩
      · exact ((Frame.refl .none u).enterLst.flag (by decide) 0).trans hopen
      · exact ((Frame.refl .none u).enterLst.regs _ _ (by decide)).trans (hu.regs _ _ (by decide))
      · rw [State.enterLst_lst, if_neg fun h => absurd h.2 (by decide)]
        exact hgoal
    · have hf := (Frame.refl .none u).set (r := .LST_HOLD_FREQ) (i := 0) (v := u.reg .LST_FREQ 0) |>.setFld (r := .LST_STATUS) (lo := 20)
        (w := 3) (i := 0) (v := 3)
      refine .next ⟨?_, ?_, ?_, ?_⟩
      · exact ((Frame.refl .none _).showHold.fld (by decide) 0).trans (State.enterLst_state _ (by decide))
      · exact (hf.enterLst.showHold.flag (by decide) 0).trans hopen
      · exact (hf.enterLst.showHold.regs _ _ (by decide)).trans (hu.regs _ _ (by decide))
      · refine (congrArg Lst.goal ((Frame.refl .none _).showHold.parts .lst (by decide))).trans ?_
        rw [State.enterLst_lst]
        split
        · exact hgoal
        · exact hgoal
  case steer =>
    intro src v s ho hst
    rw [exec_steerWrite_open v ho hst]
    exact .next ⟨s.reg_store_same _ _ _, rfl, s.reg_store_ne (by decide) _ _ _⟩
  case refCfg =>
    intro src r w s ho hb hp hs
    have hf := (Frame.refl .none (s.store .LST_REF_CFG r (w.setWidth 64))).refLost (r := r) (fault := s.fld F.LST_REF_STAT_FAULT r)
    rw [exec_refCfgWrite_unselected ho hb hp hs]
    refine .next ⟨(hf.regs _ _ (by decide)).trans (s.reg_store_same _ _ _), State.refLost_refValid _ _ _, fun hv => ?_⟩
    rw [State.refLost_loss _ _ ((State.flag_store_ne _ (by decide) _ _ _).trans hv)]
    exact State.counted_congr (s.reg_store_ne (by decide) _ _ _) 1
  case oscFail =>
    intro s
    have hexec : exec .oscHoldFail s = .next ((s.setFlag F.LST_STATUS_OSC_OK 0 false).event Irq.LST_OSC_FAIL 0 0).toLost := rfl
    have hst : ((s.setFlag F.LST_STATUS_OSC_OK 0 false).event Irq.LST_OSC_FAIL 0 0).lstState = s.lstState :=
      (State.event_fld _ _ _ _ (by decide) _).trans (s.fld_setFlag_apart (by decide) _ _ _)
    have hok : ((s.setFlag F.LST_STATUS_OSC_OK 0 false).event Irq.LST_OSC_FAIL 0 0).flag F.LST_STATUS_OSC_OK 0 = false :=
      (State.event_flag _ _ _ _ (by decide) _).trans (s.flag_setFlag_same _ _ _ (by decide) rfl)
    rw [hexec, State.toLost, hst]
    split
    · refine .next ⟨?_, State.enterLst_state _ (by decide)⟩
      rw [State.flag, State.enterLst_fld _ (by decide) (by decide), State.irq_fld _ _ (by decide)]
      exact hok
    · exact .next ⟨hok, hst⟩
  case oscReturn =>
    intro synths s
    have hexec : exec (.oscHoldReturn synths) s = .next ((s.setFlag F.LST_STATUS_OSC_OK 0 true).laneQual synths) := rfl
    have hok : (s.setFlag F.LST_STATUS_OSC_OK 0 true).flag F.LST_STATUS_OSC_OK 0 = true := s.flag_setFlag_same _ _ _ (by decide) rfl
    have hcfg : ∀ d, (s.setFlag F.LST_STATUS_OSC_OK 0 true).reg .EGR_OTD_CFG d = s.reg .EGR_OTD_CFG d :=
      fun d => s.reg_setFlag_ne (by decide) _ _ _
    rw [hexec]
    refine .next ⟨?_, ?_, ?_⟩
    · rw [State.flag, State.laneQual_fld _ (by decide) (by decide) (by decide)]
      exact hok
    · rw [State.lstState, State.laneQual_fld _ (by decide) (by decide) (by decide), State.fld_setFlag_apart _ (by decide),
        State.lstState]
    · rw [State.laneQual_flag, State.laneOk, hok, Bool.or_true, Bool.and_true]
      simp only [State.tbFeeds, State.otdEnabled, State.otdTb, State.flag, State.fld, hcfg]
  case unqual =>
    intro synths s h
    have hexec : exec (.laneClockUnqual synths) s = .next (s.laneQual synths) := rfl
    have hsynth : ∀ g, (g = F.LST_TB_STAT_SYNTH ∨ g = F.LST_TB_STAT_AUDIO) → ∀ k : Fin 4, (s.laneQual synths).flag g k = synths.getLsbD k :=
      fun g hg k => by
        have hr : g.reg = .LST_TB_STAT := by rcases hg with rfl | rfl <;> rfl
        rw [(s.laneQual_shows synths).flag (by rw [hr]; decide), State.flag_setFlag_ne _ (by rw [hr]; decide), s.showSynths_flag hg]
    rw [hexec]
    refine .next ⟨?_, hsynth _ (.inl rfl), hsynth _ (.inr rfl)⟩
    rw [State.laneQual_flag, State.laneOk, h]
    rfl
  case aged =>
    intro offset s hl hn ht hm
    rw [exec_ageingRecord_locked offset hl hn ht hm]
    refine .next ⟨?_, ?_⟩
    · rw [State.refit_lst]
      rfl
    · rw [State.refit_lst]
  case noPlan =>
    intro s hm
    have hf := (Frame.refl .none s).showHold.set (r := .LST_AGE_PRED) (i := 0) (v := 0)
    rw [exec_ageingReplan_none hm]
    refine .next ⟨?_, hf.parts .lst (by decide), hf.flag (by decide) 0⟩
    rw [State.reg_setReg_same]
    rfl
  case plan =>
    intro s hm h0 h31
    obtain ⟨u, hlst, hpred, hexec⟩ := exec_ageingReplan_model hm
    have hclamp : unsignedOf 32 (clampSigned 32 s.agePred) = s.agePred.toNat := by
      unfold clampSigned unsignedOf
      change 0 ≤ s.agePred at h0
      change s.agePred < 2 ^ 31 at h31
      norm_num
      omega
    have hreg : (u.reg .LST_AGE_PRED 0).toNat = s.agePred.toNat := by
      rw [hpred, hclamp, Reg.fit_toNat rfl, BitVec.toNat_ofNat]
      change 0 ≤ s.agePred at h0
      change s.agePred < 2 ^ 31 at h31
      omega
    rw [hexec]
    split
    next h =>
      refine .next ⟨?_, fun _ => ?_⟩
      · exact (congrArg BitVec.toNat ((Frame.refl .none u).setFlag.irq.awlCause.regs _ _ (by decide))).trans hreg
      · exact ((Frame.refl .none _).irq.awlCause.flag (by decide) 0).trans (u.flag_setFlag_same _ _ _ (by decide) rfl)
    next h =>
      refine .next ⟨hreg, fun hbig => absurd (Or.inl ?_) h⟩
      change 200000 < s.agePred at hbig
      omega
  case clkFail =>
    intro b s hnow hgood
    have hexec : exec (.refclkFail b) s = .next (s.setLst (if b then { s.lst with badB := true } else { s.lst with badA :=
      true })).refclkSettle := rfl
    have hnow' : ∀ x, (s.setLst x).refclkNow = if b then 1 else 0 := fun _ => hnow
    rw [hexec, State.refclkSettle_moves (k := if b then 0 else 1)]
    · obtain ⟨hto, hlst, hcnt⟩ := (s.setLst (if b then { s.lst with badB := true } else { s.lst with badA := true })).moveRefclk_shows
        (k := if b then 0 else 1) (by cases b <;> decide)
      refine .next ⟨hto, hcnt, ?_⟩
      rw [hlst]
      cases b <;> rfl
    · rw [State.refclkNext, hnow']
      cases b <;> simp_all
    · rw [hnow']
      cases b <;> decide
  case clkReturn =>
    intro b s hnow ha hb
    have hexec : exec (.refclkReturn b) s = .next (s.setLst (if b then { s.lst with badB := false } else { s.lst with badA :=
      false })).refclkSettle := rfl
    have hnow' : ∀ x, (s.setLst x).refclkNow = 2 := fun _ => hnow
    rw [hexec, State.refclkSettle_moves (k := if b then 1 else 0)]
    · obtain ⟨hto, -, hcnt⟩ := (s.setLst (if b then { s.lst with badB := false } else { s.lst with badA := false })).moveRefclk_shows
        (k := if b then 1 else 0) (by cases b <;> decide)
      exact .next ⟨hto, hcnt⟩
    · rw [State.refclkNext, hnow']
      cases b <;> simp_all
    · rw [hnow']
      cases b <;> decide

end

section
/-! SUPPORT of O42: time bases and servos, PTP messages and edges, and their commands in the cases of the statement. -/

namespace Sys2Proof.Machine

variable (s : State)

/-! ### Time bases stepped (R445) -/

/-- What a step of a time base changes beside its time and its count of steps. -/
def stepRestFoot : Foot :=
  ⟨[.resp, .freeCtr, .sent, .host, .awl, .twl, .nim, .tks, .egr, .ntm], .GLB_INT_SUM :: .EGR_INT_STAT :: .EGR_HEALTH_STAT ::
    .EGR_OTD_STAT :: .EGR_OUT_TAKE :: .NIM_INT_STAT :: .NIM_JRN_FREE :: .NIM_JRN_OPEN :: .NIM_CQ_LOST :: .NIM_CQ_TAIL ::
    .NIM_SVC_STAT :: .NTM_STATUS :: .NTM_INT_STAT :: .NTM_TRG_SRC :: .NTM_TRG_CFG :: .NTM_TRG_STAT :: .NTM_TRG_T :: .NTM_TRG_LATE ::
    .NTM_TRG_MISSED :: (awlFoot ++ routeFoot)⟩

theorem State.stepTb_counted (k : Nat) (t : FineTime) :
    Frame stepRestFoot ((s.setTb k t).count .NTM_TB_STEPS k 1) (s.stepTb k t) := by
  have h := Frame.refl .none ((s.setTb k t).count .NTM_TB_STEPS k 1)
  unfold State.stepTb
  exact .le (by decide) (.branch (.fold (.fold h.event.stepDomains fun _ _ h1 => .branch h1.setCap h1) fun _ _ h1 =>
    .branch h1.trgLate h1) (.fold h.event.stepDomains fun _ _ h1 => .branch h1.setCap h1))

theorem State.stepTb_shows (k : Nat) (t : FineTime) : (s.stepTb k t).tbNow k = t ∧ (s.stepTb k t).tbRunning k = s.tbRunning k ∧
    (s.stepTb k t).reg .NTM_TB_STEPS k = s.counted .NTM_TB_STEPS k 1 := by
  have hf := s.stepTb_counted k t
  refine ⟨?_, (hf.flag (by decide) k).trans (State.flag_count_ne _ (by decide) _ _ _), ?_⟩
  · exact (congrArg (Tbl.get (fun _ => 0) · k) (hf.parts .tb (by decide))).trans (s.setTb_tbNow k t)
  · exact (hf.regs _ _ (by decide)).trans (State.reg_count_counted _ _ _ _)

/-! ### Servos (R457 to R461) -/

/-- What a servo's change of state changes beside NTM_SRV_STAT. -/
def enterSrvFoot : Foot :=
  ⟨[.sent, .host, .lst, .ntm], [.GLB_INT_SUM, .LST_VALID, .LST_QUAL, .LST_INT_STAT, .LST_REF_STAT, .LST_REF_LOSS]⟩

theorem State.enterSrv_entered (k st : Nat) : Frame enterSrvFoot (s.setFld F.NTM_SRV_STAT_STATE k st) (s.enterSrv k st) := by
  have h := Frame.refl .none (s.setFld F.NTM_SRV_STAT_STATE k st)
  unfold State.enterSrv
  exact .le (by decide) (.branch h.setServo h.setServo.refLost)

theorem State.enterSrv_state {st : Nat} (h : st < 8) (k : Nat) : (s.enterSrv k st).srvState k = st :=
  ((s.enterSrv_entered k st).fld (by decide) k).trans (s.fld_setFld_fits (by decide) h k)

theorem State.enterSrv_selected (k st j : Nat) :
    (s.enterSrv k st).flag F.NTM_SRV_STAT_SELECTED j = s.flag F.NTM_SRV_STAT_SELECTED j :=
  ((s.enterSrv_entered k st).flag (by decide) j).trans (s.flag_setFld_apart (by decide) _ _ _)

/-- PTPk is not valid outside LOCKED (R461). -/
theorem State.enterSrv_refValid {st : Nat} (h : st ≠ srvLocked) (k : Nat) : (s.enterSrv k st).refValid (6 + k) = false := by
  unfold State.enterSrv
  extract_lets u1 u2
  rw [if_neg h]
  exact State.refLost_refValid _ _ _

theorem State.enterSrv_servo (k st : Nat) : (s.enterSrv k st).servo k = { s.servo k with within := 0, beyond := 0 } := by
  have hlost : ∀ u : State, (u.refLost (6 + k) 4).servo k = u.servo k := fun u =>
    congrArg (fun n : Ntm => Tbl.get (fun _ => default) n.servos k) ((Frame.refl .none u).refLost.parts .ntm (by decide))
  unfold State.enterSrv
  extract_lets
  split
  · exact State.setServo_servo _ _ _
  · rw [hlost]
    exact State.setServo_servo _ _ _

theorem State.rk_setRk {r : Int} (hlo : -8388608 ≤ r) (hhi : r < 8388608) (k : Nat) : (s.setRk k r).rk k = r :=
  s.signedFld_setSigned (n := 23) rfl (by decide) hlo hhi k

/-- The loop's output after a sample. -/
def State.loopOut (s : State) : Int := (s.free.toNat % 20001 : Nat) - 10000

theorem State.drawRk_rk (k : Nat) : (s.drawRk k).rk k = s.loopOut := by
  have hr := s.drawFree.rk_setRk (r := s.loopOut) (by unfold State.loopOut; omega) (by unfold State.loopOut; omega) k
  refine Eq.trans ?_ hr
  have h := Frame.refl .none (s.drawFree.setRk k s.loopOut)
  have hf : Frame ⟨[.host, .sent], [.NTM_SRV_STAT, .GLB_INT_SUM, .NTM_INT_STAT]⟩ (s.drawFree.setRk k s.loopOut) (s.drawRk k) := by
    unfold State.drawRk
    exact .le (by decide) (.branch h.setFlag.irq h.setFlag)
  rw [State.rk, State.rk, State.signedFld, State.signedFld, hf.fld (by decide)]

variable {s}

theorem exec_srvFeedWrite_waits {src : Requester} {k : Fin 4} {v : Word64} (ho : s.closedTo .NTM_SRV_FEED src = false)
    (hm : s.fld F.NTM_TB_CFG_MODE k = 2) (hw : s.srvState k = srvWait) (he : s.flag F.NTM_CTRL_EN 0 = true)
    (hr : s.tbRunning k = true) (hoff : v.toInt.natAbs ≤ s.fld F.NTM_SRV_CFG_STEP_NS k * 65536) :
    exec (.srvFeedWrite src k v) s = .next (((((s.count .NTM_SRV_SAMPLES k 1).setReg .NTM_SRV_OFFSET k
      (BitVec.ofNat 64 (unsignedOf 32 (clampSigned 32 (v.toInt * 1000 / 65536))))).drawRk k).enterSrv k srvAcquire).answer .OK) := by
  have hexec : exec (.srvFeedWrite src k v) s = .next (s.writeFeed src k v) := rfl
  have hf := Frame.refl .none s |>.count (r := .NTM_SRV_SAMPLES) (i := k) (n := 1) |>.set (r := .NTM_SRV_OFFSET) (i := k)
    (v := BitVec.ofNat 64 (unsignedOf 32 (clampSigned 32 (v.toInt * 1000 / 65536))))
  rw [hexec, State.writeFeed, State.guarded_of_open s ho, if_pos hm, State.srvSample]
  dsimp only
  rw [if_neg (by rw [hw, he]; decide), if_neg (by rw [State.tbRunning, hf.flag (by decide)]; simpa [State.tbRunning] using hr), if_pos (.inl hw)]
  have hbig : ∀ u : State, u.fld F.NTM_SRV_CFG_STEP_NS k = s.fld F.NTM_SRV_CFG_STEP_NS k → u.srvStep k v.toInt = u := fun u hu => by
    rw [State.srvStep, hu, decide_eq_false (by omega)]
    rfl
  rw [hbig _ (hf.fld (by decide) k)]

theorem exec_servoSamplesStop_running {k : Fin 4} (h : s.srvState k = srvWait ∨ s.srvState k = srvAcquire ∨ s.srvState k = srvLocked) :
    exec (.servoSamplesStop k) s = .next (((s.holdRk k).enterSrv k srvHoldover).event Irq.NTM_HOLDOVER k 0) :=
  congrArg Host.Outcome.next (if_pos h)

theorem State.rk_congr {t : State} {k : Nat} (h : t.reg .LST_TB_STAT k = s.reg .LST_TB_STAT k) : t.rk k = s.rk k := by
  simp only [State.rk, State.signedFld, State.fld, h]

variable (s) in
theorem State.holdRk_rk {k : Nat} (h : s.flag F.NTM_SRV_STAT_SELECTED k = true) : (s.holdRk k).rk k = 0 := by
  rw [State.holdRk, if_pos h]
  exact s.rk_setRk (by decide) (by decide) k

theorem State.samplesStop_state {k : Nat} (h : s.srvState k = srvWait ∨ s.srvState k = srvAcquire ∨ s.srvState k = srvLocked) :
    (s.samplesStop k).srvState k = srvHoldover := by
  rw [State.samplesStop, if_pos h]
  exact (State.event_fld _ _ _ _ (by decide) k).trans (State.enterSrv_state _ (by decide) k)

/-! ### Writes of NTM_TB_ADJ, NTM_TB_CFG and NTM_PORT_CFG -/

theorem exec_tbSet_stopped {src : Requester} {k : Fin 4} (ho : s.closedTo .NTM_TB_ADJ src = false) (hm : s.fld F.NTM_TB_CFG_MODE k = 0)
    (hn : (low32 (s.reg .NTM_TB_ADJ_NS k)).toNat ≤ 999999999) (hs : (s.reg .NTM_TB_ADJ_SEC k).toNat < 2 ^ 48)
    (hr : s.tbRunning k = false) : exec (.tbSet src k) s = .next ((s.startTb k
      (((s.reg .NTM_TB_ADJ_SEC k).toNat * 1000000000 + (low32 (s.reg .NTM_TB_ADJ_NS k)).toNat) * 65536)).answer .OK) := by
  have hexec : exec (.tbSet src k) s = .next (s.writeTbAdj src k 1) := rfl
  have hk : F.NTM_TB_ADJ_KIND.of 1 = 1 := by decide
  rw [hexec, State.writeTbAdj, State.guarded_of_open s ho]
  dsimp only
  rw [hk, if_neg (by decide), if_neg (by omega), if_neg (by simp [hm]), if_pos rfl, if_neg (by simp [hr])]

variable (s) in
theorem State.startTb_shows (k : Nat) (t : FineTime) : (s.startTb k t).tbNow k = t ∧ (s.startTb k t).tbRunning k = true := by
  rw [State.startTb, State.setFlag_tbNow, State.setTb_tbNow, State.tbRunning, State.flag_setFlag_same _ _ _ _ (by decide) rfl]
  exact ⟨rfl, rfl⟩

theorem exec_tbStep_open {src : Requester} {k : Fin 4} (ho : s.closedTo .NTM_TB_ADJ src = false) (hm : s.fld F.NTM_TB_CFG_MODE k = 0) :
    exec (.tbStep src k) s = .next (if !s.tbRunning k then s.answer .NOT_READY
      else (s.stepBy k (signedOf 32 (low32 (s.reg .NTM_TB_ADJ_NS k)).toNat)).answer .OK) := by
  have hexec : exec (.tbStep src k) s = .next (s.writeTbAdj src k 2) := rfl
  have hk : F.NTM_TB_ADJ_KIND.of 2 = 2 := by decide
  rw [hexec, State.writeTbAdj, State.guarded_of_open s ho]
  dsimp only
  rw [hk, if_neg (by decide), if_neg (by simp), if_neg (by simp [hm]), if_neg (by decide)]
  rfl

theorem exec_tbModeWrite_feed {src : Requester} {k : Fin 4} {w : Word32} (ho : s.closedTo .NTM_TB_CFG src = false)
    (hm : F.NTM_TB_CFG_MODE.of (w.setWidth 64) = 2) (hu : F.NTM_TB_CFG_ALIGN_US.of (w.setWidth 64) ≠ 0)
    (ha : F.NTM_TB_CFG_ALIGN.on (w.setWidth 64) = false) (hw : s.fld F.NTM_TB_CFG_MODE k ≠ 2) : ∃ u, Frame ⟨[.resp, .ntm],
      [.NTM_TB_CFG]⟩ s u ∧ u.reg .NTM_TB_CFG k = s.stored .NTM_TB_CFG k (w.setWidth 64) ∧ (u.servo k).locked = false ∧
      (u.servo k).ramp = false ∧ exec (.tbModeWrite src k w) s = .next (u.enterSrv k srvWait) := by
  have hexec : exec (.tbModeWrite src k w) s = .next (s.writeTbCfg src k (w.setWidth 64)) := rfl
  rw [hexec, State.writeTbCfg, State.guarded_of_open s ho]
  dsimp only
  rw [hm, if_neg (by simp [hu, ha]), if_neg fun h => absurd h.1 (by decide), if_neg (by decide), if_neg (Ne.symm hw)]
  refine ⟨_, ?_, ?_, ?_, ?_, rfl⟩
  · exact .le (by decide) (Frame.refl .none s).store.setServo.setServo
  · exact s.reg_store_same _ _ _
  · rw [State.setServo_servo, State.setServo_servo]
  · rw [State.setServo_servo]

theorem exec_tbModeWrite_badArg {src : Requester} {k : Fin 4} {w : Word32} (ho : s.closedTo .NTM_TB_CFG src = false)
    (hm : F.NTM_TB_CFG_MODE.of (w.setWidth 64) = 3) : exec (.tbModeWrite src k w) s = .next (s.answer .BAD_ARG) := by
  have hexec : exec (.tbModeWrite src k w) s = .next (s.writeTbCfg src k (w.setWidth 64)) := rfl
  rw [hexec, State.writeTbCfg, State.guarded_of_open s ho]
  exact congrArg Host.Outcome.next (if_pos (.inl hm))

theorem exec_ptpPortStateWrite (src : Requester) (k : Fin 4) (p : Fin 32) (w : Word32) :
    exec (.ptpPortStateWrite src k p w) s = .next (s.writePtpPort src (32 * k + p) (w.setWidth 64)) := rfl

/-- A state that the port may take is stored; a port that leaves SLAVE may stop its servo's samples (R460). -/
theorem State.writePtpPort_stores {src : Requester} {k : Fin 4} {p : Fin 32} {v : Word} (ho : s.closedTo .NTM_PORT_CFG src = false)
    (hst : F.NTM_PORT_CFG_STATE.of v ≤ 4) (he : s.flag F.NPT_PORT_STAT_EXISTS p = true)
    (hb : s.badPtpState k p (F.NTM_PORT_CFG_STATE.of v) = false) :
    (s.writePtpPort src (32 * k + p) v).reg .NTM_PORT_CFG (32 * k + p) = s.stored .NTM_PORT_CFG (32 * k + p) v := by
  have hp : (32 * k.val + p.val) % 32 = p := by omega
  have hk : (32 * k.val + p.val) / 32 = k := by omega
  rw [State.writePtpPort, State.guarded_of_open s ho]
  dsimp only
  rw [hp, hk, if_neg (by simp [he]; omega), if_neg (by simp [hb]), State.reg_ite,
    (Frame.refl .none _).samplesStop.regs _ _ (by decide), ite_self, State.reg_store_same]

theorem State.writePtpPort_badArg {src : Requester} {k : Fin 4} {p : Fin 32} {v : Word} (ho : s.closedTo .NTM_PORT_CFG src = false)
    (h : 4 < F.NTM_PORT_CFG_STATE.of v ∨ s.flag F.NPT_PORT_STAT_EXISTS p = false) :
    s.writePtpPort src (32 * k + p) v = s.answer .BAD_ARG := by
  have hp : (32 * k.val + p.val) % 32 = p := by omega
  rw [State.writePtpPort, State.guarded_of_open s ho]
  dsimp only
  rw [hp, if_pos (by simpa using h)]
  rfl

/-! ### PTP messages sent (R447, R454, R455) -/

variable (s) in
theorem State.ptpSend_shows (k p : Nat) (kind : PtpKind) : (s.ptpSend k p kind).netPort p = { s.netPort p with ptpq :=
      (s.netPort p).ptpq ++ [⟨k, kind, none, s.flag F.NTM_INST_CFG_ONE_STEP k && (kind == .sync || kind == .pdelayResp)⟩] } ∧
    (s.ptpSend k p kind).reg .NTM_PORT_TXMSG (32 * k + p) = s.counted .NTM_PORT_TXMSG (32 * k + p) 1 :=
  ⟨State.setNetPort_netPort _ _ _, State.reg_count_counted _ _ _ _⟩

variable (s) in
theorem State.ptpRequest_shows (k p : Nat) (kind : PtpKind) (tx : FineTime) :
    (s.ptpRequest k p kind tx).netPort p = (s.ptpSend k p kind).netPort p ∧
    (s.ptpRequest k p kind tx).ptpPort k p = { s.ptpPort k p with
      req := some ((s.ptpPort k p).sent % 65536, ((tx : Int) + s.delayOf .NTM_PHY_TXLAT p).toNat), sent := (s.ptpPort k p).sent + 1 } :=
  ⟨rfl, Tbl.get_set_same _ _ _ _⟩

theorem exec_ptpAnnounceSend_master {k : Fin 4} {p : Fin 32} (ho : s.instOn k = true) (hp : s.ptpState k p = 2) :
    exec (.ptpAnnounceSend k p) s = .next (s.ptpSend k p .announce) :=
  congrArg Host.Outcome.next (if_pos (by simp [ho, hp]))

theorem exec_ptpSyncSend_master {k : Fin 4} {p : Fin 32} (ho : s.instOn k = true) (hp : s.ptpState k p = 2) :
    exec (.ptpSyncSend k p) s = .next (if s.flag F.NTM_INST_CFG_ONE_STEP k then s.ptpSend k p .sync
      else (s.ptpSend k p .sync).ptpSend k p .followUp) := by
  have hstep : (s.ptpSend k p .sync).flag F.NTM_INST_CFG_ONE_STEP k = s.flag F.NTM_INST_CFG_ONE_STEP k :=
    (Frame.refl .none s).ptpSend.flag (by decide) k
  rw [← hstep]
  exact congrArg Host.Outcome.next (if_pos (by simp [ho, hp]))

theorem exec_ptpDelayReqSend_slave {k : Fin 4} {p : Fin 32} (tx : FineTime) (ho : s.instOn k = true) (hp : s.ptpState k p = 4)
    (hd : s.flag F.NTM_INST_CFG_P2P k = false) : exec (.ptpDelayReqSend k p tx) s = .next (s.ptpRequest k p .delayReq tx) :=
  congrArg Host.Outcome.next (if_pos (by simp [ho, hp, hd]))

theorem exec_ptpPdelayReqSend_used {k : Fin 4} {p : Fin 32} (tx : FineTime) (ho : s.instOn k = true) (hp : s.ptpState k p ≠ 0)
    (hd : s.flag F.NTM_INST_CFG_P2P k = true) : exec (.ptpPdelayReqSend k p tx) s = .next (s.ptpRequest k p .pdelayReq tx) :=
  congrArg Host.Outcome.next (if_pos (by simp [ho, hp, hd]))

/-! ### What a port receives, and edges (R449, R450, R462) -/

/-- A slave port's Announce timeout is told, and stops the samples in MODE PTP. -/
theorem exec_announceTimeout_slave {k : Fin 4} {p : Fin 32} (ho : s.instOn k = true) (hp : s.ptpState k p = 4) : ∃ u,
    Frame ⟨[.host, .sent], [.NTM_PORT_STAT, .GLB_INT_SUM, .NTM_INT_STAT]⟩ s u ∧ u.flag F.NTM_PORT_STAT_ANN_TIMEOUT (32 * k + p) = true ∧
      exec (.announceTimeout k p) s = .next (if s.fld F.NTM_TB_CFG_MODE k = 1 then u.samplesStop k else u) := by
  have hf := Frame.refl .none s |>.setFlag (r := .NTM_PORT_STAT) (lo := 31) (w := 1) (i := 32 * k + p) (b := true) |>.irq
    (c := Irq.NTM_ANN_TIMEOUT)
  refine ⟨_, .le (by decide) hf, ?_, ?_⟩
  · rw [State.irq_flag _ _ (by decide)]
    exact s.flag_setFlag_same _ _ _ (by decide) rfl
  · rw [← hf.fld (g := F.NTM_TB_CFG_MODE) (by decide) k]
    exact congrArg Host.Outcome.next (if_pos (by simp [ho, hp]))

/-- A Sync message of another clock than the parent is counted, and no more (R449). -/
theorem State.ptpConsume_unused {k p : Nat} {m : PtpMsg} (hst : s.ptpState k p = 4) (hm : m.kind = .sync)
    (hp : s.fromParent k p m = false) : s.ptpConsume k p m = s.count .NTM_PORT_RXMSG (32 * k + p) 1 := by
  rw [State.ptpConsume]
  dsimp only
  rw [hm, hst, hp]
  rfl

theorem exec_ptpMessageReceive_unused {p : Fin 32} {m : PtpMsg} {f : RxFrame} {k : Nat} (hl : s.linkUp p = true)
    (hs : s.portState p ≠ portWakeOnly) (h0 : f.fcsOk = true) (h1 : 64 ≤ f.len) (h2 : f.len ≤ s.fld F.NPT_PORT_CFG_MTU p)
    (h3 : f.vlan = none) (h4 : f.dest ≠ .other) (h5 : f.badSum = false) (hi : s.ptpInst p m = some k)
    (hrole : s.fld F.NTM_INST_CFG_ROLE k < 2) (hst : s.ptpState k p = 4) (hm : m.kind = .sync) (hp : s.fromParent k p m = false) :
    exec (.ptpMessageReceive p m f) s = .next ((s.frameCounted p f.len).count .NTM_PORT_RXMSG (32 * k + p) 1) := by
  have hreg : ∀ {r : Reg}, r ≠ .NPT_RX_FRAMES → r ≠ .NPT_RX_BYTES → ∀ i, (s.frameCounted p f.len).reg r i = s.reg r i :=
    fun hf hb i => s.frameCounted_reg hf hb p f.len i
  have hi' : (s.frameCounted p f.len).ptpInst p m = some k := by
    rw [← hi]
    unfold State.ptpInst State.instOn State.ptpState State.flag State.fld
    simp only [hreg (r := .NTM_INST_CFG) (by decide) (by decide), hreg (r := .NTM_CTRL) (by decide) (by decide),
      hreg (r := .NTM_PORT_CFG) (by decide) (by decide)]
  have hp' : (s.frameCounted p f.len).fromParent k p m = false := by
    rw [State.fromParent, hreg (by decide) (by decide), State.frameCounted_fld _ (by decide) (by decide)]
    exact hp
  have hst' : (s.frameCounted p f.len).ptpState k p = 4 := (State.frameCounted_fld _ (by decide) (by decide) _ _ _).trans hst
  have hrole' : ¬ 2 ≤ (s.frameCounted p f.len).fld F.NTM_INST_CFG_ROLE k := by
    rw [State.frameCounted_fld _ (by decide) (by decide)]
    omega
  have hexec : exec (.ptpMessageReceive p m f) s = execPtpMessageReceive p m f s := rfl
  rw [hexec, execPtpMessageReceive, if_neg (by simp [hl, hs]), s.macIn_passes _ h0 h1 h2 h3 h4 h5]
  simp only [hi', if_neg hrole', hm, PtpKind.consumed, if_true]
  rw [State.ptpConsume_unused hst' hm hp']

variable (s) in
/-- The offset of a time base from the nearest second, in ns. -/
def State.secondOff (k : Nat) : Int :=
  nearest (s.tbNow k) (s.tbNow k / fineSecond * fineSecond) ((s.tbNow k / fineSecond + 1) * fineSecond)

variable (s) in
/-- The state after an edge that is near enough. -/
def State.edgeNear (k : Nat) : State :=
  ((s.setReg .NTM_TB_ALIGN_OFF k (BitVec.ofNat 64 (unsignedOf 32 (clampSigned 32 (s.secondOff k))))).setServo k
    { s.servo k with edges := 0 }).setFlag F.NTM_TB_STAT_ALIGN_ERR k false

theorem exec_alignEdge_near {k : Fin 4} (ha : s.flag F.NTM_TB_CFG_ALIGN k = true) (hr : s.tbRunning k = true)
    (hsrc : s.fld F.NTM_TB_CFG_ALIGN_SRC k < 4) (hnear : (s.secondOff k).natAbs ≤ s.fld F.NTM_TB_CFG_ALIGN_US k * 1000) :
    exec (.alignEdge k) s = .next (s.edgeNear k) := by
  have hexec : exec (.alignEdge k) s = execAlignEdge k s := rfl
  have hus : ∀ v, (s.setReg .NTM_TB_ALIGN_OFF k v).fld F.NTM_TB_CFG_ALIGN_US k = s.fld F.NTM_TB_CFG_ALIGN_US k :=
    fun v => s.fld_setReg_ne (by decide) _ _ _
  have hoff : nearest (s.tbNow k) (s.tbNow k / fineSecond * fineSecond) ((s.tbNow k / fineSecond + 1) * fineSecond) = s.secondOff k := by
    rw [State.secondOff]
  rw [hexec, execAlignEdge, if_neg (by simp [ha, hr])]
  dsimp only
  rw [if_pos hsrc, hoff, hus, if_pos hnear, State.edgeNear, State.setReg_servo]

variable (s) in
theorem State.edgeNear_shows (k : Nat) : (s.edgeNear k).flag F.NTM_TB_STAT_ALIGN_ERR k = false ∧ ((s.edgeNear k).servo k).edges = 0 ∧
    (s.edgeNear k).reg .NTM_TB_ALIGN_OFF k = BitVec.ofNat 64 (unsignedOf 32 (clampSigned 32 (s.secondOff k))) ∧
    (s.edgeNear k).tb = s.tb := by
  have hlt := unsignedOf_lt 32 (clampSigned 32 (s.secondOff k))
  refine ⟨State.flag_setFlag_same _ _ _ _ (by decide) rfl, ?_, ?_, ?_⟩
  · rw [State.edgeNear, State.setFlag_servo, State.setServo_servo]
  · rw [State.edgeNear, State.reg_setFlag_ne _ (by decide), State.setServo_reg, State.reg_setReg_same]
    refine BitVec.eq_of_toNat_eq ((Reg.fit_toNat rfl _).trans ?_)
    rw [BitVec.toNat_ofNat]
    omega
  · rw [State.edgeNear, State.setFlag_tb, State.setServo_tb, State.setReg_tb]

end Sys2Proof.Machine

end

section
open Sys2Proof Sys2Proof.Machine

/-- Settles O42, clause by clause: time bases set, stepped and moded, samples and their stop, port states, messages sent, an Announce
timeout, a Sync message that is unused, and an edge within ALIGN_US. -/
theorem timeBasesServosAndPtp : Obligations.TimeBasesServosAndPtp := by
  unfold Obligations.TimeBasesServosAndPtp
  refine ⟨?set, ?step, ?notReady, ?mode, ?badMode, ?feed, ?stop, ?port, ?badPort, ?announce, ?oneStep, ?twoStep, ?delayReq, ?pdelayReq,
    ?timeout, ?unused, ?edge⟩
  case set =>
    intro src k s ho hm hn hs hr
    rw [exec_tbSet_stopped ho hm hn hs hr]
    obtain ⟨hnow, hrun⟩ := s.startTb_shows k (((s.reg .NTM_TB_ADJ_SEC k).toNat * 1000000000 +
      (low32 (s.reg .NTM_TB_ADJ_NS k)).toNat) * 65536)
    exact .next ⟨(State.answer_tbNow _ _ _).trans hnow, (State.answer_flag _ _ _ _).trans hrun, rfl, (Frame.refl .none s).startTb.answer.regs _ _ (by decide)⟩
  case step =>
    intro src k s ho hm hr
    obtain ⟨hnow, hrun, hcnt⟩ := s.stepTb_shows k ((s.tbNow k : Int) + signedOf 32 (low32 (s.reg .NTM_TB_ADJ_NS k)).toNat * 65536).toNat
    rw [exec_tbStep_open ho hm, if_neg (by simp [hr])]
    exact .next ⟨(State.answer_tbNow _ _ _).trans hnow, (State.answer_flag _ _ _ _).trans (hrun.trans hr),
      (State.answer_reg _ _ _ _).trans hcnt, rfl⟩
  case notReady =>
    intro src k s ho hm hr
    rw [exec_tbStep_open ho hm, if_pos (by simp [hr])]
    exact .next rfl
  case mode =>
    intro src k w s ho hm hu ha hw
    obtain ⟨u, -, hreg, hlocked, hramp, hexec⟩ := exec_tbModeWrite_feed ho hm hu ha hw
    rw [hexec]
    refine .next ⟨((Frame.refl .none u).enterSrv.regs _ _ (by decide)).trans hreg, u.enterSrv_state (by decide) k, ?_, ?_⟩
    · rw [State.enterSrv_servo]
      exact hlocked
    · rw [State.enterSrv_servo]
      exact hramp
  case badMode =>
    intro src k w s ho hm
    rw [exec_tbModeWrite_badArg ho hm]
    exact .next rfl
  case feed =>
    intro src k v s ho hm hw he hr hoff
    rw [exec_srvFeedWrite_waits ho hm hw he hr hoff]
    have hf := (Frame.refl .none ((s.count .NTM_SRV_SAMPLES k 1).setReg .NTM_SRV_OFFSET k
      (BitVec.ofNat 64 (unsignedOf 32 (clampSigned 32 (v.toInt * 1000 / 65536)))))).drawRk (k := k)
    refine .next ⟨State.enterSrv_state _ (by decide) k, ?_, ?_, ?_, rfl⟩
    · exact (hf.enterSrv.answer.regs _ _ (by decide)).trans ((State.reg_setReg_other _ (by decide) _ _ _).trans
        (s.reg_count_counted _ _ _))
    · exact (State.rk_congr ((Frame.refl .none _).enterSrv.answer.regs _ _ (by decide))).trans (State.drawRk_rk _ k)
    · exact congrArg (Tbl.get (fun _ => 0) · k.val) (hf.enterSrv.answer.parts .tb (by decide))
  case stop =>
    intro k s h
    rw [exec_servoSamplesStop_running h]
    refine .next ⟨?_, fun hsel => ?_, ?_⟩
    · exact (State.event_fld _ _ _ _ (by decide) k).trans (State.enterSrv_state _ (by decide) k)
    · exact (State.rk_congr ((Frame.refl .none _).enterSrv.event.regs _ _ (by decide))).trans (s.holdRk_rk hsel)
    · exact (State.event_flag _ _ _ _ (by decide) _).trans (State.enterSrv_refValid _ (by decide) k)
  case port =>
    intro src k p w s ho hst he hb
    rw [exec_ptpPortStateWrite]
    exact .next (State.writePtpPort_stores ho hst he hb)
  case badPort =>
    intro src k p w s ho h
    rw [exec_ptpPortStateWrite]
    exact .next (State.writePtpPort_badArg ho h)
  case announce =>
    intro k p s ho hp
    obtain ⟨hport, hcnt⟩ := s.ptpSend_shows k p .announce
    rw [exec_ptpAnnounceSend_master ho hp]
    refine .next ⟨?_, hcnt⟩
    rw [hport]
    simp
  case oneStep =>
    intro k p s ho hp h1
    obtain ⟨hport, hcnt⟩ := s.ptpSend_shows k p .sync
    rw [exec_ptpSyncSend_master ho hp, if_pos h1]
    refine .next ⟨?_, hcnt⟩
    rw [hport, h1]
    rfl
  case twoStep =>
    intro k p s ho hp h1
    rw [exec_ptpSyncSend_master ho hp, if_neg (by simp [h1])]
    refine .next ?_
    rw [(State.ptpSend_shows _ _ _ _).1, (s.ptpSend_shows k p .sync).1, (Frame.refl .none s).ptpSend.flag (by decide), h1]
    simp
  case delayReq =>
    intro k p tx s ho hp hd
    obtain ⟨hnet, hport⟩ := s.ptpRequest_shows k p .delayReq tx
    rw [exec_ptpDelayReqSend_slave tx ho hp hd]
    refine .next ⟨?_, ?_, ?_⟩
    · rw [hnet, (s.ptpSend_shows k p .delayReq).1]
      simp
    · rw [hport]
    · rw [hport]
  case pdelayReq =>
    intro k p tx s ho hp hd
    obtain ⟨hnet, hport⟩ := s.ptpRequest_shows k p .pdelayReq tx
    rw [exec_ptpPdelayReqSend_used tx ho hp hd]
    refine .next ⟨?_, ?_⟩
    · rw [hnet, (s.ptpSend_shows k p .pdelayReq).1]
      simp
    · rw [hport]
  case timeout =>
    intro k p s ho hp
    obtain ⟨u, hu, hflag, hexec⟩ := exec_announceTimeout_slave ho hp
    rw [hexec]
    split
    next hm =>
      refine .next ⟨((Frame.refl .none u).samplesStop.flag (by decide) _).trans hflag, fun _ hl => State.samplesStop_state ?_⟩
      exact .inr (.inr ((hu.fld (by decide) _).trans hl))
    next hm => exact .next ⟨hflag, fun h => absurd h hm⟩
  case unused =>
    intro p m f k s hl hs h0 h1 h2 h3 h4 h5 hi hrole hst hm hp
    rw [exec_ptpMessageReceive_unused hl hs h0 h1 h2 h3 h4 h5 hi hrole hst hm hp]
    refine .next ⟨?_, rfl, ?_⟩
    · rw [State.reg_count_counted]
      exact State.counted_congr (s.frameCounted_reg (by decide) (by decide) _ _ _) 1
    · exact (State.reg_count_ne _ (by decide) _ _ _).trans (s.frameCounted_frames _ _)
  case edge =>
    intro k s ha hr hsrc hnear
    rw [exec_alignEdge_near ha hr hsrc hnear]
    exact .next (s.edgeNear_shows k)

end

section
/-! SUPPORT of O43: triggers disarmed, fired and killed, captures, and the block's disable. -/

namespace Sys2Proof.Machine

variable (s : State)

/-! ### Triggers disarmed and fired (R463 to R465, R467) -/

/-- A block that drains stops, and does nothing else, once every trigger is IDLE. -/
theorem State.ntmIdle_keeps : Frame ⟨[], [.NTM_STATUS]⟩ s s.ntmIdle := State.ntmIdle_frame (.refl _ s) (.refl _)

theorem State.ntmIdle_run : s.ntmIdle.flag F.NTM_STATUS_RUN 0 = s.flag F.NTM_STATUS_RUN 0 := by
  unfold State.ntmIdle
  split
  · exact s.flag_setFlag_apart (by decide) _ _ _
  · rfl

/-- The state that a trigger takes when it is disarmed. -/
def State.disarmedState (s : State) (t : Nat) : Nat := if (s.trg t).pulse then trgDraining else trgIdle

theorem State.disarmedState_lt (t : Nat) : s.disarmedState t < 4 := by
  unfold State.disarmedState
  split <;> decide

theorem State.disarm_disarmed (t : Nat) : Frame ⟨[], [.NTM_STATUS]⟩
    ((s.setFlag F.NTM_TRG_CFG_ARM t false).setFld F.NTM_TRG_STAT_STATE t (s.disarmedState t)) (s.disarm t) :=
  State.ntmIdle_keeps _

theorem State.disarm_shows (t : Nat) :
    (s.disarm t).trgState t = s.disarmedState t ∧ (s.disarm t).flag F.NTM_TRG_CFG_ARM t = false ∧ (s.disarm t).ntm = s.ntm := by
  have hf := s.disarm_disarmed t
  refine ⟨(hf.fld (by decide) t).trans (State.fld_setFld_fits _ (by decide) (s.disarmedState_lt t) t), ?_, hf.parts .ntm (by decide)⟩
  exact (hf.flag (by decide) t).trans ((State.flag_setFld_apart _ (by decide) _ _ _).trans (s.flag_setFlag_same _ _ _ (by decide) rfl))

theorem State.disarm_trgState_ne {t u : Nat} (h : u ≠ t) : (s.disarm t).trgState u = s.trgState u :=
  ((s.disarm_disarmed t).fld (by decide) u).trans ((State.fld_setFld_other _ _ (.inr h)).trans (s.fld_setFlag_apart (by decide) _ _ _))

theorem State.disarm_run (t : Nat) : (s.disarm t).flag F.NTM_STATUS_RUN 0 = s.flag F.NTM_STATUS_RUN 0 :=
  (State.ntmIdle_run _).trans ((State.flag_setFld_apart _ (by decide) _ _ _).trans (s.flag_setFlag_apart (by decide) _ _ _))

/-- A firing leaves the trigger's own registers alone. -/
theorem State.trgFire_keeps (t : Nat) : Frame trgFireFoot s (s.trgFire t) := (Frame.refl .none s).trgFire.le (by decide)

/-- A firing drives its GPIO as ACTION says, and changes nothing else of network time's record. -/
theorem State.trgFire_ntm (t : Nat) {b : Bool} (h : s.fld F.NTM_TRG_CFG_ACTION t = 1 ∧ b = true ∨
      s.fld F.NTM_TRG_CFG_ACTION t = 3 ∧ b = !s.gpioLevel (s.fld F.NTM_TRG_CFG_GPIO t)) :
    (s.trgFire t).ntm = (s.setGpio (s.fld F.NTM_TRG_CFG_GPIO t) b).ntm := by
  have htold : ∀ u : State, (if (u.setFld ⟨.NTM_TRG_SRC, t, 1⟩ 0 1).flag F.NTM_TRG_CFG_IRQ t then
      (u.setFld ⟨.NTM_TRG_SRC, t, 1⟩ 0 1).irq Irq.NTM_TRG_FIRE else u.setFld ⟨.NTM_TRG_SRC, t, 1⟩ 0 1).ntm = u.ntm := fun u =>
    (Frame.branch (Frame.refl .none u).setFld.irq (Frame.refl .none u).setFld).parts .ntm (by decide)
  unfold State.trgFire
  rcases h with ⟨h, rfl⟩ | ⟨h, rfl⟩
  · rw [h]
    exact htold _
  · rw [h]
    exact htold _

theorem State.gpioLevel_setGpio (g : Nat) (b : Bool) : (s.setGpio g b).gpioLevel g = b := Tbl.get_set_same _ _ _ _

variable {s}

theorem exec_triggerFire_armed {t : Fin 64} (h : s.trgState t = trgArmed) : exec (.triggerFire t) s = .next ((s.trgFire t).trgPass t 1) :=
  congrArg Host.Outcome.next (if_pos h)

variable (s) in
/-- The state with n more instants passed. -/
def State.trgMoved (t n : Nat) : State := s.setTrg t { s.trg t with next := (s.trg t).next + n }

theorem State.trgPass_once {t n : Nat} (h : s.fld F.NTM_TRG_PNUM_PNUM t = 0) : s.trgPass t n = (s.trgMoved t n).disarm t :=
  if_pos h

theorem State.trgPass_endless {t n : Nat} (h : s.fld F.NTM_TRG_PNUM_PNUM t ≠ 0) (hc : s.fld F.NTM_TRG_CFG_COUNT t = 0) :
    s.trgPass t n = s.trgMoved t n :=
  (if_neg h).trans (if_pos hc)

theorem State.trg_congr {t : State} (h : t.ntm = s.ntm) (u : Nat) : t.trg u = s.trg u := congrArg (fun n : Ntm => Tbl.get _ n.trgs u) h

theorem State.gpioLevel_congr {t : State} (h : t.ntm = s.ntm) (g : Nat) : t.gpioLevel g = s.gpioLevel g :=
  congrArg (fun n : Ntm => Tbl.get _ n.gpio g) h

/-! ### Pulses -/

variable (s) in
/-- The state after a trigger's pulse has ended. -/
def State.pulseEnded (t : Nat) : State :=
  (s.setGpio (s.fld F.NTM_TRG_CFG_GPIO t) (s.flag F.NTM_TRG_CFG_POL t)).setTrg t { s.trg t with pulse := false }

variable (s) in
theorem State.pulseEnded_shows (t : Nat) : ((s.pulseEnded t).trg t).pulse = false ∧
    (s.pulseEnded t).gpioLevel (s.fld F.NTM_TRG_CFG_GPIO t) = s.flag F.NTM_TRG_CFG_POL t :=
  ⟨congrArg Trg.pulse (State.setTrg_trg _ _ _), s.gpioLevel_setGpio _ _⟩

theorem exec_triggerPulseEnd_pulse {t : Fin 64} (h : (s.trg t).pulse = true) : exec (.triggerPulseEnd t) s =
    .next (if s.trgState t = trgDraining then ((s.pulseEnded t).setFld F.NTM_TRG_STAT_STATE t trgIdle).ntmIdle else s.pulseEnded t) :=
  congrArg Host.Outcome.next (if_pos h)

variable (s) in
theorem State.trgKill_shows (t : Nat) : (s.trgKill t).trgState t = trgIdle ∧ ((s.trgKill t).trg t).pulse = false ∧
    ((s.trg t).pulse = true → (s.trgKill t).gpioLevel (s.fld F.NTM_TRG_CFG_GPIO t) = s.flag F.NTM_TRG_CFG_POL t) := by
  unfold State.trgKill
  extract_lets u
  have htrg : (u.setTrg t { u.trg t with pulse := false }).trg t = { u.trg t with pulse := false } := State.setTrg_trg _ _ _
  obtain ⟨hst, -, hntm⟩ := (u.setTrg t { u.trg t with pulse := false }).disarm_shows t
  refine ⟨?_, ?_, fun hp => ?_⟩
  · rw [hst, State.disarmedState, htrg]
    rfl
  · rw [State.trg_congr hntm, htrg]
  · rw [State.gpioLevel_congr hntm]
    exact (congrArg (State.gpioLevel · _) (if_pos hp : u = _)).trans (s.gpioLevel_setGpio _ _)

/-! ### Writes of NTM_TRG_CFG -/

/-- A word that keeps LATE and ACTION in range, written to an active trigger with ARM 0, drains it, or kills it with KILL. -/
theorem State.writeTrg_stops {src : Requester} {t : Nat} {v : Word} (ho : s.closedTo .NTM_TRG_CFG src = false)
    (hl : F.NTM_TRG_CFG_LATE.of v ≠ 3) (ha : F.NTM_TRG_CFG_ACTION.of v ≤ 4) (harm : F.NTM_TRG_CFG_ARM.on v = false)
    (hs : s.trgState t ≠ trgIdle) : s.writeTrg src t v =
      if F.NTM_TRG_CFG_KILL.on v then (s.trgKill t).answer .OK else (s.disarm t).answer .OK := by
  rw [State.writeTrg, State.guarded_of_open s ho]
  dsimp only
  rw [if_neg (by omega), if_pos hs, harm]
  simp

variable (s) in
/-- The state after a trigger is armed ahead of its time. -/
def State.armedAhead (t : Nat) (v : Word) : State :=
  ((((s.store .NTM_TRG_CFG t v).setTrg t ⟨0, false⟩).setFld F.NTM_TRG_STAT_STATE t trgArmed).setFld F.NTM_TRG_STAT_LEFT t
    (F.NTM_TRG_CFG_COUNT.of v)).setFlag F.NTM_TRG_STAT_LATE_LAST t false

/-- A series whose first instant lies ahead has missed none. -/
theorem State.trgMissed_none {t : Nat} {upTo : FineTime} (h0 : (s.trg t).next = 0) (h : upTo < (s.reg .NTM_TRG_T t).toNat * 65536) :
    s.trgMissed t upTo = 0 := by
  unfold State.trgMissed
  rw [h0]
  refine if_pos ?_
  rw [State.trgInstant, Nat.zero_mul, Nat.zero_mul, Nat.zero_div, Nat.add_zero]
  exact h

theorem State.writeTrg_arms {src : Requester} {t : Nat} {v : Word} (ho : s.closedTo .NTM_TRG_CFG src = false)
    (hl : F.NTM_TRG_CFG_LATE.of v ≠ 3) (ha : F.NTM_TRG_CFG_ACTION.of v ≤ 4) (harm : F.NTM_TRG_CFG_ARM.on v = true)
    (hs : s.trgState t = trgIdle) (he : s.flag F.NTM_CTRL_EN 0 = true) (hr : s.tbRunning (F.NTM_TRG_CFG_TB.of v) = true)
    (hg : s.gpioDriven t (F.NTM_TRG_CFG_GPIO.of v) = false)
    (ht : s.tbNow (F.NTM_TRG_CFG_TB.of v) + 100 * 65536 < (s.reg .NTM_TRG_T t).toNat * 65536) :
    s.writeTrg src t v = s.armedAhead t v := by
  have hlate : s.trgTooLate t v = false := by
    rw [State.trgTooLate, decide_eq_false (Nat.not_le.mpr ht), Bool.and_false]
  rw [State.writeTrg, State.guarded_of_open s ho]
  dsimp only
  rw [if_neg (by omega), if_neg (by simp [hs]), harm, if_neg (by decide), if_neg (by simp [he, hr]), if_neg (by simp [hg]), hlate,
    if_neg (by decide)]
  refine (if_pos (State.trgMissed_none ?_ ?_)).trans rfl
  · rw [State.setFld_trg, State.setFld_trg, State.setTrg_trg]
  · refine lt_of_lt_of_eq ht ?_
    rw [State.reg_setFld_ne _ (by decide), State.reg_setFld_ne _ (by decide), State.setTrg_reg, State.reg_store_ne _ (by decide)]

/-! ### Captures (R468, R469) -/

theorem exec_captureEdge_enabled {c : Fin 64} (rising : Bool) (he : s.flag F.NTM_CAP_CFG_EN c = true) (hb : s.flag F.NTM_CTRL_EN 0 = true)
    (hd : s.fld F.NTM_CAP_CFG_EDGE c = 3) : exec (.captureEdge c rising) s = .next (if 16 ≤ (s.cap c).fifo.length then
      (s.count .NTM_CAP_OVF c 1).irq Irq.NTM_CAP_OVF else (s.setCap c ⟨(s.cap c).fifo ++
        [⟨s.tbNow (s.fld F.NTM_CAP_CFG_TB c), rising, (s.cap c).stepped⟩], false⟩).showCap c) := by
  refine congrArg Host.Outcome.next (if_neg ?_)
  rw [he, hb, hd]
  cases rising <;> decide

/-- What NTM_CAP_NS reads of an entry. -/
def CapEntry.nsWord (e : CapEntry) : Word :=
  BitVec.ofNat 64 ((if e.rising then 2 ^ 31 else 0) + (if e.stepped then 2 ^ 30 else 0) + e.time / 65536 % 1000000000)

theorem exec_captureRead_oldest {c : Fin 64} {e : CapEntry} {r : List CapEntry} (h : (s.cap c).fifo = e :: r) : ∃ u,
    Frame ⟨[.ntm], [.NTM_CAP_HI, .NTM_CAP_STAT]⟩ s u ∧ (u.cap c).fifo = r ∧ (u.reg .NTM_CAP_HI c).toNat =
      (e.time / fineSecond % 2 ^ 48 * 65536 + e.time % 65536) % 2 ^ 64 ∧ exec (.captureRead c) s = .next { u with rdata := e.nsWord } := by
  have hexec : exec (.captureRead c) s = .next (s.readCap c) := rfl
  generalize hhi : e.time / fineSecond % 2 ^ 48 * 65536 + e.time % 65536 = hi
  refine ⟨((s.setReg .NTM_CAP_HI c (BitVec.ofNat 64 hi)).setCap c { s.cap c with fifo := r }).showCap c,
    .le (by decide) (Frame.refl .none s).set.setCap.showCap, ?_, ?_, ?_⟩
  · rw [State.showCap, State.setFld_cap, State.setCap_cap]
  · rw [State.showCap, State.reg_setFld_ne _ (by decide), State.setCap_reg, State.reg_setReg_same, Reg.fit_wide rfl,
      BitVec.toNat_ofNat]
  · rw [hexec, State.readCap]
    simp only [h, hhi]
    rfl

/-! ### The block's disable (R471) -/

/-- The state of a servo whose samples stop. -/
def srvStopped (st : Nat) : Nat := if st = srvWait ∨ st = srvAcquire ∨ st = srvLocked then srvHoldover else st

variable (s) in
/-- Samples that stop touch their own servo's state. -/
theorem State.samplesStop_srvState (k j : Nat) : (s.samplesStop k).srvState j =
    if j = k then srvStopped (s.srvState j) else s.srvState j := by
  have hne : ∀ u : State, j ≠ k → (u.enterSrv k srvHoldover).srvState j = u.srvState j := fun u h =>
    ((u.enterSrv_entered k srvHoldover).fld (by decide) j).trans (u.fld_setFld_other _ (.inr h))
  by_cases h : j = k
  · subst h
    rw [if_pos rfl]
    by_cases hs : s.srvState j = srvWait ∨ s.srvState j = srvAcquire ∨ s.srvState j = srvLocked
    · rw [srvStopped, if_pos hs, State.samplesStop_state hs]
    · rw [srvStopped, if_neg hs, State.samplesStop, if_neg hs]
  · rw [if_neg h, State.samplesStop]
    split
    · rw [State.srvState, State.event_fld _ _ _ _ (by decide)]
      exact (hne _ h).trans ((Frame.refl .none s).holdRk.fld (by decide) j)
    · rfl

variable (s) in
theorem State.enterSrv_trg (k st u : Nat) : (s.enterSrv k st).trg u = s.trg u := by
  unfold State.enterSrv
  extract_lets x v
  split
  · rfl
  · exact State.trg_congr ((Frame.refl .none v).refLost.parts .ntm (by decide)) u

variable (s) in
theorem State.samplesStop_trg (k u : Nat) : (s.samplesStop k).trg u = s.trg u := by
  unfold State.samplesStop
  extract_lets
  split
  · exact (State.trg_congr (State.event_ntm _ _ _ _) u).trans ((State.enterSrv_trg _ _ _ _).trans
      (State.trg_congr ((Frame.refl .none s).holdRk.parts .ntm (by decide)) u))
  · rfl

/-- The state after the block stops and its servos lose their samples. -/
def State.ntmStopped (s : State) (v : Word) : State :=
  [0, 1, 2, 3].foldl (fun (s : State) k => s.samplesStop k)
    (((s.store .NTM_CTRL 0 (F.NTM_CTRL_KILL.put 0 v)).setFlag F.NTM_STATUS_RUN 0 false).setFlag F.NTM_STATUS_DRAINING 0 true)

/-- A trigger that is not IDLE is disarmed. -/
def State.disarmActive (s : State) (t : Nat) : State := if s.trgState t = trgIdle then s else s.disarm t

theorem State.writeNtmCtrl_disables {src : Requester} {v : Word} (ho : s.closedTo .NTM_CTRL src = false)
    (he : F.NTM_CTRL_EN.on v = false) (hk : F.NTM_CTRL_KILL.on v = false) :
    s.writeNtmCtrl src v = ((List.range 64).foldl State.disarmActive (s.ntmStopped v)).ntmIdle := by
  rw [State.writeNtmCtrl, State.guarded_of_open s ho]
  dsimp only
  rw [he, if_neg (by decide), hk]
  rfl

variable (s) in
theorem State.disarmActive_keeps (t : Nat) : Frame ⟨[], [.NTM_TRG_CFG, .NTM_TRG_STAT, .NTM_STATUS]⟩ s (s.disarmActive t) :=
  .le (by decide) (.branch (Frame.refl .none s) (Frame.refl .none s).disarm)

/-- What a trigger shows of its state and its pulse. -/
def State.trgCell (s : State) (t : Nat) : Nat × Bool := (s.trgState t, (s.trg t).pulse)

/-- What a trigger shows once it is disarmed. -/
def trgDisarmed (x : Nat × Bool) : Nat × Bool := (if x.1 = trgIdle then trgIdle else if x.2 then trgDraining else trgIdle, x.2)

variable (s) in
theorem State.disarmActive_trgCell (t u : Nat) :
    (s.disarmActive t).trgCell u = if u = t then trgDisarmed (s.trgCell u) else s.trgCell u := by
  have hpulse : ((s.disarmActive t).trg u).pulse = (s.trg u).pulse :=
    congrArg Trg.pulse (State.trg_congr ((s.disarmActive_keeps t).parts .ntm (by decide)) u)
  unfold State.trgCell trgDisarmed
  rw [hpulse]
  by_cases h : u = t
  · subst h
    rw [if_pos rfl, State.disarmActive]
    split
    next hi => rw [hi]
    next hi =>
      rw [(s.disarm_shows u).1]
      rfl
  · rw [if_neg h, State.disarmActive]
    split
    · rfl
    · rw [s.disarm_trgState_ne h]

/-- What the stop of the block changes of its registers and records. -/
def ntmStopFoot : Foot :=
  ⟨[.resp, .freeCtr, .sent, .host, .awl, .lst, .ntm], .GLB_INT_SUM :: .LST_VALID :: .LST_QUAL :: .LST_INT_STAT :: .LST_REF_STAT ::
    .LST_REF_LOSS :: .LST_TB_STAT :: .NTM_INT_STAT :: .NTM_SRV_STAT :: awlFoot⟩

variable (s) in
/-- What the block shows once it is disabled. -/
theorem State.ntmDisabled_shows {v : Word} (hv : F.NTM_CTRL_EN.on (F.NTM_CTRL_KILL.put 0 v) = false) :
    let t := ((List.range 64).foldl State.disarmActive (s.ntmStopped v)).ntmIdle
    t.flag F.NTM_CTRL_EN 0 = false ∧ t.flag F.NTM_STATUS_RUN 0 = false ∧
      (∀ u, u < 64 → t.trgState u = if s.trgState u = trgIdle then trgIdle else if (s.trg u).pulse then trgDraining else trgIdle) ∧
      (s.srvState 1 = srvLocked → t.srvState 1 = srvHoldover) := by
  have hfold : Frame ntmStopFoot (((s.store .NTM_CTRL 0 (F.NTM_CTRL_KILL.put 0 v)).setFlag F.NTM_STATUS_RUN 0 false).setFlag
      F.NTM_STATUS_DRAINING 0 true) (s.ntmStopped v) := .le (by decide) (.fold (.refl .none _) fun _ _ h => h.samplesStop)
  have hdis : Frame ⟨[], [.NTM_TRG_CFG, .NTM_TRG_STAT, .NTM_STATUS]⟩ (s.ntmStopped v)
      ((List.range 64).foldl State.disarmActive (s.ntmStopped v)) :=
    .le (by decide) (.fold (.refl .none _) fun u _ h => h.plus (u.disarmActive_keeps _))
  have hidle := ((List.range 64).foldl State.disarmActive (s.ntmStopped v)).ntmIdle_keeps
  refine ⟨?_, ?_, fun u hu => ?_, fun h => ?_⟩
  · refine (hidle.flag (by decide) 0).trans ((hdis.flag (by decide) 0).trans ((hfold.flag (by decide) 0).trans ?_))
    rw [State.flag_setFlag_ne _ (by decide), State.flag_setFlag_ne _ (by decide), State.flag,
      State.fld_store_same s (g := F.NTM_CTRL_EN) 0 _ (by decide) (by decide)]
    exact hv
  · refine (State.ntmIdle_run _).trans ((foldl_keeps _ (State.flag · F.NTM_STATUS_RUN 0) (fun u t => ?_) _).trans
      ((hfold.flag (by decide) 0).trans ?_))
    · unfold State.disarmActive
      split
      · rfl
      · exact u.disarm_run t
    · rw [State.flag_setFlag_apart _ (by decide), State.flag_setFlag_same _ _ _ _ (by decide) rfl]
  · have hcell := foldl_cell_at (cell := State.trgCell) (key := id) (F := fun _ => trgDisarmed) (fun z i k => z.disarmActive_trgCell i k)
      (l := List.range 64) (by decide) (List.mem_range.mpr hu) (s.ntmStopped v)
    have hstate : (s.ntmStopped v).trgState u = s.trgState u := (hfold.fld (by decide) u).trans <|
      (State.fld_setFlag_apart _ (by decide) _ _ _).trans ((State.fld_setFlag_apart _ (by decide) _ _ _).trans
        (s.fld_store_ne (by decide) _ _ _))
    have htrg : (s.ntmStopped v).trg u = s.trg u := foldl_keeps _ (State.trg · u) (fun w k => w.samplesStop_trg k u) _
    have hlast : ((List.range 64).foldl State.disarmActive (s.ntmStopped v)).trgState u = (trgDisarmed ((s.ntmStopped v).trgCell u)).1 :=
      congrArg Prod.fst hcell
    refine (hidle.fld (by decide) u).trans (hlast.trans ?_)
    rw [State.trgCell, hstate, htrg]
    rfl
  · have hsrv := foldl_cell_at (cell := State.srvState) (key := id) (F := fun _ => srvStopped)
      (fun z i k => z.samplesStop_srvState i k) (l := [0, 1, 2, 3]) (i := 1) (by decide) (by decide)
      (((s.store .NTM_CTRL 0 (F.NTM_CTRL_KILL.put 0 v)).setFlag F.NTM_STATUS_RUN 0 false).setFlag F.NTM_STATUS_DRAINING 0 true)
    refine (hidle.fld (by decide) 1).trans ((hdis.fld (by decide) 1).trans (hsrv.trans ?_))
    rw [State.srvState, State.fld_setFlag_ne _ (by decide), State.fld_setFlag_ne _ (by decide), State.fld_store_ne s (by decide)]
    exact congrArg srvStopped h

end Sys2Proof.Machine

end

section
open Sys2Proof Sys2Proof.Machine

/-- Settles O43, clause by clause: a trigger armed, fired once and in a series, its pulse ended, drained and killed; an edge captured,
lost and read; and the block disabled. A capture's time is its time base's present time by log 92. -/
theorem triggersCapturesAndTheirStop : Obligations.TriggersCapturesAndTheirStop := by
  unfold Obligations.TriggersCapturesAndTheirStop
  refine ⟨?arm, ?once, ?series, ?pulse, ?drain, ?kill, ?edge, ?full, ?read, ?disable⟩
  case arm =>
    rintro src t w v s rfl ho hl ha hs he hr hg ht
    have hexec : exec (.triggerArm src t w) s = .next (s.writeTrg src t (F.NTM_TRG_CFG_ARM.put 1 (w.setWidth 64))) := rfl
    rw [hexec, State.writeTrg_arms ho hl ha (Fld.on_put_same _ _ _ (by decide)) hs he hr hg ht]
    have hlt : F.NTM_TRG_CFG_COUNT.of (F.NTM_TRG_CFG_ARM.put 1 (w.setWidth 64)) < 2 ^ 16 := bits_lt _ _ _
    refine .next ⟨?_, ?_, ?_, ?_, State.flag_setFlag_same _ _ _ _ (by decide) rfl⟩
    · rw [State.armedAhead, State.reg_setFlag_ne _ (by decide), State.reg_setFld_ne _ (by decide), State.reg_setFld_ne _ (by decide),
        State.setTrg_reg, State.reg_store_same]
    · rw [State.trgState, State.armedAhead, State.fld_setFlag_apart _ (by decide), State.fld_setFld_apart _ (by decide),
        State.fld_setFld_fits _ (by decide) (by decide)]
    · rw [State.armedAhead, State.fld_setFlag_apart _ (by decide), State.fld_setFld_fits _ (by decide) hlt]
    · rw [State.armedAhead, State.setFlag_trg, State.setFld_trg, State.setFld_trg, State.setTrg_trg]
  case once =>
    intro t s hs ha hp hn
    have hf := s.trgFire_keeps t
    have hntm := s.trgFire_ntm t (.inl ⟨ha, rfl⟩)
    obtain ⟨hst, harm, hd⟩ := ((s.trgFire t).trgMoved t 1).disarm_shows t
    have htrg : ((s.trgFire t).trgMoved t 1).trg t = { s.trg t with next := (s.trg t).next + 1 } := by
      rw [State.trgMoved, State.setTrg_trg, State.trg_congr hntm]
      rfl
    rw [exec_triggerFire_armed hs, State.trgPass_once ((hf.fld (by decide) t).trans hp)]
    refine .next ⟨?_, ?_, harm, ?_⟩
    · rw [State.gpioLevel_congr hd]
      exact (congrArg (fun n : Ntm => Tbl.get (fun _ => false) n.gpio _) hntm).trans (s.gpioLevel_setGpio _ _)
    · rw [hst, State.disarmedState, htrg, hn]
      rfl
    · rw [State.trg_congr hd, htrg]
  case series =>
    intro t s hs ha hp hc
    have hf := s.trgFire_keeps t
    have hntm := s.trgFire_ntm t (.inr ⟨ha, rfl⟩)
    rw [exec_triggerFire_armed hs, State.trgPass_endless (by rw [hf.fld (by decide)]; exact hp) ((hf.fld (by decide) t).trans hc)]
    refine .next ⟨?_, (hf.fld (by decide) t).trans hs, ?_⟩
    · exact (congrArg (fun n : Ntm => Tbl.get (fun _ => false) n.gpio _) hntm).trans (s.gpioLevel_setGpio _ _)
    · rw [State.trgMoved, State.setTrg_trg, State.trg_congr hntm]
      rfl
  case pulse =>
    intro t s hp
    obtain ⟨hend, hlevel⟩ := s.pulseEnded_shows t
    rw [exec_triggerPulseEnd_pulse hp]
    split
    next hd =>
      have hf := ((s.pulseEnded t).setFld F.NTM_TRG_STAT_STATE t trgIdle).ntmIdle_keeps
      have hntm := hf.parts .ntm (by decide)
      refine .next ⟨?_, ?_, ?_⟩
      · rw [State.trg_congr hntm]
        exact hend
      · rw [State.gpioLevel_congr hntm]
        exact hlevel
      · exact (hf.fld (by decide) t).trans (State.fld_setFld_fits _ (by decide) (by decide) _)
    next hd => exact .next ⟨hend, hlevel, rfl⟩
  case drain =>
    intro src t s ho hl ha hk hs
    have hexec : exec (.triggerDrain src t) s = .next (s.writeTrg src t (F.NTM_TRG_CFG_ARM.put 0 (s.reg .NTM_TRG_CFG t))) := rfl
    obtain ⟨hst, harm, hntm⟩ := s.disarm_shows t
    rw [hexec, State.writeTrg_stops ho (by rw [Fld.of_put_disjoint _ _ (by decide) (by decide)]; exact hl)
      (by rw [Fld.of_put_disjoint _ _ (by decide) (by decide)]; exact ha) (Fld.on_put_same _ _ _ (by decide)) hs,
      Fld.on_put_disjoint _ _ (by decide) (by decide), hk]
    exact .next ⟨hst, harm, hntm, rfl⟩
  case kill =>
    intro src t s ho hl ha hs
    have hexec : exec (.triggerKill src t) s = .next (s.writeTrg src t (F.NTM_TRG_CFG_KILL.put 1 (F.NTM_TRG_CFG_ARM.put 0
      (s.reg .NTM_TRG_CFG t)))) := rfl
    obtain ⟨hst, hpulse, hlevel⟩ := s.trgKill_shows t
    have hof : ∀ g : Fld, F.NTM_TRG_CFG_KILL.lo ≥ g.lo + g.len → g.lo + g.len ≤ 64 → g.of (F.NTM_TRG_CFG_KILL.put 1
        (F.NTM_TRG_CFG_ARM.put 0 (s.reg .NTM_TRG_CFG t))) = g.of (s.reg .NTM_TRG_CFG t) := fun g h1 h2 => by
      rw [Fld.of_put_disjoint _ _ (.inl h1) h2, Fld.of_put_disjoint _ _ (.inl (Nat.le_trans h1 (by decide))) h2]
    have hkill : F.NTM_TRG_CFG_KILL.on (F.NTM_TRG_CFG_KILL.put 1 (F.NTM_TRG_CFG_ARM.put 0 (s.reg .NTM_TRG_CFG t))) = true :=
      Fld.on_put_same _ _ _ (by decide)
    rw [hexec, State.writeTrg_stops ho (by rw [hof _ (by decide) (by decide)]; exact hl) (by rw [hof _ (by decide) (by decide)]; exact ha)
      ((Fld.on_put_disjoint _ _ (by decide) (by decide)).trans (Fld.on_put_same _ _ _ (by decide))) hs,
      if_pos hkill]
    exact .next ⟨hst, hpulse, hlevel, rfl⟩
  case edge =>
    intro c rising s he hb hd hn
    rw [exec_captureEdge_enabled rising he hb hd, if_neg (by omega)]
    have hcap : ((s.setCap c ⟨(s.cap c).fifo ++ [⟨s.tbNow (s.fld F.NTM_CAP_CFG_TB c), rising, (s.cap c).stepped⟩], false⟩).showCap c).cap c =
        ⟨(s.cap c).fifo ++ [⟨s.tbNow (s.fld F.NTM_CAP_CFG_TB c), rising, (s.cap c).stepped⟩], false⟩ := by
      rw [State.showCap, State.setFld_cap, State.setCap_cap]
    refine .next ⟨congrArg Cap.fifo hcap, congrArg Cap.stepped hcap, ?_⟩
    rw [State.showCap, State.setCap_cap, State.fld_setFld_fits _ (by decide) (by simp; omega), List.length_append]
    rfl
  case full =>
    intro c rising s he hb hd hn
    rw [exec_captureEdge_enabled rising he hb hd, if_pos hn]
    exact .next ⟨State.irq_ntm _ _, by rw [State.irq_reg _ _ (by decide), State.reg_count_counted]⟩
  case read =>
    intro c e r s h
    obtain ⟨u, -, hfifo, hhi, hexec⟩ := exec_captureRead_oldest h
    rw [hexec]
    exact .next ⟨hfifo, rfl, hhi⟩
  case disable =>
    intro src s ho hk
    have hexec : exec (.ntmDisable src) s = .next (s.writeNtmCtrl src (F.NTM_CTRL_EN.put 0 (s.reg .NTM_CTRL 0))) := rfl
    rw [hexec, State.writeNtmCtrl_disables ho (Fld.on_put_same _ _ _ (by decide))
      ((Fld.on_put_disjoint _ _ (by decide) (by decide)).trans hk)]
    obtain ⟨hen, hrun, htrg, hsrv⟩ := s.ntmDisabled_shows (v := F.NTM_CTRL_EN.put 0 (s.reg .NTM_CTRL 0)) (by
      rw [Fld.on_put_disjoint _ _ (by decide) (by decide)]
      exact Fld.on_put_same _ _ _ (by decide))
    exact .next ⟨hen, hrun, fun u => htrg u.val u.isLt, hsrv⟩

end

section
/-! SUPPORT of O44: causes told as events, lanes that lose lock, ports whose link falls, eyes and equalisers. -/

namespace Sys2Proof.Machine

variable (s : State)

/-! ### Causes told with an entry of the Awl -/

/-- A cause that is told as an event reads as set in its block's INT_STAT. -/
theorem State.event_sets (c : Irq) {st : Reg} (h : c.blk.intStat = some st) (hne : st ∉ Reg.GLB_INT_SUM :: awlRegs) (hw : c.bit < st.width)
    (obj detail : Nat) : bit c.bit ((s.event c obj detail).reg st 0) = true := by
  rw [State.event, State.awlCause_reg _ _ _ _ _ (fun hr => hne (List.mem_cons_of_mem _ hr))]
  exact s.irq_sets c h (fun hr => hne (hr ▸ List.mem_cons_self)) hw

/-! ### A declared loss of lock (R479) -/

theorem exec_laneLossOfLock (i : Fin 224) : exec (.laneLossOfLock i) s =
    .next (if i.val < 128 then (if ((s.laneLol i).input i).lock then (s.laneLol i).receiverUnlock i else s.laneLol i)
      else if i.val < 160 then (s.laneLol i).portFall ((s.laneLol i).portOfLane (i.val - 128)) else s.laneLol i) := rfl

/-- What a declared loss changes beside its counter. -/
def laneLolFoot : Foot := ⟨[.host, .sent, .awl], .WLT_LK_SRC :: .GLB_INT_SUM :: .WLT_INT_STAT :: awlFoot⟩

/-- A declared loss is counted, then noted and told. -/
theorem State.laneLol_counts (i : Nat) : Frame laneLolFoot (s.count .WLT_LANE_LOL i 1) (s.laneLol i) :=
  .le (by decide) (Frame.refl .none _).noteLane.event

theorem State.laneLol_shows (i : Nat) : (s.laneLol i).reg .WLT_LANE_LOL i = s.counted .WLT_LANE_LOL i 1 :=
  ((s.laneLol_counts i).regs _ _ (by decide)).trans (s.reg_count_counted _ _ _)

theorem State.laneLol_sets (i : Nat) : bit Irq.WLT_LANE_LOL.bit ((s.laneLol i).reg .WLT_INT_STAT 0) = true :=
  State.event_sets _ Irq.WLT_LANE_LOL rfl (by decide) (by decide) _ _

theorem State.laneLol_notes {i : Nat} (hi : 160 ≤ i) (hi' : i < 224) : (s.laneLol i).fld ⟨.WLT_LK_SRC, linkOfLane i, 1⟩ 0 = 1 := by
  have hk : linkOfLane i + 1 ≤ 32 := by
    unfold linkOfLane
    omega
  have hf := (Frame.refl .none ((s.count .WLT_LANE_LOL i 1).noteLane i)).event (c := Irq.WLT_LANE_LOL) (obj := i) (detail := 0)
  rw [State.laneLol, State.fld, hf.regs .WLT_LK_SRC 0 (by decide), State.noteLane, if_pos hi]
  exact State.fld_setFld_fits _ hk (show 1 < 2 ^ 1 by decide) 0

theorem State.laneLol_input (i n : Nat) : (s.laneLol i).input n = s.input n :=
  congrArg (fun g : Ing => Tbl.get _ g.inputs n) ((s.laneLol_counts i).parts .ing (by decide))

/-! ### A port's link falls (R505) -/

variable {s}

theorem Frame.linkUp {f : Foot} {t : State} (h : Frame f s t) (hr : Reg.NPT_LINK ∉ f.regs) (p : Nat) : t.linkUp p = s.linkUp p := by
  rw [State.linkUp, State.linkUp, h.regs _ _ hr]

theorem Frame.portOfLane {f : Foot} {t : State} (h : Frame f s t) (hr : Reg.NPT_GRP_CFG ∉ f.regs) (l : Nat) :
    t.portOfLane l = s.portOfLane l := by
  rw [State.portOfLane, State.portOfLane, State.grpMode, State.grpMode, h.fld hr]

variable (s) in
theorem State.portOfLane_lt {l : Nat} (h : l < 32) : s.portOfLane l < 32 := by
  unfold State.portOfLane
  split <;> omega

theorem Frame.flushPtp {f : Foot} {a b : State} {p : Nat} (h : Frame f a b) :
    Frame (f.plus ⟨[.net, .host, .sent], [.NTM_PHY_TXABORT, .GLB_INT_SUM, .NTM_INT_STAT]⟩) a (b.flushPtp p) :=
  h.plus (State.flushPtp_frame (.refl _ _) (by decide) (by decide))

theorem Frame.flushCtrl {f : Foot} {a b : State} {p : Nat} {st : Status} (h : Frame f a b) :
    Frame (f.plus ⟨[.sent, .host, .net], [.NPT_TX_DISCARD]⟩) a (b.flushCtrl p st) :=
  h.plus (State.flushCtrl_frame (.refl _ _) (by decide) (by decide))

/-- What the fall of a link changes beside NPT_LINK and its counter. -/
def portFallFoot : Foot := ⟨[.host, .sent, .awl, .net], [.AWL_MERGED, .AWL_STATUS, .INS_RET_STAT, .AWL_LOST, .GLB_INT_SUM, .AWL_INT_STAT,
  .NPT_INT_STAT, .NPT_PORT_STAT, .NTM_PHY_TXABORT, .NTM_INT_STAT, .NPT_TX_DISCARD]⟩

/-- A link that falls is cleared and counted first. -/
theorem State.portFall_falls {p : Nat} (h : s.linkUp p = true) :
    Frame portFallFoot ((s.setFld ⟨.NPT_LINK, p, 1⟩ 0 0).count .NPT_LINK_DOWNS p 1) (s.portFall p) := by
  rw [State.portFall, if_pos h]
  have hev := (Frame.refl .none ((s.setFld ⟨.NPT_LINK, p, 1⟩ 0 0).count .NPT_LINK_DOWNS p 1)).event (c := Irq.NPT_LINK_DOWN) (obj := p)
    (detail := 0)
  exact .le (by decide) (Frame.branch hev.setPortState hev).flushPtp.flushCtrl

theorem State.linkUp_cleared {p : Nat} (hp : p < 32) : (s.setFld ⟨.NPT_LINK, p, 1⟩ 0 0).linkUp p = false := by
  have hw : p < Reg.NPT_LINK.width := hp
  have hreg : (s.setFld ⟨.NPT_LINK, p, 1⟩ 0 0).reg .NPT_LINK 0 = Reg.NPT_LINK.fit (insertBits p 1 0 (s.reg .NPT_LINK 0)) :=
    State.reg_setReg_same _ _ _ _
  rw [State.linkUp, hreg, bit, Reg.fit_getLsbD _ _ _ (by omega), insertBits_getLsbD _ _ _ _ _ (by omega)]
  simp

theorem State.portFall_shows {p : Nat} (hp : p < 32) : (s.portFall p).linkUp p = false ∧
    (s.linkUp p = true → (s.portFall p).reg .NPT_LINK_DOWNS p = s.counted .NPT_LINK_DOWNS p 1) := by
  by_cases h : s.linkUp p = true
  · have hf := State.portFall_falls h
    refine ⟨(hf.linkUp (by decide) p).trans (((Frame.refl .none _).count.linkUp (by decide) p).trans
      (State.linkUp_cleared hp)), fun _ => ?_⟩
    rw [hf.regs _ _ (by decide), State.reg_count_counted]
    exact State.counted_congr (State.reg_setFld_mk_ne _ (by decide) _ _ _ _ _) _
  · refine ⟨?_, fun h' => absurd h' h⟩
    rw [State.portFall, if_neg h]
    exact eq_false_of_ne_true h

/-! ### The lane's record -/

theorem State.lane_congr {t : State} (h : t.net = s.net) (i : Nat) : t.lane i = s.lane i := congrArg (fun n : Net => Tbl.get _ n.lanes i) h

variable (s) in
theorem State.ctrlFail_lane (p : Nat) (f : CtrlFrame) (st : Status) (i : Nat) : (s.ctrlFail p f st).lane i = s.lane i :=
  State.lane_congr ((Frame.refl .none s).ctrlFail.parts .net (by decide)) i

variable (s) in
theorem State.flushPtp_lane (p i : Nat) : (s.flushPtp p).lane i = s.lane i :=
  (foldl_keeps _ (State.lane · i) (fun u f => State.lane_congr ((Frame.branch (Frame.refl .none u).txAbort (.refl .none u)).parts .net (by decide)) i)
    _).trans rfl

variable (s) in
theorem State.portFall_lane (p i : Nat) : (s.portFall p).lane i = s.lane i := by
  unfold State.portFall State.flushCtrl
  split
  · refine (foldl_keeps _ (State.lane · i) (fun u f => u.ctrlFail_lane _ _ _ _) _).trans ((State.flushPtp_lane _ _ _).trans ?_)
    rw [apply_ite (State.lane · i)]
    exact (ite_self _).trans (State.event_lane _ _ _ _ _)
  · rfl

/-! ### Eyes (R482) -/

variable (s) in
/-- What an eye below the bound is measured with lies outside what a measurement writes. -/
theorem State.eyeBelow_showEye (j : Nat) (o : EyeObs) (i v h : Nat) : (s.showEye j o).eyeBelow i v h = s.eyeBelow i v h := by
  have hf : Frame showEyeFoot s (s.showEye j o) := (Frame.refl .none s).showEye.le (by decide)
  have hrate : (s.showEye j o).laneRate i = s.laneRate i := by
    simp only [State.laneRate, State.videoRx, State.laneInput, State.inLive, State.inState, State.grpMode]
    simp (disch := decide) only [hf.fld, hf.flag, hf.regs]
    rfl
  simp only [State.eyeBelow, State.lanePam4, hrate]
  rw [hf.fld (by split <;> decide), hf.fld (by split <;> decide)]
  rfl

variable (s) in
theorem State.showEye_lows (i : Nat) (o : EyeObs) : ((s.showEye i o).lane i).lows = (s.lane i).lows := by
  have hlane : ∀ {a b : State}, b.net = a.net → (b.lane i).lows = (a.lane i).lows := fun h => congrArg Lane.lows (State.lane_congr h i)
  unfold State.showEye
  extract_lets s1 _ s2 s3 s4 s5
  have h2 : (s2.lane i).lows = (s1.lane i).lows := by
    unfold s2
    split
    · rw [State.setLane_lane]
    · rfl
  have h3 : (s3.lane i).lows = (s2.lane i).lows := by
    unfold s3
    split
    · rfl
    · exact hlane ((Frame.fold (Frame.refl .none s2) fun _ _ h => h.set).parts .net (by decide))
  have h4 : (s4.lane i).lows = (s3.lane i).lows := hlane ((Frame.branch (Frame.refl .none s3) (Frame.refl .none s3).count).parts .net (by decide))
  have h5 : (s5.lane i).lows = (s4.lane i).lows := hlane ((Frame.branch (Frame.refl .none s4).count (.refl .none s4)).parts .net (by decide))
  refine (hlane ((Frame.branch (Frame.refl .none s5).count.noteLane.irq (.refl .none s5)).parts .net (by decide))).trans ?_
  rw [h5, h4, h3, h2]
  rfl

variable (s) in
/-- A measurement shows its eye. -/
theorem State.showEye_shows (i : Nat) (o : EyeObs) : (s.showEye i o).fld F.WLT_LANE_EYE_V i = o.v % 2 ^ F.WLT_LANE_EYE_V.len ∧
    (s.showEye i o).fld F.WLT_LANE_EYE_H i = o.h % 2 ^ F.WLT_LANE_EYE_H.len := by
  have hf : Frame ⟨[.sent, .host, .net], [.GLB_INT_SUM, .WLT_INT_STAT, .WLT_LK_SRC, .WLT_LANE_DFE, .WLT_LANE_ERR, .WLT_LANE_FEC_UNC,
      .WLT_LANE_PRBS_ERR]⟩ ((s.setFld F.WLT_LANE_EYE_V i o.v).setFld F.WLT_LANE_EYE_H i o.h) (s.showEye i o) := by
    unfold State.showEye
    extract_lets s1 _ s2 s3 s4 s5
    have h1 := Frame.refl .none s1
    have h2 : Frame _ s1 s2 := .branch h1.setLane h1
    have h3 : Frame _ s1 s3 := .branch h2 (.fold h2 fun _ _ h => h.set)
    have h4 : Frame _ s1 s4 := .branch h3 h3.count
    have h5 : Frame _ s1 s5 := .branch h4.count h4
    exact .le (by decide) (.branch h5.count.noteLane.irq h5)
  refine ⟨(hf.fld (by decide) i).trans ((State.fld_setFld_apart _ (by decide) _ _ _).trans (State.fld_setFld_same _ _ _ _ (by decide))), ?_⟩
  exact (hf.fld (by decide) i).trans (State.fld_setFld_same _ _ _ _ (by decide))

variable (s) in
/-- The state after a low eye has been counted. -/
def State.eyeLow (i : Nat) (o : EyeObs) : State :=
  (s.showEye i o).setLane i { (s.showEye i o).lane i with lows := min 3 (((s.showEye i o).lane i).lows + 1) }

theorem exec_eyeMeasure_good {i : Fin 224} {o : EyeObs} (h : s.laneState i ≠ 0) (hb : s.eyeBelow i o.v o.h = false) :
    exec (.eyeMeasure i o) s = .next ((s.showEye i o).setLane i { (s.showEye i o).lane i with lows := 0 }) := by
  refine congrArg Host.Outcome.next ((if_neg h).trans (if_pos ?_))
  rw [State.eyeBelow_showEye, hb]
  rfl

theorem exec_eyeMeasure_third {i : Fin 224} {o : EyeObs} (h : s.laneState i ≠ 0) (hb : s.eyeBelow i o.v o.h = true)
    (hl : 2 ≤ (s.lane i).lows) (hr : s.flag F.WLT_LANE_CFG_RECAL_AUTO i = false) :
    exec (.eyeMeasure i o) s = .next (((s.eyeLow i o).noteLane i).event Irq.WLT_EYE_LOW i 0) := by
  have hf : Frame showEyeFoot s (s.showEye i o) := (Frame.refl .none s).showEye.le (by decide)
  refine congrArg Host.Outcome.next ((if_neg h).trans ((if_neg ?_).trans ((if_neg ?_).trans (if_neg ?_))))
  · rw [State.eyeBelow_showEye, hb]
    decide
  · rw [State.showEye_lows]
    omega
  · rw [State.event_flag _ _ _ _ (by decide), ((Frame.refl .none _).noteLane).flag (by decide), State.setLane_flag, hf.flag (by decide), hr]
    simp

/-! ### Equalisers, recalibration and test patterns (R481, R483, R485, R498) -/

theorem State.writeLaneCtrl_recal {src : Requester} (ho : s.closedTo .WLT_LANE_CTRL src = false) (i : Nat) :
    s.writeLaneCtrl src i 0x80000000 = s.startRecal i := by
  rw [State.writeLaneCtrl, State.guarded_of_open s ho]
  exact (if_neg (by decide)).trans (if_pos (by decide))

theorem State.writeLaneCtrl_retrain {src : Requester} (ho : s.closedTo .WLT_LANE_CTRL src = false) (i : Nat) :
    s.writeLaneCtrl src i 0x40000000 = s.laneRetrain i := by
  rw [State.writeLaneCtrl, State.guarded_of_open s ho]
  exact if_pos (by decide)

variable (s) in
/-- A lane whose adaptation is restarted. -/
def State.laneRestarted (i : Nat) : State := (s.setLane i { s.lane i with ctle := 0, recal := false }).answer .OK

theorem State.laneRetrain_network {i : Nat} (h : 128 ≤ i) (h' : i < 160) :
    s.laneRetrain i = (s.laneRestarted i).portFall ((s.laneRestarted i).portOfLane (i - 128)) :=
  (if_neg (by omega)).trans (if_neg (by omega))

theorem State.laneRetrain_video {i : Nat} (h : i < 128) (hr : s.videoRx i = true) (hl : (s.input i).lock = true) :
    s.laneRetrain i = ((s.laneRestarted i).laneLol i).receiverUnlock i :=
  (if_neg (by omega)).trans ((if_pos h).trans (if_pos (by
    show (s.videoRx i && (s.input i).lock) = true
    rw [hr, hl]
    rfl)))

theorem exec_laneRecalStep (i : Fin 224) (offset : Int) (larger : Bool) (s : State) :
    exec (.laneRecalStep i offset larger) s = .next (s.recalStep i offset larger) := rfl

/-- A step of a network lane that recalibrates tries one step of its CTLE. -/
theorem State.recalStep_network {i : Nat} {offset : Int} {larger : Bool} (hr : (s.lane i).recal = true) (hi : 128 ≤ i)
    (ha : s.flag F.WLT_LANE_CFG_CTLE_AUTO i = true) : s.recalStep i offset larger =
      if !(s.lane i).upDone then s.setLane i (if larger && decide ((s.lane i).ctle < 48) then
        { s.lane i with ctle := (s.lane i).ctle + 1 } else { s.lane i with upDone := true })
      else s.setLane i (if larger && decide (0 < (s.lane i).ctle) then { s.lane i with ctle := (s.lane i).ctle - 1 }
        else { s.lane i with downDone := true, recal := false }) := by
  unfold State.recalStep
  extract_lets
  rw [hr, ha, if_neg (by decide), if_neg (by omega), if_neg (by decide)]

theorem State.writePrbs_good {src : Requester} {i : Nat} {v : Word} (ho : s.closedTo .WLT_LANE_PRBS src = false)
    (hp : F.WLT_LANE_PRBS_PATTERN.of v ≤ 3) : s.writePrbs src i v =
      if (F.WLT_LANE_PRBS_GEN.on v || F.WLT_LANE_PRBS_CHK.on v) && !s.prbsFree i then s.answer .BUSY
      else s.store .WLT_LANE_PRBS i v := by
  rw [State.writePrbs, State.guarded_of_open s ho]
  exact if_neg (by omega)

theorem State.writeTxeq_open {src : Requester} {i : Nat} {v : Word} (ho : s.closedTo .WLT_LANE_TXEQ src = false) (hi : i < 160) :
    s.writeTxeq src i v = if s.badTxeq i v then s.answer .BAD_ARG else s.store .WLT_LANE_TXEQ i v := by
  rw [State.writeTxeq, if_neg (by omega), State.guarded_of_open s ho]
  rfl

end Sys2Proof.Machine

end

section
open Sys2Proof Sys2Proof.Machine

/-- Settles O44, clause by clause: a declared loss of lock on each kind of lane; eyes that are measured, good and low for the third
time (EYE_LOW at every further low eye by log 93); recalibration, retraining, transmit taps and test patterns (a pattern above 3
by log 94). -/
theorem laneLocksEyesEqualisersAndPatterns : Obligations.LaneLocksEyesEqualisersAndPatterns := by
  unfold Obligations.LaneLocksEyesEqualisersAndPatterns
  refine ⟨?lace, ?video, ?network, ?gated, ?eye, ?eyeLow, ?recal, ?recalBusy, ?phase, ?up, ?down, ?retrainLace, ?retrainNetwork,
    ?retrainVideo, ?txeq, ?txeqSum, ?txeqLace, ?prbs, ?prbsBusy, ?prbsBad⟩
  case lace =>
    intro i s h
    rw [exec_laneLossOfLock, if_neg (by omega), if_neg (by omega)]
    refine .next ⟨s.laneLol_shows i, s.laneLol_sets i, s.laneLol_notes h i.isLt, ?_⟩
    rw [(s.laneLol_counts i).regs _ _ (by decide), State.reg_count_ne _ (by decide)]
  case video =>
    intro i s h hl
    rw [exec_laneLossOfLock, if_pos h, State.laneLol_input, if_pos hl]
    refine .next ⟨?_, State.receiverUnlock_lock _ _⟩
    rw [State.receiverUnlock_reg _ (by decide), State.laneLol_shows]
  case network =>
    intro i s h h' hu
    have hf := s.laneLol_counts i
    have hc := (Frame.refl .none s).count (r := .WLT_LANE_LOL) (i := i) (n := 1)
    have hp : (s.laneLol i).portOfLane (i.val - 128) = s.portOfLane (i.val - 128) :=
      (hf.portOfLane (by decide) _).trans (hc.portOfLane (by decide) _)
    have hu' : (s.laneLol i).linkUp (s.portOfLane (i.val - 128)) = true :=
      (hf.linkUp (by decide) _).trans ((hc.linkUp (by decide) _).trans hu)
    obtain ⟨hdown, hcount⟩ := State.portFall_shows (s := s.laneLol i) (s.portOfLane_lt (l := i.val - 128) (by omega))
    rw [exec_laneLossOfLock, if_neg (by omega), if_pos h', hp]
    refine .next ⟨?_, hdown, ?_⟩
    · rw [(Frame.refl .none (s.laneLol i)).portFall.regs _ _ (by decide), State.laneLol_shows]
    · rw [hcount hu']
      exact State.counted_congr ((hf.regs _ _ (by decide)).trans (hc.regs _ _ (by decide))) _
  case gated =>
    intro i o s h
    exact .next (if_pos h)
  case eye =>
    intro i o s h hb
    obtain ⟨hv, hh⟩ := s.showEye_shows i o
    rw [exec_eyeMeasure_good h hb]
    exact .next ⟨hv, hh, congrArg Lane.lows (State.setLane_lane _ _ _)⟩
  case eyeLow =>
    intro i o s h hb hl hr
    obtain ⟨hv, -⟩ := s.showEye_shows i o
    rw [exec_eyeMeasure_third h hb hl hr]
    refine .next ⟨?_, ?_, State.event_sets _ Irq.WLT_EYE_LOW rfl (by decide) (by decide) _ _⟩
    · rw [State.event_fld _ _ _ _ (by decide), ((Frame.refl .none _).noteLane).fld (by decide)]
      exact hv
    · rw [State.event_lane, State.lane_congr ((Frame.refl .none _).noteLane.parts .net (by decide)), State.eyeLow, State.setLane_lane]
      show min 3 (((s.showEye i o).lane i).lows + 1) = 3
      rw [State.showEye_lows]
      omega
  case recal =>
    intro src i s ho h
    have hexec : exec (.laneRecal src i) s = .next (s.writeLaneCtrl src i 0x80000000) := rfl
    rw [hexec, State.writeLaneCtrl_recal ho, State.startRecal, if_neg (by omega)]
    exact .next ⟨State.setLane_lane _ _ _, rfl, rfl⟩
  case recalBusy =>
    intro src i s ho h hm
    have hexec : exec (.laneRecal src i) s = .next (s.writeLaneCtrl src i 0x80000000) := rfl
    rw [hexec, State.writeLaneCtrl_recal ho, State.startRecal, if_pos h]
    exact .next (if_pos (.inr (.inl hm)))
  case phase =>
    intro i offset larger s hr hi ho
    rw [exec_laneRecalStep, State.recalStep]
    dsimp only
    rw [hr, if_neg (by decide), if_pos hi, if_neg ho.ne', if_pos ho]
    exact .next ⟨State.setLane_lane _ _ _, rfl⟩
  case up =>
    intro i offset larger s hr hi ha hu hl hc
    rw [exec_laneRecalStep, State.recalStep_network hr hi ha, hu, hl, if_pos (by decide), if_pos (by simpa using hc)]
    exact .next (State.setLane_lane _ _ _)
  case down =>
    intro i offset larger s hr hi ha hu hl
    rw [exec_laneRecalStep, State.recalStep_network hr hi ha, hu, hl, if_neg (by decide), if_neg (by simp)]
    exact .next ⟨congrArg Lane.recal (State.setLane_lane _ _ _), (congrArg Lane.ctle (State.setLane_lane _ _ _) : _)⟩
  case retrainLace =>
    intro src i s ho h
    have hexec : exec (.laneRetrain src i) s = .next (s.writeLaneCtrl src i 0x40000000) := rfl
    rw [hexec, State.writeLaneCtrl_retrain ho]
    exact .next (if_pos h)
  case retrainNetwork =>
    intro src i s ho h h'
    have hexec : exec (.laneRetrain src i) s = .next (s.writeLaneCtrl src i 0x40000000) := rfl
    have hp : (s.laneRestarted i).portOfLane (i.val - 128) = s.portOfLane (i.val - 128) := rfl
    rw [hexec, State.writeLaneCtrl_retrain ho, State.laneRetrain_network h h', hp]
    obtain ⟨hdown, -⟩ := State.portFall_shows (s := s.laneRestarted i) (s.portOfLane_lt (l := i.val - 128) (by omega))
    refine .next ⟨?_, hdown, ?_⟩
    · rw [State.portFall_lane]
      exact State.setLane_lane _ _ _
    · rw [(Frame.refl .none (s.laneRestarted i)).portFall.parts .resp (by decide)]
      rfl
  case retrainVideo =>
    intro src i s ho hr hl h
    have hexec : exec (.laneRetrain src i) s = .next (s.writeLaneCtrl src i 0x40000000) := rfl
    rw [hexec, State.writeLaneCtrl_retrain ho, State.laneRetrain_video h hr hl]
    refine .next ⟨?_, State.receiverUnlock_lock _ _, ?_⟩
    · refine (State.lane_congr (((s.laneRestarted i).laneLol_counts i).parts .net (by decide)) i).trans ?_
      exact State.setLane_lane _ _ _
    · rw [State.receiverUnlock_reg _ (by decide), State.laneLol_shows]
      rfl
  case txeq =>
    intro src i w s hi ho hb
    have hexec : exec (.txeqWrite src i w) s = .next (s.writeTxeq src i (w.setWidth 64)) := rfl
    rw [hexec, State.writeTxeq_open ho hi, hb, if_neg (by decide)]
    exact .next (State.store_shows _ _ _ _)
  case txeqSum =>
    intro src i w s hi ho hsum
    have hexec : exec (.txeqWrite src i w) s = .next (s.writeTxeq src i (w.setWidth 64)) := rfl
    have hbad : s.badTxeq i (w.setWidth 64) = true := by
      rw [State.badTxeq, decide_eq_true hsum, Bool.true_or, Bool.true_or]
    rw [hexec, State.writeTxeq_open ho hi, hbad]
    exact .next (if_pos rfl)
  case txeqLace =>
    intro src i w s hi
    exact .next (if_pos hi)
  case prbs =>
    intro src i w s ho hp hfree
    have hexec : exec (.prbsWrite src i w) s = .next (s.writePrbs src i (w.setWidth 64)) := rfl
    rw [hexec, State.writePrbs_good ho hp, hfree, if_neg (by simp)]
    exact .next (State.store_shows _ _ _ _)
  case prbsBusy =>
    intro src i w s ho hp hg hi hown
    have hexec : exec (.prbsWrite src i w) s = .next (s.writePrbs src i (w.setWidth 64)) := rfl
    have hfree : s.prbsFree i = false := by
      rw [State.prbsFree, if_neg (by omega), hown]
      rfl
    rw [hexec, State.writePrbs_good ho hp, hg, hfree]
    exact .next (if_pos rfl)
  case prbsBad =>
    intro src i w s ho hp
    have hexec : exec (.prbsWrite src i w) s = .next (s.writePrbs src i (w.setWidth 64)) := rfl
    rw [hexec, State.writePrbs, State.guarded_of_open s ho]
    exact .next (if_pos hp)

end

section
/-! SUPPORT of O45: the lanes and the state that a Lace link shows, and its commands in the cases of the statement. -/

namespace Sys2Proof.Machine

/-! ### Lanes in a mask -/

theorem maskLanes_le (m : Nat) : maskLanes m ≤ 4 := by
  have h : maskLanes m = 0 + m / 2 ^ 0 % 2 + m / 2 ^ 1 % 2 + m / 2 ^ 2 % 2 + m / 2 ^ 3 % 2 := rfl
  omega

theorem maskLanes_less_one (j : Fin 4) : maskLanes (15 - 2 ^ j.val) = 3 := by
  revert j
  decide

variable (s : State)

/-! ### The lanes and the capacity that a link shows (R118, R497) -/

theorem State.carry_shows (k m : Nat) : (s.carry k m).fld F.WLT_LK_STAT_LANE_MASK k = m % 16 ∧
    (s.carry k m).fld F.TWL_LK_STAT_LANES k = maskLanes m ∧
    (s.carry k m).fld F.TWL_LK_STAT_CAP k = linkCapacity (s.fld F.TWL_LK_STAT_RATE k) (maskLanes m) % 2 ^ F.TWL_LK_STAT_CAP.len ∧
    (s.carry k m).link k = { s.link k with mask := m } := by
  have hm : maskLanes m < 2 ^ F.TWL_LK_STAT_LANES.len := (maskLanes_le m).trans_lt (by decide)
  unfold State.carry
  refine ⟨?_, ?_, ?_, ?_⟩
  · rw [State.fld_setFld_apart _ (by decide), State.fld_setFld_apart _ (by decide), State.setLink_fld]
    exact State.fld_setFld_same _ _ _ _ (by decide)
  · rw [State.fld_setFld_apart _ (by decide), State.fld_setFld_fits _ (by decide) hm]
  · rw [State.fld_setFld_same _ _ _ _ (by decide), State.fld_setFld_apart _ (by decide), State.setLink_fld,
      State.fld_setFld_apart _ (by decide)]
  · rw [State.setFld_link, State.setFld_link]
    exact State.setLink_link _ _ _

/-- A field of WLT_LK_STAT beside LANE_MASK reads as before. -/
theorem State.carry_fld {g : Fld} (hl : F.TWL_LK_STAT_LANES.apart g = true) (hc : F.TWL_LK_STAT_CAP.apart g = true)
    (hm : F.WLT_LK_STAT_LANE_MASK.apart g = true) (k m i : Nat) : (s.carry k m).fld g i = s.fld g i := by
  unfold State.carry
  rw [State.fld_setFld_apart _ hc, State.fld_setFld_apart _ hl, State.setLink_fld, State.fld_setFld_apart _ hm]

/-! ### A link leaves service, and identity frames start (R487, R492) -/

/-- The state after a link has fallen, before that is told. -/
def State.linkDowned (k reason : Nat) : State :=
  let u := (((s.uncarry k).setReg .WLT_LK_STAT k 0).setFld F.WLT_LK_STAT_REASON k reason).count .WLT_LK_DOWNS k 1
  u.setLink k { u.link k with
    fallen := false, fast := false, mask := 0, dropped := none, recal := false, fails := 0, waiting := false }

/-- What telling a fall changes. -/
def linkToldFoot : Foot := ⟨[.sent, .host, .awl], .GLB_INT_SUM :: .WLT_INT_STAT :: .WLT_LK_SRC :: awlFoot⟩

theorem State.linkFall_downed (k reason : Nat) (loud : Bool) : Frame linkToldFoot (s.linkDowned k reason) (s.linkFall k reason loud) :=
  .le (by decide) (.branch (Frame.refl .none (s.linkDowned k reason)).noteLink.event (.refl .none (s.linkDowned k reason)))

variable {s}

/-- A link that falls is DOWN for its reason, carries nothing, and is counted. -/
theorem State.linkFall_shows {reason : Nat} (h : reason < 16) (k : Nat) (loud : Bool) :
    (s.linkFall k reason loud).lkState k = lkDown ∧ (s.linkFall k reason loud).fld F.WLT_LK_STAT_REASON k = reason ∧
      (s.linkFall k reason loud).reg .TWL_LK_STAT k = 0 ∧
      (s.linkFall k reason loud).reg .WLT_LK_DOWNS k = s.counted .WLT_LK_DOWNS k 1 := by
  have hf := s.linkFall_downed k reason loud
  have hu : Frame ⟨[.net], [.WLT_LK_DOWNS]⟩ (((s.uncarry k).setReg .WLT_LK_STAT k 0).setFld F.WLT_LK_STAT_REASON k reason)
      (s.linkDowned k reason) := .le (by decide) (Frame.refl .none _).count.setLink
  refine ⟨?_, ?_, ?_, ?_⟩
  · refine (hf.fld (by decide) k).trans ((hu.fld (by decide) k).trans ((State.fld_setFld_apart _ (by decide) _ _ _).trans ?_))
    rw [State.fld, State.reg_setReg_same]
    decide
  · exact (hf.fld (by decide) k).trans ((hu.fld (by decide) k).trans (State.fld_setFld_fits _ (by decide) h k))
  · rw [hf.regs _ _ (by decide), hu.regs _ _ (by decide), State.reg_setFld_ne _ (by decide), State.reg_setReg_other _ (by decide)]
    exact State.reg_setReg_same _ _ _ _
  · rw [hf.regs _ _ (by decide), State.linkDowned, State.setLink_reg, State.reg_count_counted]
    exact State.counted_congr ((State.reg_setFld_ne _ (by decide) _ _ _).trans ((State.reg_setReg_other _ (by decide) _ _ _).trans
      ((Frame.refl .none s).uncarry.regs _ _ (by decide)))) _

/-- A fall that is told sets LK_DOWN. -/
theorem State.linkFall_sets (k reason : Nat) : bit Irq.WLT_LK_DOWN.bit ((s.linkFall k reason true).reg .WLT_INT_STAT 0) = true :=
  State.event_sets ((s.linkDowned k reason).noteLink k) Irq.WLT_LK_DOWN rfl (by decide) (by decide) k reason

variable (s)

/-- The state of a link in IDENT, before its identity frames are sent. -/
def State.identStarted (k : Nat) : State :=
  let u := (((((s.uncarry k).setLkState k lkIdent).setFld F.WLT_LK_STAT_RATE k 1).setFld F.WLT_LK_STAT_ATTEMPT k 0).setFlag
    F.WLT_LK_STAT_BELOW_MAX k false).setFld F.TWL_LK_STAT_RATE k 1
  u.setLink k { u.link k with
    since := u.tick, fallen := false, fast := false, dropped := none, recal := false, fails := 0, waiting := false }

theorem State.startIdent_eq (k : Nat) : s.startIdent k = (s.identStarted k).emit (.laceIdentity k) := rfl

theorem State.startIdent_shows (k : Nat) : (s.startIdent k).lkState k = lkIdent ∧ (s.startIdent k).fld F.WLT_LK_STAT_RATE k = 1 ∧
    (s.startIdent k).sent = .laceIdentity k :: s.sent ∧ (s.startIdent k).resp = s.resp := by
  have hf : Frame ⟨[.twl, .net], [.TWL_LK_STAT, .WLT_LK_STAT]⟩ s (s.identStarted k) := .le (by decide)
    (Frame.refl .none s).uncarry.setLkState.setFld.setFld.setFlag.setFld.setLink
  rw [State.startIdent_eq]
  refine ⟨?_, ?_, ?_, (State.emit_resp _ _).trans (hf.parts .resp (by decide))⟩
  · rw [State.lkState, State.emit_fld, State.identStarted, State.setLink_fld, State.fld_setFld_apart _ (by decide),
      State.fld_setFlag_apart _ (by decide), State.fld_setFld_apart _ (by decide), State.fld_setFld_apart _ (by decide)]
    exact State.fld_setFld_fits _ (by decide) (by decide) k
  · rw [State.emit_fld, State.identStarted, State.setLink_fld, State.fld_setFld_apart _ (by decide), State.fld_setFlag_apart _ (by decide),
      State.fld_setFld_apart _ (by decide), State.fld_setFld_fits _ (by decide) (by decide)]
  · have hsent : (s.identStarted k).sent = s.sent := hf.parts .sent (by decide)
    rw [State.emit, hsent]

/-! ### Steps (R488, R490) -/

variable {s} in
theorem State.stepTo_shows {attempt : Nat} (h : attempt < 16) (k rate : Nat) : (s.stepTo k rate attempt).lkState k = lkStep ∧
    (s.stepTo k rate attempt).fld F.WLT_LK_STAT_ATTEMPT k = attempt ∧
    (s.stepTo k rate attempt).link k = { s.link k with target := rate } := by
  have hu : Frame ⟨[.sent, .net], []⟩ ((s.setLkState k lkStep).setFld F.WLT_LK_STAT_ATTEMPT k attempt) (s.stepTo k rate attempt) := by
    unfold State.stepTo
    exact .le (by decide) (.branch (Frame.refl .none _).setLink.emit (Frame.refl .none _).setLink)
  refine ⟨?_, (hu.fld (by decide) k).trans (State.fld_setFld_fits _ (by decide) h k), ?_⟩
  · exact (hu.fld (by decide) k).trans ((State.fld_setFld_apart _ (by decide) _ _ _).trans (State.fld_setFld_fits _ (by decide) (by decide) k))
  · unfold State.stepTo
    extract_lets
    rw [apply_ite (State.link · k)]
    exact (ite_self _).trans (State.setLink_link _ _ _)

/-! ### The identity exchange (R114, R487) -/

/-- The state of a link whose exchange is complete, before its first step. -/
def State.identified (k : Nat) (o : IdentObs) : State :=
  let s := s.ageRecord k
  let agreed := min (s.fld F.WLT_LK_CFG_MAX_RATE k) o.maxRate
  let fast := s.fastOk k agreed o.recId
  let s := (s.setFld F.WLT_LK_PEER_STRAP k o.strap).setFld F.WLT_LK_PEER_MAX_RATE k o.maxRate
  let s := (s.setFlag F.WLT_LK_PEER_MATCHED k (match (s.link k).record with | some r => r.id == o.recId | none => false))
  let s := s.setFld F.TWL_LK_STAT_PEER k o.domain
  s.setLink k { s.link k with agreed := agreed, fast := fast, fallen := false, peer := o.domain }

/-- The rate of a link's first step: the agreed one in a fast restart, and else code 2. -/
def State.firstRate (k : Nat) (o : IdentObs) : Nat :=
  if (s.ageRecord k).fastOk k (min ((s.ageRecord k).fld F.WLT_LK_CFG_MAX_RATE k) o.maxRate) o.recId then
    min ((s.ageRecord k).fld F.WLT_LK_CFG_MAX_RATE k) o.maxRate
  else 2

theorem State.identDone_eq (k : Nat) (o : IdentObs) : s.identDone k o = (s.identified k o).stepTo k (s.firstRate k o) 1 := rfl

theorem State.ageRecord_keeps (k : Nat) : Frame ⟨[.net], []⟩ s (s.ageRecord k) := (Frame.refl .none s).ageRecord.le (by decide)

theorem State.identified_shows (k : Nat) (o : IdentObs) :
    (s.identified k o).fld F.WLT_LK_PEER_STRAP k = o.strap % 2 ^ F.WLT_LK_PEER_STRAP.len ∧
      (s.identified k o).fld F.TWL_LK_STAT_PEER k = o.domain % 2 ^ F.TWL_LK_STAT_PEER.len ∧
      ((s.identified k o).link k).agreed = min (s.fld F.WLT_LK_CFG_MAX_RATE k) o.maxRate ∧ ((s.identified k o).link k).peer = o.domain := by
  unfold State.identified
  extract_lets u agreed fast v w x
  refine ⟨?_, ?_, ?_, ?_⟩
  · rw [State.setLink_fld, State.fld_setFld_apart _ (by decide), State.fld_setFlag_apart _ (by decide), State.fld_setFld_apart _ (by decide)]
    exact State.fld_setFld_same _ _ _ _ (by decide)
  · rw [State.setLink_fld]
    exact State.fld_setFld_same _ _ _ _ (by decide)
  · rw [State.setLink_link]
    exact congrArg (min · o.maxRate) ((s.ageRecord_keeps k).fld (by decide) k)
  · rw [State.setLink_link]

/-- The first step is the agreed rate or code 2. -/
theorem State.firstRate_cases (k : Nat) (o : IdentObs) :
    s.firstRate k o = 2 ∨ s.firstRate k o = min (s.fld F.WLT_LK_CFG_MAX_RATE k) o.maxRate := by
  rw [State.firstRate, (s.ageRecord_keeps k).fld (by decide)]
  split
  · exact .inr rfl
  · exact .inl rfl

variable {s} in
theorem exec_laceIdentityReceive_agrees {k : Fin 16} {o : IdentObs} (h : s.lkState k = lkIdent) (hl : 3 ≤ maskLanes o.commas.toNat)
    (ha : o.agreed = true) : exec (.laceIdentityReceive k o) s =
      .next (if s.identConflict o ≠ 0 then s.stopLink k (s.identConflict o) else s.identDone k o) := by
  have hstay : (if s.lkState k = lkStopped ∧ s.identConflict o = 0 then s.setLkState k lkIdent else s) = s :=
    if_neg fun hs => absurd (h.symm.trans hs.1) (by decide)
  have hexec : exec (.laceIdentityReceive k o) s = execLaceIdentityReceive k o s := rfl
  rw [hexec, execLaceIdentityReceive]
  dsimp only
  rw [hstay, if_pos h, if_neg (by simp [ha]; omega)]

/-- A link that a duplicate identity stops. -/
theorem State.stopLink_shows (k : Nat) : (s.stopLink k 4).lkState k = lkStopped ∧ (s.stopLink k 4).fld F.WLT_LK_STAT_REASON k = 4 ∧
    bit Irq.WLT_LK_STOPPED.bit ((s.stopLink k 4).reg .WLT_INT_STAT 0) = true := by
  have heq : s.stopLink k 4 = ((((s.setLkState k lkStopped).setFld F.WLT_LK_STAT_REASON k 4).noteLink k).event Irq.WLT_LK_STOPPED k 4) := by
    unfold State.stopLink
    exact if_neg (by decide)
  have hf : Frame ⟨[.sent, .host, .awl], .GLB_INT_SUM :: .WLT_INT_STAT :: .WLT_LK_SRC :: awlFoot⟩
      ((s.setLkState k lkStopped).setFld F.WLT_LK_STAT_REASON k 4) (s.stopLink k 4) := by
    rw [heq]
    exact .le (by decide) (Frame.refl .none _).noteLink.event
  refine ⟨?_, (hf.fld (by decide) k).trans (State.fld_setFld_fits _ (by decide) (by decide) k), ?_⟩
  · exact (hf.fld (by decide) k).trans ((State.fld_setFld_apart _ (by decide) _ _ _).trans
      (State.fld_setFld_fits _ (by decide) (by decide) k))
  · rw [heq]
    exact State.event_sets _ Irq.WLT_LK_STOPPED rfl (by decide) (by decide) _ _

/-! ### A link comes UP (R490) -/

/-- A cause that is set stays set when another is. -/
theorem State.irq_keeps_bit (c : Irq) {st : Reg} (hne : st ≠ .GLB_INT_SUM) {b : Nat} (hw : b < st.width)
    (h : bit b (s.reg st 0) = true) : bit b ((s.irq c).reg st 0) = true := by
  have hsum : ∀ t : State, ∀ was, (t.refreshSum c.blk was).reg st 0 = t.reg st 0 := fun t was =>
    (State.refreshSum_frame (f := ⟨[.host, .sent], [.GLB_INT_SUM]⟩) (.refl _ t) (by decide) (by decide)).regs _ _ (by simpa using hne)
  have hlt := hw.trans_le st.width_le
  unfold State.irq
  split
  next => exact h
  next st' _ =>
    split
    next => exact h
    next =>
      rw [hsum]
      by_cases hst : st = st'
      · subst hst
        rw [State.setFld, State.reg_setReg_same, bit, Reg.fit_getLsbD _ _ _ hlt, insertBits_getLsbD _ _ _ _ _ hlt]
        rw [bit] at h
        rw [h, decide_eq_true hw, Bool.true_and]
        split
        next hb =>
          have hlt : b < c.bit + 1 := hb.2
          rw [Nat.sub_eq_zero_of_le (Nat.le_of_lt_succ hlt)]
          rfl
        next => rfl
      · rw [State.reg_setFld_mk_ne _ hst]
        exact h

/-- The state of a link that comes UP, once its lanes are shown. -/
def State.upShown (k m : Nat) : State :=
  (((s.setLkState k lkUp).setFlag F.WLT_LK_STAT_BELOW_MAX k (decide ((s.link k).target < (s.link k).agreed))).setFld F.TWL_LK_STAT_RATE k
    (s.link k).target).carry k m

/-- The state of a link that is UP, before that is told. -/
def State.upStored (k m recId : Nat) : State :=
  let u := s.upShown k m
  let v := u.setLink k { u.link k with dropped := missingLane m, recal := false, fails := 0, waiting := false }
  let w := v.setFld F.WLT_LK_BRINGUP_MS k (satTo 16 ((v.tick - (v.link k).since) * 1000 / 32768))
  (w.storeTrain k recId).noteLink k

theorem State.linkComesUp_eq (k m recId : Nat) : s.linkComesUp k m recId =
    if decide ((s.link k).target < (s.link k).agreed) then ((s.upStored k m recId).irq Irq.WLT_LK_UP).irq Irq.WLT_LK_BELOW_MAX
    else (s.upStored k m recId).irq Irq.WLT_LK_UP := rfl

theorem State.linkComesUp_keeps (k m recId : Nat) :
    Frame ⟨[.sent, .host, .net], [.GLB_INT_SUM, .WLT_INT_STAT, .WLT_LK_SRC, .WLT_LK_BRINGUP]⟩ (s.upShown k m) (s.linkComesUp k m recId) := by
  have h : Frame ⟨[.net], [.WLT_LK_SRC, .WLT_LK_BRINGUP]⟩ (s.upShown k m) (s.upStored k m recId) :=
    .le (by decide) (Frame.refl .none (s.upShown k m)).setLink.setFld.storeTrain.noteLink
  rw [State.linkComesUp_eq]
  exact .le (by decide) (.branch h.irq.irq h.irq)

theorem State.linkComesUp_shows (k m recId : Nat) : (s.linkComesUp k m recId).lkState k = lkUp ∧
    (s.linkComesUp k m recId).fld F.WLT_LK_STAT_LANE_MASK k = m % 16 ∧ (s.linkComesUp k m recId).fld F.TWL_LK_STAT_LANES k = maskLanes m ∧
    (s.linkComesUp k m recId).flag F.WLT_LK_STAT_BELOW_MAX k = decide ((s.link k).target < (s.link k).agreed) ∧
    bit Irq.WLT_LK_UP.bit ((s.linkComesUp k m recId).reg .WLT_INT_STAT 0) = true := by
  have hf := s.linkComesUp_keeps k m recId
  obtain ⟨hmask, hlanes, -, -⟩ := (((s.setLkState k lkUp).setFlag F.WLT_LK_STAT_BELOW_MAX k (decide ((s.link k).target <
    (s.link k).agreed))).setFld F.TWL_LK_STAT_RATE k (s.link k).target).carry_shows k m
  refine ⟨(hf.fld (by decide) k).trans ?_, (hf.fld (by decide) k).trans hmask, (hf.fld (by decide) k).trans hlanes,
    (hf.flag (by decide) k).trans ?_, ?_⟩
  · rw [State.upShown, State.carry_fld _ (by decide) (by decide) (by decide), State.fld_setFld_apart _ (by decide),
      State.fld_setFlag_apart _ (by decide)]
    exact State.fld_setFld_fits _ (by decide) (by decide) k
  · rw [State.upShown, State.flag, State.carry_fld _ (by decide) (by decide) (by decide), State.fld_setFld_apart _ (by decide)]
    exact State.flag_setFlag_same _ _ _ _ (by decide) rfl
  · have hup : bit Irq.WLT_LK_UP.bit (((s.upStored k m recId).irq Irq.WLT_LK_UP).reg .WLT_INT_STAT 0) = true :=
      State.irq_sets _ Irq.WLT_LK_UP rfl (by decide) (by decide)
    rw [State.linkComesUp_eq]
    split
    · exact State.irq_keeps_bit _ _ (by decide) (by decide) hup
    · exact hup

variable {s} in
theorem exec_laceTrainDone_train {k : Fin 16} {l : List LaneTrain} (h : s.lkState k = lkTrain) : exec (.laceTrainDone k l) s = .next
    (((s.setLink k { s.link k with trained := Tbl.set (fun _ => []) (s.link k).target l (s.link k).trained }).loadLink k l).setLkState k
      lkQual) :=
  congrArg Host.Outcome.next (if_pos h)

theorem exec_laceQualEnd_qual {s : State} {k : Fin 16} (qs : List LaneQual) (recId : Nat) (h : s.lkState k = lkQual) :
    exec (.laceQualEnd k qs recId) s = .next (if maskLanes (s.qualMask (s.link k).target qs) < 3 then s.stepFails k
      else if (s.link k).fallen || decide ((s.link k).agreed ≤ (s.link k).target) then
        (s.setFld F.TWL_LK_STAT_RATE k (s.link k).target).linkComesUp k (s.qualMask (s.link k).target qs) recId
      else (s.setFld F.TWL_LK_STAT_RATE k (s.link k).target).stepTo k ((s.link k).target + 1) 1) :=
  congrArg Host.Outcome.next (if_neg (not_not_intro h))

/-! ### Lanes that fail and are added again (R118, R494, R497) -/

/-- The state of a link of four lanes that has lost lane j, before that is told. -/
def State.laneDropped (k j resent : Nat) : State :=
  let u := s.carry k (15 - 2 ^ j)
  ((u.setLink k { u.link k with dropped := some j, recal := false, fails := 0, waiting := false }).count .WLT_LK_DEGRADES k 1).count
    .WLT_LK_REPLAY k resent

variable {s} in
theorem State.laneFails_degrades {k resent : Nat} (j : Fin 4) (h : s.lkState k = lkUp ∨ s.lkState k = lkDraining)
    (hm : s.fld F.WLT_LK_STAT_LANE_MASK k = 15) : s.laneFails k j resent =
      (((s.laneDropped k j resent).emit (.laneLost k j)).event Irq.TWL_LINK_DEGRADED k j).shedLink k := by
  have hj : laneInMask 15 j = true := by
    revert j
    decide
  rw [State.laneFails]
  dsimp only
  rw [if_neg (by omega), hm, hj, if_neg (by decide), if_neg (by decide)]
  rfl

variable {s} in
theorem State.laneFails_falls {k j resent : Nat} (h : s.lkState k = lkUp ∨ s.lkState k = lkDraining)
    (hm : s.fld F.WLT_LK_STAT_LANE_MASK k ≠ 15) (hj : laneInMask (s.fld F.WLT_LK_STAT_LANE_MASK k) j = true) :
    s.laneFails k j resent = s.linkFall k 1 true := by
  rw [State.laneFails]
  dsimp only
  rw [if_neg (by omega), hj, if_neg (by decide), if_pos hm]

theorem State.laneDropped_shows (k j resent : Nat) : (s.laneDropped k j resent).reg .WLT_LK_DEGRADES k = s.counted .WLT_LK_DEGRADES k 1 ∧
    (s.laneDropped k j resent).reg .WLT_LK_REPLAY k = s.counted .WLT_LK_REPLAY k resent ∧
    ((s.laneDropped k j resent).link k).dropped = some j := by
  have hf : Frame ⟨[.net], [.TWL_LK_STAT, .WLT_LK_STAT]⟩ s (s.carry k (15 - 2 ^ j)) := (Frame.refl .none s).carry.le (by decide)
  unfold State.laneDropped
  refine ⟨?_, ?_, ?_⟩
  · rw [State.reg_count_ne _ (by decide), State.reg_count_counted]
    exact State.counted_congr ((State.setLink_reg _ _ _ _ _).trans (hf.regs _ _ (by decide))) _
  · rw [State.reg_count_counted]
    exact State.counted_congr ((State.reg_count_ne _ (by decide) _ _ _).trans ((State.setLink_reg _ _ _ _ _).trans
      (hf.regs _ _ (by decide)))) _
  · rw [State.count_link, State.count_link, State.setLink_link]

theorem State.loadTrain_link (i : Nat) (t : LaneTrain) (k : Nat) : (s.loadTrain i t).link k = s.link k := by
  refine (foldl_keeps _ (State.link · k) (fun u j => ?_) _).trans rfl
  exact u.setReg_link _ _ _ k

theorem State.loadLink_link (i : Nat) (l : List LaneTrain) (k : Nat) : (s.loadLink i l).link k = s.link k :=
  foldl_keeps _ (State.link · k) (fun u _ => u.loadTrain_link _ _ _) _

theorem State.link_congr {s t : State} (h : t.net = s.net) (k : Nat) : t.link k = s.link k := congrArg (fun n : Net => Tbl.get _ n.links k) h

theorem State.storeTrain_dropped (k id : Nat) : ((s.storeTrain k id).link k).dropped = (s.link k).dropped := by
  rw [State.storeTrain, State.setLink_link]

/-- The state of a link whose dropped lane j carries cells again, before its record is stored. -/
def State.readded (k j : Nat) (t : LaneTrain) : State :=
  let x := s.link k
  let rate := s.fld F.WLT_LK_STAT_RATE k
  let l := (Tbl.get (fun _ => []) x.trained rate).set j t
  ((s.setLink k { x with
    dropped := none, recal := false, fails := 0, waiting := false, trained := Tbl.set (fun _ => []) rate l x.trained }).loadTrain
      (160 + 4 * k + j) t).carry k 15

/-- A re-added lane's coefficients are stored with the link's record, when there is one. -/
def State.restored (k : Nat) : State := match (s.link k).record with | some r => s.storeTrain k r.id | none => s

theorem State.restored_keeps (k : Nat) : Frame ⟨[.net], []⟩ s (s.restored k) ∧ ((s.restored k).link k).dropped = (s.link k).dropped := by
  unfold State.restored
  split
  · exact ⟨(Frame.refl .none s).storeTrain.le (by decide), s.storeTrain_dropped _ _⟩
  · exact ⟨.refl _ s, rfl⟩

theorem exec_laceReaddAttempt_due {s : State} {k : Fin 16} {t : LaneTrain} {q : LaneQual} {j : Nat} (hd : (s.link k).dropped = some j)
    (hu : s.lkState k = lkUp) (hw : (s.link k).waiting = false) (ha : s.flag F.WLT_LK_CFG_AUTO_READD k = true) :
    exec (.laceReaddAttempt k t q) s = .next (if !s.qualifies (s.fld F.WLT_LK_STAT_RATE k) q then s.readdFails k
      else ((((s.readded k j t).restored k).noteLink k).irq Irq.WLT_READD)) := by
  have hexec : exec (.laceReaddAttempt k t q) s = execLaceReaddAttempt k t q s := rfl
  rw [hexec, execLaceReaddAttempt]
  dsimp only
  rw [hd]
  dsimp only
  rw [if_neg (by simp [hu, hw, ha])]
  rfl

/-! ### Writes of WLT_LK_CFG and WLT_LK_CTRL (R484, R490, R492) -/

/-- A write in range, of a link that does not drain or is killed, is stored and takes effect. -/
theorem State.writeLkCfg_stores {s : State} {src : Requester} {k : Nat} {v : Word} (ho : s.closedTo .WLT_LK_CFG src = false)
    (hd : s.lkState k ≠ lkDraining ∨ (F.WLT_LK_CFG_KILL.on v && !F.WLT_LK_CFG_ENABLE.on v) = true) (hb : badLkCfg v = false)
    (hn : (F.WLT_LK_CFG_ENABLE.on v && s.lkState k == lkDown && s.domainFailed (6 + k / 4)) = false) :
    s.writeLkCfg src k v =
      if F.WLT_LK_CFG_ENABLE.on v then (if s.lkState k = lkDown then (s.store .WLT_LK_CFG k v).startIdent k else s.store .WLT_LK_CFG k v)
      else if s.lkState k = lkDown then s.store .WLT_LK_CFG k v
      else if F.WLT_LK_CFG_KILL.on v && !F.WLT_LK_CFG_ENABLE.on v then (s.store .WLT_LK_CFG k v).linkFall k 3 false
      else if s.lkState k = lkUp ∨ s.lkState k = lkHold then (s.store .WLT_LK_CFG k v).setLkState k lkDraining
      else (s.store .WLT_LK_CFG k v).linkFall k 2 false := by
  rw [State.writeLkCfg, State.guarded_of_open s ho]
  dsimp only
  rw [if_neg (by rcases hd with hd | hd <;> simp [hd]), hb, if_neg (by decide), hn, if_neg (by decide)]

theorem State.writeLkCtrl_recal {s : State} {src : Requester} (ho : s.closedTo .WLT_LK_CTRL src = false) (k : Nat) (j : Fin 4) :
    s.writeLkCtrl src k (BitVec.ofNat 64 (0x40000000 + j)) = s.lkRecal k j := by
  have hfields : F.WLT_LK_CTRL_RETRAIN.on (BitVec.ofNat 64 (0x40000000 + j)) = false ∧
      F.WLT_LK_CTRL_RECAL.on (BitVec.ofNat 64 (0x40000000 + j)) = true ∧
      F.WLT_LK_CTRL_LANE.of (BitVec.ofNat 64 (0x40000000 + j)) = j := by
    revert j
    decide
  obtain ⟨hretrain, hrecal, hlane⟩ := hfields
  rw [State.writeLkCtrl, State.guarded_of_open s ho, hretrain, hrecal, hlane, if_neg (by decide), if_pos rfl]

theorem State.writeLkCtrl_retrain {s : State} {src : Requester} (ho : s.closedTo .WLT_LK_CTRL src = false) (k : Nat) :
    s.writeLkCtrl src k 0x80000000 = s.lkRetrain k := by
  rw [State.writeLkCtrl, State.guarded_of_open s ho]
  exact if_pos (by decide)

end Sys2Proof.Machine

end

section
open Sys2Proof Sys2Proof.Machine

/-- Settles O45, clause by clause: a link enabled, identified, stepped, trained, qualified, drained and killed; lanes that fail and are
added again; and the control register. RETRAIN leads to IDENT by log 94, and reason 8 of a link that loses every lane is log 93. -/
theorem laceLinksComeUpDegradeAndFall : Obligations.LaceLinksComeUpDegradeAndFall := by
  unfold Obligations.LaceLinksComeUpDegradeAndFall
  refine ⟨?enable, ?enableBad, ?enableDraining, ?agrees, ?own, ?timeout, ?retry, ?step, ?train, ?up, ?next, ?again, ?lowest, ?disable,
    ?drained, ?kill, ?degrade, ?second, ?secondLost, ?allLost, ?readd, ?readdFails, ?readdRetry, ?retrain, ?retrainOff, ?recal,
    ?recalBusy⟩
  case enable =>
    intro src k w s ho hd hb hn
    have hexec : exec (.laceLinkEnable src k w) s = .next (s.writeLkCfg src k (F.WLT_LK_CFG_ENABLE.put 1 (w.setWidth 64))) := rfl
    have hen : F.WLT_LK_CFG_ENABLE.on (F.WLT_LK_CFG_ENABLE.put 1 (w.setWidth 64)) = true := Fld.on_put_same _ _ _ (by decide)
    rw [hexec, State.writeLkCfg_stores ho (.inl (by rw [hd]; decide)) hb (by rw [hn, Bool.and_false]), hen, if_pos rfl, if_pos hd]
    obtain ⟨hst, hrate, -, hresp⟩ := (s.store .WLT_LK_CFG k (F.WLT_LK_CFG_ENABLE.put 1 (w.setWidth 64))).startIdent_shows k
    refine .next ⟨?_, hst, hrate, hresp.trans rfl⟩
    rw [(Frame.refl .none (s.store .WLT_LK_CFG k _)).startIdent.regs _ _ (by decide), State.reg_store_same]
  case enableBad =>
    intro src k w s ho hd hb
    have hexec : exec (.laceLinkEnable src k w) s = .next (s.writeLkCfg src k (F.WLT_LK_CFG_ENABLE.put 1 (w.setWidth 64))) := rfl
    rw [hexec, State.writeLkCfg, State.guarded_of_open s ho]
    exact .next ((if_neg fun h => hd h.1).trans (if_pos hb))
  case enableDraining =>
    intro src k w s ho hd hk
    have hexec : exec (.laceLinkEnable src k w) s = .next (s.writeLkCfg src k (F.WLT_LK_CFG_ENABLE.put 1 (w.setWidth 64))) := rfl
    rw [hexec, State.writeLkCfg, State.guarded_of_open s ho]
    exact .next (if_pos ⟨hd, by rw [hk, Bool.false_and]⟩)
  case agrees =>
    intro k o s h hl ha hc
    rw [exec_laceIdentityReceive_agrees h hl ha, if_neg (not_not_intro hc), State.identDone_eq]
    obtain ⟨hst, hattempt, hlink⟩ := State.stepTo_shows (s := s.identified k o) (attempt := 1) (by decide) k (s.firstRate k o)
    obtain ⟨hstrap, hpeer, hagreed, hid⟩ := s.identified_shows k o
    have hf : Frame ⟨[.sent, .net], [.WLT_LK_STAT]⟩ (s.identified k o) ((s.identified k o).stepTo k (s.firstRate k o) 1) :=
      (Frame.refl .none _).stepTo.le (by decide)
    refine .next ⟨hst, (hf.fld (by decide) k).trans hstrap, (hf.fld (by decide) k).trans hpeer, ?_, ?_, ?_, hattempt⟩
    · rw [hlink]
      exact hagreed
    · rw [hlink]
      exact hid
    · rw [hlink]
      exact (s.firstRate_cases k o).imp_right fun h => h.trans hagreed.symm
  case own =>
    intro k o s h hl ha hid
    have hc : s.identConflict o = 4 := if_pos (.inr hid)
    rw [exec_laceIdentityReceive_agrees h hl ha, hc, if_pos (by decide)]
    exact .next (s.stopLink_shows k)
  case timeout =>
    intro k s h
    have hexec : exec (.laceIdentTimeout k) s = .next ((s.setLkState k lkIdent).setFld F.WLT_LK_STAT_REASON k 7) :=
      congrArg Host.Outcome.next (if_pos h)
    rw [hexec]
    refine .next ⟨?_, State.fld_setFld_fits _ (by decide) (by decide) k, ?_⟩
    · exact (State.fld_setFld_apart _ (by decide) _ _ _).trans (State.fld_setFld_fits _ (by decide) (by decide) k)
    · exact (State.reg_setFld_ne _ (by decide) _ _ _).trans (State.reg_setFld_ne _ (by decide) _ _ _)
  case retry =>
    intro k s he hd
    have hexec : exec (.laceRetry k) s = .next (s.startIdent k) := congrArg Host.Outcome.next (if_pos (by rw [he, hd]; rfl))
    obtain ⟨hst, hrate, hsent, -⟩ := s.startIdent_shows k
    rw [hexec]
    exact .next ⟨hst, hrate, hsent⟩
  case step =>
    intro k s h ht
    have hexec : exec (.laceRateStep k) s = .next ((s.setLkState k lkTrain).setFld F.WLT_LK_STAT_RATE k (s.link k).target) :=
      congrArg Host.Outcome.next (if_pos h)
    rw [hexec]
    refine .next ⟨?_, State.fld_setFld_fits _ (by decide) ht k⟩
    exact (State.fld_setFld_apart _ (by decide) _ _ _).trans (State.fld_setFld_fits _ (by decide) (by decide) k)
  case train =>
    intro k lanes s h
    rw [exec_laceTrainDone_train h]
    refine .next ⟨State.fld_setFld_fits _ (by decide) (by decide) k, ?_⟩
    rw [State.setLkState, State.setFld_link, State.loadLink_link, State.setLink_link]
    exact Tbl.get_set_same _ _ _ _
  case up =>
    intro k qs recId s h hm ha _
    rw [exec_laceQualEnd_qual qs recId h, if_neg (by omega), if_pos (by simpa using ha)]
    exact .next (State.linkComesUp_shows _ k _ recId)
  case next =>
    intro k qs recId s h hm hf ha
    obtain ⟨hst, hattempt, hlink⟩ := State.stepTo_shows (s := s.setFld F.TWL_LK_STAT_RATE k (s.link k).target) (attempt := 1) (by decide) k
      ((s.link k).target + 1)
    rw [exec_laceQualEnd_qual qs recId h, if_neg (by omega), if_neg (by simp [hf, ha])]
    exact .next ⟨hst, congrArg Link.target hlink, hattempt⟩
  case again =>
    intro k qs recId s h hm hf hn
    have hfails : s.stepFails k = s.stepTo k (s.link k).target (s.fld F.WLT_LK_STAT_ATTEMPT k + 1) := by
      rw [State.stepFails]
      dsimp only
      rw [hf, if_neg (by decide), if_pos hn]
    obtain ⟨hst, hattempt, hlink⟩ := State.stepTo_shows (s := s) (attempt := s.fld F.WLT_LK_STAT_ATTEMPT k + 1) (by omega) k
      (s.link k).target
    rw [exec_laceQualEnd_qual qs recId h, if_pos hm, hfails]
    exact .next ⟨hst, congrArg Link.target hlink, hattempt⟩
  case lowest =>
    intro k qs recId s h hm hf hn ht
    have hfails : s.stepFails k = s.linkFall k 6 false := by
      rw [State.stepFails]
      dsimp only
      rw [hf, if_neg (by decide), if_neg (by omega), if_pos ht]
    obtain ⟨hst, hreason, -, hdowns⟩ := State.linkFall_shows (s := s) (reason := 6) (by decide) k false
    rw [exec_laceQualEnd_qual qs recId h, if_pos hm, hfails]
    exact .next ⟨hst, hreason, hdowns⟩
  case disable =>
    intro src k s ho hu hb hk
    have hexec : exec (.laceLinkDisable src k) s = .next (s.writeLkCfg src k (F.WLT_LK_CFG_ENABLE.put 0 (s.reg .WLT_LK_CFG k))) := rfl
    have hen : F.WLT_LK_CFG_ENABLE.on (F.WLT_LK_CFG_ENABLE.put 0 (s.reg .WLT_LK_CFG k)) = false := Fld.on_put_same _ _ _ (by decide)
    have hkill : F.WLT_LK_CFG_KILL.on (F.WLT_LK_CFG_ENABLE.put 0 (s.reg .WLT_LK_CFG k)) = false :=
      (Fld.on_put_disjoint _ _ (by decide) (by decide)).trans hk
    have hdown : s.lkState k ≠ lkDown ∧ s.lkState k ≠ lkDraining := by
      rcases hu with hu | hu <;> rw [hu] <;> decide
    rw [hexec, State.writeLkCfg_stores ho (.inl hdown.2) hb (by rw [hen, Bool.false_and, Bool.false_and]), hen, hkill, if_neg (by decide),
      if_neg hdown.1, if_neg (by decide), if_pos hu]
    exact .next ⟨State.fld_setFld_fits _ (by decide) (by decide) k, rfl⟩
  case drained =>
    intro k s h
    obtain ⟨hst, hreason, hcap, hdowns⟩ := State.linkFall_shows (s := s) (reason := 2) (by decide) k false
    have hexec : exec (.laceDrainDone k) s = .next (s.linkFall k 2 false) := congrArg Host.Outcome.next (if_pos h)
    rw [hexec]
    exact .next ⟨hst, hreason, hcap, hdowns⟩
  case kill =>
    intro src k s ho hd hb
    have hexec : exec (.laceLinkKill src k) s = .next (s.writeLkCfg src k (F.WLT_LK_CFG_KILL.put 1 (F.WLT_LK_CFG_ENABLE.put 0
      (s.reg .WLT_LK_CFG k)))) := rfl
    generalize hv : F.WLT_LK_CFG_KILL.put 1 (F.WLT_LK_CFG_ENABLE.put 0 (s.reg .WLT_LK_CFG k)) = v at *
    have hen : F.WLT_LK_CFG_ENABLE.on v = false := by
      rw [← hv]
      exact (Fld.on_put_disjoint _ _ (by decide) (by decide)).trans (Fld.on_put_same _ _ _ (by decide))
    have hkill : F.WLT_LK_CFG_KILL.on v = true := by
      rw [← hv]
      exact Fld.on_put_same _ _ _ (by decide)
    obtain ⟨hst, hreason, hcap, -⟩ := State.linkFall_shows (s := s.store .WLT_LK_CFG k v) (reason := 3) (by decide) k false
    rw [hexec, State.writeLkCfg_stores ho (.inr (by rw [hen, hkill]; rfl)) hb (by rw [hen, Bool.false_and, Bool.false_and]), hen, hkill,
      if_neg (by decide), if_neg hd, if_pos (by decide)]
    refine .next ⟨hst, hreason, hcap, ?_⟩
    rw [(Frame.refl .none (s.store .WLT_LK_CFG k v)).linkFall.parts .resp (by decide)]
    rfl
  case degrade =>
    intro k j resent s h hm
    have hexec : exec (.laceLaneFail k j resent) s = .next (s.laneFails k j resent) := rfl
    have hc : Frame ⟨[.net], [.WLT_LK_DEGRADES, .WLT_LK_REPLAY]⟩ (s.carry k (15 - 2 ^ j.val)) (s.laneDropped k j resent) :=
      .le (by decide) (Frame.refl .none (s.carry k (15 - 2 ^ j.val))).setLink.count.count
    have hf : Frame ⟨[.sent, .host, .awl, .twl], .GLB_INT_SUM :: .TWL_INT_STAT :: .TWL_LK_SHED :: awlFoot⟩ (s.laneDropped k j resent)
        ((((s.laneDropped k j resent).emit (.laneLost k j)).event Irq.TWL_LINK_DEGRADED k j).shedLink k) :=
      .le (by decide) (Frame.refl .none (s.laneDropped k j resent)).emit.event.shedLink
    obtain ⟨hmask, hlanes, hcap, -⟩ := s.carry_shows k (15 - 2 ^ j.val)
    obtain ⟨hdegrades, hreplay, hdropped⟩ := s.laneDropped_shows k j resent
    rw [maskLanes_less_one] at hlanes hcap
    rw [hexec, State.laneFails_degrades j h hm]
    refine .next ⟨?_, ?_, ?_, ?_, ?_, ?_, ?_⟩
    · rw [hf.fld (by decide), hc.fld (by decide), hmask]
      exact Nat.mod_eq_of_lt (Nat.lt_succ_of_le (Nat.sub_le _ _))
    · rw [hf.fld (by decide), hc.fld (by decide), hlanes]
    · rw [hf.fld (by decide), hc.fld (by decide), hcap]
    · rw [State.lkState, hf.fld (by decide), hc.fld (by decide), State.carry_fld _ (by decide) (by decide) (by decide)]
      rfl
    · rw [State.link_congr (hf.parts .net (by decide)), hdropped]
    · rw [hf.regs _ _ (by decide), hdegrades]
    · rw [hf.regs _ _ (by decide), hreplay]
  case second =>
    intro k j resent s h hm hj
    have hexec : exec (.laceLaneFail k j resent) s = .next (s.laneFails k j resent) := rfl
    obtain ⟨hst, hreason, -, -⟩ := State.linkFall_shows (s := s) (reason := 1) (by decide) k true
    rw [hexec, State.laneFails_falls (.inl h) hm hj]
    exact .next ⟨hst, hreason, State.linkFall_sets _ _⟩
  case secondLost =>
    intro k j s h hm hj
    obtain ⟨hst, hreason, hcap, hdowns⟩ := State.linkFall_shows (s := s) (reason := 1) (by decide) k true
    have hexec : exec (.laceSecondLaneLost k j) s = .next (s.linkFall k 1 true) := congrArg Host.Outcome.next (if_pos ⟨.inl h, hm, hj⟩)
    rw [hexec]
    exact .next ⟨hst, hreason, hcap, hdowns⟩
  case allLost =>
    intro k s h
    obtain ⟨hst, hreason, hcap, -⟩ := State.linkFall_shows (s := s) (reason := 8) (by decide) k true
    have hexec : exec (.laceAllLanesLost k) s = .next (s.linkFall k 8 true) := congrArg Host.Outcome.next (if_pos h)
    rw [hexec]
    exact .next ⟨hst, hreason, hcap, State.linkFall_sets _ _⟩
  case readd =>
    intro k t q j s hd hu hw ha hq
    obtain ⟨hkeep, hdropped⟩ := (s.readded k j t).restored_keeps k
    have hf : Frame ⟨[.sent, .host, .net], [.GLB_INT_SUM, .WLT_INT_STAT, .WLT_LK_SRC]⟩ (s.readded k j t)
        ((((s.readded k j t).restored k).noteLink k).irq Irq.WLT_READD) := .le (by decide) hkeep.noteLink.irq
    have hlink : (s.readded k j t).fld F.WLT_LK_STAT_LANE_MASK k = 15 ∧ (s.readded k j t).fld F.TWL_LK_STAT_LANES k = 4 ∧
        ((s.readded k j t).link k).dropped = none := by
      unfold State.readded
      extract_lets x rate l
      obtain ⟨hmask, hlanes, -, hlink⟩ := ((s.setLink k { x with dropped := none, recal := false, fails := 0, waiting := false, trained := Tbl.set (fun _ => []) rate l x.trained }).loadTrain (160 + 4 * k + j) t).carry_shows k 15
      refine ⟨hmask, hlanes, ?_⟩
      rw [hlink, State.loadTrain_link, State.setLink_link]
    obtain ⟨hmask, hlanes, hnone⟩ := hlink
    rw [exec_laceReaddAttempt_due hd hu hw ha, hq, if_neg (by decide)]
    refine .next ⟨?_, ?_, ?_, State.irq_sets _ Irq.WLT_READD rfl (by decide) (by decide)⟩
    · rw [hf.fld (by decide), hmask]
    · rw [hf.fld (by decide), hlanes]
    · rw [State.irq_link, State.noteLink, State.setFld_link, hdropped, hnone]
  case readdFails =>
    intro k t q j s hd hu hw ha hq
    have hf : Frame ⟨[.freeCtr, .sent, .host, .awl], .GLB_INT_SUM :: awlFoot⟩ (s.setLink k { s.link k with fails := (s.link k).fails + 1, waiting := decide (3 ≤ (s.link k).fails + 1) }) (s.readdFails k) :=
      .le (by decide) (Frame.refl .none _).awlUnstated
    have hlink : (s.readdFails k).link k = { s.link k with fails := (s.link k).fails + 1, waiting := decide (3 ≤ (s.link k).fails + 1) } :=
      (State.link_congr (hf.parts .net (by decide)) _).trans (State.setLink_link _ _ _)
    rw [exec_laceReaddAttempt_due hd hu hw ha, hq, if_pos (by decide)]
    exact .next ⟨congrArg Link.fails hlink, congrArg Link.waiting hlink, hf.regs _ _ (by decide)⟩
  case readdRetry =>
    intro k s
    have hexec : exec (.laceReaddRetry k) s = .next (s.setLink k { s.link k with waiting := false }) := rfl
    rw [hexec]
    exact .next ⟨State.setLink_link _ _ _, rfl⟩
  case retrain =>
    intro src k s ho he
    have hexec : exec (.laceLinkRetrain src k) s = .next (s.writeLkCtrl src k 0x80000000) := rfl
    obtain ⟨hst, hrate, -, -⟩ := s.startIdent_shows k
    rw [hexec, State.writeLkCtrl_retrain ho, State.lkRetrain, if_pos he]
    exact .next ⟨(State.answer_fld _ _ _ _).trans hst, (State.answer_fld _ _ _ _).trans hrate, State.answer_resp _ _⟩
  case retrainOff =>
    intro src k s ho he
    have hexec : exec (.laceLinkRetrain src k) s = .next (s.writeLkCtrl src k 0x80000000) := rfl
    rw [hexec, State.writeLkCtrl_retrain ho, State.lkRetrain, he, if_neg (by decide)]
    exact .next rfl
  case recal =>
    intro src k j s ho hu hm hl
    have hexec : exec (.laceLinkRecal src k j) s = .next (s.writeLkCtrl src k (BitVec.ofNat 64 (0x40000000 + j))) := rfl
    obtain ⟨hmask, hlanes, -, -⟩ := s.carry_shows k (15 - 2 ^ j.val)
    rw [hexec, State.writeLkCtrl_recal ho, State.lkRecal]
    dsimp only
    rw [if_neg (by simp [hu, hm]; omega)]
    refine .next ⟨?_, ?_, ?_, ?_, rfl⟩
    · rw [State.answer_fld, State.setLink_fld, hmask]
      exact Nat.mod_eq_of_lt (Nat.lt_succ_of_le (Nat.sub_le _ _))
    · rw [State.answer_fld, State.setLink_fld, hlanes, maskLanes_less_one]
    · rw [State.answer_link, State.setLink_link]
    · rw [State.answer_link, State.setLink_link]
  case recalBusy =>
    intro src k j s ho hu hm
    have hexec : exec (.laceLinkRecal src k j) s = .next (s.writeLkCtrl src k (BitVec.ofNat 64 (0x40000000 + j))) := rfl
    rw [hexec, State.writeLkCtrl_recal ho]
    exact .next (if_pos (.inr (.inl hm)))

end

section
/-! SUPPORT of O47: alerts, units and their spares, the repair map, the core voltage, scrubs, and drains at their bound. -/

namespace Sys2Proof.Machine

variable (s : State)

/-! ### ALERT_N (R623) -/

theorem State.alert_sets {b : Nat} (h : b + 1 ≤ 32) : (s.alert b).fld ⟨.GLB_ALERT_STAT, b, 1⟩ 0 = 1 := by
  have hf : Frame ⟨[.host, .sent], [.GLB_INT_SUM, .GLB_INT_STAT]⟩ (s.setFld ⟨.GLB_ALERT_STAT, b, 1⟩ 0 1) (s.alert b) :=
    State.refreshAlert_frame (.refl _ _) (by decide) (by decide)
  rw [State.fld, hf.regs .GLB_ALERT_STAT 0 (by decide)]
  exact State.fld_setFld_fits _ h (show 1 < 2 ^ 1 by decide) 0

theorem State.alarm_alerts {b : Nat} (h : b + 1 ≤ 32) (c : Irq) (obj detail : Nat) :
    (s.alarm c b obj detail).fld ⟨.GLB_ALERT_STAT, b, 1⟩ 0 = 1 := by
  rw [State.fld, State.alarm, State.awlCause_reg _ _ _ _ _ (show Reg.GLB_ALERT_STAT ∉ awlRegs by decide)]
  exact State.alert_sets _ h

/-- A cause that is told as an alarm reads as set in its block's INT_STAT. -/
theorem State.alarm_sets (c : Irq) {st : Reg} (h : c.blk.intStat = some st)
    (hne : st ∉ Reg.GLB_ALERT_STAT :: Reg.GLB_INT_STAT :: Reg.GLB_INT_SUM :: awlRegs) (hw : c.bit < st.width) (b obj detail : Nat) :
    bit c.bit ((s.alarm c b obj detail).reg st 0) = true := by
  have hsum : st ≠ .GLB_INT_SUM := fun h => hne (by simp [h])
  have halert : st ∉ [.GLB_ALERT_STAT, .GLB_INT_SUM, .GLB_INT_STAT] := fun h => hne (by simp only [List.mem_cons] at h ⊢; tauto)
  rw [State.alarm, State.awlCause_reg _ _ _ _ _ (fun h => hne (by simp [h])), State.alert_reg _ _ halert]
  exact s.irq_sets c h hsum hw

theorem satTo_lt (n v : Nat) : satTo n v < 2 ^ n := by
  have := Nat.two_pow_pos n
  unfold satTo
  split <;> omega

/-! ### Units and spares (R537, R539) -/

theorem isUnit_of_lt {u : Nat} (h : u < 41) : isUnit u = true := by
  rw [isUnit, decide_eq_true (by omega), Bool.true_or]

/-- The registers that say whether a unit drains or its class swaps. -/
def unitRegs : List Reg := [.RSL_UNIT_STAT, .NIM_STATUS, .TWD_CORE_STAT, .VMP_PIPE_STAT, .TWL_SP_STAT, .TWL_STATUS]

variable {s}

theorem unitState_congr {t : State} (h : ∀ r ∈ unitRegs, ∀ i, t.reg r i = s.reg r i) (u : Nat) : t.unitState u = s.unitState u := by
  simp only [unitRegs, List.mem_cons, List.not_mem_nil, or_false, forall_eq_or_imp, forall_eq] at h
  obtain ⟨h1, h2, h3, h4, h5, h6⟩ := h
  simp only [State.unitState, State.pipeState, State.flag, State.fld, h1, h2, h3, h4, h5, h6]
  rfl

theorem unitBusy_congr {t : State} (h : ∀ r ∈ unitRegs, ∀ i, t.reg r i = s.reg r i) (u : Nat) : t.unitBusy u = s.unitBusy u := by
  have hunit : ∀ w, t.fld F.RSL_UNIT_STAT_STATE w = s.fld F.RSL_UNIT_STAT_STATE w := fun w => by
    rw [State.fld, State.fld, h _ (by decide)]
  simp only [State.unitBusy, State.classSwaps, unitState_congr h, hunit]
  rfl

theorem State.freeSpare_answer (st : Status) (u : Nat) : (s.answer st).freeSpare u = s.freeSpare u := rfl

/-- A TEST of a unit that is free to be tested. -/
theorem State.startTest_free {u : Nat} (hb : s.unitBusy u = none) (hs : s.unitState u = unitInService) :
    s.startTest u = s.setFld F.RSL_UNIT_STAT_STATE u unitSuspect := by
  rw [State.startTest, hb]
  exact if_pos hs

theorem State.startTest_busy {u : Nat} {st : Status} (hb : s.unitBusy u = some st) : s.startTest u = s.unitStatus u st := by
  rw [State.startTest, hb]

theorem State.startRetest_free {u : Nat} (hb : s.unitBusy u = none) : s.startRetest u =
    if Tbl.get (fun _ => 0) s.rsl.retiredOf u = 0 ∨ s.fld F.RSL_PHYS_STAT_STATE (Tbl.get (fun _ => 0) s.rsl.retiredOf u - 1) ≠ physRetired
    then s.unitStatus u .NOT_READY
    else s.setFld F.RSL_PHYS_STAT_STATE (Tbl.get (fun _ => 0) s.rsl.retiredOf u - 1) physTesting := by
  rw [State.startRetest, hb]

/-- A command of RSL_UNIT_CTRL to a unit answers OK and then acts. -/
theorem State.writeUnitCtrl_unit {src : Requester} {u : Nat} {v : Word} (ho : s.closedTo .RSL_UNIT_CTRL src = false)
    (hu : isUnit u = true) (hv : F.RSL_UNIT_CTRL_CMD.of v ≠ 0) : s.writeUnitCtrl src u v =
      if F.RSL_UNIT_CTRL_CMD.of v = 1 then (s.answer .OK).startTest u
      else if F.RSL_UNIT_CTRL_CMD.of v = 3 then (s.answer .OK).startRetest u
      else match (s.answer .OK).unitBusy u with
        | some st => (s.answer .OK).unitStatus u st
        | none => if (s.answer .OK).unitState u = unitInService then (s.answer .OK).startUnitSwap u else s.answer .OK := by
  rw [State.writeUnitCtrl, State.guarded_of_open s ho]
  exact if_neg (by simp [hu, hv])

theorem State.unitBusy_answer (st : Status) (u : Nat) : (s.answer st).unitBusy u = s.unitBusy u := unitBusy_congr (fun _ _ _ => rfl) u

theorem State.unitState_answer (st : Status) (u : Nat) : (s.answer st).unitState u = s.unitState u := unitState_congr (fun _ _ _ => rfl) u

theorem exec_unitSwap_free {src : Requester} {u : Fin 232} (ho : s.closedTo .RSL_UNIT_CTRL src = false) (hu : isUnit u = true)
    (hb : s.unitBusy u = none) (hs : s.unitState u = unitInService) :
    exec (.unitSwap src u) s = .next ((s.answer .OK).startUnitSwap u) := by
  have hexec : exec (.unitSwap src u) s = .next (s.writeUnitCtrl src u 2) := rfl
  rw [hexec, State.writeUnitCtrl_unit ho hu (by decide), if_neg (by decide), if_neg (by decide), State.unitBusy_answer, hb]
  exact congrArg Host.Outcome.next (if_pos ((State.unitState_answer _ _).trans hs))

variable (s) in
/-- The state of a unit that swaps onto physical unit x. -/
def State.swapStarted (u x : Nat) : State :=
  let v := s.setFld F.RSL_UNIT_STAT_STATE u unitInService
  let v := v.setRsl { v.rsl with swapTo := Tbl.set (fun _ => 0) u (x + 1) v.rsl.swapTo }
  ((v.setFld F.RSL_PHYS_STAT_STATE x physInService).setFld F.RSL_UNIT_STAT_STATE u unitSwapping).answer .OK

/-- A core, or a unit of a class below 41, swaps onto its free spare. -/
theorem State.startUnitSwap_spare {u x : Nat} (hu : u < 41) (hx : s.freeSpare u = some x) :
    s.startUnitSwap u = if ((s.swapStarted u x).freeSpare u).isNone then (s.swapStarted u x).spareLow else s.swapStarted u x := by
  have hok : ∀ t : State, t.resp = .OK → (if t.resp = .OK then t else t.unitStatus u t.resp) = t := fun t h => if_pos h
  rw [State.startUnitSwap, hx]
  dsimp only
  rw [if_pos hu, hok _ rfl]
  rfl

/-- What a swap that starts shows. -/
theorem State.startUnitSwap_shows {u x : Nat} (hu : u < 41) (hx : s.freeSpare u = some x) :
    (s.startUnitSwap u).fld F.RSL_UNIT_STAT_STATE u = unitSwapping ∧ (s.startUnitSwap u).fld F.RSL_PHYS_STAT_STATE x = physInService ∧
      Tbl.get (fun _ => 0) (s.startUnitSwap u).rsl.swapTo u = x + 1 ∧ (s.startUnitSwap u).resp = .OK := by
  have hf : Frame ⟨[.host, .sent], [.RSL_STATUS, .GLB_INT_SUM, .RSL_INT_STAT]⟩ (s.swapStarted u x) (s.startUnitSwap u) := by
    rw [State.startUnitSwap_spare hu hx]
    exact .le (by decide) (.branch (Frame.refl .none (s.swapStarted u x)).spareLow (.refl .none (s.swapStarted u x)))
  have hrsl : (s.startUnitSwap u).rsl = (s.swapStarted u x).rsl := hf.parts .rsl (by decide)
  refine ⟨(hf.fld (by decide) u).trans ?_, (hf.fld (by decide) x).trans ?_, ?_, hf.parts .resp (by decide)⟩
  · rw [State.swapStarted]
    exact (State.answer_fld _ _ _ _).trans (State.fld_setFld_fits _ (by decide) (by decide) u)
  · rw [State.swapStarted]
    exact (State.answer_fld _ _ _ _).trans ((State.fld_setFld_ne _ (by decide) _ _ _).trans
      (State.fld_setFld_fits _ (by decide) (by decide) x))
  · rw [hrsl]
    exact Tbl.get_set_same (fun _ => 0) u (x + 1) s.rsl.swapTo

/-- With no free spare the unit stays in service, DEGRADED. -/
theorem State.noSpare_shows (u : Nat) : (s.noSpare u).fld F.RSL_UNIT_STAT_STATE u = unitInService ∧
    (s.noSpare u).fld F.RSL_UNIT_STAT_STATUS u = Status.NO_ROOM.code ∧ (s.noSpare u).flag F.RSL_UNIT_STAT_DEGRADED u = true ∧
    (s.noSpare u).fld ⟨.GLB_ALERT_STAT, alertDegraded, 1⟩ 0 = 1 := by
  unfold State.noSpare
  extract_lets v
  have hlog := (Frame.refl .none ((v.setFld F.RSL_UNIT_STAT_STATE u unitInService).alert alertDegraded)).awlUnstated (b := .RSL)
    (arg := awlArg u Status.NO_ROOM.code)
  refine ⟨?_, ?_, ?_, (hlog.fld (by decide) 0).trans (State.alert_sets _ (by decide))⟩
  · rw [hlog.fld (by decide), State.alert_fld _ _ (by decide)]
    exact State.fld_setFld_fits _ (by decide) (by decide) u
  · rw [hlog.fld (by decide), State.alert_fld _ _ (by decide), State.fld_setFld_apart _ (by decide), State.fld_setFlag_apart _ (by decide)]
    exact State.fld_setFld_fits _ (by decide) (by decide) u
  · rw [hlog.flag (by decide), State.alert_flag _ _ (by decide), State.flag_setFld_apart _ (by decide)]
    exact State.flag_setFlag_same _ _ _ _ (by decide) rfl

/-! ### Automatic tests, in-place checks and swap points (R537, R538, R540) -/

variable (s) in
/-- The state after a unit's corrected codewords are recorded. -/
def State.corrShown (u corr : Nat) : State := s.setReg .RSL_UNIT_CORR u (BitVec.ofNat 64 (satTo 32 corr))

variable (s) in
theorem State.corrShown_reg (u corr : Nat) : ((s.corrShown u corr).reg .RSL_UNIT_CORR u).toNat = satTo 32 corr :=
  State.toNat_reg_setReg _ rfl (satTo_lt 32 corr) u

theorem exec_autoTestTrigger_unit {u : Fin 232} {corr : Nat} {implicated : Bool} (hu : isUnit u = true) :
    exec (.autoTestTrigger u corr implicated) s = .next (
      if implicated || decide ((s.corrShown u corr).fld F.RSL_AUTO_CORR_LIM 0 ≤ corr) then
        if (s.corrShown u corr).flag F.RSL_CTRL_AUTO 0 then (s.corrShown u corr).startTest u
        else (s.corrShown u corr).awlUnstated .RSL (awlArg u corr)
      else s.corrShown u corr) := by
  refine congrArg Host.Outcome.next (if_neg ?_)
  rw [hu]
  decide

theorem exec_inplaceCheckDone_suspect {u : Fin 232} {passed : Bool} (h : s.fld F.RSL_UNIT_STAT_STATE u = unitSuspect) :
    exec (.inplaceCheckDone u passed) s = .next (if passed then
      ((((s.setReg .RSL_UNIT_CORR u 0).setFlag F.RSL_UNIT_STAT_DEGRADED u false).setFld F.RSL_UNIT_STAT_STATE u unitInService).unitStatus u
        .OK).awlState .RSL .info unitInService u 0
      else s.startUnitSwap u) :=
  congrArg Host.Outcome.next (if_neg (not_not_intro h))

theorem exec_unitSwapPoint_moves {u : Fin 232} {x : Nat} (h : s.fld F.RSL_UNIT_STAT_STATE u = unitSwapping) (hlo : 16 ≤ u.val)
    (hhi : u.val < 41) (hx : Tbl.get (fun _ => 0) s.rsl.swapTo u = x + 1) :
    exec (.unitSwapPoint u) s = .next ((s.unitMoved u x physTesting).blockMoved u x) := by
  have hexec : exec (.unitSwapPoint u) s = execUnitSwapPoint u s := rfl
  rw [hexec, execUnitSwapPoint, if_neg (not_not_intro h), if_neg (by omega), hx, if_neg (by simp; omega)]
  rfl

variable (s) in
/-- A unit above the cores changes no more of its block than the carrier that the block shows. -/
theorem State.blockMoved_keeps {u : Nat} (h : 16 ≤ u) (x : Nat) : Frame ⟨[], [.TWD_CORE_STAT, .VMP_PIPE_STAT]⟩ s (s.blockMoved u x) := by
  rw [State.blockMoved, if_neg (by omega)]
  exact .le (by decide) (.branch (Frame.refl .none s) (.branch (Frame.refl .none s).setFld (Frame.refl .none s).setFld))

variable (s) in
/-- A unit that has moved off carrier o, before its own state shows it. -/
def State.movedOff (u o oldState : Nat) : State :=
  { (s.setFld F.RSL_PHYS_STAT_STATE o oldState).setFld F.RSL_PHYS_STAT_LOGICAL o 0xFF with rsl := { s.rsl with
    carried := Tbl.set (fun _ => 0) o (u + 1) s.rsl.carried, swapTo := Tbl.set (fun _ => 0) u 0 s.rsl.swapTo } }

variable (s) in
/-- A unit that has moved onto carrier x, before that is told. -/
def State.movedOn (u x : Nat) : State :=
  ((((((s.setFld F.RSL_PHYS_STAT_STATE x 0).setFld F.RSL_PHYS_STAT_LOGICAL x u).setFld F.RSL_UNIT_STAT_PHYS u (x - physBase u)).setFld
    F.RSL_UNIT_STAT_STATE u 0).setFld F.RSL_UNIT_STAT_STATUS u Status.OK.code).setFlag F.RSL_UNIT_STAT_DEGRADED u false).count
    .RSL_UNIT_SWAPS u 1

theorem State.unitMoved_eq (u x oldState : Nat) : s.unitMoved u x oldState =
    ((s.movedOff u (s.carrier u) oldState).movedOn u x).event Irq.RSL_SWAP_DONE u 0 := rfl

variable (s) in
theorem State.movedOff_shows {oldState : Nat} (h : oldState < 8) (u o : Nat) :
    Frame ⟨[.rsl], [.RSL_PHYS_STAT]⟩ s (s.movedOff u o oldState) ∧ (s.movedOff u o oldState).fld F.RSL_PHYS_STAT_STATE o = oldState := by
  have hf : Frame ⟨[.rsl], []⟩ ((s.setFld F.RSL_PHYS_STAT_STATE o oldState).setFld F.RSL_PHYS_STAT_LOGICAL o 0xFF)
      (s.movedOff u o oldState) := .le (by decide) (Frame.refl .none _).updRsl
  refine ⟨.le (by decide) (Frame.refl .none s).setFld.setFld.updRsl, (hf.fld (by decide) o).trans ?_⟩
  exact (State.fld_setFld_apart _ (by decide) _ _ _).trans (State.fld_setFld_fits _ (by decide) h o)

variable (s) in
theorem State.movedOn_shows {u : Nat} (hu : u < 256) (x : Nat) : (s.movedOn u x).fld F.RSL_UNIT_STAT_STATE u = unitInService ∧
    (s.movedOn u x).fld F.RSL_PHYS_STAT_STATE x = physInService ∧ (s.movedOn u x).fld F.RSL_PHYS_STAT_LOGICAL x = u ∧
    (s.movedOn u x).reg .RSL_UNIT_SWAPS u = s.counted .RSL_UNIT_SWAPS u 1 ∧
    ∀ o, o ≠ x → (s.movedOn u x).fld F.RSL_PHYS_STAT_STATE o = s.fld F.RSL_PHYS_STAT_STATE o := by
  have hphys : Frame ⟨[], [.RSL_UNIT_STAT, .RSL_UNIT_SWAPS]⟩ ((s.setFld F.RSL_PHYS_STAT_STATE x 0).setFld F.RSL_PHYS_STAT_LOGICAL x u)
      (s.movedOn u x) := .le (by decide) (Frame.refl .none _).setFld.setFld.setFld.setFlag.count
  refine ⟨?_, (hphys.fld (by decide) x).trans ?_, (hphys.fld (by decide) x).trans (State.fld_setFld_fits _ (by decide) hu x), ?_,
    fun o ho => (hphys.fld (by decide) o).trans ?_⟩
  · rw [State.movedOn, State.fld_count_ne _ (by decide), State.fld_setFlag_apart _ (by decide), State.fld_setFld_apart _ (by decide)]
    exact State.fld_setFld_fits _ (by decide) (by decide) u
  · exact (State.fld_setFld_apart _ (by decide) _ _ _).trans (State.fld_setFld_fits _ (by decide) (by decide) x)
  · rw [State.movedOn, State.reg_count_counted]
    refine State.counted_congr ?_ 1
    exact (Frame.le (f := ⟨[], [.RSL_PHYS_STAT, .RSL_UNIT_STAT]⟩) (by decide)
      (Frame.refl .none s).setFld.setFld.setFld.setFld.setFld.setFlag).regs _ _ (by decide)
  · exact (State.fld_setFld_apart _ (by decide) _ _ _).trans (s.fld_setFld_other _ (.inr ho))

/-- A unit between the cores and the slice-ports that swaps at its swap point. -/
theorem State.swapPoint_shows {u x : Nat} (hlo : 16 ≤ u) (hhi : u < 41) (hne : s.carrier u ≠ x) :
    let t := (s.unitMoved u x physTesting).blockMoved u x
    t.fld F.RSL_UNIT_STAT_STATE u = unitInService ∧ t.fld F.RSL_PHYS_STAT_STATE (s.carrier u) = physTesting ∧
      t.fld F.RSL_PHYS_STAT_STATE x = physInService ∧ t.fld F.RSL_PHYS_STAT_LOGICAL x = u ∧
      t.reg .RSL_UNIT_SWAPS u = s.counted .RSL_UNIT_SWAPS u 1 ∧ bit Irq.RSL_SWAP_DONE.bit (t.reg .RSL_INT_STAT 0) = true := by
  have hb := (s.unitMoved u x physTesting).blockMoved_keeps hlo x
  obtain ⟨hoff, htesting⟩ := s.movedOff_shows (oldState := physTesting) (by decide) u (s.carrier u)
  obtain ⟨hst, hphys, hlogical, hswaps, hother⟩ := (s.movedOff u (s.carrier u) physTesting).movedOn_shows (u := u) (by omega) x
  have hf : Frame ⟨[.sent, .host, .awl], [.GLB_INT_SUM, .RSL_INT_STAT, .TWD_CORE_STAT, .VMP_PIPE_STAT, .AWL_MERGED, .AWL_STATUS,
      .INS_RET_STAT, .AWL_LOST, .AWL_INT_STAT]⟩ ((s.movedOff u (s.carrier u) physTesting).movedOn u x)
      ((s.unitMoved u x physTesting).blockMoved u x) :=
    .le (by decide) ((Frame.refl .none _).event.plus hb)
  refine ⟨(hf.fld (by decide) u).trans hst, (hf.fld (by decide) _).trans ((hother _ hne).trans htesting),
    (hf.fld (by decide) x).trans hphys, (hf.fld (by decide) x).trans hlogical, ?_, ?_⟩
  · exact (hf.regs _ _ (by decide)).trans (hswaps.trans (State.counted_congr (hoff.regs _ _ (by decide)) 1))
  · rw [hb.regs _ _ (by decide)]
    exact State.event_sets _ Irq.RSL_SWAP_DONE rfl (by decide) (by decide) _ _

theorem exec_spareCheckFail_swapping {u : Fin 232} {x : Nat} (h : s.fld F.RSL_UNIT_STAT_STATE u = unitSwapping)
    (hx : Tbl.get (fun _ => 0) s.rsl.swapTo u = x + 1) : exec (.spareCheckFail u) s = .next (s.spareFailed u x) := by
  have hexec : exec (.spareCheckFail u) s = execSpareCheckFail u s := rfl
  rw [hexec, execSpareCheckFail, hx, if_neg (by simp [h])]
  rfl

variable (s) in
/-- The state of a unit whose spare fails, before the spare shows it. -/
def State.swapEnded (u : Nat) : State :=
  { (s.setFld F.RSL_UNIT_STAT_STATE u 0).setFld F.RSL_UNIT_STAT_STATUS u Status.MEDIA_FAIL.code with
    rsl := { s.rsl with swapTo := Tbl.set (fun _ => 0) u 0 s.rsl.swapTo } }

theorem State.spareFailed_eq (u x : Nat) : s.spareFailed u x =
    ((s.swapEnded u).setFld F.RSL_PHYS_STAT_STATE x physRetired).setFld F.RSL_PHYS_STAT_RESULT x 3 := rfl

variable (s) in
theorem State.swapEnded_shows (u : Nat) : (s.swapEnded u).fld F.RSL_UNIT_STAT_STATE u = unitInService ∧
    (s.swapEnded u).fld F.RSL_UNIT_STAT_STATUS u = Status.MEDIA_FAIL.code := by
  have hf : Frame ⟨[.rsl], []⟩ ((s.setFld F.RSL_UNIT_STAT_STATE u 0).setFld F.RSL_UNIT_STAT_STATUS u Status.MEDIA_FAIL.code)
      (s.swapEnded u) := .le (by decide) (Frame.refl .none _).updRsl
  refine ⟨(hf.fld (by decide) u).trans ((State.fld_setFld_apart _ (by decide) _ _ _).trans ?_), (hf.fld (by decide) u).trans ?_⟩
  · exact State.fld_setFld_fits _ (by decide) (by decide) u
  · exact State.fld_setFld_fits _ (by decide) (by decide) u

/-! ### Units under test, and the repair map (R535 to R537) -/

variable (s) in
/-- The repair map without the entries of physical unit x. -/
def State.mapWithout (x : Nat) : State :=
  s.setRsl { s.rsl with map := s.rsl.map.filter fun (r : Repair) => !(r.kind == .unit && r.array == x) }

theorem exec_offlineTestDone_passed {x : Fin 248} (h : s.fld F.RSL_PHYS_STAT_STATE x = physTesting) :
    exec (.offlineTestDone x true) s = .next ((((s.mapWithout x).setFld F.RSL_REPAIR_USED_N 0 (s.mapWithout x).rsl.map.length).setFld
      F.RSL_PHYS_STAT_STATE x physSpare).setFld F.RSL_PHYS_STAT_RESULT x 1) :=
  congrArg Host.Outcome.next ((if_neg (not_not_intro h)).trans (if_pos rfl))

theorem exec_offlineTestDone_failed {x : Fin 248} (h : s.fld F.RSL_PHYS_STAT_STATE x = physTesting) : ∃ u,
    Frame ⟨[.rsl, .host, .sent, .awl], [.RSL_REPAIR_USED, .RSL_STATUS, .AWL_MERGED, .AWL_STATUS, .INS_RET_STAT, .AWL_LOST,
      .GLB_INT_SUM, .AWL_INT_STAT, .RSL_INT_STAT]⟩ ((s.setFld F.RSL_PHYS_STAT_STATE x physRetired).setFld F.RSL_PHYS_STAT_RESULT x 2) u ∧
    exec (.offlineTestDone x false) s = .next (u.event Irq.RSL_UNIT_RETIRED x 0) := by
  have hexec : exec (.offlineTestDone x false) s = execOfflineTestDone x false s := rfl
  rw [hexec, execOfflineTestDone, if_neg (not_not_intro h), if_neg (by decide)]
  extract_lets n v _ w known u
  have hv := Frame.refl .none v
  have hw : Frame _ v w := .branch hv hv.setRsl
  exact ⟨u, .le (by decide) (.branch hw hw.addRepair), rfl⟩

theorem State.addRepair_room {kind : RepairKind} {array place spare : Nat} (h : s.rsl.map.length < 32768) :
    (s.addRepair kind array place spare).rsl = { s.rsl with
      map := s.rsl.map ++ [⟨kind, array, place, spare, (s.reg .INS_OPSEC 0).toNat / 3600⟩] } :=
  congrArg State.rsl (if_pos h)

variable (s) in
theorem State.addRepair_retired (kind : RepairKind) (array place spare : Nat) :
    (s.addRepair kind array place spare).rsl.retired = s.rsl.retired := by
  unfold State.addRepair
  split
  · rfl
  · rw [State.event_rsl]
    rfl

variable (s) in
/-- The state after a bank's spare row is used. -/
def State.rowUsed (bank : Nat) : State :=
  let u := s.setRsl { s.rsl with hbmUsed := Tbl.set (fun _ => false) bank true s.rsl.hbmUsed }
  (u.setFld F.RSL_HBM_PPR_SOFT 0 (satTo 16 (u.fld F.RSL_HBM_PPR_SOFT 0 + 1))).setFld F.RSL_HBM_PPR_HARD 0
    (satTo 16 ((u.setFld F.RSL_HBM_PPR_SOFT 0 (satTo 16 (u.fld F.RSL_HBM_PPR_SOFT 0 + 1))).fld F.RSL_HBM_PPR_HARD 0 + 1))

theorem exec_hbmPpr_free {bank : Fin 65536} {row : Nat} {page : Fin 30720} {inUse : Bool}
    (h : Tbl.get (fun _ => false) s.rsl.hbmUsed bank = false) (hl : s.rsl.map.length < 32768) :
    exec (.hbmPpr bank row page inUse) s = .next ((s.rowUsed bank).addRepair .hbmRow bank row 0) := by
  have hexec : exec (.hbmPpr bank row page inUse) s = execHbmPpr bank row page inUse s := rfl
  rw [hexec, execHbmPpr, h, if_neg (by decide)]
  exact congrArg (fun u : State => Host.Outcome.next (u.addRepair .hbmRow bank row 0)) (if_pos hl)

variable (s) in
theorem State.rowUsed_shows (bank : Nat) : (s.rowUsed bank).fld F.RSL_HBM_PPR_SOFT 0 = satTo 16 (s.fld F.RSL_HBM_PPR_SOFT 0 + 1) ∧
    (s.rowUsed bank).fld F.RSL_HBM_PPR_HARD 0 = satTo 16 (s.fld F.RSL_HBM_PPR_HARD 0 + 1) ∧
    (s.rowUsed bank).rsl = { s.rsl with hbmUsed := Tbl.set (fun _ => false) bank true s.rsl.hbmUsed } ∧
    (s.rowUsed bank).reg .INS_OPSEC 0 = s.reg .INS_OPSEC 0 := by
  have hset : ∀ g i, (s.setRsl { s.rsl with hbmUsed := Tbl.set (fun _ => false) bank true s.rsl.hbmUsed }).fld g i = s.fld g i :=
    fun _ _ => rfl
  refine ⟨?_, ?_, rfl, ?_⟩
  · rw [State.rowUsed, State.fld_setFld_apart _ (by decide), State.fld_setFld_fits _ (by decide) (satTo_lt 16 _), hset]
  · rw [State.rowUsed, State.fld_setFld_fits _ (by decide) (satTo_lt 16 _), State.fld_setFld_apart _ (by decide), hset]
  · rw [State.rowUsed, State.reg_setFld_ne _ (by decide), State.reg_setFld_ne _ (by decide)]
    rfl

/-! ### The core voltage (R543) -/

theorem State.setCore_acked {below : Nat} (h : s.rsl.noAck = false) : s.setCore below =
    ((s.setRsl { s.rsl with below := below }).setFld F.RSL_AVS_STAT_VDD 0 (800 - below)).emit (.setCore (800 - below)) := by
  rw [State.setCore, h]
  rfl

variable (s) in
/-- The state after an ageing record that foretells 800 mV in the given days. -/
def State.ageRecorded (required : Nat) (slack : Int) (days : Nat) : State :=
  ((s.setRsl { s.rsl with ages := ((s.reg .INS_OPSEC 0).toNat / 86400, required, slack) :: s.rsl.ages.take 89 }).setFld
    F.RSL_AVS_STAT_REQ85 0 required).setFld F.RSL_AVS_STAT_DAYS 0 days

theorem exec_coreAgeingRecord_records (required : Fin 1024) (slack : Int) (s : State) : ∃ days, exec (.coreAgeingRecord required slack) s =
    .next (if days < 365 then (s.ageRecorded required slack days).ageWarn 0 days else s.ageRecorded required slack days) :=
  ⟨_, rfl⟩

/-! ### Scrubbing (R545) -/

/-- The sizes that are all far above their errors are not below them. -/
theorem any_over_of_all_calm {l : List (Nat × Nat)} (h : l.all (fun e => decide (10000 * e.1 < e.2)) = true) :
    l.any (fun e => decide (e.2 < 1000 * e.1)) = false := by
  rw [List.any_eq_false]
  intro e he
  have := of_decide_eq_true (List.all_eq_true.mp h e he)
  rw [decide_eq_true_eq]
  omega

variable (s) in
/-- The state after a scrub without rows to repair has been recorded. -/
def State.scrubbed (total calm : Nat) : State :=
  (s.setFld F.RSL_MRAM_SCRUB_CORR 0 (satTo 24 total)).setRsl { s.rsl with calm := calm }

variable (s) in
/-- The state after the scrub interval i is halved; one hour that is not shorter yet is told. -/
def State.scrubTold (i : Nat) : State :=
  if i = 1 then (s.setFld F.RSL_MRAM_SCRUB_INTERVAL 0 (max 1 (i / 2))).ageWarn 0 0 else s.setFld F.RSL_MRAM_SCRUB_INTERVAL 0 (max 1 (i / 2))

theorem State.scrubTold_keeps (s : State) (i : Nat) : Frame ⟨[.host, .sent, .awl], .GLB_INT_SUM :: .RSL_STATUS :: .RSL_INT_STAT :: awlFoot⟩
    (s.setFld F.RSL_MRAM_SCRUB_INTERVAL 0 (max 1 (i / 2))) (s.scrubTold i) := by
  have h := Frame.refl .none (s.setFld F.RSL_MRAM_SCRUB_INTERVAL 0 (max 1 (i / 2)))
  exact .le (by decide) (.branch h.ageWarn h)

theorem exec_mramScrub_over {corrected : List Nat}
    (h : (corrected.zip mramCodewords).any (fun e => decide (e.2 < 1000 * e.1)) = true) : ∃ n,
    exec (.mramScrub corrected []) s = .next
      ((s.scrubbed (corrected.foldl (fun a b => a + b) 0) n).scrubTold (s.fld F.RSL_MRAM_SCRUB_INTERVAL 0)) :=
  ⟨_, congrArg Host.Outcome.next (if_pos h)⟩

theorem exec_mramScrub_calm {corrected : List Nat}
    (h : (corrected.zip mramCodewords).all (fun e => decide (10000 * e.1 < e.2)) = true) (hc : s.rsl.calm = 6) :
    exec (.mramScrub corrected []) s = .next ((s.scrubbed (corrected.foldl (fun a b => a + b) 0) 0).setFld F.RSL_MRAM_SCRUB_INTERVAL 0
      (min 24 (2 * s.fld F.RSL_MRAM_SCRUB_INTERVAL 0))) := by
  have hexec : exec (.mramScrub corrected []) s = execMramScrub corrected [] s := rfl
  rw [hexec, execMramScrub, h, any_over_of_all_calm h, hc]
  rfl

/-! ### Drains at their bound (R548) -/

theorem State.drainOver_drains {obj : Nat} {kill : State → State} : s.drainOver true obj kill =
    ((kill s).count .RSL_DRAIN_OVR 0 1).event Irq.RSL_DRAIN_OVR obj 0 := if_pos rfl

/-- What telling a drain at its bound changes. -/
def drainToldFoot : Foot := ⟨[.sent, .host, .awl], .GLB_INT_SUM :: .RSL_INT_STAT :: .RSL_DRAIN_OVR :: awlFoot⟩

theorem State.drainOver_keeps (obj : Nat) (kill : State → State) : Frame drainToldFoot (kill s) (s.drainOver true obj kill) := by
  rw [State.drainOver_drains]
  exact .le (by decide) (Frame.refl .none (kill s)).count.event

/-- A drain at its bound is counted and told. -/
theorem State.drainOver_shows {obj : Nat} {kill : State → State} (h : (kill s).reg .RSL_DRAIN_OVR 0 = s.reg .RSL_DRAIN_OVR 0) :
    (s.drainOver true obj kill).reg .RSL_DRAIN_OVR 0 = s.counted .RSL_DRAIN_OVR 0 1 ∧
      bit Irq.RSL_DRAIN_OVR.bit ((s.drainOver true obj kill).reg .RSL_INT_STAT 0) = true := by
  rw [State.drainOver_drains]
  refine ⟨?_, State.event_sets _ Irq.RSL_DRAIN_OVR rfl (by decide) (by decide) _ _⟩
  rw [State.event_reg _ _ _ _ (by decide), State.reg_count_counted]
  exact State.counted_congr h 1

/-- A port that stops is OFF and has no link. -/
theorem State.portStop_shows {p : Nat} (hp : p < 32) (st : Status) : (s.portStop p st).portState p = portOff ∧
    (s.portStop p st).linkUp p = false := by
  obtain ⟨hdown, -⟩ := State.portFall_shows (s := s.flushCtrl p st) hp
  refine ⟨State.fld_setFld_fits _ (by decide) (by decide) p, ?_⟩
  exact ((Frame.refl .none ((s.flushCtrl p st).portFall p)).setPortState.linkUp (by decide) p).trans hdown

end Sys2Proof.Machine

end

section
open Sys2Proof Sys2Proof.Machine

/-- Settles O47, clause by clause: commands and automatic tests of units, their checks, swap points and spares; repairs of rows and
pages; the core voltage and its ageing; scrubs; and drains at their bound. NOT_READY without a retired carrier and DEGRADED cleared by a
passed check are log 97. -/
theorem unitsTestedSwappedAndRetired : Obligations.UnitsTestedSwappedAndRetired := by
  unfold Obligations.UnitsTestedSwappedAndRetired
  refine ⟨?test, ?testBusy, ?swap, ?swapNone, ?retestNone, ?retest, ?auto, ?autoTest, ?passed, ?failed, ?swapPoint, ?spareFail, ?spare,
    ?retired, ?row, ?pageInUse, ?page, ?raise, ?margin, ?lower, ?age, ?scrubOver, ?scrubCalm, ?link, ?port, ?input, ?linkIdle⟩
  case test =>
    intro src u s ho hu hb hs
    have hexec : exec (.unitTest src u) s = .next (s.writeUnitCtrl src u 1) := rfl
    rw [hexec, State.writeUnitCtrl_unit ho hu (by decide), if_pos (by decide),
      State.startTest_free ((State.unitBusy_answer _ _).trans hb) ((State.unitState_answer _ _).trans hs)]
    exact .next ⟨State.fld_setFld_fits _ (by decide) (by decide) u, rfl, rfl⟩
  case testBusy =>
    intro src u st s ho hu hb
    have hexec : exec (.unitTest src u) s = .next (s.writeUnitCtrl src u 1) := rfl
    rw [hexec, State.writeUnitCtrl_unit ho hu (by decide), if_pos (by decide), State.startTest_busy ((State.unitBusy_answer _ _).trans hb)]
    exact .next rfl
  case swap =>
    intro src u x s ho hu hb hs hx
    rw [exec_unitSwap_free ho (isUnit_of_lt hu) hb hs]
    exact .next (State.startUnitSwap_shows hu ((State.freeSpare_answer _ _).trans hx))
  case swapNone =>
    intro src u s ho hu hb hs hx
    rw [exec_unitSwap_free ho hu hb hs, State.startUnitSwap, State.freeSpare_answer, hx]
    exact .next (State.noSpare_shows u)
  case retestNone =>
    intro src u s ho hu hb hx
    have hexec : exec (.unitRetest src u) s = .next (s.writeUnitCtrl src u 3) := rfl
    rw [hexec, State.writeUnitCtrl_unit ho hu (by decide), if_neg (by decide), if_pos (by decide),
      State.startRetest_free ((State.unitBusy_answer _ _).trans hb), if_pos (.inl hx)]
    exact .next ⟨State.fld_setFld_fits _ (by decide) (by decide) u, rfl⟩
  case retest =>
    intro src u x s ho hu hb hx hst
    have hexec : exec (.unitRetest src u) s = .next (s.writeUnitCtrl src u 3) := rfl
    have hx' : Tbl.get (fun _ => 0) (s.answer .OK).rsl.retiredOf u = x + 1 := hx
    rw [hexec, State.writeUnitCtrl_unit ho hu (by decide), if_neg (by decide), if_pos (by decide),
      State.startRetest_free ((State.unitBusy_answer _ _).trans hb), hx', if_neg (by simp [hst])]
    exact .next ⟨State.fld_setFld_fits _ (by decide) (by decide) x, rfl⟩
  case auto =>
    intro u corr implicated s hu hc hi
    have hlim : (s.corrShown u corr).fld F.RSL_AUTO_CORR_LIM 0 = s.fld F.RSL_AUTO_CORR_LIM 0 := State.fld_setReg_ne _ (by decide) _ _ _
    rw [exec_autoTestTrigger_unit hu, hi, hlim, if_neg (by simpa using hc)]
    exact .next ⟨s.corrShown_reg u corr, State.fld_setReg_ne _ (by decide) _ _ _⟩
  case autoTest =>
    intro u corr implicated s hu hi ha hb hs
    have hregs : ∀ r ∈ unitRegs, ∀ i, (s.corrShown u corr).reg r i = s.reg r i := fun r hr i =>
      s.reg_setReg_other (fun h => absurd (h ▸ hr) (by decide)) _ _ _
    have hauto : (s.corrShown u corr).flag F.RSL_CTRL_AUTO 0 = true := (State.flag_setReg_ne _ (by decide) _ _ _).trans ha
    rw [exec_autoTestTrigger_unit hu, hi, Bool.true_or, if_pos rfl, if_pos hauto,
      State.startTest_free ((unitBusy_congr hregs u).trans hb) ((unitState_congr hregs u).trans hs)]
    refine .next ⟨?_, State.fld_setFld_fits _ (by decide) (by decide) u⟩
    rw [State.reg_setFld_ne _ (by decide), State.corrShown_reg]
  case passed =>
    intro u passed s h hp
    rw [exec_inplaceCheckDone_suspect h, if_pos hp]
    refine .next ⟨?_, ?_, ?_, ?_⟩
    · rw [State.awlState_fld _ _ _ _ _ _ (by decide), State.unitStatus, State.fld_setFld_apart _ (by decide)]
      exact State.fld_setFld_fits _ (by decide) (by decide) u
    · rw [State.awlState_fld _ _ _ _ _ _ (by decide)]
      exact State.fld_setFld_fits _ (by decide) (by decide) u
    · rw [State.awlState_reg _ _ _ _ _ _ (by decide), State.unitStatus, State.reg_setFld_ne _ (by decide), State.reg_setFld_ne _ (by decide),
        State.reg_setFlag_ne _ (by decide), State.reg_setReg_same]
      rfl
    · rw [State.awlState_flag _ _ _ _ _ _ (by decide), State.unitStatus, State.flag_setFld_apart _ (by decide),
        State.flag_setFld_apart _ (by decide)]
      exact State.flag_setFlag_same _ _ _ _ (by decide) rfl
  case failed =>
    intro u passed x s h hp hu hx
    obtain ⟨hst, -, hto, -⟩ := State.startUnitSwap_shows hu hx
    rw [exec_inplaceCheckDone_suspect h, hp, if_neg (by decide)]
    exact .next ⟨hst, hto⟩
  case swapPoint =>
    intro u x s h hlo hhi hx _ hne
    rw [exec_unitSwapPoint_moves h hlo hhi hx]
    exact .next (State.swapPoint_shows hlo hhi hne)
  case spareFail =>
    intro u x s h hx
    obtain ⟨hst, hstatus⟩ := s.swapEnded_shows u
    rw [exec_spareCheckFail_swapping h hx, State.spareFailed_eq]
    refine .next ⟨?_, ?_, ?_, ?_⟩
    · rw [State.fld_setFld_ne _ (by decide), State.fld_setFld_ne _ (by decide), hst]
    · rw [State.fld_setFld_ne _ (by decide), State.fld_setFld_ne _ (by decide), hstatus]
    · rw [State.fld_setFld_apart _ (by decide), State.fld_setFld_fits _ (by decide) (by decide)]
    · exact Tbl.get_set_same (fun _ => 0) u.val 0 s.rsl.swapTo
  case spare =>
    intro x passed s h hp
    rw [hp, exec_offlineTestDone_passed h]
    refine .next ⟨?_, State.fld_setFld_fits _ (by decide) (by decide) x, fun r hr hk => ?_⟩
    · rw [State.fld_setFld_apart _ (by decide), State.fld_setFld_fits _ (by decide) (by decide)]
    · have hr' : r ∈ s.rsl.map.filter fun (r : Repair) => !(r.kind == .unit && r.array == x.val) := hr
      simpa [hk.1, hk.2] using (List.mem_filter.mp hr').2
  case retired =>
    intro x passed s h hp
    obtain ⟨u, hf, hexec⟩ := exec_offlineTestDone_failed h
    rw [hp, hexec]
    refine .next ⟨?_, ?_, State.event_sets _ Irq.RSL_UNIT_RETIRED rfl (by decide) (by decide) _ _⟩
    · rw [State.event_fld _ _ _ _ (by decide), hf.fld (by decide), State.fld_setFld_apart _ (by decide)]
      exact State.fld_setFld_fits _ (by decide) (by decide) x
    · rw [State.event_fld _ _ _ _ (by decide), hf.fld (by decide)]
      exact State.fld_setFld_fits _ (by decide) (by decide) x
  case row =>
    intro bank row page inUse s h hl
    obtain ⟨hsoft, hhard, hrsl, hsec⟩ := s.rowUsed_shows bank
    have hroom : (s.rowUsed bank).rsl.map.length < 32768 := hl
    have hmap := (s.rowUsed bank).addRepair_room (kind := .hbmRow) (array := bank) (place := row) (spare := 0) hroom
    have hf := (Frame.refl .none (s.rowUsed bank)).addRepair (kind := .hbmRow) (array := bank) (place := row) (spare := 0)
    rw [exec_hbmPpr_free h hl]
    refine .next ⟨?_, (hf.fld (by decide) 0).trans hsoft, (hf.fld (by decide) 0).trans hhard, ?_⟩
    · rw [hmap, hrsl]
      exact Tbl.get_set_same (fun _ => false) bank.val true s.rsl.hbmUsed
    · rw [hmap, hrsl, hsec]
  case pageInUse =>
    intro bank row page inUse s h hi hn
    have hexec : exec (.hbmPpr bank row page inUse) s = .next (s.setRsl { s.rsl with toRetire := page.val :: s.rsl.toRetire }) :=
      congrArg Host.Outcome.next ((if_pos h).trans ((if_pos hi).trans (if_neg (by simpa using hn))))
    rw [hexec]
    exact .next ⟨rfl, rfl⟩
  case page =>
    intro bank row page inUse s h hi hn
    have hexec : exec (.hbmPpr bank row page inUse) s = .next (s.retirePage page bank row) :=
      congrArg Host.Outcome.next ((if_pos h).trans (if_neg (by simp [hi])))
    rw [hexec, State.retirePage, if_neg (by simpa using hn)]
    exact .next (State.addRepair_retired _ _ _ _ _)
  case raise =>
    intro slack lower s hs hb hk
    have hexec : exec (.avsStep slack lower) s = .next (s.setCore (s.rsl.below - 5)) :=
      congrArg Host.Outcome.next ((if_pos hs).trans (if_pos hb))
    rw [hexec, State.setCore_acked hk]
    exact .next ⟨rfl, rfl⟩
  case margin =>
    intro slack lower s hs hb
    have hexec : exec (.avsStep slack lower) s = .next (((s.setRsl { s.rsl with noMargin := true }).setFlag F.RSL_STATUS_CORE_MARGIN 0
        true).alarm Irq.RSL_CORE_MARGIN alertCoreMargin 0 0) := congrArg Host.Outcome.next ((if_pos hs).trans (if_neg (by omega)))
    rw [hexec]
    refine .next ⟨State.alarm_rsl _ _ _ _ _, ?_, State.alarm_alerts _ (by decide) _ _ _⟩
    rw [State.alarm_flag _ _ _ _ _ (by decide)]
    exact State.flag_setFlag_same _ _ _ _ (by decide) rfl
  case lower =>
    intro slack lower s hs hl hb hk
    have hexec : exec (.avsStep slack lower) s = .next ((s.setRsl { s.rsl with noMargin := false }).setCore (s.rsl.below + 5)) :=
      congrArg Host.Outcome.next ((if_neg (by omega)).trans (if_pos ⟨hl, hb⟩))
    rw [hexec, State.setCore_acked (s := s.setRsl { s.rsl with noMargin := false }) hk]
    exact .next ⟨rfl, rfl⟩
  case age =>
    intro required slack s
    obtain ⟨days, hexec⟩ := exec_coreAgeingRecord_records required slack s
    have hf : Frame ⟨[.host, .sent, .awl], .GLB_INT_SUM :: .RSL_STATUS :: .RSL_INT_STAT :: awlFoot⟩ (s.ageRecorded required slack days)
        (if days < 365 then (s.ageRecorded required slack days).ageWarn 0 days else s.ageRecorded required slack days) :=
      .le (by decide) (.branch (Frame.refl .none (s.ageRecorded required slack days)).ageWarn (.refl .none _))
    rw [hexec]
    refine .next ⟨(hf.fld (by decide) 0).trans ?_, hf.parts .rsl (by decide)⟩
    rw [State.ageRecorded, State.fld_setFld_apart _ (by decide)]
    exact State.fld_setFld_fits _ (by decide) required.isLt 0
  case scrubOver =>
    intro corrected s h
    obtain ⟨n, hexec⟩ := exec_mramScrub_over h
    have hi := s.fld_lt F.RSL_MRAM_SCRUB_INTERVAL 0
    have hlen : F.RSL_MRAM_SCRUB_INTERVAL.len = 8 := rfl
    have hfit : max 1 (s.fld F.RSL_MRAM_SCRUB_INTERVAL 0 / 2) < 2 ^ F.RSL_MRAM_SCRUB_INTERVAL.len := by
      rw [hlen] at hi ⊢
      omega
    have hf := State.scrubTold_keeps (s.scrubbed (corrected.foldl (fun a b => a + b) 0) n) (s.fld F.RSL_MRAM_SCRUB_INTERVAL 0)
    rw [hexec]
    refine .next ⟨(hf.fld (by decide) 0).trans ?_, (hf.fld (by decide) 0).trans ?_, ?_⟩
    · rw [State.fld_setFld_apart _ (by decide)]
      exact State.fld_setFld_fits _ (by decide) (satTo_lt 24 _) 0
    · exact State.fld_setFld_fits _ (by decide) hfit 0
    · have hrsl : ((s.scrubbed (corrected.foldl (fun a b => a + b) 0) n).scrubTold (s.fld F.RSL_MRAM_SCRUB_INTERVAL 0)).rsl =
          (s.scrubbed (corrected.foldl (fun a b => a + b) 0) n).rsl := hf.parts .rsl (by decide)
      rw [hrsl]
      rfl
  case scrubCalm =>
    intro corrected s h hc
    rw [exec_mramScrub_calm h hc]
    exact .next ⟨State.fld_setFld_fits _ (by decide) (lt_of_le_of_lt (Nat.min_le_left _ _) (by decide)) 0, rfl⟩
  case link =>
    intro k s h
    have hexec : exec (.drainBoundExpire (.link k)) s = .next (s.drainOver (s.lkState k == lkDraining) k fun (s : State) =>
      s.linkFall k 3 false) := rfl
    rw [hexec, h]
    obtain ⟨hst, hreason, -, -⟩ := State.linkFall_shows (s := s) (reason := 3) (by decide) k false
    have hf := s.drainOver_keeps k fun (s : State) => s.linkFall k 3 false
    obtain ⟨hcount, hset⟩ := State.drainOver_shows (s := s) (obj := k) (kill := fun s => s.linkFall k 3 false)
      ((Frame.refl .none s).linkFall.regs _ _ (by decide))
    exact .next ⟨(hf.fld (by decide) k).trans hst, (hf.fld (by decide) k).trans hreason, hcount, hset⟩
  case port =>
    intro p s h
    have hexec : exec (.drainBoundExpire (.port p)) s = .next (s.drainOver (s.portState p == portDraining) p fun (s : State) =>
      (s.portStop p .DRAINING).showNpt) := rfl
    rw [hexec, h]
    obtain ⟨hst, hdown⟩ := State.portStop_shows (s := s) p.isLt .DRAINING
    have hn := (Frame.refl .none (s.portStop p .DRAINING)).showNpt
    have hf := s.drainOver_keeps p fun (s : State) => (s.portStop p .DRAINING).showNpt
    obtain ⟨hcount, hset⟩ := State.drainOver_shows (s := s) (obj := p) (kill := fun s => (s.portStop p .DRAINING).showNpt)
      ((Frame.refl .none s).portStop.showNpt.regs _ _ (by decide))
    exact .next ⟨(hf.fld (by decide) p).trans ((hn.fld (by decide) p).trans hst),
      (hf.linkUp (by decide) p).trans ((hn.linkUp (by decide) p).trans hdown), hcount, hset⟩
  case input =>
    intro n s h
    have hexec : exec (.drainBoundExpire (.input n)) s = .next (s.drainOver (s.inState n == inDraining) n fun (s : State) =>
      s.killInput n) := rfl
    have hkill : s.killInput n = s.inputOff n true := by
      rw [State.killInput, if_pos h]
    rw [hexec, h]
    have hf := s.drainOver_keeps n fun (s : State) => s.killInput n
    obtain ⟨hcount, -⟩ := State.drainOver_shows (s := s) (obj := n) (kill := fun s => s.killInput n)
      ((Frame.refl .none s).killInput.regs _ _ (by decide))
    refine .next ⟨?_, hcount⟩
    have hoff : (s.killInput n).inState n = inOff := by
      rw [hkill]
      exact (s.inputOff_killed n).1
    exact fun hd => absurd (((hf.fld (by decide) n).trans hoff).symm.trans hd) (by decide)
  case linkIdle =>
    intro k s h
    exact .next (if_neg (by simpa using h))

end

section
/-! SUPPORT of O48: a partner that is lost, answers or returns, the fence and the rejoin, and the claim of a spare. -/

namespace Sys2Proof.Machine

variable (s : State)

/-! ### The cause of a partner loss survives what goes alone (R549, R550) -/

/-- What completing an acceptance changes beside the mark that it went alone. -/
def ackFoot : Foot := ⟨[.nim, .sent, .host], [.NIM_Q_HWM, .NIM_ACCEPTED, .NIM_Q_STAT, .NIM_CQ_TAIL]⟩

theorem Frame.postAck {f : Foot} {a b : State} {q : Nat} {r : CqRecord} (h : Frame f a b) :
    Frame (f.plus ⟨[.sent, .nim, .host], [.NIM_CQ_TAIL]⟩) a (b.postAck q r) :=
  h.plus (State.postAck_frame (.refl _ _) (.refl _) (.refl _))

theorem State.ackEntry_cause (k : Key) (alone : Bool) :
    (s.ackEntry k alone).fld F.RSL_PAIR_STAT_CAUSE 0 = s.fld F.RSL_PAIR_STAT_CAUSE 0 := by
  unfold State.ackEntry
  split
  · rfl
  · rename_i e _
    extract_lets u w v
    have hv : v.fld F.RSL_PAIR_STAT_CAUSE 0 = s.fld F.RSL_PAIR_STAT_CAUSE 0 := by
      have hu : Frame ackFoot s w := .le (by decide) (Frame.refl .none s).setEntry.raiseHwm.count
      unfold v
      split
      · exact (State.fld_setFlag_apart _ (by decide) _ _ _).trans (hu.fld (by decide) 0)
      · exact hu.fld (by decide) 0
    have h := Frame.refl .none v
    refine Eq.trans (Frame.fld (f := ackFoot) ?_ (by decide) 0) hv
    split
    · exact .le (by decide) h.setFld.postAck.showQueue
    · split
      · split
        · exact .le (by decide) h.giveResult
        · exact .le (by decide) h
      · exact .le (by decide) h

theorem State.journalAlone_cause : s.journalAlone.fld F.RSL_PAIR_STAT_CAUSE 0 = s.fld F.RSL_PAIR_STAT_CAUSE 0 :=
  foldl_keeps s (State.fld · F.RSL_PAIR_STAT_CAUSE 0) (fun u _ => u.ackEntry_cause _ _) _

/-- The state of a part that has marked its partner lost, before that is told. -/
def State.lossMarked (cause : Nat) : State :=
  let s := (s.setFld F.NIM_PAIR_STAT_PARTNER 0 3).setFlag F.NIM_STATUS_ALONE 0 true
  let s := (s.setFlag F.NIM_STATUS_PARTNER_WAIT 0 false).setFlag F.RSL_STATUS_PARTNER_LOST 0 true
  let s := ((s.setReg .RSL_PAIR_STAT 0 0).setFld F.RSL_PAIR_STAT_CAUSE 0 cause).irq Irq.NIM_PARTNER_ABSENT
  s.setRsl { s.rsl with lossTick := s.tick + 1, probing := false, granted := none }

variable {s}

theorem State.losePartner_eq (hm : s.mirrored = true) (hl : s.partnerLost = false) (cause : Nat) : s.losePartner cause =
    (((((s.lossMarked cause).alarm Irq.RSL_PARTNER_LOST alertPartnerLost 0 cause).journalAlone.takesAlone).changeRole true).showQueues).emit
      (.lossNotice ((((s.lossMarked cause).alarm Irq.RSL_PARTNER_LOST alertPartnerLost 0 cause).journalAlone.takesAlone).changeRole
        true).partnerId) :=
  if_neg (by simp [hm, hl])

/-- What a part that works alone changes once the loss is told. -/
def aloneFoot : Foot :=
  ⟨[.resp, .sent, .host, .twl, .nim, .tks], .GLB_INT_SUM :: .EGR_OUT_TAKE :: .NIM_INT_STAT :: .NIM_JRN_FREE :: .NIM_JRN_OPEN ::
    .NIM_CQ_LOST :: .NIM_CORE_STAT :: .NIM_CQ_TAIL :: .NIM_Q_STAT :: .NIM_SVC_STAT :: routeFoot⟩

variable (s) in
/-- What a part shows that has marked its partner lost. -/
theorem State.lossMarked_shows {cause : Nat} (h : cause < 8) : (s.lossMarked cause).partnerLost = true ∧
    (s.lossMarked cause).flag F.NIM_STATUS_ALONE 0 = true ∧ (s.lossMarked cause).flag F.RSL_STATUS_PARTNER_LOST 0 = true ∧
    (s.lossMarked cause).fld F.RSL_PAIR_STAT_CAUSE 0 = cause := by
  unfold State.lossMarked
  extract_lets u v w
  have hw := (Frame.refl .none ((v.setReg .RSL_PAIR_STAT 0 0).setFld F.RSL_PAIR_STAT_CAUSE 0 cause)).irq (c := Irq.NIM_PARTNER_ABSENT)
  refine ⟨?_, ?_, ?_, ?_⟩
  · rw [State.partnerLost, State.setRsl_fld, hw.fld (by decide), State.fld_setFld_ne _ (by decide), State.fld_setReg_ne _ (by decide),
      State.fld_setFlag_apart _ (by decide), State.fld_setFlag_apart _ (by decide), State.fld_setFlag_apart _ (by decide),
      State.fld_setFld_fits _ (by decide) (by decide)]
    rfl
  · rw [State.setRsl_flag, hw.flag (by decide), State.flag_setFld_ne _ (by decide), State.flag_setReg_ne _ (by decide),
      State.flag_setFlag_apart _ (by decide), State.flag_setFlag_apart _ (by decide)]
    exact State.flag_setFlag_same _ _ _ _ (by decide) rfl
  · rw [State.setRsl_flag, hw.flag (by decide), State.flag_setFld_ne _ (by decide), State.flag_setReg_ne _ (by decide)]
    exact State.flag_setFlag_same _ _ _ _ (by decide) rfl
  · rw [State.setRsl_fld, hw.fld (by decide)]
    exact State.fld_setFld_fits _ (by decide) h 0

/-- What a loss of the partner of a MIRRORED part shows (R549, R550). -/
theorem State.losePartner_shows (hm : s.mirrored = true) (hl : s.partnerLost = false) {cause : Nat} (h : cause < 8) :
    (s.losePartner cause).partnerLost = true ∧ (s.losePartner cause).flag F.NIM_STATUS_ALONE 0 = true ∧
      (s.losePartner cause).flag F.RSL_STATUS_PARTNER_LOST 0 = true ∧ (s.losePartner cause).fld F.RSL_PAIR_STAT_CAUSE 0 = cause ∧
      (s.losePartner cause).fld ⟨.GLB_ALERT_STAT, alertPartnerLost, 1⟩ 0 = 1 ∧ (s.losePartner cause).rsl.granted = none ∧
      (s.losePartner cause).rsl.probing = false := by
  obtain ⟨hlost, halone, hflag, hcause⟩ := s.lossMarked_shows h
  have hj := (Frame.refl .none ((s.lossMarked cause).alarm Irq.RSL_PARTNER_LOST alertPartnerLost 0 cause)).journalAlone
  have hf : Frame aloneFoot ((s.lossMarked cause).alarm Irq.RSL_PARTNER_LOST alertPartnerLost 0 cause).journalAlone (s.losePartner cause) := by
    rw [State.losePartner_eq hm hl]
    exact .le (by decide) (Frame.refl .none _).takesAlone.changeRole.showQueues.emit
  have hrsl : (s.losePartner cause).rsl = (s.lossMarked cause).rsl := (hf.parts .rsl (by decide)).trans
    ((hj.parts .rsl (by decide)).trans (State.alarm_rsl _ _ _ _ _))
  refine ⟨?_, ?_, ?_, ?_, ?_, congrArg Rsl.granted hrsl, congrArg Rsl.probing hrsl⟩
  · rw [State.partnerLost, hf.fld (by decide), hj.fld (by decide), State.alarm_fld _ _ _ _ _ (by decide)]
    exact hlost
  · rw [hf.flag (by decide), hj.flag (by decide), State.alarm_flag _ _ _ _ _ (by decide), halone]
  · rw [hf.flag (by decide), hj.flag (by decide), State.alarm_flag _ _ _ _ _ (by decide), hflag]
  · rw [hf.fld (by decide), State.journalAlone_cause, State.alarm_fld _ _ _ _ _ (by decide), hcause]
  · rw [hf.fld (by decide), hj.fld (by decide)]
    exact State.alarm_alerts _ (by decide) _ _ _

/-! ### The partner answers or returns (R551, R552) -/

variable (s) in
/-- The state after the partner has answered a probe. -/
def State.probeAnswered : State :=
  (s.setRsl { s.rsl with probing := false, missed := 0 }).setTks { s.tks with missing := 0 }

theorem exec_partnerProbeAnswer_probing (h : s.rsl.probing = true) : exec .partnerProbeAnswer s =
    .next ((s.probeAnswered.count .RSL_XCHK_MISS 0 s.rsl.missed).alarm Irq.RSL_XCHK_MISS alertXchkMiss 0 s.rsl.missed) :=
  congrArg Host.Outcome.next (if_pos h)

variable (s) in
/-- The state of a part that counts its partner again, before that is told. -/
def State.partnerCounted : State :=
  (((s.setFld F.NIM_PAIR_STAT_PARTNER 0 1).setFld F.NIM_PAIR_STAT_SINCE 0 0).setFlag F.NIM_STATUS_ALONE 0 false).setFlag
    F.RSL_STATUS_PARTNER_LOST 0 false

theorem exec_partnerReturn_lost (hm : s.mirrored = true) (hl : s.partnerLost = true) : exec .partnerReturn s = .next
    ((((s.partnerCounted.setRsl { s.partnerCounted.rsl with granted := none }).event Irq.RSL_PARTNER_RETURN 0 0).changeRole
      false).showQueues) :=
  congrArg Host.Outcome.next (if_pos (by rw [hm, hl]; rfl))

variable (s) in
theorem State.partnerCounted_shows : s.partnerCounted.fld F.NIM_PAIR_STAT_PARTNER 0 = 1 ∧
    s.partnerCounted.flag F.NIM_STATUS_ALONE 0 = false ∧ s.partnerCounted.flag F.RSL_STATUS_PARTNER_LOST 0 = false := by
  refine ⟨?_, ?_, State.flag_setFlag_same _ _ _ _ (by decide) rfl⟩
  · rw [State.partnerCounted, State.fld_setFlag_apart _ (by decide), State.fld_setFlag_apart _ (by decide),
      State.fld_setFld_apart _ (by decide)]
    exact State.fld_setFld_fits _ (by decide) (by decide) 0
  · rw [State.partnerCounted, State.flag_setFlag_apart _ (by decide)]
    exact State.flag_setFlag_same _ _ _ _ (by decide) rfl

/-! ### Fencing by command, and rejoining (R542) -/

theorem State.writeFence_open {src : Requester} (ho : s.closedTo .RSL_FENCE_CTRL src = false) (v : Word) : s.writeFence src v =
    if F.RSL_FENCE_CTRL_FENCE.on v then (s.store .RSL_FENCE_CTRL 0 0).fence 0
    else if F.RSL_FENCE_CTRL_REJOIN.on v && (s.store .RSL_FENCE_CTRL 0 0).fld F.RSL_FENCE_STAT_STATE 0 == fenceRejoinOk then
      (s.store .RSL_FENCE_CTRL 0 0).rejoin
    else s.store .RSL_FENCE_CTRL 0 0 := by
  rw [State.writeFence, State.guarded_of_open s ho]

/-- A command of REJOIN rejoins from REJOIN_OK only. -/
theorem exec_rejoinCommand_open {src : Requester} (ho : s.closedTo .RSL_FENCE_CTRL src = false) : exec (.rejoinCommand src) s =
    .next (if s.fld F.RSL_FENCE_STAT_STATE 0 = fenceRejoinOk then (s.store .RSL_FENCE_CTRL 0 0).rejoin else s.store .RSL_FENCE_CTRL 0 0) := by
  have hexec : exec (.rejoinCommand src) s = .next (s.writeFence src (F.RSL_FENCE_CTRL_REJOIN.put 1 0)) := rfl
  have hrejoin : F.RSL_FENCE_CTRL_REJOIN.on (F.RSL_FENCE_CTRL_REJOIN.put 1 0) = true := by decide
  rw [hexec, State.writeFence_open ho, if_neg (by decide), hrejoin, Bool.true_and, State.fld_store_ne s (by decide)]
  simp only [beq_iff_eq]

/-- A fence by command shows FENCED, step 0 and its alert. -/
theorem State.fence_command (h : s.fenced = false) : (s.fence 0).fld F.RSL_FENCE_STAT_STATE 0 = fenceFenced ∧
    (s.fence 0).fld F.RSL_FENCE_STAT_STEP 0 = 0 ∧ (s.fence 0).fld ⟨.GLB_ALERT_STAT, alertFenced, 1⟩ 0 = 1 := by
  have hf := (State.fence_after h 0).1
  refine ⟨(hf.fld (by decide) 0).trans ?_, (hf.fld (by decide) 0).trans (State.fld_setFld_fits _ (by decide) (by decide) 0), ?_⟩
  · rw [State.fenceMarked, State.fld_setFld_apart _ (by decide)]
    exact State.fld_setFld_fits _ (by decide) (by decide) 0
  · have heq : s.fence 0 = let t := (((s.fenceMarked 0).stopWork).alarm Irq.RSL_FENCED alertFenced 0 0).health
        if t.mirrored then t.emit .fencedNotice else t := if_neg (by simp [h])
    have ht := (Frame.refl .none (((s.fenceMarked 0).stopWork).alarm Irq.RSL_FENCED alertFenced 0 0)).health
    have htold : Frame ⟨[.sent, .host, .egr], [.GLB_INT_SUM, .EGR_INT_STAT, .EGR_HEALTH_STAT]⟩
        (((s.fenceMarked 0).stopWork).alarm Irq.RSL_FENCED alertFenced 0 0) (s.fence 0) := by
      rw [heq]
      exact .le (by decide) (.branch ht.emit ht)
    exact (htold.fld (by decide) 0).trans (State.alarm_alerts _ (by decide) _ _ _)

variable (s) in
theorem State.rejoin_shows : s.rejoin.fenced = false ∧ s.rejoin.reg .RSL_FENCE_STAT 0 = 0 ∧
    s.rejoin.flag F.NIM_STATUS_REPLAY 0 = s.mirrored := by
  unfold State.rejoin
  extract_lets u
  have hf := (Frame.refl .none (u.setFlag F.NIM_STATUS_REPLAY 0 u.mirrored)).showQueues
  have hm : u.mirrored = s.mirrored := by
    rw [State.mirrored, State.mirrored, (Frame.refl .none s).setFlag.set.fld (by decide)]
  refine ⟨?_, ?_, ?_⟩
  · rw [State.fenced, hf.flag (by decide), State.flag_setFlag_apart _ (by decide), State.flag_setReg_ne _ (by decide)]
    exact State.flag_setFlag_same _ _ _ _ (by decide) rfl
  · rw [hf.regs _ _ (by decide), State.reg_setFlag_ne _ (by decide)]
    exact State.reg_setReg_same _ _ _ _
  · rw [hf.flag (by decide), State.flag_setFlag_same _ _ _ _ (by decide) rfl, hm]

/-! ### Warm spares (R553, R554) -/

theorem exec_spareLossNotice_eq (id : Fin 1024) (s : State) : exec (.spareLossNotice id) s = .next
    (if s.spareMode && s.flag F.RSL_SPARE_CFG_ARMED 0 && s.spareState == spareIdle &&
        ((List.range 8).any fun i => s.flag F.RSL_SPARE_LIST_VALID i && s.fld F.RSL_SPARE_LIST_ID i == id.val) then
      s.setRsl { s.rsl with notice := some id } else s) := rfl

variable (s) in
/-- A claim shows the identity, and is sent. -/
theorem State.sendClaim_shows {id : Nat} (h : id < 1024) : (s.sendClaim id).spareState = spareClaiming ∧
    (s.sendClaim id).fld F.RSL_SPARE_STAT_ID 0 = id ∧ (s.sendClaim id).rsl = { s.rsl with notice := none } ∧
    (s.sendClaim id).sent = .claim id :: s.sent := by
  have hf : Frame ⟨[.rsl, .sent], []⟩ ((s.setFld F.RSL_SPARE_STAT_STATE 0 spareClaiming).setFld F.RSL_SPARE_STAT_ID 0 id) (s.sendClaim id) :=
    .le (by decide) (Frame.refl .none _).setRsl.emit
  refine ⟨?_, (hf.fld (by decide) 0).trans (State.fld_setFld_fits _ (by decide) h 0), rfl, rfl⟩
  rw [State.spareState, hf.fld (by decide), State.fld_setFld_apart _ (by decide), State.fld_setFld_fits _ (by decide) (by decide)]

variable (s) in
/-- The state of a spare that assumes the identity that it claimed, before its queues show it. -/
def State.identityAssumed (survivor : Nat) (st : Status) : State :=
  let s := s.setFld F.RSL_SPARE_STAT_STATUS 0 st.code
  let s := s.setFld F.RSL_SPARE_STAT_STATE 0 spareAssuming
  let s := (s.setFld F.GLB_CHIP_DOMAIN 0 (s.fld F.RSL_SPARE_STAT_ID 0)).setFlag F.RSL_STATUS_ASSUMED 0 true
  let s := (s.setFld F.NIM_PAIR_CFG_MODE 0 1).setFld F.NIM_PAIR_CFG_PARTNER 0 survivor
  (s.setFld F.NIM_PAIR_STAT_PARTNER 0 1).setFlag F.NIM_STATUS_REPLAY 0 true

theorem exec_spareClaimGrant_claiming {survivor : Fin 1024} {st : Status} (h : s.spareState = spareClaiming) :
    exec (.spareClaimGrant survivor st) s = .next (if st ≠ .OK then
      (s.setFld F.RSL_SPARE_STAT_STATUS 0 st.code).setFld F.RSL_SPARE_STAT_STATE 0 spareIdle
      else (s.identityAssumed survivor st).showQueues) :=
  congrArg Host.Outcome.next (if_neg (not_not_intro h))

variable (s) in
theorem State.identityAssumed_shows (survivor : Fin 1024) (st : Status) : (s.identityAssumed survivor st).spareState = spareAssuming ∧
    (s.identityAssumed survivor st).domainId = s.fld F.RSL_SPARE_STAT_ID 0 ∧
    (s.identityAssumed survivor st).flag F.RSL_STATUS_ASSUMED 0 = true ∧ (s.identityAssumed survivor st).mirrored = true ∧
    (s.identityAssumed survivor st).partnerId = survivor ∧ (s.identityAssumed survivor st).fld F.NIM_PAIR_STAT_PARTNER 0 = 1 ∧
    (s.identityAssumed survivor st).flag F.NIM_STATUS_REPLAY 0 = true := by
  unfold State.identityAssumed
  extract_lets u1 u2 u3 u4
  have h4 : Frame ⟨[], [.NIM_PAIR_STAT, .NIM_STATUS]⟩ u4 ((u4.setFld F.NIM_PAIR_STAT_PARTNER 0 1).setFlag F.NIM_STATUS_REPLAY 0 true) :=
    .le (by decide) (Frame.refl .none u4).setFld.setFlag
  have h3 : Frame ⟨[], [.NIM_PAIR_CFG, .NIM_PAIR_STAT, .NIM_STATUS]⟩ u3
      ((u4.setFld F.NIM_PAIR_STAT_PARTNER 0 1).setFlag F.NIM_STATUS_REPLAY 0 true) :=
    .le (by decide) (Frame.refl .none u3).setFld.setFld.setFld.setFlag
  refine ⟨?_, ?_, ?_, ?_, ?_, ?_, State.flag_setFlag_same _ _ _ _ (by decide) rfl⟩
  · rw [State.spareState, h3.fld (by decide), State.fld_setFlag_apart _ (by decide), State.fld_setFld_apart _ (by decide)]
    exact State.fld_setFld_fits _ (by decide) (by decide) 0
  · rw [State.domainId, h3.fld (by decide), State.fld_setFlag_apart _ (by decide),
      State.fld_setFld_fld (f := F.GLB_CHIP_DOMAIN) (g := F.RSL_SPARE_STAT_ID) u2 (by decide) u2 rfl 0 0,
      State.fld_setFld_apart _ (by decide), State.fld_setFld_apart _ (by decide)]
  · rw [h3.flag (by decide)]
    exact State.flag_setFlag_same _ _ _ _ (by decide) rfl
  · rw [State.mirrored, h4.fld (by decide), State.fld_setFld_apart _ (by decide), State.fld_setFld_fits _ (by decide) (by decide)]
    rfl
  · rw [State.partnerId, h4.fld (by decide)]
    exact State.fld_setFld_fits _ (by decide) survivor.isLt 0
  · rw [State.fld_setFlag_apart _ (by decide)]
    exact State.fld_setFld_fits _ (by decide) (by decide) 0

theorem State.writeSpareCtrl_assume {src : Requester} (ho : s.closedTo .RSL_SPARE_CTRL src = false) (id : Fin 1024) :
    s.writeSpareCtrl src (BitVec.ofNat 64 (2 ^ 31 + id.val)) = if !s.spareMode then s.refuse .NOT_READY
      else if s.spareState ≠ spareIdle then s.refuse .BUSY else (s.answer .OK).sendClaim id := by
  have hassume : F.RSL_SPARE_CTRL_ASSUME.on (BitVec.ofNat 64 (2 ^ 31 + id.val)) = true := by
    have h : F.RSL_SPARE_CTRL_ASSUME.of (BitVec.ofNat 64 (2 ^ 31 + id.val)) = 1 := by
      simp only [Fld.of, bits, BitVec.toNat_ofNat, Nat.shiftRight_eq_div_pow]
      omega
    rw [Fld.on, h]
    rfl
  have hid : F.RSL_SPARE_CTRL_ID.of (BitVec.ofNat 64 (2 ^ 31 + id.val)) = id := by
    simp only [Fld.of, bits, BitVec.toNat_ofNat, Nat.shiftRight_eq_div_pow]
    omega
  rw [State.writeSpareCtrl, State.guarded_of_open s ho, hassume, if_pos rfl, hid]

theorem State.writeSpareCtrl_release {src : Requester} (ho : s.closedTo .RSL_SPARE_CTRL src = false) :
    s.writeSpareCtrl src (BitVec.ofNat 64 (2 ^ 30)) =
      if s.spareState = spareAssumed then (s.answer .OK).releaseSpare else s.refuse .NOT_READY := by
  rw [State.writeSpareCtrl, State.guarded_of_open s ho, if_neg (by decide), if_pos (by decide)]

variable (s) in
/-- The state of a spare whose outputs drain as it releases its identity. -/
def State.releaseDrained : State :=
  ((List.range 128).filter fun n => s.outState n == 1).foldl (fun (s : State) n =>
    (s.drainOutput n).setFlag F.EGR_OUT_CFG_ENABLE n false) s

variable (s) in
/-- The state of a spare that has given its identity back, before it enters SPARE. -/
def State.identityReleased : State :=
  let s := (s.setFld F.NIM_PAIR_CFG_MODE 0 2).setReg .NIM_PAIR_STAT 0 0
  let s := (s.setFld F.GLB_CHIP_DOMAIN 0 (s.fld F.GLB_CHIP_STRAP 0)).setFlag F.RSL_STATUS_ASSUMED 0 false
  s.setFld F.RSL_SPARE_STAT_STATE 0 spareIdle

variable (s) in
theorem State.releaseSpare_eq : s.releaseSpare = (s.releaseDrained.identityReleased.enterSpare).emit (.identityFree s.domainId) := rfl

variable (s) in
theorem State.identityReleased_shows : s.identityReleased.spareState = spareIdle ∧ s.identityReleased.spareMode = true ∧
    s.identityReleased.domainId = s.fld F.GLB_CHIP_STRAP 0 ∧ s.identityReleased.flag F.RSL_STATUS_ASSUMED 0 = false := by
  unfold State.identityReleased
  extract_lets u v
  refine ⟨State.fld_setFld_fits _ (by decide) (by decide) 0, ?_, ?_, ?_⟩
  · rw [State.spareMode, State.fld_setFld_apart _ (by decide), State.fld_setFlag_apart _ (by decide), State.fld_setFld_apart _ (by decide),
      State.fld_setReg_ne _ (by decide), State.fld_setFld_fits _ (by decide) (by decide)]
    rfl
  · rw [State.domainId, State.fld_setFld_apart _ (by decide), State.fld_setFlag_apart _ (by decide), 
      State.fld_setFld_fld (f := F.GLB_CHIP_DOMAIN) (g := F.GLB_CHIP_STRAP) u (by decide) u rfl 0 0, State.fld_setReg_ne _ (by decide), State.fld_setFld_apart _ (by decide)]
  · rw [State.flag_setFld_apart _ (by decide)]
    exact State.flag_setFlag_same _ _ _ _ (by decide) rfl

variable (s) in
/-- A part that enters SPARE shows that power state. -/
theorem State.enterSpare_power : s.enterSpare.fld F.INS_STATE_STATE 0 = powerSpare := by
  have hf : Frame ⟨[.boot], [.TWL_LK_STAT, .WLT_LK_STAT, .INS_CLK_REQ, .INS_CLK_RUN]⟩ (s.setFld F.INS_STATE_STATE 0 powerSpare) s.enterSpare :=
    .le (by decide) (.fold (Frame.refl .none _).updBoot.set.set fun _ _ h => h.laceHold)
  exact (hf.fld (by decide) 0).trans (State.fld_setFld_fits _ (by decide) (by decide) 0)

end Sys2Proof.Machine

end

section
open Sys2Proof Sys2Proof.Machine

/-- Settles O48, clause by clause: the partner lost, probed and returned; the fence by command, its repair and the rejoin; and a spare
that hears, claims, assumes and releases an identity. The repair of a fence by command is log 99, the spare that is MIRRORED with the
survivor log 100. -/
theorem partnersLostFencedAndReplaced : Obligations.PartnersLostFencedAndReplaced := by
  unfold Obligations.PartnersLostFencedAndReplaced
  refine ⟨?silence, ?alone, ?fencedNotice, ?noAnswer, ?answer, ?probe, ?complete, ?returns, ?fence, ?repair, ?rejoin, ?rejoinEarly,
    ?notice, ?noticeUnarmed, ?delay, ?grantFirst, ?grantLater, ?refused, ?granted, ?timeout, ?assume, ?assumeMode, ?assumeBusy,
    ?release, ?releaseEarly⟩
  case silence =>
    intro s hm hl
    have hexec : exec .partnerSilenceTimeout s = .next (s.losePartner lossSilence) := rfl
    obtain ⟨hlost, halone, hflag, hcause, halert, hgranted, -⟩ := State.losePartner_shows hm hl (cause := lossSilence) (by decide)
    rw [hexec]
    exact .next ⟨hlost, halone, hflag, hcause, halert, hgranted⟩
  case alone =>
    intro s hm
    exact .next (if_pos (by rw [hm]; rfl))
  case fencedNotice =>
    intro s hm hl
    have hexec : exec .partnerFencedNotice s = .next (s.losePartner lossFenced) := rfl
    obtain ⟨hlost, -, hflag, hcause, -⟩ := State.losePartner_shows hm hl (cause := lossFenced) (by decide)
    rw [hexec]
    exact .next ⟨hlost, hcause, hflag⟩
  case noAnswer =>
    intro s hm hl hp
    have hexec : exec .partnerProbeTimeout s = .next (s.losePartner lossNoAnswer) := congrArg Host.Outcome.next (if_pos hp)
    obtain ⟨hlost, -, -, hcause, -, -, hprobing⟩ := State.losePartner_shows hm hl (cause := lossNoAnswer) (by decide)
    rw [hexec]
    exact .next ⟨hlost, hcause, hprobing⟩
  case answer =>
    intro s hp
    rw [exec_partnerProbeAnswer_probing hp]
    refine .next ⟨State.alarm_rsl _ _ _ _ _, State.alarm_tks _ _ _ _ _, ?_, State.alarm_alerts _ (by decide) _ _ _, ?_⟩
    · rw [State.alarm_reg _ _ _ _ _ (by decide), State.reg_count_counted]
      rfl
    · rw [State.partnerLost, State.alarm_fld _ _ _ _ _ (by decide), State.fld_count_ne _ (by decide)]
      rfl
  case probe =>
    intro s hm
    exact .next (if_pos hm)
  case complete =>
    intro key s
    exact .next ⟨rfl, rfl⟩
  case returns =>
    intro s hm hl
    obtain ⟨hpartner, halone, hlost⟩ := s.partnerCounted_shows
    have hf := (Frame.refl .none ((s.partnerCounted.setRsl { s.partnerCounted.rsl with granted := none }).event Irq.RSL_PARTNER_RETURN 0
      0)).changeRole (leading := false) |>.showQueues
    rw [exec_partnerReturn_lost hm hl]
    refine .next ⟨?_, ?_, ?_, ?_⟩
    · rw [hf.fld (by decide), State.event_fld _ _ _ _ (by decide)]
      exact hpartner
    · rw [hf.flag (by decide), State.event_flag _ _ _ _ (by decide)]
      exact halone
    · rw [hf.flag (by decide), State.event_flag _ _ _ _ (by decide)]
      exact hlost
    · rw [hf.regs _ _ (by decide)]
      exact State.event_sets _ Irq.RSL_PARTNER_RETURN rfl (by decide) (by decide) _ _
  case fence =>
    intro src s ho hn
    have hexec : exec (.fenceCommand src) s = .next (s.writeFence src (F.RSL_FENCE_CTRL_FENCE.put 1 0)) := rfl
    have hn' : (s.store .RSL_FENCE_CTRL 0 0).fenced = false := (s.flag_store_ne (by decide) _ _ _).trans hn
    rw [hexec, State.writeFence_open ho, if_pos (by decide)]
    exact .next ⟨State.fence_fenced _, State.fence_command hn'⟩
  case repair =>
    intro passed s h
    have hexec : exec (.fenceRepairDone passed) s = .next (s.setFld F.RSL_FENCE_STAT_STATE 0
      (if passed then fenceRejoinOk else fencePermanent)) := congrArg Host.Outcome.next (if_pos h)
    rw [hexec]
    refine .next ⟨State.fld_setFld_fits _ (by decide) ?_ 0, State.flag_setFld_apart _ (by decide) _ _ _⟩
    cases passed <;> decide
  case rejoin =>
    intro src s ho h
    obtain ⟨hfen, hstat, hreplay⟩ := (s.store .RSL_FENCE_CTRL 0 0).rejoin_shows
    rw [exec_rejoinCommand_open ho, if_pos h]
    refine .next ⟨hfen, hstat, hreplay.trans ?_⟩
    rw [State.mirrored, State.mirrored, s.fld_store_ne (by decide)]
  case rejoinEarly =>
    intro src s ho h
    rw [exec_rejoinCommand_open ho, if_neg h]
    exact .next ⟨s.flag_store_ne (by decide) _ _ _, s.fld_store_ne (by decide) _ _ _⟩
  case notice =>
    intro id i s hm ha hs hi hv hid
    have hlisted : ((List.range 8).any fun i => s.flag F.RSL_SPARE_LIST_VALID i && s.fld F.RSL_SPARE_LIST_ID i == id.val) = true :=
      List.any_eq_true.mpr ⟨i, List.mem_range.mpr hi, by simp [hv, hid]⟩
    rw [exec_spareLossNotice_eq, hm, ha, hs, hlisted]
    exact .next (if_pos rfl)
  case noticeUnarmed =>
    intro id s ha
    rw [exec_spareLossNotice_eq, ha]
    exact .next (if_neg (by simp))
  case delay =>
    intro id s hn hid hm hs
    have hexec : exec .spareClaimDelay s = execSpareClaimDelay s := rfl
    rw [hexec, execSpareClaimDelay, hn]
    dsimp only
    rw [hm, hs, if_pos (by decide)]
    exact .next (s.sendClaim_shows hid)
  case grantFirst =>
    intro claimant id s hm hl hid hg
    have hexec : exec (.spareClaimReceive claimant id) s = execSpareClaimReceive claimant id s := rfl
    rw [hexec, execSpareClaimReceive, if_pos (by simp [hm, hl, hid]), hg]
    exact .next rfl
  case grantLater =>
    intro claimant id other s hm hl hid hg
    have hexec : exec (.spareClaimReceive claimant id) s = execSpareClaimReceive claimant id s := rfl
    rw [hexec, execSpareClaimReceive, if_pos (by simp [hm, hl, hid]), hg]
    exact .next rfl
  case refused =>
    intro survivor st s hs hst
    rw [exec_spareClaimGrant_claiming hs, if_pos hst]
    refine .next ⟨State.fld_setFld_fits _ (by decide) (by decide) 0, ?_, ?_⟩
    · rw [State.fld_setFld_apart _ (by decide), State.fld_setFld_fits _ (by decide) (by cases st <;> decide)]
    · rw [State.domainId, State.fld_setFld_apart _ (by decide), State.fld_setFld_apart _ (by decide)]
      rfl
  case granted =>
    intro survivor st s hs hst
    obtain ⟨hstate, hid, hassumed, hmirrored, hpartner, hpresent, hreplay⟩ := s.identityAssumed_shows survivor st
    have hf := (Frame.refl .none (s.identityAssumed survivor st)).showQueues
    rw [exec_spareClaimGrant_claiming hs, if_neg (not_not_intro hst)]
    refine .next ⟨(hf.fld (by decide) 0).trans hstate, (hf.fld (by decide) 0).trans hid, (hf.flag (by decide) 0).trans hassumed, ?_,
      (hf.fld (by decide) 0).trans hpartner, (hf.fld (by decide) 0).trans hpresent, (hf.flag (by decide) 0).trans hreplay⟩
    rw [State.mirrored, hf.fld (by decide)]
    exact hmirrored
  case timeout =>
    intro s hs
    have hexec : exec .spareClaimTimeout s = .next ((s.setFld F.RSL_SPARE_STAT_STATUS 0 Status.NO_PATH.code).setFld
      F.RSL_SPARE_STAT_STATE 0 spareIdle) := congrArg Host.Outcome.next (if_pos hs)
    rw [hexec]
    refine .next ⟨State.fld_setFld_fits _ (by decide) (by decide) 0, ?_⟩
    rw [State.fld_setFld_apart _ (by decide), State.fld_setFld_fits _ (by decide) (by decide)]
  case assume =>
    intro src id s ho hm hs
    have hexec : exec (.spareAssume src id) s = .next (s.writeSpareCtrl src (BitVec.ofNat 64 (2 ^ 31 + id.val))) := rfl
    obtain ⟨hstate, hid, -, hsent⟩ := (s.answer .OK).sendClaim_shows id.isLt
    rw [hexec, State.writeSpareCtrl_assume ho, hm, if_neg (by decide), if_neg (not_not_intro hs)]
    exact .next ⟨hstate, hid, rfl, hsent⟩
  case assumeMode =>
    intro src id s ho hm
    have hexec : exec (.spareAssume src id) s = .next (s.writeSpareCtrl src (BitVec.ofNat 64 (2 ^ 31 + id.val))) := rfl
    rw [hexec, State.writeSpareCtrl_assume ho, hm]
    exact .next rfl
  case assumeBusy =>
    intro src id s ho hm hs
    have hexec : exec (.spareAssume src id) s = .next (s.writeSpareCtrl src (BitVec.ofNat 64 (2 ^ 31 + id.val))) := rfl
    rw [hexec, State.writeSpareCtrl_assume ho, hm]
    exact .next (if_pos hs)
  case release =>
    intro src s ho hs
    have hexec : exec (.spareRelease src) s = .next (s.writeSpareCtrl src (BitVec.ofNat 64 (2 ^ 30))) := rfl
    have hd : Frame ⟨[.resp, .sent, .host, .twl, .nim, .tks], .GLB_INT_SUM :: .EGR_OUT_CFG :: .EGR_OUT_TAKE :: .EGR_OUT_STAT ::
        .NIM_INT_STAT :: .NIM_JRN_FREE :: .NIM_JRN_OPEN :: .NIM_CQ_LOST :: .NIM_CQ_TAIL :: .NIM_SVC_STAT :: routeFoot⟩ (s.answer .OK)
        (s.answer .OK).releaseDrained := .le (by decide) (.fold (.refl .none _) fun _ _ h => h.drainOutput.setFlag)
    obtain ⟨hstate, hmode, hid, hassumed⟩ := (s.answer .OK).releaseDrained.identityReleased_shows
    have hf := (Frame.refl .none (s.answer .OK).releaseDrained.identityReleased).enterSpare
    rw [hexec, State.writeSpareCtrl_release ho, if_pos hs, State.releaseSpare_eq]
    refine .next ⟨(hf.fld (by decide) 0).trans hstate, ?_, ?_, (hf.flag (by decide) 0).trans hassumed, State.enterSpare_power _, rfl⟩
    · rw [State.spareMode, State.emit_fld, hf.fld (by decide)]
      exact hmode
    · rw [State.domainId, State.emit_fld, hf.fld (by decide)]
      exact hid.trans (hd.fld (by decide) 0)
  case releaseEarly =>
    intro src s ho hs
    have hexec : exec (.spareRelease src) s = .next (s.writeSpareCtrl src (BitVec.ofNat 64 (2 ^ 30))) := rfl
    rw [hexec, State.writeSpareCtrl_release ho]
    exact .next (if_neg hs)

end

section
/-! SUPPORT of O49: what an erase keeps of the settings store, snapshots that start, verify and fail. -/

namespace Sys2Proof.Machine

variable (s : State)

/-! ### What an erase keeps of the settings store (R546, R567) -/

/-- What a snapshot is made of: the one being written, the tick it started at, the valid ones and the delta records. -/
def Store.snapPart (k : Store) : Option Snapshot × Nat × List Snapshot × List Delta := (k.job, k.lastStart, k.snaps, k.deltas)

theorem State.noteWear_snapPart : s.noteWear.keep.snapPart = s.keep.snapPart := by
  unfold State.noteWear
  dsimp only
  split
  · rfl
  · rfl

/-- A retired sector is told to the Awl, with its spare in its place. -/
def State.sectorRetired (s : State) (dev sector : Nat) : State :=
  let free := s.fld F.SET_SECTORS_SPARES dev
  let n := if 0 < free then 240 - free else 240
  let s := s.setKeep { s.keep with remap := Tbl.set (fun _ => 0) (sectorKey dev sector) (n + 1) s.keep.remap }
  let s := if 0 < free then s.setFld F.SET_SECTORS_SPARES dev (free - 1) else s
  s.setFld F.SET_SECTORS_RETIRED dev (satTo 11 (s.fld F.SET_SECTORS_RETIRED dev + 1))

theorem State.retireSector_eq (dev sector : Nat) : s.retireSector dev sector =
    ((s.sectorRetired dev sector).irq Irq.SET_SECTOR_RETIRED).awlPersist .SET .warning 0x0A (awlArg dev sector) := rfl

theorem State.sectorRetired_snapPart (dev sector : Nat) : (s.sectorRetired dev sector).keep.snapPart = s.keep.snapPart := by
  unfold State.sectorRetired
  dsimp only
  split
  · rfl
  · rfl

theorem State.retireSector_snapPart (dev sector : Nat) : (s.retireSector dev sector).keep.snapPart = s.keep.snapPart := by
  have hf := ((Frame.refl .none (s.sectorRetired dev sector)).irq (c := Irq.SET_SECTOR_RETIRED)).awlPersist (b := .SET)
    (sev := .warning) (ev := 0x0A) (arg := awlArg dev sector)
  rw [State.retireSector_eq, hf.parts .keep (by decide)]
  exact s.sectorRetired_snapPart dev sector

theorem State.eraseSector_snapPart (dev sector : Nat) : (s.eraseSector dev sector).keep.snapPart = s.keep.snapPart := by
  unfold State.eraseSector
  split
  · exact s.noteWear_snapPart
  next p _ =>
    extract_lets u n _ v w
    have hv : v.keep.snapPart = s.keep.snapPart := s.noteWear_snapPart
    have hw : w.keep.snapPart = s.keep.snapPart := by
      unfold w
      split
      · exact (congrArg Store.snapPart ((Frame.refl .none v).ageWarn.parts .keep (by decide))).trans hv
      · exact hv
    split
    · exact (w.retireSector_snapPart dev sector).trans hw
    · exact hw

/-! ### A snapshot starts (R574 to R576) -/

/-- A started snapshot is being written from this tick on. -/
theorem State.startSnap_shows : s.startSnap.keep.job.isSome = true ∧ s.startSnap.keep.lastStart = s.tick ∧
    s.startSnap.fld F.SET_STATUS_STATE 0 = 1 := by
  unfold State.startSnap
  extract_lets pair bank len last from_ sectors start x hit _ u
  have hkeep : (sectors.foldl (fun (s : State) n => s.eraseSector bank (bankSector pair n)) u).keep.snapPart = u.keep.snapPart :=
    foldl_keeps u (fun t : State => t.keep.snapPart) (fun t n => t.eraseSector_snapPart bank (bankSector pair n)) sectors
  obtain ⟨hjob, hstart, -, -⟩ := by simpa only [Store.snapPart, Prod.mk.injEq] using hkeep
  refine ⟨?_, ?_, State.fld_setFld_fits _ (by decide) (by decide) 0⟩
  · rw [State.setFld_keep, hjob]
    rfl
  · rw [State.setFld_keep, hstart]
    rfl

/-! ### A snapshot fails (R572, R576) -/

theorem State.retireSector_sets (dev sector : Nat) :
    bit Irq.SET_SECTOR_RETIRED.bit ((s.retireSector dev sector).reg .SET_INT_STAT 0) = true := by
  have hf := (Frame.refl .none ((s.sectorRetired dev sector).irq Irq.SET_SECTOR_RETIRED)).awlPersist (b := .SET) (sev := .warning)
    (ev := 0x0A) (arg := awlArg dev sector)
  rw [State.retireSector_eq, hf.regs .SET_INT_STAT 0 (by decide)]
  exact State.irq_sets _ Irq.SET_SECTOR_RETIRED rfl (by decide) (by decide)

theorem State.retireSector_keeps_bit {b : Nat} (hb : b < Reg.SET_INT_STAT.width) (dev sector : Nat)
    (h : bit b (s.reg .SET_INT_STAT 0) = true) : bit b ((s.retireSector dev sector).reg .SET_INT_STAT 0) = true := by
  have hf := (Frame.refl .none ((s.sectorRetired dev sector).irq Irq.SET_SECTOR_RETIRED)).awlPersist (b := .SET) (sev := .warning)
    (ev := 0x0A) (arg := awlArg dev sector)
  have hs : Frame ⟨[.keep], [.SET_SECTORS]⟩ s (s.sectorRetired dev sector) :=
    .le (by decide) (.setFld (.branch (.setFld (Frame.refl .none s).setKeep) (Frame.refl .none s).setKeep))
  rw [State.retireSector_eq, hf.regs .SET_INT_STAT 0 (by decide)]
  exact State.irq_keeps_bit _ _ (by decide) hb (by rw [hs.regs .SET_INT_STAT 0 (by decide)]; exact h)

/-- The sectors that fail the read-back, retired one after the other. -/
def State.sectorsFail (s : State) (x : Snapshot) (l : List (Fin 256)) : State :=
  l.foldl (fun (s : State) n => s.retireSector x.bank (bankSector x.pair n)) s

theorem State.sectorsFail_snapPart (x : Snapshot) (l : List (Fin 256)) : (s.sectorsFail x l).keep.snapPart = s.keep.snapPart :=
  foldl_keeps s (fun t : State => t.keep.snapPart) (fun t n => t.retireSector_snapPart x.bank (bankSector x.pair n)) l

theorem State.sectorsFail_keeps_bit {b : Nat} (hb : b < Reg.SET_INT_STAT.width) (x : Snapshot) (l : List (Fin 256)) :
    ∀ s : State, bit b (s.reg .SET_INT_STAT 0) = true → bit b ((s.sectorsFail x l).reg .SET_INT_STAT 0) = true := by
  induction l with
  | nil => exact fun _ h => h
  | cons n l ih => exact fun s h => ih _ (s.retireSector_keeps_bit hb _ _ h)

theorem State.sectorsFail_sets (x : Snapshot) (n : Fin 256) (l : List (Fin 256)) :
    bit Irq.SET_SECTOR_RETIRED.bit ((s.sectorsFail x (n :: l)).reg .SET_INT_STAT 0) = true :=
  State.sectorsFail_keeps_bit (by decide) x l _ (s.retireSector_sets _ _)

theorem State.checkBank_keeps_bit {b : Nat} (hb : b < Reg.SET_INT_STAT.width) (bank : Nat)
    (h : bit b (s.reg .SET_INT_STAT 0) = true) : bit b ((s.checkBank bank).reg .SET_INT_STAT 0) = true := by
  unfold State.checkBank
  dsimp only
  split
  · refine State.irq_keeps_bit _ _ (by decide) hb ?_
    rw [State.setFlag, State.reg_setFld_ne _ (by split <;> decide)]
    exact h
  · exact h

/-- The job of a snapshot ends. -/
def State.jobDone (s : State) : State := (s.setKeep { s.keep with job := none }).setFld F.SET_STATUS_STATE 0 0

/-- A snapshot whose read-back names sectors is told to have failed. -/
def State.snapFails (s : State) (x : Snapshot) (l : List (Fin 256)) : State :=
  ((((s.jobDone.sectorsFail x l).checkBank x.bank).irq Irq.SET_SNAP_FAIL).snapResult .MEDIA_FAIL).awlPersist .SET .warning 0x09
    Status.MEDIA_FAIL.code

theorem exec_snapshotVerifyDone_fails {s : State} {x : Snapshot} (h : s.keep.job = some x) (n : Fin 256) (l : List (Fin 256)) :
    exec (.snapshotVerifyDone (n :: l)) s = .next (s.snapFails x (n :: l)) := by
  change execSnapshotVerifyDone (n :: l) s = _
  rw [execSnapshotVerifyDone, h]
  rfl

/-! ### A snapshot verifies (R572, R576) -/

/-- The settings store with a verified snapshot and without the delta records that it holds. -/
def Store.verified (k : Store) (x : Snapshot) : Store :=
  { k with job := none, snaps := x :: k.snaps, deltas := k.deltas.filter fun (d : Delta) => decide (x.deltaPos ≤ d.dpos) }

/-- A verified snapshot enters the store. -/
def State.snapStored (s : State) (x : Snapshot) : State := s.jobDone.setKeep (s.keep.verified x)

/-- A verified snapshot is counted and told. -/
def State.snapVerifies (s : State) (x : Snapshot) : State :=
  (((((s.snapStored x).showSnap x).showDeltas).irq Irq.SET_SNAP_DONE).count .SET_SNAPS 0 1).snapResult .OK

theorem exec_snapshotVerifyDone_verifies {s : State} {x : Snapshot} (h : s.keep.job = some x) :
    exec (.snapshotVerifyDone []) s = .next (s.snapVerifies x) := by
  change execSnapshotVerifyDone [] s = _
  rw [execSnapshotVerifyDone, h]
  rfl

theorem State.showDeltas_of_low (h : s.keep.deltas.length < 30720) :
    s.showDeltas = s.setFld F.SET_DELTA_USED_N 0 s.keep.deltas.length :=
  if_neg fun hc => Nat.not_le.mpr h hc.1

/-! ### A snapshot asked for (R577, R581) -/

theorem State.writeSetCtrl_snap {src : Requester} (ho : s.closedTo .SET_CTRL src = false)
    (hc : s.flag F.SET_STATUS_CONVERT_FAIL 0 = false) : s.writeSetCtrl src (F.SET_CTRL_SNAP.put 1 0) =
    if s.keep.job.isSome || s.fld F.SET_DEMAND_LEFT_N 0 == 0 then (s.answer .OK).snapResult .BUSY
    else (((s.answer .OK).setFld F.SET_DEMAND_LEFT_N 0 (s.fld F.SET_DEMAND_LEFT_N 0 - 1)).startSnap).snapResult .OK := by
  rw [State.writeSetCtrl, State.guarded_of_open s ho]
  exact (if_neg (by decide)).trans (if_neg (by simp [hc]))

theorem exec_snapshotAuto_due {s : State} (hj : s.keep.job = none)
    (ht : s.keep.lastStart + s.fld F.SET_CFG_INTERVAL 0 * 32768 ≤ s.tick) (hd : s.keep.deltas ≠ []) :
    exec .snapshotAuto s = .next (if s.flag F.SET_STATUS_CONVERT_FAIL 0 then s.snapResult .CONVERT_FAIL else s.startSnap) := by
  refine congrArg Host.Outcome.next (if_neg ?_)
  simp [hj, hd, Nat.not_lt.mpr ht]

/-! ### The power-fail writes (R588) -/

/-- Every window closes. -/
def State.closeWindows (s : State) : State :=
  s.setAwl { s.awl with staged := s.awl.staged.map fun (e : Staged) => { e with window := false } }

theorem State.closeWindows_flag (g : Fld) (i : Nat) : s.closeWindows.flag g i = s.flag g i := rfl

theorem State.setFrozen_shows (b : Bool) : (s.setFrozen b).flag F.AWL_STATUS_FROZEN 0 = b :=
  State.flag_setFlag_same _ _ _ _ (by decide) rfl

end Sys2Proof.Machine

end

section
open Sys2Proof Sys2Proof.Machine

/-- Settles O49, clause by clause: an erase and a retired sector leave the snapshots and the delta records alone. -/
theorem snapshotsCountersAndTheDeltaLog : Obligations.SnapshotsCountersAndTheDeltaLog := by
  unfold Obligations.SnapshotsCountersAndTheDeltaLog
  refine ⟨?counters, ?autoIdle, ?autoConvert, ?auto, ?demand, ?demandBusy, ?noJob, ?verified, ?failed, ?refill, ?powerFail⟩
  case counters => exact fun s => .next ⟨rfl, rfl⟩
  case autoIdle =>
    intro s h
    have hexec : exec .snapshotAuto s = .next s := congrArg Host.Outcome.next (if_pos (by simpa [or_assoc] using h))
    rw [hexec]
    exact .next rfl
  case autoConvert =>
    intro s hj ht hd hc
    rw [exec_snapshotAuto_due hj ht hd, if_pos hc]
    exact .next ⟨State.fld_setFld_fits _ (by decide) (by decide) 0, rfl⟩
  case auto =>
    intro s hj ht hd hc
    rw [exec_snapshotAuto_due hj ht hd, if_neg (by simp [hc])]
    exact .next s.startSnap_shows
  case demand =>
    intro src s ho hc hj hl
    have hexec : exec (.snapshotDemand src) s = .next (s.writeSetCtrl src (F.SET_CTRL_SNAP.put 1 0)) := rfl
    let u := (s.answer .OK).setFld F.SET_DEMAND_LEFT_N 0 (s.fld F.SET_DEMAND_LEFT_N 0 - 1)
    obtain ⟨hjob, -, -⟩ := u.startSnap_shows
    have hf := (Frame.refl .none u).startSnap
    have hlt := s.fld_lt F.SET_DEMAND_LEFT_N 0
    rw [hexec, State.writeSetCtrl_snap s ho hc, if_neg (by simp [hj, hl])]
    refine .next ⟨hjob, ?_, State.fld_setFld_fits _ (by decide) (by decide) 0, hf.parts .resp (by decide)⟩
    rw [State.snapResult, State.fld_setFld_apart _ (by decide), hf.fld (by decide)]
    exact State.fld_setFld_fits _ (by decide) (Nat.lt_of_le_of_lt (Nat.sub_le _ _) hlt) 0
  case demandBusy =>
    intro src s ho hc h
    have hexec : exec (.snapshotDemand src) s = .next (s.writeSetCtrl src (F.SET_CTRL_SNAP.put 1 0)) := rfl
    rw [hexec, State.writeSetCtrl_snap s ho hc, if_pos (by simpa using h)]
    exact .next ⟨State.fld_setFld_fits _ (by decide) (by decide) 0, rfl⟩
  case noJob =>
    intro failing s h
    have hexec : exec (.snapshotVerifyDone failing) s = .next s := by
      change execSnapshotVerifyDone failing s = _
      rw [execSnapshotVerifyDone, h]
    rw [hexec]
    exact .next rfl
  case verified =>
    intro x s hj hlow
    let u := ((s.snapStored x).showSnap x).showDeltas
    have hu : u = ((s.snapStored x).showSnap x).setFld F.SET_DELTA_USED_N 0 (s.keep.verified x).deltas.length :=
      ((s.snapStored x).showSnap x).showDeltas_of_low hlow
    have hs : Frame ⟨[.keep], [.SET_STATUS, .SET_SNAP_SEQ, .SET_SNAP_OPSEC, .SET_SNAP_LEN, .SET_PAIR_FMT, .SET_DELTA_USED]⟩ s u := by
      rw [hu]
      exact .le (by decide) (Frame.refl .none s).setKeep.setFld.setKeep.showSnap.setFld
    have hkeep : ((u.irq Irq.SET_SNAP_DONE).count .SET_SNAPS 0 1).keep = s.keep.verified x := by
      rw [State.count_keep, State.irq_keep, hu]
      rfl
    rw [exec_snapshotVerifyDone_verifies hj]
    refine .next ⟨congrArg Store.job hkeep, congrArg Store.snaps hkeep, congrArg Store.deltas hkeep, ?_,
      State.fld_setFld_fits _ (by decide) (by decide) 0, ?_⟩
    · rw [State.snapVerifies, State.snapResult, State.reg_setFld_ne _ (by decide), State.reg_count_counted]
      exact State.counted_congr ((State.irq_reg _ _ (by decide) 0).trans (hs.regs .SET_SNAPS 0 (by decide))) _
    · rw [State.snapVerifies, State.snapResult, State.reg_setFld_ne _ (by decide), State.reg_count_ne _ (by decide)]
      exact State.irq_sets _ Irq.SET_SNAP_DONE rfl (by decide) (by decide)
  case failed =>
    intro n l x s hj
    let u := ((s.jobDone.sectorsFail x (n :: l)).checkBank x.bank).irq Irq.SET_SNAP_FAIL
    have hw := (Frame.refl .none (u.snapResult .MEDIA_FAIL)).awlPersist (b := .SET) (sev := .warning) (ev := 0x09)
      (arg := Status.MEDIA_FAIL.code)
    have hint : (s.snapFails x (n :: l)).reg .SET_INT_STAT 0 = u.reg .SET_INT_STAT 0 :=
      (hw.regs .SET_INT_STAT 0 (by decide)).trans (State.reg_setFld_ne _ (by decide) _ _ _)
    have hu := (Frame.refl .none (s.jobDone.sectorsFail x (n :: l))).checkBank (bank := x.bank) |>.irq (c := Irq.SET_SNAP_FAIL)
    have hkeep : (s.snapFails x (n :: l)).keep.snapPart = s.jobDone.keep.snapPart :=
      (congrArg Store.snapPart ((hw.parts .keep (by decide)).trans (hu.parts .keep (by decide)))).trans
        (s.jobDone.sectorsFail_snapPart x (n :: l))
    obtain ⟨hjob, -, hsnaps, hdeltas⟩ := by simpa only [Store.snapPart, Prod.mk.injEq] using hkeep
    rw [exec_snapshotVerifyDone_fails hj]
    refine .next ⟨hjob, hsnaps, hdeltas, ?_, ?_, ?_⟩
    · exact (hw.fld (by decide) 0).trans (State.fld_setFld_fits _ (by decide) (by decide) 0)
    · rw [hint]
      exact State.irq_sets _ Irq.SET_SNAP_FAIL rfl (by decide) (by decide)
    · rw [hint]
      exact State.irq_keeps_bit _ _ (by decide) (by decide)
        (State.checkBank_keeps_bit _ (by decide) _ (s.jobDone.sectorsFail_sets x n l))
  case refill => exact fun s => .next ⟨State.fld_setFld_same _ _ _ _ (by decide), rfl⟩
  case powerFail =>
    intro s
    have hexec : exec (.powerFailWarning 0) s = .next ((s.writeCounters.setFrozen false).closeWindows) := rfl
    have hfrozen : (s.writeCounters.setFrozen false).closeWindows.flag F.AWL_STATUS_FROZEN 0 = false :=
      (State.closeWindows_flag _ _ _).trans (State.setFrozen_shows _ _)
    rw [hexec]
    refine .next ⟨rfl, hfrozen, fun e he => ?_, List.length_map _⟩
    obtain ⟨e', -, rfl⟩ := List.mem_map.mp he
    rfl

end

section
/-! SUPPORT of O50: staged events, records in MRAM, latched reads, clears, and the return to MRAM. -/

namespace Sys2Proof.Machine

variable (s : State)

/-! ### What a staged event leaves (R584, R585) -/

/-- A staged event changes the queue and the count of lost events, and leaves what else the Awl holds. -/
theorem State.stage_lockout (src code arg : Nat) : (s.stage src code arg).awl.lockout = s.awl.lockout := by
  unfold State.stage
  split
  · rfl
  · split
    · rfl
    · rw [State.irq_awl, State.count_awl]

/-- A field of AWL_STATUS beside STAGED is as before. -/
theorem State.stage_status_flag {g : Fld} (hg : F.AWL_STATUS_STAGED.apart g = true) (hr : g.reg = .AWL_STATUS) (src code arg i : Nat) :
    (s.stage src code arg).flag g i = s.flag g i := by
  have hmerged : g.reg ≠ .AWL_MERGED := by rw [hr]; decide
  have hlost : g.reg ≠ .AWL_LOST := by rw [hr]; decide
  have hret : g.reg ≠ F.INS_RET_STAT_STAGED.reg := by rw [hr]; decide
  have hirq : g.reg ∉ Irq.AWL_LOST.blk.irqRegs := by rw [hr]; decide
  unfold State.stage
  split
  · rw [State.flag_count_ne _ hmerged]
    rfl
  · split
    · rw [State.showStaged, State.flag_setFld_ne _ hret, State.flag_setFld_apart _ hg]
      rfl
    · rw [State.irq_flag _ _ hirq, State.flag_count_ne _ hlost]
      rfl

/-- A cause of the Awl that is set stays set. -/
theorem State.stage_keeps_bit {b : Nat} (hb : b < Reg.AWL_INT_STAT.width) (src code arg : Nat)
    (h : bit b (s.reg .AWL_INT_STAT 0) = true) : bit b ((s.stage src code arg).reg .AWL_INT_STAT 0) = true := by
  unfold State.stage
  split
  · rw [State.reg_count_ne _ (by decide)]
    exact h
  · split
    · rw [State.showStaged, State.reg_setFld_ne _ (by decide), State.reg_setFld_ne _ (by decide)]
      exact h
    · refine State.irq_keeps_bit _ _ (by decide) hb ?_
      rw [State.reg_count_ne _ (by decide)]
      exact h

/-! ### A record in MRAM (R586, R589) -/

/-- The record of an entry in MRAM. -/
def State.mramRecord (s : State) (e : Staged) : AwlRecord :=
  ⟨(s.reg .AWL_SEQ_NEXT 0).toNat, e.time, e.opsec, e.src, e.code, e.arg, e.rep, (if e.retained then 1 else 0),
    (s.reg .INS_PCYCLES 0).toNat, (s.reg .AWL_EPOCH 0).toNat⟩

/-- SEQ goes on, and a record that a full log overwrites is counted. -/
def State.seqTaken (s : State) : State :=
  let t := s.setReg .AWL_SEQ_NEXT 0 (BitVec.ofNat 64 ((s.reg .AWL_SEQ_NEXT 0).toNat + 1))
  if 32768 ≤ s.fld F.AWL_COUNT_N 0 then t.count .AWL_OVERWRITTEN 0 1 else t

/-- The records of MRAM with one at the head. -/
def State.mramWith (s : State) (e : Staged) : Awl :=
  { s.awl with mram := Tbl.set (fun _ => none) (s.fld F.AWL_HEAD_INDEX 0) (some (s.mramRecord e)) s.awl.mram }

theorem State.seqTaken_keeps : Frame ⟨[], [.AWL_SEQ_NEXT, .AWL_OVERWRITTEN]⟩ s s.seqTaken :=
  .le (by decide) (.branch (Frame.refl .none s).set.count (Frame.refl .none s).set)

theorem BitVec.ofNat_toNat_add_one (v : Word) : BitVec.ofNat 64 (v.toNat + 1) = v + 1 := by
  rw [BitVec.ofNat_add, BitVec.ofNat_toNat, BitVec.setWidth_eq]
  rfl

theorem State.seqTaken_seq : s.seqTaken.reg .AWL_SEQ_NEXT 0 = s.reg .AWL_SEQ_NEXT 0 + 1 := by
  rw [State.seqTaken, State.reg_ite, State.reg_count_ne _ (by decide), ite_self, State.reg_setReg_same, Reg.fit_wide rfl]
  exact BitVec.ofNat_toNat_add_one _

theorem State.putRecord_mram (h : s.awlMedium = awlMram) (e : Staged) : s.putRecord e =
    ((s.seqTaken.setAwl (s.mramWith e)).setFld F.AWL_HEAD_INDEX 0 ((s.fld F.AWL_HEAD_INDEX 0 + 1) % 32768)).showAwl := by
  have hcount : (s.setReg .AWL_SEQ_NEXT 0 (BitVec.ofNat 64 ((s.reg .AWL_SEQ_NEXT 0).toNat + 1))).fld F.AWL_COUNT_N 0 =
    s.fld F.AWL_COUNT_N 0 := State.fld_setReg_ne _ (by decide) _ _ _
  have hflash : ¬(awlMram = awlFlash ∧ s.fld F.AWL_HEAD_INDEX 0 % 1024 = 0) := fun h => absurd h.1 (by decide)
  unfold State.putRecord
  rw [h]
  dsimp only
  rw [if_neg (by decide : ¬awlMram = awlRetention), if_neg hflash,
    if_pos (rfl : awlMram = awlMram), if_neg (by decide : ¬awlMram = awlFlash), hcount, show awlSize awlMram = 32768 from rfl, beq_self_eq_true, Bool.and_true,
    State.seqTaken, State.mramWith]
  by_cases hfull : 32768 ≤ s.fld F.AWL_COUNT_N 0
  · rw [if_pos hfull, if_pos (decide_eq_true hfull)]
    rfl
  · rw [if_neg hfull, if_neg (by simpa using hfull)]
    rfl

/-- What a record in MRAM changes. -/
theorem State.putRecord_mram_keeps (h : s.awlMedium = awlMram) (e : Staged) :
    Frame ⟨[.awl], [.AWL_SEQ_NEXT, .AWL_OVERWRITTEN, .AWL_HEAD, .AWL_COUNT, .AWL_OLDEST]⟩ s (s.putRecord e) := by
  rw [s.putRecord_mram h]
  exact .le (by decide) s.seqTaken_keeps.setAwl.setFld.showAwl

/-- A record in MRAM stands at the head, the head moves on, and so does SEQ. -/
theorem State.putRecord_mram_shows (h : s.awlMedium = awlMram) (e : Staged) :
    (s.putRecord e).awl = s.mramWith e ∧ (s.putRecord e).reg .AWL_SEQ_NEXT 0 = s.reg .AWL_SEQ_NEXT 0 + 1 ∧
    (s.putRecord e).fld F.AWL_HEAD_INDEX 0 = (s.fld F.AWL_HEAD_INDEX 0 + 1) % 32768 := by
  let u := (s.seqTaken.setAwl (s.mramWith e)).setFld F.AWL_HEAD_INDEX 0 ((s.fld F.AWL_HEAD_INDEX 0 + 1) % 32768)
  have hf := (Frame.refl .none u).showAwl
  have hlt : (s.fld F.AWL_HEAD_INDEX 0 + 1) % 32768 < 2 ^ 20 := (Nat.mod_lt _ (by decide)).trans (by decide)
  have hseq : (s.seqTaken.setAwl (s.mramWith e)).reg .AWL_SEQ_NEXT 0 = s.reg .AWL_SEQ_NEXT 0 + 1 := s.seqTaken_seq
  rw [s.putRecord_mram h]
  refine ⟨hf.parts .awl (by decide), ?_, (hf.fld (by decide) 0).trans (State.fld_setFld_fits _ (by decide) hlt 0)⟩
  rw [hf.regs .AWL_SEQ_NEXT 0 (by decide), State.reg_setFld_ne _ (by decide)]
  exact hseq

theorem State.dropStaged_none_lost (h : s.awl.lost = 0) :
    s.dropStaged = (s.setAwl { s.awl with staged := s.awl.staged.tail }).showStaged :=
  if_pos h

theorem exec_awlRecordWrite_oldest {s : State} {e : Staged} {l : List Staged} (hz : s.flag F.AWL_STATUS_FROZEN 0 = false)
    (hs : s.awl.staged = e :: l) (hw : e.window = false) (ok : Bool) : exec (.awlRecordWrite ok) s = .next (s.writeOldest ok) :=
  congrArg Host.Outcome.next (if_neg (by simp [hz, hs, hw]))

theorem State.writeOldest_mram {e : Staged} {l : List Staged} (hs : s.awl.staged = e :: l) (hr : s.awlRoom = true)
    (hm : s.awlMedium = awlMram) : s.writeOldest true = (s.putRecord e).dropStaged := by
  unfold State.writeOldest
  rw [hs]
  dsimp only
  rw [hr, if_neg (by decide), if_pos (by rfl), if_neg (by rw [hm]; decide)]

theorem State.writeOldest_full {e : Staged} {l : List Staged} (hs : s.awl.staged = e :: l) (hr : s.awlRoom = false) (ok : Bool) :
    s.writeOldest ok = s.awlFull := by
  unfold State.writeOldest
  rw [hs]
  dsimp only
  rw [hr, if_pos (by rfl)]

/-- A full log under STOP shows FULL. -/
theorem State.awlFull_shows : s.awlFull.flag F.AWL_STATUS_FULL 0 = true := by
  unfold State.awlFull
  split
  next h => exact h
  next =>
    have hf := ((Frame.refl .none (s.setFlag F.AWL_STATUS_FULL 0 true)).irq (c := Irq.AWL_FULL)).alert (b := alertAwlFull)
    exact (hf.flag (by decide) 0).trans (State.flag_setFlag_same _ _ _ _ (by decide) rfl)

/-! ### Windows and freezing (R584, R590) -/

theorem closeWindow_length (l : List Staged) : (closeWindow l).length = l.length := by
  induction l with
  | nil => rfl
  | cons e l ih =>
    unfold closeWindow
    split
    · rfl
    · exact congrArg (· + 1) ih

theorem State.writeAwlCtrl_open {src : Requester} (ho : s.closedTo .AWL_CTRL src = false) (v : Word) : s.writeAwlCtrl src v =
    if F.AWL_CTRL_RETRY_MRAM.on v then
      ((s.answer .OK).setFrozen (F.AWL_CTRL_FREEZE.on v)).setAwl { s.awl with retrying := true }
    else (s.answer .OK).setFrozen (F.AWL_CTRL_FREEZE.on v) := by
  rw [State.writeAwlCtrl, State.guarded_of_open s ho]
  rfl

/-! ### Latched records (R591) -/

/-- The record under the index: a read ends with what it holds, or with free words where it is torn. -/
def State.latched (s : State) : State :=
  (s.setAwl { s.awl with latching := false }).setReg .AWL_RD_STAT 0 (F.AWL_RD_STAT_DONE.put 1 0)

/-- The words of a record. -/
def State.showRecord (s : State) (r : AwlRecord) : State :=
  (List.range 16).foldl (fun (s : State) w =>
    s.setReg .AWL_RD_DATA w (BitVec.ofNat 64 ((List.range 4).foldl (fun a i => a + (r.bytes.getD (4 * w + i) 0).toNat * 256 ^ i) 0))) s

theorem Frame.showRecord {f : Foot} {a b : State} {r : AwlRecord} (h : Frame f a b) :
    Frame (f.plus ⟨[], [.AWL_RD_DATA]⟩) a (b.showRecord r) :=
  h.op (by decide) fun h => .fold h fun _ _ h1 => h1.set

/-- A latched record. -/
def State.latchRecord (s : State) (torn : Bool) (r : AwlRecord) : State :=
  if torn then s.latched.freeLatch.setFlag F.AWL_RD_STAT_TORN 0 true
  else if r.epoch = (s.reg .AWL_EPOCH 0).toNat then (s.latched.showRecord r).setFlag F.AWL_RD_STAT_VALID 0 true
  else (s.latched.showRecord r).setFlag F.AWL_RD_STAT_OLD_EPOCH 0 true

theorem exec_awlReadLatchDone_record {s : State} {r : AwlRecord} (hl : s.awl.latching = true)
    (hr : Tbl.get (fun _ => none) (s.awlRecs (s.fld F.AWL_RD_IDX_MEDIUM 0)) (s.fld F.AWL_RD_IDX_INDEX 0) = some r) (torn : Bool) :
    exec (.awlReadLatchDone torn) s = .next (s.latchRecord torn r) := by
  have hrec : Tbl.get (fun _ => none) (s.latched.awlRecs (s.fld F.AWL_RD_IDX_MEDIUM 0)) (s.latched.fld F.AWL_RD_IDX_INDEX 0) =
      some r := by
    rw [show s.latched.fld F.AWL_RD_IDX_INDEX 0 = s.fld F.AWL_RD_IDX_INDEX 0 from State.fld_setReg_ne _ (by decide) _ _ _]
    exact hr
  have hepoch : ((s.latched.showRecord r).reg .AWL_EPOCH 0) = s.reg .AWL_EPOCH 0 :=
    ((Frame.refl .none s.latched).showRecord.regs .AWL_EPOCH 0 (by decide)).trans (State.reg_setReg_other _ (by decide) _ _ _)
  change execAwlReadLatchDone torn s = _
  rw [execAwlReadLatchDone, hl, if_neg (by decide)]
  dsimp only
  split
  next hnone => exact absurd (hrec.symm.trans hnone) (by simp)
  next r' hsome =>
    obtain rfl : r = r' := Option.some.inj (hrec.symm.trans hsome)
    cases torn with
    | true => rw [if_pos rfl, State.latchRecord, if_pos rfl, State.latched]
    | false =>
      rw [if_neg Bool.false_ne_true, State.latchRecord, if_neg Bool.false_ne_true, ← hepoch, State.latched]
      rfl

theorem State.latched_flag {g : Fld} (hr : g.reg = .AWL_RD_STAT) :
    s.latched.flag g 0 = g.on (Reg.AWL_RD_STAT.fit (F.AWL_RD_STAT_DONE.put 1 0)) := by
  rw [State.flag, State.fld, hr, State.latched, State.reg_setReg_same]
  rfl

/-! ### Clearing (R592, R593) -/

theorem State.goResult_eq (st : Status) : s.goResult st =
    (((s.answer st).setFld F.AWL_CLR_RESULT_STATUS 0 st.code).setReg .AWL_CLR_NONCE 0 s.free).drawFree := rfl

/-- The status of the last GO, and a nonce that is a free value. -/
theorem State.goResult_shows (st : Status) (h : st.code < 2 ^ 16) : (s.goResult st).resp = st ∧
    (s.goResult st).fld F.AWL_CLR_RESULT_STATUS 0 = st.code ∧ (s.goResult st).reg .AWL_CLR_NONCE 0 = s.free := by
  rw [State.goResult_eq]
  refine ⟨rfl, ?_, ?_⟩
  · rw [State.drawFree_fld, State.fld_setReg_ne _ (by decide), State.fld_setFld_fits _ (by decide) h]
  · rw [State.drawFree_reg, State.reg_setReg_same, Reg.fit_wide rfl]

theorem State.goResult_fails (st : Status) :
    (s.goResult st).fld F.AWL_CLR_RESULT_FAILS 0 = s.fld F.AWL_CLR_RESULT_FAILS 0 := by
  rw [State.goResult_eq, State.drawFree_fld, State.fld_setReg_ne _ (by decide), State.fld_setFld_apart _ (by decide),
    State.answer_fld]

theorem State.free_congr {s t : State} (h : t.freeCtr = s.freeCtr) : t.free = s.free := by
  rw [State.free, State.free, h]

/-- GO, with the MAC that it finds. -/
theorem State.writeClrCtrl_go {src : Requester} (ho : s.closedTo .AWL_CLR_CTRL src = false) (m : Bool) :
    s.writeClrCtrl src m (F.AWL_CLR_CTRL_GO.put 1 0) =
    if s.flag F.AWL_STATUS_FROZEN 0 || s.flag F.AWL_STATUS_CLEARING 0 || s.awl.lockout then s.goResult .BUSY
    else if m then s.clearAwl.goResult .OK
    else ((((s.setFld F.AWL_CLR_RESULT_FAILS 0 (satTo 8 (s.fld F.AWL_CLR_RESULT_FAILS 0 + 1))).setAwl
      { s.awl with lockout := decide (3 ≤ satTo 8 (s.fld F.AWL_CLR_RESULT_FAILS 0 + 1)) }).irq Irq.AWL_AUTH_FAIL).awlPersist .AWL
        .warning 0x05 (satTo 8 (s.fld F.AWL_CLR_RESULT_FAILS 0 + 1))).goResult .AUTH_FAIL := by
  rw [State.writeClrCtrl, State.guarded_of_open s ho]
  exact if_neg (by decide)

/-- The log is about to begin a new epoch, and is not full. -/
def State.epochBegun (s : State) : State :=
  ((s.setReg .AWL_EPOCH 0 (BitVec.ofNat 64 ((s.reg .AWL_EPOCH 0).toNat + 1))).setFlag F.AWL_STATUS_FULL 0 false).showAwl

theorem State.epochBegun_keeps : Frame ⟨[], [.AWL_EPOCH, .AWL_STATUS, .AWL_COUNT, .AWL_OLDEST]⟩ s s.epochBegun :=
  .le (by decide) (Frame.refl .none s).set.setFlag.showAwl

theorem State.epochBegun_medium : s.epochBegun.awlMedium = s.awlMedium := by
  have hf := (Frame.refl .none ((s.setReg .AWL_EPOCH 0 (BitVec.ofNat 64 ((s.reg .AWL_EPOCH 0).toNat + 1))).setFlag
    F.AWL_STATUS_FULL 0 false)).showAwl
  rw [State.awlMedium, State.epochBegun, hf.fld (by decide), State.fld_setFlag_apart _ (by decide), State.fld_setReg_ne _ (by decide)]
  rfl

theorem State.epochBegun_shows (h : (s.reg .AWL_EPOCH 0).toNat < 2 ^ 32 - 1) :
    (s.epochBegun.reg .AWL_EPOCH 0).toNat = (s.reg .AWL_EPOCH 0).toNat + 1 ∧ s.epochBegun.flag F.AWL_STATUS_FULL 0 = false := by
  let u := s.setReg .AWL_EPOCH 0 (BitVec.ofNat 64 ((s.reg .AWL_EPOCH 0).toNat + 1))
  have hf := (Frame.refl .none (u.setFlag F.AWL_STATUS_FULL 0 false)).showAwl
  refine ⟨?_, (hf.flag (by decide) 0).trans (State.flag_setFlag_same _ _ _ _ (by decide) rfl)⟩
  rw [State.epochBegun, hf.regs .AWL_EPOCH 0 (by decide), State.setFlag, State.reg_setFld_ne _ (by decide)]
  exact State.toNat_reg_setReg _ rfl (by omega) 0

theorem State.clearAwl_eq : s.clearAwl =
    (s.epochBegun.putRecord (s.epochBegun.awlNow .info 0x01 (s.fld F.AWL_COUNT_N 0))).setFld F.AWL_CLR_RESULT_FAILS 0 0 := rfl

/-- A cleared log has a new epoch, its first record, no failure and room. -/
theorem State.clearAwl_shows (hm : s.awlMedium = awlMram) (h : (s.reg .AWL_EPOCH 0).toNat < 2 ^ 32 - 1) :
    (s.clearAwl.reg .AWL_EPOCH 0).toNat = (s.reg .AWL_EPOCH 0).toNat + 1 ∧ s.clearAwl.fld F.AWL_CLR_RESULT_FAILS 0 = 0 ∧
    s.clearAwl.flag F.AWL_STATUS_FULL 0 = false ∧ s.clearAwl.reg .AWL_SEQ_NEXT 0 = s.reg .AWL_SEQ_NEXT 0 + 1 ∧
    s.clearAwl.freeCtr = s.freeCtr := by
  have hmram := s.epochBegun_medium.trans hm
  let e := s.epochBegun.awlNow .info 0x01 (s.fld F.AWL_COUNT_N 0)
  have hf := s.epochBegun.putRecord_mram_keeps hmram e
  obtain ⟨-, hseq, -⟩ := s.epochBegun.putRecord_mram_shows hmram e
  obtain ⟨hepoch, hfull⟩ := s.epochBegun_shows h
  rw [State.clearAwl_eq]
  refine ⟨?_, State.fld_setFld_fits _ (by decide) (by decide) 0, ?_, ?_, (hf.parts .freeCtr (by decide)).trans
    (s.epochBegun_keeps.parts .freeCtr (by decide))⟩
  · rw [State.reg_setFld_ne _ (by decide), hf.regs .AWL_EPOCH 0 (by decide), hepoch]
  · rw [State.flag_setFld_ne _ (by decide), hf.flag (by decide), hfull]
  · rw [State.reg_setFld_ne _ (by decide), hseq, s.epochBegun_keeps.regs .AWL_SEQ_NEXT 0 (by decide)]

/-! ### The return to MRAM (R594) -/

/-- The Awl turned to a medium, with its head found there. -/
def State.turnedTo (s : State) (m : Nat) : State := (s.setFld F.AWL_STATUS_MEDIUM 0 m).findHead

theorem State.moveAwl_eq (m : Nat) (sev : Severity) (ev arg : Nat) :
    s.moveAwl m sev ev arg = (s.turnedTo m).putRecord ((s.turnedTo m).awlNow sev ev arg) := rfl

theorem State.turnedTo_keeps (m : Nat) :
    Frame ⟨[], [.AWL_STATUS, .AWL_HEAD, .AWL_COUNT, .AWL_OLDEST]⟩ s (s.turnedTo m) :=
  .le (by decide) (Frame.refl .none s).setFld.findHead

theorem State.turnedTo_medium {m : Nat} (h : m < 2 ^ 2) : (s.turnedTo m).awlMedium = m :=
  ((Frame.refl .none (s.setFld F.AWL_STATUS_MEDIUM 0 m)).findHead.fld (by decide) 0).trans
    (State.fld_setFld_fits _ (by decide) h 0)

/-- A move to MRAM puts its first record there. -/
theorem State.moveAwl_mram_shows (sev : Severity) (ev arg : Nat) :
    (s.moveAwl awlMram sev ev arg).awlMedium = awlMram ∧
    (s.moveAwl awlMram sev ev arg).awl.mramFailed = s.awl.mramFailed ∧
    (s.moveAwl awlMram sev ev arg).awl.retrying = s.awl.retrying ∧
    (s.moveAwl awlMram sev ev arg).reg .AWL_SEQ_NEXT 0 = s.reg .AWL_SEQ_NEXT 0 + 1 := by
  have hm := s.turnedTo_medium (m := awlMram) (by decide)
  let e := (s.turnedTo awlMram).awlNow sev ev arg
  have hf := (s.turnedTo awlMram).putRecord_mram_keeps hm e
  have ht := s.turnedTo_keeps awlMram
  have hkept : (s.turnedTo awlMram).awl = s.awl := ht.parts .awl (by decide)
  obtain ⟨hawl, hseq, -⟩ := (s.turnedTo awlMram).putRecord_mram_shows hm e
  rw [State.moveAwl_eq]
  refine ⟨(hf.fld (by decide) 0).trans hm, ?_, ?_, hseq.trans (congrArg (· + 1) (ht.regs .AWL_SEQ_NEXT 0 (by decide)))⟩
  · rw [hawl, State.mramWith, hkept]
  · rw [hawl, State.mramWith, hkept]

end Sys2Proof.Machine

end

section
open Sys2Proof Sys2Proof.Machine

/-- Settles O50, clause by clause: a record in MRAM is one equation, from which a write, a clear and the return to MRAM follow
(logs 107, 110: GO answers BUSY in AWL_CLR_RESULT and the nonce after it is a free value; only medium 3 answers BAD_ARG). -/
theorem theAwlWritesFreezesReadsAndClears : Obligations.TheAwlWritesFreezesReadsAndClears := by
  unfold Obligations.TheAwlWritesFreezesReadsAndClears
  refine ⟨?window, ?oldest, ?write, ?frozen, ?full, ?freeze, ?unfreeze, ?expire, ?index, ?medium, ?noLatch, ?latch, ?goBusy, ?goOk,
    ?goFail, ?lockoutEnds, ?retry, ?passed, ?failed⟩
  case window => exact fun s => .next ⟨rfl, closeWindow_length _, rfl⟩
  case oldest =>
    intro e l s hs hw
    refine .next ?_
    change closeWindow s.awl.staged = _
    rw [hs, closeWindow, if_pos hw]
  case write =>
    intro e l s hz hs hw hlost hroom hm
    obtain ⟨hawl, hseq, hhead⟩ := s.putRecord_mram_shows hm e
    have hlost' : (s.putRecord e).awl.lost = 0 := by rw [hawl]; exact hlost
    have hdrop := State.dropStaged_none_lost _ hlost'
    have hregs : Frame ⟨[.awl], [.AWL_STATUS, .INS_RET_STAT]⟩ (s.putRecord e) (s.putRecord e).dropStaged := by
      rw [hdrop]
      exact .le (by decide) (Frame.refl .none _).setAwl.setFld.setFld
    have hdropped : (s.putRecord e).dropStaged.awl = { s.mramWith e with staged := l } := by
      rw [hdrop, ← hawl]
      change { (s.putRecord e).awl with staged := (s.putRecord e).awl.staged.tail } = _
      rw [hawl]
      change { s.mramWith e with staged := s.awl.staged.tail } = _
      rw [hs]
      rfl
    rw [exec_awlRecordWrite_oldest hz hs hw, s.writeOldest_mram hs hroom hm]
    refine .next ⟨congrArg Awl.staged hdropped, (hregs.regs .AWL_SEQ_NEXT 0 (by decide)).trans hseq,
      (hregs.fld (by decide) 0).trans hhead, ?_⟩
    rw [hdropped]
    exact Tbl.get_set_same (fun _ => none) (s.fld F.AWL_HEAD_INDEX 0) (some (s.mramRecord e)) s.awl.mram
  case frozen =>
    intro ok s hz
    have hexec : exec (.awlRecordWrite ok) s = .next s := congrArg Host.Outcome.next (if_pos (by simp [hz]))
    rw [hexec]
    exact .next rfl
  case full =>
    intro ok e l s hz hs hw hroom
    have hf := (Frame.refl .none s).awlFull
    rw [exec_awlRecordWrite_oldest hz hs hw, s.writeOldest_full hs hroom]
    exact .next ⟨s.awlFull_shows, congrArg Awl.mram (hf.parts .awl (by decide)), hf.regs .AWL_SEQ_NEXT 0 (by decide)⟩
  case freeze =>
    intro src s ho
    have hexec : exec (.awlFreeze src) s = .next (s.writeAwlCtrl src (F.AWL_CTRL_FREEZE.put 1 0)) := rfl
    rw [hexec, s.writeAwlCtrl_open ho, if_neg (by decide)]
    exact .next ⟨State.setFrozen_shows _ _, rfl, rfl⟩
  case unfreeze =>
    intro src s ho
    have hexec : exec (.awlUnfreeze src) s = .next (s.writeAwlCtrl src 0) := rfl
    rw [hexec, s.writeAwlCtrl_open ho, if_neg (by decide)]
    exact .next ⟨State.setFrozen_shows _ _, rfl, rfl⟩
  case expire =>
    intro s hz
    have hexec : exec .awlFreezeExpire s = .next (((s.setFrozen false).irq Irq.AWL_FREEZE_EXPIRED).awlPersist .AWL .warning 0x04 0) :=
      congrArg Host.Outcome.next (if_pos hz)
    rw [hexec]
    refine .next ⟨?_, State.stage_keeps_bit _ (by decide) _ _ _ (State.irq_sets _ Irq.AWL_FREEZE_EXPIRED rfl (by decide) (by decide))⟩
    rw [State.awlPersist, State.stage_status_flag _ (by decide) rfl, State.irq_flag _ _ (by decide)]
    exact State.setFrozen_shows _ _
  case index =>
    intro src w s ho hw
    let u := (s.setAwl { s.awl with latching := true }).setReg .AWL_RD_STAT 0 0
    have hexec : exec (.awlReadIndex src w) s = .next (u.store .AWL_RD_IDX 0 (w.setWidth 64)) := by
      change Host.Outcome.next (s.writeRdIdx src (w.setWidth 64)) = _
      rw [State.writeRdIdx, State.guarded_of_open s ho]
      exact congrArg Host.Outcome.next (if_neg hw)
    have hu : u.reg .AWL_RD_IDX 0 = s.reg .AWL_RD_IDX 0 := State.reg_setReg_other _ (by decide) _ _ _
    have hstat : u.reg .AWL_RD_STAT 0 = 0 := (State.reg_setReg_same _ _ _ _).trans (by decide)
    obtain ⟨hreg, hresp⟩ := u.store_shows .AWL_RD_IDX 0 (w.setWidth 64)
    rw [hexec]
    exact .next ⟨hreg.trans (State.stored_congr hu _), (State.reg_store_ne _ (by decide) _ _ _).trans hstat, rfl, hresp⟩
  case medium =>
    intro src w s ho hw
    have hexec : exec (.awlReadIndex src w) s = .next (s.answer .BAD_ARG) := by
      change Host.Outcome.next (s.writeRdIdx src (w.setWidth 64)) = _
      rw [State.writeRdIdx, State.guarded_of_open s ho]
      exact congrArg Host.Outcome.next (if_pos hw)
    rw [hexec]
    exact .next rfl
  case noLatch =>
    intro torn s hl
    have hexec : exec (.awlReadLatchDone torn) s = .next s := congrArg Host.Outcome.next (if_pos (by simp [hl]))
    rw [hexec]
    exact .next rfl
  case latch =>
    intro torn r s hl hr
    have hfree := (Frame.refl .none s.latched).freeLatch
    have hrec := (Frame.refl .none s.latched).showRecord (r := r)
    rw [exec_awlReadLatchDone_record hl hr]
    refine .next ?_
    unfold State.latchRecord
    cases torn with
    | true =>
      rw [if_pos rfl]
      refine ⟨?_, State.flag_setFlag_same _ _ _ _ (by decide) rfl, ?_, (State.setFlag_awl _ _ _ _).trans (hfree.parts .awl (by decide))⟩
      · rw [State.flag_setFlag_apart _ (by decide), hfree.flag (by decide), State.latched_flag _ rfl]
        decide
      · rw [State.flag_setFlag_apart _ (by decide), hfree.flag (by decide), State.latched_flag _ rfl, Bool.not_true, Bool.false_and]
        decide
    | false =>
      rw [if_neg (by decide)]
      by_cases he : r.epoch = (s.reg .AWL_EPOCH 0).toNat
      · rw [if_pos he, decide_eq_true he]
        refine ⟨?_, ?_, State.flag_setFlag_same _ _ _ _ (by decide) rfl, (State.setFlag_awl _ _ _ _).trans (hrec.parts .awl (by decide))⟩
        · rw [State.flag_setFlag_apart _ (by decide), hrec.flag (by decide), State.latched_flag _ rfl]
          decide
        · rw [State.flag_setFlag_apart _ (by decide), hrec.flag (by decide), State.latched_flag _ rfl]
          decide
      · rw [if_neg he, decide_eq_false he]
        refine ⟨?_, ?_, ?_, (State.setFlag_awl _ _ _ _).trans (hrec.parts .awl (by decide))⟩
        · rw [State.flag_setFlag_apart _ (by decide), hrec.flag (by decide), State.latched_flag _ rfl]
          decide
        · rw [State.flag_setFlag_apart _ (by decide), hrec.flag (by decide), State.latched_flag _ rfl]
          decide
        · rw [State.flag_setFlag_apart _ (by decide), hrec.flag (by decide), State.latched_flag _ rfl]
          decide
  case goBusy =>
    intro src m s ho hb
    have hexec : exec (.awlClearGo src m) s = .next (s.writeClrCtrl src m (F.AWL_CLR_CTRL_GO.put 1 0)) := rfl
    obtain ⟨hresp, hstatus, hnonce⟩ := s.goResult_shows .BUSY (by decide)
    have hf := (Frame.refl .none s).goResult (st := .BUSY)
    rw [hexec, s.writeClrCtrl_go ho, if_pos (by simpa [or_assoc] using hb)]
    exact .next ⟨hresp, hstatus, hf.regs .AWL_EPOCH 0 (by decide), hnonce, hf.parts .awl (by decide)⟩
  case goOk =>
    intro src m s ho hmac hz hc hl hm he
    have hexec : exec (.awlClearGo src m) s = .next (s.writeClrCtrl src m (F.AWL_CLR_CTRL_GO.put 1 0)) := rfl
    obtain ⟨hepoch, hfails, hfull, hseq, hfree⟩ := s.clearAwl_shows hm he
    obtain ⟨hresp, -, hnonce⟩ := s.clearAwl.goResult_shows .OK (by decide)
    have hf := (Frame.refl .none s.clearAwl).goResult (st := .OK)
    rw [hexec, s.writeClrCtrl_go ho, if_neg (by simp [hz, hc, hl]), if_pos hmac]
    refine .next ⟨hresp, ?_, (State.goResult_fails _ _).trans hfails, (hf.flag (by decide) 0).trans hfull, ?_,
      hnonce.trans (State.free_congr hfree)⟩
    · rw [hf.regs .AWL_EPOCH 0 (by decide), hepoch]
    · rw [hf.regs .AWL_SEQ_NEXT 0 (by decide), hseq]
  case goFail =>
    intro src m s ho hmac hz hc hl
    have hexec : exec (.awlClearGo src m) s = .next (s.writeClrCtrl src m (F.AWL_CLR_CTRL_GO.put 1 0)) := rfl
    let n := satTo 8 (s.fld F.AWL_CLR_RESULT_FAILS 0 + 1)
    let u := (s.setFld F.AWL_CLR_RESULT_FAILS 0 n).setAwl { s.awl with lockout := decide (3 ≤ n) }
    let v := (u.irq Irq.AWL_AUTH_FAIL).awlPersist .AWL .warning 0x05 n
    have hv : Frame ⟨[.awl, .host, .sent], [.AWL_MERGED, .AWL_STATUS, .INS_RET_STAT, .AWL_LOST, .GLB_INT_SUM, .AWL_INT_STAT]⟩ u v :=
      .le (by decide) ((Frame.refl .none u).irq (c := Irq.AWL_AUTH_FAIL)).awlPersist
    have hu : Frame ⟨[.awl], [.AWL_CLR_RESULT]⟩ s u := .le (by decide) (Frame.refl .none s).setFld.setAwl
    have hg := (Frame.refl .none v).goResult (st := .AUTH_FAIL)
    obtain ⟨hresp, -, hnonce⟩ := v.goResult_shows .AUTH_FAIL (by decide)
    have hfails : u.fld F.AWL_CLR_RESULT_FAILS 0 = n := State.fld_setFld_fits _ (by decide) (satTo_lt 8 _) 0
    have hlockout : v.awl.lockout = decide (3 ≤ n) := (State.stage_lockout _ _ _ _).trans (congrArg Awl.lockout (State.irq_awl _ _))
    rw [hexec, s.writeClrCtrl_go ho, if_neg (by simp [hz, hc, hl]), if_neg (by simp [hmac])]
    refine .next ⟨hresp, ?_, (congrArg Awl.lockout (hg.parts .awl (by decide))).trans hlockout, ?_, ?_, ?_⟩
    · exact (State.goResult_fails _ _).trans ((hv.fld (by decide) 0).trans hfails)
    · exact (hg.regs .AWL_EPOCH 0 (by decide)).trans ((hv.regs .AWL_EPOCH 0 (by decide)).trans (hu.regs .AWL_EPOCH 0 (by decide)))
    · rw [hg.regs .AWL_INT_STAT 0 (by decide)]
      exact State.stage_keeps_bit _ (by decide) _ _ _ (State.irq_sets _ Irq.AWL_AUTH_FAIL rfl (by decide) (by decide))
    · exact hnonce.trans (State.free_congr ((hv.parts .freeCtr (by decide)).trans (hu.parts .freeCtr (by decide))))
  case lockoutEnds => exact fun s => .next ⟨rfl, rfl⟩
  case retry =>
    intro src s ho
    have hexec : exec (.awlRetryMram src) s = .next (s.writeAwlCtrl src (F.AWL_CTRL_RETRY_MRAM.put 1 (s.reg .AWL_CTRL 0))) := rfl
    rw [hexec, s.writeAwlCtrl_open ho, if_pos (by rw [Fld.on_put_same _ _ _ (by decide)]; decide),
      Fld.on_put_disjoint _ _ (by decide) (by decide)]
    refine .next ⟨rfl, ?_, rfl⟩
    rw [State.setAwl_flag]
    exact State.setFrozen_shows _ _
  case passed =>
    intro p s hr hp hm
    let u := (s.setAwl { s.awl with retrying := false }).setAwl { s.awl with retrying := false, mramFailed := false, badSectors := 0 }
    have hexec : exec (.awlRetryMramDone p) s = .next (u.moveAwl awlMram .info 0x0B 0) := by
      change execAwlRetryMramDone p s = _
      rw [execAwlRetryMramDone, hr, if_neg (by decide)]
      refine congrArg Host.Outcome.next (if_pos ?_)
      rw [hp, Bool.true_and, bne_iff_ne]
      exact hm
    obtain ⟨hmedium, hfailed, hretry, hseq⟩ := u.moveAwl_mram_shows .info 0x0B 0
    rw [hexec]
    exact .next ⟨hmedium, hfailed, hretry, hseq⟩
  case failed =>
    intro p s hr hp
    have hexec : exec (.awlRetryMramDone p) s = .next (s.setAwl { s.awl with retrying := false }) := by
      change execAwlRetryMramDone p s = _
      rw [execAwlRetryMramDone, hr, hp]
      rfl
    rw [hexec]
    exact .next rfl

end

section
/-! SUPPORT of O51: slots, datagrams, the update lock, control writes, warm resets into a trial and out of one. -/

namespace Sys2Proof.Machine

variable (s : State)

/-! ### Slots (R607) -/

theorem State.slot_congr {s t : State} (ha : t.upd.slotA = s.upd.slotA) (hb : t.upd.slotB = s.upd.slotB) (i : Nat) :
    t.slot i = s.slot i := by
  rw [State.slot, State.slot, ha, hb]

theorem State.setSlot_slot (i : Nat) (x : ImgSlot) : (s.setSlot i x).slot i = x := by
  by_cases h : i = 0
  · rw [State.slot, State.setSlot, if_pos h, if_pos h]
    rfl
  · rw [State.slot, State.setSlot, if_neg h, if_neg h]
    rfl

theorem State.setSlot_slot_ne {i j : Nat} (h : i = 0 ↔ j ≠ 0) (x : ImgSlot) : (s.setSlot i x).slot j = s.slot j := by
  by_cases hj : j = 0
  · rw [State.slot, State.setSlot, State.slot, if_pos hj, if_pos hj, if_neg fun hi => h.mp hi hj]
    rfl
  · rw [State.slot, State.setSlot, State.slot, if_neg hj, if_neg hj, if_pos (h.mpr hj)]
    rfl

/-- Showing the update leaves the other fields of UPD_STATUS. -/
theorem State.showUpd_status {g : Fld} (h : F.UPD_STATUS_STATE.apart g = true) (hr : g.reg = .UPD_STATUS) :
    s.showUpd.fld g 0 = s.fld g 0 := by
  unfold State.showUpd
  extract_lets u v
  have hv : Frame ⟨[], [.UPD_CONFIRM_LEFT, .UPD_SLOT_STAT, .UPD_SLOT_VER, .UPD_SLOT_FLOOR, .UPD_SLOT_SEQ]⟩ s v :=
    .le (by decide) (.branch (Frame.refl .none s).showSlot.showSlot (Frame.refl .none s).showSlot.showSlot.set)
  rw [State.fld_setFld_apart _ h]
  exact hv.fld (by rw [hr]; decide) 0

theorem State.showUpd_runSlot : s.showUpd.runSlot = s.runSlot := s.showUpd_status (by decide) rfl

theorem State.showUpd_upd : s.showUpd.upd = s.upd := (Frame.refl .none s).showUpd.parts .upd (by decide)

/-- A started slot runs. -/
theorem State.startSlot_runSlot {i : Nat} (h : i < 2) : (s.startSlot i).runSlot = i := by
  unfold State.startSlot
  extract_lets v t u
  rw [State.showUpd_runSlot, State.runSlot, State.fld_setFld_ne _ (by decide), State.fld_setFlag_apart _ (by decide),
    State.fld_setReg_ne _ (by decide), State.fld_setReg_ne _ (by decide), State.fld_setFld_ne _ (by decide)]
  exact State.fld_setFld_fits _ (by decide) h 0

theorem State.startSlot_upd (i : Nat) : (s.startSlot i).upd = s.upd := (Frame.refl .none s).startSlot.parts .upd (by decide)

/-- The cause of a boot stays when a slot starts. -/
theorem State.startSlot_cause (i : Nat) : (s.startSlot i).fld F.BOOT_CAUSE_CAUSE 0 = s.fld F.BOOT_CAUSE_CAUSE 0 := by
  unfold State.startSlot
  extract_lets v t u
  rw [(Frame.refl .none _).showUpd.fld (by decide), State.fld_setFld_ne _ (by decide), State.fld_setFlag_apart _ (by decide),
    State.fld_setReg_ne _ (by decide), State.fld_setReg_ne _ (by decide), State.fld_setFld_apart _ (by decide),
    State.fld_setFld_ne _ (by decide)]

/-! ### Datagrams (R602, R605) -/

/-- A datagram of an open service port is counted. -/
def State.heard (s : State) : State := s.count .UPD_PKT_RX 0 1

theorem State.datagram_bad {op : Nat} {session : BitVec 32} {layout : Bool} (ho : s.updOpen = true)
    (h : layout = false ∨ session = 0) (k : State → State) :
    s.datagram op session layout k = s.heard.updAnswer op session .BAD_ARG := by
  rw [State.datagram, ho, if_neg (by decide)]
  exact if_pos (by simpa using h)

theorem State.datagram_good {op : Nat} {session : BitVec 32} {layout : Bool} (ho : s.updOpen = true) (hl : layout = true)
    (hs : session ≠ 0) (k : State → State) : s.datagram op session layout k = k s.heard := by
  rw [State.datagram, ho, if_neg (by decide)]
  exact if_neg (by simpa [hl] using hs)

theorem State.updAnswer_reg (op : Nat) (session : BitVec 32) (st : Status) (r : Reg) (i : Nat) :
    (s.updAnswer op session st).reg r i = s.reg r i := rfl

theorem State.updAnswer_fld (op : Nat) (session : BitVec 32) (st : Status) (g : Fld) (i : Nat) :
    (s.updAnswer op session st).fld g i = s.fld g i := rfl

theorem State.updAnswer_upd (op : Nat) (session : BitVec 32) (st : Status) : (s.updAnswer op session st).upd = s.upd := rfl

theorem State.updAnswer_resp (op : Nat) (session : BitVec 32) (st : Status) : (s.updAnswer op session st).resp = st := rfl

theorem State.heard_reg {r : Reg} (h : r ≠ .UPD_PKT_RX) (i : Nat) : s.heard.reg r i = s.reg r i := State.reg_count_ne _ h _ _ _

theorem State.heard_fld {g : Fld} (h : g.reg ≠ .UPD_PKT_RX) (i : Nat) : s.heard.fld g i = s.fld g i :=
  State.fld_count_ne _ h _ _ _

theorem State.heard_counts : s.heard.reg .UPD_PKT_RX 0 = s.counted .UPD_PKT_RX 0 1 := s.reg_count_counted _ _ _

theorem State.heard_locked : s.heard.locked = s.locked := by
  rw [State.locked, s.heard_fld (by decide)]
  rfl

theorem State.heard_isOwner (port : Nat) (session : BitVec 32) : s.heard.isOwner port session = s.isOwner port session := by
  rw [State.isOwner, s.heard_fld (by decide), s.heard_reg (by decide)]
  rfl

theorem State.heard_runSlot : s.heard.runSlot = s.runSlot := s.heard_fld (by decide) 0

theorem State.heard_target : s.heard.target = s.target := congrArg (1 - ·) s.heard_runSlot

theorem State.heard_headerCheck (port : Nat) (session : BitVec 32) (h : ImgHeader) :
    s.heard.headerCheck port session h = s.headerCheck port session h := by
  have hslot : ∀ i, s.heard.slot i = s.slot i := fun _ => rfl
  have hfloor : s.heard.floor = s.floor := congrArg BitVec.toNat (s.heard_reg (by decide) 0)
  unfold State.headerCheck
  rw [s.heard_locked, s.heard_isOwner, hfloor, s.heard_runSlot, s.heard_target, hslot, hslot]
  rfl

/-- An owner holds the lock. -/
theorem State.isOwner_locked {port : Nat} {session : BitVec 32} (h : s.isOwner port session = true) : s.locked = true := by
  have howner : s.fld F.UPD_LOCK_OWNER 0 = port + 1 := by
    rw [State.isOwner, Bool.and_eq_true, beq_iff_eq] at h
    exact h.1
  rw [State.locked, howner]
  rfl

theorem State.heard_owned {op port : Nat} {session : BitVec 32} (h : s.isOwner port session = true) (k : State → State) :
    s.heard.owned op port session k = k s.heard.ownerSpoke := by
  rw [State.owned, s.heard_locked, s.isOwner_locked h, if_neg (by decide), s.heard_isOwner, h]
  exact if_neg (by decide)

theorem State.heard_owned_other {op port : Nat} {session : BitVec 32} (hl : s.locked = true) (h : s.isOwner port session = false)
    (k : State → State) : s.heard.owned op port session k = s.heard.notOwner op session := by
  rw [State.owned, s.heard_locked, hl, if_neg (by decide), s.heard_isOwner, h]
  exact if_pos (by decide)

theorem State.heard_owned_unlocked {op port : Nat} {session : BitVec 32} (hl : s.locked = false) (k : State → State) :
    s.heard.owned op port session k = (s.heard.updAnswer op session s.freeStatus).drawFree := by
  rw [State.owned, s.heard_locked, hl]
  exact if_pos (by decide)

/-- The state in which the owner's datagram is carried out. -/
def State.spoken (s : State) : State := s.heard.ownerSpoke

theorem State.spoken_reg {r : Reg} (h : r ∉ [.UPD_PKT_RX, .UPD_LOCK]) (i : Nat) : s.spoken.reg r i = s.reg r i := by
  have hf : Frame ⟨[.upd], [.UPD_PKT_RX, .UPD_LOCK]⟩ s s.spoken := .le (by decide) (Frame.refl .none s).count.ownerSpoke
  exact hf.regs r i h

theorem State.spoken_upd : s.spoken.upd = { s.upd with lastTick := s.tick } := rfl

/-! ### The lock kept (R604, R605) -/

/-- What an update has beside its progress: the header that holds the lock, and the slots. -/
def Upd.image (u : Upd) : Option ImgHeader × ImgSlot × ImgSlot := (u.hdr, u.slotA, u.slotB)

/-- A step leaves the owner, its header and the slots. -/
def LockKept (s t : State) : Prop := t.upd.image = s.upd.image ∧ t.fld F.UPD_LOCK_OWNER 0 = s.fld F.UPD_LOCK_OWNER 0

theorem LockKept.of_frame {a b c : State} {f : Foot} (h : LockKept a b) (hf : Frame f b c) (hp : .upd ∉ f.parts)
    (hr : .UPD_LOCK ∉ f.regs) : LockKept a c :=
  ⟨(congrArg Upd.image (hf.parts .upd hp)).trans h.1, (hf.fld hr 0).trans h.2⟩

theorem LockKept.branch {a b c : State} {p : Prop} [Decidable p] (hb : LockKept a b) (hc : LockKept a c) :
    LockKept a (if p then b else c) := by
  split
  · exact hb
  · exact hc

theorem LockKept.ownerSpoke {a b : State} (h : LockKept a b) : LockKept a b.ownerSpoke :=
  ⟨h.1, (State.fld_setFld_apart _ (by decide) _ _ _).trans h.2⟩

theorem LockKept.authFail {a b : State} (h : LockKept a b) : LockKept a b.authFail := by
  let u := b.setUpd { b.upd with fails := b.tick :: b.upd.fails }
  have hu : LockKept a u := h
  exact hu.of_frame (f := ⟨[.host, .sent, .freeCtr, .awl], [.UPD_AUTH_FAILS, .GLB_INT_SUM, .UPD_INT_STAT, .AWL_MERGED, .AWL_STATUS,
    .INS_RET_STAT, .AWL_LOST, .AWL_INT_STAT]⟩) (.le (by decide) ((Frame.refl .none u).count.irq (c := Irq.UPD_AUTH_FAIL)).awlUnstated)
    (by decide) (by decide)

theorem LockKept.slot {a b : State} (h : LockKept a b) (i : Nat) : b.slot i = a.slot i := by
  obtain ⟨-, ha, hb⟩ := by simpa only [Upd.image, Prod.mk.injEq] using h.1
  exact State.slot_congr ha hb i

/-- What a header that fails a check leaves, before its answer. -/
def State.headerFailed (s : State) (port : Nat) (session : BitVec 32) (st : Status) : State :=
  let s := if s.locked && !s.isOwner port session && st == .BUSY then s.count .UPD_PKT_BUSY 0 1 else s
  let s := if s.isOwner port session then s.ownerSpoke else s
  let s := if st = .AUTH_FAIL then s.authFail else s
  if st = .REFUSED_POLICY then s.irq Irq.UPD_REFUSED else s

theorem State.headerFailed_lockKept (port : Nat) (session : BitVec 32) (st : Status) :
    LockKept s (s.headerFailed port session st) := by
  unfold State.headerFailed
  extract_lets a b c
  have ha : LockKept s a := .branch (LockKept.of_frame ⟨rfl, rfl⟩ (Frame.refl .none s).count (by decide) (by decide)) ⟨rfl, rfl⟩
  have hb : LockKept s b := .branch ha.ownerSpoke ha
  have hc : LockKept s c := .branch hb.authFail hb
  exact .branch (hc.of_frame ((Frame.refl .none c).irq (c := Irq.UPD_REFUSED)) (by decide) (by decide)) hc

theorem exec_updHeader_failed {port : Fin 2} {session : BitVec 32} {layout : Bool} {h : ImgHeader} {st : Status} {s : State}
    (ho : s.updOpen = true) (hl : layout = true) (hs : session ≠ 0) (hc : s.headerCheck port session h = some st) :
    exec (.updHeader port session layout h) s = .next (((s.heard.headerFailed port session st).lastStatus opHeader st).updAnswer
      opHeader session st) := by
  change execUpdHeader port session layout h s = _
  rw [execUpdHeader, s.datagram_good ho hl hs, s.heard_headerCheck, hc]
  rfl

/-! ### A header takes the lock (R604) -/

/-- What a header that passes leaves, before it is shown. -/
def State.lockTaken (s : State) (port : Nat) (session : BitVec 32) (h : ImgHeader) : State :=
  let s := (s.setSlot s.target { s.slot s.target with state := .empty, attempts := 0, hdr := h }).eraseSector s.target 0
  let s := s.setUpd { s.upd with hdr := some h, done := 0, waiting := [], ending := false, fails := [], lastTick := s.tick }
  let s := (s.setFld F.UPD_LOCK_OWNER 0 (port + 1)).setFld F.UPD_LOCK_IDLE_S 0 0
  (s.setReg .UPD_SESSION 0 (session.setWidth 64)).setReg .UPD_NEXT 0 0

theorem State.takeLock_keeps (port : Nat) (session : BitVec 32) (h : ImgHeader) :
    Frame ⟨[.host, .sent], [.GLB_INT_SUM, .UPD_INT_STAT, .UPD_STATUS, .UPD_CONFIRM_LEFT, .UPD_SLOT_STAT, .UPD_SLOT_VER, .UPD_SLOT_FLOOR,
      .UPD_SLOT_SEQ]⟩ (s.lockTaken port session h) (s.takeLock port session h) :=
  have hf := (Frame.refl .none (s.lockTaken port session h)).showUpd
  .le (by decide) (.branch (c := s.locked = true) hf (hf.irq (c := Irq.UPD_LOCK)))

theorem State.lockTaken_shows (port : Fin 2) (session : BitVec 32) (h : ImgHeader) :
    (s.lockTaken port session h).fld F.UPD_LOCK_OWNER 0 = port + 1 ∧ (s.lockTaken port session h).reg .UPD_NEXT 0 = 0 ∧
    ((s.lockTaken port session h).slot s.target).state = .empty := by
  let x : ImgSlot := { s.slot s.target with state := .empty, attempts := 0, hdr := h }
  have herase : ((s.setSlot s.target x).eraseSector s.target 0).upd = (s.setSlot s.target x).upd :=
    (Frame.refl .none (s.setSlot s.target x)).eraseSector.parts .upd (by decide)
  have hslot : (s.lockTaken port session h).slot s.target = (s.setSlot s.target x).slot s.target :=
    State.slot_congr (congrArg Upd.slotA herase) (congrArg Upd.slotB herase) _
  have hport : port.val + 1 < 2 ^ 2 := by omega
  refine ⟨?_, (State.reg_setReg_same _ _ _ _).trans (by decide), ?_⟩
  · rw [State.lockTaken, State.fld_setReg_ne _ (by decide), State.fld_setReg_ne _ (by decide), State.fld_setFld_apart _ (by decide)]
    exact State.fld_setFld_fits _ (by decide) hport 0
  · rw [hslot, s.setSlot_slot]

theorem exec_updHeader_passed {port : Fin 2} {session : BitVec 32} {layout : Bool} {h : ImgHeader} {s : State}
    (ho : s.updOpen = true) (hl : layout = true) (hs : session ≠ 0) (hc : s.headerCheck port session h = none) :
    exec (.updHeader port session layout h) s = .next (((s.heard.takeLock port session h).lastStatus opHeader .OK).updAnswer opHeader
      session .OK) := by
  change execUpdHeader port session layout h s = _
  rw [execUpdHeader, s.datagram_good ho hl hs, s.heard_headerCheck, hc]

/-! ### Data and END (R603, R606) -/

/-- Data of the owner. -/
def State.takeData (s : State) (session : BitVec 32) (off len : Nat) : State :=
  let next := (s.reg .UPD_NEXT 0).toNat
  let room := match s.upd.hdr with | some h => decide (next + len ≤ h.bodyLen) | none => false
  if off + len ≤ next then s.updAnswer opData session .OK
  else if off ≠ next ∨ room = false ∨ s.upd.ending = true then s.updAnswer opData session .BAD_ARG
  else if 8 ≤ s.upd.waiting.length then s.updAnswer opData session .BUSY
  else
    let s := s.setUpd { s.upd with waiting := s.upd.waiting ++ [len] }
    (s.setReg .UPD_NEXT 0 (BitVec.ofNat 64 (next + len))).updAnswer opData session .OK

theorem exec_updData_owner {port : Fin 2} {session : BitVec 32} {layout : Bool} {off : Nat} {len : Fin 1025} {s : State}
    (ho : s.updOpen = true) (hl : layout = true) (hs : session ≠ 0) (hn : 0 < len.val) (hown : s.isOwner port session = true) :
    exec (.updData port session layout off len) s = .next (s.spoken.takeData session off len) := by
  change execUpdData port session layout off len s = _
  rw [execUpdData, s.datagram_good ho (by simp [hl, hn]) hs, s.heard_owned hown]
  rfl

theorem State.takeData_below {session : BitVec 32} {off len : Nat} (h : off + len ≤ (s.reg .UPD_NEXT 0).toNat) :
    s.takeData session off len = s.updAnswer opData session .OK := if_pos h

theorem State.takeData_beyond {session : BitVec 32} {off len : Nat} (h : (s.reg .UPD_NEXT 0).toNat < off) :
    s.takeData session off len = s.updAnswer opData session .BAD_ARG :=
  (if_neg (by omega)).trans (if_pos (.inl (by omega)))

theorem State.takeData_next {session : BitVec 32} {off len : Nat} {h : ImgHeader} (hh : s.upd.hdr = some h)
    (hoff : off = (s.reg .UPD_NEXT 0).toNat) (hn : 0 < len) (hroom : off + len ≤ h.bodyLen) (he : s.upd.ending = false)
    (hw : s.upd.waiting.length < 8) : s.takeData session off len =
      ((s.setUpd { s.upd with waiting := s.upd.waiting ++ [len] }).setReg .UPD_NEXT 0 (BitVec.ofNat 64 (off + len))).updAnswer opData
        session .OK := by
  unfold State.takeData
  rw [hh, ← hoff, if_neg (by omega), if_neg (by simp [hroom, he]), if_neg (Nat.not_le.mpr hw)]

/-- END of the owner while a header holds the lock. -/
def State.takeEnd (s : State) (session : BitVec 32) (h : ImgHeader) : State :=
  if (s.reg .UPD_NEXT 0).toNat < h.bodyLen then (s.lastStatus opEnd .NOT_READY).updAnswer opEnd session .NOT_READY
  else (s.setUpd { s.upd with ending := true }).showUpd

theorem exec_updEnd_owner {port : Fin 2} {session : BitVec 32} {layout : Bool} {h : ImgHeader} {s : State}
    (ho : s.updOpen = true) (hl : layout = true) (hs : session ≠ 0) (hown : s.isOwner port session = true)
    (hh : s.upd.hdr = some h) : exec (.updEnd port session layout) s = .next (s.spoken.takeEnd session h) := by
  have hhdr : s.heard.ownerSpoke.upd.hdr = some h := hh
  change execUpdEnd port session layout s = _
  rw [execUpdEnd, s.datagram_good ho hl hs, s.heard_owned hown, hhdr]
  rfl

theorem State.spoken_next : s.spoken.reg .UPD_NEXT 0 = s.reg .UPD_NEXT 0 := s.spoken_reg (by decide) 0

/-- Programming reaches new sectors, which it erases. -/
theorem State.programmed_keeps (old n : Nat) : Frame ⟨[.keep, .host, .sent, .awl], [.RSL_FLASH_WEAR, .RSL_STATUS, .AWL_MERGED,
    .AWL_STATUS, .INS_RET_STAT, .AWL_LOST, .GLB_INT_SUM, .AWL_INT_STAT, .RSL_INT_STAT, .SET_SECTORS, .SET_INT_STAT]⟩ s
    ((List.range n).foldl (fun (s : State) i => s.eraseSector s.target (old + 1 + i)) s) :=
  .le (by decide) (.fold (Frame.refl .none s) fun _ _ h => h.eraseSector)

/-! ### The lock released (R605) -/

/-- What a released lock leaves of the update. -/
def Upd.unlocked (u : Upd) : Upd := { u with hdr := none, done := 0, waiting := [], ending := false }

theorem State.releaseLock_shows :
    s.releaseLock.locked = false ∧ s.releaseLock.upd = s.upd.unlocked ∧ s.releaseLock.reg .UPD_NEXT 0 = 0 := by
  let u := (((s.setUpd s.upd.unlocked).setReg .UPD_LOCK 0 0).setReg .UPD_SESSION 0 0).setReg .UPD_NEXT 0 0
  have hu : s.releaseLock = u.showUpd := rfl
  have hf := (Frame.refl .none u).showUpd
  have howner : u.fld F.UPD_LOCK_OWNER 0 = 0 := by
    rw [State.fld_setReg_ne _ (by decide), State.fld_setReg_ne _ (by decide), State.fld, State.reg_setReg_same]
    decide
  have hnext : u.reg .UPD_NEXT 0 = 0 := (State.reg_setReg_same _ _ _ _).trans (by decide)
  rw [hu, State.locked, hf.fld (by decide), howner]
  exact ⟨rfl, u.showUpd_upd, (hf.regs .UPD_NEXT 0 (by decide)).trans hnext⟩

theorem State.releaseLock_slot (i : Nat) : s.releaseLock.slot i = s.slot i := by
  obtain ⟨-, hupd, -⟩ := s.releaseLock_shows
  have ha : s.releaseLock.upd.slotA = s.upd.slotA := by rw [hupd]; rfl
  have hb : s.releaseLock.upd.slotB = s.upd.slotB := by rw [hupd]; rfl
  exact State.slot_congr ha hb i

theorem State.releaseLock_resp : s.releaseLock.resp = s.resp := (Frame.refl .none s).releaseLock.parts .resp (by decide)

/-! ### A verified body (R606) -/

/-- The session that the lock holds. -/
def State.session (s : State) : BitVec 32 := (s.reg .UPD_SESSION 0).setWidth 32

/-- The target slot takes a verified body. -/
def State.bodyWritten (s : State) (h : ImgHeader) : State := s.setSlot s.target ⟨.written, 0, h, (s.slot s.runSlot).seq + 1⟩

theorem exec_updBodyVerified_ends {h : ImgHeader} {s : State} (hh : s.upd.hdr = some h) (he : s.upd.ending = true)
    (hw : s.upd.waiting = []) (m : Bool) : exec (.updBodyVerified m) s = .next (if m then
      ((((s.bodyWritten h).lastStatus opEnd .OK).updAnswer opEnd s.session .OK).releaseLock).irq Irq.UPD_READY
    else ((s.authFail.lastStatus opEnd .AUTH_FAIL).updAnswer opEnd s.session .AUTH_FAIL).releaseLock) := by
  change execUpdBodyVerified m s = _
  rw [execUpdBodyVerified, hh]
  exact congrArg Host.Outcome.next (if_neg (by simp [he, hw]))

/-! ### Control writes (R609, R611, R616) -/

theorem State.writeUpdCtrl_eq {src : Requester} (ho : s.closedTo .UPD_CTRL src = false) (level : Nat) {v : Word} {a c f b : Bool}
    (ha : F.UPD_CTRL_ACTIVATE.on v = a) (hc : F.UPD_CTRL_CONFIRM.on v = c) (hf : F.UPD_CTRL_FALLBACK.on v = f)
    (hb : F.UPD_CTRL_ABORT.on v = b) : s.writeUpdCtrl src level v =
      let s := s.answer .OK
      let s := if a then s.activate level else s
      let s := if c then s.confirm else s
      let s := if f then s.ctrlFallback else s
      if b then s.ctrlAbort else s := by
  rw [State.writeUpdCtrl, State.guarded_of_open s ho, ha, hc, hf, hb]

theorem exec_updActivate_open {src : Requester} {s : State} (ho : s.closedTo .UPD_CTRL src = false) (level : BitVec 16) :
    exec (.updActivate src level) s = .next ((s.answer .OK).activate level.toNat) :=
  congrArg Host.Outcome.next (s.writeUpdCtrl_eq ho level.toNat (a := true) (c := false) (f := false) (b := false) (by decide)
    (by decide) (by decide) (by decide))

theorem exec_updConfirm_open {src : Requester} {s : State} (ho : s.closedTo .UPD_CTRL src = false) :
    exec (.updConfirm src) s = .next (s.answer .OK).confirm :=
  congrArg Host.Outcome.next (s.writeUpdCtrl_eq ho 0 (a := false) (c := true) (f := false) (b := false) (by decide)
    (by decide) (by decide) (by decide))

theorem exec_updFallback_open {src : Requester} {s : State} (ho : s.closedTo .UPD_CTRL src = false) :
    exec (.updFallback src) s = .next (s.answer .OK).ctrlFallback :=
  congrArg Host.Outcome.next (s.writeUpdCtrl_eq ho 0 (a := false) (c := false) (f := true) (b := false) (by decide)
    (by decide) (by decide) (by decide))

theorem exec_updCtrlAbort_open {src : Requester} {s : State} (ho : s.closedTo .UPD_CTRL src = false) :
    exec (.updCtrlAbort src) s = .next (s.answer .OK).ctrlAbort :=
  congrArg Host.Outcome.next (s.writeUpdCtrl_eq ho 0 (a := false) (c := false) (f := false) (b := true) (by decide)
    (by decide) (by decide) (by decide))

theorem Status.code_lt (st : Status) : st.code < 2 ^ 16 := by
  cases st <;> decide

theorem State.lastStatus_shows (op : Nat) (st : Status) : (s.lastStatus op st).fld F.UPD_LAST_STATUS_STATUS 0 = st.code :=
  State.fld_setFld_fits _ (by decide) st.code_lt 0

theorem State.lastStatus_upd (op : Nat) (st : Status) : (s.lastStatus op st).upd = s.upd := rfl

theorem State.ctrlRefused_shows (op : Nat) (st : Status) : (s.ctrlRefused op st).resp = st ∧ (s.ctrlRefused op st).upd = s.upd ∧
    (s.ctrlRefused op st).fld F.UPD_LAST_STATUS_STATUS 0 = st.code :=
  ⟨rfl, (Frame.refl .none s).ctrlRefused.parts .upd (by decide), (State.answer_fld _ _ _ _).trans (State.lastStatus_shows _ _ _)⟩

theorem State.ctrlRefused_policy (op : Nat) :
    bit Irq.UPD_REFUSED.bit ((s.ctrlRefused op .REFUSED_POLICY).reg .UPD_INT_STAT 0) = true := by
  rw [State.ctrlRefused, if_pos rfl, State.answer_reg, State.lastStatus, State.reg_setFld_ne _ (by decide),
    State.reg_setFld_ne _ (by decide)]
  exact State.irq_sets _ Irq.UPD_REFUSED rfl (by decide) (by decide)

/-! ### A warm reset (R624, R625) -/

/-- A warm reset leaves the control plane in WARM_BOOT with its cause, the watchdog not armed. -/
theorem State.warmReset_shows {cause : Nat} (h : cause < 2 ^ 4) : (s.warmReset cause).bootStage = stageWarmBoot ∧
    (s.warmReset cause).fld F.BOOT_CAUSE_CAUSE 0 = cause := by
  unfold State.warmReset
  extract_lets a b c d _ _ e _ f g i
  have hf : Frame ⟨[.host, .sent], [.GLB_INT_SUM]⟩ i (i.refreshSum .NIM (i.summary .NIM)) :=
    State.refreshSum_frame (.refl _ i) (by decide) (by decide)
  refine ⟨?_, ?_⟩
  · rw [State.bootStage, hf.fld (by decide), State.fld_count_ne _ (by decide), State.fld_setFld_ne _ (by decide)]
    exact State.fld_setFld_fits _ (by decide) (by decide) 0
  · rw [hf.fld (by decide), State.fld_count_ne _ (by decide)]
    exact State.fld_setFld_fits _ (by decide) h 0

theorem State.warmReset_upd (cause : Nat) : (s.warmReset cause).upd = s.upd :=
  (Frame.refl .none s).warmReset.parts .upd (by decide)

theorem State.warmReset_runSlot (cause : Nat) : (s.warmReset cause).runSlot = s.runSlot :=
  (Frame.refl .none s).warmReset.fld (by decide) 0

/-! ### Activation (R609) -/

/-- The target slot on trial. -/
def State.trialSet (s : State) : State :=
  (s.setSlot s.target { s.slot s.target with state := .trial }).setUpd
    { (s.setSlot s.target { s.slot s.target with state := .trial }).upd with trialTick := s.tick }

theorem State.trialSet_slot (i : Nat) : s.trialSet.slot i = (s.setSlot s.target { s.slot s.target with state := .trial }).slot i :=
  State.slot_congr rfl rfl i

/-- The warm reset into a trial. -/
def State.trialReset (s : State) : State := ((s.trialSet.lastStatus 31 .OK).answer .OK).warmReset causeActivation

theorem State.trialReset_shows : s.trialReset.upd = s.trialSet.upd ∧ s.trialReset.bootStage = stageWarmBoot ∧ s.trialReset.resp = .OK :=
  ⟨State.warmReset_upd _ _, (State.warmReset_shows _ (by decide)).1, (Frame.refl .none _).warmReset.parts .resp (by decide)⟩

/-- A slot gets an attempt and starts. -/
def State.attempt (s : State) (i : Nat) : State := (s.setSlot i { s.slot i with attempts := (s.slot i).attempts + 1 }).startSlot i

theorem State.attempt_slot (i : Nat) : (s.attempt i).slot i = { s.slot i with attempts := (s.slot i).attempts + 1 } := by
  have hupd := (s.setSlot i { s.slot i with attempts := (s.slot i).attempts + 1 }).startSlot_upd i
  exact (State.slot_congr (congrArg Upd.slotA hupd) (congrArg Upd.slotB hupd) i).trans (s.setSlot_slot i _)

/-- Boot code starts the slot on trial. -/
theorem State.selectSlot_trial {i : Nat} (hi : i < 2) (h : s.mayTry i = true) (h0 : i = 1 → s.mayTry 0 = false) :
    s.selectSlot = s.attempt i := by
  unfold State.selectSlot
  dsimp only
  obtain rfl | rfl : i = 0 ∨ i = 1 := by omega
  · exact if_pos h
  · rw [h0 rfl, if_neg (by decide)]
    exact if_pos h

/-- The trial is shown. -/
def State.trialShown (s : State) : State :=
  ((s.selectSlot.setReg .UPD_CONFIRM_LEFT 0 (BitVec.ofNat 64 (s.fld F.UPD_CFG_CONFIRM_S 0))).irq Irq.UPD_TRIAL).showUpd

theorem State.activate_written (hs : (s.slot s.target).state = .written) (hm : s.mirrored = false) (level : Nat) :
    s.activate level = s.trialReset.trialShown := by
  unfold State.activate
  rw [if_neg (not_not_intro hs), State.paired, hm, if_neg (by simp), if_neg (by simp)]
  rfl

theorem State.trialShown_keeps : Frame ⟨[.host, .sent], [.GLB_INT_SUM, .UPD_INT_STAT, .UPD_STATUS, .UPD_CONFIRM_LEFT, .UPD_SLOT_STAT,
    .UPD_SLOT_VER, .UPD_SLOT_FLOOR, .UPD_SLOT_SEQ]⟩ s.selectSlot s.trialShown :=
  .le (by decide) ((Frame.refl .none s.selectSlot).set.irq (c := Irq.UPD_TRIAL)).showUpd

theorem State.trialShown_runSlot : s.trialShown.runSlot = s.selectSlot.runSlot := by
  rw [State.trialShown, State.showUpd_runSlot, State.runSlot, State.irq_fld _ _ (by decide)]
  exact State.fld_setReg_ne _ (by decide) _ _ _

theorem State.trialShown_sets : bit Irq.UPD_TRIAL.bit (s.trialShown.reg .UPD_INT_STAT 0) = true := by
  rw [State.trialShown, (Frame.refl .none _).showUpd.regs .UPD_INT_STAT 0 (by decide)]
  exact State.irq_sets _ Irq.UPD_TRIAL rfl (by decide) (by decide)

/-! ### Confirmation (R608, R611) -/

theorem State.raiseFloor_floor {h : ImgHeader} (hlt : h.floorReq < 2 ^ 32) : (s.raiseFloor h).floor = max s.floor h.floorReq := by
  unfold State.raiseFloor
  split
  next hraise =>
    rw [State.floor, State.toNat_reg_setReg _ rfl (Nat.mod_lt _ (by decide)), Nat.mod_eq_of_lt hlt]
    exact (Nat.max_eq_right (Nat.le_of_lt hraise)).symm
  next hkeep => exact (Nat.max_eq_left (Nat.not_lt.mp hkeep)).symm

theorem State.raiseFloor_upd (h : ImgHeader) : (s.raiseFloor h).upd = s.upd :=
  (Frame.refl .none s).raiseFloor.parts .upd (by decide)

/-- The running slot confirmed. -/
def State.slotConfirmed (s : State) : State :=
  (s.setSlot s.runSlot { s.slot s.runSlot with state := .confirmed }).raiseFloor (s.slot s.runSlot).hdr

theorem State.confirm_trial (ht : s.onTrial = true) (hb : s.bootStage = stageReady)
    (hc : s.flag F.SET_STATUS_CONVERT_FAIL 0 = false) (hm : s.fld F.UPD_MC_STAT_FAIL 0 = 0) :
    s.confirm = (((s.slotConfirmed.lastStatus 30 .OK).answer .OK).irq Irq.UPD_CONFIRMED).showUpd := by
  unfold State.confirm
  rw [ht, if_neg (by decide), if_neg (not_not_intro hb), if_neg (by simp [hc]), if_neg (not_not_intro hm)]
  rfl

/-! ### Fallback (R611, R612) -/

/-- The one bootable slot starts. -/
theorem State.startConfirmed_first (h0 : s.bootable 0 = true) (h1 : s.bootable 1 = false) :
    s.startConfirmed = (s.raiseFloor (s.slot 0).hdr).startSlot 0 := by
  unfold State.startConfirmed
  rw [h0, h1]

/-- The trial rejected, and the control plane reset. -/
def State.rejectedReset (s : State) : State := (s.rejectSlot s.runSlot).warmReset causeFallback

theorem State.rejectedReset_upd : s.rejectedReset.upd = (s.setSlot s.runSlot { s.slot s.runSlot with state := .rejected }).upd :=
  (State.warmReset_upd _ _).trans (State.showUpd_upd _)

theorem State.rejectedReset_slot (i : Nat) :
    s.rejectedReset.slot i = (s.setSlot s.runSlot { s.slot s.runSlot with state := .rejected }).slot i :=
  State.slot_congr (congrArg Upd.slotA s.rejectedReset_upd) (congrArg Upd.slotB s.rejectedReset_upd) i

theorem State.rejectedReset_floor : s.rejectedReset.floor = s.floor :=
  congrArg BitVec.toNat ((Frame.refl .none s).rejectSlot.warmReset.regs .SET_FLOOR 0 (by decide))

/-- What tells of a fallback, once a slot has started. -/
def State.fellBack (s : State) (bad : Nat) : State :=
  (((s.irq Irq.UPD_FALLBACK).alert alertBoot).awlUnstated .UPD (awlArg bad (s.reg .UPD_RUN_VER 0).toNat)).showUpd

theorem State.fallBack_eq : s.fallBack = s.rejectedReset.startConfirmed.fellBack (s.slot s.runSlot).hdr.version := rfl

theorem State.fellBack_keeps (bad : Nat) : Frame ⟨[.host, .sent, .freeCtr, .awl], [.GLB_INT_SUM, .UPD_INT_STAT, .GLB_ALERT_STAT,
    .GLB_INT_STAT, .AWL_MERGED, .AWL_STATUS, .INS_RET_STAT, .AWL_LOST, .AWL_INT_STAT, .UPD_STATUS, .UPD_CONFIRM_LEFT, .UPD_SLOT_STAT,
    .UPD_SLOT_VER, .UPD_SLOT_FLOOR, .UPD_SLOT_SEQ]⟩ s (s.fellBack bad) :=
  .le (by decide) ((Frame.refl .none s).irq (c := Irq.UPD_FALLBACK)).alert.awlUnstated.showUpd

theorem State.fellBack_runSlot (bad : Nat) : (s.fellBack bad).runSlot = s.runSlot := by
  have hf := ((Frame.refl .none s).irq (c := Irq.UPD_FALLBACK)).alert (b := alertBoot) |>.awlUnstated (b := .UPD)
    (arg := awlArg bad (s.reg .UPD_RUN_VER 0).toNat)
  rw [State.fellBack, State.showUpd_runSlot, State.runSlot, hf.fld (by decide)]
  rfl

theorem State.fellBack_sets (bad : Nat) : bit Irq.UPD_FALLBACK.bit ((s.fellBack bad).reg .UPD_INT_STAT 0) = true := by
  have hf := (Frame.refl .none (s.irq Irq.UPD_FALLBACK)).alert (b := alertBoot) |>.awlUnstated (b := .UPD)
    (arg := awlArg bad (s.reg .UPD_RUN_VER 0).toNat) |>.showUpd
  rw [State.fellBack, hf.regs .UPD_INT_STAT 0 (by decide)]
  exact State.irq_sets _ Irq.UPD_FALLBACK rfl (by decide) (by decide)

/-- A trial in slot B falls back to a bootable slot A. -/
theorem State.fallBack_shows (hr : s.runSlot = 1) (hb : s.bootable 0 = true) :
    (s.fallBack.slot 1).state = .rejected ∧ s.fallBack.runSlot = 0 ∧ s.fallBack.bootStage = stageWarmBoot ∧
    s.fallBack.fld F.BOOT_CAUSE_CAUSE 0 = causeFallback ∧
    bit Irq.UPD_FALLBACK.bit (s.fallBack.reg .UPD_INT_STAT 0) = true := by
  have hslot0 : s.rejectedReset.slot 0 = s.slot 0 := by
    rw [s.rejectedReset_slot, State.setSlot_slot_ne _ (by simp [hr])]
  have hslot1 : s.rejectedReset.slot 1 = { s.slot 1 with state := .rejected } := by
    rw [s.rejectedReset_slot, hr, State.setSlot_slot]
  have h0 : s.rejectedReset.bootable 0 = true := by
    rw [State.bootable, hslot0, s.rejectedReset_floor]
    exact hb
  have h1 : s.rejectedReset.bootable 1 = false := by
    rw [State.bootable, hslot1]
    rfl
  let u := s.rejectedReset.raiseFloor (s.rejectedReset.slot 0).hdr
  have hstart : s.rejectedReset.startConfirmed = u.startSlot 0 := s.rejectedReset.startConfirmed_first h0 h1
  have hu := (Frame.refl .none s.rejectedReset).raiseFloor (h' := (s.rejectedReset.slot 0).hdr)
  have hc := hu.startSlot (i := 0)
  have hf := (u.startSlot 0).fellBack_keeps (s.slot s.runSlot).hdr.version
  have hupd : (u.startSlot 0).upd = s.rejectedReset.upd := hc.parts .upd (by decide)
  have hkept := (hf.parts .upd (by decide)).trans hupd
  obtain ⟨hstage, hcause⟩ := (s.rejectSlot s.runSlot).warmReset_shows (cause := causeFallback) (by decide)
  rw [State.fallBack_eq, hstart]
  refine ⟨?_, ?_, (hf.fld (by decide) 0).trans ((hc.fld (by decide) 0).trans hstage), ?_, State.fellBack_sets _ _⟩
  · rw [State.slot_congr (congrArg Upd.slotA hkept) (congrArg Upd.slotB hkept), hslot1]
  · exact (State.fellBack_runSlot _ _).trans (u.startSlot_runSlot (by decide))
  · rw [hf.fld (by decide), u.startSlot_cause, hu.fld (by decide)]
    exact hcause

end Sys2Proof.Machine

end

section
open Sys2Proof Sys2Proof.Machine

/-- Settles O51, clause by clause: a datagram is heard, then answered, refused or carried out by the owner; a control write is one
of its four bits (log 111: a status that is not stated is a free value; log 112: the slot that a header invalidates is EMPTY, and
the refusals of ACTIVATE stand in this order). -/
theorem updatesAreReceivedVerifiedAndConfirmed : Obligations.UpdatesAreReceivedVerifiedAndConfirmed := by
  unfold Obligations.UpdatesAreReceivedVerifiedAndConfirmed
  refine ⟨?layout, ?header, ?headerFails, ?dataOther, ?dataNext, ?dataBeyond, ?dataBelow, ?noProgram, ?program, ?endEarly, ?endBody,
    ?verified, ?digest, ?abort, ?abortUnlocked, ?query, ?queryClosed, ?idle, ?activateEarly, ?activatePair, ?activate, ?confirm,
    ?confirmEarly, ?confirmNone, ?fallback, ?fallbackNone, ?ctrlAbort, ?timeout, ?timeoutNone, ?loadGood, ?loadBad, ?swap, ?noSwap⟩
  case layout =>
    intro port session layout h s ho hb
    have hexec : exec (.updHeader port session layout h) s = .next (s.heard.updAnswer opHeader session .BAD_ARG) :=
      congrArg Host.Outcome.next (s.datagram_bad ho hb _)
    rw [hexec]
    exact .next ⟨rfl, (State.updAnswer_reg _ _ _ _ _ _).trans s.heard_counts, rfl⟩
  case header =>
    intro port session layout h s ho hl hs hc
    obtain ⟨howner, hnext, hslot⟩ := s.heard.lockTaken_shows port session h
    have hf := (s.heard.takeLock_keeps port session h).lastStatus (op := opHeader) (st := .OK) |>.updAnswer (op := opHeader)
      (session := session) (st := .OK)
    have hupd : (((s.heard.takeLock port session h).lastStatus opHeader .OK).updAnswer opHeader session .OK).upd =
      (s.heard.lockTaken port session h).upd := hf.parts .upd (by decide)
    rw [exec_updHeader_passed ho hl hs hc]
    refine .next ⟨rfl, congrArg Upd.hdr hupd, congrArg Upd.done hupd, congrArg Upd.waiting hupd, (hf.fld (by decide) 0).trans howner,
      (hf.regs .UPD_NEXT 0 (by decide)).trans hnext, ?_⟩
    rw [State.slot_congr (congrArg Upd.slotA hupd) (congrArg Upd.slotB hupd), ← s.heard_target]
    exact hslot
  case headerFails =>
    intro port session layout h st s ho hl hs hc
    have hk : LockKept s (s.heard.headerFailed port session st) := by
      obtain ⟨hi, hown⟩ := s.heard.headerFailed_lockKept port session st
      exact ⟨hi, hown.trans (s.heard_fld (by decide) 0)⟩
    have hkept : LockKept s (((s.heard.headerFailed port session st).lastStatus opHeader st).updAnswer opHeader session st) :=
      hk.of_frame ((Frame.refl .none _).lastStatus.updAnswer) (by decide) (by decide)
    rw [exec_updHeader_failed ho hl hs hc]
    exact .next ⟨rfl, congrArg Prod.fst hkept.1, (State.updAnswer_fld _ _ _ _ _ _).trans (State.lastStatus_shows _ _ _), hkept.2, hkept.slot _⟩
  case dataOther =>
    intro port session layout off len s ho hl hs hn hlock hown
    have hexec : exec (.updData port session layout off len) s = .next (s.heard.notOwner opData session) := by
      change execUpdData port session layout off len s = _
      rw [execUpdData, s.datagram_good ho (by simp [hl, hn]) hs, s.heard_owned_other hlock hown]
    rw [hexec]
    refine .next ⟨rfl, ?_, rfl⟩
    rw [State.notOwner, State.updAnswer_reg, State.reg_count_counted]
    exact State.counted_congr (s.heard_reg (by decide) 0) _
  case dataNext =>
    intro port session layout off len h s ho hl hs hn hown hh hoff hroom hfits he hw
    rw [exec_updData_owner ho hl hs hn hown,
      s.spoken.takeData_next hh (hoff.trans (congrArg BitVec.toNat s.spoken_next.symm)) hn hroom he hw]
    refine .next ⟨rfl, rfl, ?_⟩
    rw [State.updAnswer_reg]
    exact State.toNat_reg_setReg _ rfl (by omega) 0
  case dataBeyond =>
    intro port session layout off len s ho hl hs hn hown hoff
    rw [exec_updData_owner ho hl hs hn hown, s.spoken.takeData_beyond (by rw [s.spoken_next]; exact hoff)]
    exact .next ⟨rfl, rfl, s.spoken_next⟩
  case dataBelow =>
    intro port session layout off len s ho hl hs hn hown hoff
    rw [exec_updData_owner ho hl hs hn hown, s.spoken.takeData_below (by rw [s.spoken_next]; exact hoff)]
    exact .next ⟨rfl, rfl, s.spoken_next⟩
  case noProgram =>
    intro s hw
    have hexec : exec .updDataProgrammed s = .next s := by
      change execUpdDataProgrammed s = _
      rw [execUpdDataProgrammed, hw]
    rw [hexec]
    exact .next rfl
  case program =>
    intro n rest s hw
    let u := s.setUpd { s.upd with waiting := rest, done := s.upd.done + n }
    let old := (8192 + s.upd.done - 1) / 65536
    let new := (8192 + s.upd.done + n - 1) / 65536
    have hexec : exec .updDataProgrammed s =
        .next ((List.range (new - old)).foldl (fun (s : State) i => s.eraseSector s.target (old + 1 + i)) u) := by
      change execUpdDataProgrammed s = _
      rw [execUpdDataProgrammed, hw]
    have hf := u.programmed_keeps old (new - old)
    rw [hexec]
    exact .next ⟨hf.parts .upd (by decide), hf.regs .UPD_NEXT 0 (by decide)⟩
  case endEarly =>
    intro port session layout h s ho hl hs hown hh hlen
    rw [exec_updEnd_owner ho hl hs hown hh, State.takeEnd, if_pos (by rw [s.spoken_next]; exact hlen)]
    exact .next ⟨rfl, rfl, (State.updAnswer_fld _ _ _ _ _ _).trans (State.lastStatus_shows _ _ _)⟩
  case endBody =>
    intro port session layout h s ho hl hs hown hh hlen
    have hf := (Frame.refl .none (s.spoken.setUpd { s.spoken.upd with ending := true })).showUpd
    rw [exec_updEnd_owner ho hl hs hown hh, State.takeEnd, if_neg (by rw [s.spoken_next]; exact Nat.not_lt.mpr hlen)]
    exact .next ⟨congrArg Upd.ending (hf.parts .upd (by decide)), hf.parts .sent (by decide)⟩
  case verified =>
    intro m h s hh he hw hm
    let u := ((s.bodyWritten h).lastStatus opEnd .OK).updAnswer opEnd s.session .OK
    obtain ⟨hlock, -, -⟩ := u.releaseLock_shows
    rw [exec_updBodyVerified_ends hh he hw, if_pos hm]
    refine .next ⟨?_, ?_, ?_, State.irq_sets _ Irq.UPD_READY rfl (by decide) (by decide)⟩
    · rw [State.slot_congr (congrArg Upd.slotA (State.irq_upd _ _)) (congrArg Upd.slotB (State.irq_upd _ _)), State.releaseLock_slot]
      exact s.setSlot_slot _ _
    · rw [State.locked, State.irq_fld _ _ (by decide)]
      exact hlock
    · rw [State.irq_resp, State.releaseLock_resp]
      rfl
  case digest =>
    intro m h s hh he hw hm
    let u := (s.authFail.lastStatus opEnd .AUTH_FAIL).updAnswer opEnd s.session .AUTH_FAIL
    obtain ⟨hlock, -, -⟩ := u.releaseLock_shows
    have hk : LockKept s s.authFail := LockKept.authFail ⟨rfl, rfl⟩
    let v := s.setUpd { s.upd with fails := s.tick :: s.upd.fails }
    have hf := ((Frame.refl .none (v.count .UPD_AUTH_FAILS 0 1)).irq (c := Irq.UPD_AUTH_FAIL)).awlUnstated (b := .UPD) (arg := 0)
      |>.lastStatus (op := opEnd) (st := .AUTH_FAIL) |>.updAnswer (op := opEnd) (session := s.session) (st := .AUTH_FAIL)
      |>.releaseLock
    rw [exec_updBodyVerified_ends hh he hw, if_neg (by simp [hm])]
    refine .next ⟨?_, hlock, State.releaseLock_resp _, ?_⟩
    · rw [State.releaseLock_slot]
      exact hk.slot _
    · exact (hf.regs .UPD_AUTH_FAILS 0 (by decide)).trans (State.reg_count_counted _ _ _ _)
  case abort =>
    intro port session layout s ho hl hs hown
    have hexec : exec (.updAbortDatagram port session layout) s = .next (s.spoken.releaseLock.updAnswer opAbort session .OK) := by
      change execUpdAbortDatagram port session layout s = _
      rw [execUpdAbortDatagram, s.datagram_good ho hl hs, s.heard_owned hown]
      rfl
    obtain ⟨hlock, hupd, hnext⟩ := s.spoken.releaseLock_shows
    rw [hexec]
    exact .next ⟨hlock, rfl, congrArg Upd.hdr hupd, hnext⟩
  case abortUnlocked =>
    intro port session layout s ho hl hs hlock
    have hexec : exec (.updAbortDatagram port session layout) s =
        .next ((s.heard.updAnswer opAbort session s.freeStatus).drawFree) := by
      change execUpdAbortDatagram port session layout s = _
      rw [execUpdAbortDatagram, s.datagram_good ho hl hs, s.heard_owned_unlocked hlock]
    rw [hexec]
    exact .next ⟨rfl, rfl⟩
  case query =>
    intro port session layout s ho hl hs
    let u := if s.heard.isOwner port session then s.heard.ownerSpoke else s.heard
    have hexec : exec (.updQuery port session layout) s = .next (u.updAnswer opQuery session .OK) := by
      change execUpdQuery port session layout s = _
      rw [execUpdQuery, s.datagram_good ho hl hs]
    obtain ⟨-, howner⟩ : LockKept s.heard u := .branch (LockKept.ownerSpoke ⟨rfl, rfl⟩) ⟨rfl, rfl⟩
    have hu : Frame ⟨[.upd], [.UPD_LOCK]⟩ s.heard u := .le (by decide) (.branch (Frame.refl .none _).ownerSpoke (.refl .none _))
    rw [hexec]
    exact .next ⟨rfl, howner.trans (s.heard_fld (by decide) 0), (hu.regs .UPD_PKT_RX 0 (by decide)).trans s.heard_counts⟩
  case queryClosed =>
    intro port session layout s ho
    have hexec : exec (.updQuery port session layout) s = .next s := congrArg Host.Outcome.next (if_pos (by simp [ho]))
    rw [hexec]
    exact .next rfl
  case idle =>
    intro s hl
    have hexec : exec .updLockIdleTimeout s = .next s.releaseLock := congrArg Host.Outcome.next (if_pos hl)
    obtain ⟨hlock, hupd, hnext⟩ := s.releaseLock_shows
    rw [hexec]
    exact .next ⟨hlock, congrArg Upd.hdr hupd, hnext⟩
  case activateEarly =>
    intro src level s ho hs
    have hrefused : (s.answer .OK).activate level.toNat = (s.answer .OK).ctrlRefused 31 .NOT_READY := if_pos hs
    obtain ⟨hresp, hupd, hlast⟩ := (s.answer .OK).ctrlRefused_shows 31 .NOT_READY
    rw [exec_updActivate_open ho, hrefused]
    exact .next ⟨hresp, hupd, (Frame.refl .none (s.answer .OK)).ctrlRefused.fld (by decide) 0, hlast⟩
  case activatePair =>
    intro src level s ho hs hp hpartner hlevel
    have hrefused : (s.answer .OK).activate level.toNat = (s.answer .OK).ctrlRefused 31 .REFUSED_POLICY :=
      (if_neg (not_not_intro hs)).trans ((if_neg (by rw [Bool.and_eq_true, beq_iff_eq]; exact fun h => hpartner h.2)).trans
        (if_pos (by rw [Bool.and_eq_true, bne_iff_ne]; exact ⟨hp, hlevel⟩)))
    obtain ⟨hresp, hupd, -⟩ := (s.answer .OK).ctrlRefused_shows 31 .REFUSED_POLICY
    rw [exec_updActivate_open ho, hrefused]
    exact .next ⟨hresp, hupd, State.ctrlRefused_policy _ _⟩
  case activate =>
    intro src level s ho hs hatt hrun hlt hm
    let r := s.answer .OK
    have hactivate : r.activate level.toNat = r.trialReset.trialShown := r.activate_written hs hm level.toNat
    obtain ⟨hupd, hstage, hresp⟩ := r.trialReset_shows
    have hslot : ∀ i, r.trialReset.slot i = (s.setSlot s.target { s.slot s.target with state := .trial }).slot i := fun i =>
      (State.slot_congr (congrArg Upd.slotA hupd) (congrArg Upd.slotB hupd) i).trans (r.trialSet_slot i)
    have htarget : r.trialReset.slot s.target = { s.slot s.target with state := .trial } := (hslot _).trans (s.setSlot_slot _ _)
    have htry : r.trialReset.mayTry s.target = true := by
      rw [State.mayTry, htarget]
      simp [hatt]
    have hother : s.target = 1 → r.trialReset.mayTry 0 = false := fun h1 => by
      have hrun0 : s.runSlot = 0 := by rw [State.target] at h1; omega
      rw [hrun0] at hrun
      rw [State.mayTry, hslot, State.setSlot_slot_ne _ (by simp [h1]), beq_eq_false_iff_ne.mpr hrun]
      rfl
    have hsel : r.trialReset.selectSlot = r.trialReset.attempt s.target :=
      r.trialReset.selectSlot_trial (Nat.lt_of_le_of_lt (Nat.sub_le _ _) (by decide)) htry hother
    have hf := r.trialReset.trialShown_keeps
    have hshown : r.trialReset.trialShown.slot s.target = { s.slot s.target with state := .trial, attempts := 1 } := by
      have hkept := hf.parts .upd (by decide)
      rw [State.slot_congr (congrArg Upd.slotA hkept) (congrArg Upd.slotB hkept), hsel, State.attempt_slot, htarget, hatt]
    have ha := (Frame.refl .none r.trialReset).setSlot (i := s.target)
      (x := { r.trialReset.slot s.target with attempts := (r.trialReset.slot s.target).attempts + 1 }) |>.startSlot (i := s.target)
    rw [exec_updActivate_open ho, hactivate]
    refine .next ⟨?_, congrArg ImgSlot.state hshown, congrArg ImgSlot.attempts hshown, ?_, ?_, State.trialShown_sets _⟩
    · rw [State.trialShown_runSlot, hsel]
      exact State.startSlot_runSlot _ (Nat.lt_of_le_of_lt (Nat.sub_le _ _) (by decide))
    · rw [State.bootStage, hf.fld (by decide), hsel]
      exact (ha.fld (by decide) 0).trans hstage
    · rw [hf.parts .resp (by decide), hsel]
      exact (ha.parts .resp (by decide)).trans hresp
  case confirm =>
    intro src s ho ht hb hc hm hlt
    have hconfirm := (s.answer .OK).confirm_trial ht hb hc hm
    have hfloor : (s.answer .OK).slotConfirmed.floor = max s.floor (s.slot s.runSlot).hdr.floorReq := State.raiseFloor_floor _ hlt
    let u := ((s.answer .OK).slotConfirmed.lastStatus 30 .OK).answer .OK
    have hupd : u.upd = (s.setSlot s.runSlot { s.slot s.runSlot with state := .confirmed }).upd := State.raiseFloor_upd _ _
    have hv := (Frame.refl .none (u.irq Irq.UPD_CONFIRMED)).showUpd
    have hf := ((Frame.refl .none u).irq (c := Irq.UPD_CONFIRMED)).showUpd
    have hall := (hf.parts .upd (by decide)).trans hupd
    rw [exec_updConfirm_open ho, hconfirm]
    refine .next ⟨?_, hf.parts .resp (by decide), ?_, ?_⟩
    · rw [State.slot_congr (congrArg Upd.slotA hall) (congrArg Upd.slotB hall), s.setSlot_slot]
    · rw [State.floor, hf.regs .SET_FLOOR 0 (by decide), State.answer_reg, State.lastStatus, State.reg_setFld_ne _ (by decide),
        State.reg_setFld_ne _ (by decide)]
      exact hfloor
    · rw [hv.regs .UPD_INT_STAT 0 (by decide)]
      exact State.irq_sets _ Irq.UPD_CONFIRMED rfl (by decide) (by decide)
  case confirmEarly =>
    intro src s ho ht hb
    have hrefused : (s.answer .OK).confirm = (s.answer .OK).ctrlRefused 30 .NOT_READY :=
      (if_neg (by rw [show (s.answer .OK).onTrial = true from ht]; decide)).trans (if_pos hb)
    obtain ⟨hresp, hupd, -⟩ := (s.answer .OK).ctrlRefused_shows 30 .NOT_READY
    rw [exec_updConfirm_open ho, hrefused]
    exact .next ⟨hresp, hupd⟩
  case confirmNone =>
    intro src s ho ht
    have hrefused : (s.answer .OK).confirm = ((s.answer .OK).ctrlRefused 30 s.freeStatus).drawFree :=
      if_pos (by rw [show (s.answer .OK).onTrial = false from ht]; decide)
    obtain ⟨hresp, hupd, -⟩ := (s.answer .OK).ctrlRefused_shows 30 s.freeStatus
    rw [exec_updConfirm_open ho, hrefused]
    exact .next ⟨hresp, hupd⟩
  case fallback =>
    intro src s ho ht hr hb
    let u := ((s.answer .OK).lastStatus 29 .OK).answer .OK
    have hfall : (s.answer .OK).ctrlFallback = u.fallBack :=
      if_neg (by rw [show (s.answer .OK).onTrial = true from ht]; decide)
    have hu : Frame ⟨[.resp], [.UPD_LAST_STATUS]⟩ s u := .le (by decide) (Frame.refl .none s).answer.lastStatus.answer
    have hrun : u.runSlot = 1 := (hu.fld (by decide) 0).trans hr
    have hfloor : u.floor = s.floor := congrArg BitVec.toNat (hu.regs .SET_FLOOR 0 (by decide))
    have hboot : u.bootable 0 = true := by
      rw [State.bootable, hfloor]
      exact hb
    rw [exec_updFallback_open ho, hfall]
    exact .next (u.fallBack_shows hrun hboot)
  case fallbackNone =>
    intro src s ho ht
    have hrefused : (s.answer .OK).ctrlFallback = ((s.answer .OK).ctrlRefused 29 s.freeStatus).drawFree :=
      if_pos (by rw [show (s.answer .OK).onTrial = false from ht]; decide)
    obtain ⟨hresp, hupd, -⟩ := (s.answer .OK).ctrlRefused_shows 29 s.freeStatus
    rw [exec_updFallback_open ho, hrefused]
    exact .next ⟨hresp, hupd⟩
  case ctrlAbort =>
    intro src s ho
    let u := if (s.answer .OK).locked then (s.answer .OK).releaseLock else s.answer .OK
    have hunlocked : u.locked = false := by
      by_cases hl : (s.answer .OK).locked = true
      · rw [show u = _ from if_pos hl]
        exact (s.answer .OK).releaseLock_shows.1
      · rw [show u = _ from if_neg hl]
        exact Bool.eq_false_iff.mpr hl
    have habort : (s.answer .OK).ctrlAbort = (u.lastStatus 28 .OK).answer .OK := rfl
    have howner : (u.lastStatus 28 .OK).fld F.UPD_LOCK_OWNER 0 = u.fld F.UPD_LOCK_OWNER 0 :=
      (Frame.refl .none u).lastStatus.fld (by decide) 0
    rw [exec_updCtrlAbort_open ho, habort]
    refine .next ⟨?_, rfl, (State.answer_fld _ _ _ _).trans (State.lastStatus_shows _ _ _)⟩
    rw [State.locked, State.answer_fld, howner]
    exact hunlocked
  case timeout =>
    intro s ht hr hb
    have hexec : exec .updConfirmTimeout s = .next s.fallBack := congrArg Host.Outcome.next (if_pos ht)
    obtain ⟨hslot, hrun, hstage, -, -⟩ := s.fallBack_shows hr hb
    rw [hexec]
    exact .next ⟨hslot, hrun, hstage⟩
  case timeoutNone =>
    intro s ht
    have hexec : exec .updConfirmTimeout s = .next s := congrArg Host.Outcome.next (if_neg (by simp [ht]))
    rw [hexec]
    exact .next rfl
  case loadGood =>
    intro block good s hg
    have hexec : exec (.microcodeLoad block good) s = .next ((s.setUpd { s.upd with
        loaded := block.val :: s.upd.loaded.filter (fun x => x != block.val) }).setFlag ⟨.UPD_MC_STAT, 8 + block, 1⟩ 0 false) :=
      congrArg Host.Outcome.next (if_pos hg)
    have hfit : 8 + block.val + 1 ≤ 32 := by omega
    rw [hexec]
    refine .next ⟨?_, State.flag_setFlag_same _ _ _ _ hfit rfl⟩
    change (block.val :: s.upd.loaded.filter (fun x => x != block.val)).contains block.val = true
    simp
  case loadBad =>
    intro block good s hg
    let u := (s.setUpd { s.upd with loaded := s.upd.loaded.filter (fun x => x != block.val) }).setFlag ⟨.UPD_MC_STAT, 8 + block, 1⟩ 0 true
    have hexec : exec (.microcodeLoad block good) s = .next (u.awlUnstated .UPD (awlArg block 0)) :=
      congrArg Host.Outcome.next (if_neg (by simp [hg]))
    have hf := (Frame.refl .none u).awlUnstated (b := .UPD) (arg := awlArg block 0)
    have hflag : ∀ lo, (u.awlUnstated .UPD (awlArg block 0)).flag ⟨.UPD_MC_STAT, lo, 1⟩ 0 = u.flag ⟨.UPD_MC_STAT, lo, 1⟩ 0 :=
      fun lo => hf.flag (g := ⟨.UPD_MC_STAT, lo, 1⟩) (show Reg.UPD_MC_STAT ∉ _ by decide) 0
    have hfit : 8 + block.val + 1 ≤ 32 := by omega
    have hapart : ∀ b : Fin 4, Fld.apart ⟨.UPD_MC_STAT, 8 + b, 1⟩ ⟨.UPD_MC_STAT, b, 1⟩ = true := by decide
    rw [hexec]
    refine .next ⟨?_, (hflag _).trans (State.flag_setFlag_same _ _ _ _ hfit rfl), ?_⟩
    · rw [hf.parts .upd (by decide)]
      change (s.upd.loaded.filter (fun x => x != block.val)).contains block.val = false
      simp
    · exact (hflag _).trans (State.flag_setFlag_apart _ (hapart block) _ _ _)
  case swap =>
    intro block s hl
    have hexec : exec (.microcodeSwap block) s = .next ((s.setUpd { s.upd with
        loaded := s.upd.loaded.filter (fun x => x != block.val) }).setFlag ⟨.UPD_MC_STAT, block, 1⟩ 0
          (!s.flag ⟨.UPD_MC_STAT, block, 1⟩ 0)) :=
      congrArg Host.Outcome.next (if_pos hl)
    have hfit : block.val + 1 ≤ 32 := by omega
    rw [hexec]
    refine .next ⟨State.flag_setFlag_same _ _ _ _ hfit rfl, ?_⟩
    change (s.upd.loaded.filter (fun x => x != block.val)).contains block.val = false
    simp
  case noSwap =>
    intro block s hl
    have hexec : exec (.microcodeSwap block) s = .next s := congrArg Host.Outcome.next (if_neg (by simpa using hl))
    rw [hexec]
    exact .next rfl

end

section
/-! SUPPORT of O9: cold resets, cold boots, warm resets, temperatures and the endpoint. -/

namespace Sys2Proof.Machine

variable (s : State)

/-! ### A cold reset (R624, R625) -/

/-- Units steered to their carriers change the carriers that are shown. -/
theorem Frame.applyUnits {f : Foot} {a b : State} {l : List (Nat × Word)} (h : Frame f a b) :
    Frame (f.plus ⟨[], [.RSL_UNIT_STAT, .NIM_CORE_STAT, .TWD_CORE_STAT, .VMP_PIPE_STAT, .TWL_SP_STAT]⟩) a
      (l.foldl (fun (s : State) (e : Nat × Word) => s.applyUnit e.1 e.2) b) :=
  h.op (by decide) fun h => .fold h fun _ _ h => .branch h.set.setFld (.branch h.set (.branch h.set.setFld (.branch h.set.setFld
    (.branch h.set.setFld h.set.setFld.setFld))))

/-- A register that no medium keeps has its reset value where the store is what the media keep. -/
theorem State.reg_of_kept {s t : State} (h : t.regs = s.regs.filter fun (e : Nat × Tbl Word) => (keptRegs.map Reg.ctorIdx).contains e.1)
    {r : Reg} (hr : (keptRegs.map Reg.ctorIdx).contains r.ctorIdx = false) (i : Nat) : t.reg r i = r.reset i := by
  rw [State.reg, h, Tbl.get_filter_key, hr]
  rfl

/-- A cold reset holds the part in INSOLE with its boot stage and contexts as at reset. -/
theorem State.coldReset_shows : s.coldReset.host.inReset = true ∧ s.coldReset.power = powerInsole ∧
    s.coldReset.bootStage = stageRom ∧ s.coldReset.nim.ctxs = [] := by
  unfold State.coldReset
  extract_lets r kept bind medium full bad _ links _ _ _ _ _ _ _ _ _ _ _ _ s0 s1 s2 s3
  have hf := (Frame.refl .none s3).applyUnits (l := regRow kept .RSL_UNIT_STAT)
  have h1 : Frame ⟨[], [.AWL_STATUS, .SET_STATUS, .INS_STATE]⟩ s0 s3 :=
    .le (by decide) (Frame.refl .none s0).setFld.setFlag.setFlag.setFld.setFlag.setFld
  have hstage : s0.bootStage = stageRom := by
    rw [State.bootStage, State.fld, State.reg_of_kept (s := s) (t := s0) rfl (by decide)]
    decide
  refine ⟨congrArg HostSide.inReset ((hf.parts .host (by decide)).trans (h1.parts .host (by decide))), ?_,
    (hf.fld (by decide) 0).trans ((h1.fld (by decide) 0).trans hstage),
    congrArg Nim.ctxs ((hf.parts .nim (by decide)).trans (h1.parts .nim (by decide)))⟩
  rw [State.power, hf.fld (by decide)]
  exact State.fld_setFld_fits _ (by decide) (by decide) 0

/-! ### A cold boot (R629, R635) -/

theorem State.raiseVector_inReset (v : Nat) : (s.raiseVector v).host.inReset = s.host.inReset := by
  unfold State.raiseVector
  split
  · rfl
  · rfl

theorem State.raiseBlock_inReset (b : Blk) : (s.raiseBlock b).host.inReset = s.host.inReset := by
  unfold State.raiseBlock
  split
  · exact s.raiseVector_inReset _
  · rfl

theorem State.refreshSum_inReset (b : Blk) (was : Bool) : (s.refreshSum b was).host.inReset = s.host.inReset := by
  unfold State.refreshSum
  extract_lets now u
  split
  · exact u.raiseBlock_inReset b
  · rfl

theorem State.irq_inReset (c : Irq) : (s.irq c).host.inReset = s.host.inReset := by
  unfold State.irq
  split
  · rfl
  · split
    · rfl
    · exact State.refreshSum_inReset _ _ _

/-- A wake source is shown. -/
theorem State.wake_shows {src : Nat} (h : src < 2 ^ F.INS_STATE_WAKE.len) : (s.wake src).fld F.INS_STATE_WAKE 0 = src ∧
    (s.wake src).power = s.power := by
  refine ⟨?_, ?_⟩
  · rw [State.wake, State.irq_fld _ _ (by decide), State.fld_setFld_fits _ (by decide) h]
  · rw [State.power, State.wake, State.irq_fld _ _ (by decide), State.fld_setFld_apart _ (by decide),
      State.setFlag, State.fld_setFld_ne _ (show Reg.INS_STATE ≠ Reg.INS_WAKE_SRC by decide)]
    rfl

/-- The part out of reset, in ACTIVE, with its cause. -/
def State.bootBegun (s : State) (cause : Nat) : State :=
  ((State.setBoot { s with host := { s.host with inReset := false } } { s.boot with start := s.tick }).setFld F.INS_STATE_STATE 0
    powerActive).setFld F.BOOT_CAUSE_CAUSE 0 cause

theorem State.coldBoot_eq (cause : Nat) : s.coldBoot cause = (s.bootBegun cause).wake wakePorst := rfl

theorem State.coldBoot_shows {cause : Nat} (h : cause < 2 ^ 4) : (s.coldBoot cause).host.inReset = false ∧
    (s.coldBoot cause).power = powerActive ∧ (s.coldBoot cause).fld F.BOOT_CAUSE_CAUSE 0 = cause ∧
    (s.coldBoot cause).boot.tripped = s.boot.tripped := by
  obtain ⟨-, hpower⟩ := (s.bootBegun cause).wake_shows (src := wakePorst) (by decide)
  have hf := (Frame.refl .none (s.bootBegun cause)).wake (src := wakePorst)
  rw [State.coldBoot_eq]
  refine ⟨State.irq_inReset _ _, hpower.trans ?_, (hf.fld (by decide) 0).trans (State.fld_setFld_fits _ (by decide) h 0), ?_⟩
  · rw [State.power, State.bootBegun, State.fld_setFld_ne _ (by decide), State.fld_setFld_fits _ (by decide) (by decide)]
  · rw [hf.parts .boot (by decide)]
    rfl

/-- The straps sampled as PORST_N rises (R23). -/
def State.strapped (s : State) (strap : Nat) (sideB : Bool) : State :=
  ((s.setFld F.GLB_CHIP_STRAP 0 strap).setFld F.GLB_CHIP_DOMAIN 0 strap).setFlag F.GLB_CHIP_SIDE 0 sideB

theorem State.strapped_keeps (strap : Nat) (sideB : Bool) : Frame ⟨[], [.GLB_CHIP]⟩ s (s.strapped strap sideB) :=
  .le (by decide) (Frame.refl .none s).setFld.setFld.setFlag

theorem State.strapped_shows {strap : Nat} (h : strap < 2 ^ 10) (sideB : Bool) :
    (s.strapped strap sideB).fld F.GLB_CHIP_STRAP 0 = strap ∧ (s.strapped strap sideB).fld F.GLB_CHIP_DOMAIN 0 = strap ∧
    (s.strapped strap sideB).flag F.GLB_CHIP_SIDE 0 = sideB := by
  refine ⟨?_, ?_, State.flag_setFlag_same _ _ _ _ (by decide) rfl⟩
  · rw [State.strapped, State.fld_setFlag_apart _ (by decide), State.fld_setFld_apart _ (by decide),
      State.fld_setFld_fits _ (by decide) h]
  · rw [State.strapped, State.fld_setFlag_apart _ (by decide), State.fld_setFld_fits _ (by decide) h]

theorem exec_porstRise_held {s : State} (hr : s.host.inReset = true) (hp : s.power = powerInsole) (strap : Fin 1024) (sideB : Bool) :
    exec (.porstRise strap sideB) s = .next (if (s.strapped strap sideB).boot.tripped then s.strapped strap sideB
      else (s.strapped strap sideB).coldBoot (if (s.strapped strap sideB).fld F.BOOT_CAUSE_CAUSE 0 = 0 then causePorst
        else (s.strapped strap sideB).fld F.BOOT_CAUSE_CAUSE 0)) :=
  congrArg Host.Outcome.next (if_neg (by simp [hr, hp]))

theorem exec_thermalRecover_cool {s : State} {t : BitVec 16} (hb : s.boot.tripped = true) (ht : t.toInt < 1760) :
    exec (.thermalRecover t) s = .next ((s.setBoot { s.boot with
      tripped := false
      hot := decide ((16 * s.fld F.GLB_TEMP_CFG_ALARM 0 : Nat) < t.toInt) }).coldBoot causeThermal) :=
  congrArg Host.Outcome.next (if_neg (by
    rw [hb, Bool.not_true, Bool.false_or, decide_eq_true_eq]
    exact not_le.mpr ht))

/-! ### Warm resets (R624, R625, R628) -/

/-- The control plane without its contexts and registers. -/
def State.controlCleared (s : State) : State :=
  (List.range 16).foldl (fun (s : State) c => s.setFld F.NIM_CORE_STAT_PHYS c (s.fld F.RSL_UNIT_STAT_PHYS c))
    (warmCleared.foldl (fun (s : State) r => s.clearReg r) (if s.mirrored then s.emit .warmAnnounce else s).resetCores)

/-- The control plane as a warm reset begins: records are held, and the watchdog is not armed. -/
def State.controlHeld (s : State) : State :=
  State.setBoot { s with
    nim := { s.nim with warm := true, phase := [] }
    net := { s.net with rxr := [], txr := [] } } { s.boot with armed := false }

theorem State.controlHeld_reg (r : Reg) (i : Nat) : s.controlHeld.reg r i = s.reg r i := rfl

theorem State.controlHeld_ctxs : s.controlHeld.nim.ctxs = s.nim.ctxs := rfl

theorem State.controlHeld_armed : s.controlHeld.boot.armed = false := rfl

/-- The stage, the cause and the count of a warm reset. -/
def State.warmBegun (s : State) (cause : Nat) : State :=
  (((s.setFlag F.BOOT_PROT_LOCK 0 false).setFld F.BOOT_STAGE_STAGE 0 stageWarmBoot).setFld F.BOOT_CAUSE_CAUSE 0 cause).count .BOOT_WARMS 0 1

theorem State.warmReset_eq (cause : Nat) : s.warmReset cause = (s.controlCleared.controlHeld.warmBegun cause).refreshSum .NIM
    ((s.controlCleared.controlHeld.warmBegun cause).summary .NIM) := by
  unfold State.warmReset State.warmBegun State.controlHeld State.controlCleared
  dsimp only

theorem State.controlCleared_regs {r : Reg} (h : r ∉ .NIM_CORE_STAT :: warmCleared) (i : Nat) :
    s.controlCleared.reg r i = s.reg r i := by
  have hf : Frame ⟨[.sent, .twl, .nim, .tks], .NIM_CORE_STAT :: warmCleared⟩ s s.controlCleared :=
    .le (by decide) (.fold (.fold_mem (g := ⟨[], warmCleared⟩) (.resetCores (.branch (Frame.refl .none s).emit (.refl .none s)))
      fun u r hr hu => hu.clear.le ⟨List.nil_subset _, List.cons_subset.mpr ⟨hr, List.nil_subset _⟩⟩) fun _ _ h => h.setFld)
  exact hf.regs r i h

theorem State.controlCleared_ctxs : s.controlCleared.nim.ctxs = [] := by
  let u := (if s.mirrored then s.emit .warmAnnounce else s).resetCores
  have hclear : (warmCleared.foldl (fun (s : State) r => s.clearReg r) u).nim = u.nim :=
    foldl_keeps u (fun t : State => t.nim) (fun t r => (Frame.refl .none t).clear.parts .nim List.not_mem_nil) warmCleared
  have hcores : s.controlCleared.nim = (warmCleared.foldl (fun (s : State) r => s.clearReg r) u).nim :=
    foldl_keeps _ (fun t : State => t.nim) (fun t c => t.setFld_nim _ _ _) (List.range 16)
  rw [hcores, hclear]
  rfl

/-- A warm reset ends every context, disarms the watchdog, opens LOCK and is counted. -/
theorem State.warmReset_clears (cause : Nat) : (s.warmReset cause).nim.ctxs = [] ∧ (s.warmReset cause).boot.armed = false ∧
    (s.warmReset cause).flag F.BOOT_PROT_LOCK 0 = false ∧ (s.warmReset cause).reg .BOOT_WARMS 0 = s.counted .BOOT_WARMS 0 1 := by
  let c := s.controlCleared.controlHeld
  have hf : Frame ⟨[.host, .sent], [.GLB_INT_SUM]⟩ (c.warmBegun cause) (s.warmReset cause) := by
    rw [State.warmReset_eq]
    exact State.refreshSum_frame (.refl _ _) (by decide) (by decide)
  have hb : Frame ⟨[], [.BOOT_PROT, .BOOT_STAGE, .BOOT_CAUSE, .BOOT_WARMS]⟩ c (c.warmBegun cause) :=
    .le (by decide) (Frame.refl .none c).setFlag.setFld.setFld.count
  have hnim : (s.warmReset cause).nim = c.nim := (hf.parts .nim (by decide)).trans (hb.parts .nim (by decide))
  have hboot : (s.warmReset cause).boot = c.boot := (hf.parts .boot (by decide)).trans (hb.parts .boot (by decide))
  have hc : c.reg .BOOT_WARMS 0 = s.reg .BOOT_WARMS 0 := (State.controlHeld_reg _ _ _).trans (s.controlCleared_regs (by decide) 0)
  refine ⟨?_, ?_, ?_, ?_⟩
  · rw [hnim, State.controlHeld_ctxs]
    exact s.controlCleared_ctxs
  · rw [hboot]
    exact State.controlHeld_armed _
  · rw [hf.flag (by decide), State.warmBegun, State.flag_count_ne _ (by decide), State.flag_setFld_ne _ (by decide),
      State.flag_setFld_ne _ (by decide), State.flag_setFlag_same _ _ _ _ (by decide) rfl]
  · rw [hf.regs .BOOT_WARMS 0 (by decide), State.warmBegun, State.reg_count_counted]
    refine State.counted_congr ?_ _
    rw [State.reg_setFld_ne _ (by decide), State.reg_setFld_ne _ (by decide), State.setFlag, State.reg_setFld_ne _ (by decide), hc]

/-! ### Temperatures (R641) -/

/-- A reading is shown. -/
theorem State.showTemp_shows (sensor : Fin 64) (t : BitVec 16) :
    (s.showTemp sensor t).reg .GLB_TEMP 0 = BitVec.ofNat 64 (sensor.val * 2 ^ 24 + t.toNat) := by
  have hsensor : sensor.val % 64 = sensor.val := Nat.mod_eq_of_lt sensor.isLt
  have hlt : sensor.val * 2 ^ 24 + t.toNat < 2 ^ 32 := by omega
  have hw : (s.setReg .GLB_TEMP 0 (BitVec.ofNat 64 (sensor.val * 2 ^ 24 + t.toNat))).reg .GLB_TEMP 0 =
      BitVec.ofNat 64 (sensor.val * 2 ^ 24 + t.toNat) := by
    apply BitVec.eq_of_toNat_eq
    rw [State.toNat_reg_setReg _ rfl hlt, BitVec.toNat_ofNat, Nat.mod_eq_of_lt (hlt.trans (by decide))]
  unfold State.showTemp
  rw [hsensor]
  dsimp only
  split
  · rw [State.reg_setReg_other _ (by decide)]
    exact hw
  · exact hw

theorem State.showTemp_alarm (sensor : Nat) (t : BitVec 16) :
    (s.showTemp sensor t).fld F.GLB_TEMP_CFG_ALARM 0 = s.fld F.GLB_TEMP_CFG_ALARM 0 :=
  (Frame.refl .none s).showTemp.fld (by decide) 0

/-! ### The endpoint (R622, R627, R648) -/

/-- A flag cleared at each of the first n elements is clear there. -/
theorem State.flag_foldl_clear (f : Fld) (n : Nat) {g : State → Nat → State}
    (hhit : ∀ t q, (g t q).flag f q = false) (hkeep : ∀ t p q, t.flag f q = false → (g t p).flag f q = false) {q : Nat} (hq : q < n) :
    ((List.range n).foldl g s).flag f q = false :=
  foldl_reaches (P := fun _ => True) (Q := fun t => t.flag f q = false) (List.mem_range.mpr hq) (fun _ _ _ => .inl trivial)
    (fun t _ => hhit t q) (fun t p h => hkeep t p q h) trivial

theorem State.flag_setFlag_keeps_false (f : Fld) (hw : f.lo + f.len ≤ f.reg.width) (hl : f.len = 1) (p q : Nat)
    (h : s.flag f q = false) : (s.setFlag f p false).flag f q = false := by
  by_cases hpq : q = p
  · rw [hpq, State.flag_setFlag_same _ _ _ _ hw hl]
  · rw [State.setFlag, State.flag, State.fld, State.setFld, State.reg_setReg_index _ _ hpq]
    exact h

end Sys2Proof.Machine

end

section
/-! SUPPORT of O9: the slot that boot code picks, the stages of a cold boot, links that come up again, and the end of SPARE. -/

namespace Sys2Proof.Machine

variable (s : State)

/-! ### The slot that boot code picks (R607) -/

/-- With no slot on trial, the one bootable slot is started. -/
theorem State.selectSlot_confirmed (hb : s.bootable 0 = true) (he : (s.slot 1).state = .empty) :
    s.selectSlot = (s.raiseFloor (s.slot 0).hdr).startSlot 0 := by
  have hc : (s.slot 0).state = .confirmed := by
    rw [State.bootable, Bool.and_eq_true, beq_iff_eq] at hb
    exact hb.1
  have h0 : s.mayTry 0 = false := by rw [State.mayTry, hc]; rfl
  have h1 : s.mayTry 1 = false := by rw [State.mayTry, he]; rfl
  have hr0 : s.rejectSpent 0 = s := if_neg fun h => by rw [hc] at h; exact absurd h.1 (by decide)
  have hr1 : s.rejectSpent 1 = s := if_neg fun h => by rw [he] at h; exact absurd h.1 (by decide)
  unfold State.selectSlot
  rw [h0, h1, hr0, hr1]
  exact s.startConfirmed_first hb (by rw [State.bootable, he]; rfl)

/-- A rejected slot A stays rejected when boot code picks anew, and what failed stays shown unless no slot is left. -/
theorem State.selectSlot_rejected (h : (s.slot 0).state = .rejected) : s.selectSlot.slot 0 = s.slot 0 ∧
    (s.selectSlot.fld F.BOOT_FAIL_CODE 0 = s.fld F.BOOT_FAIL_CODE 0 ∨ s.selectSlot.bootStage = stageRecovery) := by
  have h0 : s.mayTry 0 = false := by rw [State.mayTry, h]; rfl
  by_cases h1 : s.mayTry 1 = true
  · have hsel : s.selectSlot = s.attempt 1 := s.selectSlot_trial (by decide) h1 fun _ => h0
    let u := s.setSlot 1 { s.slot 1 with attempts := (s.slot 1).attempts + 1 }
    have hf := (Frame.refl .none s).setSlot (i := 1) (x := { s.slot 1 with attempts := (s.slot 1).attempts + 1 }) |>.startSlot (i := 1)
    have hslot : (s.attempt 1).slot 0 = s.slot 0 :=
      (State.slot_congr (congrArg Upd.slotA (u.startSlot_upd 1)) (congrArg Upd.slotB (u.startSlot_upd 1)) 0).trans
        (s.setSlot_slot_ne (by decide) _)
    rw [hsel]
    exact ⟨hslot, .inl (hf.fld (by decide) 0)⟩
  · have hr0 : s.rejectSpent 0 = s := if_neg fun hc => by rw [h] at hc; exact absurd hc.1 (by decide)
    have hsel : s.selectSlot = (s.rejectSpent 1).startConfirmed := by
      unfold State.selectSlot
      rw [h0, Bool.eq_false_iff.mpr h1, hr0]
      rfl
    let u := s.rejectSpent 1
    have hu : u.slot 0 = s.slot 0 := by
      by_cases hc : (s.slot 1).state = .trial ∧ 3 ≤ (s.slot 1).attempts
      · have hkept : ((s.rejectSlot 1).awlUnstated .UPD (awlArg 1 0)).upd = (s.setSlot 1 { s.slot 1 with state := .rejected }).upd :=
          ((Frame.refl .none (s.rejectSlot 1)).awlUnstated.parts .upd (by decide)).trans (State.showUpd_upd _)
        rw [show u = _ from if_pos hc, State.slot_congr (congrArg Upd.slotA hkept) (congrArg Upd.slotB hkept),
          State.setSlot_slot_ne _ (by decide)]
      · rw [show u = s from if_neg hc]
    have hcode : u.fld F.BOOT_FAIL_CODE 0 = s.fld F.BOOT_FAIL_CODE 0 := (Frame.refl .none s).rejectSpent.fld (by decide) 0
    have hb0 : u.bootable 0 = false := by
      rw [State.bootable, hu, h]
      rfl
    have hslot : u.startConfirmed.slot 0 = u.slot 0 := by
      have hkept : u.startConfirmed.upd = u.upd := (Frame.refl .none u).startConfirmed.parts .upd (by decide)
      exact State.slot_congr (congrArg Upd.slotA hkept) (congrArg Upd.slotB hkept) 0
    rw [hsel]
    refine ⟨hslot.trans hu, ?_⟩
    by_cases hb1 : u.bootable 1 = true
    · have hstart : u.startConfirmed = (u.raiseFloor (u.slot 1).hdr).startSlot 1 := by
        unfold State.startConfirmed
        rw [hb0, hb1]
      rw [show (s.rejectSpent 1).startConfirmed = _ from hstart]
      exact .inl (((Frame.refl .none u).raiseFloor.startSlot.fld (by decide) 0).trans hcode)
    · have hstart : u.startConfirmed = u.recovery := by
        unfold State.startConfirmed
        rw [hb0, Bool.eq_false_iff.mpr hb1]
      let v := ((u.setFld F.BOOT_STAGE_STAGE 0 stageRecovery).setFlag F.UPD_STATUS_RECOVERY 0 true).setFld F.BOOT_FAIL_CODE 0 3
      have hrec : u.recovery = v.alert alertBoot := rfl
      rw [show (s.rejectSpent 1).startConfirmed = _ from hstart, hrec]
      refine .inr ?_
      rw [State.bootStage, State.alert_fld _ _ (by decide), State.fld_setFld_ne _ (by decide), State.fld_setFlag_apart _ (by decide),
        State.fld_setFld_fits _ (by decide) (by decide)]

/-- An image in slot A that fails is rejected. -/
theorem State.badSlot_shows (hr : s.runSlot = 0) : (s.badSlot.slot 0).state = .rejected ∧
    (s.badSlot.fld F.BOOT_FAIL_CODE 0 = 1 ∨ s.badSlot.bootStage = stageRecovery) := by
  let u := (s.setFld F.BOOT_FAIL_UNIT 0 s.runSlot).setFld F.BOOT_FAIL_CODE 0 1
  have hbad : s.badSlot = (u.rejectSlot 0).selectSlot :=
    show (u.rejectSlot s.runSlot).selectSlot = _ from congrArg (fun i => (u.rejectSlot i).selectSlot) hr
  have hslot : (u.rejectSlot 0).slot 0 = { u.slot 0 with state := .rejected } := by
    have hkept : (u.rejectSlot 0).upd = (u.setSlot 0 { u.slot 0 with state := .rejected }).upd := State.showUpd_upd _
    rw [State.slot_congr (congrArg Upd.slotA hkept) (congrArg Upd.slotB hkept), State.setSlot_slot]
  have hcode : (u.rejectSlot 0).fld F.BOOT_FAIL_CODE 0 = 1 :=
    ((Frame.refl .none u).rejectSlot.fld (by decide) 0).trans (State.fld_setFld_fits _ (by decide) (by decide) 0)
  obtain ⟨hkeep, hfail⟩ := (u.rejectSlot 0).selectSlot_rejected (congrArg ImgSlot.state hslot)
  rw [hbad]
  exact ⟨(congrArg ImgSlot.state hkeep).trans (congrArg ImgSlot.state hslot), hfail.imp_left fun h => h.trans hcode⟩

theorem State.badSlot_boot : s.badSlot.boot = s.boot :=
  (Frame.refl .none s).setFld.setFld.rejectSlot.selectSlot.parts .boot (by decide)

/-! ### Stages of a cold boot (R562, R569, R629) -/

/-- The end of ROM: the retention SRAM checked, and the counts taken. -/
def State.romDone (s : State) (retentionOk : Bool) : State :=
  let ok := retentionOk && !s.boot.retLost
  let s := s.setBoot { s.boot with retLost := !ok }
  let s := s.setFlag F.INS_RET_STAT_CHECK_OK 0 ok
  let s := s.takeCounts
  let s := s.setBoot { s.boot with retLost := false }
  let s := if ok then s else (s.setAwl { s.awl with staged := [], lastWords := [] }).setFlag F.AWL_STATUS_RETENTION_LOST 0 true
  (s.stageEnds 0).setFld F.BOOT_STAGE_STAGE 0 stageVerify

theorem exec_bootRomDone_rom {s : State} (hr : s.host.inReset = false) (hs : s.bootStage = stageRom) (ok : Bool) :
    exec (.bootRomDone ok) s = .next (s.romDone ok).selectSlot.showUpd :=
  congrArg Host.Outcome.next (if_neg (by rw [hr, hs]; decide))

theorem State.romDone_keeps (ok : Bool) :
    Frame ⟨[.boot, .keep, .awl], [.INS_RET_STAT, .INS_OPSEC, .INS_PCYCLES, .AWL_STATUS, .BOOT_TIME, .BOOT_STAGE]⟩ s (s.romDone ok) := by
  unfold State.romDone
  extract_lets ok' _ s1 s2 s3 _ s4 s5
  have h4 : Frame ⟨[.boot, .keep], [.INS_RET_STAT, .INS_OPSEC, .INS_PCYCLES]⟩ s s4 :=
    .le (by decide) (Frame.refl .none s).setBoot.setFlag.takeCounts.setBoot
  exact .le (by decide) (.setFld (.stageEnds (.branch h4 h4.setAwl.setFlag)))

theorem State.romDone_shows (retentionOk : Bool) : (s.romDone retentionOk).bootStage = stageVerify ∧
    (s.romDone retentionOk).flag F.INS_RET_STAT_CHECK_OK 0 = (retentionOk && !s.boot.retLost) ∧
    (s.romDone retentionOk).boot.retLost = false := by
  unfold State.romDone
  extract_lets ok _ s1 s2 s3 _ s4 _ s5
  have h5 : Frame ⟨[.awl], [.AWL_STATUS, .BOOT_TIME, .BOOT_STAGE]⟩ s4 ((s5.stageEnds 0).setFld F.BOOT_STAGE_STAGE 0 stageVerify) :=
    .le (by decide) (.setFld (.stageEnds (.branch (Frame.refl .none s4) (Frame.refl .none s4).setAwl.setFlag)))
  have h4 : Frame ⟨[.keep, .boot], [.INS_OPSEC, .INS_PCYCLES]⟩ s2 s4 := .le (by decide) (Frame.refl .none s2).takeCounts.setBoot
  refine ⟨State.fld_setFld_fits _ (by decide) (by decide) 0, ?_, congrArg Boot.retLost (h5.parts .boot (by decide))⟩
  rw [h5.flag (by decide), h4.flag (by decide)]
  exact State.flag_setFlag_same _ _ _ _ (by decide) rfl

/-- Boot code's registers, and the watchdog armed (R628, R630). -/
theorem State.lockDown_shows (b : BootData) : (s.lockDown b).flag F.BOOT_PROT_LOCK 0 = true ∧ (s.lockDown b).boot.armed = true ∧
    (s.lockDown b).reg .NTM_CLOCKID 0 = b.clockId ∧ (s.lockDown b).boot.warmHeld = s.boot.warmHeld := by
  unfold State.lockDown
  extract_lets s1 s2 s3 lib _ s4
  have h4 : s4.reg .NTM_CLOCKID 0 = b.clockId := by
    change s3.reg .NTM_CLOCKID 0 = _
    have hones : BitVec.ofNat 64 Reg.NTM_CLOCKID.info.mask = BitVec.allOnes 64 := by decide
    change (s2.setReg .NTM_CLOCKID 0 ((s2.reg .NTM_CLOCKID 0 &&& ~~~BitVec.ofNat 64 Reg.NTM_CLOCKID.info.mask) |||
      (b.clockId &&& BitVec.ofNat 64 Reg.NTM_CLOCKID.info.mask))).reg .NTM_CLOCKID 0 = _
    rw [State.reg_setReg_same, Reg.fit_wide rfl, hones, BitVec.not_allOnes, BitVec.and_zero, BitVec.zero_or, BitVec.and_allOnes]
  refine ⟨?_, rfl, ?_, rfl⟩
  · rw [State.setBoot_flag]
    exact State.flag_setFlag_same _ _ _ _ (by decide) rfl
  · rw [State.setBoot_reg, State.setFlag, State.reg_setFld_ne _ (by decide)]
    exact h4

/-- What the start of the Awl changes (R587). -/
theorem State.startAwl_keeps : Frame ⟨[.awl, .host, .sent], .AWL_HEAD :: .AWL_COUNT :: .AWL_OLDEST :: .GLB_INT_SUM :: awlFoot⟩ s
    s.startAwl := by
  unfold State.startAwl
  extract_lets s1 newest s2 s3 s4
  have h1 : Frame ⟨[], [.AWL_HEAD, .AWL_COUNT, .AWL_OLDEST]⟩ s s1 := .le (by decide) (Frame.refl .none s).findHead
  clear_value s1
  have h3 : Frame ⟨[.awl], [.AWL_HEAD, .AWL_COUNT, .AWL_OLDEST]⟩ s s3 := by
    dsimp only [s3]
    split
    · exact .le (by decide) (.branch h1.setAwl h1)
    · exact .le (by decide) h1
  have h4 : Frame ⟨[.awl, .host, .sent], .AWL_HEAD :: .AWL_COUNT :: .AWL_OLDEST :: .GLB_INT_SUM :: awlFoot⟩ s s4 :=
    .le (by decide) (.branch h3.awlPersist h3)
  exact .le (by decide) h4.showStaged

/-! ### Links come up again (R629) -/

/-- A link that identifies itself leaves the states of the others. -/
theorem State.startIdent_lkState_ne {j k : Nat} (h : j ≠ k) : (s.startIdent k).lkState j = s.lkState j := by
  rw [State.startIdent_eq, State.lkState, State.emit_fld, State.identStarted, State.setLink_fld,
    State.fld_setFld_other _ _ (.inr h), State.setFlag, State.fld_setFld_other _ _ (.inr h), State.fld_setFld_other _ _ (.inr h),
    State.fld_setFld_other _ _ (.inr h), State.setLkState, State.fld_setFld_other _ _ (.inr h)]
  exact (State.fld_setReg_ne _ (by decide) _ _ _).trans (State.fld_setFld_other _ _ (.inr h))

theorem State.startIdent_keeps_ident {j : Nat} (k : Nat) (h : s.lkState j = lkIdent) : (s.startIdent k).lkState j = lkIdent := by
  by_cases hjk : j = k
  · rw [hjk]
    exact (s.startIdent_shows k).1
  · rw [s.startIdent_lkState_ne hjk, h]

/-! ### The end of SPARE (R553, R635) -/

theorem State.startClk_keeps (d : Nat) : Frame ⟨[.boot], [.INS_PLL_STARTS]⟩ s (s.startClk d) := by
  unfold State.startClk
  split
  · exact .le (by decide) (.fold (Frame.refl .none s).setClk fun _ _ h => h.serveClk)
  · exact .le (by decide) (Frame.refl .none s).setClk
  · exact .le (by decide) (Frame.refl .none s)

theorem Frame.clkStarted {f : Foot} {a b : State} {d : Nat} (h : Frame f a b) :
    Frame (f.plus ⟨[.boot], [.INS_PLL_STARTS]⟩) a (b.startClk d) := h.plus (b.startClk_keeps d)

theorem State.requestClk_keeps (d : Nat) : Frame ⟨[.boot], [.INS_CLK_REQ, .INS_PLL_STARTS]⟩ s (s.requestClk d) :=
  .le (by decide) (Frame.refl .none s).setFlag.clkStarted

theorem Frame.clkRequested {f : Foot} {a b : State} {d : Nat} (h : Frame f a b) :
    Frame (f.plus ⟨[.boot], [.INS_CLK_REQ, .INS_PLL_STARTS]⟩) a (b.requestClk d) := h.plus (b.requestClk_keeps d)

/-- A flag of one bit, wherever it lies in its register, stays set when a bit of that register is set. -/
theorem State.flag_setFlag_bit {r : Reg} {d : Nat} (hd : d + 1 ≤ r.width) (e : Nat) (i : Nat) (h : s.flag ⟨r, d, 1⟩ i = true) :
    (s.setFlag ⟨r, e, 1⟩ i true).flag ⟨r, d, 1⟩ i = true := by
  by_cases hde : d = e
  · subst hde
    exact State.flag_setFlag_same _ _ _ _ hd rfl
  · have hapart : d + 1 ≤ e ∨ e + 1 ≤ d := by omega
    exact (State.flag_setFlag_disjoint s (f := ⟨r, e, 1⟩) (g := ⟨r, d, 1⟩) i true rfl hapart hd).trans h

theorem State.requestClk_reqReg (d : Nat) :
    (s.requestClk d).reg .INS_CLK_REQ 0 = (s.setFlag ⟨.INS_CLK_REQ, d, 1⟩ 0 true).reg .INS_CLK_REQ 0 :=
  (State.startClk_keeps _ d).regs .INS_CLK_REQ 0 (by decide)

/-- A requested domain shows its request. -/
theorem State.requestClk_shows {d : Nat} (hd : d + 1 ≤ Reg.INS_CLK_REQ.width) :
    (s.requestClk d).flag ⟨.INS_CLK_REQ, d, 1⟩ 0 = true := by
  rw [State.flag, State.fld, s.requestClk_reqReg]
  exact State.flag_setFlag_same s ⟨.INS_CLK_REQ, d, 1⟩ 0 true hd rfl

theorem State.requestClk_keeps_req {d : Nat} (hd : d + 1 ≤ Reg.INS_CLK_REQ.width) (e : Nat)
    (h : s.flag ⟨.INS_CLK_REQ, d, 1⟩ 0 = true) : (s.requestClk e).flag ⟨.INS_CLK_REQ, d, 1⟩ 0 = true := by
  rw [State.flag, State.fld, s.requestClk_reqReg]
  exact s.flag_setFlag_bit hd e 0 h

theorem State.laceUnhold_keeps (k : Nat) : Frame ⟨[.net, .sent], [.WLT_LK_STAT, .TWL_LK_STAT]⟩ s (s.laceUnhold k) :=
  .le (by decide) (.branch (Frame.refl .none s).setLkState.emit.carry (.refl .none s))

theorem Frame.unheld {f : Foot} {a b : State} {k : Nat} (h : Frame f a b) :
    Frame (f.plus ⟨[.net, .sent], [.WLT_LK_STAT, .TWL_LK_STAT]⟩) a (b.laceUnhold k) := h.plus (b.laceUnhold_keeps k)

/-- The part awake, before it asks for its clocks. -/
def State.awake (s : State) (assumed : Bool) : State :=
  (s.setFld F.INS_STATE_STATE 0 powerActive).wake (if assumed then wakeAssume else wakeMode)

/-- The domains that SPARE had stopped. -/
def State.demandClks (s : State) : State :=
  ((List.range 27).filter fun d => !spareDomains.contains d).foldl (fun (s : State) d => s.requestClk d) s

/-- The links out of HOLD, and the identity that was assumed. -/
def State.spareLeft (s : State) (assumed : Bool) : State :=
  let s := (List.range 16).foldl (fun (s : State) k => s.laceUnhold k) s
  if assumed then s.setFld F.RSL_SPARE_STAT_STATE 0 spareAssumed else s

theorem exec_spareExit_spare {s : State} (h : s.power = powerSpare) (assumed : Bool) :
    exec (.spareExit assumed) s = .next ((s.awake assumed).demandClks.spareLeft assumed) :=
  congrArg Host.Outcome.next (if_neg (not_not_intro h))

theorem State.spareLeft_keeps (assumed : Bool) :
    Frame ⟨[.net, .sent], [.WLT_LK_STAT, .TWL_LK_STAT, .RSL_SPARE_STAT]⟩ s (s.spareLeft assumed) :=
  have h := Frame.fold (Frame.refl .none s) (l := List.range 16) (g := ⟨[.net, .sent], [.WLT_LK_STAT, .TWL_LK_STAT]⟩)
    (k := fun (s : State) k => s.laceUnhold k) fun _ _ h => .le (by decide) h.unheld
  .le (by decide) (.branch (c := assumed = true) h.setFld h)

theorem State.demandClks_keeps : Frame ⟨[.boot], [.INS_CLK_REQ, .INS_PLL_STARTS]⟩ s s.demandClks :=
  .le (by decide) (.fold (Frame.refl .none s) fun _ _ h => h.clkRequested)

theorem State.demandClks_shows {d : Nat} (hlo : 10 ≤ d) (hhi : d < 27) : s.demandClks.flag ⟨.INS_CLK_REQ, d, 1⟩ 0 = true := by
  have hd : d + 1 ≤ Reg.INS_CLK_REQ.width := show d + 1 ≤ 32 by omega
  have hmem : d ∈ (List.range 27).filter fun d => !spareDomains.contains d := by
    simp [spareDomains]
    omega
  exact foldl_reaches (P := fun _ => True) (Q := fun t => t.flag ⟨.INS_CLK_REQ, d, 1⟩ 0 = true) hmem (fun _ _ _ => .inl trivial)
    (fun t _ => t.requestClk_shows hd) (fun t e h => t.requestClk_keeps_req hd e h) trivial

theorem State.awake_shows (assumed : Bool) : (s.awake assumed).power = powerActive ∧
    (s.awake assumed).fld F.INS_STATE_WAKE 0 = if assumed then wakeAssume else wakeMode := by
  obtain ⟨hwake, hpower⟩ := (s.setFld F.INS_STATE_STATE 0 powerActive).wake_shows
    (src := if assumed then wakeAssume else wakeMode) (by cases assumed <;> decide)
  exact ⟨hpower.trans (State.fld_setFld_fits _ (by decide) (by decide) 0), hwake⟩

end Sys2Proof.Machine

end

section
/-! SUPPORT of O9: settings that are restored leave the control plane held in its warm reset. -/

namespace Sys2Proof.Machine

/-! ### What leaves the record of the boot alone -/

section

variable {e f g : Foot} {s₀ s t : State}

/-- All of the state but the queue, the count of Insole periods and the record of the boot. -/
def unbootedFoot : Foot := ⟨queueFoot.parts.filter (· != .boot), Reg.every⟩

/-- A footprint leaves the queue, the count of periods and the record of the boot alone. -/
def Foot.unbooted (f : Foot) : Bool := f.quiet && !f.parts.contains .boot

theorem Foot.within_unbooted (h : e.unbooted = true) : e.within unbootedFoot := by
  obtain ⟨hquiet, hboot⟩ := Bool.and_eq_true_iff.mp h
  refine ⟨fun p hp => List.mem_filter.mpr ⟨(Foot.within_queue hquiet).1 hp, bne_iff_ne.mpr ?_⟩, fun r _ => r.mem_every⟩
  rintro rfl
  simp [hp] at hboot

theorem Frame.unbooted (h : Frame e s₀ s) (hq : e.unbooted = true) : Frame unbootedFoot s₀ s := h.le (Foot.within_unbooted hq)

theorem Frame.opUnbooted (h : Frame f s₀ s) (k : Frame .none s s → Frame e s t) (hq : e.unbooted = true) :
    Frame (f.plus unbootedFoot) s₀ t :=
  h.plus ((k (.refl _ s)).unbooted hq)

theorem OkFrame.unbooted {ε : Type} {x : Except ε State} (h : OkFrame e s₀ x) (hq : e.unbooted = true) : OkFrame unbootedFoot s₀ x :=
  h.le (Foot.within_unbooted hq)

/-- What leaves the record of the boot alone holds the control plane in a warm reset as before. -/
theorem Frame.warmHeld (h : Frame e s₀ s) (hq : e.unbooted = true) : s.boot.warmHeld = s₀.boot.warmHeld :=
  congrArg Boot.warmHeld ((h.unbooted hq).parts .boot (by decide))

theorem writeTwdCtrl_unbooted (src : Requester) (v : Word) : Frame unbootedFoot s (s.writeTwdCtrl src v) := by
  unfold State.writeTwdCtrl
  refine .unbooted (.guarded (g := unbootedFoot) (Frame.refl .none s) fun u h => ?_) rfl
  extract_lets s1 s2 s3 s4
  have h1 : Frame unbootedFoot u s1 := h.store.unbooted rfl
  have h2 : Frame unbootedFoot u s2 := h1.setFlag.setFlag.unbooted rfl
  have h3 : Frame unbootedFoot u s3 := .unbooted (.fold h2 fun _ _ h => .branch h.setFld (.branch h.setFld h)) rfl
  have h4 : Frame unbootedFoot u s4 := .unbooted (.branch (.fold h3 fun _ _ h => h.killCore) h3) rfl
  exact .unbooted (.branch h1.setFlag.setFlag h4.twdIdle) rfl

theorem aspDrain_unbooted (tx : Bool) (n : Nat) : Frame unbootedFoot s (s.aspDrain tx n) :=
  .unbooted (Frame.refl .none s).setSect.setFlag.setAspState rfl

theorem aspBegin_unbooted (tx : Bool) (n : Nat) : Frame unbootedFoot s (s.aspBegin tx n) :=
  .unbooted (.branch (Frame.refl .none s).setSect.setAspState (Frame.refl .none s).setSect.setAspState) rfl

theorem aspChecks_unbooted (tx : Bool) (n : Nat) (cfg : Word) (rate : Bool) : OkFrame unbootedFoot s (s.aspChecks tx n cfg rate) := by
  have h := Frame.refl .none s
  unfold State.aspChecks
  extract_lets
  split
  · exact .unbooted .error rfl
  · split
    · exact .unbooted .error rfl
    · split
      · exact .unbooted .error rfl
      · split
        · exact .unbooted .error rfl
        · split
          · exact .unbooted .error rfl
          · rename_i e
            exact .unbooted (.ok (h.aspReserve _ e)) rfl

theorem aspRearm_unbooted (tx : Bool) (n : Nat) (rate : Bool) : Frame unbootedFoot s (s.aspRearm tx n rate) := by
  unfold State.aspRearm
  split
  · exact (Frame.refl .none s).setFld.answer.unbooted rfl
  · rename_i e
    exact (aspChecks_unbooted _ _ _ _ _ e).setFlag.setFld.setSect.setAspState.answer.unbooted rfl

theorem writeAspCtrl_unbooted (src : Requester) (v : Word) : Frame unbootedFoot s (s.writeAspCtrl src v) :=
  .unbooted (.guarded (Frame.refl .none s) fun _ h => .branch h.store.setFlag.setFlag (.aspIdle (.branch
    (.eachSect h.store.setFlag.setFlag fun _ _ _ h => h.aspStop)
    (.eachSect h.store.setFlag.setFlag fun _ tx n h => .branch h (h.plus (aspDrain_unbooted tx n)))))) rfl

theorem writeAspCfg_unbooted (src : Requester) (tx : Bool) (n : Nat) (v : Word) : Frame unbootedFoot s (s.writeAspCfg src tx n v) := by
  unfold State.writeAspCfg
  refine .unbooted (.guarded (g := unbootedFoot) (Frame.refl .none s) fun u h => ?_) rfl
  extract_lets _ _ _ _ _ s2
  have h2 : Frame unbootedFoot u s2 := h.store.unbooted rfl
  split
  · exact h.aspStop.answer.unbooted rfl
  · split
    · exact h.refuse.unbooted rfl
    · split
      · exact h.refuse.unbooted rfl
      · split
        · exact h.refuse.unbooted rfl
        · split
          · split
            · exact h.refuse.unbooted rfl
            · split
              · exact h.store.unbooted rfl
              · split
                · exact h.refuse.unbooted rfl
                · split
                  · exact h.refuse.unbooted rfl
                  · rename_i e
                    exact ((aspChecks_unbooted _ _ _ _ _ e).store.plus (aspBegin_unbooted _ _)).unbooted rfl
          · exact .unbooted (.branch (h2.plus (aspDrain_unbooted _ _)) (.branch (h2.plus (aspRearm_unbooted _ _ _)) h2)) rfl

theorem writeImem_unbooted (src : Requester) (c a : Nat) (v : Word64) : Frame unbootedFoot s (s.writeImem src c a v) :=
  .unbooted (.branch (Frame.refl .none s).irq (Frame.refl .none s).setTwd.answer) rfl

theorem writeLut_unbooted (src : Requester) (out : Bool) (v i : Nat) (w : Word32) : Frame unbootedFoot s (s.writeLut src out v i w) :=
  .unbooted (.guarded (Frame.refl .none s) fun _ h => .branch h.irq.refuse h.setPipe.answer) rfl

end

variable (s : State)

/-! ### Restored settings hold the control plane in a warm reset as before (R579, R580) -/

theorem State.setClk_warmHeld (d : Nat) (c : ClkRun) : (s.setClk d c).boot.warmHeld = s.boot.warmHeld := rfl

theorem State.count_warmHeld (r : Reg) (i n : Nat) : (s.count r i n).boot.warmHeld = s.boot.warmHeld :=
  (Frame.refl .none s).count.warmHeld rfl

theorem State.serveClk_warmHeld (d : Nat) : (s.serveClk d).boot.warmHeld = s.boot.warmHeld := by
  unfold State.serveClk
  split
  · split
    · exact State.count_warmHeld _ _ _ _
    · rfl
  · rfl

theorem State.serveClks_warmHeld : s.serveClks.boot.warmHeld = s.boot.warmHeld := by
  unfold State.serveClks
  generalize List.range 27 = l
  exact foldl_keeps s (fun t => t.boot.warmHeld) (fun t d => t.serveClk_warmHeld d) l

theorem State.startClk_warmHeld (d : Nat) : (s.startClk d).boot.warmHeld = s.boot.warmHeld := by
  unfold State.startClk
  split
  · exact State.serveClks_warmHeld _
  · rfl
  · rfl

theorem State.store_warmHeld (r : Reg) (i : Nat) (v : Word) : (s.store r i v).boot.warmHeld = s.boot.warmHeld :=
  (Frame.refl .none s).store.warmHeld rfl

theorem State.discardHost_warmHeld (b : Blk) : (s.discardHost b).boot.warmHeld = s.boot.warmHeld :=
  (Frame.refl .none s).discardHost.warmHeld rfl

theorem State.writeClkForce_warmHeld (src : Requester) (v : Word) :
    (s.writeClkForce src v).boot.warmHeld = s.boot.warmHeld := by
  unfold State.writeClkForce State.guarded
  split
  · split
    · exact s.discardHost_warmHeld _
    · rfl
  · exact (foldl_keeps _ (fun t => t.boot.warmHeld) (fun t d => t.startClk_warmHeld d) _).trans (s.store_warmHeld _ _ _)

/-- A register that is not its block's interrupt status or enable. -/
def Reg.ownRule (r : Reg) : Bool := r.info.blk.intStat != some r && r.info.blk.intEn != some r

theorem State.writeReg_data {r : Reg} (ho : r.ownRule = true) (hb : r.info.blk = .ING ∨ r.info.blk = .TWL ∨ r.info.blk = .EGR)
    (src : Requester) (e : BusEnv) (i : Nat) (v : Word) : s.writeReg src e r i v = s.writeData src e r i v := by
  obtain ⟨hstat, hen⟩ := Bool.and_eq_true_iff.mp ho
  unfold State.writeReg
  dsimp only
  rw [if_neg (bne_iff_ne.mp hstat), if_neg (bne_iff_ne.mp hen)]
  rcases hb with hb | hb | hb <;> rw [hb]

theorem State.writeReg_cores {r : Reg} (ho : r.ownRule = true)
    (hb : r.info.blk = .NIM ∨ r.info.blk = .TWD ∨ r.info.blk = .ASP ∨ r.info.blk = .VMP)
    (src : Requester) (e : BusEnv) (i : Nat) (v : Word) : s.writeReg src e r i v = s.writeCores src e r i v := by
  obtain ⟨hstat, hen⟩ := Bool.and_eq_true_iff.mp ho
  unfold State.writeReg
  dsimp only
  rw [if_neg (bne_iff_ne.mp hstat), if_neg (bne_iff_ne.mp hen)]
  rcases hb with hb | hb | hb | hb <;> rw [hb]

theorem State.writeReg_timing {r : Reg} (ho : r.ownRule = true)
    (hb : r.info.blk = .LST ∨ r.info.blk = .NTM ∨ r.info.blk = .WLT ∨ r.info.blk = .NPT)
    (src : Requester) (e : BusEnv) (i : Nat) (v : Word) : s.writeReg src e r i v = s.writeTiming src e r i v := by
  obtain ⟨hstat, hen⟩ := Bool.and_eq_true_iff.mp ho
  unfold State.writeReg
  dsimp only
  rw [if_neg (bne_iff_ne.mp hstat), if_neg (bne_iff_ne.mp hen)]
  rcases hb with hb | hb | hb | hb <;> rw [hb]

theorem State.writeReg_keep {r : Reg} (ho : r.ownRule = true)
    (hb : r.info.blk = .RSL ∨ r.info.blk = .AWL ∨ r.info.blk = .SET ∨ r.info.blk = .UPD ∨ r.info.blk = .GLB ∨ r.info.blk = .BOOT ∨
      r.info.blk = .INS)
    (src : Requester) (e : BusEnv) (i : Nat) (v : Word) : s.writeReg src e r i v = s.writeKeep src e r i v := by
  obtain ⟨hstat, hen⟩ := Bool.and_eq_true_iff.mp ho
  unfold State.writeReg
  dsimp only
  rw [if_neg (bne_iff_ne.mp hstat), if_neg (bne_iff_ne.mp hen)]
  rcases hb with hb | hb | hb | hb | hb | hb | hb <;> rw [hb]

/-- The write of a register that is restored late holds the control plane as before. -/
theorem State.writeReg_late_warmHeld {r : Reg} (hr : r ∈ lateRegs) (src : Requester) (e : BusEnv) (i : Nat) (v : Word) :
    (s.writeReg src e r i v).boot.warmHeld = s.boot.warmHeld := by
  have h := Frame.refl .none s
  simp only [lateRegs, List.mem_cons, List.not_mem_nil, or_false] at hr
  rcases hr with rfl | rfl | rfl | rfl | rfl | rfl | rfl | rfl | rfl | rfl | rfl | rfl | rfl | rfl | rfl | rfl | rfl | rfl | rfl |
    rfl | rfl | rfl | rfl | rfl | rfl | rfl | rfl | rfl | rfl | rfl | rfl | rfl | rfl | rfl | rfl | rfl | rfl
  · rw [s.writeReg_keep (by decide) (by decide)]
    exact s.writeClkForce_warmHeld src v
  · rw [s.writeReg_timing (by decide) (by decide)]
    exact h.writeLstCtrl.warmHeld rfl
  · rw [s.writeReg_timing (by decide) (by decide)]
    exact h.writeRefCfg.warmHeld rfl
  · rw [s.writeReg_timing (by decide) (by decide)]
    exact h.writeSteer.warmHeld rfl
  · rw [s.writeReg_timing (by decide) (by decide)]
    exact h.writeNptCtrl.warmHeld rfl
  · rw [s.writeReg_timing (by decide) (by decide)]
    exact h.writeGrpCfg.warmHeld rfl
  · rw [s.writeReg_timing (by decide) (by decide)]
    exact h.writePortCfg.warmHeld rfl
  · rw [s.writeReg_timing (by decide) (by decide)]
    exact h.writeEee.warmHeld rfl
  · rw [s.writeReg_timing (by decide) (by decide)]
    exact h.writeNtmCtrl.warmHeld rfl
  · rw [s.writeReg_timing (by decide) (by decide)]
    exact h.writeInst.warmHeld rfl
  · rw [s.writeReg_timing (by decide) (by decide)]
    exact h.writePtpPort.warmHeld rfl
  · rw [s.writeReg_timing (by decide) (by decide)]
    exact h.writeTbCfg.warmHeld rfl
  · rw [s.writeReg_timing (by decide) (by decide)]
    exact h.writeLaneCfg.warmHeld rfl
  · rw [s.writeReg_data (by decide) (by decide)]
    exact h.writeIngCtrl.warmHeld rfl
  · rw [s.writeReg_data (by decide) (by decide)]
    exact h.writeTwlCtrl.warmHeld rfl
  · rw [s.writeReg_data (by decide) (by decide)]
    exact h.writeEgrCtrl.warmHeld rfl
  · rw [s.writeReg_data (by decide) (by decide)]
    exact h.writeOtdCfg.warmHeld rfl
  · rw [s.writeReg_data (by decide) (by decide)]
    exact h.writeSdiCfg.warmHeld rfl
  · rw [s.writeReg_data (by decide) (by decide)]
    exact h.writePktVid.warmHeld rfl
  · rw [s.writeReg_data (by decide) (by decide)]
    exact h.writeAfl.warmHeld rfl
  · rw [s.writeReg_data (by decide) (by decide)]
    exact h.writeAnf.warmHeld rfl
  · rw [s.writeReg_data (by decide) (by decide)]
    exact h.writeInCfg.warmHeld rfl
  · rw [s.writeReg_cores (by decide) (by decide)]
    exact (writeTwdCtrl_unbooted src v).warmHeld rfl
  · rw [s.writeReg_cores (by decide) (by decide)]
    exact (writeAspCtrl_unbooted src v).warmHeld rfl
  · rw [s.writeReg_cores (by decide) (by decide)]
    exact (writeAspCfg_unbooted src true i v).warmHeld rfl
  · rw [s.writeReg_cores (by decide) (by decide)]
    exact (writeAspCfg_unbooted src false i v).warmHeld rfl
  · rw [s.writeReg_cores (by decide) (by decide)]
    exact h.writeVmpCtrl.warmHeld rfl
  · rw [s.writeReg_cores (by decide) (by decide)]
    exact h.writePipeCfg.warmHeld rfl
  · rw [s.writeReg_data (by decide) (by decide)]
    exact h.writeOutCfg.warmHeld rfl
  · rw [s.writeReg_data (by decide) (by decide)]
    exact h.writeVsndSrc.warmHeld rfl
  · rw [s.writeReg_data (by decide) (by decide)]
    exact h.writeVsndCfg.warmHeld rfl
  · rw [s.writeReg_data (by decide) (by decide)]
    exact h.writeAsndCfg.warmHeld rfl
  · rw [s.writeReg_data (by decide) (by decide)]
    exact h.writeXsndCfg.warmHeld rfl
  · rw [s.writeReg_data (by decide) (by decide)]
    exact h.writeJoin.warmHeld rfl
  · rw [s.writeReg_timing (by decide) (by decide)]
    exact h.writeTrg.warmHeld rfl
  · rw [s.writeReg_timing (by decide) (by decide)]
    exact h.writeCap.warmHeld rfl
  · rw [s.writeReg_cores (by decide) (by decide)]
    exact h.writeNimCtrl.warmHeld rfl

theorem State.lateWrite_warmHeld {e : Reg × Nat × Word} (he : e.1 ∈ lateRegs) :
    (s.lateWrite e).boot.warmHeld = s.boot.warmHeld := by
  have hwrite := State.writeReg_late_warmHeld (s.answer .OK) he .mgmt default e.2.1 e.2.2
  unfold State.lateWrite
  extract_lets t
  split
  · exact hwrite
  · exact hwrite

theorem State.runLater_warmHeld : s.runLater.boot.warmHeld = s.boot.warmHeld := by
  unfold State.runLater
  extract_lets l ans s1 s2
  refine List.foldlRecOn (motive := fun t : State => t.boot.warmHeld = s.boot.warmHeld) lateRegs _ rfl fun t ht r hr => ?_
  refine List.foldlRecOn (motive := fun t : State => t.boot.warmHeld = s.boot.warmHeld) _ _ ht fun u hu e he => ?_
  have her : e.1 ∈ lateRegs := beq_iff_eq.mp (List.mem_filter.mp he).2 ▸ hr
  exact (u.lateWrite_warmHeld her).trans hu

theorem State.restoreReg_warmHeld (r : Reg) (i : Nat) (v : Word) : (s.restoreReg r i v).boot.warmHeld = s.boot.warmHeld := by
  have hmark : (s.markReg r i).boot.warmHeld = s.boot.warmHeld := (Frame.refl .none s).markReg.warmHeld rfl
  unfold State.restoreReg
  extract_lets t
  split
  · exact hmark
  · exact ((Frame.refl .none t).rawSet.warmHeld rfl).trans hmark

theorem State.restoreRows_warmHeld (t : Tbl (Tbl Word)) (ok : Reg → Bool) :
    (s.restoreRows t ok).boot.warmHeld = s.boot.warmHeld := by
  refine foldl_keeps s (fun t => t.boot.warmHeld) (fun u row => ?_) t
  split
  · rfl
  · split
    · exact foldl_keeps u (fun t => t.boot.warmHeld) (fun u e => u.restoreReg_warmHeld _ _ _) _
    · rfl

theorem State.restoreWin_warmHeld (w : Win) (v : Word32) : (s.restoreWin w v).boot.warmHeld = s.boot.warmHeld := by
  cases w
  case imem c a high => exact (writeImem_unbooted _ _ _ _).warmHeld rfl
  case lut out p i => exact (writeLut_unbooted _ _ _ _ _).warmHeld rfl
  case shadow => rfl
  case cal | peek | layer => rfl

theorem State.restoreStore_warmHeld (ok : Reg → Bool) (a : Nat) (v : Word) :
    (s.restoreStore ok a v).boot.warmHeld = s.boot.warmHeld := by
  unfold State.restoreStore
  split
  · split
    · exact s.restoreWin_warmHeld _ _
    · rfl
  · split
    · rfl
    · split
      · rfl
      · split
        · exact s.restoreReg_warmHeld _ _ _
        · split
          · exact s.restoreReg_warmHeld _ _ _
          · exact s.restoreReg_warmHeld _ _ _

theorem State.pickSnap_warmHeld (converted : Bool) : (s.pickSnap converted).2.boot.warmHeld = s.boot.warmHeld := by
  have h := (Frame.refl .none s).setFlag (r := .SET_STATUS) (lo := F.SET_STATUS_CONVERT_FAIL.lo)
    (w := F.SET_STATUS_CONVERT_FAIL.len) (i := 0) (b := false)
  unfold State.pickSnap
  extract_lets _ s1
  split
  · exact h.setFld.setFlag.showSnap.warmHeld rfl
  · split
    · exact h.setFld.setFlag.warmHeld rfl
    · split
      · exact h.setKeep.setFld.setFlag.showSnap.warmHeld rfl
      · exact h.setFlag.setKeep.warmHeld rfl

theorem State.restoreSettings_warmHeld (converted mems : Bool) (ok : Reg → Bool) :
    (s.restoreSettings converted mems ok).boot.warmHeld = s.boot.warmHeld := by
  unfold State.restoreSettings
  extract_lets s1 s2 _ _ _ _ _ s3 s4 s5 _ s6
  have h2 : s2.boot.warmHeld = s.boot.warmHeld := s.pickSnap_warmHeld converted
  have h3 : s3.boot.warmHeld = s2.boot.warmHeld := by
    dsimp only [s3]
    split
    · split <;> rfl
    · rfl
  have h4 : s4.boot.warmHeld = s3.boot.warmHeld := by
    dsimp only [s4]
    split
    · exact s3.restoreRows_warmHeld _ _
    · rfl
  have h5 : s5.boot.warmHeld = s4.boot.warmHeld :=
    foldl_keeps s4 (fun t => t.boot.warmHeld) (fun t d => foldl_keeps t (fun t => t.boot.warmHeld)
      (fun t e => t.restoreStore_warmHeld _ _ _) _) _
  have hs5 : s5.boot.warmHeld = s.boot.warmHeld := h5.trans (h4.trans (h3.trans h2))
  split
  · exact ((Frame.refl .none s5).showDeltas.warmHeld rfl).trans hs5
  · exact ((Frame.refl .none s6).count.awlPersist.showDeltas.warmHeld rfl).trans hs5

end Sys2Proof.Machine

end

section
/-! O9: power, resets, the boot stages and the endpoint. -/

namespace Sys2Proof.Machine

variable (s : State)

/-! ### The end of a warm reset (R633) -/

theorem State.emit_warm (m : OutMsg) : (s.emit m).nim.warm = s.nim.warm := rfl

theorem State.raiseVector_warm (v : Nat) : (s.raiseVector v).nim.warm = s.nim.warm :=
  congrArg Nim.warm ((Frame.refl .none s).raiseVector.parts .nim (by decide))

theorem State.writeCq_warm (q : Nat) (r : CqRecord) : (s.writeCq q r).nim.warm = s.nim.warm := by
  unfold State.writeCq
  extract_lets n i phase s1 s2 _ s3
  refine (State.raiseVector_warm _ _).trans ?_
  dsimp only [s3]
  split
  · rfl
  · rfl

theorem State.dropRecord_warm : s.dropRecord.nim.warm = s.nim.warm :=
  congrArg Nim.warm ((Frame.refl .none s).count.irq.parts .nim (by decide))

theorem State.postRecord_warm (q : Nat) (r : CqRecord) : (s.postRecord q r).nim.warm = s.nim.warm := by
  unfold State.postRecord
  split
  · split
    · rfl
    · rfl
  · split
    · exact s.writeCq_warm q r
    · split
      · rfl
      · exact s.dropRecord_warm

theorem State.setFld_warm (f : Fld) (i v : Nat) : (s.setFld f i v).nim.warm = s.nim.warm := congrArg Nim.warm (s.setFld_nim f i v)

theorem State.postDone_warm (k : Key) : (s.postDone k).nim.warm = s.nim.warm := by
  unfold State.postDone
  split
  · rfl
  · rename_i e _
    have hcq : ∀ (q : Nat) (r : CqRecord) (l : List Nat) (x : Nat → CqRecord) (v : Nat),
        ((l.foldl (fun (s : State) d => s.writeCq q (x d)) (s.writeCq q r)).setFld F.NIM_Q_STAT_OPEN q v).nim.warm = s.nim.warm :=
      fun q r l x v => (State.setFld_warm _ _ _ _).trans
        ((foldl_keeps _ (fun t => t.nim.warm) (fun t d => t.writeCq_warm q (x d)) l).trans (s.writeCq_warm q r))
    cases e.queue with
    | none =>
      dsimp only
      split
      · rfl
      · rfl
    | some q =>
      dsimp only
      split
      · rfl
      · exact hcq q _ e.dups _ _

theorem State.postDones_warm : s.postDones.nim.warm = s.nim.warm :=
  foldl_keeps s (fun t => t.nim.warm) (fun t _ => t.postDone_warm _) _

theorem State.raiseHwm_warm (k : Key) : (s.raiseHwm k).nim.warm = s.nim.warm := by
  unfold State.raiseHwm
  extract_lets src n
  split
  · rfl
  · rfl

theorem State.showEntries_warm : s.showJournal.showCores.nim.warm = s.nim.warm :=
  congrArg Nim.warm ((Frame.refl .none s).showJournal.showCores.parts .nim (by decide))

theorem State.copyEntry_warm (e : JEntry) (replayed : Bool) : (s.copyEntry e replayed).nim.warm = s.nim.warm := by
  unfold State.copyEntry State.journalEntry
  exact (State.raiseHwm_warm _ _).trans (State.showEntries_warm _)

theorem State.replayCheck_warm : s.replayCheck.nim.warm = s.nim.warm := by
  unfold State.replayCheck
  split
  · let u := (s.setFlag F.NIM_STATUS_REPLAY 0 false).bootReady
    have hu : u.nim = s.nim := (Frame.refl .none s).setFlag.bootReady.parts .nim (by decide)
    have hend := (Frame.refl .none u.postDones).irq (c := Irq.NIM_REPLAY_DONE) |>.showQueues
    exact (congrArg Nim.warm (hend.parts .nim (by decide))).trans (u.postDones_warm.trans (congrArg Nim.warm hu))
  · rfl

theorem State.journalReplay_warm (warm : Bool) (entries : List JEntry) : (s.journalReplay warm entries).nim.warm = s.nim.warm := by
  unfold State.journalReplay
  extract_lets s1 s2 new s3 todo _ s4 s5
  have h1 : s1.nim.warm = s.nim.warm := State.setFld_warm _ _ _ _
  have h2 : s2.nim.warm = s1.nim.warm := by
    refine foldl_keeps s1 (fun t => t.nim.warm) (fun t e => ?_) _
    split
    · rfl
    · exact t.raiseHwm_warm _
  have h3 : s3.nim.warm = s2.nim.warm := foldl_keeps s2 (fun t => t.nim.warm) (fun t e => t.copyEntry_warm _ _) _
  have h5 : s5.nim = s4.nim := (Frame.refl .none s4).setFld.setFld.parts .nim (by decide)
  have hq : s5.showJournal.showCores.showQueues.nim = s5.nim :=
    (Frame.refl .none s5).showJournal.showCores.showQueues.parts .nim (by decide)
  exact (State.replayCheck_warm _).trans ((congrArg Nim.warm (hq.trans h5)).trans (h3.trans (h2.trans h1)))

/-- The control plane restored, before its held records are posted. -/
def State.warmRestored (s : State) (converted : Bool) (data : BootData) : State :=
  let s := (s.setBoot { s.boot with warmHeld := false }).lockDown data
  (s.restoreSettings converted false (if s.fld F.BOOT_CAUSE_CAUSE 0 == causeFallback then anyReg else controlReg)).runLater

/-- The held records posted. -/
def State.heldPosted (s : State) : State :=
  let held := s.nim.heldRecords.reverse
  let lost := s.nim.lostHeld
  let s := { s with nim := { s.nim with warm := false, heldRecords := [], lostHeld := 0 } }
  let s := held.foldl (fun (s : State) e => s.postRecord e.1 e.2) s
  if lost = 0 then s else s.awlCause Irq.NIM_CQ_LOST false 0 lost

theorem exec_warmBoot_good {s : State} (hr : s.host.inReset = false) (hs : s.bootStage = stageWarmBoot) (converted : Bool)
    (data : BootData) : exec (.warmBoot true converted data) s =
      .next (((s.warmRestored converted data).heldPosted.journalReplay true []).showUpd) :=
  congrArg Host.Outcome.next (if_neg (by rw [hr, hs]; decide))

theorem State.warmRestored_warmHeld (converted : Bool) (data : BootData) :
    (s.warmRestored converted data).boot.warmHeld = false := by
  let u := s.setBoot { s.boot with warmHeld := false }
  obtain ⟨-, -, -, hheld⟩ := u.lockDown_shows data
  unfold State.warmRestored
  exact (State.runLater_warmHeld _).trans ((State.restoreSettings_warmHeld _ _ _ _).trans hheld)

theorem State.heldPosted_keeps : Frame ⟨[.nim, .awl, .host, .sent], .NIM_CQ_TAIL :: .NIM_CQ_LOST :: .NIM_INT_STAT :: .GLB_INT_SUM ::
    awlRegs⟩ s s.heldPosted := by
  unfold State.heldPosted
  extract_lets held lost _ s1 s2
  have h2 : Frame ⟨[.nim, .host, .sent], [.NIM_CQ_TAIL, .NIM_CQ_LOST, .NIM_INT_STAT, .GLB_INT_SUM]⟩ s s2 :=
    .le (by decide) (.fold (Frame.refl .none s).updNim fun _ _ h => h.postRecord)
  exact .le (by decide) (.branch h2 h2.awlCause)

theorem State.heldPosted_warm : s.heldPosted.nim.warm = false := by
  unfold State.heldPosted
  extract_lets held lost _ s1 s2
  have h2 : s2.nim.warm = false := foldl_keeps s1 (fun t => t.nim.warm) (fun t e => t.postRecord_warm _ _) _
  split
  · exact h2
  · exact (congrArg Nim.warm ((Frame.refl .none s2).awlCause.parts .nim (by decide))).trans h2

/-! ### A reset endpoint (R627, R648) -/

/-- A reset endpoint has no vector open or pending, and no queue or ring enabled. -/
theorem State.pcieReset_shows : s.pcieReset.host.msix = [] ∧ s.pcieReset.host.pba = [] ∧ s.pcieReset.reg .GLB_PCIE_STAT 0 = 0 ∧
    (∀ q : Nat, q < 64 → s.pcieReset.flag F.NIM_Q_CFG_EN q = false) ∧
    ∀ r : Nat, r < 16 → s.pcieReset.flag F.NPT_RXR_CFG_EN r = false ∧ s.pcieReset.flag F.NPT_TXR_CFG_EN r = false := by
  unfold State.pcieReset
  extract_lets _ s1 s2 s3 s4
  have h3 : Frame ⟨[], [.NIM_Q_CFG]⟩ s2 s3 := .le (by decide) (.fold (Frame.refl .none s2) fun _ _ h => h.setFlag)
  have h4 : Frame ⟨[], [.NPT_RXR_CFG, .NPT_TXR_CFG]⟩ s3 s4 :=
    .le (by decide) (.fold (Frame.refl .none s3) fun _ _ h => h.setFlag.setFlag)
  have h5 := (Frame.refl .none s4).showQueues
  have hhost : s4.showQueues.host = s2.host :=
    (h5.parts .host (by decide)).trans ((h4.parts .host (by decide)).trans (h3.parts .host (by decide)))
  refine ⟨congrArg HostSide.msix hhost, congrArg HostSide.pba hhost, ?_, fun q hq => ?_, fun r hr => ⟨?_, ?_⟩⟩
  · rw [h5.regs _ _ (by decide), h4.regs _ _ (by decide), h3.regs _ _ (by decide)]
    exact State.reg_setReg_same _ _ _ _
  · rw [h5.flag (by decide), h4.flag (by decide)]
    exact State.flag_foldl_clear _ F.NIM_Q_CFG_EN 64 (fun t q => State.flag_setFlag_same _ _ _ _ (by decide) rfl)
      (fun t p q h => State.flag_setFlag_keeps_false _ _ (by decide) rfl _ _ h) hq
  · rw [h5.flag (by decide)]
    refine State.flag_foldl_clear _ F.NPT_RXR_CFG_EN 16 (fun t q => ?_) (fun t p q h => ?_) hr
    · rw [State.setFlag, State.flag_setFld_ne _ (by decide), State.flag_setFlag_same _ _ _ _ (by decide) rfl]
    · rw [State.setFlag, State.flag_setFld_ne _ (by decide)]
      exact State.flag_setFlag_keeps_false _ _ (by decide) rfl _ _ h
  · rw [h5.flag (by decide)]
    refine State.flag_foldl_clear _ F.NPT_TXR_CFG_EN 16 (fun t q => State.flag_setFlag_same _ _ _ _ (by decide) rfl) (fun t p q h => ?_) hr
    refine State.flag_setFlag_keeps_false _ _ (by decide) rfl _ _ ?_
    rw [State.setFlag, State.flag_setFld_ne _ (by decide)]
    exact h

/-! ### Vectors and regulators (R622, R652) -/

theorem exec_msixVectorUnmask (v : Fin 256) : exec (.msixVectorUnmask v) s = .next (s.setMask v false) := rfl

/-- A vector unmasked while it is pending is sent. -/
theorem State.setMask_pending (v : Nat) (h : Tbl.get (fun _ => false) s.host.pba v = true) :
    (Tbl.get (fun _ => default) (s.setMask v false).host.msix v).open_ = true ∧
    Tbl.get (fun _ => false) (s.setMask v false).host.pba v = false ∧ (s.setMask v false).sent = .msix v :: s.sent := by
  unfold State.setMask
  extract_lets e _ _ t
  rw [if_pos (show (!false && Tbl.get (fun _ => false) s.host.pba v) = true by rw [h]; rfl)]
  exact ⟨congrArg MsixEntry.open_ (Tbl.get_set_same _ _ _ _),
    Tbl.get_set_same (fun _ => false) v false s.host.pba, rfl⟩

theorem State.setMask_quiet (v : Nat) (h : Tbl.get (fun _ => false) s.host.pba v = false) :
    (Tbl.get (fun _ => default) (s.setMask v false).host.msix v).open_ = true ∧ (s.setMask v false).sent = s.sent := by
  unfold State.setMask
  extract_lets e _ _ t
  rw [if_neg (show ¬(!false && Tbl.get (fun _ => false) s.host.pba v) = true by rw [h]; decide)]
  exact ⟨congrArg MsixEntry.open_ (Tbl.get_set_same _ _ _ _), rfl⟩

theorem State.setMask_regs (v : Nat) (masked : Bool) : (s.setMask v masked).regs = s.regs := by
  unfold State.setMask
  extract_lets e _ _ t
  split
  · rfl
  · rfl

/-- A regulator's answer is shown. -/
theorem State.reg_setReg_rail (i : Nat) (w : BitVec 32) : (s.setReg .INS_RAIL i (w.setWidth 64)).reg .INS_RAIL i = w.setWidth 64 := by
  apply BitVec.eq_of_toNat_eq
  have hw := w.isLt
  rw [State.reg_setReg_same, Reg.fit_toNat rfl, BitVec.toNat_setWidth]
  omega

end Sys2Proof.Machine

end

section
open Sys2Proof Sys2Proof.Machine

/-- Settles O9, clause by clause: a cold reset ends what the part held and its boot's ROM chooses the slot; a verified image is
started through LOCKED in one step (log 114), and a bad one is rejected; a warm reset keeps the rest of the part; an endpoint's
reset leaves GLB_PCIE_STAT at 0 (log 117); the power state is ACTIVE from the boot on (log 30). -/
theorem powerResetsBootAndTheEndpoint : Obligations.PowerResetsBootAndTheEndpoint := by
  unfold Obligations.PowerResetsBootAndTheEndpoint
  refine ⟨?porstFall, ?porstFallHeld, ?porstRise, ?porstRiseTripped, ?stbyRise, ?stbyFall, ?trip, ?recover, ?recoverHot, ?alarm,
    ?noAlarm, ?romDone, ?imageGood, ?imageBad, ?hbmDone, ?hbmFail, ?restored, ?lanes, ?replay, ?warmPin, ?glbCtrl, ?glbOther,
    ?watchdog, ?unarmed, ?kick, ?kickOther, ?warmBad, ?warmGood, ?spareExit, ?hotReset, ?perst, ?unmaskPending, ?unmask, ?xtalFail,
    ?xtalReturn, ?pollOff, ?poll⟩
  case porstFall =>
    intro records s hr
    let u := (s.powerFail records).coldReset
    have hexec : exec (.porstFall records) s = .next (u.setFld F.BOOT_CAUSE_CAUSE 0 causePorst) :=
      congrArg Host.Outcome.next (if_neg (by simp [hr]))
    obtain ⟨hheld, hpower, hstage, hctxs⟩ := (s.powerFail records).coldReset_shows
    have hf := (Frame.refl .none u).setFld (r := F.BOOT_CAUSE_CAUSE.reg) (lo := F.BOOT_CAUSE_CAUSE.lo)
      (w := F.BOOT_CAUSE_CAUSE.len) (i := 0) (v := causePorst)
    rw [hexec]
    exact .next ⟨(congrArg HostSide.inReset (hf.parts .host (by decide))).trans hheld,
      State.fld_setFld_fits _ (by decide) (by decide) 0, (hf.fld (by decide) 0).trans hpower, (hf.fld (by decide) 0).trans hstage,
      (congrArg Nim.ctxs (hf.parts .nim (by decide))).trans hctxs⟩
  case porstFallHeld =>
    intro records s hr
    have hexec : exec (.porstFall records) s = .next s := congrArg Host.Outcome.next (if_pos hr)
    rw [hexec]
    exact .next rfl
  case porstRise =>
    intro strap sideB s hr hp ht
    let u := s.strapped strap sideB
    have hu := s.strapped_keeps strap sideB
    obtain ⟨hstrap, hdomain, hside⟩ := s.strapped_shows strap.isLt sideB
    have hboot : u.boot = s.boot := hu.parts .boot (by decide)
    have hcause : (if u.fld F.BOOT_CAUSE_CAUSE 0 = 0 then causePorst else u.fld F.BOOT_CAUSE_CAUSE 0) < 2 ^ 4 := by
      split
      · decide
      · exact State.fld_lt _ _ _
    obtain ⟨hout, hpower, -, -⟩ := u.coldBoot_shows hcause
    have hf := (Frame.refl .none u).coldBoot (cause := if u.fld F.BOOT_CAUSE_CAUSE 0 = 0 then causePorst else u.fld F.BOOT_CAUSE_CAUSE 0)
    rw [exec_porstRise_held hr hp, if_neg (by rw [hboot, ht]; decide)]
    exact .next ⟨(hf.fld (by decide) 0).trans hstrap, (hf.fld (by decide) 0).trans hdomain, (hf.flag (by decide) 0).trans hside, hout,
      hpower, (hf.fld (by decide) 0).trans (hu.fld (by decide) 0)⟩
  case porstRiseTripped =>
    intro strap sideB s hr hp ht
    have hu := s.strapped_keeps strap sideB
    have hboot : (s.strapped strap sideB).boot = s.boot := hu.parts .boot (by decide)
    rw [exec_porstRise_held hr hp, if_pos (by rw [hboot, ht])]
    exact .next ⟨(congrArg HostSide.inReset (hu.parts .host (by decide))).trans hr, (hu.fld (by decide) 0).trans hp⟩
  case stbyRise =>
    intro s hp
    let u := (s.setFld F.INS_STATE_STATE 0 powerInsole).setFlag F.INS_XTAL_RUNNING 0 true
    have hexec : exec .stbyPgRise s = .next (u.wake wakeStby) := congrArg Host.Outcome.next (if_neg (by simp [hp]))
    obtain ⟨hwake, hpower⟩ := u.wake_shows (src := wakeStby) (by decide)
    have hf := (Frame.refl .none u).wake (src := wakeStby)
    rw [hexec]
    refine .next ⟨hpower.trans ?_, (hf.flag (by decide) 0).trans (State.flag_setFlag_same _ _ _ _ (by decide) rfl), hwake⟩
    rw [State.power, State.fld_setFlag_apart _ (by decide), State.fld_setFld_fits _ (by decide) (by decide)]
  case stbyFall =>
    intro records s hp
    let u := insoleRegs.foldl (fun (s : State) r => s.clearReg r) (if s.host.inReset then s else (s.powerFail records).coldReset)
    let v := (u.setAwl { u.awl with staged := [], lastWords := [] }).setBoot { u.boot with retLost := true, tripped := false, clks := [] }
    have hexec : exec (.stbyPgFall records) s = .next ((v.setFld F.INS_STATE_STATE 0 0).setFld F.BOOT_CAUSE_CAUSE 0 causeStby) :=
      congrArg Host.Outcome.next (if_neg hp)
    have hf : Frame ⟨[], [.INS_STATE, .BOOT_CAUSE]⟩ v ((v.setFld F.INS_STATE_STATE 0 0).setFld F.BOOT_CAUSE_CAUSE 0 causeStby) :=
      .le (by decide) (Frame.refl .none v).setFld.setFld
    rw [hexec]
    refine .next ⟨?_, State.fld_setFld_fits _ (by decide) (by decide) 0, congrArg Awl.staged (hf.parts .awl (by decide)),
      congrArg Boot.retLost (hf.parts .boot (by decide))⟩
    rw [State.power, State.fld_setFld_ne _ (by decide), State.fld_setFld_fits _ (by decide) (by decide)]
  case trip =>
    intro records s hr
    let u := (s.powerFail records).coldReset
    have hexec : exec (.thermalTrip records) s = .next ((u.setFld F.BOOT_CAUSE_CAUSE 0 causeThermal).setBoot
        { (u.setFld F.BOOT_CAUSE_CAUSE 0 causeThermal).boot with tripped := true, hot := true }) :=
      congrArg Host.Outcome.next (if_neg (by simp [hr]))
    obtain ⟨hheld, -, -, -⟩ := (s.powerFail records).coldReset_shows
    have hf := (Frame.refl .none u).setFld (r := F.BOOT_CAUSE_CAUSE.reg) (lo := F.BOOT_CAUSE_CAUSE.lo)
      (w := F.BOOT_CAUSE_CAUSE.len) (i := 0) (v := causeThermal)
    rw [hexec]
    exact .next ⟨(congrArg HostSide.inReset (hf.parts .host (by decide))).trans hheld,
      (State.setBoot_fld _ _ _ _).trans (State.fld_setFld_fits _ (by decide) (by decide) 0), rfl⟩
  case recover =>
    intro tt s hb ht
    rw [exec_thermalRecover_cool hb ht]
    obtain ⟨hout, hpower, hcause, htripped⟩ := State.coldBoot_shows (s.setBoot { s.boot with
      tripped := false
      hot := decide ((16 * s.fld F.GLB_TEMP_CFG_ALARM 0 : Nat) < tt.toInt) }) (cause := causeThermal) (by decide)
    exact .next ⟨htripped, hout, hpower, hcause⟩
  case recoverHot =>
    intro tt s ht
    have hexec : exec (.thermalRecover tt) s = .next s :=
      congrArg Host.Outcome.next (if_pos (by rw [decide_eq_true (p := (110 * 16 : Int) ≤ tt.toInt) ht, Bool.or_true]))
    rw [hexec]
    exact .next rfl
  case alarm =>
    intro sensor tt s ht
    let u := s.showTemp sensor tt
    let v := u.setBoot { u.boot with hot := true }
    have hexec : exec (.thermalAlarm sensor tt) s = .next (v.alarm Irq.GLB_TEMP alertThermal sensor tt.toNat) :=
      congrArg Host.Outcome.next (if_pos (by rw [s.showTemp_alarm]; exact ht))
    have hf := (Frame.refl .none v).alarm (c := Irq.GLB_TEMP) (b := alertThermal) (obj := sensor) (detail := tt.toNat)
    have hboot : u.boot = s.boot := (Frame.refl .none s).showTemp.parts .boot (by decide)
    rw [hexec]
    refine .next ⟨(hf.regs _ _ (by decide)).trans ((State.setBoot_reg _ _ _ _).trans (s.showTemp_shows sensor tt)),
      (hf.parts .boot (by decide)).trans ?_, State.alarm_alerts _ (by decide) _ _ _⟩
    exact congrArg (fun b : Boot => { b with hot := true }) hboot
  case noAlarm =>
    intro sensor tt s ht
    let u := s.showTemp sensor tt
    have hexec : exec (.thermalAlarm sensor tt) s = .next (u.setBoot { u.boot with hot := false }) :=
      congrArg Host.Outcome.next (if_neg (by rw [s.showTemp_alarm]; exact not_lt.mpr ht))
    have hf := (Frame.refl .none s).showTemp (sensor := sensor) (t' := tt)
    rw [hexec]
    refine .next ⟨(State.setBoot_reg _ _ _ _).trans (s.showTemp_shows sensor tt),
      congrArg (fun b : Boot => { b with hot := false }) (hf.parts .boot (by decide)),
      (State.setBoot_reg _ _ _ _).trans (hf.regs _ _ (by decide))⟩
  case romDone =>
    intro retentionOk s hr hs hb he
    let u := s.romDone retentionOk
    have hu := s.romDone_keeps retentionOk
    obtain ⟨hstage, hcheck, hlost⟩ := s.romDone_shows retentionOk
    have hslot : ∀ i, u.slot i = s.slot i :=
      State.slot_congr (congrArg Upd.slotA (hu.parts .upd (by decide))) (congrArg Upd.slotB (hu.parts .upd (by decide)))
    have hfloor : u.floor = s.floor := congrArg BitVec.toNat (hu.regs .SET_FLOOR 0 (by decide))
    have hsel : u.selectSlot = (u.raiseFloor (u.slot 0).hdr).startSlot 0 := u.selectSlot_confirmed
      (by rw [State.bootable, hslot, hfloor]; exact hb) (by rw [hslot, he])
    have hf : Frame _ u ((u.raiseFloor (u.slot 0).hdr).startSlot 0).showUpd := (Frame.refl .none u).raiseFloor.startSlot.showUpd
    rw [exec_bootRomDone_rom hr hs, show (s.romDone retentionOk).selectSlot = _ from hsel]
    exact .next ⟨(hf.fld (by decide) 0).trans hstage, State.showUpd_runSlot _ |>.trans (State.startSlot_runSlot _ (by decide)),
      (hf.flag (by decide) 0).trans hcheck, (congrArg Boot.retLost (hf.parts .boot (by decide))).trans hlost⟩
  case imageGood =>
    intro good data s hr hs hg
    subst hg
    let u := (s.stageEnds 1).setFld F.BOOT_STAGE_STAGE 0 stageLocked
    let v := (u.lockDown data).startAwl
    have hexec : exec (.imageVerifyDone true data) s = .next ((v.stageEnds 2).setFld F.BOOT_STAGE_STAGE 0 stageHbmInit) :=
      congrArg Host.Outcome.next (if_neg (by rw [hr, hs]; decide))
    obtain ⟨hlock, harmed, hclock, -⟩ := u.lockDown_shows data
    have hv := (u.lockDown data).startAwl_keeps
    have hf : Frame ⟨[], [.BOOT_TIME, .BOOT_STAGE]⟩ v ((v.stageEnds 2).setFld F.BOOT_STAGE_STAGE 0 stageHbmInit) :=
      .le (by decide) (Frame.refl .none v).stageEnds.setFld
    rw [hexec]
    exact .next ⟨State.fld_setFld_fits _ (by decide) (by decide) 0, (hf.flag (by decide) 0).trans ((hv.flag (by decide) 0).trans hlock),
      (congrArg Boot.armed ((hf.parts .boot (by decide)).trans (hv.parts .boot (by decide)))).trans harmed,
      (hf.regs _ _ (by decide)).trans ((hv.regs _ _ (by decide)).trans hclock)⟩
  case imageBad =>
    intro good data s hr hs hg hrun
    subst hg
    have hexec : exec (.imageVerifyDone false data) s = .next s.badSlot :=
      congrArg Host.Outcome.next (if_neg (by rw [hr, hs]; decide))
    rw [hexec]
    exact .next (s.badSlot_shows hrun)
  case hbmDone =>
    intro converted s hr hs
    obtain ⟨u, hexec⟩ : ∃ u : State, exec (.hbmTrainDone converted) s = .next (u.setFld F.BOOT_STAGE_STAGE 0 stageRestore) :=
      ⟨_, congrArg Host.Outcome.next (if_neg (by rw [hr, hs]; decide))⟩
    rw [hexec]
    exact .next (State.fld_setFld_fits _ (by decide) (by decide) 0)
  case hbmFail =>
    intro stack s hr hs
    let u := ((s.setFld F.BOOT_FAIL_UNIT 0 stack).setFld F.BOOT_FAIL_CODE 0 2).setFld F.BOOT_STAGE_STAGE 0 stageHbmFail
    have hexec : exec (.hbmTrainFail stack) s = .next ((u.alert alertBoot).awlUnstated .BOOT (awlArg stack 2)) :=
      congrArg Host.Outcome.next (if_neg (by rw [hr, hs]; decide))
    have hf := (Frame.refl .none (u.alert alertBoot)).awlUnstated (b := .BOOT) (arg := awlArg stack 2)
    have ha := (Frame.refl .none u).alert (b := alertBoot)
    have hstack : stack.val < 2 ^ F.BOOT_FAIL_UNIT.len := stack.isLt.trans_le (by decide)
    rw [hexec]
    refine .next ⟨(hf.fld (by decide) 0).trans ((ha.fld (by decide) 0).trans (State.fld_setFld_fits _ (by decide) (by decide) 0)),
      (hf.fld (by decide) 0).trans ((ha.fld (by decide) 0).trans ?_), (hf.fld (by decide) 0).trans ((ha.fld (by decide) 0).trans ?_),
      (hf.fld (by decide) 0).trans (State.alert_sets _ (by decide))⟩
    · rw [State.fld_setFld_ne _ (by decide), State.fld_setFld_fits _ (by decide) (by decide)]
    · rw [State.fld_setFld_ne _ (by decide), State.fld_setFld_apart _ (by decide), State.fld_setFld_fits _ (by decide) hstack]
  case restored =>
    intro views s hr hs
    have hexec : exec (.stateRestoreDone views) s =
        .next (((s.restoreImage views).stageEnds 4).setFld F.BOOT_STAGE_STAGE 0 stageLanes) :=
      congrArg Host.Outcome.next (if_neg (by rw [hr, hs]; decide))
    rw [hexec]
    exact .next (State.fld_setFld_fits _ (by decide) (by decide) 0)
  case lanes =>
    intro s hr hs
    let u := ((List.range 16).filter fun k => s.flag F.WLT_LK_CFG_ENABLE k && s.lkState k == lkDown).foldl
      (fun (s : State) k => s.startIdent k) s
    have hexec : exec .lanesReady s = .next ((u.stageEnds 5).setFld F.BOOT_STAGE_STAGE 0 stageReplay) :=
      congrArg Host.Outcome.next (if_neg (by rw [hr, hs]; decide))
    have hf : Frame ⟨[], [.BOOT_TIME, .BOOT_STAGE]⟩ u ((u.stageEnds 5).setFld F.BOOT_STAGE_STAGE 0 stageReplay) :=
      .le (by decide) (Frame.refl .none u).stageEnds.setFld
    rw [hexec]
    refine .next ⟨State.fld_setFld_fits _ (by decide) (by decide) 0, fun k hk hen hdown => (hf.fld (by decide) k).trans ?_⟩
    have hmem : k ∈ (List.range 16).filter fun k => s.flag F.WLT_LK_CFG_ENABLE k && s.lkState k == lkDown :=
      List.mem_filter.mpr ⟨List.mem_range.mpr hk, by rw [hen, hdown]; rfl⟩
    exact foldl_reaches (P := fun _ => True) (Q := fun t => t.lkState k = lkIdent) hmem (fun _ _ _ => .inl trivial)
      (fun t _ => (t.startIdent_shows k).1) (fun t j h => t.startIdent_keeps_ident j h) trivial
  case replay =>
    intro s hr hs hp
    obtain ⟨hm, hl⟩ := Bool.and_eq_true_iff.mp hp
    have hexec : exec .replayPathTimeout s = .next ((s.losePartner lossSilence).journalReplay false []) :=
      congrArg Host.Outcome.next (if_neg (by rw [hr, hs, hp]; decide))
    obtain ⟨hlost, -, -, hcause, -, -, -⟩ := s.losePartner_shows hm (Bool.not_eq_true' _ ▸ hl) (cause := lossSilence) (by decide)
    have hf := (Frame.refl .none (s.losePartner lossSilence)).journalReplay (warm := false) (entries := [])
    rw [hexec]
    refine .next ⟨?_, (hf.fld (by decide) 0).trans hcause⟩
    rw [State.partnerLost, hf.fld (by decide)]
    exact hlost
  case warmPin =>
    intro s hr
    have hexec : exec .warmRstAssert s = .next ((s.warmReset causeWarmPin).setBoot { s.boot with warmHeld := true, armed := false }) :=
      congrArg Host.Outcome.next (if_neg (by simp [hr]))
    obtain ⟨hstage, hcause⟩ := s.warmReset_shows (cause := causeWarmPin) (by decide)
    obtain ⟨hctxs, -, hlock, hwarms⟩ := s.warmReset_clears causeWarmPin
    rw [hexec]
    exact .next ⟨(State.setBoot_fld _ _ _ _).trans hstage, (State.setBoot_fld _ _ _ _).trans hcause,
      (State.setBoot_reg _ _ _ _).trans hwarms, (State.setBoot_flag _ _ _ _).trans hlock, hctxs, rfl⟩
  case glbCtrl =>
    intro w s hw
    have hexec : exec (.glbWarmReset w) s = .next ((s.answer .OK).warmReset causeGlbCtrl) :=
      congrArg Host.Outcome.next (if_pos (by rw [hw]; rfl))
    obtain ⟨hstage, hcause⟩ := (s.answer .OK).warmReset_shows (cause := causeGlbCtrl) (by decide)
    obtain ⟨hctxs, -, -, hwarms⟩ := (s.answer .OK).warmReset_clears causeGlbCtrl
    rw [hexec]
    exact .next ⟨hstage, hcause, hwarms, hctxs⟩
  case glbOther =>
    intro w s hw
    have hne : ¬ (w.setWidth 64).toNat = 0x5741524D := fun h => hw (BitVec.eq_of_toNat_eq (by
      have hlt := w.isLt
      rw [BitVec.toNat_setWidth] at h
      change w.toNat = 0x5741524D
      omega))
    have hexec : exec (.glbWarmReset w) s = .next (s.answer .OK) := congrArg Host.Outcome.next (if_neg hne)
    rw [hexec]
    exact .next rfl
  case watchdog =>
    intro s ha
    have hexec : exec .watchdogTimeout s = .next ((s.warmReset causeWatchdog).awlUnstated .BOOT 0) :=
      congrArg Host.Outcome.next (if_pos ha)
    obtain ⟨hstage, hcause⟩ := s.warmReset_shows (cause := causeWatchdog) (by decide)
    obtain ⟨-, harmed, -, -⟩ := s.warmReset_clears causeWatchdog
    have hf := (Frame.refl .none (s.warmReset causeWatchdog)).awlUnstated (b := .BOOT) (arg := 0)
    rw [hexec]
    exact .next ⟨(hf.fld (by decide) 0).trans hstage, (hf.fld (by decide) 0).trans hcause,
      (congrArg Boot.armed (hf.parts .boot (by decide))).trans harmed⟩
  case unarmed =>
    intro s ha
    have hexec : exec .watchdogTimeout s = .next s := congrArg Host.Outcome.next (if_neg (by simp [ha]))
    rw [hexec]
    exact .next rfl
  case kick =>
    intro src w s hsrc
    have hexec : exec (.watchdogKick src w) s = .next (s.answer .OK) := congrArg Host.Outcome.next (if_pos hsrc)
    rw [hexec]
    exact .next rfl
  case kickOther =>
    intro src w s hsrc
    have hexec : exec (.watchdogKick src w) s = .next s := congrArg Host.Outcome.next (if_neg hsrc)
    rw [hexec]
    exact .next rfl
  case warmBad =>
    intro good converted data s hr hs hg hrun
    subst hg
    let u := s.setBoot { s.boot with warmHeld := false }
    have hexec : exec (.warmBoot false converted data) s = .next u.badSlot.showUpd :=
      congrArg Host.Outcome.next (if_neg (by rw [hr, hs]; decide))
    have hupd : u.badSlot.showUpd.upd = u.badSlot.upd := State.showUpd_upd _
    have hslot := State.slot_congr (congrArg Upd.slotA hupd) (congrArg Upd.slotB hupd) 0
    have hboot : u.badSlot.showUpd.boot = u.boot :=
      ((Frame.refl .none u.badSlot).showUpd.parts .boot (by decide)).trans u.badSlot_boot
    rw [hexec]
    exact .next ⟨(congrArg ImgSlot.state hslot).trans (u.badSlot_shows hrun).1, congrArg Boot.warmHeld hboot⟩
  case warmGood =>
    intro good converted data s hr hs hg
    subst hg
    let u := s.warmRestored converted data
    have hf := (Frame.refl .none (u.heldPosted.journalReplay true [])).showUpd
    have hboot : (u.heldPosted.journalReplay true []).showUpd.boot = u.boot :=
      (hf.parts .boot (by decide)).trans (((Frame.refl .none u.heldPosted).journalReplay.parts .boot (by decide)).trans
        (u.heldPosted_keeps.parts .boot (by decide)))
    rw [exec_warmBoot_good hr hs]
    exact .next ⟨(congrArg Nim.warm (hf.parts .nim (by decide))).trans ((State.journalReplay_warm _ _ _).trans u.heldPosted_warm),
      (congrArg Boot.warmHeld hboot).trans (s.warmRestored_warmHeld converted data)⟩
  case spareExit =>
    intro assumed s hp
    let u := s.awake assumed
    obtain ⟨hpower, hwake⟩ := s.awake_shows assumed
    have hd := u.demandClks_keeps
    have hl := u.demandClks.spareLeft_keeps assumed
    rw [exec_spareExit_spare hp]
    exact .next ⟨(hl.fld (by decide) 0).trans ((hd.fld (by decide) 0).trans hpower),
      (hl.fld (by decide) 0).trans ((hd.fld (by decide) 0).trans hwake),
      fun d hlo hhi => (hl.flag (g := ⟨.INS_CLK_REQ, d, 1⟩) (show Reg.INS_CLK_REQ ∉ _ by decide) 0).trans (u.demandClks_shows hlo hhi)⟩
  case hotReset =>
    intro s hr
    have hexec : exec .pcieHotReset s = .next s.pcieReset := congrArg Host.Outcome.next (if_neg (by simp [hr]))
    rw [hexec]
    exact .next s.pcieReset_shows
  case perst =>
    intro s hr
    have hexec : exec .pciePerst s = .next s.pcieReset := congrArg Host.Outcome.next (if_neg (by simp [hr]))
    rw [hexec]
    exact .next s.pcieReset_shows
  case unmaskPending =>
    intro v s hv
    obtain ⟨hopen, hpba, hsent⟩ := s.setMask_pending v hv
    rw [exec_msixVectorUnmask]
    exact .next ⟨hopen, hpba, hsent, s.setMask_regs v false⟩
  case unmask =>
    intro v s hv
    obtain ⟨hopen, hsent⟩ := s.setMask_quiet v hv
    rw [exec_msixVectorUnmask]
    exact .next ⟨hopen, hsent, s.setMask_regs v false⟩
  case xtalFail =>
    intro s
    have hexec : exec .xtalFail s = .next ((s.setFlag F.INS_XTAL_RUNNING 0 false).event Irq.INS_XTAL_FAIL 0 0) := rfl
    have hf := (Frame.refl .none (s.setFlag F.INS_XTAL_RUNNING 0 false)).event (c := Irq.INS_XTAL_FAIL) (obj := 0) (detail := 0)
    rw [hexec]
    exact .next ⟨(hf.flag (by decide) 0).trans (State.flag_setFlag_same _ _ _ _ (by decide) rfl),
      State.event_sets _ Irq.INS_XTAL_FAIL rfl (by decide) (by decide) 0 0⟩
  case xtalReturn =>
    intro s
    exact .next rfl
  case pollOff =>
    intro rails s hen
    have hexec : exec (.pmbusPoll rails) s = .next s := congrArg Host.Outcome.next (if_pos (by rw [hen]; rfl))
    rw [hexec]
    exact .next rfl
  case poll =>
    intro w s hen
    let u := (s.setRsl { s.rsl with noAck := false }).setReg .INS_RAIL 0 (w.setWidth 64)
    let v := u.setReg .INS_RAIL 1 0
    have hexec : exec (.pmbusPoll [some w, none]) s = .next (v.awlUnstated .INS (awlArg 1 0)) :=
      congrArg Host.Outcome.next (if_neg (by rw [hen]; decide))
    have hf := (Frame.refl .none v).awlUnstated (b := .INS) (arg := awlArg 1 0)
    rw [hexec]
    refine .next ⟨(hf.regs _ _ (by decide)).trans ?_, (hf.regs _ _ (by decide)).trans (State.reg_setReg_same _ _ _ _),
      hf.parts .rsl (by decide)⟩
    rw [State.reg_setReg_index _ _ (by decide)]
    exact State.reg_setReg_rail _ _ _

end

section
/-! SUPPORT of O10: clock domains, and writes and reads by the access code of a register. -/

namespace Sys2Proof.Machine

variable (s : State)

/-! ### The demand clocks (R637 to R639) -/

theorem State.setClk_clk_ne {d e : Nat} (h : e ≠ d) (c : ClkRun) : (s.setClk d c).clk e = s.clk e :=
  Tbl.get_set_other _ _ _ _ _ h

theorem State.serveClk_of_not_waiting {d : Nat} (h : ∀ n, s.clk d ≠ .waiting n) : s.serveClk d = s := by
  unfold State.serveClk
  split
  · rename_i n hn
    exact absurd hn (h n)
  · rfl

/-- The service of the waiting domains leaves a domain that does not wait. -/
theorem State.serveClk_clk {d : Nat} (h : ∀ n, s.clk d ≠ .waiting n) (e : Nat) : (s.serveClk e).clk d = s.clk d := by
  by_cases he : d = e
  · rw [← he, s.serveClk_of_not_waiting h]
  · unfold State.serveClk
    split
    · split
      · exact (State.count_clk _ _ _ _ _).trans (s.setClk_clk_ne he _)
      · rfl
    · rfl

theorem State.serveClks_clk {d : Nat} (h : ∀ n, s.clk d ≠ .waiting n) : s.serveClks.clk d = s.clk d := by
  unfold State.serveClks
  exact List.foldlRecOn (motive := fun t : State => t.clk d = s.clk d) _ _ rfl fun t ht e _ =>
    (t.serveClk_clk (fun n => ht ▸ h n) e).trans ht

theorem State.serveClks_keeps : Frame ⟨[.boot], [.INS_PLL_STARTS]⟩ s s.serveClks :=
  .le (by decide) (.fold (Frame.refl .none s) fun _ _ h => h.serveClk)

/-- A list of updates of which only one has an effect. -/
theorem foldl_only {α : Type} {g : State → α → State} {l : List α} {x : α} (hx : x ∈ l) (hl : l.Nodup) {s : State}
    (hbefore : ∀ y ∈ l, y ≠ x → g s y = s) (hafter : ∀ y ∈ l, y ≠ x → g (g s x) y = g s x) : l.foldl g s = g s x := by
  induction l with
  | nil => cases hx
  | cons y l ih =>
    obtain ⟨hy, hl⟩ := List.nodup_cons.mp hl
    by_cases hyx : y = x
    · rw [hyx, List.foldl_cons]
      exact List.foldlRecOn (motive := fun t => t = g s x) l g rfl fun t ht z hz => by
        rw [ht]
        exact hafter z (List.mem_cons_of_mem _ hz) fun h => hy (hyx ▸ h ▸ hz)
    · rw [List.foldl_cons, hbefore y List.mem_cons_self hyx]
      exact ih ((List.mem_cons.mp hx).resolve_left fun h => hyx h.symm) hl
        (fun z hz => hbefore z (List.mem_cons_of_mem _ hz)) fun z hz => hafter z (List.mem_cons_of_mem _ hz)

/-- With nothing else waiting or starting, a waiting domain's PLL is started. -/
theorem State.serveClks_alone {d : Nat} (hd : d < 27) (hw : s.clk d = .waiting 0)
    (ho : ∀ e, e < 27 → e ≠ d → s.clk e = .stopped ∨ s.clk e = .running) (hp : 1 ≤ s.fld F.INS_CLK_CFG_PARALLEL 0) :
    s.serveClks = (s.setClk d (.starting 0)).count .INS_PLL_STARTS 0 1 := by
  have hnone : (List.range 27).filter (fun e => (s.clk e).isStarting) = [] := by
    refine List.filter_eq_nil_iff.mpr fun e he => ?_
    by_cases hed : e = d
    · rw [hed, hw]
      decide
    · rcases ho e (List.mem_range.mp he) hed with h | h <;> rw [h] <;> decide
  have hserve : s.serveClk d = (s.setClk d (.starting 0)).count .INS_PLL_STARTS 0 1 := by
    unfold State.serveClk
    rw [hw]
    exact if_pos (by rw [hnone]; exact hp)
  have hnot : ∀ e, e < 27 → e ≠ d → ∀ n, s.clk e ≠ .waiting n := fun e he hed n h => by
    rcases ho e he hed with hc | hc <;> rw [hc] at h <;> cases h
  unfold State.serveClks
  rw [foldl_only (List.mem_range.mpr hd) List.nodup_range
    (fun e he hed => s.serveClk_of_not_waiting (hnot e (List.mem_range.mp he) hed))
    (fun e he hed => State.serveClk_of_not_waiting _ fun n h => ?_), hserve]
  rw [hserve, State.count_clk, State.setClk_clk_ne _ hed] at h
  exact hnot e (List.mem_range.mp he) hed n h

theorem State.requestClk_stopped {d : Nat} (h : s.clk d = .stopped) :
    s.requestClk d = ((s.setFlag ⟨.INS_CLK_REQ, d, 1⟩ 0 true).setClk d (.waiting 0)).serveClks := by
  unfold State.requestClk State.startClk
  rw [State.setFlag_clk, h]

theorem State.requestClk_stopping {d : Nat} {again : Bool} (h : s.clk d = .stopping again) :
    s.requestClk d = (s.setFlag ⟨.INS_CLK_REQ, d, 1⟩ 0 true).setClk d (.stopping true) := by
  unfold State.requestClk State.startClk
  rw [State.setFlag_clk, h]

theorem State.requestClk_running {d : Nat} (h : s.clk d = .running) :
    s.requestClk d = s.setFlag ⟨.INS_CLK_REQ, d, 1⟩ 0 true := by
  unfold State.requestClk State.startClk
  rw [State.setFlag_clk, h]

theorem exec_pllLockTimeout_retry {s : State} {d : Fin 27} {n : Nat} (h : s.clk d = .starting n) (hn : n < 2) :
    exec (.pllLockTimeout d) s = .next ((s.setClk d (.starting (n + 1))).count .INS_PLL_STARTS 0 1) := by
  change execPllLockTimeout d s = _
  rw [execPllLockTimeout, h]
  exact congrArg Host.Outcome.next (if_pos hn)

theorem exec_pllLockTimeout_fails {s : State} {d : Fin 27} {n : Nat} (h : s.clk d = .starting n) (hn : 2 ≤ n) :
    exec (.pllLockTimeout d) s =
      .next ((((s.setClk d .failed).setFlag ⟨.INS_PLL_FAIL, d, 1⟩ 0 true).event Irq.INS_PLL_FAIL d 0).serveClks) := by
  change execPllLockTimeout d s = _
  rw [execPllLockTimeout, h]
  exact congrArg Host.Outcome.next (if_neg (Nat.not_lt.mpr hn))

theorem exec_clockStopDone_stopping {s : State} {d : Fin 27} (h : s.clk d = .stopping false) :
    exec (.clockStopDone d) s = .next ((s.setClk d .stopped).setFlag ⟨.INS_CLK_RUN, d, 1⟩ 0 false) := by
  change execClockStopDone d s = _
  rw [execClockStopDone, h]
  rfl

/-! ### Accesses of words on the block bus (R3, R5, R619) -/

theorem State.nimShut_inside {src : Requester} (h : src ≠ .pcie) (b : Blk) : s.nimShut src b = false := by
  rw [State.nimShut, beq_false_of_ne h, Bool.false_and, Bool.false_and]

theorem State.busWrite_word {src : Requester} (h : src ≠ .pcie) {a : Nat} (ha : a % 4 = 0) (e : BusEnv) (v : Word) :
    s.busWrite src e a 2 v = s.store32 src e a (v.setWidth 32) := by
  unfold State.busWrite
  rw [if_neg (by rw [beq_false_of_ne h, Bool.false_and]; decide), s.nimShut_inside h, if_neg (by decide), if_neg (by omega), if_pos ⟨rfl, ha⟩]

theorem State.store32_reg {a : Nat} (hw : winAt a = none) {r : Reg} {i : Nat} (hr : Reg.ofAddr a = some (r, i, false))
    (hn : r.info.wide = false) (src : Requester) (e : BusEnv) (v : Word32) :
    s.store32 src e a v = s.storeReg src e r i a (v.setWidth 64) := by
  unfold State.store32
  rw [hw, hr]
  exact if_pos (by rw [hn]; rfl)

theorem setWidth_word (v : Word64) : (v.setWidth 32).setWidth 64 = low32 v := by
  apply BitVec.eq_of_toNat_eq
  rw [low32_toNat, BitVec.toNat_setWidth, BitVec.toNat_setWidth]
  omega

theorem low32_low32 (v : Word64) : low32 (low32 v) = low32 v := by
  apply BitVec.eq_of_toNat_eq
  rw [low32_toNat, low32_toNat, Nat.mod_mod]

/-! ### Writes of a register without a rule of its own (R4, R5) -/

theorem Blk.intStat_acc {b : Blk} {r : Reg} (h : b.intStat = some r) : r.info.acc = .W1C := by
  cases b <;> cases h <;> rfl

theorem Blk.intEn_acc {b : Blk} {r : Reg} (h : b.intEn = some r) : r.info.acc = .RW := by
  cases b <;> cases h <;> rfl

theorem Reg.ownRule_of_readOnly {r : Reg} (h : r.info.acc = .RO ∨ r.info.acc = .RC) : r.ownRule = true := by
  rw [Reg.ownRule, Bool.and_eq_true, bne_iff_ne, bne_iff_ne]
  refine ⟨fun hs => ?_, fun hs => ?_⟩
  · rw [Blk.intStat_acc hs] at h
    exact absurd h (by decide)
  · rw [Blk.intEn_acc hs] at h
    exact absurd h (by decide)

theorem State.writePlain_readOnly {r : Reg} (h : r.info.acc = .RO ∨ r.info.acc = .RC) (src : Requester) (i : Nat) (v : Word) :
    s.writePlain src r i v = s.answer .OK := by
  unfold State.writePlain
  rcases h with h | h <;> rw [h]

/-- A write of a read-only register changes nothing, whichever block it is in. -/
theorem State.writeReg_readOnly {r : Reg} (h : r.info.acc = .RO ∨ r.info.acc = .RC) (src : Requester) (e : BusEnv) (i : Nat)
    (v : Word) : s.writeReg src e r i v = s.answer .OK := by
  have ho := Reg.ownRule_of_readOnly h
  have hdata : s.writeData src e r i v = s.answer .OK := by
    unfold State.writeData
    split
    case h_41 => exact s.writePlain_readOnly h src i v
    all_goals exact absurd h (by decide)
  have hcores : s.writeCores src e r i v = s.answer .OK := by
    unfold State.writeCores
    split
    case h_34 => exact s.writePlain_readOnly h src i v
    all_goals exact absurd h (by decide)
  have htiming : s.writeTiming src e r i v = s.answer .OK := by
    unfold State.writeTiming
    split
    case h_45 => exact s.writePlain_readOnly h src i v
    all_goals exact absurd h (by decide)
  have hkeep : s.writeKeep src e r i v = s.answer .OK := by
    unfold State.writeKeep
    split
    case h_24 => exact s.writePlain_readOnly h src i v
    all_goals exact absurd h (by decide)
  cases hb : r.info.blk
  case ING | TWL | EGR => exact (s.writeReg_data ho (by simp [hb]) src e i v).trans hdata
  case NIM | TWD | ASP | VMP => exact (s.writeReg_cores ho (by simp [hb]) src e i v).trans hcores
  case LST | NTM | WLT | NPT => exact (s.writeReg_timing ho (by simp [hb]) src e i v).trans htiming
  case RSL | AWL | SET | UPD | GLB | BOOT | INS => exact (s.writeReg_keep ho (by simp [hb]) src e i v).trans hkeep

theorem Reg.isSet_of_readOnly {r : Reg} (h : r.info.acc = .RO ∨ r.info.acc = .RC) : r.isSet = false := by
  rcases h with h | h <;> rw [Reg.isSet, h] <;> rfl

theorem State.storeReg_readOnly {r : Reg} (h : r.info.acc = .RO ∨ r.info.acc = .RC) (src : Requester) (e : BusEnv) (i a : Nat)
    (v : Word) : s.storeReg src e r i a v = s.answer .OK := by
  unfold State.storeReg State.recordStore
  simp only [Reg.isSet_of_readOnly h, Bool.and_false, Bool.false_and, Bool.false_eq_true, if_false, State.writeReg_readOnly _ h]
  rfl

/-! ### A write that its register is closed to (R663, R630) -/

/-- What a write by the host of a register that is closed to it may change. -/
def Reg.closedFoot (r : Reg) : Foot := ⟨[.host, .sent, .resp, .egr], .EGR_HEALTH_STAT :: .EGR_INT_STAT :: r.shutRegs⟩

theorem Reg.shutRegs_glb (r : Reg) : Blk.GLB.shutRegs ⊆ r.shutRegs := fun x hx => by
  simp only [Blk.shutRegs, Reg.shutRegs, Blk.intStat, List.mem_append, List.mem_cons, Option.toList] at hx ⊢
  tauto

theorem State.discardHost_closed {r : Reg} {b : Blk} (h : b.shutRegs ⊆ r.shutRegs) : Frame r.closedFoot s (s.discardHost b) :=
  State.discardHost_frame (.refl _ s) (show [Part.host, .sent] ⊆ [.host, .sent, .resp, .egr] by decide) fun _ hx =>
    List.mem_cons_of_mem _ (List.mem_cons_of_mem _ (h hx))

theorem State.guarded_closed {r : Reg} (hc : s.closedTo r .pcie = true) (k : State → State) :
    Frame r.closedFoot s (s.guarded r .pcie k) := by
  unfold State.guarded
  rw [if_pos hc, if_pos (by decide)]
  refine s.discardHost_closed ?_
  split
  · exact r.shutRegs_glb
  · exact List.Subset.refl _

theorem State.outWrite_closed {r : Reg} (hc : s.closedTo r .pcie = true) (n : Nat) (k : State → State) :
    Frame r.closedFoot s (s.outWrite .pcie r n k) :=
  s.guarded_closed hc _

theorem State.pipeStore_closed {r : Reg} (hc : s.closedTo r .pcie = true) (n : Nat) (k : State → State) :
    Frame r.closedFoot s (s.pipeStore .pcie r n k) :=
  s.guarded_closed hc _

/-- The register of the ports of a sender. -/
def SndKind.portReg : SndKind → Reg
  | .video => .EGR_VSND_PORT
  | .audio => .EGR_ASND_PORT
  | .anc => .EGR_XSND_PORT

theorem State.writeSndPort_closed (k : SndKind) (hc : s.closedTo k.portReg .pcie = true) (i : Nat) (v : Word) :
    Frame k.portReg.closedFoot s (s.writeSndPort .pcie k i v) := by
  unfold State.writeSndPort
  cases k
  case video => exact s.guarded_closed hc _
  case audio => exact s.guarded_closed hc _
  case anc => exact s.guarded_closed hc _

theorem State.closedTo_readOnly {r : Reg} (h : r.info.acc = .RO ∨ r.info.acc = .RC) (src : Requester) : s.closedTo r src = false := by
  rcases h with h | h <;> rw [State.closedTo, h]

theorem Reg.hostOpen_of_ownRule {r : Reg} (h : r.ownRule = false) : r.hostOpen = true := by
  rw [Reg.ownRule, Bool.and_eq_false_iff, bne_eq_false_iff_eq, bne_eq_false_iff_eq] at h
  rw [Reg.hostOpen]
  rcases h with h | h
  · rw [h, beq_self_eq_true]
    rfl
  · rw [h, beq_self_eq_true, Bool.or_true]
    rfl

theorem State.closedTo_open {r : Reg} (h : r.hostOpen = true) (ha : r.info.acc = .RW ∨ r.info.acc = .WO ∨ r.info.acc = .W1C)
    (src : Requester) : s.closedTo r src = false := by
  rcases ha with ha | ha | ha <;> rw [State.closedTo, ha, h] <;> exact Bool.and_false _

/-- An interrupt status or enable register is closed to nobody. -/
theorem Reg.ownRule_of_closed {r : Reg} (h : s.closedTo r .pcie = true) : r.ownRule = true := by
  by_contra ho
  have ho : r.ownRule = false := Bool.eq_false_iff.mpr ho
  have hopen := Reg.hostOpen_of_ownRule ho
  rw [Reg.ownRule, Bool.and_eq_false_iff, bne_eq_false_iff_eq, bne_eq_false_iff_eq] at ho
  have hacc : r.info.acc = .RW ∨ r.info.acc = .WO ∨ r.info.acc = .W1C :=
    ho.elim (fun h => .inr (.inr (Blk.intStat_acc h))) fun h => .inl (Blk.intEn_acc h)
  rw [s.closedTo_open hopen hacc] at h
  cases h

/-- A register that is closed to the host is not one that a discarded write changes. -/
theorem Reg.not_mem_closedFoot {r : Reg} (h : s.closedTo r .pcie = true) : r ∉ r.closedFoot.regs := by
  have ho := Reg.ownRule_of_closed s h
  intro hm
  simp only [Reg.closedFoot, Reg.shutRegs, Blk.shutRegs, List.mem_cons, List.mem_append, List.not_mem_nil, or_false, Option.mem_toList] at hm
  rcases hm with rfl | rfl | (rfl | rfl | rfl) | hstat
  · cases h
  · cases h
  · cases h
  · cases h
  · cases h
  · rw [Reg.ownRule, Bool.and_eq_true, bne_iff_ne] at ho
    exact ho.1 hstat

theorem State.writePlain_closed {r : Reg} (hc : s.closedTo r .pcie = true) (i : Nat) (v : Word) :
    Frame r.closedFoot s (s.writePlain .pcie r i v) := by
  unfold State.writePlain
  split
  · rename_i ha
    rw [s.closedTo_readOnly (.inl ha)] at hc
    cases hc
  · rename_i ha
    rw [s.closedTo_readOnly (.inr ha)] at hc
    cases hc
  all_goals exact s.guarded_closed hc _

theorem State.writeData_closed {r : Reg} (hc : s.closedTo r .pcie = true) (e : BusEnv) (i : Nat) (v : Word) :
    Frame r.closedFoot s (s.writeData .pcie e r i v) := by
  have hhealth : ∀ q : Reg, s.closedTo q .pcie = true → Frame q.closedFoot s (s.writePlain .pcie q i v).health := fun q hq =>
    .absorb ⟨show [Part.sent, .host, .egr] ⊆ [.host, .sent, .resp, .egr] by decide,
      by simp [Reg.closedFoot, Reg.shutRegs, Blk.shutRegs]⟩ (s.writePlain_closed hq i v).health
  unfold State.writeData
  split
  case h_28 => exact s.outWrite_closed hc _ _
  case h_29 => exact s.outWrite_closed hc _ _
  case h_30 => exact s.outWrite_closed hc _ _
  case h_31 => exact s.outWrite_closed hc _ _
  case h_34 => exact s.writeSndPort_closed .video hc i v
  case h_37 => exact s.writeSndPort_closed .audio hc i v
  case h_39 => exact s.writeSndPort_closed .anc hc i v
  case h_22 => exact hhealth _ hc
  case h_23 => exact hhealth _ hc
  case h_41 => exact s.writePlain_closed hc i v
  all_goals exact s.guarded_closed hc _

theorem State.writeCores_closed {r : Reg} (hc : s.closedTo r .pcie = true) (e : BusEnv) (i : Nat) (v : Word) :
    Frame r.closedFoot s (s.writeCores .pcie e r i v) := by
  unfold State.writeCores
  split
  case h_29 => exact s.pipeStore_closed hc _ _
  case h_34 => exact s.writePlain_closed hc i v
  all_goals exact s.guarded_closed hc _

theorem State.writeTiming_closed {r : Reg} (hc : s.closedTo r .pcie = true) (e : BusEnv) (i : Nat) (v : Word) :
    Frame r.closedFoot s (s.writeTiming .pcie e r i v) := by
  have htxeq (hq : s.closedTo .WLT_LANE_TXEQ .pcie = true) : Frame Reg.WLT_LANE_TXEQ.closedFoot s (s.writeTxeq .pcie i v) := by
    unfold State.writeTxeq
    split
    · exact .le (by decide) (Frame.refl .none s).answer
    · exact s.guarded_closed hq _
  unfold State.writeTiming
  split
  case h_45 => exact s.writePlain_closed hc i v
  case h_28 => exact htxeq hc
  all_goals exact s.guarded_closed hc _

theorem State.writeKeep_closed {r : Reg} (hc : s.closedTo r .pcie = true) (e : BusEnv) (i : Nat) (v : Word) :
    Frame r.closedFoot s (s.writeKeep .pcie e r i v) := by
  unfold State.writeKeep
  split
  case h_17 => exact absurd hc Bool.false_ne_true
  case h_18 => exact s.discardHost_closed (Reg.shutRegs_glb _)
  case h_19 => exact absurd hc Bool.false_ne_true
  case h_20 => exact absurd hc Bool.false_ne_true
  case h_21 => exact absurd hc Bool.false_ne_true
  case h_24 => exact s.writePlain_closed hc i v
  all_goals exact s.guarded_closed hc _

/-- A write by the host of a register that is closed to it changes nothing but how it is told. -/
theorem State.writeReg_closed {r : Reg} (hc : s.closedTo r .pcie = true) (e : BusEnv) (i : Nat) (v : Word) :
    Frame r.closedFoot s (s.writeReg .pcie e r i v) := by
  have ho := Reg.ownRule_of_closed s hc
  cases hb : r.info.blk
  case ING | TWL | EGR =>
    rw [s.writeReg_data ho (by simp [hb])]
    exact s.writeData_closed hc e i v
  case NIM | TWD | ASP | VMP =>
    rw [s.writeReg_cores ho (by simp [hb])]
    exact s.writeCores_closed hc e i v
  case LST | NTM | WLT | NPT =>
    rw [s.writeReg_timing ho (by simp [hb])]
    exact s.writeTiming_closed hc e i v
  case RSL | AWL | SET | UPD | GLB | BOOT | INS =>
    rw [s.writeReg_keep ho (by simp [hb])]
    exact s.writeKeep_closed hc e i v

theorem State.storeReg_closed {r : Reg} (hc : s.closedTo r .pcie = true) (e : BusEnv) (i a : Nat) (v : Word) :
    Frame r.closedFoot s (s.storeReg .pcie e r i a v) := by
  have hanswer : Frame r.closedFoot s (s.answer .OK) :=
    (Frame.refl .none s).answer.le ⟨show [Part.resp] ⊆ [.host, .sent, .resp, .egr] by decide, List.nil_subset _⟩
  exact hanswer.trans (State.writeReg_closed (s.answer .OK) hc e i v)

/-- A write by the host of a word whose register is closed to it. -/
theorem State.busWrite_closed {r : Reg} (hc : s.closedTo r .pcie = true) {a : Nat} (ha : a % 4 = 0) (hw : winAt a = none) {i : Nat}
    (hr : Reg.ofAddr a = some (r, i, false)) (hn : r.info.wide = false) (e : BusEnv) (v : Word) :
    Frame r.closedFoot s (s.busWrite .pcie e a 2 v) := by
  unfold State.busWrite
  split
  · exact .refl _ s
  · split
    · exact .refl _ s
    · rw [if_neg (by omega), if_pos ⟨rfl, ha⟩, s.store32_reg hw hr hn]
      exact s.storeReg_closed hc e i a _

/-! ### A store of settings by work (R571) -/

theorem State.writePlain_store {r : Reg} (ha : r.info.acc = .RW) {v : Word} (hb : badValue r v = false) (i : Nat) :
    s.writePlain .work r i v = s.store r i v := by
  have ho : s.closedTo r .work = false := by
    rw [State.closedTo, ha]
    rfl
  unfold State.writePlain
  rw [ha]
  exact (s.guarded_of_open ho _).trans (if_neg (by rw [hb]; exact Bool.false_ne_true))

/-- The registers of settings of which the statement speaks are plain ones. -/
theorem Reg.plain_settings {r : Reg} (h : r ∈ [Reg.GLB_TEMP_CFG, .EGR_TAKE_CFG, .TWL_DIR_ACK_TO, .INS_PMBUS_CFG]) :
    r.info.acc = .RW ∧ r.isSet = true ∧ r.info.wide = false ∧ r ∉ Reg.SET_DELTA_USED :: .SET_STATUS :: .GLB_INT_SUM ::
      [.SET_INT_STAT, .RSL_FLASH_WEAR, .RSL_STATUS, .AWL_MERGED, .AWL_STATUS, .INS_RET_STAT, .AWL_LOST, .AWL_INT_STAT,
        .RSL_INT_STAT, .SET_SECTORS] := by
  simp only [List.mem_cons, List.not_mem_nil, or_false] at h
  rcases h with rfl | rfl | rfl | rfl <;> decide

theorem State.writeReg_plain {r : Reg} (h : r ∈ [Reg.GLB_TEMP_CFG, .EGR_TAKE_CFG, .TWL_DIR_ACK_TO, .INS_PMBUS_CFG]) (src : Requester)
    (e : BusEnv) (i : Nat) (v : Word) : s.writeReg src e r i v = s.writePlain src r i v := by
  simp only [List.mem_cons, List.not_mem_nil, or_false] at h
  rcases h with rfl | rfl | rfl | rfl
  · exact s.writeReg_keep (by decide) (by decide) src e i v
  · exact s.writeReg_data (by decide) (by decide) src e i v
  · exact s.writeReg_data (by decide) (by decide) src e i v
  · exact s.writeReg_keep (by decide) (by decide) src e i v

theorem State.startSnap_snapDeltas : s.startSnap.keep.deltas = s.keep.deltas := by
  unfold State.startSnap
  extract_lets pair bank len last from_ sectors start x hit _ u
  have hkeep : (sectors.foldl (fun (s : State) n => s.eraseSector bank (bankSector pair n)) u).keep.snapPart = u.keep.snapPart :=
    foldl_keeps u (fun t : State => t.keep.snapPart) (fun t n => t.eraseSector_snapPart bank (bankSector pair n)) sectors
  obtain ⟨-, -, -, hdeltas⟩ := by simpa only [Store.snapPart, Prod.mk.injEq] using hkeep
  rw [State.setFld_keep, hdeltas]
  rfl

/-- The delta records are shown as they are. -/
theorem State.showDeltas_deltas : s.showDeltas.keep.deltas = s.keep.deltas := by
  unfold State.showDeltas
  extract_lets was n s1 s2
  have h1 : s1.keep = s.keep := State.setFld_keep _ _ _ _
  have h2 : s2.keep = s1.keep := (Frame.refl .none s1).irq.parts .keep (by decide)
  split
  · split
    · rw [h2, h1]
    · rw [State.startSnap_snapDeltas, h2, h1]
  · rw [h1]

/-- The settings store with one more delta record. -/
def State.deltaAdded (s : State) (seq origin : Nat) (pairs : List (Nat × Word)) : State :=
  let d : Delta := ⟨s.keep.nextPos, seq, origin, s.fld F.SET_STATUS_FORMAT 0, pairs⟩
  s.setKeep { s.keep with deltas := s.keep.deltas ++ [d], nextPos := s.keep.nextPos + 1 }

theorem State.writeDelta_eq (seq origin : Nat) (pairs : List (Nat × Word)) :
    s.writeDelta seq origin pairs = (s.deltaAdded seq origin pairs).showDeltas := rfl

/-- A delta record that is written is the last one (R571). -/
theorem State.writeDelta_deltas (seq origin : Nat) (pairs : List (Nat × Word)) : (s.writeDelta seq origin pairs).keep.deltas =
    s.keep.deltas ++ [⟨s.keep.nextPos, seq, origin, s.fld F.SET_STATUS_FORMAT 0, pairs⟩] :=
  State.showDeltas_deltas _

theorem State.writeDelta_keeps (seq origin : Nat) (pairs : List (Nat × Word)) :
    Frame ⟨[.host, .sent, .keep, .awl, .freeCtr], [.SET_DELTA_USED, .SET_STATUS, .GLB_INT_SUM, .SET_INT_STAT, .RSL_FLASH_WEAR, .RSL_STATUS,
      .AWL_MERGED, .AWL_STATUS, .INS_RET_STAT, .AWL_LOST, .AWL_INT_STAT, .RSL_INT_STAT, .SET_SECTORS]⟩ s
      (s.writeDelta seq origin pairs) := by
  rw [State.writeDelta_eq]
  exact .le (by decide) ((Frame.refl .none s).setKeep (x := (s.deltaAdded seq origin pairs).keep)).showDeltas

theorem State.markReg_reg (r q : Reg) (i j : Nat) : (s.markReg r i).reg q j = s.reg q j := rfl

theorem State.markReg_resp (r : Reg) (i : Nat) : (s.markReg r i).resp = s.resp := rfl

theorem State.markReg_delta (r : Reg) (i : Nat) : (s.markReg r i).keep.deltas = s.keep.deltas ∧
    (s.markReg r i).keep.nextPos = s.keep.nextPos := ⟨rfl, rfl⟩

/-- A plain register of settings that is stored by work is marked and recorded (log 102). -/
theorem State.storeReg_settings {r : Reg} (h : r ∈ [Reg.GLB_TEMP_CFG, .EGR_TAKE_CFG, .TWL_DIR_ACK_TO, .INS_PMBUS_CFG]) {v : Word}
    (hb : badValue r v = false) (hf : s.deltasFull = false) (e : BusEnv) (i a : Nat) : s.storeReg .work e r i a v =
      (((s.answer .OK).store r i v).markReg r i).writeDelta e.key.seq e.key.origin [(a, low32 v)] := by
  obtain ⟨hacc, hset, hwide, -⟩ := Reg.plain_settings h
  unfold State.storeReg State.recordStore
  rw [hset, hf, if_neg (by decide), (s.answer .OK).writeReg_plain h, State.writePlain_store _ hacc hb, hwide]
  rfl

/-! ### Reads (R5, R138, R472) -/

theorem State.busRead_word {src : Requester} (h : src ≠ .pcie) {a : Nat} (ha : a % 4 = 0) :
    s.busRead src a 2 = (s.load32 a).answer .OK := by
  unfold State.busRead
  rw [if_neg (by rw [beq_false_of_ne h, Bool.false_and]; decide), s.nimShut_inside h, if_neg (by decide), if_neg (by omega), ha]
  rfl

theorem State.busRead_whole {src : Requester} (h : src ≠ .pcie) {a : Nat} (ha : a % 4 = 0) (hw : wideAt a = true) :
    s.busRead src a 3 = (s.load64 a).answer .OK := by
  unfold State.busRead
  rw [if_neg (by rw [beq_false_of_ne h, Bool.false_and]; decide), s.nimShut_inside h, if_neg (by decide), if_pos ⟨rfl, ha, hw⟩]

theorem State.readReg_plain {r : Reg} (h : r.info.acc = .RW ∨ r.info.acc = .RWB ∨ r.info.acc = .W1C) (i : Nat) :
    s.readReg r i = (s.reg r i, s) := by
  unfold State.readReg
  split
  case h_9 => rcases h with h | h | h <;> rw [h]
  all_goals exact absurd h (by decide)

theorem State.readReg_clear {r : Reg} (h : r.info.acc = .RC) (hne : r ≠ .NTM_CAP_NS) (i : Nat) :
    s.readReg r i = (s.reg r i, s.setReg r i 0) := by
  unfold State.readReg
  split
  case h_9 => rw [h]
  case h_3 => exact absurd rfl hne
  all_goals exact absurd h (by decide)

theorem State.load32_narrow {a : Nat} (hw : winAt a = none) {r : Reg} {i : Nat} (hr : Reg.ofAddr a = some (r, i, false))
    (hn : r.info.wide = false) : s.load32 a = { (s.readReg r i).2 with rdata := low32 (s.readReg r i).1 } := by
  unfold State.load32
  rw [hw, hr]
  exact (if_neg Bool.false_ne_true).trans (if_neg (by rw [hn]; exact Bool.false_ne_true))

theorem State.load32_wide {a : Nat} (hw : winAt a = none) {r : Reg} {i : Nat} (hr : Reg.ofAddr a = some (r, i, false))
    (hn : r.info.wide = true) (h : r.info.acc = .RW) : s.load32 a = { s with
      rdata := low32 (s.reg r i)
      latchHigh := Tbl.set (fun _ => 0) (halfKey r i) (s.reg r i >>> 32) s.latchHigh } := by
  unfold State.load32
  rw [hw, hr]
  dsimp only
  rw [if_neg Bool.false_ne_true, if_pos hn, s.readReg_plain (.inl h)]

theorem wideAt_reg {a : Nat} (hw : winAt a = none) {r : Reg} {i : Nat} (hr : Reg.ofAddr a = some (r, i, false))
    (hn : r.info.wide = true) : wideAt a = true := by
  unfold wideAt
  rw [hw, hr]
  exact Bool.and_eq_true_iff.mpr ⟨hn, rfl⟩

theorem State.load64_reg {a : Nat} (hw : winAt a = none) {r : Reg} {i : Nat} (hr : Reg.ofAddr a = some (r, i, false))
    (h : r.info.acc = .RW) : s.load64 a = { s with rdata := s.reg r i } := by
  unfold State.load64
  rw [hw, hr]
  dsimp only
  rw [s.readReg_plain (.inl h)]

theorem Reg.fit_zero (r : Reg) : r.fit 0 = 0 := by
  rw [Reg.fit]
  split
  · rfl
  · decide

end Sys2Proof.Machine

end

section
/-! O10: clock domains and the block bus. -/

open Sys2Proof Sys2Proof.Machine

/-- Settles O10, clause by clause: the clock domains through their requests, locks and stops, and the accesses of the block bus by
the access code of the register; a store of settings by work appends one delta record with its one pair (log 102). -/
theorem clocksAndTheBlockBus : Obligations.ClocksAndTheBlockBus := by
  unfold Obligations.ClocksAndTheBlockBus
  refine ⟨?stopping, ?running, ?stopped, ?lock, ?noLock, ?retry, ?fails, ?hold, ?wanted, ?stopDone, ?roleHost, ?roleBad, ?role,
    ?noReg, ?readOnly, ?closed, ?settings, ?hostForm, ?readClear, ?readPlain, ?readWhole, ?readLow⟩
  case stopping =>
    intro d s h
    have hexec : exec (.clockDomainRequest d) s = .next (s.requestClk d) := rfl
    have hd : d.val + 1 ≤ Reg.INS_CLK_REQ.width := show d.val + 1 ≤ 32 by omega
    rw [hexec]
    refine .next ⟨?_, s.requestClk_shows hd⟩
    rw [s.requestClk_stopping h, State.setClk_clk]
  case running =>
    intro d s h
    have hexec : exec (.clockDomainRequest d) s = .next (s.requestClk d) := rfl
    rw [hexec]
    exact .next (s.requestClk_running h)
  case stopped =>
    intro d s hall h hp
    let u := (s.setFlag ⟨.INS_CLK_REQ, d, 1⟩ 0 true).setClk d (.waiting 0)
    have hexec : exec (.clockDomainRequest d) s = .next (s.requestClk d) := rfl
    have hd : d.val + 1 ≤ Reg.INS_CLK_REQ.width := show d.val + 1 ≤ 32 by omega
    have hpar : u.fld F.INS_CLK_CFG_PARALLEL 0 = s.fld F.INS_CLK_CFG_PARALLEL 0 :=
      (Frame.refl .none s).setFlag.setClk.fld (show Reg.INS_CLK_CFG ∉ [Reg.INS_CLK_REQ] by decide) 0
    have hstarts : (u.setClk d (.starting 0)).reg .INS_PLL_STARTS 0 = s.reg .INS_PLL_STARTS 0 :=
      (Frame.refl .none s).setFlag.setClk.setClk.regs _ _ (show Reg.INS_PLL_STARTS ∉ [Reg.INS_CLK_REQ] by decide)
    have hreq : s.requestClk d = (u.setClk d (.starting 0)).count .INS_PLL_STARTS 0 1 :=
      (s.requestClk_stopped h).trans (u.serveClks_alone d.isLt (State.setClk_clk _ _ _) (fun e he hed => by
        rw [show u.clk e = s.clk e from State.setClk_clk_ne _ hed _]
        exact hall e he) (by rw [hpar]; exact hp))
    rw [hexec]
    refine .next ⟨?_, s.requestClk_shows hd, ?_⟩
    · rw [hreq, State.count_clk, State.setClk_clk]
    · rw [hreq, State.reg_count_counted]
      exact State.counted_congr hstarts _
  case lock =>
    intro d s h
    let u := (s.setClk d .running).setFlag ⟨.INS_CLK_RUN, d, 1⟩ 0 true
    have hexec : exec (.pllLock d) s = .next u.serveClks := congrArg Host.Outcome.next (if_pos h)
    have hd : d.val + 1 ≤ Reg.INS_CLK_RUN.width := show d.val + 1 ≤ 32 by omega
    have hrun : u.clk d = .running := (State.setFlag_clk _ _ _ _ _).trans (State.setClk_clk _ _ _)
    rw [hexec]
    refine .next ⟨?_, ?_⟩
    · exact (u.serveClks_clk fun n hn => by rw [hrun] at hn; cases hn).trans hrun
    · exact (u.serveClks_keeps.flag (g := ⟨.INS_CLK_RUN, d, 1⟩) (show Reg.INS_CLK_RUN ∉ [Reg.INS_PLL_STARTS] by decide) 0).trans
        (State.flag_setFlag_same _ ⟨.INS_CLK_RUN, d, 1⟩ 0 true hd rfl)
  case noLock =>
    intro d s h
    have hexec : exec (.pllLock d) s = .next s := congrArg Host.Outcome.next (if_neg (by simp [h]))
    rw [hexec]
    exact .next rfl
  case retry =>
    intro d n s h hn
    rw [exec_pllLockTimeout_retry h hn]
    exact .next ⟨(State.count_clk _ _ _ _ _).trans (State.setClk_clk _ _ _), State.reg_count_counted _ _ _ _⟩
  case fails =>
    intro d n s h hn
    let u := (s.setClk d .failed).setFlag ⟨.INS_PLL_FAIL, d, 1⟩ 0 true
    let v := u.event Irq.INS_PLL_FAIL d 0
    have hd : d.val + 1 ≤ Reg.INS_PLL_FAIL.width := show d.val + 1 ≤ 32 by omega
    have hv := (Frame.refl .none u).event (c := Irq.INS_PLL_FAIL) (obj := d) (detail := 0)
    have hfail : v.clk d = .failed := by
      rw [State.clk, hv.parts .boot (by decide)]
      exact State.setClk_clk s d.val .failed
    rw [exec_pllLockTimeout_fails h hn]
    refine .next ⟨?_, ?_, ?_⟩
    · exact (v.serveClks_clk fun n hn => by rw [hfail] at hn; cases hn).trans hfail
    · exact (v.serveClks_keeps.flag (g := ⟨.INS_PLL_FAIL, d, 1⟩) (show Reg.INS_PLL_FAIL ∉ [Reg.INS_PLL_STARTS] by decide) 0).trans
        ((hv.flag (g := ⟨.INS_PLL_FAIL, d, 1⟩) (show Reg.INS_PLL_FAIL ∉ _ by decide) 0).trans
          (State.flag_setFlag_same _ ⟨.INS_PLL_FAIL, d, 1⟩ 0 true hd rfl))
    · rw [v.serveClks_keeps.regs .INS_INT_STAT 0 (by decide)]
      exact u.event_sets Irq.INS_PLL_FAIL rfl (by decide) (by decide) _ _
  case hold =>
    intro d s h hw
    let u := s.setFlag ⟨.INS_CLK_REQ, d, 1⟩ 0 false
    have hexec : exec (.clockHoldExpire d) s = .next (if u.flag ⟨.INS_CLK_FORCE, d, 1⟩ 0 then u else u.setClk d (.stopping false)) :=
      congrArg Host.Outcome.next (if_pos ⟨h, hw⟩)
    have hd : d.val + 1 ≤ Reg.INS_CLK_REQ.width := show d.val + 1 ≤ 32 by omega
    have hreq : u.flag ⟨.INS_CLK_REQ, d, 1⟩ 0 = false := State.flag_setFlag_same _ ⟨.INS_CLK_REQ, d, 1⟩ 0 false hd rfl
    have hforce : u.flag ⟨.INS_CLK_FORCE, d, 1⟩ 0 = s.flag ⟨.INS_CLK_FORCE, d, 1⟩ 0 :=
      State.flag_setFld_ne _ (show Reg.INS_CLK_FORCE ≠ Reg.INS_CLK_REQ by decide) _ _ _
    rw [hexec, hforce]
    cases s.flag ⟨.INS_CLK_FORCE, d, 1⟩ 0
    · exact .next ⟨hreq, State.setClk_clk _ _ _⟩
    · exact .next ⟨hreq, h⟩
  case wanted =>
    intro d s hw
    have hexec : exec (.clockHoldExpire d) s = .next s := congrArg Host.Outcome.next (if_neg (by simp [hw]))
    rw [hexec]
    exact .next rfl
  case stopDone =>
    intro d s h
    have hd : d.val + 1 ≤ Reg.INS_CLK_RUN.width := show d.val + 1 ≤ 32 by omega
    rw [exec_clockStopDone_stopping h]
    exact .next ⟨(State.setFlag_clk _ _ _ _ _).trans (State.setClk_clk _ _ _),
      State.flag_setFlag_same _ ⟨.INS_CLK_RUN, d, 1⟩ 0 false hd rfl⟩
  case roleHost =>
    intro src w s hsrc
    have hexec : exec (.glbRoleWrite src w) s = .next ((s.irq Irq.GLB_PCIE_ERR).count .GLB_PCIE_ERR 0 1) :=
      congrArg Host.Outcome.next (if_pos hsrc)
    have hf := (Frame.refl .none s).irq (c := Irq.GLB_PCIE_ERR)
    rw [hexec]
    refine .next ⟨(hf.count.regs _ _ (by decide)), ?_⟩
    rw [State.reg_count_counted]
    exact State.counted_congr (hf.regs _ _ (by decide)) _
  case roleBad =>
    intro src w s hsrc hrole
    have hexec : exec (.glbRoleWrite src w) s = .next (s.answer .BAD_ARG) :=
      congrArg Host.Outcome.next ((if_neg (by rw [hsrc]; decide)).trans ((if_neg (not_not_intro hsrc)).trans (if_pos hrole)))
    rw [hexec]
    exact .next rfl
  case role =>
    intro src w s hsrc hrole hroutes
    have hexec : exec (.glbRoleWrite src w) s = .next (s.store .GLB_ROLE 0 (w.setWidth 64)) :=
      congrArg Host.Outcome.next ((if_neg (by rw [hsrc]; decide)).trans ((if_neg (not_not_intro hsrc)).trans
        ((if_neg hrole.ne).trans ((if_neg (by rw [hroutes]; simp)).trans (if_neg (by rw [hroutes]; simp))))))
    rw [hexec]
    exact .next ⟨State.reg_store_same _ _ _ _, rfl⟩
  case noReg =>
    intro src addr data env s hsrc ha hw hr
    have hexec : exec (.registerWrite src addr 2 data env) s = .next (s.busWrite src env addr.toNat 2 data) := rfl
    rw [hexec, s.busWrite_word hsrc ha, State.store32, hw, hr]
    exact .next rfl
  case readOnly =>
    intro src addr data env r i s hsrc ha hw hr hn hacc
    have hexec : exec (.registerWrite src addr 2 data env) s = .next (s.busWrite src env addr.toNat 2 data) := rfl
    rw [hexec, s.busWrite_word hsrc ha, s.store32_reg hw hr hn, s.storeReg_readOnly hacc]
    exact .next rfl
  case closed =>
    intro addr data env r i s ha hw hr hn hc
    have hexec : exec (.registerWrite .pcie addr 2 data env) s = .next (s.busWrite .pcie env addr.toNat 2 data) := rfl
    have hf := s.busWrite_closed hc ha hw hr hn env data
    rw [hexec]
    exact .next ⟨hf.regs r i (Reg.not_mem_closedFoot s hc), hf.parts .keep (show Part.keep ∉ [Part.host, .sent, .resp, .egr] by decide)⟩
  case settings =>
    intro addr data env r s ha hw hr hmem hb hfull
    let u := ((s.answer .OK).store r 0 (low32 data)).markReg r 0
    obtain ⟨-, -, hn, hr'⟩ := Reg.plain_settings hmem
    have hexec : exec (.registerWrite .work addr 2 data env) s = .next (s.busWrite .work env addr.toNat 2 data) := rfl
    have hstore : s.busWrite .work env addr.toNat 2 data = u.writeDelta env.key.seq env.key.origin [(addr.toNat, low32 data)] := by
      rw [s.busWrite_word (by decide) ha, s.store32_reg hw hr hn, setWidth_word, s.storeReg_settings hmem hb hfull, low32_low32]
    have hf := u.writeDelta_keeps env.key.seq env.key.origin [(addr.toNat, low32 data)]
    have hstatus : Reg.SET_STATUS ≠ r := fun h => hr' (h ▸ List.mem_cons_of_mem _ List.mem_cons_self)
    have hformat : u.fld F.SET_STATUS_FORMAT 0 = s.fld F.SET_STATUS_FORMAT 0 :=
      congrArg (bits _ _) ((State.markReg_reg _ _ _ _ _).trans (State.reg_store_ne _ hstatus _ _ _))
    obtain ⟨hdeltas, hnext⟩ := ((s.answer .OK).store r 0 (low32 data)).markReg_delta r 0
    rw [hexec, hstore]
    refine .next ⟨(hf.regs r 0 hr').trans ((State.markReg_reg _ _ _ _ _).trans (State.reg_store_same _ _ _ _)),
      (hf.parts .resp (by decide)).trans (State.markReg_resp _ _ _), ?_⟩
    rw [State.writeDelta_deltas, hformat, hdeltas, hnext, State.store_keep, State.answer_keep]
  case hostForm =>
    intro addr size data env s hup hblk hsize
    have hne3 : ¬ (size.val = 3 ∧ addr.toNat % 4 = 0 ∧ wideAt addr.toNat = true) := fun h => by omega
    have hne2 : ¬ (size.val = 2 ∧ addr.toNat % 4 = 0) := fun h => by omega
    have hshut : s.nimShut .pcie (Blk.ofAddr addr.toNat) = false := by
      rw [State.nimShut, beq_false_of_ne hblk]
      rfl
    have hexec : exec (.registerWrite .pcie addr size data env) s = .next (s.count .GLB_PCIE_ERR 0 1) :=
      congrArg Host.Outcome.next ((if_neg (by rw [hup]; decide)).trans ((if_neg (by rw [hshut]; decide)).trans ((if_neg hne3).trans
        ((if_neg hne2).trans (if_pos rfl)))))
    rw [hexec]
    exact .next ⟨State.reg_count_counted _ _ _ _, rfl⟩
  case readClear =>
    intro src addr r i s hsrc ha hw hr hn hacc hne
    have hexec : exec (.readClear src addr 2) s = .next (s.busRead src addr.toNat 2) := rfl
    rw [hexec, s.busRead_word hsrc ha, s.load32_narrow hw hr hn, s.readReg_clear hacc hne]
    refine .next ⟨rfl, ?_, rfl⟩
    exact (s.reg_setReg_same r i 0).trans r.fit_zero
  case readPlain =>
    intro src addr r i s hsrc ha hw hr hn hacc
    have hexec : exec (.readClear src addr 2) s = .next (s.busRead src addr.toNat 2) := rfl
    rw [hexec, s.busRead_word hsrc ha, s.load32_narrow hw hr hn, s.readReg_plain hacc]
    exact .next ⟨rfl, rfl, rfl⟩
  case readWhole =>
    intro src addr r i s hsrc ha hw hr hn hacc
    have hexec : exec (.latchedRead64 src addr true) s = .next (s.busRead src addr.toNat 3) := rfl
    rw [hexec, s.busRead_whole hsrc ha (wideAt_reg hw hr hn), s.load64_reg hw hr hacc]
    exact .next ⟨rfl, rfl, rfl⟩
  case readLow =>
    intro src addr r i s hsrc ha hw hr hn hacc
    have hexec : exec (.latchedRead64 src addr false) s = .next (s.busRead src addr.toNat 2) := rfl
    rw [hexec, s.busRead_word hsrc ha, s.load32_wide hw hr hn hacc]
    exact .next ⟨rfl, Tbl.get_set_same _ _ _ _, rfl⟩

end
